-- ==== Sys2Proof/Word.lean ====
section
/-! DEFINITION. The word types of the module and its plainest arithmetic: the 32-bit register word (R4),
the byte, the two stamps every record carries (R9, R11), and the description of a register field (R6). -/

namespace Sys2Proof

/-- A register word (R4). -/
abbrev Word := BitVec 32

/-- A byte of memory. -/
abbrev Byte := BitVec 8

/-- An angle stamp: the cycle number and the angle in angle counts (R8, R9). -/
structure AStamp where
  cycle : BitVec 32 := 0
  angle : BitVec 32 := 0
  deriving DecidableEq, Repr

/-- A plant time: TAI seconds in 48 bits and nanoseconds (R11). -/
structure PTime where
  sec : BitVec 48 := 0
  ns : BitVec 30 := 0
  deriving DecidableEq, Repr

/-- What every event record carries: a plant time and an angle stamp (R12, R34). -/
structure Stamp where
  pt : PTime := {}
  ang : AStamp := {}
  deriving DecidableEq, Repr

namespace Machine

/-- The access codes of Table 0-3 (R6). -/
inductive Access where
  | ro | rw | wo | w1c | w1s | rc
  deriving DecidableEq, Repr

/-- One field of one register: the byte address of its register, its lowest bit, its width, its access
code and its value after the reset of its domain (R5, R6). -/
structure Field where
  addr : Nat
  lo : Nat
  w : Nat
  acc : Access
  rst : Nat
  deriving DecidableEq, Repr

/-- The key under which the register file holds a field: no two fields share one, because no two
fields share a register and a lowest bit. -/
def Field.key (f : Field) : Nat := 32 * f.addr + f.lo

/-- A register of the map, or an array of them: the address of its first element, the strides and
counts of its indices (outermost first), and its fields as lowest bit, width, access and reset. -/
structure RegDesc where
  base : Nat
  dims : List (Nat × Nat)
  fields : List (Nat × Nat × Access × Nat)
  deriving DecidableEq, Repr

/-- A map from numbers to values: pairs with strictly rising keys. A key that is not listed stands
for the default its reader names. -/
abbrev SMap (α : Type) := List (Nat × α)

end Machine

end Sys2Proof
end

