-- ==== Sys2Proof/Operand.lean ====
section
/-! DEFINITION. The types of the operands that commands carry. -/

namespace Sys2Proof.Machine

/-- Who makes an access: AC0's supervisor partition, a plot's software, the Stitch endpoint on behalf of a
plot for a session whose role mask grants the object (with the SUPERVISOR and SECURITY roles noted), or
a request that came over XL. -/
inductive Req where
  | supervisor
  | plot (p : Fin 8)
  | stitch (p : Fin 8) (sup sec : Bool)
  | partner
  deriving DecidableEq, Repr

/-- A CAN frame as a controller sends or receives it (16_can_fd.md). -/
structure CanFrame where
  id : Nat := 0
  ide : Bool := false
  rtr : Bool := false
  fdf : Bool := false
  brs : Bool := false
  esi : Bool := false
  dlc : Nat := 0
  data : List Byte := []
  deriving DecidableEq, Repr

/-- A COMMIT frame with the number of ticks by which its start of frame lies back (R391, R402). -/
structure CommitFrame where
  frame : CanFrame := {}
  back : Nat := 0
  deriving DecidableEq, Repr

/-- How an attempt to send from a buffer stands (R386): its start of frame has left, arbitration was lost, an error
ended it, or it was acknowledged `back` ticks after its receive edge, with the loop delay of its start of frame and
the one measured between FDF and res (R378, R391). -/
inductive CanAttempt where
  | start
  | lost
  | error
  | acked (back : Nat) (loop : BitVec 8) (tdc : BitVec 7)
  deriving DecidableEq, Repr

/-- The errors of ISO 11898-1:2015 that CAN_FLT names (R380); `arbStuff` is a stuff error of a transmitter in
arbitration, `res` a recessive res bit (R375). -/
inductive CanErr where
  | stuff | form | ack | bit1 | bit0 | crc | arbStuff | res
  deriving DecidableEq, Repr

/-- What a transceiver in selective-wake listen sees (R393). -/
inductive SwkEvent where
  | frame (f : CanFrame)
  | badFrame
  | pattern
  deriving DecidableEq, Repr

/-- What a transceiver reports of dominant levels (R392): its transmit path timed out; the bus stays dominant; the
bus is recessive again. -/
inductive DomEvent where
  | txPath | bus | recessive
  deriving DecidableEq, Repr

/-- A sample word in Pommel SRAM (Table 12-3): cell `g` in set slot `j`; conversion `p` of link `m` in conversion
slot `j`; the reading of temperature sensor `t`. -/
inductive PomSample where
  | cell (j : Fin 16) (g : Fin 4608)
  | conv (j : Fin 16) (m : Fin 4) (p : Fin 16)
  | temp (t : Fin 2304)
  deriving DecidableEq, Repr

/-- What the tracker measures in one reference cycle (R117, R121): frequency in µHz, its rate of change in
µHz/s, fundamental amplitudes in 2 mV, phase error and its RMS in 2^16 ac, negative rotation. -/
structure TrlMeas where
  freq : BitVec 32 := 0
  rocof : BitVec 32 := 0
  ampA : BitVec 10 := 0
  ampB : BitVec 10 := 0
  ampC : BitVec 10 := 0
  pherr : BitVec 16 := 0
  rms : BitVec 16 := 0
  rotAcb : Bool := false
  deriving DecidableEq, Repr

/-- A heartbeat (R36, R196, Table 1-5): mode, SIDE and SLOT; the rings mastered and triggered; the lowest and
highest node in reach on each ring, lowest above highest for none; the LS and DIO channels owned; the plots homed. -/
structure Heartbeat where
  mode : Nat := 0
  side : Nat := 0
  slot : Nat := 0
  rings : Nat := 0
  trig : Nat := 0
  reach : List (Nat × Nat) := []
  ls : Nat := 0
  dio : Nat := 0
  plots : Nat := 0
  /-- the states of the LS and DIO outputs (R489) -/
  lsOn : Nat := 0
  dioOn : Nat := 0
  /-- the digest of the plot tables in force (R473) -/
  digest : Nat := 0
  /-- STATE, GEN and the number of the latest checkpoint of each plot (R488) -/
  plotInfo : List (Nat × Nat × Nat) := []
  /-- STATE, ROUND and LOCAL of network sleep (R408); an activation in progress (R541) -/
  nsState : Nat := 0
  nsRound : Nat := 0
  nsLocal : Bool := false
  activating : Bool := false
  deriving DecidableEq, Repr

/-- A section of a plot image as its bytes decrypt (R483): a virtual core's context, the contents of a region, the
packets of a queue with PRIO and the words' DATA and POISON, or register words by address of type 4 CAN, 5 TRELLIS or
6 CHANNELS. -/
inductive ImgSection where
  | core (index : Nat) (bytes : List Byte)
  | memory (index : Nat) (bytes : List Byte)
  | queue (index : Nat) (packets : List (Nat × List (Word × Bool)))
  | regs (type index : Nat) (words : List (Nat × Nat))
  deriving DecidableEq, Repr

/-- A plot image (Table 20-7): magic and version right, plot, GEN, the first 16 bytes of the plot-table digest, the
stamp of the freeze, the sections before END. -/
structure PlotImage where
  formOk : Bool := true
  plot : Nat := 0
  gen : Nat := 0
  digest : List Byte := []
  st : Stamp := {}
  sections : List ImgSection := []
  deriving DecidableEq, Repr

/-- How the checks of a bank's image come out that need a signature, a key or a digest over the sections (Table 22-4):
KEY_S and SIG_S, SIG_O, each section's digest; and the CRC-32 that the image holds of the Tilth microcode (R264), for which no
rule names a place in the image. -/
structure BankCheck where
  sigS : Bool := true
  sigO : Bool := true
  digests : Bool := true
  ucCrc : BitVec 32 := 0
  deriving DecidableEq, Repr

/-- What a start finds (R495-R498, R507, R536): the attempts that regenerating the root took (0 when all failed) and its
largest correction count, the helper copies that pass their check, the dies that agree with the identity record,
whether the journal ends in an incomplete transaction, the two banks. -/
structure BootCheck where
  attempts : Fin 5 := 1
  maxcorr : BitVec 8 := 0
  helper0 : Bool := true
  helper1 : Bool := true
  dies : BitVec 5 := 31
  torn : Bool := false
  bank0 : BankCheck := {}
  bank1 : BankCheck := {}
  /-- a copy of the bank-select record fails its check and is rewritten from the other (R532) -/
  selBad : Bool := false
  deriving DecidableEq, Repr

/-- What a command that may restart the module, trip Pommel or inject a fault meets outside the module: what the start
finds, which of four proofs of a switch fails (R311), whether the injection fails (R305). -/
structure Envt where
  boot : BootCheck := {}
  stuck : BitVec 4 := 0
  injFail : Bool := false
  deriving DecidableEq, Repr

/-- A wake source of DORM_WAKE_EN (R95); selective wake and the DORMANCY timer have rows of their own. -/
inductive WakeSrc where
  | wakeLine
  | dio (n : Fin 32)
  | eject
  | svcVbus
  deriving DecidableEq, Repr

/-- A Stitch request body (Table 19-3), with the outcome of the signature and tag checks that its owner makes of a
message the value carries (R506, R511, R513). -/
structure StitchReq where
  op : BitVec 8 := 1
  last : Bool := true
  fresh : Bool := false
  index : BitVec 16 := 0
  sub : BitVec 8 := 0
  type : BitVec 8 := 0
  length : BitVec 16 := 0
  offset : BitVec 32 := 0
  data : List Byte := []
  sigOk : Bool := true
  tagOk : Bool := true
  /-- a flash page of an update block fails to program (R534) -/
  progErr : Bool := false
  deriving DecidableEq, Repr

/-- Where a datagram or message arrives (R441, R443): an Ethernet port, or a controller on a plot's identifier. -/
inductive Transport where
  | udp (port : Fin 2)
  | can (ctrl : Fin 8) (plot : Fin 8)
  deriving DecidableEq, Repr

/-- The envelope of a Stitch datagram (R442, R445): its transport, session, SEQ, PRIO, and whether it is well formed and
its tag holds. -/
structure StitchHdr where
  via : Transport := .udp 0
  session : BitVec 16 := 0
  seq : BitVec 32 := 0
  prio : Fin 8 := 0
  wellFormed : Bool := true
  tagOk : Bool := true
  deriving DecidableEq, Repr

/-- Who acts through Stitch: a session's plot and roles (Table 19-6). -/
structure Prin where
  plot : Fin 8 := 0
  roles : BitVec 8 := 0
  deriving DecidableEq, Repr

/-- A frame of Table 19-5a as it arrives. -/
inductive StitchSeg where
  | single (bytes : List Byte)
  | first (len : Nat) (bytes : List Byte)
  | next (sn : Fin 64) (bytes : List Byte)
  | flow (bs stmin : Nat) (abort : Bool)
  deriving DecidableEq, Repr

/-- The width of an access: 1, 2, 4 or 8 bytes. -/
inductive AccSize where
  | byte | half | word | double
  deriving DecidableEq, Repr

/-- What an access does: a read, or a write of a value. -/
inductive AccOp where
  | read
  | write (v : BitVec 64)
  deriving DecidableEq, Repr

/-- A request that arrives over XL (R38, R419, R421): a read, a non-posted write or a posted write. -/
inductive XlReq where
  | read
  | write (v : BitVec 64)
  | posted (v : BitVec 64)
  deriving DecidableEq, Repr

/-- A line receiver: line end A (false) or B (true) of a ring, or a measurement link (R170, R206). -/
inductive Line where
  | lat (c : Fin 12) (endB : Bool)
  | msr (m : Fin 4)
  deriving DecidableEq, Repr

/-- A front end's control reply (R211): a round trip in 2.5 ns, a register read, a register after a write, a NACK. -/
inductive MsrReply where
  | echo (rtt : BitVec 16)
  | readRsp (reg : BitVec 8) (v : BitVec 16)
  | writeAck (reg : BitVec 8) (v : BitVec 16)
  | nack (v : BitVec 16)
  deriving DecidableEq, Repr

end Sys2Proof.Machine
end

