-- ==== Sys2Proof/Syntax.lean ====
section
/-! DEFINITION. The commands of the block: one constructor for every row of spec/opcode_table.json, in the
table's order, with the operands its rules give it. -/

namespace Sys2Proof

open Machine

/-- A command from outside the block, or an event at its pins, links and clocks. -/
inductive Instr where
  /-- VIN_POWER_ON (R79): VIN stays above the start threshold for 1 ms, Girth starts and the module enters SEATING. -/
  | vinPowerOn
  /-- POWER_FAIL_WARNING (R76): VIN stays below the power-fail threshold for 100 µs; outputs go off, SAFE-LS switches open, links are silenced, the record is written and the rails are lowered. -/
  | powerFailWarning
  /-- HOLDUP_OK (R75): Charging of the hold-up store completes and HOLDUP_OK sets. -/
  | holdupOk
  /-- VIN_PATH_CLOSE (R73): With PRES_N asserted and the input capacitance charged, Girth closes the VIN path switch. -/
  | vinPathClose
  /-- FEED_UNDERVOLTAGE (R70): VLA or VLB stays below its undervoltage threshold for 50 µs; the flag sets, switch-on is forbidden and channels are handled under R334. -/
  | feedUndervoltage (feed : Fin 2)
  /-- FEED_RESTORED (R334): A feed is usable again after 10 ms above its threshold; UV_HELD channels restart their profile and UVOFF channels return. -/
  | feedRestored (feed : Fin 2)
  /-- RAIL_WARN (R71): A rail leaves its warning window for 2 µs and its WARN bit sets. -/
  | railWarn (r : Fin 6) (outside : Bool)
  /-- RAIL_FAULT (R71): A rail leaves its fault window for 2 µs; its fault bit sets and the reaction of Table 3-2 follows. -/
  | railFault (r : Fin 6) (high : Bool)
  /-- CLOCK_FAULT (R101): A monitored clock leaves its window for 2 µs or XO stops; CLK_FLT sets and the reaction of Table 4-2 follows. -/
  | clockFault (c : Fin 7) (link : Fin 3)
  /-- PRES_N_ASSERT (R55): Both PRES_N positions read 0 for 5 ms; PRES_N asserts, SIDE and SLOT are read and LS pin sensing starts. -/
  | presNAssert (side : Bool) (slot : Fin 16)
  /-- LS_EXT_SENSE (R83): The 1 ms sensing of the LS output pins ends and LS_EXT_MAP is recorded. -/
  | lsExtSense (map : BitVec 24)
  /-- SEATING_END (R79): With PRES_N asserted, SIDE and SLOT read and all rails in window, the module leaves SEATING for BOOT. -/
  | seatingEnd (e : Envt)
  /-- PRES_N_DEASSERT (R90): Either PRES_N position reads 1 after seating; within 10 µs outputs go off, SAFE-LS switches open, links are silenced and shutdown follows. -/
  | presNDeassert (j2 : Bool)
  /-- SEAT_CHANGE (R56): SIDE or SLOT changes after seating; the latched values are kept and a hardware-fault event is recorded. -/
  | seatChange
  /-- EJECT_N_ASSERT (R79): The filtered EJECT_N edge asserts; from RUN or SERVICE the module enters HANDOFF. -/
  | ejectNAssert (ok : Bool)
  /-- EJECT_N_DEASSERT (R89): The filtered EJECT_N edge deasserts; after EXTRACT_OK the module returns to RUN with STANDBY. -/
  | ejectNDeassert
  /-- HANDOFF_SAFE_LS_OPEN (R87): At least 2 ms after SLS_ARM falls in HANDOFF, the SAFE-LS switches open and EXTRACT_OK holds. -/
  | handoffSafeLsOpen
  /-- HANDOFF_TIMEOUT (R88): HANDOFF_TMO expires without EXTRACT_OK; the handoff is refused and the module returns to RUN. -/
  | handoffTimeout
  /-- BOOT_COMPLETE (R79): Images are verified and loaded and BOOT ends in RUN or SERVICE according to settings format, lifecycle and BOOT_SERVICE. -/
  | bootComplete
  /-- BOOT_TIMEOUT (R79): BOOT exceeds 3 s and the module enters HOLD with cause 0x10. -/
  | bootTimeout
  /-- MODE_REQ_RUN (R80): A mode request with target RUN, checked under R80 and performed under Table 3-5. -/
  | modeReqRun (r : Req) (e : Envt)
  /-- MODE_REQ_SERVICE (R80): A mode request with target SERVICE, accepted from RUN when STANDBY holds or FORCE is set. -/
  | modeReqService (r : Req) (force : Bool) (e : Envt)
  /-- MODE_REQ_BOOT (R80): A mode request with target BOOT starts a warm restart after the outputs are held. -/
  | modeReqBoot (r : Req) (e : Envt)
  /-- MODE_REQ_DORMANCY (R91): A mode request with target DORMANCY enters DORMANCY if the entry conditions hold, and is refused otherwise. -/
  | modeReqDormancy (r : Req) (e : Envt)
  /-- MODE_REQ_HANDOFF (R80): A mode request with target HANDOFF enters HANDOFF from RUN or SERVICE. -/
  | modeReqHandoff (r : Req) (e : Envt)
  /-- WAKE_EVENT (R94): An enabled wake source fires in DORMANCY and the module returns to RUN within 30 ms. -/
  | wakeEvent (src : WakeSrc) (ok : Bool)
  /-- DORM_TIMER_EXPIRY (R97): DORM_TIMER seconds pass in DORMANCY with TIMER armed, which is a wake event. -/
  | dormTimerExpiry (ok : Bool)
  /-- HOLD_RESTART (R82): Girth begins a warm or cold restart of the SoC after HOLD entry, under the restart rules. -/
  | holdRestart (e : Envt)
  /-- COLD_RESTART_RETRY (R82): After three cold restarts in 10 min, Girth attempts one cold restart every 60 s. -/
  | coldRestartRetry (e : Envt)
  /-- AC0_SUPERVISOR_FAULT (R79): An AC0 supervisor fault brings the module to HOLD with cause 0x09. -/
  | ac0SupervisorFault
  /-- ENERGY_INTEGRATE (R98): Every 1 ms Girth integrates the energy of each domain into its counter. -/
  | energyIntegrate (mj : List (BitVec 32)) (vin : BitVec 16) (vla : BitVec 16) (vlb : BitVec 16) (p : BitVec 20)
  /-- ENERGY_LO_READ (R97): A read of ENERGY_LO(b) returns the low word and latches ENERGY_HI(b). -/
  | energyLoRead (b : Fin 13)
  /-- ENERGY_CLR (R97): A write of ENERGY_CLR clears the energy counter of each selected domain. -/
  | energyClr (mask : BitVec 13)
  /-- BLK_RST (R114): A keyed write of BLK_RST resets the selected blocks for 1 µs. -/
  | blkRst (r : Req) (rst : BitVec 14)
  /-- BLK_RESET_RELEASE (R105): A block leaves reset and its crossing completes the start-up handshake. -/
  | blkResetRelease (b : Fin 14)
  /-- HANDSHAKE_TIMEOUT (R105): A crossing handshake gets no acknowledge within 1,024 slower periods; TMO_CNT increments and the crossing stays in reset. -/
  | handshakeTimeout (b : Option (Fin 14))
  /-- D2D_LINK_LOSS (R25): PD1 sees no valid die-to-die frame for 1 ms and turns LS12–LS23 and DIO16–DIO31 off. -/
  | d2dLinkLoss
  /-- MISALIGNED_ACCESS (R4): An access of wrong width or alignment to a block window has no effect and returns a transport-class status. -/
  | misalignedAccess (r : Req) (op : AccOp) (a : BitVec 40) (size : AccSize)
  /-- RESERVED_RANGE_ACCESS (R42): An access to a reserved range returns a transport-class status, with an error record for a posted write. -/
  | reservedRangeAccess (r : Req) (op : AccOp) (a : BitVec 40) (size : AccSize)
  /-- XIP_WRITE (R43): A write to the flash execute-in-place window has no effect and returns an access-class status. -/
  | xipWrite (r : Req) (a : BitVec 26) (v : Word)
  /-- RESET_DOMAIN_ACCESS (R103): An access to a block whose domain is in reset or unclocked returns zero with a hardware-fault status or an error record. -/
  | resetDomainAccess (r : Req) (op : AccOp) (a : BitVec 40)
  /-- REGISTER_WRITE (R5): A write to a register that has no row of its own is checked against writer, access and value rules and applied. -/
  | registerWrite (r : Req) (a : BitVec 40) (v : Word) (e : Envt)
  /-- HEARTBEAT_TX (R36): Every 500 µs the module sends a heartbeat on XL. -/
  | heartbeatTx
  /-- HEARTBEAT_RX (R36): A partner heartbeat arrives carrying mode, mastership, ownership and plot maps. -/
  | heartbeatRx (h : Heartbeat)
  /-- HEARTBEAT_TIMEOUT (R36): No heartbeat for 2 ms; the module takes over if it saw no partner ring traffic, and reports XL lost, partner alive otherwise. -/
  | heartbeatTimeout
  /-- PARTNER_HOLD_TIMEOUT (R36): The partner's heartbeats report HOLD for 2 ms and the module takes over. -/
  | partnerHoldTimeout
  /-- SLS_ARM_RAISE (R61): At least 2 ms after all four SAFE-LS switches conduct, Pommel raises SLS_ARM. -/
  | slsArmRaise
  /-- CYCLE_BOUNDARY (R129): The cycle number increments and the cycle number and plant time are written into TRL_CYC_HIST. -/
  | cycleBoundary (m : TrlMeas)
  /-- NETREF_RX (R120): An angle reference message is received and checked for tag, version, lock, sequence and age. -/
  | netrefRx (tagOk : Bool) (payload : List Byte)
  /-- LOCK_ACQUIRE (R122): The lock criteria hold; Trellis slews out the error, sets LOCK and on first lock writes the cycle number. -/
  | lockAcquire (net : Bool) (err : BitVec 32) (freq : BitVec 32)
  /-- LOCK_LOSS (R123): A loss criterion holds; LOCK_LOST sets and Trellis enters holdover or changes source. -/
  | lockLoss (ampLow : Bool) (freqRange : Bool) (phaseErr : Bool)
  /-- NET_TIMEOUT (R122): No valid angle reference message arrives for TRL_NET_CFG.TMO and NET_LOST sets. -/
  | netTimeout
  /-- SLEW_DONE (R124): The slewed error reaches zero, SLEWING clears and LOCK can set. -/
  | slewDone
  /-- HOLDOVER_LIMIT (R127): Holdover lasts longer than TRL_HO_LIMIT; HO_LONG sets and DEGRADED is reported. -/
  | holdoverLimit
  /-- TRL_NOW_READ (R129): A read of TRL_NOW_ANG returns the angle and latches the cycle number and plant time of the same tick. -/
  | trlNowRead
  /-- SLOT_CTL_WRITE (R132): A write of a slot's control register is checked for partition, ownership and codes; enabling a passed slot follows R135. -/
  | slotCtlWrite (r : Req) (n : Fin 1024) (v : Word)
  /-- TRL_PART_WRITE (R131): A supervisor write of TRL_PART(p) sets a plot's slot partition and clears EN of slots removed from it. -/
  | trlPartWrite (r : Req) (p : Fin 8) (v : Word)
  /-- SLOT_FIRE (R134): A slot reaches its firing point and its action is issued early by its delivery latency. -/
  | slotFire (n : Fin 1024)
  /-- MARK (R136): The MARK action writes an event record only. -/
  | mark (n : Fin 1024)
  /-- LS_ON (R136): The LS_ON action sets a load-switch channel's request through Stirrup. -/
  | lsOn (n : Fin 1024) (offset : Fin 6)
  /-- LS_OFF (R136): The LS_OFF action clears a load-switch channel's request through Stirrup. -/
  | lsOff (n : Fin 1024) (offset : Fin 6)
  /-- DIO_ON (R365): The DIO_ON action sets a DIO output's request through Stirrup. -/
  | dioOn (n : Fin 1024) (offset : Fin 6)
  /-- DIO_OFF (R365): The DIO_OFF action clears a DIO output's request through Stirrup. -/
  | dioOff (n : Fin 1024) (offset : Fin 6)
  /-- DIO_PULSE (R365): The DIO_PULSE action sets a DIO output's request for the pulse width. -/
  | dioPulse (n : Fin 1024) (offset : Fin 6)
  /-- DIO_PULSE_END (R365): The pulse width elapses and the request is cleared unless a host write fell inside the pulse. -/
  | dioPulseEnd (n : Fin 32)
  /-- CAN_LAUNCH (R387): The CAN_LAUNCH action makes an ARMED buffer pending, holds or aborts it at bus-off, or sets NOT_ARMED. -/
  | canLaunch (n : Fin 1024)
  /-- FURROW_POST (R136): The FURROW_POST action writes a one-word packet to its queue as a hardware source. -/
  | furrowPost (n : Fin 1024)
  /-- POW_CLOSE (R141): The POW_CLOSE action energises the entry's coil at the learned advance and starts a measurement. -/
  | powClose (n : Fin 1024) (offset : Fin 6)
  /-- POW_OPEN (R141): The POW_OPEN action de-energises the entry's coil at the learned advance and starts a measurement. -/
  | powOpen (n : Fin 1024) (offset : Fin 6)
  /-- LAT_TRIGGER (R176): The LAT_TRIGGER action launches a trigger sequence from each triggering line end. -/
  | latTrigger (w : Fin 80)
  /-- MSR_POINT (R207): The MSR_POINT action starts the 16 conversion sequences of a set. -/
  | msrPoint
  /-- TILTH_WINDOW (R247): The TILTH_WINDOW action opens a new cycle window at angle 0. -/
  | tilthWindow
  /-- NETREF_SEND (R159): The NETREF_SEND action builds and sends an angle reference message. -/
  | netrefSend
  /-- POW_CFG_WRITE (R140): A write of a POW entry's configuration is checked for EN state and channel ownership. -/
  | powCfgWrite (r : Req) (e : Fin 16) (v : Word)
  /-- POW_OP_WRITE (R143): A host write of POW_OP seeds the operate estimate and clears OP_CNT, winning over that tick's learning update. -/
  | powOpWrite (r : Req) (e : Fin 16) (v : Word)
  /-- POW_REL_WRITE (R143): A host write of POW_REL seeds the release estimate and clears REL_CNT. -/
  | powRelWrite (r : Req) (e : Fin 16) (v : Word)
  /-- POW_AUX_TIMEOUT (R142): No accepted auxiliary edge by the timeout bound; TMO_CNT increments and status 0x0404 is recorded. -/
  | powAuxTimeout (e : Fin 16)
  /-- POW_LEARN_SAVE (R143): Learned POW values are written into the settings area, at most once an hour. -/
  | powLearnSave
  /-- PT_OFFSET_UPDATE (R151): A write of PT_OFS_NS starts a servo update or schedules a step. -/
  | ptOffsetUpdate (r : Req) (ns : Word)
  /-- PT_STEP_APPLY (R154): At the end of the next sample-grid trigger tick, k × 250 µs is subtracted from plant time and the servo enters LOCKING. -/
  | ptStepApply
  /-- PT_SET_GO (R155): A write of GO to PT_SET_CMD steps plant time towards PT_SET, if allowed. -/
  | ptSetGo (r : Req)
  /-- PT_HOLDOVER_TIMEOUT (R152): No accepted update for PT_HO_TMO while LOCKING or LOCKED; the servo enters HOLDOVER. -/
  | ptHoldoverTimeout
  /-- PT_NOW_READ (R165): A read of PT_NOW_NS returns nanoseconds and latches the seconds registers. -/
  | ptNowRead
  /-- ETH_FRAME_RX (R158): A received Ethernet frame is checked, timestamped and written to the receive queue. -/
  | ethFrameRx (p : Fin 2) (frame : List Byte) (fcsOk : Bool) (sub : Fin 40)
  /-- ETH_FRAME_TX (R158): A transmit packet is taken from the port's queue and sent, with its timestamp in the FIFO if requested. -/
  | ethFrameTx (p : Fin 2) (sub : Fin 40)
  /-- ETH_LAUNCH (R159): A frame with LAUNCH set leaves at its launch time, or is dropped or counted late. -/
  | ethLaunch (p : Fin 2) (sub : Fin 40)
  /-- ETH_TXTS_READ (R166): A read of ETH_TXTS_NS returns and removes the head transmit timestamp, latching its other words. -/
  | ethTxtsRead (p : Fin 2)
  /-- CANREF_SYNC (R160): A system slot launches a SYNC frame at a whole multiple of PERIOD. -/
  | canrefSync (i : Fin 8)
  /-- CANREF_FUP (R162): After an acknowledged SYNC, the FUP frame carrying its stamp is sent. -/
  | canrefFup (i : Fin 8)
  /-- CANREF_FUP_ABORT (R162): A FUP unsent 10 ms after SYNC is aborted and MISSED increments. -/
  | canrefFupAbort (i : Fin 8)
  /-- LINK_UP (R170): A receiver sees 32 valid code groups with 4 commas and declares the link up. -/
  | linkUp (l : Line)
  /-- LINK_LOSS (R170): A receiver's input is lost or has 4 of 16 invalid code groups and the link is declared lost. -/
  | linkLoss (l : Line)
  /-- TRAIN_ORIGINATE (R179): At τ + 24 µs each Active line end originates its train. -/
  | trainOriginate
  /-- TRAIN_RX (R182): A train arrives at a line end and its segments are checked and written with marks. -/
  | trainRx (c : Fin 12) (e : Bool) (bytes : List Byte) (abt : Bool)
  /-- SET_DEADLINE (R29): At the next trigger, every sample of the previous set not yet arrived is written STALE and the set is completed. -/
  | setDeadline
  /-- TRIGGER_RX (R197): A line end receives a valid trigger sequence from the partner's end. -/
  | triggerRx (c : Fin 12)
  /-- TRIGGER_ABSENT (R197): No valid trigger has arrived for 4 set periods and the non-master starts triggering from its end. -/
  | triggerAbsent (c : Fin 12)
  /-- MASTERSHIP_LISTEN_END (R195): The 2 ms or 6 ms listen after engine start ends and the module masters each ring on which it heard no trigger. -/
  | mastershipListenEnd
  /-- ENUM_FORCE (R190): LAT_RCMD ENUM_FORCE starts a forced enumeration of a ring. -/
  | enumForce (r : Req) (c : Fin 12)
  /-- ENUM_FILL (R190): LAT_RCMD ENUM_FILL starts a fill enumeration followed by delay measurement. -/
  | enumFill (r : Req) (c : Fin 12)
  /-- REMEASURE (R189): LAT_RCMD REMEASURE starts delay measurement of a ring. -/
  | remeasure (r : Req) (c : Fin 12)
  /-- ACCEPT_MAP (R188): LAT_RCMD ACCEPT_MAP stores the present UIDs as the ring map. -/
  | acceptMap (r : Req) (c : Fin 12)
  /-- PASS (R198): LAT_RCMD PASS offers mastership of a ring to the partner. -/
  | pass (r : Req) (c : Fin 12)
  /-- ENUM_END_RX (R188): An ENUM_END returns and the engine evaluates the reach, completeness and mismatch. -/
  | enumEndRx (c : Fin 12) (e : Bool) (v : BitVec 16)
  /-- ENUM_TIMEOUT (R188): No ENUM_END within 1 ms; the engine retries, and after three failures sets ENUM_MISMATCH. -/
  | enumTimeout (c : Fin 12)
  /-- ECHO_RX (R189): An ECHO returns a round trip that enters the node's delay measurement and COMP update. -/
  | echoRx (c : Fin 12) (e : Bool) (n : Fin 24) (rtt : BitVec 16)
  /-- READ_RSP_RX (R186): A READ_RSP returns a node register value, such as FAULT or UID, and the engine reacts. -/
  | readRspRx (c : Fin 12) (e : Bool) (n : Fin 24) (reg : BitVec 8) (v : BitVec 16)
  /-- WRITE_ACK_RX (R189): A WRITE_ACK confirms a COMP write, which the engine checks. -/
  | writeAckRx (c : Fin 12) (e : Bool) (n : Fin 24) (reg : BitVec 8) (v : BitVec 16)
  /-- NACK_RX (R184): A node answers a control frame with NACK. -/
  | nackRx (_c : Fin 12) (_e : Bool) (_n : Fin 24) (_v : BitVec 16)
  /-- LINK_DOWN_RX (R193): A LINK_DOWN from a node arrives, locating a break and changing the reach. -/
  | linkDownRx (c : Fin 12) (e : Bool) (n : Fin 24)
  /-- RING_PASS_REQUEST (R198): A partner offers a ring pass over XL and the module accepts or refuses it. -/
  | ringPassRequest (c : Fin 12) (seqLast : Fin 40000)
  /-- RING_PASS_ACCEPT_RX (R198): The partner accepts a ring pass and the master triggers only up to SEQ_last. -/
  | ringPassAcceptRx (c : Fin 12)
  /-- RING_PASS_TIMEOUT (R198): No acceptance within 2 ms; the master keeps the ring, sets PASS_FAIL and the handoff is refused. -/
  | ringPassTimeout (c : Fin 12)
  /-- MSR_SYNC_SEND (R207): At t_c − 10 µs the receiver sends the SYNC sequence of a conversion. -/
  | msrSyncSend (m : Fin 4) (p : Fin 16) (w : Fin 160)
  /-- MSR_FRAME_RX (R210): A sample frame is accepted, inverted and clamped and written to Pommel SRAM. -/
  | msrFrameRx (m : Fin 4) (b : List Byte)
  /-- MSR_CONV_DEADLINE (R210): A conversion not in Pommel SRAM by t_c + 15.625 µs is written STALE. -/
  | msrConvDeadline (m : Fin 4)
  /-- MSR_CTRL_REPLY_RX (R211): A front end's control reply (ECHO, READ_RSP, WRITE_ACK or NACK) is received. -/
  | msrCtrlReplyRx (m : Fin 4) (x : MsrReply)
  /-- MSR_REMEASURE (R212): MSR_LCMD REMEASURE starts delay measurement of a link. -/
  | msrRemeasure (r : Req) (m : Fin 4)
  /-- CAP_CTL_WRITE (R216): A write of CAP_CTL enables or disables capture, checking regions and running dumps. -/
  | capCtlWrite (r : Req) (v : Word)
  /-- DUMP_DONE (R221): A capture dump has copied its last set and writes the header. -/
  | dumpDone (j : Fin 32)
  /-- Q_WR (R234): A producer write of Q_WR stores one word with END clear, within credit. -/
  | qWr (r : Req) (q : Fin 64) (data : Word)
  /-- Q_WR_END (R234): A producer write of Q_WR_END stores one word with END set, completing the packet. -/
  | qWrEnd (r : Req) (q : Fin 64) (data : Word)
  /-- Q_PCTL_PRIO (R234): A write of Q_PCTL.PRIO sets the priority of the next packet. -/
  | qPctlPrio (r : Req) (q : Fin 64) (prio : Fin 8)
  /-- POISON_NEXT (R234): A write of POISON_NEXT marks the next word stored as poisoned. -/
  | poisonNext (r : Req) (q : Fin 64)
  /-- ABORT (R234): A write of Q_PCTL.ABORT closes an open packet with a poisoned END word. -/
  | abortCmd (r : Req) (q : Fin 64)
  /-- FLUSH (R233): Q_CMD FLUSH discards the queue contents and revokes every credit. -/
  | flush (r : Req) (q : Fin 64)
  /-- Q_NEXT_READ (R238): A read of Q_NEXT selects the next packet and returns its header. -/
  | qNextRead (r : Req) (q : Fin 64)
  /-- Q_DATA_READ (R238): A read of Q_DATA returns the next word of the selected packet. -/
  | qDataRead (r : Req) (q : Fin 64) (parErr : Bool)
  /-- HW_PACKET_WRITE (R237): A hardware source writes a packet whole, or it is lost without room. -/
  | hwPacketWrite (q : Fin 64) (words : List Word)
  /-- BANK_SWAP (R231): The filling and draining banks swap once their conditions hold. -/
  | bankSwap (q : Fin 64)
  /-- SPILL_CLOSE (R232): The filling bank closes to spill and the spill engine starts copying it. -/
  | spillClose (q : Fin 64)
  /-- SPILL_DONE (R232): A spill copy completes and the bank fills again. -/
  | spillDone (q : Fin 64)
  /-- OPEN_TMO (R236): An open packet receives no word for OPEN_TMO and is aborted with PKT_TMO. -/
  | openTmo (q : Fin 64)
  /-- Q_ENABLE (R229): Setting Q_CFG.EN is checked against overlap, size and base rules. -/
  | qEnable (r : Req) (q : Fin 64) (size : Fin 32) (spill : Bool) (hwprio : Fin 8)
  /-- Q_DISABLE (R242): Clearing Q_CFG.EN discards contents and revokes credits. -/
  | qDisable (r : Req) (q : Fin 64)
  /-- TILTH_START (R249): At the first boundary at least 1 ms after EN is set, Tilth seeds cells and starts. -/
  | tilthStart
  /-- TILTH_FIRST_PASS (R250): A completed set is processed by the first pass: model, residuals, demodulation. -/
  | tilthFirstPass
  /-- TILTH_SECOND_PASS (R283): At least 1 ms later the negated diverse pass processes the same set. -/
  | tilthSecondPass
  /-- CYCLE_WINDOW_CLOSE (R251): A cycle window closes with the first set of the next and the observer update runs. -/
  | cycleWindowClose
  /-- STAT_WINDOW_CLOSE (R248): A statistics window closes and statistics and divergence are computed. -/
  | statWindowClose
  /-- Z_WINDOW_CLOSE (R277): An impedance window closes and impedances are computed for every cell and bin. -/
  | zWindowClose
  /-- BANK_PUBLISH (R258): A result bank is compared, written and published with notices. -/
  | bankPublish (kind : Fin 8) (bad : List (Fin 4608)) (badGroups : List (Fin 252))
  /-- COMMIT (R256): TIL_PCMD COMMIT checks the parameter region and copies it to the working area. -/
  | commit (r : Req)
  /-- TIL_COMMIT_ABORT (R256): TIL_PCMD ABORT withdraws a pending commit. -/
  | tilCommitAbort (r : Req)
  /-- TIL_COMMIT_APPLY (R256): At the first boundary 1 ms after the copy, committed parameters apply and seeds are taken. -/
  | tilCommitApply
  /-- TIL_ENABLE (R266): Setting TIL_CTL.EN is checked and refused with CFG_ERR on a fault. -/
  | tilEnable (r : Req)
  /-- TIL_UC_ADDR_WRITE (R264): A write of TIL_UC_ADDR sets the microcode load address and restarts the CRC. -/
  | tilUcAddrWrite (r : Req) (v : Word)
  /-- TIL_UC_DATA_WRITE (R264): A write of TIL_UC_DATA stores a microcode word and increments the address. -/
  | tilUcDataWrite (r : Req) (v : Word)
  /-- TIL_UC_LOCK (R264): Setting LOCK ends microcode loading. -/
  | tilUcLock (r : Req)
  /-- SWEEP_WINDOW_CLOSE (R289): A sweep window closes and its records are written. -/
  | sweepWindowClose (j : Fin 32) (bad : List (Fin 4608))
  /-- POMMEL_EVALUATE (R302): Pommel evaluates a newly written sample against every protection function. -/
  | pommelEvaluate (x : PomSample) (stuck : BitVec 4)
  /-- TEMP_DUE_CHECK (R561): 12 ms after a due set's trigger, Pommel checks the temperature entry for TSTALE. -/
  | tempDueCheck (t : Fin 2304) (seq : BitVec 16) (stuck : BitVec 4)
  /-- SETSTALE (R302): No set header written for THR; SETSTALE trips. -/
  | setstale (stuck : BitVec 4)
  /-- LOCKSTEP_MISMATCH (R298): The comparator signals an unexpected mismatch and the core-fault reaction follows. -/
  | lockstepMismatch (group : Fin 16)
  /-- DELAY_REG_PARITY (R298): A delay-register parity error without injection gives the delay-register fault reaction. -/
  | delayRegParity
  /-- INJECTION_PASS (R297): Every 64 ms the injection unit tests each compare group and delay register. -/
  | injectionPass (startup : Bool) (fault : Bool) (stuck : BitVec 4)
  /-- PEER_CHECK (R300): In split operation a core finds the other's counter word unchanged for 3 ms and trips with cause PEER. -/
  | peerCheck (stuck : BitVec 4)
  /-- SRAM_ECC_ERROR (R301): A double-bit error in Pommel SRAM makes a sample STALE or is a hardware fault. -/
  | sramEccError (x : Option PomSample)
  /-- TRIP_RESET (R305): The mailbox TRIP_RESET command clears the named latches if their conditions hold. -/
  | tripReset (r : Req) (mask : BitVec 18)
  /-- MANUAL_TRIP (R314): The mailbox MANUAL_TRIP command latches a MANUAL trip on the named switches. -/
  | manualTrip (r : Req) (mask : BitVec 4) (pattern : Fin 8) (stuck : BitVec 4)
  /-- PARAM_WRITE (R314): The mailbox PARAM_WRITE command sets a protection parameter in SERVICE. -/
  | paramWrite (r : Req) (idx : BitVec 8) (sub : BitVec 8) (v : Word)
  /-- PARAM_READ (R314): The mailbox PARAM_READ command returns a protection parameter. -/
  | paramRead (r : Req) (idx : BitVec 8) (sub : BitVec 8)
  /-- INJECT_NOW (R314): The mailbox INJECT_NOW command runs an injection test. -/
  | injectNow (r : Req) (fault : Bool) (stuck : BitVec 4)
  /-- MIRROR_TRIP_RX (R308): A partner trip frame or XL trip message arrives and a MIRROR trip is latched. -/
  | mirrorTripRx (bytes : List Byte) (stuck : BitVec 4)
  /-- SUSPECT_REPORT_RX (R312): Pommel takes a suspect report, counts it and writes an event record. -/
  | suspectReportRx
  /-- SLS_OVERCURRENT (R309): A SAFE-LS channel stays in current limit for 100 µs, opens, and an SLS trip is latched. -/
  | slsOvercurrent (u : Fin 4) (stuck : BitVec 4)
  /-- SLS_CLOSE (R310): All closing conditions hold and Pommel makes the four SAFE-LS switches conducting. -/
  | slsClose
  /-- LS_REQ_ON (R319): A write of LS_REQ.ON sets or clears a channel's request. -/
  | lsReqOn (r : Req) (n : Fin 24) (on : Bool)
  /-- LS_CLEAR (R329): LS_REQ.CLEAR clears a channel's latch and retry count. -/
  | lsClear (r : Req) (n : Fin 24)
  /-- SEGMENT_END (R323): A profile segment's duration elapses and the next segment or steady state begins. -/
  | segmentEnd (n : Fin 24)
  /-- SC (R328): The current reaches I_SC and the channel is cut off, going to RETRY or LATCHED. -/
  | sc (n : Fin 24)
  /-- LIM_TRIP (R323): The current exceeds ILIM for 10 µs in a TRIP segment and the channel is cut off. -/
  | limTrip (n : Fin 24)
  /-- LS_SAMPLE (R331): Every 50 µs the die samples each channel's current and runs I²t and the junction estimator. -/
  | lsSample (n : Fin 24) (cur : BitVec 25) (vout : BitVec 16) (tbank : BitVec 16) (clampMw : BitVec 16) (clampE : BitVec 16) (feedSum : BitVec 16) (limiting : Bool)
  /-- LS_RETRY (R328): DELAY elapses with the junction below 130 °C and the channel switches on again. -/
  | lsRetry (n : Fin 24)
  /-- RETRY_COUNT_RESET (R328): After 10 s in ON without a cut-off, the retry count returns to 0. -/
  | retryCountReset (dio : Bool) (n : Fin 32)
  /-- STAGGER_SWITCH_ON (R330): A waiting switch-on starts once 5 ms have passed since the bank's previous one. -/
  | staggerSwitchOn (b : Fin 4)
  /-- SHED (R318): A feed sum stays above 24 A for 20 ms and the highest-SHED channel is latched off. -/
  | shed (feed : Fin 2)
  /-- OPEN_ON (R326): A conducting channel stays below OL_THR for OL_TIME and OPEN_ON sets. -/
  | openOn (n : Fin 24)
  /-- OPEN_OFF (R326): An off channel's output stays above 4 V for 10 ms and OPEN_OFF sets. -/
  | openOff (n : Fin 24)
  /-- OUT_HIGH (R327): An off channel's output stays above 8 V for 1 ms; EXT_DRIVEN or OUT_HIGH and STUCK set. -/
  | outHigh (n : Fin 24) (sense : Bool)
  /-- BANK_WARN (R332): A bank sensor reaches 135 °C, WARN sets and DEGRADED is reported. -/
  | bankWarn (b : Fin 4)
  /-- BANK_HOT (R332): A bank sensor reaches 150 °C and every conducting channel of the bank is cut off. -/
  | bankHot (b : Fin 4)
  /-- BANK_NORMAL (R332): A bank sensor falls below 125 °C, HOT clears and channels return. -/
  | bankNormal (b : Fin 4)
  /-- LS_SERVICE_ON (R321): An LS_SVC command with ON set switches one channel on for DUR seconds in SERVICE. -/
  | lsServiceOn (r : Req) (n : Fin 24) (dur : BitVec 16)
  /-- LS_SERVICE_OFF (R321): An LS_SVC command with ON clear ends service operation of a channel. -/
  | lsServiceOff (r : Req) (n : Fin 24)
  /-- LS_SERVICE_EXPIRY (R321): DUR seconds of service operation elapse and the channel goes off. -/
  | lsServiceExpiry (n : Fin 24)
  /-- LS_PCHK (R324): A write of LS_PCHK checks a profile and copies it to both dies if valid. -/
  | lsPchk (r : Req) (x : Fin 16)
  /-- LS_PROF_WRITE (R324): A write to a profile word clears its VALID bit. -/
  | lsProfWrite (r : Req) (x : Fin 16) (w : Fin 16) (v : Word)
  /-- LS_PARALLEL_SET (R335): A write of LS_CFG.PAR forms or refuses a parallel group. -/
  | lsParallelSet (r : Req) (n : Fin 24) (par : Fin 4)
  /-- LS_RELEASE_REQUEST (R338): The partner sends a channel for make-before-break release and the module switches its own channel on. -/
  | lsReleaseRequest (n : Fin 24)
  /-- LS_RELEASE_CONFIRM (R338): The partner's confirmation arrives and SHARED sets. -/
  | lsReleaseConfirm (n : Fin 24)
  /-- LS_OVERLAP_END (R338): OVERLAP after confirmation the releasing module turns its channel off. -/
  | lsOverlapEnd (n : Fin 24)
  /-- REL_FAIL (R338): The partner's channel is cut off or in WAIT within 10 ms; the release fails. -/
  | relFail (n : Fin 24)
  /-- WDOG_FRAME_RX (R347): A watchdog frame arrives on a stream line and is checked. -/
  | wdogFrameRx (line : Fin 3) (bytes : List Byte) (gap : Nat)
  /-- STREAM_TIMEOUT (R347): No valid frame within the window maximum, two invalid frames, an early frame or FS_NOW loses the stream. -/
  | streamTimeout (line : Fin 3)
  /-- HOLD_EXPIRY (R349): STR_HOLD_TMO expires and every channel takes its fail-safe code. -/
  | holdExpiry
  /-- PARTNER_TMO_EXPIRY (R350): STR_PARTNER_TMO expires and PARTNER-coded channels go off. -/
  | partnerTmoExpiry
  /-- RECLAIM_EXPIRY (R354): STR_RECLAIM_TMO expires; unreleased held channels take their codes. -/
  | reclaimExpiry
  /-- STR_REL_LS (R353): A write of STR_REL_LS returns load-switch channels to request control. -/
  | strRelLs (r : Req) (map : BitVec 24)
  /-- STR_REL_DIO (R353): A write of STR_REL_DIO returns DIO channels to request control. -/
  | strRelDio (r : Req) (map : BitVec 32)
  /-- DIO_EDGE_ACCEPT (R362): The raw level stays opposite for DEB µs, the edge is accepted and stamped and a record posted. -/
  | dioEdgeAccept (n : Fin 32)
  /-- WIRE_BREAK (R363): An input's current stays below the wire-break threshold for 10 ms. -/
  | wireBreak (n : Fin 32)
  /-- WIRE_RESTORED (R363): An input's current stays above the restored threshold for 10 ms and WIRE_BREAK clears. -/
  | wireRestored (n : Fin 32)
  /-- DIO_REQ_ON (R365): A write of DIO_REQ.ON sets or clears an output's request. -/
  | dioReqOn (r : Req) (n : Fin 32) (on : Bool)
  /-- DIO_CLEAR (R366): DIO_REQ.CLEAR clears an output's latch and retry count. -/
  | dioClear (r : Req) (n : Fin 32)
  /-- DIO_LIMIT (R366): An output stays in current limit for LIM_TIME and is cut off. -/
  | dioLimit (n : Fin 32)
  /-- DIO_THERM (R366): An output reaches its overtemperature threshold and is cut off. -/
  | dioTherm (n : Fin 32)
  /-- DIO_RETRY (R366): 100 ms after a cut-off an output switches on again or latches. -/
  | dioRetry (n : Fin 32)
  /-- DIO_READBACK_FAULT (R367): The readback disagrees with the command for 1 ms and OUT_HIGH or OUT_LOW sets. -/
  | dioReadbackFault (n : Fin 32)
  /-- DIO_OPEN_ON (R367): A conducting output draws below 2 mA for 100 ms and OPEN_ON sets. -/
  | dioOpenOn (n : Fin 32)
  /-- DIO_SERVICE_ON (R369): A DIO_SVC command switches one output on for DUR seconds in SERVICE. -/
  | dioServiceOn (r : Req) (n : Fin 32) (dur : BitVec 16)
  /-- DIO_SERVICE_EXPIRY (R369): The DIO service duration elapses and the output goes off. -/
  | dioServiceExpiry (n : Fin 32)
  /-- FCL_CHANGE (R240): A flow-control line changes and DIO outputs following it change within 2 µs. -/
  | fclChange (l : Fin 8)
  /-- CAN_FRAME_RX (R388): A valid received frame is stamped, filtered and delivered to plot queues, the gateway and Pommel. -/
  | canFrameRx (i : Fin 8) (f : CanFrame) (back : Nat) (stuck : BitVec 4)
  /-- CAN_TXB_REQ (R386): REQ makes a transmit buffer PENDING, or ARMED if time-triggered. -/
  | canTxbReq (r : Req) (i : Fin 8) (b : Fin 64)
  /-- CAN_TXB_ABORT (R386): ABORT ends a buffer's transmission as ABORTED. -/
  | canTxbAbort (r : Req) (i : Fin 8) (b : Fin 64)
  /-- CAN_TX_DONE (R386): A frame attempt ends, acknowledged as SENT or failing under one-shot or error rules. -/
  | canTxDone (i : Fin 8) (b : Fin 64) (a : CanAttempt)
  /-- CAN_ERROR (R380): A bus error updates TEC and REC and may change the controller state or enter bus-off. -/
  | canError (i : Fin 8) (e : CanErr) (tx : Bool) (heavy : Bool)
  /-- RECOVER (R381): A RECOVER command starts bus-off recovery. -/
  | recover (r : Req) (i : Fin 8)
  /-- RECOVERY_COMPLETE (R381): 128 × 11 recessive bits are seen; the controller becomes error-active and held buffers return. -/
  | recoveryComplete (i : Fin 8)
  /-- ABORT_ALL (R396): CAN_CMD ABORT_ALL aborts every plot buffer of a controller. -/
  | abortAll (r : Req) (i : Fin 8)
  /-- TT_MISS (R387): A launched buffer has not started within TT_WIN bit times and is aborted. -/
  | ttMiss (i : Fin 8) (b : Fin 64)
  /-- BUS_DOM (R392): The bus or transmit path stays dominant for 3 to 10 ms; the transceiver releases it and a record is written. -/
  | busDom (i : Fin 8) (e : DomEvent)
  /-- SELECTIVE_WAKE (R393): A transceiver in selective-wake listen sees a wake frame, pattern or error count and wakes the module. -/
  | selectiveWake (i : Fin 8) (ev : SwkEvent) (ok : Bool)
  /-- ROUND_START (R401): The initiator starts a consent round by sending TOKEN. -/
  | roundStart
  /-- TOKEN_RX (R401): A TOKEN arrives and a participant consents and forwards it or sends ABORT. -/
  | tokenRx (f : CanFrame)
  /-- COMMIT_RX (R402): A COMMIT arrives and the participant opens its commit window. -/
  | commitRx (f : CommitFrame)
  /-- ABORT_RX (R403): An ABORT sleep frame arrives and the round or window is abandoned. -/
  | abortRx (f : CanFrame)
  /-- WAKE_RX (R403): A WAKE sleep frame arrives and aborts a window or entry. -/
  | wakeRx (f : CanFrame)
  /-- ROUND_TMO (R401): A round gets no COMMIT or ABORT within ROUND_TMO and ends. -/
  | roundTmo
  /-- COMMIT_WINDOW_END (R404): The commit window ends; the module enters ENTERING and requests DORMANCY. -/
  | commitWindowEnd
  /-- WAKE_LINE_LOW (R406): WAKE stays low for 50 µs and WAKE_LOW sets. -/
  | wakeLineLow (ok : Bool)
  /-- WAKE_LINE_HIGH (R406): WAKE stays high for 50 µs and WAKE_LOW clears. -/
  | wakeLineHigh
  /-- PULSE (R407): NS_CMD PULSE drives WAKE low for WAKE_PULSE ms. -/
  | pulse (r : Req)
  /-- WAKEFRAME (R407): NS_CMD WAKEFRAME sends a WAKE frame on the sleep bus. -/
  | wakeframe (r : Req)
  /-- WAKE_PULSE_END (R407): The WAKE pulse duration ends and the module releases the line. -/
  | wakePulseEnd
  /-- BRIDLE_READ (R414): A read is carried to its target, locally or over XL, and completes with data and status. -/
  | bridleRead (r : Req) (a : BitVec 40) (size : AccSize) (prio : Fin 8) (unc : Bool)
  /-- BRIDLE_NONPOSTED_WRITE (R414): A write to a class N range completes when the target applies or refuses it. -/
  | bridleNonpostedWrite (r : Req) (a : BitVec 40) (size : AccSize) (v : BitVec 64) (prio : Fin 8) (e : Envt)
  /-- BRIDLE_POSTED_WRITE (R414): A write to a class P range completes once Bridle accepts it. -/
  | bridlePostedWrite (r : Req) (a : BitVec 40) (size : AccSize) (v : BitVec 64) (prio : Fin 8) (unc : Bool) (e : Envt)
  /-- RSP_TIMEOUT (R417): A read or non-posted write has no response within RSP_TMO and completes with 0x0410. -/
  | rspTimeout (tag : Nat)
  /-- RETRY_RX (R418): The far side answers RETRY and the request is resent after RETRY_INT or ends at RETRY_MAX. -/
  | retryRx (tag : Nat)
  /-- XL_INBOUND_REQUEST (R421): An inbound XL request is checked against local tables, served, refused or answered RETRY. -/
  | xlInboundRequest (tag : Nat) (i : Fin 9) (gen : Nat) (page : Bool) (a : BitVec 40) (size : AccSize) (q : XlReq) (unc : Bool) (e : Envt)
  /-- FAILURE_NOTICE_RX (R420): A failure notice for a posted write arrives and an error record is written. -/
  | failureNoticeRx (num : Nat) (status : BitVec 16)
  /-- XL_LINK_LOSS (R425): XL is lost; outstanding transactions complete with 0x0111 and posted writes fail with 0x0112. -/
  | xlLinkLoss
  /-- FENCE_GO (R423): A write of GO to BR_FENCE starts a fence over earlier posted writes. -/
  | fenceGo (r : Req) (p : Fin 9)
  /-- FENCE_COMPLETE (R423): Every covered write is applied or failed, or 10 × RSP_TMO passes, and the fence completes. -/
  | fenceComplete (p : Fin 9)
  /-- STITCH_FENCE (R424): A Stitch write of br.fence.p sets BR_TAG and starts a fence, replying on completion. -/
  | stitchFence (n : Fin 33) (seq : BitVec 32) (prio : Fin 8) (p : Fin 8) (tag : BitVec 16)
  /-- GW_COMMIT (R431): GW_CMD COMMIT checks the staging tables. -/
  | gwCommit (r : Req)
  /-- GW_TABLE_ACTIVATE (R432): At the next 1 ms boundary the committed table becomes active and is initialised. -/
  | gwTableActivate
  /-- GW_PERIOD_EXPIRY (R433): A periodic destination frame's PERIOD elapses and it falls due. -/
  | gwPeriodExpiry (d : Fin 32)
  /-- GW_INHIBIT_END (R433): INHIBIT ends and a deferred destination frame is sent. -/
  | gwInhibitEnd (d : Fin 32)
  /-- GW_SOURCE_TIMEOUT (R434): A source frame has not matched for TMO and enters TIMEOUT. -/
  | gwSourceTimeout (f : Fin 32)
  /-- OPEN (R443): A Stitch OPEN is checked and answered with OPEN_ACK, deriving the session key. -/
  | openSession (h : StitchHdr) (cred : BitVec 16) (nc : BitVec 256)
  /-- READ (R447): A Stitch READ request is checked and answered with data or a piece of a snapshot. -/
  | read (h : StitchHdr) (q : StitchReq)
  /-- WRITE (R448): A Stitch WRITE request is checked, assembled if in pieces and applied. -/
  | write (h : StitchHdr) (q : StitchReq) (e : Envt)
  /-- NOP (R446): A Stitch NOP request is answered. -/
  | nop (h : StitchHdr) (q : StitchReq)
  /-- CLOSE (R444): A Stitch CLOSE closes the session and is confirmed. -/
  | close (h : StitchHdr)
  /-- CLEAR_MODE_REQUEST (R516): A clear-mode UDP request with SESSION 0 is served within the reach of Table 21-12. -/
  | clearModeRequest (port : Fin 2) (seq : BitVec 32) (prio : Fin 8) (q : StitchReq) (e : Envt)
  /-- SESSION_IDLE_TIMEOUT (R444): No valid request for IDLE seconds and the session closes. -/
  | sessionIdleTimeout (n : Fin 33)
  /-- ASSEMBLY_TIMEOUT (R448): A write assembly has no piece for 10 s and is discarded. -/
  | assemblyTimeout (n : Fin 72)
  /-- SNAPSHOT_TIMEOUT (R447): A read snapshot is released after 10 s. -/
  | snapshotTimeout (n : Fin 72)
  /-- CAN_SEGMENT_RX (R451): A Stitch CAN frame (SINGLE, FIRST, NEXT or FLOW) is received and reassembly advances. -/
  | canSegmentRx (i : Fin 8) (p : Fin 8) (g : StitchSeg)
  /-- SEGMENT_TIMEOUT (R451): No FLOW or NEXT within 100 ms; the transfer is abandoned with 0x0402. -/
  | segmentTimeout (i : Fin 8) (p : Fin 8) (tx : Bool)
  /-- LOCAL_REQUEST (R452): A plot's local-port request packet is served with its local roles. -/
  | localRequest (p : Fin 8) (v : StitchReq) (e : Envt)
  /-- PLOT_ANSWER_RX (R453): A plot answers a forwarded plot-private request and the reply is returned. -/
  | plotAnswerRx (p : Fin 8)
  /-- FORWARD_TIMEOUT (R453): A plot does not answer a forwarded request within 1 s and 0x0403 is returned. -/
  | forwardTimeout (k : Nat)
  /-- SETTINGS_STORE (R457): A written RWP value is stored in the settings area and settings.pending clears. -/
  | settingsStore
  /-- SETTINGS_DEFAULTS (R461): A write of 0xD0D0 in SERVICE makes every class P object take its default at next BOOT. -/
  | settingsDefaults (v : BitVec 16)
  /-- JOB_KIND_WRITE (R462): A write of job.j.kind claims or frees a job slot. -/
  | jobKindWrite (j : Fin 32) (p : Prin) (kind : BitVec 8)
  /-- START (R463): A job START runs the owner's checks and moves the job to RUNNING or QUEUED. -/
  | start (j : Fin 32) (p : Prin) (sigOk : Bool) (tagOk : Bool)
  /-- SUSPEND (R463): A job SUSPEND suspends a suspendable RUNNING job. -/
  | suspend (j : Fin 32) (p : Prin)
  /-- RESUME (R463): A job RESUME returns a SUSPENDED job to RUNNING or QUEUED. -/
  | resume (j : Fin 32) (p : Prin)
  /-- CANCEL (R463): A job CANCEL runs the owner's cancel step and ends the job CANCELLED. -/
  | cancel (j : Fin 32) (p : Prin)
  /-- JOB_DEQUEUE (R464): A place of its kind frees and the oldest QUEUED job starts. -/
  | jobDequeue (kind : Fin 9)
  /-- JOB_DONE (R463): A job's work completes and it ends DONE, posting a notice. -/
  | jobDone (j : Fin 32) (part : Bool)
  /-- JOB_FAILED (R463): A job's owner failure condition ends it FAILED. -/
  | jobFailed (j : Fin 32) (lane : Bool) (stuck : BitVec 4)
  /-- PLOT_TABLES_COMMIT (R471): A plot-table commit checks the whole set and applies it to unused or stopped plots. -/
  | plotTablesCommit (r : Req)
  /-- WINDOW_BOUNDARY (R475): A time-plan window boundary interrupts a core and the supervisor switches owner. -/
  | windowBoundary (c : Fin 4) (w : Option (Fin 16))
  /-- ACCESS_VIOLATION (R473): A plot access outside its regions is refused, counted and latched. -/
  | accessViolation (p : Fin 8) (addr : BitVec 40) (write : Bool)
  /-- PC_WDOG_KICK (R477): A write of 0x4B1D to PC_WDOG restarts the plot watchdog. -/
  | pcWdogKick (r : Req) (p : Fin 8) (v : Word)
  /-- PLOT_WDOG_EXPIRY (R477): No watchdog write within WDOG_TMO is a plot fault. -/
  | plotWdogExpiry (p : Fin 8)
  /-- PLOT_START (R478): Plot command START moves a STOPPED plot to STARTING. -/
  | plotStart (r : Req) (p : Fin 8)
  /-- PLOT_STOP (R478): Plot command STOP runs the reset and ends in STOPPED. -/
  | plotStop (r : Req) (p : Fin 8)
  /-- PLOT_RESET (R480): Plot command RESET quiesces, squashes, drains, scrubs and restarts the plot. -/
  | plotReset (r : Req) (p : Fin 8)
  /-- RESET_DRAIN_DONE (R480): A plot reset's drained classes complete or time out, and scrub and completion follow. -/
  | resetDrainDone (p : Fin 8)
  /-- FREEZE (R482): Plot command FREEZE quiesces the plot and drains its posted writes. -/
  | freeze (r : Req) (p : Fin 8)
  /-- FREEZE_DONE (R482): A freeze's drain completes and the plot is FROZEN. -/
  | freezeDone (p : Fin 8)
  /-- THAW (R482): Plot command THAW resumes a FROZEN plot. -/
  | thaw (r : Req) (p : Fin 8)
  /-- CHECKPOINT (R488): Plot command CHECKPOINT sends a checkpoint of the plot to the partner. -/
  | checkpoint (r : Req) (p : Fin 8)
  /-- CHECKPOINT_TIMER (R488): CKPT seconds elapse and a checkpoint is sent. -/
  | checkpointTimer (p : Fin 8)
  /-- IMAGE_RESTORE (R484): A plot image is checked and restored into the plot's resources. -/
  | imageRestore (img : PlotImage) (tagOk : Bool)
  /-- MIGRATE_CONFIRM_RX (R486): The partner's restore confirmation arrives; the migration ends DONE and channels are released. -/
  | migrateConfirmRx (p : Fin 8) (code : BitVec 16)
  /-- TAMPER_DETECT (R518): A tamper source fires; keys are zeroised, the module enters QUARANTINE and the log and erase follow. -/
  | tamperDetect (source : Fin 7) (detail : BitVec 16)
  /-- TAMPER_ERASE_DONE (R518): The erase of helper copies and journal completes and ERASE_DONE is logged. -/
  | tamperEraseDone
  /-- LIFECYCLE_MESSAGE (R511): A lifecycle message is checked and its operation performed. -/
  | lifecycleMessage (bytes : List Byte) (sigOk : Bool) (e : Envt)
  /-- PROVISION (R510): A provisioning write in BLANK enrols the root, loads slots 1 and 2 and blows the PROVISIONED fuse. -/
  | provision (bytes : List Byte) (e : Envt)
  /-- DEBUG_TOKEN (R513): A debug token is checked and opens the SCOPED or FULL level. -/
  | debugToken (bytes : List Byte) (sigOk : Bool)
  /-- AWL_OPEN (R512): The Awl OPEN instruction raises the level to FULL in BLANK or RETIRED. -/
  | awlOpen
  /-- DEBUG_CLOSE (R515): CLOSE returns the debug level to SEALED. -/
  | debugClose (e : Envt)
  /-- TOKEN_EXPIRY (R515): Plant time passes NOT_AFTER and the debug level returns to SEALED. -/
  | tokenExpiry
  /-- COUNTER_INCREMENT (R504): A command increment of a monotonic counter appends a record. -/
  | counterIncrement (r : Req) (i : Fin 8)
  /-- GRAFT_BLOCK_WRITE (R534): A Stitch block write programs pages of the spare bank. -/
  | graftBlockWrite (data : List Byte) (progErr : Bool)
  /-- SVC_BLOCK (R534): A USB bulk block is checked and programmed into the spare bank. -/
  | svcBlock (bytes : List Byte) (progErr : Bool)
  /-- BANK_ERASE_DONE (R533): The spare bank erase completes and the bank is LOADING. -/
  | bankEraseDone (ok : Bool)
  /-- ACTIVATION_PROCEED (R542): After the 2 ms heartbeat wait, activation writes the bank select, holds outputs and enters BOOT. -/
  | activationProceed (e : Envt)
  /-- XL_LINK_TRAINED (R85): XL finishes training, XL_STAT.LINK sets, and the module can become a span member and carry XL traffic. -/
  | xlLinkTrained
  /-- ETH_LINK_UP (R159): An Ethernet port's link comes up, ETH_STAT.LINK sets, and ETH0 resumes sending angle reference messages. -/
  | ethLinkUp (p : Fin 2)
  /-- ETH_LINK_DOWN (R159): An Ethernet port loses its link, ETH_STAT.LINK clears, and angle reference messages move to ETH1. -/
  | ethLinkDown (p : Fin 2)
  /-- CAN_BUS_INTEGRATE (R379): A controller sees 11 consecutive recessive bits, integrates and sets CAN_STAT.SYNCED. -/
  | canBusIntegrate (i : Fin 8)
  /-- DIO_RAW_TRANSITION (R362): A DIO input's raw level changes, recording the stamp of the first transition or restarting the debounce run. -/
  | dioRawTransition (n : Fin 32) (level : Bool)
  /-- RC_FIELD_READ (R6): A read of a register with RC fields returns the value and then clears those fields. -/
  | rcFieldRead (r : Req) (a : BitVec 40)
  /-- DIO_EDGE_CYC_READ (R373): A read of DIO_EDGE_CYC returns the cycle number and latches the angle and plant-time edge registers. -/
  | dioEdgeCycRead (n : Fin 32)
  /-- LAT_CONTROL_WINDOW (R184): The control window of a set opens at τ + 222 µs, and line ends launch their pending control frames (PING, READ, WRITE). -/
  | latControlWindow
  /-- XL_RESPONSE_RX (R414): A response to a read or non-posted write arrives over XL and completes the request at its issuer, unless the generation is older. -/
  | xlResponseRx (tag : Nat) (status : BitVec 16) (data : BitVec 64)
  /-- XL_POSTED_ACK_RX (R423): A partner acknowledgement of posted writes arrives over XL, returns credit and marks the writes applied for fences. -/
  | xlPostedAckRx (count : Fin 65)
  /-- CHECKPOINT_RX (R488): A checkpoint image completes in the partner's checkpoint area and replaces the plot's previous checkpoint, or a partial one is discarded. -/
  | checkpointRx (num : Nat) (img : PlotImage) (complete : Bool)
  /-- MIRROR_RESET_RX (R308): A partner reset frame or XL reset message arrives, allowing the mirrored trip with the same SEQ to be reset. -/
  | mirrorResetRx (bytes : List Byte)
  /-- DORMANCY_ENTRY_COMPLETE (R92): The last rail of the DORMANCY entry sequence falls, entry is complete, and a wake can no longer abandon it. -/
  | dormancyEntryComplete
  /-- SHUTDOWN_COMPLETE (R90): The shutdown after a PRES_N loss or power-fail completes with VIN still present, and the module starts again in SEATING. -/
  | shutdownComplete
  /-- STITCH_ADDRESS_APPLY (R461): 100 ms after the reply to an address or gateway write, the new IP address or gateway takes effect. -/
  | stitchAddressApply (k : Fin 4)
  /-- SVC_VBUS_CHANGE (R534): VBUS appears at or leaves SVC, and the module enumerates as, or stops being, a USB device for block transfer. -/
  | svcVbusChange (present : Bool) (ok : Bool)
  deriving DecidableEq, Repr

end Sys2Proof
end

