-- ==== Sys2Proof/Decode.lean ====
section
/-! DEFINITION. Decoding by table words. spec/opcode_table.json gives no row any bits (every row's field
list is empty), so no word spells a command (log entry 12). -/

namespace Sys2Proof

/-- The command that a word spells by the table's bits: none, since the table gives no row bits. -/
def decodeTableWord (_nbits _w : Nat) : Option Instr := none

end Sys2Proof
end

