-- ==== Sys2Proof/Machine/CosTable.lean ====
section
/-! DEFINITION. The cosine table of Tilth (R275): C[j] = round(32767 · cos(2πj/4096)), a quarter wave of 1,025
entries of 16 bits packed 128 to a number, least significant first. -/

namespace Sys2Proof.Machine

/-- Entries 0 to 127. -/
def cosRow0 : Nat :=
  0x7d937d9d7da67db07db97dc37dcc7dd57ddf7de87df17dfa7e027e0b7e147e1d7e257e2e7e367e3e7e477e4f7e577e5f7e677e6f7e777e7e7e867e8d7e957e9c7ea47eab7eb27eb97ec07ec77ece7ed57edc7ee27ee97eef7ef67efc7f027f097f0f7f157f1b7f217f267f2c7f327f377f3d7f427f487f4d7f527f577f5c7f617f667f6b7f707f747f797f7d7f827f867f8a7f8f7f937f977f9b7f9f7fa27fa67faa7fad7fb17fb47fb87fbb7fbe7fc17fc47fc77fca7fcd7fd07fd27fd57fd87fda7fdc7fdf7fe17fe37fe57fe77fe97feb7fec7fee7ff07ff17ff37ff47ff57ff67ff77ff87ff97ffa7ffb7ffc7ffd7ffd7ffe7ffe7ffe7fff7fff7fff7fff

/-- Entries 128 to 255. -/
def cosRow1 : Nat :=
  0x76547667767a768d76a076b376c676d876eb76fe77107722773577477759776b777d778f77a177b377c577d777e877fa780b781d782e783f7850786278737884789478a578b678c778d778e878f87909791979297939794a795a796a79797989799979a979b879c879d779e679f67a057a147a237a327a417a507a5f7a6d7a7c7a8b7a997aa87ab67ac47ad27ae07aee7afc7b0a7b187b267b337b417b4f7b5c7b697b777b847b917b9e7bab7bb87bc57bd27bde7beb7bf87c047c107c1d7c297c357c417c4d7c597c657c717c7d7c887c947c9f7cab7cb67cc17ccd7cd87ce37cee7cf97d047d0e7d197d247d2e7d397d437d4d7d577d627d6c7d767d807d89

/-- Entries 256 to 383. -/
def cosRow2 : Nat :=
  0x6a896aa46ac06adc6af86b136b2f6b4a6b656b816b9c6bb76bd26bed6c086c236c3e6c596c746c8e6ca96cc36cde6cf86d136d2d6d476d616d7b6d956daf6dc96de36dfd6e166e306e4a6e636e7c6e966eaf6ec86ee16efb6f146f2c6f456f5e6f776f906fa86fc16fd96ff2700a7022703a7053706b7083709b70b270ca70e270fa7111712971407158716f7186719d71b471cb71e271f972107227723e7254726b7281729872ae72c472db72f17307731d73337349735e7374738a739f73b573ca73e073f5740a74207435744a745f74747488749d74b274c674db74f075047518752d754175557569757d759175a575b875cc75e075f37607761a762d7641

/-- Entries 384 to 511. -/
def cosRow3 : Nat :=
  0x5aa55ac95aec5b0f5b335b565b795b9c5bbf5be25c055c285c4b5c6e5c915cb35cd65cf95d1b5d3e5d605d825da55dc75de95e0b5e2d5e4f5e715e935eb55ed75ef85f1a5f3c5f5d5f7f5fa05fc25fe36004602560476068608960aa60cb60eb610c612d614e616e618f61af61d061f06211623162516271629162b162d162f16311633163516370639063af63cf63ee640e642d644c646c648b64aa64c964e86507652565446563658265a065bf65dd65fc661a663866566675669366b166cf66ed670a6728674667646781679f67bc67da67f768146832684f686c688968a668c368e068fc691969366952696f698b69a869c469e069fd6a196a356a516a6d

/-- Entries 512 to 639. -/
def cosRow4 : Nat :=
  0x47464770479a47c347ed481648404869489348bc48e5490f49384961498a49b449dd4a064a2f4a584a804aa94ad24afb4b244b4c4b754b9d4bc64bee4c174c3f4c684c904cb84ce04d094d314d594d814da94dd14df94e204e484e704e984ebf4ee74f0e4f364f5d4f854fac4fd44ffb502250495070509750be50e5510c5133515a518151a851ce51f5521b52425268528f52b552dc53025328534e5374539b53c153e7540c54325458547e54a454c954ef5515553a5560558555aa55d055f5561a563f5664568a56af56d356f8571d57425767578b57b057d557f9581e58425867588b58af58d358f8591c59405964598859ac59cf59f35a175a3b5a5e5a82

/-- Entries 640 to 767. -/
def cosRow5 : Nat :=
  0x312a3158318731b531e332113240326e329c32ca32f833263355338333b133df340c343a3468349634c434f2351f354d357b35a835d636043631365f368c36ba36e737153742376f379c37ca37f738243851387e38ab38d9390639333960398c39b939e63a133a403a6c3a993ac63af23b1f3b4c3b783ba53bd13bfe3c2a3c563c833caf3cdb3d073d333d603d8c3db83de43e103e3c3e683e933ebf3eeb3f173f433f6e3f9a3fc53ff1401d40484073409f40ca40f64121414c417741a241ce41f94224424f427a42a542d042fa43254350437b43a543d043fb44254450447a44a544cf44f94524454e457845a345cd45f74621464b4675469f46c946f3471c

/-- Entries 768 to 895. -/
def cosRow6 : Nat :=
  0x192a195b198c19be19ef1a201a511a821ab41ae51b161b471b781ba91bda1c0b1c3c1c6d1c9e1ccf1d001d311d621d931dc41df51e261e571e871eb81ee91f1a1f4a1f7b1fac1fdd200d203e206f209f20d0210021312161219221c221f322232254228422b522e523152346237623a623d7240724372467249724c824f825282558258825b825e826182648267826a826d8270827372767279727c727f728262856288628b528e529152944297429a329d32a022a322a612a912ac02af02b1f2b4e2b7d2bad2bdc2c0b2c3a2c6a2c992cc82cf72d262d552d842db32de22e112e402e6e2e9d2ecc2efb2f2a2f582f872fb62fe4301330413070309e30cd30fb

/-- Entries 896 to 1023. -/
def cosRow7 : Nat :=
  0x320065009700c900fb012e0160019201c401f70229025b028d02c002f203240356038903bb03ed041f0452048404b604e8051b054d057f05b105e306160648067a06ac06de07110743077507a707d9080b083e087008a208d409060938096a099d09cf0a010a330a650a970ac90afb0b2d0b5f0b920bc40bf60c280c5a0c8c0cbe0cf00d220d540d860db80dea0e1c0e4e0e800eb10ee30f150f470f790fab0fdd100f1041107210a410d61108113a116c119d11cf120112331264129612c812fa132b135d138f13c013f214241455148714b914ea151c154d157f15b015e216131645167616a816d9170b173c176e179f17d0180218331865189618c718f9

/-- Entries 1024 to 1024. -/
def cosRow8 : Nat :=
  0x0

/-- Entry `j` of the quarter wave, 0 ≤ j ≤ 1024. -/
def cosQuarter (j : Nat) : Int :=
  let row := match j / 128 with
    | 0 => cosRow0
    | 1 => cosRow1
    | 2 => cosRow2
    | 3 => cosRow3
    | 4 => cosRow4
    | 5 => cosRow5
    | 6 => cosRow6
    | 7 => cosRow7
    | _ => cosRow8
  ((row / 2 ^ (16 * (j % 128)) % 65536 : Nat) : Int)

/-- C[j] of R275, j taken modulo 4096. -/
def cosTab (j : Nat) : Int :=
  let k := j % 4096
  if k ≤ 1024 then cosQuarter k
  else if k ≤ 2048 then -cosQuarter (2048 - k)
  else if k ≤ 3072 then -cosQuarter (k - 2048)
  else cosQuarter (4096 - k)

end Sys2Proof.Machine
end

