-- ==== Sys2Proof/Config.lean ====
section
/-! DEFINITION. What the specification leaves open and no rule fixes: free values, as constants without a
body. Nothing can evaluate them, so a claim about them holds for every value. -/

namespace Sys2Proof

/-- A fresh free value: applied to the counter of State that the step advances (log entry 1). -/
opaque Config.freeValue : Nat → BitVec 64

/-- The contents of the boot ROM, which the specification does not give (log entry 2). -/
opaque Config.bootRom : Nat → BitVec 8

/-- SHA-384 over bytes, as a number: its arithmetic is FIPS 180-4's, not the specification's (log entry 3). -/
opaque Config.sha384 : List (BitVec 8) → BitVec 384

/-- The AES-256-GCM tag under a key, of a nonce and authenticated bytes: NIST's arithmetic, not the
specification's (log entry 3). -/
opaque Config.gcmTag : List (BitVec 8) → List (BitVec 8) → List (BitVec 8) → BitVec 128

/-- HKDF-SHA-384 (RFC 5869) of a key, a salt and an info string, 32 bytes long (R443, R500; log entry 3). -/
opaque Config.hkdf : List (BitVec 8) → List (BitVec 8) → List (BitVec 8) → BitVec 256

/-- What AES-256-GCM under a key, with a nonce and authenticated bytes, decrypts bytes to (R505; log entry 3). -/
opaque Config.gcmOpen : List (BitVec 8) → List (BitVec 8) → List (BitVec 8) → List (BitVec 8) → List (BitVec 8)

/-- Byte `i` of what AES-256-GCM makes of bytes under a key, with a nonce and authenticated bytes: the ciphertext, then
the tag (R442, R450; log entry 3). -/
opaque Config.gcmSeal : List (BitVec 8) → List (BitVec 8) → List (BitVec 8) → List (BitVec 8) → Nat → BitVec 8

/-- Byte `i` of the encrypted part and tag of a plot image with a header, under a key (R483; log entry 3). -/
opaque Config.imageSeal : List (BitVec 8) → List (BitVec 8) → Nat → BitVec 8

/-- The MAC address of a port that the identity data give: which of their bytes it is no rule says (R166; log entry 67). -/
opaque Config.macOf : List (BitVec 8) → Nat → BitVec 48

/-- Bytes that a spill image of a bank of 2^SIZE words takes in DRAM (R232 does not say; log entry 8). -/
opaque Config.spillImageBytes : Nat → Nat

/-- Byte `i` of the spill image of a bank, given its words as the 34 bits DATA, END and POISON: no rule gives the layout of an
image in DRAM (R232; log entry 8). -/
opaque Config.spillImage : List Nat → Nat → BitVec 8

end Sys2Proof
end

