-- ==== Sys2Proof/Machine/LsPreload.lean ====
section
/-! DEFINITION. The preloaded load-switch profiles (Table 13-6) as the words of their 64-byte records
(Table 13-4, Table 13-5). -/

namespace Sys2Proof.Machine

/-- One segment of a profile: DUR (100 µs units), ILIM (10 mA units), ACTION byte (Table 13-5). -/
structure LsSeg where
  dur : Nat
  ilim : Nat
  action : Nat
  deriving DecidableEq, Repr

/-- A profile record, field by field (Table 13-4). -/
structure LsProfile where
  type : Nat
  flags : Nat
  retry : Nat
  delay : Nat
  inom : Nat
  i2tTime : Nat
  olThr : Nat
  olTime : Nat
  segs : List LsSeg
  deriving DecidableEq, Repr

/-- Table 13-6, with the units of Table 13-4 and Table 13-5. -/
def lsPreloaded : Nat → LsProfile
  | 0 => ⟨0, 1, 3, 1000, 500, 1000, 200, 100, [⟨50, 800, 0⟩]⟩
  | 1 => ⟨1, 1, 3, 500, 300, 500, 160, 100, [⟨200, 1500, 4⟩, ⟨800, 800, 0⟩]⟩
  | 2 => ⟨2, 0, 1, 1000, 100, 500, 4, 200, [⟨20, 300, 4⟩]⟩
  | 3 => ⟨3, 2, 5, 5000, 500, 2000, 200, 500, [⟨5000, 1500, 4⟩, ⟨15000, 800, 0⟩]⟩
  | 4 => ⟨4, 1, 2, 1000, 200, 1000, 80, 100, [⟨500, 600, 0⟩]⟩
  | 5 => ⟨5, 1, 0, 10, 200, 1000, 40, 50, [⟨1000, 400, 1⟩]⟩
  | 6 => ⟨6, 4, 3, 1000, 300, 1000, 20, 200, [⟨100, 400, 4⟩, ⟨400, 700, 0⟩]⟩
  | 7 => ⟨7, 0, 3, 1000, 200, 500, 80, 100, [⟨200, 1000, 0⟩]⟩
  | _ => ⟨0, 0, 0, 0, 0, 0, 0, 0, []⟩

/-- The two bytes of a little-endian 16-bit field (R3). -/
def bytes16 (v : Nat) : List Nat := [v % 256, v / 256 % 256]

/-- The six bytes of a segment (Table 13-5). -/
def LsSeg.bytes (g : LsSeg) : List Nat := bytes16 g.dur ++ bytes16 g.ilim ++ [g.action, 0]

/-- The bytes of a profile record up to its last segment (Table 13-4); the rest of the 64 are zero. -/
def LsProfile.bytes (p : LsProfile) : List Nat :=
  [p.type, p.flags, p.segs.length, p.retry] ++ bytes16 p.delay ++ bytes16 p.inom ++
  bytes16 p.i2tTime ++ bytes16 p.olThr ++ bytes16 p.olTime ++ [0, 0] ++ (p.segs.map LsSeg.bytes).flatten

/-- The value the word `w` of profile `x` takes at reset (Table 13-9: Table 13-6 for x below 8, else 0). -/
def lsPreload (x w : Nat) : Nat :=
  let b := if x < 8 then (lsPreloaded x).bytes else []
  b.getD (4 * w) 0 + 256 * b.getD (4 * w + 1) 0 + 65536 * b.getD (4 * w + 2) 0 +
    16777216 * b.getD (4 * w + 3) 0

end Sys2Proof.Machine
end

