-- ==== Sys2Proof/Machine/Fields.lean ====
section
/-! DEFINITION. The register map: one `Field` for every field of every register table of the
specification. A field's name is its register's and its own, its arguments are the register's indices.
Written from the register tables; the last number is the Reset column's (R5). -/

namespace Sys2Proof.Machine.F

/-! Table 3-15 (03_power_seating_modes.md, R97) -/
def GIRTH_MODE_MODE : Field := ⟨0x20E00000, 0, 4, .ro, 0x1⟩
def GIRTH_MODE_PREV_MODE : Field := ⟨0x20E00000, 4, 4, .ro, 0x0⟩
def GIRTH_MODE_CAUSE : Field := ⟨0x20E00000, 8, 8, .ro, 0x1⟩
def GIRTH_MODE_SUBSTATE : Field := ⟨0x20E00000, 16, 5, .ro, 0x0⟩
def MODE_REQ_TARGET : Field := ⟨0x20E00004, 0, 4, .wo, 0x0⟩
def MODE_REQ_FORCE : Field := ⟨0x20E00004, 4, 1, .wo, 0x0⟩
def MODE_REQ_BOOT_SERVICE : Field := ⟨0x20E00004, 5, 1, .rw, 0x0⟩
def MODE_REQ_KEY : Field := ⟨0x20E00004, 16, 16, .wo, 0x0⟩
def SEAT_STAT_PRES_J1 : Field := ⟨0x20E00008, 0, 1, .ro, 0x0⟩
def SEAT_STAT_PRES_J2 : Field := ⟨0x20E00008, 1, 1, .ro, 0x0⟩
def SEAT_STAT_PRES : Field := ⟨0x20E00008, 2, 1, .ro, 0x0⟩
def SEAT_STAT_EJECT : Field := ⟨0x20E00008, 3, 1, .ro, 0x0⟩
def SEAT_STAT_SIDE : Field := ⟨0x20E00008, 4, 1, .ro, 0x0⟩
def SEAT_STAT_SLOT : Field := ⟨0x20E00008, 5, 4, .ro, 0x0⟩
def SEAT_STAT_SEAT_CHANGE : Field := ⟨0x20E00008, 9, 1, .w1c, 0x0⟩
def SEAT_STAT_EXTRACT_OK : Field := ⟨0x20E00008, 10, 1, .ro, 0x0⟩
def LS_EXT_MAP_EXT : Field := ⟨0x20E0000C, 0, 24, .ro, 0x0⟩
def RAIL_STAT_IN_WIN : Field := ⟨0x20E00010, 0, 6, .ro, 0x0⟩
def RAIL_STAT_WARN : Field := ⟨0x20E00010, 8, 6, .ro, 0x0⟩
def RAIL_STAT_HOLDUP_OK : Field := ⟨0x20E00010, 14, 1, .ro, 0x0⟩
def RAIL_FLT_UV : Field := ⟨0x20E00014, 0, 6, .w1c, 0x0⟩
def RAIL_FLT_OV : Field := ⟨0x20E00014, 8, 6, .w1c, 0x0⟩
def RAIL_FLT_VIN_PF : Field := ⟨0x20E00014, 16, 1, .w1c, 0x0⟩
def RAIL_FLT_VLA_UV : Field := ⟨0x20E00014, 17, 1, .w1c, 0x0⟩
def RAIL_FLT_VLB_UV : Field := ⟨0x20E00014, 18, 1, .w1c, 0x0⟩
def VIN_MON_VIN : Field := ⟨0x20E00018, 0, 16, .ro, 0x0⟩
def VL_MON_VLA : Field := ⟨0x20E0001C, 0, 16, .ro, 0x0⟩
def VL_MON_VLB : Field := ⟨0x20E0001C, 16, 16, .ro, 0x0⟩
def MOD_POWER_P : Field := ⟨0x20E00020, 0, 20, .ro, 0x0⟩
def RESTART_CNT_WARM : Field := ⟨0x20E00024, 0, 8, .rc, 0x0⟩
def RESTART_CNT_COLD : Field := ⟨0x20E00024, 8, 8, .rc, 0x0⟩
def DORM_WAKE_EN_WAKE_LINE : Field := ⟨0x20E00030, 0, 1, .rw, 0x1⟩
def DORM_WAKE_EN_CAN_SW : Field := ⟨0x20E00030, 1, 1, .rw, 0x1⟩
def DORM_WAKE_EN_DIO_IN : Field := ⟨0x20E00030, 2, 1, .rw, 0x1⟩
def DORM_WAKE_EN_TIMER : Field := ⟨0x20E00030, 3, 1, .rw, 0x0⟩
def DORM_WAKE_EN_EJECT : Field := ⟨0x20E00030, 4, 1, .ro, 0x1⟩
def DORM_WAKE_EN_SVC_VBUS : Field := ⟨0x20E00030, 5, 1, .rw, 0x1⟩
def DORM_TIMER_SECONDS : Field := ⟨0x20E00034, 0, 32, .rw, 0x0⟩
def WAKE_CAUSE_CAUSE : Field := ⟨0x20E00038, 0, 6, .w1c, 0x0⟩
def DORM_LS_PAT_PAT : Field := ⟨0x20E0003C, 0, 24, .rw, 0x0⟩
def DORM_DIO_PAT_PAT : Field := ⟨0x20E00040, 0, 32, .rw, 0x0⟩
def HANDOFF_TMO_TMO : Field := ⟨0x20E00044, 0, 16, .rw, 0x64⟩
def ENERGY_LO_E_LO (b : Nat) : Field := ⟨0x20E00100 + 0x8 * min b 13, 0, 32, .ro, 0x0⟩
def ENERGY_HI_E_HI (b : Nat) : Field := ⟨0x20E00104 + 0x8 * min b 13, 0, 32, .ro, 0x0⟩
def ENERGY_CLR_CLR : Field := ⟨0x20E00180, 0, 13, .wo, 0x0⟩

/-! Table 4-7 (04_clocks_resets.md, R114) -/
def CLK_STAT_XO_OK : Field := ⟨0x20E00200, 0, 1, .ro, 0x0⟩
def CLK_STAT_PLL_A_LOCK : Field := ⟨0x20E00200, 1, 1, .ro, 0x0⟩
def CLK_STAT_PLL_S_LOCK : Field := ⟨0x20E00200, 2, 1, .ro, 0x0⟩
def CLK_STAT_PLL_C_LOCK : Field := ⟨0x20E00200, 3, 1, .ro, 0x0⟩
def CLK_STAT_PLL_D_LOCK : Field := ⟨0x20E00200, 4, 1, .ro, 0x0⟩
def CLK_STAT_SERDES_LOCK : Field := ⟨0x20E00200, 5, 1, .ro, 0x0⟩
def CLK_FLT_FLT : Field := ⟨0x20E00204, 0, 6, .w1c, 0x0⟩
def CLK_FLT_RC16_FLT : Field := ⟨0x20E00204, 8, 1, .w1c, 0x0⟩
def RST_CAUSE_AON : Field := ⟨0x20E00208, 0, 1, .w1c, 0x0⟩
def RST_CAUSE_SAFE : Field := ⟨0x20E00208, 1, 1, .w1c, 0x0⟩
def RST_CAUSE_CORE : Field := ⟨0x20E00208, 2, 1, .w1c, 0x0⟩
def RST_CAUSE_PD1 : Field := ⟨0x20E00208, 3, 1, .w1c, 0x0⟩
def BLK_RST_RST : Field := ⟨0x20E0020C, 0, 14, .wo, 0x0⟩
def BLK_RST_KEY : Field := ⟨0x20E0020C, 16, 16, .wo, 0x0⟩
def BLK_RST_STAT_BUSY : Field := ⟨0x20E00210, 0, 14, .ro, 0x0⟩
def XING_STAT_SERVICE : Field := ⟨0x20E00214, 0, 1, .ro, 0x0⟩
def XING_STAT_TMO_CNT : Field := ⟨0x20E00214, 8, 8, .rc, 0x0⟩

/-! Table 5-9 (05_trellis_angle.md, R145) -/
def TRL_CTL_SRC : Field := ⟨0x20000000, 0, 2, .rw, 0x2⟩
def TRL_CTL_REF_PH : Field := ⟨0x20000000, 2, 2, .rw, 0x0⟩
def TRL_CTL_BW : Field := ⟨0x20000000, 4, 2, .rw, 0x2⟩
def TRL_CTL_FNOM : Field := ⟨0x20000000, 6, 1, .rw, 0x0⟩
def TRL_CTL_SLEW : Field := ⟨0x20000000, 8, 2, .rw, 0x2⟩
def TRL_CTL_NET_TX : Field := ⟨0x20000000, 12, 1, .rw, 0x0⟩
def TRL_STAT_LOCK : Field := ⟨0x20000004, 0, 1, .ro, 0x0⟩
def TRL_STAT_HOLDOVER : Field := ⟨0x20000004, 1, 1, .ro, 0x0⟩
def TRL_STAT_NEVER_LOCKED : Field := ⟨0x20000004, 2, 1, .ro, 0x1⟩
def TRL_STAT_SRC_ACT : Field := ⟨0x20000004, 3, 2, .ro, 0x0⟩
def TRL_STAT_SLEWING : Field := ⟨0x20000004, 5, 1, .ro, 0x0⟩
def TRL_STAT_CYC_ADOPTED : Field := ⟨0x20000004, 6, 1, .ro, 0x0⟩
def TRL_STAT_CYC_MISMATCH : Field := ⟨0x20000004, 7, 1, .ro, 0x0⟩
def TRL_STAT_ROT_ACB : Field := ⟨0x20000004, 8, 1, .ro, 0x0⟩
def TRL_STAT_HO_LONG : Field := ⟨0x20000004, 9, 1, .ro, 0x0⟩
def TRL_FLT_AMP_LOW : Field := ⟨0x20000008, 0, 1, .w1c, 0x0⟩
def TRL_FLT_FREQ_RANGE : Field := ⟨0x20000008, 1, 1, .w1c, 0x0⟩
def TRL_FLT_PHASE_ERR : Field := ⟨0x20000008, 2, 1, .w1c, 0x0⟩
def TRL_FLT_LOCK_LOST : Field := ⟨0x20000008, 3, 1, .w1c, 0x0⟩
def TRL_FLT_NET_AUTH : Field := ⟨0x20000008, 4, 1, .w1c, 0x0⟩
def TRL_FLT_NET_LOST : Field := ⟨0x20000008, 5, 1, .w1c, 0x0⟩
def TRL_FLT_NET_STALE : Field := ⟨0x20000008, 6, 1, .w1c, 0x0⟩
def TRL_REF_OFS_OFS : Field := ⟨0x2000000C, 0, 32, .rw, 0x0⟩
def TRL_NOW_ANG_ANG : Field := ⟨0x20000010, 0, 32, .ro, 0x0⟩
def TRL_NOW_CYC_CYC : Field := ⟨0x20000014, 0, 32, .ro, 0x0⟩
def TRL_NOW_PT_NS_NS : Field := ⟨0x20000018, 0, 30, .ro, 0x0⟩
def TRL_NOW_PT_S_LO_S_LO : Field := ⟨0x2000001C, 0, 32, .ro, 0x0⟩
def TRL_NOW_PT_S_HI_S_HI : Field := ⟨0x20000020, 0, 16, .ro, 0x0⟩
def TRL_INC_FRAC_FRAC : Field := ⟨0x20000024, 0, 32, .ro, 0x5AC471B4⟩
def TRL_INC_INT_INT : Field := ⟨0x20000028, 0, 16, .ro, 0xA7C⟩
def TRL_FREQ_FREQ : Field := ⟨0x2000002C, 0, 32, .ro, 0x2FAF080⟩
def TRL_ROCOF_ROCOF : Field := ⟨0x20000030, 0, 32, .ro, 0x0⟩
def TRL_AMP_GRA : Field := ⟨0x20000034, 0, 10, .ro, 0x0⟩
def TRL_AMP_GRB : Field := ⟨0x20000034, 10, 10, .ro, 0x0⟩
def TRL_AMP_GRC : Field := ⟨0x20000034, 20, 10, .ro, 0x0⟩
def TRL_PHERR_PHERR : Field := ⟨0x20000038, 0, 16, .ro, 0x0⟩
def TRL_PHERR_PHERR_RMS : Field := ⟨0x20000038, 16, 16, .ro, 0x0⟩
def TRL_HO_LIMIT_LIMIT : Field := ⟨0x2000003C, 0, 16, .rw, 0xA⟩
def TRL_NET_CFG_PERIOD : Field := ⟨0x20000040, 0, 16, .rw, 0x64⟩
def TRL_NET_CFG_TMO : Field := ⟨0x20000040, 16, 16, .rw, 0x12C⟩
def TRL_NET_KEY_KEYSLOT : Field := ⟨0x20000044, 0, 8, .rw, 0x0⟩
def TRL_CYC_HIST_CYC (i : Nat) : Field := ⟨0x20000100 + 0x10 * min i 16, 0, 32, .ro, 0x0⟩
def TRL_CYC_HIST_NS (i : Nat) : Field := ⟨0x20000104 + 0x10 * min i 16, 0, 30, .ro, 0x0⟩
def TRL_CYC_HIST_S_LO (i : Nat) : Field := ⟨0x20000108 + 0x10 * min i 16, 0, 32, .ro, 0x0⟩
def TRL_CYC_HIST_S_HI (i : Nat) : Field := ⟨0x2000010C + 0x10 * min i 16, 0, 16, .ro, 0x0⟩
def TRL_PART_BASE (p : Nat) : Field := ⟨0x20000200 + 0x4 * min p 8, 0, 10, .rw, 0x0⟩
def TRL_PART_COUNT (p : Nat) : Field := ⟨0x20000200 + 0x4 * min p 8, 10, 11, .rw, 0x0⟩
def TRL_PART_QUEUE (p : Nat) : Field := ⟨0x20000200 + 0x4 * min p 8, 21, 6, .rw, 0x0⟩
def TRL_ACT_STAT_SPILL : Field := ⟨0x20000240, 0, 16, .rc, 0x0⟩
def TRL_ACT_STAT_DROP : Field := ⟨0x20000240, 16, 16, .rc, 0x0⟩
def POW_CFG_LS (e : Nat) : Field := ⟨0x20000400 + 0x20 * min e 16, 0, 5, .rw, 0x0⟩
def POW_CFG_AUX_DIO (e : Nat) : Field := ⟨0x20000400 + 0x20 * min e 16, 8, 5, .rw, 0x0⟩
def POW_CFG_AUX_POL (e : Nat) : Field := ⟨0x20000400 + 0x20 * min e 16, 13, 1, .rw, 0x0⟩
def POW_CFG_K (e : Nat) : Field := ⟨0x20000400 + 0x20 * min e 16, 16, 3, .rw, 0x3⟩
def POW_CFG_LEARN_MIN (e : Nat) : Field := ⟨0x20000400 + 0x20 * min e 16, 20, 4, .rw, 0x4⟩
def POW_CFG_EN (e : Nat) : Field := ⟨0x20000400 + 0x20 * min e 16, 31, 1, .rw, 0x0⟩
def POW_AUXOFS_CLOSE_OFS (e : Nat) : Field := ⟨0x20000404 + 0x20 * min e 16, 0, 16, .rw, 0x0⟩
def POW_AUXOFS_OPEN_OFS (e : Nat) : Field := ⟨0x20000404 + 0x20 * min e 16, 16, 16, .rw, 0x0⟩
def POW_REJECT_REJECT (e : Nat) : Field := ⟨0x20000408 + 0x20 * min e 16, 0, 16, .rw, 0x7D0⟩
def POW_OP_OP (e : Nat) : Field := ⟨0x2000040C + 0x20 * min e 16, 0, 24, .rw, 0x0⟩
def POW_REL_REL (e : Nat) : Field := ⟨0x20000410 + 0x20 * min e 16, 0, 24, .rw, 0x0⟩
def POW_CNT_OP_CNT (e : Nat) : Field := ⟨0x20000414 + 0x20 * min e 16, 0, 16, .ro, 0x0⟩
def POW_CNT_REL_CNT (e : Nat) : Field := ⟨0x20000414 + 0x20 * min e 16, 16, 16, .ro, 0x0⟩
def POW_REJ_REJ_CNT (e : Nat) : Field := ⟨0x20000418 + 0x20 * min e 16, 0, 8, .rc, 0x0⟩
def POW_REJ_TMO_CNT (e : Nat) : Field := ⟨0x20000418 + 0x20 * min e 16, 8, 8, .rc, 0x0⟩
def POW_LAST_ERR_ERR (e : Nat) : Field := ⟨0x2000041C + 0x20 * min e 16, 0, 32, .ro, 0x0⟩
def SLOT_CTL_EN (s : Nat) : Field := ⟨0x20010000 + 0x40 * min s 1024, 0, 1, .rw, 0x0⟩
def SLOT_CTL_MODE (s : Nat) : Field := ⟨0x20010000 + 0x40 * min s 1024, 1, 3, .rw, 0x0⟩
def SLOT_CTL_CATCHUP (s : Nat) : Field := ⟨0x20010000 + 0x40 * min s 1024, 4, 1, .rw, 0x0⟩
def SLOT_CTL_REC (s : Nat) : Field := ⟨0x20010000 + 0x40 * min s 1024, 5, 1, .rw, 0x0⟩
def SLOT_CTL_PRIO (s : Nat) : Field := ⟨0x20010000 + 0x40 * min s 1024, 8, 3, .rw, 0x7⟩
def SLOT_CTL_ACTION (s : Nat) : Field := ⟨0x20010000 + 0x40 * min s 1024, 16, 8, .rw, 0x0⟩
def SLOT_ANGLE_ANGLE (s : Nat) : Field := ⟨0x20010004 + 0x40 * min s 1024, 0, 32, .rw, 0x0⟩
def SLOT_CYCLE_CYCLE (s : Nat) : Field := ⟨0x20010008 + 0x40 * min s 1024, 0, 32, .rw, 0x0⟩
def SLOT_N_N (s : Nat) : Field := ⟨0x2001000C + 0x40 * min s 1024, 0, 16, .rw, 0x1⟩
def SLOT_PT_NS_NS (s : Nat) : Field := ⟨0x20010010 + 0x40 * min s 1024, 0, 30, .rw, 0x0⟩
def SLOT_PT_S_LO_S_LO (s : Nat) : Field := ⟨0x20010014 + 0x40 * min s 1024, 0, 32, .rw, 0x0⟩
def SLOT_PT_S_HI_S_HI (s : Nat) : Field := ⟨0x20010018 + 0x40 * min s 1024, 0, 16, .rw, 0x0⟩
def SLOT_PERIOD_PERIOD (s : Nat) : Field := ⟨0x2001001C + 0x40 * min s 1024, 0, 32, .rw, 0x0⟩
def SLOT_ARG_ARG (s : Nat) : Field := ⟨0x20010020 + 0x40 * min s 1024, 0, 32, .rw, 0x0⟩
def SLOT_ADV_ADV (s : Nat) : Field := ⟨0x20010024 + 0x40 * min s 1024, 0, 24, .rw, 0x0⟩
def SLOT_STAT_FIRE_CNT (s : Nat) : Field := ⟨0x20010028 + 0x40 * min s 1024, 0, 16, .ro, 0x0⟩
def SLOT_STAT_MISSED (s : Nat) : Field := ⟨0x20010028 + 0x40 * min s 1024, 16, 1, .w1c, 0x0⟩
def SLOT_STAT_LATE (s : Nat) : Field := ⟨0x20010028 + 0x40 * min s 1024, 17, 1, .w1c, 0x0⟩
def SLOT_STAT_NOT_OWNED (s : Nat) : Field := ⟨0x20010028 + 0x40 * min s 1024, 18, 1, .w1c, 0x0⟩
def SLOT_STAT_SUPERSEDED (s : Nat) : Field := ⟨0x20010028 + 0x40 * min s 1024, 19, 1, .w1c, 0x0⟩
def SLOT_STAT_DONE (s : Nat) : Field := ⟨0x20010028 + 0x40 * min s 1024, 20, 1, .ro, 0x0⟩
def SLOT_LAST_CYC_CYC (s : Nat) : Field := ⟨0x2001002C + 0x40 * min s 1024, 0, 32, .ro, 0x0⟩
def SLOT_LAST_ANG_ANG (s : Nat) : Field := ⟨0x20010030 + 0x40 * min s 1024, 0, 32, .ro, 0x0⟩

/-! Table 6-7 (06_plant_time.md, R165) -/
def PT_CTL_SERVO_EN : Field := ⟨0x20100000, 0, 1, .rw, 0x1⟩
def PT_CTL_STEP_EN : Field := ⟨0x20100000, 1, 1, .rw, 0x1⟩
def PT_CTL_KP : Field := ⟨0x20100000, 4, 4, .rw, 0x1⟩
def PT_CTL_KI : Field := ⟨0x20100000, 8, 4, .rw, 0x3⟩
def PT_STAT_STATE : Field := ⟨0x20100004, 0, 2, .ro, 0x0⟩
def PT_STAT_STEPPING : Field := ⟨0x20100004, 2, 1, .ro, 0x0⟩
def PT_STAT_SEEDED : Field := ⟨0x20100004, 3, 1, .ro, 0x0⟩
def PT_OFS_FRAC_FRAC : Field := ⟨0x20100008, 0, 16, .rw, 0x0⟩
def PT_OFS_NS_NS : Field := ⟨0x2010000C, 0, 32, .rw, 0x0⟩
def PT_ADDEND_FRAC_FRAC : Field := ⟨0x20100010, 0, 32, .ro, 0x80000000⟩
def PT_ADDEND_INT_INT : Field := ⟨0x20100014, 0, 8, .ro, 0xC⟩
def PT_RATE_I : Field := ⟨0x20100018, 0, 32, .ro, 0x0⟩
def PT_MAX_ADJ_MAX : Field := ⟨0x2010001C, 0, 32, .rw, 0x199999A⟩
def PT_STEP_THR_THR : Field := ⟨0x20100020, 0, 32, .rw, 0x30D40⟩
def PT_LOCK_THR_THR : Field := ⟨0x20100024, 0, 32, .rw, 0x3E8⟩
def PT_HO_TMO_TMO : Field := ⟨0x20100028, 0, 16, .rw, 0xBB8⟩
def PT_NOW_NS_NS : Field := ⟨0x20100030, 0, 30, .ro, 0x0⟩
def PT_NOW_S_LO_S_LO : Field := ⟨0x20100034, 0, 32, .ro, 0x0⟩
def PT_NOW_S_HI_S_HI : Field := ⟨0x20100038, 0, 16, .ro, 0x0⟩
def PT_SET_NS_NS : Field := ⟨0x20100040, 0, 30, .rw, 0x0⟩
def PT_SET_S_LO_S_LO : Field := ⟨0x20100044, 0, 32, .rw, 0x0⟩
def PT_SET_S_HI_S_HI : Field := ⟨0x20100048, 0, 16, .rw, 0x0⟩
def PT_SET_CMD_GO : Field := ⟨0x2010004C, 0, 1, .wo, 0x0⟩
def PT_STEP_CNT_CNT : Field := ⟨0x20100050, 0, 16, .rc, 0x0⟩
def PT_LAST_STEP_LO_K_LO : Field := ⟨0x20100054, 0, 32, .ro, 0x0⟩
def PT_LAST_STEP_HI_K_HI : Field := ⟨0x20100058, 0, 32, .ro, 0x0⟩
def PT_CANREF_CFG_EN (i : Nat) : Field := ⟨0x20100100 + 0x10 * min i 8, 0, 1, .rw, 0x0⟩
def PT_CANREF_CFG_IDE (i : Nat) : Field := ⟨0x20100100 + 0x10 * min i 8, 1, 1, .rw, 0x0⟩
def PT_CANREF_CFG_BRS (i : Nat) : Field := ⟨0x20100100 + 0x10 * min i 8, 2, 1, .rw, 0x0⟩
def PT_CANREF_CFG_FREERUN_TX (i : Nat) : Field := ⟨0x20100100 + 0x10 * min i 8, 3, 1, .rw, 0x0⟩
def PT_CANREF_CFG_PERIOD (i : Nat) : Field := ⟨0x20100100 + 0x10 * min i 8, 4, 3, .rw, 0x3⟩
def PT_CANREF_ID_ID (i : Nat) : Field := ⟨0x20100104 + 0x10 * min i 8, 0, 29, .rw, 0x10⟩
def PT_CANREF_STAT_SEQ (i : Nat) : Field := ⟨0x20100108 + 0x10 * min i 8, 0, 4, .ro, 0x0⟩
def PT_CANREF_STAT_MISSED (i : Nat) : Field := ⟨0x20100108 + 0x10 * min i 8, 8, 8, .rc, 0x0⟩

/-! Table 6-8 (06_plant_time.md, R166) -/
def ETH_CTL_EN (p : Nat) : Field := ⟨0x20F00000 + 0x1000 * min p 2, 0, 1, .rw, 0x0⟩
def ETH_CTL_RX_TS_ALL (p : Nat) : Field := ⟨0x20F00000 + 0x1000 * min p 2, 1, 1, .rw, 0x0⟩
def ETH_CTL_LATE_DROP (p : Nat) : Field := ⟨0x20F00000 + 0x1000 * min p 2, 2, 1, .rw, 0x0⟩
def ETH_STAT_LINK (p : Nat) : Field := ⟨0x20F00004 + 0x1000 * min p 2, 0, 1, .ro, 0x0⟩
def ETH_QUEUES_TXQ (p : Nat) : Field := ⟨0x20F00008 + 0x1000 * min p 2, 0, 6, .rw, 0x0⟩
def ETH_QUEUES_RXQ (p : Nat) : Field := ⟨0x20F00008 + 0x1000 * min p 2, 8, 6, .rw, 0x0⟩
def ETH_LAUNCH_MAX_MAX (p : Nat) : Field := ⟨0x20F0000C + 0x1000 * min p 2, 0, 16, .rw, 0x3E8⟩
def ETH_TXTS_NS_NS (p : Nat) : Field := ⟨0x20F00010 + 0x1000 * min p 2, 0, 30, .ro, 0x0⟩
def ETH_TXTS_NS_VALID (p : Nat) : Field := ⟨0x20F00010 + 0x1000 * min p 2, 31, 1, .ro, 0x0⟩
def ETH_TXTS_S_LO_S_LO (p : Nat) : Field := ⟨0x20F00014 + 0x1000 * min p 2, 0, 32, .ro, 0x0⟩
def ETH_TXTS_HI_S_HI (p : Nat) : Field := ⟨0x20F00018 + 0x1000 * min p 2, 0, 16, .ro, 0x0⟩
def ETH_TXTS_HI_SUB (p : Nat) : Field := ⟨0x20F00018 + 0x1000 * min p 2, 16, 6, .ro, 0x0⟩
def ETH_TXTS_HI_TAG (p : Nat) : Field := ⟨0x20F00018 + 0x1000 * min p 2, 24, 8, .ro, 0x0⟩
def ETH_TS_STAT_TXTS_LOST (p : Nat) : Field := ⟨0x20F0001C + 0x1000 * min p 2, 0, 8, .rc, 0x0⟩
def ETH_TS_STAT_LATE_CNT (p : Nat) : Field := ⟨0x20F0001C + 0x1000 * min p 2, 8, 8, .rc, 0x0⟩
def ETH_TS_STAT_DROP_CNT (p : Nat) : Field := ⟨0x20F0001C + 0x1000 * min p 2, 16, 8, .rc, 0x0⟩
def ETH_MAC_LO_MAC_LO (p : Nat) : Field := ⟨0x20F00020 + 0x1000 * min p 2, 0, 32, .ro, 0x0⟩
def ETH_MAC_HI_MAC_HI (p : Nat) : Field := ⟨0x20F00024 + 0x1000 * min p 2, 0, 16, .ro, 0x0⟩

/-! Table 7-14 (07_latigo_rings.md, R203) -/
def LAT_CTL_EN : Field := ⟨0x20200000, 0, 12, .rw, 0x0⟩
def LAT_EVQ_QUEUE : Field := ⟨0x20200004, 0, 6, .rw, 0x0⟩
def LAT_SUM_BREAK : Field := ⟨0x20200008, 0, 12, .ro, 0x0⟩
def LAT_SUM_TRIG : Field := ⟨0x20200008, 12, 12, .ro, 0x0⟩
def LAT_RCFG_NODES (c : Nat) : Field := ⟨0x20201000 + 0x1000 * min c 12, 0, 5, .rw, 0x0⟩
def LAT_RCMD_CMD (c : Nat) : Field := ⟨0x20201004 + 0x1000 * min c 12, 0, 4, .wo, 0x0⟩
def LAT_RSTAT_LINK_A (c : Nat) : Field := ⟨0x20201008 + 0x1000 * min c 12, 0, 1, .ro, 0x0⟩
def LAT_RSTAT_LINK_B (c : Nat) : Field := ⟨0x20201008 + 0x1000 * min c 12, 1, 1, .ro, 0x0⟩
def LAT_RSTAT_TRIG_A (c : Nat) : Field := ⟨0x20201008 + 0x1000 * min c 12, 2, 1, .ro, 0x0⟩
def LAT_RSTAT_TRIG_B (c : Nat) : Field := ⟨0x20201008 + 0x1000 * min c 12, 3, 1, .ro, 0x0⟩
def LAT_RSTAT_MASTER (c : Nat) : Field := ⟨0x20201008 + 0x1000 * min c 12, 4, 1, .ro, 0x0⟩
def LAT_RSTAT_BREAK (c : Nat) : Field := ⟨0x20201008 + 0x1000 * min c 12, 5, 1, .ro, 0x0⟩
def LAT_RSTAT_ENUM_OK (c : Nat) : Field := ⟨0x20201008 + 0x1000 * min c 12, 6, 1, .ro, 0x0⟩
def LAT_RSTAT_ENUM_BUSY (c : Nat) : Field := ⟨0x20201008 + 0x1000 * min c 12, 7, 1, .ro, 0x0⟩
def LAT_RSTAT_REACH_A (c : Nat) : Field := ⟨0x20201008 + 0x1000 * min c 12, 8, 5, .ro, 0x1F⟩
def LAT_RSTAT_REACH_B (c : Nat) : Field := ⟨0x20201008 + 0x1000 * min c 12, 13, 5, .ro, 0x1F⟩
def LAT_RFLT_ENUM_MISMATCH (c : Nat) : Field := ⟨0x2020100C + 0x1000 * min c 12, 0, 1, .w1c, 0x0⟩
def LAT_RFLT_ADDR_CONFLICT (c : Nat) : Field := ⟨0x2020100C + 0x1000 * min c 12, 1, 1, .w1c, 0x0⟩
def LAT_RFLT_UID_CHANGED (c : Nat) : Field := ⟨0x2020100C + 0x1000 * min c 12, 2, 1, .w1c, 0x0⟩
def LAT_RFLT_BREAK_SEEN (c : Nat) : Field := ⟨0x2020100C + 0x1000 * min c 12, 3, 1, .w1c, 0x0⟩
def LAT_RFLT_UNREACHED (c : Nat) : Field := ⟨0x2020100C + 0x1000 * min c 12, 4, 1, .w1c, 0x0⟩
def LAT_RFLT_TIMING (c : Nat) : Field := ⟨0x2020100C + 0x1000 * min c 12, 5, 1, .w1c, 0x0⟩
def LAT_RFLT_NODE_FAULT (c : Nat) : Field := ⟨0x2020100C + 0x1000 * min c 12, 6, 1, .w1c, 0x0⟩
def LAT_RFLT_PASS_FAIL (c : Nat) : Field := ⟨0x2020100C + 0x1000 * min c 12, 7, 1, .w1c, 0x0⟩
def LAT_RCNT_CRC_ERR (c : Nat) : Field := ⟨0x20201010 + 0x1000 * min c 12, 0, 16, .rc, 0x0⟩
def LAT_RCNT_STALE_SETS (c : Nat) : Field := ⟨0x20201010 + 0x1000 * min c 12, 16, 16, .rc, 0x0⟩
def LAT_RSEQ_SEQ (c : Nat) : Field := ⟨0x20201014 + 0x1000 * min c 12, 0, 16, .ro, 0x0⟩
def LAT_NSTAT_ENUM (c n : Nat) : Field := ⟨0x20201100 + 0x1000 * min c 12 + 0x20 * min n 24, 0, 1, .ro, 0x0⟩
def LAT_NSTAT_VIA_A (c n : Nat) : Field := ⟨0x20201100 + 0x1000 * min c 12 + 0x20 * min n 24, 1, 1, .ro, 0x0⟩
def LAT_NSTAT_VIA_B (c n : Nat) : Field := ⟨0x20201100 + 0x1000 * min c 12 + 0x20 * min n 24, 2, 1, .ro, 0x0⟩
def LAT_NSTAT_UNCAL_U (c n : Nat) : Field := ⟨0x20201100 + 0x1000 * min c 12 + 0x20 * min n 24, 3, 1, .ro, 0x0⟩
def LAT_NSTAT_UNCAL_D (c n : Nat) : Field := ⟨0x20201100 + 0x1000 * min c 12 + 0x20 * min n 24, 4, 1, .ro, 0x0⟩
def LAT_NSTAT_FAULT (c n : Nat) : Field := ⟨0x20201100 + 0x1000 * min c 12 + 0x20 * min n 24, 8, 8, .ro, 0x0⟩
def LAT_NSTAT_CELLS (c n : Nat) : Field := ⟨0x20201100 + 0x1000 * min c 12 + 0x20 * min n 24, 16, 16, .ro, 0x0⟩
def LAT_NUID_LO_UID_LO (c n : Nat) : Field := ⟨0x20201104 + 0x1000 * min c 12 + 0x20 * min n 24, 0, 32, .ro, 0x0⟩
def LAT_NUID_HI_UID_HI (c n : Nat) : Field := ⟨0x20201108 + 0x1000 * min c 12 + 0x20 * min n 24, 0, 32, .ro, 0x0⟩
def LAT_NDLY_D_A (c n : Nat) : Field := ⟨0x2020110C + 0x1000 * min c 12 + 0x20 * min n 24, 0, 16, .ro, 0xFFFF⟩
def LAT_NDLY_D_B (c n : Nat) : Field := ⟨0x2020110C + 0x1000 * min c 12 + 0x20 * min n 24, 16, 16, .ro, 0xFFFF⟩
def LAT_NCNT_CRC_ERR (c n : Nat) : Field := ⟨0x20201110 + 0x1000 * min c 12 + 0x20 * min n 24, 0, 16, .rc, 0x0⟩
def LAT_NCNT_MISS (c n : Nat) : Field := ⟨0x20201110 + 0x1000 * min c 12 + 0x20 * min n 24, 16, 16, .rc, 0x0⟩
def LAT_NSENS_SENSORS (c n : Nat) : Field := ⟨0x20201114 + 0x1000 * min c 12 + 0x20 * min n 24, 0, 8, .ro, 0x0⟩

/-! Table 8-8 (08_measurement_capture.md, R224) -/
def MSR_CTL_EN : Field := ⟨0x20300000, 0, 4, .rw, 0x0⟩
def MSR_CTL_DEC_MODE : Field := ⟨0x20300000, 8, 1, .rw, 0x1⟩
def MSR_EVQ_QUEUE : Field := ⟨0x20300004, 0, 6, .rw, 0x0⟩
def MSR_LCFG_INV (m : Nat) : Field := ⟨0x20300100 + 0x100 * min m 4, 0, 1, .rw, 0x0⟩
def MSR_LCMD_CMD (m : Nat) : Field := ⟨0x20300104 + 0x100 * min m 4, 0, 4, .wo, 0x0⟩
def MSR_LSTAT_LINK (m : Nat) : Field := ⟨0x20300108 + 0x100 * min m 4, 0, 1, .ro, 0x0⟩
def MSR_LSTAT_UNCAL (m : Nat) : Field := ⟨0x20300108 + 0x100 * min m 4, 1, 1, .ro, 0x1⟩
def MSR_LSTAT_PACER (m : Nat) : Field := ⟨0x20300108 + 0x100 * min m 4, 2, 1, .ro, 0x0⟩
def MSR_LSTAT_UNSYNC (m : Nat) : Field := ⟨0x20300108 + 0x100 * min m 4, 3, 1, .ro, 0x0⟩
def MSR_LFLT_CRC (m : Nat) : Field := ⟨0x2030010C + 0x100 * min m 4, 0, 1, .w1c, 0x0⟩
def MSR_LFLT_PH_ERR (m : Nat) : Field := ⟨0x2030010C + 0x100 * min m 4, 1, 1, .w1c, 0x0⟩
def MSR_LFLT_OVR (m : Nat) : Field := ⟨0x2030010C + 0x100 * min m 4, 2, 1, .w1c, 0x0⟩
def MSR_LFLT_FE_FAULT (m : Nat) : Field := ⟨0x2030010C + 0x100 * min m 4, 3, 1, .w1c, 0x0⟩
def MSR_LFLT_UID_CHANGED (m : Nat) : Field := ⟨0x2030010C + 0x100 * min m 4, 4, 1, .w1c, 0x0⟩
def MSR_LFLT_TIMING (m : Nat) : Field := ⟨0x2030010C + 0x100 * min m 4, 5, 1, .w1c, 0x0⟩
def MSR_LCNT_CRC_ERR (m : Nat) : Field := ⟨0x20300110 + 0x100 * min m 4, 0, 16, .rc, 0x0⟩
def MSR_LCNT_MISS (m : Nat) : Field := ⟨0x20300110 + 0x100 * min m 4, 16, 16, .rc, 0x0⟩
def MSR_LAST_I_I (m : Nat) : Field := ⟨0x20300114 + 0x100 * min m 4, 0, 32, .ro, 0x0⟩
def MSR_LAST_V_V (m : Nat) : Field := ⟨0x20300118 + 0x100 * min m 4, 0, 32, .ro, 0x0⟩
def MSR_DEC_I_I (m : Nat) : Field := ⟨0x2030011C + 0x100 * min m 4, 0, 32, .ro, 0x0⟩
def MSR_DEC_V_V (m : Nat) : Field := ⟨0x20300120 + 0x100 * min m 4, 0, 32, .ro, 0x0⟩
def MSR_UID_LO_UID_LO (m : Nat) : Field := ⟨0x20300124 + 0x100 * min m 4, 0, 32, .ro, 0x0⟩
def MSR_UID_HI_UID_HI (m : Nat) : Field := ⟨0x20300128 + 0x100 * min m 4, 0, 32, .ro, 0x0⟩
def MSR_DLY_D (m : Nat) : Field := ⟨0x2030012C + 0x100 * min m 4, 0, 16, .ro, 0xFFFF⟩
def CAP_CTL_EN : Field := ⟨0x20300800, 0, 1, .rw, 0x0⟩
def CAP_CTL_SIZE : Field := ⟨0x20300800, 4, 4, .rw, 0x3⟩
def CAP_BASE_BASE : Field := ⟨0x20300804, 0, 16, .rw, 0x800⟩
def CAP_DIR_BASE_BASE : Field := ⟨0x20300808, 0, 28, .rw, 0x0⟩
def CAP_NSETS_N : Field := ⟨0x2030080C, 0, 32, .ro, 0x0⟩
def CAP_WR_IDX_IDX : Field := ⟨0x20300810, 0, 32, .ro, 0x0⟩
def CAP_SET_CNT_SETNO : Field := ⟨0x20300814, 0, 32, .ro, 0x0⟩
def CAP_STAT_RUNNING : Field := ⟨0x20300818, 0, 1, .ro, 0x0⟩
def CAP_STAT_CFG_ERR : Field := ⟨0x20300818, 1, 1, .w1c, 0x0⟩

/-! Table 9-3 (09_furrow_queues.md, R243) -/
def FUR_FLT_PAR_ERR : Field := ⟨0x20400000, 0, 1, .w1c, 0x0⟩
def FUR_PAR_CNT_CNT : Field := ⟨0x20400004, 0, 16, .rc, 0x0⟩
def FUR_FCL_QUEUE (l : Nat) : Field := ⟨0x20400010 + 0x4 * min l 8, 0, 6, .rw, 0x0⟩
def FUR_FCL_INV (l : Nat) : Field := ⟨0x20400010 + 0x4 * min l 8, 6, 1, .rw, 0x0⟩
def FUR_FCL_EN (l : Nat) : Field := ⟨0x20400010 + 0x4 * min l 8, 7, 1, .rw, 0x0⟩
def FUR_FCL_STAT_LEVEL : Field := ⟨0x20400030, 0, 8, .ro, 0x0⟩
def Q_CFG_EN (q : Nat) : Field := ⟨0x20401000 + 0x40 * min q 64, 0, 1, .rw, 0x0⟩
def Q_CFG_SIZE (q : Nat) : Field := ⟨0x20401000 + 0x40 * min q 64, 1, 5, .rw, 0x4⟩
def Q_CFG_SPILL_EN (q : Nat) : Field := ⟨0x20401000 + 0x40 * min q 64, 6, 1, .rw, 0x0⟩
def Q_CFG_HWPRIO (q : Nat) : Field := ⟨0x20401000 + 0x40 * min q 64, 8, 3, .rw, 0x4⟩
def Q_BASE_BASE (q : Nat) : Field := ⟨0x20401004 + 0x40 * min q 64, 0, 19, .rw, 0x0⟩
def Q_OWN_PROD (q : Nat) : Field := ⟨0x20401008 + 0x40 * min q 64, 0, 4, .rw, 0xF⟩
def Q_OWN_CONS (q : Nat) : Field := ⟨0x20401008 + 0x40 * min q 64, 4, 4, .rw, 0x8⟩
def Q_CREDIT_CFG_CREDIT_MAX (q : Nat) : Field := ⟨0x2040100C + 0x40 * min q 64, 0, 16, .rw, 0x8⟩
def Q_CREDIT_CFG_OPEN_TMO (q : Nat) : Field := ⟨0x2040100C + 0x40 * min q 64, 16, 16, .rw, 0x64⟩
def Q_WM_HI_HI (q : Nat) : Field := ⟨0x20401010 + 0x40 * min q 64, 0, 32, .rw, 0xFFFFFFFF⟩
def Q_WM_LO_LO (q : Nat) : Field := ⟨0x20401014 + 0x40 * min q 64, 0, 32, .rw, 0x0⟩
def Q_SPILL_BASE_BASE (q : Nat) : Field := ⟨0x20401018 + 0x40 * min q 64, 0, 28, .rw, 0x0⟩
def Q_SPILL_CFG_BANKS (q : Nat) : Field := ⟨0x2040101C + 0x40 * min q 64, 0, 8, .rw, 0x1⟩
def Q_STAT_XOFF (q : Nat) : Field := ⟨0x20401020 + 0x40 * min q 64, 0, 1, .ro, 0x0⟩
def Q_STAT_OPEN (q : Nat) : Field := ⟨0x20401020 + 0x40 * min q 64, 1, 1, .ro, 0x0⟩
def Q_STAT_SPILLING (q : Nat) : Field := ⟨0x20401020 + 0x40 * min q 64, 2, 1, .ro, 0x0⟩
def Q_STAT_SPILLED (q : Nat) : Field := ⟨0x20401020 + 0x40 * min q 64, 8, 8, .ro, 0x0⟩
def Q_LEVEL_LEVEL (q : Nat) : Field := ⟨0x20401024 + 0x40 * min q 64, 0, 32, .ro, 0x0⟩
def Q_FLT_OVERRUN (q : Nat) : Field := ⟨0x20401028 + 0x40 * min q 64, 0, 1, .w1c, 0x0⟩
def Q_FLT_TRUNC (q : Nat) : Field := ⟨0x20401028 + 0x40 * min q 64, 1, 1, .w1c, 0x0⟩
def Q_FLT_PKT_TMO (q : Nat) : Field := ⟨0x20401028 + 0x40 * min q 64, 2, 1, .w1c, 0x0⟩
def Q_FLT_UNDERRUN (q : Nat) : Field := ⟨0x20401028 + 0x40 * min q 64, 3, 1, .w1c, 0x0⟩
def Q_FLT_LOST (q : Nat) : Field := ⟨0x20401028 + 0x40 * min q 64, 4, 1, .w1c, 0x0⟩
def Q_FLT_CFG_ERR (q : Nat) : Field := ⟨0x20401028 + 0x40 * min q 64, 5, 1, .w1c, 0x0⟩
def Q_CNT_LOST_CNT (q : Nat) : Field := ⟨0x2040102C + 0x40 * min q 64, 0, 16, .rc, 0x0⟩
def Q_CNT_DISCARD_CNT (q : Nat) : Field := ⟨0x2040102C + 0x40 * min q 64, 16, 16, .rc, 0x0⟩
def Q_CMD_CMD (q : Nat) : Field := ⟨0x20401030 + 0x40 * min q 64, 0, 2, .wo, 0x0⟩
def Q_IRQ_PKT (q : Nat) : Field := ⟨0x20401034 + 0x40 * min q 64, 0, 1, .rw, 0x0⟩
def Q_IRQ_HI (q : Nat) : Field := ⟨0x20401034 + 0x40 * min q 64, 1, 1, .rw, 0x0⟩
def Q_NEXT_HDR (q : Nat) : Field := ⟨0x20440000 + 0x1000 * min q 64, 0, 32, .ro, 0x0⟩
def Q_DATA_DATA (q : Nat) : Field := ⟨0x20440004 + 0x1000 * min q 64, 0, 32, .ro, 0x0⟩
def Q_DSTAT_END (q : Nat) : Field := ⟨0x20440008 + 0x1000 * min q 64, 0, 1, .ro, 0x0⟩
def Q_DSTAT_POISON (q : Nat) : Field := ⟨0x20440008 + 0x1000 * min q 64, 1, 1, .ro, 0x0⟩
def Q_DSTAT_REMAIN (q : Nat) : Field := ⟨0x20440008 + 0x1000 * min q 64, 16, 16, .ro, 0x0⟩
def Q_PKT_CNT_CNT (q : Nat) : Field := ⟨0x2044000C + 0x1000 * min q 64, 0, 32, .ro, 0x0⟩
def Q_CREDIT_CREDIT (q : Nat) : Field := ⟨0x20480000 + 0x1000 * min q 64, 0, 19, .ro, 0x0⟩
def Q_PCTL_PRIO (q : Nat) : Field := ⟨0x20480004 + 0x1000 * min q 64, 0, 3, .wo, 0x0⟩
def Q_PCTL_POISON_NEXT (q : Nat) : Field := ⟨0x20480004 + 0x1000 * min q 64, 8, 1, .wo, 0x0⟩
def Q_PCTL_ABORT (q : Nat) : Field := ⟨0x20480004 + 0x1000 * min q 64, 9, 1, .wo, 0x0⟩
def Q_WR_DATA (q : Nat) : Field := ⟨0x20480008 + 0x1000 * min q 64, 0, 32, .wo, 0x0⟩
def Q_WR_END_DATA (q : Nat) : Field := ⟨0x2048000C + 0x1000 * min q 64, 0, 32, .wo, 0x0⟩

/-! Table 10-13 (10_tilth_cell_state.md, R269) -/
def TIL_CTL_EN : Field := ⟨0x20500000, 0, 1, .rw, 0x0⟩
def TIL_CTL_RESUME : Field := ⟨0x20500000, 1, 1, .rw, 0x1⟩
def TIL_CTL_MODEL_EN : Field := ⟨0x20500000, 2, 1, .rw, 0x1⟩
def TIL_CTL_DIV_EN : Field := ⟨0x20500000, 3, 1, .rw, 0x0⟩
def TIL_CTL_OWNER : Field := ⟨0x20500000, 8, 3, .rw, 0x0⟩
def TIL_CTL_OWNER_VALID : Field := ⟨0x20500000, 11, 1, .rw, 0x0⟩
def TIL_STAT_RUNNING : Field := ⟨0x20500004, 0, 1, .ro, 0x0⟩
def TIL_STAT_UC_LOCKED : Field := ⟨0x20500004, 1, 1, .ro, 0x0⟩
def TIL_STAT_PSET_VALID : Field := ⟨0x20500004, 2, 1, .ro, 0x0⟩
def TIL_STAT_COMMIT_PEND : Field := ⟨0x20500004, 3, 1, .ro, 0x0⟩
def TIL_STAT_DEGRADED : Field := ⟨0x20500004, 4, 1, .ro, 0x0⟩
def TIL_FLT_CFG_ERR : Field := ⟨0x20500008, 0, 1, .w1c, 0x0⟩
def TIL_FLT_CAP_OFF : Field := ⟨0x20500008, 1, 1, .w1c, 0x0⟩
def TIL_FLT_DEADLINE : Field := ⟨0x20500008, 2, 1, .w1c, 0x0⟩
def TIL_FLT_SET_LOST : Field := ⟨0x20500008, 3, 1, .w1c, 0x0⟩
def TIL_FLT_NOTE_LOST : Field := ⟨0x20500008, 4, 1, .w1c, 0x0⟩
def TIL_FLT_PARAM_ERR : Field := ⟨0x20500008, 5, 1, .w1c, 0x0⟩
def TIL_FLT_SUSPECT : Field := ⟨0x20500008, 6, 1, .w1c, 0x0⟩
def TIL_WORK_BASE_BASE : Field := ⟨0x2050000C, 0, 20, .rw, 0x0⟩
def TIL_RES_BASE_BASE : Field := ⟨0x20500010, 0, 20, .rw, 0x0⟩
def TIL_PARAM_BASE_BASE : Field := ⟨0x20500014, 0, 20, .rw, 0x0⟩
def TIL_PCMD_CMD : Field := ⟨0x20500018, 0, 2, .wo, 0x0⟩
def TIL_PSTAT_PSEQ : Field := ⟨0x2050001C, 0, 16, .ro, 0x0⟩
def TIL_PERR_CELL : Field := ⟨0x20500020, 0, 13, .ro, 0x1FFF⟩
def TIL_PERR_REASON : Field := ⟨0x20500020, 13, 3, .ro, 0x0⟩
def TIL_PERR_TABLE : Field := ⟨0x20500020, 16, 4, .ro, 0x0⟩
def TIL_STAT_CFG_LEN : Field := ⟨0x20500024, 0, 13, .rw, 0x32⟩
def TIL_STAT_CFG_MIN_PCT : Field := ⟨0x20500024, 16, 8, .rw, 0x5A⟩
def TIL_DIV_SLOT_METRIC (s : Nat) : Field := ⟨0x20500028, 8 * min s 3, 3, .rw, 0x0⟩
def TIL_DIV_SLOT_BIN (s : Nat) : Field := ⟨0x20500028, 8 * min s 3 + 3, 5, .rw, 0x0⟩
def TIL_DIV_THR_THR : Field := ⟨0x2050002C, 0, 16, .rw, 0x400⟩
def TIL_DIV_THR_HYST : Field := ⟨0x2050002C, 16, 16, .rw, 0x80⟩
def TIL_DIV_CFG_PERSIST : Field := ⟨0x20500030, 0, 8, .rw, 0x3⟩
def TIL_DIV_CFG_MIN_CELLS : Field := ⟨0x20500030, 8, 8, .rw, 0x8⟩
def TIL_DIV_FLOOR_FLOOR (s : Nat) : Field := ⟨0x20500034 + 0x4 * min s 4, 0, 32, .rw, 0x10000⟩
def TIL_PUB_STATE_BANK : Field := ⟨0x20500044, 0, 1, .ro, 0x0⟩
def TIL_PUB_STAT_BANK : Field := ⟨0x20500044, 1, 1, .ro, 0x0⟩
def TIL_PUB_DIV_BANK : Field := ⟨0x20500044, 2, 1, .ro, 0x0⟩
def TIL_STATE_SEQ_WSEQ : Field := ⟨0x20500048, 0, 32, .ro, 0x0⟩
def TIL_STAT_SEQ_WSEQ : Field := ⟨0x2050004C, 0, 32, .ro, 0x0⟩
def TIL_LOAD_LOAD : Field := ⟨0x20500050, 0, 10, .ro, 0x0⟩
def TIL_LOAD_PEAK : Field := ⟨0x20500050, 16, 10, .ro, 0x0⟩
def TIL_CNT_SUSPECT_WIN : Field := ⟨0x20500054, 0, 16, .rc, 0x0⟩
def TIL_CNT_LATE_CNT : Field := ⟨0x20500054, 16, 16, .rc, 0x0⟩
def TIL_UC_ADDR_ADDR : Field := ⟨0x20500060, 0, 14, .rw, 0x0⟩
def TIL_UC_DATA_DATA : Field := ⟨0x20500064, 0, 32, .wo, 0x0⟩
def TIL_UC_CRC_CRC : Field := ⟨0x20500068, 0, 32, .ro, 0x0⟩
def TIL_UC_CTL_LOCK : Field := ⟨0x2050006C, 0, 1, .w1s, 0x0⟩
def TIL_UC_CTL_REV : Field := ⟨0x2050006C, 16, 16, .ro, 0x0⟩
def TIL_NOTE_QUEUE (p : Nat) : Field := ⟨0x20500100 + 0x4 * min p 8, 0, 6, .rw, 0x0⟩
def TIL_NOTE_KINDS (p : Nat) : Field := ⟨0x20500100 + 0x4 * min p 8, 8, 8, .rw, 0x0⟩
def TIL_NOTE_EN (p : Nat) : Field := ⟨0x20500100 + 0x4 * min p 8, 31, 1, .rw, 0x0⟩

/-! Table 11-11 (11_tilth_impedance.md, R293) -/
def TIL_ZCTL_Z_EN : Field := ⟨0x20500200, 0, 1, .rw, 0x0⟩
def TIL_ZLEN_LEN : Field := ⟨0x20500204, 0, 11, .rw, 0x32⟩
def TIL_ZLEN_ZMIN_PCT : Field := ⟨0x20500204, 16, 8, .rw, 0x5A⟩
def TIL_ZSTAT_ZRUNNING : Field := ⟨0x20500208, 0, 1, .ro, 0x0⟩
def TIL_ZSTAT_LANE_FLT : Field := ⟨0x20500208, 1, 1, .ro, 0x0⟩
def TIL_ZSTAT_SWEEPS : Field := ⟨0x20500208, 2, 2, .ro, 0x0⟩
def TIL_ZFLT_ZDEADLINE : Field := ⟨0x2050020C, 0, 1, .w1c, 0x0⟩
def TIL_ZFLT_REPORT_LOST : Field := ⟨0x2050020C, 1, 1, .w1c, 0x0⟩
def TIL_ZFLT_LANE_SEEN : Field := ⟨0x2050020C, 2, 1, .w1c, 0x0⟩
def TIL_ZPERR_INDEX : Field := ⟨0x20500210, 0, 5, .ro, 0x1F⟩
def TIL_ZPERR_REASON : Field := ⟨0x20500210, 5, 3, .ro, 0x0⟩
def TIL_ZPUB_BANK : Field := ⟨0x20500214, 0, 1, .ro, 0x0⟩
def TIL_Z_SEQ_WSEQ : Field := ⟨0x20500218, 0, 32, .ro, 0x0⟩
def TIL_ZFREQ_FW : Field := ⟨0x2050021C, 0, 32, .ro, 0x0⟩
def TIL_MM_CNT_CNT : Field := ⟨0x20500220, 0, 16, .rc, 0x0⟩
def TIL_MM_LAST_CELL : Field := ⟨0x20500224, 0, 13, .ro, 0x1FFF⟩
def TIL_MM_LAST_KIND : Field := ⟨0x20500224, 13, 3, .ro, 0x0⟩
def TIL_MM_LANE_CNT (p : Nat) : Field := ⟨0x20500240 + 0x4 * min p 8, 0, 16, .rc, 0x0⟩

/-! Table 12-8 (12_pommel_protection.md, R314) -/
def POM_STAT_RUN : Field := ⟨0x20600000, 0, 1, .ro, 0x0⟩
def POM_STAT_SPLIT : Field := ⟨0x20600000, 1, 1, .ro, 0x0⟩
def POM_STAT_INJ_OK : Field := ⟨0x20600000, 2, 1, .ro, 0x0⟩
def POM_STAT_TRIPPED : Field := ⟨0x20600000, 3, 1, .ro, 0x0⟩
def POM_STAT_SLS_ON : Field := ⟨0x20600000, 4, 4, .ro, 0x0⟩
def POM_STAT_ARM : Field := ⟨0x20600000, 8, 1, .ro, 0x0⟩
def POM_FLT_CORE : Field := ⟨0x20600004, 0, 1, .w1c, 0x0⟩
def POM_FLT_DLY : Field := ⟨0x20600004, 1, 1, .w1c, 0x0⟩
def POM_FLT_COMP : Field := ⟨0x20600004, 2, 1, .w1c, 0x0⟩
def POM_FLT_ECC : Field := ⟨0x20600004, 3, 1, .w1c, 0x0⟩
def POM_FLT_SLS_STUCK : Field := ⟨0x20600004, 4, 8, .w1c, 0x0⟩
def POM_FLT_SLS_OC : Field := ⟨0x20600004, 12, 4, .w1c, 0x0⟩
def POM_TRIP_LATCH : Field := ⟨0x20600008, 0, 18, .ro, 0x0⟩
def POM_BOOT_SPLIT : Field := ⟨0x2060000C, 0, 1, .rw, 0x0⟩
def POM_INJ_CNT_PASSES : Field := ⟨0x20600010, 0, 16, .rc, 0x0⟩
def POM_SUSP_CNT_CNT : Field := ⟨0x20600014, 0, 16, .rc, 0x0⟩
def POM_EVQ_QUEUE : Field := ⟨0x20600018, 0, 6, .rw, 0x0⟩
def POM_CAN_CTRL : Field := ⟨0x2060001C, 0, 3, .rw, 0x0⟩
def POM_CAN_ID : Field := ⟨0x2060001C, 8, 11, .rw, 0x20⟩
def POM_CAN_PARTNER_ID : Field := ⟨0x2060001C, 19, 11, .rw, 0x21⟩
def POM_MB_CMD_CMD : Field := ⟨0x20600020, 0, 8, .wo, 0x0⟩
def POM_MB_CMD_KEY : Field := ⟨0x20600020, 16, 16, .wo, 0x0⟩
def POM_MB_ARG0_ARG0 : Field := ⟨0x20600024, 0, 32, .rw, 0x0⟩
def POM_MB_ARG1_ARG1 : Field := ⟨0x20600028, 0, 32, .rw, 0x0⟩
def POM_MB_RSP_STATUS : Field := ⟨0x2060002C, 0, 16, .ro, 0x0⟩
def POM_MB_RSP_BUSY : Field := ⟨0x2060002C, 31, 1, .ro, 0x0⟩
def POM_MB_DATA_DATA : Field := ⟨0x20600030, 0, 32, .ro, 0x0⟩

/-! Table 13-9 (13_load_switches.md, R342) -/
def LS_EVQ_QUEUE : Field := ⟨0x20700000, 0, 6, .rw, 0x0⟩
def LS_ON_MAP_ON : Field := ⟨0x20700004, 0, 24, .ro, 0x0⟩
def LS_FLT_MAP_FLT : Field := ⟨0x20700008, 0, 24, .ro, 0x0⟩
def LS_FEED_IA : Field := ⟨0x2070000C, 0, 16, .ro, 0x0⟩
def LS_FEED_IB : Field := ⟨0x2070000C, 16, 16, .ro, 0x0⟩
def LS_BANK_TEMP (b : Nat) : Field := ⟨0x20700010 + 0x4 * min b 4, 0, 16, .ro, 0x0⟩
def LS_BANK_WARN (b : Nat) : Field := ⟨0x20700010 + 0x4 * min b 4, 16, 1, .ro, 0x0⟩
def LS_BANK_HOT (b : Nat) : Field := ⟨0x20700010 + 0x4 * min b 4, 17, 1, .ro, 0x0⟩
def LS_BANK_FLT_HOT_SEEN : Field := ⟨0x20700020, 0, 4, .w1c, 0x0⟩
def LS_BANK_FLT_WARN_SEEN : Field := ⟨0x20700020, 4, 4, .w1c, 0x0⟩
def LS_SVC_CH : Field := ⟨0x20700024, 0, 5, .wo, 0x0⟩
def LS_SVC_ON : Field := ⟨0x20700024, 8, 1, .wo, 0x0⟩
def LS_SVC_DUR : Field := ⟨0x20700024, 16, 16, .wo, 0x0⟩
def LS_SPAN_OVERLAP : Field := ⟨0x20700028, 0, 8, .rw, 0x14⟩
def LS_PROF_OWN_OWNER (k : Nat) : Field := ⟨0x2070002C, 4 * min k 7, 4, .rw, 0xF⟩
def LS_PCHK_X : Field := ⟨0x20700030, 0, 4, .wo, 0x0⟩
def LS_PVALID_VALID : Field := ⟨0x20700034, 0, 16, .ro, 0xFF⟩
def LS_PERR_X : Field := ⟨0x20700038, 0, 4, .ro, 0x0⟩
def LS_PERR_REASON : Field := ⟨0x20700038, 4, 4, .ro, 0x0⟩
def LS_PERR_SEG : Field := ⟨0x20700038, 8, 3, .ro, 0x0⟩
def LS_SHED_CNT_SHED_A : Field := ⟨0x2070003C, 0, 16, .rc, 0x0⟩
def LS_SHED_CNT_SHED_B : Field := ⟨0x2070003C, 16, 16, .rc, 0x0⟩
def LS_PLOTQ_QUEUE (p : Nat) : Field := ⟨0x20700040 + 0x4 * min p 8, 0, 6, .rw, 0x0⟩
def LS_PLOTQ_EN (p : Nat) : Field := ⟨0x20700040 + 0x4 * min p 8, 31, 1, .rw, 0x0⟩
def LS_PROF_DATA (x w : Nat) : Field := ⟨0x20700800 + 0x40 * min x 16 + 0x4 * min w 16, 0, 32, if x < 8 then .ro else .rw, lsPreload x w⟩
def LS_CFG_PROFILE (n : Nat) : Field := ⟨0x20701000 + 0x40 * min n 24, 0, 4, .rw, 0x0⟩
def LS_CFG_PAR (n : Nat) : Field := ⟨0x20701000 + 0x40 * min n 24, 4, 2, .rw, 0x0⟩
def LS_CFG_SHED (n : Nat) : Field := ⟨0x20701000 + 0x40 * min n 24, 8, 3, .rw, 0x0⟩
def LS_REQ_ON (n : Nat) : Field := ⟨0x20701004 + 0x40 * min n 24, 0, 1, .rw, 0x0⟩
def LS_REQ_CLEAR (n : Nat) : Field := ⟨0x20701004 + 0x40 * min n 24, 1, 1, .wo, 0x0⟩
def LS_STAT_STATE (n : Nat) : Field := ⟨0x20701008 + 0x40 * min n 24, 0, 3, .ro, 0x0⟩
def LS_STAT_SEG (n : Nat) : Field := ⟨0x20701008 + 0x40 * min n 24, 3, 3, .ro, 0x0⟩
def LS_STAT_LIMITING (n : Nat) : Field := ⟨0x20701008 + 0x40 * min n 24, 6, 1, .ro, 0x0⟩
def LS_STAT_LOW (n : Nat) : Field := ⟨0x20701008 + 0x40 * min n 24, 7, 1, .ro, 0x0⟩
def LS_STAT_SHARED (n : Nat) : Field := ⟨0x20701008 + 0x40 * min n 24, 8, 1, .ro, 0x0⟩
def LS_STAT_EXT_DRIVEN (n : Nat) : Field := ⟨0x20701008 + 0x40 * min n 24, 9, 1, .ro, 0x0⟩
def LS_STAT_MEMBER (n : Nat) : Field := ⟨0x20701008 + 0x40 * min n 24, 10, 1, .ro, 0x0⟩
def LS_STAT_UV_HELD (n : Nat) : Field := ⟨0x20701008 + 0x40 * min n 24, 11, 1, .ro, 0x0⟩
def LS_STAT_RETRIES (n : Nat) : Field := ⟨0x20701008 + 0x40 * min n 24, 12, 4, .ro, 0x0⟩
def LS_FLT_SC (n : Nat) : Field := ⟨0x2070100C + 0x40 * min n 24, 0, 1, .w1c, 0x0⟩
def LS_FLT_LIM_TRIP (n : Nat) : Field := ⟨0x2070100C + 0x40 * min n 24, 1, 1, .w1c, 0x0⟩
def LS_FLT_I2T (n : Nat) : Field := ⟨0x2070100C + 0x40 * min n 24, 2, 1, .w1c, 0x0⟩
def LS_FLT_THERM (n : Nat) : Field := ⟨0x2070100C + 0x40 * min n 24, 3, 1, .w1c, 0x0⟩
def LS_FLT_BANK_HOT (n : Nat) : Field := ⟨0x2070100C + 0x40 * min n 24, 4, 1, .w1c, 0x0⟩
def LS_FLT_SHED (n : Nat) : Field := ⟨0x2070100C + 0x40 * min n 24, 5, 1, .w1c, 0x0⟩
def LS_FLT_PROF (n : Nat) : Field := ⟨0x2070100C + 0x40 * min n 24, 6, 1, .w1c, 0x0⟩
def LS_FLT_OPEN_ON (n : Nat) : Field := ⟨0x2070100C + 0x40 * min n 24, 7, 1, .w1c, 0x0⟩
def LS_FLT_OPEN_OFF (n : Nat) : Field := ⟨0x2070100C + 0x40 * min n 24, 8, 1, .w1c, 0x0⟩
def LS_FLT_OUT_HIGH (n : Nat) : Field := ⟨0x2070100C + 0x40 * min n 24, 9, 1, .w1c, 0x0⟩
def LS_FLT_STUCK (n : Nat) : Field := ⟨0x2070100C + 0x40 * min n 24, 10, 1, .w1c, 0x0⟩
def LS_FLT_REL_FAIL (n : Nat) : Field := ⟨0x2070100C + 0x40 * min n 24, 11, 1, .w1c, 0x0⟩
def LS_I_I (n : Nat) : Field := ⟨0x20701010 + 0x40 * min n 24, 0, 25, .ro, 0x0⟩
def LS_I_LOW (n : Nat) : Field := ⟨0x20701010 + 0x40 * min n 24, 31, 1, .ro, 0x0⟩
def LS_VOUT_VOUT (n : Nat) : Field := ⟨0x20701014 + 0x40 * min n 24, 0, 16, .ro, 0x0⟩
def LS_TJ_TJ (n : Nat) : Field := ⟨0x20701018 + 0x40 * min n 24, 0, 16, .ro, 0x0⟩
def LS_TJ_PEAK (n : Nat) : Field := ⟨0x20701018 + 0x40 * min n 24, 16, 16, .rc, 0x0⟩
def LS_I2T_USED (n : Nat) : Field := ⟨0x2070101C + 0x40 * min n 24, 0, 10, .ro, 0x0⟩
def LS_CNT_CUT_CNT (n : Nat) : Field := ⟨0x20701020 + 0x40 * min n 24, 0, 8, .rc, 0x0⟩
def LS_CNT_OPEN_CNT (n : Nat) : Field := ⟨0x20701020 + 0x40 * min n 24, 8, 8, .rc, 0x0⟩
def LS_CNT_ON_CNT (n : Nat) : Field := ⟨0x20701020 + 0x40 * min n 24, 16, 16, .ro, 0x0⟩
def LS_CLAMP_E (n : Nat) : Field := ⟨0x20701024 + 0x40 * min n 24, 0, 16, .ro, 0x0⟩

/-! Table 14-3 (14_stirrup_failsafe.md, R358) -/
def STR_CTL_SWX_EN : Field := ⟨0x20800000, 0, 1, .rw, 0x0⟩
def STR_STAT_STATE : Field := ⟨0x20800004, 0, 2, .ro, 0x0⟩
def STR_STAT_LINE0_OK : Field := ⟨0x20800004, 2, 1, .ro, 0x0⟩
def STR_STAT_LINE1_OK : Field := ⟨0x20800004, 3, 1, .ro, 0x0⟩
def STR_STAT_SWX_OK : Field := ⟨0x20800004, 4, 1, .ro, 0x0⟩
def STR_STAT_TABLES_OK : Field := ⟨0x20800004, 5, 1, .ro, 0x0⟩
def STR_STAT_SPAN : Field := ⟨0x20800004, 6, 1, .ro, 0x0⟩
def STR_FLT_PC0_LOST : Field := ⟨0x20800008, 0, 1, .w1c, 0x0⟩
def STR_FLT_PC1_LOST : Field := ⟨0x20800008, 1, 1, .w1c, 0x0⟩
def STR_FLT_SWX_LOST : Field := ⟨0x20800008, 2, 1, .w1c, 0x0⟩
def STR_FLT_EARLY : Field := ⟨0x20800008, 3, 1, .w1c, 0x0⟩
def STR_FLT_FRAME_ERR : Field := ⟨0x20800008, 4, 1, .w1c, 0x0⟩
def STR_FLT_FS_NOW : Field := ⟨0x20800008, 5, 1, .w1c, 0x0⟩
def STR_FLT_HOLD_EXPIRED : Field := ⟨0x20800008, 6, 1, .w1c, 0x0⟩
def STR_FLT_RECLAIM_EXPIRED : Field := ⟨0x20800008, 7, 1, .w1c, 0x0⟩
def STR_SWX_CFG_MIN : Field := ⟨0x2080000C, 0, 16, .rw, 0x32⟩
def STR_SWX_CFG_MAX : Field := ⟨0x2080000C, 16, 16, .rw, 0x7D0⟩
def STR_HOLD_TMO_TMO : Field := ⟨0x20800010, 0, 16, .rw, 0x0⟩
def STR_RECLAIM_TMO_TMO : Field := ⟨0x20800014, 0, 16, .rw, 0x2710⟩
def STR_PARTNER_TMO_TMO : Field := ⟨0x20800018, 0, 16, .rw, 0x14⟩
def STR_FS_LS_LO_CODE (n : Nat) : Field := ⟨0x20800020, 2 * min n 15, 2, .rw, 0x0⟩
def STR_FS_LS_HI_CODE (n : Nat) : Field := ⟨0x20800024, 2 * min n 15, 2, .rw, 0x0⟩
def STR_FS_DIO_LO_CODE (n : Nat) : Field := ⟨0x20800028, 2 * min n 15, 2, .rw, 0x0⟩
def STR_FS_DIO_HI_CODE (n : Nat) : Field := ⟨0x2080002C, 2 * min n 15, 2, .rw, 0x0⟩
def STR_HELD_LS_HELD : Field := ⟨0x20800030, 0, 24, .ro, 0x0⟩
def STR_HELD_DIO_HELD : Field := ⟨0x20800034, 0, 32, .ro, 0x0⟩
def STR_REL_LS_REL : Field := ⟨0x20800038, 0, 24, .wo, 0x0⟩
def STR_REL_DIO_REL : Field := ⟨0x2080003C, 0, 32, .wo, 0x0⟩
def STR_LAST_LS_LAST : Field := ⟨0x20800040, 0, 24, .ro, 0x0⟩
def STR_LAST_DIO_LAST : Field := ⟨0x20800044, 0, 32, .ro, 0x0⟩
def STR_GONE_LS_GONE : Field := ⟨0x20800048, 0, 24, .ro, 0x0⟩
def STR_GONE_DIO_GONE : Field := ⟨0x2080004C, 0, 32, .ro, 0x0⟩
def STR_CNT_HOLDS : Field := ⟨0x20800050, 0, 8, .rc, 0x0⟩
def STR_CNT_FAILSAFES : Field := ⟨0x20800050, 8, 8, .rc, 0x0⟩
def STR_CNT_BAD : Field := ⟨0x20800050, 16, 16, .rc, 0x0⟩

/-! Table 15-5 (15_field_io.md, R373) -/
def DIO_EVQ_QUEUE : Field := ⟨0x20900000, 0, 6, .rw, 0x0⟩
def DIO_LEVEL_LEVEL : Field := ⟨0x20900004, 0, 32, .ro, 0x0⟩
def DIO_ON_MAP_ON : Field := ⟨0x20900008, 0, 32, .ro, 0x0⟩
def DIO_FLT_MAP_FLT : Field := ⟨0x2090000C, 0, 32, .ro, 0x0⟩
def DIO_SVC_CH : Field := ⟨0x20900010, 0, 5, .wo, 0x0⟩
def DIO_SVC_ON : Field := ⟨0x20900010, 8, 1, .wo, 0x0⟩
def DIO_SVC_DUR : Field := ⟨0x20900010, 16, 16, .wo, 0x0⟩
def DIO_PLOTQ_QUEUE (p : Nat) : Field := ⟨0x20900040 + 0x4 * min p 8, 0, 6, .rw, 0x0⟩
def DIO_PLOTQ_EN (p : Nat) : Field := ⟨0x20900040 + 0x4 * min p 8, 31, 1, .rw, 0x0⟩
def DIO_CFG_DIR (n : Nat) : Field := ⟨0x20901000 + 0x40 * min n 32, 0, 1, .rw, 0x0⟩
def DIO_CFG_TYPE (n : Nat) : Field := ⟨0x20901000 + 0x40 * min n 32, 1, 1, .rw, 0x0⟩
def DIO_CFG_WB_EN (n : Nat) : Field := ⟨0x20901000 + 0x40 * min n 32, 2, 1, .rw, 0x0⟩
def DIO_CFG_OL_EN (n : Nat) : Field := ⟨0x20901000 + 0x40 * min n 32, 3, 1, .rw, 0x0⟩
def DIO_CFG_EDGE (n : Nat) : Field := ⟨0x20901000 + 0x40 * min n 32, 4, 2, .rw, 0x0⟩
def DIO_CFG_WAKE (n : Nat) : Field := ⟨0x20901000 + 0x40 * min n 32, 6, 1, .rw, 0x0⟩
def DIO_CFG_PAR (n : Nat) : Field := ⟨0x20901000 + 0x40 * min n 32, 8, 2, .rw, 0x0⟩
def DIO_CFG_RETRY (n : Nat) : Field := ⟨0x20901000 + 0x40 * min n 32, 10, 3, .rw, 0x3⟩
def DIO_CFG_FCL (n : Nat) : Field := ⟨0x20901000 + 0x40 * min n 32, 16, 3, .rw, 0x0⟩
def DIO_CFG_FCL_EN (n : Nat) : Field := ⟨0x20901000 + 0x40 * min n 32, 19, 1, .rw, 0x0⟩
def DIO_CFG_LIM_TIME (n : Nat) : Field := ⟨0x20901000 + 0x40 * min n 32, 24, 8, .rw, 0xA⟩
def DIO_DEB_DEB (n : Nat) : Field := ⟨0x20901004 + 0x40 * min n 32, 0, 16, .rw, 0x3E8⟩
def DIO_REQ_ON (n : Nat) : Field := ⟨0x20901008 + 0x40 * min n 32, 0, 1, .rw, 0x0⟩
def DIO_REQ_CLEAR (n : Nat) : Field := ⟨0x20901008 + 0x40 * min n 32, 1, 1, .wo, 0x0⟩
def DIO_STAT_LEVEL (n : Nat) : Field := ⟨0x2090100C + 0x40 * min n 32, 0, 1, .ro, 0x0⟩
def DIO_STAT_RAW (n : Nat) : Field := ⟨0x2090100C + 0x40 * min n 32, 1, 1, .ro, 0x0⟩
def DIO_STAT_STATE (n : Nat) : Field := ⟨0x2090100C + 0x40 * min n 32, 2, 3, .ro, 0x6⟩
def DIO_STAT_LIMITING (n : Nat) : Field := ⟨0x2090100C + 0x40 * min n 32, 5, 1, .ro, 0x0⟩
def DIO_STAT_MEMBER (n : Nat) : Field := ⟨0x2090100C + 0x40 * min n 32, 6, 1, .ro, 0x0⟩
def DIO_STAT_FCL_DRIVEN (n : Nat) : Field := ⟨0x2090100C + 0x40 * min n 32, 7, 1, .ro, 0x0⟩
def DIO_STAT_RETRIES (n : Nat) : Field := ⟨0x2090100C + 0x40 * min n 32, 8, 3, .ro, 0x0⟩
def DIO_FLT_LIMIT (n : Nat) : Field := ⟨0x20901010 + 0x40 * min n 32, 0, 1, .w1c, 0x0⟩
def DIO_FLT_THERM (n : Nat) : Field := ⟨0x20901010 + 0x40 * min n 32, 1, 1, .w1c, 0x0⟩
def DIO_FLT_OPEN_ON (n : Nat) : Field := ⟨0x20901010 + 0x40 * min n 32, 2, 1, .w1c, 0x0⟩
def DIO_FLT_OUT_HIGH (n : Nat) : Field := ⟨0x20901010 + 0x40 * min n 32, 3, 1, .w1c, 0x0⟩
def DIO_FLT_OUT_LOW (n : Nat) : Field := ⟨0x20901010 + 0x40 * min n 32, 4, 1, .w1c, 0x0⟩
def DIO_FLT_WIRE_BREAK (n : Nat) : Field := ⟨0x20901010 + 0x40 * min n 32, 5, 1, .w1c, 0x0⟩
def DIO_FLT_EDGE_LOST (n : Nat) : Field := ⟨0x20901010 + 0x40 * min n 32, 6, 1, .w1c, 0x0⟩
def DIO_MEAS_I (n : Nat) : Field := ⟨0x20901014 + 0x40 * min n 32, 0, 16, .ro, 0x0⟩
def DIO_MEAS_VPIN (n : Nat) : Field := ⟨0x20901014 + 0x40 * min n 32, 16, 16, .ro, 0x0⟩
def DIO_EDGE_CYC_CYC (n : Nat) : Field := ⟨0x20901018 + 0x40 * min n 32, 0, 32, .ro, 0x0⟩
def DIO_EDGE_ANG_ANG (n : Nat) : Field := ⟨0x2090101C + 0x40 * min n 32, 0, 32, .ro, 0x0⟩
def DIO_EDGE_NS_NS (n : Nat) : Field := ⟨0x20901020 + 0x40 * min n 32, 0, 30, .ro, 0x0⟩
def DIO_EDGE_NS_RISE (n : Nat) : Field := ⟨0x20901020 + 0x40 * min n 32, 31, 1, .ro, 0x0⟩
def DIO_EDGE_S_LO_S_LO (n : Nat) : Field := ⟨0x20901024 + 0x40 * min n 32, 0, 32, .ro, 0x0⟩
def DIO_EDGE_S_HI_S_HI (n : Nat) : Field := ⟨0x20901028 + 0x40 * min n 32, 0, 16, .ro, 0x0⟩
def DIO_EDGE_S_HI_EDGES (n : Nat) : Field := ⟨0x20901028 + 0x40 * min n 32, 16, 16, .ro, 0x0⟩

/-! Table 16-9 (16_can_fd.md, R396) -/
def CAN_CTL_MODE (i : Nat) : Field := ⟨0x20A00000 + 0x1000 * min i 8, 0, 2, .rw, 0x0⟩
def CAN_CTL_FD_EN (i : Nat) : Field := ⟨0x20A00000 + 0x1000 * min i 8, 2, 1, .rw, 0x1⟩
def CAN_CTL_TRIPLE (i : Nat) : Field := ⟨0x20A00000 + 0x1000 * min i 8, 3, 1, .rw, 0x0⟩
def CAN_CTL_PXD (i : Nat) : Field := ⟨0x20A00000 + 0x1000 * min i 8, 4, 1, .rw, 0x0⟩
def CAN_CTL_BOFF_FLUSH (i : Nat) : Field := ⟨0x20A00000 + 0x1000 * min i 8, 5, 1, .rw, 0x0⟩
def CAN_CTL_GW1200 (i : Nat) : Field := ⟨0x20A00000 + 0x1000 * min i 8, 6, 1, .rw, 0x0⟩
def CAN_NBT_NBRP (i : Nat) : Field := ⟨0x20A00004 + 0x1000 * min i 8, 0, 8, .rw, 0x1⟩
def CAN_NBT_NTSEG1 (i : Nat) : Field := ⟨0x20A00004 + 0x1000 * min i 8, 8, 8, .rw, 0x3E⟩
def CAN_NBT_NTSEG2 (i : Nat) : Field := ⟨0x20A00004 + 0x1000 * min i 8, 16, 7, .rw, 0xF⟩
def CAN_NBT_NSJW (i : Nat) : Field := ⟨0x20A00004 + 0x1000 * min i 8, 23, 7, .rw, 0xF⟩
def CAN_DBT_DBRP (i : Nat) : Field := ⟨0x20A00008 + 0x1000 * min i 8, 0, 5, .rw, 0x0⟩
def CAN_DBT_DTSEG1 (i : Nat) : Field := ⟨0x20A00008 + 0x1000 * min i 8, 8, 5, .rw, 0x1C⟩
def CAN_DBT_DTSEG2 (i : Nat) : Field := ⟨0x20A00008 + 0x1000 * min i 8, 16, 4, .rw, 0x9⟩
def CAN_DBT_DSJW (i : Nat) : Field := ⟨0x20A00008 + 0x1000 * min i 8, 24, 4, .rw, 0x9⟩
def CAN_DBT_TDC_EN (i : Nat) : Field := ⟨0x20A00008 + 0x1000 * min i 8, 31, 1, .rw, 0x1⟩
def CAN_TDC_TDCO (i : Nat) : Field := ⟨0x20A0000C + 0x1000 * min i 8, 0, 7, .rw, 0x1E⟩
def CAN_TDC_TDCF (i : Nat) : Field := ⟨0x20A0000C + 0x1000 * min i 8, 8, 7, .rw, 0x0⟩
def CAN_TDC_TDCV (i : Nat) : Field := ⟨0x20A0000C + 0x1000 * min i 8, 16, 7, .ro, 0x0⟩
def CAN_STAT_STATE (i : Nat) : Field := ⟨0x20A00010 + 0x1000 * min i 8, 0, 2, .ro, 0x0⟩
def CAN_STAT_EWARN (i : Nat) : Field := ⟨0x20A00010 + 0x1000 * min i 8, 2, 1, .ro, 0x0⟩
def CAN_STAT_SYNCED (i : Nat) : Field := ⟨0x20A00010 + 0x1000 * min i 8, 3, 1, .ro, 0x0⟩
def CAN_STAT_PXE (i : Nat) : Field := ⟨0x20A00010 + 0x1000 * min i 8, 4, 1, .ro, 0x0⟩
def CAN_STAT_BUS_DOM (i : Nat) : Field := ⟨0x20A00010 + 0x1000 * min i 8, 5, 1, .ro, 0x0⟩
def CAN_STAT_XCVR (i : Nat) : Field := ⟨0x20A00010 + 0x1000 * min i 8, 8, 2, .ro, 0x1⟩
def CAN_STAT_HELD (i : Nat) : Field := ⟨0x20A00010 + 0x1000 * min i 8, 16, 8, .ro, 0x0⟩
def CAN_ECNT_TEC (i : Nat) : Field := ⟨0x20A00014 + 0x1000 * min i 8, 0, 8, .ro, 0x0⟩
def CAN_ECNT_REC (i : Nat) : Field := ⟨0x20A00014 + 0x1000 * min i 8, 8, 8, .ro, 0x0⟩
def CAN_FLT_STUFF (i : Nat) : Field := ⟨0x20A00018 + 0x1000 * min i 8, 0, 1, .w1c, 0x0⟩
def CAN_FLT_FORM (i : Nat) : Field := ⟨0x20A00018 + 0x1000 * min i 8, 1, 1, .w1c, 0x0⟩
def CAN_FLT_ACK (i : Nat) : Field := ⟨0x20A00018 + 0x1000 * min i 8, 2, 1, .w1c, 0x0⟩
def CAN_FLT_BIT1 (i : Nat) : Field := ⟨0x20A00018 + 0x1000 * min i 8, 3, 1, .w1c, 0x0⟩
def CAN_FLT_BIT0 (i : Nat) : Field := ⟨0x20A00018 + 0x1000 * min i 8, 4, 1, .w1c, 0x0⟩
def CAN_FLT_CRC (i : Nat) : Field := ⟨0x20A00018 + 0x1000 * min i 8, 5, 1, .w1c, 0x0⟩
def CAN_FLT_EPASS (i : Nat) : Field := ⟨0x20A00018 + 0x1000 * min i 8, 6, 1, .w1c, 0x0⟩
def CAN_FLT_BOFF (i : Nat) : Field := ⟨0x20A00018 + 0x1000 * min i 8, 7, 1, .w1c, 0x0⟩
def CAN_FLT_PXE_SEEN (i : Nat) : Field := ⟨0x20A00018 + 0x1000 * min i 8, 8, 1, .w1c, 0x0⟩
def CAN_FLT_RXOVR (i : Nat) : Field := ⟨0x20A00018 + 0x1000 * min i 8, 9, 1, .w1c, 0x0⟩
def CAN_FLT_TT_MISS (i : Nat) : Field := ⟨0x20A00018 + 0x1000 * min i 8, 10, 1, .w1c, 0x0⟩
def CAN_FLT_DOM_TMO (i : Nat) : Field := ⟨0x20A00018 + 0x1000 * min i 8, 11, 1, .w1c, 0x0⟩
def CAN_FLT_BUS_DOM_SEEN (i : Nat) : Field := ⟨0x20A00018 + 0x1000 * min i 8, 12, 1, .w1c, 0x0⟩
def CAN_CMD_CMD (i : Nat) : Field := ⟨0x20A0001C + 0x1000 * min i 8, 0, 2, .wo, 0x0⟩
def CAN_CNT_RX_OK (i : Nat) : Field := ⟨0x20A00020 + 0x1000 * min i 8, 0, 16, .rc, 0x0⟩
def CAN_CNT_TX_OK (i : Nat) : Field := ⟨0x20A00020 + 0x1000 * min i 8, 16, 16, .rc, 0x0⟩
def CAN_ERRCNT_ERR_FRAMES (i : Nat) : Field := ⟨0x20A00024 + 0x1000 * min i 8, 0, 16, .rc, 0x0⟩
def CAN_ERRCNT_BOFF_CNT (i : Nat) : Field := ⟨0x20A00024 + 0x1000 * min i 8, 16, 8, .rc, 0x0⟩
def CAN_SYSQ_QUEUE (i : Nat) : Field := ⟨0x20A00028 + 0x1000 * min i 8, 0, 6, .rw, 0x0⟩
def CAN_SWK_ID_ID (i : Nat) : Field := ⟨0x20A00030 + 0x1000 * min i 8, 0, 29, .rw, 0x0⟩
def CAN_SWK_ID_IDE (i : Nat) : Field := ⟨0x20A00030 + 0x1000 * min i 8, 29, 1, .rw, 0x0⟩
def CAN_SWK_MASK_MASK (i : Nat) : Field := ⟨0x20A00034 + 0x1000 * min i 8, 0, 29, .rw, 0x1FFFFFFF⟩
def CAN_SWK_CFG_DLC (i : Nat) : Field := ⟨0x20A00038 + 0x1000 * min i 8, 0, 4, .rw, 0x0⟩
def CAN_SWK_CFG_DM_EN (i : Nat) : Field := ⟨0x20A00038 + 0x1000 * min i 8, 4, 1, .rw, 0x0⟩
def CAN_SWK_CFG_WUP_EN (i : Nat) : Field := ⟨0x20A00038 + 0x1000 * min i 8, 5, 1, .rw, 0x0⟩
def CAN_SWK_CFG_EN (i : Nat) : Field := ⟨0x20A00038 + 0x1000 * min i 8, 6, 1, .rw, 0x0⟩
def CAN_SWK_CFG_RATE (i : Nat) : Field := ⟨0x20A00038 + 0x1000 * min i 8, 8, 2, .rw, 0x2⟩
def CAN_SWK_CFG_ERRCNT (i : Nat) : Field := ⟨0x20A00038 + 0x1000 * min i 8, 16, 5, .ro, 0x0⟩
def CAN_SWK_DM_LO_DM (i : Nat) : Field := ⟨0x20A0003C + 0x1000 * min i 8, 0, 32, .rw, 0x0⟩
def CAN_SWK_DM_HI_DM (i : Nat) : Field := ⟨0x20A00040 + 0x1000 * min i 8, 0, 32, .rw, 0x0⟩
def CAN_SWK_STAT_WOKE (i : Nat) : Field := ⟨0x20A00044 + 0x1000 * min i 8, 0, 1, .w1c, 0x0⟩
def CAN_SWK_STAT_WUF (i : Nat) : Field := ⟨0x20A00044 + 0x1000 * min i 8, 1, 1, .w1c, 0x0⟩
def CAN_SWK_STAT_WUP (i : Nat) : Field := ⟨0x20A00044 + 0x1000 * min i 8, 2, 1, .w1c, 0x0⟩
def CAN_SWK_STAT_ERR (i : Nat) : Field := ⟨0x20A00044 + 0x1000 * min i 8, 3, 1, .w1c, 0x0⟩
def CAN_PTX_TXBASE (i p : Nat) : Field := ⟨0x20A00100 + 0x1000 * min i 8 + 0x10 * min p 8, 0, 6, .rw, 0x0⟩
def CAN_PTX_TXCOUNT (i p : Nat) : Field := ⟨0x20A00100 + 0x1000 * min i 8 + 0x10 * min p 8, 8, 6, .rw, 0x0⟩
def CAN_PTX_RECQ (i p : Nat) : Field := ⟨0x20A00100 + 0x1000 * min i 8 + 0x10 * min p 8, 16, 6, .rw, 0x0⟩
def CAN_PFLT_FBASE (i p : Nat) : Field := ⟨0x20A00104 + 0x1000 * min i 8 + 0x10 * min p 8, 0, 7, .rw, 0x0⟩
def CAN_PFLT_FCOUNT (i p : Nat) : Field := ⟨0x20A00104 + 0x1000 * min i 8 + 0x10 * min p 8, 8, 7, .rw, 0x0⟩
def CAN_PID_LO_LO (i p : Nat) : Field := ⟨0x20A00108 + 0x1000 * min i 8 + 0x10 * min p 8, 0, 29, .rw, 0x1FFFFFFF⟩
def CAN_PID_LO_IDE (i p : Nat) : Field := ⟨0x20A00108 + 0x1000 * min i 8 + 0x10 * min p 8, 29, 1, .rw, 0x0⟩
def CAN_PID_HI_HI (i p : Nat) : Field := ⟨0x20A0010C + 0x1000 * min i 8 + 0x10 * min p 8, 0, 29, .rw, 0x0⟩
def CAN_FE_ID_ID (i e : Nat) : Field := ⟨0x20A10000 + 0x1000 * min i 8 + 0x10 * min e 128, 0, 29, .rw, 0x0⟩
def CAN_FE_ID_IDE (i e : Nat) : Field := ⟨0x20A10000 + 0x1000 * min i 8 + 0x10 * min e 128, 29, 1, .rw, 0x0⟩
def CAN_FE_ID_EN (i e : Nat) : Field := ⟨0x20A10000 + 0x1000 * min i 8 + 0x10 * min e 128, 31, 1, .rw, 0x0⟩
def CAN_FE_MASK_MASK (i e : Nat) : Field := ⟨0x20A10004 + 0x1000 * min i 8 + 0x10 * min e 128, 0, 29, .rw, 0x1FFFFFFF⟩
def CAN_FE_CFG_QUEUE (i e : Nat) : Field := ⟨0x20A10008 + 0x1000 * min i 8 + 0x10 * min e 128, 0, 6, .rw, 0x0⟩
def CAN_FE_CFG_FMT (i e : Nat) : Field := ⟨0x20A10008 + 0x1000 * min i 8 + 0x10 * min e 128, 8, 2, .rw, 0x0⟩
def CAN_FE_CFG_REJECT (i e : Nat) : Field := ⟨0x20A10008 + 0x1000 * min i 8 + 0x10 * min e 128, 10, 1, .rw, 0x0⟩
def CAN_FE_HITS_HITS (i e : Nat) : Field := ⟨0x20A1000C + 0x1000 * min i 8 + 0x10 * min e 128, 0, 16, .rc, 0x0⟩
def CAN_TXB_ID_ID (i b : Nat) : Field := ⟨0x20A20000 + 0x2000 * min i 8 + 0x80 * min b 64, 0, 29, .rw, 0x0⟩
def CAN_TXB_ID_IDE (i b : Nat) : Field := ⟨0x20A20000 + 0x2000 * min i 8 + 0x80 * min b 64, 29, 1, .rw, 0x0⟩
def CAN_TXB_ID_RTR (i b : Nat) : Field := ⟨0x20A20000 + 0x2000 * min i 8 + 0x80 * min b 64, 30, 1, .rw, 0x0⟩
def CAN_TXB_CTL_DLC (i b : Nat) : Field := ⟨0x20A20004 + 0x2000 * min i 8 + 0x80 * min b 64, 0, 4, .rw, 0x0⟩
def CAN_TXB_CTL_FDF (i b : Nat) : Field := ⟨0x20A20004 + 0x2000 * min i 8 + 0x80 * min b 64, 4, 1, .rw, 0x0⟩
def CAN_TXB_CTL_BRS (i b : Nat) : Field := ⟨0x20A20004 + 0x2000 * min i 8 + 0x80 * min b 64, 5, 1, .rw, 0x0⟩
def CAN_TXB_CTL_ONESHOT (i b : Nat) : Field := ⟨0x20A20004 + 0x2000 * min i 8 + 0x80 * min b 64, 6, 1, .rw, 0x0⟩
def CAN_TXB_CTL_TT (i b : Nat) : Field := ⟨0x20A20004 + 0x2000 * min i 8 + 0x80 * min b 64, 7, 1, .rw, 0x0⟩
def CAN_TXB_CTL_TT_ABORT (i b : Nat) : Field := ⟨0x20A20004 + 0x2000 * min i 8 + 0x80 * min b 64, 8, 1, .rw, 0x0⟩
def CAN_TXB_CTL_REC (i b : Nat) : Field := ⟨0x20A20004 + 0x2000 * min i 8 + 0x80 * min b 64, 9, 1, .rw, 0x0⟩
def CAN_TXB_CTL_TT_WIN (i b : Nat) : Field := ⟨0x20A20004 + 0x2000 * min i 8 + 0x80 * min b 64, 16, 16, .rw, 0x10⟩
def CAN_TXB_CMD_REQ (i b : Nat) : Field := ⟨0x20A20008 + 0x2000 * min i 8 + 0x80 * min b 64, 0, 1, .wo, 0x0⟩
def CAN_TXB_CMD_ABORT (i b : Nat) : Field := ⟨0x20A20008 + 0x2000 * min i 8 + 0x80 * min b 64, 1, 1, .wo, 0x0⟩
def CAN_TXB_STAT_STATE (i b : Nat) : Field := ⟨0x20A2000C + 0x2000 * min i 8 + 0x80 * min b 64, 0, 3, .ro, 0x0⟩
def CAN_TXB_STAT_TT_MISS (i b : Nat) : Field := ⟨0x20A2000C + 0x2000 * min i 8 + 0x80 * min b 64, 3, 1, .w1c, 0x0⟩
def CAN_TXB_STAT_LATE (i b : Nat) : Field := ⟨0x20A2000C + 0x2000 * min i 8 + 0x80 * min b 64, 4, 1, .w1c, 0x0⟩
def CAN_TXB_STAT_LOST_ARB (i b : Nat) : Field := ⟨0x20A2000C + 0x2000 * min i 8 + 0x80 * min b 64, 5, 1, .w1c, 0x0⟩
def CAN_TXB_STAT_ERR (i b : Nat) : Field := ⟨0x20A2000C + 0x2000 * min i 8 + 0x80 * min b 64, 6, 1, .w1c, 0x0⟩
def CAN_TXB_STAT_NOT_ARMED (i b : Nat) : Field := ⟨0x20A2000C + 0x2000 * min i 8 + 0x80 * min b 64, 7, 1, .w1c, 0x0⟩
def CAN_TXB_STAT_ATTEMPTS (i b : Nat) : Field := ⟨0x20A2000C + 0x2000 * min i 8 + 0x80 * min b 64, 8, 8, .ro, 0x0⟩
def CAN_TXB_STAT_LOOP (i b : Nat) : Field := ⟨0x20A2000C + 0x2000 * min i 8 + 0x80 * min b 64, 16, 8, .ro, 0x0⟩
def CAN_TXB_CYC_CYC (i b : Nat) : Field := ⟨0x20A20010 + 0x2000 * min i 8 + 0x80 * min b 64, 0, 32, .ro, 0x0⟩
def CAN_TXB_ANG_ANG (i b : Nat) : Field := ⟨0x20A20014 + 0x2000 * min i 8 + 0x80 * min b 64, 0, 32, .ro, 0x0⟩
def CAN_TXB_NS_NS (i b : Nat) : Field := ⟨0x20A20018 + 0x2000 * min i 8 + 0x80 * min b 64, 0, 30, .ro, 0x0⟩
def CAN_TXB_S_LO_S_LO (i b : Nat) : Field := ⟨0x20A2001C + 0x2000 * min i 8 + 0x80 * min b 64, 0, 32, .ro, 0x0⟩
def CAN_TXB_S_HI_S_HI (i b : Nat) : Field := ⟨0x20A20020 + 0x2000 * min i 8 + 0x80 * min b 64, 0, 16, .ro, 0x0⟩
def CAN_TXB_DATA_DATA (i b w : Nat) : Field := ⟨0x20A20040 + 0x2000 * min i 8 + 0x80 * min b 64 + 0x4 * min w 16, 0, 32, .rw, 0x0⟩

/-! Table 17-4 (17_network_sleep.md, R412) -/
def NS_CTL_EN : Field := ⟨0x20A40000, 0, 1, .rw, 0x0⟩
def NS_CTL_CTRL : Field := ⟨0x20A40000, 1, 3, .rw, 0x0⟩
def NS_CTL_NODE : Field := ⟨0x20A40000, 4, 4, .rw, 0x0⟩
def NS_CTL_INIT : Field := ⟨0x20A40000, 8, 1, .rw, 0x0⟩
def NS_CTL_WAKE_ON_ABORT : Field := ⟨0x20A40000, 9, 1, .rw, 0x1⟩
def NS_CTL_WAKE_FWD : Field := ⟨0x20A40000, 10, 1, .rw, 0x0⟩
def NS_RING_RING : Field := ⟨0x20A40004, 0, 16, .rw, 0x0⟩
def NS_ID_BASE : Field := ⟨0x20A40008, 0, 11, .rw, 0x6E0⟩
def NS_TIME_CW : Field := ⟨0x20A4000C, 0, 10, .rw, 0x32⟩
def NS_TIME_ROUND_TMO : Field := ⟨0x20A4000C, 16, 16, .rw, 0xC8⟩
def NS_TIME2_RETRY_INT : Field := ⟨0x20A40010, 0, 16, .rw, 0x3E8⟩
def NS_TIME2_WAKE_PULSE : Field := ⟨0x20A40010, 16, 16, .rw, 0x64⟩
def NS_REQ_PLOTS_PLOTS : Field := ⟨0x20A40014, 0, 8, .rw, 0x0⟩
def NS_STAT_STATE : Field := ⟨0x20A40018, 0, 3, .ro, 0x0⟩
def NS_STAT_LOCAL : Field := ⟨0x20A40018, 3, 1, .ro, 0x0⟩
def NS_STAT_ROUND : Field := ⟨0x20A40018, 4, 4, .ro, 0x0⟩
def NS_STAT_WAKE_LOW : Field := ⟨0x20A40018, 8, 1, .ro, 0x0⟩
def NS_STAT_DRIVING : Field := ⟨0x20A40018, 9, 1, .ro, 0x0⟩
def NS_STAT_CONSENT : Field := ⟨0x20A40018, 16, 16, .ro, 0x0⟩
def NS_FLT_ROUND_TMO : Field := ⟨0x20A4001C, 0, 1, .w1c, 0x0⟩
def NS_FLT_ABORTED : Field := ⟨0x20A4001C, 1, 1, .w1c, 0x0⟩
def NS_FLT_NO_WAKE : Field := ⟨0x20A4001C, 2, 1, .w1c, 0x0⟩
def NS_FLT_PARTNER : Field := ⟨0x20A4001C, 3, 1, .w1c, 0x0⟩
def NS_FLT_FRAME_ERR : Field := ⟨0x20A4001C, 4, 1, .w1c, 0x0⟩
def NS_FLT_MISMATCH : Field := ⟨0x20A4001C, 5, 1, .w1c, 0x0⟩
def NS_FLT_GW_ERR : Field := ⟨0x20A4001C, 6, 1, .w1c, 0x0⟩
def NS_CMD_CMD : Field := ⟨0x20A40020, 0, 2, .wo, 0x0⟩
def NS_CNT_ROUNDS : Field := ⟨0x20A40024, 0, 8, .rc, 0x0⟩
def NS_CNT_COMMITS : Field := ⟨0x20A40024, 8, 8, .rc, 0x0⟩
def NS_CNT_ABORTS : Field := ⟨0x20A40024, 16, 8, .rc, 0x0⟩
def NS_CONSENT_CONSENT (p : Nat) : Field := ⟨0x20A40100 + 0x4 * min p 8, 0, 1, .rw, 0x0⟩
def PAIR_GW_STAT_ACTIVE (k : Nat) : Field := ⟨0x20A40200 + 0x200 * min k 4, 0, 1, .ro, 0x0⟩
def PAIR_GW_CNT_FWD (k : Nat) : Field := ⟨0x20A40204 + 0x200 * min k 4, 0, 16, .rc, 0x0⟩
def PAIR_GW_CNT_DROP (k : Nat) : Field := ⟨0x20A40204 + 0x200 * min k 4, 16, 16, .rc, 0x0⟩
def GW_PASS_LO_LO (k r : Nat) : Field := ⟨0x20A40210 + 0x200 * min k 4 + 0x8 * min r 32, 0, 29, .rw, 0x0⟩
def GW_PASS_LO_IDE (k r : Nat) : Field := ⟨0x20A40210 + 0x200 * min k 4 + 0x8 * min r 32, 29, 1, .rw, 0x0⟩
def GW_PASS_LO_DIR (k r : Nat) : Field := ⟨0x20A40210 + 0x200 * min k 4 + 0x8 * min r 32, 30, 1, .rw, 0x0⟩
def GW_PASS_LO_EN (k r : Nat) : Field := ⟨0x20A40210 + 0x200 * min k 4 + 0x8 * min r 32, 31, 1, .rw, 0x0⟩
def GW_PASS_HI_HI (k r : Nat) : Field := ⟨0x20A40214 + 0x200 * min k 4 + 0x8 * min r 32, 0, 29, .rw, 0x0⟩
def GW_PASS_HI_WAKE (k r : Nat) : Field := ⟨0x20A40214 + 0x200 * min k 4 + 0x8 * min r 32, 29, 1, .rw, 0x0⟩

/-! Table 18-9 (18_bridle.md, R437) -/
def BR_RETRY_RETRY_INT : Field := ⟨0x20B00000, 0, 16, .rw, 0x5⟩
def BR_RETRY_RETRY_MAX : Field := ⟨0x20B00000, 16, 16, .rw, 0x40⟩
def BR_TMO_RSP_TMO : Field := ⟨0x20B00004, 0, 16, .rw, 0xC8⟩
def BR_CNT_RETRIES : Field := ⟨0x20B00008, 0, 16, .rc, 0x0⟩
def BR_CNT_TMOS : Field := ⟨0x20B00008, 16, 16, .rc, 0x0⟩
def BR_ERRQ_QUEUE (p : Nat) : Field := ⟨0x20B00100 + 0x20 * min p 9, 0, 6, .rw, 0x0⟩
def BR_ERRQ_EN (p : Nat) : Field := ⟨0x20B00100 + 0x20 * min p 9, 31, 1, .rw, 0x0⟩
def BR_TAG_TAG (p : Nat) : Field := ⟨0x20B00104 + 0x20 * min p 9, 0, 16, .rw, 0x0⟩
def BR_FENCE_GO (p : Nat) : Field := ⟨0x20B00108 + 0x20 * min p 9, 0, 1, .wo, 0x0⟩
def BR_FENCE_STAT_BUSY (p : Nat) : Field := ⟨0x20B0010C + 0x20 * min p 9, 0, 1, .ro, 0x0⟩
def BR_FENCE_STAT_DONE (p : Nat) : Field := ⟨0x20B0010C + 0x20 * min p 9, 1, 1, .w1c, 0x0⟩
def BR_FENCE_STAT_STATUS (p : Nat) : Field := ⟨0x20B0010C + 0x20 * min p 9, 16, 16, .ro, 0x0⟩
def BR_LAST_STATUS (p : Nat) : Field := ⟨0x20B00110 + 0x20 * min p 9, 0, 16, .ro, 0x0⟩
def BR_LAST_TAG (p : Nat) : Field := ⟨0x20B00110 + 0x20 * min p 9, 16, 16, .ro, 0x0⟩
def BR_LAST_ADDR_LO_ADDR_LO (p : Nat) : Field := ⟨0x20B00114 + 0x20 * min p 9, 0, 32, .ro, 0x0⟩
def BR_LAST_ADDR_HI_ADDR_HI (p : Nat) : Field := ⟨0x20B00118 + 0x20 * min p 9, 0, 8, .ro, 0x0⟩
def BR_PCNT_ERRS (p : Nat) : Field := ⟨0x20B0011C + 0x20 * min p 9, 0, 16, .rc, 0x0⟩
def BR_PCNT_REC_LOST (p : Nat) : Field := ⟨0x20B0011C + 0x20 * min p 9, 16, 16, .rc, 0x0⟩
def GW_CMD_COMMIT : Field := ⟨0x20B01000, 0, 1, .wo, 0x0⟩
def GW_STAT_ACTIVE : Field := ⟨0x20B01004, 0, 1, .ro, 0x0⟩
def GW_STAT_PEND : Field := ⟨0x20B01004, 1, 1, .ro, 0x0⟩
def GW_ERR_INDEX : Field := ⟨0x20B01008, 0, 7, .ro, 0x7F⟩
def GW_ERR_KIND : Field := ⟨0x20B01008, 7, 2, .ro, 0x0⟩
def GW_ERR_REASON : Field := ⟨0x20B01008, 9, 4, .ro, 0x0⟩
def GW_TBL_DATA (w : Nat) : Field := ⟨0x20B08000 + 0x4 * min w 1216, 0, 32, .rw, 0x0⟩

/-! Table 18-10 (18_bridle.md, R438) -/
def XL_CTL_EN : Field := ⟨0x21000000, 0, 1, .rw, 0x1⟩
def XL_STAT_LINK : Field := ⟨0x21000004, 0, 1, .ro, 0x0⟩
def XL_STAT_PARTNER : Field := ⟨0x21000004, 1, 1, .ro, 0x0⟩
def XL_STAT_PSIDE : Field := ⟨0x21000004, 2, 1, .ro, 0x0⟩
def XL_STAT_OUT_BUSY : Field := ⟨0x21000004, 3, 1, .ro, 0x0⟩
def XL_STAT_IN_USE : Field := ⟨0x21000004, 4, 3, .ro, 0x0⟩
def XL_CNT_CRC_ERR : Field := ⟨0x21000008, 0, 16, .rc, 0x0⟩
def XL_CNT_RETRAIN : Field := ⟨0x21000008, 16, 16, .rc, 0x0⟩

/-! Table 20-10 (20_plots_span.md, R491) -/
def PC_STAT_TABLES_OK : Field := ⟨0x20C00000, 0, 1, .ro, 0x0⟩
def PC_STAT_SPAN_MATCH : Field := ⟨0x20C00000, 1, 1, .ro, 0x0⟩
def PC_CMD_COMMIT : Field := ⟨0x20C00004, 0, 1, .wo, 0x0⟩
def PC_CMD_KEY : Field := ⟨0x20C00004, 16, 16, .wo, 0x0⟩
def PC_TERR_PLOT : Field := ⟨0x20C00008, 0, 4, .ro, 0xF⟩
def PC_TERR_REASON : Field := ⟨0x20C00008, 4, 8, .ro, 0x0⟩
def PC_EVQ_QUEUE : Field := ⟨0x20C0000C, 0, 6, .rw, 0x0⟩
def PC_MIG_KEY_KEYSLOT : Field := ⟨0x20C00010, 0, 8, .rw, 0x0⟩
def PC_CKPT_BASE_BASE : Field := ⟨0x20C00014, 0, 28, .rw, 0x0⟩
def PC_CKPT_SIZE_SIZE : Field := ⟨0x20C00018, 0, 10, .rw, 0x0⟩
def PC_LS_OWN_OWNER (k j : Nat) : Field := ⟨0x20C00020 + 0x4 * min k 3, 4 * min j 7, 4, .ro, 0xF⟩
def PC_DIO_OWN_OWNER (k j : Nat) : Field := ⟨0x20C00030 + 0x4 * min k 4, 4 * min j 7, 4, .ro, 0xF⟩
def PC_TP_STAT_OWNER (c : Nat) : Field := ⟨0x20C00040 + 0x4 * min c 4, 0, 4, .ro, 0xF⟩
def PC_TP_STAT_WINDOW (c : Nat) : Field := ⟨0x20C00040 + 0x4 * min c 4, 4, 4, .ro, 0x0⟩
def PC_PCMD_CMD (p : Nat) : Field := ⟨0x20C00100 + 0x40 * min p 8, 0, 4, .wo, 0x0⟩
def PC_PCMD_KEY (p : Nat) : Field := ⟨0x20C00100 + 0x40 * min p 8, 16, 16, .wo, 0x0⟩
def PC_PSTAT_STATE (p : Nat) : Field := ⟨0x20C00104 + 0x40 * min p 8, 0, 3, .ro, 0x0⟩
def PC_PSTAT_HOME (p : Nat) : Field := ⟨0x20C00104 + 0x40 * min p 8, 3, 1, .ro, 0x0⟩
def PC_PSTAT_CKPT_VALID (p : Nat) : Field := ⟨0x20C00104 + 0x40 * min p 8, 4, 1, .ro, 0x0⟩
def PC_GEN_GEN (p : Nat) : Field := ⟨0x20C00108 + 0x40 * min p 8, 0, 32, .ro, 0x0⟩
def PC_PFLT_ACCESS (p : Nat) : Field := ⟨0x20C0010C + 0x40 * min p 8, 0, 1, .w1c, 0x0⟩
def PC_PFLT_WDOG (p : Nat) : Field := ⟨0x20C0010C + 0x40 * min p 8, 1, 1, .w1c, 0x0⟩
def PC_PFLT_VIOL_LIMIT (p : Nat) : Field := ⟨0x20C0010C + 0x40 * min p 8, 2, 1, .w1c, 0x0⟩
def PC_PFLT_DRAIN_TMO (p : Nat) : Field := ⟨0x20C0010C + 0x40 * min p 8, 3, 1, .w1c, 0x0⟩
def PC_PFLT_RESTART_LIMIT (p : Nat) : Field := ⟨0x20C0010C + 0x40 * min p 8, 4, 1, .w1c, 0x0⟩
def PC_PFLT_SELF_RESET (p : Nat) : Field := ⟨0x20C0010C + 0x40 * min p 8, 5, 1, .w1c, 0x0⟩
def PC_PFLT_MIG_FAIL (p : Nat) : Field := ⟨0x20C0010C + 0x40 * min p 8, 6, 1, .w1c, 0x0⟩
def PC_VIOL_CNT (p : Nat) : Field := ⟨0x20C00110 + 0x40 * min p 8, 0, 16, .rc, 0x0⟩
def PC_VIOL_VIOL_LIMIT (p : Nat) : Field := ⟨0x20C00110 + 0x40 * min p 8, 16, 8, .rw, 0x10⟩
def PC_VIOL_ADDR_LO_ADDR_LO (p : Nat) : Field := ⟨0x20C00114 + 0x40 * min p 8, 0, 32, .ro, 0x0⟩
def PC_VIOL_ADDR_HI_ADDR_HI (p : Nat) : Field := ⟨0x20C00118 + 0x40 * min p 8, 0, 8, .ro, 0x0⟩
def PC_WDOG_KICK (p : Nat) : Field := ⟨0x20C0011C + 0x40 * min p 8, 0, 16, .wo, 0x0⟩
def PC_RESTARTS_CNT (p : Nat) : Field := ⟨0x20C00120 + 0x40 * min p 8, 0, 8, .rc, 0x0⟩
def REG_BASE_LO_BASE_LO (p r : Nat) : Field := ⟨0x20C01000 + 0x100 * min p 8 + 0x10 * min r 8, 0, 32, .ro, 0x0⟩
def REG_BASE_HI_BASE_HI (p r : Nat) : Field := ⟨0x20C01004 + 0x100 * min p 8 + 0x10 * min r 8, 0, 8, .ro, 0x0⟩
def REG_BASE_HI_ATTR (p r : Nat) : Field := ⟨0x20C01004 + 0x100 * min p 8 + 0x10 * min r 8, 8, 4, .ro, 0x0⟩
def REG_SIZE_SIZE (p r : Nat) : Field := ⟨0x20C01008 + 0x100 * min p 8 + 0x10 * min r 8, 0, 32, .ro, 0x0⟩
def REG_GPA_GPA (p r : Nat) : Field := ⟨0x20C0100C + 0x100 * min p 8 + 0x10 * min r 8, 0, 32, .ro, 0x0⟩

/-! Table 21-18 (21_cloche_security.md, R525) -/
def CLO_STAT_ROOT_OK : Field := ⟨0x20D00000, 0, 1, .ro, 0x0⟩
def CLO_STAT_ROOT_FAIL : Field := ⟨0x20D00000, 1, 1, .ro, 0x0⟩
def CLO_STAT_ROOT_WEAK : Field := ⟨0x20D00000, 2, 1, .ro, 0x0⟩
def CLO_STAT_DEBUG : Field := ⟨0x20D00000, 3, 2, .ro, 0x0⟩
def CLO_STAT_KEYS_SEALED : Field := ⟨0x20D00000, 5, 1, .ro, 0x0⟩
def CLO_STAT_QUAR : Field := ⟨0x20D00000, 6, 1, .ro, 0x0⟩
def CLO_STAT_ERASING : Field := ⟨0x20D00000, 7, 1, .ro, 0x0⟩
def CLO_STAT_DBG_PLOTS : Field := ⟨0x20D00000, 8, 8, .ro, 0x0⟩
def CLO_FLT_HELPER_COPY : Field := ⟨0x20D00004, 0, 1, .w1c, 0x0⟩
def CLO_FLT_ROOT_RETRY : Field := ⟨0x20D00004, 1, 1, .w1c, 0x0⟩
def CLO_FLT_JOURNAL : Field := ⟨0x20D00004, 2, 1, .w1c, 0x0⟩
def CLO_FLT_TOKEN_REJ : Field := ⟨0x20D00004, 3, 1, .w1c, 0x0⟩
def CLO_FLT_LCM_REJ : Field := ⟨0x20D00004, 4, 1, .w1c, 0x0⟩
def CLO_FLT_KU_FAIL : Field := ⟨0x20D00004, 5, 1, .w1c, 0x0⟩
def CLO_ROOT_ERR_MAXCORR : Field := ⟨0x20D00008, 0, 8, .ro, 0x0⟩
def CLO_ROOT_ERR_ATTEMPTS : Field := ⟨0x20D00008, 8, 3, .ro, 0x0⟩
def CLO_DBG_CMD_CLOSE : Field := ⟨0x20D0000C, 0, 1, .wo, 0x0⟩
def CLO_DBG_CMD_KEY : Field := ⟨0x20D0000C, 16, 16, .wo, 0x0⟩
def CLO_TMP_EN_FIXED : Field := ⟨0x20D00010, 0, 6, .ro, 0x3F⟩
def CLO_TMP_EN_DIO : Field := ⟨0x20D00010, 6, 1, .rw, 0x0⟩
def CLO_TMP_EN_TOKEN : Field := ⟨0x20D00010, 7, 1, .rw, 0x1⟩
def CLO_TMP_DIO_MASK : Field := ⟨0x20D00014, 0, 32, .rw, 0x0⟩
def CLO_TMP_STAT_ACTIVE : Field := ⟨0x20D00018, 0, 8, .ro, 0x0⟩
def CLO_TMP_STAT_SEEN : Field := ⟨0x20D00018, 8, 8, .w1c, 0x0⟩
def CLO_TMP_STAT_ENTRIES : Field := ⟨0x20D00018, 16, 7, .ro, 0x0⟩
def CLO_TMP_STAT_FAILS : Field := ⟨0x20D00018, 23, 4, .ro, 0x0⟩
def CLO_CTR_INC_IDX : Field := ⟨0x20D0001C, 0, 3, .wo, 0x0⟩
def CLO_CTR_INC_KEY : Field := ⟨0x20D0001C, 16, 16, .wo, 0x0⟩
def CLO_SLOT_LOADED (s : Nat) : Field := ⟨0x20D00100 + 0x8 * min s 32, 0, 1, .ro, 0x0⟩
def CLO_SLOT_TYPE (s : Nat) : Field := ⟨0x20D00100 + 0x8 * min s 32, 1, 2, .ro, 0x0⟩
def CLO_SLOT_USES (s : Nat) : Field := ⟨0x20D00100 + 0x8 * min s 32, 8, 8, .ro, 0x0⟩
def CLO_SLOT_PLOT (s : Nat) : Field := ⟨0x20D00100 + 0x8 * min s 32, 16, 4, .ro, 0xF⟩
def CLO_SLOT_ROLES (s : Nat) : Field := ⟨0x20D00100 + 0x8 * min s 32, 24, 8, .ro, 0x0⟩
def CLO_SLOT_VER_VERSION (s : Nat) : Field := ⟨0x20D00104 + 0x8 * min s 32, 0, 32, .ro, 0x0⟩
def CLO_CTR_VALUE (i : Nat) : Field := ⟨0x20D00200 + 0x4 * min i 8, 0, 32, .ro, 0x0⟩

/-! Table 21-19 (21_cloche_security.md, R526) -/
def ID_REC_DATA (w : Nat) : Field := ⟨0x21200000 + 0x4 * min w 24, 0, 32, .ro, 0x0⟩
def ID_DIGEST_DATA (w : Nat) : Field := ⟨0x21200060 + 0x4 * min w 12, 0, 32, .ro, 0x0⟩
def LC_STAT_STATE : Field := ⟨0x21200090, 0, 2, .ro, 0x0⟩
def LC_STAT_GEN : Field := ⟨0x21200090, 2, 2, .ro, 0x0⟩
def LC_STAT_FUSES : Field := ⟨0x21200090, 4, 4, .ro, 0x0⟩
def LC_STAT_ENROLLED : Field := ⟨0x21200090, 8, 1, .ro, 0x0⟩
def ID_MATCH_MATCH : Field := ⟨0x21200094, 0, 5, .ro, 0x0⟩
def ID_TAPID_IDCODE : Field := ⟨0x21200098, 0, 32, .ro, 0x14608001⟩

/-! Table 22-7 (22_graft_update.md, R546) -/
def GRF_STAT_RUN_BANK : Field := ⟨0x21100000, 0, 1, .ro, 0x0⟩
def GRF_STAT_PREF : Field := ⟨0x21100000, 1, 1, .ro, 0x0⟩
def GRF_STAT_TRIAL : Field := ⟨0x21100000, 2, 1, .ro, 0x0⟩
def GRF_STAT_BUSY : Field := ⟨0x21100000, 3, 1, .ro, 0x0⟩
def GRF_STAT_SET_RESET : Field := ⟨0x21100000, 4, 1, .ro, 0x0⟩
def GRF_FLT_BOOT_FALLBACK : Field := ⟨0x21100004, 0, 1, .w1c, 0x0⟩
def GRF_FLT_SEL_COPY : Field := ⟨0x21100004, 1, 1, .w1c, 0x0⟩
def GRF_FLT_PROG_ERR : Field := ⟨0x21100004, 2, 1, .w1c, 0x0⟩
def GRF_FLT_ERASE_ERR : Field := ⟨0x21100004, 3, 1, .w1c, 0x0⟩
def GRF_FAIL_STATUS : Field := ⟨0x21100008, 0, 16, .ro, 0x0⟩
def GRF_FAIL_BANK : Field := ⟨0x21100008, 16, 1, .ro, 0x0⟩
def GRF_FAIL_STEP : Field := ⟨0x21100008, 17, 3, .ro, 0x0⟩
def GRF_SETFMT_STORED : Field := ⟨0x2110000C, 0, 16, .ro, 0x0⟩
def GRF_SETFMT_RUNNING : Field := ⟨0x2110000C, 16, 16, .ro, 0x0⟩
def GRF_BANK_STATE (b : Nat) : Field := ⟨0x21100100 + 0x20 * min b 2, 0, 3, .ro, 0x0⟩
def GRF_BANK_LEN_LEN (b : Nat) : Field := ⟨0x21100104 + 0x20 * min b 2, 0, 32, .ro, 0x0⟩
def GRF_BANK_SECVER_SEC_VER (b : Nat) : Field := ⟨0x21100108 + 0x20 * min b 2, 0, 32, .ro, 0x0⟩
def GRF_BANK_PAGES_PAGES (b : Nat) : Field := ⟨0x2110010C + 0x20 * min b 2, 0, 13, .ro, 0x0⟩
def GRF_BANK_BUILD_LO_BUILD_LO (b : Nat) : Field := ⟨0x21100110 + 0x20 * min b 2, 0, 32, .ro, 0x0⟩
def GRF_BANK_BUILD_HI_BUILD_HI (b : Nat) : Field := ⟨0x21100114 + 0x20 * min b 2, 0, 32, .ro, 0x0⟩
def GRF_BANK_FMT_SETFMT (b : Nat) : Field := ⟨0x21100118 + 0x20 * min b 2, 0, 16, .ro, 0x0⟩

end Sys2Proof.Machine.F
end

