-- ==== Sys2Proof/Machine/RegMap.lean ====
section
/-! DEFINITION. The map from a byte address to the fields of the register that stands there (R4, R5),
written from the same register tables as Fields.lean. -/

namespace Sys2Proof.Machine

/-- Registers of Table 3-15, part 0. -/
def regs3_15_0 : List RegDesc :=
  [⟨0x20E00000, [], [(0, 4, .ro, 0x1), (4, 4, .ro, 0x0), (8, 8, .ro, 0x1), (16, 5, .ro, 0x0)]⟩,
   ⟨0x20E00004, [], [(0, 4, .wo, 0x0), (4, 1, .wo, 0x0), (5, 1, .rw, 0x0), (16, 16, .wo, 0x0)]⟩,
   ⟨0x20E00008, [], [(0, 1, .ro, 0x0), (1, 1, .ro, 0x0), (2, 1, .ro, 0x0), (3, 1, .ro, 0x0), (4, 1, .ro, 0x0), (5, 4, .ro, 0x0), (9, 1, .w1c, 0x0), (10, 1, .ro, 0x0)]⟩,
   ⟨0x20E0000C, [], [(0, 24, .ro, 0x0)]⟩,
   ⟨0x20E00010, [], [(0, 6, .ro, 0x0), (8, 6, .ro, 0x0), (14, 1, .ro, 0x0)]⟩,
   ⟨0x20E00014, [], [(0, 6, .w1c, 0x0), (8, 6, .w1c, 0x0), (16, 1, .w1c, 0x0), (17, 1, .w1c, 0x0), (18, 1, .w1c, 0x0)]⟩,
   ⟨0x20E00018, [], [(0, 16, .ro, 0x0)]⟩,
   ⟨0x20E0001C, [], [(0, 16, .ro, 0x0), (16, 16, .ro, 0x0)]⟩,
   ⟨0x20E00020, [], [(0, 20, .ro, 0x0)]⟩,
   ⟨0x20E00024, [], [(0, 8, .rc, 0x0), (8, 8, .rc, 0x0)]⟩,
   ⟨0x20E00030, [], [(0, 1, .rw, 0x1), (1, 1, .rw, 0x1), (2, 1, .rw, 0x1), (3, 1, .rw, 0x0), (4, 1, .ro, 0x1), (5, 1, .rw, 0x1)]⟩,
   ⟨0x20E00034, [], [(0, 32, .rw, 0x0)]⟩]

/-- Registers of Table 3-15, part 1. -/
def regs3_15_1 : List RegDesc :=
  [⟨0x20E00038, [], [(0, 6, .w1c, 0x0)]⟩,
   ⟨0x20E0003C, [], [(0, 24, .rw, 0x0)]⟩,
   ⟨0x20E00040, [], [(0, 32, .rw, 0x0)]⟩,
   ⟨0x20E00044, [], [(0, 16, .rw, 0x64)]⟩,
   ⟨0x20E00100, [(0x8, 13)], [(0, 32, .ro, 0x0)]⟩,
   ⟨0x20E00104, [(0x8, 13)], [(0, 32, .ro, 0x0)]⟩,
   ⟨0x20E00180, [], [(0, 13, .wo, 0x0)]⟩]

/-- Registers of Table 3-15 (R97). -/
def regs3_15 : List RegDesc := regs3_15_0 ++ regs3_15_1

/-- Registers of Table 4-7, part 0. -/
def regs4_7_0 : List RegDesc :=
  [⟨0x20E00200, [], [(0, 1, .ro, 0x0), (1, 1, .ro, 0x0), (2, 1, .ro, 0x0), (3, 1, .ro, 0x0), (4, 1, .ro, 0x0), (5, 1, .ro, 0x0)]⟩,
   ⟨0x20E00204, [], [(0, 6, .w1c, 0x0), (8, 1, .w1c, 0x0)]⟩,
   ⟨0x20E00208, [], [(0, 1, .w1c, 0x0), (1, 1, .w1c, 0x0), (2, 1, .w1c, 0x0), (3, 1, .w1c, 0x0)]⟩,
   ⟨0x20E0020C, [], [(0, 14, .wo, 0x0), (16, 16, .wo, 0x0)]⟩,
   ⟨0x20E00210, [], [(0, 14, .ro, 0x0)]⟩,
   ⟨0x20E00214, [], [(0, 1, .ro, 0x0), (8, 8, .rc, 0x0)]⟩]

/-- Registers of Table 4-7 (R114). -/
def regs4_7 : List RegDesc := regs4_7_0

/-- Registers of Table 5-9, part 0. -/
def regs5_9_0 : List RegDesc :=
  [⟨0x20000000, [], [(0, 2, .rw, 0x2), (2, 2, .rw, 0x0), (4, 2, .rw, 0x2), (6, 1, .rw, 0x0), (8, 2, .rw, 0x2), (12, 1, .rw, 0x0)]⟩,
   ⟨0x20000004, [], [(0, 1, .ro, 0x0), (1, 1, .ro, 0x0), (2, 1, .ro, 0x1), (3, 2, .ro, 0x0), (5, 1, .ro, 0x0), (6, 1, .ro, 0x0), (7, 1, .ro, 0x0), (8, 1, .ro, 0x0), (9, 1, .ro, 0x0)]⟩,
   ⟨0x20000008, [], [(0, 1, .w1c, 0x0), (1, 1, .w1c, 0x0), (2, 1, .w1c, 0x0), (3, 1, .w1c, 0x0), (4, 1, .w1c, 0x0), (5, 1, .w1c, 0x0), (6, 1, .w1c, 0x0)]⟩,
   ⟨0x2000000C, [], [(0, 32, .rw, 0x0)]⟩,
   ⟨0x20000010, [], [(0, 32, .ro, 0x0)]⟩,
   ⟨0x20000014, [], [(0, 32, .ro, 0x0)]⟩,
   ⟨0x20000018, [], [(0, 30, .ro, 0x0)]⟩,
   ⟨0x2000001C, [], [(0, 32, .ro, 0x0)]⟩,
   ⟨0x20000020, [], [(0, 16, .ro, 0x0)]⟩,
   ⟨0x20000024, [], [(0, 32, .ro, 0x5AC471B4)]⟩,
   ⟨0x20000028, [], [(0, 16, .ro, 0xA7C)]⟩,
   ⟨0x2000002C, [], [(0, 32, .ro, 0x2FAF080)]⟩]

/-- Registers of Table 5-9, part 1. -/
def regs5_9_1 : List RegDesc :=
  [⟨0x20000030, [], [(0, 32, .ro, 0x0)]⟩,
   ⟨0x20000034, [], [(0, 10, .ro, 0x0), (10, 10, .ro, 0x0), (20, 10, .ro, 0x0)]⟩,
   ⟨0x20000038, [], [(0, 16, .ro, 0x0), (16, 16, .ro, 0x0)]⟩,
   ⟨0x2000003C, [], [(0, 16, .rw, 0xA)]⟩,
   ⟨0x20000040, [], [(0, 16, .rw, 0x64), (16, 16, .rw, 0x12C)]⟩,
   ⟨0x20000044, [], [(0, 8, .rw, 0x0)]⟩,
   ⟨0x20000100, [(0x10, 16)], [(0, 32, .ro, 0x0)]⟩,
   ⟨0x20000104, [(0x10, 16)], [(0, 30, .ro, 0x0)]⟩,
   ⟨0x20000108, [(0x10, 16)], [(0, 32, .ro, 0x0)]⟩,
   ⟨0x2000010C, [(0x10, 16)], [(0, 16, .ro, 0x0)]⟩,
   ⟨0x20000200, [(0x4, 8)], [(0, 10, .rw, 0x0), (10, 11, .rw, 0x0), (21, 6, .rw, 0x0)]⟩,
   ⟨0x20000240, [], [(0, 16, .rc, 0x0), (16, 16, .rc, 0x0)]⟩]

/-- Registers of Table 5-9, part 2. -/
def regs5_9_2 : List RegDesc :=
  [⟨0x20000400, [(0x20, 16)], [(0, 5, .rw, 0x0), (8, 5, .rw, 0x0), (13, 1, .rw, 0x0), (16, 3, .rw, 0x3), (20, 4, .rw, 0x4), (31, 1, .rw, 0x0)]⟩,
   ⟨0x20000404, [(0x20, 16)], [(0, 16, .rw, 0x0), (16, 16, .rw, 0x0)]⟩,
   ⟨0x20000408, [(0x20, 16)], [(0, 16, .rw, 0x7D0)]⟩,
   ⟨0x2000040C, [(0x20, 16)], [(0, 24, .rw, 0x0)]⟩,
   ⟨0x20000410, [(0x20, 16)], [(0, 24, .rw, 0x0)]⟩,
   ⟨0x20000414, [(0x20, 16)], [(0, 16, .ro, 0x0), (16, 16, .ro, 0x0)]⟩,
   ⟨0x20000418, [(0x20, 16)], [(0, 8, .rc, 0x0), (8, 8, .rc, 0x0)]⟩,
   ⟨0x2000041C, [(0x20, 16)], [(0, 32, .ro, 0x0)]⟩,
   ⟨0x20010000, [(0x40, 1024)], [(0, 1, .rw, 0x0), (1, 3, .rw, 0x0), (4, 1, .rw, 0x0), (5, 1, .rw, 0x0), (8, 3, .rw, 0x7), (16, 8, .rw, 0x0)]⟩,
   ⟨0x20010004, [(0x40, 1024)], [(0, 32, .rw, 0x0)]⟩,
   ⟨0x20010008, [(0x40, 1024)], [(0, 32, .rw, 0x0)]⟩,
   ⟨0x2001000C, [(0x40, 1024)], [(0, 16, .rw, 0x1)]⟩]

/-- Registers of Table 5-9, part 3. -/
def regs5_9_3 : List RegDesc :=
  [⟨0x20010010, [(0x40, 1024)], [(0, 30, .rw, 0x0)]⟩,
   ⟨0x20010014, [(0x40, 1024)], [(0, 32, .rw, 0x0)]⟩,
   ⟨0x20010018, [(0x40, 1024)], [(0, 16, .rw, 0x0)]⟩,
   ⟨0x2001001C, [(0x40, 1024)], [(0, 32, .rw, 0x0)]⟩,
   ⟨0x20010020, [(0x40, 1024)], [(0, 32, .rw, 0x0)]⟩,
   ⟨0x20010024, [(0x40, 1024)], [(0, 24, .rw, 0x0)]⟩,
   ⟨0x20010028, [(0x40, 1024)], [(0, 16, .ro, 0x0), (16, 1, .w1c, 0x0), (17, 1, .w1c, 0x0), (18, 1, .w1c, 0x0), (19, 1, .w1c, 0x0), (20, 1, .ro, 0x0)]⟩,
   ⟨0x2001002C, [(0x40, 1024)], [(0, 32, .ro, 0x0)]⟩,
   ⟨0x20010030, [(0x40, 1024)], [(0, 32, .ro, 0x0)]⟩]

/-- Registers of Table 5-9 (R145). -/
def regs5_9 : List RegDesc := regs5_9_0 ++ regs5_9_1 ++ regs5_9_2 ++ regs5_9_3

/-- Registers of Table 6-7, part 0. -/
def regs6_7_0 : List RegDesc :=
  [⟨0x20100000, [], [(0, 1, .rw, 0x1), (1, 1, .rw, 0x1), (4, 4, .rw, 0x1), (8, 4, .rw, 0x3)]⟩,
   ⟨0x20100004, [], [(0, 2, .ro, 0x0), (2, 1, .ro, 0x0), (3, 1, .ro, 0x0)]⟩,
   ⟨0x20100008, [], [(0, 16, .rw, 0x0)]⟩,
   ⟨0x2010000C, [], [(0, 32, .rw, 0x0)]⟩,
   ⟨0x20100010, [], [(0, 32, .ro, 0x80000000)]⟩,
   ⟨0x20100014, [], [(0, 8, .ro, 0xC)]⟩,
   ⟨0x20100018, [], [(0, 32, .ro, 0x0)]⟩,
   ⟨0x2010001C, [], [(0, 32, .rw, 0x199999A)]⟩,
   ⟨0x20100020, [], [(0, 32, .rw, 0x30D40)]⟩,
   ⟨0x20100024, [], [(0, 32, .rw, 0x3E8)]⟩,
   ⟨0x20100028, [], [(0, 16, .rw, 0xBB8)]⟩,
   ⟨0x20100030, [], [(0, 30, .ro, 0x0)]⟩]

/-- Registers of Table 6-7, part 1. -/
def regs6_7_1 : List RegDesc :=
  [⟨0x20100034, [], [(0, 32, .ro, 0x0)]⟩,
   ⟨0x20100038, [], [(0, 16, .ro, 0x0)]⟩,
   ⟨0x20100040, [], [(0, 30, .rw, 0x0)]⟩,
   ⟨0x20100044, [], [(0, 32, .rw, 0x0)]⟩,
   ⟨0x20100048, [], [(0, 16, .rw, 0x0)]⟩,
   ⟨0x2010004C, [], [(0, 1, .wo, 0x0)]⟩,
   ⟨0x20100050, [], [(0, 16, .rc, 0x0)]⟩,
   ⟨0x20100054, [], [(0, 32, .ro, 0x0)]⟩,
   ⟨0x20100058, [], [(0, 32, .ro, 0x0)]⟩,
   ⟨0x20100100, [(0x10, 8)], [(0, 1, .rw, 0x0), (1, 1, .rw, 0x0), (2, 1, .rw, 0x0), (3, 1, .rw, 0x0), (4, 3, .rw, 0x3)]⟩,
   ⟨0x20100104, [(0x10, 8)], [(0, 29, .rw, 0x10)]⟩,
   ⟨0x20100108, [(0x10, 8)], [(0, 4, .ro, 0x0), (8, 8, .rc, 0x0)]⟩]

/-- Registers of Table 6-7 (R165). -/
def regs6_7 : List RegDesc := regs6_7_0 ++ regs6_7_1

/-- Registers of Table 6-8, part 0. -/
def regs6_8_0 : List RegDesc :=
  [⟨0x20F00000, [(0x1000, 2)], [(0, 1, .rw, 0x0), (1, 1, .rw, 0x0), (2, 1, .rw, 0x0)]⟩,
   ⟨0x20F00004, [(0x1000, 2)], [(0, 1, .ro, 0x0)]⟩,
   ⟨0x20F00008, [(0x1000, 2)], [(0, 6, .rw, 0x0), (8, 6, .rw, 0x0)]⟩,
   ⟨0x20F0000C, [(0x1000, 2)], [(0, 16, .rw, 0x3E8)]⟩,
   ⟨0x20F00010, [(0x1000, 2)], [(0, 30, .ro, 0x0), (31, 1, .ro, 0x0)]⟩,
   ⟨0x20F00014, [(0x1000, 2)], [(0, 32, .ro, 0x0)]⟩,
   ⟨0x20F00018, [(0x1000, 2)], [(0, 16, .ro, 0x0), (16, 6, .ro, 0x0), (24, 8, .ro, 0x0)]⟩,
   ⟨0x20F0001C, [(0x1000, 2)], [(0, 8, .rc, 0x0), (8, 8, .rc, 0x0), (16, 8, .rc, 0x0)]⟩,
   ⟨0x20F00020, [(0x1000, 2)], [(0, 32, .ro, 0x0)]⟩,
   ⟨0x20F00024, [(0x1000, 2)], [(0, 16, .ro, 0x0)]⟩]

/-- Registers of Table 6-8 (R166). -/
def regs6_8 : List RegDesc := regs6_8_0

/-- Registers of Table 7-14, part 0. -/
def regs7_14_0 : List RegDesc :=
  [⟨0x20200000, [], [(0, 12, .rw, 0x0)]⟩,
   ⟨0x20200004, [], [(0, 6, .rw, 0x0)]⟩,
   ⟨0x20200008, [], [(0, 12, .ro, 0x0), (12, 12, .ro, 0x0)]⟩,
   ⟨0x20201000, [(0x1000, 12)], [(0, 5, .rw, 0x0)]⟩,
   ⟨0x20201004, [(0x1000, 12)], [(0, 4, .wo, 0x0)]⟩,
   ⟨0x20201008, [(0x1000, 12)], [(0, 1, .ro, 0x0), (1, 1, .ro, 0x0), (2, 1, .ro, 0x0), (3, 1, .ro, 0x0), (4, 1, .ro, 0x0), (5, 1, .ro, 0x0), (6, 1, .ro, 0x0), (7, 1, .ro, 0x0), (8, 5, .ro, 0x1F), (13, 5, .ro, 0x1F)]⟩,
   ⟨0x2020100C, [(0x1000, 12)], [(0, 1, .w1c, 0x0), (1, 1, .w1c, 0x0), (2, 1, .w1c, 0x0), (3, 1, .w1c, 0x0), (4, 1, .w1c, 0x0), (5, 1, .w1c, 0x0), (6, 1, .w1c, 0x0), (7, 1, .w1c, 0x0)]⟩,
   ⟨0x20201010, [(0x1000, 12)], [(0, 16, .rc, 0x0), (16, 16, .rc, 0x0)]⟩,
   ⟨0x20201014, [(0x1000, 12)], [(0, 16, .ro, 0x0)]⟩,
   ⟨0x20201100, [(0x1000, 12), (0x20, 24)], [(0, 1, .ro, 0x0), (1, 1, .ro, 0x0), (2, 1, .ro, 0x0), (3, 1, .ro, 0x0), (4, 1, .ro, 0x0), (8, 8, .ro, 0x0), (16, 16, .ro, 0x0)]⟩,
   ⟨0x20201104, [(0x1000, 12), (0x20, 24)], [(0, 32, .ro, 0x0)]⟩,
   ⟨0x20201108, [(0x1000, 12), (0x20, 24)], [(0, 32, .ro, 0x0)]⟩]

/-- Registers of Table 7-14, part 1. -/
def regs7_14_1 : List RegDesc :=
  [⟨0x2020110C, [(0x1000, 12), (0x20, 24)], [(0, 16, .ro, 0xFFFF), (16, 16, .ro, 0xFFFF)]⟩,
   ⟨0x20201110, [(0x1000, 12), (0x20, 24)], [(0, 16, .rc, 0x0), (16, 16, .rc, 0x0)]⟩,
   ⟨0x20201114, [(0x1000, 12), (0x20, 24)], [(0, 8, .ro, 0x0)]⟩]

/-- Registers of Table 7-14 (R203). -/
def regs7_14 : List RegDesc := regs7_14_0 ++ regs7_14_1

/-- Registers of Table 8-8, part 0. -/
def regs8_8_0 : List RegDesc :=
  [⟨0x20300000, [], [(0, 4, .rw, 0x0), (8, 1, .rw, 0x1)]⟩,
   ⟨0x20300004, [], [(0, 6, .rw, 0x0)]⟩,
   ⟨0x20300100, [(0x100, 4)], [(0, 1, .rw, 0x0)]⟩,
   ⟨0x20300104, [(0x100, 4)], [(0, 4, .wo, 0x0)]⟩,
   ⟨0x20300108, [(0x100, 4)], [(0, 1, .ro, 0x0), (1, 1, .ro, 0x1), (2, 1, .ro, 0x0), (3, 1, .ro, 0x0)]⟩,
   ⟨0x2030010C, [(0x100, 4)], [(0, 1, .w1c, 0x0), (1, 1, .w1c, 0x0), (2, 1, .w1c, 0x0), (3, 1, .w1c, 0x0), (4, 1, .w1c, 0x0), (5, 1, .w1c, 0x0)]⟩,
   ⟨0x20300110, [(0x100, 4)], [(0, 16, .rc, 0x0), (16, 16, .rc, 0x0)]⟩,
   ⟨0x20300114, [(0x100, 4)], [(0, 32, .ro, 0x0)]⟩,
   ⟨0x20300118, [(0x100, 4)], [(0, 32, .ro, 0x0)]⟩,
   ⟨0x2030011C, [(0x100, 4)], [(0, 32, .ro, 0x0)]⟩,
   ⟨0x20300120, [(0x100, 4)], [(0, 32, .ro, 0x0)]⟩,
   ⟨0x20300124, [(0x100, 4)], [(0, 32, .ro, 0x0)]⟩]

/-- Registers of Table 8-8, part 1. -/
def regs8_8_1 : List RegDesc :=
  [⟨0x20300128, [(0x100, 4)], [(0, 32, .ro, 0x0)]⟩,
   ⟨0x2030012C, [(0x100, 4)], [(0, 16, .ro, 0xFFFF)]⟩,
   ⟨0x20300800, [], [(0, 1, .rw, 0x0), (4, 4, .rw, 0x3)]⟩,
   ⟨0x20300804, [], [(0, 16, .rw, 0x800)]⟩,
   ⟨0x20300808, [], [(0, 28, .rw, 0x0)]⟩,
   ⟨0x2030080C, [], [(0, 32, .ro, 0x0)]⟩,
   ⟨0x20300810, [], [(0, 32, .ro, 0x0)]⟩,
   ⟨0x20300814, [], [(0, 32, .ro, 0x0)]⟩,
   ⟨0x20300818, [], [(0, 1, .ro, 0x0), (1, 1, .w1c, 0x0)]⟩]

/-- Registers of Table 8-8 (R224). -/
def regs8_8 : List RegDesc := regs8_8_0 ++ regs8_8_1

/-- Registers of Table 9-3, part 0. -/
def regs9_3_0 : List RegDesc :=
  [⟨0x20400000, [], [(0, 1, .w1c, 0x0)]⟩,
   ⟨0x20400004, [], [(0, 16, .rc, 0x0)]⟩,
   ⟨0x20400010, [(0x4, 8)], [(0, 6, .rw, 0x0), (6, 1, .rw, 0x0), (7, 1, .rw, 0x0)]⟩,
   ⟨0x20400030, [], [(0, 8, .ro, 0x0)]⟩,
   ⟨0x20401000, [(0x40, 64)], [(0, 1, .rw, 0x0), (1, 5, .rw, 0x4), (6, 1, .rw, 0x0), (8, 3, .rw, 0x4)]⟩,
   ⟨0x20401004, [(0x40, 64)], [(0, 19, .rw, 0x0)]⟩,
   ⟨0x20401008, [(0x40, 64)], [(0, 4, .rw, 0xF), (4, 4, .rw, 0x8)]⟩,
   ⟨0x2040100C, [(0x40, 64)], [(0, 16, .rw, 0x8), (16, 16, .rw, 0x64)]⟩,
   ⟨0x20401010, [(0x40, 64)], [(0, 32, .rw, 0xFFFFFFFF)]⟩,
   ⟨0x20401014, [(0x40, 64)], [(0, 32, .rw, 0x0)]⟩,
   ⟨0x20401018, [(0x40, 64)], [(0, 28, .rw, 0x0)]⟩,
   ⟨0x2040101C, [(0x40, 64)], [(0, 8, .rw, 0x1)]⟩]

/-- Registers of Table 9-3, part 1. -/
def regs9_3_1 : List RegDesc :=
  [⟨0x20401020, [(0x40, 64)], [(0, 1, .ro, 0x0), (1, 1, .ro, 0x0), (2, 1, .ro, 0x0), (8, 8, .ro, 0x0)]⟩,
   ⟨0x20401024, [(0x40, 64)], [(0, 32, .ro, 0x0)]⟩,
   ⟨0x20401028, [(0x40, 64)], [(0, 1, .w1c, 0x0), (1, 1, .w1c, 0x0), (2, 1, .w1c, 0x0), (3, 1, .w1c, 0x0), (4, 1, .w1c, 0x0), (5, 1, .w1c, 0x0)]⟩,
   ⟨0x2040102C, [(0x40, 64)], [(0, 16, .rc, 0x0), (16, 16, .rc, 0x0)]⟩,
   ⟨0x20401030, [(0x40, 64)], [(0, 2, .wo, 0x0)]⟩,
   ⟨0x20401034, [(0x40, 64)], [(0, 1, .rw, 0x0), (1, 1, .rw, 0x0)]⟩,
   ⟨0x20440000, [(0x1000, 64)], [(0, 32, .ro, 0x0)]⟩,
   ⟨0x20440004, [(0x1000, 64)], [(0, 32, .ro, 0x0)]⟩,
   ⟨0x20440008, [(0x1000, 64)], [(0, 1, .ro, 0x0), (1, 1, .ro, 0x0), (16, 16, .ro, 0x0)]⟩,
   ⟨0x2044000C, [(0x1000, 64)], [(0, 32, .ro, 0x0)]⟩,
   ⟨0x20480000, [(0x1000, 64)], [(0, 19, .ro, 0x0)]⟩,
   ⟨0x20480004, [(0x1000, 64)], [(0, 3, .wo, 0x0), (8, 1, .wo, 0x0), (9, 1, .wo, 0x0)]⟩]

/-- Registers of Table 9-3, part 2. -/
def regs9_3_2 : List RegDesc :=
  [⟨0x20480008, [(0x1000, 64)], [(0, 32, .wo, 0x0)]⟩,
   ⟨0x2048000C, [(0x1000, 64)], [(0, 32, .wo, 0x0)]⟩]

/-- Registers of Table 9-3 (R243). -/
def regs9_3 : List RegDesc := regs9_3_0 ++ regs9_3_1 ++ regs9_3_2

/-- Registers of Table 10-13, part 0. -/
def regs10_13_0 : List RegDesc :=
  [⟨0x20500000, [], [(0, 1, .rw, 0x0), (1, 1, .rw, 0x1), (2, 1, .rw, 0x1), (3, 1, .rw, 0x0), (8, 3, .rw, 0x0), (11, 1, .rw, 0x0)]⟩,
   ⟨0x20500004, [], [(0, 1, .ro, 0x0), (1, 1, .ro, 0x0), (2, 1, .ro, 0x0), (3, 1, .ro, 0x0), (4, 1, .ro, 0x0)]⟩,
   ⟨0x20500008, [], [(0, 1, .w1c, 0x0), (1, 1, .w1c, 0x0), (2, 1, .w1c, 0x0), (3, 1, .w1c, 0x0), (4, 1, .w1c, 0x0), (5, 1, .w1c, 0x0), (6, 1, .w1c, 0x0)]⟩,
   ⟨0x2050000C, [], [(0, 20, .rw, 0x0)]⟩,
   ⟨0x20500010, [], [(0, 20, .rw, 0x0)]⟩,
   ⟨0x20500014, [], [(0, 20, .rw, 0x0)]⟩,
   ⟨0x20500018, [], [(0, 2, .wo, 0x0)]⟩,
   ⟨0x2050001C, [], [(0, 16, .ro, 0x0)]⟩,
   ⟨0x20500020, [], [(0, 13, .ro, 0x1FFF), (13, 3, .ro, 0x0), (16, 4, .ro, 0x0)]⟩,
   ⟨0x20500024, [], [(0, 13, .rw, 0x32), (16, 8, .rw, 0x5A)]⟩,
   ⟨0x20500028, [], [(0, 3, .rw, 0x0), (3, 5, .rw, 0x0), (8, 3, .rw, 0x0), (11, 5, .rw, 0x0), (16, 3, .rw, 0x0), (19, 5, .rw, 0x0), (24, 3, .rw, 0x0), (27, 5, .rw, 0x0)]⟩,
   ⟨0x2050002C, [], [(0, 16, .rw, 0x400), (16, 16, .rw, 0x80)]⟩]

/-- Registers of Table 10-13, part 1. -/
def regs10_13_1 : List RegDesc :=
  [⟨0x20500030, [], [(0, 8, .rw, 0x3), (8, 8, .rw, 0x8)]⟩,
   ⟨0x20500034, [(0x4, 4)], [(0, 32, .rw, 0x10000)]⟩,
   ⟨0x20500044, [], [(0, 1, .ro, 0x0), (1, 1, .ro, 0x0), (2, 1, .ro, 0x0)]⟩,
   ⟨0x20500048, [], [(0, 32, .ro, 0x0)]⟩,
   ⟨0x2050004C, [], [(0, 32, .ro, 0x0)]⟩,
   ⟨0x20500050, [], [(0, 10, .ro, 0x0), (16, 10, .ro, 0x0)]⟩,
   ⟨0x20500054, [], [(0, 16, .rc, 0x0), (16, 16, .rc, 0x0)]⟩,
   ⟨0x20500060, [], [(0, 14, .rw, 0x0)]⟩,
   ⟨0x20500064, [], [(0, 32, .wo, 0x0)]⟩,
   ⟨0x20500068, [], [(0, 32, .ro, 0x0)]⟩,
   ⟨0x2050006C, [], [(0, 1, .w1s, 0x0), (16, 16, .ro, 0x0)]⟩,
   ⟨0x20500100, [(0x4, 8)], [(0, 6, .rw, 0x0), (8, 8, .rw, 0x0), (31, 1, .rw, 0x0)]⟩]

/-- Registers of Table 10-13 (R269). -/
def regs10_13 : List RegDesc := regs10_13_0 ++ regs10_13_1

/-- Registers of Table 11-11, part 0. -/
def regs11_11_0 : List RegDesc :=
  [⟨0x20500200, [], [(0, 1, .rw, 0x0)]⟩,
   ⟨0x20500204, [], [(0, 11, .rw, 0x32), (16, 8, .rw, 0x5A)]⟩,
   ⟨0x20500208, [], [(0, 1, .ro, 0x0), (1, 1, .ro, 0x0), (2, 2, .ro, 0x0)]⟩,
   ⟨0x2050020C, [], [(0, 1, .w1c, 0x0), (1, 1, .w1c, 0x0), (2, 1, .w1c, 0x0)]⟩,
   ⟨0x20500210, [], [(0, 5, .ro, 0x1F), (5, 3, .ro, 0x0)]⟩,
   ⟨0x20500214, [], [(0, 1, .ro, 0x0)]⟩,
   ⟨0x20500218, [], [(0, 32, .ro, 0x0)]⟩,
   ⟨0x2050021C, [], [(0, 32, .ro, 0x0)]⟩,
   ⟨0x20500220, [], [(0, 16, .rc, 0x0)]⟩,
   ⟨0x20500224, [], [(0, 13, .ro, 0x1FFF), (13, 3, .ro, 0x0)]⟩,
   ⟨0x20500240, [(0x4, 8)], [(0, 16, .rc, 0x0)]⟩]

/-- Registers of Table 11-11 (R293). -/
def regs11_11 : List RegDesc := regs11_11_0

/-- Registers of Table 12-8, part 0. -/
def regs12_8_0 : List RegDesc :=
  [⟨0x20600000, [], [(0, 1, .ro, 0x0), (1, 1, .ro, 0x0), (2, 1, .ro, 0x0), (3, 1, .ro, 0x0), (4, 4, .ro, 0x0), (8, 1, .ro, 0x0)]⟩,
   ⟨0x20600004, [], [(0, 1, .w1c, 0x0), (1, 1, .w1c, 0x0), (2, 1, .w1c, 0x0), (3, 1, .w1c, 0x0), (4, 8, .w1c, 0x0), (12, 4, .w1c, 0x0)]⟩,
   ⟨0x20600008, [], [(0, 18, .ro, 0x0)]⟩,
   ⟨0x2060000C, [], [(0, 1, .rw, 0x0)]⟩,
   ⟨0x20600010, [], [(0, 16, .rc, 0x0)]⟩,
   ⟨0x20600014, [], [(0, 16, .rc, 0x0)]⟩,
   ⟨0x20600018, [], [(0, 6, .rw, 0x0)]⟩,
   ⟨0x2060001C, [], [(0, 3, .rw, 0x0), (8, 11, .rw, 0x20), (19, 11, .rw, 0x21)]⟩,
   ⟨0x20600020, [], [(0, 8, .wo, 0x0), (16, 16, .wo, 0x0)]⟩,
   ⟨0x20600024, [], [(0, 32, .rw, 0x0)]⟩,
   ⟨0x20600028, [], [(0, 32, .rw, 0x0)]⟩,
   ⟨0x2060002C, [], [(0, 16, .ro, 0x0), (31, 1, .ro, 0x0)]⟩]

/-- Registers of Table 12-8, part 1. -/
def regs12_8_1 : List RegDesc :=
  [⟨0x20600030, [], [(0, 32, .ro, 0x0)]⟩]

/-- Registers of Table 12-8 (R314). -/
def regs12_8 : List RegDesc := regs12_8_0 ++ regs12_8_1

/-- Registers of Table 13-9, part 0. -/
def regs13_9_0 : List RegDesc :=
  [⟨0x20700000, [], [(0, 6, .rw, 0x0)]⟩,
   ⟨0x20700004, [], [(0, 24, .ro, 0x0)]⟩,
   ⟨0x20700008, [], [(0, 24, .ro, 0x0)]⟩,
   ⟨0x2070000C, [], [(0, 16, .ro, 0x0), (16, 16, .ro, 0x0)]⟩,
   ⟨0x20700010, [(0x4, 4)], [(0, 16, .ro, 0x0), (16, 1, .ro, 0x0), (17, 1, .ro, 0x0)]⟩,
   ⟨0x20700020, [], [(0, 4, .w1c, 0x0), (4, 4, .w1c, 0x0)]⟩,
   ⟨0x20700024, [], [(0, 5, .wo, 0x0), (8, 1, .wo, 0x0), (16, 16, .wo, 0x0)]⟩,
   ⟨0x20700028, [], [(0, 8, .rw, 0x14)]⟩,
   ⟨0x2070002C, [], [(0, 4, .rw, 0xF), (4, 4, .rw, 0xF), (8, 4, .rw, 0xF), (12, 4, .rw, 0xF), (16, 4, .rw, 0xF), (20, 4, .rw, 0xF), (24, 4, .rw, 0xF), (28, 4, .rw, 0xF)]⟩,
   ⟨0x20700030, [], [(0, 4, .wo, 0x0)]⟩,
   ⟨0x20700034, [], [(0, 16, .ro, 0xFF)]⟩,
   ⟨0x20700038, [], [(0, 4, .ro, 0x0), (4, 4, .ro, 0x0), (8, 3, .ro, 0x0)]⟩]

/-- Registers of Table 13-9, part 1. -/
def regs13_9_1 : List RegDesc :=
  [⟨0x2070003C, [], [(0, 16, .rc, 0x0), (16, 16, .rc, 0x0)]⟩,
   ⟨0x20700040, [(0x4, 8)], [(0, 6, .rw, 0x0), (31, 1, .rw, 0x0)]⟩,
   ⟨0x20700800, [(0x40, 16), (0x4, 16)], [(0, 32, .rw, 0x0)]⟩,
   ⟨0x20701000, [(0x40, 24)], [(0, 4, .rw, 0x0), (4, 2, .rw, 0x0), (8, 3, .rw, 0x0)]⟩,
   ⟨0x20701004, [(0x40, 24)], [(0, 1, .rw, 0x0), (1, 1, .wo, 0x0)]⟩,
   ⟨0x20701008, [(0x40, 24)], [(0, 3, .ro, 0x0), (3, 3, .ro, 0x0), (6, 1, .ro, 0x0), (7, 1, .ro, 0x0), (8, 1, .ro, 0x0), (9, 1, .ro, 0x0), (10, 1, .ro, 0x0), (11, 1, .ro, 0x0), (12, 4, .ro, 0x0)]⟩,
   ⟨0x2070100C, [(0x40, 24)], [(0, 1, .w1c, 0x0), (1, 1, .w1c, 0x0), (2, 1, .w1c, 0x0), (3, 1, .w1c, 0x0), (4, 1, .w1c, 0x0), (5, 1, .w1c, 0x0), (6, 1, .w1c, 0x0), (7, 1, .w1c, 0x0), (8, 1, .w1c, 0x0), (9, 1, .w1c, 0x0), (10, 1, .w1c, 0x0), (11, 1, .w1c, 0x0)]⟩,
   ⟨0x20701010, [(0x40, 24)], [(0, 25, .ro, 0x0), (31, 1, .ro, 0x0)]⟩,
   ⟨0x20701014, [(0x40, 24)], [(0, 16, .ro, 0x0)]⟩,
   ⟨0x20701018, [(0x40, 24)], [(0, 16, .ro, 0x0), (16, 16, .rc, 0x0)]⟩,
   ⟨0x2070101C, [(0x40, 24)], [(0, 10, .ro, 0x0)]⟩,
   ⟨0x20701020, [(0x40, 24)], [(0, 8, .rc, 0x0), (8, 8, .rc, 0x0), (16, 16, .ro, 0x0)]⟩]

/-- Registers of Table 13-9, part 2. -/
def regs13_9_2 : List RegDesc :=
  [⟨0x20701024, [(0x40, 24)], [(0, 16, .ro, 0x0)]⟩]

/-- Registers of Table 13-9 (R342). -/
def regs13_9 : List RegDesc := regs13_9_0 ++ regs13_9_1 ++ regs13_9_2

/-- Registers of Table 14-3, part 0. -/
def regs14_3_0 : List RegDesc :=
  [⟨0x20800000, [], [(0, 1, .rw, 0x0)]⟩,
   ⟨0x20800004, [], [(0, 2, .ro, 0x0), (2, 1, .ro, 0x0), (3, 1, .ro, 0x0), (4, 1, .ro, 0x0), (5, 1, .ro, 0x0), (6, 1, .ro, 0x0)]⟩,
   ⟨0x20800008, [], [(0, 1, .w1c, 0x0), (1, 1, .w1c, 0x0), (2, 1, .w1c, 0x0), (3, 1, .w1c, 0x0), (4, 1, .w1c, 0x0), (5, 1, .w1c, 0x0), (6, 1, .w1c, 0x0), (7, 1, .w1c, 0x0)]⟩,
   ⟨0x2080000C, [], [(0, 16, .rw, 0x32), (16, 16, .rw, 0x7D0)]⟩,
   ⟨0x20800010, [], [(0, 16, .rw, 0x0)]⟩,
   ⟨0x20800014, [], [(0, 16, .rw, 0x2710)]⟩,
   ⟨0x20800018, [], [(0, 16, .rw, 0x14)]⟩,
   ⟨0x20800020, [], [(0, 2, .rw, 0x0), (2, 2, .rw, 0x0), (4, 2, .rw, 0x0), (6, 2, .rw, 0x0), (8, 2, .rw, 0x0), (10, 2, .rw, 0x0), (12, 2, .rw, 0x0), (14, 2, .rw, 0x0), (16, 2, .rw, 0x0), (18, 2, .rw, 0x0), (20, 2, .rw, 0x0), (22, 2, .rw, 0x0), (24, 2, .rw, 0x0), (26, 2, .rw, 0x0), (28, 2, .rw, 0x0), (30, 2, .rw, 0x0)]⟩,
   ⟨0x20800024, [], [(0, 2, .rw, 0x0), (2, 2, .rw, 0x0), (4, 2, .rw, 0x0), (6, 2, .rw, 0x0), (8, 2, .rw, 0x0), (10, 2, .rw, 0x0), (12, 2, .rw, 0x0), (14, 2, .rw, 0x0)]⟩,
   ⟨0x20800028, [], [(0, 2, .rw, 0x0), (2, 2, .rw, 0x0), (4, 2, .rw, 0x0), (6, 2, .rw, 0x0), (8, 2, .rw, 0x0), (10, 2, .rw, 0x0), (12, 2, .rw, 0x0), (14, 2, .rw, 0x0), (16, 2, .rw, 0x0), (18, 2, .rw, 0x0), (20, 2, .rw, 0x0), (22, 2, .rw, 0x0), (24, 2, .rw, 0x0), (26, 2, .rw, 0x0), (28, 2, .rw, 0x0), (30, 2, .rw, 0x0)]⟩,
   ⟨0x2080002C, [], [(0, 2, .rw, 0x0), (2, 2, .rw, 0x0), (4, 2, .rw, 0x0), (6, 2, .rw, 0x0), (8, 2, .rw, 0x0), (10, 2, .rw, 0x0), (12, 2, .rw, 0x0), (14, 2, .rw, 0x0), (16, 2, .rw, 0x0), (18, 2, .rw, 0x0), (20, 2, .rw, 0x0), (22, 2, .rw, 0x0), (24, 2, .rw, 0x0), (26, 2, .rw, 0x0), (28, 2, .rw, 0x0), (30, 2, .rw, 0x0)]⟩,
   ⟨0x20800030, [], [(0, 24, .ro, 0x0)]⟩]

/-- Registers of Table 14-3, part 1. -/
def regs14_3_1 : List RegDesc :=
  [⟨0x20800034, [], [(0, 32, .ro, 0x0)]⟩,
   ⟨0x20800038, [], [(0, 24, .wo, 0x0)]⟩,
   ⟨0x2080003C, [], [(0, 32, .wo, 0x0)]⟩,
   ⟨0x20800040, [], [(0, 24, .ro, 0x0)]⟩,
   ⟨0x20800044, [], [(0, 32, .ro, 0x0)]⟩,
   ⟨0x20800048, [], [(0, 24, .ro, 0x0)]⟩,
   ⟨0x2080004C, [], [(0, 32, .ro, 0x0)]⟩,
   ⟨0x20800050, [], [(0, 8, .rc, 0x0), (8, 8, .rc, 0x0), (16, 16, .rc, 0x0)]⟩]

/-- Registers of Table 14-3 (R358). -/
def regs14_3 : List RegDesc := regs14_3_0 ++ regs14_3_1

/-- Registers of Table 15-5, part 0. -/
def regs15_5_0 : List RegDesc :=
  [⟨0x20900000, [], [(0, 6, .rw, 0x0)]⟩,
   ⟨0x20900004, [], [(0, 32, .ro, 0x0)]⟩,
   ⟨0x20900008, [], [(0, 32, .ro, 0x0)]⟩,
   ⟨0x2090000C, [], [(0, 32, .ro, 0x0)]⟩,
   ⟨0x20900010, [], [(0, 5, .wo, 0x0), (8, 1, .wo, 0x0), (16, 16, .wo, 0x0)]⟩,
   ⟨0x20900040, [(0x4, 8)], [(0, 6, .rw, 0x0), (31, 1, .rw, 0x0)]⟩,
   ⟨0x20901000, [(0x40, 32)], [(0, 1, .rw, 0x0), (1, 1, .rw, 0x0), (2, 1, .rw, 0x0), (3, 1, .rw, 0x0), (4, 2, .rw, 0x0), (6, 1, .rw, 0x0), (8, 2, .rw, 0x0), (10, 3, .rw, 0x3), (16, 3, .rw, 0x0), (19, 1, .rw, 0x0), (24, 8, .rw, 0xA)]⟩,
   ⟨0x20901004, [(0x40, 32)], [(0, 16, .rw, 0x3E8)]⟩,
   ⟨0x20901008, [(0x40, 32)], [(0, 1, .rw, 0x0), (1, 1, .wo, 0x0)]⟩,
   ⟨0x2090100C, [(0x40, 32)], [(0, 1, .ro, 0x0), (1, 1, .ro, 0x0), (2, 3, .ro, 0x6), (5, 1, .ro, 0x0), (6, 1, .ro, 0x0), (7, 1, .ro, 0x0), (8, 3, .ro, 0x0)]⟩,
   ⟨0x20901010, [(0x40, 32)], [(0, 1, .w1c, 0x0), (1, 1, .w1c, 0x0), (2, 1, .w1c, 0x0), (3, 1, .w1c, 0x0), (4, 1, .w1c, 0x0), (5, 1, .w1c, 0x0), (6, 1, .w1c, 0x0)]⟩,
   ⟨0x20901014, [(0x40, 32)], [(0, 16, .ro, 0x0), (16, 16, .ro, 0x0)]⟩]

/-- Registers of Table 15-5, part 1. -/
def regs15_5_1 : List RegDesc :=
  [⟨0x20901018, [(0x40, 32)], [(0, 32, .ro, 0x0)]⟩,
   ⟨0x2090101C, [(0x40, 32)], [(0, 32, .ro, 0x0)]⟩,
   ⟨0x20901020, [(0x40, 32)], [(0, 30, .ro, 0x0), (31, 1, .ro, 0x0)]⟩,
   ⟨0x20901024, [(0x40, 32)], [(0, 32, .ro, 0x0)]⟩,
   ⟨0x20901028, [(0x40, 32)], [(0, 16, .ro, 0x0), (16, 16, .ro, 0x0)]⟩]

/-- Registers of Table 15-5 (R373). -/
def regs15_5 : List RegDesc := regs15_5_0 ++ regs15_5_1

/-- Registers of Table 16-9, part 0. -/
def regs16_9_0 : List RegDesc :=
  [⟨0x20A00000, [(0x1000, 8)], [(0, 2, .rw, 0x0), (2, 1, .rw, 0x1), (3, 1, .rw, 0x0), (4, 1, .rw, 0x0), (5, 1, .rw, 0x0), (6, 1, .rw, 0x0)]⟩,
   ⟨0x20A00004, [(0x1000, 8)], [(0, 8, .rw, 0x1), (8, 8, .rw, 0x3E), (16, 7, .rw, 0xF), (23, 7, .rw, 0xF)]⟩,
   ⟨0x20A00008, [(0x1000, 8)], [(0, 5, .rw, 0x0), (8, 5, .rw, 0x1C), (16, 4, .rw, 0x9), (24, 4, .rw, 0x9), (31, 1, .rw, 0x1)]⟩,
   ⟨0x20A0000C, [(0x1000, 8)], [(0, 7, .rw, 0x1E), (8, 7, .rw, 0x0), (16, 7, .ro, 0x0)]⟩,
   ⟨0x20A00010, [(0x1000, 8)], [(0, 2, .ro, 0x0), (2, 1, .ro, 0x0), (3, 1, .ro, 0x0), (4, 1, .ro, 0x0), (5, 1, .ro, 0x0), (8, 2, .ro, 0x1), (16, 8, .ro, 0x0)]⟩,
   ⟨0x20A00014, [(0x1000, 8)], [(0, 8, .ro, 0x0), (8, 8, .ro, 0x0)]⟩,
   ⟨0x20A00018, [(0x1000, 8)], [(0, 1, .w1c, 0x0), (1, 1, .w1c, 0x0), (2, 1, .w1c, 0x0), (3, 1, .w1c, 0x0), (4, 1, .w1c, 0x0), (5, 1, .w1c, 0x0), (6, 1, .w1c, 0x0), (7, 1, .w1c, 0x0), (8, 1, .w1c, 0x0), (9, 1, .w1c, 0x0), (10, 1, .w1c, 0x0), (11, 1, .w1c, 0x0), (12, 1, .w1c, 0x0)]⟩,
   ⟨0x20A0001C, [(0x1000, 8)], [(0, 2, .wo, 0x0)]⟩,
   ⟨0x20A00020, [(0x1000, 8)], [(0, 16, .rc, 0x0), (16, 16, .rc, 0x0)]⟩,
   ⟨0x20A00024, [(0x1000, 8)], [(0, 16, .rc, 0x0), (16, 8, .rc, 0x0)]⟩,
   ⟨0x20A00028, [(0x1000, 8)], [(0, 6, .rw, 0x0)]⟩,
   ⟨0x20A00030, [(0x1000, 8)], [(0, 29, .rw, 0x0), (29, 1, .rw, 0x0)]⟩]

/-- Registers of Table 16-9, part 1. -/
def regs16_9_1 : List RegDesc :=
  [⟨0x20A00034, [(0x1000, 8)], [(0, 29, .rw, 0x1FFFFFFF)]⟩,
   ⟨0x20A00038, [(0x1000, 8)], [(0, 4, .rw, 0x0), (4, 1, .rw, 0x0), (5, 1, .rw, 0x0), (6, 1, .rw, 0x0), (8, 2, .rw, 0x2), (16, 5, .ro, 0x0)]⟩,
   ⟨0x20A0003C, [(0x1000, 8)], [(0, 32, .rw, 0x0)]⟩,
   ⟨0x20A00040, [(0x1000, 8)], [(0, 32, .rw, 0x0)]⟩,
   ⟨0x20A00044, [(0x1000, 8)], [(0, 1, .w1c, 0x0), (1, 1, .w1c, 0x0), (2, 1, .w1c, 0x0), (3, 1, .w1c, 0x0)]⟩,
   ⟨0x20A00100, [(0x1000, 8), (0x10, 8)], [(0, 6, .rw, 0x0), (8, 6, .rw, 0x0), (16, 6, .rw, 0x0)]⟩,
   ⟨0x20A00104, [(0x1000, 8), (0x10, 8)], [(0, 7, .rw, 0x0), (8, 7, .rw, 0x0)]⟩,
   ⟨0x20A00108, [(0x1000, 8), (0x10, 8)], [(0, 29, .rw, 0x1FFFFFFF), (29, 1, .rw, 0x0)]⟩,
   ⟨0x20A0010C, [(0x1000, 8), (0x10, 8)], [(0, 29, .rw, 0x0)]⟩,
   ⟨0x20A10000, [(0x1000, 8), (0x10, 128)], [(0, 29, .rw, 0x0), (29, 1, .rw, 0x0), (31, 1, .rw, 0x0)]⟩,
   ⟨0x20A10004, [(0x1000, 8), (0x10, 128)], [(0, 29, .rw, 0x1FFFFFFF)]⟩,
   ⟨0x20A10008, [(0x1000, 8), (0x10, 128)], [(0, 6, .rw, 0x0), (8, 2, .rw, 0x0), (10, 1, .rw, 0x0)]⟩]

/-- Registers of Table 16-9, part 2. -/
def regs16_9_2 : List RegDesc :=
  [⟨0x20A1000C, [(0x1000, 8), (0x10, 128)], [(0, 16, .rc, 0x0)]⟩,
   ⟨0x20A20000, [(0x2000, 8), (0x80, 64)], [(0, 29, .rw, 0x0), (29, 1, .rw, 0x0), (30, 1, .rw, 0x0)]⟩,
   ⟨0x20A20004, [(0x2000, 8), (0x80, 64)], [(0, 4, .rw, 0x0), (4, 1, .rw, 0x0), (5, 1, .rw, 0x0), (6, 1, .rw, 0x0), (7, 1, .rw, 0x0), (8, 1, .rw, 0x0), (9, 1, .rw, 0x0), (16, 16, .rw, 0x10)]⟩,
   ⟨0x20A20008, [(0x2000, 8), (0x80, 64)], [(0, 1, .wo, 0x0), (1, 1, .wo, 0x0)]⟩,
   ⟨0x20A2000C, [(0x2000, 8), (0x80, 64)], [(0, 3, .ro, 0x0), (3, 1, .w1c, 0x0), (4, 1, .w1c, 0x0), (5, 1, .w1c, 0x0), (6, 1, .w1c, 0x0), (7, 1, .w1c, 0x0), (8, 8, .ro, 0x0), (16, 8, .ro, 0x0)]⟩,
   ⟨0x20A20010, [(0x2000, 8), (0x80, 64)], [(0, 32, .ro, 0x0)]⟩,
   ⟨0x20A20014, [(0x2000, 8), (0x80, 64)], [(0, 32, .ro, 0x0)]⟩,
   ⟨0x20A20018, [(0x2000, 8), (0x80, 64)], [(0, 30, .ro, 0x0)]⟩,
   ⟨0x20A2001C, [(0x2000, 8), (0x80, 64)], [(0, 32, .ro, 0x0)]⟩,
   ⟨0x20A20020, [(0x2000, 8), (0x80, 64)], [(0, 16, .ro, 0x0)]⟩,
   ⟨0x20A20040, [(0x2000, 8), (0x80, 64), (0x4, 16)], [(0, 32, .rw, 0x0)]⟩]

/-- Registers of Table 16-9 (R396). -/
def regs16_9 : List RegDesc := regs16_9_0 ++ regs16_9_1 ++ regs16_9_2

/-- Registers of Table 17-4, part 0. -/
def regs17_4_0 : List RegDesc :=
  [⟨0x20A40000, [], [(0, 1, .rw, 0x0), (1, 3, .rw, 0x0), (4, 4, .rw, 0x0), (8, 1, .rw, 0x0), (9, 1, .rw, 0x1), (10, 1, .rw, 0x0)]⟩,
   ⟨0x20A40004, [], [(0, 16, .rw, 0x0)]⟩,
   ⟨0x20A40008, [], [(0, 11, .rw, 0x6E0)]⟩,
   ⟨0x20A4000C, [], [(0, 10, .rw, 0x32), (16, 16, .rw, 0xC8)]⟩,
   ⟨0x20A40010, [], [(0, 16, .rw, 0x3E8), (16, 16, .rw, 0x64)]⟩,
   ⟨0x20A40014, [], [(0, 8, .rw, 0x0)]⟩,
   ⟨0x20A40018, [], [(0, 3, .ro, 0x0), (3, 1, .ro, 0x0), (4, 4, .ro, 0x0), (8, 1, .ro, 0x0), (9, 1, .ro, 0x0), (16, 16, .ro, 0x0)]⟩,
   ⟨0x20A4001C, [], [(0, 1, .w1c, 0x0), (1, 1, .w1c, 0x0), (2, 1, .w1c, 0x0), (3, 1, .w1c, 0x0), (4, 1, .w1c, 0x0), (5, 1, .w1c, 0x0), (6, 1, .w1c, 0x0)]⟩,
   ⟨0x20A40020, [], [(0, 2, .wo, 0x0)]⟩,
   ⟨0x20A40024, [], [(0, 8, .rc, 0x0), (8, 8, .rc, 0x0), (16, 8, .rc, 0x0)]⟩,
   ⟨0x20A40100, [(0x4, 8)], [(0, 1, .rw, 0x0)]⟩,
   ⟨0x20A40200, [(0x200, 4)], [(0, 1, .ro, 0x0)]⟩]

/-- Registers of Table 17-4, part 1. -/
def regs17_4_1 : List RegDesc :=
  [⟨0x20A40204, [(0x200, 4)], [(0, 16, .rc, 0x0), (16, 16, .rc, 0x0)]⟩,
   ⟨0x20A40210, [(0x200, 4), (0x8, 32)], [(0, 29, .rw, 0x0), (29, 1, .rw, 0x0), (30, 1, .rw, 0x0), (31, 1, .rw, 0x0)]⟩,
   ⟨0x20A40214, [(0x200, 4), (0x8, 32)], [(0, 29, .rw, 0x0), (29, 1, .rw, 0x0)]⟩]

/-- Registers of Table 17-4 (R412). -/
def regs17_4 : List RegDesc := regs17_4_0 ++ regs17_4_1

/-- Registers of Table 18-9, part 0. -/
def regs18_9_0 : List RegDesc :=
  [⟨0x20B00000, [], [(0, 16, .rw, 0x5), (16, 16, .rw, 0x40)]⟩,
   ⟨0x20B00004, [], [(0, 16, .rw, 0xC8)]⟩,
   ⟨0x20B00008, [], [(0, 16, .rc, 0x0), (16, 16, .rc, 0x0)]⟩,
   ⟨0x20B00100, [(0x20, 9)], [(0, 6, .rw, 0x0), (31, 1, .rw, 0x0)]⟩,
   ⟨0x20B00104, [(0x20, 9)], [(0, 16, .rw, 0x0)]⟩,
   ⟨0x20B00108, [(0x20, 9)], [(0, 1, .wo, 0x0)]⟩,
   ⟨0x20B0010C, [(0x20, 9)], [(0, 1, .ro, 0x0), (1, 1, .w1c, 0x0), (16, 16, .ro, 0x0)]⟩,
   ⟨0x20B00110, [(0x20, 9)], [(0, 16, .ro, 0x0), (16, 16, .ro, 0x0)]⟩,
   ⟨0x20B00114, [(0x20, 9)], [(0, 32, .ro, 0x0)]⟩,
   ⟨0x20B00118, [(0x20, 9)], [(0, 8, .ro, 0x0)]⟩,
   ⟨0x20B0011C, [(0x20, 9)], [(0, 16, .rc, 0x0), (16, 16, .rc, 0x0)]⟩,
   ⟨0x20B01000, [], [(0, 1, .wo, 0x0)]⟩]

/-- Registers of Table 18-9, part 1. -/
def regs18_9_1 : List RegDesc :=
  [⟨0x20B01004, [], [(0, 1, .ro, 0x0), (1, 1, .ro, 0x0)]⟩,
   ⟨0x20B01008, [], [(0, 7, .ro, 0x7F), (7, 2, .ro, 0x0), (9, 4, .ro, 0x0)]⟩,
   ⟨0x20B08000, [(0x4, 1216)], [(0, 32, .rw, 0x0)]⟩]

/-- Registers of Table 18-9 (R437). -/
def regs18_9 : List RegDesc := regs18_9_0 ++ regs18_9_1

/-- Registers of Table 18-10, part 0. -/
def regs18_10_0 : List RegDesc :=
  [⟨0x21000000, [], [(0, 1, .rw, 0x1)]⟩,
   ⟨0x21000004, [], [(0, 1, .ro, 0x0), (1, 1, .ro, 0x0), (2, 1, .ro, 0x0), (3, 1, .ro, 0x0), (4, 3, .ro, 0x0)]⟩,
   ⟨0x21000008, [], [(0, 16, .rc, 0x0), (16, 16, .rc, 0x0)]⟩]

/-- Registers of Table 18-10 (R438). -/
def regs18_10 : List RegDesc := regs18_10_0

/-- Registers of Table 20-10, part 0. -/
def regs20_10_0 : List RegDesc :=
  [⟨0x20C00000, [], [(0, 1, .ro, 0x0), (1, 1, .ro, 0x0)]⟩,
   ⟨0x20C00004, [], [(0, 1, .wo, 0x0), (16, 16, .wo, 0x0)]⟩,
   ⟨0x20C00008, [], [(0, 4, .ro, 0xF), (4, 8, .ro, 0x0)]⟩,
   ⟨0x20C0000C, [], [(0, 6, .rw, 0x0)]⟩,
   ⟨0x20C00010, [], [(0, 8, .rw, 0x0)]⟩,
   ⟨0x20C00014, [], [(0, 28, .rw, 0x0)]⟩,
   ⟨0x20C00018, [], [(0, 10, .rw, 0x0)]⟩,
   ⟨0x20C00020, [(0x4, 3)], [(0, 4, .ro, 0xF), (4, 4, .ro, 0xF), (8, 4, .ro, 0xF), (12, 4, .ro, 0xF), (16, 4, .ro, 0xF), (20, 4, .ro, 0xF), (24, 4, .ro, 0xF), (28, 4, .ro, 0xF)]⟩,
   ⟨0x20C00030, [(0x4, 4)], [(0, 4, .ro, 0xF), (4, 4, .ro, 0xF), (8, 4, .ro, 0xF), (12, 4, .ro, 0xF), (16, 4, .ro, 0xF), (20, 4, .ro, 0xF), (24, 4, .ro, 0xF), (28, 4, .ro, 0xF)]⟩,
   ⟨0x20C00040, [(0x4, 4)], [(0, 4, .ro, 0xF), (4, 4, .ro, 0x0)]⟩,
   ⟨0x20C00100, [(0x40, 8)], [(0, 4, .wo, 0x0), (16, 16, .wo, 0x0)]⟩,
   ⟨0x20C00104, [(0x40, 8)], [(0, 3, .ro, 0x0), (3, 1, .ro, 0x0), (4, 1, .ro, 0x0)]⟩]

/-- Registers of Table 20-10, part 1. -/
def regs20_10_1 : List RegDesc :=
  [⟨0x20C00108, [(0x40, 8)], [(0, 32, .ro, 0x0)]⟩,
   ⟨0x20C0010C, [(0x40, 8)], [(0, 1, .w1c, 0x0), (1, 1, .w1c, 0x0), (2, 1, .w1c, 0x0), (3, 1, .w1c, 0x0), (4, 1, .w1c, 0x0), (5, 1, .w1c, 0x0), (6, 1, .w1c, 0x0)]⟩,
   ⟨0x20C00110, [(0x40, 8)], [(0, 16, .rc, 0x0), (16, 8, .rw, 0x10)]⟩,
   ⟨0x20C00114, [(0x40, 8)], [(0, 32, .ro, 0x0)]⟩,
   ⟨0x20C00118, [(0x40, 8)], [(0, 8, .ro, 0x0)]⟩,
   ⟨0x20C0011C, [(0x40, 8)], [(0, 16, .wo, 0x0)]⟩,
   ⟨0x20C00120, [(0x40, 8)], [(0, 8, .rc, 0x0)]⟩,
   ⟨0x20C01000, [(0x100, 8), (0x10, 8)], [(0, 32, .ro, 0x0)]⟩,
   ⟨0x20C01004, [(0x100, 8), (0x10, 8)], [(0, 8, .ro, 0x0), (8, 4, .ro, 0x0)]⟩,
   ⟨0x20C01008, [(0x100, 8), (0x10, 8)], [(0, 32, .ro, 0x0)]⟩,
   ⟨0x20C0100C, [(0x100, 8), (0x10, 8)], [(0, 32, .ro, 0x0)]⟩]

/-- Registers of Table 20-10 (R491). -/
def regs20_10 : List RegDesc := regs20_10_0 ++ regs20_10_1

/-- Registers of Table 21-18, part 0. -/
def regs21_18_0 : List RegDesc :=
  [⟨0x20D00000, [], [(0, 1, .ro, 0x0), (1, 1, .ro, 0x0), (2, 1, .ro, 0x0), (3, 2, .ro, 0x0), (5, 1, .ro, 0x0), (6, 1, .ro, 0x0), (7, 1, .ro, 0x0), (8, 8, .ro, 0x0)]⟩,
   ⟨0x20D00004, [], [(0, 1, .w1c, 0x0), (1, 1, .w1c, 0x0), (2, 1, .w1c, 0x0), (3, 1, .w1c, 0x0), (4, 1, .w1c, 0x0), (5, 1, .w1c, 0x0)]⟩,
   ⟨0x20D00008, [], [(0, 8, .ro, 0x0), (8, 3, .ro, 0x0)]⟩,
   ⟨0x20D0000C, [], [(0, 1, .wo, 0x0), (16, 16, .wo, 0x0)]⟩,
   ⟨0x20D00010, [], [(0, 6, .ro, 0x3F), (6, 1, .rw, 0x0), (7, 1, .rw, 0x1)]⟩,
   ⟨0x20D00014, [], [(0, 32, .rw, 0x0)]⟩,
   ⟨0x20D00018, [], [(0, 8, .ro, 0x0), (8, 8, .w1c, 0x0), (16, 7, .ro, 0x0), (23, 4, .ro, 0x0)]⟩,
   ⟨0x20D0001C, [], [(0, 3, .wo, 0x0), (16, 16, .wo, 0x0)]⟩,
   ⟨0x20D00100, [(0x8, 32)], [(0, 1, .ro, 0x0), (1, 2, .ro, 0x0), (8, 8, .ro, 0x0), (16, 4, .ro, 0xF), (24, 8, .ro, 0x0)]⟩,
   ⟨0x20D00104, [(0x8, 32)], [(0, 32, .ro, 0x0)]⟩,
   ⟨0x20D00200, [(0x4, 8)], [(0, 32, .ro, 0x0)]⟩]

/-- Registers of Table 21-18 (R525). -/
def regs21_18 : List RegDesc := regs21_18_0

/-- Registers of Table 21-19, part 0. -/
def regs21_19_0 : List RegDesc :=
  [⟨0x21200000, [(0x4, 24)], [(0, 32, .ro, 0x0)]⟩,
   ⟨0x21200060, [(0x4, 12)], [(0, 32, .ro, 0x0)]⟩,
   ⟨0x21200090, [], [(0, 2, .ro, 0x0), (2, 2, .ro, 0x0), (4, 4, .ro, 0x0), (8, 1, .ro, 0x0)]⟩,
   ⟨0x21200094, [], [(0, 5, .ro, 0x0)]⟩,
   ⟨0x21200098, [], [(0, 32, .ro, 0x14608001)]⟩]

/-- Registers of Table 21-19 (R526). -/
def regs21_19 : List RegDesc := regs21_19_0

/-- Registers of Table 22-7, part 0. -/
def regs22_7_0 : List RegDesc :=
  [⟨0x21100000, [], [(0, 1, .ro, 0x0), (1, 1, .ro, 0x0), (2, 1, .ro, 0x0), (3, 1, .ro, 0x0), (4, 1, .ro, 0x0)]⟩,
   ⟨0x21100004, [], [(0, 1, .w1c, 0x0), (1, 1, .w1c, 0x0), (2, 1, .w1c, 0x0), (3, 1, .w1c, 0x0)]⟩,
   ⟨0x21100008, [], [(0, 16, .ro, 0x0), (16, 1, .ro, 0x0), (17, 3, .ro, 0x0)]⟩,
   ⟨0x2110000C, [], [(0, 16, .ro, 0x0), (16, 16, .ro, 0x0)]⟩,
   ⟨0x21100100, [(0x20, 2)], [(0, 3, .ro, 0x0)]⟩,
   ⟨0x21100104, [(0x20, 2)], [(0, 32, .ro, 0x0)]⟩,
   ⟨0x21100108, [(0x20, 2)], [(0, 32, .ro, 0x0)]⟩,
   ⟨0x2110010C, [(0x20, 2)], [(0, 13, .ro, 0x0)]⟩,
   ⟨0x21100110, [(0x20, 2)], [(0, 32, .ro, 0x0)]⟩,
   ⟨0x21100114, [(0x20, 2)], [(0, 32, .ro, 0x0)]⟩,
   ⟨0x21100118, [(0x20, 2)], [(0, 16, .ro, 0x0)]⟩]

/-- Registers of Table 22-7 (R546). -/
def regs22_7 : List RegDesc := regs22_7_0

/-- Every register of the module. -/
def allRegs : List RegDesc :=
  regs3_15 ++ regs4_7 ++ regs5_9 ++ regs6_7 ++ regs6_8 ++ regs7_14 ++ regs8_8 ++ regs9_3 ++ regs10_13 ++ regs11_11 ++ regs12_8 ++ regs13_9 ++ regs14_3 ++ regs15_5 ++ regs16_9 ++ regs17_4 ++ regs18_9 ++ regs18_10 ++ regs20_10 ++ regs21_18 ++ regs21_19 ++ regs22_7

/-- The registers of the 1 MB window that an address falls in (Table 1-7). -/
def windowRegs (a : Nat) : List RegDesc :=
  match a / 0x100000 with
  | 0x200 => regs5_9
  | 0x201 => regs6_7
  | 0x202 => regs7_14
  | 0x203 => regs8_8
  | 0x204 => regs9_3
  | 0x205 => regs10_13 ++ regs11_11
  | 0x206 => regs12_8
  | 0x207 => regs13_9
  | 0x208 => regs14_3
  | 0x209 => regs15_5
  | 0x20A => regs16_9 ++ regs17_4
  | 0x20B => regs18_9
  | 0x20C => regs20_10
  | 0x20D => regs21_18
  | 0x20E => regs3_15 ++ regs4_7
  | 0x20F => regs6_8
  | 0x210 => regs18_10
  | 0x211 => regs22_7
  | 0x212 => regs21_19
  | _ => []

/-- Does offset `d` from an array's base name one of its elements? -/
def offsetOk : List (Nat × Nat) → Nat → Bool
  | [], d => d == 0
  | (stride, count) :: rest, d => decide (d / stride < count) && offsetOk rest (d % stride)

/-- The register description that holds byte address `a`, if one does. -/
def descAt (a : Nat) : Option RegDesc :=
  (windowRegs a).find? fun r => decide (r.base ≤ a) && offsetOk r.dims (a - r.base)

/-- The fields of the register at byte address `a`; none where no register is assigned (R5). The words
of the preloaded profiles are read-only with the values of Table 13-6. -/
def fieldsAt (a : Nat) : List Field :=
  if 0x20700800 ≤ a ∧ a < 0x20700C00 then
    if a % 4 = 0 then [F.LS_PROF_DATA ((a - 0x20700800) / 0x40) ((a - 0x20700800) % 0x40 / 4)] else []
  else
    match descAt a with
    | none => []
    | some r => r.fields.map fun x => ⟨a, x.1, x.2.1, x.2.2.1, x.2.2.2⟩

end Sys2Proof.Machine
end

