-- ==== Sys2Proof/Machine/SMap.lean ====
section
/-! DEFINITION. Sparse maps with strictly rising keys: the one form in which the register file and the
per-channel state are held. -/

namespace Sys2Proof.Machine

/-- The value a map lists under `k`, if any. -/
def SMap.find? {α : Type} : SMap α → Nat → Option α
  | [], _ => none
  | (k', v) :: r, k => if k = k' then some v else SMap.find? r k

/-- The value under `k`, or the default `d`. -/
def SMap.get {α : Type} (m : SMap α) (k : Nat) (d : α) : α := (SMap.find? m k).getD d

/-- Put `v` under `k`, keeping the keys in order. -/
def SMap.set {α : Type} : SMap α → Nat → α → SMap α
  | [], k, v => [(k, v)]
  | (k', v') :: r, k, v =>
    if k < k' then (k, v) :: (k', v') :: r
    else if k = k' then (k, v) :: r
    else (k', v') :: SMap.set r k v

/-- Drop every entry whose key is in [lo, hi): those keys read as their defaults again. -/
def SMap.dropRange {α : Type} (m : SMap α) (lo hi : Nat) : SMap α :=
  m.filter fun e => decide (e.1 < lo ∨ hi ≤ e.1)

/-- Are the keys strictly rising from above `b`? -/
def SMap.sortedFrom {α : Type} : Nat → SMap α → Bool
  | _, [] => true
  | b, (k, _) :: r => decide (b ≤ k) && SMap.sortedFrom (k + 1) r

/-- The canonical form of a map. -/
def SMap.wf {α : Type} (m : SMap α) : Bool := SMap.sortedFrom 0 m

end Sys2Proof.Machine
end

