-- ==== Sys2Proof/Machine/Types.lean ====
section
/-! DEFINITION. The types of the state the register tables do not hold: queues, channel sequencers,
streams, buffers, sessions and the like, block by block, and the messages that leave the module. -/

namespace Sys2Proof.Machine

/-! ## CAN (16_can_fd.md) -/

/-- What a transmit buffer holds beyond its registers: the tick in which its launch took effect (R387), whether an
ABORT waits for the end of its attempt (R386). -/
structure CanBuf where
  effect : Option Nat := none
  abort : Bool := false
  deriving DecidableEq, Repr

/-- What a controller holds beyond its registers: its buffers, and frames of the system that wait for their buffer
(0 Pommel, 1 and 2 plant time, 3 Stitch, 4 and 5 signal gateway, 6 GZ-1200, 7 network sleep), oldest first. -/
structure CanSt where
  bufs : SMap CanBuf := []
  sys : SMap (List CanFrame) := []
  /-- the tick of the last RECOVER (R381) -/
  recAt : Nat := 0
  deriving DecidableEq, Repr

/-! ## Messages that leave the module -/

/-- A message on XL (Table 1-5): its priority class and its content. -/
inductive XlMsg where
  /-- the 500 µs heartbeat (R36) -/
  | heartbeat (h : Heartbeat)
  /-- a trip or reset message of Pommel, bytes 0 to 23 of Table 12-5 (R308) -/
  | trip (bytes : List Byte)
  /-- a channel offered for make-before-break release (R338) -/
  | lsRelease (ch : Nat)
  /-- the confirmation that the partner's own channel conducts (R338) -/
  | lsConfirm (ch : Nat)
  /-- a ring offered, with the last SEQ the master triggers, or the answer to an offer (R198) -/
  | ringPass (ring seqLast : Nat)
  | ringPassAnswer (ring : Nat) (accept : Bool)
  /-- a sealed plot image of MIGRATE, or of CHECKPOINT with its number (R486, R488) -/
  | plotImage (img : PlotImage)
  | checkpoint (num : Nat) (img : PlotImage)
  /-- the restore confirmation of a migration (R486) -/
  | restoreConfirm (plot : Nat) (status : Nat)
  /-- a Bridle request: tag, write or read, posted or not, address, bytes, data, priority, generation -/
  | request (tag : Nat) (write posted : Bool) (addr size data prio gen : Nat)
  /-- a Bridle response, RETRY, failure notice, posted-write acknowledgement -/
  | response (tag status data gen : Nat)
  | retry (tag : Nat)
  | failNotice (tag addr status : Nat)
  | postedAck (count : Nat)
  deriving DecidableEq, Repr

/-- Everything that leaves the module, in the order in which it leaves. -/
inductive Out where
  /-- a frame that controller `ctrl` has sent and a node has acknowledged -/
  | can (ctrl : Nat) (frame : CanFrame)
  | xl (msg : XlMsg)
  /-- an Ethernet frame leaving a port, with its stamp -/
  | eth (port : Nat) (frame : List Byte) (st : Stamp)
  /-- an angle reference message leaving a port: the group address as object 0x4002:05 has it, the UDP port, payload and tag
  of its datagram (R119) -/
  | netRef (port : Nat) (group : List Byte) (udp : Nat) (payload : List Byte) (st : Stamp)
  /-- a datagram of the Stitch endpoint on port 0 or 1: header and clear body, before encryption and tag (R442) -/
  | stitch (port : Nat) (header body : List Byte)
  /-- line end A (false) or B (true) of a ring sends: the bytes of a trigger sequence after TRG (R175), of its
  train (Table 7-3), or of a control frame (Table 7-7) -/
  | latTrigger (ring : Nat) (endB : Bool) (bytes : List Byte)
  | latTrain (ring : Nat) (endB : Bool) (bytes : List Byte)
  | latCtrl (ring : Nat) (endB : Bool) (bytes : List Byte)
  /-- a measurement receiver sends the bytes of a SYNC sequence after SYNC (R207), or a control frame (R211) -/
  | msrSync (link : Nat) (bytes : List Byte)
  | msrCtrl (link : Nat) (bytes : List Byte)
  /-- an interrupt to a consumer: plot 0-7 or 8 the supervisor; source code, 256 + c for a window boundary of core c -/
  | irq (cons src : Nat)
  /-- Stirrup's report of an action: LS or DIO, channel, applied or not, the tick -/
  | stage (isLs : Bool) (ch : Nat) (applied : Bool) (st : Stamp)
  /-- the WAKE line driven low (true) or released (R406) -/
  | wakeLine (low : Bool)
  /-- OFFSET and status of a block on the USB service endpoint 0x81 (R534) -/
  | svcStatus (offset status : Nat)
  deriving DecidableEq, Repr

/-! ## Furrow (09_furrow_queues.md) -/

/-- A word of a packet: DATA, END and POISON of Table 9-1, and the position of Furrow SRAM that stores it, none for a word
of a spill image. -/
structure QWord where
  data : Word := 0
  last : Bool := false
  poison : Bool := false
  pos : Option Nat := none
  deriving DecidableEq, Repr

/-- A packet: its priority and its words (R230). -/
structure QPacket where
  prio : Nat := 7
  words : List QWord := []
  deriving DecidableEq, Repr

/-- What a queue holds beyond its registers (R229-R238). -/
structure QueueSt where
  /-- complete packets of the filling bank, in order of arrival -/
  fill : List QPacket := []
  /-- the open packet of the filling bank -/
  opn : Option QPacket := none
  /-- unread complete packets of the draining bank -/
  drain : List QPacket := []
  /-- the bank image that the spill engine is copying (R232) -/
  spilling : Option (List QPacket) := none
  /-- spill images waiting, oldest first -/
  spilled : List (List QPacket) := []
  /-- unread words of the packet that Q_NEXT selected (R238) -/
  sel : List QWord := []
  /-- that packet came from a spill image -/
  selImage : Bool := false
  /-- which of the two banks is filling -/
  bank : Bool := false
  /-- PRIO last written to Q_PCTL (R234) -/
  prio : Nat := 7
  /-- POISON_NEXT pending (R234) -/
  poisonNext : Bool := false
  /-- credits revoked by FLUSH until the next tick (R233) -/
  revoked : Bool := false
  /-- no credit until the consumer's plot reset completes (R233, Table 20-6) -/
  noGrant : Bool := false
  /-- the tick of the last top-up of the credit, and the credit before it (Table 9-2) -/
  topUp : Option (Nat × Nat) := none
  /-- tick of the last word of the open packet (R236) -/
  wordAt : Nat := 0
  /-- spill images written since the queue was enabled: the next one's place goes round by it (R232) -/
  images : Nat := 0
  deriving DecidableEq, Repr

/-! ## Load switches (13_load_switches.md) -/

/-- What a load-switch channel holds beyond its registers. -/
structure LsCh where
  /-- the profile copied at the last switch-on (R324) -/
  prof : LsProfile := ⟨0, 0, 0, 0, 0, 0, 0, 0, []⟩
  /-- a profile segment is running -/
  running : Bool := false
  /-- I²t accumulator, A²s (R323) -/
  acc : Rat := 0
  /-- die temperature rises of the junction estimator, K (R331) -/
  d1 : Rat := 0
  d2 : Rat := 0
  /-- switched on by a service command (R321) -/
  service : Bool := false
  /-- cut off by BANK_HOT and waiting to return (R332) -/
  hotOff : Bool := false
  /-- turned off by feed undervoltage under UVOFF (R334) -/
  uvOff : Bool := false
  /-- a switch-on that R330 staggers is waiting -/
  stagger : Bool := false
  /-- the staggered switch-on is a retry and counts one (R328) -/
  retryDue : Bool := false
  /-- the partner's channel is being switched on under R338 -/
  releasing : Bool := false
  /-- the last samples, µA, newest first, at most 20 (R325) -/
  samples : List Nat := []
  /-- tick at which the running segment started (R323), and at which the steady state did (R328) -/
  segAt : Nat := 0
  steadyAt : Nat := 0
  /-- tick of the last cut-off (R328) -/
  cutAt : Nat := 0
  /-- tick at which the service command's DUR ends (R321) -/
  svcEnd : Nat := 0
  /-- tick at which SHARED or UV_HELD last cleared (R326) -/
  quietAt : Nat := 0
  /-- tick since which every sample lies below OL_THR outside OL_MASK segments (R326) -/
  olSince : Option Nat := none
  /-- tick of the confirmation that set SHARED (R338) -/
  relAt : Nat := 0
  deriving DecidableEq, Repr

/-! ## Field I/O (15_field_io.md) -/

/-- What a DIO channel holds beyond its registers. -/
structure DioCh where
  /-- stamp of the first raw transition of the running debounce run (R362) -/
  mark : Option Stamp := none
  /-- the tick of that transition, which POW learning measures from (R142) -/
  markTick : Nat := 0
  /-- raw transitions in the debounce run, and the tick of the last one (R362) -/
  raws : Nat := 0
  rawAt : Nat := 0
  /-- the last accepted edge: its stamp and direction -/
  edge : Stamp := {}
  rise : Bool := false
  /-- accepted edges, wrapping at 65,536 -/
  edges : Nat := 0
  /-- a DIO_PULSE is running, and a host write fell inside it (R365) -/
  pulse : Bool := false
  pulseHost : Bool := false
  /-- the tick in which the pulse's width has passed -/
  pulseEnd : Nat := 0
  /-- a Trellis action stands on the pin over the FCL (R365) -/
  overFcl : Option Bool := none
  /-- switched on by a service command, until a tick (R369) -/
  service : Bool := false
  svcEnd : Nat := 0
  /-- tick of the last cut-off, and of the last switch-on (R366) -/
  cutAt : Nat := 0
  onAt : Nat := 0
  deriving DecidableEq, Repr

/-! ## Stirrup (14_stirrup_failsafe.md) -/

/-- One watchdog stream (R347). -/
structure Stream where
  present : Bool := false
  /-- consecutive valid frames before the stream is present -/
  run : Nat := 0
  /-- SEQ of the last valid frame -/
  seq : Option Nat := none
  /-- consecutive invalid frames -/
  bad : Nat := 0
  /-- tick at which the last valid frame ended -/
  endAt : Nat := 0
  deriving DecidableEq, Repr

/-- What Stirrup holds beyond its registers. -/
structure StirrupSt where
  line0 : Stream := {}
  line1 : Stream := {}
  swx : Stream := {}
  /-- state each LS and DIO output is held at while Stirrup controls it -/
  holdLs : BitVec 24 := 0
  holdDio : BitVec 32 := 0
  /-- channels released to request control (R353) -/
  relLs : BitVec 24 := 0
  relDio : BitVec 32 := 0
  /-- channels that a latched trip pattern held off at hold start (R350) -/
  tripLs : BitVec 24 := 0
  tripDio : BitVec 32 := 0
  /-- channels at PARTNER code whose STR_PARTNER_TMO runs -/
  partLs : BitVec 24 := 0
  partDio : BitVec 32 := 0
  holdTimer : Bool := false
  reclaimTimer : Bool := false
  partnerTimer : Bool := false
  /-- ticks at which the three timers started (R349, R350, R353) -/
  holdAt : Nat := 0
  reclaimAt : Nat := 0
  partnerAt : Nat := 0
  /-- a required stream became present after the hold start (R353) -/
  returned : Bool := false
  /-- the module was a span member at the end of its last BOOT (R350) -/
  wasSpan : Bool := false
  /-- PD1 has seen no valid die-to-die frame for 1 ms (R25) -/
  pd1Lost : Bool := false
  /-- the last 16 hold and fail-safe events, as records not yet posted (R358) -/
  events : List (List Byte) := []
  deriving DecidableEq, Repr

/-! ## Pommel (12_pommel_protection.md) -/

/-- A latched trip: the switches and the pattern it holds (R304). -/
structure TripLatch where
  mask : Nat := 0
  patterns : List Nat := []
  deriving DecidableEq, Repr

/-- What Pommel holds beyond its registers. -/
structure PommelSt where
  /-- run counters of R302 under key 65536·f + index -/
  counters : SMap Nat := []
  /-- evaluations still to pass without a qualifying sample, under 65536·f + index (R305) -/
  settle : SMap Nat := []
  /-- consecutive complete sets with no function qualifying (R310) -/
  cleanSets : Nat := 0
  /-- a function qualified in the set being evaluated (R310) -/
  dirtySet : Bool := false
  /-- latched trips by function number (AON domain, R304) -/
  latches : SMap TripLatch := []
  /-- latched trips as copied to the settings area (R304) -/
  saved : SMap TripLatch := []
  /-- trips latched so far, which capture dumps compare (R221) -/
  trips : Nat := 0
  /-- SEQ of the next trip frame (Table 12-5) -/
  seq : Nat := 0
  /-- SEQ of the partner's trips that are mirrored and whose reset has not arrived (R308) -/
  mirrorSeqs : List Nat := []
  /-- the channel each switch proves at its next opening: bit u clear for channel 1 (R311) -/
  proof : BitVec 4 := 0
  /-- tick of the last set header written since Pommel started (R561) -/
  headerAt : Option Nat := none
  /-- sets whose temperature entries are due: SEQ and the tick 12 ms after the trigger (R561) -/
  tempDue : List (Nat × Nat) := []
  /-- by sensor, the due tick of the entry checked last (R561) -/
  tempChecked : SMap Nat := []
  /-- the start-up injection has run since the start; tick of the last pass in service and its bit position (R297) -/
  injected : Bool := false
  injAt : Nat := 0
  injPos : Nat := 0
  /-- lockstep fault record on PD0 (PWR domain, R299) -/
  recCore : Bool := false
  recDly : Bool := false
  /-- the start-up injection has passed since the COMP trip (R305) -/
  compClear : Bool := false
  /-- cores halted by a core or delay-register fault (R298) -/
  halted : Bool := false
  /-- parameter writes that take effect at the next set: object key and value (R314) -/
  pend : List (Nat × Nat) := []
  /-- SLS_ARM falls in the next tick after a trip (Table 2-10) -/
  armDrop : Bool := false
  deriving DecidableEq, Repr

/-! ## Girth, claims and the partner (03_power_seating_modes.md, 01_blocks.md) -/

/-- What Girth holds beyond its registers. -/
structure GirthSt where
  /-- VIN is present -/
  vin : Bool := true
  /-- VLA (bit 0) and VLB (bit 1) below undervoltage now (R70) -/
  feedLow : BitVec 2 := 0
  /-- every output off in hardware: power fail, removal or an RC16 fault (R76, R90, Table 4-2) -/
  outOff : Bool := false
  /-- the VIN path switch is closed (R73) -/
  vinPath : Bool := false
  /-- ticks of the warm and cold restarts of the last 10 min (R82) -/
  warm : List Nat := []
  cold : List Nat := []
  /-- the next restart is cold (R82) -/
  coldNext : Bool := false
  /-- FORCE of object 0x1010:06, applied with the next request -/
  force : Bool := false
  /-- SIDE and SLOT have been read since seating; LS_EXT_MAP has been recorded -/
  seatRead : Bool := false
  extSensed : Bool := false
  /-- span member at the end of BOOT (R85), and partner-mastered ring traffic seen -/
  spanMember : Bool := false
  partnerRing : Bool := false
  /-- a shutdown is running (R90); DORMANCY entry is running (R92) -/
  shutdown : Bool := false
  dormEntry : Bool := false
  /-- the 64-bit energy counters, mJ (R98) -/
  energy : SMap Nat := []
  /-- the SAFE and CORE domains are in reset -/
  safeReset : Bool := true
  coreReset : Bool := true
  /-- LS channels offered to the partner for release (R338) -/
  offered : BitVec 24 := 0
  /-- sources that report a degraded status (R78) -/
  degr : SMap Bool := []
  /-- the span mismatch of R65, and "XL lost, partner alive" of R37 -/
  unpaired : Bool := false
  xlLost : Bool := false
  /-- LS and DIO output channels the module owns (R86) -/
  ownLs : BitVec 24 := 0
  ownDio : BitVec 32 := 0
  /-- XL has trained since its last reset (Table 18-10) -/
  xlTrained : Bool := false
  /-- blocks whose crossing met a handshake timeout and stays in reset (R105) -/
  xFail : BitVec 14 := 0
  /-- clocks whose monitor has faulted and which no restart has brought back, by CLK_STAT bit (R101, R103) -/
  clkBad : BitVec 7 := 0
  /-- the crossing between the fabric and the SAFE domain met a handshake timeout and stays in reset (R105, R106) -/
  domFail : Bool := false
  /-- XL has trained since seating (Table 3-4) -/
  xlSeat : Bool := false
  /-- the tick of an entry to QUARANTINE with a live span partner, until the partner has taken over (R67; log entry 25) -/
  quarAt : Option Nat := none
  /-- the stamp of the last mode transition (Table 6-5) -/
  modeAt : Stamp := {}
  /-- the tick of the last mode transition -/
  modeTick : Nat := 0
  deriving DecidableEq, Repr

/-- What the partner's heartbeats have said (R36, Table 1-5). -/
structure PartnerSt where
  /-- a heartbeat has been received since seating, and heartbeats arrive now -/
  seen : Bool := false
  alive : Bool := false
  mode : Nat := 0
  side : Nat := 0
  slot : Nat := 0
  rings : Nat := 0
  /-- rings it triggers, and the lowest and highest node of its reach on each (R196) -/
  trig : Nat := 0
  reach : List (Nat × Nat) := []
  ls : Nat := 0
  dio : Nat := 0
  plots : Nat := 0
  /-- output states, digest, network sleep, activation (R408, R473, R489, R541) -/
  lsOn : Nat := 0
  dioOn : Nat := 0
  digest : Nat := 0
  nsState : Nat := 0
  nsRound : Nat := 0
  nsLocal : Bool := false
  activating : Bool := false
  /-- the tick of the last heartbeat, and of the first of those that report HOLD (R36) -/
  beatAt : Nat := 0
  holdAt : Nat := 0
  deriving DecidableEq, Repr

/-! ## Trellis (05_trellis_angle.md) -/

/-- A point-on-wave operation awaiting its auxiliary edge (R142). -/
structure PowMeas where
  close : Bool := true
  /-- tick in which Stirrup reported the coil change -/
  t0 : Nat := 0
  /-- the estimate that applied when the slot fired -/
  eUsed : Nat := 0
  slot : Nat := 0
  target : AStamp := {}
  effect : Stamp := {}
  /-- the flags and the Stirrup offset that the operation's record carries (Table 5-6) -/
  flags : Nat := 0
  offset : Nat := 0
  deriving DecidableEq, Repr

/-- A sender of angle reference messages, with its last accepted SEQ and message (R120). -/
structure NetSender where
  sender : Nat := 0
  seq : Nat := 0
  stamp : AStamp := {}
  pt : PTime := {}
  freq : Nat := 0
  /-- valid messages in a row, each within 1.5 periods of the one before (Table 5-3), and the last one's tick -/
  inRow : Nat := 0
  tick : Nat := 0
  deriving DecidableEq, Repr

/-- An action that a slot has issued and its target has not yet taken (R134, R136). -/
structure Issued where
  slot : Nat := 0
  action : Nat := 0
  arg : Nat := 0
  /-- the slot's plot, 8 for a system slot -/
  plot : Nat := 8
  prio : Nat := 7
  /-- flags of its record so far (Table 5-6) -/
  flags : Nat := 0
  target : AStamp := {}
  /-- the tick in which its slot fired, the tick in which it is on the action bus (R137), and the one in which it is due at
  its target -/
  fired : Nat := 0
  bus : Nat := 0
  due : Nat := 0
  /-- the estimate in force when a POW slot fired (R142) -/
  eUsed : Nat := 0
  deriving DecidableEq, Repr

/-- What Trellis holds beyond its registers. -/
structure TrellisSt where
  /-- the 96-bit phase accumulator of R115 -/
  cyc : BitVec 32 := 0
  ang : BitVec 32 := 0
  frac : BitVec 32 := 0
  /-- the increment before slewing; INC of R115 is in TRL_INC -/
  base : BitVec 48 := 0x0A7C5AC471B4
  /-- error still to be slewed out, in 2^-32 ac (R124) -/
  slewErr : Int := 0
  /-- INC in the previous tick, and PT_ADDEND, which tell where the firing points of that tick lay (R134) -/
  incWas : Nat := 0
  addWas : Nat := 0
  /-- frequencies of the last reference cycles, µHz, newest first, at most 12 (R122, R123) -/
  refFreqs : List Nat := []
  /-- reference cycles in a row, up to the number that Table 5-3 asks: amplitude and frequency within the lock criteria,
  frequency out of range, phase error above 10°; the last cycle's amplitude, RMS phase error and phase error, ac -/
  okRun : Nat := 0
  offRun : Nat := 0
  phRun : Nat := 0
  amp : Nat := 0
  rms : Nat := 0
  gridErr : Int := 0
  /-- tick in which holdover began (R127), and of the last angle reference message sent (R119) -/
  hoAt : Option Nat := none
  netAt : Option Nat := none
  senders : List NetSender := []
  /-- SEQ of the module's own angle reference messages (Table 5-1) -/
  netSeq : Nat := 0
  /-- measurements in progress by POW entry -/
  pow : SMap PowMeas := []
  /-- next target, ns of plant time, of each PTIME_PERIOD slot (Table 5-4) -/
  nextPt : SMap Nat := []
  /-- actions issued and not yet taken by their targets, oldest first -/
  issued : List Issued := []
  /-- the last tick in which an action left the bus for its target in the tick in which it was on the bus, and how many did
  (R137) -/
  actTick : Nat := 0
  actCount : Nat := 0
  /-- the cycle number of the last target that an EVERY or NTH slot fired for (R133) -/
  lastCyc : SMap (BitVec 32) := []
  /-- slots that R135 fires late, with the tick in which it fires them -/
  catchup : SMap Nat := []
  /-- tick in which a one-shot slot last fired (Table 5-8) -/
  doneAt : SMap Nat := []
  /-- tick of the last host write of ON and of the last Trellis action on a channel, and host writes that take effect in the
  next tick, 1 for on: LSn under n, DIOn under 32 + n (R31) -/
  hostOn : SMap Nat := []
  actOn : SMap Nat := []
  hostNext : SMap Nat := []
  /-- tick of the last host write of an estimate, and of its last learning update with the LAST_ERR before
  it, under 2·entry + 1 for the release estimate (R143) -/
  powHost : SMap Nat := []
  powUpd : SMap (Nat × Nat) := []
  /-- tick of the last save of learned values into the settings area (R143) -/
  powSaved : Option Nat := none
  deriving DecidableEq, Repr

/-! ## Latigo, the measurement receivers and capture (07_latigo_rings.md, 08_measurement_capture.md) -/

/-- An enumeration in progress (R188): forced or fill, the end whose ENUM_END is awaited, how often the ENUM has
failed, and the VALUE that each end's ENUM returned. -/
structure LatEnum where
  force : Bool := false
  endB : Bool := false
  tries : Nat := 0
  /-- tick in which the ENUM in flight was sent -/
  at_ : Nat := 0
  vA : Option Nat := none
  vB : Option Nat := none
  deriving DecidableEq, Repr

/-- What a ring engine holds beyond its registers. Line end A is bit 0 and false, line end B bit 1 and true. -/
structure LatRing where
  /-- line ends whose link has come up since the engine started: the wired ones -/
  wired : BitVec 2 := 0
  /-- the listen of R195 runs; a valid trigger was heard in it -/
  listening : Bool := false
  startAt : Nat := 0
  heard : Bool := false
  /-- the line ends are in Listen after the ring was passed (R198) -/
  passed : Bool := false
  /-- a valid trigger from the partner's end came since the last set deadline; consecutive sets with one -/
  rxNow : Bool := false
  rxRun : Nat := 0
  /-- consecutive sets without a valid trigger from there, up to 4, and the non-master triggers for that (R197) -/
  rxMiss : Nat := 0
  absent : Bool := false
  /-- the module triggers under R197 -/
  r197 : Bool := false
  /-- nodes with an accepted segment, through A and through B, in the last sets, newest first, and in this one -/
  histA : List (BitVec 24) := []
  histB : List (BitVec 24) := []
  curA : BitVec 24 := 0
  curB : BitVec 24 := 0
  /-- the reach that a LINK_DOWN gave, until the next set completes (R193) -/
  downA : Option (BitVec 24) := none
  downB : Option (BitVec 24) := none
  /-- ends whose LINK_DOWN came when the set in hand was already complete -/
  downNew : BitVec 2 := 0
  /-- nodes that the last enumeration reached from each end -/
  enumA : BitVec 24 := 0
  enumB : BitVec 24 := 0
  /-- nodes whose last segment was flagged UNCAL (Table 7-4) -/
  uncal : BitVec 24 := 0
  /-- tick in which BREAK set; consecutive sets whose trains all came from line ends; a train of a node in this -/
  breakAt : Option Nat := none
  clean : Nat := 0
  nodeTrain : Bool := false
  /-- nodes whose segment was taken, whose temperature was written, in this set -/
  taken : BitVec 24 := 0
  temps : BitVec 24 := 0
  /-- a STALE sample was written in this set -/
  stale : Bool := false
  /-- enumerated nodes in reach that missed the last set while nodes beyond them did not (R190) -/
  gap : BitVec 24 := 0
  /-- nodes whose FAULT shows ADC, REF or CLOCK (Table 7-10) -/
  bad : BitVec 24 := 0
  enum_ : Option LatEnum := none
  wantFill : Bool := false
  wantForce : Bool := false
  /-- nodes whose UID is still to be read after an enumeration -/
  uidWait : BitVec 24 := 0
  /-- the last round trips, newest first, at most 16, under 2n + end; TA by node, 2.5 ns units -/
  rtt : SMap (List Nat) := []
  ta : SMap Nat := []
  /-- sum of the 16 round trips at the last COMP write, and the COMP written, under 2n + end -/
  compSum : SMap Nat := []
  comp : SMap Nat := []
  /-- what the next PING in service goes to: node n from end A as n, from end B as 24 + n (R189) -/
  ping : Nat := 0
  /-- SEQ_last of a pass offered, accepted by the partner, and accepted from the partner (R198) -/
  passOffer : Option Nat := none
  passAt : Nat := 0
  passOut : Option Nat := none
  passIn : Option Nat := none
  /-- control frames waiting for a control window, with their line end -/
  ctl : List (Bool × List Byte) := []
  /-- the ring has been triggered since its engine started (R184) -/
  started : Bool := false
  /-- ticks of the last CRC errors, newest first, at most 41 (R201) -/
  crcAt : List Nat := []
  deriving DecidableEq, Repr

/-- The set in hand: its SEQ and the stamp of its trigger tick (R130, R176). -/
structure LatSt where
  /-- the ring engines have started (R190) -/
  running : Bool := false
  rings : SMap LatRing := []
  /-- a set is in hand -/
  openSet : Bool := false
  seq : Nat := 0
  /-- SEQ of the set before it -/
  prevSeq : Nat := 0
  st : Stamp := {}
  /-- tick of its trigger; its trains have been originated, its control window has opened -/
  trigAt : Nat := 0
  trained : Bool := false
  window : Bool := false
  /-- index of the set's conversions -/
  midx : Nat := 0
  /-- segments written in this set -/
  segs : Nat := 0
  /-- tick of the last valid trigger from the partner's end on any ring (R36, R85) -/
  partnerAt : Option Nat := none
  /-- a set has completed, and a set of each temperature sensor, since the SAFE domain left reset (R205) -/
  seen : Bool := false
  tempSeen : BitVec 8 := 0
  deriving DecidableEq, Repr

/-- An accepted conversion: current, voltage, overrange in either. -/
structure MsrConv where
  i : Int := 0
  v : Int := 0
  iOvr : Bool := false
  vOvr : Bool := false
  deriving DecidableEq, Repr

/-- A conversion whose sample frame is awaited (R207, R210): the set's index and SEQ, p, the tick by which it must stand in
Pommel SRAM, and whether a frame with UNSYNC has come for it. -/
structure MsrWait where
  idx : Nat := 0
  seq : Nat := 0
  p : Nat := 0
  due : Nat := 0
  unsync : Bool := false
  deriving DecidableEq, Repr

/-- What a measurement receiver holds beyond its registers. -/
structure MsrLink where
  /-- conversions whose frame is awaited, oldest first -/
  wait : List MsrWait := []
  /-- accepted conversions under 16 · set index + p -/
  convs : SMap MsrConv := []
  rtt : List Nat := []
  ta : Nat := 0
  comp : Nat := 0
  /-- control frames waiting for a conversion period (R211) -/
  ctl : List (List Byte) := []
  deriving DecidableEq, Repr

/-- The receivers: index and SEQ of the set whose conversions are being paced (R207). -/
structure MsrSt where
  running : Bool := false
  idx : Nat := 0
  seq : Nat := 0
  /-- tick of the last MSR_POINT -/
  at_ : Option Nat := none
  links : SMap MsrLink := []
  /-- the marks of the last decimated samples; a link that has given none is ABSENT -/
  marks : SMap Nat := []
  deriving DecidableEq, Repr

/-- The capture engine: SETNO and slot of the next or present set, and whether that set is being written. -/
structure CapSt where
  setno : Nat := 0
  writing : Bool := false
  deriving DecidableEq, Repr

/-! ## Tilth (10_tilth_cell_state.md, 11_tilth_impedance.md) -/

/-- The impedance sums of one cell (R276): sets with a VALID sample, the pairs V and M by bin or order, the sums of the
DC bin, and the sets that went into M. -/
structure ZCell where
  n : Nat := 0
  vi : SMap Int := []
  vq : SMap Int := []
  mi : SMap Int := []
  mq : SMap Int := []
  x1 : Int := 0
  xi : Int := 0
  m1 : Int := 0
  m2 : Int := 0
  mn : Nat := 0
  /-- a sum has saturated (R246) -/
  clamp : Bool := false
  deriving DecidableEq, Repr

/-- The impedance sums of one string (R276). -/
structure ZStr where
  ns : Nat := 0
  si : SMap Int := []
  sq : SMap Int := []
  s1 : Int := 0
  s2 : Int := 0
  clamp : Bool := false
  deriving DecidableEq, Repr

/-- The sums of the bins, or of one sweep: the orders evaluated under their keys, the cells, the strings. -/
structure ZSums where
  orders : List (Nat × Nat) := []
  first : Nat := 0
  last : Nat := 4607
  cells : SMap ZCell := []
  strs : SMap ZStr := []
  deriving DecidableEq, Repr

/-- What one pass holds for one cell (R250, R251, Table 10-8). -/
structure TilCell where
  z : Int := 0
  v1 : Int := 0
  v2 : Int := 0
  ocv : Int := 0
  accE : Int := 0
  accE2 : Int := 0
  accI : Int := 0
  n : Nat := 0
  emean : Int := 0
  clampC : Bool := false
  /-- VALID samples of the cycle window, with or without an estimator (Table 10-7) -/
  cN : Nat := 0
  /-- z, v1 and v2 at the last close of a cycle window, before a seed (Table 10-8) -/
  zEnd : Int := 0
  v1End : Int := 0
  v2End : Int := 0
  /-- statistics window: VALID samples, sums of x, of counts and of their squares, extremes -/
  sN : Nat := 0
  sX : Int := 0
  sV : Int := 0
  sV2 : Int := 0
  vmin : Int := 0
  vmax : Int := 0
  /-- residuals of the window: count, sum, sum of squares; temperature readings: sum, count -/
  sEn : Nat := 0
  sE : Int := 0
  sE2 : Int := 0
  tS : Int := 0
  tN : Nat := 0
  clampS : Bool := false
  deriving DecidableEq, Repr

/-- One pass: the SETNO it reads next, its active parameters, whether MODEL_EN held at the window's opening, its cells,
its sums (0 the bins, 1 + j the sweep of job j), the last VALID current and the sets it has been held, by string, and
the strings of the open cycle window that carry HELD_I or STALE_STATE. -/
structure TilPass where
  next : Nat := 0
  par : List Host.Cell := []
  model : Bool := true
  cells : SMap TilCell := []
  sums : SMap ZSums := []
  cur : SMap Int := []
  held : SMap Nat := []
  heldI : Nat := 0
  staleS : Nat := 0
  /-- a set of the open windows was overwritten before it was read (Table 10-12): cycle, statistics, impedance -/
  lost : Nat := 0
  deriving DecidableEq, Repr

/-- A window: first and last cycle number, cycles, stamp of the first set, first and last SETNO, sets, and what its
header says: HOLDOVER, plant-time step, SHORT; decimation modes met (1 PICK, 2 TRAP); TRL_FREQ at its cycles. -/
structure TilWin where
  cycFirst : Nat := 0
  cycLast : Nat := 0
  cycles : Nat := 0
  /-- the cycle before the last, and LEN or ZLEN when the window opened (R248, R272) -/
  cycPrev : Nat := 0
  len : Nat := 0
  st : Stamp := {}
  set0 : Nat := 0
  setN : Nat := 0
  sets : Nat := 0
  hold : Bool := false
  step : Bool := false
  short : Bool := false
  dec : Nat := 0
  freqs : List Nat := []
  deriving DecidableEq, Repr

/-- A closed window on its way to publication: KIND (6 for a sweep window, with its job), the SETNO of the first set
after it, the results of each pass, and what the second pass takes over at that boundary. -/
structure TilPub where
  kind : Nat := 1
  job : Nat := 0
  endSet : Nat := 0
  win : TilWin := {}
  par : List Host.Cell := []
  heldI : Nat := 0
  staleS : Nat := 0
  /-- the tick at which it closed (R258), and the first pass's currents and their ages at that boundary -/
  closedAt : Nat := 0
  cur : SMap Int := []
  held : SMap Nat := []
  c1 : SMap TilCell := []
  z1 : ZSums := {}
  /-- results of the second pass, and whether it lost a set -/
  done2 : Bool := false
  lost : Bool := false
  c2 : SMap TilCell := []
  z2 : ZSums := {}
  heldI2 : Nat := 0
  staleS2 : Nat := 0
  /-- G by key (R278), f_w (R272) -/
  gain : SMap Nat := []
  fw : Nat := 0
  /-- the mark of INIT or RESEEDED of a first window, MODEL_EN in the window, and MODEL_EN, parameters and sums for
  what follows -/
  firstFlag : Nat := 0
  modelNow : Bool := true
  model : Bool := true
  newPar : Option (List Host.Cell) := none
  newSums : SMap ZSums := []
  /-- divergence: slot scores by cell, group records by 4 · group + slot; those of the second pass, back-transformed -/
  scores : SMap (List Nat) := []
  groups : SMap (List Byte) := []
  scores2 : SMap (List Nat) := []
  groups2 : SMap (List Byte) := []
  /-- for a sweep window: impedance windows closed before it since the start -/
  seq : Nat := 0
  deriving DecidableEq, Repr

/-- The divergence state of a cell: FLAG by slot, run counters (R262). -/
structure TilDiv where
  flags : Nat := 0
  runs : List Nat := [0, 0, 0, 0]
  deriving DecidableEq, Repr

/-- What Tilth holds beyond its registers. -/
structure TilSt where
  /-- the microcode store (R264), and the CRC register's running value -/
  uc : SMap Nat := []
  crc : Nat := 0xFFFFFFFF
  /-- the committed copy that waits for its boundary, its tick, and one that the next window takes (R256) -/
  pend : Option (List Host.Cell) := none
  pendAt : Nat := 0
  newPar : Option (List Host.Cell) := none
  /-- the parameters of the cycle window closed last, and whether a commit applied at its end (R272) -/
  oldPar : List Host.Cell := []
  changed : Bool := false
  p1 : TilPass := {}
  p2 : TilPass := {}
  /-- the open cycle, statistics and impedance windows -/
  wc : TilWin := {}
  ws : TilWin := {}
  wz : TilWin := {}
  /-- no window of the kind has closed since the start: the first ones carry SHORT (R248) -/
  firstS : Bool := true
  firstZ : Bool := true
  /-- 0x40 INIT or 0x02 RESEEDED for the first cycle window (R265) -/
  firstFlag : Nat := 0
  pubs : List TilPub := []
  /-- checkpoints (z, v1, v2, ocv) of each pass, mismatched windows, and divergence state of each pass, by cell -/
  ckpt : SMap (Int × Int × Int × Int) := []
  ckpt2 : SMap (Int × Int × Int × Int) := []
  mm : SMap Nat := []
  div : SMap TilDiv := []
  div2 : SMap TilDiv := []
  /-- the tick at which EN was set; the cycle in which EN or capture went off while Tilth ran, and whether capture did: it
  stops at that cycle's end (R249) -/
  enAt : Nat := 0
  stopCyc : Option (BitVec 32) := none
  capOff : Bool := false
  /-- the tick at which the first pass finished each set that the second has not read (R283) -/
  finAt : SMap Nat := []
  /-- windows published by kind, and impedance windows closed, since the start -/
  wseq : SMap Nat := []
  zCount : Nat := 0
  /-- consecutive cycle windows with a mismatch, by lane pair (R287) -/
  lane : SMap Nat := []
  /-- suspect reports on their path to Pommel (R286) -/
  path : List (List Byte) := []
  /-- tick of the last degrading fault of R267 and R287 -/
  degAt : Option Nat := none
  deriving DecidableEq, Repr

/-! ## Jobs (19_stitch_dictionary.md) -/

/-- A job slot (R462-R468); a slot of kind 0 is free. STATE: 0 IDLE, 1 QUEUED, 2 RUNNING, 3 SUSPENDED,
4 DONE, 5 FAILED, 6 CANCELLED. -/
structure Job where
  kind : Nat := 0
  state : Nat := 0
  progress : Nat := 0
  result : Nat := 0
  owner : Nat := 255
  arg : Nat := 0
  queue : Nat := 0
  started : PTime := {}
  ended : PTime := {}
  /-- place in the order in which START and RESUME were accepted (R464) -/
  order : Nat := 0
  /-- parameters read at START (R468) -/
  par : List Nat := []
  /-- it has been RUNNING since its START -/
  begun : Bool := false
  deriving DecidableEq, Repr

/-! ## Network sleep (17_network_sleep.md) -/

/-- What network sleep holds beyond its registers. -/
structure NsSt where
  /-- this participant has forwarded the TOKEN of the current round (R402), or started the round -/
  fwd : Bool := false
  /-- the tick in which the last round or window ended, for RETRY_INT (R401) -/
  endAt : Option Nat := none
  /-- the tick of the TOKEN of the current round, for ROUND_TMO (R401) -/
  tokAt : Nat := 0
  /-- the tick of the COMMIT's stamp, at which the window opened (R402) -/
  winAt : Nat := 0
  /-- the tick in which the pulse on WAKE ends (R407) -/
  pulseEnd : Nat := 0
  deriving DecidableEq, Repr

/-! ## Signal gateway (18_bridle.md) -/

/-- A source frame entry (Table 18-5). -/
structure GwSrc where
  id : Nat := 0
  ide : Bool := false
  ctrl : Nat := 0
  en : Bool := false
  fmt : Nat := 0
  tmo : Nat := 0
  deriving DecidableEq, Repr

/-- A destination frame entry (Table 18-6). -/
structure GwDst where
  id : Nat := 0
  ide : Bool := false
  ctrl : Nat := 0
  en : Bool := false
  fdf : Bool := false
  brs : Bool := false
  mode : Nat := 0
  dlc : Nat := 0
  period : Nat := 0
  inhibit : Nat := 0
  fill : Nat := 0
  deriving DecidableEq, Repr

/-- A signal entry (Table 18-7). -/
structure GwSig where
  en : Bool := false
  ssigned : Bool := false
  smoto : Bool := false
  dsigned : Bool := false
  dmoto : Bool := false
  subst : Bool := false
  src : Nat := 0
  dst : Nat := 0
  sstart : Nat := 0
  slen : Nat := 1
  dlen : Nat := 1
  dstart : Nat := 0
  a : Int := 0
  b : Int := 0
  min : Int := 0
  max : Int := 0
  raw : Nat := 0
  deriving DecidableEq, Repr

/-- A table of the gateway. -/
structure GwTable where
  srcs : List GwSrc := []
  dsts : List GwDst := []
  sigs : List GwSig := []
  deriving DecidableEq, Repr

/-- What runs for a source frame (R434, R437): `matchAt` is the tick of its last match. -/
structure GwSrcSt where
  timeout : Bool := true
  short : Bool := false
  matched : Nat := 0
  matchAt : Nat := 0
  deriving DecidableEq, Repr

/-- What runs for a destination frame (R433, R437): its payload, the ticks of its last send and of the start of its period,
whether it is due for a free
buffer or deferred to the end of INHIBIT. -/
structure GwDstSt where
  data : List Byte := []
  sent : Nat := 0
  dropped : Nat := 0
  lastSend : Option Nat := none
  periodAt : Nat := 0
  due : Bool := false
  deferred : Bool := false
  deriving DecidableEq, Repr

/-- What the status area shows of a signal: the last y, SAT, SUBST applied. -/
structure GwSigSt where
  y : Int := 0
  sat : Bool := false
  subst : Bool := false
  deriving DecidableEq, Repr

structure GwSt where
  active : GwTable := {}
  pend : Option GwTable := none
  srcs : SMap GwSrcSt := []
  dsts : SMap GwDstSt := []
  sigs : SMap GwSigSt := []
  deriving DecidableEq, Repr

/-! ## Bridle (18_bridle.md) -/

/-- A read or non-posted write sent over XL and not yet answered: issuer 0-7 a plot, 8 the supervisor and the system
masters; its BR_TAG and generation at issue; RETRY answers in a row, the tick of its last transmission, and that of the next
one while RETRY_INT runs (R417, R418). -/
structure BrTx where
  tag : Nat := 0
  issuer : Nat := 8
  write : Bool := false
  addr : Nat := 0
  size : Nat := 4
  data : Nat := 0
  prio : Nat := 2
  mark : Nat := 0
  gen : Nat := 0
  retries : Nat := 0
  sentAt : Nat := 0
  resendAt : Option Nat := none
  deriving DecidableEq, Repr

/-- A posted write sent over XL and not yet acknowledged (R420, R423), with the issuer's BR_TAG at issue. -/
structure BrPost where
  num : Nat := 0
  issuer : Nat := 8
  addr : Nat := 0
  tag : Nat := 0
  gen : Nat := 0
  /-- the request, while it waits for credit (R420) -/
  wait : Option XlMsg := none
  deriving DecidableEq, Repr

/-- A failed posted write: its number in issue order, its status, address and tag. -/
structure BrFail where
  num : Nat := 0
  status : Nat := 0
  addr : Nat := 0
  tag : Nat := 0
  deriving DecidableEq, Repr

/-- A running fence (R423, R424): the tick of its GO, the posted writes it still waits for, the first failure in issue order, and the Stitch
request that it answers: session, SEQ and PRIO. -/
structure BrFence where
  goAt : Nat := 0
  waits : List Nat := []
  fail : Option BrFail := none
  reply : Option (Nat × Nat × Nat) := none
  deriving DecidableEq, Repr

structure BrSt where
  out : List BrTx := []
  posted : List BrPost := []
  nextTag : Nat := 0
  fences : SMap BrFence := []
  /-- the first posted write of each issuer that has failed since its last fence (R423) -/
  failed : SMap BrFail := []
  deriving DecidableEq, Repr

/-! ## Stitch (19_stitch_dictionary.md) -/

/-- A session (R443-R448); its key is HKDF of the credential's key, the nonces and its names. Besides sessions 1 to 32,
number 0 stands for clear mode (R516) and 64 + p for the local port of plot p, whose SEQ is word 0 (R452). -/
structure Session where
  plot : Nat := 0
  roles : Nat := 0
  /-- 0 UDP, 1 CAN, 2 local; port or controller -/
  transport : Nat := 0
  port : Nat := 0
  cred : Nat := 0
  key : BitVec 256 := 0
  /-- the highest SEQ accepted, which of the 64 up to it have been, and the last 8 replies -/
  high : Nat := 0
  window : BitVec 64 := 0
  fresh : Bool := true
  cache : List (Nat × List Byte) := []
  /-- the tick of the last valid request -/
  at_ : Nat := 0
  /-- snapshot: object key, status of the read, bytes, and the tick it was taken in (R447) -/
  snap : Option (Nat × Nat × List Byte) := none
  snapAt : Nat := 0
  /-- assembly: object key, the tick of its last piece, bytes (R448) -/
  asm : Option (Nat × Nat × List Byte) := none
  deriving DecidableEq, Repr

/-- A request forwarded to a plot's local port (R453): who asked, as session, SEQ and PRIO; the plot that answers, word 0, and
the tick in which it went. -/
structure Forward where
  session : Nat := 0
  seq : Nat := 0
  prio : Nat := 0
  plot : Nat := 0
  word0 : Nat := 0
  op : Nat := 1
  index : Nat := 0
  sub : Nat := 0
  at_ : Nat := 0
  deriving DecidableEq, Repr

/-- A message being received over CAN FD (R451): its length, what has arrived, the next SN, the tick of its last frame. -/
structure SegRx where
  len : Nat := 0
  data : List Byte := []
  sn : Nat := 1
  at_ : Nat := 0
  deriving DecidableEq, Repr

/-- A message being sent over CAN FD (R451): what is left, the next SN, how many NEXT frames the last FLOW still grants (none
while it waits for a FLOW), the least gap between them in ticks, and the tick in which the wait began or the next one may
leave. -/
structure SegTx where
  rest : List Byte := []
  sn : Nat := 1
  granted : Nat := 0
  gap : Nat := 0
  at_ : Nat := 0
  deriving DecidableEq, Repr

structure StitchSt where
  sessions : SMap Session := []
  forwards : List Forward := []
  rx : SMap SegRx := []
  tx : SMap SegTx := []
  /-- transfers over CAN FD that were abandoned, code 0x0402 (R451) -/
  abandoned : Nat := 0
  /-- whole messages received over CAN FD, by 8 · controller + plot, oldest first -/
  got : List (Nat × List Byte) := []
  /-- persistent objects written and not yet stored: numbers and byte strings (R457) -/
  unsaved : SMap Nat := []
  unsavedBytes : SMap (List Byte) := []
  /-- every class P object takes its default at the next BOOT (R461) -/
  defaults : Bool := false
  /-- addresses and gateways in force (R461), under the keys of 0x1001:03 to 06 -/
  addrs : SMap (List Byte) := []
  deriving DecidableEq, Repr

/-! ## Plots (20_plots_span.md) -/

/-- What a plot holds beyond its registers. -/
structure PlotSt where
  /-- plot record and masks in force (R471) -/
  record : List Byte := []
  masks : List Byte := []
  /-- ticks of restarts in the last 10 min, of violations in the last second (R473, R477) -/
  restarts : List Nat := []
  viols : List Nat := []
  /-- where the reset in progress ends: STARTING or STOPPED (R478) -/
  restart : Bool := false
  /-- STOPPED through a fault (R477) -/
  faulted : Bool := false
  /-- what a freeze in progress is for: 1 FREEZE, 2 MIGRATE, 3 SAVE, 4 CHECKPOINT, 5 HANDOFF; and its job -/
  freeze : Nat := 0
  job : Option Nat := none
  /-- the stamp of the freeze -/
  frozenAt : Stamp := {}
  /-- the tick in which the reset or freeze in progress began (R480, R482) -/
  since : Nat := 0
  /-- the tick of the last watchdog write, or of the entry to RUNNING (R477); that from which CKPT seconds count (R488) -/
  kick : Option Nat := none
  ckptAt : Nat := 0
  /-- number of the plot's latest checkpoint sent; the partner's checkpoint held, with its number (R488) -/
  ckpt : Nat := 0
  held : Option (Nat × PlotImage) := none
  /-- what the partner's heartbeat says of the plot: STATE, GEN, checkpoint -/
  pState : Nat := 0
  pGen : Nat := 0
  pCkpt : Nat := 0
  deriving DecidableEq, Repr

/-- What the plot controller holds beyond its registers: queue table, time plan and digest in force, image buffer. -/
structure PcSt where
  queues : List Byte := []
  plan : List Byte := []
  digest : Nat := 0
  /-- the first 16 bytes of the digest, for image headers (Table 20-7) -/
  digest16 : List Byte := []
  buffer : Option PlotImage := none
  plots : SMap PlotSt := []
  deriving DecidableEq, Repr

/-! ## Cloche (21_cloche_security.md) -/

/-- A key with what its slot register shows (Table 21-3). -/
structure KeyBlob where
  slot : Nat := 0
  type : Nat := 0
  uses : Nat := 0
  plot : Nat := 255
  roles : Nat := 0
  version : Nat := 0
  mat : List Byte := []
  /-- of a blob in the journal: the wrap key under which it is sealed (R500, R503; log entry 69) -/
  kw : BitVec 256 := 0
  deriving DecidableEq, Repr

/-- What Cloche holds beyond its registers. -/
structure CloSt where
  /-- blown fuses (R509), helper data enrolled, the information bits that it and the power-up bits give (R497), RT in the root
  register (R498) -/
  fuses : Nat := 0
  enrolled : Bool := false
  info : List Byte := []
  root : Option (List Byte) := none
  /-- key material by slot (AON), and the latest committed blobs in the journal (flash) -/
  keys : SMap KeyBlob := []
  journal : SMap KeyBlob := []
  /-- records in the current journal half (R507) -/
  records : Nat := 0
  /-- monotonic counters in flash (R504) -/
  ctrs : SMap Nat := []
  /-- tamper latch (PWR), log entries newest first, erase pending (R518) -/
  latch : Bool := false
  log : List (List Byte) := []
  erase : Bool := false
  /-- ticks of rejections in the last hour (R517) -/
  fails : List Nat := []
  /-- NOT_AFTER of the open level, if it came from a token (R515) -/
  notAfter : Option PTime := none
  /-- the running key update: its blobs, COUNTER, and whether the COMMIT record is written (R506) -/
  ku : Option (List KeyBlob × Nat × Bool) := none
  /-- the identity record (R493) -/
  ident : List Byte := []
  deriving DecidableEq, Repr

/-! ## Graft (22_graft_update.md) -/

/-- A bank: STATE of Table 22-3 and the pages written, by number. -/
structure Bank where
  state : Nat := 0
  pages : SMap (List Byte) := []
  deriving DecidableEq, Repr

/-- What Graft holds in flash beyond its registers: the banks, the bank-select record, the settings kept from another
format (R543), and the bank that runs. -/
structure GraftSt where
  banks : SMap Bank := []
  pref : Nat := 0
  trial : Bool := false
  running : Nat := 0
  /-- format of the settings area (R543) -/
  stored : Nat := 1
  previous : List Byte := []
  /-- VBUS is present on SVC (R534) -/
  vbus : Bool := false
  /-- the activation job that waits for its BOOT to end (R542) -/
  act : Option Nat := none
  /-- stamps of the power-fail records in flash (R76) -/
  pfail : List Stamp := []
  deriving DecidableEq, Repr

/-- What DORMANCY keeps in the DRAM retention area (R92, R538): the register file, the microcode store and its CRC, the
ring engines' enumerations and delays, the plot controller's state. -/
structure Retain where
  regs : SMap Nat := []
  uc : SMap Nat := []
  lat : SMap LatRing := []
  pc : PcSt := {}
  /-- the signal gateway's table -/
  gw : GwSt := {}
  deriving DecidableEq, Repr

/-! ## Plant time and Ethernet (06_plant_time.md) -/

/-- An entry of the transmit-timestamp FIFO (R158). -/
structure TxTs where
  pt : PTime := {}
  sub : Nat := 0
  tag : Nat := 0
  deriving DecidableEq, Repr

/-- What plant time and the Ethernet ports hold beyond their registers. -/
structure PlantSt where
  sec : BitVec 48 := 0
  ns : BitVec 30 := 0
  frac : BitVec 32 := 0
  /-- the counter runs: SAFE has left reset in BOOT (R148) -/
  running : Bool := false
  /-- the correction r of R147, 2^-32 ns per tick -/
  r : Int := 0
  /-- tick of the previous accepted update since the last start, step or holdover (R151) -/
  lastUpd : Option Nat := none
  /-- tick from which PT_HO_TMO counts: the last accepted update, or the entry to LOCKING by a step (R152) -/
  heldFrom : Nat := 0
  /-- consecutive updates within, and above, PT_LOCK_THR (R152) -/
  within : Nat := 0
  above : Nat := 0
  /-- the pending step, in sample periods (R154) -/
  stepK : Int := 0
  /-- CANREF (R160-R162): SYNC awaiting its acknowledge, FUP awaiting transmission, the SYNC stamp,
  and the step seen since the previous FUP, by controller -/
  syncPend : BitVec 8 := 0
  /-- a SYNC was acknowledged and its FUP has not been built yet -/
  syncAcked : BitVec 8 := 0
  fupPend : BitVec 8 := 0
  /-- the tick of the SYNC stamp that each controller's FUP carries -/
  fupAt : SMap Nat := []
  stepped : BitVec 8 := 0
  /-- a step was applied since the last sample trigger (FLAGS bit 3 of Table 8-4) -/
  stepSet : Bool := false
  syncStamp : SMap Stamp := []
  /-- the transmit-timestamp FIFOs of ETH0 and ETH1 -/
  txts0 : List TxTs := []
  txts1 : List TxTs := []
  deriving DecidableEq, Repr

/-- What the AON domain keeps for seeding after a restart or a wake (R126, R148). -/
structure AonKeep where
  valid : Bool := false
  /-- time at which the rest was kept, in ticks -/
  at_ : Nat := 0
  cyc : BitVec 32 := 0
  ang : BitVec 32 := 0
  frac : BitVec 32 := 0
  inc : BitVec 48 := 0
  sec : BitVec 48 := 0
  ns : BitVec 30 := 0
  ptFrac : BitVec 32 := 0
  addend : Nat := 0
  rate : Nat := 0
  ptState : Nat := 0
  deriving DecidableEq, Repr

end Sys2Proof.Machine
end

