-- ==== Sys2Proof/Machine/State.lean ====
section
/-! DEFINITION. The state of the module as plain data, why a command can stop, and the state after reset. -/

namespace Sys2Proof.Machine

/-- Why the module could stop with a fault. No command of this block has one: the specification answers
every access with a status code and every event with an effect (log entry 5), so the type has no constructor. -/
inductive Fault where
  deriving DecidableEq, Repr

/-- Why a command is refused by the model. -/
inductive Refusal where
  /-- raised by `exec` for a command whose meaning is not written; safe, since nothing is claimed of it -/
  | notModelled (mnemonic : String)
  deriving DecidableEq, Repr

/-- The answer to the last access: its status code (Table 19-10) and the data it returned. -/
structure Resp where
  status : Nat := 0
  data : Nat := 0
  deriving DecidableEq, Repr

/-- A hardware-fault event or status the module has recorded: its status code, what it concerns, its stamp. -/
structure HwEvent where
  code : Nat
  info : Nat
  st : Stamp
  deriving DecidableEq, Repr

/-- The state of the module. -/
structure State where
  /-- every register field, under the key of its `Field`; an unlisted field holds its reset value -/
  regs : SMap Nat := []
  /-- what hardware has done in the present tick to fields that a host may also write or clear (R111), by the field's key: its
  value before the first update, and the bits set (W1C), the increments (RC) or 0 (RW) -/
  upd : SMap (Nat × Nat) := []
  /-- for each arbitration point the plot that a meeting of this tick starts with, and the one after the plot granted last
  in it (R112); a point not listed is at its start, P0 -/
  arb : SMap (Nat × Nat) := []
  /-- every byte of the address space that stores bytes, in canonical form -/
  mem : List Host.Cell := []
  /-- numeric dictionary objects that no register mirrors, under 256 · index + sub-index -/
  objs : SMap Nat := []
  /-- STR and DOMAIN dictionary objects, under 256 · index + sub-index -/
  objBytes : SMap (List Byte) := []
  /-- the settings area: stored values of persistent objects, numbers and byte strings (R457) -/
  settings : SMap Nat := []
  settingsBytes : SMap (List Byte) := []
  /-- ticks of 12.5 ns since VIN power-on (R12) -/
  now : Nat := 0
  /-- the model's own: how many free values have been taken (log entry 1) -/
  free : Nat := 0
  /-- the answer to the last access -/
  resp : Resp := {}
  /-- what has left the module, oldest first -/
  out : List Out := []
  /-- hardware-fault events recorded, oldest first -/
  faults : List HwEvent := []
  /-- interrupts held back for a FROZEN plot: consumer and source (R482, Table 20-9) -/
  irqHeld : List (Nat × Nat) := []
  /-- END, POISON, PAR0 and PAR1 of each position of Furrow SRAM in bits 0 to 3 (Table 9-1); its DATA is in `mem` -/
  furBits : SMap Nat := []
  q : SMap QueueSt := []
  girth : GirthSt := {}
  partner : PartnerSt := {}
  ls : SMap LsCh := []
  /-- tick of the last staggered switch-on of each bank (R330) -/
  lsStag : SMap Nat := []
  /-- by feed, the tick since which its sum lies above 24.0 A (R318) -/
  lsOver : SMap Nat := []
  /-- records of PD0 and PD1 kept in DORMANCY, oldest first, at most 16 a die (R340) -/
  lsKept0 : List (Nat × List Byte) := []
  lsKept1 : List (Nat × List Byte) := []
  dio : SMap DioCh := []
  str : StirrupSt := {}
  pom : PommelSt := {}
  trl : TrellisSt := {}
  pt : PlantSt := {}
  aon : AonKeep := {}
  lat : LatSt := {}
  msr : MsrSt := {}
  cap : CapSt := {}
  til : TilSt := {}
  can : SMap CanSt := []
  ns : NsSt := {}
  gw : GwSt := {}
  br : BrSt := {}
  ses : StitchSt := {}
  pc : PcSt := {}
  clo : CloSt := {}
  grf : GraftSt := {}
  retain : Option Retain := none
  jobs : SMap Job := []
  /-- START and RESUME commands accepted so far (R464) -/
  jobSeq : Nat := 0
  /-- commands waiting, first in, first out -/
  pending : List Instr := []
  deriving DecidableEq, Repr

/-- The module right after VIN power-on: every register at its reset value, SEATING, nothing waiting. -/
def State.reset : State := {}

end Sys2Proof.Machine
end

