-- ==== Sys2Proof/Machine/Ops.lean ====
section
/-! DEFINITION. The named operations every meaning is built from: registers, memory, free values, stamps,
records, answers, emissions and hardware-fault events. -/

namespace Sys2Proof

/-- The `n` bytes of a number, least significant first. -/
def le : Nat → Nat → List Byte
  | 0, _ => []
  | n + 1, v => BitVec.ofNat 8 v :: le n (v / 256)

/-- R10: is stamp `x` later than stamp `y`? -/
def AStamp.later (x y : AStamp) : Bool :=
  let d := x.cycle - y.cycle
  (decide (1 ≤ d.toNat) && decide (d.toNat ≤ 2 ^ 31 - 1)) || (d == 0 && decide (y.angle < x.angle))

/-- Plant time in nanoseconds. -/
def PTime.toNs (p : PTime) : Nat := p.sec.toNat * 1000000000 + p.ns.toNat

/-- Nanoseconds as a plant time. -/
def PTime.ofNs (n : Nat) : PTime := ⟨BitVec.ofNat 48 (n / 1000000000), BitVec.ofNat 30 (n % 1000000000)⟩

/-- The eight bytes of an ANGLE (R9). -/
def AStamp.bytes (a : AStamp) : List Byte := le 4 a.angle.toNat ++ le 4 a.cycle.toNat

/-- The ten bytes of a PTIME (R11). -/
def PTime.bytes (p : PTime) : List Byte := le 4 p.ns.toNat ++ le 6 p.sec.toNat

end Sys2Proof

namespace Sys2Proof.Machine

/-- The outcome type of every meaning. -/
abbrev Res := Host.Outcome State Fault Refusal

/-! ## Registers (R4-R7) -/

/-- The value of a register field. -/
def State.rd (s : State) (f : Field) : Nat := s.regs.get f.key f.rst

/-- What `upd` holds of a field once hardware has set it to `v`, setting the bits `b`: those bits of a W1C field, the
increment of an RC field (R111). -/
def updNote (s : State) (f : Field) (v b : Nat) : SMap (Nat × Nat) :=
  let o := s.rd f
  let e := (s.upd.find? f.key).getD (o, 0)
  match f.acc with
  | .w1c => if b = 0 then s.upd else s.upd.set f.key (e.1, e.2 ||| b)
  | .rc => s.upd.set f.key (e.1, if o < v then e.2 + (v - o) else v)
  | _ => s.upd

/-- Set a register field, which sets the bits `b` of it; the value is cut to the field's width. -/
def State.wrBits (s : State) (f : Field) (v b : Nat) : State :=
  { s with regs := s.regs.set f.key (v % 2 ^ f.w), upd := updNote s f (v % 2 ^ f.w) b }

/-- Set a register field. -/
def State.wr (s : State) (f : Field) (v : Nat) : State :=
  s.wrBits f v (if f.w = 1 then v % 2 else v % 2 ^ f.w &&& (s.rd f ^^^ (2 ^ f.w - 1)))

/-- A field takes a value with no note of it: what a host write, not hardware, puts there. -/
def State.put (s : State) (f : Field) (v : Nat) : State := { s with regs := s.regs.set f.key (v % 2 ^ f.w) }

/-- Has hardware updated an RW field in this tick? Then the host's write of it is discarded (R111). -/
def State.hwHas (s : State) (f : Field) : Bool := (s.upd.find? f.key).isSome

/-- A hardware update of an RW field: it stands over a host write of the same tick (R111). -/
def State.hwWr (s : State) (f : Field) (v : Nat) : State :=
  { s with regs := s.regs.set f.key (v % 2 ^ f.w), upd := s.upd.set f.key (s.rd f, 0) }

/-- A host write of an RW field. -/
def State.hostWr (s : State) (f : Field) (v : Nat) : State := if s.hwHas f then s else s.put f v

/-- A one-bit field as a Bool. -/
def State.rdB (s : State) (f : Field) : Bool := s.rd f != 0

/-- Set a one-bit field. -/
def State.wrB (s : State) (f : Field) (b : Bool) : State := s.wr f b.toNat

/-- Set bit `i` of a field. -/
def State.setBit (s : State) (f : Field) (i : Nat) : State := s.wrBits f (s.rd f ||| 2 ^ i) (2 ^ i)

/-- Clear bit `i` of a field. -/
def State.clrBit (s : State) (f : Field) (i : Nat) : State :=
  s.wr f (if (s.rd f).testBit i then s.rd f ^^^ 2 ^ i else s.rd f)

/-- Put bit `i` of a field at `b`. -/
def State.putBit (s : State) (f : Field) (i : Nat) (b : Bool) : State :=
  if b then s.setBit f i else s.clrBit f i

/-- Bit `i` of a field. -/
def State.bit (s : State) (f : Field) (i : Nat) : Bool := (s.rd f).testBit i

/-- Count up a field that wraps at its width. -/
def State.incWrap (s : State) (f : Field) : State := s.wr f (s.rd f + 1)

/-- Count up a field that stays at its largest value (DESIGN CHOICE, log entry 6, where no rule says
how the counter ends). -/
def State.incSat (s : State) (f : Field) : State :=
  let e := (s.upd.find? f.key).getD (s.rd f, 0)
  { s with regs := s.regs.set f.key (if s.rd f + 1 < 2 ^ f.w then s.rd f + 1 else 2 ^ f.w - 1)
           upd := if f.acc = .rc then s.upd.set f.key (e.1, e.2 + 1) else s.upd }

/-- Return every field of the registers in [lo, hi) to its reset value. -/
def State.resetRegs (s : State) (lo hi : Nat) : State :=
  { s with regs := s.regs.dropRange (32 * lo) (32 * hi), upd := s.upd.dropRange (32 * lo) (32 * hi) }

/-- A two's-complement reading of a `w`-bit value. -/
def toInt (w v : Nat) : Int := if 2 * v < 2 ^ w then (v : Int) else (v : Int) - 2 ^ w

/-- The `w`-bit two's-complement code of an integer. -/
def ofInt (w : Nat) (x : Int) : Nat := (x % 2 ^ w).toNat

/-- A field read as a signed number. -/
def State.rdI (s : State) (f : Field) : Int := toInt f.w (s.rd f)

/-- A field set to a signed number. -/
def State.wrI (s : State) (f : Field) (x : Int) : State := s.wr f (ofInt f.w x)

/-- Hold an integer within two bounds. -/
def clampI (x lo hi : Int) : Int := if x < lo then lo else if hi < x then hi else x

/-! ## Host access to one register word (R4-R6, Table 0-3) -/

/-- What a read of a field returns: WO fields read zero; an RC field its value before the updates of this tick (R111). -/
def State.fieldRead (s : State) (f : Field) : Nat :=
  match f.acc with
  | .wo => 0
  | .rc => match s.upd.find? f.key with
    | some e => e.1
    | none => s.rd f
  | _ => s.rd f

/-- The word that a list of fields of one register reads as. -/
def State.wordOf (s : State) : List Field → Nat
  | [] => 0
  | f :: r => s.fieldRead f * 2 ^ f.lo + s.wordOf r

/-- The word at a register address; an address without a register reads zero (R5). -/
def State.readWord (s : State) (a : Nat) : Nat := s.wordOf (fieldsAt a)

/-- The part of a written word that falls on a field. -/
def Field.slice (f : Field) (v : Nat) : Nat := v / 2 ^ f.lo % 2 ^ f.w

/-- The bits of a W1C field that hardware has set in this tick, which a clear leaves set (R111). -/
def State.justSet (s : State) (f : Field) : Nat := ((s.upd.find? f.key).getD (0, 0)).2

/-- A host write of one field by its access code: RO, RC and WO fields keep nothing of it, RW takes the value, W1C clears
the bits written 1, W1S sets them; an update by hardware in the same tick stands (R111). -/
def State.fieldWrite (s : State) (f : Field) (v : Nat) : State :=
  match f.acc with
  | .ro => s
  | .rc => s
  | .rw => s.hostWr f (f.slice v)
  | .wo => s
  | .w1c => s.put f (s.rd f &&& (2 ^ f.w - 1 - f.slice v) ||| s.rd f &&& s.justSet f)
  | .w1s => s.put f (s.rd f ||| f.slice v)

/-- A host write of the fields of one register. -/
def State.wordWrite (s : State) (v : Nat) : List Field → State
  | [] => s
  | f :: r => (s.fieldWrite f v).wordWrite v r

/-- A host write of a register word with no checks beyond the access codes. -/
def State.writeWord (s : State) (a v : Nat) : State := s.wordWrite v (fieldsAt a)

/-- A read clears an RC field: it keeps only what hardware has added in this tick (R6, R111). -/
def State.rcClear (s : State) (f : Field) : State :=
  match s.upd.find? f.key with
  | none => s.put f 0
  | some e => { s with regs := s.regs.set f.key (min e.2 (2 ^ f.w - 1)), upd := s.upd.set f.key (0, e.2) }

/-- Clear the RC fields among a list of fields, as the read of their register does. -/
def State.clearRc (s : State) : List Field → State
  | [] => s
  | f :: r => (match f.acc with | .rc => s.rcClear f | _ => s).clearRc r

/-! ## Answers, emissions, free values -/

/-- Answer the access with a status code and data. -/
def State.answer (s : State) (status data : Nat) : State := { s with resp := ⟨status, data⟩ }

/-- Answer with a status code and no data. -/
def State.status (s : State) (c : Nat) : State := s.answer c 0

/-- Something leaves the module. -/
def State.emit (s : State) (o : Out) : State := { s with out := s.out ++ [o] }

/-- The next free value, cut to `w` bits (log entry 1). -/
def State.freeNat (s : State) (w : Nat) : Nat := (Config.freeValue s.free).toNat % 2 ^ w

/-- Take a free value. -/
def State.took (s : State) : State := { s with free := s.free + 1 }

/-! ## Stamps (R9, R11, R34) -/

/-- The stamp of the present tick. -/
def State.stamp (s : State) : Stamp := ⟨⟨s.pt.sec, s.pt.ns⟩, ⟨s.trl.cyc, s.trl.ang⟩⟩

/-- Plant time now, in nanoseconds. -/
def State.ptNs (s : State) : Nat := s.stamp.pt.toNs

/-! ## Bytes and words (R3) -/

/-- The number that bytes spell, least significant first. -/
def ofLe : List Byte → Nat
  | [] => 0
  | b :: r => b.toNat + 256 * ofLe r

/-- Bytes as 32-bit words, the last one filled with zeros. -/
def toWords : List Byte → List Word
  | [] => []
  | [a] => [BitVec.ofNat 32 (ofLe [a])]
  | [a, b] => [BitVec.ofNat 32 (ofLe [a, b])]
  | [a, b, c] => [BitVec.ofNat 32 (ofLe [a, b, c])]
  | a :: b :: c :: d :: r => BitVec.ofNat 32 (ofLe [a, b, c, d]) :: toWords r

/-! ## Memory: canonical lists of (address, byte) -/

/-- What a byte that nothing has written reads as: 0 (log entry 7). -/
def memDefault (_ : Nat) : Byte := 0

/-- The byte at `a` in a memory. -/
def memGet : List Host.Cell → Nat → Byte
  | [], a => memDefault a
  | (b, v) :: r, a => if a = b then v else memGet r a

/-- A memory with byte `v` at `a`, keeping the canonical form. -/
def memSet : List Host.Cell → Nat → Byte → List Host.Cell
  | [], a, v => if v = memDefault a then [] else [(a, v)]
  | (b, w) :: r, a, v =>
    if a < b then (if v = memDefault a then (b, w) :: r else (a, v) :: (b, w) :: r)
    else if a = b then (if v = memDefault a then r else (a, v) :: r)
    else (b, w) :: memSet r a v

/-- Are the addresses strictly rising from `lo`, with no entry at its default? -/
def memOk : Nat → List Host.Cell → Bool
  | _, [] => true
  | lo, (a, v) :: r => decide (lo ≤ a) && decide (v ≠ memDefault a) && memOk (a + 1) r

/-- The canonical form of a memory. -/
def Memory.wf (m : List Host.Cell) : Bool := memOk 0 m

/-- The byte at `a`. -/
def State.byteAt (s : State) (a : Nat) : Byte := memGet s.mem a

/-- Store one byte. -/
def State.putByte (s : State) (a : Nat) (v : Byte) : State := { s with mem := memSet s.mem a v }

/-- Store bytes from `a` upwards. -/
def State.putBytes (s : State) : Nat → List Byte → State
  | _, [] => s
  | a, b :: r => (s.putByte a b).putBytes (a + 1) r

/-- The bytes from `a` upwards. -/
def State.bytesAt (s : State) (a : Nat) : Nat → List Byte
  | 0 => []
  | n + 1 => s.byteAt a :: s.bytesAt (a + 1) n

/-- The little-endian number in `n` bytes from `a`. -/
def State.numAt (s : State) (a n : Nat) : Nat := ofLe (s.bytesAt a n)

/-! ## Dictionary-only objects -/

/-- The key of object index:sub. -/
def objKey (index sub : Nat) : Nat := 256 * index + sub

/-- A dictionary object that no register mirrors, with its default. -/
def State.obj (s : State) (index sub dflt : Nat) : Nat := s.objs.get (objKey index sub) dflt

/-- Set a dictionary object that no register mirrors. -/
def State.setObj (s : State) (index sub v : Nat) : State :=
  { s with objs := s.objs.set (objKey index sub) v }

/-! ## Hardware-fault events -/

/-- Record a hardware-fault event (R1, R25, R56, R105, R227). -/
def State.hwFault (s : State) (code info : Nat) : State :=
  { s with faults := s.faults ++ [⟨code, info, s.stamp⟩] }

/-! ## Modes and domains -/

/-- The present mode (Table 3-3). -/
def State.mode (s : State) : Nat := s.rd F.GIRTH_MODE_MODE

/-- The eight modes of Table 3-3. -/
def mSEATING : Nat := 1
def mBOOT : Nat := 2
def mSERVICE : Nat := 3
def mRUN : Nat := 4
def mHOLD : Nat := 5
def mDORMANCY : Nat := 6
def mHANDOFF : Nat := 7
def mQUARANTINE : Nat := 8

/-- May flash be written: the hold-up store is charged (R75)? -/
def flashOk (s : State) : Bool := s.rdB F.RAIL_STAT_HOLDUP_OK

/-- The status of an access of AC0 to `n` bytes of plain memory at `a` (Table 1-7): Pommel's and Furrow's SRAM and the ROM
are closed to it (R27, R42, R43), flash takes no writes. -/
def areaStatus (a n : Nat) : Nat :=
  if (0x10400000 ≤ a ∧ a + n ≤ 0x11000000) ∨ (0x800000000 ≤ a ∧ a + n ≤ 0x820000000) then 0
  else if (0x10000000 ≤ a ∧ a + n ≤ 0x10400000) ∨ a + n ≤ 0x40000 then 0x020B
  else if 0x40000000 ≤ a ∧ a + n ≤ 0x44000000 then 0x020A
  else 0x0110

/-- Is plot `p` FROZEN, or being frozen (R482)? -/
def plotHeld (s : State) (p : Nat) : Bool :=
  s.rd (F.PC_PSTAT_STATE p) == 5 || (s.pc.plots.get p {}).freeze != 0

/-- Is plot `p` RESETTING (R480)? -/
def plotResetting (s : State) (p : Nat) : Bool := decide (p < 8) && s.rd (F.PC_PSTAT_STATE p) == 4

/-! ## Keys (R501, R502) -/

/-- The bits of USES (R501). -/
def useStitch : Nat := 0
def useNetref : Nat := 1
def useMigrate : Nat := 2
def useImage : Nat := 3
def useKek : Nat := 4
def useOwnerSign : Nat := 5

/-- Why a use of a slot fails, if it does (R502, R499). -/
def keyRefusal (s : State) (slot use : Nat) : Option Nat :=
  if s.mode == mQUARANTINE then some 0x0509
  else if s.rdB F.CLO_STAT_KEYS_SEALED then some 0x0505
  else match s.clo.keys.find? slot with
    | some k => if k.uses.testBit use then none else some 0x0504
    | none => some 0x0504

/-- The material of a slot's key, for a use that R502 allows. -/
def keyFor (s : State) (slot use : Nat) : Option (List Byte) :=
  if (keyRefusal s slot use).isSome then none else (s.clo.keys.find? slot).map (·.mat)

/-- The material that a slot holds, none of it where the slot is empty. -/
def keyMat (s : State) (slot : Nat) : List Byte := ((s.clo.keys.find? slot).map (·.mat)).getD []

/-- The bytes of an ASCII string. -/
def asciiBytes (x : String) : List Byte := x.toList.map fun c => BitVec.ofNat 8 c.toNat

/-! ## The two regions (R215) -/

def capBase (s : State) : Nat := s.rd F.CAP_BASE_BASE * 2 ^ 24
def capDirBase (s : State) : Nat := s.rd F.CAP_DIR_BASE_BASE * 2 ^ 12

/-- Bytes of the voltage plane, and sets that it holds. -/
def capPlane (s : State) : Nat := (s.rd F.CAP_CTL_SIZE + 1) * 2 ^ 24
def capSets (s : State) : Nat := capPlane s / 9216

/-- Clear COMPLETE in every directory record of the capture ring (R219, Table 8-4): bit 0 of FLAGS, at offset 6. -/
def capClearAll (s : State) : State :=
  let lo := capDirBase s
  let hi := lo + 2048 * capSets s
  { s with mem := s.mem.filterMap fun c =>
      if lo ≤ c.1 ∧ c.1 < hi ∧ (c.1 - lo) % 2048 = 6 then
        let v := c.2 &&& 0xFE
        if v = memDefault c.1 then none else some (c.1, v)
      else some c }

/-! ## Tilth's stop (R249, Table 10-12) -/

/-- EN, or capture, goes off while Tilth runs: it stops at the end of the present cycle. -/
def tilStopNote (s : State) (cap : Bool) : State :=
  if s.rdB F.TIL_STAT_RUNNING then
    { s with til := { s.til with stopCyc := some (s.til.stopCyc.getD s.trl.cyc), capOff := s.til.capOff || cap } }
  else s

/-! ## Channel maps -/

/-- Bits of a map over `n` channels for which `p` holds. -/
def bitsWhere (p : Nat → Bool) : Nat → Nat
  | 0 => 0
  | n + 1 => bitsWhere p n + (if p n then 2 ^ n else 0)

/-- Apply `f` for 0, 1, ..., n - 1 in turn. -/
def forN (f : Nat → State → State) : Nat → State → State
  | 0, s => s
  | n + 1, s => f n (forN f n s)

end Sys2Proof.Machine
end

