-- ==== Sys2Proof/Machine/Furrow.lean ====
section
/-! DEFINITION. Furrow (09_furrow_queues.md): the 64 queues, their credits, banks, spill and flow control. -/

namespace Sys2Proof.Machine

/-- What queue `q` holds. -/
def State.queue (s : State) (q : Nat) : QueueSt := s.q.get q {}

/-- Replace what queue `q` holds. -/
def State.setQueue (s : State) (q : Nat) (x : QueueSt) : State := { s with q := s.q.set q x }

/-- Words in a list of packets. -/
def packWords (l : List QPacket) : Nat := (l.map fun p => p.words.length).sum

/-- Words stored in the filling bank, the open packet's among them. -/
def QueueSt.used (x : QueueSt) : Nat :=
  packWords x.fill + (match x.opn with | none => 0 | some p => p.words.length)

/-- Unread words of both banks and of every waiting spill image (R239; log entry 9). -/
def QueueSt.level (x : QueueSt) : Nat :=
  x.used + packWords x.drain + x.sel.length +
    (match x.spilling with | none => 0 | some i => packWords i) + (x.spilled.map packWords).sum

/-- Complete packets waiting (R230). -/
def QueueSt.packets (x : QueueSt) : Nat :=
  x.fill.length + x.drain.length + (match x.spilling with | none => 0 | some i => i.length) +
    (x.spilled.map List.length).sum

/-- Words of one bank of queue `q` (R229). -/
def bankWords (s : State) (q : Nat) : Nat := 2 ^ s.rd (F.Q_CFG_SIZE q)

/-- MAXPKT of R230. -/
def maxPkt (s : State) (q : Nat) : Nat := min 4096 (bankWords s q)

/-- Free words of the filling bank; none while the queue is off or its bank is being spilled (R232). -/
def queueFree (s : State) (q : Nat) : Nat :=
  let x := s.queue q
  if s.rdB (F.Q_CFG_EN q) && x.spilling.isNone then bankWords s q - x.used else 0

/-- Q_CREDIT of R233. -/
def queueCredit (s : State) (q : Nat) : Nat :=
  let x := s.queue q
  if x.revoked || x.noGrant then 0 else min (s.rd (F.Q_CREDIT_CFG_CREDIT_MAX q)) (queueFree s q)

/-- An interrupt to a consumer; for a FROZEN plot it is held (R241, Table 20-9). -/
def State.irq (s : State) (cons src : Nat) : State :=
  if cons < 8 && s.rd (F.PC_PSTAT_STATE cons) == 5 then { s with irqHeld := s.irqHeld ++ [(cons, src)] }
  else s.emit (.irq cons src)

/-- The level of flow-control line `l` (R240). -/
def fclLevel (s : State) (l : Nat) : Bool :=
  s.rdB (F.FUR_FCL_EN l) && (s.rdB (F.Q_STAT_XOFF (s.rd (F.FUR_FCL_QUEUE l))) != s.rdB (F.FUR_FCL_INV l))

/-- Bring the read-only registers of queue `q` up to its contents: level, counts, credit, XOFF with its
hysteresis (R239), the flow-control lines (R240) and the interrupts of R241. -/
def furSync (s : State) (q : Nat) : State :=
  let x := s.queue q
  let lvl := x.level
  let xo := if !s.rdB (F.Q_CFG_EN q) then false
    else if s.rd (F.Q_WM_HI_HI q) ≤ lvl then true
    else if lvl ≤ s.rd (F.Q_WM_LO_LO q) then false
    else s.rdB (F.Q_STAT_XOFF q)
  let cons := s.rd (F.Q_OWN_CONS q)
  let irqPkt := s.rd (F.Q_PKT_CNT_CNT q) == 0 && x.packets != 0 && s.rdB (F.Q_IRQ_PKT q)
  let irqHi := xo && !s.rdB (F.Q_STAT_XOFF q) && s.rdB (F.Q_IRQ_HI q)
  let s := s.wr (F.Q_LEVEL_LEVEL q) lvl
  let s := s.wr (F.Q_PKT_CNT_CNT q) x.packets
  let s := s.wr (F.Q_CREDIT_CREDIT q) (queueCredit s q)
  let s := s.wrB (F.Q_STAT_OPEN q) x.opn.isSome
  let s := s.wrB (F.Q_STAT_SPILLING q) x.spilling.isSome
  let s := s.wr (F.Q_STAT_SPILLED q) x.spilled.length
  let s := s.wrB (F.Q_STAT_XOFF q) xo
  let s := s.wr F.FUR_FCL_STAT_LEVEL (bitsWhere (fclLevel s) 8)
  let s := if irqPkt then s.irq cons (256 + q) else s
  if irqHi then s.irq cons (512 + q) else s

/-- The byte address of word position `pos` of Furrow SRAM (Table 1-7). -/
def furSramAddr (pos : Nat) : Nat := 0x10200000 + 4 * pos

/-- Even parity over the low `n` bits of `v`: the bit that makes the number of ones even. -/
def parity (v : Nat) : Nat → Bool
  | 0 => false
  | n + 1 => v.testBit n != parity v n

/-- END, POISON, PAR0 and PAR1 of a word (Table 9-1). -/
def parBits (data : Nat) (last poison : Bool) : Nat :=
  let p0 := parity data 16
  let p1 := (parity (data / 65536) 16 != last) != poison
  last.toNat + 2 * poison.toNat + 4 * p0.toNat + 8 * p1.toNat

/-- Store a word at its position of Furrow SRAM, with its parity (R226). -/
def furPut (s : State) (w : QWord) : State :=
  match w.pos with
  | none => s
  | some p =>
    let s := s.putBytes (furSramAddr p) (le 4 w.data.toNat)
    { s with furBits := s.furBits.set p (parBits w.data.toNat w.last w.poison) }

/-- Does position `p` fail the parity check of a read (R226)? -/
def furBad (s : State) (p : Nat) : Bool :=
  let b := s.furBits.get p 0
  b != parBits (s.numAt (furSramAddr p) 4) (b.testBit 0) (b.testBit 1)

/-- Does a word fail the parity check of a read? -/
def wordBad (s : State) (w : QWord) : Bool :=
  match w.pos with
  | some p => furBad s p
  | none => false

/-- The position of Furrow SRAM that the next word of queue `q` takes. -/
def furPos (s : State) (q : Nat) : Nat :=
  let x := s.queue q
  s.rd (F.Q_BASE_BASE q) + (if x.bank then bankWords s q else 0) + x.used

/-- Words with rising positions. -/
def placeWords : Nat → List QWord → List QWord
  | _, [] => []
  | p, w :: r => { w with pos := some p } :: placeWords (p + 1) r

/-- Store one word into the filling bank of queue `q` as part of its open packet (R234, R235): a MAXPKT-th
word without END is stored with END and POISON, and sets TRUNC. -/
def furStore (s : State) (q : Nat) (data : Word) (last poison : Bool) : State :=
  let x := s.queue q
  let pkt := x.opn.getD ⟨x.prio, []⟩
  let trunc := !last && decide (maxPkt s q ≤ pkt.words.length + 1)
  let pos := if x.used < bankWords s q then some (furPos s q) else none
  let w : QWord := ⟨data, last || trunc, poison || trunc || x.poisonNext, pos⟩
  let pkt : QPacket := { pkt with words := pkt.words ++ [w] }
  let s := furPut s w
  let s := if trunc then s.wr (F.Q_FLT_TRUNC q) 1 else s
  let x := { x with poisonNext := false, wordAt := s.now }
  let x := if w.last then { x with opn := none, fill := x.fill ++ [pkt] } else { x with opn := some pkt }
  furSync (s.setQueue q x) q

/-- Close the open packet with a zero word that has END and POISON set; nothing when none is open (R234). -/
def furAbort (s : State) (q : Nat) : State :=
  if (s.queue q).opn.isSome then furStore s q 0 true true else s

/-- May this requester use the producer page of queue `q` (R243)? -/
def isProducer (s : State) (r : Req) (q : Nat) : Bool :=
  match r with
  | .plot p => s.rd (F.Q_OWN_PROD q) == p.val
  | _ => false

/-- May this requester use the consumer page of queue `q` (R243)? -/
def isConsumer (s : State) (r : Req) (q : Nat) : Bool :=
  match r with
  | .plot p => s.rd (F.Q_OWN_CONS q) == p.val
  | .supervisor => s.rd (F.Q_OWN_CONS q) == 8
  | _ => false

/-- A producer write of one word: refused without credit, with OVERRUN and the open packet closed (R235). -/
def furProduce (s : State) (r : Req) (q : Nat) (data : Word) (last : Bool) : State :=
  if !isProducer s r q then s.status 0x0206
  else if queueCredit s q = 0 then
    (furAbort (s.wr (F.Q_FLT_OVERRUN q) 1) q).status 0x0305
  else (furStore s q data last false).status 0

/-- A write of PRIO in Q_PCTL (R234). -/
def furPrio (s : State) (r : Req) (q prio : Nat) : State :=
  if !isProducer s r q then s.status 0x0206
  else (s.setQueue q { s.queue q with prio := prio }).status 0

/-- A write of POISON_NEXT in Q_PCTL (R234). -/
def furPoisonNext (s : State) (r : Req) (q : Nat) : State :=
  if !isProducer s r q then s.status 0x0206
  else (s.setQueue q { s.queue q with poisonNext := true }).status 0

/-- A write of ABORT in Q_PCTL (R234). -/
def furPctlAbort (s : State) (r : Req) (q : Nat) : State :=
  if !isProducer s r q then s.status 0x0206 else (furAbort s q).status 0

/-- A queue with its contents discarded and its credits revoked (R233, R242). -/
def QueueSt.emptied (x : QueueSt) : QueueSt :=
  { x with fill := [], opn := none, drain := [], spilling := none, spilled := [], sel := [], selImage := false, images := 0 }

/-- Discard what queue `q` holds, the selected packet's words among it. -/
def furEmpty (s : State) (q : Nat) : State := (s.wr (F.Q_DSTAT_REMAIN q) 0).setQueue q (s.queue q).emptied

/-- Discard the contents of queue `q`; its credits are revoked until the next tick (R233). -/
def furFlush (s : State) (q : Nat) : State :=
  let s := furEmpty s q
  furSync (s.setQueue q { s.queue q with revoked := true }) q

/-! ## Hardware sources -/

/-- The credit that a hardware packet meets: a top-up of the same tick comes after it (Table 9-2). -/
def hwCredit (s : State) (q : Nat) : Nat :=
  match (s.queue q).topUp with
  | some (t, c) => if t = s.now then min c (queueCredit s q) else queueCredit s q
  | none => queueCredit s q

/-- Note the credit of queue `q` before a top-up, for the hardware packets of this tick. -/
def QueueSt.noted (x : QueueSt) (s : State) (q : Nat) : QueueSt := { x with topUp := some (s.now, queueCredit s q) }

/-- Would a hardware packet of `n` words be accepted (R237)? -/
def hwRoom (s : State) (q n : Nat) : Bool :=
  s.rdB (F.Q_CFG_EN q) && decide (n ≤ maxPkt s q) && decide (n + hwCredit s q ≤ queueFree s q)

/-- Mark the last word of a packet. -/
def markLast : List Word → List QWord
  | [] => []
  | [w] => [⟨w, true, false, none⟩]
  | w :: r => ⟨w, false, false, none⟩ :: markLast r

/-- Records for a plot under reset go to the supervisor (R480). -/
def hwQueue (s : State) (q : Nat) : Nat := if plotResetting s (s.rd (F.Q_OWN_CONS q)) then s.rd F.PC_EVQ_QUEUE else q

/-- A hardware source writes a packet whole at the queue's HWPRIO, or it is lost (R237). -/
def hwPost (s : State) (q : Nat) (words : List Word) : State :=
  let q := hwQueue s q
  if hwRoom s q words.length then
    let x := s.queue q
    let ws := placeWords (furPos s q) (markLast words)
    let s := ws.foldl furPut s
    furSync (s.setQueue q { x with fill := x.fill ++ [⟨s.rd (F.Q_CFG_HWPRIO q), ws⟩] }) q
  else (s.wr (F.Q_FLT_LOST q) 1).incSat (F.Q_CNT_LOST_CNT q)

/-- HW_PACKET_WRITE (R237). -/
def execHwPacketWrite (q : Fin 64) (words : List Word) (s : State) : Res :=
  .next (if words.isEmpty then s else hwPost s q words)

/-- The hardware-fault record of R227 in the supervisor's error queue: the layout of Table 18-2, with a
TYPE that no rule gives and that is therefore free (log entry 10). -/
def hwErrorRecord (s : State) (code : Nat) : State :=
  let st := s.stamp
  let bytes := le 1 (s.freeNat 8) ++ le 1 8 ++ le 2 code ++ st.ang.bytes ++ st.pt.bytes ++
    le 2 0 ++ le 5 0 ++ le 1 0 ++ le 2 (s.rd (F.BR_TAG_TAG 8))
  let s := s.took
  if s.rdB (F.BR_ERRQ_EN 8) then hwPost s (s.rd (F.BR_ERRQ_QUEUE 8)) (toWords bytes) else s

/-! ## Consuming -/

/-- The first packet of the lowest PRIO value, and the others in their order (R238). -/
def takeFirst : List QPacket → Option (QPacket × List QPacket)
  | [] => none
  | p :: r =>
    match takeFirst r with
    | none => some (p, [])
    | some (m, rest) => if p.prio ≤ m.prio then some (p, r) else some (m, p :: rest)

/-- Spill images without the empty ones in front. -/
def dropEmpty : List (List QPacket) → List (List QPacket)
  | [] => []
  | i :: r => if i.isEmpty then dropEmpty r else i :: r

/-- The next packet a consumer meets, and the queue without it (R238): the draining bank first, then the
spill images, oldest first. -/
def QueueSt.next (x : QueueSt) : Option (QPacket × QueueSt) :=
  match takeFirst x.drain with
  | some (p, rest) => some (p, { x with drain := rest, selImage := false })
  | none =>
    match dropEmpty x.spilled with
    | [] => none
    | i :: r =>
      match takeFirst i with
      | none => none
      | some (p, rest) => some (p, { x with spilled := rest :: r, selImage := true })

/-- The header that Q_NEXT returns for a packet (R238). -/
def nextHeader (p : QPacket) : Nat :=
  p.words.length + p.prio * 2 ^ 16 + (if p.words.any (·.poison) then 2 ^ 19 else 0) + 2 ^ 31

/-- A read of Q_NEXT: select the next packet and return its header (R238). -/
def furNext (s : State) (q : Nat) : State :=
  let x := s.queue q
  let s := if x.sel.isEmpty then s else s.incSat (F.Q_CNT_DISCARD_CNT q)
  match { x with sel := [] }.next with
  | none =>
    let x := { x with sel := [], spilled := dropEmpty x.spilled }
    ((furSync (s.setQueue q x) q |>.wr (F.Q_DSTAT_REMAIN q) 0).wr (F.Q_NEXT_HDR q) 0).answer 0 0
  | some (p, x) =>
    let h := nextHeader p
    let s := furSync (s.setQueue q { x with sel := p.words }) q
    let s := s.wr (F.Q_DSTAT_REMAIN q) p.words.length
    (s.wr (F.Q_NEXT_HDR q) h).answer 0 h

/-- A read has found a parity error in a word of queue `q` (R227): PAR_ERR, PAR_CNT, a hardware-fault event and its record. -/
def furParity (s : State) (q : Nat) : State :=
  hwErrorRecord (((s.wr F.FUR_FLT_PAR_ERR 1).incSat F.FUR_PAR_CNT_CNT).hwFault 0x060A q) 0x060A

/-- A read of Q_DATA; `parErr` says that a bit of the stored word has been upset, so that its parity check fails (R227, R238). -/
def furData (s : State) (q : Nat) (parErr : Bool) : State :=
  let x := s.queue q
  match x.sel with
  | [] => (s.wr (F.Q_FLT_UNDERRUN q) 1).answer 0x0306 0
  | w :: rest =>
    let err := wordBad s w || (parErr && w.pos.isSome)
    let s := if err then furParity s q else s
    let x := s.queue q
    let x := { x with sel := rest, spilled := if rest.isEmpty then dropEmpty x.spilled else x.spilled }
    let bad := w.poison || err
    let s := furSync (s.setQueue q x) q
    let s := s.wrB (F.Q_DSTAT_END q) w.last
    let s := s.wrB (F.Q_DSTAT_POISON q) bad
    let s := s.wr (F.Q_DSTAT_REMAIN q) rest.length
    let s := s.wr (F.Q_DATA_DATA q) w.data.toNat
    s.answer (if bad then 0x0803 else 0) w.data.toNat

/-! ## Banks and spill -/

/-- Does the draining bank hold an unread word? -/
def QueueSt.draining (x : QueueSt) : Bool := !x.drain.isEmpty || (!x.sel.isEmpty && !x.selImage)

/-- The swap condition of R231. -/
def QueueSt.canSwap (x : QueueSt) : Bool :=
  x.drain.isEmpty && x.sel.isEmpty && x.spilling.isNone && (dropEmpty x.spilled).isEmpty && !x.fill.isEmpty && x.opn.isNone

/-- BANK_SWAP (R231): with its conditions unmet nothing happens. -/
def execBankSwap (q : Fin 64) (s : State) : Res :=
  let x := s.queue q
  .next (if x.canSwap then
      furSync (s.setQueue q ({ x with drain := x.fill, fill := [], bank := !x.bank }.noted s q)) q
    else s)

/-- The closing condition of R232. -/
def canSpill (s : State) (q : Nat) : Bool :=
  let x := s.queue q
  s.rdB (F.Q_CFG_SPILL_EN q) && decide (3 * bankWords s q ≤ 4 * x.used) && x.draining && x.opn.isNone &&
    x.spilling.isNone && decide (x.spilled.length < max 1 (s.rd (F.Q_SPILL_CFG_BANKS q)))

/-- SPILL_CLOSE (R232). -/
def execSpillClose (q : Fin 64) (s : State) : Res :=
  let x := s.queue q
  .next (if canSpill s q then furSync (s.setQueue q { x with spilling := some x.fill, fill := [] }) q else s)

/-- The words of a packet as the spill engine reads them: one that fails its parity check becomes poisoned (R227). -/
def spillWords (s : State) (p : QPacket) : QPacket :=
  { p with words := p.words.map fun w => { w with poison := w.poison || wordBad s w, pos := none } }

/-- Copy a bank image to its place in DRAM (R232), with the layout that Config leaves open. -/
def spillStore (s : State) (q : Nat) (l : List QPacket) : State :=
  let n := Config.spillImageBytes (s.rd (F.Q_CFG_SIZE q))
  let k := (s.queue q).images % max 1 (s.rd (F.Q_SPILL_CFG_BANKS q))
  let ws := (l.flatMap (·.words)).map fun w => w.data.toNat + 2 ^ 32 * w.last.toNat + 2 ^ 33 * w.poison.toNat
  s.putBytes (4096 * s.rd (F.Q_SPILL_BASE_BASE q) + n * k) ((List.range n).map (Config.spillImage ws))

/-- SPILL_DONE (R232): the bank has been copied whole into the next free image, each of its words checked as it was read. -/
def execSpillDone (q : Fin 64) (s : State) : Res :=
  .next (match (s.queue q).spilling with
    | none => s
    | some i =>
      let l := i.map (spillWords s)
      let bad := ((i.flatMap (·.words)).filter (wordBad s)).length
      let s := spillStore (forN (fun _ t => furParity t q) bad s) q l
      let x := s.queue q
      furSync (s.setQueue q ({ x with spilling := none, spilled := x.spilled ++ [l], images := x.images + 1 }.noted s q)) q)

/-- OPEN_TMO (R236): an open packet has received no word for OPEN_TMO, in units of 10 µs. -/
def execOpenTmo (q : Fin 64) (s : State) : Res :=
  let tmo := s.rd (F.Q_CREDIT_CFG_OPEN_TMO q)
  .next (if tmo != 0 && (s.queue q).opn.isSome && decide ((s.queue q).wordAt + 800 * tmo ≤ s.now) then
      (furAbort s q).wr (F.Q_FLT_PKT_TMO q) 1
    else s)

/-! ## Enabling a queue (R229) -/

/-- Do two ranges of words overlap? -/
def overlap (a n b m : Nat) : Bool := decide (a < b + m) && decide (b < a + n)

/-- Would queue `q` overlap an enabled queue? -/
def queueOverlaps (s : State) (q : Nat) : Bool :=
  (List.range 64).any fun k => k != q && s.rdB (F.Q_CFG_EN k) &&
    overlap (s.rd (F.Q_BASE_BASE q)) (2 * bankWords s q) (s.rd (F.Q_BASE_BASE k)) (2 * bankWords s k)

/-- Region `r` of plot `p`: base and size (Table 20-10). -/
def regionBase (s : State) (p r : Nat) : Nat := s.rd (F.REG_BASE_LO_BASE_LO p r) + 2 ^ 32 * s.rd (F.REG_BASE_HI_BASE_HI p r)
def regionSize (s : State) (p r : Nat) : Nat := s.rd (F.REG_SIZE_SIZE p r)

/-- Is region `r` of plot `p` a mapping of memory that is another's (SHARE, R472, R481), and so no part of its partition? -/
def regionShared (s : State) (p r : Nat) : Bool := s.bit (F.REG_BASE_HI_ATTR p r) 3

/-- Does [a, a + n) lie in the DRAM partition of plot `p`? -/
def inPlotDram (s : State) (p a n : Nat) : Bool :=
  decide (0x800000000 ≤ a) && decide (a + n ≤ 0x820000000) &&
  (List.range 8).any fun r => !regionShared s p r && decide (regionBase s p r ≤ a) &&
    decide (a + n ≤ regionBase s p r + regionSize s p r)

/-- Does [a, a + n) lie in DRAM outside every plot partition? -/
def inFreeDram (s : State) (a n : Nat) : Bool :=
  decide (0x800000000 ≤ a) && decide (a + n ≤ 0x820000000) &&
  (List.range 8).all fun p => (List.range 8).all fun r =>
    !(regionSize s p r != 0 && !regionShared s p r && overlap a n (regionBase s p r) (regionSize s p r))

/-- Does the spill region of queue `q` lie where R232 wants it? -/
def spillOk (s : State) (q : Nat) : Bool :=
  let a := 4096 * s.rd (F.Q_SPILL_BASE_BASE q)
  let n := max 1 (s.rd (F.Q_SPILL_CFG_BANKS q)) * Config.spillImageBytes (s.rd (F.Q_CFG_SIZE q))
  let c := s.rd (F.Q_OWN_CONS q)
  if c < 8 then inPlotDram s c a n else inFreeDram s a n

/-- The checks of R229 and R232 before EN is set. -/
def queueCfgOk (s : State) (q : Nat) : Bool :=
  let size := s.rd (F.Q_CFG_SIZE q)
  let base := s.rd (F.Q_BASE_BASE q)
  decide (4 ≤ size) && decide (size ≤ 17) && decide (base % 2 ^ (size + 1) = 0) &&
    decide (base + 2 ^ (size + 1) ≤ 524288) && !queueOverlaps s q && (!s.rdB (F.Q_CFG_SPILL_EN q) || spillOk s q)

/-- Turn queue `q` off: its contents are discarded, its credits revoked and XOFF clears (R242). -/
def queueOff (s : State) (q : Nat) : State :=
  furSync (furEmpty (s.wr (F.Q_CFG_EN q) 0) q) q

/-- Turn queue `q` on if R229 allows it, else set CFG_ERR. -/
def queueOn (s : State) (q : Nat) : State :=
  if queueCfgOk s q then furSync (s.wr (F.Q_CFG_EN q) 1) q else s.wr (F.Q_FLT_CFG_ERR q) 1

/-- A write of the Q_CFG word: only by the supervisor partition, SIZE and SPILL_EN only while EN is clear
(R229); then EN as written. -/
def queueCfgWrite (s : State) (r : Req) (q v : Nat) : State :=
  if r ≠ .supervisor then s.status 0x0207
  else
    let en := s.rdB (F.Q_CFG_EN q)
    let size := (F.Q_CFG_SIZE q).slice v
    let spill := (F.Q_CFG_SPILL_EN q).slice v
    if en && (size != s.rd (F.Q_CFG_SIZE q) || spill != s.rd (F.Q_CFG_SPILL_EN q)) then s.status 0x0207
    else
      let s := ((s.wr (F.Q_CFG_SIZE q) size).wr (F.Q_CFG_SPILL_EN q) spill).wr (F.Q_CFG_HWPRIO q)
        ((F.Q_CFG_HWPRIO q).slice v)
      if v % 2 = 1 then
        if en then s.status 0
        else
          let t := queueOn s q
          t.status (if t.rdB (F.Q_CFG_EN q) then 0 else 0x0302)
      else if en then (queueOff s q).status 0 else s.status 0

/-- What a tick does in Furrow: credits revoked by FLUSH are granted anew (R233). -/
def furTick (s : State) : State :=
  (s.q.filter fun e => e.2.revoked).foldl
    (fun t e => furSync (t.setQueue e.1 ({ t.queue e.1 with revoked := false }.noted t e.1)) e.1) s

end Sys2Proof.Machine
end

