-- ==== Sys2Proof/Machine/Window.lean ====
section
/-! DEFINITION. The block windows of Table 1-7: which are dead (R103), how an access ends, and the asynchronous error records
(R422). -/

namespace Sys2Proof.Machine

/-! ## The address map (Table 1-7) -/

/-- A block window. -/
def isWindow (a : Nat) : Bool := decide (0x20000000 ≤ a) && decide (a < 0x21300000)

/-- A range of Bridle class N. -/
def classN (a : Nat) : Bool :=
  let w := a / 0x100000
  w == 0x206 || w == 0x208 || w == 0x20D || w == 0x211 || w == 0x212 ||
    (decide (0x1000000000 ≤ a) && decide (a < 0x1000001000))

/-- The windows of the BLK_RST bits 0 to 13 (Table 4-7). -/
def blkWindow (b : Nat) : List (Nat × Nat) :=
  match b with
  | 0 => [(0x20500000, 0x20600000)]
  | 1 => [(0x20B00000, 0x20C00000)]
  | 4 => [(0x20F00000, 0x21000000)]
  | 5 => [(0x21000000, 0x21100000)]
  | _ => if 6 ≤ b ∧ b ≤ 13 then
      [(0x20A00000 + 0x1000 * (b - 6), 0x20A01000 + 0x1000 * (b - 6)),
       (0x20A10000 + 0x1000 * (b - 6), 0x20A11000 + 0x1000 * (b - 6)),
       (0x20A20000 + 0x2000 * (b - 6), 0x20A22000 + 0x2000 * (b - 6))]
    else []

/-- The block of Table 4-7 whose window holds `a` is in reset or in its start-up. -/
def blkBusy (s : State) (a : Nat) : Bool :=
  (List.range 14).any fun b => s.bit F.BLK_RST_STAT_BUSY b &&
    (if b = 3 then a / 0x100000 == 0x211 else (blkWindow b).any fun w => decide (w.1 ≤ a) && decide (a < w.2))

/-- The clock of the window that holds `a` has faulted and no restart has brought it back (Table 4-1, R103): XO or PLL_C for
the fabric's blocks, XO or PLL_S for the blocks on the 80 MHz tick. -/
def windowUnclocked (s : State) (w : Nat) : Bool :=
  let bad := s.girth.clkBad
  bad.getLsbD 0 || (if w < 0x204 ∨ w = 0x206 ∨ w = 0x207 ∨ w = 0x209 ∨ w = 0x20A then bad.getLsbD 2 else bad.getLsbD 3)

/-- The domain of the window that holds `a` is in reset or unclocked (R103, Table 4-3), or the crossing to it is in reset
(R105). -/
def windowDead (s : State) (a : Nat) : Bool :=
  let w := a / 0x100000
  if w = 0x208 ∨ w = 0x20E then false
  else if w < 0x204 ∨ w = 0x206 then s.girth.safeReset || s.girth.domFail || windowUnclocked s w
  else s.girth.coreReset || blkBusy s a || windowUnclocked s w

/-! ## Error records (R422) -/

/-- An asynchronous error record (R422, Table 18-2) to issuer `i`'s queue; a plot under reset has its records in the
supervisor's (R480). A record that finds no queue or no room is counted as lost. -/
def brRecord (s : State) (type i status addr tag : Nat) : State :=
  let st := s.stamp
  let dst := if plotResetting s i then 8 else i
  let w := toWords (le 1 type ++ le 1 i ++ le 2 status ++ st.ang.bytes ++ st.pt.bytes ++ le 2 0 ++ le 5 addr ++ le 1 0 ++ le 2 tag)
  let q := s.rd (F.BR_ERRQ_QUEUE dst)
  let s := s.incSat (F.BR_PCNT_ERRS i)
  let lost := !s.rdB (F.BR_ERRQ_EN dst) || !hwRoom s q w.length
  let s := if s.rdB (F.BR_ERRQ_EN dst) then hwPost s q w else s
  if lost then s.incSat (F.BR_PCNT_REC_LOST dst) else s

/-- The earlier of two failures in issue order. -/
def brEarlier : Option BrFail → BrFail → BrFail
  | some g, f => if f.num < g.num then f else g
  | none, f => f

/-- A failed posted write of issuer `i` that no running fence covers stands for the next one (R423; log entry 62). -/
def brNote (s : State) (i : Nat) (f : BrFail) : State :=
  { s with br := { s.br with failed := s.br.failed.set i (brEarlier (s.br.failed.find? i) f) } }

/-- A posted write of issuer `i` fails where it stands (R422). -/
def brFailNow (s : State) (i status addr : Nat) : State :=
  let tag := s.rd (F.BR_TAG_TAG i)
  let t := brNote (brRecord s 1 i status addr tag) i ⟨s.br.nextTag, status, addr, tag⟩
  { t with br := { t.br with nextTag := t.br.nextTag + 1 } }

/-- BR_LAST of issuer `i` (R416, R423). -/
def brLast (s : State) (i status tag addr : Nat) : State :=
  let s := (s.wr (F.BR_LAST_STATUS i) status).wr (F.BR_LAST_TAG i) tag
  (s.wr (F.BR_LAST_ADDR_LO_ADDR_LO i) addr).wr (F.BR_LAST_ADDR_HI_ADDR_HI i) (addr / 2 ^ 32)

/-! ## The end of an access -/

/-- The issuer of an access (R416): plot `p`, or 8. -/
def Req.issuer : Req → Nat
  | .plot p => p.val
  | .stitch p _ _ => p.val
  | _ => 8

/-- The end of a local access of issuer `i`: a read or non-posted write that fails is latched in BR_LAST; a posted write
that fails after its acceptance leaves a record, and its issuer has had its completion. -/
def accessEnd (s : State) (i : Nat) (posted : Bool) (a : Nat) : State :=
  let c := s.resp.status
  if c = 0 then s
  else if !posted then brLast s i c (s.rd (F.BR_TAG_TAG i)) a
  else if c = 0x0110 then (brFailNow s i c a).status c
  else if c = 0x0610 ∨ c = 0x0611 then (brFailNow s i c a).status 0
  else s

/-- Does the request come through Stitch, which answers it itself (R442)? -/
def Req.isStitch : Req → Bool
  | .stitch _ _ _ => true
  | _ => false

/-- The end of an access to the register at `a` that a command spells out: `t` is what it does while the window is in
service; in a domain in reset it ends as R103 sets. -/
def hostRow (s : State) (r : Req) (a : Nat) (posted : Bool) (t : State) : State :=
  let t := if windowDead s a then s.status 0x0610 else t
  if r.isStitch then t else accessEnd t r.issuer posted a

/-- A command that writes the register at `a`. -/
def hostWrite (s : State) (r : Req) (a : Nat) (t : State) : State := hostRow s r a (!classN a) t

/-- A command that reads the register at `a`. -/
def hostRead (s : State) (r : Req) (a : Nat) (t : State) : State := hostRow s r a false t

end Sys2Proof.Machine
end

