-- ==== Sys2Proof/Machine/Outputs.lean ====
section
/-! DEFINITION. Which source decides an output (Table 1-3), and how a load-switch or DIO channel follows it:
the one place where a channel is switched on, switched off, cut off or re-evaluated. -/

namespace Sys2Proof.Machine

/-! ## Sub-states of RUN (Table 3-4) -/

/-- Rings this module masters (LAT_RSTAT.MASTER). -/
def ringsMastered (s : State) : Nat := bitsWhere (fun c => s.rdB (F.LAT_RSTAT_MASTER c)) 12

/-- The module owns no output channel: no LS channel, and no DIO channel set as an output. -/
def ownsNone (s : State) : Bool :=
  s.girth.ownLs == 0 && (List.range 32).all fun n => !(s.girth.ownDio.getLsbD n && s.rdB (F.DIO_CFG_DIR n))

/-- The five conditions of R67. -/
def extractOk (s : State) : Bool :=
  s.mode != mSEATING && s.mode != mBOOT && ownsNone s && ringsMastered s == 0 &&
    !s.rdB F.POM_STAT_ARM && s.rd F.POM_STAT_SLS_ON == 0

/-- Bring GIRTH_MODE.SUBSTATE up to its conditions (Table 3-4), and EXTRACT_OK with them (R67). -/
def subSync (s : State) : State :=
  let g := s.girth
  let standby := ownsNone s && ringsMastered s == 0
  let s := s.wrB F.SEAT_STAT_EXTRACT_OK (extractOk s)
  s.wr F.GIRTH_MODE_SUBSTATE (standby.toNat + 2 * (!g.degr.isEmpty).toNat +
    4 * (g.xlSeat && s.partner.seen).toNat + 8 * g.xlLost.toNat + 16 * g.unpaired.toNat)

/-- A source reports a degraded status, or withdraws it (R78). -/
def State.degrade (s : State) (src : Nat) (b : Bool) : State :=
  let d := if b then SMap.set s.girth.degr src true else SMap.dropRange s.girth.degr src (src + 1)
  subSync { s with girth := { s.girth with degr := d } }

/-! ## Crossings (R105) -/

/-- Every SoC crossing is in service (R105). -/
def xingSync (s : State) : State :=
  if s.rd F.BLK_RST_STAT_BUSY = 0 ∧ !s.girth.coreReset ∧ !s.girth.safeReset ∧ s.mode ≠ mBOOT ∧ s.girth.clkBad = 0 ∧
      !s.girth.domFail then s.wr F.XING_STAT_SERVICE 1 else s

/-- A SerDes link comes up: its PLL is in window again, and the recovery of R105 ends. -/
def serdesBack (s : State) : State :=
  if s.girth.clkBad.getLsbD 5 then
    let s := { s with girth := { s.girth with clkBad := s.girth.clkBad &&& ~~~32#7 } }
    (xingSync (s.wr F.CLK_STAT_SERDES_LOCK 1)).degrade 12 false
  else s

/-! ## Trip patterns (R306) -/

/-- Object `sub` of trip pattern `x` (Table 12-9). -/
def patternObj (s : State) (x sub : Nat) : Nat := s.obj (0x2A30 + x) sub 0

/-- The state a latched trip pattern forces on bit `n` of the map under object `sub` (mask) and `sub + 1`
(state): OFF prevails over ON. -/
def tripForce (s : State) (sub n : Nat) : Option Bool :=
  let pats := (s.pom.latches.map fun e => e.2.patterns).flatten
  let named := pats.filter fun x => (patternObj s x sub).testBit n
  if named.isEmpty then none
  else some (named.all fun x => (patternObj s x (sub + 1)).testBit n)

/-! ## Load-switch channels -/

/-- The sequencer of channel `n`. -/
def State.lsCh (s : State) (n : Nat) : LsCh := s.ls.get n {}

/-- Replace the sequencer of channel `n`. -/
def State.setLs (s : State) (n : Nat) (c : LsCh) : State := { s with ls := s.ls.set n c }

/-- STATE of Table 13-3. -/
def lsState (s : State) (n : Nat) : Nat := s.rd (F.LS_STAT_STATE n)

/-- Does a channel in this STATE conduct? -/
def lsConducts (st : Nat) : Bool := st == 1 || st == 2 || st == 6

/-- The plot that owns LSn, 0xF none (PC_LS_OWN). -/
def lsOwner (s : State) (n : Nat) : Nat := s.rd (F.PC_LS_OWN_OWNER (n / 8) (n % 8))

/-- The plot that owns DIOn, 0xF none (PC_DIO_OWN). -/
def dioOwner (s : State) (n : Nat) : Nat := s.rd (F.PC_DIO_OWN_OWNER (n / 8) (n % 8))

/-- The feed of a channel is below undervoltage (R70, Table 13-1). -/
def lsFeedLow (s : State) (n : Nat) : Bool := if n < 12 then s.girth.feedLow.getLsbD 0 else s.girth.feedLow.getLsbD 1

/-- Outputs off in hardware or by mode (Table 2-6, R25, R76, R90). -/
def hardOff (s : State) (pd1 : Bool) : Bool :=
  s.girth.outOff || s.mode == mSEATING || !s.girth.vin || (pd1 && s.str.pd1Lost)

/-- What a source of rank 2 or 3 forces on LSn, if any does (Table 1-3): hardware off, Stirrup's hold or
pattern, the held outputs of BOOT, a trip pattern. -/
def lsOverride (s : State) (n : Nat) : Option Bool :=
  if hardOff s (decide (12 ≤ n)) then some false
  else if s.rd F.STR_STAT_STATE != 0 && !s.str.relLs.getLsbD n then some (s.str.holdLs.getLsbD n)
  else if s.mode == mBOOT then some (lsConducts (lsState s n))
  else tripForce s 1 n

/-- The lead of the group that `n` is a member of (R335), else `n` itself. -/
def lsLead (s : State) (n : Nat) : Nat :=
  if !s.rdB (F.LS_STAT_MEMBER n) then n
  else if 1 ≤ n ∧ 2 ≤ s.rd (F.LS_CFG_PAR (n - 1)) then n - 1
  else n - 2

/-- The members of the group that `n` leads, `n` among them (R335). -/
def lsGroup (s : State) (n : Nat) : List Nat :=
  match s.rd (F.LS_CFG_PAR n) with
  | 2 => [n, n + 1]
  | 3 => [n, n + 1, n + 2]
  | _ => [n]

/-- The request of rank 5 for LSn: its group's ON, while the module owns the channel (R86, R319) and is not in SERVICE,
where only service commands switch on (Table 2-6, R321). -/
def lsRequest (s : State) (n : Nat) : Bool :=
  s.rdB (F.LS_REQ_ON (lsLead s n)) && s.girth.ownLs.getLsbD (lsLead s n) && s.mode != mSERVICE

/-- The bytes of profile `x` as its registers hold them. -/
def lsProfBytes (s : State) (x : Nat) : List Byte :=
  ((List.range 16).map fun w => le 4 (s.rd (F.LS_PROF_DATA x w))).flatten

/-- Byte `i` of a record. -/
def byteNat (b : List Byte) (i : Nat) : Nat := (b.getD i 0).toNat

/-- The 16-bit field at byte `i` of a record. -/
def halfNat (b : List Byte) (i : Nat) : Nat := byteNat b i + 256 * byteNat b (i + 1)

/-- A profile record read field by field (Table 13-4). -/
def lsParse (b : List Byte) : LsProfile :=
  { type := byteNat b 0, flags := byteNat b 1, retry := byteNat b 3 % 16, delay := halfNat b 4,
    inom := halfNat b 6, i2tTime := halfNat b 8, olThr := halfNat b 10, olTime := halfNat b 12,
    segs := (List.range (min 8 (byteNat b 2))).map fun k =>
      ⟨halfNat b (16 + 6 * k), halfNat b (18 + 6 * k), byteNat b (20 + 6 * k)⟩ }

/-- The profile that LS_CFG of channel `n`'s lead names. -/
def lsProfile (s : State) (n : Nat) : LsProfile := lsParse (lsProfBytes s (s.rd (F.LS_CFG_PROFILE (lsLead s n))))

/-- Is the configured profile VALID (R320)? -/
def lsProfValid (s : State) (n : Nat) : Bool := s.bit F.LS_PVALID_VALID (s.rd (F.LS_CFG_PROFILE (lsLead s n)))

/-- Is the configured profile VALID and permitted to the channel's plot (R320, R324)? -/
def lsProfOk (s : State) (n : Nat) : Bool :=
  let x := s.rd (F.LS_CFG_PROFILE (lsLead s n))
  lsProfValid s n && (decide (x < 8) || s.rd (F.LS_PROF_OWN_OWNER (x - 8)) == lsOwner s n)

/-- Is channel `n` under a service command, its own or its group's (R321, R336)? -/
def lsService (s : State) (n : Nat) : Bool := (s.lsCh (lsLead s n)).service

/-- Is channel `n` asked to conduct, by its request or by a service command? -/
def lsWanted (s : State) (n : Nat) : Bool := lsRequest s n || lsService s n

/-- The bank of a channel (Table 13-1). -/
def lsBank (n : Nat) : Nat := n / 6

/-- The other conditions of R320, stagger apart: feed, bank and junction estimate. -/
def lsCondOk (s : State) (n : Nat) : Bool :=
  !lsFeedLow s n && !s.rdB (F.LS_BANK_HOT (lsBank n)) && decide (s.rdI (F.LS_TJ_TJ n) < 1300)

/-- Those conditions for every member of the group of `n`, which switches in one tick (R336). -/
def lsGroupCond (s : State) (n : Nat) : Bool := (lsGroup s (lsLead s n)).all (lsCondOk s)

/-- Does Stirrup's hold or pattern control channel `n` now (R340)? -/
def strControls (s : State) (n : Nat) : Bool := s.rd F.STR_STAT_STATE != 0 && !s.str.relLs.getLsbD n

/-- Bit `i` of LS_FLT(n). -/
def lsFltBit (n i : Nat) : Field := { F.LS_FLT_SC n with lo := i % 32 }

/-- LS_FLT(n) as a word. -/
def lsFltWord (s : State) (n : Nat) : Nat := bitsWhere (fun i => s.rdB (lsFltBit n i)) 12

/-- Keep LS_FLT_MAP with LS_FLT(n). -/
def lsFltSync (s : State) (n : Nat) : State := s.putBit F.LS_FLT_MAP_FLT n (lsFltWord s n != 0)

/-- Set a fault bit of a channel. -/
def lsFault (s : State) (n i : Nat) : State := lsFltSync (s.wr (lsFltBit n i) 1) n

/-- The 32 bytes of a load-switch record (Table 13-10). -/
def lsRecordBytes (s : State) (type chan cause n : Nat) : List Byte :=
  let st := s.stamp
  le 1 type ++ le 1 chan ++ le 1 cause ++ le 1 (lsState s n + 8 * s.rd (F.LS_STAT_SEG n)) ++ st.ang.bytes ++
    st.pt.bytes ++ le 2 (s.rd (F.LS_TJ_TJ n)) ++ le 4 (s.rd (F.LS_I_I n)) ++ le 2 (s.rd (F.LS_VOUT_VOUT n)) ++ le 2 0

/-- The bytes of a record that names no channel: its STATE, Tj, current and VOUT, which no rule gives, are free (log
entry 14). -/
def lsUnitBytes (s : State) (type unit cause : Nat) : List Byte :=
  let st := s.stamp
  le 1 type ++ le 1 unit ++ le 1 cause ++ le 1 (s.freeNat 6) ++ st.ang.bytes ++ st.pt.bytes ++
    le 2 (s.took.freeNat 16) ++ le 4 (s.took.took.freeNat 32) ++ le 2 (s.took.took.took.freeNat 16) ++ le 2 0

/-- Post a finished record to LS_EVQ, and that of a channel to its owner's queue when LS_PLOTQ.EN is set (R343). -/
def lsPost (s : State) (n : Nat) (b : List Byte) : State :=
  let s := hwPost s (s.rd F.LS_EVQ_QUEUE) (toWords b)
  let p := lsOwner s n
  if n < 24 && p < 8 && s.rdB (F.LS_PLOTQ_EN p) then hwPost s (s.rd (F.LS_PLOTQ_QUEUE p)) (toWords b) else s

/-- File a record of a power die under the byte that names its subject; in DORMANCY the die keeps it for after the wake
(R340). -/
def lsFile (s : State) (pd1 : Bool) (n : Nat) (b : List Byte) : State :=
  if s.mode == mDORMANCY then
    if pd1 then { s with lsKept1 := (s.lsKept1 ++ [(n, b)]).drop (s.lsKept1.length - 15) }
    else { s with lsKept0 := (s.lsKept0 ++ [(n, b)]).drop (s.lsKept0.length - 15) }
  else lsPost s n b

/-- Write the event record of a channel. -/
def lsRecord (s : State) (type chan cause n : Nat) : State := lsFile s (decide (12 ≤ n)) n (lsRecordBytes s type chan cause n)

/-- Write the event record of a bank (0x80 + b) or of a feed (0xFA VLA, 0xFB VLB). -/
def lsUnitRecord (s : State) (type unit cause : Nat) : State :=
  lsFile s.took.took.took.took (unit == 0x82 || unit == 0x83 || unit == 0xFB) unit (lsUnitBytes s type unit cause)

/-- The label of a conducting channel (Table 13-3): FORCED_ON without a request, else INRUSH or ON. -/
def lsOnState (s : State) (n : Nat) : Nat :=
  if !lsWanted s n then 6 else if (s.lsCh n).running then 1 else 2

/-- Switch a channel on: the profile is copied and started at segment 0 (R320, R323, R324). -/
def lsSwitchOn (s : State) (n : Nat) : State :=
  let c := s.lsCh n
  let s := s.setLs n { c with
    prof := lsProfile s n, running := true, segAt := s.now, olSince := none, stagger := false, retryDue := false, hotOff := false, uvOff := false }
  let s := if c.retryDue then lsRecord (s.incSat (F.LS_STAT_RETRIES n)) 2 n 0xFF n else s
  let s := (s.wr (F.LS_STAT_SEG n) 0).wr (F.LS_STAT_EXT_DRIVEN n) 0
  let s := s.wr (F.LS_STAT_STATE n) (lsOnState s n)
  let s := (s.setBit F.LS_ON_MAP_ON n).incWrap (F.LS_CNT_ON_CNT n)
  s.emit (.stage true n true s.stamp)

/-- Switch a channel off into `st`. -/
def lsSwitchOff (s : State) (n st : Nat) : State :=
  let was := lsConducts (lsState s n)
  let s := s.setLs n { s.lsCh n with running := false }
  let s := (s.wr (F.LS_STAT_STATE n) st).wr (F.LS_STAT_LIMITING n) 0
  let s := (s.clrBit F.LS_ON_MAP_ON n).wr (F.LS_STAT_UV_HELD n) 0
  if was then s.emit (.stage true n true s.stamp) else s

/-- Latch a channel (R328, R329). -/
def lsLatch (s : State) (n cause : Nat) : State := lsRecord (lsSwitchOff s n 4) 3 n cause n

/-- Make one channel follow the sources of Table 1-3 (R30, R319, R320). A cut-off (RETRY, LATCHED) ranks
above every other source, and one that waits for a return of R330 stays off until that return (R340). -/
def lsUpdate (n : Nat) (s : State) : State :=
  let st := lsState s n
  let c := s.lsCh n
  let ov := lsOverride s n
  let req := lsWanted s n
  let want := ov.getD req
  let waits := c.stagger || c.hotOff || c.uvOff
  if st == 3 || st == 4 then s
  else if want then
    if lsConducts st then s.wr (F.LS_STAT_STATE n) (lsOnState s n)
    else if !lsProfValid s n then lsLatch (lsFault s n 6) n 6
    else if waits || !lsProfOk s n || !lsGroupCond s n then s.wr (F.LS_STAT_STATE n) (if req then 7 else 0)
    else lsSwitchOn s n
  else lsSwitchOff s n (if req && ov == some false then 5 else 0)

/-- Make a channel and the members it leads follow (R336: a group switches in one tick). -/
def lsFollow (s : State) (n : Nat) : State := (lsGroup s n).foldl (fun t m => lsUpdate m t) s

/-- Make every channel follow, lowest first. -/
def lsFollowAll (s : State) : State := forN lsUpdate 24 s

/-- Clear the latch and the retry count of a channel, with a record of type 0x05; it is off and follows its sources again
(R329, R343). -/
def lsUnlatch (s : State) (n : Nat) : State :=
  let s := s.wr (F.LS_STAT_RETRIES n) 0
  if lsState s n == 4 then lsRecord (s.wr (F.LS_STAT_STATE n) 0) 5 n 0xFF n else s

/-- May a staggered switch-on of a bank start now: 5 ms since the previous one (R330)? -/
def stagFree (s : State) (b : Nat) : Bool :=
  match s.lsStag.find? b with
  | none => true
  | some t => decide (t + 400000 ≤ s.now)

/-- Switch a channel on with every member of its group, as a switch-on of its bank that R330 counts. -/
def lsGo (s : State) (n : Nat) : State :=
  (lsGroup s (lsLead s n)).foldl lsSwitchOn { s with lsStag := s.lsStag.set (lsBank n) s.now }

/-- A switch-on of a kind that R330 staggers, of a channel with its group: at once if the bank is free, else it waits. -/
def lsStaggered (s : State) (n : Nat) (retry : Bool) : State :=
  let ms := lsGroup s (lsLead s n)
  let s := ms.foldl (fun t m => (t.wr (F.LS_STAT_STATE m) 0).setLs m { t.lsCh m with retryDue := retry }) s
  if stagFree s (lsBank n) && lsGroupCond s n && lsProfOk s n && (lsOverride s n).getD (lsWanted s n) then lsGo s n
  else ms.foldl (fun t m => lsUpdate m (t.setLs m { t.lsCh m with stagger := true })) s

/-- Cut one channel off with a cause (R328): SHED and PROF latch, BANK_HOT waits and uses no retry, the
others go to RETRY while retries remain; in DORMANCY every cut-off latches (R340). -/
def lsCutOne (cause n : Nat) (s : State) : State :=
  if !lsConducts (lsState s n) then s
  else
    let s := lsFault s n cause
    let s := s.incSat (F.LS_CNT_CUT_CNT n)
    let s := lsRecord (s.setLs n { s.lsCh n with cutAt := s.now }) 1 n cause n
    if cause == 5 || cause == 6 || s.mode == mDORMANCY then lsLatch s n cause
    else if cause == 4 then
      let s := lsSwitchOff s n (if lsWanted s n then 7 else 0)
      s.setLs n { s.lsCh n with hotOff := true, retryDue := false }
    else if s.rd (F.LS_STAT_RETRIES n) < (s.lsCh n).prof.retry then lsSwitchOff s n 3
    else lsLatch s n cause

/-- Cut a channel off, and with it every member of its group (R328, R336). -/
def lsCut (s : State) (n cause : Nat) : State :=
  (lsGroup s (lsLead s n)).foldl (fun t m => lsCutOne cause m t) s

/-- Make-before-break releases end with the channel kept (R338, R341): one in its overlap with the partner lost (`lost`)
fails. -/
def lsAbandon (s : State) (lost : Bool) : State :=
  let s := forN (fun n t =>
    if !(t.lsCh n).releasing then t
    else
      let t := (t.setLs n { t.lsCh n with releasing := false, quietAt := t.now }).wr (F.LS_STAT_SHARED n) 0
      if lost then lsRecord (lsFault t n 11) 0x0C n 11 n else t) 24 s
  { s with girth := { s.girth with offered := 0 } }

/-! ## DIO channels -/

/-- The hidden state of DIOn. -/
def State.dioCh (s : State) (n : Nat) : DioCh := s.dio.get n {}

/-- Replace the hidden state of DIOn. -/
def State.setDio (s : State) (n : Nat) (c : DioCh) : State := { s with dio := s.dio.set n c }

/-- STATE of Table 15-5: 0 OFF, 1 ON, 2 RETRY, 3 LATCHED, 4 FORCED_OFF, 5 FORCED_ON, 6 INPUT. -/
def dioState (s : State) (n : Nat) : Nat := s.rd (F.DIO_STAT_STATE n)

/-- Does an output in this STATE conduct? -/
def dioConducts (st : Nat) : Bool := st == 1 || st == 5

/-- What a source of rank 2 or 3 forces on DIOn, if any does (Table 1-3). -/
def dioOverride (s : State) (n : Nat) : Option Bool :=
  if hardOff s (decide (16 ≤ n)) then some false
  else if s.rd F.STR_STAT_STATE != 0 && !s.str.relDio.getLsbD n then some (s.str.holdDio.getLsbD n)
  else if s.mode == mBOOT then some (dioConducts (dioState s n))
  else tripForce s 3 n

/-- The lead of the group that `n` is a member of (R368), else `n` itself. -/
def dioLead (s : State) (n : Nat) : Nat :=
  if !s.rdB (F.DIO_STAT_MEMBER n) then n
  else if 1 ≤ n ∧ 1 ≤ s.rd (F.DIO_CFG_PAR (n - 1)) ∧ !s.rdB (F.DIO_STAT_MEMBER (n - 1)) then n - 1
  else if 2 ≤ n ∧ 2 ≤ s.rd (F.DIO_CFG_PAR (n - 2)) ∧ !s.rdB (F.DIO_STAT_MEMBER (n - 2)) then n - 2
  else n - 3

/-- The members of the group that `n` leads, `n` among them (R368). -/
def dioGroup (s : State) (n : Nat) : List Nat := (List.range (s.rd (F.DIO_CFG_PAR n) + 1)).map (n + ·)

/-- The request of ranks 4 and 5 for an output, not in SERVICE: a Trellis action that stands over the FCL, the FCL with
FCL_EN set, else ON (R240, R365, R369). -/
def dioRequest (s : State) (n : Nat) : Bool :=
  let l := dioLead s n
  s.girth.ownDio.getLsbD l && s.mode != mSERVICE &&
    match (s.dioCh l).overFcl with
    | some b => b
    | none => if s.rdB (F.DIO_CFG_FCL_EN l) then s.bit F.FUR_FCL_STAT_LEVEL (s.rd (F.DIO_CFG_FCL l))
              else s.rdB (F.DIO_REQ_ON l)

/-- Is the channel cut off (RETRY or LATCHED), which ranks above every other source? -/
def dioCutOff (st : Nat) : Bool := st == 2 || st == 3

/-- Put an output into a STATE, keeping DIO_ON_MAP and reporting a change of the stage. -/
def dioPut (s : State) (n st : Nat) : State :=
  let was := dioConducts (dioState s n)
  let s := s.wr (F.DIO_STAT_STATE n) st
  let s := s.putBit F.DIO_ON_MAP_ON n (dioConducts st)
  let s := if dioConducts st && !was then s.setDio n { s.dioCh n with onAt := s.now } else s
  let s := if dioConducts st then s else s.wr (F.DIO_STAT_LIMITING n) 0
  if was != dioConducts st then s.emit (.stage false n true s.stamp) else s

/-- Make one DIO channel follow the sources of Table 1-3; an input keeps its stage off (R361, R365), but a stage
that Stirrup holds on across a reset of the DIO block stays on (R349). -/
def dioUpdate (n : Nat) (s : State) : State :=
  let s := s.wrB (F.DIO_STAT_FCL_DRIVEN n) (s.rdB (F.DIO_CFG_FCL_EN n) && (s.dioCh n).overFcl.isNone)
  let st := dioState s n
  if !s.rdB (F.DIO_CFG_DIR n) && !(dioConducts st && s.rd F.STR_STAT_STATE != 0 && s.str.holdDio.getLsbD n) then
    dioPut s n 6
  else
    let ov := dioOverride s n
    let req := dioRequest s n || (s.dioCh (dioLead s n)).service
    if dioCutOff st then s
    else if ov.getD req then dioPut s n (if req then 1 else 5)
    else dioPut s n (if req && ov == some false then 4 else 0)

/-- Make a DIO channel and the members it leads follow (R368). -/
def dioFollow (s : State) (n : Nat) : State := (dioGroup s n).foldl (fun t m => dioUpdate m t) s

/-- Make every DIO channel follow. -/
def dioFollowAll (s : State) : State := forN dioUpdate 32 s

/-- Make every output follow its sources. -/
def followAll (s : State) : State := dioFollowAll (lsFollowAll s)

/-- Bit `i` of DIO_FLT(n). -/
def dioFltBit (n i : Nat) : Field := { F.DIO_FLT_LIMIT n with lo := i % 32 }

/-- DIO_FLT(n) as a word. -/
def dioFltWord (s : State) (n : Nat) : Nat := bitsWhere (fun i => s.rdB (dioFltBit n i)) 7

/-- Keep DIO_FLT_MAP with DIO_FLT(n). -/
def dioFltSync (s : State) (n : Nat) : State := s.putBit F.DIO_FLT_MAP_FLT n (dioFltWord s n != 0)

/-- Set or clear a fault bit of a DIO channel. -/
def dioFault (s : State) (n i : Nat) (b : Bool) : State := dioFltSync (s.wrB (dioFltBit n i) b) n

/-- The 32 bytes of a DIO record (Table 15-3) with the stamp it carries. -/
def dioRecordBytes (s : State) (type cause n : Nat) (st : Stamp) : List Byte :=
  le 1 type ++ le 1 n ++ le 1 cause ++ le 1 (dioState s n + 8 * s.rd (F.DIO_STAT_LEVEL n)) ++ st.ang.bytes ++
    st.pt.bytes ++ le 2 (s.rd (F.DIO_MEAS_VPIN n)) ++ le 4 (100 * s.rd (F.DIO_MEAS_I n)) ++
    le 2 (min 65535 (s.dioCh n).raws) ++ le 2 0

/-- Post a DIO record: edge records only to the owner's queue, the others to DIO_EVQ too; a loss sets
EDGE_LOST (R371). -/
def dioRecord (s : State) (type cause n : Nat) (st : Stamp) : State :=
  let w := toWords (dioRecordBytes s type cause n st)
  let p := dioOwner s n
  let toOwner := p < 8 && s.rdB (F.DIO_PLOTQ_EN p)
  let toSup := type != 1 && type != 2
  let q0 := s.rd F.DIO_EVQ_QUEUE
  let lost0 := toSup && !hwRoom s q0 w.length
  let s := if toSup then hwPost s q0 w else s
  let q1 := s.rd (F.DIO_PLOTQ_QUEUE p)
  let lost1 := toOwner && !hwRoom s q1 w.length
  let s := if toOwner then hwPost s q1 w else s
  if lost0 || lost1 then dioFault s n 6 true else s

/-! ## Stirrup's capture (R349) -/

/-- Channels conducting now, as the maps show them. -/
def onLs (s : State) : BitVec 24 := BitVec.ofNat 24 (s.rd F.LS_ON_MAP_ON)
def onDio (s : State) : BitVec 32 := BitVec.ofNat 32 (s.rd F.DIO_ON_MAP_ON)

/-- Channels that a latched trip pattern holds off. -/
def tripOffLs (s : State) : BitVec 24 := BitVec.ofNat 24 (bitsWhere (fun n => tripForce s 1 n == some false) 24)
def tripOffDio (s : State) : BitVec 32 := BitVec.ofNat 32 (bitsWhere (fun n => tripForce s 3 n == some false) 32)

/-- Keep STR_HELD with what Stirrup controls. -/
def heldSync (s : State) : State :=
  let all := s.rd F.STR_STAT_STATE != 0
  (s.wr F.STR_HELD_LS_HELD (if all then (~~~s.str.relLs).toNat else 0)).wr F.STR_HELD_DIO_HELD
    (if all then (~~~s.str.relDio).toNat else 0)

/-- The fail-safe code of LSn and of DIOn (Table 14-3). -/
def fsCodeLs (s : State) (n : Nat) : Nat :=
  if n < 16 then s.rd (F.STR_FS_LS_LO_CODE n) else s.rd (F.STR_FS_LS_HI_CODE (n - 16))
def fsCodeDio (s : State) (n : Nat) : Nat :=
  if n < 16 then s.rd (F.STR_FS_DIO_LO_CODE n) else s.rd (F.STR_FS_DIO_HI_CODE (n - 16))

/-- The state that a fail-safe code gives a channel captured at `last` (R350). -/
def fsApply (code : Nat) (last : Bool) : Bool :=
  match code with
  | 0 => false
  | 1 => true
  | _ => last

/-- The fail-safe states of the unreleased channels (R350): OFF for a channel that a trip pattern held off
or that is set in STR_GONE, else its code. -/
def fsLsMap (s : State) : BitVec 24 :=
  BitVec.ofNat 24 (bitsWhere (fun n => !s.str.tripLs.getLsbD n && !s.bit F.STR_GONE_LS_GONE n &&
    fsApply (fsCodeLs s n) (s.bit F.STR_LAST_LS_LAST n)) 24)
def fsDioMap (s : State) : BitVec 32 :=
  BitVec.ofNat 32 (bitsWhere (fun n => !s.str.tripDio.getLsbD n && !s.bit F.STR_GONE_DIO_GONE n &&
    fsApply (fsCodeDio s n) (s.bit F.STR_LAST_DIO_LAST n)) 32)

/-- Keep a hold or fail-safe event among the last 16, as a load-switch record of type 0x03 for channel 0xFF
(R358). -/
def strEvent (s : State) : State :=
  let ev := s.str.events ++ [lsUnitBytes s 3 0xFF 0xFF]
  { s with free := s.free + 4, str := { s.str with events := ev.drop (ev.length - 16) } }

/-- Apply the fail-safe codes in one tick and enter FAILSAFE; channels at PARTNER code of a span member
keep the captured state until STR_PARTNER_TMO (R349, R350). -/
def applyCodes (s : State) : State :=
  let part := s.str.wasSpan
  let s := { s with str := { s.str with
    holdLs := fsLsMap s, holdDio := fsDioMap s, holdTimer := false, partnerTimer := part, partnerAt := s.now,
    partLs := BitVec.ofNat 24 (bitsWhere (fun n => part && fsCodeLs s n == 3 && !s.str.relLs.getLsbD n) 24),
    partDio := BitVec.ofNat 32 (bitsWhere (fun n => part && fsCodeDio s n == 3 && !s.str.relDio.getLsbD n) 32) } }
  let s := strEvent ((s.wr F.STR_STAT_STATE 2).incSat F.STR_CNT_FAILSAFES)
  followAll (heldSync s)

/-- Hold start (R348, R349, R562): capture every output, hold it, return every channel to unreleased, start
the hold timer; a hold window of 0 applies the codes at once. -/
def holdStart (s : State) : State :=
  let s := (s.wr F.STR_LAST_LS_LAST (onLs s).toNat).wr F.STR_LAST_DIO_LAST (onDio s).toNat
  let s := { s with str := { s.str with
    holdLs := onLs s, holdDio := onDio s, relLs := 0, relDio := 0, tripLs := tripOffLs s, tripDio := tripOffDio s,
    partLs := 0, partDio := 0, holdTimer := true, holdAt := s.now, reclaimTimer := false, partnerTimer := false, returned := false } }
  let s := strEvent ((s.wr F.STR_STAT_STATE 1).incSat F.STR_CNT_HOLDS)
  if s.rd F.STR_HOLD_TMO_TMO = 0 then applyCodes s else followAll (heldSync s)

/-- Apply the fail-safe codes at once, ending any hold window (R347, R348, R351). -/
def failsafeNow (s : State) : State :=
  let s := if s.rd F.STR_STAT_STATE = 0 ∨ s.rd F.STR_STAT_STATE = 3 then holdStart s else s
  if s.rd F.STR_STAT_STATE = 2 then s else applyCodes s

end Sys2Proof.Machine
end

