-- ==== Sys2Proof/Machine/CanCore.lean ====
section
/-! DEFINITION. The CAN FD controllers (16_can_fd.md): modes, transmit buffers and their records, error counters,
and the frames that the module's own blocks send. -/

namespace Sys2Proof.Machine

/-- What controller `i` holds beyond its registers, and a change of it. -/
def State.canSt (s : State) (i : Nat) : CanSt := s.can.get i {}
def State.setCan (s : State) (i : Nat) (c : CanSt) : State := { s with can := s.can.set i c }

/-- Buffer `b` of controller `i`. -/
def canBuf (s : State) (i b : Nat) : CanBuf := (s.canSt i).bufs.get b {}
def setCanBuf (s : State) (i b : Nat) (x : CanBuf) : State :=
  s.setCan i { s.canSt i with bufs := (s.canSt i).bufs.set b x }

/-! ## Modes (R379) -/

/-- MODE as the module's mode lets it act: OFF in SEATING, BOOT and QUARANTINE, and in DORMANCY, where the
transceiver listens for a wake. -/
def canMode (s : State) (i : Nat) : Nat :=
  let m := s.mode
  if m == mSEATING || m == mBOOT || m == mQUARANTINE || m == mDORMANCY || !s.girth.vin then 0 else s.rd (F.CAN_CTL_MODE i)

/-- XCVR (Table 16-9): off without VIN, listening in DORMANCY, silent while OFF. -/
def canXcvr (s : State) (i : Nat) : Nat :=
  if !s.girth.vin then 3 else if s.mode == mDORMANCY then 2 else if canMode s i == 0 then 1 else 0

/-- STATE of a buffer (Table 16-4). -/
def bufState (s : State) (i b : Nat) : Nat := s.rd (F.CAN_TXB_STAT_STATE i b)

/-- Put a buffer into a STATE, and count the HELD ones. -/
def bufPut (s : State) (i b st : Nat) : State :=
  let s := s.wr (F.CAN_TXB_STAT_STATE i b) st
  s.wr (F.CAN_STAT_HELD i) ((List.range 64).filter fun k => bufState s i k == 6).length

/-- May controller `i` launch frames now: NORMAL, integrated, neither bus-off nor recovering (R379, R381)? -/
def canSends (s : State) (i : Nat) : Bool :=
  canMode s i == 3 && s.rdB (F.CAN_STAT_SYNCED i) && decide (s.rd (F.CAN_STAT_STATE i) < 2)

/-- Does controller `i` receive valid frames now (R379, R381)? -/
def canHears (s : State) (i : Nat) : Bool :=
  canMode s i != 0 && s.rdB (F.CAN_STAT_SYNCED i) && decide (s.rd (F.CAN_STAT_STATE i) < 2)

/-! ## Frames and buffers -/

/-- Bytes that a DLC stands for (R375). -/
def dlcBytes (fdf : Bool) (d : Nat) : Nat :=
  if d ≤ 8 then d else if !fdf then 8 else [12, 16, 20, 24, 32, 48, 64].getD (d - 9) 64

/-- The smallest DLC that holds `n` bytes. -/
def dlcFor (n : Nat) : Nat :=
  if n ≤ 8 then n else 9 + ([12, 16, 20, 24, 32, 48].filter fun k => decide (k < n)).length

/-- The identifier word of Table 16-5. -/
def canIdWord (f : CanFrame) : Nat := f.id + f.ide.toNat * 2 ^ 29 + f.rtr.toNat * 2 ^ 30

/-- The frame that buffer `b` of controller `i` holds; ESI shows an error-passive controller (R380). -/
def bufFrame (s : State) (i b : Nat) : CanFrame :=
  let fdf := s.rdB (F.CAN_TXB_CTL_FDF i b)
  let dlc := s.rd (F.CAN_TXB_CTL_DLC i b)
  let rtr := s.rdB (F.CAN_TXB_ID_RTR i b)
  let n := if rtr then 0 else dlcBytes fdf dlc
  let all := ((List.range 16).map fun w => le 4 (s.rd (F.CAN_TXB_DATA_DATA i b w))).flatten
  { id := s.rd (F.CAN_TXB_ID_ID i b), ide := s.rdB (F.CAN_TXB_ID_IDE i b), rtr := rtr, fdf := fdf,
    brs := s.rdB (F.CAN_TXB_CTL_BRS i b), esi := fdf && s.rd (F.CAN_STAT_STATE i) == 1, dlc := dlc, data := all.take n }

/-- Put a frame into a buffer. -/
def bufLoad (s : State) (i b : Nat) (f : CanFrame) : State :=
  let s := ((s.wr (F.CAN_TXB_ID_ID i b) f.id).wrB (F.CAN_TXB_ID_IDE i b) f.ide).wrB (F.CAN_TXB_ID_RTR i b) f.rtr
  let s := ((s.wr (F.CAN_TXB_CTL_DLC i b) f.dlc).wrB (F.CAN_TXB_CTL_FDF i b) f.fdf).wrB (F.CAN_TXB_CTL_BRS i b) f.brs
  let w := toWords f.data
  forN (fun k t => t.wr (F.CAN_TXB_DATA_DATA i b k) (w.getD k 0).toNat) 16 s

/-- The place of an identifier in bus arbitration: the smaller number wins (R385). -/
def arbKey (id : Nat) (ide rtr : Bool) : Nat :=
  if ide then id / 2 ^ 18 % 2 ^ 11 * 2 ^ 20 + 2 ^ 19 + id % 2 ^ 18 * 2 + rtr.toNat else id % 2 ^ 11 * 2 ^ 20 + rtr.toNat

/-- The arbitration key of buffer `b`. -/
def bufKey (s : State) (i b : Nat) : Nat :=
  arbKey (s.rd (F.CAN_TXB_ID_ID i b)) (s.rdB (F.CAN_TXB_ID_IDE i b)) (s.rdB (F.CAN_TXB_ID_RTR i b))

/-- The plot that owns buffer `b` of controller `i` (R383). -/
def bufOwner (s : State) (i b : Nat) : Option Nat :=
  (List.range 8).find? fun p =>
    let t := s.rd (F.CAN_PTX_TXBASE i p)
    decide (t ≤ b) && decide (b < t + s.rd (F.CAN_PTX_TXCOUNT i p))

/-- The PENDING buffer that controller `i` offers (R385): the winning identifier, the lower buffer among equals; a
plot that is FROZEN launches none (R482). -/
def canOffer (s : State) (i : Nat) : Option Nat :=
  (List.range 64).foldl (fun a b =>
    if bufState s i b == 1 && !((bufOwner s i b).any fun p => plotHeld s p) then
      match a with
      | none => some b
      | some c => if bufKey s i b < bufKey s i c then some b else some c
    else a) none

/-- The buffer in arbitration or transmission, if any. -/
def canActive (s : State) (i : Nat) : Option Nat := (List.range 64).find? fun b => bufState s i b == 3

/-! ## Records (R390) -/

/-- The 32 bytes of a CAN event record (Table 16-6). -/
def canRecordBytes (type i b2 b3 : Nat) (st : Stamp) (word code : Nat) : List Byte :=
  le 1 type ++ le 1 i ++ le 1 b2 ++ le 1 b3 ++ st.ang.bytes ++ st.pt.bytes ++ le 4 word ++ le 2 code ++ le 4 0

/-- A record of controller `i` to CAN_SYSQ; type 0x12 carries the count of HELD buffers. -/
def canSysRecord (s : State) (i type : Nat) : State :=
  let w := if type = 0x12 then s.rd (F.CAN_STAT_HELD i) else 0
  hwPost s (s.rd (F.CAN_SYSQ_QUEUE i))
    (toWords (canRecordBytes type i (s.rd (F.CAN_ECNT_TEC i)) (s.rd (F.CAN_ECNT_REC i)) s.stamp w 0))

/-- A record of a buffer that became SENT or ABORTED, to its plot's RECQ when REC is set. -/
def bufRecord (s : State) (i b type code : Nat) (st : Stamp) : State :=
  match bufOwner s i b with
  | none => s
  | some p =>
    if s.rdB (F.CAN_TXB_CTL_REC i b) then
      hwPost s (if plotResetting s p then s.rd (F.CAN_SYSQ_QUEUE i) else s.rd (F.CAN_PTX_RECQ i p)) (toWords
        (canRecordBytes type i b (s.rd (F.CAN_TXB_STAT_ATTEMPTS i b)) st (canIdWord (bufFrame s i b)) code))
    else s

/-! ## Ends of a buffer (R386) -/

/-- Load the next waiting frame of the system into its buffer once that buffer is free. -/
def sysNext (s : State) (i b : Nat) : State :=
  let st := bufState s i b
  match (s.canSt i).sys.get b [] with
  | [] => s
  | f :: r =>
    if st == 0 || st == 4 || st == 5 then
      let s := s.setCan i { s.canSt i with sys := (s.canSt i).sys.set b r }
      let s := s.wr (F.CAN_TXB_STAT_ATTEMPTS i b) 0
      bufPut (bufLoad s i b f) i b 1
    else s

/-- A buffer becomes ABORTED with a status; type 0x03 is its record of a missed window. -/
def bufAbort (s : State) (i b type code : Nat) : State :=
  let s := setCanBuf (bufPut s i b 5) i b {}
  sysNext (bufRecord s i b type code s.stamp) i b

/-- ABORT (R386): PENDING, ARMED or HELD ends at once, an ACTIVE buffer at the end of its attempt. -/
def bufAbortReq (s : State) (i b : Nat) : State :=
  let st := bufState s i b
  if st == 1 || st == 2 || st == 6 then bufAbort s i b 2 0
  else if st == 3 then setCanBuf s i b { canBuf s i b with abort := true }
  else s

/-- A block of the module sends a frame from system buffer `b` of controller `i`. -/
def canSystem (s : State) (i b : Nat) (f : CanFrame) : State :=
  sysNext (s.setCan i { s.canSt i with sys := (s.canSt i).sys.set b ((s.canSt i).sys.get b [] ++ [f]) }) i b

/-- Take back what system buffer `b` still has to send. -/
def canSystemAbort (s : State) (i b : Nat) : State :=
  bufAbortReq (s.setCan i { s.canSt i with sys := (s.canSt i).sys.set b [] }) i b

/-- A FUP that is still to be sent is aborted and counted (R162). -/
def fupDrop (s : State) (i : Nat) : State :=
  if s.pt.fupPend.getLsbD i then
    let b := ~~~(BitVec.ofNat 8 (2 ^ i))
    let s := canSystemAbort (s.incSat (F.PT_CANREF_STAT_MISSED i)) i 2
    { s with pt := { s.pt with fupPend := s.pt.fupPend &&& b, syncAcked := s.pt.syncAcked &&& b } }
  else s

/-- Bring controller `i` up to its mode: an OFF controller is out of synchronism and its attempt has ended. -/
def canSync (i : Nat) (s : State) : State :=
  let s := s.wr (F.CAN_STAT_XCVR i) (canXcvr s i)
  if canMode s i = 0 then
    forN (fun b t =>
      if bufState t i b != 3 then t else if (canBuf t i b).abort then bufAbort t i b 2 0 else bufPut t i b 1) 64
      (s.wr (F.CAN_STAT_SYNCED i) 0)
  else s

/-- Bring every controller up to its mode. -/
def canSyncAll (s : State) : State := forN canSync 8 s

/-! ## Error confinement (R380-R382) -/

/-- Waiting frames at bus-off (R382): the frame in transmission and every PENDING buffer become HELD with ERR set, plot
buffers ABORTED with BOFF_FLUSH; ARMED ones stay. -/
def boffBuf (i b : Nat) (s : State) : State :=
  let st := bufState s i b
  if st == 1 || st == 3 then
    let flush := decide (8 ≤ b) && s.rdB (F.CAN_CTL_BOFF_FLUSH i)
    let s := if flush && st == 1 then s else s.wr (F.CAN_TXB_STAT_ERR i b) 1
    if flush then bufAbort s i b 2 0x0120
    else if (canBuf s i b).abort then bufAbort s i b 2 0 else bufPut s i b 6
  else s

/-- Bus-off (R380, R382): TEC has exceeded 255. -/
def canBusOff (s : State) (i : Nat) : State :=
  let s := ((s.wr (F.CAN_STAT_STATE i) 2).wr (F.CAN_ECNT_TEC i) 255).wr (F.CAN_STAT_EWARN i) 1
  let s := (s.wr (F.CAN_FLT_BOFF i) 1).incSat (F.CAN_ERRCNT_BOFF_CNT i)
  canSysRecord (forN (boffBuf i) 64 s) i 0x12

/-- New values of the counters of a controller that is not bus-off, and the state they give. -/
def canCount (s : State) (i tec rec : Nat) : State :=
  if 255 < tec then canBusOff (s.wr (F.CAN_ECNT_REC i) (min rec 255)) i
  else
    let was := s.rd (F.CAN_STAT_STATE i)
    let pas := decide (127 < tec) || decide (127 < rec)
    let s := (s.wr (F.CAN_ECNT_TEC i) tec).wr (F.CAN_ECNT_REC i) (min rec 255)
    let s := s.wrB (F.CAN_STAT_EWARN i) (decide (96 ≤ tec) || decide (96 ≤ rec))
    if pas && was == 0 then canSysRecord ((s.wr (F.CAN_STAT_STATE i) 1).wr (F.CAN_FLT_EPASS i) 1) i 0x10
    else if !pas && was == 1 then canSysRecord (s.wr (F.CAN_STAT_STATE i) 0) i 0x11
    else s

/-- Do the counters of controller `i` move now (Table 16-2)? -/
def canCounts (s : State) (i : Nat) : Bool := canMode s i == 3 && decide (s.rd (F.CAN_STAT_STATE i) < 2)

end Sys2Proof.Machine
end

