-- ==== Sys2Proof/Machine/LoadSwitch.lean ====
section
/-! DEFINITION. The commands of the load switches (13_load_switches.md). -/

namespace Sys2Proof.Machine

/-- Does the requester act for plot `p` (R32: the owning plot, or Stitch on its behalf)? -/
def Req.forPlot (r : Req) (p : Nat) : Bool :=
  match r with
  | .plot k => k.val == p
  | .stitch k _ _ => k.val == p
  | _ => false

/-- Is the requester AC0's supervisor partition, or the Stitch endpoint for a session granted the object? -/
def Req.supOrStitch : Req → Bool
  | .supervisor => true
  | .stitch .. => true
  | _ => false

/-! ## Requests -/

/-- A channel whose ON clears waits for no retry and no return, and its latch clears (R329). -/
def lsDrop (s : State) (m : Nat) : State :=
  let s := lsUnlatch s m
  let s := if lsState s m == 3 then s.wr (F.LS_STAT_STATE m) 0 else s
  s.setLs m { s.lsCh m with stagger := false, retryDue := false, hotOff := false, uvOff := false }

/-- Clear ON of a channel: it clears the latch and the retry count too (R329). -/
def lsClearOn (s : State) (n : Nat) : State :=
  let s := s.wr (F.LS_REQ_ON n) 0
  lsFollow ((lsGroup s (lsLead s n)).foldl lsDrop s) n

/-- Set or clear ON of a channel and make it follow (R319). -/
def lsSetOn (s : State) (n : Nat) (on : Bool) : State :=
  if on then lsFollow (s.wr (F.LS_REQ_ON n) 1) n else lsClearOn s n

/-- Note the tick of a host write of ON (R31, R111). -/
def hostNote (s : State) (k : Nat) : State := { s with trl := { s.trl with hostOn := s.trl.hostOn.set k s.now } }

/-- A host write in the tick of a Trellis action on its channel takes effect in the next tick (R31). -/
def hostLater (s : State) (k : Nat) (on : Bool) : State :=
  { s with trl := { s.trl with hostNext := s.trl.hostNext.set k on.toNat } }

/-- A write of LS_REQ(n).ON (R31, R32, R319, R321, R335). -/
def lsWriteOn (s : State) (r : Req) (n : Nat) (on : Bool) : State :=
  if !r.forPlot (lsOwner s n) then s.status 0x0206
  else if s.rdB (F.LS_STAT_MEMBER n) then s.status 0x0303
  else if on && s.mode == mSERVICE then s.status 0x0303
  else if s.hwHas (F.LS_REQ_ON n) then s.status 0
  else if s.trl.actOn.find? n = some s.now then (hostLater s n on).status 0
  else (lsSetOn (hostNote s n) n on).status 0

/-- LS_REQ_ON (R319). -/
def execLsReqOn (r : Req) (n : Fin 24) (on : Bool) (s : State) : Res :=
  .next (hostWrite s r (F.LS_REQ_ON n).addr (lsWriteOn s r n on))

/-- A write of LS_REQ(n).CLEAR: the latch and the retry count go, ON stays; with ON set the switch-on that
follows is staggered (R329, R330). A channel in RETRY has no latch and waits on. -/
def lsWriteClear (s : State) (r : Req) (n : Nat) : State :=
  if !r.forPlot (lsOwner s n) then s.status 0x0206
  else if s.rdB (F.LS_STAT_MEMBER n) then s.status 0x0303
  else
    let ms := lsGroup s n
    let was := ms.any fun m => lsState s m == 4
    let s := ms.foldl lsUnlatch s
    let s := if was && s.rdB (F.LS_REQ_ON n) then lsStaggered s n false else lsFollow s n
    s.status 0

/-- LS_CLEAR (R329). -/
def execLsClear (r : Req) (n : Fin 24) (s : State) : Res := .next (hostWrite s r (F.LS_REQ_ON n).addr (lsWriteClear s r n))

/-! ## Configuration -/

/-- A member that R335 lets join a group: OFF or LATCHED and in no group. -/
def lsMemberFree (s : State) (m : Nat) : Bool :=
  (lsState s m == 0 || lsState s m == 4) && !s.rdB (F.LS_STAT_MEMBER m) && s.rd (F.LS_CFG_PAR m) == 0

/-- The members besides the lead that a PAR code names (R335). -/
def parMembers (n par : Nat) : List Nat :=
  match par with
  | 2 => [n + 1]
  | 3 => [n + 1, n + 2]
  | _ => []

/-- The checks of a PAR write (R335): the refusal, if there is one. -/
def parRefusal (s : State) (n par : Nat) : Option Nat :=
  let ms := parMembers n par
  if par = 1 then some 0x0303
  else if ms.any fun m => decide (m / 6 ≠ n / 6) then some 0x0303
  else if ms.any fun m => lsOwner s m != lsOwner s n then some 0x0206
  else if ms.any fun m => !lsMemberFree s m then some 0x0303
  else none

/-- Dissolve the group that `n` leads and form the one that `par` names. -/
def lsRegroup (s : State) (n par : Nat) : State :=
  let s := (parMembers n (s.rd (F.LS_CFG_PAR n))).foldl (fun t m => t.wr (F.LS_STAT_MEMBER m) 0) s
  let s := s.wr (F.LS_CFG_PAR n) par
  (parMembers n par).foldl (fun t m => t.wr (F.LS_STAT_MEMBER m) 1) s

/-- A write of LS_CFG(n): owner, membership, OFF or LATCHED, a profile of its own plot, PAR under R335
(R324, R335, R342). -/
def lsWriteCfg (s : State) (r : Req) (n prof par shed : Nat) : State :=
  let st := lsState s n
  if !r.forPlot (lsOwner s n) then s.status 0x0206
  else if s.rdB (F.LS_STAT_MEMBER n) then s.status 0x0303
  else if st != 0 && st != 4 then s.status 0x0303
  else if 8 ≤ prof && s.rd (F.LS_PROF_OWN_OWNER (prof - 8)) != lsOwner s n then s.status 0x0206
  else
    let bare := lsRegroup s n 0
    match parRefusal bare n par with
    | some c => s.status c
    | none => ((lsRegroup bare n par).wr (F.LS_CFG_PROFILE n) prof |>.wr (F.LS_CFG_SHED n) shed).status 0

/-- LS_PARALLEL_SET (R335): a write of LS_CFG(n).PAR with the other fields as they are. -/
def execLsParallelSet (r : Req) (n : Fin 24) (par : Fin 4) (s : State) : Res :=
  .next (hostWrite s r (F.LS_CFG_PAR n).addr (lsWriteCfg s r n (s.rd (F.LS_CFG_PROFILE n.val)) par (s.rd (F.LS_CFG_SHED n.val))))

/-- A write of word `w` of profile `x`: only by the plot that LS_PROF_OWN names; VALID clears (R324). -/
def lsWriteProf (s : State) (r : Req) (x w : Nat) (v : Word) : State :=
  if x < 8 then s.status 0
  else if !r.forPlot (s.rd (F.LS_PROF_OWN_OWNER (x - 8))) then s.status 0x0206
  else ((s.wr (F.LS_PROF_DATA x w) v.toNat).clrBit F.LS_PVALID_VALID x).status 0

/-- LS_PROF_WRITE (R324). -/
def execLsProfWrite (r : Req) (x : Fin 16) (w : Fin 16) (v : Word) (s : State) : Res :=
  .next (hostWrite s r (0x20700800 + 0x40 * x + 4 * w) (lsWriteProf s r x w v))

/-- Is `v` outside [lo, hi]? -/
def outside (v lo hi : Nat) : Bool := decide (v < lo) || decide (hi < v)

/-- The first fault of segment `k` of a profile record, in byte order (Table 13-5, R324). -/
def segFault (b : List Byte) (k : Nat) : Option (Nat × Nat) :=
  let o := 16 + 6 * k
  let act := byteNat b (o + 4)
  if byteNat b 2 ≤ k then
    if halfNat b o != 0 then some (2, k) else if halfNat b (o + 2) != 0 then some (3, k)
    else if act != 0 then some (4, k) else if byteNat b (o + 5) != 0 then some (8, 0) else none
  else if halfNat b o = 0 then some (2, k)
  else if act % 4 != 2 && outside (halfNat b (o + 2)) 50 2000 then some (3, k)
  else if 8 ≤ act || act % 4 == 3 then some (4, k)
  else if byteNat b (o + 5) != 0 then some (8, 0)
  else none

/-- The first fault among segments k, k + 1, ... (`n` of them). -/
def segFaults (b : List Byte) : Nat → Nat → Option (Nat × Nat)
  | 0, _ => none
  | n + 1, k => match segFault b k with
    | some f => some f
    | none => segFaults b n (k + 1)

/-- The first fault of a profile record, as REASON and SEG of LS_PERR (R324, Table 13-4): the header in byte
order, then the segments. -/
def profFault (b : List Byte) : Option (Nat × Nat) :=
  if 15 < byteNat b 0 then some (9, 0)
  else if 8 ≤ byteNat b 1 then some (8, 0)
  else if outside (byteNat b 2) 1 8 then some (1, 0)
  else if 16 ≤ byteNat b 3 then some (8, 0)
  else if outside (halfNat b 4) 10 60000 then some (7, 0)
  else if outside (halfNat b 6) 10 550 then some (5, 0)
  else if outside (halfNat b 8) 1 60000 then some (7, 0)
  else if halfNat b 10 != 0 && outside (halfNat b 10) 4 240 then some (6, 0)
  else if outside (halfNat b 12) 1 60000 then some (7, 0)
  else if halfNat b 14 != 0 then some (8, 0)
  else segFaults b 8 0

/-- Check profile `x` (R324): VALID sets, or LS_PERR names the first fault; the answer is `some` refusal. -/
def lsCheckProf (s : State) (x : Nat) : State :=
  match profFault (lsProfBytes s x) with
  | none => (s.setBit F.LS_PVALID_VALID x).status 0
  | some (reason, seg) =>
    (((s.clrBit F.LS_PVALID_VALID x).wr F.LS_PERR_X x).wr F.LS_PERR_REASON reason |>.wr F.LS_PERR_SEG seg).status 0x0309

/-- A write of `x` to LS_PCHK, by the plot that owns the profile (R342). -/
def lsWritePchk (s : State) (r : Req) (x : Nat) : State :=
  if x < 8 then (if r matches .plot _ | .stitch .. then s.status 0x0206 else s.status 0x0207)
  else if !r.forPlot (s.rd (F.LS_PROF_OWN_OWNER (x - 8))) then s.status 0x0206
  else lsCheckProf s x

/-- LS_PCHK (R324). -/
def execLsPchk (r : Req) (x : Fin 16) (s : State) : Res := .next (hostWrite s r F.LS_PCHK_X.addr (lsWritePchk s r x))

/-! ## Service (R321) -/

/-- End the service operation of a channel. -/
def lsServiceEnd (s : State) (n : Nat) : State := lsFollow (s.setLs n { s.lsCh n with service := false }) n

/-- A write of LS_SVC (R321). -/
def lsWriteSvc (s : State) (r : Req) (n : Nat) (on : Bool) (dur : Nat) : State :=
  if !r.supOrStitch then s.status 0x0207
  else if s.mode != mSERVICE then s.status 0x0303
  else if 24 ≤ n then s.status 0x0301
  else if s.rdB (F.LS_STAT_MEMBER n) then s.status 0x0303
  else if !on then (lsServiceEnd s n).status 0
  else if outside dur 1 600 then s.status 0x0301
  else (lsFollow (s.setLs n { s.lsCh n with service := true, svcEnd := s.now + 80000000 * dur }) n).status 0

/-- LS_SERVICE_ON (R321). -/
def execLsServiceOn (r : Req) (n : Fin 24) (dur : BitVec 16) (s : State) : Res :=
  .next (hostWrite s r F.LS_SVC_CH.addr (lsWriteSvc s r n true dur.toNat))

/-- LS_SERVICE_OFF (R321). -/
def execLsServiceOff (r : Req) (n : Fin 24) (s : State) : Res :=
  .next (hostWrite s r F.LS_SVC_CH.addr (lsWriteSvc s r n false 0))

/-- LS_SERVICE_EXPIRY (R321): DUR seconds have passed. -/
def execLsServiceExpiry (n : Fin 24) (s : State) : Res :=
  .next (if (s.lsCh n).service && decide ((s.lsCh n).svcEnd ≤ s.now) then lsServiceEnd s n else s)

/-! ## Segments and protection -/

/-- The segment whose ceiling holds now: the running one, or the last one in steady state (R323). -/
def lsSegNow (s : State) (n : Nat) : LsSeg :=
  let c := s.lsCh n
  let k := if c.running then s.rd (F.LS_STAT_SEG n) else c.prof.segs.length - 1
  c.prof.segs.getD k ⟨0, 0, 0⟩

/-- An enabled POW entry names channel `n` (R339). -/
def lsPow (s : State) (n : Nat) : Bool :=
  (List.range 16).any fun e => s.rdB (F.POW_CFG_EN e) && s.rd (F.POW_CFG_LS e) == n

/-- Does the present ceiling act as TRIP: the TRIP action, or LIMIT on a POW channel (R323, R339)? -/
def lsTrips (s : State) (n : Nat) : Bool :=
  let a := (lsSegNow s n).action % 4
  a == 1 || (a == 0 && lsPow s n)

/-- SEGMENT_END (R323): the running segment's DUR has passed; the next segment, or the steady state after the last. -/
def execSegmentEnd (n : Fin 24) (s : State) : Res :=
  let c := s.lsCh n
  .next (if c.running && lsConducts (lsState s n) && decide (c.segAt + 8000 * (lsSegNow s n).dur ≤ s.now) then
      let k := s.rd (F.LS_STAT_SEG n.val) + 1
      let s := s.wr (F.LS_STAT_LIMITING n) 0
      if k < c.prof.segs.length then (s.setLs n { c with segAt := s.now }).wr (F.LS_STAT_SEG n) k
      else
        let s := s.setLs n { c with running := false, steadyAt := s.now }
        s.wr (F.LS_STAT_STATE n) (lsOnState s n)
    else s)

/-- SC (R328): the current reached I_SC; acts in every state in which the channel conducts. -/
def execSc (n : Fin 24) (s : State) : Res := .next (lsCut s n 0)

/-- LIM_TRIP (R323): the current exceeded ILIM for 10 µs while the ceiling acts as TRIP. -/
def execLimTrip (n : Fin 24) (s : State) : Res := .next (if lsTrips s n then lsCut s n 1 else s)

/-- The mean of the samples held, µA (R325). -/
def meanOf (l : List Nat) : Nat := if l.isEmpty then 0 else l.sum / l.length

/-- The I²t accumulator after one sample (R323): frozen while a segment runs. -/
def i2tNext (c : LsCh) (amps : Rat) : Rat :=
  let inom : Rat := (c.prof.inom : Rat) / 100
  if c.running then c.acc else max 0 (c.acc + (amps * amps - inom * inom) * (1 / 20000))

/-- The trip level of I²t, A²s (R323). -/
def i2tLevel (p : LsProfile) : Rat :=
  let inom : Rat := (p.inom : Rat) / 100
  3 * inom * inom * ((p.i2tTime : Rat) / 1000)

/-- A temperature in units of 0.1 °C from an exact one. -/
def tenths (t : Rat) : Int := (t * 10).floor

/-- The tick since which every sample of the group that `n` leads lies below OL_THR outside OL_MASK segments, after the newest
samples (R326, R336). -/
def olSinceNext (s : State) (n : Nat) : Option Nat :=
  let c := s.lsCh n
  let sum := ((lsGroup s n).map fun m => (s.lsCh m).samples.headD 0).sum
  if lsConducts (lsState s n) && c.prof.olThr != 0 && !(c.running && (lsSegNow s n).action / 4 % 2 == 1) &&
      decide (sum < 250 * c.prof.olThr) then some (c.olSince.getD s.now) else none

/-- The tick since which the sum of a feed lies above 24.0 A (R318). -/
def feedOverNext (s : State) (feed sum : Nat) : State :=
  if 2400 < sum then { s with lsOver := s.lsOver.set feed (s.lsOver.get feed s.now) }
  else { s with lsOver := s.lsOver.dropRange feed (feed + 1) }

/-- LS_SAMPLE (R318, R323, R325, R331): the die's 50 µs sample of a channel. The operands are what the die
measures: the current in µA, the output voltage in 10 mV, the clamp power in mW, the energy of a
demagnetisation in 10 µJ, the bank temperature in 0.1 °C, whether the limiter regulates, and the feed sum
in 10 mA. -/
def execLsSample (n : Fin 24) (cur : BitVec 25) (vout tbank : BitVec 16) (clampMw clampE feedSum : BitVec 16)
    (limiting : Bool) (s : State) : Res :=
  let i := cur.toNat
  let c := s.lsCh n
  let prev := c.samples.headD 0
  let low := if 60000 < i then false else if prev < 56000 then true else s.rdB (F.LS_STAT_LOW n)
  let amps : Rat := (i : Rat) / 1000000
  let vfeed : Rat := (if n.val < 12 then s.rd F.VL_MON_VLA else s.rd F.VL_MON_VLB : Nat)
  let p : Rat := (vfeed - (toInt 16 vout.toNat : Int)) / 100 * amps + (clampMw.toNat : Rat) / 1000
  let d1 := c.d1 + (3 / 2 * p - c.d1) * (1 / 100)
  let d2 := c.d2 + (8 * p - c.d2) * (1 / 20000)
  let tj := tenths ((toInt 16 tbank.toNat : Int) / 10 + d1 + d2)
  let acc := i2tNext c amps
  let lvl := i2tLevel c.prof
  let used := if lvl = 0 then 0 else (acc * 1000 / lvl).floor.toNat
  let samples := (i :: c.samples).take 20
  let b := lsBank n
  let s := s.setLs n { c with acc := acc, d1 := d1, d2 := d2, samples := samples }
  let s := ((s.wr (F.LS_I_I n) (meanOf samples)).wrB (F.LS_I_LOW n) low).wrB (F.LS_STAT_LOW n) low
  let s := (s.wr (F.LS_VOUT_VOUT n) vout.toNat).wr (F.LS_I2T_USED n) (min 1023 used)
  let peak := max (s.rdI (F.LS_TJ_PEAK n)) tj
  let s := (s.wrI (F.LS_TJ_TJ n) tj).wrI (F.LS_TJ_PEAK n) peak
  let s := if clampE = 0 then s else s.wr (F.LS_CLAMP_E n) clampE.toNat
  let s := feedOverNext (s.wr (if n.val < 12 then F.LS_FEED_IA else F.LS_FEED_IB) feedSum.toNat) (n / 12) feedSum.toNat
  let lead := lsLead s n
  let s := s.setLs lead { s.lsCh lead with olSince := olSinceNext s lead }
  let s := s.wr (F.LS_BANK_TEMP b) tbank.toNat
  let s := if s.rdB (F.LS_BANK_WARN b) && decide (toInt 16 tbank.toNat < 1300) then
      (s.wr (F.LS_BANK_WARN b) 0).degrade (100 + b) false else s
  let s := s.wrB (F.LS_STAT_LIMITING n) (limiting && lsConducts (lsState s n) && (lsSegNow s n).action % 4 == 0 && !lsTrips s n)
  let s := if decide (lvl ≤ acc) && lsConducts (lsState s n) then lsCut s n 2 else s
  let s := if 1700 ≤ tj then lsCut s n 3 else s
  .next (if lsState s n == 7 then lsFollow s lead else s)

/-- A retry whose bank is HOT waits as a return from BANK_HOT and counts none (R341). -/
def lsRetryHot (s : State) (n : Nat) : State :=
  (lsGroup s (lsLead s n)).foldl (fun t m => (t.wr (F.LS_STAT_STATE m) 7).setLs m { t.lsCh m with hotOff := true }) s

/-- LS_RETRY (R328, R330, R340): DELAY has elapsed since the cut-off; with the junction below 130 °C and no Stirrup control
the channel switches on again, staggered within its bank. -/
def execLsRetry (n : Fin 24) (s : State) : Res :=
  let c := s.lsCh n
  .next (if lsState s n == 3 && !strControls s n && decide (s.rdI (F.LS_TJ_TJ n.val) < 1300) &&
      decide (c.cutAt + 80000 * c.prof.delay ≤ s.now) then
      if s.rdB (F.LS_BANK_HOT (lsBank n)) then lsRetryHot s n else lsStaggered s n true
    else s)

/-- RETRY_COUNT_RESET (R328, R366): 10 s on without a cut-off; `dio` picks DIOn, else LSn with n mod 24. -/
def execRetryCountReset (dio : Bool) (n : Fin 32) (s : State) : Res :=
  let k := n.val % 24
  .next (if dio then 
      (if dioState s n == 1 && decide ((s.dioCh n).onAt + 800000000 ≤ s.now) then s.wr (F.DIO_STAT_RETRIES n) 0 else s)
    else if lsState s k == 2 && decide ((s.lsCh k).steadyAt + 800000000 ≤ s.now) then s.wr (F.LS_STAT_RETRIES k) 0 else s)

/-- The lowest channel of a bank whose staggered switch-on can start (R330). -/
def stagNext (s : State) (b : Nat) : Option Nat :=
  ((List.range 6).map (6 * b + ·)).find? fun n =>
    ((s.lsCh n).stagger || (s.lsCh n).hotOff || (s.lsCh n).uvOff) && lsState s n == 7 && lsGroupCond s n &&
      lsProfOk s n && !strControls s n && (lsOverride s n).getD (lsWanted s n)

/-- STAGGER_SWITCH_ON (R330): 5 ms have passed since the bank's previous one. -/
def execStaggerSwitchOn (b : Fin 4) (s : State) : Res :=
  .next (match (if stagFree s b then stagNext s b else none) with
    | none => s
    | some n => lsGo s n)

/-- The channel that R318 sheds: the highest SHED value, then the highest number. -/
def shedPick (s : State) : List Nat → Option Nat
  | [] => none
  | n :: r =>
    if !lsConducts (lsState s n) then shedPick s r
    else match shedPick s r with
      | none => some n
      | some m => if s.rd (F.LS_CFG_SHED m) < s.rd (F.LS_CFG_SHED n) then some n else some m

/-- Has the sum of a feed stayed above 24 A for 20 ms (R318)? -/
def feedOver (s : State) (feed : Nat) : Bool :=
  match s.lsOver.find? feed with
  | some t => decide (t + 1600000 ≤ s.now)
  | none => false

/-- SHED (R318): the feed sum stayed above 24 A for 20 ms; feed 0 is VLA, 1 is VLB. -/
def execShed (feed : Fin 2) (s : State) : Res :=
  .next (match (if feedOver s feed then shedPick s ((List.range 12).map (12 * feed.val + ·)) else none) with
    | none => s
    | some n =>
      let s := { s with lsOver := s.lsOver.set feed s.now }
      let s := s.incSat (if feed.val = 0 then F.LS_SHED_CNT_SHED_A else F.LS_SHED_CNT_SHED_B)
      lsCut (lsRecord s 8 n 5 n) n 5)

/-! ## Open load and output high -/

/-- Has channel `n` shown open load for OL_TIME, with detection not suspended (R326, R340)? -/
def openOnDue (s : State) (n : Nat) : Bool :=
  let c := s.lsCh n
  !s.rdB (F.LS_STAT_MEMBER n) && !s.rdB (F.LS_STAT_SHARED n) && !s.rdB (F.LS_STAT_UV_HELD n) && s.mode != mDORMANCY &&
    decide (c.quietAt + 800000 ≤ s.now) && match c.olSince with
      | some t => decide (t + 80000 * c.prof.olTime ≤ s.now)
      | none => false

/-- OPEN_ON (R326): every sample stayed below OL_THR for OL_TIME; a channel whose OPEN_ON is set is detected already. -/
def execOpenOn (n : Fin 24) (s : State) : Res :=
  .next (if openOnDue s n && lsConducts (lsState s n) && !s.rdB (F.LS_FLT_OPEN_ON n) then
      let s := s.setLs n { s.lsCh n with olSince := some s.now }
      lsRecord ((lsFault s n 7).incSat (F.LS_CNT_OPEN_CNT n)) 4 n 7 n
    else s)

/-- OPEN_OFF (R326): an off channel's output stayed above 4 V for 10 ms with its source on. -/
def execOpenOff (n : Fin 24) (s : State) : Res :=
  .next (if !lsConducts (lsState s n) && (lsProfile s n).flags % 2 == 1 && !s.rdB (F.LS_STAT_EXT_DRIVEN n) &&
      s.mode != mDORMANCY && !s.rdB (F.LS_STAT_MEMBER n) && !s.rdB (F.LS_FLT_OPEN_OFF n) then
      lsRecord ((lsFault s n 8).incSat (F.LS_CNT_OPEN_CNT n)) 4 n 8 n
    else s)

/-- OUT_HIGH (R327): an off channel's output stayed above 8 V for 1 ms; `sense` says that its sense shows
more than 50 mA. -/
def execOutHigh (n : Fin 24) (sense : Bool) (s : State) : Res :=
  .next (if lsConducts (lsState s n) || s.mode == mDORMANCY || s.rdB (F.LS_STAT_MEMBER n) then s
    else if s.girth.spanMember && (s.partner.lsOn.testBit n || s.rdB (F.LS_STAT_SHARED n)) then
      s.wr (F.LS_STAT_EXT_DRIVEN n) 1
    else
      let s := (lsFault s n 9).degrade (200 + n) true
      let s := if sense then (lsFault s n 10).hwFault 0x060B n else s
      lsRecord s 0x0B n (if sense then 10 else 9) n)

/-! ## Banks (R332) -/

/-- BANK_WARN: the sensor reached 135 °C. -/
def execBankWarn (b : Fin 4) (s : State) : Res :=
  .next (if s.rdB (F.LS_BANK_WARN b) then s else ((s.wr (F.LS_BANK_WARN b) 1).setBit F.LS_BANK_FLT_WARN_SEEN b).degrade (100 + b) true)

/-- BANK_HOT: the sensor reached 150 °C; every conducting channel of the bank is cut off, without a retry. -/
def execBankHot (b : Fin 4) (s : State) : Res :=
  if s.rdB (F.LS_BANK_HOT b) then .next s
  else
  let s := (s.wr (F.LS_BANK_HOT b) 1).setBit F.LS_BANK_FLT_HOT_SEEN b
  let s := lsUnitRecord s 6 (b + 0x80) 4
  .next (((List.range 6).map (6 * b.val + ·)).foldl (fun t n => lsCutOne 4 n t) s)

/-- BANK_NORMAL: the sensor fell below 125 °C; HOT clears and channels with ON set return under R330. -/
def execBankNormal (b : Fin 4) (s : State) : Res :=
  if !s.rdB (F.LS_BANK_HOT b) then .next s
  else
    let s := lsUnitRecord (s.wr (F.LS_BANK_HOT b) 0) 7 (b + 0x80) 0xFF
    .next (((List.range 6).map (6 * b.val + ·)).foldl (fun t n =>
      if lsState t n == 7 && !strControls t n then lsStaggered t n false
      else if (t.lsCh n).hotOff && lsState t n == 0 then t.setLs n { t.lsCh n with hotOff := false }
      else t) s)

/-! ## Make-before-break release (R338) -/

/-- LS_RELEASE_REQUEST: the partner sends a channel; this module switches its own on with the configuration
that came with the plot, and confirms once it conducts. -/
def execLsReleaseRequest (n : Fin 24) (s : State) : Res :=
  if !s.rdB F.XL_STAT_LINK || s.girth.unpaired then .next s else
  let s := { s with girth := { s.girth with ownLs := s.girth.ownLs ||| BitVec.ofNat 24 (2 ^ n.val) } }
  let s := subSync (s.clrBit F.STR_GONE_LS_GONE n)
  let s := lsFollow (s.hwWr (F.LS_REQ_ON n) 1) n
  .next (if lsConducts (lsState s n) then
      ((s.setLs n { s.lsCh n with relAt := s.now }).wr (F.LS_STAT_SHARED n) 1).emit (.xl (.lsConfirm n))
    else s)

/-- LS_RELEASE_CONFIRM: the partner's confirmation of an offered channel arrives and SHARED sets. -/
def execLsReleaseConfirm (n : Fin 24) (s : State) : Res :=
  .next (if s.girth.offered.getLsbD n then
      (s.wr (F.LS_STAT_SHARED n) 1).setLs n { s.lsCh n with releasing := true, relAt := s.now }
    else s)

/-- OVERLAP since the confirmation of channel `n`, 0 taken as 1 (R338). -/
def overlapOver (s : State) (n : Nat) : Bool :=
  decide ((s.lsCh n).relAt + 8000 * max 1 (s.rd F.LS_SPAN_OVERLAP) ≤ s.now)

/-- LS_OVERLAP_END: OVERLAP after the confirmation the releasing module turns its channel off, and the channel
is the partner's now; at the side that took it SHARED clears (R338, R356). -/
def execLsOverlapEnd (n : Fin 24) (s : State) : Res :=
  if !s.rdB (F.LS_STAT_SHARED n) || !overlapOver s n then .next s
  else if !(s.lsCh n).releasing then
    .next ((s.setLs n { s.lsCh n with quietAt := s.now }).wr (F.LS_STAT_SHARED n) 0)
  else
    let s := s.setLs n { s.lsCh n with releasing := false, quietAt := s.now }
    let bit := BitVec.ofNat 24 (2 ^ n.val)
    let s := { s with girth := { s.girth with ownLs := s.girth.ownLs &&& ~~~bit, offered := s.girth.offered &&& ~~~bit } }
    let s := (lsClearOn (s.wr (F.LS_STAT_SHARED n) 0) n).hwWr (F.LS_REQ_ON n) 0
    .next (subSync ((s.setBit F.STR_GONE_LS_GONE n).wr (F.LS_STAT_EXT_DRIVEN n) 1))

/-! ## Feeds (R70, R334) -/

/-- What a feed's undervoltage does to one of its channels (R334). -/
def lsFeedLost (n : Nat) (s : State) : State :=
  if !lsConducts (lsState s n) then lsUpdate n s
  else if (s.lsCh n).prof.flags / 2 % 2 = 1 then
    let s := lsSwitchOff s n (if lsWanted s n then 7 else 0)
    s.setLs n { s.lsCh n with uvOff := true }
  else s.wr (F.LS_STAT_UV_HELD n) 1

/-- What the return of a feed does to one of its channels (R334): UV_HELD channels restart their profile at
segment 0 while they conduct, UVOFF channels return under R330. -/
def lsFeedBack (n : Nat) (s : State) : State :=
  if s.rdB (F.LS_STAT_UV_HELD n) && lsConducts (lsState s n) then
    let s := (s.wr (F.LS_STAT_UV_HELD n) 0).wr (F.LS_STAT_SEG n) 0
    let s := s.setLs n { s.lsCh n with running := true, segAt := s.now, quietAt := s.now }
    s.wr (F.LS_STAT_STATE n) (lsOnState s n)
  else if (s.lsCh n).uvOff && lsState s n == 7 && !strControls s n then
    lsStaggered (s.setLs n { s.lsCh n with uvOff := false }) n false
  else lsUpdate n s

end Sys2Proof.Machine
end

