-- ==== Sys2Proof/Machine/Tick.lean ====
section
/-! DEFINITION. One tick of 12.5 ns with no command: what the clock alone moves (log entry 11). -/

namespace Sys2Proof.Machine

/-- INC of R115 as TRL_INC shows it, a 48-bit number of 2^-32 ac. -/
def incOf (s : State) : Nat := s.rd F.TRL_INC_INT_INT * 2 ^ 32 + s.rd F.TRL_INC_FRAC_FRAC

/-- The 96-bit phase accumulator of R115 as one number. -/
def accOf (t : TrellisSt) : Nat := t.cyc.toNat * 2 ^ 64 + t.ang.toNat * 2 ^ 32 + t.frac.toNat

/-- The accumulator one tick later (R115): INC is added, carries run up into the cycle number. -/
def accTick (s : State) : State :=
  let a := accOf s.trl + incOf s
  { s with trl := { s.trl with
      cyc := BitVec.ofNat 32 (a / 2 ^ 64), ang := BitVec.ofNat 32 (a / 2 ^ 32), frac := BitVec.ofNat 32 a, incWas := incOf s } }

/-- Show an increment in TRL_INC. -/
def setInc (s : State) (i : Nat) : State := (s.wr F.TRL_INC_INT_INT (i / 2 ^ 32)).wr F.TRL_INC_FRAC_FRAC i

/-- What a tick takes off the error that is being slewed out; at zero INC is the tracked frequency's again (R124). -/
def slewTick (s : State) : State :=
  if s.rdB F.TRL_STAT_SLEWING && s.trl.slewErr != 0 then
    let e := s.trl.slewErr
    let d : Int := (incOf s : Int) - s.trl.base.toNat
    if e.natAbs ≤ d.natAbs then setInc { s with trl := { s.trl with slewErr := 0 } } s.trl.base.toNat
    else { s with trl := { s.trl with slewErr := e - d } }
  else s

/-- PT_ADDEND of R147, a 40-bit number of 2^-32 ns. -/
def addendOf (s : State) : Nat := s.rd F.PT_ADDEND_INT_INT * 2 ^ 32 + s.rd F.PT_ADDEND_FRAC_FRAC

/-- Plant time one tick later (R147): PT_ADDEND is added, nanoseconds carry into seconds at 10^9. -/
def ptTick (s : State) : State :=
  let s := { s with trl := { s.trl with addWas := addendOf s } }
  if s.pt.running then
    let f := s.pt.ns.toNat * 2 ^ 32 + s.pt.frac.toNat + addendOf s
    let ns := f / 2 ^ 32
    { s with pt := { s.pt with
        frac := BitVec.ofNat 32 f, ns := BitVec.ofNat 30 (ns % 1000000000),
        sec := s.pt.sec + BitVec.ofNat 48 (ns / 1000000000) } }
  else s

/-- SLS_ARM falls in the tick after a trip (Table 2-10). -/
def armTick (s : State) : State :=
  if s.pom.armDrop then
    subSync (State.wr { s with pom := { s.pom with armDrop := false } } F.POM_STAT_ARM 0)
  else s

/-- One tick: the stamp and plant time advance, revoked credits return. -/
def tick (s : State) : State :=
  let s := { s with now := s.now + 1, upd := [], arb := s.arb.map fun e => (e.1, (e.2.2, e.2.2)) }
  armTick (furTick (ptTick (slewTick (accTick s))))

end Sys2Proof.Machine
end

