-- ==== Sys2Proof/Machine/Pow.lean ====
section
/-! DEFINITION. Point-on-wave entries (R140-R143): their registers, the learning rule and its timeout. -/

namespace Sys2Proof.Machine

/-! ## Estimates -/

/-- The estimate of entry `e`: POW_OP for closing, POW_REL for opening (R141). -/
def powEst (e : Nat) (close : Bool) : Field := if close then F.POW_OP_OP e else F.POW_REL_REL e

/-- The count of accepted measurements of that estimate. -/
def powCnt (e : Nat) (close : Bool) : Field := if close then F.POW_CNT_OP_CNT e else F.POW_CNT_REL_CNT e

/-- The key of that estimate in the model's same-tick bookkeeping (R143). -/
def powKey (e : Nat) (close : Bool) : Nat := 2 * e + (!close).toNat

/-- OFS in ticks (R142). -/
def powOfs (s : State) (e : Nat) (close : Bool) : Int :=
  80 * s.rdI (if close then F.POW_AUXOFS_CLOSE_OFS e else F.POW_AUXOFS_OPEN_OFS e)

/-- REJECT in ticks (R142). -/
def powRej (s : State) (e : Nat) : Int := 80 * (s.rd (F.POW_REJECT_REJECT e) : Int)

/-- The plot that owns entry `e`: the owner of its LS channel (R140). -/
def powOwner (s : State) (e : Nat) : Nat := lsOwner s (s.rd (F.POW_CFG_LS e))

/-- The quotient rounded to the nearest integer; `up` decides an exact tie, which no rule settles. -/
def nearest (num : Int) (den : Nat) (up : Bool) : Int :=
  let q := num / den
  let r := 2 * (num % den)
  if r < den then q else if den < r then q + 1 else if up then q + 1 else q

/-- Is the quotient an exact tie? -/
def isTie (num : Int) (den : Nat) : Bool := 2 * (num % den) == (den : Int)

/-! ## Records (Table 5-6) -/

/-- The 32 bytes of a Trellis event record. -/
def trlRecordBytes (slot action flags : Nat) (target : AStamp) (eff : Stamp) (offset : Nat) : List Byte :=
  le 2 slot ++ le 1 action ++ le 1 flags ++ target.bytes ++ eff.ang.bytes ++ eff.pt.bytes ++ le 1 offset ++ le 1 0

/-- The record of an operation, into the record queue of the entry's plot (R142). -/
def powRecord (s : State) (e : Nat) (m : PowMeas) : State :=
  let p := powOwner s e
  if p < 8 then
    hwPost s (s.rd (F.TRL_PART_QUEUE p)) (toWords (trlRecordBytes m.slot (if m.close then 0x10 else 0x11)
      m.flags m.target m.effect m.offset))
  else s

/-! ## Learning (R142) -/

/-- The measurement of entry `e` ends. -/
def powEnd (s : State) (e : Nat) : State :=
  { s with trl := { s.trl with pow := s.trl.pow.dropRange e (e + 1) } }

/-- A timeout of the measurement: TMO_CNT, the operation's record, and the status 0x0404 of R142, which the model keeps as a
recorded event that names the entry (DESIGN CHOICE, log entry 13). -/
def powTimeout (s : State) (e : Nat) (m : PowMeas) : State :=
  let s := (s.incSat (F.POW_REJ_TMO_CNT e)).hwFault 0x0404 e
  powEnd (powRecord s e m) e

/-- Abandon a running measurement and count it as a timeout (R140, Table 5-8). -/
def powAbandon (s : State) (e : Nat) : State :=
  match s.trl.pow.find? e with
  | none => s
  | some m => powTimeout s e m

/-- LAST_ERR = (m − E_used) · INC in ac, rounded to nearest; a value outside 32 bits is free (log entry 13). -/
def powLastErr (s : State) (diff : Int) : Nat :=
  let x := diff * (incOf s : Int)
  let y := nearest x (2 ^ 32) (s.freeNat 1 == 1)
  if -(2 ^ 31) ≤ y ∧ y < 2 ^ 31 then ofInt 32 y else s.freeNat 32

/-- The update of the estimate by an accepted measurement `m`: count, estimate, LAST_ERR. -/
def powAccept (s : State) (e : Nat) (k : PowMeas) (m : Int) : State :=
  let n1 := max (s.rd (F.POW_CFG_LEARN_MIN e)) 1
  let cnt := s.rd (powCnt e k.close) + 1
  let g := if cnt ≤ n1 then cnt else 2 ^ s.rd (F.POW_CFG_K e)
  let est : Int := s.rd (powEst e k.close)
  let new := est + nearest (m - est) g (s.freeNat 1 == 1)
  let s := if isTie (m - est) g then s.took else s
  let key := powKey e k.close
  let old := s.rd (F.POW_LAST_ERR_ERR e)
  let s := s.incSat (powCnt e k.close)
  let s := s.wr (powEst e k.close) new.toNat
  let s := (s.wr (F.POW_LAST_ERR_ERR e) (powLastErr s (m - k.eUsed))).took
  { s with trl := { s.trl with powUpd := s.trl.powUpd.set key (s.now, old) } }

/-- The rule of R142 for an edge stamped at tick `t1`: range, REJECT, acceptance; a host write of the
estimate in the same tick discards the whole update (R143). The operation's record is written in each case. -/
def powLearn (s : State) (e : Nat) (k : PowMeas) (t1 : Int) : State :=
  let m := t1 + powOfs s e k.close - k.t0
  let n1 := max (s.rd (F.POW_CFG_LEARN_MIN e)) 1
  let est : Int := s.rd (powEst e k.close)
  let s :=
    if s.trl.powHost.find? (powKey e k.close) = some s.now then s
    else if m < 80000 ∨ 8000000 < m then s.incSat (F.POW_REJ_REJ_CNT e)
    else if n1 ≤ s.rd (powCnt e k.close) ∧ powRej s e < |m - est| then s.incSat (F.POW_REJ_REJ_CNT e)
    else powAccept s e k m
  powEnd (powRecord s e k) e

/-- The auxiliary edge direction that entry `e` waits for: with AUX_POL 0 the contact closes with the main
contacts (R140). -/
def powWantsRise (s : State) (e : Nat) (k : PowMeas) : Bool := k.close != s.rdB (F.POW_CFG_AUX_POL e)

/-- An accepted edge on DIOn, stamped at tick `t1`, meets entry `e` (R142, Table 5-8): an edge before t0 or
after the bound is not taken. -/
def powEdge (n : Nat) (rise : Bool) (t1 : Int) (e : Nat) (s : State) : State :=
  match s.trl.pow.find? e with
  | none => s
  | some k =>
    let bound := (k.t0 : Int) + k.eUsed - powOfs s e k.close + powRej s e
    if s.rdB (F.POW_CFG_EN e) && s.rd (F.POW_CFG_AUX_DIO e) == n && rise == powWantsRise s e k &&
        decide ((k.t0 : Int) ≤ t1) && decide (t1 ≤ bound) then powLearn s e k t1
    else s

/-- POW_AUX_TIMEOUT (R142): the bound has been passed by the auxiliary channel's DEB plus 2 µs without an accepted edge. -/
def execPowAuxTimeout (e : Fin 16) (s : State) : Res :=
  .next (match s.trl.pow.find? e with
    | none => s
    | some k =>
      let bound := (k.t0 : Int) + k.eUsed - powOfs s e k.close + powRej s e
      let deb : Int := s.rd (F.DIO_DEB_DEB (s.rd (F.POW_CFG_AUX_DIO e.val)))
      if (s.now : Int) < bound + 80 * (deb + 2) then s else powTimeout s e k)

/-- A POW operation starts its measurement at the tick of the coil change; a measurement still awaiting its
edge is abandoned as a timeout first (Table 5-8). -/
def powStart (s : State) (e : Nat) (k : PowMeas) : State :=
  let s := powAbandon s e
  { s with trl := { s.trl with pow := s.trl.pow.set e k } }

/-! ## Register writes (R140, R143) -/

/-- The checks of a POW_CFG write: the refusal, if there is one (R140). -/
def powCfgRefusal (s : State) (r : Req) (e ls aux pol en : Nat) : Option Nat :=
  let cur := s.rd (F.POW_CFG_LS e)
  let own := lsOwner s ls
  let curOwn := lsOwner s cur
  if s.rdB (F.POW_CFG_EN e) && (ls != cur || aux != s.rd (F.POW_CFG_AUX_DIO e) || pol != s.rd (F.POW_CFG_AUX_POL e)) then
    some 0x0303
  else if 24 ≤ ls then some 0x0206
  else if !r.forPlot own || !(curOwn == own || 8 ≤ curOwn) then some 0x0206
  else if en == 1 && dioOwner s aux != own then some 0x0206
  else none

/-- A write of the POW_CFG word; clearing EN abandons a running measurement (R140). -/
def powWriteCfg (s : State) (r : Req) (e v : Nat) : State :=
  let en := (F.POW_CFG_EN e).slice v
  match powCfgRefusal s r e ((F.POW_CFG_LS e).slice v) ((F.POW_CFG_AUX_DIO e).slice v) ((F.POW_CFG_AUX_POL e).slice v)
      en with
  | some c => s.status c
  | none =>
    let s := if s.rdB (F.POW_CFG_EN e) && en == 0 then powAbandon s e else s
    (s.writeWord (F.POW_CFG_LS e).addr v).status 0

/-- POW_CFG_WRITE (R140). -/
def execPowCfgWrite (r : Req) (e : Fin 16) (v : Word) (s : State) : Res :=
  .next (hostWrite s r (F.POW_CFG_LS e).addr (powWriteCfg s r e v.toNat))

/-- A host write of an estimate: the count clears; a learning update of the same tick is discarded (R143). -/
def powWriteEst (s : State) (r : Req) (e v : Nat) (close : Bool) : State :=
  if !r.forPlot (powOwner s e) then s.status 0x0206
  else
    let key := powKey e close
    let s := match s.trl.powUpd.find? key with
      | some (t, old) => if t = s.now then s.wr (F.POW_LAST_ERR_ERR e) old else s
      | none => s
    let s := (s.wr (powEst e close) v).wr (powCnt e close) 0
    State.status { s with trl := { s.trl with powHost := s.trl.powHost.set key s.now } } 0

/-- POW_OP_WRITE (R142, R143). -/
def execPowOpWrite (r : Req) (e : Fin 16) (v : Word) (s : State) : Res :=
  .next (hostWrite s r (F.POW_OP_OP e).addr (powWriteEst s r e v.toNat true))

/-- POW_REL_WRITE (R142, R143). -/
def execPowRelWrite (r : Req) (e : Fin 16) (v : Word) (s : State) : Res :=
  .next (hostWrite s r (F.POW_REL_REL e).addr (powWriteEst s r e v.toNat false))

/-- A write of POW_AUXOFS or POW_REJECT (R140). -/
def powWriteOther (s : State) (r : Req) (e a v : Nat) : State :=
  if !r.forPlot (powOwner s e) then s.status 0x0206 else (s.writeWord a v).status 0

/-- Store one number in the settings area. -/
def setSetting (s : State) (index sub v : Nat) : State :=
  { s with settings := s.settings.set (objKey index sub) v }

/-- Write the learned values of every entry into the settings area (R143), once flash may be written (R75). -/
def powSave (s : State) : State :=
  if !flashOk s then s
  else
  let s := { s with trl := { s.trl with powSaved := some s.now } }
  forN (fun e t => setSetting (setSetting t (0x4010 + e) 9 (t.rd (F.POW_OP_OP e))) (0x4010 + e) 10
    (t.rd (F.POW_REL_REL e))) 16 s

/-- POW_LEARN_SAVE (R143): at most once an hour, and on entry to HANDOFF. -/
def execPowLearnSave (s : State) : Res :=
  let due := match s.trl.powSaved with
    | none => true
    | some t => decide (t + 288000000000 ≤ s.now)
  .next (if due || s.mode == mHANDOFF then powSave s else s)

end Sys2Proof.Machine
end

