-- ==== Sys2Proof/Machine/Dio.lean ====
section
/-! DEFINITION. The commands of the field I/O (15_field_io.md). -/

namespace Sys2Proof.Machine

/-! ## Inputs and edges (R361-R364) -/

/-- The present stamp moved back by `k` ticks at the present increments (R362). -/
def stampBack (s : State) (k : Nat) : Stamp :=
  let a := (accOf s.trl + 2 ^ 96 - k * incOf s % 2 ^ 96) % 2 ^ 96
  let p := s.pt.sec.toNat * (1000000000 * 2 ^ 32) + s.pt.ns.toNat * 2 ^ 32 + s.pt.frac.toNat
  let q := (if s.pt.running then p - k * addendOf s else p) / 2 ^ 32
  ⟨PTime.ofNs q, ⟨BitVec.ofNat 32 (a / 2 ^ 64), BitVec.ofNat 32 (a / 2 ^ 32)⟩⟩

/-- Are the DIO inputs active (Table 2-6)? -/
def dioInputs (s : State) : Bool :=
  s.mode != 0 && s.mode != mSEATING && s.mode != mDORMANCY && s.mode != mQUARANTINE

/-- DIO_RAW_TRANSITION (R362): the raw level of DIOn becomes `level`; the first transition away from the
filtered level leaves the stamp, less 80 ticks. In the modes of Table 2-6 in which the inputs are off, and in DORMANCY, where the SoC block does not run (R364), nothing
comes of it. -/
def execDioRawTransition (n : Fin 32) (level : Bool) (s : State) : Res :=
  if !dioInputs s || level == s.rdB (F.DIO_STAT_RAW n) then .next s
  else
    let c := s.dioCh n
    let s := s.wrB (F.DIO_STAT_RAW n) level
    .next (match c.mark with
      | some _ => s.setDio n { c with raws := c.raws + 1, rawAt := s.now }
      | none =>
        if level == s.rdB (F.DIO_STAT_LEVEL n) then s
        else s.setDio n { c with mark := some (stampBack s 80), markTick := s.now, raws := 1, rawAt := s.now })

/-- An enabled POW entry names DIOn as its auxiliary input. -/
def dioPow (s : State) (n : Nat) : Bool :=
  (List.range 16).any fun e => s.rdB (F.POW_CFG_EN e) && s.rd (F.POW_CFG_AUX_DIO e) == n

/-- The accepted edge of DIOn: filtered level, edge registers, count, record, learning (R362). -/
def dioAccept (s : State) (n : Nat) (st : Stamp) : State :=
  let c := s.dioCh n
  let rise := s.rdB (F.DIO_STAT_RAW n)
  let s := (s.wrB (F.DIO_STAT_LEVEL n) rise).putBit F.DIO_LEVEL_LEVEL n rise
  let s := s.setDio n { c with edge := st, rise := rise, edges := (c.edges + 1) % 65536 }
  let s := s.wr (F.DIO_EDGE_CYC_CYC n) st.ang.cycle.toNat
  let sel := s.rd (F.DIO_CFG_EDGE n)
  let s := if sel.testBit (if rise then 0 else 1) then dioRecord s (if rise then 1 else 2) 0xFF n st else s
  let s := s.setDio n { s.dioCh n with mark := none, raws := 0 }
  forN (powEdge n rise ((c.markTick : Int) - 80)) 16 s

/-- DIO_EDGE_ACCEPT (R362, Table 15-4): DEB has passed without a raw transition. At the opposite level the
edge is accepted; back at the filtered level the departure is discarded with its stamp. A broken wire of a
POW input accepts no edge. -/
def execDioEdgeAccept (n : Fin 32) (s : State) : Res :=
  let c := s.dioCh n
  .next (match c.mark with
    | none => s
    | some st =>
      if !dioInputs s || decide (s.now < c.rawAt + 80 * max 1 (s.rd (F.DIO_DEB_DEB n.val))) then s
      else if s.rdB (F.DIO_STAT_RAW n) == s.rdB (F.DIO_STAT_LEVEL n) then
        s.setDio n { c with mark := none, raws := 0 }
      else if s.rdB (F.DIO_FLT_WIRE_BREAK n) && dioPow s n then s
      else dioAccept s n st)

/-- The edge registers of DIOn latched by a read of DIO_EDGE_CYC (Table 15-5). -/
def dioEdgeLatch (s : State) (n : Nat) : State :=
  let c := s.dioCh n
  let s := (s.wr (F.DIO_EDGE_ANG_ANG n) c.edge.ang.angle.toNat).wr (F.DIO_EDGE_NS_NS n) c.edge.pt.ns.toNat
  let s := (s.wrB (F.DIO_EDGE_NS_RISE n) c.rise).wr (F.DIO_EDGE_S_LO_S_LO n) c.edge.pt.sec.toNat
  let s := (s.wr (F.DIO_EDGE_S_HI_S_HI n) (c.edge.pt.sec.toNat / 2 ^ 32)).wr (F.DIO_EDGE_S_HI_EDGES n) c.edges
  s.answer 0 (s.rd (F.DIO_EDGE_CYC_CYC n))

/-- DIO_EDGE_CYC_READ (R373). -/
def execDioEdgeCycRead (n : Fin 32) (s : State) : Res :=
  .next (if windowDead s (F.DIO_EDGE_CYC_CYC n).addr then s.status 0x0610 else dioEdgeLatch s n)

/-- DIOn reports DEGRADED while OUT_HIGH, OUT_LOW or WIRE_BREAK is set (R363, R367). -/
def dioDegrade (s : State) (n : Nat) : State :=
  s.degrade (300 + n) (s.rdB (F.DIO_FLT_OUT_HIGH n) || s.rdB (F.DIO_FLT_OUT_LOW n) || s.rdB (F.DIO_FLT_WIRE_BREAK n))

/-- Set a fault of DIOn and write its record. -/
def dioRaise (s : State) (n bit type : Nat) : State :=
  dioRecord (dioDegrade (dioFault s n bit true) n) type bit n s.stamp

/-- WIRE_BREAK (R363). -/
def execWireBreak (n : Fin 32) (s : State) : Res :=
  .next (if dioInputs s && !s.rdB (F.DIO_CFG_DIR n) && s.rdB (F.DIO_CFG_WB_EN n) && !s.rdB (F.DIO_FLT_WIRE_BREAK n) then
      dioRaise s n 5 9
    else s)

/-- WIRE_RESTORED (R363). -/
def execWireRestored (n : Fin 32) (s : State) : Res :=
  .next (if s.rdB (F.DIO_FLT_WIRE_BREAK n) then
      dioRecord (dioDegrade (dioFault s n 5 false) n) 0x0A 5 n s.stamp
    else s)

/-! ## Requests (R365, R366, R368) -/

/-- Clear the latch and the retry count of an output, with a record of type 0x0B (R366, R371). -/
def dioUnlatch (s : State) (n : Nat) : State :=
  let s := s.wr (F.DIO_STAT_RETRIES n) 0
  if dioState s n == 3 then dioRecord (dioPut s n 0) 0x0B 0xFF n s.stamp else s

/-- An output whose ON clears waits for no retry, and its latch clears (R366). -/
def dioDrop (s : State) (n : Nat) : State :=
  let s := dioUnlatch s n
  if dioState s n == 2 then dioPut s n 0 else s

/-- Set or clear ON: a change ends a Trellis action that stood over the FCL, clearing ON clears the latch,
and the output follows (R365, R366). -/
def dioSetOn (s : State) (n : Nat) (on : Bool) : State :=
  let s := if s.rdB (F.DIO_REQ_ON n) == on then s else s.setDio n { s.dioCh n with overFcl := none }
  let s := s.wrB (F.DIO_REQ_ON n) on
  dioFollow (if on then s else (dioGroup s (dioLead s n)).foldl dioDrop s) n

/-- A write of DIO_REQ(n).ON (R32, R365, R368, R369). -/
def dioWriteOn (s : State) (r : Req) (n : Nat) (on : Bool) : State :=
  if !r.forPlot (dioOwner s n) then s.status 0x0206
  else if s.rdB (F.DIO_STAT_MEMBER n) then s.status 0x0303
  else if on && s.mode == mSERVICE then s.status 0x0303
  else
    let c := s.dioCh n
    let s := if c.pulse then s.setDio n { c with pulseHost := true } else s
    if s.hwHas (F.DIO_REQ_ON n) then s.status 0
    else if s.trl.actOn.find? (32 + n) = some s.now then (hostLater s (32 + n) on).status 0
    else (dioSetOn (hostNote s (32 + n)) n on).status 0

/-- DIO_REQ_ON (R365). -/
def execDioReqOn (r : Req) (n : Fin 32) (on : Bool) (s : State) : Res :=
  .next (hostWrite s r (F.DIO_REQ_ON n).addr (dioWriteOn s r n on))

/-- A write of DIO_REQ(n).CLEAR (R366); an output in RETRY has no latch and waits on. -/
def dioWriteClear (s : State) (r : Req) (n : Nat) : State :=
  if !r.forPlot (dioOwner s n) then s.status 0x0206
  else if s.rdB (F.DIO_STAT_MEMBER n) then s.status 0x0303
  else (dioFollow ((dioGroup s n).foldl dioUnlatch s) n).status 0

/-- DIO_CLEAR (R366). -/
def execDioClear (r : Req) (n : Fin 32) (s : State) : Res := .next (hostWrite s r (F.DIO_REQ_ON n).addr (dioWriteClear s r n))

/-! ## Protection (R366, R367) -/

/-- Cut one output off: to RETRY while retries remain, else latched. -/
def dioCutOne (cause n : Nat) (s : State) : State :=
  if !dioConducts (dioState s n) then s
  else
    let s := dioRecord (dioFault (s.setDio n { s.dioCh n with cutAt := s.now }) n cause true) 3 cause n s.stamp
    if s.rd (F.DIO_STAT_RETRIES n) < s.rd (F.DIO_CFG_RETRY (dioLead s n)) then dioPut s n 2
    else dioRecord (dioPut s n 3) 5 cause n s.stamp

/-- Cut an output off, and every member of its group with it (R366, R368). -/
def dioCut (s : State) (n cause : Nat) : State :=
  (dioGroup s (dioLead s n)).foldl (fun t m => dioCutOne cause m t) s

/-- DIO_LIMIT (R366): LIM_TIME in current limit. -/
def execDioLimit (n : Fin 32) (s : State) : Res := .next (dioCut s n 0)

/-- DIO_THERM (R366). -/
def execDioTherm (n : Fin 32) (s : State) : Res := .next (dioCut s n 1)

/-- Does Stirrup's hold or pattern control DIOn now? -/
def strControlsDio (s : State) (n : Nat) : Bool := s.rd F.STR_STAT_STATE != 0 && !s.str.relDio.getLsbD n

/-- A retry of one output in RETRY: it is counted, and the output follows its sources. -/
def dioRetryOne (n : Nat) (s : State) : State :=
  if dioState s n != 2 then s
  else
    let s := (s.wr (F.DIO_STAT_RETRIES n) (s.rd (F.DIO_STAT_RETRIES n) + 1)).wr (F.DIO_STAT_STATE n) 0
    dioUpdate n (dioRecord s 4 0xFF n s.stamp)

/-- DIO_RETRY (R366, R368): 100 ms after the cut-off the output switches on again with its group, or latches when no retry
is left. -/
def execDioRetry (n : Fin 32) (s : State) : Res :=
  .next (if dioState s n != 2 || strControlsDio s n || decide (s.now < (s.dioCh n).cutAt + 8000000) then s
    else if s.rd (F.DIO_STAT_RETRIES n.val) < s.rd (F.DIO_CFG_RETRY (dioLead s n)) then
      (dioGroup s (dioLead s n)).foldl (fun t m => dioRetryOne m t) s
    else dioRecord (dioPut s n 3) 5 0xFF n s.stamp)

/-- DIO_READBACK_FAULT (R367): for 1 ms the readback of an output disagreed with its command. -/
def execDioReadbackFault (n : Fin 32) (s : State) : Res :=
  .next (if !s.rdB (F.DIO_CFG_DIR n) || s.mode == mDORMANCY then s
    else if !dioConducts (dioState s n) then (if s.rdB (F.DIO_FLT_OUT_HIGH n) then s else dioRaise s n 3 7)
    else if s.rdB (F.DIO_STAT_LIMITING n) || s.rdB (F.DIO_FLT_OUT_LOW n) then s else dioRaise s n 4 8)

/-- DIO_OPEN_ON (R367). -/
def execDioOpenOn (n : Fin 32) (s : State) : Res :=
  .next (if s.rdB (F.DIO_CFG_OL_EN (dioLead s n)) && dioConducts (dioState s n) && !s.rdB (F.DIO_FLT_OPEN_ON n) then dioRaise s n 2 6 else s)

/-! ## Service (R369) -/

/-- End the service operation of an output. -/
def dioServiceEnd (s : State) (n : Nat) : State := dioFollow (s.setDio n { s.dioCh n with service := false }) n

/-- A write of DIO_SVC (R369). -/
def dioWriteSvc (s : State) (r : Req) (n : Nat) (on : Bool) (dur : Nat) : State :=
  if !r.supOrStitch then s.status 0x0207
  else if s.mode != mSERVICE || s.rdB (F.DIO_STAT_MEMBER n) then s.status 0x0303
  else if !on then (dioServiceEnd s n).status 0
  else if outside dur 1 600 then s.status 0x0301
  else (dioFollow (s.setDio n { s.dioCh n with service := true, svcEnd := s.now + 80000000 * dur }) n).status 0

/-- DIO_SERVICE_ON (R369). -/
def execDioServiceOn (r : Req) (n : Fin 32) (dur : BitVec 16) (s : State) : Res :=
  .next (hostWrite s r F.DIO_SVC_CH.addr (dioWriteSvc s r n true dur.toNat))

/-- DIO_SERVICE_EXPIRY (R369): DUR seconds have passed. -/
def execDioServiceExpiry (n : Fin 32) (s : State) : Res :=
  .next (if (s.dioCh n).service && decide ((s.dioCh n).svcEnd ≤ s.now) then dioServiceEnd s n else s)

/-! ## Flow-control lines (R240, R365) -/

/-- FCL_CHANGE (R240): the outputs that follow line `l` take its level; a Trellis action that stood over
the line ends. -/
def execFclChange (l : Fin 8) (s : State) : Res :=
  .next (forN (fun n t =>
    if t.rdB (F.DIO_CFG_FCL_EN n) && t.rd (F.DIO_CFG_FCL n) == l.val then
      dioFollow (t.setDio n { t.dioCh n with overFcl := none }) n
    else t) 32 s)

/-! ## Configuration writes (R368, R373) -/

/-- The checks of PAR (R368): the refusal, if there is one. -/
def dioParRefusal (s : State) (n par : Nat) : Option Nat :=
  let ms := (List.range par).map (n + 1 + ·)
  if decide (31 < n + par) || (decide (n ≤ 15) && decide (16 ≤ n + par)) then some 0x0303
  else if ms.any fun m => dioOwner s m != dioOwner s n then some 0x0206
  else if ms.any fun m => !s.rdB (F.DIO_CFG_DIR m) || (dioState s m != 0 && dioState s m != 3) ||
      s.rdB (F.DIO_STAT_MEMBER m) || s.rd (F.DIO_CFG_PAR m) != 0 then some 0x0303
  else none

/-- Dissolve the group that `n` leads and form the one that `par` names. -/
def dioRegroup (s : State) (n par : Nat) : State :=
  let s := ((List.range (s.rd (F.DIO_CFG_PAR n))).map (n + 1 + ·)).foldl (fun t m => t.wr (F.DIO_STAT_MEMBER m) 0) s
  let s := s.wr (F.DIO_CFG_PAR n) par
  ((List.range par).map (n + 1 + ·)).foldl (fun t m => t.wr (F.DIO_STAT_MEMBER m) 1) s

/-- A write of DIO_CFG(n) (R368, R373). A group's lead must itself be an output that is off or latched. -/
def dioWriteCfg (s : State) (r : Req) (n v : Nat) : State :=
  let st := dioState s n
  let par := (F.DIO_CFG_PAR n).slice v
  if !r.forPlot (dioOwner s n) then s.status 0x0206
  else if s.rdB (F.DIO_STAT_MEMBER n) then s.status 0x0303
  else if st != 6 && st != 0 && st != 3 then s.status 0x0303
  else
    let bare := dioRegroup s n 0
    match if par = 0 then none else if v % 2 = 0 then some 0x0303 else dioParRefusal bare n par with
    | some c => s.status c
    | none =>
      let s := dioRegroup (bare.writeWord (F.DIO_CFG_DIR n).addr v) n par
      let s := if v % 2 = 1 && dioState s n == 6 then s.wr (F.DIO_STAT_STATE n) 0 else s
      (subSync (dioFollow s n)).status 0

/-- A write of DIO_FLT(n): ones clear bits, by the owning plot (R373). -/
def dioWriteFlt (s : State) (r : Req) (n v : Nat) : State :=
  if !r.forPlot (dioOwner s n) then s.status 0x0206
  else (dioDegrade (dioFltSync (s.writeWord (F.DIO_FLT_LIMIT n).addr v) n) n).status 0

/-- A write of DIO_DEB(n) (R373). -/
def dioWriteDeb (s : State) (r : Req) (n v : Nat) : State :=
  if !r.forPlot (dioOwner s n) then s.status 0x0206 else (s.writeWord (F.DIO_DEB_DEB n).addr v).status 0

/-- A write of DIO_REQ(n): ON, then CLEAR when its bit is set. -/
def dioWriteReq (s : State) (r : Req) (n v : Nat) : State :=
  let s := dioWriteOn s r n (v % 2 == 1)
  if v.testBit 1 && s.resp.status == 0 then dioWriteClear s r n else s

/-- A write of DIO_PLOTQ(p) or another plot-queue register by plot `p` for itself; the queue's consumer must
be `p` (R237, R373). -/
def plotqWrite (s : State) (r : Req) (p a v : Nat) : State :=
  if !r.forPlot p || s.rd (F.Q_OWN_CONS (v % 64)) != p then s.status 0x0206 else (s.writeWord a v).status 0

end Sys2Proof.Machine
end

