-- ==== Sys2Proof/Machine/JobCore.lean ====
section
/-! DEFINITION. The job table's shared operations: state changes with their notices, and the outside events
that end jobs (R463-R466). -/

namespace Sys2Proof.Machine

/-- Job slot `j`. -/
def State.job (s : State) (j : Nat) : Job := s.jobs.get j {}

/-- Replace job slot `j`. -/
def State.setJob (s : State) (j : Nat) (x : Job) : State := { s with jobs := s.jobs.set j x }

/-- Is STATE a final state (R463)? -/
def jobFinal (st : Nat) : Bool := decide (4 ≤ st)

/-- The notice of R466, when the job's queue asks for it. -/
def jobNotice (s : State) (j : Nat) : State :=
  let x := s.job j
  let st := s.stamp
  if x.queue.testBit 7 then
    hwPost s (x.queue % 64) [BitVec.ofNat 32 (j + 256 * x.kind + 65536 * x.state),
      BitVec.ofNat 32 (x.progress + 65536 * x.result), BitVec.ofNat 32 st.pt.ns.toNat, BitVec.ofNat 32 st.pt.sec.toNat]
  else s

/-- QUEUED, RUNNING or SUSPENDED. -/
def Job.active (x : Job) : Bool := x.state == 1 || x.state == 2 || x.state == 3

/-- COUNT and the final status in the header of a sweep or dump that ends (R222, R289); a dump whose set S is not yet
chosen has no header. -/
def jobHeader (s : State) (x : Job) (status : Nat) : State :=
  let g := fun i => x.par.getD i 0
  if !(x.begun && x.active) then s
  else if x.kind = 3 then (s.putBytes (g 4 + 16) (le 4 (g 6))).putBytes (g 4 + 20) (le 2 status)
  else if x.kind = 4 ∧ g 9 ≠ 0 then (s.putBytes (g 6 + 12) (le 4 (g 10))).putBytes (g 6 + 30) (le 2 status)
  else s

/-- Move a job to `st` with its result; a final state stamps the end, DONE sets the progress (R463, R468);
TIL_ZSTAT.SWEEPS shows the RUNNING sweeps. -/
def jobTo (s : State) (j st result : Nat) : State :=
  let x := s.job j
  let s := if jobFinal st then jobHeader s x result else s
  let x := { x with state := st, result := result, progress := if st = 4 then 1000 else x.progress }
  let x := if jobFinal st then { x with ended := s.stamp.pt } else x
  let s := s.setJob j x
  let n := ((List.range 32).filter fun k => (s.job k).kind == 3 && (s.job k).state == 2).length
  jobNotice (s.wr F.TIL_ZSTAT_SWEEPS n) j

/-- End every job for which `p` holds, FAILED with `code`. -/
def jobsFail (s : State) (p : Job → Bool) (code : Nat) : State :=
  forN (fun j t => if p (t.job j) then jobTo t j 5 code else t) 32 s

/-- QUARANTINE: every claimed job not in a final state fails (R465). -/
def jobsQuarantine (s : State) : State := jobsFail s (fun x => x.kind != 0 && !jobFinal x.state) 0x0509

/-- Is a job of kind `k` RUNNING? -/
def jobRunning (s : State) (k : Nat) : Bool := (List.range 32).any fun j => (s.job j).kind == k && (s.job j).state == 2

/-- Is any job RUNNING (R91)? -/
def jobAnyRunning (s : State) : Bool := (List.range 32).any fun j => (s.job j).state == 2

/-- The lowest job of kind `k` that is RUNNING. -/
def jobOfKind (s : State) (k : Nat) : Option Nat :=
  (List.range 32).find? fun j => (s.job j).kind == k && (s.job j).state == 2

end Sys2Proof.Machine
end

