-- ==== Sys2Proof/Machine/NsCore.lean ====
section
/-! DEFINITION. Network sleep's shared operations (17_network_sleep.md): local consent, sleep frames, the WAKE pulse, the
end of a window by an objection. -/

namespace Sys2Proof.Machine

/-! ## Local consent (R398, R408) -/

/-- Is one of WAKE_LINE, CAN_SW and TIMER armed? -/
def nsArmed (s : State) : Bool := s.rdB F.DORM_WAKE_EN_WAKE_LINE || s.rdB F.DORM_WAKE_EN_CAN_SW || s.rdB F.DORM_WAKE_EN_TIMER

/-- SPAN is set and XL_LOST clear (R408). -/
def nsXl (s : State) : Bool := (s.rd F.GIRTH_MODE_SUBSTATE).testBit 2 && !s.girth.xlLost

/-- Local consent but for what a loss of XL takes (R398, R408); the module's own pulse withholds it for its length
(R407). -/
def nsHolds (s : State) : Bool :=
  s.mode == mRUN && ((List.range 8).all fun p => !s.bit F.NS_REQ_PLOTS_PLOTS p || s.rdB (F.NS_CONSENT_CONSENT p)) &&
    !jobAnyRunning s && !s.rdB F.NS_STAT_WAKE_LOW && !s.rdB F.NS_STAT_DRIVING && nsArmed s &&
    (!s.girth.spanMember || (!s.girth.unpaired && s.rdB F.DORM_WAKE_EN_WAKE_LINE && s.partner.nsLocal))

/-- Local consent (R398, R408). -/
def nsLocal (s : State) : Bool := nsHolds s && (!s.girth.spanMember || nsXl s)

/-- STATE of NS_STAT. -/
def nsState (s : State) : Nat := s.rd F.NS_STAT_STATE
def nsTo (s : State) (st : Nat) : State := s.wr F.NS_STAT_STATE st

/-! ## Sleep frames (R400, Table 17-1) -/

def nsTOKEN : Nat := 1
def nsCOMMIT : Nat := 2
def nsWAKE : Nat := 4
def nsABORT : Nat := 8

/-- The bytes of a sleep frame of this node for a round. -/
def nsBytes (s : State) (type dst consent : Nat) : List Byte :=
  le 1 (16 * type + s.rd F.NS_STAT_ROUND) ++ le 1 (s.rd F.NS_CTL_NODE) ++ le 1 dst ++ le 1 0 ++ le 2 consent ++
    le 2 (s.rd F.NS_RING_RING)

/-- Send a sleep frame from transmit buffer 7 of the sleep bus; in QUARANTINE the module sends nothing. -/
def nsSend (s : State) (type dst consent : Nat) : State :=
  if s.mode == mQUARANTINE then s
  else canSystem s (s.rd F.NS_CTL_CTRL) 7
    { id := s.rd F.NS_ID_BASE + s.rd F.NS_CTL_NODE, dlc := 8, data := nsBytes s type dst consent }

/-! ## The WAKE line (R407) -/

/-- Drive WAKE low for WAKE_PULSE ms, where Table 2-6 lets it be driven; a pulse in progress is extended. -/
def wakeDrive (s : State) : State :=
  if s.mode == mSERVICE || s.mode == mRUN || s.mode == mHANDOFF then
    let upto := s.now + 80000 * s.rd F.NS_TIME2_WAKE_PULSE
    let s := { s with ns := { s.ns with pulseEnd := max s.ns.pulseEnd upto } }
    if s.rdB F.NS_STAT_DRIVING then s else (s.wr F.NS_STAT_DRIVING 1).emit (.wakeLine true)
  else s

/-- The pulse ends, or the module stops driving. -/
def wakeRelease (s : State) : State :=
  if s.rdB F.NS_STAT_DRIVING then (s.wr F.NS_STAT_DRIVING 0).emit (.wakeLine false) else s

/-! ## Ends of a round -/

/-- A round or a window is abandoned: back to AWAKE, and RETRY_INT counts from here. -/
def nsEnd (s : State) : State :=
  { nsTo s 1 with ns := { s.ns with fwd := false, endAt := some s.now } }

/-- The module sends ABORT, and drives WAKE with WAKE_ON_ABORT set (R401, R403). -/
def nsAbort (s : State) : State :=
  let s := nsSend (((nsEnd s).wr F.NS_FLT_ABORTED 1).incSat F.NS_CNT_ABORTS) nsABORT 0xFF (s.rd F.NS_STAT_CONSENT)
  if s.rdB F.NS_CTL_WAKE_ON_ABORT then wakeDrive s else s

/-- A module that stays awake after its window has ended wakes the network (R404). -/
def nsStayAwake (s : State) : State := wakeDrive (nsSend (nsEnd s) nsWAKE 0xFF (s.rd F.NS_STAT_CONSENT))

/-- NS_STAT.LOCAL and NO_WAKE follow their conditions; a consent lost in the window aborts it (R398, R403), but a loss of
XL shows at the window's end (Table 17-3). -/
def nsSync (s : State) : State :=
  let s := s.wrB F.NS_STAT_LOCAL (nsLocal s)
  let s := if nsArmed s then s else s.wr F.NS_FLT_NO_WAKE 1
  if nsState s == 3 && !nsHolds s then
    let s := nsAbort s
    s.wrB F.NS_STAT_LOCAL (nsLocal s)
  else s

/-- The commit window opens at the COMMIT's stamp, `back` ticks ago (R402); an objection that already stands aborts it at
once. -/
def nsOpen (s : State) (back : Nat) : State :=
  nsSync ({ nsTo s 3 with ns := { s.ns with winAt := s.now - back } }.incSat F.NS_CNT_COMMITS)

/-- Have `n` milliseconds passed since tick `t`? -/
def msPast (s : State) (t n : Nat) : Bool := decide (t + 80000 * n ≤ s.now)

end Sys2Proof.Machine
end

