-- ==== Sys2Proof/Machine/Reset.lean ====
section
/-! DEFINITION. The reset domains of Table 4-3 and the entry into a mode (Table 3-5): what a reset drops, what
survives it, and the operations that bring the module to HOLD and to QUARANTINE. -/

namespace Sys2Proof.Machine

/-! ## What a reset drops -/

/-- Forget every stored byte in [lo, hi), and the bits beside the words of Furrow SRAM. -/
def State.dropMem (s : State) (lo hi : Nat) : State :=
  { s with mem := s.mem.filter fun c => decide (c.1 < lo ∨ hi ≤ c.1)
           furBits := s.furBits.filter fun e => decide (furSramAddr e.1 < lo ∨ hi ≤ furSramAddr e.1) }

/-- Return several windows of registers to their reset values. -/
def State.resetWindows (s : State) (ws : List (Nat × Nat)) : State :=
  ws.foldl (fun t w => t.resetRegs w.1 w.2) s

/-- What the AON domain keeps of the stamp and of plant time when SAFE is reset (R126, R148). -/
def aonKeep (s : State) : AonKeep :=
  { valid := true, at_ := s.now, cyc := s.trl.cyc, ang := s.trl.ang, frac := s.trl.frac,
    inc := BitVec.ofNat 48 (incOf s), sec := s.pt.sec, ns := s.pt.ns, ptFrac := s.pt.frac,
    addend := addendOf s, rate := s.rd F.PT_RATE_I, ptState := s.rd F.PT_STAT_STATE }

/-- Reset of the SAFE domain: Trellis, plant time, Latigo, MSR with the capture ring, whose records lose COMPLETE (R219),
Pommel's logic. The
latched trips are in AON and the lockstep record in PWR; Pommel SRAM survives only a DORMANCY entry. -/
def resetSafe (s : State) (keepSram : Bool) : State :=
  let s := if s.girth.safeReset then s else { capClearAll s with aon := aonKeep s }
  let s := s.resetWindows [(0x20000000, 0x20400000), (0x20600000, 0x20700000)]
  let s := if keepSram then s else s.dropMem 0x10000000 0x10200000
  let p := s.pom
  let p' : PommelSt :=
    { latches := p.latches, saved := p.saved, trips := p.trips, seq := p.seq, mirrorSeqs := p.mirrorSeqs,
      recCore := p.recCore, recDly := p.recDly }
  let s := { s with trl := {}, pt := {}, pom := p', lat := {}, msr := {}, cap := {} }
  let s := { s with girth := { s.girth with safeReset := true, domFail := false }
                    arb := ((s.arb.dropRange 0x200 0x204).dropRange 0x206 0x207).dropRange 0x300 0x301 }
  subSync ((s.wr F.XING_STAT_SERVICE 0).wr F.RST_CAUSE_SAFE 1)

/-- The registers of the load-switch block that its reset returns: requests, configuration, profiles, queues,
latched faults and counts. What the stages on the dies report stays (R30, "Reclaiming outputs"). -/
def resetLs (s : State) : State :=
  let s := s.resetWindows [(0x20700000, 0x20700004), (0x20700008, 0x2070000C), (0x20700020, 0x20701000)]
  forN (fun n t => (t.resetWindows [(0x20701000 + 64 * n, 0x20701008 + 64 * n), (0x2070100C + 64 * n, 0x20701010 + 64 * n),
    (0x20701020 + 64 * n, 0x20701024 + 64 * n)]).wr (F.LS_STAT_MEMBER n) 0) 24 s

/-- The registers of the DIO block that its reset returns; the stages keep their state. -/
def resetDio (s : State) : State :=
  let s := s.resetWindows [(0x20900000, 0x20900008), (0x2090000C, 0x20901000)]
  forN (fun n t =>
    let t := (t.resetWindows [(0x20901000 + 64 * n, 0x2090100C + 64 * n), (0x20901010 + 64 * n, 0x2090102C + 64 * n)]).wr
      (F.DIO_STAT_MEMBER n) 0
    t.setDio n {}) 32 s

/-- BLK_RST of Tilth keeps the microcode store with its registers, and the committed parameters (R264, R270). -/
def resetTilth (s : State) : State :=
  let t := s.til
  let uc := (s.rd F.TIL_UC_ADDR_ADDR, s.rd F.TIL_UC_CRC_CRC, s.rd F.TIL_UC_CTL_LOCK, s.rd F.TIL_UC_CTL_REV)
  let ps := s.rd F.TIL_STAT_PSET_VALID
  let s := s.resetRegs 0x20500000 0x20600000
  let s := State.degrade { s with til := { uc := t.uc, crc := t.crc, path := t.path, p1 := { par := t.p1.par } } } 800 false
  let s := ((s.wr F.TIL_UC_ADDR_ADDR uc.1).wr F.TIL_UC_CRC_CRC uc.2.1).wr F.TIL_UC_CTL_LOCK uc.2.2.1
  ((s.wr F.TIL_UC_CTL_REV uc.2.2.2).wr F.TIL_STAT_UC_LOCKED uc.2.2.1).wr F.TIL_STAT_PSET_VALID ps

/-- Persistent objects written and not yet stored go to the settings area (R457), once flash may be written (R75). -/
def settingsStore (s : State) : State :=
  if !flashOk s then s
  else
  let s := { s with settings := s.ses.unsaved.foldl (fun m (e : Nat × Nat) => SMap.set m e.1 e.2) s.settings
                    settingsBytes := s.ses.unsavedBytes.foldl (fun m (e : Nat × List Byte) => SMap.set m e.1 e.2) s.settingsBytes }
  { s with ses := { s.ses with unsaved := [], unsavedBytes := [] } }

/-- The arbitration point of a block of Table 4-7 that has one (R112). -/
def blkPoint (b : Nat) : Nat := match b with | 0 => 0x205 | 1 => 0x20B | 4 => 0x20F | 5 => 0x210 | _ => 0

/-- Reset of block `b` of Table 4-7: its registers and its hidden state; it is busy until its start-up ends. -/
def resetBlk (b : Nat) (s : State) : State :=
  let s := if b = 0 then resetTilth s else s.resetWindows (blkWindow b)
  let s := if 6 ≤ b ∧ b ≤ 13 then canSync (b - 6) { s with can := SMap.dropRange s.can (b - 6) (b - 5) } else s
  let s := if b = 2 then
      { s with ses := { unsaved := s.ses.unsaved, unsavedBytes := s.ses.unsavedBytes, defaults := s.ses.defaults, addrs := s.ses.addrs } }
    else s
  let s := if b = 5 then { s with girth := { s.girth with xlTrained := false } } else s
  let s := if b = 4 then { s with pt := { s.pt with txts0 := [], txts1 := [] } } else s
  let s := { s with arb := s.arb.dropRange (blkPoint b) (blkPoint b + 1) }
  State.setBit { s with girth := { s.girth with xFail := s.girth.xFail &&& ~~~BitVec.ofNat 14 (2 ^ b) } } F.BLK_RST_STAT_BUSY b

/-- Reset of the CORE domain; a cold start also initialises DRAM to zero. Settings still to be stored are stored
first; WAKE_LOW stays, since PD0 senses the line (R406). -/
def resetCore (s : State) (cold : Bool) : State :=
  let s := wakeRelease (settingsStore s)
  let low := s.rd F.NS_STAT_WAKE_LOW
  let s := resetDio (resetLs s)
  let s := s.resetWindows [(0x20400000, 0x20500000), (0x20A40000, 0x20B00000), (0x20C00000, 0x20D00100),
    (0x20D00200, 0x20E00000), (0x21100000, 0x21300000)]
  let s := { s with q := [], irqHeld := [], can := [], ns := {}, gw := {}, br := {}, pc := {}, ses := { defaults := s.ses.defaults } }
  let s := forN resetBlk 14 s
  let s := State.resetRegs { s with til := {} } 0x20500000 0x20600000
  let s := if cold then s.dropMem 0x800000000 0x820000000 else s
  let s := { s with girth := { s.girth with coreReset := true, domFail := false }
                    arb := s.arb.filter fun e => decide (0x200 ≤ e.1) && decide (e.1 < 0x204) || e.1 == 0x206 || e.1 == 0x208 || e.1 == 0x20E || e.1 == 0x300 }
  ((s.wr F.NS_STAT_WAKE_LOW low).wr F.XING_STAT_SERVICE 0).wr F.RST_CAUSE_CORE 1

/-- Reset of the AON domain by a cold restart: the key slots, the kept time and the job table go (R465). -/
def resetAon (s : State) : State :=
  let s := s.resetRegs 0x20D00100 0x20D00200
  let p := { s.pom with latches := s.pom.saved }
  let s := { s with aon := {}, jobs := [], pom := p, clo := { s.clo with keys := [], root := none } }
  s.wr F.RST_CAUSE_AON 1

/-! ## Entering a mode -/

/-- Record a transition in GIRTH_MODE (R79), and its stamp (Table 6-5). -/
def setMode (s : State) (target cause : Nat) : State :=
  let old := s.mode
  let s := ((s.wr F.GIRTH_MODE_PREV_MODE old).wr F.GIRTH_MODE_MODE target).wr F.GIRTH_MODE_CAUSE cause
  let s := { s with girth := { s.girth with modeAt := s.stamp, modeTick := s.now } }
  nsSync (canSyncAll (subSync s))

/-- Have `t` ticks passed since the last mode transition? -/
def modeFor (s : State) (t : Nat) : Bool := decide (s.girth.modeTick + t ≤ s.now)

/-- Leaving SERVICE (R321, R369): what a service command switched on goes off. -/
def serviceEnd (s : State) : State :=
  let s := forN (fun n t => if (t.lsCh n).service then lsUpdate n (t.setLs n { t.lsCh n with service := false }) else t) 24 s
  forN (fun n t => if (t.dioCh n).service then dioUpdate n (t.setDio n { t.dioCh n with service := false }) else t) 32 s

/-- Entry to SERVICE (R321, R369, Table 13-8): every ON bit and every retry count clears, and what waits for a retry goes
off; latches stay (log entry 63). -/
def serviceStart (s : State) : State :=
  let s := forN (fun n t =>
    let t := (t.hwWr (F.LS_REQ_ON n) 0).wr (F.LS_STAT_RETRIES n) 0
    let t := t.setLs n { t.lsCh n with stagger := false, retryDue := false, hotOff := false, uvOff := false }
    if lsState t n == 3 then t.wr (F.LS_STAT_STATE n) 0 else t) 24 s
  forN (fun n t =>
    let t := (t.hwWr (F.DIO_REQ_ON n) 0).wr (F.DIO_STAT_RETRIES n) 0
    let t := t.setDio n { t.dioCh n with overFcl := none }
    if dioState t n == 2 then dioPut t n 0 else t) 32 s

/-- Enter RUN or SERVICE. -/
def enterMode (s : State) (m cause : Nat) : State :=
  let s := setMode s m cause
  if m = mSERVICE then serviceStart s else s

/-- Open every SAFE-LS switch and lower SLS_ARM: Pommel halted or not permitted (Table 3-3). -/
def slsDown (s : State) : State := subSync ((s.wr F.POM_STAT_SLS_ON 0).wr F.POM_STAT_ARM 0)

/-- May the module enter HOLD from this mode (Table 3-5)? -/
def canHold (m : Nat) : Bool := m == mSERVICE || m == mBOOT || m == mRUN || m == mHANDOFF || m == mDORMANCY

/-- Enter HOLD: Stirrup begins its hold window unless one already runs (R348). -/
def enterHold (s : State) (cause : Nat) : State :=
  if canHold s.mode then
    let s := serviceEnd (setMode s mHOLD cause)
    let st := s.rd F.STR_STAT_STATE
    if st == 0 || st == 3 then holdStart s else followAll s
  else s

/-- The ring line ends and the measurement receivers are off (Table 2-6): no ring is triggered or mastered. -/
def linesOff (s : State) : State :=
  let s := forN (fun c t => ((t.wr (F.LAT_RSTAT_MASTER c) 0).wr (F.LAT_RSTAT_TRIG_A c) 0).wr (F.LAT_RSTAT_TRIG_B c) 0) 12 s
  subSync { s.wr F.LAT_SUM_TRIG 0 with lat := { s.lat with running := false }, msr := { s.msr with running := false } }

/-- Enter QUARANTINE (R35, R351): the codes at once, SAFE-LS open, lines off, jobs failed, the transition abandoned; a
shutdown that runs goes on (R110). A live span partner takes over (Table 3-11). -/
def enterQuarantine (s : State) : State :=
  let took := s.girth.spanMember && s.partner.alive
  let s := linesOff (slsDown (setMode s mQUARANTINE 0x0C))
  let s := { s with girth := { s.girth with dormEntry := false, quarAt := if took then some s.now else none } }
  let s := jobsQuarantine (failsafeNow (serviceEnd s))
  wakeRelease ((s.wr F.XL_STAT_LINK 0).wr F.NS_STAT_WAKE_LOW 0)

/-- The mode a handoff returns to: RUN, but SERVICE where Table 21-11 lets RUN not occur. -/
def handoffReturn (s : State) : Nat :=
  if s.clo.fuses % 4 = 1 ∨ (s.clo.fuses % 4 = 2 ∧ !s.rdB F.CLO_STAT_KEYS_SEALED) then mRUN else mSERVICE

/-- A handoff is refused or has timed out (R88): back to RUN with every channel and ring still owned. -/
def handoffRefuse (s : State) : State :=
  if s.mode == mHANDOFF then
    followAll (enterMode (lsAbandon s false) (handoffReturn s) 0x0E)
  else s

/-- Every output off in hardware, SAFE-LS open, SLS_ARM low, ring line ends and XL silent (R76, R90). -/
def outputsOff (s : State) : State :=
  let s := slsDown { s with girth := { s.girth with outOff := true } }
  followAll (s.wr F.XL_STAT_LINK 0)

end Sys2Proof.Machine
end

