-- ==== Sys2Proof/Machine/Stirrup.lean ====
section
/-! DEFINITION. The commands of Stirrup (14_stirrup_failsafe.md): watchdog frames, the loss of a stream, the hold
window, the fail-safe codes and the release of held outputs. -/

namespace Sys2Proof.Machine

/-! ## Watchdog frames (R345-R347) -/

/-- One step of CRC-8 with polynomial 0x07 over `k` bits (R346). -/
def crc8Bits : Nat → Nat → Nat
  | 0, c => c
  | k + 1, c => crc8Bits k (if c.testBit 7 then (2 * c % 256) ^^^ 0x07 else 2 * c % 256)

/-- CRC-8 over bytes: polynomial 0x07, initial value 0xFF, no reflection, no final XOR (R346). -/
def crc8 (b : List Byte) : Nat := b.foldl (fun c x => crc8Bits 8 (c ^^^ x.toNat)) 0xFF

/-- The SRC code that a line carries: lockstep Pommel or PC0, PC1, SWX (R345, R346). -/
def strSrc (s : State) (line : Nat) : Nat :=
  match line with
  | 0 => if s.rdB F.POM_STAT_SPLIT then 2 else 1
  | 1 => 3
  | _ => 4

/-- The stream of a line. -/
def strLine (s : State) (line : Nat) : Stream :=
  match line with
  | 0 => s.str.line0
  | 1 => s.str.line1
  | _ => s.str.swx

/-- Replace the stream of a line and show whether it is present. -/
def setLine (s : State) (line : Nat) (x : Stream) : State :=
  match line with
  | 0 => State.wrB { s with str := { s.str with line0 := x } } F.STR_STAT_LINE0_OK x.present
  | 1 => State.wrB { s with str := { s.str with line1 := x } } F.STR_STAT_LINE1_OK x.present
  | _ => State.wrB { s with str := { s.str with swx := x } } F.STR_STAT_SWX_OK x.present

/-- Is the stream of a line required (Table 14-1)? -/
def strRequired (s : State) (line : Nat) : Bool :=
  match line with
  | 0 => true
  | 1 => s.rdB F.POM_STAT_SPLIT
  | _ => s.rdB F.STR_CTL_SWX_EN

/-- Is every required stream present? -/
def strAllPresent (s : State) : Bool := (List.range 3).all fun l => !strRequired s l || (strLine s l).present

/-- The interval window of a line in µs (Table 14-1). -/
def strWindow (s : State) (line : Nat) : Nat × Nat :=
  match line with
  | 0 => (500, 2000)
  | 1 => (500, 2000)
  | _ => (10 * s.rd F.STR_SWX_CFG_MIN, 10 * s.rd F.STR_SWX_CFG_MAX)

/-- The lost-line bit of STR_FLT. -/
def strLostBit (line : Nat) : Field :=
  match line with
  | 0 => F.STR_FLT_PC0_LOST
  | 1 => F.STR_FLT_PC1_LOST
  | _ => F.STR_FLT_SWX_LOST

/-- Every required stream is present again after a hold start: the hold timer stops and the reclaim timer
starts (R353). -/
def strReturn (s : State) : State :=
  let st := s.rd F.STR_STAT_STATE
  if (st == 1 || st == 2) && strAllPresent s && s.str.returned && !s.str.reclaimTimer then
    { s with str := { s.str with holdTimer := false, reclaimTimer := true, reclaimAt := s.now, returned := false } }
  else s

/-- Loss of a required stream: a hold start in REQUEST, while the reclaim timer runs, or with channels
released (R348, R562); then Girth's trigger with cause 0x07. FS_NOW applies the codes at once. -/
def strLoss (s : State) (fsNow : Bool) : State :=
  let st := s.rd F.STR_STAT_STATE
  let s := if st == 0 || ((st == 1 || st == 2) && (s.str.reclaimTimer || s.str.relLs != 0 || s.str.relDio != 0)) then
      holdStart s else s
  let s := if fsNow then failsafeNow s else s
  enterHold s 0x07

/-- A line loses its stream (R347). Supervision is suspended in DORMANCY (R355). -/
def strLose (s : State) (line : Nat) (fsNow : Bool) : State :=
  if s.rd F.STR_STAT_STATE = 3 then s
  else
    let s := (setLine s line { (strLine s line) with present := false, run := 0, bad := 0 }).wr (strLostBit line) 1
    if strRequired s line then strLoss s fsNow else s

/-- Are the four bytes a frame that passes every check of R347 but the interval? -/
def frameOk (s : State) (line : Nat) (b : List Byte) : Bool :=
  let x := strLine s line
  let b1 := byteNat b 1
  let b2 := byteNat b 2
  b.length == 4 && byteNat b 0 == 0x96 && byteNat b 3 == crc8 (b.take 3) && b1 / 16 == strSrc s line &&
    b2 % 2 == 1 && decide (b2 < 4) &&
    (match x.seq with
      | none => true
      | some q => (x.run == 0 && !x.present) || b1 % 16 == (q + 1) % 16)

/-- A frame that fails its checks, or ends before the window minimum (R347). -/
def frameBad (s : State) (line : Nat) (early : Bool) : State :=
  let x := strLine s line
  let s := (s.wr F.STR_FLT_FRAME_ERR 1).incSat F.STR_CNT_BAD
  let s := if early then s.wr F.STR_FLT_EARLY 1 else s
  if x.present then
    if early || decide (1 ≤ x.bad) then strLose s line false else setLine s line { x with bad := x.bad + 1 }
  else setLine s line { x with run := 0, bad := x.bad + 1 }

/-- A valid frame: it counts towards presence, or, with FS_NOW, applies the codes (R347, R348). -/
def frameGood (s : State) (line seq : Nat) (fsNow : Bool) : State :=
  let x := strLine s line
  if fsNow then
    let s := s.wr F.STR_FLT_FS_NOW 1
    if x.present then strLose (setLine s line { x with seq := some seq, endAt := s.now }) line true
    else
      let s := setLine s line { x with seq := some seq, run := 0, bad := 0, endAt := s.now }
      if strRequired s line then failsafeNow s else s
  else
    let n := x.run + 1
    let pres := x.present || decide (4 ≤ n)
    let s := setLine s line { x with present := pres, run := min n 4, seq := some seq, bad := 0, endAt := s.now }
    let s := if pres && !x.present && strRequired s line && s.rd F.STR_STAT_STATE != 0 then { s with str := { s.str with returned := true } } else s
    strReturn s

/-- WDOG_FRAME_RX (R347): a frame of bytes on a line, its end `gap` µs after the end of the line's previous
valid frame, its bytes within 10 µs of each other. Line 0 and 1 are Pommel's, line 2 is SWX. A gap above the
window maximum starts the run of valid frames again before presence. In QUARANTINE SWX is off (Table 2-6). -/
def execWdogFrameRx (line : Fin 3) (bytes : List Byte) (gap : Nat) (s : State) : Res :=
  let w := strWindow s line
  let x := strLine s line
  let early := x.seq.isSome && decide (gap < w.1)
  let s := if !x.present && x.seq.isSome && decide (w.2 < gap) then setLine s line { x with run := 0 } else s
  .next (if s.rd F.STR_STAT_STATE == 3 || (line.val == 2 && (s.mode == 0 || s.mode == mQUARANTINE)) then s
    else if !frameOk s line bytes || early then frameBad s line early
    else frameGood s line (byteNat bytes 1 % 16) ((byteNat bytes 2).testBit 1))

/-- Have `us` microseconds of RC16, which runs within 3 % (Table 4-1, R345), passed since tick `t`? -/
def rcPast (s : State) (t us : Nat) : Bool := decide (100 * t + 7760 * us ≤ 100 * s.now)

/-- STREAM_TIMEOUT (R347): no valid frame has ended within the window maximum after the last one. Before
presence it starts the run again. -/
def execStreamTimeout (line : Fin 3) (s : State) : Res :=
  let x := strLine s line
  .next (if !rcPast s x.endAt (strWindow s line).2 then s
    else if x.present then strLose s line false else setLine s line { x with run := 0 })

/-! ## Timers (R349, R350, R354) -/

/-- Stirrup's half of the Pommel-line crossing is reset: what has arrived of a run is forgotten (R107, R349). -/
def strLineReset (s : State) : State :=
  let f := fun (x : Stream) => if x.present then { x with bad := 0 } else { x with run := 0, bad := 0 }
  { s with str := { s.str with line0 := f s.str.line0, line1 := f s.str.line1 } }

/-- HOLD_EXPIRY (R349): STR_HOLD_TMO has passed in HOLD. -/
def execHoldExpiry (s : State) : Res :=
  .next (if s.rd F.STR_STAT_STATE == 1 && s.str.holdTimer && rcPast s s.str.holdAt (1000 * s.rd F.STR_HOLD_TMO_TMO) then
      applyCodes (strLineReset (s.wr F.STR_FLT_HOLD_EXPIRED 1))
    else s)

/-- PARTNER_TMO_EXPIRY (R350): the channels at PARTNER code go off. -/
def execPartnerTmoExpiry (s : State) : Res :=
  if !s.str.partnerTimer || !rcPast s s.str.partnerAt (1000 * max 1 (s.rd F.STR_PARTNER_TMO_TMO)) then .next s
  else
    let x := s.str
    .next (followAll { s with str := { x with
      partnerTimer := false, holdLs := x.holdLs &&& ~~~x.partLs, holdDio := x.holdDio &&& ~~~x.partDio,
      partLs := 0, partDio := 0 } })

/-- RECLAIM_EXPIRY (R354): unreleased channels in HOLD take their codes; those at their codes keep them. -/
def execReclaimExpiry (s : State) : Res :=
  if !s.str.reclaimTimer || !rcPast s s.str.reclaimAt (1000 * max 1 (s.rd F.STR_RECLAIM_TMO_TMO)) then .next s
  else
    let s := State.wr { s with str := { s.str with reclaimTimer := false } } F.STR_FLT_RECLAIM_EXPIRED 1
    .next (if s.rd F.STR_STAT_STATE == 1 then applyCodes s else s)

/-! ## Release (R353) -/

/-- May this requester write Stirrup's window (R358)? -/
def strWriter (r : Req) : Bool := r.supOrStitch

/-- Release channels: they return to request control and follow ranks 3 to 5; with none left unreleased
STATE is REQUEST again (R353). -/
def strRelease (s : State) (r : Req) (ls : BitVec 24) (dio : BitVec 32) : State :=
  let st := s.rd F.STR_STAT_STATE
  if !strWriter r then s.status 0x0207
  else if s.mode == mQUARANTINE || st == 3 || !strAllPresent s then s.status 0x0303
  else if st == 0 then s.status 0
  else
    let x := s.str
    let s := { s with str := { x with
      relLs := x.relLs ||| ls, relDio := x.relDio ||| dio, partLs := x.partLs &&& ~~~ls, partDio := x.partDio &&& ~~~dio } }
    let s := if s.str.relLs == BitVec.allOnes 24 && s.str.relDio == BitVec.allOnes 32 then
        State.wr { s with str := { s.str with reclaimTimer := false, holdTimer := false, partnerTimer := false } }
          F.STR_STAT_STATE 0
      else s
    (followAll (heldSync s)).status 0

/-- STR_REL_LS (R353). -/
def execStrRelLs (r : Req) (map : BitVec 24) (s : State) : Res :=
  .next (hostWrite s r F.STR_REL_LS_REL.addr (strRelease s r map 0))

/-- STR_REL_DIO (R353). -/
def execStrRelDio (r : Req) (map : BitVec 32) (s : State) : Res :=
  .next (hostWrite s r F.STR_REL_DIO_REL.addr (strRelease s r 0 map))

/-! ## Other register writes (R358) -/

/-- A write of another Stirrup register: configuration only in BOOT and SERVICE, MIN below MAX. -/
def strWrite (s : State) (r : Req) (a v : Nat) : State :=
  if !strWriter r then s.status 0x0207
  else if a < 0x20800030 && a != 0x20800008 && s.mode != mBOOT && s.mode != mSERVICE then s.status 0x0208
  else if a = 0x2080000C ∧ v / 65536 ≤ v % 65536 then s.status 0x0302
  else (strReturn (s.writeWord a v)).status 0

/-! ## Girth's side of DORMANCY (R355) -/

/-- Stirrup enters DORMANT: the Dormancy patterns, no supervision. -/
def strDormant (s : State) : State :=
  let s := { s with str := { s.str with
    holdLs := BitVec.ofNat 24 (s.rd F.DORM_LS_PAT_PAT), holdDio := BitVec.ofNat 32 (s.rd F.DORM_DIO_PAT_PAT),
    relLs := 0, relDio := 0, partLs := 0, partDio := 0, tripLs := 0, tripDio := 0,
    line0 := {}, line1 := {}, swx := {}, holdTimer := false, reclaimTimer := false, partnerTimer := false } }
  let s := ((s.wr F.STR_STAT_LINE0_OK 0).wr F.STR_STAT_LINE1_OK 0).wr F.STR_STAT_SWX_OK 0
  followAll (heldSync (s.wr F.STR_STAT_STATE 3))

/-- RUN after a wake: supervision resumes, HOLD with every channel unreleased at its Dormancy state, the reclaim
timer at once. -/
def strWake (s : State) : State :=
  let s := (s.wr F.STR_LAST_LS_LAST (s.rd F.DORM_LS_PAT_PAT)).wr F.STR_LAST_DIO_LAST (s.rd F.DORM_DIO_PAT_PAT)
  let s := { s with str := { s.str with reclaimTimer := true, reclaimAt := s.now, holdTimer := false, returned := false } }
  followAll (heldSync (strEvent ((s.wr F.STR_STAT_STATE 1).incSat F.STR_CNT_HOLDS)))

/-- The kept events of Stirrup go to LS_EVQ after a restart (R358). -/
def strPostEvents (s : State) : State :=
  let ev := s.str.events
  ev.foldl (fun t b => hwPost t (t.rd F.LS_EVQ_QUEUE) (toWords b)) { s with str := { s.str with events := [] } }

end Sys2Proof.Machine
end

