-- ==== Sys2Proof/Machine/Pommel.lean ====
section
/-! DEFINITION. The commands of Pommel (12_pommel_protection.md): samples, protection functions, trips, SAFE-LS
switches, lockstep faults and the mailbox. -/

namespace Sys2Proof.Machine

/-! ## Parameters (Table 12-9) -/

/-- Default thresholds of the functions that have one (Table 12-4), as I32 codes. -/
def pomThrDflt (f : Nat) : Nat :=
  match f with
  | 1 => 36500
  | 2 => 25000
  | 3 => 6000
  | 4 => ofInt 32 (-3000)
  | 7 => 500
  | 12 => 2000
  | _ => 0

/-- Default persistence and its range (Table 12-4). -/
def pomN (f : Nat) : Nat × Nat × Nat :=
  match f with
  | 1 => (2, 1, 5)
  | 2 => (40, 1, 4000)
  | 3 => (3, 1, 100)
  | 4 => (3, 1, 100)
  | 5 => (8, 1, 640)
  | 6 => (8, 1, 640)
  | 7 => (4, 1, 40)
  | 8 => (4, 1, 640)
  | 9 => (40, 1, 4000)
  | 10 => (64, 1, 6400)
  | 11 => (10, 1, 100)
  | _ => (1, 1, 1)

/-- Threshold, persistence, SLS mask and pattern of function `f`. -/
def pomThr (s : State) (f : Nat) : Int := toInt 32 (s.obj (0x2A10 + f) 1 (pomThrDflt f))
def pomPersist (s : State) (f : Nat) : Nat := s.obj (0x2A10 + f) 2 (pomN f).1
def pomMask (s : State) (f : Nat) : Nat := s.obj (0x2A10 + f) 3 0x0F
def pomPattern (s : State) (f : Nat) : Nat := s.obj (0x2A10 + f) 4 0

/-- Default of sub-object `sub` of a link object. -/
def pomLinkDflt (sub : Nat) : Nat :=
  match sub with
  | 1 => 2000000
  | 2 => ofInt 32 (-2000000)
  | 3 => 1000000
  | _ => 0x0F

/-- Link parameters: thresholds and SLS mask. -/
def pomLink (s : State) (m sub : Nat) : Nat := s.obj (0x2A20 + m) sub (pomLinkDflt sub)

/-! ## Samples in Pommel SRAM (Table 12-3) -/

/-- Address of set slot `j` and of conversion `p` of link `m` in slot `j`, and of temperature entry `t`. -/
def setSlot (j : Nat) : Nat := 0x10080000 + 0x4000 * j
def convAddr (j m p : Nat) : Nat := 0x100C0000 + 0x400 * j + 256 * m + 16 * p
def tempAddr (t : Nat) : Nat := 0x100C4000 + 4 * t

/-- Voltage and mark of cell `g` in set slot `j`. -/
def cellVal (s : State) (j g : Nat) : Nat := s.numAt (setSlot j + 2 * g) 2
def cellMark (s : State) (j g : Nat) : Nat := (s.byteAt (setSlot j + 0x2400 + g / 4)).toNat / 4 ^ (g % 4) % 4

/-- Put a two-bit mark at position `g` of a packed table of marks at `a`. -/
def putMark (s : State) (a g mark : Nat) : State :=
  let b := (s.byteAt (a + g / 4)).toNat
  let old := b / 4 ^ (g % 4) % 4
  s.putByte (a + g / 4) (BitVec.ofNat 8 (b - old * 4 ^ (g % 4) + mark * 4 ^ (g % 4)))

/-- Current and mark of a conversion. -/
def convI (s : State) (j m p : Nat) : Int := toInt 32 (s.numAt (convAddr j m p) 4)
def convMark (s : State) (j m p : Nat) : Nat := (s.byteAt (convAddr j m p + 8)).toNat % 4

/-- Value and mark of a temperature entry. -/
def tempVal (s : State) (t : Nat) : Int := toInt 16 (s.numAt (tempAddr t) 2)
def tempMark (s : State) (t : Nat) : Nat := (s.byteAt (tempAddr t + 2)).toNat % 4

/-- The mark as Pommel treats it: while UNPAIRED, a VALID or PARTNER cell or temperature counts as STALE
(R302). -/
def pomSeen (s : State) (mark : Nat) : Nat := if s.girth.unpaired && (mark == 0 || mark == 3) then 1 else mark

/-- Is cell `g` fitted: its ring has NODES and its node's CELLS names it (R303)? -/
def cellFitted (s : State) (g : Nat) : Bool :=
  s.rd (F.LAT_RCFG_NODES (g / 384)) != 0 && (s.rd (F.LAT_NSTAT_CELLS (g / 384) (g / 16 % 24))).testBit (g % 16)

/-- Is temperature sensor `t` fitted (R303)? -/
def sensorFitted (s : State) (t : Nat) : Bool :=
  s.rd (F.LAT_RCFG_NODES (t / 192)) != 0 && (s.rd (F.LAT_NSENS_SENSORS (t / 192) (t / 8 % 24))).testBit (t % 8)

/-! ## Event records and trip frames -/

/-- The event record of R314: TYPE, then f, index and value as in Table 12-5, ANGLE at 12, PTIME at 20. -/
def pomRecord (s : State) (type f index value : Nat) : State :=
  let st := s.stamp
  let b := le 1 type ++ le 1 f ++ le 2 0 ++ le 2 index ++ le 2 0 ++ le 4 value ++ st.ang.bytes ++ st.pt.bytes ++ le 2 0
  hwPost s (s.rd F.POM_EVQ_QUEUE) (toWords b)

/-- The 24 bytes of a trip or reset frame (Table 12-5). -/
def tripFrame (s : State) (kind f mask index value : Nat) : List Byte :=
  let st := s.stamp
  le 1 (16 * kind + s.pom.seq % 16) ++ le 1 f ++ le 1 (s.rd F.SEAT_STAT_SIDE + 2 * mask) ++ le 1 0 ++ le 2 index ++
    le 2 0 ++ le 4 value ++ le 6 st.pt.sec.toNat ++ le 4 st.pt.ns.toNat ++ le 2 0

/-- Is the module in a span with XL up (SPAN of Table 3-4)? -/
def inSpan (s : State) : Bool := s.rdB F.XL_STAT_LINK && s.partner.seen

/-- Send a trip or reset frame on CAN, and over XL in a span (R307, R308). -/
def pomSend (s : State) (kind f mask index value : Nat) : State :=
  let b := tripFrame s kind f mask index value
  let fr : CanFrame := { id := s.rd F.POM_CAN_ID, fdf := true, brs := true, dlc := 12, data := b }
  let s := canSystem s (s.rd F.POM_CAN_CTRL) 0 fr
  let s := if inSpan s then s.emit (.xl (.trip b)) else s
  { s with pom := { s.pom with seq := (s.pom.seq + 1) % 16 } }

/-! ## Latches (R304) -/

/-- Show the latches in POM_TRIP and POM_STAT, and the degraded status of a COMP trip (R298). -/
def latchSync (s : State) : State :=
  let map := bitsWhere (fun f => (s.pom.latches.find? f).isSome) 18
  let s := (s.wr F.POM_TRIP_LATCH map).wrB F.POM_STAT_TRIPPED (map != 0)
  s.degrade 500 (map.testBit 15)

/-- Switches that some latched trip names. -/
def latchedMask (s : State) : Nat := s.pom.latches.foldl (fun a e => a ||| e.2.mask) 0

/-- The proof of one opening (R311): `stuck` says for each switch that the coil current was at least 50 mA and
the drain–source voltage of the channel opened first stayed at or below 2 V. -/
def slsProof (mask : Nat) (stuck : BitVec 4) (u : Nat) (s : State) : State :=
  if (s.rd F.POM_STAT_SLS_ON &&& mask).testBit u then
    let second := s.pom.proof.getLsbD u
    let s := if stuck.getLsbD u then (s.setBit F.POM_FLT_SLS_STUCK (2 * u + second.toNat)).degrade 501 true else s
    { s with pom := { s.pom with proof := s.pom.proof ^^^ BitVec.ofNat 4 (2 ^ u) } }
  else s

/-- Open the switches of a mask, proving one channel of each (R311). -/
def slsOpen (s : State) (mask : Nat) (stuck : BitVec 4) : State :=
  let s := forN (slsProof mask stuck) 4 s
  subSync (s.wr F.POM_STAT_SLS_ON (s.rd F.POM_STAT_SLS_ON &&& (15 - mask % 16)))

/-- Latch a trip (R304): switches, pattern, frame, record; SLS_ARM falls in the next tick. A trip that adds
nothing to its latch is none. The copy in the settings area follows within 10 ms; the model makes it at once. -/
def tripLatch (s : State) (f mask pattern index value : Nat) (stuck : BitVec 4) : State :=
  let old := s.pom.latches.find? f
  let have_ := (old.map (·.mask)).getD 0
  let pats := (old.map (·.patterns)).getD []
  if old.isSome && (have_ ||| mask) == have_ && pats.contains pattern then s
  else
    let l := SMap.set s.pom.latches f ⟨have_ ||| mask, if pats.contains pattern then pats else pats ++ [pattern]⟩
    let s := { s with pom := { s.pom with latches := l, saved := if flashOk s then l else s.pom.saved, trips := s.pom.trips + 1, armDrop := s.pom.armDrop || s.rdB F.POM_STAT_ARM } }
    let s := followAll (slsOpen (latchSync s) mask stuck)
    pomRecord (pomSend s 3 f mask index value) 1 f index value

/-! ## Evaluation (R302) -/

/-- The counter key of function `f` for a cell, sensor or link. -/
def pomKey (f i : Nat) : Nat := 65536 * f + i

/-- One evaluation that saw no qualifying sample (R305). -/
def pomSettle (m : SMap Nat) (k : Nat) : SMap Nat :=
  match m.find? k with
  | none => m
  | some n => if n ≤ 1 then m.dropRange k (k + 1) else m.set k (n - 1)

/-- Evaluate one function on one sample (R302): `q` it qualifies, `clear` it is VALID and does not. -/
def pomStep (s : State) (f i n mask value : Nat) (q clear : Bool) (stuck : BitVec 4) : State :=
  let k := pomKey f i
  if q then
    let c := s.pom.counters.get k 0 + 1
    let s := { s with pom := { s.pom with
      counters := s.pom.counters.set k c, settle := s.pom.settle.set k 16, dirtySet := true } }
    if n ≤ c then tripLatch s f mask (pomPattern s f) i value stuck else s
  else
    let cs := if clear then s.pom.counters.dropRange k (k + 1) else s.pom.counters
    { s with pom := { s.pom with counters := cs, settle := pomSettle s.pom.settle k } }

/-- The slot of the set before the one in slot `j`: after a plant-time step SEQ does not follow on (R154). -/
def slotBefore (s : State) (j : Nat) : Nat := if j = s.lat.seq % 16 then s.lat.prevSeq % 16 else (j + 15) % 16

/-- Functions 1, 2, 7 and 9 on a cell sample. -/
def pomCell (s : State) (j g : Nat) (stuck : BitVec 4) : State :=
  let v := cellVal s j g
  let mk := pomSeen s (cellMark s j g)
  if mk == 2 || mk == 3 then s
  else
    let ok := mk == 0
    let pj := slotBefore s j
    let pv := cellVal s pj g
    let both := ok && pomSeen s (cellMark s pj g) == 0
    let run := fun (t : State) f q => pomStep t f g (pomPersist t f) (pomMask t f) v (ok && q) ok stuck
    let s := run s 1 (decide (pomThr s 1 < (v : Int)))
    let s := run s 2 (decide ((v : Int) < pomThr s 2))
    let s := run s 7 (both && decide (pomThr s 7 < |(v : Int) - (pv : Int)|))
    if cellFitted s g then pomStep s 9 g (pomPersist s 9) (pomMask s 9) v (!ok) ok stuck else s

/-- Functions 5, 6, 8 and 10 on a conversion of an enabled link. -/
def pomConv (s : State) (j m p : Nat) (stuck : BitVec 4) : State :=
  let i := convI s j m p
  let mk := convMark s j m p
  if !s.bit F.MSR_CTL_EN m || mk == 2 || mk == 3 then s
  else
    let ok := mk == 0
    let pj := slotBefore s j
    let d := |i - convI s pj m p|
    let both := ok && convMark s pj m p == 0
    let run := fun (t : State) f q c => pomStep t f m (pomPersist t f) (pomLink t m 4) (ofInt 32 i) q c stuck
    let s := run s 5 (ok && decide (toInt 32 (pomLink s m 1) < i)) ok
    let s := run s 6 (ok && decide (i < toInt 32 (pomLink s m 2))) ok
    let s := run s 8 (both && decide (toInt 32 (pomLink s m 3) < d)) ok
    run s 10 (!ok) ok

/-- Functions 3 and 4 on a temperature reading. -/
def pomTemp (s : State) (t : Nat) (stuck : BitVec 4) : State :=
  let v := tempVal s t
  let mk := pomSeen s (tempMark s t)
  if mk == 2 || mk == 3 then s
  else
    let ok := mk == 0
    let run := fun (u : State) f q => pomStep u f t (pomPersist u f) (pomMask u f) (ofInt 32 v) (ok && q) ok stuck
    let s := run s 3 (decide (pomThr s 3 < v))
    run s 4 (decide (v < pomThr s 4))

/-- POMMEL_EVALUATE (R302): within 20 µs Pommel evaluates a newly written sample against every function that
applies to it. -/
def execPommelEvaluate (x : PomSample) (stuck : BitVec 4) (s : State) : Res :=
  .next (if !s.rdB F.POM_STAT_RUN then s
    else match x with
      | .cell j g => pomCell s j g stuck
      | .conv j m p => pomConv s j m p stuck
      | .temp t => pomTemp s t stuck)

/-- The tick at which the entry of sensor `t` is checked for the set with SEQ `seq`, when that check is due and not yet
made (R561). -/
def tempDueAt (s : State) (t seq : Nat) : Option Nat :=
  if seq % 5 = 0 ∧ seq / 5 % 8 = t % 8 then
    (s.pom.tempDue.find? fun e => e.1 == seq && decide (e.2 ≤ s.now) && s.pom.tempChecked.find? t != some e.2).map (·.2)
  else none

/-- TEMP_DUE_CHECK (R561): 12 ms after the trigger of the set with SEQ `seq`, the entry of sensor `t` counts as
not VALID for TSTALE if its SEQ[7:0] is not the set's or its mark is not VALID. -/
def execTempDueCheck (t : Fin 2304) (seq : BitVec 16) (stuck : BitVec 4) (s : State) : Res :=
  let mk := pomSeen s (tempMark s t)
  let fresh := (s.byteAt (tempAddr t + 3)).toNat == seq.toNat % 256
  .next (match (if s.rdB F.POM_STAT_RUN then tempDueAt s t seq.toNat else none) with
    | none => s
    | some due =>
      let s := { s with pom := { s.pom with tempChecked := s.pom.tempChecked.set t due } }
      if !sensorFitted s t || (fresh && (mk == 2 || mk == 3)) then s
      else
        let ok := fresh && mk == 0
        pomStep s 11 t.val (pomPersist s 11) (pomMask s 11) (ofInt 32 (tempVal s t)) (!ok) ok stuck)

/-- Has no set header been written for THR µs since the last one (Table 12-4, R561)? -/
def setStale (s : State) : Bool :=
  match s.pom.headerAt with
  | some t => decide ((t : Int) + 80 * pomThr s 12 ≤ s.now)
  | none => false

/-- SETSTALE (R302, R561): no set header for THR, counted from the first header after Pommel's start. -/
def execSetstale (stuck : BitVec 4) (s : State) : Res :=
  .next (if s.rdB F.POM_STAT_RUN && setStale s then
      pomStep s 12 0xFFFF 1 (pomMask s 12) 0 true false stuck
    else s)

/-- The functions and elements whose counters a write of parameter idx:sub clears (R314): a function's, or those of a
link's functions. -/
def pomCleared (idx sub : Nat) : List (Nat × Nat) :=
  if idx < 0x2A20 then [(65536 * (idx - 0x2A10), 65536 * (idx - 0x2A10 + 1))]
  else if idx < 0x2A24 then
    let fs := match sub with
      | 1 => [5]
      | 2 => [6]
      | 3 => [8]
      | _ => [5, 6, 8, 10]
    fs.map fun f => (pomKey f (idx - 0x2A20), pomKey f (idx - 0x2A20) + 1)
  else []

/-- A set header has been written: parameters written since take effect and clear their counters (R314), and the
set counts towards the 16 clean ones (R310); a set that refreshes temperature entries has them checked 12 ms after its
trigger (R561). -/
def pomSetEnd (s : State) : State :=
  let s := s.pom.pend.foldl (fun t e =>
    let cs := (pomCleared (e.1 / 256) (e.1 % 256)).foldl (fun m x => m.dropRange x.1 x.2) t.pom.counters
    let p := { t.pom with counters := cs }
    { t with objs := t.objs.set e.1 e.2, pom := p }) s
  let p := s.pom
  let n := if p.dirtySet then 0 else min 16 (p.cleanSets + 1)
  let due := p.tempDue.filter fun e => decide (s.now < e.2 + 960000)
  { s with pom := { p with
    tempDue := if s.lat.seq % 5 = 0 then due ++ [(s.lat.seq, s.lat.trigAt + 960000)] else due
    pend := [], headerAt := some s.now, dirtySet := false, cleanSets := n, settle := pomSettle p.settle (pomKey 12 0xFFFF) } }

/-! ## Start, lockstep and memory faults (R295-R301) -/

/-- Pommel starts, in BOOT or on wake: the fault record and the latches are loaded, SPLIT is read (R299, R300,
R304). -/
def pomStart (s : State) : State :=
  let s := (s.wr F.POM_STAT_RUN 1).wr F.POM_STAT_SPLIT (s.rd F.POM_BOOT_SPLIT)
  let s := (s.wrB F.POM_FLT_CORE s.pom.recCore).wrB F.POM_FLT_DLY s.pom.recDly
  latchSync { s with pom := { s.pom with halted := false, headerAt := none, injected := false, injAt := s.now, cleanSets := 0, dirtySet := false } }

/-- The reaction to a core fault (Table 12-2), which a delay-register fault and a double-bit error outside a
sample share: both channels forced open, SLS_ARM low, both cores halted, the stream stops. -/
def coreFault (s : State) (code info : Nat) : State :=
  let s := (slsDown s).wr F.POM_STAT_RUN 0
  State.hwFault { s with pom := { s.pom with halted := true } } code info

/-- LOCKSTEP_MISMATCH (R298): an unexpected mismatch in compare group `group`, off in split operation. -/
def execLockstepMismatch (group : Fin 16) (s : State) : Res :=
  .next (if !s.rdB F.POM_STAT_RUN || s.rdB F.POM_STAT_SPLIT then s
    else
      let t := coreFault s 0x0603 group
      { t with pom := { t.pom with recCore := true } })

/-- DELAY_REG_PARITY (R298): the next restart is cold. -/
def execDelayRegParity (s : State) : Res :=
  .next (if !s.rdB F.POM_STAT_RUN || s.rdB F.POM_STAT_SPLIT then s
    else
      let t := coreFault s 0x0603 16
      { t with pom := { t.pom with recDly := true }, girth := { t.girth with coldNext := true } })

/-- A comparator fault (Table 12-2): a COMP trip on every switch with pattern 0; Pommel keeps running. -/
def compFault (s : State) (stuck : BitVec 4) : State :=
  let s := pomRecord ((s.wr F.POM_FLT_COMP 1).hwFault 0x0603 15) 4 15 0xFFFF 0
  let s := { s with pom := { s.pom with compClear := false } }
  tripLatch s 15 0xF 0 0xFFFF 0 stuck

/-- One injection pass (R297): start-up or in service; `fault` says that an expected signal stayed out or that
the checker halves were not complementary. -/
def injection (s : State) (startup fault : Bool) (stuck : BitVec 4) : State :=
  if !s.rdB F.POM_STAT_RUN || s.rdB F.POM_STAT_SPLIT then s
  else if startup then
    let s := { s with pom := { s.pom with injected := true } }
    if fault then compFault (s.wr F.POM_STAT_INJ_OK 0) stuck
    else State.wr { s with pom := { s.pom with compClear := true } } F.POM_STAT_INJ_OK 1
  else
    let s := { s with pom := { s.pom with injAt := s.now, injPos := (s.pom.injPos + 1) % 64 } }
    if fault then compFault s stuck else s.incSat F.POM_INJ_CNT_PASSES

/-- INJECTION_PASS (R297): the start-up injection once after each start, a pass in service every 64 ms. -/
def execInjectionPass (startup fault : Bool) (stuck : BitVec 4) (s : State) : Res :=
  .next (if (if startup then s.pom.injected else decide (s.now < s.pom.injAt + 5120000)) then s
    else injection s startup fault stuck)

/-- PEER_CHECK (R300): in split operation a core found the other's word unchanged for 3 ms. -/
def execPeerCheck (stuck : BitVec 4) (s : State) : Res :=
  .next (if s.rdB F.POM_STAT_RUN && s.rdB F.POM_STAT_SPLIT then tripLatch s 16 0xF 0 0xFFFF 0 stuck else s)

/-- SRAM_ECC_ERROR (R301): a double-bit error in a sample word makes the sample STALE; any other is a fault
with the reaction to a core fault. -/
def execSramEccError (x : Option PomSample) (s : State) : Res :=
  let s := s.wr F.POM_FLT_ECC 1
  .next (match x with
    | none => coreFault s 0x0604 0
    | some (.cell j g) => putMark s (setSlot j.val + 0x2400) g 1
    | some (.conv j m p) =>
      let b := (s.byteAt (convAddr j m p + 8)).toNat
      s.putByte (convAddr j m p + 8) (BitVec.ofNat 8 (b - b % 4 + 1))
    | some (.temp t) => s.putByte (tempAddr t + 2) 1)

/-! ## Mailbox commands (R314) -/

/-- Answer a mailbox command, in POM_MB_RSP too. -/
def pomAnswer (s : State) (status data : Nat) : State :=
  ((s.wr F.POM_MB_RSP_STATUS status).wr F.POM_MB_DATA_DATA data).answer status data

/-- May every function that the mask names be reset (R305, R308)? -/
def resetAllowed (s : State) (mask : Nat) : Bool :=
  (List.range 18).all fun f => !mask.testBit f ||
    ((s.pom.settle.all fun e => e.1 / 65536 != f) && (f != 15 || s.pom.compClear || (s.pom.latches.find? 15).isNone) &&
      (f != 13 || s.pom.mirrorSeqs.isEmpty || (s.pom.latches.find? 13).isNone))

/-- TRIP_RESET of a function mask (R305). -/
def pomTripReset (s : State) (r : Req) (mask : Nat) : State :=
  if !r.supOrStitch then s.status 0x0207
  else if !s.rdB F.POM_STAT_RUN || !resetAllowed s mask then pomAnswer s 0x0303 0
  else
    let l := s.pom.latches.filter fun e => !mask.testBit e.1
    let p := { s.pom with latches := l, saved := if flashOk s then l else s.pom.saved }
    let s := latchSync { s with pom := p }
    let s := pomRecord (pomSend (followAll s) 4 0 0 0xFFFF 0) 2 0 0xFFFF 0
    pomAnswer s 0 0

/-- TRIP_RESET (R305). -/
def execTripReset (r : Req) (mask : BitVec 18) (s : State) : Res :=
  .next (hostWrite s r F.POM_MB_CMD_CMD.addr (pomTripReset s r mask.toNat))

/-- MANUAL_TRIP (R314): SLS mask and pattern. -/
def pomManual (s : State) (r : Req) (mask pattern : Nat) (stuck : BitVec 4) : State :=
  if !r.supOrStitch then s.status 0x0207
  else if 16 ≤ mask ∨ 8 ≤ pattern then pomAnswer s 0x0301 0
  else if !s.rdB F.POM_STAT_RUN then pomAnswer s 0x0303 0
  else pomAnswer (tripLatch s 14 mask pattern 0xFFFF 0 stuck) 0 0

/-- MANUAL_TRIP (R314). -/
def execManualTrip (r : Req) (mask : BitVec 4) (pattern : Fin 8) (stuck : BitVec 4) (s : State) : Res :=
  .next (hostWrite s r F.POM_MB_CMD_CMD.addr (pomManual s r mask.toNat pattern stuck))

/-- The status of a write of value `v` to parameter idx:sub (Table 12-9): 0 when it may be stored. -/
def pomParamCheck (idx sub v : Nat) : Nat :=
  if 0x2A11 ≤ idx ∧ idx ≤ 0x2A1E then
    let f := idx - 0x2A10
    match sub with
    | 1 => if f ≤ 4 ∨ f = 7 then 0 else if f = 12 then (if outside v 1000 100000 then 0x0301 else 0) else 0x0202
    | 2 => if f ≤ 12 then (if outside v (pomN f).2.1 (pomN f).2.2 then 0x0301 else 0) else 0x0202
    | 3 => if f ≤ 4 ∨ f = 7 ∨ f = 9 ∨ f = 11 ∨ f = 12 ∨ f = 13 then (if 15 < v then 0x0301 else 0) else 0x0202
    | 4 => if 7 < v then 0x0301 else 0
    | _ => 0x0202
  else if 0x2A20 ≤ idx ∧ idx ≤ 0x2A23 then
    (if sub = 0 ∨ 4 < sub then 0x0202 else if sub = 4 ∧ 15 < v then 0x0301 else 0)
  else if 0x2A30 ≤ idx ∧ idx ≤ 0x2A37 then (if sub = 0 ∨ 4 < sub then 0x0202 else 0)
  else if idx = 0x2A00 then
    (if sub = 1 then (if 1 < v then 0x0301 else 0) else if sub = 7 then (if 63 < v then 0x0301 else 0) else 0x0202)
  else if idx = 0x2A01 then
    (if sub = 1 then (if 7 < v then 0x0301 else 0) else if sub = 2 ∨ sub = 3 then (if 2047 < v then 0x0301 else 0)
     else 0x0202)
  else 0x0201

/-- The register that mirrors a parameter, where one does. -/
def pomParamReg (idx sub : Nat) : Option Field :=
  match idx, sub with
  | 0x2A00, 1 => some F.POM_BOOT_SPLIT
  | 0x2A00, 7 => some F.POM_EVQ_QUEUE
  | 0x2A01, 1 => some F.POM_CAN_CTRL
  | 0x2A01, 2 => some F.POM_CAN_ID
  | 0x2A01, 3 => some F.POM_CAN_PARTNER_ID
  | _, _ => none

/-- The default of a parameter that no register mirrors. -/
def pomParamDflt (idx sub : Nat) : Nat :=
  if 0x2A11 ≤ idx ∧ idx ≤ 0x2A1E then
    match sub with
    | 1 => pomThrDflt (idx - 0x2A10)
    | 2 => (pomN (idx - 0x2A10)).1
    | 3 => 0x0F
    | _ => 0
  else if 0x2A20 ≤ idx ∧ idx ≤ 0x2A23 then pomLinkDflt sub
  else 0

/-- PARAM_WRITE (R314): only in SERVICE; in force from the next set. -/
def pomParamWrite (s : State) (r : Req) (idx sub v : Nat) : State :=
  let c := pomParamCheck idx sub v
  if !r.supOrStitch then s.status 0x0207
  else if s.mode != mSERVICE then pomAnswer s 0x0208 0
  else if c != 0 then pomAnswer s c 0
  else match pomParamReg idx sub with
    | some f => pomAnswer (s.wr f v) 0 0
    | none => pomAnswer { s with pom := { s.pom with pend := s.pom.pend ++ [(objKey idx sub, v)] } } 0 0

/-- PARAM_WRITE (R314): ARG0 holds the index's low byte and the sub-index. -/
def execParamWrite (r : Req) (idx sub : BitVec 8) (v : Word) (s : State) : Res :=
  .next (hostWrite s r F.POM_MB_CMD_CMD.addr (pomParamWrite s r (0x2A00 + idx.toNat) sub.toNat v.toNat))

/-- The value of a parameter. -/
def pomParam (s : State) (idx sub : Nat) : Nat :=
  match pomParamReg idx sub with
  | some f => s.rd f
  | none => s.obj idx sub (pomParamDflt idx sub)

/-- PARAM_READ (R314). -/
def pomParamRead (s : State) (r : Req) (idx sub : Nat) : State :=
  let v := pomParam s idx sub
  let c := pomParamCheck idx sub v
  if !r.supOrStitch then s.status 0x0207 else if c != 0 then pomAnswer s c 0 else pomAnswer s 0 v

/-- PARAM_READ (R314). -/
def execParamRead (r : Req) (idx sub : BitVec 8) (s : State) : Res :=
  .next (hostWrite s r F.POM_MB_CMD_CMD.addr (pomParamRead s r (0x2A00 + idx.toNat) sub.toNat))

/-- INJECT_NOW (R314): one in-service pass; a failure is a comparator fault. -/
def pomInject (s : State) (r : Req) (fault : Bool) (stuck : BitVec 4) : State :=
  if !r.supOrStitch then s.status 0x0207
  else if !s.rdB F.POM_STAT_RUN then pomAnswer s 0x0303 0
  else pomAnswer (injection s false fault stuck) (if fault then 0x0603 else 0) 0

/-- INJECT_NOW (R314). -/
def execInjectNow (r : Req) (fault : Bool) (stuck : BitVec 4) (s : State) : Res :=
  .next (hostWrite s r F.POM_MB_CMD_CMD.addr (pomInject s r fault stuck))

/-! ## The partner, suspects, SAFE-LS (R308-R312) -/

/-- A trip message or frame from the partner (R308): a MIRROR trip on the switches both masks name; the second
copy of one trip is matched by SEQ. -/
def mirrorTrip (s : State) (bytes : List Byte) (stuck : BitVec 4) : State :=
  let b0 := byteNat bytes 0
  let mask := byteNat bytes 2 / 2 % 16 &&& pomMask s 13
  if b0 / 16 != 3 || !s.rdB F.POM_STAT_RUN then s
  else if s.pom.mirrorSeqs.contains (b0 % 16) then s
  else
    let s := tripLatch s 13 mask (pomPattern s 13) 0xFFFF 0 stuck
    { s with pom := { s.pom with mirrorSeqs := s.pom.mirrorSeqs ++ [b0 % 16] } }

/-- MIRROR_TRIP_RX (R308): bytes 0 to 23 of Table 12-5, by XL or on CAN. -/
def execMirrorTripRx (bytes : List Byte) (stuck : BitVec 4) (s : State) : Res := .next (mirrorTrip s bytes stuck)

/-- MIRROR_RESET_RX (R308): a reset frame or message with the mirrored trip's SEQ has arrived. -/
def mirrorResetRx (s : State) (bytes : List Byte) : State :=
  if byteNat bytes 0 / 16 == 4 then
    { s with pom := { s.pom with mirrorSeqs := s.pom.mirrorSeqs.erase (byteNat bytes 0 % 16) } }
  else s

/-- MIRROR_RESET_RX (R308). -/
def execMirrorResetRx (bytes : List Byte) (s : State) : Res := .next (mirrorResetRx s bytes)

/-- A suspect report of Table 11-7 reaches Pommel (R312): counted and recorded, with the lowest mismatched cell
as the index and the count of mismatched cells as the value. -/
def suspectTake (s : State) (report : List Byte) : State :=
  pomRecord (s.incSat F.POM_SUSP_CNT_CNT) 3 0 (halfNat report 8) (halfNat report 2)

/-- SUSPECT_REPORT_RX (R286, R312): Pommel takes the oldest report of the path. -/
def execSuspectReportRx (s : State) : Res :=
  .next (match s.til.path with
    | [] => s
    | b :: r => suspectTake { s with til := { s.til with path := r } } b)

/-- SLS_OVERCURRENT (R309): a channel of SAFE-LSu stayed in current limit for 100 µs. -/
def execSlsOvercurrent (u : Fin 4) (stuck : BitVec 4) (s : State) : Res :=
  let s := pomRecord (s.setBit F.POM_FLT_SLS_OC u) 5 17 u 0
  .next (tripLatch s 17 (2 ^ u.val) 0 u 0 stuck)

/-- The conditions of R310, switch by switch apart from the latches. -/
def slsMayClose (s : State) : Bool :=
  s.rdB F.POM_STAT_RUN && (s.mode == mRUN || s.mode == mSERVICE ||
      (s.mode == mHANDOFF && !(ownsNone s && ringsMastered s == 0))) &&
    (s.rdB F.POM_STAT_INJ_OK || s.rdB F.POM_STAT_SPLIT) && decide (16 ≤ s.pom.cleanSets)

/-- SLS_CLOSE (R310): Pommel makes conducting, together, every switch that no latched trip names. -/
def slsClose (s : State) : State :=
  if slsMayClose s then subSync (s.wr F.POM_STAT_SLS_ON (15 - latchedMask s % 16)) else s

/-- SLS_CLOSE (R310). -/
def execSlsClose (s : State) : Res := .next (slsClose s)

/-- SLS_ARM_RAISE (R60, R61, R65): 2 ms with all four switches conducting. -/
def execSlsArmRaise (s : State) : Res :=
  .next (if s.rd F.POM_STAT_SLS_ON == 15 && !s.girth.unpaired && (s.mode == mRUN || s.mode == mSERVICE || s.mode == mHOLD) then
      subSync (s.wr F.POM_STAT_ARM 1)
    else s)

/-- A write of another mailbox register (R314): by the supervisor or Stitch; SPLIT only in SERVICE; writing 1 to
CORE or DLY clears the record in PD0 as well (R299). -/
def pomWrite (s : State) (r : Req) (a v : Nat) : State :=
  if !r.supOrStitch then s.status 0x0207
  else if a = 0x2060000C ∧ s.mode ≠ mSERVICE then s.status 0x0208
  else
    let s := s.writeWord a v
    let s := if a = 0x20600004 then
        let p := { s.pom with recCore := s.pom.recCore && !v.testBit 0, recDly := s.pom.recDly && !v.testBit 1 }
        let s := { s with pom := p }
        s.degrade 501 (s.rd F.POM_FLT_SLS_STUCK != 0)
      else s
    s.status 0

/-- A write of POM_MB_CMD: the key, then the command with the arguments held (R314); `stuck` and `fault` are the outcomes
of the proofs and of the injection that it may make. -/
def pomMailbox (s : State) (r : Req) (v : Nat) (stuck : BitVec 4) (fault : Bool) : State :=
  let a0 := s.rd F.POM_MB_ARG0_ARG0
  let a1 := s.rd F.POM_MB_ARG1_ARG1
  if !r.supOrStitch || v / 65536 != 0x6B19 then s.status 0x0207
  else match v % 256 with
    | 1 => pomTripReset s r a0
    | 2 => pomManual s r (a0 % 2 ^ 32) a1 stuck
    | 3 => pomParamWrite s r (0x2A00 + a0 % 256) (a0 / 256 % 256) a1
    | 4 => pomParamRead s r (0x2A00 + a0 % 256) (a0 / 256 % 256)
    | 5 => pomInject s r fault stuck
    | _ => pomAnswer s 0x030B 0

end Sys2Proof.Machine
end

