-- ==== Sys2Proof/Machine/Capture.lean ====
section
/-! DEFINITION. The capture ring and the capture dumps (08_measurement_capture.md, R215-R223). -/

namespace Sys2Proof.Machine

/-! ## The ring (R215-R219) -/

/-- Address of the cells and of the directory record of slot `i`. -/
def capCells (s : State) (i : Nat) : Nat := capBase s + 9216 * i
def capDir (s : State) (i : Nat) : Nat := capDirBase s + 2048 * i

/-- Slot of set number `n`. -/
def capSlot (s : State) (n : Nat) : Nat := n % capSets s

/-- Capture starts at slot 0 with SETNO 0 (R219). -/
def capRestart (s : State) : State :=
  let s := { capClearAll s with cap := {} }
  (((s.wr F.CAP_NSETS_N (capSets s)).wr F.CAP_WR_IDX_IDX 0).wr F.CAP_SET_CNT_SETNO 0).wr F.CAP_STAT_RUNNING 1

/-- Do both regions lie in DRAM outside every plot's partition (R216)? -/
def capRegionsOk (s : State) : Bool :=
  inFreeDram s (capBase s) (capPlane s) && inFreeDram s (capDirBase s) (2048 * capSets s)

/-- Turn capture on if its configuration allows it, else set CFG_ERR (R216). -/
def capOn (s : State) : State :=
  if capRegionsOk s then capRestart (s.wr F.CAP_CTL_EN 1) else s.wr F.CAP_STAT_CFG_ERR 1

/-- Turn capture off; RUNNING sweeps end (R290). -/
def capOff (s : State) : State :=
  jobsFail (State.wr (State.wr { tilStopNote s true with cap := {} } F.CAP_CTL_EN 0) F.CAP_STAT_RUNNING 0)
    (fun x => x.kind == 3 && x.state == 2) 0x0809

/-- Is a dump job RUNNING or SUSPENDED (R220)? -/
def dumpHolds (s : State) : Bool :=
  (List.range 32).any fun j => (s.job j).kind == 4 && ((s.job j).state == 2 || (s.job j).state == 3)

/-- A write of CAP_CTL (R216, R220). -/
def capCtlWrite (s : State) (r : Req) (v : Nat) : State :=
  let en := s.rdB F.CAP_CTL_EN
  let size := F.CAP_CTL_SIZE.slice v
  if !r.supOrStitch then s.status 0x0207
  else if en && size != s.rd F.CAP_CTL_SIZE then s.status 0x0303
  else if en && v % 2 == 0 && dumpHolds s then s.status 0x0303
  else
    let s := s.wr F.CAP_CTL_SIZE size
    if v % 2 = 1 then
      if en then s.status 0
      else
        let t := capOn s
        t.status (if t.rdB F.CAP_CTL_EN then 0 else 0x0302)
    else if en then (capOff s).status 0 else s.status 0

/-- CAP_CTL_WRITE (R216). -/
def execCapCtlWrite (r : Req) (v : Word) (s : State) : Res := .next (hostWrite s r 0x20300800 (capCtlWrite s r v.toNat))

/-! ## Writing a set (R217, R218) -/

/-- Is a set being written into the ring? -/
def capWriting (s : State) : Bool := s.rdB F.CAP_CTL_EN && s.cap.writing

/-- The slot in hand. -/
def capNow (s : State) : Nat := capSlot s s.cap.setno

/-- Open the record of a new set: SETNO with COMPLETE clear, then SEQ, ANGLE, PTIME and the sensor (Table 8-4). -/
def capOpen (s : State) (seq : Nat) (st : Stamp) : State :=
  if s.rdB F.CAP_CTL_EN then
    let s := { s with cap := { s.cap with writing := true } }
    let a := capDir s (capNow s)
    s.putBytes a (le 4 s.cap.setno ++ le 2 seq ++ le 2 0 ++ st.ang.bytes ++ st.pt.bytes ++ le 1 (seq / 5 % 8) ++ le 1 0)
  else s

/-- One cell of the set in hand. -/
def capCell (s : State) (g v mark : Nat) : State :=
  if capWriting s then
    let i := capNow s
    putMark (s.putBytes (capCells s i + 2 * g) (le 2 v)) (capDir s i + 704) g mark
  else s

/-- One temperature of the set in hand, node index 24c + n. -/
def capTemp (s : State) (x v mark : Nat) : State :=
  if capWriting s then
    let d := capDir s (capNow s)
    putMark (s.putBytes (d + 128 + 2 * x) (le 2 v)) (d + 1856) x mark
  else s

/-- The MSR block of link `m`: current, voltage and MARK byte. -/
def capLink (s : State) (m : Nat) (i v : Int) (mark : Nat) : State :=
  if capWriting s then
    s.putBytes (capDir s (capNow s) + 64 + 16 * m) (le 4 (ofInt 32 i) ++ le 4 (ofInt 32 v) ++ le 1 mark ++ le 7 0)
  else s

/-- Complete the set in hand: STALE count, zeros, FLAGS with COMPLETE; CAP_WR_IDX and CAP_SET_CNT name it. -/
def capComplete (s : State) (flags staleCells : Nat) : State :=
  if capWriting s then
    let i := capNow s
    let n := s.cap.setno
    let d := capDir s i
    let s := (s.putBytes (d + 28) (le 36 staleCells)).putBytes (d + 1928) (le 120 0)
    let s := s.putBytes (d + 6) (le 2 (flags ||| 1))
    let s := (s.wr F.CAP_WR_IDX_IDX i).wr F.CAP_SET_CNT_SETNO n
    { s with cap := { setno := (n + 1) % 2 ^ 32, writing := false } }
  else s

/-! ## Dumps (R220-R222) -/

/-- The parameters of a dump job as START reads them: TRIGGER, TIME (ns), PRE, POST, FIRST, LAST, DEST, DESTLEN, then
the trips latched at START, S + 1 once S is known (else 0), sets copied, and the PTIME of S as its ten bytes' number. -/
structure DumpPar where
  trigger : Nat
  time : Nat
  pre : Nat
  post : Nat
  first : Nat
  last : Nat
  dest : Nat
  len : Nat
  trips : Nat
  sel : Nat
  count : Nat
  at_ : Nat

def dumpPar (x : Job) : DumpPar :=
  let g := fun i => x.par.getD i 0
  ⟨g 0, g 1, g 2, g 3, g 4, g 5, g 6, g 7, g 8, g 9, g 10, g 11⟩

def DumpPar.list (d : DumpPar) : List Nat :=
  [d.trigger, d.time, d.pre, d.post, d.first, d.last, d.dest, d.len, d.trips, d.sel, d.count, d.at_]

/-- Cells of one record, and RECLEN (R221). -/
def DumpPar.cells (d : DumpPar) : Nat := d.last - d.first + 1
def DumpPar.reclen (d : DumpPar) : Nat := (96 + 2 * d.cells + (d.cells + 3) / 4 + 7) / 8 * 8
def DumpPar.sets (d : DumpPar) : Nat := d.pre + d.post

/-- The first set of the dump, and the sets it covers, once S is known: no set lies before SETNO 0. -/
def DumpPar.from_ (d : DumpPar) : Nat := d.sel - 1 - d.pre
def DumpPar.todo (d : DumpPar) : Nat := d.post + min d.pre (d.sel - 1)

/-- A PTIME object's number as nanoseconds. -/
def ptimeNs (v : Nat) : Nat := v / 2 ^ 32 * 1000000000 + v % 2 ^ 32

/-- The parameters of plot `p` at objects 0x2910 + p (Table 8-9). -/
def dumpRead (s : State) (p : Nat) : DumpPar :=
  let o := fun sub d => s.obj (0x2910 + p) sub d
  ⟨o 1 0, ptimeNs (o 2 0), o 3 400, o 4 400, o 5 0, o 6 4607, o 7 0, o 8 0, s.pom.trips, 0, 0, 0⟩

/-- The check of START (R220). -/
def dumpCheck (s : State) (p : Nat) (d : DumpPar) : Option Nat :=
  if s.rd F.CAP_NSETS_N < d.sets + 400 ∨ d.last < d.first ∨ 4607 < d.last ∨ 2 < d.trigger then some 0x0301
  else if !inPlotDram s p d.dest d.len ∨ d.len < 64 + d.reclen * d.sets then some 0x0209
  else none

/-- The bytes of the header; `status` is the final status (Table 8-5). -/
def dumpHeader (d : DumpPar) (status : Nat) : List Byte :=
  le 2 1 ++ le 1 d.trigger ++ le 1 0 ++ le 2 d.first ++ le 2 d.last ++ le 4 d.reclen ++ le 4 d.count ++ le 4 (d.sel - 1) ++
    le 10 d.at_ ++ le 2 status

/-- The marks of cells FIRST to LAST, four to a byte, counted from FIRST. -/
def dumpMarks (s : State) (dir first cells : Nat) : Nat → List Byte
  | 0 => []
  | n + 1 =>
    let mk := fun i => if i < cells then (s.byteAt (dir + 704 + (first + i) / 4)).toNat / 4 ^ ((first + i) % 4) % 4 else 0
    dumpMarks s dir first cells n ++ [BitVec.ofNat 8 (mk (4 * n) + 4 * mk (4 * n + 1) + 16 * mk (4 * n + 2) + 64 * mk (4 * n + 3))]

/-- The record of set `n` (R221). -/
def dumpRecord (s : State) (d : DumpPar) (n : Nat) : List Byte :=
  let i := capSlot s n
  let dir := capDir s i
  let body := s.bytesAt dir 26 ++ le 6 0 ++ s.bytesAt (dir + 64) 64 ++ s.bytesAt (capCells s i + 2 * d.first) (2 * d.cells) ++
    dumpMarks s dir d.first d.cells ((d.cells + 3) / 4)
  body ++ le (d.reclen - body.length) 0

/-- Has the ring completed set `n`, and is it still there? -/
def capHas (s : State) (n : Nat) : Bool := decide (n < s.cap.setno)
def capLost (s : State) (n : Nat) : Bool := decide (n + capSets s < s.cap.setno + s.cap.writing.toNat)

/-- Copy at most `k` further sets of dump job `j`. -/
def dumpCopy (s : State) (j : Nat) : Nat → State
  | 0 => s
  | k + 1 =>
    let s := dumpCopy s j k
    let x := s.job j
    let d := dumpPar x
    if d.sel = 0 ∨ d.todo ≤ d.count ∨ !capHas s (d.from_ + d.count) then s
    else
      let s := s.putBytes (d.dest + 64 + d.reclen * d.count) (dumpRecord s d (d.from_ + d.count))
      let c := d.count + 1
      s.setJob j { x with par := { d with count := c }.list, progress := 1000 * c / d.sets }

/-- The header of dump job `j` with COUNT 0 (Table 8-6). -/
def dumpHead (s : State) (j : Nat) : State :=
  let d := dumpPar (s.job j)
  s.putBytes d.dest (dumpHeader d 0 ++ le 32 0)

/-- S is chosen, and its stamp kept; a job that has begun writes its header (Table 8-6). -/
def dumpSelect (s : State) (j n : Nat) : State :=
  let x := s.job j
  let d := { dumpPar x with sel := n + 1, at_ := s.numAt (capDir s (capSlot s n) + 16) 10 }
  let s := s.setJob j { x with par := d.list }
  if x.begun then dumpHead s j else s

/-- The first set that the ring holds, the one in hand with them, whose τ is at or after `time` (R221). -/
def dumpPast (s : State) (time : Nat) : Option Nat :=
  let hi := s.cap.setno + s.cap.writing.toNat
  let lo := hi - capSets s
  ((List.range (hi - lo)).map (lo + ·)).find? fun n =>
    let b := s.bytesAt (capDir s (capSlot s n) + 16) 10
    decide (time ≤ ofLe (b.drop 4) * 1000000000 + ofLe (b.take 4))

/-- S of a dump job at its START, where it is known then (R221): with TRIGGER 0 the last complete set, with TRIGGER 1 the first
set at or after TIME, once there is one. -/
def dumpChoose (s : State) (j : Nat) : State :=
  let d := dumpPar (s.job j)
  if d.trigger = 0 then dumpSelect s j (s.rd F.CAP_SET_CNT_SETNO)
  else if d.trigger = 1 ∧ s.rdB F.CAP_CTL_EN then
    match dumpPast s d.time with
    | some n => dumpSelect s j n
    | none => s
  else s

/-- A dump job runs for the first time: the header of one whose S is known. -/
def dumpStart (s : State) (j : Nat) : State := if (dumpPar (s.job j)).sel = 0 then s else dumpHead s j

/-- Does the set that opens now become S of job `j` (R221)? -/
def dumpTriggered (s : State) (j : Nat) : Bool :=
  let x := s.job j
  let d := dumpPar x
  x.kind == 4 && x.active && d.sel == 0 &&
    ((d.trigger == 1 && decide (d.time ≤ s.lat.st.pt.toNs)) || (d.trigger == 2 && decide (d.trips < s.pom.trips)))

/-- At a sample trigger: jobs that wait for their S, running or not, take the set in hand. -/
def dumpTrigger (s : State) : State :=
  forN (fun j t => if dumpTriggered t j then dumpSelect t j t.cap.setno else t) 32 s

/-- At a set deadline every RUNNING dump copies up to 4 sets: 16,000 a second (R221). -/
def dumpProgress (s : State) : State :=
  forN (fun j t => if (t.job j).kind == 4 && (t.job j).state == 2 then dumpCopy t j 4 else t) 32 s

/-- Rewrite the header with COUNT and the final status (R221, R222). -/
def dumpClose (s : State) (j status : Nat) : State :=
  let d := dumpPar (s.job j)
  s.putBytes d.dest (dumpHeader d status)

/-- DUMP_DONE (R221): the last set is copied. -/
def execDumpDone (j : Fin 32) (s : State) : Res :=
  let x := s.job j
  let t := dumpCopy s j (dumpPar x).sets
  let d := dumpPar (t.job j)
  .next (if x.kind == 4 && x.state == 2 && d.sel != 0 && d.count == d.todo then jobTo (dumpClose t j 0) j 4 0 else s)

end Sys2Proof.Machine
end

