-- ==== Sys2Proof/Machine/Trellis.lean ====
section
/-! DEFINITION. The commands of Trellis (05_trellis_angle.md): tracking, lock and holdover, event slots and the
actions on outputs and queues. -/

namespace Sys2Proof.Machine

/-! ## Increment, slew and lock (R115, R121-R126) -/

/-- INC for a frequency in µHz, in 2^-32 ac per tick. -/
def incOfFreq (f : Nat) : Nat := f * 2 ^ 64 / 80000000000000

/-- The seed of the FNOM in force (R125). -/
def fnomFreq (s : State) : Nat := if s.rdB F.TRL_CTL_FNOM then 60000000 else 50000000

/-- Set the tracked frequency: the increment before slewing, and TRL_FREQ. -/
def setFreq (s : State) (f : Nat) : State :=
  let s := { s with trl := { s.trl with base := BitVec.ofNat 48 (incOfFreq f) } }
  (setInc s (incOfFreq f)).wr F.TRL_FREQ_FREQ f

/-- SLEW of R124 in thousandths of the frequency. -/
def slewPart (s : State) : Nat :=
  match s.rd F.TRL_CTL_SLEW with
  | 0 => 5
  | 1 => 10
  | 2 => 20
  | _ => 50

/-- The error of an angle `d` (ac, modulo 2^32) in the interval (−180°, +180°] (R124). -/
def slewInterval (d : Nat) : Int :=
  let x : Nat := d % 2 ^ 32
  if x ≤ 2 ^ 31 then (x : Int) else (x : Int) - 2 ^ 32

/-- INC while an error is slewed out: the tracked frequency's, scaled by (1 ± SLEW) (R124). -/
def slewScale (s : State) : State :=
  let base := s.trl.base.toNat
  let part := base * slewPart s / 1000
  setInc s (if s.trl.slewErr < 0 then base - part else base + part)

/-- Begin to slew an error of `err` ac out: INC is scaled and LOCK waits (R124). -/
def slewStart (s : State) (err : Int) : State :=
  let s := slewScale { s with trl := { s.trl with slewErr := err * 2 ^ 32 } }
  (s.wr F.TRL_STAT_SLEWING 1).wr F.TRL_STAT_LOCK 0

/-- The loop bandwidth in Hz: 20 Hz until lock, then as Table 5-2 sets (R121). -/
def trlBandwidth (s : State) : Nat :=
  if !s.rdB F.TRL_STAT_LOCK then 20
  else match s.rd F.TRL_CTL_BW with
    | 0 => 2
    | 1 => 5
    | 2 => 10
    | _ => 20

/-- What the loop adds to the frequency, µHz, for a phase error `e` in 2^16 ac: √2 · ω_n · e of a type-2 loop with damping
0.707, whose 3 dB bandwidth is that of R121; ω_n² = 9.3196 · bandwidth², as the errors of Table 5-2 show (log entry 64). -/
def trlPull (s : State) (e : Int) : Int := 4317300 * trlBandwidth s * e / 65536

/-- The tracker follows its source: frequency `f` and phase error `e` (R115, R121); INC never falls below 0.95 times the
increment of the frequency. -/
def trlFollow (s : State) (f : Nat) (e : Int) : State :=
  let g := max ((f : Int) + trlPull s e) (f * 95 / 100)
  let s := { s with trl := { s.trl with base := BitVec.ofNat 48 (incOfFreq g.toNat) } }
  let s := s.wr F.TRL_FREQ_FREQ f
  if s.rdB F.TRL_STAT_SLEWING then slewScale s else setInc s s.trl.base.toNat

/-- Full stamp as one number of ac. -/
def AStamp.acs (a : AStamp) : Nat := a.cycle.toNat * 2 ^ 32 + a.angle.toNat

/-- A number of ac as a stamp. -/
def AStamp.ofAcs (x : Nat) : AStamp := ⟨BitVec.ofNat 32 (x / 2 ^ 32), BitVec.ofNat 32 x⟩

/-- angle_ref(P) of R120: STAMP + (P − PT) · FREQ · 2^32 / 10^6, in ac, at plant time `p` ns. -/
def netAngle (m : NetSender) (p : Nat) : Nat :=
  AStamp.acs m.stamp + (p - m.pt.toNs) * m.freq * 2 ^ 32 / 1000000000000000

/-- The error of the tracked angle against a message of `m`: the extrapolated angle plus TRL_REF_OFS, less the tracked one
(R116, R120). -/
def netErr (s : State) (m : NetSender) : Int :=
  slewInterval (netAngle m s.ptNs % 2 ^ 32 + s.rd F.TRL_REF_OFS_OFS + 2 ^ 32 - s.trl.ang.toNat)

/-- The lowest SENDER of a list. -/
def lowestSender (l : List NetSender) : Option NetSender :=
  l.foldl (fun a m => match a with
    | none => some m
    | some b => if m.sender < b.sender then some m else some b) none

/-- The senders with a valid message that is held: without limit of age until NET_TIMEOUT (log entry 15). -/
def netHeld (s : State) : List NetSender := s.trl.senders.filter fun m => m.inRow != 0

/-- The sender that Trellis follows: the lowest SENDER among those with valid messages (R120). -/
def netFollowed (s : State) : Option NetSender := lowestSender (netHeld s)

/-- The cycle number of the first lock (R125): that of a held message within 30°, the lowest SENDER's of several (log entry
15), else floor(P · f_nom). -/
def firstCycle (s : State) : State :=
  let p := s.ptNs
  let s := { s with trl := { s.trl with lastCyc := [] } }
  match lowestSender ((netHeld s).filter fun m => decide ((netErr s m).natAbs ≤ 357913941)) with
  | some m => State.wr { s with trl := { s.trl with cyc := BitVec.ofNat 32 (netAngle m p / 2 ^ 32) } } F.TRL_STAT_CYC_ADOPTED 1
  | none => { s with trl := { s.trl with cyc := BitVec.ofNat 32 (p * (fnomFreq s / 1000000) / 1000000000) } }

/-- LOCK sets: holdover and its degraded status end; the first lock writes the cycle number (R125, R127). -/
def lockSet (s : State) : State :=
  let s := setInc s s.trl.base.toNat
  let s := if s.rdB F.TRL_STAT_NEVER_LOCKED then firstCycle s else s
  let s := (((s.wr F.TRL_STAT_LOCK 1).wr F.TRL_STAT_HOLDOVER 0).wr F.TRL_STAT_NEVER_LOCKED 0).wr F.TRL_STAT_SLEWING 0
  let s := (s.wr F.TRL_STAT_HO_LONG 0).degrade 600 false
  { s with trl := { s.trl with slewErr := 0, hoAt := none } }

/-- The source that SRC permits: under AUTO, NET only while GRID does not hold (R118). -/
def srcAllows (s : State) (net : Bool) : Bool :=
  match s.rd F.TRL_CTL_SRC with
  | 0 => !net
  | 1 => net
  | _ => !net || s.rd F.TRL_STAT_SRC_ACT != 1

/-- The GRID lock criteria of Table 5-3 hold: 10 reference cycles in a row with amplitude and frequency within them, and an
RMS phase error over these of at most 2° (364 · 2^16 ac). -/
def gridReady (s : State) : Bool := decide (10 ≤ s.trl.okRun) && decide (s.trl.rms ≤ 364)

/-- A sender whose messages meet the NET lock criterion (Table 5-3). -/
def netReady (s : State) : Option NetSender :=
  match netFollowed s with
  | some m => if 3 ≤ m.inRow then some m else none
  | none => none

/-- Is a source already the active one, in lock or with its error being slewed out? -/
def srcHeld (s : State) (act : Nat) : Bool :=
  s.rd F.TRL_STAT_SRC_ACT == act && (s.rdB F.TRL_STAT_LOCK || s.rdB F.TRL_STAT_SLEWING)

/-- A source becomes the active one: an error of `err` ac is slewed out; with none, LOCK sets at once (R118, R124). -/
def srcTake (s : State) (act f : Nat) (err : Int) : State :=
  let s := setFreq (s.wr F.TRL_STAT_SRC_ACT act) f
  if err = 0 then lockSet s else slewStart s err

/-- LOCK_ACQUIRE (R122, R124): the criteria of a source have come to hold. For GRID, `err` is the reference fundamental's angle
less the tracked one before TRL_REF_OFS is added, and `freq` its frequency; for NET the followed sender gives both. -/
def execLockAcquire (net : Bool) (err : BitVec 32) (freq : BitVec 32) (s : State) : Res :=
  .next (if !srcAllows s net || srcHeld s (if net then 2 else 1) then s
    else if net then
      match netReady s with
      | some m => srcTake s 2 m.freq (netErr s m)
      | none => s
    else if gridReady s then
      srcTake s 1 freq.toNat (slewInterval (err.toNat + s.rd F.TRL_REF_OFS_OFS))
    else s)

/-- SLEW_DONE (R124): the slewed error has reached zero. -/
def execSlewDone (s : State) : Res :=
  .next (if s.rdB F.TRL_STAT_SLEWING && s.trl.slewErr == 0 then lockSet s else s)

/-- The holdover frequency: the mean over the reference cycles k − 9 to k − 2, where loss is declared during cycle k and the
last complete one is k − 1, clamped to 45 Hz to 65 Hz (R123); with fewer complete cycles, the mean of those, and with none the
present frequency (log entry 15). -/
def holdoverFreq (s : State) : Nat :=
  let w := (s.trl.refFreqs.drop 1).take 8
  let m := if w.isEmpty then s.rd F.TRL_FREQ_FREQ else w.sum / w.length
  if m < 45000000 then 45000000 else if 65000000 < m then 65000000 else m

/-- Lock is lost and no other source can be used (R123); while NEVER_LOCKED the angle free-runs at FNOM (R124). -/
def enterHoldover (s : State) : State :=
  let s := { s with trl := { s.trl with slewErr := 0, hoAt := some s.now } }
  let s := ((s.wr F.TRL_STAT_LOCK 0).wr F.TRL_STAT_SLEWING 0).wr F.TRL_STAT_SRC_ACT 0
  if s.rdB F.TRL_STAT_NEVER_LOCKED then setFreq s (fnomFreq s)
  else setFreq ((s.wr F.TRL_STAT_HOLDOVER 1).wr F.TRL_FLT_LOCK_LOST 1) (holdoverFreq s)

/-- The active source is gone: the other one, when it may be used, by slewing (R118); else holdover (R123). -/
def sourceGone (s : State) (other : Option NetSender) : State :=
  match other with
  | some m => srcTake s 2 m.freq (netErr s m)
  | none => enterHoldover s

/-- LOCK_LOSS (R122-R124): the loss criteria of GRID that hold, by what the last reference cycles showed: amplitude below
0.1 V, frequency out of range for 2 cycles, phase error above 10° in 3 cycles. Under AUTO with NET in lock the source changes
by slewing; otherwise holdover. -/
def execLockLoss (ampLow freqRange phaseErr : Bool) (s : State) : Res :=
  let a := ampLow && decide (s.trl.amp < 50)
  let f := freqRange && decide (2 ≤ s.trl.offRun)
  let p := phaseErr && decide (3 ≤ s.trl.phRun)
  .next (if !(a || f || p) then s
    else
      let s := if a then s.wr F.TRL_FLT_AMP_LOW 1 else s
      let s := if f then s.wr F.TRL_FLT_FREQ_RANGE 1 else s
      let s := if p then s.wr F.TRL_FLT_PHASE_ERR 1 else s
      if s.rd F.TRL_STAT_SRC_ACT != 1 then s
      else sourceGone s (if s.rd F.TRL_CTL_SRC = 2 ∧ s.rdB F.TRL_STAT_LOCK then netReady s else none))

/-- Has no valid message been held for TRL_NET_CFG.TMO ms (Table 5-3)? -/
def netOld (s : State) : Bool := (netHeld s).all fun m => decide (m.tick + 80000 * s.rd F.TRL_NET_CFG_TMO ≤ s.now)

/-- NET_TIMEOUT (Table 5-3): no valid message for TRL_NET_CFG.TMO. Every message counts as lost, whoever sent it (log entry
15); the senders' last SEQ are kept (R120). -/
def execNetTimeout (s : State) : Res :=
  .next (if !netOld s then s
    else
      let l := s.trl.senders.map fun m => { m with inRow := 0 }
      let s := State.wr { s with trl := { s.trl with senders := l } } F.TRL_FLT_NET_LOST 1
      if s.rd F.TRL_STAT_SRC_ACT = 2 then enterHoldover s else s)

/-- HOLDOVER_LIMIT (R127): a holdover of more than TRL_HO_LIMIT seconds. -/
def execHoldoverLimit (s : State) : Res :=
  let long := match s.trl.hoAt with
    | some t => decide (t + 80000000 * s.rd F.TRL_HO_LIMIT_LIMIT ≤ s.now)
    | none => false
  .next (if s.rdB F.TRL_STAT_HOLDOVER && !s.rdB F.TRL_STAT_LOCK && long then (s.wr F.TRL_STAT_HO_LONG 1).degrade 600 true else s)

/-- Trellis starts (R125, R126): after a cold start at cycle 0 and FNOM; after a warm restart or a wake from the
stamp and INC that the AON domain kept, in holdover. By how much the seed errs no rule says: a free number of ticks either
way, within the XO period that R148 gives plant time's seed (log entry 65). -/
def trlStart (s : State) : State :=
  let a := s.aon
  if a.valid then
    let n := s.now - a.at_ + s.freeNat 3 % 7 - 3
    let x := a.cyc.toNat * 2 ^ 64 + a.ang.toNat * 2 ^ 32 + a.frac.toNat + n * a.inc.toNat
    let t := { s.trl with cyc := BitVec.ofNat 32 (x / 2 ^ 64), ang := BitVec.ofNat 32 (x / 2 ^ 32), frac := BitVec.ofNat 32 x,
                          base := a.inc, hoAt := some s.now }
    let s := setInc { s.took with trl := t } a.inc.toNat
    let s := s.wr F.TRL_FREQ_FREQ (a.inc.toNat * 80000000000000 / 2 ^ 64)
    (s.wr F.TRL_STAT_HOLDOVER 1).wr F.TRL_STAT_NEVER_LOCKED 0
  else setFreq s (fnomFreq s)

/-! ## Messages, readings, history (R119, R120, R129) -/

/-- The number in bytes [i, i + n) of a record. -/
def numIn (b : List Byte) (i n : Nat) : Nat := ofLe ((b.drop i).take n)

/-- An angle reference message as the sender table keeps it (Table 5-1). -/
def netParse (b : List Byte) : NetSender :=
  { sender := numIn b 32 8, seq := numIn b 40 4, stamp := ⟨BitVec.ofNat 32 (numIn b 8 4), BitVec.ofNat 32 (numIn b 4 4)⟩,
    pt := ⟨BitVec.ofNat 48 (numIn b 16 6), BitVec.ofNat 30 (numIn b 12 4)⟩, freq := numIn b 24 4 }

/-- Keep a valid message of a sender. The module tracks four senders; a fifth takes the place of one that has
been lost, and is not taken while there is none (log entry 15). -/
def netKeep (s : State) (m : NetSender) : State :=
  let l := s.trl.senders
  let lim := s.rd F.TRL_NET_CFG_PERIOD * 120000
  match l.find? fun x => x.sender == m.sender with
  | some o =>
    let row := if o.inRow ≠ 0 ∧ s.now - o.tick ≤ max 120000 lim then o.inRow + 1 else 1
    let m := { m with inRow := row, tick := s.now }
    { s with trl := { s.trl with senders := l.map fun x => if x.sender == m.sender then m else x } }
  | none =>
    let l := match l.find? fun x => x.inRow == 0 with
      | some o => if 4 ≤ l.length then l.erase o else l
      | none => l
    if 4 ≤ l.length then s
    else { s with trl := { s.trl with senders := l ++ [{ m with inRow := 1, tick := s.now }] } }

/-- While NET is the active source, a message of the followed sender drives the phase detector (R120): the error that is not
already being slewed out. -/
def netTrack (s : State) (m : NetSender) : State :=
  if s.rd F.TRL_STAT_SRC_ACT = 2 ∧ (netFollowed s).map (·.sender) = some m.sender then
    let e := slewInterval ((netErr s m - s.trl.slewErr / 2 ^ 32) % 2 ^ 32).toNat
    trlFollow (s.wrI F.TRL_PHERR_PHERR (e / 65536)) m.freq (e / 65536)
  else s

/-- NETREF_RX (R120, R125): the message's 48 bytes and whether its tag verifies, under a key that R502 lets the receiver
use. Whether a later message's cycle number differs is judged with the difference of the two stamps rounded to the nearest
cycle (log entry 15). -/
def execNetrefRx (tagOk : Bool) (payload : List Byte) (s : State) : Res :=
  let m := netParse payload
  let fl := byteNat payload 1
  let p := s.ptNs
  let fresh := match s.trl.senders.find? fun x => x.sender == m.sender with
    | some o => decide (o.seq < m.seq)
    | none => true
  let age := decide (m.pt.toNs ≤ p) && decide (p ≤ m.pt.toNs + 50000000)
  .next (if !tagOk || (keyFor s (s.rd F.TRL_NET_KEY_KEYSLOT) useNetref).isNone then s.wr F.TRL_FLT_NET_AUTH 1
    else if byteNat payload 0 != 1 || fl % 2 == 0 || fl / 2 % 2 == 1 then s
    else if !fresh || !age then s.wr F.TRL_FLT_NET_STALE 1
    else
      let s := netTrack (netKeep s m) m
      let d : Int := (netAngle m p : Int) - (AStamp.acs s.stamp.ang : Int)
      if !s.rdB F.TRL_STAT_NEVER_LOCKED && (d + 2 ^ 31) / 2 ^ 32 % 2 ^ 32 != 0 then s.wr F.TRL_STAT_CYC_MISMATCH 1 else s)

/-- A read of TRL_NOW_ANG latches the stamp's other parts (R129). -/
def trlNowRead (s : State) : State :=
  let st := s.stamp
  let s := (s.wr F.TRL_NOW_ANG_ANG st.ang.angle.toNat).wr F.TRL_NOW_CYC_CYC st.ang.cycle.toNat
  let s := (s.wr F.TRL_NOW_PT_NS_NS st.pt.ns.toNat).wr F.TRL_NOW_PT_S_LO_S_LO st.pt.sec.toNat
  (s.wr F.TRL_NOW_PT_S_HI_S_HI (st.pt.sec.toNat / 2 ^ 32)).answer 0 st.ang.angle.toNat

/-- TRL_NOW_READ (R129). -/
def execTrlNowRead (s : State) : Res :=
  .next (if windowDead s F.TRL_NOW_ANG_ANG.addr then s.status 0x0610 else trlNowRead s)

/-- Write the present cycle and plant time into entry (cycle mod 16) of TRL_CYC_HIST (R129). -/
def cycHist (s : State) : State :=
  let c := s.trl.cyc.toNat
  let i := c % 16
  let s := (s.wr (F.TRL_CYC_HIST_CYC i) c).wr (F.TRL_CYC_HIST_NS i) s.pt.ns.toNat
  (s.wr (F.TRL_CYC_HIST_S_LO i) s.pt.sec.toNat).wr (F.TRL_CYC_HIST_S_HI i) (s.pt.sec.toNat / 2 ^ 32)

/-- The amplitude that the criteria of Table 5-3 look at: of one input; the positive sequence's is measured and no operand
gives it, a free value (log entry 4). -/
def refAmp (s : State) (m : TrlMeas) : Nat :=
  match s.rd F.TRL_CTL_REF_PH with
  | 0 => m.ampA.toNat
  | 1 => m.ampB.toNat
  | 2 => m.ampC.toNat
  | _ => s.freeNat 10

/-- Count the reference cycle that has ended towards the criteria of Table 5-3, and keep its frequency (R123). -/
def refCycle (s : State) (m : TrlMeas) : State :=
  let amp := refAmp s m
  let f := m.freq.toNat
  let e := toInt 16 m.pherr.toNat
  let ok := decide (100 ≤ amp) && decide (45000000 ≤ f) && decide (f ≤ 65000000)
  let off := decide (f < 44500000) || decide (65500000 < f)
  let used := if s.rd F.TRL_STAT_SRC_ACT = 2 then s.rd F.TRL_FREQ_FREQ else f
  { s.took with trl := { s.trl with
      okRun := if ok then min 10 (s.trl.okRun + 1) else 0, offRun := if off then min 2 (s.trl.offRun + 1) else 0
      phRun := if 1820 < e.natAbs then min 3 (s.trl.phRun + 1) else 0, amp := amp, rms := m.rms.toNat, gridErr := e * 65536
      refFreqs := (used :: s.trl.refFreqs).take 12 } }

/-- Show what the tracker measured; with GRID the active source the angle follows it (R121). -/
def trlMeasured (s : State) (m : TrlMeas) : State :=
  let s := refCycle s m
  let s := (s.wr F.TRL_ROCOF_ROCOF m.rocof.toNat).wr F.TRL_AMP_GRA m.ampA.toNat
  let s := (s.wr F.TRL_AMP_GRB m.ampB.toNat).wr F.TRL_AMP_GRC m.ampC.toNat
  let s := s.wrB F.TRL_STAT_ROT_ACB m.rotAcb
  if s.rd F.TRL_STAT_SRC_ACT = 2 then s
  else
    let s := (s.wr F.TRL_PHERR_PHERR m.pherr.toNat).wr F.TRL_PHERR_PHERR_RMS m.rms.toNat
    if s.rd F.TRL_STAT_SRC_ACT = 1 then trlFollow s m.freq.toNat (toInt 16 m.pherr.toNat) else s

/-- Has the cycle number incremented in this tick (R129)? -/
def cycleNew (s : State) : Bool := decide (s.trl.ang.toNat * 2 ^ 32 + s.trl.frac.toNat < s.trl.incWas)

/-- CYCLE_BOUNDARY (R129): the cycle number has incremented; `m` is what the tracker measured over the last
reference cycle. -/
def execCycleBoundary (m : TrlMeas) (s : State) : Res :=
  .next (trlMeasured (if cycleNew s then cycHist s else s) m)

/-! ## Slots: partitions and checks (R131, R132, R136) -/

/-- The plot whose partition holds slot `n`. -/
def slotPlot (s : State) (n : Nat) : Option Nat :=
  (List.range 8).find? fun p => decide (s.rd (F.TRL_PART_BASE p) ≤ n) &&
    decide (n < s.rd (F.TRL_PART_BASE p) + s.rd (F.TRL_PART_COUNT p))

/-- Delivery latency L in ticks (Table 5-5), none for a reserved code. -/
def actionLat (a : Nat) : Option Nat :=
  match a with
  | 0x00 => some 0
  | 0x01 => some 26
  | 0x02 => some 26
  | 0x03 => some 26
  | 0x04 => some 26
  | 0x05 => some 26
  | 0x08 => some 3
  | 0x09 => some 4
  | 0x10 => some 26
  | 0x11 => some 26
  | 0x20 => some 5
  | 0x21 => some 2
  | 0x22 => some 8
  | 0x23 => some 0
  | _ => none

/-- Does plot `p` own the target of an action (R132)? A queue is its consumer's (R237). -/
def actionOwned (s : State) (p action arg : Nat) : Bool :=
  if action = 1 ∨ action = 2 then lsOwner s (arg % 32) == p && decide (arg % 32 < 24)
  else if action = 3 ∨ action = 4 ∨ action = 5 then dioOwner s (arg % 32) == p
  else if action = 8 then
    let b := arg / 256 % 256
    let base := s.rd (F.CAN_PTX_TXBASE (arg % 8) p)
    decide (base ≤ b) && decide (b < base + s.rd (F.CAN_PTX_TXCOUNT (arg % 8) p))
  else if action = 9 then s.rd (F.Q_OWN_CONS (arg % 64)) == p
  else if action = 0x10 ∨ action = 0x11 then powOwner s (arg % 16) == p
  else true

/-- The output channel an action moves: LSn as n, DIOn as 32 + n (R138). -/
def actionChan (s : State) (action arg : Nat) : Option Nat :=
  if action = 1 ∨ action = 2 then some (arg % 32)
  else if action = 3 ∨ action = 4 ∨ action = 5 then some (32 + arg % 32)
  else if action = 0x10 ∨ action = 0x11 then some (s.rd (F.POW_CFG_LS (arg % 16)))
  else none

/-- ADV of a slot: its own, or the POW estimate (R134, R141). -/
def slotAdv (s : State) (n : Nat) : Nat :=
  let a := s.rd (F.SLOT_CTL_ACTION n)
  let e := s.rd (F.SLOT_ARG_ARG n) % 16
  if a = 0x10 then s.rd (powEst e true) else if a = 0x11 then s.rd (powEst e false) else s.rd (F.SLOT_ADV_ADV n)

/-- A slot's plant-time target, ns. -/
def slotPt (s : State) (n : Nat) : Nat :=
  (s.rd (F.SLOT_PT_S_LO_S_LO n) + 2 ^ 32 * s.rd (F.SLOT_PT_S_HI_S_HI n)) * 1000000000 + s.rd (F.SLOT_PT_NS_NS n)

/-- A stamp from an accumulator and from plant time in 2^-32 ns. -/
def stampFrom (a p : Nat) : Stamp :=
  ⟨PTime.ofNs (p / 2 ^ 32), ⟨BitVec.ofNat 32 (a / 2 ^ 64), BitVec.ofNat 32 (a / 2 ^ 32)⟩⟩

/-- Plant time in 2^-32 ns. -/
def ptFine (s : State) : Nat := s.ptNs * 2 ^ 32 + s.pt.frac.toNat

/-- The stamp `k` ticks ahead at the present increments. -/
def stampAhead (s : State) (k : Nat) : Stamp :=
  stampFrom (accOf s.trl + k * incOf s) (if s.pt.running then ptFine s + k * addendOf s else ptFine s)

/-- The stamp that the previous tick predicted for `k` ticks after itself, at the increments of that tick. -/
def stampWas (s : State) (k : Nat) : Stamp :=
  stampFrom (accOf s.trl + 2 ^ 96 + k * s.trl.incWas - s.trl.incWas)
    (if s.pt.running then ptFine s + k * s.trl.addWas - s.trl.addWas else ptFine s)

/-- How far ahead a slot's firing looks: ADV + L (R134). -/
def slotReach (s : State) (n : Nat) : Nat := slotAdv s n + (actionLat (s.rd (F.SLOT_CTL_ACTION n))).getD 0

/-! ## Records (R139) -/

/-- Write a slot's record, when REC is set; without room the slot sets LATE (R139). -/
def slotRecord (s : State) (n action flags : Nat) (target : AStamp) (eff : Stamp) (offset : Nat) : State :=
  match slotPlot s n with
  | none => s
  | some p =>
    if !s.rdB (F.SLOT_CTL_REC n) then s
    else
      let w := toWords (trlRecordBytes n action flags target eff offset)
      let q := s.rd (F.TRL_PART_QUEUE p)
      let s := if hwRoom s q w.length then s else s.wr (F.SLOT_STAT_LATE n) 1
      hwPost s q w

/-- The tracker's part of a record's flags: HOLDOVER and NEVER_LOCKED (Table 5-6). -/
def trlFlags (s : State) : Nat := 2 * s.rd F.TRL_STAT_HOLDOVER + 4 * s.rd F.TRL_STAT_NEVER_LOCKED

/-! ## Passed firing points (R135) -/

/-- The next target of a PTIME_PERIOD slot, ns. -/
def slotNext (s : State) (n : Nat) : Nat := s.trl.nextPt.get n (slotPt s n)

/-- The target stamp that a slot in CYCLE mode names, zero in the plant-time modes (Table 5-6). -/
def slotGoal (s : State) (n : Nat) : AStamp :=
  if s.rd (F.SLOT_CTL_MODE n) = 2 then
    ⟨BitVec.ofNat 32 (s.rd (F.SLOT_CYCLE_CYCLE n)), BitVec.ofNat 32 (s.rd (F.SLOT_ANGLE_ANGLE n))⟩
  else {}

/-- A miss under R135: MISSED, its record; one-shot slots clear EN. -/
def slotMiss (s : State) (n : Nat) (oneShot : Bool) : State :=
  let s := s.wr (F.SLOT_STAT_MISSED n) 1
  let s := if oneShot then s.hwWr (F.SLOT_CTL_EN n) 0 else s
  slotRecord s n (s.rd (F.SLOT_CTL_ACTION n)) (32 + trlFlags s) (slotGoal s n) s.stamp 0

/-- Has the firing point of slot `n` passed in an earlier tick (R134, R135)? -/
def slotPassed (s : State) (n : Nat) : Bool :=
  let pre := stampWas s (slotReach s n)
  match s.rd (F.SLOT_CTL_MODE n) with
  | 2 => !AStamp.later (slotGoal s n) pre.ang
  | 3 => decide (slotPt s n ≤ pre.pt.toNs)
  | 4 => decide (slotNext s n ≤ pre.pt.toNs)
  | _ => false

/-- A slot fires late, in the next tick (R135). -/
def slotLate (s : State) (n : Nat) : State :=
  { s with trl := { s.trl with catchup := s.trl.catchup.set n (s.now + 1) } }

/-- What R135 does with a slot whose firing point has passed. -/
def slotCatch (n : Nat) (s : State) : State :=
  if !s.rdB (F.SLOT_CTL_EN n) || !slotPassed s n then s
  else
    let catch_ := s.rdB (F.SLOT_CTL_CATCHUP n)
    if s.rd (F.SLOT_CTL_MODE n) = 4 then
      let lim := (stampWas s (slotReach s n)).pt.toNs
      let per := s.rd (F.SLOT_PERIOD_PERIOD n)
      let next := slotNext s n + ((lim - slotNext s n) / per + 1) * per
      let s := { s with trl := { s.trl with nextPt := s.trl.nextPt.set n next } }
      if catch_ then slotLate s n else slotMiss s n false
    else if catch_ then slotLate s n
    else slotMiss s n true

/-! ## Slot writes (R130-R136) -/

/-- The refusal of a write to slot `n`'s registers (R130, R132): system slots take none after BOOT; a plot
writes its partition's slots, the supervisor those of any partition. -/
def slotWriterRefusal (s : State) (r : Req) (n : Nat) : Option Nat :=
  if n < 64 then some 0x0207
  else match r with
    | .plot p => if slotPlot s n = some p.val then none else some 0x0206
    | .supervisor => if (slotPlot s n).isSome then none else some 0x0206
    | _ => some 0x0207

/-- The checks of a SLOT_CTL word for slot `n` of plot `p` (R125, R132, R133, R136). -/
def slotCtlRefusal (s : State) (p n v : Nat) : Option Nat :=
  let mode := (F.SLOT_CTL_MODE n).slice v
  let act := (F.SLOT_CTL_ACTION n).slice v
  let arg := s.rd (F.SLOT_ARG_ARG n)
  if 5 ≤ mode ∨ (actionLat act).isNone ∨ 0x20 ≤ act then some 0x030B
  else if v % 2 = 0 then none
  else if !actionOwned s p act arg then some 0x0206
  else if mode = 2 ∧ s.rdB F.TRL_STAT_NEVER_LOCKED then some 0x0303
  else if mode = 4 ∧ s.rd (F.SLOT_PERIOD_PERIOD n) = 0 then some 0x0301
  else if act = 5 ∧ arg / 65536 = 0 then some 0x0301
  else none

/-- The first target of a PTIME_PERIOD slot that its firing point has not passed (Table 5-4). -/
def slotPeriodic (s : State) (n : Nat) : State :=
  let lim := (stampWas s (slotReach s n)).pt.toNs
  let first := slotPt s n
  let per := s.rd (F.SLOT_PERIOD_PERIOD n)
  let next := if lim < first then first else first + ((lim - first) / per + 1) * per
  { s with trl := { s.trl with nextPt := s.trl.nextPt.set n next } }

/-- A write of SLOT_CTL(n). Enabling clears DONE and a passed slot follows R135; EN stays clear in the tick in
which a one-shot slot fired (Table 5-8). -/
def slotCtlWrite (s : State) (r : Req) (n v : Nat) : State :=
  match slotWriterRefusal s r n with
  | some c => s.status c
  | none =>
    match slotCtlRefusal s ((slotPlot s n).getD 8) n v with
    | some c => s.status c
    | none =>
      let was := s.rdB (F.SLOT_CTL_EN n) && s.rd (F.SLOT_CTL_MODE n) == (F.SLOT_CTL_MODE n).slice v
      let s := s.writeWord (F.SLOT_CTL_EN n).addr v
      if v % 2 = 0 then s.status 0
      else if s.trl.doneAt.find? n = some s.now || !s.rdB (F.SLOT_CTL_EN n) then s.status 0
      else if was then s.status 0
      else
        let t := { s.trl with nextPt := s.trl.nextPt.dropRange n (n + 1), catchup := s.trl.catchup.dropRange n (n + 1)
                              lastCyc := s.trl.lastCyc.dropRange n (n + 1) }
        let s := State.wr { s with trl := t } (F.SLOT_STAT_DONE n) 0
        (slotCatch n s).status 0

/-- SLOT_CTL_WRITE (R132). -/
def execSlotCtlWrite (r : Req) (n : Fin 1024) (v : Word) (s : State) : Res :=
  .next (hostWrite s r (F.SLOT_CTL_EN n).addr (slotCtlWrite s r n v.toNat))

/-- A write of another register of slot `n` (R11, R132, R136). A new target or period of an enabled periodic
slot counts from the next match (Table 5-8), and PERIOD 0 is refused (Table 5-4). -/
def slotWrite (s : State) (r : Req) (n a v : Nat) : State :=
  match slotWriterRefusal s r n with
  | some c => s.status c
  | none =>
    if a = (F.SLOT_PT_NS_NS n).addr ∧ 999999999 < v then s.status 0x0301
    else if a = (F.SLOT_ARG_ARG n).addr ∧ s.rdB (F.SLOT_CTL_EN n) ∧ s.rd (F.SLOT_CTL_ACTION n) = 5 ∧ v / 65536 = 0 then
      s.status 0x0301
    else if s.rdB (F.SLOT_CTL_EN n) && s.rd (F.SLOT_CTL_MODE n) == 4 then
      if a = (F.SLOT_PERIOD_PERIOD n).addr ∧ v % 2 ^ 32 = 0 then s.status 0x0301
      else
        let t := s.writeWord a v
        (if slotPt t n = slotPt s n ∧ t.rd (F.SLOT_PERIOD_PERIOD n) = s.rd (F.SLOT_PERIOD_PERIOD n) then t
        else slotPeriodic t n).status 0
    else (s.writeWord a v).status 0

/-- Clear EN of every slot that lies in [lo, lo + cnt) and not in plot `p`'s partition, whose slots these were (R131). -/
def slotsOut (s : State) (p lo : Nat) : Nat → State
  | 0 => s
  | k + 1 =>
    let t := slotsOut s p lo k
    if slotPlot t (lo + k) = some p then t else t.hwWr (F.SLOT_CTL_EN (lo + k)) 0

/-- TRL_PART_WRITE (R131): base, count and record queue of plot `p`. -/
def trlPartWrite (s : State) (r : Req) (p v : Nat) : State :=
  let base := (F.TRL_PART_BASE p).slice v
  let cnt := (F.TRL_PART_COUNT p).slice v
  let q := (F.TRL_PART_QUEUE p).slice v
  let clash := (List.range 8).any fun k => k != p &&
    overlap base cnt (s.rd (F.TRL_PART_BASE k)) (s.rd (F.TRL_PART_COUNT k))
  if r ≠ .supervisor then s.status 0x0207
  else if base % 8 ≠ 0 ∨ cnt % 8 ≠ 0 ∨ 1024 < base + cnt then s.status 0x0301
  else if cnt ≠ 0 ∧ (base < 64 ∨ clash) then s.status 0x0206
  else if cnt ≠ 0 ∧ s.rd (F.Q_OWN_CONS q) ≠ p then s.status 0x0206
  else
    let ob := s.rd (F.TRL_PART_BASE p)
    let oc := s.rd (F.TRL_PART_COUNT p)
    (slotsOut (s.writeWord (F.TRL_PART_BASE p).addr v) p ob oc).status 0

/-- TRL_PART_WRITE (R131). -/
def execTrlPartWrite (r : Req) (p : Fin 8) (v : Word) (s : State) : Res :=
  .next (hostWrite s r (F.TRL_PART_BASE p).addr (trlPartWrite s r p v.toNat))

/-! ## Firing (R134, R137, R138) -/

/-- The target of an EVERY or NTH slot that the stamp has reached last, `reach` ticks ahead (R134). -/
def angleGoal (s : State) (n : Nat) : AStamp :=
  let ang := BitVec.ofNat 32 (s.rd (F.SLOT_ANGLE_ANGLE n))
  let p := (stampAhead s (slotReach s n)).ang
  ⟨if ang ≤ p.angle then p.cycle else p.cycle - 1, ang⟩

/-- Does an NTH slot match cycle `c` (Table 5-4)? -/
def nthMatch (s : State) (n : Nat) (c : BitVec 32) : Bool :=
  (c - BitVec.ofNat 32 (s.rd (F.SLOT_CYCLE_CYCLE n))).toNat % max 1 (s.rd (F.SLOT_N_N n)) == 0

/-- The target stamp of a firing, zero in the plant-time modes (R134, Table 5-6). -/
def slotTarget (s : State) (n : Nat) : AStamp :=
  match s.rd (F.SLOT_CTL_MODE n) with
  | 0 => angleGoal s n
  | 1 => angleGoal s n
  | _ => slotGoal s n

/-- Is this the first tick in which the time to the slot's target is no more than ADV + L (R133, R134)? An EVERY or NTH slot
fires once for a cycle number. -/
def slotDue (s : State) (n : Nat) : Bool :=
  let was := stampWas s (slotReach s n)
  let now := stampAhead s (slotReach s n)
  let t := slotTarget s n
  match s.rd (F.SLOT_CTL_MODE n) with
  | 0 => AStamp.later t was.ang && s.trl.lastCyc.find? n != some t.cycle
  | 1 => AStamp.later t was.ang && s.trl.lastCyc.find? n != some t.cycle && nthMatch s n t.cycle
  | 2 => AStamp.later t was.ang && !AStamp.later t now.ang
  | 3 => decide (was.pt.toNs < slotPt s n) && decide (slotPt s n ≤ now.pt.toNs)
  | _ => decide (was.pt.toNs < slotNext s n) && decide (slotNext s n ≤ now.pt.toNs)

/-- What firing does to the slot itself: one-shot slots end, the others move on, the count wraps. -/
def slotFired (s : State) (n : Nat) (late : Bool) : State :=
  let mode := s.rd (F.SLOT_CTL_MODE n)
  let t := slotTarget s n
  let s := s.incWrap (F.SLOT_STAT_FIRE_CNT n)
  if mode = 2 ∨ mode = 3 then
    let s := { s with trl := { s.trl with doneAt := s.trl.doneAt.set n s.now } }
    (s.hwWr (F.SLOT_CTL_EN n) 0).wr (F.SLOT_STAT_DONE n) 1
  else if mode = 4 then
    if late then s
    else { s with trl := { s.trl with nextPt := s.trl.nextPt.set n (slotNext s n + s.rd (F.SLOT_PERIOD_PERIOD n)) } }
  else { s with trl := { s.trl with lastCyc := s.trl.lastCyc.set n t.cycle } }

/-! ### The action bus (R137, R138) -/

/-- Trellis's arbitration point among those of `State.arb` (R112). -/
def trlPoint : Nat := 0x300

/-- Does newly due action `x` go before `y`: by PRIO, then between plots under R112, then by slot (R137)? -/
def busBefore (s : State) (x y : Issued) : Bool :=
  let turn := fun (z : Issued) => (z.plot + 8 - (s.arb.get trlPoint (0, 0)).1) % 8
  decide (x.prio < y.prio) || (x.prio == y.prio && (decide (turn x < turn y) || (turn x == turn y && decide (x.slot < y.slot))))

/-- Put `x` at its place in a list so ordered. -/
def busInsert (s : State) (x : Issued) : List Issued → List Issued
  | [] => [x]
  | y :: r => if busBefore s x y then x :: y :: r else y :: busInsert s x r

/-- The actions on their way once `x` has been fired in this tick, each with the tick that it is on the bus: four in a tick,
the system's newly due first, then those delayed in the order they had, then the plots' newly due (R137). -/
def busPlan (s : State) (x : Issued) : List Issued :=
  let gone := s.trl.issued.filter fun y => decide (y.bus < s.now)
  let live := s.trl.issued.filter fun y => decide (s.now ≤ y.bus)
  let fresh := fun (sys : Bool) =>
    let l := live.filter fun y => y.fired == s.now && (y.plot == 8) == sys
    if (x.plot == 8) == sys then busInsert s x l else l
  let q := fresh true ++ (live.filter fun y => y.fired != s.now) ++ fresh false
  let used := if s.trl.actTick = s.now then s.trl.actCount else 0
  gone ++ (q.zipIdx used).map fun e =>
    let b := s.now + e.2 / 4
    { e.1 with bus := b, due := b + (actionLat e.1.action).getD 0, flags := e.1.flags ||| (b != e.1.fired).toNat }

/-- Actions that have just been delayed: LATE and SPILL (R137). -/
def busLate (s : State) (was : List Issued) : State :=
  let old := fun (y : Issued) => was.any fun z => z.slot == y.slot && z.fired == y.fired && z.bus != z.fired
  (s.trl.issued.filter fun y => y.fired == s.now && y.bus != y.fired && !old y).foldl
    (fun t y => (t.wr (F.SLOT_STAT_LATE y.slot) 1).incSat F.TRL_ACT_STAT_SPILL) s

/-- Does issued action `x` lose to `y` for one output channel (R138)? -/
def superseded (x y : Issued) : Bool :=
  decide (y.prio < x.prio) || (x.prio == y.prio && decide (y.slot < x.slot))

/-- Drop an issued action as SUPERSEDED: its slot and its record say so. -/
def slotSuperseded (s : State) (x : Issued) : State :=
  slotRecord (s.wr (F.SLOT_STAT_SUPERSEDED x.slot) 1) x.slot x.action (x.flags ||| 16) x.target s.stamp 0

/-- Does another action of the same plot stand over `x` at its channel in its tick (R138)? -/
def loses (s : State) (x : Issued) : Bool :=
  (actionChan s x.action x.arg).isSome && s.trl.issued.any fun y =>
    y.plot == x.plot && y.due == x.due && actionChan s y.action y.arg == actionChan s x.action x.arg && superseded x y

/-- Put an action on its way, at its place on the bus; of those of one plot for one channel in one tick, one stands. -/
def issue (s : State) (x : Issued) : State :=
  let was := s.trl.issued
  let s := busLate { s with trl := { s.trl with issued := busPlan s x } } was
  let e := s.arb.get trlPoint (0, 0)
  let last := ((s.trl.issued.filter fun y => y.fired == s.now && y.plot < 8).getLast?.map fun y => y.plot + 1).getD e.2
  let s := { s with arb := s.arb.set trlPoint (e.1, last) }
  let l := s.trl.issued.filter fun y => loses s y
  l.foldl slotSuperseded { s with trl := { s.trl with issued := s.trl.issued.filter fun y => !loses s y } }

/-- Does the module still own the target of an action for plot `p`: a channel may have passed to the partner (R132, Table
5-8)? -/
def targetHere (s : State) (p action arg : Nat) : Bool :=
  actionOwned s p action arg && match actionChan s action arg with
    | some k => if k < 32 then s.girth.ownLs.getLsbD k else s.girth.ownDio.getLsbD (k - 32)
    | none => true

/-- Slot `n` fires: in the first tick of R134, or late under R135 in the tick after. An action whose target its plot no longer
owns, or whose POW entry is off, is dropped (R132). -/
def slotFire (s : State) (n : Nat) : State :=
  let act := s.rd (F.SLOT_CTL_ACTION n)
  let arg := s.rd (F.SLOT_ARG_ARG n)
  let plot := if n < 64 then some 8 else slotPlot s n
  let late := s.trl.catchup.find? n == some s.now
  match plot with
  | none => s
  | some p =>
    if !s.rdB (F.SLOT_CTL_EN n) || (decide (p < 8) && plotHeld s p) || !(late || slotDue s n) then s
    else
      let s := { s with trl := { s.trl with catchup := s.trl.catchup.dropRange n (n + 1) } }
      let target := slotTarget s n
      let pow := act == 0x10 || act == 0x11
      let e := arg % 16
      let unl := pow && decide (s.rd (powCnt e (act == 0x10)) < s.rd (F.POW_CFG_LEARN_MIN e))
      let flags := trlFlags s + 128 * unl.toNat + 64 * late.toNat + late.toNat
      let s := if late then s.wr (F.SLOT_STAT_LATE n) 1 else s
      if p < 8 && (!targetHere s p act arg || (pow && !s.rdB (F.POW_CFG_EN e))) then
        let s := slotFired s n late
        let s := (s.wr (F.SLOT_STAT_NOT_OWNED n) 1).incSat F.TRL_ACT_STAT_DROP
        slotRecord s n act (flags + 8) target s.stamp 0
      else
        let eu := s.rd (powEst e (act == 0x10))
        issue (slotFired s n late)
          { slot := n, action := act, arg := arg, plot := p, prio := s.rd (F.SLOT_CTL_PRIO n), flags := flags, target := target,
            fired := s.now, bus := s.now, eUsed := eu }

/-- The catch-up firings of R135 that are due in this tick. -/
def slotCatchups (s : State) : State :=
  (s.trl.catchup.filter fun e => e.2 == s.now).foldl (fun t e => slotFire t e.1) s

/-- SLOT_FIRE (R134). -/
def execSlotFire (n : Fin 1024) (s : State) : Res := .next (slotFire s n)

/-! ## The actions (R136) -/

/-- Take an issued action of slot `n` with one of the given codes whose effect falls in this tick, `offset` ticks after the one
it is due in (R33). -/
def takeIssued (s : State) (n : Nat) (codes : List Nat) (offset : Nat) : Option (Issued × State) :=
  match s.trl.issued.find? fun x => x.slot == n && codes.contains x.action && x.due + offset == s.now with
  | none => none
  | some x =>
    let k := if s.trl.actTick = s.now then s.trl.actCount else 0
    let t := if x.bus = s.now then { s.trl with actTick := s.now, actCount := k + 1 } else s.trl
    some (x, { s with trl := { t with issued := s.trl.issued.erase x } })

/-- The effect of an action in this tick: its stamp in the slot's registers and its record. -/
def slotEffect (s : State) (x : Issued) (offset : Nat) : State :=
  let st := s.stamp
  let s := (s.wr (F.SLOT_LAST_CYC_CYC x.slot) st.ang.cycle.toNat).wr (F.SLOT_LAST_ANG_ANG x.slot) st.ang.angle.toNat
  slotRecord s x.slot x.action x.flags x.target st offset

/-- Carry out an issued action of slot `n`: its effect `f`, then stamp and record. A target that lies in Stirrup takes it up to
5 ticks after the tick it is due in, the others in that tick (R33, R136). -/
def act (s : State) (n : Nat) (codes : List Nat) (offset : Nat) (f : State → Issued → State) : State :=
  match takeIssued s n codes offset with
  | none => s
  | some (x, s) => slotEffect (f s x) x offset

/-- Can Stirrup apply a Trellis action to LSn now (R45, R321, R335, R349)? -/
def lsActable (s : State) (n : Nat) : Bool :=
  !strControls s n && s.mode != mSERVICE && s.mode != mDORMANCY && !s.rdB (F.LS_STAT_MEMBER n) && decide (n < 24) &&
    !(s.str.pd1Lost && decide (12 ≤ n))

/-- A Trellis action takes effect on a channel; a host write of the same tick takes effect again in the next one (R31). -/
def actNote (s : State) (k : Nat) (host : Bool) : State :=
  let t := { s.trl with actOn := s.trl.actOn.set k s.now }
  { s with trl := if s.trl.hostOn.find? k = some s.now then { t with hostNext := t.hostNext.set k host.toNat } else t }

/-- A Trellis request for LSn (R31, R319). -/
def lsAct (s : State) (n : Nat) (on : Bool) : State :=
  if !lsActable s n then s.emit (.stage true n false s.stamp)
  else lsSetOn (actNote s n (s.rdB (F.LS_REQ_ON n))) n on

/-- Has plant time reached a whole multiple of 250 µs in this tick (R130)? -/
def gridTick (s : State) : Bool :=
  s.pt.running && decide ((ptFine s - s.trl.addWas) / (2 ^ 32 * 250000) < ptFine s / (2 ^ 32 * 250000))

/-- The action that system slot `n` carries leaves the bus as its engine acts (R130, R136). -/
def sysAct (s : State) (n code : Nat) : State := act s n [code] 0 fun t _ => t

/-- MARK (R136): the event record only. -/
def execMark (n : Fin 1024) (s : State) : Res := .next (act s n [0] 0 fun t _ => t)

/-- LS_ON (R136, R319). -/
def execLsOn (n : Fin 1024) (offset : Fin 6) (s : State) : Res :=
  .next (act s n [1] offset fun t x => lsAct t (x.arg % 32) true)

/-- LS_OFF (R136, R319). -/
def execLsOff (n : Fin 1024) (offset : Fin 6) (s : State) : Res :=
  .next (act s n [2] offset fun t x => lsAct t (x.arg % 32) false)

/-- Can Stirrup apply a Trellis action to DIOn now (R45, R368, R369)? -/
def dioActable (s : State) (n : Nat) : Bool :=
  !strControlsDio s n && s.mode != mSERVICE && s.mode != mDORMANCY && !s.rdB (F.DIO_STAT_MEMBER n) &&
    !(s.str.pd1Lost && decide (16 ≤ n))

/-- A Trellis request for DIOn: ON, and over the FCL the pin itself until the FCL or ON changes (R365). -/
def dioAct (s : State) (n : Nat) (on : Bool) : State :=
  if !dioActable s n then s.emit (.stage false n false s.stamp)
  else
    let s := (actNote s (32 + n) (s.rdB (F.DIO_REQ_ON n))).wrB (F.DIO_REQ_ON n) on
    let s := if on then s else dioUnlatch s n
    let s := if s.rdB (F.DIO_CFG_FCL_EN n) then s.setDio n { s.dioCh n with overFcl := some on } else s
    dioFollow s n

/-- DIO_ON (R365). -/
def execDioOn (n : Fin 1024) (offset : Fin 6) (s : State) : Res :=
  .next (act s n [3] offset fun t x => dioAct t (x.arg % 32) true)

/-- DIO_OFF (R365). -/
def execDioOff (n : Fin 1024) (offset : Fin 6) (s : State) : Res :=
  .next (act s n [4] offset fun t x => dioAct t (x.arg % 32) false)

/-- DIO_PULSE (R365): ON is set and the pulse runs for the µs in ARG[31:16]; a host write of this tick falls inside it. -/
def execDioPulse (n : Fin 1024) (offset : Fin 6) (s : State) : Res :=
  .next (act s n [5] offset fun t x =>
    let k := x.arg % 32
    let ok := dioActable t k
    let host := t.trl.hostOn.find? (32 + k) == some t.now
    let t := dioAct t k true
    if ok then t.setDio k { t.dioCh k with pulse := true, pulseHost := host, pulseEnd := t.now + 80 * (x.arg / 65536) } else t)

/-- DIO_PULSE_END (R365): the width has passed; a host write inside the pulse stands. -/
def execDioPulseEnd (n : Fin 32) (s : State) : Res :=
  let c := s.dioCh n
  .next (if !c.pulse || s.now < c.pulseEnd then s
    else
      let s := s.setDio n { c with pulse := false, pulseHost := false }
      if c.pulseHost then s else dioAct s n false)

/-- FURROW_POST (R136): slot number and TAG in one word, as a hardware source. -/
def execFurrowPost (n : Fin 1024) (s : State) : Res :=
  .next (act s n [9] 0 fun t x =>
    hwPost t (x.arg % 64) [BitVec.ofNat 32 (x.slot + 65536 * (x.arg / 256 % 256))])

/-- A POW action (R141, R339): not applied to a channel in RETRY, LATCHED, WAIT or FORCED_OFF, or that Stirrup
holds; the measurement starts in either case, so that a missing edge counts as a timeout. -/
def powAct (s : State) (x : Issued) (close : Bool) (offset : Nat) : State :=
  let e := x.arg % 16
  let n := s.rd (F.POW_CFG_LS e)
  let st := lsState s n
  let blocked := st == 3 || st == 4 || st == 5 || st == 7 || !lsActable s n
  let s := if blocked then s.emit (.stage true n false s.stamp) else lsAct s n close
  powStart s e { close := close, t0 := s.now, eUsed := x.eUsed, slot := x.slot, target := x.target, effect := s.stamp,
                 flags := x.flags, offset := offset }

/-- POW_CLOSE (R141). -/
def execPowClose (n : Fin 1024) (offset : Fin 6) (s : State) : Res :=
  .next (act s n [0x10] offset fun t x => powAct t x true offset)

/-- POW_OPEN (R141). -/
def execPowOpen (n : Fin 1024) (offset : Fin 6) (s : State) : Res :=
  .next (act s n [0x11] offset fun t x => powAct t x false offset)

/-! ## Other register writes (R145) -/

/-- Another reference is tracked: the criteria count anew, and its angle's difference, which only a measurement gives, is
slewed out (R116, R124; a free value, log entry 4). -/
def refChange (s : State) : State :=
  let s := { s with trl := { s.trl with okRun := 0, offRun := 0, phRun := 0 } }
  if s.rd F.TRL_STAT_SRC_ACT = 1 then slewStart s.took (slewInterval (s.freeNat 32)) else s

/-- A write of TRL_CTL (R118, R124, R125): SRC of 3 is ignored; a new source or reference is reached by slewing, and a new SLEW
applies to a slew in progress; FNOM moves a free-running angle that has never locked. -/
def trlCtlWrite (s : State) (v : Nat) : State :=
  let src := s.rd F.TRL_CTL_SRC
  let ref := s.rd F.TRL_CTL_REF_PH
  let s := s.writeWord 0x20000000 v
  let s := if v % 4 = 3 then s.put F.TRL_CTL_SRC src else s
  let s := if s.rd F.TRL_CTL_REF_PH = ref then s else refChange s
  let s := if s.rdB F.TRL_STAT_SLEWING && s.trl.slewErr != 0 then slewScale s else s
  let a := s.rd F.TRL_STAT_SRC_ACT
  let s := if a = 1 ∧ s.rd F.TRL_CTL_SRC = 1 then sourceGone s (netReady s)
    else if a = 2 ∧ s.rd F.TRL_CTL_SRC = 0 then
      (if gridReady s then srcTake s 1 (s.trl.refFreqs.headD (s.rd F.TRL_FREQ_FREQ)) s.trl.gridErr else enterHoldover s)
    else s
  if s.rdB F.TRL_STAT_NEVER_LOCKED && !s.rdB F.TRL_STAT_SLEWING then setFreq s (fnomFreq s) else s

/-- A write of TRL_REF_OFS: the change is slewed out, with what is still left of a slew in progress (R116, R124). -/
def trlOfsWrite (s : State) (v : Nat) : State :=
  let d := v % 2 ^ 32 + 2 ^ 32 - s.rd F.TRL_REF_OFS_OFS
  let s := s.put F.TRL_REF_OFS_OFS v
  if s.rdB F.TRL_STAT_LOCK && d % 2 ^ 32 != 0 then slewStart s (slewInterval d)
  else if s.rdB F.TRL_STAT_SLEWING then slewStart s (slewInterval ((s.trl.slewErr / 2 ^ 32 + d) % 2 ^ 32).toNat)
  else s

/-- A write of a Trellis register that belongs neither to a slot nor to a POW entry nor to TRL_PART: by the
supervisor, or by Stitch for a session granted the object (R145). -/
def trlWrite (s : State) (r : Req) (a v : Nat) : State :=
  if !r.supOrStitch then s.status 0x0207
  else if a = 0x20000000 then (trlCtlWrite s v).status 0
  else if a = 0x2000000C then (trlOfsWrite s v).status 0
  else (s.writeWord a v).status 0

end Sys2Proof.Machine
end

