-- ==== Sys2Proof/Machine/Latigo.lean ====
section
/-! DEFINITION. The commands of the Latigo ring engines (07_latigo_rings.md). -/

namespace Sys2Proof.Machine

/-! ## Frames and CRC (R171, R173, R184) -/

/-- One bit of the CRC-16 of R173. -/
def crc16Bit (c : Nat) : Nat := if 0x8000 ≤ c then (c * 2 % 0x10000) ^^^ 0x1021 else c * 2

/-- The CRC-16 of R173 over bytes, from the value so far. -/
def crc16From : Nat → List Byte → Nat
  | c, [] => c
  | c, b :: r =>
    let x := c ^^^ (b.toNat * 256)
    crc16From (crc16Bit (crc16Bit (crc16Bit (crc16Bit (crc16Bit (crc16Bit (crc16Bit (crc16Bit x)))))))) r

/-- The CRC-16 of R173: polynomial 0x1021, initial value 0xFFFF. -/
def crc16 (b : List Byte) : Nat := crc16From 0xFFFF b

/-- Bytes with their CRC, least significant byte first. -/
def withCrc (b : List Byte) : List Byte := b ++ le 2 (crc16 b)

/-- The address of a line end in control frames. -/
def endAddr (e : Bool) : Nat := if e then 0xE1 else 0xE0

/-- A control frame of line end `e` (Table 7-7); the module sets TAG to zero. -/
def ctlFrame (e : Bool) (type dst reg arg value : Nat) : List Byte :=
  withCrc (le 1 type ++ le 1 dst ++ le 1 (endAddr e) ++ le 1 0 ++ le 1 reg ++ le 1 arg ++ le 2 value)

/-! ## Rings, ends, reach -/

def State.ring (s : State) (c : Nat) : LatRing := s.lat.rings.get c {}
def State.setRing (s : State) (c : Nat) (x : LatRing) : State :=
  { s with lat := { s.lat with rings := s.lat.rings.set c x } }

/-- NODES of a ring. -/
def latNodes (s : State) (c : Nat) : Nat := s.rd (F.LAT_RCFG_NODES c)

/-- Is the engine of ring `c` at work? -/
def latOn (s : State) (c : Nat) : Bool := s.lat.running && s.bit F.LAT_CTL_EN c && latNodes s c != 0

/-- The end from which the module triggers a ring: A in a single installation and on side A, B on side B. -/
def latOwn (s : State) : Bool := s.rdB F.SEAT_STAT_SIDE

/-- Is a line end wired: its link has come up, and in a span it is the side's own (Table 2-8)? -/
def latWired (s : State) (c : Nat) (e : Bool) : Bool :=
  (s.ring c).wired.getLsbD e.toNat && (!s.girth.spanMember || e == latOwn s)

/-- Is the link of a wired line end up? -/
def latUp (s : State) (c : Nat) (e : Bool) : Bool :=
  latWired s c e && s.rdB (if e then F.LAT_RSTAT_LINK_B c else F.LAT_RSTAT_LINK_A c)

/-- Is a line end Active (Table 2-6, R190, R198): in HANDOFF until the ring has been passed? -/
def latActive (s : State) (c : Nat) (e : Bool) : Bool :=
  latOn s c && latWired s c e && !((s.ring c).passed && s.mode == mHANDOFF) && !s.girth.outOff && s.mode != mQUARANTINE &&
    s.mode != mDORMANCY

/-- The nodes that the last sets brought through an end. -/
def latUnion (h : List (BitVec 24)) : BitVec 24 := h.foldl (· ||| ·) 0

/-- The reach of a line end (R193). -/
def latReach (x : LatRing) (e : Bool) : BitVec 24 :=
  if e then x.downB.getD (latUnion x.histB) else x.downA.getD (latUnion x.histA)

/-- Does end `e` reach node `n`: by its trains, and before the first of them by the enumeration (R193, R194)? -/
def latGets (s : State) (c : Nat) (e : Bool) (n : Nat) : Bool :=
  let x := s.ring c
  let seen := !(if e then x.histB.isEmpty && x.downB.isNone else x.histA.isEmpty && x.downA.isNone)
  latWired s c e && (if seen then (latReach x e).getLsbD n else (if e then x.enumB else x.enumA).getLsbD n)

/-- The end from which node `n` is served, end A where both reach it. -/
def latEndOf (s : State) (c n : Nat) : Option Bool :=
  if latGets s c false n then some false else if latGets s c true n then some true else none

/-- Nodes `lo` to `hi`. -/
def nodeSpan (lo hi : Nat) : BitVec 24 := BitVec.ofNat 24 (bitsWhere (fun n => decide (lo ≤ n) && decide (n ≤ hi)) 24)

/-- Highest and lowest node of a set, 0x1F for none. -/
def nodeHigh (m : BitVec 24) : Nat := (List.range 24).foldl (fun a n => if m.getLsbD n then n else a) 0x1F
def nodeLow (m : BitVec 24) : Nat := ((List.range 24).find? fun n => m.getLsbD n).getD 0x1F

/-- The reach that the partner's latest heartbeat reports on ring `c` (R196). -/
def partnerReach (s : State) (c : Nat) : BitVec 24 :=
  if s.partner.alive then
    match s.partner.reach[c]? with
    | some (lo, hi) => nodeSpan lo hi
    | none => 0
  else 0

/-! ## Records, status -/

/-- A Latigo event record (Table 7-15). -/
def latRecord (s : State) (type c node b3 ext : Nat) : State :=
  let st := s.stamp
  let b := le 1 type ++ le 1 c ++ le 1 node ++ le 1 b3 ++ st.ang.bytes ++ st.pt.bytes ++ le 2 s.lat.seq ++ le 8 ext
  hwPost s (s.rd F.LAT_EVQ_QUEUE) (toWords b)

/-- More than 40 CRC errors on the ring in the last second (R201)? -/
def latCrcMany (s : State) (c : Nat) : Bool :=
  decide (40 < ((s.ring c).crcAt.filter fun t => decide (s.now < t + 80000000)).length)

/-- Is any node UNCAL for its trigger port (R201): its last segment says so, or no COMP stands for the end that triggers? -/
def latUncal (s : State) (c : Nat) : Bool :=
  (List.range 24).any fun n => s.rdB (F.LAT_NSTAT_ENUM c n) &&
    ((s.ring c).uncal.getLsbD n || (s.rdB (F.LAT_RSTAT_TRIG_A c) && s.rdB (F.LAT_NSTAT_VIA_A c n) && s.rdB (F.LAT_NSTAT_UNCAL_U c n)) ||
      (s.rdB (F.LAT_RSTAT_TRIG_B c) && s.rdB (F.LAT_NSTAT_VIA_B c n) && s.rdB (F.LAT_NSTAT_UNCAL_D c n)))

/-- Keep the degraded status of ring `c` (R201). -/
def latDegrade (s : State) (c : Nat) : State :=
  s.degrade (700 + c) (latOn s c && (s.rdB (F.LAT_RSTAT_BREAK c) || s.rdB (F.LAT_RFLT_UNREACHED c) ||
    s.rdB (F.LAT_RFLT_ENUM_MISMATCH c) || s.rdB (F.LAT_RFLT_TIMING c) || latUncal s c || latCrcMany s c))

/-- Show the reach of both ends in REACH_A, REACH_B and the nodes' VIA bits (R193). -/
def latShow (s : State) (c : Nat) : State :=
  let x := s.ring c
  let a := latReach x false
  let b := latReach x true
  let s := (s.wr (F.LAT_RSTAT_REACH_A c) (nodeHigh a)).wr (F.LAT_RSTAT_REACH_B c) (nodeLow b)
  forN (fun n t => (t.wrB (F.LAT_NSTAT_VIA_A c n) (a.getLsbD n)).wrB (F.LAT_NSTAT_VIA_B c n) (b.getLsbD n)) 24 s

/-- Start or stop triggering a ring from an end: the status bits and the event record. -/
def latTrig (s : State) (c : Nat) (e on : Bool) : State :=
  let f := if e then F.LAT_RSTAT_TRIG_B c else F.LAT_RSTAT_TRIG_A c
  if s.rdB f == on then s
  else
    let s := s.wrB f on
    let s := s.putBit F.LAT_SUM_TRIG c (s.rdB (F.LAT_RSTAT_TRIG_A c) || s.rdB (F.LAT_RSTAT_TRIG_B c))
    latRecord s (if on then 7 else 8) c 0xFF e.toNat 0

/-- Set or clear BREAK (R193). -/
def latBreak (s : State) (c : Nat) : State :=
  if s.rdB (F.LAT_RSTAT_BREAK c) then s
  else
    let s := s.setRing c { s.ring c with breakAt := some s.now, clean := 0 }
    let s := ((s.wr (F.LAT_RSTAT_BREAK c) 1).setBit F.LAT_SUM_BREAK c).wr (F.LAT_RFLT_BREAK_SEEN c) 1
    latRecord s 1 c 0xFF 0 (s.rd (F.LAT_RSTAT_REACH_A c) + 256 * s.rd (F.LAT_RSTAT_REACH_B c))

def latHeal (s : State) (c : Nat) : State :=
  let s := s.setRing c { s.ring c with breakAt := none, clean := 0 }
  latRecord ((s.wr (F.LAT_RSTAT_BREAK c) 0).clrBit F.LAT_SUM_BREAK c) 2 c 0xFF 0 0

/-- The case of R193 in a span that is no break: `node`, at the partner's end, while end `e` reaches every node. -/
def latPartnerEnd (s : State) (c : Nat) (e : Bool) (node : Nat) : Bool :=
  let n := latNodes s c
  s.girth.spanMember && node == (if e then 0 else n - 1) && latReach (s.ring c) e == nodeSpan 0 (n - 1)

/-! ## Control frames (R184) -/

/-- Launch a control frame: before the ring's first trigger at once, later in a control window. -/
def latSend (s : State) (c : Nat) (e : Bool) (f : List Byte) : State :=
  let x := s.ring c
  if x.started then s.setRing c { x with ctl := x.ctl ++ [(e, f)] } else s.emit (.latCtrl c e f)

/-- READ a register of a node; a READ that already waits is not asked for again. -/
def latRead (s : State) (c : Nat) (e : Bool) (n reg : Nat) : State :=
  let f := ctlFrame e 0x40 n reg 0 0
  if (s.ring c).ctl.contains (e, f) then s else latSend s c e f

/-- READ registers 0x00 to 0x0B of a node (R188). -/
def latReadAll (s : State) (c : Nat) (e : Bool) (n : Nat) : State := forN (fun r t => latRead t c e n r) 12 s

/-- Send `k` PINGs to a node. -/
def latPings (s : State) (c : Nat) (e : Bool) (n : Nat) : Nat → State
  | 0 => s
  | k + 1 => latSend (latPings s c e n k) c e (ctlFrame e 0x30 n 0 0 0)

/-- Forget the round trips of a node from an end and send 16 PINGs (R189). -/
def latMeasure (s : State) (c : Nat) (e : Bool) (n : Nat) : State :=
  let x := s.ring c
  let k := 2 * n + e.toNat
  latPings (s.setRing c { x with rtt := x.rtt.dropRange k (k + 1), compSum := x.compSum.dropRange k (k + 1) }) c e n 16

/-- Measure a node from each end that reaches it (R189, R194). -/
def latMeasureNode (c n : Nat) (s : State) : State :=
  let s := if latGets s c false n then latMeasure s c false n else s
  if latGets s c true n then latMeasure s c true n else s

/-- Measure every enumerated node. -/
def latMeasureAll (s : State) (c : Nat) : State :=
  forN (fun n t => if t.rdB (F.LAT_NSTAT_ENUM c n) then latMeasureNode c n t else t) 24 s

/-- The first `k` frames of one end, and the others. -/
def ctlSplit (e : Bool) : Nat → List (Bool × List Byte) → List (List Byte) × List (Bool × List Byte)
  | _, [] => ([], [])
  | k, f :: r =>
    if f.1 == e && k != 0 then
      let (a, b) := ctlSplit e (k - 1) r
      (f.2 :: a, b)
    else
      let (a, b) := ctlSplit e k r
      (a, f :: b)

/-- What the ring's PING of this set goes to, if any end reaches a node: the next end and node in turn (R189). -/
def latPingNext (s : State) (c : Nat) : Option (Bool × Nat) :=
  let at_ := fun (k : Nat) => (decide (24 ≤ k), k % 24)
  (((List.range 48).map fun i => at_ (((s.ring c).ping + i) % 48)).find? fun y =>
    latActive s c y.1 && (latReach (s.ring c) y.1).getLsbD y.2)

/-- A line end launches up to `k` of its waiting frames; the answer to an ENUM among them is awaited from now on (R188). -/
def latLaunchCtl (s : State) (c : Nat) (e : Bool) (k : Nat) : State :=
  let x := s.ring c
  let (now, rest) := ctlSplit e k x.ctl
  let asked := now.any fun f => byteNat f 0 == 0x20
  let z := if asked then x.enum_.map fun y => { y with at_ := s.now } else x.enum_
  now.foldl (fun t f => t.emit (.latCtrl c e f)) (s.setRing c { x with ctl := rest, enum_ := z })

/-- Ring `c`'s control window: one PING of R189, then waiting frames, at most 6 from a line end (R184). -/
def latWindowRing (c : Nat) (s : State) : State :=
  let (s, pinged) := match latPingNext s c with
    | none => (s, none)
    | some (e, n) =>
      let x := { s.ring c with ping := (24 * e.toNat + n + 1) % 48 }
      ((s.setRing c x).emit (.latCtrl c e (ctlFrame e 0x30 n 0 0 0)), some e)
  [false, true].foldl (fun t e =>
    if latActive t c e then latLaunchCtl t c e (if pinged == some e then 5 else 6) else t) s

/-- LAT_CONTROL_WINDOW (R184, R189): the control window of the set opens 222 µs after its trigger, once. -/
def execLatControlWindow (s : State) : Res :=
  .next (if !s.lat.running || s.lat.window || s.now < s.lat.trigAt + 17760 then s
    else forN latWindowRing 12 { s with lat := { s.lat with window := true } })

/-! ## Enumeration (R187, R188, R190) -/

/-- The wired ends whose link is up, in the order in which they enumerate; the reach of another end is empty (R188). -/
def latEnds (s : State) (c : Nat) : List Bool := [false, true].filter fun e => latUp s c e

/-- Send the ENUM of an end (R187): FORCE only from end A (R190). -/
def latEnumSend (s : State) (c : Nat) (e force : Bool) : State :=
  latSend s c e (ctlFrame e 0x20 0xFF 0 ((force && !e).toNat + 2 * e.toNat) (if e then latNodes s c - 1 else 0))

/-- Begin an enumeration of a ring that the module masters; one asked for while another runs follows it. -/
def latEnumStart (s : State) (c : Nat) (force : Bool) : State :=
  if !latOn s c || !s.rdB (F.LAT_RSTAT_MASTER c) then s
  else if (s.ring c).enum_.isSome then
    s.setRing c (if force then { s.ring c with wantForce := true } else { s.ring c with wantFill := true })
  else
    match latEnds s c with
    | [] => s
    | e :: _ =>
      let s := s.setRing c { s.ring c with enum_ := some { force := force, endB := e, at_ := s.now } }
      latEnumSend (s.wr (F.LAT_RSTAT_ENUM_BUSY c) 1) c e force

/-- Store the present UIDs as the ring's map: 24 UIDs of 8 bytes (R188, Table 7-16). -/
def latMapStore (s : State) (c : Nat) : State :=
  let b := ((List.range 24).map fun n => le 4 (s.rd (F.LAT_NUID_LO_UID_LO c n)) ++ le 4 (s.rd (F.LAT_NUID_HI_UID_HI c n))).flatten
  let k := objKey (0x2010 + c) 7
  { s with objBytes := s.objBytes.set k b, settingsBytes := s.settingsBytes.set k b }

/-- The stored map of a ring; empty when none is stored. -/
def latMap (s : State) (c : Nat) : List Byte := s.objBytes.get (objKey (0x2010 + c) 7) []

/-- Mark a node enumerated or not; UNCAL_U and UNCAL_D hold while no delay is measured. -/
def latNodeEnum (c : Nat) (reached : BitVec 24) (n : Nat) (s : State) : State :=
  let s := s.wrB (F.LAT_NSTAT_ENUM c n) (reached.getLsbD n)
  if reached.getLsbD n then
    let s := if s.rd (F.LAT_NDLY_D_A c n) = 0xFFFF then s.wr (F.LAT_NSTAT_UNCAL_U c n) 1 else s
    if s.rd (F.LAT_NDLY_D_B c n) = 0xFFFF then s.wr (F.LAT_NSTAT_UNCAL_D c n) 1 else s
  else s

/-- Read the registers of an enumerated node from the end that reaches it (R188, R194). -/
def latDescribeNode (c n : Nat) (s : State) : State :=
  match if s.rdB (F.LAT_NSTAT_ENUM c n) then latEndOf s c n else none with
  | some e =>
    let x := s.ring c
    latReadAll (s.setRing c { x with uidWait := x.uidWait ||| BitVec.ofNat 24 (2 ^ n) }) c e n
  | none => s

/-- Read the registers of every enumerated node, then measure delays (R188, R189). -/
def latDescribe (s : State) (c : Nat) : State := latMeasureAll (forN (latDescribeNode c) 24 s) c

/-- Evaluate an enumeration whose ends have all answered (R188). -/
def latEvaluate (s : State) (c : Nat) (z : LatEnum) : State :=
  let n := latNodes s c
  let a : Int := match z.vA with
    | some v => (v : Int) - 1
    | none => -1
  let b : Int := match z.vB with
    | some v => if v = 0xFFFF then 0 else (v : Int) + 1
    | none => n
  let whole := decide (b ≤ a + 1)
  let reached := BitVec.ofNat 24 (bitsWhere (fun k => decide (k < n) && (decide ((k : Int) ≤ a) || decide (b ≤ (k : Int)))) 24)
  let nodes := fun (p : Int → Bool) => BitVec.ofNat 24 (bitsWhere (fun k => decide (k < n) && p k) 24)
  let s := s.setRing c { s.ring c with
    enum_ := none, enumA := nodes fun k => decide (k ≤ a), enumB := nodes fun k => decide (b ≤ k) }
  let s := (s.wr (F.LAT_RSTAT_ENUM_BUSY c) 0).wrB (F.LAT_RSTAT_ENUM_OK c) whole
  let s := if whole then s else s.wr (F.LAT_RFLT_UNREACHED c) 1
  let s := if (n : Int) < a + 1 then s.wr (F.LAT_RFLT_ENUM_MISMATCH c) 1 else s
  let s := forN (latNodeEnum c reached) 24 s
  let s := latDescribe (latRecord s (if whole then 5 else 6) c 0xFF 0 0) c
  let x := s.ring c
  let s := s.setRing c { x with wantFill := false, wantForce := false }
  let s := if x.wantForce || x.wantFill then latEnumStart s c x.wantForce else s
  latDegrade s c

/-- The far line end has returned the ENUM_END that arrives: it came from no node in end-of-line mode (R187). -/
def latFarEnd (s : State) (c : Nat) (e : Bool) (v : Nat) : State :=
  if latUp s c (!e) && v == (if e then 0xFFFF else latNodes s c) then
    s.emit (.latCtrl c (!e) (ctlFrame (!e) 0x21 (endAddr e) 0 0 v))
  else s

/-- ENUM_END_RX (R187, R188): the ENUM that end `e` sent returns VALUE `v`. -/
def execEnumEndRx (c : Fin 12) (e : Bool) (v : BitVec 16) (s : State) : Res :=
  .next (match (s.ring c).enum_ with
    | none => s
    | some z =>
      if z.endB != e then s
      else
        let s := latFarEnd s c e v.toNat
        let z := if e then { z with vB := some v.toNat } else { z with vA := some v.toNat }
        if !e && latUp s c true then
          let s := s.setRing c { s.ring c with enum_ := some { z with endB := true, at_ := s.now } }
          latEnumSend s c true false
        else latEvaluate s c z)

/-- ENUM_TIMEOUT (R188): no ENUM_END within 1 ms; the engine retries from both ends (Table 7-13), and after three
failures serves the nodes that answer a READ of ADDR. -/
def execEnumTimeout (c : Fin 12) (s : State) : Res :=
  .next (match (s.ring c).enum_ with
    | none => s
    | some z =>
      if s.now < z.at_ + 80000 then s
      else if z.tries < 2 then
        let e := (latEnds s c).headD z.endB
        let y : LatEnum := { z with tries := z.tries + 1, endB := e, vA := none, vB := none, at_ := s.now }
        latEnumSend (s.setRing c { s.ring c with enum_ := some y }) c e z.force
      else
        let s := s.setRing c { s.ring c with enum_ := none }
        let s := (s.wr (F.LAT_RSTAT_ENUM_BUSY c) 0).wr (F.LAT_RSTAT_ENUM_OK c) 0
        let s := latRecord (s.wr (F.LAT_RFLT_ENUM_MISMATCH c) 1) 6 c 0xFF 0 0
        let s := forN (fun n t => t.wr (F.LAT_NSTAT_ENUM c n) 0) 24 s
        latDegrade ((latEnds s c).foldl (fun t e => forN (fun n u => latRead u c e n 0x10) (latNodes s c) t) s) c)

/-! ## Replies (R185, R186, R189) -/

/-- d = (mean RTT − TA) / 2 of 16 round trips of this sum, in 2.5 ns; a value halfway between two is rounded to a free
one of them. -/
def latDelay (s : State) (sum ta : Nat) : Nat :=
  let y := sum - 16 * ta
  y / 32 + (if 16 < y % 32 then 1 else if y % 32 = 16 then s.freeNat 1 else 0)

/-- Do the round trips spread over more than 10 ns? -/
def latSpread (l : List Nat) : Bool := decide (l.foldl min 0xFFFF + 4 < l.foldl max 0)

/-- A full window of 16 round trips: show d, write COMP when it is new or the mean has moved by 2.5 ns, or set TIMING
(R189). -/
def latMeasured (s : State) (c : Nat) (e : Bool) (n : Nat) (l : List Nat) : State :=
  let x := s.ring c
  let k := 2 * n + e.toNat
  let sum := l.sum
  let d := latDelay s sum (x.ta.get n 0)
  let s := s.took
  let moved := match x.compSum.find? k with
    | none => true
    | some o => decide (16 ≤ (sum - o) + (o - sum))
  let s := s.wr (if e then F.LAT_NDLY_D_B c n else F.LAT_NDLY_D_A c n) d
  if 4800 < d ∨ latSpread l then latDegrade (latRecord (s.wr (F.LAT_RFLT_TIMING c) 1) 9 c n 0 0) c
  else if moved then
    let s := s.setRing c { x with compSum := x.compSum.set k sum, comp := x.comp.set k (6000 - d) }
    latSend s c e (ctlFrame e 0x42 n (if e then 0x12 else 0x11) 0 (6000 - d))
  else s

/-- ECHO_RX (R189): a round trip of node `n` from end `e`, in 2.5 ns. -/
def execEchoRx (c : Fin 12) (e : Bool) (n : Fin 24) (rtt : BitVec 16) (s : State) : Res :=
  let x := s.ring c
  let k := 2 * n.val + e.toNat
  let l := (rtt.toNat :: x.rtt.get k []).take 16
  let s := s.setRing c { x with rtt := x.rtt.set k l }
  .next (if l.length = 16 then latMeasured s c e n l else s)

/-- WRITE_ACK_RX (R189): the content after a COMP write; the node is no longer UNCAL when it is the value written. -/
def execWriteAckRx (c : Fin 12) (e : Bool) (n : Fin 24) (reg : BitVec 8) (v : BitVec 16) (s : State) : Res :=
  let want := (s.ring c).comp.find? (2 * n.val + e.toNat)
  .next (if reg.toNat == (if e then 0x12 else 0x11) && want == some v.toNat then
      latDegrade (s.wr (if e then F.LAT_NSTAT_UNCAL_D c n else F.LAT_NSTAT_UNCAL_U c n) 0) c
    else s)

/-- NACK_RX (R184): no rule gives the engine an effect; what the frame asked for has not happened. -/
def execNackRx (_c : Fin 12) (_e : Bool) (_n : Fin 24) (_v : BitVec 16) (s : State) : Res := .next s

/-- A node's UID is complete: compare it with the map; store the map when it is empty and every node has answered
(R188). -/
def latUid (s : State) (c n : Nat) : State :=
  let x := s.ring c
  let wait := x.uidWait &&& ~~~BitVec.ofNat 24 (2 ^ n)
  let s := s.setRing c { x with uidWait := wait }
  let m := latMap s c
  let uid := s.rd (F.LAT_NUID_LO_UID_LO c n) + 2 ^ 32 * s.rd (F.LAT_NUID_HI_UID_HI c n)
  if m.isEmpty then
    if wait == 0 && s.rdB (F.LAT_RSTAT_ENUM_OK c) then latMapStore s c else s
  else if numIn m (8 * n) 8 = uid then s
  else latRecord (s.wr (F.LAT_RFLT_UID_CHANGED c) 1) 4 c n 0 uid

/-- What a FAULT value makes the engine do (Table 7-10). -/
def latFault (s : State) (c : Nat) (e : Bool) (n v : Nat) : State :=
  let b := BitVec.ofNat 24 (2 ^ n)
  let x := s.ring c
  let dead := v.testBit 1 || v.testBit 2 || v.testBit 3
  let s := s.setRing c { x with bad := if dead then x.bad ||| b else x.bad &&& ~~~b }
  let s := s.wr (F.LAT_NSTAT_FAULT c n) v
  if v = 0 then s
  else
    let s := latRecord (s.wr (F.LAT_RFLT_NODE_FAULT c) 1) 3 c n (v % 256) 0
    let s := if v.testBit 0 then latRead s c e n 0x14 else s
    let s := if v.testBit 7 then (s.wr (F.LAT_RFLT_ADDR_CONFLICT c) 1).wr (F.LAT_RFLT_ENUM_MISMATCH c) 1 else s
    let s := if v.testBit 6 then
        let s := ((s.wr (F.LAT_NDLY_D_A c n) 0xFFFF).wr (F.LAT_NDLY_D_B c n) 0xFFFF).wr (F.LAT_NSTAT_UNCAL_U c n) 1
        let s := s.wr (F.LAT_NSTAT_UNCAL_D c n) 1
        if s.rdB (F.LAT_RSTAT_MASTER c) then latEnumStart s c false else latMeasure s c e n
      else s
    latDegrade s c

/-- READ_RSP_RX (R185, R186, R188): register `reg` of node `n` reads `v`. -/
def execReadRspRx (c : Fin 12) (e : Bool) (n : Fin 24) (reg : BitVec 8) (v : BitVec 16) (s : State) : Res :=
  let x := v.toNat
  let lo := F.LAT_NUID_LO_UID_LO c n
  let hi := F.LAT_NUID_HI_UID_HI c n
  let o := 0x2380 + 24 * c.val + n.val
  .next (match reg.toNat with
    | 0x00 => s.wr lo (s.rd lo / 65536 * 65536 + x)
    | 0x01 => s.wr lo (s.rd lo % 65536 + 65536 * x)
    | 0x02 => s.wr hi (s.rd hi / 65536 * 65536 + x)
    | 0x03 => latUid (s.wr hi (s.rd hi % 65536 + 65536 * x)) c n
    | 0x04 => s.setObj o 2 x
    | 0x05 => s.setObj o 3 x
    | 0x06 => s.setObj o 4 x
    | 0x08 => s.wr (F.LAT_NSTAT_CELLS c n) x
    | 0x09 => s.wr (F.LAT_NSENS_SENSORS c n) x
    | 0x0A => s.setRing c { s.ring c with ta := (s.ring c).ta.set n.val x }
    | 0x0B =>
      if s.rdB (F.LAT_NSTAT_ENUM c n) then s
      else
        let s := latNodeEnum c (BitVec.ofNat 24 (2 ^ n.val)) n s
        if latWired s c e then latMeasure s c e n else s
    | 0x10 =>
      if v.getLsbD 15 && x % 32 == n.val && !s.rdB (F.LAT_NSTAT_ENUM c n) then
        let b := BitVec.ofNat 24 (2 ^ n.val)
        let y := s.ring c
        let s := s.setRing c (if e then { y with enumB := y.enumB ||| b } else { y with enumA := y.enumA ||| b })
        let s := latNodeEnum c b n s
        latMeasure (latReadAll s c e n) c e n
      else s
    | 0x13 => latFault (s.setObj o 7 x) c e n x
    | _ => s)

/-! ## Commands of LAT_RCMD -/

/-- Only the supervisor, or the Stitch endpoint, writes the window (R203). -/
def latCommand (s : State) (r : Req) (f : State → State) : State :=
  if !r.supOrStitch then s.status 0x0207 else (f s).status 0

/-- ENUM_FORCE (R190). -/
def execEnumForce (r : Req) (c : Fin 12) (s : State) : Res :=
  .next (hostWrite s r (F.LAT_RCMD_CMD c).addr (latCommand s r fun t => latEnumStart t c true))

/-- ENUM_FILL (R190). -/
def execEnumFill (r : Req) (c : Fin 12) (s : State) : Res :=
  .next (hostWrite s r (F.LAT_RCMD_CMD c).addr (latCommand s r fun t => latEnumStart t c false))

/-- REMEASURE (R189). -/
def execRemeasure (r : Req) (c : Fin 12) (s : State) : Res :=
  .next (hostWrite s r (F.LAT_RCMD_CMD c).addr (latCommand s r fun t => latMeasureAll t c))

/-- ACCEPT_MAP (R188). -/
def execAcceptMap (r : Req) (c : Fin 12) (s : State) : Res :=
  .next (hostWrite s r (F.LAT_RCMD_CMD c).addr (latCommand s r fun t => latMapStore t c))

/-- Offer a ring to the partner (R198): SEQ_last is the present SEQ plus 8. -/
def latPass (s : State) (c : Nat) : State :=
  if s.rdB (F.LAT_RSTAT_MASTER c) && !s.girth.unpaired then
    let l := (s.lat.seq + 8) % 40000
    (s.setRing c { s.ring c with passOffer := some l, passAt := s.now }).emit (.xl (.ringPass c l))
  else s

/-- PASS (R198). -/
def execPass (r : Req) (c : Fin 12) (s : State) : Res :=
  .next (hostWrite s r (F.LAT_RCMD_CMD c).addr (latCommand s r fun t => latPass t c))

/-- RING_PASS_REQUEST (R198): accepted in RUN with the own end's link up, a reach that covers the sender's, and COMP
written for this direction at every node of it. -/
def execRingPassRequest (c : Fin 12) (seqLast : Fin 40000) (s : State) : Res :=
  let e := latOwn s
  let mine := latReach (s.ring c) e
  let theirs := partnerReach s c
  let cal := (List.range 24).all fun n => !mine.getLsbD n ||
    !s.rdB (if e then F.LAT_NSTAT_UNCAL_D c n else F.LAT_NSTAT_UNCAL_U c n)
  let ok := s.mode == mRUN && !s.girth.unpaired && s.rdB (if e then F.LAT_RSTAT_LINK_B c else F.LAT_RSTAT_LINK_A c) &&
    theirs &&& ~~~mine == 0 && cal
  let s := if ok then s.setRing c { s.ring c with passIn := some seqLast.val } else s
  .next (s.emit (.xl (.ringPassAnswer c ok)))

/-- RING_PASS_ACCEPT_RX (R198): the partner takes the ring after SEQ_last. -/
def execRingPassAcceptRx (c : Fin 12) (s : State) : Res :=
  let x := s.ring c
  .next (match x.passOffer with
    | none => s
    | some l => s.setRing c { x with passOffer := none, passOut := some l })

/-- RING_PASS_TIMEOUT (R198): 2 ms after the offer the master keeps the ring, and the handoff is refused. -/
def execRingPassTimeout (c : Fin 12) (s : State) : Res :=
  let x := s.ring c
  .next (if x.passOffer.isSome && decide (x.passAt + 160000 ≤ s.now) then
      handoffRefuse ((s.setRing c { x with passOffer := none }).wr (F.LAT_RFLT_PASS_FAIL c) 1)
    else s)

/-! ## Links and breaks (R170, R193) -/

/-- A ring line end's link comes up; the end is wired. -/
def latLinkUp (s : State) (c : Nat) (e : Bool) : State :=
  let x := s.ring c
  let s := s.setRing c { x with wired := x.wired ||| BitVec.ofNat 2 (2 ^ e.toNat) }
  s.wr (if e then F.LAT_RSTAT_LINK_B c else F.LAT_RSTAT_LINK_A c) 1

/-- A ring line end's link is lost. -/
def latLinkLoss (s : State) (c : Nat) (e : Bool) : State :=
  s.wr (if e then F.LAT_RSTAT_LINK_B c else F.LAT_RSTAT_LINK_A c) 0

/-- LINK_DOWN_RX (R192, R193): node `n` reports to end `e` that it has lost its other port.
Its reach holds until the next set completes, which a set does 220.7 µs after its trigger (Table 7-6). -/
def execLinkDownRx (c : Fin 12) (e : Bool) (n : Fin 24) (s : State) : Res :=
  .next (if !latOn s c then s
    else
      let other := latPartnerEnd s c e n
      let x := s.ring c
      let done := !s.lat.openSet || decide (s.lat.st.pt.toNs + 220700 ≤ s.ptNs)
      let b := BitVec.ofNat 2 (2 ^ e.toNat)
      let x := { x with downNew := if done then x.downNew ||| b else x.downNew &&& ~~~b }
      let x := if e then { x with downB := some (nodeSpan n (latNodes s c - 1)) } else { x with downA := some (nodeSpan 0 n) }
      let s := latShow (s.setRing c x) c
      if other then s else latDegrade (latBreak s c) c)

/-! ## Samples (R180-R182, R217, R301) -/

/-- Put one cell sample into Pommel SRAM and the capture ring; a sample not VALID is stored as 0xFFFF. -/
def latCell (s : State) (g v mark : Nat) : State :=
  let v := if mark = 0 then v else 0xFFFF
  let b := setSlot (s.lat.seq % 16)
  capCell (putMark (s.putBytes (b + 2 * g) (le 2 v)) (b + 0x2400) g mark) g v mark

/-- Put one temperature into Pommel SRAM and the capture ring. -/
def latTemp (s : State) (x sensor v mark : Nat) : State :=
  let s := s.putBytes (tempAddr (8 * x + sensor)) (le 2 v ++ le 1 mark ++ le 1 s.lat.seq)
  capTemp s x v mark

/-- Is the cell or sensor absent (Table 7-5)? -/
def cellAbsent (s : State) (c n k : Nat) : Bool :=
  decide (latNodes s c ≤ n) || (s.rdB (F.LAT_NSTAT_ENUM c n) && !s.bit (F.LAT_NSTAT_CELLS c n) k)
def sensorAbsent (s : State) (c n k : Nat) : Bool :=
  decide (latNodes s c ≤ n) || (s.rdB (F.LAT_NSTAT_ENUM c n) && !s.bit (F.LAT_NSENS_SENSORS c n) k)

/-- Note a mark: a STALE sample makes the ring's set stale. -/
def latNote (s : State) (c mark : Nat) : State :=
  if mark = 1 then s.setRing c { s.ring c with stale := true } else s

/-- Sensor of the set in hand, when it is a temperature set (R181). -/
def latSensor (s : State) : Option Nat := if s.lat.seq % 5 = 0 then some (s.lat.seq / 5 % 8) else none

/-- Take an accepted segment (Table 7-4). -/
def latTake (s : State) (c n : Nat) (b : List Byte) : State :=
  let fl := byteNat b 1
  let x := s.ring c
  let good := !fl.testBit 2 && !fl.testBit 5 && !x.bad.getLsbD n
  let bit := BitVec.ofNat 24 (2 ^ n)
  let s := s.setRing c { x with
    taken := x.taken ||| bit, uncal := if fl.testBit 5 then x.uncal ||| bit else x.uncal &&& ~~~bit }
  let s := { s with lat := { s.lat with segs := s.lat.segs + 1 } }
  let s := forN (fun k t =>
    let v := halfNat b (2 + 2 * k)
    let mark := if cellAbsent t c n k then 2 else if good && v != 0xFFFF then 0 else 1
    latNote (latCell t (384 * c + 16 * n + k) v mark) c mark) 16 s
  match latSensor s with
  | none => s
  | some i =>
    if fl.testBit 0 then
      let v := halfNat b 34
      let mark := if sensorAbsent s c n i then 2 else if good && v != 0x8000 then 0 else 1
      let s := s.setRing c { s.ring c with temps := (s.ring c).temps ||| bit }
      latNote (latTemp s (24 * c + n) i v mark) c mark
    else s

/-- Count a CRC error on a ring (R182, R201). -/
def latCrcErr (s : State) (c : Nat) : State :=
  let x := s.ring c
  (s.setRing c { x with crcAt := (s.now :: x.crcAt).take 41 }).incSat (F.LAT_RCNT_CRC_ERR c)

/-- One segment of a train at end `e`; `ok` says that header and SEQ are right (R182, R190). -/
def latSegment (c : Nat) (e ok : Bool) (s : State) (b : List Byte) : State :=
  let n := byteNat b 0 % 32
  if crc16 (b.take 36) ≠ halfNat b 36 then
    let s := latCrcErr s c
    if n < 24 then s.incSat (F.LAT_NCNT_CRC_ERR c n) else s
  else if !ok || byteNat b 0 / 32 != 1 then s
  else if latNodes s c ≤ n ∨ !s.rdB (F.LAT_NSTAT_ENUM c n) then
    if s.rdB (F.LAT_RSTAT_MASTER c) then latEnumStart s c false
    else if n < latNodes s c then latReadAll s c e n else s
  else
    let x := s.ring c
    let bit := BitVec.ofNat 24 (2 ^ n)
    let s := s.setRing c (if e then { x with curB := x.curB ||| bit } else { x with curA := x.curA ||| bit })
    if x.taken.getLsbD n then s
    else
      let s := latTake s c n b
      if (byteNat b 1).testBit 1 || x.bad.getLsbD n then latRead s c e n 0x13 else s

/-- The segments of a train's bytes. -/
def latSplit : Nat → List Byte → List (List Byte)
  | 0, _ => []
  | k + 1, b => if b.length < 38 then [] else b.take 38 :: latSplit k (b.drop 38)

/-- TRAIN_RX (R182): the bytes between SOF and EOF of a train at line end `e`; `abt` says that it ended in ABT or held
an invalid code group, and then only its complete segments count (R174). -/
def execTrainRx (c : Fin 12) (e : Bool) (bytes : List Byte) (abt : Bool) (s : State) : Res :=
  .next (if !latOn s c || byteNat bytes 0 != 0x10 then s
    else
      let hdr := crc16 (bytes.take 6) == halfNat bytes 6
      let s := if hdr then s else latCrcErr s c
      let ok := hdr && s.lat.openSet && halfNat bytes 2 == s.lat.seq
      let s := (latSplit 24 (bytes.drop 8)).foldl (latSegment c e ok) s
      let o := byteNat bytes 1
      let s := if hdr && !abt && decide (o < 24) then
          let x := s.ring c
          let t := s.setRing c { x with nodeTrain := true }
          if latPartnerEnd s c e o then t else latBreak t c
        else s
      latDegrade s c)

/-! ## The set (R29, R176, R218) -/

/-- Fill a node whose segment did not arrive by the next trigger (R29, R196, Table 7-5). -/
def latFillNode (c n : Nat) (s : State) : State :=
  let x := s.ring c
  let own := latReach x false ||| latReach x true
  let far := s.girth.spanMember && !own.getLsbD n && (partnerReach s c).getLsbD n
  let rest := if far then 3 else 1
  let s := if x.taken.getLsbD n then s
    else
      let s := if latOn s c && decide (n < latNodes s c) then s.incSat (F.LAT_NCNT_MISS c n) else s
      forN (fun k t =>
        let mark := if cellAbsent t c n k then 2 else rest
        latNote (latCell t (384 * c + 16 * n + k) 0xFFFF mark) c mark) 16 s
  match latSensor s with
  | none => s
  | some i =>
    if x.temps.getLsbD n then s
    else
      let mark := if sensorAbsent s c n i then 2 else rest
      latNote (latTemp s (24 * c + n) i 0x8000 mark) c mark

/-- Nodes in an end's reach that gave no segment in this set while a node beyond them did (R190). -/
def latGap (x : LatRing) : BitVec 24 :=
  let miss := fun (cur : BitVec 24) (beyond : Nat → Bool) n => !cur.getLsbD n && beyond n
  BitVec.ofNat 24 (bitsWhere (fun n =>
    ((latReach x false).getLsbD n && miss x.curA (fun n => decide (n < nodeHigh x.curA) && x.curA != 0) n) ||
    ((latReach x true).getLsbD n && miss x.curB (fun n => decide (nodeLow x.curB < n) && x.curB != 0) n)) 24)

/-- Complete the set in hand on ring `c`. -/
def latRingEnd (c : Nat) (s : State) : State :=
  let s := forN (latFillNode c) 24 s
  let x := s.ring c
  let gap := latGap x
  let fill := gap &&& x.gap != 0
  let clean := if x.nodeTrain then 0 else min 16 (x.clean + 1)
  let s := if x.stale && latOn s c then s.incSat (F.LAT_RCNT_STALE_SETS c) else s
  let s := s.setRing c { x with
    histA := (x.curA :: x.histA).take 4, histB := (x.curB :: x.histB).take 4, curA := 0, curB := 0,
    downA := if x.downNew.getLsbD 0 then x.downA else none, downB := if x.downNew.getLsbD 1 then x.downB else none
    downNew := 0, taken := 0, temps := 0, stale := false, nodeTrain := false, clean := clean,
    gap := gap, rxNow := false, rxRun := if x.rxNow then min 16 (x.rxRun + 1) else 0
    rxMiss := if x.rxNow then 0 else min 4 (x.rxMiss + 1) }
  if latOn s c then
    let s := latShow (s.wr (F.LAT_RSEQ_SEQ c) s.lat.seq) c
    let s := if s.rdB (F.LAT_RSTAT_BREAK c) && clean == 16 then latHeal s c else s
    let s := if fill then latEnumStart s c false else s
    latDegrade s c
  else s

/-- FLAGS of the set (Table 8-4) without COMPLETE; `cells` says that a cell is STALE, `links` an MSR sample. -/
def setFlags (s : State) (cells links : Bool) : Nat :=
  2 * (s.lat.seq % 5 == 0).toNat + 4 * s.rd F.TRL_STAT_HOLDOVER + 8 * s.pt.stepSet.toNat + 16 * cells.toNat +
    32 * links.toNat + 64 * s.rd F.MSR_CTL_DEC_MODE

end Sys2Proof.Machine
end

