-- ==== Sys2Proof/Machine/Msr.lean ====
section
/-! DEFINITION. The commands of the string measurement receivers (08_measurement_capture.md, R206-R214). -/

namespace Sys2Proof.Machine

def State.link (s : State) (m : Nat) : MsrLink := s.msr.links.get m {}
def State.setLink (s : State) (m : Nat) (x : MsrLink) : State :=
  { s with msr := { s.msr with links := s.msr.links.set m x } }

/-- Is the receiver of link `m` at work? -/
def msrOn (s : State) (m : Nat) : Bool := s.msr.running && s.bit F.MSR_CTL_EN m

/-- SEQ of the set whose stamp tick is now (R176). -/
def seqNow (s : State) : Nat := s.ptNs / 250000 % 40000

/-! ## Control and delay measurement (R211, R212) -/

/-- Queue a control frame to the front end, once. -/
def msrCtl (s : State) (m type reg value : Nat) : State :=
  let x := s.link m
  s.setLink m { x with ctl := x.ctl ++ [ctlFrame (latOwn s) type 0 reg 0 value] }

/-- Queue 16 PINGs. -/
def msrPings (s : State) (m : Nat) : Nat → State
  | 0 => s
  | k + 1 => msrCtl (msrPings s m k) m 0x30 0 0

/-- Begin a delay measurement: TA is read, 16 PINGs go out. -/
def msrMeasure (s : State) (m : Nat) : State :=
  msrPings (msrCtl (s.setLink m { s.link m with rtt := [] }) m 0x40 0x0A 0) m 16

/-- The REG of COMP for this side's port (R207, R212). -/
def msrCompReg (s : State) : Nat := if latOwn s then 0x12 else 0x11

/-- MSR_REMEASURE (R212): MSR_LCMD has no object in Table 8-9, so only the supervisor partition writes it (R224). -/
def execMsrRemeasure (r : Req) (m : Fin 4) (s : State) : Res :=
  .next (hostWrite s r (0x20300104 + 0x100 * m) (if r = .supervisor then (msrMeasure s m).status 0 else s.status 0x0207))

/-- A measurement link comes up: its UID is read and its delay measured. -/
def msrLinkUp (s : State) (m : Nat) : State :=
  msrMeasure (forN (fun r t => msrCtl t m 0x40 r 0) 4 (s.wr (F.MSR_LSTAT_LINK m) 1)) m

/-- 16 round trips are in (R212). -/
def msrMeasured (s : State) (m : Nat) (l : List Nat) : State :=
  let x := s.link m
  let d := latDelay s l.sum x.ta
  let s := s.took.wr (F.MSR_DLY_D m) d
  if 400 < d ∨ latSpread l then s.wr (F.MSR_LFLT_TIMING m) 1
  else msrCtl (s.setLink m { x with comp := 4000 - d }) m 0x42 (msrCompReg s) (4000 - d)

/-- A register of the front end has been read. -/
def msrRead (s : State) (m reg v : Nat) : State :=
  let lo := F.MSR_UID_LO_UID_LO m
  let hi := F.MSR_UID_HI_UID_HI m
  match reg with
  | 0x00 => s.wr lo (s.rd lo / 65536 * 65536 + v)
  | 0x01 => s.wr lo (s.rd lo % 65536 + 65536 * v)
  | 0x02 => s.wr hi (s.rd hi / 65536 * 65536 + v)
  | 0x03 =>
    let s := s.wr hi (s.rd hi % 65536 + 65536 * v)
    let want := s.obj (0x2800 + m) 0x0B 0
    if want != 0 && want != s.rd lo + 2 ^ 32 * s.rd hi then s.wr (F.MSR_LFLT_UID_CHANGED m) 1 else s
  | 0x0A => s.setLink m { s.link m with ta := v }
  | 0x13 => if v.testBit 6 then msrMeasure (s.wr (F.MSR_LSTAT_UNCAL m) 1) m else s
  | _ => s

/-- MSR_CTRL_REPLY_RX (R211, R212). A NACK has no effect that a rule gives. -/
def execMsrCtrlReplyRx (m : Fin 4) (x : MsrReply) (s : State) : Res :=
  .next (match x with
    | .echo rtt =>
      let k := s.link m
      let l := (rtt.toNat :: k.rtt).take 16
      let s := s.setLink m { k with rtt := if l.length = 16 then [] else l }
      if l.length = 16 then msrMeasured s m l else s
    | .readRsp reg v => msrRead s m reg.toNat v.toNat
    | .writeAck reg v =>
      if reg.toNat == msrCompReg s && v.toNat == (s.link m).comp then s.wr (F.MSR_LSTAT_UNCAL m) 0 else s
    | .nack _ => s)

/-! ## Conversions (R207-R210) -/

/-- MSR_POINT (R130, R207): plant time reaches a multiple of 250 µs, and the 16 conversions of the set with this stamp tick are paced. -/
def execMsrPoint (s : State) : Res :=
  let i := s.msr.idx + 1
  .next (if s.msr.running && gridTick s then
      let s := sysAct s 1 0x21
      let l := s.msr.links.map fun e => (e.1, { e.2 with convs := e.2.convs.dropRange 0 (16 * (i - 2)) })
      { s with msr := { s.msr with idx := i, seq := seqNow s, at_ := some s.now, links := l } }
    else s)

/-- Ticks from τ to t_c of conversion `p`: 15 µs and p times 15.625 µs (R207). -/
def msrConvTick (p : Nat) : Nat := 1200 + 1250 * p

/-- Is the sequence of conversion `p`, launched W units of 2.5 ns after t_c − 10 µs, due in this tick, and not yet sent? -/
def msrDue (s : State) (m p w : Nat) : Bool :=
  (match s.msr.at_ with
    | some t => s.now + 800 == t + msrConvTick p + w / 5
    | none => false) &&
  !(s.link m).wait.any fun x => x.idx == s.msr.idx && x.p == p

/-- MSR_SYNC_SEND (R207, R211): the sequence of conversion `p`, launched W units after t_c − 10 µs, and at most one
control frame after it. The conversion must stand in Pommel SRAM 15.625 µs after t_c (R210). -/
def execMsrSyncSend (m : Fin 4) (p : Fin 16) (w : Fin 160) (s : State) : Res :=
  .next (if msrOn s m && msrDue s m p w then
      let x := s.link m
      let s := s.emit (.msrSync m (le 1 w.val ++ le 1 p.val ++ le 1 (0xFF - (w.val ^^^ p.val))))
      let due : MsrWait := ⟨s.msr.idx, s.msr.seq, p, s.now + 2050 - w.val / 5, false⟩
      let x := { x with wait := x.wait ++ [due] }
      match x.ctl with
      | [] => s.setLink m x
      | f :: r => (s.setLink m { x with ctl := r }).emit (.msrCtrl m f)
    else s)

/-- Clamp to ±(2^23 − 1) (R210). -/
def msrClamp (x : Int) : Int := clampI x (-8388607) 8388607

/-- Write a conversion into Pommel SRAM (Table 12-3). -/
def convPut (s : State) (seq m p : Nat) (i v flags : Nat) : State :=
  s.putBytes (convAddr (seq % 16) m p) (le 4 i ++ le 4 v ++ le 4 flags ++ le 4 0)

/-- Take an accepted sample frame for the conversion awaited (R210). -/
def msrAccept (s : State) (m : Nat) (w : MsrWait) (b : List Byte) : State :=
  let x := s.link m
  let raw := toInt 24 (numIn b 2 3)
  let i := msrClamp (if s.rdB (F.MSR_LCFG_INV m) then -raw else raw)
  let v := msrClamp (toInt 24 (numIn b 5 3))
  let st := byteNat b 8
  let c : MsrConv := { i := i, v := v, iOvr := st.testBit 0, vOvr := st.testBit 1 }
  let s := s.setLink m { x with wait := x.wait.erase w, convs := x.convs.set (16 * w.idx + w.p) c }
  let s := convPut s w.seq m w.p (ofInt 32 i) (ofInt 32 v) (4 * (st % 4) + 16 * (byteNat b 1 / 16 % 2))
  let s := (s.wr (F.MSR_LAST_I_I m) (ofInt 32 i)).wr (F.MSR_LAST_V_V m) (ofInt 32 v)
  if st % 4 = 0 then s else s.wr (F.MSR_LFLT_OVR m) 1

/-- MSR_FRAME_RX (R209, R210): the 11 bytes of a sample frame; one of another TYPE is no sample. -/
def execMsrFrameRx (m : Fin 4) (b : List Byte) (s : State) : Res :=
  .next (if !msrOn s m then s
    else if b.length ≠ 11 ∨ crc16 (b.take 9) ≠ halfNat b 9 then (s.wr (F.MSR_LFLT_CRC m) 1).incSat (F.MSR_LCNT_CRC_ERR m)
    else if byteNat b 0 ≠ 0x60 then s
    else
      let f := byteNat b 1
      let s := (s.wrB (F.MSR_LSTAT_PACER m) (f.testBit 4)).wrB (F.MSR_LSTAT_UNSYNC m) (f.testBit 5)
      let s := if f.testBit 6 then
          let g := ctlFrame (latOwn s) 0x40 0 0x13 0 0
          let s := s.wr (F.MSR_LFLT_FE_FAULT m) 1
          if (s.link m).ctl.contains g then s else msrCtl s m 0x40 0x13 0
        else s
      match (s.link m).wait.find? fun w => decide (s.now ≤ w.due) with
      | none => s.wr (F.MSR_LFLT_PH_ERR m) 1
      | some w =>
        if f % 16 ≠ w.p then s.wr (F.MSR_LFLT_PH_ERR m) 1
        else if f.testBit 5 then
          let x := s.link m
          s.setLink m { x with wait := x.wait.map fun y => if y = w then { y with unsync := true } else y }
        else msrAccept s m w b)

/-- MSR_CONV_DEADLINE (R210): the oldest conversion awaited is not in Pommel SRAM by t_c + 15.625 µs. It is written there
marked STALE, with UNSYNC where its frame came so (Table 12-3); its value words are open. -/
def execMsrConvDeadline (m : Fin 4) (s : State) : Res :=
  let x := s.link m
  .next (match x.wait with
    | [] => s
    | w :: r =>
      if s.now < w.due then s
      else
        let s := (s.setLink m { x with wait := r }).incSat (F.MSR_LCNT_MISS m)
        let i := s.freeNat 32
        let s := s.took
        convPut s.took w.seq m w.p i (s.freeNat 32) (1 + 32 * w.unsync.toNat))

/-! ## Decimation (R213, R214) -/

/-- The conversions that a decimated sample uses, with their weights. -/
def decUse (trap : Bool) (idx : Nat) : List (Nat × Int) :=
  if trap then
    (16 * (idx - 1) + 8, 1) :: (16 * idx + 8, 1) ::
      (((List.range 7).map fun k => (16 * (idx - 1) + 9 + k, (2 : Int))) ++ (List.range 8).map fun k => (16 * idx + k, (2 : Int)))
  else [(16 * idx, 32)]

/-- round(s / 32), ties away from zero. -/
def decRound (x : Int) : Int :=
  let q : Int := ((x.natAbs + 16) / 32 : Nat)
  if x < 0 then -q else q

/-- Has every conversion that the decimated sample of link `m` uses been accepted, so that R213 gives its value? -/
def msrWhole (s : State) (m : Nat) : Bool :=
  s.bit F.MSR_CTL_EN m &&
    (decUse (s.rdB F.MSR_CTL_DEC_MODE) s.lat.midx).all fun u => ((s.link m).convs.find? u.1).isSome

/-- A link's decimated sample for the set: current, voltage, mark, I_OVR, V_OVR. -/
def msrDecimate (s : State) (m : Nat) : Int × Int × Nat × Bool × Bool :=
  if !s.bit F.MSR_CTL_EN m then (0, 0, 2, false, false)
  else
    let x := s.link m
    let use := decUse (s.rdB F.MSR_CTL_DEC_MODE) s.lat.midx
    let got := use.filterMap fun u => (x.convs.find? u.1).map fun c => (c, u.2)
    let io := got.any fun c => c.1.iOvr
    let vo := got.any fun c => c.1.vOvr
    let ok := msrWhole s m && !io && !vo && !s.rdB (F.MSR_LSTAT_UNCAL m)
    (decRound ((got.map fun c => c.1.i * c.2).sum), decRound ((got.map fun c => c.1.v * c.2).sum), if ok then 0 else 1, io, vo)

/-- Deliver the decimated sample of link `m`: MSR_DEC takes it if it is VALID (R214), the directory takes it in any case
(Table 8-4); where a conversion is missing its value is open (log entry 38). -/
def msrDeliver (m : Nat) (s : State) : State :=
  let (i, v, mark, io, vo) := msrDecimate s m
  let s := { s with msr := { s.msr with marks := s.msr.marks.set m mark } }
  let b := mark + 4 * io.toNat + 8 * vo.toNat + 16 * s.rd (F.MSR_LSTAT_PACER m) + 32 * s.rd (F.MSR_LSTAT_UNCAL m)
  let s := if mark = 0 then (s.wrI (F.MSR_DEC_I_I m) i).wrI (F.MSR_DEC_V_V m) v else s
  if msrWhole s m then capLink s m i v b
  else
    let x := s.freeNat 32
    let s := s.took
    capLink s.took m x (s.freeNat 32) b

/-! ## Register writes (R216, R224) -/

/-- A write of MSR_CTL: a link newly enabled begins with no accepted conversion. -/
def msrCtlReg (s : State) (v : Nat) : State :=
  let new := v % 16
  forN (fun m t => if new.testBit m && !s.bit F.MSR_CTL_EN m then t.setLink m { t.link m with wait := [], convs := [] } else t)
    4 (s.writeWord F.MSR_CTL_EN.addr v)

/-- Has the register at `a` of the MSR window an object in Table 8-9 that is written? -/
def msrObject (a : Nat) : Bool :=
  let o := a % 0x100
  a == 0x20300000 || a == 0x20300004 || a == 0x20300800 ||
    (decide (0x20300100 ≤ a) && decide (a < 0x20300500) && (o == 0 || o == 0x0C))

/-- A write of the MSR window (R216, R224): the supervisor partition reaches all of it, the Stitch endpoint what has an object. -/
def msrWrite (s : State) (r : Req) (a v : Nat) : State :=
  if r ≠ .supervisor && !(r.isStitch && msrObject a) then s.status 0x0207
  else if a = 0x20300800 then capCtlWrite s r v
  else if a = 0x20300804 ∨ a = 0x20300808 then
    if r ≠ .supervisor then s.status 0x0207
    else if s.rdB F.CAP_CTL_EN then s.status 0x0303
    else (s.writeWord a v).status 0
  else if a = 0x20300000 then (msrCtlReg s v).status 0
  else if a < 0x20300800 ∧ a % 0x100 = 4 ∧ 0x20300100 ≤ a ∧ a < 0x20300500 then
    (if v % 16 = 1 then msrMeasure s ((a - 0x20300100) / 0x100) else s).status 0
  else (s.writeWord a v).status 0

end Sys2Proof.Machine
end

