-- ==== Sys2Proof/Machine/SampleSet.lean ====
section
/-! DEFINITION. The commands that move all rings and receivers together: the sample trigger, the trains, the set
deadline, links, mastership (07_latigo_rings.md, 08_measurement_capture.md). -/

namespace Sys2Proof.Machine

/-! ## The set deadline (R29, R218) -/

/-- Cells of the set in hand that are marked STALE. -/
def staleCells (s : State) : Nat := ((List.range 4608).filter fun g => cellMark s (s.lat.seq % 16) g == 1).length

/-- The temperature sensors seen, with that of the set in hand. -/
def tempSeenNow (s : State) : BitVec 8 :=
  match latSensor s with
  | some i => s.lat.tempSeen ||| BitVec.ofNat 8 (2 ^ i)
  | none => s.lat.tempSeen

/-- Complete the set in hand: every sample not arrived is marked, the links' decimated samples are formed, the set
header and the directory record are written. -/
def setDeadline (s : State) : State :=
  if !s.lat.openSet then s
  else
    let s := forN latRingEnd 12 s
    let links := (List.range 4).any fun m => (msrDecimate s m).2.2.1 == 1
    let s := forN msrDeliver 4 s
    let j := s.lat.seq % 16
    let stale := staleCells s
    let fl := setFlags s (stale != 0) links
    let h := le 2 s.lat.seq ++ le 2 (fl + 1) ++ s.lat.st.ang.bytes ++ s.lat.st.pt.bytes ++ le 2 s.lat.segs ++ le 40 0
    let s := pomSetEnd (s.putBytes (setSlot j + 0x3F00) h)
    let s := dumpProgress (capComplete s fl stale)
    { s with lat := { s.lat with openSet := false, seen := true, tempSeen := tempSeenNow s }, pt := { s.pt with stepSet := false } }

/-- SET_DEADLINE (R29): the next trigger's tick has come. -/
def execSetDeadline (s : State) : Res := .next (if gridTick s && s.lat.trigAt != s.now then setDeadline s else s)

/-! ## The trigger (R176, R194, R197, R198) -/

/-- Does `seq` lie after `last`? -/
def seqPast (seq last : Nat) : Bool :=
  let d := (seq + 40000 - last) % 40000
  decide (0 < d) && decide (d < 20000)

/-- Mastership that passes with this set (R198). -/
def latPassing (s : State) (c : Nat) : State :=
  let x := s.ring c
  let s := match x.passOut with
    | some l => if seqPast s.lat.seq l then
        State.wr (s.setRing c { x with passOut := none, passed := true }) (F.LAT_RSTAT_MASTER c) 0
      else s
    | none => s
  match x.passIn with
  | some l => if s.girth.unpaired then s.setRing c { s.ring c with passIn := none }
    else if seqPast s.lat.seq l then
      State.wr (s.setRing c { s.ring c with passIn := none, passed := false }) (F.LAT_RSTAT_MASTER c) 1
    else s
  | none => s

/-- Has the module's reach a node outside the reach that the partner reports (R197)? -/
def latOutside (s : State) (c : Nat) : Bool :=
  s.partner.alive && (latReach (s.ring c) (latOwn s) &&& ~~~partnerReach s c) != 0

/-- Does the module trigger ring `c` from end `e` in the set that begins now (R194, R197)? -/
def latWant (s : State) (c : Nat) (e : Bool) : Bool :=
  let x := s.ring c
  let own := e == latOwn s
  if !latActive s c e || x.listening then false
  else if s.rdB (F.LAT_RSTAT_MASTER c) then
    own || (!s.girth.spanMember && match x.breakAt with
      | some t => decide (t + 800 ≤ s.now)
      | none => false)
  else own && x.r197

/-- Launch the trigger sequence of the set from every end that triggers the ring (R175, R176). -/
def latLaunch (w c : Nat) (s : State) : State :=
  let s := latPassing s c
  let x := s.ring c
  let r := if s.rdB (F.LAT_RSTAT_MASTER c) then false
    else if latOutside s c || x.absent then true
    else if 16 ≤ x.rxRun then false
    else x.r197
  let s := s.setRing c { x with r197 := r }
  let q := s.lat.seq
  let b := le 1 w ++ le 2 q ++ le 1 (0xFF - (w ^^^ (q % 256) ^^^ (q / 256)))
  [false, true].foldl (fun t e =>
    let on := latWant t c e
    let t := latTrig t c e on
    if on then (t.setRing c { t.ring c with started := true }).emit (.latTrigger c e b) else t) s

/-- LAT_TRIGGER (R130, R176): in the tick in which plant time reaches a multiple of 250 µs a set begins. `w` is the launch time after τ in 2.5 ns, from 40 to 119. -/
def execLatTrigger (w : Fin 80) (s : State) : Res :=
  .next (if !s.lat.running || !gridTick s then s
    else
      let s := setDeadline (sysAct s 0 0x20)
      let seq := seqNow s
      let mi := if s.msr.at_ = some s.now then s.msr.idx else s.msr.idx + 1
      let s := { s with lat := { s.lat with
        openSet := true, seq := seq, prevSeq := s.lat.seq, st := s.stamp, segs := 0, midx := mi, trigAt := s.now, trained := false
        window := false } }
      let s := dumpTrigger (capOpen s seq s.stamp)
      subSync (forN (latLaunch (40 + w.val)) 12 s))

/-- The train that a line end originates (Table 7-3). -/
def latOriginate (s : State) (c : Nat) (e : Bool) : State :=
  if latActive s c e then
    s.emit (.latTrain c e (withCrc (le 1 0x10 ++ le 1 (endAddr e) ++ le 2 s.lat.seq ++ le 2 0)))
  else s

/-- TRAIN_ORIGINATE (R179): 24 µs after the trigger, once in a set. -/
def execTrainOriginate (s : State) : Res :=
  .next (if !s.lat.openSet || s.lat.trained || s.now < s.lat.trigAt + 1920 then s
    else forN (fun c t => latOriginate (latOriginate t c false) c true) 12 { s with lat := { s.lat with trained := true } })

/-! ## Mastership (R195, R197, R199) -/

/-- TRIGGER_RX (R195, R197): a valid trigger sequence from the partner's end. -/
def execTriggerRx (c : Fin 12) (s : State) : Res :=
  let x := s.ring c
  let s := s.setRing c { x with heard := x.heard || x.listening, rxNow := true, rxMiss := 0, absent := false, started := true }
  .next { s with lat := { s.lat with partnerAt := some s.now }, girth := { s.girth with partnerRing := true } }

/-- TRIGGER_ABSENT (R197): no valid trigger for 4 set periods; a module that is not master triggers from its end. -/
def execTriggerAbsent (c : Fin 12) (s : State) : Res :=
  let x := s.ring c
  .next (if latOn s c && !s.rdB (F.LAT_RSTAT_MASTER c) && !x.listening && x.rxMiss == 4 then
      let s := s.setRing c { x with absent := true, r197 := true, rxRun := 0 }
      if latActive s c (latOwn s) then latTrig s c (latOwn s) true else s
    else s)

/-- The listen of a ring ends (R195): 2 ms after its engine started on side A, 6 ms on side B. -/
def latListenEnd (c : Nat) (s : State) : State :=
  let x := s.ring c
  let span := if s.rdB F.SEAT_STAT_SIDE then 480000 else 160000
  if !latOn s c || !x.listening || s.now < x.startAt + span then s
  else
    let s := s.setRing c { x with listening := false }
    if x.heard || s.girth.unpaired then s
    else latEnumStart (s.wr (F.LAT_RSTAT_MASTER c) 1) c true

/-- MASTERSHIP_LISTEN_END (R195). -/
def execMastershipListenEnd (s : State) : Res := .next (subSync (forN latListenEnd 12 s))

/-- The module masters every ring (R199). -/
def latTakeover (s : State) : State :=
  subSync (forN (fun c t =>
    if latOn t c then
      State.wr (t.setRing c { t.ring c with
        listening := false, passed := false, r197 := false, passOffer := none, passOut := none, passIn := none }) (F.LAT_RSTAT_MASTER c) 1
    else t) 12 s)

/-! ## Links (R170, R206) -/

/-- LINK_UP (R170, R206, R212): line ends and receivers that are off see nothing (Table 2-6). -/
def execLinkUp (l : Line) (s : State) : Res :=
  .next (match l with
    | .lat c e => if s.lat.running then latLinkUp s c e else s
    | .msr m => if s.msr.running then msrLinkUp s m else s)

/-- LINK_LOSS (R170, R206). -/
def execLinkLoss (l : Line) (s : State) : Res :=
  .next (match l with
    | .lat c e => latLinkLoss s c e
    | .msr m => s.wr (F.MSR_LSTAT_LINK m) 0)

/-! ## Start and register writes (R190, R203) -/

/-- The engine of ring `c` starts: it listens before it masters (R195). -/
def latRingStart (s : State) (c : Nat) : State :=
  let x := s.ring c
  s.setRing c { wired := x.wired, listening := true, startAt := s.now }

/-- The engine of ring `c` stops. -/
def latRingStop (s : State) (c : Nat) : State :=
  let s := latTrig (latTrig s c false false) c true false
  let s := s.setRing c { wired := (s.ring c).wired }
  let s := ((s.wr (F.LAT_RSTAT_MASTER c) 0).wr (F.LAT_RSTAT_BREAK c) 0).wr (F.LAT_RSTAT_ENUM_BUSY c) 0
  subSync (latDegrade (s.clrBit F.LAT_SUM_BREAK c) c)

/-- Put EN bits of the rings, starting and stopping engines. -/
def latSetEn (s : State) (en : Nat) : State :=
  let old := s.rd F.LAT_CTL_EN
  let s := s.wr F.LAT_CTL_EN en
  forN (fun c t =>
    if en.testBit c == old.testBit c then t
    else if en.testBit c then latRingStart t c else latRingStop t c) 12 s

/-- The ring engines and receivers start (R190, R203, R212): EN is set for every ring with NODES above 0. -/
def latStart (s : State) : State :=
  let s := { s with lat := { s.lat with running := true }, msr := { s.msr with running := true } }
  latSetEn s (bitsWhere (fun c => latNodes s c != 0) 12)

/-- A write of NODES (R203). -/
def latNodesWrite (s : State) (c v : Nat) : State :=
  let n := v % 32
  if 24 < n then s
  else
    let old := latNodes s c
    let s := s.wr (F.LAT_RCFG_NODES c) n
    let en := s.rd F.LAT_CTL_EN
    if old = 0 ∧ n ≠ 0 then latSetEn s (en ||| 2 ^ c)
    else if old ≠ 0 ∧ n = 0 then latSetEn s (if en.testBit c then en - 2 ^ c else en)
    else s

/-- A value written to LAT_RCMD(c): other values are ignored (Table 7-14). -/
def latRcmd (s : State) (c v : Nat) : State :=
  match v % 16 with
  | 1 => latEnumStart s c true
  | 2 => latEnumStart s c false
  | 3 => latMeasureAll s c
  | 4 => latMapStore s c
  | 5 => latPass s c
  | _ => s

/-- Has the register at `a` of the Latigo window an object in Table 7-16 that is written? -/
def latObject (a : Nat) : Bool :=
  let o := (a - 0x20201000) % 0x1000
  a == 0x20200004 || (decide (0x20201000 ≤ a) && (o == 0 || o == 4 || o == 0x0C))

/-- A write of the Latigo window (R203): the supervisor partition reaches all of it, the Stitch endpoint what has an object. -/
def latWrite (s : State) (r : Req) (a v : Nat) : State :=
  let c := (a - 0x20201000) / 0x1000
  let o := (a - 0x20201000) % 0x1000
  if r ≠ .supervisor && !(r.isStitch && latObject a) then s.status 0x0207
  else if a = 0x20200000 then (latSetEn s (v % 4096)).status 0
  else if 12 ≤ c then s.status 0
  else if 0x20201000 ≤ a ∧ o = 0 then (latNodesWrite s c v).status 0
  else if 0x20201000 ≤ a ∧ o = 4 then (latRcmd s c v).status 0
  else if 0x20201000 ≤ a ∧ o = 0x0C then (latDegrade (s.writeWord a v) c).status 0
  else (s.writeWord a v).status 0

end Sys2Proof.Machine
end

