-- ==== Sys2Proof/Machine/Tilth.lean ====
section
/-! DEFINITION. Tilth's arithmetic, parameters and passes (10_tilth_cell_state.md, 11_tilth_impedance.md). Both passes
are the same functions: `neg` marks the diverse second pass. -/

namespace Sys2Proof.Machine

/-! ## Lane arithmetic (R246) -/

/-- a / 2^k to the nearest integer, ties away from zero. -/
def rnd (a : Int) (k : Nat) : Int :=
  let q : Int := ((2 * a.natAbs + 2 ^ k) / 2 ^ (k + 1) : Nat)
  if a < 0 then -q else q

/-- a / b to the nearest integer, ties away from zero; 0 when b is 0. -/
def rdiv (a : Int) (b : Nat) : Int :=
  let q : Int := ((2 * a.natAbs + b) / (2 * b) : Nat)
  if a < 0 then -q else q

/-- The symmetric ranges of state values and of accumulators. -/
def sat31 (x : Int) : Int := clampI x (-(2 ^ 31 - 1)) (2 ^ 31 - 1)
def sat47 (x : Int) : Int := clampI x (-(2 ^ 47 - 1)) (2 ^ 47 - 1)

/-- The integer nearest to a square root. -/
def isqrt (n : Nat) : Nat :=
  let r := Nat.sqrt n
  if r < n - r * r then r + 1 else r

/-- x of the second pass is −x of the first. -/
def flip (neg : Bool) (x : Int) : Int := if neg then -x else x

/-! ## Parameters (R255, R274) -/

/-- Number in bytes [a, a + n) of a parameter copy, and a signed coefficient, held to the symmetric range. -/
def parNum (p : List Host.Cell) (a n : Nat) : Nat := ofLe ((List.range n).map fun i => memGet p (a + i))
def parInt (p : List Host.Cell) (a : Nat) : Int := sat31 (toInt 32 (parNum p a 4))

def parEn (p : List Host.Cell) (g : Nat) : Bool := (parNum p (64 * g) 1).testBit 0
def parModel (p : List Host.Cell) (g : Nat) : Bool := (parNum p (64 * g) 1).testBit 1
def parSeed (p : List Host.Cell) (g : Nat) : Bool := (parNum p (64 * g) 1).testBit 2
def parString (p : List Host.Cell) (g : Nat) : Nat := parNum p (64 * g + 1) 1
def parOcv (p : List Host.Cell) (g : Nat) : Nat := parNum p (64 * g + 2) 1
def parGroup (p : List Host.Cell) (g : Nat) : Nat := parNum p (64 * g + 3) 1
def parSensor (p : List Host.Cell) (g : Nat) : Nat := parNum p (64 * g + 4) 1

/-- Entry `j` of open-circuit table `t`. -/
def parOcvT (p : List Host.Cell) (t j : Nat) : Int := parInt p (0x48000 + 512 * t + 4 * j)

/-- ORD, USED and IMIN of bin `b`; ZS of string `m` (Table 11-1). -/
def parOrd (p : List Host.Cell) (b : Nat) : Nat := parNum p (0x4A000 + 16 * b) 1
def parUsed (p : List Host.Cell) (b : Nat) : Bool := (parNum p (0x4A001 + 16 * b) 1).testBit 0
def parImin (p : List Host.Cell) (b : Nat) : Nat := parNum p (0x4A004 + 16 * b) 4
def parZs (p : List Host.Cell) (m : Nat) : Nat := parNum p (0x4A200 + 16 * m) 8

/-- The USED bins with their orders. -/
def parBins (p : List Host.Cell) : List (Nat × Nat) :=
  (List.range 20).filterMap fun b => if parUsed p b then some (b, parOrd p b) else none

/-- IMIN of order `h`: that of the bin with this order, else 0 (R288). -/
def parIminOf (p : List Host.Cell) (h : Nat) : Nat :=
  match (parBins p).find? fun b => b.2 == h with
  | some b => parImin p b.1
  | none => 0

/-- Is any of the bytes [a, a + n) non-zero? -/
def parAny (p : List Host.Cell) (a n : Nat) : Bool := p.any fun c => decide (a ≤ c.1) && decide (c.1 < a + n) && c.2 != 0

/-- The fault of the record of cell `g`: REASON of TIL_PERR (R256). -/
def parCellFault (p : List Host.Cell) (g : Nat) : Option Nat :=
  let a := 64 * g
  let big := fun x => decide (2 ^ 30 < parNum p x 4)
  if 3 < parString p g then some 1
  else if 15 < parOcv p g then some 2
  else if 7 < parSensor p g ∧ parSensor p g ≠ 0xFF then some 3
  else if big (a + 8) || big (a + 12) then some 4
  else if 8 ≤ parNum p a 1 || parAny p (a + 5) 3 || parAny p (a + 48) 16 then some 5
  else none

/-- Is a byte after T[64] of a table not zero (R255)? -/
def parTableTail (p : List Host.Cell) (t : Nat) : Bool := parAny p (0x48000 + 512 * t + 260) 252

/-- Does a used table have entries that decrease? -/
def parTableBad (p : List Host.Cell) (t : Nat) : Bool :=
  ((List.range 4608).any fun g => parEn p g && parOcv p g == t) &&
    (List.range 64).any fun j => decide (parOcvT p t (j + 1) < parOcvT p t j)

/-- The fault of the impedance part: INDEX and REASON of TIL_ZPERR (R274). -/
def parZFault (p : List Host.Cell) : Option (Nat × Nat) :=
  match (List.range 20).findSome? fun b =>
      let a := 0x4A000 + 16 * b
      if 39 < parOrd p b then some (b, 1)
      else if parUsed p b && (List.range b).any fun k => parUsed p k && parOrd p k == parOrd p b then some (b, 2)
      else if parAny p (a + 2) 2 || parAny p (a + 8) 8 then some (b, 3)
      else none with
  | some x => some x
  | none =>
    match (List.range 4).findSome? fun m =>
        if parAny p (0x4A208 + 16 * m) 8 then some (m, 3)
        else if parZs p m = 0 ∧ ((List.range 4608).any fun g => parEn p g && parString p g == m) then some (m, 4)
        else none with
    | some x => some x
    | none => if parAny p 0x4A140 0xC0 || parAny p 0x4A240 (0x100000 - 0x4A240) then some (0x1F, 3) else none

/-! ## The cell model (R250-R252) -/

/-- ocv(z) of R252, with the table mirrored for the second pass. -/
def ocvAt (p : List Host.Cell) (neg : Bool) (t : Nat) (z : Int) : Int :=
  let u := (z + 2 ^ 31).toNat
  let j := u / 2 ^ 26
  let f := u % 2 ^ 26
  let e := fun k => if neg then -parOcvT p t (64 - k) else parOcvT p t k
  rnd (e j * ((2 ^ 26 - f : Nat) : Int) + e (j + 1) * (f : Int)) 26

/-- One set of R250 for a cell whose estimator runs; `x` is its sample in Q15.16 when VALID. -/
def tilEstimate (p : List Host.Cell) (g : Nat) (i : Int) (x : Option Int) (c : TilCell) : TilCell :=
  let a := 64 * g
  let r1 := rnd (parInt p (a + 8) * c.v1) 30 + rnd (parInt p (a + 16) * i) 24
  let r2 := rnd (parInt p (a + 12) * c.v2) 30 + rnd (parInt p (a + 20) * i) 24
  let v1 := sat31 r1
  let v2 := sat31 r2
  let ry := c.ocv + rnd (parInt p (a + 24) * i) 24 + v1 + v2
  let y := sat31 ry
  let cl := v1 != r1 || v2 != r2 || y != ry
  let c := { c with v1 := v1, v2 := v2, clampC := c.clampC || cl, accI := sat47 (c.accI + i) }
  match x with
  | none => c
  | some x =>
    let e := sat31 (x - y)
    let e2 := sat47 (c.accE2 + e * e)
    let s2 := sat47 (c.sE2 + e * e)
    { c with accE := sat47 (c.accE + e), accE2 := e2, n := c.n + 1,
             sE := sat47 (c.sE + e), sE2 := s2, sEn := c.sEn + 1,
             clampC := c.clampC || e != x - y || e2 != c.accE2 + e * e,
             clampS := c.clampS || s2 != c.sE2 + e * e || sat47 (c.sE + e) != c.sE + e }

/-- One VALID sample in the statistics of a cell: `xc` in counts. -/
def tilStat (xc : Int) (c : TilCell) : TilCell :=
  let sx := c.sX + xc * 65536
  { c with sN := c.sN + 1, cN := c.cN + 1, sX := sat47 sx, sV := sat47 (c.sV + xc), sV2 := sat47 (c.sV2 + xc * xc),
           vmin := if c.sN = 0 ∨ xc < c.vmin then xc else c.vmin, vmax := if c.sN = 0 ∨ c.vmax < xc then xc else c.vmax,
           clampS := c.clampS || sat47 sx != sx || sat47 (c.sV2 + xc * xc) != c.sV2 + xc * xc }

/-- The close of a cycle window for a cell (R251); the sums stay for the record. -/
def tilObserve (p : List Host.Cell) (neg : Bool) (g : Nat) (c : TilCell) : TilCell :=
  let a := 64 * g
  let e := if c.n = 0 then 0 else rdiv c.accE c.n
  let z0 := c.z + rnd (parInt p (a + 28) * c.accI) 32
  let z1 := sat31 z0 + rnd (parInt p (a + 32) * e) 31
  let z := sat31 z1
  let r1 := c.v1 + rnd (parInt p (a + 36) * e) 31
  let r2 := c.v2 + rnd (parInt p (a + 40) * e) 31
  { c with emean := e, z := z, v1 := sat31 r1, v2 := sat31 r2, ocv := ocvAt p neg (parOcv p g) z,
           clampC := c.clampC || sat31 z0 != z0 || z != z1 || sat31 r1 != r1 || sat31 r2 != r2 }

/-- A cell after the close: its window sums are zero (R251). -/
def TilCell.fresh (c : TilCell) : TilCell := { c with accE := 0, accE2 := 0, accI := 0, n := 0, clampC := false, cN := 0 }

/-- A cell at the opening of a statistics window. -/
def TilCell.freshStat (c : TilCell) : TilCell :=
  { c with sN := 0, sX := 0, sV := 0, sV2 := 0, vmin := 0, vmax := 0, sEn := 0, sE := 0, sE2 := 0, tS := 0, tN := 0, clampS := false }

/-- A seed (R256, R265): z = Z_INIT, both polarisations zero. -/
def tilSeed (p : List Host.Cell) (neg : Bool) (g : Nat) (c : TilCell) : TilCell :=
  let z := flip neg (sat31 (parInt p (64 * g + 44)))
  { c with z := z, v1 := 0, v2 := 0, ocv := ocvAt p neg (parOcv p g) z }

/-! ## Demodulation (R275, R276) -/

/-- The reference pair (c, s) of order `h` at angle `θ`; the second pass swaps them (R283). -/
def tilRef (neg : Bool) (h θ : Nat) : Int × Int :=
  let j := (h * θ % 2 ^ 32 + 2 ^ 19) / 2 ^ 20 % 4096
  let c := cosTab j
  let s := cosTab (j + 3072)
  if neg then (s, c) else (c, s)

/-- Add to a sum under a key. -/
def SMap.addI (m : SMap Int) (k : Nat) (x : Int) : SMap Int := m.set k (sat47 (m.get k 0 + x))

/-- Does adding to the sum under a key saturate it? -/
def SMap.overI (m : SMap Int) (k : Nat) (x : Int) : Bool := sat47 (m.get k 0 + x) != m.get k 0 + x

/-- Does a sum leave the accumulator's range? -/
def over47 (x : Int) : Bool := sat47 x != x

/-- One set of a string whose current is VALID. -/
def zStrSet (neg : Bool) (orders : List (Nat × Nat)) (θ : Nat) (i : Int) (x : ZStr) : ZStr :=
  let id := rnd i 8
  let x := { x with ns := x.ns + 1, s1 := sat47 (x.s1 + id), s2 := sat47 (x.s2 + id * id)
                    clamp := x.clamp || over47 (x.s1 + id) || over47 (x.s2 + id * id) }
  orders.foldl (fun y o =>
    if o.2 = 0 then y
    else
      let r := tilRef neg o.2 θ
      let a := rnd (i * r.1) 15
      let b := rnd (i * r.2) 15
      { y with si := y.si.addI o.1 a, sq := y.sq.addI o.1 b, clamp := y.clamp || y.si.overI o.1 a || y.sq.overI o.1 b }) x

/-- One set of a cell whose string's current is VALID; `xc` is its sample when VALID. -/
def zCellSet (neg : Bool) (orders : List (Nat × Nat)) (θ : Nat) (i : Int) (xc : Option Int) (c : ZCell) : ZCell :=
  let id := rnd i 8
  match xc with
  | some v =>
    let c := { c with n := c.n + 1, x1 := sat47 (c.x1 + v), xi := sat47 (c.xi + v * id)
                      clamp := c.clamp || over47 (c.x1 + v) || over47 (c.xi + v * id) }
    orders.foldl (fun y o =>
      if o.2 = 0 then y
      else
        let r := tilRef neg o.2 θ
        { y with vi := y.vi.addI o.1 (v * r.1), vq := y.vq.addI o.1 (v * r.2)
                 clamp := y.clamp || y.vi.overI o.1 (v * r.1) || y.vq.overI o.1 (v * r.2) }) c
  | none =>
    let c := { c with mn := c.mn + 1, m1 := sat47 (c.m1 + id), m2 := sat47 (c.m2 + id * id)
                      clamp := c.clamp || over47 (c.m1 + id) || over47 (c.m2 + id * id) }
    orders.foldl (fun y o =>
      if o.2 = 0 then y
      else
        let r := tilRef neg o.2 θ
        let a := rnd (i * r.1) 15
        let b := rnd (i * r.2) 15
        { y with mi := y.mi.addI o.1 a, mq := y.mq.addI o.1 b, clamp := y.clamp || y.mi.overI o.1 a || y.mq.overI o.1 b }) c

/-! ## One set of one pass (R250, R253, R276) -/

/-- What a pass reads of a set in the capture ring: cells and marks, currents when VALID, temperatures, its stamp. -/
structure TilSetView where
  dir : Nat
  cells : Nat
  cur : List (Option Int)
  temp : Option Nat
  angle : Nat

/-- The view of set `n` (Table 8-4); the second pass negates currents. -/
def tilView (s : State) (neg : Bool) (n : Nat) : TilSetView :=
  let i := capSlot s n
  let d := capDir s i
  let cur := (List.range 4).map fun m =>
    if (s.byteAt (d + 64 + 16 * m + 8)).toNat % 4 = 0 then some (flip neg (toInt 32 (s.numAt (d + 64 + 16 * m) 4))) else none
  { dir := d, cells := capCells s i, cur := cur,
    temp := if (s.numAt (d + 6) 2).testBit 1 then some (s.byteAt (d + 26)).toNat else none,
    angle := s.numAt (d + 8) 4 }

/-- The sample of cell `g` in counts relative to 32,768 when VALID. -/
def tilSample (s : State) (neg : Bool) (w : TilSetView) (g : Nat) : Option Int :=
  if (s.byteAt (w.dir + 704 + g / 4)).toNat / 4 ^ (g % 4) % 4 = 0 then
    some (flip neg (clampI ((s.numAt (w.cells + 2 * g) 2 : Int) - 32768) (-32767) 32767))
  else none

/-- A VALID reading of sensor `k` of the node of cell `g`, when this set carries it; 0x8000 is no reading (R181, R283). -/
def tilTemp (s : State) (neg : Bool) (w : TilSetView) (g k : Nat) : Option Int :=
  let x := g / 16
  let v := s.numAt (w.dir + 128 + 2 * x) 2
  if w.temp = some k ∧ (s.byteAt (w.dir + 1856 + x / 4)).toNat / 4 ^ (x % 4) % 4 = 0 ∧ v ≠ 0x8000 then
    some (flip neg (toInt 16 v))
  else none

/-- The current that the estimator uses for a string (R253): none while it is suspended; the flag says it is held. -/
def tilCurrent (p : TilPass) (now : Option Int) (m : Nat) : Option Int × Bool :=
  match now with
  | some i => (some i, false)
  | none =>
    match p.cur.find? m with
    | none => (none, false)
    | some i => if p.held.get m 0 < 8 then (some i, true) else (none, false)

/-- The strings' hold state after a set. -/
def tilHold (w : TilSetView) (p : TilPass) : TilPass :=
  (List.range 4).foldl (fun q m =>
    let now := (w.cur[m]?).join
    let r := tilCurrent p now m
    match now with
    | some i => { q with cur := q.cur.set m i, held := q.held.set m 0 }
    | none =>
      { q with held := q.held.set m (min 9 (q.held.get m 0 + 1)), heldI := if r.2 then q.heldI ||| 2 ^ m else q.heldI,
               staleS := if r.1.isNone then q.staleS ||| 2 ^ m else q.staleS }) p

/-- One cell in one set. -/
def tilCellSet (s : State) (neg : Bool) (w : TilSetView) (p : TilPass) (g : Nat) (c : TilCell) : TilCell :=
  if !parEn p.par g then c
  else
    let m := parString p.par g
    let xc := tilSample s neg w g
    let c := match xc with
      | some v => tilStat v c
      | none => c
    let c := match tilTemp s neg w g (parSensor p.par g) with
      | some t => { c with tS := c.tS + t, tN := c.tN + 1 }
      | none => c
    if p.model && parModel p.par g then
      match (tilCurrent p ((w.cur[m]?).join) m).1 with
      | some i => tilEstimate p.par g i (xc.map (· * 65536)) c
      | none => c
    else c

/-- The impedance sums of the bins, or of a sweep, in one set. -/
def zSet (s : State) (neg : Bool) (w : TilSetView) (p : TilPass) (z : ZSums) : ZSums :=
  let strs := (List.range 4).foldl (fun t m =>
    match (w.cur[m]?).join with
    | some i => t.set m (zStrSet neg z.orders w.angle i (t.get m {}))
    | none => t) z.strs
  let cells := (List.range (z.last + 1 - z.first)).foldl (fun t k =>
    let g := z.first + k
    if !parEn p.par g then t
    else
      match (w.cur[parString p.par g]?).join with
      | some i => t.set g (zCellSet neg z.orders w.angle i (tilSample s neg w g) (t.get g {}))
      | none => t) z.cells
  { z with strs := strs, cells := cells }

/-- A pass processes set `n` (R250, R276, R283). -/
def tilPassSet (s : State) (neg : Bool) (p : TilPass) (n : Nat) : TilPass :=
  let w := tilView s neg n
  let cells := p.cells.map fun e => (e.1, tilCellSet s neg w p e.1 e.2)
  let sums := p.sums.map fun e => (e.1, zSet s neg w p e.2)
  { tilHold w p with cells := cells, sums := sums, next := n + 1 }

/-- The close of a cycle window in a pass (R251, R256): its cells at the close, and the pass as the next window finds it, with
the parameters that apply there and the cells they seed. -/
def passClose (neg : Bool) (newPar : Option (List Host.Cell)) (model : Bool) (p : TilPass) : SMap TilCell × TilPass :=
  let cs := p.cells.map fun e =>
    let c := if parEn p.par e.1 && parModel p.par e.1 && p.model then tilObserve p.par neg e.1 e.2 else e.2
    (e.1, { c with zEnd := c.z, v1End := c.v1, v2End := c.v2 })
  let par := newPar.getD p.par
  let next := cs.map fun e => (e.1, if newPar.isSome && parSeed par e.1 then tilSeed par neg e.1 e.2.fresh else e.2.fresh)
  (cs, { p with par := par, cells := next, model := model, heldI := 0, staleS := 0 })

/-! ## Windows -/

/-- A window takes a set (Table 10-6). -/
def TilWin.add (w : TilWin) (s : State) (n : Nat) : TilWin :=
  let d := capDir s (capSlot s n)
  let fl := s.numAt (d + 6) 2
  let st : Stamp := ⟨⟨BitVec.ofNat 48 (s.numAt (d + 20) 6), BitVec.ofNat 30 (s.numAt (d + 16) 4)⟩,
    ⟨BitVec.ofNat 32 (s.numAt (d + 12) 4), BitVec.ofNat 32 (s.numAt (d + 8) 4)⟩⟩
  let w := if w.sets = 0 then { w with st := st, set0 := n } else w
  { w with setN := n, sets := w.sets + 1, hold := w.hold || fl.testBit 2, step := w.step || fl.testBit 3,
           dec := w.dec ||| (if fl.testBit 6 then 2 else 1) }

/-- The cycle number of set `n`. -/
def setCycle (s : State) (n : Nat) : Nat := s.numAt (capDir s (capSlot s n) + 12) 4

/-- A window that opens with cycle `c`. -/
def TilWin.begin (c : Nat) : TilWin := { cycFirst := c, cycLast := c, cycles := 1 }

/-- A window of several cycles goes on with cycle `c`. -/
def TilWin.cycle (w : TilWin) (c : Nat) : TilWin := { w with cycPrev := w.cycLast, cycLast := c, cycles := w.cycles + 1 }

/-- Empty sums for the bins of a parameter set, and for the sweeps that run (R276, R288). -/
def zFresh (z : ZSums) : ZSums := { z with cells := [], strs := [] }

end Sys2Proof.Machine
end

