-- ==== Sys2Proof/Machine/TilthPub.lean ====
section
/-! DEFINITION. Tilth's commands: start, passes, window closes, publication, sweeps, parameters and microcode
(10_tilth_cell_state.md, 11_tilth_impedance.md). -/

namespace Sys2Proof.Machine

/-! ## Status (R267, R287) -/

/-- Keep TIL_STAT.DEGRADED and its degraded status. -/
def tilDegrade (s : State) : State :=
  let recent := match s.til.degAt with
    | some t => decide (s.now < t + 800000000)
    | none => false
  let d := (s.rdB F.TIL_CTL_EN && !s.rdB F.TIL_STAT_RUNNING) || s.rdB F.TIL_ZSTAT_LANE_FLT || recent
  (s.wrB F.TIL_STAT_DEGRADED d).degrade 800 d

/-- A fault of R267 or R287 that degrades for 10 s. -/
def tilFlag (s : State) (f : Field) : State :=
  tilDegrade (State.wr { s with til := { s.til with degAt := some s.now } } f 1)

/-! ## Regions (R255, R257, R266) -/

def tilWork (s : State) : Nat := s.rd F.TIL_WORK_BASE_BASE * 2 ^ 20
def tilRes (s : State) : Nat := s.rd F.TIL_RES_BASE_BASE * 2 ^ 20
def tilPar (s : State) : Nat := s.rd F.TIL_PARAM_BASE_BASE * 2 ^ 20

/-- Do the regions and the rest of R266 allow EN? -/
def tilRegionsOk (s : State) : Bool :=
  let w := tilWork s
  let r := tilRes s
  let p := tilPar s
  decide (w % 2 ^ 22 = 0) && decide (r % 2 ^ 22 = 0) && !overlap w (2 ^ 22) r (2 ^ 22) && !overlap w (2 ^ 22) p (2 ^ 20) &&
    !overlap r (2 ^ 22) p (2 ^ 20) && inFreeDram s w (2 ^ 22) && inFreeDram s r (2 ^ 22) &&
    inPlotDram s (s.rd F.TIL_CTL_OWNER) p (2 ^ 20) && s.rdB F.TIL_CTL_OWNER_VALID && s.rdB F.TIL_STAT_PSET_VALID &&
    s.rdB F.CAP_CTL_EN

/-- The owner plot, or the supervisor (R266, R293). -/
def tilOwner (s : State) (r : Req) : Bool :=
  match r with
  | .supervisor => true
  | .plot p => s.rdB F.TIL_CTL_OWNER_VALID && s.rd F.TIL_CTL_OWNER == p.val
  | .stitch p sup _ => sup || (s.rdB F.TIL_CTL_OWNER_VALID && s.rd F.TIL_CTL_OWNER == p.val)
  | .partner => false

/-- The supervisor partition, or a Stitch session with its role. -/
def tilSup (r : Req) : Bool :=
  match r with
  | .supervisor => true
  | .stitch _ sup _ => sup
  | _ => false

/-- A write of TIL_CTL (R266): EN, RESUME, OWNER and OWNER_VALID are the supervisor's, MODEL_EN and DIV_EN also the
owner's. -/
def tilCtlWrite (s : State) (r : Req) (v : Nat) : State :=
  let same := fun f => (f : Field).slice v == s.rd f
  if !tilOwner s r then s.status 0x0207
  else if !tilSup r && !(same F.TIL_CTL_EN && same F.TIL_CTL_RESUME && same F.TIL_CTL_OWNER && same F.TIL_CTL_OWNER_VALID) then
    s.status 0x0207
  else
    let was := s.rdB F.TIL_CTL_EN
    let s := s.writeWord F.TIL_CTL_EN.addr v
    if was then
      if v % 2 = 1 then s.status 0
      else (tilDegrade (jobsFail (tilStopNote s false) (fun x => x.kind == 3 && x.state == 2) 0x0809)).status 0
    else if v % 2 = 0 then s.status 0
    else if tilRegionsOk s then (tilDegrade { s with til := { s.til with enAt := s.now } }).status 0
    else ((s.wr F.TIL_CTL_EN 0).wr F.TIL_FLT_CFG_ERR 1).status 0x0302

/-- TIL_ENABLE (R266): EN is set, the other fields of TIL_CTL as they are. -/
def execTilEnable (r : Req) (s : State) : Res :=
  .next (hostWrite s r F.TIL_CTL_EN.addr (tilCtlWrite s r (s.readWord F.TIL_CTL_EN.addr / 2 * 2 + 1)))

/-! ## Commit (R256, R274) -/

/-- The parameter region as it stands in DRAM. -/
def tilCopy (s : State) : List Host.Cell :=
  let p := tilPar s
  (s.mem.filter fun c => decide (p ≤ c.1) && decide (c.1 < p + 2 ^ 20)).map fun c => (c.1 - p, c.2)

/-- Report a fault of the commit. -/
def tilParamErr (s : State) (cell reason table : Nat) : State :=
  (((s.wr F.TIL_PERR_CELL cell).wr F.TIL_PERR_REASON reason).wr F.TIL_PERR_TABLE table).wr F.TIL_FLT_PARAM_ERR 1

/-- COMMIT (R256): every record, table and impedance parameter is checked. -/
def tilCommit (s : State) (r : Req) : State :=
  let p := tilCopy s
  if !tilOwner s r then s.status 0x0207
  else if s.rdB F.TIL_STAT_COMMIT_PEND then s.status 0x0304
  else
    match (List.range 4608).findSome? fun g => (parCellFault p g).map fun e => (g, e) with
    | some (g, e) => (tilParamErr s g e 0).status 0x0309
    | none =>
      if (List.range 16).any (parTableTail p) then (tilParamErr s 0x1FFF 5 0).status 0x0309
      else match (List.range 16).find? fun t => parTableBad p t with
      | some t => (tilParamErr s 0x1FFF 6 t).status 0x0309
      | none =>
        match parZFault p with
        | some (i, e) => (((tilParamErr s 0x1FFF 7 0).wr F.TIL_ZPERR_INDEX i).wr F.TIL_ZPERR_REASON e).status 0x0309
        | none =>
          let s := ((s.wr F.TIL_PERR_CELL 0x1FFF).wr F.TIL_PERR_REASON 0).wr F.TIL_PERR_TABLE 0
          let s := ((s.wr F.TIL_ZPERR_INDEX 0x1F).wr F.TIL_ZPERR_REASON 0).wr F.TIL_STAT_COMMIT_PEND 1
          State.status { s with til := { s.til with pend := some p, pendAt := s.now } } 0

/-- COMMIT (R256). -/
def execCommit (r : Req) (s : State) : Res := .next (hostWrite s r F.TIL_PCMD_CMD.addr (tilCommit s r))

/-- Withdraw a pending commit (R256). -/
def tilWithdraw (s : State) : State :=
  State.wr { s with til := { s.til with pend := none } } F.TIL_STAT_COMMIT_PEND 0

/-- TIL_COMMIT_ABORT (R256). -/
def execTilCommitAbort (r : Req) (s : State) : Res :=
  .next (hostWrite s r F.TIL_PCMD_CMD.addr (if !tilOwner s r then s.status 0x0207 else (tilWithdraw s).status 0))

/-- TIL_COMMIT_APPLY (R256): the first cycle boundary at least 1 ms after the copy. The windows that open there take
the parameters, each pass in its turn. -/
def execTilCommitApply (s : State) : Res :=
  .next (match s.til.pend with
    | none => s
    | some p =>
      if s.now < s.til.pendAt + 80000 || !cycleNew s then s
      else
        let s := (tilWithdraw s).incWrap F.TIL_PSTAT_PSEQ
        let s := s.wr F.TIL_STAT_PSET_VALID 1
        let t := s.til
        if s.rdB F.TIL_STAT_RUNNING then { s with til := { t with newPar := some p } }
        else { s with til := { t with p1 := { t.p1 with par := p }, p2 := { t.p2 with par := p } } })

/-! ## Microcode (R264) -/

/-- One bit of the CRC-32 of IEEE 802.3, reflected. -/
def crc32Bit (c : Nat) : Nat := if c % 2 = 1 then (c / 2) ^^^ 0xEDB88320 else c / 2

/-- The CRC-32 over bytes, from the running value. -/
def crc32From : Nat → List Byte → Nat
  | c, [] => c
  | c, b :: r =>
    let x := c ^^^ b.toNat
    crc32From (crc32Bit (crc32Bit (crc32Bit (crc32Bit (crc32Bit (crc32Bit (crc32Bit (crc32Bit x)))))))) r

/-- Is microcode loading open to this requester? -/
def ucRefusal (s : State) (r : Req) : Option Nat :=
  if r ≠ .supervisor then some 0x0207 else if s.rdB F.TIL_UC_CTL_LOCK then some 0x020B else none

/-- A write of TIL_UC_ADDR: the CRC starts again. -/
def ucAddr (s : State) (r : Req) (v : Nat) : State :=
  match ucRefusal s r with
  | some c => s.status c
  | none =>
    let s := (s.wr F.TIL_UC_ADDR_ADDR v).wr F.TIL_UC_CRC_CRC 0
    State.status { s with til := { s.til with crc := 0xFFFFFFFF } } 0

/-- TIL_UC_ADDR_WRITE (R264). -/
def execTilUcAddrWrite (r : Req) (v : Word) (s : State) : Res :=
  .next (hostWrite s r F.TIL_UC_ADDR_ADDR.addr (ucAddr s r v.toNat))

/-- A write of TIL_UC_DATA: the word is stored and the address incremented. -/
def ucData (s : State) (r : Req) (v : Nat) : State :=
  match ucRefusal s r with
  | some c => s.status c
  | none =>
    let a := s.rd F.TIL_UC_ADDR_ADDR
    let crc := crc32From s.til.crc (le 4 v)
    let s := { s with til := { s.til with uc := s.til.uc.set a v, crc := crc } }
    let s := (s.wr F.TIL_UC_ADDR_ADDR (a + 1)).wr F.TIL_UC_CRC_CRC (crc ^^^ 0xFFFFFFFF)
    (if a = 0 then s.wr F.TIL_UC_CTL_REV v else s).status 0

/-- TIL_UC_DATA_WRITE (R264). -/
def execTilUcDataWrite (r : Req) (v : Word) (s : State) : Res :=
  .next (hostWrite s r F.TIL_UC_DATA_DATA.addr (ucData s r v.toNat))

/-- Set LOCK. -/
def ucLock (s : State) (r : Req) : State :=
  if r ≠ .supervisor then s.status 0x0207
  else ((s.wr F.TIL_UC_CTL_LOCK 1).wr F.TIL_STAT_UC_LOCKED 1).status 0

/-- TIL_UC_LOCK (R264). -/
def execTilUcLock (r : Req) (s : State) : Res := .next (hostWrite s r F.TIL_UC_CTL_LOCK.addr (ucLock s r))

/-! ## Start (R249, R265) -/

/-- The state bank to resume from (R265). -/
def tilResumeBank (s : State) : Option Nat :=
  let h := fun b => tilRes s + 0xFE000 + 64 * b
  let ok := fun b => (s.byteAt (h b)).toNat == 1 && (s.byteAt (h b + 2)).toNat.testBit 0
  let w := fun b => s.numAt (h b + 4) 4
  if s.rdB F.TIL_CTL_RESUME then
    if ok 0 && ok 1 then some (if w 0 < w 1 then 1 else 0)
    else if ok 0 then some 0 else if ok 1 then some 1 else none
  else none

/-- Base of a state bank, statistics bank, divergence bank, group bank, impedance bank, string block (Tables 10-5,
11-3). -/
def stateBank (s : State) (b : Nat) : Nat := tilRes s + 0x24000 * b
def statBank (s : State) (b : Nat) : Nat := tilRes s + 0x48000 + 0x48000 * b
def divBank (s : State) (b : Nat) : Nat := tilRes s + 0xD8000 + 0x12000 * b
def groupBank (s : State) (b : Nat) : Nat := tilRes s + 0xFC000 + 0x1000 * b
def zBank (s : State) (b : Nat) : Nat := tilRes s + 0x100000 + 0x168000 * b
def zStrings (s : State) (b : Nat) : Nat := tilRes s + 0x3D1000 + 0x800 * b

/-- The seed of a cell at the start, for one pass. -/
def tilFirst (s : State) (bank : Option Nat) (neg : Bool) (p : List Host.Cell) (g : Nat) : TilCell :=
  match bank with
  | some b =>
    let a := stateBank s b + 32 * g
    let x := fun o => flip neg (sat31 (toInt 32 (s.numAt (a + o) 4)))
    { z := x 0, v1 := x 4, v2 := x 8, ocv := ocvAt p neg (parOcv p g) (x 0) }
  | none => tilSeed p neg g {}

/-- What a checkpoint holds of a cell (R254). -/
def TilCell.mark (c : TilCell) : Int × Int × Int × Int := (c.z, c.v1, c.v2, c.ocv)

/-- Empty sums of the bins, when Z_EN is set. -/
def tilBins (s : State) (p : List Host.Cell) : SMap ZSums :=
  if s.rdB F.TIL_ZCTL_Z_EN then [(0, { orders := parBins p })] else []

/-- TRL_FREQ with the cycle in which it is sampled. -/
def freqMark (s : State) : Nat := s.trl.cyc.toNat * 2 ^ 32 + s.rd F.TRL_FREQ_FREQ

/-- TILTH_START (R249, R265): the first cycle boundary at least 1 ms after EN is set. -/
def execTilthStart (s : State) : Res :=
  .next (if !s.rdB F.TIL_CTL_EN || s.rdB F.TIL_STAT_RUNNING || !s.rdB F.CAP_CTL_EN || !cycleNew s || s.now < s.til.enAt + 80000 then s
    else
      let bank := tilResumeBank s
      let par := s.til.p1.par
      let inHand := s.cap.writing && s.lat.st.ang.cycle != s.trl.cyc
      let n := s.cap.setno + inHand.toNat
      let mk := fun neg => ({ next := n, par := par, model := s.rdB F.TIL_CTL_MODEL_EN, sums := tilBins s par,
                              cells := (List.range 4608).map fun g => (g, tilFirst s bank neg par g) } : TilPass)
      let p1 := mk false
      let w := TilWin.begin s.trl.cyc.toNat
      let w := { w with freqs := [freqMark s] }
      let ws := { w with len := s.rd F.TIL_STAT_CFG_LEN }
      let wz := { w with len := s.rd F.TIL_ZLEN_LEN }
      let t := s.til
      let t' : TilSt := { uc := t.uc, crc := t.crc, pend := t.pend, pendAt := t.pendAt, path := t.path, degAt := t.degAt,
                          p1 := p1, p2 := mk true, wc := w, ws := ws, wz := wz, enAt := t.enAt,
                          firstFlag := if bank.isSome then 2 else 0x40,
                          ckpt := p1.cells.map fun e => (e.1, e.2.mark), ckpt2 := (mk true).cells.map fun e => (e.1, e.2.mark) }
      tilDegrade (State.wrB (State.wr { s with til := t' } F.TIL_STAT_RUNNING 1) F.TIL_ZSTAT_ZRUNNING (s.rdB F.TIL_ZCTL_Z_EN)))

/-- TILTH_WINDOW (R130, R247, R272): a cycle begins; TRL_FREQ is sampled for the impedance window that it belongs to. -/
def execTilthWindow (s : State) : Res :=
  .next (if s.rdB F.TIL_STAT_RUNNING && cycleNew s then
      let s := sysAct s 2 0x22
      let x := freqMark s
      let l := s.til.wz.freqs
      { s with til := { s.til with wz := { s.til.wz with freqs := if l.any (· / 2 ^ 32 == x / 2 ^ 32) then l else l ++ [x] } } }
    else s)

/-! ## The passes (R250, R283) -/

/-- TILTH_FIRST_PASS (R250): the next complete set, when it belongs to the open cycle window. -/
def execTilthFirstPass (s : State) : Res :=
  let n := s.til.p1.next
  .next (if !s.rdB F.TIL_STAT_RUNNING || !capHas s n || setCycle s n != s.til.wc.cycLast then s
    else
      let t := s.til
      { s with til := { t with p1 := tilPassSet s false t.p1 n, finAt := t.finAt.set n s.now, wc := t.wc.add s n, ws := t.ws.add s n, wz := t.wz.add s n } })

/-- The second pass closes the window of a waiting publication at its boundary. -/
def tilSecondClose (p : TilPass) (u : TilPub) : TilPub × TilPass :=
  match u.kind with
  | 1 =>
    let (cs, q) := passClose true u.newPar u.model p
    ({ u with done2 := true, lost := p.lost.testBit 0, c2 := cs, heldI2 := p.heldI, staleS2 := p.staleS }, { q with lost := p.lost &&& 6 })
  | 2 => ({ u with done2 := true, lost := p.lost.testBit 1, c2 := p.cells },
          { p with cells := p.cells.map fun e => (e.1, e.2.freshStat), lost := p.lost &&& 5 })
  | 5 => ({ u with done2 := true, lost := p.lost.testBit 2, z2 := p.sums.get 0 {} }, { p with sums := u.newSums, lost := p.lost &&& 3 })
  | 7 => ({ u with done2 := true }, { p with sums := u.newSums, lost := p.lost &&& 3 })
  | 6 => ({ u with done2 := true, lost := p.lost.testBit 2, z2 := p.sums.get (1 + u.job) {} }, p)
  | _ => (u, p)

/-- The order in which the second pass closes windows that end together, which is the first pass's: sweeps before the bins that
replace their sums, the cycle window before the statistics. -/
def tilSecondKinds : List Nat := [6, 5, 7, 1, 2]

/-- Close, in the second pass, every waiting window of one kind that ends at set `n`. -/
def tilSecondKind (n kind : Nat) : List TilPub → TilPass → List TilPub × TilPass
  | [], p => ([], p)
  | u :: r, p =>
    if u.kind = kind ∧ u.endSet = n ∧ !u.done2 then
      let (u, p) := tilSecondClose p u
      let (r, p) := tilSecondKind n kind r p
      (u :: r, p)
    else
      let (r, p) := tilSecondKind n kind r p
      (u :: r, p)

/-- TILTH_SECOND_PASS (R283): at least 1 ms after the first pass of the set. A set that has been overwritten is lost
(Table 10-12). The boundaries that lie before the set are closed first. -/
def execTilthSecondPass (s : State) : Res :=
  let n := s.til.p2.next
  .next (if (!s.rdB F.TIL_STAT_RUNNING && s.til.pubs.isEmpty) || decide (s.til.p1.next < n) then s
    else
      let (l, p) := tilSecondKinds.foldl (fun a k => tilSecondKind n k a.1 a.2) (s.til.pubs, s.til.p2)
      let l := l.filter fun u => u.kind != 7 || !u.done2
      let s := { s with til := { s.til with pubs := l, p2 := p } }
      if s.til.p1.next ≤ n || s.now < s.til.finAt.get n 0 + 80000 then s
      else
        let s := { s with til := { s.til with finAt := s.til.finAt.dropRange 0 (n + 1) } }
        if capLost s n then
          tilFlag { s with til := { s.til with p2 := { p with next := n + 1, lost := 7 } } } F.TIL_FLT_SET_LOST
        else { s with til := { s.til with p2 := tilPassSet s true p n } })

/-! ## Window closes (R247, R248, R251, R272) -/

/-- Has Tilth passed the cycle boundary at which it stops: the first after EN was cleared or capture went off (R249, Table 10-12)? -/
def tilStopDue (s : State) : Bool :=
  match s.til.stopCyc with
  | some c => s.trl.cyc != c
  | none => !s.rdB F.CAP_CTL_EN && s.trl.cyc.toNat != s.til.wc.cycLast

/-- Stop: the windows open at that moment are not published; those closed before go on to their publication (R249). -/
def tilStop (s : State) : State :=
  let t := s.til
  let s := if t.capOff || !s.rdB F.CAP_CTL_EN then s.wr F.TIL_FLT_CAP_OFF 1 else s
  let q : TilPass := { par := t.newPar.getD t.p1.par, next := t.p1.next }
  let s := { s with til := { t with p1 := q, newPar := none, wc := {}, ws := {}, wz := {}, stopCyc := none, capOff := false } }
  tilDegrade (State.wr (State.wr s F.TIL_STAT_RUNNING 0) F.TIL_ZSTAT_ZRUNNING 0)

/-- CYCLE_WINDOW_CLOSE (R247, R249, R251): the first set of the next window has completed, or the boundary at which Tilth stops
has passed. -/
def execCycleWindowClose (s : State) : Res :=
  let t := s.til
  let n := t.p1.next
  .next (if !s.rdB F.TIL_STAT_RUNNING then s
    else if tilStopDue s then tilStop s
    else if !capHas s n || setCycle s n == t.wc.cycLast then s
    else
      let p := t.p1
      let model := s.rdB F.TIL_CTL_MODEL_EN
      let (cs, q) := passClose false t.newPar model p
      let u : TilPub := { kind := 1, endSet := n, win := t.wc, par := p.par, heldI := p.heldI, staleS := p.staleS, c1 := cs,
                          firstFlag := t.firstFlag, modelNow := p.model, model := model, newPar := t.newPar, closedAt := s.now
                          cur := p.cur, held := p.held }
      let c := setCycle s n
      let t := { t with p1 := q, newPar := none, firstFlag := 0, pubs := t.pubs ++ [u], wc := TilWin.begin c,
                        oldPar := t.p1.par, changed := t.newPar.isSome,
                        ws := t.ws.cycle c, wz := t.wz.cycle c }
      let s := { s with til := t }
      let l := s.freeNat 10 % 1001
      ((s.took.wr F.TIL_LOAD_LOAD l).wr F.TIL_LOAD_PEAK (max l (s.took.freeNat 10 % 1001))).took)

/-- A window of several cycles without the cycle that has just opened. -/
def TilWin.closed (w : TilWin) : TilWin := { w with cycles := w.cycles - 1, cycLast := w.cycPrev }

/-- Does an event other than the end of floor(c / LEN) close the window: the wrap, an adoption of the cycle number, a
change of LEN (R248, R272)? -/
def TilWin.forced (w : TilWin) (len : Nat) : Bool := w.cycLast != w.cycPrev + 1 || w.len != len

/-- Does the boundary before the window's last cycle close it? -/
def TilWin.due (w : TilWin) (len : Nat) : Bool := w.forced len || w.cycPrev / len != w.cycLast / len

/-- Has CYCLE_WINDOW_CLOSE opened a cycle whose boundary also ends the statistics window (R248)? -/
def statDue (s : State) : Bool :=
  s.rdB F.TIL_STAT_RUNNING && s.til.wc.sets == 0 && s.til.ws.sets != 0 && s.til.ws.due (s.rd F.TIL_STAT_CFG_LEN)

/-- STAT_WINDOW_CLOSE (R248): the boundary that CYCLE_WINDOW_CLOSE opened also ends the statistics window. -/
def execStatWindowClose (s : State) : Res :=
  let t := s.til
  .next (if !statDue s then s
    else
      let next := t.wc.cycFirst
      let len := s.rd F.TIL_STAT_CFG_LEN
      let w := { t.ws.closed with short := t.firstS || t.ws.forced len }
      let u : TilPub := { kind := 2, endSet := t.p1.next, win := w, par := t.oldPar, c1 := t.p1.cells, closedAt := s.now }
      { s with til := { t with firstS := false, pubs := t.pubs ++ [u], ws := { TilWin.begin next with len := len },
                               p1 := { t.p1 with cells := t.p1.cells.map fun e => (e.1, e.2.freshStat) } } })

/-! ### Impedance (R272-R278) -/

/-- 10^-40 π, for R278. -/
def piE40 : Nat := 31415926535897932384626433832795028841972

/-- cos(πfT) of R213 in 2^-96, by its series; `f` in µHz, T = 1/64,000 s. -/
def decCos (f : Nat) : Int :=
  let one : Int := 2 ^ 96
  let a : Int := ((piE40 * f * 2 ^ 96 / (10 ^ 40 * 64000000000) : Nat) : Int)
  let q := a * a / one
  (List.range 12).foldl (fun (acc : Int × Int) k =>
    let t := -(acc.1 * q / one) / (((2 * k + 1) * (2 * k + 2) : Nat) : Int)
    (t, acc.2 + t)) (one, one) |>.2

/-- round(2^30 / H(f)) of R278, none where it does not fit Q2.30: H = cos²a · cos 2a · cos 4a · cos 8a, a = πfT. -/
def decGain (f : Nat) : Option Nat :=
  let one : Int := 2 ^ 96
  let dbl := fun x : Int => 2 * (x * x / one) - one
  let c := decCos f
  let c2 := dbl c
  let c4 := dbl c2
  let c8 := dbl c4
  let mul := fun x y : Int => x * y / one
  let h := mul (mul (mul (mul c c) c2) c4) c8
  if h ≤ 0 then none
  else
    let g := (2 * (2 ^ 126) + h.toNat) / (2 * h.toNat)
    if g < 2 ^ 32 then some g else none

/-- G of one key (R278): within ±2 LSB of its formula in TRAP mode, 2^30 in PICK mode and for the DC bin. -/
def zGain (s : State) (k ord fw : Nat) (trap : Bool) : Nat :=
  if !trap || ord == 0 then 2 ^ 30
  else
    let x := (Config.freeValue (s.free + k)).toNat
    match decGain (ord * fw) with
    | some g => g + x % 5 - 2
    | none => x % 2 ^ 32

/-- Sweeps that accumulate from this boundary: RUNNING jobs of kind 3, with their sums. -/
def sweepSums (s : State) : SMap ZSums :=
  (List.range 32).filterMap fun j =>
    let x := s.job j
    if x.kind == 3 && x.state == 2 then
      let o := (List.range 40).filter fun h => (x.par.getD 2 0).testBit h
      some (1 + j, { orders := o.map fun h => (h, h), first := x.par.getD 0 0, last := x.par.getD 1 0 })
    else none

/-- Has CYCLE_WINDOW_CLOSE opened a cycle whose boundary also ends the impedance window, by its number, by an event of
R248, or by the commit that applies there (R272)? -/
def zDue (s : State) : Bool :=
  s.rdB F.TIL_STAT_RUNNING && s.til.wc.sets == 0 && s.til.wz.sets != 0 &&
    (s.til.changed || s.til.wz.due (s.rd F.TIL_ZLEN_LEN))

/-- Z_WINDOW_CLOSE (R272): the boundary that CYCLE_WINDOW_CLOSE opened also ends the impedance window; sweeps that run
close their window with it and begin the next. -/
def execZWindowClose (s : State) : Res :=
  let t := s.til
  .next (if !zDue s then s
    else
      let next := t.wc.cycFirst
      let len := s.rd F.TIL_ZLEN_LEN
      let w := t.wz.closed
      let par := t.oldPar
      let short := t.firstZ || t.changed || t.wz.forced len
      let fr := (t.wz.freqs.takeWhile fun x => x / 2 ^ 32 != next).map (· % 2 ^ 32)
      let fw := (rdiv ((fr.sum : Nat) : Int) fr.length).toNat
      let z := t.p1.sums.get 0 {}
      let trap := decide (2 ≤ w.dec)
      let w := { w with short := short, freqs := [] }
      let newSums := tilBins s t.p1.par ++ sweepSums s
      let gain := fun (y : ZSums) => y.orders.map fun o => (o.1, zGain s o.1 o.2 fw trap)
      let u : TilPub := { kind := 5, endSet := t.p1.next, win := w, par := par, z1 := z, gain := gain z, fw := fw, newSums := newSums
                          closedAt := s.now }
      let sw := (t.p1.sums.filter fun e => e.1 != 0).map fun e =>
        ({ kind := 6, job := e.1 - 1, endSet := t.p1.next, win := w, par := par, z1 := e.2, gain := gain e.2, fw := fw, seq := t.zCount } : TilPub)
      let own := if s.rdB F.TIL_ZSTAT_ZRUNNING then [u] else [{ u with kind := 7 }] -- no bank: only the second pass's boundary
      let wz := { TilWin.begin next with len := len, freqs := t.wz.freqs.dropWhile fun x => x / 2 ^ 32 != next }
      let s := { s with free := s.free + 64, til := { t with firstZ := false, zCount := t.zCount + 1, pubs := t.pubs ++ sw ++ own, wz := wz,
                                                             p1 := { t.p1 with sums := newSums } } }
      let s := s.wrB F.TIL_ZSTAT_ZRUNNING (s.rdB F.TIL_ZCTL_Z_EN)
      s.wr F.TIL_ZFREQ_FW fw)

end Sys2Proof.Machine
end

