-- ==== Sys2Proof/Machine/TilthBank.lean ====
section
/-! DEFINITION. Publication of Tilth's banks: records, comparison of the passes, divergence, impedance, reports, notices,
sweep output (10_tilth_cell_state.md, 11_tilth_impedance.md). -/

namespace Sys2Proof.Machine

/-- Decidable bits of a flag byte, lowest first. -/
def bitsOf : List Bool → Nat
  | [] => 0
  | b :: r => b.toNat + 2 * bitsOf r

/-- A bank header (Table 10-6). -/
def tilHeader (kind bank flags wseq : Nat) (w : TilWin) (suspects : Nat) : List Byte :=
  le 1 kind ++ le 1 bank ++ le 2 flags ++ le 4 wseq ++ le 4 w.cycFirst ++ le 4 w.cycles ++ w.st.ang.bytes ++ w.st.pt.bytes ++
    le 2 suspects ++ le 4 w.set0 ++ le 4 w.setN ++ le 20 0

/-- FLAGS of a header with COMPLETE set. -/
def tilFlags (w : TilWin) (suspect late : Bool) : Nat := bitsOf [true, suspect, w.hold, w.step, w.short, late]

/-! ## Comparison of the passes (R259, R284) -/

/-- The second pass's value of a checkpoint, back-transformed. -/
def flipMark (k : Int × Int × Int × Int) : Int × Int × Int × Int := (-k.1, -k.2.1, -k.2.2.1, -k.2.2.2)

/-- The working state of a cell that a cycle window compares, back-transformed for the second pass. -/
def viewState (neg : Bool) (c : TilCell) : List Int :=
  [flip neg c.z, flip neg c.v1, flip neg c.v2, flip neg c.ocv, flip neg c.emean, (c.n : Int), (c.cN : Int), (c.clampC.toNat : Int)]

/-- The same for a statistics window. -/
def viewStat (neg : Bool) (c : TilCell) : List Int :=
  [(c.sN : Int), flip neg c.sX, flip neg c.sV, c.sV2, if neg then -c.vmax else c.vmin, if neg then -c.vmin else c.vmax,
    (c.sEn : Int), flip neg c.sE, c.sE2, flip neg c.zEnd, flip neg (c.v1End + c.v2End), flip neg c.tS, (c.tN : Int),
    (c.clampS.toNat : Int)]

/-- The same for a cell's impedance sums under the given keys: I and Q parts are swap-negate pairs. -/
def viewZ (neg : Bool) (orders : List (Nat × Nat)) (c : ZCell) : List Int :=
  let pair := fun (a b : SMap Int) k => if neg then [-(b.get k 0), -(a.get k 0)] else [a.get k 0, b.get k 0]
  [(c.n : Int), (c.mn : Int), flip neg c.x1, c.xi, flip neg c.m1, c.m2, (c.clamp.toNat : Int)] ++
    (orders.map fun o => pair c.vi c.vq o.1 ++ pair c.mi c.mq o.1).flatten

/-- And for a string's sums. -/
def viewStr (neg : Bool) (orders : List (Nat × Nat)) (c : ZStr) : List Int :=
  [(c.ns : Int), flip neg c.s1, c.s2, (c.clamp.toNat : Int)] ++
    (orders.map fun o => if neg then [-(c.sq.get o.1 0), -(c.si.get o.1 0)] else [c.si.get o.1 0, c.sq.get o.1 0]).flatten

/-- Do the passes agree on cell `g` in a closed window: on every field of its record, on the working state, and for a cycle
window on the checkpoints? -/
def tilAgree (t : TilSt) (u : TilPub) (g : Nat) : Bool :=
  match u.kind with
  | 1 =>
    let m := parString u.par g
    viewState false (u.c1.get g {}) == viewState true (u.c2.get g {}) && u.heldI.testBit m == u.heldI2.testBit m &&
      u.staleS.testBit m == u.staleS2.testBit m && t.ckpt.get g (0, 0, 0, 0) == flipMark (t.ckpt2.get g (0, 0, 0, 0))
  | 2 => viewStat false (u.c1.get g {}) == viewStat true (u.c2.get g {})
  | _ =>
    let o := u.z1.orders
    let m := parString u.par g
    viewZ false o (u.z1.cells.get g {}) == viewZ true o (u.z2.cells.get g {}) &&
      viewStr false o (u.z1.strs.get m {}) == viewStr true o (u.z2.strs.get m {})

/-- The mismatched cells of a window: those on which the passes differ, all of a window that lost a set, and those on
which a lane erred. -/
def tilMismatch (t : TilSt) (u : TilPub) (bad : List (Fin 4608)) : List Nat :=
  (List.range 4608).filter fun g => parEn u.par g && (u.lost || !tilAgree t u g || bad.any fun b => b.val == g)

/-! ## Counts, reports, notices (R263, R286, R287, R291) -/

/-- Count the mismatched cells of a window of a kind. -/
def tilCount (s : State) (kind : Nat) (l : List Nat) : State :=
  l.foldl (fun t g =>
    let t := (t.incSat F.TIL_MM_CNT_CNT).incSat (F.TIL_MM_LANE_CNT (g % 8))
    (t.wr F.TIL_MM_LAST_CELL g).wr F.TIL_MM_LAST_KIND kind) s

/-- Send the suspect report of a bank with mismatches; a path of 4 that is full loses it. -/
def tilReport (s : State) (kind bank wseq : Nat) (w : TilWin) (l : List Nat) : State :=
  match l with
  | [] => s
  | g :: _ =>
    let b := le 1 kind ++ le 1 bank ++ le 2 l.length ++ le 4 wseq ++ le 2 g ++ le 2 (l.getLastD g) ++ le 4 w.cycFirst
    if 4 ≤ s.til.path.length then tilFlag s F.TIL_ZFLT_REPORT_LOST
    else { s with til := { s.til with path := s.til.path ++ [b] } }

/-- Post a packet of a notice kind to plot `p` when it subscribes. -/
def tilPost (s : State) (p kind : Nat) (ws : List Word) : State :=
  if s.rdB (F.TIL_NOTE_EN p) && s.bit (F.TIL_NOTE_KINDS p) (kind - 1) then
    let q := s.rd (F.TIL_NOTE_QUEUE p)
    if hwRoom s q ws.length then hwPost s q ws else tilFlag (hwPost s q ws) F.TIL_FLT_NOTE_LOST
  else s

/-- The same to every subscriber. -/
def tilPostAll (s : State) (kind : Nat) (ws : List Word) : State := forN (fun p t => tilPost t p kind ws) 8 s

/-- Words 0 to 6 of a notice (Table 10-11). -/
def tilWords (kind bank : Nat) (late : Bool) (w : TilWin) (suspects wseq : Nat) : List Word :=
  [BitVec.ofNat 32 (kind + 16 * bank + 32 * late.toNat + 64 * w.short.toNat + 65536 * suspects), BitVec.ofNat 32 wseq,
    BitVec.ofNat 32 w.cycFirst, BitVec.ofNat 32 w.cycles, BitVec.ofNat 32 w.st.pt.sec.toNat,
    BitVec.ofNat 32 (w.st.pt.sec.toNat / 2 ^ 32), BitVec.ofNat 32 w.st.pt.ns.toNat]

/-- Pieces of at most 1,022 entries. -/
def tilPieces : Nat → List Word → List (List Word)
  | 0, _ => []
  | k + 1, l => if l.isEmpty then [] else l.take 1022 :: tilPieces k (l.drop 1022)

/-- Post a list of entries as packets of words 0 and 1 and up to 1,022 entries; `one` asks for a packet even when there
is no entry. -/
def tilList (s : State) (kind : Nat) (head entries : List Word) (one : Bool) : State :=
  let l := tilPieces 20 entries
  let l := if l.isEmpty && one then [[]] else l
  l.foldl (fun t e => tilPostAll t kind (head.take 2 ++ e)) s

/-- What every bank with mismatches does: counts, TIL_FLT.SUSPECT, report, suspect list. -/
def tilSuspects (s : State) (kind bank wseq : Nat) (u : TilPub) (late : Bool) (l : List Nat) : State :=
  if l.isEmpty then s
  else
    let s := tilReport ((tilCount s kind l).wr F.TIL_FLT_SUSPECT 1) kind bank wseq u.win l
    tilList s 7 (tilWords 7 bank late u.win l.length wseq) (l.map fun g => BitVec.ofNat 32 (g + 8192 * kind)) false

/-- Is the time for publishing a closed window over (R258, R280): 12, 15, 25 or 40 ms, in ticks? -/
def tilOver (s : State) (u : TilPub) : Bool :=
  let limit := match u.kind with | 1 => 960000 | 2 => 1200000 | 3 => 2000000 | _ => 3200000
  decide (u.closedAt + limit < s.now)

/-- A late publication (R258, R280). -/
def tilLate (s : State) (late : Bool) (f : Field) : State := if late then (tilFlag s f).incSat F.TIL_CNT_LATE_CNT else s

/-- The next WSEQ of a kind: windows of it published since the start. -/
def tilSeq (s : State) (kind : Nat) : Nat := s.til.wseq.get kind 0
def tilNext (s : State) (kind : Nat) : State :=
  { s with til := { s.til with wseq := s.til.wseq.set kind (tilSeq s kind + 1) } }

/-! ## State bank (R254, R258, Table 10-7) -/

/-- Does VPOL saturate (R246)? -/
def vpolOver (a b : Int) : Bool := sat31 (a + b) != a + b

/-- The record of a cell. -/
def stateRecord (u : TilPub) (mm g : Nat) (suspect : Bool) : List Byte :=
  if !parEn u.par g then le 22 0 ++ le 1 128 ++ le 1 mm ++ le 8 0
  else
    let c := u.c1.get g {}
    let m := parString u.par g
    let runs := u.modelNow && parModel u.par g
    let fl := bitsOf [suspect, suspect || u.firstFlag.testBit 1, runs && u.heldI.testBit m, runs && u.staleS.testBit m,
      c.clampC || vpolOver c.v1 c.v2, !runs, u.firstFlag.testBit 6, false]
    le 4 (ofInt 32 c.z) ++ le 4 (ofInt 32 c.v1) ++ le 4 (ofInt 32 c.v2) ++ le 4 (ofInt 32 c.ocv) ++ le 4 (ofInt 32 c.emean) ++
      le 2 c.cN ++ le 1 fl ++ le 1 mm ++ le 4 (ofInt 32 (sat31 (c.v1 + c.v2))) ++ le 4 0

/-! ### The restart of both passes after a mismatch (R254, Table 11-6) -/

/-- A cell with the estimator's state of another, its statistics kept. -/
def TilCell.modelOf (c d : TilCell) : TilCell :=
  { c with z := d.z, v1 := d.v1, v2 := d.v2, ocv := d.ocv, accE := d.accE, accE2 := d.accE2, accI := d.accI, n := d.n
           emean := d.emean, clampC := d.clampC, zEnd := d.zEnd, v1End := d.v1End, v2End := d.v2End }

/-- Cells with the estimator's state of those that `d` lists. -/
def cellsOver (m d : SMap TilCell) : SMap TilCell :=
  m.map fun e => match d.find? e.1 with
    | some x => (e.1, e.2.modelOf x)
    | none => e

/-- Close, in a pass that is run again, the waiting cycle windows that end where it stands. -/
def replayClose (neg : Bool) : TilPass → List TilPub → TilPass × List TilPub
  | p, [] => (p, [])
  | p, u :: r =>
    if u.kind = 1 ∧ u.endSet = p.next ∧ (u.done2 || !neg) then
      let (cs, q) := passClose neg u.newPar u.model p
      let u := if neg then { u with c2 := cellsOver u.c2 cs } else { u with c1 := cellsOver u.c1 cs }
      let (q, r) := replayClose neg q r
      (q, u :: r)
    else
      let (q, r) := replayClose neg p r
      (q, u :: r)

/-- Run a pass again over the next `k` sets, with the window closes that lie before, between and after them. -/
def replaySets (s : State) (neg : Bool) : Nat → TilPass → List TilPub → TilPass × List TilPub
  | 0, p, l => replayClose neg p l
  | k + 1, p, l =>
    let (p, l) := replayClose neg p l
    replaySets s neg k (if capLost s p.next then { p with next := p.next + 1 } else tilPassSet s neg p p.next) l

/-- The cells of a mismatched window as a pass continues with them: from its checkpoint, or seeded by a commit at that boundary. -/
def restartCells (neg : Bool) (t : TilSt) (u : TilPub) (l : List Nat) : SMap TilCell :=
  let ck := if neg then t.ckpt2 else t.ckpt
  let par := u.newPar.getD u.par
  l.map fun g =>
    let k := ck.get g (0, 0, 0, 0)
    let c : TilCell := { z := k.1, v1 := k.2.1, v2 := k.2.2.1, ocv := k.2.2.2 }
    (g, if u.newPar.isSome && parSeed par g then tilSeed par neg g c else c)

/-- A pass continues from its checkpoints for the cells that mismatched in window `u`: what it has processed since is processed
again from there, so that only the charge of that window is lost. -/
def tilRestart (s : State) (neg : Bool) (u : TilPub) (l : List Nat) : State :=
  let t := s.til
  let p := if neg then t.p2 else t.p1
  let cur : SMap Int := u.cur.map fun (e : Nat × Int) => (e.1, flip neg e.2)
  let q : TilPass := { next := u.endSet, par := u.newPar.getD u.par, model := u.model, cells := restartCells neg t u l, cur := cur, held := u.held }
  let (q, pubs) := replaySets s neg (p.next - u.endSet) q t.pubs
  let p := { p with cells := cellsOver p.cells q.cells }
  { s with til := if neg then { t with p2 := p, pubs := pubs } else { t with p1 := p, pubs := pubs } }

/-- After the comparison: a cell that agrees has a new checkpoint in each pass, one that does not continues from its old one
(R254). -/
def tilCheckpoint (s : State) (u : TilPub) (l : List Nat) : State :=
  let s := if l.isEmpty then s else tilRestart (tilRestart s false u l) true u l
  let t := s.til
  let next := fun (cs : SMap TilCell) (ck : SMap (Int × Int × Int × Int)) =>
    cs.map fun e => (e.1, if l.contains e.1 then ck.get e.1 (0, 0, 0, 0) else e.2.mark)
  { s with til := { t with ckpt := next u.c1 t.ckpt, ckpt2 := next u.c2 t.ckpt2
                           mm := l.foldl (fun m g => m.set g (min 255 (m.get g 0 + 1))) t.mm } }

/-- Lane pairs with a mismatch in 8 consecutive cycle windows set LANE_FLT (R287). -/
def tilLanes (s : State) (l : List Nat) : State :=
  let lane := (List.range 8).map fun p => (p, if l.any fun g => g % 8 == p then s.til.lane.get p 0 + 1 else 0)
  let s := { s with til := { s.til with lane := lane } }
  if lane.any fun e => decide (8 ≤ e.2) then tilDegrade ((s.wr F.TIL_ZSTAT_LANE_FLT 1).wr F.TIL_ZFLT_LANE_SEEN 1) else s

/-- Publish a state bank. -/
def pubState (s : State) (u : TilPub) (late : Bool) (bad : List (Fin 4608)) : State :=
  let l := tilMismatch s.til u bad
  let bank := 1 - s.rd F.TIL_PUB_STATE_BANK
  let w := tilSeq s 1
  let s := tilCheckpoint s u l
  let recs := ((List.range 4608).map fun g => stateRecord u (s.til.mm.get g 0) g (l.contains g)).flatten
  let s := s.putBytes (stateBank s bank) recs
  let s := s.putBytes (tilRes s + 0xFE000 + 64 * bank) (tilHeader 1 bank (tilFlags u.win (!l.isEmpty) late) w u.win l.length)
  let s := tilNext ((s.wr F.TIL_PUB_STATE_BANK bank).wr F.TIL_STATE_SEQ_WSEQ w) 1
  let s := tilPostAll s 1 (tilWords 1 bank late u.win l.length w ++ [0])
  let s := if l.isEmpty then s else s.incSat F.TIL_CNT_SUSPECT_WIN
  tilLate (tilLanes (tilSuspects s 1 bank w u late l) l) late F.TIL_FLT_DEADLINE

/-! ## Statistics bank (Table 10-8) -/

/-- The numbers of a statistics record: N, LOW_N, VMEAN, EMEAN, VVAR, E2, TEMP. -/
structure StatVals where
  low : Bool
  vmean : Int
  emean : Int
  vvar : Int
  clamp : Bool
  e2 : Int
  temp : Option Int

def statVals (s : State) (u : TilPub) (c : TilCell) : StatVals :=
  let n : Int := c.sN
  let r := rdiv (256 * (n * c.sV2 - c.sV * c.sV)) (c.sN * c.sN)
  let vv := clampI r 0 (2 ^ 32 - 1)
  { low := decide (c.sN * 100 < u.win.sets * s.rd F.TIL_STAT_CFG_MIN_PCT), vmean := rdiv c.sX c.sN, emean := rdiv c.sE c.sEn,
    vvar := vv, clamp := vv != r, e2 := rdiv c.sE2 (c.sEn * 2 ^ 24),
    temp := if c.tN = 0 then none else some (rdiv c.tS c.tN) }

/-- The record of a cell. -/
def statRecord (s : State) (u : TilPub) (g : Nat) (suspect : Bool) : List Byte :=
  if !parEn u.par g then le 4 0 ++ le 1 8 ++ le 59 0
  else
    let c := u.c1.get g {}
    let v := statVals s u c
    le 2 (min c.sN 0xFFFF) ++ le 2 (min u.win.sets 0xFFFF) ++ le 1 (bitsOf [suspect, v.low, c.clampS || v.clamp || vpolOver c.v1End c.v2End]) ++ le 3 0 ++
      le 4 (ofInt 32 v.vmean) ++ le 2 (ofInt 16 c.vmin) ++ le 2 (ofInt 16 c.vmax) ++ le 4 (ofInt 32 v.emean) ++
      le 4 (ofInt 32 v.vvar) ++ le 4 (ofInt 32 v.e2) ++ le 4 (ofInt 32 c.zEnd) ++ le 4 (ofInt 32 (sat31 (c.v1End + c.v2End))) ++
      le 2 (match v.temp with
        | some t => ofInt 16 t
        | none => 0x8000) ++ le 26 0

/-! ## Divergence (R260-R262) -/

/-- The cells of a closed window in a pass. -/
def TilPub.cells (u : TilPub) (neg : Bool) : SMap TilCell := if neg then u.c2 else u.c1

/-- The value of a metric for a cell in a pass, when it exists (Table 10-9). -/
def tilMetric (s : State) (u : TilPub) (neg : Bool) (metric bin g : Nat) : Option Int :=
  let c := (u.cells neg).get g {}
  let v := statVals s u c
  match metric with
  | 1 => some v.vmean
  | 2 => some v.emean
  | 3 => some c.zEnd
  | 4 => some (sat31 (c.v1End + c.v2End))
  | 5 => v.temp
  | 6 =>
    let a := zBank s (s.rd F.TIL_ZPUB_BANK) + 320 * g + 16 * bin
    if tilSeq s 5 = 0 ∨ 19 < bin ∨ s.byteAt (a + 12) ≠ 0 then none else some (s.numAt (a + 8) 4 : Int)
  | 7 => some v.e2
  | _ => none

/-- The back-transform of a score or a mean (Table 10-9): odd metrics are negated in the second pass. -/
def metricBack (neg : Bool) (metric : Nat) (x : Int) : Int := flip (neg && decide (metric ≤ 5)) x

/-- One group in one slot: its record, back-transformed, and the score of a contributing value, none when the group is too
small. Sums are accumulators, mu a state value (R246). -/
def tilGroup (s : State) (neg : Bool) (metric slot : Nat) (ms : List Int) : List Byte × Option (Int → Int) :=
  let n := ms.length
  if n = 0 ∨ n < s.rd F.TIL_DIV_CFG_MIN_CELLS then (le 8 0 ++ le 2 n ++ le 1 1 ++ le 5 0, none)
  else
    let sum := fun (l : List Int) => l.foldl (fun a x => sat47 (a + x)) 0
    let mu := sat31 (rdiv (sum ms) n)
    let sg := isqrt (rdiv (sum (ms.map fun m => (m - mu) * (m - mu))) n).toNat
    let r := max sg (max 1 (s.rd (F.TIL_DIV_FLOOR_FLOOR slot)))
    (le 4 (ofInt 32 (metricBack neg metric mu)) ++ le 4 sg ++ le 2 n ++ le 6 0,
      some fun m => metricBack neg metric (clampI (rdiv (256 * (m - mu)) r) (-32767) 32767))

/-- The scores of a slot in a pass, back-transformed: pairs of cell and score, and the records of the 63 groups. -/
def tilSlot (s : State) (u : TilPub) (neg : Bool) (l : List Nat) (slot : Nat) : List (Nat × Nat) × List (Nat × List Byte) :=
  let metric := s.rd (F.TIL_DIV_SLOT_METRIC slot)
  let bin := s.rd (F.TIL_DIV_SLOT_BIN slot)
  if metric = 0 then ([], (List.range 63).map fun k => (4 * k + slot, le 16 0))
  else
    let vals := (List.range 4608).filterMap fun g =>
      if parEn u.par g && parGroup u.par g < 63 && !(statVals s u ((u.cells neg).get g {})).low && !l.contains g then
        (tilMetric s u neg metric bin g).map fun m => (g, m)
      else none
    let grp := (List.range 63).map fun k => (k, tilGroup s neg metric slot ((vals.filter fun e => parGroup u.par e.1 == k).map (·.2)))
    let score := vals.filterMap fun e =>
      match (grp[parGroup u.par e.1]?).bind (·.2.2) with
      | some f => some (e.1, ofInt 16 (f e.2))
      | none => none
    (score, grp.map fun e => (4 * e.1 + slot, e.2.1))

/-- The scores and group records of a pass in the four slots. -/
def tilSlots (s : State) (u : TilPub) (neg : Bool) (l : List Nat) : SMap (List Nat) × SMap (List Byte) :=
  let slots := (List.range 4).map fun k => tilSlot s u neg l k
  let score := fun g => slots.map fun x => ((x.1.find? fun e => e.1 == g).map (·.2)).getD 0x8000
  ((List.range 4608).map fun g => (g, score g), (slots.map (·.2)).flatten.foldl (fun (m : SMap (List Byte)) e => m.set e.1 e.2) [])

/-- The divergence window that follows a statistics window: the scores of both passes. -/
def tilScore (s : State) (u : TilPub) (l : List Nat) : TilPub :=
  let a := tilSlots s u false l
  let b := tilSlots s u true l
  { kind := 3, win := u.win, par := u.par, done2 := true, closedAt := u.closedAt, scores := a.1, groups := a.2, scores2 := b.1, groups2 := b.2 }

/-- Publish a statistics bank; with DIV_EN set its divergence window follows. -/
def pubStat (s : State) (u : TilPub) (late : Bool) (bad : List (Fin 4608)) : State :=
  let l := tilMismatch s.til u bad
  let bank := 1 - s.rd F.TIL_PUB_STAT_BANK
  let w := tilSeq s 2
  let recs := ((List.range 4608).map fun g => statRecord s u g (l.contains g)).flatten
  let s := s.putBytes (statBank s bank) recs
  let s := s.putBytes (tilRes s + 0xFE080 + 64 * bank) (tilHeader 2 bank (tilFlags u.win (!l.isEmpty) late) w u.win l.length)
  let s := tilNext ((s.wr F.TIL_PUB_STAT_BANK bank).wr F.TIL_STAT_SEQ_WSEQ w) 2
  let s := tilPostAll s 2 (tilWords 2 bank late u.win l.length w ++ [0])
  let s := tilLate (tilSuspects s 2 bank w u late l) late F.TIL_FLT_DEADLINE
  if s.rdB F.TIL_CTL_DIV_EN then { s with til := { s.til with pubs := s.til.pubs ++ [tilScore s u l] } } else s

/-- One slot of a cell under R262: the new FLAG and counter, and whether FLAG changed. -/
def divStep (s : State) (flag : Bool) (run score : Nat) : Bool × Nat × Bool :=
  if score = 0x8000 then (flag, run, false)
  else
    let a := (toInt 16 score).natAbs
    let thr := s.rd F.TIL_DIV_THR_THR
    let hit := if flag then decide (a < thr - s.rd F.TIL_DIV_THR_HYST) else decide (thr ≤ a)
    let run := if hit then run + 1 else 0
    if max 1 (s.rd F.TIL_DIV_CFG_PERSIST) ≤ run then (!flag, 0, true) else (flag, run, false)

/-- A cell under R262: its new state and the slots whose FLAG changed. -/
def divCell (s : State) (d : TilDiv) (scores : List Nat) : TilDiv × List (Nat × Bool) :=
  let r := (List.range 4).map fun k => divStep s (d.flags.testBit k) (d.runs.getD k 0) (scores.getD k 0x8000)
  ({ flags := bitsOf (r.map (·.1)), runs := r.map (·.2.1) },
    (List.range 4).filterMap fun k => match r[k]? with
      | some x => if x.2.2 then some (k, x.1) else none
      | none => none)

/-- A divergence record (Table 10-10). -/
def divRecord (d : TilDiv) (scores : List Nat) : List Byte :=
  (scores.map (le 2)).flatten ++ le 1 (d.flags + 16 * bitsOf (scores.map (· == 0x8000))) ++ le 1 0 ++
    (d.runs.map (le 1)).flatten ++ le 2 0

/-- Scores with those withheld: of the cells and of the groups (4 · group + slot) in which the passes differ (Table 11-6). -/
def divHeld (u : TilPub) (l ks : List Nat) (scores : SMap (List Nat)) : SMap (List Nat) :=
  scores.map fun e =>
    if l.contains e.1 then (e.1, [0x8000, 0x8000, 0x8000, 0x8000])
    else (e.1, (List.range 4).map fun k => if ks.contains (4 * parGroup u.par e.1 + k) then 0x8000 else e.2.getD k 0x8000)

/-- The cells of a divergence window whose records differ between the passes, and those on which a lane erred (R284). -/
def divMismatch (s : State) (u : TilPub) (bad : List (Fin 4608)) : List Nat :=
  (List.range 4608).filter fun g =>
    let one := fun (d : SMap TilDiv) (x : SMap (List Nat)) =>
      let sc := x.get g [0x8000, 0x8000, 0x8000, 0x8000]
      divRecord (divCell s (d.get g {}) sc).1 sc
    one s.til.div u.scores != one s.til.div2 u.scores2 || bad.any fun b => b.val == g

/-- A cell's divergence window: its scores, its new state, the slots whose FLAG changed. -/
abbrev DivDone := Nat × List Nat × (TilDiv × List (Nat × Bool))

/-- Every cell's FLAG and counters under R262. -/
def divDone (s : State) (d : SMap TilDiv) (scores : SMap (List Nat)) : List DivDone :=
  scores.map fun e => (e.1, e.2, divCell s (d.get e.1 {}) e.2)

/-- Publish the divergence and group banks; `bad` and `badGroups` (4 · group + slot) are where a lane erred (R285). -/
def pubDiv (s : State) (u : TilPub) (late : Bool) (bad : List (Fin 4608)) (badGroups : List (Fin 252)) : State :=
  let bank := 1 - s.rd F.TIL_PUB_DIV_BANK
  let w := tilSeq s 3
  let ks := (List.range 252).filter fun k =>
    u.groups.get k (le 16 0) != u.groups2.get k (le 16 0) || badGroups.any fun b => b.val == k
  let l := divMismatch s u bad
  let done := divDone s s.til.div (divHeld u l ks u.scores)
  let second := divDone s s.til.div2 (divHeld u l ks u.scores2)
  let chg : List (Nat × Nat × Bool × Nat) := (done.map fun e => e.2.2.2.map fun c => (e.1, c.1, c.2, e.2.1.getD c.1 0)).flatten
  let state := fun (x : List DivDone) => (x.map fun e => (e.1, e.2.2.1) : SMap TilDiv)
  let s := { s with til := { s.til with div := state done, div2 := state second } }
  let s := s.putBytes (divBank s bank) (done.map fun e => divRecord e.2.2.1 e.2.1).flatten
  let grp := (List.range 252).map fun k =>
    let b := u.groups.get k (le 16 0)
    if ks.contains k then b.take 10 ++ le 1 (byteNat b 10 ||| 2) ++ le 5 0 else b
  let s := s.putBytes (groupBank s bank) grp.flatten
  let fl := tilFlags u.win (!l.isEmpty) late
  let s := s.putBytes (tilRes s + 0xFE100 + 64 * bank) (tilHeader 3 bank fl w u.win l.length)
  let s := s.putBytes (tilRes s + 0xFE180 + 64 * bank) (tilHeader 4 bank fl w u.win l.length)
  let s := tilNext (s.wr F.TIL_PUB_DIV_BANK bank) 3
  let up := (chg.filter fun c => c.2.2.1).length
  let head := tilWords 3 bank late u.win l.length w
  let s := tilPostAll s 3 (head ++ [BitVec.ofNat 32 (up % 65536 + 65536 * (chg.length - up))])
  let s := tilList s 4 (tilWords 4 bank late u.win l.length w)
    (chg.map fun c => BitVec.ofNat 32 (c.1 + 8192 * c.2.1 + 32768 * c.2.2.1.toNat + 65536 * c.2.2.2)) true
  tilLate (tilSuspects s 3 bank w u late l) late F.TIL_FLT_DEADLINE

/-! ## Impedance (R277, R280, R281) -/

/-- ALIAS of an order (R273). -/
def zAlias (ord fw : Nat) : Bool := decide (1 ≤ ord) && decide (1900000000 < ord * fw)

/-- IAMP of a string at an order (Table 11-5). -/
def zIamp (x : ZStr) (key ord gain : Nat) : Int :=
  if ord = 0 then
    let n : Int := x.ns
    256 * (isqrt (rdiv (n * x.s2 - x.s1 * x.s1) (x.ns * x.ns)).toNat : Int)
  else
    let a := rnd (x.si.get key 0 * gain) 30
    let b := rnd (x.sq.get key 0 * gain) 30
    rdiv (2 * (isqrt (a * a + b * b).toNat : Int)) x.ns

/-- LOW_I of a string at an order. -/
def zLowI (x : ZStr) (key ord gain imin : Nat) : Bool := x.ns == 0 || decide (zIamp x key ord gain < (imin : Int))

/-- The first 8 bytes of a string block entry, and its FLAGS. -/
def zStrEntry (x : ZStr) (key ord gain imin fw dec : Nat) : List Byte × Nat :=
  let i := zIamp x key ord gain
  (le 4 (clampI i 0 (2 ^ 32 - 1)).toNat ++ le 4 x.ns,
    bitsOf [zLowI x key ord gain imin, zAlias ord fw, x.clamp || decide (2 ^ 32 ≤ i), dec == 3, false])

/-- Impedance of a cell at an order (R277): ZR, ZX, ZMAG, VAMP, D = 0, CLAMP. -/
def zCompute (c : ZCell) (x : ZStr) (zs key ord gain : Nat) : Int × Int × Nat × Nat × Bool × Bool :=
  let root := fun (a b : Int) => isqrt (a * a + b * b).toNat
  if ord = 0 then
    let n : Int := ((x.ns - c.mn : Nat) : Int)
    let t1 := x.s1 - c.m1
    let t2 := x.s2 - c.m2
    let d := n * t2 - t1 * t1
    if d ≤ 0 then (0, 0, 0, 0, true, false)
    else
      let r := rdiv ((n * c.xi - c.x1 * t1) * zs) (d.toNat * 2 ^ 9)
      (sat31 r, 0, (sat31 r).natAbs, 0, false, sat31 r != r)
  else
    let ii := rnd ((x.si.get key 0 - c.mi.get key 0) * gain) 30
    let iq := rnd ((x.sq.get key 0 - c.mq.get key 0) * gain) 30
    let d := ii * ii + iq * iq
    if d = 0 then (0, 0, 0, 0, true, false)
    else
      let vi := c.vi.get key 0
      let vq := c.vq.get key 0
      let r := rdiv ((vi * ii + vq * iq) * zs) (d.toNat * 2 ^ 16)
      let i := rdiv ((vi * iq - vq * ii) * zs) (d.toNat * 2 ^ 16)
      let m := root (sat31 r) (sat31 i)
      let va := rdiv (200 * (root vi vq : Int)) (32767 * c.n)
      (sat31 r, sat31 i, min m (2 ^ 32 - 1), min 65535 va.toNat, false, sat31 r != r || sat31 i != i || decide (2 ^ 32 ≤ m))

/-- The impedance record of a cell at an order (Table 11-4). -/
def zRecord (s : State) (u : TilPub) (g key ord imin : Nat) (suspect : Bool) : List Byte :=
  if !parEn u.par g then le 12 0 ++ le 1 32 ++ le 3 0
  else
    let m := parString u.par g
    let c := u.z1.cells.get g {}
    let x := u.z1.strs.get m {}
    let gain := u.gain.get key (2 ^ 30)
    let v := zCompute c x (parZs u.par m) key ord gain
    let lowN := decide (c.n * 100 < x.ns * s.rd F.TIL_ZLEN_ZMIN_PCT)
    let fl := bitsOf [suspect, v.2.2.2.2.1 || zLowI x key ord gain imin, lowN, zAlias ord u.fw, v.2.2.2.2.2 || c.clamp || x.clamp, false, false,
      u.win.dec == 3]
    le 4 (ofInt 32 v.1) ++ le 4 (ofInt 32 v.2.1) ++ le 4 v.2.2.1 ++ le 1 fl ++ le 1 0 ++ le 2 v.2.2.2.1

/-- The record of bin `b`: UNUSED when no order stands under it. -/
def zBin (s : State) (u : TilPub) (g b : Nat) (suspect : Bool) : List Byte :=
  match u.z1.orders.find? fun o => o.1 == b with
  | some o => zRecord s u g b o.2 (parImin u.par b) suspect
  | none => le 12 0 ++ le 1 (64 + 32 * (!parEn u.par g).toNat + suspect.toNat) ++ le 3 0

/-- The string block entry of bin `b`. -/
def zStrBin (u : TilPub) (m b : Nat) : List Byte :=
  match u.z1.orders.find? fun o => o.1 == b with
  | some o =>
    let e := zStrEntry (u.z1.strs.get m {}) b o.2 (u.gain.get b (2 ^ 30)) (parImin u.par b) u.fw u.win.dec
    e.1 ++ le 1 e.2 ++ le 7 0
  | none => le 8 0 ++ le 1 16 ++ le 7 0

/-- Publish an impedance bank. -/
def pubZ (s : State) (u : TilPub) (late : Bool) (bad : List (Fin 4608)) : State :=
  let l := tilMismatch s.til u bad
  let bank := 1 - s.rd F.TIL_ZPUB_BANK
  let w := tilSeq s 5
  let recs := ((List.range 4608).map fun g => ((List.range 20).map fun b => zBin s u g b (l.contains g)).flatten).flatten
  let strs := ((List.range 4).map fun m => ((List.range 20).map fun b => zStrBin u m b).flatten).flatten
  let s := (s.putBytes (zBank s bank) recs).putBytes (zStrings s bank) strs
  let s := s.putBytes (tilRes s + 0x3D0000 + 64 * bank) (tilHeader 5 bank (tilFlags u.win (!l.isEmpty) late) w u.win l.length)
  let s := tilNext ((s.wr F.TIL_ZPUB_BANK bank).wr F.TIL_Z_SEQ_WSEQ w) 5
  let s := tilPostAll s 5 (tilWords 5 bank late u.win l.length w ++ [0])
  tilLate (tilSuspects s 5 bank w u late l) late F.TIL_ZFLT_ZDEADLINE

/-! ## BANK_PUBLISH -/

/-- Take the oldest waiting window that satisfies `p` and that both passes have closed. -/
def tilTake (p : TilPub → Bool) : List TilPub → Option (TilPub × List TilPub)
  | [] => none
  | u :: r =>
    if p u then (if u.done2 then some (u, r) else none)
    else (tilTake p r).map fun x => (x.1, u :: x.2)

/-- BANK_PUBLISH (R258): the oldest closed window of a kind, compared and published; `bad` and `badGroups` name the cells and
groups on which a lane erred. -/
def execBankPublish (kind : Fin 8) (bad : List (Fin 4608)) (badGroups : List (Fin 252)) (s : State) : Res :=
  .next (match tilTake (fun u => u.kind == kind.val && u.kind != 6 && u.kind != 7) s.til.pubs with
    | none => s
    | some (u, r) =>
      let s := { s with til := { s.til with pubs := r } }
      let late := tilOver s u
      match u.kind with
      | 1 => pubState s u late bad
      | 2 => pubStat s u late bad
      | 3 => pubDiv s u late bad badGroups
      | _ => pubZ s u late bad)

/-! ## Sweeps (R288-R290) -/

/-- The parameters of a sweep: FIRST, LAST, ORDERS, COUNT, DEST, DESTLEN, windows written, late windows in a row. -/
def sweepRead (s : State) (p : Nat) : List Nat :=
  let o := fun sub d => s.obj (0x3110 + p) sub d
  [o 1 0, o 2 4607, o 3 0, o 4 10, o 5 0, o 6 0, 0, 0]

/-- The orders of a sweep, ascending. -/
def sweepOrders (par : List Nat) : List Nat := (List.range 40).filter fun h => (par.getD 2 0).testBit h

/-- Bytes of one window, and of the whole output (R289). -/
def sweepWindow (par : List Nat) : Nat :=
  64 + (sweepOrders par).length * (4 * 8 + 16 * (par.getD 1 0 + 1 - par.getD 0 0))
def sweepSize (par : List Nat) : Nat := 64 + par.getD 3 0 * sweepWindow par

/-- The check of START (R288). -/
def sweepCheck (s : State) (p : Nat) (par : List Nat) : Option Nat :=
  let n := (sweepOrders par).length
  if !s.rdB F.TIL_CTL_EN || !s.rdB F.TIL_ZCTL_Z_EN then some 0x0303
  else if n = 0 ∨ 2 ^ 40 ≤ par.getD 2 0 ∨ 32 < n ∨ par.getD 1 0 < par.getD 0 0 ∨ 4607 < par.getD 1 0 ∨ par.getD 3 0 = 0 ∨
      147456 < (par.getD 1 0 + 1 - par.getD 0 0) * n then some 0x0301
  else if !inPlotDram s p (par.getD 4 0) (par.getD 5 0) ∨ par.getD 5 0 < sweepSize par then some 0x0209
  else none

/-- The header of the output, with the windows written and the final status. -/
def sweepHeader (s : State) (par : List Nat) (status : Nat) : State :=
  s.putBytes (par.getD 4 0) (le 2 1 ++ le 2 (par.getD 0 0) ++ le 2 (par.getD 1 0) ++ le 2 (s.rd F.TIL_ZLEN_LEN) ++
    le 8 (par.getD 2 0) ++ le 4 (par.getD 6 0) ++ le 2 status ++ le 42 0)

/-- Accumulation of a sweep ends at once, and its open window is discarded (R290); windows that have closed are still written. -/
def sweepOpenDrop (s : State) (j : Nat) : State :=
  let t := s.til
  { s with til := { t with p1 := { t.p1 with sums := t.p1.sums.dropRange (1 + j) (2 + j) } } }

/-- A sweep ends: nothing of it is written any more (R290). -/
def sweepDrop (s : State) (j : Nat) : State :=
  let t := s.til
  let cut := fun (p : TilPass) => { p with sums := p.sums.dropRange (1 + j) (2 + j) }
  { s with til := { t with p1 := cut t.p1, p2 := cut t.p2, pubs := t.pubs.filter fun u => u.kind != 6 || u.job != j } }

/-- The bytes of one window of a sweep. -/
def sweepBytes (s : State) (u : TilPub) (par : List Nat) (l : List Nat) (late : Bool) : List Byte :=
  let o := sweepOrders par
  let h := tilHeader 6 0 (tilFlags u.win (!l.isEmpty) late) u.seq u.win l.length
  let strs := (List.range 4).map fun m => (o.map fun k =>
    (zStrEntry (u.z1.strs.get m {}) k k (u.gain.get k (2 ^ 30)) (parIminOf u.par k) u.fw u.win.dec).1).flatten
  let cells := (List.range (par.getD 1 0 + 1 - par.getD 0 0)).map fun i =>
    let g := par.getD 0 0 + i
    (o.map fun k => zRecord s u g k k (parIminOf u.par k) (l.contains g)).flatten
  h.take 44 ++ le 4 u.fw ++ le 16 0 ++ strs.flatten ++ cells.flatten

/-- SWEEP_WINDOW_CLOSE (R289, R290): the oldest closed window of sweep job `j` is compared and written, LATE once the impedance
window after it has ended. -/
def execSweepWindowClose (j : Fin 32) (bad : List (Fin 4608)) (s : State) : Res :=
  let x := s.job j
  .next (match tilTake (fun u => u.kind == 6 && u.job == j.val) s.til.pubs with
    | none => s
    | some (u, r) =>
      if x.kind ≠ 3 ∨ !(x.begun && x.active) then s
      else
        let late := decide (u.seq + 2 ≤ s.til.zCount)
        let s := { s with til := { s.til with pubs := r } }
        let l := (tilMismatch s.til u bad).filter fun g => decide (x.par.getD 0 0 ≤ g) && decide (g ≤ x.par.getD 1 0)
        let n := x.par.getD 6 0
        let s := s.putBytes (x.par.getD 4 0 + 64 + n * sweepWindow x.par) (sweepBytes s u x.par l late)
        let run := if late then x.par.getD 7 0 + 1 else 0
        let par := x.par.take 6 ++ [n + 1, run]
        let s := sweepHeader s par 0
        let s := s.setJob j { x with par := par, progress := 1000 * (n + 1) / x.par.getD 3 1 }
        let s := if l.isEmpty then s
          else
            let s := tilReport ((tilCount s 6 l).wr F.TIL_FLT_SUSPECT 1) 6 j u.seq u.win l
            tilList s 7 (tilWords 7 0 late u.win l.length u.seq) (l.map fun g => BitVec.ofNat 32 (g + 8192 * 6)) false
        let s := tilPost s x.owner 6 (tilWords 6 0 late u.win l.length u.seq ++
          [BitVec.ofNat 32 (j.val + 65536 * min (n + 1) 0xFFFF)])
        if 4 ≤ run ∧ x.state ≠ 1 then jobTo (sweepDrop (sweepHeader s par 0x0405) j) j 5 0x0405
        else if par.getD 6 0 = par.getD 3 0 ∧ x.state = 2 then jobTo (sweepDrop s j) j 4 0
        else s)

/-! ## Register writes (R260, R263, R266, R293) -/

/-- A write of the Tilth window. -/
def tilWrite (s : State) (r : Req) (a v : Nat) : State :=
  let o := a - 0x20500000
  if o = 0 then tilCtlWrite s r v
  else if o = 0x18 then
    (if v % 4 = 1 then tilCommit s r
     else if !tilOwner s r then s.status 0x0207
     else if v % 4 = 2 then (tilWithdraw s).status 0 else s.status 0)
  else if o = 0x60 then ucAddr s r v
  else if o = 0x64 then ucData s r v
  else if o = 0x6C then (if v % 2 = 1 then ucLock s r else if r ≠ .supervisor then s.status 0x0207 else s.status 0)
  else if 0x0C ≤ o ∧ o ≤ 0x14 then
    if r ≠ .supervisor then s.status 0x0207
    else if s.rdB F.TIL_CTL_EN then s.status 0x0303
    else (s.writeWord a v).status 0
  else if 0x100 ≤ o ∧ o < 0x120 then
    let p := (o - 0x100) / 4
    let own := match r with
      | .plot k => k.val == p
      | .stitch k _ _ => k.val == p
      | _ => false
    if !own then s.status 0x0207
    else if s.rd (F.Q_OWN_CONS (v % 64)) != p then s.status 0x0206
    else (s.writeWord a v).status 0
  else if !tilOwner s r then s.status 0x0207
  else if o = 0x24 then
    let len := v % 2 ^ 13
    if len = 0 ∨ 4096 < len then s.status 0x0301
    else (((s.wr F.TIL_STAT_CFG_LEN len).wr F.TIL_STAT_CFG_MIN_PCT (min 100 (v / 2 ^ 16 % 256)))).status 0
  else if o = 0x204 then
    let len := v % 2 ^ 11
    if len = 0 ∨ 1024 < len then s.status 0x0301
    else ((s.wr F.TIL_ZLEN_LEN len).wr F.TIL_ZLEN_ZMIN_PCT (min 100 (v / 2 ^ 16 % 256))).status 0
  else (tilDegrade (s.writeWord a v)).status 0

end Sys2Proof.Machine
end

