-- ==== Sys2Proof/Machine/Gateway.lean ====
section
/-! DEFINITION. The signal gateway of Bridle (R428-R435) and the frame forwarding of a GZ-1200 pair (R409). -/

namespace Sys2Proof.Machine

/-! ## System identifiers (R384, R431) -/

/-- The identifiers that the module's own blocks use on controller `i`, gateway frames apart. -/
def canOwnId (s : State) (i id : Nat) (ide : Bool) : Bool :=
  let base := s.obj 0x1002 2 0x600
  (s.rdB (F.PT_CANREF_CFG_EN i) && id == s.rd (F.PT_CANREF_ID_ID i) && ide == s.rdB (F.PT_CANREF_CFG_IDE i)) ||
    (i == s.rd F.POM_CAN_CTRL && !ide && (id == s.rd F.POM_CAN_ID || id == s.rd F.POM_CAN_PARTNER_ID)) ||
    ((s.obj 0x1002 1 0).testBit i && !ide && decide (base ≤ id) && decide (id < base + 16)) ||
    (s.rdB F.NS_CTL_EN && i == s.rd F.NS_CTL_CTRL && !ide && decide (s.rd F.NS_ID_BASE ≤ id) &&
      decide (id < s.rd F.NS_ID_BASE + 16))

/-- Is the identifier one of the module's on controller `i`, those of the active gateway table among them? -/
def canSystemId (s : State) (i id : Nat) (ide : Bool) : Bool :=
  canOwnId s i id ide || s.gw.active.dsts.any fun d => d.en && d.ctrl == i && d.ide == ide && d.id == id

/-! ## The staging tables (R428, Table 18-5 to Table 18-7) -/

/-- Bytes of the staging area from offset `o`, a multiple of 4. -/
def gwBytes (s : State) (o n : Nat) : List Byte :=
  ((List.range (n / 4)).map fun k => le 4 (s.rd (F.GW_TBL_DATA (o / 4 + k)))).flatten

/-- The signed 32-bit number at byte `i`. -/
def intAt (b : List Byte) (i : Nat) : Int := toInt 32 (ofLe ((b.drop i).take 4))

def gwSrcParse (b : List Byte) : GwSrc :=
  let w := ofLe (b.take 4)
  let c := byteNat b 4
  { id := w % 2 ^ 29, ide := w.testBit 29, ctrl := c % 8, en := c.testBit 3, fmt := c / 16 % 4, tmo := halfNat b 6 }

def gwDstParse (b : List Byte) : GwDst :=
  let w := ofLe (b.take 4)
  let c := byteNat b 4
  { id := w % 2 ^ 29, ide := w.testBit 29, ctrl := c % 8, en := c.testBit 3, fdf := c.testBit 4, brs := c.testBit 5,
    mode := c / 64, dlc := byteNat b 5, period := halfNat b 6, inhibit := halfNat b 8, fill := byteNat b 10 }

def gwSigParse (b : List Byte) : GwSig :=
  let f := byteNat b 0
  { en := f.testBit 0, ssigned := f.testBit 1, smoto := f.testBit 2, dsigned := f.testBit 3, dmoto := f.testBit 4,
    subst := f.testBit 5, src := byteNat b 1, dst := byteNat b 2, sstart := halfNat b 4, slen := byteNat b 6,
    dlen := byteNat b 7, dstart := halfNat b 8, a := intAt b 12, b := intAt b 16, min := intAt b 20, max := intAt b 24,
    raw := ofLe ((b.drop 28).take 4) }

/-- The staged tables, parsed. -/
def gwStaged (s : State) : GwTable :=
  { srcs := (List.range 32).map fun f => gwSrcParse (gwBytes s (8 * f) 8),
    dsts := (List.range 32).map fun d => gwDstParse (gwBytes s (0x100 + 16 * d) 16),
    sigs := (List.range 128).map fun k => gwSigParse (gwBytes s (0x300 + 32 * k) 32) }

/-! ## Bits of a frame (R429) -/

/-- The next bit below `p` in Motorola order. -/
def motoNext (p : Nat) : Nat := if p % 8 = 0 then 8 * (p / 8 + 1) + 7 else p - 1

/-- The bits of a Motorola field from its most significant one. -/
def motoBits : Nat → Nat → List Nat
  | 0, _ => []
  | n + 1, p => p :: motoBits n (motoNext p)

/-- The bit positions of a field, least significant first. -/
def fieldBits (moto : Bool) (start len : Nat) : List Nat :=
  if moto then (motoBits len start).reverse else (List.range len).map (start + ·)

/-- The value of a field. -/
def getBits (b : List Byte) : List Nat → Nat
  | [] => 0
  | p :: r => ((byteNat b (p / 8)).testBit (p % 8)).toNat + 2 * getBits b r

/-- The frame with a field set to the low bits of `v`. -/
def putBits (b : List Byte) : List Nat → Nat → List Byte
  | [], _ => b
  | p :: r, v =>
    let x := byteNat b (p / 8)
    let y := if v % 2 = 1 then x ||| 2 ^ (p % 8) else x &&& (255 - 2 ^ (p % 8))
    putBits (b.set (p / 8) (BitVec.ofNat 8 y)) r (v / 2)

/-- Does a field lie within `n` bytes? -/
def bitsFit (bits : List Nat) (n : Nat) : Bool := bits.all fun p => decide (p / 8 < n)

/-! ## COMMIT (R431) -/

/-- The reason for which an identifier is out of its range. -/
def idBad (id : Nat) (ide : Bool) (top : Nat) : Bool := decide (top / 2 ^ 30 ≠ 0) || (!ide && decide (2 ^ 11 ≤ id))

/-- Do all bytes of a range hold zero? -/
def zeros (b : List Byte) (i n : Nat) : Bool := ((b.drop i).take n).all (· == 0)

/-- The first fault of source entry `f`, if any; entries that are not enabled are not checked. -/
def gwSrcFault (s : State) (t : GwTable) (f : Nat) : Option Nat :=
  let x := t.srcs.getD f {}
  let b := gwBytes s (8 * f) 8
  if !x.en then none
  else if idBad x.id x.ide (ofLe (b.take 4)) || x.fmt == 3 || decide (64 ≤ byteNat b 4) then some 1
  else if !zeros b 5 1 then some 8
  else none

/-- Is an identifier inside a plot's range on controller `i` (R383)? -/
def inPlotIds (s : State) (i p id : Nat) (ide : Bool) : Bool :=
  ide == s.rdB (F.CAN_PID_LO_IDE i p) && decide (s.rd (F.CAN_PID_LO_LO i p) ≤ id) && decide (id ≤ s.rd (F.CAN_PID_HI_HI i p))

/-- The first fault of destination entry `d`, if any. -/
def gwDstFault (s : State) (t : GwTable) (d : Nat) : Option Nat :=
  let x := t.dsts.getD d {}
  let b := gwBytes s (0x100 + 16 * d) 16
  let taken := canOwnId s x.ctrl x.id x.ide || ((List.range 8).any fun p => inPlotIds s x.ctrl p x.id x.ide) ||
    ((List.range d).any fun e =>
      let y := t.dsts.getD e {}
      y.en && y.ctrl == x.ctrl && y.ide == x.ide && y.id == x.id)
  if !x.en then none
  else if idBad x.id x.ide (ofLe (b.take 4)) || decide (15 < x.dlc) || decide (60000 < x.inhibit) ||
      (decide (2 ≤ x.mode) && (decide (x.period < 10) || decide (60000 < x.period))) then some 1
  else if taken then some 6
  else if (x.brs || decide (8 < x.dlc)) && !x.fdf then some 7
  else if !zeros b 11 5 then some 8
  else none

/-- The destination bits of a signal. -/
def GwSig.dbits (x : GwSig) : List Nat := fieldBits x.dmoto x.dstart x.dlen
def GwSig.sbits (x : GwSig) : List Nat := fieldBits x.smoto x.sstart x.slen

/-- Payload bytes of a destination frame. -/
def GwDst.bytes (d : GwDst) : Nat := dlcBytes d.fdf d.dlc

/-- The first fault of signal `k`, if any. -/
def gwSigFault (s : State) (t : GwTable) (k : Nat) : Option Nat :=
  let x := t.sigs.getD k {}
  let b := gwBytes s (0x300 + 32 * k) 32
  let d := t.dsts.getD x.dst {}
  if !x.en then none
  else if decide (64 ≤ byteNat b 0) || decide (32 ≤ x.src) || decide (32 ≤ x.dst) || decide (x.slen < 1 ∨ 32 < x.slen) ||
      decide (x.dlen < 1 ∨ 32 < x.dlen) || decide (511 < x.sstart) || decide (511 < x.dstart) then some 1
  else if x.max < x.min then some 2
  else if !(t.srcs.getD x.src {}).en || !d.en then some 3
  else if !bitsFit x.dbits d.bytes then some 4
  else if (List.range k).any fun j =>
      let y := t.sigs.getD j {}
      y.en && y.dst == x.dst && y.dbits.any fun p => x.dbits.contains p then some 5
  else if !zeros b 3 1 || !zeros b 10 2 then some 8
  else none

/-- The first fault of the staged tables: entry, kind, reason. -/
def gwFault (s : State) (t : GwTable) : Option (Nat × Nat × Nat) :=
  let pick := fun (kind n : Nat) (f : Nat → Option Nat) => (List.range n).findSome? fun k => (f k).map fun r => (k, kind, r)
  (pick 0 32 (gwSrcFault s t)).or ((pick 1 32 (gwDstFault s t)).or (pick 2 128 (gwSigFault s t)))

/-- COMMIT: the staging area is checked; it becomes active at the next 1 ms boundary (R428, R431). -/
def gwCommit (s : State) : State :=
  let t := gwStaged s
  match gwFault s t with
  | some (k, kind, r) => (((s.wr F.GW_ERR_INDEX k).wr F.GW_ERR_KIND kind).wr F.GW_ERR_REASON r).status 0x0309
  | none =>
    let s := ((s.wr F.GW_ERR_INDEX 0x7F).wr F.GW_ERR_KIND 0).wr F.GW_ERR_REASON 0
    (State.wr { s with gw := { s.gw with pend := some t } } F.GW_STAT_PEND 1).status 0

/-- GW_COMMIT (R431). -/
def execGwCommit (r : Req) (s : State) : Res :=
  .next (hostWrite s r F.GW_CMD_COMMIT.addr (if r.supOrStitch then gwCommit s else s.status 0x0207))

/-! ## Sending (R433) -/

def gwDstSt (s : State) (d : Nat) : GwDstSt := s.gw.dsts.get d {}
def setGwDst (s : State) (d : Nat) (x : GwDstSt) : State := { s with gw := { s.gw with dsts := s.gw.dsts.set d x } }

/-- A free gateway buffer of controller `i`. -/
def gwFree (s : State) (i : Nat) : Option Nat :=
  [4, 5].find? fun b => (bufState s i b == 0 || bufState s i b == 4 || bufState s i b == 5) && ((s.canSt i).sys.get b []).isEmpty

/-- The due frame of controller `i` that would win arbitration. -/
def gwNext (s : State) (i : Nat) : Option Nat :=
  let key := fun d => let x := s.gw.active.dsts.getD d {}; arbKey x.id x.ide false
  (List.range 32).foldl (fun a d =>
    if (gwDstSt s d).due && (s.gw.active.dsts.getD d {}).ctrl == i then
      match a with
      | none => some d
      | some c => if key d < key c then some d else some c
    else a) none

/-- One due frame of controller `i` enters a free buffer; with the controller not NORMAL it is dropped. -/
def gwSendOne (s : State) (i : Nat) : State :=
  match gwNext s i with
  | none => s
  | some d =>
    let x := s.gw.active.dsts.getD d {}
    let y := gwDstSt s d
    if canMode s i ≠ 3 then setGwDst s d { y with due := false, dropped := (y.dropped + 1) % 65536 }
    else
      match gwFree s i with
      | none => s
      | some b =>
        let f : CanFrame := { id := x.id, ide := x.ide, fdf := x.fdf, brs := x.brs, dlc := x.dlc, data := y.data }
        canSystem (setGwDst s d { y with due := false, sent := (y.sent + 1) % 65536, lastSend := some s.now }) i b f

/-- Send what is due on controller `i` while a buffer is free. -/
def gwService (i : Nat) (s : State) : State := forN (fun _ t => gwSendOne t i) 32 s

/-- Is frame `d` within INHIBIT of its last send (R433)? -/
def inhibited (s : State) (d : Nat) : Bool :=
  (gwDstSt s d).lastSend.any fun t => decide (s.now < t + 80000 * (s.gw.active.dsts.getD d {}).inhibit)

/-- Destination frame `d` falls due; within INHIBIT of its last send it waits. -/
def gwDue (s : State) (d : Nat) : State :=
  let x := s.gw.active.dsts.getD d {}
  let y := gwDstSt s d
  if !x.en then s
  else if inhibited s d then setGwDst s d { y with deferred := true }
  else gwService x.ctrl (setGwDst s d { y with due := true })

/-! ## Signals (R430, R432, R434) -/

/-- Write a raw value into the destination of signal `k`: the state, and whether the frame's bits changed. -/
def gwPut (s : State) (k raw : Nat) : State × Bool :=
  let x := s.gw.active.sigs.getD k {}
  let y := gwDstSt s x.dst
  let b := putBits y.data x.dbits raw
  (setGwDst s x.dst { y with data := b }, b != y.data)

/-- y of R430 and SAT. -/
def gwCalc (x : GwSig) (data : List Byte) : Int × Bool :=
  let v := getBits data x.sbits
  let v : Int := if x.ssigned then toInt x.slen v else (v : Int)
  let y := rnd (x.a * v) 16 + x.b
  let z := clampI y x.min x.max
  let w := if x.dsigned then clampI z (-(2 ^ (x.dlen - 1))) (2 ^ (x.dlen - 1) - 1) else clampI z 0 (2 ^ x.dlen - 1)
  (w, w != y)

/-- Mark what a written signal makes due: ON_UPDATE always, ON_CHANGE and MODE 3 on a change. -/
def gwTouch (s : State) (d : Nat) (changed : Bool) : List Nat :=
  let x := s.gw.active.dsts.getD d {}
  if x.mode == 0 || ((x.mode == 1 || x.mode == 3) && changed) then [d] else []

/-- Evaluate signal `k` on a received payload: the state and the frames it makes due. -/
def gwEval (s : State) (k : Nat) (data : List Byte) : State × List Nat :=
  let x := s.gw.active.sigs.getD k {}
  let (y, sat) := gwCalc x data
  let s := { s with gw := { s.gw with sigs := s.gw.sigs.set k { y := y, sat := sat, subst := false } } }
  let (s, ch) := gwPut s k (ofInt x.dlen y)
  (s, gwTouch s x.dst ch)

/-- Signal `k` writes SUBST. -/
def gwSubst (s : State) (k : Nat) : State × List Nat :=
  let x := s.gw.active.sigs.getD k {}
  let old := s.gw.sigs.get k {}
  let s := { s with gw := { s.gw with sigs := s.gw.sigs.set k { old with subst := true } } }
  let (s, ch) := gwPut s k (x.raw % 2 ^ x.dlen)
  (s, gwTouch s x.dst ch)

/-- Run a step for each signal of a list in order, then let the frames they made due go, each once. -/
def gwRun (s : State) (ks : List Nat) (f : State → Nat → State × List Nat) : State :=
  let r := ks.foldl (fun (a : State × List Nat) k => let x := f a.1 k; (x.1, a.2 ++ x.2)) (s, [])
  r.2.eraseDups.foldl gwDue r.1

/-- The enabled signals mapped from source frame `f`. -/
def gwSigsOf (s : State) (f : Nat) : List Nat :=
  (List.range 128).filter fun k => let x := s.gw.active.sigs.getD k {}; x.en && x.src == f

/-- A received frame matches source entry `f` (R432). -/
def gwMatch (s : State) (f : Nat) (data : List Byte) : State :=
  let ks := gwSigsOf s f
  let x := s.gw.srcs.get f {}
  let short := ks.any fun k => !bitsFit ((s.gw.active.sigs.getD k {}).sbits) data.length
  let n := (x.matched + 1) % 65536
  if short then { s with gw := { s.gw with srcs := s.gw.srcs.set f { x with short := true, matched := n } } }
  else
    let s := { s with gw := { s.gw with srcs := s.gw.srcs.set f { x with timeout := false, matched := n, matchAt := s.now } } }
    gwRun s ks fun t k => gwEval t k data

/-- A frame that a gateway element of controller `i` accepted meets the source entries. -/
def gwSource (s : State) (i : Nat) (f : CanFrame) : State :=
  let hit := (List.range 32).filter fun k =>
    let x := s.gw.active.srcs.getD k {}
    x.en && x.ctrl == i && x.ide == f.ide && x.id == f.id && (x.fmt == 0 || (x.fmt == 1 && !f.fdf) || (x.fmt == 2 && f.fdf))
  hit.foldl (fun t k => gwMatch t k f.data) s

/-- GW_TABLE_ACTIVATE (R432): at the 1 ms boundary every source starts in TIMEOUT, every destination holds FILL and
the SUBST values. -/
def execGwTableActivate (s : State) : Res :=
  match s.gw.pend with
  | none => .next s
  | some t =>
    let dst := (List.range 32).map fun d =>
      let x := t.dsts.getD d {}
      let b := List.replicate x.bytes (BitVec.ofNat 8 x.fill)
      let b := (t.sigs.filter fun y => y.en && y.dst == d).foldl (fun b y => putBits b y.dbits (y.raw % 2 ^ y.dlen)) b
      (d, ({ data := b, periodAt := s.now } : GwDstSt))
    let s := { s with gw := { active := t, dsts := dst } }
    .next ((s.wr F.GW_STAT_ACTIVE 1).wr F.GW_STAT_PEND 0)

/-- Has frame `d`'s period run out (R433)? -/
def periodDue (s : State) (d : Nat) : Bool :=
  let x := s.gw.active.dsts.getD d {}
  x.en && decide (2 ≤ x.mode) && decide ((gwDstSt s d).periodAt + 80000 * x.period ≤ s.now)

/-- GW_PERIOD_EXPIRY (R433): the next period starts; a frame that a change sent in this tick is not sent twice (Table 18-8). -/
def execGwPeriodExpiry (d : Fin 32) (s : State) : Res :=
  .next (if periodDue s d then
      let y := gwDstSt s d
      let s := setGwDst s d { y with periodAt := y.periodAt + 80000 * (s.gw.active.dsts.getD d.val {}).period }
      if y.lastSend = some s.now then s else gwDue s d
    else s)

/-- GW_INHIBIT_END (R433): a deferred frame is sent once with the latest values. -/
def execGwInhibitEnd (d : Fin 32) (s : State) : Res :=
  let y := gwDstSt s d
  .next (if y.deferred && !inhibited s d then
      gwService (s.gw.active.dsts.getD d.val {}).ctrl (setGwDst s d { y with deferred := false, due := true })
    else s)

/-- GW_SOURCE_TIMEOUT (R434): each signal of the frame acts once. -/
def execGwSourceTimeout (f : Fin 32) (s : State) : Res :=
  let x := s.gw.srcs.get f {}
  let e := s.gw.active.srcs.getD f {}
  .next (if x.timeout || !e.en || e.tmo == 0 || decide (s.now < x.matchAt + 80000 * e.tmo) then s
    else
      let s := { s with gw := { s.gw with srcs := s.gw.srcs.set f { x with timeout := true } } }
      gwRun s ((gwSigsOf s f).filter fun k => (s.gw.active.sigs.getD k {}).subst) gwSubst)

/-- A word of the read-only status area, `o` its offset from 0xA000 (R437). -/
def gwStatusWord (s : State) (o : Nat) : Nat :=
  if o < 0x80 then
    let x := s.gw.srcs.get (o / 4) {}
    let en := (s.gw.active.srcs.getD (o / 4) {}).en
    (x.timeout && en).toNat + 2 * x.short.toNat + 65536 * x.matched
  else if o < 0x100 then
    let y := gwDstSt s ((o - 0x80) / 4)
    y.sent + 65536 * y.dropped
  else if o < 0x500 then
    let g := s.gw.sigs.get ((o - 0x100) / 8) {}
    if o % 8 = 0 then ofInt 32 g.y else g.sat.toNat + 2 * g.subst.toNat
  else 0

/-! ## GZ-1200 pairs (R409) -/

/-- Keep GW_STAT and GW_ERR with the two controllers of every pair. -/
def pairSync (s : State) : State :=
  forN (fun k t =>
    let a := t.rdB (F.CAN_CTL_GW1200 (2 * k))
    let b := t.rdB (F.CAN_CTL_GW1200 (2 * k + 1))
    let t := t.wrB (F.PAIR_GW_STAT_ACTIVE k) (a && b)
    if a != b then t.wr F.NS_FLT_GW_ERR 1 else t) 4 s

/-- Is a frame received by controller `i` to be forwarded: sleep frames, and what a pass entry names? -/
def pairPasses (s : State) (i : Nat) (f : CanFrame) : Bool :=
  let base := s.rd F.NS_ID_BASE
  (!f.ide && decide (base ≤ f.id) && decide (f.id < base + 16)) ||
    (List.range 32).any fun r =>
      s.rdB (F.GW_PASS_LO_EN (i / 2) r) && (s.rdB (F.GW_PASS_LO_DIR (i / 2) r) == decide (i % 2 = 1)) &&
        (s.rdB (F.GW_PASS_LO_IDE (i / 2) r) == f.ide) && decide (s.rd (F.GW_PASS_LO_LO (i / 2) r) ≤ f.id) &&
        decide (f.id ≤ s.rd (F.GW_PASS_HI_HI (i / 2) r))

/-- A valid frame of controller `i` crosses to the other controller of its pair, or is dropped. -/
def pairForward (s : State) (i : Nat) (f : CanFrame) : State :=
  let o := if i % 2 = 0 then i + 1 else i - 1
  if !s.rdB (F.PAIR_GW_STAT_ACTIVE (i / 2)) || !pairPasses s i f then s
  else if canMode s o ≠ 3 ∨ 2 ≤ s.rd (F.CAN_STAT_STATE o) ∨ 32 ≤ ((s.canSt o).sys.get 6 []).length then
    s.incSat (F.PAIR_GW_CNT_DROP (i / 2))
  else canSystem (s.incSat (F.PAIR_GW_CNT_FWD (i / 2))) o 6 f

end Sys2Proof.Machine
end

