-- ==== Sys2Proof/Machine/Can.lean ====
section
/-! DEFINITION. The commands of the CAN FD controllers (16_can_fd.md): buffers, attempts, launches, errors, received
frames, and the writes of the CAN window. -/

namespace Sys2Proof.Machine

/-! ## Who may write what (R383, R384) -/

/-- May the requester use buffer `b` of controller `i`: the plot whose share holds it, or the supervisor for the buffers
that Bridle uses? -/
def bufAllowed (s : State) (r : Req) (i b : Nat) : Bool :=
  match r with
  | .plot p => bufOwner s i b == some p.val
  | .supervisor => decide (3 ≤ b) && decide (b < 8)
  | _ => false

/-- The plot whose share holds filter element `e` (R383). -/
def elemOwner (s : State) (i e : Nat) : Option Nat :=
  (List.range 8).find? fun p =>
    let t := s.rd (F.CAN_PFLT_FBASE i p)
    decide (t ≤ e) && decide (e < t + s.rd (F.CAN_PFLT_FCOUNT i p))

/-- May the requester write filter element `e`? -/
def elemAllowed (s : State) (r : Req) (i e : Nat) : Bool :=
  match r with
  | .plot p => elemOwner s i e == some p.val
  | .supervisor => decide (e < 16)
  | _ => false

/-- Is a buffer in a state that refuses writes (R384)? -/
def bufBusy (st : Nat) : Bool := st == 1 || st == 2 || st == 3 || st == 6

/-! ## Requests (R386) -/

/-- REQ on buffer `b` (R384, R386). -/
def bufRequest (s : State) (i b : Nat) : State :=
  let f := bufFrame s i b
  if bufBusy (bufState s i b) then s.status 0x0303
  else if (f.fdf && !s.rdB (F.CAN_CTL_FD_EN i)) || (f.brs && !f.fdf) || (f.rtr && f.fdf) then s.status 0x0302
  else
    let s := (s.wr (F.CAN_TXB_STAT_ATTEMPTS i b) 0)
    let s := setCanBuf s i b {}
    (bufPut s i b (if s.rdB (F.CAN_TXB_CTL_TT i b) then 2 else 1)).status 0

/-- CAN_TXB_REQ (R386). -/
def execCanTxbReq (r : Req) (i : Fin 8) (b : Fin 64) (s : State) : Res :=
  .next (hostWrite s r (0x20A20008 + 0x2000 * i + 0x80 * b) (if bufAllowed s r i b then bufRequest s i b else s.status 0x0206))

/-- CAN_TXB_ABORT (R386). -/
def execCanTxbAbort (r : Req) (i : Fin 8) (b : Fin 64) (s : State) : Res :=
  .next (hostWrite s r (0x20A20008 + 0x2000 * i + 0x80 * b) (if bufAllowed s r i b then (bufAbortReq s i b).status 0 else s.status 0x0206))

/-- ABORT_ALL: an ABORT of every plot buffer of controller `i` (R396). -/
def canAbortAll (s : State) (i : Nat) : State := forN (fun k t => bufAbortReq t i (k + 8)) 56 s

/-- ABORT_ALL (R396). -/
def execAbortAll (r : Req) (i : Fin 8) (s : State) : Res :=
  .next (hostWrite s r (F.CAN_CMD_CMD i).addr (if r = .supervisor then (canAbortAll s i).status 0 else s.status 0x0207))

/-! ## Time-triggered launch (R387) -/

/-- Nominal bit time in ticks: NBRP·(1 + NTSEG1 + NTSEG2) (R376). -/
def bitTicks (s : State) (i : Nat) : Nat :=
  (s.rd (F.CAN_NBT_NBRP i) + 1) * (s.rd (F.CAN_NBT_NTSEG1 i) + s.rd (F.CAN_NBT_NTSEG2 i) + 3)

/-- A buffer misses its window: ABORTED with TT_MISS. -/
def bufMiss (s : State) (i b : Nat) : State :=
  let s := (s.wr (F.CAN_TXB_STAT_TT_MISS i b) 1).wr (F.CAN_FLT_TT_MISS i) 1
  bufAbort s i b 3 0x0406

/-- The effect of a launch on buffer `b` of controller `i`. -/
def bufLaunch (s : State) (i b : Nat) : State :=
  if bufState s i b ≠ 2 then s.wr (F.CAN_TXB_STAT_NOT_ARMED i b) 1
  else if 2 ≤ s.rd (F.CAN_STAT_STATE i) then
    if s.rdB (F.CAN_TXB_CTL_TT_ABORT i b) then bufMiss s i b else bufPut s i b 6
  else setCanBuf (bufPut s i b 1) i b { effect := some s.now }

/-- CAN_LAUNCH (R387): the issued action of slot `n` takes effect; slots 16 to 23 launch SYNC, which CANREF_SYNC loads
(R160). -/
def execCanLaunch (n : Fin 1024) (s : State) : Res :=
  .next (act s n [8] 0 fun t x => if x.plot < 8 then bufLaunch t (x.arg % 8) (x.arg / 256 % 64) else t)

/-- Have TT_WIN nominal bit times passed since buffer `b` was launched, with no start of frame? A TT_WIN of 0 is 1. -/
def ttDue (s : State) (i b : Nat) : Bool :=
  match (canBuf s i b).effect with
  | none => false
  | some t => decide (t + bitTicks s i * max 1 (s.rd (F.CAN_TXB_CTL_TT_WIN i b)) ≤ s.now)

/-- TT_MISS (R387): TT_WIN nominal bit times have passed without a start of frame. -/
def execTtMiss (i : Fin 8) (b : Fin 64) (s : State) : Res :=
  .next (if bufState s i b == 1 && ttDue s i b && s.rdB (F.CAN_TXB_CTL_TT_ABORT i b) then bufMiss s i b else s)

/-! ## Attempts (R385, R386, R391) -/

/-- The start of frame of buffer `b` leaves: only of the buffer that the controller offers. A plot buffer that holds a
system identifier is ABORTED instead (R384). The first start of a launched buffer may be LATE, and ends its window. -/
def bufStart (s : State) (i b : Nat) : State :=
  let f := bufFrame s i b
  if !canSends s i || (canActive s i).isSome || canOffer s i ≠ some b then s
  else if 8 ≤ b && canSystemId s i f.id f.ide then bufAbort s i b 2 0x0206
  else
    let n := s.rd (F.CAN_TXB_STAT_ATTEMPTS i b)
    let s := s.wr (F.CAN_TXB_STAT_ATTEMPTS i b) (min 255 (n + 1))
    let late := match (canBuf s i b).effect with
      | none => false
      | some t => decide (t + bitTicks s i < s.now)
    let s := if (canBuf s i b).effect.isSome then setCanBuf s i b { canBuf s i b with effect := none } else s
    bufPut (if late then s.wr (F.CAN_TXB_STAT_LATE i b) 1 else s) i b 3

/-- An attempt ends without success: a ONESHOT buffer and one with an ABORT waiting are ABORTED, the others contend
again. -/
def bufFail (s : State) (i b : Nat) : State :=
  if s.rdB (F.CAN_TXB_CTL_ONESHOT i b) then bufAbort s i b 2 0x0121
  else if (canBuf s i b).abort then bufAbort s i b 2 0
  else bufPut s i b 1

/-- The SYNC of controller `i` is acknowledged with this stamp: its FUP is due; one still unsent is aborted first (R162). -/
def syncAck (s : State) (i : Nat) (st : Stamp) (at_ : Nat) : State :=
  let b := BitVec.ofNat 8 (2 ^ i)
  if s.pt.syncPend &&& b == 0 then s
  else
    let s := fupDrop s i
    { s with pt := { s.pt with
        syncPend := s.pt.syncPend &&& ~~~b, syncAcked := s.pt.syncAcked ||| b, fupPend := s.pt.fupPend ||| b
        fupAt := s.pt.fupAt.set i at_, syncStamp := s.pt.syncStamp.set i st } }

/-- An attempt is acknowledged: SENT with its stamp, the receive-edge tick less LOOP (R391). -/
def bufSent (s : State) (i b back : Nat) (loop tdc : Nat) : State :=
  let f := bufFrame s i b
  let st := stampBack s (back + loop)
  let keep := s.rd (F.CAN_TDC_TDCF i) ≠ 0 ∧ s.rd (F.CAN_TDC_TDCF i) < tdc
  let s := if f.fdf && s.rdB (F.CAN_DBT_TDC_EN i) && !decide keep then s.wr (F.CAN_TDC_TDCV i) tdc else s
  let s := (s.wr (F.CAN_TXB_STAT_LOOP i b) loop).incSat (F.CAN_CNT_TX_OK i)
  let s := (s.wr (F.CAN_TXB_CYC_CYC i b) st.ang.cycle.toNat).wr (F.CAN_TXB_ANG_ANG i b) st.ang.angle.toNat
  let s := (s.wr (F.CAN_TXB_NS_NS i b) st.pt.ns.toNat).wr (F.CAN_TXB_S_LO_S_LO i b) st.pt.sec.toNat
  let s := s.wr (F.CAN_TXB_S_HI_S_HI i b) (st.pt.sec.toNat / 2 ^ 32)
  let s := if canCounts s i then canCount s i (s.rd (F.CAN_ECNT_TEC i) - 1) (s.rd (F.CAN_ECNT_REC i)) else s
  let s := (setCanBuf (bufPut s i b 4) i b {}).emit (.can i f)
  let s := if b = 1 then syncAck s i st (s.now - back - loop) else s
  let s := if b = 2 then { s with pt := { s.pt with fupPend := s.pt.fupPend &&& ~~~(BitVec.ofNat 8 (2 ^ i)) } } else s
  let s := sysNext (bufRecord s i b 1 0 st) i b
  if b = 7 ∧ i = s.rd F.NS_CTL_CTRL ∧ nsState s = 2 ∧ s.rdB F.NS_CTL_INIT ∧
      byteNat f.data 0 = 16 * nsCOMMIT + s.rd F.NS_STAT_ROUND then nsOpen s (back + loop) else s

/-- CAN_TX_DONE (R386): how the attempt of buffer `b` stands; when it has ended, gateway frames that wait for a buffer
follow. -/
def execCanTxDone (i : Fin 8) (b : Fin 64) (a : CanAttempt) (s : State) : Res :=
  .next (match a with
    | .start => bufStart s i b
    | .lost => if bufState s i b == 3 then gwService i (bufFail (s.wr (F.CAN_TXB_STAT_LOST_ARB i b) 1) i b) else s
    | .error => if bufState s i b == 3 then gwService i (bufFail (s.wr (F.CAN_TXB_STAT_ERR i b) 1) i b) else s
    | .acked back loop tdc =>
      if bufState s i b == 3 then gwService i (bufSent s i b back loop.toNat tdc.toNat) else s)

/-! ## Errors (R380-R382) -/

/-- The bit of CAN_FLT that an error sets. -/
def errBit (i : Nat) (e : CanErr) : Field :=
  match e with
  | .stuff => F.CAN_FLT_STUFF i
  | .arbStuff => F.CAN_FLT_STUFF i
  | .form => F.CAN_FLT_FORM i
  | .ack => F.CAN_FLT_ACK i
  | .bit1 => F.CAN_FLT_BIT1 i
  | .bit0 => F.CAN_FLT_BIT0 i
  | .crc => F.CAN_FLT_CRC i
  | .res => F.CAN_FLT_FORM i

/-- The counters after an error, as ISO 11898-1:2015 has them: a transmitter's 8, but none for an acknowledgement error
while error-passive nor for a stuff error in arbitration; a receiver's 1, or 8 for a dominant bit after its flag. -/
def errCount (s : State) (i : Nat) (e : CanErr) (tx heavy : Bool) : State :=
  let tec := s.rd (F.CAN_ECNT_TEC i)
  let rec_ := s.rd (F.CAN_ECNT_REC i)
  if !canCounts s i then s
  else if tx then
    if e == .arbStuff || (e == .ack && s.rd (F.CAN_STAT_STATE i) == 1) then s else canCount s i (tec + 8) rec_
  else canCount s i tec (rec_ + if heavy then 8 else 1)

/-- CAN_ERROR (R380): an error that controller `i` sees, as transmitter or receiver; `heavy` is a receiver's dominant bit
after its error flag. A recessive res bit is a protocol exception unless PXD is set (R375). -/
def execCanError (i : Fin 8) (e : CanErr) (tx heavy : Bool) (s : State) : Res :=
  .next (if !canHears s i then s
    else if e == .res && !s.rdB (F.CAN_CTL_PXD i) then
      canSysRecord ((s.wr (F.CAN_STAT_PXE i) 1).wr (F.CAN_FLT_PXE_SEEN i) 1) i 0x14
    else
      gwService i (errCount ((s.wr (errBit i e) 1).incSat (F.CAN_ERRCNT_ERR_FRAMES i)) i e tx heavy))

/-- RECOVER: only in bus-off (R381). -/
def canRecover (s : State) (i : Nat) : State :=
  if s.rd (F.CAN_STAT_STATE i) = 2 then
    ((s.wr (F.CAN_STAT_STATE i) 3).setCan i { s.canSt i with recAt := s.now }).status 0
  else s.status 0x0303

/-- RECOVER (R381). -/
def execRecover (r : Req) (i : Fin 8) (s : State) : Res :=
  .next (hostWrite s r (F.CAN_CMD_CMD i).addr (if r.supOrStitch then canRecover s i else s.status 0x0207))

/-- Can 128 occurrences of 11 recessive bits have passed since RECOVER (R381): 1,408 nominal bit times (Table 16-7)? An
OFF controller sees no bus. -/
def recoveryRun (s : State) (i : Nat) : Bool :=
  s.rd (F.CAN_STAT_STATE i) == 3 && canMode s i != 0 && decide ((s.canSt i).recAt + 1408 * bitTicks s i ≤ s.now)

/-- RECOVERY_COMPLETE (R381, R382): error-active with both counters 0; HELD buffers are PENDING again. -/
def execRecoveryComplete (i : Fin 8) (s : State) : Res :=
  .next (if recoveryRun s i then
      let s := ((s.wr (F.CAN_STAT_STATE i) 0).wr (F.CAN_ECNT_TEC i) 0).wr (F.CAN_ECNT_REC i) 0
      let s := s.wr (F.CAN_STAT_EWARN i) 0
      let s := forN (fun b t => if bufState t i b == 6 then bufPut t i b 1 else t) 64 s
      gwService i (canSysRecord s i 0x13)
    else s)

/-- CAN_BUS_INTEGRATE (R379): 11 recessive bits; it ends a protocol exception too. -/
def execCanBusIntegrate (i : Fin 8) (s : State) : Res :=
  .next (if canMode s i == 0 then s else (s.wr (F.CAN_STAT_SYNCED i) 1).wr (F.CAN_STAT_PXE i) 0)

/-- BUS_DOM (R392): one record for each time the bus stays dominant. A controller in reset, and a transceiver without VIN,
see nothing. -/
def execBusDom (i : Fin 8) (e : DomEvent) (s : State) : Res :=
  .next (if windowDead s (F.CAN_STAT_BUS_DOM i).addr || canXcvr s i == 3 then s
    else match e with
    | .txPath => if canXcvr s i == 0 then s.wr (F.CAN_FLT_DOM_TMO i) 1 else s
    | .bus =>
      if s.rdB (F.CAN_STAT_BUS_DOM i) then s
      else canSysRecord ((s.wr (F.CAN_STAT_BUS_DOM i) 1).wr (F.CAN_FLT_BUS_DOM_SEEN i) 1) i 0x15
    | .recessive => s.wr (F.CAN_STAT_BUS_DOM i) 0)

/-! ## Receiving (R388, R389) -/

/-- Does element `e` of controller `i` accept a frame? -/
def elemMatch (s : State) (i : Nat) (f : CanFrame) (e : Nat) : Bool :=
  let fmt := s.rd (F.CAN_FE_CFG_FMT i e)
  s.rdB (F.CAN_FE_ID_EN i e) && s.rdB (F.CAN_FE_ID_IDE i e) == f.ide &&
    (s.rd (F.CAN_FE_ID_ID i e) ^^^ f.id) &&& s.rd (F.CAN_FE_MASK_MASK i e) == 0 &&
    (fmt == 0 || (fmt == 1 && !f.fdf) || (fmt == 2 && f.fdf))

/-- The receive packet of Table 16-5. -/
def rxPacket (i e : Nat) (f : CanFrame) (st : Stamp) : List Word :=
  [BitVec.ofNat 32 (canIdWord f),
   BitVec.ofNat 32 (f.dlc % 16 + 16 * f.fdf.toNat + 32 * f.brs.toNat + 64 * f.esi.toNat + 256 * e + 65536 * i),
   BitVec.ofNat 32 st.ang.cycle.toNat, BitVec.ofNat 32 st.ang.angle.toNat, BitVec.ofNat 32 st.pt.ns.toNat,
   BitVec.ofNat 32 st.pt.sec.toNat, BitVec.ofNat 32 (st.pt.sec.toNat / 2 ^ 32)] ++ toWords f.data

/-- Deliver a frame to the share of plot `p`: its lowest matching element decides. -/
def rxPlot (i : Nat) (f : CanFrame) (st : Stamp) (p : Nat) (s : State) : State :=
  let base := s.rd (F.CAN_PFLT_FBASE i p)
  match ((List.range (s.rd (F.CAN_PFLT_FCOUNT i p))).map (base + ·)).find? (elemMatch s i f) with
  | none => s
  | some e =>
    let s := s.incSat (F.CAN_FE_HITS_HITS i e)
    if s.rdB (F.CAN_FE_CFG_REJECT i e) then s
    else
      let q := s.rd (F.CAN_FE_CFG_QUEUE i e)
      let w := rxPacket i e f st
      let lost := !hwRoom s q w.length
      let s := hwPost s q w
      if lost then s.wr (F.CAN_FLT_RXOVR i) 1 else s

/-- REC after a valid received frame, as ISO 11898-1:2015 has it: one less, or from above 127 a value from 119 to 127,
which is free. -/
def rxCount (s : State) (i : Nat) : State :=
  let r := s.rd (F.CAN_ECNT_REC i)
  if !canCounts s i || r == 0 then s
  else if 127 < r then canCount s.took i (s.rd (F.CAN_ECNT_TEC i)) (119 + s.freeNat 8 % 9)
  else canCount s i (s.rd (F.CAN_ECNT_TEC i)) (r - 1)

/-- Is the frame the partner's trip or reset frame, which element 0 delivers to Pommel (R308)? -/
def isMirror (s : State) (i : Nat) (f : CanFrame) : Bool :=
  i == s.rd F.POM_CAN_CTRL && !f.ide && f.id == s.rd F.POM_CAN_PARTNER_ID

/-- CAN_FRAME_RX (R388): a valid frame, `back` ticks after its start of frame at the bus (R391). It crosses a GZ-1200
pair, reaches Pommel (`stuck`: SAFE-LS channels that fail the proof of R311), the signal gateway through elements 8 to 14, and the plots. -/
def execCanFrameRx (i : Fin 8) (f : CanFrame) (back : Nat) (stuck : BitVec 4) (s : State) : Res :=
  .next (if !canHears s i then s
    else
      let st := stampBack s back
      let s := rxCount (s.incSat (F.CAN_CNT_RX_OK i)) i
      let s := pairForward s i f
      let s := if isMirror s i f then
          mirrorResetRx (mirrorTrip (s.incSat (F.CAN_FE_HITS_HITS i 0)) f.data stuck) f.data
        else s
      let s := match [8, 9, 10, 11, 12, 13, 14].find? (elemMatch s i f) with
        | none => s
        | some e => gwSource (s.incSat (F.CAN_FE_HITS_HITS i e)) i f
      forN (rxPlot i f st) 8 s)

/-! ## Writes of the CAN window (R376, R377, R379, R383, R384, R396) -/

/-- The bit times that R376 asks for, of the words CAN_NBT and CAN_DBT. -/
def btOk (n d : Nat) : Bool :=
  let f := fun (w lo k : Nat) => w / 2 ^ lo % 2 ^ k + 1
  let s1 := f n 8 8
  let s2 := f n 16 7
  let d1 := f d 8 5
  let d2 := f d 16 4
  let nb := f n 0 8 * (1 + s1 + s2)
  let db := f d 0 5 * (1 + d1 + d2)
  decide (2 ≤ s1) && decide (f n 23 7 ≤ s2) && decide (f d 24 4 ≤ d2) && decide (80 ≤ nb) && decide (nb ≤ 8000) &&
    decide (10 ≤ db) && decide (db ≤ nb)

/-- Nominal bit time of a CAN_NBT word, in clocks. -/
def nbClocks (n : Nat) : Nat := (n % 256 + 1) * (3 + n / 256 % 256 + n / 65536 % 128)

/-- A write of CAN_CTL (R377, R379). -/
def canCtlWrite (s : State) (i v : Nat) : State :=
  let was := s.rd (F.CAN_CTL_FD_EN i) + 2 * s.rd (F.CAN_CTL_TRIPLE i) + 4 * s.rd (F.CAN_CTL_PXD i)
  let new := v / 4 % 8
  if was ≠ new ∧ s.rd (F.CAN_CTL_MODE i) ≠ 0 then s.status 0x0303
  else if v.testBit 3 && !s.rdB (F.CAN_CTL_TRIPLE i) && decide (nbClocks (s.readWord (0x20A00004 + 0x1000 * i)) < 640) then
    s.status 0x0302
  else (pairSync (canSync i (s.writeWord (0x20A00000 + 0x1000 * i) v))).status 0

/-- A write of CAN_NBT or CAN_DBT (R376, R377). -/
def canBtWrite (s : State) (i v : Nat) (nominal : Bool) : State :=
  let a := 0x20A00004 + 0x1000 * i
  let n := if nominal then v else s.readWord a
  let d := if nominal then s.readWord (a + 4) else v
  if s.rd (F.CAN_CTL_MODE i) ≠ 0 then s.status 0x0303
  else if !btOk n d then s.status 0x0302
  else if nominal && s.rdB (F.CAN_CTL_TRIPLE i) && decide (nbClocks n < 640) then s.status 0x0302
  else (s.writeWord (if nominal then a else a + 4) v).status 0

/-- Do two ranges given as base and count share a number? -/
def sharesMeet (a n b m : Nat) : Bool := n != 0 && m != 0 && decide (a < b + m) && decide (b < a + n)

/-- What is wrong with a CAN_PTX, CAN_PFLT or CAN_PID word of plot `p` (R383), `k` its register 0 to 3. -/
def canPartBad (s : State) (i p k v : Nat) : Bool :=
  let others := (List.range 8).filter (· != p)
  match k with
  | 0 =>
    let b := v % 64
    let n := v / 256 % 64
    let q := v / 65536 % 64
    (n != 0 && (decide (b < 8) || decide (64 < b + n))) || s.rd (F.Q_OWN_CONS q) != p && n != 0 ||
      others.any fun o => sharesMeet b n (s.rd (F.CAN_PTX_TXBASE i o)) (s.rd (F.CAN_PTX_TXCOUNT i o))
  | 1 =>
    let b := v % 128
    let n := v / 256 % 128
    (n != 0 && (decide (b < 16) || decide (128 < b + n))) ||
      others.any fun o => sharesMeet b n (s.rd (F.CAN_PFLT_FBASE i o)) (s.rd (F.CAN_PFLT_FCOUNT i o))
  | _ =>
    let lo := if k = 2 then v % 2 ^ 29 else s.rd (F.CAN_PID_LO_LO i p)
    let ide := if k = 2 then v.testBit 29 else s.rdB (F.CAN_PID_LO_IDE i p)
    let hi := if k = 3 then v % 2 ^ 29 else s.rd (F.CAN_PID_HI_HI i p)
    others.any fun o => s.rdB (F.CAN_PID_LO_IDE i o) == ide && decide (lo ≤ hi) &&
      decide (s.rd (F.CAN_PID_LO_LO i o) ≤ s.rd (F.CAN_PID_HI_HI i o)) && decide (lo ≤ s.rd (F.CAN_PID_HI_HI i o)) &&
      decide (s.rd (F.CAN_PID_LO_LO i o) ≤ hi)

/-- A write of a controller register or a partition register, `o` its offset in the controller's block. -/
def canRegWrite (s : State) (r : Req) (i o v : Nat) : State :=
  let a := 0x20A00000 + 0x1000 * i + o
  if 0x100 ≤ o then
    if r ≠ .supervisor then s.status 0x0207
    else if o < 0x180 ∧ canPartBad s i ((o - 0x100) / 16) (o / 4 % 4) v then s.status 0x0206
    else (s.writeWord a v).status 0
  else if !r.supOrStitch then s.status 0x0207
  else if o = 0 then canCtlWrite s i v
  else if o = 4 then canBtWrite s i v true
  else if o = 8 then canBtWrite s i v false
  else if o = 0x1C then
    if v % 4 = 1 then canRecover s i else if v % 4 = 2 then (canAbortAll s i).status 0 else s.status 0
  else (s.writeWord a v).status 0

/-- A write of filter element `e`, `k` its register 0 to 3 (R384, R388). -/
def canElemWrite (s : State) (r : Req) (i e k v : Nat) : State :=
  let bad : Bool := match r with
    | .plot p => s.rd (F.Q_OWN_CONS (v % 64)) != p.val
    | _ => false
  if !elemAllowed s r i e then s.status 0x0206
  else if k = 2 ∧ v / 256 % 4 = 3 then s.status 0x030B
  else if k = 2 ∧ bad then s.status 0x0206
  else (s.writeWord (0x20A10000 + 0x1000 * i + 0x10 * e + 4 * k) v).status 0

/-- A write of transmit buffer `b`, `o` its offset in the buffer (R384, R386). -/
def canBufWrite (s : State) (r : Req) (i b o v : Nat) : State :=
  let id := v % 2 ^ 29
  let ide := v.testBit 29
  let a := 0x20A20000 + 0x2000 * i + 0x80 * b + o
  if !bufAllowed s r i b then s.status 0x0206
  else if o = 8 then
    let s := if v.testBit 0 then bufRequest s i b else s.status 0
    if v.testBit 1 then bufAbortReq s i b else s
  else if o = 0xC then (s.writeWord a v).status 0
  else if bufBusy (bufState s i b) then s.status 0x0303
  else if o = 0 then
    match r with
    | .plot p =>
      if !inPlotIds s i p id ide || canSystemId s i id ide then s.status 0x0206 else (s.writeWord a v).status 0
    | _ => (s.writeWord a v).status 0
  else (s.writeWord a v).status 0

/-- Is an address one of a buffer or an element that is not the reading plot's (R384)? -/
def canForeign (s : State) (r : Req) (a : Nat) : Bool :=
  let o := a - 0x20A00000
  match r with
  | .plot _ =>
    if 0x10000 ≤ o ∧ o < 0x18000 then decide (o % 0x1000 < 0x800) && !elemAllowed s r (o / 0x1000 % 16) (o % 0x1000 / 16)
    else if 0x20000 ≤ o ∧ o < 0x30000 then !bufAllowed s r ((o - 0x20000) / 0x2000) (o % 0x2000 / 0x80)
    else false
  | _ => false

/-- A write of the CAN window below the network-sleep registers, `a` its address. -/
def canWrite (s : State) (r : Req) (a v : Nat) : State :=
  let o := a - 0x20A00000
  if o < 0x8000 then canRegWrite s r (o / 0x1000) (o % 0x1000) v
  else if 0x10000 ≤ o ∧ o < 0x18000 then
    if o % 0x1000 < 0x800 then canElemWrite s r (o / 0x1000 % 16) (o % 0x1000 / 16) (o / 4 % 4) v else s.status 0
  else if 0x20000 ≤ o ∧ o < 0x30000 then canBufWrite s r ((o - 0x20000) / 0x2000) (o % 0x2000 / 0x80) (o % 0x80) v
  else s.status 0

end Sys2Proof.Machine
end

