-- ==== Sys2Proof/Machine/PlantTime.lean ====
section
/-! DEFINITION. The commands of plant time, the Ethernet ports and the CAN reference frames (06_plant_time.md). -/

namespace Sys2Proof.Machine

/-! ## The servo (R147-R152) -/

/-- NOMINAL of R147 in 2^-32 ns per tick. -/
def ptNominal : Int := 0xC80000000

/-- Set PT_ADDEND = NOMINAL + r. -/
def ptRate (s : State) (r : Int) : State :=
  let a := (ptNominal + r).toNat
  let s := { s with pt := { s.pt with r := r } }
  (s.wr F.PT_ADDEND_INT_INT (a / 2 ^ 32)).wr F.PT_ADDEND_FRAC_FRAC a

/-- The integrator, 2^-32 ns per tick. -/
def ptI (s : State) : Int := s.rdI F.PT_RATE_I

/-- u of R151: the offset `o` (2^-16 ns) over `t` ticks, truncated towards zero as its worked figures show. -/
def ptU (o : Int) (t : Nat) : Int := -(Int.tdiv (o * 65536) t)

/-- An update that does not lead to a step (R151), and the state it leaves (Table 6-1). -/
def ptUpdate (s : State) (o : Int) : State :=
  let t := match s.pt.lastUpd with
    | none => 80000000
    | some l => s.now - l
  let u := ptU o t
  let m : Int := s.rd F.PT_MAX_ADJ_MAX
  let i := clampI (ptI s + u / 2 ^ s.rd F.PT_CTL_KI) (-m) m
  let r := clampI (i + u / 2 ^ s.rd F.PT_CTL_KP) (-m) m
  let inside := decide (|o| ≤ 65536 * (s.rd F.PT_LOCK_THR_THR : Int))
  let w := if inside then s.pt.within + 1 else 0
  let a := if inside then 0 else s.pt.above + 1
  let locked := s.rd F.PT_STAT_STATE == 2
  let st := if locked then (if 2 ≤ a then 1 else 2) else if 4 ≤ w then 2 else 1
  let s := (ptRate (s.wrI F.PT_RATE_I i) r).wr F.PT_STAT_STATE st
  { s with pt := { s.pt with lastUpd := some s.now, heldFrom := s.now, within := min w 4, above := min a 2 } }

/-- The nearest integer to o / 250,000 ns, ties towards zero (R154); `o` in 2^-16 ns. -/
def ptStepK (o : Int) : Int :=
  let d : Nat := 250000 * 65536
  let a := o.natAbs
  let q : Int := if d < 2 * (a % d) then (a / d + 1 : Nat) else (a / d : Nat)
  if o < 0 then -q else q

/-- Schedule a step by `k` sample periods (R154). -/
def ptStep (s : State) (k : Int) : State := State.wr { s with pt := { s.pt with stepK := k, heldFrom := s.now } } F.PT_STAT_STEPPING 1

/-- A write of PT_OFS_NS (R149-R151, R154): no object stands for it, so Stitch does not reach it. -/
def ptOffset (s : State) (r : Req) (v : Nat) : State :=
  if r ≠ .supervisor then s.status 0x0207
  else if !s.rdB F.PT_CTL_SERVO_EN || s.rdB F.PT_STAT_STEPPING then s.status 0
  else
    let s := s.wr F.PT_OFS_NS_NS v
    let o := toInt 32 v * 65536 + (s.rd F.PT_OFS_FRAC_FRAC : Int)
    let big := decide (65536 * (s.rd F.PT_STEP_THR_THR : Int) < |o|)
    if big && (s.rd F.PT_STAT_STATE == 0 || s.rdB F.PT_CTL_STEP_EN) then (ptStep s (ptStepK o)).status 0
    else (ptUpdate s o).status 0

/-- PT_OFFSET_UPDATE (R151). -/
def execPtOffsetUpdate (r : Req) (ns : Word) (s : State) : Res :=
  .next (hostWrite s r F.PT_OFS_NS_NS.addr (ptOffset s r ns.toNat))

/-- PERIOD in ns (Table 6-7). -/
def canrefPeriod (c : Nat) : Nat :=
  match c with
  | 0 => 100000000
  | 1 => 250000000
  | 2 => 500000000
  | 3 => 1000000000
  | 4 => 2000000000
  | 5 => 5000000000
  | _ => 10000000000

/-- Keep system slot 16 + i as PT_CANREF_CFG(i) directs (R130, R160): a launch of buffer 1 at the next whole
multiple of PERIOD. -/
def canrefSlot (i : Nat) (s : State) : State :=
  let per := canrefPeriod (s.rd (F.PT_CANREF_CFG_PERIOD i))
  let t := (s.ptNs / per + 1) * per
  let n := 16 + i
  let s := (s.wr (F.SLOT_CTL_EN n) (s.rd (F.PT_CANREF_CFG_EN i))).wr (F.SLOT_CTL_MODE n) 3
  let s := (s.wr (F.SLOT_CTL_ACTION n) 8).wr (F.SLOT_ARG_ARG n) (i + 256)
  let s := (s.wr (F.SLOT_PT_NS_NS n) (t % 1000000000)).wr (F.SLOT_PT_S_LO_S_LO n) (t / 1000000000)
  s.wr (F.SLOT_PT_S_HI_S_HI n) (t / 1000000000 / 2 ^ 32)

/-- The slots of the sample grid count from the next multiple of 250 µs (R130). -/
def gridSlots (s : State) : State := slotPeriodic (slotPeriodic s 0) 1

/-- After a step the system slots name their next targets in stepped time (R130, R160, Table 6-6). -/
def sysRearm (s : State) : State :=
  gridSlots (forN (fun i t => if t.rdB (F.PT_CANREF_CFG_EN i) then canrefSlot i t else t) 8 s)

/-- A system slot as the boot firmware loads it. -/
def sysLoad (s : State) (n mode act per : Nat) : State :=
  let s := ((s.wr (F.SLOT_CTL_EN n) 1).wr (F.SLOT_CTL_MODE n) mode).wr (F.SLOT_CTL_ACTION n) act
  s.wr (F.SLOT_PERIOD_PERIOD n) per

/-- The system slots at the start of plant time and Trellis (R130): sample trigger, decimation point, Tilth's boundary at angle
0, and the reference frames that the settings ask for. Which of slots 0-15 and 24-63 carry the first three is the model's
choice (log entry 33). -/
def sysSlots (s : State) : State :=
  sysRearm (sysLoad (sysLoad (sysLoad s 0 4 0x20 250000) 1 4 0x21 250000) 2 0 0x22 0)

/-- PT_STEP_APPLY (R154): at the end of the next trigger's tick k × 250 µs is subtracted; a forward step may
carry the plots' slots past their firing points (R135), the system's go on in stepped time (Table 6-6). -/
def ptStepApply (s : State) : State :=
  if !s.rdB F.PT_STAT_STEPPING || !gridTick s then s
  else
    let k := s.pt.stepK
    let n := (((s.ptNs : Int) - k * 250000) % (2 ^ 48 * 1000000000)).toNat
    let t := PTime.ofNs n
    let s := { s with pt := { s.pt with sec := t.sec, ns := t.ns, lastUpd := none, heldFrom := s.now, within := 0, above := 0,
                                        stepped := BitVec.allOnes 8, stepK := 0, stepSet := true } }
    let s := ((s.wr F.PT_STAT_STEPPING 0).incSat F.PT_STEP_CNT_CNT).wr F.PT_STAT_STATE 1
    let c := ofInt 64 k
    let s := (s.wr F.PT_LAST_STEP_LO_K_LO c).wr F.PT_LAST_STEP_HI_K_HI (c / 2 ^ 32)
    sysRearm (if k < 0 then forN (fun n t => if n < 64 then t else slotCatch n t) 1024 s else s)

/-- PT_STEP_APPLY (R154). -/
def execPtStepApply (s : State) : Res := .next (ptStepApply s)

/-- A write of GO (R155): the step towards PT_SET, whatever its size. -/
def ptSetGo (s : State) (r : Req) : State :=
  if r ≠ .supervisor then s.status 0x0207
  else if s.rdB F.PT_STAT_STEPPING || !(s.rd F.PT_STAT_STATE == 0 || s.rdB F.PT_CTL_STEP_EN) then s.status 0x0303
  else
    let set : Nat := (s.rd F.PT_SET_S_LO_S_LO + 2 ^ 32 * s.rd F.PT_SET_S_HI_S_HI) * 1000000000 + s.rd F.PT_SET_NS_NS
    (ptStep s (ptStepK (((s.ptNs : Int) - (set : Int)) * 65536))).status 0

/-- PT_SET_GO (R155). -/
def execPtSetGo (r : Req) (s : State) : Res := .next (hostWrite s r F.PT_SET_CMD_GO.addr (ptSetGo s r))

/-- PT_HOLDOVER_TIMEOUT (R152): for PT_HO_TMO ms (0 as 1) no update has been accepted, and HOLDOVER runs at NOMINAL + i. An
update of the same tick goes first, whether or not it leads to a step, and no holdover is entered (Table 6-6). In LOCKING
after a step the time counts from the step (DESIGN CHOICE, log entry 65). -/
def execPtHoldoverTimeout (s : State) : Res :=
  let st := s.rd F.PT_STAT_STATE
  .next (if (st == 1 || st == 2) && decide (s.pt.heldFrom + 80000 * max 1 (s.rd F.PT_HO_TMO_TMO) ≤ s.now) then
      let s := ptRate (s.wr F.PT_STAT_STATE 3) (ptI s)
      { s with pt := { s.pt with lastUpd := none, within := 0, above := 0 } }
    else s)

/-- Plant time starts (R148): at 0 s in FREERUN after a cold start; else seeded from the AON time keeper, in
HOLDOVER unless the kept state was FREERUN. The seed errs by a free amount within one XO period, either way; what the time
keeper's rate adds to that is none here, since it counts the ticks that `now` counts (log entry 65). -/
def ptStart (s : State) : State :=
  let a := s.aon
  let s := { s with pt := { s.pt with running := true } }
  if a.valid then
    let f := (a.sec.toNat * 1000000000 + a.ns.toNat) * 2 ^ 32 + a.ptFrac.toNat + (s.now - a.at_) * a.addend
    let f := f + s.freeNat 40 % (80 * 2 ^ 32 + 1) - 40 * 2 ^ 32
    let t := PTime.ofNs (f / 2 ^ 32)
    let s := { s.took with pt := { s.pt with sec := t.sec, ns := t.ns, frac := BitVec.ofNat 32 f } }
    let s := s.wr F.PT_STAT_SEEDED 1
    if a.ptState = 0 then ptRate s 0
    else
      let s := (s.wr F.PT_RATE_I a.rate).wr F.PT_STAT_STATE 3
      ptRate s (ptI s)
  else s

/-- A read of PT_NOW_NS latches the seconds (R165). -/
def ptNowRead (s : State) : State :=
  let s := (s.wr F.PT_NOW_NS_NS s.pt.ns.toNat).wr F.PT_NOW_S_LO_S_LO s.pt.sec.toNat
  (s.wr F.PT_NOW_S_HI_S_HI (s.pt.sec.toNat / 2 ^ 32)).answer 0 s.pt.ns.toNat

/-- PT_NOW_READ (R165). -/
def execPtNowRead (s : State) : Res :=
  .next (if windowDead s F.PT_NOW_NS_NS.addr then s.status 0x0610 else ptNowRead s)

/-! ## CAN reference frames (R160-R162) -/

/-- A reference frame of controller `i`. -/
def canrefFrame (s : State) (i : Nat) (data : List Byte) : CanFrame :=
  { id := s.rd (F.PT_CANREF_ID_ID i), ide := s.rdB (F.PT_CANREF_CFG_IDE i), fdf := true,
    brs := s.rdB (F.PT_CANREF_CFG_BRS i), dlc := dlcFor data.length, data := data }

/-- May controller `i` send reference frames now (R160)? -/
def canrefOn (s : State) (i : Nat) : Bool :=
  let st := s.rd F.PT_STAT_STATE
  s.rdB (F.PT_CANREF_CFG_EN i) && (st == 2 || st == 3 || s.rdB (F.PT_CANREF_CFG_FREERUN_TX i))

/-- CANREF_SYNC (R160-R162): at a multiple of PERIOD; a SYNC still unsent is aborted and counted, SEQ advances in
any case. -/
def execCanrefSync (i : Fin 8) (s : State) : Res :=
  if !s.rdB (F.PT_CANREF_CFG_EN i) then .next s
  else
    let b := BitVec.ofNat 8 (2 ^ i.val)
    let unsent := s.pt.syncPend &&& b != 0
    let s := if unsent then canSystemAbort (s.incSat (F.PT_CANREF_STAT_MISSED i)) i 1 else s
    let s := s.incWrap (F.PT_CANREF_STAT_SEQ i)
    let s := canrefSlot i { s with pt := { s.pt with syncPend := s.pt.syncPend &&& ~~~b } }
    .next (if canrefOn s i then
        let s := canSystem s i 1 (canrefFrame s i (le 1 (0x10 + s.rd (F.PT_CANREF_STAT_SEQ i.val))))
        { s with pt := { s.pt with syncPend := s.pt.syncPend ||| b } }
      else s)

/-- The FUP of controller `i`, which carries the SYNC's stamp (Table 6-4). -/
def fupFrame (s : State) (i : Nat) : CanFrame :=
  let st := s.pt.syncStamp.get i {}
  let fl := s.rd F.PT_STAT_STATE + (if s.pt.stepped.getLsbD i then 4 else 0) + 8 * s.rd F.TRL_STAT_LOCK +
    16 * s.rd F.TRL_STAT_HOLDOVER
  canrefFrame s i (le 1 (0x20 + s.rd (F.PT_CANREF_STAT_SEQ i)) ++ le 1 fl ++ le 6 st.pt.sec.toNat ++ le 4 st.pt.ns.toNat ++
    st.ang.bytes ++ le 4 (s.rd F.TRL_FREQ_FREQ))

/-- CANREF_FUP (R160-R162): the SYNC has been acknowledged, and FUP goes to its buffer. In a state in which no frame may be
sent it is withheld, and counts as unsent at its limit (DESIGN CHOICE, log entry 66). -/
def execCanrefFup (i : Fin 8) (s : State) : Res :=
  let b := BitVec.ofNat 8 (2 ^ i.val)
  if s.pt.syncAcked &&& b == 0 then .next s
  else
    let t := { s with pt := { s.pt with syncAcked := s.pt.syncAcked &&& ~~~b } }
    .next (if !canrefOn s i then t
      else canSystem { t with pt := { t.pt with stepped := t.pt.stepped &&& ~~~b } } i 2 (fupFrame s i))

/-- CANREF_FUP_ABORT (R162): 10 ms after the SYNC its FUP is still unsent. While the SYNC itself is unsent there is no FUP, and
the SYNC's own abort at the next period alone counts (log entry 66). -/
def execCanrefFupAbort (i : Fin 8) (s : State) : Res :=
  .next (if decide (s.pt.fupAt.get i s.now + 800000 ≤ s.now) then fupDrop s i else s)

/-! ## Ethernet (R156-R159) -/

/-- Big-endian 16-bit field at byte `i`. -/
def beHalf (b : List Byte) (i : Nat) : Nat := 256 * byteNat b i + byteNat b (i + 1)

/-- Is a frame a PTP event message (R156): Ethertype 0x88F7 with an event type, or UDP to port 319 over IPv4 or
IPv6, with one VLAN tag or none? -/
def isPtpEvent (b : List Byte) : Bool :=
  let o := if beHalf b 12 = 0x8100 then 16 else 12
  let e := beHalf b o
  let p := o + 2
  if e = 0x88F7 then decide (byteNat b p % 16 < 4)
  else if e = 0x0800 then byteNat b (p + 9) == 17 && beHalf b (p + 4 * (byteNat b p % 16) + 2) == 319
  else if e = 0x86DD then byteNat b (p + 6) == 17 && beHalf b (p + 42) == 319
  else false

/-- ETH_FRAME_RX (R157, R158): a frame at port `p`, with the check of its frame check sequence, and SUB of its
timestamp point. -/
def execEthFrameRx (p : Fin 2) (frame : List Byte) (fcsOk : Bool) (sub : Fin 40) (s : State) : Res :=
  let ptp := isPtpEvent frame
  let ts := ptp || s.rdB (F.ETH_CTL_RX_TS_ALL p.val)
  let st := s.stamp.pt
  let w := if ts then [BitVec.ofNat 32 st.sec.toNat, BitVec.ofNat 32 (st.sec.toNat / 2 ^ 32 + 65536 * sub.val),
      BitVec.ofNat 32 st.ns.toNat] else [0, 0, 0]
  .next (if !s.rdB (F.ETH_CTL_EN p) || !s.rdB (F.ETH_STAT_LINK p) || !fcsOk then s
    else hwPost s (s.rd (F.ETH_QUEUES_RXQ p))
      ([BitVec.ofNat 32 (frame.length % 65536 + 65536 * ts.toNat + 131072 * ptp.toNat)] ++ w ++ toWords frame))

/-- The transmit packet at the head of a port's queue, and the queue without it. -/
def ethHead (s : State) (p : Nat) : Option (List Nat × State) :=
  let q := s.rd (F.ETH_QUEUES_TXQ p)
  match (s.queue q).next with
  | none => none
  | some (pk, x) => some (pk.words.map (·.data.toNat), furSync (s.setQueue q x) q)

/-- The bytes of words, least significant first. -/
def wordBytes (ws : List Nat) : List Byte := (ws.map (le 4)).flatten

/-- Send a transmit packet whose frame follows `h` header words: the frame leaves, and with TS_REQ its stamp and
TAG enter the FIFO of 16 (R158). -/
def ethSend (s : State) (p h sub : Nat) (ws : List Nat) : State :=
  let w0 := ws.headD 0
  let s := s.emit (.eth p ((wordBytes (ws.drop h)).take (w0 % 65536)) s.stamp)
  if w0.testBit 16 then
    let e : TxTs := ⟨s.stamp.pt, sub, w0 / 2 ^ 24⟩
    let l := if p = 0 then s.pt.txts0 else s.pt.txts1
    if 16 ≤ l.length then s.incSat (F.ETH_TS_STAT_TXTS_LOST p)
    else if p = 0 then { s with pt := { s.pt with txts0 := l ++ [e] } }
    else { s with pt := { s.pt with txts1 := l ++ [e] } }
  else s

/-- Does a transmit packet carry LAUNCH? -/
def ethLaunches (ws : List Nat) : Bool := (ws.headD 0).testBit 17

/-- ETH_FRAME_TX (R158): the packet at the head is sent, unless it waits for its launch time. -/
def execEthFrameTx (p : Fin 2) (sub : Fin 40) (s : State) : Res :=
  .next (if !s.rdB (F.ETH_CTL_EN p) || !s.rdB (F.ETH_STAT_LINK p) then s
    else match ethHead s p with
      | none => s
      | some (ws, t) => if ethLaunches ws then s else ethSend t p 1 sub ws)

/-- ETH_LAUNCH (R159): the launch time of the frame at the head comes, within one tick, lies too far ahead, or
has passed; else the frame waits. -/
def execEthLaunch (p : Fin 2) (sub : Fin 40) (s : State) : Res :=
  .next (if !s.rdB (F.ETH_CTL_EN p) || !s.rdB (F.ETH_STAT_LINK p) then s
    else match ethHead s p with
      | none => s
      | some (ws, t) =>
        if !ethLaunches ws then s
        else
          let at_ := (ws.getD 1 0 + 2 ^ 32 * (ws.getD 2 0 % 65536)) * 1000000000 + ws.getD 3 0 % 2 ^ 30
          if s.ptNs + 1000000 * s.rd (F.ETH_LAUNCH_MAX_MAX p) < at_ then t.incSat (F.ETH_TS_STAT_DROP_CNT p)
          else if at_ + 13 < s.ptNs then
            (if s.rdB (F.ETH_CTL_LATE_DROP p) then t.incSat (F.ETH_TS_STAT_DROP_CNT p)
             else ethSend (t.incSat (F.ETH_TS_STAT_LATE_CNT p)) p 4 sub ws)
          else if s.ptNs + 13 < at_ then s
          else ethSend t p 4 sub ws)

/-- A read of ETH_TXTS_NS: the head entry is returned, its other words latched, and it is removed (R166). -/
def ethTxtsRead (s : State) (p : Nat) : State :=
  match if p = 0 then s.pt.txts0 else s.pt.txts1 with
  | [] => ((s.wr (F.ETH_TXTS_NS_NS p) 0).wr (F.ETH_TXTS_NS_VALID p) 0).answer 0 0
  | e :: r =>
    let s := (s.wr (F.ETH_TXTS_NS_NS p) e.pt.ns.toNat).wr (F.ETH_TXTS_NS_VALID p) 1
    let s := (s.wr (F.ETH_TXTS_S_LO_S_LO p) e.pt.sec.toNat).wr (F.ETH_TXTS_HI_S_HI p) (e.pt.sec.toNat / 2 ^ 32)
    let s := (s.wr (F.ETH_TXTS_HI_SUB p) e.sub).wr (F.ETH_TXTS_HI_TAG p) e.tag
    let s := if p = 0 then { s with pt := { s.pt with txts0 := r } } else { s with pt := { s.pt with txts1 := r } }
    s.answer 0 (e.pt.ns.toNat + 2 ^ 31)

/-- ETH_TXTS_READ (R166). -/
def execEthTxtsRead (p : Fin 2) (s : State) : Res :=
  .next (if windowDead s (F.ETH_TXTS_NS_NS p).addr then s.status 0x0610 else ethTxtsRead s p)

/-- ETH_LINK_UP (R159); a port's link is idle in SEATING and DORMANCY (Table 2-6). -/
def execEthLinkUp (p : Fin 2) (s : State) : Res :=
  .next (if s.mode == mSEATING || s.mode == mDORMANCY then s else (serdesBack s).wr (F.ETH_STAT_LINK p) 1)

/-- ETH_LINK_DOWN (R159). -/
def execEthLinkDown (p : Fin 2) (s : State) : Res := .next (s.wr (F.ETH_STAT_LINK p) 0)

/-- The 48 bytes of the module's angle reference message (Table 5-1). -/
def netPayload (s : State) : List Byte :=
  let st := s.stamp
  let fl := s.rd F.TRL_STAT_LOCK + 2 * s.rd F.TRL_STAT_HOLDOVER + 4 * s.rd F.TRL_CTL_REF_PH + 16 * s.rd F.TRL_STAT_ROT_ACB
  le 1 1 ++ le 1 fl ++ le 2 0 ++ st.ang.bytes ++ st.pt.bytes ++ le 2 0 ++ le 4 (s.rd F.TRL_FREQ_FREQ) ++
    le 4 (s.rd F.TRL_ROCOF_ROCOF) ++ le 4 (s.rd (F.ID_DIGEST_DATA 0)) ++ le 4 (s.rd (F.ID_DIGEST_DATA 1)) ++
    le 4 s.trl.netSeq ++ le 4 0

/-- NETREF_SEND (R119, R159): every PERIOD ms (0 as 1) while NET_TX is set and the source is GRID in lock, under a key that
R502 lets the sender use; to the group of object 0x4002:05, on ETH0, or on ETH1 while ETH0 has no link. -/
def execNetrefSend (s : State) : Res :=
  let due := match s.trl.netAt with
    | some t => decide (t + 80000 * max 1 (s.rd F.TRL_NET_CFG_PERIOD) ≤ s.now)
    | none => true
  .next (if s.rdB F.TRL_CTL_NET_TX && s.rd F.TRL_STAT_SRC_ACT == 1 && s.rdB F.TRL_STAT_LOCK && due then
      match keyFor s (s.rd F.TRL_NET_KEY_KEYSLOT) useNetref with
      | none => s
      | some key =>
        let p := netPayload s
        let tag := Config.gcmTag key ((p.drop 32).take 12) p
        let port := if s.rdB (F.ETH_STAT_LINK 0) then 0 else 1
        let group := s.objBytes.get (objKey 0x4002 5) (asciiBytes "ff15::47:662")
        let s := s.emit (.netRef port group 47662 (p ++ le 16 tag.toNat) s.stamp)
        { s with trl := { s.trl with netSeq := (s.trl.netSeq + 1) % 2 ^ 32, netAt := some s.now } }
    else s)

/-! ## Register writes (R149, R154, R155, R165) -/

/-- Has the register at `a` of the plant-time window an object in Table 6-9? -/
def ptObject (a : Nat) : Bool :=
  a == 0x20100000 || (decide (0x2010001C ≤ a) && decide (a < 0x2010002C)) || (decide (0x20100100 ≤ a) && a % 16 != 8)

/-- A write of a register of the plant-time window (R149): the supervisor partition reaches all of it, the Stitch endpoint what
has an object. -/
def ptWrite (s : State) (r : Req) (a v : Nat) : State :=
  if r ≠ .supervisor && !(r.isStitch && ptObject a) then s.status 0x0207
  else if a = 0x2010000C then ptOffset s r v
  else if a = 0x2010004C then (if v % 2 = 1 then ptSetGo s r else s.status 0)
  else if a = 0x20100040 ∧ 999999999 < v then s.status 0x0301
  else if a = 0x2010001C then (s.hostWr F.PT_MAX_ADJ_MAX (min v 0x03333333)).status 0
  else if a = 0x20100020 then (s.hostWr F.PT_STEP_THR_THR (max v 125000)).status 0
  else if 0x20100100 ≤ a ∧ a < 0x20100180 ∧ a % 16 = 0 then
    let i := (a - 0x20100100) / 16
    if v / 16 % 8 = 7 then s.status 0x030B else (canrefSlot i (s.writeWord a v)).status 0
  else (s.writeWord a v).status 0

/-- A write of the Ethernet window: only the supervisor partition (R149). -/
def ethWrite (s : State) (r : Req) (a v : Nat) : State :=
  if r ≠ .supervisor then s.status 0x0207 else (s.writeWord a v).status 0

end Sys2Proof.Machine
end

