-- ==== Sys2Proof/Machine/Retain.lean ====
section
/-! DEFINITION. What DORMANCY keeps in the DRAM retention area, and its reload (R92, R200, R538, Table 3-13). -/

namespace Sys2Proof.Machine

/-- The rails and the clocks that stay in window: bits of IN_WIN and of CLK_STAT. -/
def railsTo (s : State) (win clk : Nat) : State :=
  let s := (s.wr F.RAIL_STAT_IN_WIN win).wr F.RAIL_STAT_WARN 0
  let s := ((s.wr F.CLK_STAT_XO_OK clk).wr F.CLK_STAT_PLL_A_LOCK (clk / 2)).wr F.CLK_STAT_PLL_S_LOCK (clk / 4)
  ((s.wr F.CLK_STAT_PLL_C_LOCK (clk / 8)).wr F.CLK_STAT_PLL_D_LOCK (clk / 16)).wr F.CLK_STAT_SERDES_LOCK (clk / 32)

/-! ## The retention area (R538) -/

/-- Windows of the SAFE and CORE domains whose configuration is retained. -/
def retainWindows : List (Nat × Nat) :=
  [(0x20000000, 0x20800000), (0x20900000, 0x20E00000), (0x20F00000, 0x21300000)]

/-- Windows that are retained whole: the ring engines, the plot controller, Cloche, Graft and identity. -/
def retainWhole : List (Nat × Nat) :=
  [(0x20200000, 0x20300000), (0x20C00000, 0x20E00000), (0x21100000, 0x21300000)]

/-- Fields outside them that no host writes and that belong to what was loaded, measured or checked. -/
def retainFields : List Nat :=
  [F.TIL_UC_ADDR_ADDR.key, F.TIL_UC_CRC_CRC.key, F.TIL_UC_CTL_REV.key, F.LS_PVALID_VALID.key] ++
    ((List.range 24).map fun n => (F.LS_STAT_MEMBER n).key) ++ ((List.range 32).map fun n => (F.DIO_STAT_MEMBER n).key) ++
    ((List.range 16).flatMap fun e => [(F.POW_CNT_OP_CNT e).key, (F.POW_CNT_REL_CNT e).key, (F.POW_LAST_ERR_ERR e).key]) ++
    ((List.range 4).flatMap fun m =>
      [(F.MSR_LSTAT_UNCAL m).key, (F.MSR_UID_LO_UID_LO m).key, (F.MSR_UID_HI_UID_HI m).key, (F.MSR_DLY_D m).key]) ++
    ((List.range 2).flatMap fun p => [(F.ETH_MAC_LO_MAC_LO p).key, (F.ETH_MAC_HI_MAC_HI p).key])

/-- Requests and consents, which software gives again. -/
def requestFields : List Nat :=
  ((List.range 24).map fun n => (F.LS_REQ_ON n).key) ++ ((List.range 32).map fun n => (F.DIO_REQ_ON n).key) ++
    ((List.range 8).map fun p => (F.NS_CONSENT_CONSENT p).key)

/-- Is the register field under a key retained? -/
def retains (key : Nat) : Bool :=
  let a := key / 32
  let inside := fun (l : List (Nat × Nat)) => l.any fun w => decide (w.1 ≤ a) && decide (a < w.2)
  let rw := (fieldsAt a).any fun f => f.lo == key % 32 && f.acc == .rw
  inside retainWindows && !requestFields.contains key && (rw || inside retainWhole || retainFields.contains key)

/-- What entry keeps. -/
def retainOf (s : State) : Retain :=
  { regs := s.regs.filter fun (e : Nat × Nat) => retains e.1
    uc := s.til.uc, lat := s.lat.rings, pc := s.pc, gw := s.gw }

/-! ## Reload -/

/-- A configuration field as the dies hold it in DORMANCY. -/
def dormRd (s : State) (f : Field) : Nat :=
  match s.retain with
  | some r => r.regs.get f.key f.rst
  | none => s.rd f

/-- A ring engine goes on where it stopped, without a new listen; each node's UID is read again (R200). -/
def latResume (c : Nat) (s : State) : State :=
  let s := (((s.wr (F.LAT_RSTAT_LINK_A c) 0).wr (F.LAT_RSTAT_LINK_B c) 0).wr (F.LAT_RSTAT_TRIG_A c) 0).wr (F.LAT_RSTAT_TRIG_B c) 0
  let s := (s.wr (F.LAT_RSTAT_BREAK c) 0).wr (F.LAT_RSTAT_ENUM_BUSY c) 0
  let x := s.ring c
  let s := s.setRing c { wired := x.wired, rtt := x.rtt, ta := x.ta, compSum := x.compSum, comp := x.comp, enumA := x.enumA
                         enumB := x.enumB, histA := [latReach x false], histB := [latReach x true], startAt := s.now }
  let s := forN (latDescribeNode c) 24 s
  latDegrade (latShow s c) c

/-- The retained registers come back. -/
def retainLoad (s : State) (r : Retain) : State :=
  let kept := r.regs.filter fun (e : Nat × Nat) => retains e.1
  { s with regs := kept.foldl (fun (m : SMap Nat) (e : Nat × Nat) => SMap.set m e.1 e.2) s.regs, retain := none }

/-- What the retention area held is loaded again, and the engines start. Tilth's parameters are kept only to the CORE reset
(R270), so that a retained EN of Tilth is refused as R266 says. -/
def wakeReload (s : State) (r : Retain) : State :=
  let s := retainLoad s r
  let t : TilSt := { uc := r.uc, crc := s.rd F.TIL_UC_CRC_CRC ^^^ 0xFFFFFFFF }
  let l : LatSt := { running := true, rings := r.lat }
  let g := { s.girth with safeReset := false, coreReset := false, xlLost := s.girth.spanMember }
  let s := { s with til := t, lat := l, msr := { s.msr with running := true }, pc := r.pc, gw := r.gw, girth := g }
  let s := ((railsTo s 63 63).wr F.BLK_RST_STAT_BUSY 0).wr F.XING_STAT_SERVICE 1
  let s := (s.wr F.TIL_UC_CTL_LOCK 1).wr F.TIL_STAT_UC_LOCKED 1
  let s := (s.wr F.LAT_SUM_BREAK 0).wr F.LAT_SUM_TRIG 0
  let s := pairSync (forN (fun q t => furSync t q) 64 (forN latResume 12 s))
  let s := if s.rdB F.CAP_CTL_EN then capRestart s else s
  let s := if s.rdB F.TIL_CTL_EN && !tilRegionsOk s then (s.wr F.TIL_CTL_EN 0).wr F.TIL_FLT_CFG_ERR 1 else s
  let s := forN (fun n t => lsFltSync t n) 24 s
  tilDegrade (pomStart (sysSlots (ptStart (trlStart s))))

end Sys2Proof.Machine
end

