-- ==== Sys2Proof/Machine/Cloche.lean ====
section
/-! DEFINITION. Cloche (21_cloche_security.md): keys and their use, counters, lifecycle, debug levels, tamper. -/

namespace Sys2Proof.Machine

/-! ## Identity and lifecycle (R493, R494, R509) -/

/-- The 48 bytes of SHA-384, most significant first. -/
def digestBytes (b : List Byte) : List Byte := (le 48 (Config.sha384 b).toNat).reverse

/-- The device identity digest (R494). -/
def idDigest (s : State) : List Byte := digestBytes s.clo.ident

/-- Lifecycle states (R509). -/
def lcBlank : Nat := 0
def lcProvisioned : Nat := 1
def lcFielded : Nat := 2
def lcRetired : Nat := 3

/-- The lifecycle state of the blown fuses, and the generation. -/
def lcState (s : State) : Nat := s.clo.fuses % 4
def lcGen (s : State) : Nat := s.clo.fuses / 4

/-- PROVISIONED or FIELDED: keys exist and a tamper causes QUARANTINE. -/
def lcKeyed (s : State) : Bool := lcState s == lcProvisioned || lcState s == lcFielded

/-- LC_STAT shows the fuses and the helper data (R526). -/
def lcSync (s : State) : State :=
  let s := ((s.wr F.LC_STAT_STATE (lcState s)).wr F.LC_STAT_GEN (lcGen s)).wr F.LC_STAT_FUSES s.clo.fuses
  s.wrB F.LC_STAT_ENROLLED s.clo.enrolled

/-- The identity registers as the boot ROM loads them (R526). -/
def idLoad (s : State) : State :=
  let recs := toWords s.clo.ident
  let dig := toWords (idDigest s)
  let s := forN (fun w t => t.wr (F.ID_REC_DATA w) (recs.getD w 0).toNat) 24 s
  lcSync (forN (fun w t => t.wr (F.ID_DIGEST_DATA w) (dig.getD w 0).toNat) 12 s)

/-- ETH_MAC of both ports from the identity data (R166): which of its bytes they are no rule says, a free value (log entry 67). -/
def macLoad (s : State) : State :=
  let m := fun (p : Nat) => (Config.macOf s.clo.ident p).toNat
  forN (fun p t => (t.wr (F.ETH_MAC_LO_MAC_LO p) (m p)).wr (F.ETH_MAC_HI_MAC_HI p) (m p / 2 ^ 32)) 2 s

/-! ## The root and the wrap key (R497, R500) -/

/-- RT (R497): the first 32 bytes of SHA-384 over "cloche root", GEN and the information bits. -/
def rootOf (s : State) : List Byte := (digestBytes (asciiBytes "cloche root" ++ le 1 (lcGen s) ++ s.clo.info)).take 32

/-- KW (R500): HKDF-SHA-384 of RT, with the identity digest as salt and "cloche wrap v1" and GEN as info; without RT there is
none. -/
def wrapKey (s : State) : Option (BitVec 256) :=
  s.clo.root.map fun rt => Config.hkdf rt (idDigest s) (asciiBytes "cloche wrap v1" ++ le 1 (lcGen s))

/-! ## Key slots (R501, R503) -/

/-- A slot's registers show what it holds (R525). -/
def slotSync (slot : Nat) (s : State) : State :=
  match s.clo.keys.find? slot with
  | some k =>
    let s := ((s.wr (F.CLO_SLOT_LOADED slot) 1).wr (F.CLO_SLOT_TYPE slot) k.type).wr (F.CLO_SLOT_USES slot) k.uses
    let s := (s.wr (F.CLO_SLOT_PLOT slot) (if k.plot < 8 then k.plot else 0xF)).wr (F.CLO_SLOT_ROLES slot) k.roles
    s.wr (F.CLO_SLOT_VER_VERSION slot) k.version
  | none => s.resetRegs (F.CLO_SLOT_LOADED slot).addr ((F.CLO_SLOT_LOADED slot).addr + 8)

/-- Load a slot from a blob; a blob of TYPE 0 erases it (R503). -/
def loadSlot (s : State) (b : KeyBlob) : State :=
  let keys := if b.type = 0 then SMap.dropRange s.clo.keys b.slot (b.slot + 1) else s.clo.keys.set b.slot b
  slotSync b.slot { s with clo := { s.clo with keys := keys } }

/-- At BOOT each empty slot is loaded from its latest committed blob, which unwraps only under the KW that sealed it; without
the root none is loaded (R499, R500, R503). -/
def loadSlots (s : State) : State :=
  if lcKeyed s then
    s.clo.journal.foldl (fun t e =>
      if (t.clo.keys.find? e.1).isSome || wrapKey s != some e.2.kw then t else loadSlot t e.2) s
  else s

/-- Empty every slot. -/
def zeroSlots (s : State) : State := forN slotSync 32 { s with clo := { s.clo with keys := [] } }

/-- Append records to the journal's current half; at three quarters full the slot set moves to the other half (R507). -/
def journalAppend (s : State) (n : Nat) : State :=
  let r := s.clo.records + n
  { s with clo := { s.clo with records := if 768 ≤ r then s.clo.journal.length + 1 else r } }

/-- Commit a blob, sealed under KW: it becomes its slot's latest (R503, R506). -/
def journalPut (s : State) (b : KeyBlob) : State :=
  let b := { b with kw := (wrapKey s).getD 0 }
  let j := if b.type = 0 then SMap.dropRange s.clo.journal b.slot (b.slot + 1) else s.clo.journal.set b.slot b
  { s with clo := { s.clo with journal := j } }

/-- Close the sessions for which `p` holds, with what they wait for (R444). -/
def closeSessions (s : State) (p : Nat → Session → Bool) : State :=
  let gone := (s.ses.sessions.filter fun e => p e.1 e.2).map (·.1)
  { s with ses := { s.ses with
      sessions := s.ses.sessions.filter fun e => !gone.contains e.1
      forwards := s.ses.forwards.filter fun f => !gone.contains f.session } }

/-! ## Debug level (R512-R515) -/

/-- The level returns to SEALED and halted harts resume (R515). -/
def debugSeal (s : State) : State :=
  let s := (s.wr F.CLO_STAT_DEBUG 0).wr F.CLO_STAT_DBG_PLOTS 0
  { s with clo := { s.clo with notAfter := none } }

/-- A plot that leaves the module drops out of the scope (R515). -/
def debugDrop (s : State) (p : Nat) : State := s.clrBit F.CLO_STAT_DBG_PLOTS p

/-- Why level 1 or 2 cannot be opened in the present lifecycle state and mode (Table 21-11, R514). -/
def debugRefusal (s : State) (level : Nat) : Option Nat :=
  let lc := lcState s
  let m := s.mode
  let exists_ := if level = 1 then lcKeyed s else !(lc == lcProvisioned)
  if !exists_ then some 0x0506
  else if m == mQUARANTINE then some 0x0509
  else if m == mSEATING || m == mBOOT then some 0x0505
  else if level = 1 then (if m == mDORMANCY then some 0x0505 else none)
  else if lc == lcFielded then
    let owns := s.girth.ownLs != 0 || s.girth.ownDio != 0
    if m != mSERVICE || owns || s.rd F.POM_STAT_SLS_ON != 0 || s.rdB F.POM_STAT_ARM then some 0x0303 else none
  else if m == mRUN || m == mDORMANCY then some 0x0505
  else none

/-! ## Counters (R504) -/

/-- Counter `i`. -/
def cloCtr (s : State) (i : Nat) : Nat := s.clo.ctrs.get i 0

/-- Write a counter up to `v`, in flash and in its register; counter 2 advancing closes the debug port (R515). -/
def ctrSet (s : State) (i v : Nat) : State :=
  let s := State.wr { s with clo := { s.clo with ctrs := s.clo.ctrs.set i v } } (F.CLO_CTR_VALUE i) v
  if i = 2 then debugSeal s else s

/-- A command increment (R504, R525); no page is programmed while HOLDUP_OK is clear (R75; log entry 68). -/
def ctrIncrement (s : State) (r : Req) (i : Nat) : State :=
  let may := match r with | .supervisor => true | .stitch _ _ sec => sec | _ => false
  if !may || !(i == 2 || (decide (4 ≤ i) && decide (i < 8))) then s.status 0x0207
  else if 0xFFFFFFFF ≤ cloCtr s i then s.status 0x0301
  else if !flashOk s then s.status 0x0303
  else (ctrSet s i (cloCtr s i + 1)).status 0

/-- COUNTER_INCREMENT (R504). -/
def execCounterIncrement (r : Req) (i : Fin 8) (s : State) : Res :=
  .next (hostWrite s r F.CLO_CTR_INC_IDX.addr (ctrIncrement s r i))

/-! ## Tamper (R517-R522) -/

/-- A tamper log entry (Table 21-15). -/
def tamperEntry (s : State) (source detail flags : Nat) : List Byte :=
  [BitVec.ofNat 8 source, BitVec.ofNat 8 s.mode, BitVec.ofNat 8 s.clo.fuses, BitVec.ofNat 8 flags] ++ s.stamp.ang.bytes ++
    s.stamp.pt.bytes ++ le 2 detail ++ List.replicate 8 0

/-- Set a bit in the FLAGS of the log entries for which `p` holds. -/
def logMark (s : State) (bit : Nat) (p : Nat → Bool) : State :=
  let f := fun (e : List Byte) => if p (byteNat e 3) then e.set 3 (BitVec.ofNat 8 (byteNat e 3 ||| 2 ^ bit)) else e
  { s with clo := { s.clo with log := s.clo.log.map f } }

/-- A QUARANTINE entry without RELEASED is in the log (R519). -/
def logHolds (s : State) : Bool := s.clo.log.any fun e => (byteNat e 3).testBit 0 && !(byteNat e 3).testBit 4

/-- CLO_TMP_STAT shows the log and the rejections. -/
def tamperSync (s : State) : State :=
  (s.wr F.CLO_TMP_STAT_ENTRIES s.clo.log.length).wr F.CLO_TMP_STAT_FAILS (min 15 s.clo.fails.length)

/-- The keys and the root go, the erase begins, sessions close and the module enters QUARANTINE (Table 21-14). -/
def quarantine (s : State) : State :=
  let c := { s.clo with root := none, erase := true, ku := none }
  let kuWas := s.clo.ku.isSome || jobRunning s 6
  let s := debugSeal (zeroSlots { s with clo := c })
  let s := if kuWas then s.wr F.CLO_FLT_KU_FAIL 1 else s
  let s := closeSessions s fun _ _ => true
  let s := if s.mode == mQUARANTINE then s else enterQuarantine s
  ((s.wr F.CLO_STAT_ROOT_OK 0).wr F.CLO_STAT_QUAR 1).wr F.CLO_STAT_ERASING 1

/-- A tamper (R518-R522): the log entry and SEEN always; in PROVISIONED or FIELDED the latch, and QUARANTINE at once
but in SEATING; in DORMANCY the rails rise and what was retained is loaded as for a wake (R520). -/
def tamper (s : State) (source detail : Nat) : State :=
  let keyOp := s.clo.ku.isSome || jobRunning s 6
  let acts := lcKeyed s
  let now := acts && s.mode != mSEATING
  let s := match s.retain with
    | some r => if now then wakeReload s r else s
    | none => s
  let flags := now.toNat + 4 * keyOp.toNat + 8 * (s.mode == mBOOT).toNat
  let log := (tamperEntry s source detail flags :: s.clo.log).take 64
  let s := { s with clo := { s.clo with log := log, latch := s.clo.latch || acts } }
  let s := tamperSync (s.setBit F.CLO_TMP_STAT_SEEN source)
  if now then quarantine s else s

/-- TAMPER_DETECT (R517): sources 0 to 5 always; a DIO input only if it is enabled as one. The eighth rejection
(source 7) is Cloche's own finding, made where the rejection is. -/
def execTamperDetect (source : Fin 7) (detail : BitVec 16) (s : State) : Res :=
  .next (if source.val == 6 && !(dormRd s F.CLO_TMP_EN_DIO != 0 && decide (detail.toNat < 32) && (dormRd s F.CLO_TMP_DIO_MASK).testBit detail.toNat)
    then s else tamper s source detail.toNat)

/-- The erase of helper data and journal ends (R518). -/
def eraseDone (s : State) : State :=
  if s.clo.erase then
    let c := { s.clo with erase := false, enrolled := false, info := [], journal := [], records := 0 }
    let s := logMark { s with clo := c } 1 fun f => f.testBit 0 && !f.testBit 1
    lcSync (s.wr F.CLO_STAT_ERASING 0)
  else s

/-- TAMPER_ERASE_DONE (R518). -/
def execTamperEraseDone (s : State) : Res := .next (eraseDone s)

/-- A token, OPEN or lifecycle message is rejected with `code`; the eighth within an hour is tamper source 7 when that
is enabled (R517). -/
def cloReject (s : State) (flt : Field) (code : Nat) : State :=
  let fails := s.now :: s.clo.fails.filter fun t => decide (s.now < t + 288000000000)
  let s := tamperSync (State.wr { s with clo := { s.clo with fails := fails } } flt 1)
  let s := if fails.length == 8 && s.rdB F.CLO_TMP_EN_TOKEN then tamper s 7 0 else s
  s.status code

/-! ## Tokens (R513-R515) -/

/-- The plant time at an offset of a message (R11). -/
def ptimeAt (b : List Byte) (i : Nat) : PTime := ⟨BitVec.ofNat 48 (numIn b (i + 4) 6), BitVec.ofNat 30 (numIn b i 4)⟩

/-- A debug token as Table 21-10 lays it out: the checks that need no key. -/
def tokenForm (b : List Byte) : Bool :=
  b.length == 176 && numIn b 0 4 == 0x54424443 && numIn b 4 2 == 1 && (byteNat b 6 == 1 || byteNat b 6 == 2) &&
    zeros b 70 10 && !(byteNat b 6 == 2 && byteNat b 7 != 0)

/-- Why a token is refused, if it is (R513, R514, Table 21-11). -/
def tokenRefusal (s : State) (b : List Byte) (sigOk : Bool) : Option Nat :=
  if !tokenForm b then some 0x0506
  else match debugRefusal s (byteNat b 6) with
    | some c => some c
    | none =>
      let st := s.rd F.PT_STAT_STATE
      if (keyRefusal s 2 useOwnerSign).isSome || !sigOk || (b.drop 8).take 48 != idDigest s || numIn b 56 4 != cloCtr s 2 ||
        !(st == 2 || st == 3) || decide ((ptimeAt b 60).toNs ≤ s.ptNs) then some 0x0506 else none

/-- A token is presented through Awl or object 0x9040:01: SCOPED presents the named plots; RETURN opens FULL and seals
the keys (R513, R514). -/
def debugToken (s : State) (b : List Byte) (sigOk : Bool) : State :=
  match tokenRefusal s b sigOk with
  | some c => cloReject s F.CLO_FLT_TOKEN_REJ c
  | none =>
    let full := byteNat b 6 == 2
    let s := (s.wr F.CLO_STAT_DEBUG (byteNat b 6)).wr F.CLO_STAT_DBG_PLOTS (byteNat b 7)
    let s := { s with clo := { s.clo with notAfter := some (ptimeAt b 60) } }
    let s := if full then closeSessions ((zeroSlots s).wr F.CLO_STAT_KEYS_SEALED 1) fun _ _ => true else s
    s.status 0

/-- DEBUG_TOKEN (R513). -/
def execDebugToken (bytes : List Byte) (sigOk : Bool) (s : State) : Res := .next (debugToken s bytes sigOk)

/-- AWL_OPEN (R512): FULL in BLANK and RETIRED; refused and counted elsewhere. -/
def execAwlOpen (s : State) : Res :=
  let code := if lcKeyed s then some ((debugRefusal s (if lcState s == lcFielded then 1 else 2)).getD 0x0506)
    else debugRefusal s 2
  .next (match code with
    | some c => cloReject s F.CLO_FLT_TOKEN_REJ c
    | none => (s.wr F.CLO_STAT_DEBUG 2).status 0)

/-- TOKEN_EXPIRY (R515): plant time has passed NOT_AFTER of the open level. -/
def execTokenExpiry (s : State) : Res :=
  .next (match s.clo.notAfter with
    | some t => if t.toNs ≤ s.ptNs then debugSeal s else s
    | none => s)

/-! ## Provisioning and lifecycle messages (R510, R511) -/

/-- Why a provisioning write is refused, if it is (R510). -/
def provisionRefusal (s : State) (b : List Byte) : Option Nat :=
  if lcState s != lcBlank then some 0x0505
  else if s.rd F.CLO_STAT_DEBUG != 0 then some 0x0303
  else if s.rd F.ID_MATCH_MATCH != 31 then some 0x0508
  else if b.length != 136 || byteNat b 0 != 1 || !zeros b 1 3 || !zeros b 132 4 then some 0x0301
  else if !flashOk s then some 0x0303
  else none

/-- Provisioning enrols the root over 2,096 random information bits (R497; log entry 1), commits the two keys and blows the PROVISIONED fuse (R510). -/
def provisionDo (s : State) (b : List Byte) : State :=
  let kek : KeyBlob := { slot := 1, type := 1, uses := 2 ^ useKek, mat := (b.drop 4).take 32 }
  let own : KeyBlob := { slot := 2, type := 2, uses := 2 ^ useOwnerSign, mat := (b.drop 36).take 96 }
  let s := { s.took with clo := { s.clo with enrolled := true, info := le 262 (s.freeNat 2096) } }
  let s := { s with clo := { s.clo with root := some (rootOf s), fuses := 4 * lcGen s + 1 } }
  lcSync (journalAppend (journalPut (journalPut s kek) own) 3)

/-- May OP be used in the present lifecycle state, in the present mode (Table 21-9)? -/
def lcmStateRefusal (s : State) (op : Nat) : Option Nat :=
  let lc := lcState s
  match op with
  | 1 => if lc == lcProvisioned then none else some 0x0505
  | 2 => if lcKeyed s then none else some 0x0505
  | 3 => if lc != lcRetired then some 0x0505 else if lcGen s ≤ 2 then none else some 0x0301
  | _ => none

def lcmModeOk (m op : Nat) : Bool :=
  match op with
  | 1 => m == mSERVICE || m == mRUN
  | 4 => m == mQUARANTINE
  | _ => m == mSERVICE

/-- A lifecycle message as Table 21-8 lays it out. -/
def lcmForm (b : List Byte) : Bool :=
  b.length == 256 && numIn b 0 4 == 0x4D434C43 && numIn b 4 2 == 1 && decide (1 ≤ byteNat b 6) && decide (byteNat b 6 ≤ 4) &&
    decide (byteNat b 7 ≤ 1) && zeros b 60 4 && (byteNat b 7 == 1 || zeros b 64 96)

/-- Why a lifecycle message is refused, in the order of R511; `sigOk` says that the signature, and the hash of
Sloelen's key, hold. -/
def lcmRefusal (s : State) (b : List Byte) (sigOk : Bool) : Option Nat :=
  let op := byteNat b 6
  let owner := byteNat b 7 == 0
  if jobRunning s 6 then some 0x0303
  else if !lcmForm b then some 0x0101
  else match lcmStateRefusal s op with
    | some c => some c
    | none =>
      if !lcmModeOk s.mode op then some 0x0208
      else if (op == 1 && !owner) || (decide (3 ≤ op) && owner) then some 0x0507
      else match (if owner then keyRefusal s 2 useOwnerSign else none) with
        | some c => some c
        | none =>
          if !sigOk then some 0x0507
          else if (b.drop 8).take 48 != idDigest s then some 0x0508
          else if numIn b 56 4 ≤ cloCtr s 1 then some 0x050A
          else if !flashOk s then some 0x0303
          else none

/-- What an accepted message changes before any restart (Table 21-9). -/
def lcmDo (s : State) (b : List Byte) : State :=
  let s := ctrSet s 1 (numIn b 56 4)
  let g := lcGen s
  let c := s.clo
  lcSync (match byteNat b 6 with
    | 1 => { s with clo := { c with fuses := 4 * g + 2 } }
    | 2 => zeroSlots { s with clo := { c with root := none, enrolled := false, info := [], journal := [], records := 0, fuses := 4 * g + 3 } }
    | 3 => { s with clo := { c with fuses := 4 * (g + 1) } }
    | _ =>
      logMark { s with clo := { c with fuses := 4 * g + 3, latch := false } } 4 fun f => f.testBit 0)

end Sys2Proof.Machine
end

