-- ==== Sys2Proof/Machine/StitchCore.lean ====
section
/-! DEFINITION. What leaves the Stitch endpoint (19_stitch_dictionary.md): reply bodies, datagrams, segments on CAN FD,
packets of the local ports. -/

namespace Sys2Proof.Machine

/-- Session `n` (1 to 32), if it is open. -/
def sessionOf (s : State) (n : Nat) : Option Session := s.ses.sessions.find? n

/-- Replace session `n`. -/
def setSession (s : State) (n : Nat) (x : Session) : State := { s with ses := { s.ses with sessions := s.ses.sessions.set n x } }

/-- The header of Table 19-1 from the module. -/
def stitchHeader (type session seq len prio : Nat) : List Byte :=
  [1, BitVec.ofNat 8 type] ++ le 2 session ++ le 4 seq ++ le 2 len ++ le 1 prio ++ le 1 1 ++ le 4 0

/-- A reply body (Table 19-4). -/
def replyBody (op status index sub type offset : Nat) (last : Bool) (total : Nat) (data : List Byte) : List Byte :=
  le 1 (op + 0x80) ++ le 1 last.toNat ++ le 2 status ++ le 2 index ++ le 1 sub ++ le 1 type ++ le 4 offset ++
    le 2 data.length ++ le 2 0 ++ le 4 total ++ data

/-! ## CAN FD (R450, R451) -/

/-- BASE of the identifiers, BRS. -/
def segBase (s : State) : Nat := s.obj 0x1002 2 0x600
def segFrame (s : State) (plot : Nat) (reply : Bool) (data : List Byte) : CanFrame :=
  let d := dlcFor data.length
  { id := segBase s + 2 * plot + reply.toNat, fdf := true, brs := s.obj 0x1002 3 1 != 0, dlc := d,
    data := data ++ List.replicate (dlcBytes true d - data.length) 0 }

/-- One NEXT frame of a transfer goes into buffer 3; the transfer ends with its last byte, and waits for a FLOW when no
more frames are granted. -/
def segOne (s : State) (k : Nat) (x : SegTx) : State :=
  let s := canSystem s (k / 8) 3 (segFrame s (k % 8) true (BitVec.ofNat 8 (0x80 + x.sn) :: x.rest.take 63))
  let rest := x.rest.drop 63
  if rest.isEmpty then { s with ses := { s.ses with tx := SMap.dropRange s.ses.tx k (k + 1) } }
  else
    let left := x.granted - 1
    let y := { x with rest := rest, sn := (x.sn + 1) % 64, granted := left, at_ := if left = 0 then s.now else s.now + x.gap }
    { s with ses := { s.ses with tx := s.ses.tx.set k y } }

/-- The NEXT frames of transfer `k` that may leave now, STMIN apart (R451). -/
def segNext (s : State) (k fuel : Nat) : State :=
  match fuel with
  | 0 => s
  | fuel + 1 =>
    match s.ses.tx.find? k with
    | none => s
    | some x => if x.granted = 0 ∨ s.now < x.at_ then s else segNext (segOne s k x) k fuel

/-- Each tick, the transfers whose gap ends in it go on. -/
def segTick (s : State) : State := (s.ses.tx.map (·.1)).foldl (fun t k => segNext t k 20) s

/-- Send a message over CAN FD: SINGLE, or FIRST and then what FLOW allows. -/
def segSend (s : State) (i plot : Nat) (msg : List Byte) : State :=
  let len := le 2 msg.length
  if msg.length ≤ 61 then canSystem s i 3 (segFrame s plot true (0 :: len ++ msg))
  else
    let s := canSystem s i 3 (segFrame s plot true (0x40 :: len ++ msg.take 61))
    { s with ses := { s.ses with tx := s.ses.tx.set (8 * i + plot) { rest := msg.drop 61, at_ := s.now } } }

/-- A datagram under a session's key leaves by its transport: over UDP as header and clear body; over CAN FD as the
sealed message. -/
def stitchSend (s : State) (x : Session) (header body : List Byte) : State :=
  if x.transport = 0 then s.emit (.stitch x.port header body)
  else
    let sealed := (List.range (body.length + 16)).map fun i => Config.gcmSeal (le 32 x.key.toNat) (header.take 12) header body i
    segSend s x.port x.plot (header ++ sealed)

/-! ## Replies -/

/-- A field of plot `p`'s record in force (Table 20-1). -/
def plotRec (s : State) (p : Nat) : List Byte := (s.pc.plots.get p {}).record

/-- A packet to the reply queue of plot `p`'s local port (R452). -/
def localReply (s : State) (p word0 : Nat) (body : List Byte) : State :=
  hwPost s (byteNat (plotRec s p) 17) (BitVec.ofNat 32 word0 :: toWords body)

/-- A REPLY of session `n`: it joins the last 8 kept (R445) and leaves; on a local port word 0 comes back in SEQ's place. -/
def sesReply (s : State) (n seq prio : Nat) (body : List Byte) : State :=
  match sessionOf s n with
  | none => s
  | some x =>
    if x.transport = 2 then localReply s x.plot seq body
    else
      let s := setSession s n { x with cache := ((seq, body) :: x.cache).take 8 }
      stitchSend s x (stitchHeader 4 n seq body.length prio) body

/-- The answer to a forwarded request goes to whoever asked. -/
def fwdAnswer (s : State) (f : Forward) (body : List Byte) : State := sesReply s f.session f.seq f.prio body

/-- Every request that waits for plot `p` is answered with `code` (R453, Table 20-5). -/
def fwdFail (s : State) (p code : Nat) : State :=
  let l := s.ses.forwards.filter (·.plot == p)
  let s := { s with ses := { s.ses with forwards := s.ses.forwards.filter (·.plot != p) } }
  l.foldl (fun t f => fwdAnswer t f (replyBody f.op code f.index f.sub 0 0 false 0 [])) s

end Sys2Proof.Machine
end

