-- ==== Sys2Proof/Machine/PlotTables.lean ====
section
/-! DEFINITION. The plot tables (20_plots_span.md): their check, their commit, and the claims of channels (R86). -/

namespace Sys2Proof.Machine

/-! ## Fields of a record (Table 20-1) -/

def State.plot (s : State) (p : Nat) : PlotSt := s.pc.plots.get p {}
def State.setPlot (s : State) (p : Nat) (x : PlotSt) : State := { s with pc := { s.pc with plots := s.pc.plots.set p x } }
def plotState (s : State) (p : Nat) : Nat := s.rd (F.PC_PSTAT_STATE p)

def recEn (b : List Byte) : Bool := (byteNat b 2).testBit 0
def recHome (b : List Byte) : Nat := byteNat b 2 / 2 % 2
def recTakeover (b : List Byte) : Nat := byteNat b 2 / 4 % 4
def recRstOff (b : List Byte) : Bool := (byteNat b 2).testBit 4
def recFault (b : List Byte) : Nat := byteNat b 2 / 32 % 4
def recScrub (b : List Byte) : Bool := (byteNat b 2).testBit 7
def recImage (b : List Byte) : Nat := byteNat b 3
def recPrivFirst (b : List Byte) : Nat := halfNat b 24
def recPrivLast (b : List Byte) : Nat := halfNat b 26
def recCkpt (b : List Byte) : Nat := halfNat b 28

/-- The record of a plot that owns nothing: zeros, and CAN shares whose identifier range is empty. -/
def recNone : List Byte :=
  let share : List Byte := List.replicate 8 0 ++ [0xFF, 0xFF, 0xFF, 0x1F] ++ List.replicate 4 0
  List.replicate 48 0 ++ (List.replicate 8 share).flatten ++ List.replicate 144 0

/-- A record whose EN is clear owns nothing. -/
def recLive (b : List Byte) : List Byte := if recEn b then b else recNone

/-- Region `r` of a record: base, size, ATTR, GPA. -/
def recBase (b : List Byte) (r : Nat) : Nat := numIn b (176 + 16 * r) 5
def recAttr (b : List Byte) (r : Nat) : Nat := byteNat b (181 + 16 * r)
def recSize (b : List Byte) (r : Nat) : Nat := numIn b (184 + 16 * r) 4
def recGpa (b : List Byte) (r : Nat) : Nat := numIn b (188 + 16 * r) 4

/-- The staged tables: what the objects hold (R471). -/
def stagedRec (s : State) (p : Nat) : List Byte := s.objBytes.get (objKey (0x8010 + p) 1) []
def stagedMasks (s : State) (p : Nat) : List Byte := s.objBytes.get (objKey (0x8010 + p) 2) []
def stagedQueues (s : State) : List Byte := s.objBytes.get (objKey 0x8002 1) []
def stagedPlan (s : State) : List Byte := s.objBytes.get (objKey 0x8003 1) []

/-! ## Programming the blocks from the tables (R471) -/

/-- One owner field: `p` if the record names the channel, else none if it was `p`'s. -/
def ownPut (s : State) (f : Field) (p : Nat) (mine : Bool) : State :=
  if mine then s.wr f p else if s.rd f = p then s.wr f 0xF else s

/-- Program every block from plot `p`'s record. -/
def plotProgram (s : State) (p : Nat) (rcd : List Byte) : State :=
  let b := recLive rcd
  let s := forN (fun n t => ownPut t (F.PC_LS_OWN_OWNER (n / 8) (n % 8)) p ((numIn b 4 4).testBit n)) 24 s
  let s := forN (fun n t => ownPut t (F.PC_DIO_OWN_OWNER (n / 8) (n % 8)) p ((numIn b 8 4).testBit n)) 32 s
  let ob := s.rd (F.TRL_PART_BASE p)
  let oc := s.rd (F.TRL_PART_COUNT p)
  let s := slotsOut (s.writeWord (F.TRL_PART_BASE p).addr (numIn b 12 4)) p ob oc
  let s := forN (fun i t => forN (fun k u =>
    u.writeWord (0x20A00100 + 0x1000 * i + 16 * p + 4 * k) (numIn b (48 + 16 * i + 4 * k) 4)) 4 t) 8 s
  let s := forN (fun r t =>
    let t := (t.wr (F.REG_BASE_LO_BASE_LO p r) (recBase b r)).wr (F.REG_BASE_HI_BASE_HI p r) (recBase b r / 2 ^ 32)
    ((t.wr (F.REG_BASE_HI_ATTR p r) (recAttr b r)).wr (F.REG_SIZE_SIZE p r) (recSize b r)).wr (F.REG_GPA_GPA p r) (recGpa b r)) 8 s
  (s.wr (F.BR_ERRQ_QUEUE p) (byteNat b 18)).wr (F.PC_PSTAT_HOME p) (recHome b)

/-- The row of queue `q` in the queue table, and its registers but EN. -/
def queueRow (t : List Byte) (q : Nat) : List Byte := (t.drop (24 * q)).take 24
def queueFields (s : State) (t : List Byte) (q : Nat) : State :=
  let b := queueRow t q
  let s := s.writeWord (F.Q_CFG_EN q).addr (numIn b 0 4 / 2 * 2)
  let s := (s.writeWord (F.Q_BASE_BASE q).addr (numIn b 4 4)).writeWord (F.Q_OWN_PROD q).addr (numIn b 8 4)
  let s := s.writeWord (F.Q_CREDIT_CFG_CREDIT_MAX q).addr (numIn b 12 4)
  (s.writeWord (F.Q_SPILL_BASE_BASE q).addr (numIn b 16 4)).writeWord (F.Q_SPILL_CFG_BANKS q).addr (numIn b 20 4)

/-- Apply a queue's row: off, its fields, then on if EN says so. -/
def queueApply (s : State) (t : List Byte) (q : Nat) : State :=
  let s := queueFields (if s.rdB (F.Q_CFG_EN q) then queueOff s q else s) t q
  if (numIn (queueRow t q) 0 4).testBit 0 then queueOn s q else s

/-! ## The check (R472, Table 20-2) -/

/-- The registers as the staged tables would set them, for the checks that blocks make of their registers. -/
def trial (s : State) : State :=
  let s := forN (fun p t => plotProgram t p (stagedRec s p)) 8 s
  forN (fun q t => (queueFields t (stagedQueues s) q).wr (F.Q_CFG_EN q) (numIn (queueRow (stagedQueues s) q) 0 4 % 2)) 64 s

/-- The other plots with EN set. -/
def others (s : State) (p : Nat) : List Nat := (List.range 8).filter fun k => k != p && recEn (stagedRec s k)

/-- The regions in use of a record: number, base, size. -/
def recRegions (b : List Byte) : List Nat := (List.range 8).filter fun r => recSize b r != 0
def recWritable (b : List Byte) (r : Nat) : Bool := (recAttr b r).testBit 1

/-- Bytes of DRAM in the writable regions of a record. -/
def recDram (b : List Byte) : Nat :=
  ((recRegions b).filter fun r => recWritable b r && decide (0x800000000 ≤ recBase b r)).foldl (fun a r => a + recSize b r) 0
/-- Bytes of all writable regions. -/
def recMemory (b : List Byte) : Nat := ((recRegions b).filter (recWritable b)).foldl (fun a r => a + recSize b r) 0

/-- The system regions of R472 that the tables and registers name: capture plane and directory, Tilth work and results,
the supervisor's spill regions, the checkpoint area; base and size. -/
def systemRegions (s : State) : List (Nat × Nat) :=
  let spill := ((List.range 64).filter fun q => s.rdB (F.Q_CFG_EN q) && s.rdB (F.Q_CFG_SPILL_EN q) &&
    decide (8 ≤ s.rd (F.Q_OWN_CONS q))).map fun q =>
      (4096 * s.rd (F.Q_SPILL_BASE_BASE q), max 1 (s.rd (F.Q_SPILL_CFG_BANKS q)) * Config.spillImageBytes (s.rd (F.Q_CFG_SIZE q)))
  let cap := if s.rdB F.CAP_CTL_EN then [(capBase s, capPlane s), (capDirBase s, 2048 * capSets s)] else []
  let til := if s.rdB F.TIL_CTL_EN then [(tilWork s, 0x400000), (tilRes s, 0x400000)] else []
  cap ++ til ++ spill ++ [(4096 * s.rd F.PC_CKPT_BASE_BASE, s.rd F.PC_CKPT_SIZE_SIZE * 2 ^ 20)]

/-- Do two byte ranges meet, and does one lie within another? -/
def meets (a n b m : Nat) : Bool := n != 0 && m != 0 && overlap a n b m
def within (a n b m : Nat) : Bool := decide (b ≤ a) && decide (a + n ≤ b + m)

/-- A non-zero byte where Table 20-1 wants zero, or a field outside it. -/
def recBad (b : List Byte) : Bool :=
  let ckpt := recTakeover b == 2 && decide (recCkpt b < 10)
  let wdog := halfNat b 22 != 0 && (decide (halfNat b 22 < 10) || decide (60000 < halfNat b 22))
  let priv := decide (recPrivFirst b ≤ recPrivLast b) && decide (recPrivFirst b < 0xC000)
  b.length != 320 || halfNat b 0 != 1 || recTakeover b == 3 || recFault b == 3 || byteNat b 7 != 0 ||
    decide (64 ≤ byteNat b 16) || decide (64 ≤ byteNat b 17) || decide (64 ≤ byteNat b 18) ||
    byteNat b 19 == 0 || decide (8 < byteNat b 19) || byteNat b 21 != 0 || wdog || priv || ckpt ||
    !zeros b 30 2 || !zeros b 40 8 || !zeros b 304 16 ||
    (List.range 8).any fun r => decide (16 ≤ recAttr b r) || !zeros b (182 + 16 * r) 2

/-- Mask entries out of order, overlapping, or with SUB_FIRST above SUB_LAST. -/
def masksBad : List Byte → Nat → Nat → Bool
  | _, _, 0 => false
  | b, lo, n + 1 =>
    if b.isEmpty then false
    else
      let f := 256 * halfNat b 0 + byteNat b 2
      let l := 256 * halfNat b 0 + byteNat b 3
      decide (b.length < 8) || decide (l < f) || decide (f < lo) || halfNat b 6 != 0 || masksBad (b.drop 8) (l + 1) n

/-- A core's entry of the time plan breaks R474. -/
def planBad (t : List Byte) (c : Nat) : Bool :=
  let b := (t.drop (136 * c)).take 136
  let mf := halfNat b 0
  let n := byteNat b 2
  let w := (List.range (min n 16)).map fun k => (halfNat b (8 + 8 * k), halfNat b (10 + 8 * k), byteNat b (12 + 8 * k))
  let order := (List.range (min n 16 - 1)).all fun k =>
    decide ((w.getD k (0, 0, 0)).1 + (w.getD k (0, 0, 0)).2.1 ≤ (w.getD (k + 1) (0, 0, 0)).1)
  let sup := (w.filter fun x => x.2.2 == 8).foldl (fun a x => a + x.2.1) 0
  decide (mf < 100) || decide (10000 < mf) || decide (16 < n) || !zeros b 3 5 || !order ||
    w.any (fun x => decide (mf < x.1 + x.2.1) || (decide (8 < x.2.2) && x.2.2 != 0xFF)) || (c == 0 && decide (10 * sup < mf))

/-- Is fault `reason` present for plot `p` of the staged set? `t` is the trial state. A region that another plot has with
SHARE set does not count as that plot's own (DEDUCED, log entry 55). -/
def plotBad (s t : State) (reason p : Nat) : Bool :=
  let rcd := stagedRec s p
  let b := recLive rcd
  let o := others s p
  let regs := recRegions b
  let region := fun (k r : Nat) => (recBase (stagedRec s k) r, recSize (stagedRec s k) r)
  let theirs := o.flatMap fun k => (recRegions (stagedRec s k)).map (region k)
  let own := o.flatMap fun k => ((recRegions (stagedRec s k)).filter fun r => !(recAttr (stagedRec s k) r).testBit 3).map (region k)
  if reason = 0x0C then !rcd.isEmpty && recBad rcd
  else if reason = 0x0A then masksBad (stagedMasks s p) 0 1025 || decide (8192 < (stagedMasks s p).length)
  else if !recEn rcd then false
  else if reason = 0x01 then
    o.any fun k => numIn b 4 4 &&& numIn (stagedRec s k) 4 4 != 0 || numIn b 8 4 &&& numIn (stagedRec s k) 8 4 != 0
  else if reason = 0x02 then
    let base := t.rd (F.TRL_PART_BASE p)
    let cnt := t.rd (F.TRL_PART_COUNT p)
    base % 8 != 0 || cnt % 8 != 0 || decide (1024 < base + cnt) || (cnt != 0 && (decide (base < 64) ||
      o.any fun k => overlap base cnt (t.rd (F.TRL_PART_BASE k)) (t.rd (F.TRL_PART_COUNT k))))
  else if reason = 0x03 then
    (List.range 8).any fun i => (List.range 4).any fun k => canPartBad t i p k (numIn b (48 + 16 * i + 4 * k) 4)
  else if reason = 0x04 then decide (2 ^ 26 < recDram b)
  else if reason = 0x05 then
    regs.any fun r => recWritable b r && (own ++ systemRegions t).any fun x => meets (recBase b r) (recSize b r) x.1 x.2
  else if reason = 0x06 then
    let shared := [(capBase t, capPlane t), (capDirBase t, 2048 * capSets t), (tilRes t, 0x400000)]
    regs.any fun r => (recAttr b r).testBit 3 &&
      (recWritable b r || !(theirs ++ shared).any fun x => within (recBase b r) (recSize b r) x.1 x.2)
  else if reason = 0x07 then
    regs.any fun r =>
      let a := recBase b r
      let n := recSize b r
      a % 4096 != 0 || n % 4096 != 0 || !(within a n 0x800000000 0x20000000 || within a n 0x10400000 0xC00000)
  else if reason = 0x08 then
    t.rd (F.Q_OWN_PROD (byteNat b 16)) != p || t.rd (F.Q_OWN_CONS (byteNat b 17)) != p || t.rd (F.Q_OWN_CONS (byteNat b 18)) != p
  else if reason = 0x09 then
    o.any fun k => decide (recPrivFirst b ≤ recPrivLast b) && decide (recPrivFirst (stagedRec s k) ≤ recPrivLast (stagedRec s k)) &&
      decide (recPrivFirst b ≤ recPrivLast (stagedRec s k)) && decide (recPrivFirst (stagedRec s k) ≤ recPrivLast b)
  else false

/-- Is fault `reason` present device-wide? -/
def deviceBad (s t : State) (reason : Nat) : Bool :=
  let live := (List.range 8).filter fun p => recEn (stagedRec s p)
  if reason = 0x08 then
    (!(stagedQueues s).isEmpty && (stagedQueues s).length != 1536) ||
      (List.range 64).any fun q => t.rdB (F.Q_CFG_EN q) && !queueCfgOk t q
  else if reason = 0x0B then
    !((stagedPlan s).isEmpty && live.isEmpty) && ((stagedPlan s).length != 544 || (List.range 4).any (planBad (stagedPlan s)))
  else if reason = 0x0D then
    decide (t.rd F.PC_CKPT_SIZE_SIZE * 2 ^ 20 <
      (live.filter fun p => recTakeover (stagedRec s p) == 2).foldl (fun a p => a + recMemory (stagedRec s p)) 0)
  else false

/-- The first fault of the staged set, as plot (15 device-wide) and reason: reasons rising, within one the lowest plot. -/
def tablesFault (s : State) : Option (Nat × Nat) :=
  let t := trial s
  ((List.range 13).map (· + 1)).findSome? fun k =>
    match (List.range 8).find? (plotBad s t k) with
    | some p => some (p, k)
    | none => if deviceBad s t k then some (15, k) else none

/-! ## Commit (R471) -/

/-- Would the staged set change what plot `p` has: record, masks, its queues or its windows? -/
def plotChanged (s : State) (p : Nat) : Bool :=
  let win := fun (t : List Byte) => (List.range 64).map fun k =>
    let b := t.drop (136 * (k / 16) + 8 + 8 * (k % 16))
    if k % 16 < byteNat t (136 * (k / 16) + 2) && byteNat b 4 == p then b.take 4 else []
  let mine := fun (b : List Byte) => halfNat b 0 % 2 == 1 && (byteNat b 8 % 16 == p || byteNat b 8 / 16 == p)
  stagedRec s p != (s.plot p).record || stagedMasks s p != (s.plot p).masks || win (stagedPlan s) != win s.pc.plan ||
    (List.range 64).any fun q =>
      let a := queueRow (stagedQueues s) q
      let b := queueRow s.pc.queues q
      a != b && (mine a || mine b)

/-- PC_STAT.SPAN_MATCH (R473). -/
def spanMatchSync (s : State) : State := s.wrB F.PC_STAT_SPAN_MATCH (s.partner.alive && s.partner.digest == s.pc.digest)

/-- The digest of the tables in force (R473): SHA-384 over records, masks, queue table and time plan in that order. -/
def digestSync (s : State) : State :=
  let b := ((List.range 8).flatMap fun p => (s.plot p).record) ++ ((List.range 8).flatMap fun p => (s.plot p).masks) ++
    s.pc.queues ++ s.pc.plan
  let d := digestBytes b
  spanMatchSync { s with pc := { s.pc with digest := ofLe (d.take 8), digest16 := d.take 16 } }

/-- Bring the tables of a changed plot into force. -/
def plotApply (p : Nat) (s : State) : State :=
  if plotChanged s p || plotState s p == 0 then
    let s := plotProgram (s.setPlot p { s.plot p with record := stagedRec s p, masks := stagedMasks s p, faulted := false }) p (stagedRec s p)
    let st := plotState s p
    s.wr (F.PC_PSTAT_STATE p) (if recEn (stagedRec s p) then (if st = 0 then 1 else st) else 0)
  else s

/-- Bring the staged set into force. -/
def tablesApply (s : State) : State :=
  let old := s.pc.queues
  let s := forN plotApply 8 s
  let t := stagedQueues s
  let s := forN (fun q u => if queueRow t q != queueRow old q then queueApply u t q else u) 64 s
  digestSync (State.wr { s with pc := { s.pc with queues := t, plan := stagedPlan s } } F.PC_STAT_TABLES_OK 1)

/-! ## Claims (R86) -/

/-- May the module claim LS or DIO channel `n` now? -/
def claimable (s : State) (isLs : Bool) (n : Nat) : Bool :=
  let owner := if isLs then lsOwner s n else dioOwner s n
  let map := if isLs then s.partner.ls else s.partner.dio
  decide (owner < 8) && recEn (plotRec s owner) && !s.girth.unpaired && !(isLs && s.bit F.LS_EXT_MAP_EXT n) &&
    (!s.girth.spanMember || (s.partner.seen && s.partner.alive && !map.testBit n))

/-- Claim what may be claimed, and let go of what no plot is assigned (R86); STR_GONE clears for a claimed channel. -/
def claimAll (s : State) : State :=
  let g := s.girth
  let keep := fun (own : Nat → Bool) (owner : Nat → Nat) (isLs : Bool) (n : Nat) =>
    (own n && decide (owner n < 8)) || (!own n && claimable s isLs n)
  let ls := BitVec.ofNat 24 (bitsWhere (keep (fun n => g.ownLs.getLsbD n) (lsOwner s) true) 24)
  let dio := BitVec.ofNat 32 (bitsWhere (keep (fun n => g.ownDio.getLsbD n) (dioOwner s) false) 32)
  let s := { s with girth := { g with ownLs := ls, ownDio := dio } }
  let s := s.wr F.STR_GONE_LS_GONE (s.rd F.STR_GONE_LS_GONE &&& (~~~ls).toNat)
  let s := s.wr F.STR_GONE_DIO_GONE (s.rd F.STR_GONE_DIO_GONE &&& (~~~dio).toNat)
  followAll (subSync s)

/-- The commit command (R471). -/
def tablesCommit (s : State) : State :=
  match tablesFault s with
  | some (p, k) => ((s.wr F.PC_TERR_PLOT p).wr F.PC_TERR_REASON k).status 0x0309
  | none =>
    if (List.range 8).any fun p => plotChanged s p && decide (2 ≤ plotState s p) then s.status 0x0303
    else
      let s := tablesApply ((s.wr F.PC_TERR_PLOT 0xF).wr F.PC_TERR_REASON 0)
      (if s.mode == mRUN || s.mode == mSERVICE then claimAll s else s).status 0

/-- PLOT_TABLES_COMMIT (R471): by the supervisor partition, or through object 0x8000:01 for a session with the SUPERVISOR
role (R491, R492). -/
def execPlotTablesCommit (r : Req) (s : State) : Res :=
  let may := match r with | .supervisor => true | .stitch _ sup _ => sup | _ => false
  .next (hostWrite s r F.PC_CMD_COMMIT.addr (if may then tablesCommit s else s.status 0x0207))

end Sys2Proof.Machine
end

