-- ==== Sys2Proof/Machine/BridleCore.lean ====
section
/-! DEFINITION. Bridle's shared operations (18_bridle.md): asynchronous error records, fences, the ends of posted writes
and of requests over XL. -/

namespace Sys2Proof.Machine

/-! ## Fences (R423, R424) -/

/-- A fence of issuer `i` completes with a status; the Stitch write it answers gets its reply. -/
def fenceEnd (s : State) (i status : Nat) : State :=
  match s.br.fences.find? i with
  | none => s
  | some f =>
    let s := { s with br := { s.br with fences := SMap.dropRange s.br.fences i (i + 1) } }
    let s := ((s.wr (F.BR_FENCE_STAT_BUSY i) 0).wr (F.BR_FENCE_STAT_DONE i) 1).wr (F.BR_FENCE_STAT_STATUS i) status
    match f.reply with
    | some (n, seq, prio) => sesReply s n seq prio (replyBody 2 status 0x1021 (i + 1) 3 0 true 2 [])
    | none => s

/-- A fence that waits for nothing more completes, with the first failure in issue order in BR_LAST. -/
def fenceDone (s : State) (i : Nat) (f : BrFence) : State :=
  if !f.waits.isEmpty then s
  else match f.fail with
    | none => fenceEnd s i 0
    | some g => fenceEnd (brLast s i g.status g.tag g.addr) i g.status

/-- Posted write `num` has been applied, or has failed: the fence that waits for it goes on; a failure that no fence waits
for stands for the next one. -/
def fenceStep (s : State) (i num : Nat) (fail : Option BrFail) : State :=
  let note := match fail with
    | some g => brNote s i g
    | none => s
  match s.br.fences.find? i with
  | none => note
  | some f =>
    if !f.waits.contains num then note
    else
      let first := match fail with
        | some g => some (brEarlier f.fail g)
        | none => f.fail
      let f := { f with waits := f.waits.filter (· != num), fail := first }
      fenceDone { s with br := { s.br with fences := s.br.fences.set i f } } i f

/-- Start a fence over what issuer `i` has posted since its last one: what is not yet acknowledged, and the first that has
failed. -/
def fenceStart (s : State) (i : Nat) (reply : Option (Nat × Nat × Nat)) : State :=
  let w := (s.br.posted.filter (·.issuer == i)).map (·.num)
  let f : BrFence := { goAt := s.now, waits := w, fail := s.br.failed.find? i, reply := reply }
  let s := { s with br := { s.br with fences := s.br.fences.set i f, failed := SMap.dropRange s.br.failed i (i + 1) } }
  fenceDone (s.wr (F.BR_FENCE_STAT_BUSY i) 1) i f

/-! ## Ends of transactions over XL -/

/-- A posted write fails with a record (R422). -/
def postFail (s : State) (w : BrPost) (status : Nat) : State :=
  let s := { s with br := { s.br with posted := s.br.posted.filter (·.num != w.num) } }
  fenceStep (brRecord s 1 w.issuer status w.addr w.tag) w.issuer w.num (some ⟨w.num, status, w.addr, w.tag⟩)

/-- Every posted write for which `p` holds fails. -/
def postFailAll (s : State) (p : BrPost → Bool) (status : Nat) : State :=
  (s.br.posted.filter p).foldl (fun t w => postFail t w status) s

/-- OUT_BUSY: a non-posted request, one to the span control page, is outstanding (R421). -/
def outBusySync (s : State) : State :=
  s.wrB F.XL_STAT_OUT_BUSY (s.br.out.any fun x => decide (x.addr < 0x1000001000))

/-- A read or non-posted write over XL ends with a status (R416). -/
def txEnd (s : State) (x : BrTx) (status data : Nat) : State :=
  let s := { s with br := { s.br with out := s.br.out.filter (·.tag != x.tag) } }
  let s := outBusySync s
  let s := if status = 0 then s else brLast s x.issuer status x.mark x.addr
  s.answer status (if status = 0 then data else 0)

/-- Every outstanding request for which `p` holds ends with a status. -/
def txEndAll (s : State) (p : BrTx → Bool) (status : Nat) : State :=
  (s.br.out.filter p).foldl (fun t x => txEnd t x status 0) s

/-- XL goes down or retrains (Table 18-3): reads and non-posted writes end with 0x0111, posted writes with 0x0112. -/
def xlDrop (s : State) : State := postFailAll (txEndAll s (fun _ => true) 0x0111) (fun _ => true) 0x0112

/-- BLK_RST of Bridle (R426): outstanding requests end with 0x0610, posted writes are discarded with a record each, and
the reset takes the counters, tables and fences. -/
def brReset (s : State) : State :=
  let s := txEndAll s (fun _ => true) 0x0610
  let s := s.br.posted.foldl (fun t w => brRecord t 2 w.issuer 0x0610 w.addr w.tag) s
  { s with br := {}, gw := {} }

end Sys2Proof.Machine
end

