-- ==== Sys2Proof/Machine/Plots.lean ====
section
/-! DEFINITION. Plots (20_plots_span.md): states, faults, the reset with its squash and drain, freeze, images, migration,
checkpoints, time windows. -/

namespace Sys2Proof.Machine

/-! ## Records and states (R476, R491) -/

/-- A record in PC_EVQ. -/
def plotRecord (s : State) (p type flt : Nat) : State :=
  let st := s.stamp
  hwPost s (s.rd F.PC_EVQ_QUEUE) (toWords (le 1 type ++ le 1 p ++ le 1 flt ++ le 1 0 ++ st.ang.bytes ++ st.pt.bytes ++
    le 4 (s.rd (F.PC_GEN_GEN p)) ++ le 6 0))

/-- RUN carries DEGRADED while a plot with EN set is STOPPED through a fault (R477). -/
def plotDegrade (s : State) (p : Nat) : State :=
  s.degrade (900 + p) ((s.plot p).faulted && recEn (plotRec s p) && plotState s p == 1)

/-- Put plot `p` into a state. Its watchdog starts with its entry to RUNNING, its checkpoint period when it has not come from
FROZEN (log entry 55). -/
def plotTo (s : State) (p st : Nat) : State :=
  let was := plotState s p
  let x := s.plot p
  let s := if st = 3 ∧ was ≠ 3 then
      s.setPlot p { x with kick := some s.now, ckptAt := if was = 5 then x.ckptAt else s.now } else s
  let s := s.wr (F.PC_PSTAT_STATE p) st
  plotDegrade (if st = 1 then s else s.setPlot p { s.plot p with faulted := false }) p

/-- The slots of plot `p`'s partition, and the buffers and elements of its share of controller `i`. -/
def plotSlots (s : State) (p : Nat) : List Nat := (List.range (s.rd (F.TRL_PART_COUNT p))).map (s.rd (F.TRL_PART_BASE p) + ·)
def plotBufs (s : State) (i p : Nat) : List Nat := (List.range (s.rd (F.CAN_PTX_TXCOUNT i p))).map (s.rd (F.CAN_PTX_TXBASE i p) + ·)
def plotElems (s : State) (i p : Nat) : List Nat := (List.range (s.rd (F.CAN_PFLT_FCOUNT i p))).map (s.rd (F.CAN_PFLT_FBASE i p) + ·)

/-- Enabled slots of plot `p` follow R135 from this tick on. -/
def plotCatch (s : State) (p : Nat) : State :=
  (plotSlots s p).foldl (fun t n => if t.rdB (F.SLOT_CTL_EN n) then slotCatch n t else t) s

/-- Interrupts held for a plot are delivered (Table 20-9). -/
def plotIrqs (s : State) (p : Nat) : State :=
  let l := s.irqHeld.filter (·.1 == p)
  l.foldl (fun t e => t.emit (.irq e.1 e.2)) { s with irqHeld := s.irqHeld.filter (·.1 != p) }

/-- THAW: the plot resumes where it stopped (R482). -/
def plotThaw (s : State) (p : Nat) : State :=
  let s := plotTo (s.setPlot p { s.plot p with freeze := 0, job := none }) p 3
  plotRecord (plotIrqs (plotCatch s p) p) p 5 0xFF

/-! ## Ends of jobs -/

/-- The plot and operation of a migration job (R485): 0 MIGRATE, 1 SAVE, 2 RESTORE. -/
def migPlot (x : Job) : Nat := x.par.getD 0 0 % 16
def migOp (x : Job) : Nat := x.par.getD 0 0 / 256 % 4

/-- What a job's owner does when it ends before its work is complete, with the code it ends with (0 for CANCEL). -/
def jobClean (s : State) (j code : Nat) : State :=
  let x := s.job j
  let live := x.begun && x.active
  if !live then s
  else match x.kind with
    | 2 => { s with grf := { s.grf with act := none } }
    | 3 => sweepDrop s j
    | 6 =>
      let s := if code = 0 then journalAppend s 1 else s.wr F.CLO_FLT_KU_FAIL 1
      { s with clo := { s.clo with ku := none } }
    | 7 =>
      let p := migPlot x
      let s := if code ≠ 0 ∧ migOp x = 0 then s.wr (F.PC_PFLT_MIG_FAIL p) 1 else s
      if plotHeld s p && (s.plot p).job == some j then plotThaw s p else s
    | _ => s

/-- A job ends in state `st`, FAILED or CANCELLED. -/
def jobEnd (s : State) (j st code : Nat) : State := jobTo (jobClean s j code) j st code

/-- End every job for which `p` holds, FAILED with `code`. -/
def jobsEnd (s : State) (p : Nat → Job → Bool) (code : Nat) : State :=
  forN (fun j t => if p j (t.job j) && (t.job j).kind != 0 && !jobFinal (t.job j).state && (t.job j).state != 0 then jobEnd t j 5 code else t) 32 s

/-! ## Reset (R479, R480, Table 20-5) -/

/-- Queues: an open packet of the plot as producer is aborted, those it consumes are flushed and grant nothing. -/
def squashQueue (p q : Nat) (s : State) : State :=
  let s := if s.rd (F.Q_OWN_PROD q) = p ∧ (s.queue q).opn.isSome then furAbort s q else s
  let s := if s.rd (F.Q_OWN_PROD q) = p then furSync (s.setQueue q { s.queue q with revoked := true }) q else s
  if s.rd (F.Q_OWN_CONS q) = p then
    let s := furFlush s q
    furSync (s.setQueue q { s.queue q with noGrant := true }) q
  else s

/-- CAN: waiting buffers end ABORTED with 0x0610 and then EMPTY, an ACTIVE one after its attempt; filter elements off. -/
def squashCan (p i : Nat) (s : State) : State :=
  let s := (plotBufs s i p).foldl (fun t b =>
    let st := bufState t i b
    if st == 1 || st == 2 || st == 6 then bufPut (bufAbort t i b 2 0x0610) i b 0
    else if st == 3 then setCanBuf t i b { canBuf t i b with abort := true }
    else bufPut t i b 0) s
  (plotElems s i p).foldl (fun t e => t.hwWr (F.CAN_FE_ID_EN i e) 0) s

/-- With RST_OFF set each ON of the plot's channels is cleared. -/
def plotOff (s : State) (p : Nat) : State :=
  let s := forN (fun n t => if lsOwner t n == p then (lsClearOn t n).hwWr (F.LS_REQ_ON n) 0 else t) 24 s
  forN (fun n t => if dioOwner t n == p then (dioSetOn t n false).hwWr (F.DIO_REQ_ON n) 0 else t) 32 s

/-- Has a drain that began in tick `t` reached its bound of 10 × RSP_TMO (R480)? -/
def drainLate (s : State) (t : Nat) : Bool := decide (t + 8000 * max 1 (s.rd F.BR_TMO_RSP_TMO) ≤ s.now)

/-- What a reset or freeze of plot `p` still drains: posted writes without an outcome, CAN buffers in an attempt. -/
def drainOpen (s : State) (p : Nat) : Bool :=
  s.br.posted.any (·.issuer == p) || (List.range 8).any fun i => (plotBufs s i p).any fun b => bufState s i b == 3

/-- Posted writes still open at the bound are deemed failed (R480). -/
def drainEnd (s : State) (p : Nat) : State :=
  if s.br.posted.any (·.issuer == p) then postFailAll (s.wr (F.PC_PFLT_DRAIN_TMO p) 1) (·.issuer == p) 0x0410 else s

/-- Steps 1 and 2 of a reset: the plot leaves the cores and what Table 20-5 marks as squashed ends. -/
def plotReset (s : State) (p : Nat) (restart : Bool) : State :=
  if plotState s p == 4 then s
  else
    let job := (s.plot p).job
    let s := plotRecord s p 2 0xFF
    let s := plotTo (s.setPlot p { s.plot p with freeze := 0, job := none, restart := restart, since := s.now }) p 4
    let s := match job with
      | some j => if jobFinal (s.job j).state then s else jobEnd s j 5 0x0706
      | none => s
    let s := jobsEnd s (fun _ x => x.owner == p) 0x0706
    let b := { s.br with out := s.br.out.filter (·.issuer != p), fences := SMap.dropRange s.br.fences p (p + 1) }
    let s := { s with br := { b with failed := SMap.dropRange b.failed p (p + 1) } }
    let s := fwdFail (outBusySync (s.wr (F.BR_FENCE_STAT_BUSY p) 0)) p 0x0610
    let s := forN (squashCan p) 8 (forN (squashQueue p) 64 s)
    let s := (plotSlots s p).foldl (fun t n => t.hwWr (F.SLOT_CTL_EN n) 0) s
    let s := forN (fun e t => if powOwner t e == p then powAbandon t e else t) 16 s
    let s := if s.rdB F.TIL_CTL_OWNER_VALID && s.rd F.TIL_CTL_OWNER == p then tilWithdraw s else s
    let s := s.hwWr (F.NS_CONSENT_CONSENT p) 0
    if recRstOff (plotRec s p) then plotOff s p else s

/-- Zero every writable region of plot `p`. -/
def plotScrub (s : State) (p : Nat) : State :=
  forN (fun r t => if (t.rd (F.REG_BASE_HI_ATTR p r)).testBit 1 then t.dropMem (regionBase t p r) (regionBase t p r + regionSize t p r)
    else t) 8 s

/-- Steps 3 to 5, once nothing is left to drain or the drain's bound is reached: what is still open fails with 0x0410, the
scrub, the new generation, the partitions from the tables. -/
def plotComplete (s : State) (p : Nat) : State :=
  if plotState s p != 4 || (drainOpen s p && !drainLate s (s.plot p).since) then s
  else
    let s := drainEnd s p
    let s := forN (fun i t => (plotBufs t i p).foldl (fun u b => bufPut (setCanBuf u i b {}) i b 0) t) 8 s
    let s := if recScrub (plotRec s p) then plotScrub s p else s
    let s := plotProgram ((s.incWrap (F.PC_GEN_GEN p))) p (plotRec s p)
    let s := forN (fun q t => if t.rd (F.Q_OWN_CONS q) = p then furSync (t.setQueue q { t.queue q with noGrant := false }) q else t) 64 s
    let restart := (s.plot p).restart
    let s := if restart then
        (s.setPlot p { s.plot p with restarts := s.now :: (s.plot p).restarts }).incSat (F.PC_RESTARTS_CNT p) else s
    let faulted := (s.plot p).faulted
    let s := plotTo s p (if restart then 2 else 1)
    let s := if restart then s else plotDegrade (s.setPlot p { s.plot p with faulted := faulted }) p
    plotRecord s p 3 0xFF

/-- RESET_DRAIN_DONE (R480). -/
def execResetDrainDone (p : Fin 8) (s : State) : Res := .next (plotComplete s p)

/-- A plot fault with its bit in PC_PFLT (R477): the record, then what FAULT says; the third restart in 10 min was the
last. -/
def plotFault (s : State) (p bit : Nat) : State :=
  if !(plotState s p == 2 || plotState s p == 3 || plotState s p == 5) then s
  else
    let s := plotRecord (s.wr { F.PC_PFLT_ACCESS p with lo := bit % 32 } 1) p 1 bit
    let recent := ((s.plot p).restarts.filter fun t => decide (s.now < t + 48000000000)).length
    match recFault (plotRec s p) with
    | 1 =>
      if 3 ≤ recent then
        let s := plotReset (s.wr (F.PC_PFLT_RESTART_LIMIT p) 1) p false
        s.setPlot p { s.plot p with faulted := true }
      else plotReset s p true
    | 2 =>
      let s := plotReset s p false
      s.setPlot p { s.plot p with faulted := true }
    | _ => s

/-- Does plot `p` have a region that grants a read or write of an address (R473)? -/
def plotMayAccess (s : State) (p a : Nat) (write : Bool) : Bool :=
  (List.range 8).any fun r => decide (regionBase s p r ≤ a) && decide (a < regionBase s p r + regionSize s p r) &&
    (s.rd (F.REG_BASE_HI_ATTR p r)).testBit write.toNat

/-- An access of plot `p` outside its regions: refused, counted, latched; at the limit a plot fault (R473). -/
def plotViolation (s : State) (p a : Nat) : State :=
  let s := ((s.incSat (F.PC_VIOL_CNT p)).wr (F.PC_VIOL_ADDR_LO_ADDR_LO p) a).wr (F.PC_VIOL_ADDR_HI_ADDR_HI p) (a / 2 ^ 32)
  let l := s.now :: (s.plot p).viols.filter fun t => decide (s.now < t + 80000000)
  let s := (s.wr (F.PC_PFLT_ACCESS p) 1).setPlot p { s.plot p with viols := l }
  let s := if max 1 (s.rd (F.PC_VIOL_VIOL_LIMIT p)) ≤ l.length then plotFault (s.setPlot p { s.plot p with viols := [] }) p 2 else s
  s.status 0x0209

/-- ACCESS_VIOLATION (R473): a memory access issued for plot `p`. -/
def execAccessViolation (p : Fin 8) (addr : BitVec 40) (write : Bool) (s : State) : Res :=
  .next (if plotMayAccess s p addr.toNat write then s else plotViolation s p addr.toNat)

/-- A write of PC_WDOG(p) (R477, R491). -/
def wdogKick (s : State) (r : Req) (p v : Nat) : State :=
  if !(match r with | .plot k => k.val == p | _ => false) then s.status 0x0207
  else (if v % 65536 = 0x4B1D then s.setPlot p { s.plot p with kick := some s.now } else s).status 0

/-- PC_WDOG_KICK (R477). -/
def execPcWdogKick (r : Req) (p : Fin 8) (v : Word) (s : State) : Res :=
  .next (hostWrite s r (F.PC_WDOG_KICK p).addr (wdogKick s r p v.toNat))

/-- Has plot `p` gone WDOG_TMO ms without a kick (R477)? 0 disables the watchdog. -/
def wdogDue (s : State) (p : Nat) : Bool :=
  let n := halfNat (plotRec s p) 22
  n != 0 && (s.plot p).kick.all fun t => decide (t + 80000 * n ≤ s.now)

/-- PLOT_WDOG_EXPIRY (R477): a kick in the same tick comes first (Table 20-9), and a halted plot's watchdog is
suspended (R512). -/
def execPlotWdogExpiry (p : Fin 8) (s : State) : Res :=
  .next (if !wdogDue s p ∨ plotState s p ≠ 3 ∨ plotHeld s p then s
    else plotFault s p 1)

/-! ## Images (R483, R484) -/

/-- The register words of a section: type 4 CAN of controller `index`, 5 TRELLIS, 6 CHANNELS, as addresses. -/
def plotWords (s : State) (p type index : Nat) : List Nat :=
  if type = 4 then
    ((plotBufs s index p).flatMap fun b => ([0, 4, 12, 16, 20, 24, 28, 32] ++ (List.range 16).map (64 + 4 * ·)).map
      (0x20A20000 + 0x2000 * index + 0x80 * b + ·)) ++
    (plotElems s index p).flatMap fun e => [0, 4, 8, 12].map (0x20A10000 + 0x1000 * index + 0x10 * e + ·)
  else if type = 5 then
    ((plotSlots s p).flatMap fun n => (List.range 13).map (0x20010000 + 0x40 * n + 4 * ·)) ++
    ((List.range 16).filter fun e => powOwner s e == p).flatMap fun e => (List.range 8).map (0x20000400 + 0x20 * e + 4 * ·)
  else if type = 6 then
    (((List.range 24).filter fun n => lsOwner s n == p).flatMap fun n => [0, 4].map (0x20701000 + 0x40 * n + ·)) ++
    (((List.range 32).filter fun n => dioOwner s n == p).flatMap fun n => [0, 4, 8].map (0x20901000 + 0x40 * n + ·)) ++
    ((List.range 8).filter fun k => s.rd (F.LS_PROF_OWN_OWNER k) == p).flatMap fun k =>
      (List.range 16).map (0x20700800 + 0x40 * (8 + k) + 4 * ·)
  else []

/-- A section of register words, if it has any. -/
def regsSection (s : State) (p type index : Nat) : List ImgSection :=
  match plotWords s p type index with
  | [] => []
  | l => [.regs type index (l.map fun a => (a, s.readWord a))]

/-- The packets of a queue in the order in which they wait. -/
def queuePackets (s : State) (q : Nat) : List QPacket :=
  let x := s.queue q
  (if x.sel.isEmpty then [] else [{ prio := 7, words := x.sel }]) ++ x.drain ++ (x.spilling.getD []) ++ x.spilled.flatten ++ x.fill

/-- The image of a FROZEN plot: its writable regions, queues, CAN shares, slots and channels. -/
def plotImage (s : State) (p : Nat) : PlotImage :=
  let mem := ((List.range 8).filter fun r => (s.rd (F.REG_BASE_HI_ATTR p r)).testBit 1 && regionSize s p r != 0).map fun r =>
    ImgSection.memory r (s.bytesAt (regionBase s p r) (regionSize s p r))
  let qs := ((List.range 64).filter fun q => s.rd (F.Q_OWN_CONS q) == p && s.rdB (F.Q_CFG_EN q)).map fun q =>
    ImgSection.queue q ((queuePackets s q).map fun k => (k.prio, k.words.map fun w => (w.data, w.poison)))
  { plot := p, gen := s.rd (F.PC_GEN_GEN p), digest := s.pc.digest16, st := (s.plot p).frozenAt,
    sections := mem ++ qs ++ ((List.range 8).flatMap fun i => regsSection s p 4 i) ++ regsSection s p 5 0 ++ regsSection s p 6 0 }

/-- Bytes of a section with its 16-byte head (R483). -/
def sectionLen : ImgSection → Nat
  | .core _ b => 16 + b.length
  | .memory _ b => 16 + b.length
  | .queue _ l => 16 + (l.map fun k => 4 + 8 * k.2.length).sum
  | .regs _ _ l => 16 + 4 * l.length

/-- The header of an image (Table 20-7); the NONCE is random. -/
def imageHeader (s : State) (img : PlotImage) : List Byte :=
  let len := (img.sections.map sectionLen).sum + 16
  le 4 0x4C505A47 ++ le 2 1 ++ le 1 img.plot ++ le 1 0 ++ le 4 img.gen ++ le 4 img.sections.length ++ le 8 len ++
    img.digest ++ (idDigest s).take 16 ++ img.st.ang.bytes ++ img.st.pt.bytes ++ le 2 0 ++
    le 8 (s.freeNat 64) ++ le 4 (s.took.freeNat 32) ++ List.replicate 40 0

/-- Write the image of plot `p` to the image buffer, the checkpoint area from offset 0 (R487): the header in clear, the rest
sealed. A buffer that no memory open to AC0 holds ends the job with the status of the access (R27). -/
def imageStore (s : State) (p : Nat) (img : PlotImage) : State :=
  let h := imageHeader s img
  let len := (img.sections.map sectionLen).sum + 16
  let c := areaStatus (4096 * s.rd F.PC_CKPT_BASE_BASE) (h.length + len + 16)
  if c ≠ 0 then
    match (s.plot p).job with
    | some j => jobEnd s j 5 c
    | none => s
  else
  let body := (List.range (len + 16)).map fun i => Config.imageSeal (keyMat s (s.rd F.PC_MIG_KEY_KEYSLOT)) h i
  let s := s.took.took.putBytes (4096 * s.rd F.PC_CKPT_BASE_BASE) (h ++ body)
  { s with pc := { s.pc with buffer := some img } }

/-- Set every field of a register from a word, whatever its access; no stored value is that of the mode register. -/
def rawWord (s : State) (a v : Nat) : State :=
  if a = F.GIRTH_MODE_MODE.addr then s else (fieldsAt a).foldl (fun t f => t.wr f (f.slice v)) s

/-- Words of a packet of an image as a queue stores them. -/
def imgWords : List (Word × Bool) → List QWord
  | [] => []
  | [(d, x)] => [⟨d, true, x, none⟩]
  | (d, x) :: r => ⟨d, false, x, none⟩ :: imgWords r

/-- The packets of an image stored in the filling bank of queue `q`, ahead of what it holds (R484). -/
def imgQueue (s : State) (q : Nat) (l : List (Nat × List (Word × Bool))) : State :=
  let place := fun (a : Nat × List QPacket) (k : Nat × List (Word × Bool)) =>
    (a.1 + k.2.length, a.2 ++ [(⟨k.1, placeWords a.1 (imgWords k.2)⟩ : QPacket)])
  let pk := (l.foldl place (furPos s q, [])).2
  let s := (pk.flatMap (·.words)).foldl furPut s
  furSync (s.setQueue q { s.queue q with fill := pk ++ (s.queue q).fill }) q

/-- Apply one section to the resources the module's own tables give plot `p`. -/
def sectionApply (p : Nat) (s : State) (x : ImgSection) : State :=
  match x with
  | .core _ _ => s
  | .memory r b => if r < 8 then s.putBytes (regionBase s p r) (b.take (regionSize s p r)) else s
  | .queue q l =>
    if q < 64 ∧ s.rd (F.Q_OWN_CONS q) = p then imgQueue s q l else s
  | .regs type i l =>
    let mine := plotWords s p type i
    l.foldl (fun t w => if mine.contains w.1 then rawWord t w.1 w.2 else t) s

/-- Why an image is not restored into plot `p`, if it is not (R484, R473, R502). -/
def restoreRefusal (s : State) (img : PlotImage) (tagOk partner : Bool) : Option Nat :=
  match keyRefusal s (s.rd F.PC_MIG_KEY_KEYSLOT) useMigrate with
  | some c => some c
  | none =>
    if !tagOk then some 0x0501
    else if !img.formOk then some 0x0101
    else if img.digest != s.pc.digest16 || (partner && !s.rdB F.PC_STAT_SPAN_MATCH) then some 0x0302
    else if 8 ≤ img.plot || !(plotState s img.plot == 1 || plotState s img.plot == 6) then some 0x0303
    else none

/-- Write an image into plot `p`'s resources; the plot waits for its window as RESTORING (R484). -/
def restoreApply (s : State) (img : PlotImage) : State :=
  let p := img.plot
  let s := img.sections.foldl (sectionApply p) s
  let own := bitsWhere (fun n => dioOwner s n == p) 32
  let s := { s with girth := { s.girth with ownDio := s.girth.ownDio ||| BitVec.ofNat 32 own } }
  let s := s.wr F.STR_GONE_DIO_GONE (s.rd F.STR_GONE_DIO_GONE &&& (~~~(BitVec.ofNat 32 own)).toNat)
  plotRecord (canSyncAll (followAll (subSync (plotCatch (plotTo s p 7) p)))) p 7 0xFF

/-- The running RESTORE job, if any. -/
def restoreJob (s : State) : Option Nat := (List.range 32).find? fun j =>
  let x := s.job j
  x.kind == 7 && x.state == 2 && migOp x == 2

/-- IMAGE_RESTORE (R484): with a RESTORE job running, the image in the image buffer decrypts to `img`, or is the one that
SAVE left there; without one, the partner's image arrives and is answered. -/
def execImageRestore (img : PlotImage) (tagOk : Bool) (s : State) : Res :=
  .next (match restoreJob s with
    | some j =>
      let x := s.pc.buffer.getD img
      let code := if x.plot != migPlot (s.job j) then some 0x0303 else restoreRefusal s x (tagOk || s.pc.buffer.isSome) false
      (match code with
      | some c => jobEnd s j 5 c
      | none => jobTo (claimAll (restoreApply s x)) j 4 0)
    | none =>
      match restoreRefusal s img tagOk true with
      | some c => s.emit (.xl (.restoreConfirm img.plot c))
      | none => (restoreApply s img).emit (.xl (.restoreConfirm img.plot 0)))

/-! ## Freeze (R482) and what follows it -/

/-- Start a freeze for a purpose: 1 FREEZE, 2 MIGRATE, 3 SAVE, 4 CHECKPOINT, 5 HANDOFF; the plot's jobs end, but the one
that freezes it. -/
def freezeStart (s : State) (p purpose : Nat) (job : Option Nat) : State :=
  let x := s.plot p
  let s := s.setPlot p { x with freeze := purpose, job := job, since := s.now, ckptAt := if purpose = 4 then s.now else x.ckptAt }
  jobsEnd s (fun j x => x.owner == p && some j != job) 0x0707

/-- FREEZE_DONE (R482, R486-R488): the drain completes or reaches its bound; the image goes to the partner or to the buffer. -/
def freezeDone (s : State) (p : Nat) : State :=
  let k := (s.plot p).freeze
  if k = 0 ∨ plotState s p ≠ 3 ∨ (drainOpen s p ∧ !drainLate s (s.plot p).since) then s
  else
    let s := drainEnd s p
    let s := plotTo (s.setPlot p { s.plot p with frozenAt := s.stamp }) p 5
    let s := plotRecord s p 4 0xFF
    let img := plotImage s p
    if k = 2 ∨ k = 5 then s.emit (.xl (.plotImage img))
    else if k = 3 then imageStore s p img
    else if k = 4 then
      let n := (s.plot p).ckpt + 1
      let s := (s.setPlot p { s.plot p with ckpt := n }).emit (.xl (.checkpoint n img))
      plotThaw (plotRecord s p 8 0xFF) p
    else s.setPlot p { s.plot p with freeze := 0 }

/-- FREEZE_DONE (R482). -/
def execFreezeDone (p : Fin 8) (s : State) : Res := .next (freezeDone s p)

/-! ## Commands (R478, Table 20-4) -/

/-- A plot command from a permitted source. -/
def plotCommand (s : State) (r : Req) (p cmd : Nat) : State :=
  let st := plotState s p
  let busy := (s.plot p).freeze != 0
  let self := match r with | .plot k => k.val == p | _ => false
  if !(r.supOrStitch || (self && cmd == 3)) then s.status 0x0207
  else if cmd = 0 ∨ 6 < cmd then s.status 0x030B
  else if cmd = 1 then
    if st ≠ 1 ∨ s.mode = mQUARANTINE then s.status 0x0303 else (plotTo s p 2).status 0
  else if cmd = 2 then
    if st ≠ 3 ∧ st ≠ 5 then s.status 0x0303 else (plotReset s p false).status 0
  else if cmd = 3 then
    if st ≠ 2 ∧ st ≠ 3 ∧ st ≠ 5 then s.status 0x0303
    else (plotReset (if self then s.wr (F.PC_PFLT_SELF_RESET p) 1 else s) p true).status 0
  else if cmd = 4 then
    if st ≠ 3 ∨ busy then s.status 0x0303 else (freezeStart s p 1 none).status 0
  else if cmd = 5 then
    if st ≠ 5 ∨ busy then s.status 0x0303 else (plotThaw s p).status 0
  else if st ≠ 3 ∨ busy ∨ recTakeover (plotRec s p) ≠ 2 then s.status 0x0303
  else if !s.rdB F.XL_STAT_LINK then s.status 0x0111
  else (freezeStart s p 4 none).status 0

/-- PLOT_START (R478). -/
def execPlotStart (r : Req) (p : Fin 8) (s : State) : Res := .next (hostWrite s r (F.PC_PCMD_CMD p).addr (plotCommand s r p 1))
/-- PLOT_STOP (R478). -/
def execPlotStop (r : Req) (p : Fin 8) (s : State) : Res := .next (hostWrite s r (F.PC_PCMD_CMD p).addr (plotCommand s r p 2))
/-- PLOT_RESET (R480). -/
def execPlotReset (r : Req) (p : Fin 8) (s : State) : Res := .next (hostWrite s r (F.PC_PCMD_CMD p).addr (plotCommand s r p 3))
/-- FREEZE (R482). -/
def execFreeze (r : Req) (p : Fin 8) (s : State) : Res := .next (hostWrite s r (F.PC_PCMD_CMD p).addr (plotCommand s r p 4))
/-- THAW (R482). -/
def execThaw (r : Req) (p : Fin 8) (s : State) : Res := .next (hostWrite s r (F.PC_PCMD_CMD p).addr (plotCommand s r p 5))
/-- CHECKPOINT (R488). -/
def execCheckpoint (r : Req) (p : Fin 8) (s : State) : Res :=
  .next (hostWrite s r (F.PC_PCMD_CMD p).addr (plotCommand s r p 6))

/-- CHECKPOINT_TIMER (R488): CKPT seconds have passed since the plot's last checkpoint. -/
def execCheckpointTimer (p : Fin 8) (s : State) : Res :=
  .next (if plotState s p == 3 && (s.plot p).freeze == 0 &&
      decide ((s.plot p).ckptAt + 80000000 * recCkpt (plotRec s p) ≤ s.now) && recTakeover (plotRec s p) == 2 && s.rdB F.XL_STAT_LINK then
    freezeStart s p 4 none else s)

/-- CHECKPOINT_RX (R488): the partner's image of a plot is complete and replaces the one held; a partial one is
discarded. -/
def execCheckpointRx (num : Nat) (img : PlotImage) (complete : Bool) (s : State) : Res :=
  .next (if complete && decide (img.plot < 8) then
    (s.setPlot img.plot { s.plot img.plot with held := some (num, img) }).wr (F.PC_PSTAT_CKPT_VALID img.plot) 1 else s)

/-! ## Migration (R486) -/

/-- A DIO channel of a plot that has moved: the stage goes off here and STR_GONE_DIO records it (R356). -/
def dioGive (s : State) (n : Nat) : State :=
  let s := { s with girth := { s.girth with ownDio := s.girth.ownDio &&& ~~~(BitVec.ofNat 32 (2 ^ n)) } }
  let s := dioFollow (s.hwWr (F.DIO_REQ_ON n) 0) n
  subSync (s.setBit F.STR_GONE_DIO_GONE n)

/-- Offer an owned LS channel to the partner for release (R338), once. -/
def lsOffer (s : State) (n : Nat) : State :=
  if s.girth.ownLs.getLsbD n && !s.girth.offered.getLsbD n then
    State.emit { s with girth := { s.girth with offered := s.girth.offered ||| BitVec.ofNat 24 (2 ^ n) } } (.xl (.lsRelease n))
  else s

/-- The plot has left: slots, buffers, elements and queues end here, its sessions close, its channels are released. -/
def plotLeave (s : State) (p : Nat) : State :=
  let s := plotTo (s.setPlot p { s.plot p with freeze := 0, job := none }) p 6
  let s := (plotSlots s p).foldl (fun t n => t.hwWr (F.SLOT_CTL_EN n) 0) s
  let s := forN (fun i t =>
    let t := (plotBufs t i p).foldl (fun u b => bufPut (setCanBuf u i b {}) i b 0) t
    (plotElems t i p).foldl (fun u e => u.hwWr (F.CAN_FE_ID_EN i e) 0) t) 8 s
  let s := forN (fun q t => if t.rd (F.Q_OWN_CONS q) = p then furSync (furEmpty t q) q else t) 64 s
  let s := closeSessions (debugDrop s p) fun _ x => x.plot == p
  let s := forN (fun n t => if lsOwner t n == p then lsOffer t n else t) 24 s
  forN (fun n t => if dioOwner t n == p && t.girth.ownDio.getLsbD n then dioGive t n else t) 32 s

/-- A migration that the partner refused, or that lost XL, ends before the confirmation (R486). -/
def migrateFail (s : State) (p code : Nat) : State :=
  match (s.plot p).job with
  | some j => jobEnd s j 5 code
  | none =>
    let s := plotThaw (s.wr (F.PC_PFLT_MIG_FAIL p) 1) p
    handoffRefuse s

/-- MIGRATE_CONFIRM_RX (R486): the partner's confirmation, or the code with which it refused. -/
def execMigrateConfirmRx (p : Fin 8) (code : BitVec 16) (s : State) : Res :=
  let k := (s.plot p).freeze
  .next (if !(plotState s p == 5 && (k == 2 || k == 5)) then s
    else if code ≠ 0 then migrateFail s p code.toNat
    else
      let job := (s.plot p).job
      let s := plotLeave (plotRecord s p 6 0xFF) p
      match job with
      | some j => jobTo s j 4 0
      | none => s)

/-! ## Time windows (R475) -/

/-- The entry of core `c` in the plan in force: window `w` as owner. -/
def planOwner (s : State) (c w : Nat) : Nat :=
  if w < byteNat s.pc.plan (136 * c + 2) then byteNat s.pc.plan (136 * c + 12 + 8 * w) else 0xFF

/-- WINDOW_BOUNDARY (R475): window `w` of core `c` begins, or none does. A plot that is STARTING or RESTORING runs from its
window on; a window whose owner does not run is idle. -/
def execWindowBoundary (c : Fin 4) (w : Option (Fin 16)) (s : State) : Res :=
  let k := match w with | some k => k.val | none => 0
  let o := match w with | some k => planOwner s c k.val | none => 0xFF
  let s := if o < 8 ∧ (plotState s o = 2 ∨ plotState s o = 7) then plotTo s o 3 else s
  let shown := if o = 8 ∨ (o < 8 ∧ plotState s o = 3) then o else 0xF
  .next (((s.wr (F.PC_TP_STAT_OWNER c) shown).wr (F.PC_TP_STAT_WINDOW c) k).emit (.irq 8 (256 + c.val)))

/-! ## Start and takeover (R476, R489) -/

/-- The state of a plot at the end of BOOT (R476). -/
def plotBoot (p : Nat) (s : State) : State :=
  let b := plotRec s p
  if !recEn b then s
  else
    let here := recHome b == (s.rdB F.SEAT_STAT_SIDE).toNat
    let span := s.girth.spanMember
    let partner := s.partner.seen && s.partner.alive
    if span && partner && !here then plotTo s p 6
    else if span && !here then plotTo s p 1
    else plotTo s p (if recImage b = 0xFF then 1 else 2)

/-- The partner is lost and this module takes over: a plot that ran there (R489, R473). -/
def plotTakeover (p : Nat) (s : State) : State :=
  if plotState s p != 6 then s
  else
    let b := plotRec s p
    let s := plotTo s p 1
    if !s.rdB F.PC_STAT_SPAN_MATCH then s
    else match recTakeover b with
      | 1 => if recImage b = 0xFF then s else plotTo s p 2
      | 2 => (match (s.plot p).held with
        | some (_, img) => restoreApply s img
        | none => if recImage b = 0xFF then s else plotTo s p 2)
      | _ => s

/-! ## Register writes (R491) -/

/-- A write of the plot controller window, `o` its offset. -/
def pcWrite (s : State) (r : Req) (a v : Nat) : State :=
  let o := a - 0x20C00000
  let p := (o - 0x100) / 0x40
  let k := (o - 0x100) % 0x40
  if 0x100 ≤ o ∧ o < 0x300 ∧ k = 0 then
    if v / 65536 ≠ 0x71E4 then s.status 0x0207 else plotCommand s r p (v % 16)
  else if 0x100 ≤ o ∧ o < 0x300 ∧ k = 0x1C then wdogKick s r p v
  else if o = 4 then
    if r ≠ .supervisor ∨ v / 65536 ≠ 0x71E4 then s.status 0x0207
    else if v % 2 = 1 then tablesCommit s else s.status 0
  else if !r.supOrStitch then s.status 0x0207
  else (s.writeWord a v).status 0

end Sys2Proof.Machine
end

