-- ==== Sys2Proof/Machine/Graft.lean ====
section
/-! DEFINITION. Graft (22_graft_update.md): banks, blocks, the form of an image, verification at a start. -/

namespace Sys2Proof.Machine

/-! ## Banks and their registers (R531, R546) -/

def State.bank (s : State) (b : Nat) : Bank := s.grf.banks.get b {}

/-- Page 0 of a bank: the header of its image (Table 22-1), if it is written. -/
def Bank.header (k : Bank) : Option (List Byte) := k.pages.find? 0
def Bank.len (k : Bank) : Nat := match k.header with | some h => numIn h 8 4 | none => 0
/-- Pages of 4,096 bytes up to LEN. -/
def Bank.need (k : Bank) : Nat := (k.len + 4095) / 4096

/-- GRF_BANK(b) shows a bank. -/
def bankSync (b : Nat) (s : State) : State :=
  let k := s.bank b
  let h := k.header.getD (List.replicate 4096 0)
  let s := ((s.wr (F.GRF_BANK_STATE b) k.state).wr (F.GRF_BANK_LEN_LEN b) (numIn h 8 4)).wr (F.GRF_BANK_SECVER_SEC_VER b) (numIn h 12 4)
  let s := (s.wr (F.GRF_BANK_PAGES_PAGES b) k.pages.length).wr (F.GRF_BANK_BUILD_LO_BUILD_LO b) (numIn h 16 4)
  (s.wr (F.GRF_BANK_BUILD_HI_BUILD_HI b) (numIn h 20 4)).wr (F.GRF_BANK_FMT_SETFMT b) (numIn h 24 2)

def State.setBank (s : State) (b : Nat) (k : Bank) : State :=
  bankSync b { s with grf := { s.grf with banks := s.grf.banks.set b k } }

/-- GRF_STAT shows the bank-select record and the running bank. -/
def grfSync (s : State) : State :=
  let s := ((s.wr F.GRF_STAT_RUN_BANK s.grf.running).wr F.GRF_STAT_PREF s.grf.pref).wrB F.GRF_STAT_TRIAL s.grf.trial
  bankSync 1 (bankSync 0 s)

/-- The spare bank. -/
def spare (s : State) : Nat := 1 - s.grf.running

/-! ## Form of an image (R528, R529) -/

/-- Section entry `e` of a header. -/
def sectEntry (h : List Byte) (e : Nat) : List Byte := (h.drop (128 + 64 * e)).take 64
def sectOffset (x : List Byte) : Nat := numIn x 4 4
def sectLen (x : List Byte) : Nat := numIn x 8 4

/-- The sections of a header. -/
def sections (h : List Byte) : List (List Byte) := (List.range (byteNat h 6)).map (sectEntry h)

/-- An entry is well formed: its type, its signer, its place. -/
def sectOk (len : Nat) (x : List Byte) : Bool :=
  let t := byteNat x 0
  let kind := (decide (1 ≤ t) && decide (t ≤ 7) && byteNat x 2 == 0) || (t == 0x10 && decide (byteNat x 1 ≤ 15) && byteNat x 2 == 1)
  kind && byteNat x 3 == 0 && zeros x 60 4 && sectOffset x % 4096 == 0 && decide (4096 ≤ sectOffset x) &&
    decide (sectOffset x + sectLen x ≤ len)

/-- Sections follow one another. -/
def sectOrder : List (List Byte) → Bool
  | x :: y :: r => decide (sectOffset x + sectLen x ≤ sectOffset y) && sectOrder (y :: r)
  | _ => true

/-- A complete image of the right form. -/
def imageFormOk (k : Bank) : Bool :=
  match k.header with
  | none => false
  | some h =>
    let n := byteNat h 6
    let l := sections h
    let types := l.map fun x => byteNat x 0
    let plots := (l.filter fun x => byteNat x 0 == 0x10).map fun x => byteNat x 1
    numIn h 0 4 == 0x54465247 && halfNat h 4 == 1 && decide (1 ≤ n) && decide (n ≤ 32) && decide (byteNat h 7 < 32) &&
    decide (4096 ≤ k.len) && decide (k.len ≤ 25165824) && decide (byteNat h 26 ≤ 1) && byteNat h 27 == 0 &&
    (byteNat h 26 == 1 || zeros h 28 48) && zeros h 76 52 && zeros h (128 + 64 * n) (64 * (32 - n)) &&
    (byteNat h 7 != 0 || zeros h 2368 96) && zeros h 2464 1632 && l.all (sectOk k.len) && sectOrder l &&
    ((List.range 7).all fun t => types.count (t + 1) == 1) && plots.all (fun i => plots.count i == 1) &&
    (List.range k.need).all fun p => (k.pages.find? p).isSome

/-! ## Blocks (R534, R535) -/

/-- The running transfer job, if any. -/
def transferJob (s : State) : Option Nat := jobOfKind s 1

/-- A block as pages: number and content, the last page filled as erased flash reads. -/
def blockPages : Nat → Nat → List Byte → List (Nat × List Byte)
  | 0, _, _ => []
  | n + 1, p, d =>
    if d.isEmpty then [] else (p, d.take 4096 ++ List.replicate (4096 - (d.take 4096).length) 0xFF) :: blockPages n (p + 1) (d.drop 4096)

/-- The status of a block of the spare bank (R534); `progErr` says that programming it fails. -/
def blockRefusal (s : State) (offset : Nat) (data : List Byte) (progErr : Bool) : Option Nat :=
  let k := s.bank (spare s)
  let e := offset + data.length
  let len := if offset = 0 then numIn data 8 4 else k.len
  let endOk := e % 4096 == 0 || ((k.header.isSome || offset == 0) && e == len)
  let old := blockPages 17 (offset / 4096) data |>.filterMap fun p => (k.pages.find? p.1).map fun c => c == p.2
  if (transferJob s).isNone then some 0x0303
  else if k.state ≠ 2 then some 0x0304
  else if data.isEmpty ∨ offset % 4096 ≠ 0 ∨ !endOk ∨ 25165824 < e then some 0x0301
  else if old.any (! ·) then some 0x0302
  else if !s.rdB F.RAIL_STAT_HOLDUP_OK then some 0x0303
  else if progErr then some 0x0611
  else none

/-- When every page up to LEN is written the image is complete (R535). -/
def transferCheck (s : State) (j : Nat) : State :=
  let b := spare s
  let k := s.bank b
  let done := k.header.isSome && (List.range k.need).all fun p => (k.pages.find? p).isSome
  if !done then s
  else if imageFormOk k then jobTo (s.setBank b { k with state := 3 }) j 4 0
  else jobTo (s.setBank b {}) j 5 0x0101

/-- A block is checked and programmed. -/
def blockWrite (s : State) (offset : Nat) (data : List Byte) (progErr : Bool) : State × Nat :=
  match blockRefusal s offset data progErr with
  | some c => (if c = 0x0611 then s.wr F.GRF_FLT_PROG_ERR 1 else s, c)
  | none =>
    let b := spare s
    let k := s.bank b
    let pages := (blockPages 17 (offset / 4096) data).foldl (fun m p => SMap.set m p.1 p.2) k.pages
    let s := s.setBank b { k with pages := pages }
    let k := s.bank b
    match transferJob s with
    | none => (s, 0)
    | some j =>
      let x := s.job j
      let prog := if k.header.isSome then min 1000 (1000 * k.pages.length / max 1 k.need) else 0
      (transferCheck (s.setJob j { x with progress := prog }) j, 0)

/-- GRAFT_BLOCK_WRITE (R534): a write of object 0xB018:02 completes, at the offset of 0xB018:01. -/
def execGraftBlockWrite (data : List Byte) (progErr : Bool) (s : State) : Res :=
  .next (if 65536 < data.length then s.status 0x0301
    else
      let (t, c) := blockWrite s (s.obj 0xB018 1 0) data progErr
      t.status c)

/-- SVC_BLOCK (R534): a transfer on bulk OUT endpoint 0x01, taken while VBUS is present and SOURCE is SVC; its status
returns on endpoint 0x81. In the modes that Table 2-6 gives no transfer to, SVC takes none. -/
def execSvcBlock (bytes : List Byte) (progErr : Bool) (s : State) : Res :=
  let offset := numIn bytes 4 4
  let data := bytes.drop 16
  let svc := match transferJob s with
    | some j => (s.job j).par.getD 0 0 % 2 == 1
    | none => true
  let off := s.mode == 0 || s.mode == mSEATING || s.mode == mDORMANCY || s.mode == mQUARANTINE
  .next (if off || !s.grf.vbus || !svc then s
    else if numIn bytes 0 4 ≠ 0x4B4C4247 ∨ numIn bytes 8 4 ≠ data.length ∨
        (crc32From 0xFFFFFFFF data) ^^^ 0xFFFFFFFF ≠ numIn bytes 12 4 then
      if (transferJob s).isNone then s.emit (.svcStatus offset 0x0303) else s.emit (.svcStatus offset 0x0101)
    else
      let (t, c) := blockWrite s offset data progErr
      t.emit (.svcStatus offset c))

/-- BANK_ERASE_DONE (R533): the erase ends and the bank is LOADING; or it fails, and the job with it. -/
def execBankEraseDone (ok : Bool) (s : State) : Res :=
  let b := spare s
  .next (if (s.bank b).state ≠ 1 then s
    else
      let s := (s.setBank b { state := 2 }).wr F.GRF_STAT_BUSY 0
      if ok then s
      else
        let s := s.wr F.GRF_FLT_ERASE_ERR 1
        match transferJob s with
        | some j => jobTo s j 5 0x0611
        | none => s)

/-- A transfer job enters RUNNING (R533): with CONTINUE and a bank LOADING the pages are kept, else the bank is erased. -/
def transferStart (s : State) (j : Nat) : State :=
  let b := spare s
  if (s.job j).par.getD 0 0 / 2 % 2 = 1 ∧ (s.bank b).state = 2 then s
  else (s.setBank b { state := 1 }).wr F.GRF_STAT_BUSY 1

/-- The Tilth microcode of a bank's image: the bytes of its section (Table 22-2), at most the store's 16,384 words. -/
def ucBytes (k : Bank) : List Byte :=
  match (sections (k.header.getD [])).find? fun x => byteNat x 0 == 4 with
  | none => []
  | some x =>
    let pages := (List.range ((sectLen x + 4095) / 4096)).flatMap fun i => k.pages.get (sectOffset x / 4096 + i) []
    (pages.take (sectLen x)).take 65536

/-! ## Verification at a start (R536, R537) -/

/-- The first step that a bank fails, with its code (Table 22-4). -/
def bankFault (s : State) (b : Nat) (c : BankCheck) : Option (Nat × Nat) :=
  let k := s.bank b
  let h := k.header.getD []
  let slot := byteNat h 7
  let key := match s.clo.keys.find? slot with
    | some x => x.uses.testBit useImage && x.type == 2
    | none => false
  let plots := (sections h).any fun x => byteNat x 0 == 0x10
  if !((k.state == 3 || k.state == 4) && imageFormOk k) then some (1, 0x0101)
  else if !c.sigS then some (2, 0x0507)
  else if lcKeyed s && (s.rdB F.CLO_STAT_ROOT_FAIL || !key) then some (3, 0x0504)
  else if lcKeyed s && !c.sigO then some (3, 0x0507)
  else if !lcKeyed s && plots then some (3, 0x0504)
  else if byteNat h 26 = 1 ∧ (h.drop 28).take 48 ≠ idDigest s then some (4, 0x0508)
  else if numIn h 12 4 < cloCtr s 3 then some (5, 0x050A)
  else if !c.digests || (crc32From 0xFFFFFFFF (ucBytes k)) ^^^ 0xFFFFFFFF != c.ucCrc.toNat then some (6, 0x0507)
  else none

/-- A bank that fails becomes FAILED, and GRF_FAIL says where (R537). -/
def bankFail (s : State) (b step code : Nat) : State :=
  let s := s.setBank b { s.bank b with state := 5 }
  ((s.wr F.GRF_FAIL_STATUS code).wr F.GRF_FAIL_BANK b).wr F.GRF_FAIL_STEP step

/-- Verify the bank that PREF names, then the other; the answer says whether one runs (R536, R537). -/
def bankSelect (s : State) (c0 c1 : BankCheck) : State × Bool :=
  let chk := fun (b : Nat) => if b = 0 then c0 else c1
  let p := s.grf.pref
  match bankFault s p (chk p) with
  | none => (grfSync { s with grf := { s.grf with running := p } }, true)
  | some (step, code) =>
    let s := bankFail s p step code
    let q := 1 - p
    match bankFault s q (chk q) with
    | none => (grfSync (State.wr { s with grf := { s.grf with running := q } } F.GRF_FLT_BOOT_FALLBACK 1), true)
    | some (step, code) => (bankFail s q step code, false)

/-- RUN or SERVICE is reached on the running bank (R539): counter 3 follows SEC_VER, a lower spare is REVOKED, the running
bank is VERIFIED and TRIAL clears. -/
def bankAccepted (s : State) : State :=
  let b := s.grf.running
  let sec := fun (k : Bank) => match k.header with | some h => numIn h 12 4 | none => 0
  let v := sec (s.bank b)
  let k := s.bank (spare s)
  let s := if cloCtr s 3 < v ∧ flashOk s then
      let s := ctrSet s 3 v
      if k.header.isSome && decide (sec k < v) then s.setBank (spare s) { k with state := 6 } else s
    else s
  let s := s.setBank b { s.bank b with state := 4 }
  grfSync (if flashOk s then { s with grf := { s.grf with trial := false } } else s)

/-- SETFMT of the running image. -/
def runFmt (s : State) : Nat := match (s.bank s.grf.running).header with | some h => numIn h 24 2 | none => 0

/-- A write of the Graft window: only W1C bits (R546). -/
def grfWrite (s : State) (r : Req) (a v : Nat) : State :=
  if a = 0x21100004 ∧ r.supOrStitch then (s.writeWord a v).status 0 else s.status 0x0207

end Sys2Proof.Machine
end

