-- ==== Sys2Proof/Machine/Jobs.lean ====
section
/-! DEFINITION. Jobs (19_stitch_dictionary.md): claiming a slot, the commands, the checks of each kind and what it does when
it begins. Key updates (R505, R506), migrations (R485), self-tests (R467). -/

namespace Sys2Proof.Machine

/-- Roles (Table 19-6). -/
def roleService : Nat := 3
def roleSafety : Nat := 4
def roleSecurity : Nat := 5
def roleUpdate : Nat := 6
def roleSupervisor : Nat := 7
def Prin.has (x : Prin) (role : Nat) : Bool := x.roles.toNat.testBit role

/-- A slot that is claimed and by whom (R462). -/
def Job.mine (x : Job) (p : Prin) : Bool := x.kind != 0 && x.owner == p.plot.val

/-- How many jobs of a kind may be RUNNING (R464). -/
def jobLimit (kind : Nat) : Nat := if kind = 3 ∨ kind = 4 then 2 else 1
def jobRunningOf (s : State) (kind : Nat) : Nat := ((List.range 32).filter fun j => (s.job j).kind == kind && (s.job j).state == 2).length

/-! ## Claims (R462) -/

/-- A write of job.j.kind. -/
def jobKindWrite (s : State) (j : Nat) (p : Prin) (kind : Nat) : State :=
  let x := s.job j
  if x.kind = 0 then
    if kind = 0 then s.status 0
    else if 8 < kind then s.status 0x0704
    else (s.setJob j { kind := kind, owner := p.plot.val }).status 0
  else if !x.mine p then s.status (if kind ≠ 0 ∧ (List.range 32).all (fun k => (s.job k).kind != 0) then 0x0308 else 0x0703)
  else if !(x.state == 0 || jobFinal x.state) then s.status 0x0701
  else if kind = 0 then (s.setJob j {}).status 0
  else if 8 < kind then s.status 0x0704
  else (s.setJob j { x with kind := kind }).status 0

/-- JOB_KIND_WRITE (R462). -/
def execJobKindWrite (j : Fin 32) (p : Prin) (kind : BitVec 8) (s : State) : Res := .next (jobKindWrite s j p kind.toNat)

/-- A write of job.j.arg or job.j.queue by the owner (R462, R466). -/
def jobArgWrite (s : State) (j : Nat) (p : Prin) (queue : Bool) (v : Nat) : State :=
  let x := s.job j
  if !x.mine p then s.status 0x0703
  else if !queue then (s.setJob j { x with arg := v }).status 0
  else if v.testBit 7 && s.rd (F.Q_OWN_CONS (v % 64)) != x.owner then s.status 0x0206
  else (s.setJob j { x with queue := v }).status 0

/-! ## Key updates (R505, R506) -/

/-- An entry of a key update message. -/
def kuEntry (b : List Byte) (e : Nat) : List Byte := (b.drop (80 + 8 * e)).take 8
def kuEntries (b : List Byte) : List (List Byte) := (List.range (byteNat b 6)).map (kuEntry b)

/-- An entry against Table 21-2. -/
def kuEntryOk (x : List Byte) : Bool :=
  let slot := byteNat x 0
  let load := byteNat x 1 == 1
  let type := byteNat x 2
  let uses := byteNat x 3
  let plot := byteNat x 4
  let roles := byteNat x 5
  let stitch := uses.testBit 0
  let kinds := if slot = 1 then type == 1 && uses == 0x10 else if slot = 2 then type == 2 && uses == 0x20
    else (type == 1 || type == 2) && decide (uses < 16) && (!uses.testBit 3 || type == 2) &&
      (!stitch || (type == 1 && decide (plot < 8) && roles != 0))
  slot != 0 && decide (slot < 32) && (byteNat x 1 == 1 || byteNat x 1 == 2) && (!load || kinds) &&
    (decide (plot < 8) || plot == 0xFF) && (roles == 0 || stitch) && zeros x 6 2

/-- Why START of a key update is refused, in the order of R506. -/
def kuRefusal (s : State) (b : List Byte) (sigOk tagOk : Bool) : Option Nat :=
  let loads := ((kuEntries b).filter fun x => byteNat x 1 == 1).length
  let slots := (kuEntries b).map fun x => byteNat x 0
  let form := b.length == 256 + 96 * byteNat b 7 && decide (b.length ≤ 1024) && numIn b 0 4 == 0x50554B43 && numIn b 4 2 == 1 &&
    decide (1 ≤ byteNat b 6) && decide (byteNat b 6 ≤ 8) && loads == byteNat b 7 && zeros b 60 4 && zeros b 76 4 &&
    zeros b (80 + 8 * byteNat b 6) (64 - 8 * byteNat b 6)
  if !form then some 0x0101
  else match keyRefusal s 2 useOwnerSign with
    | some c => some c
    | none =>
      if !sigOk then some 0x0507
      else if (b.drop 8).take 48 ≠ idDigest s then some 0x0508
      else if numIn b 56 4 ≤ cloCtr s 0 then some 0x050A
      else match keyRefusal s 1 useKek with
        | some c => some c
        | none =>
          if !tagOk then some 0x0501
          else if !(kuEntries b).all kuEntryOk || slots.any (fun x => slots.count x != 1) then some 0x0301
          else none

/-- The blobs of an accepted message: material in entry order, as slot 1's key decrypts it. -/
def kuBlobs (s : State) (b : List Byte) : List KeyBlob :=
  let key := match s.clo.keys.find? 1 with | some k => k.mat | none => []
  let plain := Config.gcmOpen key ((b.drop 64).take 12) (b.take 144) ((b.drop 144).take (96 * byteNat b 7 + 16))
  let es := kuEntries b
  (List.range es.length).map fun e =>
    let x := es.getD e []
    let before := ((es.take e).filter fun y => byteNat y 1 == 1).length
    let load := byteNat x 1 == 1
    { slot := byteNat x 0, type := if load then byteNat x 2 else 0, uses := byteNat x 3, plot := byteNat x 4,
      roles := byteNat x 5, version := numIn b 56 4,
      mat := if load then (plain.drop (96 * before)).take (if byteNat x 2 = 1 then 32 else 96) else [] }

/-- A key update enters RUNNING: the PREPARE records, progress 500 (R506), once flash may be written (R75). -/
def kuBegin (s : State) (j : Nat) : State :=
  if !flashOk s then s
  else
  let b := s.objBytes.get (objKey 0x9020 1) []
  let l := kuBlobs s b
  let s := journalAppend { s with clo := { s.clo with ku := some (l, numIn b 56 4, false) } } l.length
  s.setJob j { s.job j with progress := 500 }

/-- The COMMIT record and counter 0; progress 900. -/
def kuCommit (s : State) (j : Nat) : State :=
  match s.clo.ku with
  | some (l, c, false) =>
    let s := l.foldl journalPut { s with clo := { s.clo with ku := some (l, c, true) } }
    (journalAppend (ctrSet s 0 c) 1).setJob j { s.job j with progress := 900 }
  | _ => s

/-- The loads: sessions of the slots concerned close, and the job is DONE. -/
def kuLoad (s : State) (j : Nat) : State :=
  match s.clo.ku with
  | some (l, _, _) =>
    let s := l.foldl loadSlot { s with clo := { s.clo with ku := none } }
    jobTo (closeSessions s fun _ x => l.any fun b => b.slot == x.cred) j 4 0
  | none => s

/-! ## The owners' checks of START (R463) -/

/-- Is a job of kind `k` not in a final state (nor idle)? -/
def jobPending (s : State) (k : Nat) : Bool := (List.range 32).any fun j => (s.job j).kind == k && (s.job j).active

/-- An entry of a recommissioning package (R544): index, sub-index, type code, value. -/
structure RecomEntry where
  idx : Nat := 0
  sub : Nat := 0
  typ : Nat := 0
  value : List Byte := []
  deriving DecidableEq, Repr

/-- `n` entries that fill the bytes exactly, each value zero-padded to 4 bytes. -/
def recomParse : Nat → List Byte → Option (List RecomEntry)
  | 0, b => if b.isEmpty then some [] else none
  | n + 1, b =>
    let len := halfNat b 4
    let pad := (len + 3) / 4 * 4
    if b.length < 8 + pad ∨ !zeros b 6 2 ∨ !zeros b (8 + len) (pad - len) then none
    else
      let x : RecomEntry := { idx := halfNat b 0, sub := byteNat b 2, typ := byteNat b 3, value := (b.drop 8).take len }
      (recomParse n (b.drop (8 + pad))).map fun l => x :: l

/-- The entries of a recommissioning package; none when it is malformed (R544). -/
def recomEntries (b : List Byte) : Option (List RecomEntry) :=
  if 18 ≤ b.length ∧ numIn b 0 4 = 0x4D435247 ∧ halfNat b 4 = 1 ∧ zeros b 10 8 then recomParse (halfNat b 6) (b.drop 18) else none

/-- The parameters that START reads for job `j` (R468). -/
def jobPar (s : State) (x : Job) : List Nat :=
  match x.kind with
  | 3 => sweepRead s x.owner
  | 4 => (dumpRead s x.owner).list
  | _ => [x.arg]

/-- The owner's code, if it refuses START. -/
def startRefusal (s : State) (x : Job) (p : Prin) (sigOk tagOk : Bool) : Option Nat :=
  let arg := x.arg
  match x.kind with
  | 1 =>
    if !p.has roleUpdate then some 0x0205
    else if jobPending s 2 || jobPending s 6 then some 0x0303
    else if 4 ≤ arg then some 0x0301 else none
  | 2 =>
    let k := s.bank (arg % 2)
    let frozen := (List.range 8).any fun q => plotState s q == 5
    let busy := [1, 2, 6].any fun k => jobRunning s k
    if !p.has roleUpdate then some 0x0205
    else if !(s.mode == mRUN || s.mode == mSERVICE) || arg % 2 != spare s || !(k.state == 3 || k.state == 4) || frozen || busy then
      some 0x0303
    else if s.rd F.STR_HOLD_TMO_TMO < 500 then some 0x0302 else none
  | 3 => sweepCheck s x.owner (sweepRead s x.owner)
  | 4 => dumpCheck s x.owner (dumpRead s x.owner)
  | 5 => if arg = 0 ∨ 4 ≤ arg then some 0x0301 else none
  | 6 => kuRefusal s (s.objBytes.get (objKey 0x9020 1) []) sigOk tagOk
  | 7 =>
    let q := arg % 16
    let op := arg / 256 % 4
    let st := plotState s q
    if 8 ≤ q ∨ op = 3 ∨ (arg.testBit 10 ∧ op ≠ 1) ∨ arg / 2048 ≠ 0 ∨ arg / 16 % 16 ≠ 0 then some 0x0301
    else if !p.has roleSupervisor then some 0x0205
    else if (op ≠ 2 ∧ (st ≠ 3 ∨ plotHeld s q)) ∨ (op = 2 ∧ st ≠ 1 ∧ st ≠ 6) then some 0x0303
    else if op = 0 ∧ !s.rdB F.PC_STAT_SPAN_MATCH then some 0x0302
    else if op = 0 ∧ !s.rdB F.XL_STAT_LINK then some 0x0111
    else keyRefusal s (s.rd F.PC_MIG_KEY_KEYSLOT) useMigrate
  | 8 =>
    let b := s.objBytes.get (objKey 0xB020 1) []
    if !p.has roleUpdate then some 0x0205
    else if s.mode != mSERVICE then some 0x0303
    else if (recomEntries b).isNone then some 0x0101
    else if halfNat b 8 != runFmt s then some 0x0301 else none
  | _ => some 0x0701

/-- A job enters RUNNING for the first time since its START. -/
def jobBegin (s : State) (j : Nat) : State :=
  let x := s.job j
  match x.kind with
  | 1 => transferStart s j
  | 2 => { s with grf := { s.grf with act := some j } }
  | 3 => sweepDrop s j
  | 4 => dumpStart s j
  | 6 => kuBegin s j
  | 7 => if migOp x = 2 then s else freezeStart s (migPlot x) (if migOp x = 0 then 2 else 3) (some j)
  | _ => s

/-- A job that was RUNNING before runs on; a dump whose next set is overwritten fails (R222), a sweep whose last window was
written while it was suspended is DONE. -/
def jobResume (s : State) (j : Nat) : State :=
  let x := s.job j
  let d := dumpPar x
  if x.kind = 4 ∧ d.sel ≠ 0 ∧ d.count < d.todo ∧ capLost s (d.from_ + d.count) then jobTo s j 5 0x0808
  else if x.kind = 3 ∧ x.par.getD 3 0 ≤ x.par.getD 6 0 then jobTo (sweepDrop s j) j 4 0 else s

/-- A place for job `j`: it runs. -/
def jobRun (s : State) (j : Nat) : State :=
  let x := s.job j
  if x.begun then nsSync (jobResume (jobTo s j 2 0) j)
  else
    let s := s.setJob j { x with begun := true, progress := 0, started := s.stamp.pt }
    nsSync (jobBegin (jobTo s j 2 0) j)

/-- An accepted START or RESUME: RUNNING, or QUEUED while the kind is at its limit (R463, R464). -/
def jobAccept (s : State) (j : Nat) : State :=
  let x := s.job j
  let s := State.setJob { s with jobSeq := s.jobSeq + 1 } j { x with order := s.jobSeq }
  if jobRunningOf s x.kind < jobLimit x.kind then jobRun s j else jobTo s j 1 0

/-! ## Commands (Table 19-10a) -/

/-- START. -/
def jobStart (s : State) (j : Nat) (p : Prin) (sigOk tagOk : Bool) : State :=
  let x := s.job j
  if x.kind ≠ 0 ∧ !x.mine p then s.status 0x0703
  else if x.kind = 0 ∨ !(x.state == 0 || jobFinal x.state) then s.status 0x0701
  else match startRefusal s x p sigOk tagOk with
    | some c =>
      let s := if x.kind = 6 then s.wr F.CLO_FLT_KU_FAIL 1 else s
      (s.setJob j { x with result := c }).status c
    | none =>
      let s := s.setJob j { x with result := 0, par := jobPar s x, begun := false, progress := 0 }
      let s := if x.kind = 4 then dumpChoose s j else s
      (jobAccept s j).status 0

/-- Kinds that can be suspended: transfers, sweeps, dumps. -/
def jobSuspendable (kind : Nat) : Bool := kind == 1 || kind == 3 || kind == 4

/-- SUSPEND. -/
def jobSuspend (s : State) (j : Nat) (p : Prin) : State :=
  let x := s.job j
  if x.kind ≠ 0 ∧ !x.mine p then s.status 0x0703
  else if x.kind = 0 ∨ x.state ≠ 2 then s.status 0x0701
  else if !jobSuspendable x.kind then s.status 0x0702
  else (jobTo (if x.kind = 3 then sweepOpenDrop s j else s) j 3 0).status 0

/-- RESUME. -/
def jobResumeCmd (s : State) (j : Nat) (p : Prin) : State :=
  let x := s.job j
  if x.kind ≠ 0 ∧ !x.mine p then s.status 0x0703
  else if x.kind = 0 ∨ x.state ≠ 3 then s.status 0x0701
  else (jobAccept s j).status 0

/-- CANCEL: the owner's cancel step, then CANCELLED. A key update whose COMMIT is written runs to DONE (R506), and so does
an activation whose bank-select record is (R540). -/
def jobCancel (s : State) (j : Nat) (p : Prin) : State :=
  let x := s.job j
  let late := (x.kind == 6 && (match s.clo.ku with | some (_, _, c) => c | none => false)) ||
    (x.kind == 2 && s.grf.act == some j && s.grf.trial)
  if x.kind ≠ 0 ∧ !x.mine p then s.status 0x0703
  else if x.kind = 0 ∨ !x.active ∨ (x.state = 2 ∧ late) then s.status 0x0701
  else (jobEnd s j 6 0).status 0

/-- START (R463); `sigOk` and `tagOk` are the outcomes of the checks that need a key. -/
def execStart (j : Fin 32) (p : Prin) (sigOk tagOk : Bool) (s : State) : Res := .next (jobStart s j p sigOk tagOk)
/-- SUSPEND (R463). -/
def execSuspend (j : Fin 32) (p : Prin) (s : State) : Res := .next (jobSuspend s j p)
/-- RESUME (R463). -/
def execResume (j : Fin 32) (p : Prin) (s : State) : Res := .next (jobResumeCmd s j p)
/-- CANCEL (R463). -/
def execCancel (j : Fin 32) (p : Prin) (s : State) : Res := .next (jobCancel s j p)

/-- The QUEUED job of a kind whose START or RESUME was accepted first. -/
def jobOldest (s : State) (kind : Nat) : Option Nat :=
  (List.range 32).foldl (fun a j =>
    let x := s.job j
    if x.kind == kind && x.state == 1 then
      match a with
      | none => some j
      | some k => if x.order < (s.job k).order then some j else some k
    else a) none

/-- JOB_DEQUEUE (R464): a place of the kind is free, and its oldest QUEUED job runs. -/
def execJobDequeue (kind : Fin 9) (s : State) : Res :=
  .next (match jobOldest s kind with
    | some j => if jobRunningOf s kind < jobLimit kind then jobRun s j else s
    | none => s)

/-- JOB_FAILED (R463): the owner's failure condition of a job that runs or is suspended. A self-test fails in a lane pair,
or, every pair passed, in the injection (R467); a dump meets a set that is overwritten (R222); a migration has lost XL (R486). -/
def execJobFailed (j : Fin 32) (lane : Bool) (stuck : BitVec 4) (s : State) : Res :=
  let x := s.job j
  let d := dumpPar x
  .next (if !(x.state == 2 || x.state == 3) then s
    else if x.kind = 5 ∧ x.state = 2 then
      if lane then (if (x.par.getD 0 0).testBit 0 then jobEnd s j 5 0x0612 else s)
      else if (x.par.getD 0 0).testBit 1 then
        let s := if (x.par.getD 0 0).testBit 0 then tilDegrade (s.wr F.TIL_ZSTAT_LANE_FLT 0) else s
        jobEnd (injection s false true stuck) j 5 0x0603
      else s
    else if x.kind = 4 then
      if d.sel ≠ 0 ∧ d.count < d.todo ∧ capLost s (d.from_ + d.count) then jobEnd s j 5 0x0808 else s
    else if x.kind = 7 ∧ migOp x = 0 ∧ !s.rdB F.XL_STAT_LINK then jobEnd s j 5 0x0111
    else s)

end Sys2Proof.Machine
end

