-- ==== Sys2Proof/Machine/Dict.lean ====
section
/-! DEFINITION. The object dictionary (19_stitch_dictionary.md): one row for every object of the object tables of the
specification, with its type, access, class, default and the register or store that holds its value. Written from
Tables 3-17, 5-10, 6-9, 7-16, 8-9, 10-14, 11-12, 12-9, 13-11, 14-6, 15-6, 16-10, 17-5, 18-11, 19-8, 19-11, 20-11,
21-20 and 22-8. -/

namespace Sys2Proof.Machine

/-- Where the value of an object is held: `w` bits from bit `lo` of a register, which moves by `ia` and `il` from one
instance to the next and by `ka` and `kl` from one sub-index to the next; a number or bytes that no register mirrors;
a Pommel parameter (R314); a window held per session (R270, R294); a place of its own. -/
inductive ObjLoc where
  | reg (addr lo w ia il ka kl : Nat)
  | num
  | bytes
  | pom
  | ses
  | other
  deriving DecidableEq, Repr

/-- A row of an object table: index of instance 0, first instance, instances, index step, first sub-index, sub-indices,
number of the first in names; the name, with %0 for the instance, %1 and %2 for ring and node, %3 for the sub-index;
type code (Table 19-5); access 0 RO, 1 RW, 2 WO, 3 RWP; class 0 V, 1 P, 2 F; largest size; default; no default. -/
structure ObjRow where
  idx : Nat
  i0 : Nat
  n : Nat
  st : Nat
  sub : Nat
  m : Nat
  k0 : Nat
  name : String
  typ : Nat
  acc : Nat
  cls : Nat
  size : Nat
  dflt : Nat
  noDflt : Bool
  loc : ObjLoc
  deriving DecidableEq, Repr

/-- Objects from 0x1000 to 0x1003. -/
def objRows0 : List ObjRow :=
  [⟨0x1000, 0, 1, 1, 1, 1, 0, "dev.vendor", 13, 0, 0, 255, 0, false, .other⟩,
   ⟨0x1000, 0, 1, 1, 2, 1, 0, "dev.family", 13, 0, 0, 255, 0, false, .other⟩,
   ⟨0x1000, 0, 1, 1, 3, 1, 0, "dev.product", 13, 0, 0, 255, 0, false, .other⟩,
   ⟨0x1000, 0, 1, 1, 4, 1, 0, "dev.stitch.version", 3, 0, 0, 2, 1, false, .num⟩,
   ⟨0x1001, 0, 1, 1, 1, 1, 0, "stitch.udp.enable", 1, 3, 1, 1, 1, false, .num⟩,
   ⟨0x1001, 0, 1, 1, 2, 1, 0, "stitch.udp.port", 3, 0, 0, 2, 0xba2d, false, .num⟩,
   ⟨0x1001, 0, 1, 1, 3, 1, 0, "stitch.ip6.address", 13, 3, 1, 255, 0, false, .bytes⟩,
   ⟨0x1001, 0, 1, 1, 4, 1, 0, "stitch.ip6.gateway", 13, 3, 1, 255, 0, false, .bytes⟩,
   ⟨0x1001, 0, 1, 1, 5, 1, 0, "stitch.ip4.address", 13, 3, 1, 255, 0, false, .bytes⟩,
   ⟨0x1001, 0, 1, 1, 6, 1, 0, "stitch.ip4.gateway", 13, 3, 1, 255, 0, false, .bytes⟩,
   ⟨0x1001, 0, 1, 1, 7, 1, 0, "stitch.idle", 3, 3, 1, 2, 60, false, .num⟩,
   ⟨0x1002, 0, 1, 1, 1, 1, 0, "stitch.can.controllers", 2, 3, 1, 1, 0, false, .num⟩,
   ⟨0x1002, 0, 1, 1, 2, 1, 0, "stitch.can.base", 3, 3, 1, 2, 0x600, false, .num⟩,
   ⟨0x1002, 0, 1, 1, 3, 1, 0, "stitch.can.brs", 1, 3, 1, 1, 1, false, .num⟩,
   ⟨0x1003, 0, 1, 1, 1, 1, 0, "stitch.sessions", 4, 0, 0, 4, 0, false, .other⟩,
   ⟨0x1003, 0, 1, 1, 2, 1, 0, "stitch.sessions.info", 14, 0, 0, 256, 0, true, .other⟩,
   ⟨0x1003, 0, 1, 1, 3, 1, 0, "stitch.cnt.authfail", 3, 0, 0, 2, 0, false, .num⟩,
   ⟨0x1003, 0, 1, 1, 4, 1, 0, "stitch.cnt.replay", 3, 0, 0, 2, 0, false, .num⟩,
   ⟨0x1003, 0, 1, 1, 5, 1, 0, "stitch.cnt.badsession", 3, 0, 0, 2, 0, false, .num⟩,
   ⟨0x1003, 0, 1, 1, 6, 1, 0, "stitch.cnt.malformed", 3, 0, 0, 2, 0, false, .num⟩]

/-- Objects from 0x1004 to 0x1012. -/
def objRows1 : List ObjRow :=
  [⟨0x1004, 0, 1, 1, 1, 1, 0, "dev.desc", 14, 0, 0, 1048576, 0, true, .other⟩,
   ⟨0x1005, 0, 1, 1, 1, 1, 0, "dev.settings.pending", 1, 0, 0, 1, 0, false, .other⟩,
   ⟨0x1005, 0, 1, 1, 2, 1, 0, "dev.settings.format", 3, 0, 0, 2, 1, false, .reg 0x2110000C 0 16 0 0 0 0⟩,
   ⟨0x1005, 0, 1, 1, 3, 1, 0, "dev.settings.defaults", 3, 2, 0, 2, 0, true, .other⟩,
   ⟨0x1010, 0, 1, 1, 1, 1, 0, "dev.mode", 2, 0, 0, 1, 1, false, .reg 0x20E00000 0 4 0 0 0 0⟩,
   ⟨0x1010, 0, 1, 1, 2, 1, 0, "dev.mode.prev", 2, 0, 0, 1, 0, false, .reg 0x20E00000 4 4 0 0 0 0⟩,
   ⟨0x1010, 0, 1, 1, 3, 1, 0, "dev.mode.cause", 2, 0, 0, 1, 1, false, .reg 0x20E00000 8 8 0 0 0 0⟩,
   ⟨0x1010, 0, 1, 1, 4, 1, 0, "dev.mode.substate", 4, 0, 0, 4, 0, false, .reg 0x20E00000 16 5 0 0 0 0⟩,
   ⟨0x1010, 0, 1, 1, 5, 1, 0, "dev.mode.request", 2, 2, 0, 1, 0, true, .other⟩,
   ⟨0x1010, 0, 1, 1, 6, 1, 0, "dev.mode.force", 1, 2, 0, 1, 0, true, .other⟩,
   ⟨0x1010, 0, 1, 1, 7, 1, 0, "dev.mode.bootservice", 1, 1, 0, 1, 0, false, .reg 0x20E00004 5 1 0 0 0 0⟩,
   ⟨0x1011, 0, 1, 1, 1, 1, 0, "dev.seat.side", 2, 0, 0, 1, 0, false, .reg 0x20E00008 4 1 0 0 0 0⟩,
   ⟨0x1011, 0, 1, 1, 2, 1, 0, "dev.seat.slot", 2, 0, 0, 1, 0, false, .reg 0x20E00008 5 4 0 0 0 0⟩,
   ⟨0x1011, 0, 1, 1, 3, 1, 0, "dev.seat.lsext", 4, 0, 0, 4, 0, false, .reg 0x20E0000C 0 24 0 0 0 0⟩,
   ⟨0x1011, 0, 1, 1, 4, 1, 0, "dev.seat.extractok", 1, 0, 0, 1, 0, false, .reg 0x20E00008 10 1 0 0 0 0⟩,
   ⟨0x1011, 0, 1, 1, 5, 1, 0, "dev.seat.handofftmo", 3, 3, 1, 2, 100, false, .reg 0x20E00044 0 16 0 0 0 0⟩,
   ⟨0x1012, 0, 1, 1, 1, 1, 0, "dev.pwr.vin", 3, 0, 0, 2, 0, false, .reg 0x20E00018 0 16 0 0 0 0⟩,
   ⟨0x1012, 0, 1, 1, 2, 1, 0, "dev.pwr.vla", 3, 0, 0, 2, 0, false, .reg 0x20E0001C 0 16 0 0 0 0⟩,
   ⟨0x1012, 0, 1, 1, 3, 1, 0, "dev.pwr.vlb", 3, 0, 0, 2, 0, false, .reg 0x20E0001C 16 16 0 0 0 0⟩,
   ⟨0x1012, 0, 1, 1, 4, 1, 0, "dev.pwr.rails", 4, 0, 0, 4, 0, false, .reg 0x20E00010 0 32 0 0 0 0⟩]

/-- Objects from 0x1012 to 0x2010. -/
def objRows2 : List ObjRow :=
  [⟨0x1012, 0, 1, 1, 5, 1, 0, "dev.pwr.faults", 4, 1, 0, 4, 0, false, .reg 0x20E00014 0 32 0 0 0 0⟩,
   ⟨0x1012, 0, 1, 1, 6, 1, 0, "dev.pwr.module", 4, 0, 0, 4, 0, false, .reg 0x20E00020 0 20 0 0 0 0⟩,
   ⟨0x1012, 0, 1, 1, 7, 1, 0, "dev.pwr.restarts", 3, 0, 0, 2, 0, false, .reg 0x20E00024 0 16 0 0 0 0⟩,
   ⟨0x1013, 0, 1, 1, 1, 13, 0, "dev.energy.%3", 5, 0, 0, 8, 0, false, .other⟩,
   ⟨0x1013, 0, 1, 1, 14, 1, 0, "dev.energy.clear", 3, 2, 0, 2, 0, true, .reg 0x20E00180 0 13 0 0 0 0⟩,
   ⟨0x1014, 0, 1, 1, 1, 1, 0, "dev.dorm.wakeen", 2, 3, 1, 1, 55, false, .reg 0x20E00030 0 8 0 0 0 0⟩,
   ⟨0x1014, 0, 1, 1, 2, 1, 0, "dev.dorm.timer", 4, 3, 1, 4, 0, false, .reg 0x20E00034 0 32 0 0 0 0⟩,
   ⟨0x1014, 0, 1, 1, 3, 1, 0, "dev.dorm.wakecause", 2, 0, 0, 1, 0, false, .reg 0x20E00038 0 6 0 0 0 0⟩,
   ⟨0x1014, 0, 1, 1, 4, 1, 0, "dev.dorm.lspattern", 4, 3, 1, 4, 0, false, .reg 0x20E0003C 0 24 0 0 0 0⟩,
   ⟨0x1014, 0, 1, 1, 5, 1, 0, "dev.dorm.diopattern", 4, 3, 1, 4, 0, false, .reg 0x20E00040 0 32 0 0 0 0⟩,
   ⟨0x1020, 0, 1, 1, 1, 1, 0, "br.retryint", 3, 3, 1, 2, 5, false, .reg 0x20B00000 0 16 0 0 0 0⟩,
   ⟨0x1020, 0, 1, 1, 2, 1, 0, "br.retrymax", 3, 3, 1, 2, 64, false, .reg 0x20B00000 16 16 0 0 0 0⟩,
   ⟨0x1020, 0, 1, 1, 3, 1, 0, "br.rsptmo", 3, 3, 1, 2, 200, false, .reg 0x20B00004 0 16 0 0 0 0⟩,
   ⟨0x1020, 0, 1, 1, 4, 1, 0, "br.counts", 4, 0, 0, 4, 0, false, .reg 0x20B00008 0 32 0 0 0 0⟩,
   ⟨0x1021, 0, 1, 1, 1, 8, 0, "br.fence.%3", 3, 2, 0, 2, 0, true, .other⟩,
   ⟨0x1022, 0, 1, 1, 1, 9, 0, "br.errqueue.%3", 4, 3, 1, 4, 0, false, .reg 0x20B00100 0 32 0 0 0x20 0⟩,
   ⟨0x2000, 0, 1, 1, 1, 1, 0, "lat.eventqueue", 2, 3, 1, 1, 0, false, .reg 0x20200004 0 6 0 0 0 0⟩,
   ⟨0x2010, 0, 12, 1, 1, 1, 0, "lat.%0.nodes", 2, 3, 1, 1, 0, false, .reg 0x20201000 0 5 0x1000 0 0 0⟩,
   ⟨0x2010, 0, 12, 1, 2, 1, 0, "lat.%0.state", 4, 0, 0, 4, 0x3ff00, false, .reg 0x20201008 0 32 0x1000 0 0 0⟩,
   ⟨0x2010, 0, 12, 1, 3, 1, 0, "lat.%0.faults", 4, 1, 0, 4, 0, false, .reg 0x2020100C 0 32 0x1000 0 0 0⟩]

/-- Objects from 0x2010 to 0x2800. -/
def objRows3 : List ObjRow :=
  [⟨0x2010, 0, 12, 1, 4, 1, 0, "lat.%0.crcerrors", 3, 0, 0, 2, 0, false, .reg 0x20201010 0 16 0x1000 0 0 0⟩,
   ⟨0x2010, 0, 12, 1, 5, 1, 0, "lat.%0.stalesets", 3, 0, 0, 2, 0, false, .reg 0x20201010 16 16 0x1000 0 0 0⟩,
   ⟨0x2010, 0, 12, 1, 6, 1, 0, "lat.%0.command", 2, 2, 0, 1, 0, true, .reg 0x20201004 0 4 0x1000 0 0 0⟩,
   ⟨0x2010, 0, 12, 1, 7, 1, 0, "lat.%0.map", 14, 0, 1, 192, 0, false, .bytes⟩,
   ⟨0x2100, 0, 288, 1, 1, 16, 0, "lat.cell.%1.%2.%3", 3, 0, 0, 2, 0xffff, false, .other⟩,
   ⟨0x2240, 0, 288, 1, 1, 8, 0, "lat.temp.%1.%2.%3", 7, 0, 0, 2, 0x8000, false, .other⟩,
   ⟨0x2380, 0, 288, 1, 1, 1, 0, "lat.node.%1.%2.uid", 5, 0, 0, 8, 0, false, .other⟩,
   ⟨0x2380, 0, 288, 1, 2, 1, 0, "lat.node.%1.%2.vendor", 3, 0, 0, 2, 0, false, .num⟩,
   ⟨0x2380, 0, 288, 1, 3, 1, 0, "lat.node.%1.%2.model", 3, 0, 0, 2, 0, false, .num⟩,
   ⟨0x2380, 0, 288, 1, 4, 1, 0, "lat.node.%1.%2.fwrev", 3, 0, 0, 2, 0, false, .num⟩,
   ⟨0x2380, 0, 288, 1, 5, 1, 0, "lat.node.%1.%2.cells", 3, 0, 0, 2, 0, false, .other⟩,
   ⟨0x2380, 0, 288, 1, 6, 1, 0, "lat.node.%1.%2.delays", 4, 0, 0, 4, 0xffffffff, false, .other⟩,
   ⟨0x2380, 0, 288, 1, 7, 1, 0, "lat.node.%1.%2.fault", 3, 0, 0, 2, 0, false, .other⟩,
   ⟨0x2800, 0, 4, 1, 1, 1, 0, "msr.%0.enable", 1, 3, 1, 1, 0, false, .reg 0x20300000 0 1 0 1 0 0⟩,
   ⟨0x2800, 0, 4, 1, 2, 1, 0, "msr.%0.invert", 1, 3, 1, 1, 0, false, .reg 0x20300100 0 1 0x100 0 0 0⟩,
   ⟨0x2800, 0, 4, 1, 3, 1, 0, "msr.%0.iscale", 10, 3, 1, 4, 0x38d1b717, false, .num⟩,
   ⟨0x2800, 0, 4, 1, 4, 1, 0, "msr.%0.ioffset", 8, 3, 1, 4, 0, false, .num⟩,
   ⟨0x2800, 0, 4, 1, 5, 1, 0, "msr.%0.vscale", 10, 3, 1, 4, 0x3951b717, false, .num⟩,
   ⟨0x2800, 0, 4, 1, 6, 1, 0, "msr.%0.voffset", 8, 3, 1, 4, 0, false, .num⟩,
   ⟨0x2800, 0, 4, 1, 7, 1, 0, "msr.%0.state", 4, 0, 0, 4, 2, false, .reg 0x20300108 0 32 0x100 0 0 0⟩]

/-- Objects from 0x2800 to 0x2910. -/
def objRows4 : List ObjRow :=
  [⟨0x2800, 0, 4, 1, 8, 1, 0, "msr.%0.faults", 4, 1, 0, 4, 0, false, .reg 0x2030010C 0 32 0x100 0 0 0⟩,
   ⟨0x2800, 0, 4, 1, 9, 1, 0, "msr.%0.current", 10, 0, 0, 4, 0, false, .other⟩,
   ⟨0x2800, 0, 4, 1, 10, 1, 0, "msr.%0.voltage", 10, 0, 0, 4, 0, false, .other⟩,
   ⟨0x2800, 0, 4, 1, 11, 1, 0, "msr.%0.uid", 5, 3, 1, 8, 0, false, .num⟩,
   ⟨0x2800, 0, 4, 1, 12, 1, 0, "msr.%0.delay", 3, 0, 0, 2, 0xffff, false, .reg 0x2030012C 0 16 0x100 0 0 0⟩,
   ⟨0x2810, 0, 1, 1, 1, 1, 0, "msr.decmode", 2, 3, 1, 1, 1, false, .reg 0x20300000 8 1 0 0 0 0⟩,
   ⟨0x2810, 0, 1, 1, 2, 1, 0, "msr.eventqueue", 2, 3, 1, 1, 0, false, .reg 0x20300004 0 6 0 0 0 0⟩,
   ⟨0x2900, 0, 1, 1, 1, 1, 0, "cap.enable", 1, 3, 1, 1, 0, false, .reg 0x20300800 0 1 0 0 0 0⟩,
   ⟨0x2900, 0, 1, 1, 2, 1, 0, "cap.size", 2, 3, 1, 1, 3, false, .reg 0x20300800 4 4 0 0 0 0⟩,
   ⟨0x2900, 0, 1, 1, 3, 1, 0, "cap.base", 5, 0, 0, 8, 0, false, .other⟩,
   ⟨0x2900, 0, 1, 1, 4, 1, 0, "cap.dirbase", 5, 0, 0, 8, 0, false, .other⟩,
   ⟨0x2900, 0, 1, 1, 5, 1, 0, "cap.nsets", 4, 0, 0, 4, 0, false, .reg 0x2030080C 0 32 0 0 0 0⟩,
   ⟨0x2900, 0, 1, 1, 6, 1, 0, "cap.setcount", 4, 0, 0, 4, 0, false, .reg 0x20300814 0 32 0 0 0 0⟩,
   ⟨0x2910, 0, 8, 1, 1, 1, 0, "cap.dump.%0.trigger", 2, 1, 0, 1, 0, false, .num⟩,
   ⟨0x2910, 0, 8, 1, 2, 1, 0, "cap.dump.%0.time", 12, 1, 0, 10, 0, false, .num⟩,
   ⟨0x2910, 0, 8, 1, 3, 1, 0, "cap.dump.%0.pre", 4, 1, 0, 4, 0x190, false, .num⟩,
   ⟨0x2910, 0, 8, 1, 4, 1, 0, "cap.dump.%0.post", 4, 1, 0, 4, 0x190, false, .num⟩,
   ⟨0x2910, 0, 8, 1, 5, 1, 0, "cap.dump.%0.first", 3, 1, 0, 2, 0, false, .num⟩,
   ⟨0x2910, 0, 8, 1, 6, 1, 0, "cap.dump.%0.last", 3, 1, 0, 2, 0x11ff, false, .num⟩,
   ⟨0x2910, 0, 8, 1, 7, 1, 0, "cap.dump.%0.dest", 5, 1, 0, 8, 0, false, .num⟩]

/-- Objects from 0x2910 to 0x2A10. -/
def objRows5 : List ObjRow :=
  [⟨0x2910, 0, 8, 1, 8, 1, 0, "cap.dump.%0.destlen", 4, 1, 0, 4, 0, false, .num⟩,
   ⟨0x2A00, 0, 1, 1, 1, 1, 0, "pom.split", 1, 3, 1, 1, 0, false, .pom⟩,
   ⟨0x2A00, 0, 1, 1, 2, 1, 0, "pom.state", 4, 0, 0, 4, 0, false, .reg 0x20600000 0 32 0 0 0 0⟩,
   ⟨0x2A00, 0, 1, 1, 3, 1, 0, "pom.faults", 4, 1, 0, 4, 0, false, .reg 0x20600004 0 32 0 0 0 0⟩,
   ⟨0x2A00, 0, 1, 1, 4, 1, 0, "pom.trip.latched", 4, 0, 0, 4, 0, false, .reg 0x20600008 0 18 0 0 0 0⟩,
   ⟨0x2A00, 0, 1, 1, 5, 1, 0, "pom.trip.reset", 4, 2, 0, 4, 0, true, .other⟩,
   ⟨0x2A00, 0, 1, 1, 6, 1, 0, "pom.trip.manual", 3, 2, 0, 2, 0, true, .other⟩,
   ⟨0x2A00, 0, 1, 1, 7, 1, 0, "pom.eventqueue", 2, 3, 1, 1, 0, false, .pom⟩,
   ⟨0x2A00, 0, 1, 1, 8, 1, 0, "pom.suspects", 3, 0, 0, 2, 0, false, .reg 0x20600014 0 16 0 0 0 0⟩,
   ⟨0x2A01, 0, 1, 1, 1, 1, 0, "pom.can.controller", 2, 3, 1, 1, 0, false, .pom⟩,
   ⟨0x2A01, 0, 1, 1, 2, 1, 0, "pom.can.id", 4, 3, 1, 4, 32, false, .pom⟩,
   ⟨0x2A01, 0, 1, 1, 3, 1, 0, "pom.can.partnerid", 4, 3, 1, 4, 33, false, .pom⟩,
   ⟨0x2A10, 1, 4, 1, 1, 1, 0, "pom.%0.threshold", 8, 3, 1, 4, 0, false, .pom⟩,
   ⟨0x2A10, 7, 1, 1, 1, 1, 0, "pom.%0.threshold", 8, 3, 1, 4, 0, false, .pom⟩,
   ⟨0x2A10, 12, 1, 1, 1, 1, 0, "pom.%0.threshold", 8, 3, 1, 4, 0, false, .pom⟩,
   ⟨0x2A10, 1, 14, 1, 2, 1, 0, "pom.%0.persist", 3, 3, 1, 2, 0, false, .pom⟩,
   ⟨0x2A10, 1, 4, 1, 3, 1, 0, "pom.%0.slsmask", 2, 3, 1, 1, 15, false, .pom⟩,
   ⟨0x2A10, 7, 1, 1, 3, 1, 0, "pom.%0.slsmask", 2, 3, 1, 1, 15, false, .pom⟩,
   ⟨0x2A10, 9, 1, 1, 3, 1, 0, "pom.%0.slsmask", 2, 3, 1, 1, 15, false, .pom⟩,
   ⟨0x2A10, 11, 3, 1, 3, 1, 0, "pom.%0.slsmask", 2, 3, 1, 1, 15, false, .pom⟩]

/-- Objects from 0x2A10 to 0x3001. -/
def objRows6 : List ObjRow :=
  [⟨0x2A10, 1, 14, 1, 4, 1, 0, "pom.%0.pattern", 2, 3, 1, 1, 0, false, .pom⟩,
   ⟨0x2A20, 0, 4, 1, 1, 1, 0, "pom.link.%0.ichg", 8, 3, 1, 4, 0x1e8480, false, .pom⟩,
   ⟨0x2A20, 0, 4, 1, 2, 1, 0, "pom.link.%0.idis", 8, 3, 1, 4, 0xffe17b80, false, .pom⟩,
   ⟨0x2A20, 0, 4, 1, 3, 1, 0, "pom.link.%0.irate", 8, 3, 1, 4, 0xf4240, false, .pom⟩,
   ⟨0x2A20, 0, 4, 1, 4, 1, 0, "pom.link.%0.slsmask", 2, 3, 1, 1, 15, false, .pom⟩,
   ⟨0x2A30, 0, 8, 1, 1, 1, 0, "pom.pat.%0.lsmask", 4, 3, 1, 4, 0, false, .pom⟩,
   ⟨0x2A30, 0, 8, 1, 2, 1, 0, "pom.pat.%0.lsstate", 4, 3, 1, 4, 0, false, .pom⟩,
   ⟨0x2A30, 0, 8, 1, 3, 1, 0, "pom.pat.%0.diomask", 4, 3, 1, 4, 0, false, .pom⟩,
   ⟨0x2A30, 0, 8, 1, 4, 1, 0, "pom.pat.%0.diostate", 4, 3, 1, 4, 0, false, .pom⟩,
   ⟨0x3000, 0, 1, 1, 1, 1, 0, "til.enable", 1, 3, 1, 1, 0, false, .reg 0x20500000 0 1 0 0 0 0⟩,
   ⟨0x3000, 0, 1, 1, 2, 1, 0, "til.resume", 1, 3, 1, 1, 1, false, .reg 0x20500000 1 1 0 0 0 0⟩,
   ⟨0x3000, 0, 1, 1, 3, 1, 0, "til.model", 1, 3, 1, 1, 1, false, .reg 0x20500000 2 1 0 0 0 0⟩,
   ⟨0x3000, 0, 1, 1, 4, 1, 0, "til.divergence", 1, 3, 1, 1, 0, false, .reg 0x20500000 3 1 0 0 0 0⟩,
   ⟨0x3000, 0, 1, 1, 5, 1, 0, "til.owner", 2, 3, 1, 1, 255, false, .other⟩,
   ⟨0x3000, 0, 1, 1, 6, 1, 0, "til.state", 4, 0, 0, 4, 0, false, .reg 0x20500004 0 32 0 0 0 0⟩,
   ⟨0x3000, 0, 1, 1, 7, 1, 0, "til.faults", 4, 1, 0, 4, 0, false, .reg 0x20500008 0 32 0 0 0 0⟩,
   ⟨0x3000, 0, 1, 1, 8, 1, 0, "til.load", 4, 0, 0, 4, 0, false, .reg 0x20500050 0 32 0 0 0 0⟩,
   ⟨0x3000, 0, 1, 1, 9, 1, 0, "til.ucrev", 3, 0, 0, 2, 0, false, .reg 0x2050006C 16 16 0 0 0 0⟩,
   ⟨0x3001, 0, 1, 1, 1, 1, 0, "til.stat.len", 3, 3, 1, 2, 50, false, .reg 0x20500024 0 13 0 0 0 0⟩,
   ⟨0x3001, 0, 1, 1, 2, 1, 0, "til.stat.minpct", 2, 3, 1, 1, 90, false, .reg 0x20500024 16 8 0 0 0 0⟩]

/-- Objects from 0x3002 to 0x3020. -/
def objRows7 : List ObjRow :=
  [⟨0x3002, 0, 1, 1, 1, 4, 0, "til.div.slot.%3", 2, 3, 1, 1, 0, false, .reg 0x20500028 0 8 0 0 0 8⟩,
   ⟨0x3002, 0, 1, 1, 5, 1, 0, "til.div.thr", 3, 3, 1, 2, 0x400, false, .reg 0x2050002C 0 16 0 0 0 0⟩,
   ⟨0x3002, 0, 1, 1, 6, 1, 0, "til.div.hyst", 3, 3, 1, 2, 128, false, .reg 0x2050002C 16 16 0 0 0 0⟩,
   ⟨0x3002, 0, 1, 1, 7, 1, 0, "til.div.persist", 2, 3, 1, 1, 3, false, .reg 0x20500030 0 8 0 0 0 0⟩,
   ⟨0x3002, 0, 1, 1, 8, 1, 0, "til.div.mincells", 2, 3, 1, 1, 8, false, .reg 0x20500030 8 8 0 0 0 0⟩,
   ⟨0x3003, 0, 1, 1, 1, 4, 0, "til.div.floor.%3", 4, 3, 1, 4, 0x10000, false, .reg 0x20500034 0 32 0 0 0x4 0⟩,
   ⟨0x3010, 0, 1, 1, 1, 1, 0, "til.read.first", 3, 1, 0, 2, 0, false, .ses⟩,
   ⟨0x3010, 0, 1, 1, 2, 1, 0, "til.read.count", 3, 1, 0, 2, 16, false, .ses⟩,
   ⟨0x3010, 0, 1, 1, 3, 1, 0, "til.read.state", 14, 0, 0, 8192, 0, true, .other⟩,
   ⟨0x3010, 0, 1, 1, 4, 1, 0, "til.read.stat", 14, 0, 0, 16384, 0, true, .other⟩,
   ⟨0x3010, 0, 1, 1, 5, 1, 0, "til.read.div", 14, 0, 0, 4096, 0, true, .other⟩,
   ⟨0x3012, 0, 1, 1, 1, 1, 0, "til.param.first", 3, 1, 0, 2, 0, false, .num⟩,
   ⟨0x3012, 0, 1, 1, 2, 1, 0, "til.param.records", 14, 1, 0, 294912, 0, true, .other⟩,
   ⟨0x3012, 0, 1, 1, 3, 1, 0, "til.param.commit", 1, 2, 0, 1, 0, true, .reg 0x20500018 0 2 0 0 0 0⟩,
   ⟨0x3012, 0, 1, 1, 4, 1, 0, "til.param.seq", 3, 0, 0, 2, 0, false, .reg 0x2050001C 0 16 0 0 0 0⟩,
   ⟨0x3012, 0, 1, 1, 5, 1, 0, "til.param.error", 4, 0, 0, 4, 0x1fff, false, .reg 0x20500020 0 32 0 0 0 0⟩,
   ⟨0x3013, 0, 1, 1, 1, 16, 0, "til.ocv.%3", 14, 1, 0, 260, 0, true, .other⟩,
   ⟨0x3020, 0, 8, 1, 1, 1, 0, "til.note.%0.queue", 2, 3, 1, 1, 0, false, .reg 0x20500100 0 6 0x4 0 0 0⟩,
   ⟨0x3020, 0, 8, 1, 2, 1, 0, "til.note.%0.kinds", 2, 3, 1, 1, 0, false, .reg 0x20500100 8 8 0x4 0 0 0⟩,
   ⟨0x3020, 0, 8, 1, 3, 1, 0, "til.note.%0.enable", 1, 3, 1, 1, 0, false, .reg 0x20500100 31 1 0x4 0 0 0⟩]

/-- Objects from 0x3100 to 0x4000. -/
def objRows8 : List ObjRow :=
  [⟨0x3100, 0, 1, 1, 1, 1, 0, "til.z.enable", 1, 3, 1, 1, 0, false, .reg 0x20500200 0 1 0 0 0 0⟩,
   ⟨0x3100, 0, 1, 1, 2, 1, 0, "til.z.len", 3, 3, 1, 2, 50, false, .reg 0x20500204 0 11 0 0 0 0⟩,
   ⟨0x3100, 0, 1, 1, 3, 1, 0, "til.z.minpct", 2, 3, 1, 1, 90, false, .reg 0x20500204 16 8 0 0 0 0⟩,
   ⟨0x3100, 0, 1, 1, 4, 1, 0, "til.z.state", 4, 0, 0, 4, 0, false, .reg 0x20500208 0 32 0 0 0 0⟩,
   ⟨0x3100, 0, 1, 1, 5, 1, 0, "til.z.faults", 4, 1, 0, 4, 0, false, .reg 0x2050020C 0 32 0 0 0 0⟩,
   ⟨0x3100, 0, 1, 1, 6, 1, 0, "til.z.paramerror", 4, 0, 0, 4, 31, false, .reg 0x20500210 0 32 0 0 0 0⟩,
   ⟨0x3100, 0, 1, 1, 7, 1, 0, "til.z.mismatches", 3, 0, 0, 2, 0, false, .reg 0x20500220 0 16 0 0 0 0⟩,
   ⟨0x3100, 0, 1, 1, 8, 1, 0, "til.z.freq", 4, 0, 0, 4, 0, false, .reg 0x2050021C 0 32 0 0 0 0⟩,
   ⟨0x3101, 0, 1, 1, 1, 1, 0, "til.z.read.first", 3, 1, 0, 2, 0, false, .ses⟩,
   ⟨0x3101, 0, 1, 1, 2, 1, 0, "til.z.read.count", 3, 1, 0, 2, 8, false, .ses⟩,
   ⟨0x3101, 0, 1, 1, 3, 1, 0, "til.z.read.cells", 14, 0, 0, 20480, 0, true, .other⟩,
   ⟨0x3101, 0, 1, 1, 4, 1, 0, "til.z.read.strings", 14, 0, 0, 1280, 0, true, .other⟩,
   ⟨0x3102, 0, 1, 1, 1, 1, 0, "til.z.param", 14, 1, 0, 576, 0, true, .other⟩,
   ⟨0x3110, 0, 8, 1, 1, 1, 0, "til.sweep.%0.first", 3, 1, 0, 2, 0, false, .num⟩,
   ⟨0x3110, 0, 8, 1, 2, 1, 0, "til.sweep.%0.last", 3, 1, 0, 2, 0x11ff, false, .num⟩,
   ⟨0x3110, 0, 8, 1, 3, 1, 0, "til.sweep.%0.orders", 5, 1, 0, 8, 0, false, .num⟩,
   ⟨0x3110, 0, 8, 1, 4, 1, 0, "til.sweep.%0.count", 3, 1, 0, 2, 10, false, .num⟩,
   ⟨0x3110, 0, 8, 1, 5, 1, 0, "til.sweep.%0.dest", 5, 1, 0, 8, 0, false, .num⟩,
   ⟨0x3110, 0, 8, 1, 6, 1, 0, "til.sweep.%0.destlen", 4, 1, 0, 4, 0, false, .num⟩,
   ⟨0x4000, 0, 1, 1, 1, 1, 0, "trl.src", 2, 3, 1, 1, 2, false, .reg 0x20000000 0 2 0 0 0 0⟩]

/-- Objects from 0x4000 to 0x4010. -/
def objRows9 : List ObjRow :=
  [⟨0x4000, 0, 1, 1, 2, 1, 0, "trl.refphase", 2, 3, 1, 1, 0, false, .reg 0x20000000 2 2 0 0 0 0⟩,
   ⟨0x4000, 0, 1, 1, 3, 1, 0, "trl.bw", 2, 3, 1, 1, 2, false, .reg 0x20000000 4 2 0 0 0 0⟩,
   ⟨0x4000, 0, 1, 1, 4, 1, 0, "trl.fnom", 2, 3, 1, 1, 50, false, .other⟩,
   ⟨0x4000, 0, 1, 1, 5, 1, 0, "trl.slew", 2, 3, 1, 1, 2, false, .reg 0x20000000 8 2 0 0 0 0⟩,
   ⟨0x4000, 0, 1, 1, 6, 1, 0, "trl.refoffset", 4, 3, 1, 4, 0, false, .reg 0x2000000C 0 32 0 0 0 0⟩,
   ⟨0x4000, 0, 1, 1, 7, 1, 0, "trl.holimit", 3, 3, 1, 2, 10, false, .reg 0x2000003C 0 16 0 0 0 0⟩,
   ⟨0x4001, 0, 1, 1, 1, 1, 0, "trl.stat", 4, 0, 0, 4, 4, false, .reg 0x20000004 0 32 0 0 0 0⟩,
   ⟨0x4001, 0, 1, 1, 2, 1, 0, "trl.now", 11, 0, 0, 8, 0, false, .other⟩,
   ⟨0x4001, 0, 1, 1, 3, 1, 0, "trl.now.ptime", 12, 0, 0, 10, 0, false, .other⟩,
   ⟨0x4001, 0, 1, 1, 4, 1, 0, "trl.freq", 4, 0, 0, 4, 0x2faf080, false, .reg 0x2000002C 0 32 0 0 0 0⟩,
   ⟨0x4001, 0, 1, 1, 5, 1, 0, "trl.rocof", 8, 0, 0, 4, 0, false, .reg 0x20000030 0 32 0 0 0 0⟩,
   ⟨0x4001, 0, 1, 1, 6, 1, 0, "trl.amp", 4, 0, 0, 4, 0, false, .reg 0x20000034 0 32 0 0 0 0⟩,
   ⟨0x4001, 0, 1, 1, 7, 1, 0, "trl.faults", 4, 1, 0, 4, 0, false, .reg 0x20000008 0 32 0 0 0 0⟩,
   ⟨0x4002, 0, 1, 1, 1, 1, 0, "trl.net.tx", 1, 3, 1, 1, 0, false, .reg 0x20000000 12 1 0 0 0 0⟩,
   ⟨0x4002, 0, 1, 1, 2, 1, 0, "trl.net.period", 3, 3, 1, 2, 100, false, .reg 0x20000040 0 16 0 0 0 0⟩,
   ⟨0x4002, 0, 1, 1, 3, 1, 0, "trl.net.tmo", 3, 3, 1, 2, 0x12c, false, .reg 0x20000040 16 16 0 0 0 0⟩,
   ⟨0x4002, 0, 1, 1, 4, 1, 0, "trl.net.keyslot", 2, 3, 1, 1, 0, false, .reg 0x20000044 0 8 0 0 0 0⟩,
   ⟨0x4002, 0, 1, 1, 5, 1, 0, "trl.net.group", 13, 3, 1, 255, 0, false, .bytes⟩,
   ⟨0x4008, 0, 1, 1, 1, 8, 0, "trl.part.%3", 4, 0, 0, 4, 0, false, .reg 0x20000200 0 32 0 0 0x4 0⟩,
   ⟨0x4010, 0, 16, 1, 1, 1, 0, "trl.pow.%0.lschannel", 2, 3, 1, 1, 0, false, .reg 0x20000400 0 5 0x20 0 0 0⟩]

/-- Objects from 0x4010 to 0x4020. -/
def objRows10 : List ObjRow :=
  [⟨0x4010, 0, 16, 1, 2, 1, 0, "trl.pow.%0.auxdio", 2, 3, 1, 1, 0, false, .reg 0x20000400 8 5 0x20 0 0 0⟩,
   ⟨0x4010, 0, 16, 1, 3, 1, 0, "trl.pow.%0.auxpol", 1, 3, 1, 1, 0, false, .reg 0x20000400 13 1 0x20 0 0 0⟩,
   ⟨0x4010, 0, 16, 1, 4, 1, 0, "trl.pow.%0.closeofs", 7, 3, 1, 2, 0, false, .reg 0x20000404 0 16 0x20 0 0 0⟩,
   ⟨0x4010, 0, 16, 1, 5, 1, 0, "trl.pow.%0.openofs", 7, 3, 1, 2, 0, false, .reg 0x20000404 16 16 0x20 0 0 0⟩,
   ⟨0x4010, 0, 16, 1, 6, 1, 0, "trl.pow.%0.reject", 3, 3, 1, 2, 0x7d0, false, .reg 0x20000408 0 16 0x20 0 0 0⟩,
   ⟨0x4010, 0, 16, 1, 7, 1, 0, "trl.pow.%0.gain", 2, 3, 1, 1, 3, false, .reg 0x20000400 16 3 0x20 0 0 0⟩,
   ⟨0x4010, 0, 16, 1, 8, 1, 0, "trl.pow.%0.learnmin", 2, 3, 1, 1, 4, false, .reg 0x20000400 20 4 0x20 0 0 0⟩,
   ⟨0x4010, 0, 16, 1, 9, 1, 0, "trl.pow.%0.operate", 4, 3, 1, 4, 0, false, .reg 0x2000040C 0 24 0x20 0 0 0⟩,
   ⟨0x4010, 0, 16, 1, 10, 1, 0, "trl.pow.%0.release", 4, 3, 1, 4, 0, false, .reg 0x20000410 0 24 0x20 0 0 0⟩,
   ⟨0x4010, 0, 16, 1, 11, 1, 0, "trl.pow.%0.enable", 1, 3, 1, 1, 0, false, .reg 0x20000400 31 1 0x20 0 0 0⟩,
   ⟨0x4010, 0, 16, 1, 12, 1, 0, "trl.pow.%0.count", 4, 0, 0, 4, 0, false, .reg 0x20000414 0 32 0x20 0 0 0⟩,
   ⟨0x4010, 0, 16, 1, 13, 1, 0, "trl.pow.%0.lasterror", 8, 0, 0, 4, 0, false, .reg 0x2000041C 0 32 0x20 0 0 0⟩,
   ⟨0x4020, 0, 1, 1, 1, 1, 0, "pt.servo.enable", 1, 3, 1, 1, 1, false, .reg 0x20100000 0 1 0 0 0 0⟩,
   ⟨0x4020, 0, 1, 1, 2, 1, 0, "pt.step.enable", 1, 3, 1, 1, 1, false, .reg 0x20100000 1 1 0 0 0 0⟩,
   ⟨0x4020, 0, 1, 1, 3, 1, 0, "pt.kp", 2, 3, 1, 1, 1, false, .reg 0x20100000 4 4 0 0 0 0⟩,
   ⟨0x4020, 0, 1, 1, 4, 1, 0, "pt.ki", 2, 3, 1, 1, 3, false, .reg 0x20100000 8 4 0 0 0 0⟩,
   ⟨0x4020, 0, 1, 1, 5, 1, 0, "pt.maxadj", 3, 3, 1, 2, 0x1f4, false, .other⟩,
   ⟨0x4020, 0, 1, 1, 6, 1, 0, "pt.stepthr", 4, 3, 1, 4, 0x30d40, false, .reg 0x20100020 0 32 0 0 0 0⟩,
   ⟨0x4020, 0, 1, 1, 7, 1, 0, "pt.lockthr", 4, 3, 1, 4, 0x3e8, false, .reg 0x20100024 0 32 0 0 0 0⟩,
   ⟨0x4020, 0, 1, 1, 8, 1, 0, "pt.hotmo", 3, 3, 1, 2, 0xbb8, false, .reg 0x20100028 0 16 0 0 0 0⟩]

/-- Objects from 0x4021 to 0x5000. -/
def objRows11 : List ObjRow :=
  [⟨0x4021, 0, 1, 1, 1, 1, 0, "pt.state", 2, 0, 0, 1, 0, false, .reg 0x20100004 0 2 0 0 0 0⟩,
   ⟨0x4021, 0, 1, 1, 2, 1, 0, "pt.now", 12, 0, 0, 10, 0, false, .other⟩,
   ⟨0x4021, 0, 1, 1, 3, 1, 0, "pt.rate", 8, 0, 0, 4, 0, false, .other⟩,
   ⟨0x4021, 0, 1, 1, 4, 1, 0, "pt.stepcount", 3, 0, 0, 2, 0, false, .reg 0x20100050 0 16 0 0 0 0⟩,
   ⟨0x4022, 0, 1, 1, 1, 1, 0, "pt.ptp.domain", 2, 3, 1, 1, 0, false, .num⟩,
   ⟨0x4022, 0, 1, 1, 2, 1, 0, "pt.ptp.profile", 2, 3, 1, 1, 0, false, .num⟩,
   ⟨0x4022, 0, 1, 1, 3, 1, 0, "pt.ptp.ports", 2, 3, 1, 1, 3, false, .num⟩,
   ⟨0x4028, 0, 8, 1, 1, 1, 0, "pt.canref.%0.enable", 1, 3, 1, 1, 0, false, .reg 0x20100100 0 1 0x10 0 0 0⟩,
   ⟨0x4028, 0, 8, 1, 2, 1, 0, "pt.canref.%0.id", 4, 3, 1, 4, 16, false, .reg 0x20100104 0 29 0x10 0 0 0⟩,
   ⟨0x4028, 0, 8, 1, 3, 1, 0, "pt.canref.%0.ide", 1, 3, 1, 1, 0, false, .reg 0x20100100 1 1 0x10 0 0 0⟩,
   ⟨0x4028, 0, 8, 1, 4, 1, 0, "pt.canref.%0.brs", 1, 3, 1, 1, 0, false, .reg 0x20100100 2 1 0x10 0 0 0⟩,
   ⟨0x4028, 0, 8, 1, 5, 1, 0, "pt.canref.%0.period", 2, 3, 1, 1, 3, false, .reg 0x20100100 4 3 0x10 0 0 0⟩,
   ⟨0x4028, 0, 8, 1, 6, 1, 0, "pt.canref.%0.freeruntx", 1, 3, 1, 1, 0, false, .reg 0x20100100 3 1 0x10 0 0 0⟩,
   ⟨0x4028, 0, 8, 1, 7, 1, 0, "pt.canref.%0.missed", 2, 0, 0, 1, 0, false, .reg 0x20100108 8 8 0x10 0 0 0⟩,
   ⟨0x5000, 0, 1, 1, 1, 1, 0, "ls.eventqueue", 2, 3, 1, 1, 0, false, .reg 0x20700000 0 6 0 0 0 0⟩,
   ⟨0x5000, 0, 1, 1, 2, 1, 0, "ls.span.overlap", 2, 3, 1, 1, 20, false, .reg 0x20700028 0 8 0 0 0 0⟩,
   ⟨0x5000, 0, 1, 1, 3, 1, 0, "ls.feed.current", 4, 0, 0, 4, 0, false, .reg 0x2070000C 0 32 0 0 0 0⟩,
   ⟨0x5000, 0, 1, 1, 4, 1, 0, "ls.faultmap", 4, 0, 0, 4, 0, false, .reg 0x20700008 0 24 0 0 0 0⟩,
   ⟨0x5000, 0, 1, 1, 5, 1, 0, "ls.onmap", 4, 0, 0, 4, 0, false, .reg 0x20700004 0 24 0 0 0 0⟩,
   ⟨0x5000, 0, 1, 1, 6, 1, 0, "ls.service", 4, 2, 0, 4, 0, true, .reg 0x20700024 0 32 0 0 0 0⟩]

/-- Objects from 0x5001 to 0x5080. -/
def objRows12 : List ObjRow :=
  [⟨0x5001, 0, 1, 1, 1, 4, 0, "ls.bank.%3", 4, 0, 0, 4, 0, false, .reg 0x20700010 0 32 0 0 0x4 0⟩,
   ⟨0x5002, 0, 1, 1, 1, 8, 0, "ls.plotqueue.%3", 4, 3, 1, 4, 0, false, .reg 0x20700040 0 32 0 0 0x4 0⟩,
   ⟨0x5010, 0, 24, 1, 1, 1, 0, "ls.%0.request", 1, 1, 0, 1, 0, false, .reg 0x20701004 0 1 0x40 0 0 0⟩,
   ⟨0x5010, 0, 24, 1, 2, 1, 0, "ls.%0.state", 4, 0, 0, 4, 0, false, .reg 0x20701008 0 32 0x40 0 0 0⟩,
   ⟨0x5010, 0, 24, 1, 3, 1, 0, "ls.%0.profile", 2, 3, 1, 1, 0, false, .reg 0x20701000 0 4 0x40 0 0 0⟩,
   ⟨0x5010, 0, 24, 1, 4, 1, 0, "ls.%0.parallel", 2, 3, 1, 1, 0, false, .reg 0x20701000 4 2 0x40 0 0 0⟩,
   ⟨0x5010, 0, 24, 1, 5, 1, 0, "ls.%0.shed", 2, 3, 1, 1, 0, false, .reg 0x20701000 8 3 0x40 0 0 0⟩,
   ⟨0x5010, 0, 24, 1, 6, 1, 0, "ls.%0.faults", 4, 1, 0, 4, 0, false, .reg 0x2070100C 0 32 0x40 0 0 0⟩,
   ⟨0x5010, 0, 24, 1, 7, 1, 0, "ls.%0.clear", 1, 2, 0, 1, 0, true, .reg 0x20701004 1 1 0x40 0 0 0⟩,
   ⟨0x5010, 0, 24, 1, 8, 1, 0, "ls.%0.current", 4, 0, 0, 4, 0, false, .reg 0x20701010 0 25 0x40 0 0 0⟩,
   ⟨0x5010, 0, 24, 1, 9, 1, 0, "ls.%0.voltage", 7, 0, 0, 2, 0, false, .reg 0x20701014 0 16 0x40 0 0 0⟩,
   ⟨0x5010, 0, 24, 1, 10, 1, 0, "ls.%0.tj", 7, 0, 0, 2, 0, false, .reg 0x20701018 0 16 0x40 0 0 0⟩,
   ⟨0x5010, 0, 24, 1, 11, 1, 0, "ls.%0.counts", 4, 0, 0, 4, 0, false, .reg 0x20701020 0 32 0x40 0 0 0⟩,
   ⟨0x5040, 0, 8, 1, 1, 1, 0, "ls.prof.%0.data", 14, 0, 0, 64, 0, false, .other⟩,
   ⟨0x5040, 8, 8, 1, 1, 1, 0, "ls.prof.%0.data", 14, 3, 1, 64, 0, false, .other⟩,
   ⟨0x5040, 8, 8, 1, 2, 1, 0, "ls.prof.%0.owner", 2, 3, 1, 1, 15, false, .reg 0x2070002C 0 4 0 4 0 0⟩,
   ⟨0x5040, 0, 16, 1, 3, 1, 0, "ls.prof.%0.valid", 1, 0, 0, 1, 0, false, .reg 0x20700034 0 1 0 1 0 0⟩,
   ⟨0x5080, 0, 1, 1, 1, 1, 0, "stir.holdwindow", 3, 3, 1, 2, 0x7d0, false, .reg 0x20800010 0 16 0 0 0 0⟩,
   ⟨0x5080, 0, 1, 1, 2, 1, 0, "stir.reclaim", 3, 3, 1, 2, 0x2710, false, .reg 0x20800014 0 16 0 0 0 0⟩,
   ⟨0x5080, 0, 1, 1, 3, 1, 0, "stir.partnerwait", 3, 3, 1, 2, 20, false, .reg 0x20800018 0 16 0 0 0 0⟩]

/-- Objects from 0x5080 to 0x6010. -/
def objRows13 : List ObjRow :=
  [⟨0x5080, 0, 1, 1, 4, 1, 0, "stir.swx.enable", 1, 3, 1, 1, 0, false, .reg 0x20800000 0 1 0 0 0 0⟩,
   ⟨0x5080, 0, 1, 1, 5, 1, 0, "stir.swx.min", 3, 3, 1, 2, 50, false, .reg 0x2080000C 0 16 0 0 0 0⟩,
   ⟨0x5080, 0, 1, 1, 6, 1, 0, "stir.swx.max", 3, 3, 1, 2, 0x7d0, false, .reg 0x2080000C 16 16 0 0 0 0⟩,
   ⟨0x5080, 0, 1, 1, 7, 1, 0, "stir.state", 4, 0, 0, 4, 0, false, .reg 0x20800004 0 32 0 0 0 0⟩,
   ⟨0x5080, 0, 1, 1, 8, 1, 0, "stir.faults", 4, 1, 0, 4, 0, false, .reg 0x20800008 0 32 0 0 0 0⟩,
   ⟨0x5081, 0, 1, 1, 1, 1, 0, "stir.fs.ls", 5, 3, 1, 8, 0, false, .reg 0x20800020 0 64 0 0 0 0⟩,
   ⟨0x5081, 0, 1, 1, 2, 1, 0, "stir.fs.dio", 5, 3, 1, 8, 0, false, .reg 0x20800028 0 64 0 0 0 0⟩,
   ⟨0x5082, 0, 1, 1, 1, 1, 0, "stir.held.ls", 4, 0, 0, 4, 0, false, .reg 0x20800030 0 24 0 0 0 0⟩,
   ⟨0x5082, 0, 1, 1, 2, 1, 0, "stir.held.dio", 4, 0, 0, 4, 0, false, .reg 0x20800034 0 32 0 0 0 0⟩,
   ⟨0x5082, 0, 1, 1, 3, 1, 0, "stir.release.ls", 4, 2, 0, 4, 0, true, .reg 0x20800038 0 24 0 0 0 0⟩,
   ⟨0x5082, 0, 1, 1, 4, 1, 0, "stir.release.dio", 4, 2, 0, 4, 0, true, .reg 0x2080003C 0 32 0 0 0 0⟩,
   ⟨0x6000, 0, 1, 1, 1, 1, 0, "dio.eventqueue", 2, 3, 1, 1, 0, false, .reg 0x20900000 0 6 0 0 0 0⟩,
   ⟨0x6000, 0, 1, 1, 2, 1, 0, "dio.levels", 4, 0, 0, 4, 0, false, .reg 0x20900004 0 32 0 0 0 0⟩,
   ⟨0x6000, 0, 1, 1, 3, 1, 0, "dio.onmap", 4, 0, 0, 4, 0, false, .reg 0x20900008 0 32 0 0 0 0⟩,
   ⟨0x6000, 0, 1, 1, 4, 1, 0, "dio.faultmap", 4, 0, 0, 4, 0, false, .reg 0x2090000C 0 32 0 0 0 0⟩,
   ⟨0x6000, 0, 1, 1, 5, 1, 0, "dio.service", 4, 2, 0, 4, 0, true, .reg 0x20900010 0 32 0 0 0 0⟩,
   ⟨0x6001, 0, 1, 1, 1, 8, 0, "dio.plotqueue.%3", 4, 3, 1, 4, 0, false, .reg 0x20900040 0 32 0 0 0x4 0⟩,
   ⟨0x6010, 0, 32, 1, 1, 1, 0, "dio.%0.config", 4, 3, 1, 4, 0xa000c00, false, .reg 0x20901000 0 32 0x40 0 0 0⟩,
   ⟨0x6010, 0, 32, 1, 2, 1, 0, "dio.%0.debounce", 3, 3, 1, 2, 0x3e8, false, .reg 0x20901004 0 16 0x40 0 0 0⟩,
   ⟨0x6010, 0, 32, 1, 3, 1, 0, "dio.%0.request", 1, 1, 0, 1, 0, false, .reg 0x20901008 0 1 0x40 0 0 0⟩]

/-- Objects from 0x6010 to 0x7010. -/
def objRows14 : List ObjRow :=
  [⟨0x6010, 0, 32, 1, 4, 1, 0, "dio.%0.clear", 1, 2, 0, 1, 0, true, .reg 0x20901008 1 1 0x40 0 0 0⟩,
   ⟨0x6010, 0, 32, 1, 5, 1, 0, "dio.%0.level", 1, 0, 0, 1, 0, false, .reg 0x2090100C 0 1 0x40 0 0 0⟩,
   ⟨0x6010, 0, 32, 1, 6, 1, 0, "dio.%0.state", 4, 0, 0, 4, 24, false, .reg 0x2090100C 0 32 0x40 0 0 0⟩,
   ⟨0x6010, 0, 32, 1, 7, 1, 0, "dio.%0.faults", 4, 1, 0, 4, 0, false, .reg 0x20901010 0 32 0x40 0 0 0⟩,
   ⟨0x6010, 0, 32, 1, 8, 1, 0, "dio.%0.current", 4, 0, 0, 4, 0, false, .other⟩,
   ⟨0x6010, 0, 32, 1, 9, 1, 0, "dio.%0.voltage", 7, 0, 0, 2, 0, false, .reg 0x20901014 16 16 0x40 0 0 0⟩,
   ⟨0x6010, 0, 32, 1, 10, 1, 0, "dio.%0.edges", 3, 0, 0, 2, 0, false, .reg 0x20901028 16 16 0x40 0 0 0⟩,
   ⟨0x6010, 0, 32, 1, 11, 1, 0, "dio.%0.lastedge", 11, 0, 0, 8, 0, false, .other⟩,
   ⟨0x6010, 0, 32, 1, 12, 1, 0, "dio.%0.lastedge.ptime", 12, 0, 0, 10, 0, false, .other⟩,
   ⟨0x7010, 0, 8, 1, 1, 1, 0, "can.%0.mode", 2, 3, 1, 1, 0, false, .reg 0x20A00000 0 2 0x1000 0 0 0⟩,
   ⟨0x7010, 0, 8, 1, 2, 1, 0, "can.%0.fd", 1, 3, 1, 1, 1, false, .reg 0x20A00000 2 1 0x1000 0 0 0⟩,
   ⟨0x7010, 0, 8, 1, 3, 1, 0, "can.%0.triple", 1, 3, 1, 1, 0, false, .reg 0x20A00000 3 1 0x1000 0 0 0⟩,
   ⟨0x7010, 0, 8, 1, 4, 1, 0, "can.%0.nbt", 4, 3, 1, 4, 0x78f3e01, false, .reg 0x20A00004 0 32 0x1000 0 0 0⟩,
   ⟨0x7010, 0, 8, 1, 5, 1, 0, "can.%0.dbt", 4, 3, 1, 4, 0x89091c00, false, .reg 0x20A00008 0 32 0x1000 0 0 0⟩,
   ⟨0x7010, 0, 8, 1, 6, 1, 0, "can.%0.tdco", 2, 3, 1, 1, 30, false, .reg 0x20A0000C 0 7 0x1000 0 0 0⟩,
   ⟨0x7010, 0, 8, 1, 7, 1, 0, "can.%0.bofflush", 1, 3, 1, 1, 0, false, .reg 0x20A00000 5 1 0x1000 0 0 0⟩,
   ⟨0x7010, 0, 8, 1, 8, 1, 0, "can.%0.state", 4, 0, 0, 4, 0x100, false, .reg 0x20A00010 0 32 0x1000 0 0 0⟩,
   ⟨0x7010, 0, 8, 1, 9, 1, 0, "can.%0.errcount", 4, 0, 0, 4, 0, false, .reg 0x20A00014 0 32 0x1000 0 0 0⟩,
   ⟨0x7010, 0, 8, 1, 10, 1, 0, "can.%0.faults", 4, 1, 0, 4, 0, false, .reg 0x20A00018 0 32 0x1000 0 0 0⟩,
   ⟨0x7010, 0, 8, 1, 11, 1, 0, "can.%0.recover", 1, 2, 0, 1, 0, true, .other⟩]

/-- Objects from 0x7010 to 0x7030. -/
def objRows15 : List ObjRow :=
  [⟨0x7010, 0, 8, 1, 12, 1, 0, "can.%0.swk.id", 4, 3, 1, 4, 0, false, .reg 0x20A00030 0 32 0x1000 0 0 0⟩,
   ⟨0x7010, 0, 8, 1, 13, 1, 0, "can.%0.swk.mask", 4, 3, 1, 4, 0x1fffffff, false, .reg 0x20A00034 0 32 0x1000 0 0 0⟩,
   ⟨0x7010, 0, 8, 1, 14, 1, 0, "can.%0.swk.cfg", 4, 3, 1, 4, 0x200, false, .reg 0x20A00038 0 32 0x1000 0 0 0⟩,
   ⟨0x7010, 0, 8, 1, 15, 1, 0, "can.%0.swk.datamask", 5, 3, 1, 8, 0, false, .reg 0x20A0003C 0 64 0x1000 0 0 0⟩,
   ⟨0x7010, 0, 8, 1, 16, 1, 0, "can.%0.counts", 4, 0, 0, 4, 0, false, .reg 0x20A00020 0 32 0x1000 0 0 0⟩,
   ⟨0x7010, 0, 8, 1, 17, 1, 0, "can.%0.sysqueue", 2, 3, 1, 1, 0, false, .reg 0x20A00028 0 6 0x1000 0 0 0⟩,
   ⟨0x7020, 0, 8, 1, 1, 8, 0, "can.%0.part.%3", 14, 0, 0, 16, 0, true, .other⟩,
   ⟨0x7030, 0, 1, 1, 1, 1, 0, "ns.enable", 1, 3, 1, 1, 0, false, .reg 0x20A40000 0 1 0 0 0 0⟩,
   ⟨0x7030, 0, 1, 1, 2, 1, 0, "ns.controller", 2, 3, 1, 1, 0, false, .reg 0x20A40000 1 3 0 0 0 0⟩,
   ⟨0x7030, 0, 1, 1, 3, 1, 0, "ns.node", 2, 3, 1, 1, 0, false, .reg 0x20A40000 4 4 0 0 0 0⟩,
   ⟨0x7030, 0, 1, 1, 4, 1, 0, "ns.initiator", 1, 3, 1, 1, 0, false, .reg 0x20A40000 8 1 0 0 0 0⟩,
   ⟨0x7030, 0, 1, 1, 5, 1, 0, "ns.ring", 3, 3, 1, 2, 0, false, .reg 0x20A40004 0 16 0 0 0 0⟩,
   ⟨0x7030, 0, 1, 1, 6, 1, 0, "ns.idbase", 3, 3, 1, 2, 0x6e0, false, .reg 0x20A40008 0 11 0 0 0 0⟩,
   ⟨0x7030, 0, 1, 1, 7, 1, 0, "ns.window", 3, 3, 1, 2, 50, false, .reg 0x20A4000C 0 10 0 0 0 0⟩,
   ⟨0x7030, 0, 1, 1, 8, 1, 0, "ns.roundtmo", 3, 3, 1, 2, 200, false, .reg 0x20A4000C 16 16 0 0 0 0⟩,
   ⟨0x7030, 0, 1, 1, 9, 1, 0, "ns.retry", 3, 3, 1, 2, 0x3e8, false, .reg 0x20A40010 0 16 0 0 0 0⟩,
   ⟨0x7030, 0, 1, 1, 10, 1, 0, "ns.wakepulse", 3, 3, 1, 2, 100, false, .reg 0x20A40010 16 16 0 0 0 0⟩,
   ⟨0x7030, 0, 1, 1, 11, 1, 0, "ns.wakeonabort", 1, 3, 1, 1, 1, false, .reg 0x20A40000 9 1 0 0 0 0⟩,
   ⟨0x7030, 0, 1, 1, 12, 1, 0, "ns.wakefwd", 1, 3, 1, 1, 0, false, .reg 0x20A40000 10 1 0 0 0 0⟩,
   ⟨0x7030, 0, 1, 1, 13, 1, 0, "ns.plots", 2, 3, 1, 1, 0, false, .reg 0x20A40014 0 8 0 0 0 0⟩]

/-- Objects from 0x7030 to 0x8000. -/
def objRows16 : List ObjRow :=
  [⟨0x7030, 0, 1, 1, 14, 1, 0, "ns.state", 4, 0, 0, 4, 0, false, .reg 0x20A40018 0 32 0 0 0 0⟩,
   ⟨0x7030, 0, 1, 1, 15, 1, 0, "ns.faults", 4, 1, 0, 4, 0, false, .reg 0x20A4001C 0 32 0 0 0 0⟩,
   ⟨0x7030, 0, 1, 1, 16, 1, 0, "ns.command", 2, 2, 0, 1, 0, true, .reg 0x20A40020 0 2 0 0 0 0⟩,
   ⟨0x7031, 0, 1, 1, 1, 8, 0, "ns.consent.%3", 1, 1, 0, 1, 0, false, .reg 0x20A40100 0 1 0 0 0x4 0⟩,
   ⟨0x7038, 0, 4, 1, 1, 1, 0, "gw1200.%0.pass", 14, 3, 1, 256, 0, false, .other⟩,
   ⟨0x7038, 0, 4, 1, 2, 1, 0, "gw1200.%0.counts", 4, 0, 0, 4, 0, false, .reg 0x20A40204 0 32 0x200 0 0 0⟩,
   ⟨0x7040, 0, 1, 1, 1, 1, 0, "gw.enable", 1, 3, 1, 1, 0, false, .num⟩,
   ⟨0x7040, 0, 1, 1, 2, 1, 0, "gw.rxframes", 14, 3, 1, 256, 0, false, .other⟩,
   ⟨0x7040, 0, 1, 1, 3, 1, 0, "gw.txframes", 14, 3, 1, 512, 0, false, .other⟩,
   ⟨0x7040, 0, 1, 1, 4, 1, 0, "gw.signals", 14, 3, 1, 4096, 0, false, .other⟩,
   ⟨0x7040, 0, 1, 1, 5, 1, 0, "gw.commit", 1, 2, 0, 1, 0, true, .reg 0x20B01000 0 1 0 0 0 0⟩,
   ⟨0x7040, 0, 1, 1, 6, 1, 0, "gw.state", 4, 0, 0, 4, 0, false, .reg 0x20B01004 0 32 0 0 0 0⟩,
   ⟨0x7040, 0, 1, 1, 7, 1, 0, "gw.error", 4, 0, 0, 4, 127, false, .reg 0x20B01008 0 32 0 0 0 0⟩,
   ⟨0x7040, 0, 1, 1, 8, 1, 0, "gw.status", 14, 0, 0, 1280, 0, true, .other⟩,
   ⟨0x8000, 0, 1, 1, 1, 1, 0, "plot.tables.commit", 1, 2, 0, 1, 0, true, .other⟩,
   ⟨0x8000, 0, 1, 1, 2, 1, 0, "plot.tables.digest", 5, 0, 0, 8, 0, false, .other⟩,
   ⟨0x8000, 0, 1, 1, 3, 1, 0, "plot.tables.error", 4, 0, 0, 4, 15, false, .reg 0x20C00008 0 32 0 0 0 0⟩,
   ⟨0x8000, 0, 1, 1, 4, 1, 0, "plot.eventqueue", 2, 3, 1, 1, 0, false, .reg 0x20C0000C 0 6 0 0 0 0⟩,
   ⟨0x8000, 0, 1, 1, 5, 1, 0, "plot.migkey", 2, 3, 1, 1, 0, false, .reg 0x20C00010 0 8 0 0 0 0⟩,
   ⟨0x8000, 0, 1, 1, 6, 1, 0, "plot.ckpt.base", 5, 3, 1, 8, 0, false, .other⟩]

/-- Objects from 0x8000 to 0x9028. -/
def objRows17 : List ObjRow :=
  [⟨0x8000, 0, 1, 1, 7, 1, 0, "plot.ckpt.size", 3, 3, 1, 2, 0, false, .reg 0x20C00018 0 10 0 0 0 0⟩,
   ⟨0x8002, 0, 1, 1, 1, 1, 0, "plot.queues", 14, 3, 1, 1536, 0, false, .bytes⟩,
   ⟨0x8003, 0, 1, 1, 1, 1, 0, "plot.timeplan", 14, 3, 1, 544, 0, false, .bytes⟩,
   ⟨0x8010, 0, 8, 1, 1, 1, 0, "plot.%0.table", 14, 3, 1, 320, 0, false, .bytes⟩,
   ⟨0x8010, 0, 8, 1, 2, 1, 0, "plot.%0.masks", 14, 3, 1, 8192, 0, false, .bytes⟩,
   ⟨0x8010, 0, 8, 1, 3, 1, 0, "plot.%0.state", 4, 0, 0, 4, 0, false, .reg 0x20C00104 0 32 0x40 0 0 0⟩,
   ⟨0x8010, 0, 8, 1, 4, 1, 0, "plot.%0.command", 2, 2, 0, 1, 0, true, .other⟩,
   ⟨0x8010, 0, 8, 1, 5, 1, 0, "plot.%0.faults", 4, 1, 0, 4, 0, false, .reg 0x20C0010C 0 32 0x40 0 0 0⟩,
   ⟨0x8010, 0, 8, 1, 6, 1, 0, "plot.%0.gen", 4, 0, 0, 4, 0, false, .reg 0x20C00108 0 32 0x40 0 0 0⟩,
   ⟨0x8010, 0, 8, 1, 7, 1, 0, "plot.%0.restarts", 2, 0, 0, 1, 0, false, .reg 0x20C00120 0 8 0x40 0 0 0⟩,
   ⟨0x8080, 0, 1, 1, 1, 1, 0, "plot.image.offset", 4, 1, 0, 4, 0, false, .num⟩,
   ⟨0x8080, 0, 1, 1, 2, 1, 0, "plot.image.window", 14, 1, 0, 65536, 0, true, .other⟩,
   ⟨0x9000, 0, 1, 1, 1, 1, 0, "clo.state", 4, 0, 0, 4, 0, false, .reg 0x20D00000 0 32 0 0 0 0⟩,
   ⟨0x9000, 0, 1, 1, 2, 1, 0, "clo.faults", 4, 1, 0, 4, 0, false, .reg 0x20D00004 0 32 0 0 0 0⟩,
   ⟨0x9000, 0, 1, 1, 3, 1, 0, "clo.rooterr", 4, 0, 0, 4, 0, false, .reg 0x20D00008 0 32 0 0 0 0⟩,
   ⟨0x9001, 0, 1, 1, 1, 31, 1, "clo.slot.%3", 5, 0, 0, 8, 0, false, .reg 0x20D00108 0 64 0 0 0x8 0⟩,
   ⟨0x9020, 0, 1, 1, 1, 1, 0, "clo.ku.message", 14, 1, 0, 1024, 0, false, .bytes⟩,
   ⟨0x9020, 0, 1, 1, 2, 1, 0, "clo.ku.counter", 4, 0, 0, 4, 0, false, .reg 0x20D00200 0 32 0 0 0 0⟩,
   ⟨0x9028, 0, 1, 1, 1, 8, 0, "clo.ctr.%3", 4, 0, 0, 4, 0, false, .reg 0x20D00200 0 32 0 0 0x4 0⟩,
   ⟨0x9028, 0, 1, 1, 9, 1, 0, "clo.ctr.increment", 2, 2, 0, 1, 0, true, .other⟩]

/-- Objects from 0x9030 to 0xA000. -/
def objRows18 : List ObjRow :=
  [⟨0x9030, 0, 1, 1, 1, 1, 0, "clo.tamper.log", 14, 0, 0, 2048, 0, true, .other⟩,
   ⟨0x9030, 0, 1, 1, 2, 1, 0, "clo.tamper.enable", 2, 3, 1, 1, 128, false, .other⟩,
   ⟨0x9030, 0, 1, 1, 3, 1, 0, "clo.tamper.dio", 4, 3, 1, 4, 0, false, .reg 0x20D00014 0 32 0 0 0 0⟩,
   ⟨0x9030, 0, 1, 1, 4, 1, 0, "clo.tamper.state", 4, 0, 0, 4, 0, false, .reg 0x20D00018 0 32 0 0 0 0⟩,
   ⟨0x9040, 0, 1, 1, 1, 1, 0, "clo.debug.token", 14, 2, 0, 176, 0, true, .other⟩,
   ⟨0x9040, 0, 1, 1, 2, 1, 0, "clo.debug.level", 2, 0, 0, 1, 0, false, .reg 0x20D00000 3 2 0 0 0 0⟩,
   ⟨0x9040, 0, 1, 1, 3, 1, 0, "clo.debug.close", 1, 2, 0, 1, 0, true, .other⟩,
   ⟨0x9050, 0, 1, 1, 1, 1, 0, "clo.lc.message", 14, 2, 0, 256, 0, true, .other⟩,
   ⟨0x9050, 0, 1, 1, 2, 1, 0, "clo.lc.state", 4, 0, 0, 4, 0, false, .reg 0x21200090 0 32 0 0 0 0⟩,
   ⟨0x9051, 0, 1, 1, 1, 1, 0, "clo.provision", 14, 2, 0, 136, 0, true, .other⟩,
   ⟨0xA000, 0, 32, 16, 1, 1, 0, "job.%0.kind", 2, 1, 0, 1, 0, false, .other⟩,
   ⟨0xA000, 0, 32, 16, 2, 1, 0, "job.%0.command", 2, 2, 0, 1, 0, true, .other⟩,
   ⟨0xA000, 0, 32, 16, 3, 1, 0, "job.%0.state", 2, 0, 0, 1, 0, false, .other⟩,
   ⟨0xA000, 0, 32, 16, 4, 1, 0, "job.%0.progress", 3, 0, 0, 2, 0, false, .other⟩,
   ⟨0xA000, 0, 32, 16, 5, 1, 0, "job.%0.result", 3, 0, 0, 2, 0, false, .other⟩,
   ⟨0xA000, 0, 32, 16, 6, 1, 0, "job.%0.owner", 2, 0, 0, 1, 255, false, .other⟩,
   ⟨0xA000, 0, 32, 16, 7, 1, 0, "job.%0.arg", 4, 1, 0, 4, 0, false, .other⟩,
   ⟨0xA000, 0, 32, 16, 8, 1, 0, "job.%0.queue", 2, 1, 0, 1, 0, false, .other⟩,
   ⟨0xA000, 0, 32, 16, 9, 1, 0, "job.%0.started", 12, 0, 0, 10, 0, false, .other⟩,
   ⟨0xA000, 0, 32, 16, 10, 1, 0, "job.%0.ended", 12, 0, 0, 10, 0, false, .other⟩]

/-- Objects from 0xA200 to 0xB020. -/
def objRows19 : List ObjRow :=
  [⟨0xA200, 0, 1, 1, 1, 1, 0, "job.summary", 14, 0, 0, 128, 0, true, .other⟩,
   ⟨0xB000, 0, 1, 1, 1, 1, 0, "id.record", 14, 1, 2, 96, 0, false, .other⟩,
   ⟨0xB000, 0, 1, 1, 2, 1, 0, "id.digest", 14, 0, 0, 48, 0, true, .other⟩,
   ⟨0xB000, 0, 1, 1, 3, 1, 0, "id.serial", 13, 0, 0, 255, 0, false, .other⟩,
   ⟨0xB000, 0, 1, 1, 4, 1, 0, "id.ordercode", 13, 0, 0, 255, 0, false, .other⟩,
   ⟨0xB000, 0, 1, 1, 5, 1, 0, "id.build", 4, 0, 0, 4, 0, false, .other⟩,
   ⟨0xB000, 0, 1, 1, 6, 1, 0, "id.match", 2, 0, 0, 1, 0, false, .reg 0x21200094 0 5 0 0 0 0⟩,
   ⟨0xB010, 0, 1, 1, 1, 1, 0, "graft.state", 4, 0, 0, 4, 0, false, .reg 0x21100000 0 32 0 0 0 0⟩,
   ⟨0xB010, 0, 1, 1, 2, 1, 0, "graft.faults", 4, 1, 0, 4, 0, false, .reg 0x21100004 0 32 0 0 0 0⟩,
   ⟨0xB010, 0, 1, 1, 3, 1, 0, "graft.lastfail", 4, 0, 0, 4, 0, false, .reg 0x21100008 0 32 0 0 0 0⟩,
   ⟨0xB010, 0, 1, 1, 4, 1, 0, "graft.setfmt", 4, 0, 0, 4, 0, false, .reg 0x2110000C 0 32 0 0 0 0⟩,
   ⟨0xB011, 0, 2, 1, 1, 1, 0, "graft.bank.%0.state", 2, 0, 0, 1, 0, false, .reg 0x21100100 0 3 0x20 0 0 0⟩,
   ⟨0xB011, 0, 2, 1, 2, 1, 0, "graft.bank.%0.len", 4, 0, 0, 4, 0, false, .reg 0x21100104 0 32 0x20 0 0 0⟩,
   ⟨0xB011, 0, 2, 1, 3, 1, 0, "graft.bank.%0.secver", 4, 0, 0, 4, 0, false, .reg 0x21100108 0 32 0x20 0 0 0⟩,
   ⟨0xB011, 0, 2, 1, 4, 1, 0, "graft.bank.%0.build", 5, 0, 0, 8, 0, false, .reg 0x21100110 0 64 0x20 0 0 0⟩,
   ⟨0xB011, 0, 2, 1, 5, 1, 0, "graft.bank.%0.pages", 4, 0, 0, 4, 0, false, .reg 0x2110010C 0 13 0x20 0 0 0⟩,
   ⟨0xB018, 0, 1, 1, 1, 1, 0, "graft.block.offset", 4, 1, 0, 4, 0, false, .num⟩,
   ⟨0xB018, 0, 1, 1, 2, 1, 0, "graft.block.data", 14, 2, 0, 65536, 0, true, .other⟩,
   ⟨0xB020, 0, 1, 1, 1, 1, 0, "graft.recom.package", 14, 1, 0, 65536, 0, false, .bytes⟩,
   ⟨0xB020, 0, 1, 1, 2, 1, 0, "graft.recom.entry", 3, 0, 0, 2, 0xffff, false, .num⟩]

/-- Objects from 0xB020 to 0xB020. -/
def objRows20 : List ObjRow :=
  [⟨0xB020, 0, 1, 1, 3, 1, 0, "graft.settings.previous", 14, 0, 0, 16777216, 0, false, .other⟩]

/-- Every object of the module, by ascending index and sub-index. -/
def objRows : List ObjRow :=
  objRows0 ++ objRows1 ++ objRows2 ++ objRows3 ++ objRows4 ++ objRows5 ++ objRows6 ++ objRows7 ++ objRows8 ++
  objRows9 ++ objRows10 ++ objRows11 ++ objRows12 ++ objRows13 ++ objRows14 ++ objRows15 ++ objRows16 ++
  objRows17 ++ objRows18 ++ objRows19 ++ objRows20

/-! ## Looking an object up (R455) -/

/-- Which instance and sub-index of a row index:sub names, if it names one. -/
def ObjRow.place (x : ObjRow) (idx sub : Nat) : Option (Nat × Nat) :=
  let i := (idx - x.idx) / x.st
  if x.idx ≤ idx ∧ (idx - x.idx) % x.st = 0 ∧ x.i0 ≤ i ∧ i < x.i0 + x.n ∧ x.sub ≤ sub ∧ sub < x.sub + x.m then
    some (i, sub - x.sub)
  else none

/-- Sub-index 0x00 of an object with several entries (R20): a U8, RO, that holds the highest sub-index in use. -/
def objTop (idx : Nat) : Option (ObjRow × Nat × Nat) :=
  let l := objRows.filter fun x => (x.place idx x.sub).isSome
  if (l.map (·.m)).sum < 2 then none
  else some (⟨idx, 0, 1, 1, 0, 1, 0, "", 2, 0, 0, 1, l.foldl (fun n x => max n (x.sub + x.m - 1)) 0, false, .num⟩, 0, 0)

/-- The row of index:sub with its instance and sub-index number. -/
def objFind (idx sub : Nat) : Option (ObjRow × Nat × Nat) :=
  if sub = 0 then objTop idx else objRows.findSome? fun x => (x.place idx sub).map fun y => (x, y)

/-- Is there an object with this index at all? -/
def objIndex (idx : Nat) : Bool := objRows.any fun x => (x.place idx x.sub).isSome

/-- Bytes of a value of type code `t` that has a fixed size (Table 19-5). -/
def typeSize (t : Nat) : Option Nat :=
  match t with
  | 1 | 2 | 6 => some 1
  | 3 | 7 => some 2
  | 4 | 8 | 10 => some 4
  | 5 | 9 | 11 => some 8
  | 12 => some 10
  | _ => none

/-! ## Bits of registers as objects hold them -/

/-- The fields of the register at `a` that lie within its bits [lo, lo + w). -/
def fieldsIn (a lo w : Nat) : List Field := (fieldsAt a).filter fun f => decide (lo ≤ f.lo) && decide (f.lo + f.w ≤ lo + w)

/-- A word whose bits [lo, lo + w) become `v`. -/
def wordPut (n lo w v : Nat) : Nat := n / 2 ^ (lo + w) * 2 ^ (lo + w) + v % 2 ^ w * 2 ^ lo + n % 2 ^ lo

/-- The RW fields of the register at `a`, as its word has them; bits of other access codes are 0. -/
def rwWord (s : State) (a : Nat) : Nat :=
  ((fieldsAt a).filter fun f => f.acc == .rw).foldl (fun n f => n + s.rd f * 2 ^ f.lo) 0

/-- The word to write to a register so that its bits [lo, lo + w) become `v` and its other RW bits stay: bits of other
access codes outside them are written 0. -/
def rmwWord (s : State) (a lo w v : Nat) : Nat := wordPut (rwWord s a) lo w v

/-- The boot firmware puts a value into bits [lo, lo + w) of a register: into its RW bits only, whoever their writer is
(R560); no stored value is that of the mode register. -/
def rawBits (s : State) (a lo w v : Nat) : State :=
  if a = F.GIRTH_MODE_MODE.addr then s
  else
    let n := rmwWord s a lo w v
    ((fieldsAt a).filter fun f => f.acc == .rw).foldl (fun t f => t.wr f (n / 2 ^ f.lo)) s

/-! ## Value checks (R456, R560) -/

/-- PT_MAX_ADJ for an object value in ppm: 12.5 ns · ppm / 10^6 in 2^-32 ns, rounded to nearest, and the ppm it shows. -/
def maxAdjOf (ppm : Nat) : Nat := (ppm * 125 * 2 ^ 32 + 5000000) / 10000000
def maxAdjPpm (v : Nat) : Nat := (v * 10000000 + 125 * 2 ^ 31) / (125 * 2 ^ 32)

/-- A CAN_NBT or CAN_DBT word by itself: within R376 beside the shortest data bit, or the longest nominal one. -/
def objBtOk (sub v : Nat) : Bool := if sub = 4 then btOk v 0x00030400 else btOk 0x003EFF18 v

/-- The owning chapter's check of a number written to, or stored for, an object: 0 when it passes. -/
def objCheck (idx sub v : Nat) : Nat :=
  match idx, sub with
  | 0x1001, 7 => if outside v 10 3600 then 0x0301 else 0
  | 0x1002, 2 => if v % 16 = 0 ∧ v ≤ 0x7F0 then 0 else 0x0301
  | 0x4000, 4 => if v = 50 ∨ v = 60 then 0 else 0x0301
  | 0x4020, 5 => if outside v 1 1000 then 0x0301 else 0
  | 0x4022, 2 => if v ≤ 1 then 0 else 0x0301
  | 0x4022, 3 => if v ≤ 3 then 0 else 0x0301
  | 0x3000, 5 => if v < 8 ∨ v = 0xFF then 0 else 0x0301
  | 0x3001, 1 => if outside v 1 4096 then 0x0301 else 0
  | 0x3100, 2 => if outside v 1 1024 then 0x0301 else 0
  | 0x3010, 1 => if v ≤ 4607 then 0 else 0x0301
  | 0x3010, 2 => if outside v 1 256 then 0x0301 else 0
  | 0x3101, 1 => if v ≤ 4607 then 0 else 0x0301
  | 0x3101, 2 => if outside v 1 64 then 0x0301 else 0
  | 0x3012, 1 => if v ≤ 4607 then 0 else 0x0301
  | 0x8080, 1 => if v % 65536 = 0 then 0 else 0x0301
  | _, _ =>
    if 0x4010 ≤ idx ∧ idx < 0x4020 ∧ sub = 1 then (if v < 24 then 0 else 0x0301)
    else if 0x4028 ≤ idx ∧ idx < 0x4030 ∧ sub = 5 then (if v = 7 then 0x030B else 0)
    else if 0x5010 ≤ idx ∧ idx < 0x5028 ∧ sub = 4 then (if v = 1 then 0x0303 else 0)
    else if 0x7010 ≤ idx ∧ idx < 0x7018 ∧ (sub = 4 ∨ sub = 5) then (if objBtOk sub v then 0 else 0x0301)
    else if 0x2A00 ≤ idx ∧ idx < 0x2B00 then pomParamCheck idx sub v
    else 0

/-- Does a number fit an object: its type, and the bits that hold it? -/
def ObjRow.fits (x : ObjRow) (v : Nat) : Bool :=
  (match x.loc with | .reg _ _ w .. => decide (v < 2 ^ w) || x.typ == 7 || x.typ == 8 | _ => true) &&
    decide (v < 2 ^ (8 * x.size)) && !(x.typ == 1 && decide (1 < v))

/-! ## Loading stored values (R560) -/

/-- Words of a byte string from an address of a window that holds words. -/
def loadWords (s : State) (a : Nat) (b : List Byte) : State :=
  ((List.range b.length).zip (toWords b)).foldl (fun t e => rawWord t (a + 4 * e.1) e.2.toNat) s

/-- A stored number of an object goes to the place that holds its value. -/
def objLoad (s : State) (x : ObjRow) (idx sub i k v : Nat) : State :=
  match x.loc with
  | .reg a lo w ia il ka kl =>
    let a := a + ia * i + ka * k
    let lo := lo + il * i + kl * k
    if idx = 0x4020 ∧ sub = 6 then s.wr F.PT_STEP_THR_THR (max v 125000)
    else if idx = 0x3001 ∧ sub = 2 then s.wr F.TIL_STAT_CFG_MIN_PCT (min v 100)
    else if idx = 0x3100 ∧ sub = 3 then s.wr F.TIL_ZLEN_ZMIN_PCT (min v 100)
    else if 0x5010 ≤ idx ∧ idx < 0x5028 ∧ sub = 4 then lsRegroup s i v
    else if 0x6010 ≤ idx ∧ idx < 0x6030 ∧ sub = 1 then dioRegroup (rawWord (dioRegroup s i 0) a v) i ((F.DIO_CFG_PAR i).slice v)
    else if w = 64 then rawWord (rawWord s a (v % 2 ^ 32)) (a + 4) (v / 2 ^ 32)
    else rawBits s a lo w v
  | .pom => match pomParamReg idx sub with
    | some f => s.wr f v
    | none => s.setObj idx sub v
  | .other =>
    match idx, sub with
    | 0x4000, 4 => s.wrB F.TRL_CTL_FNOM (v == 60)
    | 0x4020, 5 => s.wr F.PT_MAX_ADJ_MAX (maxAdjOf v)
    | 0x3000, 5 => (s.wr F.TIL_CTL_OWNER (if v < 8 then v else 0)).wrB F.TIL_CTL_OWNER_VALID (decide (v < 8))
    | 0x8000, 6 => s.wr F.PC_CKPT_BASE_BASE (v / 4096)
    | 0x9030, 2 => (s.wr F.CLO_TMP_EN_DIO (v / 64 % 2)).wr F.CLO_TMP_EN_TOKEN (v / 128)
    | _, _ => s
  | _ => s.setObj idx sub v

/-- Stored bytes of an object go to the place that holds them. -/
def objLoadBytes (s : State) (idx sub i : Nat) (b : List Byte) : State :=
  if 0x5048 ≤ idx ∧ idx < 0x5050 ∧ sub = 1 then lsCheckProf (loadWords s (0x20700800 + 0x40 * i) b) i
  else if 0x7038 ≤ idx ∧ idx < 0x703C then loadWords s (F.GW_PASS_LO_LO i 0).addr b
  else if idx = 0x7040 then
    loadWords s (match sub with | 2 => 0x20B08000 | 3 => 0x20B08100 | _ => 0x20B08300) b
  else { s with objBytes := s.objBytes.set (objKey idx sub) b }

/-- One stored number is loaded; one that fails the checks leaves its register at the reset value, and RUN carries
DEGRADED. EN of capture and of Tilth wait until the rest is loaded. -/
def loadNumber (s : State) (key v : Nat) : State :=
  let idx := key / 256
  let sub := key % 256
  match objFind idx sub with
  | some (x, i, k) =>
    if x.cls != 1 then s
    else if !x.fits v || objCheck idx sub v != 0 then s.degrade 1000 true
    else if key = objKey 0x2900 1 ∨ key = objKey 0x3000 1 then s
    else objLoad s x idx sub i k v
  | none => s

/-- One stored byte string is loaded. -/
def loadBytes (s : State) (key : Nat) (b : List Byte) : State :=
  let idx := key / 256
  let sub := key % 256
  match objFind idx sub with
  | some (x, i, _) =>
    if x.cls != 1 then s
    else if x.size < b.length then s.degrade 1000 true
    else
      let s := s.status 0
      let t := objLoadBytes s idx sub i b
      if t.resp.status = 0 then t else t.degrade 1000 true
  | none => s

/-- The registers of the PWR domain that class P objects name: without a stored value they take their defaults at BOOT
(R457); Stirrup's are Table 14-3's configuration. -/
def pwrDefaults (s : State) : State :=
  s.resetWindows [(0x20E00030, 0x20E00038), (0x20E0003C, 0x20E00048), (0x20800000, 0x20800004), (0x2080000C, 0x20800030)]

/-- The boot firmware loads the settings area (R560): every class P object takes its stored value or its default, every
class V object its default. The answer to the last access is not the boot firmware's. -/
def settingsLoad (s : State) : State :=
  let resp := s.resp
  let s := State.degrade (pwrDefaults { s with objs := [], objBytes := [] }) 1000 false
  let s := s.settings.foldl (fun t e => loadNumber t e.1 e.2) s
  let s := s.settingsBytes.foldl (fun t e => loadBytes t e.1 e.2) s
  let s := if s.rd F.STR_SWX_CFG_MAX ≤ s.rd F.STR_SWX_CFG_MIN then
      (s.resetRegs 0x2080000C 0x20800010).degrade 1000 true else s
  let s := forN (fun i t =>
    if btOk (t.readWord (F.CAN_NBT_NBRP i).addr) (t.readWord (F.CAN_DBT_DBRP i).addr) then t
    else (t.resetRegs (F.CAN_NBT_NBRP i).addr ((F.CAN_DBT_DBRP i).addr + 4)).degrade 1000 true) 8 s
  let s := s.wr F.STR_STAT_TABLES_OK 1
  let s := if s.settings.get (objKey 0x2900 1) 0 = 1 then
      let t := capOn s
      if t.rdB F.CAP_CTL_EN then t else t.degrade 1000 true
    else s
  let s := if s.settings.get (objKey 0x3000 1) 0 = 1 then
      if tilRegionsOk s then tilDegrade (s.wr F.TIL_CTL_EN 1) else (s.wr F.TIL_FLT_CFG_ERR 1).degrade 1000 true
    else s
  let ad := [3, 4, 5, 6].filterMap fun k => (s.objBytes.find? (objKey 0x1001 k)).map fun b => (k, b)
  { s with resp := resp, ses := { s.ses with addrs := ad } }

end Sys2Proof.Machine
end

