-- ==== Sys2Proof/Machine/Girth.lean ====
section
/-! DEFINITION. Girth's supplies, seating, monitors, energy counters and block resets (03_power_seating_modes.md,
04_clocks_resets.md), and what a loss of XL does. -/

namespace Sys2Proof.Machine

/-- VIN is present and no shutdown runs. -/
def alive (s : State) : Bool := s.girth.vin && !s.girth.shutdown

/-! ## Power-on and shutdown (R76, R79, R90) -/

/-- VIN power-on: everything at its reset value but what flash and fuses keep. What has left the module and the model's
own counters stay, and so does what stands at the SVC port. -/
def powerOn (s : State) : State :=
  let c := s.clo
  { State.reset with
    settings := s.settings, settingsBytes := s.settingsBytes, free := s.free, resp := s.resp, out := s.out, faults := s.faults
    pom := { latches := s.pom.saved, saved := s.pom.saved, trips := s.pom.trips }
    clo := { fuses := c.fuses, enrolled := c.enrolled, info := c.info, journal := c.journal, records := c.records, ctrs := c.ctrs,
             log := c.log, erase := c.erase, ident := c.ident }
    grf := { s.grf with act := none }
    pending := s.pending }

/-- Shutdown: outputs off, links silent, settings not yet stored lost, the rails lowered. -/
def shutdown (s : State) : State :=
  let s := outputsOff s
  let s := { s with ses := {}, girth := { s.girth with shutdown := true, dormEntry := false, vinPath := false } }
  railsTo (resetCore (resetSafe s false) false) 0 0

/-- VIN_POWER_ON (R79). -/
def execVinPowerOn (s : State) : Res := .next (if s.girth.vin then s else powerOn s)

/-- The power-fail record goes to flash while the hold-up store holds (R75, R76; its contents: log entry 25). -/
def powerFailRecord (s : State) : State :=
  if flashOk s then { s with grf := { s.grf with pfail := s.grf.pfail ++ [s.stamp] } } else s

/-- POWER_FAIL_WARNING (R76): within 100 µs outputs go off, SAFE-LS opens, SLS_ARM falls, rings and XL fall silent; the
rails are lowered. -/
def execPowerFailWarning (s : State) : Res :=
  .next (if !s.girth.vin then s
    else
      let s := (shutdown (powerFailRecord s)).wr F.RAIL_FLT_VIN_PF 1
      State.wr { s with girth := { s.girth with vin := false } } F.RAIL_STAT_HOLDUP_OK 0)

/-- The start in SEATING that follows a shutdown with VIN still present: Girth, Stirrup and the other contents of the PWR
domain keep what they hold (R97, Table 4-3); the rest starts as at power-on (log entry 25). -/
def reseat (s : State) : State :=
  let g := s.girth
  let keep := s.regs.filter fun e => decide (32 * 0x20800000 ≤ e.1) && decide (e.1 < 32 * 0x20900000) ||
    decide (32 * 0x20E00000 ≤ e.1) && decide (e.1 < 32 * 0x20F00000)
  let t := powerOn s
  let t := { t with regs := keep, now := s.now, str := s.str, upd := s.upd, partner := {},
                    clo := { t.clo with latch := s.clo.latch, fails := s.clo.fails }
                    pom := { t.pom with recCore := s.pom.recCore, recDly := s.pom.recDly } }
  let t := { t with girth := { feedLow := g.feedLow, outOff := true, warm := g.warm, cold := g.cold, coldNext := g.coldNext,
                               energy := g.energy, clkBad := g.clkBad, modeAt := s.stamp, modeTick := s.now } }
  let t := ((t.wr F.GIRTH_MODE_PREV_MODE 0).wr F.GIRTH_MODE_MODE mSEATING).wr F.GIRTH_MODE_CAUSE 0x01
  subSync (((t.wr F.SEAT_STAT_PRES 0).wr F.SEAT_STAT_PRES_J1 0).wr F.SEAT_STAT_PRES_J2 0)

/-- SHUTDOWN_COMPLETE (R76, R90): the shutdown completes with VIN present. -/
def execShutdownComplete (s : State) : Res := .next (if s.girth.shutdown then reseat s else s)

/-- VIN_PATH_CLOSE (R73): only with PRES_N asserted. -/
def execVinPathClose (s : State) : Res :=
  .next (if alive s && s.rdB F.SEAT_STAT_PRES then { s with girth := { s.girth with vinPath := true } } else s)

/-- HOLDUP_OK (R75): the store charges only through the closed path switch; trip latches not yet copied go to flash (R304). -/
def execHoldupOk (s : State) : Res :=
  .next (if alive s && s.girth.vinPath then
      State.wr { s with pom := { s.pom with saved := s.pom.latches } } F.RAIL_STAT_HOLDUP_OK 1
    else s)

/-! ## Field feeds (R70, R334) -/

/-- The channels of a feed (Table 13-1). -/
def feedChannels (feed : Nat) (f : Nat → State → State) (s : State) : State := forN (fun n t => f (12 * feed + n) t) 12 s

/-- FEED_UNDERVOLTAGE (R70): the feed is flagged and reported as degraded. -/
def execFeedUndervoltage (feed : Fin 2) (s : State) : Res :=
  .next (if !alive s then s
    else
      let s := s.wr (if feed.val = 0 then F.RAIL_FLT_VLA_UV else F.RAIL_FLT_VLB_UV) 1
      let s := { s with girth := { s.girth with feedLow := s.girth.feedLow ||| BitVec.ofNat 2 (2 ^ feed.val) } }
      feedChannels feed lsFeedLost (lsUnitRecord (s.degrade (10 + feed) true) 9 (0xFA + feed) 0xFF))

/-- FEED_RESTORED (R334). -/
def execFeedRestored (feed : Fin 2) (s : State) : Res :=
  .next (if !alive s then s
    else
      let s := { s with girth := { s.girth with feedLow := s.girth.feedLow &&& ~~~BitVec.ofNat 2 (2 ^ feed.val) } }
      feedChannels feed lsFeedBack (lsUnitRecord (s.degrade (10 + feed) false) 0x0A (0xFA + feed) 0xFF))

/-! ## Loss of XL (Table 18-3, R486) -/

/-- XL goes down: outstanding requests end, a migration without its confirmation fails. -/
def xlLoss (s : State) : State :=
  if !s.rdB F.XL_STAT_LINK then s
  else
    let s := xlDrop (s.wr F.XL_STAT_LINK 0)
    subSync (forN (fun p t =>
      let k := (t.plot p).freeze
      if k == 2 || k == 5 then migrateFail t p 0x0111 else t) 8 s)

/-! ## Rail and clock monitors (R71, R101) -/

/-- RAIL_WARN (R71): rail `r` leaves its warning window (`outside`), or is within it again. -/
def execRailWarn (r : Fin 6) (outside : Bool) (s : State) : Res :=
  .next (if alive s then s.putBit F.RAIL_STAT_WARN r outside else s)

/-- Pommel halts and the SAFE domain is reset. -/
def safeFault (s : State) : State :=
  let s := slsDown s
  resetSafe { s with pom := { s.pom with halted := true } } false

/-- RAIL_FAULT (R71, Table 3-2): over- or undervoltage of rail `r`, and its reaction; a VDD_AON fault makes the next
restart cold (R82). -/
def execRailFault (r : Fin 6) (high : Bool) (s : State) : Res :=
  .next (if !alive s then s
    else
      let s := ((s.setBit (if high then F.RAIL_FLT_OV else F.RAIL_FLT_UV) r).clrBit F.RAIL_STAT_IN_WIN r).hwFault 0x0601 r
      let s := if r.val = 0 then { s with girth := { s.girth with coldNext := true } }
        else if r.val = 1 then safeFault s
        else resetCore s false
      enterHold s 0x08)

/-- The CLK_STAT bit of clock `c` (Table 4-7). -/
def clkStat (c : Nat) : Field := { F.CLK_STAT_XO_OK with lo := c % 32 }

/-- CLOCK_FAULT (R101, R105, Table 4-2): every crossing is in its recovery phase; clock `c` by its CLK_STAT bit, 6 RC16; with the SerDes PLLs the link concerned, ETH0,
ETH1 or XL, goes down. -/
def execClockFault (c : Fin 7) (link : Fin 3) (s : State) : Res :=
  .next (if !alive s then s
    else
    let s := State.wr { s with girth := { s.girth with clkBad := s.girth.clkBad ||| BitVec.ofNat 7 (2 ^ c.val) } } F.XING_STAT_SERVICE 0
    if c.val = 6 then
      let s := (s.wr F.CLK_FLT_RC16_FLT 1).hwFault 0x0602 6
      let s := slsDown { s with girth := { s.girth with outOff := true, coldNext := true } }
      enterHold (followAll s) 0x11
    else
      let s := ((s.setBit F.CLK_FLT_FLT c).wr (clkStat c) 0).hwFault 0x0602 c
      if c.val = 5 then
        let s := if link.val = 2 then xlLoss s else s.wr (F.ETH_STAT_LINK link) 0
        s.degrade 12 true
      else if c.val = 0 ∨ c.val = 2 then
        let s := safeFault { s with girth := { s.girth with coldNext := true } }
        enterHold s 0x11
      else enterHold (resetCore s false) 0x11)

/-- AC0_SUPERVISOR_FAULT (R79, Table 4-3): the CORE domain is reset; HOLD with cause 0x09. -/
def execAc0SupervisorFault (s : State) : Res :=
  .next (if alive s && !s.girth.coreReset then enterHold (resetCore s false) 0x09 else s)

/-- PD1's half of the link and its stage logic are reset (R102, R107; log entry 25): what runs on the die stops, and the
records it keeps go. -/
def pd1Reset (s : State) : State :=
  let s := forN (fun k t => t.setLs (12 + k) {}) 12 { s with lsKept1 := [] }
  s.wr F.RST_CAUSE_PD1 1

/-- D2D_LINK_LOSS (R25): PD1 turns its channels off and resets its half of the link. -/
def execD2dLinkLoss (s : State) : Res :=
  .next (if !alive s then s
    else followAll (pd1Reset (State.hwFault { s with str := { s.str with pd1Lost := true } } 0x0606 1)))

/-! ## Seating (R55, R56, R83) -/

/-- PRES_N_ASSERT (R55, R83): both positions have read 0 for 5 ms in SEATING; SIDE and SLOT are read once. After the
seating nothing resumes (R90). -/
def execPresNAssert (side : Bool) (slot : Fin 16) (s : State) : Res :=
  .next (if alive s && s.mode == mSEATING && !s.rdB F.SEAT_STAT_PRES then
      let s := ((s.wr F.SEAT_STAT_PRES_J1 1).wr F.SEAT_STAT_PRES_J2 1).wr F.SEAT_STAT_PRES 1
      let s := (s.wrB F.SEAT_STAT_SIDE side).wr F.SEAT_STAT_SLOT slot
      { s with girth := { s.girth with seatRead := true } }
    else s)

/-- PRES_N_DEASSERT (R55, R90): position J1 (`j2` false) or J2 reads 1. Before the seating ends PRES_N is only deasserted;
after it the module shuts down. -/
def execPresNDeassert (j2 : Bool) (s : State) : Res :=
  .next (if !alive s then s
    else
      let s := (s.wr (if j2 then F.SEAT_STAT_PRES_J2 else F.SEAT_STAT_PRES_J1) 0).wr F.SEAT_STAT_PRES 0
      if s.mode == mSEATING then
        { s with girth := { s.girth with seatRead := false, extSensed := false, vinPath := false } }
      else shutdown s)

/-- LS_EXT_SENSE (R83): the pins above 8 V after 1 ms, every channel being off. -/
def execLsExtSense (map : BitVec 24) (s : State) : Res :=
  .next (if alive s && s.mode == mSEATING && s.rdB F.SEAT_STAT_PRES && !s.girth.extSensed then
      let s := s.wr F.LS_EXT_MAP_EXT map.toNat
      { s with girth := { s.girth with extSensed := true } }
    else s)

/-- SEAT_CHANGE (R56): after seating the values are kept, and the change is a hardware-fault event. -/
def execSeatChange (s : State) : Res :=
  .next (if alive s && s.mode != mSEATING then (s.wr F.SEAT_STAT_SEAT_CHANGE 1).hwFault 0x0609 0 else s)

/-! ## Energy (R97, R98) -/

/-- The counter of domain `b`. -/
def energyPut (s : State) (b v : Nat) : State :=
  let s := { s with girth := { s.girth with energy := s.girth.energy.set b (v % 2 ^ 64) } }
  s.wr (F.ENERGY_LO_E_LO b) v

/-- ENERGY_INTEGRATE (R98): the energies of the last millisecond in mJ, domain by domain, with what the supply monitors
measure: VIN, VLA and VLB in 10 mV, the module's power in mW (log entry 4). -/
def execEnergyIntegrate (mj : List (BitVec 32)) (vin vla vlb : BitVec 16) (p : BitVec 20) (s : State) : Res :=
  .next (if s.girth.vin then
      let s := (((s.wr F.VIN_MON_VIN vin.toNat).wr F.VL_MON_VLA vla.toNat).wr F.VL_MON_VLB vlb.toNat).wr F.MOD_POWER_P p.toNat
      forN (fun b t => energyPut t b (t.girth.energy.get b 0 + (mj.getD b 0).toNat)) 13 s
    else s)

/-- A read of ENERGY_LO(b) latches ENERGY_HI(b) (R97). -/
def energyLatch (s : State) (b : Nat) : State := s.wr (F.ENERGY_HI_E_HI b) (s.girth.energy.get b 0 / 2 ^ 32)

/-- ENERGY_LO_READ (R97). -/
def execEnergyLoRead (b : Fin 13) (s : State) : Res :=
  .next ((energyLatch s b).answer 0 (s.rd (F.ENERGY_LO_E_LO b)))

/-- A write of ENERGY_CLR. -/
def energyClear (s : State) (mask : Nat) : State := forN (fun b t => if mask.testBit b then energyPut t b 0 else t) 13 s

/-- ENERGY_CLR (R97). -/
def execEnergyClr (mask : BitVec 13) (s : State) : Res := .next ((energyClear s mask.toNat).status 0)

/-! ## Block resets and crossings (R105, R114) -/

/-- Reset of one block with what it does to transfers outstanding to it (R426). -/
def blkReset (b : Nat) (s : State) : State :=
  match b with
  | 1 => resetBlk 1 (brReset s)
  | 3 => grfSync (resetBlk 3 (s.resetRegs 0x21100000 0x21200000))
  | 5 => resetBlk 5 (xlLoss s)
  | b => resetBlk b s

/-- A write of BLK_RST with its key checked. -/
def blkRst (s : State) (rst : Nat) : State :=
  let s := forN (fun b t => if rst.testBit b then blkReset b t else t) 14 s
  if rst % 2 ^ 14 = 0 then s else s.wr F.XING_STAT_SERVICE 0

/-- BLK_RST (R114): from AC0's supervisor partition. -/
def execBlkRst (r : Req) (rst : BitVec 14) (s : State) : Res :=
  .next (if r = .supervisor then (blkRst s rst.toNat).status 0 else s.status 0x0207)

/-- BLK_RESET_RELEASE (R105, R106): block `b` leaves reset and its start-up handshake completes, unless it has met its
timeout. -/
def execBlkResetRelease (b : Fin 14) (s : State) : Res :=
  .next (if s.bit F.BLK_RST_STAT_BUSY b && !s.girth.coreReset && !s.girth.xFail.getLsbD b then
      xingSync (s.clrBit F.BLK_RST_STAT_BUSY b)
    else s)

/-- HANDSHAKE_TIMEOUT (R105): of the crossing to block `b`, or of that between the fabric and the SAFE domain (log entry 25);
it stays in reset. -/
def execHandshakeTimeout (b : Option (Fin 14)) (s : State) : Res :=
  .next (if !alive s then s
    else
      let s := ((s.incSat F.XING_STAT_TMO_CNT).wr F.XING_STAT_SERVICE 0).hwFault 0x0605 (match b with | some k => k.val | none => 14)
      match b with
      | some k => State.setBit { s with girth := { s.girth with xFail := s.girth.xFail ||| BitVec.ofNat 14 (2 ^ k.val) } }
          F.BLK_RST_STAT_BUSY k
      | none => { s with girth := { s.girth with domFail := true } })

end Sys2Proof.Machine
end

