-- ==== Sys2Proof/Machine/Boot.lean ====
section
/-! DEFINITION. BOOT (03_power_seating_modes.md, 21_cloche_security.md, 22_graft_update.md): what a start resets, the boot
ROM, the bank that runs, the settings, the end of BOOT, and the restarts that lead to it. -/

namespace Sys2Proof.Machine

/-! ## Resets of a start (R81, R102) -/

/-- The streams of Pommel stop with the SAFE domain: a loss as R347 and R562 set, in a hold that already runs. -/
def strStop (s : State) : State :=
  let req := (List.range 2).any fun l => (strLine s l).present && strRequired s l
  let s := forN (fun l t =>
    let x := strLine t l
    let t := if x.present then t.wr (strLostBit l) 1 else t
    setLine t l { x with present := false, run := 0, bad := 0 }) 2 s
  let s := (s.wr F.STR_STAT_LINE0_OK 0).wr F.STR_STAT_LINE1_OK 0
  let st := s.rd F.STR_STAT_STATE
  if req && (st == 0 || ((st == 1 || st == 2) && (s.str.reclaimTimer || s.str.relLs != 0 || s.str.relDio != 0))) then holdStart s else s

/-- How jobs end at a warm restart (R465, R506, R542): an activation that has written its record goes on, a key update with
its COMMIT is DONE. An erase that was running leaves its bank LOADING. -/
def jobsRestart (s : State) : State :=
  let late := match s.clo.ku with | some (_, _, c) => c | none => false
  let s := forN (fun j t =>
    let x := t.job j
    if x.kind == 0 || !x.active then t
    else if x.kind == 2 && t.grf.act == some j && t.grf.trial then t
    else if x.kind == 6 && x.state == 2 && late then jobTo t j 4 0
    else jobTo t j 5 0x0705) 32 s
  let s := { s with clo := { s.clo with ku := none }, grf := { s.grf with act := if s.grf.trial then s.grf.act else none } }
  forN (fun b t => if (t.bank b).state = 1 then t.setBank b { t.bank b with state := 2 } else t) 2 s

/-- The domains that a start resets; feeds alone stay reported as degraded. -/
def startReset (s : State) (cold : Bool) : State :=
  let s := jobsRestart (strStop s)
  let s := resetCore (resetSafe (slsDown s) false) cold
  let s := if cold then { resetAon s with grf := { s.grf with act := none } } else s
  let s := railsTo s 63 63
  let s := if s.str.pd1Lost then pd1Reset s else s
  let s := { s with retain := none, str := { s.str with pd1Lost := false } }
  let g := { s.girth with clkBad := 0, quarAt := none }
  let feeds := g.degr.filter fun (e : Nat × Bool) => e.1 == 10 || e.1 == 11
  let g := { g with degr := feeds, outOff := false, dormEntry := false, coldNext := false }
  let g := { g with spanMember := false, partnerRing := false, unpaired := false, xlLost := false }
  { s with girth := { g with ownLs := 0, ownDio := 0, offered := 0 }, partner := { seen := s.partner.seen } }

/-! ## The boot ROM (R495-R499, R519) -/

/-- The root of a cold start (R498, R499). -/
def rootRegenerate (s : State) (e : BootCheck) : State :=
  if !s.clo.enrolled then s
  else
    let both := !e.helper0 && !e.helper1
    let fail := both || e.attempts == 0
    let tries := if both then 0 else if fail then 4 else e.attempts.val
    let s := (s.wr F.CLO_ROOT_ERR_ATTEMPTS tries).wr F.CLO_ROOT_ERR_MAXCORR e.maxcorr.toNat
    let s := if e.helper0 != e.helper1 then s.wr F.CLO_FLT_HELPER_COPY 1 else s
    let s := if 1 < tries then s.wr F.CLO_FLT_ROOT_RETRY 1 else s
    let s := s.wrB F.CLO_STAT_ROOT_WEAK (!fail && decide (12 < e.maxcorr.toNat))
    { s with clo := { s.clo with root := if fail then none else some (rootOf s) } }

/-- Identity, MAC address (R166) and counters as the boot ROM shows them. -/
def romShow (s : State) (e : BootCheck) : State :=
  let s := (macLoad (idLoad s)).wr F.ID_MATCH_MATCH e.dies.toNat
  let s := forN (fun i t => t.wr (F.CLO_CTR_VALUE i) (cloCtr t i)) 8 s
  tamperSync s

/-- SAFE and CORE leave reset in a BOOT that goes no further: the stamp and plant time run (R115, R148). -/
def romRelease (s : State) : State :=
  ptStart (trlStart { s with girth := { s.girth with safeReset := false, coreReset := false } })

/-- The start of a module that a tamper holds (R519): no root, the erase completed, QUARANTINE. The newest log entry
notes it. -/
def romQuarantine (s : State) : State :=
  let log := match s.clo.log with
    | x :: r => x.set 3 (BitVec.ofNat 8 (byteNat x 3 ||| 1)) :: r
    | [] => []
  let s := { s with clo := { s.clo with log := if logHolds s then s.clo.log else log } }
  eraseDone (quarantine (romRelease s))

/-- The words of the running image's Tilth microcode go to its store, which locks; REV shows the first (R264, R538). -/
def microcodeLoad (s : State) : State :=
  let bytes := ucBytes (s.bank s.grf.running)
  let ws := toWords bytes
  let uc := ((List.range ws.length).zip ws).foldl (fun (m : SMap Nat) (e : Nat × Word) => m.set e.1 e.2.toNat) []
  let crc := crc32From 0xFFFFFFFF bytes
  let s := { s with til := { s.til with uc := uc, crc := crc } }
  let s := (s.wr F.TIL_UC_ADDR_ADDR ws.length).wr F.TIL_UC_CRC_CRC (crc ^^^ 0xFFFFFFFF)
  ((s.wr F.TIL_UC_CTL_REV (ws.headD 0).toNat).wr F.TIL_UC_CTL_LOCK 1).wr F.TIL_STAT_UC_LOCKED 1

/-- The old settings as bytes: each stored number and string under its object (R543). -/
def settingsBytes (s : State) : List Byte :=
  (s.settings.flatMap fun (e : Nat × Nat) => le 2 (e.1 / 256) ++ le 1 e.1 ++ le 1 0 ++ le 2 8 ++ le 2 0 ++ le 8 e.2) ++
    s.settingsBytes.flatMap fun (e : Nat × List Byte) =>
      le 2 (e.1 / 256) ++ le 1 e.1 ++ le 1 0 ++ le 2 e.2.length ++ le 2 0 ++ e.2 ++ List.replicate ((4 - e.2.length % 4) % 4) 0

/-- A settings area in another format: every class P object takes its default and the old settings are kept (R543). A
defaults reset that was asked for does the same without keeping them (R461). -/
def settingsFormat (s : State) : State :=
  let s := if s.ses.defaults then { s with settings := [], settingsBytes := [], ses := { s.ses with defaults := false } } else s
  let s := ((s.wr F.GRF_SETFMT_STORED s.grf.stored).wr F.GRF_SETFMT_RUNNING (runFmt s)).wr F.GRF_STAT_SET_RESET 0
  if s.grf.stored = runFmt s then s
  else
    let old := if s.grf.previous.isEmpty then settingsBytes s else s.grf.previous
    { s with settings := [], settingsBytes := [], grf := { s.grf with previous := old } }.wr F.GRF_STAT_SET_RESET 1

/-- The engines start on what has been loaded (R126, R148, R190, R265, R298). -/
def enginesStart (s : State) : State :=
  let s := { s with girth := { s.girth with safeReset := false, coreReset := false } }
  latStart (pomStart (sysSlots (ptStart (trlStart s))))

/-- BOOT from the boot ROM to the engine start (R352, R496, R532, R536, Table 3-7). -/
def bootRom (s : State) (cold : Bool) (e : BootCheck) : State :=
  if s.clo.latch || logHolds s || s.clo.erase then romQuarantine (romShow s e)
  else
    let s := if cold then rootRegenerate s e else s
    let s := romShow s e
    let s := (s.wrB F.CLO_STAT_ROOT_OK s.clo.root.isSome).wrB F.CLO_STAT_ROOT_FAIL (s.clo.enrolled && s.clo.root.isNone)
    let s := if e.torn then s.wr F.CLO_FLT_JOURNAL 1 else s
    let s := loadSlots (debugSeal (s.wr F.CLO_STAT_KEYS_SEALED 0))
    if lcKeyed s && e.dies != 31 then
      tamper (romRelease s) 5
        (((List.range 5).find? fun d => !e.dies.getLsbD d).getD 0)
    else
      let s := if e.selBad then s.wr F.GRF_FLT_SEL_COPY 1 else s
      let (s, ok) := bankSelect s e.bank0 e.bank1
      if !ok then enterHold s 0x0A
      else enginesStart (settingsLoad (settingsFormat (microcodeLoad s)))

/-- Enter BOOT (R79, R81). -/
def bootEnter (s : State) (cold : Bool) (cause : Nat) (e : BootCheck) : State :=
  bootRom (setMode (startReset s cold) mBOOT cause) cold e

/-- SEATING_END (R79, R81): the rails are in window; a cold BOOT. -/
def execSeatingEnd (e : Envt) (s : State) : Res :=
  .next (if alive s && s.mode == mSEATING && s.rdB F.SEAT_STAT_PRES && s.girth.seatRead then bootEnter s true 0x02 e.boot else s)

/-! ## Restarts (R82) -/

/-- Restarts of the last 10 min. -/
def recent (s : State) (l : List Nat) : List Nat := l.filter fun t => decide (s.now < t + 48000000000)

/-- A restart through BOOT, which RESTART_CNT and the restart rules count. -/
def restart (s : State) (cold : Bool) (cause : Nat) (e : BootCheck) : State :=
  let g := s.girth
  let s := if cold then { s with girth := { g with cold := s.now :: recent s g.cold } }
    else { s with girth := { g with warm := s.now :: recent s g.warm } }
  bootEnter (s.incSat (if cold then F.RESTART_CNT_COLD else F.RESTART_CNT_WARM)) cold cause e

/-- Three cold restarts in 10 min keep the module in HOLD (R82). -/
def coldMany (s : State) : Bool := decide (3 ≤ (recent s s.girth.cold).length)

/-- HOLD_RESTART (R82): warm, or cold when the cause requires it or after three warm restarts in 10 min; after three cold
ones none, with the outputs at fail-safe. The CAUSE of the HOLD stays. -/
def execHoldRestart (e : Envt) (s : State) : Res :=
  .next (if !(alive s && s.mode == mHOLD) then s
    else if coldMany s then failsafeNow s
    else
      let cold := s.girth.coldNext || decide (3 ≤ (recent s s.girth.warm).length)
      restart s cold (s.rd F.GIRTH_MODE_CAUSE) e.boot)

/-- COLD_RESTART_RETRY (R82): one cold restart every 60 s. -/
def execColdRestartRetry (e : Envt) (s : State) : Res :=
  .next (if alive s && s.mode == mHOLD && coldMany s && (s.girth.cold.all fun t => decide (t + 4800000000 ≤ s.now)) then restart s true (s.rd F.GIRTH_MODE_CAUSE) e.boot else s)

/-- A warm start from RUN or SERVICE on command: hold start first (R348). -/
def warmStart (s : State) (cause : Nat) (e : BootCheck) : State :=
  let st := s.rd F.STR_STAT_STATE
  restart (if st == 0 then holdStart (serviceEnd s) else serviceEnd s) false cause e

/-! ## The end of BOOT (R79, R84, R85, R476, R539, R542, R543) -/

/-- BOOT_TIMEOUT (R79): BOOT has run for 3 s; HOLD with cause 0x10. -/
def execBootTimeout (s : State) : Res := .next (if alive s && s.mode == mBOOT && modeFor s 240000000 then enterHold s 0x10 else s)

/-- The mode that BOOT ends in, with its cause. -/
def bootTarget (s : State) : Nat × Nat :=
  if s.grf.stored ≠ runFmt s then (mSERVICE, 0x0B)
  else if !lcKeyed s || s.rdB F.MODE_REQ_BOOT_SERVICE then (mSERVICE, 0x03)
  else (mRUN, 0x03)

/-- The activation that led to this BOOT ends (R542). -/
def activationEnd (s : State) : State :=
  match s.grf.act with
  | none => s
  | some j =>
    let bank := (s.job j).par.getD 0 0 % 2
    let s := { s with grf := { s.grf with act := none } }
    if (s.job j).kind ≠ 2 ∨ (s.job j).state ≠ 2 then s
    else if s.grf.running = bank then jobTo s j 4 0 else jobTo s j 5 (s.rd F.GRF_FAIL_STATUS)

/-- The plot tables come into force as the settings hold them; a set that fails its checks leaves every plot UNUSED and RUN
carries DEGRADED (R471, R560). -/
def bootTables (s : State) : State :=
  match tablesFault s with
  | some (p, k) => ((s.wr F.PC_TERR_PLOT p).wr F.PC_TERR_REASON k).degrade 1001 true
  | none => tablesApply s

/-- Channels are claimed at the start, but not with the lever up (Table 2-10, Table 3-14). -/
def bootClaims (s : State) : State := if s.rdB F.SEAT_STAT_EJECT then s else claimAll s

/-- The handoff of the mode requests starts at RUN or SERVICE with the lever up; `s` is there. -/
def bootPlots (s : State) : State := forN plotBoot 8 s

/-- The gateway's tables are committed again when it is enabled (R435). -/
def bootGateway (s : State) : State :=
  if s.obj 0x7040 1 0 = 1 then { gwCommit s with resp := s.resp } else s

/-- What RUN or SERVICE finds when BOOT is complete. -/
def bootEnd (s : State) : State :=
  let span := s.girth.xlTrained || s.girth.partnerRing
  let s := { s with girth := { s.girth with spanMember := span }, str := { s.str with wasSpan := span } }
  let s := s.wrB F.STR_STAT_SPAN span
  let s := if !span && s.rd F.LS_EXT_MAP_EXT != 0 then s.hwFault 0x0608 (s.rd F.LS_EXT_MAP_EXT) else s
  let t := bootTarget s
  let s := enterMode s t.1 t.2
  let s := if t.1 = mSERVICE then s.hwWr F.MODE_REQ_BOOT_SERVICE 0 else s
  let s := { s with girth := { s.girth with xlLost := span && !s.partner.alive } }
  let s := (s.degrade 13 (s.rdB F.CLO_STAT_ROOT_FAIL)).degrade 14 (s.rdB F.CLO_STAT_ROOT_WEAK)
  let s := bootClaims (bootTables s)
  let s := bootGateway (bootPlots s)
  xingSync (followAll (strPostEvents (activationEnd (bankAccepted s))))

end Sys2Proof.Machine
end

