-- ==== Sys2Proof/Machine/Handoff.lean ====
section
/-! DEFINITION. HANDOFF and its return (R87-R89), the front lamps (R66), and the module's share of the span's life: the
heartbeat, the loss of the partner and the takeover (R36, R37, R65, R85). -/

namespace Sys2Proof.Machine

/-! ## Front lamps (R66, Table 2-9) -/

/-- What a front lamp shows. -/
inductive Lamp where
  | off | green | greenFast | greenSlow | greenFlash | greenRedFlash | amber | amberSlow | red | redFast
  deriving DecidableEq, Repr

/-- STAT. -/
def lampStat (s : State) : Lamp :=
  let m := s.mode
  let sub := s.rd F.GIRTH_MODE_SUBSTATE
  if !s.girth.vin then .off
  else if m = mSEATING ∨ m = mBOOT then .greenFast
  else if m = mSERVICE then .amberSlow
  else if m = mRUN then (if sub.testBit 1 || sub.testBit 3 || sub.testBit 4 then .greenRedFlash else .green)
  else if m = mHOLD then .amber
  else if m = mDORMANCY then .greenFlash
  else if m = mHANDOFF then .greenSlow
  else .red

/-- EXT. -/
def lampExt (s : State) : Lamp :=
  let m := s.mode
  if !s.girth.vin || s.girth.shutdown then .off
  else if s.rdB F.SEAT_STAT_EXTRACT_OK then .green
  else if !s.rdB F.SEAT_STAT_EJECT then .off
  else if m = mHANDOFF ∨ m = mSEATING ∨ m = mBOOT then .redFast
  else .red

/-! ## HANDOFF (R87, R88) -/

/-- May a handoff go on: a span member with a live partner in RUN, and no span mismatch? -/
def handoffOk (s : State) : Bool :=
  s.girth.spanMember && s.partner.alive && !s.girth.unpaired && s.partner.mode == mRUN

/-- Give up what is owned: LS channels make-before-break, DIO outputs off (R370); DIO inputs are let go. -/
def handoffRelease (s : State) : State :=
  let s := forN (fun n t => lsOffer t n) 24 s
  forN (fun n t =>
    if !t.girth.ownDio.getLsbD n then t
    else if t.rdB (F.DIO_CFG_DIR n) then dioGive t n
    else { t with girth := { t.girth with ownDio := t.girth.ownDio &&& ~~~BitVec.ofNat 32 (2 ^ n) } }) 32 s

/-- The next step of R87 that can be taken: plots one at a time, then the channels, then the rings, then SLS_ARM. -/
def handoffStep (s : State) : State :=
  if s.mode != mHANDOFF || extractOk s then s
  else if !handoffOk s then handoffRefuse s
  else if (List.range 8).any fun p => (s.plot p).freeze != 0 then s
  else match (List.range 8).find? fun p => plotState s p == 3 with
    | some p => freezeStart s p 5 none
    | none =>
      let s := handoffRelease s
      if !ownsNone s then s
      else if ringsMastered s != 0 then
        forN (fun c t => if (t.ring c).passOffer.isNone && (t.ring c).passOut.isNone then latPass t c else t) 12 s
      else if s.rdB F.POM_STAT_ARM then subSync (s.wr F.POM_STAT_ARM 0)
      else s

/-- Enter HANDOFF, by the lever or by a request. -/
def handoffEnter (s : State) (lever : Bool) : State :=
  let s := serviceEnd (setMode s mHANDOFF (if lever then 0x05 else 0x04))
  handoffStep (followAll (powSave s))

/-- HANDOFF_SAFE_LS_OPEN (R87): at least 2 ms after SLS_ARM fell. -/
def execHandoffSafeLsOpen (s : State) : Res :=
  .next (if s.mode == mHANDOFF && ownsNone s && ringsMastered s == 0 && !s.rdB F.POM_STAT_ARM then
      subSync (s.wr F.POM_STAT_SLS_ON 0)
    else s)

/-- HANDOFF_TMO in ticks: units of 100 ms, 0 as 1 (Table 3-15). -/
def handoffTmo (s : State) : Nat := 8000000 * max 1 (s.rd F.HANDOFF_TMO_TMO)

/-- HANDOFF_TIMEOUT (R88): HANDOFF_TMO has passed without EXTRACT_OK. -/
def execHandoffTimeout (s : State) : Res :=
  .next (if s.mode == mHANDOFF && modeFor s (handoffTmo s) && !extractOk s then handoffRefuse (s.hwFault 0x0407 0) else s)

/-- REL_FAIL (R338): the partner's channel is cut off or in WAIT; the module keeps the channel and the handoff is
refused. -/
def execRelFail (n : Fin 24) (s : State) : Res :=
  .next (if s.girth.offered.getLsbD n then
      let s := { s with girth := { s.girth with offered := s.girth.offered &&& ~~~BitVec.ofNat 24 (2 ^ n.val) } }
      let s := (s.setLs n { s.lsCh n with releasing := false, quietAt := s.now }).wr (F.LS_STAT_SHARED n) 0
      handoffRefuse (lsRecord (lsFault s n 11) 0x0C n 11 n)
    else s)

/-! ## The heartbeat (R36, R196, R408, R473, R488, R489, R541) -/

/-- The plots that are here: neither UNUSED nor REMOTE. -/
def plotsHere (s : State) : Nat := bitsWhere (fun p => plotState s p != 0 && plotState s p != 6) 8

/-- The heartbeat that the module sends now. -/
def heartbeatOf (s : State) : Heartbeat :=
  let reach := (List.range 12).map fun c =>
    let r := latReach (s.ring c) (latOwn s)
    (nodeLow r, nodeHigh r)
  let info := (List.range 8).map fun p => (plotState s p, s.rd (F.PC_GEN_GEN p), (s.plot p).ckpt)
  { mode := s.mode, side := s.rd F.SEAT_STAT_SIDE, slot := s.rd F.SEAT_STAT_SLOT, rings := ringsMastered s,
    trig := s.rd F.LAT_SUM_TRIG, reach := reach, ls := s.girth.ownLs.toNat, dio := s.girth.ownDio.toNat, plots := plotsHere s,
    lsOn := s.rd F.LS_ON_MAP_ON, dioOn := s.rd F.DIO_ON_MAP_ON, digest := s.pc.digest, plotInfo := info,
    nsState := nsState s, nsRound := s.rd F.NS_STAT_ROUND, nsLocal := nsLocal s, activating := s.grf.act.isSome }

/-- Does XL carry a heartbeat (Table 2-6)? -/
def xlSends (s : State) : Bool :=
  s.rdB F.XL_STAT_LINK && !s.girth.coreReset && s.mode != mSEATING && s.mode != mQUARANTINE &&
    (s.mode != mDORMANCY || s.girth.dormEntry)

/-- HEARTBEAT_TX (R36). -/
def execHeartbeatTx (s : State) : Res :=
  .next (if xlSends s then (nsSync s).emit (.xl (.heartbeat (heartbeatOf (nsSync s)))) else s)

/-- XL_LINK_TRAINED (R85): XL has finished training; a retraining ends what was outstanding (Table 18-3). -/
def execXlLinkTrained (s : State) : Res :=
  .next (if !s.girth.coreReset && s.rdB F.XL_CTL_EN && s.mode != mSEATING && s.mode != mQUARANTINE && s.mode != mDORMANCY then
      let s := xlLoss s
      let s := if s.girth.xlTrained then s.incSat F.XL_CNT_RETRAIN else s
      subSync (State.wr (serdesBack { s with girth := { s.girth with xlTrained := true, xlSeat := true } }) F.XL_STAT_LINK 1)
    else s)

/-- The span mismatch begins (R65): no ring is mastered, SLS_ARM is low. -/
def unpair (s : State) : State :=
  let s := State.hwFault { s with girth := { s.girth with unpaired := true } } 0x0607 0
  let s := forN (fun c t => t.setRing c { t.ring c with passOffer := none, passOut := none, passIn := none }) 12 s
  let s := forN (fun c t => (latTrig (latTrig t c false false) c true false).wr (F.LAT_RSTAT_MASTER c) 0) 12 s
  s.wr F.POM_STAT_ARM 0

/-- What a heartbeat says is kept. -/
def partnerTake (s : State) (h : Heartbeat) : State :=
  let p : PartnerSt :=
    { seen := true, alive := true, mode := h.mode, side := h.side, slot := h.slot, rings := h.rings, trig := h.trig
      reach := h.reach, ls := h.ls, dio := h.dio, plots := h.plots, lsOn := h.lsOn, dioOn := h.dioOn, digest := h.digest
      nsState := h.nsState, nsRound := h.nsRound, nsLocal := h.nsLocal, activating := h.activating, beatAt := s.now
      holdAt := if s.partner.alive && s.partner.mode == mHOLD then s.partner.holdAt else s.now }
  let s := { s with partner := p, girth := { s.girth with xlLost := false } }
  let s := (s.wr F.XL_STAT_PARTNER 1).wr F.XL_STAT_PSIDE h.side
  let s := forN (fun k t =>
    let x := h.plotInfo.getD k (0, 0, 0)
    t.setPlot k { t.plot k with pState := x.1, pGen := x.2.1, pCkpt := x.2.2 }) 8 s
  forN (fun n t =>
    if !t.girth.ownLs.getLsbD n && !lsConducts (lsState t n) then t.wrB (F.LS_STAT_EXT_DRIVEN n) (h.lsOn.testBit n) else t) 24 s

/-- May channels be claimed in the present mode, with the lever down? -/
def mayClaim (s : State) : Bool := (s.mode == mRUN || s.mode == mSERVICE) && !s.rdB F.SEAT_STAT_EJECT

/-- HEARTBEAT_RX (R36, R65): only over a trained link. -/
def execHeartbeatRx (h : Heartbeat) (s : State) : Res :=
  .next (if !s.rdB F.XL_STAT_LINK then s
    else
      let was := s.partner.alive
      let s := partnerTake s h
      let bad := h.side == s.rd F.SEAT_STAT_SIDE || h.slot != s.rd F.SEAT_STAT_SLOT
      let s := if bad && !s.girth.unpaired then unpair s else { s with girth := { s.girth with unpaired := bad } }
      let s := nsSync (spanMatchSync (subSync s))
      if !was && mayClaim s then claimAll s else s)

/-! ## The partner is lost (R36, R37, R489, Table 3-11) -/

/-- Take over an LS or DIO channel that the partner owned, in the state that it last reported. -/
def takeLs (n : Nat) (s : State) : State :=
  let o := lsOwner s n
  if s.partner.ls.testBit n && !s.girth.ownLs.getLsbD n && decide (o < 8) && recEn (plotRec s o) then
    let s := { s with girth := { s.girth with ownLs := s.girth.ownLs ||| BitVec.ofNat 24 (2 ^ n) } }
    (s.clrBit F.STR_GONE_LS_GONE n).hwWr (F.LS_REQ_ON n) (s.partner.lsOn.testBit n).toNat
  else s

def takeDio (n : Nat) (s : State) : State :=
  let o := dioOwner s n
  if s.partner.dio.testBit n && !s.girth.ownDio.getLsbD n && decide (o < 8) && recEn (plotRec s o) then
    let s := { s with girth := { s.girth with ownDio := s.girth.ownDio ||| BitVec.ofNat 32 (2 ^ n) } }
    (s.clrBit F.STR_GONE_DIO_GONE n).hwWr (F.DIO_REQ_ON n) (s.partner.dioOn.testBit n).toNat
  else s

/-- The takeover: plots, channels, rings; a handoff under way has no partner to go to. -/
def takeover (s : State) : State :=
  let s := if s.mode == mHANDOFF then handoffRefuse s else s
  if s.girth.unpaired || !(s.mode == mRUN || s.mode == mSERVICE) then s
  else
    let s := forN takeDio 32 (forN takeLs 24 (forN plotTakeover 8 s))
    latTakeover (followAll s)

/-- No heartbeat counts any more. -/
def partnerGone (s : State) (lost : Bool) : State :=
  let s := lsAbandon s true
  let s := { s with partner := { s.partner with alive := false, ls := if lost then s.partner.ls else 0, dio := if lost then s.partner.dio else 0 } }
  let s := State.wr { s with girth := { s.girth with xlLost := lost } } F.XL_STAT_PARTNER 0
  nsSync (spanMatchSync (subSync s))

/-- HEARTBEAT_TIMEOUT (R36, R37): none for 2 ms. Partner-mastered ring traffic in those 2 ms makes it "XL lost, partner
alive"; without it the module takes over. -/
def execHeartbeatTimeout (s : State) : Res :=
  .next (if !(s.partner.alive || s.girth.xlLost) || decide (s.now < s.partner.beatAt + 160000) then s
    else
      let traffic : Bool := match s.lat.partnerAt with
        | some t => decide (s.now < t + 160000)
        | none => false
      if traffic then partnerGone s true else partnerGone (takeover s) false)

/-- PARTNER_HOLD_TIMEOUT (R36): heartbeats have reported HOLD for 2 ms. -/
def execPartnerHoldTimeout (s : State) : Res :=
  .next (if s.partner.alive && s.partner.mode == mHOLD && decide (s.partner.holdAt + 160000 ≤ s.now) then partnerGone (takeover s) false else s)

end Sys2Proof.Machine
end

