-- ==== Sys2Proof/Machine/Dormancy.lean ====
section
/-! DEFINITION. DORMANCY (R91-R95, R364, R393, R404, R405, R538): entry, what the retention area keeps, and the wake. -/

namespace Sys2Proof.Machine

/-! ## Entry (R92) -/

/-- In a span the partner is also entering (R91). -/
def partnerEntering (s : State) : Bool :=
  s.partner.alive && (s.partner.mode == mDORMANCY ||
    ((s.partner.nsState == 3 || s.partner.nsState == 4) && s.partner.nsRound == s.rd F.NS_STAT_ROUND))

/-- The conditions of R91 but for the network sleep commit. -/
def dormancyOk (s : State) : Bool :=
  s.mode == mRUN && nsLocal s && !s.rdB F.SEAT_STAT_EJECT && (!s.girth.spanMember || partnerEntering s)

/-- Entry begins: SAFE-LS open, the Dormancy patterns, the debug level SEALED. -/
def dormancyEnter (s : State) : State :=
  let s := debugSeal (strDormant (slsDown (setMode s mDORMANCY 0x04)))
  { s with girth := { s.girth with dormEntry := true } }

/-! ## Entry completes -/

/-- DORMANCY_ENTRY_COMPLETE (R92): the SAFE and CORE domains are reset, VDD_AON and VDD_DRAM stay up. -/
def execDormancyEntryComplete (s : State) : Res :=
  .next (if s.mode == mDORMANCY && s.girth.dormEntry then
      let r := retainOf s
      let t := resetCore (resetSafe s true) false
      let t := railsTo (t.dropMem 0x10200000 0x11000000) 9 1
      let g := { t.girth with dormEntry := false }
      canSyncAll (subSync { t with girth := g, retain := some r, partner := { t.partner with alive := false } })
    else s)

/-! ## The wake (R94, R355, R404, R405, R538) -/

/-- The records that the dies kept are posted (R340). -/
def keptPost (s : State) : State :=
  let l := s.lsKept0 ++ s.lsKept1
  l.foldl (fun t e => lsPost t e.1 e.2) { s with lsKept0 := [], lsKept1 := [] }

/-- What leaving DORMANCY, or a network sleep that is not reached, does on the sleep bus and on WAKE. -/
def wakeNetwork (s : State) (abandoned : Bool) : State :=
  let en := s.rdB F.NS_CTL_EN
  if abandoned && nsState s == 4 then nsStayAwake s
  else
    let s := if en && !abandoned then nsTo s 1 else s
    let s := if en && s.rdB F.NS_CTL_WAKE_FWD then nsSend s nsWAKE 0xFF (s.rd F.NS_STAT_CONSENT) else s
    if s.rdB F.NS_CTL_WAKE_FWD || s.girth.spanMember then wakeDrive s else s

/-- DORMANCY, or the entry into it, ends in RUN; `ok` says that the retained images match the running bank's digests. -/
def wakeRun (s : State) (ok : Bool) : State :=
  let abandoned := s.girth.dormEntry
  if !abandoned && !ok then enterHold { railsTo s 63 63 with retain := none } 0x0A
  else
    let s : State := match s.retain with
      | some r => if abandoned then s else wakeReload s r
      | none => s
    let s := { s with girth := { s.girth with dormEntry := false } }
    let s := strWake (setMode s mRUN 0x06)
    let s := nsSync (wakeNetwork (keptPost s) abandoned)
    if s.rdB F.SEAT_STAT_EJECT then handoffEnter s true else s

/-- A wake by source `bit` of DORM_WAKE_EN. -/
def wake (s : State) (bit : Nat) (ok : Bool) : State := wakeRun (s.setBit F.WAKE_CAUSE_CAUSE bit) ok

/-- Is source `bit` armed (R95)? -/
def wakeArmed (s : State) (bit : Nat) : Bool :=
  match bit with
  | 0 => s.rdB F.DORM_WAKE_EN_WAKE_LINE
  | 1 => s.rdB F.DORM_WAKE_EN_CAN_SW
  | 2 => s.rdB F.DORM_WAKE_EN_DIO_IN
  | 3 => s.rdB F.DORM_WAKE_EN_TIMER
  | 5 => s.rdB F.DORM_WAKE_EN_SVC_VBUS
  | _ => true

/-- A wake source fires: in DORMANCY it wakes the module, in a commit window it aborts it (R403). -/
def wakeFire (s : State) (bit : Nat) (ok : Bool) : State :=
  if !wakeArmed s bit then s
  else if s.mode == mDORMANCY then wake s bit ok
  else if s.mode == mRUN && nsState s == 3 then nsSync (nsAbort s)
  else s

/-- EJECT_N_ASSERT (R79, R95): from RUN or SERVICE to HANDOFF, from DORMANCY through RUN. -/
def ejectAssert (s : State) (ok : Bool) : State :=
  if !alive s then s
  else
    let s := s.wr F.SEAT_STAT_EJECT 1
    if s.mode == mRUN || s.mode == mSERVICE then handoffEnter s true
    else if s.mode == mDORMANCY then wake s 4 ok
    else s

/-- EJECT_N_ASSERT (R79). -/
def execEjectNAssert (ok : Bool) (s : State) : Res := .next (ejectAssert s ok)

/-- SVC_VBUS_CHANGE (R534, R95): VBUS appears at or leaves SVC. -/
def vbusChange (s : State) (present ok : Bool) : State :=
  let was := s.grf.vbus
  let s := { s with grf := { s.grf with vbus := present } }
  if present && !was then wakeFire s 5 ok else s

/-- SVC_VBUS_CHANGE (R534). -/
def execSvcVbusChange (present ok : Bool) (s : State) : Res := .next (vbusChange s present ok)

/-- A wake-enabled input of a channel changes: in DORMANCY the record follows after RUN (R364). -/
def dioWake (s : State) (n : Nat) (ok : Bool) : State :=
  if dormRd s (F.DIO_CFG_DIR n) != 0 || dormRd s (F.DIO_CFG_WAKE n) = 0 then s
  else
    let slept := s.mode == mDORMANCY
    let t := wakeFire s 2 ok
    if slept && t.mode != mDORMANCY && t.mode != mHOLD then dioRecord t 0x0C 0xFF n t.stamp else t

/-- WAKE_EVENT (R94, R95, R403). -/
def execWakeEvent (src : WakeSrc) (ok : Bool) (s : State) : Res :=
  .next (match src with
    | .wakeLine => wakeFire s 0 ok
    | .dio n => dioWake s n ok
    | .eject => ejectAssert s ok
    | .svcVbus => vbusChange s true ok)

/-- DORM_TIMER_EXPIRY (R97): DORM_TIMER seconds have passed in DORMANCY. -/
def execDormTimerExpiry (ok : Bool) (s : State) : Res :=
  .next (if s.mode == mDORMANCY && modeFor s (80000000 * s.rd F.DORM_TIMER_SECONDS) then wakeFire s 3 ok else s)

/-! ## Selective wake (R393, R394) -/

/-- Does a classic frame match the wake-up frame settings of controller `i`? -/
def swkMatch (s : State) (i : Nat) (f : CanFrame) : Bool :=
  let id := dormRd s (F.CAN_SWK_ID_ID i)
  let mask := dormRd s (F.CAN_SWK_MASK_MASK i)
  let dm := le 4 (dormRd s (F.CAN_SWK_DM_LO_DM i)) ++ le 4 (dormRd s (F.CAN_SWK_DM_HI_DM i))
  let data := f.dlc == dormRd s (F.CAN_SWK_CFG_DLC i) && (f.data.zip dm).any fun (p : Byte × Byte) => p.1 &&& p.2 != 0
  f.ide == (dormRd s (F.CAN_SWK_ID_IDE i) != 0) && (f.id ^^^ id) &&& mask == 0 && (dormRd s (F.CAN_SWK_CFG_DM_EN i) == 0 || data)

/-- The module is woken by transceiver `i`, which shows the cause; the record follows after RUN. -/
def swkWake (s : State) (i : Nat) (cause : Field) (ok : Bool) : State :=
  let t := wake s 1 ok
  let t := (t.wr (F.CAN_SWK_STAT_WOKE i) 1).wr cause 1
  if t.mode == mHOLD then t else canSysRecord t i 0x16

/-- Does an enabled pass entry with WAKE set name a frame that controller `i` of a GZ-1200 pair sees (R410)? -/
def passWakes (s : State) (i : Nat) (f : CanFrame) : Bool :=
  let k := i / 2
  dormRd s (F.CAN_CTL_GW1200 (2 * k)) != 0 && dormRd s (F.CAN_CTL_GW1200 (2 * k + 1)) != 0 && (List.range 32).any fun r =>
    dormRd s (F.GW_PASS_LO_EN k r) != 0 && dormRd s (F.GW_PASS_HI_WAKE k r) != 0 && dormRd s (F.GW_PASS_LO_DIR k r) == i % 2 &&
      (dormRd s (F.GW_PASS_LO_IDE k r) != 0) == f.ide && decide (dormRd s (F.GW_PASS_LO_LO k r) ≤ f.id) &&
      decide (f.id ≤ dormRd s (F.GW_PASS_HI_HI k r))

/-- SELECTIVE_WAKE (R393, R410): what a transceiver in selective-wake listen sees; it wakes the module where CAN_SW is
armed, and by a frame that a pass entry with WAKE names even where it is not. -/
def execSelectiveWake (i : Fin 8) (ev : SwkEvent) (ok : Bool) (s : State) : Res :=
  let cnt := s.rd (F.CAN_SWK_CFG_ERRCNT i)
  .next (if s.mode != mDORMANCY || dormRd s (F.CAN_SWK_CFG_EN i) = 0 then s
    else match ev with
      | .frame f =>
        if f.fdf then s
        else
          let s := s.wr (F.CAN_SWK_CFG_ERRCNT i) (cnt - 1)
          if swkMatch s i f && (wakeArmed s 1 || passWakes s i f) then swkWake s i (F.CAN_SWK_STAT_WUF i) ok else s
      | .badFrame =>
        if cnt < 31 then s.wr (F.CAN_SWK_CFG_ERRCNT i) (cnt + 1)
        else if wakeArmed s 1 then swkWake s i (F.CAN_SWK_STAT_ERR i) ok else s
      | .pattern => if dormRd s (F.CAN_SWK_CFG_WUP_EN i) != 0 && wakeArmed s 1 then swkWake s i (F.CAN_SWK_STAT_WUP i) ok else s)

end Sys2Proof.Machine
end

