-- ==== Sys2Proof/Machine/Modes.lean ====
section
/-! DEFINITION. Mode requests (R80), the end of BOOT, the lever, activation, lifecycle messages and provisioning
(R79, R89, R510, R511, R515, R541, R542). -/

namespace Sys2Proof.Machine

/-! ## The end of BOOT -/

/-- BOOT_COMPLETE (R79): every block is out of reset. With the lever up the module goes on to HANDOFF (Table 2-10). -/
def execBootComplete (s : State) : Res :=
  .next (if alive s && s.mode == mBOOT && !s.girth.coreReset && s.rd F.BLK_RST_STAT_BUSY == 0 &&
      !s.girth.domFail then
      let s := bootEnd s
      if s.rdB F.SEAT_STAT_EJECT then handoffEnter s true else s
    else s)

/-- EJECT_N_DEASSERT (R89): after EXTRACT_OK a handoff ends; a module alone may claim what it did not while the lever was
up. -/
def execEjectNDeassert (s : State) : Res :=
  .next (if !alive s then s
    else
      let s := s.wr F.SEAT_STAT_EJECT 0
      if s.mode == mHANDOFF then
        if extractOk s then followAll (enterMode s (handoffReturn s) 0x0D) else s
      else if mayClaim s && !s.girth.spanMember then claimAll s
      else s)

/-! ## Mode requests (R80, R89, R91, Table 3-5) -/

/-- Why a mode request is refused, if it is. -/
def modeRefusal (s : State) (r : Req) (target : Nat) (force : Bool) : Option Nat :=
  let m := s.mode
  let named : Bool :=
    if target = mRUN then m == mSERVICE || (m == mHANDOFF && extractOk s && !s.rdB F.SEAT_STAT_EJECT)
    else if target = mSERVICE then m == mRUN && ((s.rd F.GIRTH_MODE_SUBSTATE).testBit 0 || force)
    else if target = mBOOT ∨ target = mHANDOFF then m == mRUN || m == mSERVICE
    else if target = mDORMANCY then !s.rdB F.NS_CTL_EN && dormancyOk s
    else false
  if !r.supOrStitch then some 0x0207
  else if s.rdB F.CLO_STAT_KEYS_SEALED && target != mBOOT then some 0x0208
  else if target = mRUN ∧ !lcKeyed s then some 0x0505
  else if s.girth.shutdown || !named then some 0x0303
  else none

/-- The mode that a request asks for is entered. -/
def modeEnter (s : State) (target : Nat) (e : Envt) : State :=
  if target = mRUN then
    let back := s.mode == mSERVICE
    let s := followAll (serviceEnd (setMode s mRUN 0x04))
    if back && mayClaim s then claimAll s else s
  else if target = mSERVICE then followAll ((enterMode s mSERVICE 0x04).hwWr F.MODE_REQ_BOOT_SERVICE 0)
  else if target = mBOOT then warmStart s 0x04 e.boot
  else if target = mHANDOFF then handoffEnter s false
  else dormancyEnter s

/-- A mode request. -/
def modeRequest (s : State) (r : Req) (target : Nat) (force : Bool) (e : Envt) : State :=
  match modeRefusal s r target (force || s.girth.force) with
  | some c => State.status { s with girth := { s.girth with force := false } } c
  | none => (modeEnter { s with girth := { s.girth with force := false } } target e).status 0

/-- MODE_REQ_RUN (R80, R89). -/
def execModeReqRun (r : Req) (e : Envt) (s : State) : Res := .next (modeRequest s r mRUN false e)
/-- MODE_REQ_SERVICE (R80). -/
def execModeReqService (r : Req) (force : Bool) (e : Envt) (s : State) : Res := .next (modeRequest s r mSERVICE force e)
/-- MODE_REQ_BOOT (R80, R81). -/
def execModeReqBoot (r : Req) (e : Envt) (s : State) : Res := .next (modeRequest s r mBOOT false e)
/-- MODE_REQ_DORMANCY (R91). -/
def execModeReqDormancy (r : Req) (e : Envt) (s : State) : Res := .next (modeRequest s r mDORMANCY false e)
/-- MODE_REQ_HANDOFF (R80, R87). -/
def execModeReqHandoff (r : Req) (e : Envt) (s : State) : Res := .next (modeRequest s r mHANDOFF false e)

/-! ## Activation (R541, R542) -/

/-- ACTIVATION_PROCEED: 2 ms after its START in a span, the job goes on, or ends where the partner holds it back;
the bank-select record waits for HOLDUP_OK (R75; log entry 68). -/
def execActivationProceed (e : Envt) (s : State) : Res :=
  .next (match s.grf.act with
    | none => s
    | some j =>
      let x := s.job j
      if x.kind ≠ 2 ∨ x.state ≠ 2 ∨ !(s.mode == mRUN || s.mode == mSERVICE) ∨ !flashOk s then s
      else
        let partner := s.partner.alive && s.partner.mode == mRUN && !(s.partner.activating && s.rdB F.SEAT_STAT_SIDE)
        if s.girth.spanMember && !partner then
          jobTo { s with grf := { s.grf with act := none } } j 5 0x0303
        else
          let s := grfSync { s with grf := { s.grf with pref := x.par.getD 0 0 % 2, trial := true } }
          warmStart s 0x0F e.boot)

/-! ## Lifecycle (R510, R511, Table 21-9) -/

/-- A lifecycle message is presented. -/
def lifecycleMessage (s : State) (b : List Byte) (sigOk : Bool) (e : Envt) : State :=
  match lcmRefusal s b sigOk with
  | some c => cloReject s F.CLO_FLT_LCM_REJ c
  | none =>
    let s := lcmDo s b
    (match byteNat b 6 with
    | 1 => s
    | 4 => restart s true 0x04 e.boot
    | _ => warmStart s 0x04 e.boot).status 0

/-- LIFECYCLE_MESSAGE (R511). -/
def execLifecycleMessage (bytes : List Byte) (sigOk : Bool) (e : Envt) (s : State) : Res :=
  .next (lifecycleMessage s bytes sigOk e)

/-- A provisioning write. -/
def provision (s : State) (b : List Byte) (e : Envt) : State :=
  match provisionRefusal s b with
  | some c => s.status c
  | none => (warmStart (provisionDo s b) 0x04 e.boot).status 0

/-- PROVISION (R510). -/
def execProvision (bytes : List Byte) (e : Envt) (s : State) : Res := .next (provision s bytes e)

/-- CLOSE: SEALED again; a module whose keys RETURN has sealed starts warm (R514, R515). -/
def debugClose (s : State) (e : Envt) : State :=
  let sealed := s.rdB F.CLO_STAT_KEYS_SEALED
  let s := debugSeal s
  (if sealed && (s.mode == mRUN || s.mode == mSERVICE) then warmStart s 0x04 e.boot else s).status 0

/-- DEBUG_CLOSE (R515). -/
def execDebugClose (e : Envt) (s : State) : Res := .next (debugClose s e)

end Sys2Proof.Machine
end

