-- ==== Sys2Proof/Machine/NetSleep.lean ====
section
/-! DEFINITION. Network sleep (17_network_sleep.md): the consent round, the commit window, the sleep frames and the WAKE
line. -/

namespace Sys2Proof.Machine

/-! ## Sleep frames (R400) -/

/-- Does a frame reach the sleep protocol: from the sleep bus, through filter element 15? -/
def nsHears (s : State) (f : CanFrame) : Bool :=
  let base := s.rd F.NS_ID_BASE
  s.rdB F.NS_CTL_EN && (canMode s (s.rd F.NS_CTL_CTRL) != 0 || s.girth.dormEntry) && !f.ide &&
    decide (base ≤ f.id) && decide (f.id < base + 16)

/-- TYPE, ROUND, DST, CONSENT and RING of a sleep frame. -/
def nsType (f : CanFrame) : Nat := byteNat f.data 0 / 16
def nsRound (f : CanFrame) : Nat := byteNat f.data 0 % 16
def nsDst (f : CanFrame) : Nat := byteNat f.data 2
def nsConsent (f : CanFrame) : Nat := halfNat f.data 4
def nsRing (f : CanFrame) : Nat := halfNat f.data 6

/-- Does a frame match Table 17-1? -/
def nsForm (s : State) (f : CanFrame) : Bool :=
  let t := nsType f
  !f.rtr && !f.fdf && f.dlc == 8 && f.data.length == 8 && decide (byteNat f.data 1 < 16) &&
    f.id == s.rd F.NS_ID_BASE + byteNat f.data 1 && byteNat f.data 3 == 0 &&
    ((t == nsTOKEN && decide (nsDst f < 16)) || ((t == nsCOMMIT || t == nsWAKE || t == nsABORT) && nsDst f == 0xFF))

/-- A sleep frame of type `t` arrives, whose meaning is `k`: malformed ones set FRAME_ERR, those of another round are
ignored, another RING sets MISMATCH and aborts a window. -/
def nsTake (s : State) (f : CanFrame) (t : Nat) (k : State → State) : State :=
  if !nsHears s f then s
  else if !nsForm s f then s.wr F.NS_FLT_FRAME_ERR 1
  else if nsType f != t then s
  else if t != nsWAKE && decide (2 ≤ nsState s) && nsRound f != s.rd F.NS_STAT_ROUND then s
  else
    let s := if nsRing f = s.rd F.NS_RING_RING then s else s.wr F.NS_FLT_MISMATCH 1
    if nsRing f ≠ s.rd F.NS_RING_RING ∧ nsState s = 3 then nsSync (nsAbort s) else nsSync (k s)

/-- The next participant of the ring above the own node (R401). -/
def nsNext (s : State) : Nat :=
  let n := s.rd F.NS_CTL_NODE
  (((List.range 16).map fun i => (n + 1 + i) % 16).find? fun i => s.bit F.NS_RING_RING i).getD n

/-! ## The round (R401, R402) -/

/-- RETRY_INT has passed since the last round ended (R401); 0 counts as 1 (Table 17-4). -/
def retryDue (s : State) : Bool := s.ns.endAt.all fun t => msPast s t (max 1 (s.rd F.NS_TIME2_RETRY_INT))

/-- ROUND_START (R401): RETRY_INT has passed since the last round. -/
def execRoundStart (s : State) : Res :=
  .next (if s.rdB F.NS_CTL_EN && s.rdB F.NS_CTL_INIT && nsState s == 1 && nsLocal s && retryDue s then
      let bit := 2 ^ s.rd F.NS_CTL_NODE
      let s := ((s.incWrap F.NS_STAT_ROUND).incSat F.NS_CNT_ROUNDS).wr F.NS_STAT_CONSENT bit
      nsSend { nsTo s 2 with ns := { s.ns with fwd := true, tokAt := s.now } } nsTOKEN (nsNext s) bit
    else s)

/-- A TOKEN. -/
def nsToken (f : CanFrame) (s : State) : State :=
  let init := s.rdB F.NS_CTL_INIT
  let s := if nsState s == 1 && !init then s.wr F.NS_STAT_ROUND (nsRound f) else s
  let s := s.wr F.NS_STAT_CONSENT (nsConsent f)
  if nsDst f ≠ s.rd F.NS_CTL_NODE then s
  else if init then
    if nsState s = 2 ∧ nsConsent f = s.rd F.NS_RING_RING then nsSend s nsCOMMIT 0xFF (nsConsent f) else s
  else if nsState s ≠ 1 then s
  else
    let s := { nsTo s 2 with ns := { s.ns with tokAt := s.now } }.incSat F.NS_CNT_ROUNDS
    if nsLocal s then
      nsSend { s with ns := { s.ns with fwd := true } } nsTOKEN (nsNext s) (nsConsent f ||| 2 ^ s.rd F.NS_CTL_NODE)
    else nsAbort s

/-- TOKEN_RX (R401). -/
def execTokenRx (f : CanFrame) (s : State) : Res := .next (nsTake s f nsTOKEN (nsToken f))

/-- A COMMIT, its stamp `back` ticks ago. -/
def nsCommit (f : CanFrame) (back : Nat) (s : State) : State :=
  let s := s.wr F.NS_STAT_CONSENT (nsConsent f)
  if nsState s = 2 ∧ !s.rdB F.NS_CTL_INIT ∧ s.ns.fwd ∧ nsConsent f = s.rd F.NS_RING_RING then nsOpen s back else s

/-- COMMIT_RX (R402): the frame's start of frame lies `back` ticks back (R391). -/
def execCommitRx (f : CommitFrame) (s : State) : Res := .next (nsTake s f.frame nsCOMMIT (nsCommit f.frame f.back))

/-- An ABORT or WAKE frame that ends a window or an entry (R403, R404). -/
def nsStop (abort ok : Bool) (s : State) : State :=
  let st := nsState s
  if st = 3 then nsAbort s
  else if st = 4 then
    let s := if abort then (s.wr F.NS_FLT_ABORTED 1).incSat F.NS_CNT_ABORTS else s
    if s.girth.dormEntry then wakeRun s ok else s
  else if st = 2 ∧ abort then nsEnd ((s.wr F.NS_FLT_ABORTED 1).incSat F.NS_CNT_ABORTS)
  else if abort then s.incSat F.NS_CNT_ABORTS
  else s

/-- ABORT_RX (R403, R404). -/
def execAbortRx (f : CanFrame) (s : State) : Res := .next (nsTake s f nsABORT (nsStop true true))

/-- WAKE_RX (R403, R404). -/
def execWakeRx (f : CanFrame) (s : State) : Res := .next (nsTake s f nsWAKE (nsStop false true))

/-- ROUND_TMO (R401): that time has passed since the round's TOKEN; 0 counts as 1 (Table 17-4). -/
def execRoundTmo (s : State) : Res :=
  .next (if nsState s == 2 && msPast s s.ns.tokAt (max 1 (s.rd F.NS_TIME_ROUND_TMO)) then nsSync (nsEnd (s.wr F.NS_FLT_ROUND_TMO 1)) else s)

/-- COMMIT_WINDOW_END (R404, R408), CW after the COMMIT's stamp: ENTERING and the request for DORMANCY, or the module stays awake and wakes the
network. -/
def execCommitWindowEnd (s : State) : Res :=
  .next (if nsState s != 3 || !msPast s s.ns.winAt (s.rd F.NS_TIME_CW) then s
    else
      let s := nsTo s 4
      if s.girth.spanMember && !partnerEntering s then nsStayAwake (s.wr F.NS_FLT_PARTNER 1)
      else if !dormancyOk s then nsStayAwake s
      else dormancyEnter s)

/-! ## The WAKE line (R406, R407) -/

/-- WAKE_LINE_LOW (R406): recognised in every mode but QUARANTINE; in DORMANCY it is the WAKE_LINE wake event. -/
def execWakeLineLow (ok : Bool) (s : State) : Res :=
  .next (if !s.girth.vin || s.mode == mQUARANTINE then s
    else
      let s := s.wr F.NS_STAT_WAKE_LOW 1
      if s.mode == mDORMANCY && nsState s == 4 then wake s 0 ok
      else if s.mode == mDORMANCY then wakeFire s 0 ok
      else nsSync s)

/-- WAKE_LINE_HIGH (R406). -/
def execWakeLineHigh (s : State) : Res :=
  .next (if !s.girth.vin || s.mode == mQUARANTINE then s else nsSync (s.wr F.NS_STAT_WAKE_LOW 0))

/-- NS_CMD: 1 PULSE, 2 WAKEFRAME, others ignored (Table 17-4). -/
def nsCommand (s : State) (r : Req) (c : Nat) : State :=
  if !r.supOrStitch then s.status 0x0207
  else (nsSync (match c with
    | 1 => wakeDrive s
    | 2 => nsSend s nsWAKE 0xFF (s.rd F.NS_STAT_CONSENT)
    | _ => s)).status 0

/-- PULSE (R407). -/
def execPulse (r : Req) (s : State) : Res := .next (hostWrite s r F.NS_CMD_CMD.addr (nsCommand s r 1))
/-- WAKEFRAME (R407). -/
def execWakeframe (r : Req) (s : State) : Res := .next (hostWrite s r F.NS_CMD_CMD.addr (nsCommand s r 2))
/-- WAKE_PULSE_END (R407), WAKE_PULSE after the last reason to drive. -/
def execWakePulseEnd (s : State) : Res := .next (if s.ns.pulseEnd ≤ s.now then nsSync (wakeRelease s) else s)

/-! ## Register writes (R412) -/

/-- A write of NS_CTL: with EN set only a write that changes nothing but EN. -/
def nsCtlWrite (s : State) (v : Nat) : State :=
  let was := s.rdB F.NS_CTL_EN
  if was && s.readWord 0x20A40000 / 2 != v % 2048 / 2 then s.status 0x0303
  else
    let on := v % 2 = 1
    let s := s.writeWord 0x20A40000 v
    let s := if on ∧ !was then nsTo s 1 else if on then s else { nsTo s 0 with ns := { s.ns with fwd := false } }
    (nsSync s).status 0

/-- A write of the network-sleep or gateway registers. -/
def nsWrite (s : State) (r : Req) (a v : Nat) : State :=
  let o := a - 0x20A40000
  if 0x100 ≤ o ∧ o < 0x120 then
    if r.forPlot ((o - 0x100) / 4) then (nsSync (s.writeWord a v)).status 0 else s.status 0x0206
  else if o = 0x20 then nsCommand s r (v % 4)
  else if !r.supOrStitch then s.status 0x0207
  else if o = 0 then nsCtlWrite s v
  else if (o = 4 ∨ o = 8) ∧ s.rdB F.NS_CTL_EN then s.status 0x0303
  else if o = 8 ∧ v % 2048 % 16 ≠ 0 then s.status 0x0301
  else if o = 0x0C ∧ outside (F.NS_TIME_CW.slice v) 10 1000 then s.status 0x0301
  else if o = 0x10 ∧ outside (F.NS_TIME2_WAKE_PULSE.slice v) 10 1000 then s.status 0x0301
  else (nsSync (s.writeWord a v)).status 0

end Sys2Proof.Machine
end

