-- ==== Sys2Proof/Machine/Access.lean ====
section
/-! DEFINITION. Access to the register windows and the memories by physical address (00_scope.md R4-R6, Table 1-7): which
block takes a register write, what a register read does, and which memory a requester may touch. -/

namespace Sys2Proof.Machine

/-! ## Register writes, window by window -/

/-- A write of the Trellis window: partitions, POW entries, slots, the tracker. -/
def winTrl (s : State) (r : Req) (a v : Nat) : State :=
  let o := a - 0x20000000
  if 0x10000 ≤ o ∧ o < 0x20000 then
    let n := (o - 0x10000) / 0x40
    if o % 0x40 = 0 then slotCtlWrite s r n v else slotWrite s r n a v
  else if 0x200 ≤ o ∧ o < 0x220 then trlPartWrite s r ((o - 0x200) / 4) v
  else if 0x400 ≤ o ∧ o < 0x600 then
    let e := (o - 0x400) / 0x20
    match o % 0x20 with
    | 0 => powWriteCfg s r e v
    | 0x0C => powWriteEst s r e v true
    | 0x10 => powWriteEst s r e v false
    | _ => powWriteOther s r e a v
  else trlWrite s r a v

/-- A write of a queue's configuration block (R229, R243); watermarks with LO ≥ HI are refused (R239). -/
def queueWrite (s : State) (r : Req) (q k a v : Nat) : State :=
  if k = 0 then queueCfgWrite s r q v
  else if k = 0x10 ∨ k = 0x14 ∨ k = 0x28 ∨ k = 0x30 ∨ k = 0x34 then
    if !isConsumer s r q then s.status 0x0206
    else if k = 0x30 then (if v % 4 = 1 then furFlush s q else s).status 0
    else if (k == 0x10 && decide (v % 2 ^ 32 ≤ s.rd (F.Q_WM_LO_LO q))) ||
        (k == 0x14 && decide (s.rd (F.Q_WM_HI_HI q) ≤ v % 2 ^ 32)) then s.status 0x0302
    else (furSync (s.writeWord a v) q).status 0
  else if r ≠ .supervisor then s.status 0x0207
  else if s.rdB (F.Q_CFG_EN q) && (k == 4 || k == 8 || k == 0x18 || k == 0x1C) then s.status 0x0207
  else (furSync (s.writeWord a v) q).status 0

/-- A write of the producer page of queue `q` (R234, R243). -/
def producerWrite (s : State) (r : Req) (q o v : Nat) : State :=
  match o with
  | 4 =>
    if !isProducer s r q then s.status 0x0206
    else
      let s := furPrio s r q (v % 8)
      let s := if v.testBit 9 then furPctlAbort s r q else s
      if v.testBit 8 then furPoisonNext s r q else s
  | 8 => furProduce s r q (BitVec.ofNat 32 v) false
  | 0xC => furProduce s r q (BitVec.ofNat 32 v) true
  | _ => if isProducer s r q then s.status 0 else s.status 0x0206

/-- A write of the Furrow window. -/
def winFur (s : State) (r : Req) (a v : Nat) : State :=
  let o := a - 0x20400000
  if 0x80000 ≤ o ∧ o < 0xC0000 then producerWrite s r ((o - 0x80000) / 0x1000) (o % 0x1000) v
  else if 0x40000 ≤ o ∧ o < 0x80000 then
    if isConsumer s r ((o - 0x40000) / 0x1000) then s.status 0 else s.status 0x0206
  else if 0x1000 ≤ o ∧ o < 0x2000 then queueWrite s r ((o - 0x1000) / 0x40) (o % 0x40) a v
  else if r ≠ .supervisor then s.status 0x0207
  else
    let s := s.writeWord a v
    (dioFollowAll (s.wr F.FUR_FCL_STAT_LEVEL (bitsWhere (fclLevel s) 8))).status 0

/-- A write of LS_REQ(n): ON, then CLEAR when its bit is set. -/
def lsWriteReq (s : State) (r : Req) (n v : Nat) : State :=
  let s := lsWriteOn s r n (v % 2 == 1)
  if v.testBit 1 && s.resp.status == 0 then lsWriteClear s r n else s

/-- A write of LS_FLT(n): ones clear bits, by the owning plot (R342). -/
def lsWriteFlt (s : State) (r : Req) (n v : Nat) : State :=
  if !r.forPlot (lsOwner s n) then s.status 0x0206
  else
    let s := lsFltSync (s.writeWord (F.LS_FLT_SC n).addr v) n
    (s.degrade (200 + n) (s.rdB (F.LS_FLT_OUT_HIGH n))).status 0

/-- May the requester write LS_PROF_OWN (R342)? -/
def Req.supRole : Req → Bool
  | .supervisor => true
  | .stitch _ sup _ => sup
  | _ => false

/-- A write of the load-switch window (R342). -/
def winLs (s : State) (r : Req) (a v : Nat) : State :=
  let o := a - 0x20700000
  if 0x1000 ≤ o ∧ o < 0x1600 then
    let n := (o - 0x1000) / 0x40
    match o % 0x40 with
    | 0 => lsWriteCfg s r n (v % 16) (v / 16 % 4) (v / 256 % 8)
    | 4 => lsWriteReq s r n v
    | 0xC => lsWriteFlt s r n v
    | _ => if r.forPlot (lsOwner s n) then s.status 0 else s.status 0x0206
  else if 0x800 ≤ o ∧ o < 0xC00 then lsWriteProf s r ((o - 0x800) / 0x40) (o % 0x40 / 4) (BitVec.ofNat 32 v)
  else if 0x40 ≤ o ∧ o < 0x60 then plotqWrite s r ((o - 0x40) / 4) a v
  else if o = 0x30 then lsWritePchk s r (v % 16)
  else if o = 0x24 then lsWriteSvc s r (v % 32) (v.testBit 8) (v / 65536)
  else if !r.supOrStitch || (o == 0x2C && !r.supRole) then s.status 0x0207
  else (s.writeWord a v).status 0

/-- A write of the DIO window (R373). -/
def winDio (s : State) (r : Req) (a v : Nat) : State :=
  let o := a - 0x20900000
  if 0x1000 ≤ o ∧ o < 0x1800 then
    let n := (o - 0x1000) / 0x40
    match o % 0x40 with
    | 0 => dioWriteCfg s r n v
    | 4 => dioWriteDeb s r n v
    | 8 => dioWriteReq s r n v
    | 0x10 => dioWriteFlt s r n v
    | _ => if r.forPlot (dioOwner s n) then s.status 0 else s.status 0x0206
  else if 0x40 ≤ o ∧ o < 0x60 then plotqWrite s r ((o - 0x40) / 4) a v
  else if o = 0x10 then dioWriteSvc s r (v % 32) (v.testBit 8) (v / 65536)
  else if !r.supOrStitch then s.status 0x0207
  else (s.writeWord a v).status 0

/-- A write of GO to BR_FENCE(p) (R423, R437): only by issuer `p`. -/
def fenceGo (s : State) (r : Req) (p : Nat) : State :=
  let mine := match r with | .plot k => k.val == p | .supervisor => p == 8 | _ => false
  if !mine then s.status 0x0207
  else if s.rdB (F.BR_FENCE_STAT_BUSY p) then s.status 0x0310
  else (fenceStart s p none).status 0

/-- A write of the Bridle window (R437). -/
def winBr (s : State) (r : Req) (a v : Nat) : State :=
  let o := a - 0x20B00000
  if 0x100 ≤ o ∧ o < 0x220 then
    let p := (o - 0x100) / 0x20
    let mine := match r with | .plot k => k.val == p | .supervisor => p == 8 | _ => false
    match o % 0x20 with
    | 0 =>
      if !r.supOrStitch then s.status 0x0207
      else if s.rd (F.Q_OWN_CONS (v % 64)) ≠ p then s.status 0x0206
      else (s.writeWord a v).status 0
    | 4 => if mine then (s.writeWord a v).status 0 else s.status 0x0207
    | 8 => if v % 2 = 1 then fenceGo s r p else if mine then s.status 0 else s.status 0x0207
    | 0xC => if mine || r.supOrStitch then (s.writeWord a v).status 0 else s.status 0x0207
    | _ => if r.supOrStitch then s.status 0 else s.status 0x0207
  else if !r.supOrStitch then s.status 0x0207
  else if o = 0x1000 then (if v % 2 = 1 then gwCommit s else s.status 0)
  else (s.writeWord a v).status 0

/-- May the requester write the Cloche window (R525)? -/
def Req.secRole : Req → Bool
  | .supervisor => true
  | .stitch _ _ sec => sec
  | _ => false

/-- A write of the Cloche window (R525). -/
def winClo (s : State) (r : Req) (a v : Nat) (e : Envt) : State :=
  let o := a - 0x20D00000
  if !r.secRole then s.status 0x0207
  else if o = 0x0C then
    if v / 65536 ≠ 0x5D1C then s.status 0x0207 else if v % 2 = 1 then debugClose s e else s.status 0
  else if o = 0x1C then (if v / 65536 ≠ 0x9C7E then s.status 0x0207 else ctrIncrement s r (v % 8))
  else if (o = 0x10 ∨ o = 0x14) ∧ s.mode ≠ mSERVICE then s.status 0x0208
  else (s.writeWord a v).status 0

/-- A write of MODE_REQ (R80, Table 3-15): the key, BOOT_SERVICE, then the request; TARGET 0 asks for no mode. -/
def modeReqWrite (s : State) (r : Req) (v : Nat) (e : Envt) : State :=
  if r ≠ .supervisor ∨ v / 65536 ≠ 0xA5C3 then s.status 0x0207
  else
    let s := s.hostWr F.MODE_REQ_BOOT_SERVICE (v / 32 % 2)
    if v % 16 = 0 then s.status 0 else modeRequest s r (v % 16) (v.testBit 4) e

/-- A write of the Girth window (R80, R97, R114). -/
def winGirth (s : State) (r : Req) (a v : Nat) (e : Envt) : State :=
  let o := a - 0x20E00000
  if o = 4 then modeReqWrite s r v e
  else if o = 0x20C then
    if r ≠ .supervisor ∨ v / 65536 ≠ 0x3C5A then s.status 0x0207 else (blkRst s (v % 2 ^ 14)).status 0
  else if !r.supOrStitch then s.status 0x0207
  else if o = 0x180 then (energyClear s (v % 2 ^ 13)).status 0
  else (nsSync (s.writeWord a v)).status 0

/-- A write of the XL window (R438): XL_CTL for the supervisor alone; the other registers take no write. -/
def winXl (s : State) (r : Req) (a v : Nat) : State :=
  if a ≠ F.XL_CTL_EN.addr then s.status 0
  else if r ≠ .supervisor then s.status 0x0207
  else
    let s := s.writeWord a v
    (if s.rdB F.XL_CTL_EN then s else xlLoss s).status 0

/-- A write of value `v` to the register at address `a` of a block window; an offset without a register is ignored without
an error (R5). The answer is in `resp`. -/
def regWrite (s : State) (r : Req) (a v : Nat) (e : Envt) : State :=
  if (fieldsAt a).isEmpty then s.status 0
  else match a / 0x100000 with
  | 0x200 => winTrl s r a v
  | 0x201 => ptWrite s r a v
  | 0x202 => latWrite s r a v
  | 0x203 => msrWrite s r a v
  | 0x204 => winFur s r a v
  | 0x205 => tilWrite s r a v
  | 0x206 => if a = F.POM_MB_CMD_CMD.addr then pomMailbox s r v e.stuck e.injFail else pomWrite s r a v
  | 0x207 => winLs s r a v
  | 0x208 =>
    if a = F.STR_REL_LS_REL.addr then strRelease s r (BitVec.ofNat 24 v) 0
    else if a = F.STR_REL_DIO_REL.addr then strRelease s r 0 (BitVec.ofNat 32 v)
    else strWrite s r a v
  | 0x209 => winDio s r a v
  | 0x20A => if a < 0x20A40000 then canWrite s r a v else nsWrite s r a v
  | 0x20B => winBr s r a v
  | 0x20C => pcWrite s r a v
  | 0x20D => winClo s r a v e
  | 0x20E => winGirth s r a v e
  | 0x20F => ethWrite s r a v
  | 0x210 => winXl s r a v
  | 0x211 => grfWrite s r a v
  | _ => s.status 0

/-! ## Register reads -/

/-- A read with no effect but that on RC fields (R6). -/
def plainRead (s : State) (a : Nat) : State := (s.clearRc (fieldsAt a)).answer 0 (s.readWord a)

/-- A read that returns `x` at the fields of a value the model leaves free (log entry 1). -/
def freeRead (s : State) (f : Field) (a : Nat) : State :=
  let x := s.freeNat f.w
  plainRead (s.took.wr f x) a

/-- A read of the Furrow window: consumer pages for the consumer, producer pages for the producer (R243). -/
def readFur (s : State) (r : Req) (a : Nat) : State :=
  let o := a - 0x20400000
  if 0x80000 ≤ o ∧ o < 0xC0000 then
    if isProducer s r ((o - 0x80000) / 0x1000) then plainRead s a else s.status 0x0206
  else if 0x40000 ≤ o ∧ o < 0x80000 then
    let q := (o - 0x40000) / 0x1000
    if !isConsumer s r q then s.status 0x0206
    else if o % 0x1000 = 0 then furNext s q
    else if o % 0x1000 = 4 then furData s q false
    else plainRead s a
  else plainRead s a

/-- A read of the register at address `a` of a block window, with what it latches, clears or takes. The answer is in
`resp`. -/
def regRead (s : State) (r : Req) (a : Nat) : State :=
  match a / 0x100000 with
  | 0x200 => if a = F.TRL_NOW_ANG_ANG.addr then trlNowRead s else plainRead s a
  | 0x201 => if a = F.PT_NOW_NS_NS.addr then ptNowRead s else plainRead s a
  | 0x204 => readFur s r a
  | 0x209 =>
    if 0x20901000 ≤ a ∧ a < 0x20901800 ∧ a % 0x40 = 0x18 then dioEdgeLatch s ((a - 0x20901000) / 0x40) else plainRead s a
  | 0x20A => if canForeign s r a then s.status 0x0206 else plainRead s a
  | 0x20B => if 0x20B0A000 ≤ a ∧ a < 0x20B0A500 then s.answer 0 (gwStatusWord s (a - 0x20B0A000)) else plainRead s a
  | 0x20D => if a = F.CLO_TMP_STAT_ACTIVE.addr then freeRead s F.CLO_TMP_STAT_ACTIVE a else plainRead s a
  | 0x20E =>
    if 0x20E00100 ≤ a ∧ a < 0x20E00168 ∧ a % 8 = 0 then plainRead (energyLatch s ((a - 0x20E00100) / 8)) a else plainRead s a
  | 0x20F => if a = (F.ETH_TXTS_NS_NS 0).addr then ethTxtsRead s 0 else if a = (F.ETH_TXTS_NS_NS 1).addr then ethTxtsRead s 1
    else plainRead s a
  | _ => plainRead s a

/-- The bytes of an access. -/
def AccSize.bytes : AccSize → Nat
  | .byte => 1
  | .half => 2
  | .word => 4
  | .double => 8

/-- Do `n` bytes from `a` lie in [lo, hi)? -/
def inRange (a n lo hi : Nat) : Bool := decide (lo ≤ a) && decide (a + n ≤ hi)

/-- Read or write `n` bytes of memory; an uncorrectable error at the memory ends it with 0x0611. -/
def memAccess (s : State) (op : AccOp) (a n : Nat) (unc : Bool) : State :=
  if unc then s.status 0x0611
  else match op with
    | .read => s.answer 0 (s.numAt a n)
    | .write v => (s.putBytes a (le n v.toNat)).status 0

/-- The supervisor partition reads Furrow SRAM: DATA only (R228); each word whose parity check fails is an error of R227. -/
def sramRead (s : State) (a n : Nat) (upset : Bool) : State :=
  let lo := (a - 0x10200000) / 4
  let hi := (a + n - 0x10200000 + 3) / 4
  let bad := ((List.range (hi - lo)).filter fun k => furBad s (lo + k)).length
  let t := forN (fun _ t => furParity t 0) (if bad = 0 && upset then 1 else bad) s
  t.answer 0 (s.numAt a n)

/-- What a requester's memory access does where it may reach memory only through a plot's regions (R38, R473): `t` where
the regions allow it, `w` a write. -/
def regionCheck (s : State) (r : Req) (w : Bool) (a n : Nat) (inbound : Bool) (t : State) : State :=
  let p := match r with | .plot p => some p.val | .stitch p _ _ => some p.val | _ => none
  match r, p with
  | .supervisor, _ => t
  | _, none => s.status 0x0210
  | _, some p =>
    if plotMayAccess s p a w && plotMayAccess s p (a + n - 1) w then t
    else if inbound then s.status 0x0210
    else plotViolation s p a

/-- Is an operation a write? -/
def AccOp.isWrite : AccOp → Bool
  | .read => false
  | .write _ => true

/-- The memory access of a requester. -/
def regionAccess (s : State) (r : Req) (op : AccOp) (a n : Nat) (unc inbound : Bool) : State :=
  regionCheck s r op.isWrite a n inbound (memAccess s op a n unc)

/-- An access to the module's own address space (Table 1-7); the answer is in `resp`. -/
def localAccess (s : State) (r : Req) (op : AccOp) (a n : Nat) (unc inbound : Bool) (e : Envt) : State :=
  if isWindow a then
    if n ≠ 4 ∨ a % 4 ≠ 0 then s.status 0x0103
    else if windowDead s a then s.status 0x0610
    else match op with
      | .read => regRead s r a
      | .write v => regWrite s r a (v.toNat % 2 ^ 32) e
  else if inRange a n 0x10000000 0x10200000 then
    if r = .supervisor ∧ s.mode = mBOOT then memAccess s op a n unc else s.status 0x020B
  else if inRange a n 0x10200000 0x10400000 then
    if r = .supervisor ∧ op = .read then sramRead s a n unc else s.status 0x020B
  else if inRange a n 0x10400000 0x11000000 || inRange a n 0x800000000 0x820000000 then regionAccess s r op a n unc inbound
  else if inRange a n 0x40000000 0x44000000 then
    match op with
    | .write _ => s.status 0x020A
    | .read => regionCheck s r false a n inbound (s.took.answer 0 (s.freeNat (8 * n)))
  else if inRange a n 0 0x40000 then
    match op with
    | .write _ => s.status 0x020B
    | .read => regionCheck s r false a n inbound (s.answer 0 (ofLe ((List.range n).map fun i => Config.bootRom (a + i))))
  else s.status 0x0110

end Sys2Proof.Machine
end

