-- ==== Sys2Proof/Machine/Bridle.lean ====
section
/-! DEFINITION. The commands of Bridle (18_bridle.md): accesses by class, locally and over XL, requests from the partner,
fences. -/

namespace Sys2Proof.Machine

/-- The generation an issuer's transactions carry (R479). -/
def issuerGen (s : State) (i : Nat) : Nat := if i < 8 then s.rd (F.PC_GEN_GEN i) else 0

/-- The span control page and the partner window (Table 1-7). -/
def onXl (a : Nat) : Bool := decide (0x1000000000 ≤ a) && decide (a < 0x2000000000)
def ctrlPage (a : Nat) : Bool := decide (0x1000000000 ≤ a) && decide (a < 0x1000001000)

/-! ## Over XL -/

/-- Posted writes that wait for credit leave while fewer than 64 are unacknowledged (R420). -/
def postRelease (s : State) : State :=
  if 64 ≤ (s.br.posted.filter (·.wait.isNone)).length then s
  else match s.br.posted.find? (·.wait.isSome) with
    | none => s
    | some w =>
      let l := s.br.posted.map fun x => if x.num = w.num then { x with wait := none } else x
      let s := { s with br := { s.br with posted := l } }
      match w.wait with
      | some m => s.emit (.xl m)
      | none => s

/-- A posted write leaves over XL, or waits for credit. -/
def xlPost (s : State) (i a n v prio : Nat) : State :=
  let m := XlMsg.request s.br.nextTag true true (a - 0x1000000000) n v (3 + prio / 2) (issuerGen s i)
  let w : BrPost :=
    { num := s.br.nextTag, issuer := i, addr := a, tag := s.rd (F.BR_TAG_TAG i), gen := issuerGen s i, wait := some m }
  (postRelease { s with br := { s.br with posted := s.br.posted ++ [w], nextTag := s.br.nextTag + 1 } }).status 0

/-- The message of an outstanding request. -/
def txMsg (x : BrTx) : XlMsg :=
  .request x.tag x.write false (if ctrlPage x.addr then x.addr else x.addr - 0x1000000000) x.size x.data x.prio x.gen

/-- A read or non-posted write leaves over XL; its answer comes later. -/
def xlAsk (s : State) (i : Nat) (write : Bool) (a n v prio : Nat) : State :=
  let x : BrTx :=
    { tag := s.br.nextTag, issuer := i, write := write, addr := a, size := n, data := v,
      prio := if ctrlPage a then 2 else 3 + prio / 2, mark := s.rd (F.BR_TAG_TAG i), gen := issuerGen s i,
      sentAt := s.now }
  outBusySync (State.emit { s with br := { s.br with out := s.br.out ++ [x], nextTag := s.br.nextTag + 1 } } (.xl (txMsg x)))

/-- An access to the span control page or the partner window (R44, R414). -/
def xlAccess (s : State) (r : Req) (op : AccOp) (a n prio : Nat) : State :=
  if !inSpan s then s.status 0x0111
  else match op with
    | .read => xlAsk s r.issuer false a n 0 prio
    | .write v => if ctrlPage a then xlAsk s r.issuer true a n v.toNat prio else xlPost s r.issuer a n v.toNat prio

/-! ## An access by its class (R414, R416, R422) -/

/-- An access of requester `r`: `n` bytes at `a`, priority `prio`; `unc` says that the memory meets an uncorrectable error,
`e` what a register write may meet. -/
def bridle (s : State) (r : Req) (op : AccOp) (a n prio : Nat) (unc : Bool) (e : Envt) : State :=
  let t := if onXl a then xlAccess s r op a n prio else localAccess s r op a n unc false e
  let posted := match op with | .read => false | .write _ => !classN a
  if onXl a && inSpan s then t else accessEnd t r.issuer posted a

/-- BRIDLE_READ (R414). -/
def execBridleRead (r : Req) (a : BitVec 40) (size : AccSize) (prio : Fin 8) (unc : Bool) (s : State) : Res :=
  .next (bridle s r .read a.toNat size.bytes prio unc {})

/-- BRIDLE_NONPOSTED_WRITE (R414). -/
def execBridleNonpostedWrite (r : Req) (a : BitVec 40) (size : AccSize) (v : BitVec 64) (prio : Fin 8) (e : Envt) (s : State) :
    Res :=
  .next (if classN a.toNat then bridle s r (.write v) a.toNat size.bytes prio false e else s)

/-- BRIDLE_POSTED_WRITE (R414). -/
def execBridlePostedWrite (r : Req) (a : BitVec 40) (size : AccSize) (v : BitVec 64) (prio : Fin 8) (unc : Bool) (e : Envt)
    (s : State) : Res :=
  .next (if classN a.toNat then s else bridle s r (.write v) a.toNat size.bytes prio unc e)

/-- REGISTER_WRITE (R5): a word to the register at `a`. -/
def execRegisterWrite (r : Req) (a : BitVec 40) (v : Word) (e : Envt) (s : State) : Res :=
  .next (bridle s r (.write (v.zeroExtend 64)) a.toNat 4 4 false e)

/-- RC_FIELD_READ (R6): a read of the register at `a`. -/
def execRcFieldRead (r : Req) (a : BitVec 40) (s : State) : Res := .next (bridle s r .read a.toNat 4 4 false {})

/-- MISALIGNED_ACCESS (R4): an access to a block window of another width than a word, or not word-aligned. -/
def execMisalignedAccess (r : Req) (op : AccOp) (a : BitVec 40) (size : AccSize) (s : State) : Res :=
  .next (if isWindow a.toNat && (size.bytes != 4 || a.toNat % 4 != 0) then bridle s r op a.toNat size.bytes 4 false {} else s)

/-- Does no range of Table 1-7 hold these `n` bytes (R42)? -/
def reservedRange (a n : Nat) : Bool :=
  !(isWindow a || onXl a || inRange a n 0x10000000 0x10200000 || inRange a n 0x10200000 0x10400000 ||
    inRange a n 0x10400000 0x11000000 || inRange a n 0x800000000 0x820000000 || inRange a n 0x40000000 0x44000000 ||
    inRange a n 0 0x40000)

/-- RESERVED_RANGE_ACCESS (R42). -/
def execReservedRangeAccess (r : Req) (op : AccOp) (a : BitVec 40) (size : AccSize) (s : State) : Res :=
  .next (if reservedRange a.toNat size.bytes then bridle s r op a.toNat size.bytes 4 false {} else s)

/-- XIP_WRITE (R43): a write to the flash execute-in-place window, at offset `a`. -/
def execXipWrite (r : Req) (a : BitVec 26) (v : Word) (s : State) : Res :=
  .next (bridle s r (.write (v.zeroExtend 64)) (0x40000000 + a.toNat / 4 * 4) 4 4 false {})

/-- RESET_DOMAIN_ACCESS (R103): a word access to a window whose domain is in reset. -/
def execResetDomainAccess (r : Req) (op : AccOp) (a : BitVec 40) (s : State) : Res :=
  .next (if isWindow a.toNat && windowDead s a.toNat then bridle s r op a.toNat 4 4 false {} else s)

/-! ## Answers from the partner -/

/-- Is a number a status code of a class of Table 0-5? A message with any other is no answer (R17; log entry 10). -/
def statusOk (c : Nat) : Bool := decide (c < 0x0900)

/-- XL_RESPONSE_RX (R414, R479): the answer to a request, discarded for an older generation. -/
def execXlResponseRx (tag : Nat) (status : BitVec 16) (data : BitVec 64) (s : State) : Res :=
  .next (if !statusOk status.toNat then s else match s.br.out.find? (·.tag == tag) with
    | none => s
    | some x =>
      if x.gen ≠ issuerGen s x.issuer then
        outBusySync { s with br := { s.br with out := s.br.out.filter (·.tag != tag) } }
      else txEnd s x status.toNat (data.toNat % 2 ^ (8 * x.size)))

/-- Has a request had no response within RSP_TMO of its last transmission (R417)? 0 counts as 1 (Table 18-9). -/
def rspLate (s : State) (x : BrTx) : Bool :=
  x.resendAt.isNone && decide (x.sentAt + 800 * max 1 (s.rd F.BR_TMO_RSP_TMO) ≤ s.now)

/-- RSP_TIMEOUT (R417). -/
def execRspTimeout (tag : Nat) (s : State) : Res :=
  .next (match s.br.out.find? (·.tag == tag) with
    | none => s
    | some x => if rspLate s x then txEnd (s.incSat F.BR_CNT_TMOS) x 0x0410 0 else s)

/-- A request whose RETRY_INT has run out is sent again (R418). -/
def brResend (s : State) (x : BrTx) : State :=
  let l := s.br.out.map fun y => if y.tag = x.tag then { y with resendAt := none, sentAt := s.now } else y
  State.emit { s with br := { s.br with out := l } } (.xl (txMsg x))

/-- Each tick, the requests whose RETRY_INT ends in it are sent again. -/
def brTick (s : State) : State := (s.br.out.filter fun x => x.resendAt.any (· ≤ s.now)).foldl brResend s

/-- RETRY_RX (R418): the request waits for RETRY_INT, 0 counting as 1 (Table 18-9), or ends at RETRY_MAX. -/
def execRetryRx (tag : Nat) (s : State) : Res :=
  .next (match s.br.out.find? (·.tag == tag) with
    | none => s
    | some x =>
      let s := s.incSat F.BR_CNT_RETRIES
      if s.rd F.BR_RETRY_RETRY_MAX ≤ x.retries + 1 then txEnd s x 0x0411 0
      else
        let at_ := s.now + 80 * max 1 (s.rd F.BR_RETRY_RETRY_INT)
        let l := s.br.out.map fun y => if y.tag = tag then { y with retries := y.retries + 1, resendAt := some at_ } else y
        { s with br := { s.br with out := l } })

/-- FAILURE_NOTICE_RX (R420, R422): a posted write was refused or lost at the partner. -/
def execFailureNoticeRx (num : Nat) (status : BitVec 16) (s : State) : Res :=
  .next (if !statusOk status.toNat then s else match s.br.posted.find? (·.num == num) with
    | none => s
    | some w => postRelease (postFail s w status.toNat))

/-- The oldest posted write sent has been applied at the partner (R423). -/
def postApplied (s : State) : State :=
  match s.br.posted.find? (·.wait.isNone) with
  | none => s
  | some w =>
    let s := { s with br := { s.br with posted := s.br.posted.filter (·.num != w.num) } }
    postRelease (fenceStep s w.issuer w.num none)

/-- XL_POSTED_ACK_RX (R420, R423): the partner has applied the next `count` posted writes. -/
def execXlPostedAckRx (count : Fin 65) (s : State) : Res := .next (forN (fun _ t => postApplied t) count s)

/-- XL_LINK_LOSS (R425). -/
def execXlLinkLoss (s : State) : Res := .next (xlLoss s)

/-! ## Requests from the partner (R38, R419-R421) -/

/-- The windows that no request over XL reaches (R38). -/
def refusedOverXl (a : Nat) : Bool :=
  let w := a / 0x100000
  w == 0x206 || w == 0x208 || w == 0x20D || w == 0x211 || w == 0x212

/-- What a request from the partner does here, its answer in `resp`: the span control page has no contents in the
specification, so a read of it is free and a write changes nothing. -/
def inboundAccess (s : State) (r : Req) (op : AccOp) (page : Bool) (a n : Nat) (unc : Bool) (e : Envt) : State :=
  if page then
    match op with
    | .read => let x := s.freeNat (8 * n); s.took.answer 0 x
    | .write _ => s.status 0
  else if isWindow a && refusedOverXl a then s.status 0x0210
  else localAccess s r op a n unc true e

/-- XL_INBOUND_REQUEST: request `tag` of issuer `i` of the partner with its generation; `page` for the span control page,
else `a` is this module's address. -/
def execXlInboundRequest (tag : Nat) (i : Fin 9) (gen : Nat) (page : Bool) (a : BitVec 40) (size : AccSize) (q : XlReq)
    (unc : Bool) (e : Envt) (s : State) : Res :=
  let r : Req := if h : i.val < 8 then .plot ⟨i.val, h⟩ else .partner
  let n := size.bytes
  let ask := fun (op : AccOp) =>
    if page && s.rdB F.XL_STAT_OUT_BUSY && !s.rdB F.SEAT_STAT_SIDE then s.emit (.xl (.retry tag))
    else if !page && isWindow a.toNat && blkBusy s a.toNat then s.emit (.xl (.retry tag))
    else
      let t := inboundAccess s r op page a.toNat n unc e
      State.emit { t with resp := s.resp } (.xl (.response tag t.resp.status t.resp.data gen))
  .next (if !s.rdB F.XL_STAT_LINK then s
    else match q with
    | .read => ask .read
    | .write v => ask (.write v)
    | .posted v =>
      if i.val < 8 ∧ gen < (s.plot i).pGen then s
      else
        let t := inboundAccess s r (.write v) page a.toNat n unc e
        let c := t.resp.status
        State.emit { t with resp := s.resp } (.xl (if c = 0 then .postedAck 1 else .failNotice tag a.toNat c)))

/-! ## Fences -/

/-- FENCE_GO (R423). -/
def execFenceGo (r : Req) (p : Fin 9) (s : State) : Res := .next (hostWrite s r (F.BR_FENCE_GO p).addr (fenceGo s r p))

/-- FENCE_COMPLETE (R423): 10 × RSP_TMO have passed since the GO. -/
def execFenceComplete (p : Fin 9) (s : State) : Res :=
  .next (match s.br.fences.find? p with
    | none => s
    | some f => if f.goAt + 8000 * max 1 (s.rd F.BR_TMO_RSP_TMO) ≤ s.now then fenceEnd s p 0x0410 else s)

/-- A Stitch write of br.fence.p (R424): only for plot `p`; BR_TAG takes the value and the fence answers the request. -/
def stitchFence (s : State) (plot p tag : Nat) (n seq prio : Nat) : State :=
  let no := fun (c : Nat) => sesReply s n seq prio (replyBody 2 c 0x1021 (p + 1) 3 0 true 2 [])
  if plot ≠ p then no 0x0206
  else if s.rdB (F.BR_FENCE_STAT_BUSY p) then no 0x0310
  else fenceStart (s.wr (F.BR_TAG_TAG p) tag) p (some (n, seq, prio))

/-- STITCH_FENCE (R424): the write of `tag` to object 0x1021 sub p + 1 in session `n`. -/
def execStitchFence (n : Fin 33) (seq : BitVec 32) (prio : Fin 8) (p : Fin 8) (tag : BitVec 16) (s : State) : Res :=
  .next (match sessionOf s n with
    | none => s
    | some x => stitchFence s x.plot p tag.toNat n seq.toNat prio)

end Sys2Proof.Machine
end

