-- ==== Sys2Proof/Machine/Clock.lean ====
section
/-! DEFINITION. What one tick does in the whole module (log entry 11). -/

namespace Sys2Proof.Machine

/-- 5 ms after an entry to QUARANTINE the span partner owns every channel (Table 3-11; log entry 25). -/
def quarStep (s : State) : State :=
  match s.girth.quarAt with
  | some t =>
    if t + 400000 ≤ s.now then
      subSync { s with girth := { s.girth with ownLs := 0, ownDio := 0, quarAt := none } }
    else s
  | none => s

/-- Host writes that met a Trellis action in the previous tick take effect (R31). -/
def hostStep (s : State) : State :=
  let l := s.trl.hostNext
  l.foldl (fun t e => if e.1 < 32 then lsSetOn t e.1 (e.2 == 1) else dioSetOn t (e.1 - 32) (e.2 == 1))
    { s with trl := { s.trl with hostNext := [] } }

/-- A fault of R267 or R287 degrades Tilth for 10 s. -/
def tilTick (s : State) : State :=
  match s.til.degAt with
  | some t => if t + 800000000 ≤ s.now then tilDegrade { s with til := { s.til with degAt := none } } else s
  | none => s

/-- One tick with no command: the clocks, then what network sleep and a handoff in progress make of the new state. -/
def clock (s : State) : State := handoffStep (nsSync (quarStep (tilTick (segTick (brTick (slotCatchups (hostStep (tick s))))))))

end Sys2Proof.Machine
end

