-- ==== Sys2Proof/Machine/FurrowCmd.lean ====
section
/-! DEFINITION. The commands of a queue's pages and configuration, as accesses to their registers (09_furrow_queues.md,
R229-R243). -/

namespace Sys2Proof.Machine

/-- Q_WR (R234). -/
def execQWr (r : Req) (q : Fin 64) (data : Word) (s : State) : Res :=
  .next (hostWrite s r (0x20480008 + 0x1000 * q) (furProduce s r q data false))

/-- Q_WR_END (R234). -/
def execQWrEnd (r : Req) (q : Fin 64) (data : Word) (s : State) : Res :=
  .next (hostWrite s r (0x2048000C + 0x1000 * q) (furProduce s r q data true))

/-- Q_PCTL_PRIO (R234). -/
def execQPctlPrio (r : Req) (q : Fin 64) (prio : Fin 8) (s : State) : Res :=
  .next (hostWrite s r (0x20480004 + 0x1000 * q) (furPrio s r q prio))

/-- POISON_NEXT (R234). -/
def execPoisonNext (r : Req) (q : Fin 64) (s : State) : Res :=
  .next (hostWrite s r (0x20480004 + 0x1000 * q) (furPoisonNext s r q))

/-- ABORT (R234). -/
def execAbortCmd (r : Req) (q : Fin 64) (s : State) : Res :=
  .next (hostWrite s r (0x20480004 + 0x1000 * q) (furPctlAbort s r q))

/-- FLUSH (R233). -/
def execFlush (r : Req) (q : Fin 64) (s : State) : Res :=
  .next (hostWrite s r (0x20401030 + 0x40 * q)
    (if !isConsumer s r q then s.status 0x0206 else (furFlush s q).status 0))

/-- Q_NEXT_READ (R238). -/
def execQNextRead (r : Req) (q : Fin 64) (s : State) : Res :=
  .next (hostRead s r (0x20440000 + 0x1000 * q) (if !isConsumer s r q then s.status 0x0206 else furNext s q))

/-- Q_DATA_READ (R238). -/
def execQDataRead (r : Req) (q : Fin 64) (parErr : Bool) (s : State) : Res :=
  .next (hostRead s r (0x20440004 + 0x1000 * q) (if !isConsumer s r q then s.status 0x0206 else furData s q parErr))

/-- Q_ENABLE (R229): a write of Q_CFG with EN set and the other fields as given. -/
def execQEnable (r : Req) (q : Fin 64) (size : Fin 32) (spill : Bool) (hwprio : Fin 8) (s : State) : Res :=
  .next (hostWrite s r (0x20401000 + 0x40 * q)
    (queueCfgWrite s r q (1 + 2 * size.val + 64 * spill.toNat + 256 * hwprio.val)))

/-- Q_DISABLE (R242): a write of Q_CFG with EN clear and the other fields as they are. -/
def execQDisable (r : Req) (q : Fin 64) (s : State) : Res :=
  .next (hostWrite s r (0x20401000 + 0x40 * q)
    (if r ≠ .supervisor then s.status 0x0207
    else if s.rdB (F.Q_CFG_EN q) then (queueOff s q).status 0
    else s.status 0))

end Sys2Proof.Machine
end

