-- ==== Sys2Proof/Machine/StitchObj.lean ====
section
/-! DEFINITION. Reading an object of the dictionary (R455-R460): the value an object has now, the state after the read, and
the status of class 0x08xx for a value that is not VALID. -/

namespace Sys2Proof.Machine

/-- What a read answers: the state after it, the status, the bytes. -/
abbrev ObjVal := State × Nat × List Byte

/-- A number object that no register mirrors, its default from its row. -/
def objNum (s : State) (idx sub : Nat) : Nat :=
  match objFind idx sub with
  | some (x, _, _) => s.obj idx sub x.dflt
  | none => 0

/-- The key of an object that each session holds for itself (R270, R294). -/
def sesKey (n idx sub : Nat) : Nat := objKey idx sub + 2 ^ 24 * (1 + n)
def sesNum (s : State) (n idx sub : Nat) : Nat :=
  match objFind idx sub with
  | some (x, _, _) => s.objs.get (sesKey n idx sub) x.dflt
  | none => 0

/-! ## F32 (R21) -/

/-- The F32 nearest to m · 2^e, ties to even (PRESUMED, log entry 16). -/
def f32Round (neg : Bool) (m : Nat) (e : Int) : Nat :=
  let sign := if neg then 2 ^ 31 else 0
  if m = 0 then sign
  else
    let q : Int := max ((Nat.log2 m : Int) - 23 + e) (-149)
    let d := (q - e).toNat
    let mant : Nat := if q ≤ e then m * 2 ^ (e - q).toNat
      else
        let k := m / 2 ^ d
        let r := m % 2 ^ d
        if 2 ^ d < 2 * r ∨ (2 * r = 2 ^ d ∧ k % 2 = 1) then k + 1 else k
    sign + min ((q + 149).toNat * 2 ^ 23 + mant) 0x7F800000

/-- An integer times an F32. -/
def f32Mul (n : Int) (f : Nat) : Nat :=
  let e : Nat := f / 2 ^ 23 % 256
  let m := f % 2 ^ 23
  let neg := decide (n < 0) != f.testBit 31
  if e = 255 then (if neg then 2 ^ 31 else 0) + 0x7F800000
  else if e = 0 then f32Round neg (n.natAbs * m) (-149)
  else f32Round neg (n.natAbs * (m + 2 ^ 23)) ((e : Int) - 150)

/-- Is it not a number (R456)? -/
def f32Nan (f : Nat) : Bool := f / 2 ^ 23 % 256 == 255 && f % 2 ^ 23 != 0

/-! ## Values by block -/

/-- The status of a mark of Table 7-5. -/
def markStatus (mark : Nat) : Nat :=
  match mark with
  | 0 => 0
  | 1 => 0x0801
  | 2 => 0x0804
  | _ => 0x0805

/-- The latest sample of cell `k` of node `x % 24` on ring `x / 24` (R205). -/
def latCellRead (s : State) (x k : Nat) : Nat × Nat :=
  let c := x / 24
  let n := x % 24
  let g := 384 * c + 16 * n + k
  if s.lat.openSet && (s.ring c).taken.getLsbD n then
    (cellVal s (s.lat.seq % 16) g, markStatus (cellMark s (s.lat.seq % 16) g))
  else if s.lat.seen then
    let j := if s.lat.openSet then s.lat.prevSeq % 16 else s.lat.seq % 16
    (cellVal s j g, markStatus (cellMark s j g))
  else (0xFFFF, 0x0801)

/-- The latest temperature of sensor `i` of a node. -/
def latTempRead (s : State) (x i : Nat) : Nat × Nat :=
  let now := s.lat.openSet && latSensor s == some i && (s.ring (x / 24)).temps.getLsbD (x % 24)
  if now || s.lat.tempSeen.getLsbD i then
    (s.numAt (tempAddr (8 * x + i)) 2, markStatus (tempMark s (8 * x + i)))
  else (0x8000, 0x0801)

/-- msr.m.current (`v` false) or msr.m.voltage: the last VALID decimated value, scaled (R214). -/
def msrValue (s : State) (m : Nat) (v : Bool) : State × Nat × Nat :=
  let dec := if v then s.rdI (F.MSR_DEC_V_V m) else s.rdI (F.MSR_DEC_I_I m)
  let ofs := toInt 32 (objNum s (0x2800 + m) (if v then 6 else 4))
  let sc := objNum s (0x2800 + m) (if v then 5 else 3)
  let st := markStatus (s.msr.marks.get m 2)
  if dec - ofs = 0 ∧ sc / 2 ^ 23 % 256 = 255 then (s.took, st, s.freeNat 32) else (s, st, f32Mul (dec - ofs) sc)

/-- Bytes of `size` for each cell of the session's window, from a bank. -/
def tilWindow (s : State) (n idx base size : Nat) : List Byte :=
  let g := sesNum s n idx 1
  s.bytesAt (base + size * g) (size * min (sesNum s n idx 2) (4608 - g))

/-- Does byte `o` of any record of `size` bytes have bit 0 (or, for `any`, any bit) set? -/
def recordsFlag (b : List Byte) (size o : Nat) (any : Bool) : Bool :=
  (List.range (b.length / size)).any fun k =>
    let x := byteNat b (size * k + o)
    if any then x != 0 else x.testBit 0

/-- Session `n` in stitch.sessions.info. -/
def sessionInfo (s : State) (n : Nat) : List Byte :=
  match sessionOf s n with
  | none => le 8 0
  | some x =>
    le 1 x.plot ++ le 1 x.roles ++ le 1 x.transport ++ le 1 (if x.transport = 1 then x.port else 0) ++ le 2 x.cred ++
      le 2 (s.obj 0x1001 7 60 - (s.now - x.at_) / 80000000)

/-! ## The description (R460) -/

/-- Decimal digits. -/
def digits (n : Nat) : List Byte := (Nat.toDigits 10 n).map fun c => BitVec.ofNat 8 c.toNat

/-- The name of instance `i`, sub-index number `k` of a row. -/
def objName (i k : Nat) : List Char → List Byte
  | '%' :: '0' :: r => digits i ++ objName i k r
  | '%' :: '1' :: r => digits (i / 24) ++ objName i k r
  | '%' :: '2' :: r => digits (i % 24) ++ objName i k r
  | '%' :: '3' :: r => digits k ++ objName i k r
  | c :: r => BitVec.ofNat 8 c.toNat :: objName i k r
  | [] => []

/-- Masks of plot `p` for an object: the read and the write mask of the entry that holds it, else none (R454). -/
def maskOf (b : List Byte) (idx sub : Nat) : Nat × Nat :=
  match b with
  | i0 :: i1 :: f :: l :: r :: w :: _ :: _ :: t =>
    if i0.toNat + 256 * i1.toNat = idx ∧ f.toNat ≤ sub ∧ sub ≤ l.toNat then (r.toNat, w.toNat) else maskOf t idx sub
  | _ => (0, 0)

/-- Does an owner rule apply to writes of the object, or to its slot (R32, R220, R263, R288, R344, R373, R413, R424, R462)? -/
def ownerRuled (idx sub acc : Nat) : Bool :=
  acc != 0 && (idx == 0x1021 || (decide (0x2910 ≤ idx) && decide (idx < 0x2918)) ||
    (idx == 0x3012 && sub == 2) || idx == 0x3013 || (decide (0x3110 ≤ idx) && decide (idx < 0x3118)) || idx == 0x3102 ||
    (decide (0x3020 ≤ idx) && decide (idx < 0x3028)) || (decide (0x4010 ≤ idx) && decide (idx < 0x4020)) || idx == 0x5002 || idx == 0x6001 || (decide (0x5010 ≤ idx) && decide (idx < 0x5028)) ||
    (decide (0x5040 ≤ idx) && decide (idx < 0x5050) && sub == 1) || (decide (0x6010 ≤ idx) && decide (idx < 0x6030)) ||
    idx == 0x7031 || (decide (0xA000 ≤ idx) && decide (idx < 0xA200)))

/-- Does a read clear something in the object? -/
def readClears (x : ObjRow) (idx sub i k : Nat) : Bool :=
  (idx == 0x1003 && decide (3 ≤ sub)) ||
    match x.loc with
    | .reg a lo w ia il ka kl => (fieldsIn (a + ia * i + ka * k) (lo + il * i + kl * k) w).any fun f => f.acc == .rc
    | _ => false

/-- The default of an object as the description lists it. -/
def dfltBytes (x : ObjRow) (idx sub i : Nat) : List Byte :=
  if x.noDflt then []
  else if x.typ = 13 ∨ x.typ = 14 then
    let b := match idx, sub with
      | 0x1000, 1 => asciiBytes "Sloelen"
      | 0x1000, 2 => asciiBytes "Griud"
      | 0x1000, 3 => asciiBytes "Bruaz GZ-4608"
      | 0xB000, 4 => asciiBytes "GZ4608-AE"
      | _, _ => if 0x5040 ≤ idx ∧ idx < 0x5050 then lsProfBytes {} i else []
    le 4 b.length ++ b
  else le x.size (match x.loc with | .pom => pomParamDflt idx sub | _ => x.dflt)

/-- An object of a row: key, row, instance, sub-index number. -/
abbrev ObjInst := Nat × ObjRow × Nat × Nat

/-- Objects in ascending order with sub-index 0x00 of each index that has several entries before them (R20). -/
def withTops : Nat → List ObjInst → List ObjInst
  | _, [] => []
  | last, e :: r =>
    let idx := e.1 / 256
    let t := e :: withTops idx r
    if idx = last then t
    else match objTop idx with
      | some (x, i, k) => (objKey idx 0, x, i, k) :: t
      | none => t

/-- Every object and sub-index of indices 0x1000 to 0xBFFF, in ascending order. -/
def objAll : List ObjInst :=
  let l : List ObjInst := objRows.flatMap fun x => (List.range x.n).flatMap fun j => (List.range x.m).map fun k =>
    (objKey (x.idx + x.st * (x.i0 + j)) (x.sub + k), x, x.i0 + j, k)
  withTops 0 (l.mergeSort fun a b => decide (a.1 ≤ b.1))

/-- What a list of entries becomes: the entries, the names, the defaults. -/
def descParts (masks : List Byte) : List ObjInst → Nat → Nat → List Byte × List Byte × List Byte
  | [], _, _ => ([], [], [])
  | (key, x, i, k) :: r, no, dof =>
    let idx := key / 256
    let sub := key % 256
    let nm := objName i (x.k0 + k) x.name.toList
    let d := dfltBytes x idx sub i
    let m := maskOf masks idx sub
    let fl := (ownerRuled idx sub x.acc).toNat + 2 * (readClears x idx sub i k).toNat + 4 * x.noDflt.toNat
    let e := le 2 idx ++ le 1 sub ++ le 1 x.typ ++ le 1 x.acc ++ le 1 x.cls ++ le 1 m.1 ++ le 1 m.2 ++ le 4 x.size ++
      le 4 no ++ le 2 nm.length ++ le 2 fl ++ le 4 dof
    let (es, ns, ds) := descParts masks r (no + nm.length) (dof + d.length)
    (e ++ es, nm ++ ns, d ++ ds)

/-- dev.desc for plot `p` (Table 19-7). -/
def descBytes (s : State) (p : Nat) : List Byte :=
  let (es, ns, ds) := descParts (s.plot p).masks objAll 0 0
  let n0 := 32 + es.length
  let body := es ++ ns ++ ds
  le 2 1 ++ le 1 p ++ le 1 0 ++ le 4 (es.length / 24) ++ le 4 n0 ++ le 4 ns.length ++ le 4 (n0 + ns.length) ++
    le 4 ds.length ++ (digestBytes body).take 8 ++ body

/-! ## Reading -/

/-- The present rate correction in parts per 10^9, rounded to nearest. -/
def ptPpb (s : State) : Int := (2 * s.rdI F.PT_RATE_I * 80000000 + 2 ^ 32) / 2 ^ 33

/-- The four words of CAN partition `p` of controller `i`. -/
def canPartBytes (s : State) (i p : Nat) : List Byte :=
  ((List.range 4).map fun w => le 4 (s.readWord (0x20A00100 + 0x1000 * i + 0x10 * p + 4 * w))).flatten

/-- The 32 entries of the pass list of pair `k`. -/
def gwPassBytes (s : State) (k : Nat) : List Byte :=
  ((List.range 64).map fun w => le 4 (s.readWord (0x20A40210 + 0x200 * k + 4 * w))).flatten

/-- The image buffer window (R487). -/
def imageWindow (s : State) : Nat := 4096 * s.rd F.PC_CKPT_BASE_BASE + s.obj 0x8080 1 0

/-- The order code of VARIANT. -/
def orderCode (s : State) : List Byte := if byteNat s.clo.ident 1 = 1 then asciiBytes "GZ4608-AT" else asciiBytes "GZ4608-AE"

/-- A read of an object with a place of its own, for plot `p` in session `n`; `i` its instance. -/
def otherRead (s : State) (p n idx sub i : Nat) : ObjVal :=
  let ok := fun (b : List Byte) => ((s, 0, b) : ObjVal)
  let owner := fun (b : List Byte) => if s.rdB F.TIL_CTL_OWNER_VALID && s.rd F.TIL_CTL_OWNER == p then ok b else (s, 0x0206, [])
  let job := s.job i
  if 0x2100 ≤ idx ∧ idx < 0x2220 then let (v, c) := latCellRead s i (sub - 1); (s, c, le 2 v)
  else if 0x2240 ≤ idx ∧ idx < 0x2360 then let (v, c) := latTempRead s i (sub - 1); (s, c, le 2 v)
  else if 0x2380 ≤ idx ∧ idx < 0x24A0 then
    let c := i / 24
    let m := i % 24
    match sub with
    | 1 => ok (le 4 (s.rd (F.LAT_NUID_LO_UID_LO c m)) ++ le 4 (s.rd (F.LAT_NUID_HI_UID_HI c m)))
    | 5 => ok (le 2 (s.rd (F.LAT_NSTAT_CELLS c m)))
    | 6 => ok (le 2 (s.rd (F.LAT_NDLY_D_A c m)) ++ le 2 (s.rd (F.LAT_NDLY_D_B c m)))
    | _ => ok (le 2 (s.obj (0x2380 + i) 7 0))
  else if 0x2800 ≤ idx ∧ idx < 0x2804 then let (t, c, v) := msrValue s i (sub == 10); (t, c, le 4 v)
  else if 0x5040 ≤ idx ∧ idx < 0x5050 then ok (lsProfBytes s i)
  else if 0x6010 ≤ idx ∧ idx < 0x6030 then
    match sub with
    | 8 => ok (le 4 (100 * s.rd (F.DIO_MEAS_I i)))
    | 11 => ok (s.dioCh i).edge.ang.bytes
    | _ => ok (s.dioCh i).edge.pt.bytes
  else if 0x7020 ≤ idx ∧ idx < 0x7028 then ok (canPartBytes s i (sub - 1))
  else if 0x7038 ≤ idx ∧ idx < 0x703C then ok (gwPassBytes s i)
  else if 0xA000 ≤ idx ∧ idx < 0xA200 then
    match sub with
    | 1 => ok (le 1 job.kind)
    | 3 => ok (le 1 job.state)
    | 4 => ok (le 2 job.progress)
    | 5 => ok (le 2 job.result)
    | 6 => ok (le 1 job.owner)
    | 7 => ok (le 4 job.arg)
    | 8 => ok (le 1 job.queue)
    | 9 => ok job.started.bytes
    | _ => ok job.ended.bytes
  else match idx, sub with
  | 0x1000, 1 => ok (asciiBytes "Sloelen")
  | 0x1000, 2 => ok (asciiBytes "Griud")
  | 0x1000, _ => ok (asciiBytes "Bruaz GZ-4608")
  | 0x1003, 1 => ok (le 4 (bitsWhere (fun m => (sessionOf s (m + 1)).isSome) 32))
  | 0x1003, _ => ok ((List.range 32).flatMap fun m => sessionInfo s (m + 1))
  | 0x1004, _ => ok (descBytes s p)
  | 0x1005, _ => ok (le 1 (!(s.ses.unsaved.isEmpty && s.ses.unsavedBytes.isEmpty)).toNat)
  | 0x1013, _ => ok (le 8 (s.girth.energy.get (sub - 1) 0))
  | 0x2900, 3 => ok (le 8 (capBase s))
  | 0x2900, _ => ok (le 8 (capDirBase s))
  | 0x3000, _ => ok (le 1 (if s.rdB F.TIL_CTL_OWNER_VALID then s.rd F.TIL_CTL_OWNER else 0xFF))
  | 0x3010, 3 =>
    let b := tilWindow s n 0x3010 (stateBank s (s.rd F.TIL_PUB_STATE_BANK)) 32
    (s, if recordsFlag b 32 22 false then 0x0802 else 0, b)
  | 0x3010, 4 =>
    let b := tilWindow s n 0x3010 (statBank s (s.rd F.TIL_PUB_STAT_BANK)) 64
    (s, if recordsFlag b 64 4 false then 0x0802 else 0, b)
  | 0x3010, _ =>
    let b := tilWindow s n 0x3010 (statBank s (s.rd F.TIL_PUB_STAT_BANK)) 64
    (s, if recordsFlag b 64 4 false then 0x0802 else 0, tilWindow s n 0x3010 (divBank s (s.rd F.TIL_PUB_DIV_BANK)) 16)
  | 0x3012, _ =>
    let g := s.obj 0x3012 1 0
    owner (s.bytesAt (tilPar s + 64 * g) (294912 - 64 * g))
  | 0x3013, t => owner (s.bytesAt (tilPar s + 0x48000 + 512 * (t - 1)) 260)
  | 0x3101, 3 =>
    let b := tilWindow s n 0x3101 (zBank s (s.rd F.TIL_ZPUB_BANK)) 320
    (s, if recordsFlag b 16 12 true then 0x0806 else 0, b)
  | 0x3101, _ => ok (s.bytesAt (zStrings s (s.rd F.TIL_ZPUB_BANK)) 1280)
  | 0x3102, _ => owner (s.bytesAt (tilPar s + 0x4A000) 0x240)
  | 0x4000, _ => ok (le 1 (if s.rdB F.TRL_CTL_FNOM then 60 else 50))
  | 0x4001, 2 => ((trlNowRead s).status 0, 0, s.stamp.ang.bytes)
  | 0x4001, _ => ok (le 4 (s.rd F.TRL_NOW_PT_NS_NS) ++ le 4 (s.rd F.TRL_NOW_PT_S_LO_S_LO) ++ le 2 (s.rd F.TRL_NOW_PT_S_HI_S_HI))
  | 0x4020, _ => ok (le 2 (maxAdjPpm (s.rd F.PT_MAX_ADJ_MAX)))
  | 0x4021, 2 => ((ptNowRead s).status 0, 0, s.stamp.pt.bytes)
  | 0x4021, _ => ok (le 4 (ofInt 32 (ptPpb s)))
  | 0x7040, 2 => ok (gwBytes s 0 256)
  | 0x7040, 3 => ok (gwBytes s 0x100 512)
  | 0x7040, 4 => ok (gwBytes s 0x300 4096)
  | 0x7040, _ => ok ((List.range 320).flatMap fun w => le 4 (gwStatusWord s (4 * w)))
  | 0x8000, 2 => ok (le 8 s.pc.digest)
  | 0x8000, _ => ok (le 8 (4096 * s.rd F.PC_CKPT_BASE_BASE))
  | 0x8080, _ =>
    let c := areaStatus (imageWindow s) 65536
    if c = 0 then ok (s.bytesAt (imageWindow s) 65536) else (s, c, [])
  | 0x9030, 1 =>
    let b := s.clo.log.flatten
    ok ((b ++ List.replicate (2048 - b.length) 0).take 2048)
  | 0x9030, _ => ok (le 1 (64 * s.rd F.CLO_TMP_EN_DIO + 128 * s.rd F.CLO_TMP_EN_TOKEN))
  | 0xA200, _ => ok ((List.range 32).flatMap fun j =>
      let x := s.job j
      le 1 x.kind ++ le 1 x.state ++ le 1 x.owner ++ le 1 (x.progress / 4))
  | 0xB000, 1 => ok s.clo.ident
  | 0xB000, 2 => ok (idDigest s)
  | 0xB000, 3 => ok (((s.clo.ident.drop 8).take 16).reverse.dropWhile (· == 0)).reverse
  | 0xB000, 4 => ok (orderCode s)
  | 0xB000, _ => ok (le 4 (256 * halfNat s.clo.ident 2 + byteNat s.clo.ident 4))
  | 0xB020, _ => ok s.grf.previous
  | _, _ => ok []

/-- Bits of a register as an object of a signed or unsigned type shows them. -/
def regValue (x : ObjRow) (w v : Nat) : Nat := if 6 ≤ x.typ ∧ x.typ ≤ 9 then ofInt (8 * x.size) (toInt w v) else v

/-- A read of `w` bits of a register from bit `lo`: only the reading-clears fields among them clear. -/
def bitsRead (s : State) (x : ObjRow) (idx sub i a lo w : Nat) : ObjVal :=
  if windowDead s a then (s, 0x0610, [])
  else if a = F.CLO_TMP_STAT_ACTIVE.addr then
    let t := freeRead s F.CLO_TMP_STAT_ACTIVE a
    (t, 0, le x.size (t.readWord a))
  else if w = 64 then
    (((s.clearRc (fieldsAt a)).clearRc (fieldsAt (a + 4))).status 0, 0, le 4 (s.readWord a) ++ le 4 (s.readWord (a + 4)))
  else
    let v := s.readWord a / 2 ^ lo % 2 ^ w
    let v := regValue x w v
    let broken := decide (0x6010 ≤ idx) && decide (idx < 0x6030) && sub == 5 && s.rdB (F.DIO_FLT_WIRE_BREAK i)
    (s.clearRc (fieldsIn a lo w), if broken then 0x0807 else 0, le x.size v)

/-- The window of a register that an object with a place of its own stands for, where reset of a domain matters (R103). -/
def otherWindow (idx : Nat) : Nat :=
  if 0x2100 ≤ idx ∧ idx < 0x2800 then 0x20200000
  else if 0x2800 ≤ idx ∧ idx < 0x2A00 then 0x20300000
  else if 0x2A00 ≤ idx ∧ idx < 0x3000 then 0x20600000
  else if 0x3000 ≤ idx ∧ idx < 0x4000 then 0x20500000
  else if 0x4000 ≤ idx ∧ idx < 0x4020 then 0x20000000
  else if 0x4020 ≤ idx ∧ idx < 0x4030 then 0x20100000
  else if 0x5010 ≤ idx ∧ idx < 0x5080 then 0x20700000
  else if 0x6000 ≤ idx ∧ idx < 0x7000 then 0x20900000
  else if 0x7010 ≤ idx ∧ idx < 0x7018 then 0x20A00000 + 0x1000 * (idx - 0x7010)
  else if 0x7020 ≤ idx ∧ idx < 0x7028 then 0x20A00000 + 0x1000 * (idx - 0x7020)
  else 0x20E00000

/-- The value of an object for plot `p` in session `n` (R446, R459). -/
def objRead (s : State) (p n : Nat) (x : ObjRow) (idx sub i k : Nat) : ObjVal :=
  match x.loc with
  | .reg a lo w ia il ka kl => bitsRead s x idx sub i (a + ia * i + ka * k) (lo + il * i + kl * k) w
  | .num =>
    let t := if idx = 0x1003 then s.setObj idx sub 0 else s
    (t, 0, le x.size (s.obj idx sub x.dflt))
  | .bytes => (s, 0, s.objBytes.get (objKey idx sub) [])
  | .pom => if windowDead s 0x20600000 then (s, 0x0610, []) else (s, 0, le x.size (pomParam s idx sub))
  | .ses => (s, 0, le x.size (s.objs.get (sesKey n idx sub) x.dflt))
  | .other => if windowDead s (otherWindow idx) then (s, 0x0610, []) else otherRead s p n idx sub i

end Sys2Proof.Machine
end

