-- ==== Sys2Proof/Machine/StitchWrite.lean ====
section
/-! DEFINITION. Writing an object of the dictionary (R455-R458): the owner's checks and the effect, the answer in `resp`. -/

namespace Sys2Proof.Machine

/-- The requester that a principal is to the blocks. -/
def Prin.req (x : Prin) : Req := .stitch x.plot (x.has roleSupervisor) (x.has roleSecurity)

/-! ## Checks before the value (R455, steps 3 to 5) -/

/-- Roles that an object's chapter asks for, whatever the masks grant (Table 20-11, R504, R515, R525). -/
def roleRefused (w : Prin) (idx sub : Nat) : Bool :=
  let sup := (idx == 0x8000 && sub == 1) || idx == 0x8002 || idx == 0x8003 || idx == 0x8080 ||
    (decide (0x8010 ≤ idx) && decide (idx < 0x8018) && decide (sub ≤ 2))
  let sec := (idx == 0x9020 && sub == 1) || (idx == 0x9028 && sub == 9) || (idx == 0x9030 && (sub == 2 || sub == 3)) ||
    (idx == 0x9040 && (sub == 1 || sub == 3))
  (sup && !w.has roleSupervisor) || (sec && !w.has roleSecurity)

/-- The plot that alone may write an object, if its chapter names one (R455, step 4). -/
def writerPlot (s : State) (idx sub i : Nat) : Option Nat :=
  let near := fun (lo hi : Nat) => decide (lo ≤ idx) && decide (idx < hi)
  if idx = 0x1021 ∨ idx = 0x5002 ∨ idx = 0x6001 ∨ idx = 0x7031 then some (sub - 1)
  else if near 0x2910 0x2918 then some (idx - 0x2910)
  else if near 0x3110 0x3118 then some (idx - 0x3110)
  else if near 0x4010 0x4020 then (if powOwner s i < 8 then some (powOwner s i) else none)
  else if near 0x5010 0x5028 then some (lsOwner s i)
  else if near 0x5048 0x5050 && sub == 1 then some (s.rd (F.LS_PROF_OWN_OWNER (i - 8)))
  else if near 0x6010 0x6030 then some (dioOwner s i)
  else if (idx = 0x3012 ∧ sub = 2) ∨ idx = 0x3013 ∨ idx = 0x3102 then
    some (if s.rdB F.TIL_CTL_OWNER_VALID then s.rd F.TIL_CTL_OWNER else 8)
  else none

/-- The mode or lifecycle state that forbids a write (R455, step 5). -/
def modeForbids (s : State) (x : ObjRow) (idx sub : Nat) : Option Nat :=
  let service := (idx == 0x1005 && sub == 3) || (idx == 0x9030 && (sub == 2 || sub == 3)) || x.loc == .pom
  let stirrup := (idx == 0x5080 && decide (sub ≤ 6)) || idx == 0x5081
  if x.cls = 2 ∧ lcState s ≠ lcBlank then some 0x0505
  else if idx = 0x9051 ∧ lcState s ≠ lcBlank then some 0x0505
  else if service && s.mode != mSERVICE then some 0x0208
  else if stirrup && s.mode != mBOOT && s.mode != mSERVICE then some 0x0208
  else none

/-! ## Numbers -/

/-- A write of `w` bits of a register from bit `lo`. -/
def bitsWrite (s : State) (r : Req) (a lo w v : Nat) (e : Envt) : State :=
  if windowDead s a then s.status 0x0610
  else if w = 64 then
    let t := regWrite s r a (v % 2 ^ 32) e
    if t.resp.status ≠ 0 then t else regWrite t r (a + 4) (v / 2 ^ 32) e
  else regWrite s r a (rmwWord s a lo w v) e

/-- A write of a job object (R462, R463, R466). -/
def jobWrite (s : State) (w : Prin) (j sub v : Nat) (sigOk tagOk : Bool) : State :=
  match sub with
  | 1 => jobKindWrite s j w v
  | 2 =>
    match v with
    | 1 => jobStart s j w sigOk tagOk
    | 2 => jobSuspend s j w
    | 3 => jobResumeCmd s j w
    | 4 => jobCancel s j w
    | _ => s.status 0x0301
  | 7 => jobArgWrite s j w false v
  | _ => jobArgWrite s j w true v

/-- 0x1005:03 (Table 19-8): every class P object takes its default at the next BOOT. -/
def settingsDefaults (s : State) (v : Nat) : State :=
  if s.mode ≠ mSERVICE then s.status 0x0208
  else if v ≠ 0xD0D0 then s.status 0x0301
  else State.status { s with ses := { s.ses with defaults := true } } 0

/-- A write of 1 to a command object; 0 asks for nothing. -/
def onOne (s : State) (v : Nat) (f : State → State) : State := if v = 1 then f s else s.status 0

/-- A number written to an object with a place of its own. -/
def otherWrite (s : State) (w : Prin) (idx sub i v : Nat) (q : StitchReq) (e : Envt) : State :=
  let r := w.req
  if 0xA000 ≤ idx ∧ idx < 0xA200 then jobWrite s w i sub v q.sigOk q.tagOk
  else if 0x7010 ≤ idx ∧ idx < 0x7018 then onOne s v fun t => canRecover t i
  else if 0x8010 ≤ idx ∧ idx < 0x8018 then plotCommand s r i v
  else match idx, sub with
  | 0x1005, _ => settingsDefaults s v
  | 0x1010, 5 => modeRequest s r v false e
  | 0x1010, _ => State.status { s with girth := { s.girth with force := v == 1 } } 0
  | 0x2A00, 5 => pomTripReset s r v
  | 0x2A00, _ => pomManual s r (v % 256) (v / 256) e.stuck
  | 0x3000, _ =>
    tilCtlWrite s r (rmwWord s F.TIL_CTL_OWNER.addr F.TIL_CTL_OWNER.lo 4 (if v < 8 then v + 8 else 0))
  | 0x4000, _ =>
    regWrite s r F.TRL_CTL_FNOM.addr (rmwWord s F.TRL_CTL_FNOM.addr F.TRL_CTL_FNOM.lo 1 (if v = 60 then 1 else 0)) e
  | 0x4020, _ => regWrite s r F.PT_MAX_ADJ_MAX.addr (maxAdjOf v) e
  | 0x8000, 1 => onOne s v tablesCommit
  | 0x8000, _ => if v % 4096 ≠ 0 ∨ 2 ^ 40 ≤ v then s.status 0x0301 else regWrite s r F.PC_CKPT_BASE_BASE.addr (v / 4096) e
  | 0x9028, _ => ctrIncrement s r v
  | 0x9030, _ => regWrite s r F.CLO_TMP_EN_DIO.addr v e
  | 0x9040, _ => onOne s v fun t => debugClose t e
  | _, _ => s.status 0

/-- A number written by principal `w` in session `n`: R456, the object's range, then the block that owns it. -/
def numWrite (s : State) (w : Prin) (n : Nat) (x : ObjRow) (idx sub i k v : Nat) (q : StitchReq) (e : Envt) : State :=
  let r := w.req
  let c := objCheck idx sub v
  if !x.fits v || (x.typ == 10 && f32Nan v) || (x.typ == 12 && decide (1000000000 ≤ v % 2 ^ 32)) then s.status 0x0301
  else if c ≠ 0 then s.status c
  else match x.loc with
  | .reg a lo wd ia il ka kl =>
    if 0x5010 ≤ idx ∧ idx < 0x5028 ∧ sub = 1 then lsWriteOn s r i (v == 1)
    else if 0x5010 ≤ idx ∧ idx < 0x5028 ∧ sub = 7 then onOne s v fun t => lsWriteClear t r i
    else if 0x6010 ≤ idx ∧ idx < 0x6030 ∧ sub = 3 then dioWriteOn s r i (v == 1)
    else if 0x6010 ≤ idx ∧ idx < 0x6030 ∧ sub = 4 then onOne s v fun t => dioWriteClear t r i
    else if idx = 0x1010 ∧ sub = 7 then (s.hostWr F.MODE_REQ_BOOT_SERVICE v).status 0
    else bitsWrite s r (a + ia * i + ka * k) (lo + il * i + kl * k) wd v e
  | .num => (s.setObj idx sub v).status 0
  | .bytes => s.status 0x030A
  | .pom => if windowDead s 0x20600000 then s.status 0x0610 else pomParamWrite s r idx sub v
  | .ses => State.status { s with objs := s.objs.set (sesKey n idx sub) v } 0
  | .other => if windowDead s (otherWindow idx) then s.status 0x0610 else otherWrite s w idx sub i v q e

/-! ## Bytes -/

/-- Is it UTF-8 (R456)? `n` continuation bytes are still to come, the next of them in [lo, hi). -/
def utf8From : Nat → Nat → Nat → List Byte → Bool
  | 0, _, _, [] => true
  | _ + 1, _, _, [] => false
  | 0, _, _, b :: r =>
    let v := b.toNat
    if v < 0x80 then utf8From 0 0 0 r
    else if v < 0xC2 then false
    else if v < 0xE0 then utf8From 1 0x80 0xC0 r
    else if v < 0xF0 then utf8From 2 (if v = 0xE0 then 0xA0 else 0x80) (if v = 0xED then 0xA0 else 0xC0) r
    else if v < 0xF5 then utf8From 3 (if v = 0xF0 then 0x90 else 0x80) (if v = 0xF4 then 0x90 else 0xC0) r
    else false
  | n + 1, lo, hi, b :: r => decide (lo ≤ b.toNat) && decide (b.toNat < hi) && utf8From n 0x80 0xC0 r
def utf8Ok (b : List Byte) : Bool := utf8From 0 0 0 b

/-- An identity record of Table 21-1. -/
def identOk (b : List Byte) : Bool :=
  byteNat b 0 == 1 && decide (byteNat b 1 ≤ 1) && !outside (byteNat b 4) 1 53 && zeros b 5 3 && zeros b 84 12 &&
    (List.range 5).all fun d => !outside (byteNat b (32 + 12 * d)) 1 25 && byteNat b (35 + 12 * d) == 0

/-- Bytes filled with zeros to `n`. -/
def padTo (n : Nat) (b : List Byte) : List Byte := b ++ List.replicate (n - b.length) 0

/-- A part of Tilth's parameter region is written; the region must lie in its owner plot's DRAM. -/
def paramWrite (s : State) (o n : Nat) (b : List Byte) : State :=
  if n < b.length then s.status 0x0301
  else if !inPlotDram s (s.rd F.TIL_CTL_OWNER) (tilPar s) (2 ^ 20) then s.status 0x0303
  else (s.putBytes (tilPar s + o) b).status 0

/-- A profile written as a whole: its words, then the check of R324. -/
def profWrite (s : State) (i : Nat) (b : List Byte) : State :=
  if b.length ≠ 64 then s.status 0x030A else lsCheckProf (loadWords s (0x20700800 + 0x40 * i) b) i

/-- A complete STR or DOMAIN value written to an object. -/
def bytesWrite (s : State) (x : ObjRow) (idx sub i : Nat) (b : List Byte) (q : StitchReq) (e : Envt) : State :=
  if x.typ = 13 ∧ !utf8Ok b then s.status 0x0301
  else if x.loc = .bytes then State.status { s with objBytes := s.objBytes.set (objKey idx sub) b } 0
  else if 0x5048 ≤ idx ∧ idx < 0x5050 then profWrite s i b
  else if 0x7038 ≤ idx ∧ idx < 0x703C then (loadWords s (F.GW_PASS_LO_LO i 0).addr (padTo 256 b)).status 0
  else if idx = 0x3012 then paramWrite s (64 * s.obj 0x3012 1 0) (294912 - 64 * s.obj 0x3012 1 0) b
  else if idx = 0x3013 then paramWrite s (0x48000 + 512 * (sub - 1)) 260 b
  else if idx = 0x3102 then paramWrite s 0x4A000 0x240 b
  else if idx = 0x7040 then
    if sub = 2 then (loadWords s 0x20B08000 (padTo 256 b)).status 0
    else if sub = 3 then (loadWords s 0x20B08100 (padTo 512 b)).status 0
    else (loadWords s 0x20B08300 (padTo 4096 b)).status 0
  else if idx = 0x8080 then
    if s.rd F.PC_CKPT_SIZE_SIZE * 2 ^ 20 < s.obj 0x8080 1 0 + b.length then s.status 0x0301
    else if areaStatus (imageWindow s) b.length ≠ 0 then s.status (areaStatus (imageWindow s) b.length)
    else State.status { s.putBytes (imageWindow s) b with pc := { s.pc with buffer := none } } 0
  else if idx = 0x9040 then debugToken s b q.sigOk
  else if idx = 0x9050 then lifecycleMessage s b q.sigOk e
  else if idx = 0x9051 then provision s b e
  else if idx = 0xB000 then
    if b.length ≠ 96 then s.status 0x030A
    else if !identOk b then s.status 0x0301
    else (idLoad { s with clo := { s.clo with ident := b } }).status 0
  else if idx = 0xB018 then
    let (t, c) := blockWrite s (s.obj 0xB018 1 0) b q.progErr
    t.status c
  else s.status 0

/-! ## Persistence (R457) -/

/-- The value that an object of a register has after a write of `v`: what the register took of it. -/
def keptValue (s : State) (x : ObjRow) (i k v : Nat) : Nat :=
  match x.loc with
  | .reg a lo w ia il ka kl =>
    let a := a + ia * i + ka * k
    let lo := lo + il * i + kl * k
    if w = 64 then s.readWord a + 2 ^ 32 * s.readWord (a + 4) else regValue x w (s.readWord a / 2 ^ lo % 2 ^ w)
  | _ => v

/-- A persistent number that has been written waits to be stored, as its register took it. -/
def keepNum (s : State) (x : ObjRow) (idx sub i k v : Nat) : State :=
  let v := keptValue s x i k v
  if x.acc = 3 ∧ s.resp.status = 0 then { s with ses := { s.ses with unsaved := s.ses.unsaved.set (objKey idx sub) v } } else s
/-- A persistent value of bytes that has been written waits to be stored. -/
def keepBytes (s : State) (x : ObjRow) (idx sub : Nat) (b : List Byte) : State :=
  if x.acc = 3 ∧ s.resp.status = 0 then
    { s with ses := { s.ses with unsavedBytes := s.ses.unsavedBytes.set (objKey idx sub) b } }
  else s

/-- SETTINGS_STORE (R457). -/
def execSettingsStore (s : State) : Res := .next (settingsStore s)

/-- SETTINGS_DEFAULTS (Table 19-8). -/
def execSettingsDefaults (v : BitVec 16) (s : State) : Res := .next (settingsDefaults s v.toNat)

/-- STITCH_ADDRESS_APPLY (R461): the address or gateway of 0x1001 sub k + 3 takes effect. -/
def execStitchAddressApply (k : Fin 4) (s : State) : Res :=
  .next { s with ses := { s.ses with addrs := s.ses.addrs.set (3 + k.val) (s.objBytes.get (objKey 0x1001 (3 + k.val)) []) } }

end Sys2Proof.Machine
end

