-- ==== Sys2Proof/Machine/JobEnd.lean ====
section
/-! DEFINITION. The end of a job's work (R463): self-tests, key updates, saved images, recommissioning. -/

namespace Sys2Proof.Machine

/-- The first check of R455 that an entry of a recommissioning package fails: steps 1, 2, 4, 5, 6 and the value's own, for a
job of plot `p`; class F objects are writable, but not the identity record (R458, R544). -/
def recomCode (s : State) (p : Nat) (x : RecomEntry) : Nat :=
  match objFind x.idx x.sub with
  | none => if objIndex x.idx then 0x0202 else 0x0201
  | some (o, i, _) =>
    let v := ofLe x.value
    let c := objCheck x.idx x.sub v
    if o.acc = 0 then 0x0203
    else if (match writerPlot s x.idx x.sub i with | some q => q != p | none => false) then 0x0206
    else if x.idx = 0xB000 ∧ x.sub = 1 then 0x0505
    else if o.cls ≠ 2 ∧ (modeForbids s o x.idx x.sub).isSome then (modeForbids s o x.idx x.sub).getD 0
    else if x.typ ≠ o.typ then 0x030A
    else if (typeSize o.typ).isSome then
      if x.value.length ≠ o.size then 0x030A
      else if !o.fits v || (o.typ == 10 && f32Nan v) then 0x0301
      else c
    else if o.size < x.value.length then 0x030A
    else if o.typ = 13 ∧ !utf8Ok x.value then 0x0301
    else if 0x5048 ≤ x.idx ∧ x.idx < 0x5050 then
      if x.value.length ≠ 64 then 0x030A else if (profFault x.value).isSome then 0x0309 else 0
    else 0

/-- The number and code of the first entry that fails. -/
def recomFirst (s : State) (p : Nat) : Nat → List RecomEntry → Option (Nat × Nat)
  | _, [] => none
  | n, x :: r => if recomCode s p x = 0 then recomFirst s p (n + 1) r else some (n, recomCode s p x)

/-- One entry goes to the settings area. -/
def recomStore (s : State) (x : RecomEntry) : State :=
  if (typeSize x.typ).isSome then { s with settings := s.settings.set (objKey x.idx x.sub) (ofLe x.value) }
  else { s with settingsBytes := s.settingsBytes.set (objKey x.idx x.sub) x.value }

/-- A recommissioning job's entries are checked, and all stored with the new format (R544). -/
def recomDone (s : State) (j : Nat) : State :=
  let l := (recomEntries (s.objBytes.get (objKey 0xB020 1) [])).getD []
  match recomFirst s (s.job j).owner 0 l with
  | some (n, c) => jobEnd (s.setObj 0xB020 2 n) j 5 c
  | none =>
    let s := l.foldl recomStore (s.setObj 0xB020 2 0xFFFF)
    let s := { s with grf := { s.grf with stored := runFmt s, previous := [] } }
    jobTo (s.wr F.GRF_SETFMT_STORED s.grf.stored) j 4 0

/-- A self-test's work is complete: LANE_FLT clears after bit 0, the injection of bit 1 has passed (R467). -/
def selfTestDone (s : State) (j : Nat) : State :=
  let arg := (s.job j).par.getD 0 0
  let s := if arg.testBit 0 then tilDegrade (s.wr F.TIL_ZSTAT_LANE_FLT 0) else s
  jobTo (if arg.testBit 1 then injection s false false 0 else s) j 4 0

/-- A SAVE is complete when its image is in the buffer; the plot runs on unless bit 10 of ARG keeps it FROZEN (R487). -/
def saveDone (s : State) (j : Nat) : State :=
  let x := s.job j
  let p := migPlot x
  if migOp x ≠ 1 ∨ plotState s p ≠ 5 ∨ (s.plot p).job ≠ some j then s
  else
    let s := if (x.par.getD 0 0).testBit 10 then s.setPlot p { s.plot p with freeze := 0, job := none } else plotThaw s p
    jobTo s j 4 0

/-- JOB_DONE (R463): a job's work completes; `part` stops a key update after its COMMIT record (R506). Jobs of kinds 1 to 4
complete in the rows of their work. Work that programs flash waits for HOLDUP_OK (R75; log entry 68). -/
def execJobDone (j : Fin 32) (part : Bool) (s : State) : Res :=
  let x := s.job j
  .next (if x.state ≠ 2 ∨ (!flashOk s ∧ (x.kind = 6 ∨ x.kind = 8)) then s
    else match x.kind with
      | 5 => selfTestDone s j
      | 6 =>
        let s := if s.clo.ku.isNone then kuBegin s j else s
        if part then kuCommit s j else kuLoad (kuCommit s j) j
      | 7 => saveDone s j
      | 8 => recomDone s j
      | _ => s)

end Sys2Proof.Machine
end

