-- ==== Sys2Proof/Machine/Stitch.lean ====
section
/-! DEFINITION. The Stitch endpoint's requests and sessions (R440-R455, R516). -/

namespace Sys2Proof.Machine

/-! ## Serving a request -/

/-- The bytes that a request body carries (Table 19-3). -/
def StitchReq.bytes (q : StitchReq) : List Byte :=
  le 1 q.op.toNat ++ le 1 (q.last.toNat + 2 * q.fresh.toNat) ++ le 2 q.index.toNat ++ le 1 q.sub.toNat ++ le 1 q.type.toNat ++
    le 2 q.length.toNat ++ le 4 q.offset.toNat ++ le 4 0 ++ q.data

/-- Has an object a fixed size? -/
def ObjRow.fixed (x : ObjRow) : Bool := (typeSize x.typ).isSome

/-- Steps 6 of R455 for an object (R447): TYPE, LENGTH, OFFSET. -/
def formWrong (x : ObjRow) (q : StitchReq) (write : Bool) : Bool :=
  (q.type != 0 && q.type.toNat != x.typ) || (x.fixed && q.offset != 0) ||
    (write && (q.length.toNat != q.data.length || decide (1024 < q.data.length))) ||
    (write && x.fixed && q.length.toNat != x.size)

/-- The checks of R455, steps 3 to 6, that a request fails first; `masked` says that the plot's masks apply. -/
def accessCode (s : State) (w : Prin) (masked : Bool) (x : ObjRow) (i : Nat) (q : StitchReq) (write : Bool) : Option Nat :=
  let idx := q.index.toNat
  let sub := q.sub.toNat
  let m := maskOf (s.plot w.plot).masks idx sub
  let granted := w.roles.toNat &&& (if write then m.2 else m.1) != 0
  if write && x.acc == 0 then some 0x0203
  else if !write && x.acc == 2 then some 0x0204
  else if (masked && !granted) || (write && roleRefused w idx sub) then some 0x0205
  else if write && (match writerPlot s idx sub i with | some p => p != w.plot.val | none => false) then some 0x0206
  else match (if write then modeForbids s x idx sub else none) with
    | some c => some c
    | none => if formWrong x q write then some 0x030A else none

/-- The bytes a READ wants at most. -/
def StitchReq.want (q : StitchReq) : Nat := if q.length = 0 then 1024 else min 1024 q.length.toNat

/-- Does a reply with this status carry data (R446, R459)? -/
def withData (c : Nat) : Bool := c == 0 || c / 256 == 8

/-- Session `n`'s snapshot or assembly is replaced. -/
def setSnap (s : State) (n : Nat) (v : Option (Nat × Nat × List Byte)) : State :=
  match sessionOf s n with
  | some x => setSession s n { x with snap := v, snapAt := s.now }
  | none => s
def setAsm (s : State) (n : Nat) (v : Option (Nat × Nat × List Byte)) : State :=
  match sessionOf s n with
  | some x => setSession s n { x with asm := v }
  | none => s

/-- A piece of bytes as a READ's reply: data from OFFSET, LAST when it reaches the end. -/
def pieceReply (s : State) (n seq prio : Nat) (q : StitchReq) (typ c : Nat) (b : List Byte) : State :=
  let d := (b.drop q.offset.toNat).take q.want
  sesReply s n seq prio
    (replyBody 1 c q.index.toNat q.sub.toNat typ q.offset.toNat (decide (b.length ≤ q.offset.toNat + d.length)) b.length d)

/-- A READ that has passed its checks (R447). -/
def serveRead (s : State) (w : Prin) (n seq prio : Nat) (x : ObjRow) (i k : Nat) (q : StitchReq) : State :=
  let idx := q.index.toNat
  let sub := q.sub.toNat
  let key := objKey idx sub
  let no := fun (t : State) (c total : Nat) => sesReply t n seq prio (replyBody 1 c idx sub x.typ q.offset.toNat false total [])
  let held := (sessionOf s n).bind fun y => y.snap
  if x.fixed then
    let (t, c, b) := objRead s w.plot n x idx sub i k
    if withData c then pieceReply t n seq prio q x.typ c b else no t c x.size
  else if q.offset = 0 ∨ q.fresh then
    let (t, c, b) := objRead s w.plot n x idx sub i k
    if !withData c then no (setSnap t n none) c b.length
    else if b.length < q.offset.toNat then no (setSnap t n none) 0x030A b.length
    else
      let keep := decide (q.offset.toNat + q.want < b.length)
      pieceReply (setSnap t n (if keep then some (key, c, b) else none)) n seq prio q x.typ c b
  else match held with
    | some (key', c, b) =>
      if key' ≠ key then no s 0x0303 0
      else if b.length < q.offset.toNat then no s 0x030A b.length
      else if q.offset.toNat + q.want < b.length then pieceReply s n seq prio q x.typ c b
      else pieceReply (setSnap s n none) n seq prio q x.typ c b
    | none => no s 0x0303 0

/-- The present size of an object. -/
def objTotal (s : State) (w : Prin) (n : Nat) (x : ObjRow) (idx sub i k : Nat) : Nat :=
  if x.fixed then x.size else if x.acc = 2 then 0 else (objRead s w.plot n x idx sub i k).2.2.length

/-- A WRITE's reply, its status in `resp`. -/
def writeReply (s : State) (w : Prin) (n seq prio : Nat) (x : ObjRow) (i k : Nat) (q : StitchReq) (c : Nat) : State :=
  sesReply s n seq prio (replyBody 2 c q.index.toNat q.sub.toNat x.typ q.offset.toNat q.last
    (objTotal s w n x q.index.toNat q.sub.toNat i k) [])

/-- A WRITE that has passed its checks (R448, R457). -/
def serveWrite (s : State) (w : Prin) (n seq prio : Nat) (x : ObjRow) (i k : Nat) (q : StitchReq) (e : Envt) : State :=
  let idx := q.index.toNat
  let sub := q.sub.toNat
  let key := objKey idx sub
  let done := fun (t : State) => writeReply t w n seq prio x i k q t.resp.status
  if x.fixed then
    let v := ofLe q.data
    if idx = 0x1021 then stitchFence s w.plot (sub - 1) v n seq prio
    else done (keepNum (numWrite s w n x idx sub i k v q e) x idx sub i k v)
  else
    let held := match (sessionOf s n).bind fun y => y.asm with
      | some (key', _, b) => if key' = key then some b else none
      | none => none
    let b := if q.offset = 0 then some q.data
      else match held with
        | some b => if b.length = q.offset.toNat then some (b ++ q.data) else none
        | none => none
    match b with
    | none => writeReply (setAsm s n none) w n seq prio x i k q 0x0104
    | some b =>
      if x.size < b.length then writeReply (setAsm s n none) w n seq prio x i k q 0x030A
      else if q.last then
        done (keepBytes (bytesWrite (setAsm s n none) x idx sub i b q e) x idx sub b)
      else writeReply (setAsm s n (some (key, s.now, b))) w n seq prio x i k q 0

/-- The plot whose tables assign a private index (R453). -/
def privPlot (s : State) (idx : Nat) : Option Nat :=
  (List.range 8).find? fun p => recEn (plotRec s p) && decide (halfNat (plotRec s p) 24 ≤ idx) && decide (idx ≤ halfNat (plotRec s p) 26)

/-- Requests of session `n` that wait: forwarded ones and fences (R449). -/
def waiting (s : State) (n : Nat) : Nat :=
  (s.ses.forwards.filter (·.session == n)).length +
    (s.br.fences.filter fun f => match f.2.reply with | some (m, _, _) => m == n | none => false).length

/-- A request of principal `w` in session `n`, with SEQ and PRIO (R446, R453, R455); the masks grant plot-private objects
too (R454). An access leaves `resp` as it was. -/
def serve (s : State) (w : Prin) (n seq prio : Nat) (masked : Bool) (q : StitchReq) (e : Envt) : State :=
  let idx := q.index.toNat
  let sub := q.sub.toNat
  let write := q.op == 2
  let no := fun (t : State) (typ c total : Nat) =>
    sesReply t n seq prio (replyBody q.op.toNat c idx sub typ q.offset.toNat (write && q.last) total [])
  let s := match (sessionOf s n).bind fun y => y.asm with
    | some (key, _, _) => if write && key != objKey idx sub then setAsm s n none else s
    | none => s
  if 16 ≤ waiting s n then no s 0 0x0304 0
  else if q.op = 3 then no s 0 0 0
  else if 0xC000 ≤ idx then
    match privPlot s idx with
    | none => no s 0 0x0201 0
    | some p =>
      let m := maskOf (s.plot w.plot).masks idx sub
      if masked && w.roles.toNat &&& (if write then m.2 else m.1) == 0 then no s 0 0x0205 0
      else if plotResetting s p then no s 0 0x0610 0
      else
        let word0 := (if n < 64 then n else 0) + 65536 * w.roles.toNat
        let f : Forward :=
          { session := n, seq := seq, prio := prio, plot := p, word0 := word0, op := q.op.toNat, index := idx, sub := sub,
            at_ := s.now }
        localReply { s with ses := { s.ses with forwards := s.ses.forwards ++ [f] } } p word0 q.bytes
  else match objFind idx sub with
    | none => no s 0 (if objIndex idx then 0x0202 else 0x0201) 0
    | some (x, i, k) =>
      match accessCode s w masked x i q write with
      | some c => no s x.typ c (objTotal s w n x idx sub i k)
      | none =>
        let t := if write then serveWrite s w n seq prio x i k q e else serveRead s w n seq prio x i k q
        { t with resp := s.resp }

/-! ## Sessions (R442-R445) -/

/-- Count in one of the discard counters of 0x1003 (sub 3 to 6). -/
def sesCount (s : State) (sub : Nat) : State := s.setObj 0x1003 sub (min 0xFFFF (s.obj 0x1003 sub 0 + 1))

/-- Does the endpoint run: the CORE domain is out of reset (R440)? -/
def stitchUp (s : State) : Bool := !s.girth.coreReset

/-- The message that a header stands for: over CAN FD the oldest one received on that identifier must carry it, and it
is taken; UDP needs 0x1001:01. `none` when there is no such message. -/
def takeMessage (s : State) (h : StitchHdr) (type : Nat) : Option State :=
  if !stitchUp s then none
  else match h.via with
  | .udp _ => if s.obj 0x1001 1 1 = 1 then some s else none
  | .can i p =>
    let k := 8 * i.val + p.val
    match s.ses.got.find? (·.1 == k) with
    | none => none
    | some (_, b) =>
      if !h.wellFormed || (byteNat b 0 == 1 && byteNat b 1 == type && halfNat b 2 == h.session.toNat && ofLe ((b.drop 4).take 4) == h.seq.toNat &&
          byteNat b 10 == h.prio.val) then
        some { s with ses := { s.ses with got := s.ses.got.erase (k, b) } }
      else none

/-- Does a session belong to the transport on which a datagram arrived? -/
def Session.onVia (x : Session) (v : Transport) : Bool :=
  match v with
  | .udp _ => x.transport == 0
  | .can i p => x.transport == 1 && x.port == i.val && x.plot == p.val

/-- The checks of R442 to R444 on a datagram of an open session; `none` when it is discarded, its counter counted. -/
def datagramCheck (s : State) (h : StitchHdr) : State × Option Session :=
  let n := h.session.toNat
  if !h.wellFormed then (sesCount s 6, none)
  else match (if n = 0 ∨ 32 < n then none else sessionOf s n) with
    | none => (sesCount s 5, none)
    | some x =>
      if !x.onVia h.via then (sesCount s 5, none)
      else if !h.tagOk then (sesCount s 3, none)
      else
        let x := match h.via with | .udp p => { x with port := p.val } | .can .. => x
        (setSession s n x, some x)

/-- What R445 makes of a SEQ: the session that has accepted it, a reply to repeat, or nothing. -/
inductive SeqFate where
  | accept (x : Session)
  | again (body : List Byte)
  | discard
  deriving DecidableEq, Repr

def seqFate (x : Session) (seq : Nat) : SeqFate :=
  if x.fresh then .accept { x with fresh := false, high := seq, window := 1 }
  else if x.high < seq then .accept { x with high := seq, window := (x.window <<< (seq - x.high)) ||| 1 }
  else if 64 ≤ x.high - seq then .discard
  else if x.window.getLsbD (x.high - seq) then
    match x.cache.find? (·.1 == seq) with
    | some (_, b) => .again b
    | none => .discard
  else .accept { x with window := x.window ||| BitVec.ofNat 64 (2 ^ (x.high - seq)) }

/-- A REQUEST in session: the checks of R442 to R445, then the request. -/
def request (s : State) (h : StitchHdr) (q : StitchReq) (e : Envt) : State :=
  match takeMessage s h 3 with
  | none => s
  | some s =>
    match datagramCheck s h with
    | (s, none) => s
    | (s, some x) =>
      let n := h.session.toNat
      let seq := h.seq.toNat
      match seqFate x seq with
      | .discard => sesCount s 4
      | .again b => stitchSend (setSession s n { x with at_ := s.now }) x (stitchHeader 4 n seq b.length h.prio) b
      | .accept y =>
        let s := setSession s n { y with at_ := s.now }
        serve s { plot := Fin.ofNat 8 x.plot, roles := BitVec.ofNat 8 x.roles } n seq h.prio true q e

/-- READ (R447). -/
def execRead (h : StitchHdr) (q : StitchReq) (s : State) : Res := .next (request s h { q with op := 1, data := [] } {})

/-- WRITE (R448). -/
def execWrite (h : StitchHdr) (q : StitchReq) (e : Envt) (s : State) : Res := .next (request s h { q with op := 2 } e)

/-- NOP (R446). -/
def execNop (h : StitchHdr) (q : StitchReq) (s : State) : Res := .next (request s h { q with op := 3, data := [] } {})

/-- CLOSE (R444): confirmed with a CLOSE of the same SEQ. -/
def execClose (h : StitchHdr) (s : State) : Res :=
  .next (match takeMessage s h 5 with
    | none => s
    | some s =>
      match datagramCheck s h with
      | (s, none) => s
      | (s, some x) =>
        let n := h.session.toNat
        let s := stitchSend s x (stitchHeader 5 n h.seq.toNat 0 h.prio) []
        closeSessions s fun m _ => m == n)

/-- How many sessions plot `p` may hold (R444, Table 20-1). -/
def sesLimit (s : State) (p : Nat) : Nat := if plotRec s p = [] then 8 else min 8 (byteNat (plotRec s p) 19)

/-- The lowest free session number, if plot `p` may have one. -/
def sesFree (s : State) (p : Nat) : Option Nat :=
  let live := s.ses.sessions.filter fun m => decide (1 ≤ m.1) && decide (m.1 ≤ 32)
  if sesLimit s p ≤ (live.filter fun m => m.2.plot == p).length then none
  else ((List.range 32).map (· + 1)).find? fun n => (sessionOf s n).isNone

/-- NM: 32 random bytes (log entry 1). -/
def sesNonce (s : State) : List Byte × State :=
  (le 8 (s.freeNat 64) ++ le 8 (s.took.freeNat 64) ++ le 8 (s.took.took.freeNat 64) ++ le 8 (s.took.took.took.freeNat 64),
    s.took.took.took.took)

/-- An accepted OPEN: OPEN_ACK under the session's key, and the session unless none is free (R443). -/
def sesOpen (s : State) (h : StitchHdr) (cred : Nat) (k : KeyBlob) (nc : List Byte) : State :=
  let (nm, s) := sesNonce s
  let free := sesFree s k.plot
  let n := free.getD 0
  let key := Config.hkdf k.mat (nc ++ nm) (asciiBytes "stitch v1" ++ le 2 n ++ le 2 cred ++ idDigest s)
  let body := le 1 k.plot ++ le 1 k.roles ++ le 2 (s.obj 0x1001 7 60) ++ le 2 1024 ++ le 2 (if free.isSome then 0 else 0x0307) ++ le 8 0
  let hd := stitchHeader 2 n h.seq.toNat 16 h.prio
  let x : Session := { plot := k.plot, roles := k.roles, cred := cred, key := key, at_ := s.now }
  let x := match h.via with
    | .udp p => { x with port := p.val }
    | .can i _ => { x with transport := 1, port := i.val }
  let s := match h.via with
    | .udp p => s.emit (.stitch p.val (hd ++ nm) body)
    | .can i p =>
      let sealed := (List.range 32).map fun j => Config.gcmSeal (le 32 key.toNat) (hd.take 12) (hd ++ nm) body j
      segSend s i p (hd ++ nm ++ sealed)
  if free.isSome then setSession s n x else s

/-- OPEN (R443) with CRED and NC; `h.tagOk` is the outcome of the GMAC under the credential's key. -/
def execOpenSession (h : StitchHdr) (cred : BitVec 16) (nc : BitVec 256) (s : State) : Res :=
  .next (match takeMessage s h 1 with
    | none => s
    | some s =>
      if !h.wellFormed then sesCount s 6
      else match keyRefusal s cred.toNat useStitch, s.clo.keys.find? cred.toNat with
        | none, some k =>
          let other : Bool := match h.via with | .udp _ => false | .can _ p => p.val != k.plot
          if 8 ≤ k.plot ∨ other ∨ !h.tagOk then sesCount s 3 else sesOpen s h cred.toNat k (le 32 nc.toNat)
        | _, _ => sesCount s 3)

/-- Have IDLE seconds passed since the last valid request of session `n` (R444)? -/
def sesIdle (s : State) (n : Nat) : Bool :=
  match sessionOf s n with
  | none => false
  | some x => decide (x.at_ + 80000000 * s.obj 0x1001 7 60 ≤ s.now)

/-- SESSION_IDLE_TIMEOUT (R444). -/
def execSessionIdleTimeout (n : Fin 33) (s : State) : Res :=
  .next (if n.val = 0 || !sesIdle s n then s else closeSessions s fun m _ => m == n.val)

/-- Has the assembly of session `n` had no piece for 10 s (R448)? -/
def asmLate (s : State) (n : Nat) : Bool :=
  ((sessionOf s n).bind (·.asm)).any fun x => decide (x.2.1 + 800000000 ≤ s.now)

/-- Is the snapshot of session `n` 10 s old (R447)? -/
def snapLate (s : State) (n : Nat) : Bool :=
  (sessionOf s n).any fun x => x.snap.isSome && decide (x.snapAt + 800000000 ≤ s.now)

/-- ASSEMBLY_TIMEOUT (R448). -/
def execAssemblyTimeout (n : Fin 72) (s : State) : Res := .next (if asmLate s n then setAsm s n none else s)

/-- SNAPSHOT_TIMEOUT (R447). -/
def execSnapshotTimeout (n : Fin 72) (s : State) : Res := .next (if snapLate s n then setSnap s n none else s)

/-! ## Clear mode (R516) -/

/-- Does Table 21-12 let clear mode reach index:sub? -/
def clearReach (s : State) (write : Bool) (idx sub : Nat) : Bool :=
  let lc := lcState s
  if s.mode = mQUARANTINE ∨ s.rdB F.CLO_STAT_ROOT_FAIL then
    if write then idx == 0x9050 && sub == 1
    else (decide (0xB000 ≤ idx) && decide (idx ≤ 0xB006)) || (idx == 0x9030 && sub == 1) || (idx == 0x9050 && sub == 2)
  else (lc == lcBlank || lc == lcRetired) && decide (0x1000 ≤ idx) && decide (idx < 0xC000)

/-- Does clear mode apply at all? -/
def clearMode (s : State) : Bool :=
  s.mode == mQUARANTINE || s.rdB F.CLO_STAT_ROOT_FAIL || lcState s == lcBlank || lcState s == lcRetired

/-- CLEAR_MODE_REQUEST: SESSION 0 on an Ethernet port, with every role. -/
def execClearModeRequest (port : Fin 2) (seq : BitVec 32) (prio : Fin 8) (q : StitchReq) (e : Envt) (s : State) : Res :=
  .next (if !stitchUp s || s.obj 0x1001 1 1 != 1 then s
    else if !clearMode s then sesCount s 5
    else
      let s := setSession s 0 { (sessionOf s 0).getD {} with port := port.val, at_ := s.now }
      if q.op ≠ 3 ∧ !clearReach s (q.op == 2) q.index.toNat q.sub.toNat then
        sesReply s 0 seq.toNat prio (replyBody q.op.toNat 0x0205 q.index.toNat q.sub.toNat 0 q.offset.toNat
          (q.op == 2 && q.last) 0 [])
      else serve s { plot := 0, roles := 0xFF } 0 seq.toNat prio false q e)

/-! ## CAN FD (R450, R451) -/

/-- A whole message has arrived. -/
def segGot (s : State) (k : Nat) (b : List Byte) : State := { s with ses := { s.ses with got := s.ses.got ++ [(k, b)] } }

/-- A transfer is abandoned; `timed` counts 0x0402. -/
def segDropRx (s : State) (k : Nat) (timed : Bool) : State :=
  { s with ses := { s.ses with rx := SMap.dropRange s.ses.rx k (k + 1), abandoned := s.ses.abandoned + timed.toNat } }
def segDropTx (s : State) (k : Nat) : State :=
  { s with ses := { s.ses with tx := SMap.dropRange s.ses.tx k (k + 1), abandoned := s.ses.abandoned + 1 } }

/-- CAN_SEGMENT_RX: a frame of Table 19-5a on plot `p`'s request identifier of controller `i`. -/
def execCanSegmentRx (i p : Fin 8) (g : StitchSeg) (s : State) : Res :=
  let k := 8 * i.val + p.val
  .next (if !canHears s i || !(s.obj 0x1002 1 0).testBit i then s
    else match g with
    | .single b => if 61 < b.length then sesCount s 6 else segGot s k b
    | .first len b =>
      if len ≤ 61 ∨ 1100 < len ∨ b.length ≠ 61 then sesCount s 6
      else
        let s := { s with ses := { s.ses with rx := s.ses.rx.set k { len := len, data := b, at_ := s.now } } }
        canSystem s i 3 (segFrame s p true [0xC0, 0, 0, 0])
    | .next sn b =>
      match s.ses.rx.find? k with
      | none => s
      | some x =>
        if sn.val ≠ x.sn ∨ 63 < b.length then segDropRx s k false
        else
          let d := (x.data ++ b).take x.len
          if d.length = x.len then segGot (segDropRx s k false) k d
          else { s with ses := { s.ses with rx := s.ses.rx.set k { x with data := d, sn := (x.sn + 1) % 64, at_ := s.now } } }
    | .flow bs stmin abort =>
      match s.ses.tx.find? k with
      | none => s
      | some x =>
        if abort then segDropTx s k
        else
          let y := { x with granted := if bs = 0 then 64 else bs, gap := 8000 * stmin, at_ := s.now }
          segNext { s with ses := { s.ses with tx := s.ses.tx.set k y } } k 20)

/-- Has transfer `k` waited 100 ms for a FLOW, or for a NEXT (R451)? -/
def segTxLate (s : State) (k : Nat) : Bool :=
  (s.ses.tx.find? k).any fun x => x.granted == 0 && decide (x.at_ + 8000000 ≤ s.now)
def segRxLate (s : State) (k : Nat) : Bool := (s.ses.rx.find? k).any fun x => decide (x.at_ + 8000000 ≤ s.now)

/-- SEGMENT_TIMEOUT (R451): no FLOW for a transfer sent (`tx`), or no NEXT for one received, within 100 ms. -/
def execSegmentTimeout (i p : Fin 8) (tx : Bool) (s : State) : Res :=
  let k := 8 * i.val + p.val
  .next (if tx then (if segTxLate s k then segDropTx s k else s) else if segRxLate s k then segDropRx s k true else s)

/-! ## Local ports (R452, R453) -/

/-- The next packet of plot `p`'s request queue, whether its words are sound, and the state without it. -/
def localTake (s : State) (p : Nat) : Option (List Nat × Bool × State) :=
  let b := plotRec s p
  let q := byteNat b 16
  if b = [] then none
  else match (s.queue q).next with
    | none => none
    | some (x, rest) => some (x.words.map fun w => w.data.toNat, x.words.all fun w => !w.poison, furSync (s.setQueue q rest) q)

/-- A packet's body as a request (Table 19-3), if it is one. -/
def reqParse (b : List Byte) : Option StitchReq :=
  let len := halfNat b 6
  let op := byteNat b 0
  let n := if op = 2 then len else 0
  if b.length < 16 ∨ b.length < 16 + n ∨ 16 + n + 3 < b.length ∨ !(op == 1 || op == 2 || op == 3) ∨ 4 ≤ byteNat b 1 then none
  else some { op := BitVec.ofNat 8 op, last := (byteNat b 1).testBit 0, fresh := (byteNat b 1).testBit 1,
              index := BitVec.ofNat 16 (halfNat b 2), sub := b.getD 4 0, type := b.getD 5 0, length := BitVec.ofNat 16 len,
              offset := BitVec.ofNat 32 (ofLe ((b.drop 8).take 4)), data := (b.drop 16).take n }

/-- LOCAL_REQUEST: the next packet of plot `p`'s request queue is a request; `v` brings the outcome of the checks that
need a key. -/
def execLocalRequest (p : Fin 8) (v : StitchReq) (e : Envt) (s : State) : Res :=
  .next (match localTake s p with
    | none => s
    | some (ws, sound, t) =>
      let word0 := ws.headD 0
      if word0.testBit 31 then s
      else
        let n := 64 + p.val
        let t := setSession t n { (sessionOf t n).getD {} with plot := p.val, transport := 2, at_ := t.now }
        let b := (ws.drop 1).flatMap (le 4)
        match (if sound then reqParse b else none) with
        | none => localReply t p word0 (replyBody (byteNat b 0 % 128) 0x0101 (halfNat b 2) (byteNat b 4) 0 0 false 0 [])
        | some q =>
          let q := { q with sigOk := v.sigOk, tagOk := v.tagOk, progErr := v.progErr }
          serve t { plot := p, roles := BitVec.ofNat 8 (byteNat (plotRec s p) 20) } n word0 4 true q e)

/-- PLOT_ANSWER_RX (R453): the next packet of plot `p`'s request queue answers a forwarded request. -/
def execPlotAnswerRx (p : Fin 8) (s : State) : Res :=
  .next (match localTake s p with
    | none => s
    | some (ws, _, t) =>
      let word0 := ws.headD 0
      if !word0.testBit 31 then s
      else match t.ses.forwards.find? fun f => f.plot == p.val && f.word0 == word0 - 2 ^ 31 with
        | none => t
        | some f =>
          let b := (ws.drop 1).flatMap (le 4)
          fwdAnswer { t with ses := { t.ses with forwards := t.ses.forwards.erase f } } f (b.take (20 + halfNat b 12)))

/-- FORWARD_TIMEOUT (R453): the `k`-th request that waits for a plot is answered once it has waited 1 s. -/
def execForwardTimeout (k : Nat) (s : State) : Res :=
  .next (match s.ses.forwards[k]? with
    | none => s
    | some f =>
      if s.now < f.at_ + 80000000 then s
      else
        fwdAnswer { s with ses := { s.ses with forwards := s.ses.forwards.eraseIdx k } } f
          (replyBody f.op 0x0403 f.index f.sub 0 0 false 0 []))

end Sys2Proof.Machine
end

