-- ==== Sys2Proof/Machine/Dispatch.lean ====
section
/-! DEFINITION. Dispatch: one arm for every command. -/

namespace Sys2Proof.Machine

def exec (i : Instr) (s : State) : Host.Outcome State Fault Refusal :=
  match i with
  | .vinPowerOn => Sys2Proof.Machine.execVinPowerOn s
  | .powerFailWarning => Sys2Proof.Machine.execPowerFailWarning s
  | .holdupOk => Sys2Proof.Machine.execHoldupOk s
  | .vinPathClose => Sys2Proof.Machine.execVinPathClose s
  | .feedUndervoltage feed => Sys2Proof.Machine.execFeedUndervoltage feed s
  | .feedRestored feed => Sys2Proof.Machine.execFeedRestored feed s
  | .railWarn r outside => Sys2Proof.Machine.execRailWarn r outside s
  | .railFault r high => Sys2Proof.Machine.execRailFault r high s
  | .clockFault c link => Sys2Proof.Machine.execClockFault c link s
  | .presNAssert side slot => Sys2Proof.Machine.execPresNAssert side slot s
  | .lsExtSense map => Sys2Proof.Machine.execLsExtSense map s
  | .seatingEnd e => Sys2Proof.Machine.execSeatingEnd e s
  | .presNDeassert j2 => Sys2Proof.Machine.execPresNDeassert j2 s
  | .seatChange => Sys2Proof.Machine.execSeatChange s
  | .ejectNAssert ok => Sys2Proof.Machine.execEjectNAssert ok s
  | .ejectNDeassert => Sys2Proof.Machine.execEjectNDeassert s
  | .handoffSafeLsOpen => Sys2Proof.Machine.execHandoffSafeLsOpen s
  | .handoffTimeout => Sys2Proof.Machine.execHandoffTimeout s
  | .bootComplete => Sys2Proof.Machine.execBootComplete s
  | .bootTimeout => Sys2Proof.Machine.execBootTimeout s
  | .modeReqRun r e => Sys2Proof.Machine.execModeReqRun r e s
  | .modeReqService r force e => Sys2Proof.Machine.execModeReqService r force e s
  | .modeReqBoot r e => Sys2Proof.Machine.execModeReqBoot r e s
  | .modeReqDormancy r e => Sys2Proof.Machine.execModeReqDormancy r e s
  | .modeReqHandoff r e => Sys2Proof.Machine.execModeReqHandoff r e s
  | .wakeEvent src ok => Sys2Proof.Machine.execWakeEvent src ok s
  | .dormTimerExpiry ok => Sys2Proof.Machine.execDormTimerExpiry ok s
  | .holdRestart e => Sys2Proof.Machine.execHoldRestart e s
  | .coldRestartRetry e => Sys2Proof.Machine.execColdRestartRetry e s
  | .ac0SupervisorFault => Sys2Proof.Machine.execAc0SupervisorFault s
  | .energyIntegrate mj vin vla vlb p => Sys2Proof.Machine.execEnergyIntegrate mj vin vla vlb p s
  | .energyLoRead b => Sys2Proof.Machine.execEnergyLoRead b s
  | .energyClr mask => Sys2Proof.Machine.execEnergyClr mask s
  | .blkRst r rst => Sys2Proof.Machine.execBlkRst r rst s
  | .blkResetRelease b => Sys2Proof.Machine.execBlkResetRelease b s
  | .handshakeTimeout b => Sys2Proof.Machine.execHandshakeTimeout b s
  | .d2dLinkLoss => Sys2Proof.Machine.execD2dLinkLoss s
  | .misalignedAccess r op a size => Sys2Proof.Machine.execMisalignedAccess r op a size s
  | .reservedRangeAccess r op a size => Sys2Proof.Machine.execReservedRangeAccess r op a size s
  | .xipWrite r a v => Sys2Proof.Machine.execXipWrite r a v s
  | .resetDomainAccess r op a => Sys2Proof.Machine.execResetDomainAccess r op a s
  | .registerWrite r a v e => Sys2Proof.Machine.execRegisterWrite r a v e s
  | .heartbeatTx => Sys2Proof.Machine.execHeartbeatTx s
  | .heartbeatRx h => Sys2Proof.Machine.execHeartbeatRx h s
  | .heartbeatTimeout => Sys2Proof.Machine.execHeartbeatTimeout s
  | .partnerHoldTimeout => Sys2Proof.Machine.execPartnerHoldTimeout s
  | .slsArmRaise => Sys2Proof.Machine.execSlsArmRaise s
  | .cycleBoundary m => Sys2Proof.Machine.execCycleBoundary m s
  | .netrefRx tagOk payload => Sys2Proof.Machine.execNetrefRx tagOk payload s
  | .lockAcquire net err freq => Sys2Proof.Machine.execLockAcquire net err freq s
  | .lockLoss ampLow freqRange phaseErr => Sys2Proof.Machine.execLockLoss ampLow freqRange phaseErr s
  | .netTimeout => Sys2Proof.Machine.execNetTimeout s
  | .slewDone => Sys2Proof.Machine.execSlewDone s
  | .holdoverLimit => Sys2Proof.Machine.execHoldoverLimit s
  | .trlNowRead => Sys2Proof.Machine.execTrlNowRead s
  | .slotCtlWrite r n v => Sys2Proof.Machine.execSlotCtlWrite r n v s
  | .trlPartWrite r p v => Sys2Proof.Machine.execTrlPartWrite r p v s
  | .slotFire n => Sys2Proof.Machine.execSlotFire n s
  | .mark n => Sys2Proof.Machine.execMark n s
  | .lsOn n offset => Sys2Proof.Machine.execLsOn n offset s
  | .lsOff n offset => Sys2Proof.Machine.execLsOff n offset s
  | .dioOn n offset => Sys2Proof.Machine.execDioOn n offset s
  | .dioOff n offset => Sys2Proof.Machine.execDioOff n offset s
  | .dioPulse n offset => Sys2Proof.Machine.execDioPulse n offset s
  | .dioPulseEnd n => Sys2Proof.Machine.execDioPulseEnd n s
  | .canLaunch n => Sys2Proof.Machine.execCanLaunch n s
  | .furrowPost n => Sys2Proof.Machine.execFurrowPost n s
  | .powClose n offset => Sys2Proof.Machine.execPowClose n offset s
  | .powOpen n offset => Sys2Proof.Machine.execPowOpen n offset s
  | .latTrigger w => Sys2Proof.Machine.execLatTrigger w s
  | .msrPoint => Sys2Proof.Machine.execMsrPoint s
  | .tilthWindow => Sys2Proof.Machine.execTilthWindow s
  | .netrefSend => Sys2Proof.Machine.execNetrefSend s
  | .powCfgWrite r e v => Sys2Proof.Machine.execPowCfgWrite r e v s
  | .powOpWrite r e v => Sys2Proof.Machine.execPowOpWrite r e v s
  | .powRelWrite r e v => Sys2Proof.Machine.execPowRelWrite r e v s
  | .powAuxTimeout e => Sys2Proof.Machine.execPowAuxTimeout e s
  | .powLearnSave => Sys2Proof.Machine.execPowLearnSave s
  | .ptOffsetUpdate r ns => Sys2Proof.Machine.execPtOffsetUpdate r ns s
  | .ptStepApply => Sys2Proof.Machine.execPtStepApply s
  | .ptSetGo r => Sys2Proof.Machine.execPtSetGo r s
  | .ptHoldoverTimeout => Sys2Proof.Machine.execPtHoldoverTimeout s
  | .ptNowRead => Sys2Proof.Machine.execPtNowRead s
  | .ethFrameRx p frame fcsOk sub => Sys2Proof.Machine.execEthFrameRx p frame fcsOk sub s
  | .ethFrameTx p sub => Sys2Proof.Machine.execEthFrameTx p sub s
  | .ethLaunch p sub => Sys2Proof.Machine.execEthLaunch p sub s
  | .ethTxtsRead p => Sys2Proof.Machine.execEthTxtsRead p s
  | .canrefSync iX => Sys2Proof.Machine.execCanrefSync iX s
  | .canrefFup iX => Sys2Proof.Machine.execCanrefFup iX s
  | .canrefFupAbort iX => Sys2Proof.Machine.execCanrefFupAbort iX s
  | .linkUp l => Sys2Proof.Machine.execLinkUp l s
  | .linkLoss l => Sys2Proof.Machine.execLinkLoss l s
  | .trainOriginate => Sys2Proof.Machine.execTrainOriginate s
  | .trainRx c e bytes abt => Sys2Proof.Machine.execTrainRx c e bytes abt s
  | .setDeadline => Sys2Proof.Machine.execSetDeadline s
  | .triggerRx c => Sys2Proof.Machine.execTriggerRx c s
  | .triggerAbsent c => Sys2Proof.Machine.execTriggerAbsent c s
  | .mastershipListenEnd => Sys2Proof.Machine.execMastershipListenEnd s
  | .enumForce r c => Sys2Proof.Machine.execEnumForce r c s
  | .enumFill r c => Sys2Proof.Machine.execEnumFill r c s
  | .remeasure r c => Sys2Proof.Machine.execRemeasure r c s
  | .acceptMap r c => Sys2Proof.Machine.execAcceptMap r c s
  | .pass r c => Sys2Proof.Machine.execPass r c s
  | .enumEndRx c e v => Sys2Proof.Machine.execEnumEndRx c e v s
  | .enumTimeout c => Sys2Proof.Machine.execEnumTimeout c s
  | .echoRx c e n rtt => Sys2Proof.Machine.execEchoRx c e n rtt s
  | .readRspRx c e n reg v => Sys2Proof.Machine.execReadRspRx c e n reg v s
  | .writeAckRx c e n reg v => Sys2Proof.Machine.execWriteAckRx c e n reg v s
  | .nackRx _c _e _n _v => Sys2Proof.Machine.execNackRx _c _e _n _v s
  | .linkDownRx c e n => Sys2Proof.Machine.execLinkDownRx c e n s
  | .ringPassRequest c seqLast => Sys2Proof.Machine.execRingPassRequest c seqLast s
  | .ringPassAcceptRx c => Sys2Proof.Machine.execRingPassAcceptRx c s
  | .ringPassTimeout c => Sys2Proof.Machine.execRingPassTimeout c s
  | .msrSyncSend m p w => Sys2Proof.Machine.execMsrSyncSend m p w s
  | .msrFrameRx m b => Sys2Proof.Machine.execMsrFrameRx m b s
  | .msrConvDeadline m => Sys2Proof.Machine.execMsrConvDeadline m s
  | .msrCtrlReplyRx m x => Sys2Proof.Machine.execMsrCtrlReplyRx m x s
  | .msrRemeasure r m => Sys2Proof.Machine.execMsrRemeasure r m s
  | .capCtlWrite r v => Sys2Proof.Machine.execCapCtlWrite r v s
  | .dumpDone j => Sys2Proof.Machine.execDumpDone j s
  | .qWr r q data => Sys2Proof.Machine.execQWr r q data s
  | .qWrEnd r q data => Sys2Proof.Machine.execQWrEnd r q data s
  | .qPctlPrio r q prio => Sys2Proof.Machine.execQPctlPrio r q prio s
  | .poisonNext r q => Sys2Proof.Machine.execPoisonNext r q s
  | .abortCmd r q => Sys2Proof.Machine.execAbortCmd r q s
  | .flush r q => Sys2Proof.Machine.execFlush r q s
  | .qNextRead r q => Sys2Proof.Machine.execQNextRead r q s
  | .qDataRead r q parErr => Sys2Proof.Machine.execQDataRead r q parErr s
  | .hwPacketWrite q words => Sys2Proof.Machine.execHwPacketWrite q words s
  | .bankSwap q => Sys2Proof.Machine.execBankSwap q s
  | .spillClose q => Sys2Proof.Machine.execSpillClose q s
  | .spillDone q => Sys2Proof.Machine.execSpillDone q s
  | .openTmo q => Sys2Proof.Machine.execOpenTmo q s
  | .qEnable r q size spill hwprio => Sys2Proof.Machine.execQEnable r q size spill hwprio s
  | .qDisable r q => Sys2Proof.Machine.execQDisable r q s
  | .tilthStart => Sys2Proof.Machine.execTilthStart s
  | .tilthFirstPass => Sys2Proof.Machine.execTilthFirstPass s
  | .tilthSecondPass => Sys2Proof.Machine.execTilthSecondPass s
  | .cycleWindowClose => Sys2Proof.Machine.execCycleWindowClose s
  | .statWindowClose => Sys2Proof.Machine.execStatWindowClose s
  | .zWindowClose => Sys2Proof.Machine.execZWindowClose s
  | .bankPublish kind bad badGroups => Sys2Proof.Machine.execBankPublish kind bad badGroups s
  | .commit r => Sys2Proof.Machine.execCommit r s
  | .tilCommitAbort r => Sys2Proof.Machine.execTilCommitAbort r s
  | .tilCommitApply => Sys2Proof.Machine.execTilCommitApply s
  | .tilEnable r => Sys2Proof.Machine.execTilEnable r s
  | .tilUcAddrWrite r v => Sys2Proof.Machine.execTilUcAddrWrite r v s
  | .tilUcDataWrite r v => Sys2Proof.Machine.execTilUcDataWrite r v s
  | .tilUcLock r => Sys2Proof.Machine.execTilUcLock r s
  | .sweepWindowClose j bad => Sys2Proof.Machine.execSweepWindowClose j bad s
  | .pommelEvaluate x stuck => Sys2Proof.Machine.execPommelEvaluate x stuck s
  | .tempDueCheck t seq stuck => Sys2Proof.Machine.execTempDueCheck t seq stuck s
  | .setstale stuck => Sys2Proof.Machine.execSetstale stuck s
  | .lockstepMismatch group => Sys2Proof.Machine.execLockstepMismatch group s
  | .delayRegParity => Sys2Proof.Machine.execDelayRegParity s
  | .injectionPass startup fault stuck => Sys2Proof.Machine.execInjectionPass startup fault stuck s
  | .peerCheck stuck => Sys2Proof.Machine.execPeerCheck stuck s
  | .sramEccError x => Sys2Proof.Machine.execSramEccError x s
  | .tripReset r mask => Sys2Proof.Machine.execTripReset r mask s
  | .manualTrip r mask pattern stuck => Sys2Proof.Machine.execManualTrip r mask pattern stuck s
  | .paramWrite r idx sub v => Sys2Proof.Machine.execParamWrite r idx sub v s
  | .paramRead r idx sub => Sys2Proof.Machine.execParamRead r idx sub s
  | .injectNow r fault stuck => Sys2Proof.Machine.execInjectNow r fault stuck s
  | .mirrorTripRx bytes stuck => Sys2Proof.Machine.execMirrorTripRx bytes stuck s
  | .suspectReportRx => Sys2Proof.Machine.execSuspectReportRx s
  | .slsOvercurrent u stuck => Sys2Proof.Machine.execSlsOvercurrent u stuck s
  | .slsClose => Sys2Proof.Machine.execSlsClose s
  | .lsReqOn r n on => Sys2Proof.Machine.execLsReqOn r n on s
  | .lsClear r n => Sys2Proof.Machine.execLsClear r n s
  | .segmentEnd n => Sys2Proof.Machine.execSegmentEnd n s
  | .sc n => Sys2Proof.Machine.execSc n s
  | .limTrip n => Sys2Proof.Machine.execLimTrip n s
  | .lsSample n cur vout tbank clampMw clampE feedSum limiting => Sys2Proof.Machine.execLsSample n cur vout tbank clampMw clampE feedSum limiting s
  | .lsRetry n => Sys2Proof.Machine.execLsRetry n s
  | .retryCountReset dio n => Sys2Proof.Machine.execRetryCountReset dio n s
  | .staggerSwitchOn b => Sys2Proof.Machine.execStaggerSwitchOn b s
  | .shed feed => Sys2Proof.Machine.execShed feed s
  | .openOn n => Sys2Proof.Machine.execOpenOn n s
  | .openOff n => Sys2Proof.Machine.execOpenOff n s
  | .outHigh n sense => Sys2Proof.Machine.execOutHigh n sense s
  | .bankWarn b => Sys2Proof.Machine.execBankWarn b s
  | .bankHot b => Sys2Proof.Machine.execBankHot b s
  | .bankNormal b => Sys2Proof.Machine.execBankNormal b s
  | .lsServiceOn r n dur => Sys2Proof.Machine.execLsServiceOn r n dur s
  | .lsServiceOff r n => Sys2Proof.Machine.execLsServiceOff r n s
  | .lsServiceExpiry n => Sys2Proof.Machine.execLsServiceExpiry n s
  | .lsPchk r x => Sys2Proof.Machine.execLsPchk r x s
  | .lsProfWrite r x w v => Sys2Proof.Machine.execLsProfWrite r x w v s
  | .lsParallelSet r n par => Sys2Proof.Machine.execLsParallelSet r n par s
  | .lsReleaseRequest n => Sys2Proof.Machine.execLsReleaseRequest n s
  | .lsReleaseConfirm n => Sys2Proof.Machine.execLsReleaseConfirm n s
  | .lsOverlapEnd n => Sys2Proof.Machine.execLsOverlapEnd n s
  | .relFail n => Sys2Proof.Machine.execRelFail n s
  | .wdogFrameRx line bytes gap => Sys2Proof.Machine.execWdogFrameRx line bytes gap s
  | .streamTimeout line => Sys2Proof.Machine.execStreamTimeout line s
  | .holdExpiry => Sys2Proof.Machine.execHoldExpiry s
  | .partnerTmoExpiry => Sys2Proof.Machine.execPartnerTmoExpiry s
  | .reclaimExpiry => Sys2Proof.Machine.execReclaimExpiry s
  | .strRelLs r map => Sys2Proof.Machine.execStrRelLs r map s
  | .strRelDio r map => Sys2Proof.Machine.execStrRelDio r map s
  | .dioEdgeAccept n => Sys2Proof.Machine.execDioEdgeAccept n s
  | .wireBreak n => Sys2Proof.Machine.execWireBreak n s
  | .wireRestored n => Sys2Proof.Machine.execWireRestored n s
  | .dioReqOn r n on => Sys2Proof.Machine.execDioReqOn r n on s
  | .dioClear r n => Sys2Proof.Machine.execDioClear r n s
  | .dioLimit n => Sys2Proof.Machine.execDioLimit n s
  | .dioTherm n => Sys2Proof.Machine.execDioTherm n s
  | .dioRetry n => Sys2Proof.Machine.execDioRetry n s
  | .dioReadbackFault n => Sys2Proof.Machine.execDioReadbackFault n s
  | .dioOpenOn n => Sys2Proof.Machine.execDioOpenOn n s
  | .dioServiceOn r n dur => Sys2Proof.Machine.execDioServiceOn r n dur s
  | .dioServiceExpiry n => Sys2Proof.Machine.execDioServiceExpiry n s
  | .fclChange l => Sys2Proof.Machine.execFclChange l s
  | .canFrameRx iX f back stuck => Sys2Proof.Machine.execCanFrameRx iX f back stuck s
  | .canTxbReq r iX b => Sys2Proof.Machine.execCanTxbReq r iX b s
  | .canTxbAbort r iX b => Sys2Proof.Machine.execCanTxbAbort r iX b s
  | .canTxDone iX b a => Sys2Proof.Machine.execCanTxDone iX b a s
  | .canError iX e tx heavy => Sys2Proof.Machine.execCanError iX e tx heavy s
  | .recover r iX => Sys2Proof.Machine.execRecover r iX s
  | .recoveryComplete iX => Sys2Proof.Machine.execRecoveryComplete iX s
  | .abortAll r iX => Sys2Proof.Machine.execAbortAll r iX s
  | .ttMiss iX b => Sys2Proof.Machine.execTtMiss iX b s
  | .busDom iX e => Sys2Proof.Machine.execBusDom iX e s
  | .selectiveWake iX ev ok => Sys2Proof.Machine.execSelectiveWake iX ev ok s
  | .roundStart => Sys2Proof.Machine.execRoundStart s
  | .tokenRx f => Sys2Proof.Machine.execTokenRx f s
  | .commitRx f => Sys2Proof.Machine.execCommitRx f s
  | .abortRx f => Sys2Proof.Machine.execAbortRx f s
  | .wakeRx f => Sys2Proof.Machine.execWakeRx f s
  | .roundTmo => Sys2Proof.Machine.execRoundTmo s
  | .commitWindowEnd => Sys2Proof.Machine.execCommitWindowEnd s
  | .wakeLineLow ok => Sys2Proof.Machine.execWakeLineLow ok s
  | .wakeLineHigh => Sys2Proof.Machine.execWakeLineHigh s
  | .pulse r => Sys2Proof.Machine.execPulse r s
  | .wakeframe r => Sys2Proof.Machine.execWakeframe r s
  | .wakePulseEnd => Sys2Proof.Machine.execWakePulseEnd s
  | .bridleRead r a size prio unc => Sys2Proof.Machine.execBridleRead r a size prio unc s
  | .bridleNonpostedWrite r a size v prio e => Sys2Proof.Machine.execBridleNonpostedWrite r a size v prio e s
  | .bridlePostedWrite r a size v prio unc e => Sys2Proof.Machine.execBridlePostedWrite r a size v prio unc e s
  | .rspTimeout tag => Sys2Proof.Machine.execRspTimeout tag s
  | .retryRx tag => Sys2Proof.Machine.execRetryRx tag s
  | .xlInboundRequest tag iX gen page a size q unc e => Sys2Proof.Machine.execXlInboundRequest tag iX gen page a size q unc e s
  | .failureNoticeRx num status => Sys2Proof.Machine.execFailureNoticeRx num status s
  | .xlLinkLoss => Sys2Proof.Machine.execXlLinkLoss s
  | .fenceGo r p => Sys2Proof.Machine.execFenceGo r p s
  | .fenceComplete p => Sys2Proof.Machine.execFenceComplete p s
  | .stitchFence n seq prio p tag => Sys2Proof.Machine.execStitchFence n seq prio p tag s
  | .gwCommit r => Sys2Proof.Machine.execGwCommit r s
  | .gwTableActivate => Sys2Proof.Machine.execGwTableActivate s
  | .gwPeriodExpiry d => Sys2Proof.Machine.execGwPeriodExpiry d s
  | .gwInhibitEnd d => Sys2Proof.Machine.execGwInhibitEnd d s
  | .gwSourceTimeout f => Sys2Proof.Machine.execGwSourceTimeout f s
  | .openSession h cred nc => Sys2Proof.Machine.execOpenSession h cred nc s
  | .read h q => Sys2Proof.Machine.execRead h q s
  | .write h q e => Sys2Proof.Machine.execWrite h q e s
  | .nop h q => Sys2Proof.Machine.execNop h q s
  | .close h => Sys2Proof.Machine.execClose h s
  | .clearModeRequest port seq prio q e => Sys2Proof.Machine.execClearModeRequest port seq prio q e s
  | .sessionIdleTimeout n => Sys2Proof.Machine.execSessionIdleTimeout n s
  | .assemblyTimeout n => Sys2Proof.Machine.execAssemblyTimeout n s
  | .snapshotTimeout n => Sys2Proof.Machine.execSnapshotTimeout n s
  | .canSegmentRx iX p g => Sys2Proof.Machine.execCanSegmentRx iX p g s
  | .segmentTimeout iX p tx => Sys2Proof.Machine.execSegmentTimeout iX p tx s
  | .localRequest p v e => Sys2Proof.Machine.execLocalRequest p v e s
  | .plotAnswerRx p => Sys2Proof.Machine.execPlotAnswerRx p s
  | .forwardTimeout k => Sys2Proof.Machine.execForwardTimeout k s
  | .settingsStore => Sys2Proof.Machine.execSettingsStore s
  | .settingsDefaults v => Sys2Proof.Machine.execSettingsDefaults v s
  | .jobKindWrite j p kind => Sys2Proof.Machine.execJobKindWrite j p kind s
  | .start j p sigOk tagOk => Sys2Proof.Machine.execStart j p sigOk tagOk s
  | .suspend j p => Sys2Proof.Machine.execSuspend j p s
  | .resume j p => Sys2Proof.Machine.execResume j p s
  | .cancel j p => Sys2Proof.Machine.execCancel j p s
  | .jobDequeue kind => Sys2Proof.Machine.execJobDequeue kind s
  | .jobDone j part => Sys2Proof.Machine.execJobDone j part s
  | .jobFailed j lane stuck => Sys2Proof.Machine.execJobFailed j lane stuck s
  | .plotTablesCommit r => Sys2Proof.Machine.execPlotTablesCommit r s
  | .windowBoundary c w => Sys2Proof.Machine.execWindowBoundary c w s
  | .accessViolation p addr write => Sys2Proof.Machine.execAccessViolation p addr write s
  | .pcWdogKick r p v => Sys2Proof.Machine.execPcWdogKick r p v s
  | .plotWdogExpiry p => Sys2Proof.Machine.execPlotWdogExpiry p s
  | .plotStart r p => Sys2Proof.Machine.execPlotStart r p s
  | .plotStop r p => Sys2Proof.Machine.execPlotStop r p s
  | .plotReset r p => Sys2Proof.Machine.execPlotReset r p s
  | .resetDrainDone p => Sys2Proof.Machine.execResetDrainDone p s
  | .freeze r p => Sys2Proof.Machine.execFreeze r p s
  | .freezeDone p => Sys2Proof.Machine.execFreezeDone p s
  | .thaw r p => Sys2Proof.Machine.execThaw r p s
  | .checkpoint r p => Sys2Proof.Machine.execCheckpoint r p s
  | .checkpointTimer p => Sys2Proof.Machine.execCheckpointTimer p s
  | .imageRestore img tagOk => Sys2Proof.Machine.execImageRestore img tagOk s
  | .migrateConfirmRx p code => Sys2Proof.Machine.execMigrateConfirmRx p code s
  | .tamperDetect source detail => Sys2Proof.Machine.execTamperDetect source detail s
  | .tamperEraseDone => Sys2Proof.Machine.execTamperEraseDone s
  | .lifecycleMessage bytes sigOk e => Sys2Proof.Machine.execLifecycleMessage bytes sigOk e s
  | .provision bytes e => Sys2Proof.Machine.execProvision bytes e s
  | .debugToken bytes sigOk => Sys2Proof.Machine.execDebugToken bytes sigOk s
  | .awlOpen => Sys2Proof.Machine.execAwlOpen s
  | .debugClose e => Sys2Proof.Machine.execDebugClose e s
  | .tokenExpiry => Sys2Proof.Machine.execTokenExpiry s
  | .counterIncrement r iX => Sys2Proof.Machine.execCounterIncrement r iX s
  | .graftBlockWrite data progErr => Sys2Proof.Machine.execGraftBlockWrite data progErr s
  | .svcBlock bytes progErr => Sys2Proof.Machine.execSvcBlock bytes progErr s
  | .bankEraseDone ok => Sys2Proof.Machine.execBankEraseDone ok s
  | .activationProceed e => Sys2Proof.Machine.execActivationProceed e s
  | .xlLinkTrained => Sys2Proof.Machine.execXlLinkTrained s
  | .ethLinkUp p => Sys2Proof.Machine.execEthLinkUp p s
  | .ethLinkDown p => Sys2Proof.Machine.execEthLinkDown p s
  | .canBusIntegrate iX => Sys2Proof.Machine.execCanBusIntegrate iX s
  | .dioRawTransition n level => Sys2Proof.Machine.execDioRawTransition n level s
  | .rcFieldRead r a => Sys2Proof.Machine.execRcFieldRead r a s
  | .dioEdgeCycRead n => Sys2Proof.Machine.execDioEdgeCycRead n s
  | .latControlWindow => Sys2Proof.Machine.execLatControlWindow s
  | .xlResponseRx tag status data => Sys2Proof.Machine.execXlResponseRx tag status data s
  | .xlPostedAckRx count => Sys2Proof.Machine.execXlPostedAckRx count s
  | .checkpointRx num img complete => Sys2Proof.Machine.execCheckpointRx num img complete s
  | .mirrorResetRx bytes => Sys2Proof.Machine.execMirrorResetRx bytes s
  | .dormancyEntryComplete => Sys2Proof.Machine.execDormancyEntryComplete s
  | .shutdownComplete => Sys2Proof.Machine.execShutdownComplete s
  | .stitchAddressApply k => Sys2Proof.Machine.execStitchAddressApply k s
  | .svcVbusChange present ok => Sys2Proof.Machine.execSvcVbusChange present ok s

end Sys2Proof.Machine
end

