-- ==== Sys2Proof/Safety.lean ====
section
/-! DEFINITION. What claims are stated in: the canonical form of a state, what two states share, and which parts of the
state each command may change. -/

namespace Sys2Proof

namespace Machine

/-- The canonical form: memory and the register file list each address and each key once, in order, and memory lists no
byte that reads as the default. -/
structure State.Canon (s : State) : Prop where
  mem : Memory.wf s.mem = true
  regs : SMap.wf s.regs = true

/-- The mode is one of the eight of Table 3-3. -/
def State.ModeLegal (s : State) : Prop := 1 ≤ s.mode ∧ s.mode ≤ 8

/-- Every register field but those of the list reads as before. -/
def State.RegsBut (s t : State) (fs : List Field) : Prop := ∀ f : Field, (∀ g ∈ fs, f.key ≠ g.key) → t.rd f = s.rd f

/-- `t` is `s` but for the register fields of the list, and what is noted of this tick's hardware updates (R111). -/
structure State.OnlyRegs (s t : State) (fs : List Field) : Prop where
  regs : s.RegsBut t fs
  rest : t = { s with regs := t.regs, upd := t.upd }

/-- Every byte outside `n` bytes from `a` reads as before. -/
def State.MemBut (s t : State) (a n : Nat) : Prop := ∀ x : Nat, x < a ∨ a + n ≤ x → t.byteAt x = s.byteAt x

/-- Every register field of the 1 MB window `w` (Table 1-7) reads alike in two states; the fields of the mode and the
substate are parts of their own. -/
def State.SameWindow (w : Nat) (s t : State) : Prop :=
  ∀ f : Field, f.key / (32 * 0x100000) = w → f.key ≠ F.GIRTH_MODE_MODE.key → f.key ≠ F.GIRTH_MODE_SUBSTATE.key →
    t.rd f = s.rd f

/-- The parts of the state that a command can leave alone. -/
inductive Part where
  /-- the mode of GIRTH_MODE -/
  | mode
  /-- bytes of memory -/
  | mem
  /-- numeric dictionary objects -/
  | objs
  /-- byte-string dictionary objects -/
  | objBytes
  /-- stored numeric settings -/
  | settings
  /-- stored byte-string settings -/
  | settingsBytes
  /-- the tick count -/
  | now
  /-- the count of free values taken -/
  | free
  /-- the answer to the last access -/
  | resp
  /-- what has left the module -/
  | out
  /-- hardware-fault events -/
  | faults
  /-- interrupts held back -/
  | irqHeld
  /-- the contents of Furrow queues -/
  | q
  /-- Girth beside its registers -/
  | girth
  /-- what is known of the partner -/
  | partner
  /-- load-switch channels beside their registers -/
  | ls
  /-- stagger of the banks -/
  | lsStag
  /-- records kept by PD0 -/
  | lsKept0
  /-- records kept by PD1 -/
  | lsKept1
  /-- field I/O channels beside their registers -/
  | dio
  /-- Stirrup beside its registers -/
  | str
  /-- Pommel beside its registers -/
  | pom
  /-- the angle counter and Trellis beside its registers -/
  | trl
  /-- plant time and the Ethernet ports beside their registers -/
  | pt
  /-- what the AON domain keeps -/
  | aon
  /-- Latigo beside its registers -/
  | lat
  /-- measurement links beside their registers -/
  | msr
  /-- the capture ring -/
  | cap
  /-- Tilth beside its registers -/
  | til
  /-- CAN controllers beside their registers -/
  | can
  /-- network sleep beside its registers -/
  | ns
  /-- the gateway beside its registers -/
  | gw
  /-- Bridle beside its registers -/
  | br
  /-- Stitch sessions -/
  | ses
  /-- the plot controller beside its registers -/
  | pc
  /-- Cloche beside its registers -/
  | clo
  /-- Graft beside its registers -/
  | grf
  /-- what DORMANCY retains -/
  | retain
  /-- jobs -/
  | jobs
  /-- the count of jobs accepted -/
  | jobSeq
  /-- the queue of commands -/
  | pending
  /-- registers of window 0x200x_xxxx (Trellis) -/
  | rTrellis
  /-- registers of window 0x201x_xxxx (plant time) -/
  | rPlant
  /-- registers of window 0x202x_xxxx (Latigo) -/
  | rLatigo
  /-- registers of window 0x203x_xxxx (the measurement links and capture) -/
  | rMsr
  /-- registers of window 0x204x_xxxx (Furrow) -/
  | rFurrow
  /-- registers of window 0x205x_xxxx (Tilth) -/
  | rTilth
  /-- registers of window 0x206x_xxxx (Pommel) -/
  | rPommel
  /-- registers of window 0x207x_xxxx (the load switches) -/
  | rLs
  /-- registers of window 0x208x_xxxx (Stirrup) -/
  | rStirrup
  /-- registers of window 0x209x_xxxx (the field I/O) -/
  | rDio
  /-- registers of window 0x20Ax_xxxx (CAN and network sleep) -/
  | rCan
  /-- registers of window 0x20Bx_xxxx (the gateway) -/
  | rGateway
  /-- registers of window 0x20Cx_xxxx (the plot controller and job engine) -/
  | rPlots
  /-- registers of window 0x20Dx_xxxx (Cloche) -/
  | rCloche
  /-- registers of window 0x20Ex_xxxx (Girth, mode and substate apart) -/
  | rGirth
  /-- registers of window 0x20Fx_xxxx (Ethernet) -/
  | rEth
  /-- registers of window 0x210x_xxxx (Bridle) -/
  | rBridle
  /-- registers of window 0x211x_xxxx (Graft) -/
  | rGraft
  /-- registers of window 0x212x_xxxx (the identity and chip registers) -/
  | rIdent
  /-- the substate of GIRTH_MODE -/
  | substate
  /-- what is noted of this tick's hardware updates -/
  | upd
  /-- the arbitration pointers -/
  | arb
  /-- since when the load-switch feeds exceed their sums -/
  | lsOver
  /-- END, POISON and parity of the positions of Furrow SRAM -/
  | furBits
  deriving DecidableEq, Repr

/-- Is this part the same in two states? -/
def Part.same (p : Part) (s t : State) : Prop :=
  match p with
  | .mode => t.mode = s.mode
  | .mem => t.mem = s.mem
  | .objs => t.objs = s.objs
  | .objBytes => t.objBytes = s.objBytes
  | .settings => t.settings = s.settings
  | .settingsBytes => t.settingsBytes = s.settingsBytes
  | .now => t.now = s.now
  | .free => t.free = s.free
  | .resp => t.resp = s.resp
  | .out => t.out = s.out
  | .faults => t.faults = s.faults
  | .irqHeld => t.irqHeld = s.irqHeld
  | .q => t.q = s.q
  | .girth => t.girth = s.girth
  | .partner => t.partner = s.partner
  | .ls => t.ls = s.ls
  | .lsStag => t.lsStag = s.lsStag
  | .lsKept0 => t.lsKept0 = s.lsKept0
  | .lsKept1 => t.lsKept1 = s.lsKept1
  | .dio => t.dio = s.dio
  | .str => t.str = s.str
  | .pom => t.pom = s.pom
  | .trl => t.trl = s.trl
  | .pt => t.pt = s.pt
  | .aon => t.aon = s.aon
  | .lat => t.lat = s.lat
  | .msr => t.msr = s.msr
  | .cap => t.cap = s.cap
  | .til => t.til = s.til
  | .can => t.can = s.can
  | .ns => t.ns = s.ns
  | .gw => t.gw = s.gw
  | .br => t.br = s.br
  | .ses => t.ses = s.ses
  | .pc => t.pc = s.pc
  | .clo => t.clo = s.clo
  | .grf => t.grf = s.grf
  | .retain => t.retain = s.retain
  | .jobs => t.jobs = s.jobs
  | .jobSeq => t.jobSeq = s.jobSeq
  | .pending => t.pending = s.pending
  | .rTrellis => State.SameWindow 0x200 s t
  | .rPlant => State.SameWindow 0x201 s t
  | .rLatigo => State.SameWindow 0x202 s t
  | .rMsr => State.SameWindow 0x203 s t
  | .rFurrow => State.SameWindow 0x204 s t
  | .rTilth => State.SameWindow 0x205 s t
  | .rPommel => State.SameWindow 0x206 s t
  | .rLs => State.SameWindow 0x207 s t
  | .rStirrup => State.SameWindow 0x208 s t
  | .rDio => State.SameWindow 0x209 s t
  | .rCan => State.SameWindow 0x20A s t
  | .rGateway => State.SameWindow 0x20B s t
  | .rPlots => State.SameWindow 0x20C s t
  | .rCloche => State.SameWindow 0x20D s t
  | .rGirth => State.SameWindow 0x20E s t
  | .rEth => State.SameWindow 0x20F s t
  | .rBridle => State.SameWindow 0x210 s t
  | .rGraft => State.SameWindow 0x211 s t
  | .rIdent => State.SameWindow 0x212 s t
  | .substate => t.rd F.GIRTH_MODE_SUBSTATE = s.rd F.GIRTH_MODE_SUBSTATE
  | .upd => t.upd = s.upd
  | .arb => t.arb = s.arb
  | .lsOver => t.lsOver = s.lsOver
  | .furBits => t.furBits = s.furBits

/-- Every part. -/
def Part.all : List Part :=
  [.mode, .mem, .objs, .objBytes, .settings, .settingsBytes, .now, .free, .resp, .out, .faults, .irqHeld,
    .q, .girth, .partner, .ls, .lsStag, .lsKept0, .lsKept1, .dio, .str, .pom, .trl, .pt,
    .aon, .lat, .msr, .cap, .til, .can, .ns, .gw, .br, .ses, .pc, .clo,
    .grf, .retain, .jobs, .jobSeq, .pending, .rTrellis, .rPlant, .rLatigo, .rMsr, .rFurrow, .rTilth, .rPommel,
    .rLs, .rStirrup, .rDio, .rCan, .rGateway, .rPlots, .rCloche, .rGirth, .rEth, .rBridle, .rGraft, .rIdent,
    .substate, .upd, .arb, .lsOver, .furBits]

/-- The register windows, and the notes that an update of a register leaves. -/
def Part.registers : List Part :=
  [.rTrellis, .rPlant, .rLatigo, .rMsr, .rFurrow, .rTilth, .rPommel, .rLs, .rStirrup, .rDio, .rCan, .rGateway,
    .rPlots, .rCloche, .rGirth, .rEth, .rBridle, .rGraft, .rIdent, .substate, .upd]

/-- The fields of BR_LAST of a requester's issuer (R416). -/
def Req.last (r : Req) : List Field :=
  [F.BR_LAST_STATUS r.issuer, F.BR_LAST_TAG r.issuer, F.BR_LAST_ADDR_LO_ADDR_LO r.issuer, F.BR_LAST_ADDR_HI_ADDR_HI r.issuer]

/-- A host command of requester `r` is refused with status `c`: nothing changes but the answer, BR_LAST of its issuer, and what is
noted of this tick's hardware updates. -/
structure State.Refused (s t : State) (r : Req) (c : Nat) : Prop where
  resp : t.resp = ⟨c, 0⟩
  regs : s.RegsBut t r.last
  rest : t = { s with regs := t.regs, upd := t.upd, resp := t.resp }

/-- The command `c` completes in the state `s`, in a state of which `P` holds. -/
def Ends (c : Instr) (s : State) (P : State → Prop) : Prop := ∃ t, exec c s = .next t ∧ P t

/-- Every part but those of the list. -/
def Part.allBut (l : List Part) : List Part := Part.all.filter fun p => !l.contains p

end Machine

open Machine in
/-- The parts of the state that a command may change, whatever the state and its operands: no other part changes. -/
def Instr.parts : Instr → List Part
  | .vinPowerOn => Part.all
  | .powerFailWarning =>
      Part.allBut [.mode, .objs, .objBytes, .now, .free, .resp, .faults, .partner, .lsStag, .str, .clo, .retain, .jobs,
        .jobSeq, .pending, .lsOver]
  | .holdupOk => [.pom, .rGirth, .upd]
  | .vinPathClose => [.girth]
  | .feedUndervoltage _ =>
      [.mem, .free, .out, .irqHeld, .q, .girth, .ls, .lsKept0, .lsKept1, .rFurrow, .rLs, .rGirth, .substate, .upd, .furBits]
  | .feedRestored _ =>
      [.mem, .free, .out, .irqHeld, .q, .girth, .ls, .lsStag, .lsKept0, .lsKept1, .rFurrow, .rLs, .rGirth, .substate, .upd,
        .furBits]
  | .railWarn _ _ => [.rGirth, .upd]
  | .railFault _ _ =>
      Part.allBut [.objs, .objBytes, .now, .resp, .partner, .lsStag, .clo, .grf, .retain, .jobs, .jobSeq, .pending, .lsOver]
  | .clockFault _ _ => Part.allBut [.objs, .objBytes, .now, .partner, .lsStag, .retain, .jobSeq, .pending, .lsOver]
  | .presNAssert _ _ => [.girth, .rGirth, .upd]
  | .lsExtSense _ => [.girth, .rGirth, .upd]
  | .seatingEnd _ => Part.allBut [.now, .faults, .lsStag, .jobSeq, .pending, .lsOver]
  | .presNDeassert _ =>
      Part.allBut [.mode, .objs, .objBytes, .now, .free, .resp, .faults, .partner, .lsStag, .str, .clo, .grf, .retain,
        .jobs, .jobSeq, .pending, .lsOver]
  | .seatChange => [.faults, .rGirth, .upd]
  | .ejectNAssert _ =>
      Part.allBut [.objs, .objBytes, .settingsBytes, .now, .resp, .faults, .partner, .lsStag, .aon, .br, .ses, .jobSeq,
        .pending, .arb, .lsOver]
  | .ejectNDeassert =>
      [.mode, .mem, .out, .irqHeld, .q, .girth, .ls, .lsKept0, .lsKept1, .dio, .can, .ns, .rFurrow, .rLs, .rStirrup, .rDio,
        .rCan, .rGirth, .substate, .upd, .furBits]
  | .handoffSafeLsOpen => [.rPommel, .rGirth, .substate, .upd]
  | .handoffTimeout =>
      [.mode, .mem, .out, .faults, .irqHeld, .q, .girth, .ls, .lsKept0, .lsKept1, .dio, .can, .ns, .rFurrow, .rLs, .rDio,
        .rCan, .rGirth, .substate, .upd, .furBits]
  | .bootComplete =>
      Part.allBut [.objs, .objBytes, .settingsBytes, .now, .free, .partner, .lsStag, .pom, .pt, .aon, .msr, .cap, .br,
        .ses, .retain, .jobSeq, .pending, .arb, .lsOver]
  | .bootTimeout =>
      [.mode, .mem, .free, .out, .irqHeld, .q, .girth, .ls, .lsKept0, .lsKept1, .dio, .str, .can, .ns, .rFurrow, .rLs,
        .rStirrup, .rDio, .rCan, .rGirth, .substate, .upd, .furBits]
  | .modeReqRun _ _ => Part.allBut [.now, .faults, .lsStag, .jobSeq, .pending, .lsOver]
  | .modeReqService _ _ _ => Part.allBut [.now, .faults, .lsStag, .jobSeq, .pending, .lsOver]
  | .modeReqBoot _ _ => Part.allBut [.now, .faults, .lsStag, .jobSeq, .pending, .lsOver]
  | .modeReqDormancy _ _ => Part.allBut [.now, .faults, .lsStag, .jobSeq, .pending, .lsOver]
  | .modeReqHandoff _ _ => Part.allBut [.now, .faults, .lsStag, .jobSeq, .pending, .lsOver]
  | .wakeEvent _ _ =>
      Part.allBut [.objs, .objBytes, .settingsBytes, .now, .resp, .faults, .partner, .lsStag, .aon, .br, .ses, .jobSeq,
        .pending, .arb, .lsOver]
  | .dormTimerExpiry _ =>
      Part.allBut [.objs, .objBytes, .settingsBytes, .now, .resp, .faults, .partner, .lsStag, .aon, .br, .ses, .jobSeq,
        .pending, .arb, .lsOver]
  | .holdRestart _ => Part.allBut [.now, .faults, .lsStag, .jobSeq, .pending, .lsOver]
  | .coldRestartRetry _ => Part.allBut [.now, .faults, .lsStag, .jobSeq, .pending, .lsOver]
  | .ac0SupervisorFault =>
      Part.allBut [.objs, .objBytes, .now, .resp, .faults, .partner, .lsStag, .pom, .trl, .aon, .lat, .msr, .cap, .clo,
        .grf, .retain, .jobs, .jobSeq, .pending, .lsOver]
  | .energyIntegrate _ _ _ _ _ => [.girth, .rGirth, .upd]
  | .energyLoRead _ => [.resp, .rGirth, .upd]
  | .energyClr _ => [.resp, .girth, .rGirth, .upd]
  | .blkRst _ _ =>
      Part.allBut [.objs, .objBytes, .settings, .settingsBytes, .now, .free, .faults, .partner, .lsStag, .str, .pom, .aon,
        .lat, .msr, .cap, .retain, .jobSeq, .pending, .lsOver]
  | .blkResetRelease _ => [.rGirth, .upd]
  | .handshakeTimeout _ => [.faults, .girth, .rGirth, .upd]
  | .d2dLinkLoss =>
      [.mem, .out, .faults, .irqHeld, .q, .ls, .lsKept0, .lsKept1, .dio, .str, .rFurrow, .rLs, .rDio, .rGirth, .upd,
        .furBits]
  | .misalignedAccess _ _ _ _ => Part.allBut [.now, .jobSeq, .pending, .lsOver]
  | .reservedRangeAccess _ _ _ _ => Part.allBut [.now, .jobSeq, .pending, .lsOver]
  | .xipWrite _ _ _ => Part.allBut [.now, .jobSeq, .pending, .lsOver]
  | .resetDomainAccess _ _ _ => Part.allBut [.now, .jobSeq, .pending, .lsOver]
  | .registerWrite _ _ _ _ => Part.allBut [.now, .jobSeq, .pending, .lsOver]
  | .heartbeatTx => [.out, .can, .ns, .rCan, .upd]
  | .heartbeatRx _ =>
      [.mem, .out, .faults, .irqHeld, .q, .girth, .partner, .ls, .lsKept0, .lsKept1, .dio, .lat, .can, .ns, .pc, .rLatigo,
        .rFurrow, .rPommel, .rLs, .rStirrup, .rDio, .rCan, .rPlots, .rGirth, .rBridle, .substate, .upd, .furBits]
  | .heartbeatTimeout =>
      Part.allBut [.objs, .objBytes, .settings, .settingsBytes, .now, .free, .resp, .faults, .lsStag, .str, .pom, .pt,
        .aon, .msr, .cap, .til, .gw, .br, .ses, .clo, .grf, .retain, .jobs, .jobSeq, .pending, .arb, .lsOver]
  | .partnerHoldTimeout =>
      Part.allBut [.objs, .objBytes, .settings, .settingsBytes, .now, .free, .resp, .faults, .lsStag, .str, .pom, .pt,
        .aon, .msr, .cap, .til, .gw, .br, .ses, .clo, .grf, .retain, .jobs, .jobSeq, .pending, .arb, .lsOver]
  | .slsArmRaise => [.rPommel, .rGirth, .substate, .upd]
  | .cycleBoundary _ => [.free, .trl, .rTrellis, .upd]
  | .netrefRx _ _ => [.trl, .rTrellis, .upd]
  | .lockAcquire _ _ _ => [.girth, .trl, .rTrellis, .rGirth, .substate, .upd]
  | .lockLoss _ _ _ => [.girth, .trl, .rTrellis, .rGirth, .substate, .upd]
  | .netTimeout => [.trl, .rTrellis, .upd]
  | .slewDone => [.girth, .trl, .rTrellis, .rGirth, .substate, .upd]
  | .holdoverLimit => [.girth, .rTrellis, .rGirth, .substate, .upd]
  | .trlNowRead => [.resp, .rTrellis, .upd]
  | .slotCtlWrite _ _ _ => Part.registers ++ [.mem, .resp, .out, .irqHeld, .q, .trl, .br, .furBits]
  | .trlPartWrite _ _ _ => Part.registers ++ [.mem, .resp, .out, .irqHeld, .q, .br, .furBits]
  | .slotFire _ => [.mem, .out, .irqHeld, .q, .trl, .rTrellis, .rFurrow, .upd, .arb, .furBits]
  | .mark _ => [.mem, .out, .irqHeld, .q, .trl, .rTrellis, .rFurrow, .upd, .furBits]
  | .lsOn _ _ => [.mem, .out, .irqHeld, .q, .ls, .lsKept0, .lsKept1, .trl, .rTrellis, .rFurrow, .rLs, .upd, .furBits]
  | .lsOff _ _ => [.mem, .out, .irqHeld, .q, .ls, .lsKept0, .lsKept1, .trl, .rTrellis, .rFurrow, .rLs, .upd, .furBits]
  | .dioOn _ _ => [.mem, .out, .irqHeld, .q, .dio, .trl, .rTrellis, .rFurrow, .rDio, .upd, .furBits]
  | .dioOff _ _ => [.mem, .out, .irqHeld, .q, .dio, .trl, .rTrellis, .rFurrow, .rDio, .upd, .furBits]
  | .dioPulse _ _ => [.mem, .out, .irqHeld, .q, .dio, .trl, .rTrellis, .rFurrow, .rDio, .upd, .furBits]
  | .dioPulseEnd _ => [.mem, .out, .irqHeld, .q, .dio, .trl, .rFurrow, .rDio, .upd, .furBits]
  | .canLaunch _ => [.mem, .out, .irqHeld, .q, .trl, .can, .rTrellis, .rFurrow, .rCan, .upd, .furBits]
  | .furrowPost _ => [.mem, .out, .irqHeld, .q, .trl, .rTrellis, .rFurrow, .upd, .furBits]
  | .powClose _ _ =>
      [.mem, .out, .faults, .irqHeld, .q, .ls, .lsKept0, .lsKept1, .trl, .rTrellis, .rFurrow, .rLs, .upd, .furBits]
  | .powOpen _ _ =>
      [.mem, .out, .faults, .irqHeld, .q, .ls, .lsKept0, .lsKept1, .trl, .rTrellis, .rFurrow, .rLs, .upd, .furBits]
  | .latTrigger _ =>
      [.mem, .objs, .free, .out, .irqHeld, .q, .girth, .pom, .trl, .pt, .lat, .msr, .cap, .jobs, .rTrellis, .rLatigo,
        .rMsr, .rFurrow, .rGirth, .substate, .upd, .furBits]
  | .msrPoint => [.mem, .out, .irqHeld, .q, .trl, .msr, .rTrellis, .rFurrow, .upd, .furBits]
  | .tilthWindow => [.mem, .out, .irqHeld, .q, .trl, .til, .rTrellis, .rFurrow, .upd, .furBits]
  | .netrefSend => [.out, .trl]
  | .powCfgWrite _ _ _ => Part.registers ++ [.mem, .resp, .out, .faults, .irqHeld, .q, .trl, .br, .furBits]
  | .powOpWrite _ _ _ => [.mem, .resp, .out, .irqHeld, .q, .trl, .br, .rTrellis, .rFurrow, .rGateway, .upd, .furBits]
  | .powRelWrite _ _ _ => [.mem, .resp, .out, .irqHeld, .q, .trl, .br, .rTrellis, .rFurrow, .rGateway, .upd, .furBits]
  | .powAuxTimeout _ => [.mem, .out, .faults, .irqHeld, .q, .trl, .rTrellis, .rFurrow, .upd, .furBits]
  | .powLearnSave => [.settings, .trl]
  | .ptOffsetUpdate _ _ => [.mem, .resp, .out, .irqHeld, .q, .pt, .br, .rPlant, .rFurrow, .rGateway, .upd, .furBits]
  | .ptStepApply => [.mem, .out, .irqHeld, .q, .trl, .pt, .rTrellis, .rPlant, .rFurrow, .upd, .furBits]
  | .ptSetGo _ => [.mem, .resp, .out, .irqHeld, .q, .pt, .br, .rPlant, .rFurrow, .rGateway, .upd, .furBits]
  | .ptHoldoverTimeout => [.pt, .rPlant, .upd]
  | .ptNowRead => [.resp, .rPlant, .upd]
  | .ethFrameRx _ _ _ _ => [.mem, .out, .irqHeld, .q, .rFurrow, .upd, .furBits]
  | .ethFrameTx _ _ => [.out, .irqHeld, .q, .pt, .rFurrow, .rEth, .upd]
  | .ethLaunch _ _ => [.out, .irqHeld, .q, .pt, .rFurrow, .rEth, .upd]
  | .ethTxtsRead _ => [.resp, .pt, .rEth, .upd]
  | .canrefSync _ => [.mem, .out, .irqHeld, .q, .pt, .can, .rTrellis, .rPlant, .rFurrow, .rCan, .upd, .furBits]
  | .canrefFup _ => [.pt, .can, .rCan, .upd]
  | .canrefFupAbort _ => [.mem, .out, .irqHeld, .q, .pt, .can, .rPlant, .rFurrow, .rCan, .upd, .furBits]
  | .linkUp _ => [.lat, .msr, .rLatigo, .rMsr, .upd]
  | .linkLoss _ => [.rLatigo, .rMsr, .upd]
  | .trainOriginate => [.out, .lat]
  | .trainRx _ _ _ _ =>
      [.mem, .out, .irqHeld, .q, .girth, .lat, .rLatigo, .rFurrow, .rGirth, .substate, .upd, .furBits]
  | .setDeadline =>
      [.mem, .objs, .free, .out, .irqHeld, .q, .girth, .pom, .pt, .lat, .msr, .cap, .jobs, .rLatigo, .rMsr, .rFurrow,
        .rGirth, .substate, .upd, .furBits]
  | .triggerRx _ => [.girth, .lat]
  | .triggerAbsent _ => [.mem, .out, .irqHeld, .q, .lat, .rLatigo, .rFurrow, .upd, .furBits]
  | .mastershipListenEnd => [.out, .lat, .rLatigo, .rGirth, .substate, .upd]
  | .enumForce _ _ => [.mem, .resp, .out, .irqHeld, .q, .lat, .br, .rLatigo, .rFurrow, .rGateway, .upd, .furBits]
  | .enumFill _ _ => [.mem, .resp, .out, .irqHeld, .q, .lat, .br, .rLatigo, .rFurrow, .rGateway, .upd, .furBits]
  | .remeasure _ _ => [.mem, .resp, .out, .irqHeld, .q, .lat, .br, .rFurrow, .rGateway, .upd, .furBits]
  | .acceptMap _ _ =>
      [.mem, .objBytes, .settingsBytes, .resp, .out, .irqHeld, .q, .br, .rFurrow, .rGateway, .upd, .furBits]
  | .pass _ _ => [.mem, .resp, .out, .irqHeld, .q, .lat, .br, .rFurrow, .rGateway, .upd, .furBits]
  | .enumEndRx _ _ _ =>
      [.mem, .out, .irqHeld, .q, .girth, .lat, .rLatigo, .rFurrow, .rGirth, .substate, .upd, .furBits]
  | .enumTimeout _ => [.mem, .out, .irqHeld, .q, .girth, .lat, .rLatigo, .rFurrow, .rGirth, .substate, .upd, .furBits]
  | .echoRx _ _ _ _ =>
      [.mem, .free, .out, .irqHeld, .q, .girth, .lat, .rLatigo, .rFurrow, .rGirth, .substate, .upd, .furBits]
  | .readRspRx _ _ _ _ _ =>
      [.mem, .objs, .objBytes, .settingsBytes, .out, .irqHeld, .q, .girth, .lat, .rLatigo, .rFurrow, .rGirth, .substate,
        .upd, .furBits]
  | .writeAckRx _ _ _ _ _ => [.girth, .rLatigo, .rGirth, .substate, .upd]
  | .nackRx _ _ _ _ => []
  | .linkDownRx _ _ _ =>
      [.mem, .out, .irqHeld, .q, .girth, .lat, .rLatigo, .rFurrow, .rGirth, .substate, .upd, .furBits]
  | .ringPassRequest _ _ => [.out, .lat]
  | .ringPassAcceptRx _ => [.lat]
  | .ringPassTimeout _ =>
      [.mode, .mem, .out, .irqHeld, .q, .girth, .ls, .lsKept0, .lsKept1, .dio, .lat, .can, .ns, .rLatigo, .rFurrow, .rLs,
        .rDio, .rCan, .rGirth, .substate, .upd, .furBits]
  | .msrSyncSend _ _ _ => [.out, .msr]
  | .msrFrameRx _ _ => [.mem, .msr, .rMsr, .upd]
  | .msrConvDeadline _ => [.mem, .free, .msr, .rMsr, .upd]
  | .msrCtrlReplyRx _ _ => [.free, .msr, .rMsr, .upd]
  | .msrRemeasure _ _ => [.mem, .resp, .out, .irqHeld, .q, .msr, .br, .rFurrow, .rGateway, .upd, .furBits]
  | .capCtlWrite _ _ =>
      [.mem, .resp, .out, .irqHeld, .q, .cap, .til, .br, .jobs, .rMsr, .rFurrow, .rTilth, .rGateway, .upd, .furBits]
  | .dumpDone _ => [.mem, .out, .irqHeld, .q, .jobs, .rFurrow, .rTilth, .upd, .furBits]
  | .qWr _ _ _ => [.mem, .resp, .out, .irqHeld, .q, .br, .rFurrow, .rGateway, .upd, .furBits]
  | .qWrEnd _ _ _ => [.mem, .resp, .out, .irqHeld, .q, .br, .rFurrow, .rGateway, .upd, .furBits]
  | .qPctlPrio _ _ _ => [.mem, .resp, .out, .irqHeld, .q, .br, .rFurrow, .rGateway, .upd, .furBits]
  | .poisonNext _ _ => [.mem, .resp, .out, .irqHeld, .q, .br, .rFurrow, .rGateway, .upd, .furBits]
  | .abortCmd _ _ => [.mem, .resp, .out, .irqHeld, .q, .br, .rFurrow, .rGateway, .upd, .furBits]
  | .flush _ _ => [.mem, .resp, .out, .irqHeld, .q, .br, .rFurrow, .rGateway, .upd, .furBits]
  | .qNextRead _ _ => [.mem, .resp, .out, .irqHeld, .q, .br, .rFurrow, .rGateway, .upd, .furBits]
  | .qDataRead _ _ _ => [.mem, .free, .resp, .out, .faults, .irqHeld, .q, .br, .rFurrow, .rGateway, .upd, .furBits]
  | .hwPacketWrite _ _ => [.mem, .out, .irqHeld, .q, .rFurrow, .upd, .furBits]
  | .bankSwap _ => [.out, .irqHeld, .q, .rFurrow, .upd]
  | .spillClose _ => [.out, .irqHeld, .q, .rFurrow, .upd]
  | .spillDone _ => [.mem, .free, .out, .faults, .irqHeld, .q, .rFurrow, .upd, .furBits]
  | .openTmo _ => [.mem, .out, .irqHeld, .q, .rFurrow, .upd, .furBits]
  | .qEnable _ _ _ _ _ => [.mem, .resp, .out, .irqHeld, .q, .br, .rFurrow, .rGateway, .upd, .furBits]
  | .qDisable _ _ => [.mem, .resp, .out, .irqHeld, .q, .br, .rFurrow, .rGateway, .upd, .furBits]
  | .tilthStart => [.girth, .til, .rTilth, .rGirth, .substate, .upd]
  | .tilthFirstPass => [.til]
  | .tilthSecondPass => [.girth, .til, .rTilth, .rGirth, .substate, .upd]
  | .cycleWindowClose => [.free, .girth, .til, .rTilth, .rGirth, .substate, .upd]
  | .statWindowClose => [.til]
  | .zWindowClose => [.free, .til, .rTilth, .upd]
  | .bankPublish _ _ _ =>
      [.mem, .out, .irqHeld, .q, .girth, .til, .rFurrow, .rTilth, .rGirth, .substate, .upd, .furBits]
  | .commit _ => [.mem, .resp, .out, .irqHeld, .q, .til, .br, .rFurrow, .rTilth, .rGateway, .upd, .furBits]
  | .tilCommitAbort _ => [.mem, .resp, .out, .irqHeld, .q, .til, .br, .rFurrow, .rTilth, .rGateway, .upd, .furBits]
  | .tilCommitApply => [.til, .rTilth, .upd]
  | .tilEnable _ => Part.registers ++ [.mem, .resp, .out, .irqHeld, .q, .girth, .til, .br, .jobs, .furBits]
  | .tilUcAddrWrite _ _ => [.mem, .resp, .out, .irqHeld, .q, .til, .br, .rFurrow, .rTilth, .rGateway, .upd, .furBits]
  | .tilUcDataWrite _ _ => [.mem, .resp, .out, .irqHeld, .q, .til, .br, .rFurrow, .rTilth, .rGateway, .upd, .furBits]
  | .tilUcLock _ => [.mem, .resp, .out, .irqHeld, .q, .br, .rFurrow, .rTilth, .rGateway, .upd, .furBits]
  | .sweepWindowClose _ _ =>
      [.mem, .out, .irqHeld, .q, .girth, .til, .jobs, .rFurrow, .rTilth, .rGirth, .substate, .upd, .furBits]
  | .pommelEvaluate _ _ =>
      [.mem, .out, .irqHeld, .q, .girth, .ls, .lsKept0, .lsKept1, .dio, .pom, .can, .rFurrow, .rPommel, .rLs, .rDio, .rCan,
        .rGirth, .substate, .upd, .furBits]
  | .tempDueCheck _ _ _ =>
      [.mem, .out, .irqHeld, .q, .girth, .ls, .lsKept0, .lsKept1, .dio, .pom, .can, .rFurrow, .rPommel, .rLs, .rDio, .rCan,
        .rGirth, .substate, .upd, .furBits]
  | .setstale _ =>
      [.mem, .out, .irqHeld, .q, .girth, .ls, .lsKept0, .lsKept1, .dio, .pom, .can, .rFurrow, .rPommel, .rLs, .rDio, .rCan,
        .rGirth, .substate, .upd, .furBits]
  | .lockstepMismatch _ => [.faults, .pom, .rPommel, .rGirth, .substate, .upd]
  | .delayRegParity => [.faults, .girth, .pom, .rPommel, .rGirth, .substate, .upd]
  | .injectionPass _ _ _ =>
      [.mem, .out, .faults, .irqHeld, .q, .girth, .ls, .lsKept0, .lsKept1, .dio, .pom, .can, .rFurrow, .rPommel, .rLs,
        .rDio, .rCan, .rGirth, .substate, .upd, .furBits]
  | .peerCheck _ =>
      [.mem, .out, .irqHeld, .q, .girth, .ls, .lsKept0, .lsKept1, .dio, .pom, .can, .rFurrow, .rPommel, .rLs, .rDio, .rCan,
        .rGirth, .substate, .upd, .furBits]
  | .sramEccError _ => [.mem, .faults, .pom, .rPommel, .rGirth, .substate, .upd]
  | .tripReset _ _ =>
      [.mem, .resp, .out, .irqHeld, .q, .girth, .ls, .lsKept0, .lsKept1, .dio, .pom, .can, .br, .rFurrow, .rPommel, .rLs,
        .rDio, .rCan, .rGateway, .rGirth, .substate, .upd, .furBits]
  | .manualTrip _ _ _ _ =>
      [.mem, .resp, .out, .irqHeld, .q, .girth, .ls, .lsKept0, .lsKept1, .dio, .pom, .can, .br, .rFurrow, .rPommel, .rLs,
        .rDio, .rCan, .rGateway, .rGirth, .substate, .upd, .furBits]
  | .paramWrite _ _ _ _ => [.mem, .resp, .out, .irqHeld, .q, .pom, .br, .rFurrow, .rPommel, .rGateway, .upd, .furBits]
  | .paramRead _ _ _ => [.mem, .resp, .out, .irqHeld, .q, .br, .rFurrow, .rPommel, .rGateway, .upd, .furBits]
  | .injectNow _ _ _ =>
      [.mem, .resp, .out, .faults, .irqHeld, .q, .girth, .ls, .lsKept0, .lsKept1, .dio, .pom, .can, .br, .rFurrow,
        .rPommel, .rLs, .rDio, .rCan, .rGateway, .rGirth, .substate, .upd, .furBits]
  | .mirrorTripRx _ _ =>
      [.mem, .out, .irqHeld, .q, .girth, .ls, .lsKept0, .lsKept1, .dio, .pom, .can, .rFurrow, .rPommel, .rLs, .rDio, .rCan,
        .rGirth, .substate, .upd, .furBits]
  | .suspectReportRx => [.mem, .out, .irqHeld, .q, .til, .rFurrow, .rPommel, .upd, .furBits]
  | .slsOvercurrent _ _ =>
      [.mem, .out, .irqHeld, .q, .girth, .ls, .lsKept0, .lsKept1, .dio, .pom, .can, .rFurrow, .rPommel, .rLs, .rDio, .rCan,
        .rGirth, .substate, .upd, .furBits]
  | .slsClose => [.rPommel, .rGirth, .substate, .upd]
  | .lsReqOn _ _ _ =>
      [.mem, .resp, .out, .irqHeld, .q, .ls, .lsKept0, .lsKept1, .trl, .br, .rFurrow, .rLs, .rGateway, .upd, .furBits]
  | .lsClear _ _ =>
      [.mem, .resp, .out, .irqHeld, .q, .ls, .lsStag, .lsKept0, .lsKept1, .br, .rFurrow, .rLs, .rGateway, .upd, .furBits]
  | .segmentEnd _ => [.ls, .rLs, .upd]
  | .sc _ => [.mem, .out, .irqHeld, .q, .ls, .lsKept0, .lsKept1, .rFurrow, .rLs, .upd, .furBits]
  | .limTrip _ => [.mem, .out, .irqHeld, .q, .ls, .lsKept0, .lsKept1, .rFurrow, .rLs, .upd, .furBits]
  | .lsSample _ _ _ _ _ _ _ _ =>
      [.mem, .out, .irqHeld, .q, .girth, .ls, .lsKept0, .lsKept1, .rFurrow, .rLs, .rGirth, .substate, .upd, .lsOver,
        .furBits]
  | .lsRetry _ => [.mem, .out, .irqHeld, .q, .ls, .lsStag, .lsKept0, .lsKept1, .rFurrow, .rLs, .upd, .furBits]
  | .retryCountReset _ _ => [.rLs, .rDio, .upd]
  | .staggerSwitchOn _ => [.mem, .out, .irqHeld, .q, .ls, .lsStag, .lsKept0, .lsKept1, .rFurrow, .rLs, .upd, .furBits]
  | .shed _ => [.mem, .out, .irqHeld, .q, .ls, .lsKept0, .lsKept1, .rFurrow, .rLs, .upd, .lsOver, .furBits]
  | .openOn _ => [.mem, .out, .irqHeld, .q, .ls, .lsKept0, .lsKept1, .rFurrow, .rLs, .upd, .furBits]
  | .openOff _ => [.mem, .out, .irqHeld, .q, .lsKept0, .lsKept1, .rFurrow, .rLs, .upd, .furBits]
  | .outHigh _ _ =>
      [.mem, .out, .faults, .irqHeld, .q, .girth, .lsKept0, .lsKept1, .rFurrow, .rLs, .rGirth, .substate, .upd, .furBits]
  | .bankWarn _ => [.girth, .rLs, .rGirth, .substate, .upd]
  | .bankHot _ => [.mem, .free, .out, .irqHeld, .q, .ls, .lsKept0, .lsKept1, .rFurrow, .rLs, .upd, .furBits]
  | .bankNormal _ =>
      [.mem, .free, .out, .irqHeld, .q, .ls, .lsStag, .lsKept0, .lsKept1, .rFurrow, .rLs, .upd, .furBits]
  | .lsServiceOn _ _ _ =>
      [.mem, .resp, .out, .irqHeld, .q, .ls, .lsKept0, .lsKept1, .br, .rFurrow, .rLs, .rGateway, .upd, .furBits]
  | .lsServiceOff _ _ =>
      [.mem, .resp, .out, .irqHeld, .q, .ls, .lsKept0, .lsKept1, .br, .rFurrow, .rLs, .rGateway, .upd, .furBits]
  | .lsServiceExpiry _ => [.mem, .out, .irqHeld, .q, .ls, .lsKept0, .lsKept1, .rFurrow, .rLs, .upd, .furBits]
  | .lsPchk _ _ => [.mem, .resp, .out, .irqHeld, .q, .br, .rFurrow, .rLs, .rGateway, .upd, .furBits]
  | .lsProfWrite _ _ _ _ => [.mem, .resp, .out, .irqHeld, .q, .br, .rFurrow, .rLs, .rGateway, .upd, .furBits]
  | .lsParallelSet _ _ _ => [.mem, .resp, .out, .irqHeld, .q, .br, .rFurrow, .rLs, .rGateway, .upd, .furBits]
  | .lsReleaseRequest _ =>
      [.mem, .out, .irqHeld, .q, .girth, .ls, .lsKept0, .lsKept1, .rFurrow, .rLs, .rStirrup, .rGirth, .substate, .upd,
        .furBits]
  | .lsReleaseConfirm _ => [.ls, .rLs, .upd]
  | .lsOverlapEnd _ =>
      [.mem, .out, .irqHeld, .q, .girth, .ls, .lsKept0, .lsKept1, .rFurrow, .rLs, .rStirrup, .rGirth, .substate, .upd,
        .furBits]
  | .relFail _ =>
      [.mode, .mem, .out, .irqHeld, .q, .girth, .ls, .lsKept0, .lsKept1, .dio, .can, .ns, .rFurrow, .rLs, .rDio, .rCan,
        .rGirth, .substate, .upd, .furBits]
  | .wdogFrameRx _ _ _ =>
      [.mode, .mem, .free, .out, .irqHeld, .q, .girth, .ls, .lsKept0, .lsKept1, .dio, .str, .can, .ns, .rFurrow, .rLs,
        .rStirrup, .rDio, .rCan, .rGirth, .substate, .upd, .furBits]
  | .streamTimeout _ =>
      [.mode, .mem, .free, .out, .irqHeld, .q, .girth, .ls, .lsKept0, .lsKept1, .dio, .str, .can, .ns, .rFurrow, .rLs,
        .rStirrup, .rDio, .rCan, .rGirth, .substate, .upd, .furBits]
  | .holdExpiry =>
      [.mem, .free, .out, .irqHeld, .q, .ls, .lsKept0, .lsKept1, .dio, .str, .rFurrow, .rLs, .rStirrup, .rDio, .upd,
        .furBits]
  | .partnerTmoExpiry =>
      [.mem, .out, .irqHeld, .q, .ls, .lsKept0, .lsKept1, .dio, .str, .rFurrow, .rLs, .rDio, .upd, .furBits]
  | .reclaimExpiry =>
      [.mem, .free, .out, .irqHeld, .q, .ls, .lsKept0, .lsKept1, .dio, .str, .rFurrow, .rLs, .rStirrup, .rDio, .upd,
        .furBits]
  | .strRelLs _ _ =>
      [.mem, .resp, .out, .irqHeld, .q, .ls, .lsKept0, .lsKept1, .dio, .str, .br, .rFurrow, .rLs, .rStirrup, .rDio,
        .rGateway, .upd, .furBits]
  | .strRelDio _ _ =>
      [.mem, .resp, .out, .irqHeld, .q, .ls, .lsKept0, .lsKept1, .dio, .str, .br, .rFurrow, .rLs, .rStirrup, .rDio,
        .rGateway, .upd, .furBits]
  | .dioEdgeAccept _ => [.mem, .free, .out, .irqHeld, .q, .dio, .trl, .rTrellis, .rFurrow, .rDio, .upd, .furBits]
  | .wireBreak _ => [.mem, .out, .irqHeld, .q, .girth, .rFurrow, .rDio, .rGirth, .substate, .upd, .furBits]
  | .wireRestored _ => [.mem, .out, .irqHeld, .q, .girth, .rFurrow, .rDio, .rGirth, .substate, .upd, .furBits]
  | .dioReqOn _ _ _ => [.mem, .resp, .out, .irqHeld, .q, .dio, .trl, .br, .rFurrow, .rDio, .rGateway, .upd, .furBits]
  | .dioClear _ _ => [.mem, .resp, .out, .irqHeld, .q, .dio, .br, .rFurrow, .rDio, .rGateway, .upd, .furBits]
  | .dioLimit _ => [.mem, .out, .irqHeld, .q, .dio, .rFurrow, .rDio, .upd, .furBits]
  | .dioTherm _ => [.mem, .out, .irqHeld, .q, .dio, .rFurrow, .rDio, .upd, .furBits]
  | .dioRetry _ => [.mem, .out, .irqHeld, .q, .dio, .rFurrow, .rDio, .upd, .furBits]
  | .dioReadbackFault _ => [.mem, .out, .irqHeld, .q, .girth, .rFurrow, .rDio, .rGirth, .substate, .upd, .furBits]
  | .dioOpenOn _ => [.mem, .out, .irqHeld, .q, .girth, .rFurrow, .rDio, .rGirth, .substate, .upd, .furBits]
  | .dioServiceOn _ _ _ => [.mem, .resp, .out, .irqHeld, .q, .dio, .br, .rFurrow, .rDio, .rGateway, .upd, .furBits]
  | .dioServiceExpiry _ => [.out, .dio, .rDio, .upd]
  | .fclChange _ => [.out, .dio, .rDio, .upd]
  | .canFrameRx _ _ _ _ =>
      [.mem, .free, .out, .irqHeld, .q, .girth, .ls, .lsKept0, .lsKept1, .dio, .pom, .can, .gw, .rFurrow, .rPommel, .rLs,
        .rDio, .rCan, .rGirth, .substate, .upd, .furBits]
  | .canTxbReq _ _ _ => [.mem, .resp, .out, .irqHeld, .q, .can, .br, .rFurrow, .rCan, .rGateway, .upd, .furBits]
  | .canTxbAbort _ _ _ => [.mem, .resp, .out, .irqHeld, .q, .can, .br, .rFurrow, .rCan, .rGateway, .upd, .furBits]
  | .canTxDone _ _ _ => [.mem, .out, .irqHeld, .q, .pt, .can, .ns, .gw, .rPlant, .rFurrow, .rCan, .upd, .furBits]
  | .canError _ _ _ _ => [.mem, .out, .irqHeld, .q, .can, .gw, .rFurrow, .rCan, .upd, .furBits]
  | .recover _ _ => [.mem, .resp, .out, .irqHeld, .q, .can, .br, .rFurrow, .rCan, .rGateway, .upd, .furBits]
  | .recoveryComplete _ => [.mem, .out, .irqHeld, .q, .can, .gw, .rFurrow, .rCan, .upd, .furBits]
  | .abortAll _ _ => [.mem, .resp, .out, .irqHeld, .q, .can, .br, .rFurrow, .rCan, .rGateway, .upd, .furBits]
  | .ttMiss _ _ => [.mem, .out, .irqHeld, .q, .can, .rFurrow, .rCan, .upd, .furBits]
  | .busDom _ _ => [.mem, .out, .irqHeld, .q, .rFurrow, .rCan, .upd, .furBits]
  | .selectiveWake _ _ _ =>
      Part.allBut [.objs, .objBytes, .settingsBytes, .now, .resp, .faults, .partner, .lsStag, .aon, .br, .ses, .jobSeq,
        .pending, .arb, .lsOver]
  | .roundStart => [.can, .ns, .rCan, .upd]
  | .tokenRx _ => [.out, .can, .ns, .rCan, .upd]
  | .commitRx _ => [.out, .can, .ns, .rCan, .upd]
  | .abortRx _ =>
      Part.allBut [.objs, .objBytes, .settingsBytes, .now, .resp, .faults, .partner, .lsStag, .aon, .br, .ses, .jobSeq,
        .pending, .arb, .lsOver]
  | .wakeRx _ =>
      Part.allBut [.objs, .objBytes, .settingsBytes, .now, .resp, .faults, .partner, .lsStag, .aon, .br, .ses, .jobSeq,
        .pending, .arb, .lsOver]
  | .roundTmo => [.out, .can, .ns, .rCan, .upd]
  | .commitWindowEnd =>
      [.mode, .mem, .out, .irqHeld, .q, .girth, .ls, .lsKept0, .lsKept1, .dio, .str, .can, .ns, .clo, .rFurrow, .rPommel,
        .rLs, .rStirrup, .rDio, .rCan, .rCloche, .rGirth, .substate, .upd, .furBits]
  | .wakeLineLow _ =>
      Part.allBut [.objs, .objBytes, .settingsBytes, .now, .resp, .faults, .partner, .lsStag, .aon, .br, .ses, .jobSeq,
        .pending, .arb, .lsOver]
  | .wakeLineHigh => [.out, .can, .ns, .rCan, .upd]
  | .pulse _ => [.mem, .resp, .out, .irqHeld, .q, .can, .ns, .br, .rFurrow, .rCan, .rGateway, .upd, .furBits]
  | .wakeframe _ => [.mem, .resp, .out, .irqHeld, .q, .can, .ns, .br, .rFurrow, .rCan, .rGateway, .upd, .furBits]
  | .wakePulseEnd => [.out, .can, .ns, .rCan, .upd]
  | .bridleRead _ _ _ _ _ => Part.allBut [.now, .jobSeq, .pending, .lsOver]
  | .bridleNonpostedWrite _ _ _ _ _ _ => Part.allBut [.now, .jobSeq, .pending, .lsOver]
  | .bridlePostedWrite _ _ _ _ _ _ _ => Part.allBut [.now, .jobSeq, .pending, .lsOver]
  | .rspTimeout _ => [.resp, .br, .rGateway, .rBridle, .upd]
  | .retryRx _ => [.resp, .br, .rGateway, .rBridle, .upd]
  | .xlInboundRequest _ _ _ _ _ _ _ _ _ => Part.allBut [.now, .jobSeq, .pending, .lsOver]
  | .failureNoticeRx _ _ => [.mem, .out, .irqHeld, .q, .can, .br, .ses, .rFurrow, .rCan, .rGateway, .upd, .furBits]
  | .xlLinkLoss =>
      Part.allBut [.objs, .objBytes, .settings, .settingsBytes, .now, .free, .faults, .partner, .lsStag, .str, .pom, .pt,
        .aon, .lat, .msr, .cap, .gw, .retain, .jobSeq, .pending, .rPlant, .rLatigo, .rMsr, .rPommel, .rStirrup, .rEth,
        .rGraft, .rIdent, .arb, .lsOver]
  | .fenceGo _ _ => [.mem, .resp, .out, .irqHeld, .q, .can, .br, .ses, .rFurrow, .rCan, .rGateway, .upd, .furBits]
  | .fenceComplete _ => [.mem, .out, .irqHeld, .q, .can, .br, .ses, .rFurrow, .rCan, .rGateway, .upd, .furBits]
  | .stitchFence _ _ _ _ _ => [.mem, .out, .irqHeld, .q, .can, .br, .ses, .rFurrow, .rCan, .rGateway, .upd, .furBits]
  | .gwCommit _ => [.mem, .resp, .out, .irqHeld, .q, .gw, .br, .rFurrow, .rGateway, .upd, .furBits]
  | .gwTableActivate => [.gw, .rGateway, .upd]
  | .gwPeriodExpiry _ => [.can, .gw, .rCan, .upd]
  | .gwInhibitEnd _ => [.can, .gw, .rCan, .upd]
  | .gwSourceTimeout _ => [.can, .gw, .rCan, .upd]
  | .openSession _ _ _ => [.objs, .free, .out, .can, .ses, .rCan, .upd]
  | .read _ _ => Part.allBut [.now, .pending, .lsOver]
  | .write _ _ _ => Part.allBut [.now, .pending, .lsOver]
  | .nop _ _ => Part.allBut [.now, .pending, .lsOver]
  | .close _ => [.objs, .out, .can, .ses, .rCan, .upd]
  | .clearModeRequest _ _ _ _ _ => Part.allBut [.now, .pending, .lsOver]
  | .sessionIdleTimeout _ => [.ses]
  | .assemblyTimeout _ => [.ses]
  | .snapshotTimeout _ => [.ses]
  | .canSegmentRx _ _ _ => [.objs, .can, .ses, .rCan, .upd]
  | .segmentTimeout _ _ _ => [.ses]
  | .localRequest _ _ _ => Part.allBut [.now, .pending, .lsOver]
  | .plotAnswerRx _ => [.mem, .out, .irqHeld, .q, .can, .ses, .rFurrow, .rCan, .upd, .furBits]
  | .forwardTimeout _ => [.mem, .out, .irqHeld, .q, .can, .ses, .rFurrow, .rCan, .upd, .furBits]
  | .settingsStore => [.settings, .settingsBytes, .ses]
  | .settingsDefaults _ => [.resp, .ses]
  | .jobKindWrite _ _ _ => [.resp, .jobs]
  | .start _ _ _ _ =>
      [.mem, .resp, .out, .irqHeld, .q, .girth, .trl, .til, .can, .ns, .pc, .clo, .grf, .jobs, .jobSeq, .rTrellis,
        .rFurrow, .rTilth, .rCan, .rPlots, .rCloche, .rGirth, .rGraft, .substate, .upd, .furBits]
  | .suspend _ _ => [.mem, .resp, .out, .irqHeld, .q, .til, .jobs, .rFurrow, .rTilth, .upd, .furBits]
  | .resume _ _ =>
      [.mem, .resp, .out, .irqHeld, .q, .girth, .trl, .til, .can, .ns, .pc, .clo, .grf, .jobs, .jobSeq, .rTrellis,
        .rFurrow, .rTilth, .rCan, .rPlots, .rCloche, .rGirth, .rGraft, .substate, .upd, .furBits]
  | .cancel _ _ =>
      [.mem, .resp, .out, .irqHeld, .q, .girth, .trl, .til, .pc, .clo, .grf, .jobs, .rTrellis, .rFurrow, .rTilth, .rPlots,
        .rCloche, .rGirth, .substate, .upd, .furBits]
  | .jobDequeue _ =>
      [.mem, .out, .irqHeld, .q, .girth, .trl, .til, .can, .ns, .pc, .clo, .grf, .jobs, .rTrellis, .rFurrow, .rTilth,
        .rCan, .rPlots, .rCloche, .rGirth, .rGraft, .substate, .upd, .furBits]
  | .jobDone _ _ =>
      Part.allBut [.mode, .objBytes, .now, .free, .resp, .partner, .lsStag, .str, .pt, .aon, .lat, .msr, .cap, .ns, .gw,
        .br, .retain, .jobSeq, .pending, .arb, .lsOver]
  | .jobFailed _ _ _ =>
      [.mem, .out, .faults, .irqHeld, .q, .girth, .ls, .lsKept0, .lsKept1, .dio, .pom, .trl, .til, .can, .pc, .clo, .grf,
        .jobs, .rTrellis, .rFurrow, .rTilth, .rPommel, .rLs, .rDio, .rCan, .rPlots, .rCloche, .rGirth, .substate, .upd,
        .furBits]
  | .plotTablesCommit _ =>
      Part.allBut [.mode, .objs, .objBytes, .settings, .settingsBytes, .now, .free, .faults, .partner, .lsStag, .str, .pom,
        .trl, .pt, .aon, .lat, .msr, .cap, .til, .can, .ns, .gw, .ses, .clo, .grf, .retain, .jobs, .jobSeq, .pending, .arb,
        .lsOver]
  | .windowBoundary _ _ => [.out, .girth, .pc, .rPlots, .rGirth, .substate, .upd]
  | .accessViolation _ _ _ =>
      Part.allBut [.mode, .objs, .objBytes, .settings, .settingsBytes, .now, .free, .partner, .lsStag, .str, .pom, .pt,
        .aon, .lat, .msr, .cap, .ns, .gw, .retain, .jobSeq, .pending, .rPlant, .rLatigo, .rMsr, .rPommel, .rStirrup, .rEth,
        .rGraft, .rIdent, .arb, .lsOver]
  | .pcWdogKick _ _ _ => [.mem, .resp, .out, .irqHeld, .q, .br, .pc, .rFurrow, .rGateway, .upd, .furBits]
  | .plotWdogExpiry _ =>
      Part.allBut [.mode, .objs, .objBytes, .settings, .settingsBytes, .now, .free, .resp, .partner, .lsStag, .str, .pom,
        .pt, .aon, .lat, .msr, .cap, .ns, .gw, .retain, .jobSeq, .pending, .rPlant, .rLatigo, .rMsr, .rPommel, .rStirrup,
        .rEth, .rGraft, .rIdent, .arb, .lsOver]
  | .plotStart _ _ =>
      Part.allBut [.mode, .objs, .objBytes, .settings, .settingsBytes, .now, .free, .partner, .lsStag, .str, .pom, .pt,
        .aon, .lat, .msr, .cap, .ns, .gw, .retain, .jobSeq, .pending, .rPlant, .rLatigo, .rMsr, .rPommel, .rStirrup, .rEth,
        .rGraft, .rIdent, .arb, .lsOver]
  | .plotStop _ _ =>
      Part.allBut [.mode, .objs, .objBytes, .settings, .settingsBytes, .now, .free, .partner, .lsStag, .str, .pom, .pt,
        .aon, .lat, .msr, .cap, .ns, .gw, .retain, .jobSeq, .pending, .rPlant, .rLatigo, .rMsr, .rPommel, .rStirrup, .rEth,
        .rGraft, .rIdent, .arb, .lsOver]
  | .plotReset _ _ =>
      Part.allBut [.mode, .objs, .objBytes, .settings, .settingsBytes, .now, .free, .partner, .lsStag, .str, .pom, .pt,
        .aon, .lat, .msr, .cap, .ns, .gw, .retain, .jobSeq, .pending, .rPlant, .rLatigo, .rMsr, .rPommel, .rStirrup, .rEth,
        .rGraft, .rIdent, .arb, .lsOver]
  | .resetDrainDone _ => Part.registers ++ [.mem, .out, .irqHeld, .q, .girth, .can, .br, .ses, .pc, .furBits]
  | .freeze _ _ =>
      Part.allBut [.mode, .objs, .objBytes, .settings, .settingsBytes, .now, .free, .partner, .lsStag, .str, .pom, .pt,
        .aon, .lat, .msr, .cap, .ns, .gw, .retain, .jobSeq, .pending, .rPlant, .rLatigo, .rMsr, .rPommel, .rStirrup, .rEth,
        .rGraft, .rIdent, .arb, .lsOver]
  | .freezeDone _ =>
      [.mem, .free, .out, .irqHeld, .q, .girth, .trl, .til, .can, .br, .ses, .pc, .clo, .grf, .jobs, .rTrellis, .rFurrow,
        .rTilth, .rCan, .rGateway, .rPlots, .rCloche, .rGirth, .substate, .upd, .furBits]
  | .thaw _ _ =>
      Part.allBut [.mode, .objs, .objBytes, .settings, .settingsBytes, .now, .free, .partner, .lsStag, .str, .pom, .pt,
        .aon, .lat, .msr, .cap, .ns, .gw, .retain, .jobSeq, .pending, .rPlant, .rLatigo, .rMsr, .rPommel, .rStirrup, .rEth,
        .rGraft, .rIdent, .arb, .lsOver]
  | .checkpoint _ _ =>
      Part.allBut [.mode, .objs, .objBytes, .settings, .settingsBytes, .now, .free, .partner, .lsStag, .str, .pom, .pt,
        .aon, .lat, .msr, .cap, .ns, .gw, .retain, .jobSeq, .pending, .rPlant, .rLatigo, .rMsr, .rPommel, .rStirrup, .rEth,
        .rGraft, .rIdent, .arb, .lsOver]
  | .checkpointTimer _ =>
      [.mem, .out, .irqHeld, .q, .girth, .trl, .til, .pc, .clo, .grf, .jobs, .rTrellis, .rFurrow, .rTilth, .rPlots,
        .rCloche, .rGirth, .substate, .upd, .furBits]
  | .imageRestore _ _ =>
      Part.allBut [.mode, .objs, .objBytes, .settings, .settingsBytes, .now, .free, .resp, .faults, .partner, .lsStag,
        .str, .pom, .pt, .aon, .lat, .msr, .cap, .ns, .gw, .br, .ses, .retain, .jobSeq, .pending, .arb, .lsOver]
  | .migrateConfirmRx _ _ =>
      [.mode, .mem, .out, .irqHeld, .q, .girth, .ls, .lsKept0, .lsKept1, .dio, .trl, .til, .can, .ns, .ses, .pc, .clo,
        .grf, .jobs, .rTrellis, .rFurrow, .rTilth, .rLs, .rStirrup, .rDio, .rCan, .rPlots, .rCloche, .rGirth, .substate,
        .upd, .furBits]
  | .tamperDetect _ _ =>
      Part.allBut [.objs, .objBytes, .settings, .settingsBytes, .now, .resp, .faults, .partner, .lsStag, .aon, .br, .grf,
        .jobSeq, .pending, .arb, .lsOver]
  | .tamperEraseDone => [.clo, .rCloche, .rIdent, .upd]
  | .lifecycleMessage _ _ _ => Part.allBut [.now, .faults, .lsStag, .jobSeq, .pending, .lsOver]
  | .provision _ _ => Part.allBut [.now, .faults, .lsStag, .jobSeq, .pending, .lsOver]
  | .debugToken _ _ =>
      Part.allBut [.objs, .objBytes, .settings, .settingsBytes, .now, .faults, .partner, .lsStag, .aon, .br, .grf, .jobSeq,
        .pending, .arb, .lsOver]
  | .awlOpen =>
      Part.allBut [.objs, .objBytes, .settings, .settingsBytes, .now, .faults, .partner, .lsStag, .aon, .br, .grf, .jobSeq,
        .pending, .arb, .lsOver]
  | .debugClose _ => Part.allBut [.now, .faults, .lsStag, .jobSeq, .pending, .lsOver]
  | .tokenExpiry => [.clo, .rCloche, .upd]
  | .counterIncrement _ _ =>
      [.mem, .resp, .out, .irqHeld, .q, .br, .clo, .rFurrow, .rGateway, .rCloche, .upd, .furBits]
  | .graftBlockWrite _ _ => [.mem, .resp, .out, .irqHeld, .q, .grf, .jobs, .rFurrow, .rTilth, .rGraft, .upd, .furBits]
  | .svcBlock _ _ => [.mem, .out, .irqHeld, .q, .grf, .jobs, .rFurrow, .rTilth, .rGraft, .upd, .furBits]
  | .bankEraseDone _ => [.mem, .out, .irqHeld, .q, .grf, .jobs, .rFurrow, .rTilth, .rGraft, .upd, .furBits]
  | .activationProceed _ => Part.allBut [.now, .faults, .lsStag, .jobSeq, .pending, .lsOver]
  | .xlLinkTrained =>
      Part.allBut [.objs, .objBytes, .settings, .settingsBytes, .now, .free, .faults, .partner, .lsStag, .str, .pom, .pt,
        .aon, .lat, .msr, .cap, .gw, .retain, .jobSeq, .pending, .rPlant, .rLatigo, .rMsr, .rPommel, .rStirrup, .rEth,
        .rGraft, .rIdent, .arb, .lsOver]
  | .ethLinkUp _ => [.girth, .rGirth, .rEth, .substate, .upd]
  | .ethLinkDown _ => [.rEth, .upd]
  | .canBusIntegrate _ => [.rCan, .upd]
  | .dioRawTransition _ _ => [.dio, .rDio, .upd]
  | .rcFieldRead _ _ => Part.allBut [.now, .jobSeq, .pending, .lsOver]
  | .dioEdgeCycRead _ => [.resp, .rDio, .upd]
  | .latControlWindow => [.out, .lat]
  | .xlResponseRx _ _ _ => [.resp, .br, .rGateway, .rBridle, .upd]
  | .xlPostedAckRx _ => [.mem, .out, .irqHeld, .q, .can, .br, .ses, .rFurrow, .rCan, .rGateway, .upd, .furBits]
  | .checkpointRx _ _ _ => [.pc, .rPlots, .upd]
  | .mirrorResetRx _ => [.pom]
  | .dormancyEntryComplete =>
      Part.allBut [.mode, .objs, .objBytes, .now, .free, .resp, .faults, .ls, .lsStag, .lsKept0, .lsKept1, .str, .clo,
        .grf, .jobs, .jobSeq, .pending, .lsOver]
  | .shutdownComplete => Part.all
  | .stitchAddressApply _ => [.ses]
  | .svcVbusChange _ _ =>
      Part.allBut [.objs, .objBytes, .settingsBytes, .now, .resp, .faults, .partner, .lsStag, .aon, .br, .ses, .jobSeq,
        .pending, .arb, .lsOver]

end Sys2Proof
end

