-- ==== Sys2Proof/Certificates/Slice0/Obligations.lean ====
section
/-! DEFINITION. The statements for the provers: what each family of commands does, what it leaves alone, where it is refused,
and the invariants that every step keeps. -/

open Sys2Proof Sys2Proof.Machine

/-- VIN power-on, where VIN was absent, gives every register field its reset value, empties memory, the dictionary
values, the queues of Furrow and the job table, and keeps the settings area, the fuses, the journal, the counters and
the tamper log of Cloche and the waiting commands. A power-fail warning sets VIN_PF, clears HOLDUP_OK, lowers SLS_ARM
and the SAFE-LS switches, takes every rail out of its window, and leaves VIN absent, the outputs off and a shutdown
running; where HOLDUP_OK was set its record goes to flash. The end of a shutdown with VIN still present leaves SEATING
with cause 0x01 and PRES clear, keeps the energy counters and the settings area, and every register field outside the
windows of Girth and Stirrup is at its reset value. The path switch closes with PRES asserted and changes nothing else;
HOLDUP_OK sets only while it is closed, and with it the trip latches not yet copied go to flash. A rail's WARN bit
follows its warning window, and no other register changes. -/
def Obligations.SupplyEvents : Prop :=
  (∀ s, s.girth.vin = false → Ends .vinPowerOn s fun t =>
    (∀ f, t.rd f = f.rst) ∧ t.mem = [] ∧ t.objs = [] ∧ t.objBytes = [] ∧ t.q = [] ∧ t.jobs = [] ∧ t.girth = {} ∧
      t.settings = s.settings ∧ t.settingsBytes = s.settingsBytes ∧ t.clo.fuses = s.clo.fuses ∧
      t.clo.journal = s.clo.journal ∧ t.clo.ctrs = s.clo.ctrs ∧ t.clo.log = s.clo.log ∧ t.pending = s.pending) ∧
  (∀ s, s.girth.vin = true → Ends .powerFailWarning s fun t =>
    t.rd F.RAIL_FLT_VIN_PF = 1 ∧ t.rd F.RAIL_STAT_HOLDUP_OK = 0 ∧ t.rd F.POM_STAT_ARM = 0 ∧ t.rd F.POM_STAT_SLS_ON = 0 ∧
      t.rd F.RAIL_STAT_IN_WIN = 0 ∧ t.girth.vin = false ∧ t.girth.outOff = true ∧ t.girth.shutdown = true ∧
      t.grf.pfail = if flashOk s then s.grf.pfail ++ [s.stamp] else s.grf.pfail) ∧
  (∀ s, s.girth.shutdown = true → Ends .shutdownComplete s fun t =>
    t.mode = mSEATING ∧ t.rd F.GIRTH_MODE_CAUSE = 0x01 ∧ t.rd F.SEAT_STAT_PRES = 0 ∧ t.girth.shutdown = false ∧
      t.girth.energy = s.girth.energy ∧ t.settings = s.settings ∧ t.settingsBytes = s.settingsBytes ∧
      (∀ f : Field, f.key / (32 * 0x100000) ≠ 0x208 → f.key / (32 * 0x100000) ≠ 0x20E → t.rd f = f.rst)) ∧
  (∀ s, alive s = true → s.rd F.SEAT_STAT_PRES = 1 → exec .vinPathClose s =
    .next { s with girth := { s.girth with vinPath := true } }) ∧
  (∀ s, alive s = true → s.girth.vinPath = true → Ends .holdupOk s fun t =>
    t.rd F.RAIL_STAT_HOLDUP_OK = 1 ∧ t.pom = { s.pom with saved := s.pom.latches } ∧ s.RegsBut t [F.RAIL_STAT_HOLDUP_OK]) ∧
  (∀ s, s.girth.vinPath = false → exec .holdupOk s = .next s) ∧
  (∀ s r b, alive s = true → Ends (.railWarn r b) s fun t =>
    t.bit F.RAIL_STAT_WARN r = b ∧ (∀ k, k < 6 → k ≠ r.val → t.bit F.RAIL_STAT_WARN k = s.bit F.RAIL_STAT_WARN k) ∧
      s.OnlyRegs t [F.RAIL_STAT_WARN])

/-- FEED_UNDERVOLTAGE on feed 0 (VLA) or 1 (VLB) sets the feed's undervoltage flag, and in the state it leaves the
conditions of a switch-on fail for every one of the feed's twelve channels (LS0-LS11 on VLA, LS12-LS23 on VLB).
FEED_RESTORED ends the undervoltage of that feed alone; the latched flag stays. -/
def Obligations.FeedUndervoltageForbids : Prop :=
  (∀ s k, alive s = true → Ends (.feedUndervoltage k) s fun t =>
    t.rd (if k = 0 then F.RAIL_FLT_VLA_UV else F.RAIL_FLT_VLB_UV) = 1 ∧
      t.girth.feedLow = s.girth.feedLow ||| (if k = 0 then 1 else 2) ∧
      ∀ n, n < 12 → lsCondOk t (12 * k.val + n) = false) ∧
  (∀ s k, alive s = true → Ends (.feedRestored k) s fun t =>
    t.girth.feedLow = s.girth.feedLow &&& (if k = 0 then 2 else 1) ∧
      t.rd F.RAIL_FLT_VLA_UV = s.rd F.RAIL_FLT_VLA_UV ∧ t.rd F.RAIL_FLT_VLB_UV = s.rd F.RAIL_FLT_VLB_UV)

/-- From a mode that Table 3-5 lets enter HOLD: a rail fault sets its OV or UV bit, clears the rail's IN_WIN bit and
records 0x0601 with the rail, and HOLD follows with cause 0x08; a clock fault other than of a SerDes PLL sets its
CLK_FLT bit (RC16_FLT for RC16) and records 0x0602 with the clock, and HOLD follows with cause 0x11; an AC0 supervisor
fault, CORE not being in reset, enters HOLD with cause 0x09, and a BOOT that has run for 3 s with cause 0x10.
GIRTH_MODE records the mode left. A fault of VDD_AON, the crystal, RC16 or the SAFE PLL makes the next restart cold. -/
def Obligations.HoldEntry : Prop :=
  (∀ s r high, alive s = true → canHold s.mode = true → Ends (.railFault r high) s fun t =>
    t.mode = mHOLD ∧ t.rd F.GIRTH_MODE_PREV_MODE = s.mode ∧ t.rd F.GIRTH_MODE_CAUSE = 0x08 ∧
      t.bit (if high then F.RAIL_FLT_OV else F.RAIL_FLT_UV) r = true ∧ t.bit F.RAIL_STAT_IN_WIN r = false ∧
      s.faults ++ [⟨0x0601, r, s.stamp⟩] <+: t.faults ∧ (r = 0 → t.girth.coldNext = true)) ∧
  (∀ s c link, alive s = true → canHold s.mode = true → c ≠ 5 → Ends (.clockFault c link) s fun t =>
    t.mode = mHOLD ∧ t.rd F.GIRTH_MODE_PREV_MODE = s.mode ∧ t.rd F.GIRTH_MODE_CAUSE = 0x11 ∧
      (if c = 6 then t.rd F.CLK_FLT_RC16_FLT = 1 else t.bit F.CLK_FLT_FLT c = true) ∧
      s.faults ++ [⟨0x0602, c, s.stamp⟩] <+: t.faults ∧ (c = 0 ∨ c = 2 ∨ c = 6 → t.girth.coldNext = true)) ∧
  (∀ s, alive s = true → canHold s.mode = true → s.girth.coreReset = false → Ends .ac0SupervisorFault s fun t =>
    t.mode = mHOLD ∧ t.rd F.GIRTH_MODE_PREV_MODE = s.mode ∧ t.rd F.GIRTH_MODE_CAUSE = 0x09) ∧
  (∀ s, alive s = true → s.mode = mBOOT → modeFor s 240000000 = true → Ends .bootTimeout s fun t =>
    t.mode = mHOLD ∧ t.rd F.GIRTH_MODE_PREV_MODE = mBOOT ∧ t.rd F.GIRTH_MODE_CAUSE = 0x10)

/-- A SerDes PLL fault sets its CLK_FLT bit; where it concerns an Ethernet port, the port's link goes down, 0x0602 is
recorded and the mode stays. A die-to-die link loss records 0x0606, sets RST_CAUSE.PD1 and leaves PD1 lost; the mode
stays. A handshake timeout of a block's crossing clears XING_STAT.SERVICE, records 0x0605 with the block and keeps the
block busy, its crossing failed; one of the crossing to the SAFE domain (log entry 25) records 0x0605 with 14 and
leaves that crossing failed; both count in TMO_CNT, which stays at its largest value (log entry 6), and change no other
register. BLK_RST from the supervisor is answered 0, makes the blocks of its bits busy and, where it names any, clears
SERVICE; from anyone else it is answered 0x0207 and changes nothing else. A block's release clears its BUSY bit, CORE
being out of reset, unless its crossing has met its timeout: then nothing changes. -/
def Obligations.LinkAndBlockFaults : Prop :=
  (∀ s p, alive s = true → Ends (.clockFault 5 p) s fun t =>
    t.bit F.CLK_FLT_FLT 5 = true ∧ (p ≠ 2 → t.mode = s.mode ∧ t.rd (F.ETH_STAT_LINK p) = 0 ∧
      t.faults = s.faults ++ [⟨0x0602, 5, s.stamp⟩])) ∧
  (∀ s, alive s = true → Ends .d2dLinkLoss s fun t =>
    t.faults = s.faults ++ [⟨0x0606, 1, s.stamp⟩] ∧ t.rd F.RST_CAUSE_PD1 = 1 ∧ t.str.pd1Lost = true ∧ t.mode = s.mode) ∧
  (∀ s b, alive s = true → Ends (.handshakeTimeout b) s fun t =>
    t.rd F.XING_STAT_TMO_CNT = min (s.rd F.XING_STAT_TMO_CNT + 1) (2 ^ F.XING_STAT_TMO_CNT.w - 1) ∧ t.rd F.XING_STAT_SERVICE = 0 ∧
      (match b with
        | some k => t.faults = s.faults ++ [⟨0x0605, k, s.stamp⟩] ∧ t.bit F.BLK_RST_STAT_BUSY k = true ∧ t.girth.xFail.getLsbD k = true
        | none => t.faults = s.faults ++ [⟨0x0605, 14, s.stamp⟩] ∧ t.girth.domFail = true) ∧
      s.RegsBut t [F.XING_STAT_TMO_CNT, F.XING_STAT_SERVICE, F.BLK_RST_STAT_BUSY]) ∧
  (∀ s rst, Ends (.blkRst .supervisor rst) s fun t => t.resp = ⟨0, 0⟩ ∧
    (∀ b, b < 14 → rst.getLsbD b = true → t.bit F.BLK_RST_STAT_BUSY b = true) ∧ (rst ≠ 0 → t.rd F.XING_STAT_SERVICE = 0)) ∧
  (∀ s r rst, r ≠ .supervisor → exec (.blkRst r rst) s = .next (s.status 0x0207)) ∧
  (∀ s b, s.bit F.BLK_RST_STAT_BUSY b = true → s.girth.coreReset = false → s.girth.xFail.getLsbD b = false →
    Ends (.blkResetRelease b) s fun t => t.bit F.BLK_RST_STAT_BUSY b = false ∧
      s.OnlyRegs t [F.BLK_RST_STAT_BUSY, F.XING_STAT_SERVICE]) ∧
  (∀ s b, s.girth.xFail.getLsbD b = true → exec (.blkResetRelease b) s = .next s)

/-- In SEATING the first presence sets PRES and both position bits and latches SIDE and SLOT, and no other register
changes; in another mode, or with PRES set, nothing changes. The external sense latches LS_EXT_MAP once, with PRES set.
SEATING ends, with PRES set and SIDE and SLOT read, in a cold BOOT with cause 0x02. Presence lost in SEATING clears
PRES and the position's bit and forgets that SIDE and SLOT were read; after the seating it shuts the module down. A
change of the seating pins after SEATING sets SEAT_CHANGE and records 0x0609, and no other register changes. -/
def Obligations.Seating : Prop :=
  (∀ s side slot, alive s = true → s.mode = mSEATING → s.rd F.SEAT_STAT_PRES = 0 → Ends (.presNAssert side slot) s fun t =>
    t.rd F.SEAT_STAT_PRES = 1 ∧ t.rd F.SEAT_STAT_PRES_J1 = 1 ∧ t.rd F.SEAT_STAT_PRES_J2 = 1 ∧
      t.rd F.SEAT_STAT_SIDE = side.toNat ∧ t.rd F.SEAT_STAT_SLOT = slot ∧ t.girth = { s.girth with seatRead := true } ∧
      s.RegsBut t [F.SEAT_STAT_PRES, F.SEAT_STAT_PRES_J1, F.SEAT_STAT_PRES_J2, F.SEAT_STAT_SIDE, F.SEAT_STAT_SLOT]) ∧
  (∀ s side slot, s.mode ≠ mSEATING ∨ s.rd F.SEAT_STAT_PRES = 1 → exec (.presNAssert side slot) s = .next s) ∧
  (∀ s map, alive s = true → s.mode = mSEATING → s.rd F.SEAT_STAT_PRES = 1 → s.girth.extSensed = false →
    Ends (.lsExtSense map) s fun t => t.rd F.LS_EXT_MAP_EXT = map.toNat ∧ t.girth = { s.girth with extSensed := true } ∧
      s.RegsBut t [F.LS_EXT_MAP_EXT]) ∧
  (∀ s map, s.girth.extSensed = true → exec (.lsExtSense map) s = .next s) ∧
  (∀ s e, alive s = true → s.mode = mSEATING → s.rd F.SEAT_STAT_PRES = 1 → s.girth.seatRead = true →
    exec (.seatingEnd e) s = .next (bootRom (setMode (startReset s true) mBOOT 0x02) true e.boot)) ∧
  (∀ s j2, alive s = true → s.mode = mSEATING → Ends (.presNDeassert j2) s fun t =>
    t.rd F.SEAT_STAT_PRES = 0 ∧ t.rd (if j2 then F.SEAT_STAT_PRES_J2 else F.SEAT_STAT_PRES_J1) = 0 ∧
      t.girth = { s.girth with seatRead := false, extSensed := false, vinPath := false } ∧
      s.RegsBut t [F.SEAT_STAT_PRES, F.SEAT_STAT_PRES_J1, F.SEAT_STAT_PRES_J2]) ∧
  (∀ s, alive s = true → s.mode ≠ mSEATING →
    exec (.presNDeassert true) s = .next (shutdown ((s.wr F.SEAT_STAT_PRES_J2 0).wr F.SEAT_STAT_PRES 0)) ∧
    exec (.presNDeassert false) s = .next (shutdown ((s.wr F.SEAT_STAT_PRES_J1 0).wr F.SEAT_STAT_PRES 0))) ∧
  (∀ s, alive s = true → s.mode ≠ mSEATING → Ends .seatChange s fun t =>
    t.rd F.SEAT_STAT_SEAT_CHANGE = 1 ∧ t.faults = s.faults ++ [⟨0x0609, 0, s.stamp⟩] ∧ s.RegsBut t [F.SEAT_STAT_SEAT_CHANGE])

/-- A raised lever sets SEAT_STAT.EJECT; it takes RUN and SERVICE into HANDOFF and wakes DORMANCY, and in another mode
nothing else changes. A lowered lever clears EJECT; a handoff that has reached EXTRACT_OK then ends in RUN, or in
SERVICE where the lifecycle state allows no RUN, with cause 0x0D, and one that has not goes on. In a handoff that owns
no channel and masters no ring, with SLS_ARM low, the SAFE-LS switches open. A handoff that has lasted HANDOFF_TMO
without EXTRACT_OK records 0x0407 and returns to the same mode with cause 0x0E; before that time nothing happens.
SLS_ARM rises in RUN, SERVICE and HOLD with all four switches closed and no span mismatch. Opening the switches and
raising SLS_ARM change no register but theirs, EXTRACT_OK and the substate. -/
def Obligations.LeverAndHandoff : Prop :=
  (∀ s ok, alive s = true → s.mode = mRUN ∨ s.mode = mSERVICE →
    exec (.ejectNAssert ok) s = .next (handoffEnter (s.wr F.SEAT_STAT_EJECT 1) true)) ∧
  (∀ s ok, alive s = true → s.mode = mDORMANCY → exec (.ejectNAssert ok) s = .next (wake (s.wr F.SEAT_STAT_EJECT 1) 4 ok)) ∧
  (∀ s ok, alive s = true → s.mode ≠ mRUN → s.mode ≠ mSERVICE → s.mode ≠ mDORMANCY → Ends (.ejectNAssert ok) s fun t =>
    t.rd F.SEAT_STAT_EJECT = 1 ∧ s.OnlyRegs t [F.SEAT_STAT_EJECT]) ∧
  (∀ s, alive s = true → s.mode = mHANDOFF → extractOk s = true → Ends .ejectNDeassert s fun t =>
    t.mode = handoffReturn s ∧ t.rd F.GIRTH_MODE_CAUSE = 0x0D ∧ t.rd F.GIRTH_MODE_PREV_MODE = mHANDOFF ∧ t.rd F.SEAT_STAT_EJECT = 0) ∧
  (∀ s, alive s = true → s.mode = mHANDOFF → extractOk s = false → Ends .ejectNDeassert s fun t =>
    t.rd F.SEAT_STAT_EJECT = 0 ∧ s.OnlyRegs t [F.SEAT_STAT_EJECT]) ∧
  (∀ s, s.mode = mHANDOFF → ownsNone s = true → ringsMastered s = 0 → s.rd F.POM_STAT_ARM = 0 → Ends .handoffSafeLsOpen s fun t =>
    t.rd F.POM_STAT_SLS_ON = 0 ∧ s.OnlyRegs t [F.POM_STAT_SLS_ON, F.SEAT_STAT_EXTRACT_OK, F.GIRTH_MODE_SUBSTATE]) ∧
  (∀ s, s.mode = mHANDOFF → modeFor s (handoffTmo s) = true → extractOk s = false → Ends .handoffTimeout s fun t =>
    t.mode = handoffReturn s ∧ t.rd F.GIRTH_MODE_CAUSE = 0x0E ∧ t.rd F.GIRTH_MODE_PREV_MODE = mHANDOFF ∧
      t.faults = s.faults ++ [⟨0x0407, 0, s.stamp⟩]) ∧
  (∀ s, modeFor s (handoffTmo s) = false → exec .handoffTimeout s = .next s) ∧
  (∀ s, s.mode = mRUN ∨ s.mode = mSERVICE ∨ s.mode = mHOLD → s.rd F.POM_STAT_SLS_ON = 15 → s.girth.unpaired = false →
    Ends .slsArmRaise s fun t =>
      t.rd F.POM_STAT_ARM = 1 ∧ s.OnlyRegs t [F.POM_STAT_ARM, F.SEAT_STAT_EXTRACT_OK, F.GIRTH_MODE_SUBSTATE])

/-- BOOT completes with every block out of reset and no crossing failed: the module takes the state of the end of BOOT,
and goes on to HANDOFF where the lever is up; else the row changes nothing. In HOLD a restart is warm; it is cold when
the fault requires it or three warm restarts lie in the last 10 minutes; with three cold restarts in the last 10
minutes the module stays in HOLD with the outputs at fail-safe, until the retry, 60 s after the last restart, makes a
cold one. Each restart keeps the CAUSE. -/
def Obligations.Restarts : Prop :=
  (∀ s, alive s = true → s.mode = mBOOT → s.girth.coreReset = false → s.rd F.BLK_RST_STAT_BUSY = 0 →
    s.girth.domFail = false →
    exec .bootComplete s = .next (if (bootEnd s).rdB F.SEAT_STAT_EJECT then handoffEnter (bootEnd s) true else bootEnd s)) ∧
  (∀ s, s.mode ≠ mBOOT ∨ s.rd F.BLK_RST_STAT_BUSY ≠ 0 ∨ s.girth.domFail = true → exec .bootComplete s = .next s) ∧
  (∀ s e, alive s = true → s.mode = mHOLD → coldMany s = false → s.girth.coldNext = false →
    (recent s s.girth.warm).length < 3 → exec (.holdRestart e) s = .next (restart s false (s.rd F.GIRTH_MODE_CAUSE) e.boot)) ∧
  (∀ s e, alive s = true → s.mode = mHOLD → coldMany s = false → s.girth.coldNext = true ∨ 3 ≤ (recent s s.girth.warm).length →
    exec (.holdRestart e) s = .next (restart s true (s.rd F.GIRTH_MODE_CAUSE) e.boot)) ∧
  (∀ s e, alive s = true → s.mode = mHOLD → coldMany s = true → Ends (.holdRestart e) s fun t =>
    t = failsafeNow s ∧ t.mode = mHOLD) ∧
  (∀ s e, alive s = true → s.mode = mHOLD → coldMany s = true → (∀ k ∈ s.girth.cold, k + 4800000000 ≤ s.now) →
    exec (.coldRestartRetry e) s = .next (restart s true (s.rd F.GIRTH_MODE_CAUSE) e.boot)) ∧
  (∀ s e, coldMany s = false ∨ (∃ k ∈ s.girth.cold, s.now < k + 4800000000) → exec (.coldRestartRetry e) s = .next s)

/-- A refused mode request leaves every part of the state but the answer, which is the refusal's code, and FORCE. It is
refused with 0x0207 to anyone but the supervisor and Stitch; one for SERVICE from another mode than RUN is refused with
0x0303. An accepted request is answered 0: one for RUN in SERVICE enters RUN, one for SERVICE in RUN with STANDBY or
FORCE enters SERVICE and clears BOOT_SERVICE, both with cause 0x04 and the mode left in PREV_MODE; one for BOOT in RUN
or SERVICE is a warm start with cause 0x04, one for HANDOFF there starts the handoff; one for DORMANCY, network sleep
being off and the conditions of entry met, begins the entry with the SAFE-LS switches open and SLS_ARM low. -/
def Obligations.ModeRequests : Prop :=
  (∀ s r target force c e, modeRefusal s r target (force || s.girth.force) = some c →
    modeRequest s r target force e = State.status { s with girth := { s.girth with force := false } } c) ∧
  (∀ s r target f, r.supOrStitch = false → modeRefusal s r target f = some 0x0207) ∧
  (∀ s r f, r.supOrStitch = true → s.rd F.CLO_STAT_KEYS_SEALED = 0 → s.mode ≠ mRUN → modeRefusal s r mSERVICE f = some 0x0303) ∧
  (∀ s r e, r.supOrStitch = true → s.rd F.CLO_STAT_KEYS_SEALED = 0 → lcKeyed s = true → s.girth.shutdown = false →
    s.mode = mSERVICE → Ends (.modeReqRun r e) s fun t =>
      t.mode = mRUN ∧ t.rd F.GIRTH_MODE_PREV_MODE = mSERVICE ∧ t.rd F.GIRTH_MODE_CAUSE = 0x04 ∧ t.resp = ⟨0, 0⟩) ∧
  (∀ s r force e, r.supOrStitch = true → s.rd F.CLO_STAT_KEYS_SEALED = 0 → s.girth.shutdown = false → s.mode = mRUN →
    (s.rd F.GIRTH_MODE_SUBSTATE).testBit 0 = true ∨ force = true ∨ s.girth.force = true →
    Ends (.modeReqService r force e) s fun t =>
      t.mode = mSERVICE ∧ t.rd F.GIRTH_MODE_PREV_MODE = mRUN ∧ t.rd F.GIRTH_MODE_CAUSE = 0x04 ∧ t.resp = ⟨0, 0⟩ ∧
        t.rd F.MODE_REQ_BOOT_SERVICE = 0) ∧
  (∀ s r e, r.supOrStitch = true → s.girth.shutdown = false → s.mode = mRUN ∨ s.mode = mSERVICE →
    exec (.modeReqBoot r e) s = .next ((warmStart { s with girth := { s.girth with force := false } } 0x04 e.boot).status 0)) ∧
  (∀ s r e, r.supOrStitch = true → s.rd F.CLO_STAT_KEYS_SEALED = 0 → s.girth.shutdown = false →
    s.mode = mRUN ∨ s.mode = mSERVICE →
    exec (.modeReqHandoff r e) s = .next ((handoffEnter { s with girth := { s.girth with force := false } } false).status 0)) ∧
  (∀ s r e, r.supOrStitch = true → s.rd F.CLO_STAT_KEYS_SEALED = 0 → s.girth.shutdown = false →
    s.rd F.NS_CTL_EN = 0 → dormancyOk s = true → Ends (.modeReqDormancy r e) s fun t =>
      t.mode = mDORMANCY ∧ t.girth.dormEntry = true ∧ t.rd F.POM_STAT_SLS_ON = 0 ∧ t.rd F.POM_STAT_ARM = 0 ∧ t.resp = ⟨0, 0⟩)

/-- The entry completes by retaining the configuration of R92; the module stays in DORMANCY with the entry over and the
partner not heard. In DORMANCY the WAKE line, the timer DORM_TIMER seconds after the entry began, and VBUS appearing
wake the module where they are armed, and the raised lever always; each sets its WAKE_CAUSE bit. The WAKE line not
armed, and the timer in another mode or too early, change nothing; VBUS leaving changes only what is known of VBUS. A
wake that finds a retained image broken enters HOLD with cause 0x0A. -/
def Obligations.DormancyAndWake : Prop :=
  (∀ s, s.mode = mDORMANCY → s.girth.dormEntry = true → Ends .dormancyEntryComplete s fun t =>
    t.retain = some (retainOf s) ∧ t.girth.dormEntry = false ∧ t.partner.alive = false ∧ t.mode = mDORMANCY) ∧
  (∀ s, s.girth.dormEntry = false → exec .dormancyEntryComplete s = .next s) ∧
  (∀ s ok, s.mode = mDORMANCY → s.rd F.DORM_WAKE_EN_WAKE_LINE = 1 →
    exec (.wakeEvent .wakeLine ok) s = .next (wakeRun (s.setBit F.WAKE_CAUSE_CAUSE 0) ok)) ∧
  (∀ s ok, s.rd F.DORM_WAKE_EN_WAKE_LINE = 0 → exec (.wakeEvent .wakeLine ok) s = .next s) ∧
  (∀ s ok, alive s = true → s.mode = mDORMANCY →
    exec (.wakeEvent .eject ok) s = .next (wakeRun ((s.wr F.SEAT_STAT_EJECT 1).setBit F.WAKE_CAUSE_CAUSE 4) ok)) ∧
  (∀ s ok, s.mode = mDORMANCY → s.rd F.DORM_WAKE_EN_TIMER = 1 → modeFor s (80000000 * s.rd F.DORM_TIMER_SECONDS) = true →
    exec (.dormTimerExpiry ok) s = .next (wakeRun (s.setBit F.WAKE_CAUSE_CAUSE 3) ok)) ∧
  (∀ s ok, s.mode ≠ mDORMANCY ∨ modeFor s (80000000 * s.rd F.DORM_TIMER_SECONDS) = false → exec (.dormTimerExpiry ok) s = .next s) ∧
  (∀ s ok, s.grf.vbus = false → s.mode = mDORMANCY → s.rd F.DORM_WAKE_EN_SVC_VBUS = 1 → exec (.svcVbusChange true ok) s =
    .next (wakeRun (State.setBit { s with grf := { s.grf with vbus := true } } F.WAKE_CAUSE_CAUSE 5) ok)) ∧
  (∀ s ok, exec (.svcVbusChange false ok) s = .next { s with grf := { s.grf with vbus := false } }) ∧
  (∀ s, s.mode = mDORMANCY → s.girth.dormEntry = false → (wakeRun s false).mode = mHOLD ∧
    (wakeRun s false).rd F.GIRTH_MODE_CAUSE = 0x0A)

/-- The comparison of stamps is exactly that of R10. Of two different stamps at most one is later; the two whose cycles
lie 2^31 apart are the only different stamps of which neither is. -/
def Obligations.StampOrder : Prop :=
  (∀ x y : AStamp, x.later y = true ↔
    (let d := (x.cycle.toNat + 2 ^ 32 - y.cycle.toNat) % 2 ^ 32
     (1 ≤ d ∧ d ≤ 2 ^ 31 - 1) ∨ (d = 0 ∧ y.angle.toNat < x.angle.toNat))) ∧
  (∀ x y : AStamp, x.later y = true → y.later x = false) ∧
  (∀ x y : AStamp, x ≠ y → x.later y = false → y.later x = false → (x.cycle - y.cycle).toNat = 2 ^ 31)

/-- With VIN present ENERGY_INTEGRATE adds each domain's energy to its 64-bit counter, whose low word ENERGY_LO shows,
and shows the measured supplies (log entry 4); without VIN it changes nothing. A read of ENERGY_LO(b) answers the low
word and latches the high word of the same counter into ENERGY_HI(b), and no other register changes. ENERGY_CLR is
answered 0, zeroes the counters of its mask and leaves the others. -/
def Obligations.Energy : Prop :=
  (∀ s mj vin vla vlb p, s.girth.vin = true → Ends (.energyIntegrate mj vin vla vlb p) s fun t =>
    (∀ b, b < 13 → t.girth.energy.get b 0 = (s.girth.energy.get b 0 + (mj.getD b 0).toNat) % 2 ^ 64 ∧
      t.rd (F.ENERGY_LO_E_LO b) = (s.girth.energy.get b 0 + (mj.getD b 0).toNat) % 2 ^ 32) ∧
      t.rd F.VIN_MON_VIN = vin.toNat ∧ t.rd F.VL_MON_VLA = vla.toNat ∧ t.rd F.VL_MON_VLB = vlb.toNat ∧
      t.rd F.MOD_POWER_P = p.toNat) ∧
  (∀ s mj vin vla vlb p, s.girth.vin = false → exec (.energyIntegrate mj vin vla vlb p) s = .next s) ∧
  (∀ s (b : Fin 13), Ends (.energyLoRead b) s fun t =>
    t.resp = ⟨0, s.rd (F.ENERGY_LO_E_LO b)⟩ ∧ t.rd (F.ENERGY_HI_E_HI b) = s.girth.energy.get b 0 / 2 ^ 32 % 2 ^ 32 ∧
      s.RegsBut t [F.ENERGY_HI_E_HI b] ∧ t.girth = s.girth) ∧
  (∀ s mask, Ends (.energyClr mask) s fun t => t.resp = ⟨0, 0⟩ ∧
    ∀ b, b < 13 → t.girth.energy.get b 0 = (if mask.getLsbD b then 0 else s.girth.energy.get b 0) ∧
      t.rd (F.ENERGY_LO_E_LO b) = (if mask.getLsbD b then 0 else s.rd (F.ENERGY_LO_E_LO b)))

/-- An access to a block window of another width or alignment than a word is answered 0x0103, and only its issuer's
BR_LAST fields and no memory change. An access to no range of the address map is answered 0x0110. A write to the flash
window is answered 0x020A and changes neither memory nor a register. A word access to a window whose domain is in reset
is answered 0x0610, or 0 where it is a posted write. A well-formed access to a window in service reaches the register:
REGISTER_WRITE and RC_FIELD_READ do what the register's own write or read does, and end with its answer. A host write
leaves an RO, an RC and a WO field as it is and puts its value into an RW one, unless hardware has updated that field
in the same tick: then the field stays. It clears the bits written 1 of a W1C field that hardware has not set in the
same tick, and sets those of a W1S field; each of these changes no other field. The read of an RC field leaves 0, or
what hardware has added in the same tick, and then it answers the value before that. -/
def Obligations.AccessChecks : Prop :=
  (∀ s r op a size, isWindow a.toNat = true → size.bytes ≠ 4 ∨ a.toNat % 4 ≠ 0 → Ends (.misalignedAccess r op a size) s fun t =>
    t.resp = ⟨0x0103, 0⟩ ∧ t.mem = s.mem ∧
      s.RegsBut t r.last) ∧
  (∀ s r op a size, reservedRange a.toNat size.bytes = true → Ends (.reservedRangeAccess r op a size) s fun t =>
    t.resp = ⟨0x0110, 0⟩) ∧
  (∀ s r a v, Ends (.xipWrite r a v) s fun t => t.resp = ⟨0x020A, 0⟩ ∧ t.mem = s.mem ∧ t.regs = s.regs) ∧
  (∀ s r op a, isWindow a.toNat = true → a.toNat % 4 = 0 → windowDead s a.toNat = true → Ends (.resetDomainAccess r op a) s fun t =>
    t.resp = ⟨if op ≠ .read ∧ classN a.toNat = false then 0 else 0x0610, 0⟩) ∧
  (∀ s r a v e, isWindow a.toNat = true → a.toNat % 4 = 0 → windowDead s a.toNat = false →
    exec (.registerWrite r a v e) s =
      .next (accessEnd (regWrite s r a.toNat v.toNat e) r.issuer (!classN a.toNat) a.toNat)) ∧
  (∀ s r a, isWindow a.toNat = true → a.toNat % 4 = 0 → windowDead s a.toNat = false →
    exec (.rcFieldRead r a) s = .next (accessEnd (regRead s r a.toNat) r.issuer false a.toNat)) ∧
  (∀ (s : State) (f : Field) v, f.acc = .ro ∨ f.acc = .rc ∨ f.acc = .wo → s.fieldWrite f v = s) ∧
  (∀ (s : State) (f : Field) v, f.acc = .rw → s.hwHas f = false → (s.fieldWrite f v).rd f = f.slice v) ∧
  (∀ (s : State) (f : Field) v, f.acc = .rw → s.hwHas f = true → s.fieldWrite f v = s) ∧
  (∀ (s : State) (f : Field) v k, f.acc = .w1c → k < f.w →
    (s.fieldWrite f v).bit f k = (s.bit f k && (!v.testBit (f.lo + k) || (s.justSet f).testBit k))) ∧
  (∀ (s : State) (f : Field) v k, f.acc = .w1s → k < f.w → (s.fieldWrite f v).bit f k = (s.bit f k || v.testBit (f.lo + k))) ∧
  (∀ (s : State) (f : Field) v, s.RegsBut (s.fieldWrite f v) [f]) ∧
  (∀ (s : State) (f : Field), f.acc = .rc → s.upd.find? f.key = none → (s.clearRc [f]).rd f = 0 ∧ s.fieldRead f = s.rd f) ∧
  (∀ (s : State) (f : Field) e, f.acc = .rc → s.upd.find? f.key = some e →
    (s.clearRc [f]).rd f = min e.2 (2 ^ f.w - 1) ∧ s.fieldRead f = e.1)

/-- The supervisor's posted write of 1, 2, 4 or 8 bytes to the general on-die SRAM or to DRAM is answered 0 and stores
the low bytes of its value, least significant first; every other byte and every register stays. The supervisor's read
of the same size there answers what those bytes hold and changes neither memory nor a register; one that meets an
uncorrectable error is answered 0x0611 and changes no memory. A non-posted write of a word to a register window of
class N in service does what the register's own write does and ends with its answer. A posted write to a range of class
N and a non-posted one elsewhere are no such commands: they change nothing. -/
def Obligations.MemoryAccess : Prop :=
  (∀ s a size v prio e, s.Canon → (inRange a.toNat size.bytes 0x10400000 0x11000000 || inRange a.toNat size.bytes 0x800000000 0x820000000) = true →
    Ends (.bridlePostedWrite .supervisor a size v prio false e) s fun t =>
      t.resp = ⟨0, 0⟩ ∧ t.numAt a.toNat size.bytes = v.toNat % 2 ^ (8 * size.bytes) ∧ s.MemBut t a.toNat size.bytes ∧
        t.regs = s.regs) ∧
  (∀ s a size prio, (inRange a.toNat size.bytes 0x10400000 0x11000000 || inRange a.toNat size.bytes 0x800000000 0x820000000) = true →
    Ends (.bridleRead .supervisor a size prio false) s fun t =>
      t.resp = ⟨0, s.numAt a.toNat size.bytes⟩ ∧ t.mem = s.mem ∧ t.regs = s.regs) ∧
  (∀ s a size prio, (inRange a.toNat size.bytes 0x10400000 0x11000000 || inRange a.toNat size.bytes 0x800000000 0x820000000) = true →
    Ends (.bridleRead .supervisor a size prio true) s fun t => t.resp = ⟨0x0611, 0⟩ ∧ t.mem = s.mem) ∧
  (∀ s r a v prio e, isWindow a.toNat = true → classN a.toNat = true → a.toNat % 4 = 0 → windowDead s a.toNat = false →
    exec (.bridleNonpostedWrite r a .word v prio e) s =
      .next (accessEnd (regWrite s r a.toNat (v.toNat % 2 ^ 32) e) r.issuer false a.toNat)) ∧
  (∀ s r a size v prio e, classN a.toNat = false → exec (.bridleNonpostedWrite r a size v prio e) s = .next s) ∧
  (∀ s r a size v prio unc e, classN a.toNat = true → exec (.bridlePostedWrite r a size v prio unc e) s = .next s)

/-- Where XL carries heartbeats (a trained link, CORE out of reset, outside SEATING, QUARANTINE and a completed
DORMANCY) the module's heartbeat leaves, and neither mode nor memory changes; elsewhere nothing changes. One that
arrives over a trained link is kept: the partner is seen and alive, its mode, rings and outputs are what it says, and
the module's mode stays; without a link nothing changes. Without heartbeats for 2 ms the partner is no longer alive:
with ring traffic of the partner in those 2 ms the module notes XL_LOST and keeps the channels it owns and its mode,
without it, none having been heard, it takes over first. A partner whose heartbeats have reported HOLD for 2 ms is
taken over too. Before the 2 ms neither timeout changes anything. A link that finishes training shows LINK and, not
being the first since power-on, counts a retraining. A link lost shows LINK 0, and where nothing is outstanding over it
and no plot is freezing no other register changes but OUT_BUSY, EXTRACT_OK and the substate; with LINK 0 nothing
changes. -/
def Obligations.HeartbeatAndPartner : Prop :=
  (∀ s, xlSends s = true → Ends .heartbeatTx s fun t =>
    t.out = (nsSync s).out ++ [.xl (.heartbeat (heartbeatOf (nsSync s)))] ∧ t.mode = s.mode ∧ t.mem = s.mem) ∧
  (∀ s, xlSends s = false → exec .heartbeatTx s = .next s) ∧
  (∀ s h, s.rd F.XL_STAT_LINK = 0 → exec (.heartbeatRx h) s = .next s) ∧
  (∀ s h, s.rd F.XL_STAT_LINK = 1 → Ends (.heartbeatRx h) s fun t =>
    t.partner.alive = true ∧ t.partner.seen = true ∧ t.partner.mode = h.mode ∧ t.partner.rings = h.rings ∧
      t.partner.ls = h.ls ∧ t.partner.dio = h.dio ∧ t.mode = s.mode) ∧
  (∀ s n, s.partner.alive = true → s.partner.beatAt + 160000 ≤ s.now → s.lat.partnerAt = some n → s.now < n + 160000 → Ends .heartbeatTimeout s fun t =>
    t.partner.alive = false ∧ t.girth.xlLost = true ∧ t.girth.ownLs = s.girth.ownLs ∧ t.mode = s.mode) ∧
  (∀ s, s.partner.alive = true → s.partner.beatAt + 160000 ≤ s.now → s.lat.partnerAt = none → exec .heartbeatTimeout s = .next (partnerGone (takeover s) false)) ∧
  (∀ s, s.partner.alive = false ∧ s.girth.xlLost = false ∨ s.now < s.partner.beatAt + 160000 →
    exec .heartbeatTimeout s = .next s) ∧
  (∀ s, s.partner.alive = true → s.partner.mode = mHOLD → s.partner.holdAt + 160000 ≤ s.now → Ends .partnerHoldTimeout s fun t =>
    t = partnerGone (takeover s) false ∧ t.partner.alive = false ∧ t.girth.xlLost = false) ∧
  (∀ s, s.partner.mode ≠ mHOLD ∨ s.now < s.partner.holdAt + 160000 → exec .partnerHoldTimeout s = .next s) ∧
  (∀ s, s.girth.coreReset = false → s.rd F.XL_CTL_EN = 1 → s.mode ≠ mSEATING → s.mode ≠ mQUARANTINE → s.mode ≠ mDORMANCY →
    s.rd F.XL_STAT_LINK = 0 → Ends .xlLinkTrained s fun t => t.rd F.XL_STAT_LINK = 1 ∧ t.girth.xlTrained = true ∧
      t.rd F.XL_CNT_RETRAIN = if s.girth.xlTrained then min (s.rd F.XL_CNT_RETRAIN + 1) (2 ^ F.XL_CNT_RETRAIN.w - 1)
        else s.rd F.XL_CNT_RETRAIN) ∧
  (∀ s, s.rd F.XL_STAT_LINK = 0 → exec .xlLinkLoss s = .next s) ∧
  (∀ s, s.rd F.XL_STAT_LINK = 1 → Ends .xlLinkLoss s fun t => t.rd F.XL_STAT_LINK = 0) ∧
  (∀ s, s.rd F.XL_STAT_LINK = 1 → s.br = {} → (∀ p, (s.plot p).freeze = 0) → Ends .xlLinkLoss s fun t =>
    t.rd F.XL_STAT_LINK = 0 ∧ s.OnlyRegs t [F.XL_STAT_LINK, F.XL_STAT_OUT_BUSY, F.SEAT_STAT_EXTRACT_OK, F.GIRTH_MODE_SUBSTATE])

/-- A cycle boundary shows the ROCOF, the amplitudes and the rotation that the tracker measured, and the phase error
unless NET is the active source; with GRID active it shows the frequency too. Where the cycle number has incremented in
this tick, the history entry of that number takes it and plant time. A lock that SRC does not permit, of a source
already held, of GRID whose criteria of Table 5-3 have not come to hold, or of NET without three messages in a row of
the followed sender, changes nothing. Otherwise the source becomes active: an error that is not zero is slewed out with
LOCK clear, without error LOCK sets and HOLDOVER, SLEWING and NEVER_LOCKED clear; GRID's error is the measured one plus
TRL_REF_OFS, NET's that of the extrapolated angle. The end of a slew, its error at zero, sets LOCK and ends HOLDOVER,
and leaves the cycle number unless this is the first lock; before that it changes nothing. A loss of GRID of which no
criterion holds changes nothing; one that holds, SRC being GRID and the angle having locked once, sets its flag and
LOCK_LOST and ends LOCK in holdover, at the holdover frequency of log entry 15; with another source active only the
flags change. NET_TIMEOUT, no valid message having been held for TMO, sets NET_LOST and makes every sender's message
lost (log entry 15), with NET active in holdover; before that it changes nothing. A holdover longer than TRL_HO_LIMIT
seconds sets HO_LONG; one in lock or shorter changes nothing. A read of TRL_NOW_ANG answers the angle and latches the
cycle and plant time of the same tick, and moves neither; in a SAFE reset it is answered 0x0610. -/
def Obligations.TrellisTracking : Prop :=
  (∀ s m, Ends (.cycleBoundary m) s fun t =>
    t.rd F.TRL_ROCOF_ROCOF = m.rocof.toNat ∧ t.rd F.TRL_AMP_GRA = m.ampA.toNat ∧ t.rd F.TRL_AMP_GRB = m.ampB.toNat ∧
      t.rd F.TRL_AMP_GRC = m.ampC.toNat ∧ t.rd F.TRL_STAT_ROT_ACB = m.rotAcb.toNat ∧
      (s.rd F.TRL_STAT_SRC_ACT ≠ 2 → s.rd F.TRL_STAT_SRC_ACT ≠ 1 →
        t.rd F.TRL_PHERR_PHERR = m.pherr.toNat ∧ t.rd F.TRL_PHERR_PHERR_RMS = m.rms.toNat) ∧
      (s.rd F.TRL_STAT_SRC_ACT = 1 →
        t.rd F.TRL_PHERR_PHERR = m.pherr.toNat ∧ t.rd F.TRL_PHERR_PHERR_RMS = m.rms.toNat ∧ t.rd F.TRL_FREQ_FREQ = m.freq.toNat) ∧
      (cycleNew s = true → t.rd (F.TRL_CYC_HIST_CYC (s.trl.cyc.toNat % 16)) = s.trl.cyc.toNat ∧
        t.rd (F.TRL_CYC_HIST_NS (s.trl.cyc.toNat % 16)) = s.pt.ns.toNat ∧
        t.rd (F.TRL_CYC_HIST_S_LO (s.trl.cyc.toNat % 16)) = s.pt.sec.toNat % 2 ^ 32 ∧
        t.rd (F.TRL_CYC_HIST_S_HI (s.trl.cyc.toNat % 16)) = s.pt.sec.toNat / 2 ^ 32)) ∧
  (∀ s net err freq, srcAllows s net = false ∨ srcHeld s (if net then 2 else 1) = true →
    exec (.lockAcquire net err freq) s = .next s) ∧
  (∀ s err freq, gridReady s = false → exec (.lockAcquire false err freq) s = .next s) ∧
  (∀ s err freq, netReady s = none → exec (.lockAcquire true err freq) s = .next s) ∧
  (∀ s err freq, srcAllows s false = true → srcHeld s 1 = false → gridReady s = true →
    slewInterval (err.toNat + s.rd F.TRL_REF_OFS_OFS) ≠ 0 → Ends (.lockAcquire false err freq) s fun t =>
    t.rd F.TRL_STAT_SLEWING = 1 ∧ t.rd F.TRL_STAT_LOCK = 0 ∧ t.rd F.TRL_FREQ_FREQ = freq.toNat ∧ t.rd F.TRL_STAT_SRC_ACT = 1 ∧
      t.trl.slewErr = slewInterval (err.toNat + s.rd F.TRL_REF_OFS_OFS) * 2 ^ 32) ∧
  (∀ s err freq, srcAllows s false = true → srcHeld s 1 = false → gridReady s = true →
    slewInterval (err.toNat + s.rd F.TRL_REF_OFS_OFS) = 0 → Ends (.lockAcquire false err freq) s fun t =>
    t.rd F.TRL_STAT_LOCK = 1 ∧ t.rd F.TRL_STAT_NEVER_LOCKED = 0 ∧ t.rd F.TRL_STAT_HOLDOVER = 0 ∧ t.rd F.TRL_STAT_SLEWING = 0 ∧
      t.rd F.TRL_FREQ_FREQ = freq.toNat ∧ t.rd F.TRL_STAT_SRC_ACT = 1) ∧
  (∀ s err freq m, srcAllows s true = true → srcHeld s 2 = false → netReady s = some m → netErr s m ≠ 0 →
    Ends (.lockAcquire true err freq) s fun t =>
    t.rd F.TRL_STAT_SLEWING = 1 ∧ t.rd F.TRL_STAT_LOCK = 0 ∧ t.rd F.TRL_FREQ_FREQ = m.freq % 2 ^ 32 ∧
      t.rd F.TRL_STAT_SRC_ACT = 2 ∧ t.trl.slewErr = netErr s m * 2 ^ 32) ∧
  (∀ s err freq m, srcAllows s true = true → srcHeld s 2 = false → netReady s = some m → netErr s m = 0 →
    Ends (.lockAcquire true err freq) s fun t =>
    t.rd F.TRL_STAT_LOCK = 1 ∧ t.rd F.TRL_STAT_NEVER_LOCKED = 0 ∧ t.rd F.TRL_STAT_HOLDOVER = 0 ∧ t.rd F.TRL_STAT_SLEWING = 0 ∧
      t.rd F.TRL_FREQ_FREQ = m.freq % 2 ^ 32 ∧ t.rd F.TRL_STAT_SRC_ACT = 2) ∧
  (∀ s, s.rd F.TRL_STAT_SLEWING ≠ 0 → s.trl.slewErr = 0 → Ends .slewDone s fun t =>
    t.rd F.TRL_STAT_LOCK = 1 ∧ t.rd F.TRL_STAT_SLEWING = 0 ∧ t.rd F.TRL_STAT_HOLDOVER = 0 ∧
      (s.rd F.TRL_STAT_NEVER_LOCKED = 0 → t.trl.cyc = s.trl.cyc)) ∧
  (∀ s, s.rd F.TRL_STAT_SLEWING = 0 ∨ s.trl.slewErr ≠ 0 → exec .slewDone s = .next s) ∧
  (∀ s a f p, (a && decide (s.trl.amp < 50) || f && decide (2 ≤ s.trl.offRun) || p && decide (3 ≤ s.trl.phRun)) = false →
    exec (.lockLoss a f p) s = .next s) ∧
  (∀ s a f p, (a && decide (s.trl.amp < 50) || f && decide (2 ≤ s.trl.offRun) || p && decide (3 ≤ s.trl.phRun)) = true →
    s.rd F.TRL_STAT_SRC_ACT = 1 → s.rd F.TRL_CTL_SRC = 0 → s.rd F.TRL_STAT_NEVER_LOCKED = 0 → Ends (.lockLoss a f p) s fun t =>
      t.rd F.TRL_STAT_LOCK = 0 ∧ t.rd F.TRL_STAT_HOLDOVER = 1 ∧ t.rd F.TRL_FLT_LOCK_LOST = 1 ∧ t.rd F.TRL_STAT_SRC_ACT = 0 ∧
        t.rd F.TRL_FREQ_FREQ = holdoverFreq s ∧ (a = true → s.trl.amp < 50 → t.rd F.TRL_FLT_AMP_LOW = 1) ∧
        (f = true → 2 ≤ s.trl.offRun → t.rd F.TRL_FLT_FREQ_RANGE = 1) ∧
        (p = true → 3 ≤ s.trl.phRun → t.rd F.TRL_FLT_PHASE_ERR = 1)) ∧
  (∀ s a f p, s.rd F.TRL_STAT_SRC_ACT ≠ 1 → Ends (.lockLoss a f p) s fun t =>
    (a = true → s.trl.amp < 50 → t.rd F.TRL_FLT_AMP_LOW = 1) ∧ (f = true → 2 ≤ s.trl.offRun → t.rd F.TRL_FLT_FREQ_RANGE = 1) ∧
      (p = true → 3 ≤ s.trl.phRun → t.rd F.TRL_FLT_PHASE_ERR = 1) ∧
      s.OnlyRegs t [F.TRL_FLT_AMP_LOW, F.TRL_FLT_FREQ_RANGE, F.TRL_FLT_PHASE_ERR]) ∧
  (∀ s, netOld s = true → s.rd F.TRL_STAT_SRC_ACT = 2 → s.rd F.TRL_STAT_NEVER_LOCKED = 0 → Ends .netTimeout s fun t =>
    t.rd F.TRL_FLT_NET_LOST = 1 ∧ t.trl.senders = (s.trl.senders.map fun m => { m with inRow := 0 }) ∧
      t.rd F.TRL_STAT_LOCK = 0 ∧ t.rd F.TRL_STAT_HOLDOVER = 1) ∧
  (∀ s, netOld s = true → s.rd F.TRL_STAT_SRC_ACT ≠ 2 → Ends .netTimeout s fun t =>
    t.rd F.TRL_FLT_NET_LOST = 1 ∧ t.trl = { s.trl with senders := s.trl.senders.map fun m => { m with inRow := 0 } } ∧
      s.RegsBut t [F.TRL_FLT_NET_LOST]) ∧
  (∀ s, netOld s = false → exec .netTimeout s = .next s) ∧
  (∀ s n, s.rd F.TRL_STAT_HOLDOVER ≠ 0 → s.rd F.TRL_STAT_LOCK = 0 → s.trl.hoAt = some n →
    n + 80000000 * s.rd F.TRL_HO_LIMIT_LIMIT ≤ s.now → Ends .holdoverLimit s fun t =>
    t.rd F.TRL_STAT_HO_LONG = 1 ∧ s.RegsBut t [F.TRL_STAT_HO_LONG, F.SEAT_STAT_EXTRACT_OK, F.GIRTH_MODE_SUBSTATE]) ∧
  (∀ s, s.rd F.TRL_STAT_LOCK ≠ 0 ∨ (∀ n, s.trl.hoAt = some n → s.now < n + 80000000 * s.rd F.TRL_HO_LIMIT_LIMIT) →
    exec .holdoverLimit s = .next s) ∧
  (∀ s, windowDead s F.TRL_NOW_ANG_ANG.addr = false → Ends .trlNowRead s fun t =>
    t.resp = ⟨0, s.trl.ang.toNat⟩ ∧ t.rd F.TRL_NOW_CYC_CYC = s.trl.cyc.toNat ∧
      t.rd F.TRL_NOW_PT_NS_NS = s.pt.ns.toNat ∧ t.trl = s.trl ∧ t.pt = s.pt) ∧
  (∀ s, windowDead s F.TRL_NOW_ANG_ANG.addr = true → exec .trlNowRead s = .next (s.status 0x0610))

/-- A message whose tag does not verify, or under a key slot that the receiver may not use, only sets NET_AUTH. One of
another version, without the lock flag or in holdover is not taken. One that repeats its sender's SEQ, or is older than
50 ms, only sets NET_STALE. A fresh one of a new sender, fewer than four being tracked, is kept among the senders;
while NET is not the active source no register changes but CYC_MISMATCH. With NET_TX set, the grid in lock, PERIOD past
since the last one and a key that the sender may use, the module sends its reference, tagged, to port 47662 of its
group, counts its SEQ, and changes no register; without lock it sends none. -/
def Obligations.AngleReference : Prop :=
  (∀ s ok p, ok = false ∨ keyFor s (s.rd F.TRL_NET_KEY_KEYSLOT) useNetref = none → Ends (.netrefRx ok p) s fun t =>
    t.rd F.TRL_FLT_NET_AUTH = 1 ∧ s.OnlyRegs t [F.TRL_FLT_NET_AUTH]) ∧
  (∀ s p key, keyFor s (s.rd F.TRL_NET_KEY_KEYSLOT) useNetref = some key →
    byteNat p 0 ≠ 1 ∨ byteNat p 1 % 2 = 0 ∨ byteNat p 1 / 2 % 2 = 1 → exec (.netrefRx true p) s = .next s) ∧
  (∀ s p key o, keyFor s (s.rd F.TRL_NET_KEY_KEYSLOT) useNetref = some key → byteNat p 0 = 1 → byteNat p 1 % 4 = 1 →
    (s.trl.senders.find? fun x => x.sender == (netParse p).sender) = some o → (netParse p).seq ≤ o.seq →
    Ends (.netrefRx true p) s fun t => t.rd F.TRL_FLT_NET_STALE = 1 ∧ s.OnlyRegs t [F.TRL_FLT_NET_STALE]) ∧
  (∀ s p key, keyFor s (s.rd F.TRL_NET_KEY_KEYSLOT) useNetref = some key → byteNat p 0 = 1 → byteNat p 1 % 4 = 1 →
    (netParse p).pt.toNs + 50000000 < s.ptNs →
    Ends (.netrefRx true p) s fun t => t.rd F.TRL_FLT_NET_STALE = 1 ∧ s.OnlyRegs t [F.TRL_FLT_NET_STALE]) ∧
  (∀ s p key, keyFor s (s.rd F.TRL_NET_KEY_KEYSLOT) useNetref = some key → byteNat p 0 = 1 → byteNat p 1 % 4 = 1 →
    (∀ x ∈ s.trl.senders, x.sender ≠ (netParse p).sender) → s.trl.senders.length < 4 → (netParse p).pt.toNs ≤ s.ptNs →
    s.ptNs ≤ (netParse p).pt.toNs + 50000000 → s.rd F.TRL_STAT_SRC_ACT ≠ 2 → Ends (.netrefRx true p) s fun t =>
      t.trl.senders = s.trl.senders ++ [{ netParse p with inRow := 1, tick := s.now }] ∧ s.RegsBut t [F.TRL_STAT_CYC_MISMATCH]) ∧
  (∀ s key, s.rd F.TRL_CTL_NET_TX ≠ 0 → s.rd F.TRL_STAT_SRC_ACT = 1 → s.rd F.TRL_STAT_LOCK ≠ 0 →
    (∀ n, s.trl.netAt = some n → n + 80000 * max 1 (s.rd F.TRL_NET_CFG_PERIOD) ≤ s.now) →
    keyFor s (s.rd F.TRL_NET_KEY_KEYSLOT) useNetref = some key → Ends .netrefSend s fun t =>
    t.trl = { s.trl with netSeq := (s.trl.netSeq + 1) % 2 ^ 32, netAt := some s.now } ∧ t.regs = s.regs ∧
      ∃ port group, t.out = s.out ++ [.netRef port group 47662
        (netPayload s ++ le 16 (Config.gcmTag key (((netPayload s).drop 32).take 12) (netPayload s)).toNat) s.stamp]) ∧
  (∀ s, s.rd F.TRL_STAT_LOCK = 0 → exec .netrefSend s = .next s)

/-- With Trellis's window in service: a system slot refuses every writer (0x0207), and a plot is refused slots outside
its partition (0x0206). A word with a reserved mode or action for a slot of the plot's partition is refused with
0x030B, an enabling one for an action on what the plot does not own with 0x0206; a refused write changes nothing but
the answer. An accepted word that leaves the slot off, or on in the same mode, is written and answered 0; one that
enables a slot in mode EVERY that was off and has not fired in this tick sets EN, clears DONE and is answered 0.
TRL_PART is refused to all but the supervisor (0x0207), and a base or count that is no multiple of 8, or that ends
above slot 1,024, with 0x0301. An empty partition, or one above the system slots, clear of the other plots' and with a
record queue that the plot consumes, is written and answered 0, and EN clears in the plot's former slots that the new
partition leaves out. -/
def Obligations.SlotWrites : Prop :=
  (∀ s r (n : Fin 1024) v, windowDead s (F.SLOT_CTL_EN n).addr = false → n.val < 64 →
    exec (.slotCtlWrite r n v) s = .next (s.status 0x0207)) ∧
  (∀ s (p : Fin 8) (n : Fin 1024) v, windowDead s (F.SLOT_CTL_EN n).addr = false → 64 ≤ n.val → slotPlot s n ≠ some p.val →
    exec (.slotCtlWrite (.plot p) n v) s = .next (s.status 0x0206)) ∧
  (∀ s (p : Fin 8) (n : Fin 1024) (v : Word), windowDead s (F.SLOT_CTL_EN n).addr = false → 64 ≤ n.val →
    slotPlot s n = some p.val → 5 ≤ (F.SLOT_CTL_MODE n).slice v.toNat ∨ (actionLat ((F.SLOT_CTL_ACTION n).slice v.toNat)).isNone →
    exec (.slotCtlWrite (.plot p) n v) s = .next (s.status 0x030B)) ∧
  (∀ s (p : Fin 8) (n : Fin 1024) (v : Word) l, windowDead s (F.SLOT_CTL_EN n).addr = false → 64 ≤ n.val →
    slotPlot s n = some p.val → (F.SLOT_CTL_MODE n).slice v.toNat < 5 →
    actionLat ((F.SLOT_CTL_ACTION n).slice v.toNat) = some l → (F.SLOT_CTL_ACTION n).slice v.toNat < 0x20 → v.toNat % 2 = 1 →
    actionOwned s p ((F.SLOT_CTL_ACTION n).slice v.toNat) (s.rd (F.SLOT_ARG_ARG n)) = false →
    exec (.slotCtlWrite (.plot p) n v) s = .next (s.status 0x0206)) ∧
  (∀ s (p : Fin 8) (n : Fin 1024) (v : Word), windowDead s (F.SLOT_CTL_EN n).addr = false → 64 ≤ n.val →
    slotPlot s n = some p.val → v.toNat % 2 = 0 → slotCtlRefusal s p n v.toNat = none →
    exec (.slotCtlWrite (.plot p) n v) s = .next ((s.writeWord (F.SLOT_CTL_EN n).addr v.toNat).status 0)) ∧
  (∀ s (p : Fin 8) (n : Fin 1024) (v : Word), windowDead s (F.SLOT_CTL_EN n).addr = false → 64 ≤ n.val →
    slotPlot s n = some p.val → v.toNat % 2 = 1 → slotCtlRefusal s p n v.toNat = none → s.rd (F.SLOT_CTL_EN n) = 1 →
    s.rd (F.SLOT_CTL_MODE n) = (F.SLOT_CTL_MODE n).slice v.toNat →
    exec (.slotCtlWrite (.plot p) n v) s = .next ((s.writeWord (F.SLOT_CTL_EN n).addr v.toNat).status 0)) ∧
  (∀ s (p : Fin 8) (n : Fin 1024) (v : Word), windowDead s (F.SLOT_CTL_EN n).addr = false → 64 ≤ n.val →
    slotPlot s n = some p.val → v.toNat % 2 = 1 → (F.SLOT_CTL_MODE n).slice v.toNat = 0 → slotCtlRefusal s p n v.toNat = none →
    s.rd (F.SLOT_CTL_EN n) = 0 → s.upd = [] → s.trl.doneAt.find? n ≠ some s.now → Ends (.slotCtlWrite (.plot p) n v) s fun t =>
      t.rd (F.SLOT_CTL_EN n) = 1 ∧ t.rd (F.SLOT_CTL_MODE n) = 0 ∧ t.rd (F.SLOT_STAT_DONE n) = 0 ∧ t.resp = ⟨0, 0⟩) ∧
  (∀ s r (p : Fin 8) v, windowDead s (F.TRL_PART_BASE p).addr = false → r ≠ .supervisor →
    exec (.trlPartWrite r p v) s = .next (s.status 0x0207)) ∧
  (∀ s (p : Fin 8) (v : Word), windowDead s (F.TRL_PART_BASE p).addr = false →
      (F.TRL_PART_BASE p).slice v.toNat % 8 ≠ 0 ∨ (F.TRL_PART_COUNT p).slice v.toNat % 8 ≠ 0 ∨
      1024 < (F.TRL_PART_BASE p).slice v.toNat + (F.TRL_PART_COUNT p).slice v.toNat →
    exec (.trlPartWrite .supervisor p v) s = .next (s.status 0x0301)) ∧
  (∀ s (p : Fin 8) (v : Word), windowDead s (F.TRL_PART_BASE p).addr = false →
      (F.TRL_PART_BASE p).slice v.toNat % 8 = 0 → (F.TRL_PART_COUNT p).slice v.toNat % 8 = 0 →
      (F.TRL_PART_BASE p).slice v.toNat + (F.TRL_PART_COUNT p).slice v.toNat ≤ 1024 →
      (F.TRL_PART_COUNT p).slice v.toNat = 0 ∨ 64 ≤ (F.TRL_PART_BASE p).slice v.toNat ∧
        (∀ k, k < 8 → k ≠ p.val → overlap ((F.TRL_PART_BASE p).slice v.toNat) ((F.TRL_PART_COUNT p).slice v.toNat)
          (s.rd (F.TRL_PART_BASE k)) (s.rd (F.TRL_PART_COUNT k)) = false) ∧
        s.rd (F.Q_OWN_CONS ((F.TRL_PART_QUEUE p).slice v.toNat)) = p.val →
    exec (.trlPartWrite .supervisor p v) s = .next
      ((slotsOut (s.writeWord (F.TRL_PART_BASE p).addr v.toNat) p (s.rd (F.TRL_PART_BASE p)) (s.rd (F.TRL_PART_COUNT p))).status 0))

/-- A slot that is not enabled, that lies in no partition, whose plot is held, or that is neither due nor to fire late
in this tick does not fire. With no other action under way, an enabled slot in its due tick, a system slot or one of a
plot that is not held and has its target here, other than for a POW action, counts up and puts its action on its way,
due after the action's delivery latency; an angle or periodic slot changes no other register, a one-shot slot clears EN
and sets DONE and changes no other. A late firing sets LATE beside that. An action whose target its plot no longer owns
here sets NOT_OWNED and is dropped. -/
def Obligations.SlotFiring : Prop :=
  (∀ s (n : Fin 1024), s.rd (F.SLOT_CTL_EN n) = 0 → exec (.slotFire n) s = .next s) ∧
  (∀ s (n : Fin 1024), 64 ≤ n.val → slotPlot s n = none → exec (.slotFire n) s = .next s) ∧
  (∀ s (n : Fin 1024) p, 64 ≤ n.val → slotPlot s n = some p → p < 8 → plotHeld s p = true → exec (.slotFire n) s = .next s) ∧
  (∀ s (n : Fin 1024), s.trl.catchup.find? n ≠ some s.now → slotDue s n = false → exec (.slotFire n) s = .next s) ∧
  (∀ s (n : Fin 1024) p a l, (n.val < 64 ∧ p = 8 ∨ 64 ≤ n.val ∧ p < 8 ∧ slotPlot s n = some p ∧ plotHeld s p = false ∧
      targetHere s p a (s.rd (F.SLOT_ARG_ARG n)) = true) →
    s.rd (F.SLOT_CTL_ACTION n) = a → actionLat a = some l → a ≠ 0x10 → a ≠ 0x11 → s.rd (F.SLOT_CTL_EN n) ≠ 0 →
    s.trl.catchup.find? n ≠ some s.now → slotDue s n = true → s.trl.actTick ≠ s.now → s.trl.issued = [] →
    Ends (.slotFire n) s fun t =>
      t.rd (F.SLOT_STAT_FIRE_CNT n) = (s.rd (F.SLOT_STAT_FIRE_CNT n) + 1) % 2 ^ (F.SLOT_STAT_FIRE_CNT n).w ∧
        (∃ x, t.trl.issued = [x] ∧ x.slot = n.val ∧ x.action = a ∧ x.arg = s.rd (F.SLOT_ARG_ARG n) ∧ x.plot = p ∧
          x.target = slotTarget s n ∧ x.due = s.now + l) ∧
        (if s.rd (F.SLOT_CTL_MODE n) = 2 ∨ s.rd (F.SLOT_CTL_MODE n) = 3 then
          t.rd (F.SLOT_CTL_EN n) = 0 ∧ t.rd (F.SLOT_STAT_DONE n) = 1 ∧
            s.RegsBut t [F.SLOT_STAT_FIRE_CNT n, F.SLOT_CTL_EN n, F.SLOT_STAT_DONE n]
        else s.RegsBut t [F.SLOT_STAT_FIRE_CNT n])) ∧
  (∀ s (n : Fin 1024) a l, n.val < 64 → s.rd (F.SLOT_CTL_ACTION n) = a → actionLat a = some l → s.rd (F.SLOT_CTL_EN n) ≠ 0 →
    s.trl.catchup.find? n = some s.now → s.trl.actTick ≠ s.now → s.trl.issued = [] → Ends (.slotFire n) s fun t =>
      t.rd (F.SLOT_STAT_LATE n) = 1 ∧ ∃ x, t.trl.issued = [x] ∧ x.slot = n.val ∧ x.action = a ∧ x.due = s.now + l) ∧
  (∀ s (n : Fin 1024) p, 64 ≤ n.val → p < 8 → slotPlot s n = some p → plotHeld s p = false → s.rd (F.SLOT_CTL_EN n) ≠ 0 →
    slotDue s n = true → targetHere s p (s.rd (F.SLOT_CTL_ACTION n)) (s.rd (F.SLOT_ARG_ARG n)) = false →
    Ends (.slotFire n) s fun t => t.rd (F.SLOT_STAT_NOT_OWNED n) = 1 ∧ t.trl.issued = s.trl.issued ∧
      t.rd (F.SLOT_STAT_FIRE_CNT n) = (s.rd (F.SLOT_STAT_FIRE_CNT n) + 1) % 2 ^ (F.SLOT_STAT_FIRE_CNT n).w)

/-- An action row takes the action of its code that slot n has issued and whose effect falls in this tick (up to 5
ticks after the due tick where the target lies in Stirrup), carries it out on the target that its ARG names, and shows
the stamp of this tick in the slot's LAST registers; where none falls in this tick it changes nothing. The end of a DIO
pulse, once its width has passed, turns the output off again, unless a host write fell inside the pulse: then only the
pulse ends. Before that, or without a pulse, it changes nothing. -/
def Obligations.SlotActions : Prop :=
  (∀ s (n : Fin 1024) x u, takeIssued s n [0] 0 = some (x, u) → exec (.mark n) s = .next (slotEffect u x 0)) ∧
  (∀ s (n : Fin 1024) (o : Fin 6) x u, takeIssued s n [1] o = some (x, u) →
    exec (.lsOn n o) s = .next (slotEffect (lsAct u (x.arg % 32) true) x o)) ∧
  (∀ s (n : Fin 1024) (o : Fin 6) x u, takeIssued s n [2] o = some (x, u) →
    exec (.lsOff n o) s = .next (slotEffect (lsAct u (x.arg % 32) false) x o)) ∧
  (∀ s (n : Fin 1024) (o : Fin 6) x u, takeIssued s n [3] o = some (x, u) →
    exec (.dioOn n o) s = .next (slotEffect (dioAct u (x.arg % 32) true) x o)) ∧
  (∀ s (n : Fin 1024) (o : Fin 6) x u, takeIssued s n [4] o = some (x, u) →
    exec (.dioOff n o) s = .next (slotEffect (dioAct u (x.arg % 32) false) x o)) ∧
  (∀ s (n : Fin 1024) (o : Fin 6) x u, takeIssued s n [5] o = some (x, u) → dioActable u (x.arg % 32) = true →
    exec (.dioPulse n o) s = .next
      (let t := dioAct u (x.arg % 32) true
       slotEffect (t.setDio (x.arg % 32) { t.dioCh (x.arg % 32) with
         pulse := true, pulseHost := u.trl.hostOn.find? (32 + x.arg % 32) == some u.now,
         pulseEnd := t.now + 80 * (x.arg / 65536) }) x o)) ∧
  (∀ s (n : Fin 1024) (o : Fin 6) x u, takeIssued s n [5] o = some (x, u) → dioActable u (x.arg % 32) = false →
    exec (.dioPulse n o) s = .next (slotEffect (dioAct u (x.arg % 32) true) x o)) ∧
  (∀ s (n : Fin 1024) x u, takeIssued s n [8] 0 = some (x, u) → x.plot < 8 →
    exec (.canLaunch n) s = .next (slotEffect (bufLaunch u (x.arg % 8) (x.arg / 256 % 64)) x 0)) ∧
  (∀ s (n : Fin 1024) x u, takeIssued s n [9] 0 = some (x, u) → exec (.furrowPost n) s =
    .next (slotEffect (hwPost u (x.arg % 64) [BitVec.ofNat 32 (x.slot + 65536 * (x.arg / 256 % 256))]) x 0)) ∧
  (∀ s (n : Fin 1024) (o : Fin 6) x u, takeIssued s n [0x10] o = some (x, u) →
    exec (.powClose n o) s = .next (slotEffect (powAct u x true o) x o)) ∧
  (∀ s (n : Fin 1024) (o : Fin 6) x u, takeIssued s n [0x11] o = some (x, u) →
    exec (.powOpen n o) s = .next (slotEffect (powAct u x false o) x o)) ∧
  (∀ s (n : Fin 1024) (o : Fin 6),
    (takeIssued s n [0] 0 = none → exec (.mark n) s = .next s) ∧ (takeIssued s n [1] o = none → exec (.lsOn n o) s = .next s) ∧
    (takeIssued s n [2] o = none → exec (.lsOff n o) s = .next s) ∧ (takeIssued s n [3] o = none → exec (.dioOn n o) s = .next s) ∧
    (takeIssued s n [4] o = none → exec (.dioOff n o) s = .next s) ∧
    (takeIssued s n [5] o = none → exec (.dioPulse n o) s = .next s) ∧
    (takeIssued s n [8] 0 = none → exec (.canLaunch n) s = .next s) ∧
    (takeIssued s n [9] 0 = none → exec (.furrowPost n) s = .next s) ∧
    (takeIssued s n [0x10] o = none → exec (.powClose n o) s = .next s) ∧
    (takeIssued s n [0x11] o = none → exec (.powOpen n o) s = .next s)) ∧
  (∀ s x o, x.slot < 1024 →
    (slotEffect s x o).rd (F.SLOT_LAST_CYC_CYC x.slot) = s.trl.cyc.toNat ∧
    (slotEffect s x o).rd (F.SLOT_LAST_ANG_ANG x.slot) = s.trl.ang.toNat) ∧
  (∀ s (n : Fin 32), (s.dioCh n).pulse = true → (s.dioCh n).pulseHost = false → (s.dioCh n).pulseEnd ≤ s.now →
    exec (.dioPulseEnd n) s = .next (dioAct (s.setDio n { s.dioCh n with pulse := false, pulseHost := false }) n false)) ∧
  (∀ s (n : Fin 32), (s.dioCh n).pulse = true → (s.dioCh n).pulseHost = true → (s.dioCh n).pulseEnd ≤ s.now →
    exec (.dioPulseEnd n) s = .next (s.setDio n { s.dioCh n with pulse := false, pulseHost := false })) ∧
  (∀ s (n : Fin 32), (s.dioCh n).pulse = false ∨ s.now < (s.dioCh n).pulseEnd → exec (.dioPulseEnd n) s = .next s)

/-- With Trellis's window in service: a POW_CFG word that a rule refuses is answered with that refusal and changes
nothing else; one accepted for an entry that is off is stored and answered 0. A write that names an LS channel no plot
owns, the entry being off, is answered 0x0206. A host write of an estimate by the owner of the entry stores it, clears
its count of measurements and is answered 0; no other register changes but LAST_ERR. By anyone else it is answered
0x0206. A measurement whose bound has passed by DEB plus 2 µs without its edge counts in TMO_CNT and ends, with an
event of code 0x0404 that names the entry (log entry 13); before that, or with none running, nothing changes. The
learned values of the 16 entries go to the settings area at most once an hour, and on HANDOFF, while flash may be
written. -/
def Obligations.PointOnWave : Prop :=
  (∀ s r (e : Fin 16) (v : Word) c, windowDead s (F.POW_CFG_LS e).addr = false →
    powCfgRefusal s r e ((F.POW_CFG_LS e).slice v.toNat) ((F.POW_CFG_AUX_DIO e).slice v.toNat)
      ((F.POW_CFG_AUX_POL e).slice v.toNat) ((F.POW_CFG_EN e).slice v.toNat) = some c →
    exec (.powCfgWrite r e v) s = .next (s.status c)) ∧
  (∀ s r (e : Fin 16) (v : Word), windowDead s (F.POW_CFG_LS e).addr = false →
    powCfgRefusal s r e ((F.POW_CFG_LS e).slice v.toNat) ((F.POW_CFG_AUX_DIO e).slice v.toNat)
      ((F.POW_CFG_AUX_POL e).slice v.toNat) ((F.POW_CFG_EN e).slice v.toNat) = none → s.rd (F.POW_CFG_EN e) = 0 →
    exec (.powCfgWrite r e v) s = .next ((s.writeWord (F.POW_CFG_LS e).addr v.toNat).status 0)) ∧
  (∀ s r (e : Fin 16) (v : Word), windowDead s (F.POW_CFG_LS e).addr = false → s.rd (F.POW_CFG_EN e) = 0 →
    24 ≤ (F.POW_CFG_LS e).slice v.toNat → exec (.powCfgWrite r e v) s = .next (s.status 0x0206)) ∧
  (∀ s r (e : Fin 16) (v : Word), windowDead s (F.POW_OP_OP e).addr = false → r.forPlot (powOwner s e) = true →
    Ends (.powOpWrite r e v) s fun t =>
    t.rd (F.POW_OP_OP e) = v.toNat % 2 ^ (F.POW_OP_OP e).w ∧ t.rd (F.POW_CNT_OP_CNT e) = 0 ∧ t.resp = ⟨0, 0⟩ ∧
      s.RegsBut t [F.POW_OP_OP e, F.POW_CNT_OP_CNT e, F.POW_LAST_ERR_ERR e]) ∧
  (∀ s r (e : Fin 16) (v : Word), windowDead s (F.POW_REL_REL e).addr = false → r.forPlot (powOwner s e) = true →
    Ends (.powRelWrite r e v) s fun t =>
    t.rd (F.POW_REL_REL e) = v.toNat % 2 ^ (F.POW_REL_REL e).w ∧ t.rd (F.POW_CNT_REL_CNT e) = 0 ∧ t.resp = ⟨0, 0⟩ ∧
      s.RegsBut t [F.POW_REL_REL e, F.POW_CNT_REL_CNT e, F.POW_LAST_ERR_ERR e]) ∧
  (∀ s r (e : Fin 16) v, windowDead s (F.POW_OP_OP e).addr = false → windowDead s (F.POW_REL_REL e).addr = false →
    r.forPlot (powOwner s e) = false →
    exec (.powOpWrite r e v) s = .next (s.status 0x0206) ∧ exec (.powRelWrite r e v) s = .next (s.status 0x0206)) ∧
  (∀ s (e : Fin 16) k, s.trl.pow.find? e = some k →
    (k.t0 : Int) + k.eUsed - powOfs s e k.close + powRej s e +
      80 * ((s.rd (F.DIO_DEB_DEB (s.rd (F.POW_CFG_AUX_DIO e))) : Int) + 2) ≤ s.now → Ends (.powAuxTimeout e) s fun t =>
    t.trl.pow.find? e = none ∧ t.faults = s.faults ++ [⟨0x0404, e, s.stamp⟩] ∧
      t.rd (F.POW_REJ_TMO_CNT e) = min (s.rd (F.POW_REJ_TMO_CNT e) + 1) (2 ^ (F.POW_REJ_TMO_CNT e).w - 1)) ∧
  (∀ s (e : Fin 16) k, s.trl.pow.find? e = some k →
    (s.now : Int) < (k.t0 : Int) + k.eUsed - powOfs s e k.close + powRej s e +
      80 * ((s.rd (F.DIO_DEB_DEB (s.rd (F.POW_CFG_AUX_DIO e))) : Int) + 2) → exec (.powAuxTimeout e) s = .next s) ∧
  (∀ s (e : Fin 16), s.trl.pow.find? e = none → exec (.powAuxTimeout e) s = .next s) ∧
  (∀ s, flashOk s = true → s.trl.powSaved = none ∨ s.mode = mHANDOFF → Ends .powLearnSave s fun t =>
    t.trl = { s.trl with powSaved := some s.now } ∧ t.regs = s.regs ∧
      ∀ e, e < 16 → t.settings.get (objKey (0x4010 + e) 9) 0 = s.rd (F.POW_OP_OP e) ∧
        t.settings.get (objKey (0x4010 + e) 10) 0 = s.rd (F.POW_REL_REL e)) ∧
  (∀ s n, s.mode ≠ mHANDOFF → s.trl.powSaved = some n → s.now < n + 288000000000 → exec .powLearnSave s = .next s) ∧
  (∀ s, flashOk s = false → exec .powLearnSave s = .next s)

/-- While Latigo runs and plant time has reached a multiple of 250 µs in this tick, a trigger opens a sample set whose
triggering tick is this one and in which no segment has arrived; with none left open before and system slot 0's action
not on its way, its SEQ and its stamp are those of this tick. Without either the row changes nothing. A conversion
point counts up the MSR index and takes its tick and SEQ, and changes no memory; a window mark, at a new cycle number,
records the frequency cell of the moment, once. Neither changes a register where its system slot's action is not on its
way. Off the grid, or the engine not running, they change nothing. (Which system slot carries which action: log entry
33.) -/
def Obligations.SamplePlan : Prop :=
  (∀ s w, s.lat.running = false ∨ gridTick s = false → exec (.latTrigger w) s = .next s) ∧
  (∀ s w, s.lat.running = true → gridTick s = true → Ends (.latTrigger w) s fun t =>
    t.lat.openSet = true ∧ t.lat.segs = 0 ∧ t.lat.trigAt = s.now) ∧
  (∀ s w, s.lat.running = true → gridTick s = true → s.lat.openSet = false → takeIssued s 0 [0x20] 0 = none →
    Ends (.latTrigger w) s fun t => t.lat.seq = seqNow s ∧ t.lat.prevSeq = s.lat.seq ∧ t.lat.st = s.stamp) ∧
  (∀ s, s.msr.running = true → gridTick s = true → Ends .msrPoint s fun t =>
    t.msr.idx = s.msr.idx + 1 ∧ t.msr.seq = seqNow s ∧ t.msr.at_ = some s.now ∧
      t.msr.links.map (·.1) = s.msr.links.map (·.1) ∧ t.lat = s.lat ∧ t.til = s.til ∧
      (takeIssued s 1 [0x21] 0 = none → t.regs = s.regs ∧ t.mem = s.mem)) ∧
  (∀ s, s.msr.running = false ∨ gridTick s = false → exec .msrPoint s = .next s) ∧
  (∀ s, s.rd F.TIL_STAT_RUNNING = 1 → cycleNew s = true → Ends .tilthWindow s fun t =>
    (t.til.wz.freqs.any (· / 2 ^ 32 == freqMark t / 2 ^ 32)) = true ∧
      t.til = { s.til with wz := { s.til.wz with freqs := t.til.wz.freqs } } ∧
      (takeIssued s 2 [0x22] 0 = none → t.regs = s.regs ∧ t.mem = s.mem)) ∧
  (∀ s, s.rd F.TIL_STAT_RUNNING = 0 ∨ cycleNew s = false → exec .tilthWindow s = .next s)

/-- With the window of plant time in service: an offset or GO written by anyone but the supervisor is answered 0x0207;
an offset with the servo off or a step pending is answered 0 and changes nothing else. One above STEP_THR, in FREERUN
or with STEP_EN, schedules a step by the nearest number of sample periods; any other is an update. A step is applied as
plant time reaches a multiple of 250 µs: it subtracts k sample periods, clears STEPPING and leaves LOCKING; where it
goes back in time and no reference frames are on, no register changes but the step's. Before that, or with none
pending, nothing changes. GO is refused with 0x0303 while a step is pending, and outside FREERUN without STEP_EN; else
it schedules the step to PT_SET. Without updates for PT_HO_TMO the servo runs on in HOLDOVER at NOMINAL + i, and no
register changes but STATE and PT_ADDEND; before that time, or in FREERUN or HOLDOVER, nothing changes. A read of
PT_NOW_NS answers the nanoseconds and latches the seconds. -/
def Obligations.PlantTimeServo : Prop :=
  (∀ s r ns, windowDead s F.PT_OFS_NS_NS.addr = false → r ≠ .supervisor →
    exec (.ptOffsetUpdate r ns) s = .next (s.status 0x0207)) ∧
  (∀ s ns, windowDead s F.PT_OFS_NS_NS.addr = false → s.rd F.PT_CTL_SERVO_EN = 0 ∨ s.rd F.PT_STAT_STEPPING = 1 →
    exec (.ptOffsetUpdate .supervisor ns) s = .next (s.status 0)) ∧
  (∀ s (ns : Word) (o : Int), windowDead s F.PT_OFS_NS_NS.addr = false → s.rd F.PT_CTL_SERVO_EN = 1 →
    s.rd F.PT_STAT_STEPPING = 0 → o = toInt 32 ns.toNat * 65536 + (s.rd F.PT_OFS_FRAC_FRAC : Int) →
    65536 * (s.rd F.PT_STEP_THR_THR : Int) < |o| → s.rd F.PT_STAT_STATE = 0 ∨ s.rd F.PT_CTL_STEP_EN = 1 →
    Ends (.ptOffsetUpdate .supervisor ns) s fun t =>
      t.rd F.PT_STAT_STEPPING = 1 ∧ t.pt = { s.pt with stepK := ptStepK o, heldFrom := s.now } ∧ t.resp = ⟨0, 0⟩ ∧
        s.RegsBut t [F.PT_OFS_NS_NS, F.PT_STAT_STEPPING]) ∧
  (∀ s (ns : Word) (o : Int), windowDead s F.PT_OFS_NS_NS.addr = false → s.rd F.PT_CTL_SERVO_EN = 1 →
    s.rd F.PT_STAT_STEPPING = 0 → o = toInt 32 ns.toNat * 65536 + (s.rd F.PT_OFS_FRAC_FRAC : Int) →
    |o| ≤ 65536 * (s.rd F.PT_STEP_THR_THR : Int) ∨ (s.rd F.PT_STAT_STATE ≠ 0 ∧ s.rd F.PT_CTL_STEP_EN = 0) →
    exec (.ptOffsetUpdate .supervisor ns) s = .next ((ptUpdate (s.wr F.PT_OFS_NS_NS ns.toNat) o).status 0)) ∧
  (∀ s, s.rd F.PT_STAT_STEPPING = 1 → gridTick s = true → Ends .ptStepApply s fun t =>
    t.rd F.PT_STAT_STEPPING = 0 ∧ t.rd F.PT_STAT_STATE = 1 ∧ t.pt.stepK = 0 ∧ t.pt.lastUpd = none ∧ t.pt.stepSet = true ∧
      (t.ptNs : Int) = ((s.ptNs : Int) - s.pt.stepK * 250000) % (2 ^ 48 * 1000000000) ∧
      (0 ≤ s.pt.stepK → (∀ i, i < 8 → s.rd (F.PT_CANREF_CFG_EN i) = 0) →
        s.RegsBut t [F.PT_STAT_STEPPING, F.PT_STAT_STATE, F.PT_STEP_CNT_CNT, F.PT_LAST_STEP_LO_K_LO, F.PT_LAST_STEP_HI_K_HI])) ∧
  (∀ s, s.rd F.PT_STAT_STEPPING = 0 ∨ gridTick s = false → exec .ptStepApply s = .next s) ∧
  (∀ s r, windowDead s F.PT_SET_CMD_GO.addr = false → r ≠ .supervisor → exec (.ptSetGo r) s = .next (s.status 0x0207)) ∧
  (∀ s, windowDead s F.PT_SET_CMD_GO.addr = false →
    s.rd F.PT_STAT_STEPPING = 1 ∨ (s.rd F.PT_STAT_STATE ≠ 0 ∧ s.rd F.PT_CTL_STEP_EN = 0) →
    exec (.ptSetGo .supervisor) s = .next (s.status 0x0303)) ∧
  (∀ s, windowDead s F.PT_SET_CMD_GO.addr = false → s.rd F.PT_STAT_STEPPING = 0 →
    s.rd F.PT_STAT_STATE = 0 ∨ s.rd F.PT_CTL_STEP_EN = 1 → Ends (.ptSetGo .supervisor) s fun t =>
    t.rd F.PT_STAT_STEPPING = 1 ∧ t.resp = ⟨0, 0⟩ ∧ s.RegsBut t [F.PT_STAT_STEPPING] ∧
      t.pt.stepK = ptStepK (((s.ptNs : Int) - ((s.rd F.PT_SET_S_LO_S_LO + 2 ^ 32 * s.rd F.PT_SET_S_HI_S_HI) * 1000000000 +
        s.rd F.PT_SET_NS_NS : Nat)) * 65536)) ∧
  (∀ s, s.rd F.PT_STAT_STATE = 1 ∨ s.rd F.PT_STAT_STATE = 2 →
    s.pt.heldFrom + 80000 * max 1 (s.rd F.PT_HO_TMO_TMO) ≤ s.now → Ends .ptHoldoverTimeout s fun t =>
    t.rd F.PT_STAT_STATE = 3 ∧ t.pt.r = ptI s ∧ t.pt.lastUpd = none ∧
      s.RegsBut t [F.PT_STAT_STATE, F.PT_ADDEND_INT_INT, F.PT_ADDEND_FRAC_FRAC]) ∧
  (∀ s, (s.rd F.PT_STAT_STATE ≠ 1 ∧ s.rd F.PT_STAT_STATE ≠ 2) ∨ s.now < s.pt.heldFrom + 80000 * max 1 (s.rd F.PT_HO_TMO_TMO) →
    exec .ptHoldoverTimeout s = .next s) ∧
  (∀ s, windowDead s F.PT_NOW_NS_NS.addr = false → Ends .ptNowRead s fun t =>
    t.resp = ⟨0, s.pt.ns.toNat⟩ ∧ t.rd F.PT_NOW_S_LO_S_LO = s.pt.sec.toNat % 2 ^ 32 ∧
    t.rd F.PT_NOW_S_HI_S_HI = s.pt.sec.toNat / 2 ^ 32 ∧ s.RegsBut t [F.PT_NOW_NS_NS, F.PT_NOW_S_LO_S_LO, F.PT_NOW_S_HI_S_HI])

/-- An Ethernet link comes up outside SEATING and DORMANCY, in them the row changes nothing, and goes down at any time.
A good frame on an enabled port with a link goes to the port's receive queue with its header, a PTP event frame with
its timestamp; on a port that is off, without a link, or with a bad check sequence it is dropped. With the port enabled
and its link up: a packet without LAUNCH at the head of the transmit queue is sent, one with LAUNCH only by its launch
row, in the tick that its time names; one whose time lies ahead within LAUNCH_MAX waits, one further ahead is dropped
and counted. A read of ETH_TXTS_NS takes the oldest transmit stamp, and answers 0 when there is none. A CAN controller
without EN sends no reference frames. An enabled one advances its SEQ at each period and, in LOCKED or HOLDOVER or with
FREERUN_TX, has its SYNC pending after it. After a SYNC was acknowledged its FUP is handed over once, where such frames
may be sent, and withheld elsewhere (log entry 66); without one the row changes nothing. A FUP still unsent 10 ms after
its SYNC is withdrawn and counted; before that nothing changes. -/
def Obligations.TimePorts : Prop :=
  (∀ s p, s.mode ≠ mSEATING → s.mode ≠ mDORMANCY → Ends (.ethLinkUp p) s fun t =>
    t.rd (F.ETH_STAT_LINK p) = 1 ∧ (s.girth.clkBad.getLsbD 5 = false → s.OnlyRegs t [F.ETH_STAT_LINK p])) ∧
  (∀ s p, s.mode = mSEATING ∨ s.mode = mDORMANCY → exec (.ethLinkUp p) s = .next s) ∧
  (∀ s p, Ends (.ethLinkDown p) s fun t => t.rd (F.ETH_STAT_LINK p) = 0 ∧ s.OnlyRegs t [F.ETH_STAT_LINK p]) ∧
  (∀ s (p : Fin 2) frame sub, s.rd (F.ETH_CTL_EN p) = 1 → s.rd (F.ETH_STAT_LINK p) = 1 → isPtpEvent frame = false →
    s.rd (F.ETH_CTL_RX_TS_ALL p) = 0 → exec (.ethFrameRx p frame true sub) s = .next (hwPost s (s.rd (F.ETH_QUEUES_RXQ p))
      ([BitVec.ofNat 32 (frame.length % 65536), 0, 0, 0] ++ toWords frame))) ∧
  (∀ s (p : Fin 2) frame sub, s.rd (F.ETH_CTL_EN p) = 1 → s.rd (F.ETH_STAT_LINK p) = 1 → isPtpEvent frame = true →
    exec (.ethFrameRx p frame true sub) s = .next (hwPost s (s.rd (F.ETH_QUEUES_RXQ p))
      ([BitVec.ofNat 32 (frame.length % 65536 + 196608), BitVec.ofNat 32 s.pt.sec.toNat,
        BitVec.ofNat 32 (s.pt.sec.toNat / 2 ^ 32 + 65536 * sub.val), BitVec.ofNat 32 s.pt.ns.toNat] ++ toWords frame))) ∧
  (∀ s p frame ok sub, s.rd (F.ETH_CTL_EN p.val) = 0 ∨ s.rd (F.ETH_STAT_LINK p.val) = 0 ∨ ok = false →
    exec (.ethFrameRx p frame ok sub) s = .next s) ∧
  (∀ s (p : Fin 2) sub ws u, s.rd (F.ETH_CTL_EN p) = 1 → s.rd (F.ETH_STAT_LINK p) = 1 → ethHead s p = some (ws, u) →
    ethLaunches ws = false → Ends (.ethFrameTx p sub) s fun t =>
      t = ethSend u p 1 sub ws ∧ (u.out ++ [.eth p ((wordBytes (ws.drop 1)).take (ws.headD 0 % 65536)) u.stamp]) = t.out) ∧
  (∀ s (p : Fin 2) sub ws u, ethHead s p = some (ws, u) → ethLaunches ws = true → exec (.ethFrameTx p sub) s = .next s) ∧
  (∀ s (p : Fin 2) sub ws u, s.rd (F.ETH_CTL_EN p) = 1 → s.rd (F.ETH_STAT_LINK p) = 1 → ethHead s p = some (ws, u) →
    ethLaunches ws = true →
    s.ptNs = (ws.getD 1 0 + 2 ^ 32 * (ws.getD 2 0 % 65536)) * 1000000000 + ws.getD 3 0 % 2 ^ 30 →
    exec (.ethLaunch p sub) s = .next (ethSend u p 4 sub ws)) ∧
  (∀ s (p : Fin 2) sub ws u, ethHead s p = some (ws, u) → ethLaunches ws = false → exec (.ethLaunch p sub) s = .next s) ∧
  (∀ s (p : Fin 2) sub ws u at_, s.rd (F.ETH_CTL_EN p) = 1 → s.rd (F.ETH_STAT_LINK p) = 1 → ethHead s p = some (ws, u) →
    ethLaunches ws = true → at_ = (ws.getD 1 0 + 2 ^ 32 * (ws.getD 2 0 % 65536)) * 1000000000 + ws.getD 3 0 % 2 ^ 30 →
    (s.ptNs + 13 < at_ → at_ ≤ s.ptNs + 1000000 * s.rd (F.ETH_LAUNCH_MAX_MAX p) → exec (.ethLaunch p sub) s = .next s) ∧
    (s.ptNs + 1000000 * s.rd (F.ETH_LAUNCH_MAX_MAX p) < at_ →
      exec (.ethLaunch p sub) s = .next (u.incSat (F.ETH_TS_STAT_DROP_CNT p)))) ∧
  (∀ s e l, windowDead s (F.ETH_TXTS_NS_NS 0).addr = false → s.pt.txts0 = e :: l → Ends (.ethTxtsRead 0) s fun t =>
    t.resp = ⟨0, e.pt.ns.toNat + 2 ^ 31⟩ ∧ t.pt = { s.pt with txts0 := l } ∧ t.rd (F.ETH_TXTS_S_LO_S_LO 0) = e.pt.sec.toNat % 2 ^ 32) ∧
  (∀ s e l, windowDead s (F.ETH_TXTS_NS_NS 1).addr = false → s.pt.txts1 = e :: l → Ends (.ethTxtsRead 1) s fun t =>
    t.resp = ⟨0, e.pt.ns.toNat + 2 ^ 31⟩ ∧ t.pt = { s.pt with txts1 := l } ∧ t.rd (F.ETH_TXTS_S_LO_S_LO 1) = e.pt.sec.toNat % 2 ^ 32) ∧
  (∀ s, windowDead s (F.ETH_TXTS_NS_NS 0).addr = false → s.pt.txts0 = [] → Ends (.ethTxtsRead 0) s fun t => t.resp = ⟨0, 0⟩ ∧ t.pt = s.pt) ∧
  (∀ s i, s.rd (F.PT_CANREF_CFG_EN i.val) = 0 → exec (.canrefSync i) s = .next s) ∧
  (∀ s (i : Fin 8), s.rd (F.PT_CANREF_CFG_EN i) = 1 → Ends (.canrefSync i) s fun t =>
    t.rd (F.PT_CANREF_STAT_SEQ i) = (s.rd (F.PT_CANREF_STAT_SEQ i) + 1) % 2 ^ (F.PT_CANREF_STAT_SEQ i).w ∧
      t.pt.syncPend.getLsbD i = canrefOn s i ∧ t.pt.sec = s.pt.sec ∧ t.pt.ns = s.pt.ns) ∧
  (∀ s (i : Fin 8), s.pt.syncAcked.getLsbD i = false → exec (.canrefFup i) s = .next s) ∧
  (∀ s (i : Fin 8), s.pt.syncAcked.getLsbD i = true → Ends (.canrefFup i) s fun t =>
    t.pt.syncAcked = s.pt.syncAcked &&& ~~~BitVec.ofNat 8 (2 ^ i.val) ∧ t.pt.fupPend = s.pt.fupPend ∧ t.mem = s.mem ∧
      (canrefOn s i = false → t.can = s.can ∧ t.regs = s.regs)) ∧
  (∀ s (i : Fin 8), s.pt.fupPend.getLsbD i = false ∨ s.now < s.pt.fupAt.get i s.now + 800000 →
    exec (.canrefFupAbort i) s = .next s) ∧
  (∀ s (i : Fin 8), s.pt.fupPend.getLsbD i = true → s.pt.fupAt.get i s.now + 800000 ≤ s.now → Ends (.canrefFupAbort i) s fun t =>
    t.pt.fupPend = s.pt.fupPend &&& ~~~BitVec.ofNat 8 (2 ^ i.val) ∧ t.pt.syncPend = s.pt.syncPend ∧
      t.rd (F.PT_CANREF_STAT_MISSED i) = min (s.rd (F.PT_CANREF_STAT_MISSED i) + 1) (2 ^ (F.PT_CANREF_STAT_MISSED i).w - 1))

/-- A line end or receiver that runs shows its link, and no other register changes; one that does not run sees nothing.
A lost link shows 0. In an open set, 24 µs after its trigger, a train with the set's SEQ leaves every active end, once;
else the row changes nothing. A train for a ring that is off, or of another type, changes nothing; one without segments
whose header fails its CRC counts an error. The deadline closes an open set of an earlier trigger as plant time reaches
a multiple of 250 µs; else it changes nothing. A trigger heard from the partner is noted, and changes no register. With
no trigger for 4 periods a module that is not master, has stopped listening and whose own end is not active notes that
it is to trigger, and changes no register; before that, or as the master, nothing changes. A LINK_DOWN frame of node n
sets the end's reach to the nodes from that end to n; for a ring that is off it changes nothing. -/
def Obligations.RingsAndLinks : Prop :=
  (∀ s c e, s.lat.running = true → Ends (.linkUp (.lat c e)) s fun t =>
    t.rd (if e then F.LAT_RSTAT_LINK_B c else F.LAT_RSTAT_LINK_A c) = 1 ∧ (t.ring c).wired.getLsbD e.toNat = true ∧
      s.RegsBut t [F.LAT_RSTAT_LINK_B c, F.LAT_RSTAT_LINK_A c]) ∧
  (∀ s c e, s.lat.running = false → exec (.linkUp (.lat c e)) s = .next s) ∧
  (∀ s m, s.msr.running = false → exec (.linkUp (.msr m)) s = .next s) ∧
  (∀ s m, s.msr.running = true → Ends (.linkUp (.msr m)) s fun t => t.rd (F.MSR_LSTAT_LINK m) = 1 ∧ s.RegsBut t [F.MSR_LSTAT_LINK m]) ∧
  (∀ s c e, Ends (.linkLoss (.lat c e)) s fun t => t.rd (if e then F.LAT_RSTAT_LINK_B c else F.LAT_RSTAT_LINK_A c) = 0 ∧
    s.OnlyRegs t [F.LAT_RSTAT_LINK_B c, F.LAT_RSTAT_LINK_A c]) ∧
  (∀ s m, Ends (.linkLoss (.msr m)) s fun t => t.rd (F.MSR_LSTAT_LINK m) = 0 ∧ s.OnlyRegs t [F.MSR_LSTAT_LINK m]) ∧
  (∀ s, s.lat.openSet = true → s.lat.trained = false → s.lat.trigAt + 1920 ≤ s.now → Ends .trainOriginate s fun t =>
    s.out <+: t.out ∧ t = { s with out := t.out, lat := { s.lat with trained := true } } ∧
      ∀ c e, c < 12 → latActive s c e = true →
        .latTrain c e (withCrc (le 1 0x10 ++ le 1 (endAddr e) ++ le 2 s.lat.seq ++ le 2 0)) ∈ t.out) ∧
  (∀ s, s.lat.openSet = false ∨ s.lat.trained = true ∨ s.now < s.lat.trigAt + 1920 → exec .trainOriginate s = .next s) ∧
  (∀ s (c : Fin 12) e b abt, latOn s c = false ∨ byteNat b 0 ≠ 0x10 → exec (.trainRx c e b abt) s = .next s) ∧
  (∀ s (c : Fin 12) e b abt, latOn s c = true → byteNat b 0 = 0x10 → b.length = 8 → crc16 (b.take 6) ≠ halfNat b 6 →
    exec (.trainRx c e b abt) s = .next (latDegrade (latCrcErr s c) c)) ∧
  (∀ s, s.lat.openSet = false ∨ gridTick s = false ∨ s.lat.trigAt = s.now → exec .setDeadline s = .next s) ∧
  (∀ s, s.lat.openSet = true → gridTick s = true → s.lat.trigAt ≠ s.now → Ends .setDeadline s fun t => t.lat.openSet = false ∧ t.lat.seen = true ∧ t.pt.stepSet = false) ∧
  (∀ s c, Ends (.triggerRx c) s fun t => t.lat.partnerAt = some s.now ∧ t.girth = { s.girth with partnerRing := true } ∧
    (t.ring c).rxNow = true ∧ (t.ring c).absent = false ∧ ((s.ring c).listening = true → (t.ring c).heard = true) ∧ t.regs = s.regs) ∧
  (∀ s (c : Fin 12), latOn s c = true → s.rd (F.LAT_RSTAT_MASTER c) = 0 → (s.ring c).listening = false → (s.ring c).rxMiss = 4 →
    latActive s c (latOwn s) = false → Ends (.triggerAbsent c) s fun t =>
      t.ring c = { s.ring c with absent := true, r197 := true, rxRun := 0 } ∧ t.regs = s.regs) ∧
  (∀ s c, s.rd (F.LAT_RSTAT_MASTER c.val) = 1 ∨ (s.ring c.val).rxMiss ≠ 4 → exec (.triggerAbsent c) s = .next s) ∧
  (∀ s c e n, latOn s c.val = false → exec (.linkDownRx c e n) s = .next s) ∧
  (∀ s (c : Fin 12) (n : Fin 24), latOn s c = true → Ends (.linkDownRx c false n) s fun t =>
    latReach (t.ring c) false = nodeSpan 0 n ∧ t.mode = s.mode) ∧
  (∀ s (c : Fin 12) (n : Fin 24), latOn s c = true → Ends (.linkDownRx c true n) s fun t =>
    latReach (t.ring c) true = nodeSpan n (latNodes s c - 1) ∧ t.mode = s.mode)

/-- With Latigo's window in service a ring command of anyone but the supervisor or Stitch is answered 0x0207 and
changes nothing else; an accepted one is answered 0. On a ring that runs, that the module masters and that has a linked
end, a forced or filling enumeration starts at the first such end and sets ENUM_BUSY; one asked for while another runs
follows it. REMEASURE changes no register; ACCEPT_MAP stores the 192 bytes of the present UIDs. An ENUM_END without an
enumeration, or from the other end, changes nothing. With end A alone linked its VALUE ends the enumeration: ENUM_OK
where it is at least NODES, else UNREACHED. One from end B is evaluated with what end A answered. Without an answer for
1 ms the ENUM is sent again, up to three times in all; then ENUM_MISMATCH is set; before the 1 ms nothing changes.
Fewer than 16 round trips are collected and nothing is sent. CELLS and SENSORS that are read are shown. A COMP write
that is acknowledged with its value clears the port's UNCAL. NACK has no effect (log entry 37). -/
def Obligations.RingEnumeration : Prop :=
  (∀ s r (c : Fin 12), windowDead s (F.LAT_RCMD_CMD c).addr = false → r.supOrStitch = false →
    exec (.enumForce r c) s = .next (s.status 0x0207) ∧ exec (.enumFill r c) s = .next (s.status 0x0207) ∧
    exec (.remeasure r c) s = .next (s.status 0x0207) ∧ exec (.acceptMap r c) s = .next (s.status 0x0207) ∧
    exec (.pass r c) s = .next (s.status 0x0207)) ∧
  (∀ s r (c : Fin 12) z, windowDead s (F.LAT_RCMD_CMD c).addr = false → r.supOrStitch = true → latOn s c = true →
    s.rd (F.LAT_RSTAT_MASTER c) = 1 → (s.ring c).enum_ = some z →
    exec (.enumForce r c) s = .next ((s.setRing c { s.ring c with wantForce := true }).status 0) ∧
    exec (.enumFill r c) s = .next ((s.setRing c { s.ring c with wantFill := true }).status 0)) ∧
  (∀ s r (c : Fin 12) e l, windowDead s (F.LAT_RCMD_CMD c).addr = false → r.supOrStitch = true → latOn s c = true → s.rd (F.LAT_RSTAT_MASTER c) = 1 → (s.ring c).enum_ = none →
    latEnds s c = e :: l →
    (Ends (.enumForce r c) s fun t => t.rd (F.LAT_RSTAT_ENUM_BUSY c) = 1 ∧ t.resp = ⟨0, 0⟩ ∧
      (t.ring c).enum_ = some { force := true, endB := e, at_ := s.now } ∧ s.RegsBut t [F.LAT_RSTAT_ENUM_BUSY c]) ∧
    (Ends (.enumFill r c) s fun t => t.rd (F.LAT_RSTAT_ENUM_BUSY c) = 1 ∧ t.resp = ⟨0, 0⟩ ∧
      (t.ring c).enum_ = some { force := false, endB := e, at_ := s.now } ∧ s.RegsBut t [F.LAT_RSTAT_ENUM_BUSY c])) ∧
  (∀ s r (c : Fin 12), windowDead s (F.LAT_RCMD_CMD c).addr = false → r.supOrStitch = true → Ends (.remeasure r c) s fun t => t = (latMeasureAll s c).status 0 ∧ t.regs = s.regs) ∧
  (∀ s r (c : Fin 12), windowDead s (F.LAT_RCMD_CMD c).addr = false → r.supOrStitch = true → Ends (.acceptMap r c) s fun t => t.resp = ⟨0, 0⟩ ∧ t.regs = s.regs ∧
    t.settingsBytes.get (objKey (0x2010 + c) 7) [] = latMap t c ∧ (latMap t c).length = 192) ∧
  (∀ s c e v, (s.ring c.val).enum_ = none → exec (.enumEndRx c e v) s = .next s) ∧
  (∀ s (c : Fin 12) v z, (s.ring c).enum_ = some z → z.endB = true →
    exec (.enumEndRx c true v) s = .next (latEvaluate (latFarEnd s c true v.toNat) c { z with vB := some v.toNat })) ∧
  (∀ s (c : Fin 12) v z, (s.ring c).enum_ = some z → z.endB = false → z.vB = none → latUp s c true = false →
    (s.ring c).wantForce = false → (s.ring c).wantFill = false → Ends (.enumEndRx c false v) s fun t =>
      (t.ring c).enum_ = none ∧ t.rd (F.LAT_RSTAT_ENUM_BUSY c) = 0 ∧
        t.rd (F.LAT_RSTAT_ENUM_OK c) = (decide (latNodes s c ≤ v.toNat)).toNat ∧
        (v.toNat < latNodes s c → t.rd (F.LAT_RFLT_UNREACHED c) = 1)) ∧
  (∀ s c e v z, (s.ring c.val).enum_ = some z → z.endB ≠ e → exec (.enumEndRx c e v) s = .next s) ∧
  (∀ s (c : Fin 12) z e l, (s.ring c).enum_ = some z → z.at_ + 80000 ≤ s.now → z.tries < 2 →
    latEnds s c = e :: l → Ends (.enumTimeout c) s fun t =>
    (t.ring c).enum_ = some { z with tries := z.tries + 1, endB := e, vA := none, vB := none, at_ := s.now } ∧ t.regs = s.regs) ∧
  (∀ s (c : Fin 12) z, (s.ring c).enum_ = some z → z.at_ + 80000 ≤ s.now → 2 ≤ z.tries → Ends (.enumTimeout c) s fun t =>
    (t.ring c).enum_ = none ∧ t.rd (F.LAT_RSTAT_ENUM_BUSY c) = 0 ∧ t.rd (F.LAT_RSTAT_ENUM_OK c) = 0 ∧
      t.rd (F.LAT_RFLT_ENUM_MISMATCH c) = 1 ∧ t.mode = s.mode) ∧
  (∀ s (c : Fin 12) z, (s.ring c).enum_ = some z → s.now < z.at_ + 80000 → exec (.enumTimeout c) s = .next s) ∧
  (∀ s (c : Fin 12), (s.ring c).enum_ = none → exec (.enumTimeout c) s = .next s) ∧
  (∀ s (c : Fin 12) e (n : Fin 24) rtt, ((s.ring c).rtt.get (2 * n.val + e.toNat) []).length < 15 → Ends (.echoRx c e n rtt) s fun t =>
    (t.ring c).rtt.get (2 * n.val + e.toNat) [] = rtt.toNat :: (s.ring c).rtt.get (2 * n.val + e.toNat) [] ∧ t.regs = s.regs ∧
      t.out = s.out) ∧
  (∀ s (c : Fin 12) e (n : Fin 24) v, Ends (.readRspRx c e n 0x08 v) s fun t =>
    t.rd (F.LAT_NSTAT_CELLS c n) = v.toNat ∧ s.OnlyRegs t [F.LAT_NSTAT_CELLS c n]) ∧
  (∀ s (c : Fin 12) e (n : Fin 24) v, Ends (.readRspRx c e n 0x09 v) s fun t =>
    t.rd (F.LAT_NSENS_SENSORS c n) = v.toNat % 256 ∧ s.OnlyRegs t [F.LAT_NSENS_SENSORS c n]) ∧
  (∀ s (c : Fin 12) (n : Fin 24) v, (s.ring c).comp.find? (2 * n.val) = some v.toNat →
    exec (.writeAckRx c false n 0x11 v) s = .next (latDegrade (s.wr (F.LAT_NSTAT_UNCAL_U c n) 0) c)) ∧
  (∀ s (c : Fin 12) (n : Fin 24) v, (s.ring c).comp.find? (2 * n.val + 1) = some v.toNat →
    exec (.writeAckRx c true n 0x12 v) s = .next (latDegrade (s.wr (F.LAT_NSTAT_UNCAL_D c n) 0) c)) ∧
  (∀ s c e n v, exec (.nackRx c e n v) s = .next s)

/-- When the listen of no ring is under way its end changes only EXTRACT_OK and the substate. A ring whose listen has
lasted 2 ms on side A, 6 ms on side B, is mastered and enumerated with FORCE where no trigger was heard and no span
mismatch holds, and left to the partner where one was heard. PASS, with the window in service, is answered 0: a master
without span mismatch offers the ring with SEQ_last eight sets ahead, and no register changes; otherwise nothing else
changes. A request to take a ring is answered in every case and changes no register; outside RUN or in a span mismatch
it is refused, and an accepted one is kept with its SEQ_last. The partner's acceptance fixes an offer; without an
answer for 2 ms, outside HANDOFF, the offer ends and PASS_FAIL is set. Without an offer, or before the 2 ms, nothing
changes. The control window, once in a set and 222 µs after the trigger, changes neither register nor memory; else
nothing changes. -/
def Obligations.RingMastership : Prop :=
  (∀ s, (∀ c, c < 12 → (s.ring c).listening = false) → Ends .mastershipListenEnd s fun t =>
    s.OnlyRegs t [F.SEAT_STAT_EXTRACT_OK, F.GIRTH_MODE_SUBSTATE]) ∧
  (∀ s c, latOn s c = true → (s.ring c).listening = true → (s.ring c).heard = false → s.girth.unpaired = false →
    (s.ring c).startAt + (if s.rd F.SEAT_STAT_SIDE = 0 then 160000 else 480000) ≤ s.now → latListenEnd c s = latEnumStart ((s.setRing c { s.ring c with listening := false }).wr (F.LAT_RSTAT_MASTER c) 1) c true) ∧
  (∀ s c, latOn s c = true → (s.ring c).listening = true → (s.ring c).heard = true →
    (s.ring c).startAt + (if s.rd F.SEAT_STAT_SIDE = 0 then 160000 else 480000) ≤ s.now →
    latListenEnd c s = s.setRing c { s.ring c with listening := false }) ∧
  (∀ s, exec .mastershipListenEnd s = .next (subSync (forN latListenEnd 12 s))) ∧
  (∀ s r (c : Fin 12), windowDead s (F.LAT_RCMD_CMD c).addr = false → r.supOrStitch = true →
    s.rd (F.LAT_RSTAT_MASTER c) = 0 ∨ s.girth.unpaired = true → exec (.pass r c) s = .next (s.status 0)) ∧
  (∀ s r (c : Fin 12), windowDead s (F.LAT_RCMD_CMD c).addr = false → r.supOrStitch = true → s.rd (F.LAT_RSTAT_MASTER c) = 1 → s.girth.unpaired = false → Ends (.pass r c) s fun t =>
    (t.ring c).passOffer = some ((s.lat.seq + 8) % 40000) ∧ t.out = s.out ++ [.xl (.ringPass c ((s.lat.seq + 8) % 40000))] ∧
      t.regs = s.regs ∧ t.resp = ⟨0, 0⟩) ∧
  (∀ s (c : Fin 12) l, s.mode ≠ mRUN ∨ s.girth.unpaired = true → Ends (.ringPassRequest c l) s fun t =>
    t = s.emit (.xl (.ringPassAnswer c false))) ∧
  (∀ s (c : Fin 12) l, Ends (.ringPassRequest c l) s fun t => ∃ ok, t.out = s.out ++ [.xl (.ringPassAnswer c ok)] ∧ t.regs = s.regs ∧
    (ok = true → (t.ring c).passIn = some l.val) ∧ (ok = false → t.lat = s.lat)) ∧
  (∀ s (c : Fin 12) l, (s.ring c).passOffer = some l → Ends (.ringPassAcceptRx c) s fun t =>
    t.ring c = { s.ring c with passOffer := none, passOut := some l } ∧ t.regs = s.regs ∧ t.out = s.out) ∧
  (∀ s c, (s.ring c.val).passOffer = none → exec (.ringPassAcceptRx c) s = .next s ∧ exec (.ringPassTimeout c) s = .next s) ∧
  (∀ s (c : Fin 12) l, (s.ring c).passOffer = some l → (s.ring c).passAt + 160000 ≤ s.now → s.mode ≠ mHANDOFF →
    Ends (.ringPassTimeout c) s fun t =>
    t.rd (F.LAT_RFLT_PASS_FAIL c) = 1 ∧ t.ring c = { s.ring c with passOffer := none } ∧ s.RegsBut t [F.LAT_RFLT_PASS_FAIL c]) ∧
  (∀ s (c : Fin 12), s.now < (s.ring c).passAt + 160000 → exec (.ringPassTimeout c) s = .next s) ∧
  (∀ s, Ends .latControlWindow s fun t => t.regs = s.regs ∧ s.out <+: t.out ∧ t.mem = s.mem) ∧
  (∀ s, s.lat.running = false ∨ s.lat.window = true ∨ s.now < s.lat.trigAt + 17760 → exec .latControlWindow s = .next s)

/-- With Furrow's window in service: a write of the producer page (Q_WR or Q_WR_END) by the producer with no credit is
answered 0x0305 and sets OVERRUN; its word is not stored. When no packet is open the queues' contents, memory and every
other register are unchanged; an open packet is closed by a zero word with END and POISON set. The MAXPKT-th word
written without END is stored with END and POISON and sets TRUNC; no packet is then open, and the next word written,
MAXPKT being above 1, opens a new one with the priority and POISON_NEXT that stand. -/
def Obligations.FurrowCredit : Prop :=
  (∀ s r (q : Fin 64) d c, (c = .qWr r q d ∧ windowDead s (0x20480008 + 0x1000 * q) = false ∨
      c = .qWrEnd r q d ∧ windowDead s (0x2048000C + 0x1000 * q) = false) → isProducer s r q = true → queueCredit s q = 0 →
    (s.queue q).opn = none → Ends c s fun t =>
      t.resp = ⟨0x0305, 0⟩ ∧ t.rd (F.Q_FLT_OVERRUN q) = 1 ∧ t.q = s.q ∧ t.mem = s.mem ∧ s.RegsBut t [F.Q_FLT_OVERRUN q]) ∧
  (∀ s r (q : Fin 64) d c k, (c = .qWr r q d ∧ windowDead s (0x20480008 + 0x1000 * q) = false ∨
      c = .qWrEnd r q d ∧ windowDead s (0x2048000C + 0x1000 * q) = false) → isProducer s r q = true → queueCredit s q = 0 →
    (s.queue q).opn = some k → Ends c s fun t =>
      t.resp = ⟨0x0305, 0⟩ ∧ t.rd (F.Q_FLT_OVERRUN q) = 1 ∧ ∃ pos, t.queue q =
        { s.queue q with opn := none, poisonNext := false, wordAt := s.now,
                         fill := (s.queue q).fill ++ [{ k with words := k.words ++ [⟨0, true, true, pos⟩] }] }) ∧
  (∀ s r (q : Fin 64) d k, windowDead s (0x20480008 + 0x1000 * q) = false → isProducer s r q = true → queueCredit s q ≠ 0 →
    (s.queue q).opn = some k → k.words.length + 1 = maxPkt s q → Ends (.qWr r q d) s fun t =>
      t.resp = ⟨0, 0⟩ ∧ t.rd (F.Q_FLT_TRUNC q) = 1 ∧ t.queue q =
        { s.queue q with opn := none, poisonNext := false, wordAt := s.now,
                         fill := (s.queue q).fill ++ [{ k with words := k.words ++ [⟨d, true, true, some (furPos s q)⟩] }] }) ∧
  (∀ s r (q : Fin 64) d, windowDead s (0x20480008 + 0x1000 * q) = false → isProducer s r q = true → queueCredit s q ≠ 0 →
    (s.queue q).opn = none → 1 < maxPkt s q → Ends (.qWr r q d) s fun t => t.resp = ⟨0, 0⟩ ∧ t.queue q =
      { s.queue q with poisonNext := false, wordAt := s.now,
                       opn := some ⟨(s.queue q).prio, [⟨d, false, (s.queue q).poisonNext, some (furPos s q)⟩]⟩ })

/-- With Furrow's window in service the producer page answers anyone but the queue's producer 0x0206 and changes
nothing else. For the producer with credit: a word with END closes the packet it belongs to, keeping the packet's
priority, and leaves every other queue's contents; one without END, below MAXPKT, is appended to the open packet. The
word is stored at its position of Furrow SRAM. PRIO and POISON_NEXT are kept for what is written next; ABORT closes an
open packet with a poisoned zero word and does nothing when none is open. Each is answered 0. -/
def Obligations.FurrowProducer : Prop :=
  (∀ s r (q : Fin 64) d k c, windowDead s (0x20480004 + 0x1000 * q) = false → 
    windowDead s (0x20480008 + 0x1000 * q) = false → windowDead s (0x2048000C + 0x1000 * q) = false →
    c = .qWr r q d ∨ c = .qWrEnd r q d ∨ c = .qPctlPrio r q k ∨ c = .poisonNext r q ∨ c = .abortCmd r q →
    isProducer s r q = false → exec c s = .next (s.status 0x0206)) ∧
  (∀ s r (q : Fin 64) d, windowDead s (0x2048000C + 0x1000 * q) = false → isProducer s r q = true → queueCredit s q ≠ 0 →
    Ends (.qWrEnd r q d) s fun t => t.resp = ⟨0, 0⟩ ∧ (∀ j, j ≠ q.val → t.queue j = s.queue j) ∧
    (s.Canon → t.numAt (furSramAddr (furPos s q)) 4 = d.toNat) ∧
    t.queue q = (let x := s.queue q
      let k := x.opn.getD ⟨x.prio, []⟩
      { x with opn := none, poisonNext := false, wordAt := s.now,
               fill := x.fill ++ [{ k with words := k.words ++ [⟨d, true, x.poisonNext, some (furPos s q)⟩] }] })) ∧
  (∀ s r (q : Fin 64) d k, windowDead s (0x20480008 + 0x1000 * q) = false → isProducer s r q = true → queueCredit s q ≠ 0 →
    (s.queue q).opn = some k → k.words.length + 1 < maxPkt s q → Ends (.qWr r q d) s fun t => t.resp = ⟨0, 0⟩ ∧ t.queue q =
      { s.queue q with poisonNext := false, wordAt := s.now,
                       opn := some { k with words := k.words ++ [⟨d, false, (s.queue q).poisonNext, some (furPos s q)⟩] } }) ∧
  (∀ s r (q : Fin 64) k, windowDead s (0x20480004 + 0x1000 * q) = false → isProducer s r q = true →
    exec (.qPctlPrio r q k) s = .next ((s.setQueue q { s.queue q with prio := k.val }).status 0)) ∧
  (∀ s r (q : Fin 64), windowDead s (0x20480004 + 0x1000 * q) = false → isProducer s r q = true →
    exec (.poisonNext r q) s = .next ((s.setQueue q { s.queue q with poisonNext := true }).status 0)) ∧
  (∀ s r (q : Fin 64), windowDead s (0x20480004 + 0x1000 * q) = false → isProducer s r q = true → (s.queue q).opn = none →
    exec (.abortCmd r q) s = .next (s.status 0)) ∧
  (∀ s r (q : Fin 64) k, windowDead s (0x20480004 + 0x1000 * q) = false → isProducer s r q = true → (s.queue q).opn = some k →
    Ends (.abortCmd r q) s fun t => t.resp = ⟨0, 0⟩ ∧ ∃ pos, t.queue q =
      { s.queue q with opn := none, poisonNext := false, wordAt := s.now,
                       fill := (s.queue q).fill ++ [{ k with words := k.words ++ [⟨0, true, true, pos⟩] }] })

/-- The packet taken from a bank or a spill image has the lowest PRIO value there, every packet that arrived before it
has a higher value, and the others stay in their order; a bank with a packet in it always gives one. A queue gives from
its draining bank while that holds a packet. -/
def Obligations.FurrowOrder : Prop :=
  (∀ l p rest, takeFirst l = some (p, rest) → ∃ a b, l = a ++ p :: b ∧ rest = a ++ b ∧
    (∀ x ∈ a, p.prio < x.prio) ∧ ∀ x ∈ b, p.prio ≤ x.prio) ∧
  (∀ l, takeFirst l = none ↔ l = []) ∧
  (∀ x : QueueSt, x.drain ≠ [] → ∃ p rest, takeFirst x.drain = some (p, rest) ∧ x.next = some (p, { x with drain := rest, selImage := false }))

/-- With Furrow's window in service the consumer page answers anyone but the queue's consumer 0x0206, and no register
changes but the reader's BR_LAST. FLUSH empties the queue and revokes its credits. A read of Q_NEXT answers the header
of the packet it selects, 0 when none waits, and counts no packet as discarded when none was selected. A read of Q_DATA
answers the packet's next word, with 0x0803 when it is poisoned; a word whose parity check fails is answered with
0x0803 too, sets PAR_ERR and records an event of code 0x060A with the queue. With no word left it answers 0 with 0x0306
and sets UNDERRUN. -/
def Obligations.FurrowConsumer : Prop :=
  (∀ s r (q : Fin 64), windowDead s (0x20401030 + 0x40 * q) = false → isConsumer s r q = false → exec (.flush r q) s = .next (s.status 0x0206)) ∧
  (∀ s r (q : Fin 64) e c, (c = .qNextRead r q ∧ windowDead s (0x20440000 + 0x1000 * q) = false ∨
      c = .qDataRead r q e ∧ windowDead s (0x20440004 + 0x1000 * q) = false) → isConsumer s r q = false → Ends c s fun t =>
    t.resp = ⟨0x0206, 0⟩ ∧ t.q = s.q ∧ t.mem = s.mem ∧ s.RegsBut t [F.BR_LAST_STATUS r.issuer, F.BR_LAST_TAG r.issuer, F.BR_LAST_ADDR_LO_ADDR_LO r.issuer,
        F.BR_LAST_ADDR_HI_ADDR_HI r.issuer]) ∧
  (∀ s r (q : Fin 64), windowDead s (0x20401030 + 0x40 * q) = false → isConsumer s r q = true → Ends (.flush r q) s fun t =>
    t.resp = ⟨0, 0⟩ ∧ t.queue q = { (s.queue q).emptied with revoked := true } ∧ t.rd (F.Q_CREDIT_CREDIT q) = 0 ∧
      t.rd (F.Q_DSTAT_REMAIN q) = 0 ∧ t.rd (F.Q_PKT_CNT_CNT q) = 0 ∧ t.rd (F.Q_LEVEL_LEVEL q) = 0) ∧
  (∀ s r (q : Fin 64), windowDead s (0x20440000 + 0x1000 * q) = false → isConsumer s r q = true → (s.queue q).drain = [] →
    (s.queue q).spilled = [] → Ends (.qNextRead r q) s fun t => t.resp = ⟨0, 0⟩ ∧ (t.queue q).sel = []) ∧
  (∀ s r (q : Fin 64) p rest, windowDead s (0x20440000 + 0x1000 * q) = false → isConsumer s r q = true →
    takeFirst (s.queue q).drain = some (p, rest) → Ends (.qNextRead r q) s fun t => t.resp = ⟨0, nextHeader p⟩ ∧
      t.queue q = { s.queue q with drain := rest, sel := p.words, selImage := false } ∧
      t.rd (F.Q_DSTAT_REMAIN q) = p.words.length % 2 ^ (F.Q_DSTAT_REMAIN q).w ∧
      ((s.queue q).sel = [] → t.rd (F.Q_CNT_DISCARD_CNT q) = s.rd (F.Q_CNT_DISCARD_CNT q))) ∧
  (∀ s r (q : Fin 64) e, windowDead s (0x20440004 + 0x1000 * q) = false → isConsumer s r q = true → (s.queue q).sel = [] →
    Ends (.qDataRead r q e) s fun t => t.resp = ⟨0x0306, 0⟩ ∧ t.rd (F.Q_FLT_UNDERRUN q) = 1 ∧ t.q = s.q ∧
      s.RegsBut t [F.Q_FLT_UNDERRUN q, F.BR_LAST_STATUS r.issuer, F.BR_LAST_TAG r.issuer, F.BR_LAST_ADDR_LO_ADDR_LO r.issuer,
        F.BR_LAST_ADDR_HI_ADDR_HI r.issuer]) ∧
  (∀ s r (q : Fin 64) w rest, windowDead s (0x20440004 + 0x1000 * q) = false → isConsumer s r q = true →
    (s.queue q).sel = w :: rest → rest ≠ [] → wordBad s w = false →
    Ends (.qDataRead r q false) s fun t => t.resp = ⟨if w.poison then 0x0803 else 0, w.data.toNat⟩ ∧
      t.queue q = { s.queue q with sel := rest } ∧ t.rd (F.Q_DATA_DATA q) = w.data.toNat ∧
      t.rd (F.Q_DSTAT_END q) = w.last.toNat ∧ t.rd (F.Q_DSTAT_POISON q) = w.poison.toNat) ∧
  (∀ s r (q : Fin 64) e w rest, windowDead s (0x20440004 + 0x1000 * q) = false → isConsumer s r q = true →
    (s.queue q).sel = w :: rest → w.pos.isSome = true → e = true ∨ wordBad s w = true →
    Ends (.qDataRead r q e) s fun t => t.resp = ⟨0x0803, w.data.toNat⟩ ∧ t.rd F.FUR_FLT_PAR_ERR = 1 ∧
      t.rd (F.Q_DSTAT_POISON q) = 1 ∧ t.faults = s.faults ++ [⟨0x060A, q, s.stamp⟩])

/-- A hardware packet for a queue whose consumer is not under reset is written whole, at HWPRIO, when the filling bank
holds it beside the credit (as it stood before a top-up of the same tick); otherwise it is lost, and no register
changes but LOST and its count. A swap makes the filling bank the draining one; a spill closes the filling bank into an
image, which waits, its words checked, when the copy is done. A packet open for OPEN_TMO without a word is closed by a
poisoned zero word and PKT_TMO is set. Where their conditions do not hold these rows change nothing. Q_CFG, Furrow's
window being in service, is written by the supervisor alone; a queue that fails the checks sets CFG_ERR, is answered
0x0302 and stays off; one that passes is on and answered 0; and one turned off is emptied. -/
def Obligations.FurrowSources : Prop :=
  (∀ s (q : Fin 64) ws, ws ≠ [] → plotResetting s (s.rd (F.Q_OWN_CONS q)) = false → hwRoom s q ws.length = true →
    Ends (.hwPacketWrite q ws) s fun t => t.queue q = { s.queue q with
      fill := (s.queue q).fill ++ [⟨s.rd (F.Q_CFG_HWPRIO q), placeWords (furPos s q) (markLast ws)⟩] }) ∧
  (∀ s (q : Fin 64) ws, ws ≠ [] → plotResetting s (s.rd (F.Q_OWN_CONS q)) = false → hwRoom s q ws.length = false →
    Ends (.hwPacketWrite q ws) s fun t => t.rd (F.Q_FLT_LOST q) = 1 ∧ t.q = s.q ∧ t.mem = s.mem ∧
      s.RegsBut t [F.Q_FLT_LOST q, F.Q_CNT_LOST_CNT q]) ∧
  (∀ s (q : Fin 64), (s.queue q).canSwap = true → Ends (.bankSwap q) s fun t => t.queue q =
    { s.queue q with drain := (s.queue q).fill, fill := [], bank := !(s.queue q).bank,
                     topUp := some (s.now, queueCredit s q) }) ∧
  (∀ s (q : Fin 64), (s.queue q).canSwap = false → exec (.bankSwap q) s = .next s) ∧
  (∀ s (q : Fin 64), canSpill s q = true → Ends (.spillClose q) s fun t => t.queue q =
    { s.queue q with spilling := some (s.queue q).fill, fill := [] }) ∧
  (∀ s (q : Fin 64), canSpill s q = false → exec (.spillClose q) s = .next s) ∧
  (∀ s (q : Fin 64) i, (s.queue q).spilling = some i → (∀ p ∈ i, ∀ w ∈ p.words, wordBad s w = false) →
    Ends (.spillDone q) s fun t => t.queue q = { s.queue q with
      spilling := none, spilled := (s.queue q).spilled ++ [i.map (spillWords s)], images := (s.queue q).images + 1,
      topUp := some (s.now, queueCredit s q) }) ∧
  (∀ s (q : Fin 64), (s.queue q).spilling = none → exec (.spillDone q) s = .next s) ∧
  (∀ s (q : Fin 64) k, s.rd (F.Q_CREDIT_CFG_OPEN_TMO q) ≠ 0 → (s.queue q).opn = some k →
    (s.queue q).wordAt + 800 * s.rd (F.Q_CREDIT_CFG_OPEN_TMO q) ≤ s.now → Ends (.openTmo q) s fun t =>
    t.rd (F.Q_FLT_PKT_TMO q) = 1 ∧ (t.queue q).opn = none ∧
      ∃ pos, (t.queue q).fill = (s.queue q).fill ++ [{ k with words := k.words ++ [⟨0, true, true, pos⟩] }]) ∧
  (∀ s (q : Fin 64), s.rd (F.Q_CREDIT_CFG_OPEN_TMO q) = 0 ∨ (s.queue q).opn = none ∨
    s.now < (s.queue q).wordAt + 800 * s.rd (F.Q_CREDIT_CFG_OPEN_TMO q) → exec (.openTmo q) s = .next s) ∧
  (∀ s r (q : Fin 64) z b h c, windowDead s (0x20401000 + 0x40 * q) = false → c = .qEnable r q z b h ∨ c = .qDisable r q →
    r ≠ .supervisor → exec c s = .next (s.status 0x0207)) ∧
  (∀ s (q : Fin 64) (z : Fin 32) b (h : Fin 8), windowDead s (0x20401000 + 0x40 * q) = false → s.rd (F.Q_CFG_EN q) = 0 →
    let u := ((s.wr (F.Q_CFG_SIZE q) z).wr (F.Q_CFG_SPILL_EN q) b.toNat).wr (F.Q_CFG_HWPRIO q) h
    Ends (.qEnable .supervisor q z b h) s fun t =>
      (queueCfgOk u q = true → t.resp = ⟨0, 0⟩ ∧ t.rd (F.Q_CFG_EN q) = 1 ∧ t.rd (F.Q_CFG_SIZE q) = z ∧ t.q = s.q) ∧
      (queueCfgOk u q = false → t.resp = ⟨0x0302, 0⟩ ∧ t.rd (F.Q_FLT_CFG_ERR q) = 1 ∧ t.rd (F.Q_CFG_EN q) = 0 ∧ t.q = s.q)) ∧
  (∀ s (q : Fin 64), windowDead s (0x20401000 + 0x40 * q) = false → s.rd (F.Q_CFG_EN q) = 1 → Ends (.qDisable .supervisor q) s fun t =>
    t.resp = ⟨0, 0⟩ ∧ t.queue q = (s.queue q).emptied ∧ t.rd (F.Q_CFG_EN q) = 0 ∧ t.rd (F.Q_STAT_XOFF q) = 0 ∧
      t.rd (F.Q_CREDIT_CREDIT q) = 0 ∧ t.rd (F.Q_DSTAT_REMAIN q) = 0)

/-- A receiver that runs, its link enabled, sends the sequence of a conversion in that conversion's due tick, with at
most one waiting control frame after it, and awaits the conversion; no register and no memory changes. It sends none in
another tick, and none while it is off. A frame whose check sequence is wrong, or that has not 11 bytes, sets CRC, and
only CRC and CRC_ERR change. A good frame for the oldest conversion awaited, in time, with no flag, the link's INV
clear, puts the clamped current and voltage into MSR_LAST, ends the wait for it, and changes no byte outside the
conversion's 16. A frame of another PH sets PH_ERR and leaves memory and the link as they were. A conversion not
received by its due tick is given up: its flags byte says STALE, with UNSYNC where its frame came unsynchronised, its
values are free (log entry 1), and no byte outside its 16 changes; before that tick nothing changes. A NACK has no
effect (the model's choice, log entry 38). A write acknowledge of COMP with the value sent clears UNCAL and only that;
any other changes nothing. The first fifteen echoes are kept, the answer to register 0x0A is kept as TA. With the
window in service, MSR_REMEASURE of the supervisor forgets the echoes and queues a read of TA and 16 PINGs behind the
frames that wait; anyone else is answered 0x0207. -/
def Obligations.StringMeasurement : Prop :=
  (∀ s (m : Fin 4) (p : Fin 16) (w : Fin 160), msrOn s m = true → msrDue s m p w = true → (s.link m).ctl = [] → Ends (.msrSyncSend m p w) s fun t =>
    t.out = s.out ++ [.msrSync m (le 1 w.val ++ le 1 p.val ++ le 1 (0xFF - (w.val ^^^ p.val)))] ∧ t.regs = s.regs ∧ t.mem = s.mem ∧
      t.link m = { s.link m with wait := (s.link m).wait ++ [⟨s.msr.idx, s.msr.seq, p.val, s.now + 2050 - w.val / 5, false⟩] }) ∧
  (∀ s (m : Fin 4) (p : Fin 16) (w : Fin 160) f l, msrOn s m = true → msrDue s m p w = true → (s.link m).ctl = f :: l → Ends (.msrSyncSend m p w) s fun t =>
    t.out = s.out ++ [.msrSync m (le 1 w.val ++ le 1 p.val ++ le 1 (0xFF - (w.val ^^^ p.val))), .msrCtrl m f] ∧
      t.regs = s.regs ∧ t.mem = s.mem ∧ (t.link m).ctl = l ∧
      (t.link m).wait = (s.link m).wait ++ [⟨s.msr.idx, s.msr.seq, p.val, s.now + 2050 - w.val / 5, false⟩]) ∧
  (∀ s (m : Fin 4) (p : Fin 16) (w : Fin 160), msrDue s m p w = false → exec (.msrSyncSend m p w) s = .next s) ∧
  (∀ s (m : Fin 4) p w b c, c = .msrSyncSend m p w ∨ c = .msrFrameRx m b → msrOn s m = false → exec c s = .next s) ∧
  (∀ s (m : Fin 4) b, msrOn s m = true → b.length ≠ 11 ∨ crc16 (b.take 9) ≠ halfNat b 9 → Ends (.msrFrameRx m b) s fun t =>
    t.rd (F.MSR_LFLT_CRC m) = 1 ∧ s.OnlyRegs t [F.MSR_LFLT_CRC m, F.MSR_LCNT_CRC_ERR m]) ∧
  (∀ s (m : Fin 4) b w l, msrOn s m = true → b.length = 11 → byteNat b 0 = 0x60 → crc16 (b.take 9) = halfNat b 9 →
    (s.link m).wait = w :: l → s.now ≤ w.due → byteNat b 1 = w.p → w.p < 16 → s.rd (F.MSR_LCFG_INV m) = 0 →
    Ends (.msrFrameRx m b) s fun t =>
      t.rd (F.MSR_LAST_I_I m) = ofInt 32 (msrClamp (toInt 24 (numIn b 2 3))) ∧
      t.rd (F.MSR_LAST_V_V m) = ofInt 32 (msrClamp (toInt 24 (numIn b 5 3))) ∧ (t.link m).wait = l ∧
      s.MemBut t (convAddr (w.seq % 16) m w.p) 16) ∧
  (∀ s (m : Fin 4) b w l, msrOn s m = true → b.length = 11 → byteNat b 0 = 0x60 → crc16 (b.take 9) = halfNat b 9 →
    (s.link m).wait = w :: l → s.now ≤ w.due → byteNat b 1 ≠ w.p → byteNat b 1 < 16 → Ends (.msrFrameRx m b) s fun t =>
      t.rd (F.MSR_LFLT_PH_ERR m) = 1 ∧ t.mem = s.mem ∧ t.msr = s.msr) ∧
  (∀ s (m : Fin 4), (∀ w l, (s.link m).wait = w :: l → s.now < w.due) → exec (.msrConvDeadline m) s = .next s) ∧
  (∀ s (m : Fin 4) w l, s.Canon → (s.link m).wait = w :: l → w.due ≤ s.now → Ends (.msrConvDeadline m) s fun t =>
    (t.link m).wait = l ∧ t.numAt (convAddr (w.seq % 16) m w.p + 8) 4 = 1 + 32 * w.unsync.toNat ∧ t.free = s.free + 2 ∧
      s.MemBut t (convAddr (w.seq % 16) m w.p) 16) ∧
  (∀ s m x, exec (.msrCtrlReplyRx m (.nack x)) s = .next s) ∧
  (∀ s (m : Fin 4) reg v, reg.toNat = msrCompReg s → v.toNat = (s.link m).comp →
    Ends (.msrCtrlReplyRx m (.writeAck reg v)) s fun t =>
      t.rd (F.MSR_LSTAT_UNCAL m) = 0 ∧ s.OnlyRegs t [F.MSR_LSTAT_UNCAL m]) ∧
  (∀ s (m : Fin 4) reg v, reg.toNat ≠ msrCompReg s ∨ v.toNat ≠ (s.link m).comp →
    exec (.msrCtrlReplyRx m (.writeAck reg v)) s = .next s) ∧
  (∀ s (m : Fin 4) rtt, (s.link m).rtt.length < 15 → exec (.msrCtrlReplyRx m (.echo rtt)) s =
    .next (s.setLink m { s.link m with rtt := rtt.toNat :: (s.link m).rtt })) ∧
  (∀ s (m : Fin 4) v, exec (.msrCtrlReplyRx m (.readRsp 0x0A v)) s = .next (s.setLink m { s.link m with ta := v.toNat })) ∧
  (∀ s r (m : Fin 4), windowDead s (0x20300104 + 0x100 * m) = false → r ≠ .supervisor →
    exec (.msrRemeasure r m) s = .next (s.status 0x0207)) ∧
  (∀ s (m : Fin 4), windowDead s (0x20300104 + 0x100 * m) = false →
    exec (.msrRemeasure .supervisor m) s = .next (State.status (s.setLink m
      { s.link m with rtt := [], ctl := (s.link m).ctl ++ [ctlFrame (latOwn s) 0x40 0 0x0A 0 0] ++
        List.replicate 16 (ctlFrame (latOwn s) 0x30 0 0 0 0) }) 0))

/-- With the window in service: CAP_CTL written by a plot is answered 0x0207. While capture runs, a change of SIZE is
refused with 0x0303, and so is the end of capture while a dump is RUNNING or SUSPENDED. Capture turned on with its
regions in DRAM outside every partition runs from set number 0 and slot 0 and is answered 0; with other regions it sets
CFG_ERR, stays off and is answered 0x0302, the ring as it was. Capture turned off with no such dump is answered 0, EN
and RUNNING clear. DUMP_DONE for a job that is no RUNNING dump changes nothing; for one whose set is known and whose
last set is copied it writes the header with the final COUNT and status 0 over what is copied and ends the job DONE
with result 0. -/
def Obligations.CaptureControl : Prop :=
  (∀ s r v, windowDead s 0x20300800 = false → r.supOrStitch = false → exec (.capCtlWrite r v) s = .next (s.status 0x0207)) ∧
  (∀ s r v, windowDead s 0x20300800 = false → r.supOrStitch = true → s.rd F.CAP_CTL_EN = 1 →
    F.CAP_CTL_SIZE.slice v.toNat ≠ s.rd F.CAP_CTL_SIZE → exec (.capCtlWrite r v) s = .next (s.status 0x0303)) ∧
  (∀ s r (v : Word), windowDead s 0x20300800 = false → r.supOrStitch = true → s.rd F.CAP_CTL_EN = 1 → v.toNat % 2 = 0 →
    dumpHolds s = true → exec (.capCtlWrite r v) s = .next (s.status 0x0303)) ∧
  (∀ s r (v : Word), windowDead s 0x20300800 = false → r.supOrStitch = true → s.rd F.CAP_CTL_EN = 0 → v.toNat % 2 = 1 →
    let u := s.wr F.CAP_CTL_SIZE (F.CAP_CTL_SIZE.slice v.toNat)
    Ends (.capCtlWrite r v) s fun t =>
      (capRegionsOk u = true → t.resp = ⟨0, 0⟩ ∧ t.rd F.CAP_CTL_EN = 1 ∧ t.rd F.CAP_STAT_RUNNING = 1 ∧
        t.rd F.CAP_SET_CNT_SETNO = 0 ∧ t.rd F.CAP_WR_IDX_IDX = 0 ∧ t.cap = {}) ∧
      (capRegionsOk u = false → t.resp = ⟨0x0302, 0⟩ ∧ t.rd F.CAP_STAT_CFG_ERR = 1 ∧ t.rd F.CAP_CTL_EN = 0 ∧ t.cap = s.cap ∧
        t.mem = s.mem)) ∧
  (∀ s r (v : Word), windowDead s 0x20300800 = false → r.supOrStitch = true → s.rd F.CAP_CTL_EN = 1 →
    F.CAP_CTL_SIZE.slice v.toNat = s.rd F.CAP_CTL_SIZE → v.toNat % 2 = 0 → dumpHolds s = false →
    Ends (.capCtlWrite r v) s fun t => t.resp = ⟨0, 0⟩ ∧ t.rd F.CAP_CTL_EN = 0 ∧ t.rd F.CAP_STAT_RUNNING = 0 ∧ t.cap = {}) ∧
  (∀ s (j : Fin 32), (s.job j).kind ≠ 4 ∨ (s.job j).state ≠ 2 → exec (.dumpDone j) s = .next s) ∧
  (∀ s (j : Fin 32), (s.job j).kind = 4 → (s.job j).state = 2 →
    let u := dumpCopy s j (dumpPar (s.job j)).sets
    let d := dumpPar (u.job j)
    d.sel ≠ 0 → d.count = d.todo → Ends (.dumpDone j) s fun t =>
      t = jobTo (u.putBytes d.dest (dumpHeader d 0)) j 4 0 ∧ (t.job j).state = 4 ∧ (t.job j).result = 0)

/-- TILTH_START changes nothing where EN is clear, Tilth runs, capture is off, no cycle begins in this tick, or EN was
set less than 1 ms ago; else Tilth runs, no bank is published or memory written, and the first pass begins with the
next set, the one in hand left out where it belongs to an earlier cycle. While Tilth does not run, the first pass and
the closes of windows change nothing, and neither does the second pass once nothing waits to be published. The first
pass takes the next complete set of the open cycle into that window and into its cells, no register or memory changing,
and none that is not complete. The second pass takes a set at least 1 ms after the first pass has finished it, not
before; a set that the ring has lost is skipped and SET_LOST set. At the boundary at which Tilth stops it no longer
runs: the open windows are gone, those closed before still wait to be published, and CAP_OFF is set where capture is
off. A cycle window closes once the first set of another cycle has completed, and waits to be published; a statistics
and an impedance window close only at such a boundary which is also their own. BANK_PUBLISH with no window of its kind
that both passes have closed changes nothing; otherwise a cycle, statistics, divergence or impedance window's bank
becomes the other of its two. -/
def Obligations.TilthWindows : Prop :=
  (∀ s, s.rd F.TIL_CTL_EN = 0 ∨ s.rd F.TIL_STAT_RUNNING = 1 ∨ s.rd F.CAP_CTL_EN = 0 ∨ cycleNew s = false ∨
    s.now < s.til.enAt + 80000 → exec .tilthStart s = .next s) ∧
  (∀ s, s.rd F.TIL_CTL_EN = 1 → s.rd F.TIL_STAT_RUNNING = 0 → s.rd F.CAP_CTL_EN = 1 → cycleNew s = true →
    s.til.enAt + 80000 ≤ s.now → Ends .tilthStart s fun t =>
    t.rd F.TIL_STAT_RUNNING = 1 ∧ t.rdB F.TIL_ZSTAT_ZRUNNING = s.rdB F.TIL_ZCTL_Z_EN ∧ t.til.pubs = [] ∧ t.mem = s.mem ∧
      t.til.p1.next = s.cap.setno + (s.cap.writing && s.lat.st.ang.cycle != s.trl.cyc).toNat) ∧
  (∀ s c, c = .tilthFirstPass ∨ c = .cycleWindowClose ∨ c = .statWindowClose ∨ c = .zWindowClose →
    s.rd F.TIL_STAT_RUNNING = 0 → exec c s = .next s) ∧
  (∀ s, s.rd F.TIL_STAT_RUNNING = 0 → s.til.pubs = [] → exec .tilthSecondPass s = .next s) ∧
  (∀ s, s.rd F.TIL_STAT_RUNNING = 1 → capHas s s.til.p1.next = true → setCycle s s.til.p1.next = s.til.wc.cycLast →
    Ends .tilthFirstPass s fun t => t.til.p1 = tilPassSet s false s.til.p1 s.til.p1.next ∧
      t.til.wc = s.til.wc.add s s.til.p1.next ∧ t.regs = s.regs ∧ t.mem = s.mem) ∧
  (∀ s, capHas s s.til.p1.next = false → exec .tilthFirstPass s = .next s) ∧
  (∀ s, s.rd F.TIL_STAT_RUNNING = 1 → s.til.pubs = [] → s.til.p2.next < s.til.p1.next →
    s.til.finAt.get s.til.p2.next 0 + 80000 ≤ s.now → capLost s s.til.p2.next = false → Ends .tilthSecondPass s fun t =>
      t.til.p2 = tilPassSet s true s.til.p2 s.til.p2.next ∧ t.til.p1 = s.til.p1 ∧ t.regs = s.regs) ∧
  (∀ s, s.rd F.TIL_STAT_RUNNING = 1 → s.til.pubs = [] → s.now < s.til.finAt.get s.til.p2.next 0 + 80000 →
    exec .tilthSecondPass s = .next s) ∧
  (∀ s, s.rd F.TIL_STAT_RUNNING = 1 → s.til.pubs = [] → s.til.p2.next < s.til.p1.next →
    s.til.finAt.get s.til.p2.next 0 + 80000 ≤ s.now → capLost s s.til.p2.next = true → Ends .tilthSecondPass s fun t =>
      t.til.p2.next = s.til.p2.next + 1 ∧ t.til.p2.cells = s.til.p2.cells ∧ t.rd F.TIL_FLT_SET_LOST = 1) ∧
  (∀ s, s.rd F.TIL_STAT_RUNNING = 1 → tilStopDue s = true → Ends .cycleWindowClose s fun t =>
    t.rd F.TIL_STAT_RUNNING = 0 ∧ t.til.pubs = s.til.pubs ∧ t.til.wc = {} ∧ t.til.ws = {} ∧ t.til.wz = {} ∧ t.mem = s.mem ∧
      (s.rd F.CAP_CTL_EN = 0 → t.rd F.TIL_FLT_CAP_OFF = 1)) ∧
  (∀ s, s.rd F.TIL_STAT_RUNNING = 1 → tilStopDue s = false → capHas s s.til.p1.next = true →
    setCycle s s.til.p1.next ≠ s.til.wc.cycLast → Ends .cycleWindowClose s fun t =>
      t.til.wc = TilWin.begin (setCycle s s.til.p1.next) ∧ t.til.newPar = none ∧ t.mem = s.mem ∧
      (∃ u, t.til.pubs = s.til.pubs ++ [u] ∧ u.kind = 1 ∧ u.win = s.til.wc ∧ u.endSet = s.til.p1.next)) ∧
  (∀ s, s.rd F.TIL_STAT_RUNNING = 1 → s.til.wc.sets = 0 → s.til.ws.sets ≠ 0 → s.til.ws.due (s.rd F.TIL_STAT_CFG_LEN) = true →
    Ends .statWindowClose s fun t =>
      t.til.ws = { TilWin.begin s.til.wc.cycFirst with len := s.rd F.TIL_STAT_CFG_LEN } ∧ t.regs = s.regs ∧ t.mem = s.mem ∧
      (∃ u, t.til.pubs = s.til.pubs ++ [u] ∧ u.kind = 2 ∧ u.endSet = s.til.p1.next)) ∧
  (∀ s, statDue s = false → exec .statWindowClose s = .next s) ∧
  (∀ s, s.rd F.TIL_STAT_RUNNING = 1 → s.til.wc.sets = 0 → s.til.wz.sets ≠ 0 → s.til.wz.due (s.rd F.TIL_ZLEN_LEN) = true →
    Ends .zWindowClose s fun t =>
      t.rdB F.TIL_ZSTAT_ZRUNNING = s.rdB F.TIL_ZCTL_Z_EN ∧ t.til.zCount = s.til.zCount + 1 ∧ t.til.firstZ = false ∧ t.mem = s.mem) ∧
  (∀ s, zDue s = false → exec .zWindowClose s = .next s) ∧
  (∀ s k bad badG, tilTake (fun u => u.kind == (k : Fin 8).val && u.kind != 6 && u.kind != 7) s.til.pubs = none →
    exec (.bankPublish k bad badG) s = .next s) ∧
  (∀ s (k : Fin 8) bad badG u l, tilTake (fun u => u.kind == k.val && u.kind != 6 && u.kind != 7) s.til.pubs = some (u, l) →
    Ends (.bankPublish k bad badG) s fun t =>
      (k.val = 1 → t.rd F.TIL_PUB_STATE_BANK = 1 - s.rd F.TIL_PUB_STATE_BANK) ∧
      (k.val = 2 → t.rd F.TIL_PUB_STAT_BANK = 1 - s.rd F.TIL_PUB_STAT_BANK) ∧
      (k.val = 3 → t.rd F.TIL_PUB_DIV_BANK = 1 - s.rd F.TIL_PUB_DIV_BANK) ∧
      (k.val = 5 → t.rd F.TIL_ZPUB_BANK = 1 - s.rd F.TIL_ZPUB_BANK))

/-- With Tilth's window in service: COMMIT, ABORT and TIL_ENABLE by anyone but the owner or the supervisor are answered
0x0207. A COMMIT while another is pending is answered 0x0304; one whose record of a cell fails a check is answered
0x0309, with the cell and the reason shown; one whose records, tables and impedance parameters pass waits with a copy
of the parameters and is answered 0. ABORT withdraws it. A commit applies at no tick earlier than 1 ms after the copy
and only as a cycle begins: PSET_VALID is set, PSEQ counts, and the parameters are those of both passes, or of the
windows that open there when Tilth runs. TIL_ENABLE of the supervisor, EN being clear and no register changed by
hardware in this tick, is answered 0 and sets EN where regions and parameters allow it; else it is answered 0x0302 and
sets CFG_ERR, EN clear. Microcode ports refuse all but the supervisor, and all once LOCK is set. A write of UC_ADDR
sets the address and starts the CRC again; one of UC_DATA stores the word at the address, which counts up. LOCK is the
supervisor's. -/
def Obligations.TilthParameters : Prop :=
  (∀ s r c a, (c = .commit r ∨ c = .tilCommitAbort r) ∧ a = F.TIL_PCMD_CMD.addr ∨ c = .tilEnable r ∧ a = F.TIL_CTL_EN.addr →
    windowDead s a = false → tilOwner s r = false → exec c s = .next (s.status 0x0207)) ∧
  (∀ s r, windowDead s F.TIL_PCMD_CMD.addr = false → tilOwner s r = true → s.rd F.TIL_STAT_COMMIT_PEND = 1 →
    exec (.commit r) s = .next (s.status 0x0304)) ∧
  (∀ s r g e, windowDead s F.TIL_PCMD_CMD.addr = false → tilOwner s r = true → s.rd F.TIL_STAT_COMMIT_PEND = 0 →
    ((List.range 4608).findSome? fun g => (parCellFault (tilCopy s) g).map fun e => (g, e)) = some (g, e) →
    exec (.commit r) s = .next ((tilParamErr s g e 0).status 0x0309)) ∧
  (∀ s r, windowDead s F.TIL_PCMD_CMD.addr = false → tilOwner s r = true → s.rd F.TIL_STAT_COMMIT_PEND = 0 →
    (∀ g, g < 4608 → parCellFault (tilCopy s) g = none) →
    (∀ k, k < 16 → parTableTail (tilCopy s) k = false ∧ parTableBad (tilCopy s) k = false) →
    parZFault (tilCopy s) = none → Ends (.commit r) s fun t =>
      t.resp = ⟨0, 0⟩ ∧ t.rd F.TIL_STAT_COMMIT_PEND = 1 ∧ t.til = { s.til with pend := some (tilCopy s), pendAt := s.now } ∧
        t.mem = s.mem) ∧
  (∀ s r, windowDead s F.TIL_PCMD_CMD.addr = false → tilOwner s r = true → Ends (.tilCommitAbort r) s fun t =>
    t.resp = ⟨0, 0⟩ ∧ t.rd F.TIL_STAT_COMMIT_PEND = 0 ∧ t.til = { s.til with pend := none } ∧
      s.RegsBut t [F.TIL_STAT_COMMIT_PEND]) ∧
  (∀ s, s.til.pend = none ∨ s.now < s.til.pendAt + 80000 ∨ cycleNew s = false → exec .tilCommitApply s = .next s) ∧
  (∀ s p, s.til.pend = some p → s.til.pendAt + 80000 ≤ s.now → cycleNew s = true → Ends .tilCommitApply s fun t =>
    t.rd F.TIL_STAT_PSET_VALID = 1 ∧ t.rd F.TIL_STAT_COMMIT_PEND = 0 ∧ t.til.pend = none ∧
      t.rd F.TIL_PSTAT_PSEQ = (s.rd F.TIL_PSTAT_PSEQ + 1) % 2 ^ F.TIL_PSTAT_PSEQ.w ∧
      (s.rd F.TIL_STAT_RUNNING = 1 → t.til.newPar = some p) ∧
      (s.rd F.TIL_STAT_RUNNING = 0 → t.til.p1.par = p ∧ t.til.p2.par = p)) ∧
  (∀ s, windowDead s F.TIL_CTL_EN.addr = false → s.rd F.TIL_CTL_EN = 0 → s.upd = [] →
    let u := s.writeWord F.TIL_CTL_EN.addr (s.readWord F.TIL_CTL_EN.addr / 2 * 2 + 1)
    Ends (.tilEnable .supervisor) s fun t =>
      (tilRegionsOk u = true → t.resp = ⟨0, 0⟩ ∧ t.rd F.TIL_CTL_EN = 1) ∧
      (tilRegionsOk u = false → t.resp = ⟨0x0302, 0⟩ ∧ t.rd F.TIL_CTL_EN = 0 ∧ t.rd F.TIL_FLT_CFG_ERR = 1)) ∧
  (∀ s r v c e a, c = .tilUcAddrWrite r v ∧ a = F.TIL_UC_ADDR_ADDR.addr ∨ c = .tilUcDataWrite r v ∧ a = F.TIL_UC_DATA_DATA.addr →
    windowDead s a = false → ucRefusal s r = some e → exec c s = .next (s.status e)) ∧
  (∀ s (v : Word), windowDead s F.TIL_UC_ADDR_ADDR.addr = false → s.rd F.TIL_UC_CTL_LOCK = 0 →
    Ends (.tilUcAddrWrite .supervisor v) s fun t =>
      t.resp = ⟨0, 0⟩ ∧ t.rd F.TIL_UC_ADDR_ADDR = v.toNat % 2 ^ F.TIL_UC_ADDR_ADDR.w ∧ t.rd F.TIL_UC_CRC_CRC = 0 ∧
        s.RegsBut t [F.TIL_UC_ADDR_ADDR, F.TIL_UC_CRC_CRC]) ∧
  (∀ s (v : Word), windowDead s F.TIL_UC_DATA_DATA.addr = false → s.rd F.TIL_UC_CTL_LOCK = 0 →
    Ends (.tilUcDataWrite .supervisor v) s fun t =>
      t.resp = ⟨0, 0⟩ ∧ t.til.uc.get (s.rd F.TIL_UC_ADDR_ADDR) 0 = v.toNat ∧
        t.rd F.TIL_UC_ADDR_ADDR = (s.rd F.TIL_UC_ADDR_ADDR + 1) % 2 ^ F.TIL_UC_ADDR_ADDR.w) ∧
  (∀ s r, windowDead s F.TIL_UC_CTL_LOCK.addr = false → r ≠ .supervisor → exec (.tilUcLock r) s = .next (s.status 0x0207)) ∧
  (∀ s, windowDead s F.TIL_UC_CTL_LOCK.addr = false → Ends (.tilUcLock .supervisor) s fun t =>
    t.resp = ⟨0, 0⟩ ∧ t.rd F.TIL_UC_CTL_LOCK = 1 ∧ t.rd F.TIL_STAT_UC_LOCKED = 1 ∧
      s.RegsBut t [F.TIL_UC_CTL_LOCK, F.TIL_STAT_UC_LOCKED])

/-- SWEEP_WINDOW_CLOSE changes nothing where no window of the job stands closed in both passes, and nothing for a job
that is no sweep, has not begun, or has ended. The last window of a RUNNING sweep, not late, makes the job DONE with
result 0; the fourth late window in a row makes a RUNNING one fail with 0x0405. A window is late once the impedance
window after it has ended. -/
def Obligations.ImpedanceSweep : Prop :=
  (∀ s (j : Fin 32) bad, tilTake (fun u => u.kind == 6 && u.job == j.val) s.til.pubs = none →
    exec (.sweepWindowClose j bad) s = .next s) ∧
  (∀ s (j : Fin 32) bad, (s.job j).kind ≠ 3 ∨ (s.job j).begun = false ∨ (s.job j).active = false →
    exec (.sweepWindowClose j bad) s = .next s) ∧
  (∀ s (j : Fin 32) bad u l, (s.job j).kind = 3 → (s.job j).begun = true → (s.job j).state = 2 →
    tilTake (fun u => u.kind == 6 && u.job == j.val) s.til.pubs = some (u, l) → s.til.zCount < u.seq + 2 →
    (s.job j).par.length = 8 → (s.job j).par.getD 6 0 + 1 = (s.job j).par.getD 3 0 → Ends (.sweepWindowClose j bad) s fun t =>
      (t.job j).state = 4 ∧ (t.job j).result = 0) ∧
  (∀ s (j : Fin 32) bad u l, (s.job j).kind = 3 → (s.job j).begun = true → (s.job j).state = 2 →
    tilTake (fun u => u.kind == 6 && u.job == j.val) s.til.pubs = some (u, l) → u.seq + 2 ≤ s.til.zCount →
    (s.job j).par.length = 8 → (s.job j).par.getD 7 0 = 3 → Ends (.sweepWindowClose j bad) s fun t =>
      (t.job j).state = 5 ∧ (t.job j).result = 0x0405)

/-- The commands that trip by themselves do so when their function holds no latch: SETSTALE while Pommel runs, once no
set header has come for THR, the peer check in split operation, an overcurrent of SAFE-LSu, a manual trip of the
supervisor or Stitch while Pommel runs and its window is in service, a start-up or in-service injection pass in its
time that fails, out of split operation, and a trip message of the partner whose SEQ is not one of those mirrored. The
latch then names the switches of the trip, POM_TRIP and TRIPPED show it, the trip is counted, and none of those
switches conducts; the mirrored trip's SEQ is noted. A peer check whose trip is latched already with all switches and
pattern 0 changes nothing. -/
def Obligations.TripsOpenSwitches : Prop :=
  let tripped (s t : State) (f mask pat : Nat) : Prop :=
    t.pom.latches.find? f = some ⟨mask, [pat]⟩ ∧ t.rd F.POM_STAT_TRIPPED = 1 ∧ t.bit F.POM_TRIP_LATCH f = true ∧
      t.pom.trips = s.pom.trips + 1 ∧ t.rd F.POM_STAT_SLS_ON = s.rd F.POM_STAT_SLS_ON &&& (15 - mask % 16)
  (∀ s k, s.rd F.POM_STAT_RUN = 1 → setStale s = true → s.pom.latches.find? 12 = none → Ends (.setstale k) s fun t =>
    tripped s t 12 (pomMask s 12) (pomPattern s 12)) ∧
  (∀ s k, s.rd F.POM_STAT_RUN = 1 → s.rd F.POM_STAT_SPLIT = 1 → s.pom.latches.find? 16 = none → Ends (.peerCheck k) s fun t =>
    tripped s t 16 15 0) ∧
  (∀ s (u : Fin 4) k, s.pom.latches.find? 17 = none → Ends (.slsOvercurrent u k) s fun t =>
    tripped s t 17 (2 ^ u.val) 0 ∧ t.bit F.POM_FLT_SLS_OC u = true) ∧
  (∀ s r (m : BitVec 4) (p : Fin 8) k, windowDead s F.POM_MB_CMD_CMD.addr = false → r.supOrStitch = true → s.rd F.POM_STAT_RUN = 1 →
    s.pom.latches.find? 14 = none → Ends (.manualTrip r m p k) s fun t => tripped s t 14 m.toNat p ∧ t.resp = ⟨0, 0⟩) ∧
  (∀ s b k, s.rd F.POM_STAT_RUN = 1 → s.rd F.POM_STAT_SPLIT = 0 → s.pom.latches.find? 15 = none →
    (b = true ∧ s.pom.injected = false ∨ b = false ∧ s.pom.injAt + 5120000 ≤ s.now) →
    Ends (.injectionPass b true k) s fun t => tripped s t 15 15 0 ∧ t.rd F.POM_FLT_COMP = 1 ∧ t.pom.compClear = false) ∧
  (∀ s (bytes : List Byte) k, s.rd F.POM_STAT_RUN = 1 → byteNat bytes 0 / 16 = 3 → byteNat bytes 0 % 16 ∉ s.pom.mirrorSeqs →
    s.pom.latches.find? 13 = none → Ends (.mirrorTripRx bytes k) s fun t =>
      tripped s t 13 (byteNat bytes 2 / 2 % 16 &&& pomMask s 13) (pomPattern s 13) ∧
        t.pom.mirrorSeqs = s.pom.mirrorSeqs ++ [byteNat bytes 0 % 16]) ∧
  (∀ s k e, s.rd F.POM_STAT_RUN = 1 → s.rd F.POM_STAT_SPLIT = 1 → s.pom.latches.find? 16 = some e → e.mask = 15 →
    e.patterns = [0] → exec (.peerCheck k) s = .next s)

/-- Nothing is evaluated while Pommel does not run, nor a cell marked ABSENT. A VALID cell above the OV threshold that
has been so for its persistence latches trip 1, the module being paired. The check of a temperature entry that is not
due changes nothing; one due of a fitted sensor whose SEQ is not the set's counts towards TSTALE, no register changing
below its persistence. A lockstep mismatch or a parity error of the delay register, out of split operation, stops
Pommel with all switches open and SLS_ARM low; the latter makes the next restart cold. A double-bit error outside a
sample stops Pommel too; one in a cell's sample marks it STALE and changes no other byte. A start-up injection that
passes sets INJ_OK and no other register; it does nothing once made. A pass in service that passes is counted; before
its time it does nothing. A suspect report of the path is counted, and changes no latch, counter or switch. SLS_CLOSE
makes exactly the switches that no latch names conduct where the conditions for closing hold, and changes nothing where
they do not. SLS_ARM_RAISE raises SLS_ARM only with all four switches conducting, paired, in RUN, SERVICE or HOLD. -/
def Obligations.PommelEvaluation : Prop :=
  (∀ s x k n q g c, c = .pommelEvaluate x k ∨ c = .tempDueCheck n q k ∨ c = .setstale k ∨ c = .lockstepMismatch g ∨
      c = .delayRegParity ∨ c = .peerCheck k ∨ c = .slsClose → s.rd F.POM_STAT_RUN = 0 → exec c s = .next s) ∧
  (∀ s j g k, cellMark s (j : Fin 16).val (g : Fin 4608) = 2 → exec (.pommelEvaluate (.cell j g) k) s = .next s) ∧
  (∀ s (j : Fin 16) (g : Fin 4608) k, s.rd F.POM_STAT_RUN = 1 → s.girth.unpaired = false → cellMark s j g = 0 →
    pomThr s 1 < (cellVal s j g : Int) → pomPersist s 1 ≤ s.pom.counters.get (pomKey 1 g) 0 + 1 →
    Ends (.pommelEvaluate (.cell j g) k) s fun t => (t.pom.latches.find? 1).isSome = true) ∧
  (∀ s (n : Fin 2304) seq k, tempDueAt s n seq.toNat = none → exec (.tempDueCheck n seq k) s = .next s) ∧
  (∀ s (n : Fin 2304) seq k due, s.rd F.POM_STAT_RUN = 1 → tempDueAt s n seq.toNat = some due →
    sensorFitted s n = true → (s.byteAt (tempAddr n + 3)).toNat ≠ seq.toNat % 256 →
    s.pom.counters.get (pomKey 11 n) 0 + 1 < pomPersist s 11 → Ends (.tempDueCheck n seq k) s fun t =>
      t.pom = { s.pom with counters := s.pom.counters.set (pomKey 11 n) (s.pom.counters.get (pomKey 11 n) 0 + 1),
                           settle := s.pom.settle.set (pomKey 11 n) 16, dirtySet := true,
                           tempChecked := s.pom.tempChecked.set n due } ∧ t.regs = s.regs) ∧
  (∀ s (g : Fin 16), s.rd F.POM_STAT_RUN = 1 → s.rd F.POM_STAT_SPLIT = 0 → Ends (.lockstepMismatch g) s fun t =>
    t.rd F.POM_STAT_RUN = 0 ∧ t.rd F.POM_STAT_SLS_ON = 0 ∧ t.rd F.POM_STAT_ARM = 0 ∧ t.pom = { s.pom with halted := true, recCore := true } ∧
      t.faults = s.faults ++ [⟨0x0603, g, s.stamp⟩]) ∧
  (∀ s, s.rd F.POM_STAT_RUN = 1 → s.rd F.POM_STAT_SPLIT = 0 → Ends .delayRegParity s fun t =>
    t.rd F.POM_STAT_RUN = 0 ∧ t.rd F.POM_STAT_SLS_ON = 0 ∧ t.rd F.POM_STAT_ARM = 0 ∧ t.pom = { s.pom with halted := true, recDly := true } ∧
      t.girth.coldNext = true) ∧
  (∀ s, Ends (.sramEccError none) s fun t => t.rd F.POM_FLT_ECC = 1 ∧ t.rd F.POM_STAT_RUN = 0 ∧ t.rd F.POM_STAT_SLS_ON = 0 ∧
    t.pom.halted = true) ∧
  (∀ s (j : Fin 16) (g : Fin 4608), s.Canon → Ends (.sramEccError (some (.cell j g))) s fun t =>
    t.rd F.POM_FLT_ECC = 1 ∧ cellMark t j g = 1 ∧ s.RegsBut t [F.POM_FLT_ECC] ∧ s.MemBut t (setSlot j.val + 0x2400 + g / 4) 1) ∧
  (∀ s k, s.rd F.POM_STAT_RUN = 1 → s.rd F.POM_STAT_SPLIT = 0 → s.pom.injected = false → Ends (.injectionPass true false k) s fun t =>
    t.rd F.POM_STAT_INJ_OK = 1 ∧ t.pom = { s.pom with injected := true, compClear := true } ∧ s.RegsBut t [F.POM_STAT_INJ_OK]) ∧
  (∀ s b f k, (b = true ∧ s.pom.injected = true ∨ b = false ∧ s.now < s.pom.injAt + 5120000) →
    exec (.injectionPass b f k) s = .next s) ∧
  (∀ s k, s.rd F.POM_STAT_RUN = 1 → s.rd F.POM_STAT_SPLIT = 0 → s.pom.injAt + 5120000 ≤ s.now →
    Ends (.injectionPass false false k) s fun t =>
      t.rd F.POM_INJ_CNT_PASSES = min (s.rd F.POM_INJ_CNT_PASSES + 1) (2 ^ F.POM_INJ_CNT_PASSES.w - 1) ∧
        s.RegsBut t [F.POM_INJ_CNT_PASSES] ∧ t.pom.latches = s.pom.latches ∧ t.mem = s.mem) ∧
  (∀ s, s.til.path = [] → exec .suspectReportRx s = .next s) ∧
  (∀ s b l, s.til.path = b :: l → Ends .suspectReportRx s fun t =>
    t.til = { s.til with path := l } ∧ t.pom = s.pom ∧ t.rd F.POM_STAT_SLS_ON = s.rd F.POM_STAT_SLS_ON ∧
      t.rd F.POM_SUSP_CNT_CNT = min (s.rd F.POM_SUSP_CNT_CNT + 1) 0xFFFF) ∧
  (∀ s, slsMayClose s = true → Ends .slsClose s fun t =>
    t.rd F.POM_STAT_SLS_ON = 15 - latchedMask s % 16 ∧
      s.RegsBut t [F.POM_STAT_SLS_ON, F.SEAT_STAT_EXTRACT_OK, F.GIRTH_MODE_SUBSTATE] ∧ t.pom = s.pom) ∧
  (∀ s, slsMayClose s = false → exec .slsClose s = .next s) ∧
  (∀ s, s.rd F.POM_STAT_SLS_ON = 15 → s.girth.unpaired = false → s.mode = mRUN ∨ s.mode = mSERVICE ∨ s.mode = mHOLD →
    Ends .slsArmRaise s fun t => t.rd F.POM_STAT_ARM = 1 ∧ s.RegsBut t [F.POM_STAT_ARM, F.SEAT_STAT_EXTRACT_OK, F.GIRTH_MODE_SUBSTATE]) ∧
  (∀ s, s.rd F.POM_STAT_SLS_ON ≠ 15 ∨ s.girth.unpaired = true ∨ (s.mode ≠ mRUN ∧ s.mode ≠ mSERVICE ∧ s.mode ≠ mHOLD) →
    exec .slsArmRaise s = .next s)

/-- With Pommel's window in service: a command of anyone but the supervisor or Stitch is refused with 0x0207. A trip
reset that is not allowed, or while Pommel does not run, is answered 0x0303 and keeps every latch; one allowed removes
exactly the latches it names and closes no switch. A manual trip or an injection while Pommel does not run is answered
0x0303 (the model's choice, log entry 42) and changes nothing of Pommel. Parameters are written only in SERVICE (0x0208
elsewhere) and within their ranges, whose status they answer; one without a register waits for the next set, one that a
register mirrors acts at once (the model's choice, log entry 42). A read answers the value in force. INJECT_NOW that
passes is answered 0 and counted, no latch changing. A reset frame of the partner ends the mirrored trip with its SEQ;
another frame changes nothing. -/
def Obligations.PommelMailbox : Prop :=
  (∀ s r m m4 p k i j v f c, windowDead s F.POM_MB_CMD_CMD.addr = false → c = .tripReset r m ∨ c = .manualTrip r m4 p k ∨
      c = .paramWrite r i j v ∨ c = .paramRead r i j ∨ c = .injectNow r f k → r.supOrStitch = false →
    Ends c s fun t => s.Refused t r 0x0207) ∧
  (∀ s r (m : BitVec 18), windowDead s F.POM_MB_CMD_CMD.addr = false → r.supOrStitch = true →
    s.rd F.POM_STAT_RUN = 0 ∨ resetAllowed s m.toNat = false → Ends (.tripReset r m) s fun t =>
      t.resp = ⟨0x0303, 0⟩ ∧ t.pom = s.pom ∧ s.RegsBut t (F.POM_MB_RSP_STATUS :: F.POM_MB_DATA_DATA :: r.last)) ∧
  (∀ s r (m : BitVec 18), windowDead s F.POM_MB_CMD_CMD.addr = false → r.supOrStitch = true → s.rd F.POM_STAT_RUN = 1 →
    resetAllowed s m.toNat = true → Ends (.tripReset r m) s fun t =>
      t.resp = ⟨0, 0⟩ ∧ t.pom.latches = (s.pom.latches.filter fun e => !m.toNat.testBit e.1) ∧
        t.rd F.POM_STAT_SLS_ON = s.rd F.POM_STAT_SLS_ON) ∧
  (∀ s r m p k f c, windowDead s F.POM_MB_CMD_CMD.addr = false → c = .manualTrip r m p k ∨ c = .injectNow r f k →
    r.supOrStitch = true → s.rd F.POM_STAT_RUN = 0 → Ends c s fun t =>
      t.resp = ⟨0x0303, 0⟩ ∧ t.pom = s.pom ∧ s.RegsBut t (F.POM_MB_RSP_STATUS :: F.POM_MB_DATA_DATA :: r.last)) ∧
  (∀ s r i j v, windowDead s F.POM_MB_CMD_CMD.addr = false → r.supOrStitch = true → s.mode ≠ mSERVICE →
    Ends (.paramWrite r i j v) s fun t => t.resp = ⟨0x0208, 0⟩ ∧ t.pom = s.pom ∧ t.objs = s.objs) ∧
  (∀ s r (i j : BitVec 8) v e, windowDead s F.POM_MB_CMD_CMD.addr = false → r.supOrStitch = true → s.mode = mSERVICE →
    pomParamCheck (0x2A00 + i.toNat) j.toNat v.toNat = e → e ≠ 0 →
    Ends (.paramWrite r i j v) s fun t => t.resp = ⟨e, 0⟩ ∧ t.pom = s.pom ∧ t.objs = s.objs) ∧
  (∀ s r (i j : BitVec 8) (v : Word), windowDead s F.POM_MB_CMD_CMD.addr = false → r.supOrStitch = true → s.mode = mSERVICE →
    pomParamCheck (0x2A00 + i.toNat) j.toNat v.toNat = 0 → pomParamReg (0x2A00 + i.toNat) j.toNat = none →
    Ends (.paramWrite r i j v) s fun t => t.resp = ⟨0, 0⟩ ∧
      t.pom = { s.pom with pend := s.pom.pend ++ [(objKey (0x2A00 + i.toNat) j.toNat, v.toNat)] }) ∧
  (∀ s r (i j : BitVec 8) (v : Word) f, windowDead s F.POM_MB_CMD_CMD.addr = false → r.supOrStitch = true → s.mode = mSERVICE →
    pomParamCheck (0x2A00 + i.toNat) j.toNat v.toNat = 0 → pomParamReg (0x2A00 + i.toNat) j.toNat = some f →
    Ends (.paramWrite r i j v) s fun t => t.resp = ⟨0, 0⟩ ∧ t.rd f = v.toNat % 2 ^ f.w ∧ t.pom = s.pom) ∧
  (∀ s r (i j : BitVec 8), windowDead s F.POM_MB_CMD_CMD.addr = false → r.supOrStitch = true →
    pomParamCheck (0x2A00 + i.toNat) j.toNat (pomParam s (0x2A00 + i.toNat) j.toNat) = 0 →
    Ends (.paramRead r i j) s fun t => t.resp = ⟨0, pomParam s (0x2A00 + i.toNat) j.toNat⟩ ∧ t.pom = s.pom ∧
      s.RegsBut t [F.POM_MB_RSP_STATUS, F.POM_MB_DATA_DATA]) ∧
  (∀ s r k, windowDead s F.POM_MB_CMD_CMD.addr = false → r.supOrStitch = true → s.rd F.POM_STAT_RUN = 1 → s.rd F.POM_STAT_SPLIT = 0 →
    Ends (.injectNow r false k) s fun t => t.resp = ⟨0, 0⟩ ∧ t.pom.latches = s.pom.latches ∧
      s.RegsBut t [F.POM_INJ_CNT_PASSES, F.POM_MB_RSP_STATUS, F.POM_MB_DATA_DATA]) ∧
  (∀ s b, byteNat b 0 / 16 ≠ 4 → exec (.mirrorResetRx b) s = .next s) ∧
  (∀ s b, byteNat b 0 / 16 = 4 → exec (.mirrorResetRx b) s =
    .next { s with pom := { s.pom with mirrorSeqs := s.pom.mirrorSeqs.erase (byteNat b 0 % 16) } })

/-- With the load-switch window in service: a request for a channel of another plot is answered 0x0206, one for a
member of a group 0x0303, and nothing else changes; so is ON in SERVICE. ON, with no Trellis action or hardware change
of it in the same tick, switches on a channel of no group that is OFF, owned by the module, VALID and permitted of
profile, held by no other source and waiting for nothing, at segment 0 of its profile, and changes only the registers
that show it; off clears ON and turns an ON channel off. CLEAR unlatches a LATCHED channel without ON: OFF with no
retries. Only the supervisor and Stitch operate channels (0x0207), in SERVICE (0x0303), for 1 to 600 s (0x0301), not a
member (0x0303); the operation ends on command and when its time is over, not before. LS_PCHK of a profile below 8 is
refused, 0x0206 to plots and Stitch, 0x0207 to the supervisor. A profile from 8 up is checked and written by the plot
that owns it alone (0x0206): one that passes is VALID, one that fails shows the fault and is answered 0x0309; a word
written clears VALID. A channel that is in INRUSH or ON takes no PAR (0x0303); one that is OFF takes a free next
channel of its plot and bank as member. -/
def Obligations.LoadSwitchRequests : Prop :=
  (∀ s r (n : Fin 24) b p c, windowDead s (F.LS_REQ_ON n).addr = false → windowDead s (F.LS_CFG_PAR n).addr = false →
    c = .lsReqOn r n b ∨ c = .lsClear r n ∨ c = .lsParallelSet r n p → r.forPlot (lsOwner s n) = false →
    exec c s = .next (s.status 0x0206)) ∧
  (∀ s r (n : Fin 24) b p c, windowDead s (F.LS_REQ_ON n).addr = false → windowDead s (F.LS_CFG_PAR n).addr = false →
    c = .lsReqOn r n b ∨ c = .lsClear r n ∨ c = .lsParallelSet r n p → r.forPlot (lsOwner s n) = true →
    s.rd (F.LS_STAT_MEMBER n) = 1 → exec c s = .next (s.status 0x0303)) ∧
  (∀ s r (n : Fin 24), windowDead s (F.LS_REQ_ON n).addr = false → r.forPlot (lsOwner s n) = true → s.mode = mSERVICE →
    exec (.lsReqOn r n true) s = .next (s.status 0x0303)) ∧
  (∀ s r (n : Fin 24), windowDead s (F.LS_REQ_ON n).addr = false → r.forPlot (lsOwner s n) = true →
    s.hwHas (F.LS_REQ_ON n) = false → s.trl.actOn.find? n ≠ some s.now → s.rd (F.LS_STAT_MEMBER n) = 0 → s.mode ≠ mSERVICE →
    s.rd (F.LS_CFG_PAR n) = 0 → lsState s n = 0 → lsOverride s n = none → s.girth.ownLs.getLsbD n = true →
    lsProfOk s n = true → lsCondOk s n = true → (s.lsCh n).stagger = false → (s.lsCh n).hotOff = false → (s.lsCh n).uvOff = false →
    (s.lsCh n).retryDue = false → Ends (.lsReqOn r n true) s fun t => t.resp = ⟨0, 0⟩ ∧ t.rd (F.LS_REQ_ON n) = 1 ∧
      lsState t n = 1 ∧ t.bit F.LS_ON_MAP_ON n = true ∧ t.rd (F.LS_STAT_SEG n) = 0 ∧
      s.RegsBut t [F.LS_REQ_ON n, F.LS_STAT_SEG n, F.LS_STAT_EXT_DRIVEN n, F.LS_STAT_STATE n, F.LS_ON_MAP_ON, F.LS_CNT_ON_CNT n]) ∧
  (∀ s r (n : Fin 24), windowDead s (F.LS_REQ_ON n).addr = false → r.forPlot (lsOwner s n) = true →
    s.hwHas (F.LS_REQ_ON n) = false → s.trl.actOn.find? n ≠ some s.now → s.rd (F.LS_STAT_MEMBER n) = 0 →
    s.rd (F.LS_CFG_PAR n) = 0 → lsState s n = 2 → lsOverride s n = none → (s.lsCh n).service = false →
    Ends (.lsReqOn r n false) s fun t =>
      t.resp = ⟨0, 0⟩ ∧ t.rd (F.LS_REQ_ON n) = 0 ∧ lsState t n = 0 ∧ t.bit F.LS_ON_MAP_ON n = false) ∧
  (∀ s r (n : Fin 24), windowDead s (F.LS_REQ_ON n).addr = false → r.forPlot (lsOwner s n) = true → s.rd (F.LS_STAT_MEMBER n) = 0 →
    s.rd (F.LS_CFG_PAR n) = 0 → lsState s n = 4 → s.rd (F.LS_REQ_ON n) = 0 → lsOverride s n = none → (s.lsCh n).service = false →
    Ends (.lsClear r n) s fun t => t.resp = ⟨0, 0⟩ ∧ lsState t n = 0 ∧ t.rd (F.LS_STAT_RETRIES n) = 0) ∧
  (∀ s r (n : Fin 24) d c, windowDead s F.LS_SVC_CH.addr = false → c = .lsServiceOn r n d ∨ c = .lsServiceOff r n → r.supOrStitch = false →
    exec c s = .next (s.status 0x0207)) ∧
  (∀ s r (n : Fin 24) d c, windowDead s F.LS_SVC_CH.addr = false → c = .lsServiceOn r n d ∨ c = .lsServiceOff r n → r.supOrStitch = true →
    s.mode ≠ mSERVICE ∨ s.rd (F.LS_STAT_MEMBER n) = 1 → exec c s = .next (s.status 0x0303)) ∧
  (∀ s r (n : Fin 24) (d : BitVec 16), windowDead s F.LS_SVC_CH.addr = false → r.supOrStitch = true → s.mode = mSERVICE →
    s.rd (F.LS_STAT_MEMBER n) = 0 → d.toNat = 0 ∨ 600 < d.toNat → exec (.lsServiceOn r n d) s = .next (s.status 0x0301)) ∧
  (∀ s r (n : Fin 24) (d : BitVec 16), windowDead s F.LS_SVC_CH.addr = false → r.supOrStitch = true → s.mode = mSERVICE →
    s.rd (F.LS_STAT_MEMBER n) = 0 → 1 ≤ d.toNat → d.toNat ≤ 600 → s.rd (F.LS_CFG_PAR n) = 0 → Ends (.lsServiceOn r n d) s fun t =>
      t.resp = ⟨0, 0⟩ ∧ (t.lsCh n).service = true ∧ (t.lsCh n).svcEnd = s.now + 80000000 * d.toNat) ∧
  (∀ s r (n : Fin 24), windowDead s F.LS_SVC_CH.addr = false → r.supOrStitch = true → s.mode = mSERVICE →
    s.rd (F.LS_STAT_MEMBER n) = 0 → s.rd (F.LS_CFG_PAR n) = 0 → Ends (.lsServiceOff r n) s fun t =>
      t.resp = ⟨0, 0⟩ ∧ (t.lsCh n).service = false) ∧
  (∀ s (n : Fin 24), (s.lsCh n).service = true → (s.lsCh n).svcEnd ≤ s.now → s.rd (F.LS_CFG_PAR n) = 0 →
    Ends (.lsServiceExpiry n) s fun t => (t.lsCh n).service = false) ∧
  (∀ s (n : Fin 24), (s.lsCh n).service = false ∨ s.now < (s.lsCh n).svcEnd → exec (.lsServiceExpiry n) s = .next s) ∧
  (∀ s r (x : Fin 16), windowDead s F.LS_PCHK_X.addr = false → x.val < 8 →
    exec (.lsPchk r x) s = .next (s.status (if r matches .plot _ | .stitch .. then 0x0206 else 0x0207))) ∧
  (∀ s r (x : Fin 16), windowDead s F.LS_PCHK_X.addr = false → 8 ≤ x.val →
    r.forPlot (s.rd (F.LS_PROF_OWN_OWNER (x.val - 8))) = false → exec (.lsPchk r x) s = .next (s.status 0x0206)) ∧
  (∀ s r (x : Fin 16), windowDead s F.LS_PCHK_X.addr = false → 8 ≤ x.val →
    r.forPlot (s.rd (F.LS_PROF_OWN_OWNER (x.val - 8))) = true → profFault (lsProfBytes s x) = none →
    Ends (.lsPchk r x) s fun t => t.resp = ⟨0, 0⟩ ∧ t.bit F.LS_PVALID_VALID x = true ∧ s.RegsBut t [F.LS_PVALID_VALID]) ∧
  (∀ s r (x : Fin 16) why seg, windowDead s F.LS_PCHK_X.addr = false → 8 ≤ x.val →
    r.forPlot (s.rd (F.LS_PROF_OWN_OWNER (x.val - 8))) = true → profFault (lsProfBytes s x) = some (why, seg) →
    Ends (.lsPchk r x) s fun t =>
      t.resp = ⟨0x0309, 0⟩ ∧ t.bit F.LS_PVALID_VALID x = false ∧ t.rd F.LS_PERR_X = x ∧
        t.rd F.LS_PERR_REASON = why % 2 ^ F.LS_PERR_REASON.w ∧ t.rd F.LS_PERR_SEG = seg % 2 ^ F.LS_PERR_SEG.w) ∧
  (∀ s r (x w : Fin 16) (v : Word), windowDead s (0x20700800 + 0x40 * x + 4 * w) = false → 8 ≤ x.val →
    r.forPlot (s.rd (F.LS_PROF_OWN_OWNER (x.val - 8))) = false → exec (.lsProfWrite r x w v) s = .next (s.status 0x0206)) ∧
  (∀ s r (x w : Fin 16) (v : Word), windowDead s (0x20700800 + 0x40 * x + 4 * w) = false → 8 ≤ x.val →
    r.forPlot (s.rd (F.LS_PROF_OWN_OWNER (x.val - 8))) = true →
    Ends (.lsProfWrite r x w v) s fun t => t.resp = ⟨0, 0⟩ ∧ t.rd (F.LS_PROF_DATA x w) = v.toNat ∧
      t.bit F.LS_PVALID_VALID x = false ∧ s.RegsBut t [F.LS_PROF_DATA x w, F.LS_PVALID_VALID]) ∧
  (∀ s r (n : Fin 24) p, windowDead s (F.LS_CFG_PAR n).addr = false → r.forPlot (lsOwner s n) = true →
    lsState s n = 1 ∨ lsState s n = 2 → exec (.lsParallelSet r n p) s = .next (s.status 0x0303)) ∧
  (∀ s r (n : Fin 24), windowDead s (F.LS_CFG_PAR n).addr = false → r.forPlot (lsOwner s n) = true →
    s.rd (F.LS_STAT_MEMBER n) = 0 → lsState s n = 0 → s.rd (F.LS_CFG_PROFILE n) < 8 → s.rd (F.LS_CFG_PAR n) = 0 → n.val % 6 ≠ 5 →
    lsOwner s (n + 1) = lsOwner s n → lsMemberFree s (n.val + 1) = true → Ends (.lsParallelSet r n 2) s fun t =>
      t.resp = ⟨0, 0⟩ ∧ t.rd (F.LS_CFG_PAR n) = 2 ∧ t.rd (F.LS_STAT_MEMBER (n.val + 1)) = 1 ∧
        s.RegsBut t [F.LS_CFG_PAR n, F.LS_STAT_MEMBER (n.val + 1), F.LS_CFG_PROFILE n, F.LS_CFG_SHED n])

/-- For a channel in no group: the end of a segment, a short circuit, a limit trip and OPEN_ON change nothing while it
does not conduct. A short circuit, or a limit trip while the ceiling acts as TRIP, of a conducting channel outside
DORMANCY goes to RETRY while retries remain, else to LATCHED, with its fault bit set and the stage off. A segment whose
time is over gives way to the next, the last to the steady state; before that nothing changes. A sample shows the mean
current, the output voltage and the bank temperature, and leaves the state of a channel that does not conduct and does
not wait. A retry does nothing before DELAY is over or in another state than RETRY; else, the junction being cool and
Stirrup not in control, it waits for the hot bank, or for the bank's stagger. 10 s on clear the retry count, of a load
switch and of a DIO channel; before that nothing changes. STAGGER_SWITCH_ON switches on the lowest waiting channel of a
bank that is free, and nothing else. SHED, once a feed has been over its limit for 20 ms, latches the channel that it
picks with its fault bit set, else nothing. OPEN_ON and OPEN_OFF that are due set their bit and change no state; a
conducting channel's OPEN_OFF changes nothing. OUT_HIGH of a channel that is off marks it driven where the partner's,
or a shared, channel explains it, else sets its bit; it changes nothing of one that conducts. BANK_WARN and BANK_HOT
set their bits, a hot bank leaves none of its six channels conducting, and BANK_NORMAL ends it; each of the three
changes nothing the second time. -/
def Obligations.LoadSwitchProtection : Prop :=
  (∀ s (n : Fin 24), lsConducts (lsState s n) = false → s.rd (F.LS_STAT_MEMBER n) = 0 → s.rd (F.LS_CFG_PAR n) = 0 →
    ∀ c, c = .segmentEnd n ∨ c = .sc n ∨ c = .limTrip n ∨ c = .openOn n → exec c s = .next s) ∧
  (∀ s (n : Fin 24) c k, c = .sc n ∧ k = 0 ∨ c = .limTrip n ∧ k = 1 ∧ lsTrips s n = true → lsConducts (lsState s n) = true →
    s.rd (F.LS_STAT_MEMBER n) = 0 → s.rd (F.LS_CFG_PAR n) = 0 → s.mode ≠ mDORMANCY → Ends c s fun t =>
      lsState t n = (if s.rd (F.LS_STAT_RETRIES n) < (s.lsCh n).prof.retry then 3 else 4) ∧
        t.rd (lsFltBit n k) = 1 ∧ t.bit F.LS_ON_MAP_ON n = false ∧ t.bit F.LS_FLT_MAP_FLT n = true) ∧
  (∀ s (n : Fin 24), s.now < (s.lsCh n).segAt + 8000 * (lsSegNow s n).dur → exec (.segmentEnd n) s = .next s) ∧
  (∀ s (n : Fin 24), (s.lsCh n).running = true → lsConducts (lsState s n) = true →
    (s.lsCh n).segAt + 8000 * (lsSegNow s n).dur ≤ s.now →
    s.rd (F.LS_STAT_SEG n) + 1 < (s.lsCh n).prof.segs.length → (s.lsCh n).prof.segs.length ≤ 8 → Ends (.segmentEnd n) s fun t =>
      t.rd (F.LS_STAT_SEG n) = s.rd (F.LS_STAT_SEG n) + 1 ∧ s.RegsBut t [F.LS_STAT_LIMITING n, F.LS_STAT_SEG n] ∧
        t.lsCh n = { s.lsCh n with segAt := s.now } ∧ t.mem = s.mem) ∧
  (∀ s (n : Fin 24), (s.lsCh n).running = true → lsConducts (lsState s n) = true →
    (s.lsCh n).segAt + 8000 * (lsSegNow s n).dur ≤ s.now →
    (s.lsCh n).prof.segs.length ≤ s.rd (F.LS_STAT_SEG n) + 1 → Ends (.segmentEnd n) s fun t =>
      (t.lsCh n).running = false ∧ (lsState t n = 2 ∨ lsState t n = 6)) ∧
  (∀ s (n : Fin 24) i v tb cm ce fs lim, lsConducts (lsState s n) = false → lsState s n ≠ 7 → s.rd (F.LS_STAT_MEMBER n) = 0 →
    s.rd (F.LS_CFG_PAR n) = 0 → s.rd (F.LS_BANK_WARN (n / 6)) = 0 →
    Ends (.lsSample n i v tb cm ce fs lim) s fun t => (t.lsCh n).samples = (i.toNat :: (s.lsCh n).samples).take 20 ∧
      t.rd (F.LS_I_I n) = meanOf ((i.toNat :: (s.lsCh n).samples).take 20) % 2 ^ (F.LS_I_I n).w ∧
      t.rd (F.LS_VOUT_VOUT n) = v.toNat ∧ t.rd (F.LS_BANK_TEMP (n / 6)) = tb.toNat ∧ lsState t n = lsState s n) ∧
  (∀ s (n : Fin 24), lsState s n ≠ 3 ∨ s.now < (s.lsCh n).cutAt + 80000 * (s.lsCh n).prof.delay → exec (.lsRetry n) s = .next s) ∧
  (∀ s (n : Fin 24), lsState s n = 3 → strControls s n = false → s.rdI (F.LS_TJ_TJ n) < 1300 → s.rd (F.LS_STAT_MEMBER n) = 0 →
    (s.lsCh n).cutAt + 80000 * (s.lsCh n).prof.delay ≤ s.now → Ends (.lsRetry n) s fun t =>
      (s.rd (F.LS_BANK_HOT (lsBank n)) = 1 → lsState t n = 7 ∧ (t.lsCh n).hotOff = true) ∧
      (s.rd (F.LS_BANK_HOT (lsBank n)) = 0 → stagFree s (lsBank n) = false →
        (t.lsCh n).stagger = true ∧ (t.lsCh n).retryDue = true)) ∧
  (∀ s (n : Fin 24), lsState s n = 2 → (s.lsCh n).steadyAt + 800000000 ≤ s.now → Ends (.retryCountReset false ⟨n, by omega⟩) s fun t =>
    t.rd (F.LS_STAT_RETRIES n) = 0 ∧ s.OnlyRegs t [F.LS_STAT_RETRIES n]) ∧
  (∀ s (n : Fin 24), lsState s n ≠ 2 ∨ s.now < (s.lsCh n).steadyAt + 800000000 →
    exec (.retryCountReset false ⟨n, by omega⟩) s = .next s) ∧
  (∀ s (n : Fin 32), dioState s n = 1 → (s.dioCh n).onAt + 800000000 ≤ s.now → Ends (.retryCountReset true n) s fun t =>
    t.rd (F.DIO_STAT_RETRIES n) = 0 ∧ s.OnlyRegs t [F.DIO_STAT_RETRIES n]) ∧
  (∀ s (n : Fin 32), dioState s n ≠ 1 ∨ s.now < (s.dioCh n).onAt + 800000000 → exec (.retryCountReset true n) s = .next s) ∧
  (∀ s (b : Fin 4), stagFree s b = false ∨ stagNext s b = none → exec (.staggerSwitchOn b) s = .next s) ∧
  (∀ s (b : Fin 4) n, stagFree s b = true → stagNext s b = some n → s.rd (F.LS_STAT_MEMBER n) = 0 →
    Ends (.staggerSwitchOn b) s fun t =>
      t.bit F.LS_ON_MAP_ON n = true ∧ t.rd (F.LS_STAT_SEG n) = 0 ∧ (t.lsCh n).stagger = false ∧ t.lsStag = s.lsStag.set b s.now) ∧
  (∀ s (f : Fin 2), feedOver s f = false ∨ shedPick s ((List.range 12).map (12 * f.val + ·)) = none →
    exec (.shed f) s = .next s) ∧
  (∀ s (f : Fin 2) n, feedOver s f = true → shedPick s ((List.range 12).map (12 * f.val + ·)) = some n →
    s.rd (F.LS_STAT_MEMBER n) = 0 → s.rd (F.LS_CFG_PAR n) = 0 → Ends (.shed f) s fun t => lsState t n = 4 ∧ t.rd (lsFltBit n 5) = 1) ∧
  (∀ s (n : Fin 24), lsConducts (lsState s n) = true → openOnDue s n = true → s.rd (F.LS_FLT_OPEN_ON n) = 0 →
    Ends (.openOn n) s fun t => t.rd (lsFltBit n 7) = 1 ∧ lsState t n = lsState s n) ∧
  (∀ s (n : Fin 24), lsConducts (lsState s n) = true → exec (.openOff n) s = .next s) ∧
  (∀ s (n : Fin 24), lsConducts (lsState s n) = false → (lsProfile s n).flags % 2 = 1 → s.rd (F.LS_STAT_EXT_DRIVEN n) = 0 →
    s.rd (F.LS_STAT_MEMBER n) = 0 → s.rd (F.LS_FLT_OPEN_OFF n) = 0 → s.mode ≠ mDORMANCY → Ends (.openOff n) s fun t =>
      t.rd (lsFltBit n 8) = 1 ∧ lsState t n = lsState s n) ∧
  (∀ s (n : Fin 24) b, lsConducts (lsState s n) = true → exec (.outHigh n b) s = .next s) ∧
  (∀ s (n : Fin 24) b, lsConducts (lsState s n) = false → s.mode ≠ mDORMANCY → s.rd (F.LS_STAT_MEMBER n) = 0 →
    s.girth.spanMember = true → s.partner.lsOn.testBit n = true ∨ s.rd (F.LS_STAT_SHARED n) = 1 →
    Ends (.outHigh n b) s fun t => t.rd (F.LS_STAT_EXT_DRIVEN n) = 1 ∧ s.OnlyRegs t [F.LS_STAT_EXT_DRIVEN n]) ∧
  (∀ s (n : Fin 24) b, lsConducts (lsState s n) = false → s.mode ≠ mDORMANCY → s.rd (F.LS_STAT_MEMBER n) = 0 →
    s.girth.spanMember = false ∨ s.partner.lsOn.testBit n = false ∧ s.rd (F.LS_STAT_SHARED n) = 0 →
    Ends (.outHigh n b) s fun t => t.rd (lsFltBit n 9) = 1 ∧ lsState t n = lsState s n) ∧
  (∀ s (b : Fin 4), s.rd (F.LS_BANK_WARN b) = 0 → Ends (.bankWarn b) s fun t =>
    t.rd (F.LS_BANK_WARN b) = 1 ∧ t.bit F.LS_BANK_FLT_WARN_SEEN b = true) ∧
  (∀ s (b : Fin 4), s.rd (F.LS_BANK_WARN b) = 1 → exec (.bankWarn b) s = .next s) ∧
  (∀ s (b : Fin 4), s.rd (F.LS_BANK_HOT b) = 0 → Ends (.bankHot b) s fun t => t.rd (F.LS_BANK_HOT b) = 1 ∧
    ∀ k, k < 6 → lsConducts (lsState t (6 * b.val + k)) = false) ∧
  (∀ s (b : Fin 4), s.rd (F.LS_BANK_HOT b) = 1 → exec (.bankHot b) s = .next s) ∧
  (∀ s (b : Fin 4), s.rd (F.LS_BANK_HOT b) = 0 → exec (.bankNormal b) s = .next s) ∧
  (∀ s (b : Fin 4), s.rd (F.LS_BANK_HOT b) = 1 → Ends (.bankNormal b) s fun t => t.rd (F.LS_BANK_HOT b) = 0)

/-- A channel that the partner sends over a link that works, to a paired module, is owned and requested here, and is no
longer among those gone; once it conducts it is shared and the confirmation is sent. Over no link, or UNPAIRED, nothing
changes. The releasing module marks a channel it offers shared on the confirmation, and changes no other register; a
channel it does not offer changes nothing. While a channel is not shared, or its overlap not over, its end changes
nothing; at its end the releasing module turns the channel off, no longer owns it and counts it as gone, and the module
that took it only ends the sharing. A release that fails takes the channel out of what is offered, ends the sharing and
records the fault; for one not offered nothing changes. -/
def Obligations.LoadSwitchRelease : Prop :=
  (∀ s n, s.rd F.XL_STAT_LINK = 0 ∨ s.girth.unpaired = true → exec (.lsReleaseRequest n) s = .next s) ∧
  (∀ s (n : Fin 24), s.rd F.XL_STAT_LINK = 1 → s.girth.unpaired = false → s.rd (F.LS_CFG_PAR n) = 0 → Ends (.lsReleaseRequest n) s fun t =>
    t.girth.ownLs.getLsbD n = true ∧ t.rd (F.LS_REQ_ON n) = 1 ∧ t.bit F.STR_GONE_LS_GONE n = false ∧
      (lsConducts (lsState t n) = true → t.rd (F.LS_STAT_SHARED n) = 1 ∧ .xl (.lsConfirm n) ∈ t.out)) ∧
  (∀ s (n : Fin 24), s.girth.offered.getLsbD n = false → exec (.lsReleaseConfirm n) s = .next s) ∧
  (∀ s (n : Fin 24), s.girth.offered.getLsbD n = true → Ends (.lsReleaseConfirm n) s fun t => t.rd (F.LS_STAT_SHARED n) = 1 ∧
    (t.lsCh n).releasing = true ∧ (t.lsCh n).relAt = s.now ∧ s.RegsBut t [F.LS_STAT_SHARED n]) ∧
  (∀ s (n : Fin 24), s.rd (F.LS_STAT_SHARED n) = 0 ∨ overlapOver s n = false → exec (.lsOverlapEnd n) s = .next s) ∧
  (∀ s (n : Fin 24), s.rd (F.LS_STAT_SHARED n) = 1 → overlapOver s n = true → (s.lsCh n).releasing = false →
    Ends (.lsOverlapEnd n) s fun t => t.rd (F.LS_STAT_SHARED n) = 0 ∧ s.RegsBut t [F.LS_STAT_SHARED n]) ∧
  (∀ s (n : Fin 24), s.rd (F.LS_STAT_SHARED n) = 1 → overlapOver s n = true → (s.lsCh n).releasing = true →
    Ends (.lsOverlapEnd n) s fun t =>
      t.girth.ownLs.getLsbD n = false ∧ t.rd (F.LS_REQ_ON n) = 0 ∧ t.rd (F.LS_STAT_SHARED n) = 0 ∧
        t.bit F.STR_GONE_LS_GONE n = true ∧ t.rd (F.LS_STAT_EXT_DRIVEN n) = 1 ∧ (t.lsCh n).releasing = false) ∧
  (∀ s (n : Fin 24), s.girth.offered.getLsbD n = false → exec (.relFail n) s = .next s) ∧
  (∀ s (n : Fin 24), s.girth.offered.getLsbD n = true → Ends (.relFail n) s fun t => t.girth.offered.getLsbD n = false ∧
    t.rd (lsFltBit n 11) = 1 ∧ t.rd (F.LS_STAT_SHARED n) = 0 ∧ (t.lsCh n).releasing = false)

/-- In DORMANT a line that is present is not supervised: frames and timeouts change nothing. A frame on SWX with the
module in reset or in QUARANTINE changes nothing of a line present. Otherwise, on a line already present: one bad frame
only counts, a good one keeps the line, and one that ends before the window minimum loses it, EARLY and FRAME_ERR set.
A timeout before the window maximum has passed changes nothing; after it the line is lost and its lost bit set, and the
loss of a required stream out of a hold starts one that holds every channel at its captured state, with the hold window
running where it is not 0. A line not present begins its run again. The hold window, the partner timer and the reclaim
timer do nothing before their time or while they do not run; at the end of the hold window the fail-safe codes apply;
when the partner timer ends, the channels at PARTNER code are held off; when the reclaim timer ends, channels in HOLD
take their codes and those at their codes keep them. A release by anyone but the supervisor or Stitch is refused with
0x0207, and with 0x0303 in QUARANTINE, in DORMANT or with a required stream missing; with nothing held it is answered 0
and changes nothing else; in HOLD and FAILSAFE it releases the channels it names, and one that leaves none ends the
hold. -/
def Obligations.StirrupHold : Prop :=
  (∀ s l b g c, c = .wdogFrameRx l b g ∨ c = .streamTimeout l → s.rd F.STR_STAT_STATE = 3 → (strLine s (l : Fin 3).val).present = true →
    exec c s = .next s) ∧
  (∀ s b g, s.mode = 0 ∨ s.mode = mQUARANTINE → (strLine s 2).present = true → exec (.wdogFrameRx 2 b g) s = .next s) ∧
  (∀ s (l : Fin 3) b g q, s.rd F.STR_STAT_STATE ≠ 3 → (l.val = 2 → s.mode ≠ 0 ∧ s.mode ≠ mQUARANTINE) → (strLine s l).present = true →
    (strLine s l).seq = some q → (strWindow s l).1 ≤ g → frameOk s l b = false → (strLine s l).bad = 0 →
    Ends (.wdogFrameRx l b g) s fun t =>
      (strLine t l).present = true ∧ (strLine t l).bad = 1 ∧ t.rd F.STR_FLT_FRAME_ERR = 1 ∧ t.rd F.STR_STAT_STATE = s.rd F.STR_STAT_STATE) ∧
  (∀ s (l : Fin 3) b g q, s.rd F.STR_STAT_STATE ≠ 3 → (l.val = 2 → s.mode ≠ 0 ∧ s.mode ≠ mQUARANTINE) → (strLine s l).present = true →
    (strLine s l).seq = some q → (strWindow s l).1 ≤ g → frameOk s l b = true → (byteNat b 2).testBit 1 = false →
    Ends (.wdogFrameRx l b g) s fun t =>
      (strLine t l).present = true ∧ (strLine t l).seq = some (byteNat b 1 % 16) ∧ (strLine t l).bad = 0 ∧
        (strLine t l).endAt = s.now ∧ t.rd F.STR_STAT_STATE = s.rd F.STR_STAT_STATE) ∧
  (∀ s (l : Fin 3) b g q, s.rd F.STR_STAT_STATE ≠ 3 → (l.val = 2 → s.mode ≠ 0 ∧ s.mode ≠ mQUARANTINE) → (strLine s l).present = true →
    (strLine s l).seq = some q → g < (strWindow s l).1 → Ends (.wdogFrameRx l b g) s fun t =>
      (strLine t l).present = false ∧ t.rd F.STR_FLT_EARLY = 1 ∧ t.rd F.STR_FLT_FRAME_ERR = 1) ∧
  (∀ s (l : Fin 3), rcPast s (strLine s l).endAt (strWindow s l).2 = false → exec (.streamTimeout l) s = .next s) ∧
  (∀ s (l : Fin 3), rcPast s (strLine s l).endAt (strWindow s l).2 = true → s.rd F.STR_STAT_STATE ≠ 3 →
    (strLine s l).present = true → Ends (.streamTimeout l) s fun t =>
      (strLine t l).present = false ∧ t.rd (strLostBit l) = 1) ∧
  (∀ s (l : Fin 3), rcPast s (strLine s l).endAt (strWindow s l).2 = true → s.rd F.STR_STAT_STATE = 0 →
    (strLine s l).present = true → strRequired s l = true → s.rd F.STR_HOLD_TMO_TMO ≠ 0 →
    Ends (.streamTimeout l) s fun t => t.rd F.STR_STAT_STATE = 1 ∧ t.str.holdLs = onLs s ∧ t.str.holdDio = onDio s ∧
      t.str.relLs = 0 ∧ t.str.relDio = 0 ∧ t.str.holdTimer = true ∧ t.str.holdAt = s.now) ∧
  (∀ s (l : Fin 3), rcPast s (strLine s l).endAt (strWindow s l).2 = true → (strLine s l).present = false →
    Ends (.streamTimeout l) s fun t => (strLine t l).run = 0 ∧ t.mem = s.mem) ∧
  (∀ s, s.rd F.STR_STAT_STATE ≠ 1 ∨ s.str.holdTimer = false ∨ rcPast s s.str.holdAt (1000 * s.rd F.STR_HOLD_TMO_TMO) = false →
    exec .holdExpiry s = .next s) ∧
  (∀ s, s.rd F.STR_STAT_STATE = 1 → s.str.holdTimer = true → rcPast s s.str.holdAt (1000 * s.rd F.STR_HOLD_TMO_TMO) = true →
    Ends .holdExpiry s fun t =>
      t.rd F.STR_STAT_STATE = 2 ∧ t.rd F.STR_FLT_HOLD_EXPIRED = 1 ∧ t.str.holdTimer = false) ∧
  (∀ s, s.str.partnerTimer = false ∨ rcPast s s.str.partnerAt (1000 * max 1 (s.rd F.STR_PARTNER_TMO_TMO)) = false →
    exec .partnerTmoExpiry s = .next s) ∧
  (∀ s, s.str.partnerTimer = true → rcPast s s.str.partnerAt (1000 * max 1 (s.rd F.STR_PARTNER_TMO_TMO)) = true →
    Ends .partnerTmoExpiry s fun t =>
      t.str = { s.str with partnerTimer := false, holdLs := s.str.holdLs &&& ~~~s.str.partLs,
                           holdDio := s.str.holdDio &&& ~~~s.str.partDio, partLs := 0, partDio := 0 }) ∧
  (∀ s, s.str.reclaimTimer = false ∨ rcPast s s.str.reclaimAt (1000 * max 1 (s.rd F.STR_RECLAIM_TMO_TMO)) = false →
    exec .reclaimExpiry s = .next s) ∧
  (∀ s, s.str.reclaimTimer = true → rcPast s s.str.reclaimAt (1000 * max 1 (s.rd F.STR_RECLAIM_TMO_TMO)) = true →
    s.rd F.STR_STAT_STATE = 1 → Ends .reclaimExpiry s fun t =>
      t.rd F.STR_FLT_RECLAIM_EXPIRED = 1 ∧ t.rd F.STR_STAT_STATE = 2) ∧
  (∀ s, s.str.reclaimTimer = true → rcPast s s.str.reclaimAt (1000 * max 1 (s.rd F.STR_RECLAIM_TMO_TMO)) = true →
    s.rd F.STR_STAT_STATE = 2 → Ends .reclaimExpiry s fun t =>
      t.rd F.STR_FLT_RECLAIM_EXPIRED = 1 ∧ t.str.reclaimTimer = false ∧ s.OnlyRegs { t with str := s.str } [F.STR_FLT_RECLAIM_EXPIRED]) ∧
  (∀ s r m d c, c = .strRelLs r m ∨ c = .strRelDio r d → r.supOrStitch = false → Ends c s fun t => s.Refused t r 0x0207) ∧
  (∀ s r m d c, c = .strRelLs r m ∨ c = .strRelDio r d → r.supOrStitch = true →
    s.mode = mQUARANTINE ∨ s.rd F.STR_STAT_STATE = 3 ∨ strAllPresent s = false → Ends c s fun t => s.Refused t r 0x0303) ∧
  (∀ s r m d c, c = .strRelLs r m ∨ c = .strRelDio r d → r.supOrStitch = true → s.mode ≠ mQUARANTINE →
    s.rd F.STR_STAT_STATE = 0 → strAllPresent s = true → exec c s = .next (s.status 0)) ∧
  (∀ s r (m : BitVec 24), r.supOrStitch = true → s.mode ≠ mQUARANTINE → s.rd F.STR_STAT_STATE = 1 ∨ s.rd F.STR_STAT_STATE = 2 →
    strAllPresent s = true → Ends (.strRelLs r m) s fun t => t.resp = ⟨0, 0⟩ ∧ t.str.relLs = s.str.relLs ||| m ∧
      (s.str.relDio = BitVec.allOnes 32 → s.str.relLs ||| m = BitVec.allOnes 24 → t.rd F.STR_STAT_STATE = 0)) ∧
  (∀ s r (m : BitVec 32), r.supOrStitch = true → s.mode ≠ mQUARANTINE → s.rd F.STR_STAT_STATE = 1 ∨ s.rd F.STR_STAT_STATE = 2 →
    strAllPresent s = true → Ends (.strRelDio r m) s fun t => t.resp = ⟨0, 0⟩ ∧ t.str.relDio = s.str.relDio ||| m ∧
      (s.str.relLs = BitVec.allOnes 24 → s.str.relDio ||| m = BitVec.allOnes 32 → t.rd F.STR_STAT_STATE = 0))

/-- While the inputs are off, or at the level it has, a raw transition changes nothing; the first away from the
filtered level leaves its stamp, less 80 ticks, and changes no register but RAW. An edge is accepted when the filter
time has passed without a transition at the other level, no wire being broken: the filtered level, its cycle, its stamp
and the count of edges follow; back at the same level the mark is dropped; before that time, or with no mark, nothing
changes. A broken wire of an input is flagged while inputs work and its detection is on; WIRE_RESTORED clears the flag,
and changes nothing without it. With the DIO window in service: a request for a channel of another plot is answered
0x0206, for a member 0x0303, ON in SERVICE 0x0303. ON of an output outside SERVICE that no other source or Trellis
action holds in the tick makes it conduct, off makes it not. CLEAR of a latched output without ON leaves it OFF with no
retries. A cut-off of a conducting output of no group goes to RETRY while retries remain, else it latches, its fault
bit set. A retry does nothing before 100 ms, in another state or under Stirrup; it latches where no retry is left, else
it counts and the output is no longer in RETRY. A readback fault shows an output high or low, OPEN_ON its bit. DIO_SVC
is the supervisor's and Stitch's (0x0207), in SERVICE and for no member (0x0303), for 1 to 600 s (0x0301); it ends when
its time is over, not before. FCL_CHANGE changes nothing where no channel follows a line, and ends the Trellis action
that stands over the line at one that does. With the window in service a read of DIO_EDGE_CYC answers it and latches
the edge's angle, nanoseconds and direction. -/
def Obligations.FieldIo : Prop :=
  (∀ s (n : Fin 32) b, dioInputs s = false ∨ s.rdB (F.DIO_STAT_RAW n) = b → exec (.dioRawTransition n b) s = .next s) ∧
  (∀ s (n : Fin 32) b, dioInputs s = true → s.rdB (F.DIO_STAT_RAW n) ≠ b → s.rdB (F.DIO_STAT_LEVEL n) ≠ b → (s.dioCh n).mark = none →
    Ends (.dioRawTransition n b) s fun t => t.rdB (F.DIO_STAT_RAW n) = b ∧ (t.dioCh n).mark = some (stampBack s 80) ∧
      (t.dioCh n).raws = 1 ∧ s.RegsBut t [F.DIO_STAT_RAW n]) ∧
  (∀ s (n : Fin 32), (s.dioCh n).mark = none ∨ dioInputs s = false ∨
    s.now < (s.dioCh n).rawAt + 80 * max 1 (s.rd (F.DIO_DEB_DEB n)) → exec (.dioEdgeAccept n) s = .next s) ∧
  (∀ s (n : Fin 32) st, (s.dioCh n).mark = some st → dioInputs s = true →
    (s.dioCh n).rawAt + 80 * max 1 (s.rd (F.DIO_DEB_DEB n)) ≤ s.now → s.rdB (F.DIO_STAT_RAW n) = s.rdB (F.DIO_STAT_LEVEL n) →
    exec (.dioEdgeAccept n) s = .next (s.setDio n { s.dioCh n with mark := none, raws := 0 })) ∧
  (∀ s (n : Fin 32) st, (s.dioCh n).mark = some st → dioInputs s = true →
    (s.dioCh n).rawAt + 80 * max 1 (s.rd (F.DIO_DEB_DEB n)) ≤ s.now → s.rdB (F.DIO_STAT_RAW n) ≠ s.rdB (F.DIO_STAT_LEVEL n) →
    s.rd (F.DIO_FLT_WIRE_BREAK n) = 0 → Ends (.dioEdgeAccept n) s fun t =>
      t.rdB (F.DIO_STAT_LEVEL n) = s.rdB (F.DIO_STAT_RAW n) ∧ t.rd (F.DIO_EDGE_CYC_CYC n) = st.ang.cycle.toNat ∧
        (t.dioCh n).edge = st ∧ (t.dioCh n).edges = ((s.dioCh n).edges + 1) % 65536 ∧ (t.dioCh n).mark = none) ∧
  (∀ s (n : Fin 32), dioInputs s = false ∨ s.rd (F.DIO_CFG_DIR n) = 1 ∨ s.rd (F.DIO_CFG_WB_EN n) = 0 →
    exec (.wireBreak n) s = .next s) ∧
  (∀ s (n : Fin 32), dioInputs s = true → s.rd (F.DIO_CFG_DIR n) = 0 → s.rd (F.DIO_CFG_WB_EN n) = 1 →
    s.rd (F.DIO_FLT_WIRE_BREAK n) = 0 → Ends (.wireBreak n) s fun t =>
      t.rd (F.DIO_FLT_WIRE_BREAK n) = 1 ∧ t.bit F.DIO_FLT_MAP_FLT n = true) ∧
  (∀ s (n : Fin 32), s.rd (F.DIO_FLT_WIRE_BREAK n) = 1 → Ends (.wireRestored n) s fun t => t.rd (F.DIO_FLT_WIRE_BREAK n) = 0) ∧
  (∀ s (n : Fin 32), s.rd (F.DIO_FLT_WIRE_BREAK n) = 0 → exec (.wireRestored n) s = .next s) ∧
  (∀ s r (n : Fin 32) b c, windowDead s (F.DIO_REQ_ON n).addr = false → c = .dioReqOn r n b ∨ c = .dioClear r n →
    r.forPlot (dioOwner s n) = false → exec c s = .next (s.status 0x0206)) ∧
  (∀ s r (n : Fin 32) b c, windowDead s (F.DIO_REQ_ON n).addr = false → c = .dioReqOn r n b ∨ c = .dioClear r n →
    r.forPlot (dioOwner s n) = true → s.rd (F.DIO_STAT_MEMBER n) = 1 → exec c s = .next (s.status 0x0303)) ∧
  (∀ s r (n : Fin 32), windowDead s (F.DIO_REQ_ON n).addr = false → r.forPlot (dioOwner s n) = true → s.mode = mSERVICE →
    exec (.dioReqOn r n true) s = .next (s.status 0x0303)) ∧
  (∀ s r (n : Fin 32) b, windowDead s (F.DIO_REQ_ON n).addr = false → r.forPlot (dioOwner s n) = true →
    s.hwHas (F.DIO_REQ_ON n) = false → s.trl.actOn.find? (32 + n) ≠ some s.now → s.rd (F.DIO_STAT_MEMBER n) = 0 → s.mode ≠ mSERVICE →
    s.rd (F.DIO_CFG_PAR n) = 0 → s.rd (F.DIO_CFG_DIR n) = 1 → s.rd (F.DIO_CFG_FCL_EN n) = 0 → dioState s n = 0 ∨ dioState s n = 1 →
    dioOverride s n = none → s.girth.ownDio.getLsbD n = true → (s.dioCh n).overFcl = none → (s.dioCh n).service = false →
    Ends (.dioReqOn r n b) s fun t => t.resp = ⟨0, 0⟩ ∧ t.rdB (F.DIO_REQ_ON n) = b ∧ dioState t n = b.toNat ∧
      t.bit F.DIO_ON_MAP_ON n = b) ∧
  (∀ s r (n : Fin 32), windowDead s (F.DIO_REQ_ON n).addr = false → r.forPlot (dioOwner s n) = true →
    s.rd (F.DIO_STAT_MEMBER n) = 0 → s.rd (F.DIO_CFG_PAR n) = 0 →
    s.rd (F.DIO_CFG_DIR n) = 1 → dioState s n = 3 → s.rd (F.DIO_REQ_ON n) = 0 → s.rd (F.DIO_CFG_FCL_EN n) = 0 →
    (s.dioCh n).overFcl = none → (s.dioCh n).service = false → dioOverride s n = none → Ends (.dioClear r n) s fun t =>
      t.resp = ⟨0, 0⟩ ∧ dioState t n = 0 ∧ t.rd (F.DIO_STAT_RETRIES n) = 0) ∧
  (∀ s (n : Fin 32) c k, c = .dioLimit n ∧ k = 0 ∨ c = .dioTherm n ∧ k = 1 → dioConducts (dioState s n) = true →
    s.rd (F.DIO_STAT_MEMBER n) = 0 → s.rd (F.DIO_CFG_PAR n) = 0 → Ends c s fun t =>
      dioState t n = (if s.rd (F.DIO_STAT_RETRIES n) < s.rd (F.DIO_CFG_RETRY n) then 2 else 3) ∧
        t.rd (dioFltBit n k) = 1 ∧ t.bit F.DIO_ON_MAP_ON n = false) ∧
  (∀ s (n : Fin 32), dioState s n ≠ 2 ∨ strControlsDio s n = true ∨ s.now < (s.dioCh n).cutAt + 8000000 →
    exec (.dioRetry n) s = .next s) ∧
  (∀ s (n : Fin 32), dioState s n = 2 → strControlsDio s n = false → (s.dioCh n).cutAt + 8000000 ≤ s.now →
    s.rd (F.DIO_CFG_RETRY (dioLead s n)) ≤ s.rd (F.DIO_STAT_RETRIES n) →
    Ends (.dioRetry n) s fun t => dioState t n = 3 ∧ t.bit F.DIO_ON_MAP_ON n = false) ∧
  (∀ s (n : Fin 32), dioState s n = 2 → strControlsDio s n = false → (s.dioCh n).cutAt + 8000000 ≤ s.now →
    s.rd (F.DIO_STAT_MEMBER n) = 0 → s.rd (F.DIO_CFG_PAR n) = 0 →
    s.rd (F.DIO_STAT_RETRIES n) < s.rd (F.DIO_CFG_RETRY n) → Ends (.dioRetry n) s fun t =>
      t.rd (F.DIO_STAT_RETRIES n) = (s.rd (F.DIO_STAT_RETRIES n) + 1) % 2 ^ (F.DIO_STAT_RETRIES n).w ∧ dioState t n ≠ 2) ∧
  (∀ s (n : Fin 32), s.rd (F.DIO_CFG_DIR n) = 1 → s.mode ≠ mDORMANCY → dioConducts (dioState s n) = false →
    Ends (.dioReadbackFault n) s fun t => t.rd (F.DIO_FLT_OUT_HIGH n) = 1) ∧
  (∀ s (n : Fin 32), s.rd (F.DIO_CFG_DIR n) = 1 → s.mode ≠ mDORMANCY → dioConducts (dioState s n) = true →
    s.rd (F.DIO_STAT_LIMITING n) = 0 → Ends (.dioReadbackFault n) s fun t => t.rd (F.DIO_FLT_OUT_LOW n) = 1) ∧
  (∀ s (n : Fin 32), s.rd (F.DIO_CFG_OL_EN (dioLead s n)) = 1 → dioConducts (dioState s n) = true → Ends (.dioOpenOn n) s fun t =>
    t.rd (F.DIO_FLT_OPEN_ON n) = 1 ∧ dioState t n = dioState s n) ∧
  (∀ s r (n : Fin 32) d, windowDead s F.DIO_SVC_CH.addr = false → r.supOrStitch = false → exec (.dioServiceOn r n d) s = .next (s.status 0x0207)) ∧
  (∀ s r (n : Fin 32) d, windowDead s F.DIO_SVC_CH.addr = false → r.supOrStitch = true → s.mode ≠ mSERVICE ∨ s.rd (F.DIO_STAT_MEMBER n) = 1 →
    exec (.dioServiceOn r n d) s = .next (s.status 0x0303)) ∧
  (∀ s r (n : Fin 32) (d : BitVec 16), windowDead s F.DIO_SVC_CH.addr = false → r.supOrStitch = true → s.mode = mSERVICE →
    s.rd (F.DIO_STAT_MEMBER n) = 0 → d.toNat = 0 ∨ 600 < d.toNat → exec (.dioServiceOn r n d) s = .next (s.status 0x0301)) ∧
  (∀ s r (n : Fin 32) (d : BitVec 16), windowDead s F.DIO_SVC_CH.addr = false → r.supOrStitch = true → s.mode = mSERVICE →
    s.rd (F.DIO_STAT_MEMBER n) = 0 → 1 ≤ d.toNat → d.toNat ≤ 600 → s.rd (F.DIO_CFG_PAR n) = 0 →
    Ends (.dioServiceOn r n d) s fun t => t.resp = ⟨0, 0⟩ ∧ (t.dioCh n).service = true ∧
      (t.dioCh n).svcEnd = s.now + 80000000 * d.toNat) ∧
  (∀ s (n : Fin 32), (s.dioCh n).service = true → (s.dioCh n).svcEnd ≤ s.now → s.rd (F.DIO_CFG_PAR n) = 0 →
    Ends (.dioServiceExpiry n) s fun t => (t.dioCh n).service = false) ∧
  (∀ s (n : Fin 32), (s.dioCh n).service = false ∨ s.now < (s.dioCh n).svcEnd → exec (.dioServiceExpiry n) s = .next s) ∧
  (∀ s (l : Fin 8), (∀ n, n < 32 → s.rd (F.DIO_CFG_FCL_EN n) = 0) → exec (.fclChange l) s = .next s) ∧
  (∀ s (l : Fin 8) (n : Fin 32), s.rd (F.DIO_CFG_FCL_EN n) = 1 → s.rd (F.DIO_CFG_FCL n) = l.val → Ends (.fclChange l) s fun t =>
    (t.dioCh n).overFcl = none) ∧
  (∀ s (n : Fin 32), windowDead s (F.DIO_EDGE_CYC_CYC n).addr = false → Ends (.dioEdgeCycRead n) s fun t =>
    t.resp = ⟨0, s.rd (F.DIO_EDGE_CYC_CYC n)⟩ ∧
    t.rd (F.DIO_EDGE_ANG_ANG n) = (s.dioCh n).edge.ang.angle.toNat ∧ t.rd (F.DIO_EDGE_NS_NS n) = (s.dioCh n).edge.pt.ns.toNat % 2 ^ 30 ∧
      t.rdB (F.DIO_EDGE_NS_RISE n) = (s.dioCh n).rise)

/-- With the buffer's window in service: a requester that may not use the buffer is answered 0x0206 and changes
nothing. REQ is refused with 0x0303 while the buffer waits or sends, and with 0x0302 for an FD frame on a controller
without FD; a classic frame without BRS makes the buffer PENDING, or ARMED with TT, its attempts 0. ABORT of a buffer
that sends is noted for the end of its attempt; a waiting plot or system buffer with nothing behind it is ABORTED at
once. A start of frame changes nothing of a controller that may not launch; of one that may, idle, the buffer it offers
becomes ACTIVE and its attempts count. Nothing else than a start changes a buffer that is not ACTIVE. A lost
arbitration or an error sets its bit, and without ONESHOT or an abort the buffer contends again; an acknowledged frame
leaves the module and the buffer is SENT; in each case the gateway's waiting frames follow. A window missed aborts a
PENDING buffer with TT_ABORT and sets TT_MISS; before that, or without it, nothing changes. ABORT_ALL is the
supervisor's (0x0207): each waiting plot buffer with nothing behind it is ABORTED. -/
def Obligations.CanBuffers : Prop :=
  (∀ s r (i : Fin 8) (b : Fin 64) c, windowDead s (0x20A20008 + 0x2000 * i + 0x80 * b) = false → c = .canTxbReq r i b ∨ c = .canTxbAbort r i b →
    bufAllowed s r i b = false → exec c s = .next (s.status 0x0206)) ∧
  (∀ s r (i : Fin 8) (b : Fin 64), windowDead s (0x20A20008 + 0x2000 * i + 0x80 * b) = false → bufAllowed s r i b = true →
    bufBusy (bufState s i b) = true → exec (.canTxbReq r i b) s = .next (s.status 0x0303)) ∧
  (∀ s r (i : Fin 8) (b : Fin 64), windowDead s (0x20A20008 + 0x2000 * i + 0x80 * b) = false → bufAllowed s r i b = true →
    bufBusy (bufState s i b) = false → (bufFrame s i b).fdf = true → s.rd (F.CAN_CTL_FD_EN i) = 0 →
    exec (.canTxbReq r i b) s = .next (s.status 0x0302)) ∧
  (∀ s r (i : Fin 8) (b : Fin 64), windowDead s (0x20A20008 + 0x2000 * i + 0x80 * b) = false → bufAllowed s r i b = true →
    bufBusy (bufState s i b) = false → (bufFrame s i b).fdf = false → (bufFrame s i b).brs = false →
    Ends (.canTxbReq r i b) s fun t =>
      t.resp = ⟨0, 0⟩ ∧ bufState t i b = (if s.rdB (F.CAN_TXB_CTL_TT i b) then 2 else 1) ∧ t.rd (F.CAN_TXB_STAT_ATTEMPTS i b) = 0 ∧
        s.RegsBut t [F.CAN_TXB_STAT_ATTEMPTS i b, F.CAN_TXB_STAT_STATE i b, F.CAN_STAT_HELD i]) ∧
  (∀ s r (i : Fin 8) (b : Fin 64), windowDead s (0x20A20008 + 0x2000 * i + 0x80 * b) = false → bufAllowed s r i b = true → bufState s i b = 3 →
    exec (.canTxbAbort r i b) s = .next ((setCanBuf s i b { canBuf s i b with abort := true }).status 0)) ∧
  (∀ s r (i : Fin 8) (b : Fin 64), windowDead s (0x20A20008 + 0x2000 * i + 0x80 * b) = false → bufAllowed s r i b = true →
    bufState s i b = 1 ∨ bufState s i b = 2 ∨ bufState s i b = 6 → (s.canSt i).sys.get b [] = [] →
    Ends (.canTxbAbort r i b) s fun t => t.resp = ⟨0, 0⟩ ∧ bufState t i b = 5) ∧
  (∀ s (i : Fin 8) (b : Fin 64), canSends s i = false → exec (.canTxDone i b .start) s = .next s) ∧
  (∀ s (i : Fin 8) (b : Fin 64), canSends s i = true → canActive s i = none → canOffer s i = some b.val →
    b.val < 8 → (canBuf s i b).effect = none → Ends (.canTxDone i b .start) s fun t =>
      bufState t i b = 3 ∧ t.rd (F.CAN_TXB_STAT_ATTEMPTS i b) = min 255 (s.rd (F.CAN_TXB_STAT_ATTEMPTS i b) + 1) ∧
        s.RegsBut t [F.CAN_TXB_STAT_ATTEMPTS i b, F.CAN_TXB_STAT_STATE i b, F.CAN_STAT_HELD i]) ∧
  (∀ s (i : Fin 8) (b : Fin 64) a, a ≠ .start → bufState s i b ≠ 3 → exec (.canTxDone i b a) s = .next s) ∧
  (∀ s (i : Fin 8) (b : Fin 64) a f, a = .lost ∧ f = F.CAN_TXB_STAT_LOST_ARB i b ∨ a = .error ∧ f = F.CAN_TXB_STAT_ERR i b →
    bufState s i b = 3 → let u := bufFail (s.wr f 1) i b
      exec (.canTxDone i b a) s = .next (gwService i u) ∧
        (s.rd (F.CAN_TXB_CTL_ONESHOT i b) = 0 → (canBuf s i b).abort = false → bufState u i b = 1 ∧ u.rd f = 1)) ∧
  (∀ s (i : Fin 8) (b : Fin 64) back loop tdc, bufState s i b = 3 → let u := bufSent s i b back loop.toNat tdc.toNat
    exec (.canTxDone i b (.acked back loop tdc)) s = .next (gwService i u) ∧
      (b.val ≠ 7 → (s.canSt i).sys.get b [] = [] → b.val ≠ 1 → bufState u i b = 4 ∧ u.out = s.out ++ [.can i (bufFrame s i b)])) ∧
  (∀ s (i : Fin 8) (b : Fin 64), bufState s i b ≠ 1 ∨ ttDue s i b = false ∨ s.rd (F.CAN_TXB_CTL_TT_ABORT i b) = 0 →
    exec (.ttMiss i b) s = .next s) ∧
  (∀ s (i : Fin 8) (b : Fin 64) e, bufState s i b = 1 → (canBuf s i b).effect = some e →
    e + bitTicks s i * max 1 (s.rd (F.CAN_TXB_CTL_TT_WIN i b)) ≤ s.now → s.rd (F.CAN_TXB_CTL_TT_ABORT i b) = 1 →
    (s.canSt i).sys.get b [] = [] → Ends (.ttMiss i b) s fun t =>
      bufState t i b = 5 ∧ t.rd (F.CAN_TXB_STAT_TT_MISS i b) = 1 ∧ t.rd (F.CAN_FLT_TT_MISS i) = 1) ∧
  (∀ s r (i : Fin 8), windowDead s (F.CAN_CMD_CMD i).addr = false → r ≠ .supervisor → exec (.abortAll r i) s = .next (s.status 0x0207)) ∧
  (∀ s (i : Fin 8) (b : Fin 64), windowDead s (F.CAN_CMD_CMD i).addr = false → 8 ≤ b.val →
    bufState s i b = 1 ∨ bufState s i b = 2 ∨ bufState s i b = 6 → (s.canSt i).sys.get b [] = [] →
    Ends (.abortAll .supervisor i) s fun t => t.resp = ⟨0, 0⟩ ∧ bufState t i b = 5)

/-- A controller that is off, not integrated, bus-off or recovering takes no frame and sees no error. One that receives
counts a frame that nothing of it accepts and changes no other register; the share of a plot with one element that
accepts, not under reset, delivers the frame to that element's queue where it has room. A recessive res bit without PXD
sets PXE, its flag, and counts no transmit error; an acknowledgement error sets its bit and counts as R380 says,
gateway frames that wait following. A transmitter whose count passes 255 goes bus-off. With the CAN window in service
RECOVER is the supervisor's and Stitch's (0x0207), in bus-off only (0x0303): RECOVERING, nothing else changing.
RECOVERY_COMPLETE changes nothing before the recovery has run; then the controller is error-active with both counters
0. In reset, and at a transceiver without VIN, no dominant bus shows; else the dominant timeout of the transmit path,
of the bus and its end set and clear their bits. 11 recessive bits integrate a controller that is not off, ending a
protocol exception, and change nothing of one that is. Outside DORMANCY, or without EN, no transceiver wakes the
module; in DORMANCY a bad frame counts up to 31. -/
def Obligations.CanBus : Prop :=
  (∀ s (i : Fin 8) f k x, canHears s i = false → exec (.canFrameRx i f k x) s = .next s) ∧
  (∀ s (i : Fin 8) f k x, canHears s i = true →
    s.rd (F.CAN_ECNT_REC i) = 0 → s.rd (F.PAIR_GW_STAT_ACTIVE (i / 2)) = 0 → isMirror s i f = false →
    (∀ e, e < 16 → elemMatch s i f e = false) → (∀ p, p < 8 → s.rd (F.CAN_PFLT_FCOUNT i p) = 0) →
    Ends (.canFrameRx i f k x) s fun t =>
      t.rd (F.CAN_CNT_RX_OK i) = min (s.rd (F.CAN_CNT_RX_OK i) + 1) (2 ^ (F.CAN_CNT_RX_OK i).w - 1) ∧ s.OnlyRegs t [F.CAN_CNT_RX_OK i]) ∧
  (∀ s (i : Fin 8) (f : CanFrame) st (p : Fin 8) e, s.rd (F.CAN_PFLT_FCOUNT i p) = 1 → s.rd (F.CAN_PFLT_FBASE i p) = e →
    elemMatch s i f e = true → s.rd (F.CAN_FE_CFG_REJECT i e) = 0 → e < 128 →
    plotResetting s (s.rd (F.Q_OWN_CONS (s.rd (F.CAN_FE_CFG_QUEUE i e)))) = false →
    hwRoom s (s.rd (F.CAN_FE_CFG_QUEUE i e)) (rxPacket i e f st).length = true →
    ((rxPlot i f st p s).queue (s.rd (F.CAN_FE_CFG_QUEUE i e))).fill = (s.queue (s.rd (F.CAN_FE_CFG_QUEUE i e))).fill ++
      [⟨s.rd (F.Q_CFG_HWPRIO (s.rd (F.CAN_FE_CFG_QUEUE i e))),
        placeWords (furPos s (s.rd (F.CAN_FE_CFG_QUEUE i e))) (markLast (rxPacket i e f st))⟩]) ∧
  (∀ s (i : Fin 8) e tx h, canHears s i = false → exec (.canError i e tx h) s = .next s) ∧
  (∀ s (i : Fin 8) tx h, canHears s i = true → s.rd (F.CAN_CTL_PXD i) = 0 →
    Ends (.canError i .res tx h) s fun t => t.rd (F.CAN_STAT_PXE i) = 1 ∧ t.rd (F.CAN_FLT_PXE_SEEN i) = 1 ∧
      t.rd (F.CAN_ECNT_TEC i) = s.rd (F.CAN_ECNT_TEC i)) ∧
  (∀ s (i : Fin 8) tx h, canHears s i = true → exec (.canError i .ack tx h) s =
    .next (gwService i (errCount ((s.wr (F.CAN_FLT_ACK i) 1).incSat (F.CAN_ERRCNT_ERR_FRAMES i)) i .ack tx h))) ∧
  (∀ s (i : Fin 8) h, canMode s i = 3 → s.rd (F.CAN_STAT_STATE i) < 2 → 248 ≤ s.rd (F.CAN_ECNT_TEC i) →
    (errCount s i .bit1 true h).rd (F.CAN_STAT_STATE i) = 2) ∧
  (∀ s r (i : Fin 8), windowDead s (F.CAN_CMD_CMD i).addr = false → r.supOrStitch = false → exec (.recover r i) s = .next (s.status 0x0207)) ∧
  (∀ s r (i : Fin 8), windowDead s (F.CAN_CMD_CMD i).addr = false → r.supOrStitch = true → s.rd (F.CAN_STAT_STATE i) ≠ 2 →
    exec (.recover r i) s = .next (s.status 0x0303)) ∧
  (∀ s r (i : Fin 8), windowDead s (F.CAN_CMD_CMD i).addr = false → r.supOrStitch = true → s.rd (F.CAN_STAT_STATE i) = 2 →
    Ends (.recover r i) s fun t => t.resp = ⟨0, 0⟩ ∧ t.rd (F.CAN_STAT_STATE i) = 3 ∧ s.RegsBut t [F.CAN_STAT_STATE i]) ∧
  (∀ s (i : Fin 8), recoveryRun s i = false → exec (.recoveryComplete i) s = .next s) ∧
  (∀ s (i : Fin 8), recoveryRun s i = true → Ends (.recoveryComplete i) s fun t =>
    t.rd (F.CAN_STAT_STATE i) = 0 ∧ t.rd (F.CAN_ECNT_TEC i) = 0 ∧ t.rd (F.CAN_ECNT_REC i) = 0 ∧ t.rd (F.CAN_STAT_EWARN i) = 0) ∧
  (∀ s (i : Fin 8) e, windowDead s (F.CAN_STAT_BUS_DOM i).addr = true ∨ canXcvr s i = 3 → exec (.busDom i e) s = .next s) ∧
  (∀ s (i : Fin 8), windowDead s (F.CAN_STAT_BUS_DOM i).addr = false → canXcvr s i = 0 → Ends (.busDom i .txPath) s fun t =>
    t.rd (F.CAN_FLT_DOM_TMO i) = 1 ∧ s.OnlyRegs t [F.CAN_FLT_DOM_TMO i]) ∧
  (∀ s (i : Fin 8), windowDead s (F.CAN_STAT_BUS_DOM i).addr = false → canXcvr s i ≠ 3 → s.rd (F.CAN_STAT_BUS_DOM i) = 0 →
    Ends (.busDom i .bus) s fun t => t.rd (F.CAN_STAT_BUS_DOM i) = 1 ∧ t.rd (F.CAN_FLT_BUS_DOM_SEEN i) = 1) ∧
  (∀ s (i : Fin 8), windowDead s (F.CAN_STAT_BUS_DOM i).addr = false → canXcvr s i ≠ 3 → Ends (.busDom i .recessive) s fun t =>
    t.rd (F.CAN_STAT_BUS_DOM i) = 0 ∧ s.OnlyRegs t [F.CAN_STAT_BUS_DOM i]) ∧
  (∀ s (i : Fin 8), canMode s i = 0 → exec (.canBusIntegrate i) s = .next s) ∧
  (∀ s (i : Fin 8), canMode s i ≠ 0 → Ends (.canBusIntegrate i) s fun t =>
    t.rd (F.CAN_STAT_SYNCED i) = 1 ∧ t.rd (F.CAN_STAT_PXE i) = 0 ∧ s.OnlyRegs t [F.CAN_STAT_SYNCED i, F.CAN_STAT_PXE i]) ∧
  (∀ s (i : Fin 8) e ok, s.mode ≠ mDORMANCY ∨ dormRd s (F.CAN_SWK_CFG_EN i) = 0 → exec (.selectiveWake i e ok) s = .next s) ∧
  (∀ s (i : Fin 8) ok, s.mode = mDORMANCY → dormRd s (F.CAN_SWK_CFG_EN i) ≠ 0 → s.rd (F.CAN_SWK_CFG_ERRCNT i) < 31 →
    Ends (.selectiveWake i .badFrame ok) s fun t =>
      t.rd (F.CAN_SWK_CFG_ERRCNT i) = s.rd (F.CAN_SWK_CFG_ERRCNT i) + 1 ∧ s.OnlyRegs t [F.CAN_SWK_CFG_ERRCNT i])

/-- A sleep frame that does not reach the protocol changes nothing, and a malformed one only sets FRAME_ERR. A round
starts at the initiator that is awake and consents, RETRY_INT after the last, and not otherwise. A participant that is
awake passes on a TOKEN for it while it consents, showing round and consent, and abandons the round where it does not.
A COMMIT with the consent of the whole ring opens the window at its stamp, while the consent still stands; an ABORT of
the round ends it, a WAKE ends the window. The round's time-out ends a round in its time, and nothing else. A window
that has ended undisturbed enters DORMANCY with SAFE-LS open; with a span partner that does not enter the module stays
awake; before its end nothing changes. Without VIN or in QUARANTINE the WAKE line is not seen; low, it withholds
consent; high again it changes only what shows it. With the window in service PULSE and WAKEFRAME are the supervisor's
and Stitch's (0x0207): PULSE in RUN drives the line, WAKEFRAME sends the frame, or nothing in QUARANTINE. The pulse
ends in its time, not before. -/
def Obligations.NetworkSleep : Prop :=
  (∀ s f k c, c = .tokenRx f ∨ c = .commitRx ⟨f, k⟩ ∨ c = .abortRx f ∨ c = .wakeRx f → nsHears s f = false → exec c s = .next s) ∧
  (∀ s f k c, c = .tokenRx f ∨ c = .commitRx ⟨f, k⟩ ∨ c = .abortRx f ∨ c = .wakeRx f → nsHears s f = true → nsForm s f = false →
    Ends c s fun t => t.rd F.NS_FLT_FRAME_ERR = 1 ∧ s.OnlyRegs t [F.NS_FLT_FRAME_ERR]) ∧
  (∀ s, nsState s ≠ 1 ∨ s.rd F.NS_CTL_INIT = 0 ∨ s.rd F.NS_CTL_EN = 0 ∨ nsLocal s = false ∨ retryDue s = false →
    exec .roundStart s = .next s) ∧
  (∀ s, nsState s = 1 → s.rd F.NS_CTL_INIT = 1 → s.rd F.NS_CTL_EN = 1 → nsLocal s = true → retryDue s = true →
    Ends .roundStart s fun t => nsState t = 2 ∧ t.ns.fwd = true ∧ t.ns.tokAt = s.now ∧
      t.rd F.NS_STAT_ROUND = (s.rd F.NS_STAT_ROUND + 1) % 2 ^ F.NS_STAT_ROUND.w) ∧
  (∀ s f, nsHears s f = true → nsForm s f = true → nsType f = nsTOKEN → nsRing f = s.rd F.NS_RING_RING → nsState s = 1 →
    s.rd F.NS_CTL_INIT = 0 → nsDst f = s.rd F.NS_CTL_NODE → nsLocal s = true → Ends (.tokenRx f) s fun t =>
      nsState t = 2 ∧ t.ns.fwd = true ∧ t.ns.tokAt = s.now ∧ t.rd F.NS_STAT_ROUND = nsRound f ∧
        t.rd F.NS_STAT_CONSENT = nsConsent f) ∧
  (∀ s f, nsHears s f = true → nsForm s f = true → nsType f = nsTOKEN → nsRing f = s.rd F.NS_RING_RING → nsState s = 1 →
    s.rd F.NS_CTL_INIT = 0 → nsDst f = s.rd F.NS_CTL_NODE → nsLocal s = false → Ends (.tokenRx f) s fun t =>
      nsState t = 1 ∧ t.rd F.NS_FLT_ABORTED = 1) ∧
  (∀ s f k, nsHears s f = true → nsForm s f = true → nsType f = nsCOMMIT → nsRing f = s.rd F.NS_RING_RING → nsState s = 2 →
    nsRound f = s.rd F.NS_STAT_ROUND → s.rd F.NS_CTL_INIT = 0 → s.ns.fwd = true → nsConsent f = s.rd F.NS_RING_RING →
    nsHolds s = true → Ends (.commitRx ⟨f, k⟩) s fun t =>
      nsState t = 3 ∧ t.ns.winAt = s.now - k ∧ t.rd F.NS_STAT_CONSENT = nsConsent f) ∧
  (∀ s f, nsHears s f = true → nsForm s f = true → nsType f = nsABORT → nsRing f = s.rd F.NS_RING_RING → nsState s = 2 →
    nsRound f = s.rd F.NS_STAT_ROUND → Ends (.abortRx f) s fun t =>
      nsState t = 1 ∧ t.ns.fwd = false ∧ t.rd F.NS_FLT_ABORTED = 1) ∧
  (∀ s f, nsHears s f = true → nsForm s f = true → nsType f = nsWAKE → nsRing f = s.rd F.NS_RING_RING → nsState s = 3 →
    Ends (.wakeRx f) s fun t => nsState t = 1 ∧ t.rd F.NS_FLT_ABORTED = 1) ∧
  (∀ s, nsState s = 2 → msPast s s.ns.tokAt (max 1 (s.rd F.NS_TIME_ROUND_TMO)) = true → Ends .roundTmo s fun t =>
    nsState t = 1 ∧ t.rd F.NS_FLT_ROUND_TMO = 1 ∧ t.ns.fwd = false ∧ t.ns.endAt = some s.now ∧ t.mem = s.mem) ∧
  (∀ s, nsState s ≠ 2 ∨ msPast s s.ns.tokAt (max 1 (s.rd F.NS_TIME_ROUND_TMO)) = false → exec .roundTmo s = .next s) ∧
  (∀ s, nsState s ≠ 3 ∨ msPast s s.ns.winAt (s.rd F.NS_TIME_CW) = false → exec .commitWindowEnd s = .next s) ∧
  (∀ s, nsState s = 3 → msPast s s.ns.winAt (s.rd F.NS_TIME_CW) = true → dormancyOk (nsTo s 4) = true →
    Ends .commitWindowEnd s fun t =>
      t.mode = mDORMANCY ∧ t.girth.dormEntry = true ∧ t.rd F.POM_STAT_SLS_ON = 0) ∧
  (∀ s, nsState s = 3 → msPast s s.ns.winAt (s.rd F.NS_TIME_CW) = true → s.girth.spanMember = true → partnerEntering s = false →
    Ends .commitWindowEnd s fun t => nsState t = 1 ∧ t.rd F.NS_FLT_PARTNER = 1 ∧ t.mode = s.mode) ∧
  (∀ s ok c, c = .wakeLineLow ok ∨ c = .wakeLineHigh → s.girth.vin = false ∨ s.mode = mQUARANTINE → exec c s = .next s) ∧
  (∀ s ok, s.girth.vin = true → s.mode = mRUN → nsState s = 1 → Ends (.wakeLineLow ok) s fun t =>
    t.rd F.NS_STAT_WAKE_LOW = 1 ∧ t.rd F.NS_STAT_LOCAL = 0 ∧ nsState t = 1) ∧
  (∀ s, s.girth.vin = true → s.mode ≠ mQUARANTINE → nsState s ≠ 3 → Ends .wakeLineHigh s fun t => t.rd F.NS_STAT_WAKE_LOW = 0 ∧
    s.OnlyRegs t [F.NS_STAT_WAKE_LOW, F.NS_STAT_LOCAL, F.NS_FLT_NO_WAKE]) ∧
  (∀ s r c, windowDead s F.NS_CMD_CMD.addr = false → c = .pulse r ∨ c = .wakeframe r → r.supOrStitch = false →
    exec c s = .next (s.status 0x0207)) ∧
  (∀ s r, windowDead s F.NS_CMD_CMD.addr = false → r.supOrStitch = true → s.mode = mRUN → s.rd F.NS_STAT_DRIVING = 0 →
    nsState s = 1 → Ends (.pulse r) s fun t =>
      t.resp = ⟨0, 0⟩ ∧ t.rd F.NS_STAT_DRIVING = 1 ∧ t.out = s.out ++ [.wakeLine true]) ∧
  (∀ s r, windowDead s F.NS_CMD_CMD.addr = false → r.supOrStitch = true → s.mode = mQUARANTINE → nsState s = 1 →
    Ends (.wakeframe r) s fun t => t.resp = ⟨0, 0⟩ ∧ t.can = s.can ∧ t.out = s.out) ∧
  (∀ s r, windowDead s F.NS_CMD_CMD.addr = false → r.supOrStitch = true → s.mode ≠ mQUARANTINE → exec (.wakeframe r) s = .next
    ((nsSync (canSystem s (s.rd F.NS_CTL_CTRL) 7 { id := s.rd F.NS_ID_BASE + s.rd F.NS_CTL_NODE, dlc := 8,
                                                    data := nsBytes s nsWAKE 0xFF (s.rd F.NS_STAT_CONSENT) })).status 0)) ∧
  (∀ s, s.rd F.NS_STAT_DRIVING = 1 → s.ns.pulseEnd ≤ s.now → nsState s = 1 → Ends .wakePulseEnd s fun t =>
    t.rd F.NS_STAT_DRIVING = 0 ∧ t.out = s.out ++ [.wakeLine false]) ∧
  (∀ s, s.now < s.ns.pulseEnd → exec .wakePulseEnd s = .next s)

/-- An answer whose status is no code of Table 19-10's classes (log entry 10), or to a request that is not outstanding,
changes nothing, as does a retry of one; an answer of an older generation ends the request without an answer; status 0
ends it with its data. A request unanswered for RSP_TMO since it was last sent ends with 0x0410, and before that a
timeout changes nothing; one retried RETRY_MAX times ends with 0x0411, and below that the retry only counts, and stands
to be sent again after RETRY_INT. A posted write of a failure notice leaves the list; an acknowledgement releases the
only one outstanding. With XL down a request from the partner changes nothing; with XL up a read or a posted write of a
window that R38 closes to XL is answered 0x0210, and a posted write of an older generation of a plot changes nothing.
With Bridle's window in service a fence is its issuer's only (0x0207), 0x0310 while one runs; with nothing to wait for
it completes at once, with the first failure since the last fence (log entry 62, DEDUCED), else it waits for each
posted write outstanding; FENCE_COMPLETE before its time changes nothing, after it ends the fence with 0x0410. A fence
through Stitch is of the session's own plot (0x0206). -/
def Obligations.BridleTransactions : Prop :=
  (∀ s tag st d c, c = .xlResponseRx tag st d ∨ c = .rspTimeout tag ∨ c = .retryRx tag → (s.br.out.find? (·.tag == tag)) = none →
    exec c s = .next s) ∧
  (∀ s tag (st : BitVec 16) d, statusOk st.toNat = false → exec (.xlResponseRx tag st d) s = .next s ∧
    exec (.failureNoticeRx tag st) s = .next s) ∧
  (∀ s tag (st : BitVec 16) (d : BitVec 64) x, statusOk st.toNat = true → s.br.out.find? (·.tag == tag) = some x →
    x.gen ≠ issuerGen s x.issuer → Ends (.xlResponseRx tag st d) s fun t =>
    t.br = { s.br with out := s.br.out.filter (·.tag != tag) } ∧ t.resp = s.resp ∧ s.RegsBut t [F.XL_STAT_OUT_BUSY]) ∧
  (∀ s tag (d : BitVec 64) x, s.br.out.find? (·.tag == tag) = some x → x.gen = issuerGen s x.issuer → x.size ≤ 8 →
    Ends (.xlResponseRx tag 0 d) s fun t => t.resp = ⟨0, d.toNat % 2 ^ (8 * x.size)⟩ ∧
      t.br = { s.br with out := s.br.out.filter (·.tag != x.tag) } ∧ s.RegsBut t [F.XL_STAT_OUT_BUSY]) ∧
  (∀ s tag x, s.br.out.find? (·.tag == tag) = some x → rspLate s x = false → exec (.rspTimeout tag) s = .next s) ∧
  (∀ s tag x, s.br.out.find? (·.tag == tag) = some x → rspLate s x = true → x.issuer < 9 → Ends (.rspTimeout tag) s fun t =>
    t.resp = ⟨0x0410, 0⟩ ∧ t.rd (F.BR_LAST_STATUS x.issuer) = 0x0410 ∧ t.br = { s.br with out := s.br.out.filter (·.tag != x.tag) }) ∧
  (∀ s tag x, s.br.out.find? (·.tag == tag) = some x → x.issuer < 9 → s.rd F.BR_RETRY_RETRY_MAX ≤ x.retries + 1 →
    Ends (.retryRx tag) s fun t => t.resp = ⟨0x0411, 0⟩ ∧ t.rd (F.BR_LAST_STATUS x.issuer) = 0x0411) ∧
  (∀ s tag x, s.br.out.find? (·.tag == tag) = some x → x.retries + 1 < s.rd F.BR_RETRY_RETRY_MAX → Ends (.retryRx tag) s fun t =>
    (∀ y ∈ t.br.out, y.tag = tag → y.resendAt = some (s.now + 80 * max 1 (s.rd F.BR_RETRY_RETRY_INT))) ∧
      t.out = s.out ∧ t.resp = s.resp ∧ s.RegsBut t [F.BR_CNT_RETRIES]) ∧
  (∀ s num st, s.br.posted.find? (·.num == num) = none → exec (.failureNoticeRx num st) s = .next s) ∧
  (∀ s num (st : BitVec 16) w, statusOk st.toNat = true → s.br.posted.find? (·.num == num) = some w → Ends (.failureNoticeRx num st) s fun t =>
    t = postRelease (postFail s w st.toNat) ∧ ∀ x ∈ t.br.posted, x.num ≠ w.num) ∧
  (∀ s, exec (.xlPostedAckRx 0) s = .next s) ∧
  (∀ s w, s.br.posted = [w] → w.wait = none → s.br.fences.find? w.issuer = none → Ends (.xlPostedAckRx 1) s fun t =>
    t = { s with br := { s.br with posted := [] } }) ∧
  (∀ s tag i g page a size q unc e, s.rd F.XL_STAT_LINK = 0 → exec (.xlInboundRequest tag i g page a size q unc e) s = .next s) ∧
  (∀ s tag (i : Fin 9) g (a : BitVec 40) size unc e, s.rd F.XL_STAT_LINK = 1 → isWindow a.toNat = true → refusedOverXl a.toNat = true →
    blkBusy s a.toNat = false → Ends (.xlInboundRequest tag i g false a size .read unc e) s fun t =>
      t = s.emit (.xl (.response tag 0x0210 0 g))) ∧
  (∀ s tag (a : BitVec 40) g size unc e v, s.rd F.XL_STAT_LINK = 1 → isWindow a.toNat = true → refusedOverXl a.toNat = true →
    Ends (.xlInboundRequest tag 8 g false a size (.posted v) unc e) s fun t =>
      t = s.emit (.xl (.failNotice tag a.toNat 0x0210))) ∧
  (∀ s tag (i : Fin 9) g size unc e v (a : BitVec 40), s.rd F.XL_STAT_LINK = 1 → i.val < 8 → g < (s.plot i).pGen →
    exec (.xlInboundRequest tag i g false a size (.posted v) unc e) s = .next s) ∧
  (∀ s r (p : Fin 9), windowDead s (F.BR_FENCE_GO p).addr = false → r ≠ .supervisor → (∀ k : Fin 8, r = .plot k → k.val ≠ p.val) → exec (.fenceGo r p) s = .next (s.status 0x0207)) ∧
  (∀ s (p : Fin 8), windowDead s (F.BR_FENCE_GO p).addr = false → s.rd (F.BR_FENCE_STAT_BUSY p) = 1 → exec (.fenceGo (.plot p) ⟨p.val, by omega⟩) s = .next (s.status 0x0310)) ∧
  (∀ s (p : Fin 8), windowDead s (F.BR_FENCE_GO p).addr = false → s.rd (F.BR_FENCE_STAT_BUSY p) = 0 → (∀ w ∈ s.br.posted, w.issuer ≠ p.val) → s.br.failed.find? p.val = none →
    Ends (.fenceGo (.plot p) ⟨p.val, by omega⟩) s fun t => t.resp = ⟨0, 0⟩ ∧ t.rd (F.BR_FENCE_STAT_BUSY p) = 0 ∧
      t.rd (F.BR_FENCE_STAT_DONE p) = 1 ∧ t.rd (F.BR_FENCE_STAT_STATUS p) = 0) ∧
  (∀ s (p : Fin 8) g, windowDead s (F.BR_FENCE_GO p).addr = false → s.rd (F.BR_FENCE_STAT_BUSY p) = 0 → (∀ w ∈ s.br.posted, w.issuer ≠ p.val) → s.br.failed.find? p.val = some g →
    Ends (.fenceGo (.plot p) ⟨p.val, by omega⟩) s fun t => t.resp = ⟨0, 0⟩ ∧ t.rd (F.BR_FENCE_STAT_BUSY p) = 0 ∧
      t.rd (F.BR_FENCE_STAT_STATUS p) = g.status % 65536 ∧ t.rd (F.BR_LAST_STATUS p) = g.status % 65536) ∧
  (∀ s (p : Fin 8) w, windowDead s (F.BR_FENCE_GO p).addr = false → s.rd (F.BR_FENCE_STAT_BUSY p) = 0 → w ∈ s.br.posted → w.issuer = p.val →
    Ends (.fenceGo (.plot p) ⟨p.val, by omega⟩) s fun t => t.resp = ⟨0, 0⟩ ∧ t.rd (F.BR_FENCE_STAT_BUSY p) = 1 ∧
      ∃ f, t.br.fences.find? p = some f ∧ w.num ∈ f.waits) ∧
  (∀ s (p : Fin 9), s.br.fences.find? p = none → exec (.fenceComplete p) s = .next s) ∧
  (∀ s (p : Fin 9) f, s.br.fences.find? p = some f → s.now < f.goAt + 8000 * max 1 (s.rd F.BR_TMO_RSP_TMO) →
    exec (.fenceComplete p) s = .next s) ∧
  (∀ s (p : Fin 9) f, s.br.fences.find? p = some f → f.reply = none →
    f.goAt + 8000 * max 1 (s.rd F.BR_TMO_RSP_TMO) ≤ s.now → Ends (.fenceComplete p) s fun t =>
    t.rd (F.BR_FENCE_STAT_BUSY p) = 0 ∧ t.rd (F.BR_FENCE_STAT_DONE p) = 1 ∧ t.rd (F.BR_FENCE_STAT_STATUS p) = 0x0410 ∧
      t.br.fences.find? p = none) ∧
  (∀ s n q k p tag, sessionOf s (n : Fin 33).val = none → exec (.stitchFence n q k p tag) s = .next s) ∧
  (∀ s (n : Fin 33) (q : BitVec 32) (k p : Fin 8) tag x, sessionOf s n = some x → x.plot = p.val → s.rd (F.BR_FENCE_STAT_BUSY p) = 0 →
    exec (.stitchFence n q k p tag) s =
      .next (fenceStart (s.wr (F.BR_TAG_TAG p) tag.toNat) p (some (n.val, q.toNat, k.val)))) ∧
  (∀ s (n : Fin 33) (q : BitVec 32) (k p : Fin 8) tag x, sessionOf s n = some x → x.plot ≠ p.val →
    exec (.stitchFence n q k p tag) s =
      .next (sesReply s n q.toNat k (replyBody 2 0x0206 0x1021 (p + 1) 3 0 true 2 [])))

/-- With Bridle's window in service, a commit is the supervisor's or Stitch's (0x0207); of staged tables with a fault
it is answered 0x0309, GW_ERR names the first fault and nothing else changes; of staged tables without one it is
answered 0, the tables wait and PEND shows. An activation with no table committed does nothing; else the committed
tables are active, every source starts untimed and unmatched, and each destination's data is FILL with the SUBST values
of its signals. A period that has not run out, or of a destination not enabled or of MODE below 2, changes nothing; one
that has starts the next and makes the frame due, unless the frame was sent in this very tick. A frame that is not
deferred, or within INHIBIT of its last send, is not sent at an inhibit end; another goes out with its latest values. A
source that has timed out, is not enabled, has no TMO or whose TMO has not run does not time out; another does, and
with no SUBST signal nothing else changes. -/
def Obligations.SignalGateway : Prop :=
  (∀ s r, windowDead s F.GW_CMD_COMMIT.addr = false → r.supOrStitch = false → exec (.gwCommit r) s = .next (s.status 0x0207)) ∧
  (∀ s r k kind reason, windowDead s F.GW_CMD_COMMIT.addr = false → r.supOrStitch = true → gwFault s (gwStaged s) = some (k, kind, reason) →
    k < 128 → kind < 4 → reason < 16 → Ends (.gwCommit r) s fun t =>
    t.resp = ⟨0x0309, 0⟩ ∧ t.rd F.GW_ERR_INDEX = k ∧ t.rd F.GW_ERR_KIND = kind ∧ t.rd F.GW_ERR_REASON = reason ∧ t.gw = s.gw ∧
      s.RegsBut t [F.GW_ERR_INDEX, F.GW_ERR_KIND, F.GW_ERR_REASON]) ∧
  (∀ s r, windowDead s F.GW_CMD_COMMIT.addr = false → r.supOrStitch = true → gwFault s (gwStaged s) = none → Ends (.gwCommit r) s fun t =>
    t.resp = ⟨0, 0⟩ ∧ t.gw = { s.gw with pend := some (gwStaged s) } ∧ t.rd F.GW_STAT_PEND = 1 ∧ t.rd F.GW_ERR_INDEX = 0x7F ∧
      s.RegsBut t [F.GW_ERR_INDEX, F.GW_ERR_KIND, F.GW_ERR_REASON, F.GW_STAT_PEND]) ∧
  (∀ s, s.gw.pend = none → exec .gwTableActivate s = .next s) ∧
  (∀ s p, s.gw.pend = some p → Ends .gwTableActivate s fun t => t.gw.active = p ∧ t.gw.pend = none ∧ t.gw.srcs = [] ∧
    t.rd F.GW_STAT_ACTIVE = 1 ∧ t.rd F.GW_STAT_PEND = 0 ∧ s.RegsBut t [F.GW_STAT_ACTIVE, F.GW_STAT_PEND] ∧
    ∀ d, d < 32 → (gwDstSt t d).data = (p.sigs.filter fun y => y.en && y.dst == d).foldl
      (fun b y => putBits b y.dbits (y.raw % 2 ^ y.dlen))
      (List.replicate (p.dsts.getD d {}).bytes (BitVec.ofNat 8 (p.dsts.getD d {}).fill))) ∧
  (∀ s (d : Fin 32), (s.gw.active.dsts.getD d.val {}).en = false ∨ (s.gw.active.dsts.getD d.val {}).mode < 2 ∨
    s.now < (gwDstSt s d).periodAt + 80000 * (s.gw.active.dsts.getD d.val {}).period → exec (.gwPeriodExpiry d) s = .next s) ∧
  (∀ s (d : Fin 32), (s.gw.active.dsts.getD d.val {}).en = true → 2 ≤ (s.gw.active.dsts.getD d.val {}).mode →
    (gwDstSt s d).periodAt + 80000 * (s.gw.active.dsts.getD d.val {}).period ≤ s.now → exec (.gwPeriodExpiry d) s =
      .next (let t := setGwDst s d { gwDstSt s d with
          periodAt := (gwDstSt s d).periodAt + 80000 * (s.gw.active.dsts.getD d.val {}).period }
        if (gwDstSt s d).lastSend = some s.now then t else gwDue t d)) ∧
  (∀ s (d : Fin 32), (gwDstSt s d).deferred = false ∨ inhibited s d = true → exec (.gwInhibitEnd d) s = .next s) ∧
  (∀ s (d : Fin 32), (gwDstSt s d).deferred = true → inhibited s d = false → exec (.gwInhibitEnd d) s =
    .next (gwService (s.gw.active.dsts.getD d.val {}).ctrl (setGwDst s d { gwDstSt s d with deferred := false, due := true }))) ∧
  (∀ s (f : Fin 32), (s.gw.srcs.get f {}).timeout = true ∨ (s.gw.active.srcs.getD f.val {}).en = false ∨
    (s.gw.active.srcs.getD f.val {}).tmo = 0 ∨
    s.now < (s.gw.srcs.get f {}).matchAt + 80000 * (s.gw.active.srcs.getD f.val {}).tmo →
    exec (.gwSourceTimeout f) s = .next s) ∧
  (∀ s (f : Fin 32), (s.gw.srcs.get f {}).timeout = false → (s.gw.active.srcs.getD f.val {}).en = true →
    (s.gw.active.srcs.getD f.val {}).tmo ≠ 0 →
    (s.gw.srcs.get f {}).matchAt + 80000 * (s.gw.active.srcs.getD f.val {}).tmo ≤ s.now →
    (∀ k, k < 128 → (s.gw.active.sigs.getD k {}).subst = false) → exec (.gwSourceTimeout f) s =
      .next { s with gw := { s.gw with srcs := s.gw.srcs.set f { s.gw.srcs.get f {} with timeout := true } } })

/-- While UDP is off, no UDP message has an effect. With the endpoint in service, a malformed datagram counts BADFORM,
one of no session BADSESSION, one whose tag fails AUTHFAIL, a request whose SEQ lies 64 or more back BADSEQ, and none
does anything else; a counter stops at 0xFFFF and counting changes no register and no byte. A request already accepted
is answered again from the kept replies and touches no object, register or byte. CLOSE is answered and ends the
session. An OPEN under a credential that R502 refuses counts AUTHFAIL; under a good one it opens the lowest free
session for the credential's plot and roles. Idle time not run out ends no session; run out, it ends that session
alone. An assembly or snapshot ends after 10 s, not before. A frame on a controller that hears nothing, or that Stitch
is not enabled on, changes nothing; a SINGLE is a message, a NEXT with the last bytes of a transfer makes one. A
transfer ends by its timeout once 100 ms have passed without a FLOW or NEXT, and not before. In clear mode only what
Table 21-12 lists is reached (0x0205); outside clear mode SESSION 0 counts BADSESSION. -/
def Obligations.StitchSessions : Prop :=
  (∀ s h q e c, c = .read h q ∨ c = .write h q e ∨ c = .nop h q ∨ c = .close h → (∃ p, h.via = .udp p) → s.obj 0x1001 1 1 ≠ 1 →
    exec c s = .next s) ∧
  (∀ s h q e c, c = .read h q ∨ c = .write h q e ∨ c = .nop h q ∨ c = .close h → (∃ p, h.via = .udp p) → stitchUp s = true → s.obj 0x1001 1 1 = 1 →
    (h.wellFormed = false → exec c s = .next (sesCount s 6)) ∧
    (h.wellFormed = true → (h.session.toNat = 0 ∨ 32 < h.session.toNat ∨ sessionOf s h.session.toNat = none) →
      exec c s = .next (sesCount s 5)) ∧
    (∀ x, h.wellFormed = true → 1 ≤ h.session.toNat → h.session.toNat ≤ 32 → sessionOf s h.session.toNat = some x → x.transport = 0 →
      h.tagOk = false → exec c s = .next (sesCount s 3))) ∧
  (∀ s k, (sesCount s k).obj 0x1003 k 0 = min 0xFFFF (s.obj 0x1003 k 0 + 1) ∧ (sesCount s k).regs = s.regs ∧ (sesCount s k).mem = s.mem) ∧
  (∀ s h q e c x p, c = .read h q ∨ c = .write h q e ∨ c = .nop h q → h.via = .udp p → stitchUp s = true → s.obj 0x1001 1 1 = 1 → h.wellFormed = true →
    h.tagOk = true → 1 ≤ h.session.toNat → h.session.toNat ≤ 32 → sessionOf s h.session.toNat = some x → x.transport = 0 → x.fresh = false →
    64 ≤ x.high - h.seq.toNat → Ends c s fun t => t.obj 0x1003 4 0 = min 0xFFFF (s.obj 0x1003 4 0 + 1) ∧ t.regs = s.regs ∧
      t.mem = s.mem ∧ t.out = s.out) ∧
  (∀ s h q e c x p b, c = .read h q ∨ c = .write h q e ∨ c = .nop h q → h.via = .udp p → stitchUp s = true → s.obj 0x1001 1 1 = 1 → h.wellFormed = true →
    h.tagOk = true → 1 ≤ h.session.toNat → h.session.toNat ≤ 32 → sessionOf s h.session.toNat = some x → x.transport = 0 → x.fresh = false →
    x.high = h.seq.toNat → x.window.getLsbD 0 = true → (x.cache.find? (·.1 == h.seq.toNat)) = some (h.seq.toNat, b) →
    Ends c s fun t => t.out = s.out ++ [.stitch p (stitchHeader 4 h.session.toNat h.seq.toNat b.length h.prio) b] ∧
      t.regs = s.regs ∧ t.mem = s.mem ∧ t.objs = s.objs ∧ t.objBytes = s.objBytes ∧ t.jobs = s.jobs) ∧
  (∀ s h x p, h.via = .udp p → stitchUp s = true → s.obj 0x1001 1 1 = 1 → h.wellFormed = true → h.tagOk = true → 1 ≤ h.session.toNat →
    h.session.toNat ≤ 32 → sessionOf s h.session.toNat = some x → x.transport = 0 → Ends (.close h) s fun t =>
      sessionOf t h.session.toNat = none ∧ t.out = s.out ++ [.stitch p (stitchHeader 5 h.session.toNat h.seq.toNat 0 h.prio) []]) ∧
  (∀ s h cred nc p code, h.via = .udp p → stitchUp s = true → s.obj 0x1001 1 1 = 1 → h.wellFormed = true → keyRefusal s cred.toNat useStitch = some code →
    exec (.openSession h cred nc) s = .next (sesCount s 3)) ∧
  (∀ s h (cred : BitVec 16) nc p k n, h.via = .udp p → stitchUp s = true → s.obj 0x1001 1 1 = 1 → h.wellFormed = true → h.tagOk = true →
    keyRefusal s cred.toNat useStitch = none → s.clo.keys.find? cred.toNat = some k → k.plot < 8 → sesFree s k.plot = some n →
    Ends (.openSession h cred nc) s fun t => t.free = s.free + 4 ∧ t.regs = s.regs ∧ t.mem = s.mem ∧
      ∃ x, sessionOf t n = some x ∧ x.plot = k.plot ∧ x.roles = k.roles ∧ x.cred = cred.toNat ∧ x.port = p.val ∧ x.fresh = true) ∧
  (∀ s, exec (.sessionIdleTimeout 0) s = .next s) ∧
  (∀ s n, sesIdle s (n : Fin 33).val = false → exec (.sessionIdleTimeout n) s = .next s) ∧
  (∀ s (n : Fin 33) x, n ≠ 0 → sessionOf s n = some x → x.at_ + 80000000 * s.obj 0x1001 7 60 ≤ s.now →
    Ends (.sessionIdleTimeout n) s fun t => sessionOf t n = none ∧ t.regs = s.regs ∧ t.mem = s.mem ∧
    ∀ k : Nat, k ≠ n.val → sessionOf t k = sessionOf s k) ∧
  (∀ s (n : Fin 72), (asmLate s n = false → exec (.assemblyTimeout n) s = .next s) ∧
    (snapLate s n = false → exec (.snapshotTimeout n) s = .next s)) ∧
  (∀ s (n : Fin 72) x k at_ b, sessionOf s n = some x → x.asm = some (k, at_, b) → at_ + 800000000 ≤ s.now →
    exec (.assemblyTimeout n) s = .next (setSession s n { x with asm := none })) ∧
  (∀ s (n : Fin 72) x, sessionOf s n = some x → x.snap ≠ none → x.snapAt + 800000000 ≤ s.now →
    exec (.snapshotTimeout n) s = .next (setSession s n { x with snap := none, snapAt := s.now })) ∧
  (∀ s (i : Fin 8) p g, canHears s i = false ∨ (s.obj 0x1002 1 0).testBit i.val = false → exec (.canSegmentRx i p g) s = .next s) ∧
  (∀ s (i p : Fin 8) b, canHears s i = true → (s.obj 0x1002 1 0).testBit i = true → b.length ≤ 61 → Ends (.canSegmentRx i p (.single b)) s fun t =>
    t.ses.got = s.ses.got ++ [(8 * i.val + p.val, b)] ∧ t.regs = s.regs ∧ t.mem = s.mem) ∧
  (∀ s (i p : Fin 8) sn b x, canHears s i = true → (s.obj 0x1002 1 0).testBit i = true → s.ses.rx.find? (8 * i.val + p.val) = some x → sn.val = x.sn →
    b.length ≤ 63 → x.data.length + b.length = x.len → Ends (.canSegmentRx i p (.next sn b)) s fun t =>
      t.ses.got = s.ses.got ++ [(8 * i.val + p.val, x.data ++ b)] ∧ t.regs = s.regs) ∧
  (∀ s (i p : Fin 8), (segTxLate s (8 * i.val + p.val) = false → exec (.segmentTimeout i p true) s = .next s) ∧
    (segRxLate s (8 * i.val + p.val) = false → exec (.segmentTimeout i p false) s = .next s)) ∧
  (∀ s (i p : Fin 8) x, s.ses.tx.find? (8 * i.val + p.val) = some x → x.granted = 0 → x.at_ + 8000000 ≤ s.now →
    Ends (.segmentTimeout i p true) s fun t => t.ses.tx.find? (8 * i.val + p.val) = none ∧
      t.ses.abandoned = s.ses.abandoned + 1 ∧ t.regs = s.regs) ∧
  (∀ s (i p : Fin 8) x, s.ses.rx.find? (8 * i.val + p.val) = some x → x.at_ + 8000000 ≤ s.now →
    Ends (.segmentTimeout i p false) s fun t => t.ses.rx.find? (8 * i.val + p.val) = none ∧
      t.ses.abandoned = s.ses.abandoned + 1 ∧ t.ses.got = s.ses.got ∧ t.regs = s.regs) ∧
  (∀ s port seq prio q e, stitchUp s = true → s.obj 0x1001 1 1 = 1 → clearMode s = false → exec (.clearModeRequest port seq prio q e) s = .next (sesCount s 5)) ∧
  (∀ s (port : Fin 2) (seq : BitVec 32) prio q e, stitchUp s = true → s.obj 0x1001 1 1 = 1 → clearMode s = true → q.op = 1 →
    clearReach s false q.index.toNat q.sub.toNat = false → (sessionOf s 0 = none) →
    Ends (.clearModeRequest port seq prio q e) s fun t => t.regs = s.regs ∧ t.mem = s.mem ∧ t.out = s.out ++
      [.stitch port (stitchHeader 4 0 seq.toNat 20 prio) (replyBody 1 0x0205 q.index.toNat q.sub.toNat 0 q.offset.toNat false 0 [])])

/-- With the endpoint in service, a request of a new SEQ over UDP, with no assembly under way and fewer than 16
waiting, is served in the session's name: NOP is answered 0; an index that no object has 0x0201; a check of R455 that
fails for an object of fixed size answers its code and touches nothing but the session. A reply over UDP leaves with
its header and body. With no packet in a plot's local queue neither local command does anything, and a packet that is
an answer is no request; a request packet that is not sound is answered 0x0101, a sound NOP 0; an answer packet of a
forwarded request goes to whoever asked. A forwarded request not yet 1 s old does not time out; one that is, is
answered 0x0403. While flash may not be written settings stay unsaved; else they are stored and none is unsaved.
Defaults are asked for only in SERVICE (0x0208) with the key (0x0301). Applying an address takes it from its object. -/
def Obligations.StitchRequests : Prop :=
  (∀ s h q e c op x p, c = .read h q ∧ op = 1 ∨ c = .write h q e ∧ op = 2 ∨ c = .nop h q ∧ op = 3 → h.via = .udp p →
    stitchUp s = true → s.obj 0x1001 1 1 = 1 → h.wellFormed = true → h.tagOk = true → 1 ≤ h.session.toNat → h.session.toNat ≤ 32 →
    sessionOf s h.session.toNat = some x → x.transport = 0 → x.fresh = false → x.high < h.seq.toNat → x.asm = none →
    waiting s h.session.toNat < 16 →
    let y : Session := { x with port := p.val, high := h.seq.toNat, window := (x.window <<< (h.seq.toNat - x.high)) ||| 1, at_ := s.now }
    let u := setSession (setSession s h.session.toNat { x with port := p.val }) h.session.toNat y
    let answer := fun (typ code total : Nat) => Host.Outcome.next (sesReply u h.session.toNat h.seq.toNat h.prio
      (replyBody op code q.index.toNat q.sub.toNat typ q.offset.toNat (decide (op = 2) && q.last) total []))
    (op = 3 → exec c s = answer 0 0 0) ∧
    (op < 3 → q.index.toNat < 0xC000 → objFind q.index.toNat q.sub.toNat = none → objIndex q.index.toNat = false →
      exec c s = answer 0 0x0201 0) ∧
    (∀ o i k code, op < 3 → q.index.toNat < 0xC000 → objFind q.index.toNat q.sub.toNat = some (o, i, k) → o.fixed = true →
      accessCode u { plot := Fin.ofNat 8 x.plot, roles := BitVec.ofNat 8 x.roles } true o i
        { q with op := op, data := if op = 1 then [] else q.data } (decide (op = 2)) = some code →
      exec c s = answer o.typ code o.size)) ∧
  (∀ s n seq prio b x, sessionOf s n = some x → x.transport = 0 → (sesReply s n seq prio b).out =
    s.out ++ [.stitch x.port (stitchHeader 4 n seq b.length prio) b]) ∧
  (∀ s p v e c, c = .localRequest p v e ∨ c = .plotAnswerRx p → localTake s (p : Fin 8).val = none → exec c s = .next s) ∧
  (∀ s (p : Fin 8) v e ws ok t, localTake s p = some (ws, ok, t) → (ws.headD 0).testBit 31 = true → exec (.localRequest p v e) s = .next s) ∧
  (∀ s (p : Fin 8) v e ws t, localTake s p = some (ws, false, t) → (ws.headD 0).testBit 31 = false →
    exec (.localRequest p v e) s =
      .next (let b := (ws.drop 1).flatMap (le 4)
        localReply (setSession t (64 + p.val) { (sessionOf t (64 + p.val)).getD {} with plot := p.val, transport := 2, at_ := t.now })
          p (ws.headD 0) (replyBody (byteNat b 0 % 128) 0x0101 (halfNat b 2) (byteNat b 4) 0 0 false 0 []))) ∧
  (∀ s (p : Fin 8) v e ws t q, localTake s p = some (ws, true, t) → (ws.headD 0).testBit 31 = false →
    reqParse ((ws.drop 1).flatMap (le 4)) = some q → q.op = 3 → waiting t (64 + p.val) < 16 → exec (.localRequest p v e) s =
      .next (localReply (setSession t (64 + p.val)
          { (sessionOf t (64 + p.val)).getD {} with plot := p.val, transport := 2, at_ := t.now }) p (ws.headD 0)
        (replyBody 3 0 q.index.toNat q.sub.toNat 0 q.offset.toNat false 0 []))) ∧
  (∀ s (p : Fin 8) ws ok t f, localTake s p = some (ws, ok, t) → (ws.headD 0).testBit 31 = true →
    (t.ses.forwards.find? fun f => f.plot == p.val && f.word0 == ws.headD 0 - 2 ^ 31) = some f → exec (.plotAnswerRx p) s =
      .next (let b := (ws.drop 1).flatMap (le 4)
        fwdAnswer { t with ses := { t.ses with forwards := t.ses.forwards.erase f } } f (b.take (20 + halfNat b 12)))) ∧
  (∀ s k, s.ses.forwards[k]? = none → exec (.forwardTimeout k) s = .next s) ∧
  (∀ s (k : Nat) f, s.ses.forwards[k]? = some f → s.now < f.at_ + 80000000 → exec (.forwardTimeout k) s = .next s) ∧
  (∀ s (k : Nat) f, s.ses.forwards[k]? = some f → f.at_ + 80000000 ≤ s.now → exec (.forwardTimeout k) s =
    .next (fwdAnswer { s with ses := { s.ses with forwards := s.ses.forwards.eraseIdx k } } f
      (replyBody f.op 0x0403 f.index f.sub 0 0 false 0 []))) ∧
  (∀ s, flashOk s = false → exec .settingsStore s = .next s) ∧
  (∀ s, flashOk s = true → Ends .settingsStore s fun t => t.ses.unsaved = [] ∧ t.ses.unsavedBytes = [] ∧ t.regs = s.regs ∧ t.mem = s.mem ∧
    (∀ k v, s.ses.unsaved = [(k, v)] → t.settings.find? k = some v)) ∧
  (∀ s v, s.mode ≠ mSERVICE → exec (.settingsDefaults v) s = .next (s.status 0x0208)) ∧
  (∀ s (v : BitVec 16), s.mode = mSERVICE → v ≠ 0xD0D0 → exec (.settingsDefaults v) s = .next (s.status 0x0301)) ∧
  (∀ s, s.mode = mSERVICE → exec (.settingsDefaults 0xD0D0) s =
    .next (State.status { s with ses := { s.ses with defaults := true } } 0)) ∧
  (∀ s (k : Fin 4), Ends (.stitchAddressApply k) s fun t =>
    t.ses.addrs.get (3 + k.val) [] = s.objBytes.get (objKey 0x1001 (3 + k.val)) [] ∧ t.regs = s.regs ∧ t.objBytes = s.objBytes)

/-- A free slot is claimed for its plot by writing its kind (0x0704 for a kind that does not exist) and released by
writing 0; a slot of another plot answers 0x0703, or 0x0308 to a claim while no slot is free, and an active one 0x0701.
A command to another plot's slot answers 0x0703, one in the wrong state 0x0701, SUSPEND of a kind that cannot be
suspended 0x0702; a START that the owner refuses leaves its code in the result and touches no byte and no register but
KU_FAIL of a key update. An accepted START queues the job while its kind is at its limit, and runs a transfer, sweep,
self-test or recommissioning otherwise, from progress 0. SUSPEND keeps the progress; RESUME of a transfer, or of a
sweep with windows left, runs or queues. CANCEL leaves CANCELLED. A place that falls free runs the oldest queued job of
its kind, and none while the kind is at its limit. Work that completes leaves DONE with progress 1000: a self-test; a
key update in two parts, its COMMIT record with progress 900 and then the loads. While flash may not be written a key
update and a recommissioning wait (log entry 68). A job that does not run or is not suspended does not fail; a
self-test fails with 0x0612 or 0x0603, a migration that has lost XL with 0x0111. -/
def Obligations.Jobs : Prop :=
  (∀ s (j : Fin 32) p (k : BitVec 8), (s.job j).kind = 0 → 1 ≤ k.toNat → k.toNat ≤ 8 → Ends (.jobKindWrite j p k) s fun t =>
    t.job j = { kind := k.toNat, owner := p.plot.val } ∧ t.resp = ⟨0, 0⟩ ∧ t.regs = s.regs ∧ t.mem = s.mem ∧
      ∀ i : Nat, i ≠ j.val → t.job i = s.job i) ∧
  (∀ s (j : Fin 32) p (k : BitVec 8), (s.job j).kind = 0 → 8 < k.toNat → exec (.jobKindWrite j p k) s = .next (s.status 0x0704)) ∧
  (∀ s (j : Fin 32) p, (s.job j).mine p = true → (s.job j).state = 0 ∨ 4 ≤ (s.job j).state → Ends (.jobKindWrite j p 0) s fun t =>
    t.job j = {} ∧ t.resp = ⟨0, 0⟩ ∧ t.regs = s.regs ∧ t.mem = s.mem) ∧
  (∀ s (j : Fin 32) p k, (s.job j).kind ≠ 0 → (s.job j).owner ≠ p.plot.val → exec (.jobKindWrite j p k) s =
    .next (s.status (if k ≠ 0 ∧ ∀ i : Fin 32, (s.job i).kind ≠ 0 then 0x0308 else 0x0703))) ∧
  (∀ s (j : Fin 32) p k, (s.job j).mine p = true → 1 ≤ (s.job j).state → (s.job j).state ≤ 3 →
    exec (.jobKindWrite j p k) s = .next (s.status 0x0701)) ∧
  (∀ s j p a b c, c = .start j p a b ∨ c = .suspend j p ∨ c = .resume j p ∨ c = .cancel j p → (s.job (j : Fin 32)).kind ≠ 0 →
    (s.job j).owner ≠ p.plot.val → exec c s = .next (s.status 0x0703)) ∧
  (∀ s (j : Fin 32) p a b c, (s.job j).kind = 0 ∨ (s.job j).mine p = true →
    (c = .start j p a b ∧ ((s.job j).kind = 0 ∨ (1 ≤ (s.job j).state ∧ (s.job j).state ≤ 3))) ∨
    (c = .suspend j p ∧ ((s.job j).kind = 0 ∨ (s.job j).state ≠ 2)) ∨ (c = .resume j p ∧ ((s.job j).kind = 0 ∨ (s.job j).state ≠ 3)) ∨
    (c = .cancel j p ∧ ((s.job j).kind = 0 ∨ (s.job j).state = 0 ∨ 4 ≤ (s.job j).state)) → exec c s = .next (s.status 0x0701)) ∧
  (∀ s (j : Fin 32) p a b code, (s.job j).mine p = true → (s.job j).state = 0 ∨ 4 ≤ (s.job j).state →
    startRefusal s (s.job j) p a b = some code → Ends (.start j p a b) s fun t =>
      t.job j = { s.job j with result := code } ∧ t.resp = ⟨code, 0⟩ ∧ t.mem = s.mem ∧
        s.RegsBut t (if (s.job j).kind = 6 then [F.CLO_FLT_KU_FAIL] else [])) ∧
  (∀ s (j : Fin 32) p a b, (s.job j).mine p = true → (s.job j).state = 0 ∨ 4 ≤ (s.job j).state →
    startRefusal s (s.job j) p a b = none → jobLimit (s.job j).kind ≤ jobRunningOf s (s.job j).kind → Ends (.start j p a b) s fun t =>
      (t.job j).state = 1 ∧ (t.job j).result = 0 ∧ (t.job j).progress = 0 ∧
      ((s.job j).kind ≠ 4 → (t.job j).par = jobPar s (s.job j)) ∧ t.resp = ⟨0, 0⟩) ∧
  (∀ s (j : Fin 32) p a b, (s.job j).mine p = true → (s.job j).state = 0 ∨ 4 ≤ (s.job j).state →
    startRefusal s (s.job j) p a b = none → jobRunningOf s (s.job j).kind < jobLimit (s.job j).kind →
    (s.job j).kind = 1 ∨ (s.job j).kind = 3 ∨ (s.job j).kind = 5 ∨ (s.job j).kind = 8 → Ends (.start j p a b) s fun t =>
      (t.job j).state = 2 ∧ (t.job j).result = 0 ∧ (t.job j).progress = 0 ∧ (t.job j).started = s.stamp.pt ∧ t.resp = ⟨0, 0⟩) ∧
  (∀ s (j : Fin 32) p, (s.job j).mine p = true → (s.job j).state = 2 → jobSuspendable (s.job j).kind = false →
    exec (.suspend j p) s = .next (s.status 0x0702)) ∧
  (∀ s (j : Fin 32) p, (s.job j).mine p = true → (s.job j).state = 2 → jobSuspendable (s.job j).kind = true →
    Ends (.suspend j p) s fun t => (t.job j).state = 3 ∧ (t.job j).result = 0 ∧ (t.job j).progress = (s.job j).progress ∧
      t.resp = ⟨0, 0⟩) ∧
  (∀ s (j : Fin 32) p, (s.job j).mine p = true → (s.job j).state = 3 → (s.job j).kind = 1 ∨ (s.job j).kind = 3 → (s.job j).begun = true →
    ((s.job j).kind = 3 → (s.job j).par.getD 6 0 < (s.job j).par.getD 3 0) → Ends (.resume j p) s fun t => t.resp = ⟨0, 0⟩ ∧
      (t.job j).state = (if jobRunningOf s (s.job j).kind < jobLimit (s.job j).kind then 2 else 1)) ∧
  (∀ s (j : Fin 32) p, (s.job j).mine p = true → (s.job j).active = true → (s.job j).state = 2 → (s.job j).kind ≠ 6 →
    ((s.job j).kind = 2 → s.grf.act = some j.val → s.grf.trial = false) → Ends (.cancel j p) s fun t => (t.job j).state = 6 ∧ (t.job j).result = 0 ∧ t.resp = ⟨0, 0⟩) ∧
  (∀ s (j : Fin 32) p, (s.job j).mine p = true → (s.job j).state = 1 → Ends (.cancel j p) s fun t =>
    (t.job j).state = 6 ∧ (t.job j).result = 0 ∧ (t.job j).ended = s.stamp.pt ∧ t.resp = ⟨0, 0⟩) ∧
  (∀ s (k : Fin 9), jobOldest s k = none ∨ jobLimit k ≤ jobRunningOf s k → exec (.jobDequeue k) s = .next s) ∧
  (∀ s (k : Fin 9) (j : Nat), jobOldest s k = some j → jobRunningOf s k < jobLimit k → k.val = 1 ∨ k.val = 3 ∨ k.val = 5 ∨ k.val = 8 →
    Ends (.jobDequeue k) s fun t => (t.job j).state = 2) ∧
  (∀ s (j : Fin 32) b, (s.job j).state ≠ 2 ∨ (s.job j).kind < 5 ∨ (flashOk s = false ∧ ((s.job j).kind = 6 ∨ (s.job j).kind = 8)) → exec (.jobDone j b) s = .next s) ∧
  (∀ s (j : Fin 32) b, (s.job j).state = 2 → (s.job j).kind = 5 → Ends (.jobDone j b) s fun t =>
    (t.job j).state = 4 ∧ (t.job j).progress = 1000 ∧ (t.job j).result = 0 ∧
      ((s.job j).par.getD 0 0 = 1 → t.rd F.TIL_ZSTAT_LANE_FLT = 0)) ∧
  (∀ s (j : Fin 32) l c, (s.job j).state = 2 → (s.job j).kind = 6 → flashOk s = true → s.clo.ku = some (l, c, false) → Ends (.jobDone j true) s fun t =>
    t.clo.ku = some (l, c, true) ∧ cloCtr t 0 = c ∧ (t.job j).progress = 900 ∧ (t.job j).state = 2 ∧ t.clo.keys = s.clo.keys) ∧
  (∀ s (j : Fin 32) l c b, (s.job j).state = 2 → (s.job j).kind = 6 → flashOk s = true → s.clo.ku = some (l, c, b) → Ends (.jobDone j false) s fun t =>
    t.clo.ku = none ∧ (t.job j).state = 4 ∧ (t.job j).progress = 1000) ∧
  (∀ s (j : Fin 32) a b, (s.job j).state ≠ 2 ∧ (s.job j).state ≠ 3 ∨
    (s.job j).kind ≠ 4 ∧ (s.job j).kind ≠ 5 ∧ (s.job j).kind ≠ 7 → exec (.jobFailed j a b) s = .next s) ∧
  (∀ s (j : Fin 32) b, (s.job j).state = 2 → (s.job j).kind = 5 → ((s.job j).par.getD 0 0).testBit 0 = true →
    Ends (.jobFailed j true b) s fun t => (t.job j).state = 5 ∧ (t.job j).result = 0x0612) ∧
  (∀ s (j : Fin 32) b, (s.job j).state = 2 → (s.job j).kind = 5 → ((s.job j).par.getD 0 0).testBit 1 = true →
    Ends (.jobFailed j false b) s fun t => (t.job j).state = 5 ∧ (t.job j).result = 0x0603) ∧
  (∀ s (j : Fin 32) a b, (s.job j).state = 2 → (s.job j).kind = 7 → migOp (s.job j) = 0 → s.rd F.XL_STAT_LINK = 0 →
    Ends (.jobFailed j a b) s fun t => (t.job j).state = 5 ∧ (t.job j).result = 0x0111)

/-- With the plot controller's window in service: a command from any source but the supervisor, a Stitch session or
(RESET alone) the plot itself answers 0x0207; one in the wrong state 0x0303. START leaves STARTING; STOP and RESET
leave RESETTING, with no request of the plot in Bridle and no consent, and a RESET by the plot itself shows; FREEZE
begins a freeze and THAW ends it; CHECKPOINT needs TAKEOVER 2 and XL (0x0111). A commit is the supervisor's or a
SUPERVISOR session's (0x0207); one that fails its checks shows the plot and the reason, one that would change a plot in
use answers 0x0303, and one that succeeds brings the staged plan and queues into force. -/
def Obligations.PlotCommands : Prop :=
  (∀ s r (p : Fin 8) c, windowDead s (F.PC_PCMD_CMD p).addr = false → c = .plotStart r p ∨ c = .plotStop r p ∨ c = .freeze r p ∨ c = .thaw r p ∨ c = .checkpoint r p → r.supOrStitch = false →
    exec c s = .next (s.status 0x0207)) ∧
  (∀ s r (p : Fin 8), windowDead s (F.PC_PCMD_CMD p).addr = false → r.supOrStitch = false → r ≠ .plot p → exec (.plotReset r p) s = .next (s.status 0x0207)) ∧
  (∀ s r (p : Fin 8) c, windowDead s (F.PC_PCMD_CMD p).addr = false → r.supOrStitch = true →
    (c = .plotStart r p ∧ (plotState s p ≠ 1 ∨ s.mode = mQUARANTINE)) ∨ (c = .plotStop r p ∧ plotState s p ≠ 3 ∧ plotState s p ≠ 5) ∨
    (c = .plotReset r p ∧ plotState s p ≠ 2 ∧ plotState s p ≠ 3 ∧ plotState s p ≠ 5) ∨
    (c = .freeze r p ∧ (plotState s p ≠ 3 ∨ (s.plot p).freeze ≠ 0)) ∨ (c = .thaw r p ∧ (plotState s p ≠ 5 ∨ (s.plot p).freeze ≠ 0)) ∨
    (c = .checkpoint r p ∧ (plotState s p ≠ 3 ∨ (s.plot p).freeze ≠ 0 ∨ recTakeover (plotRec s p) ≠ 2)) →
    exec c s = .next (s.status 0x0303)) ∧
  (∀ s r (p : Fin 8), windowDead s (F.PC_PCMD_CMD p).addr = false → r.supOrStitch = true → plotState s p = 1 → s.mode ≠ mQUARANTINE → Ends (.plotStart r p) s fun t =>
    plotState t p = 2 ∧ (t.plot p).faulted = false ∧ t.resp = ⟨0, 0⟩ ∧ t.mem = s.mem) ∧
  (∀ s r (p : Fin 8), windowDead s (F.PC_PCMD_CMD p).addr = false → r.supOrStitch = true → plotState s p = 3 ∨ plotState s p = 5 → Ends (.plotStop r p) s fun t =>
    plotState t p = 4 ∧ (t.plot p).restart = false ∧ (t.plot p).freeze = 0 ∧ t.rd (F.NS_CONSENT_CONSENT p) = 0 ∧
      (∀ x ∈ t.br.out, x.issuer ≠ p.val) ∧ t.resp = ⟨0, 0⟩) ∧
  (∀ s r (p : Fin 8), windowDead s (F.PC_PCMD_CMD p).addr = false → r.supOrStitch = true → plotState s p = 2 ∨ plotState s p = 3 ∨ plotState s p = 5 → Ends (.plotReset r p) s fun t =>
    plotState t p = 4 ∧ (t.plot p).restart = true ∧ t.rd (F.NS_CONSENT_CONSENT p) = 0 ∧ (∀ x ∈ t.br.out, x.issuer ≠ p.val) ∧
      t.resp = ⟨0, 0⟩) ∧
  (∀ s (p : Fin 8), windowDead s (F.PC_PCMD_CMD p).addr = false → plotState s p = 2 ∨ plotState s p = 3 ∨ plotState s p = 5 → Ends (.plotReset (.plot p) p) s fun t =>
    plotState t p = 4 ∧ (t.plot p).restart = true ∧ t.rd (F.PC_PFLT_SELF_RESET p) = 1 ∧ t.resp = ⟨0, 0⟩) ∧
  (∀ s r (p : Fin 8), windowDead s (F.PC_PCMD_CMD p).addr = false → r.supOrStitch = true → plotState s p = 3 → (s.plot p).freeze = 0 → Ends (.freeze r p) s fun t =>
    (t.plot p).freeze = 1 ∧ plotState t p = 3 ∧ t.resp = ⟨0, 0⟩) ∧
  (∀ s r (p : Fin 8), windowDead s (F.PC_PCMD_CMD p).addr = false → r.supOrStitch = true → plotState s p = 5 → (s.plot p).freeze = 0 → Ends (.thaw r p) s fun t =>
    plotState t p = 3 ∧ (t.plot p).freeze = 0 ∧ t.resp = ⟨0, 0⟩) ∧
  (∀ s r (p : Fin 8), windowDead s (F.PC_PCMD_CMD p).addr = false → r.supOrStitch = true → plotState s p = 3 → (s.plot p).freeze = 0 → recTakeover (plotRec s p) = 2 →
    (s.rd F.XL_STAT_LINK = 0 → exec (.checkpoint r p) s = .next (s.status 0x0111)) ∧
    (s.rd F.XL_STAT_LINK = 1 → Ends (.checkpoint r p) s fun t => (t.plot p).freeze = 4 ∧ plotState t p = 3 ∧ t.resp = ⟨0, 0⟩)) ∧
  (∀ s r, windowDead s F.PC_CMD_COMMIT.addr = false → r ≠ .supervisor → (∀ a b, r ≠ .stitch a true b) → exec (.plotTablesCommit r) s = .next (s.status 0x0207)) ∧
  (∀ s r a b p k, windowDead s F.PC_CMD_COMMIT.addr = false → r = .supervisor ∨ r = .stitch a true b → tablesFault s = some (p, k) → Ends (.plotTablesCommit r) s fun t =>
    t.rd F.PC_TERR_PLOT = p % 16 ∧ t.rd F.PC_TERR_REASON = k % 256 ∧ t.resp = ⟨0x0309, 0⟩ ∧ t.pc = s.pc ∧
      s.RegsBut t [F.PC_TERR_PLOT, F.PC_TERR_REASON]) ∧
  (∀ s r a b (p : Fin 8), windowDead s F.PC_CMD_COMMIT.addr = false → r = .supervisor ∨ r = .stitch a true b → tablesFault s = none → plotChanged s p = true → 2 ≤ plotState s p →
    exec (.plotTablesCommit r) s = .next (s.status 0x0303)) ∧
  (∀ s r a b, windowDead s F.PC_CMD_COMMIT.addr = false → r = .supervisor ∨ r = .stitch a true b → tablesFault s = none →
    (∀ p : Fin 8, plotChanged s p = true → plotState s p < 2) → Ends (.plotTablesCommit r) s fun t =>
      t.rd F.PC_STAT_TABLES_OK = 1 ∧ t.pc.plan = stagedPlan s ∧ t.pc.queues = stagedQueues s ∧ t.resp = ⟨0, 0⟩)

/-- A boundary without a window, or to a window whose owner does not run, shows an idle core; to one whose owner waits
for it or runs, that plot is RUNNING and is shown. An access that a region grants changes nothing; another is counted,
latched and answered 0x0209, and at the limit is a plot fault, which with FAULT 2 leaves the plot RESETTING to stop.
With the window of the plot controller in service only the plot kicks its watchdog (0x0207), and only with the key; a
watchdog not due, or of a plot not running or held, changes nothing; the first expiry with FAULT 1 resets the plot. A
reset drains while a posted write or CAN buffer of the plot is open and the bound is not reached; then it leaves the
next generation, STARTING or STOPPED. A freeze drains in the same way; then a FREEZE leaves FROZEN, a MIGRATE or
handoff leaves FROZEN with the image sent, a SAVE FROZEN with the image in the buffer where plain memory holds it, a
CHECKPOINT leaves the plot running with the image sent. A checkpoint period not over, or of a plot that takes none,
changes nothing. A complete checkpoint of the partner replaces the one held. An image from the partner that fails its
checks is answered with its code; one that passes leaves RESTORING, as does a RESTORE, which fails with 0x0303 for
another plot's image. A migration that the partner confirms leaves REMOTE and the job DONE; one that it refuses leaves
the plot running and the job FAILED with the code. -/
def Obligations.PlotEvents : Prop :=
  (∀ s (c : Fin 4), Ends (.windowBoundary c none) s fun t => t.rd (F.PC_TP_STAT_OWNER c) = 0xF ∧ t.rd (F.PC_TP_STAT_WINDOW c) = 0 ∧
    t.out = s.out ++ [.irq 8 (256 + c.val)] ∧ s.RegsBut t [F.PC_TP_STAT_OWNER c, F.PC_TP_STAT_WINDOW c]) ∧
  (∀ s (c : Fin 4) w (p : Fin 8), planOwner s c (w : Fin 16).val = p.val → plotState s p = 2 ∨ plotState s p = 3 ∨ plotState s p = 7 →
    Ends (.windowBoundary c (some w)) s fun t => plotState t p = 3 ∧ t.rd (F.PC_TP_STAT_OWNER c) = p.val ∧
      t.rd (F.PC_TP_STAT_WINDOW c) = w.val) ∧
  (∀ s (c : Fin 4) (w : Fin 16), (planOwner s c w = 8 ∨ 8 < planOwner s c w ∨
      (plotState s (planOwner s c w) ≠ 2 ∧ plotState s (planOwner s c w) ≠ 3 ∧ plotState s (planOwner s c w) ≠ 7)) →
    Ends (.windowBoundary c (some w)) s fun t => t.rd (F.PC_TP_STAT_OWNER c) = (if planOwner s c w = 8 then 8 else 0xF) ∧
      t.rd (F.PC_TP_STAT_WINDOW c) = w.val ∧ s.RegsBut t [F.PC_TP_STAT_OWNER c, F.PC_TP_STAT_WINDOW c]) ∧
  (∀ s (p : Fin 8) a w, plotMayAccess s p (a : BitVec 40).toNat w = true → exec (.accessViolation p a w) s = .next s) ∧
  (∀ s (p : Fin 8) (a : BitVec 40) w, plotMayAccess s p a.toNat w = false → Ends (.accessViolation p a w) s fun t =>
    t.resp = ⟨0x0209, 0⟩ ∧ t.rd (F.PC_VIOL_ADDR_LO_ADDR_LO p) = a.toNat % 2 ^ 32 ∧ t.rd (F.PC_VIOL_ADDR_HI_ADDR_HI p) = a.toNat / 2 ^ 32 ∧
      t.rd (F.PC_PFLT_ACCESS p) = 1 ∧ t.rd (F.PC_VIOL_CNT p) = min 0xFFFF (s.rd (F.PC_VIOL_CNT p) + 1)) ∧
  (∀ s (p : Fin 8) (a : BitVec 40) w, plotMayAccess s p a.toNat w = false → s.rd (F.PC_VIOL_VIOL_LIMIT p) ≤ 1 → plotState s p = 3 →
    recFault (plotRec s p) = 2 → Ends (.accessViolation p a w) s fun t => plotState t p = 4 ∧ (t.plot p).faulted = true ∧
      (t.plot p).restart = false) ∧
  (∀ s r (p : Fin 8) v, windowDead s (F.PC_WDOG_KICK p).addr = false → r ≠ .plot p → exec (.pcWdogKick r p v) s = .next (s.status 0x0207)) ∧
  (∀ s (p : Fin 8) (v : Word), windowDead s (F.PC_WDOG_KICK p).addr = false → Ends (.pcWdogKick (.plot p) p v) s fun t => t.resp = ⟨0, 0⟩ ∧ t.regs = s.regs ∧ t.mem = s.mem ∧
    (t.plot p).kick = (if v.toNat % 65536 = 0x4B1D then some s.now else (s.plot p).kick)) ∧
  (∀ s (p : Fin 8), wdogDue s p = false ∨ plotState s p ≠ 3 ∨ (s.plot p).freeze ≠ 0 →
    exec (.plotWdogExpiry p) s = .next s) ∧
  (∀ s (p : Fin 8) k, halfNat (plotRec s p) 22 ≠ 0 → (s.plot p).kick = some k → k + 80000 * halfNat (plotRec s p) 22 ≤ s.now →
    plotState s p = 3 → (s.plot p).freeze = 0 →
    recFault (plotRec s p) = 1 → (s.plot p).restarts = [] → Ends (.plotWdogExpiry p) s fun t =>
      plotState t p = 4 ∧ (t.plot p).restart = true ∧ t.rd (F.PC_PFLT_WDOG p) = 1) ∧
  (∀ s (p : Fin 8), plotState s p ≠ 4 ∨ (drainOpen s p = true ∧ drainLate s (s.plot p).since = false) → exec (.resetDrainDone p) s = .next s) ∧
  (∀ s (p : Fin 8), plotState s p = 4 → drainOpen s p = false ∨ drainLate s (s.plot p).since = true → Ends (.resetDrainDone p) s fun t =>
    plotState t p = (if (s.plot p).restart then 2 else 1) ∧ t.rd (F.PC_GEN_GEN p) = (s.rd (F.PC_GEN_GEN p) + 1) % 2 ^ 32) ∧
  (∀ s (p : Fin 8), (s.plot p).freeze = 0 ∨ plotState s p ≠ 3 ∨
    (drainOpen s p = true ∧ drainLate s (s.plot p).since = false) → exec (.freezeDone p) s = .next s) ∧
  (∀ s (p : Fin 8), (s.plot p).freeze = 3 → plotState s p = 3 → drainOpen s p = false ∨ drainLate s (s.plot p).since = true →
    Ends (.freezeDone p) s fun t => ∃ img, img.plot = p.val ∧ img.st = s.stamp ∧
      (areaStatus (4096 * s.rd F.PC_CKPT_BASE_BASE) ((imageHeader s img).length + (img.sections.map sectionLen).sum + 32) = 0 →
        plotState t p = 5 ∧ t.pc.buffer = some img)) ∧
  (∀ s (p : Fin 8), (s.plot p).freeze ≠ 0 → (s.plot p).freeze ≠ 3 → plotState s p = 3 →
    drainOpen s p = false ∨ drainLate s (s.plot p).since = true → Ends (.freezeDone p) s fun t =>
    (t.plot p).frozenAt = s.stamp ∧ plotState t p = (if (s.plot p).freeze = 4 then 3 else 5) ∧
      ((s.plot p).freeze = 1 → (t.plot p).freeze = 0) ∧
      ((s.plot p).freeze = 2 ∨ (s.plot p).freeze = 5 → ∃ img, img.plot = p.val ∧ Out.xl (.plotImage img) ∈ t.out) ∧
      ((s.plot p).freeze = 4 → (t.plot p).ckpt = (s.plot p).ckpt + 1 ∧
        ∃ img, img.plot = p.val ∧ Out.xl (.checkpoint ((s.plot p).ckpt + 1) img) ∈ t.out)) ∧
  (∀ s (p : Fin 8), plotState s p ≠ 3 ∨ (s.plot p).freeze ≠ 0 ∨ recTakeover (plotRec s p) ≠ 2 ∨ s.rd F.XL_STAT_LINK = 0 ∨
    s.now < (s.plot p).ckptAt + 80000000 * recCkpt (plotRec s p) → exec (.checkpointTimer p) s = .next s) ∧
  (∀ s (p : Fin 8), plotState s p = 3 → (s.plot p).freeze = 0 → recTakeover (plotRec s p) = 2 → s.rd F.XL_STAT_LINK = 1 →
    (s.plot p).ckptAt + 80000000 * recCkpt (plotRec s p) ≤ s.now → Ends (.checkpointTimer p) s fun t => (t.plot p).freeze = 4 ∧ plotState t p = 3) ∧
  (∀ s n img b, b = false ∨ 8 ≤ img.plot → exec (.checkpointRx n img b) s = .next s) ∧
  (∀ s n img, img.plot < 8 → Ends (.checkpointRx n img true) s fun t => (t.plot img.plot).held = some (n, img) ∧
    t.rd (F.PC_PSTAT_CKPT_VALID img.plot) = 1 ∧ s.RegsBut t [F.PC_PSTAT_CKPT_VALID img.plot]) ∧
  (∀ s img b code, restoreJob s = none → restoreRefusal s img b true = some code →
    exec (.imageRestore img b) s = .next (s.emit (.xl (.restoreConfirm img.plot code)))) ∧
  (∀ s img b, restoreJob s = none → restoreRefusal s img b true = none → Ends (.imageRestore img b) s fun t =>
    plotState t img.plot = 7 ∧ Out.xl (.restoreConfirm img.plot 0) ∈ t.out) ∧
  (∀ s img b j, restoreJob s = some j → (s.pc.buffer.getD img).plot ≠ migPlot (s.job j) → Ends (.imageRestore img b) s fun t =>
    (t.job j).state = 5 ∧ (t.job j).result = 0x0303) ∧
  (∀ s img b j, restoreJob s = some j → (s.pc.buffer.getD img).plot = migPlot (s.job j) →
    restoreRefusal s (s.pc.buffer.getD img) (b || s.pc.buffer.isSome) false = none → Ends (.imageRestore img b) s fun t =>
    (t.job j).state = 4 ∧ plotState t (migPlot (s.job j)) = 7) ∧
  (∀ s (p : Fin 8) code, plotState s p ≠ 5 ∨ ((s.plot p).freeze ≠ 2 ∧ (s.plot p).freeze ≠ 5) →
    exec (.migrateConfirmRx p code) s = .next s) ∧
  (∀ s (p : Fin 8) j, plotState s p = 5 → (s.plot p).freeze = 2 → (s.plot p).job = some j → Ends (.migrateConfirmRx p 0) s fun t =>
    plotState t p = 6 ∧ (t.plot p).freeze = 0 ∧ (t.job j).state = 4) ∧
  (∀ s (p : Fin 8) j (code : BitVec 16), plotState s p = 5 → (s.plot p).freeze = 2 → (s.plot p).job = some j → code ≠ 0 →
    (s.job j).kind = 7 → (s.job j).state = 2 → (s.job j).begun = true → migPlot (s.job j) = p.val → Ends (.migrateConfirmRx p code) s fun t =>
    plotState t p = 3 ∧ (t.plot p).freeze = 0 ∧ (t.job j).state = 5 ∧ (t.job j).result = code.toNat)

/-- A tamper of a PROVISIONED or FIELDED module outside SEATING, with nothing retained, empties every key slot and the
root and leaves QUARANTINE with the erase running; in another lifecycle state it is only logged, and in SEATING it is
latched; a DIO input that is not enabled as a source is none. The erase ends with the journal and the helper data gone.
With Cloche's window in service a counter is counted by the supervisor or a SECURITY session, counters 2 and 4 to 7
alone (0x0207), never past its end (0x0301), not while flash may not be written (0x0303; log entry 68), and else by
one. A refused lifecycle message or token (not the eighth rejection in an hour) changes neither mode, keys nor debug
level and is counted; an accepted one blows the fuse of Table 21-9, and takes a module to FIELDED at once, or opens the
level of Table 21-10. Provisioning that is refused answers its code; else it blows its fuse. OPEN without a token is
accepted in BLANK and RETIRED alone. Closing, unless keys are sealed, and expiry, when NOT_AFTER has come, return to
SEALED. -/
def Obligations.KeysAndTamper : Prop :=
  (∀ s (n : Fin 7) d, n.val < 6 → lcKeyed s = true → s.mode ≠ mSEATING → s.retain = none → Ends (.tamperDetect n d) s fun t =>
    t.mode = mQUARANTINE ∧ t.clo.keys = [] ∧ t.clo.root = none ∧ t.clo.erase = true ∧ t.clo.latch = true ∧ t.ses.sessions = [] ∧
      t.rd F.CLO_STAT_QUAR = 1 ∧ t.rd F.CLO_STAT_ERASING = 1 ∧ t.rd F.CLO_STAT_ROOT_OK = 0 ∧ t.clo.fuses = s.clo.fuses ∧
      (t.clo.log.head?.map fun e => byteNat e 0) = some n.val) ∧
  (∀ s (n : Fin 7) d, n.val < 6 → lcKeyed s = false → Ends (.tamperDetect n d) s fun t =>
    t.mode = s.mode ∧ t.clo.keys = s.clo.keys ∧ t.clo.root = s.clo.root ∧ t.clo.latch = s.clo.latch ∧ t.mem = s.mem ∧
      (t.clo.log.head?.map fun e => byteNat e 0) = some n.val ∧ t.clo.log.tail = s.clo.log.take 63) ∧
  (∀ s (n : Fin 7) d, n.val < 6 → lcKeyed s = true → s.mode = mSEATING → Ends (.tamperDetect n d) s fun t =>
    t.mode = mSEATING ∧ t.clo.latch = true ∧ t.clo.keys = s.clo.keys ∧ t.retain = s.retain) ∧
  (∀ s d, dormRd s F.CLO_TMP_EN_DIO = 0 → exec (.tamperDetect 6 d) s = .next s) ∧
  (∀ s, s.clo.erase = false → exec .tamperEraseDone s = .next s) ∧
  (∀ s, s.clo.erase = true → Ends .tamperEraseDone s fun t => t.clo.erase = false ∧ t.clo.enrolled = false ∧ t.clo.info = [] ∧ t.clo.journal = [] ∧
    t.rd F.CLO_STAT_ERASING = 0 ∧ t.rd F.LC_STAT_ENROLLED = 0 ∧ t.mode = s.mode ∧ t.clo.fuses = s.clo.fuses) ∧
  (∀ s r (i : Fin 8), windowDead s F.CLO_CTR_INC_IDX.addr = false →
    (r ≠ .supervisor ∧ ∀ a b, r ≠ .stitch a b true) ∨ (i.val ≠ 2 ∧ i.val < 4) →
    Ends (.counterIncrement r i) s fun t => s.Refused t r 0x0207) ∧
  (∀ s r a b (i : Fin 8), windowDead s F.CLO_CTR_INC_IDX.addr = false → r = .supervisor ∨ r = .stitch a b true →
    i.val = 2 ∨ 4 ≤ i.val → 0xFFFFFFFF ≤ cloCtr s i ∨ flashOk s = false →
    Ends (.counterIncrement r i) s fun t => s.Refused t r (if 0xFFFFFFFF ≤ cloCtr s i then 0x0301 else 0x0303)) ∧
  (∀ s r a b (i : Fin 8), windowDead s F.CLO_CTR_INC_IDX.addr = false → r = .supervisor ∨ r = .stitch a b true →
    i.val = 2 ∨ 4 ≤ i.val → cloCtr s i < 0xFFFFFFFF → flashOk s = true →
    Ends (.counterIncrement r i) s fun t => cloCtr t i = cloCtr s i + 1 ∧ t.rd (F.CLO_CTR_VALUE i) = cloCtr s i + 1 ∧ t.resp = ⟨0, 0⟩ ∧
      (i.val = 2 → t.rd F.CLO_STAT_DEBUG = 0) ∧ t.clo.keys = s.clo.keys ∧ ∀ k : Nat, k ≠ i.val → cloCtr t k = cloCtr s k) ∧
  (∀ s b ok e c, lcmRefusal s b ok = some c → (s.clo.fails.filter fun t => decide (s.now < t + 288000000000)).length ≠ 7 →
    Ends (.lifecycleMessage b ok e) s fun t => t.resp = ⟨c, 0⟩ ∧ t.rd F.CLO_FLT_LCM_REJ = 1 ∧ t.mode = s.mode ∧
      t.clo.fuses = s.clo.fuses ∧ t.clo.keys = s.clo.keys ∧ t.clo.ctrs = s.clo.ctrs) ∧
  (∀ s b ok e, lcmRefusal s b ok = none → Ends (.lifecycleMessage b ok e) s fun t => t.resp = ⟨0, 0⟩ ∧
    t.clo.fuses = (if byteNat b 6 = 1 then 4 * lcGen s + 2 else if byteNat b 6 = 3 then 4 * (lcGen s + 1) else 4 * lcGen s + 3)) ∧
  (∀ s b ok e, lcmRefusal s b ok = none → byteNat b 6 = 1 → Ends (.lifecycleMessage b ok e) s fun t => t.mode = s.mode ∧
    t.rd F.LC_STAT_STATE = 2 ∧ cloCtr t 1 = numIn b 56 4 ∧ t.clo.keys = s.clo.keys) ∧
  (∀ s b e c, provisionRefusal s b = some c → exec (.provision b e) s = .next (s.status c)) ∧
  (∀ s b e, provisionRefusal s b = none → Ends (.provision b e) s fun t => t.resp = ⟨0, 0⟩ ∧ t.clo.fuses = 4 * lcGen s + 1) ∧
  (∀ s b ok c, tokenRefusal s b ok = some c → (s.clo.fails.filter fun t => decide (s.now < t + 288000000000)).length ≠ 7 →
    Ends (.debugToken b ok) s fun t => t.resp = ⟨c, 0⟩ ∧ t.rd F.CLO_FLT_TOKEN_REJ = 1 ∧ t.mode = s.mode ∧
      t.rd F.CLO_STAT_DEBUG = s.rd F.CLO_STAT_DEBUG ∧ t.clo.keys = s.clo.keys) ∧
  (∀ s b ok, tokenRefusal s b ok = none → Ends (.debugToken b ok) s fun t => t.resp = ⟨0, 0⟩ ∧
    t.rd F.CLO_STAT_DEBUG = byteNat b 6 ∧ t.rd F.CLO_STAT_DBG_PLOTS = byteNat b 7 ∧ t.clo.notAfter = some (ptimeAt b 60) ∧ t.mode = s.mode ∧
      (byteNat b 6 = 2 → t.clo.keys = [] ∧ t.ses.sessions = [] ∧ t.rd F.CLO_STAT_KEYS_SEALED = 1) ∧
      (byteNat b 6 = 1 → t.clo.keys = s.clo.keys ∧ t.ses = s.ses)) ∧
  (∀ s c, (lcKeyed s = false ∧ debugRefusal s 2 = some c) ∨
      (lcKeyed s = true ∧ c = (debugRefusal s (if lcState s = lcFielded then 1 else 2)).getD 0x0506) →
    (s.clo.fails.filter fun t => decide (s.now < t + 288000000000)).length ≠ 7 → Ends .awlOpen s fun t => t.resp = ⟨c, 0⟩ ∧
      t.rd F.CLO_FLT_TOKEN_REJ = 1 ∧ t.mode = s.mode ∧ t.rd F.CLO_STAT_DEBUG = s.rd F.CLO_STAT_DEBUG) ∧
  (∀ s, lcKeyed s = false → debugRefusal s 2 = none → Ends .awlOpen s fun t => t.resp = ⟨0, 0⟩ ∧ t.rd F.CLO_STAT_DEBUG = 2 ∧
    s.RegsBut t [F.CLO_STAT_DEBUG]) ∧
  (∀ s e, s.rd F.CLO_STAT_KEYS_SEALED = 0 → Ends (.debugClose e) s fun t => t.resp = ⟨0, 0⟩ ∧ t.clo.notAfter = none ∧
    t.rd F.CLO_STAT_DEBUG = 0 ∧ t.rd F.CLO_STAT_DBG_PLOTS = 0 ∧ s.RegsBut t [F.CLO_STAT_DEBUG, F.CLO_STAT_DBG_PLOTS]) ∧
  (∀ s, s.clo.notAfter = none → exec .tokenExpiry s = .next s) ∧
  (∀ s x, s.clo.notAfter = some x → s.ptNs < x.toNs → exec .tokenExpiry s = .next s) ∧
  (∀ s x, s.clo.notAfter = some x → x.toNs ≤ s.ptNs → Ends .tokenExpiry s fun t => t.clo.notAfter = none ∧
    t.rd F.CLO_STAT_DEBUG = 0 ∧ t.rd F.CLO_STAT_DBG_PLOTS = 0 ∧ t.clo.keys = s.clo.keys)

/-- A block longer than 65,536 bytes answers 0x0301, and one that fails a check answers its code; neither changes a
bank. One page that passes answers 0 and is in the bank, unless the bank, now complete, has failed its form. The
service port is deaf in SEATING, DORMANCY and QUARANTINE, without VBUS, and for a job whose source is another; else it
answers each block on its own endpoint: 0x0303 without a job, 0x0101 for a bad frame, the code of a check that fails,
0. The end of an erase that does not run changes nothing; an erase leaves LOADING, a failed one also the fault and the
job FAILED with 0x0611. An activation that is not due, in another mode, or while flash may not be written (log entry
68) does not go on; one that the partner holds back ends with 0x0303; one of a module alone goes on to a restart on
trial with its bank preferred. -/
def Obligations.FirmwareBanks : Prop :=
  (∀ s d b, 65536 < d.length → exec (.graftBlockWrite d b) s = .next (s.status 0x0301)) ∧
  (∀ s d b c, d.length ≤ 65536 → blockRefusal s (s.obj 0xB018 1 0) d b = some c → Ends (.graftBlockWrite d b) s fun t =>
    t.resp = ⟨c, 0⟩ ∧ t.grf = s.grf ∧ t.jobs = s.jobs ∧ s.RegsBut t (if c = 0x0611 then [F.GRF_FLT_PROG_ERR] else [])) ∧
  (∀ s d b, d.length = 4096 → blockRefusal s (s.obj 0xB018 1 0) d b = none → Ends (.graftBlockWrite d b) s fun t =>
    t.resp = ⟨0, 0⟩ ∧ ((t.bank (spare s)).state ≠ 0 →
      (t.bank (spare s)).pages.find? (s.obj 0xB018 1 0 / 4096) = some d ∧ (t.bank (spare s)).state ≤ 3)) ∧
  (∀ s d b, s.grf.vbus = false ∨ s.mode = mSEATING ∨ s.mode = mDORMANCY ∨ s.mode = mQUARANTINE →
    exec (.svcBlock d b) s = .next s) ∧
  (∀ s d b j, transferJob s = some j → (s.job j).par.getD 0 0 % 2 = 0 → exec (.svcBlock d b) s = .next s) ∧
  (∀ s (d : List Byte) b, s.grf.vbus = true → s.mode ∈ [mBOOT, mRUN, mSERVICE, mHANDOFF, mHOLD] → transferJob s = none → exec (.svcBlock d b) s =
    .next (s.emit (.svcStatus (numIn d 4 4) 0x0303))) ∧
  (∀ s (d : List Byte) b j, s.grf.vbus = true → s.mode ∈ [mBOOT, mRUN, mSERVICE, mHANDOFF, mHOLD] → transferJob s = some j → (s.job j).par.getD 0 0 % 2 = 1 →
    numIn d 0 4 ≠ 0x4B4C4247 ∨ numIn d 8 4 ≠ (d.drop 16).length → exec (.svcBlock d b) s = .next (s.emit (.svcStatus (numIn d 4 4) 0x0101))) ∧
  (∀ s (d : List Byte) b j c, s.grf.vbus = true → s.mode ∈ [mBOOT, mRUN, mSERVICE, mHANDOFF, mHOLD] → transferJob s = some j → (s.job j).par.getD 0 0 % 2 = 1 →
    numIn d 0 4 = 0x4B4C4247 → numIn d 8 4 = (d.drop 16).length →
    (crc32From 0xFFFFFFFF (d.drop 16)) ^^^ 0xFFFFFFFF = numIn d 12 4 →
    blockRefusal s (numIn d 4 4) (d.drop 16) b = some c → c ≠ 0x0611 → exec (.svcBlock d b) s = .next (s.emit (.svcStatus (numIn d 4 4) c))) ∧
  (∀ s (d : List Byte) b j, s.grf.vbus = true → s.mode ∈ [mBOOT, mRUN, mSERVICE, mHANDOFF, mHOLD] → transferJob s = some j → (s.job j).par.getD 0 0 % 2 = 1 →
    numIn d 0 4 = 0x4B4C4247 → numIn d 8 4 = (d.drop 16).length →
    (crc32From 0xFFFFFFFF (d.drop 16)) ^^^ 0xFFFFFFFF = numIn d 12 4 →
    blockRefusal s (numIn d 4 4) (d.drop 16) b = none → Ends (.svcBlock d b) s fun t =>
      Out.svcStatus (numIn d 4 4) 0 ∈ t.out ∧ t.grf.running = s.grf.running ∧ t.grf.pref = s.grf.pref) ∧
  (∀ s b, (s.bank (spare s)).state ≠ 1 → exec (.bankEraseDone b) s = .next s) ∧
  (∀ s, (s.bank (spare s)).state = 1 → Ends (.bankEraseDone true) s fun t => t.bank (spare s) = { state := 2 } ∧
    t.rd F.GRF_STAT_BUSY = 0 ∧ t.jobs = s.jobs ∧ t.bank (s.grf.running) = (if s.grf.running = spare s then { state := 2 } else s.bank s.grf.running)) ∧
  (∀ s j, (s.bank (spare s)).state = 1 → transferJob s = some j → Ends (.bankEraseDone false) s fun t =>
    t.bank (spare s) = { state := 2 } ∧ t.rd F.GRF_FLT_ERASE_ERR = 1 ∧ (t.job j).state = 5 ∧ (t.job j).result = 0x0611) ∧
  (∀ s e, s.grf.act = none → exec (.activationProceed e) s = .next s) ∧
  (∀ s e j, s.grf.act = some j → (s.job j).kind ≠ 2 ∨ (s.job j).state ≠ 2 ∨ (s.mode ≠ mRUN ∧ s.mode ≠ mSERVICE) ∨ flashOk s = false →
    exec (.activationProceed e) s = .next s) ∧
  (∀ s e j, s.grf.act = some j → (s.job j).kind = 2 → (s.job j).state = 2 → s.mode = mRUN ∨ s.mode = mSERVICE → flashOk s = true →
    s.girth.spanMember = true → s.partner.alive = false ∨ s.partner.mode ≠ mRUN ∨
      (s.partner.activating = true ∧ s.rd F.SEAT_STAT_SIDE = 1) → Ends (.activationProceed e) s fun t =>
      t.grf = { s.grf with act := none } ∧ (t.job j).state = 5 ∧ (t.job j).result = 0x0303 ∧ t.mode = s.mode) ∧
  (∀ s e j, s.grf.act = some j → (s.job j).kind = 2 → (s.job j).state = 2 → s.mode = mRUN ∨ s.mode = mSERVICE → flashOk s = true →
    s.girth.spanMember = false → Ends (.activationProceed e) s fun t =>
      t.grf.pref = (s.job j).par.getD 0 0 % 2 ∧ t.grf.trial = true)

/-- Every command completes in every state, whatever its operands: nothing it does is a fault or a refusal of the
model. It changes only the parts of the state that Instr.parts names for it: every other register window, memory and
every other block's hidden state are the same afterwards. Whatever left the module stays in its history, in its order,
as do the hardware faults, and the count of free values taken (log entry 1, the model's own) never falls. -/
def Obligations.WholeFrame : Prop :=
  ∀ (c : Instr) (s : State), Ends c s fun t =>
    (∀ p : Part, p ∉ c.parts → p.same s t) ∧ s.out <+: t.out ∧ s.faults <+: t.faults ∧ s.free ≤ t.free

/-- From any state whose memory and register file are in canonical form and whose mode is one of Table 3-3, one step
leaves such a state again: a command whatever its operands, or a tick. The canonical form is the model's own (log entry
7). -/
def Obligations.FormKept : Prop :=
  ∀ (s t : State), s.Canon → s.ModeLegal → step s = .next t → t.Canon ∧ t.ModeLegal

/-- Reset leaves SEATING, the canonical form, a legal mode, no command waiting, no job, no session, no open queue, no
key, and every register field at its reset value (the values that the spec gives, and those that log entries name). -/
def Obligations.ResetForm : Prop :=
  State.reset.Canon ∧ State.reset.ModeLegal ∧ State.reset.mode = mSEATING ∧ State.reset.pending = [] ∧ State.reset.jobs = [] ∧
    State.reset.ses.sessions = [] ∧ State.reset.clo.keys = [] ∧ State.reset.q = [] ∧ State.reset.out = [] ∧
    ∀ f : Field, State.reset.rd f = f.rst

/-- With a command at the front of the queue the step is that command's effect on the state with the queue's rest. With
none waiting one tick of 12.5 ns passes and the step goes on (the model's choice, log entry 11). -/
def Obligations.StepFront : Prop :=
  (∀ (c : Instr) (rest : List Instr) (s : State), step { s with pending := c :: rest } = exec c { s with pending := rest }) ∧
  (∀ s : State, s.pending = [] → ∃ t, step s = .next t ∧ t.pending = [] ∧ t.now = s.now + 1)
end

