-- ==== Sys2Proof/Laws/Memory.lean ====
section
/-! SUPPORT. Laws of memory: a read after a write, every other byte untouched, and the canonical form kept. -/

namespace Sys2Proof.Machine

theorem memOk_mono {a b : Nat} {m : List Host.Cell} (h : a ≤ b) (hm : memOk b m = true) : memOk a m = true := by
  cases m with
  | nil => rfl
  | cons e r =>
    obtain ⟨k, v⟩ := e
    simp only [memOk, Bool.and_eq_true, decide_eq_true_eq] at *
    exact ⟨⟨by omega, hm.1.2⟩, hm.2⟩

/-- An address below every listed one reads as the default. -/
theorem memGet_of_lt {b a : Nat} {m : List Host.Cell} (hm : memOk b m = true) (h : a < b) : memGet m a = memDefault a := by
  induction m generalizing b with
  | nil => rfl
  | cons e r ih =>
    obtain ⟨k, v⟩ := e
    simp only [memOk, Bool.and_eq_true, decide_eq_true_eq] at hm
    have hk : a ≠ k := by omega
    simp only [memGet, hk, if_false]
    exact ih hm.2 (by omega)

theorem memGet_memSet_self {b : Nat} {m : List Host.Cell} (hm : memOk b m = true) (a : Nat) (v : Byte) :
    memGet (memSet m a v) a = v := by
  induction m generalizing b with
  | nil =>
    simp only [memSet]
    split
    · simp [memGet, *]
    · simp [memGet]
  | cons e r ih =>
    obtain ⟨k, w⟩ := e
    simp only [memOk, Bool.and_eq_true, decide_eq_true_eq] at hm
    simp only [memSet]
    split
    · have hk : a ≠ k := by omega
      split
      · rename_i hv
        rw [hv]
        simp only [memGet, if_neg hk]
        exact memGet_of_lt hm.2 (by omega)
      · simp [memGet]
    · split
      · subst k
        split
        · rw [memGet_of_lt hm.2 (by omega)]; simp [*]
        · simp [memGet]
      · simp only [memGet]
        rw [if_neg ‹_›]
        exact ih hm.2

theorem memGet_memSet_ne {m : List Host.Cell} {a a' : Nat} (v : Byte) (h : a' ≠ a) :
    memGet (memSet m a v) a' = memGet m a' := by
  induction m with
  | nil =>
    simp only [memSet]
    split
    · rfl
    · simp [memGet, h]
  | cons e r ih =>
    obtain ⟨k, w⟩ := e
    simp only [memSet]
    split
    · split
      · rfl
      · simp [memGet, h]
    · split
      · subst k
        split
        · simp [memGet, h]
        · simp [memGet, h]
      · simp [memGet, ih]

theorem memOk_memSet {b a : Nat} {m : List Host.Cell} (v : Byte) (hb : b ≤ a) (hm : memOk b m = true) :
    memOk b (memSet m a v) = true := by
  induction m generalizing b with
  | nil =>
    simp only [memSet]
    split
    · rfl
    · simp [memOk, *]
  | cons e r ih =>
    obtain ⟨k, w⟩ := e
    have hm' := hm
    simp only [memOk, Bool.and_eq_true, decide_eq_true_eq] at hm
    simp only [memSet]
    split
    · split
      · exact hm'
      · simp only [memOk, Bool.and_eq_true, decide_eq_true_eq]
        exact ⟨⟨hb, ‹_›⟩, ⟨by omega, hm.1.2⟩, hm.2⟩
    · split
      · subst k
        split
        · exact memOk_mono (by omega) hm.2
        · simp only [memOk, Bool.and_eq_true, decide_eq_true_eq]
          exact ⟨⟨hb, ‹_›⟩, hm.2⟩
      · simp only [memOk, Bool.and_eq_true, decide_eq_true_eq]
        exact ⟨hm.1, ih (by omega) hm.2⟩

/-- Storing a byte keeps the canonical form. -/
theorem Memory.wf_memSet {m : List Host.Cell} (a : Nat) (v : Byte) (h : Memory.wf m = true) :
    Memory.wf (memSet m a v) = true := memOk_memSet v (Nat.zero_le a) h

theorem memOk_filter {b : Nat} {m : List Host.Cell} (p : Host.Cell → Bool) (h : memOk b m = true) :
    memOk b (m.filter p) = true := by
  induction m generalizing b with
  | nil => rfl
  | cons e r ih =>
    obtain ⟨k, v⟩ := e
    simp only [memOk, Bool.and_eq_true, decide_eq_true_eq] at h
    have hr := ih h.2
    by_cases hp : p (k, v)
    · simp [hp, memOk, h.1, hr]
    · simpa [hp] using memOk_mono (by omega) hr

/-- Taking cells out keeps the canonical form: those bytes read as their default again. -/
theorem Memory.wf_filter {m : List Host.Cell} (p : Host.Cell → Bool) (h : Memory.wf m = true) :
    Memory.wf (m.filter p) = true := memOk_filter p h

theorem memOk_filterMap {b : Nat} {m : List Host.Cell} {f : Host.Cell → Option Host.Cell}
    (hf : ∀ c d, f c = some d → d.1 = c.1 ∧ (c.2 ≠ memDefault c.1 → d.2 ≠ memDefault d.1)) (h : memOk b m = true) :
    memOk b (m.filterMap f) = true := by
  induction m generalizing b with
  | nil => rfl
  | cons e r ih =>
    obtain ⟨k, v⟩ := e
    simp only [memOk, Bool.and_eq_true, decide_eq_true_eq] at h
    have hr := ih h.2
    rw [List.filterMap_cons]
    split
    · exact memOk_mono (by omega) hr
    · rename_i d hd
      obtain ⟨j, w⟩ := d
      have hx := hf _ _ hd
      obtain rfl : j = k := hx.1
      simp only [memOk, Bool.and_eq_true, decide_eq_true_eq]
      exact ⟨⟨h.1.1, hx.2 h.1.2⟩, hr⟩

/-- Changing cells in place, none of them to its default, keeps the canonical form. -/
theorem Memory.wf_filterMap {m : List Host.Cell} {f : Host.Cell → Option Host.Cell}
    (hf : ∀ c d, f c = some d → d.1 = c.1 ∧ (c.2 ≠ memDefault c.1 → d.2 ≠ memDefault d.1)) (h : Memory.wf m = true) :
    Memory.wf (m.filterMap f) = true := memOk_filterMap hf h

/-- A byte stored is the byte read. -/
@[simp] theorem State.byteAt_putByte_self (s : State) (a : Nat) (v : Byte) (h : Memory.wf s.mem = true) :
    (s.putByte a v).byteAt a = v := memGet_memSet_self h a v

/-- Storing a byte leaves every other byte. -/
theorem State.byteAt_putByte_ne (s : State) {a a' : Nat} (v : Byte) (h : a' ≠ a) :
    (s.putByte a v).byteAt a' = s.byteAt a' := memGet_memSet_ne v h

@[simp] theorem State.putBytes_nil (s : State) (a : Nat) : s.putBytes a [] = s := rfl

/-- Storing bytes keeps the canonical form. -/
theorem State.wf_putBytes (s : State) (a : Nat) (bs : List Byte) (h : Memory.wf s.mem = true) :
    Memory.wf (s.putBytes a bs).mem = true := by
  induction bs generalizing s a with
  | nil => exact h
  | cons b r ih => exact ih (s.putByte a b) (a + 1) (Memory.wf_memSet a b h)

/-- Storing bytes leaves every byte outside them. -/
theorem State.byteAt_putBytes_of_outside (s : State) (a a' : Nat) (bs : List Byte) (h : a' < a ∨ a + bs.length ≤ a') :
    (s.putBytes a bs).byteAt a' = s.byteAt a' := by
  induction bs generalizing s a with
  | nil => rfl
  | cons b r ih =>
    simp only [List.length_cons] at h
    simp only [State.putBytes]
    rw [ih (s.putByte a b) (a + 1) (by omega)]
    exact State.byteAt_putByte_ne s b (by omega)

/-- Each byte stored is the byte read back. -/
theorem State.byteAt_putBytes (s : State) (a i : Nat) (bs : List Byte) (hw : Memory.wf s.mem = true)
    (h : i < bs.length) : (s.putBytes a bs).byteAt (a + i) = bs.getD i 0 := by
  induction bs generalizing s a i with
  | nil => simp at h
  | cons b r ih =>
    simp only [State.putBytes]
    cases i with
    | zero =>
      rw [State.byteAt_putBytes_of_outside _ _ _ _ (by omega)]
      simpa using State.byteAt_putByte_self s a b hw
    | succ j =>
      have hj : j < r.length := by simpa using h
      have e : a + (j + 1) = a + 1 + j := by omega
      rw [e, ih (s.putByte a b) (a + 1) j (Memory.wf_memSet a b hw) hj]
      simp

end Sys2Proof.Machine
end

