-- ==== Sys2Proof/Laws/SMap.lean ====
section
/-! SUPPORT. Laws of sparse maps: a read after a write, and the canonical form. -/

namespace Sys2Proof.Machine

variable {α : Type}

@[simp] theorem SMap.find?_set_self (m : SMap α) (k : Nat) (v : α) : SMap.find? (SMap.set m k v) k = some v := by
  induction m with
  | nil => simp [SMap.set, SMap.find?]
  | cons e r ih =>
    obtain ⟨k', v'⟩ := e
    simp only [SMap.set]
    split
    · simp [SMap.find?]
    · split
      · simp [SMap.find?]
      · simp [SMap.find?, *]

theorem SMap.find?_set_ne (m : SMap α) {j k : Nat} (v : α) (h : j ≠ k) :
    SMap.find? (SMap.set m k v) j = SMap.find? m j := by
  induction m with
  | nil => simp [SMap.set, SMap.find?, h]
  | cons e r ih =>
    obtain ⟨k', v'⟩ := e
    simp only [SMap.set]
    split
    · simp [SMap.find?, h]
    · split
      · subst k'; simp [SMap.find?, h]
      · simp [SMap.find?, ih]

@[simp] theorem SMap.get_set_self (m : SMap α) (k : Nat) (v d : α) : SMap.get (SMap.set m k v) k d = v := by
  simp [SMap.get]

theorem SMap.get_set_ne (m : SMap α) {j k : Nat} (v d : α) (h : j ≠ k) :
    SMap.get (SMap.set m k v) j d = SMap.get m j d := by
  simp [SMap.get, SMap.find?_set_ne m v h]

/-- Reading any key after a write. -/
theorem SMap.get_set (m : SMap α) (j k : Nat) (v d : α) :
    SMap.get (SMap.set m k v) j d = if j = k then v else SMap.get m j d := by
  split
  · subst j; simp
  · exact SMap.get_set_ne m v d ‹_›

@[simp] theorem SMap.get_nil (k : Nat) (d : α) : SMap.get ([] : SMap α) k d = d := rfl

/-- Dropping a range leaves every key outside it. -/
theorem SMap.find?_dropRange_of_not_mem (m : SMap α) {lo hi k : Nat} (h : k < lo ∨ hi ≤ k) :
    SMap.find? (SMap.dropRange m lo hi) k = SMap.find? m k := by
  induction m with
  | nil => rfl
  | cons e r ih =>
    obtain ⟨k', v'⟩ := e
    by_cases hk : k = k'
    · subst hk; simp [SMap.dropRange, SMap.find?, h]
    · by_cases hp : k' < lo ∨ hi ≤ k'
      · rw [SMap.dropRange, List.filter_cons_of_pos (by simpa using hp)]
        simp only [SMap.find?, if_neg hk]; exact ih
      · rw [SMap.dropRange, List.filter_cons_of_neg (by simpa using hp)]
        simp only [SMap.find?, if_neg hk]; exact ih

/-- Every key inside a dropped range is unlisted. -/
theorem SMap.find?_dropRange_of_mem (m : SMap α) {lo hi k : Nat} (h1 : lo ≤ k) (h2 : k < hi) :
    SMap.find? (SMap.dropRange m lo hi) k = none := by
  induction m with
  | nil => rfl
  | cons e r ih =>
    obtain ⟨k', v'⟩ := e
    by_cases hp : k' < lo ∨ hi ≤ k'
    · have hk : k ≠ k' := by omega
      rw [SMap.dropRange, List.filter_cons_of_pos (by simpa using hp)]
      simp only [SMap.find?, if_neg hk]; exact ih
    · rw [SMap.dropRange, List.filter_cons_of_neg (by simpa using hp)]
      exact ih

theorem SMap.get_dropRange_of_not_mem (m : SMap α) {lo hi k : Nat} (d : α) (h : k < lo ∨ hi ≤ k) :
    SMap.get (SMap.dropRange m lo hi) k d = SMap.get m k d := by
  simp [SMap.get, SMap.find?_dropRange_of_not_mem m h]

theorem SMap.get_dropRange_of_mem (m : SMap α) {lo hi k : Nat} (d : α) (h1 : lo ≤ k) (h2 : k < hi) :
    SMap.get (SMap.dropRange m lo hi) k d = d := by
  simp [SMap.get, SMap.find?_dropRange_of_mem m h1 h2]

theorem SMap.sortedFrom_mono {a b : Nat} {m : SMap α} (h : a ≤ b) (hm : SMap.sortedFrom b m = true) :
    SMap.sortedFrom a m = true := by
  cases m with
  | nil => rfl
  | cons e r =>
    obtain ⟨k, v⟩ := e
    simp only [SMap.sortedFrom, Bool.and_eq_true, decide_eq_true_eq] at *
    exact ⟨by omega, hm.2⟩

theorem SMap.sortedFrom_set {b k : Nat} {m : SMap α} (v : α) (hb : b ≤ k) (hm : SMap.sortedFrom b m = true) :
    SMap.sortedFrom b (SMap.set m k v) = true := by
  induction m generalizing b with
  | nil => simp [SMap.set, SMap.sortedFrom, hb]
  | cons e r ih =>
    obtain ⟨k', v'⟩ := e
    simp only [SMap.sortedFrom, Bool.and_eq_true, decide_eq_true_eq] at hm
    simp only [SMap.set]
    split
    · simp only [SMap.sortedFrom, Bool.and_eq_true, decide_eq_true_eq]
      exact ⟨hb, by omega, hm.2⟩
    · split
      · subst k'; simp [SMap.sortedFrom, hm]
      · simp only [SMap.sortedFrom, Bool.and_eq_true, decide_eq_true_eq]
        exact ⟨hm.1, ih (by omega) hm.2⟩

/-- A write keeps the canonical form of a map. -/
theorem SMap.wf_set {m : SMap α} (k : Nat) (v : α) (h : SMap.wf m = true) : SMap.wf (SMap.set m k v) = true :=
  SMap.sortedFrom_set v (Nat.zero_le k) h

theorem SMap.sortedFrom_filter {b : Nat} {m : SMap α} (p : Nat × α → Bool) (h : SMap.sortedFrom b m = true) :
    SMap.sortedFrom b (m.filter p) = true := by
  induction m generalizing b with
  | nil => rfl
  | cons e r ih =>
    obtain ⟨k, v⟩ := e
    simp only [SMap.sortedFrom, Bool.and_eq_true, decide_eq_true_eq] at h
    have hr := ih h.2
    by_cases hp : p (k, v)
    · simp [hp, SMap.sortedFrom, h.1, hr]
    · simpa [hp] using SMap.sortedFrom_mono (by omega) hr

/-- Taking entries out keeps the canonical form of a map. -/
theorem SMap.wf_filter {m : SMap α} (p : Nat × α → Bool) (h : SMap.wf m = true) : SMap.wf (m.filter p) = true :=
  SMap.sortedFrom_filter p h

/-- Dropping a range keeps the canonical form of a map. -/
theorem SMap.wf_dropRange {m : SMap α} (lo hi : Nat) (h : SMap.wf m = true) : SMap.wf (SMap.dropRange m lo hi) = true :=
  SMap.sortedFrom_filter _ h

end Sys2Proof.Machine
end

