-- ==== Sys2Proof/Laws/Frame.lean ====
section
/-! SUPPORT. The frame relation: what an operation may change at most, and the laws of its steps. -/

set_option linter.all false

namespace Sys2Proof.Machine

/-- The number of a part, as a bit of a mask. -/
def Part.bit : Part → Nat
  | .mode => 0
  | .mem => 1
  | .objs => 2
  | .objBytes => 3
  | .settings => 4
  | .settingsBytes => 5
  | .now => 6
  | .free => 7
  | .resp => 8
  | .out => 9
  | .faults => 10
  | .irqHeld => 11
  | .q => 12
  | .girth => 13
  | .partner => 14
  | .ls => 15
  | .lsStag => 16
  | .lsKept0 => 17
  | .lsKept1 => 18
  | .dio => 19
  | .str => 20
  | .pom => 21
  | .trl => 22
  | .pt => 23
  | .aon => 24
  | .lat => 25
  | .msr => 26
  | .cap => 27
  | .til => 28
  | .can => 29
  | .ns => 30
  | .gw => 31
  | .br => 32
  | .ses => 33
  | .pc => 34
  | .clo => 35
  | .grf => 36
  | .retain => 37
  | .jobs => 38
  | .jobSeq => 39
  | .pending => 40
  | .rTrellis => 41
  | .rPlant => 42
  | .rLatigo => 43
  | .rMsr => 44
  | .rFurrow => 45
  | .rTilth => 46
  | .rPommel => 47
  | .rLs => 48
  | .rStirrup => 49
  | .rDio => 50
  | .rCan => 51
  | .rGateway => 52
  | .rPlots => 53
  | .rCloche => 54
  | .rGirth => 55
  | .rEth => 56
  | .rBridle => 57
  | .rGraft => 58
  | .rIdent => 59
  | .substate => 60
  | .upd => 61
  | .arb => 62
  | .lsOver => 63
  | .furBits => 64

/-- The number of the part that a register field belongs to, by its key. -/
def regPart (k : Nat) : Nat :=
  if k = F.GIRTH_MODE_MODE.key then 0
  else if k = F.GIRTH_MODE_SUBSTATE.key then 60
  else 41 + (k / (32 * 0x100000) - 0x200)

/-- A field of part `i`. -/
def Blk (f : Field) (i : Nat) : Prop := regPart f.key = i

theorem Blk.ite {c : Prop} [Decidable c] {f g : Field} {i : Nat} (hf : Blk f i) (hg : Blk g i) :
    Blk (if c then f else g) i := by split <;> assumption

/-- What every operation of the model does at most: `t` comes from `s` by changes in the parts whose bit `K` has, the
canonical forms of memory and of the register file are kept, the mode stays one of Table 3-3, and nothing that has been
recorded is taken back. -/
structure Within (K : Nat) (s t : State) : Prop where
  mem_wf : Memory.wf s.mem = true → Memory.wf t.mem = true
  regs_wf : SMap.wf s.regs = true → SMap.wf t.regs = true
  mode_ok : s.ModeLegal → t.ModeLegal
  free_le : s.free ≤ t.free
  out_pre : s.out <+: t.out
  faults_pre : s.faults <+: t.faults
  same : ∀ p : Part, K.testBit p.bit = false → p.same s t

theorem Part.same_refl (p : Part) (s : State) : p.same s s := by
  cases p <;> first | rfl | exact fun _ _ _ _ => rfl

theorem Within.refl (K : Nat) (s : State) : Within K s s :=
  ⟨id, id, id, Nat.le_refl _, List.prefix_rfl, List.prefix_rfl, fun p _ => p.same_refl s⟩

theorem mask_sub {K M N : Nat} (h : K &&& M = M) (hn : M &&& N = N) : K &&& N = N := by
  rw [← hn, ← Nat.and_assoc, h]

theorem mask_bit {K M i : Nat} (h : K &&& M = M) (hm : M.testBit i = true) : K.testBit i = true := by
  have := congrArg (fun x => Nat.testBit x i) h
  simpa [Nat.testBit_and, hm] using this

theorem bit_of_mask {K i : Nat} (h : K &&& 2 ^ i = 2 ^ i) : K.testBit i = true :=
  mask_bit h (by simp)

/-- `Within` of the state that an answer carries. -/
def WithinP {α : Type} (K : Nat) (b : State) (p : State × α) : Prop := Within K b p.1

/-- `Within` of every next state that a meaning answers. -/
def WithinR (K : Nat) (b : State) (r : Res) : Prop := ∀ t, r = .next t → Within K b t

theorem Within.ite {K : Nat} {b : State} {c : Prop} [Decidable c] {s t : State} (hs : Within K b s) (ht : Within K b t) :
    Within K b (if c then s else t) := by split <;> assumption

theorem WithinP.ite {α : Type} {K : Nat} {b : State} {c : Prop} [Decidable c] {p q : State × α} (hp : WithinP K b p)
    (hq : WithinP K b q) : WithinP K b (if c then p else q) := by split <;> assumption

theorem WithinP.mk {α : Type} {K : Nat} {b s : State} {a : α} (h : Within K b s) : WithinP K b (s, a) := h

theorem WithinR.ite {K : Nat} {b : State} {c : Prop} [Decidable c] {p q : Res} (hp : WithinR K b p)
    (hq : WithinR K b q) : WithinR K b (if c then p else q) := by split <;> assumption

theorem WithinR.next {K : Nat} {b s : State} (h : Within K b s) : WithinR K b (.next s) := by
  intro t e
  cases e
  exact h

theorem Within.foldl {α : Type} {K : Nat} {b s : State} {f : State → α → State} {l : List α}
    (hf : ∀ t a, Within K b t → Within K b (f t a)) (h : Within K b s) : Within K b (l.foldl f s) := by
  induction l generalizing s with
  | nil => exact h
  | cons a r ih => exact ih (hf s a h)

theorem Within.forN {K : Nat} {b s : State} {f : Nat → State → State} {n : Nat}
    (hf : ∀ i, i < n → ∀ t, Within K b t → Within K b (f i t)) (h : Within K b s) : Within K b (forN f n s) := by
  induction n with
  | zero => exact h
  | succ m ih => exact hf m (Nat.lt_succ_self m) _ (ih fun i hi => hf i (Nat.lt_succ_of_lt hi))

/-! ## Registers -/

/-- The mode field is no field of another part. -/
theorem Blk.ne_mode {f : Field} {i : Nat} (hf : Blk f i) (hi : i ≠ 0) : f.key ≠ F.GIRTH_MODE_MODE.key := by
  intro e
  apply hi
  rw [← hf, regPart, if_pos e]

theorem regPart_of_ne {k : Nat} (h : k ≠ F.GIRTH_MODE_MODE.key) (h' : k ≠ F.GIRTH_MODE_SUBSTATE.key) :
    regPart k = 41 + (k / (32 * 0x100000) - 0x200) := by
  rw [regPart, if_neg h, if_neg h']

theorem regPart_ne_zero {k : Nat} (h : k ≠ F.GIRTH_MODE_MODE.key) : regPart k ≠ 0 := by
  rw [regPart, if_neg h]
  split <;> omega

/-- A register file that differs from `s` only in fields of the parts of `K`, the mode apart. -/
theorem Within.u_regs {K : Nat} {b s t : State} (hr : SMap.wf s.regs = true → SMap.wf t.regs = true)
    (he : t = { s with regs := t.regs, upd := t.upd }) (hu : K &&& 2 ^ 61 = 2 ^ 61)
    (hd : ∀ f : Field, K.testBit (regPart f.key) = false ∨ regPart f.key = 0 → t.rd f = s.rd f)
    (h : Within K b s) : Within K b t := by
  have hm : t.mode = s.mode := hd _ (Or.inr rfl)
  have hw : ∀ n, K.testBit (41 + (n - 0x200)) = false → State.SameWindow n b s → State.SameWindow n b t := by
    intro n hn hs f hf hne hns
    rw [hd f (Or.inl ?_)]
    · exact hs f hf hne hns
    · rw [regPart_of_ne hne hns, hf, hn]
  have hsub : K.testBit 60 = false → t.rd F.GIRTH_MODE_SUBSTATE = s.rd F.GIRTH_MODE_SUBSTATE := fun hp => hd _ (Or.inl hp)
  refine ⟨?_, fun w => hr (h.regs_wf w), ?_, ?_, ?_, ?_, fun p hp => ?_⟩
  · rw [he]; exact h.mem_wf
  · intro hb
    have := h.mode_ok hb
    unfold State.ModeLegal at this ⊢
    rw [hm]
    exact this
  · rw [he]; exact h.free_le
  · rw [he]; exact h.out_pre
  · rw [he]; exact h.faults_pre
  · have hs := h.same p hp
    cases p <;> first | exact hm.trans hs | exact (hsub hp).trans hs | exact hw _ (by exact hp) hs |
      exact absurd (hp.symm.trans (bit_of_mask hu)) Bool.false_ne_true | (rw [he]; exact hs)

/-- A state that differs from `s` only in one register, of part `i`, and in what is noted of it. -/
theorem Within.one {K : Nat} {b s t : State} {f : Field} {i v : Nat} {u : SMap (Nat × Nat)}
    (he : t = { s with regs := s.regs.set f.key v, upd := u }) (hf : Blk f i) (hi : i ≠ 0) (hk : K &&& 2 ^ i = 2 ^ i)
    (hu : K &&& 2 ^ 61 = 2 ^ 61) (h : Within K b s) : Within K b t := by
  subst he
  refine Within.u_regs (SMap.wf_set _ _) rfl hu (fun g hg => ?_) h
  simp only [State.rd]
  refine SMap.get_set_ne _ _ _ fun e => ?_
  rw [e, hf, bit_of_mask hk] at hg
  rcases hg with hg | hg
  · cases hg
  · exact hi hg

theorem Within.wrBits {K : Nat} {b s : State} {f : Field} {i v x : Nat} (hf : Blk f i) (hi : i ≠ 0) (hk : K &&& 2 ^ i = 2 ^ i)
    (hu : K &&& 2 ^ 61 = 2 ^ 61) (h : Within K b s) : Within K b (s.wrBits f v x) := Within.one rfl hf hi hk hu h

theorem Within.wr {K : Nat} {b s : State} {f : Field} {i v : Nat} (hf : Blk f i) (hi : i ≠ 0) (hk : K &&& 2 ^ i = 2 ^ i)
    (hu : K &&& 2 ^ 61 = 2 ^ 61) (h : Within K b s) : Within K b (s.wr f v) := Within.wrBits hf hi hk hu h

theorem Within.put {K : Nat} {b s : State} {f : Field} {i v : Nat} (hf : Blk f i) (hi : i ≠ 0) (hk : K &&& 2 ^ i = 2 ^ i)
    (hu : K &&& 2 ^ 61 = 2 ^ 61) (h : Within K b s) : Within K b (s.put f v) := Within.one rfl hf hi hk hu h

theorem Within.hwWr {K : Nat} {b s : State} {f : Field} {i v : Nat} (hf : Blk f i) (hi : i ≠ 0) (hk : K &&& 2 ^ i = 2 ^ i)
    (hu : K &&& 2 ^ 61 = 2 ^ 61) (h : Within K b s) : Within K b (s.hwWr f v) := Within.one rfl hf hi hk hu h

theorem Within.hostWr {K : Nat} {b s : State} {f : Field} {i v : Nat} (hf : Blk f i) (hi : i ≠ 0) (hk : K &&& 2 ^ i = 2 ^ i)
    (hu : K &&& 2 ^ 61 = 2 ^ 61) (h : Within K b s) : Within K b (s.hostWr f v) := Within.ite h (Within.put hf hi hk hu h)

theorem Within.rcClear {K : Nat} {b s : State} {f : Field} {i : Nat} (hf : Blk f i) (hi : i ≠ 0) (hk : K &&& 2 ^ i = 2 ^ i)
    (hu : K &&& 2 ^ 61 = 2 ^ 61) (h : Within K b s) : Within K b (s.rcClear f) := by
  unfold State.rcClear
  split
  · exact Within.put hf hi hk hu h
  · exact Within.one rfl hf hi hk hu h

theorem Within.wr_mode {K : Nat} {b s : State} {v : Nat} (hv : 1 ≤ v ∧ v ≤ 8) (hk : K &&& 1 = 1)
    (hu : K &&& 2 ^ 61 = 2 ^ 61) (h : Within K b s) : Within K b (s.wr F.GIRTH_MODE_MODE v) := by
  have hw : ∀ n, State.SameWindow n b s → State.SameWindow n b (s.wr F.GIRTH_MODE_MODE v) := by
    intro n hs f hf hne hns
    rw [← hs f hf hne hns]
    exact SMap.get_set_ne _ _ _ hne
  have hsub : ∀ v, (s.wr F.GIRTH_MODE_MODE v).rd F.GIRTH_MODE_SUBSTATE = s.rd F.GIRTH_MODE_SUBSTATE :=
    fun v => SMap.get_set_ne _ _ _ (by decide)
  refine ⟨h.mem_wf, fun w => SMap.wf_set _ _ (h.regs_wf w), ?_, h.free_le, h.out_pre, h.faults_pre, fun p hp => ?_⟩
  · intro _
    have e : (s.wr F.GIRTH_MODE_MODE v).mode = v := by
      simp only [State.mode, State.rd, State.wr, State.wrBits, SMap.get_set_self]
      exact Nat.mod_eq_of_lt (Nat.lt_of_le_of_lt hv.2 (by decide))
    unfold State.ModeLegal
    rw [e]
    exact hv
  · have hs := h.same p hp
    cases p <;> first | exact hw _ hs | exact (hsub _).trans hs | exact hs |
      exact absurd (hp.symm.trans (bit_of_mask hu)) Bool.false_ne_true |
      (simp only [Part.bit, bit_of_mask (i := 0) hk] at hp; cases hp)

/-- The parts of the register windows. -/
theorem regBits : ∀ n, n < 60 → 41 ≤ n → Nat.testBit 4611683819404132352 n = true := by
  intro n h1 h2
  interval_cases n <;> rfl

theorem regBit {K n : Nat} (hk : K &&& 4611683819404132352 = 4611683819404132352) (h1 : 0x200 ≤ n) (h2 : n ≤ 0x212) :
    K.testBit (41 + (n - 0x200)) = true :=
  mask_bit hk (regBits _ (by omega) (by omega))

/-- Registers of an address range without the mode's return to their reset values. -/
theorem State_resetRegs_within {K : Nat} {b s : State} {lo hi : Nat}
    (hr : 0x20000000 ≤ lo ∧ hi ≤ 0x21300000 ∧ (hi ≤ 0x20E00000 ∨ 0x20E00001 ≤ lo))
    (hk : K &&& 4611683819404132352 = 4611683819404132352) (h : Within K b s) : Within K b (s.resetRegs lo hi) := by
  refine Within.u_regs (SMap.wf_dropRange _ _) rfl (mask_sub hk rfl) (fun g hg => ?_) h
  simp only [State.rd, State.resetRegs]
  refine SMap.get_dropRange_of_not_mem _ _ ?_
  by_contra hc
  have hm : F.GIRTH_MODE_MODE.key = 32 * 0x20E00000 := rfl
  have hne : g.key ≠ F.GIRTH_MODE_MODE.key := by omega
  have hs : F.GIRTH_MODE_SUBSTATE.key = 32 * 0x20E00000 + 16 := rfl
  have hns : g.key ≠ F.GIRTH_MODE_SUBSTATE.key := by omega
  rw [regPart_of_ne hne hns, regBit hk (by omega) (by omega)] at hg
  rcases hg with hg | hg
  · cases hg
  · omega

/-- Several such ranges. -/
theorem State_resetWindows_within {K : Nat} {b s : State} {ws : List (Nat × Nat)}
    (hr : ∀ w ∈ ws, 0x20000000 ≤ w.1 ∧ w.2 ≤ 0x21300000 ∧ (w.2 ≤ 0x20E00000 ∨ 0x20E00001 ≤ w.1))
    (hk : K &&& 4611683819404132352 = 4611683819404132352) (h : Within K b s) : Within K b (s.resetWindows ws) := by
  unfold State.resetWindows
  induction ws generalizing s with
  | nil => exact h
  | cons w r ih =>
    exact ih (fun w hw => hr w (List.mem_cons_of_mem _ hw))
      (State_resetRegs_within (hr _ (List.mem_cons_self ..)) hk h)

/-! ## Whole words -/

/-- May a host write reach the field: is it of a part of `K`, or read-only? -/
def Reach (K : Nat) (f : Field) : Prop := (K.testBit (regPart f.key) = true ∧ regPart f.key ≠ 0) ∨ f.acc = .ro

theorem Reach.mask {K : Nat} {f : Field} (h : K.testBit (regPart f.key) = true) :
    K &&& 2 ^ regPart f.key = 2 ^ regPart f.key := by
  refine Nat.eq_of_testBit_eq fun j => ?_
  by_cases e : regPart f.key = j
  · subst e; simp [Nat.testBit_and, h]
  · simp [Nat.testBit_and, e]

theorem Within.fieldWrite {K : Nat} {b s : State} {f : Field} {v : Nat} (hf : Reach K f) (hu : K &&& 2 ^ 61 = 2 ^ 61)
    (h : Within K b s) : Within K b (s.fieldWrite f v) := by
  unfold State.fieldWrite
  rcases hf with hf | hf
  · have hk := Reach.mask hf.1
    split <;> first | exact h | exact Within.hostWr rfl hf.2 hk hu h | exact Within.put rfl hf.2 hk hu h
  · rw [hf]
    exact h

theorem Within.wordWrite {K : Nat} {b s : State} {v : Nat} {l : List Field} (hf : ∀ f ∈ l, Reach K f)
    (hu : K &&& 2 ^ 61 = 2 ^ 61) (h : Within K b s) : Within K b (s.wordWrite v l) := by
  induction l generalizing s with
  | nil => exact h
  | cons f r ih =>
    exact ih (fun g hg => hf g (List.mem_cons_of_mem _ hg)) (Within.fieldWrite (hf f (List.mem_cons_self ..)) hu h)

theorem Within.clearRc {K : Nat} {b s : State} {l : List Field} (hf : ∀ f ∈ l, Reach K f) (hu : K &&& 2 ^ 61 = 2 ^ 61)
    (h : Within K b s) : Within K b (s.clearRc l) := by
  induction l generalizing s with
  | nil => exact h
  | cons f r ih =>
    refine ih (fun g hg => hf g (List.mem_cons_of_mem _ hg)) ?_
    rcases hf f (List.mem_cons_self ..) with hr | hr
    · split
      · exact Within.rcClear rfl hr.2 (Reach.mask hr.1) hu h
      · exact h
    · rw [hr]
      exact h

/-- What the register map says of a field at an address. -/
structure AtAddr (a : Nat) (f : Field) : Prop where
  addr : f.addr = a
  lo : f.lo < 32
  win : 0x20000000 ≤ a ∧ a < 0x21300000
  mode : a = 0x20E00000 → f.acc = .ro

theorem windowRegs_lo (a : Nat) : ∀ r ∈ windowRegs a, ∀ x ∈ r.fields, x.1 < 32 := by
  unfold windowRegs
  split <;> decide

theorem fieldsAt_spec (a : Nat) : ∀ f ∈ fieldsAt a, AtAddr a f := by
  intro f hf
  have hm : a = 0x20E00000 → f.acc = .ro := by
    intro e
    subst e
    have : ∀ f ∈ fieldsAt 0x20E00000, f.acc = .ro := by decide
    exact this f hf
  unfold fieldsAt at hf
  split at hf
  · split at hf
    · simp only [List.mem_singleton] at hf
      subst hf
      refine ⟨?_, ?_, by omega, hm⟩
      · simp only [F.LS_PROF_DATA]; omega
      · simp only [F.LS_PROF_DATA]; omega
    · cases hf
  · split at hf
    · cases hf
    · rename_i r hr
      have hmem := List.mem_of_find?_eq_some hr
      simp only [List.mem_map] at hf
      obtain ⟨x, hx, rfl⟩ := hf
      refine ⟨rfl, windowRegs_lo a r hmem x hx, ?_, hm⟩
      unfold windowRegs at hmem
      split at hmem <;> first | omega | cases hmem

theorem AtAddr.key_eq {a b i : Nat} {f : Field} (h : AtAddr a f) (hi : i < 32) (e : f.key = 32 * b + i) : a = b := by
  have := h.addr
  have := h.lo
  simp only [Field.key] at e
  omega

theorem AtAddr.part {a : Nat} {f : Field} (h : AtAddr a f) (ha : a ≠ 0x20E00000) :
    regPart f.key = 41 + (a / 0x100000 - 0x200) := by
  rw [regPart_of_ne (fun e => ha (h.key_eq (i := 0) (by omega) e)) (fun e => ha (h.key_eq (i := 16) (by omega) e))]
  have := h.addr
  have := h.lo
  simp only [Field.key]
  omega

theorem AtAddr.reach {K a : Nat} {f : Field} (h : AtAddr a f) (hk : K &&& 4611683819404132352 = 4611683819404132352) : Reach K f := by
  by_cases e : a = 0x20E00000
  · exact Or.inr (h.mode e)
  · refine Or.inl ?_
    rw [h.part e]
    have := h.win
    exact ⟨regBit hk (by omega) (by omega), by omega⟩

theorem State_writeWord_within {K : Nat} {b s : State} {a v : Nat} (hk : K &&& 4611683819404132352 = 4611683819404132352) (h : Within K b s) :
    Within K b (s.writeWord a v) :=
  Within.wordWrite (fun f hf => (fieldsAt_spec a f hf).reach hk) (mask_sub hk rfl) h

/-- A host write of the register of a field. -/
theorem State_writeWord_field {K : Nat} {b s : State} {g : Field} {i v : Nat} (hf : Blk g i) (hi : i ≠ 0) (hl : g.lo < 32)
    (hk : K &&& 2 ^ i = 2 ^ i) (hu : K &&& 2 ^ 61 = 2 ^ 61) (h : Within K b s) : Within K b (s.writeWord g.addr v) := by
  refine Within.wordWrite (fun f hm => ?_) hu h
  have ha := fieldsAt_spec _ f hm
  by_cases e : g.addr = 0x20E00000
  · exact Or.inr (ha.mode e)
  · refine Or.inl ?_
    have hg : regPart g.key = i := hf
    have h0 : g.key = 32 * g.addr + g.lo := rfl
    have hm : F.GIRTH_MODE_MODE.key = 32 * 0x20E00000 := rfl
    have hs : F.GIRTH_MODE_SUBSTATE.key = 32 * 0x20E00000 + 16 := rfl
    rw [regPart_of_ne (by omega) (by omega)] at hg
    have hp : regPart f.key = i := by
      have h32 : (32 * g.addr + g.lo) / 32 = g.addr := by omega
      rw [ha.part e, ← hg, ← Nat.div_div_eq_div_mul, Field.key, h32]
    rw [hp]
    exact ⟨bit_of_mask hk, hi⟩

theorem State_clearRc_within {K : Nat} {b s : State} {a : Nat} (hk : K &&& 4611683819404132352 = 4611683819404132352) (h : Within K b s) :
    Within K b (s.clearRc (fieldsAt a)) :=
  Within.clearRc (fun f hf => (fieldsAt_spec a f hf).reach hk) (mask_sub hk rfl) h

theorem State_clearRc_in_within {K : Nat} {b s : State} {a lo w : Nat} (hk : K &&& 4611683819404132352 = 4611683819404132352) (h : Within K b s) :
    Within K b (s.clearRc (fieldsIn a lo w)) :=
  Within.clearRc (fun f hf => (fieldsAt_spec a f (List.mem_of_mem_filter hf)).reach hk) (mask_sub hk rfl) h

theorem Within.wrAll {K : Nat} {b s : State} {a : Nat} {l : List Field} {v : Field → Nat} (ha : a ≠ 0x20E00000)
    (hl : ∀ f ∈ l, AtAddr a f) (hk : K &&& 4611683819404132352 = 4611683819404132352) (h : Within K b s) :
    Within K b (l.foldl (fun t f => t.wr f (v f)) s) := by
  induction l generalizing s with
  | nil => exact h
  | cons f r ih =>
    refine ih (fun g hg => hl g (List.mem_cons_of_mem _ hg)) ?_
    have hf := hl f (List.mem_cons_self ..)
    have hw := hf.win
    have hb := regBit hk (n := a / 0x100000) (by omega) (by omega)
    have hp := hf.part ha
    rw [← hp] at hb
    exact Within.wr rfl (by omega) (Reach.mask hb) (mask_sub hk rfl) h

theorem rawWord_within {K : Nat} {b s : State} {a v : Nat} (hk : K &&& 4611683819404132352 = 4611683819404132352) (h : Within K b s) :
    Within K b (rawWord s a v) := by
  unfold rawWord
  split
  · exact h
  · rename_i ha
    exact Within.wrAll ha (fieldsAt_spec a) hk h

theorem rawBits_within {K : Nat} {b s : State} {a lo w v : Nat} (hk : K &&& 4611683819404132352 = 4611683819404132352) (h : Within K b s) :
    Within K b (rawBits s a lo w v) := by
  unfold rawBits
  split
  · exact h
  · rename_i ha
    exact Within.wrAll (v := fun f => rmwWord s a lo w v / 2 ^ f.lo) ha
      (fun f hf => fieldsAt_spec a f (List.mem_of_mem_filter hf)) hk h

theorem wf_foldSet (l : List (Nat × Nat)) (m : SMap Nat) (h : SMap.wf m = true) :
    SMap.wf (l.foldl (fun (m : SMap Nat) (e : Nat × Nat) => SMap.set m e.1 e.2) m) = true := by
  induction l generalizing m with
  | nil => exact h
  | cons e r ih => exact ih _ (SMap.wf_set _ _ h)

theorem Within.wrB {K : Nat} {b s : State} {f : Field} {i : Nat} {x : Bool} (hf : Blk f i) (hi : i ≠ 0) (hk : K &&& 2 ^ i = 2 ^ i)
    (hu : K &&& 2 ^ 61 = 2 ^ 61) (h : Within K b s) :
    Within K b (s.wrB f x) := Within.wr hf hi hk hu h

theorem Within.wrI {K : Nat} {b s : State} {f : Field} {i : Nat} {x : Int} (hf : Blk f i) (hi : i ≠ 0) (hk : K &&& 2 ^ i = 2 ^ i)
    (hu : K &&& 2 ^ 61 = 2 ^ 61) (h : Within K b s) :
    Within K b (s.wrI f x) := Within.wr hf hi hk hu h

theorem Within.setBit {K : Nat} {b s : State} {f : Field} {i : Nat} {x : Nat} (hf : Blk f i) (hi : i ≠ 0) (hk : K &&& 2 ^ i = 2 ^ i)
    (hu : K &&& 2 ^ 61 = 2 ^ 61) (h : Within K b s) :
    Within K b (s.setBit f x) := Within.wrBits hf hi hk hu h

theorem Within.clrBit {K : Nat} {b s : State} {f : Field} {i : Nat} {x : Nat} (hf : Blk f i) (hi : i ≠ 0) (hk : K &&& 2 ^ i = 2 ^ i)
    (hu : K &&& 2 ^ 61 = 2 ^ 61) (h : Within K b s) :
    Within K b (s.clrBit f x) := Within.wr hf hi hk hu h

theorem Within.incWrap {K : Nat} {b s : State} {f : Field} {i : Nat} (hf : Blk f i) (hi : i ≠ 0) (hk : K &&& 2 ^ i = 2 ^ i)
    (hu : K &&& 2 ^ 61 = 2 ^ 61) (h : Within K b s) :
    Within K b (s.incWrap f) := Within.wr hf hi hk hu h

theorem Within.incSat {K : Nat} {b s : State} {f : Field} {i : Nat} (hf : Blk f i) (hi : i ≠ 0) (hk : K &&& 2 ^ i = 2 ^ i)
    (hu : K &&& 2 ^ 61 = 2 ^ 61) (h : Within K b s) :
    Within K b (s.incSat f) := Within.one rfl hf hi hk hu h

theorem Within.putBit {K : Nat} {b s : State} {f : Field} {i j : Nat} {x : Bool} (hf : Blk f i) (hi : i ≠ 0) (hk : K &&& 2 ^ i = 2 ^ i)
    (hu : K &&& 2 ^ 61 = 2 ^ 61) (h : Within K b s) :
    Within K b (s.putBit f j x) :=
  Within.ite (Within.setBit hf hi hk hu h) (Within.clrBit hf hi hk hu h)

/-! ## One law for each update of State's fields -/

theorem Within.u_upd {K : Nat} {b s : State} {x61}
    (hk : K &&& 2305843009213693952 = 2305843009213693952) (h : Within K b s) : Within K b { s with upd := x61 } :=
  ⟨h.mem_wf, h.regs_wf, h.mode_ok, h.free_le, h.out_pre, h.faults_pre,
   fun p hp => by cases p <;> first | exact (h.same _ hp :) | exact absurd (hp.symm.trans (mask_bit hk rfl)) Bool.false_ne_true ⟩

theorem Within.u_arb {K : Nat} {b s : State} {x62}
    (hk : K &&& 4611686018427387904 = 4611686018427387904) (h : Within K b s) : Within K b { s with arb := x62 } :=
  ⟨h.mem_wf, h.regs_wf, h.mode_ok, h.free_le, h.out_pre, h.faults_pre,
   fun p hp => by cases p <;> first | exact (h.same _ hp :) | exact absurd (hp.symm.trans (mask_bit hk rfl)) Bool.false_ne_true ⟩

theorem Within.u_mem {K : Nat} {b s : State} {x1} (hm : Memory.wf s.mem = true → Memory.wf x1 = true)
    (hk : K &&& 2 = 2) (h : Within K b s) : Within K b { s with mem := x1 } :=
  ⟨fun w => hm (h.mem_wf w), h.regs_wf, h.mode_ok, h.free_le, h.out_pre, h.faults_pre,
   fun p hp => by cases p <;> first | exact (h.same _ hp :) | exact absurd (hp.symm.trans (mask_bit hk rfl)) Bool.false_ne_true ⟩

theorem Within.u_objs {K : Nat} {b s : State} {x2}
    (hk : K &&& 4 = 4) (h : Within K b s) : Within K b { s with objs := x2 } :=
  ⟨h.mem_wf, h.regs_wf, h.mode_ok, h.free_le, h.out_pre, h.faults_pre,
   fun p hp => by cases p <;> first | exact (h.same _ hp :) | exact absurd (hp.symm.trans (mask_bit hk rfl)) Bool.false_ne_true ⟩

theorem Within.u_objBytes {K : Nat} {b s : State} {x3}
    (hk : K &&& 8 = 8) (h : Within K b s) : Within K b { s with objBytes := x3 } :=
  ⟨h.mem_wf, h.regs_wf, h.mode_ok, h.free_le, h.out_pre, h.faults_pre,
   fun p hp => by cases p <;> first | exact (h.same _ hp :) | exact absurd (hp.symm.trans (mask_bit hk rfl)) Bool.false_ne_true ⟩

theorem Within.u_settings {K : Nat} {b s : State} {x4}
    (hk : K &&& 16 = 16) (h : Within K b s) : Within K b { s with settings := x4 } :=
  ⟨h.mem_wf, h.regs_wf, h.mode_ok, h.free_le, h.out_pre, h.faults_pre,
   fun p hp => by cases p <;> first | exact (h.same _ hp :) | exact absurd (hp.symm.trans (mask_bit hk rfl)) Bool.false_ne_true ⟩

theorem Within.u_settingsBytes {K : Nat} {b s : State} {x5}
    (hk : K &&& 32 = 32) (h : Within K b s) : Within K b { s with settingsBytes := x5 } :=
  ⟨h.mem_wf, h.regs_wf, h.mode_ok, h.free_le, h.out_pre, h.faults_pre,
   fun p hp => by cases p <;> first | exact (h.same _ hp :) | exact absurd (hp.symm.trans (mask_bit hk rfl)) Bool.false_ne_true ⟩

theorem Within.u_now {K : Nat} {b s : State} {x6}
    (hk : K &&& 64 = 64) (h : Within K b s) : Within K b { s with now := x6 } :=
  ⟨h.mem_wf, h.regs_wf, h.mode_ok, h.free_le, h.out_pre, h.faults_pre,
   fun p hp => by cases p <;> first | exact (h.same _ hp :) | exact absurd (hp.symm.trans (mask_bit hk rfl)) Bool.false_ne_true ⟩

theorem Within.u_free {K : Nat} {b s : State} {x7} (hf : s.free ≤ x7)
    (hk : K &&& 128 = 128) (h : Within K b s) : Within K b { s with free := x7 } :=
  ⟨h.mem_wf, h.regs_wf, h.mode_ok, Nat.le_trans h.free_le hf, h.out_pre, h.faults_pre,
   fun p hp => by cases p <;> first | exact (h.same _ hp :) | exact absurd (hp.symm.trans (mask_bit hk rfl)) Bool.false_ne_true ⟩

theorem Within.u_resp {K : Nat} {b s : State} {x8}
    (hk : K &&& 256 = 256) (h : Within K b s) : Within K b { s with resp := x8 } :=
  ⟨h.mem_wf, h.regs_wf, h.mode_ok, h.free_le, h.out_pre, h.faults_pre,
   fun p hp => by cases p <;> first | exact (h.same _ hp :) | exact absurd (hp.symm.trans (mask_bit hk rfl)) Bool.false_ne_true ⟩

theorem Within.u_out {K : Nat} {b s : State} {x9} (ho : s.out <+: x9)
    (hk : K &&& 512 = 512) (h : Within K b s) : Within K b { s with out := x9 } :=
  ⟨h.mem_wf, h.regs_wf, h.mode_ok, h.free_le, h.out_pre.trans ho, h.faults_pre,
   fun p hp => by cases p <;> first | exact (h.same _ hp :) | exact absurd (hp.symm.trans (mask_bit hk rfl)) Bool.false_ne_true ⟩

theorem Within.u_faults {K : Nat} {b s : State} {x10} (hx : s.faults <+: x10)
    (hk : K &&& 1024 = 1024) (h : Within K b s) : Within K b { s with faults := x10 } :=
  ⟨h.mem_wf, h.regs_wf, h.mode_ok, h.free_le, h.out_pre, h.faults_pre.trans hx,
   fun p hp => by cases p <;> first | exact (h.same _ hp :) | exact absurd (hp.symm.trans (mask_bit hk rfl)) Bool.false_ne_true ⟩

theorem Within.u_irqHeld {K : Nat} {b s : State} {x11}
    (hk : K &&& 2048 = 2048) (h : Within K b s) : Within K b { s with irqHeld := x11 } :=
  ⟨h.mem_wf, h.regs_wf, h.mode_ok, h.free_le, h.out_pre, h.faults_pre,
   fun p hp => by cases p <;> first | exact (h.same _ hp :) | exact absurd (hp.symm.trans (mask_bit hk rfl)) Bool.false_ne_true ⟩

theorem Within.u_furBits {K : Nat} {b s : State} {x64}
    (hk : K &&& 18446744073709551616 = 18446744073709551616) (h : Within K b s) : Within K b { s with furBits := x64 } :=
  ⟨h.mem_wf, h.regs_wf, h.mode_ok, h.free_le, h.out_pre, h.faults_pre,
   fun p hp => by cases p <;> first | exact (h.same _ hp :) | exact absurd (hp.symm.trans (mask_bit hk rfl)) Bool.false_ne_true ⟩

theorem Within.u_q {K : Nat} {b s : State} {x12}
    (hk : K &&& 4096 = 4096) (h : Within K b s) : Within K b { s with q := x12 } :=
  ⟨h.mem_wf, h.regs_wf, h.mode_ok, h.free_le, h.out_pre, h.faults_pre,
   fun p hp => by cases p <;> first | exact (h.same _ hp :) | exact absurd (hp.symm.trans (mask_bit hk rfl)) Bool.false_ne_true ⟩

theorem Within.u_girth {K : Nat} {b s : State} {x13}
    (hk : K &&& 8192 = 8192) (h : Within K b s) : Within K b { s with girth := x13 } :=
  ⟨h.mem_wf, h.regs_wf, h.mode_ok, h.free_le, h.out_pre, h.faults_pre,
   fun p hp => by cases p <;> first | exact (h.same _ hp :) | exact absurd (hp.symm.trans (mask_bit hk rfl)) Bool.false_ne_true ⟩

theorem Within.u_partner {K : Nat} {b s : State} {x14}
    (hk : K &&& 16384 = 16384) (h : Within K b s) : Within K b { s with partner := x14 } :=
  ⟨h.mem_wf, h.regs_wf, h.mode_ok, h.free_le, h.out_pre, h.faults_pre,
   fun p hp => by cases p <;> first | exact (h.same _ hp :) | exact absurd (hp.symm.trans (mask_bit hk rfl)) Bool.false_ne_true ⟩

theorem Within.u_ls {K : Nat} {b s : State} {x15}
    (hk : K &&& 32768 = 32768) (h : Within K b s) : Within K b { s with ls := x15 } :=
  ⟨h.mem_wf, h.regs_wf, h.mode_ok, h.free_le, h.out_pre, h.faults_pre,
   fun p hp => by cases p <;> first | exact (h.same _ hp :) | exact absurd (hp.symm.trans (mask_bit hk rfl)) Bool.false_ne_true ⟩

theorem Within.u_lsStag {K : Nat} {b s : State} {x16}
    (hk : K &&& 65536 = 65536) (h : Within K b s) : Within K b { s with lsStag := x16 } :=
  ⟨h.mem_wf, h.regs_wf, h.mode_ok, h.free_le, h.out_pre, h.faults_pre,
   fun p hp => by cases p <;> first | exact (h.same _ hp :) | exact absurd (hp.symm.trans (mask_bit hk rfl)) Bool.false_ne_true ⟩

theorem Within.u_lsOver {K : Nat} {b s : State} {x63}
    (hk : K &&& 9223372036854775808 = 9223372036854775808) (h : Within K b s) : Within K b { s with lsOver := x63 } :=
  ⟨h.mem_wf, h.regs_wf, h.mode_ok, h.free_le, h.out_pre, h.faults_pre,
   fun p hp => by cases p <;> first | exact (h.same _ hp :) | exact absurd (hp.symm.trans (mask_bit hk rfl)) Bool.false_ne_true ⟩

theorem Within.u_lsKept0 {K : Nat} {b s : State} {x17}
    (hk : K &&& 131072 = 131072) (h : Within K b s) : Within K b { s with lsKept0 := x17 } :=
  ⟨h.mem_wf, h.regs_wf, h.mode_ok, h.free_le, h.out_pre, h.faults_pre,
   fun p hp => by cases p <;> first | exact (h.same _ hp :) | exact absurd (hp.symm.trans (mask_bit hk rfl)) Bool.false_ne_true ⟩

theorem Within.u_lsKept1 {K : Nat} {b s : State} {x18}
    (hk : K &&& 262144 = 262144) (h : Within K b s) : Within K b { s with lsKept1 := x18 } :=
  ⟨h.mem_wf, h.regs_wf, h.mode_ok, h.free_le, h.out_pre, h.faults_pre,
   fun p hp => by cases p <;> first | exact (h.same _ hp :) | exact absurd (hp.symm.trans (mask_bit hk rfl)) Bool.false_ne_true ⟩

theorem Within.u_dio {K : Nat} {b s : State} {x19}
    (hk : K &&& 524288 = 524288) (h : Within K b s) : Within K b { s with dio := x19 } :=
  ⟨h.mem_wf, h.regs_wf, h.mode_ok, h.free_le, h.out_pre, h.faults_pre,
   fun p hp => by cases p <;> first | exact (h.same _ hp :) | exact absurd (hp.symm.trans (mask_bit hk rfl)) Bool.false_ne_true ⟩

theorem Within.u_str {K : Nat} {b s : State} {x20}
    (hk : K &&& 1048576 = 1048576) (h : Within K b s) : Within K b { s with str := x20 } :=
  ⟨h.mem_wf, h.regs_wf, h.mode_ok, h.free_le, h.out_pre, h.faults_pre,
   fun p hp => by cases p <;> first | exact (h.same _ hp :) | exact absurd (hp.symm.trans (mask_bit hk rfl)) Bool.false_ne_true ⟩

theorem Within.u_pom {K : Nat} {b s : State} {x21}
    (hk : K &&& 2097152 = 2097152) (h : Within K b s) : Within K b { s with pom := x21 } :=
  ⟨h.mem_wf, h.regs_wf, h.mode_ok, h.free_le, h.out_pre, h.faults_pre,
   fun p hp => by cases p <;> first | exact (h.same _ hp :) | exact absurd (hp.symm.trans (mask_bit hk rfl)) Bool.false_ne_true ⟩

theorem Within.u_trl {K : Nat} {b s : State} {x22}
    (hk : K &&& 4194304 = 4194304) (h : Within K b s) : Within K b { s with trl := x22 } :=
  ⟨h.mem_wf, h.regs_wf, h.mode_ok, h.free_le, h.out_pre, h.faults_pre,
   fun p hp => by cases p <;> first | exact (h.same _ hp :) | exact absurd (hp.symm.trans (mask_bit hk rfl)) Bool.false_ne_true ⟩

theorem Within.u_pt {K : Nat} {b s : State} {x23}
    (hk : K &&& 8388608 = 8388608) (h : Within K b s) : Within K b { s with pt := x23 } :=
  ⟨h.mem_wf, h.regs_wf, h.mode_ok, h.free_le, h.out_pre, h.faults_pre,
   fun p hp => by cases p <;> first | exact (h.same _ hp :) | exact absurd (hp.symm.trans (mask_bit hk rfl)) Bool.false_ne_true ⟩

theorem Within.u_aon {K : Nat} {b s : State} {x24}
    (hk : K &&& 16777216 = 16777216) (h : Within K b s) : Within K b { s with aon := x24 } :=
  ⟨h.mem_wf, h.regs_wf, h.mode_ok, h.free_le, h.out_pre, h.faults_pre,
   fun p hp => by cases p <;> first | exact (h.same _ hp :) | exact absurd (hp.symm.trans (mask_bit hk rfl)) Bool.false_ne_true ⟩

theorem Within.u_lat {K : Nat} {b s : State} {x25}
    (hk : K &&& 33554432 = 33554432) (h : Within K b s) : Within K b { s with lat := x25 } :=
  ⟨h.mem_wf, h.regs_wf, h.mode_ok, h.free_le, h.out_pre, h.faults_pre,
   fun p hp => by cases p <;> first | exact (h.same _ hp :) | exact absurd (hp.symm.trans (mask_bit hk rfl)) Bool.false_ne_true ⟩

theorem Within.u_msr {K : Nat} {b s : State} {x26}
    (hk : K &&& 67108864 = 67108864) (h : Within K b s) : Within K b { s with msr := x26 } :=
  ⟨h.mem_wf, h.regs_wf, h.mode_ok, h.free_le, h.out_pre, h.faults_pre,
   fun p hp => by cases p <;> first | exact (h.same _ hp :) | exact absurd (hp.symm.trans (mask_bit hk rfl)) Bool.false_ne_true ⟩

theorem Within.u_cap {K : Nat} {b s : State} {x27}
    (hk : K &&& 134217728 = 134217728) (h : Within K b s) : Within K b { s with cap := x27 } :=
  ⟨h.mem_wf, h.regs_wf, h.mode_ok, h.free_le, h.out_pre, h.faults_pre,
   fun p hp => by cases p <;> first | exact (h.same _ hp :) | exact absurd (hp.symm.trans (mask_bit hk rfl)) Bool.false_ne_true ⟩

theorem Within.u_til {K : Nat} {b s : State} {x28}
    (hk : K &&& 268435456 = 268435456) (h : Within K b s) : Within K b { s with til := x28 } :=
  ⟨h.mem_wf, h.regs_wf, h.mode_ok, h.free_le, h.out_pre, h.faults_pre,
   fun p hp => by cases p <;> first | exact (h.same _ hp :) | exact absurd (hp.symm.trans (mask_bit hk rfl)) Bool.false_ne_true ⟩

theorem Within.u_can {K : Nat} {b s : State} {x29}
    (hk : K &&& 536870912 = 536870912) (h : Within K b s) : Within K b { s with can := x29 } :=
  ⟨h.mem_wf, h.regs_wf, h.mode_ok, h.free_le, h.out_pre, h.faults_pre,
   fun p hp => by cases p <;> first | exact (h.same _ hp :) | exact absurd (hp.symm.trans (mask_bit hk rfl)) Bool.false_ne_true ⟩

theorem Within.u_ns {K : Nat} {b s : State} {x30}
    (hk : K &&& 1073741824 = 1073741824) (h : Within K b s) : Within K b { s with ns := x30 } :=
  ⟨h.mem_wf, h.regs_wf, h.mode_ok, h.free_le, h.out_pre, h.faults_pre,
   fun p hp => by cases p <;> first | exact (h.same _ hp :) | exact absurd (hp.symm.trans (mask_bit hk rfl)) Bool.false_ne_true ⟩

theorem Within.u_gw {K : Nat} {b s : State} {x31}
    (hk : K &&& 2147483648 = 2147483648) (h : Within K b s) : Within K b { s with gw := x31 } :=
  ⟨h.mem_wf, h.regs_wf, h.mode_ok, h.free_le, h.out_pre, h.faults_pre,
   fun p hp => by cases p <;> first | exact (h.same _ hp :) | exact absurd (hp.symm.trans (mask_bit hk rfl)) Bool.false_ne_true ⟩

theorem Within.u_br {K : Nat} {b s : State} {x32}
    (hk : K &&& 4294967296 = 4294967296) (h : Within K b s) : Within K b { s with br := x32 } :=
  ⟨h.mem_wf, h.regs_wf, h.mode_ok, h.free_le, h.out_pre, h.faults_pre,
   fun p hp => by cases p <;> first | exact (h.same _ hp :) | exact absurd (hp.symm.trans (mask_bit hk rfl)) Bool.false_ne_true ⟩

theorem Within.u_ses {K : Nat} {b s : State} {x33}
    (hk : K &&& 8589934592 = 8589934592) (h : Within K b s) : Within K b { s with ses := x33 } :=
  ⟨h.mem_wf, h.regs_wf, h.mode_ok, h.free_le, h.out_pre, h.faults_pre,
   fun p hp => by cases p <;> first | exact (h.same _ hp :) | exact absurd (hp.symm.trans (mask_bit hk rfl)) Bool.false_ne_true ⟩

theorem Within.u_pc {K : Nat} {b s : State} {x34}
    (hk : K &&& 17179869184 = 17179869184) (h : Within K b s) : Within K b { s with pc := x34 } :=
  ⟨h.mem_wf, h.regs_wf, h.mode_ok, h.free_le, h.out_pre, h.faults_pre,
   fun p hp => by cases p <;> first | exact (h.same _ hp :) | exact absurd (hp.symm.trans (mask_bit hk rfl)) Bool.false_ne_true ⟩

theorem Within.u_clo {K : Nat} {b s : State} {x35}
    (hk : K &&& 34359738368 = 34359738368) (h : Within K b s) : Within K b { s with clo := x35 } :=
  ⟨h.mem_wf, h.regs_wf, h.mode_ok, h.free_le, h.out_pre, h.faults_pre,
   fun p hp => by cases p <;> first | exact (h.same _ hp :) | exact absurd (hp.symm.trans (mask_bit hk rfl)) Bool.false_ne_true ⟩

theorem Within.u_grf {K : Nat} {b s : State} {x36}
    (hk : K &&& 68719476736 = 68719476736) (h : Within K b s) : Within K b { s with grf := x36 } :=
  ⟨h.mem_wf, h.regs_wf, h.mode_ok, h.free_le, h.out_pre, h.faults_pre,
   fun p hp => by cases p <;> first | exact (h.same _ hp :) | exact absurd (hp.symm.trans (mask_bit hk rfl)) Bool.false_ne_true ⟩

theorem Within.u_retain {K : Nat} {b s : State} {x37}
    (hk : K &&& 137438953472 = 137438953472) (h : Within K b s) : Within K b { s with retain := x37 } :=
  ⟨h.mem_wf, h.regs_wf, h.mode_ok, h.free_le, h.out_pre, h.faults_pre,
   fun p hp => by cases p <;> first | exact (h.same _ hp :) | exact absurd (hp.symm.trans (mask_bit hk rfl)) Bool.false_ne_true ⟩

theorem Within.u_jobs {K : Nat} {b s : State} {x38}
    (hk : K &&& 274877906944 = 274877906944) (h : Within K b s) : Within K b { s with jobs := x38 } :=
  ⟨h.mem_wf, h.regs_wf, h.mode_ok, h.free_le, h.out_pre, h.faults_pre,
   fun p hp => by cases p <;> first | exact (h.same _ hp :) | exact absurd (hp.symm.trans (mask_bit hk rfl)) Bool.false_ne_true ⟩

theorem Within.u_jobSeq {K : Nat} {b s : State} {x39}
    (hk : K &&& 549755813888 = 549755813888) (h : Within K b s) : Within K b { s with jobSeq := x39 } :=
  ⟨h.mem_wf, h.regs_wf, h.mode_ok, h.free_le, h.out_pre, h.faults_pre,
   fun p hp => by cases p <;> first | exact (h.same _ hp :) | exact absurd (hp.symm.trans (mask_bit hk rfl)) Bool.false_ne_true ⟩

theorem Within.u_pending {K : Nat} {b s : State} {x40}
    (hk : K &&& 1099511627776 = 1099511627776) (h : Within K b s) : Within K b { s with pending := x40 } :=
  ⟨h.mem_wf, h.regs_wf, h.mode_ok, h.free_le, h.out_pre, h.faults_pre,
   fun p hp => by cases p <;> first | exact (h.same _ hp :) | exact absurd (hp.symm.trans (mask_bit hk rfl)) Bool.false_ne_true ⟩

theorem Within.u_arb_girth {K : Nat} {b s : State} {x62} {x13}
    (hk : K &&& 4611686018427396096 = 4611686018427396096) (h : Within K b s) : Within K b { s with arb := x62, girth := x13 } :=
  ⟨h.mem_wf, h.regs_wf, h.mode_ok, h.free_le, h.out_pre, h.faults_pre,
   fun p hp => by cases p <;> first | exact (h.same _ hp :) | exact absurd (hp.symm.trans (mask_bit hk rfl)) Bool.false_ne_true ⟩

theorem Within.u_mem_furBits {K : Nat} {b s : State} {x1} {x64} (hm : Memory.wf s.mem = true → Memory.wf x1 = true)
    (hk : K &&& 18446744073709551618 = 18446744073709551618) (h : Within K b s) : Within K b { s with mem := x1, furBits := x64 } :=
  ⟨fun w => hm (h.mem_wf w), h.regs_wf, h.mode_ok, h.free_le, h.out_pre, h.faults_pre,
   fun p hp => by cases p <;> first | exact (h.same _ hp :) | exact absurd (hp.symm.trans (mask_bit hk rfl)) Bool.false_ne_true ⟩

theorem Within.u_objs_objBytes {K : Nat} {b s : State} {x2} {x3}
    (hk : K &&& 12 = 12) (h : Within K b s) : Within K b { s with objs := x2, objBytes := x3 } :=
  ⟨h.mem_wf, h.regs_wf, h.mode_ok, h.free_le, h.out_pre, h.faults_pre,
   fun p hp => by cases p <;> first | exact (h.same _ hp :) | exact absurd (hp.symm.trans (mask_bit hk rfl)) Bool.false_ne_true ⟩

theorem Within.u_objs_pom {K : Nat} {b s : State} {x2} {x21}
    (hk : K &&& 2097156 = 2097156) (h : Within K b s) : Within K b { s with objs := x2, pom := x21 } :=
  ⟨h.mem_wf, h.regs_wf, h.mode_ok, h.free_le, h.out_pre, h.faults_pre,
   fun p hp => by cases p <;> first | exact (h.same _ hp :) | exact absurd (hp.symm.trans (mask_bit hk rfl)) Bool.false_ne_true ⟩

theorem Within.u_objBytes_settingsBytes {K : Nat} {b s : State} {x3} {x5}
    (hk : K &&& 40 = 40) (h : Within K b s) : Within K b { s with objBytes := x3, settingsBytes := x5 } :=
  ⟨h.mem_wf, h.regs_wf, h.mode_ok, h.free_le, h.out_pre, h.faults_pre,
   fun p hp => by cases p <;> first | exact (h.same _ hp :) | exact absurd (hp.symm.trans (mask_bit hk rfl)) Bool.false_ne_true ⟩

theorem Within.u_settings_settingsBytes {K : Nat} {b s : State} {x4} {x5}
    (hk : K &&& 48 = 48) (h : Within K b s) : Within K b { s with settings := x4, settingsBytes := x5 } :=
  ⟨h.mem_wf, h.regs_wf, h.mode_ok, h.free_le, h.out_pre, h.faults_pre,
   fun p hp => by cases p <;> first | exact (h.same _ hp :) | exact absurd (hp.symm.trans (mask_bit hk rfl)) Bool.false_ne_true ⟩

theorem Within.u_free_str {K : Nat} {b s : State} {x7} {x20} (hf : s.free ≤ x7)
    (hk : K &&& 1048704 = 1048704) (h : Within K b s) : Within K b { s with free := x7, str := x20 } :=
  ⟨h.mem_wf, h.regs_wf, h.mode_ok, Nat.le_trans h.free_le hf, h.out_pre, h.faults_pre,
   fun p hp => by cases p <;> first | exact (h.same _ hp :) | exact absurd (hp.symm.trans (mask_bit hk rfl)) Bool.false_ne_true ⟩

theorem Within.u_free_til {K : Nat} {b s : State} {x7} {x28} (hf : s.free ≤ x7)
    (hk : K &&& 268435584 = 268435584) (h : Within K b s) : Within K b { s with free := x7, til := x28 } :=
  ⟨h.mem_wf, h.regs_wf, h.mode_ok, Nat.le_trans h.free_le hf, h.out_pre, h.faults_pre,
   fun p hp => by cases p <;> first | exact (h.same _ hp :) | exact absurd (hp.symm.trans (mask_bit hk rfl)) Bool.false_ne_true ⟩

theorem Within.u_resp_ses {K : Nat} {b s : State} {x8} {x33}
    (hk : K &&& 8589934848 = 8589934848) (h : Within K b s) : Within K b { s with resp := x8, ses := x33 } :=
  ⟨h.mem_wf, h.regs_wf, h.mode_ok, h.free_le, h.out_pre, h.faults_pre,
   fun p hp => by cases p <;> first | exact (h.same _ hp :) | exact absurd (hp.symm.trans (mask_bit hk rfl)) Bool.false_ne_true ⟩

theorem Within.u_girth_partner {K : Nat} {b s : State} {x13} {x14}
    (hk : K &&& 24576 = 24576) (h : Within K b s) : Within K b { s with girth := x13, partner := x14 } :=
  ⟨h.mem_wf, h.regs_wf, h.mode_ok, h.free_le, h.out_pre, h.faults_pre,
   fun p hp => by cases p <;> first | exact (h.same _ hp :) | exact absurd (hp.symm.trans (mask_bit hk rfl)) Bool.false_ne_true ⟩

theorem Within.u_girth_str {K : Nat} {b s : State} {x13} {x20}
    (hk : K &&& 1056768 = 1056768) (h : Within K b s) : Within K b { s with girth := x13, str := x20 } :=
  ⟨h.mem_wf, h.regs_wf, h.mode_ok, h.free_le, h.out_pre, h.faults_pre,
   fun p hp => by cases p <;> first | exact (h.same _ hp :) | exact absurd (hp.symm.trans (mask_bit hk rfl)) Bool.false_ne_true ⟩

theorem Within.u_girth_pom {K : Nat} {b s : State} {x13} {x21}
    (hk : K &&& 2105344 = 2105344) (h : Within K b s) : Within K b { s with girth := x13, pom := x21 } :=
  ⟨h.mem_wf, h.regs_wf, h.mode_ok, h.free_le, h.out_pre, h.faults_pre,
   fun p hp => by cases p <;> first | exact (h.same _ hp :) | exact absurd (hp.symm.trans (mask_bit hk rfl)) Bool.false_ne_true ⟩

theorem Within.u_girth_lat {K : Nat} {b s : State} {x13} {x25}
    (hk : K &&& 33562624 = 33562624) (h : Within K b s) : Within K b { s with girth := x13, lat := x25 } :=
  ⟨h.mem_wf, h.regs_wf, h.mode_ok, h.free_le, h.out_pre, h.faults_pre,
   fun p hp => by cases p <;> first | exact (h.same _ hp :) | exact absurd (hp.symm.trans (mask_bit hk rfl)) Bool.false_ne_true ⟩

theorem Within.u_girth_ses {K : Nat} {b s : State} {x13} {x33}
    (hk : K &&& 8589942784 = 8589942784) (h : Within K b s) : Within K b { s with girth := x13, ses := x33 } :=
  ⟨h.mem_wf, h.regs_wf, h.mode_ok, h.free_le, h.out_pre, h.faults_pre,
   fun p hp => by cases p <;> first | exact (h.same _ hp :) | exact absurd (hp.symm.trans (mask_bit hk rfl)) Bool.false_ne_true ⟩

theorem Within.u_lsKept0_lsKept1 {K : Nat} {b s : State} {x17} {x18}
    (hk : K &&& 393216 = 393216) (h : Within K b s) : Within K b { s with lsKept0 := x17, lsKept1 := x18 } :=
  ⟨h.mem_wf, h.regs_wf, h.mode_ok, h.free_le, h.out_pre, h.faults_pre,
   fun p hp => by cases p <;> first | exact (h.same _ hp :) | exact absurd (hp.symm.trans (mask_bit hk rfl)) Bool.false_ne_true ⟩

theorem Within.u_str_retain {K : Nat} {b s : State} {x20} {x37}
    (hk : K &&& 137440002048 = 137440002048) (h : Within K b s) : Within K b { s with str := x20, retain := x37 } :=
  ⟨h.mem_wf, h.regs_wf, h.mode_ok, h.free_le, h.out_pre, h.faults_pre,
   fun p hp => by cases p <;> first | exact (h.same _ hp :) | exact absurd (hp.symm.trans (mask_bit hk rfl)) Bool.false_ne_true ⟩

theorem Within.u_pt_lat {K : Nat} {b s : State} {x23} {x25}
    (hk : K &&& 41943040 = 41943040) (h : Within K b s) : Within K b { s with pt := x23, lat := x25 } :=
  ⟨h.mem_wf, h.regs_wf, h.mode_ok, h.free_le, h.out_pre, h.faults_pre,
   fun p hp => by cases p <;> first | exact (h.same _ hp :) | exact absurd (hp.symm.trans (mask_bit hk rfl)) Bool.false_ne_true ⟩

theorem Within.u_lat_msr {K : Nat} {b s : State} {x25} {x26}
    (hk : K &&& 100663296 = 100663296) (h : Within K b s) : Within K b { s with lat := x25, msr := x26 } :=
  ⟨h.mem_wf, h.regs_wf, h.mode_ok, h.free_le, h.out_pre, h.faults_pre,
   fun p hp => by cases p <;> first | exact (h.same _ hp :) | exact absurd (hp.symm.trans (mask_bit hk rfl)) Bool.false_ne_true ⟩

theorem Within.u_gw_br {K : Nat} {b s : State} {x31} {x32}
    (hk : K &&& 6442450944 = 6442450944) (h : Within K b s) : Within K b { s with gw := x31, br := x32 } :=
  ⟨h.mem_wf, h.regs_wf, h.mode_ok, h.free_le, h.out_pre, h.faults_pre,
   fun p hp => by cases p <;> first | exact (h.same _ hp :) | exact absurd (hp.symm.trans (mask_bit hk rfl)) Bool.false_ne_true ⟩

theorem Within.u_clo_grf {K : Nat} {b s : State} {x35} {x36}
    (hk : K &&& 103079215104 = 103079215104) (h : Within K b s) : Within K b { s with clo := x35, grf := x36 } :=
  ⟨h.mem_wf, h.regs_wf, h.mode_ok, h.free_le, h.out_pre, h.faults_pre,
   fun p hp => by cases p <;> first | exact (h.same _ hp :) | exact absurd (hp.symm.trans (mask_bit hk rfl)) Bool.false_ne_true ⟩

theorem Within.u_upd_arb_now {K : Nat} {b s : State} {x61} {x62} {x6}
    (hk : K &&& 6917529027641081920 = 6917529027641081920) (h : Within K b s) : Within K b { s with upd := x61, arb := x62, now := x6 } :=
  ⟨h.mem_wf, h.regs_wf, h.mode_ok, h.free_le, h.out_pre, h.faults_pre,
   fun p hp => by cases p <;> first | exact (h.same _ hp :) | exact absurd (hp.symm.trans (mask_bit hk rfl)) Bool.false_ne_true ⟩

theorem Within.u_settings_settingsBytes_ses {K : Nat} {b s : State} {x4} {x5} {x33}
    (hk : K &&& 8589934640 = 8589934640) (h : Within K b s) : Within K b { s with settings := x4, settingsBytes := x5, ses := x33 } :=
  ⟨h.mem_wf, h.regs_wf, h.mode_ok, h.free_le, h.out_pre, h.faults_pre,
   fun p hp => by cases p <;> first | exact (h.same _ hp :) | exact absurd (hp.symm.trans (mask_bit hk rfl)) Bool.false_ne_true ⟩

theorem Within.u_settings_settingsBytes_grf {K : Nat} {b s : State} {x4} {x5} {x36}
    (hk : K &&& 68719476784 = 68719476784) (h : Within K b s) : Within K b { s with settings := x4, settingsBytes := x5, grf := x36 } :=
  ⟨h.mem_wf, h.regs_wf, h.mode_ok, h.free_le, h.out_pre, h.faults_pre,
   fun p hp => by cases p <;> first | exact (h.same _ hp :) | exact absurd (hp.symm.trans (mask_bit hk rfl)) Bool.false_ne_true ⟩

theorem Within.u_girth_partner_retain {K : Nat} {b s : State} {x13} {x14} {x37}
    (hk : K &&& 137438978048 = 137438978048) (h : Within K b s) : Within K b { s with girth := x13, partner := x14, retain := x37 } :=
  ⟨h.mem_wf, h.regs_wf, h.mode_ok, h.free_le, h.out_pre, h.faults_pre,
   fun p hp => by cases p <;> first | exact (h.same _ hp :) | exact absurd (hp.symm.trans (mask_bit hk rfl)) Bool.false_ne_true ⟩

theorem Within.u_pom_aon_clo_jobs {K : Nat} {b s : State} {x21} {x24} {x35} {x38}
    (hk : K &&& 309256519680 = 309256519680) (h : Within K b s) : Within K b { s with pom := x21, aon := x24, clo := x35, jobs := x38 } :=
  ⟨h.mem_wf, h.regs_wf, h.mode_ok, h.free_le, h.out_pre, h.faults_pre,
   fun p hp => by cases p <;> first | exact (h.same _ hp :) | exact absurd (hp.symm.trans (mask_bit hk rfl)) Bool.false_ne_true ⟩

theorem Within.u_girth_lat_msr_til_gw_pc {K : Nat} {b s : State} {x13} {x25} {x26} {x28} {x31} {x34}
    (hk : K &&& 19696459776 = 19696459776) (h : Within K b s) : Within K b { s with girth := x13, lat := x25, msr := x26, til := x28, gw := x31, pc := x34 } :=
  ⟨h.mem_wf, h.regs_wf, h.mode_ok, h.free_le, h.out_pre, h.faults_pre,
   fun p hp => by cases p <;> first | exact (h.same _ hp :) | exact absurd (hp.symm.trans (mask_bit hk rfl)) Bool.false_ne_true ⟩

theorem Within.u_pom_trl_pt_lat_msr_cap {K : Nat} {b s : State} {x21} {x22} {x23} {x25} {x26} {x27}
    (hk : K &&& 249561088 = 249561088) (h : Within K b s) : Within K b { s with pom := x21, trl := x22, pt := x23, lat := x25, msr := x26, cap := x27 } :=
  ⟨h.mem_wf, h.regs_wf, h.mode_ok, h.free_le, h.out_pre, h.faults_pre,
   fun p hp => by cases p <;> first | exact (h.same _ hp :) | exact absurd (hp.symm.trans (mask_bit hk rfl)) Bool.false_ne_true ⟩

theorem Within.u_irqHeld_q_can_ns_gw_br_ses_pc {K : Nat} {b s : State} {x11} {x12} {x29} {x30} {x31} {x32} {x33} {x34}
    (hk : K &&& 33822873600 = 33822873600) (h : Within K b s) : Within K b { s with irqHeld := x11, q := x12, can := x29, ns := x30, gw := x31, br := x32, ses := x33, pc := x34 } :=
  ⟨h.mem_wf, h.regs_wf, h.mode_ok, h.free_le, h.out_pre, h.faults_pre,
   fun p hp => by cases p <;> first | exact (h.same _ hp :) | exact absurd (hp.symm.trans (mask_bit hk rfl)) Bool.false_ne_true ⟩

/-! ## The part of each register field -/

@[simp] theorem BLK_RST_STAT_BUSY_blk : Blk F.BLK_RST_STAT_BUSY 55 := rfl
@[simp] theorem BR_CNT_RETRIES_blk : Blk F.BR_CNT_RETRIES 52 := rfl
@[simp] theorem BR_CNT_TMOS_blk : Blk F.BR_CNT_TMOS 52 := rfl
@[simp] theorem BR_ERRQ_EN_blk (p : Nat) : Blk (F.BR_ERRQ_EN p) 52 := by
  unfold Blk regPart F.BR_ERRQ_EN Field.key F.GIRTH_MODE_MODE F.GIRTH_MODE_SUBSTATE
  dsimp only
  rw [if_neg (by omega), if_neg (by omega)]
  omega
@[simp] theorem BR_ERRQ_QUEUE_blk (p : Nat) : Blk (F.BR_ERRQ_QUEUE p) 52 := by
  unfold Blk regPart F.BR_ERRQ_QUEUE Field.key F.GIRTH_MODE_MODE F.GIRTH_MODE_SUBSTATE
  dsimp only
  rw [if_neg (by omega), if_neg (by omega)]
  omega
@[simp] theorem BR_FENCE_GO_blk (p : Nat) : Blk (F.BR_FENCE_GO p) 52 := by
  unfold Blk regPart F.BR_FENCE_GO Field.key F.GIRTH_MODE_MODE F.GIRTH_MODE_SUBSTATE
  dsimp only
  rw [if_neg (by omega), if_neg (by omega)]
  omega
@[simp] theorem BR_FENCE_STAT_BUSY_blk (p : Nat) : Blk (F.BR_FENCE_STAT_BUSY p) 52 := by
  unfold Blk regPart F.BR_FENCE_STAT_BUSY Field.key F.GIRTH_MODE_MODE F.GIRTH_MODE_SUBSTATE
  dsimp only
  rw [if_neg (by omega), if_neg (by omega)]
  omega
@[simp] theorem BR_FENCE_STAT_DONE_blk (p : Nat) : Blk (F.BR_FENCE_STAT_DONE p) 52 := by
  unfold Blk regPart F.BR_FENCE_STAT_DONE Field.key F.GIRTH_MODE_MODE F.GIRTH_MODE_SUBSTATE
  dsimp only
  rw [if_neg (by omega), if_neg (by omega)]
  omega
@[simp] theorem BR_FENCE_STAT_STATUS_blk (p : Nat) : Blk (F.BR_FENCE_STAT_STATUS p) 52 := by
  unfold Blk regPart F.BR_FENCE_STAT_STATUS Field.key F.GIRTH_MODE_MODE F.GIRTH_MODE_SUBSTATE
  dsimp only
  rw [if_neg (by omega), if_neg (by omega)]
  omega
@[simp] theorem BR_LAST_ADDR_HI_ADDR_HI_blk (p : Nat) : Blk (F.BR_LAST_ADDR_HI_ADDR_HI p) 52 := by
  unfold Blk regPart F.BR_LAST_ADDR_HI_ADDR_HI Field.key F.GIRTH_MODE_MODE F.GIRTH_MODE_SUBSTATE
  dsimp only
  rw [if_neg (by omega), if_neg (by omega)]
  omega
@[simp] theorem BR_LAST_ADDR_LO_ADDR_LO_blk (p : Nat) : Blk (F.BR_LAST_ADDR_LO_ADDR_LO p) 52 := by
  unfold Blk regPart F.BR_LAST_ADDR_LO_ADDR_LO Field.key F.GIRTH_MODE_MODE F.GIRTH_MODE_SUBSTATE
  dsimp only
  rw [if_neg (by omega), if_neg (by omega)]
  omega
@[simp] theorem BR_LAST_STATUS_blk (p : Nat) : Blk (F.BR_LAST_STATUS p) 52 := by
  unfold Blk regPart F.BR_LAST_STATUS Field.key F.GIRTH_MODE_MODE F.GIRTH_MODE_SUBSTATE
  dsimp only
  rw [if_neg (by omega), if_neg (by omega)]
  omega
@[simp] theorem BR_LAST_TAG_blk (p : Nat) : Blk (F.BR_LAST_TAG p) 52 := by
  unfold Blk regPart F.BR_LAST_TAG Field.key F.GIRTH_MODE_MODE F.GIRTH_MODE_SUBSTATE
  dsimp only
  rw [if_neg (by omega), if_neg (by omega)]
  omega
@[simp] theorem BR_PCNT_ERRS_blk (p : Nat) : Blk (F.BR_PCNT_ERRS p) 52 := by
  unfold Blk regPart F.BR_PCNT_ERRS Field.key F.GIRTH_MODE_MODE F.GIRTH_MODE_SUBSTATE
  dsimp only
  rw [if_neg (by omega), if_neg (by omega)]
  omega
@[simp] theorem BR_PCNT_REC_LOST_blk (p : Nat) : Blk (F.BR_PCNT_REC_LOST p) 52 := by
  unfold Blk regPart F.BR_PCNT_REC_LOST Field.key F.GIRTH_MODE_MODE F.GIRTH_MODE_SUBSTATE
  dsimp only
  rw [if_neg (by omega), if_neg (by omega)]
  omega
@[simp] theorem BR_RETRY_RETRY_INT_blk : Blk F.BR_RETRY_RETRY_INT 52 := rfl
@[simp] theorem BR_RETRY_RETRY_MAX_blk : Blk F.BR_RETRY_RETRY_MAX 52 := rfl
@[simp] theorem BR_TAG_TAG_blk (p : Nat) : Blk (F.BR_TAG_TAG p) 52 := by
  unfold Blk regPart F.BR_TAG_TAG Field.key F.GIRTH_MODE_MODE F.GIRTH_MODE_SUBSTATE
  dsimp only
  rw [if_neg (by omega), if_neg (by omega)]
  omega
@[simp] theorem BR_TMO_RSP_TMO_blk : Blk F.BR_TMO_RSP_TMO 52 := rfl
@[simp] theorem CAN_CMD_CMD_blk (i : Nat) : Blk (F.CAN_CMD_CMD i) 51 := by
  unfold Blk regPart F.CAN_CMD_CMD Field.key F.GIRTH_MODE_MODE F.GIRTH_MODE_SUBSTATE
  dsimp only
  rw [if_neg (by omega), if_neg (by omega)]
  omega
@[simp] theorem CAN_CNT_RX_OK_blk (i : Nat) : Blk (F.CAN_CNT_RX_OK i) 51 := by
  unfold Blk regPart F.CAN_CNT_RX_OK Field.key F.GIRTH_MODE_MODE F.GIRTH_MODE_SUBSTATE
  dsimp only
  rw [if_neg (by omega), if_neg (by omega)]
  omega
@[simp] theorem CAN_CNT_TX_OK_blk (i : Nat) : Blk (F.CAN_CNT_TX_OK i) 51 := by
  unfold Blk regPart F.CAN_CNT_TX_OK Field.key F.GIRTH_MODE_MODE F.GIRTH_MODE_SUBSTATE
  dsimp only
  rw [if_neg (by omega), if_neg (by omega)]
  omega
@[simp] theorem CAN_CTL_BOFF_FLUSH_blk (i : Nat) : Blk (F.CAN_CTL_BOFF_FLUSH i) 51 := by
  unfold Blk regPart F.CAN_CTL_BOFF_FLUSH Field.key F.GIRTH_MODE_MODE F.GIRTH_MODE_SUBSTATE
  dsimp only
  rw [if_neg (by omega), if_neg (by omega)]
  omega
@[simp] theorem CAN_CTL_FD_EN_blk (i : Nat) : Blk (F.CAN_CTL_FD_EN i) 51 := by
  unfold Blk regPart F.CAN_CTL_FD_EN Field.key F.GIRTH_MODE_MODE F.GIRTH_MODE_SUBSTATE
  dsimp only
  rw [if_neg (by omega), if_neg (by omega)]
  omega
@[simp] theorem CAN_CTL_GW1200_blk (i : Nat) : Blk (F.CAN_CTL_GW1200 i) 51 := by
  unfold Blk regPart F.CAN_CTL_GW1200 Field.key F.GIRTH_MODE_MODE F.GIRTH_MODE_SUBSTATE
  dsimp only
  rw [if_neg (by omega), if_neg (by omega)]
  omega
@[simp] theorem CAN_CTL_MODE_blk (i : Nat) : Blk (F.CAN_CTL_MODE i) 51 := by
  unfold Blk regPart F.CAN_CTL_MODE Field.key F.GIRTH_MODE_MODE F.GIRTH_MODE_SUBSTATE
  dsimp only
  rw [if_neg (by omega), if_neg (by omega)]
  omega
@[simp] theorem CAN_CTL_PXD_blk (i : Nat) : Blk (F.CAN_CTL_PXD i) 51 := by
  unfold Blk regPart F.CAN_CTL_PXD Field.key F.GIRTH_MODE_MODE F.GIRTH_MODE_SUBSTATE
  dsimp only
  rw [if_neg (by omega), if_neg (by omega)]
  omega
@[simp] theorem CAN_CTL_TRIPLE_blk (i : Nat) : Blk (F.CAN_CTL_TRIPLE i) 51 := by
  unfold Blk regPart F.CAN_CTL_TRIPLE Field.key F.GIRTH_MODE_MODE F.GIRTH_MODE_SUBSTATE
  dsimp only
  rw [if_neg (by omega), if_neg (by omega)]
  omega
@[simp] theorem CAN_DBT_DBRP_blk (i : Nat) : Blk (F.CAN_DBT_DBRP i) 51 := by
  unfold Blk regPart F.CAN_DBT_DBRP Field.key F.GIRTH_MODE_MODE F.GIRTH_MODE_SUBSTATE
  dsimp only
  rw [if_neg (by omega), if_neg (by omega)]
  omega
@[simp] theorem CAN_DBT_TDC_EN_blk (i : Nat) : Blk (F.CAN_DBT_TDC_EN i) 51 := by
  unfold Blk regPart F.CAN_DBT_TDC_EN Field.key F.GIRTH_MODE_MODE F.GIRTH_MODE_SUBSTATE
  dsimp only
  rw [if_neg (by omega), if_neg (by omega)]
  omega
@[simp] theorem CAN_ECNT_REC_blk (i : Nat) : Blk (F.CAN_ECNT_REC i) 51 := by
  unfold Blk regPart F.CAN_ECNT_REC Field.key F.GIRTH_MODE_MODE F.GIRTH_MODE_SUBSTATE
  dsimp only
  rw [if_neg (by omega), if_neg (by omega)]
  omega
@[simp] theorem CAN_ECNT_TEC_blk (i : Nat) : Blk (F.CAN_ECNT_TEC i) 51 := by
  unfold Blk regPart F.CAN_ECNT_TEC Field.key F.GIRTH_MODE_MODE F.GIRTH_MODE_SUBSTATE
  dsimp only
  rw [if_neg (by omega), if_neg (by omega)]
  omega
@[simp] theorem CAN_ERRCNT_BOFF_CNT_blk (i : Nat) : Blk (F.CAN_ERRCNT_BOFF_CNT i) 51 := by
  unfold Blk regPart F.CAN_ERRCNT_BOFF_CNT Field.key F.GIRTH_MODE_MODE F.GIRTH_MODE_SUBSTATE
  dsimp only
  rw [if_neg (by omega), if_neg (by omega)]
  omega
@[simp] theorem CAN_ERRCNT_ERR_FRAMES_blk (i : Nat) : Blk (F.CAN_ERRCNT_ERR_FRAMES i) 51 := by
  unfold Blk regPart F.CAN_ERRCNT_ERR_FRAMES Field.key F.GIRTH_MODE_MODE F.GIRTH_MODE_SUBSTATE
  dsimp only
  rw [if_neg (by omega), if_neg (by omega)]
  omega
@[simp] theorem CAN_FE_CFG_QUEUE_blk (i e : Nat) : Blk (F.CAN_FE_CFG_QUEUE i e) 51 := by
  unfold Blk regPart F.CAN_FE_CFG_QUEUE Field.key F.GIRTH_MODE_MODE F.GIRTH_MODE_SUBSTATE
  dsimp only
  rw [if_neg (by omega), if_neg (by omega)]
  omega
@[simp] theorem CAN_FE_CFG_REJECT_blk (i e : Nat) : Blk (F.CAN_FE_CFG_REJECT i e) 51 := by
  unfold Blk regPart F.CAN_FE_CFG_REJECT Field.key F.GIRTH_MODE_MODE F.GIRTH_MODE_SUBSTATE
  dsimp only
  rw [if_neg (by omega), if_neg (by omega)]
  omega
@[simp] theorem CAN_FE_HITS_HITS_blk (i e : Nat) : Blk (F.CAN_FE_HITS_HITS i e) 51 := by
  unfold Blk regPart F.CAN_FE_HITS_HITS Field.key F.GIRTH_MODE_MODE F.GIRTH_MODE_SUBSTATE
  dsimp only
  rw [if_neg (by omega), if_neg (by omega)]
  omega
@[simp] theorem CAN_FE_ID_EN_blk (i e : Nat) : Blk (F.CAN_FE_ID_EN i e) 51 := by
  unfold Blk regPart F.CAN_FE_ID_EN Field.key F.GIRTH_MODE_MODE F.GIRTH_MODE_SUBSTATE
  dsimp only
  rw [if_neg (by omega), if_neg (by omega)]
  omega
@[simp] theorem CAN_FLT_ACK_blk (i : Nat) : Blk (F.CAN_FLT_ACK i) 51 := by
  unfold Blk regPart F.CAN_FLT_ACK Field.key F.GIRTH_MODE_MODE F.GIRTH_MODE_SUBSTATE
  dsimp only
  rw [if_neg (by omega), if_neg (by omega)]
  omega
@[simp] theorem CAN_FLT_BIT0_blk (i : Nat) : Blk (F.CAN_FLT_BIT0 i) 51 := by
  unfold Blk regPart F.CAN_FLT_BIT0 Field.key F.GIRTH_MODE_MODE F.GIRTH_MODE_SUBSTATE
  dsimp only
  rw [if_neg (by omega), if_neg (by omega)]
  omega
@[simp] theorem CAN_FLT_BIT1_blk (i : Nat) : Blk (F.CAN_FLT_BIT1 i) 51 := by
  unfold Blk regPart F.CAN_FLT_BIT1 Field.key F.GIRTH_MODE_MODE F.GIRTH_MODE_SUBSTATE
  dsimp only
  rw [if_neg (by omega), if_neg (by omega)]
  omega
@[simp] theorem CAN_FLT_BOFF_blk (i : Nat) : Blk (F.CAN_FLT_BOFF i) 51 := by
  unfold Blk regPart F.CAN_FLT_BOFF Field.key F.GIRTH_MODE_MODE F.GIRTH_MODE_SUBSTATE
  dsimp only
  rw [if_neg (by omega), if_neg (by omega)]
  omega
@[simp] theorem CAN_FLT_BUS_DOM_SEEN_blk (i : Nat) : Blk (F.CAN_FLT_BUS_DOM_SEEN i) 51 := by
  unfold Blk regPart F.CAN_FLT_BUS_DOM_SEEN Field.key F.GIRTH_MODE_MODE F.GIRTH_MODE_SUBSTATE
  dsimp only
  rw [if_neg (by omega), if_neg (by omega)]
  omega
@[simp] theorem CAN_FLT_CRC_blk (i : Nat) : Blk (F.CAN_FLT_CRC i) 51 := by
  unfold Blk regPart F.CAN_FLT_CRC Field.key F.GIRTH_MODE_MODE F.GIRTH_MODE_SUBSTATE
  dsimp only
  rw [if_neg (by omega), if_neg (by omega)]
  omega
@[simp] theorem CAN_FLT_DOM_TMO_blk (i : Nat) : Blk (F.CAN_FLT_DOM_TMO i) 51 := by
  unfold Blk regPart F.CAN_FLT_DOM_TMO Field.key F.GIRTH_MODE_MODE F.GIRTH_MODE_SUBSTATE
  dsimp only
  rw [if_neg (by omega), if_neg (by omega)]
  omega
@[simp] theorem CAN_FLT_EPASS_blk (i : Nat) : Blk (F.CAN_FLT_EPASS i) 51 := by
  unfold Blk regPart F.CAN_FLT_EPASS Field.key F.GIRTH_MODE_MODE F.GIRTH_MODE_SUBSTATE
  dsimp only
  rw [if_neg (by omega), if_neg (by omega)]
  omega
@[simp] theorem CAN_FLT_FORM_blk (i : Nat) : Blk (F.CAN_FLT_FORM i) 51 := by
  unfold Blk regPart F.CAN_FLT_FORM Field.key F.GIRTH_MODE_MODE F.GIRTH_MODE_SUBSTATE
  dsimp only
  rw [if_neg (by omega), if_neg (by omega)]
  omega
@[simp] theorem CAN_FLT_PXE_SEEN_blk (i : Nat) : Blk (F.CAN_FLT_PXE_SEEN i) 51 := by
  unfold Blk regPart F.CAN_FLT_PXE_SEEN Field.key F.GIRTH_MODE_MODE F.GIRTH_MODE_SUBSTATE
  dsimp only
  rw [if_neg (by omega), if_neg (by omega)]
  omega
@[simp] theorem CAN_FLT_RXOVR_blk (i : Nat) : Blk (F.CAN_FLT_RXOVR i) 51 := by
  unfold Blk regPart F.CAN_FLT_RXOVR Field.key F.GIRTH_MODE_MODE F.GIRTH_MODE_SUBSTATE
  dsimp only
  rw [if_neg (by omega), if_neg (by omega)]
  omega
@[simp] theorem CAN_FLT_STUFF_blk (i : Nat) : Blk (F.CAN_FLT_STUFF i) 51 := by
  unfold Blk regPart F.CAN_FLT_STUFF Field.key F.GIRTH_MODE_MODE F.GIRTH_MODE_SUBSTATE
  dsimp only
  rw [if_neg (by omega), if_neg (by omega)]
  omega
@[simp] theorem CAN_FLT_TT_MISS_blk (i : Nat) : Blk (F.CAN_FLT_TT_MISS i) 51 := by
  unfold Blk regPart F.CAN_FLT_TT_MISS Field.key F.GIRTH_MODE_MODE F.GIRTH_MODE_SUBSTATE
  dsimp only
  rw [if_neg (by omega), if_neg (by omega)]
  omega
@[simp] theorem CAN_NBT_NBRP_blk (i : Nat) : Blk (F.CAN_NBT_NBRP i) 51 := by
  unfold Blk regPart F.CAN_NBT_NBRP Field.key F.GIRTH_MODE_MODE F.GIRTH_MODE_SUBSTATE
  dsimp only
  rw [if_neg (by omega), if_neg (by omega)]
  omega
@[simp] theorem CAN_PFLT_FBASE_blk (i p : Nat) : Blk (F.CAN_PFLT_FBASE i p) 51 := by
  unfold Blk regPart F.CAN_PFLT_FBASE Field.key F.GIRTH_MODE_MODE F.GIRTH_MODE_SUBSTATE
  dsimp only
  rw [if_neg (by omega), if_neg (by omega)]
  omega
@[simp] theorem CAN_PFLT_FCOUNT_blk (i p : Nat) : Blk (F.CAN_PFLT_FCOUNT i p) 51 := by
  unfold Blk regPart F.CAN_PFLT_FCOUNT Field.key F.GIRTH_MODE_MODE F.GIRTH_MODE_SUBSTATE
  dsimp only
  rw [if_neg (by omega), if_neg (by omega)]
  omega
@[simp] theorem CAN_PTX_RECQ_blk (i p : Nat) : Blk (F.CAN_PTX_RECQ i p) 51 := by
  unfold Blk regPart F.CAN_PTX_RECQ Field.key F.GIRTH_MODE_MODE F.GIRTH_MODE_SUBSTATE
  dsimp only
  rw [if_neg (by omega), if_neg (by omega)]
  omega
@[simp] theorem CAN_STAT_BUS_DOM_blk (i : Nat) : Blk (F.CAN_STAT_BUS_DOM i) 51 := by
  unfold Blk regPart F.CAN_STAT_BUS_DOM Field.key F.GIRTH_MODE_MODE F.GIRTH_MODE_SUBSTATE
  dsimp only
  rw [if_neg (by omega), if_neg (by omega)]
  omega
@[simp] theorem CAN_STAT_EWARN_blk (i : Nat) : Blk (F.CAN_STAT_EWARN i) 51 := by
  unfold Blk regPart F.CAN_STAT_EWARN Field.key F.GIRTH_MODE_MODE F.GIRTH_MODE_SUBSTATE
  dsimp only
  rw [if_neg (by omega), if_neg (by omega)]
  omega
@[simp] theorem CAN_STAT_HELD_blk (i : Nat) : Blk (F.CAN_STAT_HELD i) 51 := by
  unfold Blk regPart F.CAN_STAT_HELD Field.key F.GIRTH_MODE_MODE F.GIRTH_MODE_SUBSTATE
  dsimp only
  rw [if_neg (by omega), if_neg (by omega)]
  omega
@[simp] theorem CAN_STAT_PXE_blk (i : Nat) : Blk (F.CAN_STAT_PXE i) 51 := by
  unfold Blk regPart F.CAN_STAT_PXE Field.key F.GIRTH_MODE_MODE F.GIRTH_MODE_SUBSTATE
  dsimp only
  rw [if_neg (by omega), if_neg (by omega)]
  omega
@[simp] theorem CAN_STAT_STATE_blk (i : Nat) : Blk (F.CAN_STAT_STATE i) 51 := by
  unfold Blk regPart F.CAN_STAT_STATE Field.key F.GIRTH_MODE_MODE F.GIRTH_MODE_SUBSTATE
  dsimp only
  rw [if_neg (by omega), if_neg (by omega)]
  omega
@[simp] theorem CAN_STAT_SYNCED_blk (i : Nat) : Blk (F.CAN_STAT_SYNCED i) 51 := by
  unfold Blk regPart F.CAN_STAT_SYNCED Field.key F.GIRTH_MODE_MODE F.GIRTH_MODE_SUBSTATE
  dsimp only
  rw [if_neg (by omega), if_neg (by omega)]
  omega
@[simp] theorem CAN_STAT_XCVR_blk (i : Nat) : Blk (F.CAN_STAT_XCVR i) 51 := by
  unfold Blk regPart F.CAN_STAT_XCVR Field.key F.GIRTH_MODE_MODE F.GIRTH_MODE_SUBSTATE
  dsimp only
  rw [if_neg (by omega), if_neg (by omega)]
  omega
@[simp] theorem CAN_SWK_CFG_EN_blk (i : Nat) : Blk (F.CAN_SWK_CFG_EN i) 51 := by
  unfold Blk regPart F.CAN_SWK_CFG_EN Field.key F.GIRTH_MODE_MODE F.GIRTH_MODE_SUBSTATE
  dsimp only
  rw [if_neg (by omega), if_neg (by omega)]
  omega
@[simp] theorem CAN_SWK_CFG_ERRCNT_blk (i : Nat) : Blk (F.CAN_SWK_CFG_ERRCNT i) 51 := by
  unfold Blk regPart F.CAN_SWK_CFG_ERRCNT Field.key F.GIRTH_MODE_MODE F.GIRTH_MODE_SUBSTATE
  dsimp only
  rw [if_neg (by omega), if_neg (by omega)]
  omega
@[simp] theorem CAN_SWK_CFG_WUP_EN_blk (i : Nat) : Blk (F.CAN_SWK_CFG_WUP_EN i) 51 := by
  unfold Blk regPart F.CAN_SWK_CFG_WUP_EN Field.key F.GIRTH_MODE_MODE F.GIRTH_MODE_SUBSTATE
  dsimp only
  rw [if_neg (by omega), if_neg (by omega)]
  omega
@[simp] theorem CAN_SWK_STAT_ERR_blk (i : Nat) : Blk (F.CAN_SWK_STAT_ERR i) 51 := by
  unfold Blk regPart F.CAN_SWK_STAT_ERR Field.key F.GIRTH_MODE_MODE F.GIRTH_MODE_SUBSTATE
  dsimp only
  rw [if_neg (by omega), if_neg (by omega)]
  omega
@[simp] theorem CAN_SWK_STAT_WOKE_blk (i : Nat) : Blk (F.CAN_SWK_STAT_WOKE i) 51 := by
  unfold Blk regPart F.CAN_SWK_STAT_WOKE Field.key F.GIRTH_MODE_MODE F.GIRTH_MODE_SUBSTATE
  dsimp only
  rw [if_neg (by omega), if_neg (by omega)]
  omega
@[simp] theorem CAN_SWK_STAT_WUF_blk (i : Nat) : Blk (F.CAN_SWK_STAT_WUF i) 51 := by
  unfold Blk regPart F.CAN_SWK_STAT_WUF Field.key F.GIRTH_MODE_MODE F.GIRTH_MODE_SUBSTATE
  dsimp only
  rw [if_neg (by omega), if_neg (by omega)]
  omega
@[simp] theorem CAN_SWK_STAT_WUP_blk (i : Nat) : Blk (F.CAN_SWK_STAT_WUP i) 51 := by
  unfold Blk regPart F.CAN_SWK_STAT_WUP Field.key F.GIRTH_MODE_MODE F.GIRTH_MODE_SUBSTATE
  dsimp only
  rw [if_neg (by omega), if_neg (by omega)]
  omega
@[simp] theorem CAN_SYSQ_QUEUE_blk (i : Nat) : Blk (F.CAN_SYSQ_QUEUE i) 51 := by
  unfold Blk regPart F.CAN_SYSQ_QUEUE Field.key F.GIRTH_MODE_MODE F.GIRTH_MODE_SUBSTATE
  dsimp only
  rw [if_neg (by omega), if_neg (by omega)]
  omega
@[simp] theorem CAN_TDC_TDCF_blk (i : Nat) : Blk (F.CAN_TDC_TDCF i) 51 := by
  unfold Blk regPart F.CAN_TDC_TDCF Field.key F.GIRTH_MODE_MODE F.GIRTH_MODE_SUBSTATE
  dsimp only
  rw [if_neg (by omega), if_neg (by omega)]
  omega
@[simp] theorem CAN_TDC_TDCV_blk (i : Nat) : Blk (F.CAN_TDC_TDCV i) 51 := by
  unfold Blk regPart F.CAN_TDC_TDCV Field.key F.GIRTH_MODE_MODE F.GIRTH_MODE_SUBSTATE
  dsimp only
  rw [if_neg (by omega), if_neg (by omega)]
  omega
@[simp] theorem CAN_TXB_ANG_ANG_blk (i b : Nat) : Blk (F.CAN_TXB_ANG_ANG i b) 51 := by
  unfold Blk regPart F.CAN_TXB_ANG_ANG Field.key F.GIRTH_MODE_MODE F.GIRTH_MODE_SUBSTATE
  dsimp only
  rw [if_neg (by omega), if_neg (by omega)]
  omega
@[simp] theorem CAN_TXB_CTL_BRS_blk (i b : Nat) : Blk (F.CAN_TXB_CTL_BRS i b) 51 := by
  unfold Blk regPart F.CAN_TXB_CTL_BRS Field.key F.GIRTH_MODE_MODE F.GIRTH_MODE_SUBSTATE
  dsimp only
  rw [if_neg (by omega), if_neg (by omega)]
  omega
@[simp] theorem CAN_TXB_CTL_DLC_blk (i b : Nat) : Blk (F.CAN_TXB_CTL_DLC i b) 51 := by
  unfold Blk regPart F.CAN_TXB_CTL_DLC Field.key F.GIRTH_MODE_MODE F.GIRTH_MODE_SUBSTATE
  dsimp only
  rw [if_neg (by omega), if_neg (by omega)]
  omega
@[simp] theorem CAN_TXB_CTL_FDF_blk (i b : Nat) : Blk (F.CAN_TXB_CTL_FDF i b) 51 := by
  unfold Blk regPart F.CAN_TXB_CTL_FDF Field.key F.GIRTH_MODE_MODE F.GIRTH_MODE_SUBSTATE
  dsimp only
  rw [if_neg (by omega), if_neg (by omega)]
  omega
@[simp] theorem CAN_TXB_CTL_ONESHOT_blk (i b : Nat) : Blk (F.CAN_TXB_CTL_ONESHOT i b) 51 := by
  unfold Blk regPart F.CAN_TXB_CTL_ONESHOT Field.key F.GIRTH_MODE_MODE F.GIRTH_MODE_SUBSTATE
  dsimp only
  rw [if_neg (by omega), if_neg (by omega)]
  omega
@[simp] theorem CAN_TXB_CTL_REC_blk (i b : Nat) : Blk (F.CAN_TXB_CTL_REC i b) 51 := by
  unfold Blk regPart F.CAN_TXB_CTL_REC Field.key F.GIRTH_MODE_MODE F.GIRTH_MODE_SUBSTATE
  dsimp only
  rw [if_neg (by omega), if_neg (by omega)]
  omega
@[simp] theorem CAN_TXB_CTL_TT_blk (i b : Nat) : Blk (F.CAN_TXB_CTL_TT i b) 51 := by
  unfold Blk regPart F.CAN_TXB_CTL_TT Field.key F.GIRTH_MODE_MODE F.GIRTH_MODE_SUBSTATE
  dsimp only
  rw [if_neg (by omega), if_neg (by omega)]
  omega
@[simp] theorem CAN_TXB_CTL_TT_ABORT_blk (i b : Nat) : Blk (F.CAN_TXB_CTL_TT_ABORT i b) 51 := by
  unfold Blk regPart F.CAN_TXB_CTL_TT_ABORT Field.key F.GIRTH_MODE_MODE F.GIRTH_MODE_SUBSTATE
  dsimp only
  rw [if_neg (by omega), if_neg (by omega)]
  omega
@[simp] theorem CAN_TXB_CYC_CYC_blk (i b : Nat) : Blk (F.CAN_TXB_CYC_CYC i b) 51 := by
  unfold Blk regPart F.CAN_TXB_CYC_CYC Field.key F.GIRTH_MODE_MODE F.GIRTH_MODE_SUBSTATE
  dsimp only
  rw [if_neg (by omega), if_neg (by omega)]
  omega
@[simp] theorem CAN_TXB_DATA_DATA_blk (i b w : Nat) : Blk (F.CAN_TXB_DATA_DATA i b w) 51 := by
  unfold Blk regPart F.CAN_TXB_DATA_DATA Field.key F.GIRTH_MODE_MODE F.GIRTH_MODE_SUBSTATE
  dsimp only
  rw [if_neg (by omega), if_neg (by omega)]
  omega
@[simp] theorem CAN_TXB_ID_ID_blk (i b : Nat) : Blk (F.CAN_TXB_ID_ID i b) 51 := by
  unfold Blk regPart F.CAN_TXB_ID_ID Field.key F.GIRTH_MODE_MODE F.GIRTH_MODE_SUBSTATE
  dsimp only
  rw [if_neg (by omega), if_neg (by omega)]
  omega
@[simp] theorem CAN_TXB_ID_IDE_blk (i b : Nat) : Blk (F.CAN_TXB_ID_IDE i b) 51 := by
  unfold Blk regPart F.CAN_TXB_ID_IDE Field.key F.GIRTH_MODE_MODE F.GIRTH_MODE_SUBSTATE
  dsimp only
  rw [if_neg (by omega), if_neg (by omega)]
  omega
@[simp] theorem CAN_TXB_ID_RTR_blk (i b : Nat) : Blk (F.CAN_TXB_ID_RTR i b) 51 := by
  unfold Blk regPart F.CAN_TXB_ID_RTR Field.key F.GIRTH_MODE_MODE F.GIRTH_MODE_SUBSTATE
  dsimp only
  rw [if_neg (by omega), if_neg (by omega)]
  omega
@[simp] theorem CAN_TXB_NS_NS_blk (i b : Nat) : Blk (F.CAN_TXB_NS_NS i b) 51 := by
  unfold Blk regPart F.CAN_TXB_NS_NS Field.key F.GIRTH_MODE_MODE F.GIRTH_MODE_SUBSTATE
  dsimp only
  rw [if_neg (by omega), if_neg (by omega)]
  omega
@[simp] theorem CAN_TXB_STAT_ATTEMPTS_blk (i b : Nat) : Blk (F.CAN_TXB_STAT_ATTEMPTS i b) 51 := by
  unfold Blk regPart F.CAN_TXB_STAT_ATTEMPTS Field.key F.GIRTH_MODE_MODE F.GIRTH_MODE_SUBSTATE
  dsimp only
  rw [if_neg (by omega), if_neg (by omega)]
  omega
@[simp] theorem CAN_TXB_STAT_ERR_blk (i b : Nat) : Blk (F.CAN_TXB_STAT_ERR i b) 51 := by
  unfold Blk regPart F.CAN_TXB_STAT_ERR Field.key F.GIRTH_MODE_MODE F.GIRTH_MODE_SUBSTATE
  dsimp only
  rw [if_neg (by omega), if_neg (by omega)]
  omega
@[simp] theorem CAN_TXB_STAT_LATE_blk (i b : Nat) : Blk (F.CAN_TXB_STAT_LATE i b) 51 := by
  unfold Blk regPart F.CAN_TXB_STAT_LATE Field.key F.GIRTH_MODE_MODE F.GIRTH_MODE_SUBSTATE
  dsimp only
  rw [if_neg (by omega), if_neg (by omega)]
  omega
@[simp] theorem CAN_TXB_STAT_LOOP_blk (i b : Nat) : Blk (F.CAN_TXB_STAT_LOOP i b) 51 := by
  unfold Blk regPart F.CAN_TXB_STAT_LOOP Field.key F.GIRTH_MODE_MODE F.GIRTH_MODE_SUBSTATE
  dsimp only
  rw [if_neg (by omega), if_neg (by omega)]
  omega
@[simp] theorem CAN_TXB_STAT_LOST_ARB_blk (i b : Nat) : Blk (F.CAN_TXB_STAT_LOST_ARB i b) 51 := by
  unfold Blk regPart F.CAN_TXB_STAT_LOST_ARB Field.key F.GIRTH_MODE_MODE F.GIRTH_MODE_SUBSTATE
  dsimp only
  rw [if_neg (by omega), if_neg (by omega)]
  omega
@[simp] theorem CAN_TXB_STAT_NOT_ARMED_blk (i b : Nat) : Blk (F.CAN_TXB_STAT_NOT_ARMED i b) 51 := by
  unfold Blk regPart F.CAN_TXB_STAT_NOT_ARMED Field.key F.GIRTH_MODE_MODE F.GIRTH_MODE_SUBSTATE
  dsimp only
  rw [if_neg (by omega), if_neg (by omega)]
  omega
@[simp] theorem CAN_TXB_STAT_STATE_blk (i b : Nat) : Blk (F.CAN_TXB_STAT_STATE i b) 51 := by
  unfold Blk regPart F.CAN_TXB_STAT_STATE Field.key F.GIRTH_MODE_MODE F.GIRTH_MODE_SUBSTATE
  dsimp only
  rw [if_neg (by omega), if_neg (by omega)]
  omega
@[simp] theorem CAN_TXB_STAT_TT_MISS_blk (i b : Nat) : Blk (F.CAN_TXB_STAT_TT_MISS i b) 51 := by
  unfold Blk regPart F.CAN_TXB_STAT_TT_MISS Field.key F.GIRTH_MODE_MODE F.GIRTH_MODE_SUBSTATE
  dsimp only
  rw [if_neg (by omega), if_neg (by omega)]
  omega
@[simp] theorem CAN_TXB_S_HI_S_HI_blk (i b : Nat) : Blk (F.CAN_TXB_S_HI_S_HI i b) 51 := by
  unfold Blk regPart F.CAN_TXB_S_HI_S_HI Field.key F.GIRTH_MODE_MODE F.GIRTH_MODE_SUBSTATE
  dsimp only
  rw [if_neg (by omega), if_neg (by omega)]
  omega
@[simp] theorem CAN_TXB_S_LO_S_LO_blk (i b : Nat) : Blk (F.CAN_TXB_S_LO_S_LO i b) 51 := by
  unfold Blk regPart F.CAN_TXB_S_LO_S_LO Field.key F.GIRTH_MODE_MODE F.GIRTH_MODE_SUBSTATE
  dsimp only
  rw [if_neg (by omega), if_neg (by omega)]
  omega
@[simp] theorem CAP_CTL_EN_blk : Blk F.CAP_CTL_EN 44 := rfl
@[simp] theorem CAP_CTL_SIZE_blk : Blk F.CAP_CTL_SIZE 44 := rfl
@[simp] theorem CAP_NSETS_N_blk : Blk F.CAP_NSETS_N 44 := rfl
@[simp] theorem CAP_SET_CNT_SETNO_blk : Blk F.CAP_SET_CNT_SETNO 44 := rfl
@[simp] theorem CAP_STAT_CFG_ERR_blk : Blk F.CAP_STAT_CFG_ERR 44 := rfl
@[simp] theorem CAP_STAT_RUNNING_blk : Blk F.CAP_STAT_RUNNING 44 := rfl
@[simp] theorem CAP_WR_IDX_IDX_blk : Blk F.CAP_WR_IDX_IDX 44 := rfl
@[simp] theorem CLK_FLT_FLT_blk : Blk F.CLK_FLT_FLT 55 := rfl
@[simp] theorem CLK_FLT_RC16_FLT_blk : Blk F.CLK_FLT_RC16_FLT 55 := rfl
@[simp] theorem CLK_STAT_PLL_A_LOCK_blk : Blk F.CLK_STAT_PLL_A_LOCK 55 := rfl
@[simp] theorem CLK_STAT_PLL_C_LOCK_blk : Blk F.CLK_STAT_PLL_C_LOCK 55 := rfl
@[simp] theorem CLK_STAT_PLL_D_LOCK_blk : Blk F.CLK_STAT_PLL_D_LOCK 55 := rfl
@[simp] theorem CLK_STAT_PLL_S_LOCK_blk : Blk F.CLK_STAT_PLL_S_LOCK 55 := rfl
@[simp] theorem CLK_STAT_SERDES_LOCK_blk : Blk F.CLK_STAT_SERDES_LOCK 55 := rfl
@[simp] theorem CLK_STAT_XO_OK_blk : Blk F.CLK_STAT_XO_OK 55 := rfl
@[simp] theorem CLO_CTR_INC_IDX_blk : Blk F.CLO_CTR_INC_IDX 54 := rfl
@[simp] theorem CLO_CTR_VALUE_blk (i : Nat) : Blk (F.CLO_CTR_VALUE i) 54 := by
  unfold Blk regPart F.CLO_CTR_VALUE Field.key F.GIRTH_MODE_MODE F.GIRTH_MODE_SUBSTATE
  dsimp only
  rw [if_neg (by omega), if_neg (by omega)]
  omega
@[simp] theorem CLO_FLT_HELPER_COPY_blk : Blk F.CLO_FLT_HELPER_COPY 54 := rfl
@[simp] theorem CLO_FLT_JOURNAL_blk : Blk F.CLO_FLT_JOURNAL 54 := rfl
@[simp] theorem CLO_FLT_KU_FAIL_blk : Blk F.CLO_FLT_KU_FAIL 54 := rfl
@[simp] theorem CLO_FLT_LCM_REJ_blk : Blk F.CLO_FLT_LCM_REJ 54 := rfl
@[simp] theorem CLO_FLT_ROOT_RETRY_blk : Blk F.CLO_FLT_ROOT_RETRY 54 := rfl
@[simp] theorem CLO_FLT_TOKEN_REJ_blk : Blk F.CLO_FLT_TOKEN_REJ 54 := rfl
@[simp] theorem CLO_ROOT_ERR_ATTEMPTS_blk : Blk F.CLO_ROOT_ERR_ATTEMPTS 54 := rfl
@[simp] theorem CLO_ROOT_ERR_MAXCORR_blk : Blk F.CLO_ROOT_ERR_MAXCORR 54 := rfl
@[simp] theorem CLO_SLOT_LOADED_blk (s : Nat) : Blk (F.CLO_SLOT_LOADED s) 54 := by
  unfold Blk regPart F.CLO_SLOT_LOADED Field.key F.GIRTH_MODE_MODE F.GIRTH_MODE_SUBSTATE
  dsimp only
  rw [if_neg (by omega), if_neg (by omega)]
  omega
@[simp] theorem CLO_SLOT_PLOT_blk (s : Nat) : Blk (F.CLO_SLOT_PLOT s) 54 := by
  unfold Blk regPart F.CLO_SLOT_PLOT Field.key F.GIRTH_MODE_MODE F.GIRTH_MODE_SUBSTATE
  dsimp only
  rw [if_neg (by omega), if_neg (by omega)]
  omega
@[simp] theorem CLO_SLOT_ROLES_blk (s : Nat) : Blk (F.CLO_SLOT_ROLES s) 54 := by
  unfold Blk regPart F.CLO_SLOT_ROLES Field.key F.GIRTH_MODE_MODE F.GIRTH_MODE_SUBSTATE
  dsimp only
  rw [if_neg (by omega), if_neg (by omega)]
  omega
@[simp] theorem CLO_SLOT_TYPE_blk (s : Nat) : Blk (F.CLO_SLOT_TYPE s) 54 := by
  unfold Blk regPart F.CLO_SLOT_TYPE Field.key F.GIRTH_MODE_MODE F.GIRTH_MODE_SUBSTATE
  dsimp only
  rw [if_neg (by omega), if_neg (by omega)]
  omega
@[simp] theorem CLO_SLOT_USES_blk (s : Nat) : Blk (F.CLO_SLOT_USES s) 54 := by
  unfold Blk regPart F.CLO_SLOT_USES Field.key F.GIRTH_MODE_MODE F.GIRTH_MODE_SUBSTATE
  dsimp only
  rw [if_neg (by omega), if_neg (by omega)]
  omega
@[simp] theorem CLO_SLOT_VER_VERSION_blk (s : Nat) : Blk (F.CLO_SLOT_VER_VERSION s) 54 := by
  unfold Blk regPart F.CLO_SLOT_VER_VERSION Field.key F.GIRTH_MODE_MODE F.GIRTH_MODE_SUBSTATE
  dsimp only
  rw [if_neg (by omega), if_neg (by omega)]
  omega
@[simp] theorem CLO_STAT_DBG_PLOTS_blk : Blk F.CLO_STAT_DBG_PLOTS 54 := rfl
@[simp] theorem CLO_STAT_DEBUG_blk : Blk F.CLO_STAT_DEBUG 54 := rfl
@[simp] theorem CLO_STAT_ERASING_blk : Blk F.CLO_STAT_ERASING 54 := rfl
@[simp] theorem CLO_STAT_KEYS_SEALED_blk : Blk F.CLO_STAT_KEYS_SEALED 54 := rfl
@[simp] theorem CLO_STAT_QUAR_blk : Blk F.CLO_STAT_QUAR 54 := rfl
@[simp] theorem CLO_STAT_ROOT_FAIL_blk : Blk F.CLO_STAT_ROOT_FAIL 54 := rfl
@[simp] theorem CLO_STAT_ROOT_OK_blk : Blk F.CLO_STAT_ROOT_OK 54 := rfl
@[simp] theorem CLO_STAT_ROOT_WEAK_blk : Blk F.CLO_STAT_ROOT_WEAK 54 := rfl
@[simp] theorem CLO_TMP_DIO_MASK_blk : Blk F.CLO_TMP_DIO_MASK 54 := rfl
@[simp] theorem CLO_TMP_EN_DIO_blk : Blk F.CLO_TMP_EN_DIO 54 := rfl
@[simp] theorem CLO_TMP_EN_TOKEN_blk : Blk F.CLO_TMP_EN_TOKEN 54 := rfl
@[simp] theorem CLO_TMP_STAT_ACTIVE_blk : Blk F.CLO_TMP_STAT_ACTIVE 54 := rfl
@[simp] theorem CLO_TMP_STAT_ENTRIES_blk : Blk F.CLO_TMP_STAT_ENTRIES 54 := rfl
@[simp] theorem CLO_TMP_STAT_FAILS_blk : Blk F.CLO_TMP_STAT_FAILS 54 := rfl
@[simp] theorem CLO_TMP_STAT_SEEN_blk : Blk F.CLO_TMP_STAT_SEEN 54 := rfl
@[simp] theorem DIO_CFG_DIR_blk (n : Nat) : Blk (F.DIO_CFG_DIR n) 50 := by
  unfold Blk regPart F.DIO_CFG_DIR Field.key F.GIRTH_MODE_MODE F.GIRTH_MODE_SUBSTATE
  dsimp only
  rw [if_neg (by omega), if_neg (by omega)]
  omega
@[simp] theorem DIO_CFG_EDGE_blk (n : Nat) : Blk (F.DIO_CFG_EDGE n) 50 := by
  unfold Blk regPart F.DIO_CFG_EDGE Field.key F.GIRTH_MODE_MODE F.GIRTH_MODE_SUBSTATE
  dsimp only
  rw [if_neg (by omega), if_neg (by omega)]
  omega
@[simp] theorem DIO_CFG_FCL_blk (n : Nat) : Blk (F.DIO_CFG_FCL n) 50 := by
  unfold Blk regPart F.DIO_CFG_FCL Field.key F.GIRTH_MODE_MODE F.GIRTH_MODE_SUBSTATE
  dsimp only
  rw [if_neg (by omega), if_neg (by omega)]
  omega
@[simp] theorem DIO_CFG_FCL_EN_blk (n : Nat) : Blk (F.DIO_CFG_FCL_EN n) 50 := by
  unfold Blk regPart F.DIO_CFG_FCL_EN Field.key F.GIRTH_MODE_MODE F.GIRTH_MODE_SUBSTATE
  dsimp only
  rw [if_neg (by omega), if_neg (by omega)]
  omega
@[simp] theorem DIO_CFG_OL_EN_blk (n : Nat) : Blk (F.DIO_CFG_OL_EN n) 50 := by
  unfold Blk regPart F.DIO_CFG_OL_EN Field.key F.GIRTH_MODE_MODE F.GIRTH_MODE_SUBSTATE
  dsimp only
  rw [if_neg (by omega), if_neg (by omega)]
  omega
@[simp] theorem DIO_CFG_PAR_blk (n : Nat) : Blk (F.DIO_CFG_PAR n) 50 := by
  unfold Blk regPart F.DIO_CFG_PAR Field.key F.GIRTH_MODE_MODE F.GIRTH_MODE_SUBSTATE
  dsimp only
  rw [if_neg (by omega), if_neg (by omega)]
  omega
@[simp] theorem DIO_CFG_RETRY_blk (n : Nat) : Blk (F.DIO_CFG_RETRY n) 50 := by
  unfold Blk regPart F.DIO_CFG_RETRY Field.key F.GIRTH_MODE_MODE F.GIRTH_MODE_SUBSTATE
  dsimp only
  rw [if_neg (by omega), if_neg (by omega)]
  omega
@[simp] theorem DIO_CFG_WAKE_blk (n : Nat) : Blk (F.DIO_CFG_WAKE n) 50 := by
  unfold Blk regPart F.DIO_CFG_WAKE Field.key F.GIRTH_MODE_MODE F.GIRTH_MODE_SUBSTATE
  dsimp only
  rw [if_neg (by omega), if_neg (by omega)]
  omega
@[simp] theorem DIO_CFG_WB_EN_blk (n : Nat) : Blk (F.DIO_CFG_WB_EN n) 50 := by
  unfold Blk regPart F.DIO_CFG_WB_EN Field.key F.GIRTH_MODE_MODE F.GIRTH_MODE_SUBSTATE
  dsimp only
  rw [if_neg (by omega), if_neg (by omega)]
  omega
@[simp] theorem DIO_DEB_DEB_blk (n : Nat) : Blk (F.DIO_DEB_DEB n) 50 := by
  unfold Blk regPart F.DIO_DEB_DEB Field.key F.GIRTH_MODE_MODE F.GIRTH_MODE_SUBSTATE
  dsimp only
  rw [if_neg (by omega), if_neg (by omega)]
  omega
@[simp] theorem DIO_EDGE_ANG_ANG_blk (n : Nat) : Blk (F.DIO_EDGE_ANG_ANG n) 50 := by
  unfold Blk regPart F.DIO_EDGE_ANG_ANG Field.key F.GIRTH_MODE_MODE F.GIRTH_MODE_SUBSTATE
  dsimp only
  rw [if_neg (by omega), if_neg (by omega)]
  omega
@[simp] theorem DIO_EDGE_CYC_CYC_blk (n : Nat) : Blk (F.DIO_EDGE_CYC_CYC n) 50 := by
  unfold Blk regPart F.DIO_EDGE_CYC_CYC Field.key F.GIRTH_MODE_MODE F.GIRTH_MODE_SUBSTATE
  dsimp only
  rw [if_neg (by omega), if_neg (by omega)]
  omega
@[simp] theorem DIO_EDGE_NS_NS_blk (n : Nat) : Blk (F.DIO_EDGE_NS_NS n) 50 := by
  unfold Blk regPart F.DIO_EDGE_NS_NS Field.key F.GIRTH_MODE_MODE F.GIRTH_MODE_SUBSTATE
  dsimp only
  rw [if_neg (by omega), if_neg (by omega)]
  omega
@[simp] theorem DIO_EDGE_NS_RISE_blk (n : Nat) : Blk (F.DIO_EDGE_NS_RISE n) 50 := by
  unfold Blk regPart F.DIO_EDGE_NS_RISE Field.key F.GIRTH_MODE_MODE F.GIRTH_MODE_SUBSTATE
  dsimp only
  rw [if_neg (by omega), if_neg (by omega)]
  omega
@[simp] theorem DIO_EDGE_S_HI_EDGES_blk (n : Nat) : Blk (F.DIO_EDGE_S_HI_EDGES n) 50 := by
  unfold Blk regPart F.DIO_EDGE_S_HI_EDGES Field.key F.GIRTH_MODE_MODE F.GIRTH_MODE_SUBSTATE
  dsimp only
  rw [if_neg (by omega), if_neg (by omega)]
  omega
@[simp] theorem DIO_EDGE_S_HI_S_HI_blk (n : Nat) : Blk (F.DIO_EDGE_S_HI_S_HI n) 50 := by
  unfold Blk regPart F.DIO_EDGE_S_HI_S_HI Field.key F.GIRTH_MODE_MODE F.GIRTH_MODE_SUBSTATE
  dsimp only
  rw [if_neg (by omega), if_neg (by omega)]
  omega
@[simp] theorem DIO_EDGE_S_LO_S_LO_blk (n : Nat) : Blk (F.DIO_EDGE_S_LO_S_LO n) 50 := by
  unfold Blk regPart F.DIO_EDGE_S_LO_S_LO Field.key F.GIRTH_MODE_MODE F.GIRTH_MODE_SUBSTATE
  dsimp only
  rw [if_neg (by omega), if_neg (by omega)]
  omega
@[simp] theorem DIO_EVQ_QUEUE_blk : Blk F.DIO_EVQ_QUEUE 50 := rfl
@[simp] theorem DIO_FLT_LIMIT_blk (n : Nat) : Blk (F.DIO_FLT_LIMIT n) 50 := by
  unfold Blk regPart F.DIO_FLT_LIMIT Field.key F.GIRTH_MODE_MODE F.GIRTH_MODE_SUBSTATE
  dsimp only
  rw [if_neg (by omega), if_neg (by omega)]
  omega
@[simp] theorem DIO_FLT_MAP_FLT_blk : Blk F.DIO_FLT_MAP_FLT 50 := rfl
@[simp] theorem DIO_FLT_OPEN_ON_blk (n : Nat) : Blk (F.DIO_FLT_OPEN_ON n) 50 := by
  unfold Blk regPart F.DIO_FLT_OPEN_ON Field.key F.GIRTH_MODE_MODE F.GIRTH_MODE_SUBSTATE
  dsimp only
  rw [if_neg (by omega), if_neg (by omega)]
  omega
@[simp] theorem DIO_FLT_OUT_HIGH_blk (n : Nat) : Blk (F.DIO_FLT_OUT_HIGH n) 50 := by
  unfold Blk regPart F.DIO_FLT_OUT_HIGH Field.key F.GIRTH_MODE_MODE F.GIRTH_MODE_SUBSTATE
  dsimp only
  rw [if_neg (by omega), if_neg (by omega)]
  omega
@[simp] theorem DIO_FLT_OUT_LOW_blk (n : Nat) : Blk (F.DIO_FLT_OUT_LOW n) 50 := by
  unfold Blk regPart F.DIO_FLT_OUT_LOW Field.key F.GIRTH_MODE_MODE F.GIRTH_MODE_SUBSTATE
  dsimp only
  rw [if_neg (by omega), if_neg (by omega)]
  omega
@[simp] theorem DIO_FLT_WIRE_BREAK_blk (n : Nat) : Blk (F.DIO_FLT_WIRE_BREAK n) 50 := by
  unfold Blk regPart F.DIO_FLT_WIRE_BREAK Field.key F.GIRTH_MODE_MODE F.GIRTH_MODE_SUBSTATE
  dsimp only
  rw [if_neg (by omega), if_neg (by omega)]
  omega
@[simp] theorem DIO_LEVEL_LEVEL_blk : Blk F.DIO_LEVEL_LEVEL 50 := rfl
@[simp] theorem DIO_MEAS_I_blk (n : Nat) : Blk (F.DIO_MEAS_I n) 50 := by
  unfold Blk regPart F.DIO_MEAS_I Field.key F.GIRTH_MODE_MODE F.GIRTH_MODE_SUBSTATE
  dsimp only
  rw [if_neg (by omega), if_neg (by omega)]
  omega
@[simp] theorem DIO_ON_MAP_ON_blk : Blk F.DIO_ON_MAP_ON 50 := rfl
@[simp] theorem DIO_PLOTQ_EN_blk (p : Nat) : Blk (F.DIO_PLOTQ_EN p) 50 := by
  unfold Blk regPart F.DIO_PLOTQ_EN Field.key F.GIRTH_MODE_MODE F.GIRTH_MODE_SUBSTATE
  dsimp only
  rw [if_neg (by omega), if_neg (by omega)]
  omega
@[simp] theorem DIO_PLOTQ_QUEUE_blk (p : Nat) : Blk (F.DIO_PLOTQ_QUEUE p) 50 := by
  unfold Blk regPart F.DIO_PLOTQ_QUEUE Field.key F.GIRTH_MODE_MODE F.GIRTH_MODE_SUBSTATE
  dsimp only
  rw [if_neg (by omega), if_neg (by omega)]
  omega
@[simp] theorem DIO_REQ_ON_blk (n : Nat) : Blk (F.DIO_REQ_ON n) 50 := by
  unfold Blk regPart F.DIO_REQ_ON Field.key F.GIRTH_MODE_MODE F.GIRTH_MODE_SUBSTATE
  dsimp only
  rw [if_neg (by omega), if_neg (by omega)]
  omega
@[simp] theorem DIO_STAT_FCL_DRIVEN_blk (n : Nat) : Blk (F.DIO_STAT_FCL_DRIVEN n) 50 := by
  unfold Blk regPart F.DIO_STAT_FCL_DRIVEN Field.key F.GIRTH_MODE_MODE F.GIRTH_MODE_SUBSTATE
  dsimp only
  rw [if_neg (by omega), if_neg (by omega)]
  omega
@[simp] theorem DIO_STAT_LEVEL_blk (n : Nat) : Blk (F.DIO_STAT_LEVEL n) 50 := by
  unfold Blk regPart F.DIO_STAT_LEVEL Field.key F.GIRTH_MODE_MODE F.GIRTH_MODE_SUBSTATE
  dsimp only
  rw [if_neg (by omega), if_neg (by omega)]
  omega
@[simp] theorem DIO_STAT_LIMITING_blk (n : Nat) : Blk (F.DIO_STAT_LIMITING n) 50 := by
  unfold Blk regPart F.DIO_STAT_LIMITING Field.key F.GIRTH_MODE_MODE F.GIRTH_MODE_SUBSTATE
  dsimp only
  rw [if_neg (by omega), if_neg (by omega)]
  omega
@[simp] theorem DIO_STAT_MEMBER_blk (n : Nat) : Blk (F.DIO_STAT_MEMBER n) 50 := by
  unfold Blk regPart F.DIO_STAT_MEMBER Field.key F.GIRTH_MODE_MODE F.GIRTH_MODE_SUBSTATE
  dsimp only
  rw [if_neg (by omega), if_neg (by omega)]
  omega
@[simp] theorem DIO_STAT_RAW_blk (n : Nat) : Blk (F.DIO_STAT_RAW n) 50 := by
  unfold Blk regPart F.DIO_STAT_RAW Field.key F.GIRTH_MODE_MODE F.GIRTH_MODE_SUBSTATE
  dsimp only
  rw [if_neg (by omega), if_neg (by omega)]
  omega
@[simp] theorem DIO_STAT_RETRIES_blk (n : Nat) : Blk (F.DIO_STAT_RETRIES n) 50 := by
  unfold Blk regPart F.DIO_STAT_RETRIES Field.key F.GIRTH_MODE_MODE F.GIRTH_MODE_SUBSTATE
  dsimp only
  rw [if_neg (by omega), if_neg (by omega)]
  omega
@[simp] theorem DIO_STAT_STATE_blk (n : Nat) : Blk (F.DIO_STAT_STATE n) 50 := by
  unfold Blk regPart F.DIO_STAT_STATE Field.key F.GIRTH_MODE_MODE F.GIRTH_MODE_SUBSTATE
  dsimp only
  rw [if_neg (by omega), if_neg (by omega)]
  omega
@[simp] theorem DIO_SVC_CH_blk : Blk F.DIO_SVC_CH 50 := rfl
@[simp] theorem DORM_DIO_PAT_PAT_blk : Blk F.DORM_DIO_PAT_PAT 55 := rfl
@[simp] theorem DORM_LS_PAT_PAT_blk : Blk F.DORM_LS_PAT_PAT 55 := rfl
@[simp] theorem DORM_TIMER_SECONDS_blk : Blk F.DORM_TIMER_SECONDS 55 := rfl
@[simp] theorem ENERGY_HI_E_HI_blk (b : Nat) : Blk (F.ENERGY_HI_E_HI b) 55 := by
  unfold Blk regPart F.ENERGY_HI_E_HI Field.key F.GIRTH_MODE_MODE F.GIRTH_MODE_SUBSTATE
  dsimp only
  rw [if_neg (by omega), if_neg (by omega)]
  omega
@[simp] theorem ENERGY_LO_E_LO_blk (b : Nat) : Blk (F.ENERGY_LO_E_LO b) 55 := by
  unfold Blk regPart F.ENERGY_LO_E_LO Field.key F.GIRTH_MODE_MODE F.GIRTH_MODE_SUBSTATE
  dsimp only
  rw [if_neg (by omega), if_neg (by omega)]
  omega
@[simp] theorem ETH_CTL_EN_blk (p : Nat) : Blk (F.ETH_CTL_EN p) 56 := by
  unfold Blk regPart F.ETH_CTL_EN Field.key F.GIRTH_MODE_MODE F.GIRTH_MODE_SUBSTATE
  dsimp only
  rw [if_neg (by omega), if_neg (by omega)]
  omega
@[simp] theorem ETH_CTL_LATE_DROP_blk (p : Nat) : Blk (F.ETH_CTL_LATE_DROP p) 56 := by
  unfold Blk regPart F.ETH_CTL_LATE_DROP Field.key F.GIRTH_MODE_MODE F.GIRTH_MODE_SUBSTATE
  dsimp only
  rw [if_neg (by omega), if_neg (by omega)]
  omega
@[simp] theorem ETH_CTL_RX_TS_ALL_blk (p : Nat) : Blk (F.ETH_CTL_RX_TS_ALL p) 56 := by
  unfold Blk regPart F.ETH_CTL_RX_TS_ALL Field.key F.GIRTH_MODE_MODE F.GIRTH_MODE_SUBSTATE
  dsimp only
  rw [if_neg (by omega), if_neg (by omega)]
  omega
@[simp] theorem ETH_LAUNCH_MAX_MAX_blk (p : Nat) : Blk (F.ETH_LAUNCH_MAX_MAX p) 56 := by
  unfold Blk regPart F.ETH_LAUNCH_MAX_MAX Field.key F.GIRTH_MODE_MODE F.GIRTH_MODE_SUBSTATE
  dsimp only
  rw [if_neg (by omega), if_neg (by omega)]
  omega
@[simp] theorem ETH_MAC_HI_MAC_HI_blk (p : Nat) : Blk (F.ETH_MAC_HI_MAC_HI p) 56 := by
  unfold Blk regPart F.ETH_MAC_HI_MAC_HI Field.key F.GIRTH_MODE_MODE F.GIRTH_MODE_SUBSTATE
  dsimp only
  rw [if_neg (by omega), if_neg (by omega)]
  omega
@[simp] theorem ETH_MAC_LO_MAC_LO_blk (p : Nat) : Blk (F.ETH_MAC_LO_MAC_LO p) 56 := by
  unfold Blk regPart F.ETH_MAC_LO_MAC_LO Field.key F.GIRTH_MODE_MODE F.GIRTH_MODE_SUBSTATE
  dsimp only
  rw [if_neg (by omega), if_neg (by omega)]
  omega
@[simp] theorem ETH_QUEUES_RXQ_blk (p : Nat) : Blk (F.ETH_QUEUES_RXQ p) 56 := by
  unfold Blk regPart F.ETH_QUEUES_RXQ Field.key F.GIRTH_MODE_MODE F.GIRTH_MODE_SUBSTATE
  dsimp only
  rw [if_neg (by omega), if_neg (by omega)]
  omega
@[simp] theorem ETH_QUEUES_TXQ_blk (p : Nat) : Blk (F.ETH_QUEUES_TXQ p) 56 := by
  unfold Blk regPart F.ETH_QUEUES_TXQ Field.key F.GIRTH_MODE_MODE F.GIRTH_MODE_SUBSTATE
  dsimp only
  rw [if_neg (by omega), if_neg (by omega)]
  omega
@[simp] theorem ETH_STAT_LINK_blk (p : Nat) : Blk (F.ETH_STAT_LINK p) 56 := by
  unfold Blk regPart F.ETH_STAT_LINK Field.key F.GIRTH_MODE_MODE F.GIRTH_MODE_SUBSTATE
  dsimp only
  rw [if_neg (by omega), if_neg (by omega)]
  omega
@[simp] theorem ETH_TS_STAT_DROP_CNT_blk (p : Nat) : Blk (F.ETH_TS_STAT_DROP_CNT p) 56 := by
  unfold Blk regPart F.ETH_TS_STAT_DROP_CNT Field.key F.GIRTH_MODE_MODE F.GIRTH_MODE_SUBSTATE
  dsimp only
  rw [if_neg (by omega), if_neg (by omega)]
  omega
@[simp] theorem ETH_TS_STAT_LATE_CNT_blk (p : Nat) : Blk (F.ETH_TS_STAT_LATE_CNT p) 56 := by
  unfold Blk regPart F.ETH_TS_STAT_LATE_CNT Field.key F.GIRTH_MODE_MODE F.GIRTH_MODE_SUBSTATE
  dsimp only
  rw [if_neg (by omega), if_neg (by omega)]
  omega
@[simp] theorem ETH_TS_STAT_TXTS_LOST_blk (p : Nat) : Blk (F.ETH_TS_STAT_TXTS_LOST p) 56 := by
  unfold Blk regPart F.ETH_TS_STAT_TXTS_LOST Field.key F.GIRTH_MODE_MODE F.GIRTH_MODE_SUBSTATE
  dsimp only
  rw [if_neg (by omega), if_neg (by omega)]
  omega
@[simp] theorem ETH_TXTS_HI_SUB_blk (p : Nat) : Blk (F.ETH_TXTS_HI_SUB p) 56 := by
  unfold Blk regPart F.ETH_TXTS_HI_SUB Field.key F.GIRTH_MODE_MODE F.GIRTH_MODE_SUBSTATE
  dsimp only
  rw [if_neg (by omega), if_neg (by omega)]
  omega
@[simp] theorem ETH_TXTS_HI_S_HI_blk (p : Nat) : Blk (F.ETH_TXTS_HI_S_HI p) 56 := by
  unfold Blk regPart F.ETH_TXTS_HI_S_HI Field.key F.GIRTH_MODE_MODE F.GIRTH_MODE_SUBSTATE
  dsimp only
  rw [if_neg (by omega), if_neg (by omega)]
  omega
@[simp] theorem ETH_TXTS_HI_TAG_blk (p : Nat) : Blk (F.ETH_TXTS_HI_TAG p) 56 := by
  unfold Blk regPart F.ETH_TXTS_HI_TAG Field.key F.GIRTH_MODE_MODE F.GIRTH_MODE_SUBSTATE
  dsimp only
  rw [if_neg (by omega), if_neg (by omega)]
  omega
@[simp] theorem ETH_TXTS_NS_NS_blk (p : Nat) : Blk (F.ETH_TXTS_NS_NS p) 56 := by
  unfold Blk regPart F.ETH_TXTS_NS_NS Field.key F.GIRTH_MODE_MODE F.GIRTH_MODE_SUBSTATE
  dsimp only
  rw [if_neg (by omega), if_neg (by omega)]
  omega
@[simp] theorem ETH_TXTS_NS_VALID_blk (p : Nat) : Blk (F.ETH_TXTS_NS_VALID p) 56 := by
  unfold Blk regPart F.ETH_TXTS_NS_VALID Field.key F.GIRTH_MODE_MODE F.GIRTH_MODE_SUBSTATE
  dsimp only
  rw [if_neg (by omega), if_neg (by omega)]
  omega
@[simp] theorem ETH_TXTS_S_LO_S_LO_blk (p : Nat) : Blk (F.ETH_TXTS_S_LO_S_LO p) 56 := by
  unfold Blk regPart F.ETH_TXTS_S_LO_S_LO Field.key F.GIRTH_MODE_MODE F.GIRTH_MODE_SUBSTATE
  dsimp only
  rw [if_neg (by omega), if_neg (by omega)]
  omega
@[simp] theorem FUR_FCL_STAT_LEVEL_blk : Blk F.FUR_FCL_STAT_LEVEL 45 := rfl
@[simp] theorem FUR_FLT_PAR_ERR_blk : Blk F.FUR_FLT_PAR_ERR 45 := rfl
@[simp] theorem FUR_PAR_CNT_CNT_blk : Blk F.FUR_PAR_CNT_CNT 45 := rfl
@[simp] theorem GIRTH_MODE_CAUSE_blk : Blk F.GIRTH_MODE_CAUSE 55 := rfl
@[simp] theorem GIRTH_MODE_PREV_MODE_blk : Blk F.GIRTH_MODE_PREV_MODE 55 := rfl
@[simp] theorem GIRTH_MODE_SUBSTATE_blk : Blk F.GIRTH_MODE_SUBSTATE 60 := rfl
@[simp] theorem GRF_BANK_BUILD_HI_BUILD_HI_blk (b : Nat) : Blk (F.GRF_BANK_BUILD_HI_BUILD_HI b) 58 := by
  unfold Blk regPart F.GRF_BANK_BUILD_HI_BUILD_HI Field.key F.GIRTH_MODE_MODE F.GIRTH_MODE_SUBSTATE
  dsimp only
  rw [if_neg (by omega), if_neg (by omega)]
  omega
@[simp] theorem GRF_BANK_BUILD_LO_BUILD_LO_blk (b : Nat) : Blk (F.GRF_BANK_BUILD_LO_BUILD_LO b) 58 := by
  unfold Blk regPart F.GRF_BANK_BUILD_LO_BUILD_LO Field.key F.GIRTH_MODE_MODE F.GIRTH_MODE_SUBSTATE
  dsimp only
  rw [if_neg (by omega), if_neg (by omega)]
  omega
@[simp] theorem GRF_BANK_FMT_SETFMT_blk (b : Nat) : Blk (F.GRF_BANK_FMT_SETFMT b) 58 := by
  unfold Blk regPart F.GRF_BANK_FMT_SETFMT Field.key F.GIRTH_MODE_MODE F.GIRTH_MODE_SUBSTATE
  dsimp only
  rw [if_neg (by omega), if_neg (by omega)]
  omega
@[simp] theorem GRF_BANK_LEN_LEN_blk (b : Nat) : Blk (F.GRF_BANK_LEN_LEN b) 58 := by
  unfold Blk regPart F.GRF_BANK_LEN_LEN Field.key F.GIRTH_MODE_MODE F.GIRTH_MODE_SUBSTATE
  dsimp only
  rw [if_neg (by omega), if_neg (by omega)]
  omega
@[simp] theorem GRF_BANK_PAGES_PAGES_blk (b : Nat) : Blk (F.GRF_BANK_PAGES_PAGES b) 58 := by
  unfold Blk regPart F.GRF_BANK_PAGES_PAGES Field.key F.GIRTH_MODE_MODE F.GIRTH_MODE_SUBSTATE
  dsimp only
  rw [if_neg (by omega), if_neg (by omega)]
  omega
@[simp] theorem GRF_BANK_SECVER_SEC_VER_blk (b : Nat) : Blk (F.GRF_BANK_SECVER_SEC_VER b) 58 := by
  unfold Blk regPart F.GRF_BANK_SECVER_SEC_VER Field.key F.GIRTH_MODE_MODE F.GIRTH_MODE_SUBSTATE
  dsimp only
  rw [if_neg (by omega), if_neg (by omega)]
  omega
@[simp] theorem GRF_BANK_STATE_blk (b : Nat) : Blk (F.GRF_BANK_STATE b) 58 := by
  unfold Blk regPart F.GRF_BANK_STATE Field.key F.GIRTH_MODE_MODE F.GIRTH_MODE_SUBSTATE
  dsimp only
  rw [if_neg (by omega), if_neg (by omega)]
  omega
@[simp] theorem GRF_FAIL_BANK_blk : Blk F.GRF_FAIL_BANK 58 := rfl
@[simp] theorem GRF_FAIL_STATUS_blk : Blk F.GRF_FAIL_STATUS 58 := rfl
@[simp] theorem GRF_FAIL_STEP_blk : Blk F.GRF_FAIL_STEP 58 := rfl
@[simp] theorem GRF_FLT_BOOT_FALLBACK_blk : Blk F.GRF_FLT_BOOT_FALLBACK 58 := rfl
@[simp] theorem GRF_FLT_ERASE_ERR_blk : Blk F.GRF_FLT_ERASE_ERR 58 := rfl
@[simp] theorem GRF_FLT_PROG_ERR_blk : Blk F.GRF_FLT_PROG_ERR 58 := rfl
@[simp] theorem GRF_FLT_SEL_COPY_blk : Blk F.GRF_FLT_SEL_COPY 58 := rfl
@[simp] theorem GRF_SETFMT_RUNNING_blk : Blk F.GRF_SETFMT_RUNNING 58 := rfl
@[simp] theorem GRF_SETFMT_STORED_blk : Blk F.GRF_SETFMT_STORED 58 := rfl
@[simp] theorem GRF_STAT_BUSY_blk : Blk F.GRF_STAT_BUSY 58 := rfl
@[simp] theorem GRF_STAT_PREF_blk : Blk F.GRF_STAT_PREF 58 := rfl
@[simp] theorem GRF_STAT_RUN_BANK_blk : Blk F.GRF_STAT_RUN_BANK 58 := rfl
@[simp] theorem GRF_STAT_SET_RESET_blk : Blk F.GRF_STAT_SET_RESET 58 := rfl
@[simp] theorem GRF_STAT_TRIAL_blk : Blk F.GRF_STAT_TRIAL 58 := rfl
@[simp] theorem GW_CMD_COMMIT_blk : Blk F.GW_CMD_COMMIT 52 := rfl
@[simp] theorem GW_ERR_INDEX_blk : Blk F.GW_ERR_INDEX 52 := rfl
@[simp] theorem GW_ERR_KIND_blk : Blk F.GW_ERR_KIND 52 := rfl
@[simp] theorem GW_ERR_REASON_blk : Blk F.GW_ERR_REASON 52 := rfl
@[simp] theorem GW_PASS_LO_LO_blk (k r : Nat) : Blk (F.GW_PASS_LO_LO k r) 51 := by
  unfold Blk regPart F.GW_PASS_LO_LO Field.key F.GIRTH_MODE_MODE F.GIRTH_MODE_SUBSTATE
  dsimp only
  rw [if_neg (by omega), if_neg (by omega)]
  omega
@[simp] theorem GW_STAT_ACTIVE_blk : Blk F.GW_STAT_ACTIVE 52 := rfl
@[simp] theorem GW_STAT_PEND_blk : Blk F.GW_STAT_PEND 52 := rfl
@[simp] theorem ID_DIGEST_DATA_blk (w : Nat) : Blk (F.ID_DIGEST_DATA w) 59 := by
  unfold Blk regPart F.ID_DIGEST_DATA Field.key F.GIRTH_MODE_MODE F.GIRTH_MODE_SUBSTATE
  dsimp only
  rw [if_neg (by omega), if_neg (by omega)]
  omega
@[simp] theorem ID_MATCH_MATCH_blk : Blk F.ID_MATCH_MATCH 59 := rfl
@[simp] theorem ID_REC_DATA_blk (w : Nat) : Blk (F.ID_REC_DATA w) 59 := by
  unfold Blk regPart F.ID_REC_DATA Field.key F.GIRTH_MODE_MODE F.GIRTH_MODE_SUBSTATE
  dsimp only
  rw [if_neg (by omega), if_neg (by omega)]
  omega
@[simp] theorem LAT_CTL_EN_blk : Blk F.LAT_CTL_EN 43 := rfl
@[simp] theorem LAT_EVQ_QUEUE_blk : Blk F.LAT_EVQ_QUEUE 43 := rfl
@[simp] theorem LAT_NCNT_CRC_ERR_blk (c n : Nat) : Blk (F.LAT_NCNT_CRC_ERR c n) 43 := by
  unfold Blk regPart F.LAT_NCNT_CRC_ERR Field.key F.GIRTH_MODE_MODE F.GIRTH_MODE_SUBSTATE
  dsimp only
  rw [if_neg (by omega), if_neg (by omega)]
  omega
@[simp] theorem LAT_NCNT_MISS_blk (c n : Nat) : Blk (F.LAT_NCNT_MISS c n) 43 := by
  unfold Blk regPart F.LAT_NCNT_MISS Field.key F.GIRTH_MODE_MODE F.GIRTH_MODE_SUBSTATE
  dsimp only
  rw [if_neg (by omega), if_neg (by omega)]
  omega
@[simp] theorem LAT_NDLY_D_A_blk (c n : Nat) : Blk (F.LAT_NDLY_D_A c n) 43 := by
  unfold Blk regPart F.LAT_NDLY_D_A Field.key F.GIRTH_MODE_MODE F.GIRTH_MODE_SUBSTATE
  dsimp only
  rw [if_neg (by omega), if_neg (by omega)]
  omega
@[simp] theorem LAT_NDLY_D_B_blk (c n : Nat) : Blk (F.LAT_NDLY_D_B c n) 43 := by
  unfold Blk regPart F.LAT_NDLY_D_B Field.key F.GIRTH_MODE_MODE F.GIRTH_MODE_SUBSTATE
  dsimp only
  rw [if_neg (by omega), if_neg (by omega)]
  omega
@[simp] theorem LAT_NSENS_SENSORS_blk (c n : Nat) : Blk (F.LAT_NSENS_SENSORS c n) 43 := by
  unfold Blk regPart F.LAT_NSENS_SENSORS Field.key F.GIRTH_MODE_MODE F.GIRTH_MODE_SUBSTATE
  dsimp only
  rw [if_neg (by omega), if_neg (by omega)]
  omega
@[simp] theorem LAT_NSTAT_CELLS_blk (c n : Nat) : Blk (F.LAT_NSTAT_CELLS c n) 43 := by
  unfold Blk regPart F.LAT_NSTAT_CELLS Field.key F.GIRTH_MODE_MODE F.GIRTH_MODE_SUBSTATE
  dsimp only
  rw [if_neg (by omega), if_neg (by omega)]
  omega
@[simp] theorem LAT_NSTAT_ENUM_blk (c n : Nat) : Blk (F.LAT_NSTAT_ENUM c n) 43 := by
  unfold Blk regPart F.LAT_NSTAT_ENUM Field.key F.GIRTH_MODE_MODE F.GIRTH_MODE_SUBSTATE
  dsimp only
  rw [if_neg (by omega), if_neg (by omega)]
  omega
@[simp] theorem LAT_NSTAT_FAULT_blk (c n : Nat) : Blk (F.LAT_NSTAT_FAULT c n) 43 := by
  unfold Blk regPart F.LAT_NSTAT_FAULT Field.key F.GIRTH_MODE_MODE F.GIRTH_MODE_SUBSTATE
  dsimp only
  rw [if_neg (by omega), if_neg (by omega)]
  omega
@[simp] theorem LAT_NSTAT_UNCAL_D_blk (c n : Nat) : Blk (F.LAT_NSTAT_UNCAL_D c n) 43 := by
  unfold Blk regPart F.LAT_NSTAT_UNCAL_D Field.key F.GIRTH_MODE_MODE F.GIRTH_MODE_SUBSTATE
  dsimp only
  rw [if_neg (by omega), if_neg (by omega)]
  omega
@[simp] theorem LAT_NSTAT_UNCAL_U_blk (c n : Nat) : Blk (F.LAT_NSTAT_UNCAL_U c n) 43 := by
  unfold Blk regPart F.LAT_NSTAT_UNCAL_U Field.key F.GIRTH_MODE_MODE F.GIRTH_MODE_SUBSTATE
  dsimp only
  rw [if_neg (by omega), if_neg (by omega)]
  omega
@[simp] theorem LAT_NSTAT_VIA_A_blk (c n : Nat) : Blk (F.LAT_NSTAT_VIA_A c n) 43 := by
  unfold Blk regPart F.LAT_NSTAT_VIA_A Field.key F.GIRTH_MODE_MODE F.GIRTH_MODE_SUBSTATE
  dsimp only
  rw [if_neg (by omega), if_neg (by omega)]
  omega
@[simp] theorem LAT_NSTAT_VIA_B_blk (c n : Nat) : Blk (F.LAT_NSTAT_VIA_B c n) 43 := by
  unfold Blk regPart F.LAT_NSTAT_VIA_B Field.key F.GIRTH_MODE_MODE F.GIRTH_MODE_SUBSTATE
  dsimp only
  rw [if_neg (by omega), if_neg (by omega)]
  omega
@[simp] theorem LAT_NUID_HI_UID_HI_blk (c n : Nat) : Blk (F.LAT_NUID_HI_UID_HI c n) 43 := by
  unfold Blk regPart F.LAT_NUID_HI_UID_HI Field.key F.GIRTH_MODE_MODE F.GIRTH_MODE_SUBSTATE
  dsimp only
  rw [if_neg (by omega), if_neg (by omega)]
  omega
@[simp] theorem LAT_NUID_LO_UID_LO_blk (c n : Nat) : Blk (F.LAT_NUID_LO_UID_LO c n) 43 := by
  unfold Blk regPart F.LAT_NUID_LO_UID_LO Field.key F.GIRTH_MODE_MODE F.GIRTH_MODE_SUBSTATE
  dsimp only
  rw [if_neg (by omega), if_neg (by omega)]
  omega
@[simp] theorem LAT_RCFG_NODES_blk (c : Nat) : Blk (F.LAT_RCFG_NODES c) 43 := by
  unfold Blk regPart F.LAT_RCFG_NODES Field.key F.GIRTH_MODE_MODE F.GIRTH_MODE_SUBSTATE
  dsimp only
  rw [if_neg (by omega), if_neg (by omega)]
  omega
@[simp] theorem LAT_RCMD_CMD_blk (c : Nat) : Blk (F.LAT_RCMD_CMD c) 43 := by
  unfold Blk regPart F.LAT_RCMD_CMD Field.key F.GIRTH_MODE_MODE F.GIRTH_MODE_SUBSTATE
  dsimp only
  rw [if_neg (by omega), if_neg (by omega)]
  omega
@[simp] theorem LAT_RCNT_CRC_ERR_blk (c : Nat) : Blk (F.LAT_RCNT_CRC_ERR c) 43 := by
  unfold Blk regPart F.LAT_RCNT_CRC_ERR Field.key F.GIRTH_MODE_MODE F.GIRTH_MODE_SUBSTATE
  dsimp only
  rw [if_neg (by omega), if_neg (by omega)]
  omega
@[simp] theorem LAT_RCNT_STALE_SETS_blk (c : Nat) : Blk (F.LAT_RCNT_STALE_SETS c) 43 := by
  unfold Blk regPart F.LAT_RCNT_STALE_SETS Field.key F.GIRTH_MODE_MODE F.GIRTH_MODE_SUBSTATE
  dsimp only
  rw [if_neg (by omega), if_neg (by omega)]
  omega
@[simp] theorem LAT_RFLT_ADDR_CONFLICT_blk (c : Nat) : Blk (F.LAT_RFLT_ADDR_CONFLICT c) 43 := by
  unfold Blk regPart F.LAT_RFLT_ADDR_CONFLICT Field.key F.GIRTH_MODE_MODE F.GIRTH_MODE_SUBSTATE
  dsimp only
  rw [if_neg (by omega), if_neg (by omega)]
  omega
@[simp] theorem LAT_RFLT_BREAK_SEEN_blk (c : Nat) : Blk (F.LAT_RFLT_BREAK_SEEN c) 43 := by
  unfold Blk regPart F.LAT_RFLT_BREAK_SEEN Field.key F.GIRTH_MODE_MODE F.GIRTH_MODE_SUBSTATE
  dsimp only
  rw [if_neg (by omega), if_neg (by omega)]
  omega
@[simp] theorem LAT_RFLT_ENUM_MISMATCH_blk (c : Nat) : Blk (F.LAT_RFLT_ENUM_MISMATCH c) 43 := by
  unfold Blk regPart F.LAT_RFLT_ENUM_MISMATCH Field.key F.GIRTH_MODE_MODE F.GIRTH_MODE_SUBSTATE
  dsimp only
  rw [if_neg (by omega), if_neg (by omega)]
  omega
@[simp] theorem LAT_RFLT_NODE_FAULT_blk (c : Nat) : Blk (F.LAT_RFLT_NODE_FAULT c) 43 := by
  unfold Blk regPart F.LAT_RFLT_NODE_FAULT Field.key F.GIRTH_MODE_MODE F.GIRTH_MODE_SUBSTATE
  dsimp only
  rw [if_neg (by omega), if_neg (by omega)]
  omega
@[simp] theorem LAT_RFLT_PASS_FAIL_blk (c : Nat) : Blk (F.LAT_RFLT_PASS_FAIL c) 43 := by
  unfold Blk regPart F.LAT_RFLT_PASS_FAIL Field.key F.GIRTH_MODE_MODE F.GIRTH_MODE_SUBSTATE
  dsimp only
  rw [if_neg (by omega), if_neg (by omega)]
  omega
@[simp] theorem LAT_RFLT_TIMING_blk (c : Nat) : Blk (F.LAT_RFLT_TIMING c) 43 := by
  unfold Blk regPart F.LAT_RFLT_TIMING Field.key F.GIRTH_MODE_MODE F.GIRTH_MODE_SUBSTATE
  dsimp only
  rw [if_neg (by omega), if_neg (by omega)]
  omega
@[simp] theorem LAT_RFLT_UID_CHANGED_blk (c : Nat) : Blk (F.LAT_RFLT_UID_CHANGED c) 43 := by
  unfold Blk regPart F.LAT_RFLT_UID_CHANGED Field.key F.GIRTH_MODE_MODE F.GIRTH_MODE_SUBSTATE
  dsimp only
  rw [if_neg (by omega), if_neg (by omega)]
  omega
@[simp] theorem LAT_RFLT_UNREACHED_blk (c : Nat) : Blk (F.LAT_RFLT_UNREACHED c) 43 := by
  unfold Blk regPart F.LAT_RFLT_UNREACHED Field.key F.GIRTH_MODE_MODE F.GIRTH_MODE_SUBSTATE
  dsimp only
  rw [if_neg (by omega), if_neg (by omega)]
  omega
@[simp] theorem LAT_RSEQ_SEQ_blk (c : Nat) : Blk (F.LAT_RSEQ_SEQ c) 43 := by
  unfold Blk regPart F.LAT_RSEQ_SEQ Field.key F.GIRTH_MODE_MODE F.GIRTH_MODE_SUBSTATE
  dsimp only
  rw [if_neg (by omega), if_neg (by omega)]
  omega
@[simp] theorem LAT_RSTAT_BREAK_blk (c : Nat) : Blk (F.LAT_RSTAT_BREAK c) 43 := by
  unfold Blk regPart F.LAT_RSTAT_BREAK Field.key F.GIRTH_MODE_MODE F.GIRTH_MODE_SUBSTATE
  dsimp only
  rw [if_neg (by omega), if_neg (by omega)]
  omega
@[simp] theorem LAT_RSTAT_ENUM_BUSY_blk (c : Nat) : Blk (F.LAT_RSTAT_ENUM_BUSY c) 43 := by
  unfold Blk regPart F.LAT_RSTAT_ENUM_BUSY Field.key F.GIRTH_MODE_MODE F.GIRTH_MODE_SUBSTATE
  dsimp only
  rw [if_neg (by omega), if_neg (by omega)]
  omega
@[simp] theorem LAT_RSTAT_ENUM_OK_blk (c : Nat) : Blk (F.LAT_RSTAT_ENUM_OK c) 43 := by
  unfold Blk regPart F.LAT_RSTAT_ENUM_OK Field.key F.GIRTH_MODE_MODE F.GIRTH_MODE_SUBSTATE
  dsimp only
  rw [if_neg (by omega), if_neg (by omega)]
  omega
@[simp] theorem LAT_RSTAT_LINK_A_blk (c : Nat) : Blk (F.LAT_RSTAT_LINK_A c) 43 := by
  unfold Blk regPart F.LAT_RSTAT_LINK_A Field.key F.GIRTH_MODE_MODE F.GIRTH_MODE_SUBSTATE
  dsimp only
  rw [if_neg (by omega), if_neg (by omega)]
  omega
@[simp] theorem LAT_RSTAT_LINK_B_blk (c : Nat) : Blk (F.LAT_RSTAT_LINK_B c) 43 := by
  unfold Blk regPart F.LAT_RSTAT_LINK_B Field.key F.GIRTH_MODE_MODE F.GIRTH_MODE_SUBSTATE
  dsimp only
  rw [if_neg (by omega), if_neg (by omega)]
  omega
@[simp] theorem LAT_RSTAT_MASTER_blk (c : Nat) : Blk (F.LAT_RSTAT_MASTER c) 43 := by
  unfold Blk regPart F.LAT_RSTAT_MASTER Field.key F.GIRTH_MODE_MODE F.GIRTH_MODE_SUBSTATE
  dsimp only
  rw [if_neg (by omega), if_neg (by omega)]
  omega
@[simp] theorem LAT_RSTAT_REACH_A_blk (c : Nat) : Blk (F.LAT_RSTAT_REACH_A c) 43 := by
  unfold Blk regPart F.LAT_RSTAT_REACH_A Field.key F.GIRTH_MODE_MODE F.GIRTH_MODE_SUBSTATE
  dsimp only
  rw [if_neg (by omega), if_neg (by omega)]
  omega
@[simp] theorem LAT_RSTAT_REACH_B_blk (c : Nat) : Blk (F.LAT_RSTAT_REACH_B c) 43 := by
  unfold Blk regPart F.LAT_RSTAT_REACH_B Field.key F.GIRTH_MODE_MODE F.GIRTH_MODE_SUBSTATE
  dsimp only
  rw [if_neg (by omega), if_neg (by omega)]
  omega
@[simp] theorem LAT_RSTAT_TRIG_A_blk (c : Nat) : Blk (F.LAT_RSTAT_TRIG_A c) 43 := by
  unfold Blk regPart F.LAT_RSTAT_TRIG_A Field.key F.GIRTH_MODE_MODE F.GIRTH_MODE_SUBSTATE
  dsimp only
  rw [if_neg (by omega), if_neg (by omega)]
  omega
@[simp] theorem LAT_RSTAT_TRIG_B_blk (c : Nat) : Blk (F.LAT_RSTAT_TRIG_B c) 43 := by
  unfold Blk regPart F.LAT_RSTAT_TRIG_B Field.key F.GIRTH_MODE_MODE F.GIRTH_MODE_SUBSTATE
  dsimp only
  rw [if_neg (by omega), if_neg (by omega)]
  omega
@[simp] theorem LAT_SUM_BREAK_blk : Blk F.LAT_SUM_BREAK 43 := rfl
@[simp] theorem LAT_SUM_TRIG_blk : Blk F.LAT_SUM_TRIG 43 := rfl
@[simp] theorem LC_STAT_ENROLLED_blk : Blk F.LC_STAT_ENROLLED 59 := rfl
@[simp] theorem LC_STAT_FUSES_blk : Blk F.LC_STAT_FUSES 59 := rfl
@[simp] theorem LC_STAT_GEN_blk : Blk F.LC_STAT_GEN 59 := rfl
@[simp] theorem LC_STAT_STATE_blk : Blk F.LC_STAT_STATE 59 := rfl
@[simp] theorem LS_BANK_FLT_HOT_SEEN_blk : Blk F.LS_BANK_FLT_HOT_SEEN 48 := rfl
@[simp] theorem LS_BANK_FLT_WARN_SEEN_blk : Blk F.LS_BANK_FLT_WARN_SEEN 48 := rfl
@[simp] theorem LS_BANK_HOT_blk (b : Nat) : Blk (F.LS_BANK_HOT b) 48 := by
  unfold Blk regPart F.LS_BANK_HOT Field.key F.GIRTH_MODE_MODE F.GIRTH_MODE_SUBSTATE
  dsimp only
  rw [if_neg (by omega), if_neg (by omega)]
  omega
@[simp] theorem LS_BANK_TEMP_blk (b : Nat) : Blk (F.LS_BANK_TEMP b) 48 := by
  unfold Blk regPart F.LS_BANK_TEMP Field.key F.GIRTH_MODE_MODE F.GIRTH_MODE_SUBSTATE
  dsimp only
  rw [if_neg (by omega), if_neg (by omega)]
  omega
@[simp] theorem LS_BANK_WARN_blk (b : Nat) : Blk (F.LS_BANK_WARN b) 48 := by
  unfold Blk regPart F.LS_BANK_WARN Field.key F.GIRTH_MODE_MODE F.GIRTH_MODE_SUBSTATE
  dsimp only
  rw [if_neg (by omega), if_neg (by omega)]
  omega
@[simp] theorem LS_CFG_PAR_blk (n : Nat) : Blk (F.LS_CFG_PAR n) 48 := by
  unfold Blk regPart F.LS_CFG_PAR Field.key F.GIRTH_MODE_MODE F.GIRTH_MODE_SUBSTATE
  dsimp only
  rw [if_neg (by omega), if_neg (by omega)]
  omega
@[simp] theorem LS_CFG_PROFILE_blk (n : Nat) : Blk (F.LS_CFG_PROFILE n) 48 := by
  unfold Blk regPart F.LS_CFG_PROFILE Field.key F.GIRTH_MODE_MODE F.GIRTH_MODE_SUBSTATE
  dsimp only
  rw [if_neg (by omega), if_neg (by omega)]
  omega
@[simp] theorem LS_CFG_SHED_blk (n : Nat) : Blk (F.LS_CFG_SHED n) 48 := by
  unfold Blk regPart F.LS_CFG_SHED Field.key F.GIRTH_MODE_MODE F.GIRTH_MODE_SUBSTATE
  dsimp only
  rw [if_neg (by omega), if_neg (by omega)]
  omega
@[simp] theorem LS_CLAMP_E_blk (n : Nat) : Blk (F.LS_CLAMP_E n) 48 := by
  unfold Blk regPart F.LS_CLAMP_E Field.key F.GIRTH_MODE_MODE F.GIRTH_MODE_SUBSTATE
  dsimp only
  rw [if_neg (by omega), if_neg (by omega)]
  omega
@[simp] theorem LS_CNT_CUT_CNT_blk (n : Nat) : Blk (F.LS_CNT_CUT_CNT n) 48 := by
  unfold Blk regPart F.LS_CNT_CUT_CNT Field.key F.GIRTH_MODE_MODE F.GIRTH_MODE_SUBSTATE
  dsimp only
  rw [if_neg (by omega), if_neg (by omega)]
  omega
@[simp] theorem LS_CNT_ON_CNT_blk (n : Nat) : Blk (F.LS_CNT_ON_CNT n) 48 := by
  unfold Blk regPart F.LS_CNT_ON_CNT Field.key F.GIRTH_MODE_MODE F.GIRTH_MODE_SUBSTATE
  dsimp only
  rw [if_neg (by omega), if_neg (by omega)]
  omega
@[simp] theorem LS_CNT_OPEN_CNT_blk (n : Nat) : Blk (F.LS_CNT_OPEN_CNT n) 48 := by
  unfold Blk regPart F.LS_CNT_OPEN_CNT Field.key F.GIRTH_MODE_MODE F.GIRTH_MODE_SUBSTATE
  dsimp only
  rw [if_neg (by omega), if_neg (by omega)]
  omega
@[simp] theorem LS_EVQ_QUEUE_blk : Blk F.LS_EVQ_QUEUE 48 := rfl
@[simp] theorem LS_EXT_MAP_EXT_blk : Blk F.LS_EXT_MAP_EXT 55 := rfl
@[simp] theorem LS_FEED_IA_blk : Blk F.LS_FEED_IA 48 := rfl
@[simp] theorem LS_FEED_IB_blk : Blk F.LS_FEED_IB 48 := rfl
@[simp] theorem LS_FLT_MAP_FLT_blk : Blk F.LS_FLT_MAP_FLT 48 := rfl
@[simp] theorem LS_FLT_OPEN_OFF_blk (n : Nat) : Blk (F.LS_FLT_OPEN_OFF n) 48 := by
  unfold Blk regPart F.LS_FLT_OPEN_OFF Field.key F.GIRTH_MODE_MODE F.GIRTH_MODE_SUBSTATE
  dsimp only
  rw [if_neg (by omega), if_neg (by omega)]
  omega
@[simp] theorem LS_FLT_OPEN_ON_blk (n : Nat) : Blk (F.LS_FLT_OPEN_ON n) 48 := by
  unfold Blk regPart F.LS_FLT_OPEN_ON Field.key F.GIRTH_MODE_MODE F.GIRTH_MODE_SUBSTATE
  dsimp only
  rw [if_neg (by omega), if_neg (by omega)]
  omega
@[simp] theorem LS_FLT_OUT_HIGH_blk (n : Nat) : Blk (F.LS_FLT_OUT_HIGH n) 48 := by
  unfold Blk regPart F.LS_FLT_OUT_HIGH Field.key F.GIRTH_MODE_MODE F.GIRTH_MODE_SUBSTATE
  dsimp only
  rw [if_neg (by omega), if_neg (by omega)]
  omega
@[simp] theorem LS_FLT_SC_blk (n : Nat) : Blk (F.LS_FLT_SC n) 48 := by
  unfold Blk regPart F.LS_FLT_SC Field.key F.GIRTH_MODE_MODE F.GIRTH_MODE_SUBSTATE
  dsimp only
  rw [if_neg (by omega), if_neg (by omega)]
  omega
@[simp] theorem LS_I2T_USED_blk (n : Nat) : Blk (F.LS_I2T_USED n) 48 := by
  unfold Blk regPart F.LS_I2T_USED Field.key F.GIRTH_MODE_MODE F.GIRTH_MODE_SUBSTATE
  dsimp only
  rw [if_neg (by omega), if_neg (by omega)]
  omega
@[simp] theorem LS_I_I_blk (n : Nat) : Blk (F.LS_I_I n) 48 := by
  unfold Blk regPart F.LS_I_I Field.key F.GIRTH_MODE_MODE F.GIRTH_MODE_SUBSTATE
  dsimp only
  rw [if_neg (by omega), if_neg (by omega)]
  omega
@[simp] theorem LS_I_LOW_blk (n : Nat) : Blk (F.LS_I_LOW n) 48 := by
  unfold Blk regPart F.LS_I_LOW Field.key F.GIRTH_MODE_MODE F.GIRTH_MODE_SUBSTATE
  dsimp only
  rw [if_neg (by omega), if_neg (by omega)]
  omega
@[simp] theorem LS_ON_MAP_ON_blk : Blk F.LS_ON_MAP_ON 48 := rfl
@[simp] theorem LS_PCHK_X_blk : Blk F.LS_PCHK_X 48 := rfl
@[simp] theorem LS_PERR_REASON_blk : Blk F.LS_PERR_REASON 48 := rfl
@[simp] theorem LS_PERR_SEG_blk : Blk F.LS_PERR_SEG 48 := rfl
@[simp] theorem LS_PERR_X_blk : Blk F.LS_PERR_X 48 := rfl
@[simp] theorem LS_PLOTQ_EN_blk (p : Nat) : Blk (F.LS_PLOTQ_EN p) 48 := by
  unfold Blk regPart F.LS_PLOTQ_EN Field.key F.GIRTH_MODE_MODE F.GIRTH_MODE_SUBSTATE
  dsimp only
  rw [if_neg (by omega), if_neg (by omega)]
  omega
@[simp] theorem LS_PLOTQ_QUEUE_blk (p : Nat) : Blk (F.LS_PLOTQ_QUEUE p) 48 := by
  unfold Blk regPart F.LS_PLOTQ_QUEUE Field.key F.GIRTH_MODE_MODE F.GIRTH_MODE_SUBSTATE
  dsimp only
  rw [if_neg (by omega), if_neg (by omega)]
  omega
@[simp] theorem LS_PROF_DATA_blk (x w : Nat) : Blk (F.LS_PROF_DATA x w) 48 := by
  unfold Blk regPart F.LS_PROF_DATA Field.key F.GIRTH_MODE_MODE F.GIRTH_MODE_SUBSTATE
  dsimp only
  rw [if_neg (by omega), if_neg (by omega)]
  omega
@[simp] theorem LS_PROF_OWN_OWNER_blk (k : Nat) : Blk (F.LS_PROF_OWN_OWNER k) 48 := by
  unfold Blk regPart F.LS_PROF_OWN_OWNER Field.key F.GIRTH_MODE_MODE F.GIRTH_MODE_SUBSTATE
  dsimp only
  rw [if_neg (by omega), if_neg (by omega)]
  omega
@[simp] theorem LS_PVALID_VALID_blk : Blk F.LS_PVALID_VALID 48 := rfl
@[simp] theorem LS_REQ_ON_blk (n : Nat) : Blk (F.LS_REQ_ON n) 48 := by
  unfold Blk regPart F.LS_REQ_ON Field.key F.GIRTH_MODE_MODE F.GIRTH_MODE_SUBSTATE
  dsimp only
  rw [if_neg (by omega), if_neg (by omega)]
  omega
@[simp] theorem LS_SHED_CNT_SHED_A_blk : Blk F.LS_SHED_CNT_SHED_A 48 := rfl
@[simp] theorem LS_SHED_CNT_SHED_B_blk : Blk F.LS_SHED_CNT_SHED_B 48 := rfl
@[simp] theorem LS_STAT_EXT_DRIVEN_blk (n : Nat) : Blk (F.LS_STAT_EXT_DRIVEN n) 48 := by
  unfold Blk regPart F.LS_STAT_EXT_DRIVEN Field.key F.GIRTH_MODE_MODE F.GIRTH_MODE_SUBSTATE
  dsimp only
  rw [if_neg (by omega), if_neg (by omega)]
  omega
@[simp] theorem LS_STAT_LIMITING_blk (n : Nat) : Blk (F.LS_STAT_LIMITING n) 48 := by
  unfold Blk regPart F.LS_STAT_LIMITING Field.key F.GIRTH_MODE_MODE F.GIRTH_MODE_SUBSTATE
  dsimp only
  rw [if_neg (by omega), if_neg (by omega)]
  omega
@[simp] theorem LS_STAT_LOW_blk (n : Nat) : Blk (F.LS_STAT_LOW n) 48 := by
  unfold Blk regPart F.LS_STAT_LOW Field.key F.GIRTH_MODE_MODE F.GIRTH_MODE_SUBSTATE
  dsimp only
  rw [if_neg (by omega), if_neg (by omega)]
  omega
@[simp] theorem LS_STAT_MEMBER_blk (n : Nat) : Blk (F.LS_STAT_MEMBER n) 48 := by
  unfold Blk regPart F.LS_STAT_MEMBER Field.key F.GIRTH_MODE_MODE F.GIRTH_MODE_SUBSTATE
  dsimp only
  rw [if_neg (by omega), if_neg (by omega)]
  omega
@[simp] theorem LS_STAT_RETRIES_blk (n : Nat) : Blk (F.LS_STAT_RETRIES n) 48 := by
  unfold Blk regPart F.LS_STAT_RETRIES Field.key F.GIRTH_MODE_MODE F.GIRTH_MODE_SUBSTATE
  dsimp only
  rw [if_neg (by omega), if_neg (by omega)]
  omega
@[simp] theorem LS_STAT_SEG_blk (n : Nat) : Blk (F.LS_STAT_SEG n) 48 := by
  unfold Blk regPart F.LS_STAT_SEG Field.key F.GIRTH_MODE_MODE F.GIRTH_MODE_SUBSTATE
  dsimp only
  rw [if_neg (by omega), if_neg (by omega)]
  omega
@[simp] theorem LS_STAT_SHARED_blk (n : Nat) : Blk (F.LS_STAT_SHARED n) 48 := by
  unfold Blk regPart F.LS_STAT_SHARED Field.key F.GIRTH_MODE_MODE F.GIRTH_MODE_SUBSTATE
  dsimp only
  rw [if_neg (by omega), if_neg (by omega)]
  omega
@[simp] theorem LS_STAT_STATE_blk (n : Nat) : Blk (F.LS_STAT_STATE n) 48 := by
  unfold Blk regPart F.LS_STAT_STATE Field.key F.GIRTH_MODE_MODE F.GIRTH_MODE_SUBSTATE
  dsimp only
  rw [if_neg (by omega), if_neg (by omega)]
  omega
@[simp] theorem LS_STAT_UV_HELD_blk (n : Nat) : Blk (F.LS_STAT_UV_HELD n) 48 := by
  unfold Blk regPart F.LS_STAT_UV_HELD Field.key F.GIRTH_MODE_MODE F.GIRTH_MODE_SUBSTATE
  dsimp only
  rw [if_neg (by omega), if_neg (by omega)]
  omega
@[simp] theorem LS_SVC_CH_blk : Blk F.LS_SVC_CH 48 := rfl
@[simp] theorem LS_TJ_PEAK_blk (n : Nat) : Blk (F.LS_TJ_PEAK n) 48 := by
  unfold Blk regPart F.LS_TJ_PEAK Field.key F.GIRTH_MODE_MODE F.GIRTH_MODE_SUBSTATE
  dsimp only
  rw [if_neg (by omega), if_neg (by omega)]
  omega
@[simp] theorem LS_TJ_TJ_blk (n : Nat) : Blk (F.LS_TJ_TJ n) 48 := by
  unfold Blk regPart F.LS_TJ_TJ Field.key F.GIRTH_MODE_MODE F.GIRTH_MODE_SUBSTATE
  dsimp only
  rw [if_neg (by omega), if_neg (by omega)]
  omega
@[simp] theorem LS_VOUT_VOUT_blk (n : Nat) : Blk (F.LS_VOUT_VOUT n) 48 := by
  unfold Blk regPart F.LS_VOUT_VOUT Field.key F.GIRTH_MODE_MODE F.GIRTH_MODE_SUBSTATE
  dsimp only
  rw [if_neg (by omega), if_neg (by omega)]
  omega
@[simp] theorem MODE_REQ_BOOT_SERVICE_blk : Blk F.MODE_REQ_BOOT_SERVICE 55 := rfl
@[simp] theorem MOD_POWER_P_blk : Blk F.MOD_POWER_P 55 := rfl
@[simp] theorem MSR_CTL_EN_blk : Blk F.MSR_CTL_EN 44 := rfl
@[simp] theorem MSR_DEC_I_I_blk (m : Nat) : Blk (F.MSR_DEC_I_I m) 44 := by
  unfold Blk regPart F.MSR_DEC_I_I Field.key F.GIRTH_MODE_MODE F.GIRTH_MODE_SUBSTATE
  dsimp only
  rw [if_neg (by omega), if_neg (by omega)]
  omega
@[simp] theorem MSR_DEC_V_V_blk (m : Nat) : Blk (F.MSR_DEC_V_V m) 44 := by
  unfold Blk regPart F.MSR_DEC_V_V Field.key F.GIRTH_MODE_MODE F.GIRTH_MODE_SUBSTATE
  dsimp only
  rw [if_neg (by omega), if_neg (by omega)]
  omega
@[simp] theorem MSR_DLY_D_blk (m : Nat) : Blk (F.MSR_DLY_D m) 44 := by
  unfold Blk regPart F.MSR_DLY_D Field.key F.GIRTH_MODE_MODE F.GIRTH_MODE_SUBSTATE
  dsimp only
  rw [if_neg (by omega), if_neg (by omega)]
  omega
@[simp] theorem MSR_LAST_I_I_blk (m : Nat) : Blk (F.MSR_LAST_I_I m) 44 := by
  unfold Blk regPart F.MSR_LAST_I_I Field.key F.GIRTH_MODE_MODE F.GIRTH_MODE_SUBSTATE
  dsimp only
  rw [if_neg (by omega), if_neg (by omega)]
  omega
@[simp] theorem MSR_LAST_V_V_blk (m : Nat) : Blk (F.MSR_LAST_V_V m) 44 := by
  unfold Blk regPart F.MSR_LAST_V_V Field.key F.GIRTH_MODE_MODE F.GIRTH_MODE_SUBSTATE
  dsimp only
  rw [if_neg (by omega), if_neg (by omega)]
  omega
@[simp] theorem MSR_LCFG_INV_blk (m : Nat) : Blk (F.MSR_LCFG_INV m) 44 := by
  unfold Blk regPart F.MSR_LCFG_INV Field.key F.GIRTH_MODE_MODE F.GIRTH_MODE_SUBSTATE
  dsimp only
  rw [if_neg (by omega), if_neg (by omega)]
  omega
@[simp] theorem MSR_LCNT_CRC_ERR_blk (m : Nat) : Blk (F.MSR_LCNT_CRC_ERR m) 44 := by
  unfold Blk regPart F.MSR_LCNT_CRC_ERR Field.key F.GIRTH_MODE_MODE F.GIRTH_MODE_SUBSTATE
  dsimp only
  rw [if_neg (by omega), if_neg (by omega)]
  omega
@[simp] theorem MSR_LCNT_MISS_blk (m : Nat) : Blk (F.MSR_LCNT_MISS m) 44 := by
  unfold Blk regPart F.MSR_LCNT_MISS Field.key F.GIRTH_MODE_MODE F.GIRTH_MODE_SUBSTATE
  dsimp only
  rw [if_neg (by omega), if_neg (by omega)]
  omega
@[simp] theorem MSR_LFLT_CRC_blk (m : Nat) : Blk (F.MSR_LFLT_CRC m) 44 := by
  unfold Blk regPart F.MSR_LFLT_CRC Field.key F.GIRTH_MODE_MODE F.GIRTH_MODE_SUBSTATE
  dsimp only
  rw [if_neg (by omega), if_neg (by omega)]
  omega
@[simp] theorem MSR_LFLT_FE_FAULT_blk (m : Nat) : Blk (F.MSR_LFLT_FE_FAULT m) 44 := by
  unfold Blk regPart F.MSR_LFLT_FE_FAULT Field.key F.GIRTH_MODE_MODE F.GIRTH_MODE_SUBSTATE
  dsimp only
  rw [if_neg (by omega), if_neg (by omega)]
  omega
@[simp] theorem MSR_LFLT_OVR_blk (m : Nat) : Blk (F.MSR_LFLT_OVR m) 44 := by
  unfold Blk regPart F.MSR_LFLT_OVR Field.key F.GIRTH_MODE_MODE F.GIRTH_MODE_SUBSTATE
  dsimp only
  rw [if_neg (by omega), if_neg (by omega)]
  omega
@[simp] theorem MSR_LFLT_PH_ERR_blk (m : Nat) : Blk (F.MSR_LFLT_PH_ERR m) 44 := by
  unfold Blk regPart F.MSR_LFLT_PH_ERR Field.key F.GIRTH_MODE_MODE F.GIRTH_MODE_SUBSTATE
  dsimp only
  rw [if_neg (by omega), if_neg (by omega)]
  omega
@[simp] theorem MSR_LFLT_TIMING_blk (m : Nat) : Blk (F.MSR_LFLT_TIMING m) 44 := by
  unfold Blk regPart F.MSR_LFLT_TIMING Field.key F.GIRTH_MODE_MODE F.GIRTH_MODE_SUBSTATE
  dsimp only
  rw [if_neg (by omega), if_neg (by omega)]
  omega
@[simp] theorem MSR_LFLT_UID_CHANGED_blk (m : Nat) : Blk (F.MSR_LFLT_UID_CHANGED m) 44 := by
  unfold Blk regPart F.MSR_LFLT_UID_CHANGED Field.key F.GIRTH_MODE_MODE F.GIRTH_MODE_SUBSTATE
  dsimp only
  rw [if_neg (by omega), if_neg (by omega)]
  omega
@[simp] theorem MSR_LSTAT_LINK_blk (m : Nat) : Blk (F.MSR_LSTAT_LINK m) 44 := by
  unfold Blk regPart F.MSR_LSTAT_LINK Field.key F.GIRTH_MODE_MODE F.GIRTH_MODE_SUBSTATE
  dsimp only
  rw [if_neg (by omega), if_neg (by omega)]
  omega
@[simp] theorem MSR_LSTAT_PACER_blk (m : Nat) : Blk (F.MSR_LSTAT_PACER m) 44 := by
  unfold Blk regPart F.MSR_LSTAT_PACER Field.key F.GIRTH_MODE_MODE F.GIRTH_MODE_SUBSTATE
  dsimp only
  rw [if_neg (by omega), if_neg (by omega)]
  omega
@[simp] theorem MSR_LSTAT_UNCAL_blk (m : Nat) : Blk (F.MSR_LSTAT_UNCAL m) 44 := by
  unfold Blk regPart F.MSR_LSTAT_UNCAL Field.key F.GIRTH_MODE_MODE F.GIRTH_MODE_SUBSTATE
  dsimp only
  rw [if_neg (by omega), if_neg (by omega)]
  omega
@[simp] theorem MSR_LSTAT_UNSYNC_blk (m : Nat) : Blk (F.MSR_LSTAT_UNSYNC m) 44 := by
  unfold Blk regPart F.MSR_LSTAT_UNSYNC Field.key F.GIRTH_MODE_MODE F.GIRTH_MODE_SUBSTATE
  dsimp only
  rw [if_neg (by omega), if_neg (by omega)]
  omega
@[simp] theorem MSR_UID_HI_UID_HI_blk (m : Nat) : Blk (F.MSR_UID_HI_UID_HI m) 44 := by
  unfold Blk regPart F.MSR_UID_HI_UID_HI Field.key F.GIRTH_MODE_MODE F.GIRTH_MODE_SUBSTATE
  dsimp only
  rw [if_neg (by omega), if_neg (by omega)]
  omega
@[simp] theorem MSR_UID_LO_UID_LO_blk (m : Nat) : Blk (F.MSR_UID_LO_UID_LO m) 44 := by
  unfold Blk regPart F.MSR_UID_LO_UID_LO Field.key F.GIRTH_MODE_MODE F.GIRTH_MODE_SUBSTATE
  dsimp only
  rw [if_neg (by omega), if_neg (by omega)]
  omega
@[simp] theorem NS_CMD_CMD_blk : Blk F.NS_CMD_CMD 51 := rfl
@[simp] theorem NS_CNT_ABORTS_blk : Blk F.NS_CNT_ABORTS 51 := rfl
@[simp] theorem NS_CNT_COMMITS_blk : Blk F.NS_CNT_COMMITS 51 := rfl
@[simp] theorem NS_CNT_ROUNDS_blk : Blk F.NS_CNT_ROUNDS 51 := rfl
@[simp] theorem NS_CONSENT_CONSENT_blk (p : Nat) : Blk (F.NS_CONSENT_CONSENT p) 51 := by
  unfold Blk regPart F.NS_CONSENT_CONSENT Field.key F.GIRTH_MODE_MODE F.GIRTH_MODE_SUBSTATE
  dsimp only
  rw [if_neg (by omega), if_neg (by omega)]
  omega
@[simp] theorem NS_CTL_CTRL_blk : Blk F.NS_CTL_CTRL 51 := rfl
@[simp] theorem NS_CTL_EN_blk : Blk F.NS_CTL_EN 51 := rfl
@[simp] theorem NS_CTL_INIT_blk : Blk F.NS_CTL_INIT 51 := rfl
@[simp] theorem NS_CTL_NODE_blk : Blk F.NS_CTL_NODE 51 := rfl
@[simp] theorem NS_CTL_WAKE_FWD_blk : Blk F.NS_CTL_WAKE_FWD 51 := rfl
@[simp] theorem NS_CTL_WAKE_ON_ABORT_blk : Blk F.NS_CTL_WAKE_ON_ABORT 51 := rfl
@[simp] theorem NS_FLT_ABORTED_blk : Blk F.NS_FLT_ABORTED 51 := rfl
@[simp] theorem NS_FLT_FRAME_ERR_blk : Blk F.NS_FLT_FRAME_ERR 51 := rfl
@[simp] theorem NS_FLT_GW_ERR_blk : Blk F.NS_FLT_GW_ERR 51 := rfl
@[simp] theorem NS_FLT_MISMATCH_blk : Blk F.NS_FLT_MISMATCH 51 := rfl
@[simp] theorem NS_FLT_NO_WAKE_blk : Blk F.NS_FLT_NO_WAKE 51 := rfl
@[simp] theorem NS_FLT_PARTNER_blk : Blk F.NS_FLT_PARTNER 51 := rfl
@[simp] theorem NS_FLT_ROUND_TMO_blk : Blk F.NS_FLT_ROUND_TMO 51 := rfl
@[simp] theorem NS_ID_BASE_blk : Blk F.NS_ID_BASE 51 := rfl
@[simp] theorem NS_RING_RING_blk : Blk F.NS_RING_RING 51 := rfl
@[simp] theorem NS_STAT_CONSENT_blk : Blk F.NS_STAT_CONSENT 51 := rfl
@[simp] theorem NS_STAT_DRIVING_blk : Blk F.NS_STAT_DRIVING 51 := rfl
@[simp] theorem NS_STAT_LOCAL_blk : Blk F.NS_STAT_LOCAL 51 := rfl
@[simp] theorem NS_STAT_ROUND_blk : Blk F.NS_STAT_ROUND 51 := rfl
@[simp] theorem NS_STAT_STATE_blk : Blk F.NS_STAT_STATE 51 := rfl
@[simp] theorem NS_STAT_WAKE_LOW_blk : Blk F.NS_STAT_WAKE_LOW 51 := rfl
@[simp] theorem NS_TIME2_WAKE_PULSE_blk : Blk F.NS_TIME2_WAKE_PULSE 51 := rfl
@[simp] theorem NS_TIME_CW_blk : Blk F.NS_TIME_CW 51 := rfl
@[simp] theorem NS_TIME_ROUND_TMO_blk : Blk F.NS_TIME_ROUND_TMO 51 := rfl
@[simp] theorem PAIR_GW_CNT_DROP_blk (k : Nat) : Blk (F.PAIR_GW_CNT_DROP k) 51 := by
  unfold Blk regPart F.PAIR_GW_CNT_DROP Field.key F.GIRTH_MODE_MODE F.GIRTH_MODE_SUBSTATE
  dsimp only
  rw [if_neg (by omega), if_neg (by omega)]
  omega
@[simp] theorem PAIR_GW_CNT_FWD_blk (k : Nat) : Blk (F.PAIR_GW_CNT_FWD k) 51 := by
  unfold Blk regPart F.PAIR_GW_CNT_FWD Field.key F.GIRTH_MODE_MODE F.GIRTH_MODE_SUBSTATE
  dsimp only
  rw [if_neg (by omega), if_neg (by omega)]
  omega
@[simp] theorem PAIR_GW_STAT_ACTIVE_blk (k : Nat) : Blk (F.PAIR_GW_STAT_ACTIVE k) 51 := by
  unfold Blk regPart F.PAIR_GW_STAT_ACTIVE Field.key F.GIRTH_MODE_MODE F.GIRTH_MODE_SUBSTATE
  dsimp only
  rw [if_neg (by omega), if_neg (by omega)]
  omega
@[simp] theorem PC_CKPT_BASE_BASE_blk : Blk F.PC_CKPT_BASE_BASE 53 := rfl
@[simp] theorem PC_CKPT_SIZE_SIZE_blk : Blk F.PC_CKPT_SIZE_SIZE 53 := rfl
@[simp] theorem PC_CMD_COMMIT_blk : Blk F.PC_CMD_COMMIT 53 := rfl
@[simp] theorem PC_DIO_OWN_OWNER_blk (k j : Nat) : Blk (F.PC_DIO_OWN_OWNER k j) 53 := by
  unfold Blk regPart F.PC_DIO_OWN_OWNER Field.key F.GIRTH_MODE_MODE F.GIRTH_MODE_SUBSTATE
  dsimp only
  rw [if_neg (by omega), if_neg (by omega)]
  omega
@[simp] theorem PC_EVQ_QUEUE_blk : Blk F.PC_EVQ_QUEUE 53 := rfl
@[simp] theorem PC_GEN_GEN_blk (p : Nat) : Blk (F.PC_GEN_GEN p) 53 := by
  unfold Blk regPart F.PC_GEN_GEN Field.key F.GIRTH_MODE_MODE F.GIRTH_MODE_SUBSTATE
  dsimp only
  rw [if_neg (by omega), if_neg (by omega)]
  omega
@[simp] theorem PC_LS_OWN_OWNER_blk (k j : Nat) : Blk (F.PC_LS_OWN_OWNER k j) 53 := by
  unfold Blk regPart F.PC_LS_OWN_OWNER Field.key F.GIRTH_MODE_MODE F.GIRTH_MODE_SUBSTATE
  dsimp only
  rw [if_neg (by omega), if_neg (by omega)]
  omega
@[simp] theorem PC_MIG_KEY_KEYSLOT_blk : Blk F.PC_MIG_KEY_KEYSLOT 53 := rfl
@[simp] theorem PC_PCMD_CMD_blk (p : Nat) : Blk (F.PC_PCMD_CMD p) 53 := by
  unfold Blk regPart F.PC_PCMD_CMD Field.key F.GIRTH_MODE_MODE F.GIRTH_MODE_SUBSTATE
  dsimp only
  rw [if_neg (by omega), if_neg (by omega)]
  omega
@[simp] theorem PC_PFLT_ACCESS_blk (p : Nat) : Blk (F.PC_PFLT_ACCESS p) 53 := by
  unfold Blk regPart F.PC_PFLT_ACCESS Field.key F.GIRTH_MODE_MODE F.GIRTH_MODE_SUBSTATE
  dsimp only
  rw [if_neg (by omega), if_neg (by omega)]
  omega
@[simp] theorem PC_PFLT_DRAIN_TMO_blk (p : Nat) : Blk (F.PC_PFLT_DRAIN_TMO p) 53 := by
  unfold Blk regPart F.PC_PFLT_DRAIN_TMO Field.key F.GIRTH_MODE_MODE F.GIRTH_MODE_SUBSTATE
  dsimp only
  rw [if_neg (by omega), if_neg (by omega)]
  omega
@[simp] theorem PC_PFLT_MIG_FAIL_blk (p : Nat) : Blk (F.PC_PFLT_MIG_FAIL p) 53 := by
  unfold Blk regPart F.PC_PFLT_MIG_FAIL Field.key F.GIRTH_MODE_MODE F.GIRTH_MODE_SUBSTATE
  dsimp only
  rw [if_neg (by omega), if_neg (by omega)]
  omega
@[simp] theorem PC_PFLT_RESTART_LIMIT_blk (p : Nat) : Blk (F.PC_PFLT_RESTART_LIMIT p) 53 := by
  unfold Blk regPart F.PC_PFLT_RESTART_LIMIT Field.key F.GIRTH_MODE_MODE F.GIRTH_MODE_SUBSTATE
  dsimp only
  rw [if_neg (by omega), if_neg (by omega)]
  omega
@[simp] theorem PC_PFLT_SELF_RESET_blk (p : Nat) : Blk (F.PC_PFLT_SELF_RESET p) 53 := by
  unfold Blk regPart F.PC_PFLT_SELF_RESET Field.key F.GIRTH_MODE_MODE F.GIRTH_MODE_SUBSTATE
  dsimp only
  rw [if_neg (by omega), if_neg (by omega)]
  omega
@[simp] theorem PC_PSTAT_CKPT_VALID_blk (p : Nat) : Blk (F.PC_PSTAT_CKPT_VALID p) 53 := by
  unfold Blk regPart F.PC_PSTAT_CKPT_VALID Field.key F.GIRTH_MODE_MODE F.GIRTH_MODE_SUBSTATE
  dsimp only
  rw [if_neg (by omega), if_neg (by omega)]
  omega
@[simp] theorem PC_PSTAT_HOME_blk (p : Nat) : Blk (F.PC_PSTAT_HOME p) 53 := by
  unfold Blk regPart F.PC_PSTAT_HOME Field.key F.GIRTH_MODE_MODE F.GIRTH_MODE_SUBSTATE
  dsimp only
  rw [if_neg (by omega), if_neg (by omega)]
  omega
@[simp] theorem PC_PSTAT_STATE_blk (p : Nat) : Blk (F.PC_PSTAT_STATE p) 53 := by
  unfold Blk regPart F.PC_PSTAT_STATE Field.key F.GIRTH_MODE_MODE F.GIRTH_MODE_SUBSTATE
  dsimp only
  rw [if_neg (by omega), if_neg (by omega)]
  omega
@[simp] theorem PC_RESTARTS_CNT_blk (p : Nat) : Blk (F.PC_RESTARTS_CNT p) 53 := by
  unfold Blk regPart F.PC_RESTARTS_CNT Field.key F.GIRTH_MODE_MODE F.GIRTH_MODE_SUBSTATE
  dsimp only
  rw [if_neg (by omega), if_neg (by omega)]
  omega
@[simp] theorem PC_STAT_SPAN_MATCH_blk : Blk F.PC_STAT_SPAN_MATCH 53 := rfl
@[simp] theorem PC_STAT_TABLES_OK_blk : Blk F.PC_STAT_TABLES_OK 53 := rfl
@[simp] theorem PC_TERR_PLOT_blk : Blk F.PC_TERR_PLOT 53 := rfl
@[simp] theorem PC_TERR_REASON_blk : Blk F.PC_TERR_REASON 53 := rfl
@[simp] theorem PC_TP_STAT_OWNER_blk (c : Nat) : Blk (F.PC_TP_STAT_OWNER c) 53 := by
  unfold Blk regPart F.PC_TP_STAT_OWNER Field.key F.GIRTH_MODE_MODE F.GIRTH_MODE_SUBSTATE
  dsimp only
  rw [if_neg (by omega), if_neg (by omega)]
  omega
@[simp] theorem PC_TP_STAT_WINDOW_blk (c : Nat) : Blk (F.PC_TP_STAT_WINDOW c) 53 := by
  unfold Blk regPart F.PC_TP_STAT_WINDOW Field.key F.GIRTH_MODE_MODE F.GIRTH_MODE_SUBSTATE
  dsimp only
  rw [if_neg (by omega), if_neg (by omega)]
  omega
@[simp] theorem PC_VIOL_ADDR_HI_ADDR_HI_blk (p : Nat) : Blk (F.PC_VIOL_ADDR_HI_ADDR_HI p) 53 := by
  unfold Blk regPart F.PC_VIOL_ADDR_HI_ADDR_HI Field.key F.GIRTH_MODE_MODE F.GIRTH_MODE_SUBSTATE
  dsimp only
  rw [if_neg (by omega), if_neg (by omega)]
  omega
@[simp] theorem PC_VIOL_ADDR_LO_ADDR_LO_blk (p : Nat) : Blk (F.PC_VIOL_ADDR_LO_ADDR_LO p) 53 := by
  unfold Blk regPart F.PC_VIOL_ADDR_LO_ADDR_LO Field.key F.GIRTH_MODE_MODE F.GIRTH_MODE_SUBSTATE
  dsimp only
  rw [if_neg (by omega), if_neg (by omega)]
  omega
@[simp] theorem PC_VIOL_CNT_blk (p : Nat) : Blk (F.PC_VIOL_CNT p) 53 := by
  unfold Blk regPart F.PC_VIOL_CNT Field.key F.GIRTH_MODE_MODE F.GIRTH_MODE_SUBSTATE
  dsimp only
  rw [if_neg (by omega), if_neg (by omega)]
  omega
@[simp] theorem PC_VIOL_VIOL_LIMIT_blk (p : Nat) : Blk (F.PC_VIOL_VIOL_LIMIT p) 53 := by
  unfold Blk regPart F.PC_VIOL_VIOL_LIMIT Field.key F.GIRTH_MODE_MODE F.GIRTH_MODE_SUBSTATE
  dsimp only
  rw [if_neg (by omega), if_neg (by omega)]
  omega
@[simp] theorem PC_WDOG_KICK_blk (p : Nat) : Blk (F.PC_WDOG_KICK p) 53 := by
  unfold Blk regPart F.PC_WDOG_KICK Field.key F.GIRTH_MODE_MODE F.GIRTH_MODE_SUBSTATE
  dsimp only
  rw [if_neg (by omega), if_neg (by omega)]
  omega
@[simp] theorem POM_BOOT_SPLIT_blk : Blk F.POM_BOOT_SPLIT 47 := rfl
@[simp] theorem POM_CAN_CTRL_blk : Blk F.POM_CAN_CTRL 47 := rfl
@[simp] theorem POM_CAN_ID_blk : Blk F.POM_CAN_ID 47 := rfl
@[simp] theorem POM_EVQ_QUEUE_blk : Blk F.POM_EVQ_QUEUE 47 := rfl
@[simp] theorem POM_FLT_COMP_blk : Blk F.POM_FLT_COMP 47 := rfl
@[simp] theorem POM_FLT_CORE_blk : Blk F.POM_FLT_CORE 47 := rfl
@[simp] theorem POM_FLT_DLY_blk : Blk F.POM_FLT_DLY 47 := rfl
@[simp] theorem POM_FLT_ECC_blk : Blk F.POM_FLT_ECC 47 := rfl
@[simp] theorem POM_FLT_SLS_OC_blk : Blk F.POM_FLT_SLS_OC 47 := rfl
@[simp] theorem POM_FLT_SLS_STUCK_blk : Blk F.POM_FLT_SLS_STUCK 47 := rfl
@[simp] theorem POM_INJ_CNT_PASSES_blk : Blk F.POM_INJ_CNT_PASSES 47 := rfl
@[simp] theorem POM_MB_ARG0_ARG0_blk : Blk F.POM_MB_ARG0_ARG0 47 := rfl
@[simp] theorem POM_MB_ARG1_ARG1_blk : Blk F.POM_MB_ARG1_ARG1 47 := rfl
@[simp] theorem POM_MB_CMD_CMD_blk : Blk F.POM_MB_CMD_CMD 47 := rfl
@[simp] theorem POM_MB_DATA_DATA_blk : Blk F.POM_MB_DATA_DATA 47 := rfl
@[simp] theorem POM_MB_RSP_STATUS_blk : Blk F.POM_MB_RSP_STATUS 47 := rfl
@[simp] theorem POM_STAT_ARM_blk : Blk F.POM_STAT_ARM 47 := rfl
@[simp] theorem POM_STAT_INJ_OK_blk : Blk F.POM_STAT_INJ_OK 47 := rfl
@[simp] theorem POM_STAT_RUN_blk : Blk F.POM_STAT_RUN 47 := rfl
@[simp] theorem POM_STAT_SLS_ON_blk : Blk F.POM_STAT_SLS_ON 47 := rfl
@[simp] theorem POM_STAT_SPLIT_blk : Blk F.POM_STAT_SPLIT 47 := rfl
@[simp] theorem POM_STAT_TRIPPED_blk : Blk F.POM_STAT_TRIPPED 47 := rfl
@[simp] theorem POM_SUSP_CNT_CNT_blk : Blk F.POM_SUSP_CNT_CNT 47 := rfl
@[simp] theorem POM_TRIP_LATCH_blk : Blk F.POM_TRIP_LATCH 47 := rfl
@[simp] theorem POW_CFG_AUX_DIO_blk (e : Nat) : Blk (F.POW_CFG_AUX_DIO e) 41 := by
  unfold Blk regPart F.POW_CFG_AUX_DIO Field.key F.GIRTH_MODE_MODE F.GIRTH_MODE_SUBSTATE
  dsimp only
  rw [if_neg (by omega), if_neg (by omega)]
  omega
@[simp] theorem POW_CFG_AUX_POL_blk (e : Nat) : Blk (F.POW_CFG_AUX_POL e) 41 := by
  unfold Blk regPart F.POW_CFG_AUX_POL Field.key F.GIRTH_MODE_MODE F.GIRTH_MODE_SUBSTATE
  dsimp only
  rw [if_neg (by omega), if_neg (by omega)]
  omega
@[simp] theorem POW_CFG_EN_blk (e : Nat) : Blk (F.POW_CFG_EN e) 41 := by
  unfold Blk regPart F.POW_CFG_EN Field.key F.GIRTH_MODE_MODE F.GIRTH_MODE_SUBSTATE
  dsimp only
  rw [if_neg (by omega), if_neg (by omega)]
  omega
@[simp] theorem POW_CFG_K_blk (e : Nat) : Blk (F.POW_CFG_K e) 41 := by
  unfold Blk regPart F.POW_CFG_K Field.key F.GIRTH_MODE_MODE F.GIRTH_MODE_SUBSTATE
  dsimp only
  rw [if_neg (by omega), if_neg (by omega)]
  omega
@[simp] theorem POW_CFG_LEARN_MIN_blk (e : Nat) : Blk (F.POW_CFG_LEARN_MIN e) 41 := by
  unfold Blk regPart F.POW_CFG_LEARN_MIN Field.key F.GIRTH_MODE_MODE F.GIRTH_MODE_SUBSTATE
  dsimp only
  rw [if_neg (by omega), if_neg (by omega)]
  omega
@[simp] theorem POW_CFG_LS_blk (e : Nat) : Blk (F.POW_CFG_LS e) 41 := by
  unfold Blk regPart F.POW_CFG_LS Field.key F.GIRTH_MODE_MODE F.GIRTH_MODE_SUBSTATE
  dsimp only
  rw [if_neg (by omega), if_neg (by omega)]
  omega
@[simp] theorem POW_CNT_OP_CNT_blk (e : Nat) : Blk (F.POW_CNT_OP_CNT e) 41 := by
  unfold Blk regPart F.POW_CNT_OP_CNT Field.key F.GIRTH_MODE_MODE F.GIRTH_MODE_SUBSTATE
  dsimp only
  rw [if_neg (by omega), if_neg (by omega)]
  omega
@[simp] theorem POW_CNT_REL_CNT_blk (e : Nat) : Blk (F.POW_CNT_REL_CNT e) 41 := by
  unfold Blk regPart F.POW_CNT_REL_CNT Field.key F.GIRTH_MODE_MODE F.GIRTH_MODE_SUBSTATE
  dsimp only
  rw [if_neg (by omega), if_neg (by omega)]
  omega
@[simp] theorem POW_LAST_ERR_ERR_blk (e : Nat) : Blk (F.POW_LAST_ERR_ERR e) 41 := by
  unfold Blk regPart F.POW_LAST_ERR_ERR Field.key F.GIRTH_MODE_MODE F.GIRTH_MODE_SUBSTATE
  dsimp only
  rw [if_neg (by omega), if_neg (by omega)]
  omega
@[simp] theorem POW_OP_OP_blk (e : Nat) : Blk (F.POW_OP_OP e) 41 := by
  unfold Blk regPart F.POW_OP_OP Field.key F.GIRTH_MODE_MODE F.GIRTH_MODE_SUBSTATE
  dsimp only
  rw [if_neg (by omega), if_neg (by omega)]
  omega
@[simp] theorem POW_REJ_REJ_CNT_blk (e : Nat) : Blk (F.POW_REJ_REJ_CNT e) 41 := by
  unfold Blk regPart F.POW_REJ_REJ_CNT Field.key F.GIRTH_MODE_MODE F.GIRTH_MODE_SUBSTATE
  dsimp only
  rw [if_neg (by omega), if_neg (by omega)]
  omega
@[simp] theorem POW_REJ_TMO_CNT_blk (e : Nat) : Blk (F.POW_REJ_TMO_CNT e) 41 := by
  unfold Blk regPart F.POW_REJ_TMO_CNT Field.key F.GIRTH_MODE_MODE F.GIRTH_MODE_SUBSTATE
  dsimp only
  rw [if_neg (by omega), if_neg (by omega)]
  omega
@[simp] theorem POW_REL_REL_blk (e : Nat) : Blk (F.POW_REL_REL e) 41 := by
  unfold Blk regPart F.POW_REL_REL Field.key F.GIRTH_MODE_MODE F.GIRTH_MODE_SUBSTATE
  dsimp only
  rw [if_neg (by omega), if_neg (by omega)]
  omega
@[simp] theorem PT_ADDEND_FRAC_FRAC_blk : Blk F.PT_ADDEND_FRAC_FRAC 42 := rfl
@[simp] theorem PT_ADDEND_INT_INT_blk : Blk F.PT_ADDEND_INT_INT 42 := rfl
@[simp] theorem PT_CANREF_CFG_EN_blk (i : Nat) : Blk (F.PT_CANREF_CFG_EN i) 42 := by
  unfold Blk regPart F.PT_CANREF_CFG_EN Field.key F.GIRTH_MODE_MODE F.GIRTH_MODE_SUBSTATE
  dsimp only
  rw [if_neg (by omega), if_neg (by omega)]
  omega
@[simp] theorem PT_CANREF_CFG_PERIOD_blk (i : Nat) : Blk (F.PT_CANREF_CFG_PERIOD i) 42 := by
  unfold Blk regPart F.PT_CANREF_CFG_PERIOD Field.key F.GIRTH_MODE_MODE F.GIRTH_MODE_SUBSTATE
  dsimp only
  rw [if_neg (by omega), if_neg (by omega)]
  omega
@[simp] theorem PT_CANREF_STAT_MISSED_blk (i : Nat) : Blk (F.PT_CANREF_STAT_MISSED i) 42 := by
  unfold Blk regPart F.PT_CANREF_STAT_MISSED Field.key F.GIRTH_MODE_MODE F.GIRTH_MODE_SUBSTATE
  dsimp only
  rw [if_neg (by omega), if_neg (by omega)]
  omega
@[simp] theorem PT_CANREF_STAT_SEQ_blk (i : Nat) : Blk (F.PT_CANREF_STAT_SEQ i) 42 := by
  unfold Blk regPart F.PT_CANREF_STAT_SEQ Field.key F.GIRTH_MODE_MODE F.GIRTH_MODE_SUBSTATE
  dsimp only
  rw [if_neg (by omega), if_neg (by omega)]
  omega
@[simp] theorem PT_CTL_KI_blk : Blk F.PT_CTL_KI 42 := rfl
@[simp] theorem PT_CTL_KP_blk : Blk F.PT_CTL_KP 42 := rfl
@[simp] theorem PT_CTL_SERVO_EN_blk : Blk F.PT_CTL_SERVO_EN 42 := rfl
@[simp] theorem PT_CTL_STEP_EN_blk : Blk F.PT_CTL_STEP_EN 42 := rfl
@[simp] theorem PT_HO_TMO_TMO_blk : Blk F.PT_HO_TMO_TMO 42 := rfl
@[simp] theorem PT_LAST_STEP_HI_K_HI_blk : Blk F.PT_LAST_STEP_HI_K_HI 42 := rfl
@[simp] theorem PT_LAST_STEP_LO_K_LO_blk : Blk F.PT_LAST_STEP_LO_K_LO 42 := rfl
@[simp] theorem PT_LOCK_THR_THR_blk : Blk F.PT_LOCK_THR_THR 42 := rfl
@[simp] theorem PT_MAX_ADJ_MAX_blk : Blk F.PT_MAX_ADJ_MAX 42 := rfl
@[simp] theorem PT_NOW_NS_NS_blk : Blk F.PT_NOW_NS_NS 42 := rfl
@[simp] theorem PT_NOW_S_HI_S_HI_blk : Blk F.PT_NOW_S_HI_S_HI 42 := rfl
@[simp] theorem PT_NOW_S_LO_S_LO_blk : Blk F.PT_NOW_S_LO_S_LO 42 := rfl
@[simp] theorem PT_OFS_FRAC_FRAC_blk : Blk F.PT_OFS_FRAC_FRAC 42 := rfl
@[simp] theorem PT_OFS_NS_NS_blk : Blk F.PT_OFS_NS_NS 42 := rfl
@[simp] theorem PT_RATE_I_blk : Blk F.PT_RATE_I 42 := rfl
@[simp] theorem PT_SET_CMD_GO_blk : Blk F.PT_SET_CMD_GO 42 := rfl
@[simp] theorem PT_SET_NS_NS_blk : Blk F.PT_SET_NS_NS 42 := rfl
@[simp] theorem PT_SET_S_HI_S_HI_blk : Blk F.PT_SET_S_HI_S_HI 42 := rfl
@[simp] theorem PT_SET_S_LO_S_LO_blk : Blk F.PT_SET_S_LO_S_LO 42 := rfl
@[simp] theorem PT_STAT_SEEDED_blk : Blk F.PT_STAT_SEEDED 42 := rfl
@[simp] theorem PT_STAT_STATE_blk : Blk F.PT_STAT_STATE 42 := rfl
@[simp] theorem PT_STAT_STEPPING_blk : Blk F.PT_STAT_STEPPING 42 := rfl
@[simp] theorem PT_STEP_CNT_CNT_blk : Blk F.PT_STEP_CNT_CNT 42 := rfl
@[simp] theorem PT_STEP_THR_THR_blk : Blk F.PT_STEP_THR_THR 42 := rfl
@[simp] theorem Q_BASE_BASE_blk (q : Nat) : Blk (F.Q_BASE_BASE q) 45 := by
  unfold Blk regPart F.Q_BASE_BASE Field.key F.GIRTH_MODE_MODE F.GIRTH_MODE_SUBSTATE
  dsimp only
  rw [if_neg (by omega), if_neg (by omega)]
  omega
@[simp] theorem Q_CFG_EN_blk (q : Nat) : Blk (F.Q_CFG_EN q) 45 := by
  unfold Blk regPart F.Q_CFG_EN Field.key F.GIRTH_MODE_MODE F.GIRTH_MODE_SUBSTATE
  dsimp only
  rw [if_neg (by omega), if_neg (by omega)]
  omega
@[simp] theorem Q_CFG_HWPRIO_blk (q : Nat) : Blk (F.Q_CFG_HWPRIO q) 45 := by
  unfold Blk regPart F.Q_CFG_HWPRIO Field.key F.GIRTH_MODE_MODE F.GIRTH_MODE_SUBSTATE
  dsimp only
  rw [if_neg (by omega), if_neg (by omega)]
  omega
@[simp] theorem Q_CFG_SIZE_blk (q : Nat) : Blk (F.Q_CFG_SIZE q) 45 := by
  unfold Blk regPart F.Q_CFG_SIZE Field.key F.GIRTH_MODE_MODE F.GIRTH_MODE_SUBSTATE
  dsimp only
  rw [if_neg (by omega), if_neg (by omega)]
  omega
@[simp] theorem Q_CFG_SPILL_EN_blk (q : Nat) : Blk (F.Q_CFG_SPILL_EN q) 45 := by
  unfold Blk regPart F.Q_CFG_SPILL_EN Field.key F.GIRTH_MODE_MODE F.GIRTH_MODE_SUBSTATE
  dsimp only
  rw [if_neg (by omega), if_neg (by omega)]
  omega
@[simp] theorem Q_CNT_DISCARD_CNT_blk (q : Nat) : Blk (F.Q_CNT_DISCARD_CNT q) 45 := by
  unfold Blk regPart F.Q_CNT_DISCARD_CNT Field.key F.GIRTH_MODE_MODE F.GIRTH_MODE_SUBSTATE
  dsimp only
  rw [if_neg (by omega), if_neg (by omega)]
  omega
@[simp] theorem Q_CNT_LOST_CNT_blk (q : Nat) : Blk (F.Q_CNT_LOST_CNT q) 45 := by
  unfold Blk regPart F.Q_CNT_LOST_CNT Field.key F.GIRTH_MODE_MODE F.GIRTH_MODE_SUBSTATE
  dsimp only
  rw [if_neg (by omega), if_neg (by omega)]
  omega
@[simp] theorem Q_CREDIT_CFG_CREDIT_MAX_blk (q : Nat) : Blk (F.Q_CREDIT_CFG_CREDIT_MAX q) 45 := by
  unfold Blk regPart F.Q_CREDIT_CFG_CREDIT_MAX Field.key F.GIRTH_MODE_MODE F.GIRTH_MODE_SUBSTATE
  dsimp only
  rw [if_neg (by omega), if_neg (by omega)]
  omega
@[simp] theorem Q_CREDIT_CFG_OPEN_TMO_blk (q : Nat) : Blk (F.Q_CREDIT_CFG_OPEN_TMO q) 45 := by
  unfold Blk regPart F.Q_CREDIT_CFG_OPEN_TMO Field.key F.GIRTH_MODE_MODE F.GIRTH_MODE_SUBSTATE
  dsimp only
  rw [if_neg (by omega), if_neg (by omega)]
  omega
@[simp] theorem Q_CREDIT_CREDIT_blk (q : Nat) : Blk (F.Q_CREDIT_CREDIT q) 45 := by
  unfold Blk regPart F.Q_CREDIT_CREDIT Field.key F.GIRTH_MODE_MODE F.GIRTH_MODE_SUBSTATE
  dsimp only
  rw [if_neg (by omega), if_neg (by omega)]
  omega
@[simp] theorem Q_DATA_DATA_blk (q : Nat) : Blk (F.Q_DATA_DATA q) 45 := by
  unfold Blk regPart F.Q_DATA_DATA Field.key F.GIRTH_MODE_MODE F.GIRTH_MODE_SUBSTATE
  dsimp only
  rw [if_neg (by omega), if_neg (by omega)]
  omega
@[simp] theorem Q_DSTAT_END_blk (q : Nat) : Blk (F.Q_DSTAT_END q) 45 := by
  unfold Blk regPart F.Q_DSTAT_END Field.key F.GIRTH_MODE_MODE F.GIRTH_MODE_SUBSTATE
  dsimp only
  rw [if_neg (by omega), if_neg (by omega)]
  omega
@[simp] theorem Q_DSTAT_POISON_blk (q : Nat) : Blk (F.Q_DSTAT_POISON q) 45 := by
  unfold Blk regPart F.Q_DSTAT_POISON Field.key F.GIRTH_MODE_MODE F.GIRTH_MODE_SUBSTATE
  dsimp only
  rw [if_neg (by omega), if_neg (by omega)]
  omega
@[simp] theorem Q_DSTAT_REMAIN_blk (q : Nat) : Blk (F.Q_DSTAT_REMAIN q) 45 := by
  unfold Blk regPart F.Q_DSTAT_REMAIN Field.key F.GIRTH_MODE_MODE F.GIRTH_MODE_SUBSTATE
  dsimp only
  rw [if_neg (by omega), if_neg (by omega)]
  omega
@[simp] theorem Q_FLT_CFG_ERR_blk (q : Nat) : Blk (F.Q_FLT_CFG_ERR q) 45 := by
  unfold Blk regPart F.Q_FLT_CFG_ERR Field.key F.GIRTH_MODE_MODE F.GIRTH_MODE_SUBSTATE
  dsimp only
  rw [if_neg (by omega), if_neg (by omega)]
  omega
@[simp] theorem Q_FLT_LOST_blk (q : Nat) : Blk (F.Q_FLT_LOST q) 45 := by
  unfold Blk regPart F.Q_FLT_LOST Field.key F.GIRTH_MODE_MODE F.GIRTH_MODE_SUBSTATE
  dsimp only
  rw [if_neg (by omega), if_neg (by omega)]
  omega
@[simp] theorem Q_FLT_OVERRUN_blk (q : Nat) : Blk (F.Q_FLT_OVERRUN q) 45 := by
  unfold Blk regPart F.Q_FLT_OVERRUN Field.key F.GIRTH_MODE_MODE F.GIRTH_MODE_SUBSTATE
  dsimp only
  rw [if_neg (by omega), if_neg (by omega)]
  omega
@[simp] theorem Q_FLT_PKT_TMO_blk (q : Nat) : Blk (F.Q_FLT_PKT_TMO q) 45 := by
  unfold Blk regPart F.Q_FLT_PKT_TMO Field.key F.GIRTH_MODE_MODE F.GIRTH_MODE_SUBSTATE
  dsimp only
  rw [if_neg (by omega), if_neg (by omega)]
  omega
@[simp] theorem Q_FLT_TRUNC_blk (q : Nat) : Blk (F.Q_FLT_TRUNC q) 45 := by
  unfold Blk regPart F.Q_FLT_TRUNC Field.key F.GIRTH_MODE_MODE F.GIRTH_MODE_SUBSTATE
  dsimp only
  rw [if_neg (by omega), if_neg (by omega)]
  omega
@[simp] theorem Q_FLT_UNDERRUN_blk (q : Nat) : Blk (F.Q_FLT_UNDERRUN q) 45 := by
  unfold Blk regPart F.Q_FLT_UNDERRUN Field.key F.GIRTH_MODE_MODE F.GIRTH_MODE_SUBSTATE
  dsimp only
  rw [if_neg (by omega), if_neg (by omega)]
  omega
@[simp] theorem Q_IRQ_HI_blk (q : Nat) : Blk (F.Q_IRQ_HI q) 45 := by
  unfold Blk regPart F.Q_IRQ_HI Field.key F.GIRTH_MODE_MODE F.GIRTH_MODE_SUBSTATE
  dsimp only
  rw [if_neg (by omega), if_neg (by omega)]
  omega
@[simp] theorem Q_IRQ_PKT_blk (q : Nat) : Blk (F.Q_IRQ_PKT q) 45 := by
  unfold Blk regPart F.Q_IRQ_PKT Field.key F.GIRTH_MODE_MODE F.GIRTH_MODE_SUBSTATE
  dsimp only
  rw [if_neg (by omega), if_neg (by omega)]
  omega
@[simp] theorem Q_LEVEL_LEVEL_blk (q : Nat) : Blk (F.Q_LEVEL_LEVEL q) 45 := by
  unfold Blk regPart F.Q_LEVEL_LEVEL Field.key F.GIRTH_MODE_MODE F.GIRTH_MODE_SUBSTATE
  dsimp only
  rw [if_neg (by omega), if_neg (by omega)]
  omega
@[simp] theorem Q_NEXT_HDR_blk (q : Nat) : Blk (F.Q_NEXT_HDR q) 45 := by
  unfold Blk regPart F.Q_NEXT_HDR Field.key F.GIRTH_MODE_MODE F.GIRTH_MODE_SUBSTATE
  dsimp only
  rw [if_neg (by omega), if_neg (by omega)]
  omega
@[simp] theorem Q_OWN_CONS_blk (q : Nat) : Blk (F.Q_OWN_CONS q) 45 := by
  unfold Blk regPart F.Q_OWN_CONS Field.key F.GIRTH_MODE_MODE F.GIRTH_MODE_SUBSTATE
  dsimp only
  rw [if_neg (by omega), if_neg (by omega)]
  omega
@[simp] theorem Q_OWN_PROD_blk (q : Nat) : Blk (F.Q_OWN_PROD q) 45 := by
  unfold Blk regPart F.Q_OWN_PROD Field.key F.GIRTH_MODE_MODE F.GIRTH_MODE_SUBSTATE
  dsimp only
  rw [if_neg (by omega), if_neg (by omega)]
  omega
@[simp] theorem Q_PKT_CNT_CNT_blk (q : Nat) : Blk (F.Q_PKT_CNT_CNT q) 45 := by
  unfold Blk regPart F.Q_PKT_CNT_CNT Field.key F.GIRTH_MODE_MODE F.GIRTH_MODE_SUBSTATE
  dsimp only
  rw [if_neg (by omega), if_neg (by omega)]
  omega
@[simp] theorem Q_SPILL_BASE_BASE_blk (q : Nat) : Blk (F.Q_SPILL_BASE_BASE q) 45 := by
  unfold Blk regPart F.Q_SPILL_BASE_BASE Field.key F.GIRTH_MODE_MODE F.GIRTH_MODE_SUBSTATE
  dsimp only
  rw [if_neg (by omega), if_neg (by omega)]
  omega
@[simp] theorem Q_SPILL_CFG_BANKS_blk (q : Nat) : Blk (F.Q_SPILL_CFG_BANKS q) 45 := by
  unfold Blk regPart F.Q_SPILL_CFG_BANKS Field.key F.GIRTH_MODE_MODE F.GIRTH_MODE_SUBSTATE
  dsimp only
  rw [if_neg (by omega), if_neg (by omega)]
  omega
@[simp] theorem Q_STAT_OPEN_blk (q : Nat) : Blk (F.Q_STAT_OPEN q) 45 := by
  unfold Blk regPart F.Q_STAT_OPEN Field.key F.GIRTH_MODE_MODE F.GIRTH_MODE_SUBSTATE
  dsimp only
  rw [if_neg (by omega), if_neg (by omega)]
  omega
@[simp] theorem Q_STAT_SPILLED_blk (q : Nat) : Blk (F.Q_STAT_SPILLED q) 45 := by
  unfold Blk regPart F.Q_STAT_SPILLED Field.key F.GIRTH_MODE_MODE F.GIRTH_MODE_SUBSTATE
  dsimp only
  rw [if_neg (by omega), if_neg (by omega)]
  omega
@[simp] theorem Q_STAT_SPILLING_blk (q : Nat) : Blk (F.Q_STAT_SPILLING q) 45 := by
  unfold Blk regPart F.Q_STAT_SPILLING Field.key F.GIRTH_MODE_MODE F.GIRTH_MODE_SUBSTATE
  dsimp only
  rw [if_neg (by omega), if_neg (by omega)]
  omega
@[simp] theorem Q_STAT_XOFF_blk (q : Nat) : Blk (F.Q_STAT_XOFF q) 45 := by
  unfold Blk regPart F.Q_STAT_XOFF Field.key F.GIRTH_MODE_MODE F.GIRTH_MODE_SUBSTATE
  dsimp only
  rw [if_neg (by omega), if_neg (by omega)]
  omega
@[simp] theorem Q_WM_HI_HI_blk (q : Nat) : Blk (F.Q_WM_HI_HI q) 45 := by
  unfold Blk regPart F.Q_WM_HI_HI Field.key F.GIRTH_MODE_MODE F.GIRTH_MODE_SUBSTATE
  dsimp only
  rw [if_neg (by omega), if_neg (by omega)]
  omega
@[simp] theorem Q_WM_LO_LO_blk (q : Nat) : Blk (F.Q_WM_LO_LO q) 45 := by
  unfold Blk regPart F.Q_WM_LO_LO Field.key F.GIRTH_MODE_MODE F.GIRTH_MODE_SUBSTATE
  dsimp only
  rw [if_neg (by omega), if_neg (by omega)]
  omega
@[simp] theorem RAIL_FLT_OV_blk : Blk F.RAIL_FLT_OV 55 := rfl
@[simp] theorem RAIL_FLT_UV_blk : Blk F.RAIL_FLT_UV 55 := rfl
@[simp] theorem RAIL_FLT_VIN_PF_blk : Blk F.RAIL_FLT_VIN_PF 55 := rfl
@[simp] theorem RAIL_FLT_VLA_UV_blk : Blk F.RAIL_FLT_VLA_UV 55 := rfl
@[simp] theorem RAIL_FLT_VLB_UV_blk : Blk F.RAIL_FLT_VLB_UV 55 := rfl
@[simp] theorem RAIL_STAT_HOLDUP_OK_blk : Blk F.RAIL_STAT_HOLDUP_OK 55 := rfl
@[simp] theorem RAIL_STAT_IN_WIN_blk : Blk F.RAIL_STAT_IN_WIN 55 := rfl
@[simp] theorem RAIL_STAT_WARN_blk : Blk F.RAIL_STAT_WARN 55 := rfl
@[simp] theorem REG_BASE_HI_ATTR_blk (p r : Nat) : Blk (F.REG_BASE_HI_ATTR p r) 53 := by
  unfold Blk regPart F.REG_BASE_HI_ATTR Field.key F.GIRTH_MODE_MODE F.GIRTH_MODE_SUBSTATE
  dsimp only
  rw [if_neg (by omega), if_neg (by omega)]
  omega
@[simp] theorem REG_BASE_HI_BASE_HI_blk (p r : Nat) : Blk (F.REG_BASE_HI_BASE_HI p r) 53 := by
  unfold Blk regPart F.REG_BASE_HI_BASE_HI Field.key F.GIRTH_MODE_MODE F.GIRTH_MODE_SUBSTATE
  dsimp only
  rw [if_neg (by omega), if_neg (by omega)]
  omega
@[simp] theorem REG_BASE_LO_BASE_LO_blk (p r : Nat) : Blk (F.REG_BASE_LO_BASE_LO p r) 53 := by
  unfold Blk regPart F.REG_BASE_LO_BASE_LO Field.key F.GIRTH_MODE_MODE F.GIRTH_MODE_SUBSTATE
  dsimp only
  rw [if_neg (by omega), if_neg (by omega)]
  omega
@[simp] theorem REG_GPA_GPA_blk (p r : Nat) : Blk (F.REG_GPA_GPA p r) 53 := by
  unfold Blk regPart F.REG_GPA_GPA Field.key F.GIRTH_MODE_MODE F.GIRTH_MODE_SUBSTATE
  dsimp only
  rw [if_neg (by omega), if_neg (by omega)]
  omega
@[simp] theorem REG_SIZE_SIZE_blk (p r : Nat) : Blk (F.REG_SIZE_SIZE p r) 53 := by
  unfold Blk regPart F.REG_SIZE_SIZE Field.key F.GIRTH_MODE_MODE F.GIRTH_MODE_SUBSTATE
  dsimp only
  rw [if_neg (by omega), if_neg (by omega)]
  omega
@[simp] theorem RESTART_CNT_COLD_blk : Blk F.RESTART_CNT_COLD 55 := rfl
@[simp] theorem RESTART_CNT_WARM_blk : Blk F.RESTART_CNT_WARM 55 := rfl
@[simp] theorem RST_CAUSE_AON_blk : Blk F.RST_CAUSE_AON 55 := rfl
@[simp] theorem RST_CAUSE_CORE_blk : Blk F.RST_CAUSE_CORE 55 := rfl
@[simp] theorem RST_CAUSE_PD1_blk : Blk F.RST_CAUSE_PD1 55 := rfl
@[simp] theorem RST_CAUSE_SAFE_blk : Blk F.RST_CAUSE_SAFE 55 := rfl
@[simp] theorem SEAT_STAT_EJECT_blk : Blk F.SEAT_STAT_EJECT 55 := rfl
@[simp] theorem SEAT_STAT_EXTRACT_OK_blk : Blk F.SEAT_STAT_EXTRACT_OK 55 := rfl
@[simp] theorem SEAT_STAT_PRES_blk : Blk F.SEAT_STAT_PRES 55 := rfl
@[simp] theorem SEAT_STAT_PRES_J1_blk : Blk F.SEAT_STAT_PRES_J1 55 := rfl
@[simp] theorem SEAT_STAT_PRES_J2_blk : Blk F.SEAT_STAT_PRES_J2 55 := rfl
@[simp] theorem SEAT_STAT_SEAT_CHANGE_blk : Blk F.SEAT_STAT_SEAT_CHANGE 55 := rfl
@[simp] theorem SEAT_STAT_SIDE_blk : Blk F.SEAT_STAT_SIDE 55 := rfl
@[simp] theorem SEAT_STAT_SLOT_blk : Blk F.SEAT_STAT_SLOT 55 := rfl
@[simp] theorem SLOT_ARG_ARG_blk (s : Nat) : Blk (F.SLOT_ARG_ARG s) 41 := by
  unfold Blk regPart F.SLOT_ARG_ARG Field.key F.GIRTH_MODE_MODE F.GIRTH_MODE_SUBSTATE
  dsimp only
  rw [if_neg (by omega), if_neg (by omega)]
  omega
@[simp] theorem SLOT_CTL_ACTION_blk (s : Nat) : Blk (F.SLOT_CTL_ACTION s) 41 := by
  unfold Blk regPart F.SLOT_CTL_ACTION Field.key F.GIRTH_MODE_MODE F.GIRTH_MODE_SUBSTATE
  dsimp only
  rw [if_neg (by omega), if_neg (by omega)]
  omega
@[simp] theorem SLOT_CTL_CATCHUP_blk (s : Nat) : Blk (F.SLOT_CTL_CATCHUP s) 41 := by
  unfold Blk regPart F.SLOT_CTL_CATCHUP Field.key F.GIRTH_MODE_MODE F.GIRTH_MODE_SUBSTATE
  dsimp only
  rw [if_neg (by omega), if_neg (by omega)]
  omega
@[simp] theorem SLOT_CTL_EN_blk (s : Nat) : Blk (F.SLOT_CTL_EN s) 41 := by
  unfold Blk regPart F.SLOT_CTL_EN Field.key F.GIRTH_MODE_MODE F.GIRTH_MODE_SUBSTATE
  dsimp only
  rw [if_neg (by omega), if_neg (by omega)]
  omega
@[simp] theorem SLOT_CTL_MODE_blk (s : Nat) : Blk (F.SLOT_CTL_MODE s) 41 := by
  unfold Blk regPart F.SLOT_CTL_MODE Field.key F.GIRTH_MODE_MODE F.GIRTH_MODE_SUBSTATE
  dsimp only
  rw [if_neg (by omega), if_neg (by omega)]
  omega
@[simp] theorem SLOT_CTL_PRIO_blk (s : Nat) : Blk (F.SLOT_CTL_PRIO s) 41 := by
  unfold Blk regPart F.SLOT_CTL_PRIO Field.key F.GIRTH_MODE_MODE F.GIRTH_MODE_SUBSTATE
  dsimp only
  rw [if_neg (by omega), if_neg (by omega)]
  omega
@[simp] theorem SLOT_CTL_REC_blk (s : Nat) : Blk (F.SLOT_CTL_REC s) 41 := by
  unfold Blk regPart F.SLOT_CTL_REC Field.key F.GIRTH_MODE_MODE F.GIRTH_MODE_SUBSTATE
  dsimp only
  rw [if_neg (by omega), if_neg (by omega)]
  omega
@[simp] theorem SLOT_LAST_ANG_ANG_blk (s : Nat) : Blk (F.SLOT_LAST_ANG_ANG s) 41 := by
  unfold Blk regPart F.SLOT_LAST_ANG_ANG Field.key F.GIRTH_MODE_MODE F.GIRTH_MODE_SUBSTATE
  dsimp only
  rw [if_neg (by omega), if_neg (by omega)]
  omega
@[simp] theorem SLOT_LAST_CYC_CYC_blk (s : Nat) : Blk (F.SLOT_LAST_CYC_CYC s) 41 := by
  unfold Blk regPart F.SLOT_LAST_CYC_CYC Field.key F.GIRTH_MODE_MODE F.GIRTH_MODE_SUBSTATE
  dsimp only
  rw [if_neg (by omega), if_neg (by omega)]
  omega
@[simp] theorem SLOT_PERIOD_PERIOD_blk (s : Nat) : Blk (F.SLOT_PERIOD_PERIOD s) 41 := by
  unfold Blk regPart F.SLOT_PERIOD_PERIOD Field.key F.GIRTH_MODE_MODE F.GIRTH_MODE_SUBSTATE
  dsimp only
  rw [if_neg (by omega), if_neg (by omega)]
  omega
@[simp] theorem SLOT_PT_NS_NS_blk (s : Nat) : Blk (F.SLOT_PT_NS_NS s) 41 := by
  unfold Blk regPart F.SLOT_PT_NS_NS Field.key F.GIRTH_MODE_MODE F.GIRTH_MODE_SUBSTATE
  dsimp only
  rw [if_neg (by omega), if_neg (by omega)]
  omega
@[simp] theorem SLOT_PT_S_HI_S_HI_blk (s : Nat) : Blk (F.SLOT_PT_S_HI_S_HI s) 41 := by
  unfold Blk regPart F.SLOT_PT_S_HI_S_HI Field.key F.GIRTH_MODE_MODE F.GIRTH_MODE_SUBSTATE
  dsimp only
  rw [if_neg (by omega), if_neg (by omega)]
  omega
@[simp] theorem SLOT_PT_S_LO_S_LO_blk (s : Nat) : Blk (F.SLOT_PT_S_LO_S_LO s) 41 := by
  unfold Blk regPart F.SLOT_PT_S_LO_S_LO Field.key F.GIRTH_MODE_MODE F.GIRTH_MODE_SUBSTATE
  dsimp only
  rw [if_neg (by omega), if_neg (by omega)]
  omega
@[simp] theorem SLOT_STAT_DONE_blk (s : Nat) : Blk (F.SLOT_STAT_DONE s) 41 := by
  unfold Blk regPart F.SLOT_STAT_DONE Field.key F.GIRTH_MODE_MODE F.GIRTH_MODE_SUBSTATE
  dsimp only
  rw [if_neg (by omega), if_neg (by omega)]
  omega
@[simp] theorem SLOT_STAT_FIRE_CNT_blk (s : Nat) : Blk (F.SLOT_STAT_FIRE_CNT s) 41 := by
  unfold Blk regPart F.SLOT_STAT_FIRE_CNT Field.key F.GIRTH_MODE_MODE F.GIRTH_MODE_SUBSTATE
  dsimp only
  rw [if_neg (by omega), if_neg (by omega)]
  omega
@[simp] theorem SLOT_STAT_LATE_blk (s : Nat) : Blk (F.SLOT_STAT_LATE s) 41 := by
  unfold Blk regPart F.SLOT_STAT_LATE Field.key F.GIRTH_MODE_MODE F.GIRTH_MODE_SUBSTATE
  dsimp only
  rw [if_neg (by omega), if_neg (by omega)]
  omega
@[simp] theorem SLOT_STAT_MISSED_blk (s : Nat) : Blk (F.SLOT_STAT_MISSED s) 41 := by
  unfold Blk regPart F.SLOT_STAT_MISSED Field.key F.GIRTH_MODE_MODE F.GIRTH_MODE_SUBSTATE
  dsimp only
  rw [if_neg (by omega), if_neg (by omega)]
  omega
@[simp] theorem SLOT_STAT_NOT_OWNED_blk (s : Nat) : Blk (F.SLOT_STAT_NOT_OWNED s) 41 := by
  unfold Blk regPart F.SLOT_STAT_NOT_OWNED Field.key F.GIRTH_MODE_MODE F.GIRTH_MODE_SUBSTATE
  dsimp only
  rw [if_neg (by omega), if_neg (by omega)]
  omega
@[simp] theorem SLOT_STAT_SUPERSEDED_blk (s : Nat) : Blk (F.SLOT_STAT_SUPERSEDED s) 41 := by
  unfold Blk regPart F.SLOT_STAT_SUPERSEDED Field.key F.GIRTH_MODE_MODE F.GIRTH_MODE_SUBSTATE
  dsimp only
  rw [if_neg (by omega), if_neg (by omega)]
  omega
@[simp] theorem STR_CNT_BAD_blk : Blk F.STR_CNT_BAD 49 := rfl
@[simp] theorem STR_CNT_FAILSAFES_blk : Blk F.STR_CNT_FAILSAFES 49 := rfl
@[simp] theorem STR_CNT_HOLDS_blk : Blk F.STR_CNT_HOLDS 49 := rfl
@[simp] theorem STR_FLT_EARLY_blk : Blk F.STR_FLT_EARLY 49 := rfl
@[simp] theorem STR_FLT_FRAME_ERR_blk : Blk F.STR_FLT_FRAME_ERR 49 := rfl
@[simp] theorem STR_FLT_FS_NOW_blk : Blk F.STR_FLT_FS_NOW 49 := rfl
@[simp] theorem STR_FLT_HOLD_EXPIRED_blk : Blk F.STR_FLT_HOLD_EXPIRED 49 := rfl
@[simp] theorem STR_FLT_PC0_LOST_blk : Blk F.STR_FLT_PC0_LOST 49 := rfl
@[simp] theorem STR_FLT_PC1_LOST_blk : Blk F.STR_FLT_PC1_LOST 49 := rfl
@[simp] theorem STR_FLT_RECLAIM_EXPIRED_blk : Blk F.STR_FLT_RECLAIM_EXPIRED 49 := rfl
@[simp] theorem STR_FLT_SWX_LOST_blk : Blk F.STR_FLT_SWX_LOST 49 := rfl
@[simp] theorem STR_GONE_DIO_GONE_blk : Blk F.STR_GONE_DIO_GONE 49 := rfl
@[simp] theorem STR_GONE_LS_GONE_blk : Blk F.STR_GONE_LS_GONE 49 := rfl
@[simp] theorem STR_HELD_DIO_HELD_blk : Blk F.STR_HELD_DIO_HELD 49 := rfl
@[simp] theorem STR_HELD_LS_HELD_blk : Blk F.STR_HELD_LS_HELD 49 := rfl
@[simp] theorem STR_HOLD_TMO_TMO_blk : Blk F.STR_HOLD_TMO_TMO 49 := rfl
@[simp] theorem STR_LAST_DIO_LAST_blk : Blk F.STR_LAST_DIO_LAST 49 := rfl
@[simp] theorem STR_LAST_LS_LAST_blk : Blk F.STR_LAST_LS_LAST 49 := rfl
@[simp] theorem STR_PARTNER_TMO_TMO_blk : Blk F.STR_PARTNER_TMO_TMO 49 := rfl
@[simp] theorem STR_RECLAIM_TMO_TMO_blk : Blk F.STR_RECLAIM_TMO_TMO 49 := rfl
@[simp] theorem STR_REL_DIO_REL_blk : Blk F.STR_REL_DIO_REL 49 := rfl
@[simp] theorem STR_REL_LS_REL_blk : Blk F.STR_REL_LS_REL 49 := rfl
@[simp] theorem STR_STAT_LINE0_OK_blk : Blk F.STR_STAT_LINE0_OK 49 := rfl
@[simp] theorem STR_STAT_LINE1_OK_blk : Blk F.STR_STAT_LINE1_OK 49 := rfl
@[simp] theorem STR_STAT_SPAN_blk : Blk F.STR_STAT_SPAN 49 := rfl
@[simp] theorem STR_STAT_STATE_blk : Blk F.STR_STAT_STATE 49 := rfl
@[simp] theorem STR_STAT_SWX_OK_blk : Blk F.STR_STAT_SWX_OK 49 := rfl
@[simp] theorem STR_STAT_TABLES_OK_blk : Blk F.STR_STAT_TABLES_OK 49 := rfl
@[simp] theorem STR_SWX_CFG_MAX_blk : Blk F.STR_SWX_CFG_MAX 49 := rfl
@[simp] theorem STR_SWX_CFG_MIN_blk : Blk F.STR_SWX_CFG_MIN 49 := rfl
@[simp] theorem TIL_CNT_LATE_CNT_blk : Blk F.TIL_CNT_LATE_CNT 46 := rfl
@[simp] theorem TIL_CNT_SUSPECT_WIN_blk : Blk F.TIL_CNT_SUSPECT_WIN 46 := rfl
@[simp] theorem TIL_CTL_DIV_EN_blk : Blk F.TIL_CTL_DIV_EN 46 := rfl
@[simp] theorem TIL_CTL_EN_blk : Blk F.TIL_CTL_EN 46 := rfl
@[simp] theorem TIL_CTL_MODEL_EN_blk : Blk F.TIL_CTL_MODEL_EN 46 := rfl
@[simp] theorem TIL_CTL_OWNER_blk : Blk F.TIL_CTL_OWNER 46 := rfl
@[simp] theorem TIL_CTL_OWNER_VALID_blk : Blk F.TIL_CTL_OWNER_VALID 46 := rfl
@[simp] theorem TIL_FLT_CAP_OFF_blk : Blk F.TIL_FLT_CAP_OFF 46 := rfl
@[simp] theorem TIL_FLT_CFG_ERR_blk : Blk F.TIL_FLT_CFG_ERR 46 := rfl
@[simp] theorem TIL_FLT_DEADLINE_blk : Blk F.TIL_FLT_DEADLINE 46 := rfl
@[simp] theorem TIL_FLT_NOTE_LOST_blk : Blk F.TIL_FLT_NOTE_LOST 46 := rfl
@[simp] theorem TIL_FLT_PARAM_ERR_blk : Blk F.TIL_FLT_PARAM_ERR 46 := rfl
@[simp] theorem TIL_FLT_SET_LOST_blk : Blk F.TIL_FLT_SET_LOST 46 := rfl
@[simp] theorem TIL_FLT_SUSPECT_blk : Blk F.TIL_FLT_SUSPECT 46 := rfl
@[simp] theorem TIL_LOAD_LOAD_blk : Blk F.TIL_LOAD_LOAD 46 := rfl
@[simp] theorem TIL_LOAD_PEAK_blk : Blk F.TIL_LOAD_PEAK 46 := rfl
@[simp] theorem TIL_MM_CNT_CNT_blk : Blk F.TIL_MM_CNT_CNT 46 := rfl
@[simp] theorem TIL_MM_LANE_CNT_blk (p : Nat) : Blk (F.TIL_MM_LANE_CNT p) 46 := by
  unfold Blk regPart F.TIL_MM_LANE_CNT Field.key F.GIRTH_MODE_MODE F.GIRTH_MODE_SUBSTATE
  dsimp only
  rw [if_neg (by omega), if_neg (by omega)]
  omega
@[simp] theorem TIL_MM_LAST_CELL_blk : Blk F.TIL_MM_LAST_CELL 46 := rfl
@[simp] theorem TIL_MM_LAST_KIND_blk : Blk F.TIL_MM_LAST_KIND 46 := rfl
@[simp] theorem TIL_NOTE_EN_blk (p : Nat) : Blk (F.TIL_NOTE_EN p) 46 := by
  unfold Blk regPart F.TIL_NOTE_EN Field.key F.GIRTH_MODE_MODE F.GIRTH_MODE_SUBSTATE
  dsimp only
  rw [if_neg (by omega), if_neg (by omega)]
  omega
@[simp] theorem TIL_NOTE_KINDS_blk (p : Nat) : Blk (F.TIL_NOTE_KINDS p) 46 := by
  unfold Blk regPart F.TIL_NOTE_KINDS Field.key F.GIRTH_MODE_MODE F.GIRTH_MODE_SUBSTATE
  dsimp only
  rw [if_neg (by omega), if_neg (by omega)]
  omega
@[simp] theorem TIL_NOTE_QUEUE_blk (p : Nat) : Blk (F.TIL_NOTE_QUEUE p) 46 := by
  unfold Blk regPart F.TIL_NOTE_QUEUE Field.key F.GIRTH_MODE_MODE F.GIRTH_MODE_SUBSTATE
  dsimp only
  rw [if_neg (by omega), if_neg (by omega)]
  omega
@[simp] theorem TIL_PCMD_CMD_blk : Blk F.TIL_PCMD_CMD 46 := rfl
@[simp] theorem TIL_PERR_CELL_blk : Blk F.TIL_PERR_CELL 46 := rfl
@[simp] theorem TIL_PERR_REASON_blk : Blk F.TIL_PERR_REASON 46 := rfl
@[simp] theorem TIL_PERR_TABLE_blk : Blk F.TIL_PERR_TABLE 46 := rfl
@[simp] theorem TIL_PSTAT_PSEQ_blk : Blk F.TIL_PSTAT_PSEQ 46 := rfl
@[simp] theorem TIL_PUB_DIV_BANK_blk : Blk F.TIL_PUB_DIV_BANK 46 := rfl
@[simp] theorem TIL_PUB_STATE_BANK_blk : Blk F.TIL_PUB_STATE_BANK 46 := rfl
@[simp] theorem TIL_PUB_STAT_BANK_blk : Blk F.TIL_PUB_STAT_BANK 46 := rfl
@[simp] theorem TIL_STATE_SEQ_WSEQ_blk : Blk F.TIL_STATE_SEQ_WSEQ 46 := rfl
@[simp] theorem TIL_STAT_CFG_LEN_blk : Blk F.TIL_STAT_CFG_LEN 46 := rfl
@[simp] theorem TIL_STAT_CFG_MIN_PCT_blk : Blk F.TIL_STAT_CFG_MIN_PCT 46 := rfl
@[simp] theorem TIL_STAT_COMMIT_PEND_blk : Blk F.TIL_STAT_COMMIT_PEND 46 := rfl
@[simp] theorem TIL_STAT_DEGRADED_blk : Blk F.TIL_STAT_DEGRADED 46 := rfl
@[simp] theorem TIL_STAT_PSET_VALID_blk : Blk F.TIL_STAT_PSET_VALID 46 := rfl
@[simp] theorem TIL_STAT_RUNNING_blk : Blk F.TIL_STAT_RUNNING 46 := rfl
@[simp] theorem TIL_STAT_SEQ_WSEQ_blk : Blk F.TIL_STAT_SEQ_WSEQ 46 := rfl
@[simp] theorem TIL_STAT_UC_LOCKED_blk : Blk F.TIL_STAT_UC_LOCKED 46 := rfl
@[simp] theorem TIL_UC_ADDR_ADDR_blk : Blk F.TIL_UC_ADDR_ADDR 46 := rfl
@[simp] theorem TIL_UC_CRC_CRC_blk : Blk F.TIL_UC_CRC_CRC 46 := rfl
@[simp] theorem TIL_UC_CTL_LOCK_blk : Blk F.TIL_UC_CTL_LOCK 46 := rfl
@[simp] theorem TIL_UC_CTL_REV_blk : Blk F.TIL_UC_CTL_REV 46 := rfl
@[simp] theorem TIL_UC_DATA_DATA_blk : Blk F.TIL_UC_DATA_DATA 46 := rfl
@[simp] theorem TIL_ZCTL_Z_EN_blk : Blk F.TIL_ZCTL_Z_EN 46 := rfl
@[simp] theorem TIL_ZFLT_LANE_SEEN_blk : Blk F.TIL_ZFLT_LANE_SEEN 46 := rfl
@[simp] theorem TIL_ZFLT_REPORT_LOST_blk : Blk F.TIL_ZFLT_REPORT_LOST 46 := rfl
@[simp] theorem TIL_ZFLT_ZDEADLINE_blk : Blk F.TIL_ZFLT_ZDEADLINE 46 := rfl
@[simp] theorem TIL_ZFREQ_FW_blk : Blk F.TIL_ZFREQ_FW 46 := rfl
@[simp] theorem TIL_ZLEN_LEN_blk : Blk F.TIL_ZLEN_LEN 46 := rfl
@[simp] theorem TIL_ZLEN_ZMIN_PCT_blk : Blk F.TIL_ZLEN_ZMIN_PCT 46 := rfl
@[simp] theorem TIL_ZPERR_INDEX_blk : Blk F.TIL_ZPERR_INDEX 46 := rfl
@[simp] theorem TIL_ZPERR_REASON_blk : Blk F.TIL_ZPERR_REASON 46 := rfl
@[simp] theorem TIL_ZPUB_BANK_blk : Blk F.TIL_ZPUB_BANK 46 := rfl
@[simp] theorem TIL_ZSTAT_LANE_FLT_blk : Blk F.TIL_ZSTAT_LANE_FLT 46 := rfl
@[simp] theorem TIL_ZSTAT_SWEEPS_blk : Blk F.TIL_ZSTAT_SWEEPS 46 := rfl
@[simp] theorem TIL_ZSTAT_ZRUNNING_blk : Blk F.TIL_ZSTAT_ZRUNNING 46 := rfl
@[simp] theorem TIL_Z_SEQ_WSEQ_blk : Blk F.TIL_Z_SEQ_WSEQ 46 := rfl
@[simp] theorem TRL_ACT_STAT_DROP_blk : Blk F.TRL_ACT_STAT_DROP 41 := rfl
@[simp] theorem TRL_ACT_STAT_SPILL_blk : Blk F.TRL_ACT_STAT_SPILL 41 := rfl
@[simp] theorem TRL_AMP_GRA_blk : Blk F.TRL_AMP_GRA 41 := rfl
@[simp] theorem TRL_AMP_GRB_blk : Blk F.TRL_AMP_GRB 41 := rfl
@[simp] theorem TRL_AMP_GRC_blk : Blk F.TRL_AMP_GRC 41 := rfl
@[simp] theorem TRL_CTL_FNOM_blk : Blk F.TRL_CTL_FNOM 41 := rfl
@[simp] theorem TRL_CTL_NET_TX_blk : Blk F.TRL_CTL_NET_TX 41 := rfl
@[simp] theorem TRL_CTL_REF_PH_blk : Blk F.TRL_CTL_REF_PH 41 := rfl
@[simp] theorem TRL_CTL_SRC_blk : Blk F.TRL_CTL_SRC 41 := rfl
@[simp] theorem TRL_CYC_HIST_CYC_blk (i : Nat) : Blk (F.TRL_CYC_HIST_CYC i) 41 := by
  unfold Blk regPart F.TRL_CYC_HIST_CYC Field.key F.GIRTH_MODE_MODE F.GIRTH_MODE_SUBSTATE
  dsimp only
  rw [if_neg (by omega), if_neg (by omega)]
  omega
@[simp] theorem TRL_CYC_HIST_NS_blk (i : Nat) : Blk (F.TRL_CYC_HIST_NS i) 41 := by
  unfold Blk regPart F.TRL_CYC_HIST_NS Field.key F.GIRTH_MODE_MODE F.GIRTH_MODE_SUBSTATE
  dsimp only
  rw [if_neg (by omega), if_neg (by omega)]
  omega
@[simp] theorem TRL_CYC_HIST_S_HI_blk (i : Nat) : Blk (F.TRL_CYC_HIST_S_HI i) 41 := by
  unfold Blk regPart F.TRL_CYC_HIST_S_HI Field.key F.GIRTH_MODE_MODE F.GIRTH_MODE_SUBSTATE
  dsimp only
  rw [if_neg (by omega), if_neg (by omega)]
  omega
@[simp] theorem TRL_CYC_HIST_S_LO_blk (i : Nat) : Blk (F.TRL_CYC_HIST_S_LO i) 41 := by
  unfold Blk regPart F.TRL_CYC_HIST_S_LO Field.key F.GIRTH_MODE_MODE F.GIRTH_MODE_SUBSTATE
  dsimp only
  rw [if_neg (by omega), if_neg (by omega)]
  omega
@[simp] theorem TRL_FLT_AMP_LOW_blk : Blk F.TRL_FLT_AMP_LOW 41 := rfl
@[simp] theorem TRL_FLT_FREQ_RANGE_blk : Blk F.TRL_FLT_FREQ_RANGE 41 := rfl
@[simp] theorem TRL_FLT_LOCK_LOST_blk : Blk F.TRL_FLT_LOCK_LOST 41 := rfl
@[simp] theorem TRL_FLT_NET_AUTH_blk : Blk F.TRL_FLT_NET_AUTH 41 := rfl
@[simp] theorem TRL_FLT_NET_LOST_blk : Blk F.TRL_FLT_NET_LOST 41 := rfl
@[simp] theorem TRL_FLT_NET_STALE_blk : Blk F.TRL_FLT_NET_STALE 41 := rfl
@[simp] theorem TRL_FLT_PHASE_ERR_blk : Blk F.TRL_FLT_PHASE_ERR 41 := rfl
@[simp] theorem TRL_FREQ_FREQ_blk : Blk F.TRL_FREQ_FREQ 41 := rfl
@[simp] theorem TRL_HO_LIMIT_LIMIT_blk : Blk F.TRL_HO_LIMIT_LIMIT 41 := rfl
@[simp] theorem TRL_INC_FRAC_FRAC_blk : Blk F.TRL_INC_FRAC_FRAC 41 := rfl
@[simp] theorem TRL_INC_INT_INT_blk : Blk F.TRL_INC_INT_INT 41 := rfl
@[simp] theorem TRL_NET_CFG_PERIOD_blk : Blk F.TRL_NET_CFG_PERIOD 41 := rfl
@[simp] theorem TRL_NET_KEY_KEYSLOT_blk : Blk F.TRL_NET_KEY_KEYSLOT 41 := rfl
@[simp] theorem TRL_NOW_ANG_ANG_blk : Blk F.TRL_NOW_ANG_ANG 41 := rfl
@[simp] theorem TRL_NOW_CYC_CYC_blk : Blk F.TRL_NOW_CYC_CYC 41 := rfl
@[simp] theorem TRL_NOW_PT_NS_NS_blk : Blk F.TRL_NOW_PT_NS_NS 41 := rfl
@[simp] theorem TRL_NOW_PT_S_HI_S_HI_blk : Blk F.TRL_NOW_PT_S_HI_S_HI 41 := rfl
@[simp] theorem TRL_NOW_PT_S_LO_S_LO_blk : Blk F.TRL_NOW_PT_S_LO_S_LO 41 := rfl
@[simp] theorem TRL_PART_BASE_blk (p : Nat) : Blk (F.TRL_PART_BASE p) 41 := by
  unfold Blk regPart F.TRL_PART_BASE Field.key F.GIRTH_MODE_MODE F.GIRTH_MODE_SUBSTATE
  dsimp only
  rw [if_neg (by omega), if_neg (by omega)]
  omega
@[simp] theorem TRL_PART_COUNT_blk (p : Nat) : Blk (F.TRL_PART_COUNT p) 41 := by
  unfold Blk regPart F.TRL_PART_COUNT Field.key F.GIRTH_MODE_MODE F.GIRTH_MODE_SUBSTATE
  dsimp only
  rw [if_neg (by omega), if_neg (by omega)]
  omega
@[simp] theorem TRL_PART_QUEUE_blk (p : Nat) : Blk (F.TRL_PART_QUEUE p) 41 := by
  unfold Blk regPart F.TRL_PART_QUEUE Field.key F.GIRTH_MODE_MODE F.GIRTH_MODE_SUBSTATE
  dsimp only
  rw [if_neg (by omega), if_neg (by omega)]
  omega
@[simp] theorem TRL_PHERR_PHERR_blk : Blk F.TRL_PHERR_PHERR 41 := rfl
@[simp] theorem TRL_PHERR_PHERR_RMS_blk : Blk F.TRL_PHERR_PHERR_RMS 41 := rfl
@[simp] theorem TRL_REF_OFS_OFS_blk : Blk F.TRL_REF_OFS_OFS 41 := rfl
@[simp] theorem TRL_ROCOF_ROCOF_blk : Blk F.TRL_ROCOF_ROCOF 41 := rfl
@[simp] theorem TRL_STAT_CYC_ADOPTED_blk : Blk F.TRL_STAT_CYC_ADOPTED 41 := rfl
@[simp] theorem TRL_STAT_CYC_MISMATCH_blk : Blk F.TRL_STAT_CYC_MISMATCH 41 := rfl
@[simp] theorem TRL_STAT_HOLDOVER_blk : Blk F.TRL_STAT_HOLDOVER 41 := rfl
@[simp] theorem TRL_STAT_HO_LONG_blk : Blk F.TRL_STAT_HO_LONG 41 := rfl
@[simp] theorem TRL_STAT_LOCK_blk : Blk F.TRL_STAT_LOCK 41 := rfl
@[simp] theorem TRL_STAT_NEVER_LOCKED_blk : Blk F.TRL_STAT_NEVER_LOCKED 41 := rfl
@[simp] theorem TRL_STAT_ROT_ACB_blk : Blk F.TRL_STAT_ROT_ACB 41 := rfl
@[simp] theorem TRL_STAT_SLEWING_blk : Blk F.TRL_STAT_SLEWING 41 := rfl
@[simp] theorem TRL_STAT_SRC_ACT_blk : Blk F.TRL_STAT_SRC_ACT 41 := rfl
@[simp] theorem VIN_MON_VIN_blk : Blk F.VIN_MON_VIN 55 := rfl
@[simp] theorem VL_MON_VLA_blk : Blk F.VL_MON_VLA 55 := rfl
@[simp] theorem VL_MON_VLB_blk : Blk F.VL_MON_VLB 55 := rfl
@[simp] theorem WAKE_CAUSE_CAUSE_blk : Blk F.WAKE_CAUSE_CAUSE 55 := rfl
@[simp] theorem XING_STAT_SERVICE_blk : Blk F.XING_STAT_SERVICE 55 := rfl
@[simp] theorem XING_STAT_TMO_CNT_blk : Blk F.XING_STAT_TMO_CNT 55 := rfl
@[simp] theorem XL_CNT_RETRAIN_blk : Blk F.XL_CNT_RETRAIN 57 := rfl
@[simp] theorem XL_CTL_EN_blk : Blk F.XL_CTL_EN 57 := rfl
@[simp] theorem XL_STAT_LINK_blk : Blk F.XL_STAT_LINK 57 := rfl
@[simp] theorem XL_STAT_OUT_BUSY_blk : Blk F.XL_STAT_OUT_BUSY 57 := rfl
@[simp] theorem XL_STAT_PARTNER_blk : Blk F.XL_STAT_PARTNER 57 := rfl
@[simp] theorem XL_STAT_PSIDE_blk : Blk F.XL_STAT_PSIDE 57 := rfl

theorem Blk_ite {c : Prop} [Decidable c] {f g : Field} {i : Nat} :
    Blk (if c then f else g) i = if c then Blk f i else Blk g i := by split <;> rfl

@[simp] theorem errBit_blk (n : Nat) (e : CanErr) : Blk (errBit n e) 51 := by
  cases e <;> simp [errBit]
@[simp] theorem strLostBit_blk (n : Nat) : Blk (strLostBit n) 49 := by
  unfold strLostBit
  split <;> simp
@[simp] theorem powCnt_blk (n : Nat) (c : Bool) : Blk (powCnt n c) 41 := by
  cases c <;> simp [powCnt]
@[simp] theorem powEst_blk (n : Nat) (c : Bool) : Blk (powEst n c) 41 := by
  cases c <;> simp [powEst]
@[simp] theorem lsFltBit_blk (n i : Nat) : Blk (lsFltBit n i) 48 := by
  unfold Blk regPart lsFltBit F.LS_FLT_SC Field.key F.GIRTH_MODE_MODE F.GIRTH_MODE_SUBSTATE
  dsimp only
  rw [if_neg (by omega), if_neg (by omega)]
  omega
@[simp] theorem dioFltBit_blk (n i : Nat) : Blk (dioFltBit n i) 50 := by
  unfold Blk regPart dioFltBit F.DIO_FLT_LIMIT Field.key F.GIRTH_MODE_MODE F.GIRTH_MODE_SUBSTATE
  dsimp only
  rw [if_neg (by omega), if_neg (by omega)]
  omega
@[simp] theorem plotFltBit_blk (p i : Nat) :
    Blk ⟨(F.PC_PFLT_ACCESS p).addr, i % 32, (F.PC_PFLT_ACCESS p).w, (F.PC_PFLT_ACCESS p).acc, (F.PC_PFLT_ACCESS p).rst⟩ 53 := by
  unfold Blk regPart F.PC_PFLT_ACCESS Field.key F.GIRTH_MODE_MODE F.GIRTH_MODE_SUBSTATE
  dsimp only
  rw [if_neg (by omega), if_neg (by omega)]
  omega
@[simp] theorem clkStat_blk (c : Nat) : Blk (clkStat c) 55 := by
  unfold Blk regPart clkStat F.CLK_STAT_XO_OK Field.key F.GIRTH_MODE_MODE F.GIRTH_MODE_SUBSTATE
  dsimp only
  rw [if_neg (by omega), if_neg (by omega)]
  omega
theorem pomParamReg_blk {i j : Nat} {f : Field} (h : pomParamReg i j = some f) : Blk f 47 := by
  unfold pomParamReg at h
  split at h <;> first | (cases h; rfl) | cases h

theorem handoffReturn_legal (s : State) : 1 ≤ handoffReturn s ∧ handoffReturn s ≤ 8 := by
  unfold handoffReturn
  split <;> decide

theorem bootTarget_legal (s : State) : 1 ≤ (bootTarget s).1 ∧ (bootTarget s).1 ≤ 8 := by
  unfold bootTarget
  repeat' split
  all_goals decide

theorem blkWindow_ok (b : Nat) :
    ∀ w ∈ blkWindow b, 0x20000000 ≤ w.1 ∧ w.2 ≤ 0x21300000 ∧ (w.2 ≤ 0x20E00000 ∨ 0x20E00001 ≤ w.1) := by
  unfold blkWindow
  repeat' split
  all_goals simp only [List.mem_cons, List.not_mem_nil, or_false, forall_eq_or_imp, forall_eq, IsEmpty.forall_iff, implies_true]
  all_goals omega

end Sys2Proof.Machine
end

