-- ==== Sys2Proof/Laws/FrameOps1.lean ====
section
/-! SUPPORT. What each operation can change: one lemma an operation, by its own steps (part 1). -/

set_option linter.all false

namespace Sys2Proof.Machine

/-- A mask of every bit has every part's. -/
theorem mask_all {K : Nat} (hk : K &&& 36893488147419103231 = 36893488147419103231) (p : Part) : K.testBit p.bit = true := mask_bit hk (by cases p <;> rfl)

theorem powerOn_within {K : Nat} {b s : State} (hk : K &&& 36893488147419103231 = 36893488147419103231) (h : Within K b s) : Within K b (powerOn s) :=
  ⟨fun _ => rfl, fun _ => rfl, fun _ => show 1 ≤ 1 ∧ 1 ≤ 8 by decide, h.free_le, h.out_pre, h.faults_pre,
   fun p hp => absurd (hp.symm.trans (mask_all hk p)) Bool.false_ne_true⟩

theorem subSync_within {K : Nat} {b s : State} (hk : K &&& 3494793310839504896 = 3494793310839504896) (h : Within K b s) :
    Within K b (subSync s) := by
  unfold subSync
  repeat' (first
    | with_reducible assumption | with_reducible refine Within.wrB (i := 55) (by simp [Blk_ite]) (by decide) ?_ ?_ ?_
    | with_reducible refine Within.wr (i := 60) (by simp [Blk_ite]) (by decide) ?_ ?_ ?_ | exact mask_sub hk rfl
    | with_reducible refine Within.ite ?_ ?_ | split | dsimp -proj only)

theorem slsDown_within {K : Nat} {b s : State} (hk : K &&& 3494934048327860224 = 3494934048327860224) (h : Within K b s) :
    Within K b (slsDown s) := by
  unfold slsDown
  repeat' (first
    | with_reducible assumption | with_reducible refine Within.wr (i := 47) (by simp [Blk_ite]) (by decide) ?_ ?_ ?_
    | with_reducible refine subSync_within ?_ ?_ | exact mask_sub hk rfl | with_reducible refine Within.ite ?_ ?_
    | split | dsimp -proj only)

theorem State_setDio_within {K : Nat} {b s : State} {a2 a3} (hk : K &&& 524288 = 524288) (h : Within K b s) :
    Within K b (State.setDio s a2 a3) := by
  unfold State.setDio
  repeat' (first
    | with_reducible assumption | exact mask_sub hk rfl | with_reducible refine Within.ite ?_ ?_ | split
    | dsimp -proj only | with_reducible refine Within.u_dio ?_ ?_)

theorem State_emit_within {K : Nat} {b s : State} {a1} (hk : K &&& 512 = 512) (h : Within K b s) :
    Within K b (State.emit s a1) := by
  exact Within.u_out (List.prefix_append _ _) hk h

theorem dioPut_within {K : Nat} {b s : State} {a2 a3} (hk : K &&& 2306968909121061376 = 2306968909121061376) (h : Within K b s) :
    Within K b (dioPut s a2 a3) := by
  unfold dioPut
  repeat' (first
    | with_reducible assumption | with_reducible refine Within.wr (i := 50) (by simp [Blk_ite]) (by decide) ?_ ?_ ?_
    | with_reducible refine Within.putBit (i := 50) (by simp [Blk_ite]) (by decide) ?_ ?_ ?_
    | with_reducible refine State_emit_within ?_ ?_ | with_reducible refine State_setDio_within ?_ ?_
    | exact mask_sub hk rfl | with_reducible refine Within.ite ?_ ?_ | split | dsimp -proj only)

theorem dioUpdate_within {K : Nat} {b s : State} {a1} (hk : K &&& 2306968909121061376 = 2306968909121061376) (h : Within K b s) :
    Within K b (dioUpdate a1 s) := by
  unfold dioUpdate
  repeat' (first
    | with_reducible assumption | with_reducible refine Within.wrB (i := 50) (by simp [Blk_ite]) (by decide) ?_ ?_ ?_
    | with_reducible refine dioPut_within ?_ ?_ | exact mask_sub hk rfl | with_reducible refine Within.ite ?_ ?_
    | split | dsimp -proj only)

theorem dioFollowAll_within {K : Nat} {b s : State} (hk : K &&& 2306968909121061376 = 2306968909121061376) (h : Within K b s) :
    Within K b (dioFollowAll s) := by
  unfold dioFollowAll
  repeat' (first
    | with_reducible assumption | with_reducible refine dioUpdate_within ?_ ?_
    | with_reducible refine Within.forN (fun _ _ _ _ => ?_) ?_ | exact mask_sub hk rfl
    | with_reducible refine Within.ite ?_ ?_ | split | dsimp -proj only)

theorem State_putByte_within {K : Nat} {b s : State} {a1 a2} (hk : K &&& 2 = 2) (h : Within K b s) :
    Within K b (State.putByte s a1 a2) := by
  exact Within.u_mem (Memory.wf_memSet _ _) hk h

theorem State_putBytes_within {K : Nat} {b s : State} {a2 a3} (hk : K &&& 2 = 2) (h : Within K b s) :
    Within K b (State.putBytes s a2 a3) := by
  induction a3 generalizing s a2 with
  | nil => exact h
  | cons _ _ ih =>
  unfold State.putBytes
  repeat' (first
    | with_reducible assumption | with_reducible refine ih ?_ | with_reducible refine State_putByte_within ?_ ?_
    | exact mask_sub hk rfl | with_reducible refine Within.ite ?_ ?_ | split | dsimp -proj only)

theorem furPut_within {K : Nat} {b s : State} {a2} (hk : K &&& 18446744073709551618 = 18446744073709551618) (h : Within K b s) :
    Within K b (furPut s a2) := by
  unfold furPut
  repeat' (first
    | with_reducible assumption | with_reducible refine State_putBytes_within ?_ ?_ | exact mask_sub hk rfl
    | with_reducible refine Within.ite ?_ ?_ | split | dsimp -proj only | with_reducible refine Within.u_furBits ?_ ?_)

theorem State_irq_within {K : Nat} {b s : State} {a2 a3} (hk : K &&& 2560 = 2560) (h : Within K b s) :
    Within K b (State.irq s a2 a3) := by
  unfold State.irq
  repeat' (first
    | with_reducible assumption | with_reducible refine State_emit_within ?_ ?_ | exact mask_sub hk rfl
    | with_reducible refine Within.ite ?_ ?_ | split | dsimp -proj only | with_reducible refine Within.u_irqHeld ?_ ?_)

theorem furSync_within {K : Nat} {b s : State} {a2} (hk : K &&& 2305878193585785344 = 2305878193585785344) (h : Within K b s) :
    Within K b (furSync s a2) := by
  unfold furSync
  repeat' (first
    | with_reducible assumption | with_reducible refine Within.wr (i := 45) (by simp [Blk_ite]) (by decide) ?_ ?_ ?_
    | with_reducible refine Within.wrB (i := 45) (by simp [Blk_ite]) (by decide) ?_ ?_ ?_
    | with_reducible refine State_irq_within ?_ ?_ | exact mask_sub hk rfl | with_reducible refine Within.ite ?_ ?_
    | split | dsimp -proj only)

theorem State_setQueue_within {K : Nat} {b s : State} {a2 a3} (hk : K &&& 4096 = 4096) (h : Within K b s) :
    Within K b (State.setQueue s a2 a3) := by
  unfold State.setQueue
  repeat' (first
    | with_reducible assumption | exact mask_sub hk rfl | with_reducible refine Within.ite ?_ ?_ | split
    | dsimp -proj only | with_reducible refine Within.u_q ?_ ?_)

theorem hwPost_within {K : Nat} {b s : State} {a2 a3} (hk : K &&& 20752622267295341058 = 20752622267295341058) (h : Within K b s) :
    Within K b (hwPost s a2 a3) := by
  unfold hwPost
  repeat' (first
    | with_reducible assumption
    | with_reducible refine Within.incSat (i := 45) (by simp [Blk_ite]) (by decide) ?_ ?_ ?_
    | with_reducible refine Within.wr (i := 45) (by simp [Blk_ite]) (by decide) ?_ ?_ ?_
    | with_reducible refine State_setQueue_within ?_ ?_ | with_reducible refine furSync_within ?_ ?_
    | with_reducible refine furPut_within ?_ ?_ | exact mask_sub hk rfl | with_reducible refine Within.ite ?_ ?_
    | with_reducible refine Within.foldl (fun _ _ _ => ?_) ?_ | split | dsimp -proj only)

theorem lsPost_within {K : Nat} {b s : State} {a2 a3} (hk : K &&& 20752622267295341058 = 20752622267295341058) (h : Within K b s) :
    Within K b (lsPost s a2 a3) := by
  unfold lsPost
  repeat' (first
    | with_reducible assumption | with_reducible refine hwPost_within ?_ ?_ | exact mask_sub hk rfl
    | with_reducible refine Within.ite ?_ ?_ | split | dsimp -proj only)

theorem lsFile_within {K : Nat} {b s : State} {a2 a3 a4} (hk : K &&& 20752622267295734274 = 20752622267295734274) (h : Within K b s) :
    Within K b (lsFile s a2 a3 a4) := by
  unfold lsFile
  repeat' (first
    | with_reducible assumption | with_reducible refine lsPost_within ?_ ?_ | exact mask_sub hk rfl
    | with_reducible refine Within.ite ?_ ?_ | split | dsimp -proj only | with_reducible refine Within.u_lsKept1 ?_ ?_
    | with_reducible refine Within.u_lsKept0 ?_ ?_)

theorem lsRecord_within {K : Nat} {b s : State} {a2 a3 a4 a5} (hk : K &&& 20752622267295734274 = 20752622267295734274) (h : Within K b s) :
    Within K b (lsRecord s a2 a3 a4 a5) := by
  unfold lsRecord
  repeat' (first
    | with_reducible assumption | with_reducible refine lsFile_within ?_ ?_ | exact mask_sub hk rfl
    | with_reducible refine Within.ite ?_ ?_ | split | dsimp -proj only)

theorem State_setLs_within {K : Nat} {b s : State} {a2 a3} (hk : K &&& 32768 = 32768) (h : Within K b s) :
    Within K b (State.setLs s a2 a3) := by
  unfold State.setLs
  repeat' (first
    | with_reducible assumption | exact mask_sub hk rfl | with_reducible refine Within.ite ?_ ?_ | split
    | dsimp -proj only | with_reducible refine Within.u_ls ?_ ?_)

theorem lsSwitchOff_within {K : Nat} {b s : State} {a2 a3} (hk : K &&& 2306124484190437888 = 2306124484190437888) (h : Within K b s) :
    Within K b (lsSwitchOff s a2 a3) := by
  unfold lsSwitchOff
  repeat' (first
    | with_reducible assumption | with_reducible refine Within.wr (i := 48) (by simp [Blk_ite]) (by decide) ?_ ?_ ?_
    | with_reducible refine Within.clrBit (i := 48) (by simp [Blk_ite]) (by decide) ?_ ?_ ?_
    | with_reducible refine State_emit_within ?_ ?_ | with_reducible refine State_setLs_within ?_ ?_
    | exact mask_sub hk rfl | with_reducible refine Within.ite ?_ ?_ | split | dsimp -proj only)

theorem lsLatch_within {K : Nat} {b s : State} {a2 a3} (hk : K &&& 20752903742272477698 = 20752903742272477698) (h : Within K b s) :
    Within K b (lsLatch s a2 a3) := by
  unfold lsLatch
  repeat' (first
    | with_reducible assumption | with_reducible refine lsSwitchOff_within ?_ ?_
    | with_reducible refine lsRecord_within ?_ ?_ | exact mask_sub hk rfl | with_reducible refine Within.ite ?_ ?_
    | split | dsimp -proj only)

theorem lsFltSync_within {K : Nat} {b s : State} {a2} (hk : K &&& 2306124484190404608 = 2306124484190404608) (h : Within K b s) :
    Within K b (lsFltSync s a2) := by
  unfold lsFltSync
  repeat' (first
    | with_reducible assumption
    | with_reducible refine Within.putBit (i := 48) (by simp [Blk_ite]) (by decide) ?_ ?_ ?_ | exact mask_sub hk rfl
    | with_reducible refine Within.ite ?_ ?_ | split | dsimp -proj only)

theorem lsFault_within {K : Nat} {b s : State} {a2 a3} (hk : K &&& 2306124484190404608 = 2306124484190404608) (h : Within K b s) :
    Within K b (lsFault s a2 a3) := by
  unfold lsFault
  repeat' (first
    | with_reducible assumption | with_reducible refine Within.wr (i := 48) (by simp [Blk_ite]) (by decide) ?_ ?_ ?_
    | with_reducible refine lsFltSync_within ?_ ?_ | exact mask_sub hk rfl | with_reducible refine Within.ite ?_ ?_
    | split | dsimp -proj only)

theorem lsSwitchOn_within {K : Nat} {b s : State} {a2} (hk : K &&& 20752903742272477698 = 20752903742272477698) (h : Within K b s) :
    Within K b (lsSwitchOn s a2) := by
  unfold lsSwitchOn
  repeat' (first
    | with_reducible assumption
    | with_reducible refine Within.incSat (i := 48) (by simp [Blk_ite]) (by decide) ?_ ?_ ?_
    | with_reducible refine Within.wr (i := 48) (by simp [Blk_ite]) (by decide) ?_ ?_ ?_
    | with_reducible refine Within.incWrap (i := 48) (by simp [Blk_ite]) (by decide) ?_ ?_ ?_
    | with_reducible refine Within.setBit (i := 48) (by simp [Blk_ite]) (by decide) ?_ ?_ ?_
    | with_reducible refine State_emit_within ?_ ?_ | with_reducible refine lsRecord_within ?_ ?_
    | with_reducible refine State_setLs_within ?_ ?_ | exact mask_sub hk rfl | with_reducible refine Within.ite ?_ ?_
    | split | dsimp -proj only)

theorem lsUpdate_within {K : Nat} {b s : State} {a1} (hk : K &&& 20752903742272477698 = 20752903742272477698) (h : Within K b s) :
    Within K b (lsUpdate a1 s) := by
  unfold lsUpdate
  repeat' (first
    | with_reducible assumption | with_reducible refine Within.wr (i := 48) (by simp [Blk_ite]) (by decide) ?_ ?_ ?_
    | with_reducible refine lsSwitchOff_within ?_ ?_ | with_reducible refine lsSwitchOn_within ?_ ?_
    | with_reducible refine lsFault_within ?_ ?_ | with_reducible refine lsLatch_within ?_ ?_ | exact mask_sub hk rfl
    | with_reducible refine Within.ite ?_ ?_ | split | dsimp -proj only)

theorem lsFollowAll_within {K : Nat} {b s : State} (hk : K &&& 20752903742272477698 = 20752903742272477698) (h : Within K b s) :
    Within K b (lsFollowAll s) := by
  unfold lsFollowAll
  repeat' (first
    | with_reducible assumption | with_reducible refine lsUpdate_within ?_ ?_
    | with_reducible refine Within.forN (fun _ _ _ _ => ?_) ?_ | exact mask_sub hk rfl
    | with_reducible refine Within.ite ?_ ?_ | split | dsimp -proj only)

theorem followAll_within {K : Nat} {b s : State} (hk : K &&& 20754029642179844610 = 20754029642179844610) (h : Within K b s) :
    Within K b (followAll s) := by
  unfold followAll
  repeat' (first
    | with_reducible assumption | with_reducible refine lsFollowAll_within ?_ ?_
    | with_reducible refine dioFollowAll_within ?_ ?_ | exact mask_sub hk rfl | with_reducible refine Within.ite ?_ ?_
    | split | dsimp -proj only)

theorem outputsOff_within {K : Nat} {b s : State} (hk : K &&& 22087235869369874946 = 22087235869369874946) (h : Within K b s) :
    Within K b (outputsOff s) := by
  unfold outputsOff
  repeat' (first
    | with_reducible assumption | with_reducible refine Within.wr (i := 57) (by simp [Blk_ite]) (by decide) ?_ ?_ ?_
    | with_reducible refine followAll_within ?_ ?_ | with_reducible refine slsDown_within ?_ ?_ | exact mask_sub hk rfl
    | with_reducible refine Within.ite ?_ ?_ | split | dsimp -proj only | with_reducible refine Within.u_girth ?_ ?_)

theorem railsTo_within {K : Nat} {b s : State} {a2 a3} (hk : K &&& 2341871806232657920 = 2341871806232657920) (h : Within K b s) :
    Within K b (railsTo s a2 a3) := by
  unfold railsTo
  repeat' (first
    | with_reducible assumption | with_reducible refine Within.wr (i := 55) (by simp [Blk_ite]) (by decide) ?_ ?_ ?_
    | exact mask_sub hk rfl | with_reducible refine Within.ite ?_ ?_ | split | dsimp -proj only)

theorem wakeRelease_within {K : Nat} {b s : State} (hk : K &&& 2308094809027379712 = 2308094809027379712) (h : Within K b s) :
    Within K b (wakeRelease s) := by
  unfold wakeRelease
  repeat' (first
    | with_reducible assumption | with_reducible refine Within.wr (i := 51) (by simp [Blk_ite]) (by decide) ?_ ?_ ?_
    | with_reducible refine State_emit_within ?_ ?_ | exact mask_sub hk rfl | with_reducible refine Within.ite ?_ ?_
    | split | dsimp -proj only)

theorem settingsStore_within {K : Nat} {b s : State} (hk : K &&& 8589934640 = 8589934640) (h : Within K b s) :
    Within K b (settingsStore s) := by
  unfold settingsStore
  repeat' (first
    | with_reducible assumption | exact mask_sub hk rfl | with_reducible refine Within.ite ?_ ?_
    | with_reducible refine Within.foldl (fun _ _ _ => ?_) ?_ | split | dsimp -proj only
    | with_reducible refine Within.u_settings_settingsBytes ?_ ?_ | with_reducible refine Within.u_ses ?_ ?_)

theorem resetDio_within {K : Nat} {b s : State} (hk : K &&& 4611683819404656640 = 4611683819404656640) (h : Within K b s) :
    Within K b (resetDio s) := by
  unfold resetDio
  repeat' (first
    | with_reducible assumption | with_reducible refine Within.wr (i := 50) (by simp [Blk_ite]) (by decide) ?_ ?_ ?_
    | with_reducible refine State_setDio_within ?_ ?_ | with_reducible refine Within.forN (fun _ _ _ _ => ?_) ?_
    | with_reducible refine State_resetWindows_within (by first | decide | exact blkWindow_ok _ | (simp only [List.mem_cons, List.not_mem_nil, or_false, forall_eq_or_imp, forall_eq]; omega)) ?_ ?_
    | exact mask_sub hk rfl | with_reducible refine Within.ite ?_ ?_ | split | dsimp -proj only)

theorem resetLs_within {K : Nat} {b s : State} (hk : K &&& 4611683819404132352 = 4611683819404132352) (h : Within K b s) :
    Within K b (resetLs s) := by
  unfold resetLs
  repeat' (first
    | with_reducible assumption | with_reducible refine Within.wr (i := 48) (by simp [Blk_ite]) (by decide) ?_ ?_ ?_
    | with_reducible refine Within.forN (fun _ _ _ _ => ?_) ?_
    | with_reducible refine State_resetWindows_within (by first | decide | exact blkWindow_ok _ | (simp only [List.mem_cons, List.not_mem_nil, or_false, forall_eq_or_imp, forall_eq]; omega)) ?_ ?_
    | exact mask_sub hk rfl | with_reducible refine Within.ite ?_ ?_ | split | dsimp -proj only)

theorem State_degrade_within {K : Nat} {b s : State} {a2 a3} (hk : K &&& 3494793310839513088 = 3494793310839513088) (h : Within K b s) :
    Within K b (State.degrade s a2 a3) := by
  unfold State.degrade
  repeat' (first
    | with_reducible assumption | with_reducible refine subSync_within ?_ ?_ | exact mask_sub hk rfl
    | with_reducible refine Within.ite ?_ ?_ | split | dsimp -proj only | with_reducible refine Within.u_girth ?_ ?_)

theorem resetTilth_within {K : Nat} {b s : State} (hk : K &&& 4611683819672576000 = 4611683819672576000) (h : Within K b s) :
    Within K b (resetTilth s) := by
  unfold resetTilth
  repeat' (first
    | with_reducible assumption | with_reducible refine Within.wr (i := 46) (by simp [Blk_ite]) (by decide) ?_ ?_ ?_
    | with_reducible refine State_degrade_within ?_ ?_
    | with_reducible refine State_resetRegs_within (by first | decide | (simp only [F.CLO_SLOT_LOADED, F.CAN_NBT_NBRP, F.CAN_DBT_DBRP]; omega)) ?_ ?_
    | exact mask_sub hk rfl | with_reducible refine Within.ite ?_ ?_ | split | dsimp -proj only
    | with_reducible refine Within.u_til ?_ ?_)

theorem State_setCan_within {K : Nat} {b s : State} {a2 a3} (hk : K &&& 536870912 = 536870912) (h : Within K b s) :
    Within K b (State.setCan s a2 a3) := by
  unfold State.setCan
  repeat' (first
    | with_reducible assumption | exact mask_sub hk rfl | with_reducible refine Within.ite ?_ ?_ | split
    | dsimp -proj only | with_reducible refine Within.u_can ?_ ?_)

theorem setCanBuf_within {K : Nat} {b s : State} {a2 a3 a4} (hk : K &&& 536870912 = 536870912) (h : Within K b s) :
    Within K b (setCanBuf s a2 a3 a4) := by
  unfold setCanBuf
  repeat' (first
    | with_reducible assumption | with_reducible refine State_setCan_within ?_ ?_ | exact mask_sub hk rfl
    | with_reducible refine Within.ite ?_ ?_ | split | dsimp -proj only)

theorem bufPut_within {K : Nat} {b s : State} {a2 a3 a4} (hk : K &&& 2308094809027379200 = 2308094809027379200) (h : Within K b s) :
    Within K b (bufPut s a2 a3 a4) := by
  unfold bufPut
  repeat' (first
    | with_reducible assumption | with_reducible refine Within.wr (i := 51) (by simp [Blk_ite]) (by decide) ?_ ?_ ?_
    | exact mask_sub hk rfl | with_reducible refine Within.ite ?_ ?_ | split | dsimp -proj only)

theorem bufLoad_within {K : Nat} {b s : State} {a2 a3 a4} (hk : K &&& 2308094809027379200 = 2308094809027379200) (h : Within K b s) :
    Within K b (bufLoad s a2 a3 a4) := by
  unfold bufLoad
  repeat' (first
    | with_reducible assumption | with_reducible refine Within.wrB (i := 51) (by simp [Blk_ite]) (by decide) ?_ ?_ ?_
    | with_reducible refine Within.wr (i := 51) (by simp [Blk_ite]) (by decide) ?_ ?_ ?_
    | with_reducible refine Within.forN (fun _ _ _ _ => ?_) ?_ | exact mask_sub hk rfl
    | with_reducible refine Within.ite ?_ ?_ | split | dsimp -proj only)

theorem sysNext_within {K : Nat} {b s : State} {a2 a3} (hk : K &&& 2308094809564250112 = 2308094809564250112) (h : Within K b s) :
    Within K b (sysNext s a2 a3) := by
  unfold sysNext
  repeat' (first
    | with_reducible assumption | with_reducible refine Within.wr (i := 51) (by simp [Blk_ite]) (by decide) ?_ ?_ ?_
    | with_reducible refine bufLoad_within ?_ ?_ | with_reducible refine bufPut_within ?_ ?_
    | with_reducible refine State_setCan_within ?_ ?_ | exact mask_sub hk rfl | with_reducible refine Within.ite ?_ ?_
    | split | dsimp -proj only)

theorem bufRecord_within {K : Nat} {b s : State} {a2 a3 a4 a5 a6} (hk : K &&& 20752622267295341058 = 20752622267295341058) (h : Within K b s) :
    Within K b (bufRecord s a2 a3 a4 a5 a6) := by
  unfold bufRecord
  repeat' (first
    | with_reducible assumption | with_reducible refine hwPost_within ?_ ?_ | exact mask_sub hk rfl
    | with_reducible refine Within.ite ?_ ?_ | split | dsimp -proj only)

theorem bufAbort_within {K : Nat} {b s : State} {a2 a3 a4 a5} (hk : K &&& 20754874067645897218 = 20754874067645897218) (h : Within K b s) :
    Within K b (bufAbort s a2 a3 a4 a5) := by
  unfold bufAbort
  repeat' (first
    | with_reducible assumption | with_reducible refine bufRecord_within ?_ ?_
    | with_reducible refine sysNext_within ?_ ?_ | with_reducible refine bufPut_within ?_ ?_
    | with_reducible refine setCanBuf_within ?_ ?_ | exact mask_sub hk rfl | with_reducible refine Within.ite ?_ ?_
    | split | dsimp -proj only)

theorem canSync_within {K : Nat} {b s : State} {a1} (hk : K &&& 20754874067645897218 = 20754874067645897218) (h : Within K b s) :
    Within K b (canSync a1 s) := by
  unfold canSync
  repeat' (first
    | with_reducible assumption | with_reducible refine Within.wr (i := 51) (by simp [Blk_ite]) (by decide) ?_ ?_ ?_
    | with_reducible refine bufPut_within ?_ ?_ | with_reducible refine bufAbort_within ?_ ?_
    | with_reducible refine Within.forN (fun _ _ _ _ => ?_) ?_ | exact mask_sub hk rfl
    | with_reducible refine Within.ite ?_ ?_ | split | dsimp -proj only)

theorem resetBlk_within {K : Nat} {b s : State} {a1} (hk : K &&& 27670113920944716290 = 27670113920944716290) (h : Within K b s) :
    Within K b (resetBlk a1 s) := by
  unfold resetBlk
  repeat' (first
    | with_reducible assumption
    | with_reducible refine Within.setBit (i := 55) (by simp [Blk_ite]) (by decide) ?_ ?_ ?_
    | with_reducible refine canSync_within ?_ ?_
    | with_reducible refine State_resetWindows_within (by first | decide | exact blkWindow_ok _ | (simp only [List.mem_cons, List.not_mem_nil, or_false, forall_eq_or_imp, forall_eq]; omega)) ?_ ?_
    | with_reducible refine resetTilth_within ?_ ?_ | exact mask_sub hk rfl | with_reducible refine Within.ite ?_ ?_
    | split | dsimp -proj only | with_reducible refine Within.u_can ?_ ?_ | with_reducible refine Within.u_ses ?_ ?_
    | with_reducible refine Within.u_girth ?_ ?_ | with_reducible refine Within.u_pt ?_ ?_
    | with_reducible refine Within.u_arb ?_ ?_)

theorem State_dropMem_within {K : Nat} {b s : State} {a1 a2} (hk : K &&& 18446744073709551618 = 18446744073709551618) (h : Within K b s) :
    Within K b (State.dropMem s a1 a2) := by
  exact Within.u_mem_furBits (Memory.wf_filter _) hk h

theorem resetCore_within {K : Nat} {b s : State} {a2} (hk : K &&& 27670113945641302578 = 27670113945641302578) (h : Within K b s) :
    Within K b (resetCore s a2) := by
  unfold resetCore
  repeat' (first
    | with_reducible assumption | with_reducible refine Within.wr (i := 51) (by simp [Blk_ite]) (by decide) ?_ ?_ ?_
    | with_reducible refine Within.wr (i := 55) (by simp [Blk_ite]) (by decide) ?_ ?_ ?_
    | with_reducible refine State_dropMem_within ?_ ?_
    | with_reducible refine State_resetRegs_within (by first | decide | (simp only [F.CLO_SLOT_LOADED, F.CAN_NBT_NBRP, F.CAN_DBT_DBRP]; omega)) ?_ ?_
    | with_reducible refine resetBlk_within ?_ ?_ | with_reducible refine Within.forN (fun _ _ _ _ => ?_) ?_
    | with_reducible refine State_resetWindows_within (by first | decide | exact blkWindow_ok _ | (simp only [List.mem_cons, List.not_mem_nil, or_false, forall_eq_or_imp, forall_eq]; omega)) ?_ ?_
    | with_reducible refine resetLs_within ?_ ?_ | with_reducible refine resetDio_within ?_ ?_
    | with_reducible refine settingsStore_within ?_ ?_ | with_reducible refine wakeRelease_within ?_ ?_
    | exact mask_sub hk rfl | with_reducible refine Within.ite ?_ ?_ | split | dsimp -proj only
    | with_reducible refine Within.u_irqHeld_q_can_ns_gw_br_ses_pc ?_ ?_ | with_reducible refine Within.u_til ?_ ?_
    | with_reducible refine Within.u_arb_girth ?_ ?_)

theorem capClearAll_within {K : Nat} {b s : State} (hk : K &&& 2 = 2) (h : Within K b s) : Within K b (capClearAll s) := by
  refine Within.u_mem (Memory.wf_filterMap fun c d e => ?_) hk h
  dsimp only at e
  split at e
  · split at e
    · cases e
    · cases e
      exact ⟨rfl, fun _ => by assumption⟩
  · cases e
    exact ⟨rfl, id⟩

theorem resetSafe_within {K : Nat} {b s : State} {a2} (hk : K &&& 27670113911807418370 = 27670113911807418370) (h : Within K b s) :
    Within K b (resetSafe s a2) := by
  unfold resetSafe
  repeat' (first
    | with_reducible assumption | with_reducible refine Within.wr (i := 55) (by simp [Blk_ite]) (by decide) ?_ ?_ ?_
    | with_reducible refine subSync_within ?_ ?_ | with_reducible refine State_dropMem_within ?_ ?_
    | with_reducible refine State_resetWindows_within (by first | decide | exact blkWindow_ok _ | (simp only [List.mem_cons, List.not_mem_nil, or_false, forall_eq_or_imp, forall_eq]; omega)) ?_ ?_
    | with_reducible refine capClearAll_within ?_ ?_ | exact mask_sub hk rfl | with_reducible refine Within.ite ?_ ?_
    | split | dsimp -proj only | with_reducible refine Within.u_aon ?_ ?_
    | with_reducible refine Within.u_pom_trl_pt_lat_msr_cap ?_ ?_ | with_reducible refine Within.u_arb_girth ?_ ?_)

theorem shutdown_within {K : Nat} {b s : State} (hk : K &&& 27670113945899678258 = 27670113945899678258) (h : Within K b s) :
    Within K b (shutdown s) := by
  unfold shutdown
  repeat' (first
    | with_reducible assumption | with_reducible refine resetSafe_within ?_ ?_
    | with_reducible refine resetCore_within ?_ ?_ | with_reducible refine railsTo_within ?_ ?_
    | with_reducible refine outputsOff_within ?_ ?_ | exact mask_sub hk rfl | with_reducible refine Within.ite ?_ ?_
    | split | dsimp -proj only | with_reducible refine Within.u_girth_ses ?_ ?_)

theorem powerFailRecord_within {K : Nat} {b s : State} (hk : K &&& 68719476736 = 68719476736) (h : Within K b s) :
    Within K b (powerFailRecord s) := by
  unfold powerFailRecord
  repeat' (first
    | with_reducible assumption | exact mask_sub hk rfl | with_reducible refine Within.ite ?_ ?_ | split
    | dsimp -proj only | with_reducible refine Within.u_grf ?_ ?_)

theorem feedChannels_within {K : Nat} {b s : State} {a1 a2}
    (hf : ∀ n t, Within K b t → Within K b (a2 n t)) (h : Within K b s) : Within K b (feedChannels a1 a2 s) :=
  Within.forN (fun _ _ _ h => hf _ _ h) h

theorem lsFeedLost_within {K : Nat} {b s : State} {a1} (hk : K &&& 20752903742272477698 = 20752903742272477698) (h : Within K b s) :
    Within K b (lsFeedLost a1 s) := by
  unfold lsFeedLost
  repeat' (first
    | with_reducible assumption | with_reducible refine Within.wr (i := 48) (by simp [Blk_ite]) (by decide) ?_ ?_ ?_
    | with_reducible refine State_setLs_within ?_ ?_ | with_reducible refine lsSwitchOff_within ?_ ?_
    | with_reducible refine lsUpdate_within ?_ ?_ | exact mask_sub hk rfl | with_reducible refine Within.ite ?_ ?_
    | split | dsimp -proj only)

theorem State_took_within {K : Nat} {b s : State} (hk : K &&& 128 = 128) (h : Within K b s) :
    Within K b (State.took s) := by
  exact Within.u_free (Nat.le_succ _) hk h

theorem lsUnitRecord_within {K : Nat} {b s : State} {a2 a3 a4} (hk : K &&& 20752622267295734402 = 20752622267295734402) (h : Within K b s) :
    Within K b (lsUnitRecord s a2 a3 a4) := by
  unfold lsUnitRecord
  repeat' (first
    | with_reducible assumption | with_reducible refine State_took_within ?_ ?_
    | with_reducible refine lsFile_within ?_ ?_ | exact mask_sub hk rfl | with_reducible refine Within.ite ?_ ?_
    | split | dsimp -proj only)

theorem lsGo_within {K : Nat} {b s : State} {a2} (hk : K &&& 20752903742272543234 = 20752903742272543234) (h : Within K b s) :
    Within K b (lsGo s a2) := by
  unfold lsGo
  repeat' (first
    | with_reducible assumption | with_reducible refine lsSwitchOn_within ?_ ?_ | exact mask_sub hk rfl
    | with_reducible refine Within.ite ?_ ?_ | with_reducible refine Within.foldl (fun _ _ _ => ?_) ?_ | split
    | dsimp -proj only | with_reducible refine Within.u_lsStag ?_ ?_)

theorem lsStaggered_within {K : Nat} {b s : State} {a2 a3} (hk : K &&& 20752903742272543234 = 20752903742272543234) (h : Within K b s) :
    Within K b (lsStaggered s a2 a3) := by
  unfold lsStaggered
  repeat' (first
    | with_reducible assumption | with_reducible refine Within.wr (i := 48) (by simp [Blk_ite]) (by decide) ?_ ?_ ?_
    | with_reducible refine lsUpdate_within ?_ ?_ | with_reducible refine lsGo_within ?_ ?_
    | with_reducible refine State_setLs_within ?_ ?_ | exact mask_sub hk rfl | with_reducible refine Within.ite ?_ ?_
    | with_reducible refine Within.foldl (fun _ _ _ => ?_) ?_ | split | dsimp -proj only)

theorem lsFeedBack_within {K : Nat} {b s : State} {a1} (hk : K &&& 20752903742272543234 = 20752903742272543234) (h : Within K b s) :
    Within K b (lsFeedBack a1 s) := by
  unfold lsFeedBack
  repeat' (first
    | with_reducible assumption | with_reducible refine Within.wr (i := 48) (by simp [Blk_ite]) (by decide) ?_ ?_ ?_
    | with_reducible refine lsUpdate_within ?_ ?_ | with_reducible refine lsStaggered_within ?_ ?_
    | with_reducible refine State_setLs_within ?_ ?_ | exact mask_sub hk rfl | with_reducible refine Within.ite ?_ ?_
    | split | dsimp -proj only)

theorem State_hwFault_within {K : Nat} {b s : State} {a1 a2} (hk : K &&& 1024 = 1024) (h : Within K b s) :
    Within K b (State.hwFault s a1 a2) := by
  exact Within.u_faults (List.prefix_append _ _) hk h

theorem safeFault_within {K : Nat} {b s : State} (hk : K &&& 27670113911807418370 = 27670113911807418370) (h : Within K b s) :
    Within K b (safeFault s) := by
  unfold safeFault
  repeat' (first
    | with_reducible assumption | with_reducible refine resetSafe_within ?_ ?_
    | with_reducible refine slsDown_within ?_ ?_ | exact mask_sub hk rfl | with_reducible refine Within.ite ?_ ?_
    | split | dsimp -proj only | with_reducible refine Within.u_pom ?_ ?_)

theorem serviceEnd_within {K : Nat} {b s : State} (hk : K &&& 20754029642179844610 = 20754029642179844610) (h : Within K b s) :
    Within K b (serviceEnd s) := by
  unfold serviceEnd
  repeat' (first
    | with_reducible assumption | with_reducible refine State_setDio_within ?_ ?_
    | with_reducible refine dioUpdate_within ?_ ?_ | with_reducible refine State_setLs_within ?_ ?_
    | with_reducible refine lsUpdate_within ?_ ?_ | with_reducible refine Within.forN (fun _ _ _ _ => ?_) ?_
    | exact mask_sub hk rfl | with_reducible refine Within.ite ?_ ?_ | split | dsimp -proj only)

theorem canSystem_within {K : Nat} {b s : State} {a2 a3 a4} (hk : K &&& 2308094809564250112 = 2308094809564250112) (h : Within K b s) :
    Within K b (canSystem s a2 a3 a4) := by
  unfold canSystem
  repeat' (first
    | with_reducible assumption | with_reducible refine State_setCan_within ?_ ?_
    | with_reducible refine sysNext_within ?_ ?_ | exact mask_sub hk rfl | with_reducible refine Within.ite ?_ ?_
    | split | dsimp -proj only)

theorem nsSend_within {K : Nat} {b s : State} {a2 a3 a4} (hk : K &&& 2308094809564250112 = 2308094809564250112) (h : Within K b s) :
    Within K b (nsSend s a2 a3 a4) := by
  unfold nsSend
  repeat' (first
    | with_reducible assumption | with_reducible refine canSystem_within ?_ ?_ | exact mask_sub hk rfl
    | with_reducible refine Within.ite ?_ ?_ | split | dsimp -proj only)

theorem nsTo_within {K : Nat} {b s : State} {a2} (hk : K &&& 2308094809027379200 = 2308094809027379200) (h : Within K b s) :
    Within K b (nsTo s a2) := by
  unfold nsTo
  repeat' (first
    | with_reducible assumption | with_reducible refine Within.wr (i := 51) (by simp [Blk_ite]) (by decide) ?_ ?_ ?_
    | exact mask_sub hk rfl | with_reducible refine Within.ite ?_ ?_ | split | dsimp -proj only)

theorem nsEnd_within {K : Nat} {b s : State} (hk : K &&& 2308094810101121024 = 2308094810101121024) (h : Within K b s) :
    Within K b (nsEnd s) := by
  unfold nsEnd
  repeat' (first
    | with_reducible assumption | with_reducible refine nsTo_within ?_ ?_ | exact mask_sub hk rfl
    | with_reducible refine Within.ite ?_ ?_ | split | dsimp -proj only | with_reducible refine Within.u_ns ?_ ?_)

theorem wakeDrive_within {K : Nat} {b s : State} (hk : K &&& 2308094810101121536 = 2308094810101121536) (h : Within K b s) :
    Within K b (wakeDrive s) := by
  unfold wakeDrive
  repeat' (first
    | with_reducible assumption | with_reducible refine Within.wr (i := 51) (by simp [Blk_ite]) (by decide) ?_ ?_ ?_
    | with_reducible refine State_emit_within ?_ ?_ | exact mask_sub hk rfl | with_reducible refine Within.ite ?_ ?_
    | split | dsimp -proj only | with_reducible refine Within.u_ns ?_ ?_)

theorem nsAbort_within {K : Nat} {b s : State} (hk : K &&& 2308094810637992448 = 2308094810637992448) (h : Within K b s) :
    Within K b (nsAbort s) := by
  unfold nsAbort
  repeat' (first
    | with_reducible assumption
    | with_reducible refine Within.incSat (i := 51) (by simp [Blk_ite]) (by decide) ?_ ?_ ?_
    | with_reducible refine Within.wr (i := 51) (by simp [Blk_ite]) (by decide) ?_ ?_ ?_
    | with_reducible refine wakeDrive_within ?_ ?_ | with_reducible refine nsEnd_within ?_ ?_
    | with_reducible refine nsSend_within ?_ ?_ | exact mask_sub hk rfl | with_reducible refine Within.ite ?_ ?_
    | split | dsimp -proj only)

theorem nsSync_within {K : Nat} {b s : State} (hk : K &&& 2308094810637992448 = 2308094810637992448) (h : Within K b s) :
    Within K b (nsSync s) := by
  unfold nsSync
  repeat' (first
    | with_reducible assumption | with_reducible refine Within.wrB (i := 51) (by simp [Blk_ite]) (by decide) ?_ ?_ ?_
    | with_reducible refine Within.wr (i := 51) (by simp [Blk_ite]) (by decide) ?_ ?_ ?_
    | with_reducible refine nsAbort_within ?_ ?_ | exact mask_sub hk rfl | with_reducible refine Within.ite ?_ ?_
    | split | dsimp -proj only)

theorem canSyncAll_within {K : Nat} {b s : State} (hk : K &&& 20754874067645897218 = 20754874067645897218) (h : Within K b s) :
    Within K b (canSyncAll s) := by
  unfold canSyncAll
  repeat' (first
    | with_reducible assumption | with_reducible refine canSync_within ?_ ?_
    | with_reducible refine Within.forN (fun _ _ _ _ => ?_) ?_ | exact mask_sub hk rfl
    | with_reducible refine Within.ite ?_ ?_ | split | dsimp -proj only)

theorem setMode_within {K : Nat} {b s : State} {a1 a2} (hv : 1 ≤ a1 ∧ a1 ≤ 8) (hk : K &&& 21943824370345458179 = 21943824370345458179)
    (h : Within K b s) : Within K b (setMode s a1 a2) := by
  unfold setMode
  have hg : K &&& 2 ^ 55 = 2 ^ 55 := mask_sub hk rfl
  have hu : K &&& 2 ^ 61 = 2 ^ 61 := mask_sub hk rfl
  exact nsSync_within (mask_sub hk rfl) (canSyncAll_within (mask_sub hk rfl) (subSync_within (mask_sub hk rfl)
    (Within.u_girth (mask_sub hk rfl) (Within.wr (i := 55) (by simp) (by decide) hg hu (Within.wr_mode hv (mask_sub hk rfl) hu
      (Within.wr (i := 55) (by simp) (by decide) hg hu h))))))

theorem strEvent_within {K : Nat} {b s : State} (hk : K &&& 1048704 = 1048704) (h : Within K b s) :
    Within K b (strEvent s) := by
  unfold strEvent
  repeat' (first
    | with_reducible assumption | exact mask_sub hk rfl | with_reducible refine Within.ite ?_ ?_
    | exact Nat.le_add_right _ _ | split | dsimp -proj only | with_reducible refine Within.u_free_str ?_ ?_ ?_)

theorem heldSync_within {K : Nat} {b s : State} (hk : K &&& 2306405959167115264 = 2306405959167115264) (h : Within K b s) :
    Within K b (heldSync s) := by
  unfold heldSync
  repeat' (first
    | with_reducible assumption | with_reducible refine Within.wr (i := 49) (by simp [Blk_ite]) (by decide) ?_ ?_ ?_
    | exact mask_sub hk rfl | with_reducible refine Within.ite ?_ ?_ | split | dsimp -proj only)

theorem applyCodes_within {K : Nat} {b s : State} (hk : K &&& 20754592592134314626 = 20754592592134314626) (h : Within K b s) :
    Within K b (applyCodes s) := by
  unfold applyCodes
  repeat' (first
    | with_reducible assumption
    | with_reducible refine Within.incSat (i := 49) (by simp [Blk_ite]) (by decide) ?_ ?_ ?_
    | with_reducible refine Within.wr (i := 49) (by simp [Blk_ite]) (by decide) ?_ ?_ ?_
    | with_reducible refine heldSync_within ?_ ?_ | with_reducible refine followAll_within ?_ ?_
    | with_reducible refine strEvent_within ?_ ?_ | exact mask_sub hk rfl | with_reducible refine Within.ite ?_ ?_
    | split | dsimp -proj only | with_reducible refine Within.u_str ?_ ?_)

theorem holdStart_within {K : Nat} {b s : State} (hk : K &&& 20754592592134314626 = 20754592592134314626) (h : Within K b s) :
    Within K b (holdStart s) := by
  unfold holdStart
  repeat' (first
    | with_reducible assumption | with_reducible refine Within.wr (i := 49) (by simp [Blk_ite]) (by decide) ?_ ?_ ?_
    | with_reducible refine Within.incSat (i := 49) (by simp [Blk_ite]) (by decide) ?_ ?_ ?_
    | with_reducible refine heldSync_within ?_ ?_ | with_reducible refine followAll_within ?_ ?_
    | with_reducible refine applyCodes_within ?_ ?_ | with_reducible refine strEvent_within ?_ ?_
    | exact mask_sub hk rfl | with_reducible refine Within.ite ?_ ?_ | split | dsimp -proj only
    | with_reducible refine Within.u_str ?_ ?_)

theorem enterHold_within {K : Nat} {b s : State} {a2} (hk : K &&& 21945794695184431747 = 21945794695184431747) (h : Within K b s) :
    Within K b (enterHold s a2) := by
  unfold enterHold
  repeat' (first
    | with_reducible assumption | with_reducible refine followAll_within ?_ ?_
    | with_reducible refine holdStart_within ?_ ?_
    | with_reducible refine setMode_within (by first | decide | exact handoffReturn_legal _ | exact bootTarget_legal _) ?_ ?_
    | with_reducible refine serviceEnd_within ?_ ?_ | exact mask_sub hk rfl | with_reducible refine Within.ite ?_ ?_
    | split | dsimp -proj only)

theorem brNote_within {K : Nat} {b s : State} {a2 a3} (hk : K &&& 4294967296 = 4294967296) (h : Within K b s) :
    Within K b (brNote s a2 a3) := by
  unfold brNote
  repeat' (first
    | with_reducible assumption | exact mask_sub hk rfl | with_reducible refine Within.ite ?_ ?_ | split
    | dsimp -proj only | with_reducible refine Within.u_br ?_ ?_)

theorem localReply_within {K : Nat} {b s : State} {a2 a3 a4} (hk : K &&& 20752622267295341058 = 20752622267295341058) (h : Within K b s) :
    Within K b (localReply s a2 a3 a4) := by
  unfold localReply
  repeat' (first
    | with_reducible assumption | with_reducible refine hwPost_within ?_ ?_ | exact mask_sub hk rfl
    | with_reducible refine Within.ite ?_ ?_ | split | dsimp -proj only)

theorem setSession_within {K : Nat} {b s : State} {a2 a3} (hk : K &&& 8589934592 = 8589934592) (h : Within K b s) :
    Within K b (setSession s a2 a3) := by
  unfold setSession
  repeat' (first
    | with_reducible assumption | exact mask_sub hk rfl | with_reducible refine Within.ite ?_ ?_ | split
    | dsimp -proj only | with_reducible refine Within.u_ses ?_ ?_)

theorem segSend_within {K : Nat} {b s : State} {a2 a3 a4} (hk : K &&& 2308094818154184704 = 2308094818154184704) (h : Within K b s) :
    Within K b (segSend s a2 a3 a4) := by
  unfold segSend
  repeat' (first
    | with_reducible assumption | with_reducible refine canSystem_within ?_ ?_ | exact mask_sub hk rfl
    | with_reducible refine Within.ite ?_ ?_ | split | dsimp -proj only | with_reducible refine Within.u_ses ?_ ?_)

theorem stitchSend_within {K : Nat} {b s : State} {a2 a3 a4} (hk : K &&& 2308094818154185216 = 2308094818154185216) (h : Within K b s) :
    Within K b (stitchSend s a2 a3 a4) := by
  unfold stitchSend
  repeat' (first
    | with_reducible assumption | with_reducible refine segSend_within ?_ ?_
    | with_reducible refine State_emit_within ?_ ?_ | exact mask_sub hk rfl | with_reducible refine Within.ite ?_ ?_
    | split | dsimp -proj only)

theorem sesReply_within {K : Nat} {b s : State} {a2 a3 a4 a5} (hk : K &&& 20754874076235831810 = 20754874076235831810) (h : Within K b s) :
    Within K b (sesReply s a2 a3 a4 a5) := by
  unfold sesReply
  repeat' (first
    | with_reducible assumption | with_reducible refine stitchSend_within ?_ ?_
    | with_reducible refine setSession_within ?_ ?_ | with_reducible refine localReply_within ?_ ?_
    | exact mask_sub hk rfl | with_reducible refine Within.ite ?_ ?_ | split | dsimp -proj only)

theorem fenceEnd_within {K : Nat} {b s : State} {a2 a3} (hk : K &&& 20759377680158169602 = 20759377680158169602) (h : Within K b s) :
    Within K b (fenceEnd s a2 a3) := by
  unfold fenceEnd
  repeat' (first
    | with_reducible assumption | with_reducible refine Within.wr (i := 52) (by simp [Blk_ite]) (by decide) ?_ ?_ ?_
    | with_reducible refine sesReply_within ?_ ?_ | exact mask_sub hk rfl | with_reducible refine Within.ite ?_ ?_
    | split | dsimp -proj only | with_reducible refine Within.u_br ?_ ?_)

theorem brLast_within {K : Nat} {b s : State} {a2 a3 a4 a5} (hk : K &&& 2310346608841064448 = 2310346608841064448) (h : Within K b s) :
    Within K b (brLast s a2 a3 a4 a5) := by
  unfold brLast
  repeat' (first
    | with_reducible assumption | with_reducible refine Within.wr (i := 52) (by simp [Blk_ite]) (by decide) ?_ ?_ ?_
    | exact mask_sub hk rfl | with_reducible refine Within.ite ?_ ?_ | split | dsimp -proj only)

theorem fenceDone_within {K : Nat} {b s : State} {a2 a3} (hk : K &&& 20759377680158169602 = 20759377680158169602) (h : Within K b s) :
    Within K b (fenceDone s a2 a3) := by
  unfold fenceDone
  repeat' (first
    | with_reducible assumption | with_reducible refine brLast_within ?_ ?_
    | with_reducible refine fenceEnd_within ?_ ?_ | exact mask_sub hk rfl | with_reducible refine Within.ite ?_ ?_
    | split | dsimp -proj only)

theorem fenceStep_within {K : Nat} {b s : State} {a2 a3 a4} (hk : K &&& 20759377680158169602 = 20759377680158169602) (h : Within K b s) :
    Within K b (fenceStep s a2 a3 a4) := by
  unfold fenceStep
  repeat' (first
    | with_reducible assumption | with_reducible refine fenceDone_within ?_ ?_
    | with_reducible refine brNote_within ?_ ?_ | exact mask_sub hk rfl | with_reducible refine Within.ite ?_ ?_
    | split | dsimp -proj only | with_reducible refine Within.u_br ?_ ?_)

theorem brRecord_within {K : Nat} {b s : State} {a2 a3 a4 a5 a6} (hk : K &&& 20757125866922711554 = 20757125866922711554) (h : Within K b s) :
    Within K b (brRecord s a2 a3 a4 a5 a6) := by
  unfold brRecord
  repeat' (first
    | with_reducible assumption
    | with_reducible refine Within.incSat (i := 52) (by simp [Blk_ite]) (by decide) ?_ ?_ ?_
    | with_reducible refine hwPost_within ?_ ?_ | exact mask_sub hk rfl | with_reducible refine Within.ite ?_ ?_
    | split | dsimp -proj only)

theorem postFail_within {K : Nat} {b s : State} {a2 a3} (hk : K &&& 20759377680158169602 = 20759377680158169602) (h : Within K b s) :
    Within K b (postFail s a2 a3) := by
  unfold postFail
  repeat' (first
    | with_reducible assumption | with_reducible refine brRecord_within ?_ ?_
    | with_reducible refine fenceStep_within ?_ ?_ | exact mask_sub hk rfl | with_reducible refine Within.ite ?_ ?_
    | split | dsimp -proj only | with_reducible refine Within.u_br ?_ ?_)

theorem postFailAll_within {K : Nat} {b s : State} {a2 a3} (hk : K &&& 20759377680158169602 = 20759377680158169602) (h : Within K b s) :
    Within K b (postFailAll s a2 a3) := by
  unfold postFailAll
  repeat' (first
    | with_reducible assumption | with_reducible refine postFail_within ?_ ?_ | exact mask_sub hk rfl
    | with_reducible refine Within.ite ?_ ?_ | with_reducible refine Within.foldl (fun _ _ _ => ?_) ?_ | split
    | dsimp -proj only)

theorem outBusySync_within {K : Nat} {b s : State} (hk : K &&& 2449958197289549824 = 2449958197289549824) (h : Within K b s) :
    Within K b (outBusySync s) := by
  unfold outBusySync
  repeat' (first
    | with_reducible assumption | with_reducible refine Within.wrB (i := 57) (by simp [Blk_ite]) (by decide) ?_ ?_ ?_
    | exact mask_sub hk rfl | with_reducible refine Within.ite ?_ ?_ | split | dsimp -proj only)

theorem State_answer_within {K : Nat} {b s : State} {a2 a3} (hk : K &&& 256 = 256) (h : Within K b s) :
    Within K b (State.answer s a2 a3) := by
  unfold State.answer
  repeat' (first
    | with_reducible assumption | exact mask_sub hk rfl | with_reducible refine Within.ite ?_ ?_ | split
    | dsimp -proj only | with_reducible refine Within.u_resp ?_ ?_)

theorem txEnd_within {K : Nat} {b s : State} {a2 a3 a4} (hk : K &&& 2454461801211887872 = 2454461801211887872) (h : Within K b s) :
    Within K b (txEnd s a2 a3 a4) := by
  unfold txEnd
  repeat' (first
    | with_reducible assumption | with_reducible refine State_answer_within ?_ ?_
    | with_reducible refine brLast_within ?_ ?_ | with_reducible refine outBusySync_within ?_ ?_
    | exact mask_sub hk rfl | with_reducible refine Within.ite ?_ ?_ | split | dsimp -proj only
    | with_reducible refine Within.u_br ?_ ?_)

theorem txEndAll_within {K : Nat} {b s : State} {a2 a3} (hk : K &&& 2454461801211887872 = 2454461801211887872) (h : Within K b s) :
    Within K b (txEndAll s a2 a3) := by
  unfold txEndAll
  repeat' (first
    | with_reducible assumption | with_reducible refine txEnd_within ?_ ?_ | exact mask_sub hk rfl
    | with_reducible refine Within.ite ?_ ?_ | with_reducible refine Within.foldl (fun _ _ _ => ?_) ?_ | split
    | dsimp -proj only)

theorem xlDrop_within {K : Nat} {b s : State} (hk : K &&& 20903492868234025730 = 20903492868234025730) (h : Within K b s) :
    Within K b (xlDrop s) := by
  unfold xlDrop
  repeat' (first
    | with_reducible assumption | with_reducible refine txEndAll_within ?_ ?_
    | with_reducible refine postFailAll_within ?_ ?_ | exact mask_sub hk rfl | with_reducible refine Within.ite ?_ ?_
    | split | dsimp -proj only)

theorem jobHeader_within {K : Nat} {b s : State} {a2 a3} (hk : K &&& 2 = 2) (h : Within K b s) :
    Within K b (jobHeader s a2 a3) := by
  unfold jobHeader
  repeat' (first
    | with_reducible assumption | with_reducible refine State_putBytes_within ?_ ?_ | exact mask_sub hk rfl
    | with_reducible refine Within.ite ?_ ?_ | split | dsimp -proj only)

theorem State_setJob_within {K : Nat} {b s : State} {a2 a3} (hk : K &&& 274877906944 = 274877906944) (h : Within K b s) :
    Within K b (State.setJob s a2 a3) := by
  unfold State.setJob
  repeat' (first
    | with_reducible assumption | exact mask_sub hk rfl | with_reducible refine Within.ite ?_ ?_ | split
    | dsimp -proj only | with_reducible refine Within.u_jobs ?_ ?_)

theorem jobNotice_within {K : Nat} {b s : State} {a2} (hk : K &&& 20752622267295341058 = 20752622267295341058) (h : Within K b s) :
    Within K b (jobNotice s a2) := by
  unfold jobNotice
  repeat' (first
    | with_reducible assumption | with_reducible refine hwPost_within ?_ ?_ | exact mask_sub hk rfl
    | with_reducible refine Within.ite ?_ ?_ | split | dsimp -proj only)

theorem jobTo_within {K : Nat} {b s : State} {a2 a3 a4} (hk : K &&& 20752692910917425666 = 20752692910917425666) (h : Within K b s) :
    Within K b (jobTo s a2 a3 a4) := by
  unfold jobTo
  repeat' (first
    | with_reducible assumption | with_reducible refine Within.wr (i := 46) (by simp [Blk_ite]) (by decide) ?_ ?_ ?_
    | with_reducible refine jobNotice_within ?_ ?_ | with_reducible refine State_setJob_within ?_ ?_
    | with_reducible refine jobHeader_within ?_ ?_ | exact mask_sub hk rfl | with_reducible refine Within.ite ?_ ?_
    | split | dsimp -proj only)

theorem sweepDrop_within {K : Nat} {b s : State} {a2} (hk : K &&& 268435456 = 268435456) (h : Within K b s) :
    Within K b (sweepDrop s a2) := by
  unfold sweepDrop
  repeat' (first
    | with_reducible assumption | exact mask_sub hk rfl | with_reducible refine Within.ite ?_ ?_ | split
    | dsimp -proj only | with_reducible refine Within.u_til ?_ ?_)

theorem journalAppend_within {K : Nat} {b s : State} {a2} (hk : K &&& 34359738368 = 34359738368) (h : Within K b s) :
    Within K b (journalAppend s a2) := by
  unfold journalAppend
  repeat' (first
    | with_reducible assumption | exact mask_sub hk rfl | with_reducible refine Within.ite ?_ ?_ | split
    | dsimp -proj only | with_reducible refine Within.u_clo ?_ ?_)

theorem State_setPlot_within {K : Nat} {b s : State} {a2 a3} (hk : K &&& 17179869184 = 17179869184) (h : Within K b s) :
    Within K b (State.setPlot s a2 a3) := by
  unfold State.setPlot
  repeat' (first
    | with_reducible assumption | exact mask_sub hk rfl | with_reducible refine Within.ite ?_ ?_ | split
    | dsimp -proj only | with_reducible refine Within.u_pc ?_ ?_)

theorem plotDegrade_within {K : Nat} {b s : State} {a2} (hk : K &&& 3494793310839513088 = 3494793310839513088) (h : Within K b s) :
    Within K b (plotDegrade s a2) := by
  unfold plotDegrade
  repeat' (first
    | with_reducible assumption | with_reducible refine State_degrade_within ?_ ?_ | exact mask_sub hk rfl
    | with_reducible refine Within.ite ?_ ?_ | split | dsimp -proj only)

theorem plotTo_within {K : Nat} {b s : State} {a2 a3} (hk : K &&& 3503800527274123264 = 3503800527274123264) (h : Within K b s) :
    Within K b (plotTo s a2 a3) := by
  unfold plotTo
  repeat' (first
    | with_reducible assumption | with_reducible refine Within.wr (i := 53) (by simp [Blk_ite]) (by decide) ?_ ?_ ?_
    | with_reducible refine plotDegrade_within ?_ ?_ | with_reducible refine State_setPlot_within ?_ ?_
    | exact mask_sub hk rfl | with_reducible refine Within.ite ?_ ?_ | split | dsimp -proj only)

theorem plotRecord_within {K : Nat} {b s : State} {a2 a3 a4} (hk : K &&& 20752622267295341058 = 20752622267295341058) (h : Within K b s) :
    Within K b (plotRecord s a2 a3 a4) := by
  unfold plotRecord
  repeat' (first
    | with_reducible assumption | with_reducible refine hwPost_within ?_ ?_ | exact mask_sub hk rfl
    | with_reducible refine Within.ite ?_ ?_ | split | dsimp -proj only)

theorem plotIrqs_within {K : Nat} {b s : State} {a2} (hk : K &&& 2560 = 2560) (h : Within K b s) :
    Within K b (plotIrqs s a2) := by
  unfold plotIrqs
  repeat' (first
    | with_reducible assumption | with_reducible refine State_emit_within ?_ ?_ | exact mask_sub hk rfl
    | with_reducible refine Within.ite ?_ ?_ | with_reducible refine Within.foldl (fun _ _ _ => ?_) ?_ | split
    | dsimp -proj only | with_reducible refine Within.u_irqHeld ?_ ?_)

theorem slotLate_within {K : Nat} {b s : State} {a2} (hk : K &&& 4194304 = 4194304) (h : Within K b s) :
    Within K b (slotLate s a2) := by
  unfold slotLate
  repeat' (first
    | with_reducible assumption | exact mask_sub hk rfl | with_reducible refine Within.ite ?_ ?_ | split
    | dsimp -proj only | with_reducible refine Within.u_trl ?_ ?_)

theorem slotRecord_within {K : Nat} {b s : State} {a2 a3 a4 a5 a6 a7} (hk : K &&& 20752624466318596610 = 20752624466318596610) (h : Within K b s) :
    Within K b (slotRecord s a2 a3 a4 a5 a6 a7) := by
  unfold slotRecord
  repeat' (first
    | with_reducible assumption | with_reducible refine Within.wr (i := 41) (by simp [Blk_ite]) (by decide) ?_ ?_ ?_
    | with_reducible refine hwPost_within ?_ ?_ | exact mask_sub hk rfl | with_reducible refine Within.ite ?_ ?_
    | split | dsimp -proj only)

theorem slotMiss_within {K : Nat} {b s : State} {a2 a3} (hk : K &&& 20752624466318596610 = 20752624466318596610) (h : Within K b s) :
    Within K b (slotMiss s a2 a3) := by
  unfold slotMiss
  repeat' (first
    | with_reducible assumption | with_reducible refine Within.wr (i := 41) (by simp [Blk_ite]) (by decide) ?_ ?_ ?_
    | with_reducible refine Within.hwWr (i := 41) (by simp [Blk_ite]) (by decide) ?_ ?_ ?_
    | with_reducible refine slotRecord_within ?_ ?_ | exact mask_sub hk rfl | with_reducible refine Within.ite ?_ ?_
    | split | dsimp -proj only)

theorem slotCatch_within {K : Nat} {b s : State} {a1} (hk : K &&& 20752624466322790914 = 20752624466322790914) (h : Within K b s) :
    Within K b (slotCatch a1 s) := by
  unfold slotCatch
  repeat' (first
    | with_reducible assumption | with_reducible refine slotMiss_within ?_ ?_
    | with_reducible refine slotLate_within ?_ ?_ | exact mask_sub hk rfl | with_reducible refine Within.ite ?_ ?_
    | split | dsimp -proj only | with_reducible refine Within.u_trl ?_ ?_)

theorem plotCatch_within {K : Nat} {b s : State} {a2} (hk : K &&& 20752624466322790914 = 20752624466322790914) (h : Within K b s) :
    Within K b (plotCatch s a2) := by
  unfold plotCatch
  repeat' (first
    | with_reducible assumption | with_reducible refine slotCatch_within ?_ ?_ | exact mask_sub hk rfl
    | with_reducible refine Within.ite ?_ ?_ | with_reducible refine Within.foldl (fun _ _ _ => ?_) ?_ | split
    | dsimp -proj only)

theorem plotThaw_within {K : Nat} {b s : State} {a2} (hk : K &&& 21950581984383220226 = 21950581984383220226) (h : Within K b s) :
    Within K b (plotThaw s a2) := by
  unfold plotThaw
  repeat' (first
    | with_reducible assumption | with_reducible refine plotCatch_within ?_ ?_
    | with_reducible refine plotIrqs_within ?_ ?_ | with_reducible refine plotRecord_within ?_ ?_
    | with_reducible refine State_setPlot_within ?_ ?_ | with_reducible refine plotTo_within ?_ ?_
    | exact mask_sub hk rfl | with_reducible refine Within.ite ?_ ?_ | split | dsimp -proj only)

theorem jobClean_within {K : Nat} {b s : State} {a2 a3} (hk : K &&& 21968596486240352770 = 21968596486240352770) (h : Within K b s) :
    Within K b (jobClean s a2 a3) := by
  unfold jobClean
  repeat' (first
    | with_reducible assumption | with_reducible refine Within.wr (i := 53) (by simp [Blk_ite]) (by decide) ?_ ?_ ?_
    | with_reducible refine Within.wr (i := 54) (by simp [Blk_ite]) (by decide) ?_ ?_ ?_
    | with_reducible refine plotThaw_within ?_ ?_ | with_reducible refine journalAppend_within ?_ ?_
    | with_reducible refine sweepDrop_within ?_ ?_ | exact mask_sub hk rfl | with_reducible refine Within.ite ?_ ?_
    | split | dsimp -proj only | with_reducible refine Within.u_grf ?_ ?_ | with_reducible refine Within.u_clo ?_ ?_)

theorem jobEnd_within {K : Nat} {b s : State} {a2 a3 a4} (hk : K &&& 21968667129862437378 = 21968667129862437378) (h : Within K b s) :
    Within K b (jobEnd s a2 a3 a4) := by
  unfold jobEnd
  repeat' (first
    | with_reducible assumption | with_reducible refine jobClean_within ?_ ?_
    | with_reducible refine jobTo_within ?_ ?_ | exact mask_sub hk rfl | with_reducible refine Within.ite ?_ ?_ | split
    | dsimp -proj only)

theorem serviceStart_within {K : Nat} {b s : State} (hk : K &&& 2307250384097804800 = 2307250384097804800) (h : Within K b s) :
    Within K b (serviceStart s) := by
  unfold serviceStart
  repeat' (first
    | with_reducible assumption | with_reducible refine Within.wr (i := 48) (by simp [Blk_ite]) (by decide) ?_ ?_ ?_
    | with_reducible refine Within.wr (i := 50) (by simp [Blk_ite]) (by decide) ?_ ?_ ?_
    | with_reducible refine Within.hwWr (i := 48) (by simp [Blk_ite]) (by decide) ?_ ?_ ?_
    | with_reducible refine Within.hwWr (i := 50) (by simp [Blk_ite]) (by decide) ?_ ?_ ?_
    | with_reducible refine dioPut_within ?_ ?_ | with_reducible refine State_setDio_within ?_ ?_
    | with_reducible refine State_setLs_within ?_ ?_ | with_reducible refine Within.forN (fun _ _ _ _ => ?_) ?_
    | exact mask_sub hk rfl | with_reducible refine Within.ite ?_ ?_ | split | dsimp -proj only)

theorem enterMode_within {K : Nat} {b s : State} {a1 a2} (hv : 1 ≤ a1 ∧ a1 ≤ 8) (hk : K &&& 21945231745229568515 = 21945231745229568515)
    (h : Within K b s) : Within K b (enterMode s a1 a2) := by
  unfold enterMode
  have h1 : Within K b (setMode s a1 a2) := setMode_within hv (mask_sub hk rfl) h
  dsimp -proj only
  split
  · exact serviceStart_within (mask_sub hk rfl) h1
  · exact h1

theorem lsAbandon_within {K : Nat} {b s : State} {a2} (hk : K &&& 20752903742272485890 = 20752903742272485890) (h : Within K b s) :
    Within K b (lsAbandon s a2) := by
  unfold lsAbandon
  repeat' (first
    | with_reducible assumption | with_reducible refine Within.wr (i := 48) (by simp [Blk_ite]) (by decide) ?_ ?_ ?_
    | with_reducible refine lsFault_within ?_ ?_ | with_reducible refine lsRecord_within ?_ ?_
    | with_reducible refine State_setLs_within ?_ ?_ | with_reducible refine Within.forN (fun _ _ _ _ => ?_) ?_
    | exact mask_sub hk rfl | with_reducible refine Within.ite ?_ ?_ | split | dsimp -proj only
    | with_reducible refine Within.u_girth ?_ ?_)

theorem handoffRefuse_within {K : Nat} {b s : State} (hk : K &&& 21945231745229961731 = 21945231745229961731) (h : Within K b s) :
    Within K b (handoffRefuse s) := by
  unfold handoffRefuse
  repeat' (first
    | with_reducible assumption | with_reducible refine lsAbandon_within ?_ ?_
    | with_reducible refine enterMode_within (by first | decide | exact handoffReturn_legal _ | exact bootTarget_legal _) ?_ ?_
    | with_reducible refine followAll_within ?_ ?_ | exact mask_sub hk rfl | with_reducible refine Within.ite ?_ ?_
    | split | dsimp -proj only)

theorem migrateFail_within {K : Nat} {b s : State} {a2 a3} (hk : K &&& 21972326306171238915 = 21972326306171238915) (h : Within K b s) :
    Within K b (migrateFail s a2 a3) := by
  unfold migrateFail
  repeat' (first
    | with_reducible assumption | with_reducible refine Within.wr (i := 53) (by simp [Blk_ite]) (by decide) ?_ ?_ ?_
    | with_reducible refine handoffRefuse_within ?_ ?_ | with_reducible refine plotThaw_within ?_ ?_
    | with_reducible refine jobEnd_within ?_ ?_ | exact mask_sub hk rfl | with_reducible refine Within.ite ?_ ?_
    | split | dsimp -proj only)

theorem xlLoss_within {K : Nat} {b s : State} (hk : K &&& 22120945106759367427 = 22120945106759367427) (h : Within K b s) :
    Within K b (xlLoss s) := by
  unfold xlLoss
  repeat' (first
    | with_reducible assumption | with_reducible refine Within.wr (i := 57) (by simp [Blk_ite]) (by decide) ?_ ?_ ?_
    | with_reducible refine migrateFail_within ?_ ?_ | with_reducible refine Within.forN (fun _ _ _ _ => ?_) ?_
    | with_reducible refine subSync_within ?_ ?_ | with_reducible refine xlDrop_within ?_ ?_ | exact mask_sub hk rfl
    | with_reducible refine Within.ite ?_ ?_ | split | dsimp -proj only)

theorem logMark_within {K : Nat} {b s : State} {a2 a3} (hk : K &&& 34359738368 = 34359738368) (h : Within K b s) :
    Within K b (logMark s a2 a3) := by
  unfold logMark
  repeat' (first
    | with_reducible assumption | exact mask_sub hk rfl | with_reducible refine Within.ite ?_ ?_ | split
    | dsimp -proj only | with_reducible refine Within.u_clo ?_ ?_)

theorem lcSync_within {K : Nat} {b s : State} (hk : K &&& 2882303761517117440 = 2882303761517117440) (h : Within K b s) :
    Within K b (lcSync s) := by
  unfold lcSync
  repeat' (first
    | with_reducible assumption | with_reducible refine Within.wr (i := 59) (by simp [Blk_ite]) (by decide) ?_ ?_ ?_
    | with_reducible refine Within.wrB (i := 59) (by simp [Blk_ite]) (by decide) ?_ ?_ ?_ | exact mask_sub hk rfl
    | with_reducible refine Within.ite ?_ ?_ | split | dsimp -proj only)

theorem eraseDone_within {K : Nat} {b s : State} (hk : K &&& 2900318194386337792 = 2900318194386337792) (h : Within K b s) :
    Within K b (eraseDone s) := by
  unfold eraseDone
  repeat' (first
    | with_reducible assumption | with_reducible refine Within.wr (i := 54) (by simp [Blk_ite]) (by decide) ?_ ?_ ?_
    | with_reducible refine lcSync_within ?_ ?_ | with_reducible refine logMark_within ?_ ?_ | exact mask_sub hk rfl
    | with_reducible refine Within.ite ?_ ?_ | split | dsimp -proj only | with_reducible refine Within.u_clo ?_ ?_)

theorem debugSeal_within {K : Nat} {b s : State} (hk : K &&& 2323857442082914304 = 2323857442082914304) (h : Within K b s) :
    Within K b (debugSeal s) := by
  unfold debugSeal
  repeat' (first
    | with_reducible assumption | with_reducible refine Within.wr (i := 54) (by simp [Blk_ite]) (by decide) ?_ ?_ ?_
    | exact mask_sub hk rfl | with_reducible refine Within.ite ?_ ?_ | split | dsimp -proj only
    | with_reducible refine Within.u_clo ?_ ?_)

theorem slotSync_within {K : Nat} {b s : State} {a1} (hk : K &&& 4611683819404132352 = 4611683819404132352) (h : Within K b s) :
    Within K b (slotSync a1 s) := by
  unfold slotSync
  repeat' (first
    | with_reducible assumption | with_reducible refine Within.wr (i := 54) (by simp [Blk_ite]) (by decide) ?_ ?_ ?_
    | with_reducible refine State_resetRegs_within (by first | decide | (simp only [F.CLO_SLOT_LOADED, F.CAN_NBT_NBRP, F.CAN_DBT_DBRP]; omega)) ?_ ?_
    | exact mask_sub hk rfl | with_reducible refine Within.ite ?_ ?_ | split | dsimp -proj only)

theorem zeroSlots_within {K : Nat} {b s : State} (hk : K &&& 4611683853763870720 = 4611683853763870720) (h : Within K b s) :
    Within K b (zeroSlots s) := by
  unfold zeroSlots
  repeat' (first
    | with_reducible assumption | with_reducible refine slotSync_within ?_ ?_
    | with_reducible refine Within.forN (fun _ _ _ _ => ?_) ?_ | exact mask_sub hk rfl
    | with_reducible refine Within.ite ?_ ?_ | split | dsimp -proj only | with_reducible refine Within.u_clo ?_ ?_)

theorem closeSessions_within {K : Nat} {b s : State} {a2} (hk : K &&& 8589934592 = 8589934592) (h : Within K b s) :
    Within K b (closeSessions s a2) := by
  unfold closeSessions
  repeat' (first
    | with_reducible assumption | exact mask_sub hk rfl | with_reducible refine Within.ite ?_ ?_ | split
    | dsimp -proj only | with_reducible refine Within.u_ses ?_ ?_)

theorem linesOff_within {K : Nat} {b s : State} (hk : K &&& 3494802107033190400 = 3494802107033190400) (h : Within K b s) :
    Within K b (linesOff s) := by
  unfold linesOff
  repeat' (first
    | with_reducible assumption | with_reducible refine Within.wr (i := 43) (by simp [Blk_ite]) (by decide) ?_ ?_ ?_
    | with_reducible refine subSync_within ?_ ?_ | with_reducible refine Within.forN (fun _ _ _ _ => ?_) ?_
    | exact mask_sub hk rfl | with_reducible refine Within.ite ?_ ?_ | split | dsimp -proj only
    | with_reducible refine Within.u_lat_msr ?_ ?_)

theorem jobsFail_within {K : Nat} {b s : State} {a2 a3} (hk : K &&& 20752692910917425666 = 20752692910917425666) (h : Within K b s) :
    Within K b (jobsFail s a2 a3) := by
  unfold jobsFail
  repeat' (first
    | with_reducible assumption | with_reducible refine jobTo_within ?_ ?_
    | with_reducible refine Within.forN (fun _ _ _ _ => ?_) ?_ | exact mask_sub hk rfl
    | with_reducible refine Within.ite ?_ ?_ | split | dsimp -proj only)

theorem jobsQuarantine_within {K : Nat} {b s : State} (hk : K &&& 20752692910917425666 = 20752692910917425666) (h : Within K b s) :
    Within K b (jobsQuarantine s) := by
  unfold jobsQuarantine
  repeat' (first
    | with_reducible assumption | with_reducible refine jobsFail_within ?_ ?_ | exact mask_sub hk rfl
    | with_reducible refine Within.ite ?_ ?_ | split | dsimp -proj only)

theorem failsafeNow_within {K : Nat} {b s : State} (hk : K &&& 20754592592134314626 = 20754592592134314626) (h : Within K b s) :
    Within K b (failsafeNow s) := by
  unfold failsafeNow
  repeat' (first
    | with_reducible assumption | with_reducible refine applyCodes_within ?_ ?_
    | with_reducible refine holdStart_within ?_ ?_ | exact mask_sub hk rfl | with_reducible refine Within.ite ?_ ?_
    | split | dsimp -proj only)

theorem enterQuarantine_within {K : Nat} {b s : State} (hk : K &&& 22090130060564413059 = 22090130060564413059) (h : Within K b s) :
    Within K b (enterQuarantine s) := by
  unfold enterQuarantine
  repeat' (first
    | with_reducible assumption | with_reducible refine Within.wr (i := 51) (by simp [Blk_ite]) (by decide) ?_ ?_ ?_
    | with_reducible refine Within.wr (i := 57) (by simp [Blk_ite]) (by decide) ?_ ?_ ?_
    | with_reducible refine wakeRelease_within ?_ ?_ | with_reducible refine serviceEnd_within ?_ ?_
    | with_reducible refine failsafeNow_within ?_ ?_ | with_reducible refine jobsQuarantine_within ?_ ?_
    | with_reducible refine setMode_within (by first | decide | exact handoffReturn_legal _ | exact bootTarget_legal _) ?_ ?_
    | with_reducible refine slsDown_within ?_ ?_ | with_reducible refine linesOff_within ?_ ?_ | exact mask_sub hk rfl
    | with_reducible refine Within.ite ?_ ?_ | split | dsimp -proj only | with_reducible refine Within.u_girth ?_ ?_)

theorem quarantine_within {K : Nat} {b s : State} (hk : K &&& 23058428212654553731 = 23058428212654553731) (h : Within K b s) :
    Within K b (quarantine s) := by
  unfold quarantine
  repeat' (first
    | with_reducible assumption | with_reducible refine Within.wr (i := 54) (by simp [Blk_ite]) (by decide) ?_ ?_ ?_
    | with_reducible refine enterQuarantine_within ?_ ?_ | with_reducible refine closeSessions_within ?_ ?_
    | with_reducible refine zeroSlots_within ?_ ?_ | with_reducible refine debugSeal_within ?_ ?_
    | exact mask_sub hk rfl | with_reducible refine Within.ite ?_ ?_ | split | dsimp -proj only
    | with_reducible refine Within.u_clo ?_ ?_)

theorem ptRate_within {K : Nat} {b s : State} {a2} (hk : K &&& 2305847407268593664 = 2305847407268593664) (h : Within K b s) :
    Within K b (ptRate s a2) := by
  unfold ptRate
  repeat' (first
    | with_reducible assumption | with_reducible refine Within.wr (i := 42) (by simp [Blk_ite]) (by decide) ?_ ?_ ?_
    | exact mask_sub hk rfl | with_reducible refine Within.ite ?_ ?_ | split | dsimp -proj only
    | with_reducible refine Within.u_pt ?_ ?_)

theorem ptStart_within {K : Nat} {b s : State} (hk : K &&& 2305847407268593792 = 2305847407268593792) (h : Within K b s) :
    Within K b (ptStart s) := by
  unfold ptStart
  repeat' (first
    | with_reducible assumption | with_reducible refine Within.wr (i := 42) (by simp [Blk_ite]) (by decide) ?_ ?_ ?_
    | with_reducible refine ptRate_within ?_ ?_ | with_reducible refine State_took_within ?_ ?_ | exact mask_sub hk rfl
    | with_reducible refine Within.ite ?_ ?_ | split | dsimp -proj only | with_reducible refine Within.u_pt ?_ ?_)

theorem setInc_within {K : Nat} {b s : State} {a2} (hk : K &&& 2305845208236949504 = 2305845208236949504) (h : Within K b s) :
    Within K b (setInc s a2) := by
  unfold setInc
  repeat' (first
    | with_reducible assumption | with_reducible refine Within.wr (i := 41) (by simp [Blk_ite]) (by decide) ?_ ?_ ?_
    | exact mask_sub hk rfl | with_reducible refine Within.ite ?_ ?_ | split | dsimp -proj only)

theorem setFreq_within {K : Nat} {b s : State} {a2} (hk : K &&& 2305845208241143808 = 2305845208241143808) (h : Within K b s) :
    Within K b (setFreq s a2) := by
  unfold setFreq
  repeat' (first
    | with_reducible assumption | with_reducible refine Within.wr (i := 41) (by simp [Blk_ite]) (by decide) ?_ ?_ ?_
    | with_reducible refine setInc_within ?_ ?_ | exact mask_sub hk rfl | with_reducible refine Within.ite ?_ ?_
    | split | dsimp -proj only | with_reducible refine Within.u_trl ?_ ?_)

end Sys2Proof.Machine
end

