-- ==== Sys2Proof/Laws/FrameOps2.lean ====
section
/-! SUPPORT. What each operation can change: one lemma an operation, by its own steps (part 2). -/

set_option linter.all false

namespace Sys2Proof.Machine

theorem trlStart_within {K : Nat} {b s : State} (hk : K &&& 2305845208241143936 = 2305845208241143936) (h : Within K b s) :
    Within K b (trlStart s) := by
  unfold trlStart
  repeat' (first
    | with_reducible assumption | with_reducible refine Within.wr (i := 41) (by simp [Blk_ite]) (by decide) ?_ ?_ ?_
    | with_reducible refine setFreq_within ?_ ?_ | with_reducible refine State_took_within ?_ ?_
    | with_reducible refine setInc_within ?_ ?_ | exact mask_sub hk rfl | with_reducible refine Within.ite ?_ ?_
    | split | dsimp -proj only | with_reducible refine Within.u_trl ?_ ?_)

theorem romRelease_within {K : Nat} {b s : State} (hk : K &&& 2305849606296051840 = 2305849606296051840) (h : Within K b s) :
    Within K b (romRelease s) := by
  unfold romRelease
  repeat' (first
    | with_reducible assumption | with_reducible refine trlStart_within ?_ ?_
    | with_reducible refine ptStart_within ?_ ?_ | exact mask_sub hk rfl | with_reducible refine Within.ite ?_ ?_
    | split | dsimp -proj only | with_reducible refine Within.u_girth ?_ ?_)

theorem romQuarantine_within {K : Nat} {b s : State} (hk : K &&& 23058428212667136643 = 23058428212667136643) (h : Within K b s) :
    Within K b (romQuarantine s) := by
  unfold romQuarantine
  repeat' (first
    | with_reducible assumption | with_reducible refine romRelease_within ?_ ?_
    | with_reducible refine quarantine_within ?_ ?_ | with_reducible refine eraseDone_within ?_ ?_
    | exact mask_sub hk rfl | with_reducible refine Within.ite ?_ ?_ | split | dsimp -proj only
    | with_reducible refine Within.u_clo ?_ ?_)

theorem macLoad_within {K : Nat} {b s : State} (hk : K &&& 2377900603251621888 = 2377900603251621888) (h : Within K b s) :
    Within K b (macLoad s) := by
  unfold macLoad
  repeat' (first
    | with_reducible assumption | with_reducible refine Within.wr (i := 56) (by simp [Blk_ite]) (by decide) ?_ ?_ ?_
    | with_reducible refine Within.forN (fun _ _ _ _ => ?_) ?_ | exact mask_sub hk rfl
    | with_reducible refine Within.ite ?_ ?_ | split | dsimp -proj only)

theorem idLoad_within {K : Nat} {b s : State} (hk : K &&& 2882303761517117440 = 2882303761517117440) (h : Within K b s) :
    Within K b (idLoad s) := by
  unfold idLoad
  repeat' (first
    | with_reducible assumption | with_reducible refine Within.wr (i := 59) (by simp [Blk_ite]) (by decide) ?_ ?_ ?_
    | with_reducible refine lcSync_within ?_ ?_ | with_reducible refine Within.forN (fun _ _ _ _ => ?_) ?_
    | exact mask_sub hk rfl | with_reducible refine Within.ite ?_ ?_ | split | dsimp -proj only)

theorem tamperSync_within {K : Nat} {b s : State} (hk : K &&& 2323857407723175936 = 2323857407723175936) (h : Within K b s) :
    Within K b (tamperSync s) := by
  unfold tamperSync
  repeat' (first
    | with_reducible assumption | with_reducible refine Within.wr (i := 54) (by simp [Blk_ite]) (by decide) ?_ ?_ ?_
    | exact mask_sub hk rfl | with_reducible refine Within.ite ?_ ?_ | split | dsimp -proj only)

theorem romShow_within {K : Nat} {b s : State} {a2} (hk : K &&& 2972375754064527360 = 2972375754064527360) (h : Within K b s) :
    Within K b (romShow s a2) := by
  unfold romShow
  repeat' (first
    | with_reducible assumption | with_reducible refine Within.wr (i := 54) (by simp [Blk_ite]) (by decide) ?_ ?_ ?_
    | with_reducible refine Within.wr (i := 59) (by simp [Blk_ite]) (by decide) ?_ ?_ ?_
    | with_reducible refine tamperSync_within ?_ ?_ | with_reducible refine Within.forN (fun _ _ _ _ => ?_) ?_
    | with_reducible refine idLoad_within ?_ ?_ | with_reducible refine macLoad_within ?_ ?_ | exact mask_sub hk rfl
    | with_reducible refine Within.ite ?_ ?_ | split | dsimp -proj only)

theorem rootRegenerate_within {K : Nat} {b s : State} {a2} (hk : K &&& 2323857442082914304 = 2323857442082914304) (h : Within K b s) :
    Within K b (rootRegenerate s a2) := by
  unfold rootRegenerate
  repeat' (first
    | with_reducible assumption | with_reducible refine Within.wr (i := 54) (by simp [Blk_ite]) (by decide) ?_ ?_ ?_
    | with_reducible refine Within.wrB (i := 54) (by simp [Blk_ite]) (by decide) ?_ ?_ ?_ | exact mask_sub hk rfl
    | with_reducible refine Within.ite ?_ ?_ | split | dsimp -proj only | with_reducible refine Within.u_clo ?_ ?_)

theorem loadSlot_within {K : Nat} {b s : State} {a2} (hk : K &&& 4611683853763870720 = 4611683853763870720) (h : Within K b s) :
    Within K b (loadSlot s a2) := by
  unfold loadSlot
  repeat' (first
    | with_reducible assumption | with_reducible refine slotSync_within ?_ ?_ | exact mask_sub hk rfl
    | with_reducible refine Within.ite ?_ ?_ | split | dsimp -proj only | with_reducible refine Within.u_clo ?_ ?_)

theorem loadSlots_within {K : Nat} {b s : State} (hk : K &&& 4611683853763870720 = 4611683853763870720) (h : Within K b s) :
    Within K b (loadSlots s) := by
  unfold loadSlots
  repeat' (first
    | with_reducible assumption | with_reducible refine loadSlot_within ?_ ?_ | exact mask_sub hk rfl
    | with_reducible refine Within.ite ?_ ?_ | with_reducible refine Within.foldl (fun _ _ _ => ?_) ?_ | split
    | dsimp -proj only)

theorem retains_part {k : Nat} (h : retains k = true) : 32 * 0x20000000 ≤ k ∧ k < 32 * 0x21300000 ∧
    (k < 32 * 0x20E00000 ∨ 32 * 0x20E00001 ≤ k) := by
  simp only [retains, Bool.and_eq_true] at h
  have h1 := h.1.1
  simp only [retainWindows, List.any_cons, List.any_nil, Bool.or_eq_true, Bool.and_eq_true, decide_eq_true_eq, Bool.or_false] at h1
  omega

theorem rd_foldSet (l : List (Nat × Nat)) (m : SMap Nat) (k d : Nat) (hl : ∀ e ∈ l, e.1 ≠ k) :
    SMap.get (l.foldl (fun (m : SMap Nat) (e : Nat × Nat) => SMap.set m e.1 e.2) m) k d = SMap.get m k d := by
  induction l generalizing m with
  | nil => rfl
  | cons e r ih =>
    rw [List.foldl_cons, ih _ fun x hx => hl x (List.mem_cons_of_mem _ hx)]
    exact SMap.get_set_ne _ _ _ (hl e (List.mem_cons_self ..)).symm

theorem retainLoad_within {K : Nat} {b s : State} {a1} (hk : K &&& 4611683956843085824 = 4611683956843085824) (h : Within K b s) :
    Within K b (retainLoad s a1) := by
  have h0 : Within K b { s with regs := (retainLoad s a1).regs } := by
    refine Within.u_regs (fun w => wf_foldSet _ _ w) rfl (mask_sub hk rfl) (fun f hf => ?_) h
    refine rd_foldSet _ _ _ _ fun e he hx => ?_
    have hr := retains_part (List.mem_filter.mp he).2
    rw [hx] at hr
    have hm : F.GIRTH_MODE_MODE.key = 32 * 0x20E00000 := rfl
    have hs : F.GIRTH_MODE_SUBSTATE.key = 32 * 0x20E00000 + 16 := rfl
    rw [regPart_of_ne (by omega) (by omega), regBit (mask_sub hk rfl) (by omega) (by omega)] at hf
    rcases hf with hf | hf
    · cases hf
    · omega
  exact Within.u_retain (mask_sub hk rfl) h0

theorem pairSync_within {K : Nat} {b s : State} (hk : K &&& 2308094809027379200 = 2308094809027379200) (h : Within K b s) :
    Within K b (pairSync s) := by
  unfold pairSync
  repeat' (first
    | with_reducible assumption | with_reducible refine Within.wrB (i := 51) (by simp [Blk_ite]) (by decide) ?_ ?_ ?_
    | with_reducible refine Within.wr (i := 51) (by simp [Blk_ite]) (by decide) ?_ ?_ ?_
    | with_reducible refine Within.forN (fun _ _ _ _ => ?_) ?_ | exact mask_sub hk rfl
    | with_reducible refine Within.ite ?_ ?_ | split | dsimp -proj only)

theorem State_setRing_within {K : Nat} {b s : State} {a2 a3} (hk : K &&& 33554432 = 33554432) (h : Within K b s) :
    Within K b (State.setRing s a2 a3) := by
  unfold State.setRing
  repeat' (first
    | with_reducible assumption | exact mask_sub hk rfl | with_reducible refine Within.ite ?_ ?_ | split
    | dsimp -proj only | with_reducible refine Within.u_lat ?_ ?_)

theorem latSend_within {K : Nat} {b s : State} {a2 a3 a4} (hk : K &&& 33554944 = 33554944) (h : Within K b s) :
    Within K b (latSend s a2 a3 a4) := by
  unfold latSend
  repeat' (first
    | with_reducible assumption | with_reducible refine State_emit_within ?_ ?_
    | with_reducible refine State_setRing_within ?_ ?_ | exact mask_sub hk rfl | with_reducible refine Within.ite ?_ ?_
    | split | dsimp -proj only)

theorem latRead_within {K : Nat} {b s : State} {a2 a3 a4 a5} (hk : K &&& 33554944 = 33554944) (h : Within K b s) :
    Within K b (latRead s a2 a3 a4 a5) := by
  unfold latRead
  repeat' (first
    | with_reducible assumption | with_reducible refine latSend_within ?_ ?_ | exact mask_sub hk rfl
    | with_reducible refine Within.ite ?_ ?_ | split | dsimp -proj only)

theorem latReadAll_within {K : Nat} {b s : State} {a2 a3 a4} (hk : K &&& 33554944 = 33554944) (h : Within K b s) :
    Within K b (latReadAll s a2 a3 a4) := by
  unfold latReadAll
  repeat' (first
    | with_reducible assumption | with_reducible refine latRead_within ?_ ?_
    | with_reducible refine Within.forN (fun _ _ _ _ => ?_) ?_ | exact mask_sub hk rfl
    | with_reducible refine Within.ite ?_ ?_ | split | dsimp -proj only)

theorem latDescribeNode_within {K : Nat} {b s : State} {a1 a2} (hk : K &&& 33554944 = 33554944) (h : Within K b s) :
    Within K b (latDescribeNode a1 a2 s) := by
  unfold latDescribeNode
  repeat' (first
    | with_reducible assumption | with_reducible refine State_setRing_within ?_ ?_
    | with_reducible refine latReadAll_within ?_ ?_ | exact mask_sub hk rfl | with_reducible refine Within.ite ?_ ?_
    | split | dsimp -proj only)

theorem latDegrade_within {K : Nat} {b s : State} {a2} (hk : K &&& 3494793310839513088 = 3494793310839513088) (h : Within K b s) :
    Within K b (latDegrade s a2) := by
  unfold latDegrade
  repeat' (first
    | with_reducible assumption | with_reducible refine State_degrade_within ?_ ?_ | exact mask_sub hk rfl
    | with_reducible refine Within.ite ?_ ?_ | split | dsimp -proj only)

theorem latShow_within {K : Nat} {b s : State} {a2} (hk : K &&& 2305851805306716160 = 2305851805306716160) (h : Within K b s) :
    Within K b (latShow s a2) := by
  unfold latShow
  repeat' (first
    | with_reducible assumption | with_reducible refine Within.wr (i := 43) (by simp [Blk_ite]) (by decide) ?_ ?_ ?_
    | with_reducible refine Within.wrB (i := 43) (by simp [Blk_ite]) (by decide) ?_ ?_ ?_
    | with_reducible refine Within.forN (fun _ _ _ _ => ?_) ?_ | exact mask_sub hk rfl
    | with_reducible refine Within.ite ?_ ?_ | split | dsimp -proj only)

theorem latResume_within {K : Nat} {b s : State} {a1} (hk : K &&& 3494802106966090240 = 3494802106966090240) (h : Within K b s) :
    Within K b (latResume a1 s) := by
  unfold latResume
  repeat' (first
    | with_reducible assumption | with_reducible refine Within.wr (i := 43) (by simp [Blk_ite]) (by decide) ?_ ?_ ?_
    | with_reducible refine latShow_within ?_ ?_ | with_reducible refine latDegrade_within ?_ ?_
    | with_reducible refine latDescribeNode_within ?_ ?_ | with_reducible refine Within.forN (fun _ _ _ _ => ?_) ?_
    | with_reducible refine State_setRing_within ?_ ?_ | exact mask_sub hk rfl | with_reducible refine Within.ite ?_ ?_
    | split | dsimp -proj only)

theorem capRestart_within {K : Nat} {b s : State} (hk : K &&& 2305860601533956098 = 2305860601533956098) (h : Within K b s) :
    Within K b (capRestart s) := by
  unfold capRestart
  repeat' (first
    | with_reducible assumption | with_reducible refine Within.wr (i := 44) (by simp [Blk_ite]) (by decide) ?_ ?_ ?_
    | with_reducible refine capClearAll_within ?_ ?_ | exact mask_sub hk rfl | with_reducible refine Within.ite ?_ ?_
    | split | dsimp -proj only | with_reducible refine Within.u_cap ?_ ?_)

theorem tilDegrade_within {K : Nat} {b s : State} (hk : K &&& 3494863679583690752 = 3494863679583690752) (h : Within K b s) :
    Within K b (tilDegrade s) := by
  unfold tilDegrade
  repeat' (first
    | with_reducible assumption | with_reducible refine Within.wrB (i := 46) (by simp [Blk_ite]) (by decide) ?_ ?_ ?_
    | with_reducible refine State_degrade_within ?_ ?_ | exact mask_sub hk rfl | with_reducible refine Within.ite ?_ ?_
    | split | dsimp -proj only)

theorem latchSync_within {K : Nat} {b s : State} (hk : K &&& 3494934048327868416 = 3494934048327868416) (h : Within K b s) :
    Within K b (latchSync s) := by
  unfold latchSync
  repeat' (first
    | with_reducible assumption | with_reducible refine Within.wrB (i := 47) (by simp [Blk_ite]) (by decide) ?_ ?_ ?_
    | with_reducible refine Within.wr (i := 47) (by simp [Blk_ite]) (by decide) ?_ ?_ ?_
    | with_reducible refine State_degrade_within ?_ ?_ | exact mask_sub hk rfl | with_reducible refine Within.ite ?_ ?_
    | split | dsimp -proj only)

theorem pomStart_within {K : Nat} {b s : State} (hk : K &&& 3494934048329965568 = 3494934048329965568) (h : Within K b s) :
    Within K b (pomStart s) := by
  unfold pomStart
  repeat' (first
    | with_reducible assumption | with_reducible refine Within.wr (i := 47) (by simp [Blk_ite]) (by decide) ?_ ?_ ?_
    | with_reducible refine Within.wrB (i := 47) (by simp [Blk_ite]) (by decide) ?_ ?_ ?_
    | with_reducible refine latchSync_within ?_ ?_ | exact mask_sub hk rfl | with_reducible refine Within.ite ?_ ?_
    | split | dsimp -proj only | with_reducible refine Within.u_pom ?_ ?_)

theorem slotPeriodic_within {K : Nat} {b s : State} {a2} (hk : K &&& 4194304 = 4194304) (h : Within K b s) :
    Within K b (slotPeriodic s a2) := by
  unfold slotPeriodic
  repeat' (first
    | with_reducible assumption | exact mask_sub hk rfl | with_reducible refine Within.ite ?_ ?_ | split
    | dsimp -proj only | with_reducible refine Within.u_trl ?_ ?_)

theorem gridSlots_within {K : Nat} {b s : State} (hk : K &&& 4194304 = 4194304) (h : Within K b s) :
    Within K b (gridSlots s) := by
  unfold gridSlots
  repeat' (first
    | with_reducible assumption | with_reducible refine slotPeriodic_within ?_ ?_ | exact mask_sub hk rfl
    | with_reducible refine Within.ite ?_ ?_ | split | dsimp -proj only)

theorem canrefSlot_within {K : Nat} {b s : State} {a1} (hk : K &&& 2305845208236949504 = 2305845208236949504) (h : Within K b s) :
    Within K b (canrefSlot a1 s) := by
  unfold canrefSlot
  repeat' (first
    | with_reducible assumption | with_reducible refine Within.wr (i := 41) (by simp [Blk_ite]) (by decide) ?_ ?_ ?_
    | exact mask_sub hk rfl | with_reducible refine Within.ite ?_ ?_ | split | dsimp -proj only)

theorem sysRearm_within {K : Nat} {b s : State} (hk : K &&& 2305845208241143808 = 2305845208241143808) (h : Within K b s) :
    Within K b (sysRearm s) := by
  unfold sysRearm
  repeat' (first
    | with_reducible assumption | with_reducible refine canrefSlot_within ?_ ?_
    | with_reducible refine Within.forN (fun _ _ _ _ => ?_) ?_ | with_reducible refine gridSlots_within ?_ ?_
    | exact mask_sub hk rfl | with_reducible refine Within.ite ?_ ?_ | split | dsimp -proj only)

theorem sysLoad_within {K : Nat} {b s : State} {a2 a3 a4 a5} (hk : K &&& 2305845208236949504 = 2305845208236949504) (h : Within K b s) :
    Within K b (sysLoad s a2 a3 a4 a5) := by
  unfold sysLoad
  repeat' (first
    | with_reducible assumption | with_reducible refine Within.wr (i := 41) (by simp [Blk_ite]) (by decide) ?_ ?_ ?_
    | exact mask_sub hk rfl | with_reducible refine Within.ite ?_ ?_ | split | dsimp -proj only)

theorem sysSlots_within {K : Nat} {b s : State} (hk : K &&& 2305845208241143808 = 2305845208241143808) (h : Within K b s) :
    Within K b (sysSlots s) := by
  unfold sysSlots
  repeat' (first
    | with_reducible assumption | with_reducible refine sysLoad_within ?_ ?_
    | with_reducible refine sysRearm_within ?_ ?_ | exact mask_sub hk rfl | with_reducible refine Within.ite ?_ ?_
    | split | dsimp -proj only)

theorem wakeReload_within {K : Nat} {b s : State} {a2} (hk : K &&& 4611683976688446082 = 4611683976688446082) (h : Within K b s) :
    Within K b (wakeReload s a2) := by
  unfold wakeReload
  repeat' (first
    | with_reducible assumption | with_reducible refine Within.wr (i := 43) (by simp [Blk_ite]) (by decide) ?_ ?_ ?_
    | with_reducible refine Within.wr (i := 46) (by simp [Blk_ite]) (by decide) ?_ ?_ ?_
    | with_reducible refine Within.wr (i := 55) (by simp [Blk_ite]) (by decide) ?_ ?_ ?_
    | with_reducible refine trlStart_within ?_ ?_ | with_reducible refine ptStart_within ?_ ?_
    | with_reducible refine sysSlots_within ?_ ?_ | with_reducible refine pomStart_within ?_ ?_
    | with_reducible refine tilDegrade_within ?_ ?_ | with_reducible refine lsFltSync_within ?_ ?_
    | with_reducible refine capRestart_within ?_ ?_ | with_reducible refine latResume_within ?_ ?_
    | with_reducible refine furSync_within ?_ ?_ | with_reducible refine Within.forN (fun _ _ _ _ => ?_) ?_
    | with_reducible refine pairSync_within ?_ ?_ | with_reducible refine railsTo_within ?_ ?_
    | with_reducible refine retainLoad_within ?_ ?_ | exact mask_sub hk rfl | with_reducible refine Within.ite ?_ ?_
    | split | dsimp -proj only | with_reducible refine Within.u_girth_lat_msr_til_gw_pc ?_ ?_)

theorem tamper_within {K : Nat} {b s : State} {a2 a3} (hk : K &&& 23058428369838193283 = 23058428369838193283) (h : Within K b s) :
    Within K b (tamper s a2 a3) := by
  unfold tamper
  repeat' (first
    | with_reducible assumption
    | with_reducible refine Within.setBit (i := 54) (by simp [Blk_ite]) (by decide) ?_ ?_ ?_
    | with_reducible refine quarantine_within ?_ ?_ | with_reducible refine tamperSync_within ?_ ?_
    | with_reducible refine wakeReload_within ?_ ?_ | exact mask_sub hk rfl | with_reducible refine Within.ite ?_ ?_
    | split | dsimp -proj only | with_reducible refine Within.u_clo ?_ ?_)

theorem bankSync_within {K : Nat} {b s : State} {a1} (hk : K &&& 2594073385365405696 = 2594073385365405696) (h : Within K b s) :
    Within K b (bankSync a1 s) := by
  unfold bankSync
  repeat' (first
    | with_reducible assumption | with_reducible refine Within.wr (i := 58) (by simp [Blk_ite]) (by decide) ?_ ?_ ?_
    | exact mask_sub hk rfl | with_reducible refine Within.ite ?_ ?_ | split | dsimp -proj only)

theorem grfSync_within {K : Nat} {b s : State} (hk : K &&& 2594073385365405696 = 2594073385365405696) (h : Within K b s) :
    Within K b (grfSync s) := by
  unfold grfSync
  repeat' (first
    | with_reducible assumption | with_reducible refine Within.wrB (i := 58) (by simp [Blk_ite]) (by decide) ?_ ?_ ?_
    | with_reducible refine Within.wr (i := 58) (by simp [Blk_ite]) (by decide) ?_ ?_ ?_
    | with_reducible refine bankSync_within ?_ ?_ | exact mask_sub hk rfl | with_reducible refine Within.ite ?_ ?_
    | split | dsimp -proj only)

theorem State_setBank_within {K : Nat} {b s : State} {a2 a3} (hk : K &&& 2594073454084882432 = 2594073454084882432) (h : Within K b s) :
    Within K b (State.setBank s a2 a3) := by
  unfold State.setBank
  repeat' (first
    | with_reducible assumption | with_reducible refine bankSync_within ?_ ?_ | exact mask_sub hk rfl
    | with_reducible refine Within.ite ?_ ?_ | split | dsimp -proj only | with_reducible refine Within.u_grf ?_ ?_)

theorem bankFail_within {K : Nat} {b s : State} {a2 a3 a4} (hk : K &&& 2594073454084882432 = 2594073454084882432) (h : Within K b s) :
    Within K b (bankFail s a2 a3 a4) := by
  unfold bankFail
  repeat' (first
    | with_reducible assumption | with_reducible refine Within.wr (i := 58) (by simp [Blk_ite]) (by decide) ?_ ?_ ?_
    | with_reducible refine State_setBank_within ?_ ?_ | exact mask_sub hk rfl | with_reducible refine Within.ite ?_ ?_
    | split | dsimp -proj only)

theorem bankSelect_within_fst {K : Nat} {b s : State} {a2 a3} (hk : K &&& 2594073454084882432 = 2594073454084882432) (h : Within K b s) :
    Within K b (bankSelect s a2 a3).1 := by
  change WithinP K b (bankSelect s a2 a3)
  unfold bankSelect
  repeat' (first
    | with_reducible assumption | with_reducible refine Within.wr (i := 58) (by simp [Blk_ite]) (by decide) ?_ ?_ ?_
    | with_reducible refine bankFail_within ?_ ?_ | with_reducible refine grfSync_within ?_ ?_ | exact mask_sub hk rfl
    | with_reducible refine Within.ite ?_ ?_ | with_reducible refine WithinP.ite ?_ ?_ | split | dsimp -proj only
    | with_reducible refine WithinP.mk ?_ | with_reducible refine Within.u_grf ?_ ?_)

theorem bankSelect_within {K : Nat} {b s : State} {a2 a3} (hk : K &&& 2594073454084882432 = 2594073454084882432) (h : Within K b s) {t r} (e : bankSelect s a2 a3 = (t, r)) :
    Within K b t := by
  have := bankSelect_within_fst (s := s) (a2 := a2) (a3 := a3) hk h
  rw [e] at this
  exact this

theorem latRingStart_within {K : Nat} {b s : State} {a2} (hk : K &&& 33554432 = 33554432) (h : Within K b s) :
    Within K b (latRingStart s a2) := by
  unfold latRingStart
  repeat' (first
    | with_reducible assumption | with_reducible refine State_setRing_within ?_ ?_ | exact mask_sub hk rfl
    | with_reducible refine Within.ite ?_ ?_ | split | dsimp -proj only)

theorem latRecord_within {K : Nat} {b s : State} {a2 a3 a4 a5 a6} (hk : K &&& 20752622267295341058 = 20752622267295341058) (h : Within K b s) :
    Within K b (latRecord s a2 a3 a4 a5 a6) := by
  unfold latRecord
  repeat' (first
    | with_reducible assumption | with_reducible refine hwPost_within ?_ ?_ | exact mask_sub hk rfl
    | with_reducible refine Within.ite ?_ ?_ | split | dsimp -proj only)

theorem latTrig_within {K : Nat} {b s : State} {a2 a3 a4} (hk : K &&& 20752631063388363266 = 20752631063388363266) (h : Within K b s) :
    Within K b (latTrig s a2 a3 a4) := by
  unfold latTrig
  repeat' (first
    | with_reducible assumption | with_reducible refine Within.wrB (i := 43) (by simp [Blk_ite]) (by decide) ?_ ?_ ?_
    | with_reducible refine Within.putBit (i := 43) (by simp [Blk_ite]) (by decide) ?_ ?_ ?_
    | with_reducible refine latRecord_within ?_ ?_ | exact mask_sub hk rfl | with_reducible refine Within.ite ?_ ?_
    | split | dsimp -proj only)

theorem latRingStop_within {K : Nat} {b s : State} {a2} (hk : K &&& 21941581365047736834 = 21941581365047736834) (h : Within K b s) :
    Within K b (latRingStop s a2) := by
  unfold latRingStop
  repeat' (first
    | with_reducible assumption | with_reducible refine Within.wr (i := 43) (by simp [Blk_ite]) (by decide) ?_ ?_ ?_
    | with_reducible refine Within.clrBit (i := 43) (by simp [Blk_ite]) (by decide) ?_ ?_ ?_
    | with_reducible refine latDegrade_within ?_ ?_ | with_reducible refine subSync_within ?_ ?_
    | with_reducible refine State_setRing_within ?_ ?_ | with_reducible refine latTrig_within ?_ ?_
    | exact mask_sub hk rfl | with_reducible refine Within.ite ?_ ?_ | split | dsimp -proj only)

theorem latSetEn_within {K : Nat} {b s : State} {a2} (hk : K &&& 21941581365047736834 = 21941581365047736834) (h : Within K b s) :
    Within K b (latSetEn s a2) := by
  unfold latSetEn
  repeat' (first
    | with_reducible assumption | with_reducible refine Within.wr (i := 43) (by simp [Blk_ite]) (by decide) ?_ ?_ ?_
    | with_reducible refine latRingStop_within ?_ ?_ | with_reducible refine latRingStart_within ?_ ?_
    | with_reducible refine Within.forN (fun _ _ _ _ => ?_) ?_ | exact mask_sub hk rfl
    | with_reducible refine Within.ite ?_ ?_ | split | dsimp -proj only)

theorem latStart_within {K : Nat} {b s : State} (hk : K &&& 21941581365114845698 = 21941581365114845698) (h : Within K b s) :
    Within K b (latStart s) := by
  unfold latStart
  repeat' (first
    | with_reducible assumption | with_reducible refine latSetEn_within ?_ ?_ | exact mask_sub hk rfl
    | with_reducible refine Within.ite ?_ ?_ | split | dsimp -proj only | with_reducible refine Within.u_lat_msr ?_ ?_)

theorem enginesStart_within {K : Nat} {b s : State} (hk : K &&& 21941728699687647874 = 21941728699687647874) (h : Within K b s) :
    Within K b (enginesStart s) := by
  unfold enginesStart
  repeat' (first
    | with_reducible assumption | with_reducible refine trlStart_within ?_ ?_
    | with_reducible refine ptStart_within ?_ ?_ | with_reducible refine sysSlots_within ?_ ?_
    | with_reducible refine pomStart_within ?_ ?_ | with_reducible refine latStart_within ?_ ?_ | exact mask_sub hk rfl
    | with_reducible refine Within.ite ?_ ?_ | split | dsimp -proj only | with_reducible refine Within.u_girth ?_ ?_)

theorem pwrDefaults_within {K : Nat} {b s : State} (hk : K &&& 4611683819404132352 = 4611683819404132352) (h : Within K b s) :
    Within K b (pwrDefaults s) := by
  unfold pwrDefaults
  repeat' (first
    | with_reducible assumption
    | with_reducible refine State_resetWindows_within (by first | decide | exact blkWindow_ok _ | (simp only [List.mem_cons, List.not_mem_nil, or_false, forall_eq_or_imp, forall_eq]; omega)) ?_ ?_
    | exact mask_sub hk rfl | with_reducible refine Within.ite ?_ ?_ | split | dsimp -proj only)

theorem lsRegroup_within {K : Nat} {b s : State} {a2 a3} (hk : K &&& 2306124484190404608 = 2306124484190404608) (h : Within K b s) :
    Within K b (lsRegroup s a2 a3) := by
  unfold lsRegroup
  repeat' (first
    | with_reducible assumption | with_reducible refine Within.wr (i := 48) (by simp [Blk_ite]) (by decide) ?_ ?_ ?_
    | exact mask_sub hk rfl | with_reducible refine Within.ite ?_ ?_
    | with_reducible refine Within.foldl (fun _ _ _ => ?_) ?_ | split | dsimp -proj only)

theorem dioRegroup_within {K : Nat} {b s : State} {a2 a3} (hk : K &&& 2306968909120536576 = 2306968909120536576) (h : Within K b s) :
    Within K b (dioRegroup s a2 a3) := by
  unfold dioRegroup
  repeat' (first
    | with_reducible assumption | with_reducible refine Within.wr (i := 50) (by simp [Blk_ite]) (by decide) ?_ ?_ ?_
    | exact mask_sub hk rfl | with_reducible refine Within.ite ?_ ?_
    | with_reducible refine Within.foldl (fun _ _ _ => ?_) ?_ | split | dsimp -proj only)

theorem State_setObj_within {K : Nat} {b s : State} {a2 a3 a4} (hk : K &&& 4 = 4) (h : Within K b s) :
    Within K b (State.setObj s a2 a3 a4) := by
  unfold State.setObj
  repeat' (first
    | with_reducible assumption | exact mask_sub hk rfl | with_reducible refine Within.ite ?_ ?_ | split
    | dsimp -proj only | with_reducible refine Within.u_objs ?_ ?_)

theorem objLoad_within {K : Nat} {b s : State} {a2 a3 a4 a5 a6 a7} (hk : K &&& 4611683819404132356 = 4611683819404132356) (h : Within K b s) :
    Within K b (objLoad s a2 a3 a4 a5 a6 a7) := by
  unfold objLoad
  repeat' (first
    | with_reducible assumption | with_reducible refine Within.wr (i := 42) (by simp [Blk_ite]) (by decide) ?_ ?_ ?_
    | with_reducible refine Within.wr (i := 46) (by simp [Blk_ite]) (by decide) ?_ ?_ ?_
    | with_reducible refine Within.wr (i := 53) (by simp [Blk_ite]) (by decide) ?_ ?_ ?_
    | with_reducible refine Within.wr (i := 54) (by simp [Blk_ite]) (by decide) ?_ ?_ ?_
    | with_reducible refine Within.wrB (i := 41) (by simp [Blk_ite]) (by decide) ?_ ?_ ?_
    | with_reducible refine Within.wrB (i := 46) (by simp [Blk_ite]) (by decide) ?_ ?_ ?_
    | with_reducible refine State_setObj_within ?_ ?_ | with_reducible refine rawBits_within ?_ ?_
    | with_reducible refine rawWord_within ?_ ?_ | with_reducible refine dioRegroup_within ?_ ?_
    | with_reducible refine lsRegroup_within ?_ ?_ | exact mask_sub hk rfl | with_reducible refine Within.ite ?_ ?_
    | with_reducible refine Within.wr (pomParamReg_blk (by assumption)) (by decide) ?_ ?_ ?_ | split | dsimp -proj only)

theorem loadNumber_within {K : Nat} {b s : State} {a2 a3} (hk : K &&& 4611683819404140548 = 4611683819404140548) (h : Within K b s) :
    Within K b (loadNumber s a2 a3) := by
  unfold loadNumber
  repeat' (first
    | with_reducible assumption | with_reducible refine objLoad_within ?_ ?_
    | with_reducible refine State_degrade_within ?_ ?_ | exact mask_sub hk rfl | with_reducible refine Within.ite ?_ ?_
    | split | dsimp -proj only)

theorem State_status_within {K : Nat} {b s : State} {a2} (hk : K &&& 256 = 256) (h : Within K b s) :
    Within K b (State.status s a2) := by
  unfold State.status
  repeat' (first
    | with_reducible assumption | with_reducible refine State_answer_within ?_ ?_ | exact mask_sub hk rfl
    | with_reducible refine Within.ite ?_ ?_ | split | dsimp -proj only)

theorem lsCheckProf_within {K : Nat} {b s : State} {a2} (hk : K &&& 2306124484190404864 = 2306124484190404864) (h : Within K b s) :
    Within K b (lsCheckProf s a2) := by
  unfold lsCheckProf
  repeat' (first
    | with_reducible assumption
    | with_reducible refine Within.setBit (i := 48) (by simp [Blk_ite]) (by decide) ?_ ?_ ?_
    | with_reducible refine Within.wr (i := 48) (by simp [Blk_ite]) (by decide) ?_ ?_ ?_
    | with_reducible refine Within.clrBit (i := 48) (by simp [Blk_ite]) (by decide) ?_ ?_ ?_
    | with_reducible refine State_status_within ?_ ?_ | exact mask_sub hk rfl | with_reducible refine Within.ite ?_ ?_
    | split | dsimp -proj only)

theorem loadWords_within {K : Nat} {b s : State} {a2 a3} (hk : K &&& 4611683819404132352 = 4611683819404132352) (h : Within K b s) :
    Within K b (loadWords s a2 a3) := by
  unfold loadWords
  repeat' (first
    | with_reducible assumption | with_reducible refine rawWord_within ?_ ?_ | exact mask_sub hk rfl
    | with_reducible refine Within.ite ?_ ?_ | with_reducible refine Within.foldl (fun _ _ _ => ?_) ?_ | split
    | dsimp -proj only)

theorem objLoadBytes_within {K : Nat} {b s : State} {a2 a3 a4 a5} (hk : K &&& 4611683819404132616 = 4611683819404132616) (h : Within K b s) :
    Within K b (objLoadBytes s a2 a3 a4 a5) := by
  unfold objLoadBytes
  repeat' (first
    | with_reducible assumption | with_reducible refine loadWords_within ?_ ?_
    | with_reducible refine lsCheckProf_within ?_ ?_ | exact mask_sub hk rfl | with_reducible refine Within.ite ?_ ?_
    | split | dsimp -proj only | with_reducible refine Within.u_objBytes ?_ ?_)

theorem loadBytes_within {K : Nat} {b s : State} {a2 a3} (hk : K &&& 4611683819404140808 = 4611683819404140808) (h : Within K b s) :
    Within K b (loadBytes s a2 a3) := by
  unfold loadBytes
  repeat' (first
    | with_reducible assumption | with_reducible refine objLoadBytes_within ?_ ?_
    | with_reducible refine State_status_within ?_ ?_ | with_reducible refine State_degrade_within ?_ ?_
    | exact mask_sub hk rfl | with_reducible refine Within.ite ?_ ?_ | split | dsimp -proj only)

theorem capOn_within {K : Nat} {b s : State} (hk : K &&& 2305860601533956098 = 2305860601533956098) (h : Within K b s) :
    Within K b (capOn s) := by
  unfold capOn
  repeat' (first
    | with_reducible assumption | with_reducible refine Within.wr (i := 44) (by simp [Blk_ite]) (by decide) ?_ ?_ ?_
    | with_reducible refine capRestart_within ?_ ?_ | exact mask_sub hk rfl | with_reducible refine Within.ite ?_ ?_
    | split | dsimp -proj only)

theorem settingsLoad_within {K : Nat} {b s : State} (hk : K &&& 4611683828128293134 = 4611683828128293134) (h : Within K b s) :
    Within K b (settingsLoad s) := by
  unfold settingsLoad
  repeat' (first
    | with_reducible assumption | with_reducible refine Within.wr (i := 46) (by simp [Blk_ite]) (by decide) ?_ ?_ ?_
    | with_reducible refine Within.wr (i := 49) (by simp [Blk_ite]) (by decide) ?_ ?_ ?_
    | with_reducible refine tilDegrade_within ?_ ?_ | with_reducible refine capOn_within ?_ ?_
    | with_reducible refine Within.forN (fun _ _ _ _ => ?_) ?_
    | with_reducible refine State_resetRegs_within (by first | decide | (simp only [F.CLO_SLOT_LOADED, F.CAN_NBT_NBRP, F.CAN_DBT_DBRP]; omega)) ?_ ?_
    | with_reducible refine loadBytes_within ?_ ?_ | with_reducible refine loadNumber_within ?_ ?_
    | with_reducible refine pwrDefaults_within ?_ ?_ | with_reducible refine State_degrade_within ?_ ?_
    | exact mask_sub hk rfl | with_reducible refine Within.ite ?_ ?_
    | with_reducible refine Within.foldl (fun _ _ _ => ?_) ?_ | split | dsimp -proj only
    | with_reducible refine Within.u_objs_objBytes ?_ ?_ | with_reducible refine Within.u_resp_ses ?_ ?_)

theorem settingsFormat_within {K : Nat} {b s : State} (hk : K &&& 2594073462674817072 = 2594073462674817072) (h : Within K b s) :
    Within K b (settingsFormat s) := by
  unfold settingsFormat
  repeat' (first
    | with_reducible assumption | with_reducible refine Within.wr (i := 58) (by simp [Blk_ite]) (by decide) ?_ ?_ ?_
    | exact mask_sub hk rfl | with_reducible refine Within.ite ?_ ?_ | split | dsimp -proj only
    | with_reducible refine Within.u_settings_settingsBytes_ses ?_ ?_
    | with_reducible refine Within.u_settings_settingsBytes_grf ?_ ?_)

theorem microcodeLoad_within {K : Nat} {b s : State} (hk : K &&& 2305913378226307072 = 2305913378226307072) (h : Within K b s) :
    Within K b (microcodeLoad s) := by
  unfold microcodeLoad
  repeat' (first
    | with_reducible assumption | with_reducible refine Within.wr (i := 46) (by simp [Blk_ite]) (by decide) ?_ ?_ ?_
    | exact mask_sub hk rfl | with_reducible refine Within.ite ?_ ?_
    | with_reducible refine Within.foldl (fun _ _ _ => ?_) ?_ | split | dsimp -proj only
    | with_reducible refine Within.u_til ?_ ?_)

theorem bootRom_within {K : Nat} {b s : State} {a2 a3} (hk : K &&& 23058428438557670335 = 23058428438557670335) (h : Within K b s) :
    Within K b (bootRom s a2 a3) := by
  unfold bootRom
  repeat' (first
    | with_reducible assumption | with_reducible refine Within.wrB (i := 54) (by simp [Blk_ite]) (by decide) ?_ ?_ ?_
    | with_reducible refine Within.wr (i := 54) (by simp [Blk_ite]) (by decide) ?_ ?_ ?_
    | with_reducible refine Within.wr (i := 58) (by simp [Blk_ite]) (by decide) ?_ ?_ ?_
    | with_reducible refine microcodeLoad_within ?_ ?_ | with_reducible refine settingsFormat_within ?_ ?_
    | with_reducible refine settingsLoad_within ?_ ?_ | with_reducible refine enginesStart_within ?_ ?_
    | with_reducible refine enterHold_within ?_ ?_ | with_reducible refine bankSelect_within_fst ?_ ?_
    | with_reducible refine bankSelect_within ?_ ?_ (by assumption) | with_reducible refine romRelease_within ?_ ?_
    | with_reducible refine tamper_within ?_ ?_ | with_reducible refine debugSeal_within ?_ ?_
    | with_reducible refine loadSlots_within ?_ ?_ | with_reducible refine rootRegenerate_within ?_ ?_
    | with_reducible refine romShow_within ?_ ?_ | with_reducible refine romQuarantine_within ?_ ?_
    | exact mask_sub hk rfl | with_reducible refine Within.ite ?_ ?_ | split | dsimp -proj only)

theorem jobsRestart_within {K : Nat} {b s : State} (hk : K &&& 21040923390148352514 = 21040923390148352514) (h : Within K b s) :
    Within K b (jobsRestart s) := by
  unfold jobsRestart
  repeat' (first
    | with_reducible assumption | with_reducible refine State_setBank_within ?_ ?_
    | with_reducible refine jobTo_within ?_ ?_ | with_reducible refine Within.forN (fun _ _ _ _ => ?_) ?_
    | exact mask_sub hk rfl | with_reducible refine Within.ite ?_ ?_ | split | dsimp -proj only
    | with_reducible refine Within.u_clo_grf ?_ ?_)

theorem setLine_within {K : Nat} {b s : State} {a2 a3} (hk : K &&& 2306405959168163840 = 2306405959168163840) (h : Within K b s) :
    Within K b (setLine s a2 a3) := by
  unfold setLine
  repeat' (first
    | with_reducible assumption | with_reducible refine Within.wrB (i := 49) (by simp [Blk_ite]) (by decide) ?_ ?_ ?_
    | exact mask_sub hk rfl | with_reducible refine Within.ite ?_ ?_ | split | dsimp -proj only
    | with_reducible refine Within.u_str ?_ ?_)

theorem strStop_within {K : Nat} {b s : State} (hk : K &&& 20754592592134314626 = 20754592592134314626) (h : Within K b s) :
    Within K b (strStop s) := by
  unfold strStop
  repeat' (first
    | with_reducible assumption | with_reducible refine Within.wr (i := 49) (by simp [Blk_ite]) (by decide) ?_ ?_ ?_
    | with_reducible refine holdStart_within ?_ ?_ | with_reducible refine setLine_within ?_ ?_
    | with_reducible refine Within.forN (fun _ _ _ _ => ?_) ?_ | exact mask_sub hk rfl
    | with_reducible refine Within.ite ?_ ?_ | split | dsimp -proj only)

theorem resetAon_within {K : Nat} {b s : State} (hk : K &&& 4611684128660652032 = 4611684128660652032) (h : Within K b s) :
    Within K b (resetAon s) := by
  unfold resetAon
  repeat' (first
    | with_reducible assumption | with_reducible refine Within.wr (i := 55) (by simp [Blk_ite]) (by decide) ?_ ?_ ?_
    | with_reducible refine State_resetRegs_within (by first | decide | (simp only [F.CLO_SLOT_LOADED, F.CAN_NBT_NBRP, F.CAN_DBT_DBRP]; omega)) ?_ ?_
    | exact mask_sub hk rfl | with_reducible refine Within.ite ?_ ?_ | split | dsimp -proj only
    | with_reducible refine Within.u_pom_aon_clo_jobs ?_ ?_)

theorem pd1Reset_within {K : Nat} {b s : State} (hk : K &&& 2341871806232952832 = 2341871806232952832) (h : Within K b s) :
    Within K b (pd1Reset s) := by
  unfold pd1Reset
  repeat' (first
    | with_reducible assumption | with_reducible refine Within.wr (i := 55) (by simp [Blk_ite]) (by decide) ?_ ?_ ?_
    | with_reducible refine State_setLs_within ?_ ?_ | with_reducible refine Within.forN (fun _ _ _ _ => ?_) ?_
    | exact mask_sub hk rfl | with_reducible refine Within.ite ?_ ?_ | split | dsimp -proj only
    | with_reducible refine Within.u_lsKept1 ?_ ?_)

theorem startReset_within {K : Nat} {b s : State} {a2} (hk : K &&& 27670114461296818866 = 27670114461296818866) (h : Within K b s) :
    Within K b (startReset s a2) := by
  unfold startReset
  repeat' (first
    | with_reducible assumption | with_reducible refine pd1Reset_within ?_ ?_
    | with_reducible refine railsTo_within ?_ ?_ | with_reducible refine resetAon_within ?_ ?_
    | with_reducible refine slsDown_within ?_ ?_ | with_reducible refine resetSafe_within ?_ ?_
    | with_reducible refine resetCore_within ?_ ?_ | with_reducible refine strStop_within ?_ ?_
    | with_reducible refine jobsRestart_within ?_ ?_ | exact mask_sub hk rfl | with_reducible refine Within.ite ?_ ?_
    | split | dsimp -proj only | with_reducible refine Within.u_grf ?_ ?_
    | with_reducible refine Within.u_str_retain ?_ ?_ | with_reducible refine Within.u_girth_partner ?_ ?_)

theorem bootEnter_within {K : Nat} {b s : State} {a2 a3 a4} (hk : K &&& 27670114461296819135 = 27670114461296819135) (h : Within K b s) :
    Within K b (bootEnter s a2 a3 a4) := by
  unfold bootEnter
  repeat' (first
    | with_reducible assumption | with_reducible refine startReset_within ?_ ?_
    | with_reducible refine setMode_within (by first | decide | exact handoffReturn_legal _ | exact bootTarget_legal _) ?_ ?_
    | with_reducible refine bootRom_within ?_ ?_ | exact mask_sub hk rfl | with_reducible refine Within.ite ?_ ?_
    | split | dsimp -proj only)

theorem jobsEnd_within {K : Nat} {b s : State} {a2 a3} (hk : K &&& 21968667129862437378 = 21968667129862437378) (h : Within K b s) :
    Within K b (jobsEnd s a2 a3) := by
  unfold jobsEnd
  repeat' (first
    | with_reducible assumption | with_reducible refine jobEnd_within ?_ ?_
    | with_reducible refine Within.forN (fun _ _ _ _ => ?_) ?_ | exact mask_sub hk rfl
    | with_reducible refine Within.ite ?_ ?_ | split | dsimp -proj only)

theorem freezeStart_within {K : Nat} {b s : State} {a2 a3 a4} (hk : K &&& 21968667129862437378 = 21968667129862437378) (h : Within K b s) :
    Within K b (freezeStart s a2 a3 a4) := by
  unfold freezeStart
  repeat' (first
    | with_reducible assumption | with_reducible refine jobsEnd_within ?_ ?_
    | with_reducible refine State_setPlot_within ?_ ?_ | exact mask_sub hk rfl | with_reducible refine Within.ite ?_ ?_
    | split | dsimp -proj only)

theorem lsOffer_within {K : Nat} {b s : State} {a2} (hk : K &&& 8704 = 8704) (h : Within K b s) :
    Within K b (lsOffer s a2) := by
  unfold lsOffer
  repeat' (first
    | with_reducible assumption | with_reducible refine State_emit_within ?_ ?_ | exact mask_sub hk rfl
    | with_reducible refine Within.ite ?_ ?_ | split | dsimp -proj only | with_reducible refine Within.u_girth ?_ ?_)

theorem dioFollow_within {K : Nat} {b s : State} {a2} (hk : K &&& 2306968909121061376 = 2306968909121061376) (h : Within K b s) :
    Within K b (dioFollow s a2) := by
  unfold dioFollow
  repeat' (first
    | with_reducible assumption | with_reducible refine dioUpdate_within ?_ ?_ | exact mask_sub hk rfl
    | with_reducible refine Within.ite ?_ ?_ | with_reducible refine Within.foldl (fun _ _ _ => ?_) ?_ | split
    | dsimp -proj only)

theorem dioGive_within {K : Nat} {b s : State} {a2} (hk : K &&& 3496482160700301824 = 3496482160700301824) (h : Within K b s) :
    Within K b (dioGive s a2) := by
  unfold dioGive
  repeat' (first
    | with_reducible assumption | with_reducible refine Within.hwWr (i := 50) (by simp [Blk_ite]) (by decide) ?_ ?_ ?_
    | with_reducible refine Within.setBit (i := 49) (by simp [Blk_ite]) (by decide) ?_ ?_ ?_
    | with_reducible refine subSync_within ?_ ?_ | with_reducible refine dioFollow_within ?_ ?_ | exact mask_sub hk rfl
    | with_reducible refine Within.ite ?_ ?_ | split | dsimp -proj only | with_reducible refine Within.u_girth ?_ ?_)

theorem handoffRelease_within {K : Nat} {b s : State} (hk : K &&& 3496482160700301824 = 3496482160700301824) (h : Within K b s) :
    Within K b (handoffRelease s) := by
  unfold handoffRelease
  repeat' (first
    | with_reducible assumption | with_reducible refine dioGive_within ?_ ?_
    | with_reducible refine lsOffer_within ?_ ?_ | with_reducible refine Within.forN (fun _ _ _ _ => ?_) ?_
    | exact mask_sub hk rfl | with_reducible refine Within.ite ?_ ?_ | split | dsimp -proj only
    | with_reducible refine Within.u_girth ?_ ?_)

theorem latPass_within {K : Nat} {b s : State} {a2} (hk : K &&& 33554944 = 33554944) (h : Within K b s) :
    Within K b (latPass s a2) := by
  unfold latPass
  repeat' (first
    | with_reducible assumption | with_reducible refine State_setRing_within ?_ ?_
    | with_reducible refine State_emit_within ?_ ?_ | exact mask_sub hk rfl | with_reducible refine Within.ite ?_ ?_
    | split | dsimp -proj only)

theorem handoffStep_within {K : Nat} {b s : State} (hk : K &&& 21973029993646569987 = 21973029993646569987) (h : Within K b s) :
    Within K b (handoffStep s) := by
  unfold handoffStep
  repeat' (first
    | with_reducible assumption | with_reducible refine Within.wr (i := 47) (by simp [Blk_ite]) (by decide) ?_ ?_ ?_
    | with_reducible refine subSync_within ?_ ?_ | with_reducible refine latPass_within ?_ ?_
    | with_reducible refine Within.forN (fun _ _ _ _ => ?_) ?_ | with_reducible refine handoffRelease_within ?_ ?_
    | with_reducible refine freezeStart_within ?_ ?_ | with_reducible refine handoffRefuse_within ?_ ?_
    | exact mask_sub hk rfl | with_reducible refine Within.ite ?_ ?_ | split | dsimp -proj only)

theorem setSetting_within {K : Nat} {b s : State} {a2 a3 a4} (hk : K &&& 16 = 16) (h : Within K b s) :
    Within K b (setSetting s a2 a3 a4) := by
  unfold setSetting
  repeat' (first
    | with_reducible assumption | exact mask_sub hk rfl | with_reducible refine Within.ite ?_ ?_ | split
    | dsimp -proj only | with_reducible refine Within.u_settings ?_ ?_)

theorem powSave_within {K : Nat} {b s : State} (hk : K &&& 4194320 = 4194320) (h : Within K b s) :
    Within K b (powSave s) := by
  unfold powSave
  repeat' (first
    | with_reducible assumption | with_reducible refine setSetting_within ?_ ?_
    | with_reducible refine Within.forN (fun _ _ _ _ => ?_) ?_ | exact mask_sub hk rfl
    | with_reducible refine Within.ite ?_ ?_ | split | dsimp -proj only | with_reducible refine Within.u_trl ?_ ?_)

theorem handoffEnter_within {K : Nat} {b s : State} {a2} (hk : K &&& 21973029993646570003 = 21973029993646570003) (h : Within K b s) :
    Within K b (handoffEnter s a2) := by
  unfold handoffEnter
  repeat' (first
    | with_reducible assumption | with_reducible refine powSave_within ?_ ?_
    | with_reducible refine followAll_within ?_ ?_ | with_reducible refine handoffStep_within ?_ ?_
    | with_reducible refine setMode_within (by first | decide | exact handoffReturn_legal _ | exact bootTarget_legal _) ?_ ?_
    | with_reducible refine serviceEnd_within ?_ ?_ | exact mask_sub hk rfl | with_reducible refine Within.ite ?_ ?_
    | split | dsimp -proj only)

theorem strWake_within {K : Nat} {b s : State} (hk : K &&& 20754592592134314626 = 20754592592134314626) (h : Within K b s) :
    Within K b (strWake s) := by
  unfold strWake
  repeat' (first
    | with_reducible assumption | with_reducible refine Within.wr (i := 49) (by simp [Blk_ite]) (by decide) ?_ ?_ ?_
    | with_reducible refine Within.incSat (i := 49) (by simp [Blk_ite]) (by decide) ?_ ?_ ?_
    | with_reducible refine strEvent_within ?_ ?_ | with_reducible refine heldSync_within ?_ ?_
    | with_reducible refine followAll_within ?_ ?_ | exact mask_sub hk rfl | with_reducible refine Within.ite ?_ ?_
    | split | dsimp -proj only | with_reducible refine Within.u_str ?_ ?_)

theorem nsStayAwake_within {K : Nat} {b s : State} (hk : K &&& 2308094810637992448 = 2308094810637992448) (h : Within K b s) :
    Within K b (nsStayAwake s) := by
  unfold nsStayAwake
  repeat' (first
    | with_reducible assumption | with_reducible refine nsEnd_within ?_ ?_ | with_reducible refine nsSend_within ?_ ?_
    | with_reducible refine wakeDrive_within ?_ ?_ | exact mask_sub hk rfl | with_reducible refine Within.ite ?_ ?_
    | split | dsimp -proj only)

theorem wakeNetwork_within {K : Nat} {b s : State} {a2} (hk : K &&& 2308094810637992448 = 2308094810637992448) (h : Within K b s) :
    Within K b (wakeNetwork s a2) := by
  unfold wakeNetwork
  repeat' (first
    | with_reducible assumption | with_reducible refine wakeDrive_within ?_ ?_
    | with_reducible refine nsSend_within ?_ ?_ | with_reducible refine nsTo_within ?_ ?_
    | with_reducible refine nsStayAwake_within ?_ ?_ | exact mask_sub hk rfl | with_reducible refine Within.ite ?_ ?_
    | split | dsimp -proj only)

theorem keptPost_within {K : Nat} {b s : State} (hk : K &&& 20752622267295734274 = 20752622267295734274) (h : Within K b s) :
    Within K b (keptPost s) := by
  unfold keptPost
  repeat' (first
    | with_reducible assumption | with_reducible refine lsPost_within ?_ ?_ | exact mask_sub hk rfl
    | with_reducible refine Within.ite ?_ ?_ | with_reducible refine Within.foldl (fun _ _ _ => ?_) ?_ | split
    | dsimp -proj only | with_reducible refine Within.u_lsKept0_lsKept1 ?_ ?_)

theorem wakeRun_within {K : Nat} {b s : State} {a2} (hk : K &&& 23058428429967735443 = 23058428429967735443) (h : Within K b s) :
    Within K b (wakeRun s a2) := by
  unfold wakeRun
  repeat' (first
    | with_reducible assumption | with_reducible refine handoffEnter_within ?_ ?_
    | with_reducible refine keptPost_within ?_ ?_ | with_reducible refine wakeNetwork_within ?_ ?_
    | with_reducible refine nsSync_within ?_ ?_
    | with_reducible refine setMode_within (by first | decide | exact handoffReturn_legal _ | exact bootTarget_legal _) ?_ ?_
    | with_reducible refine strWake_within ?_ ?_ | with_reducible refine wakeReload_within ?_ ?_
    | with_reducible refine railsTo_within ?_ ?_ | with_reducible refine enterHold_within ?_ ?_ | exact mask_sub hk rfl
    | with_reducible refine Within.ite ?_ ?_ | split | dsimp -proj only | with_reducible refine Within.u_retain ?_ ?_
    | with_reducible refine Within.u_girth ?_ ?_)

theorem wake_within {K : Nat} {b s : State} {a2 a3} (hk : K &&& 23058428429967735443 = 23058428429967735443) (h : Within K b s) :
    Within K b (wake s a2 a3) := by
  unfold wake
  repeat' (first
    | with_reducible assumption
    | with_reducible refine Within.setBit (i := 55) (by simp [Blk_ite]) (by decide) ?_ ?_ ?_
    | with_reducible refine wakeRun_within ?_ ?_ | exact mask_sub hk rfl | with_reducible refine Within.ite ?_ ?_
    | split | dsimp -proj only)

theorem ejectAssert_within {K : Nat} {b s : State} {a2} (hk : K &&& 23058428429967735443 = 23058428429967735443) (h : Within K b s) :
    Within K b (ejectAssert s a2) := by
  unfold ejectAssert
  repeat' (first
    | with_reducible assumption | with_reducible refine Within.wr (i := 55) (by simp [Blk_ite]) (by decide) ?_ ?_ ?_
    | with_reducible refine wake_within ?_ ?_ | with_reducible refine handoffEnter_within ?_ ?_ | exact mask_sub hk rfl
    | with_reducible refine Within.ite ?_ ?_ | split | dsimp -proj only)

theorem claimAll_within {K : Nat} {b s : State} (hk : K &&& 21943542893759085058 = 21943542893759085058) (h : Within K b s) :
    Within K b (claimAll s) := by
  unfold claimAll
  repeat' (first
    | with_reducible assumption | with_reducible refine Within.wr (i := 49) (by simp [Blk_ite]) (by decide) ?_ ?_ ?_
    | with_reducible refine subSync_within ?_ ?_ | with_reducible refine followAll_within ?_ ?_ | exact mask_sub hk rfl
    | with_reducible refine Within.ite ?_ ?_ | split | dsimp -proj only | with_reducible refine Within.u_girth ?_ ?_)

theorem bootClaims_within {K : Nat} {b s : State} (hk : K &&& 21943542893759085058 = 21943542893759085058) (h : Within K b s) :
    Within K b (bootClaims s) := by
  unfold bootClaims
  repeat' (first
    | with_reducible assumption | with_reducible refine claimAll_within ?_ ?_ | exact mask_sub hk rfl
    | with_reducible refine Within.ite ?_ ?_ | split | dsimp -proj only)

theorem ownPut_within {K : Nat} {b s : State} {a2 a3 a4} {i : Nat} (hf : Blk a2 i) (hi : i ≠ 0) (hki : K &&& 2 ^ i = 2 ^ i) (hk : K &&& 2305843009213693952 = 2305843009213693952) (h : Within K b s) :
    Within K b (ownPut s a2 a3 a4) := by
  unfold ownPut
  repeat' (first
    | with_reducible assumption | with_reducible refine Within.wr hf hi hki ?_ ?_ | exact mask_sub hk rfl
    | with_reducible refine Within.ite ?_ ?_ | split | dsimp -proj only)

theorem slotsOut_within {K : Nat} {b s : State} {a2 a3 a4} (hk : K &&& 2305845208236949504 = 2305845208236949504) (h : Within K b s) :
    Within K b (slotsOut s a2 a3 a4) := by
  induction a4 generalizing s a2 a3 with
  | zero => exact h
  | succ _ ih =>
  unfold slotsOut
  repeat' (first
    | with_reducible assumption | with_reducible refine ih ?_
    | with_reducible refine Within.hwWr (i := 41) (by simp [Blk_ite]) (by decide) ?_ ?_ ?_ | exact mask_sub hk rfl
    | with_reducible refine Within.ite ?_ ?_ | split | dsimp -proj only)

theorem plotProgram_within {K : Nat} {b s : State} {a2 a3} (hk : K &&& 4611683819404132352 = 4611683819404132352) (h : Within K b s) :
    Within K b (plotProgram s a2 a3) := by
  unfold plotProgram
  repeat' (first
    | with_reducible assumption | with_reducible refine Within.wr (i := 52) (by simp [Blk_ite]) (by decide) ?_ ?_ ?_
    | with_reducible refine Within.wr (i := 53) (by simp [Blk_ite]) (by decide) ?_ ?_ ?_
    | with_reducible refine State_writeWord_within ?_ ?_ | with_reducible refine slotsOut_within ?_ ?_
    | with_reducible refine ownPut_within (i := 53) (by simp [Blk_ite]) (by decide) ?_ ?_ ?_
    | with_reducible refine Within.forN (fun _ _ _ _ => ?_) ?_ | exact mask_sub hk rfl
    | with_reducible refine Within.ite ?_ ?_ | split | dsimp -proj only)

theorem plotApply_within {K : Nat} {b s : State} {a1} (hk : K &&& 4611683836584001536 = 4611683836584001536) (h : Within K b s) :
    Within K b (plotApply a1 s) := by
  unfold plotApply
  repeat' (first
    | with_reducible assumption | with_reducible refine Within.wr (i := 53) (by simp [Blk_ite]) (by decide) ?_ ?_ ?_
    | with_reducible refine State_setPlot_within ?_ ?_ | with_reducible refine plotProgram_within ?_ ?_
    | exact mask_sub hk rfl | with_reducible refine Within.ite ?_ ?_ | split | dsimp -proj only)

theorem queueFields_within {K : Nat} {b s : State} {a2 a3} (hk : K &&& 4611683819404132352 = 4611683819404132352) (h : Within K b s) :
    Within K b (queueFields s a2 a3) := by
  unfold queueFields
  repeat' (first
    | with_reducible assumption | with_reducible refine State_writeWord_within ?_ ?_ | exact mask_sub hk rfl
    | with_reducible refine Within.ite ?_ ?_ | split | dsimp -proj only)

theorem furEmpty_within {K : Nat} {b s : State} {a2} (hk : K &&& 2305878193585786880 = 2305878193585786880) (h : Within K b s) :
    Within K b (furEmpty s a2) := by
  unfold furEmpty
  repeat' (first
    | with_reducible assumption | with_reducible refine Within.wr (i := 45) (by simp [Blk_ite]) (by decide) ?_ ?_ ?_
    | with_reducible refine State_setQueue_within ?_ ?_ | exact mask_sub hk rfl
    | with_reducible refine Within.ite ?_ ?_ | split | dsimp -proj only)

theorem queueOff_within {K : Nat} {b s : State} {a2} (hk : K &&& 2305878193585789440 = 2305878193585789440) (h : Within K b s) :
    Within K b (queueOff s a2) := by
  unfold queueOff
  repeat' (first
    | with_reducible assumption | with_reducible refine Within.wr (i := 45) (by simp [Blk_ite]) (by decide) ?_ ?_ ?_
    | with_reducible refine furEmpty_within ?_ ?_ | with_reducible refine furSync_within ?_ ?_ | exact mask_sub hk rfl
    | with_reducible refine Within.ite ?_ ?_ | split | dsimp -proj only)

theorem queueOn_within {K : Nat} {b s : State} {a2} (hk : K &&& 2305878193585785344 = 2305878193585785344) (h : Within K b s) :
    Within K b (queueOn s a2) := by
  unfold queueOn
  repeat' (first
    | with_reducible assumption | with_reducible refine Within.wr (i := 45) (by simp [Blk_ite]) (by decide) ?_ ?_ ?_
    | with_reducible refine furSync_within ?_ ?_ | exact mask_sub hk rfl | with_reducible refine Within.ite ?_ ?_
    | split | dsimp -proj only)

theorem queueApply_within {K : Nat} {b s : State} {a2 a3} (hk : K &&& 4611683819404139008 = 4611683819404139008) (h : Within K b s) :
    Within K b (queueApply s a2 a3) := by
  unfold queueApply
  repeat' (first
    | with_reducible assumption | with_reducible refine queueOn_within ?_ ?_
    | with_reducible refine queueOff_within ?_ ?_ | with_reducible refine queueFields_within ?_ ?_
    | exact mask_sub hk rfl | with_reducible refine Within.ite ?_ ?_ | split | dsimp -proj only)

theorem spanMatchSync_within {K : Nat} {b s : State} (hk : K &&& 2314850208468434944 = 2314850208468434944) (h : Within K b s) :
    Within K b (spanMatchSync s) := by
  unfold spanMatchSync
  repeat' (first
    | with_reducible assumption | with_reducible refine Within.wrB (i := 53) (by simp [Blk_ite]) (by decide) ?_ ?_ ?_
    | exact mask_sub hk rfl | with_reducible refine Within.ite ?_ ?_ | split | dsimp -proj only)

theorem digestSync_within {K : Nat} {b s : State} (hk : K &&& 2314850225648304128 = 2314850225648304128) (h : Within K b s) :
    Within K b (digestSync s) := by
  unfold digestSync
  repeat' (first
    | with_reducible assumption | with_reducible refine spanMatchSync_within ?_ ?_ | exact mask_sub hk rfl
    | with_reducible refine Within.ite ?_ ?_ | split | dsimp -proj only | with_reducible refine Within.u_pc ?_ ?_)

theorem tablesApply_within {K : Nat} {b s : State} (hk : K &&& 4611683836584008192 = 4611683836584008192) (h : Within K b s) :
    Within K b (tablesApply s) := by
  unfold tablesApply
  repeat' (first
    | with_reducible assumption | with_reducible refine Within.wr (i := 53) (by simp [Blk_ite]) (by decide) ?_ ?_ ?_
    | with_reducible refine digestSync_within ?_ ?_ | with_reducible refine queueApply_within ?_ ?_
    | with_reducible refine plotApply_within ?_ ?_ | with_reducible refine Within.forN (fun _ _ _ _ => ?_) ?_
    | exact mask_sub hk rfl | with_reducible refine Within.ite ?_ ?_ | split | dsimp -proj only
    | with_reducible refine Within.u_pc ?_ ?_)

theorem bootTables_within {K : Nat} {b s : State} (hk : K &&& 4611683836584016384 = 4611683836584016384) (h : Within K b s) :
    Within K b (bootTables s) := by
  unfold bootTables
  repeat' (first
    | with_reducible assumption | with_reducible refine Within.wr (i := 53) (by simp [Blk_ite]) (by decide) ?_ ?_ ?_
    | with_reducible refine tablesApply_within ?_ ?_ | with_reducible refine State_degrade_within ?_ ?_
    | exact mask_sub hk rfl | with_reducible refine Within.ite ?_ ?_ | split | dsimp -proj only)

theorem gwCommit_within {K : Nat} {b s : State} (hk : K &&& 2310346610988548352 = 2310346610988548352) (h : Within K b s) :
    Within K b (gwCommit s) := by
  unfold gwCommit
  repeat' (first
    | with_reducible assumption | with_reducible refine Within.wr (i := 52) (by simp [Blk_ite]) (by decide) ?_ ?_ ?_
    | with_reducible refine State_status_within ?_ ?_ | exact mask_sub hk rfl | with_reducible refine Within.ite ?_ ?_
    | split | dsimp -proj only | with_reducible refine Within.u_gw ?_ ?_)

theorem bootGateway_within {K : Nat} {b s : State} (hk : K &&& 2310346610988548352 = 2310346610988548352) (h : Within K b s) :
    Within K b (bootGateway s) := by
  unfold bootGateway
  repeat' (first
    | with_reducible assumption | with_reducible refine gwCommit_within ?_ ?_ | exact mask_sub hk rfl
    | with_reducible refine Within.ite ?_ ?_ | split | dsimp -proj only | with_reducible refine Within.u_resp ?_ ?_)

theorem plotBoot_within {K : Nat} {b s : State} {a1} (hk : K &&& 3503800527274123264 = 3503800527274123264) (h : Within K b s) :
    Within K b (plotBoot a1 s) := by
  unfold plotBoot
  repeat' (first
    | with_reducible assumption | with_reducible refine plotTo_within ?_ ?_ | exact mask_sub hk rfl
    | with_reducible refine Within.ite ?_ ?_ | split | dsimp -proj only)

theorem bootPlots_within {K : Nat} {b s : State} (hk : K &&& 3503800527274123264 = 3503800527274123264) (h : Within K b s) :
    Within K b (bootPlots s) := by
  unfold bootPlots
  repeat' (first
    | with_reducible assumption | with_reducible refine plotBoot_within ?_ ?_
    | with_reducible refine Within.forN (fun _ _ _ _ => ?_) ?_ | exact mask_sub hk rfl
    | with_reducible refine Within.ite ?_ ?_ | split | dsimp -proj only)

theorem xingSync_within {K : Nat} {b s : State} (hk : K &&& 2341871806232657920 = 2341871806232657920) (h : Within K b s) :
    Within K b (xingSync s) := by
  unfold xingSync
  repeat' (first
    | with_reducible assumption | with_reducible refine Within.wr (i := 55) (by simp [Blk_ite]) (by decide) ?_ ?_ ?_
    | exact mask_sub hk rfl | with_reducible refine Within.ite ?_ ?_ | split | dsimp -proj only)

theorem strPostEvents_within {K : Nat} {b s : State} (hk : K &&& 20752622267296389634 = 20752622267296389634) (h : Within K b s) :
    Within K b (strPostEvents s) := by
  unfold strPostEvents
  repeat' (first
    | with_reducible assumption | with_reducible refine hwPost_within ?_ ?_ | exact mask_sub hk rfl
    | with_reducible refine Within.ite ?_ ?_ | with_reducible refine Within.foldl (fun _ _ _ => ?_) ?_ | split
    | dsimp -proj only | with_reducible refine Within.u_str ?_ ?_)

theorem activationEnd_within {K : Nat} {b s : State} (hk : K &&& 20752692979636902402 = 20752692979636902402) (h : Within K b s) :
    Within K b (activationEnd s) := by
  unfold activationEnd
  repeat' (first
    | with_reducible assumption | with_reducible refine jobTo_within ?_ ?_ | exact mask_sub hk rfl
    | with_reducible refine Within.ite ?_ ?_ | split | dsimp -proj only | with_reducible refine Within.u_grf ?_ ?_)

theorem ctrSet_within {K : Nat} {b s : State} {a2 a3} (hk : K &&& 2323857442082914304 = 2323857442082914304) (h : Within K b s) :
    Within K b (ctrSet s a2 a3) := by
  unfold ctrSet
  repeat' (first
    | with_reducible assumption | with_reducible refine Within.wr (i := 54) (by simp [Blk_ite]) (by decide) ?_ ?_ ?_
    | with_reducible refine debugSeal_within ?_ ?_ | exact mask_sub hk rfl | with_reducible refine Within.ite ?_ ?_
    | split | dsimp -proj only | with_reducible refine Within.u_clo ?_ ?_)

theorem bankAccepted_within {K : Nat} {b s : State} (hk : K &&& 2612087886954102784 = 2612087886954102784) (h : Within K b s) :
    Within K b (bankAccepted s) := by
  unfold bankAccepted
  repeat' (first
    | with_reducible assumption | with_reducible refine grfSync_within ?_ ?_
    | with_reducible refine State_setBank_within ?_ ?_ | with_reducible refine ctrSet_within ?_ ?_
    | exact mask_sub hk rfl | with_reducible refine Within.ite ?_ ?_ | split | dsimp -proj only
    | with_reducible refine Within.u_grf ?_ ?_)

theorem bootEnd_within {K : Nat} {b s : State} (hk : K &&& 23058428292010786563 = 23058428292010786563) (h : Within K b s) :
    Within K b (bootEnd s) := by
  unfold bootEnd
  repeat' (first
    | with_reducible assumption | with_reducible refine Within.wrB (i := 49) (by simp [Blk_ite]) (by decide) ?_ ?_ ?_
    | with_reducible refine Within.hwWr (i := 55) (by simp [Blk_ite]) (by decide) ?_ ?_ ?_
    | with_reducible refine bankAccepted_within ?_ ?_ | with_reducible refine activationEnd_within ?_ ?_
    | with_reducible refine strPostEvents_within ?_ ?_ | with_reducible refine followAll_within ?_ ?_
    | with_reducible refine xingSync_within ?_ ?_ | with_reducible refine bootPlots_within ?_ ?_
    | with_reducible refine bootGateway_within ?_ ?_ | with_reducible refine bootTables_within ?_ ?_
    | with_reducible refine bootClaims_within ?_ ?_ | with_reducible refine State_degrade_within ?_ ?_
    | with_reducible refine enterMode_within (by first | decide | exact handoffReturn_legal _ | exact bootTarget_legal _) ?_ ?_
    | with_reducible refine State_hwFault_within ?_ ?_ | exact mask_sub hk rfl | with_reducible refine Within.ite ?_ ?_
    | split | dsimp -proj only | with_reducible refine Within.u_girth_str ?_ ?_
    | with_reducible refine Within.u_girth ?_ ?_)

theorem restart_within {K : Nat} {b s : State} {a2 a3 a4} (hk : K &&& 27670114461296819135 = 27670114461296819135) (h : Within K b s) :
    Within K b (restart s a2 a3 a4) := by
  unfold restart
  repeat' (first
    | with_reducible assumption
    | with_reducible refine Within.incSat (i := 55) (by simp [Blk_ite]) (by decide) ?_ ?_ ?_
    | with_reducible refine bootEnter_within ?_ ?_ | exact mask_sub hk rfl | with_reducible refine Within.ite ?_ ?_
    | split | dsimp -proj only | with_reducible refine Within.u_girth ?_ ?_)

theorem warmStart_within {K : Nat} {b s : State} {a2 a3} (hk : K &&& 27670114461296819135 = 27670114461296819135) (h : Within K b s) :
    Within K b (warmStart s a2 a3) := by
  unfold warmStart
  repeat' (first
    | with_reducible assumption | with_reducible refine serviceEnd_within ?_ ?_
    | with_reducible refine holdStart_within ?_ ?_ | with_reducible refine restart_within ?_ ?_ | exact mask_sub hk rfl
    | with_reducible refine Within.ite ?_ ?_ | split | dsimp -proj only)

theorem strDormant_within {K : Nat} {b s : State} (hk : K &&& 20754592592134314498 = 20754592592134314498) (h : Within K b s) :
    Within K b (strDormant s) := by
  unfold strDormant
  repeat' (first
    | with_reducible assumption | with_reducible refine Within.wr (i := 49) (by simp [Blk_ite]) (by decide) ?_ ?_ ?_
    | with_reducible refine heldSync_within ?_ ?_ | with_reducible refine followAll_within ?_ ?_
    | exact mask_sub hk rfl | with_reducible refine Within.ite ?_ ?_ | split | dsimp -proj only
    | with_reducible refine Within.u_str ?_ ?_)

theorem dormancyEnter_within {K : Nat} {b s : State} (hk : K &&& 21963949865542007299 = 21963949865542007299) (h : Within K b s) :
    Within K b (dormancyEnter s) := by
  unfold dormancyEnter
  repeat' (first
    | with_reducible assumption
    | with_reducible refine setMode_within (by first | decide | exact handoffReturn_legal _ | exact bootTarget_legal _) ?_ ?_
    | with_reducible refine slsDown_within ?_ ?_ | with_reducible refine strDormant_within ?_ ?_
    | with_reducible refine debugSeal_within ?_ ?_ | exact mask_sub hk rfl | with_reducible refine Within.ite ?_ ?_
    | split | dsimp -proj only | with_reducible refine Within.u_girth ?_ ?_)

theorem modeEnter_within {K : Nat} {b s : State} {a2 a3} (hk : K &&& 27670114461296819135 = 27670114461296819135) (h : Within K b s) :
    Within K b (modeEnter s a2 a3) := by
  unfold modeEnter
  repeat' (first
    | with_reducible assumption | with_reducible refine Within.hwWr (i := 55) (by simp [Blk_ite]) (by decide) ?_ ?_ ?_
    | with_reducible refine dormancyEnter_within ?_ ?_ | with_reducible refine handoffEnter_within ?_ ?_
    | with_reducible refine warmStart_within ?_ ?_
    | with_reducible refine enterMode_within (by first | decide | exact handoffReturn_legal _ | exact bootTarget_legal _) ?_ ?_
    | with_reducible refine claimAll_within ?_ ?_
    | with_reducible refine setMode_within (by first | decide | exact handoffReturn_legal _ | exact bootTarget_legal _) ?_ ?_
    | with_reducible refine serviceEnd_within ?_ ?_ | with_reducible refine followAll_within ?_ ?_
    | exact mask_sub hk rfl | with_reducible refine Within.ite ?_ ?_ | split | dsimp -proj only)

theorem modeRequest_within {K : Nat} {b s : State} {a2 a3 a4 a5} (hk : K &&& 27670114461296819135 = 27670114461296819135) (h : Within K b s) :
    Within K b (modeRequest s a2 a3 a4 a5) := by
  unfold modeRequest
  repeat' (first
    | with_reducible assumption | with_reducible refine modeEnter_within ?_ ?_
    | with_reducible refine State_status_within ?_ ?_ | exact mask_sub hk rfl | with_reducible refine Within.ite ?_ ?_
    | split | dsimp -proj only | with_reducible refine Within.u_girth ?_ ?_)

theorem wakeFire_within {K : Nat} {b s : State} {a2 a3} (hk : K &&& 23058428429967735443 = 23058428429967735443) (h : Within K b s) :
    Within K b (wakeFire s a2 a3) := by
  unfold wakeFire
  repeat' (first
    | with_reducible assumption | with_reducible refine nsAbort_within ?_ ?_
    | with_reducible refine nsSync_within ?_ ?_ | with_reducible refine wake_within ?_ ?_ | exact mask_sub hk rfl
    | with_reducible refine Within.ite ?_ ?_ | split | dsimp -proj only)

theorem dioFltSync_within {K : Nat} {b s : State} {a2} (hk : K &&& 2306968909120536576 = 2306968909120536576) (h : Within K b s) :
    Within K b (dioFltSync s a2) := by
  unfold dioFltSync
  repeat' (first
    | with_reducible assumption
    | with_reducible refine Within.putBit (i := 50) (by simp [Blk_ite]) (by decide) ?_ ?_ ?_ | exact mask_sub hk rfl
    | with_reducible refine Within.ite ?_ ?_ | split | dsimp -proj only)

theorem dioFault_within {K : Nat} {b s : State} {a2 a3 a4} (hk : K &&& 2306968909120536576 = 2306968909120536576) (h : Within K b s) :
    Within K b (dioFault s a2 a3 a4) := by
  unfold dioFault
  repeat' (first
    | with_reducible assumption | with_reducible refine Within.wrB (i := 50) (by simp [Blk_ite]) (by decide) ?_ ?_ ?_
    | with_reducible refine dioFltSync_within ?_ ?_ | exact mask_sub hk rfl | with_reducible refine Within.ite ?_ ?_
    | split | dsimp -proj only)

theorem dioRecord_within {K : Nat} {b s : State} {a2 a3 a4 a5} (hk : K &&& 20753748167202183682 = 20753748167202183682) (h : Within K b s) :
    Within K b (dioRecord s a2 a3 a4 a5) := by
  unfold dioRecord
  repeat' (first
    | with_reducible assumption | with_reducible refine dioFault_within ?_ ?_
    | with_reducible refine hwPost_within ?_ ?_ | exact mask_sub hk rfl | with_reducible refine Within.ite ?_ ?_
    | split | dsimp -proj only)

end Sys2Proof.Machine
end

