-- ==== Sys2Proof/Laws/FrameOps3.lean ====
section
/-! SUPPORT. What each operation can change: one lemma an operation, by its own steps (part 3). -/

set_option linter.all false

namespace Sys2Proof.Machine

theorem dioWake_within {K : Nat} {b s : State} {a2 a3} (hk : K &&& 23058428429967735443 = 23058428429967735443) (h : Within K b s) :
    Within K b (dioWake s a2 a3) := by
  unfold dioWake
  repeat' (first
    | with_reducible assumption | with_reducible refine dioRecord_within ?_ ?_
    | with_reducible refine wakeFire_within ?_ ?_ | exact mask_sub hk rfl | with_reducible refine Within.ite ?_ ?_
    | split | dsimp -proj only)

theorem vbusChange_within {K : Nat} {b s : State} {a2 a3} (hk : K &&& 23058428429967735443 = 23058428429967735443) (h : Within K b s) :
    Within K b (vbusChange s a2 a3) := by
  unfold vbusChange
  repeat' (first
    | with_reducible assumption | with_reducible refine wakeFire_within ?_ ?_ | exact mask_sub hk rfl
    | with_reducible refine Within.ite ?_ ?_ | split | dsimp -proj only | with_reducible refine Within.u_grf ?_ ?_)

theorem energyPut_within {K : Nat} {b s : State} {a2 a3} (hk : K &&& 2341871806232666112 = 2341871806232666112) (h : Within K b s) :
    Within K b (energyPut s a2 a3) := by
  unfold energyPut
  repeat' (first
    | with_reducible assumption | with_reducible refine Within.wr (i := 55) (by simp [Blk_ite]) (by decide) ?_ ?_ ?_
    | exact mask_sub hk rfl | with_reducible refine Within.ite ?_ ?_ | split | dsimp -proj only
    | with_reducible refine Within.u_girth ?_ ?_)

theorem energyLatch_within {K : Nat} {b s : State} {a2} (hk : K &&& 2341871806232657920 = 2341871806232657920) (h : Within K b s) :
    Within K b (energyLatch s a2) := by
  unfold energyLatch
  repeat' (first
    | with_reducible assumption | with_reducible refine Within.wr (i := 55) (by simp [Blk_ite]) (by decide) ?_ ?_ ?_
    | exact mask_sub hk rfl | with_reducible refine Within.ite ?_ ?_ | split | dsimp -proj only)

theorem energyClear_within {K : Nat} {b s : State} {a2} (hk : K &&& 2341871806232666112 = 2341871806232666112) (h : Within K b s) :
    Within K b (energyClear s a2) := by
  unfold energyClear
  repeat' (first
    | with_reducible assumption | with_reducible refine energyPut_within ?_ ?_
    | with_reducible refine Within.forN (fun _ _ _ _ => ?_) ?_ | exact mask_sub hk rfl
    | with_reducible refine Within.ite ?_ ?_ | split | dsimp -proj only)

theorem brReset_within {K : Nat} {b s : State} (hk : K &&& 20901241061441018626 = 20901241061441018626) (h : Within K b s) :
    Within K b (brReset s) := by
  unfold brReset
  repeat' (first
    | with_reducible assumption | with_reducible refine brRecord_within ?_ ?_
    | with_reducible refine txEndAll_within ?_ ?_ | exact mask_sub hk rfl | with_reducible refine Within.ite ?_ ?_
    | with_reducible refine Within.foldl (fun _ _ _ => ?_) ?_ | split | dsimp -proj only
    | with_reducible refine Within.u_gw_br ?_ ?_)

theorem blkReset_within {K : Nat} {b s : State} {a1} (hk : K &&& 27670114323603045123 = 27670114323603045123) (h : Within K b s) :
    Within K b (blkReset a1 s) := by
  unfold blkReset
  repeat' (first
    | with_reducible assumption | with_reducible refine xlLoss_within ?_ ?_
    | with_reducible refine State_resetRegs_within (by first | decide | (simp only [F.CLO_SLOT_LOADED, F.CAN_NBT_NBRP, F.CAN_DBT_DBRP]; omega)) ?_ ?_
    | with_reducible refine grfSync_within ?_ ?_ | with_reducible refine brReset_within ?_ ?_
    | with_reducible refine resetBlk_within ?_ ?_ | exact mask_sub hk rfl | with_reducible refine Within.ite ?_ ?_
    | split | dsimp -proj only)

theorem blkRst_within {K : Nat} {b s : State} {a2} (hk : K &&& 27670114323603045123 = 27670114323603045123) (h : Within K b s) :
    Within K b (blkRst s a2) := by
  unfold blkRst
  repeat' (first
    | with_reducible assumption | with_reducible refine Within.wr (i := 55) (by simp [Blk_ite]) (by decide) ?_ ?_ ?_
    | with_reducible refine blkReset_within ?_ ?_ | with_reducible refine Within.forN (fun _ _ _ _ => ?_) ?_
    | exact mask_sub hk rfl | with_reducible refine Within.ite ?_ ?_ | split | dsimp -proj only)

theorem xlAsk_within {K : Nat} {b s : State} {a2 a3 a4 a5 a6 a7} (hk : K &&& 2449958201584517632 = 2449958201584517632) (h : Within K b s) :
    Within K b (xlAsk s a2 a3 a4 a5 a6 a7) := by
  unfold xlAsk
  repeat' (first
    | with_reducible assumption | with_reducible refine State_emit_within ?_ ?_
    | with_reducible refine outBusySync_within ?_ ?_ | exact mask_sub hk rfl | with_reducible refine Within.ite ?_ ?_
    | split | dsimp -proj only | with_reducible refine Within.u_br ?_ ?_)

theorem postRelease_within {K : Nat} {b s : State} (hk : K &&& 4294967808 = 4294967808) (h : Within K b s) :
    Within K b (postRelease s) := by
  unfold postRelease
  repeat' (first
    | with_reducible assumption | with_reducible refine State_emit_within ?_ ?_ | exact mask_sub hk rfl
    | with_reducible refine Within.ite ?_ ?_ | split | dsimp -proj only | with_reducible refine Within.u_br ?_ ?_)

theorem xlPost_within {K : Nat} {b s : State} {a2 a3 a4 a5 a6} (hk : K &&& 4294968064 = 4294968064) (h : Within K b s) :
    Within K b (xlPost s a2 a3 a4 a5 a6) := by
  unfold xlPost
  repeat' (first
    | with_reducible assumption | with_reducible refine postRelease_within ?_ ?_
    | with_reducible refine State_status_within ?_ ?_ | exact mask_sub hk rfl | with_reducible refine Within.ite ?_ ?_
    | split | dsimp -proj only | with_reducible refine Within.u_br ?_ ?_)

theorem xlAccess_within {K : Nat} {b s : State} {a2 a3 a4 a5 a6} (hk : K &&& 2449958201584517888 = 2449958201584517888) (h : Within K b s) :
    Within K b (xlAccess s a2 a3 a4 a5 a6) := by
  unfold xlAccess
  repeat' (first
    | with_reducible assumption | with_reducible refine xlPost_within ?_ ?_ | with_reducible refine xlAsk_within ?_ ?_
    | with_reducible refine State_status_within ?_ ?_ | exact mask_sub hk rfl | with_reducible refine Within.ite ?_ ?_
    | split | dsimp -proj only)

theorem trlNowRead_within {K : Nat} {b s : State} (hk : K &&& 2305845208236949760 = 2305845208236949760) (h : Within K b s) :
    Within K b (trlNowRead s) := by
  unfold trlNowRead
  repeat' (first
    | with_reducible assumption | with_reducible refine Within.wr (i := 41) (by simp [Blk_ite]) (by decide) ?_ ?_ ?_
    | with_reducible refine State_answer_within ?_ ?_ | exact mask_sub hk rfl | with_reducible refine Within.ite ?_ ?_
    | split | dsimp -proj only)

theorem plainRead_within {K : Nat} {b s : State} {a2} (hk : K &&& 4611683819404132608 = 4611683819404132608) (h : Within K b s) :
    Within K b (plainRead s a2) := by
  unfold plainRead
  repeat' (first
    | with_reducible assumption | with_reducible refine State_clearRc_within ?_ ?_
    | with_reducible refine State_clearRc_in_within ?_ ?_ | with_reducible refine State_answer_within ?_ ?_
    | exact mask_sub hk rfl | with_reducible refine Within.ite ?_ ?_ | split | dsimp -proj only)

theorem ptNowRead_within {K : Nat} {b s : State} (hk : K &&& 2305847407260205312 = 2305847407260205312) (h : Within K b s) :
    Within K b (ptNowRead s) := by
  unfold ptNowRead
  repeat' (first
    | with_reducible assumption | with_reducible refine Within.wr (i := 42) (by simp [Blk_ite]) (by decide) ?_ ?_ ?_
    | with_reducible refine State_answer_within ?_ ?_ | exact mask_sub hk rfl | with_reducible refine Within.ite ?_ ?_
    | split | dsimp -proj only)

theorem furNext_within {K : Nat} {b s : State} {a2} (hk : K &&& 2305878193585789696 = 2305878193585789696) (h : Within K b s) :
    Within K b (furNext s a2) := by
  unfold furNext
  repeat' (first
    | with_reducible assumption
    | with_reducible refine Within.incSat (i := 45) (by simp [Blk_ite]) (by decide) ?_ ?_ ?_
    | with_reducible refine Within.wr (i := 45) (by simp [Blk_ite]) (by decide) ?_ ?_ ?_
    | with_reducible refine State_setQueue_within ?_ ?_ | with_reducible refine furSync_within ?_ ?_
    | with_reducible refine State_answer_within ?_ ?_ | exact mask_sub hk rfl | with_reducible refine Within.ite ?_ ?_
    | split | dsimp -proj only)

theorem hwErrorRecord_within {K : Nat} {b s : State} {a2} (hk : K &&& 20752622267295341186 = 20752622267295341186) (h : Within K b s) :
    Within K b (hwErrorRecord s a2) := by
  unfold hwErrorRecord
  repeat' (first
    | with_reducible assumption | with_reducible refine hwPost_within ?_ ?_
    | with_reducible refine State_took_within ?_ ?_ | exact mask_sub hk rfl | with_reducible refine Within.ite ?_ ?_
    | split | dsimp -proj only)

theorem furParity_within {K : Nat} {b s : State} {a2} (hk : K &&& 20752622267295342210 = 20752622267295342210) (h : Within K b s) :
    Within K b (furParity s a2) := by
  unfold furParity
  repeat' (first
    | with_reducible assumption
    | with_reducible refine Within.incSat (i := 45) (by simp [Blk_ite]) (by decide) ?_ ?_ ?_
    | with_reducible refine Within.wr (i := 45) (by simp [Blk_ite]) (by decide) ?_ ?_ ?_
    | with_reducible refine State_hwFault_within ?_ ?_ | with_reducible refine hwErrorRecord_within ?_ ?_
    | exact mask_sub hk rfl | with_reducible refine Within.ite ?_ ?_ | split | dsimp -proj only)

theorem furData_within {K : Nat} {b s : State} {a2 a3} (hk : K &&& 20752622267295342466 = 20752622267295342466) (h : Within K b s) :
    Within K b (furData s a2 a3) := by
  unfold furData
  repeat' (first
    | with_reducible assumption | with_reducible refine Within.wr (i := 45) (by simp [Blk_ite]) (by decide) ?_ ?_ ?_
    | with_reducible refine Within.wrB (i := 45) (by simp [Blk_ite]) (by decide) ?_ ?_ ?_
    | with_reducible refine State_setQueue_within ?_ ?_ | with_reducible refine furSync_within ?_ ?_
    | with_reducible refine furParity_within ?_ ?_ | with_reducible refine State_answer_within ?_ ?_
    | exact mask_sub hk rfl | with_reducible refine Within.ite ?_ ?_ | split | dsimp -proj only)

theorem readFur_within {K : Nat} {b s : State} {a2 a3} (hk : K &&& 23058427893113692034 = 23058427893113692034) (h : Within K b s) :
    Within K b (readFur s a2 a3) := by
  unfold readFur
  repeat' (first
    | with_reducible assumption | with_reducible refine furData_within ?_ ?_
    | with_reducible refine furNext_within ?_ ?_ | with_reducible refine State_status_within ?_ ?_
    | with_reducible refine plainRead_within ?_ ?_ | exact mask_sub hk rfl | with_reducible refine Within.ite ?_ ?_
    | split | dsimp -proj only)

theorem dioEdgeLatch_within {K : Nat} {b s : State} {a2} (hk : K &&& 2306968909120536832 = 2306968909120536832) (h : Within K b s) :
    Within K b (dioEdgeLatch s a2) := by
  unfold dioEdgeLatch
  repeat' (first
    | with_reducible assumption | with_reducible refine Within.wr (i := 50) (by simp [Blk_ite]) (by decide) ?_ ?_ ?_
    | with_reducible refine Within.wrB (i := 50) (by simp [Blk_ite]) (by decide) ?_ ?_ ?_
    | with_reducible refine State_answer_within ?_ ?_ | exact mask_sub hk rfl | with_reducible refine Within.ite ?_ ?_
    | split | dsimp -proj only)

theorem freeRead_within {K : Nat} {b s : State} {a2 a3} {i : Nat} (hf : Blk a2 i) (hi : i ≠ 0) (hki : K &&& 2 ^ i = 2 ^ i) (hk : K &&& 4611683819404132736 = 4611683819404132736) (h : Within K b s) :
    Within K b (freeRead s a2 a3) := by
  unfold freeRead
  repeat' (first
    | with_reducible assumption | with_reducible refine Within.wr hf hi hki ?_ ?_
    | with_reducible refine State_took_within ?_ ?_ | with_reducible refine plainRead_within ?_ ?_
    | exact mask_sub hk rfl | with_reducible refine Within.ite ?_ ?_ | split | dsimp -proj only)

theorem ethTxtsRead_within {K : Nat} {b s : State} {a2} (hk : K &&& 2377900603260010752 = 2377900603260010752) (h : Within K b s) :
    Within K b (ethTxtsRead s a2) := by
  unfold ethTxtsRead
  repeat' (first
    | with_reducible assumption | with_reducible refine Within.wr (i := 56) (by simp [Blk_ite]) (by decide) ?_ ?_ ?_
    | with_reducible refine State_answer_within ?_ ?_ | exact mask_sub hk rfl | with_reducible refine Within.ite ?_ ?_
    | split | dsimp -proj only | with_reducible refine Within.u_pt ?_ ?_)

theorem regRead_within {K : Nat} {b s : State} {a2 a3} (hk : K &&& 23058427893122080642 = 23058427893122080642) (h : Within K b s) :
    Within K b (regRead s a2 a3) := by
  unfold regRead
  repeat' (first
    | with_reducible assumption | with_reducible refine ethTxtsRead_within ?_ ?_
    | with_reducible refine energyLatch_within ?_ ?_
    | with_reducible refine freeRead_within (i := 54) (by simp [Blk_ite]) (by decide) ?_ ?_ ?_
    | with_reducible refine State_answer_within ?_ ?_ | with_reducible refine State_status_within ?_ ?_
    | with_reducible refine dioEdgeLatch_within ?_ ?_ | with_reducible refine readFur_within ?_ ?_
    | with_reducible refine ptNowRead_within ?_ ?_ | with_reducible refine plainRead_within ?_ ?_
    | with_reducible refine trlNowRead_within ?_ ?_ | exact mask_sub hk rfl | with_reducible refine Within.ite ?_ ?_
    | split | dsimp -proj only)

theorem slotCtlWrite_within {K : Nat} {b s : State} {a2 a3 a4} (hk : K &&& 23058427893117885186 = 23058427893117885186) (h : Within K b s) :
    Within K b (slotCtlWrite s a2 a3 a4) := by
  unfold slotCtlWrite
  repeat' (first
    | with_reducible assumption | with_reducible refine Within.wr (i := 41) (by simp [Blk_ite]) (by decide) ?_ ?_ ?_
    | with_reducible refine slotCatch_within ?_ ?_ | with_reducible refine State_writeWord_within ?_ ?_
    | with_reducible refine State_status_within ?_ ?_ | exact mask_sub hk rfl | with_reducible refine Within.ite ?_ ?_
    | split | dsimp -proj only | with_reducible refine Within.u_trl ?_ ?_)

theorem slotWrite_within {K : Nat} {b s : State} {a2 a3 a4 a5} (hk : K &&& 4611683819408326912 = 4611683819408326912) (h : Within K b s) :
    Within K b (slotWrite s a2 a3 a4 a5) := by
  unfold slotWrite
  repeat' (first
    | with_reducible assumption | with_reducible refine slotPeriodic_within ?_ ?_
    | with_reducible refine State_writeWord_within ?_ ?_ | with_reducible refine State_status_within ?_ ?_
    | exact mask_sub hk rfl | with_reducible refine Within.ite ?_ ?_ | split | dsimp -proj only)

theorem trlPartWrite_within {K : Nat} {b s : State} {a2 a3 a4} (hk : K &&& 4611683819404132608 = 4611683819404132608) (h : Within K b s) :
    Within K b (trlPartWrite s a2 a3 a4) := by
  unfold trlPartWrite
  repeat' (first
    | with_reducible assumption | with_reducible refine State_writeWord_within ?_ ?_
    | with_reducible refine slotsOut_within ?_ ?_ | with_reducible refine State_status_within ?_ ?_
    | exact mask_sub hk rfl | with_reducible refine Within.ite ?_ ?_ | split | dsimp -proj only)

theorem powEnd_within {K : Nat} {b s : State} {a2} (hk : K &&& 4194304 = 4194304) (h : Within K b s) :
    Within K b (powEnd s a2) := by
  unfold powEnd
  repeat' (first
    | with_reducible assumption | exact mask_sub hk rfl | with_reducible refine Within.ite ?_ ?_ | split
    | dsimp -proj only | with_reducible refine Within.u_trl ?_ ?_)

theorem powRecord_within {K : Nat} {b s : State} {a2 a3} (hk : K &&& 20752622267295341058 = 20752622267295341058) (h : Within K b s) :
    Within K b (powRecord s a2 a3) := by
  unfold powRecord
  repeat' (first
    | with_reducible assumption | with_reducible refine hwPost_within ?_ ?_ | exact mask_sub hk rfl
    | with_reducible refine Within.ite ?_ ?_ | split | dsimp -proj only)

theorem powTimeout_within {K : Nat} {b s : State} {a2 a3} (hk : K &&& 20752624466322791938 = 20752624466322791938) (h : Within K b s) :
    Within K b (powTimeout s a2 a3) := by
  unfold powTimeout
  repeat' (first
    | with_reducible assumption
    | with_reducible refine Within.incSat (i := 41) (by simp [Blk_ite]) (by decide) ?_ ?_ ?_
    | with_reducible refine powRecord_within ?_ ?_ | with_reducible refine powEnd_within ?_ ?_
    | with_reducible refine State_hwFault_within ?_ ?_ | exact mask_sub hk rfl | with_reducible refine Within.ite ?_ ?_
    | split | dsimp -proj only)

theorem powAbandon_within {K : Nat} {b s : State} {a2} (hk : K &&& 20752624466322791938 = 20752624466322791938) (h : Within K b s) :
    Within K b (powAbandon s a2) := by
  unfold powAbandon
  repeat' (first
    | with_reducible assumption | with_reducible refine powTimeout_within ?_ ?_ | exact mask_sub hk rfl
    | with_reducible refine Within.ite ?_ ?_ | split | dsimp -proj only)

theorem powWriteCfg_within {K : Nat} {b s : State} {a2 a3 a4} (hk : K &&& 23058427893117886210 = 23058427893117886210) (h : Within K b s) :
    Within K b (powWriteCfg s a2 a3 a4) := by
  unfold powWriteCfg
  repeat' (first
    | with_reducible assumption | with_reducible refine State_writeWord_within ?_ ?_
    | with_reducible refine powAbandon_within ?_ ?_ | with_reducible refine State_status_within ?_ ?_
    | exact mask_sub hk rfl | with_reducible refine Within.ite ?_ ?_ | split | dsimp -proj only)

theorem powWriteEst_within {K : Nat} {b s : State} {a2 a3 a4 a5} (hk : K &&& 2305845208241144064 = 2305845208241144064) (h : Within K b s) :
    Within K b (powWriteEst s a2 a3 a4 a5) := by
  unfold powWriteEst
  repeat' (first
    | with_reducible assumption | with_reducible refine Within.wr (i := 41) (by simp [Blk_ite]) (by decide) ?_ ?_ ?_
    | with_reducible refine State_status_within ?_ ?_ | exact mask_sub hk rfl | with_reducible refine Within.ite ?_ ?_
    | split | dsimp -proj only | with_reducible refine Within.u_trl ?_ ?_)

theorem powWriteOther_within {K : Nat} {b s : State} {a2 a3 a4 a5} (hk : K &&& 4611683819404132608 = 4611683819404132608) (h : Within K b s) :
    Within K b (powWriteOther s a2 a3 a4 a5) := by
  unfold powWriteOther
  repeat' (first
    | with_reducible assumption | with_reducible refine State_writeWord_within ?_ ?_
    | with_reducible refine State_status_within ?_ ?_ | exact mask_sub hk rfl | with_reducible refine Within.ite ?_ ?_
    | split | dsimp -proj only)

theorem slewScale_within {K : Nat} {b s : State} (hk : K &&& 2305845208236949504 = 2305845208236949504) (h : Within K b s) :
    Within K b (slewScale s) := by
  unfold slewScale
  repeat' (first
    | with_reducible assumption | with_reducible refine setInc_within ?_ ?_ | exact mask_sub hk rfl
    | with_reducible refine Within.ite ?_ ?_ | split | dsimp -proj only)

theorem slewStart_within {K : Nat} {b s : State} {a2} (hk : K &&& 2305845208241143808 = 2305845208241143808) (h : Within K b s) :
    Within K b (slewStart s a2) := by
  unfold slewStart
  repeat' (first
    | with_reducible assumption | with_reducible refine Within.wr (i := 41) (by simp [Blk_ite]) (by decide) ?_ ?_ ?_
    | with_reducible refine slewScale_within ?_ ?_ | exact mask_sub hk rfl | with_reducible refine Within.ite ?_ ?_
    | split | dsimp -proj only | with_reducible refine Within.u_trl ?_ ?_)

theorem refChange_within {K : Nat} {b s : State} (hk : K &&& 2305845208241143936 = 2305845208241143936) (h : Within K b s) :
    Within K b (refChange s) := by
  unfold refChange
  repeat' (first
    | with_reducible assumption | with_reducible refine State_took_within ?_ ?_
    | with_reducible refine slewStart_within ?_ ?_ | exact mask_sub hk rfl | with_reducible refine Within.ite ?_ ?_
    | split | dsimp -proj only | with_reducible refine Within.u_trl ?_ ?_)

theorem firstCycle_within {K : Nat} {b s : State} (hk : K &&& 2305845208241143808 = 2305845208241143808) (h : Within K b s) :
    Within K b (firstCycle s) := by
  unfold firstCycle
  repeat' (first
    | with_reducible assumption | with_reducible refine Within.wr (i := 41) (by simp [Blk_ite]) (by decide) ?_ ?_ ?_
    | exact mask_sub hk rfl | with_reducible refine Within.ite ?_ ?_ | split | dsimp -proj only
    | with_reducible refine Within.u_trl ?_ ?_)

theorem lockSet_within {K : Nat} {b s : State} (hk : K &&& 3494795509866962944 = 3494795509866962944) (h : Within K b s) :
    Within K b (lockSet s) := by
  unfold lockSet
  repeat' (first
    | with_reducible assumption | with_reducible refine Within.wr (i := 41) (by simp [Blk_ite]) (by decide) ?_ ?_ ?_
    | with_reducible refine State_degrade_within ?_ ?_ | with_reducible refine firstCycle_within ?_ ?_
    | with_reducible refine setInc_within ?_ ?_ | exact mask_sub hk rfl | with_reducible refine Within.ite ?_ ?_
    | split | dsimp -proj only | with_reducible refine Within.u_trl ?_ ?_)

theorem srcTake_within {K : Nat} {b s : State} {a2 a3 a4} (hk : K &&& 3494795509866962944 = 3494795509866962944) (h : Within K b s) :
    Within K b (srcTake s a2 a3 a4) := by
  unfold srcTake
  repeat' (first
    | with_reducible assumption | with_reducible refine Within.wr (i := 41) (by simp [Blk_ite]) (by decide) ?_ ?_ ?_
    | with_reducible refine slewStart_within ?_ ?_ | with_reducible refine lockSet_within ?_ ?_
    | with_reducible refine setFreq_within ?_ ?_ | exact mask_sub hk rfl | with_reducible refine Within.ite ?_ ?_
    | split | dsimp -proj only)

theorem enterHoldover_within {K : Nat} {b s : State} (hk : K &&& 2305845208241143808 = 2305845208241143808) (h : Within K b s) :
    Within K b (enterHoldover s) := by
  unfold enterHoldover
  repeat' (first
    | with_reducible assumption | with_reducible refine Within.wr (i := 41) (by simp [Blk_ite]) (by decide) ?_ ?_ ?_
    | with_reducible refine setFreq_within ?_ ?_ | exact mask_sub hk rfl | with_reducible refine Within.ite ?_ ?_
    | split | dsimp -proj only | with_reducible refine Within.u_trl ?_ ?_)

theorem sourceGone_within {K : Nat} {b s : State} {a2} (hk : K &&& 3494795509866962944 = 3494795509866962944) (h : Within K b s) :
    Within K b (sourceGone s a2) := by
  unfold sourceGone
  repeat' (first
    | with_reducible assumption | with_reducible refine enterHoldover_within ?_ ?_
    | with_reducible refine srcTake_within ?_ ?_ | exact mask_sub hk rfl | with_reducible refine Within.ite ?_ ?_
    | split | dsimp -proj only)

theorem trlCtlWrite_within {K : Nat} {b s : State} {a2} (hk : K &&& 4611683819408334976 = 4611683819408334976) (h : Within K b s) :
    Within K b (trlCtlWrite s a2) := by
  unfold trlCtlWrite
  repeat' (first
    | with_reducible assumption | with_reducible refine Within.put (i := 41) (by simp [Blk_ite]) (by decide) ?_ ?_ ?_
    | with_reducible refine setFreq_within ?_ ?_ | with_reducible refine enterHoldover_within ?_ ?_
    | with_reducible refine srcTake_within ?_ ?_ | with_reducible refine sourceGone_within ?_ ?_
    | with_reducible refine slewScale_within ?_ ?_ | with_reducible refine refChange_within ?_ ?_
    | with_reducible refine State_writeWord_within ?_ ?_ | exact mask_sub hk rfl
    | with_reducible refine Within.ite ?_ ?_ | split | dsimp -proj only)

theorem trlOfsWrite_within {K : Nat} {b s : State} {a2} (hk : K &&& 2305845208241143808 = 2305845208241143808) (h : Within K b s) :
    Within K b (trlOfsWrite s a2) := by
  unfold trlOfsWrite
  repeat' (first
    | with_reducible assumption | with_reducible refine Within.put (i := 41) (by simp [Blk_ite]) (by decide) ?_ ?_ ?_
    | with_reducible refine slewStart_within ?_ ?_ | exact mask_sub hk rfl | with_reducible refine Within.ite ?_ ?_
    | split | dsimp -proj only)

theorem trlWrite_within {K : Nat} {b s : State} {a2 a3 a4} (hk : K &&& 4611683819408335232 = 4611683819408335232) (h : Within K b s) :
    Within K b (trlWrite s a2 a3 a4) := by
  unfold trlWrite
  repeat' (first
    | with_reducible assumption | with_reducible refine State_writeWord_within ?_ ?_
    | with_reducible refine trlOfsWrite_within ?_ ?_ | with_reducible refine trlCtlWrite_within ?_ ?_
    | with_reducible refine State_status_within ?_ ?_ | exact mask_sub hk rfl | with_reducible refine Within.ite ?_ ?_
    | split | dsimp -proj only)

theorem winTrl_within {K : Nat} {b s : State} {a2 a3 a4} (hk : K &&& 23058427893117894530 = 23058427893117894530) (h : Within K b s) :
    Within K b (winTrl s a2 a3 a4) := by
  unfold winTrl
  repeat' (first
    | with_reducible assumption | with_reducible refine trlWrite_within ?_ ?_
    | with_reducible refine powWriteOther_within ?_ ?_ | with_reducible refine powWriteEst_within ?_ ?_
    | with_reducible refine powWriteCfg_within ?_ ?_ | with_reducible refine trlPartWrite_within ?_ ?_
    | with_reducible refine slotWrite_within ?_ ?_ | with_reducible refine slotCtlWrite_within ?_ ?_
    | exact mask_sub hk rfl | with_reducible refine Within.ite ?_ ?_ | split | dsimp -proj only)

theorem ptStep_within {K : Nat} {b s : State} {a2} (hk : K &&& 2305847407268593664 = 2305847407268593664) (h : Within K b s) :
    Within K b (ptStep s a2) := by
  unfold ptStep
  repeat' (first
    | with_reducible assumption | with_reducible refine Within.wr (i := 42) (by simp [Blk_ite]) (by decide) ?_ ?_ ?_
    | exact mask_sub hk rfl | with_reducible refine Within.ite ?_ ?_ | split | dsimp -proj only
    | with_reducible refine Within.u_pt ?_ ?_)

theorem ptUpdate_within {K : Nat} {b s : State} {a2} (hk : K &&& 2305847407268593664 = 2305847407268593664) (h : Within K b s) :
    Within K b (ptUpdate s a2) := by
  unfold ptUpdate
  repeat' (first
    | with_reducible assumption | with_reducible refine Within.wr (i := 42) (by simp [Blk_ite]) (by decide) ?_ ?_ ?_
    | with_reducible refine Within.wrI (i := 42) (by simp [Blk_ite]) (by decide) ?_ ?_ ?_
    | with_reducible refine ptRate_within ?_ ?_ | exact mask_sub hk rfl | with_reducible refine Within.ite ?_ ?_
    | split | dsimp -proj only | with_reducible refine Within.u_pt ?_ ?_)

theorem ptOffset_within {K : Nat} {b s : State} {a2 a3} (hk : K &&& 2305847407268593920 = 2305847407268593920) (h : Within K b s) :
    Within K b (ptOffset s a2 a3) := by
  unfold ptOffset
  repeat' (first
    | with_reducible assumption | with_reducible refine Within.wr (i := 42) (by simp [Blk_ite]) (by decide) ?_ ?_ ?_
    | with_reducible refine ptUpdate_within ?_ ?_ | with_reducible refine ptStep_within ?_ ?_
    | with_reducible refine State_status_within ?_ ?_ | exact mask_sub hk rfl | with_reducible refine Within.ite ?_ ?_
    | split | dsimp -proj only)

theorem ptSetGo_within {K : Nat} {b s : State} {a2} (hk : K &&& 2305847407268593920 = 2305847407268593920) (h : Within K b s) :
    Within K b (ptSetGo s a2) := by
  unfold ptSetGo
  repeat' (first
    | with_reducible assumption | with_reducible refine ptStep_within ?_ ?_
    | with_reducible refine State_status_within ?_ ?_ | exact mask_sub hk rfl | with_reducible refine Within.ite ?_ ?_
    | split | dsimp -proj only)

theorem ptWrite_within {K : Nat} {b s : State} {a2 a3 a4} (hk : K &&& 4611683819412521216 = 4611683819412521216) (h : Within K b s) :
    Within K b (ptWrite s a2 a3 a4) := by
  unfold ptWrite
  repeat' (first
    | with_reducible assumption
    | with_reducible refine Within.hostWr (i := 42) (by simp [Blk_ite]) (by decide) ?_ ?_ ?_
    | with_reducible refine State_writeWord_within ?_ ?_ | with_reducible refine canrefSlot_within ?_ ?_
    | with_reducible refine ptSetGo_within ?_ ?_ | with_reducible refine ptOffset_within ?_ ?_
    | with_reducible refine State_status_within ?_ ?_ | exact mask_sub hk rfl | with_reducible refine Within.ite ?_ ?_
    | split | dsimp -proj only)

theorem latNodesWrite_within {K : Nat} {b s : State} {a2 a3} (hk : K &&& 21941581365047736834 = 21941581365047736834) (h : Within K b s) :
    Within K b (latNodesWrite s a2 a3) := by
  unfold latNodesWrite
  repeat' (first
    | with_reducible assumption | with_reducible refine Within.wr (i := 43) (by simp [Blk_ite]) (by decide) ?_ ?_ ?_
    | with_reducible refine latSetEn_within ?_ ?_ | exact mask_sub hk rfl | with_reducible refine Within.ite ?_ ?_
    | split | dsimp -proj only)

theorem latEnumSend_within {K : Nat} {b s : State} {a2 a3 a4} (hk : K &&& 33554944 = 33554944) (h : Within K b s) :
    Within K b (latEnumSend s a2 a3 a4) := by
  unfold latEnumSend
  repeat' (first
    | with_reducible assumption | with_reducible refine latSend_within ?_ ?_ | exact mask_sub hk rfl
    | with_reducible refine Within.ite ?_ ?_ | split | dsimp -proj only)

theorem latEnumStart_within {K : Nat} {b s : State} {a2 a3} (hk : K &&& 2305851805340271104 = 2305851805340271104) (h : Within K b s) :
    Within K b (latEnumStart s a2 a3) := by
  unfold latEnumStart
  repeat' (first
    | with_reducible assumption | with_reducible refine Within.wr (i := 43) (by simp [Blk_ite]) (by decide) ?_ ?_ ?_
    | with_reducible refine latEnumSend_within ?_ ?_ | with_reducible refine State_setRing_within ?_ ?_
    | exact mask_sub hk rfl | with_reducible refine Within.ite ?_ ?_ | split | dsimp -proj only)

theorem latPings_within {K : Nat} {b s : State} {a2 a3 a4 a5} (hk : K &&& 33554944 = 33554944) (h : Within K b s) :
    Within K b (latPings s a2 a3 a4 a5) := by
  induction a5 generalizing s a2 a3 a4 with
  | zero => exact h
  | succ _ ih =>
  unfold latPings
  repeat' (first
    | with_reducible assumption | with_reducible refine ih ?_ | with_reducible refine latSend_within ?_ ?_
    | exact mask_sub hk rfl | with_reducible refine Within.ite ?_ ?_ | split | dsimp -proj only)

theorem latMeasure_within {K : Nat} {b s : State} {a2 a3 a4} (hk : K &&& 33554944 = 33554944) (h : Within K b s) :
    Within K b (latMeasure s a2 a3 a4) := by
  unfold latMeasure
  repeat' (first
    | with_reducible assumption | with_reducible refine State_setRing_within ?_ ?_
    | with_reducible refine latPings_within ?_ ?_ | exact mask_sub hk rfl | with_reducible refine Within.ite ?_ ?_
    | split | dsimp -proj only)

theorem latMeasureNode_within {K : Nat} {b s : State} {a1 a2} (hk : K &&& 33554944 = 33554944) (h : Within K b s) :
    Within K b (latMeasureNode a1 a2 s) := by
  unfold latMeasureNode
  repeat' (first
    | with_reducible assumption | with_reducible refine latMeasure_within ?_ ?_ | exact mask_sub hk rfl
    | with_reducible refine Within.ite ?_ ?_ | split | dsimp -proj only)

theorem latMeasureAll_within {K : Nat} {b s : State} {a2} (hk : K &&& 33554944 = 33554944) (h : Within K b s) :
    Within K b (latMeasureAll s a2) := by
  unfold latMeasureAll
  repeat' (first
    | with_reducible assumption | with_reducible refine latMeasureNode_within ?_ ?_
    | with_reducible refine Within.forN (fun _ _ _ _ => ?_) ?_ | exact mask_sub hk rfl
    | with_reducible refine Within.ite ?_ ?_ | split | dsimp -proj only)

theorem latMapStore_within {K : Nat} {b s : State} {a2} (hk : K &&& 40 = 40) (h : Within K b s) :
    Within K b (latMapStore s a2) := by
  unfold latMapStore
  repeat' (first
    | with_reducible assumption | exact mask_sub hk rfl | with_reducible refine Within.ite ?_ ?_ | split
    | dsimp -proj only | with_reducible refine Within.u_objBytes_settingsBytes ?_ ?_)

theorem latRcmd_within {K : Nat} {b s : State} {a2 a3} (hk : K &&& 2305851805340271144 = 2305851805340271144) (h : Within K b s) :
    Within K b (latRcmd s a2 a3) := by
  unfold latRcmd
  repeat' (first
    | with_reducible assumption | with_reducible refine latPass_within ?_ ?_
    | with_reducible refine latMapStore_within ?_ ?_ | with_reducible refine latMeasureAll_within ?_ ?_
    | with_reducible refine latEnumStart_within ?_ ?_ | exact mask_sub hk rfl | with_reducible refine Within.ite ?_ ?_
    | split | dsimp -proj only)

theorem latWrite_within {K : Nat} {b s : State} {a2 a3 a4} (hk : K &&& 23058427893147253546 = 23058427893147253546) (h : Within K b s) :
    Within K b (latWrite s a2 a3 a4) := by
  unfold latWrite
  repeat' (first
    | with_reducible assumption | with_reducible refine State_writeWord_within ?_ ?_
    | with_reducible refine latDegrade_within ?_ ?_ | with_reducible refine latRcmd_within ?_ ?_
    | with_reducible refine latNodesWrite_within ?_ ?_ | with_reducible refine latSetEn_within ?_ ?_
    | with_reducible refine State_status_within ?_ ?_ | exact mask_sub hk rfl | with_reducible refine Within.ite ?_ ?_
    | split | dsimp -proj only)

theorem tilStopNote_within {K : Nat} {b s : State} {a2} (hk : K &&& 268435456 = 268435456) (h : Within K b s) :
    Within K b (tilStopNote s a2) := by
  unfold tilStopNote
  repeat' (first
    | with_reducible assumption | exact mask_sub hk rfl | with_reducible refine Within.ite ?_ ?_ | split
    | dsimp -proj only | with_reducible refine Within.u_til ?_ ?_)

theorem capOff_within {K : Nat} {b s : State} (hk : K &&& 20752710503506123266 = 20752710503506123266) (h : Within K b s) :
    Within K b (capOff s) := by
  unfold capOff
  repeat' (first
    | with_reducible assumption | with_reducible refine Within.wr (i := 44) (by simp [Blk_ite]) (by decide) ?_ ?_ ?_
    | with_reducible refine tilStopNote_within ?_ ?_ | with_reducible refine jobsFail_within ?_ ?_
    | exact mask_sub hk rfl | with_reducible refine Within.ite ?_ ?_ | split | dsimp -proj only
    | with_reducible refine Within.u_cap ?_ ?_)

theorem capCtlWrite_within {K : Nat} {b s : State} {a2 a3} (hk : K &&& 20752710503506123522 = 20752710503506123522) (h : Within K b s) :
    Within K b (capCtlWrite s a2 a3) := by
  unfold capCtlWrite
  repeat' (first
    | with_reducible assumption | with_reducible refine Within.wr (i := 44) (by simp [Blk_ite]) (by decide) ?_ ?_ ?_
    | with_reducible refine capOff_within ?_ ?_ | with_reducible refine capOn_within ?_ ?_
    | with_reducible refine State_status_within ?_ ?_ | exact mask_sub hk rfl | with_reducible refine Within.ite ?_ ?_
    | split | dsimp -proj only)

theorem State_setLink_within {K : Nat} {b s : State} {a2 a3} (hk : K &&& 67108864 = 67108864) (h : Within K b s) :
    Within K b (State.setLink s a2 a3) := by
  unfold State.setLink
  repeat' (first
    | with_reducible assumption | exact mask_sub hk rfl | with_reducible refine Within.ite ?_ ?_ | split
    | dsimp -proj only | with_reducible refine Within.u_msr ?_ ?_)

theorem msrCtlReg_within {K : Nat} {b s : State} {a2} (hk : K &&& 4611683819471241216 = 4611683819471241216) (h : Within K b s) :
    Within K b (msrCtlReg s a2) := by
  unfold msrCtlReg
  repeat' (first
    | with_reducible assumption | with_reducible refine State_writeWord_within ?_ ?_
    | with_reducible refine State_setLink_within ?_ ?_ | with_reducible refine Within.forN (fun _ _ _ _ => ?_) ?_
    | exact mask_sub hk rfl | with_reducible refine Within.ite ?_ ?_ | split | dsimp -proj only)

theorem msrCtl_within {K : Nat} {b s : State} {a2 a3 a4 a5} (hk : K &&& 67108864 = 67108864) (h : Within K b s) :
    Within K b (msrCtl s a2 a3 a4 a5) := by
  unfold msrCtl
  repeat' (first
    | with_reducible assumption | with_reducible refine State_setLink_within ?_ ?_ | exact mask_sub hk rfl
    | with_reducible refine Within.ite ?_ ?_ | split | dsimp -proj only)

theorem msrPings_within {K : Nat} {b s : State} {a2 a3} (hk : K &&& 67108864 = 67108864) (h : Within K b s) :
    Within K b (msrPings s a2 a3) := by
  induction a3 generalizing s a2 with
  | zero => exact h
  | succ _ ih =>
  unfold msrPings
  repeat' (first
    | with_reducible assumption | with_reducible refine ih ?_ | with_reducible refine msrCtl_within ?_ ?_
    | exact mask_sub hk rfl | with_reducible refine Within.ite ?_ ?_ | split | dsimp -proj only)

theorem msrMeasure_within {K : Nat} {b s : State} {a2} (hk : K &&& 67108864 = 67108864) (h : Within K b s) :
    Within K b (msrMeasure s a2) := by
  unfold msrMeasure
  repeat' (first
    | with_reducible assumption | with_reducible refine State_setLink_within ?_ ?_
    | with_reducible refine msrCtl_within ?_ ?_ | with_reducible refine msrPings_within ?_ ?_ | exact mask_sub hk rfl
    | with_reducible refine Within.ite ?_ ?_ | split | dsimp -proj only)

theorem msrWrite_within {K : Nat} {b s : State} {a2 a3 a4} (hk : K &&& 23058428168461359874 = 23058428168461359874) (h : Within K b s) :
    Within K b (msrWrite s a2 a3 a4) := by
  unfold msrWrite
  repeat' (first
    | with_reducible assumption | with_reducible refine msrMeasure_within ?_ ?_
    | with_reducible refine msrCtlReg_within ?_ ?_ | with_reducible refine State_writeWord_within ?_ ?_
    | with_reducible refine capCtlWrite_within ?_ ?_ | with_reducible refine State_status_within ?_ ?_
    | exact mask_sub hk rfl | with_reducible refine Within.ite ?_ ?_ | split | dsimp -proj only)

theorem furPrio_within {K : Nat} {b s : State} {a2 a3 a4} (hk : K &&& 4352 = 4352) (h : Within K b s) :
    Within K b (furPrio s a2 a3 a4) := by
  unfold furPrio
  repeat' (first
    | with_reducible assumption | with_reducible refine State_setQueue_within ?_ ?_
    | with_reducible refine State_status_within ?_ ?_ | exact mask_sub hk rfl | with_reducible refine Within.ite ?_ ?_
    | split | dsimp -proj only)

theorem furStore_within {K : Nat} {b s : State} {a2 a3 a4 a5} (hk : K &&& 20752622267295341058 = 20752622267295341058) (h : Within K b s) :
    Within K b (furStore s a2 a3 a4 a5) := by
  unfold furStore
  repeat' (first
    | with_reducible assumption | with_reducible refine Within.wr (i := 45) (by simp [Blk_ite]) (by decide) ?_ ?_ ?_
    | with_reducible refine State_setQueue_within ?_ ?_ | with_reducible refine furSync_within ?_ ?_
    | with_reducible refine furPut_within ?_ ?_ | exact mask_sub hk rfl | with_reducible refine Within.ite ?_ ?_
    | split | dsimp -proj only)

theorem furAbort_within {K : Nat} {b s : State} {a2} (hk : K &&& 20752622267295341058 = 20752622267295341058) (h : Within K b s) :
    Within K b (furAbort s a2) := by
  unfold furAbort
  repeat' (first
    | with_reducible assumption | with_reducible refine furStore_within ?_ ?_ | exact mask_sub hk rfl
    | with_reducible refine Within.ite ?_ ?_ | split | dsimp -proj only)

theorem furPctlAbort_within {K : Nat} {b s : State} {a2 a3} (hk : K &&& 20752622267295341314 = 20752622267295341314) (h : Within K b s) :
    Within K b (furPctlAbort s a2 a3) := by
  unfold furPctlAbort
  repeat' (first
    | with_reducible assumption | with_reducible refine furAbort_within ?_ ?_
    | with_reducible refine State_status_within ?_ ?_ | exact mask_sub hk rfl | with_reducible refine Within.ite ?_ ?_
    | split | dsimp -proj only)

theorem furPoisonNext_within {K : Nat} {b s : State} {a2 a3} (hk : K &&& 4352 = 4352) (h : Within K b s) :
    Within K b (furPoisonNext s a2 a3) := by
  unfold furPoisonNext
  repeat' (first
    | with_reducible assumption | with_reducible refine State_setQueue_within ?_ ?_
    | with_reducible refine State_status_within ?_ ?_ | exact mask_sub hk rfl | with_reducible refine Within.ite ?_ ?_
    | split | dsimp -proj only)

theorem furProduce_within {K : Nat} {b s : State} {a2 a3 a4 a5} (hk : K &&& 20752622267295341314 = 20752622267295341314) (h : Within K b s) :
    Within K b (furProduce s a2 a3 a4 a5) := by
  unfold furProduce
  repeat' (first
    | with_reducible assumption | with_reducible refine Within.wr (i := 45) (by simp [Blk_ite]) (by decide) ?_ ?_ ?_
    | with_reducible refine furStore_within ?_ ?_ | with_reducible refine furAbort_within ?_ ?_
    | with_reducible refine State_status_within ?_ ?_ | exact mask_sub hk rfl | with_reducible refine Within.ite ?_ ?_
    | split | dsimp -proj only)

theorem producerWrite_within {K : Nat} {b s : State} {a2 a3 a4 a5} (hk : K &&& 20752622267295341314 = 20752622267295341314) (h : Within K b s) :
    Within K b (producerWrite s a2 a3 a4 a5) := by
  unfold producerWrite
  repeat' (first
    | with_reducible assumption | with_reducible refine furProduce_within ?_ ?_
    | with_reducible refine furPoisonNext_within ?_ ?_ | with_reducible refine furPctlAbort_within ?_ ?_
    | with_reducible refine furPrio_within ?_ ?_ | with_reducible refine State_status_within ?_ ?_
    | exact mask_sub hk rfl | with_reducible refine Within.ite ?_ ?_ | split | dsimp -proj only)

theorem queueCfgWrite_within {K : Nat} {b s : State} {a2 a3 a4} (hk : K &&& 2305878193585789696 = 2305878193585789696) (h : Within K b s) :
    Within K b (queueCfgWrite s a2 a3 a4) := by
  unfold queueCfgWrite
  repeat' (first
    | with_reducible assumption | with_reducible refine Within.wr (i := 45) (by simp [Blk_ite]) (by decide) ?_ ?_ ?_
    | with_reducible refine queueOff_within ?_ ?_ | with_reducible refine queueOn_within ?_ ?_
    | with_reducible refine State_status_within ?_ ?_ | exact mask_sub hk rfl | with_reducible refine Within.ite ?_ ?_
    | split | dsimp -proj only)

theorem furFlush_within {K : Nat} {b s : State} {a2} (hk : K &&& 2305878193585789440 = 2305878193585789440) (h : Within K b s) :
    Within K b (furFlush s a2) := by
  unfold furFlush
  repeat' (first
    | with_reducible assumption | with_reducible refine State_setQueue_within ?_ ?_
    | with_reducible refine furSync_within ?_ ?_ | with_reducible refine furEmpty_within ?_ ?_ | exact mask_sub hk rfl
    | with_reducible refine Within.ite ?_ ?_ | split | dsimp -proj only)

theorem queueWrite_within {K : Nat} {b s : State} {a2 a3 a4 a5 a6} (hk : K &&& 4611683819404139264 = 4611683819404139264) (h : Within K b s) :
    Within K b (queueWrite s a2 a3 a4 a5 a6) := by
  unfold queueWrite
  repeat' (first
    | with_reducible assumption | with_reducible refine State_writeWord_within ?_ ?_
    | with_reducible refine furSync_within ?_ ?_ | with_reducible refine furFlush_within ?_ ?_
    | with_reducible refine State_status_within ?_ ?_ | with_reducible refine queueCfgWrite_within ?_ ?_
    | exact mask_sub hk rfl | with_reducible refine Within.ite ?_ ?_ | split | dsimp -proj only)

theorem winFur_within {K : Nat} {b s : State} {a2 a3 a4} (hk : K &&& 23058427893114215170 = 23058427893114215170) (h : Within K b s) :
    Within K b (winFur s a2 a3 a4) := by
  unfold winFur
  repeat' (first
    | with_reducible assumption | with_reducible refine Within.wr (i := 45) (by simp [Blk_ite]) (by decide) ?_ ?_ ?_
    | with_reducible refine dioFollowAll_within ?_ ?_ | with_reducible refine State_writeWord_within ?_ ?_
    | with_reducible refine queueWrite_within ?_ ?_ | with_reducible refine State_status_within ?_ ?_
    | with_reducible refine producerWrite_within ?_ ?_ | exact mask_sub hk rfl | with_reducible refine Within.ite ?_ ?_
    | split | dsimp -proj only)

theorem tilCtlWrite_within {K : Nat} {b s : State} {a2 a3} (hk : K &&& 23058428168260041474 = 23058428168260041474) (h : Within K b s) :
    Within K b (tilCtlWrite s a2 a3) := by
  unfold tilCtlWrite
  repeat' (first
    | with_reducible assumption | with_reducible refine Within.wr (i := 46) (by simp [Blk_ite]) (by decide) ?_ ?_ ?_
    | with_reducible refine tilStopNote_within ?_ ?_ | with_reducible refine jobsFail_within ?_ ?_
    | with_reducible refine tilDegrade_within ?_ ?_ | with_reducible refine State_writeWord_within ?_ ?_
    | with_reducible refine State_status_within ?_ ?_ | exact mask_sub hk rfl | with_reducible refine Within.ite ?_ ?_
    | split | dsimp -proj only | with_reducible refine Within.u_til ?_ ?_)

theorem tilParamErr_within {K : Nat} {b s : State} {a2 a3 a4} (hk : K &&& 2305913377957871616 = 2305913377957871616) (h : Within K b s) :
    Within K b (tilParamErr s a2 a3 a4) := by
  unfold tilParamErr
  repeat' (first
    | with_reducible assumption | with_reducible refine Within.wr (i := 46) (by simp [Blk_ite]) (by decide) ?_ ?_ ?_
    | exact mask_sub hk rfl | with_reducible refine Within.ite ?_ ?_ | split | dsimp -proj only)

theorem tilCommit_within {K : Nat} {b s : State} {a2} (hk : K &&& 2305913378226307328 = 2305913378226307328) (h : Within K b s) :
    Within K b (tilCommit s a2) := by
  unfold tilCommit
  repeat' (first
    | with_reducible assumption | with_reducible refine Within.wr (i := 46) (by simp [Blk_ite]) (by decide) ?_ ?_ ?_
    | with_reducible refine tilParamErr_within ?_ ?_ | with_reducible refine State_status_within ?_ ?_
    | exact mask_sub hk rfl | with_reducible refine Within.ite ?_ ?_ | split | dsimp -proj only
    | with_reducible refine Within.u_til ?_ ?_)

theorem tilWithdraw_within {K : Nat} {b s : State} (hk : K &&& 2305913378226307072 = 2305913378226307072) (h : Within K b s) :
    Within K b (tilWithdraw s) := by
  unfold tilWithdraw
  repeat' (first
    | with_reducible assumption | with_reducible refine Within.wr (i := 46) (by simp [Blk_ite]) (by decide) ?_ ?_ ?_
    | exact mask_sub hk rfl | with_reducible refine Within.ite ?_ ?_ | split | dsimp -proj only
    | with_reducible refine Within.u_til ?_ ?_)

theorem ucAddr_within {K : Nat} {b s : State} {a2 a3} (hk : K &&& 2305913378226307328 = 2305913378226307328) (h : Within K b s) :
    Within K b (ucAddr s a2 a3) := by
  unfold ucAddr
  repeat' (first
    | with_reducible assumption | with_reducible refine Within.wr (i := 46) (by simp [Blk_ite]) (by decide) ?_ ?_ ?_
    | with_reducible refine State_status_within ?_ ?_ | exact mask_sub hk rfl | with_reducible refine Within.ite ?_ ?_
    | split | dsimp -proj only | with_reducible refine Within.u_til ?_ ?_)

theorem ucData_within {K : Nat} {b s : State} {a2 a3} (hk : K &&& 2305913378226307328 = 2305913378226307328) (h : Within K b s) :
    Within K b (ucData s a2 a3) := by
  unfold ucData
  repeat' (first
    | with_reducible assumption | with_reducible refine Within.wr (i := 46) (by simp [Blk_ite]) (by decide) ?_ ?_ ?_
    | with_reducible refine State_status_within ?_ ?_ | exact mask_sub hk rfl | with_reducible refine Within.ite ?_ ?_
    | split | dsimp -proj only | with_reducible refine Within.u_til ?_ ?_)

theorem ucLock_within {K : Nat} {b s : State} {a2} (hk : K &&& 2305913377957871872 = 2305913377957871872) (h : Within K b s) :
    Within K b (ucLock s a2) := by
  unfold ucLock
  repeat' (first
    | with_reducible assumption | with_reducible refine Within.wr (i := 46) (by simp [Blk_ite]) (by decide) ?_ ?_ ?_
    | with_reducible refine State_status_within ?_ ?_ | exact mask_sub hk rfl | with_reducible refine Within.ite ?_ ?_
    | split | dsimp -proj only)

theorem tilWrite_within {K : Nat} {b s : State} {a2 a3 a4} (hk : K &&& 23058428168260041474 = 23058428168260041474) (h : Within K b s) :
    Within K b (tilWrite s a2 a3 a4) := by
  unfold tilWrite
  repeat' (first
    | with_reducible assumption | with_reducible refine Within.wr (i := 46) (by simp [Blk_ite]) (by decide) ?_ ?_ ?_
    | with_reducible refine tilDegrade_within ?_ ?_ | with_reducible refine State_writeWord_within ?_ ?_
    | with_reducible refine ucLock_within ?_ ?_ | with_reducible refine ucData_within ?_ ?_
    | with_reducible refine ucAddr_within ?_ ?_ | with_reducible refine tilWithdraw_within ?_ ?_
    | with_reducible refine State_status_within ?_ ?_ | with_reducible refine tilCommit_within ?_ ?_
    | with_reducible refine tilCtlWrite_within ?_ ?_ | exact mask_sub hk rfl | with_reducible refine Within.ite ?_ ?_
    | split | dsimp -proj only)

theorem pomAnswer_within {K : Nat} {b s : State} {a2 a3} (hk : K &&& 2305983746702049536 = 2305983746702049536) (h : Within K b s) :
    Within K b (pomAnswer s a2 a3) := by
  unfold pomAnswer
  repeat' (first
    | with_reducible assumption | with_reducible refine Within.wr (i := 47) (by simp [Blk_ite]) (by decide) ?_ ?_ ?_
    | with_reducible refine State_answer_within ?_ ?_ | exact mask_sub hk rfl | with_reducible refine Within.ite ?_ ?_
    | split | dsimp -proj only)

theorem pomRecord_within {K : Nat} {b s : State} {a2 a3 a4 a5} (hk : K &&& 20752622267295341058 = 20752622267295341058) (h : Within K b s) :
    Within K b (pomRecord s a2 a3 a4 a5) := by
  unfold pomRecord
  repeat' (first
    | with_reducible assumption | with_reducible refine hwPost_within ?_ ?_ | exact mask_sub hk rfl
    | with_reducible refine Within.ite ?_ ?_ | split | dsimp -proj only)

theorem pomSend_within {K : Nat} {b s : State} {a2 a3 a4 a5 a6} (hk : K &&& 2308094809566347776 = 2308094809566347776) (h : Within K b s) :
    Within K b (pomSend s a2 a3 a4 a5 a6) := by
  unfold pomSend
  repeat' (first
    | with_reducible assumption | with_reducible refine State_emit_within ?_ ?_
    | with_reducible refine canSystem_within ?_ ?_ | exact mask_sub hk rfl | with_reducible refine Within.ite ?_ ?_
    | split | dsimp -proj only | with_reducible refine Within.u_pom ?_ ?_)

theorem pomTripReset_within {K : Nat} {b s : State} {a2 a3} (hk : K &&& 21945372481646672642 = 21945372481646672642) (h : Within K b s) :
    Within K b (pomTripReset s a2 a3) := by
  unfold pomTripReset
  repeat' (first
    | with_reducible assumption | with_reducible refine followAll_within ?_ ?_
    | with_reducible refine pomSend_within ?_ ?_ | with_reducible refine pomRecord_within ?_ ?_
    | with_reducible refine latchSync_within ?_ ?_ | with_reducible refine pomAnswer_within ?_ ?_
    | with_reducible refine State_status_within ?_ ?_ | exact mask_sub hk rfl | with_reducible refine Within.ite ?_ ?_
    | split | dsimp -proj only | with_reducible refine Within.u_pom ?_ ?_)

theorem slsProof_within {K : Nat} {b s : State} {a1 a2 a3} (hk : K &&& 3494934048329965568 = 3494934048329965568) (h : Within K b s) :
    Within K b (slsProof a1 a2 a3 s) := by
  unfold slsProof
  repeat' (first
    | with_reducible assumption
    | with_reducible refine Within.setBit (i := 47) (by simp [Blk_ite]) (by decide) ?_ ?_ ?_
    | with_reducible refine State_degrade_within ?_ ?_ | exact mask_sub hk rfl | with_reducible refine Within.ite ?_ ?_
    | split | dsimp -proj only | with_reducible refine Within.u_pom ?_ ?_)

theorem slsOpen_within {K : Nat} {b s : State} {a2 a3} (hk : K &&& 3494934048329965568 = 3494934048329965568) (h : Within K b s) :
    Within K b (slsOpen s a2 a3) := by
  unfold slsOpen
  repeat' (first
    | with_reducible assumption | with_reducible refine Within.wr (i := 47) (by simp [Blk_ite]) (by decide) ?_ ?_ ?_
    | with_reducible refine subSync_within ?_ ?_ | with_reducible refine slsProof_within ?_ ?_
    | with_reducible refine Within.forN (fun _ _ _ _ => ?_) ?_ | exact mask_sub hk rfl
    | with_reducible refine Within.ite ?_ ?_ | split | dsimp -proj only)

theorem tripLatch_within {K : Nat} {b s : State} {a2 a3 a4 a5 a6 a7} (hk : K &&& 21945372481646672386 = 21945372481646672386) (h : Within K b s) :
    Within K b (tripLatch s a2 a3 a4 a5 a6 a7) := by
  unfold tripLatch
  repeat' (first
    | with_reducible assumption | with_reducible refine pomSend_within ?_ ?_
    | with_reducible refine pomRecord_within ?_ ?_ | with_reducible refine latchSync_within ?_ ?_
    | with_reducible refine slsOpen_within ?_ ?_ | with_reducible refine followAll_within ?_ ?_ | exact mask_sub hk rfl
    | with_reducible refine Within.ite ?_ ?_ | split | dsimp -proj only | with_reducible refine Within.u_pom ?_ ?_)

theorem pomManual_within {K : Nat} {b s : State} {a2 a3 a4 a5} (hk : K &&& 21945372481646672642 = 21945372481646672642) (h : Within K b s) :
    Within K b (pomManual s a2 a3 a4 a5) := by
  unfold pomManual
  repeat' (first
    | with_reducible assumption | with_reducible refine tripLatch_within ?_ ?_
    | with_reducible refine pomAnswer_within ?_ ?_ | with_reducible refine State_status_within ?_ ?_
    | exact mask_sub hk rfl | with_reducible refine Within.ite ?_ ?_ | split | dsimp -proj only)

theorem pomParamWrite_within {K : Nat} {b s : State} {a2 a3 a4 a5} (hk : K &&& 2305983746704146688 = 2305983746704146688) (h : Within K b s) :
    Within K b (pomParamWrite s a2 a3 a4 a5) := by
  unfold pomParamWrite
  repeat' (first
    | with_reducible assumption | with_reducible refine pomAnswer_within ?_ ?_
    | with_reducible refine State_status_within ?_ ?_ | exact mask_sub hk rfl | with_reducible refine Within.ite ?_ ?_
    | with_reducible refine Within.wr (pomParamReg_blk (by assumption)) (by decide) ?_ ?_ ?_ | split | dsimp -proj only
    | with_reducible refine Within.u_pom ?_ ?_)

theorem pomParamRead_within {K : Nat} {b s : State} {a2 a3 a4} (hk : K &&& 2305983746702049536 = 2305983746702049536) (h : Within K b s) :
    Within K b (pomParamRead s a2 a3 a4) := by
  unfold pomParamRead
  repeat' (first
    | with_reducible assumption | with_reducible refine pomAnswer_within ?_ ?_
    | with_reducible refine State_status_within ?_ ?_ | exact mask_sub hk rfl | with_reducible refine Within.ite ?_ ?_
    | split | dsimp -proj only)

theorem compFault_within {K : Nat} {b s : State} {a2} (hk : K &&& 21945372481646673410 = 21945372481646673410) (h : Within K b s) :
    Within K b (compFault s a2) := by
  unfold compFault
  repeat' (first
    | with_reducible assumption | with_reducible refine Within.wr (i := 47) (by simp [Blk_ite]) (by decide) ?_ ?_ ?_
    | with_reducible refine tripLatch_within ?_ ?_ | with_reducible refine State_hwFault_within ?_ ?_
    | with_reducible refine pomRecord_within ?_ ?_ | exact mask_sub hk rfl | with_reducible refine Within.ite ?_ ?_
    | split | dsimp -proj only | with_reducible refine Within.u_pom ?_ ?_)

theorem injection_within {K : Nat} {b s : State} {a2 a3 a4} (hk : K &&& 21945372481646673410 = 21945372481646673410) (h : Within K b s) :
    Within K b (injection s a2 a3 a4) := by
  unfold injection
  repeat' (first
    | with_reducible assumption | with_reducible refine Within.wr (i := 47) (by simp [Blk_ite]) (by decide) ?_ ?_ ?_
    | with_reducible refine Within.incSat (i := 47) (by simp [Blk_ite]) (by decide) ?_ ?_ ?_
    | with_reducible refine compFault_within ?_ ?_ | exact mask_sub hk rfl | with_reducible refine Within.ite ?_ ?_
    | split | dsimp -proj only | with_reducible refine Within.u_pom ?_ ?_)

theorem pomInject_within {K : Nat} {b s : State} {a2 a3 a4} (hk : K &&& 21945372481646673666 = 21945372481646673666) (h : Within K b s) :
    Within K b (pomInject s a2 a3 a4) := by
  unfold pomInject
  repeat' (first
    | with_reducible assumption | with_reducible refine injection_within ?_ ?_
    | with_reducible refine pomAnswer_within ?_ ?_ | with_reducible refine State_status_within ?_ ?_
    | exact mask_sub hk rfl | with_reducible refine Within.ite ?_ ?_ | split | dsimp -proj only)

theorem pomMailbox_within {K : Nat} {b s : State} {a2 a3 a4 a5} (hk : K &&& 21945372481646673666 = 21945372481646673666) (h : Within K b s) :
    Within K b (pomMailbox s a2 a3 a4 a5) := by
  unfold pomMailbox
  repeat' (first
    | with_reducible assumption | with_reducible refine pomAnswer_within ?_ ?_
    | with_reducible refine pomInject_within ?_ ?_ | with_reducible refine pomParamRead_within ?_ ?_
    | with_reducible refine pomParamWrite_within ?_ ?_ | with_reducible refine pomManual_within ?_ ?_
    | with_reducible refine pomTripReset_within ?_ ?_ | with_reducible refine State_status_within ?_ ?_
    | exact mask_sub hk rfl | with_reducible refine Within.ite ?_ ?_ | split | dsimp -proj only)

theorem pomWrite_within {K : Nat} {b s : State} {a2 a3 a4} (hk : K &&& 4611683819406237952 = 4611683819406237952) (h : Within K b s) :
    Within K b (pomWrite s a2 a3 a4) := by
  unfold pomWrite
  repeat' (first
    | with_reducible assumption | with_reducible refine State_degrade_within ?_ ?_
    | with_reducible refine State_writeWord_within ?_ ?_ | with_reducible refine State_status_within ?_ ?_
    | exact mask_sub hk rfl | with_reducible refine Within.ite ?_ ?_ | split | dsimp -proj only
    | with_reducible refine Within.u_pom ?_ ?_)

theorem lsWriteCfg_within {K : Nat} {b s : State} {a2 a3 a4 a5 a6} (hk : K &&& 2306124484190404864 = 2306124484190404864) (h : Within K b s) :
    Within K b (lsWriteCfg s a2 a3 a4 a5 a6) := by
  unfold lsWriteCfg
  repeat' (first
    | with_reducible assumption | with_reducible refine Within.wr (i := 48) (by simp [Blk_ite]) (by decide) ?_ ?_ ?_
    | with_reducible refine lsRegroup_within ?_ ?_ | with_reducible refine State_status_within ?_ ?_
    | exact mask_sub hk rfl | with_reducible refine Within.ite ?_ ?_ | split | dsimp -proj only)

theorem hostLater_within {K : Nat} {b s : State} {a2 a3} (hk : K &&& 4194304 = 4194304) (h : Within K b s) :
    Within K b (hostLater s a2 a3) := by
  unfold hostLater
  repeat' (first
    | with_reducible assumption | exact mask_sub hk rfl | with_reducible refine Within.ite ?_ ?_ | split
    | dsimp -proj only | with_reducible refine Within.u_trl ?_ ?_)

theorem lsFollow_within {K : Nat} {b s : State} {a2} (hk : K &&& 20752903742272477698 = 20752903742272477698) (h : Within K b s) :
    Within K b (lsFollow s a2) := by
  unfold lsFollow
  repeat' (first
    | with_reducible assumption | with_reducible refine lsUpdate_within ?_ ?_ | exact mask_sub hk rfl
    | with_reducible refine Within.ite ?_ ?_ | with_reducible refine Within.foldl (fun _ _ _ => ?_) ?_ | split
    | dsimp -proj only)

theorem lsUnlatch_within {K : Nat} {b s : State} {a2} (hk : K &&& 20752903742272444930 = 20752903742272444930) (h : Within K b s) :
    Within K b (lsUnlatch s a2) := by
  unfold lsUnlatch
  repeat' (first
    | with_reducible assumption | with_reducible refine Within.wr (i := 48) (by simp [Blk_ite]) (by decide) ?_ ?_ ?_
    | with_reducible refine lsRecord_within ?_ ?_ | exact mask_sub hk rfl | with_reducible refine Within.ite ?_ ?_
    | split | dsimp -proj only)

theorem lsDrop_within {K : Nat} {b s : State} {a2} (hk : K &&& 20752903742272477698 = 20752903742272477698) (h : Within K b s) :
    Within K b (lsDrop s a2) := by
  unfold lsDrop
  repeat' (first
    | with_reducible assumption | with_reducible refine Within.wr (i := 48) (by simp [Blk_ite]) (by decide) ?_ ?_ ?_
    | with_reducible refine State_setLs_within ?_ ?_ | with_reducible refine lsUnlatch_within ?_ ?_
    | exact mask_sub hk rfl | with_reducible refine Within.ite ?_ ?_ | split | dsimp -proj only)

theorem lsClearOn_within {K : Nat} {b s : State} {a2} (hk : K &&& 20752903742272477698 = 20752903742272477698) (h : Within K b s) :
    Within K b (lsClearOn s a2) := by
  unfold lsClearOn
  repeat' (first
    | with_reducible assumption | with_reducible refine Within.wr (i := 48) (by simp [Blk_ite]) (by decide) ?_ ?_ ?_
    | with_reducible refine lsDrop_within ?_ ?_ | with_reducible refine lsFollow_within ?_ ?_ | exact mask_sub hk rfl
    | with_reducible refine Within.ite ?_ ?_ | with_reducible refine Within.foldl (fun _ _ _ => ?_) ?_ | split
    | dsimp -proj only)

theorem lsSetOn_within {K : Nat} {b s : State} {a2 a3} (hk : K &&& 20752903742272477698 = 20752903742272477698) (h : Within K b s) :
    Within K b (lsSetOn s a2 a3) := by
  unfold lsSetOn
  repeat' (first
    | with_reducible assumption | with_reducible refine Within.wr (i := 48) (by simp [Blk_ite]) (by decide) ?_ ?_ ?_
    | with_reducible refine lsClearOn_within ?_ ?_ | with_reducible refine lsFollow_within ?_ ?_
    | exact mask_sub hk rfl | with_reducible refine Within.ite ?_ ?_ | split | dsimp -proj only)

theorem hostNote_within {K : Nat} {b s : State} {a2} (hk : K &&& 4194304 = 4194304) (h : Within K b s) :
    Within K b (hostNote s a2) := by
  unfold hostNote
  repeat' (first
    | with_reducible assumption | exact mask_sub hk rfl | with_reducible refine Within.ite ?_ ?_ | split
    | dsimp -proj only | with_reducible refine Within.u_trl ?_ ?_)

theorem lsWriteOn_within {K : Nat} {b s : State} {a2 a3 a4} (hk : K &&& 20752903742276672258 = 20752903742276672258) (h : Within K b s) :
    Within K b (lsWriteOn s a2 a3 a4) := by
  unfold lsWriteOn
  repeat' (first
    | with_reducible assumption | with_reducible refine hostNote_within ?_ ?_
    | with_reducible refine lsSetOn_within ?_ ?_ | with_reducible refine hostLater_within ?_ ?_
    | with_reducible refine State_status_within ?_ ?_ | exact mask_sub hk rfl | with_reducible refine Within.ite ?_ ?_
    | split | dsimp -proj only)

theorem lsWriteClear_within {K : Nat} {b s : State} {a2 a3} (hk : K &&& 20752903742272543490 = 20752903742272543490) (h : Within K b s) :
    Within K b (lsWriteClear s a2 a3) := by
  unfold lsWriteClear
  repeat' (first
    | with_reducible assumption | with_reducible refine lsFollow_within ?_ ?_
    | with_reducible refine lsStaggered_within ?_ ?_ | with_reducible refine lsUnlatch_within ?_ ?_
    | with_reducible refine State_status_within ?_ ?_ | exact mask_sub hk rfl | with_reducible refine Within.ite ?_ ?_
    | with_reducible refine Within.foldl (fun _ _ _ => ?_) ?_ | split | dsimp -proj only)

theorem lsWriteReq_within {K : Nat} {b s : State} {a2 a3 a4} (hk : K &&& 20752903742276737794 = 20752903742276737794) (h : Within K b s) :
    Within K b (lsWriteReq s a2 a3 a4) := by
  unfold lsWriteReq
  repeat' (first
    | with_reducible assumption | with_reducible refine lsWriteClear_within ?_ ?_
    | with_reducible refine lsWriteOn_within ?_ ?_ | exact mask_sub hk rfl | with_reducible refine Within.ite ?_ ?_
    | split | dsimp -proj only)

theorem lsWriteFlt_within {K : Nat} {b s : State} {a2 a3 a4} (hk : K &&& 4611683819404140800 = 4611683819404140800) (h : Within K b s) :
    Within K b (lsWriteFlt s a2 a3 a4) := by
  unfold lsWriteFlt
  repeat' (first
    | with_reducible assumption | with_reducible refine State_degrade_within ?_ ?_
    | with_reducible refine State_writeWord_within ?_ ?_ | with_reducible refine lsFltSync_within ?_ ?_
    | with_reducible refine State_status_within ?_ ?_ | exact mask_sub hk rfl | with_reducible refine Within.ite ?_ ?_
    | split | dsimp -proj only)

theorem lsWriteProf_within {K : Nat} {b s : State} {a2 a3 a4 a5} (hk : K &&& 2306124484190404864 = 2306124484190404864) (h : Within K b s) :
    Within K b (lsWriteProf s a2 a3 a4 a5) := by
  unfold lsWriteProf
  repeat' (first
    | with_reducible assumption
    | with_reducible refine Within.clrBit (i := 48) (by simp [Blk_ite]) (by decide) ?_ ?_ ?_
    | with_reducible refine Within.wr (i := 48) (by simp [Blk_ite]) (by decide) ?_ ?_ ?_
    | with_reducible refine State_status_within ?_ ?_ | exact mask_sub hk rfl | with_reducible refine Within.ite ?_ ?_
    | split | dsimp -proj only)

theorem plotqWrite_within {K : Nat} {b s : State} {a2 a3 a4 a5} (hk : K &&& 4611683819404132608 = 4611683819404132608) (h : Within K b s) :
    Within K b (plotqWrite s a2 a3 a4 a5) := by
  unfold plotqWrite
  repeat' (first
    | with_reducible assumption | with_reducible refine State_writeWord_within ?_ ?_
    | with_reducible refine State_status_within ?_ ?_ | exact mask_sub hk rfl | with_reducible refine Within.ite ?_ ?_
    | split | dsimp -proj only)

theorem lsWritePchk_within {K : Nat} {b s : State} {a2 a3} (hk : K &&& 2306124484190404864 = 2306124484190404864) (h : Within K b s) :
    Within K b (lsWritePchk s a2 a3) := by
  unfold lsWritePchk
  repeat' (first
    | with_reducible assumption | with_reducible refine lsCheckProf_within ?_ ?_
    | with_reducible refine State_status_within ?_ ?_ | exact mask_sub hk rfl | with_reducible refine Within.ite ?_ ?_
    | split | dsimp -proj only)

theorem lsServiceEnd_within {K : Nat} {b s : State} {a2} (hk : K &&& 20752903742272477698 = 20752903742272477698) (h : Within K b s) :
    Within K b (lsServiceEnd s a2) := by
  unfold lsServiceEnd
  repeat' (first
    | with_reducible assumption | with_reducible refine State_setLs_within ?_ ?_
    | with_reducible refine lsFollow_within ?_ ?_ | exact mask_sub hk rfl | with_reducible refine Within.ite ?_ ?_
    | split | dsimp -proj only)

theorem lsWriteSvc_within {K : Nat} {b s : State} {a2 a3 a4 a5} (hk : K &&& 20752903742272477954 = 20752903742272477954) (h : Within K b s) :
    Within K b (lsWriteSvc s a2 a3 a4 a5) := by
  unfold lsWriteSvc
  repeat' (first
    | with_reducible assumption | with_reducible refine State_setLs_within ?_ ?_
    | with_reducible refine lsFollow_within ?_ ?_ | with_reducible refine lsServiceEnd_within ?_ ?_
    | with_reducible refine State_status_within ?_ ?_ | exact mask_sub hk rfl | with_reducible refine Within.ite ?_ ?_
    | split | dsimp -proj only)

theorem winLs_within {K : Nat} {b s : State} {a2 a3 a4} (hk : K &&& 23058427893118384898 = 23058427893118384898) (h : Within K b s) :
    Within K b (winLs s a2 a3 a4) := by
  unfold winLs
  repeat' (first
    | with_reducible assumption | with_reducible refine State_writeWord_within ?_ ?_
    | with_reducible refine lsWriteSvc_within ?_ ?_ | with_reducible refine lsWritePchk_within ?_ ?_
    | with_reducible refine plotqWrite_within ?_ ?_ | with_reducible refine lsWriteProf_within ?_ ?_
    | with_reducible refine State_status_within ?_ ?_ | with_reducible refine lsWriteFlt_within ?_ ?_
    | with_reducible refine lsWriteReq_within ?_ ?_ | with_reducible refine lsWriteCfg_within ?_ ?_
    | exact mask_sub hk rfl | with_reducible refine Within.ite ?_ ?_ | split | dsimp -proj only)

theorem strRelease_within {K : Nat} {b s : State} {a2 a3 a4} (hk : K &&& 20754592592134314754 = 20754592592134314754) (h : Within K b s) :
    Within K b (strRelease s a2 a3 a4) := by
  unfold strRelease
  repeat' (first
    | with_reducible assumption | with_reducible refine Within.wr (i := 49) (by simp [Blk_ite]) (by decide) ?_ ?_ ?_
    | with_reducible refine heldSync_within ?_ ?_ | with_reducible refine followAll_within ?_ ?_
    | with_reducible refine State_status_within ?_ ?_ | exact mask_sub hk rfl | with_reducible refine Within.ite ?_ ?_
    | split | dsimp -proj only | with_reducible refine Within.u_str ?_ ?_)

theorem strReturn_within {K : Nat} {b s : State} (hk : K &&& 1048576 = 1048576) (h : Within K b s) :
    Within K b (strReturn s) := by
  unfold strReturn
  repeat' (first
    | with_reducible assumption | exact mask_sub hk rfl | with_reducible refine Within.ite ?_ ?_ | split
    | dsimp -proj only | with_reducible refine Within.u_str ?_ ?_)

theorem strWrite_within {K : Nat} {b s : State} {a2 a3 a4} (hk : K &&& 4611683819405181184 = 4611683819405181184) (h : Within K b s) :
    Within K b (strWrite s a2 a3 a4) := by
  unfold strWrite
  repeat' (first
    | with_reducible assumption | with_reducible refine State_writeWord_within ?_ ?_
    | with_reducible refine strReturn_within ?_ ?_ | with_reducible refine State_status_within ?_ ?_
    | exact mask_sub hk rfl | with_reducible refine Within.ite ?_ ?_ | split | dsimp -proj only)

theorem dioWriteCfg_within {K : Nat} {b s : State} {a2 a3 a4} (hk : K &&& 4611683819404657408 = 4611683819404657408) (h : Within K b s) :
    Within K b (dioWriteCfg s a2 a3 a4) := by
  unfold dioWriteCfg
  repeat' (first
    | with_reducible assumption | with_reducible refine Within.wr (i := 50) (by simp [Blk_ite]) (by decide) ?_ ?_ ?_
    | with_reducible refine dioFollow_within ?_ ?_ | with_reducible refine subSync_within ?_ ?_
    | with_reducible refine State_writeWord_within ?_ ?_ | with_reducible refine dioRegroup_within ?_ ?_
    | with_reducible refine State_status_within ?_ ?_ | exact mask_sub hk rfl | with_reducible refine Within.ite ?_ ?_
    | split | dsimp -proj only)

theorem dioWriteDeb_within {K : Nat} {b s : State} {a2 a3 a4} (hk : K &&& 4611683819404132608 = 4611683819404132608) (h : Within K b s) :
    Within K b (dioWriteDeb s a2 a3 a4) := by
  unfold dioWriteDeb
  repeat' (first
    | with_reducible assumption | with_reducible refine State_writeWord_within ?_ ?_
    | with_reducible refine State_status_within ?_ ?_ | exact mask_sub hk rfl | with_reducible refine Within.ite ?_ ?_
    | split | dsimp -proj only)

end Sys2Proof.Machine
end

