-- ==== Sys2Proof/Laws/FrameOps4.lean ====
section
/-! SUPPORT. What each operation can change: one lemma an operation, by its own steps (part 4). -/

set_option linter.all false

namespace Sys2Proof.Machine

theorem dioUnlatch_within {K : Nat} {b s : State} {a2} (hk : K &&& 20753748167202707970 = 20753748167202707970) (h : Within K b s) :
    Within K b (dioUnlatch s a2) := by
  unfold dioUnlatch
  repeat' (first
    | with_reducible assumption | with_reducible refine Within.wr (i := 50) (by simp [Blk_ite]) (by decide) ?_ ?_ ?_
    | with_reducible refine dioPut_within ?_ ?_ | with_reducible refine dioRecord_within ?_ ?_ | exact mask_sub hk rfl
    | with_reducible refine Within.ite ?_ ?_ | split | dsimp -proj only)

theorem dioDrop_within {K : Nat} {b s : State} {a2} (hk : K &&& 20753748167202707970 = 20753748167202707970) (h : Within K b s) :
    Within K b (dioDrop s a2) := by
  unfold dioDrop
  repeat' (first
    | with_reducible assumption | with_reducible refine dioPut_within ?_ ?_
    | with_reducible refine dioUnlatch_within ?_ ?_ | exact mask_sub hk rfl | with_reducible refine Within.ite ?_ ?_
    | split | dsimp -proj only)

theorem dioSetOn_within {K : Nat} {b s : State} {a2 a3} (hk : K &&& 20753748167202707970 = 20753748167202707970) (h : Within K b s) :
    Within K b (dioSetOn s a2 a3) := by
  unfold dioSetOn
  repeat' (first
    | with_reducible assumption | with_reducible refine Within.wrB (i := 50) (by simp [Blk_ite]) (by decide) ?_ ?_ ?_
    | with_reducible refine dioDrop_within ?_ ?_ | with_reducible refine dioFollow_within ?_ ?_
    | with_reducible refine State_setDio_within ?_ ?_ | exact mask_sub hk rfl | with_reducible refine Within.ite ?_ ?_
    | with_reducible refine Within.foldl (fun _ _ _ => ?_) ?_ | split | dsimp -proj only)

theorem dioWriteOn_within {K : Nat} {b s : State} {a2 a3 a4} (hk : K &&& 20753748167206902530 = 20753748167206902530) (h : Within K b s) :
    Within K b (dioWriteOn s a2 a3 a4) := by
  unfold dioWriteOn
  repeat' (first
    | with_reducible assumption | with_reducible refine hostNote_within ?_ ?_
    | with_reducible refine dioSetOn_within ?_ ?_ | with_reducible refine hostLater_within ?_ ?_
    | with_reducible refine State_setDio_within ?_ ?_ | with_reducible refine State_status_within ?_ ?_
    | exact mask_sub hk rfl | with_reducible refine Within.ite ?_ ?_ | split | dsimp -proj only)

theorem dioWriteClear_within {K : Nat} {b s : State} {a2 a3} (hk : K &&& 20753748167202708226 = 20753748167202708226) (h : Within K b s) :
    Within K b (dioWriteClear s a2 a3) := by
  unfold dioWriteClear
  repeat' (first
    | with_reducible assumption | with_reducible refine dioUnlatch_within ?_ ?_
    | with_reducible refine dioFollow_within ?_ ?_ | with_reducible refine State_status_within ?_ ?_
    | exact mask_sub hk rfl | with_reducible refine Within.ite ?_ ?_
    | with_reducible refine Within.foldl (fun _ _ _ => ?_) ?_ | split | dsimp -proj only)

theorem dioWriteReq_within {K : Nat} {b s : State} {a2 a3 a4} (hk : K &&& 20753748167206902530 = 20753748167206902530) (h : Within K b s) :
    Within K b (dioWriteReq s a2 a3 a4) := by
  unfold dioWriteReq
  repeat' (first
    | with_reducible assumption | with_reducible refine dioWriteClear_within ?_ ?_
    | with_reducible refine dioWriteOn_within ?_ ?_ | exact mask_sub hk rfl | with_reducible refine Within.ite ?_ ?_
    | split | dsimp -proj only)

theorem dioDegrade_within {K : Nat} {b s : State} {a2} (hk : K &&& 3494793310839513088 = 3494793310839513088) (h : Within K b s) :
    Within K b (dioDegrade s a2) := by
  unfold dioDegrade
  repeat' (first
    | with_reducible assumption | with_reducible refine State_degrade_within ?_ ?_ | exact mask_sub hk rfl
    | with_reducible refine Within.ite ?_ ?_ | split | dsimp -proj only)

theorem dioWriteFlt_within {K : Nat} {b s : State} {a2 a3 a4} (hk : K &&& 4611683819404140800 = 4611683819404140800) (h : Within K b s) :
    Within K b (dioWriteFlt s a2 a3 a4) := by
  unfold dioWriteFlt
  repeat' (first
    | with_reducible assumption | with_reducible refine State_writeWord_within ?_ ?_
    | with_reducible refine dioFltSync_within ?_ ?_ | with_reducible refine dioDegrade_within ?_ ?_
    | with_reducible refine State_status_within ?_ ?_ | exact mask_sub hk rfl | with_reducible refine Within.ite ?_ ?_
    | split | dsimp -proj only)

theorem dioServiceEnd_within {K : Nat} {b s : State} {a2} (hk : K &&& 2306968909121061376 = 2306968909121061376) (h : Within K b s) :
    Within K b (dioServiceEnd s a2) := by
  unfold dioServiceEnd
  repeat' (first
    | with_reducible assumption | with_reducible refine State_setDio_within ?_ ?_
    | with_reducible refine dioFollow_within ?_ ?_ | exact mask_sub hk rfl | with_reducible refine Within.ite ?_ ?_
    | split | dsimp -proj only)

theorem dioWriteSvc_within {K : Nat} {b s : State} {a2 a3 a4 a5} (hk : K &&& 2306968909121061632 = 2306968909121061632) (h : Within K b s) :
    Within K b (dioWriteSvc s a2 a3 a4 a5) := by
  unfold dioWriteSvc
  repeat' (first
    | with_reducible assumption | with_reducible refine State_setDio_within ?_ ?_
    | with_reducible refine dioFollow_within ?_ ?_ | with_reducible refine dioServiceEnd_within ?_ ?_
    | with_reducible refine State_status_within ?_ ?_ | exact mask_sub hk rfl | with_reducible refine Within.ite ?_ ?_
    | split | dsimp -proj only)

theorem winDio_within {K : Nat} {b s : State} {a2 a3 a4} (hk : K &&& 23058427893118417666 = 23058427893118417666) (h : Within K b s) :
    Within K b (winDio s a2 a3 a4) := by
  unfold winDio
  repeat' (first
    | with_reducible assumption | with_reducible refine State_writeWord_within ?_ ?_
    | with_reducible refine dioWriteSvc_within ?_ ?_ | with_reducible refine plotqWrite_within ?_ ?_
    | with_reducible refine State_status_within ?_ ?_ | with_reducible refine dioWriteFlt_within ?_ ?_
    | with_reducible refine dioWriteReq_within ?_ ?_ | with_reducible refine dioWriteDeb_within ?_ ?_
    | with_reducible refine dioWriteCfg_within ?_ ?_ | exact mask_sub hk rfl | with_reducible refine Within.ite ?_ ?_
    | split | dsimp -proj only)

theorem canCtlWrite_within {K : Nat} {b s : State} {a2 a3} (hk : K &&& 23058427893650561794 = 23058427893650561794) (h : Within K b s) :
    Within K b (canCtlWrite s a2 a3) := by
  unfold canCtlWrite
  repeat' (first
    | with_reducible assumption | with_reducible refine State_writeWord_within ?_ ?_
    | with_reducible refine canSync_within ?_ ?_ | with_reducible refine pairSync_within ?_ ?_
    | with_reducible refine State_status_within ?_ ?_ | exact mask_sub hk rfl | with_reducible refine Within.ite ?_ ?_
    | split | dsimp -proj only)

theorem canBtWrite_within {K : Nat} {b s : State} {a2 a3 a4} (hk : K &&& 4611683819404132608 = 4611683819404132608) (h : Within K b s) :
    Within K b (canBtWrite s a2 a3 a4) := by
  unfold canBtWrite
  repeat' (first
    | with_reducible assumption | with_reducible refine State_writeWord_within ?_ ?_
    | with_reducible refine State_status_within ?_ ?_ | exact mask_sub hk rfl | with_reducible refine Within.ite ?_ ?_
    | split | dsimp -proj only)

theorem canRecover_within {K : Nat} {b s : State} {a2} (hk : K &&& 2308094809564250368 = 2308094809564250368) (h : Within K b s) :
    Within K b (canRecover s a2) := by
  unfold canRecover
  repeat' (first
    | with_reducible assumption | with_reducible refine Within.wr (i := 51) (by simp [Blk_ite]) (by decide) ?_ ?_ ?_
    | with_reducible refine State_setCan_within ?_ ?_ | with_reducible refine State_status_within ?_ ?_
    | exact mask_sub hk rfl | with_reducible refine Within.ite ?_ ?_ | split | dsimp -proj only)

theorem bufAbortReq_within {K : Nat} {b s : State} {a2 a3} (hk : K &&& 20754874067645897218 = 20754874067645897218) (h : Within K b s) :
    Within K b (bufAbortReq s a2 a3) := by
  unfold bufAbortReq
  repeat' (first
    | with_reducible assumption | with_reducible refine setCanBuf_within ?_ ?_
    | with_reducible refine bufAbort_within ?_ ?_ | exact mask_sub hk rfl | with_reducible refine Within.ite ?_ ?_
    | split | dsimp -proj only)

theorem canAbortAll_within {K : Nat} {b s : State} {a2} (hk : K &&& 20754874067645897218 = 20754874067645897218) (h : Within K b s) :
    Within K b (canAbortAll s a2) := by
  unfold canAbortAll
  repeat' (first
    | with_reducible assumption | with_reducible refine bufAbortReq_within ?_ ?_
    | with_reducible refine Within.forN (fun _ _ _ _ => ?_) ?_ | exact mask_sub hk rfl
    | with_reducible refine Within.ite ?_ ?_ | split | dsimp -proj only)

theorem canRegWrite_within {K : Nat} {b s : State} {a2 a3 a4 a5} (hk : K &&& 23058427893650561794 = 23058427893650561794) (h : Within K b s) :
    Within K b (canRegWrite s a2 a3 a4 a5) := by
  unfold canRegWrite
  repeat' (first
    | with_reducible assumption | with_reducible refine canAbortAll_within ?_ ?_
    | with_reducible refine canRecover_within ?_ ?_ | with_reducible refine canBtWrite_within ?_ ?_
    | with_reducible refine canCtlWrite_within ?_ ?_ | with_reducible refine State_writeWord_within ?_ ?_
    | with_reducible refine State_status_within ?_ ?_ | exact mask_sub hk rfl | with_reducible refine Within.ite ?_ ?_
    | split | dsimp -proj only)

theorem canElemWrite_within {K : Nat} {b s : State} {a2 a3 a4 a5 a6} (hk : K &&& 4611683819404132608 = 4611683819404132608) (h : Within K b s) :
    Within K b (canElemWrite s a2 a3 a4 a5 a6) := by
  unfold canElemWrite
  repeat' (first
    | with_reducible assumption | with_reducible refine State_writeWord_within ?_ ?_
    | with_reducible refine State_status_within ?_ ?_ | exact mask_sub hk rfl | with_reducible refine Within.ite ?_ ?_
    | split | dsimp -proj only)

theorem bufRequest_within {K : Nat} {b s : State} {a2 a3} (hk : K &&& 2308094809564250368 = 2308094809564250368) (h : Within K b s) :
    Within K b (bufRequest s a2 a3) := by
  unfold bufRequest
  repeat' (first
    | with_reducible assumption | with_reducible refine Within.wr (i := 51) (by simp [Blk_ite]) (by decide) ?_ ?_ ?_
    | with_reducible refine bufPut_within ?_ ?_ | with_reducible refine setCanBuf_within ?_ ?_
    | with_reducible refine State_status_within ?_ ?_ | exact mask_sub hk rfl | with_reducible refine Within.ite ?_ ?_
    | split | dsimp -proj only)

theorem canBufWrite_within {K : Nat} {b s : State} {a2 a3 a4 a5 a6} (hk : K &&& 23058427893650561794 = 23058427893650561794) (h : Within K b s) :
    Within K b (canBufWrite s a2 a3 a4 a5 a6) := by
  unfold canBufWrite
  repeat' (first
    | with_reducible assumption | with_reducible refine State_writeWord_within ?_ ?_
    | with_reducible refine bufAbortReq_within ?_ ?_ | with_reducible refine bufRequest_within ?_ ?_
    | with_reducible refine State_status_within ?_ ?_ | exact mask_sub hk rfl | with_reducible refine Within.ite ?_ ?_
    | split | dsimp -proj only)

theorem canWrite_within {K : Nat} {b s : State} {a2 a3 a4} (hk : K &&& 23058427893650561794 = 23058427893650561794) (h : Within K b s) :
    Within K b (canWrite s a2 a3 a4) := by
  unfold canWrite
  repeat' (first
    | with_reducible assumption | with_reducible refine canBufWrite_within ?_ ?_
    | with_reducible refine State_status_within ?_ ?_ | with_reducible refine canElemWrite_within ?_ ?_
    | with_reducible refine canRegWrite_within ?_ ?_ | exact mask_sub hk rfl | with_reducible refine Within.ite ?_ ?_
    | split | dsimp -proj only)

theorem nsCommand_within {K : Nat} {b s : State} {a2 a3} (hk : K &&& 2308094810637992704 = 2308094810637992704) (h : Within K b s) :
    Within K b (nsCommand s a2 a3) := by
  unfold nsCommand
  repeat' (first
    | with_reducible assumption | with_reducible refine nsSend_within ?_ ?_
    | with_reducible refine wakeDrive_within ?_ ?_ | with_reducible refine nsSync_within ?_ ?_
    | with_reducible refine State_status_within ?_ ?_ | exact mask_sub hk rfl | with_reducible refine Within.ite ?_ ?_
    | split | dsimp -proj only)

theorem nsCtlWrite_within {K : Nat} {b s : State} {a2} (hk : K &&& 4611683821014745856 = 4611683821014745856) (h : Within K b s) :
    Within K b (nsCtlWrite s a2) := by
  unfold nsCtlWrite
  repeat' (first
    | with_reducible assumption | with_reducible refine nsSync_within ?_ ?_ | with_reducible refine nsTo_within ?_ ?_
    | with_reducible refine State_writeWord_within ?_ ?_ | with_reducible refine State_status_within ?_ ?_
    | exact mask_sub hk rfl | with_reducible refine Within.ite ?_ ?_ | split | dsimp -proj only
    | with_reducible refine Within.u_ns ?_ ?_)

theorem nsWrite_within {K : Nat} {b s : State} {a2 a3 a4} (hk : K &&& 4611683821014745856 = 4611683821014745856) (h : Within K b s) :
    Within K b (nsWrite s a2 a3 a4) := by
  unfold nsWrite
  repeat' (first
    | with_reducible assumption | with_reducible refine nsCtlWrite_within ?_ ?_
    | with_reducible refine nsCommand_within ?_ ?_ | with_reducible refine State_writeWord_within ?_ ?_
    | with_reducible refine nsSync_within ?_ ?_ | with_reducible refine State_status_within ?_ ?_
    | exact mask_sub hk rfl | with_reducible refine Within.ite ?_ ?_ | split | dsimp -proj only)

theorem fenceStart_within {K : Nat} {b s : State} {a2 a3} (hk : K &&& 20759377680158169602 = 20759377680158169602) (h : Within K b s) :
    Within K b (fenceStart s a2 a3) := by
  unfold fenceStart
  repeat' (first
    | with_reducible assumption | with_reducible refine Within.wr (i := 52) (by simp [Blk_ite]) (by decide) ?_ ?_ ?_
    | with_reducible refine fenceDone_within ?_ ?_ | exact mask_sub hk rfl | with_reducible refine Within.ite ?_ ?_
    | split | dsimp -proj only | with_reducible refine Within.u_br ?_ ?_)

theorem fenceGo_within {K : Nat} {b s : State} {a2 a3} (hk : K &&& 20759377680158169858 = 20759377680158169858) (h : Within K b s) :
    Within K b (fenceGo s a2 a3) := by
  unfold fenceGo
  repeat' (first
    | with_reducible assumption | with_reducible refine fenceStart_within ?_ ?_
    | with_reducible refine State_status_within ?_ ?_ | exact mask_sub hk rfl | with_reducible refine Within.ite ?_ ?_
    | split | dsimp -proj only)

theorem winBr_within {K : Nat} {b s : State} {a2 a3 a4} (hk : K &&& 23058427908682947330 = 23058427908682947330) (h : Within K b s) :
    Within K b (winBr s a2 a3 a4) := by
  unfold winBr
  repeat' (first
    | with_reducible assumption | with_reducible refine gwCommit_within ?_ ?_
    | with_reducible refine fenceGo_within ?_ ?_ | with_reducible refine State_writeWord_within ?_ ?_
    | with_reducible refine State_status_within ?_ ?_ | exact mask_sub hk rfl | with_reducible refine Within.ite ?_ ?_
    | split | dsimp -proj only)

theorem fwdAnswer_within {K : Nat} {b s : State} {a2 a3} (hk : K &&& 20754874076235831810 = 20754874076235831810) (h : Within K b s) :
    Within K b (fwdAnswer s a2 a3) := by
  unfold fwdAnswer
  repeat' (first
    | with_reducible assumption | with_reducible refine sesReply_within ?_ ?_ | exact mask_sub hk rfl
    | with_reducible refine Within.ite ?_ ?_ | split | dsimp -proj only)

theorem fwdFail_within {K : Nat} {b s : State} {a2 a3} (hk : K &&& 20754874076235831810 = 20754874076235831810) (h : Within K b s) :
    Within K b (fwdFail s a2 a3) := by
  unfold fwdFail
  repeat' (first
    | with_reducible assumption | with_reducible refine fwdAnswer_within ?_ ?_ | exact mask_sub hk rfl
    | with_reducible refine Within.ite ?_ ?_ | with_reducible refine Within.foldl (fun _ _ _ => ?_) ?_ | split
    | dsimp -proj only | with_reducible refine Within.u_ses ?_ ?_)

theorem squashCan_within {K : Nat} {b s : State} {a1 a2} (hk : K &&& 20754874067645897218 = 20754874067645897218) (h : Within K b s) :
    Within K b (squashCan a1 a2 s) := by
  unfold squashCan
  repeat' (first
    | with_reducible assumption | with_reducible refine Within.hwWr (i := 51) (by simp [Blk_ite]) (by decide) ?_ ?_ ?_
    | with_reducible refine setCanBuf_within ?_ ?_ | with_reducible refine bufAbort_within ?_ ?_
    | with_reducible refine bufPut_within ?_ ?_ | exact mask_sub hk rfl | with_reducible refine Within.ite ?_ ?_
    | with_reducible refine Within.foldl (fun _ _ _ => ?_) ?_ | split | dsimp -proj only)

theorem squashQueue_within {K : Nat} {b s : State} {a1 a2} (hk : K &&& 20752622267295341058 = 20752622267295341058) (h : Within K b s) :
    Within K b (squashQueue a1 a2 s) := by
  unfold squashQueue
  repeat' (first
    | with_reducible assumption | with_reducible refine furFlush_within ?_ ?_
    | with_reducible refine State_setQueue_within ?_ ?_ | with_reducible refine furSync_within ?_ ?_
    | with_reducible refine furAbort_within ?_ ?_ | exact mask_sub hk rfl | with_reducible refine Within.ite ?_ ?_
    | split | dsimp -proj only)

theorem plotOff_within {K : Nat} {b s : State} {a2} (hk : K &&& 20754029642179844610 = 20754029642179844610) (h : Within K b s) :
    Within K b (plotOff s a2) := by
  unfold plotOff
  repeat' (first
    | with_reducible assumption | with_reducible refine Within.hwWr (i := 48) (by simp [Blk_ite]) (by decide) ?_ ?_ ?_
    | with_reducible refine Within.hwWr (i := 50) (by simp [Blk_ite]) (by decide) ?_ ?_ ?_
    | with_reducible refine dioSetOn_within ?_ ?_ | with_reducible refine lsClearOn_within ?_ ?_
    | with_reducible refine Within.forN (fun _ _ _ _ => ?_) ?_ | exact mask_sub hk rfl
    | with_reducible refine Within.ite ?_ ?_ | split | dsimp -proj only)

theorem plotReset_within {K : Nat} {b s : State} {a2 a3} (hk : K &&& 22120945105685626370 = 22120945105685626370) (h : Within K b s) :
    Within K b (plotReset s a2 a3) := by
  unfold plotReset
  repeat' (first
    | with_reducible assumption | with_reducible refine Within.wr (i := 52) (by simp [Blk_ite]) (by decide) ?_ ?_ ?_
    | with_reducible refine Within.hwWr (i := 41) (by simp [Blk_ite]) (by decide) ?_ ?_ ?_
    | with_reducible refine Within.hwWr (i := 51) (by simp [Blk_ite]) (by decide) ?_ ?_ ?_
    | with_reducible refine plotOff_within ?_ ?_ | with_reducible refine tilWithdraw_within ?_ ?_
    | with_reducible refine powAbandon_within ?_ ?_ | with_reducible refine squashQueue_within ?_ ?_
    | with_reducible refine squashCan_within ?_ ?_ | with_reducible refine Within.forN (fun _ _ _ _ => ?_) ?_
    | with_reducible refine outBusySync_within ?_ ?_ | with_reducible refine fwdFail_within ?_ ?_
    | with_reducible refine jobsEnd_within ?_ ?_ | with_reducible refine jobEnd_within ?_ ?_
    | with_reducible refine State_setPlot_within ?_ ?_ | with_reducible refine plotTo_within ?_ ?_
    | with_reducible refine plotRecord_within ?_ ?_ | exact mask_sub hk rfl | with_reducible refine Within.ite ?_ ?_
    | with_reducible refine Within.foldl (fun _ _ _ => ?_) ?_ | split | dsimp -proj only
    | with_reducible refine Within.u_br ?_ ?_)

theorem plotCommand_within {K : Nat} {b s : State} {a2 a3 a4} (hk : K &&& 22120945105685626626 = 22120945105685626626) (h : Within K b s) :
    Within K b (plotCommand s a2 a3 a4) := by
  unfold plotCommand
  repeat' (first
    | with_reducible assumption | with_reducible refine Within.wr (i := 53) (by simp [Blk_ite]) (by decide) ?_ ?_ ?_
    | with_reducible refine plotThaw_within ?_ ?_ | with_reducible refine freezeStart_within ?_ ?_
    | with_reducible refine plotReset_within ?_ ?_ | with_reducible refine plotTo_within ?_ ?_
    | with_reducible refine State_status_within ?_ ?_ | exact mask_sub hk rfl | with_reducible refine Within.ite ?_ ?_
    | split | dsimp -proj only)

theorem wdogKick_within {K : Nat} {b s : State} {a2 a3 a4} (hk : K &&& 17179869440 = 17179869440) (h : Within K b s) :
    Within K b (wdogKick s a2 a3 a4) := by
  unfold wdogKick
  repeat' (first
    | with_reducible assumption | with_reducible refine State_setPlot_within ?_ ?_
    | with_reducible refine State_status_within ?_ ?_ | exact mask_sub hk rfl | with_reducible refine Within.ite ?_ ?_
    | split | dsimp -proj only)

theorem tablesCommit_within {K : Nat} {b s : State} (hk : K &&& 23058427910294518530 = 23058427910294518530) (h : Within K b s) :
    Within K b (tablesCommit s) := by
  unfold tablesCommit
  repeat' (first
    | with_reducible assumption | with_reducible refine Within.wr (i := 53) (by simp [Blk_ite]) (by decide) ?_ ?_ ?_
    | with_reducible refine claimAll_within ?_ ?_ | with_reducible refine tablesApply_within ?_ ?_
    | with_reducible refine State_status_within ?_ ?_ | exact mask_sub hk rfl | with_reducible refine Within.ite ?_ ?_
    | split | dsimp -proj only)

theorem pcWrite_within {K : Nat} {b s : State} {a2 a3 a4} (hk : K &&& 23058428301946044162 = 23058428301946044162) (h : Within K b s) :
    Within K b (pcWrite s a2 a3 a4) := by
  unfold pcWrite
  repeat' (first
    | with_reducible assumption | with_reducible refine State_writeWord_within ?_ ?_
    | with_reducible refine tablesCommit_within ?_ ?_ | with_reducible refine wdogKick_within ?_ ?_
    | with_reducible refine plotCommand_within ?_ ?_ | with_reducible refine State_status_within ?_ ?_
    | exact mask_sub hk rfl | with_reducible refine Within.ite ?_ ?_ | split | dsimp -proj only)

theorem debugClose_within {K : Nat} {b s : State} {a2} (hk : K &&& 27670114461296819135 = 27670114461296819135) (h : Within K b s) :
    Within K b (debugClose s a2) := by
  unfold debugClose
  repeat' (first
    | with_reducible assumption | with_reducible refine warmStart_within ?_ ?_
    | with_reducible refine State_status_within ?_ ?_ | with_reducible refine debugSeal_within ?_ ?_
    | exact mask_sub hk rfl | with_reducible refine Within.ite ?_ ?_ | split | dsimp -proj only)

theorem ctrIncrement_within {K : Nat} {b s : State} {a2 a3} (hk : K &&& 2323857442082914560 = 2323857442082914560) (h : Within K b s) :
    Within K b (ctrIncrement s a2 a3) := by
  unfold ctrIncrement
  repeat' (first
    | with_reducible assumption | with_reducible refine ctrSet_within ?_ ?_
    | with_reducible refine State_status_within ?_ ?_ | exact mask_sub hk rfl | with_reducible refine Within.ite ?_ ?_
    | split | dsimp -proj only)

theorem winClo_within {K : Nat} {b s : State} {a2 a3 a4 a5} (hk : K &&& 27670114461296819135 = 27670114461296819135) (h : Within K b s) :
    Within K b (winClo s a2 a3 a4 a5) := by
  unfold winClo
  repeat' (first
    | with_reducible assumption | with_reducible refine State_writeWord_within ?_ ?_
    | with_reducible refine ctrIncrement_within ?_ ?_ | with_reducible refine debugClose_within ?_ ?_
    | with_reducible refine State_status_within ?_ ?_ | exact mask_sub hk rfl | with_reducible refine Within.ite ?_ ?_
    | split | dsimp -proj only)

theorem modeReqWrite_within {K : Nat} {b s : State} {a2 a3 a4} (hk : K &&& 27670114461296819135 = 27670114461296819135) (h : Within K b s) :
    Within K b (modeReqWrite s a2 a3 a4) := by
  unfold modeReqWrite
  repeat' (first
    | with_reducible assumption
    | with_reducible refine Within.hostWr (i := 55) (by simp [Blk_ite]) (by decide) ?_ ?_ ?_
    | with_reducible refine modeRequest_within ?_ ?_ | with_reducible refine State_status_within ?_ ?_
    | exact mask_sub hk rfl | with_reducible refine Within.ite ?_ ?_ | split | dsimp -proj only)

theorem winGirth_within {K : Nat} {b s : State} {a2 a3 a4 a5} (hk : K &&& 27670114461296819135 = 27670114461296819135) (h : Within K b s) :
    Within K b (winGirth s a2 a3 a4 a5) := by
  unfold winGirth
  repeat' (first
    | with_reducible assumption | with_reducible refine State_writeWord_within ?_ ?_
    | with_reducible refine nsSync_within ?_ ?_ | with_reducible refine energyClear_within ?_ ?_
    | with_reducible refine blkRst_within ?_ ?_ | with_reducible refine State_status_within ?_ ?_
    | with_reducible refine modeReqWrite_within ?_ ?_ | exact mask_sub hk rfl | with_reducible refine Within.ite ?_ ?_
    | split | dsimp -proj only)

theorem ethWrite_within {K : Nat} {b s : State} {a2 a3 a4} (hk : K &&& 4611683819404132608 = 4611683819404132608) (h : Within K b s) :
    Within K b (ethWrite s a2 a3 a4) := by
  unfold ethWrite
  repeat' (first
    | with_reducible assumption | with_reducible refine State_writeWord_within ?_ ?_
    | with_reducible refine State_status_within ?_ ?_ | exact mask_sub hk rfl | with_reducible refine Within.ite ?_ ?_
    | split | dsimp -proj only)

theorem winXl_within {K : Nat} {b s : State} {a2 a3 a4} (hk : K &&& 23058428303019784963 = 23058428303019784963) (h : Within K b s) :
    Within K b (winXl s a2 a3 a4) := by
  unfold winXl
  repeat' (first
    | with_reducible assumption | with_reducible refine xlLoss_within ?_ ?_
    | with_reducible refine State_writeWord_within ?_ ?_ | with_reducible refine State_status_within ?_ ?_
    | exact mask_sub hk rfl | with_reducible refine Within.ite ?_ ?_ | split | dsimp -proj only)

theorem grfWrite_within {K : Nat} {b s : State} {a2 a3 a4} (hk : K &&& 4611683819404132608 = 4611683819404132608) (h : Within K b s) :
    Within K b (grfWrite s a2 a3 a4) := by
  unfold grfWrite
  repeat' (first
    | with_reducible assumption | with_reducible refine State_writeWord_within ?_ ?_
    | with_reducible refine State_status_within ?_ ?_ | exact mask_sub hk rfl | with_reducible refine Within.ite ?_ ?_
    | split | dsimp -proj only)

theorem regWrite_within {K : Nat} {b s : State} {a2 a3 a4 a5} (hk : K &&& 27670114461296885695 = 27670114461296885695) (h : Within K b s) :
    Within K b (regWrite s a2 a3 a4 a5) := by
  unfold regWrite
  repeat' (first
    | with_reducible assumption | with_reducible refine grfWrite_within ?_ ?_
    | with_reducible refine winXl_within ?_ ?_ | with_reducible refine ethWrite_within ?_ ?_
    | with_reducible refine winGirth_within ?_ ?_ | with_reducible refine winClo_within ?_ ?_
    | with_reducible refine pcWrite_within ?_ ?_ | with_reducible refine winBr_within ?_ ?_
    | with_reducible refine nsWrite_within ?_ ?_ | with_reducible refine canWrite_within ?_ ?_
    | with_reducible refine winDio_within ?_ ?_ | with_reducible refine strWrite_within ?_ ?_
    | with_reducible refine strRelease_within ?_ ?_ | with_reducible refine winLs_within ?_ ?_
    | with_reducible refine pomWrite_within ?_ ?_ | with_reducible refine pomMailbox_within ?_ ?_
    | with_reducible refine tilWrite_within ?_ ?_ | with_reducible refine winFur_within ?_ ?_
    | with_reducible refine msrWrite_within ?_ ?_ | with_reducible refine latWrite_within ?_ ?_
    | with_reducible refine ptWrite_within ?_ ?_ | with_reducible refine winTrl_within ?_ ?_
    | with_reducible refine State_status_within ?_ ?_ | exact mask_sub hk rfl | with_reducible refine Within.ite ?_ ?_
    | split | dsimp -proj only)

theorem memAccess_within {K : Nat} {b s : State} {a2 a3 a4 a5} (hk : K &&& 258 = 258) (h : Within K b s) :
    Within K b (memAccess s a2 a3 a4 a5) := by
  unfold memAccess
  repeat' (first
    | with_reducible assumption | with_reducible refine State_putBytes_within ?_ ?_
    | with_reducible refine State_answer_within ?_ ?_ | with_reducible refine State_status_within ?_ ?_
    | exact mask_sub hk rfl | with_reducible refine Within.ite ?_ ?_ | split | dsimp -proj only)

theorem sramRead_within {K : Nat} {b s : State} {a2 a3 a4} (hk : K &&& 20752622267295342466 = 20752622267295342466) (h : Within K b s) :
    Within K b (sramRead s a2 a3 a4) := by
  unfold sramRead
  repeat' (first
    | with_reducible assumption | with_reducible refine State_answer_within ?_ ?_
    | with_reducible refine furParity_within ?_ ?_ | with_reducible refine Within.forN (fun _ _ _ _ => ?_) ?_
    | exact mask_sub hk rfl | with_reducible refine Within.ite ?_ ?_ | split | dsimp -proj only)

theorem plotFault_within {K : Nat} {b s : State} {a2 a3} (hk : K &&& 22120945105685626370 = 22120945105685626370) (h : Within K b s) :
    Within K b (plotFault s a2 a3) := by
  unfold plotFault
  repeat' (first
    | with_reducible assumption | with_reducible refine Within.wr (i := 53) (by simp [Blk_ite]) (by decide) ?_ ?_ ?_
    | with_reducible refine State_setPlot_within ?_ ?_ | with_reducible refine plotReset_within ?_ ?_
    | with_reducible refine plotRecord_within ?_ ?_ | exact mask_sub hk rfl | with_reducible refine Within.ite ?_ ?_
    | split | dsimp -proj only)

theorem plotViolation_within {K : Nat} {b s : State} {a2 a3} (hk : K &&& 22120945105685626626 = 22120945105685626626) (h : Within K b s) :
    Within K b (plotViolation s a2 a3) := by
  unfold plotViolation
  repeat' (first
    | with_reducible assumption | with_reducible refine Within.wr (i := 53) (by simp [Blk_ite]) (by decide) ?_ ?_ ?_
    | with_reducible refine Within.incSat (i := 53) (by simp [Blk_ite]) (by decide) ?_ ?_ ?_
    | with_reducible refine State_status_within ?_ ?_ | with_reducible refine plotFault_within ?_ ?_
    | with_reducible refine State_setPlot_within ?_ ?_ | exact mask_sub hk rfl | with_reducible refine Within.ite ?_ ?_
    | split | dsimp -proj only)

theorem regionCheck_within {K : Nat} {b s t1 : State} {a2 a3 a4 a5 a6} (hk : K &&& 22120945105685626626 = 22120945105685626626) (h : Within K b s) (ht1 : Within K b t1) :
    Within K b (regionCheck s a2 a3 a4 a5 a6 t1) := by
  unfold regionCheck
  repeat' (first
    | with_reducible assumption | with_reducible refine plotViolation_within ?_ ?_
    | with_reducible refine State_status_within ?_ ?_ | exact mask_sub hk rfl | with_reducible refine Within.ite ?_ ?_
    | split | dsimp -proj only)

theorem regionAccess_within {K : Nat} {b s : State} {a2 a3 a4 a5 a6 a7} (hk : K &&& 22120945105685626626 = 22120945105685626626) (h : Within K b s) :
    Within K b (regionAccess s a2 a3 a4 a5 a6 a7) := by
  unfold regionAccess
  repeat' (first
    | with_reducible assumption | with_reducible refine memAccess_within ?_ ?_
    | with_reducible refine regionCheck_within ?_ ?_ ?_ | exact mask_sub hk rfl
    | with_reducible refine Within.ite ?_ ?_ | split | dsimp -proj only)

theorem localAccess_within {K : Nat} {b s : State} {a2 a3 a4 a5 a6 a7 a8} (hk : K &&& 27670114461296885695 = 27670114461296885695) (h : Within K b s) :
    Within K b (localAccess s a2 a3 a4 a5 a6 a7 a8) := by
  unfold localAccess
  repeat' (first
    | with_reducible assumption | with_reducible refine State_took_within ?_ ?_
    | with_reducible refine State_answer_within ?_ ?_ | with_reducible refine regionCheck_within ?_ ?_ ?_
    | with_reducible refine regionAccess_within ?_ ?_ | with_reducible refine sramRead_within ?_ ?_
    | with_reducible refine memAccess_within ?_ ?_ | with_reducible refine regWrite_within ?_ ?_
    | with_reducible refine regRead_within ?_ ?_ | with_reducible refine State_status_within ?_ ?_
    | exact mask_sub hk rfl | with_reducible refine Within.ite ?_ ?_ | split | dsimp -proj only)

theorem brFailNow_within {K : Nat} {b s : State} {a2 a3 a4} (hk : K &&& 20757125871217678850 = 20757125871217678850) (h : Within K b s) :
    Within K b (brFailNow s a2 a3 a4) := by
  unfold brFailNow
  repeat' (first
    | with_reducible assumption | with_reducible refine brRecord_within ?_ ?_
    | with_reducible refine brNote_within ?_ ?_ | exact mask_sub hk rfl | with_reducible refine Within.ite ?_ ?_
    | split | dsimp -proj only | with_reducible refine Within.u_br ?_ ?_)

theorem accessEnd_within {K : Nat} {b s : State} {a2 a3 a4} (hk : K &&& 20757125871217679106 = 20757125871217679106) (h : Within K b s) :
    Within K b (accessEnd s a2 a3 a4) := by
  unfold accessEnd
  repeat' (first
    | with_reducible assumption | with_reducible refine brFailNow_within ?_ ?_
    | with_reducible refine State_status_within ?_ ?_ | with_reducible refine brLast_within ?_ ?_
    | exact mask_sub hk rfl | with_reducible refine Within.ite ?_ ?_ | split | dsimp -proj only)

theorem bridle_within {K : Nat} {b s : State} {a2 a3 a4 a5 a6 a7 a8} (hk : K &&& 27670114461296885695 = 27670114461296885695) (h : Within K b s) :
    Within K b (bridle s a2 a3 a4 a5 a6 a7 a8) := by
  unfold bridle
  repeat' (first
    | with_reducible assumption | with_reducible refine accessEnd_within ?_ ?_
    | with_reducible refine localAccess_within ?_ ?_ | with_reducible refine xlAccess_within ?_ ?_
    | exact mask_sub hk rfl | with_reducible refine Within.ite ?_ ?_ | split | dsimp -proj only)

theorem partnerTake_within {K : Nat} {b s : State} {a2} (hk : K &&& 2450239689446154240 = 2450239689446154240) (h : Within K b s) :
    Within K b (partnerTake s a2) := by
  unfold partnerTake
  repeat' (first
    | with_reducible assumption | with_reducible refine Within.wr (i := 57) (by simp [Blk_ite]) (by decide) ?_ ?_ ?_
    | with_reducible refine Within.wrB (i := 48) (by simp [Blk_ite]) (by decide) ?_ ?_ ?_
    | with_reducible refine State_setPlot_within ?_ ?_ | with_reducible refine Within.forN (fun _ _ _ _ => ?_) ?_
    | exact mask_sub hk rfl | with_reducible refine Within.ite ?_ ?_ | split | dsimp -proj only
    | with_reducible refine Within.u_girth_partner ?_ ?_)

theorem unpair_within {K : Nat} {b s : State} (hk : K &&& 20752771800910282242 = 20752771800910282242) (h : Within K b s) :
    Within K b (unpair s) := by
  unfold unpair
  repeat' (first
    | with_reducible assumption | with_reducible refine Within.wr (i := 43) (by simp [Blk_ite]) (by decide) ?_ ?_ ?_
    | with_reducible refine Within.wr (i := 47) (by simp [Blk_ite]) (by decide) ?_ ?_ ?_
    | with_reducible refine latTrig_within ?_ ?_ | with_reducible refine State_setRing_within ?_ ?_
    | with_reducible refine Within.forN (fun _ _ _ _ => ?_) ?_ | with_reducible refine State_hwFault_within ?_ ?_
    | exact mask_sub hk rfl | with_reducible refine Within.ite ?_ ?_ | split | dsimp -proj only
    | with_reducible refine Within.u_girth ?_ ?_)

theorem partnerGone_within {K : Nat} {b s : State} {a2} (hk : K &&& 22097228232653208066 = 22097228232653208066) (h : Within K b s) :
    Within K b (partnerGone s a2) := by
  unfold partnerGone
  repeat' (first
    | with_reducible assumption | with_reducible refine Within.wr (i := 57) (by simp [Blk_ite]) (by decide) ?_ ?_ ?_
    | with_reducible refine subSync_within ?_ ?_ | with_reducible refine spanMatchSync_within ?_ ?_
    | with_reducible refine nsSync_within ?_ ?_ | with_reducible refine lsAbandon_within ?_ ?_ | exact mask_sub hk rfl
    | with_reducible refine Within.ite ?_ ?_ | split | dsimp -proj only | with_reducible refine Within.u_partner ?_ ?_
    | with_reducible refine Within.u_girth ?_ ?_)

theorem takeDio_within {K : Nat} {b s : State} {a1} (hk : K &&& 2307531859073966080 = 2307531859073966080) (h : Within K b s) :
    Within K b (takeDio a1 s) := by
  unfold takeDio
  repeat' (first
    | with_reducible assumption | with_reducible refine Within.hwWr (i := 50) (by simp [Blk_ite]) (by decide) ?_ ?_ ?_
    | with_reducible refine Within.clrBit (i := 49) (by simp [Blk_ite]) (by decide) ?_ ?_ ?_ | exact mask_sub hk rfl
    | with_reducible refine Within.ite ?_ ?_ | split | dsimp -proj only | with_reducible refine Within.u_girth ?_ ?_)

theorem takeLs_within {K : Nat} {b s : State} {a1} (hk : K &&& 2306687434143834112 = 2306687434143834112) (h : Within K b s) :
    Within K b (takeLs a1 s) := by
  unfold takeLs
  repeat' (first
    | with_reducible assumption | with_reducible refine Within.hwWr (i := 48) (by simp [Blk_ite]) (by decide) ?_ ?_ ?_
    | with_reducible refine Within.clrBit (i := 49) (by simp [Blk_ite]) (by decide) ?_ ?_ ?_ | exact mask_sub hk rfl
    | with_reducible refine Within.ite ?_ ?_ | split | dsimp -proj only | with_reducible refine Within.u_girth ?_ ?_)

theorem imgQueue_within {K : Nat} {b s : State} {a2 a3} (hk : K &&& 20752622267295341058 = 20752622267295341058) (h : Within K b s) :
    Within K b (imgQueue s a2 a3) := by
  unfold imgQueue
  repeat' (first
    | with_reducible assumption | with_reducible refine State_setQueue_within ?_ ?_
    | with_reducible refine furSync_within ?_ ?_ | with_reducible refine furPut_within ?_ ?_ | exact mask_sub hk rfl
    | with_reducible refine Within.ite ?_ ?_ | with_reducible refine Within.foldl (fun _ _ _ => ?_) ?_ | split
    | dsimp -proj only)

theorem sectionApply_within {K : Nat} {b s : State} {a1 a3} (hk : K &&& 23058427893113690626 = 23058427893113690626) (h : Within K b s) :
    Within K b (sectionApply a1 s a3) := by
  unfold sectionApply
  repeat' (first
    | with_reducible assumption | with_reducible refine rawWord_within ?_ ?_
    | with_reducible refine imgQueue_within ?_ ?_ | with_reducible refine State_putBytes_within ?_ ?_
    | exact mask_sub hk rfl | with_reducible refine Within.ite ?_ ?_
    | with_reducible refine Within.foldl (fun _ _ _ => ?_) ?_ | split | dsimp -proj only)

theorem restoreApply_within {K : Nat} {b s : State} {a2} (hk : K &&& 23058427910835583490 = 23058427910835583490) (h : Within K b s) :
    Within K b (restoreApply s a2) := by
  unfold restoreApply
  repeat' (first
    | with_reducible assumption | with_reducible refine Within.wr (i := 49) (by simp [Blk_ite]) (by decide) ?_ ?_ ?_
    | with_reducible refine plotTo_within ?_ ?_ | with_reducible refine plotCatch_within ?_ ?_
    | with_reducible refine subSync_within ?_ ?_ | with_reducible refine followAll_within ?_ ?_
    | with_reducible refine canSyncAll_within ?_ ?_ | with_reducible refine plotRecord_within ?_ ?_
    | with_reducible refine sectionApply_within ?_ ?_ | exact mask_sub hk rfl | with_reducible refine Within.ite ?_ ?_
    | with_reducible refine Within.foldl (fun _ _ _ => ?_) ?_ | split | dsimp -proj only
    | with_reducible refine Within.u_girth ?_ ?_)

theorem plotTakeover_within {K : Nat} {b s : State} {a1} (hk : K &&& 23058427910835583490 = 23058427910835583490) (h : Within K b s) :
    Within K b (plotTakeover a1 s) := by
  unfold plotTakeover
  repeat' (first
    | with_reducible assumption | with_reducible refine restoreApply_within ?_ ?_
    | with_reducible refine plotTo_within ?_ ?_ | exact mask_sub hk rfl | with_reducible refine Within.ite ?_ ?_
    | split | dsimp -proj only)

theorem latTakeover_within {K : Nat} {b s : State} (hk : K &&& 3494802106966081536 = 3494802106966081536) (h : Within K b s) :
    Within K b (latTakeover s) := by
  unfold latTakeover
  repeat' (first
    | with_reducible assumption | with_reducible refine Within.wr (i := 43) (by simp [Blk_ite]) (by decide) ?_ ?_ ?_
    | with_reducible refine State_setRing_within ?_ ?_ | with_reducible refine Within.forN (fun _ _ _ _ => ?_) ?_
    | with_reducible refine subSync_within ?_ ?_ | exact mask_sub hk rfl | with_reducible refine Within.ite ?_ ?_
    | split | dsimp -proj only)

theorem takeover_within {K : Nat} {b s : State} (hk : K &&& 23058427911942879747 = 23058427911942879747) (h : Within K b s) :
    Within K b (takeover s) := by
  unfold takeover
  repeat' (first
    | with_reducible assumption | with_reducible refine followAll_within ?_ ?_
    | with_reducible refine latTakeover_within ?_ ?_ | with_reducible refine plotTakeover_within ?_ ?_
    | with_reducible refine takeLs_within ?_ ?_ | with_reducible refine takeDio_within ?_ ?_
    | with_reducible refine Within.forN (fun _ _ _ _ => ?_) ?_ | with_reducible refine handoffRefuse_within ?_ ?_
    | exact mask_sub hk rfl | with_reducible refine Within.ite ?_ ?_ | split | dsimp -proj only)

theorem refCycle_within {K : Nat} {b s : State} {a2} (hk : K &&& 4194432 = 4194432) (h : Within K b s) :
    Within K b (refCycle s a2) := by
  unfold refCycle
  repeat' (first
    | with_reducible assumption | with_reducible refine State_took_within ?_ ?_ | exact mask_sub hk rfl
    | with_reducible refine Within.ite ?_ ?_ | split | dsimp -proj only | with_reducible refine Within.u_trl ?_ ?_)

theorem trlFollow_within {K : Nat} {b s : State} {a2 a3} (hk : K &&& 2305845208241143808 = 2305845208241143808) (h : Within K b s) :
    Within K b (trlFollow s a2 a3) := by
  unfold trlFollow
  repeat' (first
    | with_reducible assumption | with_reducible refine Within.wr (i := 41) (by simp [Blk_ite]) (by decide) ?_ ?_ ?_
    | with_reducible refine setInc_within ?_ ?_ | with_reducible refine slewScale_within ?_ ?_ | exact mask_sub hk rfl
    | with_reducible refine Within.ite ?_ ?_ | split | dsimp -proj only | with_reducible refine Within.u_trl ?_ ?_)

theorem trlMeasured_within {K : Nat} {b s : State} {a2} (hk : K &&& 2305845208241143936 = 2305845208241143936) (h : Within K b s) :
    Within K b (trlMeasured s a2) := by
  unfold trlMeasured
  repeat' (first
    | with_reducible assumption | with_reducible refine Within.wr (i := 41) (by simp [Blk_ite]) (by decide) ?_ ?_ ?_
    | with_reducible refine Within.wrB (i := 41) (by simp [Blk_ite]) (by decide) ?_ ?_ ?_
    | with_reducible refine trlFollow_within ?_ ?_ | with_reducible refine refCycle_within ?_ ?_
    | exact mask_sub hk rfl | with_reducible refine Within.ite ?_ ?_ | split | dsimp -proj only)

theorem cycHist_within {K : Nat} {b s : State} (hk : K &&& 2305845208236949504 = 2305845208236949504) (h : Within K b s) :
    Within K b (cycHist s) := by
  unfold cycHist
  repeat' (first
    | with_reducible assumption | with_reducible refine Within.wr (i := 41) (by simp [Blk_ite]) (by decide) ?_ ?_ ?_
    | exact mask_sub hk rfl | with_reducible refine Within.ite ?_ ?_ | split | dsimp -proj only)

theorem netTrack_within {K : Nat} {b s : State} {a2} (hk : K &&& 2305845208241143808 = 2305845208241143808) (h : Within K b s) :
    Within K b (netTrack s a2) := by
  unfold netTrack
  repeat' (first
    | with_reducible assumption | with_reducible refine Within.wrI (i := 41) (by simp [Blk_ite]) (by decide) ?_ ?_ ?_
    | with_reducible refine trlFollow_within ?_ ?_ | exact mask_sub hk rfl | with_reducible refine Within.ite ?_ ?_
    | split | dsimp -proj only)

theorem netKeep_within {K : Nat} {b s : State} {a2} (hk : K &&& 4194304 = 4194304) (h : Within K b s) :
    Within K b (netKeep s a2) := by
  unfold netKeep
  repeat' (first
    | with_reducible assumption | exact mask_sub hk rfl | with_reducible refine Within.ite ?_ ?_ | split
    | dsimp -proj only | with_reducible refine Within.u_trl ?_ ?_)

theorem hostRow_within {K : Nat} {b s t1 : State} {a2 a3 a4} (hk : K &&& 20757125871217679106 = 20757125871217679106) (h : Within K b s) (ht1 : Within K b t1) :
    Within K b (hostRow s a2 a3 a4 t1) := by
  unfold hostRow
  repeat' (first
    | with_reducible assumption | with_reducible refine accessEnd_within ?_ ?_
    | with_reducible refine State_status_within ?_ ?_ | exact mask_sub hk rfl | with_reducible refine Within.ite ?_ ?_
    | split | dsimp -proj only)

theorem hostWrite_within {K : Nat} {b s t1 : State} {a2 a3} (hk : K &&& 20757125871217679106 = 20757125871217679106) (h : Within K b s) (ht1 : Within K b t1) :
    Within K b (hostWrite s a2 a3 t1) := by
  unfold hostWrite
  repeat' (first
    | with_reducible assumption | with_reducible refine hostRow_within ?_ ?_ ?_ | exact mask_sub hk rfl
    | with_reducible refine Within.ite ?_ ?_ | split | dsimp -proj only)

theorem slotFired_within {K : Nat} {b s : State} {a2 a3} (hk : K &&& 2305845208241143808 = 2305845208241143808) (h : Within K b s) :
    Within K b (slotFired s a2 a3) := by
  unfold slotFired
  repeat' (first
    | with_reducible assumption
    | with_reducible refine Within.incWrap (i := 41) (by simp [Blk_ite]) (by decide) ?_ ?_ ?_
    | with_reducible refine Within.wr (i := 41) (by simp [Blk_ite]) (by decide) ?_ ?_ ?_
    | with_reducible refine Within.hwWr (i := 41) (by simp [Blk_ite]) (by decide) ?_ ?_ ?_ | exact mask_sub hk rfl
    | with_reducible refine Within.ite ?_ ?_ | split | dsimp -proj only | with_reducible refine Within.u_trl ?_ ?_)

theorem busLate_within {K : Nat} {b s : State} {a2} (hk : K &&& 2305845208236949504 = 2305845208236949504) (h : Within K b s) :
    Within K b (busLate s a2) := by
  unfold busLate
  repeat' (first
    | with_reducible assumption
    | with_reducible refine Within.incSat (i := 41) (by simp [Blk_ite]) (by decide) ?_ ?_ ?_
    | with_reducible refine Within.wr (i := 41) (by simp [Blk_ite]) (by decide) ?_ ?_ ?_ | exact mask_sub hk rfl
    | with_reducible refine Within.ite ?_ ?_ | with_reducible refine Within.foldl (fun _ _ _ => ?_) ?_ | split
    | dsimp -proj only)

theorem slotSuperseded_within {K : Nat} {b s : State} {a2} (hk : K &&& 20752624466318596610 = 20752624466318596610) (h : Within K b s) :
    Within K b (slotSuperseded s a2) := by
  unfold slotSuperseded
  repeat' (first
    | with_reducible assumption | with_reducible refine Within.wr (i := 41) (by simp [Blk_ite]) (by decide) ?_ ?_ ?_
    | with_reducible refine slotRecord_within ?_ ?_ | exact mask_sub hk rfl | with_reducible refine Within.ite ?_ ?_
    | split | dsimp -proj only)

theorem issue_within {K : Nat} {b s : State} {a2} (hk : K &&& 25364310484750178818 = 25364310484750178818) (h : Within K b s) :
    Within K b (issue s a2) := by
  unfold issue
  repeat' (first
    | with_reducible assumption | with_reducible refine slotSuperseded_within ?_ ?_
    | with_reducible refine busLate_within ?_ ?_ | exact mask_sub hk rfl | with_reducible refine Within.ite ?_ ?_
    | with_reducible refine Within.foldl (fun _ _ _ => ?_) ?_ | split | dsimp -proj only
    | with_reducible refine Within.u_trl ?_ ?_ | with_reducible refine Within.u_arb ?_ ?_)

theorem slotFire_within {K : Nat} {b s : State} {a2} (hk : K &&& 25364310484750178818 = 25364310484750178818) (h : Within K b s) :
    Within K b (slotFire s a2) := by
  unfold slotFire
  repeat' (first
    | with_reducible assumption | with_reducible refine Within.wr (i := 41) (by simp [Blk_ite]) (by decide) ?_ ?_ ?_
    | with_reducible refine Within.incSat (i := 41) (by simp [Blk_ite]) (by decide) ?_ ?_ ?_
    | with_reducible refine issue_within ?_ ?_ | with_reducible refine slotRecord_within ?_ ?_
    | with_reducible refine slotFired_within ?_ ?_ | exact mask_sub hk rfl | with_reducible refine Within.ite ?_ ?_
    | split | dsimp -proj only | with_reducible refine Within.u_trl ?_ ?_)

theorem takeIssued_within {K : Nat} {b s : State} {a2 a3 a4} (hk : K &&& 4194304 = 4194304) (h : Within K b s) {r t} (e : takeIssued s a2 a3 a4 = some (r, t)) :
    Within K b t := by
  unfold takeIssued at e
  dsimp -proj only at e
  repeat' (split at e)
  all_goals cases e
  all_goals repeat' (first
    | with_reducible assumption | exact mask_sub hk rfl | with_reducible refine Within.ite ?_ ?_
    | with_reducible refine WithinP.ite ?_ ?_ | split | dsimp -proj only | with_reducible refine Within.u_trl ?_ ?_)

theorem slotEffect_within {K : Nat} {b s : State} {a2 a3} (hk : K &&& 20752624466318596610 = 20752624466318596610) (h : Within K b s) :
    Within K b (slotEffect s a2 a3) := by
  unfold slotEffect
  repeat' (first
    | with_reducible assumption | with_reducible refine Within.wr (i := 41) (by simp [Blk_ite]) (by decide) ?_ ?_ ?_
    | with_reducible refine slotRecord_within ?_ ?_ | exact mask_sub hk rfl | with_reducible refine Within.ite ?_ ?_
    | split | dsimp -proj only)

theorem act_within {K : Nat} {b s : State} {a2 a3 a4 a5} (hk : K &&& 20752624466322790914 = 20752624466322790914)
    (h4 : ∀ t x, Within K b t → Within K b (a5 t x)) (h : Within K b s) : Within K b (act s a2 a3 a4 a5) := by
  unfold act
  split
  · exact h
  · rename_i e
    exact slotEffect_within (mask_sub hk rfl) (h4 _ _ (takeIssued_within (mask_sub hk rfl) h e))

theorem actNote_within {K : Nat} {b s : State} {a2 a3} (hk : K &&& 4194304 = 4194304) (h : Within K b s) :
    Within K b (actNote s a2 a3) := by
  unfold actNote
  repeat' (first
    | with_reducible assumption | exact mask_sub hk rfl | with_reducible refine Within.ite ?_ ?_ | split
    | dsimp -proj only | with_reducible refine Within.u_trl ?_ ?_)

theorem lsAct_within {K : Nat} {b s : State} {a2 a3} (hk : K &&& 20752903742276672002 = 20752903742276672002) (h : Within K b s) :
    Within K b (lsAct s a2 a3) := by
  unfold lsAct
  repeat' (first
    | with_reducible assumption | with_reducible refine actNote_within ?_ ?_
    | with_reducible refine lsSetOn_within ?_ ?_ | with_reducible refine State_emit_within ?_ ?_
    | exact mask_sub hk rfl | with_reducible refine Within.ite ?_ ?_ | split | dsimp -proj only)

theorem dioAct_within {K : Nat} {b s : State} {a2 a3} (hk : K &&& 20753748167206902274 = 20753748167206902274) (h : Within K b s) :
    Within K b (dioAct s a2 a3) := by
  unfold dioAct
  repeat' (first
    | with_reducible assumption | with_reducible refine Within.wrB (i := 50) (by simp [Blk_ite]) (by decide) ?_ ?_ ?_
    | with_reducible refine dioFollow_within ?_ ?_ | with_reducible refine State_setDio_within ?_ ?_
    | with_reducible refine dioUnlatch_within ?_ ?_ | with_reducible refine actNote_within ?_ ?_
    | with_reducible refine State_emit_within ?_ ?_ | exact mask_sub hk rfl | with_reducible refine Within.ite ?_ ?_
    | split | dsimp -proj only)

theorem bufMiss_within {K : Nat} {b s : State} {a2 a3} (hk : K &&& 20754874067645897218 = 20754874067645897218) (h : Within K b s) :
    Within K b (bufMiss s a2 a3) := by
  unfold bufMiss
  repeat' (first
    | with_reducible assumption | with_reducible refine Within.wr (i := 51) (by simp [Blk_ite]) (by decide) ?_ ?_ ?_
    | with_reducible refine bufAbort_within ?_ ?_ | exact mask_sub hk rfl | with_reducible refine Within.ite ?_ ?_
    | split | dsimp -proj only)

theorem bufLaunch_within {K : Nat} {b s : State} {a2 a3} (hk : K &&& 20754874067645897218 = 20754874067645897218) (h : Within K b s) :
    Within K b (bufLaunch s a2 a3) := by
  unfold bufLaunch
  repeat' (first
    | with_reducible assumption | with_reducible refine Within.wr (i := 51) (by simp [Blk_ite]) (by decide) ?_ ?_ ?_
    | with_reducible refine setCanBuf_within ?_ ?_ | with_reducible refine bufPut_within ?_ ?_
    | with_reducible refine bufMiss_within ?_ ?_ | exact mask_sub hk rfl | with_reducible refine Within.ite ?_ ?_
    | split | dsimp -proj only)

theorem powStart_within {K : Nat} {b s : State} {a2 a3} (hk : K &&& 20752624466322791938 = 20752624466322791938) (h : Within K b s) :
    Within K b (powStart s a2 a3) := by
  unfold powStart
  repeat' (first
    | with_reducible assumption | with_reducible refine powAbandon_within ?_ ?_ | exact mask_sub hk rfl
    | with_reducible refine Within.ite ?_ ?_ | split | dsimp -proj only | with_reducible refine Within.u_trl ?_ ?_)

theorem powAct_within {K : Nat} {b s : State} {a2 a3 a4} (hk : K &&& 20752905941299928578 = 20752905941299928578) (h : Within K b s) :
    Within K b (powAct s a2 a3 a4) := by
  unfold powAct
  repeat' (first
    | with_reducible assumption | with_reducible refine powStart_within ?_ ?_
    | with_reducible refine lsAct_within ?_ ?_ | with_reducible refine State_emit_within ?_ ?_ | exact mask_sub hk rfl
    | with_reducible refine Within.ite ?_ ?_ | split | dsimp -proj only)

theorem latNote_within {K : Nat} {b s : State} {a2 a3} (hk : K &&& 33554432 = 33554432) (h : Within K b s) :
    Within K b (latNote s a2 a3) := by
  unfold latNote
  repeat' (first
    | with_reducible assumption | with_reducible refine State_setRing_within ?_ ?_ | exact mask_sub hk rfl
    | with_reducible refine Within.ite ?_ ?_ | split | dsimp -proj only)

theorem putMark_within {K : Nat} {b s : State} {a2 a3 a4} (hk : K &&& 2 = 2) (h : Within K b s) :
    Within K b (putMark s a2 a3 a4) := by
  unfold putMark
  repeat' (first
    | with_reducible assumption | with_reducible refine State_putByte_within ?_ ?_ | exact mask_sub hk rfl
    | with_reducible refine Within.ite ?_ ?_ | split | dsimp -proj only)

theorem capCell_within {K : Nat} {b s : State} {a2 a3 a4} (hk : K &&& 2 = 2) (h : Within K b s) :
    Within K b (capCell s a2 a3 a4) := by
  unfold capCell
  repeat' (first
    | with_reducible assumption | with_reducible refine State_putBytes_within ?_ ?_
    | with_reducible refine putMark_within ?_ ?_ | exact mask_sub hk rfl | with_reducible refine Within.ite ?_ ?_
    | split | dsimp -proj only)

theorem latCell_within {K : Nat} {b s : State} {a2 a3 a4} (hk : K &&& 2 = 2) (h : Within K b s) :
    Within K b (latCell s a2 a3 a4) := by
  unfold latCell
  repeat' (first
    | with_reducible assumption | with_reducible refine State_putBytes_within ?_ ?_
    | with_reducible refine putMark_within ?_ ?_ | with_reducible refine capCell_within ?_ ?_ | exact mask_sub hk rfl
    | with_reducible refine Within.ite ?_ ?_ | split | dsimp -proj only)

theorem capTemp_within {K : Nat} {b s : State} {a2 a3 a4} (hk : K &&& 2 = 2) (h : Within K b s) :
    Within K b (capTemp s a2 a3 a4) := by
  unfold capTemp
  repeat' (first
    | with_reducible assumption | with_reducible refine State_putBytes_within ?_ ?_
    | with_reducible refine putMark_within ?_ ?_ | exact mask_sub hk rfl | with_reducible refine Within.ite ?_ ?_
    | split | dsimp -proj only)

theorem latTemp_within {K : Nat} {b s : State} {a2 a3 a4 a5} (hk : K &&& 2 = 2) (h : Within K b s) :
    Within K b (latTemp s a2 a3 a4 a5) := by
  unfold latTemp
  repeat' (first
    | with_reducible assumption | with_reducible refine capTemp_within ?_ ?_
    | with_reducible refine State_putBytes_within ?_ ?_ | exact mask_sub hk rfl
    | with_reducible refine Within.ite ?_ ?_ | split | dsimp -proj only)

theorem latFillNode_within {K : Nat} {b s : State} {a1 a2} (hk : K &&& 2305851805340270594 = 2305851805340270594) (h : Within K b s) :
    Within K b (latFillNode a1 a2 s) := by
  unfold latFillNode
  repeat' (first
    | with_reducible assumption
    | with_reducible refine Within.incSat (i := 43) (by simp [Blk_ite]) (by decide) ?_ ?_ ?_
    | with_reducible refine latTemp_within ?_ ?_ | with_reducible refine latCell_within ?_ ?_
    | with_reducible refine latNote_within ?_ ?_ | with_reducible refine Within.forN (fun _ _ _ _ => ?_) ?_
    | exact mask_sub hk rfl | with_reducible refine Within.ite ?_ ?_ | split | dsimp -proj only)

theorem latHeal_within {K : Nat} {b s : State} {a2} (hk : K &&& 20752631063421917698 = 20752631063421917698) (h : Within K b s) :
    Within K b (latHeal s a2) := by
  unfold latHeal
  repeat' (first
    | with_reducible assumption
    | with_reducible refine Within.clrBit (i := 43) (by simp [Blk_ite]) (by decide) ?_ ?_ ?_
    | with_reducible refine Within.wr (i := 43) (by simp [Blk_ite]) (by decide) ?_ ?_ ?_
    | with_reducible refine latRecord_within ?_ ?_ | with_reducible refine State_setRing_within ?_ ?_
    | exact mask_sub hk rfl | with_reducible refine Within.ite ?_ ?_ | split | dsimp -proj only)

theorem latRingEnd_within {K : Nat} {b s : State} {a1} (hk : K &&& 21941581365047736834 = 21941581365047736834) (h : Within K b s) :
    Within K b (latRingEnd a1 s) := by
  unfold latRingEnd
  repeat' (first
    | with_reducible assumption
    | with_reducible refine Within.incSat (i := 43) (by simp [Blk_ite]) (by decide) ?_ ?_ ?_
    | with_reducible refine Within.wr (i := 43) (by simp [Blk_ite]) (by decide) ?_ ?_ ?_
    | with_reducible refine latDegrade_within ?_ ?_ | with_reducible refine latEnumStart_within ?_ ?_
    | with_reducible refine latHeal_within ?_ ?_ | with_reducible refine latShow_within ?_ ?_
    | with_reducible refine State_setRing_within ?_ ?_ | with_reducible refine latFillNode_within ?_ ?_
    | with_reducible refine Within.forN (fun _ _ _ _ => ?_) ?_ | exact mask_sub hk rfl
    | with_reducible refine Within.ite ?_ ?_ | split | dsimp -proj only)

theorem capLink_within {K : Nat} {b s : State} {a2 a3 a4 a5} (hk : K &&& 2 = 2) (h : Within K b s) :
    Within K b (capLink s a2 a3 a4 a5) := by
  unfold capLink
  repeat' (first
    | with_reducible assumption | with_reducible refine State_putBytes_within ?_ ?_ | exact mask_sub hk rfl
    | with_reducible refine Within.ite ?_ ?_ | split | dsimp -proj only)

theorem msrDeliver_within {K : Nat} {b s : State} {a1} (hk : K &&& 2305860601466847362 = 2305860601466847362) (h : Within K b s) :
    Within K b (msrDeliver a1 s) := by
  unfold msrDeliver
  repeat' (first
    | with_reducible assumption | with_reducible refine Within.wrI (i := 44) (by simp [Blk_ite]) (by decide) ?_ ?_ ?_
    | with_reducible refine State_took_within ?_ ?_ | with_reducible refine capLink_within ?_ ?_
    | exact mask_sub hk rfl | with_reducible refine Within.ite ?_ ?_ | split | dsimp -proj only
    | with_reducible refine Within.u_msr ?_ ?_)

theorem pomSetEnd_within {K : Nat} {b s : State} (hk : K &&& 2097156 = 2097156) (h : Within K b s) :
    Within K b (pomSetEnd s) := by
  unfold pomSetEnd
  repeat' (first
    | with_reducible assumption | exact mask_sub hk rfl | with_reducible refine Within.ite ?_ ?_
    | with_reducible refine Within.foldl (fun _ _ _ => ?_) ?_ | split | dsimp -proj only
    | with_reducible refine Within.u_objs_pom ?_ ?_ | with_reducible refine Within.u_pom ?_ ?_)

theorem dumpCopy_within {K : Nat} {b s : State} {a2 a3} (hk : K &&& 274877906946 = 274877906946) (h : Within K b s) :
    Within K b (dumpCopy s a2 a3) := by
  induction a3 generalizing s a2 with
  | zero => exact h
  | succ _ ih =>
  unfold dumpCopy
  repeat' (first
    | with_reducible assumption | with_reducible refine ih ?_ | with_reducible refine State_setJob_within ?_ ?_
    | with_reducible refine State_putBytes_within ?_ ?_ | exact mask_sub hk rfl
    | with_reducible refine Within.ite ?_ ?_ | split | dsimp -proj only)

theorem dumpProgress_within {K : Nat} {b s : State} (hk : K &&& 274877906946 = 274877906946) (h : Within K b s) :
    Within K b (dumpProgress s) := by
  unfold dumpProgress
  repeat' (first
    | with_reducible assumption | with_reducible refine dumpCopy_within ?_ ?_
    | with_reducible refine Within.forN (fun _ _ _ _ => ?_) ?_ | exact mask_sub hk rfl
    | with_reducible refine Within.ite ?_ ?_ | split | dsimp -proj only)

theorem capComplete_within {K : Nat} {b s : State} {a2 a3} (hk : K &&& 2305860601533956098 = 2305860601533956098) (h : Within K b s) :
    Within K b (capComplete s a2 a3) := by
  unfold capComplete
  repeat' (first
    | with_reducible assumption | with_reducible refine Within.wr (i := 44) (by simp [Blk_ite]) (by decide) ?_ ?_ ?_
    | with_reducible refine State_putBytes_within ?_ ?_ | exact mask_sub hk rfl
    | with_reducible refine Within.ite ?_ ?_ | split | dsimp -proj only | with_reducible refine Within.u_cap ?_ ?_)

theorem setDeadline_within {K : Nat} {b s : State} (hk : K &&& 21941599232323500678 = 21941599232323500678) (h : Within K b s) :
    Within K b (setDeadline s) := by
  unfold setDeadline
  repeat' (first
    | with_reducible assumption | with_reducible refine capComplete_within ?_ ?_
    | with_reducible refine dumpProgress_within ?_ ?_ | with_reducible refine State_putBytes_within ?_ ?_
    | with_reducible refine pomSetEnd_within ?_ ?_ | with_reducible refine msrDeliver_within ?_ ?_
    | with_reducible refine latRingEnd_within ?_ ?_ | with_reducible refine Within.forN (fun _ _ _ _ => ?_) ?_
    | exact mask_sub hk rfl | with_reducible refine Within.ite ?_ ?_ | split | dsimp -proj only
    | with_reducible refine Within.u_pt_lat ?_ ?_)

theorem sysAct_within {K : Nat} {b s : State} {a2 a3} (hk : K &&& 20752624466322790914 = 20752624466322790914) (h : Within K b s) :
    Within K b (sysAct s a2 a3) := by
  unfold sysAct
  repeat' (first
    | with_reducible assumption | with_reducible refine act_within ?_ (fun _ _ _ => ?_) ?_ | exact mask_sub hk rfl
    | with_reducible refine Within.ite ?_ ?_ | split | dsimp -proj only)

theorem dumpHead_within {K : Nat} {b s : State} {a2} (hk : K &&& 2 = 2) (h : Within K b s) :
    Within K b (dumpHead s a2) := by
  unfold dumpHead
  repeat' (first
    | with_reducible assumption | with_reducible refine State_putBytes_within ?_ ?_ | exact mask_sub hk rfl
    | with_reducible refine Within.ite ?_ ?_ | split | dsimp -proj only)

theorem dumpSelect_within {K : Nat} {b s : State} {a2 a3} (hk : K &&& 274877906946 = 274877906946) (h : Within K b s) :
    Within K b (dumpSelect s a2 a3) := by
  unfold dumpSelect
  repeat' (first
    | with_reducible assumption | with_reducible refine dumpHead_within ?_ ?_
    | with_reducible refine State_setJob_within ?_ ?_ | exact mask_sub hk rfl | with_reducible refine Within.ite ?_ ?_
    | split | dsimp -proj only)

theorem dumpTrigger_within {K : Nat} {b s : State} (hk : K &&& 274877906946 = 274877906946) (h : Within K b s) :
    Within K b (dumpTrigger s) := by
  unfold dumpTrigger
  repeat' (first
    | with_reducible assumption | with_reducible refine dumpSelect_within ?_ ?_
    | with_reducible refine Within.forN (fun _ _ _ _ => ?_) ?_ | exact mask_sub hk rfl
    | with_reducible refine Within.ite ?_ ?_ | split | dsimp -proj only)

theorem capOpen_within {K : Nat} {b s : State} {a2 a3} (hk : K &&& 134217730 = 134217730) (h : Within K b s) :
    Within K b (capOpen s a2 a3) := by
  unfold capOpen
  repeat' (first
    | with_reducible assumption | with_reducible refine State_putBytes_within ?_ ?_ | exact mask_sub hk rfl
    | with_reducible refine Within.ite ?_ ?_ | split | dsimp -proj only | with_reducible refine Within.u_cap ?_ ?_)

theorem latPassing_within {K : Nat} {b s : State} {a2} (hk : K &&& 2305851805340270592 = 2305851805340270592) (h : Within K b s) :
    Within K b (latPassing s a2) := by
  unfold latPassing
  repeat' (first
    | with_reducible assumption | with_reducible refine Within.wr (i := 43) (by simp [Blk_ite]) (by decide) ?_ ?_ ?_
    | with_reducible refine State_setRing_within ?_ ?_ | exact mask_sub hk rfl | with_reducible refine Within.ite ?_ ?_
    | split | dsimp -proj only)

theorem latLaunch_within {K : Nat} {b s : State} {a1 a2} (hk : K &&& 20752631063421917698 = 20752631063421917698) (h : Within K b s) :
    Within K b (latLaunch a1 a2 s) := by
  unfold latLaunch
  repeat' (first
    | with_reducible assumption | with_reducible refine State_emit_within ?_ ?_
    | with_reducible refine latTrig_within ?_ ?_ | with_reducible refine State_setRing_within ?_ ?_
    | with_reducible refine latPassing_within ?_ ?_ | exact mask_sub hk rfl | with_reducible refine Within.ite ?_ ?_
    | with_reducible refine Within.foldl (fun _ _ _ => ?_) ?_ | split | dsimp -proj only)

theorem ptStepApply_within {K : Nat} {b s : State} (hk : K &&& 20752628864377690626 = 20752628864377690626) (h : Within K b s) :
    Within K b (ptStepApply s) := by
  unfold ptStepApply
  repeat' (first
    | with_reducible assumption | with_reducible refine Within.wr (i := 42) (by simp [Blk_ite]) (by decide) ?_ ?_ ?_
    | with_reducible refine Within.incSat (i := 42) (by simp [Blk_ite]) (by decide) ?_ ?_ ?_
    | with_reducible refine slotCatch_within ?_ ?_ | with_reducible refine Within.forN (fun _ _ _ _ => ?_) ?_
    | with_reducible refine sysRearm_within ?_ ?_ | exact mask_sub hk rfl | with_reducible refine Within.ite ?_ ?_
    | split | dsimp -proj only | with_reducible refine Within.u_pt ?_ ?_)

theorem ethHead_within {K : Nat} {b s : State} {a2} (hk : K &&& 2305878193585789440 = 2305878193585789440) (h : Within K b s) {r t} (e : ethHead s a2 = some (r, t)) :
    Within K b t := by
  unfold ethHead at e
  dsimp -proj only at e
  repeat' (split at e)
  all_goals cases e
  all_goals repeat' (first
    | with_reducible assumption | with_reducible refine State_setQueue_within ?_ ?_
    | with_reducible refine furSync_within ?_ ?_ | exact mask_sub hk rfl | with_reducible refine Within.ite ?_ ?_
    | with_reducible refine WithinP.ite ?_ ?_ | split | dsimp -proj only)

theorem ethSend_within {K : Nat} {b s : State} {a2 a3 a4 a5} (hk : K &&& 2377900603260011008 = 2377900603260011008) (h : Within K b s) :
    Within K b (ethSend s a2 a3 a4 a5) := by
  unfold ethSend
  repeat' (first
    | with_reducible assumption
    | with_reducible refine Within.incSat (i := 56) (by simp [Blk_ite]) (by decide) ?_ ?_ ?_
    | with_reducible refine State_emit_within ?_ ?_ | exact mask_sub hk rfl | with_reducible refine Within.ite ?_ ?_
    | split | dsimp -proj only | with_reducible refine Within.u_pt ?_ ?_)

theorem canSystemAbort_within {K : Nat} {b s : State} {a2 a3} (hk : K &&& 20754874067645897218 = 20754874067645897218) (h : Within K b s) :
    Within K b (canSystemAbort s a2 a3) := by
  unfold canSystemAbort
  repeat' (first
    | with_reducible assumption | with_reducible refine State_setCan_within ?_ ?_
    | with_reducible refine bufAbortReq_within ?_ ?_ | exact mask_sub hk rfl | with_reducible refine Within.ite ?_ ?_
    | split | dsimp -proj only)

theorem fupDrop_within {K : Nat} {b s : State} {a2} (hk : K &&& 20754878465700796930 = 20754878465700796930) (h : Within K b s) :
    Within K b (fupDrop s a2) := by
  unfold fupDrop
  repeat' (first
    | with_reducible assumption
    | with_reducible refine Within.incSat (i := 42) (by simp [Blk_ite]) (by decide) ?_ ?_ ?_
    | with_reducible refine canSystemAbort_within ?_ ?_ | exact mask_sub hk rfl
    | with_reducible refine Within.ite ?_ ?_ | split | dsimp -proj only | with_reducible refine Within.u_pt ?_ ?_)

theorem latLinkUp_within {K : Nat} {b s : State} {a2 a3} (hk : K &&& 2305851805340270592 = 2305851805340270592) (h : Within K b s) :
    Within K b (latLinkUp s a2 a3) := by
  unfold latLinkUp
  repeat' (first
    | with_reducible assumption | with_reducible refine Within.wr (i := 43) (by simp [Blk_ite]) (by decide) ?_ ?_ ?_
    | with_reducible refine State_setRing_within ?_ ?_ | exact mask_sub hk rfl | with_reducible refine Within.ite ?_ ?_
    | split | dsimp -proj only)

theorem msrLinkUp_within {K : Nat} {b s : State} {a2} (hk : K &&& 2305860601466847232 = 2305860601466847232) (h : Within K b s) :
    Within K b (msrLinkUp s a2) := by
  unfold msrLinkUp
  repeat' (first
    | with_reducible assumption | with_reducible refine Within.wr (i := 44) (by simp [Blk_ite]) (by decide) ?_ ?_ ?_
    | with_reducible refine msrCtl_within ?_ ?_ | with_reducible refine Within.forN (fun _ _ _ _ => ?_) ?_
    | with_reducible refine msrMeasure_within ?_ ?_ | exact mask_sub hk rfl | with_reducible refine Within.ite ?_ ?_
    | split | dsimp -proj only)

theorem latLinkLoss_within {K : Nat} {b s : State} {a2 a3} (hk : K &&& 2305851805306716160 = 2305851805306716160) (h : Within K b s) :
    Within K b (latLinkLoss s a2 a3) := by
  unfold latLinkLoss
  repeat' (first
    | with_reducible assumption | with_reducible refine Within.wr (i := 43) (by simp [Blk_ite]) (by decide) ?_ ?_ ?_
    | exact mask_sub hk rfl | with_reducible refine Within.ite ?_ ?_ | split | dsimp -proj only)

theorem latOriginate_within {K : Nat} {b s : State} {a2 a3} (hk : K &&& 512 = 512) (h : Within K b s) :
    Within K b (latOriginate s a2 a3) := by
  unfold latOriginate
  repeat' (first
    | with_reducible assumption | with_reducible refine State_emit_within ?_ ?_ | exact mask_sub hk rfl
    | with_reducible refine Within.ite ?_ ?_ | split | dsimp -proj only)

theorem latCrcErr_within {K : Nat} {b s : State} {a2} (hk : K &&& 2305851805340270592 = 2305851805340270592) (h : Within K b s) :
    Within K b (latCrcErr s a2) := by
  unfold latCrcErr
  repeat' (first
    | with_reducible assumption
    | with_reducible refine Within.incSat (i := 43) (by simp [Blk_ite]) (by decide) ?_ ?_ ?_
    | with_reducible refine State_setRing_within ?_ ?_ | exact mask_sub hk rfl | with_reducible refine Within.ite ?_ ?_
    | split | dsimp -proj only)

end Sys2Proof.Machine
end

