-- ==== Sys2Proof/Laws/FrameOps5.lean ====
section
/-! SUPPORT. What each operation can change: one lemma an operation, by its own steps (part 5). -/

set_option linter.all false

namespace Sys2Proof.Machine

theorem latTake_within {K : Nat} {b s : State} {a2 a3 a4} (hk : K &&& 33554434 = 33554434) (h : Within K b s) :
    Within K b (latTake s a2 a3 a4) := by
  unfold latTake
  repeat' (first
    | with_reducible assumption | with_reducible refine latTemp_within ?_ ?_
    | with_reducible refine latCell_within ?_ ?_ | with_reducible refine latNote_within ?_ ?_
    | with_reducible refine Within.forN (fun _ _ _ _ => ?_) ?_ | with_reducible refine State_setRing_within ?_ ?_
    | exact mask_sub hk rfl | with_reducible refine Within.ite ?_ ?_ | split | dsimp -proj only
    | with_reducible refine Within.u_lat ?_ ?_)

theorem latSegment_within {K : Nat} {b s : State} {a1 a2 a3 a5} (hk : K &&& 2305851805340271106 = 2305851805340271106) (h : Within K b s) :
    Within K b (latSegment a1 a2 a3 s a5) := by
  unfold latSegment
  repeat' (first
    | with_reducible assumption
    | with_reducible refine Within.incSat (i := 43) (by simp [Blk_ite]) (by decide) ?_ ?_ ?_
    | with_reducible refine latRead_within ?_ ?_ | with_reducible refine latTake_within ?_ ?_
    | with_reducible refine State_setRing_within ?_ ?_ | with_reducible refine latReadAll_within ?_ ?_
    | with_reducible refine latEnumStart_within ?_ ?_ | with_reducible refine latCrcErr_within ?_ ?_
    | exact mask_sub hk rfl | with_reducible refine Within.ite ?_ ?_ | split | dsimp -proj only)

theorem latBreak_within {K : Nat} {b s : State} {a2} (hk : K &&& 20752631063421917698 = 20752631063421917698) (h : Within K b s) :
    Within K b (latBreak s a2) := by
  unfold latBreak
  repeat' (first
    | with_reducible assumption | with_reducible refine Within.wr (i := 43) (by simp [Blk_ite]) (by decide) ?_ ?_ ?_
    | with_reducible refine Within.setBit (i := 43) (by simp [Blk_ite]) (by decide) ?_ ?_ ?_
    | with_reducible refine latRecord_within ?_ ?_ | with_reducible refine State_setRing_within ?_ ?_
    | exact mask_sub hk rfl | with_reducible refine Within.ite ?_ ?_ | split | dsimp -proj only)

theorem latListenEnd_within {K : Nat} {b s : State} {a1} (hk : K &&& 2305851805340271104 = 2305851805340271104) (h : Within K b s) :
    Within K b (latListenEnd a1 s) := by
  unfold latListenEnd
  repeat' (first
    | with_reducible assumption | with_reducible refine Within.wr (i := 43) (by simp [Blk_ite]) (by decide) ?_ ?_ ?_
    | with_reducible refine latEnumStart_within ?_ ?_ | with_reducible refine State_setRing_within ?_ ?_
    | exact mask_sub hk rfl | with_reducible refine Within.ite ?_ ?_ | split | dsimp -proj only)

theorem latCommand_within {K : Nat} {b s : State} {a2 a3} (hk : K &&& 256 = 256)
    (h2 : ∀ t, Within K b t → Within K b (a3 t)) (h : Within K b s) : Within K b (latCommand s a2 a3) :=
  Within.ite (State_status_within (mask_sub hk rfl) h) (State_status_within (mask_sub hk rfl) (h2 _ h))

theorem latFarEnd_within {K : Nat} {b s : State} {a2 a3 a4} (hk : K &&& 512 = 512) (h : Within K b s) :
    Within K b (latFarEnd s a2 a3 a4) := by
  unfold latFarEnd
  repeat' (first
    | with_reducible assumption | with_reducible refine State_emit_within ?_ ?_ | exact mask_sub hk rfl
    | with_reducible refine Within.ite ?_ ?_ | split | dsimp -proj only)

theorem latNodeEnum_within {K : Nat} {b s : State} {a1 a2 a3} (hk : K &&& 2305851805306716160 = 2305851805306716160) (h : Within K b s) :
    Within K b (latNodeEnum a1 a2 a3 s) := by
  unfold latNodeEnum
  repeat' (first
    | with_reducible assumption | with_reducible refine Within.wrB (i := 43) (by simp [Blk_ite]) (by decide) ?_ ?_ ?_
    | with_reducible refine Within.wr (i := 43) (by simp [Blk_ite]) (by decide) ?_ ?_ ?_ | exact mask_sub hk rfl
    | with_reducible refine Within.ite ?_ ?_ | split | dsimp -proj only)

theorem latDescribe_within {K : Nat} {b s : State} {a2} (hk : K &&& 33554944 = 33554944) (h : Within K b s) :
    Within K b (latDescribe s a2) := by
  unfold latDescribe
  repeat' (first
    | with_reducible assumption | with_reducible refine latDescribeNode_within ?_ ?_
    | with_reducible refine Within.forN (fun _ _ _ _ => ?_) ?_ | with_reducible refine latMeasureAll_within ?_ ?_
    | exact mask_sub hk rfl | with_reducible refine Within.ite ?_ ?_ | split | dsimp -proj only)

theorem latEvaluate_within {K : Nat} {b s : State} {a2 a3} (hk : K &&& 21941581365047736834 = 21941581365047736834) (h : Within K b s) :
    Within K b (latEvaluate s a2 a3) := by
  unfold latEvaluate
  repeat' (first
    | with_reducible assumption | with_reducible refine Within.wrB (i := 43) (by simp [Blk_ite]) (by decide) ?_ ?_ ?_
    | with_reducible refine Within.wr (i := 43) (by simp [Blk_ite]) (by decide) ?_ ?_ ?_
    | with_reducible refine latDegrade_within ?_ ?_ | with_reducible refine latEnumStart_within ?_ ?_
    | with_reducible refine latRecord_within ?_ ?_ | with_reducible refine latDescribe_within ?_ ?_
    | with_reducible refine latNodeEnum_within ?_ ?_ | with_reducible refine Within.forN (fun _ _ _ _ => ?_) ?_
    | with_reducible refine State_setRing_within ?_ ?_ | exact mask_sub hk rfl | with_reducible refine Within.ite ?_ ?_
    | split | dsimp -proj only)

theorem latMeasured_within {K : Nat} {b s : State} {a2 a3 a4 a5} (hk : K &&& 21941581365047736962 = 21941581365047736962) (h : Within K b s) :
    Within K b (latMeasured s a2 a3 a4 a5) := by
  unfold latMeasured
  repeat' (first
    | with_reducible assumption | with_reducible refine Within.wr (i := 43) (by simp [Blk_ite]) (by decide) ?_ ?_ ?_
    | with_reducible refine latSend_within ?_ ?_ | with_reducible refine State_setRing_within ?_ ?_
    | with_reducible refine latRecord_within ?_ ?_ | with_reducible refine latDegrade_within ?_ ?_
    | with_reducible refine State_took_within ?_ ?_ | exact mask_sub hk rfl | with_reducible refine Within.ite ?_ ?_
    | split | dsimp -proj only)

theorem latUid_within {K : Nat} {b s : State} {a2 a3} (hk : K &&& 20752631063421917738 = 20752631063421917738) (h : Within K b s) :
    Within K b (latUid s a2 a3) := by
  unfold latUid
  repeat' (first
    | with_reducible assumption | with_reducible refine Within.wr (i := 43) (by simp [Blk_ite]) (by decide) ?_ ?_ ?_
    | with_reducible refine latRecord_within ?_ ?_ | with_reducible refine latMapStore_within ?_ ?_
    | with_reducible refine State_setRing_within ?_ ?_ | exact mask_sub hk rfl | with_reducible refine Within.ite ?_ ?_
    | split | dsimp -proj only)

theorem latFault_within {K : Nat} {b s : State} {a2 a3 a4 a5} (hk : K &&& 21941581365047736834 = 21941581365047736834) (h : Within K b s) :
    Within K b (latFault s a2 a3 a4 a5) := by
  unfold latFault
  repeat' (first
    | with_reducible assumption | with_reducible refine Within.wr (i := 43) (by simp [Blk_ite]) (by decide) ?_ ?_ ?_
    | with_reducible refine latDegrade_within ?_ ?_ | with_reducible refine latMeasure_within ?_ ?_
    | with_reducible refine latEnumStart_within ?_ ?_ | with_reducible refine latRead_within ?_ ?_
    | with_reducible refine latRecord_within ?_ ?_ | with_reducible refine State_setRing_within ?_ ?_
    | exact mask_sub hk rfl | with_reducible refine Within.ite ?_ ?_ | split | dsimp -proj only)

theorem convPut_within {K : Nat} {b s : State} {a2 a3 a4 a5 a6 a7} (hk : K &&& 2 = 2) (h : Within K b s) :
    Within K b (convPut s a2 a3 a4 a5 a6 a7) := by
  unfold convPut
  repeat' (first
    | with_reducible assumption | with_reducible refine State_putBytes_within ?_ ?_ | exact mask_sub hk rfl
    | with_reducible refine Within.ite ?_ ?_ | split | dsimp -proj only)

theorem msrAccept_within {K : Nat} {b s : State} {a2 a3 a4} (hk : K &&& 2305860601466847234 = 2305860601466847234) (h : Within K b s) :
    Within K b (msrAccept s a2 a3 a4) := by
  unfold msrAccept
  repeat' (first
    | with_reducible assumption | with_reducible refine Within.wr (i := 44) (by simp [Blk_ite]) (by decide) ?_ ?_ ?_
    | with_reducible refine convPut_within ?_ ?_ | with_reducible refine State_setLink_within ?_ ?_
    | exact mask_sub hk rfl | with_reducible refine Within.ite ?_ ?_ | split | dsimp -proj only)

theorem msrMeasured_within {K : Nat} {b s : State} {a2 a3} (hk : K &&& 2305860601466847360 = 2305860601466847360) (h : Within K b s) :
    Within K b (msrMeasured s a2 a3) := by
  unfold msrMeasured
  repeat' (first
    | with_reducible assumption | with_reducible refine Within.wr (i := 44) (by simp [Blk_ite]) (by decide) ?_ ?_ ?_
    | with_reducible refine State_setLink_within ?_ ?_ | with_reducible refine msrCtl_within ?_ ?_
    | with_reducible refine State_took_within ?_ ?_ | exact mask_sub hk rfl | with_reducible refine Within.ite ?_ ?_
    | split | dsimp -proj only)

theorem msrRead_within {K : Nat} {b s : State} {a2 a3 a4} (hk : K &&& 2305860601466847232 = 2305860601466847232) (h : Within K b s) :
    Within K b (msrRead s a2 a3 a4) := by
  unfold msrRead
  repeat' (first
    | with_reducible assumption | with_reducible refine Within.wr (i := 44) (by simp [Blk_ite]) (by decide) ?_ ?_ ?_
    | with_reducible refine msrMeasure_within ?_ ?_ | with_reducible refine State_setLink_within ?_ ?_
    | exact mask_sub hk rfl | with_reducible refine Within.ite ?_ ?_ | split | dsimp -proj only)

theorem dumpClose_within {K : Nat} {b s : State} {a2 a3} (hk : K &&& 2 = 2) (h : Within K b s) :
    Within K b (dumpClose s a2 a3) := by
  unfold dumpClose
  repeat' (first
    | with_reducible assumption | with_reducible refine State_putBytes_within ?_ ?_ | exact mask_sub hk rfl
    | with_reducible refine Within.ite ?_ ?_ | split | dsimp -proj only)

theorem hostRead_within {K : Nat} {b s t1 : State} {a2 a3} (hk : K &&& 20757125871217679106 = 20757125871217679106) (h : Within K b s) (ht1 : Within K b t1) :
    Within K b (hostRead s a2 a3 t1) := by
  unfold hostRead
  repeat' (first
    | with_reducible assumption | with_reducible refine hostRow_within ?_ ?_ ?_ | exact mask_sub hk rfl
    | with_reducible refine Within.ite ?_ ?_ | split | dsimp -proj only)

theorem spillStore_within {K : Nat} {b s : State} {a2 a3} (hk : K &&& 2 = 2) (h : Within K b s) :
    Within K b (spillStore s a2 a3) := by
  unfold spillStore
  repeat' (first
    | with_reducible assumption | with_reducible refine State_putBytes_within ?_ ?_ | exact mask_sub hk rfl
    | with_reducible refine Within.ite ?_ ?_ | split | dsimp -proj only)

theorem tilFlag_within {K : Nat} {b s : State} {a2} {i : Nat} (hf : Blk a2 i) (hi : i ≠ 0) (hki : K &&& 2 ^ i = 2 ^ i) (hk : K &&& 3494863679852126208 = 3494863679852126208) (h : Within K b s) :
    Within K b (tilFlag s a2) := by
  unfold tilFlag
  repeat' (first
    | with_reducible assumption | with_reducible refine Within.wr hf hi hki ?_ ?_
    | with_reducible refine tilDegrade_within ?_ ?_ | exact mask_sub hk rfl | with_reducible refine Within.ite ?_ ?_
    | split | dsimp -proj only | with_reducible refine Within.u_til ?_ ?_)

theorem tilStop_within {K : Nat} {b s : State} (hk : K &&& 3494863679852126208 = 3494863679852126208) (h : Within K b s) :
    Within K b (tilStop s) := by
  unfold tilStop
  repeat' (first
    | with_reducible assumption | with_reducible refine Within.wr (i := 46) (by simp [Blk_ite]) (by decide) ?_ ?_ ?_
    | with_reducible refine tilDegrade_within ?_ ?_ | exact mask_sub hk rfl | with_reducible refine Within.ite ?_ ?_
    | split | dsimp -proj only | with_reducible refine Within.u_til ?_ ?_)

theorem tilRestart_within {K : Nat} {b s : State} {a2 a3 a4} (hk : K &&& 268435456 = 268435456) (h : Within K b s) :
    Within K b (tilRestart s a2 a3 a4) := by
  unfold tilRestart
  repeat' (first
    | with_reducible assumption | exact mask_sub hk rfl | with_reducible refine Within.ite ?_ ?_ | split
    | dsimp -proj only | with_reducible refine Within.u_til ?_ ?_)

theorem tilCheckpoint_within {K : Nat} {b s : State} {a2 a3} (hk : K &&& 268435456 = 268435456) (h : Within K b s) :
    Within K b (tilCheckpoint s a2 a3) := by
  unfold tilCheckpoint
  repeat' (first
    | with_reducible assumption | with_reducible refine tilRestart_within ?_ ?_ | exact mask_sub hk rfl
    | with_reducible refine Within.ite ?_ ?_ | with_reducible refine Within.foldl (fun _ _ _ => ?_) ?_ | split
    | dsimp -proj only | with_reducible refine Within.u_til ?_ ?_)

theorem tilNext_within {K : Nat} {b s : State} {a2} (hk : K &&& 268435456 = 268435456) (h : Within K b s) :
    Within K b (tilNext s a2) := by
  unfold tilNext
  repeat' (first
    | with_reducible assumption | exact mask_sub hk rfl | with_reducible refine Within.ite ?_ ?_ | split
    | dsimp -proj only | with_reducible refine Within.u_til ?_ ?_)

theorem tilPost_within {K : Nat} {b s : State} {a2 a3 a4} (hk : K &&& 21941642937933773314 = 21941642937933773314) (h : Within K b s) :
    Within K b (tilPost s a2 a3 a4) := by
  unfold tilPost
  repeat' (first
    | with_reducible assumption
    | with_reducible refine tilFlag_within (i := 46) (by simp [Blk_ite]) (by decide) ?_ ?_ ?_
    | with_reducible refine hwPost_within ?_ ?_ | exact mask_sub hk rfl | with_reducible refine Within.ite ?_ ?_
    | split | dsimp -proj only)

theorem tilPostAll_within {K : Nat} {b s : State} {a2 a3} (hk : K &&& 21941642937933773314 = 21941642937933773314) (h : Within K b s) :
    Within K b (tilPostAll s a2 a3) := by
  unfold tilPostAll
  repeat' (first
    | with_reducible assumption | with_reducible refine tilPost_within ?_ ?_
    | with_reducible refine Within.forN (fun _ _ _ _ => ?_) ?_ | exact mask_sub hk rfl
    | with_reducible refine Within.ite ?_ ?_ | split | dsimp -proj only)

theorem tilLate_within {K : Nat} {b s : State} {a2 a3} {i : Nat} (hf : Blk a3 i) (hi : i ≠ 0) (hki : K &&& 2 ^ i = 2 ^ i) (hk : K &&& 3494863679852126208 = 3494863679852126208) (h : Within K b s) :
    Within K b (tilLate s a2 a3) := by
  unfold tilLate
  repeat' (first
    | with_reducible assumption
    | with_reducible refine Within.incSat (i := 46) (by simp [Blk_ite]) (by decide) ?_ ?_ ?_
    | with_reducible refine tilFlag_within hf hi hki ?_ ?_ | exact mask_sub hk rfl
    | with_reducible refine Within.ite ?_ ?_ | split | dsimp -proj only)

theorem tilLanes_within {K : Nat} {b s : State} {a2} (hk : K &&& 3494863679852126208 = 3494863679852126208) (h : Within K b s) :
    Within K b (tilLanes s a2) := by
  unfold tilLanes
  repeat' (first
    | with_reducible assumption | with_reducible refine Within.wr (i := 46) (by simp [Blk_ite]) (by decide) ?_ ?_ ?_
    | with_reducible refine tilDegrade_within ?_ ?_ | exact mask_sub hk rfl | with_reducible refine Within.ite ?_ ?_
    | split | dsimp -proj only | with_reducible refine Within.u_til ?_ ?_)

theorem tilReport_within {K : Nat} {b s : State} {a2 a3 a4 a5 a6} (hk : K &&& 3494863679852126208 = 3494863679852126208) (h : Within K b s) :
    Within K b (tilReport s a2 a3 a4 a5 a6) := by
  unfold tilReport
  repeat' (first
    | with_reducible assumption
    | with_reducible refine tilFlag_within (i := 46) (by simp [Blk_ite]) (by decide) ?_ ?_ ?_ | exact mask_sub hk rfl
    | with_reducible refine Within.ite ?_ ?_ | split | dsimp -proj only | with_reducible refine Within.u_til ?_ ?_)

theorem tilCount_within {K : Nat} {b s : State} {a2 a3} (hk : K &&& 2305913377957871616 = 2305913377957871616) (h : Within K b s) :
    Within K b (tilCount s a2 a3) := by
  unfold tilCount
  repeat' (first
    | with_reducible assumption
    | with_reducible refine Within.incSat (i := 46) (by simp [Blk_ite]) (by decide) ?_ ?_ ?_
    | with_reducible refine Within.wr (i := 46) (by simp [Blk_ite]) (by decide) ?_ ?_ ?_ | exact mask_sub hk rfl
    | with_reducible refine Within.ite ?_ ?_ | with_reducible refine Within.foldl (fun _ _ _ => ?_) ?_ | split
    | dsimp -proj only)

theorem tilList_within {K : Nat} {b s : State} {a2 a3 a4 a5} (hk : K &&& 21941642937933773314 = 21941642937933773314) (h : Within K b s) :
    Within K b (tilList s a2 a3 a4 a5) := by
  unfold tilList
  repeat' (first
    | with_reducible assumption | with_reducible refine tilPostAll_within ?_ ?_ | exact mask_sub hk rfl
    | with_reducible refine Within.ite ?_ ?_ | with_reducible refine Within.foldl (fun _ _ _ => ?_) ?_ | split
    | dsimp -proj only)

theorem tilSuspects_within {K : Nat} {b s : State} {a2 a3 a4 a5 a6 a7} (hk : K &&& 21941642937933773314 = 21941642937933773314) (h : Within K b s) :
    Within K b (tilSuspects s a2 a3 a4 a5 a6 a7) := by
  unfold tilSuspects
  repeat' (first
    | with_reducible assumption | with_reducible refine Within.wr (i := 46) (by simp [Blk_ite]) (by decide) ?_ ?_ ?_
    | with_reducible refine tilList_within ?_ ?_ | with_reducible refine tilCount_within ?_ ?_
    | with_reducible refine tilReport_within ?_ ?_ | exact mask_sub hk rfl | with_reducible refine Within.ite ?_ ?_
    | split | dsimp -proj only)

theorem pubState_within {K : Nat} {b s : State} {a2 a3 a4} (hk : K &&& 21941642937933773314 = 21941642937933773314) (h : Within K b s) :
    Within K b (pubState s a2 a3 a4) := by
  unfold pubState
  repeat' (first
    | with_reducible assumption | with_reducible refine Within.wr (i := 46) (by simp [Blk_ite]) (by decide) ?_ ?_ ?_
    | with_reducible refine Within.incSat (i := 46) (by simp [Blk_ite]) (by decide) ?_ ?_ ?_
    | with_reducible refine tilSuspects_within ?_ ?_ | with_reducible refine tilLanes_within ?_ ?_
    | with_reducible refine tilLate_within (i := 46) (by simp [Blk_ite]) (by decide) ?_ ?_ ?_
    | with_reducible refine tilPostAll_within ?_ ?_ | with_reducible refine tilNext_within ?_ ?_
    | with_reducible refine State_putBytes_within ?_ ?_ | with_reducible refine tilCheckpoint_within ?_ ?_
    | exact mask_sub hk rfl | with_reducible refine Within.ite ?_ ?_ | split | dsimp -proj only)

theorem pubStat_within {K : Nat} {b s : State} {a2 a3 a4} (hk : K &&& 21941642937933773314 = 21941642937933773314) (h : Within K b s) :
    Within K b (pubStat s a2 a3 a4) := by
  unfold pubStat
  repeat' (first
    | with_reducible assumption | with_reducible refine Within.wr (i := 46) (by simp [Blk_ite]) (by decide) ?_ ?_ ?_
    | with_reducible refine tilSuspects_within ?_ ?_
    | with_reducible refine tilLate_within (i := 46) (by simp [Blk_ite]) (by decide) ?_ ?_ ?_
    | with_reducible refine tilPostAll_within ?_ ?_ | with_reducible refine tilNext_within ?_ ?_
    | with_reducible refine State_putBytes_within ?_ ?_ | exact mask_sub hk rfl
    | with_reducible refine Within.ite ?_ ?_ | split | dsimp -proj only | with_reducible refine Within.u_til ?_ ?_)

theorem pubDiv_within {K : Nat} {b s : State} {a2 a3 a4 a5} (hk : K &&& 21941642937933773314 = 21941642937933773314) (h : Within K b s) :
    Within K b (pubDiv s a2 a3 a4 a5) := by
  unfold pubDiv
  repeat' (first
    | with_reducible assumption | with_reducible refine Within.wr (i := 46) (by simp [Blk_ite]) (by decide) ?_ ?_ ?_
    | with_reducible refine tilSuspects_within ?_ ?_
    | with_reducible refine tilLate_within (i := 46) (by simp [Blk_ite]) (by decide) ?_ ?_ ?_
    | with_reducible refine tilList_within ?_ ?_ | with_reducible refine tilPostAll_within ?_ ?_
    | with_reducible refine tilNext_within ?_ ?_ | with_reducible refine State_putBytes_within ?_ ?_
    | exact mask_sub hk rfl | with_reducible refine Within.ite ?_ ?_ | split | dsimp -proj only
    | with_reducible refine Within.u_til ?_ ?_)

theorem pubZ_within {K : Nat} {b s : State} {a2 a3 a4} (hk : K &&& 21941642937933773314 = 21941642937933773314) (h : Within K b s) :
    Within K b (pubZ s a2 a3 a4) := by
  unfold pubZ
  repeat' (first
    | with_reducible assumption | with_reducible refine Within.wr (i := 46) (by simp [Blk_ite]) (by decide) ?_ ?_ ?_
    | with_reducible refine tilSuspects_within ?_ ?_
    | with_reducible refine tilLate_within (i := 46) (by simp [Blk_ite]) (by decide) ?_ ?_ ?_
    | with_reducible refine tilPostAll_within ?_ ?_ | with_reducible refine tilNext_within ?_ ?_
    | with_reducible refine State_putBytes_within ?_ ?_ | exact mask_sub hk rfl
    | with_reducible refine Within.ite ?_ ?_ | split | dsimp -proj only)

theorem sweepHeader_within {K : Nat} {b s : State} {a2 a3} (hk : K &&& 2 = 2) (h : Within K b s) :
    Within K b (sweepHeader s a2 a3) := by
  unfold sweepHeader
  repeat' (first
    | with_reducible assumption | with_reducible refine State_putBytes_within ?_ ?_ | exact mask_sub hk rfl
    | with_reducible refine Within.ite ?_ ?_ | split | dsimp -proj only)

theorem pomStep_within {K : Nat} {b s : State} {a2 a3 a4 a5 a6 a7 a8 a9} (hk : K &&& 21945372481646672386 = 21945372481646672386) (h : Within K b s) :
    Within K b (pomStep s a2 a3 a4 a5 a6 a7 a8 a9) := by
  unfold pomStep
  repeat' (first
    | with_reducible assumption | with_reducible refine tripLatch_within ?_ ?_ | exact mask_sub hk rfl
    | with_reducible refine Within.ite ?_ ?_ | split | dsimp -proj only | with_reducible refine Within.u_pom ?_ ?_)

theorem pomCell_within {K : Nat} {b s : State} {a2 a3 a4} (hk : K &&& 21945372481646672386 = 21945372481646672386) (h : Within K b s) :
    Within K b (pomCell s a2 a3 a4) := by
  unfold pomCell
  repeat' (first
    | with_reducible assumption | with_reducible refine pomStep_within ?_ ?_ | exact mask_sub hk rfl
    | with_reducible refine Within.ite ?_ ?_ | split | dsimp -proj only)

theorem pomConv_within {K : Nat} {b s : State} {a2 a3 a4 a5} (hk : K &&& 21945372481646672386 = 21945372481646672386) (h : Within K b s) :
    Within K b (pomConv s a2 a3 a4 a5) := by
  unfold pomConv
  repeat' (first
    | with_reducible assumption | with_reducible refine pomStep_within ?_ ?_ | exact mask_sub hk rfl
    | with_reducible refine Within.ite ?_ ?_ | split | dsimp -proj only)

theorem pomTemp_within {K : Nat} {b s : State} {a2 a3} (hk : K &&& 21945372481646672386 = 21945372481646672386) (h : Within K b s) :
    Within K b (pomTemp s a2 a3) := by
  unfold pomTemp
  repeat' (first
    | with_reducible assumption | with_reducible refine pomStep_within ?_ ?_ | exact mask_sub hk rfl
    | with_reducible refine Within.ite ?_ ?_ | split | dsimp -proj only)

theorem coreFault_within {K : Nat} {b s : State} {a2 a3} (hk : K &&& 3494934048329958400 = 3494934048329958400) (h : Within K b s) :
    Within K b (coreFault s a2 a3) := by
  unfold coreFault
  repeat' (first
    | with_reducible assumption | with_reducible refine Within.wr (i := 47) (by simp [Blk_ite]) (by decide) ?_ ?_ ?_
    | with_reducible refine State_hwFault_within ?_ ?_ | with_reducible refine slsDown_within ?_ ?_
    | exact mask_sub hk rfl | with_reducible refine Within.ite ?_ ?_ | split | dsimp -proj only
    | with_reducible refine Within.u_pom ?_ ?_)

theorem mirrorTrip_within {K : Nat} {b s : State} {a2 a3} (hk : K &&& 21945372481646672386 = 21945372481646672386) (h : Within K b s) :
    Within K b (mirrorTrip s a2 a3) := by
  unfold mirrorTrip
  repeat' (first
    | with_reducible assumption | with_reducible refine tripLatch_within ?_ ?_ | exact mask_sub hk rfl
    | with_reducible refine Within.ite ?_ ?_ | split | dsimp -proj only | with_reducible refine Within.u_pom ?_ ?_)

theorem suspectTake_within {K : Nat} {b s : State} {a2} (hk : K &&& 20752763004783696386 = 20752763004783696386) (h : Within K b s) :
    Within K b (suspectTake s a2) := by
  unfold suspectTake
  repeat' (first
    | with_reducible assumption
    | with_reducible refine Within.incSat (i := 47) (by simp [Blk_ite]) (by decide) ?_ ?_ ?_
    | with_reducible refine pomRecord_within ?_ ?_ | exact mask_sub hk rfl | with_reducible refine Within.ite ?_ ?_
    | split | dsimp -proj only)

theorem slsClose_within {K : Nat} {b s : State} (hk : K &&& 3494934048327860224 = 3494934048327860224) (h : Within K b s) :
    Within K b (slsClose s) := by
  unfold slsClose
  repeat' (first
    | with_reducible assumption | with_reducible refine Within.wr (i := 47) (by simp [Blk_ite]) (by decide) ?_ ?_ ?_
    | with_reducible refine subSync_within ?_ ?_ | exact mask_sub hk rfl | with_reducible refine Within.ite ?_ ?_
    | split | dsimp -proj only)

theorem lsCutOne_within {K : Nat} {b s : State} {a1 a2} (hk : K &&& 20752903742272477698 = 20752903742272477698) (h : Within K b s) :
    Within K b (lsCutOne a1 a2 s) := by
  unfold lsCutOne
  repeat' (first
    | with_reducible assumption
    | with_reducible refine Within.incSat (i := 48) (by simp [Blk_ite]) (by decide) ?_ ?_ ?_
    | with_reducible refine lsSwitchOff_within ?_ ?_ | with_reducible refine lsLatch_within ?_ ?_
    | with_reducible refine State_setLs_within ?_ ?_ | with_reducible refine lsRecord_within ?_ ?_
    | with_reducible refine lsFault_within ?_ ?_ | exact mask_sub hk rfl | with_reducible refine Within.ite ?_ ?_
    | split | dsimp -proj only)

theorem lsCut_within {K : Nat} {b s : State} {a2 a3} (hk : K &&& 20752903742272477698 = 20752903742272477698) (h : Within K b s) :
    Within K b (lsCut s a2 a3) := by
  unfold lsCut
  repeat' (first
    | with_reducible assumption | with_reducible refine lsCutOne_within ?_ ?_ | exact mask_sub hk rfl
    | with_reducible refine Within.ite ?_ ?_ | with_reducible refine Within.foldl (fun _ _ _ => ?_) ?_ | split
    | dsimp -proj only)

theorem feedOverNext_within {K : Nat} {b s : State} {a2 a3} (hk : K &&& 9223372036854775808 = 9223372036854775808) (h : Within K b s) :
    Within K b (feedOverNext s a2 a3) := by
  unfold feedOverNext
  repeat' (first
    | with_reducible assumption | exact mask_sub hk rfl | with_reducible refine Within.ite ?_ ?_ | split
    | dsimp -proj only | with_reducible refine Within.u_lsOver ?_ ?_)

theorem lsRetryHot_within {K : Nat} {b s : State} {a2} (hk : K &&& 2306124484190437376 = 2306124484190437376) (h : Within K b s) :
    Within K b (lsRetryHot s a2) := by
  unfold lsRetryHot
  repeat' (first
    | with_reducible assumption | with_reducible refine Within.wr (i := 48) (by simp [Blk_ite]) (by decide) ?_ ?_ ?_
    | with_reducible refine State_setLs_within ?_ ?_ | exact mask_sub hk rfl | with_reducible refine Within.ite ?_ ?_
    | with_reducible refine Within.foldl (fun _ _ _ => ?_) ?_ | split | dsimp -proj only)

theorem strLoss_within {K : Nat} {b s : State} {a2} (hk : K &&& 21945794695184431747 = 21945794695184431747) (h : Within K b s) :
    Within K b (strLoss s a2) := by
  unfold strLoss
  repeat' (first
    | with_reducible assumption | with_reducible refine enterHold_within ?_ ?_
    | with_reducible refine failsafeNow_within ?_ ?_ | with_reducible refine holdStart_within ?_ ?_
    | exact mask_sub hk rfl | with_reducible refine Within.ite ?_ ?_ | split | dsimp -proj only)

theorem strLose_within {K : Nat} {b s : State} {a2 a3} (hk : K &&& 21945794695184431747 = 21945794695184431747) (h : Within K b s) :
    Within K b (strLose s a2 a3) := by
  unfold strLose
  repeat' (first
    | with_reducible assumption | with_reducible refine Within.wr (i := 49) (by simp [Blk_ite]) (by decide) ?_ ?_ ?_
    | with_reducible refine strLoss_within ?_ ?_ | with_reducible refine setLine_within ?_ ?_ | exact mask_sub hk rfl
    | with_reducible refine Within.ite ?_ ?_ | split | dsimp -proj only)

theorem frameBad_within {K : Nat} {b s : State} {a2 a3} (hk : K &&& 21945794695184431747 = 21945794695184431747) (h : Within K b s) :
    Within K b (frameBad s a2 a3) := by
  unfold frameBad
  repeat' (first
    | with_reducible assumption
    | with_reducible refine Within.incSat (i := 49) (by simp [Blk_ite]) (by decide) ?_ ?_ ?_
    | with_reducible refine Within.wr (i := 49) (by simp [Blk_ite]) (by decide) ?_ ?_ ?_
    | with_reducible refine setLine_within ?_ ?_ | with_reducible refine strLose_within ?_ ?_ | exact mask_sub hk rfl
    | with_reducible refine Within.ite ?_ ?_ | split | dsimp -proj only)

theorem frameGood_within {K : Nat} {b s : State} {a2 a3 a4} (hk : K &&& 21945794695184431747 = 21945794695184431747) (h : Within K b s) :
    Within K b (frameGood s a2 a3 a4) := by
  unfold frameGood
  repeat' (first
    | with_reducible assumption | with_reducible refine Within.wr (i := 49) (by simp [Blk_ite]) (by decide) ?_ ?_ ?_
    | with_reducible refine strReturn_within ?_ ?_ | with_reducible refine failsafeNow_within ?_ ?_
    | with_reducible refine setLine_within ?_ ?_ | with_reducible refine strLose_within ?_ ?_ | exact mask_sub hk rfl
    | with_reducible refine Within.ite ?_ ?_ | split | dsimp -proj only | with_reducible refine Within.u_str ?_ ?_)

theorem strLineReset_within {K : Nat} {b s : State} (hk : K &&& 1048576 = 1048576) (h : Within K b s) :
    Within K b (strLineReset s) := by
  unfold strLineReset
  repeat' (first
    | with_reducible assumption | exact mask_sub hk rfl | with_reducible refine Within.ite ?_ ?_ | split
    | dsimp -proj only | with_reducible refine Within.u_str ?_ ?_)

theorem powAccept_within {K : Nat} {b s : State} {a2 a3 a4} (hk : K &&& 2305845208241143936 = 2305845208241143936) (h : Within K b s) :
    Within K b (powAccept s a2 a3 a4) := by
  unfold powAccept
  repeat' (first
    | with_reducible assumption
    | with_reducible refine Within.incSat (i := 41) (by simp [Blk_ite]) (by decide) ?_ ?_ ?_
    | with_reducible refine Within.wr (i := 41) (by simp [Blk_ite]) (by decide) ?_ ?_ ?_
    | with_reducible refine State_took_within ?_ ?_ | exact mask_sub hk rfl | with_reducible refine Within.ite ?_ ?_
    | split | dsimp -proj only | with_reducible refine Within.u_trl ?_ ?_)

theorem powLearn_within {K : Nat} {b s : State} {a2 a3 a4} (hk : K &&& 20752624466322791042 = 20752624466322791042) (h : Within K b s) :
    Within K b (powLearn s a2 a3 a4) := by
  unfold powLearn
  repeat' (first
    | with_reducible assumption
    | with_reducible refine Within.incSat (i := 41) (by simp [Blk_ite]) (by decide) ?_ ?_ ?_
    | with_reducible refine powRecord_within ?_ ?_ | with_reducible refine powEnd_within ?_ ?_
    | with_reducible refine powAccept_within ?_ ?_ | exact mask_sub hk rfl | with_reducible refine Within.ite ?_ ?_
    | split | dsimp -proj only)

theorem powEdge_within {K : Nat} {b s : State} {a1 a2 a3 a4} (hk : K &&& 20752624466322791042 = 20752624466322791042) (h : Within K b s) :
    Within K b (powEdge a1 a2 a3 a4 s) := by
  unfold powEdge
  repeat' (first
    | with_reducible assumption | with_reducible refine powLearn_within ?_ ?_ | exact mask_sub hk rfl
    | with_reducible refine Within.ite ?_ ?_ | split | dsimp -proj only)

theorem dioAccept_within {K : Nat} {b s : State} {a2 a3} (hk : K &&& 20753750366230157954 = 20753750366230157954) (h : Within K b s) :
    Within K b (dioAccept s a2 a3) := by
  unfold dioAccept
  repeat' (first
    | with_reducible assumption
    | with_reducible refine Within.putBit (i := 50) (by simp [Blk_ite]) (by decide) ?_ ?_ ?_
    | with_reducible refine Within.wrB (i := 50) (by simp [Blk_ite]) (by decide) ?_ ?_ ?_
    | with_reducible refine Within.wr (i := 50) (by simp [Blk_ite]) (by decide) ?_ ?_ ?_
    | with_reducible refine powEdge_within ?_ ?_ | with_reducible refine Within.forN (fun _ _ _ _ => ?_) ?_
    | with_reducible refine dioRecord_within ?_ ?_ | with_reducible refine State_setDio_within ?_ ?_
    | exact mask_sub hk rfl | with_reducible refine Within.ite ?_ ?_ | split | dsimp -proj only)

theorem dioRaise_within {K : Nat} {b s : State} {a2 a3 a4} (hk : K &&& 21942698468828002818 = 21942698468828002818) (h : Within K b s) :
    Within K b (dioRaise s a2 a3 a4) := by
  unfold dioRaise
  repeat' (first
    | with_reducible assumption | with_reducible refine dioFault_within ?_ ?_
    | with_reducible refine dioDegrade_within ?_ ?_ | with_reducible refine dioRecord_within ?_ ?_
    | exact mask_sub hk rfl | with_reducible refine Within.ite ?_ ?_ | split | dsimp -proj only)

theorem dioCutOne_within {K : Nat} {b s : State} {a1 a2} (hk : K &&& 20753748167202707970 = 20753748167202707970) (h : Within K b s) :
    Within K b (dioCutOne a1 a2 s) := by
  unfold dioCutOne
  repeat' (first
    | with_reducible assumption | with_reducible refine dioPut_within ?_ ?_
    | with_reducible refine State_setDio_within ?_ ?_ | with_reducible refine dioFault_within ?_ ?_
    | with_reducible refine dioRecord_within ?_ ?_ | exact mask_sub hk rfl | with_reducible refine Within.ite ?_ ?_
    | split | dsimp -proj only)

theorem dioCut_within {K : Nat} {b s : State} {a2 a3} (hk : K &&& 20753748167202707970 = 20753748167202707970) (h : Within K b s) :
    Within K b (dioCut s a2 a3) := by
  unfold dioCut
  repeat' (first
    | with_reducible assumption | with_reducible refine dioCutOne_within ?_ ?_ | exact mask_sub hk rfl
    | with_reducible refine Within.ite ?_ ?_ | with_reducible refine Within.foldl (fun _ _ _ => ?_) ?_ | split
    | dsimp -proj only)

theorem dioRetryOne_within {K : Nat} {b s : State} {a1} (hk : K &&& 20753748167202707970 = 20753748167202707970) (h : Within K b s) :
    Within K b (dioRetryOne a1 s) := by
  unfold dioRetryOne
  repeat' (first
    | with_reducible assumption | with_reducible refine Within.wr (i := 50) (by simp [Blk_ite]) (by decide) ?_ ?_ ?_
    | with_reducible refine dioRecord_within ?_ ?_ | with_reducible refine dioUpdate_within ?_ ?_
    | exact mask_sub hk rfl | with_reducible refine Within.ite ?_ ?_ | split | dsimp -proj only)

theorem canSysRecord_within {K : Nat} {b s : State} {a2 a3} (hk : K &&& 20752622267295341058 = 20752622267295341058) (h : Within K b s) :
    Within K b (canSysRecord s a2 a3) := by
  unfold canSysRecord
  repeat' (first
    | with_reducible assumption | with_reducible refine hwPost_within ?_ ?_ | exact mask_sub hk rfl
    | with_reducible refine Within.ite ?_ ?_ | split | dsimp -proj only)

theorem boffBuf_within {K : Nat} {b s : State} {a1 a2} (hk : K &&& 20754874067645897218 = 20754874067645897218) (h : Within K b s) :
    Within K b (boffBuf a1 a2 s) := by
  unfold boffBuf
  repeat' (first
    | with_reducible assumption | with_reducible refine Within.wr (i := 51) (by simp [Blk_ite]) (by decide) ?_ ?_ ?_
    | with_reducible refine bufPut_within ?_ ?_ | with_reducible refine bufAbort_within ?_ ?_ | exact mask_sub hk rfl
    | with_reducible refine Within.ite ?_ ?_ | split | dsimp -proj only)

theorem canBusOff_within {K : Nat} {b s : State} {a2} (hk : K &&& 20754874067645897218 = 20754874067645897218) (h : Within K b s) :
    Within K b (canBusOff s a2) := by
  unfold canBusOff
  repeat' (first
    | with_reducible assumption | with_reducible refine Within.wr (i := 51) (by simp [Blk_ite]) (by decide) ?_ ?_ ?_
    | with_reducible refine Within.incSat (i := 51) (by simp [Blk_ite]) (by decide) ?_ ?_ ?_
    | with_reducible refine boffBuf_within ?_ ?_ | with_reducible refine Within.forN (fun _ _ _ _ => ?_) ?_
    | with_reducible refine canSysRecord_within ?_ ?_ | exact mask_sub hk rfl | with_reducible refine Within.ite ?_ ?_
    | split | dsimp -proj only)

theorem canCount_within {K : Nat} {b s : State} {a2 a3 a4} (hk : K &&& 20754874067645897218 = 20754874067645897218) (h : Within K b s) :
    Within K b (canCount s a2 a3 a4) := by
  unfold canCount
  repeat' (first
    | with_reducible assumption | with_reducible refine Within.wr (i := 51) (by simp [Blk_ite]) (by decide) ?_ ?_ ?_
    | with_reducible refine Within.wrB (i := 51) (by simp [Blk_ite]) (by decide) ?_ ?_ ?_
    | with_reducible refine canSysRecord_within ?_ ?_ | with_reducible refine canBusOff_within ?_ ?_
    | exact mask_sub hk rfl | with_reducible refine Within.ite ?_ ?_ | split | dsimp -proj only)

theorem rxCount_within {K : Nat} {b s : State} {a2} (hk : K &&& 20754874067645897346 = 20754874067645897346) (h : Within K b s) :
    Within K b (rxCount s a2) := by
  unfold rxCount
  repeat' (first
    | with_reducible assumption | with_reducible refine State_took_within ?_ ?_
    | with_reducible refine canCount_within ?_ ?_ | exact mask_sub hk rfl | with_reducible refine Within.ite ?_ ?_
    | split | dsimp -proj only)

theorem pairForward_within {K : Nat} {b s : State} {a2 a3} (hk : K &&& 2308094809564250112 = 2308094809564250112) (h : Within K b s) :
    Within K b (pairForward s a2 a3) := by
  unfold pairForward
  repeat' (first
    | with_reducible assumption
    | with_reducible refine Within.incSat (i := 51) (by simp [Blk_ite]) (by decide) ?_ ?_ ?_
    | with_reducible refine canSystem_within ?_ ?_ | exact mask_sub hk rfl | with_reducible refine Within.ite ?_ ?_
    | split | dsimp -proj only)

theorem mirrorResetRx_within {K : Nat} {b s : State} {a2} (hk : K &&& 2097152 = 2097152) (h : Within K b s) :
    Within K b (mirrorResetRx s a2) := by
  unfold mirrorResetRx
  repeat' (first
    | with_reducible assumption | exact mask_sub hk rfl | with_reducible refine Within.ite ?_ ?_ | split
    | dsimp -proj only | with_reducible refine Within.u_pom ?_ ?_)

theorem setGwDst_within {K : Nat} {b s : State} {a2 a3} (hk : K &&& 2147483648 = 2147483648) (h : Within K b s) :
    Within K b (setGwDst s a2 a3) := by
  unfold setGwDst
  repeat' (first
    | with_reducible assumption | exact mask_sub hk rfl | with_reducible refine Within.ite ?_ ?_ | split
    | dsimp -proj only | with_reducible refine Within.u_gw ?_ ?_)

theorem gwSendOne_within {K : Nat} {b s : State} {a2} (hk : K &&& 2308094811711733760 = 2308094811711733760) (h : Within K b s) :
    Within K b (gwSendOne s a2) := by
  unfold gwSendOne
  repeat' (first
    | with_reducible assumption | with_reducible refine canSystem_within ?_ ?_
    | with_reducible refine setGwDst_within ?_ ?_ | exact mask_sub hk rfl | with_reducible refine Within.ite ?_ ?_
    | split | dsimp -proj only)

theorem gwService_within {K : Nat} {b s : State} {a1} (hk : K &&& 2308094811711733760 = 2308094811711733760) (h : Within K b s) :
    Within K b (gwService a1 s) := by
  unfold gwService
  repeat' (first
    | with_reducible assumption | with_reducible refine gwSendOne_within ?_ ?_
    | with_reducible refine Within.forN (fun _ _ _ _ => ?_) ?_ | exact mask_sub hk rfl
    | with_reducible refine Within.ite ?_ ?_ | split | dsimp -proj only)

theorem gwDue_within {K : Nat} {b s : State} {a2} (hk : K &&& 2308094811711733760 = 2308094811711733760) (h : Within K b s) :
    Within K b (gwDue s a2) := by
  unfold gwDue
  repeat' (first
    | with_reducible assumption | with_reducible refine gwService_within ?_ ?_
    | with_reducible refine setGwDst_within ?_ ?_ | exact mask_sub hk rfl | with_reducible refine Within.ite ?_ ?_
    | split | dsimp -proj only)

theorem gwRun_within {K : Nat} {b s : State} {a2 a3} (hk : K &&& 2308094811711733760 = 2308094811711733760)
    (h2 : ∀ t k, Within K b t → Within K b (a3 t k).1) (h : Within K b s) : Within K b (gwRun s a2 a3) := by
  have key : ∀ (l : List Nat) (p : State × List Nat), Within K b p.1 →
      Within K b (l.foldl (fun (a : State × List Nat) k => let x := a3 a.1 k; (x.1, a.2 ++ x.2)) p).1 := by
    intro l
    induction l with
    | nil => exact fun p hp => hp
    | cons k r ih => exact fun p hp => ih _ (h2 _ _ hp)
  exact Within.foldl (fun _ _ h => gwDue_within (mask_sub hk rfl) h) (key _ _ h)

theorem gwPut_within_fst {K : Nat} {b s : State} {a2 a3} (hk : K &&& 2147483648 = 2147483648) (h : Within K b s) :
    Within K b (gwPut s a2 a3).1 := by
  change WithinP K b (gwPut s a2 a3)
  unfold gwPut
  repeat' (first
    | with_reducible assumption | with_reducible refine setGwDst_within ?_ ?_ | exact mask_sub hk rfl
    | with_reducible refine Within.ite ?_ ?_ | with_reducible refine WithinP.ite ?_ ?_ | split | dsimp -proj only
    | with_reducible refine WithinP.mk ?_)

theorem gwPut_within {K : Nat} {b s : State} {a2 a3} (hk : K &&& 2147483648 = 2147483648) (h : Within K b s) {t r} (e : gwPut s a2 a3 = (t, r)) :
    Within K b t := by
  have := gwPut_within_fst (s := s) (a2 := a2) (a3 := a3) hk h
  rw [e] at this
  exact this

theorem gwEval_within_fst {K : Nat} {b s : State} {a2 a3} (hk : K &&& 2147483648 = 2147483648) (h : Within K b s) :
    Within K b (gwEval s a2 a3).1 := by
  change WithinP K b (gwEval s a2 a3)
  unfold gwEval
  repeat' (first
    | with_reducible assumption | with_reducible refine gwPut_within_fst ?_ ?_
    | with_reducible refine gwPut_within ?_ ?_ (by assumption) | exact mask_sub hk rfl
    | with_reducible refine Within.ite ?_ ?_ | with_reducible refine WithinP.ite ?_ ?_ | split | dsimp -proj only
    | with_reducible refine WithinP.mk ?_ | with_reducible refine Within.u_gw ?_ ?_)

theorem gwEval_within {K : Nat} {b s : State} {a2 a3} (hk : K &&& 2147483648 = 2147483648) (h : Within K b s) {t r} (e : gwEval s a2 a3 = (t, r)) :
    Within K b t := by
  have := gwEval_within_fst (s := s) (a2 := a2) (a3 := a3) hk h
  rw [e] at this
  exact this

theorem gwMatch_within {K : Nat} {b s : State} {a2 a3} (hk : K &&& 2308094811711733760 = 2308094811711733760) (h : Within K b s) :
    Within K b (gwMatch s a2 a3) := by
  unfold gwMatch
  repeat' (first
    | with_reducible assumption | with_reducible refine gwEval_within_fst ?_ ?_
    | with_reducible refine gwEval_within ?_ ?_ (by assumption)
    | with_reducible refine gwRun_within ?_ (fun _ _ _ => ?_) ?_ | exact mask_sub hk rfl
    | with_reducible refine Within.ite ?_ ?_ | split | dsimp -proj only | with_reducible refine Within.u_gw ?_ ?_)

theorem gwSource_within {K : Nat} {b s : State} {a2 a3} (hk : K &&& 2308094811711733760 = 2308094811711733760) (h : Within K b s) :
    Within K b (gwSource s a2 a3) := by
  unfold gwSource
  repeat' (first
    | with_reducible assumption | with_reducible refine gwMatch_within ?_ ?_ | exact mask_sub hk rfl
    | with_reducible refine Within.ite ?_ ?_ | with_reducible refine Within.foldl (fun _ _ _ => ?_) ?_ | split
    | dsimp -proj only)

theorem rxPlot_within {K : Nat} {b s : State} {a1 a2 a3 a4} (hk : K &&& 20754874067109026306 = 20754874067109026306) (h : Within K b s) :
    Within K b (rxPlot a1 a2 a3 a4 s) := by
  unfold rxPlot
  repeat' (first
    | with_reducible assumption
    | with_reducible refine Within.incSat (i := 51) (by simp [Blk_ite]) (by decide) ?_ ?_ ?_
    | with_reducible refine Within.wr (i := 51) (by simp [Blk_ite]) (by decide) ?_ ?_ ?_
    | with_reducible refine hwPost_within ?_ ?_ | exact mask_sub hk rfl | with_reducible refine Within.ite ?_ ?_
    | split | dsimp -proj only)

theorem bufStart_within {K : Nat} {b s : State} {a2 a3} (hk : K &&& 20754874067645897218 = 20754874067645897218) (h : Within K b s) :
    Within K b (bufStart s a2 a3) := by
  unfold bufStart
  repeat' (first
    | with_reducible assumption | with_reducible refine Within.wr (i := 51) (by simp [Blk_ite]) (by decide) ?_ ?_ ?_
    | with_reducible refine bufPut_within ?_ ?_ | with_reducible refine setCanBuf_within ?_ ?_
    | with_reducible refine bufAbort_within ?_ ?_ | exact mask_sub hk rfl | with_reducible refine Within.ite ?_ ?_
    | split | dsimp -proj only)

theorem bufFail_within {K : Nat} {b s : State} {a2 a3} (hk : K &&& 20754874067645897218 = 20754874067645897218) (h : Within K b s) :
    Within K b (bufFail s a2 a3) := by
  unfold bufFail
  repeat' (first
    | with_reducible assumption | with_reducible refine bufPut_within ?_ ?_
    | with_reducible refine bufAbort_within ?_ ?_ | exact mask_sub hk rfl | with_reducible refine Within.ite ?_ ?_
    | split | dsimp -proj only)

theorem syncAck_within {K : Nat} {b s : State} {a2 a3 a4} (hk : K &&& 20754878465700796930 = 20754878465700796930) (h : Within K b s) :
    Within K b (syncAck s a2 a3 a4) := by
  unfold syncAck
  repeat' (first
    | with_reducible assumption | with_reducible refine fupDrop_within ?_ ?_ | exact mask_sub hk rfl
    | with_reducible refine Within.ite ?_ ?_ | split | dsimp -proj only | with_reducible refine Within.u_pt ?_ ?_)

theorem nsOpen_within {K : Nat} {b s : State} {a2} (hk : K &&& 2308094810637992448 = 2308094810637992448) (h : Within K b s) :
    Within K b (nsOpen s a2) := by
  unfold nsOpen
  repeat' (first
    | with_reducible assumption
    | with_reducible refine Within.incSat (i := 51) (by simp [Blk_ite]) (by decide) ?_ ?_ ?_
    | with_reducible refine nsTo_within ?_ ?_ | with_reducible refine nsSync_within ?_ ?_ | exact mask_sub hk rfl
    | with_reducible refine Within.ite ?_ ?_ | split | dsimp -proj only | with_reducible refine Within.u_ns ?_ ?_)

theorem bufSent_within {K : Nat} {b s : State} {a2 a3 a4 a5 a6} (hk : K &&& 20754878466774538754 = 20754878466774538754) (h : Within K b s) :
    Within K b (bufSent s a2 a3 a4 a5 a6) := by
  unfold bufSent
  repeat' (first
    | with_reducible assumption | with_reducible refine Within.wr (i := 51) (by simp [Blk_ite]) (by decide) ?_ ?_ ?_
    | with_reducible refine Within.incSat (i := 51) (by simp [Blk_ite]) (by decide) ?_ ?_ ?_
    | with_reducible refine nsOpen_within ?_ ?_ | with_reducible refine bufRecord_within ?_ ?_
    | with_reducible refine sysNext_within ?_ ?_ | with_reducible refine syncAck_within ?_ ?_
    | with_reducible refine bufPut_within ?_ ?_ | with_reducible refine setCanBuf_within ?_ ?_
    | with_reducible refine State_emit_within ?_ ?_ | with_reducible refine canCount_within ?_ ?_
    | exact mask_sub hk rfl | with_reducible refine Within.ite ?_ ?_ | split | dsimp -proj only
    | with_reducible refine Within.u_pt ?_ ?_)

theorem errCount_within {K : Nat} {b s : State} {a2 a3 a4 a5} (hk : K &&& 20754874067645897218 = 20754874067645897218) (h : Within K b s) :
    Within K b (errCount s a2 a3 a4 a5) := by
  unfold errCount
  repeat' (first
    | with_reducible assumption | with_reducible refine canCount_within ?_ ?_ | exact mask_sub hk rfl
    | with_reducible refine Within.ite ?_ ?_ | split | dsimp -proj only)

theorem swkWake_within {K : Nat} {b s : State} {a2 a3 a4} {i : Nat} (hf : Blk a3 i) (hi : i ≠ 0) (hki : K &&& 2 ^ i = 2 ^ i) (hk : K &&& 23058428429967735443 = 23058428429967735443) (h : Within K b s) :
    Within K b (swkWake s a2 a3 a4) := by
  unfold swkWake
  repeat' (first
    | with_reducible assumption | with_reducible refine Within.wr (i := 51) (by simp [Blk_ite]) (by decide) ?_ ?_ ?_
    | with_reducible refine Within.wr hf hi hki ?_ ?_ | with_reducible refine canSysRecord_within ?_ ?_
    | with_reducible refine wake_within ?_ ?_ | exact mask_sub hk rfl | with_reducible refine Within.ite ?_ ?_ | split
    | dsimp -proj only)

theorem nsTake_within {K : Nat} {b s : State} {a2 a3 a4} (hk : K &&& 2308094810637992448 = 2308094810637992448)
    (h3 : ∀ t, Within K b t → Within K b (a4 t)) (h : Within K b s) : Within K b (nsTake s a2 a3 a4) := by
  have hm : ∀ f, Blk f 51 → Within K b (s.wr f 1) :=
    fun f hf => Within.wr hf (by decide) (mask_sub hk rfl) (mask_sub hk rfl) h
  have h2 : Within K b (if nsRing a2 = s.rd F.NS_RING_RING then s else s.wr F.NS_FLT_MISMATCH 1) :=
    Within.ite h (hm _ (by simp))
  exact Within.ite h (Within.ite (hm _ (by simp)) (Within.ite h (Within.ite h
    (Within.ite (nsSync_within (mask_sub hk rfl) (nsAbort_within (mask_sub hk rfl) h2)) (nsSync_within (mask_sub hk rfl) (h3 _ h2))))))

theorem nsToken_within {K : Nat} {b s : State} {a1} (hk : K &&& 2308094810637992448 = 2308094810637992448) (h : Within K b s) :
    Within K b (nsToken a1 s) := by
  unfold nsToken
  repeat' (first
    | with_reducible assumption | with_reducible refine Within.wr (i := 51) (by simp [Blk_ite]) (by decide) ?_ ?_ ?_
    | with_reducible refine Within.incSat (i := 51) (by simp [Blk_ite]) (by decide) ?_ ?_ ?_
    | with_reducible refine nsAbort_within ?_ ?_ | with_reducible refine nsTo_within ?_ ?_
    | with_reducible refine nsSend_within ?_ ?_ | exact mask_sub hk rfl | with_reducible refine Within.ite ?_ ?_
    | split | dsimp -proj only | with_reducible refine Within.u_ns ?_ ?_)

theorem nsCommit_within {K : Nat} {b s : State} {a1 a2} (hk : K &&& 2308094810637992448 = 2308094810637992448) (h : Within K b s) :
    Within K b (nsCommit a1 a2 s) := by
  unfold nsCommit
  repeat' (first
    | with_reducible assumption | with_reducible refine Within.wr (i := 51) (by simp [Blk_ite]) (by decide) ?_ ?_ ?_
    | with_reducible refine nsOpen_within ?_ ?_ | exact mask_sub hk rfl | with_reducible refine Within.ite ?_ ?_
    | split | dsimp -proj only)

theorem nsStop_within {K : Nat} {b s : State} {a1 a2} (hk : K &&& 23058428429967735443 = 23058428429967735443) (h : Within K b s) :
    Within K b (nsStop a1 a2 s) := by
  unfold nsStop
  repeat' (first
    | with_reducible assumption
    | with_reducible refine Within.incSat (i := 51) (by simp [Blk_ite]) (by decide) ?_ ?_ ?_
    | with_reducible refine Within.wr (i := 51) (by simp [Blk_ite]) (by decide) ?_ ?_ ?_
    | with_reducible refine nsEnd_within ?_ ?_ | with_reducible refine wakeRun_within ?_ ?_
    | with_reducible refine nsAbort_within ?_ ?_ | exact mask_sub hk rfl | with_reducible refine Within.ite ?_ ?_
    | split | dsimp -proj only)

theorem inboundAccess_within {K : Nat} {b s : State} {a2 a3 a4 a5 a6 a7 a8} (hk : K &&& 27670114461296885695 = 27670114461296885695) (h : Within K b s) :
    Within K b (inboundAccess s a2 a3 a4 a5 a6 a7 a8) := by
  unfold inboundAccess
  repeat' (first
    | with_reducible assumption | with_reducible refine localAccess_within ?_ ?_
    | with_reducible refine State_status_within ?_ ?_ | with_reducible refine State_took_within ?_ ?_
    | with_reducible refine State_answer_within ?_ ?_ | exact mask_sub hk rfl | with_reducible refine Within.ite ?_ ?_
    | split | dsimp -proj only)

theorem stitchFence_within {K : Nat} {b s : State} {a2 a3 a4 a5 a6 a7} (hk : K &&& 20759377680158169602 = 20759377680158169602) (h : Within K b s) :
    Within K b (stitchFence s a2 a3 a4 a5 a6 a7) := by
  unfold stitchFence
  repeat' (first
    | with_reducible assumption | with_reducible refine Within.wr (i := 52) (by simp [Blk_ite]) (by decide) ?_ ?_ ?_
    | with_reducible refine fenceStart_within ?_ ?_ | with_reducible refine sesReply_within ?_ ?_
    | exact mask_sub hk rfl | with_reducible refine Within.ite ?_ ?_ | split | dsimp -proj only)

theorem gwSubst_within_fst {K : Nat} {b s : State} {a2} (hk : K &&& 2147483648 = 2147483648) (h : Within K b s) :
    Within K b (gwSubst s a2).1 := by
  change WithinP K b (gwSubst s a2)
  unfold gwSubst
  repeat' (first
    | with_reducible assumption | with_reducible refine gwPut_within_fst ?_ ?_
    | with_reducible refine gwPut_within ?_ ?_ (by assumption) | exact mask_sub hk rfl
    | with_reducible refine Within.ite ?_ ?_ | with_reducible refine WithinP.ite ?_ ?_ | split | dsimp -proj only
    | with_reducible refine WithinP.mk ?_ | with_reducible refine Within.u_gw ?_ ?_)

theorem gwSubst_within {K : Nat} {b s : State} {a2} (hk : K &&& 2147483648 = 2147483648) (h : Within K b s) {t r} (e : gwSubst s a2 = (t, r)) :
    Within K b t := by
  have := gwSubst_within_fst (s := s) (a2 := a2) hk h
  rw [e] at this
  exact this

theorem takeMessage_within {K : Nat} {b s : State} {a2 a3} (hk : K &&& 8589934592 = 8589934592) (h : Within K b s) {t} (e : takeMessage s a2 a3 = some t) :
    Within K b t := by
  unfold takeMessage at e
  dsimp -proj only at e
  repeat' (split at e)
  all_goals cases e
  all_goals repeat' (first
    | with_reducible assumption | exact mask_sub hk rfl | with_reducible refine Within.ite ?_ ?_
    | with_reducible refine WithinP.ite ?_ ?_ | split | dsimp -proj only | with_reducible refine Within.u_ses ?_ ?_)

theorem sesCount_within {K : Nat} {b s : State} {a2} (hk : K &&& 4 = 4) (h : Within K b s) :
    Within K b (sesCount s a2) := by
  unfold sesCount
  repeat' (first
    | with_reducible assumption | with_reducible refine State_setObj_within ?_ ?_ | exact mask_sub hk rfl
    | with_reducible refine Within.ite ?_ ?_ | split | dsimp -proj only)

theorem sesNonce_within_snd {K : Nat} {b s : State} (hk : K &&& 128 = 128) (h : Within K b s) :
    Within K b (sesNonce s).2 := by
  unfold sesNonce
  try dsimp -proj only
  repeat' (first
    | with_reducible assumption | with_reducible refine State_took_within ?_ ?_ | exact mask_sub hk rfl
    | with_reducible refine Within.ite ?_ ?_ | with_reducible refine WithinP.ite ?_ ?_ | split | dsimp -proj only
    | with_reducible refine WithinP.mk ?_)

theorem sesNonce_within {K : Nat} {b s : State} (hk : K &&& 128 = 128) (h : Within K b s) {r t} (e : sesNonce s = (r, t)) :
    Within K b t := by
  have := sesNonce_within_snd (s := s) hk h
  rw [e] at this
  exact this

theorem sesOpen_within {K : Nat} {b s : State} {a2 a3 a4 a5} (hk : K &&& 2308094818154185344 = 2308094818154185344) (h : Within K b s) :
    Within K b (sesOpen s a2 a3 a4 a5) := by
  unfold sesOpen
  repeat' (first
    | with_reducible assumption | with_reducible refine setSession_within ?_ ?_
    | with_reducible refine segSend_within ?_ ?_ | with_reducible refine State_emit_within ?_ ?_
    | with_reducible refine sesNonce_within_snd ?_ ?_ | with_reducible refine sesNonce_within ?_ ?_ (by assumption)
    | exact mask_sub hk rfl | with_reducible refine Within.ite ?_ ?_ | split | dsimp -proj only)

theorem datagramCheck_within_fst {K : Nat} {b s : State} {a2} (hk : K &&& 8589934596 = 8589934596) (h : Within K b s) :
    Within K b (datagramCheck s a2).1 := by
  change WithinP K b (datagramCheck s a2)
  unfold datagramCheck
  repeat' (first
    | with_reducible assumption | with_reducible refine setSession_within ?_ ?_
    | with_reducible refine sesCount_within ?_ ?_ | exact mask_sub hk rfl | with_reducible refine Within.ite ?_ ?_
    | with_reducible refine WithinP.ite ?_ ?_ | split | dsimp -proj only | with_reducible refine WithinP.mk ?_)

theorem datagramCheck_within {K : Nat} {b s : State} {a2} (hk : K &&& 8589934596 = 8589934596) (h : Within K b s) {t r} (e : datagramCheck s a2 = (t, r)) :
    Within K b t := by
  have := datagramCheck_within_fst (s := s) (a2 := a2) hk h
  rw [e] at this
  exact this

theorem setAsm_within {K : Nat} {b s : State} {a2 a3} (hk : K &&& 8589934592 = 8589934592) (h : Within K b s) :
    Within K b (setAsm s a2 a3) := by
  unfold setAsm
  repeat' (first
    | with_reducible assumption | with_reducible refine setSession_within ?_ ?_ | exact mask_sub hk rfl
    | with_reducible refine Within.ite ?_ ?_ | split | dsimp -proj only)

theorem writeReply_within {K : Nat} {b s : State} {a2 a3 a4 a5 a6 a7 a8 a9 a10} (hk : K &&& 20754874076235831810 = 20754874076235831810) (h : Within K b s) :
    Within K b (writeReply s a2 a3 a4 a5 a6 a7 a8 a9 a10) := by
  unfold writeReply
  repeat' (first
    | with_reducible assumption | with_reducible refine sesReply_within ?_ ?_ | exact mask_sub hk rfl
    | with_reducible refine Within.ite ?_ ?_ | split | dsimp -proj only)

theorem keepNum_within {K : Nat} {b s : State} {a2 a3 a4 a5 a6 a7} (hk : K &&& 8589934592 = 8589934592) (h : Within K b s) :
    Within K b (keepNum s a2 a3 a4 a5 a6 a7) := by
  unfold keepNum
  repeat' (first
    | with_reducible assumption | exact mask_sub hk rfl | with_reducible refine Within.ite ?_ ?_ | split
    | dsimp -proj only | with_reducible refine Within.u_ses ?_ ?_)

theorem onOne_within {K : Nat} {b s : State} {a2 a3} (hk : K &&& 256 = 256)
    (h2 : ∀ t, Within K b t → Within K b (a3 t)) (h : Within K b s) : Within K b (onOne s a2 a3) :=
  Within.ite (h2 _ h) (State_status_within (mask_sub hk rfl) h)

theorem bitsWrite_within {K : Nat} {b s : State} {a2 a3 a4 a5 a6 a7} (hk : K &&& 27670114461296885695 = 27670114461296885695) (h : Within K b s) :
    Within K b (bitsWrite s a2 a3 a4 a5 a6 a7) := by
  unfold bitsWrite
  repeat' (first
    | with_reducible assumption | with_reducible refine regWrite_within ?_ ?_
    | with_reducible refine State_status_within ?_ ?_ | exact mask_sub hk rfl | with_reducible refine Within.ite ?_ ?_
    | split | dsimp -proj only)

theorem jobKindWrite_within {K : Nat} {b s : State} {a2 a3 a4} (hk : K &&& 274877907200 = 274877907200) (h : Within K b s) :
    Within K b (jobKindWrite s a2 a3 a4) := by
  unfold jobKindWrite
  repeat' (first
    | with_reducible assumption | with_reducible refine State_setJob_within ?_ ?_
    | with_reducible refine State_status_within ?_ ?_ | exact mask_sub hk rfl | with_reducible refine Within.ite ?_ ?_
    | split | dsimp -proj only)

theorem dumpChoose_within {K : Nat} {b s : State} {a2} (hk : K &&& 274877906946 = 274877906946) (h : Within K b s) :
    Within K b (dumpChoose s a2) := by
  unfold dumpChoose
  repeat' (first
    | with_reducible assumption | with_reducible refine dumpSelect_within ?_ ?_ | exact mask_sub hk rfl
    | with_reducible refine Within.ite ?_ ?_ | split | dsimp -proj only)

theorem jobResume_within {K : Nat} {b s : State} {a2} (hk : K &&& 20752692911185861122 = 20752692911185861122) (h : Within K b s) :
    Within K b (jobResume s a2) := by
  unfold jobResume
  repeat' (first
    | with_reducible assumption | with_reducible refine sweepDrop_within ?_ ?_
    | with_reducible refine jobTo_within ?_ ?_ | exact mask_sub hk rfl | with_reducible refine Within.ite ?_ ?_ | split
    | dsimp -proj only)

theorem transferStart_within {K : Nat} {b s : State} {a2} (hk : K &&& 2594073454084882432 = 2594073454084882432) (h : Within K b s) :
    Within K b (transferStart s a2) := by
  unfold transferStart
  repeat' (first
    | with_reducible assumption | with_reducible refine Within.wr (i := 58) (by simp [Blk_ite]) (by decide) ?_ ?_ ?_
    | with_reducible refine State_setBank_within ?_ ?_ | exact mask_sub hk rfl | with_reducible refine Within.ite ?_ ?_
    | split | dsimp -proj only)

theorem dumpStart_within {K : Nat} {b s : State} {a2} (hk : K &&& 2 = 2) (h : Within K b s) :
    Within K b (dumpStart s a2) := by
  unfold dumpStart
  repeat' (first
    | with_reducible assumption | with_reducible refine dumpHead_within ?_ ?_ | exact mask_sub hk rfl
    | with_reducible refine Within.ite ?_ ?_ | split | dsimp -proj only)

theorem kuBegin_within {K : Nat} {b s : State} {a2} (hk : K &&& 309237645312 = 309237645312) (h : Within K b s) :
    Within K b (kuBegin s a2) := by
  unfold kuBegin
  repeat' (first
    | with_reducible assumption | with_reducible refine State_setJob_within ?_ ?_
    | with_reducible refine journalAppend_within ?_ ?_ | exact mask_sub hk rfl | with_reducible refine Within.ite ?_ ?_
    | split | dsimp -proj only | with_reducible refine Within.u_clo ?_ ?_)

theorem jobBegin_within {K : Nat} {b s : State} {a2} (hk : K &&& 22256897506014149122 = 22256897506014149122) (h : Within K b s) :
    Within K b (jobBegin s a2) := by
  unfold jobBegin
  repeat' (first
    | with_reducible assumption | with_reducible refine freezeStart_within ?_ ?_
    | with_reducible refine kuBegin_within ?_ ?_ | with_reducible refine dumpStart_within ?_ ?_
    | with_reducible refine sweepDrop_within ?_ ?_ | with_reducible refine transferStart_within ?_ ?_
    | exact mask_sub hk rfl | with_reducible refine Within.ite ?_ ?_ | split | dsimp -proj only
    | with_reducible refine Within.u_grf ?_ ?_)

theorem jobRun_within {K : Nat} {b s : State} {a2} (hk : K &&& 22259149307438447106 = 22259149307438447106) (h : Within K b s) :
    Within K b (jobRun s a2) := by
  unfold jobRun
  repeat' (first
    | with_reducible assumption | with_reducible refine jobBegin_within ?_ ?_
    | with_reducible refine State_setJob_within ?_ ?_ | with_reducible refine jobTo_within ?_ ?_
    | with_reducible refine jobResume_within ?_ ?_ | with_reducible refine nsSync_within ?_ ?_ | exact mask_sub hk rfl
    | with_reducible refine Within.ite ?_ ?_ | split | dsimp -proj only)

theorem jobAccept_within {K : Nat} {b s : State} {a2} (hk : K &&& 22259149857194260994 = 22259149857194260994) (h : Within K b s) :
    Within K b (jobAccept s a2) := by
  unfold jobAccept
  repeat' (first
    | with_reducible assumption | with_reducible refine jobTo_within ?_ ?_ | with_reducible refine jobRun_within ?_ ?_
    | with_reducible refine State_setJob_within ?_ ?_ | exact mask_sub hk rfl | with_reducible refine Within.ite ?_ ?_
    | split | dsimp -proj only | with_reducible refine Within.u_jobSeq ?_ ?_)

theorem jobStart_within {K : Nat} {b s : State} {a2 a3 a4 a5} (hk : K &&& 22259149857194261250 = 22259149857194261250) (h : Within K b s) :
    Within K b (jobStart s a2 a3 a4 a5) := by
  unfold jobStart
  repeat' (first
    | with_reducible assumption | with_reducible refine Within.wr (i := 54) (by simp [Blk_ite]) (by decide) ?_ ?_ ?_
    | with_reducible refine jobAccept_within ?_ ?_ | with_reducible refine dumpChoose_within ?_ ?_
    | with_reducible refine State_setJob_within ?_ ?_ | with_reducible refine State_status_within ?_ ?_
    | exact mask_sub hk rfl | with_reducible refine Within.ite ?_ ?_ | split | dsimp -proj only)

theorem sweepOpenDrop_within {K : Nat} {b s : State} {a2} (hk : K &&& 268435456 = 268435456) (h : Within K b s) :
    Within K b (sweepOpenDrop s a2) := by
  unfold sweepOpenDrop
  repeat' (first
    | with_reducible assumption | exact mask_sub hk rfl | with_reducible refine Within.ite ?_ ?_ | split
    | dsimp -proj only | with_reducible refine Within.u_til ?_ ?_)

theorem jobSuspend_within {K : Nat} {b s : State} {a2 a3} (hk : K &&& 20752692911185861378 = 20752692911185861378) (h : Within K b s) :
    Within K b (jobSuspend s a2 a3) := by
  unfold jobSuspend
  repeat' (first
    | with_reducible assumption | with_reducible refine sweepOpenDrop_within ?_ ?_
    | with_reducible refine jobTo_within ?_ ?_ | with_reducible refine State_status_within ?_ ?_
    | exact mask_sub hk rfl | with_reducible refine Within.ite ?_ ?_ | split | dsimp -proj only)

theorem jobResumeCmd_within {K : Nat} {b s : State} {a2 a3} (hk : K &&& 22259149857194261250 = 22259149857194261250) (h : Within K b s) :
    Within K b (jobResumeCmd s a2 a3) := by
  unfold jobResumeCmd
  repeat' (first
    | with_reducible assumption | with_reducible refine jobAccept_within ?_ ?_
    | with_reducible refine State_status_within ?_ ?_ | exact mask_sub hk rfl | with_reducible refine Within.ite ?_ ?_
    | split | dsimp -proj only)

theorem jobCancel_within {K : Nat} {b s : State} {a2 a3} (hk : K &&& 21968667129862437634 = 21968667129862437634) (h : Within K b s) :
    Within K b (jobCancel s a2 a3) := by
  unfold jobCancel
  repeat' (first
    | with_reducible assumption | with_reducible refine jobEnd_within ?_ ?_
    | with_reducible refine State_status_within ?_ ?_ | exact mask_sub hk rfl | with_reducible refine Within.ite ?_ ?_
    | split | dsimp -proj only)

theorem jobArgWrite_within {K : Nat} {b s : State} {a2 a3 a4 a5} (hk : K &&& 274877907200 = 274877907200) (h : Within K b s) :
    Within K b (jobArgWrite s a2 a3 a4 a5) := by
  unfold jobArgWrite
  repeat' (first
    | with_reducible assumption | with_reducible refine State_setJob_within ?_ ?_
    | with_reducible refine State_status_within ?_ ?_ | exact mask_sub hk rfl | with_reducible refine Within.ite ?_ ?_
    | split | dsimp -proj only)

theorem jobWrite_within {K : Nat} {b s : State} {a2 a3 a4 a5 a6 a7} (hk : K &&& 22259149857194261250 = 22259149857194261250) (h : Within K b s) :
    Within K b (jobWrite s a2 a3 a4 a5 a6 a7) := by
  unfold jobWrite
  repeat' (first
    | with_reducible assumption | with_reducible refine jobArgWrite_within ?_ ?_
    | with_reducible refine State_status_within ?_ ?_ | with_reducible refine jobCancel_within ?_ ?_
    | with_reducible refine jobResumeCmd_within ?_ ?_ | with_reducible refine jobSuspend_within ?_ ?_
    | with_reducible refine jobStart_within ?_ ?_ | with_reducible refine jobKindWrite_within ?_ ?_
    | exact mask_sub hk rfl | with_reducible refine Within.ite ?_ ?_ | split | dsimp -proj only)

theorem settingsDefaults_within {K : Nat} {b s : State} {a2} (hk : K &&& 8589934848 = 8589934848) (h : Within K b s) :
    Within K b (settingsDefaults s a2) := by
  unfold settingsDefaults
  repeat' (first
    | with_reducible assumption | with_reducible refine State_status_within ?_ ?_ | exact mask_sub hk rfl
    | with_reducible refine Within.ite ?_ ?_ | split | dsimp -proj only | with_reducible refine Within.u_ses ?_ ?_)

theorem otherWrite_within {K : Nat} {b s : State} {a2 a3 a4 a5 a6 a7 a8} (hk : K &&& 27670115011052699583 = 27670115011052699583) (h : Within K b s) :
    Within K b (otherWrite s a2 a3 a4 a5 a6 a7 a8) := by
  unfold otherWrite
  repeat' (first
    | with_reducible assumption | with_reducible refine debugClose_within ?_ ?_
    | with_reducible refine ctrIncrement_within ?_ ?_ | with_reducible refine tablesCommit_within ?_ ?_
    | with_reducible refine regWrite_within ?_ ?_ | with_reducible refine tilCtlWrite_within ?_ ?_
    | with_reducible refine pomManual_within ?_ ?_ | with_reducible refine pomTripReset_within ?_ ?_
    | with_reducible refine State_status_within ?_ ?_ | with_reducible refine modeRequest_within ?_ ?_
    | with_reducible refine settingsDefaults_within ?_ ?_ | with_reducible refine plotCommand_within ?_ ?_
    | with_reducible refine canRecover_within ?_ ?_ | with_reducible refine onOne_within ?_ (fun _ _ => ?_) ?_
    | with_reducible refine jobWrite_within ?_ ?_ | exact mask_sub hk rfl | with_reducible refine Within.ite ?_ ?_
    | split | dsimp -proj only | with_reducible refine Within.u_girth ?_ ?_)

theorem numWrite_within {K : Nat} {b s : State} {a2 a3 a4 a5 a6 a7 a8 a9 a10 a11} (hk : K &&& 27670115011052699583 = 27670115011052699583) (h : Within K b s) :
    Within K b (numWrite s a2 a3 a4 a5 a6 a7 a8 a9 a10 a11) := by
  unfold numWrite
  repeat' (first
    | with_reducible assumption
    | with_reducible refine Within.hostWr (i := 55) (by simp [Blk_ite]) (by decide) ?_ ?_ ?_
    | with_reducible refine otherWrite_within ?_ ?_ | with_reducible refine pomParamWrite_within ?_ ?_
    | with_reducible refine State_setObj_within ?_ ?_ | with_reducible refine bitsWrite_within ?_ ?_
    | with_reducible refine dioWriteClear_within ?_ ?_ | with_reducible refine dioWriteOn_within ?_ ?_
    | with_reducible refine lsWriteClear_within ?_ ?_ | with_reducible refine onOne_within ?_ (fun _ _ => ?_) ?_
    | with_reducible refine lsWriteOn_within ?_ ?_ | with_reducible refine State_status_within ?_ ?_
    | exact mask_sub hk rfl | with_reducible refine Within.ite ?_ ?_ | split | dsimp -proj only
    | with_reducible refine Within.u_objs ?_ ?_)

theorem keepBytes_within {K : Nat} {b s : State} {a2 a3 a4 a5} (hk : K &&& 8589934592 = 8589934592) (h : Within K b s) :
    Within K b (keepBytes s a2 a3 a4 a5) := by
  unfold keepBytes
  repeat' (first
    | with_reducible assumption | exact mask_sub hk rfl | with_reducible refine Within.ite ?_ ?_ | split
    | dsimp -proj only | with_reducible refine Within.u_ses ?_ ?_)

theorem profWrite_within {K : Nat} {b s : State} {a2 a3} (hk : K &&& 4611683819404132608 = 4611683819404132608) (h : Within K b s) :
    Within K b (profWrite s a2 a3) := by
  unfold profWrite
  repeat' (first
    | with_reducible assumption | with_reducible refine loadWords_within ?_ ?_
    | with_reducible refine lsCheckProf_within ?_ ?_ | with_reducible refine State_status_within ?_ ?_
    | exact mask_sub hk rfl | with_reducible refine Within.ite ?_ ?_ | split | dsimp -proj only)

end Sys2Proof.Machine
end

