-- ==== Sys2Proof/Laws/FrameOps6.lean ====
section
/-! SUPPORT. What each operation can change: one lemma an operation, by its own steps (part 6). -/

set_option linter.all false

namespace Sys2Proof.Machine

theorem paramWrite_within {K : Nat} {b s : State} {a2 a3 a4} (hk : K &&& 258 = 258) (h : Within K b s) :
    Within K b (paramWrite s a2 a3 a4) := by
  unfold paramWrite
  repeat' (first
    | with_reducible assumption | with_reducible refine State_putBytes_within ?_ ?_
    | with_reducible refine State_status_within ?_ ?_ | exact mask_sub hk rfl | with_reducible refine Within.ite ?_ ?_
    | split | dsimp -proj only)

theorem cloReject_within {K : Nat} {b s : State} {a2 a3} {i : Nat} (hf : Blk a2 i) (hi : i ≠ 0) (hki : K &&& 2 ^ i = 2 ^ i) (hk : K &&& 23058428369838193539 = 23058428369838193539) (h : Within K b s) :
    Within K b (cloReject s a2 a3) := by
  unfold cloReject
  repeat' (first
    | with_reducible assumption | with_reducible refine Within.wr hf hi hki ?_ ?_
    | with_reducible refine State_status_within ?_ ?_ | with_reducible refine tamper_within ?_ ?_
    | with_reducible refine tamperSync_within ?_ ?_ | exact mask_sub hk rfl | with_reducible refine Within.ite ?_ ?_
    | split | dsimp -proj only | with_reducible refine Within.u_clo ?_ ?_)

theorem debugToken_within {K : Nat} {b s : State} {a2 a3} (hk : K &&& 23058428369838193539 = 23058428369838193539) (h : Within K b s) :
    Within K b (debugToken s a2 a3) := by
  unfold debugToken
  repeat' (first
    | with_reducible assumption | with_reducible refine Within.wr (i := 54) (by simp [Blk_ite]) (by decide) ?_ ?_ ?_
    | with_reducible refine State_status_within ?_ ?_ | with_reducible refine zeroSlots_within ?_ ?_
    | with_reducible refine closeSessions_within ?_ ?_
    | with_reducible refine cloReject_within (i := 54) (by simp [Blk_ite]) (by decide) ?_ ?_ ?_ | exact mask_sub hk rfl
    | with_reducible refine Within.ite ?_ ?_ | split | dsimp -proj only | with_reducible refine Within.u_clo ?_ ?_)

theorem lcmDo_within {K : Nat} {b s : State} {a2} (hk : K &&& 4611683853763870720 = 4611683853763870720) (h : Within K b s) :
    Within K b (lcmDo s a2) := by
  unfold lcmDo
  repeat' (first
    | with_reducible assumption | with_reducible refine logMark_within ?_ ?_
    | with_reducible refine zeroSlots_within ?_ ?_ | with_reducible refine lcSync_within ?_ ?_
    | with_reducible refine ctrSet_within ?_ ?_ | exact mask_sub hk rfl | with_reducible refine Within.ite ?_ ?_
    | split | dsimp -proj only | with_reducible refine Within.u_clo ?_ ?_)

theorem lifecycleMessage_within {K : Nat} {b s : State} {a2 a3 a4} (hk : K &&& 27670114461296819135 = 27670114461296819135) (h : Within K b s) :
    Within K b (lifecycleMessage s a2 a3 a4) := by
  unfold lifecycleMessage
  repeat' (first
    | with_reducible assumption | with_reducible refine warmStart_within ?_ ?_
    | with_reducible refine restart_within ?_ ?_ | with_reducible refine State_status_within ?_ ?_
    | with_reducible refine lcmDo_within ?_ ?_
    | with_reducible refine cloReject_within (i := 54) (by simp [Blk_ite]) (by decide) ?_ ?_ ?_ | exact mask_sub hk rfl
    | with_reducible refine Within.ite ?_ ?_ | split | dsimp -proj only)

theorem journalPut_within {K : Nat} {b s : State} {a2} (hk : K &&& 34359738368 = 34359738368) (h : Within K b s) :
    Within K b (journalPut s a2) := by
  unfold journalPut
  repeat' (first
    | with_reducible assumption | exact mask_sub hk rfl | with_reducible refine Within.ite ?_ ?_ | split
    | dsimp -proj only | with_reducible refine Within.u_clo ?_ ?_)

theorem provisionDo_within {K : Nat} {b s : State} {a2} (hk : K &&& 2882303795876855936 = 2882303795876855936) (h : Within K b s) :
    Within K b (provisionDo s a2) := by
  unfold provisionDo
  repeat' (first
    | with_reducible assumption | with_reducible refine journalPut_within ?_ ?_
    | with_reducible refine journalAppend_within ?_ ?_ | with_reducible refine lcSync_within ?_ ?_
    | with_reducible refine State_took_within ?_ ?_ | exact mask_sub hk rfl | with_reducible refine Within.ite ?_ ?_
    | split | dsimp -proj only | with_reducible refine Within.u_clo ?_ ?_)

theorem provision_within {K : Nat} {b s : State} {a2 a3} (hk : K &&& 27670114461296819135 = 27670114461296819135) (h : Within K b s) :
    Within K b (provision s a2 a3) := by
  unfold provision
  repeat' (first
    | with_reducible assumption | with_reducible refine provisionDo_within ?_ ?_
    | with_reducible refine warmStart_within ?_ ?_ | with_reducible refine State_status_within ?_ ?_
    | exact mask_sub hk rfl | with_reducible refine Within.ite ?_ ?_ | split | dsimp -proj only)

theorem transferCheck_within {K : Nat} {b s : State} {a2} (hk : K &&& 21040923355788614146 = 21040923355788614146) (h : Within K b s) :
    Within K b (transferCheck s a2) := by
  unfold transferCheck
  repeat' (first
    | with_reducible assumption | with_reducible refine State_setBank_within ?_ ?_
    | with_reducible refine jobTo_within ?_ ?_ | exact mask_sub hk rfl | with_reducible refine Within.ite ?_ ?_ | split
    | dsimp -proj only)

theorem blockWrite_within_fst {K : Nat} {b s : State} {a2 a3 a4} (hk : K &&& 21040923355788614146 = 21040923355788614146) (h : Within K b s) :
    Within K b (blockWrite s a2 a3 a4).1 := by
  change WithinP K b (blockWrite s a2 a3 a4)
  unfold blockWrite
  repeat' (first
    | with_reducible assumption | with_reducible refine Within.wr (i := 58) (by simp [Blk_ite]) (by decide) ?_ ?_ ?_
    | with_reducible refine State_setJob_within ?_ ?_ | with_reducible refine transferCheck_within ?_ ?_
    | with_reducible refine State_setBank_within ?_ ?_ | exact mask_sub hk rfl | with_reducible refine Within.ite ?_ ?_
    | with_reducible refine Within.foldl (fun _ _ _ => ?_) ?_ | with_reducible refine WithinP.ite ?_ ?_ | split
    | dsimp -proj only | with_reducible refine WithinP.mk ?_)

theorem blockWrite_within {K : Nat} {b s : State} {a2 a3 a4} (hk : K &&& 21040923355788614146 = 21040923355788614146) (h : Within K b s) {t r} (e : blockWrite s a2 a3 a4 = (t, r)) :
    Within K b t := by
  have := blockWrite_within_fst (s := s) (a2 := a2) (a3 := a3) (a4 := a4) hk h
  rw [e] at this
  exact this

theorem bytesWrite_within {K : Nat} {b s : State} {a2 a3 a4 a5 a6 a7 a8} (hk : K &&& 27670114461296819135 = 27670114461296819135) (h : Within K b s) :
    Within K b (bytesWrite s a2 a3 a4 a5 a6 a7 a8) := by
  unfold bytesWrite
  repeat' (first
    | with_reducible assumption | with_reducible refine blockWrite_within_fst ?_ ?_
    | with_reducible refine blockWrite_within ?_ ?_ (by assumption) | with_reducible refine idLoad_within ?_ ?_
    | with_reducible refine provision_within ?_ ?_ | with_reducible refine lifecycleMessage_within ?_ ?_
    | with_reducible refine debugToken_within ?_ ?_ | with_reducible refine State_putBytes_within ?_ ?_
    | with_reducible refine paramWrite_within ?_ ?_ | with_reducible refine loadWords_within ?_ ?_
    | with_reducible refine profWrite_within ?_ ?_ | with_reducible refine State_status_within ?_ ?_
    | exact mask_sub hk rfl | with_reducible refine Within.ite ?_ ?_ | split | dsimp -proj only
    | with_reducible refine Within.u_objBytes ?_ ?_ | with_reducible refine Within.u_pc ?_ ?_
    | with_reducible refine Within.u_clo ?_ ?_)

theorem serveWrite_within {K : Nat} {b s : State} {a2 a3 a4 a5 a6 a7 a8 a9 a10} (hk : K &&& 27670115011052699583 = 27670115011052699583) (h : Within K b s) :
    Within K b (serveWrite s a2 a3 a4 a5 a6 a7 a8 a9 a10) := by
  unfold serveWrite
  repeat' (first
    | with_reducible assumption | with_reducible refine bytesWrite_within ?_ ?_
    | with_reducible refine keepBytes_within ?_ ?_ | with_reducible refine setAsm_within ?_ ?_
    | with_reducible refine numWrite_within ?_ ?_ | with_reducible refine keepNum_within ?_ ?_
    | with_reducible refine stitchFence_within ?_ ?_ | with_reducible refine writeReply_within ?_ ?_
    | exact mask_sub hk rfl | with_reducible refine Within.ite ?_ ?_ | split | dsimp -proj only)

theorem bitsRead_within_fst {K : Nat} {b s : State} {a2 a3 a4 a5 a6 a7 a8} (hk : K &&& 4611683819404132736 = 4611683819404132736) (h : Within K b s) :
    Within K b (bitsRead s a2 a3 a4 a5 a6 a7 a8).1 := by
  change WithinP K b (bitsRead s a2 a3 a4 a5 a6 a7 a8)
  unfold bitsRead
  repeat' (first
    | with_reducible assumption | with_reducible refine State_clearRc_within ?_ ?_
    | with_reducible refine State_clearRc_in_within ?_ ?_ | with_reducible refine State_status_within ?_ ?_
    | with_reducible refine freeRead_within (i := 54) (by simp [Blk_ite]) (by decide) ?_ ?_ ?_ | exact mask_sub hk rfl
    | with_reducible refine Within.ite ?_ ?_ | with_reducible refine WithinP.ite ?_ ?_ | split | dsimp -proj only
    | with_reducible refine WithinP.mk ?_)

theorem bitsRead_within {K : Nat} {b s : State} {a2 a3 a4 a5 a6 a7 a8} (hk : K &&& 4611683819404132736 = 4611683819404132736) (h : Within K b s) {t r} (e : bitsRead s a2 a3 a4 a5 a6 a7 a8 = (t, r)) :
    Within K b t := by
  have := bitsRead_within_fst (s := s) (a2 := a2) (a3 := a3) (a4 := a4) (a5 := a5) (a6 := a6) (a7 := a7) (a8 := a8) hk h
  rw [e] at this
  exact this

theorem msrValue_within_fst {K : Nat} {b s : State} {a2 a3} (hk : K &&& 128 = 128) (h : Within K b s) :
    Within K b (msrValue s a2 a3).1 := by
  change WithinP K b (msrValue s a2 a3)
  unfold msrValue
  repeat' (first
    | with_reducible assumption | with_reducible refine State_took_within ?_ ?_ | exact mask_sub hk rfl
    | with_reducible refine Within.ite ?_ ?_ | with_reducible refine WithinP.ite ?_ ?_ | split | dsimp -proj only
    | with_reducible refine WithinP.mk ?_)

theorem msrValue_within {K : Nat} {b s : State} {a2 a3} (hk : K &&& 128 = 128) (h : Within K b s) {t r} (e : msrValue s a2 a3 = (t, r)) :
    Within K b t := by
  have := msrValue_within_fst (s := s) (a2 := a2) (a3 := a3) hk h
  rw [e] at this
  exact this

theorem otherRead_within_fst {K : Nat} {b s : State} {a2 a3 a4 a5 a6} (hk : K &&& 2305849606283460992 = 2305849606283460992) (h : Within K b s) :
    Within K b (otherRead s a2 a3 a4 a5 a6).1 := by
  change WithinP K b (otherRead s a2 a3 a4 a5 a6)
  unfold otherRead
  repeat' (first
    | with_reducible assumption | with_reducible refine ptNowRead_within ?_ ?_
    | with_reducible refine trlNowRead_within ?_ ?_ | with_reducible refine State_status_within ?_ ?_
    | with_reducible refine msrValue_within_fst ?_ ?_ | with_reducible refine msrValue_within ?_ ?_ (by assumption)
    | exact mask_sub hk rfl | with_reducible refine Within.ite ?_ ?_ | with_reducible refine WithinP.ite ?_ ?_ | split
    | dsimp -proj only | with_reducible refine WithinP.mk ?_)

theorem otherRead_within {K : Nat} {b s : State} {a2 a3 a4 a5 a6} (hk : K &&& 2305849606283460992 = 2305849606283460992) (h : Within K b s) {t r} (e : otherRead s a2 a3 a4 a5 a6 = (t, r)) :
    Within K b t := by
  have := otherRead_within_fst (s := s) (a2 := a2) (a3 := a3) (a4 := a4) (a5 := a5) (a6 := a6) hk h
  rw [e] at this
  exact this

theorem objRead_within_fst {K : Nat} {b s : State} {a2 a3 a4 a5 a6 a7 a8} (hk : K &&& 4611683819404132740 = 4611683819404132740) (h : Within K b s) :
    Within K b (objRead s a2 a3 a4 a5 a6 a7 a8).1 := by
  change WithinP K b (objRead s a2 a3 a4 a5 a6 a7 a8)
  unfold objRead
  repeat' (first
    | with_reducible assumption | with_reducible refine otherRead_within_fst ?_ ?_
    | with_reducible refine otherRead_within ?_ ?_ (by assumption) | with_reducible refine State_setObj_within ?_ ?_
    | with_reducible refine bitsRead_within_fst ?_ ?_ | with_reducible refine bitsRead_within ?_ ?_ (by assumption)
    | exact mask_sub hk rfl | with_reducible refine Within.ite ?_ ?_ | with_reducible refine WithinP.ite ?_ ?_ | split
    | dsimp -proj only | with_reducible refine WithinP.mk ?_)

theorem objRead_within {K : Nat} {b s : State} {a2 a3 a4 a5 a6 a7 a8} (hk : K &&& 4611683819404132740 = 4611683819404132740) (h : Within K b s) {t r} (e : objRead s a2 a3 a4 a5 a6 a7 a8 = (t, r)) :
    Within K b t := by
  have := objRead_within_fst (s := s) (a2 := a2) (a3 := a3) (a4 := a4) (a5 := a5) (a6 := a6) (a7 := a7) (a8 := a8) hk h
  rw [e] at this
  exact this

theorem pieceReply_within {K : Nat} {b s : State} {a2 a3 a4 a5 a6 a7 a8} (hk : K &&& 20754874076235831810 = 20754874076235831810) (h : Within K b s) :
    Within K b (pieceReply s a2 a3 a4 a5 a6 a7 a8) := by
  unfold pieceReply
  repeat' (first
    | with_reducible assumption | with_reducible refine sesReply_within ?_ ?_ | exact mask_sub hk rfl
    | with_reducible refine Within.ite ?_ ?_ | split | dsimp -proj only)

theorem setSnap_within {K : Nat} {b s : State} {a2 a3} (hk : K &&& 8589934592 = 8589934592) (h : Within K b s) :
    Within K b (setSnap s a2 a3) := by
  unfold setSnap
  repeat' (first
    | with_reducible assumption | with_reducible refine setSession_within ?_ ?_ | exact mask_sub hk rfl
    | with_reducible refine Within.ite ?_ ?_ | split | dsimp -proj only)

theorem serveRead_within {K : Nat} {b s : State} {a2 a3 a4 a5 a6 a7 a8 a9} (hk : K &&& 23058427902240496518 = 23058427902240496518) (h : Within K b s) :
    Within K b (serveRead s a2 a3 a4 a5 a6 a7 a8 a9) := by
  unfold serveRead
  repeat' (first
    | with_reducible assumption | with_reducible refine setSnap_within ?_ ?_
    | with_reducible refine pieceReply_within ?_ ?_ | with_reducible refine objRead_within_fst ?_ ?_
    | with_reducible refine objRead_within ?_ ?_ (by assumption) | with_reducible refine sesReply_within ?_ ?_
    | exact mask_sub hk rfl | with_reducible refine Within.ite ?_ ?_ | split | dsimp -proj only)

theorem serve_within {K : Nat} {b s : State} {a2 a3 a4 a5 a6 a7 a8} (hk : K &&& 27670115011052699583 = 27670115011052699583) (h : Within K b s) :
    Within K b (serve s a2 a3 a4 a5 a6 a7 a8) := by
  unfold serve
  repeat' (first
    | with_reducible assumption | with_reducible refine serveRead_within ?_ ?_
    | with_reducible refine serveWrite_within ?_ ?_ | with_reducible refine localReply_within ?_ ?_
    | with_reducible refine setAsm_within ?_ ?_ | with_reducible refine sesReply_within ?_ ?_ | exact mask_sub hk rfl
    | with_reducible refine Within.ite ?_ ?_ | split | dsimp -proj only | with_reducible refine Within.u_ses ?_ ?_
    | with_reducible refine Within.u_resp ?_ ?_)

theorem request_within {K : Nat} {b s : State} {a2 a3 a4} (hk : K &&& 27670115011052699583 = 27670115011052699583) (h : Within K b s) :
    Within K b (request s a2 a3 a4) := by
  unfold request
  repeat' (first
    | with_reducible assumption | with_reducible refine serve_within ?_ ?_
    | with_reducible refine setSession_within ?_ ?_ | with_reducible refine stitchSend_within ?_ ?_
    | with_reducible refine sesCount_within ?_ ?_ | with_reducible refine datagramCheck_within_fst ?_ ?_
    | with_reducible refine datagramCheck_within ?_ ?_ (by assumption)
    | with_reducible refine takeMessage_within ?_ ?_ (by assumption) | exact mask_sub hk rfl
    | with_reducible refine Within.ite ?_ ?_ | split | dsimp -proj only)

theorem segGot_within {K : Nat} {b s : State} {a2 a3} (hk : K &&& 8589934592 = 8589934592) (h : Within K b s) :
    Within K b (segGot s a2 a3) := by
  unfold segGot
  repeat' (first
    | with_reducible assumption | exact mask_sub hk rfl | with_reducible refine Within.ite ?_ ?_ | split
    | dsimp -proj only | with_reducible refine Within.u_ses ?_ ?_)

theorem segDropRx_within {K : Nat} {b s : State} {a2 a3} (hk : K &&& 8589934592 = 8589934592) (h : Within K b s) :
    Within K b (segDropRx s a2 a3) := by
  unfold segDropRx
  repeat' (first
    | with_reducible assumption | exact mask_sub hk rfl | with_reducible refine Within.ite ?_ ?_ | split
    | dsimp -proj only | with_reducible refine Within.u_ses ?_ ?_)

theorem segDropTx_within {K : Nat} {b s : State} {a2} (hk : K &&& 8589934592 = 8589934592) (h : Within K b s) :
    Within K b (segDropTx s a2) := by
  unfold segDropTx
  repeat' (first
    | with_reducible assumption | exact mask_sub hk rfl | with_reducible refine Within.ite ?_ ?_ | split
    | dsimp -proj only | with_reducible refine Within.u_ses ?_ ?_)

theorem segOne_within {K : Nat} {b s : State} {a2 a3} (hk : K &&& 2308094818154184704 = 2308094818154184704) (h : Within K b s) :
    Within K b (segOne s a2 a3) := by
  unfold segOne
  repeat' (first
    | with_reducible assumption | with_reducible refine canSystem_within ?_ ?_ | exact mask_sub hk rfl
    | with_reducible refine Within.ite ?_ ?_ | split | dsimp -proj only | with_reducible refine Within.u_ses ?_ ?_)

theorem segNext_within {K : Nat} {b s : State} {a2 a3} (hk : K &&& 2308094818154184704 = 2308094818154184704) (h : Within K b s) :
    Within K b (segNext s a2 a3) := by
  induction a3 generalizing s a2 with
  | zero => exact h
  | succ _ ih =>
  unfold segNext
  repeat' (first
    | with_reducible assumption | with_reducible refine ih ?_ | with_reducible refine segOne_within ?_ ?_
    | exact mask_sub hk rfl | with_reducible refine Within.ite ?_ ?_ | split | dsimp -proj only)

theorem localTake_within {K : Nat} {b s : State} {a2} (hk : K &&& 2305878193585789440 = 2305878193585789440) (h : Within K b s) {r r2 t} (e : localTake s a2 = some (r, r2, t)) :
    Within K b t := by
  unfold localTake at e
  dsimp -proj only at e
  repeat' (split at e)
  all_goals cases e
  all_goals repeat' (first
    | with_reducible assumption | with_reducible refine State_setQueue_within ?_ ?_
    | with_reducible refine furSync_within ?_ ?_ | exact mask_sub hk rfl | with_reducible refine Within.ite ?_ ?_
    | with_reducible refine WithinP.ite ?_ ?_ | split | dsimp -proj only)

theorem selfTestDone_within {K : Nat} {b s : State} {a2} (hk : K &&& 21945443125268758018 = 21945443125268758018) (h : Within K b s) :
    Within K b (selfTestDone s a2) := by
  unfold selfTestDone
  repeat' (first
    | with_reducible assumption | with_reducible refine Within.wr (i := 46) (by simp [Blk_ite]) (by decide) ?_ ?_ ?_
    | with_reducible refine injection_within ?_ ?_ | with_reducible refine jobTo_within ?_ ?_
    | with_reducible refine tilDegrade_within ?_ ?_ | exact mask_sub hk rfl | with_reducible refine Within.ite ?_ ?_
    | split | dsimp -proj only)

theorem kuCommit_within {K : Nat} {b s : State} {a2} (hk : K &&& 2323857716960821248 = 2323857716960821248) (h : Within K b s) :
    Within K b (kuCommit s a2) := by
  unfold kuCommit
  repeat' (first
    | with_reducible assumption | with_reducible refine ctrSet_within ?_ ?_
    | with_reducible refine journalAppend_within ?_ ?_ | with_reducible refine State_setJob_within ?_ ?_
    | with_reducible refine journalPut_within ?_ ?_ | exact mask_sub hk rfl | with_reducible refine Within.ite ?_ ?_
    | with_reducible refine Within.foldl (fun _ _ _ => ?_) ?_ | split | dsimp -proj only
    | with_reducible refine Within.u_clo ?_ ?_)

theorem kuLoad_within {K : Nat} {b s : State} {a2} (hk : K &&& 23058428210941270530 = 23058428210941270530) (h : Within K b s) :
    Within K b (kuLoad s a2) := by
  unfold kuLoad
  repeat' (first
    | with_reducible assumption | with_reducible refine closeSessions_within ?_ ?_
    | with_reducible refine jobTo_within ?_ ?_ | with_reducible refine loadSlot_within ?_ ?_ | exact mask_sub hk rfl
    | with_reducible refine Within.ite ?_ ?_ | with_reducible refine Within.foldl (fun _ _ _ => ?_) ?_ | split
    | dsimp -proj only | with_reducible refine Within.u_clo ?_ ?_)

theorem saveDone_within {K : Nat} {b s : State} {a2} (hk : K &&& 21950652628005304834 = 21950652628005304834) (h : Within K b s) :
    Within K b (saveDone s a2) := by
  unfold saveDone
  repeat' (first
    | with_reducible assumption | with_reducible refine jobTo_within ?_ ?_
    | with_reducible refine plotThaw_within ?_ ?_ | with_reducible refine State_setPlot_within ?_ ?_
    | exact mask_sub hk rfl | with_reducible refine Within.ite ?_ ?_ | split | dsimp -proj only)

theorem recomStore_within {K : Nat} {b s : State} {a2} (hk : K &&& 48 = 48) (h : Within K b s) :
    Within K b (recomStore s a2) := by
  unfold recomStore
  repeat' (first
    | with_reducible assumption | exact mask_sub hk rfl | with_reducible refine Within.ite ?_ ?_ | split
    | dsimp -proj only | with_reducible refine Within.u_settings ?_ ?_
    | with_reducible refine Within.u_settingsBytes ?_ ?_)

theorem recomDone_within {K : Nat} {b s : State} {a2} (hk : K &&& 22256897506014149174 = 22256897506014149174) (h : Within K b s) :
    Within K b (recomDone s a2) := by
  unfold recomDone
  repeat' (first
    | with_reducible assumption | with_reducible refine Within.wr (i := 58) (by simp [Blk_ite]) (by decide) ?_ ?_ ?_
    | with_reducible refine jobTo_within ?_ ?_ | with_reducible refine recomStore_within ?_ ?_
    | with_reducible refine State_setObj_within ?_ ?_ | with_reducible refine jobEnd_within ?_ ?_
    | exact mask_sub hk rfl | with_reducible refine Within.ite ?_ ?_
    | with_reducible refine Within.foldl (fun _ _ _ => ?_) ?_ | split | dsimp -proj only
    | with_reducible refine Within.u_grf ?_ ?_)

theorem drainEnd_within {K : Nat} {b s : State} {a2} (hk : K &&& 20768384879412910594 = 20768384879412910594) (h : Within K b s) :
    Within K b (drainEnd s a2) := by
  unfold drainEnd
  repeat' (first
    | with_reducible assumption | with_reducible refine Within.wr (i := 53) (by simp [Blk_ite]) (by decide) ?_ ?_ ?_
    | with_reducible refine postFailAll_within ?_ ?_ | exact mask_sub hk rfl | with_reducible refine Within.ite ?_ ?_
    | split | dsimp -proj only)

theorem plotScrub_within {K : Nat} {b s : State} {a2} (hk : K &&& 18446744073709551618 = 18446744073709551618) (h : Within K b s) :
    Within K b (plotScrub s a2) := by
  unfold plotScrub
  repeat' (first
    | with_reducible assumption | with_reducible refine State_dropMem_within ?_ ?_
    | with_reducible refine Within.forN (fun _ _ _ _ => ?_) ?_ | exact mask_sub hk rfl
    | with_reducible refine Within.ite ?_ ?_ | split | dsimp -proj only)

theorem plotComplete_within {K : Nat} {b s : State} {a2} (hk : K &&& 23058427923715340802 = 23058427923715340802) (h : Within K b s) :
    Within K b (plotComplete s a2) := by
  unfold plotComplete
  repeat' (first
    | with_reducible assumption
    | with_reducible refine Within.incWrap (i := 53) (by simp [Blk_ite]) (by decide) ?_ ?_ ?_
    | with_reducible refine Within.incSat (i := 53) (by simp [Blk_ite]) (by decide) ?_ ?_ ?_
    | with_reducible refine plotRecord_within ?_ ?_ | with_reducible refine plotDegrade_within ?_ ?_
    | with_reducible refine plotTo_within ?_ ?_ | with_reducible refine State_setPlot_within ?_ ?_
    | with_reducible refine State_setQueue_within ?_ ?_ | with_reducible refine furSync_within ?_ ?_
    | with_reducible refine plotProgram_within ?_ ?_ | with_reducible refine plotScrub_within ?_ ?_
    | with_reducible refine setCanBuf_within ?_ ?_ | with_reducible refine bufPut_within ?_ ?_
    | with_reducible refine Within.forN (fun _ _ _ _ => ?_) ?_ | with_reducible refine drainEnd_within ?_ ?_
    | exact mask_sub hk rfl | with_reducible refine Within.ite ?_ ?_
    | with_reducible refine Within.foldl (fun _ _ _ => ?_) ?_ | split | dsimp -proj only)

theorem imageStore_within {K : Nat} {b s : State} {a2 a3} (hk : K &&& 21968667129862437506 = 21968667129862437506) (h : Within K b s) :
    Within K b (imageStore s a2 a3) := by
  unfold imageStore
  repeat' (first
    | with_reducible assumption | with_reducible refine State_took_within ?_ ?_
    | with_reducible refine State_putBytes_within ?_ ?_ | with_reducible refine jobEnd_within ?_ ?_
    | exact mask_sub hk rfl | with_reducible refine Within.ite ?_ ?_ | split | dsimp -proj only
    | with_reducible refine Within.u_pc ?_ ?_)

theorem freezeDone_within {K : Nat} {b s : State} {a2} (hk : K &&& 21975422542725266050 = 21975422542725266050) (h : Within K b s) :
    Within K b (freezeDone s a2) := by
  unfold freezeDone
  repeat' (first
    | with_reducible assumption | with_reducible refine plotThaw_within ?_ ?_
    | with_reducible refine imageStore_within ?_ ?_ | with_reducible refine State_emit_within ?_ ?_
    | with_reducible refine plotRecord_within ?_ ?_ | with_reducible refine State_setPlot_within ?_ ?_
    | with_reducible refine plotTo_within ?_ ?_ | with_reducible refine drainEnd_within ?_ ?_ | exact mask_sub hk rfl
    | with_reducible refine Within.ite ?_ ?_ | split | dsimp -proj only)

theorem debugDrop_within {K : Nat} {b s : State} {a2} (hk : K &&& 2323857407723175936 = 2323857407723175936) (h : Within K b s) :
    Within K b (debugDrop s a2) := by
  unfold debugDrop
  repeat' (first
    | with_reducible assumption
    | with_reducible refine Within.clrBit (i := 54) (by simp [Blk_ite]) (by decide) ?_ ?_ ?_ | exact mask_sub hk rfl
    | with_reducible refine Within.ite ?_ ?_ | split | dsimp -proj only)

theorem plotLeave_within {K : Nat} {b s : State} {a2} (hk : K &&& 3525792967980235264 = 3525792967980235264) (h : Within K b s) :
    Within K b (plotLeave s a2) := by
  unfold plotLeave
  repeat' (first
    | with_reducible assumption | with_reducible refine Within.hwWr (i := 41) (by simp [Blk_ite]) (by decide) ?_ ?_ ?_
    | with_reducible refine Within.hwWr (i := 51) (by simp [Blk_ite]) (by decide) ?_ ?_ ?_
    | with_reducible refine dioGive_within ?_ ?_ | with_reducible refine lsOffer_within ?_ ?_
    | with_reducible refine debugDrop_within ?_ ?_ | with_reducible refine closeSessions_within ?_ ?_
    | with_reducible refine furEmpty_within ?_ ?_ | with_reducible refine furSync_within ?_ ?_
    | with_reducible refine setCanBuf_within ?_ ?_ | with_reducible refine bufPut_within ?_ ?_
    | with_reducible refine Within.forN (fun _ _ _ _ => ?_) ?_ | with_reducible refine State_setPlot_within ?_ ?_
    | with_reducible refine plotTo_within ?_ ?_ | exact mask_sub hk rfl | with_reducible refine Within.ite ?_ ?_
    | with_reducible refine Within.foldl (fun _ _ _ => ?_) ?_ | split | dsimp -proj only)

theorem serdesBack_within {K : Nat} {b s : State} (hk : K &&& 3494793310839513088 = 3494793310839513088) (h : Within K b s) :
    Within K b (serdesBack s) := by
  unfold serdesBack
  repeat' (first
    | with_reducible assumption | with_reducible refine Within.wr (i := 55) (by simp [Blk_ite]) (by decide) ?_ ?_ ?_
    | with_reducible refine xingSync_within ?_ ?_ | with_reducible refine State_degrade_within ?_ ?_
    | exact mask_sub hk rfl | with_reducible refine Within.ite ?_ ?_ | split | dsimp -proj only
    | with_reducible refine Within.u_girth ?_ ?_)

theorem latLaunchCtl_within {K : Nat} {b s : State} {a2 a3 a4} (hk : K &&& 33554944 = 33554944) (h : Within K b s) :
    Within K b (latLaunchCtl s a2 a3 a4) := by
  unfold latLaunchCtl
  repeat' (first
    | with_reducible assumption | with_reducible refine State_setRing_within ?_ ?_
    | with_reducible refine State_emit_within ?_ ?_ | exact mask_sub hk rfl | with_reducible refine Within.ite ?_ ?_
    | with_reducible refine Within.foldl (fun _ _ _ => ?_) ?_ | split | dsimp -proj only)

theorem latWindowRing_within {K : Nat} {b s : State} {a1} (hk : K &&& 33554944 = 33554944) (h : Within K b s) :
    Within K b (latWindowRing a1 s) := by
  unfold latWindowRing
  repeat' (first
    | with_reducible assumption | with_reducible refine latLaunchCtl_within ?_ ?_
    | with_reducible refine State_setRing_within ?_ ?_ | with_reducible refine State_emit_within ?_ ?_
    | exact mask_sub hk rfl | with_reducible refine Within.ite ?_ ?_
    | with_reducible refine Within.foldl (fun _ _ _ => ?_) ?_ | split | dsimp -proj only)

theorem postApplied_within {K : Nat} {b s : State} (hk : K &&& 20759377680158169602 = 20759377680158169602) (h : Within K b s) :
    Within K b (postApplied s) := by
  unfold postApplied
  repeat' (first
    | with_reducible assumption | with_reducible refine fenceStep_within ?_ ?_
    | with_reducible refine postRelease_within ?_ ?_ | exact mask_sub hk rfl | with_reducible refine Within.ite ?_ ?_
    | split | dsimp -proj only | with_reducible refine Within.u_br ?_ ?_)

theorem find?_filter_of (m : SMap Nat) (q : Nat × Nat → Bool) (k : Nat) (hq : ∀ v, q (k, v) = true) :
    SMap.find? (m.filter q) k = SMap.find? m k := by
  induction m with
  | nil => rfl
  | cons e r ih =>
    obtain ⟨j, v⟩ := e
    by_cases hj : k = j
    · subst hj
      simp [List.filter_cons, hq, SMap.find?]
    · by_cases hv : q (j, v) = true
      · simp [List.filter_cons, hv, SMap.find?, hj, ih]
      · simp [List.filter_cons, hv, SMap.find?, hj, ih]

theorem reseat_within {K : Nat} {b s : State} (hk : K &&& 36893488147419103231 = 36893488147419103231) (h : Within K b s) : Within K b (reseat s) := by
  have hr : ∀ i, i < 65 → K &&& 2 ^ i = 2 ^ i := fun i hi => mask_sub hk (by interval_cases i <;> rfl)
  unfold reseat
  refine subSync_within (mask_sub hk rfl) ?_
  refine Within.wr (i := 55) (by simp) (by decide) (hr _ (by decide)) (hr _ (by decide)) ?_
  refine Within.wr (i := 55) (by simp) (by decide) (hr _ (by decide)) (hr _ (by decide)) ?_
  refine Within.wr (i := 55) (by simp) (by decide) (hr _ (by decide)) (hr _ (by decide)) ?_
  refine Within.wr (i := 55) (by simp) (by decide) (hr _ (by decide)) (hr _ (by decide)) ?_
  refine Within.wr_mode (by decide) (hr 0 (by decide)) (hr _ (by decide)) ?_
  refine Within.wr (i := 55) (by simp) (by decide) (hr _ (by decide)) (hr _ (by decide)) ?_
  refine ⟨fun _ => rfl, fun w => SMap.wf_filter _ (h.regs_wf w), fun hb => ?_, h.free_le, h.out_pre, h.faults_pre,
    fun p hp => absurd (hp.symm.trans (mask_all hk p)) Bool.false_ne_true⟩
  have := h.mode_ok hb
  unfold State.ModeLegal State.mode State.rd SMap.get at this ⊢
  dsimp only
  rw [find?_filter_of]
  · exact this
  · intro v
    simp [Field.key, F.GIRTH_MODE_MODE]

theorem quarStep_within {K : Nat} {b s : State} (hk : K &&& 3494793310839513088 = 3494793310839513088) (h : Within K b s) :
    Within K b (quarStep s) := by
  unfold quarStep
  repeat' (first
    | with_reducible assumption | with_reducible refine subSync_within ?_ ?_ | exact mask_sub hk rfl
    | with_reducible refine Within.ite ?_ ?_ | split | dsimp -proj only | with_reducible refine Within.u_girth ?_ ?_)

theorem tilTick_within {K : Nat} {b s : State} (hk : K &&& 3494863679852126208 = 3494863679852126208) (h : Within K b s) :
    Within K b (tilTick s) := by
  unfold tilTick
  repeat' (first
    | with_reducible assumption | with_reducible refine tilDegrade_within ?_ ?_ | exact mask_sub hk rfl
    | with_reducible refine Within.ite ?_ ?_ | split | dsimp -proj only | with_reducible refine Within.u_til ?_ ?_)

theorem segTick_within {K : Nat} {b s : State} (hk : K &&& 2308094818154184704 = 2308094818154184704) (h : Within K b s) :
    Within K b (segTick s) := by
  unfold segTick
  repeat' (first
    | with_reducible assumption | with_reducible refine segNext_within ?_ ?_ | exact mask_sub hk rfl
    | with_reducible refine Within.ite ?_ ?_ | with_reducible refine Within.foldl (fun _ _ _ => ?_) ?_ | split
    | dsimp -proj only)

theorem brResend_within {K : Nat} {b s : State} {a2} (hk : K &&& 4294967808 = 4294967808) (h : Within K b s) :
    Within K b (brResend s a2) := by
  unfold brResend
  repeat' (first
    | with_reducible assumption | with_reducible refine State_emit_within ?_ ?_ | exact mask_sub hk rfl
    | with_reducible refine Within.ite ?_ ?_ | split | dsimp -proj only | with_reducible refine Within.u_br ?_ ?_)

theorem brTick_within {K : Nat} {b s : State} (hk : K &&& 4294967808 = 4294967808) (h : Within K b s) :
    Within K b (brTick s) := by
  unfold brTick
  repeat' (first
    | with_reducible assumption | with_reducible refine brResend_within ?_ ?_ | exact mask_sub hk rfl
    | with_reducible refine Within.ite ?_ ?_ | with_reducible refine Within.foldl (fun _ _ _ => ?_) ?_ | split
    | dsimp -proj only)

theorem slotCatchups_within {K : Nat} {b s : State} (hk : K &&& 25364310484750178818 = 25364310484750178818) (h : Within K b s) :
    Within K b (slotCatchups s) := by
  unfold slotCatchups
  repeat' (first
    | with_reducible assumption | with_reducible refine slotFire_within ?_ ?_ | exact mask_sub hk rfl
    | with_reducible refine Within.ite ?_ ?_ | with_reducible refine Within.foldl (fun _ _ _ => ?_) ?_ | split
    | dsimp -proj only)

theorem hostStep_within {K : Nat} {b s : State} (hk : K &&& 20754029642184038914 = 20754029642184038914) (h : Within K b s) :
    Within K b (hostStep s) := by
  unfold hostStep
  repeat' (first
    | with_reducible assumption | with_reducible refine dioSetOn_within ?_ ?_
    | with_reducible refine lsSetOn_within ?_ ?_ | exact mask_sub hk rfl | with_reducible refine Within.ite ?_ ?_
    | with_reducible refine Within.foldl (fun _ _ _ => ?_) ?_ | split | dsimp -proj only
    | with_reducible refine Within.u_trl ?_ ?_)

theorem armTick_within {K : Nat} {b s : State} (hk : K &&& 3494934048329957376 = 3494934048329957376) (h : Within K b s) :
    Within K b (armTick s) := by
  unfold armTick
  repeat' (first
    | with_reducible assumption | with_reducible refine Within.wr (i := 47) (by simp [Blk_ite]) (by decide) ?_ ?_ ?_
    | with_reducible refine subSync_within ?_ ?_ | exact mask_sub hk rfl | with_reducible refine Within.ite ?_ ?_
    | split | dsimp -proj only | with_reducible refine Within.u_pom ?_ ?_)

theorem furTick_within {K : Nat} {b s : State} (hk : K &&& 2305878193585789440 = 2305878193585789440) (h : Within K b s) :
    Within K b (furTick s) := by
  unfold furTick
  repeat' (first
    | with_reducible assumption | with_reducible refine State_setQueue_within ?_ ?_
    | with_reducible refine furSync_within ?_ ?_ | exact mask_sub hk rfl | with_reducible refine Within.ite ?_ ?_
    | with_reducible refine Within.foldl (fun _ _ _ => ?_) ?_ | split | dsimp -proj only)

theorem ptTick_within {K : Nat} {b s : State} (hk : K &&& 12582912 = 12582912) (h : Within K b s) :
    Within K b (ptTick s) := by
  unfold ptTick
  repeat' (first
    | with_reducible assumption | exact mask_sub hk rfl | with_reducible refine Within.ite ?_ ?_ | split
    | dsimp -proj only | with_reducible refine Within.u_trl ?_ ?_ | with_reducible refine Within.u_pt ?_ ?_)

theorem slewTick_within {K : Nat} {b s : State} (hk : K &&& 2305845208241143808 = 2305845208241143808) (h : Within K b s) :
    Within K b (slewTick s) := by
  unfold slewTick
  repeat' (first
    | with_reducible assumption | with_reducible refine setInc_within ?_ ?_ | exact mask_sub hk rfl
    | with_reducible refine Within.ite ?_ ?_ | split | dsimp -proj only | with_reducible refine Within.u_trl ?_ ?_)

theorem accTick_within {K : Nat} {b s : State} (hk : K &&& 4194304 = 4194304) (h : Within K b s) :
    Within K b (accTick s) := by
  unfold accTick
  repeat' (first
    | with_reducible assumption | exact mask_sub hk rfl | with_reducible refine Within.ite ?_ ?_ | split
    | dsimp -proj only | with_reducible refine Within.u_trl ?_ ?_)

theorem tick_within {K : Nat} {b s : State} (hk : K &&& 8106657450165279296 = 8106657450165279296) (h : Within K b s) :
    Within K b (tick s) := by
  unfold tick
  repeat' (first
    | with_reducible assumption | with_reducible refine accTick_within ?_ ?_
    | with_reducible refine slewTick_within ?_ ?_ | with_reducible refine ptTick_within ?_ ?_
    | with_reducible refine furTick_within ?_ ?_ | with_reducible refine armTick_within ?_ ?_ | exact mask_sub hk rfl
    | with_reducible refine Within.ite ?_ ?_ | split | dsimp -proj only
    | with_reducible refine Within.u_upd_arb_now ?_ ?_)

theorem clock_within {K : Nat} {b s : State} (hk : K &&& 26584716024969345603 = 26584716024969345603) (h : Within K b s) :
    Within K b (clock s) := by
  unfold clock
  repeat' (first
    | with_reducible assumption | with_reducible refine tick_within ?_ ?_ | with_reducible refine hostStep_within ?_ ?_
    | with_reducible refine slotCatchups_within ?_ ?_ | with_reducible refine brTick_within ?_ ?_
    | with_reducible refine segTick_within ?_ ?_ | with_reducible refine tilTick_within ?_ ?_
    | with_reducible refine quarStep_within ?_ ?_ | with_reducible refine nsSync_within ?_ ?_
    | with_reducible refine handoffStep_within ?_ ?_ | exact mask_sub hk rfl | with_reducible refine Within.ite ?_ ?_
    | split | dsimp -proj only)

theorem trial_within {K : Nat} {b s : State} (hk : K &&& 4611683819404132352 = 4611683819404132352) (h : Within K b s) :
    Within K b (trial s) := by
  unfold trial
  repeat' (first
    | with_reducible assumption | with_reducible refine Within.wr (i := 45) (by simp [Blk_ite]) (by decide) ?_ ?_ ?_
    | with_reducible refine queueFields_within ?_ ?_ | with_reducible refine plotProgram_within ?_ ?_
    | with_reducible refine Within.forN (fun _ _ _ _ => ?_) ?_ | exact mask_sub hk rfl
    | with_reducible refine Within.ite ?_ ?_ | split | dsimp -proj only)

end Sys2Proof.Machine
end

