-- ==== Sys2Proof/Laws/FrameExec.lean ====
section
/-! SUPPORT. What each command can change: one lemma a meaning, then all of them together. -/

set_option linter.all false

namespace Sys2Proof.Machine

theorem execVinPowerOn_within {K : Nat} {b s : State} (hk : K &&& 36893488147419103231 = 36893488147419103231) (h : Within K b s) :
    WithinR K b (execVinPowerOn s) := by
  unfold execVinPowerOn
  repeat' (first
    | with_reducible refine WithinR.next ?_ | with_reducible refine WithinR.ite ?_ ?_ | with_reducible assumption
    | with_reducible refine powerOn_within ?_ ?_ | exact mask_sub hk rfl | with_reducible refine Within.ite ?_ ?_
    | split | dsimp -proj only)

theorem execPowerFailWarning_within {K : Nat} {b s : State} (hk : K &&& 27670114014619154994 = 27670114014619154994) (h : Within K b s) :
    WithinR K b (execPowerFailWarning s) := by
  unfold execPowerFailWarning
  repeat' (first
    | with_reducible refine WithinR.next ?_ | with_reducible refine WithinR.ite ?_ ?_ | with_reducible assumption
    | with_reducible refine Within.wr (i := 55) (by simp [Blk_ite]) (by decide) ?_ ?_ ?_
    | with_reducible refine powerFailRecord_within ?_ ?_ | with_reducible refine shutdown_within ?_ ?_
    | exact mask_sub hk rfl | with_reducible refine Within.ite ?_ ?_ | split | dsimp -proj only
    | with_reducible refine Within.u_girth ?_ ?_)

theorem execHoldupOk_within {K : Nat} {b s : State} (hk : K &&& 2341871806234755072 = 2341871806234755072) (h : Within K b s) :
    WithinR K b (execHoldupOk s) := by
  unfold execHoldupOk
  repeat' (first
    | with_reducible refine WithinR.next ?_ | with_reducible refine WithinR.ite ?_ ?_ | with_reducible assumption
    | with_reducible refine Within.wr (i := 55) (by simp [Blk_ite]) (by decide) ?_ ?_ ?_ | exact mask_sub hk rfl
    | with_reducible refine Within.ite ?_ ?_ | split | dsimp -proj only | with_reducible refine Within.u_pom ?_ ?_)

theorem execVinPathClose_within {K : Nat} {b s : State} (hk : K &&& 8192 = 8192) (h : Within K b s) :
    WithinR K b (execVinPathClose s) := by
  unfold execVinPathClose
  repeat' (first
    | with_reducible refine WithinR.next ?_ | with_reducible refine WithinR.ite ?_ ?_ | with_reducible assumption
    | exact mask_sub hk rfl | with_reducible refine Within.ite ?_ ?_ | split | dsimp -proj only
    | with_reducible refine Within.u_girth ?_ ?_)

theorem execFeedUndervoltage_within {K : Nat} {b s : State} {a1} (hk : K &&& 21941854043898296962 = 21941854043898296962) (h : Within K b s) :
    WithinR K b (execFeedUndervoltage a1 s) := by
  unfold execFeedUndervoltage
  repeat' (first
    | with_reducible refine WithinR.next ?_ | with_reducible refine WithinR.ite ?_ ?_ | with_reducible assumption
    | with_reducible refine Within.wr (i := 55) (by simp [Blk_ite]) (by decide) ?_ ?_ ?_
    | with_reducible refine State_degrade_within ?_ ?_ | with_reducible refine lsUnitRecord_within ?_ ?_
    | with_reducible refine lsFeedLost_within ?_ ?_ | with_reducible refine feedChannels_within (fun _ _ _ => ?_) ?_
    | exact mask_sub hk rfl | with_reducible refine Within.ite ?_ ?_ | split | dsimp -proj only
    | with_reducible refine Within.u_girth ?_ ?_)

theorem execFeedRestored_within {K : Nat} {b s : State} {a1} (hk : K &&& 21941854043898362498 = 21941854043898362498) (h : Within K b s) :
    WithinR K b (execFeedRestored a1 s) := by
  unfold execFeedRestored
  repeat' (first
    | with_reducible refine WithinR.next ?_ | with_reducible refine WithinR.ite ?_ ?_ | with_reducible assumption
    | with_reducible refine State_degrade_within ?_ ?_ | with_reducible refine lsUnitRecord_within ?_ ?_
    | with_reducible refine lsFeedBack_within ?_ ?_ | with_reducible refine feedChannels_within (fun _ _ _ => ?_) ?_
    | exact mask_sub hk rfl | with_reducible refine Within.ite ?_ ?_ | split | dsimp -proj only
    | with_reducible refine Within.u_girth ?_ ?_)

theorem execRailWarn_within {K : Nat} {b s : State} {a1 a2} (hk : K &&& 2341871806232657920 = 2341871806232657920) (h : Within K b s) :
    WithinR K b (execRailWarn a1 a2 s) := by
  unfold execRailWarn
  repeat' (first
    | with_reducible refine WithinR.next ?_ | with_reducible refine WithinR.ite ?_ ?_ | with_reducible assumption
    | with_reducible refine Within.putBit (i := 55) (by simp [Blk_ite]) (by decide) ?_ ?_ ?_ | exact mask_sub hk rfl
    | with_reducible refine Within.ite ?_ ?_ | split | dsimp -proj only)

theorem execRailFault_within {K : Nat} {b s : State} {a1 a2} (hk : K &&& 27670113945900727987 = 27670113945900727987) (h : Within K b s) :
    WithinR K b (execRailFault a1 a2 s) := by
  unfold execRailFault
  repeat' (first
    | with_reducible refine WithinR.next ?_ | with_reducible refine WithinR.ite ?_ ?_ | with_reducible assumption
    | with_reducible refine Within.clrBit (i := 55) (by simp [Blk_ite]) (by decide) ?_ ?_ ?_
    | with_reducible refine Within.setBit (i := 55) (by simp [Blk_ite]) (by decide) ?_ ?_ ?_
    | with_reducible refine enterHold_within ?_ ?_ | with_reducible refine resetCore_within ?_ ?_
    | with_reducible refine safeFault_within ?_ ?_ | with_reducible refine State_hwFault_within ?_ ?_
    | exact mask_sub hk rfl | with_reducible refine Within.ite ?_ ?_ | split | dsimp -proj only
    | with_reducible refine Within.u_girth ?_ ?_)

theorem execClockFault_within {K : Nat} {b s : State} {a1 a2} (hk : K &&& 27670114323857850291 = 27670114323857850291) (h : Within K b s) :
    WithinR K b (execClockFault a1 a2 s) := by
  unfold execClockFault
  repeat' (first
    | with_reducible refine WithinR.next ?_ | with_reducible refine WithinR.ite ?_ ?_ | with_reducible assumption
    | with_reducible refine Within.wr (i := 55) (by simp [Blk_ite]) (by decide) ?_ ?_ ?_
    | with_reducible refine Within.wr (i := 56) (by simp [Blk_ite]) (by decide) ?_ ?_ ?_
    | with_reducible refine Within.setBit (i := 55) (by simp [Blk_ite]) (by decide) ?_ ?_ ?_
    | with_reducible refine resetCore_within ?_ ?_ | with_reducible refine safeFault_within ?_ ?_
    | with_reducible refine State_degrade_within ?_ ?_ | with_reducible refine xlLoss_within ?_ ?_
    | with_reducible refine followAll_within ?_ ?_ | with_reducible refine enterHold_within ?_ ?_
    | with_reducible refine slsDown_within ?_ ?_ | with_reducible refine State_hwFault_within ?_ ?_
    | exact mask_sub hk rfl | with_reducible refine Within.ite ?_ ?_ | split | dsimp -proj only
    | with_reducible refine Within.u_girth ?_ ?_)

theorem execPresNAssert_within {K : Nat} {b s : State} {a1 a2} (hk : K &&& 2341871806232666112 = 2341871806232666112) (h : Within K b s) :
    WithinR K b (execPresNAssert a1 a2 s) := by
  unfold execPresNAssert
  repeat' (first
    | with_reducible refine WithinR.next ?_ | with_reducible refine WithinR.ite ?_ ?_ | with_reducible assumption
    | with_reducible refine Within.wr (i := 55) (by simp [Blk_ite]) (by decide) ?_ ?_ ?_
    | with_reducible refine Within.wrB (i := 55) (by simp [Blk_ite]) (by decide) ?_ ?_ ?_ | exact mask_sub hk rfl
    | with_reducible refine Within.ite ?_ ?_ | split | dsimp -proj only | with_reducible refine Within.u_girth ?_ ?_)

theorem execLsExtSense_within {K : Nat} {b s : State} {a1} (hk : K &&& 2341871806232666112 = 2341871806232666112) (h : Within K b s) :
    WithinR K b (execLsExtSense a1 s) := by
  unfold execLsExtSense
  repeat' (first
    | with_reducible refine WithinR.next ?_ | with_reducible refine WithinR.ite ?_ ?_ | with_reducible assumption
    | with_reducible refine Within.wr (i := 55) (by simp [Blk_ite]) (by decide) ?_ ?_ ?_ | exact mask_sub hk rfl
    | with_reducible refine Within.ite ?_ ?_ | split | dsimp -proj only | with_reducible refine Within.u_girth ?_ ?_)

theorem execSeatingEnd_within {K : Nat} {b s : State} {a1} (hk : K &&& 27670114461296819135 = 27670114461296819135) (h : Within K b s) :
    WithinR K b (execSeatingEnd a1 s) := by
  unfold execSeatingEnd
  repeat' (first
    | with_reducible refine WithinR.next ?_ | with_reducible refine WithinR.ite ?_ ?_ | with_reducible assumption
    | with_reducible refine bootEnter_within ?_ ?_ | exact mask_sub hk rfl | with_reducible refine Within.ite ?_ ?_
    | split | dsimp -proj only)

theorem execPresNDeassert_within {K : Nat} {b s : State} {a1} (hk : K &&& 27670113945899678258 = 27670113945899678258) (h : Within K b s) :
    WithinR K b (execPresNDeassert a1 s) := by
  unfold execPresNDeassert
  repeat' (first
    | with_reducible refine WithinR.next ?_ | with_reducible refine WithinR.ite ?_ ?_ | with_reducible assumption
    | with_reducible refine Within.wr (i := 55) (by simp [Blk_ite]) (by decide) ?_ ?_ ?_
    | with_reducible refine shutdown_within ?_ ?_ | exact mask_sub hk rfl | with_reducible refine Within.ite ?_ ?_
    | split | dsimp -proj only | with_reducible refine Within.u_girth ?_ ?_)

theorem execSeatChange_within {K : Nat} {b s : State} (hk : K &&& 2341871806232658944 = 2341871806232658944) (h : Within K b s) :
    WithinR K b (execSeatChange s) := by
  unfold execSeatChange
  repeat' (first
    | with_reducible refine WithinR.next ?_ | with_reducible refine WithinR.ite ?_ ?_ | with_reducible assumption
    | with_reducible refine Within.wr (i := 55) (by simp [Blk_ite]) (by decide) ?_ ?_ ?_
    | with_reducible refine State_hwFault_within ?_ ?_ | exact mask_sub hk rfl | with_reducible refine Within.ite ?_ ?_
    | split | dsimp -proj only)

theorem execEjectNAssert_within {K : Nat} {b s : State} {a1} (hk : K &&& 23058428429967735443 = 23058428429967735443) (h : Within K b s) :
    WithinR K b (execEjectNAssert a1 s) := by
  unfold execEjectNAssert
  repeat' (first
    | with_reducible refine WithinR.next ?_ | with_reducible refine WithinR.ite ?_ ?_ | with_reducible assumption
    | with_reducible refine ejectAssert_within ?_ ?_ | exact mask_sub hk rfl | with_reducible refine Within.ite ?_ ?_
    | split | dsimp -proj only)

theorem execEjectNDeassert_within {K : Nat} {b s : State} (hk : K &&& 21945794695183383043 = 21945794695183383043) (h : Within K b s) :
    WithinR K b (execEjectNDeassert s) := by
  unfold execEjectNDeassert
  repeat' (first
    | with_reducible refine WithinR.next ?_ | with_reducible refine WithinR.ite ?_ ?_ | with_reducible assumption
    | with_reducible refine Within.wr (i := 55) (by simp [Blk_ite]) (by decide) ?_ ?_ ?_
    | with_reducible refine claimAll_within ?_ ?_
    | with_reducible refine enterMode_within (by first | decide | exact handoffReturn_legal _ | exact bootTarget_legal _) ?_ ?_
    | with_reducible refine followAll_within ?_ ?_ | exact mask_sub hk rfl | with_reducible refine Within.ite ?_ ?_
    | split | dsimp -proj only)

theorem execHandoffSafeLsOpen_within {K : Nat} {b s : State} (hk : K &&& 3494934048327860224 = 3494934048327860224) (h : Within K b s) :
    WithinR K b (execHandoffSafeLsOpen s) := by
  unfold execHandoffSafeLsOpen
  repeat' (first
    | with_reducible refine WithinR.next ?_ | with_reducible refine WithinR.ite ?_ ?_ | with_reducible assumption
    | with_reducible refine Within.wr (i := 47) (by simp [Blk_ite]) (by decide) ?_ ?_ ?_
    | with_reducible refine subSync_within ?_ ?_ | exact mask_sub hk rfl | with_reducible refine Within.ite ?_ ?_
    | split | dsimp -proj only)

theorem execHandoffTimeout_within {K : Nat} {b s : State} (hk : K &&& 21945231745229962755 = 21945231745229962755) (h : Within K b s) :
    WithinR K b (execHandoffTimeout s) := by
  unfold execHandoffTimeout
  repeat' (first
    | with_reducible refine WithinR.next ?_ | with_reducible refine WithinR.ite ?_ ?_ | with_reducible assumption
    | with_reducible refine State_hwFault_within ?_ ?_ | with_reducible refine handoffRefuse_within ?_ ?_
    | exact mask_sub hk rfl | with_reducible refine Within.ite ?_ ?_ | split | dsimp -proj only)

theorem execBootComplete_within {K : Nat} {b s : State} (hk : K &&& 23058428292316970771 = 23058428292316970771) (h : Within K b s) :
    WithinR K b (execBootComplete s) := by
  unfold execBootComplete
  repeat' (first
    | with_reducible refine WithinR.next ?_ | with_reducible refine WithinR.ite ?_ ?_ | with_reducible assumption
    | with_reducible refine handoffEnter_within ?_ ?_ | with_reducible refine bootEnd_within ?_ ?_
    | exact mask_sub hk rfl | with_reducible refine Within.ite ?_ ?_ | split | dsimp -proj only)

theorem execBootTimeout_within {K : Nat} {b s : State} (hk : K &&& 21945794695184431747 = 21945794695184431747) (h : Within K b s) :
    WithinR K b (execBootTimeout s) := by
  unfold execBootTimeout
  repeat' (first
    | with_reducible refine WithinR.next ?_ | with_reducible refine WithinR.ite ?_ ?_ | with_reducible assumption
    | with_reducible refine enterHold_within ?_ ?_ | exact mask_sub hk rfl | with_reducible refine Within.ite ?_ ?_
    | split | dsimp -proj only)

theorem execModeReqRun_within {K : Nat} {b s : State} {a1 a2} (hk : K &&& 27670114461296819135 = 27670114461296819135) (h : Within K b s) :
    WithinR K b (execModeReqRun a1 a2 s) := by
  unfold execModeReqRun
  repeat' (first
    | with_reducible refine WithinR.next ?_ | with_reducible refine WithinR.ite ?_ ?_ | with_reducible assumption
    | with_reducible refine modeRequest_within ?_ ?_ | exact mask_sub hk rfl | with_reducible refine Within.ite ?_ ?_
    | split | dsimp -proj only)

theorem execModeReqService_within {K : Nat} {b s : State} {a1 a2 a3} (hk : K &&& 27670114461296819135 = 27670114461296819135) (h : Within K b s) :
    WithinR K b (execModeReqService a1 a2 a3 s) := by
  unfold execModeReqService
  repeat' (first
    | with_reducible refine WithinR.next ?_ | with_reducible refine WithinR.ite ?_ ?_ | with_reducible assumption
    | with_reducible refine modeRequest_within ?_ ?_ | exact mask_sub hk rfl | with_reducible refine Within.ite ?_ ?_
    | split | dsimp -proj only)

theorem execModeReqBoot_within {K : Nat} {b s : State} {a1 a2} (hk : K &&& 27670114461296819135 = 27670114461296819135) (h : Within K b s) :
    WithinR K b (execModeReqBoot a1 a2 s) := by
  unfold execModeReqBoot
  repeat' (first
    | with_reducible refine WithinR.next ?_ | with_reducible refine WithinR.ite ?_ ?_ | with_reducible assumption
    | with_reducible refine modeRequest_within ?_ ?_ | exact mask_sub hk rfl | with_reducible refine Within.ite ?_ ?_
    | split | dsimp -proj only)

theorem execModeReqDormancy_within {K : Nat} {b s : State} {a1 a2} (hk : K &&& 27670114461296819135 = 27670114461296819135) (h : Within K b s) :
    WithinR K b (execModeReqDormancy a1 a2 s) := by
  unfold execModeReqDormancy
  repeat' (first
    | with_reducible refine WithinR.next ?_ | with_reducible refine WithinR.ite ?_ ?_ | with_reducible assumption
    | with_reducible refine modeRequest_within ?_ ?_ | exact mask_sub hk rfl | with_reducible refine Within.ite ?_ ?_
    | split | dsimp -proj only)

theorem execModeReqHandoff_within {K : Nat} {b s : State} {a1 a2} (hk : K &&& 27670114461296819135 = 27670114461296819135) (h : Within K b s) :
    WithinR K b (execModeReqHandoff a1 a2 s) := by
  unfold execModeReqHandoff
  repeat' (first
    | with_reducible refine WithinR.next ?_ | with_reducible refine WithinR.ite ?_ ?_ | with_reducible assumption
    | with_reducible refine modeRequest_within ?_ ?_ | exact mask_sub hk rfl | with_reducible refine Within.ite ?_ ?_
    | split | dsimp -proj only)

theorem execWakeEvent_within {K : Nat} {b s : State} {a1 a2} (hk : K &&& 23058428429967735443 = 23058428429967735443) (h : Within K b s) :
    WithinR K b (execWakeEvent a1 a2 s) := by
  unfold execWakeEvent
  repeat' (first
    | with_reducible refine WithinR.next ?_ | with_reducible refine WithinR.ite ?_ ?_ | with_reducible assumption
    | with_reducible refine vbusChange_within ?_ ?_ | with_reducible refine ejectAssert_within ?_ ?_
    | with_reducible refine dioWake_within ?_ ?_ | with_reducible refine wakeFire_within ?_ ?_ | exact mask_sub hk rfl
    | with_reducible refine Within.ite ?_ ?_ | split | dsimp -proj only)

theorem execDormTimerExpiry_within {K : Nat} {b s : State} {a1} (hk : K &&& 23058428429967735443 = 23058428429967735443) (h : Within K b s) :
    WithinR K b (execDormTimerExpiry a1 s) := by
  unfold execDormTimerExpiry
  repeat' (first
    | with_reducible refine WithinR.next ?_ | with_reducible refine WithinR.ite ?_ ?_ | with_reducible assumption
    | with_reducible refine wakeFire_within ?_ ?_ | exact mask_sub hk rfl | with_reducible refine Within.ite ?_ ?_
    | split | dsimp -proj only)

theorem execHoldRestart_within {K : Nat} {b s : State} {a1} (hk : K &&& 27670114461296819135 = 27670114461296819135) (h : Within K b s) :
    WithinR K b (execHoldRestart a1 s) := by
  unfold execHoldRestart
  repeat' (first
    | with_reducible refine WithinR.next ?_ | with_reducible refine WithinR.ite ?_ ?_ | with_reducible assumption
    | with_reducible refine restart_within ?_ ?_ | with_reducible refine failsafeNow_within ?_ ?_
    | exact mask_sub hk rfl | with_reducible refine Within.ite ?_ ?_ | split | dsimp -proj only)

theorem execColdRestartRetry_within {K : Nat} {b s : State} {a1} (hk : K &&& 27670114461296819135 = 27670114461296819135) (h : Within K b s) :
    WithinR K b (execColdRestartRetry a1 s) := by
  unfold execColdRestartRetry
  repeat' (first
    | with_reducible refine WithinR.next ?_ | with_reducible refine WithinR.ite ?_ ?_ | with_reducible assumption
    | with_reducible refine restart_within ?_ ?_ | exact mask_sub hk rfl | with_reducible refine Within.ite ?_ ?_
    | split | dsimp -proj only)

theorem execAc0SupervisorFault_within {K : Nat} {b s : State} (hk : K &&& 27670113945642777267 = 27670113945642777267) (h : Within K b s) :
    WithinR K b (execAc0SupervisorFault s) := by
  unfold execAc0SupervisorFault
  repeat' (first
    | with_reducible refine WithinR.next ?_ | with_reducible refine WithinR.ite ?_ ?_ | with_reducible assumption
    | with_reducible refine resetCore_within ?_ ?_ | with_reducible refine enterHold_within ?_ ?_
    | exact mask_sub hk rfl | with_reducible refine Within.ite ?_ ?_ | split | dsimp -proj only)

theorem execEnergyIntegrate_within {K : Nat} {b s : State} {a1 a2 a3 a4 a5} (hk : K &&& 2341871806232666112 = 2341871806232666112) (h : Within K b s) :
    WithinR K b (execEnergyIntegrate a1 a2 a3 a4 a5 s) := by
  unfold execEnergyIntegrate
  repeat' (first
    | with_reducible refine WithinR.next ?_ | with_reducible refine WithinR.ite ?_ ?_ | with_reducible assumption
    | with_reducible refine Within.wr (i := 55) (by simp [Blk_ite]) (by decide) ?_ ?_ ?_
    | with_reducible refine energyPut_within ?_ ?_ | with_reducible refine Within.forN (fun _ _ _ _ => ?_) ?_
    | exact mask_sub hk rfl | with_reducible refine Within.ite ?_ ?_ | split | dsimp -proj only)

theorem execEnergyLoRead_within {K : Nat} {b s : State} {a1} (hk : K &&& 2341871806232658176 = 2341871806232658176) (h : Within K b s) :
    WithinR K b (execEnergyLoRead a1 s) := by
  unfold execEnergyLoRead
  repeat' (first
    | with_reducible refine WithinR.next ?_ | with_reducible refine WithinR.ite ?_ ?_ | with_reducible assumption
    | with_reducible refine energyLatch_within ?_ ?_ | with_reducible refine State_answer_within ?_ ?_
    | exact mask_sub hk rfl | with_reducible refine Within.ite ?_ ?_ | split | dsimp -proj only)

theorem execEnergyClr_within {K : Nat} {b s : State} {a1} (hk : K &&& 2341871806232666368 = 2341871806232666368) (h : Within K b s) :
    WithinR K b (execEnergyClr a1 s) := by
  unfold execEnergyClr
  repeat' (first
    | with_reducible refine WithinR.next ?_ | with_reducible refine WithinR.ite ?_ ?_ | with_reducible assumption
    | with_reducible refine energyClear_within ?_ ?_ | with_reducible refine State_status_within ?_ ?_
    | exact mask_sub hk rfl | with_reducible refine Within.ite ?_ ?_ | split | dsimp -proj only)

theorem execBlkRst_within {K : Nat} {b s : State} {a1 a2} (hk : K &&& 27670114323603045123 = 27670114323603045123) (h : Within K b s) :
    WithinR K b (execBlkRst a1 a2 s) := by
  unfold execBlkRst
  repeat' (first
    | with_reducible refine WithinR.next ?_ | with_reducible refine WithinR.ite ?_ ?_ | with_reducible assumption
    | with_reducible refine blkRst_within ?_ ?_ | with_reducible refine State_status_within ?_ ?_
    | exact mask_sub hk rfl | with_reducible refine Within.ite ?_ ?_ | split | dsimp -proj only)

theorem execBlkResetRelease_within {K : Nat} {b s : State} {a1} (hk : K &&& 2341871806232657920 = 2341871806232657920) (h : Within K b s) :
    WithinR K b (execBlkResetRelease a1 s) := by
  unfold execBlkResetRelease
  repeat' (first
    | with_reducible refine WithinR.next ?_ | with_reducible refine WithinR.ite ?_ ?_ | with_reducible assumption
    | with_reducible refine Within.clrBit (i := 55) (by simp [Blk_ite]) (by decide) ?_ ?_ ?_
    | with_reducible refine xingSync_within ?_ ?_ | exact mask_sub hk rfl | with_reducible refine Within.ite ?_ ?_
    | split | dsimp -proj only)

theorem execHandshakeTimeout_within {K : Nat} {b s : State} {a1} (hk : K &&& 2341871806232667136 = 2341871806232667136) (h : Within K b s) :
    WithinR K b (execHandshakeTimeout a1 s) := by
  unfold execHandshakeTimeout
  repeat' (first
    | with_reducible refine WithinR.next ?_ | with_reducible refine WithinR.ite ?_ ?_ | with_reducible assumption
    | with_reducible refine Within.wr (i := 55) (by simp [Blk_ite]) (by decide) ?_ ?_ ?_
    | with_reducible refine Within.incSat (i := 55) (by simp [Blk_ite]) (by decide) ?_ ?_ ?_
    | with_reducible refine Within.setBit (i := 55) (by simp [Blk_ite]) (by decide) ?_ ?_ ?_
    | with_reducible refine State_hwFault_within ?_ ?_ | exact mask_sub hk rfl | with_reducible refine Within.ite ?_ ?_
    | split | dsimp -proj only | with_reducible refine Within.u_girth ?_ ?_)

theorem execD2dLinkLoss_within {K : Nat} {b s : State} (hk : K &&& 20790058439199858178 = 20790058439199858178) (h : Within K b s) :
    WithinR K b (execD2dLinkLoss s) := by
  unfold execD2dLinkLoss
  repeat' (first
    | with_reducible refine WithinR.next ?_ | with_reducible refine WithinR.ite ?_ ?_ | with_reducible assumption
    | with_reducible refine State_hwFault_within ?_ ?_ | with_reducible refine pd1Reset_within ?_ ?_
    | with_reducible refine followAll_within ?_ ?_ | exact mask_sub hk rfl | with_reducible refine Within.ite ?_ ?_
    | split | dsimp -proj only | with_reducible refine Within.u_str ?_ ?_)

theorem execMisalignedAccess_within {K : Nat} {b s : State} {a1 a2 a3 a4} (hk : K &&& 27670114461296885695 = 27670114461296885695) (h : Within K b s) :
    WithinR K b (execMisalignedAccess a1 a2 a3 a4 s) := by
  unfold execMisalignedAccess
  repeat' (first
    | with_reducible refine WithinR.next ?_ | with_reducible refine WithinR.ite ?_ ?_ | with_reducible assumption
    | with_reducible refine bridle_within ?_ ?_ | exact mask_sub hk rfl | with_reducible refine Within.ite ?_ ?_
    | split | dsimp -proj only)

theorem execReservedRangeAccess_within {K : Nat} {b s : State} {a1 a2 a3 a4} (hk : K &&& 27670114461296885695 = 27670114461296885695) (h : Within K b s) :
    WithinR K b (execReservedRangeAccess a1 a2 a3 a4 s) := by
  unfold execReservedRangeAccess
  repeat' (first
    | with_reducible refine WithinR.next ?_ | with_reducible refine WithinR.ite ?_ ?_ | with_reducible assumption
    | with_reducible refine bridle_within ?_ ?_ | exact mask_sub hk rfl | with_reducible refine Within.ite ?_ ?_
    | split | dsimp -proj only)

theorem execXipWrite_within {K : Nat} {b s : State} {a1 a2 a3} (hk : K &&& 27670114461296885695 = 27670114461296885695) (h : Within K b s) :
    WithinR K b (execXipWrite a1 a2 a3 s) := by
  unfold execXipWrite
  repeat' (first
    | with_reducible refine WithinR.next ?_ | with_reducible refine WithinR.ite ?_ ?_ | with_reducible assumption
    | with_reducible refine bridle_within ?_ ?_ | exact mask_sub hk rfl | with_reducible refine Within.ite ?_ ?_
    | split | dsimp -proj only)

theorem execResetDomainAccess_within {K : Nat} {b s : State} {a1 a2 a3} (hk : K &&& 27670114461296885695 = 27670114461296885695) (h : Within K b s) :
    WithinR K b (execResetDomainAccess a1 a2 a3 s) := by
  unfold execResetDomainAccess
  repeat' (first
    | with_reducible refine WithinR.next ?_ | with_reducible refine WithinR.ite ?_ ?_ | with_reducible assumption
    | with_reducible refine bridle_within ?_ ?_ | exact mask_sub hk rfl | with_reducible refine Within.ite ?_ ?_
    | split | dsimp -proj only)

theorem execRegisterWrite_within {K : Nat} {b s : State} {a1 a2 a3 a4} (hk : K &&& 27670114461296885695 = 27670114461296885695) (h : Within K b s) :
    WithinR K b (execRegisterWrite a1 a2 a3 a4 s) := by
  unfold execRegisterWrite
  repeat' (first
    | with_reducible refine WithinR.next ?_ | with_reducible refine WithinR.ite ?_ ?_ | with_reducible assumption
    | with_reducible refine bridle_within ?_ ?_ | exact mask_sub hk rfl | with_reducible refine Within.ite ?_ ?_
    | split | dsimp -proj only)

theorem execHeartbeatTx_within {K : Nat} {b s : State} (hk : K &&& 2308094810637992448 = 2308094810637992448) (h : Within K b s) :
    WithinR K b (execHeartbeatTx s) := by
  unfold execHeartbeatTx
  repeat' (first
    | with_reducible refine WithinR.next ?_ | with_reducible refine WithinR.ite ?_ ?_ | with_reducible assumption
    | with_reducible refine nsSync_within ?_ ?_ | with_reducible refine State_emit_within ?_ ?_ | exact mask_sub hk rfl
    | with_reducible refine Within.ite ?_ ?_ | split | dsimp -proj only)

theorem execHeartbeatRx_within {K : Nat} {b s : State} {a1} (hk : K &&& 22099066633308798466 = 22099066633308798466) (h : Within K b s) :
    WithinR K b (execHeartbeatRx a1 s) := by
  unfold execHeartbeatRx
  repeat' (first
    | with_reducible refine WithinR.next ?_ | with_reducible refine WithinR.ite ?_ ?_ | with_reducible assumption
    | with_reducible refine claimAll_within ?_ ?_ | with_reducible refine subSync_within ?_ ?_
    | with_reducible refine spanMatchSync_within ?_ ?_ | with_reducible refine nsSync_within ?_ ?_
    | with_reducible refine unpair_within ?_ ?_ | with_reducible refine partnerTake_within ?_ ?_
    | exact mask_sub hk rfl | with_reducible refine Within.ite ?_ ?_ | split | dsimp -proj only
    | with_reducible refine Within.u_girth ?_ ?_)

theorem execHeartbeatTimeout_within {K : Nat} {b s : State} (hk : K &&& 23058427911942896131 = 23058427911942896131) (h : Within K b s) :
    WithinR K b (execHeartbeatTimeout s) := by
  unfold execHeartbeatTimeout
  repeat' (first
    | with_reducible refine WithinR.next ?_ | with_reducible refine WithinR.ite ?_ ?_ | with_reducible assumption
    | with_reducible refine takeover_within ?_ ?_ | with_reducible refine partnerGone_within ?_ ?_
    | exact mask_sub hk rfl | with_reducible refine Within.ite ?_ ?_ | split | dsimp -proj only)

theorem execPartnerHoldTimeout_within {K : Nat} {b s : State} (hk : K &&& 23058427911942896131 = 23058427911942896131) (h : Within K b s) :
    WithinR K b (execPartnerHoldTimeout s) := by
  unfold execPartnerHoldTimeout
  repeat' (first
    | with_reducible refine WithinR.next ?_ | with_reducible refine WithinR.ite ?_ ?_ | with_reducible assumption
    | with_reducible refine takeover_within ?_ ?_ | with_reducible refine partnerGone_within ?_ ?_
    | exact mask_sub hk rfl | with_reducible refine Within.ite ?_ ?_ | split | dsimp -proj only)

theorem execSlsArmRaise_within {K : Nat} {b s : State} (hk : K &&& 3494934048327860224 = 3494934048327860224) (h : Within K b s) :
    WithinR K b (execSlsArmRaise s) := by
  unfold execSlsArmRaise
  repeat' (first
    | with_reducible refine WithinR.next ?_ | with_reducible refine WithinR.ite ?_ ?_ | with_reducible assumption
    | with_reducible refine Within.wr (i := 47) (by simp [Blk_ite]) (by decide) ?_ ?_ ?_
    | with_reducible refine subSync_within ?_ ?_ | exact mask_sub hk rfl | with_reducible refine Within.ite ?_ ?_
    | split | dsimp -proj only)

theorem execCycleBoundary_within {K : Nat} {b s : State} {a1} (hk : K &&& 2305845208241143936 = 2305845208241143936) (h : Within K b s) :
    WithinR K b (execCycleBoundary a1 s) := by
  unfold execCycleBoundary
  repeat' (first
    | with_reducible refine WithinR.next ?_ | with_reducible refine WithinR.ite ?_ ?_ | with_reducible assumption
    | with_reducible refine cycHist_within ?_ ?_ | with_reducible refine trlMeasured_within ?_ ?_
    | exact mask_sub hk rfl | with_reducible refine Within.ite ?_ ?_ | split | dsimp -proj only)

theorem execNetrefRx_within {K : Nat} {b s : State} {a1 a2} (hk : K &&& 2305845208241143808 = 2305845208241143808) (h : Within K b s) :
    WithinR K b (execNetrefRx a1 a2 s) := by
  unfold execNetrefRx
  repeat' (first
    | with_reducible refine WithinR.next ?_ | with_reducible refine WithinR.ite ?_ ?_ | with_reducible assumption
    | with_reducible refine Within.wr (i := 41) (by simp [Blk_ite]) (by decide) ?_ ?_ ?_
    | with_reducible refine netKeep_within ?_ ?_ | with_reducible refine netTrack_within ?_ ?_ | exact mask_sub hk rfl
    | with_reducible refine Within.ite ?_ ?_ | split | dsimp -proj only)

theorem execLockAcquire_within {K : Nat} {b s : State} {a1 a2 a3} (hk : K &&& 3494795509866962944 = 3494795509866962944) (h : Within K b s) :
    WithinR K b (execLockAcquire a1 a2 a3 s) := by
  unfold execLockAcquire
  repeat' (first
    | with_reducible refine WithinR.next ?_ | with_reducible refine WithinR.ite ?_ ?_ | with_reducible assumption
    | with_reducible refine srcTake_within ?_ ?_ | exact mask_sub hk rfl | with_reducible refine Within.ite ?_ ?_
    | split | dsimp -proj only)

theorem execLockLoss_within {K : Nat} {b s : State} {a1 a2 a3} (hk : K &&& 3494795509866962944 = 3494795509866962944) (h : Within K b s) :
    WithinR K b (execLockLoss a1 a2 a3 s) := by
  unfold execLockLoss
  repeat' (first
    | with_reducible refine WithinR.next ?_ | with_reducible refine WithinR.ite ?_ ?_ | with_reducible assumption
    | with_reducible refine Within.wr (i := 41) (by simp [Blk_ite]) (by decide) ?_ ?_ ?_
    | with_reducible refine sourceGone_within ?_ ?_ | exact mask_sub hk rfl | with_reducible refine Within.ite ?_ ?_
    | split | dsimp -proj only)

theorem execNetTimeout_within {K : Nat} {b s : State} (hk : K &&& 2305845208241143808 = 2305845208241143808) (h : Within K b s) :
    WithinR K b (execNetTimeout s) := by
  unfold execNetTimeout
  repeat' (first
    | with_reducible refine WithinR.next ?_ | with_reducible refine WithinR.ite ?_ ?_ | with_reducible assumption
    | with_reducible refine Within.wr (i := 41) (by simp [Blk_ite]) (by decide) ?_ ?_ ?_
    | with_reducible refine enterHoldover_within ?_ ?_ | exact mask_sub hk rfl | with_reducible refine Within.ite ?_ ?_
    | split | dsimp -proj only | with_reducible refine Within.u_trl ?_ ?_)

theorem execSlewDone_within {K : Nat} {b s : State} (hk : K &&& 3494795509866962944 = 3494795509866962944) (h : Within K b s) :
    WithinR K b (execSlewDone s) := by
  unfold execSlewDone
  repeat' (first
    | with_reducible refine WithinR.next ?_ | with_reducible refine WithinR.ite ?_ ?_ | with_reducible assumption
    | with_reducible refine lockSet_within ?_ ?_ | exact mask_sub hk rfl | with_reducible refine Within.ite ?_ ?_
    | split | dsimp -proj only)

theorem execHoldoverLimit_within {K : Nat} {b s : State} (hk : K &&& 3494795509862768640 = 3494795509862768640) (h : Within K b s) :
    WithinR K b (execHoldoverLimit s) := by
  unfold execHoldoverLimit
  repeat' (first
    | with_reducible refine WithinR.next ?_ | with_reducible refine WithinR.ite ?_ ?_ | with_reducible assumption
    | with_reducible refine Within.wr (i := 41) (by simp [Blk_ite]) (by decide) ?_ ?_ ?_
    | with_reducible refine State_degrade_within ?_ ?_ | exact mask_sub hk rfl | with_reducible refine Within.ite ?_ ?_
    | split | dsimp -proj only)

theorem execTrlNowRead_within {K : Nat} {b s : State} (hk : K &&& 2305845208236949760 = 2305845208236949760) (h : Within K b s) :
    WithinR K b (execTrlNowRead s) := by
  unfold execTrlNowRead
  repeat' (first
    | with_reducible refine WithinR.next ?_ | with_reducible refine WithinR.ite ?_ ?_ | with_reducible assumption
    | with_reducible refine trlNowRead_within ?_ ?_ | with_reducible refine State_status_within ?_ ?_
    | exact mask_sub hk rfl | with_reducible refine Within.ite ?_ ?_ | split | dsimp -proj only)

theorem execSlotCtlWrite_within {K : Nat} {b s : State} {a1 a2 a3} (hk : K &&& 23058427897412852482 = 23058427897412852482) (h : Within K b s) :
    WithinR K b (execSlotCtlWrite a1 a2 a3 s) := by
  unfold execSlotCtlWrite
  repeat' (first
    | with_reducible refine WithinR.next ?_ | with_reducible refine WithinR.ite ?_ ?_ | with_reducible assumption
    | with_reducible refine slotCtlWrite_within ?_ ?_ | with_reducible refine hostWrite_within ?_ ?_ ?_
    | exact mask_sub hk rfl | with_reducible refine Within.ite ?_ ?_ | split | dsimp -proj only)

theorem execTrlPartWrite_within {K : Nat} {b s : State} {a1 a2 a3} (hk : K &&& 23058427897408658178 = 23058427897408658178) (h : Within K b s) :
    WithinR K b (execTrlPartWrite a1 a2 a3 s) := by
  unfold execTrlPartWrite
  repeat' (first
    | with_reducible refine WithinR.next ?_ | with_reducible refine WithinR.ite ?_ ?_ | with_reducible assumption
    | with_reducible refine trlPartWrite_within ?_ ?_ | with_reducible refine hostWrite_within ?_ ?_ ?_
    | exact mask_sub hk rfl | with_reducible refine Within.ite ?_ ?_ | split | dsimp -proj only)

theorem execSlotFire_within {K : Nat} {b s : State} {a1} (hk : K &&& 25364310484750178818 = 25364310484750178818) (h : Within K b s) :
    WithinR K b (execSlotFire a1 s) := by
  unfold execSlotFire
  repeat' (first
    | with_reducible refine WithinR.next ?_ | with_reducible refine WithinR.ite ?_ ?_ | with_reducible assumption
    | with_reducible refine slotFire_within ?_ ?_ | exact mask_sub hk rfl | with_reducible refine Within.ite ?_ ?_
    | split | dsimp -proj only)

theorem execMark_within {K : Nat} {b s : State} {a1} (hk : K &&& 20752624466322790914 = 20752624466322790914) (h : Within K b s) :
    WithinR K b (execMark a1 s) := by
  unfold execMark
  repeat' (first
    | with_reducible refine WithinR.next ?_ | with_reducible refine WithinR.ite ?_ ?_ | with_reducible assumption
    | with_reducible refine act_within ?_ (fun _ _ _ => ?_) ?_ | exact mask_sub hk rfl
    | with_reducible refine Within.ite ?_ ?_ | split | dsimp -proj only)

theorem execLsOn_within {K : Nat} {b s : State} {a1 a2} (hk : K &&& 20752905941299927554 = 20752905941299927554) (h : Within K b s) :
    WithinR K b (execLsOn a1 a2 s) := by
  unfold execLsOn
  repeat' (first
    | with_reducible refine WithinR.next ?_ | with_reducible refine WithinR.ite ?_ ?_ | with_reducible assumption
    | with_reducible refine lsAct_within ?_ ?_ | with_reducible refine act_within ?_ (fun _ _ _ => ?_) ?_
    | exact mask_sub hk rfl | with_reducible refine Within.ite ?_ ?_ | split | dsimp -proj only)

theorem execLsOff_within {K : Nat} {b s : State} {a1 a2} (hk : K &&& 20752905941299927554 = 20752905941299927554) (h : Within K b s) :
    WithinR K b (execLsOff a1 a2 s) := by
  unfold execLsOff
  repeat' (first
    | with_reducible refine WithinR.next ?_ | with_reducible refine WithinR.ite ?_ ?_ | with_reducible assumption
    | with_reducible refine lsAct_within ?_ ?_ | with_reducible refine act_within ?_ (fun _ _ _ => ?_) ?_
    | exact mask_sub hk rfl | with_reducible refine Within.ite ?_ ?_ | split | dsimp -proj only)

theorem execDioOn_within {K : Nat} {b s : State} {a1 a2} (hk : K &&& 20753750366230157826 = 20753750366230157826) (h : Within K b s) :
    WithinR K b (execDioOn a1 a2 s) := by
  unfold execDioOn
  repeat' (first
    | with_reducible refine WithinR.next ?_ | with_reducible refine WithinR.ite ?_ ?_ | with_reducible assumption
    | with_reducible refine dioAct_within ?_ ?_ | with_reducible refine act_within ?_ (fun _ _ _ => ?_) ?_
    | exact mask_sub hk rfl | with_reducible refine Within.ite ?_ ?_ | split | dsimp -proj only)

theorem execDioOff_within {K : Nat} {b s : State} {a1 a2} (hk : K &&& 20753750366230157826 = 20753750366230157826) (h : Within K b s) :
    WithinR K b (execDioOff a1 a2 s) := by
  unfold execDioOff
  repeat' (first
    | with_reducible refine WithinR.next ?_ | with_reducible refine WithinR.ite ?_ ?_ | with_reducible assumption
    | with_reducible refine dioAct_within ?_ ?_ | with_reducible refine act_within ?_ (fun _ _ _ => ?_) ?_
    | exact mask_sub hk rfl | with_reducible refine Within.ite ?_ ?_ | split | dsimp -proj only)

theorem execDioPulse_within {K : Nat} {b s : State} {a1 a2} (hk : K &&& 20753750366230157826 = 20753750366230157826) (h : Within K b s) :
    WithinR K b (execDioPulse a1 a2 s) := by
  unfold execDioPulse
  repeat' (first
    | with_reducible refine WithinR.next ?_ | with_reducible refine WithinR.ite ?_ ?_ | with_reducible assumption
    | with_reducible refine State_setDio_within ?_ ?_ | with_reducible refine dioAct_within ?_ ?_
    | with_reducible refine act_within ?_ (fun _ _ _ => ?_) ?_ | exact mask_sub hk rfl
    | with_reducible refine Within.ite ?_ ?_ | split | dsimp -proj only)

theorem execDioPulseEnd_within {K : Nat} {b s : State} {a1} (hk : K &&& 20753748167206902274 = 20753748167206902274) (h : Within K b s) :
    WithinR K b (execDioPulseEnd a1 s) := by
  unfold execDioPulseEnd
  repeat' (first
    | with_reducible refine WithinR.next ?_ | with_reducible refine WithinR.ite ?_ ?_ | with_reducible assumption
    | with_reducible refine dioAct_within ?_ ?_ | with_reducible refine State_setDio_within ?_ ?_
    | exact mask_sub hk rfl | with_reducible refine Within.ite ?_ ?_ | split | dsimp -proj only)

theorem execCanLaunch_within {K : Nat} {b s : State} {a1} (hk : K &&& 20754876266673347074 = 20754876266673347074) (h : Within K b s) :
    WithinR K b (execCanLaunch a1 s) := by
  unfold execCanLaunch
  repeat' (first
    | with_reducible refine WithinR.next ?_ | with_reducible refine WithinR.ite ?_ ?_ | with_reducible assumption
    | with_reducible refine bufLaunch_within ?_ ?_ | with_reducible refine act_within ?_ (fun _ _ _ => ?_) ?_
    | exact mask_sub hk rfl | with_reducible refine Within.ite ?_ ?_ | split | dsimp -proj only)

theorem execFurrowPost_within {K : Nat} {b s : State} {a1} (hk : K &&& 20752624466322790914 = 20752624466322790914) (h : Within K b s) :
    WithinR K b (execFurrowPost a1 s) := by
  unfold execFurrowPost
  repeat' (first
    | with_reducible refine WithinR.next ?_ | with_reducible refine WithinR.ite ?_ ?_ | with_reducible assumption
    | with_reducible refine hwPost_within ?_ ?_ | with_reducible refine act_within ?_ (fun _ _ _ => ?_) ?_
    | exact mask_sub hk rfl | with_reducible refine Within.ite ?_ ?_ | split | dsimp -proj only)

theorem execPowClose_within {K : Nat} {b s : State} {a1 a2} (hk : K &&& 20752905941299928578 = 20752905941299928578) (h : Within K b s) :
    WithinR K b (execPowClose a1 a2 s) := by
  unfold execPowClose
  repeat' (first
    | with_reducible refine WithinR.next ?_ | with_reducible refine WithinR.ite ?_ ?_ | with_reducible assumption
    | with_reducible refine powAct_within ?_ ?_ | with_reducible refine act_within ?_ (fun _ _ _ => ?_) ?_
    | exact mask_sub hk rfl | with_reducible refine Within.ite ?_ ?_ | split | dsimp -proj only)

theorem execPowOpen_within {K : Nat} {b s : State} {a1 a2} (hk : K &&& 20752905941299928578 = 20752905941299928578) (h : Within K b s) :
    WithinR K b (execPowOpen a1 a2 s) := by
  unfold execPowOpen
  repeat' (first
    | with_reducible refine WithinR.next ?_ | with_reducible refine WithinR.ite ?_ ?_ | with_reducible assumption
    | with_reducible refine powAct_within ?_ ?_ | with_reducible refine act_within ?_ (fun _ _ _ => ?_) ?_
    | exact mask_sub hk rfl | with_reducible refine Within.ite ?_ ?_ | split | dsimp -proj only)

theorem execLatTrigger_within {K : Nat} {b s : State} {a1} (hk : K &&& 21941601431350950534 = 21941601431350950534) (h : Within K b s) :
    WithinR K b (execLatTrigger a1 s) := by
  unfold execLatTrigger
  repeat' (first
    | with_reducible refine WithinR.next ?_ | with_reducible refine WithinR.ite ?_ ?_ | with_reducible assumption
    | with_reducible refine latLaunch_within ?_ ?_ | with_reducible refine Within.forN (fun _ _ _ _ => ?_) ?_
    | with_reducible refine subSync_within ?_ ?_ | with_reducible refine capOpen_within ?_ ?_
    | with_reducible refine dumpTrigger_within ?_ ?_ | with_reducible refine sysAct_within ?_ ?_
    | with_reducible refine setDeadline_within ?_ ?_ | exact mask_sub hk rfl | with_reducible refine Within.ite ?_ ?_
    | split | dsimp -proj only | with_reducible refine Within.u_lat ?_ ?_)

theorem execMsrPoint_within {K : Nat} {b s : State} (hk : K &&& 20752624466389899778 = 20752624466389899778) (h : Within K b s) :
    WithinR K b (execMsrPoint s) := by
  unfold execMsrPoint
  repeat' (first
    | with_reducible refine WithinR.next ?_ | with_reducible refine WithinR.ite ?_ ?_ | with_reducible assumption
    | with_reducible refine sysAct_within ?_ ?_ | exact mask_sub hk rfl | with_reducible refine Within.ite ?_ ?_
    | split | dsimp -proj only | with_reducible refine Within.u_msr ?_ ?_)

theorem execTilthWindow_within {K : Nat} {b s : State} (hk : K &&& 20752624466591226370 = 20752624466591226370) (h : Within K b s) :
    WithinR K b (execTilthWindow s) := by
  unfold execTilthWindow
  repeat' (first
    | with_reducible refine WithinR.next ?_ | with_reducible refine WithinR.ite ?_ ?_ | with_reducible assumption
    | with_reducible refine sysAct_within ?_ ?_ | exact mask_sub hk rfl | with_reducible refine Within.ite ?_ ?_
    | split | dsimp -proj only | with_reducible refine Within.u_til ?_ ?_)

theorem execNetrefSend_within {K : Nat} {b s : State} (hk : K &&& 4194816 = 4194816) (h : Within K b s) :
    WithinR K b (execNetrefSend s) := by
  unfold execNetrefSend
  repeat' (first
    | with_reducible refine WithinR.next ?_ | with_reducible refine WithinR.ite ?_ ?_ | with_reducible assumption
    | with_reducible refine State_emit_within ?_ ?_ | exact mask_sub hk rfl | with_reducible refine Within.ite ?_ ?_
    | split | dsimp -proj only | with_reducible refine Within.u_trl ?_ ?_)

theorem execPowCfgWrite_within {K : Nat} {b s : State} {a1 a2 a3} (hk : K &&& 23058427897412853506 = 23058427897412853506) (h : Within K b s) :
    WithinR K b (execPowCfgWrite a1 a2 a3 s) := by
  unfold execPowCfgWrite
  repeat' (first
    | with_reducible refine WithinR.next ?_ | with_reducible refine WithinR.ite ?_ ?_ | with_reducible assumption
    | with_reducible refine powWriteCfg_within ?_ ?_ | with_reducible refine hostWrite_within ?_ ?_ ?_
    | exact mask_sub hk rfl | with_reducible refine Within.ite ?_ ?_ | split | dsimp -proj only)

theorem execPowOpWrite_within {K : Nat} {b s : State} {a1 a2 a3} (hk : K &&& 20757128070245128962 = 20757128070245128962) (h : Within K b s) :
    WithinR K b (execPowOpWrite a1 a2 a3 s) := by
  unfold execPowOpWrite
  repeat' (first
    | with_reducible refine WithinR.next ?_ | with_reducible refine WithinR.ite ?_ ?_ | with_reducible assumption
    | with_reducible refine powWriteEst_within ?_ ?_ | with_reducible refine hostWrite_within ?_ ?_ ?_
    | exact mask_sub hk rfl | with_reducible refine Within.ite ?_ ?_ | split | dsimp -proj only)

theorem execPowRelWrite_within {K : Nat} {b s : State} {a1 a2 a3} (hk : K &&& 20757128070245128962 = 20757128070245128962) (h : Within K b s) :
    WithinR K b (execPowRelWrite a1 a2 a3 s) := by
  unfold execPowRelWrite
  repeat' (first
    | with_reducible refine WithinR.next ?_ | with_reducible refine WithinR.ite ?_ ?_ | with_reducible assumption
    | with_reducible refine powWriteEst_within ?_ ?_ | with_reducible refine hostWrite_within ?_ ?_ ?_
    | exact mask_sub hk rfl | with_reducible refine Within.ite ?_ ?_ | split | dsimp -proj only)

theorem execPowAuxTimeout_within {K : Nat} {b s : State} {a1} (hk : K &&& 20752624466322791938 = 20752624466322791938) (h : Within K b s) :
    WithinR K b (execPowAuxTimeout a1 s) := by
  unfold execPowAuxTimeout
  repeat' (first
    | with_reducible refine WithinR.next ?_ | with_reducible refine WithinR.ite ?_ ?_ | with_reducible assumption
    | with_reducible refine powTimeout_within ?_ ?_ | exact mask_sub hk rfl | with_reducible refine Within.ite ?_ ?_
    | split | dsimp -proj only)

theorem execPowLearnSave_within {K : Nat} {b s : State} (hk : K &&& 4194320 = 4194320) (h : Within K b s) :
    WithinR K b (execPowLearnSave s) := by
  unfold execPowLearnSave
  repeat' (first
    | with_reducible refine WithinR.next ?_ | with_reducible refine WithinR.ite ?_ ?_ | with_reducible assumption
    | with_reducible refine powSave_within ?_ ?_ | exact mask_sub hk rfl | with_reducible refine Within.ite ?_ ?_
    | split | dsimp -proj only)

theorem execPtOffsetUpdate_within {K : Nat} {b s : State} {a1 a2} (hk : K &&& 20757130269272578818 = 20757130269272578818) (h : Within K b s) :
    WithinR K b (execPtOffsetUpdate a1 a2 s) := by
  unfold execPtOffsetUpdate
  repeat' (first
    | with_reducible refine WithinR.next ?_ | with_reducible refine WithinR.ite ?_ ?_ | with_reducible assumption
    | with_reducible refine ptOffset_within ?_ ?_ | with_reducible refine hostWrite_within ?_ ?_ ?_
    | exact mask_sub hk rfl | with_reducible refine Within.ite ?_ ?_ | split | dsimp -proj only)

theorem execPtStepApply_within {K : Nat} {b s : State} (hk : K &&& 20752628864377690626 = 20752628864377690626) (h : Within K b s) :
    WithinR K b (execPtStepApply s) := by
  unfold execPtStepApply
  repeat' (first
    | with_reducible refine WithinR.next ?_ | with_reducible refine WithinR.ite ?_ ?_ | with_reducible assumption
    | with_reducible refine ptStepApply_within ?_ ?_ | exact mask_sub hk rfl | with_reducible refine Within.ite ?_ ?_
    | split | dsimp -proj only)

theorem execPtSetGo_within {K : Nat} {b s : State} {a1} (hk : K &&& 20757130269272578818 = 20757130269272578818) (h : Within K b s) :
    WithinR K b (execPtSetGo a1 s) := by
  unfold execPtSetGo
  repeat' (first
    | with_reducible refine WithinR.next ?_ | with_reducible refine WithinR.ite ?_ ?_ | with_reducible assumption
    | with_reducible refine ptSetGo_within ?_ ?_ | with_reducible refine hostWrite_within ?_ ?_ ?_
    | exact mask_sub hk rfl | with_reducible refine Within.ite ?_ ?_ | split | dsimp -proj only)

theorem execPtHoldoverTimeout_within {K : Nat} {b s : State} (hk : K &&& 2305847407268593664 = 2305847407268593664) (h : Within K b s) :
    WithinR K b (execPtHoldoverTimeout s) := by
  unfold execPtHoldoverTimeout
  repeat' (first
    | with_reducible refine WithinR.next ?_ | with_reducible refine WithinR.ite ?_ ?_ | with_reducible assumption
    | with_reducible refine Within.wr (i := 42) (by simp [Blk_ite]) (by decide) ?_ ?_ ?_
    | with_reducible refine ptRate_within ?_ ?_ | exact mask_sub hk rfl | with_reducible refine Within.ite ?_ ?_
    | split | dsimp -proj only | with_reducible refine Within.u_pt ?_ ?_)

theorem execPtNowRead_within {K : Nat} {b s : State} (hk : K &&& 2305847407260205312 = 2305847407260205312) (h : Within K b s) :
    WithinR K b (execPtNowRead s) := by
  unfold execPtNowRead
  repeat' (first
    | with_reducible refine WithinR.next ?_ | with_reducible refine WithinR.ite ?_ ?_ | with_reducible assumption
    | with_reducible refine ptNowRead_within ?_ ?_ | with_reducible refine State_status_within ?_ ?_
    | exact mask_sub hk rfl | with_reducible refine Within.ite ?_ ?_ | split | dsimp -proj only)

theorem execEthFrameRx_within {K : Nat} {b s : State} {a1 a2 a3 a4} (hk : K &&& 20752622267295341058 = 20752622267295341058) (h : Within K b s) :
    WithinR K b (execEthFrameRx a1 a2 a3 a4 s) := by
  unfold execEthFrameRx
  repeat' (first
    | with_reducible refine WithinR.next ?_ | with_reducible refine WithinR.ite ?_ ?_ | with_reducible assumption
    | with_reducible refine hwPost_within ?_ ?_ | exact mask_sub hk rfl | with_reducible refine Within.ite ?_ ?_
    | split | dsimp -proj only)

theorem execEthFrameTx_within {K : Nat} {b s : State} {a1 a2} (hk : K &&& 2377935787632105984 = 2377935787632105984) (h : Within K b s) :
    WithinR K b (execEthFrameTx a1 a2 s) := by
  unfold execEthFrameTx
  repeat' (first
    | with_reducible refine WithinR.next ?_ | with_reducible refine WithinR.ite ?_ ?_ | with_reducible assumption
    | with_reducible refine ethSend_within ?_ ?_ | with_reducible refine ethHead_within ?_ ?_ (by assumption)
    | exact mask_sub hk rfl | with_reducible refine Within.ite ?_ ?_ | split | dsimp -proj only)

theorem execEthLaunch_within {K : Nat} {b s : State} {a1 a2} (hk : K &&& 2377935787632105984 = 2377935787632105984) (h : Within K b s) :
    WithinR K b (execEthLaunch a1 a2 s) := by
  unfold execEthLaunch
  repeat' (first
    | with_reducible refine WithinR.next ?_ | with_reducible refine WithinR.ite ?_ ?_ | with_reducible assumption
    | with_reducible refine Within.incSat (i := 56) (by simp [Blk_ite]) (by decide) ?_ ?_ ?_
    | with_reducible refine ethSend_within ?_ ?_ | with_reducible refine ethHead_within ?_ ?_ (by assumption)
    | exact mask_sub hk rfl | with_reducible refine Within.ite ?_ ?_ | split | dsimp -proj only)

theorem execEthTxtsRead_within {K : Nat} {b s : State} {a1} (hk : K &&& 2377900603260010752 = 2377900603260010752) (h : Within K b s) :
    WithinR K b (execEthTxtsRead a1 s) := by
  unfold execEthTxtsRead
  repeat' (first
    | with_reducible refine WithinR.next ?_ | with_reducible refine WithinR.ite ?_ ?_ | with_reducible assumption
    | with_reducible refine ethTxtsRead_within ?_ ?_ | with_reducible refine State_status_within ?_ ?_
    | exact mask_sub hk rfl | with_reducible refine Within.ite ?_ ?_ | split | dsimp -proj only)

theorem execCanrefSync_within {K : Nat} {b s : State} {a1} (hk : K &&& 20754880664724052482 = 20754880664724052482) (h : Within K b s) :
    WithinR K b (execCanrefSync a1 s) := by
  unfold execCanrefSync
  repeat' (first
    | with_reducible refine WithinR.next ?_ | with_reducible refine WithinR.ite ?_ ?_ | with_reducible assumption
    | with_reducible refine Within.incSat (i := 42) (by simp [Blk_ite]) (by decide) ?_ ?_ ?_
    | with_reducible refine Within.incWrap (i := 42) (by simp [Blk_ite]) (by decide) ?_ ?_ ?_
    | with_reducible refine canSystem_within ?_ ?_ | with_reducible refine canrefSlot_within ?_ ?_
    | with_reducible refine canSystemAbort_within ?_ ?_ | exact mask_sub hk rfl
    | with_reducible refine Within.ite ?_ ?_ | split | dsimp -proj only | with_reducible refine Within.u_pt ?_ ?_)

theorem execCanrefFup_within {K : Nat} {b s : State} {a1} (hk : K &&& 2308094809572638720 = 2308094809572638720) (h : Within K b s) :
    WithinR K b (execCanrefFup a1 s) := by
  unfold execCanrefFup
  repeat' (first
    | with_reducible refine WithinR.next ?_ | with_reducible refine WithinR.ite ?_ ?_ | with_reducible assumption
    | with_reducible refine canSystem_within ?_ ?_ | exact mask_sub hk rfl | with_reducible refine Within.ite ?_ ?_
    | split | dsimp -proj only | with_reducible refine Within.u_pt ?_ ?_)

theorem execCanrefFupAbort_within {K : Nat} {b s : State} {a1} (hk : K &&& 20754878465700796930 = 20754878465700796930) (h : Within K b s) :
    WithinR K b (execCanrefFupAbort a1 s) := by
  unfold execCanrefFupAbort
  repeat' (first
    | with_reducible refine WithinR.next ?_ | with_reducible refine WithinR.ite ?_ ?_ | with_reducible assumption
    | with_reducible refine fupDrop_within ?_ ?_ | exact mask_sub hk rfl | with_reducible refine Within.ite ?_ ?_
    | split | dsimp -proj only)

theorem execLinkUp_within {K : Nat} {b s : State} {a1} (hk : K &&& 2305869397593423872 = 2305869397593423872) (h : Within K b s) :
    WithinR K b (execLinkUp a1 s) := by
  unfold execLinkUp
  repeat' (first
    | with_reducible refine WithinR.next ?_ | with_reducible refine WithinR.ite ?_ ?_ | with_reducible assumption
    | with_reducible refine msrLinkUp_within ?_ ?_ | with_reducible refine latLinkUp_within ?_ ?_
    | exact mask_sub hk rfl | with_reducible refine Within.ite ?_ ?_ | split | dsimp -proj only)

theorem execLinkLoss_within {K : Nat} {b s : State} {a1} (hk : K &&& 2305869397492760576 = 2305869397492760576) (h : Within K b s) :
    WithinR K b (execLinkLoss a1 s) := by
  unfold execLinkLoss
  repeat' (first
    | with_reducible refine WithinR.next ?_ | with_reducible refine WithinR.ite ?_ ?_ | with_reducible assumption
    | with_reducible refine Within.wr (i := 44) (by simp [Blk_ite]) (by decide) ?_ ?_ ?_
    | with_reducible refine latLinkLoss_within ?_ ?_ | exact mask_sub hk rfl | with_reducible refine Within.ite ?_ ?_
    | split | dsimp -proj only)

theorem execTrainOriginate_within {K : Nat} {b s : State} (hk : K &&& 33554944 = 33554944) (h : Within K b s) :
    WithinR K b (execTrainOriginate s) := by
  unfold execTrainOriginate
  repeat' (first
    | with_reducible refine WithinR.next ?_ | with_reducible refine WithinR.ite ?_ ?_ | with_reducible assumption
    | with_reducible refine latOriginate_within ?_ ?_ | with_reducible refine Within.forN (fun _ _ _ _ => ?_) ?_
    | exact mask_sub hk rfl | with_reducible refine Within.ite ?_ ?_ | split | dsimp -proj only
    | with_reducible refine Within.u_lat ?_ ?_)

theorem execTrainRx_within {K : Nat} {b s : State} {a1 a2 a3 a4} (hk : K &&& 21941581365047736834 = 21941581365047736834) (h : Within K b s) :
    WithinR K b (execTrainRx a1 a2 a3 a4 s) := by
  unfold execTrainRx
  repeat' (first
    | with_reducible refine WithinR.next ?_ | with_reducible refine WithinR.ite ?_ ?_ | with_reducible assumption
    | with_reducible refine latDegrade_within ?_ ?_ | with_reducible refine latBreak_within ?_ ?_
    | with_reducible refine State_setRing_within ?_ ?_ | with_reducible refine latSegment_within ?_ ?_
    | with_reducible refine latCrcErr_within ?_ ?_ | exact mask_sub hk rfl | with_reducible refine Within.ite ?_ ?_
    | with_reducible refine Within.foldl (fun _ _ _ => ?_) ?_ | split | dsimp -proj only)

theorem execSetDeadline_within {K : Nat} {b s : State} (hk : K &&& 21941599232323500678 = 21941599232323500678) (h : Within K b s) :
    WithinR K b (execSetDeadline s) := by
  unfold execSetDeadline
  repeat' (first
    | with_reducible refine WithinR.next ?_ | with_reducible refine WithinR.ite ?_ ?_ | with_reducible assumption
    | with_reducible refine setDeadline_within ?_ ?_ | exact mask_sub hk rfl | with_reducible refine Within.ite ?_ ?_
    | split | dsimp -proj only)

theorem execTriggerRx_within {K : Nat} {b s : State} {a1} (hk : K &&& 33562624 = 33562624) (h : Within K b s) :
    WithinR K b (execTriggerRx a1 s) := by
  unfold execTriggerRx
  repeat' (first
    | with_reducible refine WithinR.next ?_ | with_reducible refine WithinR.ite ?_ ?_ | with_reducible assumption
    | with_reducible refine State_setRing_within ?_ ?_ | exact mask_sub hk rfl | with_reducible refine Within.ite ?_ ?_
    | split | dsimp -proj only | with_reducible refine Within.u_girth_lat ?_ ?_)

theorem execTriggerAbsent_within {K : Nat} {b s : State} {a1} (hk : K &&& 20752631063421917698 = 20752631063421917698) (h : Within K b s) :
    WithinR K b (execTriggerAbsent a1 s) := by
  unfold execTriggerAbsent
  repeat' (first
    | with_reducible refine WithinR.next ?_ | with_reducible refine WithinR.ite ?_ ?_ | with_reducible assumption
    | with_reducible refine latTrig_within ?_ ?_ | with_reducible refine State_setRing_within ?_ ?_
    | exact mask_sub hk rfl | with_reducible refine Within.ite ?_ ?_ | split | dsimp -proj only)

theorem execMastershipListenEnd_within {K : Nat} {b s : State} (hk : K &&& 3494802106966082048 = 3494802106966082048) (h : Within K b s) :
    WithinR K b (execMastershipListenEnd s) := by
  unfold execMastershipListenEnd
  repeat' (first
    | with_reducible refine WithinR.next ?_ | with_reducible refine WithinR.ite ?_ ?_ | with_reducible assumption
    | with_reducible refine latListenEnd_within ?_ ?_ | with_reducible refine Within.forN (fun _ _ _ _ => ?_) ?_
    | with_reducible refine subSync_within ?_ ?_ | exact mask_sub hk rfl | with_reducible refine Within.ite ?_ ?_
    | split | dsimp -proj only)

theorem execEnumForce_within {K : Nat} {b s : State} {a1 a2} (hk : K &&& 20757134667344255746 = 20757134667344255746) (h : Within K b s) :
    WithinR K b (execEnumForce a1 a2 s) := by
  unfold execEnumForce
  repeat' (first
    | with_reducible refine WithinR.next ?_ | with_reducible refine WithinR.ite ?_ ?_ | with_reducible assumption
    | with_reducible refine latEnumStart_within ?_ ?_ | with_reducible refine latCommand_within ?_ (fun _ _ => ?_) ?_
    | with_reducible refine hostWrite_within ?_ ?_ ?_ | exact mask_sub hk rfl | with_reducible refine Within.ite ?_ ?_
    | split | dsimp -proj only)

theorem execEnumFill_within {K : Nat} {b s : State} {a1 a2} (hk : K &&& 20757134667344255746 = 20757134667344255746) (h : Within K b s) :
    WithinR K b (execEnumFill a1 a2 s) := by
  unfold execEnumFill
  repeat' (first
    | with_reducible refine WithinR.next ?_ | with_reducible refine WithinR.ite ?_ ?_ | with_reducible assumption
    | with_reducible refine latEnumStart_within ?_ ?_ | with_reducible refine latCommand_within ?_ (fun _ _ => ?_) ?_
    | with_reducible refine hostWrite_within ?_ ?_ ?_ | exact mask_sub hk rfl | with_reducible refine Within.ite ?_ ?_
    | split | dsimp -proj only)

theorem execRemeasure_within {K : Nat} {b s : State} {a1 a2} (hk : K &&& 20757125871251233538 = 20757125871251233538) (h : Within K b s) :
    WithinR K b (execRemeasure a1 a2 s) := by
  unfold execRemeasure
  repeat' (first
    | with_reducible refine WithinR.next ?_ | with_reducible refine WithinR.ite ?_ ?_ | with_reducible assumption
    | with_reducible refine latMeasureAll_within ?_ ?_ | with_reducible refine latCommand_within ?_ (fun _ _ => ?_) ?_
    | with_reducible refine hostWrite_within ?_ ?_ ?_ | exact mask_sub hk rfl | with_reducible refine Within.ite ?_ ?_
    | split | dsimp -proj only)

theorem execAcceptMap_within {K : Nat} {b s : State} {a1 a2} (hk : K &&& 20757125871217679146 = 20757125871217679146) (h : Within K b s) :
    WithinR K b (execAcceptMap a1 a2 s) := by
  unfold execAcceptMap
  repeat' (first
    | with_reducible refine WithinR.next ?_ | with_reducible refine WithinR.ite ?_ ?_ | with_reducible assumption
    | with_reducible refine latMapStore_within ?_ ?_ | with_reducible refine latCommand_within ?_ (fun _ _ => ?_) ?_
    | with_reducible refine hostWrite_within ?_ ?_ ?_ | exact mask_sub hk rfl | with_reducible refine Within.ite ?_ ?_
    | split | dsimp -proj only)

theorem execPass_within {K : Nat} {b s : State} {a1 a2} (hk : K &&& 20757125871251233538 = 20757125871251233538) (h : Within K b s) :
    WithinR K b (execPass a1 a2 s) := by
  unfold execPass
  repeat' (first
    | with_reducible refine WithinR.next ?_ | with_reducible refine WithinR.ite ?_ ?_ | with_reducible assumption
    | with_reducible refine latPass_within ?_ ?_ | with_reducible refine latCommand_within ?_ (fun _ _ => ?_) ?_
    | with_reducible refine hostWrite_within ?_ ?_ ?_ | exact mask_sub hk rfl | with_reducible refine Within.ite ?_ ?_
    | split | dsimp -proj only)

theorem execEnumEndRx_within {K : Nat} {b s : State} {a1 a2 a3} (hk : K &&& 21941581365047736834 = 21941581365047736834) (h : Within K b s) :
    WithinR K b (execEnumEndRx a1 a2 a3 s) := by
  unfold execEnumEndRx
  repeat' (first
    | with_reducible refine WithinR.next ?_ | with_reducible refine WithinR.ite ?_ ?_ | with_reducible assumption
    | with_reducible refine latEvaluate_within ?_ ?_ | with_reducible refine latEnumSend_within ?_ ?_
    | with_reducible refine State_setRing_within ?_ ?_ | with_reducible refine latFarEnd_within ?_ ?_
    | exact mask_sub hk rfl | with_reducible refine Within.ite ?_ ?_ | split | dsimp -proj only)

theorem execEnumTimeout_within {K : Nat} {b s : State} {a1} (hk : K &&& 21941581365047736834 = 21941581365047736834) (h : Within K b s) :
    WithinR K b (execEnumTimeout a1 s) := by
  unfold execEnumTimeout
  repeat' (first
    | with_reducible refine WithinR.next ?_ | with_reducible refine WithinR.ite ?_ ?_ | with_reducible assumption
    | with_reducible refine Within.wr (i := 43) (by simp [Blk_ite]) (by decide) ?_ ?_ ?_
    | with_reducible refine latRead_within ?_ ?_ | with_reducible refine latDegrade_within ?_ ?_
    | with_reducible refine Within.forN (fun _ _ _ _ => ?_) ?_ | with_reducible refine latRecord_within ?_ ?_
    | with_reducible refine State_setRing_within ?_ ?_ | with_reducible refine latEnumSend_within ?_ ?_
    | exact mask_sub hk rfl | with_reducible refine Within.ite ?_ ?_
    | with_reducible refine Within.foldl (fun _ _ _ => ?_) ?_ | split | dsimp -proj only)

theorem execEchoRx_within {K : Nat} {b s : State} {a1 a2 a3 a4} (hk : K &&& 21941581365047736962 = 21941581365047736962) (h : Within K b s) :
    WithinR K b (execEchoRx a1 a2 a3 a4 s) := by
  unfold execEchoRx
  repeat' (first
    | with_reducible refine WithinR.next ?_ | with_reducible refine WithinR.ite ?_ ?_ | with_reducible assumption
    | with_reducible refine latMeasured_within ?_ ?_ | with_reducible refine State_setRing_within ?_ ?_
    | exact mask_sub hk rfl | with_reducible refine Within.ite ?_ ?_ | split | dsimp -proj only)

theorem execReadRspRx_within {K : Nat} {b s : State} {a1 a2 a3 a4 a5} (hk : K &&& 21941581365047736878 = 21941581365047736878) (h : Within K b s) :
    WithinR K b (execReadRspRx a1 a2 a3 a4 a5 s) := by
  unfold execReadRspRx
  repeat' (first
    | with_reducible refine WithinR.next ?_ | with_reducible refine WithinR.ite ?_ ?_ | with_reducible assumption
    | with_reducible refine Within.wr (i := 43) (by simp [Blk_ite]) (by decide) ?_ ?_ ?_
    | with_reducible refine latFault_within ?_ ?_ | with_reducible refine latReadAll_within ?_ ?_
    | with_reducible refine latMeasure_within ?_ ?_ | with_reducible refine latNodeEnum_within ?_ ?_
    | with_reducible refine State_setRing_within ?_ ?_ | with_reducible refine State_setObj_within ?_ ?_
    | with_reducible refine latUid_within ?_ ?_ | exact mask_sub hk rfl | with_reducible refine Within.ite ?_ ?_
    | split | dsimp -proj only)

theorem execWriteAckRx_within {K : Nat} {b s : State} {a1 a2 a3 a4 a5} (hk : K &&& 3494802106932535296 = 3494802106932535296) (h : Within K b s) :
    WithinR K b (execWriteAckRx a1 a2 a3 a4 a5 s) := by
  unfold execWriteAckRx
  repeat' (first
    | with_reducible refine WithinR.next ?_ | with_reducible refine WithinR.ite ?_ ?_ | with_reducible assumption
    | with_reducible refine Within.wr (i := 43) (by simp [Blk_ite]) (by decide) ?_ ?_ ?_
    | with_reducible refine latDegrade_within ?_ ?_ | exact mask_sub hk rfl | with_reducible refine Within.ite ?_ ?_
    | split | dsimp -proj only)

theorem execNackRx_within {K : Nat} {b s : State} {a1 a2 a3 a4} (hk : K &&& 0 = 0) (h : Within K b s) :
    WithinR K b (execNackRx a1 a2 a3 a4 s) := by
  unfold execNackRx
  repeat' (first
    | with_reducible refine WithinR.next ?_ | with_reducible refine WithinR.ite ?_ ?_ | with_reducible assumption
    | exact mask_sub hk rfl | with_reducible refine Within.ite ?_ ?_ | split | dsimp -proj only)

theorem execLinkDownRx_within {K : Nat} {b s : State} {a1 a2 a3} (hk : K &&& 21941581365047736834 = 21941581365047736834) (h : Within K b s) :
    WithinR K b (execLinkDownRx a1 a2 a3 s) := by
  unfold execLinkDownRx
  repeat' (first
    | with_reducible refine WithinR.next ?_ | with_reducible refine WithinR.ite ?_ ?_ | with_reducible assumption
    | with_reducible refine latBreak_within ?_ ?_ | with_reducible refine latDegrade_within ?_ ?_
    | with_reducible refine State_setRing_within ?_ ?_ | with_reducible refine latShow_within ?_ ?_
    | exact mask_sub hk rfl | with_reducible refine Within.ite ?_ ?_ | split | dsimp -proj only)

theorem execRingPassRequest_within {K : Nat} {b s : State} {a1 a2} (hk : K &&& 33554944 = 33554944) (h : Within K b s) :
    WithinR K b (execRingPassRequest a1 a2 s) := by
  unfold execRingPassRequest
  repeat' (first
    | with_reducible refine WithinR.next ?_ | with_reducible refine WithinR.ite ?_ ?_ | with_reducible assumption
    | with_reducible refine State_emit_within ?_ ?_ | with_reducible refine State_setRing_within ?_ ?_
    | exact mask_sub hk rfl | with_reducible refine Within.ite ?_ ?_ | split | dsimp -proj only)

theorem execRingPassAcceptRx_within {K : Nat} {b s : State} {a1} (hk : K &&& 33554432 = 33554432) (h : Within K b s) :
    WithinR K b (execRingPassAcceptRx a1 s) := by
  unfold execRingPassAcceptRx
  repeat' (first
    | with_reducible refine WithinR.next ?_ | with_reducible refine WithinR.ite ?_ ?_ | with_reducible assumption
    | with_reducible refine State_setRing_within ?_ ?_ | exact mask_sub hk rfl | with_reducible refine Within.ite ?_ ?_
    | split | dsimp -proj only)

theorem execRingPassTimeout_within {K : Nat} {b s : State} {a1} (hk : K &&& 21945240541356538371 = 21945240541356538371) (h : Within K b s) :
    WithinR K b (execRingPassTimeout a1 s) := by
  unfold execRingPassTimeout
  repeat' (first
    | with_reducible refine WithinR.next ?_ | with_reducible refine WithinR.ite ?_ ?_ | with_reducible assumption
    | with_reducible refine Within.wr (i := 43) (by simp [Blk_ite]) (by decide) ?_ ?_ ?_
    | with_reducible refine State_setRing_within ?_ ?_ | with_reducible refine handoffRefuse_within ?_ ?_
    | exact mask_sub hk rfl | with_reducible refine Within.ite ?_ ?_ | split | dsimp -proj only)

theorem execMsrSyncSend_within {K : Nat} {b s : State} {a1 a2 a3} (hk : K &&& 67109376 = 67109376) (h : Within K b s) :
    WithinR K b (execMsrSyncSend a1 a2 a3 s) := by
  unfold execMsrSyncSend
  repeat' (first
    | with_reducible refine WithinR.next ?_ | with_reducible refine WithinR.ite ?_ ?_ | with_reducible assumption
    | with_reducible refine State_setLink_within ?_ ?_ | with_reducible refine State_emit_within ?_ ?_
    | exact mask_sub hk rfl | with_reducible refine Within.ite ?_ ?_ | split | dsimp -proj only)

theorem execMsrFrameRx_within {K : Nat} {b s : State} {a1 a2} (hk : K &&& 2305860601466847234 = 2305860601466847234) (h : Within K b s) :
    WithinR K b (execMsrFrameRx a1 a2 s) := by
  unfold execMsrFrameRx
  repeat' (first
    | with_reducible refine WithinR.next ?_ | with_reducible refine WithinR.ite ?_ ?_ | with_reducible assumption
    | with_reducible refine Within.incSat (i := 44) (by simp [Blk_ite]) (by decide) ?_ ?_ ?_
    | with_reducible refine Within.wr (i := 44) (by simp [Blk_ite]) (by decide) ?_ ?_ ?_
    | with_reducible refine Within.wrB (i := 44) (by simp [Blk_ite]) (by decide) ?_ ?_ ?_
    | with_reducible refine msrAccept_within ?_ ?_ | with_reducible refine State_setLink_within ?_ ?_
    | with_reducible refine msrCtl_within ?_ ?_ | exact mask_sub hk rfl | with_reducible refine Within.ite ?_ ?_
    | split | dsimp -proj only)

theorem execMsrConvDeadline_within {K : Nat} {b s : State} {a1} (hk : K &&& 2305860601466847362 = 2305860601466847362) (h : Within K b s) :
    WithinR K b (execMsrConvDeadline a1 s) := by
  unfold execMsrConvDeadline
  repeat' (first
    | with_reducible refine WithinR.next ?_ | with_reducible refine WithinR.ite ?_ ?_ | with_reducible assumption
    | with_reducible refine Within.incSat (i := 44) (by simp [Blk_ite]) (by decide) ?_ ?_ ?_
    | with_reducible refine convPut_within ?_ ?_ | with_reducible refine State_took_within ?_ ?_
    | with_reducible refine State_setLink_within ?_ ?_ | exact mask_sub hk rfl | with_reducible refine Within.ite ?_ ?_
    | split | dsimp -proj only)

theorem execMsrCtrlReplyRx_within {K : Nat} {b s : State} {a1 a2} (hk : K &&& 2305860601466847360 = 2305860601466847360) (h : Within K b s) :
    WithinR K b (execMsrCtrlReplyRx a1 a2 s) := by
  unfold execMsrCtrlReplyRx
  repeat' (first
    | with_reducible refine WithinR.next ?_ | with_reducible refine WithinR.ite ?_ ?_ | with_reducible assumption
    | with_reducible refine Within.wr (i := 44) (by simp [Blk_ite]) (by decide) ?_ ?_ ?_
    | with_reducible refine msrRead_within ?_ ?_ | with_reducible refine msrMeasured_within ?_ ?_
    | with_reducible refine State_setLink_within ?_ ?_ | exact mask_sub hk rfl | with_reducible refine Within.ite ?_ ?_
    | split | dsimp -proj only)

theorem execMsrRemeasure_within {K : Nat} {b s : State} {a1 a2} (hk : K &&& 20757125871284787970 = 20757125871284787970) (h : Within K b s) :
    WithinR K b (execMsrRemeasure a1 a2 s) := by
  unfold execMsrRemeasure
  repeat' (first
    | with_reducible refine WithinR.next ?_ | with_reducible refine WithinR.ite ?_ ?_ | with_reducible assumption
    | with_reducible refine msrMeasure_within ?_ ?_ | with_reducible refine State_status_within ?_ ?_
    | with_reducible refine hostWrite_within ?_ ?_ ?_ | exact mask_sub hk rfl | with_reducible refine Within.ite ?_ ?_
    | split | dsimp -proj only)

theorem execCapCtlWrite_within {K : Nat} {b s : State} {a1 a2} (hk : K &&& 20757214107428461314 = 20757214107428461314) (h : Within K b s) :
    WithinR K b (execCapCtlWrite a1 a2 s) := by
  unfold execCapCtlWrite
  repeat' (first
    | with_reducible refine WithinR.next ?_ | with_reducible refine WithinR.ite ?_ ?_ | with_reducible assumption
    | with_reducible refine capCtlWrite_within ?_ ?_ | with_reducible refine hostWrite_within ?_ ?_ ?_
    | exact mask_sub hk rfl | with_reducible refine Within.ite ?_ ?_ | split | dsimp -proj only)

theorem execDumpDone_within {K : Nat} {b s : State} {a1} (hk : K &&& 20752692910917425666 = 20752692910917425666) (h : Within K b s) :
    WithinR K b (execDumpDone a1 s) := by
  unfold execDumpDone
  repeat' (first
    | with_reducible refine WithinR.next ?_ | with_reducible refine WithinR.ite ?_ ?_ | with_reducible assumption
    | with_reducible refine dumpClose_within ?_ ?_ | with_reducible refine jobTo_within ?_ ?_
    | with_reducible refine dumpCopy_within ?_ ?_ | exact mask_sub hk rfl | with_reducible refine Within.ite ?_ ?_
    | split | dsimp -proj only)

theorem execQWr_within {K : Nat} {b s : State} {a1 a2 a3} (hk : K &&& 20757125871217679106 = 20757125871217679106) (h : Within K b s) :
    WithinR K b (execQWr a1 a2 a3 s) := by
  unfold execQWr
  repeat' (first
    | with_reducible refine WithinR.next ?_ | with_reducible refine WithinR.ite ?_ ?_ | with_reducible assumption
    | with_reducible refine furProduce_within ?_ ?_ | with_reducible refine hostWrite_within ?_ ?_ ?_
    | exact mask_sub hk rfl | with_reducible refine Within.ite ?_ ?_ | split | dsimp -proj only)

theorem execQWrEnd_within {K : Nat} {b s : State} {a1 a2 a3} (hk : K &&& 20757125871217679106 = 20757125871217679106) (h : Within K b s) :
    WithinR K b (execQWrEnd a1 a2 a3 s) := by
  unfold execQWrEnd
  repeat' (first
    | with_reducible refine WithinR.next ?_ | with_reducible refine WithinR.ite ?_ ?_ | with_reducible assumption
    | with_reducible refine furProduce_within ?_ ?_ | with_reducible refine hostWrite_within ?_ ?_ ?_
    | exact mask_sub hk rfl | with_reducible refine Within.ite ?_ ?_ | split | dsimp -proj only)

theorem execQPctlPrio_within {K : Nat} {b s : State} {a1 a2 a3} (hk : K &&& 20757125871217679106 = 20757125871217679106) (h : Within K b s) :
    WithinR K b (execQPctlPrio a1 a2 a3 s) := by
  unfold execQPctlPrio
  repeat' (first
    | with_reducible refine WithinR.next ?_ | with_reducible refine WithinR.ite ?_ ?_ | with_reducible assumption
    | with_reducible refine furPrio_within ?_ ?_ | with_reducible refine hostWrite_within ?_ ?_ ?_
    | exact mask_sub hk rfl | with_reducible refine Within.ite ?_ ?_ | split | dsimp -proj only)

theorem execPoisonNext_within {K : Nat} {b s : State} {a1 a2} (hk : K &&& 20757125871217679106 = 20757125871217679106) (h : Within K b s) :
    WithinR K b (execPoisonNext a1 a2 s) := by
  unfold execPoisonNext
  repeat' (first
    | with_reducible refine WithinR.next ?_ | with_reducible refine WithinR.ite ?_ ?_ | with_reducible assumption
    | with_reducible refine furPoisonNext_within ?_ ?_ | with_reducible refine hostWrite_within ?_ ?_ ?_
    | exact mask_sub hk rfl | with_reducible refine Within.ite ?_ ?_ | split | dsimp -proj only)

theorem execAbortCmd_within {K : Nat} {b s : State} {a1 a2} (hk : K &&& 20757125871217679106 = 20757125871217679106) (h : Within K b s) :
    WithinR K b (execAbortCmd a1 a2 s) := by
  unfold execAbortCmd
  repeat' (first
    | with_reducible refine WithinR.next ?_ | with_reducible refine WithinR.ite ?_ ?_ | with_reducible assumption
    | with_reducible refine furPctlAbort_within ?_ ?_ | with_reducible refine hostWrite_within ?_ ?_ ?_
    | exact mask_sub hk rfl | with_reducible refine Within.ite ?_ ?_ | split | dsimp -proj only)

theorem execFlush_within {K : Nat} {b s : State} {a1 a2} (hk : K &&& 20757125871217679106 = 20757125871217679106) (h : Within K b s) :
    WithinR K b (execFlush a1 a2 s) := by
  unfold execFlush
  repeat' (first
    | with_reducible refine WithinR.next ?_ | with_reducible refine WithinR.ite ?_ ?_ | with_reducible assumption
    | with_reducible refine furFlush_within ?_ ?_ | with_reducible refine State_status_within ?_ ?_
    | with_reducible refine hostWrite_within ?_ ?_ ?_ | exact mask_sub hk rfl | with_reducible refine Within.ite ?_ ?_
    | split | dsimp -proj only)

theorem execQNextRead_within {K : Nat} {b s : State} {a1 a2} (hk : K &&& 20757125871217679106 = 20757125871217679106) (h : Within K b s) :
    WithinR K b (execQNextRead a1 a2 s) := by
  unfold execQNextRead
  repeat' (first
    | with_reducible refine WithinR.next ?_ | with_reducible refine WithinR.ite ?_ ?_ | with_reducible assumption
    | with_reducible refine furNext_within ?_ ?_ | with_reducible refine State_status_within ?_ ?_
    | with_reducible refine hostRead_within ?_ ?_ ?_ | exact mask_sub hk rfl | with_reducible refine Within.ite ?_ ?_
    | split | dsimp -proj only)

theorem execQDataRead_within {K : Nat} {b s : State} {a1 a2 a3} (hk : K &&& 20757125871217680258 = 20757125871217680258) (h : Within K b s) :
    WithinR K b (execQDataRead a1 a2 a3 s) := by
  unfold execQDataRead
  repeat' (first
    | with_reducible refine WithinR.next ?_ | with_reducible refine WithinR.ite ?_ ?_ | with_reducible assumption
    | with_reducible refine furData_within ?_ ?_ | with_reducible refine State_status_within ?_ ?_
    | with_reducible refine hostRead_within ?_ ?_ ?_ | exact mask_sub hk rfl | with_reducible refine Within.ite ?_ ?_
    | split | dsimp -proj only)

theorem execHwPacketWrite_within {K : Nat} {b s : State} {a1 a2} (hk : K &&& 20752622267295341058 = 20752622267295341058) (h : Within K b s) :
    WithinR K b (execHwPacketWrite a1 a2 s) := by
  unfold execHwPacketWrite
  repeat' (first
    | with_reducible refine WithinR.next ?_ | with_reducible refine WithinR.ite ?_ ?_ | with_reducible assumption
    | with_reducible refine hwPost_within ?_ ?_ | exact mask_sub hk rfl | with_reducible refine Within.ite ?_ ?_
    | split | dsimp -proj only)

theorem execBankSwap_within {K : Nat} {b s : State} {a1} (hk : K &&& 2305878193585789440 = 2305878193585789440) (h : Within K b s) :
    WithinR K b (execBankSwap a1 s) := by
  unfold execBankSwap
  repeat' (first
    | with_reducible refine WithinR.next ?_ | with_reducible refine WithinR.ite ?_ ?_ | with_reducible assumption
    | with_reducible refine State_setQueue_within ?_ ?_ | with_reducible refine furSync_within ?_ ?_
    | exact mask_sub hk rfl | with_reducible refine Within.ite ?_ ?_ | split | dsimp -proj only)

theorem execSpillClose_within {K : Nat} {b s : State} {a1} (hk : K &&& 2305878193585789440 = 2305878193585789440) (h : Within K b s) :
    WithinR K b (execSpillClose a1 s) := by
  unfold execSpillClose
  repeat' (first
    | with_reducible refine WithinR.next ?_ | with_reducible refine WithinR.ite ?_ ?_ | with_reducible assumption
    | with_reducible refine State_setQueue_within ?_ ?_ | with_reducible refine furSync_within ?_ ?_
    | exact mask_sub hk rfl | with_reducible refine Within.ite ?_ ?_ | split | dsimp -proj only)

theorem execSpillDone_within {K : Nat} {b s : State} {a1} (hk : K &&& 20752622267295342210 = 20752622267295342210) (h : Within K b s) :
    WithinR K b (execSpillDone a1 s) := by
  unfold execSpillDone
  repeat' (first
    | with_reducible refine WithinR.next ?_ | with_reducible refine WithinR.ite ?_ ?_ | with_reducible assumption
    | with_reducible refine State_setQueue_within ?_ ?_ | with_reducible refine furSync_within ?_ ?_
    | with_reducible refine furParity_within ?_ ?_ | with_reducible refine Within.forN (fun _ _ _ _ => ?_) ?_
    | with_reducible refine spillStore_within ?_ ?_ | exact mask_sub hk rfl | with_reducible refine Within.ite ?_ ?_
    | split | dsimp -proj only)

theorem execOpenTmo_within {K : Nat} {b s : State} {a1} (hk : K &&& 20752622267295341058 = 20752622267295341058) (h : Within K b s) :
    WithinR K b (execOpenTmo a1 s) := by
  unfold execOpenTmo
  repeat' (first
    | with_reducible refine WithinR.next ?_ | with_reducible refine WithinR.ite ?_ ?_ | with_reducible assumption
    | with_reducible refine Within.wr (i := 45) (by simp [Blk_ite]) (by decide) ?_ ?_ ?_
    | with_reducible refine furAbort_within ?_ ?_ | exact mask_sub hk rfl | with_reducible refine Within.ite ?_ ?_
    | split | dsimp -proj only)

theorem execQEnable_within {K : Nat} {b s : State} {a1 a2 a3 a4 a5} (hk : K &&& 20757125871217679106 = 20757125871217679106) (h : Within K b s) :
    WithinR K b (execQEnable a1 a2 a3 a4 a5 s) := by
  unfold execQEnable
  repeat' (first
    | with_reducible refine WithinR.next ?_ | with_reducible refine WithinR.ite ?_ ?_ | with_reducible assumption
    | with_reducible refine queueCfgWrite_within ?_ ?_ | with_reducible refine hostWrite_within ?_ ?_ ?_
    | exact mask_sub hk rfl | with_reducible refine Within.ite ?_ ?_ | split | dsimp -proj only)

theorem execQDisable_within {K : Nat} {b s : State} {a1 a2} (hk : K &&& 20757125871217679106 = 20757125871217679106) (h : Within K b s) :
    WithinR K b (execQDisable a1 a2 s) := by
  unfold execQDisable
  repeat' (first
    | with_reducible refine WithinR.next ?_ | with_reducible refine WithinR.ite ?_ ?_ | with_reducible assumption
    | with_reducible refine queueOff_within ?_ ?_ | with_reducible refine State_status_within ?_ ?_
    | with_reducible refine hostWrite_within ?_ ?_ ?_ | exact mask_sub hk rfl | with_reducible refine Within.ite ?_ ?_
    | split | dsimp -proj only)

theorem execTilthStart_within {K : Nat} {b s : State} (hk : K &&& 3494863679852126208 = 3494863679852126208) (h : Within K b s) :
    WithinR K b (execTilthStart s) := by
  unfold execTilthStart
  repeat' (first
    | with_reducible refine WithinR.next ?_ | with_reducible refine WithinR.ite ?_ ?_ | with_reducible assumption
    | with_reducible refine Within.wrB (i := 46) (by simp [Blk_ite]) (by decide) ?_ ?_ ?_
    | with_reducible refine Within.wr (i := 46) (by simp [Blk_ite]) (by decide) ?_ ?_ ?_
    | with_reducible refine tilDegrade_within ?_ ?_ | exact mask_sub hk rfl | with_reducible refine Within.ite ?_ ?_
    | split | dsimp -proj only | with_reducible refine Within.u_til ?_ ?_)

theorem execTilthFirstPass_within {K : Nat} {b s : State} (hk : K &&& 268435456 = 268435456) (h : Within K b s) :
    WithinR K b (execTilthFirstPass s) := by
  unfold execTilthFirstPass
  repeat' (first
    | with_reducible refine WithinR.next ?_ | with_reducible refine WithinR.ite ?_ ?_ | with_reducible assumption
    | exact mask_sub hk rfl | with_reducible refine Within.ite ?_ ?_ | split | dsimp -proj only
    | with_reducible refine Within.u_til ?_ ?_)

theorem execTilthSecondPass_within {K : Nat} {b s : State} (hk : K &&& 3494863679852126208 = 3494863679852126208) (h : Within K b s) :
    WithinR K b (execTilthSecondPass s) := by
  unfold execTilthSecondPass
  repeat' (first
    | with_reducible refine WithinR.next ?_ | with_reducible refine WithinR.ite ?_ ?_ | with_reducible assumption
    | with_reducible refine tilFlag_within (i := 46) (by simp [Blk_ite]) (by decide) ?_ ?_ ?_ | exact mask_sub hk rfl
    | with_reducible refine Within.ite ?_ ?_ | with_reducible refine Within.foldl (fun _ _ _ => ?_) ?_ | split
    | dsimp -proj only | with_reducible refine Within.u_til ?_ ?_)

theorem execCycleWindowClose_within {K : Nat} {b s : State} (hk : K &&& 3494863679852126336 = 3494863679852126336) (h : Within K b s) :
    WithinR K b (execCycleWindowClose s) := by
  unfold execCycleWindowClose
  repeat' (first
    | with_reducible refine WithinR.next ?_ | with_reducible refine WithinR.ite ?_ ?_ | with_reducible assumption
    | with_reducible refine Within.wr (i := 46) (by simp [Blk_ite]) (by decide) ?_ ?_ ?_
    | with_reducible refine State_took_within ?_ ?_ | with_reducible refine tilStop_within ?_ ?_
    | exact mask_sub hk rfl | with_reducible refine Within.ite ?_ ?_ | split | dsimp -proj only
    | with_reducible refine Within.u_til ?_ ?_)

theorem execStatWindowClose_within {K : Nat} {b s : State} (hk : K &&& 268435456 = 268435456) (h : Within K b s) :
    WithinR K b (execStatWindowClose s) := by
  unfold execStatWindowClose
  repeat' (first
    | with_reducible refine WithinR.next ?_ | with_reducible refine WithinR.ite ?_ ?_ | with_reducible assumption
    | exact mask_sub hk rfl | with_reducible refine Within.ite ?_ ?_ | split | dsimp -proj only
    | with_reducible refine Within.u_til ?_ ?_)

theorem execZWindowClose_within {K : Nat} {b s : State} (hk : K &&& 2305913378226307200 = 2305913378226307200) (h : Within K b s) :
    WithinR K b (execZWindowClose s) := by
  unfold execZWindowClose
  repeat' (first
    | with_reducible refine WithinR.next ?_ | with_reducible refine WithinR.ite ?_ ?_ | with_reducible assumption
    | with_reducible refine Within.wrB (i := 46) (by simp [Blk_ite]) (by decide) ?_ ?_ ?_
    | with_reducible refine Within.wr (i := 46) (by simp [Blk_ite]) (by decide) ?_ ?_ ?_ | exact mask_sub hk rfl
    | with_reducible refine Within.ite ?_ ?_ | exact Nat.le_add_right _ _ | split | dsimp -proj only
    | with_reducible refine Within.u_free_til ?_ ?_ ?_)

theorem execBankPublish_within {K : Nat} {b s : State} {a1 a2 a3} (hk : K &&& 21941642937933773314 = 21941642937933773314) (h : Within K b s) :
    WithinR K b (execBankPublish a1 a2 a3 s) := by
  unfold execBankPublish
  repeat' (first
    | with_reducible refine WithinR.next ?_ | with_reducible refine WithinR.ite ?_ ?_ | with_reducible assumption
    | with_reducible refine pubZ_within ?_ ?_ | with_reducible refine pubDiv_within ?_ ?_
    | with_reducible refine pubStat_within ?_ ?_ | with_reducible refine pubState_within ?_ ?_ | exact mask_sub hk rfl
    | with_reducible refine Within.ite ?_ ?_ | split | dsimp -proj only | with_reducible refine Within.u_til ?_ ?_)

theorem execCommit_within {K : Nat} {b s : State} {a1} (hk : K &&& 20757196240230292226 = 20757196240230292226) (h : Within K b s) :
    WithinR K b (execCommit a1 s) := by
  unfold execCommit
  repeat' (first
    | with_reducible refine WithinR.next ?_ | with_reducible refine WithinR.ite ?_ ?_ | with_reducible assumption
    | with_reducible refine tilCommit_within ?_ ?_ | with_reducible refine hostWrite_within ?_ ?_ ?_
    | exact mask_sub hk rfl | with_reducible refine Within.ite ?_ ?_ | split | dsimp -proj only)

theorem execTilCommitAbort_within {K : Nat} {b s : State} {a1} (hk : K &&& 20757196240230292226 = 20757196240230292226) (h : Within K b s) :
    WithinR K b (execTilCommitAbort a1 s) := by
  unfold execTilCommitAbort
  repeat' (first
    | with_reducible refine WithinR.next ?_ | with_reducible refine WithinR.ite ?_ ?_ | with_reducible assumption
    | with_reducible refine tilWithdraw_within ?_ ?_ | with_reducible refine State_status_within ?_ ?_
    | with_reducible refine hostWrite_within ?_ ?_ ?_ | exact mask_sub hk rfl | with_reducible refine Within.ite ?_ ?_
    | split | dsimp -proj only)

theorem execTilCommitApply_within {K : Nat} {b s : State} (hk : K &&& 2305913378226307072 = 2305913378226307072) (h : Within K b s) :
    WithinR K b (execTilCommitApply s) := by
  unfold execTilCommitApply
  repeat' (first
    | with_reducible refine WithinR.next ?_ | with_reducible refine WithinR.ite ?_ ?_ | with_reducible assumption
    | with_reducible refine Within.incWrap (i := 46) (by simp [Blk_ite]) (by decide) ?_ ?_ ?_
    | with_reducible refine Within.wr (i := 46) (by simp [Blk_ite]) (by decide) ?_ ?_ ?_
    | with_reducible refine tilWithdraw_within ?_ ?_ | exact mask_sub hk rfl | with_reducible refine Within.ite ?_ ?_
    | split | dsimp -proj only | with_reducible refine Within.u_til ?_ ?_)

theorem execTilEnable_within {K : Nat} {b s : State} {a1} (hk : K &&& 23058428172555008770 = 23058428172555008770) (h : Within K b s) :
    WithinR K b (execTilEnable a1 s) := by
  unfold execTilEnable
  repeat' (first
    | with_reducible refine WithinR.next ?_ | with_reducible refine WithinR.ite ?_ ?_ | with_reducible assumption
    | with_reducible refine tilCtlWrite_within ?_ ?_ | with_reducible refine hostWrite_within ?_ ?_ ?_
    | exact mask_sub hk rfl | with_reducible refine Within.ite ?_ ?_ | split | dsimp -proj only)

theorem execTilUcAddrWrite_within {K : Nat} {b s : State} {a1 a2} (hk : K &&& 20757196240230292226 = 20757196240230292226) (h : Within K b s) :
    WithinR K b (execTilUcAddrWrite a1 a2 s) := by
  unfold execTilUcAddrWrite
  repeat' (first
    | with_reducible refine WithinR.next ?_ | with_reducible refine WithinR.ite ?_ ?_ | with_reducible assumption
    | with_reducible refine ucAddr_within ?_ ?_ | with_reducible refine hostWrite_within ?_ ?_ ?_
    | exact mask_sub hk rfl | with_reducible refine Within.ite ?_ ?_ | split | dsimp -proj only)

theorem execTilUcDataWrite_within {K : Nat} {b s : State} {a1 a2} (hk : K &&& 20757196240230292226 = 20757196240230292226) (h : Within K b s) :
    WithinR K b (execTilUcDataWrite a1 a2 s) := by
  unfold execTilUcDataWrite
  repeat' (first
    | with_reducible refine WithinR.next ?_ | with_reducible refine WithinR.ite ?_ ?_ | with_reducible assumption
    | with_reducible refine ucData_within ?_ ?_ | with_reducible refine hostWrite_within ?_ ?_ ?_
    | exact mask_sub hk rfl | with_reducible refine Within.ite ?_ ?_ | split | dsimp -proj only)

theorem execTilUcLock_within {K : Nat} {b s : State} {a1} (hk : K &&& 20757196239961856770 = 20757196239961856770) (h : Within K b s) :
    WithinR K b (execTilUcLock a1 s) := by
  unfold execTilUcLock
  repeat' (first
    | with_reducible refine WithinR.next ?_ | with_reducible refine WithinR.ite ?_ ?_ | with_reducible assumption
    | with_reducible refine ucLock_within ?_ ?_ | with_reducible refine hostWrite_within ?_ ?_ ?_
    | exact mask_sub hk rfl | with_reducible refine Within.ite ?_ ?_ | split | dsimp -proj only)

theorem execSweepWindowClose_within {K : Nat} {b s : State} {a1 a2} (hk : K &&& 21941643212811680258 = 21941643212811680258) (h : Within K b s) :
    WithinR K b (execSweepWindowClose a1 a2 s) := by
  unfold execSweepWindowClose
  repeat' (first
    | with_reducible refine WithinR.next ?_ | with_reducible refine WithinR.ite ?_ ?_ | with_reducible assumption
    | with_reducible refine Within.wr (i := 46) (by simp [Blk_ite]) (by decide) ?_ ?_ ?_
    | with_reducible refine sweepDrop_within ?_ ?_ | with_reducible refine jobTo_within ?_ ?_
    | with_reducible refine tilPost_within ?_ ?_ | with_reducible refine tilList_within ?_ ?_
    | with_reducible refine tilCount_within ?_ ?_ | with_reducible refine tilReport_within ?_ ?_
    | with_reducible refine State_setJob_within ?_ ?_ | with_reducible refine sweepHeader_within ?_ ?_
    | with_reducible refine State_putBytes_within ?_ ?_ | exact mask_sub hk rfl
    | with_reducible refine Within.ite ?_ ?_ | split | dsimp -proj only | with_reducible refine Within.u_til ?_ ?_)

theorem execPommelEvaluate_within {K : Nat} {b s : State} {a1 a2} (hk : K &&& 21945372481646672386 = 21945372481646672386) (h : Within K b s) :
    WithinR K b (execPommelEvaluate a1 a2 s) := by
  unfold execPommelEvaluate
  repeat' (first
    | with_reducible refine WithinR.next ?_ | with_reducible refine WithinR.ite ?_ ?_ | with_reducible assumption
    | with_reducible refine pomTemp_within ?_ ?_ | with_reducible refine pomConv_within ?_ ?_
    | with_reducible refine pomCell_within ?_ ?_ | exact mask_sub hk rfl | with_reducible refine Within.ite ?_ ?_
    | split | dsimp -proj only)

theorem execTempDueCheck_within {K : Nat} {b s : State} {a1 a2 a3} (hk : K &&& 21945372481646672386 = 21945372481646672386) (h : Within K b s) :
    WithinR K b (execTempDueCheck a1 a2 a3 s) := by
  unfold execTempDueCheck
  repeat' (first
    | with_reducible refine WithinR.next ?_ | with_reducible refine WithinR.ite ?_ ?_ | with_reducible assumption
    | with_reducible refine pomStep_within ?_ ?_ | exact mask_sub hk rfl | with_reducible refine Within.ite ?_ ?_
    | split | dsimp -proj only | with_reducible refine Within.u_pom ?_ ?_)

theorem execSetstale_within {K : Nat} {b s : State} {a1} (hk : K &&& 21945372481646672386 = 21945372481646672386) (h : Within K b s) :
    WithinR K b (execSetstale a1 s) := by
  unfold execSetstale
  repeat' (first
    | with_reducible refine WithinR.next ?_ | with_reducible refine WithinR.ite ?_ ?_ | with_reducible assumption
    | with_reducible refine pomStep_within ?_ ?_ | exact mask_sub hk rfl | with_reducible refine Within.ite ?_ ?_
    | split | dsimp -proj only)

theorem execLockstepMismatch_within {K : Nat} {b s : State} {a1} (hk : K &&& 3494934048329958400 = 3494934048329958400) (h : Within K b s) :
    WithinR K b (execLockstepMismatch a1 s) := by
  unfold execLockstepMismatch
  repeat' (first
    | with_reducible refine WithinR.next ?_ | with_reducible refine WithinR.ite ?_ ?_ | with_reducible assumption
    | with_reducible refine coreFault_within ?_ ?_ | exact mask_sub hk rfl | with_reducible refine Within.ite ?_ ?_
    | split | dsimp -proj only | with_reducible refine Within.u_pom ?_ ?_)

theorem execDelayRegParity_within {K : Nat} {b s : State} (hk : K &&& 3494934048329966592 = 3494934048329966592) (h : Within K b s) :
    WithinR K b (execDelayRegParity s) := by
  unfold execDelayRegParity
  repeat' (first
    | with_reducible refine WithinR.next ?_ | with_reducible refine WithinR.ite ?_ ?_ | with_reducible assumption
    | with_reducible refine coreFault_within ?_ ?_ | exact mask_sub hk rfl | with_reducible refine Within.ite ?_ ?_
    | split | dsimp -proj only | with_reducible refine Within.u_girth_pom ?_ ?_)

theorem execInjectionPass_within {K : Nat} {b s : State} {a1 a2 a3} (hk : K &&& 21945372481646673410 = 21945372481646673410) (h : Within K b s) :
    WithinR K b (execInjectionPass a1 a2 a3 s) := by
  unfold execInjectionPass
  repeat' (first
    | with_reducible refine WithinR.next ?_ | with_reducible refine WithinR.ite ?_ ?_ | with_reducible assumption
    | with_reducible refine injection_within ?_ ?_ | exact mask_sub hk rfl | with_reducible refine Within.ite ?_ ?_
    | split | dsimp -proj only)

theorem execPeerCheck_within {K : Nat} {b s : State} {a1} (hk : K &&& 21945372481646672386 = 21945372481646672386) (h : Within K b s) :
    WithinR K b (execPeerCheck a1 s) := by
  unfold execPeerCheck
  repeat' (first
    | with_reducible refine WithinR.next ?_ | with_reducible refine WithinR.ite ?_ ?_ | with_reducible assumption
    | with_reducible refine tripLatch_within ?_ ?_ | exact mask_sub hk rfl | with_reducible refine Within.ite ?_ ?_
    | split | dsimp -proj only)

theorem execSramEccError_within {K : Nat} {b s : State} {a1} (hk : K &&& 3494934048329958402 = 3494934048329958402) (h : Within K b s) :
    WithinR K b (execSramEccError a1 s) := by
  unfold execSramEccError
  repeat' (first
    | with_reducible refine WithinR.next ?_ | with_reducible refine WithinR.ite ?_ ?_ | with_reducible assumption
    | with_reducible refine Within.wr (i := 47) (by simp [Blk_ite]) (by decide) ?_ ?_ ?_
    | with_reducible refine State_putByte_within ?_ ?_ | with_reducible refine putMark_within ?_ ?_
    | with_reducible refine coreFault_within ?_ ?_ | exact mask_sub hk rfl | with_reducible refine Within.ite ?_ ?_
    | split | dsimp -proj only)

theorem execTripReset_within {K : Nat} {b s : State} {a1 a2} (hk : K &&& 21949876085569010434 = 21949876085569010434) (h : Within K b s) :
    WithinR K b (execTripReset a1 a2 s) := by
  unfold execTripReset
  repeat' (first
    | with_reducible refine WithinR.next ?_ | with_reducible refine WithinR.ite ?_ ?_ | with_reducible assumption
    | with_reducible refine pomTripReset_within ?_ ?_ | with_reducible refine hostWrite_within ?_ ?_ ?_
    | exact mask_sub hk rfl | with_reducible refine Within.ite ?_ ?_ | split | dsimp -proj only)

theorem execManualTrip_within {K : Nat} {b s : State} {a1 a2 a3 a4} (hk : K &&& 21949876085569010434 = 21949876085569010434) (h : Within K b s) :
    WithinR K b (execManualTrip a1 a2 a3 a4 s) := by
  unfold execManualTrip
  repeat' (first
    | with_reducible refine WithinR.next ?_ | with_reducible refine WithinR.ite ?_ ?_ | with_reducible assumption
    | with_reducible refine pomManual_within ?_ ?_ | with_reducible refine hostWrite_within ?_ ?_ ?_
    | exact mask_sub hk rfl | with_reducible refine Within.ite ?_ ?_ | split | dsimp -proj only)

theorem execParamWrite_within {K : Nat} {b s : State} {a1 a2 a3 a4} (hk : K &&& 20757266608708131586 = 20757266608708131586) (h : Within K b s) :
    WithinR K b (execParamWrite a1 a2 a3 a4 s) := by
  unfold execParamWrite
  repeat' (first
    | with_reducible refine WithinR.next ?_ | with_reducible refine WithinR.ite ?_ ?_ | with_reducible assumption
    | with_reducible refine pomParamWrite_within ?_ ?_ | with_reducible refine hostWrite_within ?_ ?_ ?_
    | exact mask_sub hk rfl | with_reducible refine Within.ite ?_ ?_ | split | dsimp -proj only)

theorem execParamRead_within {K : Nat} {b s : State} {a1 a2 a3} (hk : K &&& 20757266608706034434 = 20757266608706034434) (h : Within K b s) :
    WithinR K b (execParamRead a1 a2 a3 s) := by
  unfold execParamRead
  repeat' (first
    | with_reducible refine WithinR.next ?_ | with_reducible refine WithinR.ite ?_ ?_ | with_reducible assumption
    | with_reducible refine pomParamRead_within ?_ ?_ | with_reducible refine hostWrite_within ?_ ?_ ?_
    | exact mask_sub hk rfl | with_reducible refine Within.ite ?_ ?_ | split | dsimp -proj only)

theorem execInjectNow_within {K : Nat} {b s : State} {a1 a2 a3} (hk : K &&& 21949876085569011458 = 21949876085569011458) (h : Within K b s) :
    WithinR K b (execInjectNow a1 a2 a3 s) := by
  unfold execInjectNow
  repeat' (first
    | with_reducible refine WithinR.next ?_ | with_reducible refine WithinR.ite ?_ ?_ | with_reducible assumption
    | with_reducible refine pomInject_within ?_ ?_ | with_reducible refine hostWrite_within ?_ ?_ ?_
    | exact mask_sub hk rfl | with_reducible refine Within.ite ?_ ?_ | split | dsimp -proj only)

theorem execMirrorTripRx_within {K : Nat} {b s : State} {a1 a2} (hk : K &&& 21945372481646672386 = 21945372481646672386) (h : Within K b s) :
    WithinR K b (execMirrorTripRx a1 a2 s) := by
  unfold execMirrorTripRx
  repeat' (first
    | with_reducible refine WithinR.next ?_ | with_reducible refine WithinR.ite ?_ ?_ | with_reducible assumption
    | with_reducible refine mirrorTrip_within ?_ ?_ | exact mask_sub hk rfl | with_reducible refine Within.ite ?_ ?_
    | split | dsimp -proj only)

theorem execSuspectReportRx_within {K : Nat} {b s : State} (hk : K &&& 20752763005052131842 = 20752763005052131842) (h : Within K b s) :
    WithinR K b (execSuspectReportRx s) := by
  unfold execSuspectReportRx
  repeat' (first
    | with_reducible refine WithinR.next ?_ | with_reducible refine WithinR.ite ?_ ?_ | with_reducible assumption
    | with_reducible refine suspectTake_within ?_ ?_ | exact mask_sub hk rfl | with_reducible refine Within.ite ?_ ?_
    | split | dsimp -proj only | with_reducible refine Within.u_til ?_ ?_)

theorem execSlsOvercurrent_within {K : Nat} {b s : State} {a1 a2} (hk : K &&& 21945372481646672386 = 21945372481646672386) (h : Within K b s) :
    WithinR K b (execSlsOvercurrent a1 a2 s) := by
  unfold execSlsOvercurrent
  repeat' (first
    | with_reducible refine WithinR.next ?_ | with_reducible refine WithinR.ite ?_ ?_ | with_reducible assumption
    | with_reducible refine Within.setBit (i := 47) (by simp [Blk_ite]) (by decide) ?_ ?_ ?_
    | with_reducible refine tripLatch_within ?_ ?_ | with_reducible refine pomRecord_within ?_ ?_
    | exact mask_sub hk rfl | with_reducible refine Within.ite ?_ ?_ | split | dsimp -proj only)

theorem execSlsClose_within {K : Nat} {b s : State} (hk : K &&& 3494934048327860224 = 3494934048327860224) (h : Within K b s) :
    WithinR K b (execSlsClose s) := by
  unfold execSlsClose
  repeat' (first
    | with_reducible refine WithinR.next ?_ | with_reducible refine WithinR.ite ?_ ?_ | with_reducible assumption
    | with_reducible refine slsClose_within ?_ ?_ | exact mask_sub hk rfl | with_reducible refine Within.ite ?_ ?_
    | split | dsimp -proj only)

theorem execLsReqOn_within {K : Nat} {b s : State} {a1 a2 a3} (hk : K &&& 20757407346199010050 = 20757407346199010050) (h : Within K b s) :
    WithinR K b (execLsReqOn a1 a2 a3 s) := by
  unfold execLsReqOn
  repeat' (first
    | with_reducible refine WithinR.next ?_ | with_reducible refine WithinR.ite ?_ ?_ | with_reducible assumption
    | with_reducible refine lsWriteOn_within ?_ ?_ | with_reducible refine hostWrite_within ?_ ?_ ?_
    | exact mask_sub hk rfl | with_reducible refine Within.ite ?_ ?_ | split | dsimp -proj only)

theorem execLsClear_within {K : Nat} {b s : State} {a1 a2} (hk : K &&& 20757407346194881282 = 20757407346194881282) (h : Within K b s) :
    WithinR K b (execLsClear a1 a2 s) := by
  unfold execLsClear
  repeat' (first
    | with_reducible refine WithinR.next ?_ | with_reducible refine WithinR.ite ?_ ?_ | with_reducible assumption
    | with_reducible refine lsWriteClear_within ?_ ?_ | with_reducible refine hostWrite_within ?_ ?_ ?_
    | exact mask_sub hk rfl | with_reducible refine Within.ite ?_ ?_ | split | dsimp -proj only)

theorem execSegmentEnd_within {K : Nat} {b s : State} {a1} (hk : K &&& 2306124484190437376 = 2306124484190437376) (h : Within K b s) :
    WithinR K b (execSegmentEnd a1 s) := by
  unfold execSegmentEnd
  repeat' (first
    | with_reducible refine WithinR.next ?_ | with_reducible refine WithinR.ite ?_ ?_ | with_reducible assumption
    | with_reducible refine Within.wr (i := 48) (by simp [Blk_ite]) (by decide) ?_ ?_ ?_
    | with_reducible refine State_setLs_within ?_ ?_ | exact mask_sub hk rfl | with_reducible refine Within.ite ?_ ?_
    | split | dsimp -proj only)

theorem execSc_within {K : Nat} {b s : State} {a1} (hk : K &&& 20752903742272477698 = 20752903742272477698) (h : Within K b s) :
    WithinR K b (execSc a1 s) := by
  unfold execSc
  repeat' (first
    | with_reducible refine WithinR.next ?_ | with_reducible refine WithinR.ite ?_ ?_ | with_reducible assumption
    | with_reducible refine lsCut_within ?_ ?_ | exact mask_sub hk rfl | with_reducible refine Within.ite ?_ ?_ | split
    | dsimp -proj only)

theorem execLimTrip_within {K : Nat} {b s : State} {a1} (hk : K &&& 20752903742272477698 = 20752903742272477698) (h : Within K b s) :
    WithinR K b (execLimTrip a1 s) := by
  unfold execLimTrip
  repeat' (first
    | with_reducible refine WithinR.next ?_ | with_reducible refine WithinR.ite ?_ ?_ | with_reducible assumption
    | with_reducible refine lsCut_within ?_ ?_ | exact mask_sub hk rfl | with_reducible refine Within.ite ?_ ?_ | split
    | dsimp -proj only)

theorem execLsSample_within {K : Nat} {b s : State} {a1 a2 a3 a4 a5 a6 a7 a8} (hk : K &&& 31165226080753072642 = 31165226080753072642) (h : Within K b s) :
    WithinR K b (execLsSample a1 a2 a3 a4 a5 a6 a7 a8 s) := by
  unfold execLsSample
  repeat' (first
    | with_reducible refine WithinR.next ?_ | with_reducible refine WithinR.ite ?_ ?_ | with_reducible assumption
    | with_reducible refine Within.wrB (i := 48) (by simp [Blk_ite]) (by decide) ?_ ?_ ?_
    | with_reducible refine Within.wr (i := 48) (by simp [Blk_ite]) (by decide) ?_ ?_ ?_
    | with_reducible refine Within.wrI (i := 48) (by simp [Blk_ite]) (by decide) ?_ ?_ ?_
    | with_reducible refine lsFollow_within ?_ ?_ | with_reducible refine lsCut_within ?_ ?_
    | with_reducible refine State_degrade_within ?_ ?_ | with_reducible refine feedOverNext_within ?_ ?_
    | with_reducible refine State_setLs_within ?_ ?_ | exact mask_sub hk rfl | with_reducible refine Within.ite ?_ ?_
    | split | dsimp -proj only)

theorem execLsRetry_within {K : Nat} {b s : State} {a1} (hk : K &&& 20752903742272543234 = 20752903742272543234) (h : Within K b s) :
    WithinR K b (execLsRetry a1 s) := by
  unfold execLsRetry
  repeat' (first
    | with_reducible refine WithinR.next ?_ | with_reducible refine WithinR.ite ?_ ?_ | with_reducible assumption
    | with_reducible refine lsStaggered_within ?_ ?_ | with_reducible refine lsRetryHot_within ?_ ?_
    | exact mask_sub hk rfl | with_reducible refine Within.ite ?_ ?_ | split | dsimp -proj only)

theorem execRetryCountReset_within {K : Nat} {b s : State} {a1 a2} (hk : K &&& 2307250384097247232 = 2307250384097247232) (h : Within K b s) :
    WithinR K b (execRetryCountReset a1 a2 s) := by
  unfold execRetryCountReset
  repeat' (first
    | with_reducible refine WithinR.next ?_ | with_reducible refine WithinR.ite ?_ ?_ | with_reducible assumption
    | with_reducible refine Within.wr (i := 48) (by simp [Blk_ite]) (by decide) ?_ ?_ ?_
    | with_reducible refine Within.wr (i := 50) (by simp [Blk_ite]) (by decide) ?_ ?_ ?_ | exact mask_sub hk rfl
    | with_reducible refine Within.ite ?_ ?_ | split | dsimp -proj only)

theorem execStaggerSwitchOn_within {K : Nat} {b s : State} {a1} (hk : K &&& 20752903742272543234 = 20752903742272543234) (h : Within K b s) :
    WithinR K b (execStaggerSwitchOn a1 s) := by
  unfold execStaggerSwitchOn
  repeat' (first
    | with_reducible refine WithinR.next ?_ | with_reducible refine WithinR.ite ?_ ?_ | with_reducible assumption
    | with_reducible refine lsGo_within ?_ ?_ | exact mask_sub hk rfl | with_reducible refine Within.ite ?_ ?_ | split
    | dsimp -proj only)

theorem execShed_within {K : Nat} {b s : State} {a1} (hk : K &&& 29976275779127253506 = 29976275779127253506) (h : Within K b s) :
    WithinR K b (execShed a1 s) := by
  unfold execShed
  repeat' (first
    | with_reducible refine WithinR.next ?_ | with_reducible refine WithinR.ite ?_ ?_ | with_reducible assumption
    | with_reducible refine Within.incSat (i := 48) (by simp [Blk_ite]) (by decide) ?_ ?_ ?_
    | with_reducible refine lsRecord_within ?_ ?_ | with_reducible refine lsCut_within ?_ ?_ | exact mask_sub hk rfl
    | with_reducible refine Within.ite ?_ ?_ | split | dsimp -proj only | with_reducible refine Within.u_lsOver ?_ ?_)

theorem execOpenOn_within {K : Nat} {b s : State} {a1} (hk : K &&& 20752903742272477698 = 20752903742272477698) (h : Within K b s) :
    WithinR K b (execOpenOn a1 s) := by
  unfold execOpenOn
  repeat' (first
    | with_reducible refine WithinR.next ?_ | with_reducible refine WithinR.ite ?_ ?_ | with_reducible assumption
    | with_reducible refine Within.incSat (i := 48) (by simp [Blk_ite]) (by decide) ?_ ?_ ?_
    | with_reducible refine lsFault_within ?_ ?_ | with_reducible refine lsRecord_within ?_ ?_
    | with_reducible refine State_setLs_within ?_ ?_ | exact mask_sub hk rfl | with_reducible refine Within.ite ?_ ?_
    | split | dsimp -proj only)

theorem execOpenOff_within {K : Nat} {b s : State} {a1} (hk : K &&& 20752903742272444930 = 20752903742272444930) (h : Within K b s) :
    WithinR K b (execOpenOff a1 s) := by
  unfold execOpenOff
  repeat' (first
    | with_reducible refine WithinR.next ?_ | with_reducible refine WithinR.ite ?_ ?_ | with_reducible assumption
    | with_reducible refine Within.incSat (i := 48) (by simp [Blk_ite]) (by decide) ?_ ?_ ?_
    | with_reducible refine lsFault_within ?_ ?_ | with_reducible refine lsRecord_within ?_ ?_ | exact mask_sub hk rfl
    | with_reducible refine Within.ite ?_ ?_ | split | dsimp -proj only)

theorem execOutHigh_within {K : Nat} {b s : State} {a1 a2} (hk : K &&& 21941854043898265090 = 21941854043898265090) (h : Within K b s) :
    WithinR K b (execOutHigh a1 a2 s) := by
  unfold execOutHigh
  repeat' (first
    | with_reducible refine WithinR.next ?_ | with_reducible refine WithinR.ite ?_ ?_ | with_reducible assumption
    | with_reducible refine Within.wr (i := 48) (by simp [Blk_ite]) (by decide) ?_ ?_ ?_
    | with_reducible refine lsRecord_within ?_ ?_ | with_reducible refine State_hwFault_within ?_ ?_
    | with_reducible refine lsFault_within ?_ ?_ | with_reducible refine State_degrade_within ?_ ?_
    | exact mask_sub hk rfl | with_reducible refine Within.ite ?_ ?_ | split | dsimp -proj only)

theorem execBankWarn_within {K : Nat} {b s : State} {a1} (hk : K &&& 3495074785816223744 = 3495074785816223744) (h : Within K b s) :
    WithinR K b (execBankWarn a1 s) := by
  unfold execBankWarn
  repeat' (first
    | with_reducible refine WithinR.next ?_ | with_reducible refine WithinR.ite ?_ ?_ | with_reducible assumption
    | with_reducible refine Within.setBit (i := 48) (by simp [Blk_ite]) (by decide) ?_ ?_ ?_
    | with_reducible refine Within.wr (i := 48) (by simp [Blk_ite]) (by decide) ?_ ?_ ?_
    | with_reducible refine State_degrade_within ?_ ?_ | exact mask_sub hk rfl | with_reducible refine Within.ite ?_ ?_
    | split | dsimp -proj only)

theorem execBankHot_within {K : Nat} {b s : State} {a1} (hk : K &&& 20752903742272477826 = 20752903742272477826) (h : Within K b s) :
    WithinR K b (execBankHot a1 s) := by
  unfold execBankHot
  repeat' (first
    | with_reducible refine WithinR.next ?_ | with_reducible refine WithinR.ite ?_ ?_ | with_reducible assumption
    | with_reducible refine Within.setBit (i := 48) (by simp [Blk_ite]) (by decide) ?_ ?_ ?_
    | with_reducible refine Within.wr (i := 48) (by simp [Blk_ite]) (by decide) ?_ ?_ ?_
    | with_reducible refine lsCutOne_within ?_ ?_ | with_reducible refine lsUnitRecord_within ?_ ?_
    | exact mask_sub hk rfl | with_reducible refine Within.ite ?_ ?_
    | with_reducible refine Within.foldl (fun _ _ _ => ?_) ?_ | split | dsimp -proj only)

theorem execBankNormal_within {K : Nat} {b s : State} {a1} (hk : K &&& 20752903742272543362 = 20752903742272543362) (h : Within K b s) :
    WithinR K b (execBankNormal a1 s) := by
  unfold execBankNormal
  repeat' (first
    | with_reducible refine WithinR.next ?_ | with_reducible refine WithinR.ite ?_ ?_ | with_reducible assumption
    | with_reducible refine Within.wr (i := 48) (by simp [Blk_ite]) (by decide) ?_ ?_ ?_
    | with_reducible refine State_setLs_within ?_ ?_ | with_reducible refine lsStaggered_within ?_ ?_
    | with_reducible refine lsUnitRecord_within ?_ ?_ | exact mask_sub hk rfl | with_reducible refine Within.ite ?_ ?_
    | with_reducible refine Within.foldl (fun _ _ _ => ?_) ?_ | split | dsimp -proj only)

theorem execLsServiceOn_within {K : Nat} {b s : State} {a1 a2 a3} (hk : K &&& 20757407346194815746 = 20757407346194815746) (h : Within K b s) :
    WithinR K b (execLsServiceOn a1 a2 a3 s) := by
  unfold execLsServiceOn
  repeat' (first
    | with_reducible refine WithinR.next ?_ | with_reducible refine WithinR.ite ?_ ?_ | with_reducible assumption
    | with_reducible refine lsWriteSvc_within ?_ ?_ | with_reducible refine hostWrite_within ?_ ?_ ?_
    | exact mask_sub hk rfl | with_reducible refine Within.ite ?_ ?_ | split | dsimp -proj only)

theorem execLsServiceOff_within {K : Nat} {b s : State} {a1 a2} (hk : K &&& 20757407346194815746 = 20757407346194815746) (h : Within K b s) :
    WithinR K b (execLsServiceOff a1 a2 s) := by
  unfold execLsServiceOff
  repeat' (first
    | with_reducible refine WithinR.next ?_ | with_reducible refine WithinR.ite ?_ ?_ | with_reducible assumption
    | with_reducible refine lsWriteSvc_within ?_ ?_ | with_reducible refine hostWrite_within ?_ ?_ ?_
    | exact mask_sub hk rfl | with_reducible refine Within.ite ?_ ?_ | split | dsimp -proj only)

theorem execLsServiceExpiry_within {K : Nat} {b s : State} {a1} (hk : K &&& 20752903742272477698 = 20752903742272477698) (h : Within K b s) :
    WithinR K b (execLsServiceExpiry a1 s) := by
  unfold execLsServiceExpiry
  repeat' (first
    | with_reducible refine WithinR.next ?_ | with_reducible refine WithinR.ite ?_ ?_ | with_reducible assumption
    | with_reducible refine lsServiceEnd_within ?_ ?_ | exact mask_sub hk rfl | with_reducible refine Within.ite ?_ ?_
    | split | dsimp -proj only)

theorem execLsPchk_within {K : Nat} {b s : State} {a1 a2} (hk : K &&& 20757407346194389762 = 20757407346194389762) (h : Within K b s) :
    WithinR K b (execLsPchk a1 a2 s) := by
  unfold execLsPchk
  repeat' (first
    | with_reducible refine WithinR.next ?_ | with_reducible refine WithinR.ite ?_ ?_ | with_reducible assumption
    | with_reducible refine lsWritePchk_within ?_ ?_ | with_reducible refine hostWrite_within ?_ ?_ ?_
    | exact mask_sub hk rfl | with_reducible refine Within.ite ?_ ?_ | split | dsimp -proj only)

theorem execLsProfWrite_within {K : Nat} {b s : State} {a1 a2 a3 a4} (hk : K &&& 20757407346194389762 = 20757407346194389762) (h : Within K b s) :
    WithinR K b (execLsProfWrite a1 a2 a3 a4 s) := by
  unfold execLsProfWrite
  repeat' (first
    | with_reducible refine WithinR.next ?_ | with_reducible refine WithinR.ite ?_ ?_ | with_reducible assumption
    | with_reducible refine lsWriteProf_within ?_ ?_ | with_reducible refine hostWrite_within ?_ ?_ ?_
    | exact mask_sub hk rfl | with_reducible refine Within.ite ?_ ?_ | split | dsimp -proj only)

theorem execLsParallelSet_within {K : Nat} {b s : State} {a1 a2 a3} (hk : K &&& 20757407346194389762 = 20757407346194389762) (h : Within K b s) :
    WithinR K b (execLsParallelSet a1 a2 a3 s) := by
  unfold execLsParallelSet
  repeat' (first
    | with_reducible refine WithinR.next ?_ | with_reducible refine WithinR.ite ?_ ?_ | with_reducible assumption
    | with_reducible refine lsWriteCfg_within ?_ ?_ | with_reducible refine hostWrite_within ?_ ?_ ?_
    | exact mask_sub hk rfl | with_reducible refine Within.ite ?_ ?_ | split | dsimp -proj only)

theorem execLsReleaseRequest_within {K : Nat} {b s : State} {a1} (hk : K &&& 21942416993851718146 = 21942416993851718146) (h : Within K b s) :
    WithinR K b (execLsReleaseRequest a1 s) := by
  unfold execLsReleaseRequest
  repeat' (first
    | with_reducible refine WithinR.next ?_ | with_reducible refine WithinR.ite ?_ ?_ | with_reducible assumption
    | with_reducible refine Within.clrBit (i := 49) (by simp [Blk_ite]) (by decide) ?_ ?_ ?_
    | with_reducible refine Within.hwWr (i := 48) (by simp [Blk_ite]) (by decide) ?_ ?_ ?_
    | with_reducible refine Within.wr (i := 48) (by simp [Blk_ite]) (by decide) ?_ ?_ ?_
    | with_reducible refine State_setLs_within ?_ ?_ | with_reducible refine State_emit_within ?_ ?_
    | with_reducible refine lsFollow_within ?_ ?_ | with_reducible refine subSync_within ?_ ?_ | exact mask_sub hk rfl
    | with_reducible refine Within.ite ?_ ?_ | split | dsimp -proj only | with_reducible refine Within.u_girth ?_ ?_)

theorem execLsReleaseConfirm_within {K : Nat} {b s : State} {a1} (hk : K &&& 2306124484190437376 = 2306124484190437376) (h : Within K b s) :
    WithinR K b (execLsReleaseConfirm a1 s) := by
  unfold execLsReleaseConfirm
  repeat' (first
    | with_reducible refine WithinR.next ?_ | with_reducible refine WithinR.ite ?_ ?_ | with_reducible assumption
    | with_reducible refine Within.wr (i := 48) (by simp [Blk_ite]) (by decide) ?_ ?_ ?_
    | with_reducible refine State_setLs_within ?_ ?_ | exact mask_sub hk rfl | with_reducible refine Within.ite ?_ ?_
    | split | dsimp -proj only)

theorem execLsOverlapEnd_within {K : Nat} {b s : State} {a1} (hk : K &&& 21942416993851718146 = 21942416993851718146) (h : Within K b s) :
    WithinR K b (execLsOverlapEnd a1 s) := by
  unfold execLsOverlapEnd
  repeat' (first
    | with_reducible refine WithinR.next ?_ | with_reducible refine WithinR.ite ?_ ?_ | with_reducible assumption
    | with_reducible refine Within.wr (i := 48) (by simp [Blk_ite]) (by decide) ?_ ?_ ?_
    | with_reducible refine Within.hwWr (i := 48) (by simp [Blk_ite]) (by decide) ?_ ?_ ?_
    | with_reducible refine Within.setBit (i := 49) (by simp [Blk_ite]) (by decide) ?_ ?_ ?_
    | with_reducible refine subSync_within ?_ ?_ | with_reducible refine lsClearOn_within ?_ ?_
    | with_reducible refine State_setLs_within ?_ ?_ | exact mask_sub hk rfl | with_reducible refine Within.ite ?_ ?_
    | split | dsimp -proj only | with_reducible refine Within.u_girth ?_ ?_)

theorem execRelFail_within {K : Nat} {b s : State} {a1} (hk : K &&& 21945231745229961731 = 21945231745229961731) (h : Within K b s) :
    WithinR K b (execRelFail a1 s) := by
  unfold execRelFail
  repeat' (first
    | with_reducible refine WithinR.next ?_ | with_reducible refine WithinR.ite ?_ ?_ | with_reducible assumption
    | with_reducible refine Within.wr (i := 48) (by simp [Blk_ite]) (by decide) ?_ ?_ ?_
    | with_reducible refine lsFault_within ?_ ?_ | with_reducible refine lsRecord_within ?_ ?_
    | with_reducible refine handoffRefuse_within ?_ ?_ | with_reducible refine State_setLs_within ?_ ?_
    | exact mask_sub hk rfl | with_reducible refine Within.ite ?_ ?_ | split | dsimp -proj only
    | with_reducible refine Within.u_girth ?_ ?_)

theorem execWdogFrameRx_within {K : Nat} {b s : State} {a1 a2 a3} (hk : K &&& 21945794695184431747 = 21945794695184431747) (h : Within K b s) :
    WithinR K b (execWdogFrameRx a1 a2 a3 s) := by
  unfold execWdogFrameRx
  repeat' (first
    | with_reducible refine WithinR.next ?_ | with_reducible refine WithinR.ite ?_ ?_ | with_reducible assumption
    | with_reducible refine frameGood_within ?_ ?_ | with_reducible refine frameBad_within ?_ ?_
    | with_reducible refine setLine_within ?_ ?_ | exact mask_sub hk rfl | with_reducible refine Within.ite ?_ ?_
    | split | dsimp -proj only)

theorem execStreamTimeout_within {K : Nat} {b s : State} {a1} (hk : K &&& 21945794695184431747 = 21945794695184431747) (h : Within K b s) :
    WithinR K b (execStreamTimeout a1 s) := by
  unfold execStreamTimeout
  repeat' (first
    | with_reducible refine WithinR.next ?_ | with_reducible refine WithinR.ite ?_ ?_ | with_reducible assumption
    | with_reducible refine setLine_within ?_ ?_ | with_reducible refine strLose_within ?_ ?_ | exact mask_sub hk rfl
    | with_reducible refine Within.ite ?_ ?_ | split | dsimp -proj only)

theorem execHoldExpiry_within {K : Nat} {b s : State} (hk : K &&& 20754592592134314626 = 20754592592134314626) (h : Within K b s) :
    WithinR K b (execHoldExpiry s) := by
  unfold execHoldExpiry
  repeat' (first
    | with_reducible refine WithinR.next ?_ | with_reducible refine WithinR.ite ?_ ?_ | with_reducible assumption
    | with_reducible refine Within.wr (i := 49) (by simp [Blk_ite]) (by decide) ?_ ?_ ?_
    | with_reducible refine strLineReset_within ?_ ?_ | with_reducible refine applyCodes_within ?_ ?_
    | exact mask_sub hk rfl | with_reducible refine Within.ite ?_ ?_ | split | dsimp -proj only)

theorem execPartnerTmoExpiry_within {K : Nat} {b s : State} (hk : K &&& 20754029642180893186 = 20754029642180893186) (h : Within K b s) :
    WithinR K b (execPartnerTmoExpiry s) := by
  unfold execPartnerTmoExpiry
  repeat' (first
    | with_reducible refine WithinR.next ?_ | with_reducible refine WithinR.ite ?_ ?_ | with_reducible assumption
    | with_reducible refine followAll_within ?_ ?_ | exact mask_sub hk rfl | with_reducible refine Within.ite ?_ ?_
    | split | dsimp -proj only | with_reducible refine Within.u_str ?_ ?_)

theorem execReclaimExpiry_within {K : Nat} {b s : State} (hk : K &&& 20754592592134314626 = 20754592592134314626) (h : Within K b s) :
    WithinR K b (execReclaimExpiry s) := by
  unfold execReclaimExpiry
  repeat' (first
    | with_reducible refine WithinR.next ?_ | with_reducible refine WithinR.ite ?_ ?_ | with_reducible assumption
    | with_reducible refine Within.wr (i := 49) (by simp [Blk_ite]) (by decide) ?_ ?_ ?_
    | with_reducible refine applyCodes_within ?_ ?_ | exact mask_sub hk rfl | with_reducible refine Within.ite ?_ ?_
    | split | dsimp -proj only | with_reducible refine Within.u_str ?_ ?_)

theorem execStrRelLs_within {K : Nat} {b s : State} {a1 a2} (hk : K &&& 20759096196056652546 = 20759096196056652546) (h : Within K b s) :
    WithinR K b (execStrRelLs a1 a2 s) := by
  unfold execStrRelLs
  repeat' (first
    | with_reducible refine WithinR.next ?_ | with_reducible refine WithinR.ite ?_ ?_ | with_reducible assumption
    | with_reducible refine strRelease_within ?_ ?_ | with_reducible refine hostWrite_within ?_ ?_ ?_
    | exact mask_sub hk rfl | with_reducible refine Within.ite ?_ ?_ | split | dsimp -proj only)

theorem execStrRelDio_within {K : Nat} {b s : State} {a1 a2} (hk : K &&& 20759096196056652546 = 20759096196056652546) (h : Within K b s) :
    WithinR K b (execStrRelDio a1 a2 s) := by
  unfold execStrRelDio
  repeat' (first
    | with_reducible refine WithinR.next ?_ | with_reducible refine WithinR.ite ?_ ?_ | with_reducible assumption
    | with_reducible refine strRelease_within ?_ ?_ | with_reducible refine hostWrite_within ?_ ?_ ?_
    | exact mask_sub hk rfl | with_reducible refine Within.ite ?_ ?_ | split | dsimp -proj only)

theorem execDioEdgeAccept_within {K : Nat} {b s : State} {a1} (hk : K &&& 20753750366230157954 = 20753750366230157954) (h : Within K b s) :
    WithinR K b (execDioEdgeAccept a1 s) := by
  unfold execDioEdgeAccept
  repeat' (first
    | with_reducible refine WithinR.next ?_ | with_reducible refine WithinR.ite ?_ ?_ | with_reducible assumption
    | with_reducible refine dioAccept_within ?_ ?_ | with_reducible refine State_setDio_within ?_ ?_
    | exact mask_sub hk rfl | with_reducible refine Within.ite ?_ ?_ | split | dsimp -proj only)

theorem execWireBreak_within {K : Nat} {b s : State} {a1} (hk : K &&& 21942698468828002818 = 21942698468828002818) (h : Within K b s) :
    WithinR K b (execWireBreak a1 s) := by
  unfold execWireBreak
  repeat' (first
    | with_reducible refine WithinR.next ?_ | with_reducible refine WithinR.ite ?_ ?_ | with_reducible assumption
    | with_reducible refine dioRaise_within ?_ ?_ | exact mask_sub hk rfl | with_reducible refine Within.ite ?_ ?_
    | split | dsimp -proj only)

theorem execWireRestored_within {K : Nat} {b s : State} {a1} (hk : K &&& 21942698468828002818 = 21942698468828002818) (h : Within K b s) :
    WithinR K b (execWireRestored a1 s) := by
  unfold execWireRestored
  repeat' (first
    | with_reducible refine WithinR.next ?_ | with_reducible refine WithinR.ite ?_ ?_ | with_reducible assumption
    | with_reducible refine dioFault_within ?_ ?_ | with_reducible refine dioDegrade_within ?_ ?_
    | with_reducible refine dioRecord_within ?_ ?_ | exact mask_sub hk rfl | with_reducible refine Within.ite ?_ ?_
    | split | dsimp -proj only)

theorem execDioReqOn_within {K : Nat} {b s : State} {a1 a2 a3} (hk : K &&& 20758251771129240322 = 20758251771129240322) (h : Within K b s) :
    WithinR K b (execDioReqOn a1 a2 a3 s) := by
  unfold execDioReqOn
  repeat' (first
    | with_reducible refine WithinR.next ?_ | with_reducible refine WithinR.ite ?_ ?_ | with_reducible assumption
    | with_reducible refine dioWriteOn_within ?_ ?_ | with_reducible refine hostWrite_within ?_ ?_ ?_
    | exact mask_sub hk rfl | with_reducible refine Within.ite ?_ ?_ | split | dsimp -proj only)

theorem execDioClear_within {K : Nat} {b s : State} {a1 a2} (hk : K &&& 20758251771125046018 = 20758251771125046018) (h : Within K b s) :
    WithinR K b (execDioClear a1 a2 s) := by
  unfold execDioClear
  repeat' (first
    | with_reducible refine WithinR.next ?_ | with_reducible refine WithinR.ite ?_ ?_ | with_reducible assumption
    | with_reducible refine dioWriteClear_within ?_ ?_ | with_reducible refine hostWrite_within ?_ ?_ ?_
    | exact mask_sub hk rfl | with_reducible refine Within.ite ?_ ?_ | split | dsimp -proj only)

theorem execDioLimit_within {K : Nat} {b s : State} {a1} (hk : K &&& 20753748167202707970 = 20753748167202707970) (h : Within K b s) :
    WithinR K b (execDioLimit a1 s) := by
  unfold execDioLimit
  repeat' (first
    | with_reducible refine WithinR.next ?_ | with_reducible refine WithinR.ite ?_ ?_ | with_reducible assumption
    | with_reducible refine dioCut_within ?_ ?_ | exact mask_sub hk rfl | with_reducible refine Within.ite ?_ ?_
    | split | dsimp -proj only)

theorem execDioTherm_within {K : Nat} {b s : State} {a1} (hk : K &&& 20753748167202707970 = 20753748167202707970) (h : Within K b s) :
    WithinR K b (execDioTherm a1 s) := by
  unfold execDioTherm
  repeat' (first
    | with_reducible refine WithinR.next ?_ | with_reducible refine WithinR.ite ?_ ?_ | with_reducible assumption
    | with_reducible refine dioCut_within ?_ ?_ | exact mask_sub hk rfl | with_reducible refine Within.ite ?_ ?_
    | split | dsimp -proj only)

theorem execDioRetry_within {K : Nat} {b s : State} {a1} (hk : K &&& 20753748167202707970 = 20753748167202707970) (h : Within K b s) :
    WithinR K b (execDioRetry a1 s) := by
  unfold execDioRetry
  repeat' (first
    | with_reducible refine WithinR.next ?_ | with_reducible refine WithinR.ite ?_ ?_ | with_reducible assumption
    | with_reducible refine dioPut_within ?_ ?_ | with_reducible refine dioRecord_within ?_ ?_
    | with_reducible refine dioRetryOne_within ?_ ?_ | exact mask_sub hk rfl | with_reducible refine Within.ite ?_ ?_
    | with_reducible refine Within.foldl (fun _ _ _ => ?_) ?_ | split | dsimp -proj only)

theorem execDioReadbackFault_within {K : Nat} {b s : State} {a1} (hk : K &&& 21942698468828002818 = 21942698468828002818) (h : Within K b s) :
    WithinR K b (execDioReadbackFault a1 s) := by
  unfold execDioReadbackFault
  repeat' (first
    | with_reducible refine WithinR.next ?_ | with_reducible refine WithinR.ite ?_ ?_ | with_reducible assumption
    | with_reducible refine dioRaise_within ?_ ?_ | exact mask_sub hk rfl | with_reducible refine Within.ite ?_ ?_
    | split | dsimp -proj only)

theorem execDioOpenOn_within {K : Nat} {b s : State} {a1} (hk : K &&& 21942698468828002818 = 21942698468828002818) (h : Within K b s) :
    WithinR K b (execDioOpenOn a1 s) := by
  unfold execDioOpenOn
  repeat' (first
    | with_reducible refine WithinR.next ?_ | with_reducible refine WithinR.ite ?_ ?_ | with_reducible assumption
    | with_reducible refine dioRaise_within ?_ ?_ | exact mask_sub hk rfl | with_reducible refine Within.ite ?_ ?_
    | split | dsimp -proj only)

theorem execDioServiceOn_within {K : Nat} {b s : State} {a1 a2 a3} (hk : K &&& 20758251771125046018 = 20758251771125046018) (h : Within K b s) :
    WithinR K b (execDioServiceOn a1 a2 a3 s) := by
  unfold execDioServiceOn
  repeat' (first
    | with_reducible refine WithinR.next ?_ | with_reducible refine WithinR.ite ?_ ?_ | with_reducible assumption
    | with_reducible refine dioWriteSvc_within ?_ ?_ | with_reducible refine hostWrite_within ?_ ?_ ?_
    | exact mask_sub hk rfl | with_reducible refine Within.ite ?_ ?_ | split | dsimp -proj only)

theorem execDioServiceExpiry_within {K : Nat} {b s : State} {a1} (hk : K &&& 2306968909121061376 = 2306968909121061376) (h : Within K b s) :
    WithinR K b (execDioServiceExpiry a1 s) := by
  unfold execDioServiceExpiry
  repeat' (first
    | with_reducible refine WithinR.next ?_ | with_reducible refine WithinR.ite ?_ ?_ | with_reducible assumption
    | with_reducible refine dioServiceEnd_within ?_ ?_ | exact mask_sub hk rfl | with_reducible refine Within.ite ?_ ?_
    | split | dsimp -proj only)

theorem execFclChange_within {K : Nat} {b s : State} {a1} (hk : K &&& 2306968909121061376 = 2306968909121061376) (h : Within K b s) :
    WithinR K b (execFclChange a1 s) := by
  unfold execFclChange
  repeat' (first
    | with_reducible refine WithinR.next ?_ | with_reducible refine WithinR.ite ?_ ?_ | with_reducible assumption
    | with_reducible refine State_setDio_within ?_ ?_ | with_reducible refine dioFollow_within ?_ ?_
    | with_reducible refine Within.forN (fun _ _ _ _ => ?_) ?_ | exact mask_sub hk rfl
    | with_reducible refine Within.ite ?_ ?_ | split | dsimp -proj only)

theorem execCanFrameRx_within {K : Nat} {b s : State} {a1 a2 a3 a4} (hk : K &&& 21945372483794156162 = 21945372483794156162) (h : Within K b s) :
    WithinR K b (execCanFrameRx a1 a2 a3 a4 s) := by
  unfold execCanFrameRx
  repeat' (first
    | with_reducible refine WithinR.next ?_ | with_reducible refine WithinR.ite ?_ ?_ | with_reducible assumption
    | with_reducible refine Within.incSat (i := 51) (by simp [Blk_ite]) (by decide) ?_ ?_ ?_
    | with_reducible refine rxPlot_within ?_ ?_ | with_reducible refine Within.forN (fun _ _ _ _ => ?_) ?_
    | with_reducible refine gwSource_within ?_ ?_ | with_reducible refine mirrorTrip_within ?_ ?_
    | with_reducible refine mirrorResetRx_within ?_ ?_ | with_reducible refine pairForward_within ?_ ?_
    | with_reducible refine rxCount_within ?_ ?_ | exact mask_sub hk rfl | with_reducible refine Within.ite ?_ ?_
    | split | dsimp -proj only)

theorem execCanTxbReq_within {K : Nat} {b s : State} {a1 a2 a3} (hk : K &&& 20759377671568235266 = 20759377671568235266) (h : Within K b s) :
    WithinR K b (execCanTxbReq a1 a2 a3 s) := by
  unfold execCanTxbReq
  repeat' (first
    | with_reducible refine WithinR.next ?_ | with_reducible refine WithinR.ite ?_ ?_ | with_reducible assumption
    | with_reducible refine State_status_within ?_ ?_ | with_reducible refine bufRequest_within ?_ ?_
    | with_reducible refine hostWrite_within ?_ ?_ ?_ | exact mask_sub hk rfl | with_reducible refine Within.ite ?_ ?_
    | split | dsimp -proj only)

theorem execCanTxbAbort_within {K : Nat} {b s : State} {a1 a2 a3} (hk : K &&& 20759377671568235266 = 20759377671568235266) (h : Within K b s) :
    WithinR K b (execCanTxbAbort a1 a2 a3 s) := by
  unfold execCanTxbAbort
  repeat' (first
    | with_reducible refine WithinR.next ?_ | with_reducible refine WithinR.ite ?_ ?_ | with_reducible assumption
    | with_reducible refine bufAbortReq_within ?_ ?_ | with_reducible refine State_status_within ?_ ?_
    | with_reducible refine hostWrite_within ?_ ?_ ?_ | exact mask_sub hk rfl | with_reducible refine Within.ite ?_ ?_
    | split | dsimp -proj only)

theorem execCanTxDone_within {K : Nat} {b s : State} {a1 a2 a3} (hk : K &&& 20754878468922022402 = 20754878468922022402) (h : Within K b s) :
    WithinR K b (execCanTxDone a1 a2 a3 s) := by
  unfold execCanTxDone
  repeat' (first
    | with_reducible refine WithinR.next ?_ | with_reducible refine WithinR.ite ?_ ?_ | with_reducible assumption
    | with_reducible refine Within.wr (i := 51) (by simp [Blk_ite]) (by decide) ?_ ?_ ?_
    | with_reducible refine bufSent_within ?_ ?_ | with_reducible refine bufFail_within ?_ ?_
    | with_reducible refine gwService_within ?_ ?_ | with_reducible refine bufStart_within ?_ ?_
    | exact mask_sub hk rfl | with_reducible refine Within.ite ?_ ?_ | split | dsimp -proj only)

theorem execCanError_within {K : Nat} {b s : State} {a1 a2 a3 a4} (hk : K &&& 20754874069793380866 = 20754874069793380866) (h : Within K b s) :
    WithinR K b (execCanError a1 a2 a3 a4 s) := by
  unfold execCanError
  repeat' (first
    | with_reducible refine WithinR.next ?_ | with_reducible refine WithinR.ite ?_ ?_ | with_reducible assumption
    | with_reducible refine Within.wr (i := 51) (by simp [Blk_ite]) (by decide) ?_ ?_ ?_
    | with_reducible refine Within.incSat (i := 51) (by simp [Blk_ite]) (by decide) ?_ ?_ ?_
    | with_reducible refine errCount_within ?_ ?_ | with_reducible refine gwService_within ?_ ?_
    | with_reducible refine canSysRecord_within ?_ ?_ | exact mask_sub hk rfl | with_reducible refine Within.ite ?_ ?_
    | split | dsimp -proj only)

theorem execRecover_within {K : Nat} {b s : State} {a1 a2} (hk : K &&& 20759377671568235266 = 20759377671568235266) (h : Within K b s) :
    WithinR K b (execRecover a1 a2 s) := by
  unfold execRecover
  repeat' (first
    | with_reducible refine WithinR.next ?_ | with_reducible refine WithinR.ite ?_ ?_ | with_reducible assumption
    | with_reducible refine State_status_within ?_ ?_ | with_reducible refine canRecover_within ?_ ?_
    | with_reducible refine hostWrite_within ?_ ?_ ?_ | exact mask_sub hk rfl | with_reducible refine Within.ite ?_ ?_
    | split | dsimp -proj only)

theorem execRecoveryComplete_within {K : Nat} {b s : State} {a1} (hk : K &&& 20754874069793380866 = 20754874069793380866) (h : Within K b s) :
    WithinR K b (execRecoveryComplete a1 s) := by
  unfold execRecoveryComplete
  repeat' (first
    | with_reducible refine WithinR.next ?_ | with_reducible refine WithinR.ite ?_ ?_ | with_reducible assumption
    | with_reducible refine Within.wr (i := 51) (by simp [Blk_ite]) (by decide) ?_ ?_ ?_
    | with_reducible refine canSysRecord_within ?_ ?_ | with_reducible refine gwService_within ?_ ?_
    | with_reducible refine bufPut_within ?_ ?_ | with_reducible refine Within.forN (fun _ _ _ _ => ?_) ?_
    | exact mask_sub hk rfl | with_reducible refine Within.ite ?_ ?_ | split | dsimp -proj only)

theorem execAbortAll_within {K : Nat} {b s : State} {a1 a2} (hk : K &&& 20759377671568235266 = 20759377671568235266) (h : Within K b s) :
    WithinR K b (execAbortAll a1 a2 s) := by
  unfold execAbortAll
  repeat' (first
    | with_reducible refine WithinR.next ?_ | with_reducible refine WithinR.ite ?_ ?_ | with_reducible assumption
    | with_reducible refine canAbortAll_within ?_ ?_ | with_reducible refine State_status_within ?_ ?_
    | with_reducible refine hostWrite_within ?_ ?_ ?_ | exact mask_sub hk rfl | with_reducible refine Within.ite ?_ ?_
    | split | dsimp -proj only)

theorem execTtMiss_within {K : Nat} {b s : State} {a1 a2} (hk : K &&& 20754874067645897218 = 20754874067645897218) (h : Within K b s) :
    WithinR K b (execTtMiss a1 a2 s) := by
  unfold execTtMiss
  repeat' (first
    | with_reducible refine WithinR.next ?_ | with_reducible refine WithinR.ite ?_ ?_ | with_reducible assumption
    | with_reducible refine bufMiss_within ?_ ?_ | exact mask_sub hk rfl | with_reducible refine Within.ite ?_ ?_
    | split | dsimp -proj only)

theorem execBusDom_within {K : Nat} {b s : State} {a1 a2} (hk : K &&& 20754874067109026306 = 20754874067109026306) (h : Within K b s) :
    WithinR K b (execBusDom a1 a2 s) := by
  unfold execBusDom
  repeat' (first
    | with_reducible refine WithinR.next ?_ | with_reducible refine WithinR.ite ?_ ?_ | with_reducible assumption
    | with_reducible refine Within.wr (i := 51) (by simp [Blk_ite]) (by decide) ?_ ?_ ?_
    | with_reducible refine canSysRecord_within ?_ ?_ | exact mask_sub hk rfl | with_reducible refine Within.ite ?_ ?_
    | split | dsimp -proj only)

theorem execSelectiveWake_within {K : Nat} {b s : State} {a1 a2 a3} (hk : K &&& 23058428429967735443 = 23058428429967735443) (h : Within K b s) :
    WithinR K b (execSelectiveWake a1 a2 a3 s) := by
  unfold execSelectiveWake
  repeat' (first
    | with_reducible refine WithinR.next ?_ | with_reducible refine WithinR.ite ?_ ?_ | with_reducible assumption
    | with_reducible refine Within.wr (i := 51) (by simp [Blk_ite]) (by decide) ?_ ?_ ?_
    | with_reducible refine swkWake_within (i := 51) (by simp [Blk_ite]) (by decide) ?_ ?_ ?_ | exact mask_sub hk rfl
    | with_reducible refine Within.ite ?_ ?_ | split | dsimp -proj only)

theorem execRoundStart_within {K : Nat} {b s : State} (hk : K &&& 2308094810637991936 = 2308094810637991936) (h : Within K b s) :
    WithinR K b (execRoundStart s) := by
  unfold execRoundStart
  repeat' (first
    | with_reducible refine WithinR.next ?_ | with_reducible refine WithinR.ite ?_ ?_ | with_reducible assumption
    | with_reducible refine Within.wr (i := 51) (by simp [Blk_ite]) (by decide) ?_ ?_ ?_
    | with_reducible refine Within.incSat (i := 51) (by simp [Blk_ite]) (by decide) ?_ ?_ ?_
    | with_reducible refine Within.incWrap (i := 51) (by simp [Blk_ite]) (by decide) ?_ ?_ ?_
    | with_reducible refine nsTo_within ?_ ?_ | with_reducible refine nsSend_within ?_ ?_ | exact mask_sub hk rfl
    | with_reducible refine Within.ite ?_ ?_ | split | dsimp -proj only | with_reducible refine Within.u_ns ?_ ?_)

theorem execTokenRx_within {K : Nat} {b s : State} {a1} (hk : K &&& 2308094810637992448 = 2308094810637992448) (h : Within K b s) :
    WithinR K b (execTokenRx a1 s) := by
  unfold execTokenRx
  repeat' (first
    | with_reducible refine WithinR.next ?_ | with_reducible refine WithinR.ite ?_ ?_ | with_reducible assumption
    | with_reducible refine nsToken_within ?_ ?_ | with_reducible refine nsTake_within ?_ (fun _ _ => ?_) ?_
    | exact mask_sub hk rfl | with_reducible refine Within.ite ?_ ?_ | split | dsimp -proj only)

theorem execCommitRx_within {K : Nat} {b s : State} {a1} (hk : K &&& 2308094810637992448 = 2308094810637992448) (h : Within K b s) :
    WithinR K b (execCommitRx a1 s) := by
  unfold execCommitRx
  repeat' (first
    | with_reducible refine WithinR.next ?_ | with_reducible refine WithinR.ite ?_ ?_ | with_reducible assumption
    | with_reducible refine nsCommit_within ?_ ?_ | with_reducible refine nsTake_within ?_ (fun _ _ => ?_) ?_
    | exact mask_sub hk rfl | with_reducible refine Within.ite ?_ ?_ | split | dsimp -proj only)

theorem execAbortRx_within {K : Nat} {b s : State} {a1} (hk : K &&& 23058428429967735443 = 23058428429967735443) (h : Within K b s) :
    WithinR K b (execAbortRx a1 s) := by
  unfold execAbortRx
  repeat' (first
    | with_reducible refine WithinR.next ?_ | with_reducible refine WithinR.ite ?_ ?_ | with_reducible assumption
    | with_reducible refine nsStop_within ?_ ?_ | with_reducible refine nsTake_within ?_ (fun _ _ => ?_) ?_
    | exact mask_sub hk rfl | with_reducible refine Within.ite ?_ ?_ | split | dsimp -proj only)

theorem execWakeRx_within {K : Nat} {b s : State} {a1} (hk : K &&& 23058428429967735443 = 23058428429967735443) (h : Within K b s) :
    WithinR K b (execWakeRx a1 s) := by
  unfold execWakeRx
  repeat' (first
    | with_reducible refine WithinR.next ?_ | with_reducible refine WithinR.ite ?_ ?_ | with_reducible assumption
    | with_reducible refine nsStop_within ?_ ?_ | with_reducible refine nsTake_within ?_ (fun _ _ => ?_) ?_
    | exact mask_sub hk rfl | with_reducible refine Within.ite ?_ ?_ | split | dsimp -proj only)

theorem execRoundTmo_within {K : Nat} {b s : State} (hk : K &&& 2308094810637992448 = 2308094810637992448) (h : Within K b s) :
    WithinR K b (execRoundTmo s) := by
  unfold execRoundTmo
  repeat' (first
    | with_reducible refine WithinR.next ?_ | with_reducible refine WithinR.ite ?_ ?_ | with_reducible assumption
    | with_reducible refine Within.wr (i := 51) (by simp [Blk_ite]) (by decide) ?_ ?_ ?_
    | with_reducible refine nsEnd_within ?_ ?_ | with_reducible refine nsSync_within ?_ ?_ | exact mask_sub hk rfl
    | with_reducible refine Within.ite ?_ ?_ | split | dsimp -proj only)

theorem execCommitWindowEnd_within {K : Nat} {b s : State} (hk : K &&& 21963949865542007299 = 21963949865542007299) (h : Within K b s) :
    WithinR K b (execCommitWindowEnd s) := by
  unfold execCommitWindowEnd
  repeat' (first
    | with_reducible refine WithinR.next ?_ | with_reducible refine WithinR.ite ?_ ?_ | with_reducible assumption
    | with_reducible refine Within.wr (i := 51) (by simp [Blk_ite]) (by decide) ?_ ?_ ?_
    | with_reducible refine dormancyEnter_within ?_ ?_ | with_reducible refine nsStayAwake_within ?_ ?_
    | with_reducible refine nsTo_within ?_ ?_ | exact mask_sub hk rfl | with_reducible refine Within.ite ?_ ?_ | split
    | dsimp -proj only)

theorem execWakeLineLow_within {K : Nat} {b s : State} {a1} (hk : K &&& 23058428429967735443 = 23058428429967735443) (h : Within K b s) :
    WithinR K b (execWakeLineLow a1 s) := by
  unfold execWakeLineLow
  repeat' (first
    | with_reducible refine WithinR.next ?_ | with_reducible refine WithinR.ite ?_ ?_ | with_reducible assumption
    | with_reducible refine Within.wr (i := 51) (by simp [Blk_ite]) (by decide) ?_ ?_ ?_
    | with_reducible refine nsSync_within ?_ ?_ | with_reducible refine wakeFire_within ?_ ?_
    | with_reducible refine wake_within ?_ ?_ | exact mask_sub hk rfl | with_reducible refine Within.ite ?_ ?_ | split
    | dsimp -proj only)

theorem execWakeLineHigh_within {K : Nat} {b s : State} (hk : K &&& 2308094810637992448 = 2308094810637992448) (h : Within K b s) :
    WithinR K b (execWakeLineHigh s) := by
  unfold execWakeLineHigh
  repeat' (first
    | with_reducible refine WithinR.next ?_ | with_reducible refine WithinR.ite ?_ ?_ | with_reducible assumption
    | with_reducible refine Within.wr (i := 51) (by simp [Blk_ite]) (by decide) ?_ ?_ ?_
    | with_reducible refine nsSync_within ?_ ?_ | exact mask_sub hk rfl | with_reducible refine Within.ite ?_ ?_
    | split | dsimp -proj only)

theorem execPulse_within {K : Nat} {b s : State} {a1} (hk : K &&& 20759377672641977090 = 20759377672641977090) (h : Within K b s) :
    WithinR K b (execPulse a1 s) := by
  unfold execPulse
  repeat' (first
    | with_reducible refine WithinR.next ?_ | with_reducible refine WithinR.ite ?_ ?_ | with_reducible assumption
    | with_reducible refine nsCommand_within ?_ ?_ | with_reducible refine hostWrite_within ?_ ?_ ?_
    | exact mask_sub hk rfl | with_reducible refine Within.ite ?_ ?_ | split | dsimp -proj only)

theorem execWakeframe_within {K : Nat} {b s : State} {a1} (hk : K &&& 20759377672641977090 = 20759377672641977090) (h : Within K b s) :
    WithinR K b (execWakeframe a1 s) := by
  unfold execWakeframe
  repeat' (first
    | with_reducible refine WithinR.next ?_ | with_reducible refine WithinR.ite ?_ ?_ | with_reducible assumption
    | with_reducible refine nsCommand_within ?_ ?_ | with_reducible refine hostWrite_within ?_ ?_ ?_
    | exact mask_sub hk rfl | with_reducible refine Within.ite ?_ ?_ | split | dsimp -proj only)

theorem execWakePulseEnd_within {K : Nat} {b s : State} (hk : K &&& 2308094810637992448 = 2308094810637992448) (h : Within K b s) :
    WithinR K b (execWakePulseEnd s) := by
  unfold execWakePulseEnd
  repeat' (first
    | with_reducible refine WithinR.next ?_ | with_reducible refine WithinR.ite ?_ ?_ | with_reducible assumption
    | with_reducible refine wakeRelease_within ?_ ?_ | with_reducible refine nsSync_within ?_ ?_
    | exact mask_sub hk rfl | with_reducible refine Within.ite ?_ ?_ | split | dsimp -proj only)

theorem execBridleRead_within {K : Nat} {b s : State} {a1 a2 a3 a4 a5} (hk : K &&& 27670114461296885695 = 27670114461296885695) (h : Within K b s) :
    WithinR K b (execBridleRead a1 a2 a3 a4 a5 s) := by
  unfold execBridleRead
  repeat' (first
    | with_reducible refine WithinR.next ?_ | with_reducible refine WithinR.ite ?_ ?_ | with_reducible assumption
    | with_reducible refine bridle_within ?_ ?_ | exact mask_sub hk rfl | with_reducible refine Within.ite ?_ ?_
    | split | dsimp -proj only)

theorem execBridleNonpostedWrite_within {K : Nat} {b s : State} {a1 a2 a3 a4 a5 a6} (hk : K &&& 27670114461296885695 = 27670114461296885695) (h : Within K b s) :
    WithinR K b (execBridleNonpostedWrite a1 a2 a3 a4 a5 a6 s) := by
  unfold execBridleNonpostedWrite
  repeat' (first
    | with_reducible refine WithinR.next ?_ | with_reducible refine WithinR.ite ?_ ?_ | with_reducible assumption
    | with_reducible refine bridle_within ?_ ?_ | exact mask_sub hk rfl | with_reducible refine Within.ite ?_ ?_
    | split | dsimp -proj only)

theorem execBridlePostedWrite_within {K : Nat} {b s : State} {a1 a2 a3 a4 a5 a6 a7} (hk : K &&& 27670114461296885695 = 27670114461296885695) (h : Within K b s) :
    WithinR K b (execBridlePostedWrite a1 a2 a3 a4 a5 a6 a7 s) := by
  unfold execBridlePostedWrite
  repeat' (first
    | with_reducible refine WithinR.next ?_ | with_reducible refine WithinR.ite ?_ ?_ | with_reducible assumption
    | with_reducible refine bridle_within ?_ ?_ | exact mask_sub hk rfl | with_reducible refine Within.ite ?_ ?_
    | split | dsimp -proj only)

theorem execRspTimeout_within {K : Nat} {b s : State} {a1} (hk : K &&& 2454461801211887872 = 2454461801211887872) (h : Within K b s) :
    WithinR K b (execRspTimeout a1 s) := by
  unfold execRspTimeout
  repeat' (first
    | with_reducible refine WithinR.next ?_ | with_reducible refine WithinR.ite ?_ ?_ | with_reducible assumption
    | with_reducible refine Within.incSat (i := 52) (by simp [Blk_ite]) (by decide) ?_ ?_ ?_
    | with_reducible refine txEnd_within ?_ ?_ | exact mask_sub hk rfl | with_reducible refine Within.ite ?_ ?_ | split
    | dsimp -proj only)

theorem execRetryRx_within {K : Nat} {b s : State} {a1} (hk : K &&& 2454461801211887872 = 2454461801211887872) (h : Within K b s) :
    WithinR K b (execRetryRx a1 s) := by
  unfold execRetryRx
  repeat' (first
    | with_reducible refine WithinR.next ?_ | with_reducible refine WithinR.ite ?_ ?_ | with_reducible assumption
    | with_reducible refine Within.incSat (i := 52) (by simp [Blk_ite]) (by decide) ?_ ?_ ?_
    | with_reducible refine txEnd_within ?_ ?_ | exact mask_sub hk rfl | with_reducible refine Within.ite ?_ ?_ | split
    | dsimp -proj only | with_reducible refine Within.u_br ?_ ?_)

theorem execXlInboundRequest_within {K : Nat} {b s : State} {a1 a2 a3 a4 a5 a6 a7 a8 a9} (hk : K &&& 27670114461296885695 = 27670114461296885695) (h : Within K b s) :
    WithinR K b (execXlInboundRequest a1 a2 a3 a4 a5 a6 a7 a8 a9 s) := by
  unfold execXlInboundRequest
  repeat' (first
    | with_reducible refine WithinR.next ?_ | with_reducible refine WithinR.ite ?_ ?_ | with_reducible assumption
    | with_reducible refine inboundAccess_within ?_ ?_ | with_reducible refine State_emit_within ?_ ?_
    | exact mask_sub hk rfl | with_reducible refine Within.ite ?_ ?_ | split | dsimp -proj only
    | with_reducible refine Within.u_resp ?_ ?_)

theorem execFailureNoticeRx_within {K : Nat} {b s : State} {a1 a2} (hk : K &&& 20759377680158169602 = 20759377680158169602) (h : Within K b s) :
    WithinR K b (execFailureNoticeRx a1 a2 s) := by
  unfold execFailureNoticeRx
  repeat' (first
    | with_reducible refine WithinR.next ?_ | with_reducible refine WithinR.ite ?_ ?_ | with_reducible assumption
    | with_reducible refine postFail_within ?_ ?_ | with_reducible refine postRelease_within ?_ ?_
    | exact mask_sub hk rfl | with_reducible refine Within.ite ?_ ?_ | split | dsimp -proj only)

theorem execXlLinkLoss_within {K : Nat} {b s : State} (hk : K &&& 22120945106759367427 = 22120945106759367427) (h : Within K b s) :
    WithinR K b (execXlLinkLoss s) := by
  unfold execXlLinkLoss
  repeat' (first
    | with_reducible refine WithinR.next ?_ | with_reducible refine WithinR.ite ?_ ?_ | with_reducible assumption
    | with_reducible refine xlLoss_within ?_ ?_ | exact mask_sub hk rfl | with_reducible refine Within.ite ?_ ?_
    | split | dsimp -proj only)

theorem execFenceGo_within {K : Nat} {b s : State} {a1 a2} (hk : K &&& 20759377680158169858 = 20759377680158169858) (h : Within K b s) :
    WithinR K b (execFenceGo a1 a2 s) := by
  unfold execFenceGo
  repeat' (first
    | with_reducible refine WithinR.next ?_ | with_reducible refine WithinR.ite ?_ ?_ | with_reducible assumption
    | with_reducible refine fenceGo_within ?_ ?_ | with_reducible refine hostWrite_within ?_ ?_ ?_
    | exact mask_sub hk rfl | with_reducible refine Within.ite ?_ ?_ | split | dsimp -proj only)

theorem execFenceComplete_within {K : Nat} {b s : State} {a1} (hk : K &&& 20759377680158169602 = 20759377680158169602) (h : Within K b s) :
    WithinR K b (execFenceComplete a1 s) := by
  unfold execFenceComplete
  repeat' (first
    | with_reducible refine WithinR.next ?_ | with_reducible refine WithinR.ite ?_ ?_ | with_reducible assumption
    | with_reducible refine fenceEnd_within ?_ ?_ | exact mask_sub hk rfl | with_reducible refine Within.ite ?_ ?_
    | split | dsimp -proj only)

theorem execStitchFence_within {K : Nat} {b s : State} {a1 a2 a3 a4 a5} (hk : K &&& 20759377680158169602 = 20759377680158169602) (h : Within K b s) :
    WithinR K b (execStitchFence a1 a2 a3 a4 a5 s) := by
  unfold execStitchFence
  repeat' (first
    | with_reducible refine WithinR.next ?_ | with_reducible refine WithinR.ite ?_ ?_ | with_reducible assumption
    | with_reducible refine stitchFence_within ?_ ?_ | exact mask_sub hk rfl | with_reducible refine Within.ite ?_ ?_
    | split | dsimp -proj only)

theorem execGwCommit_within {K : Nat} {b s : State} {a1} (hk : K &&& 20757125873365162754 = 20757125873365162754) (h : Within K b s) :
    WithinR K b (execGwCommit a1 s) := by
  unfold execGwCommit
  repeat' (first
    | with_reducible refine WithinR.next ?_ | with_reducible refine WithinR.ite ?_ ?_ | with_reducible assumption
    | with_reducible refine State_status_within ?_ ?_ | with_reducible refine gwCommit_within ?_ ?_
    | with_reducible refine hostWrite_within ?_ ?_ ?_ | exact mask_sub hk rfl | with_reducible refine Within.ite ?_ ?_
    | split | dsimp -proj only)

theorem execGwTableActivate_within {K : Nat} {b s : State} (hk : K &&& 2310346610988548096 = 2310346610988548096) (h : Within K b s) :
    WithinR K b (execGwTableActivate s) := by
  unfold execGwTableActivate
  repeat' (first
    | with_reducible refine WithinR.next ?_ | with_reducible refine WithinR.ite ?_ ?_ | with_reducible assumption
    | with_reducible refine Within.wr (i := 52) (by simp [Blk_ite]) (by decide) ?_ ?_ ?_ | exact mask_sub hk rfl
    | with_reducible refine Within.ite ?_ ?_ | with_reducible refine Within.foldl (fun _ _ _ => ?_) ?_ | split
    | dsimp -proj only | with_reducible refine Within.u_gw ?_ ?_)

theorem execGwPeriodExpiry_within {K : Nat} {b s : State} {a1} (hk : K &&& 2308094811711733760 = 2308094811711733760) (h : Within K b s) :
    WithinR K b (execGwPeriodExpiry a1 s) := by
  unfold execGwPeriodExpiry
  repeat' (first
    | with_reducible refine WithinR.next ?_ | with_reducible refine WithinR.ite ?_ ?_ | with_reducible assumption
    | with_reducible refine gwDue_within ?_ ?_ | with_reducible refine setGwDst_within ?_ ?_ | exact mask_sub hk rfl
    | with_reducible refine Within.ite ?_ ?_ | split | dsimp -proj only)

theorem execGwInhibitEnd_within {K : Nat} {b s : State} {a1} (hk : K &&& 2308094811711733760 = 2308094811711733760) (h : Within K b s) :
    WithinR K b (execGwInhibitEnd a1 s) := by
  unfold execGwInhibitEnd
  repeat' (first
    | with_reducible refine WithinR.next ?_ | with_reducible refine WithinR.ite ?_ ?_ | with_reducible assumption
    | with_reducible refine setGwDst_within ?_ ?_ | with_reducible refine gwService_within ?_ ?_
    | exact mask_sub hk rfl | with_reducible refine Within.ite ?_ ?_ | split | dsimp -proj only)

theorem execGwSourceTimeout_within {K : Nat} {b s : State} {a1} (hk : K &&& 2308094811711733760 = 2308094811711733760) (h : Within K b s) :
    WithinR K b (execGwSourceTimeout a1 s) := by
  unfold execGwSourceTimeout
  repeat' (first
    | with_reducible refine WithinR.next ?_ | with_reducible refine WithinR.ite ?_ ?_ | with_reducible assumption
    | with_reducible refine gwSubst_within_fst ?_ ?_ | with_reducible refine gwSubst_within ?_ ?_ (by assumption)
    | with_reducible refine gwRun_within ?_ (fun _ _ _ => ?_) ?_ | exact mask_sub hk rfl
    | with_reducible refine Within.ite ?_ ?_ | split | dsimp -proj only | with_reducible refine Within.u_gw ?_ ?_)

theorem execOpenSession_within {K : Nat} {b s : State} {a1 a2 a3} (hk : K &&& 2308094818154185348 = 2308094818154185348) (h : Within K b s) :
    WithinR K b (execOpenSession a1 a2 a3 s) := by
  unfold execOpenSession
  repeat' (first
    | with_reducible refine WithinR.next ?_ | with_reducible refine WithinR.ite ?_ ?_ | with_reducible assumption
    | with_reducible refine sesOpen_within ?_ ?_ | with_reducible refine sesCount_within ?_ ?_
    | with_reducible refine takeMessage_within ?_ ?_ (by assumption) | exact mask_sub hk rfl
    | with_reducible refine Within.ite ?_ ?_ | split | dsimp -proj only)

theorem execRead_within {K : Nat} {b s : State} {a1 a2} (hk : K &&& 27670115011052699583 = 27670115011052699583) (h : Within K b s) :
    WithinR K b (execRead a1 a2 s) := by
  unfold execRead
  repeat' (first
    | with_reducible refine WithinR.next ?_ | with_reducible refine WithinR.ite ?_ ?_ | with_reducible assumption
    | with_reducible refine request_within ?_ ?_ | exact mask_sub hk rfl | with_reducible refine Within.ite ?_ ?_
    | split | dsimp -proj only)

theorem execWrite_within {K : Nat} {b s : State} {a1 a2 a3} (hk : K &&& 27670115011052699583 = 27670115011052699583) (h : Within K b s) :
    WithinR K b (execWrite a1 a2 a3 s) := by
  unfold execWrite
  repeat' (first
    | with_reducible refine WithinR.next ?_ | with_reducible refine WithinR.ite ?_ ?_ | with_reducible assumption
    | with_reducible refine request_within ?_ ?_ | exact mask_sub hk rfl | with_reducible refine Within.ite ?_ ?_
    | split | dsimp -proj only)

theorem execNop_within {K : Nat} {b s : State} {a1 a2} (hk : K &&& 27670115011052699583 = 27670115011052699583) (h : Within K b s) :
    WithinR K b (execNop a1 a2 s) := by
  unfold execNop
  repeat' (first
    | with_reducible refine WithinR.next ?_ | with_reducible refine WithinR.ite ?_ ?_ | with_reducible assumption
    | with_reducible refine request_within ?_ ?_ | exact mask_sub hk rfl | with_reducible refine Within.ite ?_ ?_
    | split | dsimp -proj only)

theorem execClose_within {K : Nat} {b s : State} {a1} (hk : K &&& 2308094818154185220 = 2308094818154185220) (h : Within K b s) :
    WithinR K b (execClose a1 s) := by
  unfold execClose
  repeat' (first
    | with_reducible refine WithinR.next ?_ | with_reducible refine WithinR.ite ?_ ?_ | with_reducible assumption
    | with_reducible refine closeSessions_within ?_ ?_ | with_reducible refine stitchSend_within ?_ ?_
    | with_reducible refine datagramCheck_within_fst ?_ ?_
    | with_reducible refine datagramCheck_within ?_ ?_ (by assumption)
    | with_reducible refine takeMessage_within ?_ ?_ (by assumption) | exact mask_sub hk rfl
    | with_reducible refine Within.ite ?_ ?_ | split | dsimp -proj only)

theorem execClearModeRequest_within {K : Nat} {b s : State} {a1 a2 a3 a4 a5} (hk : K &&& 27670115011052699583 = 27670115011052699583) (h : Within K b s) :
    WithinR K b (execClearModeRequest a1 a2 a3 a4 a5 s) := by
  unfold execClearModeRequest
  repeat' (first
    | with_reducible refine WithinR.next ?_ | with_reducible refine WithinR.ite ?_ ?_ | with_reducible assumption
    | with_reducible refine serve_within ?_ ?_ | with_reducible refine sesReply_within ?_ ?_
    | with_reducible refine setSession_within ?_ ?_ | with_reducible refine sesCount_within ?_ ?_
    | exact mask_sub hk rfl | with_reducible refine Within.ite ?_ ?_ | split | dsimp -proj only)

theorem execSessionIdleTimeout_within {K : Nat} {b s : State} {a1} (hk : K &&& 8589934592 = 8589934592) (h : Within K b s) :
    WithinR K b (execSessionIdleTimeout a1 s) := by
  unfold execSessionIdleTimeout
  repeat' (first
    | with_reducible refine WithinR.next ?_ | with_reducible refine WithinR.ite ?_ ?_ | with_reducible assumption
    | with_reducible refine closeSessions_within ?_ ?_ | exact mask_sub hk rfl | with_reducible refine Within.ite ?_ ?_
    | split | dsimp -proj only)

theorem execAssemblyTimeout_within {K : Nat} {b s : State} {a1} (hk : K &&& 8589934592 = 8589934592) (h : Within K b s) :
    WithinR K b (execAssemblyTimeout a1 s) := by
  unfold execAssemblyTimeout
  repeat' (first
    | with_reducible refine WithinR.next ?_ | with_reducible refine WithinR.ite ?_ ?_ | with_reducible assumption
    | with_reducible refine setAsm_within ?_ ?_ | exact mask_sub hk rfl | with_reducible refine Within.ite ?_ ?_
    | split | dsimp -proj only)

theorem execSnapshotTimeout_within {K : Nat} {b s : State} {a1} (hk : K &&& 8589934592 = 8589934592) (h : Within K b s) :
    WithinR K b (execSnapshotTimeout a1 s) := by
  unfold execSnapshotTimeout
  repeat' (first
    | with_reducible refine WithinR.next ?_ | with_reducible refine WithinR.ite ?_ ?_ | with_reducible assumption
    | with_reducible refine setSnap_within ?_ ?_ | exact mask_sub hk rfl | with_reducible refine Within.ite ?_ ?_
    | split | dsimp -proj only)

theorem execCanSegmentRx_within {K : Nat} {b s : State} {a1 a2 a3} (hk : K &&& 2308094818154184708 = 2308094818154184708) (h : Within K b s) :
    WithinR K b (execCanSegmentRx a1 a2 a3 s) := by
  unfold execCanSegmentRx
  repeat' (first
    | with_reducible refine WithinR.next ?_ | with_reducible refine WithinR.ite ?_ ?_ | with_reducible assumption
    | with_reducible refine segNext_within ?_ ?_ | with_reducible refine segDropTx_within ?_ ?_
    | with_reducible refine segDropRx_within ?_ ?_ | with_reducible refine canSystem_within ?_ ?_
    | with_reducible refine segGot_within ?_ ?_ | with_reducible refine sesCount_within ?_ ?_ | exact mask_sub hk rfl
    | with_reducible refine Within.ite ?_ ?_ | split | dsimp -proj only | with_reducible refine Within.u_ses ?_ ?_)

theorem execSegmentTimeout_within {K : Nat} {b s : State} {a1 a2 a3} (hk : K &&& 8589934592 = 8589934592) (h : Within K b s) :
    WithinR K b (execSegmentTimeout a1 a2 a3 s) := by
  unfold execSegmentTimeout
  repeat' (first
    | with_reducible refine WithinR.next ?_ | with_reducible refine WithinR.ite ?_ ?_ | with_reducible assumption
    | with_reducible refine segDropRx_within ?_ ?_ | with_reducible refine segDropTx_within ?_ ?_
    | exact mask_sub hk rfl | with_reducible refine Within.ite ?_ ?_ | split | dsimp -proj only)

theorem execLocalRequest_within {K : Nat} {b s : State} {a1 a2 a3} (hk : K &&& 27670115011052699583 = 27670115011052699583) (h : Within K b s) :
    WithinR K b (execLocalRequest a1 a2 a3 s) := by
  unfold execLocalRequest
  repeat' (first
    | with_reducible refine WithinR.next ?_ | with_reducible refine WithinR.ite ?_ ?_ | with_reducible assumption
    | with_reducible refine serve_within ?_ ?_ | with_reducible refine localReply_within ?_ ?_
    | with_reducible refine setSession_within ?_ ?_ | with_reducible refine localTake_within ?_ ?_ (by assumption)
    | exact mask_sub hk rfl | with_reducible refine Within.ite ?_ ?_ | split | dsimp -proj only)

theorem execPlotAnswerRx_within {K : Nat} {b s : State} {a1} (hk : K &&& 20754874076235831810 = 20754874076235831810) (h : Within K b s) :
    WithinR K b (execPlotAnswerRx a1 s) := by
  unfold execPlotAnswerRx
  repeat' (first
    | with_reducible refine WithinR.next ?_ | with_reducible refine WithinR.ite ?_ ?_ | with_reducible assumption
    | with_reducible refine fwdAnswer_within ?_ ?_ | with_reducible refine localTake_within ?_ ?_ (by assumption)
    | exact mask_sub hk rfl | with_reducible refine Within.ite ?_ ?_ | split | dsimp -proj only
    | with_reducible refine Within.u_ses ?_ ?_)

theorem execForwardTimeout_within {K : Nat} {b s : State} {a1} (hk : K &&& 20754874076235831810 = 20754874076235831810) (h : Within K b s) :
    WithinR K b (execForwardTimeout a1 s) := by
  unfold execForwardTimeout
  repeat' (first
    | with_reducible refine WithinR.next ?_ | with_reducible refine WithinR.ite ?_ ?_ | with_reducible assumption
    | with_reducible refine fwdAnswer_within ?_ ?_ | exact mask_sub hk rfl | with_reducible refine Within.ite ?_ ?_
    | split | dsimp -proj only | with_reducible refine Within.u_ses ?_ ?_)

theorem execSettingsStore_within {K : Nat} {b s : State} (hk : K &&& 8589934640 = 8589934640) (h : Within K b s) :
    WithinR K b (execSettingsStore s) := by
  unfold execSettingsStore
  repeat' (first
    | with_reducible refine WithinR.next ?_ | with_reducible refine WithinR.ite ?_ ?_ | with_reducible assumption
    | with_reducible refine settingsStore_within ?_ ?_ | exact mask_sub hk rfl | with_reducible refine Within.ite ?_ ?_
    | split | dsimp -proj only)

theorem execSettingsDefaults_within {K : Nat} {b s : State} {a1} (hk : K &&& 8589934848 = 8589934848) (h : Within K b s) :
    WithinR K b (execSettingsDefaults a1 s) := by
  unfold execSettingsDefaults
  repeat' (first
    | with_reducible refine WithinR.next ?_ | with_reducible refine WithinR.ite ?_ ?_ | with_reducible assumption
    | with_reducible refine settingsDefaults_within ?_ ?_ | exact mask_sub hk rfl
    | with_reducible refine Within.ite ?_ ?_ | split | dsimp -proj only)

theorem execJobKindWrite_within {K : Nat} {b s : State} {a1 a2 a3} (hk : K &&& 274877907200 = 274877907200) (h : Within K b s) :
    WithinR K b (execJobKindWrite a1 a2 a3 s) := by
  unfold execJobKindWrite
  repeat' (first
    | with_reducible refine WithinR.next ?_ | with_reducible refine WithinR.ite ?_ ?_ | with_reducible assumption
    | with_reducible refine jobKindWrite_within ?_ ?_ | exact mask_sub hk rfl | with_reducible refine Within.ite ?_ ?_
    | split | dsimp -proj only)

theorem execStart_within {K : Nat} {b s : State} {a1 a2 a3 a4} (hk : K &&& 22259149857194261250 = 22259149857194261250) (h : Within K b s) :
    WithinR K b (execStart a1 a2 a3 a4 s) := by
  unfold execStart
  repeat' (first
    | with_reducible refine WithinR.next ?_ | with_reducible refine WithinR.ite ?_ ?_ | with_reducible assumption
    | with_reducible refine jobStart_within ?_ ?_ | exact mask_sub hk rfl | with_reducible refine Within.ite ?_ ?_
    | split | dsimp -proj only)

theorem execSuspend_within {K : Nat} {b s : State} {a1 a2} (hk : K &&& 20752692911185861378 = 20752692911185861378) (h : Within K b s) :
    WithinR K b (execSuspend a1 a2 s) := by
  unfold execSuspend
  repeat' (first
    | with_reducible refine WithinR.next ?_ | with_reducible refine WithinR.ite ?_ ?_ | with_reducible assumption
    | with_reducible refine jobSuspend_within ?_ ?_ | exact mask_sub hk rfl | with_reducible refine Within.ite ?_ ?_
    | split | dsimp -proj only)

theorem execResume_within {K : Nat} {b s : State} {a1 a2} (hk : K &&& 22259149857194261250 = 22259149857194261250) (h : Within K b s) :
    WithinR K b (execResume a1 a2 s) := by
  unfold execResume
  repeat' (first
    | with_reducible refine WithinR.next ?_ | with_reducible refine WithinR.ite ?_ ?_ | with_reducible assumption
    | with_reducible refine jobResumeCmd_within ?_ ?_ | exact mask_sub hk rfl | with_reducible refine Within.ite ?_ ?_
    | split | dsimp -proj only)

theorem execCancel_within {K : Nat} {b s : State} {a1 a2} (hk : K &&& 21968667129862437634 = 21968667129862437634) (h : Within K b s) :
    WithinR K b (execCancel a1 a2 s) := by
  unfold execCancel
  repeat' (first
    | with_reducible refine WithinR.next ?_ | with_reducible refine WithinR.ite ?_ ?_ | with_reducible assumption
    | with_reducible refine jobCancel_within ?_ ?_ | exact mask_sub hk rfl | with_reducible refine Within.ite ?_ ?_
    | split | dsimp -proj only)

theorem execJobDequeue_within {K : Nat} {b s : State} {a1} (hk : K &&& 22259149307438447106 = 22259149307438447106) (h : Within K b s) :
    WithinR K b (execJobDequeue a1 s) := by
  unfold execJobDequeue
  repeat' (first
    | with_reducible refine WithinR.next ?_ | with_reducible refine WithinR.ite ?_ ?_ | with_reducible assumption
    | with_reducible refine jobRun_within ?_ ?_ | exact mask_sub hk rfl | with_reducible refine Within.ite ?_ ?_
    | split | dsimp -proj only)

theorem execJobDone_within {K : Nat} {b s : State} {a1 a2} (hk : K &&& 23058428297653173814 = 23058428297653173814) (h : Within K b s) :
    WithinR K b (execJobDone a1 a2 s) := by
  unfold execJobDone
  repeat' (first
    | with_reducible refine WithinR.next ?_ | with_reducible refine WithinR.ite ?_ ?_ | with_reducible assumption
    | with_reducible refine recomDone_within ?_ ?_ | with_reducible refine saveDone_within ?_ ?_
    | with_reducible refine kuLoad_within ?_ ?_ | with_reducible refine kuCommit_within ?_ ?_
    | with_reducible refine kuBegin_within ?_ ?_ | with_reducible refine selfTestDone_within ?_ ?_
    | exact mask_sub hk rfl | with_reducible refine Within.ite ?_ ?_ | split | dsimp -proj only)

theorem execJobFailed_within {K : Nat} {b s : State} {a1 a2 a3} (hk : K &&& 21972467042587950594 = 21972467042587950594) (h : Within K b s) :
    WithinR K b (execJobFailed a1 a2 a3 s) := by
  unfold execJobFailed
  repeat' (first
    | with_reducible refine WithinR.next ?_ | with_reducible refine WithinR.ite ?_ ?_ | with_reducible assumption
    | with_reducible refine Within.wr (i := 46) (by simp [Blk_ite]) (by decide) ?_ ?_ ?_
    | with_reducible refine injection_within ?_ ?_ | with_reducible refine tilDegrade_within ?_ ?_
    | with_reducible refine jobEnd_within ?_ ?_ | exact mask_sub hk rfl | with_reducible refine Within.ite ?_ ?_
    | split | dsimp -proj only)

theorem execPlotTablesCommit_within {K : Nat} {b s : State} {a1} (hk : K &&& 23058427914589485826 = 23058427914589485826) (h : Within K b s) :
    WithinR K b (execPlotTablesCommit a1 s) := by
  unfold execPlotTablesCommit
  repeat' (first
    | with_reducible refine WithinR.next ?_ | with_reducible refine WithinR.ite ?_ ?_ | with_reducible assumption
    | with_reducible refine State_status_within ?_ ?_ | with_reducible refine tablesCommit_within ?_ ?_
    | with_reducible refine hostWrite_within ?_ ?_ ?_ | exact mask_sub hk rfl | with_reducible refine Within.ite ?_ ?_
    | split | dsimp -proj only)

theorem execWindowBoundary_within {K : Nat} {b s : State} {a1 a2} (hk : K &&& 3503800527274123776 = 3503800527274123776) (h : Within K b s) :
    WithinR K b (execWindowBoundary a1 a2 s) := by
  unfold execWindowBoundary
  repeat' (first
    | with_reducible refine WithinR.next ?_ | with_reducible refine WithinR.ite ?_ ?_ | with_reducible assumption
    | with_reducible refine Within.wr (i := 53) (by simp [Blk_ite]) (by decide) ?_ ?_ ?_
    | with_reducible refine State_emit_within ?_ ?_ | with_reducible refine plotTo_within ?_ ?_ | exact mask_sub hk rfl
    | with_reducible refine Within.ite ?_ ?_ | split | dsimp -proj only)

theorem execAccessViolation_within {K : Nat} {b s : State} {a1 a2 a3} (hk : K &&& 22120945105685626626 = 22120945105685626626) (h : Within K b s) :
    WithinR K b (execAccessViolation a1 a2 a3 s) := by
  unfold execAccessViolation
  repeat' (first
    | with_reducible refine WithinR.next ?_ | with_reducible refine WithinR.ite ?_ ?_ | with_reducible assumption
    | with_reducible refine plotViolation_within ?_ ?_ | exact mask_sub hk rfl | with_reducible refine Within.ite ?_ ?_
    | split | dsimp -proj only)

theorem execPcWdogKick_within {K : Nat} {b s : State} {a1 a2 a3} (hk : K &&& 20757125888397548290 = 20757125888397548290) (h : Within K b s) :
    WithinR K b (execPcWdogKick a1 a2 a3 s) := by
  unfold execPcWdogKick
  repeat' (first
    | with_reducible refine WithinR.next ?_ | with_reducible refine WithinR.ite ?_ ?_ | with_reducible assumption
    | with_reducible refine wdogKick_within ?_ ?_ | with_reducible refine hostWrite_within ?_ ?_ ?_
    | exact mask_sub hk rfl | with_reducible refine Within.ite ?_ ?_ | split | dsimp -proj only)

theorem execPlotWdogExpiry_within {K : Nat} {b s : State} {a1} (hk : K &&& 22120945105685626370 = 22120945105685626370) (h : Within K b s) :
    WithinR K b (execPlotWdogExpiry a1 s) := by
  unfold execPlotWdogExpiry
  repeat' (first
    | with_reducible refine WithinR.next ?_ | with_reducible refine WithinR.ite ?_ ?_ | with_reducible assumption
    | with_reducible refine plotFault_within ?_ ?_ | exact mask_sub hk rfl | with_reducible refine Within.ite ?_ ?_
    | split | dsimp -proj only)

theorem execPlotStart_within {K : Nat} {b s : State} {a1 a2} (hk : K &&& 22120945105685626626 = 22120945105685626626) (h : Within K b s) :
    WithinR K b (execPlotStart a1 a2 s) := by
  unfold execPlotStart
  repeat' (first
    | with_reducible refine WithinR.next ?_ | with_reducible refine WithinR.ite ?_ ?_ | with_reducible assumption
    | with_reducible refine plotCommand_within ?_ ?_ | with_reducible refine hostWrite_within ?_ ?_ ?_
    | exact mask_sub hk rfl | with_reducible refine Within.ite ?_ ?_ | split | dsimp -proj only)

theorem execPlotStop_within {K : Nat} {b s : State} {a1 a2} (hk : K &&& 22120945105685626626 = 22120945105685626626) (h : Within K b s) :
    WithinR K b (execPlotStop a1 a2 s) := by
  unfold execPlotStop
  repeat' (first
    | with_reducible refine WithinR.next ?_ | with_reducible refine WithinR.ite ?_ ?_ | with_reducible assumption
    | with_reducible refine plotCommand_within ?_ ?_ | with_reducible refine hostWrite_within ?_ ?_ ?_
    | exact mask_sub hk rfl | with_reducible refine Within.ite ?_ ?_ | split | dsimp -proj only)

theorem execPlotReset_within {K : Nat} {b s : State} {a1 a2} (hk : K &&& 22120945105685626626 = 22120945105685626626) (h : Within K b s) :
    WithinR K b (execPlotReset a1 a2 s) := by
  unfold execPlotReset
  repeat' (first
    | with_reducible refine WithinR.next ?_ | with_reducible refine WithinR.ite ?_ ?_ | with_reducible assumption
    | with_reducible refine plotCommand_within ?_ ?_ | with_reducible refine hostWrite_within ?_ ?_ ?_
    | exact mask_sub hk rfl | with_reducible refine Within.ite ?_ ?_ | split | dsimp -proj only)

theorem execResetDrainDone_within {K : Nat} {b s : State} {a1} (hk : K &&& 23058427923715340802 = 23058427923715340802) (h : Within K b s) :
    WithinR K b (execResetDrainDone a1 s) := by
  unfold execResetDrainDone
  repeat' (first
    | with_reducible refine WithinR.next ?_ | with_reducible refine WithinR.ite ?_ ?_ | with_reducible assumption
    | with_reducible refine plotComplete_within ?_ ?_ | exact mask_sub hk rfl | with_reducible refine Within.ite ?_ ?_
    | split | dsimp -proj only)

theorem execFreeze_within {K : Nat} {b s : State} {a1 a2} (hk : K &&& 22120945105685626626 = 22120945105685626626) (h : Within K b s) :
    WithinR K b (execFreeze a1 a2 s) := by
  unfold execFreeze
  repeat' (first
    | with_reducible refine WithinR.next ?_ | with_reducible refine WithinR.ite ?_ ?_ | with_reducible assumption
    | with_reducible refine plotCommand_within ?_ ?_ | with_reducible refine hostWrite_within ?_ ?_ ?_
    | exact mask_sub hk rfl | with_reducible refine Within.ite ?_ ?_ | split | dsimp -proj only)

theorem execFreezeDone_within {K : Nat} {b s : State} {a1} (hk : K &&& 21975422542725266050 = 21975422542725266050) (h : Within K b s) :
    WithinR K b (execFreezeDone a1 s) := by
  unfold execFreezeDone
  repeat' (first
    | with_reducible refine WithinR.next ?_ | with_reducible refine WithinR.ite ?_ ?_ | with_reducible assumption
    | with_reducible refine freezeDone_within ?_ ?_ | exact mask_sub hk rfl | with_reducible refine Within.ite ?_ ?_
    | split | dsimp -proj only)

theorem execThaw_within {K : Nat} {b s : State} {a1 a2} (hk : K &&& 22120945105685626626 = 22120945105685626626) (h : Within K b s) :
    WithinR K b (execThaw a1 a2 s) := by
  unfold execThaw
  repeat' (first
    | with_reducible refine WithinR.next ?_ | with_reducible refine WithinR.ite ?_ ?_ | with_reducible assumption
    | with_reducible refine plotCommand_within ?_ ?_ | with_reducible refine hostWrite_within ?_ ?_ ?_
    | exact mask_sub hk rfl | with_reducible refine Within.ite ?_ ?_ | split | dsimp -proj only)

theorem execCheckpoint_within {K : Nat} {b s : State} {a1 a2} (hk : K &&& 22120945105685626626 = 22120945105685626626) (h : Within K b s) :
    WithinR K b (execCheckpoint a1 a2 s) := by
  unfold execCheckpoint
  repeat' (first
    | with_reducible refine WithinR.next ?_ | with_reducible refine WithinR.ite ?_ ?_ | with_reducible assumption
    | with_reducible refine plotCommand_within ?_ ?_ | with_reducible refine hostWrite_within ?_ ?_ ?_
    | exact mask_sub hk rfl | with_reducible refine Within.ite ?_ ?_ | split | dsimp -proj only)

theorem execCheckpointTimer_within {K : Nat} {b s : State} {a1} (hk : K &&& 21968667129862437378 = 21968667129862437378) (h : Within K b s) :
    WithinR K b (execCheckpointTimer a1 s) := by
  unfold execCheckpointTimer
  repeat' (first
    | with_reducible refine WithinR.next ?_ | with_reducible refine WithinR.ite ?_ ?_ | with_reducible assumption
    | with_reducible refine freezeStart_within ?_ ?_ | exact mask_sub hk rfl | with_reducible refine Within.ite ?_ ?_
    | split | dsimp -proj only)

theorem execImageRestore_within {K : Nat} {b s : State} {a1 a2} (hk : K &&& 23058428289061140994 = 23058428289061140994) (h : Within K b s) :
    WithinR K b (execImageRestore a1 a2 s) := by
  unfold execImageRestore
  repeat' (first
    | with_reducible refine WithinR.next ?_ | with_reducible refine WithinR.ite ?_ ?_ | with_reducible assumption
    | with_reducible refine State_emit_within ?_ ?_ | with_reducible refine restoreApply_within ?_ ?_
    | with_reducible refine claimAll_within ?_ ?_ | with_reducible refine jobTo_within ?_ ?_
    | with_reducible refine jobEnd_within ?_ ?_ | exact mask_sub hk rfl | with_reducible refine Within.ite ?_ ?_
    | split | dsimp -proj only)

theorem execMigrateConfirmRx_within {K : Nat} {b s : State} {a1 a2} (hk : K &&& 21972889264714594819 = 21972889264714594819) (h : Within K b s) :
    WithinR K b (execMigrateConfirmRx a1 a2 s) := by
  unfold execMigrateConfirmRx
  repeat' (first
    | with_reducible refine WithinR.next ?_ | with_reducible refine WithinR.ite ?_ ?_ | with_reducible assumption
    | with_reducible refine jobTo_within ?_ ?_ | with_reducible refine plotRecord_within ?_ ?_
    | with_reducible refine plotLeave_within ?_ ?_ | with_reducible refine migrateFail_within ?_ ?_
    | exact mask_sub hk rfl | with_reducible refine Within.ite ?_ ?_ | split | dsimp -proj only)

theorem execTamperDetect_within {K : Nat} {b s : State} {a1 a2} (hk : K &&& 23058428369838193283 = 23058428369838193283) (h : Within K b s) :
    WithinR K b (execTamperDetect a1 a2 s) := by
  unfold execTamperDetect
  repeat' (first
    | with_reducible refine WithinR.next ?_ | with_reducible refine WithinR.ite ?_ ?_ | with_reducible assumption
    | with_reducible refine tamper_within ?_ ?_ | exact mask_sub hk rfl | with_reducible refine Within.ite ?_ ?_
    | split | dsimp -proj only)

theorem execTamperEraseDone_within {K : Nat} {b s : State} (hk : K &&& 2900318194386337792 = 2900318194386337792) (h : Within K b s) :
    WithinR K b (execTamperEraseDone s) := by
  unfold execTamperEraseDone
  repeat' (first
    | with_reducible refine WithinR.next ?_ | with_reducible refine WithinR.ite ?_ ?_ | with_reducible assumption
    | with_reducible refine eraseDone_within ?_ ?_ | exact mask_sub hk rfl | with_reducible refine Within.ite ?_ ?_
    | split | dsimp -proj only)

theorem execLifecycleMessage_within {K : Nat} {b s : State} {a1 a2 a3} (hk : K &&& 27670114461296819135 = 27670114461296819135) (h : Within K b s) :
    WithinR K b (execLifecycleMessage a1 a2 a3 s) := by
  unfold execLifecycleMessage
  repeat' (first
    | with_reducible refine WithinR.next ?_ | with_reducible refine WithinR.ite ?_ ?_ | with_reducible assumption
    | with_reducible refine lifecycleMessage_within ?_ ?_ | exact mask_sub hk rfl
    | with_reducible refine Within.ite ?_ ?_ | split | dsimp -proj only)

theorem execProvision_within {K : Nat} {b s : State} {a1 a2} (hk : K &&& 27670114461296819135 = 27670114461296819135) (h : Within K b s) :
    WithinR K b (execProvision a1 a2 s) := by
  unfold execProvision
  repeat' (first
    | with_reducible refine WithinR.next ?_ | with_reducible refine WithinR.ite ?_ ?_ | with_reducible assumption
    | with_reducible refine provision_within ?_ ?_ | exact mask_sub hk rfl | with_reducible refine Within.ite ?_ ?_
    | split | dsimp -proj only)

theorem execDebugToken_within {K : Nat} {b s : State} {a1 a2} (hk : K &&& 23058428369838193539 = 23058428369838193539) (h : Within K b s) :
    WithinR K b (execDebugToken a1 a2 s) := by
  unfold execDebugToken
  repeat' (first
    | with_reducible refine WithinR.next ?_ | with_reducible refine WithinR.ite ?_ ?_ | with_reducible assumption
    | with_reducible refine debugToken_within ?_ ?_ | exact mask_sub hk rfl | with_reducible refine Within.ite ?_ ?_
    | split | dsimp -proj only)

theorem execAwlOpen_within {K : Nat} {b s : State} (hk : K &&& 23058428369838193539 = 23058428369838193539) (h : Within K b s) :
    WithinR K b (execAwlOpen s) := by
  unfold execAwlOpen
  repeat' (first
    | with_reducible refine WithinR.next ?_ | with_reducible refine WithinR.ite ?_ ?_ | with_reducible assumption
    | with_reducible refine Within.wr (i := 54) (by simp [Blk_ite]) (by decide) ?_ ?_ ?_
    | with_reducible refine State_status_within ?_ ?_
    | with_reducible refine cloReject_within (i := 54) (by simp [Blk_ite]) (by decide) ?_ ?_ ?_ | exact mask_sub hk rfl
    | with_reducible refine Within.ite ?_ ?_ | split | dsimp -proj only)

theorem execDebugClose_within {K : Nat} {b s : State} {a1} (hk : K &&& 27670114461296819135 = 27670114461296819135) (h : Within K b s) :
    WithinR K b (execDebugClose a1 s) := by
  unfold execDebugClose
  repeat' (first
    | with_reducible refine WithinR.next ?_ | with_reducible refine WithinR.ite ?_ ?_ | with_reducible assumption
    | with_reducible refine debugClose_within ?_ ?_ | exact mask_sub hk rfl | with_reducible refine Within.ite ?_ ?_
    | split | dsimp -proj only)

theorem execTokenExpiry_within {K : Nat} {b s : State} (hk : K &&& 2323857442082914304 = 2323857442082914304) (h : Within K b s) :
    WithinR K b (execTokenExpiry s) := by
  unfold execTokenExpiry
  repeat' (first
    | with_reducible refine WithinR.next ?_ | with_reducible refine WithinR.ite ?_ ?_ | with_reducible assumption
    | with_reducible refine debugSeal_within ?_ ?_ | exact mask_sub hk rfl | with_reducible refine Within.ite ?_ ?_
    | split | dsimp -proj only)

theorem execCounterIncrement_within {K : Nat} {b s : State} {a1 a2} (hk : K &&& 20775140304086899458 = 20775140304086899458) (h : Within K b s) :
    WithinR K b (execCounterIncrement a1 a2 s) := by
  unfold execCounterIncrement
  repeat' (first
    | with_reducible refine WithinR.next ?_ | with_reducible refine WithinR.ite ?_ ?_ | with_reducible assumption
    | with_reducible refine ctrIncrement_within ?_ ?_ | with_reducible refine hostWrite_within ?_ ?_ ?_
    | exact mask_sub hk rfl | with_reducible refine Within.ite ?_ ?_ | split | dsimp -proj only)

theorem execGraftBlockWrite_within {K : Nat} {b s : State} {a1 a2} (hk : K &&& 21040923355788614402 = 21040923355788614402) (h : Within K b s) :
    WithinR K b (execGraftBlockWrite a1 a2 s) := by
  unfold execGraftBlockWrite
  repeat' (first
    | with_reducible refine WithinR.next ?_ | with_reducible refine WithinR.ite ?_ ?_ | with_reducible assumption
    | with_reducible refine blockWrite_within_fst ?_ ?_ | with_reducible refine blockWrite_within ?_ ?_ (by assumption)
    | with_reducible refine State_status_within ?_ ?_ | exact mask_sub hk rfl | with_reducible refine Within.ite ?_ ?_
    | split | dsimp -proj only)

theorem execSvcBlock_within {K : Nat} {b s : State} {a1 a2} (hk : K &&& 21040923355788614146 = 21040923355788614146) (h : Within K b s) :
    WithinR K b (execSvcBlock a1 a2 s) := by
  unfold execSvcBlock
  repeat' (first
    | with_reducible refine WithinR.next ?_ | with_reducible refine WithinR.ite ?_ ?_ | with_reducible assumption
    | with_reducible refine blockWrite_within_fst ?_ ?_ | with_reducible refine blockWrite_within ?_ ?_ (by assumption)
    | with_reducible refine State_emit_within ?_ ?_ | exact mask_sub hk rfl | with_reducible refine Within.ite ?_ ?_
    | split | dsimp -proj only)

theorem execBankEraseDone_within {K : Nat} {b s : State} {a1} (hk : K &&& 21040923355788614146 = 21040923355788614146) (h : Within K b s) :
    WithinR K b (execBankEraseDone a1 s) := by
  unfold execBankEraseDone
  repeat' (first
    | with_reducible refine WithinR.next ?_ | with_reducible refine WithinR.ite ?_ ?_ | with_reducible assumption
    | with_reducible refine Within.wr (i := 58) (by simp [Blk_ite]) (by decide) ?_ ?_ ?_
    | with_reducible refine jobTo_within ?_ ?_ | with_reducible refine State_setBank_within ?_ ?_
    | exact mask_sub hk rfl | with_reducible refine Within.ite ?_ ?_ | split | dsimp -proj only)

theorem execActivationProceed_within {K : Nat} {b s : State} {a1} (hk : K &&& 27670114461296819135 = 27670114461296819135) (h : Within K b s) :
    WithinR K b (execActivationProceed a1 s) := by
  unfold execActivationProceed
  repeat' (first
    | with_reducible refine WithinR.next ?_ | with_reducible refine WithinR.ite ?_ ?_ | with_reducible assumption
    | with_reducible refine warmStart_within ?_ ?_ | with_reducible refine grfSync_within ?_ ?_
    | with_reducible refine jobTo_within ?_ ?_ | exact mask_sub hk rfl | with_reducible refine Within.ite ?_ ?_ | split
    | dsimp -proj only | with_reducible refine Within.u_grf ?_ ?_)

theorem execXlLinkTrained_within {K : Nat} {b s : State} (hk : K &&& 22120945106759367427 = 22120945106759367427) (h : Within K b s) :
    WithinR K b (execXlLinkTrained s) := by
  unfold execXlLinkTrained
  repeat' (first
    | with_reducible refine WithinR.next ?_ | with_reducible refine WithinR.ite ?_ ?_ | with_reducible assumption
    | with_reducible refine Within.incSat (i := 57) (by simp [Blk_ite]) (by decide) ?_ ?_ ?_
    | with_reducible refine Within.wr (i := 57) (by simp [Blk_ite]) (by decide) ?_ ?_ ?_
    | with_reducible refine serdesBack_within ?_ ?_ | with_reducible refine subSync_within ?_ ?_
    | with_reducible refine xlLoss_within ?_ ?_ | exact mask_sub hk rfl | with_reducible refine Within.ite ?_ ?_
    | split | dsimp -proj only | with_reducible refine Within.u_girth ?_ ?_)

theorem execEthLinkUp_within {K : Nat} {b s : State} {a1} (hk : K &&& 3566850904877441024 = 3566850904877441024) (h : Within K b s) :
    WithinR K b (execEthLinkUp a1 s) := by
  unfold execEthLinkUp
  repeat' (first
    | with_reducible refine WithinR.next ?_ | with_reducible refine WithinR.ite ?_ ?_ | with_reducible assumption
    | with_reducible refine Within.wr (i := 56) (by simp [Blk_ite]) (by decide) ?_ ?_ ?_
    | with_reducible refine serdesBack_within ?_ ?_ | exact mask_sub hk rfl | with_reducible refine Within.ite ?_ ?_
    | split | dsimp -proj only)

theorem execEthLinkDown_within {K : Nat} {b s : State} {a1} (hk : K &&& 2377900603251621888 = 2377900603251621888) (h : Within K b s) :
    WithinR K b (execEthLinkDown a1 s) := by
  unfold execEthLinkDown
  repeat' (first
    | with_reducible refine WithinR.next ?_ | with_reducible refine WithinR.ite ?_ ?_ | with_reducible assumption
    | with_reducible refine Within.wr (i := 56) (by simp [Blk_ite]) (by decide) ?_ ?_ ?_ | exact mask_sub hk rfl
    | with_reducible refine Within.ite ?_ ?_ | split | dsimp -proj only)

theorem execCanBusIntegrate_within {K : Nat} {b s : State} {a1} (hk : K &&& 2308094809027379200 = 2308094809027379200) (h : Within K b s) :
    WithinR K b (execCanBusIntegrate a1 s) := by
  unfold execCanBusIntegrate
  repeat' (first
    | with_reducible refine WithinR.next ?_ | with_reducible refine WithinR.ite ?_ ?_ | with_reducible assumption
    | with_reducible refine Within.wr (i := 51) (by simp [Blk_ite]) (by decide) ?_ ?_ ?_ | exact mask_sub hk rfl
    | with_reducible refine Within.ite ?_ ?_ | split | dsimp -proj only)

theorem execDioRawTransition_within {K : Nat} {b s : State} {a1 a2} (hk : K &&& 2306968909121060864 = 2306968909121060864) (h : Within K b s) :
    WithinR K b (execDioRawTransition a1 a2 s) := by
  unfold execDioRawTransition
  repeat' (first
    | with_reducible refine WithinR.next ?_ | with_reducible refine WithinR.ite ?_ ?_ | with_reducible assumption
    | with_reducible refine Within.wrB (i := 50) (by simp [Blk_ite]) (by decide) ?_ ?_ ?_
    | with_reducible refine State_setDio_within ?_ ?_ | exact mask_sub hk rfl | with_reducible refine Within.ite ?_ ?_
    | split | dsimp -proj only)

theorem execRcFieldRead_within {K : Nat} {b s : State} {a1 a2} (hk : K &&& 27670114461296885695 = 27670114461296885695) (h : Within K b s) :
    WithinR K b (execRcFieldRead a1 a2 s) := by
  unfold execRcFieldRead
  repeat' (first
    | with_reducible refine WithinR.next ?_ | with_reducible refine WithinR.ite ?_ ?_ | with_reducible assumption
    | with_reducible refine bridle_within ?_ ?_ | exact mask_sub hk rfl | with_reducible refine Within.ite ?_ ?_
    | split | dsimp -proj only)

theorem execDioEdgeCycRead_within {K : Nat} {b s : State} {a1} (hk : K &&& 2306968909120536832 = 2306968909120536832) (h : Within K b s) :
    WithinR K b (execDioEdgeCycRead a1 s) := by
  unfold execDioEdgeCycRead
  repeat' (first
    | with_reducible refine WithinR.next ?_ | with_reducible refine WithinR.ite ?_ ?_ | with_reducible assumption
    | with_reducible refine dioEdgeLatch_within ?_ ?_ | with_reducible refine State_status_within ?_ ?_
    | exact mask_sub hk rfl | with_reducible refine Within.ite ?_ ?_ | split | dsimp -proj only)

theorem execLatControlWindow_within {K : Nat} {b s : State} (hk : K &&& 33554944 = 33554944) (h : Within K b s) :
    WithinR K b (execLatControlWindow s) := by
  unfold execLatControlWindow
  repeat' (first
    | with_reducible refine WithinR.next ?_ | with_reducible refine WithinR.ite ?_ ?_ | with_reducible assumption
    | with_reducible refine latWindowRing_within ?_ ?_ | with_reducible refine Within.forN (fun _ _ _ _ => ?_) ?_
    | exact mask_sub hk rfl | with_reducible refine Within.ite ?_ ?_ | split | dsimp -proj only
    | with_reducible refine Within.u_lat ?_ ?_)

theorem execXlResponseRx_within {K : Nat} {b s : State} {a1 a2 a3} (hk : K &&& 2454461801211887872 = 2454461801211887872) (h : Within K b s) :
    WithinR K b (execXlResponseRx a1 a2 a3 s) := by
  unfold execXlResponseRx
  repeat' (first
    | with_reducible refine WithinR.next ?_ | with_reducible refine WithinR.ite ?_ ?_ | with_reducible assumption
    | with_reducible refine txEnd_within ?_ ?_ | with_reducible refine outBusySync_within ?_ ?_ | exact mask_sub hk rfl
    | with_reducible refine Within.ite ?_ ?_ | split | dsimp -proj only | with_reducible refine Within.u_br ?_ ?_)

theorem execXlPostedAckRx_within {K : Nat} {b s : State} {a1} (hk : K &&& 20759377680158169602 = 20759377680158169602) (h : Within K b s) :
    WithinR K b (execXlPostedAckRx a1 s) := by
  unfold execXlPostedAckRx
  repeat' (first
    | with_reducible refine WithinR.next ?_ | with_reducible refine WithinR.ite ?_ ?_ | with_reducible assumption
    | with_reducible refine postApplied_within ?_ ?_ | with_reducible refine Within.forN (fun _ _ _ _ => ?_) ?_
    | exact mask_sub hk rfl | with_reducible refine Within.ite ?_ ?_ | split | dsimp -proj only)

theorem execCheckpointRx_within {K : Nat} {b s : State} {a1 a2 a3} (hk : K &&& 2314850225648304128 = 2314850225648304128) (h : Within K b s) :
    WithinR K b (execCheckpointRx a1 a2 a3 s) := by
  unfold execCheckpointRx
  repeat' (first
    | with_reducible refine WithinR.next ?_ | with_reducible refine WithinR.ite ?_ ?_ | with_reducible assumption
    | with_reducible refine Within.wr (i := 53) (by simp [Blk_ite]) (by decide) ?_ ?_ ?_
    | with_reducible refine State_setPlot_within ?_ ?_ | exact mask_sub hk rfl | with_reducible refine Within.ite ?_ ?_
    | split | dsimp -proj only)

theorem execMirrorResetRx_within {K : Nat} {b s : State} {a1} (hk : K &&& 2097152 = 2097152) (h : Within K b s) :
    WithinR K b (execMirrorResetRx a1 s) := by
  unfold execMirrorResetRx
  repeat' (first
    | with_reducible refine WithinR.next ?_ | with_reducible refine WithinR.ite ?_ ?_ | with_reducible assumption
    | with_reducible refine mirrorResetRx_within ?_ ?_ | exact mask_sub hk rfl | with_reducible refine Within.ite ?_ ?_
    | split | dsimp -proj only)

theorem execDormancyEntryComplete_within {K : Nat} {b s : State} (hk : K &&& 27670114083338222130 = 27670114083338222130) (h : Within K b s) :
    WithinR K b (execDormancyEntryComplete s) := by
  unfold execDormancyEntryComplete
  repeat' (first
    | with_reducible refine WithinR.next ?_ | with_reducible refine WithinR.ite ?_ ?_ | with_reducible assumption
    | with_reducible refine subSync_within ?_ ?_ | with_reducible refine canSyncAll_within ?_ ?_
    | with_reducible refine State_dropMem_within ?_ ?_ | with_reducible refine railsTo_within ?_ ?_
    | with_reducible refine resetSafe_within ?_ ?_ | with_reducible refine resetCore_within ?_ ?_
    | exact mask_sub hk rfl | with_reducible refine Within.ite ?_ ?_ | split | dsimp -proj only
    | with_reducible refine Within.u_girth_partner_retain ?_ ?_)

theorem execShutdownComplete_within {K : Nat} {b s : State} (hk : K &&& 36893488147419103231 = 36893488147419103231) (h : Within K b s) :
    WithinR K b (execShutdownComplete s) := by
  unfold execShutdownComplete
  repeat' (first
    | with_reducible refine WithinR.next ?_ | with_reducible refine WithinR.ite ?_ ?_ | with_reducible assumption
    | with_reducible refine reseat_within ?_ ?_ | exact mask_sub hk rfl | with_reducible refine Within.ite ?_ ?_
    | split | dsimp -proj only)

theorem execStitchAddressApply_within {K : Nat} {b s : State} {a1} (hk : K &&& 8589934592 = 8589934592) (h : Within K b s) :
    WithinR K b (execStitchAddressApply a1 s) := by
  unfold execStitchAddressApply
  repeat' (first
    | with_reducible refine WithinR.next ?_ | with_reducible refine WithinR.ite ?_ ?_ | with_reducible assumption
    | exact mask_sub hk rfl | with_reducible refine Within.ite ?_ ?_ | split | dsimp -proj only
    | with_reducible refine Within.u_ses ?_ ?_)

theorem execSvcVbusChange_within {K : Nat} {b s : State} {a1 a2} (hk : K &&& 23058428429967735443 = 23058428429967735443) (h : Within K b s) :
    WithinR K b (execSvcVbusChange a1 a2 s) := by
  unfold execSvcVbusChange
  repeat' (first
    | with_reducible refine WithinR.next ?_ | with_reducible refine WithinR.ite ?_ ?_ | with_reducible assumption
    | with_reducible refine vbusChange_within ?_ ?_ | exact mask_sub hk rfl | with_reducible refine Within.ite ?_ ?_
    | split | dsimp -proj only)

/-- The mask of a list of parts. -/
def partsMask (l : List Part) : Nat := l.foldl (fun m p => m ||| 2 ^ p.bit) 0

/-- Every command changes at most the parts that `Instr.parts` names, and keeps the canonical forms. -/
theorem exec_within (c : Instr) (s : State) : WithinR (partsMask c.parts) s (exec c s) := by
  cases c
  case vinPowerOn => exact execVinPowerOn_within (by simp only [Instr.parts]; decide) (Within.refl _ s)
  case powerFailWarning => exact execPowerFailWarning_within (by simp only [Instr.parts]; decide) (Within.refl _ s)
  case holdupOk => exact execHoldupOk_within (by simp only [Instr.parts]; decide) (Within.refl _ s)
  case vinPathClose => exact execVinPathClose_within (by simp only [Instr.parts]; decide) (Within.refl _ s)
  case feedUndervoltage => exact execFeedUndervoltage_within (by simp only [Instr.parts]; decide) (Within.refl _ s)
  case feedRestored => exact execFeedRestored_within (by simp only [Instr.parts]; decide) (Within.refl _ s)
  case railWarn => exact execRailWarn_within (by simp only [Instr.parts]; decide) (Within.refl _ s)
  case railFault => exact execRailFault_within (by simp only [Instr.parts]; decide) (Within.refl _ s)
  case clockFault => exact execClockFault_within (by simp only [Instr.parts]; decide) (Within.refl _ s)
  case presNAssert => exact execPresNAssert_within (by simp only [Instr.parts]; decide) (Within.refl _ s)
  case lsExtSense => exact execLsExtSense_within (by simp only [Instr.parts]; decide) (Within.refl _ s)
  case seatingEnd => exact execSeatingEnd_within (by simp only [Instr.parts]; decide) (Within.refl _ s)
  case presNDeassert => exact execPresNDeassert_within (by simp only [Instr.parts]; decide) (Within.refl _ s)
  case seatChange => exact execSeatChange_within (by simp only [Instr.parts]; decide) (Within.refl _ s)
  case ejectNAssert => exact execEjectNAssert_within (by simp only [Instr.parts]; decide) (Within.refl _ s)
  case ejectNDeassert => exact execEjectNDeassert_within (by simp only [Instr.parts]; decide) (Within.refl _ s)
  case handoffSafeLsOpen => exact execHandoffSafeLsOpen_within (by simp only [Instr.parts]; decide) (Within.refl _ s)
  case handoffTimeout => exact execHandoffTimeout_within (by simp only [Instr.parts]; decide) (Within.refl _ s)
  case bootComplete => exact execBootComplete_within (by simp only [Instr.parts]; decide) (Within.refl _ s)
  case bootTimeout => exact execBootTimeout_within (by simp only [Instr.parts]; decide) (Within.refl _ s)
  case modeReqRun => exact execModeReqRun_within (by simp only [Instr.parts]; decide) (Within.refl _ s)
  case modeReqService => exact execModeReqService_within (by simp only [Instr.parts]; decide) (Within.refl _ s)
  case modeReqBoot => exact execModeReqBoot_within (by simp only [Instr.parts]; decide) (Within.refl _ s)
  case modeReqDormancy => exact execModeReqDormancy_within (by simp only [Instr.parts]; decide) (Within.refl _ s)
  case modeReqHandoff => exact execModeReqHandoff_within (by simp only [Instr.parts]; decide) (Within.refl _ s)
  case wakeEvent => exact execWakeEvent_within (by simp only [Instr.parts]; decide) (Within.refl _ s)
  case dormTimerExpiry => exact execDormTimerExpiry_within (by simp only [Instr.parts]; decide) (Within.refl _ s)
  case holdRestart => exact execHoldRestart_within (by simp only [Instr.parts]; decide) (Within.refl _ s)
  case coldRestartRetry => exact execColdRestartRetry_within (by simp only [Instr.parts]; decide) (Within.refl _ s)
  case ac0SupervisorFault => exact execAc0SupervisorFault_within (by simp only [Instr.parts]; decide) (Within.refl _ s)
  case energyIntegrate => exact execEnergyIntegrate_within (by simp only [Instr.parts]; decide) (Within.refl _ s)
  case energyLoRead => exact execEnergyLoRead_within (by simp only [Instr.parts]; decide) (Within.refl _ s)
  case energyClr => exact execEnergyClr_within (by simp only [Instr.parts]; decide) (Within.refl _ s)
  case blkRst => exact execBlkRst_within (by simp only [Instr.parts]; decide) (Within.refl _ s)
  case blkResetRelease => exact execBlkResetRelease_within (by simp only [Instr.parts]; decide) (Within.refl _ s)
  case handshakeTimeout => exact execHandshakeTimeout_within (by simp only [Instr.parts]; decide) (Within.refl _ s)
  case d2dLinkLoss => exact execD2dLinkLoss_within (by simp only [Instr.parts]; decide) (Within.refl _ s)
  case misalignedAccess => exact execMisalignedAccess_within (by simp only [Instr.parts]; decide) (Within.refl _ s)
  case reservedRangeAccess => exact execReservedRangeAccess_within (by simp only [Instr.parts]; decide) (Within.refl _ s)
  case xipWrite => exact execXipWrite_within (by simp only [Instr.parts]; decide) (Within.refl _ s)
  case resetDomainAccess => exact execResetDomainAccess_within (by simp only [Instr.parts]; decide) (Within.refl _ s)
  case registerWrite => exact execRegisterWrite_within (by simp only [Instr.parts]; decide) (Within.refl _ s)
  case heartbeatTx => exact execHeartbeatTx_within (by simp only [Instr.parts]; decide) (Within.refl _ s)
  case heartbeatRx => exact execHeartbeatRx_within (by simp only [Instr.parts]; decide) (Within.refl _ s)
  case heartbeatTimeout => exact execHeartbeatTimeout_within (by simp only [Instr.parts]; decide) (Within.refl _ s)
  case partnerHoldTimeout => exact execPartnerHoldTimeout_within (by simp only [Instr.parts]; decide) (Within.refl _ s)
  case slsArmRaise => exact execSlsArmRaise_within (by simp only [Instr.parts]; decide) (Within.refl _ s)
  case cycleBoundary => exact execCycleBoundary_within (by simp only [Instr.parts]; decide) (Within.refl _ s)
  case netrefRx => exact execNetrefRx_within (by simp only [Instr.parts]; decide) (Within.refl _ s)
  case lockAcquire => exact execLockAcquire_within (by simp only [Instr.parts]; decide) (Within.refl _ s)
  case lockLoss => exact execLockLoss_within (by simp only [Instr.parts]; decide) (Within.refl _ s)
  case netTimeout => exact execNetTimeout_within (by simp only [Instr.parts]; decide) (Within.refl _ s)
  case slewDone => exact execSlewDone_within (by simp only [Instr.parts]; decide) (Within.refl _ s)
  case holdoverLimit => exact execHoldoverLimit_within (by simp only [Instr.parts]; decide) (Within.refl _ s)
  case trlNowRead => exact execTrlNowRead_within (by simp only [Instr.parts]; decide) (Within.refl _ s)
  case slotCtlWrite => exact execSlotCtlWrite_within (by simp only [Instr.parts]; decide) (Within.refl _ s)
  case trlPartWrite => exact execTrlPartWrite_within (by simp only [Instr.parts]; decide) (Within.refl _ s)
  case slotFire => exact execSlotFire_within (by simp only [Instr.parts]; decide) (Within.refl _ s)
  case mark => exact execMark_within (by simp only [Instr.parts]; decide) (Within.refl _ s)
  case lsOn => exact execLsOn_within (by simp only [Instr.parts]; decide) (Within.refl _ s)
  case lsOff => exact execLsOff_within (by simp only [Instr.parts]; decide) (Within.refl _ s)
  case dioOn => exact execDioOn_within (by simp only [Instr.parts]; decide) (Within.refl _ s)
  case dioOff => exact execDioOff_within (by simp only [Instr.parts]; decide) (Within.refl _ s)
  case dioPulse => exact execDioPulse_within (by simp only [Instr.parts]; decide) (Within.refl _ s)
  case dioPulseEnd => exact execDioPulseEnd_within (by simp only [Instr.parts]; decide) (Within.refl _ s)
  case canLaunch => exact execCanLaunch_within (by simp only [Instr.parts]; decide) (Within.refl _ s)
  case furrowPost => exact execFurrowPost_within (by simp only [Instr.parts]; decide) (Within.refl _ s)
  case powClose => exact execPowClose_within (by simp only [Instr.parts]; decide) (Within.refl _ s)
  case powOpen => exact execPowOpen_within (by simp only [Instr.parts]; decide) (Within.refl _ s)
  case latTrigger => exact execLatTrigger_within (by simp only [Instr.parts]; decide) (Within.refl _ s)
  case msrPoint => exact execMsrPoint_within (by simp only [Instr.parts]; decide) (Within.refl _ s)
  case tilthWindow => exact execTilthWindow_within (by simp only [Instr.parts]; decide) (Within.refl _ s)
  case netrefSend => exact execNetrefSend_within (by simp only [Instr.parts]; decide) (Within.refl _ s)
  case powCfgWrite => exact execPowCfgWrite_within (by simp only [Instr.parts]; decide) (Within.refl _ s)
  case powOpWrite => exact execPowOpWrite_within (by simp only [Instr.parts]; decide) (Within.refl _ s)
  case powRelWrite => exact execPowRelWrite_within (by simp only [Instr.parts]; decide) (Within.refl _ s)
  case powAuxTimeout => exact execPowAuxTimeout_within (by simp only [Instr.parts]; decide) (Within.refl _ s)
  case powLearnSave => exact execPowLearnSave_within (by simp only [Instr.parts]; decide) (Within.refl _ s)
  case ptOffsetUpdate => exact execPtOffsetUpdate_within (by simp only [Instr.parts]; decide) (Within.refl _ s)
  case ptStepApply => exact execPtStepApply_within (by simp only [Instr.parts]; decide) (Within.refl _ s)
  case ptSetGo => exact execPtSetGo_within (by simp only [Instr.parts]; decide) (Within.refl _ s)
  case ptHoldoverTimeout => exact execPtHoldoverTimeout_within (by simp only [Instr.parts]; decide) (Within.refl _ s)
  case ptNowRead => exact execPtNowRead_within (by simp only [Instr.parts]; decide) (Within.refl _ s)
  case ethFrameRx => exact execEthFrameRx_within (by simp only [Instr.parts]; decide) (Within.refl _ s)
  case ethFrameTx => exact execEthFrameTx_within (by simp only [Instr.parts]; decide) (Within.refl _ s)
  case ethLaunch => exact execEthLaunch_within (by simp only [Instr.parts]; decide) (Within.refl _ s)
  case ethTxtsRead => exact execEthTxtsRead_within (by simp only [Instr.parts]; decide) (Within.refl _ s)
  case canrefSync => exact execCanrefSync_within (by simp only [Instr.parts]; decide) (Within.refl _ s)
  case canrefFup => exact execCanrefFup_within (by simp only [Instr.parts]; decide) (Within.refl _ s)
  case canrefFupAbort => exact execCanrefFupAbort_within (by simp only [Instr.parts]; decide) (Within.refl _ s)
  case linkUp => exact execLinkUp_within (by simp only [Instr.parts]; decide) (Within.refl _ s)
  case linkLoss => exact execLinkLoss_within (by simp only [Instr.parts]; decide) (Within.refl _ s)
  case trainOriginate => exact execTrainOriginate_within (by simp only [Instr.parts]; decide) (Within.refl _ s)
  case trainRx => exact execTrainRx_within (by simp only [Instr.parts]; decide) (Within.refl _ s)
  case setDeadline => exact execSetDeadline_within (by simp only [Instr.parts]; decide) (Within.refl _ s)
  case triggerRx => exact execTriggerRx_within (by simp only [Instr.parts]; decide) (Within.refl _ s)
  case triggerAbsent => exact execTriggerAbsent_within (by simp only [Instr.parts]; decide) (Within.refl _ s)
  case mastershipListenEnd => exact execMastershipListenEnd_within (by simp only [Instr.parts]; decide) (Within.refl _ s)
  case enumForce => exact execEnumForce_within (by simp only [Instr.parts]; decide) (Within.refl _ s)
  case enumFill => exact execEnumFill_within (by simp only [Instr.parts]; decide) (Within.refl _ s)
  case remeasure => exact execRemeasure_within (by simp only [Instr.parts]; decide) (Within.refl _ s)
  case acceptMap => exact execAcceptMap_within (by simp only [Instr.parts]; decide) (Within.refl _ s)
  case pass => exact execPass_within (by simp only [Instr.parts]; decide) (Within.refl _ s)
  case enumEndRx => exact execEnumEndRx_within (by simp only [Instr.parts]; decide) (Within.refl _ s)
  case enumTimeout => exact execEnumTimeout_within (by simp only [Instr.parts]; decide) (Within.refl _ s)
  case echoRx => exact execEchoRx_within (by simp only [Instr.parts]; decide) (Within.refl _ s)
  case readRspRx => exact execReadRspRx_within (by simp only [Instr.parts]; decide) (Within.refl _ s)
  case writeAckRx => exact execWriteAckRx_within (by simp only [Instr.parts]; decide) (Within.refl _ s)
  case nackRx c e n v => exact execNackRx_within (a1 := c) (a2 := e) (a3 := n) (a4 := v) (by simp only [Instr.parts]; decide) (Within.refl _ s)
  case linkDownRx => exact execLinkDownRx_within (by simp only [Instr.parts]; decide) (Within.refl _ s)
  case ringPassRequest => exact execRingPassRequest_within (by simp only [Instr.parts]; decide) (Within.refl _ s)
  case ringPassAcceptRx => exact execRingPassAcceptRx_within (by simp only [Instr.parts]; decide) (Within.refl _ s)
  case ringPassTimeout => exact execRingPassTimeout_within (by simp only [Instr.parts]; decide) (Within.refl _ s)
  case msrSyncSend => exact execMsrSyncSend_within (by simp only [Instr.parts]; decide) (Within.refl _ s)
  case msrFrameRx => exact execMsrFrameRx_within (by simp only [Instr.parts]; decide) (Within.refl _ s)
  case msrConvDeadline => exact execMsrConvDeadline_within (by simp only [Instr.parts]; decide) (Within.refl _ s)
  case msrCtrlReplyRx => exact execMsrCtrlReplyRx_within (by simp only [Instr.parts]; decide) (Within.refl _ s)
  case msrRemeasure => exact execMsrRemeasure_within (by simp only [Instr.parts]; decide) (Within.refl _ s)
  case capCtlWrite => exact execCapCtlWrite_within (by simp only [Instr.parts]; decide) (Within.refl _ s)
  case dumpDone => exact execDumpDone_within (by simp only [Instr.parts]; decide) (Within.refl _ s)
  case qWr => exact execQWr_within (by simp only [Instr.parts]; decide) (Within.refl _ s)
  case qWrEnd => exact execQWrEnd_within (by simp only [Instr.parts]; decide) (Within.refl _ s)
  case qPctlPrio => exact execQPctlPrio_within (by simp only [Instr.parts]; decide) (Within.refl _ s)
  case poisonNext => exact execPoisonNext_within (by simp only [Instr.parts]; decide) (Within.refl _ s)
  case abortCmd => exact execAbortCmd_within (by simp only [Instr.parts]; decide) (Within.refl _ s)
  case flush => exact execFlush_within (by simp only [Instr.parts]; decide) (Within.refl _ s)
  case qNextRead => exact execQNextRead_within (by simp only [Instr.parts]; decide) (Within.refl _ s)
  case qDataRead => exact execQDataRead_within (by simp only [Instr.parts]; decide) (Within.refl _ s)
  case hwPacketWrite => exact execHwPacketWrite_within (by simp only [Instr.parts]; decide) (Within.refl _ s)
  case bankSwap => exact execBankSwap_within (by simp only [Instr.parts]; decide) (Within.refl _ s)
  case spillClose => exact execSpillClose_within (by simp only [Instr.parts]; decide) (Within.refl _ s)
  case spillDone => exact execSpillDone_within (by simp only [Instr.parts]; decide) (Within.refl _ s)
  case openTmo => exact execOpenTmo_within (by simp only [Instr.parts]; decide) (Within.refl _ s)
  case qEnable => exact execQEnable_within (by simp only [Instr.parts]; decide) (Within.refl _ s)
  case qDisable => exact execQDisable_within (by simp only [Instr.parts]; decide) (Within.refl _ s)
  case tilthStart => exact execTilthStart_within (by simp only [Instr.parts]; decide) (Within.refl _ s)
  case tilthFirstPass => exact execTilthFirstPass_within (by simp only [Instr.parts]; decide) (Within.refl _ s)
  case tilthSecondPass => exact execTilthSecondPass_within (by simp only [Instr.parts]; decide) (Within.refl _ s)
  case cycleWindowClose => exact execCycleWindowClose_within (by simp only [Instr.parts]; decide) (Within.refl _ s)
  case statWindowClose => exact execStatWindowClose_within (by simp only [Instr.parts]; decide) (Within.refl _ s)
  case zWindowClose => exact execZWindowClose_within (by simp only [Instr.parts]; decide) (Within.refl _ s)
  case bankPublish => exact execBankPublish_within (by simp only [Instr.parts]; decide) (Within.refl _ s)
  case commit => exact execCommit_within (by simp only [Instr.parts]; decide) (Within.refl _ s)
  case tilCommitAbort => exact execTilCommitAbort_within (by simp only [Instr.parts]; decide) (Within.refl _ s)
  case tilCommitApply => exact execTilCommitApply_within (by simp only [Instr.parts]; decide) (Within.refl _ s)
  case tilEnable => exact execTilEnable_within (by simp only [Instr.parts]; decide) (Within.refl _ s)
  case tilUcAddrWrite => exact execTilUcAddrWrite_within (by simp only [Instr.parts]; decide) (Within.refl _ s)
  case tilUcDataWrite => exact execTilUcDataWrite_within (by simp only [Instr.parts]; decide) (Within.refl _ s)
  case tilUcLock => exact execTilUcLock_within (by simp only [Instr.parts]; decide) (Within.refl _ s)
  case sweepWindowClose => exact execSweepWindowClose_within (by simp only [Instr.parts]; decide) (Within.refl _ s)
  case pommelEvaluate => exact execPommelEvaluate_within (by simp only [Instr.parts]; decide) (Within.refl _ s)
  case tempDueCheck => exact execTempDueCheck_within (by simp only [Instr.parts]; decide) (Within.refl _ s)
  case setstale => exact execSetstale_within (by simp only [Instr.parts]; decide) (Within.refl _ s)
  case lockstepMismatch => exact execLockstepMismatch_within (by simp only [Instr.parts]; decide) (Within.refl _ s)
  case delayRegParity => exact execDelayRegParity_within (by simp only [Instr.parts]; decide) (Within.refl _ s)
  case injectionPass => exact execInjectionPass_within (by simp only [Instr.parts]; decide) (Within.refl _ s)
  case peerCheck => exact execPeerCheck_within (by simp only [Instr.parts]; decide) (Within.refl _ s)
  case sramEccError => exact execSramEccError_within (by simp only [Instr.parts]; decide) (Within.refl _ s)
  case tripReset => exact execTripReset_within (by simp only [Instr.parts]; decide) (Within.refl _ s)
  case manualTrip => exact execManualTrip_within (by simp only [Instr.parts]; decide) (Within.refl _ s)
  case paramWrite => exact execParamWrite_within (by simp only [Instr.parts]; decide) (Within.refl _ s)
  case paramRead => exact execParamRead_within (by simp only [Instr.parts]; decide) (Within.refl _ s)
  case injectNow => exact execInjectNow_within (by simp only [Instr.parts]; decide) (Within.refl _ s)
  case mirrorTripRx => exact execMirrorTripRx_within (by simp only [Instr.parts]; decide) (Within.refl _ s)
  case suspectReportRx => exact execSuspectReportRx_within (by simp only [Instr.parts]; decide) (Within.refl _ s)
  case slsOvercurrent => exact execSlsOvercurrent_within (by simp only [Instr.parts]; decide) (Within.refl _ s)
  case slsClose => exact execSlsClose_within (by simp only [Instr.parts]; decide) (Within.refl _ s)
  case lsReqOn => exact execLsReqOn_within (by simp only [Instr.parts]; decide) (Within.refl _ s)
  case lsClear => exact execLsClear_within (by simp only [Instr.parts]; decide) (Within.refl _ s)
  case segmentEnd => exact execSegmentEnd_within (by simp only [Instr.parts]; decide) (Within.refl _ s)
  case sc => exact execSc_within (by simp only [Instr.parts]; decide) (Within.refl _ s)
  case limTrip => exact execLimTrip_within (by simp only [Instr.parts]; decide) (Within.refl _ s)
  case lsSample => exact execLsSample_within (by simp only [Instr.parts]; decide) (Within.refl _ s)
  case lsRetry => exact execLsRetry_within (by simp only [Instr.parts]; decide) (Within.refl _ s)
  case retryCountReset => exact execRetryCountReset_within (by simp only [Instr.parts]; decide) (Within.refl _ s)
  case staggerSwitchOn => exact execStaggerSwitchOn_within (by simp only [Instr.parts]; decide) (Within.refl _ s)
  case shed => exact execShed_within (by simp only [Instr.parts]; decide) (Within.refl _ s)
  case openOn => exact execOpenOn_within (by simp only [Instr.parts]; decide) (Within.refl _ s)
  case openOff => exact execOpenOff_within (by simp only [Instr.parts]; decide) (Within.refl _ s)
  case outHigh => exact execOutHigh_within (by simp only [Instr.parts]; decide) (Within.refl _ s)
  case bankWarn => exact execBankWarn_within (by simp only [Instr.parts]; decide) (Within.refl _ s)
  case bankHot => exact execBankHot_within (by simp only [Instr.parts]; decide) (Within.refl _ s)
  case bankNormal => exact execBankNormal_within (by simp only [Instr.parts]; decide) (Within.refl _ s)
  case lsServiceOn => exact execLsServiceOn_within (by simp only [Instr.parts]; decide) (Within.refl _ s)
  case lsServiceOff => exact execLsServiceOff_within (by simp only [Instr.parts]; decide) (Within.refl _ s)
  case lsServiceExpiry => exact execLsServiceExpiry_within (by simp only [Instr.parts]; decide) (Within.refl _ s)
  case lsPchk => exact execLsPchk_within (by simp only [Instr.parts]; decide) (Within.refl _ s)
  case lsProfWrite => exact execLsProfWrite_within (by simp only [Instr.parts]; decide) (Within.refl _ s)
  case lsParallelSet => exact execLsParallelSet_within (by simp only [Instr.parts]; decide) (Within.refl _ s)
  case lsReleaseRequest => exact execLsReleaseRequest_within (by simp only [Instr.parts]; decide) (Within.refl _ s)
  case lsReleaseConfirm => exact execLsReleaseConfirm_within (by simp only [Instr.parts]; decide) (Within.refl _ s)
  case lsOverlapEnd => exact execLsOverlapEnd_within (by simp only [Instr.parts]; decide) (Within.refl _ s)
  case relFail => exact execRelFail_within (by simp only [Instr.parts]; decide) (Within.refl _ s)
  case wdogFrameRx => exact execWdogFrameRx_within (by simp only [Instr.parts]; decide) (Within.refl _ s)
  case streamTimeout => exact execStreamTimeout_within (by simp only [Instr.parts]; decide) (Within.refl _ s)
  case holdExpiry => exact execHoldExpiry_within (by simp only [Instr.parts]; decide) (Within.refl _ s)
  case partnerTmoExpiry => exact execPartnerTmoExpiry_within (by simp only [Instr.parts]; decide) (Within.refl _ s)
  case reclaimExpiry => exact execReclaimExpiry_within (by simp only [Instr.parts]; decide) (Within.refl _ s)
  case strRelLs => exact execStrRelLs_within (by simp only [Instr.parts]; decide) (Within.refl _ s)
  case strRelDio => exact execStrRelDio_within (by simp only [Instr.parts]; decide) (Within.refl _ s)
  case dioEdgeAccept => exact execDioEdgeAccept_within (by simp only [Instr.parts]; decide) (Within.refl _ s)
  case wireBreak => exact execWireBreak_within (by simp only [Instr.parts]; decide) (Within.refl _ s)
  case wireRestored => exact execWireRestored_within (by simp only [Instr.parts]; decide) (Within.refl _ s)
  case dioReqOn => exact execDioReqOn_within (by simp only [Instr.parts]; decide) (Within.refl _ s)
  case dioClear => exact execDioClear_within (by simp only [Instr.parts]; decide) (Within.refl _ s)
  case dioLimit => exact execDioLimit_within (by simp only [Instr.parts]; decide) (Within.refl _ s)
  case dioTherm => exact execDioTherm_within (by simp only [Instr.parts]; decide) (Within.refl _ s)
  case dioRetry => exact execDioRetry_within (by simp only [Instr.parts]; decide) (Within.refl _ s)
  case dioReadbackFault => exact execDioReadbackFault_within (by simp only [Instr.parts]; decide) (Within.refl _ s)
  case dioOpenOn => exact execDioOpenOn_within (by simp only [Instr.parts]; decide) (Within.refl _ s)
  case dioServiceOn => exact execDioServiceOn_within (by simp only [Instr.parts]; decide) (Within.refl _ s)
  case dioServiceExpiry => exact execDioServiceExpiry_within (by simp only [Instr.parts]; decide) (Within.refl _ s)
  case fclChange => exact execFclChange_within (by simp only [Instr.parts]; decide) (Within.refl _ s)
  case canFrameRx => exact execCanFrameRx_within (by simp only [Instr.parts]; decide) (Within.refl _ s)
  case canTxbReq => exact execCanTxbReq_within (by simp only [Instr.parts]; decide) (Within.refl _ s)
  case canTxbAbort => exact execCanTxbAbort_within (by simp only [Instr.parts]; decide) (Within.refl _ s)
  case canTxDone => exact execCanTxDone_within (by simp only [Instr.parts]; decide) (Within.refl _ s)
  case canError => exact execCanError_within (by simp only [Instr.parts]; decide) (Within.refl _ s)
  case recover => exact execRecover_within (by simp only [Instr.parts]; decide) (Within.refl _ s)
  case recoveryComplete => exact execRecoveryComplete_within (by simp only [Instr.parts]; decide) (Within.refl _ s)
  case abortAll => exact execAbortAll_within (by simp only [Instr.parts]; decide) (Within.refl _ s)
  case ttMiss => exact execTtMiss_within (by simp only [Instr.parts]; decide) (Within.refl _ s)
  case busDom => exact execBusDom_within (by simp only [Instr.parts]; decide) (Within.refl _ s)
  case selectiveWake => exact execSelectiveWake_within (by simp only [Instr.parts]; decide) (Within.refl _ s)
  case roundStart => exact execRoundStart_within (by simp only [Instr.parts]; decide) (Within.refl _ s)
  case tokenRx => exact execTokenRx_within (by simp only [Instr.parts]; decide) (Within.refl _ s)
  case commitRx => exact execCommitRx_within (by simp only [Instr.parts]; decide) (Within.refl _ s)
  case abortRx => exact execAbortRx_within (by simp only [Instr.parts]; decide) (Within.refl _ s)
  case wakeRx => exact execWakeRx_within (by simp only [Instr.parts]; decide) (Within.refl _ s)
  case roundTmo => exact execRoundTmo_within (by simp only [Instr.parts]; decide) (Within.refl _ s)
  case commitWindowEnd => exact execCommitWindowEnd_within (by simp only [Instr.parts]; decide) (Within.refl _ s)
  case wakeLineLow => exact execWakeLineLow_within (by simp only [Instr.parts]; decide) (Within.refl _ s)
  case wakeLineHigh => exact execWakeLineHigh_within (by simp only [Instr.parts]; decide) (Within.refl _ s)
  case pulse => exact execPulse_within (by simp only [Instr.parts]; decide) (Within.refl _ s)
  case wakeframe => exact execWakeframe_within (by simp only [Instr.parts]; decide) (Within.refl _ s)
  case wakePulseEnd => exact execWakePulseEnd_within (by simp only [Instr.parts]; decide) (Within.refl _ s)
  case bridleRead => exact execBridleRead_within (by simp only [Instr.parts]; decide) (Within.refl _ s)
  case bridleNonpostedWrite => exact execBridleNonpostedWrite_within (by simp only [Instr.parts]; decide) (Within.refl _ s)
  case bridlePostedWrite => exact execBridlePostedWrite_within (by simp only [Instr.parts]; decide) (Within.refl _ s)
  case rspTimeout => exact execRspTimeout_within (by simp only [Instr.parts]; decide) (Within.refl _ s)
  case retryRx => exact execRetryRx_within (by simp only [Instr.parts]; decide) (Within.refl _ s)
  case xlInboundRequest => exact execXlInboundRequest_within (by simp only [Instr.parts]; decide) (Within.refl _ s)
  case failureNoticeRx => exact execFailureNoticeRx_within (by simp only [Instr.parts]; decide) (Within.refl _ s)
  case xlLinkLoss => exact execXlLinkLoss_within (by simp only [Instr.parts]; decide) (Within.refl _ s)
  case fenceGo => exact execFenceGo_within (by simp only [Instr.parts]; decide) (Within.refl _ s)
  case fenceComplete => exact execFenceComplete_within (by simp only [Instr.parts]; decide) (Within.refl _ s)
  case stitchFence => exact execStitchFence_within (by simp only [Instr.parts]; decide) (Within.refl _ s)
  case gwCommit => exact execGwCommit_within (by simp only [Instr.parts]; decide) (Within.refl _ s)
  case gwTableActivate => exact execGwTableActivate_within (by simp only [Instr.parts]; decide) (Within.refl _ s)
  case gwPeriodExpiry => exact execGwPeriodExpiry_within (by simp only [Instr.parts]; decide) (Within.refl _ s)
  case gwInhibitEnd => exact execGwInhibitEnd_within (by simp only [Instr.parts]; decide) (Within.refl _ s)
  case gwSourceTimeout => exact execGwSourceTimeout_within (by simp only [Instr.parts]; decide) (Within.refl _ s)
  case openSession => exact execOpenSession_within (by simp only [Instr.parts]; decide) (Within.refl _ s)
  case read => exact execRead_within (by simp only [Instr.parts]; decide) (Within.refl _ s)
  case write => exact execWrite_within (by simp only [Instr.parts]; decide) (Within.refl _ s)
  case nop => exact execNop_within (by simp only [Instr.parts]; decide) (Within.refl _ s)
  case close => exact execClose_within (by simp only [Instr.parts]; decide) (Within.refl _ s)
  case clearModeRequest => exact execClearModeRequest_within (by simp only [Instr.parts]; decide) (Within.refl _ s)
  case sessionIdleTimeout => exact execSessionIdleTimeout_within (by simp only [Instr.parts]; decide) (Within.refl _ s)
  case assemblyTimeout => exact execAssemblyTimeout_within (by simp only [Instr.parts]; decide) (Within.refl _ s)
  case snapshotTimeout => exact execSnapshotTimeout_within (by simp only [Instr.parts]; decide) (Within.refl _ s)
  case canSegmentRx => exact execCanSegmentRx_within (by simp only [Instr.parts]; decide) (Within.refl _ s)
  case segmentTimeout => exact execSegmentTimeout_within (by simp only [Instr.parts]; decide) (Within.refl _ s)
  case localRequest => exact execLocalRequest_within (by simp only [Instr.parts]; decide) (Within.refl _ s)
  case plotAnswerRx => exact execPlotAnswerRx_within (by simp only [Instr.parts]; decide) (Within.refl _ s)
  case forwardTimeout => exact execForwardTimeout_within (by simp only [Instr.parts]; decide) (Within.refl _ s)
  case settingsStore => exact execSettingsStore_within (by simp only [Instr.parts]; decide) (Within.refl _ s)
  case settingsDefaults => exact execSettingsDefaults_within (by simp only [Instr.parts]; decide) (Within.refl _ s)
  case jobKindWrite => exact execJobKindWrite_within (by simp only [Instr.parts]; decide) (Within.refl _ s)
  case start => exact execStart_within (by simp only [Instr.parts]; decide) (Within.refl _ s)
  case suspend => exact execSuspend_within (by simp only [Instr.parts]; decide) (Within.refl _ s)
  case resume => exact execResume_within (by simp only [Instr.parts]; decide) (Within.refl _ s)
  case cancel => exact execCancel_within (by simp only [Instr.parts]; decide) (Within.refl _ s)
  case jobDequeue => exact execJobDequeue_within (by simp only [Instr.parts]; decide) (Within.refl _ s)
  case jobDone => exact execJobDone_within (by simp only [Instr.parts]; decide) (Within.refl _ s)
  case jobFailed => exact execJobFailed_within (by simp only [Instr.parts]; decide) (Within.refl _ s)
  case plotTablesCommit => exact execPlotTablesCommit_within (by simp only [Instr.parts]; decide) (Within.refl _ s)
  case windowBoundary => exact execWindowBoundary_within (by simp only [Instr.parts]; decide) (Within.refl _ s)
  case accessViolation => exact execAccessViolation_within (by simp only [Instr.parts]; decide) (Within.refl _ s)
  case pcWdogKick => exact execPcWdogKick_within (by simp only [Instr.parts]; decide) (Within.refl _ s)
  case plotWdogExpiry => exact execPlotWdogExpiry_within (by simp only [Instr.parts]; decide) (Within.refl _ s)
  case plotStart => exact execPlotStart_within (by simp only [Instr.parts]; decide) (Within.refl _ s)
  case plotStop => exact execPlotStop_within (by simp only [Instr.parts]; decide) (Within.refl _ s)
  case plotReset => exact execPlotReset_within (by simp only [Instr.parts]; decide) (Within.refl _ s)
  case resetDrainDone => exact execResetDrainDone_within (by simp only [Instr.parts]; decide) (Within.refl _ s)
  case freeze => exact execFreeze_within (by simp only [Instr.parts]; decide) (Within.refl _ s)
  case freezeDone => exact execFreezeDone_within (by simp only [Instr.parts]; decide) (Within.refl _ s)
  case thaw => exact execThaw_within (by simp only [Instr.parts]; decide) (Within.refl _ s)
  case checkpoint => exact execCheckpoint_within (by simp only [Instr.parts]; decide) (Within.refl _ s)
  case checkpointTimer => exact execCheckpointTimer_within (by simp only [Instr.parts]; decide) (Within.refl _ s)
  case imageRestore => exact execImageRestore_within (by simp only [Instr.parts]; decide) (Within.refl _ s)
  case migrateConfirmRx => exact execMigrateConfirmRx_within (by simp only [Instr.parts]; decide) (Within.refl _ s)
  case tamperDetect => exact execTamperDetect_within (by simp only [Instr.parts]; decide) (Within.refl _ s)
  case tamperEraseDone => exact execTamperEraseDone_within (by simp only [Instr.parts]; decide) (Within.refl _ s)
  case lifecycleMessage => exact execLifecycleMessage_within (by simp only [Instr.parts]; decide) (Within.refl _ s)
  case provision => exact execProvision_within (by simp only [Instr.parts]; decide) (Within.refl _ s)
  case debugToken => exact execDebugToken_within (by simp only [Instr.parts]; decide) (Within.refl _ s)
  case awlOpen => exact execAwlOpen_within (by simp only [Instr.parts]; decide) (Within.refl _ s)
  case debugClose => exact execDebugClose_within (by simp only [Instr.parts]; decide) (Within.refl _ s)
  case tokenExpiry => exact execTokenExpiry_within (by simp only [Instr.parts]; decide) (Within.refl _ s)
  case counterIncrement => exact execCounterIncrement_within (by simp only [Instr.parts]; decide) (Within.refl _ s)
  case graftBlockWrite => exact execGraftBlockWrite_within (by simp only [Instr.parts]; decide) (Within.refl _ s)
  case svcBlock => exact execSvcBlock_within (by simp only [Instr.parts]; decide) (Within.refl _ s)
  case bankEraseDone => exact execBankEraseDone_within (by simp only [Instr.parts]; decide) (Within.refl _ s)
  case activationProceed => exact execActivationProceed_within (by simp only [Instr.parts]; decide) (Within.refl _ s)
  case xlLinkTrained => exact execXlLinkTrained_within (by simp only [Instr.parts]; decide) (Within.refl _ s)
  case ethLinkUp => exact execEthLinkUp_within (by simp only [Instr.parts]; decide) (Within.refl _ s)
  case ethLinkDown => exact execEthLinkDown_within (by simp only [Instr.parts]; decide) (Within.refl _ s)
  case canBusIntegrate => exact execCanBusIntegrate_within (by simp only [Instr.parts]; decide) (Within.refl _ s)
  case dioRawTransition => exact execDioRawTransition_within (by simp only [Instr.parts]; decide) (Within.refl _ s)
  case rcFieldRead => exact execRcFieldRead_within (by simp only [Instr.parts]; decide) (Within.refl _ s)
  case dioEdgeCycRead => exact execDioEdgeCycRead_within (by simp only [Instr.parts]; decide) (Within.refl _ s)
  case latControlWindow => exact execLatControlWindow_within (by simp only [Instr.parts]; decide) (Within.refl _ s)
  case xlResponseRx => exact execXlResponseRx_within (by simp only [Instr.parts]; decide) (Within.refl _ s)
  case xlPostedAckRx => exact execXlPostedAckRx_within (by simp only [Instr.parts]; decide) (Within.refl _ s)
  case checkpointRx => exact execCheckpointRx_within (by simp only [Instr.parts]; decide) (Within.refl _ s)
  case mirrorResetRx => exact execMirrorResetRx_within (by simp only [Instr.parts]; decide) (Within.refl _ s)
  case dormancyEntryComplete => exact execDormancyEntryComplete_within (by simp only [Instr.parts]; decide) (Within.refl _ s)
  case shutdownComplete => exact execShutdownComplete_within (by simp only [Instr.parts]; decide) (Within.refl _ s)
  case stitchAddressApply => exact execStitchAddressApply_within (by simp only [Instr.parts]; decide) (Within.refl _ s)
  case svcVbusChange => exact execSvcVbusChange_within (by simp only [Instr.parts]; decide) (Within.refl _ s)

theorem partsMask_bit (l : List Part) (p : Part) (h : p ∉ l) : (partsMask l).testBit p.bit = false := by
  have key : ∀ (l : List Part) (m : Nat), m.testBit p.bit = false → p ∉ l →
      (l.foldl (fun m p => m ||| 2 ^ p.bit) m).testBit p.bit = false := by
    intro l
    induction l with
    | nil => exact fun m hm _ => hm
    | cons a r ih =>
      intro m hm hq
      simp only [List.mem_cons, not_or] at hq
      refine ih _ ?_ hq.2
      have hb : p.bit ≠ a.bit := by
        intro e
        apply hq.1
        revert e
        cases p <;> cases a <;> decide
      simp [Nat.testBit_or, hm, hb.symm]
  exact key l 0 (by simp) h

end Sys2Proof.Machine
end

