-- ==== Sys2Proof/Laws/State.lean ====
section
/-! SUPPORT. One law for each part of the state under each named operation: what the operation leaves alone. -/

namespace Sys2Proof.Machine

variable (s : State)

@[simp] theorem State.wr_arb (f : Field) (v : Nat) : (s.wr f v).arb = s.arb := rfl
@[simp] theorem State.wr_mem (f : Field) (v : Nat) : (s.wr f v).mem = s.mem := rfl
@[simp] theorem State.wr_objs (f : Field) (v : Nat) : (s.wr f v).objs = s.objs := rfl
@[simp] theorem State.wr_objBytes (f : Field) (v : Nat) : (s.wr f v).objBytes = s.objBytes := rfl
@[simp] theorem State.wr_settings (f : Field) (v : Nat) : (s.wr f v).settings = s.settings := rfl
@[simp] theorem State.wr_settingsBytes (f : Field) (v : Nat) : (s.wr f v).settingsBytes = s.settingsBytes := rfl
@[simp] theorem State.wr_now (f : Field) (v : Nat) : (s.wr f v).now = s.now := rfl
@[simp] theorem State.wr_free (f : Field) (v : Nat) : (s.wr f v).free = s.free := rfl
@[simp] theorem State.wr_resp (f : Field) (v : Nat) : (s.wr f v).resp = s.resp := rfl
@[simp] theorem State.wr_out (f : Field) (v : Nat) : (s.wr f v).out = s.out := rfl
@[simp] theorem State.wr_faults (f : Field) (v : Nat) : (s.wr f v).faults = s.faults := rfl
@[simp] theorem State.wr_irqHeld (f : Field) (v : Nat) : (s.wr f v).irqHeld = s.irqHeld := rfl
@[simp] theorem State.wr_furBits (f : Field) (v : Nat) : (s.wr f v).furBits = s.furBits := rfl
@[simp] theorem State.wr_q (f : Field) (v : Nat) : (s.wr f v).q = s.q := rfl
@[simp] theorem State.wr_girth (f : Field) (v : Nat) : (s.wr f v).girth = s.girth := rfl
@[simp] theorem State.wr_partner (f : Field) (v : Nat) : (s.wr f v).partner = s.partner := rfl
@[simp] theorem State.wr_ls (f : Field) (v : Nat) : (s.wr f v).ls = s.ls := rfl
@[simp] theorem State.wr_lsStag (f : Field) (v : Nat) : (s.wr f v).lsStag = s.lsStag := rfl
@[simp] theorem State.wr_lsOver (f : Field) (v : Nat) : (s.wr f v).lsOver = s.lsOver := rfl
@[simp] theorem State.wr_lsKept0 (f : Field) (v : Nat) : (s.wr f v).lsKept0 = s.lsKept0 := rfl
@[simp] theorem State.wr_lsKept1 (f : Field) (v : Nat) : (s.wr f v).lsKept1 = s.lsKept1 := rfl
@[simp] theorem State.wr_dio (f : Field) (v : Nat) : (s.wr f v).dio = s.dio := rfl
@[simp] theorem State.wr_str (f : Field) (v : Nat) : (s.wr f v).str = s.str := rfl
@[simp] theorem State.wr_pom (f : Field) (v : Nat) : (s.wr f v).pom = s.pom := rfl
@[simp] theorem State.wr_trl (f : Field) (v : Nat) : (s.wr f v).trl = s.trl := rfl
@[simp] theorem State.wr_pt (f : Field) (v : Nat) : (s.wr f v).pt = s.pt := rfl
@[simp] theorem State.wr_aon (f : Field) (v : Nat) : (s.wr f v).aon = s.aon := rfl
@[simp] theorem State.wr_lat (f : Field) (v : Nat) : (s.wr f v).lat = s.lat := rfl
@[simp] theorem State.wr_msr (f : Field) (v : Nat) : (s.wr f v).msr = s.msr := rfl
@[simp] theorem State.wr_cap (f : Field) (v : Nat) : (s.wr f v).cap = s.cap := rfl
@[simp] theorem State.wr_til (f : Field) (v : Nat) : (s.wr f v).til = s.til := rfl
@[simp] theorem State.wr_can (f : Field) (v : Nat) : (s.wr f v).can = s.can := rfl
@[simp] theorem State.wr_ns (f : Field) (v : Nat) : (s.wr f v).ns = s.ns := rfl
@[simp] theorem State.wr_gw (f : Field) (v : Nat) : (s.wr f v).gw = s.gw := rfl
@[simp] theorem State.wr_br (f : Field) (v : Nat) : (s.wr f v).br = s.br := rfl
@[simp] theorem State.wr_ses (f : Field) (v : Nat) : (s.wr f v).ses = s.ses := rfl
@[simp] theorem State.wr_pc (f : Field) (v : Nat) : (s.wr f v).pc = s.pc := rfl
@[simp] theorem State.wr_clo (f : Field) (v : Nat) : (s.wr f v).clo = s.clo := rfl
@[simp] theorem State.wr_grf (f : Field) (v : Nat) : (s.wr f v).grf = s.grf := rfl
@[simp] theorem State.wr_retain (f : Field) (v : Nat) : (s.wr f v).retain = s.retain := rfl
@[simp] theorem State.wr_jobs (f : Field) (v : Nat) : (s.wr f v).jobs = s.jobs := rfl
@[simp] theorem State.wr_jobSeq (f : Field) (v : Nat) : (s.wr f v).jobSeq = s.jobSeq := rfl
@[simp] theorem State.wr_pending (f : Field) (v : Nat) : (s.wr f v).pending = s.pending := rfl

@[simp] theorem State.wrBits_arb (f : Field) (v x : Nat) : (s.wrBits f v x).arb = s.arb := rfl
@[simp] theorem State.wrBits_mem (f : Field) (v x : Nat) : (s.wrBits f v x).mem = s.mem := rfl
@[simp] theorem State.wrBits_objs (f : Field) (v x : Nat) : (s.wrBits f v x).objs = s.objs := rfl
@[simp] theorem State.wrBits_objBytes (f : Field) (v x : Nat) : (s.wrBits f v x).objBytes = s.objBytes := rfl
@[simp] theorem State.wrBits_settings (f : Field) (v x : Nat) : (s.wrBits f v x).settings = s.settings := rfl
@[simp] theorem State.wrBits_settingsBytes (f : Field) (v x : Nat) : (s.wrBits f v x).settingsBytes = s.settingsBytes := rfl
@[simp] theorem State.wrBits_now (f : Field) (v x : Nat) : (s.wrBits f v x).now = s.now := rfl
@[simp] theorem State.wrBits_free (f : Field) (v x : Nat) : (s.wrBits f v x).free = s.free := rfl
@[simp] theorem State.wrBits_resp (f : Field) (v x : Nat) : (s.wrBits f v x).resp = s.resp := rfl
@[simp] theorem State.wrBits_out (f : Field) (v x : Nat) : (s.wrBits f v x).out = s.out := rfl
@[simp] theorem State.wrBits_faults (f : Field) (v x : Nat) : (s.wrBits f v x).faults = s.faults := rfl
@[simp] theorem State.wrBits_irqHeld (f : Field) (v x : Nat) : (s.wrBits f v x).irqHeld = s.irqHeld := rfl
@[simp] theorem State.wrBits_furBits (f : Field) (v x : Nat) : (s.wrBits f v x).furBits = s.furBits := rfl
@[simp] theorem State.wrBits_q (f : Field) (v x : Nat) : (s.wrBits f v x).q = s.q := rfl
@[simp] theorem State.wrBits_girth (f : Field) (v x : Nat) : (s.wrBits f v x).girth = s.girth := rfl
@[simp] theorem State.wrBits_partner (f : Field) (v x : Nat) : (s.wrBits f v x).partner = s.partner := rfl
@[simp] theorem State.wrBits_ls (f : Field) (v x : Nat) : (s.wrBits f v x).ls = s.ls := rfl
@[simp] theorem State.wrBits_lsStag (f : Field) (v x : Nat) : (s.wrBits f v x).lsStag = s.lsStag := rfl
@[simp] theorem State.wrBits_lsOver (f : Field) (v x : Nat) : (s.wrBits f v x).lsOver = s.lsOver := rfl
@[simp] theorem State.wrBits_lsKept0 (f : Field) (v x : Nat) : (s.wrBits f v x).lsKept0 = s.lsKept0 := rfl
@[simp] theorem State.wrBits_lsKept1 (f : Field) (v x : Nat) : (s.wrBits f v x).lsKept1 = s.lsKept1 := rfl
@[simp] theorem State.wrBits_dio (f : Field) (v x : Nat) : (s.wrBits f v x).dio = s.dio := rfl
@[simp] theorem State.wrBits_str (f : Field) (v x : Nat) : (s.wrBits f v x).str = s.str := rfl
@[simp] theorem State.wrBits_pom (f : Field) (v x : Nat) : (s.wrBits f v x).pom = s.pom := rfl
@[simp] theorem State.wrBits_trl (f : Field) (v x : Nat) : (s.wrBits f v x).trl = s.trl := rfl
@[simp] theorem State.wrBits_pt (f : Field) (v x : Nat) : (s.wrBits f v x).pt = s.pt := rfl
@[simp] theorem State.wrBits_aon (f : Field) (v x : Nat) : (s.wrBits f v x).aon = s.aon := rfl
@[simp] theorem State.wrBits_lat (f : Field) (v x : Nat) : (s.wrBits f v x).lat = s.lat := rfl
@[simp] theorem State.wrBits_msr (f : Field) (v x : Nat) : (s.wrBits f v x).msr = s.msr := rfl
@[simp] theorem State.wrBits_cap (f : Field) (v x : Nat) : (s.wrBits f v x).cap = s.cap := rfl
@[simp] theorem State.wrBits_til (f : Field) (v x : Nat) : (s.wrBits f v x).til = s.til := rfl
@[simp] theorem State.wrBits_can (f : Field) (v x : Nat) : (s.wrBits f v x).can = s.can := rfl
@[simp] theorem State.wrBits_ns (f : Field) (v x : Nat) : (s.wrBits f v x).ns = s.ns := rfl
@[simp] theorem State.wrBits_gw (f : Field) (v x : Nat) : (s.wrBits f v x).gw = s.gw := rfl
@[simp] theorem State.wrBits_br (f : Field) (v x : Nat) : (s.wrBits f v x).br = s.br := rfl
@[simp] theorem State.wrBits_ses (f : Field) (v x : Nat) : (s.wrBits f v x).ses = s.ses := rfl
@[simp] theorem State.wrBits_pc (f : Field) (v x : Nat) : (s.wrBits f v x).pc = s.pc := rfl
@[simp] theorem State.wrBits_clo (f : Field) (v x : Nat) : (s.wrBits f v x).clo = s.clo := rfl
@[simp] theorem State.wrBits_grf (f : Field) (v x : Nat) : (s.wrBits f v x).grf = s.grf := rfl
@[simp] theorem State.wrBits_retain (f : Field) (v x : Nat) : (s.wrBits f v x).retain = s.retain := rfl
@[simp] theorem State.wrBits_jobs (f : Field) (v x : Nat) : (s.wrBits f v x).jobs = s.jobs := rfl
@[simp] theorem State.wrBits_jobSeq (f : Field) (v x : Nat) : (s.wrBits f v x).jobSeq = s.jobSeq := rfl
@[simp] theorem State.wrBits_pending (f : Field) (v x : Nat) : (s.wrBits f v x).pending = s.pending := rfl

@[simp] theorem State.put_upd (f : Field) (v : Nat) : (s.put f v).upd = s.upd := rfl
@[simp] theorem State.put_arb (f : Field) (v : Nat) : (s.put f v).arb = s.arb := rfl
@[simp] theorem State.put_mem (f : Field) (v : Nat) : (s.put f v).mem = s.mem := rfl
@[simp] theorem State.put_objs (f : Field) (v : Nat) : (s.put f v).objs = s.objs := rfl
@[simp] theorem State.put_objBytes (f : Field) (v : Nat) : (s.put f v).objBytes = s.objBytes := rfl
@[simp] theorem State.put_settings (f : Field) (v : Nat) : (s.put f v).settings = s.settings := rfl
@[simp] theorem State.put_settingsBytes (f : Field) (v : Nat) : (s.put f v).settingsBytes = s.settingsBytes := rfl
@[simp] theorem State.put_now (f : Field) (v : Nat) : (s.put f v).now = s.now := rfl
@[simp] theorem State.put_free (f : Field) (v : Nat) : (s.put f v).free = s.free := rfl
@[simp] theorem State.put_resp (f : Field) (v : Nat) : (s.put f v).resp = s.resp := rfl
@[simp] theorem State.put_out (f : Field) (v : Nat) : (s.put f v).out = s.out := rfl
@[simp] theorem State.put_faults (f : Field) (v : Nat) : (s.put f v).faults = s.faults := rfl
@[simp] theorem State.put_irqHeld (f : Field) (v : Nat) : (s.put f v).irqHeld = s.irqHeld := rfl
@[simp] theorem State.put_furBits (f : Field) (v : Nat) : (s.put f v).furBits = s.furBits := rfl
@[simp] theorem State.put_q (f : Field) (v : Nat) : (s.put f v).q = s.q := rfl
@[simp] theorem State.put_girth (f : Field) (v : Nat) : (s.put f v).girth = s.girth := rfl
@[simp] theorem State.put_partner (f : Field) (v : Nat) : (s.put f v).partner = s.partner := rfl
@[simp] theorem State.put_ls (f : Field) (v : Nat) : (s.put f v).ls = s.ls := rfl
@[simp] theorem State.put_lsStag (f : Field) (v : Nat) : (s.put f v).lsStag = s.lsStag := rfl
@[simp] theorem State.put_lsOver (f : Field) (v : Nat) : (s.put f v).lsOver = s.lsOver := rfl
@[simp] theorem State.put_lsKept0 (f : Field) (v : Nat) : (s.put f v).lsKept0 = s.lsKept0 := rfl
@[simp] theorem State.put_lsKept1 (f : Field) (v : Nat) : (s.put f v).lsKept1 = s.lsKept1 := rfl
@[simp] theorem State.put_dio (f : Field) (v : Nat) : (s.put f v).dio = s.dio := rfl
@[simp] theorem State.put_str (f : Field) (v : Nat) : (s.put f v).str = s.str := rfl
@[simp] theorem State.put_pom (f : Field) (v : Nat) : (s.put f v).pom = s.pom := rfl
@[simp] theorem State.put_trl (f : Field) (v : Nat) : (s.put f v).trl = s.trl := rfl
@[simp] theorem State.put_pt (f : Field) (v : Nat) : (s.put f v).pt = s.pt := rfl
@[simp] theorem State.put_aon (f : Field) (v : Nat) : (s.put f v).aon = s.aon := rfl
@[simp] theorem State.put_lat (f : Field) (v : Nat) : (s.put f v).lat = s.lat := rfl
@[simp] theorem State.put_msr (f : Field) (v : Nat) : (s.put f v).msr = s.msr := rfl
@[simp] theorem State.put_cap (f : Field) (v : Nat) : (s.put f v).cap = s.cap := rfl
@[simp] theorem State.put_til (f : Field) (v : Nat) : (s.put f v).til = s.til := rfl
@[simp] theorem State.put_can (f : Field) (v : Nat) : (s.put f v).can = s.can := rfl
@[simp] theorem State.put_ns (f : Field) (v : Nat) : (s.put f v).ns = s.ns := rfl
@[simp] theorem State.put_gw (f : Field) (v : Nat) : (s.put f v).gw = s.gw := rfl
@[simp] theorem State.put_br (f : Field) (v : Nat) : (s.put f v).br = s.br := rfl
@[simp] theorem State.put_ses (f : Field) (v : Nat) : (s.put f v).ses = s.ses := rfl
@[simp] theorem State.put_pc (f : Field) (v : Nat) : (s.put f v).pc = s.pc := rfl
@[simp] theorem State.put_clo (f : Field) (v : Nat) : (s.put f v).clo = s.clo := rfl
@[simp] theorem State.put_grf (f : Field) (v : Nat) : (s.put f v).grf = s.grf := rfl
@[simp] theorem State.put_retain (f : Field) (v : Nat) : (s.put f v).retain = s.retain := rfl
@[simp] theorem State.put_jobs (f : Field) (v : Nat) : (s.put f v).jobs = s.jobs := rfl
@[simp] theorem State.put_jobSeq (f : Field) (v : Nat) : (s.put f v).jobSeq = s.jobSeq := rfl
@[simp] theorem State.put_pending (f : Field) (v : Nat) : (s.put f v).pending = s.pending := rfl

@[simp] theorem State.hwWr_arb (f : Field) (v : Nat) : (s.hwWr f v).arb = s.arb := rfl
@[simp] theorem State.hwWr_mem (f : Field) (v : Nat) : (s.hwWr f v).mem = s.mem := rfl
@[simp] theorem State.hwWr_objs (f : Field) (v : Nat) : (s.hwWr f v).objs = s.objs := rfl
@[simp] theorem State.hwWr_objBytes (f : Field) (v : Nat) : (s.hwWr f v).objBytes = s.objBytes := rfl
@[simp] theorem State.hwWr_settings (f : Field) (v : Nat) : (s.hwWr f v).settings = s.settings := rfl
@[simp] theorem State.hwWr_settingsBytes (f : Field) (v : Nat) : (s.hwWr f v).settingsBytes = s.settingsBytes := rfl
@[simp] theorem State.hwWr_now (f : Field) (v : Nat) : (s.hwWr f v).now = s.now := rfl
@[simp] theorem State.hwWr_free (f : Field) (v : Nat) : (s.hwWr f v).free = s.free := rfl
@[simp] theorem State.hwWr_resp (f : Field) (v : Nat) : (s.hwWr f v).resp = s.resp := rfl
@[simp] theorem State.hwWr_out (f : Field) (v : Nat) : (s.hwWr f v).out = s.out := rfl
@[simp] theorem State.hwWr_faults (f : Field) (v : Nat) : (s.hwWr f v).faults = s.faults := rfl
@[simp] theorem State.hwWr_irqHeld (f : Field) (v : Nat) : (s.hwWr f v).irqHeld = s.irqHeld := rfl
@[simp] theorem State.hwWr_furBits (f : Field) (v : Nat) : (s.hwWr f v).furBits = s.furBits := rfl
@[simp] theorem State.hwWr_q (f : Field) (v : Nat) : (s.hwWr f v).q = s.q := rfl
@[simp] theorem State.hwWr_girth (f : Field) (v : Nat) : (s.hwWr f v).girth = s.girth := rfl
@[simp] theorem State.hwWr_partner (f : Field) (v : Nat) : (s.hwWr f v).partner = s.partner := rfl
@[simp] theorem State.hwWr_ls (f : Field) (v : Nat) : (s.hwWr f v).ls = s.ls := rfl
@[simp] theorem State.hwWr_lsStag (f : Field) (v : Nat) : (s.hwWr f v).lsStag = s.lsStag := rfl
@[simp] theorem State.hwWr_lsOver (f : Field) (v : Nat) : (s.hwWr f v).lsOver = s.lsOver := rfl
@[simp] theorem State.hwWr_lsKept0 (f : Field) (v : Nat) : (s.hwWr f v).lsKept0 = s.lsKept0 := rfl
@[simp] theorem State.hwWr_lsKept1 (f : Field) (v : Nat) : (s.hwWr f v).lsKept1 = s.lsKept1 := rfl
@[simp] theorem State.hwWr_dio (f : Field) (v : Nat) : (s.hwWr f v).dio = s.dio := rfl
@[simp] theorem State.hwWr_str (f : Field) (v : Nat) : (s.hwWr f v).str = s.str := rfl
@[simp] theorem State.hwWr_pom (f : Field) (v : Nat) : (s.hwWr f v).pom = s.pom := rfl
@[simp] theorem State.hwWr_trl (f : Field) (v : Nat) : (s.hwWr f v).trl = s.trl := rfl
@[simp] theorem State.hwWr_pt (f : Field) (v : Nat) : (s.hwWr f v).pt = s.pt := rfl
@[simp] theorem State.hwWr_aon (f : Field) (v : Nat) : (s.hwWr f v).aon = s.aon := rfl
@[simp] theorem State.hwWr_lat (f : Field) (v : Nat) : (s.hwWr f v).lat = s.lat := rfl
@[simp] theorem State.hwWr_msr (f : Field) (v : Nat) : (s.hwWr f v).msr = s.msr := rfl
@[simp] theorem State.hwWr_cap (f : Field) (v : Nat) : (s.hwWr f v).cap = s.cap := rfl
@[simp] theorem State.hwWr_til (f : Field) (v : Nat) : (s.hwWr f v).til = s.til := rfl
@[simp] theorem State.hwWr_can (f : Field) (v : Nat) : (s.hwWr f v).can = s.can := rfl
@[simp] theorem State.hwWr_ns (f : Field) (v : Nat) : (s.hwWr f v).ns = s.ns := rfl
@[simp] theorem State.hwWr_gw (f : Field) (v : Nat) : (s.hwWr f v).gw = s.gw := rfl
@[simp] theorem State.hwWr_br (f : Field) (v : Nat) : (s.hwWr f v).br = s.br := rfl
@[simp] theorem State.hwWr_ses (f : Field) (v : Nat) : (s.hwWr f v).ses = s.ses := rfl
@[simp] theorem State.hwWr_pc (f : Field) (v : Nat) : (s.hwWr f v).pc = s.pc := rfl
@[simp] theorem State.hwWr_clo (f : Field) (v : Nat) : (s.hwWr f v).clo = s.clo := rfl
@[simp] theorem State.hwWr_grf (f : Field) (v : Nat) : (s.hwWr f v).grf = s.grf := rfl
@[simp] theorem State.hwWr_retain (f : Field) (v : Nat) : (s.hwWr f v).retain = s.retain := rfl
@[simp] theorem State.hwWr_jobs (f : Field) (v : Nat) : (s.hwWr f v).jobs = s.jobs := rfl
@[simp] theorem State.hwWr_jobSeq (f : Field) (v : Nat) : (s.hwWr f v).jobSeq = s.jobSeq := rfl
@[simp] theorem State.hwWr_pending (f : Field) (v : Nat) : (s.hwWr f v).pending = s.pending := rfl

@[simp] theorem State.wrB_arb (f : Field) (x : Bool) : (s.wrB f x).arb = s.arb := rfl
@[simp] theorem State.wrB_mem (f : Field) (x : Bool) : (s.wrB f x).mem = s.mem := rfl
@[simp] theorem State.wrB_objs (f : Field) (x : Bool) : (s.wrB f x).objs = s.objs := rfl
@[simp] theorem State.wrB_objBytes (f : Field) (x : Bool) : (s.wrB f x).objBytes = s.objBytes := rfl
@[simp] theorem State.wrB_settings (f : Field) (x : Bool) : (s.wrB f x).settings = s.settings := rfl
@[simp] theorem State.wrB_settingsBytes (f : Field) (x : Bool) : (s.wrB f x).settingsBytes = s.settingsBytes := rfl
@[simp] theorem State.wrB_now (f : Field) (x : Bool) : (s.wrB f x).now = s.now := rfl
@[simp] theorem State.wrB_free (f : Field) (x : Bool) : (s.wrB f x).free = s.free := rfl
@[simp] theorem State.wrB_resp (f : Field) (x : Bool) : (s.wrB f x).resp = s.resp := rfl
@[simp] theorem State.wrB_out (f : Field) (x : Bool) : (s.wrB f x).out = s.out := rfl
@[simp] theorem State.wrB_faults (f : Field) (x : Bool) : (s.wrB f x).faults = s.faults := rfl
@[simp] theorem State.wrB_irqHeld (f : Field) (x : Bool) : (s.wrB f x).irqHeld = s.irqHeld := rfl
@[simp] theorem State.wrB_furBits (f : Field) (x : Bool) : (s.wrB f x).furBits = s.furBits := rfl
@[simp] theorem State.wrB_q (f : Field) (x : Bool) : (s.wrB f x).q = s.q := rfl
@[simp] theorem State.wrB_girth (f : Field) (x : Bool) : (s.wrB f x).girth = s.girth := rfl
@[simp] theorem State.wrB_partner (f : Field) (x : Bool) : (s.wrB f x).partner = s.partner := rfl
@[simp] theorem State.wrB_ls (f : Field) (x : Bool) : (s.wrB f x).ls = s.ls := rfl
@[simp] theorem State.wrB_lsStag (f : Field) (x : Bool) : (s.wrB f x).lsStag = s.lsStag := rfl
@[simp] theorem State.wrB_lsOver (f : Field) (x : Bool) : (s.wrB f x).lsOver = s.lsOver := rfl
@[simp] theorem State.wrB_lsKept0 (f : Field) (x : Bool) : (s.wrB f x).lsKept0 = s.lsKept0 := rfl
@[simp] theorem State.wrB_lsKept1 (f : Field) (x : Bool) : (s.wrB f x).lsKept1 = s.lsKept1 := rfl
@[simp] theorem State.wrB_dio (f : Field) (x : Bool) : (s.wrB f x).dio = s.dio := rfl
@[simp] theorem State.wrB_str (f : Field) (x : Bool) : (s.wrB f x).str = s.str := rfl
@[simp] theorem State.wrB_pom (f : Field) (x : Bool) : (s.wrB f x).pom = s.pom := rfl
@[simp] theorem State.wrB_trl (f : Field) (x : Bool) : (s.wrB f x).trl = s.trl := rfl
@[simp] theorem State.wrB_pt (f : Field) (x : Bool) : (s.wrB f x).pt = s.pt := rfl
@[simp] theorem State.wrB_aon (f : Field) (x : Bool) : (s.wrB f x).aon = s.aon := rfl
@[simp] theorem State.wrB_lat (f : Field) (x : Bool) : (s.wrB f x).lat = s.lat := rfl
@[simp] theorem State.wrB_msr (f : Field) (x : Bool) : (s.wrB f x).msr = s.msr := rfl
@[simp] theorem State.wrB_cap (f : Field) (x : Bool) : (s.wrB f x).cap = s.cap := rfl
@[simp] theorem State.wrB_til (f : Field) (x : Bool) : (s.wrB f x).til = s.til := rfl
@[simp] theorem State.wrB_can (f : Field) (x : Bool) : (s.wrB f x).can = s.can := rfl
@[simp] theorem State.wrB_ns (f : Field) (x : Bool) : (s.wrB f x).ns = s.ns := rfl
@[simp] theorem State.wrB_gw (f : Field) (x : Bool) : (s.wrB f x).gw = s.gw := rfl
@[simp] theorem State.wrB_br (f : Field) (x : Bool) : (s.wrB f x).br = s.br := rfl
@[simp] theorem State.wrB_ses (f : Field) (x : Bool) : (s.wrB f x).ses = s.ses := rfl
@[simp] theorem State.wrB_pc (f : Field) (x : Bool) : (s.wrB f x).pc = s.pc := rfl
@[simp] theorem State.wrB_clo (f : Field) (x : Bool) : (s.wrB f x).clo = s.clo := rfl
@[simp] theorem State.wrB_grf (f : Field) (x : Bool) : (s.wrB f x).grf = s.grf := rfl
@[simp] theorem State.wrB_retain (f : Field) (x : Bool) : (s.wrB f x).retain = s.retain := rfl
@[simp] theorem State.wrB_jobs (f : Field) (x : Bool) : (s.wrB f x).jobs = s.jobs := rfl
@[simp] theorem State.wrB_jobSeq (f : Field) (x : Bool) : (s.wrB f x).jobSeq = s.jobSeq := rfl
@[simp] theorem State.wrB_pending (f : Field) (x : Bool) : (s.wrB f x).pending = s.pending := rfl

@[simp] theorem State.wrI_arb (f : Field) (x : Int) : (s.wrI f x).arb = s.arb := rfl
@[simp] theorem State.wrI_mem (f : Field) (x : Int) : (s.wrI f x).mem = s.mem := rfl
@[simp] theorem State.wrI_objs (f : Field) (x : Int) : (s.wrI f x).objs = s.objs := rfl
@[simp] theorem State.wrI_objBytes (f : Field) (x : Int) : (s.wrI f x).objBytes = s.objBytes := rfl
@[simp] theorem State.wrI_settings (f : Field) (x : Int) : (s.wrI f x).settings = s.settings := rfl
@[simp] theorem State.wrI_settingsBytes (f : Field) (x : Int) : (s.wrI f x).settingsBytes = s.settingsBytes := rfl
@[simp] theorem State.wrI_now (f : Field) (x : Int) : (s.wrI f x).now = s.now := rfl
@[simp] theorem State.wrI_free (f : Field) (x : Int) : (s.wrI f x).free = s.free := rfl
@[simp] theorem State.wrI_resp (f : Field) (x : Int) : (s.wrI f x).resp = s.resp := rfl
@[simp] theorem State.wrI_out (f : Field) (x : Int) : (s.wrI f x).out = s.out := rfl
@[simp] theorem State.wrI_faults (f : Field) (x : Int) : (s.wrI f x).faults = s.faults := rfl
@[simp] theorem State.wrI_irqHeld (f : Field) (x : Int) : (s.wrI f x).irqHeld = s.irqHeld := rfl
@[simp] theorem State.wrI_furBits (f : Field) (x : Int) : (s.wrI f x).furBits = s.furBits := rfl
@[simp] theorem State.wrI_q (f : Field) (x : Int) : (s.wrI f x).q = s.q := rfl
@[simp] theorem State.wrI_girth (f : Field) (x : Int) : (s.wrI f x).girth = s.girth := rfl
@[simp] theorem State.wrI_partner (f : Field) (x : Int) : (s.wrI f x).partner = s.partner := rfl
@[simp] theorem State.wrI_ls (f : Field) (x : Int) : (s.wrI f x).ls = s.ls := rfl
@[simp] theorem State.wrI_lsStag (f : Field) (x : Int) : (s.wrI f x).lsStag = s.lsStag := rfl
@[simp] theorem State.wrI_lsOver (f : Field) (x : Int) : (s.wrI f x).lsOver = s.lsOver := rfl
@[simp] theorem State.wrI_lsKept0 (f : Field) (x : Int) : (s.wrI f x).lsKept0 = s.lsKept0 := rfl
@[simp] theorem State.wrI_lsKept1 (f : Field) (x : Int) : (s.wrI f x).lsKept1 = s.lsKept1 := rfl
@[simp] theorem State.wrI_dio (f : Field) (x : Int) : (s.wrI f x).dio = s.dio := rfl
@[simp] theorem State.wrI_str (f : Field) (x : Int) : (s.wrI f x).str = s.str := rfl
@[simp] theorem State.wrI_pom (f : Field) (x : Int) : (s.wrI f x).pom = s.pom := rfl
@[simp] theorem State.wrI_trl (f : Field) (x : Int) : (s.wrI f x).trl = s.trl := rfl
@[simp] theorem State.wrI_pt (f : Field) (x : Int) : (s.wrI f x).pt = s.pt := rfl
@[simp] theorem State.wrI_aon (f : Field) (x : Int) : (s.wrI f x).aon = s.aon := rfl
@[simp] theorem State.wrI_lat (f : Field) (x : Int) : (s.wrI f x).lat = s.lat := rfl
@[simp] theorem State.wrI_msr (f : Field) (x : Int) : (s.wrI f x).msr = s.msr := rfl
@[simp] theorem State.wrI_cap (f : Field) (x : Int) : (s.wrI f x).cap = s.cap := rfl
@[simp] theorem State.wrI_til (f : Field) (x : Int) : (s.wrI f x).til = s.til := rfl
@[simp] theorem State.wrI_can (f : Field) (x : Int) : (s.wrI f x).can = s.can := rfl
@[simp] theorem State.wrI_ns (f : Field) (x : Int) : (s.wrI f x).ns = s.ns := rfl
@[simp] theorem State.wrI_gw (f : Field) (x : Int) : (s.wrI f x).gw = s.gw := rfl
@[simp] theorem State.wrI_br (f : Field) (x : Int) : (s.wrI f x).br = s.br := rfl
@[simp] theorem State.wrI_ses (f : Field) (x : Int) : (s.wrI f x).ses = s.ses := rfl
@[simp] theorem State.wrI_pc (f : Field) (x : Int) : (s.wrI f x).pc = s.pc := rfl
@[simp] theorem State.wrI_clo (f : Field) (x : Int) : (s.wrI f x).clo = s.clo := rfl
@[simp] theorem State.wrI_grf (f : Field) (x : Int) : (s.wrI f x).grf = s.grf := rfl
@[simp] theorem State.wrI_retain (f : Field) (x : Int) : (s.wrI f x).retain = s.retain := rfl
@[simp] theorem State.wrI_jobs (f : Field) (x : Int) : (s.wrI f x).jobs = s.jobs := rfl
@[simp] theorem State.wrI_jobSeq (f : Field) (x : Int) : (s.wrI f x).jobSeq = s.jobSeq := rfl
@[simp] theorem State.wrI_pending (f : Field) (x : Int) : (s.wrI f x).pending = s.pending := rfl

@[simp] theorem State.setBit_arb (f : Field) (i : Nat) : (s.setBit f i).arb = s.arb := rfl
@[simp] theorem State.setBit_mem (f : Field) (i : Nat) : (s.setBit f i).mem = s.mem := rfl
@[simp] theorem State.setBit_objs (f : Field) (i : Nat) : (s.setBit f i).objs = s.objs := rfl
@[simp] theorem State.setBit_objBytes (f : Field) (i : Nat) : (s.setBit f i).objBytes = s.objBytes := rfl
@[simp] theorem State.setBit_settings (f : Field) (i : Nat) : (s.setBit f i).settings = s.settings := rfl
@[simp] theorem State.setBit_settingsBytes (f : Field) (i : Nat) : (s.setBit f i).settingsBytes = s.settingsBytes := rfl
@[simp] theorem State.setBit_now (f : Field) (i : Nat) : (s.setBit f i).now = s.now := rfl
@[simp] theorem State.setBit_free (f : Field) (i : Nat) : (s.setBit f i).free = s.free := rfl
@[simp] theorem State.setBit_resp (f : Field) (i : Nat) : (s.setBit f i).resp = s.resp := rfl
@[simp] theorem State.setBit_out (f : Field) (i : Nat) : (s.setBit f i).out = s.out := rfl
@[simp] theorem State.setBit_faults (f : Field) (i : Nat) : (s.setBit f i).faults = s.faults := rfl
@[simp] theorem State.setBit_irqHeld (f : Field) (i : Nat) : (s.setBit f i).irqHeld = s.irqHeld := rfl
@[simp] theorem State.setBit_furBits (f : Field) (i : Nat) : (s.setBit f i).furBits = s.furBits := rfl
@[simp] theorem State.setBit_q (f : Field) (i : Nat) : (s.setBit f i).q = s.q := rfl
@[simp] theorem State.setBit_girth (f : Field) (i : Nat) : (s.setBit f i).girth = s.girth := rfl
@[simp] theorem State.setBit_partner (f : Field) (i : Nat) : (s.setBit f i).partner = s.partner := rfl
@[simp] theorem State.setBit_ls (f : Field) (i : Nat) : (s.setBit f i).ls = s.ls := rfl
@[simp] theorem State.setBit_lsStag (f : Field) (i : Nat) : (s.setBit f i).lsStag = s.lsStag := rfl
@[simp] theorem State.setBit_lsOver (f : Field) (i : Nat) : (s.setBit f i).lsOver = s.lsOver := rfl
@[simp] theorem State.setBit_lsKept0 (f : Field) (i : Nat) : (s.setBit f i).lsKept0 = s.lsKept0 := rfl
@[simp] theorem State.setBit_lsKept1 (f : Field) (i : Nat) : (s.setBit f i).lsKept1 = s.lsKept1 := rfl
@[simp] theorem State.setBit_dio (f : Field) (i : Nat) : (s.setBit f i).dio = s.dio := rfl
@[simp] theorem State.setBit_str (f : Field) (i : Nat) : (s.setBit f i).str = s.str := rfl
@[simp] theorem State.setBit_pom (f : Field) (i : Nat) : (s.setBit f i).pom = s.pom := rfl
@[simp] theorem State.setBit_trl (f : Field) (i : Nat) : (s.setBit f i).trl = s.trl := rfl
@[simp] theorem State.setBit_pt (f : Field) (i : Nat) : (s.setBit f i).pt = s.pt := rfl
@[simp] theorem State.setBit_aon (f : Field) (i : Nat) : (s.setBit f i).aon = s.aon := rfl
@[simp] theorem State.setBit_lat (f : Field) (i : Nat) : (s.setBit f i).lat = s.lat := rfl
@[simp] theorem State.setBit_msr (f : Field) (i : Nat) : (s.setBit f i).msr = s.msr := rfl
@[simp] theorem State.setBit_cap (f : Field) (i : Nat) : (s.setBit f i).cap = s.cap := rfl
@[simp] theorem State.setBit_til (f : Field) (i : Nat) : (s.setBit f i).til = s.til := rfl
@[simp] theorem State.setBit_can (f : Field) (i : Nat) : (s.setBit f i).can = s.can := rfl
@[simp] theorem State.setBit_ns (f : Field) (i : Nat) : (s.setBit f i).ns = s.ns := rfl
@[simp] theorem State.setBit_gw (f : Field) (i : Nat) : (s.setBit f i).gw = s.gw := rfl
@[simp] theorem State.setBit_br (f : Field) (i : Nat) : (s.setBit f i).br = s.br := rfl
@[simp] theorem State.setBit_ses (f : Field) (i : Nat) : (s.setBit f i).ses = s.ses := rfl
@[simp] theorem State.setBit_pc (f : Field) (i : Nat) : (s.setBit f i).pc = s.pc := rfl
@[simp] theorem State.setBit_clo (f : Field) (i : Nat) : (s.setBit f i).clo = s.clo := rfl
@[simp] theorem State.setBit_grf (f : Field) (i : Nat) : (s.setBit f i).grf = s.grf := rfl
@[simp] theorem State.setBit_retain (f : Field) (i : Nat) : (s.setBit f i).retain = s.retain := rfl
@[simp] theorem State.setBit_jobs (f : Field) (i : Nat) : (s.setBit f i).jobs = s.jobs := rfl
@[simp] theorem State.setBit_jobSeq (f : Field) (i : Nat) : (s.setBit f i).jobSeq = s.jobSeq := rfl
@[simp] theorem State.setBit_pending (f : Field) (i : Nat) : (s.setBit f i).pending = s.pending := rfl

@[simp] theorem State.clrBit_arb (f : Field) (i : Nat) : (s.clrBit f i).arb = s.arb := rfl
@[simp] theorem State.clrBit_mem (f : Field) (i : Nat) : (s.clrBit f i).mem = s.mem := rfl
@[simp] theorem State.clrBit_objs (f : Field) (i : Nat) : (s.clrBit f i).objs = s.objs := rfl
@[simp] theorem State.clrBit_objBytes (f : Field) (i : Nat) : (s.clrBit f i).objBytes = s.objBytes := rfl
@[simp] theorem State.clrBit_settings (f : Field) (i : Nat) : (s.clrBit f i).settings = s.settings := rfl
@[simp] theorem State.clrBit_settingsBytes (f : Field) (i : Nat) : (s.clrBit f i).settingsBytes = s.settingsBytes := rfl
@[simp] theorem State.clrBit_now (f : Field) (i : Nat) : (s.clrBit f i).now = s.now := rfl
@[simp] theorem State.clrBit_free (f : Field) (i : Nat) : (s.clrBit f i).free = s.free := rfl
@[simp] theorem State.clrBit_resp (f : Field) (i : Nat) : (s.clrBit f i).resp = s.resp := rfl
@[simp] theorem State.clrBit_out (f : Field) (i : Nat) : (s.clrBit f i).out = s.out := rfl
@[simp] theorem State.clrBit_faults (f : Field) (i : Nat) : (s.clrBit f i).faults = s.faults := rfl
@[simp] theorem State.clrBit_irqHeld (f : Field) (i : Nat) : (s.clrBit f i).irqHeld = s.irqHeld := rfl
@[simp] theorem State.clrBit_furBits (f : Field) (i : Nat) : (s.clrBit f i).furBits = s.furBits := rfl
@[simp] theorem State.clrBit_q (f : Field) (i : Nat) : (s.clrBit f i).q = s.q := rfl
@[simp] theorem State.clrBit_girth (f : Field) (i : Nat) : (s.clrBit f i).girth = s.girth := rfl
@[simp] theorem State.clrBit_partner (f : Field) (i : Nat) : (s.clrBit f i).partner = s.partner := rfl
@[simp] theorem State.clrBit_ls (f : Field) (i : Nat) : (s.clrBit f i).ls = s.ls := rfl
@[simp] theorem State.clrBit_lsStag (f : Field) (i : Nat) : (s.clrBit f i).lsStag = s.lsStag := rfl
@[simp] theorem State.clrBit_lsOver (f : Field) (i : Nat) : (s.clrBit f i).lsOver = s.lsOver := rfl
@[simp] theorem State.clrBit_lsKept0 (f : Field) (i : Nat) : (s.clrBit f i).lsKept0 = s.lsKept0 := rfl
@[simp] theorem State.clrBit_lsKept1 (f : Field) (i : Nat) : (s.clrBit f i).lsKept1 = s.lsKept1 := rfl
@[simp] theorem State.clrBit_dio (f : Field) (i : Nat) : (s.clrBit f i).dio = s.dio := rfl
@[simp] theorem State.clrBit_str (f : Field) (i : Nat) : (s.clrBit f i).str = s.str := rfl
@[simp] theorem State.clrBit_pom (f : Field) (i : Nat) : (s.clrBit f i).pom = s.pom := rfl
@[simp] theorem State.clrBit_trl (f : Field) (i : Nat) : (s.clrBit f i).trl = s.trl := rfl
@[simp] theorem State.clrBit_pt (f : Field) (i : Nat) : (s.clrBit f i).pt = s.pt := rfl
@[simp] theorem State.clrBit_aon (f : Field) (i : Nat) : (s.clrBit f i).aon = s.aon := rfl
@[simp] theorem State.clrBit_lat (f : Field) (i : Nat) : (s.clrBit f i).lat = s.lat := rfl
@[simp] theorem State.clrBit_msr (f : Field) (i : Nat) : (s.clrBit f i).msr = s.msr := rfl
@[simp] theorem State.clrBit_cap (f : Field) (i : Nat) : (s.clrBit f i).cap = s.cap := rfl
@[simp] theorem State.clrBit_til (f : Field) (i : Nat) : (s.clrBit f i).til = s.til := rfl
@[simp] theorem State.clrBit_can (f : Field) (i : Nat) : (s.clrBit f i).can = s.can := rfl
@[simp] theorem State.clrBit_ns (f : Field) (i : Nat) : (s.clrBit f i).ns = s.ns := rfl
@[simp] theorem State.clrBit_gw (f : Field) (i : Nat) : (s.clrBit f i).gw = s.gw := rfl
@[simp] theorem State.clrBit_br (f : Field) (i : Nat) : (s.clrBit f i).br = s.br := rfl
@[simp] theorem State.clrBit_ses (f : Field) (i : Nat) : (s.clrBit f i).ses = s.ses := rfl
@[simp] theorem State.clrBit_pc (f : Field) (i : Nat) : (s.clrBit f i).pc = s.pc := rfl
@[simp] theorem State.clrBit_clo (f : Field) (i : Nat) : (s.clrBit f i).clo = s.clo := rfl
@[simp] theorem State.clrBit_grf (f : Field) (i : Nat) : (s.clrBit f i).grf = s.grf := rfl
@[simp] theorem State.clrBit_retain (f : Field) (i : Nat) : (s.clrBit f i).retain = s.retain := rfl
@[simp] theorem State.clrBit_jobs (f : Field) (i : Nat) : (s.clrBit f i).jobs = s.jobs := rfl
@[simp] theorem State.clrBit_jobSeq (f : Field) (i : Nat) : (s.clrBit f i).jobSeq = s.jobSeq := rfl
@[simp] theorem State.clrBit_pending (f : Field) (i : Nat) : (s.clrBit f i).pending = s.pending := rfl

@[simp] theorem State.incWrap_arb (f : Field) : (s.incWrap f).arb = s.arb := rfl
@[simp] theorem State.incWrap_mem (f : Field) : (s.incWrap f).mem = s.mem := rfl
@[simp] theorem State.incWrap_objs (f : Field) : (s.incWrap f).objs = s.objs := rfl
@[simp] theorem State.incWrap_objBytes (f : Field) : (s.incWrap f).objBytes = s.objBytes := rfl
@[simp] theorem State.incWrap_settings (f : Field) : (s.incWrap f).settings = s.settings := rfl
@[simp] theorem State.incWrap_settingsBytes (f : Field) : (s.incWrap f).settingsBytes = s.settingsBytes := rfl
@[simp] theorem State.incWrap_now (f : Field) : (s.incWrap f).now = s.now := rfl
@[simp] theorem State.incWrap_free (f : Field) : (s.incWrap f).free = s.free := rfl
@[simp] theorem State.incWrap_resp (f : Field) : (s.incWrap f).resp = s.resp := rfl
@[simp] theorem State.incWrap_out (f : Field) : (s.incWrap f).out = s.out := rfl
@[simp] theorem State.incWrap_faults (f : Field) : (s.incWrap f).faults = s.faults := rfl
@[simp] theorem State.incWrap_irqHeld (f : Field) : (s.incWrap f).irqHeld = s.irqHeld := rfl
@[simp] theorem State.incWrap_furBits (f : Field) : (s.incWrap f).furBits = s.furBits := rfl
@[simp] theorem State.incWrap_q (f : Field) : (s.incWrap f).q = s.q := rfl
@[simp] theorem State.incWrap_girth (f : Field) : (s.incWrap f).girth = s.girth := rfl
@[simp] theorem State.incWrap_partner (f : Field) : (s.incWrap f).partner = s.partner := rfl
@[simp] theorem State.incWrap_ls (f : Field) : (s.incWrap f).ls = s.ls := rfl
@[simp] theorem State.incWrap_lsStag (f : Field) : (s.incWrap f).lsStag = s.lsStag := rfl
@[simp] theorem State.incWrap_lsOver (f : Field) : (s.incWrap f).lsOver = s.lsOver := rfl
@[simp] theorem State.incWrap_lsKept0 (f : Field) : (s.incWrap f).lsKept0 = s.lsKept0 := rfl
@[simp] theorem State.incWrap_lsKept1 (f : Field) : (s.incWrap f).lsKept1 = s.lsKept1 := rfl
@[simp] theorem State.incWrap_dio (f : Field) : (s.incWrap f).dio = s.dio := rfl
@[simp] theorem State.incWrap_str (f : Field) : (s.incWrap f).str = s.str := rfl
@[simp] theorem State.incWrap_pom (f : Field) : (s.incWrap f).pom = s.pom := rfl
@[simp] theorem State.incWrap_trl (f : Field) : (s.incWrap f).trl = s.trl := rfl
@[simp] theorem State.incWrap_pt (f : Field) : (s.incWrap f).pt = s.pt := rfl
@[simp] theorem State.incWrap_aon (f : Field) : (s.incWrap f).aon = s.aon := rfl
@[simp] theorem State.incWrap_lat (f : Field) : (s.incWrap f).lat = s.lat := rfl
@[simp] theorem State.incWrap_msr (f : Field) : (s.incWrap f).msr = s.msr := rfl
@[simp] theorem State.incWrap_cap (f : Field) : (s.incWrap f).cap = s.cap := rfl
@[simp] theorem State.incWrap_til (f : Field) : (s.incWrap f).til = s.til := rfl
@[simp] theorem State.incWrap_can (f : Field) : (s.incWrap f).can = s.can := rfl
@[simp] theorem State.incWrap_ns (f : Field) : (s.incWrap f).ns = s.ns := rfl
@[simp] theorem State.incWrap_gw (f : Field) : (s.incWrap f).gw = s.gw := rfl
@[simp] theorem State.incWrap_br (f : Field) : (s.incWrap f).br = s.br := rfl
@[simp] theorem State.incWrap_ses (f : Field) : (s.incWrap f).ses = s.ses := rfl
@[simp] theorem State.incWrap_pc (f : Field) : (s.incWrap f).pc = s.pc := rfl
@[simp] theorem State.incWrap_clo (f : Field) : (s.incWrap f).clo = s.clo := rfl
@[simp] theorem State.incWrap_grf (f : Field) : (s.incWrap f).grf = s.grf := rfl
@[simp] theorem State.incWrap_retain (f : Field) : (s.incWrap f).retain = s.retain := rfl
@[simp] theorem State.incWrap_jobs (f : Field) : (s.incWrap f).jobs = s.jobs := rfl
@[simp] theorem State.incWrap_jobSeq (f : Field) : (s.incWrap f).jobSeq = s.jobSeq := rfl
@[simp] theorem State.incWrap_pending (f : Field) : (s.incWrap f).pending = s.pending := rfl

@[simp] theorem State.incSat_arb (f : Field) : (s.incSat f).arb = s.arb := rfl
@[simp] theorem State.incSat_mem (f : Field) : (s.incSat f).mem = s.mem := rfl
@[simp] theorem State.incSat_objs (f : Field) : (s.incSat f).objs = s.objs := rfl
@[simp] theorem State.incSat_objBytes (f : Field) : (s.incSat f).objBytes = s.objBytes := rfl
@[simp] theorem State.incSat_settings (f : Field) : (s.incSat f).settings = s.settings := rfl
@[simp] theorem State.incSat_settingsBytes (f : Field) : (s.incSat f).settingsBytes = s.settingsBytes := rfl
@[simp] theorem State.incSat_now (f : Field) : (s.incSat f).now = s.now := rfl
@[simp] theorem State.incSat_free (f : Field) : (s.incSat f).free = s.free := rfl
@[simp] theorem State.incSat_resp (f : Field) : (s.incSat f).resp = s.resp := rfl
@[simp] theorem State.incSat_out (f : Field) : (s.incSat f).out = s.out := rfl
@[simp] theorem State.incSat_faults (f : Field) : (s.incSat f).faults = s.faults := rfl
@[simp] theorem State.incSat_irqHeld (f : Field) : (s.incSat f).irqHeld = s.irqHeld := rfl
@[simp] theorem State.incSat_furBits (f : Field) : (s.incSat f).furBits = s.furBits := rfl
@[simp] theorem State.incSat_q (f : Field) : (s.incSat f).q = s.q := rfl
@[simp] theorem State.incSat_girth (f : Field) : (s.incSat f).girth = s.girth := rfl
@[simp] theorem State.incSat_partner (f : Field) : (s.incSat f).partner = s.partner := rfl
@[simp] theorem State.incSat_ls (f : Field) : (s.incSat f).ls = s.ls := rfl
@[simp] theorem State.incSat_lsStag (f : Field) : (s.incSat f).lsStag = s.lsStag := rfl
@[simp] theorem State.incSat_lsOver (f : Field) : (s.incSat f).lsOver = s.lsOver := rfl
@[simp] theorem State.incSat_lsKept0 (f : Field) : (s.incSat f).lsKept0 = s.lsKept0 := rfl
@[simp] theorem State.incSat_lsKept1 (f : Field) : (s.incSat f).lsKept1 = s.lsKept1 := rfl
@[simp] theorem State.incSat_dio (f : Field) : (s.incSat f).dio = s.dio := rfl
@[simp] theorem State.incSat_str (f : Field) : (s.incSat f).str = s.str := rfl
@[simp] theorem State.incSat_pom (f : Field) : (s.incSat f).pom = s.pom := rfl
@[simp] theorem State.incSat_trl (f : Field) : (s.incSat f).trl = s.trl := rfl
@[simp] theorem State.incSat_pt (f : Field) : (s.incSat f).pt = s.pt := rfl
@[simp] theorem State.incSat_aon (f : Field) : (s.incSat f).aon = s.aon := rfl
@[simp] theorem State.incSat_lat (f : Field) : (s.incSat f).lat = s.lat := rfl
@[simp] theorem State.incSat_msr (f : Field) : (s.incSat f).msr = s.msr := rfl
@[simp] theorem State.incSat_cap (f : Field) : (s.incSat f).cap = s.cap := rfl
@[simp] theorem State.incSat_til (f : Field) : (s.incSat f).til = s.til := rfl
@[simp] theorem State.incSat_can (f : Field) : (s.incSat f).can = s.can := rfl
@[simp] theorem State.incSat_ns (f : Field) : (s.incSat f).ns = s.ns := rfl
@[simp] theorem State.incSat_gw (f : Field) : (s.incSat f).gw = s.gw := rfl
@[simp] theorem State.incSat_br (f : Field) : (s.incSat f).br = s.br := rfl
@[simp] theorem State.incSat_ses (f : Field) : (s.incSat f).ses = s.ses := rfl
@[simp] theorem State.incSat_pc (f : Field) : (s.incSat f).pc = s.pc := rfl
@[simp] theorem State.incSat_clo (f : Field) : (s.incSat f).clo = s.clo := rfl
@[simp] theorem State.incSat_grf (f : Field) : (s.incSat f).grf = s.grf := rfl
@[simp] theorem State.incSat_retain (f : Field) : (s.incSat f).retain = s.retain := rfl
@[simp] theorem State.incSat_jobs (f : Field) : (s.incSat f).jobs = s.jobs := rfl
@[simp] theorem State.incSat_jobSeq (f : Field) : (s.incSat f).jobSeq = s.jobSeq := rfl
@[simp] theorem State.incSat_pending (f : Field) : (s.incSat f).pending = s.pending := rfl

@[simp] theorem State.resetRegs_arb (lo hi : Nat) : (s.resetRegs lo hi).arb = s.arb := rfl
@[simp] theorem State.resetRegs_mem (lo hi : Nat) : (s.resetRegs lo hi).mem = s.mem := rfl
@[simp] theorem State.resetRegs_objs (lo hi : Nat) : (s.resetRegs lo hi).objs = s.objs := rfl
@[simp] theorem State.resetRegs_objBytes (lo hi : Nat) : (s.resetRegs lo hi).objBytes = s.objBytes := rfl
@[simp] theorem State.resetRegs_settings (lo hi : Nat) : (s.resetRegs lo hi).settings = s.settings := rfl
@[simp] theorem State.resetRegs_settingsBytes (lo hi : Nat) : (s.resetRegs lo hi).settingsBytes = s.settingsBytes := rfl
@[simp] theorem State.resetRegs_now (lo hi : Nat) : (s.resetRegs lo hi).now = s.now := rfl
@[simp] theorem State.resetRegs_free (lo hi : Nat) : (s.resetRegs lo hi).free = s.free := rfl
@[simp] theorem State.resetRegs_resp (lo hi : Nat) : (s.resetRegs lo hi).resp = s.resp := rfl
@[simp] theorem State.resetRegs_out (lo hi : Nat) : (s.resetRegs lo hi).out = s.out := rfl
@[simp] theorem State.resetRegs_faults (lo hi : Nat) : (s.resetRegs lo hi).faults = s.faults := rfl
@[simp] theorem State.resetRegs_irqHeld (lo hi : Nat) : (s.resetRegs lo hi).irqHeld = s.irqHeld := rfl
@[simp] theorem State.resetRegs_furBits (lo hi : Nat) : (s.resetRegs lo hi).furBits = s.furBits := rfl
@[simp] theorem State.resetRegs_q (lo hi : Nat) : (s.resetRegs lo hi).q = s.q := rfl
@[simp] theorem State.resetRegs_girth (lo hi : Nat) : (s.resetRegs lo hi).girth = s.girth := rfl
@[simp] theorem State.resetRegs_partner (lo hi : Nat) : (s.resetRegs lo hi).partner = s.partner := rfl
@[simp] theorem State.resetRegs_ls (lo hi : Nat) : (s.resetRegs lo hi).ls = s.ls := rfl
@[simp] theorem State.resetRegs_lsStag (lo hi : Nat) : (s.resetRegs lo hi).lsStag = s.lsStag := rfl
@[simp] theorem State.resetRegs_lsOver (lo hi : Nat) : (s.resetRegs lo hi).lsOver = s.lsOver := rfl
@[simp] theorem State.resetRegs_lsKept0 (lo hi : Nat) : (s.resetRegs lo hi).lsKept0 = s.lsKept0 := rfl
@[simp] theorem State.resetRegs_lsKept1 (lo hi : Nat) : (s.resetRegs lo hi).lsKept1 = s.lsKept1 := rfl
@[simp] theorem State.resetRegs_dio (lo hi : Nat) : (s.resetRegs lo hi).dio = s.dio := rfl
@[simp] theorem State.resetRegs_str (lo hi : Nat) : (s.resetRegs lo hi).str = s.str := rfl
@[simp] theorem State.resetRegs_pom (lo hi : Nat) : (s.resetRegs lo hi).pom = s.pom := rfl
@[simp] theorem State.resetRegs_trl (lo hi : Nat) : (s.resetRegs lo hi).trl = s.trl := rfl
@[simp] theorem State.resetRegs_pt (lo hi : Nat) : (s.resetRegs lo hi).pt = s.pt := rfl
@[simp] theorem State.resetRegs_aon (lo hi : Nat) : (s.resetRegs lo hi).aon = s.aon := rfl
@[simp] theorem State.resetRegs_lat (lo hi : Nat) : (s.resetRegs lo hi).lat = s.lat := rfl
@[simp] theorem State.resetRegs_msr (lo hi : Nat) : (s.resetRegs lo hi).msr = s.msr := rfl
@[simp] theorem State.resetRegs_cap (lo hi : Nat) : (s.resetRegs lo hi).cap = s.cap := rfl
@[simp] theorem State.resetRegs_til (lo hi : Nat) : (s.resetRegs lo hi).til = s.til := rfl
@[simp] theorem State.resetRegs_can (lo hi : Nat) : (s.resetRegs lo hi).can = s.can := rfl
@[simp] theorem State.resetRegs_ns (lo hi : Nat) : (s.resetRegs lo hi).ns = s.ns := rfl
@[simp] theorem State.resetRegs_gw (lo hi : Nat) : (s.resetRegs lo hi).gw = s.gw := rfl
@[simp] theorem State.resetRegs_br (lo hi : Nat) : (s.resetRegs lo hi).br = s.br := rfl
@[simp] theorem State.resetRegs_ses (lo hi : Nat) : (s.resetRegs lo hi).ses = s.ses := rfl
@[simp] theorem State.resetRegs_pc (lo hi : Nat) : (s.resetRegs lo hi).pc = s.pc := rfl
@[simp] theorem State.resetRegs_clo (lo hi : Nat) : (s.resetRegs lo hi).clo = s.clo := rfl
@[simp] theorem State.resetRegs_grf (lo hi : Nat) : (s.resetRegs lo hi).grf = s.grf := rfl
@[simp] theorem State.resetRegs_retain (lo hi : Nat) : (s.resetRegs lo hi).retain = s.retain := rfl
@[simp] theorem State.resetRegs_jobs (lo hi : Nat) : (s.resetRegs lo hi).jobs = s.jobs := rfl
@[simp] theorem State.resetRegs_jobSeq (lo hi : Nat) : (s.resetRegs lo hi).jobSeq = s.jobSeq := rfl
@[simp] theorem State.resetRegs_pending (lo hi : Nat) : (s.resetRegs lo hi).pending = s.pending := rfl

@[simp] theorem State.answer_regs (c d : Nat) : (s.answer c d).regs = s.regs := rfl
@[simp] theorem State.answer_upd (c d : Nat) : (s.answer c d).upd = s.upd := rfl
@[simp] theorem State.answer_arb (c d : Nat) : (s.answer c d).arb = s.arb := rfl
@[simp] theorem State.answer_mem (c d : Nat) : (s.answer c d).mem = s.mem := rfl
@[simp] theorem State.answer_objs (c d : Nat) : (s.answer c d).objs = s.objs := rfl
@[simp] theorem State.answer_objBytes (c d : Nat) : (s.answer c d).objBytes = s.objBytes := rfl
@[simp] theorem State.answer_settings (c d : Nat) : (s.answer c d).settings = s.settings := rfl
@[simp] theorem State.answer_settingsBytes (c d : Nat) : (s.answer c d).settingsBytes = s.settingsBytes := rfl
@[simp] theorem State.answer_now (c d : Nat) : (s.answer c d).now = s.now := rfl
@[simp] theorem State.answer_free (c d : Nat) : (s.answer c d).free = s.free := rfl
@[simp] theorem State.answer_out (c d : Nat) : (s.answer c d).out = s.out := rfl
@[simp] theorem State.answer_faults (c d : Nat) : (s.answer c d).faults = s.faults := rfl
@[simp] theorem State.answer_irqHeld (c d : Nat) : (s.answer c d).irqHeld = s.irqHeld := rfl
@[simp] theorem State.answer_furBits (c d : Nat) : (s.answer c d).furBits = s.furBits := rfl
@[simp] theorem State.answer_q (c d : Nat) : (s.answer c d).q = s.q := rfl
@[simp] theorem State.answer_girth (c d : Nat) : (s.answer c d).girth = s.girth := rfl
@[simp] theorem State.answer_partner (c d : Nat) : (s.answer c d).partner = s.partner := rfl
@[simp] theorem State.answer_ls (c d : Nat) : (s.answer c d).ls = s.ls := rfl
@[simp] theorem State.answer_lsStag (c d : Nat) : (s.answer c d).lsStag = s.lsStag := rfl
@[simp] theorem State.answer_lsOver (c d : Nat) : (s.answer c d).lsOver = s.lsOver := rfl
@[simp] theorem State.answer_lsKept0 (c d : Nat) : (s.answer c d).lsKept0 = s.lsKept0 := rfl
@[simp] theorem State.answer_lsKept1 (c d : Nat) : (s.answer c d).lsKept1 = s.lsKept1 := rfl
@[simp] theorem State.answer_dio (c d : Nat) : (s.answer c d).dio = s.dio := rfl
@[simp] theorem State.answer_str (c d : Nat) : (s.answer c d).str = s.str := rfl
@[simp] theorem State.answer_pom (c d : Nat) : (s.answer c d).pom = s.pom := rfl
@[simp] theorem State.answer_trl (c d : Nat) : (s.answer c d).trl = s.trl := rfl
@[simp] theorem State.answer_pt (c d : Nat) : (s.answer c d).pt = s.pt := rfl
@[simp] theorem State.answer_aon (c d : Nat) : (s.answer c d).aon = s.aon := rfl
@[simp] theorem State.answer_lat (c d : Nat) : (s.answer c d).lat = s.lat := rfl
@[simp] theorem State.answer_msr (c d : Nat) : (s.answer c d).msr = s.msr := rfl
@[simp] theorem State.answer_cap (c d : Nat) : (s.answer c d).cap = s.cap := rfl
@[simp] theorem State.answer_til (c d : Nat) : (s.answer c d).til = s.til := rfl
@[simp] theorem State.answer_can (c d : Nat) : (s.answer c d).can = s.can := rfl
@[simp] theorem State.answer_ns (c d : Nat) : (s.answer c d).ns = s.ns := rfl
@[simp] theorem State.answer_gw (c d : Nat) : (s.answer c d).gw = s.gw := rfl
@[simp] theorem State.answer_br (c d : Nat) : (s.answer c d).br = s.br := rfl
@[simp] theorem State.answer_ses (c d : Nat) : (s.answer c d).ses = s.ses := rfl
@[simp] theorem State.answer_pc (c d : Nat) : (s.answer c d).pc = s.pc := rfl
@[simp] theorem State.answer_clo (c d : Nat) : (s.answer c d).clo = s.clo := rfl
@[simp] theorem State.answer_grf (c d : Nat) : (s.answer c d).grf = s.grf := rfl
@[simp] theorem State.answer_retain (c d : Nat) : (s.answer c d).retain = s.retain := rfl
@[simp] theorem State.answer_jobs (c d : Nat) : (s.answer c d).jobs = s.jobs := rfl
@[simp] theorem State.answer_jobSeq (c d : Nat) : (s.answer c d).jobSeq = s.jobSeq := rfl
@[simp] theorem State.answer_pending (c d : Nat) : (s.answer c d).pending = s.pending := rfl

@[simp] theorem State.status_regs (c : Nat) : (s.status c).regs = s.regs := rfl
@[simp] theorem State.status_upd (c : Nat) : (s.status c).upd = s.upd := rfl
@[simp] theorem State.status_arb (c : Nat) : (s.status c).arb = s.arb := rfl
@[simp] theorem State.status_mem (c : Nat) : (s.status c).mem = s.mem := rfl
@[simp] theorem State.status_objs (c : Nat) : (s.status c).objs = s.objs := rfl
@[simp] theorem State.status_objBytes (c : Nat) : (s.status c).objBytes = s.objBytes := rfl
@[simp] theorem State.status_settings (c : Nat) : (s.status c).settings = s.settings := rfl
@[simp] theorem State.status_settingsBytes (c : Nat) : (s.status c).settingsBytes = s.settingsBytes := rfl
@[simp] theorem State.status_now (c : Nat) : (s.status c).now = s.now := rfl
@[simp] theorem State.status_free (c : Nat) : (s.status c).free = s.free := rfl
@[simp] theorem State.status_out (c : Nat) : (s.status c).out = s.out := rfl
@[simp] theorem State.status_faults (c : Nat) : (s.status c).faults = s.faults := rfl
@[simp] theorem State.status_irqHeld (c : Nat) : (s.status c).irqHeld = s.irqHeld := rfl
@[simp] theorem State.status_furBits (c : Nat) : (s.status c).furBits = s.furBits := rfl
@[simp] theorem State.status_q (c : Nat) : (s.status c).q = s.q := rfl
@[simp] theorem State.status_girth (c : Nat) : (s.status c).girth = s.girth := rfl
@[simp] theorem State.status_partner (c : Nat) : (s.status c).partner = s.partner := rfl
@[simp] theorem State.status_ls (c : Nat) : (s.status c).ls = s.ls := rfl
@[simp] theorem State.status_lsStag (c : Nat) : (s.status c).lsStag = s.lsStag := rfl
@[simp] theorem State.status_lsOver (c : Nat) : (s.status c).lsOver = s.lsOver := rfl
@[simp] theorem State.status_lsKept0 (c : Nat) : (s.status c).lsKept0 = s.lsKept0 := rfl
@[simp] theorem State.status_lsKept1 (c : Nat) : (s.status c).lsKept1 = s.lsKept1 := rfl
@[simp] theorem State.status_dio (c : Nat) : (s.status c).dio = s.dio := rfl
@[simp] theorem State.status_str (c : Nat) : (s.status c).str = s.str := rfl
@[simp] theorem State.status_pom (c : Nat) : (s.status c).pom = s.pom := rfl
@[simp] theorem State.status_trl (c : Nat) : (s.status c).trl = s.trl := rfl
@[simp] theorem State.status_pt (c : Nat) : (s.status c).pt = s.pt := rfl
@[simp] theorem State.status_aon (c : Nat) : (s.status c).aon = s.aon := rfl
@[simp] theorem State.status_lat (c : Nat) : (s.status c).lat = s.lat := rfl
@[simp] theorem State.status_msr (c : Nat) : (s.status c).msr = s.msr := rfl
@[simp] theorem State.status_cap (c : Nat) : (s.status c).cap = s.cap := rfl
@[simp] theorem State.status_til (c : Nat) : (s.status c).til = s.til := rfl
@[simp] theorem State.status_can (c : Nat) : (s.status c).can = s.can := rfl
@[simp] theorem State.status_ns (c : Nat) : (s.status c).ns = s.ns := rfl
@[simp] theorem State.status_gw (c : Nat) : (s.status c).gw = s.gw := rfl
@[simp] theorem State.status_br (c : Nat) : (s.status c).br = s.br := rfl
@[simp] theorem State.status_ses (c : Nat) : (s.status c).ses = s.ses := rfl
@[simp] theorem State.status_pc (c : Nat) : (s.status c).pc = s.pc := rfl
@[simp] theorem State.status_clo (c : Nat) : (s.status c).clo = s.clo := rfl
@[simp] theorem State.status_grf (c : Nat) : (s.status c).grf = s.grf := rfl
@[simp] theorem State.status_retain (c : Nat) : (s.status c).retain = s.retain := rfl
@[simp] theorem State.status_jobs (c : Nat) : (s.status c).jobs = s.jobs := rfl
@[simp] theorem State.status_jobSeq (c : Nat) : (s.status c).jobSeq = s.jobSeq := rfl
@[simp] theorem State.status_pending (c : Nat) : (s.status c).pending = s.pending := rfl

@[simp] theorem State.emit_regs (o : Out) : (s.emit o).regs = s.regs := rfl
@[simp] theorem State.emit_upd (o : Out) : (s.emit o).upd = s.upd := rfl
@[simp] theorem State.emit_arb (o : Out) : (s.emit o).arb = s.arb := rfl
@[simp] theorem State.emit_mem (o : Out) : (s.emit o).mem = s.mem := rfl
@[simp] theorem State.emit_objs (o : Out) : (s.emit o).objs = s.objs := rfl
@[simp] theorem State.emit_objBytes (o : Out) : (s.emit o).objBytes = s.objBytes := rfl
@[simp] theorem State.emit_settings (o : Out) : (s.emit o).settings = s.settings := rfl
@[simp] theorem State.emit_settingsBytes (o : Out) : (s.emit o).settingsBytes = s.settingsBytes := rfl
@[simp] theorem State.emit_now (o : Out) : (s.emit o).now = s.now := rfl
@[simp] theorem State.emit_free (o : Out) : (s.emit o).free = s.free := rfl
@[simp] theorem State.emit_resp (o : Out) : (s.emit o).resp = s.resp := rfl
@[simp] theorem State.emit_faults (o : Out) : (s.emit o).faults = s.faults := rfl
@[simp] theorem State.emit_irqHeld (o : Out) : (s.emit o).irqHeld = s.irqHeld := rfl
@[simp] theorem State.emit_furBits (o : Out) : (s.emit o).furBits = s.furBits := rfl
@[simp] theorem State.emit_q (o : Out) : (s.emit o).q = s.q := rfl
@[simp] theorem State.emit_girth (o : Out) : (s.emit o).girth = s.girth := rfl
@[simp] theorem State.emit_partner (o : Out) : (s.emit o).partner = s.partner := rfl
@[simp] theorem State.emit_ls (o : Out) : (s.emit o).ls = s.ls := rfl
@[simp] theorem State.emit_lsStag (o : Out) : (s.emit o).lsStag = s.lsStag := rfl
@[simp] theorem State.emit_lsOver (o : Out) : (s.emit o).lsOver = s.lsOver := rfl
@[simp] theorem State.emit_lsKept0 (o : Out) : (s.emit o).lsKept0 = s.lsKept0 := rfl
@[simp] theorem State.emit_lsKept1 (o : Out) : (s.emit o).lsKept1 = s.lsKept1 := rfl
@[simp] theorem State.emit_dio (o : Out) : (s.emit o).dio = s.dio := rfl
@[simp] theorem State.emit_str (o : Out) : (s.emit o).str = s.str := rfl
@[simp] theorem State.emit_pom (o : Out) : (s.emit o).pom = s.pom := rfl
@[simp] theorem State.emit_trl (o : Out) : (s.emit o).trl = s.trl := rfl
@[simp] theorem State.emit_pt (o : Out) : (s.emit o).pt = s.pt := rfl
@[simp] theorem State.emit_aon (o : Out) : (s.emit o).aon = s.aon := rfl
@[simp] theorem State.emit_lat (o : Out) : (s.emit o).lat = s.lat := rfl
@[simp] theorem State.emit_msr (o : Out) : (s.emit o).msr = s.msr := rfl
@[simp] theorem State.emit_cap (o : Out) : (s.emit o).cap = s.cap := rfl
@[simp] theorem State.emit_til (o : Out) : (s.emit o).til = s.til := rfl
@[simp] theorem State.emit_can (o : Out) : (s.emit o).can = s.can := rfl
@[simp] theorem State.emit_ns (o : Out) : (s.emit o).ns = s.ns := rfl
@[simp] theorem State.emit_gw (o : Out) : (s.emit o).gw = s.gw := rfl
@[simp] theorem State.emit_br (o : Out) : (s.emit o).br = s.br := rfl
@[simp] theorem State.emit_ses (o : Out) : (s.emit o).ses = s.ses := rfl
@[simp] theorem State.emit_pc (o : Out) : (s.emit o).pc = s.pc := rfl
@[simp] theorem State.emit_clo (o : Out) : (s.emit o).clo = s.clo := rfl
@[simp] theorem State.emit_grf (o : Out) : (s.emit o).grf = s.grf := rfl
@[simp] theorem State.emit_retain (o : Out) : (s.emit o).retain = s.retain := rfl
@[simp] theorem State.emit_jobs (o : Out) : (s.emit o).jobs = s.jobs := rfl
@[simp] theorem State.emit_jobSeq (o : Out) : (s.emit o).jobSeq = s.jobSeq := rfl
@[simp] theorem State.emit_pending (o : Out) : (s.emit o).pending = s.pending := rfl

@[simp] theorem State.hwFault_regs (c i : Nat) : (s.hwFault c i).regs = s.regs := rfl
@[simp] theorem State.hwFault_upd (c i : Nat) : (s.hwFault c i).upd = s.upd := rfl
@[simp] theorem State.hwFault_arb (c i : Nat) : (s.hwFault c i).arb = s.arb := rfl
@[simp] theorem State.hwFault_mem (c i : Nat) : (s.hwFault c i).mem = s.mem := rfl
@[simp] theorem State.hwFault_objs (c i : Nat) : (s.hwFault c i).objs = s.objs := rfl
@[simp] theorem State.hwFault_objBytes (c i : Nat) : (s.hwFault c i).objBytes = s.objBytes := rfl
@[simp] theorem State.hwFault_settings (c i : Nat) : (s.hwFault c i).settings = s.settings := rfl
@[simp] theorem State.hwFault_settingsBytes (c i : Nat) : (s.hwFault c i).settingsBytes = s.settingsBytes := rfl
@[simp] theorem State.hwFault_now (c i : Nat) : (s.hwFault c i).now = s.now := rfl
@[simp] theorem State.hwFault_free (c i : Nat) : (s.hwFault c i).free = s.free := rfl
@[simp] theorem State.hwFault_resp (c i : Nat) : (s.hwFault c i).resp = s.resp := rfl
@[simp] theorem State.hwFault_out (c i : Nat) : (s.hwFault c i).out = s.out := rfl
@[simp] theorem State.hwFault_irqHeld (c i : Nat) : (s.hwFault c i).irqHeld = s.irqHeld := rfl
@[simp] theorem State.hwFault_furBits (c i : Nat) : (s.hwFault c i).furBits = s.furBits := rfl
@[simp] theorem State.hwFault_q (c i : Nat) : (s.hwFault c i).q = s.q := rfl
@[simp] theorem State.hwFault_girth (c i : Nat) : (s.hwFault c i).girth = s.girth := rfl
@[simp] theorem State.hwFault_partner (c i : Nat) : (s.hwFault c i).partner = s.partner := rfl
@[simp] theorem State.hwFault_ls (c i : Nat) : (s.hwFault c i).ls = s.ls := rfl
@[simp] theorem State.hwFault_lsStag (c i : Nat) : (s.hwFault c i).lsStag = s.lsStag := rfl
@[simp] theorem State.hwFault_lsOver (c i : Nat) : (s.hwFault c i).lsOver = s.lsOver := rfl
@[simp] theorem State.hwFault_lsKept0 (c i : Nat) : (s.hwFault c i).lsKept0 = s.lsKept0 := rfl
@[simp] theorem State.hwFault_lsKept1 (c i : Nat) : (s.hwFault c i).lsKept1 = s.lsKept1 := rfl
@[simp] theorem State.hwFault_dio (c i : Nat) : (s.hwFault c i).dio = s.dio := rfl
@[simp] theorem State.hwFault_str (c i : Nat) : (s.hwFault c i).str = s.str := rfl
@[simp] theorem State.hwFault_pom (c i : Nat) : (s.hwFault c i).pom = s.pom := rfl
@[simp] theorem State.hwFault_trl (c i : Nat) : (s.hwFault c i).trl = s.trl := rfl
@[simp] theorem State.hwFault_pt (c i : Nat) : (s.hwFault c i).pt = s.pt := rfl
@[simp] theorem State.hwFault_aon (c i : Nat) : (s.hwFault c i).aon = s.aon := rfl
@[simp] theorem State.hwFault_lat (c i : Nat) : (s.hwFault c i).lat = s.lat := rfl
@[simp] theorem State.hwFault_msr (c i : Nat) : (s.hwFault c i).msr = s.msr := rfl
@[simp] theorem State.hwFault_cap (c i : Nat) : (s.hwFault c i).cap = s.cap := rfl
@[simp] theorem State.hwFault_til (c i : Nat) : (s.hwFault c i).til = s.til := rfl
@[simp] theorem State.hwFault_can (c i : Nat) : (s.hwFault c i).can = s.can := rfl
@[simp] theorem State.hwFault_ns (c i : Nat) : (s.hwFault c i).ns = s.ns := rfl
@[simp] theorem State.hwFault_gw (c i : Nat) : (s.hwFault c i).gw = s.gw := rfl
@[simp] theorem State.hwFault_br (c i : Nat) : (s.hwFault c i).br = s.br := rfl
@[simp] theorem State.hwFault_ses (c i : Nat) : (s.hwFault c i).ses = s.ses := rfl
@[simp] theorem State.hwFault_pc (c i : Nat) : (s.hwFault c i).pc = s.pc := rfl
@[simp] theorem State.hwFault_clo (c i : Nat) : (s.hwFault c i).clo = s.clo := rfl
@[simp] theorem State.hwFault_grf (c i : Nat) : (s.hwFault c i).grf = s.grf := rfl
@[simp] theorem State.hwFault_retain (c i : Nat) : (s.hwFault c i).retain = s.retain := rfl
@[simp] theorem State.hwFault_jobs (c i : Nat) : (s.hwFault c i).jobs = s.jobs := rfl
@[simp] theorem State.hwFault_jobSeq (c i : Nat) : (s.hwFault c i).jobSeq = s.jobSeq := rfl
@[simp] theorem State.hwFault_pending (c i : Nat) : (s.hwFault c i).pending = s.pending := rfl

@[simp] theorem State.took_regs : (s.took).regs = s.regs := rfl
@[simp] theorem State.took_upd : (s.took).upd = s.upd := rfl
@[simp] theorem State.took_arb : (s.took).arb = s.arb := rfl
@[simp] theorem State.took_mem : (s.took).mem = s.mem := rfl
@[simp] theorem State.took_objs : (s.took).objs = s.objs := rfl
@[simp] theorem State.took_objBytes : (s.took).objBytes = s.objBytes := rfl
@[simp] theorem State.took_settings : (s.took).settings = s.settings := rfl
@[simp] theorem State.took_settingsBytes : (s.took).settingsBytes = s.settingsBytes := rfl
@[simp] theorem State.took_now : (s.took).now = s.now := rfl
@[simp] theorem State.took_resp : (s.took).resp = s.resp := rfl
@[simp] theorem State.took_out : (s.took).out = s.out := rfl
@[simp] theorem State.took_faults : (s.took).faults = s.faults := rfl
@[simp] theorem State.took_irqHeld : (s.took).irqHeld = s.irqHeld := rfl
@[simp] theorem State.took_furBits : (s.took).furBits = s.furBits := rfl
@[simp] theorem State.took_q : (s.took).q = s.q := rfl
@[simp] theorem State.took_girth : (s.took).girth = s.girth := rfl
@[simp] theorem State.took_partner : (s.took).partner = s.partner := rfl
@[simp] theorem State.took_ls : (s.took).ls = s.ls := rfl
@[simp] theorem State.took_lsStag : (s.took).lsStag = s.lsStag := rfl
@[simp] theorem State.took_lsOver : (s.took).lsOver = s.lsOver := rfl
@[simp] theorem State.took_lsKept0 : (s.took).lsKept0 = s.lsKept0 := rfl
@[simp] theorem State.took_lsKept1 : (s.took).lsKept1 = s.lsKept1 := rfl
@[simp] theorem State.took_dio : (s.took).dio = s.dio := rfl
@[simp] theorem State.took_str : (s.took).str = s.str := rfl
@[simp] theorem State.took_pom : (s.took).pom = s.pom := rfl
@[simp] theorem State.took_trl : (s.took).trl = s.trl := rfl
@[simp] theorem State.took_pt : (s.took).pt = s.pt := rfl
@[simp] theorem State.took_aon : (s.took).aon = s.aon := rfl
@[simp] theorem State.took_lat : (s.took).lat = s.lat := rfl
@[simp] theorem State.took_msr : (s.took).msr = s.msr := rfl
@[simp] theorem State.took_cap : (s.took).cap = s.cap := rfl
@[simp] theorem State.took_til : (s.took).til = s.til := rfl
@[simp] theorem State.took_can : (s.took).can = s.can := rfl
@[simp] theorem State.took_ns : (s.took).ns = s.ns := rfl
@[simp] theorem State.took_gw : (s.took).gw = s.gw := rfl
@[simp] theorem State.took_br : (s.took).br = s.br := rfl
@[simp] theorem State.took_ses : (s.took).ses = s.ses := rfl
@[simp] theorem State.took_pc : (s.took).pc = s.pc := rfl
@[simp] theorem State.took_clo : (s.took).clo = s.clo := rfl
@[simp] theorem State.took_grf : (s.took).grf = s.grf := rfl
@[simp] theorem State.took_retain : (s.took).retain = s.retain := rfl
@[simp] theorem State.took_jobs : (s.took).jobs = s.jobs := rfl
@[simp] theorem State.took_jobSeq : (s.took).jobSeq = s.jobSeq := rfl
@[simp] theorem State.took_pending : (s.took).pending = s.pending := rfl

@[simp] theorem State.putByte_regs (a : Nat) (v : Byte) : (s.putByte a v).regs = s.regs := rfl
@[simp] theorem State.putByte_upd (a : Nat) (v : Byte) : (s.putByte a v).upd = s.upd := rfl
@[simp] theorem State.putByte_arb (a : Nat) (v : Byte) : (s.putByte a v).arb = s.arb := rfl
@[simp] theorem State.putByte_objs (a : Nat) (v : Byte) : (s.putByte a v).objs = s.objs := rfl
@[simp] theorem State.putByte_objBytes (a : Nat) (v : Byte) : (s.putByte a v).objBytes = s.objBytes := rfl
@[simp] theorem State.putByte_settings (a : Nat) (v : Byte) : (s.putByte a v).settings = s.settings := rfl
@[simp] theorem State.putByte_settingsBytes (a : Nat) (v : Byte) : (s.putByte a v).settingsBytes = s.settingsBytes := rfl
@[simp] theorem State.putByte_now (a : Nat) (v : Byte) : (s.putByte a v).now = s.now := rfl
@[simp] theorem State.putByte_free (a : Nat) (v : Byte) : (s.putByte a v).free = s.free := rfl
@[simp] theorem State.putByte_resp (a : Nat) (v : Byte) : (s.putByte a v).resp = s.resp := rfl
@[simp] theorem State.putByte_out (a : Nat) (v : Byte) : (s.putByte a v).out = s.out := rfl
@[simp] theorem State.putByte_faults (a : Nat) (v : Byte) : (s.putByte a v).faults = s.faults := rfl
@[simp] theorem State.putByte_irqHeld (a : Nat) (v : Byte) : (s.putByte a v).irqHeld = s.irqHeld := rfl
@[simp] theorem State.putByte_furBits (a : Nat) (v : Byte) : (s.putByte a v).furBits = s.furBits := rfl
@[simp] theorem State.putByte_q (a : Nat) (v : Byte) : (s.putByte a v).q = s.q := rfl
@[simp] theorem State.putByte_girth (a : Nat) (v : Byte) : (s.putByte a v).girth = s.girth := rfl
@[simp] theorem State.putByte_partner (a : Nat) (v : Byte) : (s.putByte a v).partner = s.partner := rfl
@[simp] theorem State.putByte_ls (a : Nat) (v : Byte) : (s.putByte a v).ls = s.ls := rfl
@[simp] theorem State.putByte_lsStag (a : Nat) (v : Byte) : (s.putByte a v).lsStag = s.lsStag := rfl
@[simp] theorem State.putByte_lsOver (a : Nat) (v : Byte) : (s.putByte a v).lsOver = s.lsOver := rfl
@[simp] theorem State.putByte_lsKept0 (a : Nat) (v : Byte) : (s.putByte a v).lsKept0 = s.lsKept0 := rfl
@[simp] theorem State.putByte_lsKept1 (a : Nat) (v : Byte) : (s.putByte a v).lsKept1 = s.lsKept1 := rfl
@[simp] theorem State.putByte_dio (a : Nat) (v : Byte) : (s.putByte a v).dio = s.dio := rfl
@[simp] theorem State.putByte_str (a : Nat) (v : Byte) : (s.putByte a v).str = s.str := rfl
@[simp] theorem State.putByte_pom (a : Nat) (v : Byte) : (s.putByte a v).pom = s.pom := rfl
@[simp] theorem State.putByte_trl (a : Nat) (v : Byte) : (s.putByte a v).trl = s.trl := rfl
@[simp] theorem State.putByte_pt (a : Nat) (v : Byte) : (s.putByte a v).pt = s.pt := rfl
@[simp] theorem State.putByte_aon (a : Nat) (v : Byte) : (s.putByte a v).aon = s.aon := rfl
@[simp] theorem State.putByte_lat (a : Nat) (v : Byte) : (s.putByte a v).lat = s.lat := rfl
@[simp] theorem State.putByte_msr (a : Nat) (v : Byte) : (s.putByte a v).msr = s.msr := rfl
@[simp] theorem State.putByte_cap (a : Nat) (v : Byte) : (s.putByte a v).cap = s.cap := rfl
@[simp] theorem State.putByte_til (a : Nat) (v : Byte) : (s.putByte a v).til = s.til := rfl
@[simp] theorem State.putByte_can (a : Nat) (v : Byte) : (s.putByte a v).can = s.can := rfl
@[simp] theorem State.putByte_ns (a : Nat) (v : Byte) : (s.putByte a v).ns = s.ns := rfl
@[simp] theorem State.putByte_gw (a : Nat) (v : Byte) : (s.putByte a v).gw = s.gw := rfl
@[simp] theorem State.putByte_br (a : Nat) (v : Byte) : (s.putByte a v).br = s.br := rfl
@[simp] theorem State.putByte_ses (a : Nat) (v : Byte) : (s.putByte a v).ses = s.ses := rfl
@[simp] theorem State.putByte_pc (a : Nat) (v : Byte) : (s.putByte a v).pc = s.pc := rfl
@[simp] theorem State.putByte_clo (a : Nat) (v : Byte) : (s.putByte a v).clo = s.clo := rfl
@[simp] theorem State.putByte_grf (a : Nat) (v : Byte) : (s.putByte a v).grf = s.grf := rfl
@[simp] theorem State.putByte_retain (a : Nat) (v : Byte) : (s.putByte a v).retain = s.retain := rfl
@[simp] theorem State.putByte_jobs (a : Nat) (v : Byte) : (s.putByte a v).jobs = s.jobs := rfl
@[simp] theorem State.putByte_jobSeq (a : Nat) (v : Byte) : (s.putByte a v).jobSeq = s.jobSeq := rfl
@[simp] theorem State.putByte_pending (a : Nat) (v : Byte) : (s.putByte a v).pending = s.pending := rfl

@[simp] theorem State.dropMem_regs (lo hi : Nat) : (s.dropMem lo hi).regs = s.regs := rfl
@[simp] theorem State.dropMem_upd (lo hi : Nat) : (s.dropMem lo hi).upd = s.upd := rfl
@[simp] theorem State.dropMem_arb (lo hi : Nat) : (s.dropMem lo hi).arb = s.arb := rfl
@[simp] theorem State.dropMem_objs (lo hi : Nat) : (s.dropMem lo hi).objs = s.objs := rfl
@[simp] theorem State.dropMem_objBytes (lo hi : Nat) : (s.dropMem lo hi).objBytes = s.objBytes := rfl
@[simp] theorem State.dropMem_settings (lo hi : Nat) : (s.dropMem lo hi).settings = s.settings := rfl
@[simp] theorem State.dropMem_settingsBytes (lo hi : Nat) : (s.dropMem lo hi).settingsBytes = s.settingsBytes := rfl
@[simp] theorem State.dropMem_now (lo hi : Nat) : (s.dropMem lo hi).now = s.now := rfl
@[simp] theorem State.dropMem_free (lo hi : Nat) : (s.dropMem lo hi).free = s.free := rfl
@[simp] theorem State.dropMem_resp (lo hi : Nat) : (s.dropMem lo hi).resp = s.resp := rfl
@[simp] theorem State.dropMem_out (lo hi : Nat) : (s.dropMem lo hi).out = s.out := rfl
@[simp] theorem State.dropMem_faults (lo hi : Nat) : (s.dropMem lo hi).faults = s.faults := rfl
@[simp] theorem State.dropMem_irqHeld (lo hi : Nat) : (s.dropMem lo hi).irqHeld = s.irqHeld := rfl
@[simp] theorem State.dropMem_q (lo hi : Nat) : (s.dropMem lo hi).q = s.q := rfl
@[simp] theorem State.dropMem_girth (lo hi : Nat) : (s.dropMem lo hi).girth = s.girth := rfl
@[simp] theorem State.dropMem_partner (lo hi : Nat) : (s.dropMem lo hi).partner = s.partner := rfl
@[simp] theorem State.dropMem_ls (lo hi : Nat) : (s.dropMem lo hi).ls = s.ls := rfl
@[simp] theorem State.dropMem_lsStag (lo hi : Nat) : (s.dropMem lo hi).lsStag = s.lsStag := rfl
@[simp] theorem State.dropMem_lsOver (lo hi : Nat) : (s.dropMem lo hi).lsOver = s.lsOver := rfl
@[simp] theorem State.dropMem_lsKept0 (lo hi : Nat) : (s.dropMem lo hi).lsKept0 = s.lsKept0 := rfl
@[simp] theorem State.dropMem_lsKept1 (lo hi : Nat) : (s.dropMem lo hi).lsKept1 = s.lsKept1 := rfl
@[simp] theorem State.dropMem_dio (lo hi : Nat) : (s.dropMem lo hi).dio = s.dio := rfl
@[simp] theorem State.dropMem_str (lo hi : Nat) : (s.dropMem lo hi).str = s.str := rfl
@[simp] theorem State.dropMem_pom (lo hi : Nat) : (s.dropMem lo hi).pom = s.pom := rfl
@[simp] theorem State.dropMem_trl (lo hi : Nat) : (s.dropMem lo hi).trl = s.trl := rfl
@[simp] theorem State.dropMem_pt (lo hi : Nat) : (s.dropMem lo hi).pt = s.pt := rfl
@[simp] theorem State.dropMem_aon (lo hi : Nat) : (s.dropMem lo hi).aon = s.aon := rfl
@[simp] theorem State.dropMem_lat (lo hi : Nat) : (s.dropMem lo hi).lat = s.lat := rfl
@[simp] theorem State.dropMem_msr (lo hi : Nat) : (s.dropMem lo hi).msr = s.msr := rfl
@[simp] theorem State.dropMem_cap (lo hi : Nat) : (s.dropMem lo hi).cap = s.cap := rfl
@[simp] theorem State.dropMem_til (lo hi : Nat) : (s.dropMem lo hi).til = s.til := rfl
@[simp] theorem State.dropMem_can (lo hi : Nat) : (s.dropMem lo hi).can = s.can := rfl
@[simp] theorem State.dropMem_ns (lo hi : Nat) : (s.dropMem lo hi).ns = s.ns := rfl
@[simp] theorem State.dropMem_gw (lo hi : Nat) : (s.dropMem lo hi).gw = s.gw := rfl
@[simp] theorem State.dropMem_br (lo hi : Nat) : (s.dropMem lo hi).br = s.br := rfl
@[simp] theorem State.dropMem_ses (lo hi : Nat) : (s.dropMem lo hi).ses = s.ses := rfl
@[simp] theorem State.dropMem_pc (lo hi : Nat) : (s.dropMem lo hi).pc = s.pc := rfl
@[simp] theorem State.dropMem_clo (lo hi : Nat) : (s.dropMem lo hi).clo = s.clo := rfl
@[simp] theorem State.dropMem_grf (lo hi : Nat) : (s.dropMem lo hi).grf = s.grf := rfl
@[simp] theorem State.dropMem_retain (lo hi : Nat) : (s.dropMem lo hi).retain = s.retain := rfl
@[simp] theorem State.dropMem_jobs (lo hi : Nat) : (s.dropMem lo hi).jobs = s.jobs := rfl
@[simp] theorem State.dropMem_jobSeq (lo hi : Nat) : (s.dropMem lo hi).jobSeq = s.jobSeq := rfl
@[simp] theorem State.dropMem_pending (lo hi : Nat) : (s.dropMem lo hi).pending = s.pending := rfl

@[simp] theorem State.setObj_regs (i j v : Nat) : (s.setObj i j v).regs = s.regs := rfl
@[simp] theorem State.setObj_upd (i j v : Nat) : (s.setObj i j v).upd = s.upd := rfl
@[simp] theorem State.setObj_arb (i j v : Nat) : (s.setObj i j v).arb = s.arb := rfl
@[simp] theorem State.setObj_mem (i j v : Nat) : (s.setObj i j v).mem = s.mem := rfl
@[simp] theorem State.setObj_objBytes (i j v : Nat) : (s.setObj i j v).objBytes = s.objBytes := rfl
@[simp] theorem State.setObj_settings (i j v : Nat) : (s.setObj i j v).settings = s.settings := rfl
@[simp] theorem State.setObj_settingsBytes (i j v : Nat) : (s.setObj i j v).settingsBytes = s.settingsBytes := rfl
@[simp] theorem State.setObj_now (i j v : Nat) : (s.setObj i j v).now = s.now := rfl
@[simp] theorem State.setObj_free (i j v : Nat) : (s.setObj i j v).free = s.free := rfl
@[simp] theorem State.setObj_resp (i j v : Nat) : (s.setObj i j v).resp = s.resp := rfl
@[simp] theorem State.setObj_out (i j v : Nat) : (s.setObj i j v).out = s.out := rfl
@[simp] theorem State.setObj_faults (i j v : Nat) : (s.setObj i j v).faults = s.faults := rfl
@[simp] theorem State.setObj_irqHeld (i j v : Nat) : (s.setObj i j v).irqHeld = s.irqHeld := rfl
@[simp] theorem State.setObj_furBits (i j v : Nat) : (s.setObj i j v).furBits = s.furBits := rfl
@[simp] theorem State.setObj_q (i j v : Nat) : (s.setObj i j v).q = s.q := rfl
@[simp] theorem State.setObj_girth (i j v : Nat) : (s.setObj i j v).girth = s.girth := rfl
@[simp] theorem State.setObj_partner (i j v : Nat) : (s.setObj i j v).partner = s.partner := rfl
@[simp] theorem State.setObj_ls (i j v : Nat) : (s.setObj i j v).ls = s.ls := rfl
@[simp] theorem State.setObj_lsStag (i j v : Nat) : (s.setObj i j v).lsStag = s.lsStag := rfl
@[simp] theorem State.setObj_lsOver (i j v : Nat) : (s.setObj i j v).lsOver = s.lsOver := rfl
@[simp] theorem State.setObj_lsKept0 (i j v : Nat) : (s.setObj i j v).lsKept0 = s.lsKept0 := rfl
@[simp] theorem State.setObj_lsKept1 (i j v : Nat) : (s.setObj i j v).lsKept1 = s.lsKept1 := rfl
@[simp] theorem State.setObj_dio (i j v : Nat) : (s.setObj i j v).dio = s.dio := rfl
@[simp] theorem State.setObj_str (i j v : Nat) : (s.setObj i j v).str = s.str := rfl
@[simp] theorem State.setObj_pom (i j v : Nat) : (s.setObj i j v).pom = s.pom := rfl
@[simp] theorem State.setObj_trl (i j v : Nat) : (s.setObj i j v).trl = s.trl := rfl
@[simp] theorem State.setObj_pt (i j v : Nat) : (s.setObj i j v).pt = s.pt := rfl
@[simp] theorem State.setObj_aon (i j v : Nat) : (s.setObj i j v).aon = s.aon := rfl
@[simp] theorem State.setObj_lat (i j v : Nat) : (s.setObj i j v).lat = s.lat := rfl
@[simp] theorem State.setObj_msr (i j v : Nat) : (s.setObj i j v).msr = s.msr := rfl
@[simp] theorem State.setObj_cap (i j v : Nat) : (s.setObj i j v).cap = s.cap := rfl
@[simp] theorem State.setObj_til (i j v : Nat) : (s.setObj i j v).til = s.til := rfl
@[simp] theorem State.setObj_can (i j v : Nat) : (s.setObj i j v).can = s.can := rfl
@[simp] theorem State.setObj_ns (i j v : Nat) : (s.setObj i j v).ns = s.ns := rfl
@[simp] theorem State.setObj_gw (i j v : Nat) : (s.setObj i j v).gw = s.gw := rfl
@[simp] theorem State.setObj_br (i j v : Nat) : (s.setObj i j v).br = s.br := rfl
@[simp] theorem State.setObj_ses (i j v : Nat) : (s.setObj i j v).ses = s.ses := rfl
@[simp] theorem State.setObj_pc (i j v : Nat) : (s.setObj i j v).pc = s.pc := rfl
@[simp] theorem State.setObj_clo (i j v : Nat) : (s.setObj i j v).clo = s.clo := rfl
@[simp] theorem State.setObj_grf (i j v : Nat) : (s.setObj i j v).grf = s.grf := rfl
@[simp] theorem State.setObj_retain (i j v : Nat) : (s.setObj i j v).retain = s.retain := rfl
@[simp] theorem State.setObj_jobs (i j v : Nat) : (s.setObj i j v).jobs = s.jobs := rfl
@[simp] theorem State.setObj_jobSeq (i j v : Nat) : (s.setObj i j v).jobSeq = s.jobSeq := rfl
@[simp] theorem State.setObj_pending (i j v : Nat) : (s.setObj i j v).pending = s.pending := rfl

@[simp] theorem State.setQueue_regs (q : Nat) (x : QueueSt) : (s.setQueue q x).regs = s.regs := rfl
@[simp] theorem State.setQueue_upd (q : Nat) (x : QueueSt) : (s.setQueue q x).upd = s.upd := rfl
@[simp] theorem State.setQueue_arb (q : Nat) (x : QueueSt) : (s.setQueue q x).arb = s.arb := rfl
@[simp] theorem State.setQueue_mem (q : Nat) (x : QueueSt) : (s.setQueue q x).mem = s.mem := rfl
@[simp] theorem State.setQueue_objs (q : Nat) (x : QueueSt) : (s.setQueue q x).objs = s.objs := rfl
@[simp] theorem State.setQueue_objBytes (q : Nat) (x : QueueSt) : (s.setQueue q x).objBytes = s.objBytes := rfl
@[simp] theorem State.setQueue_settings (q : Nat) (x : QueueSt) : (s.setQueue q x).settings = s.settings := rfl
@[simp] theorem State.setQueue_settingsBytes (q : Nat) (x : QueueSt) : (s.setQueue q x).settingsBytes = s.settingsBytes := rfl
@[simp] theorem State.setQueue_now (q : Nat) (x : QueueSt) : (s.setQueue q x).now = s.now := rfl
@[simp] theorem State.setQueue_free (q : Nat) (x : QueueSt) : (s.setQueue q x).free = s.free := rfl
@[simp] theorem State.setQueue_resp (q : Nat) (x : QueueSt) : (s.setQueue q x).resp = s.resp := rfl
@[simp] theorem State.setQueue_out (q : Nat) (x : QueueSt) : (s.setQueue q x).out = s.out := rfl
@[simp] theorem State.setQueue_faults (q : Nat) (x : QueueSt) : (s.setQueue q x).faults = s.faults := rfl
@[simp] theorem State.setQueue_irqHeld (q : Nat) (x : QueueSt) : (s.setQueue q x).irqHeld = s.irqHeld := rfl
@[simp] theorem State.setQueue_furBits (q : Nat) (x : QueueSt) : (s.setQueue q x).furBits = s.furBits := rfl
@[simp] theorem State.setQueue_girth (q : Nat) (x : QueueSt) : (s.setQueue q x).girth = s.girth := rfl
@[simp] theorem State.setQueue_partner (q : Nat) (x : QueueSt) : (s.setQueue q x).partner = s.partner := rfl
@[simp] theorem State.setQueue_ls (q : Nat) (x : QueueSt) : (s.setQueue q x).ls = s.ls := rfl
@[simp] theorem State.setQueue_lsStag (q : Nat) (x : QueueSt) : (s.setQueue q x).lsStag = s.lsStag := rfl
@[simp] theorem State.setQueue_lsOver (q : Nat) (x : QueueSt) : (s.setQueue q x).lsOver = s.lsOver := rfl
@[simp] theorem State.setQueue_lsKept0 (q : Nat) (x : QueueSt) : (s.setQueue q x).lsKept0 = s.lsKept0 := rfl
@[simp] theorem State.setQueue_lsKept1 (q : Nat) (x : QueueSt) : (s.setQueue q x).lsKept1 = s.lsKept1 := rfl
@[simp] theorem State.setQueue_dio (q : Nat) (x : QueueSt) : (s.setQueue q x).dio = s.dio := rfl
@[simp] theorem State.setQueue_str (q : Nat) (x : QueueSt) : (s.setQueue q x).str = s.str := rfl
@[simp] theorem State.setQueue_pom (q : Nat) (x : QueueSt) : (s.setQueue q x).pom = s.pom := rfl
@[simp] theorem State.setQueue_trl (q : Nat) (x : QueueSt) : (s.setQueue q x).trl = s.trl := rfl
@[simp] theorem State.setQueue_pt (q : Nat) (x : QueueSt) : (s.setQueue q x).pt = s.pt := rfl
@[simp] theorem State.setQueue_aon (q : Nat) (x : QueueSt) : (s.setQueue q x).aon = s.aon := rfl
@[simp] theorem State.setQueue_lat (q : Nat) (x : QueueSt) : (s.setQueue q x).lat = s.lat := rfl
@[simp] theorem State.setQueue_msr (q : Nat) (x : QueueSt) : (s.setQueue q x).msr = s.msr := rfl
@[simp] theorem State.setQueue_cap (q : Nat) (x : QueueSt) : (s.setQueue q x).cap = s.cap := rfl
@[simp] theorem State.setQueue_til (q : Nat) (x : QueueSt) : (s.setQueue q x).til = s.til := rfl
@[simp] theorem State.setQueue_can (q : Nat) (x : QueueSt) : (s.setQueue q x).can = s.can := rfl
@[simp] theorem State.setQueue_ns (q : Nat) (x : QueueSt) : (s.setQueue q x).ns = s.ns := rfl
@[simp] theorem State.setQueue_gw (q : Nat) (x : QueueSt) : (s.setQueue q x).gw = s.gw := rfl
@[simp] theorem State.setQueue_br (q : Nat) (x : QueueSt) : (s.setQueue q x).br = s.br := rfl
@[simp] theorem State.setQueue_ses (q : Nat) (x : QueueSt) : (s.setQueue q x).ses = s.ses := rfl
@[simp] theorem State.setQueue_pc (q : Nat) (x : QueueSt) : (s.setQueue q x).pc = s.pc := rfl
@[simp] theorem State.setQueue_clo (q : Nat) (x : QueueSt) : (s.setQueue q x).clo = s.clo := rfl
@[simp] theorem State.setQueue_grf (q : Nat) (x : QueueSt) : (s.setQueue q x).grf = s.grf := rfl
@[simp] theorem State.setQueue_retain (q : Nat) (x : QueueSt) : (s.setQueue q x).retain = s.retain := rfl
@[simp] theorem State.setQueue_jobs (q : Nat) (x : QueueSt) : (s.setQueue q x).jobs = s.jobs := rfl
@[simp] theorem State.setQueue_jobSeq (q : Nat) (x : QueueSt) : (s.setQueue q x).jobSeq = s.jobSeq := rfl
@[simp] theorem State.setQueue_pending (q : Nat) (x : QueueSt) : (s.setQueue q x).pending = s.pending := rfl

@[simp] theorem State.setCan_regs (i : Nat) (x : CanSt) : (s.setCan i x).regs = s.regs := rfl
@[simp] theorem State.setCan_upd (i : Nat) (x : CanSt) : (s.setCan i x).upd = s.upd := rfl
@[simp] theorem State.setCan_arb (i : Nat) (x : CanSt) : (s.setCan i x).arb = s.arb := rfl
@[simp] theorem State.setCan_mem (i : Nat) (x : CanSt) : (s.setCan i x).mem = s.mem := rfl
@[simp] theorem State.setCan_objs (i : Nat) (x : CanSt) : (s.setCan i x).objs = s.objs := rfl
@[simp] theorem State.setCan_objBytes (i : Nat) (x : CanSt) : (s.setCan i x).objBytes = s.objBytes := rfl
@[simp] theorem State.setCan_settings (i : Nat) (x : CanSt) : (s.setCan i x).settings = s.settings := rfl
@[simp] theorem State.setCan_settingsBytes (i : Nat) (x : CanSt) : (s.setCan i x).settingsBytes = s.settingsBytes := rfl
@[simp] theorem State.setCan_now (i : Nat) (x : CanSt) : (s.setCan i x).now = s.now := rfl
@[simp] theorem State.setCan_free (i : Nat) (x : CanSt) : (s.setCan i x).free = s.free := rfl
@[simp] theorem State.setCan_resp (i : Nat) (x : CanSt) : (s.setCan i x).resp = s.resp := rfl
@[simp] theorem State.setCan_out (i : Nat) (x : CanSt) : (s.setCan i x).out = s.out := rfl
@[simp] theorem State.setCan_faults (i : Nat) (x : CanSt) : (s.setCan i x).faults = s.faults := rfl
@[simp] theorem State.setCan_irqHeld (i : Nat) (x : CanSt) : (s.setCan i x).irqHeld = s.irqHeld := rfl
@[simp] theorem State.setCan_furBits (i : Nat) (x : CanSt) : (s.setCan i x).furBits = s.furBits := rfl
@[simp] theorem State.setCan_q (i : Nat) (x : CanSt) : (s.setCan i x).q = s.q := rfl
@[simp] theorem State.setCan_girth (i : Nat) (x : CanSt) : (s.setCan i x).girth = s.girth := rfl
@[simp] theorem State.setCan_partner (i : Nat) (x : CanSt) : (s.setCan i x).partner = s.partner := rfl
@[simp] theorem State.setCan_ls (i : Nat) (x : CanSt) : (s.setCan i x).ls = s.ls := rfl
@[simp] theorem State.setCan_lsStag (i : Nat) (x : CanSt) : (s.setCan i x).lsStag = s.lsStag := rfl
@[simp] theorem State.setCan_lsOver (i : Nat) (x : CanSt) : (s.setCan i x).lsOver = s.lsOver := rfl
@[simp] theorem State.setCan_lsKept0 (i : Nat) (x : CanSt) : (s.setCan i x).lsKept0 = s.lsKept0 := rfl
@[simp] theorem State.setCan_lsKept1 (i : Nat) (x : CanSt) : (s.setCan i x).lsKept1 = s.lsKept1 := rfl
@[simp] theorem State.setCan_dio (i : Nat) (x : CanSt) : (s.setCan i x).dio = s.dio := rfl
@[simp] theorem State.setCan_str (i : Nat) (x : CanSt) : (s.setCan i x).str = s.str := rfl
@[simp] theorem State.setCan_pom (i : Nat) (x : CanSt) : (s.setCan i x).pom = s.pom := rfl
@[simp] theorem State.setCan_trl (i : Nat) (x : CanSt) : (s.setCan i x).trl = s.trl := rfl
@[simp] theorem State.setCan_pt (i : Nat) (x : CanSt) : (s.setCan i x).pt = s.pt := rfl
@[simp] theorem State.setCan_aon (i : Nat) (x : CanSt) : (s.setCan i x).aon = s.aon := rfl
@[simp] theorem State.setCan_lat (i : Nat) (x : CanSt) : (s.setCan i x).lat = s.lat := rfl
@[simp] theorem State.setCan_msr (i : Nat) (x : CanSt) : (s.setCan i x).msr = s.msr := rfl
@[simp] theorem State.setCan_cap (i : Nat) (x : CanSt) : (s.setCan i x).cap = s.cap := rfl
@[simp] theorem State.setCan_til (i : Nat) (x : CanSt) : (s.setCan i x).til = s.til := rfl
@[simp] theorem State.setCan_ns (i : Nat) (x : CanSt) : (s.setCan i x).ns = s.ns := rfl
@[simp] theorem State.setCan_gw (i : Nat) (x : CanSt) : (s.setCan i x).gw = s.gw := rfl
@[simp] theorem State.setCan_br (i : Nat) (x : CanSt) : (s.setCan i x).br = s.br := rfl
@[simp] theorem State.setCan_ses (i : Nat) (x : CanSt) : (s.setCan i x).ses = s.ses := rfl
@[simp] theorem State.setCan_pc (i : Nat) (x : CanSt) : (s.setCan i x).pc = s.pc := rfl
@[simp] theorem State.setCan_clo (i : Nat) (x : CanSt) : (s.setCan i x).clo = s.clo := rfl
@[simp] theorem State.setCan_grf (i : Nat) (x : CanSt) : (s.setCan i x).grf = s.grf := rfl
@[simp] theorem State.setCan_retain (i : Nat) (x : CanSt) : (s.setCan i x).retain = s.retain := rfl
@[simp] theorem State.setCan_jobs (i : Nat) (x : CanSt) : (s.setCan i x).jobs = s.jobs := rfl
@[simp] theorem State.setCan_jobSeq (i : Nat) (x : CanSt) : (s.setCan i x).jobSeq = s.jobSeq := rfl
@[simp] theorem State.setCan_pending (i : Nat) (x : CanSt) : (s.setCan i x).pending = s.pending := rfl

@[simp] theorem State.setLs_regs (n : Nat) (x : LsCh) : (s.setLs n x).regs = s.regs := rfl
@[simp] theorem State.setLs_upd (n : Nat) (x : LsCh) : (s.setLs n x).upd = s.upd := rfl
@[simp] theorem State.setLs_arb (n : Nat) (x : LsCh) : (s.setLs n x).arb = s.arb := rfl
@[simp] theorem State.setLs_mem (n : Nat) (x : LsCh) : (s.setLs n x).mem = s.mem := rfl
@[simp] theorem State.setLs_objs (n : Nat) (x : LsCh) : (s.setLs n x).objs = s.objs := rfl
@[simp] theorem State.setLs_objBytes (n : Nat) (x : LsCh) : (s.setLs n x).objBytes = s.objBytes := rfl
@[simp] theorem State.setLs_settings (n : Nat) (x : LsCh) : (s.setLs n x).settings = s.settings := rfl
@[simp] theorem State.setLs_settingsBytes (n : Nat) (x : LsCh) : (s.setLs n x).settingsBytes = s.settingsBytes := rfl
@[simp] theorem State.setLs_now (n : Nat) (x : LsCh) : (s.setLs n x).now = s.now := rfl
@[simp] theorem State.setLs_free (n : Nat) (x : LsCh) : (s.setLs n x).free = s.free := rfl
@[simp] theorem State.setLs_resp (n : Nat) (x : LsCh) : (s.setLs n x).resp = s.resp := rfl
@[simp] theorem State.setLs_out (n : Nat) (x : LsCh) : (s.setLs n x).out = s.out := rfl
@[simp] theorem State.setLs_faults (n : Nat) (x : LsCh) : (s.setLs n x).faults = s.faults := rfl
@[simp] theorem State.setLs_irqHeld (n : Nat) (x : LsCh) : (s.setLs n x).irqHeld = s.irqHeld := rfl
@[simp] theorem State.setLs_furBits (n : Nat) (x : LsCh) : (s.setLs n x).furBits = s.furBits := rfl
@[simp] theorem State.setLs_q (n : Nat) (x : LsCh) : (s.setLs n x).q = s.q := rfl
@[simp] theorem State.setLs_girth (n : Nat) (x : LsCh) : (s.setLs n x).girth = s.girth := rfl
@[simp] theorem State.setLs_partner (n : Nat) (x : LsCh) : (s.setLs n x).partner = s.partner := rfl
@[simp] theorem State.setLs_lsStag (n : Nat) (x : LsCh) : (s.setLs n x).lsStag = s.lsStag := rfl
@[simp] theorem State.setLs_lsOver (n : Nat) (x : LsCh) : (s.setLs n x).lsOver = s.lsOver := rfl
@[simp] theorem State.setLs_lsKept0 (n : Nat) (x : LsCh) : (s.setLs n x).lsKept0 = s.lsKept0 := rfl
@[simp] theorem State.setLs_lsKept1 (n : Nat) (x : LsCh) : (s.setLs n x).lsKept1 = s.lsKept1 := rfl
@[simp] theorem State.setLs_dio (n : Nat) (x : LsCh) : (s.setLs n x).dio = s.dio := rfl
@[simp] theorem State.setLs_str (n : Nat) (x : LsCh) : (s.setLs n x).str = s.str := rfl
@[simp] theorem State.setLs_pom (n : Nat) (x : LsCh) : (s.setLs n x).pom = s.pom := rfl
@[simp] theorem State.setLs_trl (n : Nat) (x : LsCh) : (s.setLs n x).trl = s.trl := rfl
@[simp] theorem State.setLs_pt (n : Nat) (x : LsCh) : (s.setLs n x).pt = s.pt := rfl
@[simp] theorem State.setLs_aon (n : Nat) (x : LsCh) : (s.setLs n x).aon = s.aon := rfl
@[simp] theorem State.setLs_lat (n : Nat) (x : LsCh) : (s.setLs n x).lat = s.lat := rfl
@[simp] theorem State.setLs_msr (n : Nat) (x : LsCh) : (s.setLs n x).msr = s.msr := rfl
@[simp] theorem State.setLs_cap (n : Nat) (x : LsCh) : (s.setLs n x).cap = s.cap := rfl
@[simp] theorem State.setLs_til (n : Nat) (x : LsCh) : (s.setLs n x).til = s.til := rfl
@[simp] theorem State.setLs_can (n : Nat) (x : LsCh) : (s.setLs n x).can = s.can := rfl
@[simp] theorem State.setLs_ns (n : Nat) (x : LsCh) : (s.setLs n x).ns = s.ns := rfl
@[simp] theorem State.setLs_gw (n : Nat) (x : LsCh) : (s.setLs n x).gw = s.gw := rfl
@[simp] theorem State.setLs_br (n : Nat) (x : LsCh) : (s.setLs n x).br = s.br := rfl
@[simp] theorem State.setLs_ses (n : Nat) (x : LsCh) : (s.setLs n x).ses = s.ses := rfl
@[simp] theorem State.setLs_pc (n : Nat) (x : LsCh) : (s.setLs n x).pc = s.pc := rfl
@[simp] theorem State.setLs_clo (n : Nat) (x : LsCh) : (s.setLs n x).clo = s.clo := rfl
@[simp] theorem State.setLs_grf (n : Nat) (x : LsCh) : (s.setLs n x).grf = s.grf := rfl
@[simp] theorem State.setLs_retain (n : Nat) (x : LsCh) : (s.setLs n x).retain = s.retain := rfl
@[simp] theorem State.setLs_jobs (n : Nat) (x : LsCh) : (s.setLs n x).jobs = s.jobs := rfl
@[simp] theorem State.setLs_jobSeq (n : Nat) (x : LsCh) : (s.setLs n x).jobSeq = s.jobSeq := rfl
@[simp] theorem State.setLs_pending (n : Nat) (x : LsCh) : (s.setLs n x).pending = s.pending := rfl

@[simp] theorem State.setDio_regs (n : Nat) (x : DioCh) : (s.setDio n x).regs = s.regs := rfl
@[simp] theorem State.setDio_upd (n : Nat) (x : DioCh) : (s.setDio n x).upd = s.upd := rfl
@[simp] theorem State.setDio_arb (n : Nat) (x : DioCh) : (s.setDio n x).arb = s.arb := rfl
@[simp] theorem State.setDio_mem (n : Nat) (x : DioCh) : (s.setDio n x).mem = s.mem := rfl
@[simp] theorem State.setDio_objs (n : Nat) (x : DioCh) : (s.setDio n x).objs = s.objs := rfl
@[simp] theorem State.setDio_objBytes (n : Nat) (x : DioCh) : (s.setDio n x).objBytes = s.objBytes := rfl
@[simp] theorem State.setDio_settings (n : Nat) (x : DioCh) : (s.setDio n x).settings = s.settings := rfl
@[simp] theorem State.setDio_settingsBytes (n : Nat) (x : DioCh) : (s.setDio n x).settingsBytes = s.settingsBytes := rfl
@[simp] theorem State.setDio_now (n : Nat) (x : DioCh) : (s.setDio n x).now = s.now := rfl
@[simp] theorem State.setDio_free (n : Nat) (x : DioCh) : (s.setDio n x).free = s.free := rfl
@[simp] theorem State.setDio_resp (n : Nat) (x : DioCh) : (s.setDio n x).resp = s.resp := rfl
@[simp] theorem State.setDio_out (n : Nat) (x : DioCh) : (s.setDio n x).out = s.out := rfl
@[simp] theorem State.setDio_faults (n : Nat) (x : DioCh) : (s.setDio n x).faults = s.faults := rfl
@[simp] theorem State.setDio_irqHeld (n : Nat) (x : DioCh) : (s.setDio n x).irqHeld = s.irqHeld := rfl
@[simp] theorem State.setDio_furBits (n : Nat) (x : DioCh) : (s.setDio n x).furBits = s.furBits := rfl
@[simp] theorem State.setDio_q (n : Nat) (x : DioCh) : (s.setDio n x).q = s.q := rfl
@[simp] theorem State.setDio_girth (n : Nat) (x : DioCh) : (s.setDio n x).girth = s.girth := rfl
@[simp] theorem State.setDio_partner (n : Nat) (x : DioCh) : (s.setDio n x).partner = s.partner := rfl
@[simp] theorem State.setDio_ls (n : Nat) (x : DioCh) : (s.setDio n x).ls = s.ls := rfl
@[simp] theorem State.setDio_lsStag (n : Nat) (x : DioCh) : (s.setDio n x).lsStag = s.lsStag := rfl
@[simp] theorem State.setDio_lsOver (n : Nat) (x : DioCh) : (s.setDio n x).lsOver = s.lsOver := rfl
@[simp] theorem State.setDio_lsKept0 (n : Nat) (x : DioCh) : (s.setDio n x).lsKept0 = s.lsKept0 := rfl
@[simp] theorem State.setDio_lsKept1 (n : Nat) (x : DioCh) : (s.setDio n x).lsKept1 = s.lsKept1 := rfl
@[simp] theorem State.setDio_str (n : Nat) (x : DioCh) : (s.setDio n x).str = s.str := rfl
@[simp] theorem State.setDio_pom (n : Nat) (x : DioCh) : (s.setDio n x).pom = s.pom := rfl
@[simp] theorem State.setDio_trl (n : Nat) (x : DioCh) : (s.setDio n x).trl = s.trl := rfl
@[simp] theorem State.setDio_pt (n : Nat) (x : DioCh) : (s.setDio n x).pt = s.pt := rfl
@[simp] theorem State.setDio_aon (n : Nat) (x : DioCh) : (s.setDio n x).aon = s.aon := rfl
@[simp] theorem State.setDio_lat (n : Nat) (x : DioCh) : (s.setDio n x).lat = s.lat := rfl
@[simp] theorem State.setDio_msr (n : Nat) (x : DioCh) : (s.setDio n x).msr = s.msr := rfl
@[simp] theorem State.setDio_cap (n : Nat) (x : DioCh) : (s.setDio n x).cap = s.cap := rfl
@[simp] theorem State.setDio_til (n : Nat) (x : DioCh) : (s.setDio n x).til = s.til := rfl
@[simp] theorem State.setDio_can (n : Nat) (x : DioCh) : (s.setDio n x).can = s.can := rfl
@[simp] theorem State.setDio_ns (n : Nat) (x : DioCh) : (s.setDio n x).ns = s.ns := rfl
@[simp] theorem State.setDio_gw (n : Nat) (x : DioCh) : (s.setDio n x).gw = s.gw := rfl
@[simp] theorem State.setDio_br (n : Nat) (x : DioCh) : (s.setDio n x).br = s.br := rfl
@[simp] theorem State.setDio_ses (n : Nat) (x : DioCh) : (s.setDio n x).ses = s.ses := rfl
@[simp] theorem State.setDio_pc (n : Nat) (x : DioCh) : (s.setDio n x).pc = s.pc := rfl
@[simp] theorem State.setDio_clo (n : Nat) (x : DioCh) : (s.setDio n x).clo = s.clo := rfl
@[simp] theorem State.setDio_grf (n : Nat) (x : DioCh) : (s.setDio n x).grf = s.grf := rfl
@[simp] theorem State.setDio_retain (n : Nat) (x : DioCh) : (s.setDio n x).retain = s.retain := rfl
@[simp] theorem State.setDio_jobs (n : Nat) (x : DioCh) : (s.setDio n x).jobs = s.jobs := rfl
@[simp] theorem State.setDio_jobSeq (n : Nat) (x : DioCh) : (s.setDio n x).jobSeq = s.jobSeq := rfl
@[simp] theorem State.setDio_pending (n : Nat) (x : DioCh) : (s.setDio n x).pending = s.pending := rfl

@[simp] theorem State.setRing_regs (c : Nat) (x : LatRing) : (s.setRing c x).regs = s.regs := rfl
@[simp] theorem State.setRing_upd (c : Nat) (x : LatRing) : (s.setRing c x).upd = s.upd := rfl
@[simp] theorem State.setRing_arb (c : Nat) (x : LatRing) : (s.setRing c x).arb = s.arb := rfl
@[simp] theorem State.setRing_mem (c : Nat) (x : LatRing) : (s.setRing c x).mem = s.mem := rfl
@[simp] theorem State.setRing_objs (c : Nat) (x : LatRing) : (s.setRing c x).objs = s.objs := rfl
@[simp] theorem State.setRing_objBytes (c : Nat) (x : LatRing) : (s.setRing c x).objBytes = s.objBytes := rfl
@[simp] theorem State.setRing_settings (c : Nat) (x : LatRing) : (s.setRing c x).settings = s.settings := rfl
@[simp] theorem State.setRing_settingsBytes (c : Nat) (x : LatRing) : (s.setRing c x).settingsBytes = s.settingsBytes := rfl
@[simp] theorem State.setRing_now (c : Nat) (x : LatRing) : (s.setRing c x).now = s.now := rfl
@[simp] theorem State.setRing_free (c : Nat) (x : LatRing) : (s.setRing c x).free = s.free := rfl
@[simp] theorem State.setRing_resp (c : Nat) (x : LatRing) : (s.setRing c x).resp = s.resp := rfl
@[simp] theorem State.setRing_out (c : Nat) (x : LatRing) : (s.setRing c x).out = s.out := rfl
@[simp] theorem State.setRing_faults (c : Nat) (x : LatRing) : (s.setRing c x).faults = s.faults := rfl
@[simp] theorem State.setRing_irqHeld (c : Nat) (x : LatRing) : (s.setRing c x).irqHeld = s.irqHeld := rfl
@[simp] theorem State.setRing_furBits (c : Nat) (x : LatRing) : (s.setRing c x).furBits = s.furBits := rfl
@[simp] theorem State.setRing_q (c : Nat) (x : LatRing) : (s.setRing c x).q = s.q := rfl
@[simp] theorem State.setRing_girth (c : Nat) (x : LatRing) : (s.setRing c x).girth = s.girth := rfl
@[simp] theorem State.setRing_partner (c : Nat) (x : LatRing) : (s.setRing c x).partner = s.partner := rfl
@[simp] theorem State.setRing_ls (c : Nat) (x : LatRing) : (s.setRing c x).ls = s.ls := rfl
@[simp] theorem State.setRing_lsStag (c : Nat) (x : LatRing) : (s.setRing c x).lsStag = s.lsStag := rfl
@[simp] theorem State.setRing_lsOver (c : Nat) (x : LatRing) : (s.setRing c x).lsOver = s.lsOver := rfl
@[simp] theorem State.setRing_lsKept0 (c : Nat) (x : LatRing) : (s.setRing c x).lsKept0 = s.lsKept0 := rfl
@[simp] theorem State.setRing_lsKept1 (c : Nat) (x : LatRing) : (s.setRing c x).lsKept1 = s.lsKept1 := rfl
@[simp] theorem State.setRing_dio (c : Nat) (x : LatRing) : (s.setRing c x).dio = s.dio := rfl
@[simp] theorem State.setRing_str (c : Nat) (x : LatRing) : (s.setRing c x).str = s.str := rfl
@[simp] theorem State.setRing_pom (c : Nat) (x : LatRing) : (s.setRing c x).pom = s.pom := rfl
@[simp] theorem State.setRing_trl (c : Nat) (x : LatRing) : (s.setRing c x).trl = s.trl := rfl
@[simp] theorem State.setRing_pt (c : Nat) (x : LatRing) : (s.setRing c x).pt = s.pt := rfl
@[simp] theorem State.setRing_aon (c : Nat) (x : LatRing) : (s.setRing c x).aon = s.aon := rfl
@[simp] theorem State.setRing_msr (c : Nat) (x : LatRing) : (s.setRing c x).msr = s.msr := rfl
@[simp] theorem State.setRing_cap (c : Nat) (x : LatRing) : (s.setRing c x).cap = s.cap := rfl
@[simp] theorem State.setRing_til (c : Nat) (x : LatRing) : (s.setRing c x).til = s.til := rfl
@[simp] theorem State.setRing_can (c : Nat) (x : LatRing) : (s.setRing c x).can = s.can := rfl
@[simp] theorem State.setRing_ns (c : Nat) (x : LatRing) : (s.setRing c x).ns = s.ns := rfl
@[simp] theorem State.setRing_gw (c : Nat) (x : LatRing) : (s.setRing c x).gw = s.gw := rfl
@[simp] theorem State.setRing_br (c : Nat) (x : LatRing) : (s.setRing c x).br = s.br := rfl
@[simp] theorem State.setRing_ses (c : Nat) (x : LatRing) : (s.setRing c x).ses = s.ses := rfl
@[simp] theorem State.setRing_pc (c : Nat) (x : LatRing) : (s.setRing c x).pc = s.pc := rfl
@[simp] theorem State.setRing_clo (c : Nat) (x : LatRing) : (s.setRing c x).clo = s.clo := rfl
@[simp] theorem State.setRing_grf (c : Nat) (x : LatRing) : (s.setRing c x).grf = s.grf := rfl
@[simp] theorem State.setRing_retain (c : Nat) (x : LatRing) : (s.setRing c x).retain = s.retain := rfl
@[simp] theorem State.setRing_jobs (c : Nat) (x : LatRing) : (s.setRing c x).jobs = s.jobs := rfl
@[simp] theorem State.setRing_jobSeq (c : Nat) (x : LatRing) : (s.setRing c x).jobSeq = s.jobSeq := rfl
@[simp] theorem State.setRing_pending (c : Nat) (x : LatRing) : (s.setRing c x).pending = s.pending := rfl

@[simp] theorem State.setLink_regs (m : Nat) (x : MsrLink) : (s.setLink m x).regs = s.regs := rfl
@[simp] theorem State.setLink_upd (m : Nat) (x : MsrLink) : (s.setLink m x).upd = s.upd := rfl
@[simp] theorem State.setLink_arb (m : Nat) (x : MsrLink) : (s.setLink m x).arb = s.arb := rfl
@[simp] theorem State.setLink_mem (m : Nat) (x : MsrLink) : (s.setLink m x).mem = s.mem := rfl
@[simp] theorem State.setLink_objs (m : Nat) (x : MsrLink) : (s.setLink m x).objs = s.objs := rfl
@[simp] theorem State.setLink_objBytes (m : Nat) (x : MsrLink) : (s.setLink m x).objBytes = s.objBytes := rfl
@[simp] theorem State.setLink_settings (m : Nat) (x : MsrLink) : (s.setLink m x).settings = s.settings := rfl
@[simp] theorem State.setLink_settingsBytes (m : Nat) (x : MsrLink) : (s.setLink m x).settingsBytes = s.settingsBytes := rfl
@[simp] theorem State.setLink_now (m : Nat) (x : MsrLink) : (s.setLink m x).now = s.now := rfl
@[simp] theorem State.setLink_free (m : Nat) (x : MsrLink) : (s.setLink m x).free = s.free := rfl
@[simp] theorem State.setLink_resp (m : Nat) (x : MsrLink) : (s.setLink m x).resp = s.resp := rfl
@[simp] theorem State.setLink_out (m : Nat) (x : MsrLink) : (s.setLink m x).out = s.out := rfl
@[simp] theorem State.setLink_faults (m : Nat) (x : MsrLink) : (s.setLink m x).faults = s.faults := rfl
@[simp] theorem State.setLink_irqHeld (m : Nat) (x : MsrLink) : (s.setLink m x).irqHeld = s.irqHeld := rfl
@[simp] theorem State.setLink_furBits (m : Nat) (x : MsrLink) : (s.setLink m x).furBits = s.furBits := rfl
@[simp] theorem State.setLink_q (m : Nat) (x : MsrLink) : (s.setLink m x).q = s.q := rfl
@[simp] theorem State.setLink_girth (m : Nat) (x : MsrLink) : (s.setLink m x).girth = s.girth := rfl
@[simp] theorem State.setLink_partner (m : Nat) (x : MsrLink) : (s.setLink m x).partner = s.partner := rfl
@[simp] theorem State.setLink_ls (m : Nat) (x : MsrLink) : (s.setLink m x).ls = s.ls := rfl
@[simp] theorem State.setLink_lsStag (m : Nat) (x : MsrLink) : (s.setLink m x).lsStag = s.lsStag := rfl
@[simp] theorem State.setLink_lsOver (m : Nat) (x : MsrLink) : (s.setLink m x).lsOver = s.lsOver := rfl
@[simp] theorem State.setLink_lsKept0 (m : Nat) (x : MsrLink) : (s.setLink m x).lsKept0 = s.lsKept0 := rfl
@[simp] theorem State.setLink_lsKept1 (m : Nat) (x : MsrLink) : (s.setLink m x).lsKept1 = s.lsKept1 := rfl
@[simp] theorem State.setLink_dio (m : Nat) (x : MsrLink) : (s.setLink m x).dio = s.dio := rfl
@[simp] theorem State.setLink_str (m : Nat) (x : MsrLink) : (s.setLink m x).str = s.str := rfl
@[simp] theorem State.setLink_pom (m : Nat) (x : MsrLink) : (s.setLink m x).pom = s.pom := rfl
@[simp] theorem State.setLink_trl (m : Nat) (x : MsrLink) : (s.setLink m x).trl = s.trl := rfl
@[simp] theorem State.setLink_pt (m : Nat) (x : MsrLink) : (s.setLink m x).pt = s.pt := rfl
@[simp] theorem State.setLink_aon (m : Nat) (x : MsrLink) : (s.setLink m x).aon = s.aon := rfl
@[simp] theorem State.setLink_lat (m : Nat) (x : MsrLink) : (s.setLink m x).lat = s.lat := rfl
@[simp] theorem State.setLink_cap (m : Nat) (x : MsrLink) : (s.setLink m x).cap = s.cap := rfl
@[simp] theorem State.setLink_til (m : Nat) (x : MsrLink) : (s.setLink m x).til = s.til := rfl
@[simp] theorem State.setLink_can (m : Nat) (x : MsrLink) : (s.setLink m x).can = s.can := rfl
@[simp] theorem State.setLink_ns (m : Nat) (x : MsrLink) : (s.setLink m x).ns = s.ns := rfl
@[simp] theorem State.setLink_gw (m : Nat) (x : MsrLink) : (s.setLink m x).gw = s.gw := rfl
@[simp] theorem State.setLink_br (m : Nat) (x : MsrLink) : (s.setLink m x).br = s.br := rfl
@[simp] theorem State.setLink_ses (m : Nat) (x : MsrLink) : (s.setLink m x).ses = s.ses := rfl
@[simp] theorem State.setLink_pc (m : Nat) (x : MsrLink) : (s.setLink m x).pc = s.pc := rfl
@[simp] theorem State.setLink_clo (m : Nat) (x : MsrLink) : (s.setLink m x).clo = s.clo := rfl
@[simp] theorem State.setLink_grf (m : Nat) (x : MsrLink) : (s.setLink m x).grf = s.grf := rfl
@[simp] theorem State.setLink_retain (m : Nat) (x : MsrLink) : (s.setLink m x).retain = s.retain := rfl
@[simp] theorem State.setLink_jobs (m : Nat) (x : MsrLink) : (s.setLink m x).jobs = s.jobs := rfl
@[simp] theorem State.setLink_jobSeq (m : Nat) (x : MsrLink) : (s.setLink m x).jobSeq = s.jobSeq := rfl
@[simp] theorem State.setLink_pending (m : Nat) (x : MsrLink) : (s.setLink m x).pending = s.pending := rfl

@[simp] theorem State.setJob_regs (j : Nat) (x : Job) : (s.setJob j x).regs = s.regs := rfl
@[simp] theorem State.setJob_upd (j : Nat) (x : Job) : (s.setJob j x).upd = s.upd := rfl
@[simp] theorem State.setJob_arb (j : Nat) (x : Job) : (s.setJob j x).arb = s.arb := rfl
@[simp] theorem State.setJob_mem (j : Nat) (x : Job) : (s.setJob j x).mem = s.mem := rfl
@[simp] theorem State.setJob_objs (j : Nat) (x : Job) : (s.setJob j x).objs = s.objs := rfl
@[simp] theorem State.setJob_objBytes (j : Nat) (x : Job) : (s.setJob j x).objBytes = s.objBytes := rfl
@[simp] theorem State.setJob_settings (j : Nat) (x : Job) : (s.setJob j x).settings = s.settings := rfl
@[simp] theorem State.setJob_settingsBytes (j : Nat) (x : Job) : (s.setJob j x).settingsBytes = s.settingsBytes := rfl
@[simp] theorem State.setJob_now (j : Nat) (x : Job) : (s.setJob j x).now = s.now := rfl
@[simp] theorem State.setJob_free (j : Nat) (x : Job) : (s.setJob j x).free = s.free := rfl
@[simp] theorem State.setJob_resp (j : Nat) (x : Job) : (s.setJob j x).resp = s.resp := rfl
@[simp] theorem State.setJob_out (j : Nat) (x : Job) : (s.setJob j x).out = s.out := rfl
@[simp] theorem State.setJob_faults (j : Nat) (x : Job) : (s.setJob j x).faults = s.faults := rfl
@[simp] theorem State.setJob_irqHeld (j : Nat) (x : Job) : (s.setJob j x).irqHeld = s.irqHeld := rfl
@[simp] theorem State.setJob_furBits (j : Nat) (x : Job) : (s.setJob j x).furBits = s.furBits := rfl
@[simp] theorem State.setJob_q (j : Nat) (x : Job) : (s.setJob j x).q = s.q := rfl
@[simp] theorem State.setJob_girth (j : Nat) (x : Job) : (s.setJob j x).girth = s.girth := rfl
@[simp] theorem State.setJob_partner (j : Nat) (x : Job) : (s.setJob j x).partner = s.partner := rfl
@[simp] theorem State.setJob_ls (j : Nat) (x : Job) : (s.setJob j x).ls = s.ls := rfl
@[simp] theorem State.setJob_lsStag (j : Nat) (x : Job) : (s.setJob j x).lsStag = s.lsStag := rfl
@[simp] theorem State.setJob_lsOver (j : Nat) (x : Job) : (s.setJob j x).lsOver = s.lsOver := rfl
@[simp] theorem State.setJob_lsKept0 (j : Nat) (x : Job) : (s.setJob j x).lsKept0 = s.lsKept0 := rfl
@[simp] theorem State.setJob_lsKept1 (j : Nat) (x : Job) : (s.setJob j x).lsKept1 = s.lsKept1 := rfl
@[simp] theorem State.setJob_dio (j : Nat) (x : Job) : (s.setJob j x).dio = s.dio := rfl
@[simp] theorem State.setJob_str (j : Nat) (x : Job) : (s.setJob j x).str = s.str := rfl
@[simp] theorem State.setJob_pom (j : Nat) (x : Job) : (s.setJob j x).pom = s.pom := rfl
@[simp] theorem State.setJob_trl (j : Nat) (x : Job) : (s.setJob j x).trl = s.trl := rfl
@[simp] theorem State.setJob_pt (j : Nat) (x : Job) : (s.setJob j x).pt = s.pt := rfl
@[simp] theorem State.setJob_aon (j : Nat) (x : Job) : (s.setJob j x).aon = s.aon := rfl
@[simp] theorem State.setJob_lat (j : Nat) (x : Job) : (s.setJob j x).lat = s.lat := rfl
@[simp] theorem State.setJob_msr (j : Nat) (x : Job) : (s.setJob j x).msr = s.msr := rfl
@[simp] theorem State.setJob_cap (j : Nat) (x : Job) : (s.setJob j x).cap = s.cap := rfl
@[simp] theorem State.setJob_til (j : Nat) (x : Job) : (s.setJob j x).til = s.til := rfl
@[simp] theorem State.setJob_can (j : Nat) (x : Job) : (s.setJob j x).can = s.can := rfl
@[simp] theorem State.setJob_ns (j : Nat) (x : Job) : (s.setJob j x).ns = s.ns := rfl
@[simp] theorem State.setJob_gw (j : Nat) (x : Job) : (s.setJob j x).gw = s.gw := rfl
@[simp] theorem State.setJob_br (j : Nat) (x : Job) : (s.setJob j x).br = s.br := rfl
@[simp] theorem State.setJob_ses (j : Nat) (x : Job) : (s.setJob j x).ses = s.ses := rfl
@[simp] theorem State.setJob_pc (j : Nat) (x : Job) : (s.setJob j x).pc = s.pc := rfl
@[simp] theorem State.setJob_clo (j : Nat) (x : Job) : (s.setJob j x).clo = s.clo := rfl
@[simp] theorem State.setJob_grf (j : Nat) (x : Job) : (s.setJob j x).grf = s.grf := rfl
@[simp] theorem State.setJob_retain (j : Nat) (x : Job) : (s.setJob j x).retain = s.retain := rfl
@[simp] theorem State.setJob_jobSeq (j : Nat) (x : Job) : (s.setJob j x).jobSeq = s.jobSeq := rfl
@[simp] theorem State.setJob_pending (j : Nat) (x : Job) : (s.setJob j x).pending = s.pending := rfl

@[simp] theorem State.setPlot_regs (p : Nat) (x : PlotSt) : (s.setPlot p x).regs = s.regs := rfl
@[simp] theorem State.setPlot_upd (p : Nat) (x : PlotSt) : (s.setPlot p x).upd = s.upd := rfl
@[simp] theorem State.setPlot_arb (p : Nat) (x : PlotSt) : (s.setPlot p x).arb = s.arb := rfl
@[simp] theorem State.setPlot_mem (p : Nat) (x : PlotSt) : (s.setPlot p x).mem = s.mem := rfl
@[simp] theorem State.setPlot_objs (p : Nat) (x : PlotSt) : (s.setPlot p x).objs = s.objs := rfl
@[simp] theorem State.setPlot_objBytes (p : Nat) (x : PlotSt) : (s.setPlot p x).objBytes = s.objBytes := rfl
@[simp] theorem State.setPlot_settings (p : Nat) (x : PlotSt) : (s.setPlot p x).settings = s.settings := rfl
@[simp] theorem State.setPlot_settingsBytes (p : Nat) (x : PlotSt) : (s.setPlot p x).settingsBytes = s.settingsBytes := rfl
@[simp] theorem State.setPlot_now (p : Nat) (x : PlotSt) : (s.setPlot p x).now = s.now := rfl
@[simp] theorem State.setPlot_free (p : Nat) (x : PlotSt) : (s.setPlot p x).free = s.free := rfl
@[simp] theorem State.setPlot_resp (p : Nat) (x : PlotSt) : (s.setPlot p x).resp = s.resp := rfl
@[simp] theorem State.setPlot_out (p : Nat) (x : PlotSt) : (s.setPlot p x).out = s.out := rfl
@[simp] theorem State.setPlot_faults (p : Nat) (x : PlotSt) : (s.setPlot p x).faults = s.faults := rfl
@[simp] theorem State.setPlot_irqHeld (p : Nat) (x : PlotSt) : (s.setPlot p x).irqHeld = s.irqHeld := rfl
@[simp] theorem State.setPlot_furBits (p : Nat) (x : PlotSt) : (s.setPlot p x).furBits = s.furBits := rfl
@[simp] theorem State.setPlot_q (p : Nat) (x : PlotSt) : (s.setPlot p x).q = s.q := rfl
@[simp] theorem State.setPlot_girth (p : Nat) (x : PlotSt) : (s.setPlot p x).girth = s.girth := rfl
@[simp] theorem State.setPlot_partner (p : Nat) (x : PlotSt) : (s.setPlot p x).partner = s.partner := rfl
@[simp] theorem State.setPlot_ls (p : Nat) (x : PlotSt) : (s.setPlot p x).ls = s.ls := rfl
@[simp] theorem State.setPlot_lsStag (p : Nat) (x : PlotSt) : (s.setPlot p x).lsStag = s.lsStag := rfl
@[simp] theorem State.setPlot_lsOver (p : Nat) (x : PlotSt) : (s.setPlot p x).lsOver = s.lsOver := rfl
@[simp] theorem State.setPlot_lsKept0 (p : Nat) (x : PlotSt) : (s.setPlot p x).lsKept0 = s.lsKept0 := rfl
@[simp] theorem State.setPlot_lsKept1 (p : Nat) (x : PlotSt) : (s.setPlot p x).lsKept1 = s.lsKept1 := rfl
@[simp] theorem State.setPlot_dio (p : Nat) (x : PlotSt) : (s.setPlot p x).dio = s.dio := rfl
@[simp] theorem State.setPlot_str (p : Nat) (x : PlotSt) : (s.setPlot p x).str = s.str := rfl
@[simp] theorem State.setPlot_pom (p : Nat) (x : PlotSt) : (s.setPlot p x).pom = s.pom := rfl
@[simp] theorem State.setPlot_trl (p : Nat) (x : PlotSt) : (s.setPlot p x).trl = s.trl := rfl
@[simp] theorem State.setPlot_pt (p : Nat) (x : PlotSt) : (s.setPlot p x).pt = s.pt := rfl
@[simp] theorem State.setPlot_aon (p : Nat) (x : PlotSt) : (s.setPlot p x).aon = s.aon := rfl
@[simp] theorem State.setPlot_lat (p : Nat) (x : PlotSt) : (s.setPlot p x).lat = s.lat := rfl
@[simp] theorem State.setPlot_msr (p : Nat) (x : PlotSt) : (s.setPlot p x).msr = s.msr := rfl
@[simp] theorem State.setPlot_cap (p : Nat) (x : PlotSt) : (s.setPlot p x).cap = s.cap := rfl
@[simp] theorem State.setPlot_til (p : Nat) (x : PlotSt) : (s.setPlot p x).til = s.til := rfl
@[simp] theorem State.setPlot_can (p : Nat) (x : PlotSt) : (s.setPlot p x).can = s.can := rfl
@[simp] theorem State.setPlot_ns (p : Nat) (x : PlotSt) : (s.setPlot p x).ns = s.ns := rfl
@[simp] theorem State.setPlot_gw (p : Nat) (x : PlotSt) : (s.setPlot p x).gw = s.gw := rfl
@[simp] theorem State.setPlot_br (p : Nat) (x : PlotSt) : (s.setPlot p x).br = s.br := rfl
@[simp] theorem State.setPlot_ses (p : Nat) (x : PlotSt) : (s.setPlot p x).ses = s.ses := rfl
@[simp] theorem State.setPlot_clo (p : Nat) (x : PlotSt) : (s.setPlot p x).clo = s.clo := rfl
@[simp] theorem State.setPlot_grf (p : Nat) (x : PlotSt) : (s.setPlot p x).grf = s.grf := rfl
@[simp] theorem State.setPlot_retain (p : Nat) (x : PlotSt) : (s.setPlot p x).retain = s.retain := rfl
@[simp] theorem State.setPlot_jobs (p : Nat) (x : PlotSt) : (s.setPlot p x).jobs = s.jobs := rfl
@[simp] theorem State.setPlot_jobSeq (p : Nat) (x : PlotSt) : (s.setPlot p x).jobSeq = s.jobSeq := rfl
@[simp] theorem State.setPlot_pending (p : Nat) (x : PlotSt) : (s.setPlot p x).pending = s.pending := rfl

/-! What each operation does to its own part -/

@[simp] theorem State.wr_regs (f : Field) (v : Nat) : (s.wr f v).regs = s.regs.set f.key (v % 2 ^ f.w) := rfl
@[simp] theorem State.hwWr_regs (f : Field) (v : Nat) : (s.hwWr f v).regs = s.regs.set f.key (v % 2 ^ f.w) := rfl
@[simp] theorem State.put_regs (f : Field) (v : Nat) : (s.put f v).regs = s.regs.set f.key (v % 2 ^ f.w) := rfl
@[simp] theorem State.answer_resp (c d : Nat) : (s.answer c d).resp = ⟨c, d⟩ := rfl
@[simp] theorem State.status_resp (c : Nat) : (s.status c).resp = ⟨c, 0⟩ := rfl
@[simp] theorem State.emit_out (x : Out) : (s.emit x).out = s.out ++ [x] := rfl
@[simp] theorem State.hwFault_faults (c i : Nat) : (s.hwFault c i).faults = s.faults ++ [⟨c, i, s.stamp⟩] := rfl
@[simp] theorem State.took_free : s.took.free = s.free + 1 := rfl
@[simp] theorem State.putByte_mem (a : Nat) (v : Byte) : (s.putByte a v).mem = memSet s.mem a v := rfl

@[simp] theorem State.queue_setQueue_self (q : Nat) (x : QueueSt) : (s.setQueue q x).queue q = x := by
  simp [State.queue, State.setQueue]
theorem State.queue_setQueue_ne {i j : Nat} (x : QueueSt) (h : i ≠ j) : (s.setQueue j x).queue i = s.queue i := by
  simp [State.queue, State.setQueue, SMap.get_set_ne _ _ _ h]

@[simp] theorem State.canSt_setCan_self (i : Nat) (x : CanSt) : (s.setCan i x).canSt i = x := by
  simp [State.canSt, State.setCan]
theorem State.canSt_setCan_ne {i j : Nat} (x : CanSt) (h : i ≠ j) : (s.setCan j x).canSt i = s.canSt i := by
  simp [State.canSt, State.setCan, SMap.get_set_ne _ _ _ h]

@[simp] theorem State.lsCh_setLs_self (n : Nat) (x : LsCh) : (s.setLs n x).lsCh n = x := by
  simp [State.lsCh, State.setLs]
theorem State.lsCh_setLs_ne {i j : Nat} (x : LsCh) (h : i ≠ j) : (s.setLs j x).lsCh i = s.lsCh i := by
  simp [State.lsCh, State.setLs, SMap.get_set_ne _ _ _ h]

@[simp] theorem State.dioCh_setDio_self (n : Nat) (x : DioCh) : (s.setDio n x).dioCh n = x := by
  simp [State.dioCh, State.setDio]
theorem State.dioCh_setDio_ne {i j : Nat} (x : DioCh) (h : i ≠ j) : (s.setDio j x).dioCh i = s.dioCh i := by
  simp [State.dioCh, State.setDio, SMap.get_set_ne _ _ _ h]

@[simp] theorem State.ring_setRing_self (c : Nat) (x : LatRing) : (s.setRing c x).ring c = x := by
  simp [State.ring, State.setRing]
theorem State.ring_setRing_ne {i j : Nat} (x : LatRing) (h : i ≠ j) : (s.setRing j x).ring i = s.ring i := by
  simp [State.ring, State.setRing, SMap.get_set_ne _ _ _ h]

@[simp] theorem State.link_setLink_self (m : Nat) (x : MsrLink) : (s.setLink m x).link m = x := by
  simp [State.link, State.setLink]
theorem State.link_setLink_ne {i j : Nat} (x : MsrLink) (h : i ≠ j) : (s.setLink j x).link i = s.link i := by
  simp [State.link, State.setLink, SMap.get_set_ne _ _ _ h]

@[simp] theorem State.job_setJob_self (j : Nat) (x : Job) : (s.setJob j x).job j = x := by
  simp [State.job, State.setJob]
theorem State.job_setJob_ne {i j : Nat} (x : Job) (h : i ≠ j) : (s.setJob j x).job i = s.job i := by
  simp [State.job, State.setJob, SMap.get_set_ne _ _ _ h]

@[simp] theorem State.plot_setPlot_self (p : Nat) (x : PlotSt) : (s.setPlot p x).plot p = x := by
  simp [State.plot, State.setPlot]
theorem State.plot_setPlot_ne {i j : Nat} (x : PlotSt) (h : i ≠ j) : (s.setPlot j x).plot i = s.plot i := by
  simp [State.plot, State.setPlot, SMap.get_set_ne _ _ _ h]

/-! ## Registers -/

/-- A field reads as it was written, cut to its width. -/
@[simp] theorem State.rd_wr_self (f : Field) (v : Nat) : (s.wr f v).rd f = v % 2 ^ f.w := by
  simp [State.rd]

/-- Writing a field leaves every other field. -/
theorem State.rd_wr_ne {f g : Field} (v : Nat) (h : f.key ≠ g.key) : (s.wr g v).rd f = s.rd f := by
  simp [State.rd, SMap.get_set_ne _ _ _ h]

/-- Reading any field after a write. -/
theorem State.rd_wr (f g : Field) (v : Nat) :
    (s.wr g v).rd f = if f.key = g.key then v % 2 ^ g.w else s.rd f := by
  simp only [State.rd, State.wr_regs, SMap.get_set]

/-- An update by hardware of an RW field reads as a write does. -/
theorem State.rd_hwWr (f g : Field) (v : Nat) : (s.hwWr g v).rd f = (s.wr g v).rd f := rfl

/-- A value put by a host reads as a write does. -/
theorem State.rd_put (f g : Field) (v : Nat) : (s.put g v).rd f = (s.wr g v).rd f := rfl

/-- The one-bit and signed forms, and the forms on one bit, are writes. -/
theorem State.rd_wrB (f g : Field) (x : Bool) : (s.wrB g x).rd f = (s.wr g x.toNat).rd f := rfl
theorem State.rd_wrI (f g : Field) (x : Int) : (s.wrI g x).rd f = (s.wr g (ofInt g.w x)).rd f := rfl
theorem State.rd_incWrap (f g : Field) : (s.incWrap g).rd f = (s.wr g (s.rd g + 1)).rd f := rfl
theorem State.rd_setBit (f g : Field) (i : Nat) : (s.setBit g i).rd f = (s.wr g (s.rd g ||| 2 ^ i)).rd f := rfl

/-- A host write of an RW field is discarded where hardware has updated the field in the same tick, and stands else (R111). -/
theorem State.rd_hostWr (f g : Field) (v : Nat) :
    (s.hostWr g v).rd f = if s.hwHas g then s.rd f else (s.wr g v).rd f := by
  unfold State.hostWr
  split <;> rfl

/-- A saturating count. -/
theorem State.rd_incSat (f g : Field) :
    (s.incSat g).rd f = if f.key = g.key then (if s.rd g + 1 < 2 ^ g.w then s.rd g + 1 else 2 ^ g.w - 1) else s.rd f := by
  simp only [State.rd, State.incSat, SMap.get_set]

/-- Outside the registers reset, a field keeps its value. -/
theorem State.rd_resetRegs_out {f : Field} {lo hi : Nat} (h : f.key < 32 * lo ∨ 32 * hi ≤ f.key) :
    (s.resetRegs lo hi).rd f = s.rd f := by
  simp only [State.rd, State.resetRegs]
  exact SMap.get_dropRange_of_not_mem _ _ h

/-- Inside them, a field has its reset value. -/
theorem State.rd_resetRegs_in {f : Field} {lo hi : Nat} (h1 : 32 * lo ≤ f.key) (h2 : f.key < 32 * hi) :
    (s.resetRegs lo hi).rd f = f.rst := by
  simp only [State.rd, State.resetRegs]
  exact SMap.get_dropRange_of_mem _ _ h1 h2

@[simp] theorem State.wrB_regs (f : Field) (b : Bool) : s.wrB f b = s.wr f b.toNat := rfl

/-- Two states with the same register file read alike. -/
theorem State.rd_congr {s t : State} (h : t.regs = s.regs) (f : Field) : t.rd f = s.rd f := by
  simp only [State.rd, h]

@[simp] theorem State.rd_answer (f : Field) (c d : Nat) : (s.answer c d).rd f = s.rd f := rfl
@[simp] theorem State.rd_status (f : Field) (c : Nat) : (s.status c).rd f = s.rd f := rfl
@[simp] theorem State.rd_emit (f : Field) (o : Out) : (s.emit o).rd f = s.rd f := rfl
@[simp] theorem State.rd_took (f : Field) : (s.took).rd f = s.rd f := rfl
@[simp] theorem State.rd_putByte (f : Field) (a : Nat) (v : Byte) : (s.putByte a v).rd f = s.rd f := rfl
@[simp] theorem State.rd_dropMem (f : Field) (lo hi : Nat) : (s.dropMem lo hi).rd f = s.rd f := rfl
@[simp] theorem State.rd_setObj (f : Field) (i j v : Nat) : (s.setObj i j v).rd f = s.rd f := rfl
@[simp] theorem State.rd_hwFault (f : Field) (c i : Nat) : (s.hwFault c i).rd f = s.rd f := rfl
@[simp] theorem State.rd_setQueue (f : Field) (q : Nat) (x : QueueSt) : (s.setQueue q x).rd f = s.rd f := rfl
@[simp] theorem State.rd_setCan (f : Field) (i : Nat) (x : CanSt) : (s.setCan i x).rd f = s.rd f := rfl
@[simp] theorem State.rd_setLs (f : Field) (n : Nat) (x : LsCh) : (s.setLs n x).rd f = s.rd f := rfl
@[simp] theorem State.rd_setDio (f : Field) (n : Nat) (x : DioCh) : (s.setDio n x).rd f = s.rd f := rfl
@[simp] theorem State.rd_setRing (f : Field) (c : Nat) (x : LatRing) : (s.setRing c x).rd f = s.rd f := rfl
@[simp] theorem State.rd_setLink (f : Field) (m : Nat) (x : MsrLink) : (s.setLink m x).rd f = s.rd f := rfl
@[simp] theorem State.rd_setJob (f : Field) (j : Nat) (x : Job) : (s.setJob j x).rd f = s.rd f := rfl
@[simp] theorem State.rd_setPlot (f : Field) (p : Nat) (x : PlotSt) : (s.setPlot p x).rd f = s.rd f := rfl

/-! ## Several fields left alone -/

theorem State.RegsBut_refl (fs : List Field) : s.RegsBut s fs := fun _ _ => rfl

/-- Writing a field of the list keeps the frame. -/
theorem State.RegsBut_wr {t : State} {fs : List Field} {g : Field} (v : Nat) (h : s.RegsBut t fs) (hg : g ∈ fs) :
    s.RegsBut (t.wr g v) fs := fun f hf => by
  rw [State.rd_wr_ne _ _ (hf g hg)]
  exact h f hf

/-- An operation that leaves the register file keeps the frame. -/
theorem State.RegsBut_congr {t u : State} {fs : List Field} (h : s.RegsBut t fs) (e : u.regs = t.regs) : s.RegsBut u fs :=
  fun f hf => by rw [State.rd_congr e, h f hf]

end Sys2Proof.Machine
end

