-- ==== Sys2Proof/Laws/PlotTables.lean ====
section
/-! SUPPORT. A host write of one register leaves the fields of every other; an empty staged set of tables passes every
check of R472. -/

namespace Sys2Proof.Machine

/-- Writing the fields of one register leaves a field of another. -/
theorem State.rd_wordWrite_ne {f : Field} (hf : f.lo < 32) (v a : Nat) (ha : f.addr ≠ a) :
    ∀ (l : List Field) (s : State), (∀ g ∈ l, AtAddr a g) → (s.wordWrite v l).rd f = s.rd f
  | [], _, _ => rfl
  | g :: l, s, h => by
    have hg := h g (List.mem_cons_self ..)
    have hk : f.key ≠ g.key := by
      have h1 := hg.addr
      have h2 := hg.lo
      unfold Field.key
      omega
    refine (State.rd_wordWrite_ne hf v a ha l _ fun x hx => h x (List.mem_cons_of_mem _ hx)).trans ?_
    unfold State.fieldWrite
    split <;> first
      | rfl
      | exact State.rd_wr_ne _ _ hk
      | (rw [State.rd_hostWr]; split <;> first | rfl | exact State.rd_wr_ne _ _ hk)

/-- A host write of a register word leaves every field at another address. -/
theorem State.rd_writeWord_ne {f : Field} (hf : f.lo < 32) (s : State) (v : Nat) {a : Nat} (ha : f.addr ≠ a) :
    (s.writeWord a v).rd f = s.rd f :=
  State.rd_wordWrite_ne hf v a ha _ s (fieldsAt_spec a)

theorem numIn_nil : numIn [] 0 4 = 0 := by decide

/-- A staged set without a queue table leaves every queue off. -/
theorem trial_queues_off (s : State) (h : stagedQueues s = []) (q : Nat) (hq : q < 64) : (trial s).rd (F.Q_CFG_EN q) = 0 := by
  have e : ∀ (g : Nat → State → State) (hg : ∀ i t, i < 64 → (g i t).rd (F.Q_CFG_EN i) = 0 ∧
      ∀ j, j < 64 → j ≠ i → (g i t).rd (F.Q_CFG_EN j) = t.rd (F.Q_CFG_EN j)) (u : State) (n : Nat), n ≤ 64 →
      ∀ j, j < n → (forN g n u).rd (F.Q_CFG_EN j) = 0 := by
    intro g hg u n
    induction n with
    | zero => intro _ j hj; omega
    | succ n ih =>
      intro hn j hj
      rcases Nat.lt_or_ge j n with hl | hl
      · exact ((hg n _ (by omega)).2 j (by omega) (by omega)).trans (ih (by omega) j hl)
      · have : j = n := by omega
        subst this
        exact (hg j _ (by omega)).1
  unfold trial
  refine e _ ?_ _ 64 (Nat.le_refl _) q hq
  intro i t hi
  have hb : stagedQueues (forN (fun p t => plotProgram t p (stagedRec s p)) 8 s) = [] := by
    have w : Within 36893488147419103223 s (forN (fun p t => plotProgram t p (stagedRec s p)) 8 s) :=
      Within.forN (fun _ _ _ ht => plotProgram_within rfl ht) (Within.refl _ s)
    have : (forN (fun p t => plotProgram t p (stagedRec s p)) 8 s).objBytes = s.objBytes := w.same .objBytes (by decide)
    simp only [stagedQueues, this] at h ⊢
    exact h
  rw [hb]
  refine ⟨(State.rd_wr_self ..).trans (by simp [queueRow, numIn_nil]), fun j hj hne => ?_⟩
  rw [State.rd_wr_ne _ _ (by simp only [Field.key, F.Q_CFG_EN]; omega)]
  unfold queueFields
  have hlo : (F.Q_CFG_EN j).lo < 32 := Nat.zero_lt_succ _
  rw [State.rd_writeWord_ne hlo _ _ (by simp only [F.Q_CFG_EN, F.Q_SPILL_CFG_BANKS]; omega),
    State.rd_writeWord_ne hlo _ _ (by simp only [F.Q_CFG_EN, F.Q_SPILL_BASE_BASE]; omega),
    State.rd_writeWord_ne hlo _ _ (by simp only [F.Q_CFG_EN, F.Q_CREDIT_CFG_CREDIT_MAX]; omega),
    State.rd_writeWord_ne hlo _ _ (by simp only [F.Q_CFG_EN, F.Q_OWN_PROD]; omega),
    State.rd_writeWord_ne hlo _ _ (by simp only [F.Q_CFG_EN, F.Q_BASE_BASE]; omega),
    State.rd_writeWord_ne hlo _ _ (by simp only [F.Q_CFG_EN]; omega)]

/-- An empty staged set passes every check. -/
theorem tablesFault_empty (s : State) (h : s.objBytes = []) : tablesFault s = none := by
  have hr : ∀ p, stagedRec s p = [] := fun p => by simp [stagedRec, h, SMap.get, SMap.find?]
  have hm : ∀ p, stagedMasks s p = [] := fun p => by simp [stagedMasks, h, SMap.get, SMap.find?]
  have hq : stagedQueues s = [] := by simp [stagedQueues, h, SMap.get, SMap.find?]
  have hp : stagedPlan s = [] := by simp [stagedPlan, h, SMap.get, SMap.find?]
  have hen : recEn [] = false := by decide
  have hlive : (List.range 8).filter (fun p => recEn (stagedRec s p)) = [] := by
    simp [hr, hen]
  have h1 : ∀ k p, plotBad s (trial s) k p = false := by
    intro k p
    unfold plotBad
    rw [hr, hm]
    have : masksBad [] 0 1025 = false := by decide
    by_cases h1 : k = 0x0C
    · simp [h1]
    · by_cases h2 : k = 0x0A
      · simp [h2, this]
      · simp [h1, h2, hen]
  have h2 : ∀ k, deviceBad s (trial s) k = false := by
    intro k
    unfold deviceBad
    simp only [hlive, hq, hp]
    by_cases h1 : k = 0x08
    · have : ∀ q ∈ List.range 64, ((trial s).rdB (F.Q_CFG_EN q) && !queueCfgOk (trial s) q) = false := by
        intro q h
        have : (trial s).rdB (F.Q_CFG_EN q) = false := by
          simp [State.rdB, trial_queues_off s hq q (List.mem_range.1 h)]
        rw [this, Bool.false_and]
      simp only [h1, if_true, List.isEmpty_nil, Bool.not_true, Bool.false_and, Bool.false_or]
      exact List.any_eq_false.2 fun q hq => by rw [this q hq]; exact Bool.false_ne_true
    · simp [h1]
  unfold tablesFault
  simp only [h1, h2]
  decide

end Sys2Proof.Machine
end

