-- ==== Sys2Proof/Laws/TilthPar.lean ====
section
/-! SUPPORT. A parameter copy that lists no byte passes every check of R256 and R274. -/

namespace Sys2Proof.Machine

theorem ofLe_zeros : ∀ n : Nat, ofLe (List.replicate n 0) = 0
  | 0 => rfl
  | n + 1 => by
    have h := ofLe_zeros n
    simpa [List.replicate_succ, ofLe] using h

theorem parNum_nil (a n : Nat) : parNum [] a n = 0 := by
  have h : (List.range n).map (fun i => memGet [] (a + i)) = List.replicate n 0 := by
    refine List.eq_replicate_iff.2 ⟨by simp, fun b hb => ?_⟩
    obtain ⟨i, _, rfl⟩ := List.mem_map.1 hb
    rfl
  rw [parNum, h, ofLe_zeros]

theorem parEn_nil (g : Nat) : parEn [] g = false := by simp [parEn, parNum_nil]

theorem parCellFault_nil (g : Nat) : parCellFault [] g = none := by
  simp [parCellFault, parString, parOcv, parSensor, parAny, parNum_nil]

theorem parTable_nil (k : Nat) : parTableTail [] k = false ∧ parTableBad [] k = false := by
  simp [parTableTail, parTableBad, parAny, parEn_nil]

theorem parZFault_nil : parZFault [] = none := by
  have h : ∀ l : List Nat, l.findSome? (fun _ => (none : Option (Nat × Nat))) = none := by
    intro l
    induction l <;> simp [*]
  simp [parZFault, parOrd, parUsed, parAny, parZs, parEn_nil, parNum_nil, h]

end Sys2Proof.Machine
end

