-- ==== Sys2Proof/Machine/Rank.lean ====
section
/-! DEFINITION. The order of the commands of one tick (04_clocks_resets.md): the ranks of Table 4-5 and the arbitration of
R112, as the order in which commands that arrive in one tick wait in the queue. -/

namespace Sys2Proof.Machine

/-- The rank of a command's class in Table 4-5: 1 power loss, 2 tamper, 3 hardware fault, 4 protection trip, 5 awaited arrival, 6 timeout or expiry, 7 hardware update, 8 scheduled action, 9 command
(which rows fall in which class: log entry 19). -/
def rankOf (c : Instr) : Nat :=
  match c with
  | .powerFailWarning | .presNDeassert .. => 1
  | .tamperDetect .. => 2
  | .feedUndervoltage .. | .railFault .. | .clockFault .. | .seatChange | .ac0SupervisorFault | .handshakeTimeout .. |
    .d2dLinkLoss | .linkLoss .. | .lockstepMismatch .. | .delayRegParity | .peerCheck .. | .sramEccError .. |
    .slsOvercurrent .. | .sc .. | .limTrip .. | .shed .. | .bankHot .. | .dioLimit .. | .dioTherm .. | .canError .. |
    .busDom .. | .xlLinkLoss | .accessViolation .. | .ethLinkDown .. => 3
  | .pommelEvaluate .. | .tempDueCheck .. | .setstale .. | .injectionPass .. => 4
  | .vinPowerOn | .holdupOk | .vinPathClose | .feedRestored .. | .presNAssert .. | .lsExtSense .. | .seatingEnd .. |
    .ejectNAssert .. | .ejectNDeassert | .handoffSafeLsOpen | .bootComplete | .wakeEvent .. | .blkResetRelease .. |
    .heartbeatRx .. | .netrefRx .. | .lockAcquire .. | .slewDone | .ethFrameRx .. | .linkUp .. | .trainRx .. |
    .triggerRx .. | .enumEndRx .. | .echoRx .. | .readRspRx .. | .writeAckRx .. | .nackRx .. | .linkDownRx .. |
    .ringPassRequest .. | .ringPassAcceptRx .. | .msrFrameRx .. | .msrCtrlReplyRx .. | .dumpDone .. | .hwPacketWrite .. |
    .spillDone .. | .tilthFirstPass | .tilthSecondPass | .mirrorTripRx .. | .suspectReportRx | .bankNormal .. |
    .lsReleaseRequest .. | .lsReleaseConfirm .. | .relFail .. | .wdogFrameRx .. | .dioEdgeAccept .. | .wireRestored .. |
    .canFrameRx .. | .canTxDone .. | .recoveryComplete .. | .selectiveWake .. | .tokenRx .. | .commitRx .. | .abortRx .. |
    .wakeRx .. | .wakeLineLow .. | .wakeLineHigh | .retryRx .. | .xlInboundRequest .. | .failureNoticeRx .. |
    .canSegmentRx .. | .plotAnswerRx .. | .jobDone .. | .jobFailed .. | .resetDrainDone .. | .freezeDone .. |
    .imageRestore .. | .migrateConfirmRx .. | .tamperEraseDone | .bankEraseDone .. | .activationProceed .. | .xlLinkTrained |
    .ethLinkUp .. | .canBusIntegrate .. | .dioRawTransition .. | .xlResponseRx .. | .xlPostedAckRx .. | .checkpointRx .. |
    .mirrorResetRx .. | .dormancyEntryComplete | .shutdownComplete | .svcVbusChange .. => 5
  | .handoffTimeout | .bootTimeout | .dormTimerExpiry .. | .holdRestart .. | .coldRestartRetry .. | .heartbeatTimeout |
    .partnerHoldTimeout | .lockLoss .. | .netTimeout | .holdoverLimit | .powAuxTimeout .. | .ptHoldoverTimeout |
    .canrefFupAbort .. | .setDeadline | .triggerAbsent .. | .mastershipListenEnd | .enumTimeout .. | .ringPassTimeout .. |
    .msrConvDeadline .. | .openTmo .. | .segmentEnd .. | .lsRetry .. | .retryCountReset .. | .staggerSwitchOn .. |
    .lsServiceExpiry .. | .lsOverlapEnd .. | .streamTimeout .. | .holdExpiry | .partnerTmoExpiry | .reclaimExpiry |
    .dioRetry .. | .dioServiceExpiry .. | .ttMiss .. | .roundTmo | .commitWindowEnd | .wakePulseEnd | .rspTimeout .. |
    .fenceComplete .. | .gwPeriodExpiry .. | .gwInhibitEnd .. | .gwSourceTimeout .. | .sessionIdleTimeout .. |
    .assemblyTimeout .. | .snapshotTimeout .. | .segmentTimeout .. | .forwardTimeout .. | .plotWdogExpiry .. |
    .checkpointTimer .. | .tokenExpiry => 6
  | .railWarn .. | .energyIntegrate .. | .heartbeatTx | .slsArmRaise | .cycleBoundary .. | .powLearnSave | .ptStepApply |
    .ethFrameTx .. | .trainOriginate | .msrSyncSend .. | .bankSwap .. | .spillClose .. | .tilthStart | .cycleWindowClose |
    .statWindowClose | .zWindowClose | .bankPublish .. | .tilCommitApply | .sweepWindowClose .. | .slsClose | .lsSample .. |
    .openOn .. | .openOff .. | .outHigh .. | .bankWarn .. | .wireBreak .. | .dioReadbackFault .. | .dioOpenOn .. |
    .fclChange .. | .roundStart | .gwTableActivate | .settingsStore | .jobDequeue .. | .windowBoundary .. |
    .latControlWindow | .stitchAddressApply .. => 7
  | .slotFire .. | .mark .. | .lsOn .. | .lsOff .. | .dioOn .. | .dioOff .. | .dioPulse .. | .dioPulseEnd .. |
    .canLaunch .. | .furrowPost .. | .powClose .. | .powOpen .. | .latTrigger .. | .msrPoint | .tilthWindow | .netrefSend |
    .ethLaunch .. | .canrefSync .. | .canrefFup .. => 8
  | .modeReqRun .. | .modeReqService .. | .modeReqBoot .. | .modeReqDormancy .. | .modeReqHandoff .. | .energyLoRead .. |
    .energyClr .. | .blkRst .. | .misalignedAccess .. | .reservedRangeAccess .. | .xipWrite .. | .resetDomainAccess .. |
    .registerWrite .. | .trlNowRead | .slotCtlWrite .. | .trlPartWrite .. | .powCfgWrite .. | .powOpWrite .. |
    .powRelWrite .. | .ptOffsetUpdate .. | .ptSetGo .. | .ptNowRead | .ethTxtsRead .. | .enumForce .. | .enumFill .. |
    .remeasure .. | .acceptMap .. | .pass .. | .msrRemeasure .. | .capCtlWrite .. | .qWr .. | .qWrEnd .. | .qPctlPrio .. |
    .poisonNext .. | .abortCmd .. | .flush .. | .qNextRead .. | .qDataRead .. | .qEnable .. | .qDisable .. | .commit .. |
    .tilCommitAbort .. | .tilEnable .. | .tilUcAddrWrite .. | .tilUcDataWrite .. | .tilUcLock .. | .tripReset .. |
    .manualTrip .. | .paramWrite .. | .paramRead .. | .injectNow .. | .lsReqOn .. | .lsClear .. | .lsServiceOn .. |
    .lsServiceOff .. | .lsPchk .. | .lsProfWrite .. | .lsParallelSet .. | .strRelLs .. | .strRelDio .. | .dioReqOn .. |
    .dioClear .. | .dioServiceOn .. | .canTxbReq .. | .canTxbAbort .. | .recover .. | .abortAll .. | .pulse .. |
    .wakeframe .. | .bridleRead .. | .bridleNonpostedWrite .. | .bridlePostedWrite .. | .fenceGo .. | .stitchFence .. |
    .gwCommit .. | .openSession .. | .read .. | .write .. | .nop .. | .close .. | .clearModeRequest .. | .localRequest .. |
    .settingsDefaults .. | .jobKindWrite .. | .start .. | .suspend .. | .resume .. | .cancel .. | .plotTablesCommit .. |
    .pcWdogKick .. | .plotStart .. | .plotStop .. | .plotReset .. | .freeze .. | .thaw .. | .checkpoint .. |
    .lifecycleMessage .. | .provision .. | .debugToken .. | .awlOpen | .debugClose .. | .counterIncrement .. |
    .graftBlockWrite .. | .svcBlock .. | .rcFieldRead .. | .dioEdgeCycRead .. => 9

/-- The arbitration point of an access to address `a`. -/
def askPoint (a : Nat) : Nat := if 0x20000000 ≤ a ∧ a < 0x21300000 then a / 0x100000 else 0

/-- What a command asks for: the arbitration point (the number of the register window, 0 for the memories), its priority
(R13; 4 where a command carries none, log entry 19) and the requester. -/
def asksOf (c : Instr) : Option (Nat × Nat × Req) :=
  match c with
  | .slotCtlWrite r _ _ | .trlPartWrite r _ _ | .powCfgWrite r _ _ | .powOpWrite r _ _ |
    .powRelWrite r _ _ => some (0x200, 4, r)
  | .ptOffsetUpdate r _ | .ptSetGo r => some (0x201, 4, r)
  | .enumForce r _ | .enumFill r _ | .remeasure r _ | .acceptMap r _ | .pass r _ => some (0x202, 4, r)
  | .msrRemeasure r _ | .capCtlWrite r _ => some (0x203, 4, r)
  | .qWr r _ _ | .qWrEnd r _ _ | .qPctlPrio r _ _ | .poisonNext r _ | .abortCmd r _ | .flush r _ | .qNextRead r _ |
    .qDataRead r _ _ | .qEnable r _ _ _ _ | .qDisable r _ => some (0x204, 4, r)
  | .commit r | .tilCommitAbort r | .tilEnable r | .tilUcAddrWrite r _ | .tilUcDataWrite r _ |
    .tilUcLock r => some (0x205, 4, r)
  | .tripReset r _ | .manualTrip r _ _ _ | .paramWrite r _ _ _ | .paramRead r _ _ | .injectNow r _ _ => some (0x206, 4, r)
  | .lsReqOn r _ _ | .lsClear r _ | .lsServiceOn r _ _ | .lsServiceOff r _ | .lsPchk r _ | .lsProfWrite r _ _ _ |
    .lsParallelSet r _ _ => some (0x207, 4, r)
  | .strRelLs r _ | .strRelDio r _ => some (0x208, 4, r)
  | .dioReqOn r _ _ | .dioClear r _ | .dioServiceOn r _ _ => some (0x209, 4, r)
  | .canTxbReq r _ _ | .canTxbAbort r _ _ | .recover r _ | .abortAll r _ | .pulse r | .wakeframe r => some (0x20A, 4, r)
  | .fenceGo r _ | .gwCommit r => some (0x20B, 4, r)
  | .plotTablesCommit r | .pcWdogKick r _ _ | .plotStart r _ | .plotStop r _ | .plotReset r _ | .freeze r _ | .thaw r _ |
    .checkpoint r _ => some (0x20C, 4, r)
  | .counterIncrement r _ => some (0x20D, 4, r)
  | .modeReqRun r _ | .modeReqService r _ _ | .modeReqBoot r _ | .modeReqDormancy r _ | .modeReqHandoff r _ |
    .blkRst r _ => some (0x20E, 4, r)
  | .misalignedAccess r _ a _ => some (askPoint a.toNat, 4, r)
  | .reservedRangeAccess r _ a _ => some (askPoint a.toNat, 4, r)
  | .resetDomainAccess r _ a => some (askPoint a.toNat, 4, r)
  | .registerWrite r a _ _ => some (askPoint a.toNat, 4, r)
  | .rcFieldRead r a => some (askPoint a.toNat, 4, r)
  | .xipWrite r _ _ => some (0, 4, r)
  | .bridleRead r a _ p _ => some (askPoint a.toNat, p.val, r)
  | .bridleNonpostedWrite r a _ _ p _ => some (askPoint a.toNat, p.val, r)
  | .bridlePostedWrite r a _ _ p _ _ => some (askPoint a.toNat, p.val, r)
  | _ => none

/-- Does a host's write that `c` is end the wait whose timeout is `d` (R110)? Against that timeout it is an arrival. -/
def awaits (c d : Instr) : Bool :=
  match c, d with
  | .qWr _ q _, .openTmo k => q == k
  | .qWrEnd _ q _, .openTmo k => q == k
  | .pcWdogKick _ p v, .plotWdogExpiry k => p == k && v == 0x4B1D
  | .ptOffsetUpdate _ _, .ptHoldoverTimeout => true
  | .strRelLs _ _, .reclaimExpiry => true
  | .strRelDio _ _, .reclaimExpiry => true
  | .read h _, .sessionIdleTimeout n => h.session.toNat == n.val
  | .write h _ _, .sessionIdleTimeout n => h.session.toNat == n.val
  | .nop h _, .sessionIdleTimeout n => h.session.toNat == n.val
  | .close h, .sessionIdleTimeout n => h.session.toNat == n.val
  | _, _ => false

/-- The place of a requester at an arbitration point that starts with plot `start`: system masters, then the plots from
there upwards, wrapping (R112). -/
def reqTurn (start : Nat) (r : Req) : Nat :=
  match r with
  | .plot p => 1 + (p.val + 8 - start % 8) % 8
  | _ => 0

/-- Does `c` take effect before `d` when both come in one tick (R110, R112)? -/
def State.goesFirst (s : State) (c d : Instr) : Bool :=
  if awaits c d then true
  else if awaits d c then false
  else if rankOf c ≠ rankOf d then decide (rankOf c < rankOf d)
  else match asksOf c, asksOf d with
    | some (k, p, r), some (k', p', r') =>
      k == k' && (decide (p < p') || (p == p' && decide (reqTurn (s.arb.get k (0, 0)).1 r < reqTurn (s.arb.get k (0, 0)).1 r')))
    | _, _ => false

/-- Put a command among those that wait: behind all that it does not precede. -/
def State.place (s : State) (c : Instr) : List Instr → List Instr
  | [] => [c]
  | d :: l => if s.goesFirst c d && !l.any (fun x => awaits x c) then c :: d :: l else d :: s.place c l

/-- The plot that the last of the waiting commands at an arbitration point comes from, plus 1. -/
def lastAsked (k : Nat) (l : List Instr) : Option Nat :=
  (l.reverse.findSome? fun c => match asksOf c with
    | some (j, _, .plot p) => if j = k then some (p.val + 1) else none
    | _ => none)

/-- A command arrives in the present tick: it waits at its place among the commands of the tick, and the arbitration point
notes the plot that it will have granted last (R109-R112). The commands of a tick are all taken before the next. -/
def State.post (c : Instr) (s : State) : State :=
  let l := s.place c s.pending
  match asksOf c with
  | none => { s with pending := l }
  | some (k, _, _) =>
    let e := s.arb.get k (0, 0)
    { s with pending := l, arb := s.arb.set k (e.1, (lastAsked k l).getD e.2) }

end Sys2Proof.Machine
end

