-- ==== Sys2Proof/WellFormed.lean ====
section
/-! DEFINITION. Which commands can be formed at all: the shapes that the types of their operands leave open. The
meanings are total all the same; a command that fails these checks is one that no sender can make. -/

namespace Sys2Proof

namespace Machine

/-- A CAN frame that a bus can carry: an identifier of 11 or 29 bits, a DLC of four bits, no remote frame, BRS or ESI
where the format has none (R384, Table 16-5), and as many bytes as the DLC says. -/
def CanFrame.wf (f : CanFrame) : Bool :=
  decide (f.id < 2 ^ (if f.ide then 29 else 11)) && decide (f.dlc < 16) && !(f.fdf && f.rtr) &&
    (f.fdf || !(f.brs || f.esi)) &&
    (f.data.length == if f.rtr then 0 else dlcBytes f.fdf f.dlc)

/-- A heartbeat whose maps name channels, rings, nodes and plots that exist (Table 1-5, R488). -/
def Heartbeat.wf (h : Heartbeat) : Bool :=
  decide (1 ≤ h.mode ∧ h.mode ≤ 8 ∧ h.side < 2 ∧ h.slot < 16 ∧ h.rings < 2 ^ 12 ∧ h.trig < 2 ^ 12) &&
    decide (h.ls < 2 ^ 24 ∧ h.dio < 2 ^ 32 ∧ h.plots < 2 ^ 8 ∧ h.lsOn < 2 ^ 24 ∧ h.dioOn < 2 ^ 32) &&
    decide (h.digest < 2 ^ 384 ∧ h.nsRound < 2 ^ 32 ∧ h.nsState < 8) &&
    (h.reach.length == 12) && h.reach.all (fun e => decide (e.1 < 24 ∧ e.2 < 24)) &&
    (h.plotInfo.length == 8) && h.plotInfo.all (fun e => decide (e.1 < 8 ∧ e.2.1 < 2 ^ 32))

/-- A section with words of 32 bits and packets of Furrow's lengths (R226, R483). -/
def ImgSection.wf : ImgSection → Bool
  | .core _ _ => true
  | .memory _ _ => true
  | .queue q ps => decide (q < 64) && ps.all (fun p => decide (p.1 < 8 ∧ 1 ≤ p.2.length ∧ p.2.length ≤ 1024))
  | .regs ty _ ws => decide (4 ≤ ty ∧ ty ≤ 6) && ws.all (fun w => decide (w.2 < 2 ^ 32))

/-- A plot image of Table 20-7: one of eight plots, a GEN of 32 bits, 16 bytes of digest, well-formed sections. -/
def PlotImage.wf (i : PlotImage) : Bool :=
  decide (i.plot < 256 ∧ i.gen < 2 ^ 32) && (i.digest.length == 16) && i.sections.all ImgSection.wf

/-- A frame of Table 19-5a: it holds at most 64 bytes, and a message at most 1,100 (R450). -/
def StitchSeg.wf : StitchSeg → Bool
  | .single b => decide (b.length ≤ 61)
  | .first n b => decide (n < 2 ^ 16) && (b.length == 61)
  | .next _ b => decide (b.length ≤ 63)
  | .flow bs st _ => decide (bs < 256 ∧ st < 256)

/-- A request body of Table 19-3: LENGTH has 16 bits, so no more bytes can follow. -/
def StitchReq.wf (q : StitchReq) : Bool := decide (q.data.length < 2 ^ 16)

/-- A frame that selective wake sees is a frame. -/
def SwkEvent.wf : SwkEvent → Bool
  | .frame f => f.wf
  | .badFrame => true
  | .pattern => true

end Machine

/-- Can the command be formed? -/
def Instr.wf : Instr → Bool
  | .vinPowerOn => true
  | .powerFailWarning => true
  | .holdupOk => true
  | .vinPathClose => true
  | .feedUndervoltage _ => true
  | .feedRestored _ => true
  | .railWarn _ _ => true
  | .railFault _ _ => true
  | .clockFault _ _ => true
  | .presNAssert _ _ => true
  | .lsExtSense _ => true
  | .seatingEnd _ => true
  | .presNDeassert _ => true
  | .seatChange => true
  | .ejectNAssert _ => true
  | .ejectNDeassert => true
  | .handoffSafeLsOpen => true
  | .handoffTimeout => true
  | .bootComplete => true
  | .bootTimeout => true
  | .modeReqRun _ _ => true
  | .modeReqService _ _ _ => true
  | .modeReqBoot _ _ => true
  | .modeReqDormancy _ _ => true
  | .modeReqHandoff _ _ => true
  | .wakeEvent _ _ => true
  | .dormTimerExpiry _ => true
  | .holdRestart _ => true
  | .coldRestartRetry _ => true
  | .ac0SupervisorFault => true
  | .energyIntegrate mj _ _ _ _ => mj.length == 13
  | .energyLoRead _ => true
  | .energyClr _ => true
  | .blkRst _ _ => true
  | .blkResetRelease _ => true
  | .handshakeTimeout _ => true
  | .d2dLinkLoss => true
  | .misalignedAccess _ _ _ _ => true
  | .reservedRangeAccess _ _ _ _ => true
  | .xipWrite _ _ _ => true
  | .resetDomainAccess _ _ _ => true
  | .registerWrite _ _ _ _ => true
  | .heartbeatTx => true
  | .heartbeatRx h => h.wf
  | .heartbeatTimeout => true
  | .partnerHoldTimeout => true
  | .slsArmRaise => true
  | .cycleBoundary _ => true
  | .netrefRx _ _ => true
  | .lockAcquire _ _ _ => true
  | .lockLoss _ _ _ => true
  | .netTimeout => true
  | .slewDone => true
  | .holdoverLimit => true
  | .trlNowRead => true
  | .slotCtlWrite _ _ _ => true
  | .trlPartWrite _ _ _ => true
  | .slotFire _ => true
  | .mark _ => true
  | .lsOn _ _ => true
  | .lsOff _ _ => true
  | .dioOn _ _ => true
  | .dioOff _ _ => true
  | .dioPulse _ _ => true
  | .dioPulseEnd _ => true
  | .canLaunch _ => true
  | .furrowPost _ => true
  | .powClose _ _ => true
  | .powOpen _ _ => true
  | .latTrigger _ => true
  | .msrPoint => true
  | .tilthWindow => true
  | .netrefSend => true
  | .powCfgWrite _ _ _ => true
  | .powOpWrite _ _ _ => true
  | .powRelWrite _ _ _ => true
  | .powAuxTimeout _ => true
  | .powLearnSave => true
  | .ptOffsetUpdate _ _ => true
  | .ptStepApply => true
  | .ptSetGo _ => true
  | .ptHoldoverTimeout => true
  | .ptNowRead => true
  | .ethFrameRx _ _ _ _ => true
  | .ethFrameTx _ _ => true
  | .ethLaunch _ _ => true
  | .ethTxtsRead _ => true
  | .canrefSync _ => true
  | .canrefFup _ => true
  | .canrefFupAbort _ => true
  | .linkUp _ => true
  | .linkLoss _ => true
  | .trainOriginate => true
  | .trainRx _ _ _ _ => true
  | .setDeadline => true
  | .triggerRx _ => true
  | .triggerAbsent _ => true
  | .mastershipListenEnd => true
  | .enumForce _ _ => true
  | .enumFill _ _ => true
  | .remeasure _ _ => true
  | .acceptMap _ _ => true
  | .pass _ _ => true
  | .enumEndRx _ _ _ => true
  | .enumTimeout _ => true
  | .echoRx _ _ _ _ => true
  | .readRspRx _ _ _ _ _ => true
  | .writeAckRx _ _ _ _ _ => true
  | .nackRx _ _ _ _ => true
  | .linkDownRx _ _ _ => true
  | .ringPassRequest _ _ => true
  | .ringPassAcceptRx _ => true
  | .ringPassTimeout _ => true
  | .msrSyncSend _ _ _ => true
  | .msrFrameRx _ _ => true
  | .msrConvDeadline _ => true
  | .msrCtrlReplyRx _ _ => true
  | .msrRemeasure _ _ => true
  | .capCtlWrite _ _ => true
  | .dumpDone _ => true
  | .qWr _ _ _ => true
  | .qWrEnd _ _ _ => true
  | .qPctlPrio _ _ _ => true
  | .poisonNext _ _ => true
  | .abortCmd _ _ => true
  | .flush _ _ => true
  | .qNextRead _ _ => true
  | .qDataRead _ _ _ => true
  | .hwPacketWrite _ words => decide (1 ≤ words.length ∧ words.length ≤ 1024)
  | .bankSwap _ => true
  | .spillClose _ => true
  | .spillDone _ => true
  | .openTmo _ => true
  | .qEnable _ _ _ _ _ => true
  | .qDisable _ _ => true
  | .tilthStart => true
  | .tilthFirstPass => true
  | .tilthSecondPass => true
  | .cycleWindowClose => true
  | .statWindowClose => true
  | .zWindowClose => true
  | .bankPublish _ _ _ => true
  | .commit _ => true
  | .tilCommitAbort _ => true
  | .tilCommitApply => true
  | .tilEnable _ => true
  | .tilUcAddrWrite _ _ => true
  | .tilUcDataWrite _ _ => true
  | .tilUcLock _ => true
  | .sweepWindowClose _ _ => true
  | .pommelEvaluate _ _ => true
  | .tempDueCheck _ _ _ => true
  | .setstale _ => true
  | .lockstepMismatch _ => true
  | .delayRegParity => true
  | .injectionPass _ _ _ => true
  | .peerCheck _ => true
  | .sramEccError _ => true
  | .tripReset _ _ => true
  | .manualTrip _ _ _ _ => true
  | .paramWrite _ _ _ _ => true
  | .paramRead _ _ _ => true
  | .injectNow _ _ _ => true
  | .mirrorTripRx _ _ => true
  | .suspectReportRx => true
  | .slsOvercurrent _ _ => true
  | .slsClose => true
  | .lsReqOn _ _ _ => true
  | .lsClear _ _ => true
  | .segmentEnd _ => true
  | .sc _ => true
  | .limTrip _ => true
  | .lsSample _ _ _ _ _ _ _ _ => true
  | .lsRetry _ => true
  | .retryCountReset _ _ => true
  | .staggerSwitchOn _ => true
  | .shed _ => true
  | .openOn _ => true
  | .openOff _ => true
  | .outHigh _ _ => true
  | .bankWarn _ => true
  | .bankHot _ => true
  | .bankNormal _ => true
  | .lsServiceOn _ _ _ => true
  | .lsServiceOff _ _ => true
  | .lsServiceExpiry _ => true
  | .lsPchk _ _ => true
  | .lsProfWrite _ _ _ _ => true
  | .lsParallelSet _ _ _ => true
  | .lsReleaseRequest _ => true
  | .lsReleaseConfirm _ => true
  | .lsOverlapEnd _ => true
  | .relFail _ => true
  | .wdogFrameRx _ _ _ => true
  | .streamTimeout _ => true
  | .holdExpiry => true
  | .partnerTmoExpiry => true
  | .reclaimExpiry => true
  | .strRelLs _ _ => true
  | .strRelDio _ _ => true
  | .dioEdgeAccept _ => true
  | .wireBreak _ => true
  | .wireRestored _ => true
  | .dioReqOn _ _ _ => true
  | .dioClear _ _ => true
  | .dioLimit _ => true
  | .dioTherm _ => true
  | .dioRetry _ => true
  | .dioReadbackFault _ => true
  | .dioOpenOn _ => true
  | .dioServiceOn _ _ _ => true
  | .dioServiceExpiry _ => true
  | .fclChange _ => true
  | .canFrameRx _ f _ _ => f.wf
  | .canTxbReq _ _ _ => true
  | .canTxbAbort _ _ _ => true
  | .canTxDone _ _ _ => true
  | .canError _ _ _ _ => true
  | .recover _ _ => true
  | .recoveryComplete _ => true
  | .abortAll _ _ => true
  | .ttMiss _ _ => true
  | .busDom _ _ => true
  | .selectiveWake _ ev _ => ev.wf
  | .roundStart => true
  | .tokenRx f => f.wf
  | .commitRx f => f.frame.wf
  | .abortRx f => f.wf
  | .wakeRx f => f.wf
  | .roundTmo => true
  | .commitWindowEnd => true
  | .wakeLineLow _ => true
  | .wakeLineHigh => true
  | .pulse _ => true
  | .wakeframe _ => true
  | .wakePulseEnd => true
  | .bridleRead _ _ _ _ _ => true
  | .bridleNonpostedWrite _ _ _ _ _ _ => true
  | .bridlePostedWrite _ _ _ _ _ _ _ => true
  | .rspTimeout _ => true
  | .retryRx _ => true
  | .xlInboundRequest _ _ _ _ _ _ _ _ _ => true
  | .failureNoticeRx _ _ => true
  | .xlLinkLoss => true
  | .fenceGo _ _ => true
  | .fenceComplete _ => true
  | .stitchFence _ _ _ _ _ => true
  | .gwCommit _ => true
  | .gwTableActivate => true
  | .gwPeriodExpiry _ => true
  | .gwInhibitEnd _ => true
  | .gwSourceTimeout _ => true
  | .openSession _ _ _ => true
  | .read _ q => q.wf
  | .write _ q _ => q.wf
  | .nop _ q => q.wf
  | .close _ => true
  | .clearModeRequest _ _ _ q _ => q.wf
  | .sessionIdleTimeout _ => true
  | .assemblyTimeout _ => true
  | .snapshotTimeout _ => true
  | .canSegmentRx _ _ g => g.wf
  | .segmentTimeout _ _ _ => true
  | .localRequest _ q _ => q.wf
  | .plotAnswerRx _ => true
  | .forwardTimeout _ => true
  | .settingsStore => true
  | .settingsDefaults _ => true
  | .jobKindWrite _ _ _ => true
  | .start _ _ _ _ => true
  | .suspend _ _ => true
  | .resume _ _ => true
  | .cancel _ _ => true
  | .jobDequeue _ => true
  | .jobDone _ _ => true
  | .jobFailed _ _ _ => true
  | .plotTablesCommit _ => true
  | .windowBoundary _ _ => true
  | .accessViolation _ _ _ => true
  | .pcWdogKick _ _ _ => true
  | .plotWdogExpiry _ => true
  | .plotStart _ _ => true
  | .plotStop _ _ => true
  | .plotReset _ _ => true
  | .resetDrainDone _ => true
  | .freeze _ _ => true
  | .freezeDone _ => true
  | .thaw _ _ => true
  | .checkpoint _ _ => true
  | .checkpointTimer _ => true
  | .imageRestore img _ => img.wf
  | .migrateConfirmRx _ _ => true
  | .tamperDetect _ _ => true
  | .tamperEraseDone => true
  | .lifecycleMessage _ _ _ => true
  | .provision _ _ => true
  | .debugToken _ _ => true
  | .awlOpen => true
  | .debugClose _ => true
  | .tokenExpiry => true
  | .counterIncrement _ _ => true
  | .graftBlockWrite data _ => decide (data.length ≤ 65536)
  | .svcBlock _ _ => true
  | .bankEraseDone _ => true
  | .activationProceed _ => true
  | .xlLinkTrained => true
  | .ethLinkUp _ => true
  | .ethLinkDown _ => true
  | .canBusIntegrate _ => true
  | .dioRawTransition _ _ => true
  | .rcFieldRead _ _ => true
  | .dioEdgeCycRead _ => true
  | .latControlWindow => true
  | .xlResponseRx _ _ _ => true
  | .xlPostedAckRx _ => true
  | .checkpointRx _ img _ => img.wf
  | .mirrorResetRx _ => true
  | .dormancyEntryComplete => true
  | .shutdownComplete => true
  | .stitchAddressApply _ => true
  | .svcVbusChange _ _ => true

end Sys2Proof
end

