-- ==== Sys2Proof/Tests/Slice0.lean ====
section
/-! SUPPORT. The model's own tests: an ill-formed term for every check of WellFormed, worked examples of the
specification, and for every statement with hypotheses a witness of each of its clauses at boundary values. -/

set_option maxRecDepth 100000
set_option Elab.async false
set_option linter.unusedVariables false

namespace Sys2Proof.Tests

open Sys2Proof Sys2Proof.Machine

/-! ## What cannot be formed -/

theorem test_wf_frame : (Instr.tokenRx { dlc := 8, data := List.replicate 8 0 }).wf = true := by decide
theorem test_wf_frame_id : CanFrame.wf { id := 0x800 } = false := by decide
theorem test_wf_frame_dlc : CanFrame.wf { dlc := 16, fdf := true, data := List.replicate 64 0 } = false := by decide
theorem test_wf_frame_remote : CanFrame.wf { rtr := true, fdf := true } = false := by decide
theorem test_wf_frame_brs : CanFrame.wf { brs := true } = false := by decide
theorem test_wf_frame_data : (Instr.canFrameRx 0 { dlc := 8, data := List.replicate 7 0 } 0 0).wf = false := by decide
theorem test_wf_heartbeat : (Instr.heartbeatRx { mode := 9, reach := List.replicate 12 (0, 0) }).wf = false := by decide
theorem test_wf_heartbeat_reach : Heartbeat.wf { mode := 3, reach := List.replicate 11 (0, 0) } = false := by decide
theorem test_wf_section_queue : ImgSection.wf (.queue 64 []) = false := by decide
theorem test_wf_section_regs : ImgSection.wf (.regs 7 0 []) = false := by decide
theorem test_wf_image : (Instr.imageRestore { digest := List.replicate 15 0 } true).wf = false := by decide
theorem test_wf_segment_single : StitchSeg.wf (.single (List.replicate 62 0)) = false := by decide
theorem test_wf_segment_first : StitchSeg.wf (.first 100 (List.replicate 60 0)) = false := by decide
theorem test_wf_segment_next : StitchSeg.wf (.next 0 (List.replicate 64 0)) = false := by decide
theorem test_wf_wake : (Instr.selectiveWake 0 (.frame { dlc := 1 }) false).wf = false := by decide
theorem test_wf_energy : (Instr.energyIntegrate (List.replicate 12 0) 0 0 0 0).wf = false := by decide
theorem test_wf_packet : (Instr.hwPacketWrite 0 []).wf = false := by decide
theorem test_wf_block (d : List Byte) (h : 65536 < d.length) : (Instr.graftBlockWrite d false).wf = false :=
  decide_eq_false (Nat.not_le.2 h)
theorem test_wf_request (q : StitchReq) (h : 2 ^ 16 ≤ q.data.length) : (Instr.read {} q).wf = false :=
  decide_eq_false (Nat.not_lt.2 h)

/-! ## Worked examples of the specification -/

/-- 07: the CRC of the ASCII bytes "123456789" is 0x29B1. -/
theorem test_crc16 : crc16 [0x31, 0x32, 0x33, 0x34, 0x35, 0x36, 0x37, 0x38, 0x39] = 0x29B1 := by decide +kernel
/-- 14: the lockstep frame with SEQ 5 and ALIVE set is 0x96, 0x15, 0x01, 0xEE. -/
theorem test_crc8 : crc8 [0x96, 0x15, 0x01] = 0xEE := by decide +kernel
/-- 00, R10: cycle 0x10 is later than cycle 0xFFFF_FFF0. -/
theorem test_later : AStamp.later { cycle := 0x10 } { cycle := 0xFFFFFFF0 } = true ∧
    AStamp.later { cycle := 0xFFFFFFF0 } { cycle := 0x10 } = false := by decide +kernel
/-- 06, Table 6-2: k of a step of +1,180,400 ns, and u for o = −69,600 ns over 80,000,000 ticks. -/
theorem test_ptp_step : ptStepK (1180400 * 65536) = 5 := by decide +kernel
theorem test_ptp_u : ptU (-69600 * 65536) 80000000 = 3736621 := by decide +kernel
/-- 09: of A (PRIO 5) and then B (PRIO 2), B is read first. -/
theorem test_furrow_order : takeFirst [{ prio := 5 }, { prio := 2 }] = some ({ prio := 2 }, [{ prio := 5 }]) := by decide +kernel
/-- 11, Table 11-8: II, ZR, ZX and IAMP of the worked example. -/
theorem test_impedance_ii : rnd (199786746 * 1074855144) 30 = 199993897 := by decide +kernel
theorem test_impedance_z : rdiv (1701262640 * 2000000000) (199993897 * 65536) = 259600 ∧
    rdiv (98301000 * 2000000000) (199993897 * 65536) = 15000 ∧ rdiv (2 * 199993897) 4000 = 99997 := by decide +kernel
/-- 18: the coolant signal: x = 710 becomes 62, and 0xFFF is clamped to 127. -/
theorem test_gateway :
    let g : GwSig := { en := true, dsigned := true, sstart := 16, slen := 12, dstart := 8, dlen := 8, a := 13107, b := -80, min := -128, max := 127 }
    gwCalc g [0, 0, 0xC6, 0x42, 0, 0, 0, 0] = (62, false) ∧ gwCalc g [0, 0, 0xFF, 0x0F, 0, 0, 0, 0] = (127, true) := by decide +kernel
/-- 19: the reply to the write of ls.3.request. -/
theorem test_stitch_reply : replyBody 2 0 0x5013 1 1 0 true 1 [] =
    [0x82, 1, 0, 0, 0x13, 0x50, 1, 1, 0, 0, 0, 0, 0, 0, 0, 0, 1, 0, 0, 0] := by decide +kernel
/-- The table gives no row any bits. -/
theorem test_decode : decodeTableWord 32 5 = none := rfl

/-! ## Witnesses -/

/-- A state with some register fields written. -/

def more (s : State) (l : List (Field × Nat)) : State := l.foldl (fun s e => s.wr e.1 e.2) s

/-- The state after reset with some register fields written. -/

def wit (l : List (Field × Nat)) : State := more State.reset l

/-- The same with both domains out of reset. -/

def up (l : List (Field × Nat)) : State := { wit l with girth := { safeReset := false, coreReset := false } }

/-- A lifecycle message of operation `op`, signed, for a module whose identity record is empty. -/

def lcmMsg (op : Nat) : List Byte :=
  le 4 0x4D434C43 ++ le 2 1 ++ [BitVec.ofNat 8 op, BitVec.ofNat 8 (op / 2)] ++ digestBytes [] ++ le 4 1 ++ List.replicate 196 0

def witLcm : State := { wit [(F.GIRTH_MODE_MODE, mSERVICE), (F.RAIL_STAT_HOLDUP_OK, 1)] with clo := { fuses := 2 } }

def witLcm1 : State := { wit [(F.GIRTH_MODE_MODE, mSERVICE), (F.RAIL_STAT_HOLDUP_OK, 1)] with clo := { fuses := 1, keys := [(2, { uses := 0x20 })] } }

theorem lcmMsg_digest (op : Nat) : ((lcmMsg op).drop 8).take 48 = digestBytes [] := rfl

theorem witLcm_two : lcmRefusal witLcm (lcmMsg 2) true = none := by
  unfold lcmRefusal
  rw [lcmMsg_digest, show digestBytes [] = idDigest witLcm from rfl, bne_self_eq_false]
  decide +kernel

theorem witLcm_one : lcmRefusal witLcm1 (lcmMsg 1) true = none := by
  unfold lcmRefusal
  rw [lcmMsg_digest, show digestBytes [] = idDigest witLcm1 from rfl, bne_self_eq_false]
  decide +kernel

def tokenMsg : List Byte :=
  le 4 0x54424443 ++ le 2 1 ++ [1, 0xFF] ++ digestBytes [] ++ le 4 0 ++ [1] ++ List.replicate 115 0

def witToken : State :=
  { wit [(F.GIRTH_MODE_MODE, mRUN), (F.PT_STAT_STATE, 2)] with clo := { fuses := 1, keys := [(2, { uses := 0x20 })] } }

theorem tokenMsg_digest : (tokenMsg.drop 8).take 48 = digestBytes [] := rfl

theorem witToken_ok : tokenRefusal witToken tokenMsg true = none := by
  unfold tokenRefusal
  rw [tokenMsg_digest, show digestBytes [] = idDigest witToken from rfl, bne_self_eq_false]
  decide +kernel


/-- A transfer of a block through the service port, at offset 0. -/

def svcFrame (b : List Byte) : List Byte :=
  le 4 0x4B4C4247 ++ le 4 0 ++ le 4 b.length ++ le 4 ((crc32From 0xFFFFFFFF b) ^^^ 0xFFFFFFFF) ++ b

theorem witness_SupplyEvents :
    (∃ (s : State), s.girth.vin = false) ∧
    (∃ (s : State), s.girth.vin = true) ∧
    (∃ (s : State), s.girth.shutdown = true) ∧
    (∃ (s : State), alive s = true ∧ s.rd F.SEAT_STAT_PRES = 1) ∧
    (∃ (s : State), alive s = true ∧ s.girth.vinPath = true) ∧
    (∃ (s : State), s.girth.vinPath = false) ∧
    (∃ (s : State) (r : Fin 6) (b : Bool), alive s = true) :=
  ⟨⟨{ wit [] with girth.vin := false }, by decide +kernel⟩,
   ⟨wit [], by decide +kernel⟩,
   ⟨{ wit [] with girth.shutdown := true }, by decide +kernel⟩,
   ⟨wit [(F.SEAT_STAT_PRES, 1)], by decide +kernel⟩,
   ⟨{ wit [] with girth.vinPath := true }, by decide +kernel⟩,
   ⟨{ wit [] with girth.vinPath := false }, by decide +kernel⟩,
   ⟨wit [], 0, true, by decide +kernel⟩⟩

theorem witness_FeedUndervoltageForbids : ∃ (s : State) (k : Fin 2), alive s = true :=
  ⟨wit [], 0, by decide +kernel⟩

theorem witness_HoldEntry :
    (∃ (s : State) (r : Fin 6) (high : Bool), alive s = true ∧ canHold s.mode = true) ∧
    (∃ (s : State) (c : Fin 7) (link : Fin 3), alive s = true ∧ canHold s.mode = true ∧ c ≠ 5) ∧
    (∃ (s : State), alive s = true ∧ canHold s.mode = true ∧ s.girth.coreReset = false) ∧
    (∃ (s : State), alive s = true ∧ s.mode = mBOOT ∧ modeFor s 240000000 = true) :=
  ⟨⟨wit [(F.GIRTH_MODE_MODE, mRUN)], 0, true, by decide +kernel⟩,
   ⟨wit [(F.GIRTH_MODE_MODE, mRUN)], 6, 0, by decide +kernel⟩,
   ⟨{ wit [(F.GIRTH_MODE_MODE, mRUN)] with girth.coreReset := false }, by decide +kernel⟩,
   ⟨{ wit [(F.GIRTH_MODE_MODE, mBOOT)] with now := 240000000 }, by decide +kernel⟩⟩

theorem witness_LinkAndBlockFaults :
    (∃ (s : State) (p : Fin 3), alive s = true) ∧
    (∃ (s : State), alive s = true) ∧
    (∃ (s : State) (b : Option (Fin 14)), alive s = true) ∧
    (∃ (s : State) (r : Req) (rst : BitVec 14), r ≠ .supervisor) ∧
    (∃ (s : State) (b : Fin 14), s.bit F.BLK_RST_STAT_BUSY b = true ∧ s.girth.coreReset = false ∧ s.girth.xFail.getLsbD b =
      false) ∧
    (∃ (s : State) (b : Fin 14), s.girth.xFail.getLsbD b = true) :=
  ⟨⟨wit [], 0, by decide +kernel⟩,
   ⟨wit [], by decide +kernel⟩,
   ⟨wit [], none, by decide +kernel⟩,
   ⟨wit [], (.plot 7), 0, by decide +kernel⟩,
   ⟨{ wit [(F.BLK_RST_STAT_BUSY, 0x2000)] with girth.coreReset := false }, 13, by decide +kernel⟩,
   ⟨{ wit [] with girth.xFail := 0x2000 }, 13, by decide +kernel⟩⟩

theorem witness_Seating :
    (∃ (s : State) (side : Bool) (slot : Fin 16), alive s = true ∧ s.mode = mSEATING ∧ s.rd F.SEAT_STAT_PRES = 0) ∧
    (∃ (s : State) (side : Bool) (slot : Fin 16), (s.mode ≠ mSEATING ∨ s.rd F.SEAT_STAT_PRES = 1)) ∧
    (∃ (s : State) (map : BitVec 24), alive s = true ∧ s.mode = mSEATING ∧ s.rd F.SEAT_STAT_PRES = 1 ∧ s.girth.extSensed =
      false) ∧
    (∃ (s : State) (map : BitVec 24), s.girth.extSensed = true) ∧
    (∃ (s : State) (e : Envt), alive s = true ∧ s.mode = mSEATING ∧ s.rd F.SEAT_STAT_PRES = 1 ∧ s.girth.seatRead = true) ∧
    (∃ (s : State) (j2 : Bool), alive s = true ∧ s.mode = mSEATING) ∧
    (∃ (s : State), alive s = true ∧ s.mode ≠ mSEATING) :=
  ⟨⟨wit [(F.GIRTH_MODE_MODE, mSEATING), (F.SEAT_STAT_PRES, 0)], true, 0, by decide +kernel⟩,
   ⟨wit [(F.GIRTH_MODE_MODE, mBOOT)], true, 0, by decide +kernel⟩,
   ⟨{ wit [(F.GIRTH_MODE_MODE, mSEATING), (F.SEAT_STAT_PRES, 1)] with
      girth.extSensed := false }, 0, by decide +kernel⟩,
   ⟨{ wit [] with girth.extSensed := true }, 0, by decide +kernel⟩,
   ⟨{ wit [(F.GIRTH_MODE_MODE, mSEATING), (F.SEAT_STAT_PRES, 1)] with
      girth.seatRead := true }, {}, by decide +kernel⟩,
   ⟨wit [(F.GIRTH_MODE_MODE, mSEATING)], true, by decide +kernel⟩,
   ⟨wit [(F.GIRTH_MODE_MODE, mRUN)], by decide +kernel⟩⟩

theorem witness_LeverAndHandoff :
    (∃ (s : State) (ok : Bool), alive s = true ∧ (s.mode = mRUN ∨ s.mode = mSERVICE)) ∧
    (∃ (s : State) (ok : Bool), alive s = true ∧ s.mode = mDORMANCY) ∧
    (∃ (s : State) (ok : Bool), alive s = true ∧ s.mode ≠ mRUN ∧ s.mode ≠ mSERVICE ∧ s.mode ≠ mDORMANCY) ∧
    (∃ (s : State), alive s = true ∧ s.mode = mHANDOFF ∧ extractOk s = true) ∧
    (∃ (s : State), alive s = true ∧ s.mode = mHANDOFF ∧ extractOk s = false) ∧
    (∃ (s : State), s.mode = mHANDOFF ∧ ownsNone s = true ∧ ringsMastered s = 0 ∧ s.rd F.POM_STAT_ARM = 0) ∧
    (∃ (s : State), s.mode = mHANDOFF ∧ modeFor s (handoffTmo s) = true ∧ extractOk s = false) ∧
    (∃ (s : State), modeFor s (handoffTmo s) = false) ∧
    (∃ (s : State), (s.mode = mRUN ∨ s.mode = mSERVICE ∨ s.mode = mHOLD) ∧ s.rd F.POM_STAT_SLS_ON = 15 ∧ s.girth.unpaired =
      false) :=
  ⟨⟨wit [(F.GIRTH_MODE_MODE, mRUN)], true, by decide +kernel⟩,
   ⟨wit [(F.GIRTH_MODE_MODE, mDORMANCY)], true, by decide +kernel⟩,
   ⟨wit [(F.GIRTH_MODE_MODE, mHOLD)], true, by decide +kernel⟩,
   ⟨wit [(F.GIRTH_MODE_MODE, mHANDOFF)], by decide +kernel⟩,
   ⟨wit [(F.GIRTH_MODE_MODE, mHANDOFF), (F.POM_STAT_ARM, 1)], by decide +kernel⟩,
   ⟨wit [(F.GIRTH_MODE_MODE, mHANDOFF), (F.POM_STAT_ARM, 0)], by decide +kernel⟩,
   ⟨{ wit [(F.GIRTH_MODE_MODE, mHANDOFF), (F.HANDOFF_TMO_TMO, 0), (F.POM_STAT_ARM, 1)] with
      now := 8000000 }, by decide +kernel⟩,
   ⟨wit [(F.GIRTH_MODE_MODE, mRUN)], by decide +kernel⟩,
   ⟨{ wit [(F.GIRTH_MODE_MODE, mRUN), (F.POM_STAT_SLS_ON, 15)] with
      girth.unpaired := false }, by decide +kernel⟩⟩

theorem witness_Restarts :
    (∃ (s : State), alive s = true ∧ s.mode = mBOOT ∧ s.girth.coreReset = false ∧ s.rd F.BLK_RST_STAT_BUSY = 0 ∧
      s.girth.domFail = false) ∧
    (∃ (s : State), (s.mode ≠ mBOOT ∨ s.rd F.BLK_RST_STAT_BUSY ≠ 0 ∨ s.girth.domFail = true)) ∧
    (∃ (s : State) (e : Envt), alive s = true ∧ s.mode = mHOLD ∧ coldMany s = false ∧ s.girth.coldNext = false ∧ (recent s
      s.girth.warm).length < 3) ∧
    (∃ (s : State) (e : Envt), alive s = true ∧ s.mode = mHOLD ∧ coldMany s = false ∧ (s.girth.coldNext = true ∨ 3 ≤ (recent s
      s.girth.warm).length)) ∧
    (∃ (s : State) (e : Envt), alive s = true ∧ s.mode = mHOLD ∧ coldMany s = true) ∧
    (∃ (s : State) (e : Envt), alive s = true ∧ s.mode = mHOLD ∧ coldMany s = true ∧ (∀ k ∈ s.girth.cold, k + 4800000000 ≤
      s.now)) ∧
    (∃ (s : State) (e : Envt), (coldMany s = false ∨ (∃ k ∈ s.girth.cold, s.now < k + 4800000000))) :=
  ⟨⟨{ up [(F.GIRTH_MODE_MODE, mBOOT), (F.BLK_RST_STAT_BUSY, 0)] with
      girth.coreReset := false, girth.domFail := false }, by decide +kernel⟩,
   ⟨wit [], by decide +kernel⟩,
   ⟨{ wit [(F.GIRTH_MODE_MODE, mHOLD)] with girth.coldNext := false }, {}, by decide +kernel⟩,
   ⟨{ wit [(F.GIRTH_MODE_MODE, mHOLD)] with
      girth.warm := [0, 0, 0], girth.coldNext := true }, {}, by decide +kernel⟩,
   ⟨{ wit [(F.GIRTH_MODE_MODE, mHOLD)] with girth.cold := [0, 0, 0] }, {}, by decide +kernel⟩,
   ⟨{ wit [(F.GIRTH_MODE_MODE, mHOLD)] with
      girth := { cold := [0, 0, 0] }, now := 4800000000 }, {}, by decide +kernel⟩,
   ⟨{ wit [(F.GIRTH_MODE_MODE, mBOOT), (F.BLK_RST_STAT_BUSY, 0)] with
      girth.coreReset := false }, {}, by decide +kernel⟩⟩

theorem witness_ModeRequests :
    (∃ (s : State) (r : Req) (target : Nat) (force : Bool) (c : Nat) (e : Envt), modeRefusal s r target (force ||
      s.girth.force) = some c) ∧
    (∃ (s : State) (r : Req) (target : Nat) (f : Bool), r.supOrStitch = false) ∧
    (∃ (s : State) (r : Req) (f : Bool), r.supOrStitch = true ∧ s.rd F.CLO_STAT_KEYS_SEALED = 0 ∧ s.mode ≠ mRUN) ∧
    (∃ (s : State) (r : Req) (e : Envt), r.supOrStitch = true ∧ s.rd F.CLO_STAT_KEYS_SEALED = 0 ∧ lcKeyed s = true ∧
      s.girth.shutdown = false ∧ s.mode = mSERVICE) ∧
    (∃ (s : State) (r : Req) (force : Bool) (e : Envt), r.supOrStitch = true ∧ s.rd F.CLO_STAT_KEYS_SEALED = 0 ∧
      s.girth.shutdown = false ∧ s.mode = mRUN ∧ ((s.rd F.GIRTH_MODE_SUBSTATE).testBit 0 = true ∨ force = true ∨ s.girth.force
      = true)) ∧
    (∃ (s : State) (r : Req) (e : Envt), r.supOrStitch = true ∧ s.girth.shutdown = false ∧ (s.mode = mRUN ∨ s.mode = mSERVICE)) ∧
    (∃ (s : State) (r : Req) (e : Envt), r.supOrStitch = true ∧ s.rd F.CLO_STAT_KEYS_SEALED = 0 ∧ s.girth.shutdown = false ∧
      (s.mode = mRUN ∨ s.mode = mSERVICE)) ∧
    (∃ (s : State) (r : Req) (e : Envt), r.supOrStitch = true ∧ s.rd F.CLO_STAT_KEYS_SEALED = 0 ∧ s.girth.shutdown = false ∧
      s.rd F.NS_CTL_EN = 0 ∧ dormancyOk s = true) :=
  ⟨⟨wit [], (.plot 7), mRUN, false, 0x0207, {}, by decide +kernel⟩,
   ⟨wit [], (.plot 7), 0, true, by decide +kernel⟩,
   ⟨wit [(F.CLO_STAT_KEYS_SEALED, 0), (F.GIRTH_MODE_MODE, mSERVICE)], .supervisor, true, by decide +kernel⟩,
   ⟨{ wit [(F.CLO_STAT_KEYS_SEALED, 0), (F.GIRTH_MODE_MODE, mSERVICE)] with
      girth.shutdown := false, clo.fuses := 1 }, .supervisor, {}, by decide +kernel⟩,
   ⟨{ wit [(F.CLO_STAT_KEYS_SEALED, 0), (F.GIRTH_MODE_MODE, mRUN), (F.GIRTH_MODE_SUBSTATE, 1)] with
      girth.shutdown := false }, .supervisor, false, {}, by decide +kernel⟩,
   ⟨{ wit [(F.GIRTH_MODE_MODE, mRUN)] with girth.shutdown := false }, .supervisor, {}, by decide +kernel⟩,
   ⟨{ wit [(F.CLO_STAT_KEYS_SEALED, 0), (F.GIRTH_MODE_MODE, mRUN)] with
      girth.shutdown := false }, .supervisor, {}, by decide +kernel⟩,
   ⟨{ wit [(F.CLO_STAT_KEYS_SEALED, 0), (F.NS_CTL_EN, 0), (F.GIRTH_MODE_MODE, mRUN)] with
      girth.shutdown := false }, .supervisor, {}, by decide +kernel⟩⟩

theorem witness_DormancyAndWake :
    (∃ (s : State), s.mode = mDORMANCY ∧ s.girth.dormEntry = true) ∧
    (∃ (s : State), s.girth.dormEntry = false) ∧
    (∃ (s : State) (ok : Bool), s.mode = mDORMANCY ∧ s.rd F.DORM_WAKE_EN_WAKE_LINE = 1) ∧
    (∃ (s : State) (ok : Bool), s.rd F.DORM_WAKE_EN_WAKE_LINE = 0) ∧
    (∃ (s : State) (ok : Bool), alive s = true ∧ s.mode = mDORMANCY) ∧
    (∃ (s : State) (ok : Bool), s.mode = mDORMANCY ∧ s.rd F.DORM_WAKE_EN_TIMER = 1 ∧ modeFor s (80000000 * s.rd
      F.DORM_TIMER_SECONDS) = true) ∧
    (∃ (s : State) (ok : Bool), (s.mode ≠ mDORMANCY ∨ modeFor s (80000000 * s.rd F.DORM_TIMER_SECONDS) = false)) ∧
    (∃ (s : State) (ok : Bool), s.grf.vbus = false ∧ s.mode = mDORMANCY ∧ s.rd F.DORM_WAKE_EN_SVC_VBUS = 1) ∧
    (∃ (s : State), s.mode = mDORMANCY ∧ s.girth.dormEntry = false) :=
  ⟨⟨{ wit [(F.GIRTH_MODE_MODE, mDORMANCY)] with girth.dormEntry := true }, by decide +kernel⟩,
   ⟨{ wit [] with girth.dormEntry := false }, by decide +kernel⟩,
   ⟨wit [(F.GIRTH_MODE_MODE, mDORMANCY), (F.DORM_WAKE_EN_WAKE_LINE, 1)], true, by decide +kernel⟩,
   ⟨wit [(F.DORM_WAKE_EN_WAKE_LINE, 0)], true, by decide +kernel⟩,
   ⟨wit [(F.GIRTH_MODE_MODE, mDORMANCY)], true, by decide +kernel⟩,
   ⟨wit [(F.GIRTH_MODE_MODE, mDORMANCY), (F.DORM_WAKE_EN_TIMER, 1)], true, by decide +kernel⟩,
   ⟨{ wit [] with girth.dormEntry := false }, true, by decide +kernel⟩,
   ⟨{ wit [(F.GIRTH_MODE_MODE, mDORMANCY), (F.DORM_WAKE_EN_SVC_VBUS, 1)] with
      grf.vbus := false }, true, by decide +kernel⟩,
   ⟨{ wit [(F.GIRTH_MODE_MODE, mDORMANCY)] with girth.dormEntry := false }, by decide +kernel⟩⟩

theorem witness_StampOrder :
    (∃ (x : AStamp) (y : AStamp), x.later y = true) ∧
    (∃ (x : AStamp) (y : AStamp), x ≠ y ∧ x.later y = false ∧ y.later x = false) :=
  ⟨⟨{ cycle := 1 }, {}, by decide +kernel⟩,
   ⟨{ cycle := 0x80000000 }, {}, by decide +kernel⟩⟩

theorem witness_Energy :
    (∃ (s : State) (mj : List (BitVec 32)) (vin : BitVec 16) (vla : BitVec 16) (vlb : BitVec 16) (p : BitVec 20), s.girth.vin =
      true) ∧
    (∃ (s : State) (mj : List (BitVec 32)) (vin : BitVec 16) (vla : BitVec 16) (vlb : BitVec 16) (p : BitVec 20), s.girth.vin =
      false) :=
  ⟨⟨wit [], [], 0, 0, 0, 0, by decide +kernel⟩,
   ⟨{ wit [] with girth.vin := false }, [], 0, 0, 0, 0, by decide +kernel⟩⟩

theorem witness_AccessChecks :
    (∃ (s : State) (r : Req) (op : AccOp) (a : BitVec 40) (size : AccSize), isWindow a.toNat = true ∧ (size.bytes ≠ 4 ∨ a.toNat
      % 4 ≠ 0)) ∧
    (∃ (s : State) (r : Req) (op : AccOp) (a : BitVec 40) (size : AccSize), reservedRange a.toNat size.bytes = true) ∧
    (∃ (s : State) (r : Req) (op : AccOp) (a : BitVec 40), isWindow a.toNat = true ∧ a.toNat % 4 = 0 ∧ windowDead s a.toNat =
      true) ∧
    (∃ (s : State) (r : Req) (a : BitVec 40) (v : Word) (e : Envt), isWindow a.toNat = true ∧ a.toNat % 4 = 0 ∧ windowDead s
      a.toNat = false) ∧
    (∃ (s : State) (r : Req) (a : BitVec 40), isWindow a.toNat = true ∧ a.toNat % 4 = 0 ∧ windowDead s a.toNat = false) ∧
    (∃ (s : State) (f : Field) (v : Nat), (f.acc = .ro ∨ f.acc = .rc ∨ f.acc = .wo)) ∧
    (∃ (s : State) (f : Field) (v : Nat), f.acc = .rw ∧ s.hwHas f = false) ∧
    (∃ (s : State) (f : Field) (v : Nat), f.acc = .rw ∧ s.hwHas f = true) ∧
    (∃ (s : State) (f : Field) (v : Nat) (k : Nat), f.acc = .w1c ∧ k < f.w) ∧
    (∃ (s : State) (f : Field) (v : Nat) (k : Nat), f.acc = .w1s ∧ k < f.w) ∧
    (∃ (s : State) (f : Field), f.acc = .rc ∧ s.upd.find? f.key = none) ∧
    (∃ (s : State) (f : Field) (e : Nat × Nat), f.acc = .rc ∧ s.upd.find? f.key = some e) :=
  ⟨⟨wit [], .supervisor, .read, 0x20000000, .byte, by decide +kernel⟩,
   ⟨wit [], .supervisor, .read, 0x21300000, .word, by decide +kernel⟩,
   ⟨{ wit [] with girth.coreReset := true }, .supervisor, .read, 0x20400000, by decide +kernel⟩,
   ⟨{ wit [] with girth.coreReset := false }, .supervisor, 0x212FFFFC, 0, {}, by decide +kernel⟩,
   ⟨{ wit [] with girth.coreReset := false }, .supervisor, 0x212FFFFC, by decide +kernel⟩,
   ⟨wit [], F.GIRTH_MODE_MODE, 0, by decide +kernel⟩,
   ⟨wit [], F.DORM_WAKE_EN_TIMER, 0, by decide +kernel⟩,
   ⟨{ wit [] with upd := [((F.SLOT_CTL_EN 0).key, (1, 0))] }, F.SLOT_CTL_EN 0, 0, by decide +kernel⟩,
   ⟨wit [], F.RAIL_FLT_UV, 0, 5, by decide +kernel⟩,
   ⟨wit [], F.TIL_UC_CTL_LOCK, 0, 0, by decide +kernel⟩,
   ⟨wit [], F.XING_STAT_TMO_CNT, by decide +kernel⟩,
   ⟨{ wit [] with upd := [(F.RESTART_CNT_WARM.key, (1, 0))] }, F.RESTART_CNT_WARM, (1, 0), by decide +kernel⟩⟩

theorem witness_MemoryAccess :
    (∃ (s : State) (a : BitVec 40) (size : AccSize) (v : BitVec 64) (prio : Fin 8) (e : Envt), s.Canon ∧ (inRange a.toNat
      size.bytes 0x10400000 0x11000000 || inRange a.toNat size.bytes 0x800000000 0x820000000) = true) ∧
    (∃ (s : State) (a : BitVec 40) (size : AccSize) (prio : Fin 8), (inRange a.toNat size.bytes 0x10400000 0x11000000 ||
      inRange a.toNat size.bytes 0x800000000 0x820000000) = true) ∧
    (∃ (s : State) (r : Req) (a : BitVec 40) (v : BitVec 64) (prio : Fin 8) (e : Envt), isWindow a.toNat = true ∧ classN
      a.toNat = true ∧ a.toNat % 4 = 0 ∧ windowDead s a.toNat = false) ∧
    (∃ (s : State) (r : Req) (a : BitVec 40) (size : AccSize) (v : BitVec 64) (prio : Fin 8) (e : Envt), classN a.toNat =
      false) ∧
    (∃ (s : State) (r : Req) (a : BitVec 40) (size : AccSize) (v : BitVec 64) (prio : Fin 8) (unc : Bool) (e : Envt), classN
      a.toNat = true) :=
  ⟨⟨wit [], 0x10400000, .double, 0, 0, {}, ⟨by decide +kernel, by decide +kernel⟩, by decide +kernel⟩,
   ⟨wit [], 0x10400000, .word, 0, by decide +kernel⟩,
   ⟨{ wit [] with girth.safeReset := false }, .supervisor, 0x20600000, 0, 0, {}, by decide +kernel⟩,
   ⟨wit [], .supervisor, 0, .word, 0, 0, {}, by decide +kernel⟩,
   ⟨wit [], .supervisor, 0x20600000, .word, 0, 0, true, {}, by decide +kernel⟩⟩

theorem witness_HeartbeatAndPartner :
    (∃ (s : State), xlSends s = true) ∧
    (∃ (s : State), xlSends s = false) ∧
    (∃ (s : State) (h : Heartbeat), s.rd F.XL_STAT_LINK = 0) ∧
    (∃ (s : State) (h : Heartbeat), s.rd F.XL_STAT_LINK = 1) ∧
    (∃ (s : State) (n : Nat), s.partner.alive = true ∧ s.partner.beatAt + 160000 ≤ s.now ∧ s.lat.partnerAt = some n ∧ s.now < n
      + 160000) ∧
    (∃ (s : State), s.partner.alive = true ∧ s.partner.beatAt + 160000 ≤ s.now ∧ s.lat.partnerAt = none) ∧
    (∃ (s : State), (s.partner.alive = false ∧ s.girth.xlLost = false ∨ s.now < s.partner.beatAt + 160000)) ∧
    (∃ (s : State), s.partner.alive = true ∧ s.partner.mode = mHOLD ∧ s.partner.holdAt + 160000 ≤ s.now) ∧
    (∃ (s : State), (s.partner.mode ≠ mHOLD ∨ s.now < s.partner.holdAt + 160000)) ∧
    (∃ (s : State), s.girth.coreReset = false ∧ s.rd F.XL_CTL_EN = 1 ∧ s.mode ≠ mSEATING ∧ s.mode ≠ mQUARANTINE ∧ s.mode ≠
      mDORMANCY ∧ s.rd F.XL_STAT_LINK = 0) ∧
    (∃ (s : State), s.rd F.XL_STAT_LINK = 0) ∧
    (∃ (s : State), s.rd F.XL_STAT_LINK = 1) ∧
    (∃ (s : State), s.rd F.XL_STAT_LINK = 1 ∧ s.br = {} ∧ (∀ p, (s.plot p).freeze = 0)) :=
  ⟨⟨{ wit [(F.XL_STAT_LINK, 1), (F.GIRTH_MODE_MODE, mRUN)] with
      girth.coreReset := false }, by decide +kernel⟩,
   ⟨wit [], by decide +kernel⟩,
   ⟨wit [(F.XL_STAT_LINK, 0)], {}, by decide +kernel⟩,
   ⟨wit [(F.XL_STAT_LINK, 1)], {}, by decide +kernel⟩,
   ⟨{ wit [] with
      partner := { alive := true }, lat := { partnerAt := some 1 }, now := 160000 }, 1, by decide +kernel⟩,
   ⟨{ wit [] with partner := { alive := true }, now := 160000 }, by decide +kernel⟩,
   ⟨{ wit [(F.XL_STAT_LINK, 1), (F.GIRTH_MODE_MODE, mRUN)] with
      girth.coreReset := false, partner.alive := false, girth.xlLost := false }, by decide +kernel⟩,
   ⟨{ wit [] with
      partner := { alive := true, mode := mHOLD }, now := 160000 }, by decide +kernel⟩,
   ⟨{ wit [(F.XL_STAT_LINK, 1), (F.GIRTH_MODE_MODE, mRUN)] with
      girth.coreReset := false }, by decide +kernel⟩,
   ⟨{ wit [(F.XL_CTL_EN, 1), (F.GIRTH_MODE_MODE, mRUN), (F.XL_STAT_LINK, 0)] with
      girth.coreReset := false }, by decide +kernel⟩,
   ⟨wit [(F.XL_STAT_LINK, 0)], by decide +kernel⟩,
   ⟨wit [(F.XL_STAT_LINK, 1)], by decide +kernel⟩,
   ⟨wit [(F.XL_STAT_LINK, 1)], by decide +kernel, rfl, fun _ => rfl⟩⟩

theorem witness_TrellisTracking :
    (∃ (s : State) (net : Bool) (err : BitVec 32) (freq : BitVec 32), (srcAllows s net = false ∨ srcHeld s (if net then 2 else
      1) = true)) ∧
    (∃ (s : State) (err : BitVec 32) (freq : BitVec 32), gridReady s = false) ∧
    (∃ (s : State) (err : BitVec 32) (freq : BitVec 32), netReady s = none) ∧
    (∃ (s : State) (err : BitVec 32) (freq : BitVec 32), srcAllows s false = true ∧ srcHeld s 1 = false ∧ gridReady s = true ∧
      slewInterval (err.toNat + s.rd F.TRL_REF_OFS_OFS) ≠ 0) ∧
    (∃ (s : State) (err : BitVec 32) (freq : BitVec 32), srcAllows s false = true ∧ srcHeld s 1 = false ∧ gridReady s = true ∧
      slewInterval (err.toNat + s.rd F.TRL_REF_OFS_OFS) = 0) ∧
    (∃ (s : State) (err : BitVec 32) (freq : BitVec 32) (m : NetSender), srcAllows s true = true ∧ srcHeld s 2 = false ∧
      netReady s = some m ∧ netErr s m ≠ 0) ∧
    (∃ (s : State) (err : BitVec 32) (freq : BitVec 32) (m : NetSender), srcAllows s true = true ∧ srcHeld s 2 = false ∧
      netReady s = some m ∧ netErr s m = 0) ∧
    (∃ (s : State), s.rd F.TRL_STAT_SLEWING ≠ 0 ∧ s.trl.slewErr = 0) ∧
    (∃ (s : State), (s.rd F.TRL_STAT_SLEWING = 0 ∨ s.trl.slewErr ≠ 0)) :=
  ⟨⟨wit [(F.TRL_CTL_SRC, 0)], true, 0, 0, by decide +kernel⟩,
   ⟨wit [(F.TRL_CTL_SRC, 0)], 0, 0, by decide +kernel⟩,
   ⟨wit [(F.TRL_CTL_SRC, 0)], 0, 0, by decide +kernel⟩,
   ⟨{ wit [] with trl := { okRun := 10, rms := 364 } }, 1, 0, by decide +kernel⟩,
   ⟨{ wit [] with trl := { okRun := 10, rms := 364 } }, 0, 0, by decide +kernel⟩,
   ⟨{ wit [(F.TRL_CTL_SRC, 1)] with
      trl := { ang := 1, senders := [{ inRow := 3 }] } }, 0, 0, { inRow := 3 }, by decide +kernel⟩,
   ⟨{ wit [(F.TRL_CTL_SRC, 1)] with
      trl := { senders := [{ inRow := 3 }] } }, 0, 0, { inRow := 3 }, by decide +kernel⟩,
   ⟨{ wit [(F.TRL_CTL_SRC, 0), (F.TRL_STAT_SLEWING, 1)] with
      trl.slewErr := 0 }, by decide +kernel⟩,
   ⟨wit [(F.TRL_CTL_SRC, 0), (F.TRL_STAT_SLEWING, 0)], by decide +kernel⟩⟩

theorem witness_TrellisTracking_2 :
    (∃ (s : State) (a : Bool) (f : Bool) (p : Bool), (a && decide (s.trl.amp < 50) || f && decide (2 ≤ s.trl.offRun) || p &&
      decide (3 ≤ s.trl.phRun)) = false) ∧
    (∃ (s : State) (a : Bool) (f : Bool) (p : Bool), (a && decide (s.trl.amp < 50) || f && decide (2 ≤ s.trl.offRun) || p &&
      decide (3 ≤ s.trl.phRun)) = true ∧ s.rd F.TRL_STAT_SRC_ACT = 1 ∧ s.rd F.TRL_CTL_SRC = 0 ∧ s.rd F.TRL_STAT_NEVER_LOCKED =
      0) ∧
    (∃ (s : State) (a : Bool) (f : Bool) (p : Bool), s.rd F.TRL_STAT_SRC_ACT ≠ 1) ∧
    (∃ (s : State), netOld s = true ∧ s.rd F.TRL_STAT_SRC_ACT = 2 ∧ s.rd F.TRL_STAT_NEVER_LOCKED = 0) ∧
    (∃ (s : State), netOld s = true ∧ s.rd F.TRL_STAT_SRC_ACT ≠ 2) ∧
    (∃ (s : State), netOld s = false) ∧
    (∃ (s : State) (n : Nat), s.rd F.TRL_STAT_HOLDOVER ≠ 0 ∧ s.rd F.TRL_STAT_LOCK = 0 ∧ s.trl.hoAt = some n ∧ n + 80000000 *
      s.rd F.TRL_HO_LIMIT_LIMIT ≤ s.now) ∧
    (∃ (s : State), (s.rd F.TRL_STAT_LOCK ≠ 0 ∨ (∀ n, s.trl.hoAt = some n → s.now < n + 80000000 * s.rd F.TRL_HO_LIMIT_LIMIT))) ∧
    (∃ (s : State), windowDead s F.TRL_NOW_ANG_ANG.addr = false) ∧
    (∃ (s : State), windowDead s F.TRL_NOW_ANG_ANG.addr = true) :=
  ⟨⟨{ wit [] with trl := { amp := 50, offRun := 1, phRun := 2 } }, true, true, true, by decide +kernel⟩,
   ⟨wit [(F.TRL_STAT_SRC_ACT, 1), (F.TRL_CTL_SRC, 0), (F.TRL_STAT_NEVER_LOCKED, 0)], true, true, true, by decide +kernel⟩,
   ⟨wit [(F.TRL_CTL_SRC, 0), (F.TRL_STAT_SRC_ACT, 0)], true, true, true, by decide +kernel⟩,
   ⟨wit [(F.TRL_STAT_SRC_ACT, 2), (F.TRL_STAT_NEVER_LOCKED, 0)], by decide +kernel⟩,
   ⟨wit [], by decide +kernel⟩,
   ⟨{ wit [(F.TRL_NET_CFG_TMO, 1)] with
      trl := { senders := [{ inRow := 1 }] }, now := 79999 }, by decide +kernel⟩,
   ⟨{ wit [(F.TRL_STAT_HOLDOVER, 1), (F.TRL_HO_LIMIT_LIMIT, 1)] with
      trl := { hoAt := some 0 }, now := 80000000 }, 0, by decide +kernel⟩,
   ⟨wit [(F.TRL_CTL_SRC, 0), (F.TRL_STAT_LOCK, 1)], by decide +kernel⟩,
   ⟨up [(F.TRL_CTL_SRC, 0)], by decide +kernel⟩,
   ⟨wit [(F.TRL_CTL_SRC, 0)], by decide +kernel⟩⟩

theorem witness_AngleReference :
    (∃ (s : State) (ok : Bool) (p : List Byte), (ok = false ∨ keyFor s (s.rd F.TRL_NET_KEY_KEYSLOT) useNetref = none)) ∧
    (∃ (s : State) (p : List Byte) (key : List Byte), keyFor s (s.rd F.TRL_NET_KEY_KEYSLOT) useNetref = some key ∧ (byteNat p 0
      ≠ 1 ∨ byteNat p 1 % 2 = 0 ∨ byteNat p 1 / 2 % 2 = 1)) ∧
    (∃ (s : State) (p : List Byte) (key : List Byte) (o : NetSender), keyFor s (s.rd F.TRL_NET_KEY_KEYSLOT) useNetref = some
      key ∧ byteNat p 0 = 1 ∧ byteNat p 1 % 4 = 1 ∧ (s.trl.senders.find? fun x => x.sender == (netParse p).sender) = some o ∧
      (netParse p).seq ≤ o.seq) ∧
    (∃ (s : State) (p : List Byte) (key : List Byte), keyFor s (s.rd F.TRL_NET_KEY_KEYSLOT) useNetref = some key ∧ byteNat p 0
      = 1 ∧ byteNat p 1 % 4 = 1 ∧ (netParse p).pt.toNs + 50000000 < s.ptNs) ∧
    (∃ (s : State) (p : List Byte) (key : List Byte), keyFor s (s.rd F.TRL_NET_KEY_KEYSLOT) useNetref = some key ∧ byteNat p 0
      = 1 ∧ byteNat p 1 % 4 = 1 ∧ (∀ x ∈ s.trl.senders, x.sender ≠ (netParse p).sender) ∧ s.trl.senders.length < 4 ∧ (netParse
      p).pt.toNs ≤ s.ptNs ∧ s.ptNs ≤ (netParse p).pt.toNs + 50000000 ∧ s.rd F.TRL_STAT_SRC_ACT ≠ 2) ∧
    (∃ (s : State) (key : List Byte), s.rd F.TRL_CTL_NET_TX ≠ 0 ∧ s.rd F.TRL_STAT_SRC_ACT = 1 ∧ s.rd F.TRL_STAT_LOCK ≠ 0 ∧ (∀
      n, s.trl.netAt = some n → n + 80000 * max 1 (s.rd F.TRL_NET_CFG_PERIOD) ≤ s.now) ∧ keyFor s (s.rd F.TRL_NET_KEY_KEYSLOT)
      useNetref = some key) ∧
    (∃ (s : State), s.rd F.TRL_STAT_LOCK = 0) :=
  ⟨⟨wit [], true, [], by decide +kernel⟩,
   ⟨{ wit [(F.GIRTH_MODE_MODE, mRUN)] with
      clo := { keys := [(0, { uses := 2 })] } }, [], [], by decide +kernel⟩,
   ⟨{ wit [(F.GIRTH_MODE_MODE, mRUN)] with
      clo := { keys := [(0, { uses := 2 })] }, trl := { senders := [{}] } }, [1, 1], [], {}, by decide +kernel⟩,
   ⟨{ wit [(F.GIRTH_MODE_MODE, mRUN)] with
      clo := { keys := [(0, { uses := 2 })] }, pt := { ns := 50000001 } }, [1, 1], [], by decide +kernel⟩,
   ⟨{ wit [(F.GIRTH_MODE_MODE, mRUN)] with
      clo := { keys := [(0, { uses := 2 })] }, pt := { ns := 50000000 } }, [1, 1], [], by decide +kernel⟩,
   ⟨{ wit [(F.GIRTH_MODE_MODE, mRUN), (F.TRL_CTL_NET_TX, 1), (F.TRL_STAT_SRC_ACT, 1), (F.TRL_STAT_LOCK, 1),
    (F.TRL_NET_CFG_PERIOD, 1)] with
      clo := { keys := [(0, { uses := 2 })] }, trl := { netAt := some 0 }, now := 80000 }, [], by decide +kernel,
        by decide +kernel, by decide +kernel, (fun _ h => by cases h; decide +kernel), by decide +kernel⟩,
   ⟨wit [(F.TRL_STAT_LOCK, 0)], by decide +kernel⟩⟩

theorem witness_SlotWrites :
    (∃ (s : State) (r : Req) (n : Fin 1024) (v : Word), windowDead s (F.SLOT_CTL_EN n).addr = false ∧ n.val < 64) ∧
    (∃ (s : State) (p : Fin 8) (n : Fin 1024) (v : Word), windowDead s (F.SLOT_CTL_EN n).addr = false ∧ 64 ≤ n.val ∧ slotPlot s
      n ≠ some p.val) ∧
    (∃ (s : State) (p : Fin 8) (n : Fin 1024) (v : Word), windowDead s (F.SLOT_CTL_EN n).addr = false ∧ 64 ≤ n.val ∧ slotPlot s
      n = some p.val ∧ (5 ≤ (F.SLOT_CTL_MODE n).slice v.toNat ∨ (actionLat ((F.SLOT_CTL_ACTION n).slice v.toNat)).isNone)) ∧
    (∃ (s : State) (p : Fin 8) (n : Fin 1024) (v : Word) (l : Nat), windowDead s (F.SLOT_CTL_EN n).addr = false ∧ 64 ≤ n.val ∧
      slotPlot s n = some p.val ∧ (F.SLOT_CTL_MODE n).slice v.toNat < 5 ∧ actionLat ((F.SLOT_CTL_ACTION n).slice v.toNat) =
      some l ∧ (F.SLOT_CTL_ACTION n).slice v.toNat < 0x20 ∧ v.toNat % 2 = 1 ∧ actionOwned s p ((F.SLOT_CTL_ACTION n).slice
      v.toNat) (s.rd (F.SLOT_ARG_ARG n)) = false) ∧
    (∃ (s : State) (p : Fin 8) (n : Fin 1024) (v : Word), windowDead s (F.SLOT_CTL_EN n).addr = false ∧ 64 ≤ n.val ∧ slotPlot s
      n = some p.val ∧ v.toNat % 2 = 0 ∧ slotCtlRefusal s p n v.toNat = none) ∧
    (∃ (s : State) (p : Fin 8) (n : Fin 1024) (v : Word), windowDead s (F.SLOT_CTL_EN n).addr = false ∧ 64 ≤ n.val ∧ slotPlot s
      n = some p.val ∧ v.toNat % 2 = 1 ∧ slotCtlRefusal s p n v.toNat = none ∧ s.rd (F.SLOT_CTL_EN n) = 1 ∧ s.rd
      (F.SLOT_CTL_MODE n) = (F.SLOT_CTL_MODE n).slice v.toNat) ∧
    (∃ (s : State) (p : Fin 8) (n : Fin 1024) (v : Word), windowDead s (F.SLOT_CTL_EN n).addr = false ∧ 64 ≤ n.val ∧ slotPlot s
      n = some p.val ∧ v.toNat % 2 = 1 ∧ (F.SLOT_CTL_MODE n).slice v.toNat = 0 ∧ slotCtlRefusal s p n v.toNat = none ∧ s.rd
      (F.SLOT_CTL_EN n) = 0 ∧ s.upd = [] ∧ s.trl.doneAt.find? n ≠ some s.now) ∧
    (∃ (s : State) (r : Req) (p : Fin 8) (v : Word), windowDead s (F.TRL_PART_BASE p).addr = false ∧ r ≠ .supervisor) ∧
    (∃ (s : State) (p : Fin 8) (v : Word), windowDead s (F.TRL_PART_BASE p).addr = false ∧ ((F.TRL_PART_BASE p).slice v.toNat %
      8 ≠ 0 ∨ (F.TRL_PART_COUNT p).slice v.toNat % 8 ≠ 0 ∨ 1024 < (F.TRL_PART_BASE p).slice v.toNat + (F.TRL_PART_COUNT
      p).slice v.toNat)) ∧
    (∃ (s : State) (p : Fin 8) (v : Word), windowDead s (F.TRL_PART_BASE p).addr = false ∧ (F.TRL_PART_BASE p).slice v.toNat %
      8 = 0 ∧ (F.TRL_PART_COUNT p).slice v.toNat % 8 = 0 ∧ (F.TRL_PART_BASE p).slice v.toNat + (F.TRL_PART_COUNT p).slice
      v.toNat ≤ 1024 ∧ ((F.TRL_PART_COUNT p).slice v.toNat = 0 ∨ 64 ≤ (F.TRL_PART_BASE p).slice v.toNat ∧ (∀ k, k < 8 → k ≠
      p.val → overlap ((F.TRL_PART_BASE p).slice v.toNat) ((F.TRL_PART_COUNT p).slice v.toNat) (s.rd (F.TRL_PART_BASE k)) (s.rd
      (F.TRL_PART_COUNT k)) = false) ∧ s.rd (F.Q_OWN_CONS ((F.TRL_PART_QUEUE p).slice v.toNat)) = p.val)) :=
  ⟨⟨up [], .supervisor, 63, 0, by decide +kernel⟩,
   ⟨up [], 7, 1023, 0, by decide +kernel⟩,
   ⟨up [(F.TRL_PART_BASE 7, 64), (F.TRL_PART_COUNT 7, 960)], 7, 1023, 0xA, by decide +kernel⟩,
   ⟨up [(F.TRL_PART_BASE 0, 64), (F.TRL_PART_COUNT 0, 1)], 0, 64, 0x00030001, 26, by decide +kernel⟩,
   ⟨up [(F.TRL_PART_BASE 7, 64), (F.TRL_PART_COUNT 7, 960)], 7, 1023, 0, by decide +kernel⟩,
   ⟨up [(F.TRL_PART_BASE 7, 64), (F.TRL_PART_COUNT 7, 960), (F.SLOT_CTL_EN 1023, 1), (F.SLOT_CTL_MODE 1023, (F.SLOT_CTL_MODE
    1023).slice 1)], 7, 1023, 1, by decide +kernel⟩,
   ⟨up [(F.TRL_PART_BASE 7, 64), (F.TRL_PART_COUNT 7, 960), (F.SLOT_CTL_EN 1023, 0)], 7, 1023, 1, by decide +kernel⟩,
   ⟨up [], (.plot 7), 0, 0, by decide +kernel⟩,
   ⟨up [(F.TRL_PART_BASE 7, 64), (F.TRL_PART_COUNT 7, 960)], 7, 0xA, by decide +kernel⟩,
   ⟨up [], 7, 0, by decide +kernel⟩⟩

theorem witness_SlotFiring :
    (∃ (s : State) (n : Fin 1024), s.rd (F.SLOT_CTL_EN n) = 0) ∧
    (∃ (s : State) (n : Fin 1024), 64 ≤ n.val ∧ slotPlot s n = none) ∧
    (∃ (s : State) (n : Fin 1024) (p : Nat), 64 ≤ n.val ∧ slotPlot s n = some p ∧ p < 8 ∧ plotHeld s p = true) ∧
    (∃ (s : State) (n : Fin 1024), s.trl.catchup.find? n ≠ some s.now ∧ slotDue s n = false) ∧
    (∃ (s : State) (n : Fin 1024) (p : Nat) (a : Nat) (l : Nat), (n.val < 64 ∧ p = 8 ∨ 64 ≤ n.val ∧ p < 8 ∧ slotPlot s n = some
      p ∧ plotHeld s p = false ∧ targetHere s p a (s.rd (F.SLOT_ARG_ARG n)) = true) ∧ s.rd (F.SLOT_CTL_ACTION n) = a ∧
      actionLat a = some l ∧ a ≠ 0x10 ∧ a ≠ 0x11 ∧ s.rd (F.SLOT_CTL_EN n) ≠ 0 ∧ s.trl.catchup.find? n ≠ some s.now ∧ slotDue s
      n = true ∧ s.trl.actTick ≠ s.now ∧ s.trl.issued = []) ∧
    (∃ (s : State) (n : Fin 1024) (a : Nat) (l : Nat), n.val < 64 ∧ s.rd (F.SLOT_CTL_ACTION n) = a ∧ actionLat a = some l ∧
      s.rd (F.SLOT_CTL_EN n) ≠ 0 ∧ s.trl.catchup.find? n = some s.now ∧ s.trl.actTick ≠ s.now ∧ s.trl.issued = []) ∧
    (∃ (s : State) (n : Fin 1024) (p : Nat), 64 ≤ n.val ∧ p < 8 ∧ slotPlot s n = some p ∧ plotHeld s p = false ∧ s.rd
      (F.SLOT_CTL_EN n) ≠ 0 ∧ slotDue s n = true ∧ targetHere s p (s.rd (F.SLOT_CTL_ACTION n)) (s.rd (F.SLOT_ARG_ARG n)) =
      false) :=
  ⟨⟨wit [(F.SLOT_CTL_EN 1023, 0)], 1023, by decide +kernel⟩,
   ⟨wit [], 1023, by decide +kernel⟩,
   ⟨wit [(F.TRL_PART_BASE 7, 64), (F.TRL_PART_COUNT 7, 960), (F.PC_PSTAT_STATE 7, 5)], 1023, 7, by decide +kernel⟩,
   ⟨wit [(F.SLOT_CTL_EN 1023, 0)], 1023, by decide +kernel⟩,
   ⟨{ wit [(F.SLOT_CTL_MODE 64, 3), (F.SLOT_PT_NS_NS 64, 1), (F.SLOT_CTL_EN 64, 1), (F.SLOT_CTL_ACTION 64, 0), (F.TRL_PART_BASE
    0, 64), (F.TRL_PART_COUNT 0, 1)] with
      pt := { running := true, ns := 1 }, trl := { addWas := 4294967296 }, now := 1 }, 64, 0, 0, 0, by decide +kernel⟩,
   ⟨{ wit [(F.SLOT_CTL_MODE 63, 3), (F.SLOT_PT_NS_NS 63, 1), (F.SLOT_CTL_EN 63, 1), (F.SLOT_CTL_ACTION 63, 0)] with
      trl := { catchup := [(63, 1)] }, now := 1 }, 63, 0, 0, by decide +kernel⟩,
   ⟨{ wit [(F.SLOT_CTL_MODE 64, 3), (F.SLOT_PT_NS_NS 64, 100), (F.SLOT_CTL_EN 64, 1), (F.SLOT_CTL_ACTION 64, 3),
    (F.TRL_PART_BASE 0, 64), (F.TRL_PART_COUNT 0, 1)] with
      pt := { running := true, ns := 1 }, trl := { addWas := 4294967296 }, now := 1 }, 64, 0, by decide +kernel⟩⟩

theorem witness_SlotActions :
    (∃ (s : State) (n : Fin 1024) (x : Issued) (u : State), takeIssued s n [0] 0 = some (x, u)) ∧
    (∃ (s : State) (n : Fin 1024) (o : Fin 6) (x : Issued) (u : State), takeIssued s n [1] o = some (x, u)) ∧
    (∃ (s : State) (n : Fin 1024) (o : Fin 6) (x : Issued) (u : State), takeIssued s n [2] o = some (x, u)) ∧
    (∃ (s : State) (n : Fin 1024) (o : Fin 6) (x : Issued) (u : State), takeIssued s n [3] o = some (x, u)) ∧
    (∃ (s : State) (n : Fin 1024) (o : Fin 6) (x : Issued) (u : State), takeIssued s n [4] o = some (x, u)) ∧
    (∃ (s : State) (n : Fin 1024) (o : Fin 6) (x : Issued) (u : State), takeIssued s n [5] o = some (x, u) ∧ dioActable u
      (x.arg % 32) = true) ∧
    (∃ (s : State) (n : Fin 1024) (o : Fin 6) (x : Issued) (u : State), takeIssued s n [5] o = some (x, u) ∧ dioActable u
      (x.arg % 32) = false) :=
  ⟨⟨{ wit [] with
      trl := { issued := [{ slot := 1023, action := 0 }] }, now := 0 }, 1023, _, _, rfl⟩,
   ⟨{ wit [] with
      trl := { issued := [{ slot := 1023, action := 1 }] }, now := 5 }, 1023, 5, _, _, rfl⟩,
   ⟨{ wit [] with
      trl := { issued := [{ slot := 1023, action := 2 }] }, now := 5 }, 1023, 5, _, _, rfl⟩,
   ⟨{ wit [] with
      trl := { issued := [{ slot := 1023, action := 3 }] }, now := 5 }, 1023, 5, _, _, rfl⟩,
   ⟨{ wit [] with
      trl := { issued := [{ slot := 1023, action := 4 }] }, now := 5 }, 1023, 5, _, _, rfl⟩,
   ⟨{ wit [(F.GIRTH_MODE_MODE, mRUN)] with
      trl := { issued := [{ slot := 1023, action := 5, arg := 31 }] }, girth := { ownDio := 0x80000000 } }, 1023, 0, _, _, rfl,
        by decide +kernel⟩,
   ⟨{ wit [(F.GIRTH_MODE_MODE, mSERVICE)] with
      trl := { issued := [{ slot := 1023, action := 5, arg := 31 }] } }, 1023, 0, _, _, rfl, by decide +kernel⟩⟩

theorem witness_SlotActions_2 :
    (∃ (s : State) (n : Fin 1024) (x : Issued) (u : State), takeIssued s n [8] 0 = some (x, u) ∧ x.plot < 8) ∧
    (∃ (s : State) (n : Fin 1024) (x : Issued) (u : State), takeIssued s n [9] 0 = some (x, u)) ∧
    (∃ (s : State) (n : Fin 1024) (o : Fin 6) (x : Issued) (u : State), takeIssued s n [0x10] o = some (x, u)) ∧
    (∃ (s : State) (n : Fin 1024) (o : Fin 6) (x : Issued) (u : State), takeIssued s n [0x11] o = some (x, u)) ∧
    (∃ (s : State) (x : Issued) (o : Nat), x.slot < 1024) ∧
    (∃ (s : State) (n : Fin 32), (s.dioCh n).pulse = true ∧ (s.dioCh n).pulseHost = false ∧ (s.dioCh n).pulseEnd ≤ s.now) ∧
    (∃ (s : State) (n : Fin 32), (s.dioCh n).pulse = true ∧ (s.dioCh n).pulseHost = true ∧ (s.dioCh n).pulseEnd ≤ s.now) ∧
    (∃ (s : State) (n : Fin 32), ((s.dioCh n).pulse = false ∨ s.now < (s.dioCh n).pulseEnd)) :=
  ⟨⟨{ wit [] with
      trl := { issued := [{ slot := 1023, action := 8, plot := 7 }] } }, 1023, _, _, rfl, by decide +kernel⟩,
   ⟨{ wit [] with trl := { issued := [{ slot := 1023, action := 9 }] } }, 1023, _, _, rfl⟩,
   ⟨{ wit [] with
      trl := { issued := [{ slot := 1023, action := 0x10 }] }, now := 5 }, 1023, 5, _, _, rfl⟩,
   ⟨{ wit [] with
      trl := { issued := [{ slot := 1023, action := 0x11 }] }, now := 5 }, 1023, 5, _, _, rfl⟩,
   ⟨wit [], {}, 0, by decide +kernel⟩,
   ⟨{ wit [] with dio := [(31, { pulse := true })] }, 31, by decide +kernel⟩,
   ⟨{ wit [] with dio := [(31, { pulse := true, pulseHost := true })] }, 31, by decide +kernel⟩,
   ⟨{ wit [] with
      trl.issued := [{ slot := 1023, action := 0, plot := 7 }] }, 1023, by decide +kernel⟩⟩

theorem witness_PointOnWave :
    (∃ (s : State) (r : Req) (e : Fin 16) (v : Word) (c : Nat), windowDead s (F.POW_CFG_LS e).addr = false ∧ powCfgRefusal s r
      e ((F.POW_CFG_LS e).slice v.toNat) ((F.POW_CFG_AUX_DIO e).slice v.toNat) ((F.POW_CFG_AUX_POL e).slice v.toNat)
      ((F.POW_CFG_EN e).slice v.toNat) = some c) ∧
    (∃ (s : State) (r : Req) (e : Fin 16) (v : Word), windowDead s (F.POW_CFG_LS e).addr = false ∧ powCfgRefusal s r e
      ((F.POW_CFG_LS e).slice v.toNat) ((F.POW_CFG_AUX_DIO e).slice v.toNat) ((F.POW_CFG_AUX_POL e).slice v.toNat)
      ((F.POW_CFG_EN e).slice v.toNat) = none ∧ s.rd (F.POW_CFG_EN e) = 0) ∧
    (∃ (s : State) (r : Req) (e : Fin 16) (v : Word), windowDead s (F.POW_CFG_LS e).addr = false ∧ s.rd (F.POW_CFG_EN e) = 0 ∧
      24 ≤ (F.POW_CFG_LS e).slice v.toNat) ∧
    (∃ (s : State) (r : Req) (e : Fin 16) (v : Word), windowDead s (F.POW_OP_OP e).addr = false ∧ r.forPlot (powOwner s e) =
      true) ∧
    (∃ (s : State) (r : Req) (e : Fin 16) (v : Word), windowDead s (F.POW_REL_REL e).addr = false ∧ r.forPlot (powOwner s e) =
      true) ∧
    (∃ (s : State) (r : Req) (e : Fin 16) (v : Word), windowDead s (F.POW_OP_OP e).addr = false ∧ windowDead s (F.POW_REL_REL
      e).addr = false ∧ r.forPlot (powOwner s e) = false) ∧
    (∃ (s : State) (e : Fin 16) (k : PowMeas), s.trl.pow.find? e = some k ∧ (k.t0 : Int) + k.eUsed - powOfs s e k.close +
      powRej s e + 80 * ((s.rd (F.DIO_DEB_DEB (s.rd (F.POW_CFG_AUX_DIO e))) : Int) + 2) ≤ s.now) ∧
    (∃ (s : State) (e : Fin 16) (k : PowMeas), s.trl.pow.find? e = some k ∧ (s.now : Int) < (k.t0 : Int) + k.eUsed - powOfs s e
      k.close + powRej s e + 80 * ((s.rd (F.DIO_DEB_DEB (s.rd (F.POW_CFG_AUX_DIO e))) : Int) + 2)) ∧
    (∃ (s : State) (e : Fin 16), s.trl.pow.find? e = none) ∧
    (∃ (s : State), flashOk s = true ∧ (s.trl.powSaved = none ∨ s.mode = mHANDOFF)) ∧
    (∃ (s : State) (n : Nat), s.mode ≠ mHANDOFF ∧ s.trl.powSaved = some n ∧ s.now < n + 288000000000) ∧
    (∃ (s : State), flashOk s = false) :=
  ⟨⟨up [], .supervisor, 15, 24, 0x0206, by decide +kernel⟩,
   ⟨up [(F.POW_CFG_EN 15, 0), (F.PC_LS_OWN_OWNER 2 7, 7)], (.plot 7), 15, 23, by decide +kernel⟩,
   ⟨up [(F.POW_CFG_EN 15, 0)], .supervisor, 15, 24, by decide +kernel⟩,
   ⟨up [(F.PC_LS_OWN_OWNER 0 0, 7)], (.plot 7), 15, 0, by decide +kernel⟩,
   ⟨up [(F.PC_LS_OWN_OWNER 0 0, 7)], (.plot 7), 15, 0, by decide +kernel⟩,
   ⟨up [], .supervisor, 15, 0, by decide +kernel⟩,
   ⟨{ wit [] with trl := { pow := [(15, {})] }, now := 1000000 }, 15, {}, by decide +kernel⟩,
   ⟨{ wit [] with trl.pow := [(15, {})] }, 15, {}, by decide +kernel⟩,
   ⟨wit [], 15, by decide +kernel⟩,
   ⟨{ wit [(F.RAIL_STAT_HOLDUP_OK, 1)] with trl.powSaved := none }, by decide +kernel⟩,
   ⟨{ wit [(F.GIRTH_MODE_MODE, mRUN)] with trl.powSaved := some 0 }, 0, by decide +kernel⟩,
   ⟨wit [(F.RAIL_STAT_HOLDUP_OK, 0)], by decide +kernel⟩⟩

theorem witness_SamplePlan :
    (∃ (s : State) (w : Fin 80), (s.lat.running = false ∨ gridTick s = false)) ∧
    (∃ (s : State) (w : Fin 80), s.lat.running = true ∧ gridTick s = true) ∧
    (∃ (s : State) (w : Fin 80), s.lat.running = true ∧ gridTick s = true ∧ s.lat.openSet = false ∧ takeIssued s 0 [0x20] 0 =
      none) ∧
    (∃ (s : State), s.msr.running = true ∧ gridTick s = true) ∧
    (∃ (s : State), (s.msr.running = false ∨ gridTick s = false)) ∧
    (∃ (s : State), s.rd F.TIL_STAT_RUNNING = 1 ∧ cycleNew s = true) ∧
    (∃ (s : State), (s.rd F.TIL_STAT_RUNNING = 0 ∨ cycleNew s = false)) :=
  ⟨⟨{ wit [] with lat.running := false }, 0, by decide +kernel⟩,
   ⟨{ wit [] with
      pt := { running := true, ns := 250000 }, trl := { addWas := 1 }, lat := { running := true } }, 79, by decide +kernel⟩,
   ⟨{ wit [] with
      pt := { running := true, ns := 250000 }, trl := { addWas := 1 }, lat := { running := true } }, 79, by decide +kernel⟩,
   ⟨{ wit [] with
      pt := { running := true, ns := 250000 }, trl := { addWas := 1 }, msr := { running := true } }, by decide +kernel⟩,
   ⟨{ wit [] with lat.running := false, msr.running := false }, by decide +kernel⟩,
   ⟨{ wit [(F.TIL_STAT_RUNNING, 1)] with trl := { incWas := 1 } }, by decide +kernel⟩,
   ⟨{ wit [(F.TIL_STAT_RUNNING, 0)] with lat.running := false }, by decide +kernel⟩⟩

theorem witness_PlantTimeServo :
    (∃ (s : State) (r : Req) (ns : Word), windowDead s F.PT_OFS_NS_NS.addr = false ∧ r ≠ .supervisor) ∧
    (∃ (s : State) (ns : Word), windowDead s F.PT_OFS_NS_NS.addr = false ∧ (s.rd F.PT_CTL_SERVO_EN = 0 ∨ s.rd
      F.PT_STAT_STEPPING = 1)) ∧
    (∃ (s : State) (ns : Word) (o : Int), windowDead s F.PT_OFS_NS_NS.addr = false ∧ s.rd F.PT_CTL_SERVO_EN = 1 ∧ s.rd
      F.PT_STAT_STEPPING = 0 ∧ o = toInt 32 ns.toNat * 65536 + (s.rd F.PT_OFS_FRAC_FRAC : Int) ∧ 65536 * (s.rd
      F.PT_STEP_THR_THR : Int) < |o| ∧ (s.rd F.PT_STAT_STATE = 0 ∨ s.rd F.PT_CTL_STEP_EN = 1)) ∧
    (∃ (s : State) (ns : Word) (o : Int), windowDead s F.PT_OFS_NS_NS.addr = false ∧ s.rd F.PT_CTL_SERVO_EN = 1 ∧ s.rd
      F.PT_STAT_STEPPING = 0 ∧ o = toInt 32 ns.toNat * 65536 + (s.rd F.PT_OFS_FRAC_FRAC : Int) ∧ (|o| ≤ 65536 * (s.rd
      F.PT_STEP_THR_THR : Int) ∨ (s.rd F.PT_STAT_STATE ≠ 0 ∧ s.rd F.PT_CTL_STEP_EN = 0))) ∧
    (∃ (s : State), s.rd F.PT_STAT_STEPPING = 1 ∧ gridTick s = true) ∧
    (∃ (s : State), (s.rd F.PT_STAT_STEPPING = 0 ∨ gridTick s = false)) ∧
    (∃ (s : State) (r : Req), windowDead s F.PT_SET_CMD_GO.addr = false ∧ r ≠ .supervisor) ∧
    (∃ (s : State), windowDead s F.PT_SET_CMD_GO.addr = false ∧ (s.rd F.PT_STAT_STEPPING = 1 ∨ (s.rd F.PT_STAT_STATE ≠ 0 ∧ s.rd
      F.PT_CTL_STEP_EN = 0))) ∧
    (∃ (s : State), windowDead s F.PT_SET_CMD_GO.addr = false ∧ s.rd F.PT_STAT_STEPPING = 0 ∧ (s.rd F.PT_STAT_STATE = 0 ∨ s.rd
      F.PT_CTL_STEP_EN = 1)) ∧
    (∃ (s : State), (s.rd F.PT_STAT_STATE = 1 ∨ s.rd F.PT_STAT_STATE = 2) ∧ s.pt.heldFrom + 80000 * max 1 (s.rd
      F.PT_HO_TMO_TMO) ≤ s.now) ∧
    (∃ (s : State), ((s.rd F.PT_STAT_STATE ≠ 1 ∧ s.rd F.PT_STAT_STATE ≠ 2) ∨ s.now < s.pt.heldFrom + 80000 * max 1 (s.rd
      F.PT_HO_TMO_TMO))) ∧
    (∃ (s : State), windowDead s F.PT_NOW_NS_NS.addr = false) :=
  ⟨⟨up [], (.plot 7), 0, by decide +kernel⟩,
   ⟨up [(F.PT_CTL_SERVO_EN, 0)], 0, by decide +kernel⟩,
   ⟨up [(F.PT_CTL_SERVO_EN, 1), (F.PT_STAT_STEPPING, 0), (F.PT_STAT_STATE, 0)], 0x80000000, (-140737488355328),
    by decide +kernel⟩,
   ⟨up [(F.PT_CTL_SERVO_EN, 1), (F.PT_STAT_STEPPING, 0)], 0, 0, by decide +kernel⟩,
   ⟨{ wit [(F.PT_STAT_STEPPING, 1)] with
      pt := { running := true, ns := 250000 }, trl := { addWas := 1 } }, by decide +kernel⟩,
   ⟨wit [(F.PT_STAT_STEPPING, 0)], by decide +kernel⟩,
   ⟨up [], (.plot 7), by decide +kernel⟩,
   ⟨up [(F.PT_STAT_STEPPING, 1)], by decide +kernel⟩,
   ⟨up [(F.PT_STAT_STEPPING, 0), (F.PT_STAT_STATE, 0)], by decide +kernel⟩,
   ⟨{ wit [(F.PT_STAT_STATE, 2), (F.PT_HO_TMO_TMO, 1)] with now := 80000 }, by decide +kernel⟩,
   ⟨wit [(F.PT_STAT_STATE, 0)], by decide +kernel⟩,
   ⟨up [], by decide +kernel⟩⟩

theorem witness_TimePorts :
    (∃ (s : State) (p : Fin 2), s.mode ≠ mSEATING ∧ s.mode ≠ mDORMANCY) ∧
    (∃ (s : State) (p : Fin 2), (s.mode = mSEATING ∨ s.mode = mDORMANCY)) ∧
    (∃ (s : State) (p : Fin 2) (frame : List Byte) (sub : Fin 40), s.rd (F.ETH_CTL_EN p) = 1 ∧ s.rd (F.ETH_STAT_LINK p) = 1 ∧
      isPtpEvent frame = false ∧ s.rd (F.ETH_CTL_RX_TS_ALL p) = 0) ∧
    (∃ (s : State) (p : Fin 2) (frame : List Byte) (sub : Fin 40), s.rd (F.ETH_CTL_EN p) = 1 ∧ s.rd (F.ETH_STAT_LINK p) = 1 ∧
      isPtpEvent frame = true) ∧
    (∃ (s : State) (p : Fin 2) (frame : List Byte) (ok : Bool) (sub : Fin 40), (s.rd (F.ETH_CTL_EN p.val) = 0 ∨ s.rd
      (F.ETH_STAT_LINK p.val) = 0 ∨ ok = false)) ∧
    (∃ (s : State) (p : Fin 2) (sub : Fin 40) (ws : List Nat) (u : State), s.rd (F.ETH_CTL_EN p) = 1 ∧ s.rd (F.ETH_STAT_LINK p)
      = 1 ∧ ethHead s p = some (ws, u) ∧ ethLaunches ws = false) ∧
    (∃ (s : State) (p : Fin 2) (sub : Fin 40) (ws : List Nat) (u : State), ethHead s p = some (ws, u) ∧ ethLaunches ws = true) ∧
    (∃ (s : State) (p : Fin 2) (sub : Fin 40) (ws : List Nat) (u : State), s.rd (F.ETH_CTL_EN p) = 1 ∧ s.rd (F.ETH_STAT_LINK p)
      = 1 ∧ ethHead s p = some (ws, u) ∧ ethLaunches ws = true ∧ s.ptNs = (ws.getD 1 0 + 2 ^ 32 * (ws.getD 2 0 % 65536)) *
      1000000000 + ws.getD 3 0 % 2 ^ 30) ∧
    (∃ (s : State) (p : Fin 2) (sub : Fin 40) (ws : List Nat) (u : State), ethHead s p = some (ws, u) ∧ ethLaunches ws = false) :=
  ⟨⟨wit [(F.GIRTH_MODE_MODE, mRUN)], 0, by decide +kernel⟩,
   ⟨wit [(F.GIRTH_MODE_MODE, mSEATING)], 0, by decide +kernel⟩,
   ⟨wit [(F.ETH_CTL_EN 1, 1), (F.ETH_STAT_LINK 1, 1), (F.ETH_CTL_RX_TS_ALL 1, 0)], 1, [], 0, by decide +kernel⟩,
   ⟨wit [(F.ETH_CTL_EN 1, 1), (F.ETH_STAT_LINK 1, 1)], 1, (List.replicate 12 0 ++ [0x88, 0xF7, 0]), 0, by decide +kernel⟩,
   ⟨wit [(F.GIRTH_MODE_MODE, mRUN), (F.ETH_CTL_EN 0, 0)], 0, [], true, 0, by decide +kernel⟩,
   ⟨{ wit [(F.ETH_CTL_EN 1, 1), (F.ETH_STAT_LINK 1, 1), (F.ETH_QUEUES_TXQ 1, 63)] with
      q := [(63, { drain := [{ words := [{ data := 0 }] }] })] }, 1, 39, _, _, by decide +kernel, by decide +kernel, rfl,
        by decide +kernel⟩,
   ⟨{ wit [(F.ETH_CTL_EN 1, 1), (F.ETH_STAT_LINK 1, 1), (F.ETH_QUEUES_TXQ 1, 63)] with
      q := [(63, { drain := [{ words := [{ data := 0x20000 }] }] })] }, 1, 39, _, _, rfl, by decide +kernel⟩,
   ⟨{ wit [(F.ETH_CTL_EN 1, 1), (F.ETH_STAT_LINK 1, 1), (F.ETH_QUEUES_TXQ 1, 63)] with
      q := [(63, { drain := [{ words := [{ data := 0x20000 }, { data := 0 }, { data := 0 }, { data := 250000 }] }] })], pt :=
        { running := true, ns := 250000 }, trl := { addWas := 1 } }, 1, 39, _, _, by decide +kernel, by decide +kernel, rfl,
        by decide +kernel, by decide +kernel⟩,
   ⟨{ wit [(F.ETH_CTL_EN 1, 1), (F.ETH_STAT_LINK 1, 1), (F.ETH_QUEUES_TXQ 1, 63)] with
      q := [(63, { drain := [{ words := [{ data := 0 }] }] })] }, 1, 39, _, _, rfl, by decide +kernel⟩⟩

theorem witness_TimePorts_2 :
    (∃ (s : State) (p : Fin 2) (sub : Fin 40) (ws : List Nat) (u : State) (at_ : Nat), s.rd (F.ETH_CTL_EN p) = 1 ∧ s.rd
      (F.ETH_STAT_LINK p) = 1 ∧ ethHead s p = some (ws, u) ∧ ethLaunches ws = true ∧ at_ = (ws.getD 1 0 + 2 ^ 32 * (ws.getD 2 0
      % 65536)) * 1000000000 + ws.getD 3 0 % 2 ^ 30) ∧
    (∃ (s : State) (e : TxTs) (l : List TxTs), windowDead s (F.ETH_TXTS_NS_NS 0).addr = false ∧ s.pt.txts0 = e :: l) ∧
    (∃ (s : State) (e : TxTs) (l : List TxTs), windowDead s (F.ETH_TXTS_NS_NS 1).addr = false ∧ s.pt.txts1 = e :: l) ∧
    (∃ (s : State), windowDead s (F.ETH_TXTS_NS_NS 0).addr = false ∧ s.pt.txts0 = []) ∧
    (∃ (s : State) (i : Fin 8), s.rd (F.PT_CANREF_CFG_EN i.val) = 0) ∧
    (∃ (s : State) (i : Fin 8), s.rd (F.PT_CANREF_CFG_EN i) = 1) ∧
    (∃ (s : State) (i : Fin 8), s.pt.syncAcked.getLsbD i = false) ∧
    (∃ (s : State) (i : Fin 8), s.pt.syncAcked.getLsbD i = true) ∧
    (∃ (s : State) (i : Fin 8), (s.pt.fupPend.getLsbD i = false ∨ s.now < s.pt.fupAt.get i s.now + 800000)) ∧
    (∃ (s : State) (i : Fin 8), s.pt.fupPend.getLsbD i = true ∧ s.pt.fupAt.get i s.now + 800000 ≤ s.now) :=
  ⟨⟨{ wit [(F.ETH_CTL_EN 1, 1), (F.ETH_STAT_LINK 1, 1), (F.ETH_QUEUES_TXQ 1, 63)] with
      q := [(63, { drain := [{ words := [{ data := 0x20000 }, { data := 0 }, { data := 0 }, { data := 250000 }] }] })] }, 1,
        39, _, _, _, by decide +kernel, by decide +kernel, rfl, by decide +kernel, rfl⟩,
   ⟨{ up [] with pt.txts0 := ({}) :: ([]) }, {}, [], by decide +kernel⟩,
   ⟨{ up [] with pt.txts1 := ({}) :: ([]) }, {}, [], by decide +kernel⟩,
   ⟨{ up [] with pt.txts0 := [] }, by decide +kernel⟩,
   ⟨(wit [(F.PT_CANREF_CFG_EN 7, 0)]), 7, by decide +kernel⟩,
   ⟨wit [(F.PT_CANREF_CFG_EN 7, 1), (F.PT_STAT_STATE, 2)], 7, by decide +kernel⟩,
   ⟨wit [(F.GIRTH_MODE_MODE, mRUN)], 0, by decide +kernel⟩,
   ⟨{ wit [] with pt := { syncAcked := 0x80 } }, 7, by decide +kernel⟩,
   ⟨wit [(F.GIRTH_MODE_MODE, mRUN)], 0, by decide +kernel⟩,
   ⟨{ wit [] with
      pt := { fupPend := 0x80, fupAt := [(7, 0)] }, now := 800000 }, 7, by decide +kernel⟩⟩

theorem witness_RingsAndLinks :
    (∃ (s : State) (c : Fin 12) (e : Bool), s.lat.running = true) ∧
    (∃ (s : State) (c : Fin 12) (e : Bool), s.lat.running = false) ∧
    (∃ (s : State) (m : Fin 4), s.msr.running = false) ∧
    (∃ (s : State) (m : Fin 4), s.msr.running = true) ∧
    (∃ (s : State), s.lat.openSet = true ∧ s.lat.trained = false ∧ s.lat.trigAt + 1920 ≤ s.now) ∧
    (∃ (s : State), (s.lat.openSet = false ∨ s.lat.trained = true ∨ s.now < s.lat.trigAt + 1920)) ∧
    (∃ (s : State) (c : Fin 12) (e : Bool) (b : List Byte) (abt : Bool), (latOn s c = false ∨ byteNat b 0 ≠ 0x10)) ∧
    (∃ (s : State) (c : Fin 12) (e : Bool) (b : List Byte) (abt : Bool), latOn s c = true ∧ byteNat b 0 = 0x10 ∧ b.length = 8 ∧
      crc16 (b.take 6) ≠ halfNat b 6) ∧
    (∃ (s : State), (s.lat.openSet = false ∨ gridTick s = false ∨ s.lat.trigAt = s.now)) ∧
    (∃ (s : State), s.lat.openSet = true ∧ gridTick s = true ∧ s.lat.trigAt ≠ s.now) ∧
    (∃ (s : State) (c : Fin 12), latOn s c = true ∧ s.rd (F.LAT_RSTAT_MASTER c) = 0 ∧ (s.ring c).listening = false ∧ (s.ring
      c).rxMiss = 4 ∧ latActive s c (latOwn s) = false) ∧
    (∃ (s : State) (c : Fin 12), (s.rd (F.LAT_RSTAT_MASTER c.val) = 1 ∨ (s.ring c.val).rxMiss ≠ 4)) ∧
    (∃ (s : State) (c : Fin 12) (e : Bool) (n : Fin 24), latOn s c.val = false) ∧
    (∃ (s : State) (c : Fin 12) (n : Fin 24), latOn s c = true) :=
  ⟨⟨{ wit [] with lat.running := true }, 0, true, by decide +kernel⟩,
   ⟨{ wit [] with lat.running := false }, 0, true, by decide +kernel⟩,
   ⟨{ wit [] with lat.running := true, msr.running := false }, 0, by decide +kernel⟩,
   ⟨{ wit [] with msr.running := true }, 0, by decide +kernel⟩,
   ⟨{ wit [] with lat := { openSet := true }, now := 1920 }, by decide +kernel⟩,
   ⟨{ wit [] with lat.running := true, lat.openSet := false }, by decide +kernel⟩,
   ⟨{ wit [] with lat.running := true }, 0, true, [], true, by decide +kernel⟩,
   ⟨{ wit [(F.LAT_CTL_EN, 0xFFF), (F.LAT_RCFG_NODES 11, 24)] with
      lat.running := true }, 11, true, [0x10, 0, 0, 0, 0, 0, 0, 0], true, by decide +kernel⟩,
   ⟨{ wit [] with lat.running := true, lat.openSet := false }, by decide +kernel⟩,
   ⟨{ wit [] with
      pt := { running := true, ns := 250000 }, trl := { addWas := 1 }, lat := { openSet := true }, now := 1 },
        by decide +kernel⟩,
   ⟨{ wit [(F.LAT_CTL_EN, 0x800), (F.LAT_RCFG_NODES 11, 24)] with
      lat := { running := true, rings := [(11, { rxMiss := 4 })] } }, 11, by decide +kernel⟩,
   ⟨{ wit [(F.LAT_RSTAT_MASTER 0, 1)] with lat.running := true }, 0, by decide +kernel⟩,
   ⟨wit [], 11, true, 0, by decide +kernel⟩,
   ⟨{ wit [(F.LAT_CTL_EN, 0xFFF), (F.LAT_RCFG_NODES 11, 24)] with
      lat.running := true }, 11, 0, by decide +kernel⟩⟩

theorem witness_RingEnumeration :
    (∃ (s : State) (r : Req) (c : Fin 12), windowDead s (F.LAT_RCMD_CMD c).addr = false ∧ r.supOrStitch = false) ∧
    (∃ (s : State) (r : Req) (c : Fin 12) (z : LatEnum), windowDead s (F.LAT_RCMD_CMD c).addr = false ∧ r.supOrStitch = true ∧
      latOn s c = true ∧ s.rd (F.LAT_RSTAT_MASTER c) = 1 ∧ (s.ring c).enum_ = some z) ∧
    (∃ (s : State) (r : Req) (c : Fin 12) (e : Bool) (l : List Bool), windowDead s (F.LAT_RCMD_CMD c).addr = false ∧
      r.supOrStitch = true ∧ latOn s c = true ∧ s.rd (F.LAT_RSTAT_MASTER c) = 1 ∧ (s.ring c).enum_ = none ∧ latEnds s c = e ::
      l) ∧
    (∃ (s : State) (r : Req) (c : Fin 12), windowDead s (F.LAT_RCMD_CMD c).addr = false ∧ r.supOrStitch = true) ∧
    (∃ (s : State) (c : Fin 12) (e : Bool) (v : BitVec 16), (s.ring c.val).enum_ = none) ∧
    (∃ (s : State) (c : Fin 12) (v : BitVec 16) (z : LatEnum), (s.ring c).enum_ = some z ∧ z.endB = true) ∧
    (∃ (s : State) (c : Fin 12) (v : BitVec 16) (z : LatEnum), (s.ring c).enum_ = some z ∧ z.endB = false ∧ z.vB = none ∧ latUp
      s c true = false ∧ (s.ring c).wantForce = false ∧ (s.ring c).wantFill = false) :=
  ⟨⟨up [], (.plot 7), 0, by decide +kernel⟩,
   ⟨{ up [(F.LAT_CTL_EN, 0x800), (F.LAT_RCFG_NODES 11, 24), (F.LAT_RSTAT_MASTER 11, 1)] with
      lat := { running := true, rings := [(11, { enum_ := some {} })] } }, .supervisor, 11, {}, by decide +kernel⟩,
   ⟨{ up [(F.LAT_CTL_EN, 0x800), (F.LAT_RCFG_NODES 11, 24), (F.LAT_RSTAT_MASTER 11, 1), (F.LAT_RSTAT_LINK_A 11, 1)] with
      lat := { running := true, rings := [(11, { wired := 1 })] } }, .supervisor, 11, false, [], by decide +kernel⟩,
   ⟨up [], .supervisor, 0, by decide +kernel⟩,
   ⟨wit [], 11, true, 0, by decide +kernel⟩,
   ⟨{ wit [] with
      lat.running := true, lat.rings := [(11, { enum_ := some { endB := true } })] }, 11, 0, { endB := true },
        by decide +kernel⟩,
   ⟨{ wit [] with
      lat.running := true, lat.rings := [(11, { enum_ := some { tries := 1 } })] }, 11, 0, { tries := 1 }, by decide +kernel⟩⟩

theorem witness_RingEnumeration_2 :
    (∃ (s : State) (c : Fin 12) (e : Bool) (v : BitVec 16) (z : LatEnum), (s.ring c.val).enum_ = some z ∧ z.endB ≠ e) ∧
    (∃ (s : State) (c : Fin 12) (z : LatEnum) (e : Bool) (l : List Bool), (s.ring c).enum_ = some z ∧ z.at_ + 80000 ≤ s.now ∧
      z.tries < 2 ∧ latEnds s c = e :: l) ∧
    (∃ (s : State) (c : Fin 12) (z : LatEnum), (s.ring c).enum_ = some z ∧ z.at_ + 80000 ≤ s.now ∧ 2 ≤ z.tries) ∧
    (∃ (s : State) (c : Fin 12) (z : LatEnum), (s.ring c).enum_ = some z ∧ s.now < z.at_ + 80000) ∧
    (∃ (s : State) (c : Fin 12), (s.ring c).enum_ = none) ∧
    (∃ (s : State) (c : Fin 12) (e : Bool) (n : Fin 24) (rtt : BitVec 16), ((s.ring c).rtt.get (2 * n.val + e.toNat) []).length
      < 15) ∧
    (∃ (s : State) (c : Fin 12) (n : Fin 24) (v : BitVec 16), (s.ring c).comp.find? (2 * n.val) = some v.toNat) ∧
    (∃ (s : State) (c : Fin 12) (n : Fin 24) (v : BitVec 16), (s.ring c).comp.find? (2 * n.val + 1) = some v.toNat) :=
  ⟨⟨{ wit [] with
      lat.running := true, lat.rings := [(11, { enum_ := some { endB := true } })] }, 11, false, 0, { endB := true },
        by decide +kernel⟩,
   ⟨{ wit [(F.LAT_CTL_EN, 0x800), (F.LAT_RCFG_NODES 11, 24), (F.LAT_RSTAT_LINK_A 11, 1)] with
      lat := { running := true, rings := [(11, { wired := 1, enum_ := some { tries := 1 } })] }, now := 80000 }, 11,
        { tries := 1 }, false, [], by decide +kernel⟩,
   ⟨{ wit [(F.LAT_CTL_EN, 0x800), (F.LAT_RCFG_NODES 11, 24)] with
      lat := { running := true, rings := [(11, { enum_ := some { tries := 2 } })] }, now := 80000 }, 11, { tries := 2 },
        by decide +kernel⟩,
   ⟨{ wit [] with
      lat.running := true, lat.rings := [(11, { enum_ := some { endB := true } })] }, 11, { endB := true }, by decide +kernel⟩,
   ⟨{ wit [(F.LAT_RSTAT_MASTER 11, 1), (F.LAT_CTL_EN, 0xFFF), (F.LAT_RCFG_NODES 11, 24)] with
      lat.running := true, lat.rings := [(11, { wired := 1 })] }, 11, by decide +kernel⟩,
   ⟨wit [], 11, false, 23, 0, by decide +kernel⟩,
   ⟨{ wit [] with
      lat.running := true, lat.rings := [(11, { comp := [(46, 65535)] })] }, 11, 23, 0xFFFF, by decide +kernel⟩,
   ⟨{ wit [] with
      lat.running := true, lat.rings := [(11, { comp := [(47, 65535)] })] }, 11, 23, 0xFFFF, by decide +kernel⟩⟩

theorem witness_RingMastership :
    (∃ (s : State), (∀ c, c < 12 → (s.ring c).listening = false)) ∧
    (∃ (s : State) (c : Nat), latOn s c = true ∧ (s.ring c).listening = true ∧ (s.ring c).heard = false ∧ s.girth.unpaired =
      false ∧ (s.ring c).startAt + (if s.rd F.SEAT_STAT_SIDE = 0 then 160000 else 480000) ≤ s.now) ∧
    (∃ (s : State) (c : Nat), latOn s c = true ∧ (s.ring c).listening = true ∧ (s.ring c).heard = true ∧ (s.ring c).startAt +
      (if s.rd F.SEAT_STAT_SIDE = 0 then 160000 else 480000) ≤ s.now) ∧
    (∃ (s : State) (r : Req) (c : Fin 12), windowDead s (F.LAT_RCMD_CMD c).addr = false ∧ r.supOrStitch = true ∧ (s.rd
      (F.LAT_RSTAT_MASTER c) = 0 ∨ s.girth.unpaired = true)) ∧
    (∃ (s : State) (r : Req) (c : Fin 12), windowDead s (F.LAT_RCMD_CMD c).addr = false ∧ r.supOrStitch = true ∧ s.rd
      (F.LAT_RSTAT_MASTER c) = 1 ∧ s.girth.unpaired = false) ∧
    (∃ (s : State) (c : Fin 12) (l : Fin 40000), (s.mode ≠ mRUN ∨ s.girth.unpaired = true)) ∧
    (∃ (s : State) (c : Fin 12) (l : Nat), (s.ring c).passOffer = some l) ∧
    (∃ (s : State) (c : Fin 12), (s.ring c.val).passOffer = none) ∧
    (∃ (s : State) (c : Fin 12) (l : Nat), (s.ring c).passOffer = some l ∧ (s.ring c).passAt + 160000 ≤ s.now ∧ s.mode ≠
      mHANDOFF) ∧
    (∃ (s : State) (c : Fin 12), s.now < (s.ring c).passAt + 160000) ∧
    (∃ (s : State), (s.lat.running = false ∨ s.lat.window = true ∨ s.now < s.lat.trigAt + 17760)) :=
  ⟨⟨wit [], by decide +kernel⟩,
   ⟨{ wit [(F.LAT_CTL_EN, 0x800), (F.LAT_RCFG_NODES 11, 24)] with
      lat := { running := true, rings := [(11, { listening := true })] }, now := 160000 }, 11, by decide +kernel⟩,
   ⟨{ wit [(F.LAT_CTL_EN, 0x800), (F.LAT_RCFG_NODES 11, 24), (F.SEAT_STAT_SIDE, 1)] with
      lat := { running := true, rings := [(11, { listening := true, heard := true })] }, now := 480000 }, 11,
        by decide +kernel⟩,
   ⟨{ up [(F.LAT_RSTAT_MASTER 11, 0)] with girth.unpaired := false }, .supervisor, 11, by decide +kernel⟩,
   ⟨{ up [(F.LAT_RSTAT_MASTER 11, 1)] with girth.unpaired := false }, .supervisor, 11, by decide +kernel⟩,
   ⟨wit [], 0, 0, by decide +kernel⟩,
   ⟨{ wit [] with
      lat.running := true, lat.rings := [(11, { passOffer := some 39999 })] }, 11, 39999, by decide +kernel⟩,
   ⟨wit [], 11, by decide +kernel⟩,
   ⟨{ wit [(F.LAT_CTL_EN, 0x800), (F.LAT_RCFG_NODES 11, 24)] with
      lat := { running := true, rings := [(11, { passOffer := some 0 })] }, now := 160000 }, 11, 0, by decide +kernel⟩,
   ⟨wit [], 0, by decide +kernel⟩,
   ⟨{ wit [] with lat.running := false }, by decide +kernel⟩⟩

theorem witness_FurrowCredit :
    (∃ (s : State) (r : Req) (q : Fin 64) (d : Word) (c : Instr), (c = .qWr r q d ∧ windowDead s (0x20480008 + 0x1000 * q) =
      false ∨ c = .qWrEnd r q d ∧ windowDead s (0x2048000C + 0x1000 * q) = false) ∧ isProducer s r q = true ∧ queueCredit s q =
      0 ∧ (s.queue q).opn = none) ∧
    (∃ (s : State) (r : Req) (q : Fin 64) (d : Word) (c : Instr) (k : QPacket), (c = .qWr r q d ∧ windowDead s (0x20480008 +
      0x1000 * q) = false ∨ c = .qWrEnd r q d ∧ windowDead s (0x2048000C + 0x1000 * q) = false) ∧ isProducer s r q = true ∧
      queueCredit s q = 0 ∧ (s.queue q).opn = some k) ∧
    (∃ (s : State) (r : Req) (q : Fin 64) (d : Word) (k : QPacket), windowDead s (0x20480008 + 0x1000 * q) = false ∧ isProducer
      s r q = true ∧ queueCredit s q ≠ 0 ∧ (s.queue q).opn = some k ∧ k.words.length + 1 = maxPkt s q) ∧
    (∃ (s : State) (r : Req) (q : Fin 64) (d : Word), windowDead s (0x20480008 + 0x1000 * q) = false ∧ isProducer s r q = true
      ∧ queueCredit s q ≠ 0 ∧ (s.queue q).opn = none ∧ 1 < maxPkt s q) :=
  ⟨⟨up [(F.Q_OWN_PROD 63, 7)], (.plot 7), 63, 0, .qWr ((.plot 7)) 63 0, by decide +kernel⟩,
   ⟨{ up [(F.Q_OWN_PROD 63, 7)] with q := [(63, { opn := some {} })] }, (.plot 7), 63, 0, .qWr ((.plot 7)) 63 0, {},
    by decide +kernel⟩,
   ⟨{ up [(F.Q_OWN_PROD 63, 7), (F.Q_CFG_SIZE 63, 4), (F.Q_CFG_EN 63, 1), (F.Q_CREDIT_CFG_CREDIT_MAX 63, 1)] with
      q := [(63, { opn := some { words := List.replicate 15 {} } })] }, (.plot 7), 63, 0, { words := List.replicate 15 {} },
        by decide +kernel⟩,
   ⟨up [(F.Q_OWN_PROD 63, 7), (F.Q_CFG_SIZE 63, 4), (F.Q_CFG_EN 63, 1), (F.Q_CREDIT_CFG_CREDIT_MAX 63, 1)], (.plot 7), 63, 0,
    by decide +kernel⟩⟩

theorem witness_FurrowProducer :
    (∃ (s : State) (r : Req) (q : Fin 64) (d : Word) (k : Fin 8) (c : Instr), windowDead s (0x20480004 + 0x1000 * q) = false ∧
      windowDead s (0x20480008 + 0x1000 * q) = false ∧ windowDead s (0x2048000C + 0x1000 * q) = false ∧ (c = .qWr r q d ∨ c =
      .qWrEnd r q d ∨ c = .qPctlPrio r q k ∨ c = .poisonNext r q ∨ c = .abortCmd r q) ∧ isProducer s r q = false) ∧
    (∃ (s : State) (r : Req) (q : Fin 64) (d : Word), windowDead s (0x2048000C + 0x1000 * q) = false ∧ isProducer s r q = true
      ∧ queueCredit s q ≠ 0) ∧
    (∃ (s : State) (r : Req) (q : Fin 64) (d : Word) (k : QPacket), windowDead s (0x20480008 + 0x1000 * q) = false ∧ isProducer
      s r q = true ∧ queueCredit s q ≠ 0 ∧ (s.queue q).opn = some k ∧ k.words.length + 1 < maxPkt s q) ∧
    (∃ (s : State) (r : Req) (q : Fin 64) (k : Fin 8), windowDead s (0x20480004 + 0x1000 * q) = false ∧ isProducer s r q =
      true) ∧
    (∃ (s : State) (r : Req) (q : Fin 64), windowDead s (0x20480004 + 0x1000 * q) = false ∧ isProducer s r q = true) ∧
    (∃ (s : State) (r : Req) (q : Fin 64), windowDead s (0x20480004 + 0x1000 * q) = false ∧ isProducer s r q = true ∧ (s.queue
      q).opn = none) ∧
    (∃ (s : State) (r : Req) (q : Fin 64) (k : QPacket), windowDead s (0x20480004 + 0x1000 * q) = false ∧ isProducer s r q =
      true ∧ (s.queue q).opn = some k) :=
  ⟨⟨up [], .supervisor, 63, 0, 7, .qWr .supervisor 63 0, by decide +kernel⟩,
   ⟨up [(F.Q_OWN_PROD 63, 7), (F.Q_CFG_SIZE 63, 4), (F.Q_CFG_EN 63, 1), (F.Q_CREDIT_CFG_CREDIT_MAX 63, 1)], (.plot 7), 63, 0,
    by decide +kernel⟩,
   ⟨{ up [(F.Q_OWN_PROD 63, 7), (F.Q_CFG_SIZE 63, 4), (F.Q_CFG_EN 63, 1), (F.Q_CREDIT_CFG_CREDIT_MAX 63, 1)] with
      q := [(63, { opn := some { words := List.replicate 14 {} } })] }, (.plot 7), 63, 0, { words := List.replicate 14 {} },
        by decide +kernel⟩,
   ⟨up [(F.Q_OWN_PROD 63, 7)], (.plot 7), 63, 0, by decide +kernel⟩,
   ⟨up [(F.Q_OWN_PROD 63, 7)], (.plot 7), 63, by decide +kernel⟩,
   ⟨up [(F.Q_OWN_PROD 63, 7)], (.plot 7), 63, by decide +kernel⟩,
   ⟨{ up [(F.Q_OWN_PROD 63, 7)] with q := [(63, { opn := some {} })] }, (.plot 7), 63, {}, by decide +kernel⟩⟩

theorem witness_FurrowOrder :
    (∃ (l : List QPacket) (p : QPacket) (rest : List QPacket), takeFirst l = some (p, rest)) ∧
    (∃ (x : QueueSt), x.drain ≠ []) :=
  ⟨⟨[{}], {}, [], by decide +kernel⟩,
   ⟨{ drain := [{}] }, by decide +kernel⟩⟩

theorem witness_FurrowConsumer :
    (∃ (s : State) (r : Req) (q : Fin 64), windowDead s (0x20401030 + 0x40 * q) = false ∧ isConsumer s r q = false) ∧
    (∃ (s : State) (r : Req) (q : Fin 64) (e : Bool) (c : Instr), (c = .qNextRead r q ∧ windowDead s (0x20440000 + 0x1000 * q)
      = false ∨ c = .qDataRead r q e ∧ windowDead s (0x20440004 + 0x1000 * q) = false) ∧ isConsumer s r q = false) ∧
    (∃ (s : State) (r : Req) (q : Fin 64), windowDead s (0x20401030 + 0x40 * q) = false ∧ isConsumer s r q = true) ∧
    (∃ (s : State) (r : Req) (q : Fin 64), windowDead s (0x20440000 + 0x1000 * q) = false ∧ isConsumer s r q = true ∧ (s.queue
      q).drain = [] ∧ (s.queue q).spilled = []) ∧
    (∃ (s : State) (r : Req) (q : Fin 64) (p : QPacket) (rest : List QPacket), windowDead s (0x20440000 + 0x1000 * q) = false ∧
      isConsumer s r q = true ∧ takeFirst (s.queue q).drain = some (p, rest)) ∧
    (∃ (s : State) (r : Req) (q : Fin 64) (e : Bool), windowDead s (0x20440004 + 0x1000 * q) = false ∧ isConsumer s r q = true
      ∧ (s.queue q).sel = []) ∧
    (∃ (s : State) (r : Req) (q : Fin 64) (w : QWord) (rest : List QWord), windowDead s (0x20440004 + 0x1000 * q) = false ∧
      isConsumer s r q = true ∧ (s.queue q).sel = w :: rest ∧ rest ≠ [] ∧ wordBad s w = false) ∧
    (∃ (s : State) (r : Req) (q : Fin 64) (e : Bool) (w : QWord) (rest : List QWord), windowDead s (0x20440004 + 0x1000 * q) =
      false ∧ isConsumer s r q = true ∧ (s.queue q).sel = w :: rest ∧ w.pos.isSome = true ∧ (e = true ∨ wordBad s w = true)) :=
  ⟨⟨up [], (.plot 7), 63, by decide +kernel⟩,
   ⟨up [], .partner, 63, false, .qDataRead .partner 63 false, .inr ⟨rfl, by decide +kernel⟩, by decide +kernel⟩,
   ⟨up [(F.Q_OWN_CONS 63, 7)], (.plot 7), 63, by decide +kernel⟩,
   ⟨up [(F.Q_OWN_CONS 63, 7)], (.plot 7), 63, by decide +kernel⟩,
   ⟨{ up [(F.Q_OWN_CONS 63, 7)] with q := [(63, { drain := [{}] })] }, (.plot 7), 63, {}, [], by decide +kernel⟩,
   ⟨up [(F.Q_OWN_CONS 63, 7)], (.plot 7), 63, true, by decide +kernel⟩,
   ⟨{ up [(F.Q_OWN_CONS 63, 7)] with q := [(63, { sel := [{}, {}] })] }, (.plot 7), 63, {}, [{}], by decide +kernel⟩,
   ⟨{ up [(F.Q_OWN_CONS 63, 7)] with
      q := [(63, { sel := [{ pos := some 0 }, {}] })] }, (.plot 7), 63, true, { pos := some 0 }, [{}], by decide +kernel⟩⟩

theorem witness_FurrowSources :
    (∃ (s : State) (q : Fin 64) (ws : List Word), ws ≠ [] ∧ plotResetting s (s.rd (F.Q_OWN_CONS q)) = false ∧ hwRoom s q
      ws.length = true) ∧
    (∃ (s : State) (q : Fin 64) (ws : List Word), ws ≠ [] ∧ plotResetting s (s.rd (F.Q_OWN_CONS q)) = false ∧ hwRoom s q
      ws.length = false) ∧
    (∃ (s : State) (q : Fin 64), (s.queue q).canSwap = true) ∧
    (∃ (s : State) (q : Fin 64), (s.queue q).canSwap = false) ∧
    (∃ (s : State) (q : Fin 64), canSpill s q = true) ∧
    (∃ (s : State) (q : Fin 64), canSpill s q = false) ∧
    (∃ (s : State) (q : Fin 64) (i : List QPacket), (s.queue q).spilling = some i ∧ (∀ p ∈ i, ∀ w ∈ p.words, wordBad s w =
      false)) ∧
    (∃ (s : State) (q : Fin 64), (s.queue q).spilling = none) ∧
    (∃ (s : State) (q : Fin 64) (k : QPacket), s.rd (F.Q_CREDIT_CFG_OPEN_TMO q) ≠ 0 ∧ (s.queue q).opn = some k ∧ (s.queue
      q).wordAt + 800 * s.rd (F.Q_CREDIT_CFG_OPEN_TMO q) ≤ s.now) ∧
    (∃ (s : State) (q : Fin 64), (s.rd (F.Q_CREDIT_CFG_OPEN_TMO q) = 0 ∨ (s.queue q).opn = none ∨ s.now < (s.queue q).wordAt +
      800 * s.rd (F.Q_CREDIT_CFG_OPEN_TMO q))) ∧
    (∃ (s : State) (r : Req) (q : Fin 64) (z : Fin 32) (b : Bool) (h : Fin 8) (c : Instr), windowDead s (0x20401000 + 0x40 * q)
      = false ∧ (c = .qEnable r q z b h ∨ c = .qDisable r q) ∧ r ≠ .supervisor) ∧
    (∃ (s : State) (q : Fin 64) (z : Fin 32) (b : Bool) (h : Fin 8), windowDead s (0x20401000 + 0x40 * q) = false ∧ s.rd
      (F.Q_CFG_EN q) = 0) ∧
    (∃ (s : State) (q : Fin 64), windowDead s (0x20401000 + 0x40 * q) = false ∧ s.rd (F.Q_CFG_EN q) = 1) :=
  ⟨⟨wit [(F.Q_OWN_PROD 63, 7), (F.Q_CFG_SIZE 63, 4), (F.Q_CFG_EN 63, 1), (F.Q_CREDIT_CFG_CREDIT_MAX 63, 1)], 63, [0],
    by decide +kernel⟩,
   ⟨wit [], 63, [0], by decide +kernel⟩,
   ⟨{ wit [] with q := [(63, { fill := [{}] })] }, 63, by decide +kernel⟩,
   ⟨wit [], 63, by decide +kernel⟩,
   ⟨{ wit [(F.Q_CFG_SIZE 63, 4), (F.Q_CFG_SPILL_EN 63, 1)] with
      q := [(63, { drain := [{}], fill := [{ words := List.replicate 16 {} }] })] }, 63, by decide +kernel⟩,
   ⟨wit [], 63, by decide +kernel⟩,
   ⟨{ wit [] with q := [(63, { spilling := some [] })] }, 63, [], by decide +kernel⟩,
   ⟨wit [(F.Q_OWN_PROD 63, 7), (F.Q_CFG_SIZE 63, 4), (F.Q_CFG_EN 63, 1), (F.Q_CREDIT_CFG_CREDIT_MAX 63, 1)], 63,
    by decide +kernel⟩,
   ⟨{ wit [(F.Q_CREDIT_CFG_OPEN_TMO 63, 1)] with
      q := [(63, { opn := some {} })], now := 800 }, 63, {}, by decide +kernel⟩,
   ⟨wit [(F.Q_OWN_PROD 63, 7), (F.Q_CFG_SIZE 63, 4), (F.Q_CFG_EN 63, 1), (F.Q_CREDIT_CFG_CREDIT_MAX 63, 1),
    (F.Q_CREDIT_CFG_OPEN_TMO 63, 0)], 63, by decide +kernel⟩,
   ⟨up [], (.plot 7), 63, 31, false, 7, .qEnable ((.plot 7)) 63 31 false 7, by decide +kernel⟩,
   ⟨up [(F.Q_CFG_EN 63, 0)], 63, 0, true, 0, by decide +kernel⟩,
   ⟨up [(F.Q_CFG_EN 63, 1)], 63, by decide +kernel⟩⟩

theorem witness_StringMeasurement :
    (∃ (s : State) (m : Fin 4) (p : Fin 16) (w : Fin 160), msrOn s m = true ∧ msrDue s m p w = true ∧ (s.link m).ctl = []) ∧
    (∃ (s : State) (m : Fin 4) (p : Fin 16) (w : Fin 160) (f : List Byte) (l : List (List Byte)), msrOn s m = true ∧ msrDue s m
      p w = true ∧ (s.link m).ctl = f :: l) ∧
    (∃ (s : State) (m : Fin 4) (p : Fin 16) (w : Fin 160), msrDue s m p w = false) ∧
    (∃ (s : State) (m : Fin 4) (p : Fin 16) (w : Fin 160) (b : List Byte) (c : Instr), (c = .msrSyncSend m p w ∨ c =
      .msrFrameRx m b) ∧ msrOn s m = false) ∧
    (∃ (s : State) (m : Fin 4) (b : List Byte), msrOn s m = true ∧ (b.length ≠ 11 ∨ crc16 (b.take 9) ≠ halfNat b 9)) ∧
    (∃ (s : State) (m : Fin 4) (b : List Byte) (w : MsrWait) (l : List MsrWait), msrOn s m = true ∧ b.length = 11 ∧ byteNat b 0
      = 0x60 ∧ crc16 (b.take 9) = halfNat b 9 ∧ (s.link m).wait = w :: l ∧ s.now ≤ w.due ∧ byteNat b 1 = w.p ∧ w.p < 16 ∧ s.rd
      (F.MSR_LCFG_INV m) = 0) ∧
    (∃ (s : State) (m : Fin 4) (b : List Byte) (w : MsrWait) (l : List MsrWait), msrOn s m = true ∧ b.length = 11 ∧ byteNat b 0
      = 0x60 ∧ crc16 (b.take 9) = halfNat b 9 ∧ (s.link m).wait = w :: l ∧ s.now ≤ w.due ∧ byteNat b 1 ≠ w.p ∧ byteNat b 1 <
      16) ∧
    (∃ (s : State) (m : Fin 4), (∀ w l, (s.link m).wait = w :: l → s.now < w.due)) ∧
    (∃ (s : State) (m : Fin 4) (w : MsrWait) (l : List MsrWait), s.Canon ∧ (s.link m).wait = w :: l ∧ w.due ≤ s.now) ∧
    (∃ (s : State) (m : Fin 4) (reg : BitVec 8) (v : BitVec 16), reg.toNat = msrCompReg s ∧ v.toNat = (s.link m).comp) ∧
    (∃ (s : State) (m : Fin 4) (reg : BitVec 8) (v : BitVec 16), (reg.toNat ≠ msrCompReg s ∨ v.toNat ≠ (s.link m).comp)) ∧
    (∃ (s : State) (m : Fin 4) (rtt : BitVec 16), (s.link m).rtt.length < 15) ∧
    (∃ (s : State) (r : Req) (m : Fin 4), windowDead s (0x20300104 + 0x100 * m) = false ∧ r ≠ .supervisor) ∧
    (∃ (s : State) (m : Fin 4), windowDead s (0x20300104 + 0x100 * m) = false) :=
  ⟨⟨{ wit [(F.MSR_CTL_EN, 0xF)] with
      msr := { running := true, at_ := some 0, links := [(3, {})] }, now := 19181 }, 3, 15, 159, by decide +kernel⟩,
   ⟨{ wit [(F.MSR_CTL_EN, 0xF)] with
      msr := { running := true, at_ := some 0, links := [(3, { ctl := [[]] })] }, now := 19181 }, 3, 15, 159, [], [],
        by decide +kernel⟩,
   ⟨{ wit [(F.MSR_CTL_EN, 0xF)] with msr.running := true }, 3, 0, 0, by decide +kernel⟩,
   ⟨wit [], 3, 15, 159, [], .msrSyncSend 3 15 159, by decide +kernel⟩,
   ⟨{ wit [(F.MSR_CTL_EN, 0xF)] with msr.running := true }, 3, [], by decide +kernel⟩,
   ⟨{ wit [(F.MSR_LCFG_INV 3, 0), (F.MSR_CTL_EN, 0xF)] with
      msr := { running := true, at_ := some 0, links := [(3, { wait := [{ p := 15 }] })] } }, 3, [96, 15, 0, 0, 0, 0, 0, 0, 0,
        149, 57], { p := 15 }, [], by decide +kernel⟩,
   ⟨{ wit [(F.MSR_CTL_EN, 0xF)] with
      msr := { running := true, at_ := some 0, links := [(3, { wait := [{ p := 15 }] })] } }, 3, [96, 14, 0, 0, 0, 0, 0, 0, 0,
        70, 126], { p := 15 }, [], by decide +kernel⟩,
   ⟨wit [], 3, (fun _ _ h => nomatch h)⟩,
   ⟨{ wit [] with
      msr := { running := true, at_ := some 0, links := [(3, { wait := [{ p := 15 }] })] } }, 3, { p := 15 }, [],
        ⟨by decide +kernel, by decide +kernel⟩, rfl, by decide +kernel⟩,
   ⟨wit [], 3, 0x11, 0, by decide +kernel⟩,
   ⟨{ wit [(F.MSR_CTL_EN, 0xF)] with msr.running := true }, 3, 0, 0, by decide +kernel⟩,
   ⟨wit [], 3, 0, by decide +kernel⟩,
   ⟨{ up [(F.MSR_CTL_EN, 0xF)] with msr.running := true }, .plot 0, 3, by decide +kernel⟩,
   ⟨{ up [(F.MSR_CTL_EN, 0xF)] with msr.running := true }, 3, by decide +kernel⟩⟩

theorem witness_CaptureControl :
    (∃ (s : State) (r : Req) (v : Word), windowDead s 0x20300800 = false ∧ r.supOrStitch = false) ∧
    (∃ (s : State) (r : Req) (v : Word), windowDead s 0x20300800 = false ∧ r.supOrStitch = true ∧ s.rd F.CAP_CTL_EN = 1 ∧
      F.CAP_CTL_SIZE.slice v.toNat ≠ s.rd F.CAP_CTL_SIZE) ∧
    (∃ (s : State) (r : Req) (v : Word), windowDead s 0x20300800 = false ∧ r.supOrStitch = true ∧ s.rd F.CAP_CTL_EN = 1 ∧
      v.toNat % 2 = 0 ∧ dumpHolds s = true) ∧
    (∃ (s : State) (r : Req) (v : Word), windowDead s 0x20300800 = false ∧ r.supOrStitch = true ∧ s.rd F.CAP_CTL_EN = 0 ∧
      v.toNat % 2 = 1) ∧
    (∃ (s : State) (r : Req) (v : Word), windowDead s 0x20300800 = false ∧ r.supOrStitch = true ∧ s.rd F.CAP_CTL_EN = 1 ∧
      F.CAP_CTL_SIZE.slice v.toNat = s.rd F.CAP_CTL_SIZE ∧ v.toNat % 2 = 0 ∧ dumpHolds s = false) ∧
    (∃ (s : State) (j : Fin 32), ((s.job j).kind ≠ 4 ∨ (s.job j).state ≠ 2)) ∧
    (∃ (s : State) (j : Fin 32), (s.job j).kind = 4 ∧ (s.job j).state = 2) :=
  ⟨⟨up [], (.plot 7), 0, by decide +kernel⟩,
   ⟨up [(F.CAP_CTL_EN, 1)], .supervisor, 0, by decide +kernel⟩,
   ⟨{ up [(F.CAP_CTL_EN, 1)] with
      jobs := [(31, { kind := 4, state := 2 })] }, .supervisor, 0, by decide +kernel⟩,
   ⟨up [(F.CAP_CTL_EN, 0)], .supervisor, 1, by decide +kernel⟩,
   ⟨up [(F.CAP_CTL_EN, 1)], .supervisor, 0x30, by decide +kernel⟩,
   ⟨wit [], 0, by decide +kernel⟩,
   ⟨{ wit [] with jobs := [(31, { kind := 4, state := 2 })] }, 31, by decide +kernel⟩⟩

theorem witness_TilthWindows :
    (∃ (s : State), (s.rd F.TIL_CTL_EN = 0 ∨ s.rd F.TIL_STAT_RUNNING = 1 ∨ s.rd F.CAP_CTL_EN = 0 ∨ cycleNew s = false ∨ s.now <
      s.til.enAt + 80000)) ∧
    (∃ (s : State), s.rd F.TIL_CTL_EN = 1 ∧ s.rd F.TIL_STAT_RUNNING = 0 ∧ s.rd F.CAP_CTL_EN = 1 ∧ cycleNew s = true ∧
      s.til.enAt + 80000 ≤ s.now) ∧
    (∃ (s : State) (c : Instr), (c = .tilthFirstPass ∨ c = .cycleWindowClose ∨ c = .statWindowClose ∨ c = .zWindowClose) ∧ s.rd
      F.TIL_STAT_RUNNING = 0) ∧
    (∃ (s : State), s.rd F.TIL_STAT_RUNNING = 0 ∧ s.til.pubs = []) ∧
    (∃ (s : State), s.rd F.TIL_STAT_RUNNING = 1 ∧ capHas s s.til.p1.next = true ∧ setCycle s s.til.p1.next = s.til.wc.cycLast) ∧
    (∃ (s : State), capHas s s.til.p1.next = false) ∧
    (∃ (s : State), s.rd F.TIL_STAT_RUNNING = 1 ∧ s.til.pubs = [] ∧ s.til.p2.next < s.til.p1.next ∧ s.til.finAt.get
      s.til.p2.next 0 + 80000 ≤ s.now ∧ capLost s s.til.p2.next = false) ∧
    (∃ (s : State), s.rd F.TIL_STAT_RUNNING = 1 ∧ s.til.pubs = [] ∧ s.now < s.til.finAt.get s.til.p2.next 0 + 80000) :=
  ⟨⟨wit [(F.TIL_CTL_EN, 0)], by decide +kernel⟩,
   ⟨{ wit [(F.TIL_CTL_EN, 1), (F.CAP_CTL_EN, 1)] with
      trl := { incWas := 1 }, now := 80000 }, by decide +kernel⟩,
   ⟨wit [(F.TIL_STAT_RUNNING, 0)], .tilthFirstPass, by decide +kernel⟩,
   ⟨{ wit [(F.TIL_STAT_RUNNING, 0)] with til.pubs := [] }, by decide +kernel⟩,
   ⟨{ wit [(F.TIL_STAT_RUNNING, 1)] with cap.setno := 1 }, by decide +kernel⟩,
   ⟨wit [], by decide +kernel⟩,
   ⟨{ wit [(F.TIL_STAT_RUNNING, 1)] with
      til := { p1 := { next := 1 } }, now := 80000 }, by decide +kernel⟩,
   ⟨{ wit [(F.TIL_STAT_RUNNING, 1)] with
      til.pubs := [], til.p1 := { next := 1 } }, by decide +kernel⟩⟩

theorem witness_TilthWindows_2 :
    (∃ (s : State), s.rd F.TIL_STAT_RUNNING = 1 ∧ s.til.pubs = [] ∧ s.til.p2.next < s.til.p1.next ∧ s.til.finAt.get
      s.til.p2.next 0 + 80000 ≤ s.now ∧ capLost s s.til.p2.next = true) ∧
    (∃ (s : State), s.rd F.TIL_STAT_RUNNING = 1 ∧ tilStopDue s = true) ∧
    (∃ (s : State), s.rd F.TIL_STAT_RUNNING = 1 ∧ tilStopDue s = false ∧ capHas s s.til.p1.next = true ∧ setCycle s
      s.til.p1.next ≠ s.til.wc.cycLast) ∧
    (∃ (s : State), s.rd F.TIL_STAT_RUNNING = 1 ∧ s.til.wc.sets = 0 ∧ s.til.ws.sets ≠ 0 ∧ s.til.ws.due (s.rd
      F.TIL_STAT_CFG_LEN) = true) ∧
    (∃ (s : State), statDue s = false) ∧
    (∃ (s : State), s.rd F.TIL_STAT_RUNNING = 1 ∧ s.til.wc.sets = 0 ∧ s.til.wz.sets ≠ 0 ∧ s.til.wz.due (s.rd F.TIL_ZLEN_LEN) =
      true) ∧
    (∃ (s : State), zDue s = false) ∧
    (∃ (s : State) (k : Fin 8) (bad : List (Fin 4608)) (badG : List (Fin 252)), tilTake (fun u => u.kind == (k : Fin 8).val &&
      u.kind != 6 && u.kind != 7) s.til.pubs = none) ∧
    (∃ (s : State) (k : Fin 8) (bad : List (Fin 4608)) (badG : List (Fin 252)) (u : TilPub) (l : List TilPub), tilTake (fun u
      => u.kind == k.val && u.kind != 6 && u.kind != 7) s.til.pubs = some (u, l)) :=
  ⟨⟨{ wit [(F.TIL_STAT_RUNNING, 1)] with
      til := { p1 := { next := 1 } }, now := 80000, cap := { setno := 1000000 } }, by decide +kernel⟩,
   ⟨{ wit [(F.TIL_STAT_RUNNING, 1)] with til := { stopCyc := some 1 } }, by decide +kernel⟩,
   ⟨{ wit [(F.TIL_STAT_RUNNING, 1), (F.CAP_CTL_EN, 1), (F.TIL_CTL_EN, 1)] with
      cap.setno := 1, til.wc := { cycLast := 1 } }, by decide +kernel⟩,
   ⟨{ wit [(F.TIL_STAT_RUNNING, 1)] with til.ws := { sets := 1 } }, by decide +kernel⟩,
   ⟨wit [], by decide +kernel⟩,
   ⟨{ wit [(F.TIL_STAT_RUNNING, 1)] with til.wz := { sets := 1 } }, by decide +kernel⟩,
   ⟨wit [], by decide +kernel⟩,
   ⟨wit [], 7, [], [], by decide +kernel⟩,
   ⟨{ wit [] with til := { pubs := [{ kind := 1, done2 := true }] } }, 1, [], [], { kind := 1, done2 := true }, [],
    by decide +kernel⟩⟩

theorem witness_TilthParameters :
    (∃ (s : State) (r : Req) (c : Instr) (a : Nat), ((c = .commit r ∨ c = .tilCommitAbort r) ∧ a = F.TIL_PCMD_CMD.addr ∨ c =
      .tilEnable r ∧ a = F.TIL_CTL_EN.addr) ∧ windowDead s a = false ∧ tilOwner s r = false) ∧
    (∃ (s : State) (r : Req), windowDead s F.TIL_PCMD_CMD.addr = false ∧ tilOwner s r = true ∧ s.rd F.TIL_STAT_COMMIT_PEND = 1) ∧
    (∃ (s : State) (r : Req) (g : Nat) (e : Nat), windowDead s F.TIL_PCMD_CMD.addr = false ∧ tilOwner s r = true ∧ s.rd
      F.TIL_STAT_COMMIT_PEND = 0 ∧ ((List.range 4608).findSome? fun g => (parCellFault (tilCopy s) g).map fun e => (g, e)) =
      some (g, e)) ∧
    (∃ (s : State) (r : Req), windowDead s F.TIL_PCMD_CMD.addr = false ∧ tilOwner s r = true ∧ s.rd F.TIL_STAT_COMMIT_PEND = 0
      ∧ (∀ g, g < 4608 → parCellFault (tilCopy s) g = none) ∧ (∀ k, k < 16 → parTableTail (tilCopy s) k = false ∧ parTableBad
      (tilCopy s) k = false) ∧ parZFault (tilCopy s) = none) ∧
    (∃ (s : State) (r : Req), windowDead s F.TIL_PCMD_CMD.addr = false ∧ tilOwner s r = true) ∧
    (∃ (s : State), (s.til.pend = none ∨ s.now < s.til.pendAt + 80000 ∨ cycleNew s = false)) ∧
    (∃ (s : State) (p : List Host.Cell), s.til.pend = some p ∧ s.til.pendAt + 80000 ≤ s.now ∧ cycleNew s = true) ∧
    (∃ (s : State), windowDead s F.TIL_CTL_EN.addr = false ∧ s.rd F.TIL_CTL_EN = 0 ∧ s.upd = []) ∧
    (∃ (s : State) (r : Req) (v : Word) (c : Instr) (e : Nat) (a : Nat), (c = .tilUcAddrWrite r v ∧ a = F.TIL_UC_ADDR_ADDR.addr
      ∨ c = .tilUcDataWrite r v ∧ a = F.TIL_UC_DATA_DATA.addr) ∧ windowDead s a = false ∧ ucRefusal s r = some e) ∧
    (∃ (s : State) (v : Word), windowDead s F.TIL_UC_ADDR_ADDR.addr = false ∧ s.rd F.TIL_UC_CTL_LOCK = 0) ∧
    (∃ (s : State) (v : Word), windowDead s F.TIL_UC_DATA_DATA.addr = false ∧ s.rd F.TIL_UC_CTL_LOCK = 0) ∧
    (∃ (s : State) (r : Req), windowDead s F.TIL_UC_CTL_LOCK.addr = false ∧ r ≠ .supervisor) ∧
    (∃ (s : State), windowDead s F.TIL_UC_CTL_LOCK.addr = false) :=
  ⟨⟨up [], (.plot 7), .tilEnable (.plot 7), F.TIL_CTL_EN.addr, .inr ⟨rfl, rfl⟩, by decide +kernel, by decide +kernel⟩,
   ⟨up [(F.TIL_STAT_COMMIT_PEND, 1)], .supervisor, by decide +kernel⟩,
   ⟨{ up [(F.TIL_STAT_COMMIT_PEND, 0)] with
      mem := [(tilPar (wit []) + 7, 1)] }, .supervisor, 0, 5, by decide +kernel⟩,
   ⟨up [(F.TIL_STAT_COMMIT_PEND, 0)], .supervisor, by decide +kernel, by decide +kernel, by decide +kernel, fun g _ =>
    parCellFault_nil g, fun k _ => parTable_nil k, parZFault_nil⟩,
   ⟨up [], .supervisor, by decide +kernel⟩,
   ⟨{ wit [] with til.pend := none }, by decide +kernel⟩,
   ⟨{ wit [] with
      til := { pend := some [] }, trl := { incWas := 1 }, now := 80000 }, [], by decide +kernel⟩,
   ⟨up [(F.TIL_CTL_EN, 0)], by decide +kernel⟩,
   ⟨up [], (.plot 7), 0, .tilUcAddrWrite (.plot 7) 0, 0x0207, F.TIL_UC_ADDR_ADDR.addr, .inl ⟨rfl, rfl⟩, by decide +kernel,
    by decide +kernel⟩,
   ⟨up [(F.TIL_UC_CTL_LOCK, 0)], 0, by decide +kernel⟩,
   ⟨up [(F.TIL_UC_CTL_LOCK, 0)], 0, by decide +kernel⟩,
   ⟨up [], (.plot 7), by decide +kernel⟩,
   ⟨up [], by decide +kernel⟩⟩

theorem witness_ImpedanceSweep :
    (∃ (s : State) (j : Fin 32) (bad : List (Fin 4608)), tilTake (fun u => u.kind == 6 && u.job == j.val) s.til.pubs = none) ∧
    (∃ (s : State) (j : Fin 32) (bad : List (Fin 4608)), ((s.job j).kind ≠ 3 ∨ (s.job j).begun = false ∨ (s.job j).active =
      false)) ∧
    (∃ (s : State) (j : Fin 32) (bad : List (Fin 4608)) (u : TilPub) (l : List TilPub), (s.job j).kind = 3 ∧ (s.job j).begun =
      true ∧ (s.job j).state = 2 ∧ tilTake (fun u => u.kind == 6 && u.job == j.val) s.til.pubs = some (u, l) ∧ s.til.zCount <
      u.seq + 2 ∧ (s.job j).par.length = 8 ∧ (s.job j).par.getD 6 0 + 1 = (s.job j).par.getD 3 0) ∧
    (∃ (s : State) (j : Fin 32) (bad : List (Fin 4608)) (u : TilPub) (l : List TilPub), (s.job j).kind = 3 ∧ (s.job j).begun =
      true ∧ (s.job j).state = 2 ∧ tilTake (fun u => u.kind == 6 && u.job == j.val) s.til.pubs = some (u, l) ∧ u.seq + 2 ≤
      s.til.zCount ∧ (s.job j).par.length = 8 ∧ (s.job j).par.getD 7 0 = 3) :=
  ⟨⟨wit [], 31, [], by decide +kernel⟩,
   ⟨wit [], 31, [], by decide +kernel⟩,
   ⟨{ wit [] with
      jobs := [(31, { kind := 3, begun := true, state := 2, par := [0, 0, 0, 1, 0, 0, 0, 0] })], til :=
        { pubs := [{ kind := 6, job := 31, done2 := true }], zCount := 1 } }, 31, [], { kind := 6, job := 31, done2 := true },
        [], by decide +kernel⟩,
   ⟨{ wit [] with
      jobs := [(31, { kind := 3, begun := true, state := 2, par := [0, 0, 0, 4, 0, 0, 0, 3] })], til :=
        { pubs := [{ kind := 6, job := 31, done2 := true }], zCount := 2 } }, 31, [], { kind := 6, job := 31, done2 := true },
        [], by decide +kernel⟩⟩

theorem witness_TripsOpenSwitches :
    (∃ (s : State) (k : BitVec 4), s.rd F.POM_STAT_RUN = 1 ∧ setStale s = true ∧ s.pom.latches.find? 12 = none) ∧
    (∃ (s : State) (k : BitVec 4), s.rd F.POM_STAT_RUN = 1 ∧ s.rd F.POM_STAT_SPLIT = 1 ∧ s.pom.latches.find? 16 = none) ∧
    (∃ (s : State) (u : Fin 4) (k : BitVec 4), s.pom.latches.find? 17 = none) ∧
    (∃ (s : State) (r : Req) (m : BitVec 4) (p : Fin 8) (k : BitVec 4), windowDead s F.POM_MB_CMD_CMD.addr = false ∧
      r.supOrStitch = true ∧ s.rd F.POM_STAT_RUN = 1 ∧ s.pom.latches.find? 14 = none) ∧
    (∃ (s : State) (b : Bool) (k : BitVec 4), s.rd F.POM_STAT_RUN = 1 ∧ s.rd F.POM_STAT_SPLIT = 0 ∧ s.pom.latches.find? 15 =
      none ∧ (b = true ∧ s.pom.injected = false ∨ b = false ∧ s.pom.injAt + 5120000 ≤ s.now)) ∧
    (∃ (s : State) (bytes : List Byte) (k : BitVec 4), s.rd F.POM_STAT_RUN = 1 ∧ byteNat bytes 0 / 16 = 3 ∧ byteNat bytes 0 %
      16 ∉ s.pom.mirrorSeqs ∧ s.pom.latches.find? 13 = none) ∧
    (∃ (s : State) (k : BitVec 4) (e : TripLatch), s.rd F.POM_STAT_RUN = 1 ∧ s.rd F.POM_STAT_SPLIT = 1 ∧ s.pom.latches.find? 16
      = some e ∧ e.mask = 15 ∧ e.patterns = [0]) :=
  ⟨⟨{ wit [(F.POM_STAT_RUN, 1)] with
      pom := { headerAt := some 0 }, now := 80000000 }, 0, by decide +kernel⟩,
   ⟨wit [(F.POM_STAT_RUN, 1), (F.POM_STAT_SPLIT, 1)], 0, by decide +kernel⟩,
   ⟨wit [], 0, 0, by decide +kernel⟩,
   ⟨up [(F.POM_STAT_RUN, 1)], .supervisor, 0, 0, 0, by decide +kernel⟩,
   ⟨wit [(F.POM_STAT_RUN, 1), (F.POM_STAT_SPLIT, 0)], true, 0, by decide +kernel⟩,
   ⟨wit [(F.POM_STAT_RUN, 1)], [0x30], 0, by decide +kernel⟩,
   ⟨{ wit [(F.POM_STAT_RUN, 1), (F.POM_STAT_SPLIT, 1)] with
      pom := { latches := [(16, { mask := 15, patterns := [0] })] } }, 0, { mask := 15, patterns := [0] }, by decide +kernel⟩⟩

theorem witness_PommelEvaluation :
    (∃ (s : State) (x : PomSample) (k : BitVec 4) (n : Fin 2304) (q : BitVec 16) (g : Fin 16) (c : Instr), (c = .pommelEvaluate
      x k ∨ c = .tempDueCheck n q k ∨ c = .setstale k ∨ c = .lockstepMismatch g ∨ c = .delayRegParity ∨ c = .peerCheck k ∨ c =
      .slsClose) ∧ s.rd F.POM_STAT_RUN = 0) ∧
    (∃ (s : State) (j : Fin 16) (g : Fin 4608) (k : BitVec 4), cellMark s (j : Fin 16).val (g : Fin 4608) = 2) ∧
    (∃ (s : State) (j : Fin 16) (g : Fin 4608) (k : BitVec 4), s.rd F.POM_STAT_RUN = 1 ∧ s.girth.unpaired = false ∧ cellMark s
      j g = 0 ∧ pomThr s 1 < (cellVal s j g : Int) ∧ pomPersist s 1 ≤ s.pom.counters.get (pomKey 1 g) 0 + 1) ∧
    (∃ (s : State) (n : Fin 2304) (seq : BitVec 16) (k : BitVec 4), tempDueAt s n seq.toNat = none) ∧
    (∃ (s : State) (n : Fin 2304) (seq : BitVec 16) (k : BitVec 4) (due : Nat), s.rd F.POM_STAT_RUN = 1 ∧ tempDueAt s n
      seq.toNat = some due ∧ sensorFitted s n = true ∧ (s.byteAt (tempAddr n + 3)).toNat ≠ seq.toNat % 256 ∧ s.pom.counters.get
      (pomKey 11 n) 0 + 1 < pomPersist s 11) ∧
    (∃ (s : State) (g : Fin 16), s.rd F.POM_STAT_RUN = 1 ∧ s.rd F.POM_STAT_SPLIT = 0) ∧
    (∃ (s : State), s.rd F.POM_STAT_RUN = 1 ∧ s.rd F.POM_STAT_SPLIT = 0) ∧
    (∃ (s : State) (j : Fin 16) (g : Fin 4608), s.Canon) :=
  ⟨⟨wit [(F.POM_STAT_RUN, 0)], (.temp 0), 0, 2303, 0, 15, .pommelEvaluate ((.temp 0)) 0, by decide +kernel⟩,
   ⟨{ wit [] with mem := [(setSlot 15 + 0x2400 + 1151, 0x80)] }, 15, 4607, 0, by decide +kernel⟩,
   ⟨{ wit [(F.POM_STAT_RUN, 1)] with
      girth.unpaired := false, mem := [(setSlot 15 + 2 * 4607, 0xFF), (setSlot 15 + 2 * 4607 + 1, 0xFF)], pom.counters :=
        [(65536 + 4607, 65535)] }, 15, 4607, 0, by decide +kernel⟩,
   ⟨wit [(F.POM_STAT_RUN, 0)], 2303, 0, 0, by decide +kernel⟩,
   ⟨{ wit [(F.POM_STAT_RUN, 1), (F.LAT_RCFG_NODES 0, 1), (F.LAT_NSENS_SENSORS 0 0, 1)] with
      pom := { tempDue := [(0, 0)] }, mem := [(0x100C4003, 1)] }, 0, 0, 0, 0, by decide +kernel⟩,
   ⟨wit [(F.POM_STAT_RUN, 1), (F.POM_STAT_SPLIT, 0)], 0, by decide +kernel⟩,
   ⟨wit [(F.POM_STAT_RUN, 1), (F.POM_STAT_SPLIT, 0)], by decide +kernel⟩,
   ⟨wit [], 15, 4607, ⟨by decide +kernel, by decide +kernel⟩⟩⟩

theorem witness_PommelEvaluation_2 :
    (∃ (s : State) (k : BitVec 4), s.rd F.POM_STAT_RUN = 1 ∧ s.rd F.POM_STAT_SPLIT = 0 ∧ s.pom.injected = false) ∧
    (∃ (s : State) (b : Bool) (f : Bool) (k : BitVec 4), (b = true ∧ s.pom.injected = true ∨ b = false ∧ s.now < s.pom.injAt +
      5120000)) ∧
    (∃ (s : State) (k : BitVec 4), s.rd F.POM_STAT_RUN = 1 ∧ s.rd F.POM_STAT_SPLIT = 0 ∧ s.pom.injAt + 5120000 ≤ s.now) ∧
    (∃ (s : State), s.til.path = []) ∧
    (∃ (s : State) (b : List Byte) (l : List (List Byte)), s.til.path = b :: l) ∧
    (∃ (s : State), slsMayClose s = true) ∧
    (∃ (s : State), slsMayClose s = false) ∧
    (∃ (s : State), s.rd F.POM_STAT_SLS_ON = 15 ∧ s.girth.unpaired = false ∧ (s.mode = mRUN ∨ s.mode = mSERVICE ∨ s.mode =
      mHOLD)) ∧
    (∃ (s : State), (s.rd F.POM_STAT_SLS_ON ≠ 15 ∨ s.girth.unpaired = true ∨ (s.mode ≠ mRUN ∧ s.mode ≠ mSERVICE ∧ s.mode ≠
      mHOLD))) :=
  ⟨⟨{ wit [(F.POM_STAT_RUN, 1), (F.POM_STAT_SPLIT, 0)] with
      pom.injected := false }, 0, by decide +kernel⟩,
   ⟨{ wit [] with pom := { injected := true } }, true, true, 0, by decide +kernel⟩,
   ⟨{ wit [(F.POM_STAT_RUN, 1)] with now := 5120000 }, 0, by decide +kernel⟩,
   ⟨{ wit [] with til.path := [] }, by decide +kernel⟩,
   ⟨{ wit [] with til.path := ([]) :: ([]) }, [], [], by decide +kernel⟩,
   ⟨{ wit [(F.GIRTH_MODE_MODE, mRUN), (F.POM_STAT_RUN, 1), (F.POM_STAT_INJ_OK, 1)] with
      pom.cleanSets := 16 }, by decide +kernel⟩,
   ⟨wit [(F.POM_STAT_RUN, 0)], by decide +kernel⟩,
   ⟨{ wit [(F.POM_STAT_RUN, 1), (F.POM_STAT_SLS_ON, 15), (F.GIRTH_MODE_MODE, mRUN)] with
      girth.unpaired := false, mem := [(setSlot 15 + 2 * 4607, 0xFF), (setSlot 15 + 2 * 4607 + 1, 0xFF)], pom.counters :=
        [(65536 + 4607, 65535)] }, by decide +kernel⟩,
   ⟨wit [(F.POM_STAT_RUN, 0)], by decide +kernel⟩⟩

theorem witness_PommelMailbox :
    (∃ (s : State) (r : Req) (m : BitVec 18) (m4 : BitVec 4) (p : Fin 8) (k : BitVec 4) (i : BitVec 8) (j : BitVec 8) (v :
      Word) (f : Bool) (c : Instr), windowDead s F.POM_MB_CMD_CMD.addr = false ∧ (c = .tripReset r m ∨ c = .manualTrip r m4 p k
      ∨ c = .paramWrite r i j v ∨ c = .paramRead r i j ∨ c = .injectNow r f k) ∧ r.supOrStitch = false) ∧
    (∃ (s : State) (r : Req) (m : BitVec 18), windowDead s F.POM_MB_CMD_CMD.addr = false ∧ r.supOrStitch = true ∧ (s.rd
      F.POM_STAT_RUN = 0 ∨ resetAllowed s m.toNat = false)) ∧
    (∃ (s : State) (r : Req) (m : BitVec 18), windowDead s F.POM_MB_CMD_CMD.addr = false ∧ r.supOrStitch = true ∧ s.rd
      F.POM_STAT_RUN = 1 ∧ resetAllowed s m.toNat = true) ∧
    (∃ (s : State) (r : Req) (m : BitVec 4) (p : Fin 8) (k : BitVec 4) (f : Bool) (c : Instr), windowDead s
      F.POM_MB_CMD_CMD.addr = false ∧ (c = .manualTrip r m p k ∨ c = .injectNow r f k) ∧ r.supOrStitch = true ∧ s.rd
      F.POM_STAT_RUN = 0) ∧
    (∃ (s : State) (r : Req) (i : BitVec 8) (j : BitVec 8) (v : Word), windowDead s F.POM_MB_CMD_CMD.addr = false ∧
      r.supOrStitch = true ∧ s.mode ≠ mSERVICE) ∧
    (∃ (s : State) (r : Req) (i : BitVec 8) (j : BitVec 8) (v : Word) (e : Nat), windowDead s F.POM_MB_CMD_CMD.addr = false ∧
      r.supOrStitch = true ∧ s.mode = mSERVICE ∧ pomParamCheck (0x2A00 + i.toNat) j.toNat v.toNat = e ∧ e ≠ 0) ∧
    (∃ (s : State) (r : Req) (i : BitVec 8) (j : BitVec 8) (v : Word), windowDead s F.POM_MB_CMD_CMD.addr = false ∧
      r.supOrStitch = true ∧ s.mode = mSERVICE ∧ pomParamCheck (0x2A00 + i.toNat) j.toNat v.toNat = 0 ∧ pomParamReg (0x2A00 +
      i.toNat) j.toNat = none) ∧
    (∃ (s : State) (r : Req) (i : BitVec 8) (j : BitVec 8) (v : Word) (f : Field), windowDead s F.POM_MB_CMD_CMD.addr = false ∧
      r.supOrStitch = true ∧ s.mode = mSERVICE ∧ pomParamCheck (0x2A00 + i.toNat) j.toNat v.toNat = 0 ∧ pomParamReg (0x2A00 +
      i.toNat) j.toNat = some f) ∧
    (∃ (s : State) (r : Req) (i : BitVec 8) (j : BitVec 8), windowDead s F.POM_MB_CMD_CMD.addr = false ∧ r.supOrStitch = true ∧
      pomParamCheck (0x2A00 + i.toNat) j.toNat (pomParam s (0x2A00 + i.toNat) j.toNat) = 0) ∧
    (∃ (s : State) (r : Req) (k : BitVec 4), windowDead s F.POM_MB_CMD_CMD.addr = false ∧ r.supOrStitch = true ∧ s.rd
      F.POM_STAT_RUN = 1 ∧ s.rd F.POM_STAT_SPLIT = 0) ∧
    (∃ (s : State) (b : List Byte), byteNat b 0 / 16 ≠ 4) ∧
    (∃ (s : State) (b : List Byte), byteNat b 0 / 16 = 4) :=
  ⟨⟨up [], (.plot 7), 0, 0, 7, 0, 0, 0, 0, false, .tripReset ((.plot 7)) 0, by decide +kernel⟩,
   ⟨{ up [(F.POM_STAT_RUN, 0)] with pom.settle := [(17 * 65536, 1)] }, .supervisor, 0x20000, by decide +kernel⟩,
   ⟨up [(F.POM_STAT_RUN, 1)], .supervisor, 0, by decide +kernel⟩,
   ⟨up [], .supervisor, 0, 0, 0, true, .injectNow .supervisor true 0, by decide +kernel, .inr rfl, by decide +kernel,
    by decide +kernel⟩,
   ⟨up [(F.GIRTH_MODE_MODE, mRUN)], .supervisor, 0, 0, 0, by decide +kernel⟩,
   ⟨up [(F.GIRTH_MODE_MODE, mSERVICE)], .supervisor, 0x11, 2, 0, 0x0301, by decide +kernel⟩,
   ⟨up [(F.GIRTH_MODE_MODE, mSERVICE)], .supervisor, 0x11, 1, 0, by decide +kernel⟩,
   ⟨up [(F.GIRTH_MODE_MODE, mSERVICE)], .supervisor, 0, 1, 1, F.POM_BOOT_SPLIT, by decide +kernel⟩,
   ⟨up [], .supervisor, 0x11, 1, by decide +kernel⟩,
   ⟨up [(F.POM_STAT_RUN, 1), (F.POM_STAT_SPLIT, 0)], .supervisor, 0, by decide +kernel⟩,
   ⟨wit [], [], by decide +kernel⟩,
   ⟨wit [], [0x40], by decide +kernel⟩⟩

theorem witness_LoadSwitchRequests :
    (∃ (s : State) (r : Req) (n : Fin 24) (b : Bool) (p : Fin 4) (c : Instr), windowDead s (F.LS_REQ_ON n).addr = false ∧
      windowDead s (F.LS_CFG_PAR n).addr = false ∧ (c = .lsReqOn r n b ∨ c = .lsClear r n ∨ c = .lsParallelSet r n p) ∧
      r.forPlot (lsOwner s n) = false) ∧
    (∃ (s : State) (r : Req) (n : Fin 24) (b : Bool) (p : Fin 4) (c : Instr), windowDead s (F.LS_REQ_ON n).addr = false ∧
      windowDead s (F.LS_CFG_PAR n).addr = false ∧ (c = .lsReqOn r n b ∨ c = .lsClear r n ∨ c = .lsParallelSet r n p) ∧
      r.forPlot (lsOwner s n) = true ∧ s.rd (F.LS_STAT_MEMBER n) = 1) ∧
    (∃ (s : State) (r : Req) (n : Fin 24), windowDead s (F.LS_REQ_ON n).addr = false ∧ r.forPlot (lsOwner s n) = true ∧ s.mode
      = mSERVICE) ∧
    (∃ (s : State) (r : Req) (n : Fin 24), windowDead s (F.LS_REQ_ON n).addr = false ∧ r.forPlot (lsOwner s n) = true ∧ s.hwHas
      (F.LS_REQ_ON n) = false ∧ s.trl.actOn.find? n ≠ some s.now ∧ s.rd (F.LS_STAT_MEMBER n) = 0 ∧ s.mode ≠ mSERVICE ∧ s.rd
      (F.LS_CFG_PAR n) = 0 ∧ lsState s n = 0 ∧ lsOverride s n = none ∧ s.girth.ownLs.getLsbD n = true ∧ lsProfOk s n = true ∧
      lsCondOk s n = true ∧ (s.lsCh n).stagger = false ∧ (s.lsCh n).hotOff = false ∧ (s.lsCh n).uvOff = false ∧ (s.lsCh
      n).retryDue = false) ∧
    (∃ (s : State) (r : Req) (n : Fin 24), windowDead s (F.LS_REQ_ON n).addr = false ∧ r.forPlot (lsOwner s n) = true ∧ s.hwHas
      (F.LS_REQ_ON n) = false ∧ s.trl.actOn.find? n ≠ some s.now ∧ s.rd (F.LS_STAT_MEMBER n) = 0 ∧ s.rd (F.LS_CFG_PAR n) = 0 ∧
      lsState s n = 2 ∧ lsOverride s n = none ∧ (s.lsCh n).service = false) ∧
    (∃ (s : State) (r : Req) (n : Fin 24), windowDead s (F.LS_REQ_ON n).addr = false ∧ r.forPlot (lsOwner s n) = true ∧ s.rd
      (F.LS_STAT_MEMBER n) = 0 ∧ s.rd (F.LS_CFG_PAR n) = 0 ∧ lsState s n = 4 ∧ s.rd (F.LS_REQ_ON n) = 0 ∧ lsOverride s n = none
      ∧ (s.lsCh n).service = false) ∧
    (∃ (s : State) (r : Req) (n : Fin 24) (d : BitVec 16) (c : Instr), windowDead s F.LS_SVC_CH.addr = false ∧ (c =
      .lsServiceOn r n d ∨ c = .lsServiceOff r n) ∧ r.supOrStitch = false) ∧
    (∃ (s : State) (r : Req) (n : Fin 24) (d : BitVec 16) (c : Instr), windowDead s F.LS_SVC_CH.addr = false ∧ (c =
      .lsServiceOn r n d ∨ c = .lsServiceOff r n) ∧ r.supOrStitch = true ∧ (s.mode ≠ mSERVICE ∨ s.rd (F.LS_STAT_MEMBER n) = 1)) ∧
    (∃ (s : State) (r : Req) (n : Fin 24) (d : BitVec 16), windowDead s F.LS_SVC_CH.addr = false ∧ r.supOrStitch = true ∧
      s.mode = mSERVICE ∧ s.rd (F.LS_STAT_MEMBER n) = 0 ∧ (d.toNat = 0 ∨ 600 < d.toNat)) ∧
    (∃ (s : State) (r : Req) (n : Fin 24) (d : BitVec 16), windowDead s F.LS_SVC_CH.addr = false ∧ r.supOrStitch = true ∧
      s.mode = mSERVICE ∧ s.rd (F.LS_STAT_MEMBER n) = 0 ∧ 1 ≤ d.toNat ∧ d.toNat ≤ 600 ∧ s.rd (F.LS_CFG_PAR n) = 0) :=
  ⟨⟨up [], .supervisor, 23, false, 3, .lsReqOn .supervisor 23 false, by decide +kernel⟩,
   ⟨up [(F.PC_LS_OWN_OWNER (23 / 8) (23 % 8), 7), (F.LS_STAT_MEMBER 23, 1)], (.plot 7), 23, false, 3, .lsReqOn ((.plot 7)) 23
    false, by decide +kernel⟩,
   ⟨up [(F.PC_LS_OWN_OWNER (23 / 8) (23 % 8), 7), (F.GIRTH_MODE_MODE, mSERVICE)], (.plot 7), 23, by decide +kernel⟩,
   ⟨{ up [(F.PC_LS_OWN_OWNER (23 / 8) (23 % 8), 7), (F.LS_STAT_MEMBER 23, 0), (F.GIRTH_MODE_MODE, mRUN), (F.LS_CFG_PAR 23, 0),
    (F.LS_STAT_STATE 23, 0), (F.STR_STAT_STATE, 0), (F.LS_PVALID_VALID, 0xFFFF)] with
      girth.ownLs := 0x800000 }, (.plot 7), 23, by decide +kernel⟩,
   ⟨up [(F.PC_LS_OWN_OWNER (23 / 8) (23 % 8), 7), (F.LS_STAT_MEMBER 23, 0), (F.LS_CFG_PAR 23, 0), (F.LS_STAT_STATE 23, 2),
    (F.STR_STAT_STATE, 0), (F.GIRTH_MODE_MODE, mRUN)], (.plot 7), 23, by decide +kernel⟩,
   ⟨up [(F.PC_LS_OWN_OWNER (23 / 8) (23 % 8), 7), (F.LS_STAT_MEMBER 23, 0), (F.LS_CFG_PAR 23, 0), (F.LS_STAT_STATE 23, 4),
    (F.LS_REQ_ON 23, 0), (F.GIRTH_MODE_MODE, mRUN)], (.plot 7), 23, by decide +kernel⟩,
   ⟨up [], (.plot 7), 23, 0, .lsServiceOn ((.plot 7)) 23 0, by decide +kernel⟩,
   ⟨up [(F.GIRTH_MODE_MODE, mRUN)], .supervisor, 23, 0, .lsServiceOn .supervisor 23 0, by decide +kernel⟩,
   ⟨up [(F.GIRTH_MODE_MODE, mSERVICE), (F.LS_STAT_MEMBER 0, 0)], .supervisor, 0, 0, by decide +kernel⟩,
   ⟨up [(F.GIRTH_MODE_MODE, mSERVICE), (F.LS_CFG_PAR 23, 0), (F.LS_STAT_MEMBER 23, 0)], .supervisor, 23, 600,
    by decide +kernel⟩⟩

theorem witness_LoadSwitchRequests_2 :
    (∃ (s : State) (r : Req) (n : Fin 24), windowDead s F.LS_SVC_CH.addr = false ∧ r.supOrStitch = true ∧ s.mode = mSERVICE ∧
      s.rd (F.LS_STAT_MEMBER n) = 0 ∧ s.rd (F.LS_CFG_PAR n) = 0) ∧
    (∃ (s : State) (n : Fin 24), (s.lsCh n).service = true ∧ (s.lsCh n).svcEnd ≤ s.now ∧ s.rd (F.LS_CFG_PAR n) = 0) ∧
    (∃ (s : State) (n : Fin 24), ((s.lsCh n).service = false ∨ s.now < (s.lsCh n).svcEnd)) ∧
    (∃ (s : State) (r : Req) (x : Fin 16), windowDead s F.LS_PCHK_X.addr = false ∧ x.val < 8) ∧
    (∃ (s : State) (r : Req) (x : Fin 16), windowDead s F.LS_PCHK_X.addr = false ∧ 8 ≤ x.val ∧ r.forPlot (s.rd
      (F.LS_PROF_OWN_OWNER (x.val - 8))) = false) ∧
    (∃ (s : State) (r : Req) (x : Fin 16), windowDead s F.LS_PCHK_X.addr = false ∧ 8 ≤ x.val ∧ r.forPlot (s.rd
      (F.LS_PROF_OWN_OWNER (x.val - 8))) = true ∧ profFault (lsProfBytes s x) = none) ∧
    (∃ (s : State) (r : Req) (x : Fin 16) (why : Nat) (seg : Nat), windowDead s F.LS_PCHK_X.addr = false ∧ 8 ≤ x.val ∧
      r.forPlot (s.rd (F.LS_PROF_OWN_OWNER (x.val - 8))) = true ∧ profFault (lsProfBytes s x) = some (why, seg)) ∧
    (∃ (s : State) (r : Req) (x : Fin 16) (w : Fin 16) (v : Word), windowDead s (0x20700800 + 0x40 * x + 4 * w) = false ∧ 8 ≤
      x.val ∧ r.forPlot (s.rd (F.LS_PROF_OWN_OWNER (x.val - 8))) = false) ∧
    (∃ (s : State) (r : Req) (x : Fin 16) (w : Fin 16) (v : Word), windowDead s (0x20700800 + 0x40 * x + 4 * w) = false ∧ 8 ≤
      x.val ∧ r.forPlot (s.rd (F.LS_PROF_OWN_OWNER (x.val - 8))) = true) ∧
    (∃ (s : State) (r : Req) (n : Fin 24) (p : Fin 4), windowDead s (F.LS_CFG_PAR n).addr = false ∧ r.forPlot (lsOwner s n) =
      true ∧ (lsState s n = 1 ∨ lsState s n = 2)) ∧
    (∃ (s : State) (r : Req) (n : Fin 24), windowDead s (F.LS_CFG_PAR n).addr = false ∧ r.forPlot (lsOwner s n) = true ∧ s.rd
      (F.LS_STAT_MEMBER n) = 0 ∧ lsState s n = 0 ∧ s.rd (F.LS_CFG_PROFILE n) < 8 ∧ s.rd (F.LS_CFG_PAR n) = 0 ∧ n.val % 6 ≠ 5 ∧
      lsOwner s (n + 1) = lsOwner s n ∧ lsMemberFree s (n.val + 1) = true) :=
  ⟨⟨up [(F.GIRTH_MODE_MODE, mSERVICE), (F.LS_CFG_PAR 23, 0), (F.LS_STAT_MEMBER 23, 0)], .supervisor, 23, by decide +kernel⟩,
   ⟨{ wit [(F.LS_CFG_PAR 23, 0)] with ls := [(23, { service := true })] }, 23, by decide +kernel⟩,
   ⟨wit [], 23, by decide +kernel⟩,
   ⟨up [], .supervisor, 0, by decide +kernel⟩,
   ⟨up [], .supervisor, 15, by decide +kernel⟩,
   ⟨up [(F.LS_PROF_OWN_OWNER 7, 7), (F.LS_PROF_DATA 15 0, 0x00010000), (F.LS_PROF_DATA 15 1, 0x000A000A), (F.LS_PROF_DATA 15 2,
    1), (F.LS_PROF_DATA 15 3, 1), (F.LS_PROF_DATA 15 4, 0x00320001)], (.plot 7), 15, by decide +kernel⟩,
   ⟨up [(F.LS_PROF_OWN_OWNER 7, 7)], (.plot 7), 15, 1, 0, by decide +kernel⟩,
   ⟨up [], .supervisor, 15, 0, 0, by decide +kernel⟩,
   ⟨up [(F.LS_PROF_OWN_OWNER 7, 7)], (.plot 7), 15, 0, 0, by decide +kernel⟩,
   ⟨up [(F.PC_LS_OWN_OWNER (23 / 8) (23 % 8), 7), (F.LS_STAT_MEMBER 23, 0), (F.LS_STAT_STATE 23, 1)], (.plot 7), 23, 0,
    by decide +kernel⟩,
   ⟨up [(F.PC_LS_OWN_OWNER (22 / 8) (22 % 8), 7), (F.LS_STAT_MEMBER 22, 0), (F.LS_STAT_STATE 22, 0), (F.LS_CFG_PAR 22, 0),
    (F.PC_LS_OWN_OWNER 2 7, 7)], (.plot 7), 22, by decide +kernel⟩⟩

theorem witness_LoadSwitchProtection :
    (∃ (s : State) (n : Fin 24), lsConducts (lsState s n) = false ∧ s.rd (F.LS_STAT_MEMBER n) = 0 ∧ s.rd (F.LS_CFG_PAR n) = 0) ∧
    (∃ (s : State) (n : Fin 24) (c : Instr) (k : Nat), (c = .sc n ∧ k = 0 ∨ c = .limTrip n ∧ k = 1 ∧ lsTrips s n = true) ∧
      lsConducts (lsState s n) = true ∧ s.rd (F.LS_STAT_MEMBER n) = 0 ∧ s.rd (F.LS_CFG_PAR n) = 0 ∧ s.mode ≠ mDORMANCY) ∧
    (∃ (s : State) (n : Fin 24), s.now < (s.lsCh n).segAt + 8000 * (lsSegNow s n).dur) ∧
    (∃ (s : State) (n : Fin 24), (s.lsCh n).running = true ∧ lsConducts (lsState s n) = true ∧ (s.lsCh n).segAt + 8000 *
      (lsSegNow s n).dur ≤ s.now ∧ s.rd (F.LS_STAT_SEG n) + 1 < (s.lsCh n).prof.segs.length ∧ (s.lsCh n).prof.segs.length ≤ 8) ∧
    (∃ (s : State) (n : Fin 24), (s.lsCh n).running = true ∧ lsConducts (lsState s n) = true ∧ (s.lsCh n).segAt + 8000 *
      (lsSegNow s n).dur ≤ s.now ∧ (s.lsCh n).prof.segs.length ≤ s.rd (F.LS_STAT_SEG n) + 1) ∧
    (∃ (s : State) (n : Fin 24) (i : BitVec 25) (v : BitVec 16) (tb : BitVec 16) (cm : BitVec 16) (ce : BitVec 16) (fs : BitVec
      16) (lim : Bool), lsConducts (lsState s n) = false ∧ lsState s n ≠ 7 ∧ s.rd (F.LS_STAT_MEMBER n) = 0 ∧ s.rd (F.LS_CFG_PAR
      n) = 0 ∧ s.rd (F.LS_BANK_WARN (n / 6)) = 0) ∧
    (∃ (s : State) (n : Fin 24), (lsState s n ≠ 3 ∨ s.now < (s.lsCh n).cutAt + 80000 * (s.lsCh n).prof.delay)) ∧
    (∃ (s : State) (n : Fin 24), lsState s n = 3 ∧ strControls s n = false ∧ s.rdI (F.LS_TJ_TJ n) < 1300 ∧ s.rd
      (F.LS_STAT_MEMBER n) = 0 ∧ (s.lsCh n).cutAt + 80000 * (s.lsCh n).prof.delay ≤ s.now) ∧
    (∃ (s : State) (n : Fin 24), lsState s n = 2 ∧ (s.lsCh n).steadyAt + 800000000 ≤ s.now) ∧
    (∃ (s : State) (n : Fin 24), (lsState s n ≠ 2 ∨ s.now < (s.lsCh n).steadyAt + 800000000)) ∧
    (∃ (s : State) (n : Fin 32), dioState s n = 1 ∧ (s.dioCh n).onAt + 800000000 ≤ s.now) ∧
    (∃ (s : State) (n : Fin 32), (dioState s n ≠ 1 ∨ s.now < (s.dioCh n).onAt + 800000000)) ∧
    (∃ (s : State) (b : Fin 4), (stagFree s b = false ∨ stagNext s b = none)) :=
  ⟨⟨wit [(F.LS_STAT_MEMBER 23, 0), (F.LS_CFG_PAR 23, 0)], 23, by decide +kernel⟩,
   ⟨wit [(F.LS_STAT_MEMBER 23, 0), (F.LS_CFG_PAR 23, 0), (F.GIRTH_MODE_MODE, mRUN), (F.LS_STAT_STATE 23, 1)], 23, .sc 23, 0,
    by decide +kernel⟩,
   ⟨{ wit [(F.LS_STAT_STATE 23, 1)] with
      ls := [(23, { running := true, prof := ⟨0, 0, 0, 0, 0, 0, 0, 0, List.replicate 8 ⟨1, 50, 0⟩⟩ })] }, 23,
        by decide +kernel⟩,
   ⟨{ wit [(F.LS_STAT_STATE 23, 1), (F.LS_STAT_SEG 23, 0)] with
      ls := [(23, { running := true, prof := ⟨0, 0, 0, 0, 0, 0, 0, 0, [⟨1, 0, 0⟩, ⟨0, 0, 0⟩]⟩ })], now := 8000 }, 23,
        by decide +kernel⟩,
   ⟨{ wit [(F.LS_STAT_STATE 23, 1)] with
      ls := [(23, { running := true })] }, 23, by decide +kernel⟩,
   ⟨wit [(F.LS_STAT_MEMBER 23, 0), (F.LS_CFG_PAR 23, 0), (F.LS_BANK_WARN (23 / 6), 0)], 23, 0, 0, 0, 0, 0, 0, true,
    by decide +kernel⟩,
   ⟨wit [(F.LS_STAT_MEMBER 23, 0), (F.LS_CFG_PAR 23, 0)], 23, by decide +kernel⟩,
   ⟨{ wit [(F.LS_STAT_STATE 23, 3), (F.LS_STAT_MEMBER 23, 0)] with
      lsStag := [(3, 0)] }, 23, by decide +kernel⟩,
   ⟨{ wit [(F.LS_STAT_STATE 23, 2)] with now := 800000000 }, 23, by decide +kernel⟩,
   ⟨wit [(F.LS_STAT_MEMBER 23, 0), (F.LS_CFG_PAR 23, 0)], 23, by decide +kernel⟩,
   ⟨{ wit [(F.DIO_STAT_STATE 31, 1)] with now := 800000000 }, 31, by decide +kernel⟩,
   ⟨wit [(F.LS_STAT_MEMBER 23, 0), (F.LS_CFG_PAR 23, 0)], 23, by decide +kernel⟩,
   ⟨wit [(F.LS_STAT_MEMBER 23, 0), (F.LS_CFG_PAR 23, 0)], 0, by decide +kernel⟩⟩

theorem witness_LoadSwitchProtection_2 :
    (∃ (s : State) (b : Fin 4) (n : Nat), stagFree s b = true ∧ stagNext s b = some n ∧ s.rd (F.LS_STAT_MEMBER n) = 0) ∧
    (∃ (s : State) (f : Fin 2), (feedOver s f = false ∨ shedPick s ((List.range 12).map (12 * f.val + ·)) = none)) ∧
    (∃ (s : State) (f : Fin 2) (n : Nat), feedOver s f = true ∧ shedPick s ((List.range 12).map (12 * f.val + ·)) = some n ∧
      s.rd (F.LS_STAT_MEMBER n) = 0 ∧ s.rd (F.LS_CFG_PAR n) = 0) ∧
    (∃ (s : State) (n : Fin 24), lsConducts (lsState s n) = true ∧ openOnDue s n = true ∧ s.rd (F.LS_FLT_OPEN_ON n) = 0) ∧
    (∃ (s : State) (n : Fin 24), lsConducts (lsState s n) = true) ∧
    (∃ (s : State) (n : Fin 24), lsConducts (lsState s n) = false ∧ (lsProfile s n).flags % 2 = 1 ∧ s.rd (F.LS_STAT_EXT_DRIVEN
      n) = 0 ∧ s.rd (F.LS_STAT_MEMBER n) = 0 ∧ s.rd (F.LS_FLT_OPEN_OFF n) = 0 ∧ s.mode ≠ mDORMANCY) ∧
    (∃ (s : State) (n : Fin 24) (b : Bool), lsConducts (lsState s n) = true) ∧
    (∃ (s : State) (n : Fin 24) (b : Bool), lsConducts (lsState s n) = false ∧ s.mode ≠ mDORMANCY ∧ s.rd (F.LS_STAT_MEMBER n) =
      0 ∧ s.girth.spanMember = true ∧ (s.partner.lsOn.testBit n = true ∨ s.rd (F.LS_STAT_SHARED n) = 1)) ∧
    (∃ (s : State) (n : Fin 24) (b : Bool), lsConducts (lsState s n) = false ∧ s.mode ≠ mDORMANCY ∧ s.rd (F.LS_STAT_MEMBER n) =
      0 ∧ (s.girth.spanMember = false ∨ s.partner.lsOn.testBit n = false ∧ s.rd (F.LS_STAT_SHARED n) = 0)) ∧
    (∃ (s : State) (b : Fin 4), s.rd (F.LS_BANK_WARN b) = 0) ∧
    (∃ (s : State) (b : Fin 4), s.rd (F.LS_BANK_WARN b) = 1) ∧
    (∃ (s : State) (b : Fin 4), s.rd (F.LS_BANK_HOT b) = 0) ∧
    (∃ (s : State) (b : Fin 4), s.rd (F.LS_BANK_HOT b) = 1) :=
  ⟨⟨{ wit [(F.STR_STAT_STATE, 0), (F.GIRTH_MODE_MODE, mRUN), (F.LS_PVALID_VALID, 0xFFFF), (F.LS_STAT_STATE 23, 7), (F.LS_REQ_ON
    23, 1), (F.LS_STAT_MEMBER 23, 0)] with
      girth.ownLs := 0x800000, ls := [(23, { stagger := true })] }, 3, 23, by decide +kernel⟩,
   ⟨wit [(F.LS_STAT_MEMBER 23, 0), (F.LS_CFG_PAR 23, 0)], 0, by decide +kernel⟩,
   ⟨{ wit [(F.LS_STAT_STATE 23, 1)] with
      lsOver := [(1, 0)], now := 1600000 }, 1, 23, by decide +kernel⟩,
   ⟨{ wit [(F.LS_STAT_STATE 23, 1)] with
      ls := [(23, { olSince := some 0 })], now := 800000 }, 23, by decide +kernel⟩,
   ⟨wit [(F.LS_STAT_STATE 23, 1)], 23, by decide +kernel⟩,
   ⟨wit [(F.LS_STAT_EXT_DRIVEN 23, 0), (F.GIRTH_MODE_MODE, mRUN), (F.LS_STAT_MEMBER 23, 0), (F.LS_FLT_OPEN_OFF 23, 0)], 23,
    by decide +kernel⟩,
   ⟨wit [(F.LS_STAT_STATE 23, 1)], 23, true, by decide +kernel⟩,
   ⟨{ wit [] with
      girth := { spanMember := true }, partner := { lsOn := 0x800000 } }, 23, true, by decide +kernel⟩,
   ⟨{ wit [(F.LS_STAT_MEMBER 23, 0), (F.LS_CFG_PAR 23, 0)] with
      girth.spanMember := false }, 23, true, by decide +kernel⟩,
   ⟨wit [(F.LS_STAT_MEMBER 23, 0), (F.LS_CFG_PAR 23, 0), (F.LS_BANK_WARN 0, 0)], 0, by decide +kernel⟩,
   ⟨wit [(F.LS_STAT_MEMBER 23, 0), (F.LS_CFG_PAR 23, 0), (F.LS_BANK_WARN 0, 1)], 0, by decide +kernel⟩,
   ⟨wit [(F.LS_BANK_HOT 3, 0)], 3, by decide +kernel⟩,
   ⟨wit [(F.LS_BANK_HOT 3, 1)], 3, by decide +kernel⟩⟩

theorem witness_LoadSwitchRelease :
    (∃ (s : State) (n : Fin 24), (s.rd F.XL_STAT_LINK = 0 ∨ s.girth.unpaired = true)) ∧
    (∃ (s : State) (n : Fin 24), s.rd F.XL_STAT_LINK = 1 ∧ s.girth.unpaired = false ∧ s.rd (F.LS_CFG_PAR n) = 0) ∧
    (∃ (s : State) (n : Fin 24), s.girth.offered.getLsbD n = false) ∧
    (∃ (s : State) (n : Fin 24), s.girth.offered.getLsbD n = true) ∧
    (∃ (s : State) (n : Fin 24), (s.rd (F.LS_STAT_SHARED n) = 0 ∨ overlapOver s n = false)) ∧
    (∃ (s : State) (n : Fin 24), s.rd (F.LS_STAT_SHARED n) = 1 ∧ overlapOver s n = true ∧ (s.lsCh n).releasing = false) ∧
    (∃ (s : State) (n : Fin 24), s.rd (F.LS_STAT_SHARED n) = 1 ∧ overlapOver s n = true ∧ (s.lsCh n).releasing = true) :=
  ⟨⟨wit [(F.LS_CFG_PAR 23, 0), (F.XL_STAT_LINK, 0)], 23, by decide +kernel⟩,
   ⟨{ wit [(F.LS_CFG_PAR 23, 0), (F.XL_STAT_LINK, 1)] with
      girth.unpaired := false }, 23, by decide +kernel⟩,
   ⟨wit [], 23, by decide +kernel⟩,
   ⟨{ wit [] with girth.offered := 0x800000 }, 23, by decide +kernel⟩,
   ⟨wit [(F.LS_CFG_PAR 23, 0), (F.LS_STAT_SHARED 23, 0)], 23, by decide +kernel⟩,
   ⟨{ wit [(F.LS_STAT_SHARED 23, 1), (F.LS_SPAN_OVERLAP, 1)] with
      now := 8000 }, 23, by decide +kernel⟩,
   ⟨{ wit [(F.LS_STAT_SHARED 23, 1), (F.LS_SPAN_OVERLAP, 1)] with
      ls := [(23, { releasing := true })], now := 8000 }, 23, by decide +kernel⟩⟩

theorem witness_StirrupHold :
    (∃ (s : State) (l : Fin 3) (b : List Byte) (g : Nat) (c : Instr), (c = .wdogFrameRx l b g ∨ c = .streamTimeout l) ∧ s.rd
      F.STR_STAT_STATE = 3 ∧ (strLine s (l : Fin 3).val).present = true) ∧
    (∃ (s : State) (b : List Byte) (g : Nat), (s.mode = 0 ∨ s.mode = mQUARANTINE) ∧ (strLine s 2).present = true) ∧
    (∃ (s : State) (l : Fin 3) (b : List Byte) (g : Nat) (q : Nat), s.rd F.STR_STAT_STATE ≠ 3 ∧ (l.val = 2 → s.mode ≠ 0 ∧
      s.mode ≠ mQUARANTINE) ∧ (strLine s l).present = true ∧ (strLine s l).seq = some q ∧ (strWindow s l).1 ≤ g ∧ frameOk s l b
      = false ∧ (strLine s l).bad = 0) ∧
    (∃ (s : State) (l : Fin 3) (b : List Byte) (g : Nat) (q : Nat), s.rd F.STR_STAT_STATE ≠ 3 ∧ (l.val = 2 → s.mode ≠ 0 ∧
      s.mode ≠ mQUARANTINE) ∧ (strLine s l).present = true ∧ (strLine s l).seq = some q ∧ (strWindow s l).1 ≤ g ∧ frameOk s l b
      = true ∧ (byteNat b 2).testBit 1 = false) ∧
    (∃ (s : State) (l : Fin 3) (b : List Byte) (g : Nat) (q : Nat), s.rd F.STR_STAT_STATE ≠ 3 ∧ (l.val = 2 → s.mode ≠ 0 ∧
      s.mode ≠ mQUARANTINE) ∧ (strLine s l).present = true ∧ (strLine s l).seq = some q ∧ g < (strWindow s l).1) ∧
    (∃ (s : State) (l : Fin 3), rcPast s (strLine s l).endAt (strWindow s l).2 = false) ∧
    (∃ (s : State) (l : Fin 3), rcPast s (strLine s l).endAt (strWindow s l).2 = true ∧ s.rd F.STR_STAT_STATE ≠ 3 ∧ (strLine s
      l).present = true) ∧
    (∃ (s : State) (l : Fin 3), rcPast s (strLine s l).endAt (strWindow s l).2 = true ∧ s.rd F.STR_STAT_STATE = 0 ∧ (strLine s
      l).present = true ∧ strRequired s l = true ∧ s.rd F.STR_HOLD_TMO_TMO ≠ 0) ∧
    (∃ (s : State) (l : Fin 3), rcPast s (strLine s l).endAt (strWindow s l).2 = true ∧ (strLine s l).present = false) ∧
    (∃ (s : State), (s.rd F.STR_STAT_STATE ≠ 1 ∨ s.str.holdTimer = false ∨ rcPast s s.str.holdAt (1000 * s.rd
      F.STR_HOLD_TMO_TMO) = false)) :=
  ⟨⟨{ wit [(F.STR_STAT_STATE, 3)] with str.swx := { present := true } }, 2, [], 0, .wdogFrameRx 2 ([]) 0, by decide +kernel⟩,
   ⟨{ wit [(F.STR_STAT_STATE, 3), (F.GIRTH_MODE_MODE, 0)] with
      str.swx := { present := true } }, [], 0, by decide +kernel⟩,
   ⟨{ wit [(F.STR_STAT_STATE, 0)] with
      str.swx := { present := true, seq := some 15 } }, 2, [], 500, 15, by decide +kernel⟩,
   ⟨{ wit [(F.STR_STAT_STATE, 0)] with
      str.swx := { present := true, seq := some 15 } }, 2, [0x96, 0x40, 1, BitVec.ofNat 8 (crc8 [0x96, 0x40, 1])], 500, 15,
        by decide +kernel⟩,
   ⟨{ wit [(F.STR_STAT_STATE, 0)] with
      str.swx := { present := true, seq := some 15 } }, 2, [], 499, 15, by decide +kernel⟩,
   ⟨{ wit [(F.STR_STAT_STATE, 3)] with str.swx := { present := true } }, 2, by decide +kernel⟩,
   ⟨{ wit [] with str := { line0 := { present := true } }, now := 155200 }, 0, by decide +kernel⟩,
   ⟨{ wit [(F.STR_HOLD_TMO_TMO, 1)] with
      str := { line0 := { present := true } }, now := 155200 }, 0, by decide +kernel⟩,
   ⟨{ wit [] with now := 155200 }, 1, by decide +kernel⟩,
   ⟨{ wit [(F.STR_STAT_STATE, 0)] with str.swx := { present := true } }, by decide +kernel⟩⟩

theorem witness_StirrupHold_2 :
    (∃ (s : State), s.rd F.STR_STAT_STATE = 1 ∧ s.str.holdTimer = true ∧ rcPast s s.str.holdAt (1000 * s.rd F.STR_HOLD_TMO_TMO)
      = true) ∧
    (∃ (s : State), (s.str.partnerTimer = false ∨ rcPast s s.str.partnerAt (1000 * max 1 (s.rd F.STR_PARTNER_TMO_TMO)) =
      false)) ∧
    (∃ (s : State), s.str.partnerTimer = true ∧ rcPast s s.str.partnerAt (1000 * max 1 (s.rd F.STR_PARTNER_TMO_TMO)) = true) ∧
    (∃ (s : State), (s.str.reclaimTimer = false ∨ rcPast s s.str.reclaimAt (1000 * max 1 (s.rd F.STR_RECLAIM_TMO_TMO)) =
      false)) ∧
    (∃ (s : State), s.str.reclaimTimer = true ∧ rcPast s s.str.reclaimAt (1000 * max 1 (s.rd F.STR_RECLAIM_TMO_TMO)) = true ∧
      s.rd F.STR_STAT_STATE = 1) ∧
    (∃ (s : State), s.str.reclaimTimer = true ∧ rcPast s s.str.reclaimAt (1000 * max 1 (s.rd F.STR_RECLAIM_TMO_TMO)) = true ∧
      s.rd F.STR_STAT_STATE = 2) ∧
    (∃ (s : State) (r : Req) (m : BitVec 24) (d : BitVec 32) (c : Instr), (c = .strRelLs r m ∨ c = .strRelDio r d) ∧
      r.supOrStitch = false) ∧
    (∃ (s : State) (r : Req) (m : BitVec 24) (d : BitVec 32) (c : Instr), (c = .strRelLs r m ∨ c = .strRelDio r d) ∧
      r.supOrStitch = true ∧ (s.mode = mQUARANTINE ∨ s.rd F.STR_STAT_STATE = 3 ∨ strAllPresent s = false)) ∧
    (∃ (s : State) (r : Req) (m : BitVec 24) (d : BitVec 32) (c : Instr), (c = .strRelLs r m ∨ c = .strRelDio r d) ∧
      r.supOrStitch = true ∧ s.mode ≠ mQUARANTINE ∧ s.rd F.STR_STAT_STATE = 0 ∧ strAllPresent s = true) ∧
    (∃ (s : State) (r : Req) (m : BitVec 24), r.supOrStitch = true ∧ s.mode ≠ mQUARANTINE ∧ (s.rd F.STR_STAT_STATE = 1 ∨ s.rd
      F.STR_STAT_STATE = 2) ∧ strAllPresent s = true) ∧
    (∃ (s : State) (r : Req) (m : BitVec 32), r.supOrStitch = true ∧ s.mode ≠ mQUARANTINE ∧ (s.rd F.STR_STAT_STATE = 1 ∨ s.rd
      F.STR_STAT_STATE = 2) ∧ strAllPresent s = true) :=
  ⟨⟨{ wit [(F.STR_STAT_STATE, 1)] with str.holdTimer := true }, by decide +kernel⟩,
   ⟨{ wit [(F.STR_STAT_STATE, 3)] with
      str.swx := { present := true }, str.partnerTimer := false }, by decide +kernel⟩,
   ⟨{ wit [(F.STR_PARTNER_TMO_TMO, 1)] with
      str := { partnerTimer := true }, now := 77600 }, by decide +kernel⟩,
   ⟨{ wit [(F.STR_STAT_STATE, 3)] with
      str.swx := { present := true }, str.reclaimTimer := false }, by decide +kernel⟩,
   ⟨{ wit [(F.STR_RECLAIM_TMO_TMO, 1), (F.STR_STAT_STATE, 1)] with
      str := { reclaimTimer := true }, now := 77600 }, by decide +kernel⟩,
   ⟨{ wit [(F.STR_RECLAIM_TMO_TMO, 1), (F.STR_STAT_STATE, 2)] with
      str := { reclaimTimer := true }, now := 77600 }, by decide +kernel⟩,
   ⟨wit [], (.plot 7), 0, 0, .strRelLs ((.plot 7)) 0, by decide +kernel⟩,
   ⟨wit [(F.GIRTH_MODE_MODE, mQUARANTINE)], .supervisor, 0, 0, .strRelLs .supervisor 0, by decide +kernel⟩,
   ⟨{ wit [] with str := { line0 := { present := true } } }, .supervisor, 0, 0, .strRelDio .supervisor 0, .inr rfl,
    by decide +kernel⟩,
   ⟨{ wit [(F.GIRTH_MODE_MODE, mRUN), (F.STR_STAT_STATE, 1)] with
      str.line0 := { present := true }, str.line1 := { present := true }, str.swx := { present := true } }, .supervisor, 0,
        by decide +kernel⟩,
   ⟨{ wit [(F.GIRTH_MODE_MODE, mRUN), (F.STR_STAT_STATE, 1)] with
      str.line0 := { present := true }, str.line1 := { present := true }, str.swx := { present := true } }, .supervisor, 0,
        by decide +kernel⟩⟩

theorem witness_FieldIo :
    (∃ (s : State) (n : Fin 32) (b : Bool), (dioInputs s = false ∨ s.rdB (F.DIO_STAT_RAW n) = b)) ∧
    (∃ (s : State) (n : Fin 32) (b : Bool), dioInputs s = true ∧ s.rdB (F.DIO_STAT_RAW n) ≠ b ∧ s.rdB (F.DIO_STAT_LEVEL n) ≠ b
      ∧ (s.dioCh n).mark = none) ∧
    (∃ (s : State) (n : Fin 32), ((s.dioCh n).mark = none ∨ dioInputs s = false ∨ s.now < (s.dioCh n).rawAt + 80 * max 1 (s.rd
      (F.DIO_DEB_DEB n)))) ∧
    (∃ (s : State) (n : Fin 32) (st : Stamp), (s.dioCh n).mark = some st ∧ dioInputs s = true ∧ (s.dioCh n).rawAt + 80 * max 1
      (s.rd (F.DIO_DEB_DEB n)) ≤ s.now ∧ s.rdB (F.DIO_STAT_RAW n) = s.rdB (F.DIO_STAT_LEVEL n)) ∧
    (∃ (s : State) (n : Fin 32) (st : Stamp), (s.dioCh n).mark = some st ∧ dioInputs s = true ∧ (s.dioCh n).rawAt + 80 * max 1
      (s.rd (F.DIO_DEB_DEB n)) ≤ s.now ∧ s.rdB (F.DIO_STAT_RAW n) ≠ s.rdB (F.DIO_STAT_LEVEL n) ∧ s.rd (F.DIO_FLT_WIRE_BREAK n)
      = 0) ∧
    (∃ (s : State) (n : Fin 32), (dioInputs s = false ∨ s.rd (F.DIO_CFG_DIR n) = 1 ∨ s.rd (F.DIO_CFG_WB_EN n) = 0)) ∧
    (∃ (s : State) (n : Fin 32), dioInputs s = true ∧ s.rd (F.DIO_CFG_DIR n) = 0 ∧ s.rd (F.DIO_CFG_WB_EN n) = 1 ∧ s.rd
      (F.DIO_FLT_WIRE_BREAK n) = 0) ∧
    (∃ (s : State) (n : Fin 32), s.rd (F.DIO_FLT_WIRE_BREAK n) = 1) ∧
    (∃ (s : State) (n : Fin 32), s.rd (F.DIO_FLT_WIRE_BREAK n) = 0) ∧
    (∃ (s : State) (r : Req) (n : Fin 32) (b : Bool) (c : Instr), windowDead s (F.DIO_REQ_ON n).addr = false ∧ (c = .dioReqOn r
      n b ∨ c = .dioClear r n) ∧ r.forPlot (dioOwner s n) = false) :=
  ⟨⟨wit [(F.GIRTH_MODE_MODE, mDORMANCY)], 31, false, by decide +kernel⟩,
   ⟨wit [(F.GIRTH_MODE_MODE, mRUN)], 31, true, by decide +kernel⟩,
   ⟨wit [(F.GIRTH_MODE_MODE, mDORMANCY)], 31, by decide +kernel⟩,
   ⟨{ wit [(F.GIRTH_MODE_MODE, mRUN), (F.DIO_DEB_DEB 31, 1)] with
      dio := [(31, { mark := some {} })], now := 80 }, 31, {}, by decide +kernel⟩,
   ⟨{ wit [(F.GIRTH_MODE_MODE, mRUN), (F.DIO_DEB_DEB 31, 1), (F.DIO_STAT_RAW 31, 1)] with
      dio := [(31, { mark := some {} })], now := 80 }, 31, {}, by decide +kernel⟩,
   ⟨wit [(F.GIRTH_MODE_MODE, mDORMANCY)], 31, by decide +kernel⟩,
   ⟨{ wit [(F.GIRTH_MODE_MODE, mRUN), (F.DIO_FLT_WIRE_BREAK 31, 0), (F.DIO_STAT_RAW 31, 1), (F.DIO_CFG_DIR 31, 0),
    (F.DIO_CFG_WB_EN 31, 1)] with
      dio := [(31, { mark := some {} })] }, 31, by decide +kernel⟩,
   ⟨wit [(F.DIO_FLT_WIRE_BREAK 31, 1)], 31, by decide +kernel⟩,
   ⟨wit [(F.DIO_FLT_WIRE_BREAK 31, 0)], 31, by decide +kernel⟩,
   ⟨up [], .supervisor, 31, false, .dioReqOn .supervisor 31 false, by decide +kernel⟩⟩

theorem witness_FieldIo_2 :
    (∃ (s : State) (r : Req) (n : Fin 32) (b : Bool) (c : Instr), windowDead s (F.DIO_REQ_ON n).addr = false ∧ (c = .dioReqOn r
      n b ∨ c = .dioClear r n) ∧ r.forPlot (dioOwner s n) = true ∧ s.rd (F.DIO_STAT_MEMBER n) = 1) ∧
    (∃ (s : State) (r : Req) (n : Fin 32), windowDead s (F.DIO_REQ_ON n).addr = false ∧ r.forPlot (dioOwner s n) = true ∧
      s.mode = mSERVICE) ∧
    (∃ (s : State) (r : Req) (n : Fin 32) (b : Bool), windowDead s (F.DIO_REQ_ON n).addr = false ∧ r.forPlot (dioOwner s n) =
      true ∧ s.hwHas (F.DIO_REQ_ON n) = false ∧ s.trl.actOn.find? (32 + n) ≠ some s.now ∧ s.rd (F.DIO_STAT_MEMBER n) = 0 ∧
      s.mode ≠ mSERVICE ∧ s.rd (F.DIO_CFG_PAR n) = 0 ∧ s.rd (F.DIO_CFG_DIR n) = 1 ∧ s.rd (F.DIO_CFG_FCL_EN n) = 0 ∧ (dioState s
      n = 0 ∨ dioState s n = 1) ∧ dioOverride s n = none ∧ s.girth.ownDio.getLsbD n = true ∧ (s.dioCh n).overFcl = none ∧
      (s.dioCh n).service = false) ∧
    (∃ (s : State) (r : Req) (n : Fin 32), windowDead s (F.DIO_REQ_ON n).addr = false ∧ r.forPlot (dioOwner s n) = true ∧ s.rd
      (F.DIO_STAT_MEMBER n) = 0 ∧ s.rd (F.DIO_CFG_PAR n) = 0 ∧ s.rd (F.DIO_CFG_DIR n) = 1 ∧ dioState s n = 3 ∧ s.rd
      (F.DIO_REQ_ON n) = 0 ∧ s.rd (F.DIO_CFG_FCL_EN n) = 0 ∧ (s.dioCh n).overFcl = none ∧ (s.dioCh n).service = false ∧
      dioOverride s n = none) ∧
    (∃ (s : State) (n : Fin 32) (c : Instr) (k : Nat), (c = .dioLimit n ∧ k = 0 ∨ c = .dioTherm n ∧ k = 1) ∧ dioConducts
      (dioState s n) = true ∧ s.rd (F.DIO_STAT_MEMBER n) = 0 ∧ s.rd (F.DIO_CFG_PAR n) = 0) ∧
    (∃ (s : State) (n : Fin 32), (dioState s n ≠ 2 ∨ strControlsDio s n = true ∨ s.now < (s.dioCh n).cutAt + 8000000)) ∧
    (∃ (s : State) (n : Fin 32), dioState s n = 2 ∧ strControlsDio s n = false ∧ (s.dioCh n).cutAt + 8000000 ≤ s.now ∧ s.rd
      (F.DIO_CFG_RETRY (dioLead s n)) ≤ s.rd (F.DIO_STAT_RETRIES n)) ∧
    (∃ (s : State) (n : Fin 32), dioState s n = 2 ∧ strControlsDio s n = false ∧ (s.dioCh n).cutAt + 8000000 ≤ s.now ∧ s.rd
      (F.DIO_STAT_MEMBER n) = 0 ∧ s.rd (F.DIO_CFG_PAR n) = 0 ∧ s.rd (F.DIO_STAT_RETRIES n) < s.rd (F.DIO_CFG_RETRY n)) ∧
    (∃ (s : State) (n : Fin 32), s.rd (F.DIO_CFG_DIR n) = 1 ∧ s.mode ≠ mDORMANCY ∧ dioConducts (dioState s n) = false) ∧
    (∃ (s : State) (n : Fin 32), s.rd (F.DIO_CFG_DIR n) = 1 ∧ s.mode ≠ mDORMANCY ∧ dioConducts (dioState s n) = true ∧ s.rd
      (F.DIO_STAT_LIMITING n) = 0) :=
  ⟨⟨up [(F.PC_DIO_OWN_OWNER (31 / 8) (31 % 8), 7), (F.DIO_STAT_MEMBER 31, 1)], (.plot 7), 31, false, .dioReqOn ((.plot 7)) 31
    false, by decide +kernel⟩,
   ⟨up [(F.PC_DIO_OWN_OWNER (31 / 8) (31 % 8), 7), (F.GIRTH_MODE_MODE, mSERVICE)], (.plot 7), 31, by decide +kernel⟩,
   ⟨{ up [(F.PC_DIO_OWN_OWNER (31 / 8) (31 % 8), 7), (F.DIO_STAT_MEMBER 31, 0), (F.GIRTH_MODE_MODE, mRUN), (F.DIO_CFG_PAR 31,
    0), (F.DIO_CFG_DIR 31, 1), (F.DIO_CFG_FCL_EN 31, 0), (F.DIO_STAT_STATE 31, 0), (F.STR_STAT_STATE, 0)] with
      girth.ownDio := 0x80000000 }, (.plot 7), 31, true, by decide +kernel⟩,
   ⟨up [(F.PC_DIO_OWN_OWNER (31 / 8) (31 % 8), 7), (F.DIO_STAT_MEMBER 31, 0), (F.DIO_CFG_PAR 31, 0), (F.DIO_CFG_DIR 31, 1),
    (F.DIO_STAT_STATE 31, 3), (F.DIO_REQ_ON 31, 0), (F.DIO_CFG_FCL_EN 31, 0), (F.STR_STAT_STATE, 0), (F.GIRTH_MODE_MODE,
    mRUN)], (.plot 7), 31, by decide +kernel⟩,
   ⟨wit [(F.DIO_STAT_MEMBER 31, 0), (F.DIO_CFG_PAR 31, 0), (F.DIO_STAT_STATE 31, 1)], 31, .dioLimit 31, 0, by decide +kernel⟩,
   ⟨wit [(F.GIRTH_MODE_MODE, mDORMANCY)], 31, by decide +kernel⟩,
   ⟨{ wit [(F.DIO_STAT_STATE 31, 2), (F.DIO_CFG_RETRY 31, 1), (F.DIO_STAT_RETRIES 31, 1)] with
      now := 8000000 }, 31, by decide +kernel⟩,
   ⟨{ wit [(F.DIO_STAT_STATE 31, 2), (F.DIO_CFG_RETRY 31, 1)] with
      now := 8000000 }, 31, by decide +kernel⟩,
   ⟨wit [(F.DIO_CFG_DIR 31, 1), (F.GIRTH_MODE_MODE, mRUN)], 31, by decide +kernel⟩,
   ⟨wit [(F.DIO_CFG_DIR 31, 1), (F.GIRTH_MODE_MODE, mRUN), (F.DIO_STAT_LIMITING 31, 0), (F.DIO_STAT_STATE 31, 1)], 31,
    by decide +kernel⟩⟩

theorem witness_FieldIo_3 :
    (∃ (s : State) (n : Fin 32), s.rd (F.DIO_CFG_OL_EN (dioLead s n)) = 1 ∧ dioConducts (dioState s n) = true) ∧
    (∃ (s : State) (r : Req) (n : Fin 32) (d : BitVec 16), windowDead s F.DIO_SVC_CH.addr = false ∧ r.supOrStitch = false) ∧
    (∃ (s : State) (r : Req) (n : Fin 32) (d : BitVec 16), windowDead s F.DIO_SVC_CH.addr = false ∧ r.supOrStitch = true ∧
      (s.mode ≠ mSERVICE ∨ s.rd (F.DIO_STAT_MEMBER n) = 1)) ∧
    (∃ (s : State) (r : Req) (n : Fin 32) (d : BitVec 16), windowDead s F.DIO_SVC_CH.addr = false ∧ r.supOrStitch = true ∧
      s.mode = mSERVICE ∧ s.rd (F.DIO_STAT_MEMBER n) = 0 ∧ (d.toNat = 0 ∨ 600 < d.toNat)) ∧
    (∃ (s : State) (r : Req) (n : Fin 32) (d : BitVec 16), windowDead s F.DIO_SVC_CH.addr = false ∧ r.supOrStitch = true ∧
      s.mode = mSERVICE ∧ s.rd (F.DIO_STAT_MEMBER n) = 0 ∧ 1 ≤ d.toNat ∧ d.toNat ≤ 600 ∧ s.rd (F.DIO_CFG_PAR n) = 0) ∧
    (∃ (s : State) (n : Fin 32), (s.dioCh n).service = true ∧ (s.dioCh n).svcEnd ≤ s.now ∧ s.rd (F.DIO_CFG_PAR n) = 0) ∧
    (∃ (s : State) (n : Fin 32), ((s.dioCh n).service = false ∨ s.now < (s.dioCh n).svcEnd)) ∧
    (∃ (s : State) (l : Fin 8), (∀ n, n < 32 → s.rd (F.DIO_CFG_FCL_EN n) = 0)) ∧
    (∃ (s : State) (l : Fin 8) (n : Fin 32), s.rd (F.DIO_CFG_FCL_EN n) = 1 ∧ s.rd (F.DIO_CFG_FCL n) = l.val) ∧
    (∃ (s : State) (n : Fin 32), windowDead s (F.DIO_EDGE_CYC_CYC n).addr = false) :=
  ⟨⟨wit [(F.DIO_CFG_OL_EN 31, 1), (F.DIO_STAT_STATE 31, 1)], 31, by decide +kernel⟩,
   ⟨up [], (.plot 7), 0, 0, by decide +kernel⟩,
   ⟨up [(F.GIRTH_MODE_MODE, mDORMANCY)], .supervisor, 31, 0, by decide +kernel⟩,
   ⟨up [(F.DIO_STAT_MEMBER 31, 0), (F.DIO_CFG_PAR 31, 0), (F.DIO_STAT_STATE 31, 1), (F.GIRTH_MODE_MODE, mSERVICE)],
    .supervisor, 31, 0, by decide +kernel⟩,
   ⟨up [(F.GIRTH_MODE_MODE, mSERVICE), (F.DIO_CFG_PAR 31, 0), (F.DIO_STAT_MEMBER 31, 0)], .supervisor, 31, 600,
    by decide +kernel⟩,
   ⟨{ wit [(F.DIO_CFG_PAR 31, 0)] with
      dio := [(31, { service := true })] }, 31, by decide +kernel⟩,
   ⟨wit [(F.GIRTH_MODE_MODE, mDORMANCY)], 31, by decide +kernel⟩,
   ⟨wit [], 0, by decide +kernel⟩,
   ⟨wit [(F.GIRTH_MODE_MODE, mDORMANCY), (F.DIO_CFG_FCL_EN 31, 1), (F.DIO_CFG_FCL 31, 0)], 0, 31, by decide +kernel⟩,
   ⟨up [(F.GIRTH_MODE_MODE, mDORMANCY)], 31, by decide +kernel⟩⟩

theorem witness_CanBuffers :
    (∃ (s : State) (r : Req) (i : Fin 8) (b : Fin 64) (c : Instr), windowDead s (0x20A20008 + 0x2000 * i + 0x80 * b) = false ∧
      (c = .canTxbReq r i b ∨ c = .canTxbAbort r i b) ∧ bufAllowed s r i b = false) ∧
    (∃ (s : State) (r : Req) (i : Fin 8) (b : Fin 64), windowDead s (0x20A20008 + 0x2000 * i + 0x80 * b) = false ∧ bufAllowed s
      r i b = true ∧ bufBusy (bufState s i b) = true) ∧
    (∃ (s : State) (r : Req) (i : Fin 8) (b : Fin 64), windowDead s (0x20A20008 + 0x2000 * i + 0x80 * b) = false ∧ bufAllowed s
      r i b = true ∧ bufBusy (bufState s i b) = false ∧ (bufFrame s i b).fdf = true ∧ s.rd (F.CAN_CTL_FD_EN i) = 0) ∧
    (∃ (s : State) (r : Req) (i : Fin 8) (b : Fin 64), windowDead s (0x20A20008 + 0x2000 * i + 0x80 * b) = false ∧ bufAllowed s
      r i b = true ∧ bufBusy (bufState s i b) = false ∧ (bufFrame s i b).fdf = false ∧ (bufFrame s i b).brs = false) ∧
    (∃ (s : State) (r : Req) (i : Fin 8) (b : Fin 64), windowDead s (0x20A20008 + 0x2000 * i + 0x80 * b) = false ∧ bufAllowed s
      r i b = true ∧ bufState s i b = 3) ∧
    (∃ (s : State) (r : Req) (i : Fin 8) (b : Fin 64), windowDead s (0x20A20008 + 0x2000 * i + 0x80 * b) = false ∧ bufAllowed s
      r i b = true ∧ (bufState s i b = 1 ∨ bufState s i b = 2 ∨ bufState s i b = 6) ∧ (s.canSt i).sys.get b [] = []) ∧
    (∃ (s : State) (i : Fin 8) (b : Fin 64), canSends s i = false) :=
  ⟨⟨up [], .supervisor, 7, 63, .canTxbReq .supervisor 7 63, by decide +kernel⟩,
   ⟨up [(F.CAN_PTX_TXBASE 7 7, 56), (F.CAN_PTX_TXCOUNT 7 7, 8), (F.CAN_TXB_STAT_STATE 7 63, 1)], (.plot 7), 7, 63,
    by decide +kernel⟩,
   ⟨up [(F.CAN_CTL_FD_EN 7, 0), (F.CAN_PTX_TXBASE 7 7, 56), (F.CAN_PTX_TXCOUNT 7 7, 8), (F.CAN_TXB_CTL_FDF 7 63, 1)], (.plot
    7), 7, 63, by decide +kernel⟩,
   ⟨up [(F.CAN_PTX_TXBASE 7 7, 56), (F.CAN_PTX_TXCOUNT 7 7, 8)], (.plot 7), 7, 63, by decide +kernel⟩,
   ⟨up [(F.CAN_TXB_STAT_STATE 7 63, 3), (F.CAN_PTX_TXBASE 7 7, 56), (F.CAN_PTX_TXCOUNT 7 7, 8)], (.plot 7), 7, 63,
    by decide +kernel⟩,
   ⟨up [(F.CAN_TXB_STAT_STATE 7 63, 1), (F.CAN_PTX_TXBASE 7 7, 56), (F.CAN_PTX_TXCOUNT 7 7, 8), (F.CAN_TXB_STAT_STATE 7 63,
    1)], (.plot 7), 7, 63, by decide +kernel⟩,
   ⟨wit [], 7, 0, by decide +kernel⟩⟩

theorem witness_CanBuffers_2 :
    (∃ (s : State) (i : Fin 8) (b : Fin 64), canSends s i = true ∧ canActive s i = none ∧ canOffer s i = some b.val ∧ b.val < 8
      ∧ (canBuf s i b).effect = none) ∧
    (∃ (s : State) (i : Fin 8) (b : Fin 64) (a : CanAttempt), a ≠ .start ∧ bufState s i b ≠ 3) ∧
    (∃ (s : State) (i : Fin 8) (b : Fin 64) (a : CanAttempt) (f : Field), (a = .lost ∧ f = F.CAN_TXB_STAT_LOST_ARB i b ∨ a =
      .error ∧ f = F.CAN_TXB_STAT_ERR i b) ∧ bufState s i b = 3) ∧
    (∃ (s : State) (i : Fin 8) (b : Fin 64) (back : Nat) (loop : BitVec 8) (tdc : BitVec 7), bufState s i b = 3) ∧
    (∃ (s : State) (i : Fin 8) (b : Fin 64), (bufState s i b ≠ 1 ∨ ttDue s i b = false ∨ s.rd (F.CAN_TXB_CTL_TT_ABORT i b) =
      0)) ∧
    (∃ (s : State) (i : Fin 8) (b : Fin 64) (e : Nat), bufState s i b = 1 ∧ (canBuf s i b).effect = some e ∧ e + bitTicks s i *
      max 1 (s.rd (F.CAN_TXB_CTL_TT_WIN i b)) ≤ s.now ∧ s.rd (F.CAN_TXB_CTL_TT_ABORT i b) = 1 ∧ (s.canSt i).sys.get b [] = []) ∧
    (∃ (s : State) (r : Req) (i : Fin 8), windowDead s (F.CAN_CMD_CMD i).addr = false ∧ r ≠ .supervisor) ∧
    (∃ (s : State) (i : Fin 8) (b : Fin 64), windowDead s (F.CAN_CMD_CMD i).addr = false ∧ 8 ≤ b.val ∧ (bufState s i b = 1 ∨
      bufState s i b = 2 ∨ bufState s i b = 6) ∧ (s.canSt i).sys.get b [] = []) :=
  ⟨⟨wit [(F.GIRTH_MODE_MODE, mRUN), (F.CAN_CTL_MODE 7, 3), (F.CAN_STAT_SYNCED 7, 1), (F.CAN_TXB_STAT_STATE 7 7, 1)], 7, 7,
    by decide +kernel⟩,
   ⟨wit [], 7, 63, .lost, by decide +kernel⟩,
   ⟨wit [(F.CAN_TXB_STAT_STATE 7 63, 3)], 7, 63, .lost, F.CAN_TXB_STAT_LOST_ARB 7 63, by decide +kernel⟩,
   ⟨wit [(F.CAN_TXB_STAT_STATE 7 63, 3)], 7, 63, 0, 0, 0, by decide +kernel⟩,
   ⟨wit [], 7, 63, by decide +kernel⟩,
   ⟨{ wit [(F.CAN_TXB_STAT_STATE 7 63, 1), (F.CAN_TXB_CTL_TT_ABORT 7 63, 1)] with
      can := [(7, { bufs := [(63, { effect := some 0 })] })], now := 10000000 }, 7, 63, 0, by decide +kernel⟩,
   ⟨up [], (.plot 7), 0, by decide +kernel⟩,
   ⟨up [(F.CAN_TXB_STAT_STATE 7 63, 1), (F.CAN_PTX_TXBASE 7 7, 56), (F.CAN_PTX_TXCOUNT 7 7, 8), (F.CAN_TXB_STAT_STATE 7 63,
    1)], 7, 63, by decide +kernel⟩⟩

theorem witness_CanBus :
    (∃ (s : State) (i : Fin 8) (f : CanFrame) (k : Nat) (x : BitVec 4), canHears s i = false) ∧
    (∃ (s : State) (i : Fin 8) (f : CanFrame) (k : Nat) (x : BitVec 4), canHears s i = true ∧ s.rd (F.CAN_ECNT_REC i) = 0 ∧
      s.rd (F.PAIR_GW_STAT_ACTIVE (i / 2)) = 0 ∧ isMirror s i f = false ∧ (∀ e, e < 16 → elemMatch s i f e = false) ∧ (∀ p, p <
      8 → s.rd (F.CAN_PFLT_FCOUNT i p) = 0)) ∧
    (∃ (s : State) (i : Fin 8) (f : CanFrame) (st : Stamp) (p : Fin 8) (e : Nat), s.rd (F.CAN_PFLT_FCOUNT i p) = 1 ∧ s.rd
      (F.CAN_PFLT_FBASE i p) = e ∧ elemMatch s i f e = true ∧ s.rd (F.CAN_FE_CFG_REJECT i e) = 0 ∧ e < 128 ∧ plotResetting s
      (s.rd (F.Q_OWN_CONS (s.rd (F.CAN_FE_CFG_QUEUE i e)))) = false ∧ hwRoom s (s.rd (F.CAN_FE_CFG_QUEUE i e)) (rxPacket i e f
      st).length = true) ∧
    (∃ (s : State) (i : Fin 8) (e : CanErr) (tx : Bool) (h : Bool), canHears s i = false) ∧
    (∃ (s : State) (i : Fin 8) (tx : Bool) (h : Bool), canHears s i = true ∧ s.rd (F.CAN_CTL_PXD i) = 0) ∧
    (∃ (s : State) (i : Fin 8) (tx : Bool) (h : Bool), canHears s i = true) ∧
    (∃ (s : State) (i : Fin 8) (h : Bool), canMode s i = 3 ∧ s.rd (F.CAN_STAT_STATE i) < 2 ∧ 248 ≤ s.rd (F.CAN_ECNT_TEC i)) ∧
    (∃ (s : State) (r : Req) (i : Fin 8), windowDead s (F.CAN_CMD_CMD i).addr = false ∧ r.supOrStitch = false) ∧
    (∃ (s : State) (r : Req) (i : Fin 8), windowDead s (F.CAN_CMD_CMD i).addr = false ∧ r.supOrStitch = true ∧ s.rd
      (F.CAN_STAT_STATE i) ≠ 2) ∧
    (∃ (s : State) (r : Req) (i : Fin 8), windowDead s (F.CAN_CMD_CMD i).addr = false ∧ r.supOrStitch = true ∧ s.rd
      (F.CAN_STAT_STATE i) = 2) :=
  ⟨⟨wit [], 7, {}, 0, 0, by decide +kernel⟩,
   ⟨wit [(F.CAN_STAT_SYNCED 7, 1), (F.CAN_ECNT_REC 7, 0), (F.PAIR_GW_STAT_ACTIVE (7 / 2), 0), (F.GIRTH_MODE_MODE, mRUN),
    (F.CAN_CTL_MODE 7, 3), (F.CAN_STAT_SYNCED 7, 1), (F.POM_CAN_CTRL, 0)], 7, {}, 0, 0, by decide +kernel⟩,
   ⟨wit [(F.CAN_PFLT_FCOUNT 7 7, 1), (F.CAN_FE_CFG_REJECT 7 127, 0), (F.CAN_PFLT_FBASE 7 7, 127), (F.CAN_FE_ID_EN 7 127, 1),
    (F.CAN_FE_CFG_QUEUE 7 127, 63), (F.Q_OWN_PROD 63, 7), (F.Q_CFG_SIZE 63, 4), (F.Q_CFG_EN 63, 1)], 7, {}, {}, 7, 127,
    by decide +kernel⟩,
   ⟨wit [], 7, .ack, true, true, by decide +kernel⟩,
   ⟨wit [(F.CAN_CTL_PXD 7, 0), (F.GIRTH_MODE_MODE, mRUN), (F.CAN_CTL_MODE 7, 3), (F.CAN_STAT_SYNCED 7, 1)], 7, true, true,
    by decide +kernel⟩,
   ⟨wit [(F.CAN_STAT_SYNCED 7, 1), (F.CAN_ECNT_REC 7, 0), (F.PAIR_GW_STAT_ACTIVE (7 / 2), 0), (F.GIRTH_MODE_MODE, mRUN),
    (F.CAN_CTL_MODE 7, 3), (F.CAN_STAT_SYNCED 7, 1), (F.POM_CAN_CTRL, 0)], 7, true, true, by decide +kernel⟩,
   ⟨wit [(F.GIRTH_MODE_MODE, mRUN), (F.CAN_CTL_MODE 7, 3), (F.CAN_STAT_SYNCED 7, 1), (F.CAN_ECNT_TEC 7, 255)], 7, true,
    by decide +kernel⟩,
   ⟨up [], (.plot 7), 0, by decide +kernel⟩,
   ⟨up [], .supervisor, 7, by decide +kernel⟩,
   ⟨up [(F.CAN_STAT_STATE 7, 2)], .supervisor, 7, by decide +kernel⟩⟩

theorem witness_CanBus_2 :
    (∃ (s : State) (i : Fin 8), recoveryRun s i = false) ∧
    (∃ (s : State) (i : Fin 8), recoveryRun s i = true) ∧
    (∃ (s : State) (i : Fin 8) (e : DomEvent), (windowDead s (F.CAN_STAT_BUS_DOM i).addr = true ∨ canXcvr s i = 3)) ∧
    (∃ (s : State) (i : Fin 8), windowDead s (F.CAN_STAT_BUS_DOM i).addr = false ∧ canXcvr s i = 0) ∧
    (∃ (s : State) (i : Fin 8), windowDead s (F.CAN_STAT_BUS_DOM i).addr = false ∧ canXcvr s i ≠ 3 ∧ s.rd (F.CAN_STAT_BUS_DOM
      i) = 0) ∧
    (∃ (s : State) (i : Fin 8), windowDead s (F.CAN_STAT_BUS_DOM i).addr = false ∧ canXcvr s i ≠ 3) ∧
    (∃ (s : State) (i : Fin 8), canMode s i = 0) ∧
    (∃ (s : State) (i : Fin 8), canMode s i ≠ 0) ∧
    (∃ (s : State) (i : Fin 8) (e : SwkEvent) (ok : Bool), (s.mode ≠ mDORMANCY ∨ dormRd s (F.CAN_SWK_CFG_EN i) = 0)) ∧
    (∃ (s : State) (i : Fin 8) (ok : Bool), s.mode = mDORMANCY ∧ dormRd s (F.CAN_SWK_CFG_EN i) ≠ 0 ∧ s.rd (F.CAN_SWK_CFG_ERRCNT
      i) < 31) :=
  ⟨⟨wit [], 7, by decide +kernel⟩,
   ⟨{ wit [(F.GIRTH_MODE_MODE, mRUN), (F.CAN_STAT_STATE 7, 3), (F.CAN_CTL_MODE 7, 3)] with
      now := 10000000 }, 7, by decide +kernel⟩,
   ⟨wit [], 7, .bus, by decide +kernel⟩,
   ⟨up [(F.CAN_STAT_SYNCED 7, 1), (F.CAN_ECNT_REC 7, 0), (F.PAIR_GW_STAT_ACTIVE (7 / 2), 0), (F.GIRTH_MODE_MODE, mRUN),
    (F.CAN_CTL_MODE 7, 3), (F.CAN_STAT_SYNCED 7, 1), (F.POM_CAN_CTRL, 0)], 7, by decide +kernel⟩,
   ⟨up [(F.CAN_STAT_BUS_DOM 7, 0)], 7, by decide +kernel⟩,
   ⟨up [], 7, by decide +kernel⟩,
   ⟨wit [], 7, by decide +kernel⟩,
   ⟨wit [(F.GIRTH_MODE_MODE, mRUN), (F.CAN_CTL_MODE 7, 3), (F.CAN_STAT_SYNCED 7, 1)], 7, by decide +kernel⟩,
   ⟨wit [], 7, .badFrame, true, by decide +kernel⟩,
   ⟨wit [(F.GIRTH_MODE_MODE, mDORMANCY), (F.CAN_SWK_CFG_EN 7, 1)], 7, true, by decide +kernel⟩⟩

theorem witness_NetworkSleep :
    (∃ (s : State) (f : CanFrame) (k : Nat) (c : Instr), (c = .tokenRx f ∨ c = .commitRx ⟨f, k⟩ ∨ c = .abortRx f ∨ c = .wakeRx
      f) ∧ nsHears s f = false) ∧
    (∃ (s : State) (f : CanFrame) (k : Nat) (c : Instr), (c = .tokenRx f ∨ c = .commitRx ⟨f, k⟩ ∨ c = .abortRx f ∨ c = .wakeRx
      f) ∧ nsHears s f = true ∧ nsForm s f = false) ∧
    (∃ (s : State), (nsState s ≠ 1 ∨ s.rd F.NS_CTL_INIT = 0 ∨ s.rd F.NS_CTL_EN = 0 ∨ nsLocal s = false ∨ retryDue s = false)) ∧
    (∃ (s : State), nsState s = 1 ∧ s.rd F.NS_CTL_INIT = 1 ∧ s.rd F.NS_CTL_EN = 1 ∧ nsLocal s = true ∧ retryDue s = true) ∧
    (∃ (s : State) (f : CanFrame), nsHears s f = true ∧ nsForm s f = true ∧ nsType f = nsTOKEN ∧ nsRing f = s.rd F.NS_RING_RING
      ∧ nsState s = 1 ∧ s.rd F.NS_CTL_INIT = 0 ∧ nsDst f = s.rd F.NS_CTL_NODE ∧ nsLocal s = true) ∧
    (∃ (s : State) (f : CanFrame), nsHears s f = true ∧ nsForm s f = true ∧ nsType f = nsTOKEN ∧ nsRing f = s.rd F.NS_RING_RING
      ∧ nsState s = 1 ∧ s.rd F.NS_CTL_INIT = 0 ∧ nsDst f = s.rd F.NS_CTL_NODE ∧ nsLocal s = false) ∧
    (∃ (s : State) (f : CanFrame) (k : Nat), nsHears s f = true ∧ nsForm s f = true ∧ nsType f = nsCOMMIT ∧ nsRing f = s.rd
      F.NS_RING_RING ∧ nsState s = 2 ∧ nsRound f = s.rd F.NS_STAT_ROUND ∧ s.rd F.NS_CTL_INIT = 0 ∧ s.ns.fwd = true ∧ nsConsent
      f = s.rd F.NS_RING_RING ∧ nsHolds s = true) ∧
    (∃ (s : State) (f : CanFrame), nsHears s f = true ∧ nsForm s f = true ∧ nsType f = nsABORT ∧ nsRing f = s.rd F.NS_RING_RING
      ∧ nsState s = 2 ∧ nsRound f = s.rd F.NS_STAT_ROUND) ∧
    (∃ (s : State) (f : CanFrame), nsHears s f = true ∧ nsForm s f = true ∧ nsType f = nsWAKE ∧ nsRing f = s.rd F.NS_RING_RING
      ∧ nsState s = 3) ∧
    (∃ (s : State), nsState s = 2 ∧ msPast s s.ns.tokAt (max 1 (s.rd F.NS_TIME_ROUND_TMO)) = true) ∧
    (∃ (s : State), (nsState s ≠ 2 ∨ msPast s s.ns.tokAt (max 1 (s.rd F.NS_TIME_ROUND_TMO)) = false)) :=
  ⟨⟨wit [], {}, 0, .tokenRx ({}), by decide +kernel⟩,
   ⟨wit [(F.GIRTH_MODE_MODE, mRUN), (F.NS_CTL_EN, 1), (F.CAN_CTL_MODE 0, 3), (F.NS_CTL_NODE, 15), (F.NS_STAT_ROUND, 15),
    (F.NS_RING_RING, 0xFFFF)], { id := 1775, dlc := 7, data := [31, 15, 15, 0, 0, 0, 0xFF, 0xFF] }, 0, .tokenRx
    ({ id := 1775, dlc := 7, data := [31, 15, 15, 0, 0, 0, 0xFF, 0xFF] }), by decide +kernel⟩,
   ⟨wit [], by decide +kernel⟩,
   ⟨wit [(F.NS_STAT_STATE, 1), (F.NS_CTL_INIT, 1), (F.NS_CTL_EN, 1), (F.GIRTH_MODE_MODE, mRUN)], by decide +kernel⟩,
   ⟨wit [(F.NS_STAT_STATE, 1), (F.NS_CTL_INIT, 0), (F.GIRTH_MODE_MODE, mRUN), (F.NS_CTL_EN, 1), (F.CAN_CTL_MODE 0, 3),
    (F.NS_CTL_NODE, 15), (F.NS_STAT_ROUND, 15), (F.NS_RING_RING, 0xFFFF), (F.DORM_WAKE_EN_TIMER, 1)],
    { id := 1775, dlc := 8, data := [31, 15, 15, 0, 0, 0, 0xFF, 0xFF] }, by decide +kernel⟩,
   ⟨wit [(F.NS_STAT_STATE, 1), (F.NS_CTL_INIT, 0), (F.GIRTH_MODE_MODE, mRUN), (F.NS_CTL_EN, 1), (F.CAN_CTL_MODE 0, 3),
    (F.NS_CTL_NODE, 15), (F.NS_STAT_ROUND, 15), (F.NS_RING_RING, 0xFFFF), (F.NS_REQ_PLOTS_PLOTS, 0x80)],
    { id := 1775, dlc := 8, data := [31, 15, 15, 0, 0, 0, 0xFF, 0xFF] }, by decide +kernel⟩,
   ⟨{ wit [(F.NS_STAT_STATE, 2), (F.NS_CTL_INIT, 0), (F.GIRTH_MODE_MODE, mRUN), (F.NS_CTL_EN, 1), (F.CAN_CTL_MODE 0, 3),
    (F.NS_CTL_NODE, 15), (F.NS_STAT_ROUND, 15), (F.NS_RING_RING, 0xFFFF), (F.DORM_WAKE_EN_TIMER, 1)] with
      ns.fwd := true }, { id := 1775, dlc := 8, data := [47, 15, 255, 0, 255, 255, 0xFF, 0xFF] }, 0, by decide +kernel⟩,
   ⟨wit [(F.NS_STAT_STATE, 2), (F.GIRTH_MODE_MODE, mRUN), (F.NS_CTL_EN, 1), (F.CAN_CTL_MODE 0, 3), (F.NS_CTL_NODE, 15),
    (F.NS_STAT_ROUND, 15), (F.NS_RING_RING, 0xFFFF)], { id := 1775, dlc := 8, data := [143, 15, 255, 0, 0, 0, 0xFF, 0xFF] },
    by decide +kernel⟩,
   ⟨wit [(F.NS_STAT_STATE, 3), (F.GIRTH_MODE_MODE, mRUN), (F.NS_CTL_EN, 1), (F.CAN_CTL_MODE 0, 3), (F.NS_CTL_NODE, 15),
    (F.NS_STAT_ROUND, 15), (F.NS_RING_RING, 0xFFFF)], { id := 1775, dlc := 8, data := [79, 15, 255, 0, 0, 0, 0xFF, 0xFF] },
    by decide +kernel⟩,
   ⟨{ wit [(F.NS_STAT_STATE, 2), (F.NS_TIME_ROUND_TMO, 1)] with
      now := 80000 }, by decide +kernel⟩,
   ⟨wit [], by decide +kernel⟩⟩

theorem witness_NetworkSleep_2 :
    (∃ (s : State), (nsState s ≠ 3 ∨ msPast s s.ns.winAt (s.rd F.NS_TIME_CW) = false)) ∧
    (∃ (s : State), nsState s = 3 ∧ msPast s s.ns.winAt (s.rd F.NS_TIME_CW) = true ∧ dormancyOk (nsTo s 4) = true) ∧
    (∃ (s : State), nsState s = 3 ∧ msPast s s.ns.winAt (s.rd F.NS_TIME_CW) = true ∧ s.girth.spanMember = true ∧
      partnerEntering s = false) ∧
    (∃ (s : State) (ok : Bool) (c : Instr), (c = .wakeLineLow ok ∨ c = .wakeLineHigh) ∧ (s.girth.vin = false ∨ s.mode =
      mQUARANTINE)) ∧
    (∃ (s : State) (ok : Bool), s.girth.vin = true ∧ s.mode = mRUN ∧ nsState s = 1) ∧
    (∃ (s : State), s.girth.vin = true ∧ s.mode ≠ mQUARANTINE ∧ nsState s ≠ 3) ∧
    (∃ (s : State) (r : Req) (c : Instr), windowDead s F.NS_CMD_CMD.addr = false ∧ (c = .pulse r ∨ c = .wakeframe r) ∧
      r.supOrStitch = false) ∧
    (∃ (s : State) (r : Req), windowDead s F.NS_CMD_CMD.addr = false ∧ r.supOrStitch = true ∧ s.mode = mRUN ∧ s.rd
      F.NS_STAT_DRIVING = 0 ∧ nsState s = 1) ∧
    (∃ (s : State) (r : Req), windowDead s F.NS_CMD_CMD.addr = false ∧ r.supOrStitch = true ∧ s.mode = mQUARANTINE ∧ nsState s
      = 1) ∧
    (∃ (s : State) (r : Req), windowDead s F.NS_CMD_CMD.addr = false ∧ r.supOrStitch = true ∧ s.mode ≠ mQUARANTINE) ∧
    (∃ (s : State), s.rd F.NS_STAT_DRIVING = 1 ∧ s.ns.pulseEnd ≤ s.now ∧ nsState s = 1) ∧
    (∃ (s : State), s.now < s.ns.pulseEnd) :=
  ⟨⟨wit [], by decide +kernel⟩,
   ⟨{ wit [(F.NS_STAT_STATE, 3), (F.NS_TIME_CW, 1), (F.GIRTH_MODE_MODE, mRUN), (F.DORM_WAKE_EN_TIMER, 1)] with
      now := 80000 }, by decide +kernel⟩,
   ⟨{ wit [(F.NS_STAT_STATE, 3), (F.NS_TIME_CW, 1)] with
      girth := { spanMember := true }, now := 80000 }, by decide +kernel⟩,
   ⟨{ wit [] with girth := { vin := false } }, true, .wakeLineHigh, .inr rfl, by decide +kernel⟩,
   ⟨wit [(F.GIRTH_MODE_MODE, mRUN), (F.NS_STAT_STATE, 1)], true, by decide +kernel⟩,
   ⟨wit [(F.GIRTH_MODE_MODE, mRUN)], by decide +kernel⟩,
   ⟨up [], (.plot 7), .pulse ((.plot 7)), by decide +kernel⟩,
   ⟨up [(F.GIRTH_MODE_MODE, mRUN), (F.NS_STAT_DRIVING, 0), (F.NS_STAT_STATE, 1)], .supervisor, by decide +kernel⟩,
   ⟨up [(F.GIRTH_MODE_MODE, mQUARANTINE), (F.NS_STAT_STATE, 1)], .supervisor, by decide +kernel⟩,
   ⟨up [(F.GIRTH_MODE_MODE, mRUN)], .supervisor, by decide +kernel⟩,
   ⟨wit [(F.NS_STAT_DRIVING, 1), (F.NS_STAT_STATE, 1)], by decide +kernel⟩,
   ⟨{ wit [] with ns := { pulseEnd := 1 } }, by decide +kernel⟩⟩

theorem witness_BridleTransactions :
    (∃ (s : State) (tag : Nat) (st : BitVec 16) (d : BitVec 64) (c : Instr), (c = .xlResponseRx tag st d ∨ c = .rspTimeout tag
      ∨ c = .retryRx tag) ∧ (s.br.out.find? (·.tag == tag)) = none) ∧
    (∃ (s : State) (tag : Nat) (st : BitVec 16) (d : BitVec 64), statusOk st.toNat = false) ∧
    (∃ (s : State) (tag : Nat) (st : BitVec 16) (d : BitVec 64) (x : BrTx), statusOk st.toNat = true ∧ s.br.out.find? (·.tag ==
      tag) = some x ∧ x.gen ≠ issuerGen s x.issuer) ∧
    (∃ (s : State) (tag : Nat) (d : BitVec 64) (x : BrTx), s.br.out.find? (·.tag == tag) = some x ∧ x.gen = issuerGen s
      x.issuer ∧ x.size ≤ 8) ∧
    (∃ (s : State) (tag : Nat) (x : BrTx), s.br.out.find? (·.tag == tag) = some x ∧ rspLate s x = false) ∧
    (∃ (s : State) (tag : Nat) (x : BrTx), s.br.out.find? (·.tag == tag) = some x ∧ rspLate s x = true ∧ x.issuer < 9) ∧
    (∃ (s : State) (tag : Nat) (x : BrTx), s.br.out.find? (·.tag == tag) = some x ∧ x.issuer < 9 ∧ s.rd F.BR_RETRY_RETRY_MAX ≤
      x.retries + 1) ∧
    (∃ (s : State) (tag : Nat) (x : BrTx), s.br.out.find? (·.tag == tag) = some x ∧ x.retries + 1 < s.rd F.BR_RETRY_RETRY_MAX) ∧
    (∃ (s : State) (num : Nat) (st : BitVec 16), s.br.posted.find? (·.num == num) = none) ∧
    (∃ (s : State) (num : Nat) (st : BitVec 16) (w : BrPost), statusOk st.toNat = true ∧ s.br.posted.find? (·.num == num) =
      some w) ∧
    (∃ (s : State) (w : BrPost), s.br.posted = [w] ∧ w.wait = none ∧ s.br.fences.find? w.issuer = none) ∧
    (∃ (s : State) (tag : Nat) (i : Fin 9) (g : Nat) (page : Bool) (a : BitVec 40) (size : AccSize) (q : XlReq) (unc : Bool) (e
      : Envt), s.rd F.XL_STAT_LINK = 0) ∧
    (∃ (s : State) (tag : Nat) (i : Fin 9) (g : Nat) (a : BitVec 40) (size : AccSize) (unc : Bool) (e : Envt), s.rd
      F.XL_STAT_LINK = 1 ∧ isWindow a.toNat = true ∧ refusedOverXl a.toNat = true ∧ blkBusy s a.toNat = false) :=
  ⟨⟨wit [], 0, 0, 0, .xlResponseRx 0 0 0, by decide +kernel⟩,
   ⟨wit [], 0, 0x0900, 0, by decide +kernel⟩,
   ⟨{ wit [] with br.out := [{ tag := 255, gen := 1, issuer := 7 }] }, 255, 0, 0, { tag := 255, gen := 1, issuer := 7 },
    by decide +kernel⟩,
   ⟨{ wit [] with br.out := [{ tag := 255, issuer := 7, size := 8 }] }, 255, 0, { tag := 255, issuer := 7, size := 8 },
    by decide +kernel⟩,
   ⟨{ wit [] with br.out := [{ tag := 255, gen := 1, issuer := 7 }] }, 255, { tag := 255, gen := 1, issuer := 7 },
    by decide +kernel⟩,
   ⟨{ wit [(F.BR_TMO_RSP_TMO, 1)] with br := { out := [{}] }, now := 800 }, 0, {}, by decide +kernel⟩,
   ⟨{ wit [] with br.out := [{ tag := 255, retries := 65535 }] }, 255, { tag := 255, retries := 65535 }, by decide +kernel⟩,
   ⟨{ wit [] with br.out := [{ tag := 255 }] }, 255, { tag := 255 }, by decide +kernel⟩,
   ⟨wit [], 0, 0, by decide +kernel⟩,
   ⟨{ wit [] with br.posted := [{ num := 63 }] }, 63, 0, { num := 63 }, by decide +kernel⟩,
   ⟨{ wit [] with br.posted := [{ num := 63 }] }, { num := 63 }, by decide +kernel⟩,
   ⟨wit [], 0, 8, 0, true, 0, .word, .read, true, {}, by decide +kernel⟩,
   ⟨wit [(F.XL_STAT_LINK, 1)], 0, 0, 0, 0x212FFFFC, .word, true, {}, by decide +kernel⟩⟩

theorem witness_BridleTransactions_2 :
    (∃ (s : State) (tag : Nat) (a : BitVec 40) (g : Nat) (size : AccSize) (unc : Bool) (e : Envt) (v : BitVec 64), s.rd
      F.XL_STAT_LINK = 1 ∧ isWindow a.toNat = true ∧ refusedOverXl a.toNat = true) ∧
    (∃ (s : State) (tag : Nat) (i : Fin 9) (g : Nat) (size : AccSize) (unc : Bool) (e : Envt) (v : BitVec 64) (a : BitVec 40),
      s.rd F.XL_STAT_LINK = 1 ∧ i.val < 8 ∧ g < (s.plot i).pGen) ∧
    (∃ (s : State) (r : Req) (p : Fin 9), windowDead s (F.BR_FENCE_GO p).addr = false ∧ r ≠ .supervisor ∧ (∀ k : Fin 8, r =
      .plot k → k.val ≠ p.val)) ∧
    (∃ (s : State) (p : Fin 8), windowDead s (F.BR_FENCE_GO p).addr = false ∧ s.rd (F.BR_FENCE_STAT_BUSY p) = 1) ∧
    (∃ (s : State) (p : Fin 8), windowDead s (F.BR_FENCE_GO p).addr = false ∧ s.rd (F.BR_FENCE_STAT_BUSY p) = 0 ∧ (∀ w ∈
      s.br.posted, w.issuer ≠ p.val) ∧ s.br.failed.find? p.val = none) ∧
    (∃ (s : State) (p : Fin 8) (g : BrFail), windowDead s (F.BR_FENCE_GO p).addr = false ∧ s.rd (F.BR_FENCE_STAT_BUSY p) = 0 ∧
      (∀ w ∈ s.br.posted, w.issuer ≠ p.val) ∧ s.br.failed.find? p.val = some g) ∧
    (∃ (s : State) (p : Fin 8) (w : BrPost), windowDead s (F.BR_FENCE_GO p).addr = false ∧ s.rd (F.BR_FENCE_STAT_BUSY p) = 0 ∧
      w ∈ s.br.posted ∧ w.issuer = p.val) ∧
    (∃ (s : State) (p : Fin 9), s.br.fences.find? p = none) ∧
    (∃ (s : State) (p : Fin 9) (f : BrFence), s.br.fences.find? p = some f ∧ s.now < f.goAt + 8000 * max 1 (s.rd
      F.BR_TMO_RSP_TMO)) ∧
    (∃ (s : State) (p : Fin 9) (f : BrFence), s.br.fences.find? p = some f ∧ f.reply = none ∧ f.goAt + 8000 * max 1 (s.rd
      F.BR_TMO_RSP_TMO) ≤ s.now) ∧
    (∃ (s : State) (n : Fin 33) (q : BitVec 32) (k : Fin 8) (p : Fin 8) (tag : BitVec 16), sessionOf s (n : Fin 33).val = none) ∧
    (∃ (s : State) (n : Fin 33) (q : BitVec 32) (k : Fin 8) (p : Fin 8) (tag : BitVec 16) (x : Session), sessionOf s n = some x
      ∧ x.plot = p.val ∧ s.rd (F.BR_FENCE_STAT_BUSY p) = 0) ∧
    (∃ (s : State) (n : Fin 33) (q : BitVec 32) (k : Fin 8) (p : Fin 8) (tag : BitVec 16) (x : Session), sessionOf s n = some x
      ∧ x.plot ≠ p.val) :=
  ⟨⟨wit [(F.XL_STAT_LINK, 1)], 0, 0x212FFFFC, 0, .word, true, {}, 0, by decide +kernel⟩,
   ⟨{ wit [(F.XL_STAT_LINK, 1)] with pc.plots := [(7, { pGen := 1 })] }, 0, 7, 0, .word, true, {}, 0, 0, by decide +kernel⟩,
   ⟨up [], (.plot 7), 8, by decide +kernel⟩,
   ⟨up [(F.BR_FENCE_STAT_BUSY 7, 1)], 7, by decide +kernel⟩,
   ⟨up [(F.BR_FENCE_STAT_BUSY 7, 0)], 7, by decide +kernel⟩,
   ⟨{ up [] with br := { failed := [(7, {})] } }, 7, {}, by decide +kernel⟩,
   ⟨{ up [(F.BR_FENCE_STAT_BUSY 7, 0)] with
      br.posted := [{ issuer := 7 }] }, 7, { issuer := 7 }, by decide +kernel⟩,
   ⟨wit [], 8, by decide +kernel⟩,
   ⟨{ wit [] with br.fences := [(8, {})] }, 8, {}, by decide +kernel⟩,
   ⟨{ wit [(F.BR_TMO_RSP_TMO, 1)] with
      br := { fences := [(8, {})] }, now := 8000 }, 8, {}, by decide +kernel⟩,
   ⟨wit [], 32, 0, 0, 0, 0, by decide +kernel⟩,
   ⟨{ wit [(F.BR_FENCE_STAT_BUSY 7, 0)] with
      ses.sessions := [(32, { plot := 7 })] }, 32, 0, 0, 7, 0, { plot := 7 }, by decide +kernel⟩,
   ⟨{ wit [] with ses.sessions := [(32, { plot := 6 })] }, 32, 0, 0, 7, 0, { plot := 6 }, by decide +kernel⟩⟩

theorem witness_SignalGateway :
    (∃ (s : State) (r : Req), windowDead s F.GW_CMD_COMMIT.addr = false ∧ r.supOrStitch = false) ∧
    (∃ (s : State) (r : Req) (k : Nat) (kind : Nat) (reason : Nat), windowDead s F.GW_CMD_COMMIT.addr = false ∧ r.supOrStitch =
      true ∧ gwFault s (gwStaged s) = some (k, kind, reason) ∧ k < 128 ∧ kind < 4 ∧ reason < 16) ∧
    (∃ (s : State) (r : Req), windowDead s F.GW_CMD_COMMIT.addr = false ∧ r.supOrStitch = true ∧ gwFault s (gwStaged s) = none) ∧
    (∃ (s : State), s.gw.pend = none) ∧
    (∃ (s : State) (p : GwTable), s.gw.pend = some p) ∧
    (∃ (s : State) (d : Fin 32), ((s.gw.active.dsts.getD d.val {}).en = false ∨ (s.gw.active.dsts.getD d.val {}).mode < 2 ∨
      s.now < (gwDstSt s d).periodAt + 80000 * (s.gw.active.dsts.getD d.val {}).period)) ∧
    (∃ (s : State) (d : Fin 32), (s.gw.active.dsts.getD d.val {}).en = true ∧ 2 ≤ (s.gw.active.dsts.getD d.val {}).mode ∧
      (gwDstSt s d).periodAt + 80000 * (s.gw.active.dsts.getD d.val {}).period ≤ s.now) ∧
    (∃ (s : State) (d : Fin 32), ((gwDstSt s d).deferred = false ∨ inhibited s d = true)) ∧
    (∃ (s : State) (d : Fin 32), (gwDstSt s d).deferred = true ∧ inhibited s d = false) ∧
    (∃ (s : State) (f : Fin 32), ((s.gw.srcs.get f {}).timeout = true ∨ (s.gw.active.srcs.getD f.val {}).en = false ∨
      (s.gw.active.srcs.getD f.val {}).tmo = 0 ∨ s.now < (s.gw.srcs.get f {}).matchAt + 80000 * (s.gw.active.srcs.getD f.val
      {}).tmo)) ∧
    (∃ (s : State) (f : Fin 32), (s.gw.srcs.get f {}).timeout = false ∧ (s.gw.active.srcs.getD f.val {}).en = true ∧
      (s.gw.active.srcs.getD f.val {}).tmo ≠ 0 ∧ (s.gw.srcs.get f {}).matchAt + 80000 * (s.gw.active.srcs.getD f.val {}).tmo ≤
      s.now ∧ (∀ k, k < 128 → (s.gw.active.sigs.getD k {}).subst = false)) :=
  ⟨⟨up [], (.plot 7), by decide +kernel⟩,
   ⟨up [(F.GW_TBL_DATA 0, 0x40000000), (F.GW_TBL_DATA 1, 8)], .supervisor, 0, 0, 1, by decide +kernel⟩,
   ⟨up [], .supervisor, by decide +kernel⟩,
   ⟨{ wit [] with gw.pend := none }, by decide +kernel⟩,
   ⟨{ wit [] with gw.pend := some ({}) }, {}, by decide +kernel⟩,
   ⟨wit [], 0, by decide +kernel⟩,
   ⟨{ wit [] with
      gw := { active := { dsts := [{ en := true, mode := 2, period := 10 }] } }, now := 800000 }, 0, by decide +kernel⟩,
   ⟨wit [], 0, by decide +kernel⟩,
   ⟨{ wit [] with gw.dsts := [(31, { deferred := true })] }, 31, by decide +kernel⟩,
   ⟨wit [], 0, by decide +kernel⟩,
   ⟨{ wit [] with
      gw := { active := { srcs := [{ en := true, tmo := 1 }] }, srcs := [(0, { timeout := false })] }, now := 80000 }, 0,
        by decide +kernel⟩⟩

theorem witness_StitchSessions :
    (∃ (s : State) (h : StitchHdr) (q : StitchReq) (e : Envt) (c : Instr), (c = .read h q ∨ c = .write h q e ∨ c = .nop h q ∨ c
      = .close h) ∧ (∃ p, h.via = .udp p) ∧ s.obj 0x1001 1 1 ≠ 1) ∧
    (∃ (s : State) (h : StitchHdr) (q : StitchReq) (e : Envt) (c : Instr), (c = .read h q ∨ c = .write h q e ∨ c = .nop h q ∨ c
      = .close h) ∧ (∃ p, h.via = .udp p) ∧ stitchUp s = true ∧ s.obj 0x1001 1 1 = 1) ∧
    (∃ (s : State) (h : StitchHdr) (q : StitchReq) (e : Envt) (c : Instr) (x : Session) (p : Fin 2), (c = .read h q ∨ c =
      .write h q e ∨ c = .nop h q) ∧ h.via = .udp p ∧ stitchUp s = true ∧ s.obj 0x1001 1 1 = 1 ∧ h.wellFormed = true ∧ h.tagOk
      = true ∧ 1 ≤ h.session.toNat ∧ h.session.toNat ≤ 32 ∧ sessionOf s h.session.toNat = some x ∧ x.transport = 0 ∧ x.fresh =
      false ∧ 64 ≤ x.high - h.seq.toNat) ∧
    (∃ (s : State) (h : StitchHdr) (q : StitchReq) (e : Envt) (c : Instr) (x : Session) (p : Fin 2) (b : List Byte), (c = .read
      h q ∨ c = .write h q e ∨ c = .nop h q) ∧ h.via = .udp p ∧ stitchUp s = true ∧ s.obj 0x1001 1 1 = 1 ∧ h.wellFormed = true
      ∧ h.tagOk = true ∧ 1 ≤ h.session.toNat ∧ h.session.toNat ≤ 32 ∧ sessionOf s h.session.toNat = some x ∧ x.transport = 0 ∧
      x.fresh = false ∧ x.high = h.seq.toNat ∧ x.window.getLsbD 0 = true ∧ (x.cache.find? (·.1 == h.seq.toNat)) = some
      (h.seq.toNat, b)) ∧
    (∃ (s : State) (h : StitchHdr) (x : Session) (p : Fin 2), h.via = .udp p ∧ stitchUp s = true ∧ s.obj 0x1001 1 1 = 1 ∧
      h.wellFormed = true ∧ h.tagOk = true ∧ 1 ≤ h.session.toNat ∧ h.session.toNat ≤ 32 ∧ sessionOf s h.session.toNat = some x
      ∧ x.transport = 0) ∧
    (∃ (s : State) (h : StitchHdr) (cred : BitVec 16) (nc : BitVec 256) (p : Fin 2) (code : Nat), h.via = .udp p ∧ stitchUp s =
      true ∧ s.obj 0x1001 1 1 = 1 ∧ h.wellFormed = true ∧ keyRefusal s cred.toNat useStitch = some code) ∧
    (∃ (s : State) (h : StitchHdr) (cred : BitVec 16) (nc : BitVec 256) (p : Fin 2) (k : KeyBlob) (n : Nat), h.via = .udp p ∧
      stitchUp s = true ∧ s.obj 0x1001 1 1 = 1 ∧ h.wellFormed = true ∧ h.tagOk = true ∧ keyRefusal s cred.toNat useStitch =
      none ∧ s.clo.keys.find? cred.toNat = some k ∧ k.plot < 8 ∧ sesFree s k.plot = some n) ∧
    (∃ (s : State) (n : Fin 33), sesIdle s (n : Fin 33).val = false) ∧
    (∃ (s : State) (n : Fin 33) (x : Session), n ≠ 0 ∧ sessionOf s n = some x ∧ x.at_ + 80000000 * s.obj 0x1001 7 60 ≤ s.now) :=
  ⟨⟨{ wit [] with objs := [(objKey 0x1001 1, 0)] }, { via := .udp 1 }, {}, {}, .read ({ via := .udp 1 }) ({}),
    by decide +kernel⟩,
   ⟨up [], {}, {}, {}, .read ({}) ({}), by decide +kernel⟩,
   ⟨{ up [] with ses.sessions := [(32, { fresh := false, high := 65 })] }, { via := .udp 1, session := 32, seq := 1 }, {}, {},
    .read ({ via := .udp 1, session := 32, seq := 1 }) ({}), { fresh := false, high := 65 }, 1, by decide +kernel⟩,
   ⟨{ up [] with
      ses.sessions := [(32, { fresh := false, high := 0xFFFFFFFF, window := 1, cache := [(0xFFFFFFFF, [0])] })] },
        { via := .udp 1, session := 32, seq := 0xFFFFFFFF }, {}, {}, .read
        ({ via := .udp 1, session := 32, seq := 0xFFFFFFFF }) ({}),
        { fresh := false, high := 0xFFFFFFFF, window := 1, cache := [(0xFFFFFFFF, [0])] }, 1, [0], by decide +kernel⟩,
   ⟨{ up [] with ses.sessions := [(32, { })] }, { via := .udp 1, session := 32, seq := 1 }, {}, 1, by decide +kernel⟩,
   ⟨up [(F.GIRTH_MODE_MODE, mRUN)], { via := .udp 1 }, 0, 0, 1, 0x0504, by decide +kernel⟩,
   ⟨{ up [(F.GIRTH_MODE_MODE, mRUN)] with
      clo.keys := [(31, { uses := 1, plot := 7 })] }, { via := .udp 1 }, 31, 0, 1, { uses := 1, plot := 7 }, 1,
        by decide +kernel⟩,
   ⟨{ wit [] with objs := [(objKey 0x1001 1, 0)] }, 0, by decide +kernel⟩,
   ⟨{ wit [] with ses := { sessions := [(32, {})] }, now := 4800000000 }, 32, {}, by decide +kernel⟩⟩

theorem witness_StitchSessions_2 :
    (∃ (s : State) (n : Fin 72) (x : Session) (k : Nat) (at_ : Nat) (b : List Byte), sessionOf s n = some x ∧ x.asm = some (k,
      at_, b) ∧ at_ + 800000000 ≤ s.now) ∧
    (∃ (s : State) (n : Fin 72) (x : Session), sessionOf s n = some x ∧ x.snap ≠ none ∧ x.snapAt + 800000000 ≤ s.now) ∧
    (∃ (s : State) (i : Fin 8) (p : Fin 8) (g : StitchSeg), (canHears s i = false ∨ (s.obj 0x1002 1 0).testBit i.val = false)) ∧
    (∃ (s : State) (i : Fin 8) (p : Fin 8) (b : List Byte), canHears s i = true ∧ (s.obj 0x1002 1 0).testBit i = true ∧
      b.length ≤ 61) ∧
    (∃ (s : State) (i : Fin 8) (p : Fin 8) (sn : Fin 64) (b : List Byte) (x : SegRx), canHears s i = true ∧ (s.obj 0x1002 1
      0).testBit i = true ∧ s.ses.rx.find? (8 * i.val + p.val) = some x ∧ sn.val = x.sn ∧ b.length ≤ 63 ∧ x.data.length +
      b.length = x.len) ∧
    (∃ (s : State) (i : Fin 8) (p : Fin 8) (x : SegTx), s.ses.tx.find? (8 * i.val + p.val) = some x ∧ x.granted = 0 ∧ x.at_ +
      8000000 ≤ s.now) ∧
    (∃ (s : State) (i : Fin 8) (p : Fin 8) (x : SegRx), s.ses.rx.find? (8 * i.val + p.val) = some x ∧ x.at_ + 8000000 ≤ s.now) ∧
    (∃ (s : State) (port : Fin 2) (seq : BitVec 32) (prio : Fin 8) (q : StitchReq) (e : Envt), stitchUp s = true ∧ s.obj 0x1001
      1 1 = 1 ∧ clearMode s = false) ∧
    (∃ (s : State) (port : Fin 2) (seq : BitVec 32) (prio : Fin 8) (q : StitchReq) (e : Envt), stitchUp s = true ∧ s.obj 0x1001
      1 1 = 1 ∧ clearMode s = true ∧ q.op = 1 ∧ clearReach s false q.index.toNat q.sub.toNat = false ∧ (sessionOf s 0 = none)) :=
  ⟨⟨{ wit [] with
      ses := { sessions := [(71, { asm := some (0, 0, []) })] }, now := 800000000 }, 71, { asm := some (0, 0, []) }, 0, 0, [],
        by decide +kernel⟩,
   ⟨{ wit [] with
      ses := { sessions := [(71, { snap := some (0, 0, []) })] }, now := 800000000 }, 71, { snap := some (0, 0, []) },
        by decide +kernel⟩,
   ⟨wit [], 7, 7, .single [], by decide +kernel⟩,
   ⟨{ wit [(F.GIRTH_MODE_MODE, mRUN), (F.CAN_CTL_MODE 7, 3), (F.CAN_STAT_SYNCED 7, 1)] with
      objs := [(objKey 0x1002 1, 0x80)] }, 7, 7, List.replicate 61 0, by decide +kernel⟩,
   ⟨{ wit [(F.GIRTH_MODE_MODE, mRUN), (F.CAN_CTL_MODE 7, 3), (F.CAN_STAT_SYNCED 7, 1)] with
      objs := [(objKey 0x1002 1, 0x80)], ses := { rx := [(63, { len := 63 })] } }, 7, 7, 1, List.replicate 63 0, { len := 63 },
        by decide +kernel⟩,
   ⟨{ wit [] with ses := { tx := [(63, {})] }, now := 8000000 }, 7, 7, {}, by decide +kernel⟩,
   ⟨{ wit [] with ses := { rx := [(63, {})] }, now := 8000000 }, 7, 7, {}, by decide +kernel⟩,
   ⟨{ up [(F.GIRTH_MODE_MODE, mRUN)] with clo.fuses := 1 }, 0, 0, 0, {}, {}, by decide +kernel⟩,
   ⟨up [], 0, 0, 0, {}, {}, by decide +kernel⟩⟩

theorem witness_StitchRequests :
    (∃ (s : State) (h : StitchHdr) (q : StitchReq) (e : Envt) (c : Instr) (op : Nat) (x : Session) (p : Fin 2), (c = .read h q
      ∧ op = 1 ∨ c = .write h q e ∧ op = 2 ∨ c = .nop h q ∧ op = 3) ∧ h.via = .udp p ∧ stitchUp s = true ∧ s.obj 0x1001 1 1 = 1
      ∧ h.wellFormed = true ∧ h.tagOk = true ∧ 1 ≤ h.session.toNat ∧ h.session.toNat ≤ 32 ∧ sessionOf s h.session.toNat = some
      x ∧ x.transport = 0 ∧ x.fresh = false ∧ x.high < h.seq.toNat ∧ x.asm = none ∧ waiting s h.session.toNat < 16) ∧
    (∃ (s : State) (n : Nat) (seq : Nat) (prio : Nat) (b : List Byte) (x : Session), sessionOf s n = some x ∧ x.transport = 0) ∧
    (∃ (s : State) (p : Fin 8) (v : StitchReq) (e : Envt) (c : Instr), (c = .localRequest p v e ∨ c = .plotAnswerRx p) ∧
      localTake s (p : Fin 8).val = none) ∧
    (∃ (s : State) (p : Fin 8) (v : StitchReq) (e : Envt) (ws : List Nat) (ok : Bool) (t : State), localTake s p = some (ws,
      ok, t) ∧ (ws.headD 0).testBit 31 = true) ∧
    (∃ (s : State) (p : Fin 8) (v : StitchReq) (e : Envt) (ws : List Nat) (t : State), localTake s p = some (ws, false, t) ∧
      (ws.headD 0).testBit 31 = false) ∧
    (∃ (s : State) (p : Fin 8) (v : StitchReq) (e : Envt) (ws : List Nat) (t : State) (q : StitchReq), localTake s p = some
      (ws, true, t) ∧ (ws.headD 0).testBit 31 = false ∧ reqParse ((ws.drop 1).flatMap (le 4)) = some q ∧ q.op = 3 ∧ waiting t
      (64 + p.val) < 16) ∧
    (∃ (s : State) (p : Fin 8) (ws : List Nat) (ok : Bool) (t : State) (f : Forward), localTake s p = some (ws, ok, t) ∧
      (ws.headD 0).testBit 31 = true ∧ (t.ses.forwards.find? fun f => f.plot == p.val && f.word0 == ws.headD 0 - 2 ^ 31) = some
      f) :=
  ⟨⟨{ up [] with ses.sessions := [(32, { fresh := false })] }, { via := .udp 1, session := 32, seq := 1 }, {}, {}, .read
    ({ via := .udp 1, session := 32, seq := 1 }) ({}), 1, { fresh := false }, 1, by decide +kernel⟩,
   ⟨{ wit [] with ses.sessions := [(32, { plot := 7 })] }, 32, 0, 0, [], { plot := 7 }, by decide +kernel⟩,
   ⟨wit [], 7, {}, {}, .localRequest 7 ({}) ({}), by decide +kernel⟩,
   ⟨{ wit [] with
      q := [(63, { drain := [{ words := [{ data := 0x80000000, poison := false }] }] })], pc :=
        { plots := [(7, { record := List.replicate 16 0 ++ [63] })] } }, 7, {}, {}, _, _, _, rfl, by decide +kernel⟩,
   ⟨{ wit [] with
      q := [(63, { drain := [{ words := [{ data := 0x7FFFFFFF, poison := true }] }] })], pc :=
        { plots := [(7, { record := List.replicate 16 0 ++ [63] })] } }, 7, {}, {}, _, _, rfl, by decide +kernel⟩,
   ⟨{ wit [] with
      q := [(63,
        { drain := [{ words := [{ data := 0, poison := false }, { data := 3, poison := false }, { data := 0, poison := false }, { data := 0, poison := false }, { data := 0, poison := false }] }] })],
        pc := { plots := [(7, { record := List.replicate 16 0 ++ [63] })] } }, 7, {}, {}, _, _, { op := 3, last := false },
        rfl, by decide +kernel⟩,
   ⟨{ wit [] with
      q := [(63, { drain := [{ words := [{ data := 0xFFFFFFFF, poison := false }] }] })], pc :=
        { plots := [(7, { record := List.replicate 16 0 ++ [63] })] }, ses :=
        { forwards := [{ plot := 7, word0 := 0x7FFFFFFF }] } }, 7, _, _, _, { plot := 7, word0 := 0x7FFFFFFF }, rfl,
        by decide +kernel⟩⟩

theorem witness_StitchRequests_2 :
    (∃ (s : State) (k : Nat), s.ses.forwards[k]? = none) ∧
    (∃ (s : State) (k : Nat) (f : Forward), s.ses.forwards[k]? = some f ∧ s.now < f.at_ + 80000000) ∧
    (∃ (s : State) (k : Nat) (f : Forward), s.ses.forwards[k]? = some f ∧ f.at_ + 80000000 ≤ s.now) ∧
    (∃ (s : State), flashOk s = false) ∧
    (∃ (s : State), flashOk s = true) ∧
    (∃ (s : State) (v : BitVec 16), s.mode ≠ mSERVICE) ∧
    (∃ (s : State) (v : BitVec 16), s.mode = mSERVICE ∧ v ≠ 0xD0D0) ∧
    (∃ (s : State), s.mode = mSERVICE) :=
  ⟨⟨wit [], 0, by decide +kernel⟩,
   ⟨{ wit [] with ses := { forwards := [{}] }, now := 79999999 }, 0, {}, by decide +kernel⟩,
   ⟨{ wit [] with ses := { forwards := [{}] }, now := 80000000 }, 0, {}, by decide +kernel⟩,
   ⟨{ wit [(F.RAIL_STAT_HOLDUP_OK, 0)] with
      ses.sessions := [(32, { fresh := false })] }, by decide +kernel⟩,
   ⟨{ wit [(F.RAIL_STAT_HOLDUP_OK, 1)] with
      ses.sessions := [(32, { fresh := false })] }, by decide +kernel⟩,
   ⟨{ wit [] with ses.sessions := [(32, { fresh := false })] }, 0, by decide +kernel⟩,
   ⟨{ wit [(F.GIRTH_MODE_MODE, mSERVICE)] with
      ses.sessions := [(32, { fresh := false })] }, 0, by decide +kernel⟩,
   ⟨{ wit [(F.GIRTH_MODE_MODE, mSERVICE)] with
      ses.sessions := [(32, { fresh := false })] }, by decide +kernel⟩⟩

theorem witness_Jobs :
    (∃ (s : State) (j : Fin 32) (p : Prin) (k : BitVec 8), (s.job j).kind = 0 ∧ 1 ≤ k.toNat ∧ k.toNat ≤ 8) ∧
    (∃ (s : State) (j : Fin 32) (p : Prin) (k : BitVec 8), (s.job j).kind = 0 ∧ 8 < k.toNat) ∧
    (∃ (s : State) (j : Fin 32) (p : Prin), (s.job j).mine p = true ∧ ((s.job j).state = 0 ∨ 4 ≤ (s.job j).state)) ∧
    (∃ (s : State) (j : Fin 32) (p : Prin) (k : BitVec 8), (s.job j).kind ≠ 0 ∧ (s.job j).owner ≠ p.plot.val) ∧
    (∃ (s : State) (j : Fin 32) (p : Prin) (k : BitVec 8), (s.job j).mine p = true ∧ 1 ≤ (s.job j).state ∧ (s.job j).state ≤ 3) ∧
    (∃ (s : State) (j : Fin 32) (p : Prin) (a : Bool) (b : Bool) (c : Instr), (c = .start j p a b ∨ c = .suspend j p ∨ c =
      .resume j p ∨ c = .cancel j p) ∧ (s.job (j : Fin 32)).kind ≠ 0 ∧ (s.job j).owner ≠ p.plot.val) ∧
    (∃ (s : State) (j : Fin 32) (p : Prin) (a : Bool) (b : Bool) (c : Instr), ((s.job j).kind = 0 ∨ (s.job j).mine p = true) ∧
      ((c = .start j p a b ∧ ((s.job j).kind = 0 ∨ (1 ≤ (s.job j).state ∧ (s.job j).state ≤ 3))) ∨ (c = .suspend j p ∧ ((s.job
      j).kind = 0 ∨ (s.job j).state ≠ 2)) ∨ (c = .resume j p ∧ ((s.job j).kind = 0 ∨ (s.job j).state ≠ 3)) ∨ (c = .cancel j p ∧
      ((s.job j).kind = 0 ∨ (s.job j).state = 0 ∨ 4 ≤ (s.job j).state)))) ∧
    (∃ (s : State) (j : Fin 32) (p : Prin) (a : Bool) (b : Bool) (code : Nat), (s.job j).mine p = true ∧ ((s.job j).state = 0 ∨
      4 ≤ (s.job j).state) ∧ startRefusal s (s.job j) p a b = some code) ∧
    (∃ (s : State) (j : Fin 32) (p : Prin) (a : Bool) (b : Bool), (s.job j).mine p = true ∧ ((s.job j).state = 0 ∨ 4 ≤ (s.job
      j).state) ∧ startRefusal s (s.job j) p a b = none ∧ jobLimit (s.job j).kind ≤ jobRunningOf s (s.job j).kind) ∧
    (∃ (s : State) (j : Fin 32) (p : Prin) (a : Bool) (b : Bool), (s.job j).mine p = true ∧ ((s.job j).state = 0 ∨ 4 ≤ (s.job
      j).state) ∧ startRefusal s (s.job j) p a b = none ∧ jobRunningOf s (s.job j).kind < jobLimit (s.job j).kind ∧ ((s.job
      j).kind = 1 ∨ (s.job j).kind = 3 ∨ (s.job j).kind = 5 ∨ (s.job j).kind = 8)) ∧
    (∃ (s : State) (j : Fin 32) (p : Prin), (s.job j).mine p = true ∧ (s.job j).state = 2 ∧ jobSuspendable (s.job j).kind =
      false) ∧
    (∃ (s : State) (j : Fin 32) (p : Prin), (s.job j).mine p = true ∧ (s.job j).state = 2 ∧ jobSuspendable (s.job j).kind =
      true) :=
  ⟨⟨wit [], 31, { plot := 0, roles := 0 }, 8, by decide +kernel⟩,
   ⟨wit [], 31, { plot := 0, roles := 0 }, 9, by decide +kernel⟩,
   ⟨{ wit [] with jobs := [(31, { owner := 7, kind := 8, state := 6 })] }, 31, { plot := 7, roles := 0xFF }, by decide +kernel⟩,
   ⟨{ wit [] with jobs := [(31, { kind := 8, owner := 6 })] }, 31, { plot := 7, roles := 0xFF }, 0, by decide +kernel⟩,
   ⟨{ wit [] with jobs := [(31, { owner := 7, kind := 8, state := 3 })] }, 31, { plot := 7, roles := 0xFF }, 0,
    by decide +kernel⟩,
   ⟨{ wit [] with jobs := [(31, { kind := 8, owner := 6 })] }, 31, { plot := 7, roles := 0xFF }, false, false, .start 31
    ({ plot := 7, roles := 0xFF }) false false, by decide +kernel⟩,
   ⟨{ wit [] with jobs := [(31, { kind := 3, state := 3, owner := 7 })] }, 31, { plot := 7, roles := 0 }, true, true, .start 31
    { plot := 7, roles := 0 } true true, by decide +kernel, .inl ⟨rfl, by decide +kernel⟩⟩,
   ⟨{ wit [] with jobs := [(31, { owner := 7, kind := 1 })] }, 31, { plot := 7, roles := 0 }, false, false, 0x0205,
    by decide +kernel⟩,
   ⟨{ wit [] with
      jobs := [(30, { kind := 5, state := 2 }), (31, { owner := 7, kind := 5, arg := 3 })] }, 31, { plot := 7, roles := 0xFF },
        false, false, by decide +kernel⟩,
   ⟨{ wit [] with jobs := [(31, { owner := 7, kind := 5, arg := 3 })] }, 31, { plot := 7, roles := 0xFF }, false, false,
    by decide +kernel⟩,
   ⟨{ wit [] with jobs := [(31, { owner := 7, kind := 5, state := 2 })] }, 31, { plot := 7, roles := 0xFF }, by decide +kernel⟩,
   ⟨{ wit [] with jobs := [(31, { owner := 7, kind := 4, state := 2 })] }, 31, { plot := 7, roles := 0xFF }, by decide +kernel⟩⟩

theorem witness_Jobs_2 :
    (∃ (s : State) (j : Fin 32) (p : Prin), (s.job j).mine p = true ∧ (s.job j).state = 3 ∧ ((s.job j).kind = 1 ∨ (s.job
      j).kind = 3) ∧ (s.job j).begun = true ∧ ((s.job j).kind = 3 → (s.job j).par.getD 6 0 < (s.job j).par.getD 3 0)) ∧
    (∃ (s : State) (j : Fin 32) (p : Prin), (s.job j).mine p = true ∧ (s.job j).active = true ∧ (s.job j).state = 2 ∧ (s.job
      j).kind ≠ 6 ∧ ((s.job j).kind = 2 → s.grf.act = some j.val → s.grf.trial = false)) ∧
    (∃ (s : State) (j : Fin 32) (p : Prin), (s.job j).mine p = true ∧ (s.job j).state = 1) ∧
    (∃ (s : State) (k : Fin 9), (jobOldest s k = none ∨ jobLimit k ≤ jobRunningOf s k)) ∧
    (∃ (s : State) (k : Fin 9) (j : Nat), jobOldest s k = some j ∧ jobRunningOf s k < jobLimit k ∧ (k.val = 1 ∨ k.val = 3 ∨
      k.val = 5 ∨ k.val = 8)) ∧
    (∃ (s : State) (j : Fin 32) (b : Bool), ((s.job j).state ≠ 2 ∨ (s.job j).kind < 5 ∨ (flashOk s = false ∧ ((s.job j).kind =
      6 ∨ (s.job j).kind = 8)))) ∧
    (∃ (s : State) (j : Fin 32) (b : Bool), (s.job j).state = 2 ∧ (s.job j).kind = 5) ∧
    (∃ (s : State) (j : Fin 32) (l : List KeyBlob) (c : Nat), (s.job j).state = 2 ∧ (s.job j).kind = 6 ∧ flashOk s = true ∧
      s.clo.ku = some (l, c, false)) ∧
    (∃ (s : State) (j : Fin 32) (l : List KeyBlob) (c : Nat) (b : Bool), (s.job j).state = 2 ∧ (s.job j).kind = 6 ∧ flashOk s =
      true ∧ s.clo.ku = some (l, c, b)) ∧
    (∃ (s : State) (j : Fin 32) (a : Bool) (b : BitVec 4), ((s.job j).state ≠ 2 ∧ (s.job j).state ≠ 3 ∨ (s.job j).kind ≠ 4 ∧
      (s.job j).kind ≠ 5 ∧ (s.job j).kind ≠ 7)) ∧
    (∃ (s : State) (j : Fin 32) (b : BitVec 4), (s.job j).state = 2 ∧ (s.job j).kind = 5 ∧ ((s.job j).par.getD 0 0).testBit 0 =
      true) ∧
    (∃ (s : State) (j : Fin 32) (b : BitVec 4), (s.job j).state = 2 ∧ (s.job j).kind = 5 ∧ ((s.job j).par.getD 0 0).testBit 1 =
      true) ∧
    (∃ (s : State) (j : Fin 32) (a : Bool) (b : BitVec 4), (s.job j).state = 2 ∧ (s.job j).kind = 7 ∧ migOp (s.job j) = 0 ∧
      s.rd F.XL_STAT_LINK = 0) :=
  ⟨⟨{ wit [] with
      jobs := [(31, { kind := 3, state := 3, owner := 7, begun := true, par := [0, 0, 0, 1] })] }, 31,
        { plot := 7, roles := 0 }, by decide +kernel⟩,
   ⟨{ wit [] with jobs := [(31, { owner := 7, kind := 4, state := 2 })] }, 31, { plot := 7, roles := 0xFF }, by decide +kernel⟩,
   ⟨{ wit [] with jobs := [(31, { owner := 7, kind := 8, state := 1 })] }, 31, { plot := 7, roles := 0xFF }, by decide +kernel⟩,
   ⟨wit [], 8, by decide +kernel⟩,
   ⟨{ wit [] with jobs := [(31, { kind := 8, state := 1 })] }, 8, 31, by decide +kernel⟩,
   ⟨wit [], 31, true, by decide +kernel⟩,
   ⟨{ wit [] with jobs := [(31, { kind := 5, state := 2 })] }, 31, true, by decide +kernel⟩,
   ⟨{ wit [(F.RAIL_STAT_HOLDUP_OK, 1)] with
      clo.ku := some (([]), 0, false), jobs := [(31, { kind := 6, state := 2 })] }, 31, [], 0, by decide +kernel⟩,
   ⟨{ wit [(F.RAIL_STAT_HOLDUP_OK, 1)] with
      clo.ku := some (([]), 0, true), jobs := [(31, { kind := 6, state := 2 })] }, 31, [], 0, true, by decide +kernel⟩,
   ⟨wit [], 31, true, 0, by decide +kernel⟩,
   ⟨{ wit [] with jobs := [(31, { kind := 5, state := 2, par := [1] })] }, 31, 0, by decide +kernel⟩,
   ⟨{ wit [] with jobs := [(31, { kind := 5, state := 2, par := [2] })] }, 31, 0, by decide +kernel⟩,
   ⟨{ wit [(F.XL_STAT_LINK, 0)] with
      jobs := [(31, { kind := 7, state := 2 })] }, 31, true, 0, by decide +kernel⟩⟩

theorem witness_PlotCommands :
    (∃ (s : State) (r : Req) (p : Fin 8) (c : Instr), windowDead s (F.PC_PCMD_CMD p).addr = false ∧ (c = .plotStart r p ∨ c =
      .plotStop r p ∨ c = .freeze r p ∨ c = .thaw r p ∨ c = .checkpoint r p) ∧ r.supOrStitch = false) ∧
    (∃ (s : State) (r : Req) (p : Fin 8), windowDead s (F.PC_PCMD_CMD p).addr = false ∧ r.supOrStitch = false ∧ r ≠ .plot p) ∧
    (∃ (s : State) (r : Req) (p : Fin 8) (c : Instr), windowDead s (F.PC_PCMD_CMD p).addr = false ∧ r.supOrStitch = true ∧ ((c
      = .plotStart r p ∧ (plotState s p ≠ 1 ∨ s.mode = mQUARANTINE)) ∨ (c = .plotStop r p ∧ plotState s p ≠ 3 ∧ plotState s p ≠
      5) ∨ (c = .plotReset r p ∧ plotState s p ≠ 2 ∧ plotState s p ≠ 3 ∧ plotState s p ≠ 5) ∨ (c = .freeze r p ∧ (plotState s p
      ≠ 3 ∨ (s.plot p).freeze ≠ 0)) ∨ (c = .thaw r p ∧ (plotState s p ≠ 5 ∨ (s.plot p).freeze ≠ 0)) ∨ (c = .checkpoint r p ∧
      (plotState s p ≠ 3 ∨ (s.plot p).freeze ≠ 0 ∨ recTakeover (plotRec s p) ≠ 2)))) ∧
    (∃ (s : State) (r : Req) (p : Fin 8), windowDead s (F.PC_PCMD_CMD p).addr = false ∧ r.supOrStitch = true ∧ plotState s p =
      1 ∧ s.mode ≠ mQUARANTINE) ∧
    (∃ (s : State) (r : Req) (p : Fin 8), windowDead s (F.PC_PCMD_CMD p).addr = false ∧ r.supOrStitch = true ∧ (plotState s p =
      3 ∨ plotState s p = 5)) ∧
    (∃ (s : State) (r : Req) (p : Fin 8), windowDead s (F.PC_PCMD_CMD p).addr = false ∧ r.supOrStitch = true ∧ (plotState s p =
      2 ∨ plotState s p = 3 ∨ plotState s p = 5)) ∧
    (∃ (s : State) (p : Fin 8), windowDead s (F.PC_PCMD_CMD p).addr = false ∧ (plotState s p = 2 ∨ plotState s p = 3 ∨
      plotState s p = 5)) ∧
    (∃ (s : State) (r : Req) (p : Fin 8), windowDead s (F.PC_PCMD_CMD p).addr = false ∧ r.supOrStitch = true ∧ plotState s p =
      3 ∧ (s.plot p).freeze = 0) ∧
    (∃ (s : State) (r : Req) (p : Fin 8), windowDead s (F.PC_PCMD_CMD p).addr = false ∧ r.supOrStitch = true ∧ plotState s p =
      5 ∧ (s.plot p).freeze = 0) ∧
    (∃ (s : State) (r : Req) (p : Fin 8), windowDead s (F.PC_PCMD_CMD p).addr = false ∧ r.supOrStitch = true ∧ plotState s p =
      3 ∧ (s.plot p).freeze = 0 ∧ recTakeover (plotRec s p) = 2) ∧
    (∃ (s : State) (r : Req), windowDead s F.PC_CMD_COMMIT.addr = false ∧ r ≠ .supervisor ∧ (∀ a b, r ≠ .stitch a true b)) ∧
    (∃ (s : State) (r : Req) (a : Fin 8) (b : Bool) (p : Nat) (k : Nat), windowDead s F.PC_CMD_COMMIT.addr = false ∧ (r =
      .supervisor ∨ r = .stitch a true b) ∧ tablesFault s = some (p, k)) ∧
    (∃ (s : State) (r : Req) (a : Fin 8) (b : Bool) (p : Fin 8), windowDead s F.PC_CMD_COMMIT.addr = false ∧ (r = .supervisor ∨
      r = .stitch a true b) ∧ tablesFault s = none ∧ plotChanged s p = true ∧ 2 ≤ plotState s p) ∧
    (∃ (s : State) (r : Req) (a : Fin 8) (b : Bool), windowDead s F.PC_CMD_COMMIT.addr = false ∧ (r = .supervisor ∨ r = .stitch
      a true b) ∧ tablesFault s = none ∧ (∀ p : Fin 8, plotChanged s p = true → plotState s p < 2)) :=
  ⟨⟨up [], (.plot 7), 7, .plotStart ((.plot 7)) 7, by decide +kernel⟩,
   ⟨up [], (.plot 6), 7, by decide +kernel⟩,
   ⟨up [], .supervisor, 7, .plotStart .supervisor 7, by decide +kernel⟩,
   ⟨up [(F.PC_PSTAT_STATE 7, 1), (F.GIRTH_MODE_MODE, mRUN)], .supervisor, 7, by decide +kernel⟩,
   ⟨up [(F.PC_PSTAT_STATE 7, 3)], .supervisor, 7, by decide +kernel⟩,
   ⟨up [(F.PC_PSTAT_STATE 7, 2)], .supervisor, 7, by decide +kernel⟩,
   ⟨up [(F.PC_PSTAT_STATE 7, 2)], 7, by decide +kernel⟩,
   ⟨up [(F.PC_PSTAT_STATE 7, 3)], .supervisor, 7, by decide +kernel⟩,
   ⟨up [(F.PC_PSTAT_STATE 7, 5)], .supervisor, 7, by decide +kernel⟩,
   ⟨{ up [(F.PC_PSTAT_STATE 7, 3)] with
      pc.plots := [(7, { record := [0, 0, 8] })] }, .supervisor, 7, by decide +kernel⟩,
   ⟨up [], (.plot 7), by decide +kernel⟩,
   ⟨{ up [] with
      objBytes := [(objKey 0x8016 1, [0, 0, 1, 0, 1]), (objKey 0x8017 1, [0, 0, 1, 0, 1])] }, .supervisor, 7, false, 6, 1,
        by decide +kernel⟩,
   ⟨{ up [(F.PC_PSTAT_STATE 7, 2)] with
      pc.plots := [(7, { record := [1] })] }, .supervisor, 7, false, 7, by decide +kernel, by decide +kernel, tablesFault_empty
        _ rfl, by decide +kernel⟩,
   ⟨up [], .supervisor, 7, false, by decide +kernel, by decide +kernel, tablesFault_empty _ rfl, by decide +kernel⟩⟩

theorem witness_PlotEvents :
    (∃ (s : State) (c : Fin 4) (w : Fin 16) (p : Fin 8), planOwner s c (w : Fin 16).val = p.val ∧ (plotState s p = 2 ∨
      plotState s p = 3 ∨ plotState s p = 7)) ∧
    (∃ (s : State) (c : Fin 4) (w : Fin 16), (planOwner s c w = 8 ∨ 8 < planOwner s c w ∨ (plotState s (planOwner s c w) ≠ 2 ∧
      plotState s (planOwner s c w) ≠ 3 ∧ plotState s (planOwner s c w) ≠ 7))) ∧
    (∃ (s : State) (p : Fin 8) (a : BitVec 40) (w : Bool), plotMayAccess s p (a : BitVec 40).toNat w = true) ∧
    (∃ (s : State) (p : Fin 8) (a : BitVec 40) (w : Bool), plotMayAccess s p a.toNat w = false) ∧
    (∃ (s : State) (p : Fin 8) (a : BitVec 40) (w : Bool), plotMayAccess s p a.toNat w = false ∧ s.rd (F.PC_VIOL_VIOL_LIMIT p)
      ≤ 1 ∧ plotState s p = 3 ∧ recFault (plotRec s p) = 2) ∧
    (∃ (s : State) (r : Req) (p : Fin 8) (v : Word), windowDead s (F.PC_WDOG_KICK p).addr = false ∧ r ≠ .plot p) ∧
    (∃ (s : State) (p : Fin 8) (v : Word), windowDead s (F.PC_WDOG_KICK p).addr = false) ∧
    (∃ (s : State) (p : Fin 8), (wdogDue s p = false ∨ plotState s p ≠ 3 ∨ (s.plot p).freeze ≠ 0)) ∧
    (∃ (s : State) (p : Fin 8) (k : Nat), halfNat (plotRec s p) 22 ≠ 0 ∧ (s.plot p).kick = some k ∧ k + 80000 * halfNat
      (plotRec s p) 22 ≤ s.now ∧ plotState s p = 3 ∧ (s.plot p).freeze = 0 ∧ recFault (plotRec s p) = 1 ∧ (s.plot p).restarts =
      []) ∧
    (∃ (s : State) (p : Fin 8), (plotState s p ≠ 4 ∨ (drainOpen s p = true ∧ drainLate s (s.plot p).since = false))) ∧
    (∃ (s : State) (p : Fin 8), plotState s p = 4 ∧ (drainOpen s p = false ∨ drainLate s (s.plot p).since = true)) ∧
    (∃ (s : State) (p : Fin 8), ((s.plot p).freeze = 0 ∨ plotState s p ≠ 3 ∨ (drainOpen s p = true ∧ drainLate s (s.plot
      p).since = false))) :=
  ⟨⟨{ wit [(F.PC_PSTAT_STATE 7, 2), (F.PC_PSTAT_STATE 7, 7)] with
      pc.plan := List.replicate 410 0 ++ [16] ++ List.replicate 129 0 ++ [7] }, 3, 15, 7, by decide +kernel⟩,
   ⟨wit [], 3, 15, by decide +kernel⟩,
   ⟨wit [(F.REG_SIZE_SIZE 7 7, 4), (F.REG_BASE_LO_BASE_LO 7 7, 0xFFFFFFFC), (F.REG_BASE_HI_BASE_HI 7 7, 0xFF),
    (F.REG_BASE_HI_ATTR 7 7, 2)], 7, 0xFFFFFFFFFF, true, by decide +kernel⟩,
   ⟨wit [], 7, 0, false, by decide +kernel⟩,
   ⟨{ wit [(F.PC_PSTAT_STATE 7, 3), (F.PC_VIOL_VIOL_LIMIT 7, 1)] with
      pc.plots := [(7, { record := [0, 0, 0x41] })] }, 7, 0, false, by decide +kernel⟩,
   ⟨up [], .supervisor, 7, 0, by decide +kernel⟩,
   ⟨{ up [(F.PC_PSTAT_STATE 7, 2), (F.PC_PSTAT_STATE 7, 7)] with
      pc.plan := List.replicate 410 0 ++ [16] ++ List.replicate 129 0 ++ [7] }, 7, 0, by decide +kernel⟩,
   ⟨{ wit [(F.PC_PSTAT_STATE 7, 2), (F.PC_PSTAT_STATE 7, 7)] with
      pc.plan := List.replicate 410 0 ++ [16] ++ List.replicate 129 0 ++ [7] }, 7, by decide +kernel⟩,
   ⟨{ wit [(F.PC_PSTAT_STATE 7, 3)] with
      pc := { plots := [(7, { record := [0, 0, 0x21] ++ List.replicate 19 0 ++ [1, 0], kick := some 0 })] }, now := 80000 }, 7,
        0, by decide +kernel⟩,
   ⟨{ wit [(F.PC_PSTAT_STATE 7, 2), (F.PC_PSTAT_STATE 7, 7)] with
      pc.plan := List.replicate 410 0 ++ [16] ++ List.replicate 129 0 ++ [7] }, 7, by decide +kernel⟩,
   ⟨wit [(F.PC_PSTAT_STATE 7, 4)], 7, by decide +kernel⟩,
   ⟨{ wit [(F.PC_PSTAT_STATE 7, 2), (F.PC_PSTAT_STATE 7, 7)] with
      pc.plan := List.replicate 410 0 ++ [16] ++ List.replicate 129 0 ++ [7] }, 7, by decide +kernel⟩⟩

theorem witness_PlotEvents_2 :
    (∃ (s : State) (p : Fin 8), (s.plot p).freeze = 3 ∧ plotState s p = 3 ∧ (drainOpen s p = false ∨ drainLate s (s.plot
      p).since = true)) ∧
    (∃ (s : State) (p : Fin 8), (s.plot p).freeze ≠ 0 ∧ (s.plot p).freeze ≠ 3 ∧ plotState s p = 3 ∧ (drainOpen s p = false ∨
      drainLate s (s.plot p).since = true)) ∧
    (∃ (s : State) (p : Fin 8), (plotState s p ≠ 3 ∨ (s.plot p).freeze ≠ 0 ∨ recTakeover (plotRec s p) ≠ 2 ∨ s.rd
      F.XL_STAT_LINK = 0 ∨ s.now < (s.plot p).ckptAt + 80000000 * recCkpt (plotRec s p))) ∧
    (∃ (s : State) (p : Fin 8), plotState s p = 3 ∧ (s.plot p).freeze = 0 ∧ recTakeover (plotRec s p) = 2 ∧ s.rd F.XL_STAT_LINK
      = 1 ∧ (s.plot p).ckptAt + 80000000 * recCkpt (plotRec s p) ≤ s.now) ∧
    (∃ (s : State) (n : Nat) (img : PlotImage) (b : Bool), (b = false ∨ 8 ≤ img.plot)) ∧
    (∃ (s : State) (n : Nat) (img : PlotImage), img.plot < 8) ∧
    (∃ (s : State) (img : PlotImage) (b : Bool) (code : Nat), restoreJob s = none ∧ restoreRefusal s img b true = some code) ∧
    (∃ (s : State) (img : PlotImage) (b : Bool), restoreJob s = none ∧ restoreRefusal s img b true = none) ∧
    (∃ (s : State) (img : PlotImage) (b : Bool) (j : Nat), restoreJob s = some j ∧ (s.pc.buffer.getD img).plot ≠ migPlot (s.job
      j)) ∧
    (∃ (s : State) (img : PlotImage) (b : Bool) (j : Nat), restoreJob s = some j ∧ (s.pc.buffer.getD img).plot = migPlot (s.job
      j) ∧ restoreRefusal s (s.pc.buffer.getD img) (b || s.pc.buffer.isSome) false = none) ∧
    (∃ (s : State) (p : Fin 8) (code : BitVec 16), (plotState s p ≠ 5 ∨ ((s.plot p).freeze ≠ 2 ∧ (s.plot p).freeze ≠ 5))) ∧
    (∃ (s : State) (p : Fin 8) (j : Nat), plotState s p = 5 ∧ (s.plot p).freeze = 2 ∧ (s.plot p).job = some j) ∧
    (∃ (s : State) (p : Fin 8) (j : Nat) (code : BitVec 16), plotState s p = 5 ∧ (s.plot p).freeze = 2 ∧ (s.plot p).job = some
      j ∧ code ≠ 0 ∧ (s.job j).kind = 7 ∧ (s.job j).state = 2 ∧ (s.job j).begun = true ∧ migPlot (s.job j) = p.val) :=
  ⟨⟨{ wit [(F.PC_PSTAT_STATE 7, 3)] with
      pc := { plots := [(7, { freeze := 3 })] } }, 7, by decide +kernel⟩,
   ⟨{ wit [(F.PC_PSTAT_STATE 7, 3)] with
      pc.plots := [(7, { freeze := 5 })] }, 7, by decide +kernel⟩,
   ⟨{ wit [(F.PC_PSTAT_STATE 7, 2), (F.PC_PSTAT_STATE 7, 7)] with
      pc.plan := List.replicate 410 0 ++ [16] ++ List.replicate 129 0 ++ [7] }, 7, by decide +kernel⟩,
   ⟨{ wit [(F.PC_PSTAT_STATE 7, 3), (F.XL_STAT_LINK, 1)] with
      pc.plots := [(7, { record := [0, 0, 9] })] }, 7, by decide +kernel⟩,
   ⟨wit [], 0, {}, false, by decide +kernel⟩,
   ⟨wit [], 0, {}, by decide +kernel⟩,
   ⟨wit [(F.GIRTH_MODE_MODE, mRUN)], {}, false, 0x0504, by decide +kernel⟩,
   ⟨{ wit [(F.GIRTH_MODE_MODE, mRUN), (F.PC_STAT_SPAN_MATCH, 1), (F.PC_PSTAT_STATE 7, 6)] with
      clo.keys := [(0, { uses := 0xFF })] }, { plot := 7 }, true, by decide +kernel⟩,
   ⟨{ wit [] with
      jobs := [(31, { kind := 7, state := 2, par := [512] })] }, { plot := 7 }, true, 31, by decide +kernel⟩,
   ⟨{ wit [(F.GIRTH_MODE_MODE, mRUN), (F.PC_PSTAT_STATE 7, 6)] with
      clo.keys := [(0, { uses := 0xFF })], jobs := [(31, { kind := 7, state := 2, par := [519] })] }, { plot := 7 }, true, 31,
        by decide +kernel⟩,
   ⟨{ wit [(F.PC_PSTAT_STATE 7, 2), (F.PC_PSTAT_STATE 7, 7)] with
      pc.plan := List.replicate 410 0 ++ [16] ++ List.replicate 129 0 ++ [7] }, 7, 0, by decide +kernel⟩,
   ⟨{ wit [(F.PC_PSTAT_STATE 7, 5)] with
      pc.plots := [(7, { freeze := 2, job := some 31 })] }, 7, 31, by decide +kernel⟩,
   ⟨{ wit [(F.PC_PSTAT_STATE 7, 5)] with
      pc := { plots := [(7, { freeze := 2, job := some 31 })] }, jobs := [(31,
        { kind := 7, state := 2, begun := true, par := [7] })] }, 7, 31, 1, by decide +kernel⟩⟩

theorem witness_KeysAndTamper :
    (∃ (s : State) (n : Fin 7) (d : BitVec 16), n.val < 6 ∧ lcKeyed s = true ∧ s.mode ≠ mSEATING ∧ s.retain = none) ∧
    (∃ (s : State) (n : Fin 7) (d : BitVec 16), n.val < 6 ∧ lcKeyed s = false) ∧
    (∃ (s : State) (n : Fin 7) (d : BitVec 16), n.val < 6 ∧ lcKeyed s = true ∧ s.mode = mSEATING) ∧
    (∃ (s : State) (d : BitVec 16), dormRd s F.CLO_TMP_EN_DIO = 0) ∧
    (∃ (s : State), s.clo.erase = false) ∧
    (∃ (s : State), s.clo.erase = true) ∧
    (∃ (s : State) (r : Req) (i : Fin 8), windowDead s F.CLO_CTR_INC_IDX.addr = false ∧ ((r ≠ .supervisor ∧ ∀ a b, r ≠ .stitch
      a b true) ∨ (i.val ≠ 2 ∧ i.val < 4))) ∧
    (∃ (s : State) (r : Req) (a : Fin 8) (b : Bool) (i : Fin 8), windowDead s F.CLO_CTR_INC_IDX.addr = false ∧ (r = .supervisor
      ∨ r = .stitch a b true) ∧ (i.val = 2 ∨ 4 ≤ i.val) ∧ (0xFFFFFFFF ≤ cloCtr s i ∨ flashOk s = false)) ∧
    (∃ (s : State) (r : Req) (a : Fin 8) (b : Bool) (i : Fin 8), windowDead s F.CLO_CTR_INC_IDX.addr = false ∧ (r = .supervisor
      ∨ r = .stitch a b true) ∧ (i.val = 2 ∨ 4 ≤ i.val) ∧ cloCtr s i < 0xFFFFFFFF ∧ flashOk s = true) ∧
    (∃ (s : State) (b : List Byte) (ok : Bool) (e : Envt) (c : Nat), lcmRefusal s b ok = some c ∧ (s.clo.fails.filter fun t =>
      decide (s.now < t + 288000000000)).length ≠ 7) ∧
    (∃ (s : State) (b : List Byte) (ok : Bool) (e : Envt), lcmRefusal s b ok = none) :=
  ⟨⟨{ wit [(F.GIRTH_MODE_MODE, mRUN)] with clo.fuses := 2 }, 5, 0, by decide +kernel⟩,
   ⟨wit [], 5, 0, by decide +kernel⟩,
   ⟨{ wit [(F.GIRTH_MODE_MODE, mSEATING)] with clo.fuses := 2 }, 5, 0, by decide +kernel⟩,
   ⟨wit [], 0, by decide +kernel⟩,
   ⟨{ wit [] with clo.erase := false }, by decide +kernel⟩,
   ⟨{ wit [] with clo.erase := true }, by decide +kernel⟩,
   ⟨{ up [(F.GIRTH_MODE_MODE, mRUN)] with clo.fuses := 2 }, .plot 0, 0, by decide +kernel⟩,
   ⟨up [(F.RAIL_STAT_HOLDUP_OK, 0)], (.stitch 7 true true), 7, true, 2, by decide +kernel, .inr rfl, by decide +kernel⟩,
   ⟨up [(F.RAIL_STAT_HOLDUP_OK, 1)], .supervisor, 7, false, 7, by decide +kernel⟩,
   ⟨wit [], [], false, {}, 0x0101, by decide +kernel⟩,
   ⟨witLcm, lcmMsg 2, true, {}, witLcm_two⟩⟩

theorem witness_KeysAndTamper_2 :
    (∃ (s : State) (b : List Byte) (ok : Bool) (e : Envt), lcmRefusal s b ok = none ∧ byteNat b 6 = 1) ∧
    (∃ (s : State) (b : List Byte) (e : Envt) (c : Nat), provisionRefusal s b = some c) ∧
    (∃ (s : State) (b : List Byte) (e : Envt), provisionRefusal s b = none) ∧
    (∃ (s : State) (b : List Byte) (ok : Bool) (c : Nat), tokenRefusal s b ok = some c ∧ (s.clo.fails.filter fun t => decide
      (s.now < t + 288000000000)).length ≠ 7) ∧
    (∃ (s : State) (b : List Byte) (ok : Bool), tokenRefusal s b ok = none) ∧
    (∃ (s : State) (c : Nat), ((lcKeyed s = false ∧ debugRefusal s 2 = some c) ∨ (lcKeyed s = true ∧ c = (debugRefusal s (if
      lcState s = lcFielded then 1 else 2)).getD 0x0506)) ∧ (s.clo.fails.filter fun t => decide (s.now < t +
      288000000000)).length ≠ 7) ∧
    (∃ (s : State), lcKeyed s = false ∧ debugRefusal s 2 = none) ∧
    (∃ (s : State) (e : Envt), s.rd F.CLO_STAT_KEYS_SEALED = 0) ∧
    (∃ (s : State), s.clo.notAfter = none) ∧
    (∃ (s : State) (x : PTime), s.clo.notAfter = some x ∧ s.ptNs < x.toNs) ∧
    (∃ (s : State) (x : PTime), s.clo.notAfter = some x ∧ x.toNs ≤ s.ptNs) :=
  ⟨⟨witLcm1, lcmMsg 1, true, {}, witLcm_one, by decide +kernel⟩,
   ⟨wit [], [], {}, 0x0508, by decide +kernel⟩,
   ⟨wit [(F.RAIL_STAT_HOLDUP_OK, 1), (F.ID_MATCH_MATCH, 31)], 1 :: List.replicate 135 0, {}, by decide +kernel⟩,
   ⟨wit [], [], false, 0x0506, by decide +kernel⟩,
   ⟨witToken, tokenMsg, true, witToken_ok⟩,
   ⟨wit [], 0x0505, by decide +kernel⟩,
   ⟨wit [(F.GIRTH_MODE_MODE, mSERVICE)], by decide +kernel⟩,
   ⟨wit [(F.CLO_STAT_KEYS_SEALED, 0)], {}, by decide +kernel⟩,
   ⟨{ wit [] with clo.notAfter := none }, by decide +kernel⟩,
   ⟨{ wit [] with clo.notAfter := some { ns := 1 } }, { ns := 1 }, by decide +kernel⟩,
   ⟨{ wit [] with clo.notAfter := some ({}) }, {}, by decide +kernel⟩⟩

theorem witness_FirmwareBanks :
    (∃ (s : State) (d : List Byte) (b : Bool), 65536 < d.length) ∧
    (∃ (s : State) (d : List Byte) (b : Bool) (c : Nat), d.length ≤ 65536 ∧ blockRefusal s (s.obj 0xB018 1 0) d b = some c) ∧
    (∃ (s : State) (d : List Byte) (b : Bool), d.length = 4096 ∧ blockRefusal s (s.obj 0xB018 1 0) d b = none) ∧
    (∃ (s : State) (d : List Byte) (b : Bool), (s.grf.vbus = false ∨ s.mode = mSEATING ∨ s.mode = mDORMANCY ∨ s.mode =
      mQUARANTINE)) ∧
    (∃ (s : State) (d : List Byte) (b : Bool) (j : Nat), transferJob s = some j ∧ (s.job j).par.getD 0 0 % 2 = 0) ∧
    (∃ (s : State) (d : List Byte) (b : Bool), s.grf.vbus = true ∧ s.mode ∈ [mBOOT, mRUN, mSERVICE, mHANDOFF, mHOLD] ∧
      transferJob s = none) ∧
    (∃ (s : State) (d : List Byte) (b : Bool) (j : Nat), s.grf.vbus = true ∧ s.mode ∈ [mBOOT, mRUN, mSERVICE, mHANDOFF, mHOLD]
      ∧ transferJob s = some j ∧ (s.job j).par.getD 0 0 % 2 = 1 ∧ (numIn d 0 4 ≠ 0x4B4C4247 ∨ numIn d 8 4 ≠ (d.drop
      16).length)) ∧
    (∃ (s : State) (d : List Byte) (b : Bool) (j : Nat) (c : Nat), s.grf.vbus = true ∧ s.mode ∈ [mBOOT, mRUN, mSERVICE,
      mHANDOFF, mHOLD] ∧ transferJob s = some j ∧ (s.job j).par.getD 0 0 % 2 = 1 ∧ numIn d 0 4 = 0x4B4C4247 ∧ numIn d 8 4 =
      (d.drop 16).length ∧ (crc32From 0xFFFFFFFF (d.drop 16)) ^^^ 0xFFFFFFFF = numIn d 12 4 ∧ blockRefusal s (numIn d 4 4)
      (d.drop 16) b = some c ∧ c ≠ 0x0611) :=
  ⟨⟨wit [], List.replicate 65537 0, true, by decide +kernel⟩,
   ⟨wit [], [], false, 0x0303, by decide +kernel⟩,
   ⟨{ wit [(F.RAIL_STAT_HOLDUP_OK, 1)] with
      jobs := [(31, { kind := 1, state := 2 })], grf.banks := [(1, { state := 2 })] }, List.replicate 4096 0, false,
        by decide +kernel⟩,
   ⟨{ wit [] with grf.vbus := false }, List.replicate 65537 0, true, by decide +kernel⟩,
   ⟨{ wit [] with jobs := [(31, { kind := 1, state := 2, par := [2] })] }, [], true, 31, by decide +kernel⟩,
   ⟨{ wit [(F.GIRTH_MODE_MODE, mRUN)] with grf := { vbus := true } }, [], true, by decide +kernel⟩,
   ⟨{ wit [(F.GIRTH_MODE_MODE, mRUN)] with
      grf := { vbus := true }, jobs := [(31, { kind := 1, state := 2, par := [1] })] }, [], true, 31, by decide +kernel⟩,
   ⟨{ wit [(F.GIRTH_MODE_MODE, mRUN)] with
      grf := { vbus := true }, jobs := [(31, { kind := 1, state := 2, par := [1] })] }, svcFrame [], true, 31, 0x0304,
        by decide +kernel⟩⟩

theorem witness_FirmwareBanks_2 :
    (∃ (s : State) (d : List Byte) (b : Bool) (j : Nat), s.grf.vbus = true ∧ s.mode ∈ [mBOOT, mRUN, mSERVICE, mHANDOFF, mHOLD]
      ∧ transferJob s = some j ∧ (s.job j).par.getD 0 0 % 2 = 1 ∧ numIn d 0 4 = 0x4B4C4247 ∧ numIn d 8 4 = (d.drop 16).length ∧
      (crc32From 0xFFFFFFFF (d.drop 16)) ^^^ 0xFFFFFFFF = numIn d 12 4 ∧ blockRefusal s (numIn d 4 4) (d.drop 16) b = none) ∧
    (∃ (s : State) (b : Bool), (s.bank (spare s)).state ≠ 1) ∧
    (∃ (s : State), (s.bank (spare s)).state = 1) ∧
    (∃ (s : State) (j : Nat), (s.bank (spare s)).state = 1 ∧ transferJob s = some j) ∧
    (∃ (s : State) (e : Envt), s.grf.act = none) ∧
    (∃ (s : State) (e : Envt) (j : Nat), s.grf.act = some j ∧ ((s.job j).kind ≠ 2 ∨ (s.job j).state ≠ 2 ∨ (s.mode ≠ mRUN ∧
      s.mode ≠ mSERVICE) ∨ flashOk s = false)) ∧
    (∃ (s : State) (e : Envt) (j : Nat), s.grf.act = some j ∧ (s.job j).kind = 2 ∧ (s.job j).state = 2 ∧ (s.mode = mRUN ∨
      s.mode = mSERVICE) ∧ flashOk s = true ∧ s.girth.spanMember = true ∧ (s.partner.alive = false ∨ s.partner.mode ≠ mRUN ∨
      (s.partner.activating = true ∧ s.rd F.SEAT_STAT_SIDE = 1))) ∧
    (∃ (s : State) (e : Envt) (j : Nat), s.grf.act = some j ∧ (s.job j).kind = 2 ∧ (s.job j).state = 2 ∧ (s.mode = mRUN ∨
      s.mode = mSERVICE) ∧ flashOk s = true ∧ s.girth.spanMember = false) :=
  ⟨⟨{ wit [(F.GIRTH_MODE_MODE, mRUN), (F.RAIL_STAT_HOLDUP_OK, 1)] with
      grf := { vbus := true, banks := [(1, { state := 2 })] }, jobs := [(31, { kind := 1, state := 2, par := [1] })] },
        svcFrame (List.replicate 8 0 ++ le 4 12), false, 31, by decide +kernel⟩,
   ⟨wit [], true, by decide +kernel⟩,
   ⟨{ wit [] with grf.banks := [(1, { state := 1 })] }, by decide +kernel⟩,
   ⟨{ wit [] with
      grf.banks := [(1, { state := 1 })], jobs := [(31, { kind := 1, state := 2, par := [0] })] }, 31, by decide +kernel⟩,
   ⟨{ wit [] with grf.act := none }, {}, by decide +kernel⟩,
   ⟨{ wit [] with grf.act := some 0 }, {}, 0, by decide +kernel⟩,
   ⟨{ wit [(F.GIRTH_MODE_MODE, mRUN), (F.RAIL_STAT_HOLDUP_OK, 1)] with
      girth.spanMember := true, grf.act := some 31, jobs := [(31, { kind := 2, state := 2 })], partner.alive := false }, {},
        31, by decide +kernel⟩,
   ⟨{ wit [(F.GIRTH_MODE_MODE, mRUN), (F.RAIL_STAT_HOLDUP_OK, 1)] with
      girth.spanMember := false, grf.act := some 31, jobs := [(31, { kind := 2, state := 2 })] }, {}, 31, by decide +kernel⟩⟩

theorem witness_FormKept : ∃ (s : State) (t : State), s.Canon ∧ s.ModeLegal ∧ step s = .next t :=
  ⟨{ wit [] with pending := [.poisonNext .supervisor 63] }, _, ⟨by decide +kernel, by decide +kernel⟩, ⟨by decide +kernel,
   by decide +kernel⟩, rfl⟩

theorem witness_StepFront : ∃ (s : State), s.pending = [] :=
  ⟨wit [], by decide +kernel⟩

end Sys2Proof.Tests
end

section
/-! The order of angle stamps (R10): what `AStamp.later` says on numbers, how the distance of two cycles turns around when
the stamps are swapped, and from both that the comparison is asymmetric and total but for cycles 2^31 apart. -/

namespace Sys2Proof

/-- The distance of R10 is the difference of the cycles as numbers, modulo 2^32. -/
theorem AStamp.toNat_cycle_sub (x y : AStamp) :
    (x.cycle - y.cycle).toNat = (x.cycle.toNat + 2 ^ 32 - y.cycle.toNat) % 2 ^ 32 := by
  rw [BitVec.toNat_sub]
  congr 1
  have hy : y.cycle.toNat < 2 ^ 32 := y.cycle.isLt
  omega

/-- Swapping two stamps takes their distance `d` to `2^32 - d`, and a distance of 0 to itself. -/
theorem AStamp.toNat_cycle_sub_comm (x y : AStamp) :
    (y.cycle - x.cycle).toNat = (2 ^ 32 - (x.cycle - y.cycle).toNat) % 2 ^ 32 := by
  rw [AStamp.toNat_cycle_sub, AStamp.toNat_cycle_sub]
  have hx : x.cycle.toNat < 2 ^ 32 := x.cycle.isLt
  have hy : y.cycle.toNat < 2 ^ 32 := y.cycle.isLt
  omega

/-- `later` on numbers: the distance lies in the first half of the circle, or it is 0 and the angle decides. -/
theorem AStamp.later_iff (x y : AStamp) :
    x.later y = true ↔
      (1 ≤ (x.cycle - y.cycle).toNat ∧ (x.cycle - y.cycle).toNat ≤ 2 ^ 31 - 1) ∨
        ((x.cycle - y.cycle).toNat = 0 ∧ y.angle.toNat < x.angle.toNat) := by
  simp only [AStamp.later, Bool.or_eq_true, Bool.and_eq_true, decide_eq_true_eq, beq_iff_eq, BitVec.lt_def,
    ← BitVec.toNat_inj, BitVec.ofNat_eq_ofNat, BitVec.toNat_ofNat, Nat.zero_mod]

/-- Stamps at distance 0 whose angles agree are one stamp. -/
theorem AStamp.eq_of_toNat_cycle_sub_eq_zero {x y : AStamp} (hd : (x.cycle - y.cycle).toNat = 0)
    (ha : x.angle.toNat = y.angle.toNat) : x = y := by
  have hc : x.cycle = y.cycle := sub_eq_zero.mp (BitVec.eq_of_toNat_eq hd)
  cases x
  cases y
  exact congrArg₂ AStamp.mk hc (BitVec.eq_of_toNat_eq ha)

/-- `later` is asymmetric: a distance in the first half of the circle comes back in the second half, and at distance 0
the angles are ordered one way only. -/
theorem AStamp.later_asymm {x y : AStamp} (h : x.later y = true) : y.later x = false := by
  rw [← Bool.not_eq_true, AStamp.later_iff, AStamp.toNat_cycle_sub_comm x y]
  rcases (AStamp.later_iff x y).mp h with ⟨hpos, hhalf⟩ | ⟨hzero, hangle⟩
  · omega
  · omega

/-- Two different stamps of which neither is later stand opposite each other on the circle of cycles. -/
theorem AStamp.toNat_cycle_sub_of_not_later {x y : AStamp} (hne : x ≠ y) (hxy : x.later y = false)
    (hyx : y.later x = false) : (x.cycle - y.cycle).toNat = 2 ^ 31 := by
  rw [← Bool.not_eq_true, AStamp.later_iff] at hxy hyx
  rw [AStamp.toNat_cycle_sub_comm x y] at hyx
  have hlt : (x.cycle - y.cycle).toNat < 2 ^ 32 := (x.cycle - y.cycle).isLt
  have hangle : (x.cycle - y.cycle).toNat = 0 → x.angle.toNat ≠ y.angle.toNat := fun hd ha =>
    hne (AStamp.eq_of_toNat_cycle_sub_eq_zero hd ha)
  omega

/-- Settles O10: the distance of R10 read as a number, asymmetry of `later`, and the one distance it leaves undecided. -/
theorem stampOrder : Obligations.StampOrder := by
  refine ⟨fun x y => ?_, fun _ _ => AStamp.later_asymm, fun _ _ => AStamp.toNat_cycle_sub_of_not_later⟩
  rw [AStamp.later_iff, AStamp.toNat_cycle_sub]

end Sys2Proof
end

section
/-! The two feeds (R70): what flagging, reporting and the channels' reaction leave of Girth's undervoltage state, and
from it that a feed below undervoltage forbids every switch-on of its channels. -/

namespace Sys2Proof.Machine

/-- An operation whose mask lacks Girth leaves what Girth holds beyond its registers. -/
theorem Within.girth_eq {K : Nat} {s t : State} (h : Within K s t) (hK : K.testBit Part.girth.bit = false) :
    t.girth = s.girth :=
  h.same .girth hK

/-- An operation whose mask lacks Girth's registers leaves each of their fields, GIRTH_MODE's two apart. -/
theorem Within.rd_girth_eq {K : Nat} {s t : State} (h : Within K s t) (hK : K.testBit Part.rGirth.bit = false)
    {f : Field} (hf : f.key / (32 * 0x100000) = 0x20E) (hmode : f.key ≠ F.GIRTH_MODE_MODE.key)
    (hsub : f.key ≠ F.GIRTH_MODE_SUBSTATE.key) : t.rd f = s.rd f :=
  h.same .rGirth hK f hf hmode hsub

/-- Bringing SUBSTATE and EXTRACT_OK up to date leaves every other field. -/
theorem rd_subSync {f : Field} (hext : f.key ≠ F.SEAT_STAT_EXTRACT_OK.key) (hsub : f.key ≠ F.GIRTH_MODE_SUBSTATE.key)
    (s : State) : (subSync s).rd f = s.rd f := by
  rw [subSync, State.rd_wr_ne _ _ hsub, State.rd_wrB, State.rd_wr_ne _ _ hext]

theorem State.rd_degrade {f : Field} (hext : f.key ≠ F.SEAT_STAT_EXTRACT_OK.key)
    (hsub : f.key ≠ F.GIRTH_MODE_SUBSTATE.key) (s : State) (src : Nat) (b : Bool) : (s.degrade src b).rd f = s.rd f :=
  rd_subSync hext hsub _

@[simp] theorem State.degrade_feedLow (s : State) (src : Nat) (b : Bool) :
    (s.degrade src b).girth.feedLow = s.girth.feedLow := rfl

/-- The feeds below undervoltage, and the two latched flags of RAIL_FLT, are in `t` as in `s`. -/
def SameFeeds (s t : State) : Prop :=
  t.girth.feedLow = s.girth.feedLow ∧ t.rd F.RAIL_FLT_VLA_UV = s.rd F.RAIL_FLT_VLA_UV ∧
    t.rd F.RAIL_FLT_VLB_UV = s.rd F.RAIL_FLT_VLB_UV

theorem SameFeeds.trans {s t u : State} (hst : SameFeeds s t) (htu : SameFeeds t u) : SameFeeds s u := by
  obtain ⟨hlow, hA, hB⟩ := hst
  obtain ⟨hlow', hA', hB'⟩ := htu
  exact ⟨hlow'.trans hlow, hA'.trans hA, hB'.trans hB⟩

theorem Within.sameFeeds {K : Nat} {s t : State} (h : Within K s t) (hK : K.testBit Part.girth.bit = false)
    (hK' : K.testBit Part.rGirth.bit = false) : SameFeeds s t :=
  ⟨congrArg GirthSt.feedLow (h.girth_eq hK), h.rd_girth_eq hK' (by decide) (by decide) (by decide),
    h.rd_girth_eq hK' (by decide) (by decide) (by decide)⟩

theorem State.degrade_sameFeeds (s : State) (src : Nat) (b : Bool) : SameFeeds s (s.degrade src b) :=
  ⟨s.degrade_feedLow src b, State.rd_degrade (by decide) (by decide) s src b,
    State.rd_degrade (by decide) (by decide) s src b⟩

/-- The parts that the record of a feed and the reaction of its channels may change: those of the load switches and of
what they post, none of Girth's. -/
def feedMask : Nat :=
  partsMask [.mem, .free, .out, .irqHeld, .q, .ls, .lsStag, .lsKept0, .lsKept1, .rFurrow, .rLs, .upd, .furBits]

/-- What both feed events do once Girth has noted the feed: they report it, record it and make its channels react. None
of this bears on the undervoltage state. -/
theorem feedReaction_sameFeeds {react : Nat → State → State}
    (hreact : ∀ b n t, Within feedMask b t → Within feedMask b (react n t)) (s : State)
    (feed src type unit cause : Nat) (b : Bool) :
    SameFeeds s (feedChannels feed react (lsUnitRecord (s.degrade src b) type unit cause)) := by
  refine (s.degrade_sameFeeds src b).trans (Within.sameFeeds (K := feedMask) ?_ (by decide) (by decide))
  exact feedChannels_within (hreact _) (lsUnitRecord_within (by decide) (Within.refl _ _))

/-- Girth notes that feed `k` is below undervoltage: its flag in RAIL_FLT, and its bit in `feedLow`. -/
def feedFlagged (s : State) (k : Fin 2) : State :=
  { s.wr (if k.val = 0 then F.RAIL_FLT_VLA_UV else F.RAIL_FLT_VLB_UV) 1 with
    girth := { s.girth with feedLow := s.girth.feedLow ||| BitVec.ofNat 2 (2 ^ k.val) } }

/-- Girth notes that feed `k` is back: the flag of RAIL_FLT stays latched. -/
def feedCleared (s : State) (k : Fin 2) : State :=
  { s with girth := { s.girth with feedLow := s.girth.feedLow &&& ~~~BitVec.ofNat 2 (2 ^ k.val) } }

theorem ends_feedUndervoltage_of_alive {s : State} (ha : alive s = true) (k : Fin 2) :
    Ends (.feedUndervoltage k) s (SameFeeds (feedFlagged s k)) := by
  refine ⟨feedChannels k lsFeedLost (lsUnitRecord ((feedFlagged s k).degrade (10 + k) true) 9 (0xFA + k) 0xFF), ?_, ?_⟩
  · have hexec : exec (.feedUndervoltage k) s = execFeedUndervoltage k s := rfl
    simp [hexec, execFeedUndervoltage, ha, feedFlagged]
  · exact feedReaction_sameFeeds (fun _ _ _ => lsFeedLost_within (by decide)) ..

theorem ends_feedRestored_of_alive {s : State} (ha : alive s = true) (k : Fin 2) :
    Ends (.feedRestored k) s (SameFeeds (feedCleared s k)) := by
  refine ⟨feedChannels k lsFeedBack (lsUnitRecord ((feedCleared s k).degrade (10 + k) false) 0x0A (0xFA + k) 0xFF), ?_, ?_⟩
  · have hexec : exec (.feedRestored k) s = execFeedRestored k s := rfl
    simp [hexec, execFeedRestored, ha, feedCleared]
  · exact feedReaction_sameFeeds (fun _ _ _ => lsFeedBack_within (by decide)) ..

theorem feedFlagged_feedLow (s : State) (k : Fin 2) :
    (feedFlagged s k).girth.feedLow = s.girth.feedLow ||| (if k = 0 then 1 else 2) := by
  fin_cases k <;> rfl

theorem feedCleared_feedLow (s : State) (k : Fin 2) :
    (feedCleared s k).girth.feedLow = s.girth.feedLow &&& (if k = 0 then 2 else 1) := by
  fin_cases k <;> rfl

/-- Whatever was noted before, the bit of a flagged feed is set. -/
theorem getLsbD_feedFlagged (s : State) (k : Fin 2) : (feedFlagged s k).girth.feedLow.getLsbD k = true := by
  rw [feedFlagged_feedLow, BitVec.getLsbD_or]
  fin_cases k <;> exact Bool.or_true _

/-- A feed below undervoltage fails the conditions of a switch-on (R70). -/
theorem lsCondOk_eq_false_of_lsFeedLow {s : State} {n : Nat} (h : lsFeedLow s n = true) : lsCondOk s n = false := by
  simp [lsCondOk, h]

/-- LS0 to LS11 hang on VLA, LS12 to LS23 on VLB (Table 13-1). -/
theorem lsFeedLow_channel (s : State) (k : Fin 2) {n : Nat} (hn : n < 12) :
    lsFeedLow s (12 * k.val + n) = s.girth.feedLow.getLsbD k := by
  fin_cases k
  · simp [lsFeedLow, hn]
  · simp [lsFeedLow]

/-- The undervoltage flag of feed `k` reads 1 in every state that keeps what `feedFlagged` noted. -/
theorem SameFeeds.rd_flag {s t : State} {k : Fin 2} (h : SameFeeds (feedFlagged s k) t) :
    t.rd (if k = 0 then F.RAIL_FLT_VLA_UV else F.RAIL_FLT_VLB_UV) = 1 := by
  obtain ⟨-, hA, hB⟩ := h
  fin_cases k
  · exact hA.trans (State.rd_wr_self s F.RAIL_FLT_VLA_UV 1)
  · exact hB.trans (State.rd_wr_self s F.RAIL_FLT_VLB_UV 1)

/-- No channel of feed `k` may be switched on in such a state. -/
theorem SameFeeds.lsCondOk_eq_false {s t : State} {k : Fin 2} (h : SameFeeds (feedFlagged s k) t) {n : Nat}
    (hn : n < 12) : lsCondOk t (12 * k.val + n) = false := by
  obtain ⟨hlow, -, -⟩ := h
  apply lsCondOk_eq_false_of_lsFeedLow
  rw [lsFeedLow_channel t k hn, hlow, getLsbD_feedFlagged]

/-- Settles O2: the reaction to a feed event keeps what Girth noted of the feeds, and the noted bit is what the
conditions of a switch-on read. -/
theorem feedUndervoltageForbids : Obligations.FeedUndervoltageForbids := by
  refine ⟨fun s k ha => ?_, fun s k ha => ?_⟩
  · obtain ⟨t, hexec, hfeeds⟩ := ends_feedUndervoltage_of_alive ha k
    have ⟨hlow, _, _⟩ := hfeeds
    exact ⟨t, hexec, hfeeds.rd_flag, hlow.trans (feedFlagged_feedLow s k), fun _ => hfeeds.lsCondOk_eq_false⟩
  · obtain ⟨t, hexec, hlow, hA, hB⟩ := ends_feedRestored_of_alive ha k
    exact ⟨t, hexec, hlow.trans (feedCleared_feedLow s k), hA, hB⟩

end Sys2Proof.Machine
end

section
/-! The producer page of Furrow (R234, R235): what bringing a queue's registers up to date leaves, what storing one word
does to its queue, and from both what a producer write does with credit and without. -/

namespace Sys2Proof.Machine

/-! ## What bringing a queue's registers up to date leaves -/

@[simp] theorem State.queue_wr (s : State) (f : Field) (v q : Nat) : (s.wr f v).queue q = s.queue q := rfl

@[simp] theorem State.queue_status (s : State) (c q : Nat) : (s.status c).queue q = s.queue q := rfl

theorem State.irq_regs (s : State) (cons src : Nat) : (s.irq cons src).regs = s.regs := by
  unfold State.irq
  split <;> rfl

/-- An interrupt that may be due keeps a frame of registers. -/
theorem State.RegsBut_irq_ite {s t : State} {fs : List Field} (due : Bool) (cons src : Nat) (h : s.RegsBut t fs) :
    s.RegsBut (if due then t.irq cons src else t) fs := by
  cases due
  · exact h
  · exact State.RegsBut_congr s h (State.irq_regs t cons src)

/-- The read-only fields that show what queue `q` holds. -/
def syncFields (q : Nat) : List Field :=
  [F.Q_LEVEL_LEVEL q, F.Q_PKT_CNT_CNT q, F.Q_CREDIT_CREDIT q, F.Q_STAT_OPEN q, F.Q_STAT_SPILLING q, F.Q_STAT_SPILLED q,
    F.Q_STAT_XOFF q, F.FUR_FCL_STAT_LEVEL]

theorem regsBut_furSync (s : State) (q : Nat) : s.RegsBut (furSync s q) (syncFields q) := by
  refine State.RegsBut_irq_ite _ _ _ (State.RegsBut_irq_ite _ _ _ ?_)
  iterate 8 refine State.RegsBut_wr s _ ?_ (by simp [syncFields])
  exact State.RegsBut_refl s _

/-- A field of the register Q_FLT of queue `q`. -/
def IsQueueFault (q : Nat) (f : Field) : Prop := f.addr = 0x20401028 + 0x40 * min q 64 ∧ f.lo < 32

theorem isQueueFault_overrun (q : Nat) : IsQueueFault q (F.Q_FLT_OVERRUN q) := ⟨rfl, Nat.zero_lt_succ _⟩

theorem isQueueFault_trunc (q : Nat) : IsQueueFault q (F.Q_FLT_TRUNC q) := ⟨rfl, Nat.one_lt_succ_succ _⟩

/-- A fault shows nothing of what the queue holds, so it keeps its value. -/
theorem rd_furSync_of_isQueueFault {f : Field} {q : Nat} (hf : IsQueueFault q f) (s : State) :
    (furSync s q).rd f = s.rd f := by
  obtain ⟨haddr, hlo⟩ := hf
  refine regsBut_furSync s q f ?_
  simp only [syncFields, List.forall_mem_cons, Field.key, haddr, F.Q_LEVEL_LEVEL, F.Q_PKT_CNT_CNT,
    F.Q_CREDIT_CREDIT, F.Q_STAT_OPEN, F.Q_STAT_SPILLING, F.Q_STAT_SPILLED, F.Q_STAT_XOFF, F.FUR_FCL_STAT_LEVEL]
  refine ⟨?_, ?_, ?_, ?_, ?_, ?_, ?_, ?_, fun _ h => absurd h List.not_mem_nil⟩ <;> omega

/-- The parts that `furSync` may change. -/
def syncMask : Nat := partsMask [.out, .irqHeld, .rFurrow, .upd]

@[simp] theorem queue_furSync (s : State) (q j : Nat) : (furSync s q).queue j = s.queue j := by
  have hq : (furSync s q).q = s.q :=
    (furSync_within (K := syncMask) (by decide) (Within.refl _ s)).same .q (by decide)
  rw [State.queue, State.queue, hq]

/-! ## Storing one word -/

/-- The parts that `furPut` may change: the bytes of Furrow SRAM, and the bits that stand beside them. -/
def putMask : Nat := partsMask [.mem, .furBits]

theorem furPut_within_self (s : State) (w : QWord) : Within putMask s (furPut s w) :=
  furPut_within (by decide) (Within.refl _ s)

@[simp] theorem furPut_now (s : State) (w : QWord) : (furPut s w).now = s.now :=
  (furPut_within_self s w).same .now (by decide)

/-- An operation that leaves Furrow's registers leaves the faults of its queues. -/
theorem Within.rd_eq_of_isQueueFault {K : Nat} {s t : State} (h : Within K s t) (hK : K.testBit Part.rFurrow.bit = false)
    {f : Field} {q : Nat} (hf : IsQueueFault q f) : t.rd f = s.rd f := by
  obtain ⟨haddr, hlo⟩ := hf
  refine h.same .rFurrow hK f ?_ ?_ ?_ <;>
    simp only [Field.key, haddr, F.GIRTH_MODE_MODE, F.GIRTH_MODE_SUBSTATE] <;> omega

/-- The packet that the next word of a queue belongs to (R234). -/
def QueueSt.current (x : QueueSt) : QPacket := x.opn.getD ⟨x.prio, []⟩

theorem QueueSt.current_of_some {x : QueueSt} {k : QPacket} (h : x.opn = some k) : x.current = k := by
  simp [QueueSt.current, h]

theorem QueueSt.current_of_none {x : QueueSt} (h : x.opn = none) : x.current = ⟨x.prio, []⟩ := by
  simp [QueueSt.current, h]

/-- The place that the next word of queue `q` takes, where the filling bank has room for it. -/
def storePos (s : State) (q : Nat) : Option Nat :=
  if (s.queue q).used < bankWords s q then some (furPos s q) else none

/-- A queue with credit has room in its filling bank. -/
theorem storePos_of_credit {s : State} {q : Nat} (h : queueCredit s q ≠ 0) : storePos s q = some (furPos s q) := by
  have hroom : (s.queue q).used < bankWords s q := by
    by_contra hfull
    have hfree : queueFree s q = 0 := by
      simp only [queueFree]
      split <;> omega
    exact h (by simp [queueCredit, hfree])
  exact if_pos hroom

/-- A word that has END, or is the MAXPKT-th, closes its packet; a word that came without END is also
poisoned (R235). -/
theorem queue_furStore_close {s : State} {q : Nat} {last : Bool}
    (hend : last = true ∨ maxPkt s q ≤ (s.queue q).current.words.length + 1) (d : Word) (poison : Bool) :
    (furStore s q d last poison).queue q =
      { s.queue q with
        opn := none, poisonNext := false, wordAt := s.now,
        fill := (s.queue q).fill ++ [{ (s.queue q).current with
          words := (s.queue q).current.words ++
            [⟨d, true, poison || !last || (s.queue q).poisonNext, storePos s q⟩] }] } := by
  have htrunc : (!last && decide (maxPkt s q ≤ (s.queue q).current.words.length + 1)) = !last := by
    rcases hend with rfl | hmax
    · rfl
    · rw [decide_eq_true hmax, Bool.and_true]
  rw [QueueSt.current] at htrunc
  simp only [furStore, htrunc, queue_furSync, State.queue_setQueue_self, Bool.or_not_self, if_true,
    QueueSt.current, storePos]
  cases last <;> simp

/-- A word without END below MAXPKT leaves its packet open. -/
theorem queue_furStore_open {s : State} {q : Nat} (hlen : (s.queue q).current.words.length + 1 < maxPkt s q) (d : Word)
    (poison : Bool) :
    (furStore s q d false poison).queue q =
      { s.queue q with
        poisonNext := false, wordAt := s.now,
        opn := some { (s.queue q).current with
          words := (s.queue q).current.words ++ [⟨d, false, poison || (s.queue q).poisonNext, storePos s q⟩] } } := by
  have htrunc : decide (maxPkt s q ≤ (s.queue q).current.words.length + 1) = false := decide_eq_false (by omega)
  rw [QueueSt.current] at htrunc
  simp [furStore, htrunc, QueueSt.current, storePos]

/-- The MAXPKT-th word without END sets TRUNC (R235). -/
theorem rd_furStore_trunc {s : State} {q : Nat} (hmax : maxPkt s q ≤ (s.queue q).current.words.length + 1) (d : Word)
    (poison : Bool) : (furStore s q d false poison).rd (F.Q_FLT_TRUNC q) = 1 := by
  have htrunc : (!false && decide (maxPkt s q ≤ (s.queue q).current.words.length + 1)) = true := decide_eq_true hmax
  rw [QueueSt.current] at htrunc
  simp only [furStore, htrunc, if_true, rd_furSync_of_isQueueFault (isQueueFault_trunc q), State.rd_setQueue,
    State.rd_wr_self]
  rfl

/-- A word with END leaves the faults of its queue. -/
theorem rd_furStore_end_of_isQueueFault {f : Field} {q : Nat} (hf : IsQueueFault q f) (s : State) (d : Word)
    (poison : Bool) : (furStore s q d true poison).rd f = s.rd f := by
  simp only [furStore, Bool.not_true, Bool.false_and, Bool.false_eq_true, if_false, rd_furSync_of_isQueueFault hf,
    State.rd_setQueue]
  exact (furPut_within_self s _).rd_eq_of_isQueueFault (by decide) hf

theorem furAbort_of_none {s : State} {q : Nat} (h : (s.queue q).opn = none) : furAbort s q = s := by
  simp [furAbort, h]

theorem furAbort_of_some {s : State} {q : Nat} {k : QPacket} (h : (s.queue q).opn = some k) :
    furAbort s q = furStore s q 0 true true := by
  simp [furAbort, h]

/-! ## A producer write -/

theorem classN_of_furrow {a : Nat} (ha : a / 0x100000 = 0x204) : classN a = false := by
  have hlow : ¬ 0x1000000000 ≤ a := by omega
  simp [classN, ha, hlow]

/-- A posted write of a live window that is answered 0 or 0x0305 ends as it stands: neither is a failure after its
acceptance (R422). -/
theorem hostWrite_of_live {s t : State} {a : Nat} (r : Req) (hlive : windowDead s a = false) (hclass : classN a = false)
    (hanswer : t.resp.status = 0 ∨ t.resp.status = 0x0305) : hostWrite s r a t = t := by
  have hend : accessEnd t r.issuer true a = t := by
    rcases hanswer with h | h <;> simp [accessEnd, h]
  simp [hostWrite, hostRow, hlive, hclass, hend]

theorem furProduce_of_no_credit {s : State} {r : Req} {q : Nat} (hprod : isProducer s r q = true)
    (hcredit : queueCredit s q = 0) (d : Word) (last : Bool) :
    furProduce s r q d last = (furAbort (s.wr (F.Q_FLT_OVERRUN q) 1) q).status 0x0305 := by
  simp [furProduce, hprod, hcredit]

theorem furProduce_of_credit {s : State} {r : Req} {q : Nat} (hprod : isProducer s r q = true)
    (hcredit : queueCredit s q ≠ 0) (d : Word) (last : Bool) :
    furProduce s r q d last = (furStore s q d last false).status 0 := by
  simp [furProduce, hprod, hcredit]

theorem furProduce_status {s : State} {r : Req} {q : Nat} (hprod : isProducer s r q = true) (d : Word) (last : Bool) :
    (furProduce s r q d last).resp.status = 0 ∨ (furProduce s r q d last).resp.status = 0x0305 := by
  by_cases hcredit : queueCredit s q = 0
  · exact .inr (by rw [furProduce_of_no_credit hprod hcredit]; rfl)
  · exact .inl (by rw [furProduce_of_credit hprod hcredit]; rfl)

theorem exec_qWr_of_live {s : State} {r : Req} {q : Fin 64} (hlive : windowDead s (0x20480008 + 0x1000 * q) = false)
    (hprod : isProducer s r q = true) (d : Word) : exec (.qWr r q d) s = .next (furProduce s r q d false) :=
  congrArg _ (hostWrite_of_live r hlive (classN_of_furrow (by omega)) (furProduce_status hprod d false))

theorem exec_qWrEnd_of_live {s : State} {r : Req} {q : Fin 64} (hlive : windowDead s (0x2048000C + 0x1000 * q) = false)
    (hprod : isProducer s r q = true) (d : Word) : exec (.qWrEnd r q d) s = .next (furProduce s r q d true) :=
  congrArg _ (hostWrite_of_live r hlive (classN_of_furrow (by omega)) (furProduce_status hprod d true))

/-- Without credit the two registers of the page refuse a word alike (R235). -/
theorem exec_producerPage_of_no_credit {s : State} {r : Req} {q : Fin 64} {d : Word} {c : Instr}
    (hc : c = .qWr r q d ∧ windowDead s (0x20480008 + 0x1000 * q) = false ∨
      c = .qWrEnd r q d ∧ windowDead s (0x2048000C + 0x1000 * q) = false)
    (hprod : isProducer s r q = true) (hcredit : queueCredit s q = 0) :
    exec c s = .next ((furAbort (s.wr (F.Q_FLT_OVERRUN q) 1) q).status 0x0305) := by
  rcases hc with ⟨rfl, hlive⟩ | ⟨rfl, hlive⟩
  · rw [exec_qWr_of_live hlive hprod, furProduce_of_no_credit hprod hcredit]
  · rw [exec_qWrEnd_of_live hlive hprod, furProduce_of_no_credit hprod hcredit]

/-- Settles O27: without credit the abort of R235 is the store of a zero word with END; with credit the length of the
current packet decides whether the store closes it. -/
theorem furrowCredit : Obligations.FurrowCredit := by
  refine ⟨fun s r q d c hc hprod hcredit hopn => ?_, fun s r q d c k hc hprod hcredit hopn => ?_,
    fun s r q d k hlive hprod hcredit hopn hlen => ?_, fun s r q d hlive hprod hcredit hopn hmax => ?_⟩
  · have hopn' : ((s.wr (F.Q_FLT_OVERRUN q) 1).queue q).opn = none := hopn
    refine ⟨_, exec_producerPage_of_no_credit hc hprod hcredit, ?_⟩
    rw [furAbort_of_none hopn']
    exact ⟨rfl, State.rd_wr_self .., rfl, rfl, State.RegsBut_wr s _ (State.RegsBut_refl s _) List.mem_cons_self⟩
  · have hopn' : ((s.wr (F.Q_FLT_OVERRUN q) 1).queue q).opn = some k := hopn
    refine ⟨_, exec_producerPage_of_no_credit hc hprod hcredit, ?_⟩
    rw [furAbort_of_some hopn']
    refine ⟨rfl, ?_, storePos (s.wr (F.Q_FLT_OVERRUN q) 1) q, ?_⟩
    · rw [State.rd_status, rd_furStore_end_of_isQueueFault (isQueueFault_overrun q), State.rd_wr_self]
      rfl
    · rw [State.queue_status, queue_furStore_close (.inl rfl), State.queue_wr, QueueSt.current_of_some hopn]
      rfl
  · have hcur : (s.queue q).current = k := QueueSt.current_of_some hopn
    have hmax : maxPkt s q ≤ (s.queue q).current.words.length + 1 := by rw [hcur, hlen]
    refine ⟨_, exec_qWr_of_live hlive hprod d, ?_⟩
    rw [furProduce_of_credit hprod hcredit]
    refine ⟨rfl, rd_furStore_trunc hmax d false, ?_⟩
    rw [State.queue_status, queue_furStore_close (.inr hmax), hcur, storePos_of_credit hcredit]
    rfl
  · have hcur : (s.queue q).current = ⟨(s.queue q).prio, []⟩ := QueueSt.current_of_none hopn
    have hlen : (s.queue q).current.words.length + 1 < maxPkt s q := by rwa [hcur]
    refine ⟨_, exec_qWr_of_live hlive hprod d, ?_⟩
    rw [furProduce_of_credit hprod hcredit]
    refine ⟨rfl, ?_⟩
    rw [State.queue_status, queue_furStore_open hlen, hcur, storePos_of_credit hcredit, Bool.false_or]
    rfl

end Sys2Proof.Machine
end

section
/-! What one step keeps: the frame of every command, read off `exec_within`, and that of a tick, read off
`clock_within`. -/

namespace Sys2Proof.Machine

/-- What a command that completes leaves alone, and that nothing recorded is taken back. -/
theorem within_of_exec {c : Instr} {s t : State} (h : exec c s = .next t) : Within (partsMask c.parts) s t :=
  exec_within c s t h

theorem Within.canon {K : Nat} {s t : State} (h : Within K s t) (hs : s.Canon) : t.Canon :=
  ⟨h.mem_wf hs.mem, h.regs_wf hs.regs⟩

/-- The parts that a tick may change are among all parts. -/
theorem clock_within_all (s : State) : Within (partsMask Part.all) s (clock s) :=
  clock_within (by decide) (Within.refl _ s)

/-- A meaning answers a next state: neither a fault nor a refusal. -/
def Completes (r : Res) : Prop := ∃ t, r = .next t

theorem completes_next (t : State) : Completes (.next t) := ⟨t, rfl⟩

theorem Completes.ite {p : Prop} [Decidable p] {r r' : Res} (h : Completes r) (h' : Completes r') :
    Completes (if p then r else r') := by
  split <;> assumption

/-- Every meaning is a next state; ten of them choose it behind a condition on the state. -/
theorem exec_completes (c : Instr) (s : State) : Completes (exec c s) := by
  cases c
  case canrefSync | canrefFup | bankHot | bankNormal | lsReleaseRequest | partnerTmoExpiry | reclaimExpiry |
      dioRawTransition =>
    exact (completes_next _).ite (completes_next _)
  case lsOverlapEnd => exact (completes_next _).ite ((completes_next _).ite (completes_next _))
  case gwTableActivate =>
    simp only [exec, execGwTableActivate]
    cases s.gw.pend <;> exact completes_next _
  all_goals exact completes_next _

/-- A step is a command on the rest of the queue or a tick. -/
theorem step_eq (s : State) : (s.pending = [] ∧ step s = .next (clock s)) ∨
    ∃ c rest, s.pending = c :: rest ∧ step s = exec c { s with pending := rest } := by
  unfold step
  cases h : s.pending with
  | nil => exact .inl ⟨rfl, rfl⟩
  | cons c rest => exact .inr ⟨c, rest, rfl, rfl⟩

/-- Settles O58: a step is a command or a tick, and both keep the canonical forms and a legal mode. -/
theorem formKept : Obligations.FormKept := by
  intro s t hcanon hmode hstep
  rcases step_eq s with ⟨-, htick⟩ | ⟨c, rest, -, hexec⟩
  · obtain rfl : clock s = t := Host.Outcome.next.inj (htick.symm.trans hstep)
    have hw := clock_within_all s
    exact ⟨hw.canon hcanon, hw.mode_ok hmode⟩
  · have hw := within_of_exec (hexec.symm.trans hstep)
    exact ⟨hw.canon ⟨hcanon.mem, hcanon.regs⟩, hw.mode_ok hmode⟩

/-- Settles O57: every command completes, and `exec_within` says what its parts are. -/
theorem wholeFrame : Obligations.WholeFrame := by
  intro c s
  obtain ⟨t, ht⟩ := exec_completes c s
  have hw := within_of_exec ht
  exact ⟨t, ht, fun p hp => hw.same p (partsMask_bit _ _ hp), hw.out_pre, hw.faults_pre, hw.free_le⟩

theorem mode_reset : State.reset.mode = mSEATING := rfl

/-- Settles O59: a register file that lists nothing reads the reset value of every field. -/
theorem resetForm : Obligations.ResetForm := by
  refine ⟨⟨rfl, rfl⟩, ?_, mode_reset, rfl, rfl, rfl, rfl, rfl, rfl, fun _ => rfl⟩
  rw [State.ModeLegal, mode_reset]
  decide

/-- The parts that the stages of a tick behind the clocks may change: neither the tick count nor the queue. -/
def clockMask : Nat := partsMask (Part.allBut [.now, .pending])

theorem clock_within_tick (s : State) : Within clockMask (tick s) (clock s) := by
  unfold clock
  apply handoffStep_within (by decide)
  apply nsSync_within (by decide)
  apply quarStep_within (by decide)
  apply tilTick_within (by decide)
  apply segTick_within (by decide)
  apply brTick_within (by decide)
  apply slotCatchups_within (by decide)
  apply hostStep_within (by decide)
  exact Within.refl _ _

/-- The state in which the stages of `tick` begin: the next tick, with no meeting and no update noted in it. -/
def nextTick (s : State) : State :=
  { s with now := s.now + 1, upd := [], arb := s.arb.map fun e => (e.1, (e.2.2, e.2.2)) }

theorem tick_within_nextTick (s : State) : Within clockMask (nextTick s) (tick s) := by
  unfold tick
  apply armTick_within (by decide)
  apply furTick_within (by decide)
  apply ptTick_within (by decide)
  apply slewTick_within (by decide)
  apply accTick_within (by decide)
  exact Within.refl _ _

theorem clock_now (s : State) : (clock s).now = s.now + 1 :=
  ((clock_within_tick s).same .now (by decide)).trans ((tick_within_nextTick s).same .now (by decide))

theorem clock_pending (s : State) : (clock s).pending = s.pending :=
  ((clock_within_tick s).same .pending (by decide)).trans ((tick_within_nextTick s).same .pending (by decide))

/-- Settles O60: `step` looks at the front of the queue alone; every stage of a tick behind the count keeps the count. -/
theorem stepFront : Obligations.StepFront := by
  refine ⟨fun _ _ _ => rfl, fun s hempty => ⟨clock s, ?_, ?_, clock_now s⟩⟩
  · rw [step, hempty]
  · rw [clock_pending, hempty]

end Sys2Proof.Machine
end

section
/-! Rules used by the proofs of every family: what a frame says of one register field, the register frames of `OnlyRegs`
and `RegsBut` under each named operation, and what an access to a window in service comes to. -/

namespace Sys2Proof.Machine

/-! ## One field under a frame -/

/-- An operation whose mask lacks a window leaves every field of the window. -/
theorem Within.rd_eq {K : Nat} {s t : State} (h : Within K s t) {f : Field} {i : Nat} (hf : Blk f i)
    (hi : 41 < i ∧ i < 60) (hK : K.testBit i = false) : t.rd f = s.rd f := by
  have hmode : f.key ≠ F.GIRTH_MODE_MODE.key := hf.ne_mode (by omega)
  have hsub : f.key ≠ F.GIRTH_MODE_SUBSTATE.key := by
    intro e
    rw [Blk, regPart, if_neg hmode, if_pos e] at hf
    omega
  rw [Blk, regPart_of_ne hmode hsub] at hf
  have hw : f.key / (32 * 0x100000) = 0x200 + (i - 41) := by omega
  obtain ⟨hlo, hhi⟩ := hi
  interval_cases i
  · exact h.same .rPlant hK f hw hmode hsub
  · exact h.same .rLatigo hK f hw hmode hsub
  · exact h.same .rMsr hK f hw hmode hsub
  · exact h.same .rFurrow hK f hw hmode hsub
  · exact h.same .rTilth hK f hw hmode hsub
  · exact h.same .rPommel hK f hw hmode hsub
  · exact h.same .rLs hK f hw hmode hsub
  · exact h.same .rStirrup hK f hw hmode hsub
  · exact h.same .rDio hK f hw hmode hsub
  · exact h.same .rCan hK f hw hmode hsub
  · exact h.same .rGateway hK f hw hmode hsub
  · exact h.same .rPlots hK f hw hmode hsub
  · exact h.same .rCloche hK f hw hmode hsub
  · exact h.same .rGirth hK f hw hmode hsub
  · exact h.same .rEth hK f hw hmode hsub
  · exact h.same .rBridle hK f hw hmode hsub
  · exact h.same .rGraft hK f hw hmode hsub
  · exact h.same .rIdent hK f hw hmode hsub

theorem Within.mode_eq {K : Nat} {s t : State} (h : Within K s t) (hK : K.testBit 0 = false) : t.mode = s.mode :=
  h.same .mode hK

/-! ## Register frames -/

theorem State.RegsBut.mono {s t : State} {fs gs : List Field} (h : s.RegsBut t fs) (hsub : fs ⊆ gs) : s.RegsBut t gs :=
  fun f hf => h f fun g hg => hf g (hsub hg)

theorem State.RegsBut.trans {s t u : State} {fs : List Field} (h : s.RegsBut t fs) (h' : t.RegsBut u fs) :
    s.RegsBut u fs := fun f hf => (h' f hf).trans (h f hf)

/-- Setting one field of the list in the register file keeps the frame. -/
theorem State.RegsBut.set {s t u : State} {fs : List Field} {g : Field} {v : Nat} (h : s.RegsBut t fs) (hg : g ∈ fs)
    (hu : u.regs = t.regs.set g.key v) : s.RegsBut u fs := fun f hf => by
  rw [← h f hf, State.rd, State.rd, hu]
  exact SMap.get_set_ne _ _ _ (hf g hg)

theorem State.OnlyRegs.refl (s : State) (fs : List Field) : s.OnlyRegs s fs := ⟨s.RegsBut_refl fs, rfl⟩

theorem State.OnlyRegs.mono {s t : State} {fs gs : List Field} (h : s.OnlyRegs t fs) (hsub : fs ⊆ gs) : s.OnlyRegs t gs :=
  ⟨h.regs.mono hsub, h.rest⟩

theorem State.OnlyRegs.trans {s t u : State} {fs : List Field} (h : s.OnlyRegs t fs) (h' : t.OnlyRegs u fs) :
    s.OnlyRegs u fs := by
  refine ⟨h.regs.trans h'.regs, ?_⟩
  have ht := h.rest
  rw [h'.rest, ht]

section
variable {s t : State} {fs : List Field} {g : Field}

theorem State.OnlyRegs.set {v : Nat} {u : SMap (Nat × Nat)} (h : s.OnlyRegs t fs) (hg : g ∈ fs) :
    s.OnlyRegs { t with regs := t.regs.set g.key v, upd := u } fs :=
  h.trans ⟨(t.RegsBut_refl fs).set hg rfl, rfl⟩

theorem State.OnlyRegs.wr (h : s.OnlyRegs t fs) (hg : g ∈ fs) (v : Nat) : s.OnlyRegs (t.wr g v) fs := h.set hg
theorem State.OnlyRegs.wrB (h : s.OnlyRegs t fs) (hg : g ∈ fs) (x : Bool) : s.OnlyRegs (t.wrB g x) fs := h.set hg
theorem State.OnlyRegs.wrI (h : s.OnlyRegs t fs) (hg : g ∈ fs) (x : Int) : s.OnlyRegs (t.wrI g x) fs := h.set hg
theorem State.OnlyRegs.put (h : s.OnlyRegs t fs) (hg : g ∈ fs) (v : Nat) : s.OnlyRegs (t.put g v) fs := h.set hg
theorem State.OnlyRegs.hwWr (h : s.OnlyRegs t fs) (hg : g ∈ fs) (v : Nat) : s.OnlyRegs (t.hwWr g v) fs := h.set hg
theorem State.OnlyRegs.incSat (h : s.OnlyRegs t fs) (hg : g ∈ fs) : s.OnlyRegs (t.incSat g) fs := h.set hg
theorem State.OnlyRegs.incWrap (h : s.OnlyRegs t fs) (hg : g ∈ fs) : s.OnlyRegs (t.incWrap g) fs := h.set hg
theorem State.OnlyRegs.setBit (h : s.OnlyRegs t fs) (hg : g ∈ fs) (i : Nat) : s.OnlyRegs (t.setBit g i) fs := h.set hg
theorem State.OnlyRegs.clrBit (h : s.OnlyRegs t fs) (hg : g ∈ fs) (i : Nat) : s.OnlyRegs (t.clrBit g i) fs := h.set hg

theorem State.OnlyRegs.putBit (h : s.OnlyRegs t fs) (hg : g ∈ fs) (i : Nat) (b : Bool) :
    s.OnlyRegs (t.putBit g i b) fs := by
  cases b
  · exact h.clrBit hg i
  · exact h.setBit hg i

theorem State.OnlyRegs.subSync (h : s.OnlyRegs t fs) (hext : F.SEAT_STAT_EXTRACT_OK ∈ fs)
    (hsub : F.GIRTH_MODE_SUBSTATE ∈ fs) : s.OnlyRegs (subSync t) fs := (h.wrB hext _).wr hsub _

end

/-! ## Reading past an operation on another field -/

section
variable (s : State) {f g : Field}

theorem State.rd_wrBits_ne (v x : Nat) (h : f.key ≠ g.key) : (s.wrBits g v x).rd f = s.rd f := SMap.get_set_ne _ _ _ h
theorem State.rd_wrB_ne (x : Bool) (h : f.key ≠ g.key) : (s.wrB g x).rd f = s.rd f := SMap.get_set_ne _ _ _ h
theorem State.rd_wrI_ne (x : Int) (h : f.key ≠ g.key) : (s.wrI g x).rd f = s.rd f := SMap.get_set_ne _ _ _ h
theorem State.rd_put_ne (v : Nat) (h : f.key ≠ g.key) : (s.put g v).rd f = s.rd f := SMap.get_set_ne _ _ _ h
theorem State.rd_hwWr_ne (v : Nat) (h : f.key ≠ g.key) : (s.hwWr g v).rd f = s.rd f := SMap.get_set_ne _ _ _ h
theorem State.rd_incSat_ne (h : f.key ≠ g.key) : (s.incSat g).rd f = s.rd f := SMap.get_set_ne _ _ _ h
theorem State.rd_incWrap_ne (h : f.key ≠ g.key) : (s.incWrap g).rd f = s.rd f := SMap.get_set_ne _ _ _ h
theorem State.rd_setBit_ne (i : Nat) (h : f.key ≠ g.key) : (s.setBit g i).rd f = s.rd f := SMap.get_set_ne _ _ _ h
theorem State.rd_clrBit_ne (i : Nat) (h : f.key ≠ g.key) : (s.clrBit g i).rd f = s.rd f := SMap.get_set_ne _ _ _ h

theorem State.rd_putBit_ne (i : Nat) (b : Bool) (h : f.key ≠ g.key) : (s.putBit g i b).rd f = s.rd f := by
  cases b
  · exact s.rd_clrBit_ne i h
  · exact s.rd_setBit_ne i h

/-- A field reads as it was written where the value fits its width. -/
theorem State.rd_wr_of_lt {v : Nat} (h : v < 2 ^ f.w) : (s.wr f v).rd f = v := by
  rw [State.rd_wr_self, Nat.mod_eq_of_lt h]

end

/-! ## Bits of a field -/

theorem State.bit_congr {s t : State} {f : Field} (h : t.rd f = s.rd f) (i : Nat) : t.bit f i = s.bit f i := by
  rw [State.bit, State.bit, h]

theorem State.bit_wr_self (s : State) (f : Field) (v i : Nat) : (s.wr f v).bit f i = (decide (i < f.w) && v.testBit i) := by
  rw [State.bit, State.rd_wr_self, Nat.testBit_mod_two_pow]

theorem State.bit_setBit (s : State) (f : Field) (i j : Nat) :
    (s.setBit f i).bit f j = (decide (j < f.w) && (s.bit f j || decide (i = j))) := by
  have h : (s.setBit f i).bit f j = (s.wr f (s.rd f ||| 2 ^ i)).bit f j := rfl
  rw [h, State.bit_wr_self, Nat.testBit_or, Nat.testBit_two_pow, State.bit]

theorem State.bit_clrBit (s : State) (f : Field) (i j : Nat) :
    (s.clrBit f i).bit f j = (decide (j < f.w) && (s.bit f j && decide (i ≠ j))) := by
  rw [State.clrBit, State.bit_wr_self, State.bit]
  by_cases hij : i = j
  · subst hij
    cases hb : (s.rd f).testBit i <;> simp [hb]
  · cases hb : (s.rd f).testBit i <;> simp [hij]

theorem State.bit_putBit (s : State) (f : Field) (i j : Nat) (b : Bool) :
    (s.putBit f i b).bit f j = (decide (j < f.w) && if i = j then b else s.bit f j) := by
  cases b
  · rw [State.putBit, if_neg Bool.false_ne_true, State.bit_clrBit]
    by_cases hij : i = j <;> simp [hij]
  · rw [State.putBit, if_pos rfl, State.bit_setBit]
    by_cases hij : i = j <;> simp [hij]

/-! ## Accesses to a window -/

/-- A posted write that is not answered 0x0110, 0x0610 or 0x0611 ends as it stands. -/
theorem accessEnd_posted {t : State} {i a : Nat} (h : t.resp.status ≠ 0x0110) (h' : t.resp.status ≠ 0x0610)
    (h'' : t.resp.status ≠ 0x0611) : accessEnd t i true a = t := by
  simp only [accessEnd, Bool.not_true, Bool.false_eq_true, if_false, h, h', h'', or_self]
  split <;> rfl

/-- What is answered 0 ends as it stands, posted or not. -/
theorem accessEnd_ok {t : State} {i a : Nat} {posted : Bool} (h : t.resp.status = 0) : accessEnd t i posted a = t := by
  simp [accessEnd, h]

/-- A write of a live window that posts, and is answered neither 0x0110 nor 0x061x, ends as it stands. -/
theorem hostWrite_posted {s t : State} {a : Nat} (r : Req) (hlive : windowDead s a = false) (hclass : classN a = false)
    (h : t.resp.status ≠ 0x0110) (h' : t.resp.status ≠ 0x0610) (h'' : t.resp.status ≠ 0x0611) :
    hostWrite s r a t = t := by
  simp [hostWrite, hostRow, hlive, hclass, accessEnd_posted h h' h'']

/-- A write of a live window that is answered 0 ends as it stands. -/
theorem hostWrite_ok {s t : State} {a : Nat} (r : Req) (hlive : windowDead s a = false) (h : t.resp.status = 0) :
    hostWrite s r a t = t := by
  simp [hostWrite, hostRow, hlive, accessEnd_ok h]

/-- A read of a live window that is answered 0 ends as it stands. -/
theorem hostRead_ok {s t : State} {a : Nat} (r : Req) (hlive : windowDead s a = false) (h : t.resp.status = 0) :
    hostRead s r a t = t := by
  simp [hostRead, hostRow, hlive, accessEnd_ok h]

/-! ## Loops over channels -/

/-- What every round keeps, the loop keeps. -/
theorem forN_keeps {α : Type} (g : State → α) {f : Nat → State → State} {n : Nat} (hf : ∀ i < n, ∀ t, g (f i t) = g t)
    (s : State) : g (forN f n s) = g s := by
  induction n with
  | zero => rfl
  | succ m ih => exact (hf m (Nat.lt_succ_self m) _).trans (ih fun i hi => hf i (Nat.lt_succ_of_lt hi))

/-- Of a loop that touches what `g` reads in round `i` alone, only that round counts. -/
theorem forN_only {α : Type} (g : State → α) {f : Nat → State → State} {n i : Nat} (hi : i < n)
    (hf : ∀ j < n, j ≠ i → ∀ t, g (f j t) = g t) (s : State) : g (forN f n s) = g (f i (forN f i s)) := by
  induction n with
  | zero => omega
  | succ m ih =>
    by_cases hm : i = m
    · subst hm; rfl
    · have hlt : i < m := by omega
      exact (hf m (Nat.lt_succ_self m) (Ne.symm hm) _).trans (ih hlt fun j hj => hf j (Nat.lt_succ_of_lt hj))

end Sys2Proof.Machine
end

section
/-! The energy counters (R97, R98): what writing one counter does to it and to the others, and from it the integration
and the clearing of all thirteen. -/

namespace Sys2Proof.Machine

/-- What counter `b` holds, and what its ENERGY_LO shows. -/
def energyShown (b : Nat) (s : State) : Nat × Nat := (s.girth.energy.get b 0, s.rd (F.ENERGY_LO_E_LO b))

theorem energyShown_put_self (s : State) (b v : Nat) : energyShown b (energyPut s b v) = (v % 2 ^ 64, v % 2 ^ 32) :=
  Prod.ext (SMap.get_set_self ..) (State.rd_wr_self ..)

theorem energyShown_put_ne (s : State) {b c : Nat} (v : Nat) (hb : b < 13) (hc : c < 13) (h : c ≠ b) :
    energyShown b (energyPut s c v) = energyShown b s := by
  refine Prod.ext (SMap.get_set_ne _ _ _ h.symm) (State.rd_wr_ne _ _ ?_)
  simp only [Field.key, F.ENERGY_LO_E_LO]
  omega

/-- One round of a loop over the counters: those of `on` are put at `v` of what they hold. -/
def energyRound (on : Nat → Bool) (v : Nat → Nat → Nat) (b : Nat) (s : State) : State :=
  if on b then energyPut s b (v b (s.girth.energy.get b 0)) else s

theorem energyShown_round_ne {on : Nat → Bool} {v : Nat → Nat → Nat} {b c : Nat} (hb : b < 13) (hc : c < 13) (h : c ≠ b)
    (s : State) : energyShown b (energyRound on v c s) = energyShown b s := by
  unfold energyRound
  split
  · exact energyShown_put_ne _ _ hb hc h
  · rfl

/-- After the loop each counter of `on` holds its own `v`, the others what they held. -/
theorem energyShown_rounds {on : Nat → Bool} {v : Nat → Nat → Nat} {b : Nat} (hb : b < 13) (s : State) :
    energyShown b (forN (energyRound on v) 13 s) =
      if on b then (v b (s.girth.energy.get b 0) % 2 ^ 64, v b (s.girth.energy.get b 0) % 2 ^ 32) else energyShown b s := by
  have hbefore : energyShown b (forN (energyRound on v) b s) = energyShown b s :=
    forN_keeps (energyShown b) (fun c hc => energyShown_round_ne hb (by omega) (by omega)) s
  have hheld : (forN (energyRound on v) b s).girth.energy.get b 0 = s.girth.energy.get b 0 := congrArg Prod.fst hbefore
  rw [forN_only (energyShown b) hb fun c hc hcb => energyShown_round_ne hb hc hcb, energyRound]
  split
  · rw [energyShown_put_self, hheld]
  · exact hbefore

/-- The supply monitors are no counters. -/
theorem rd_rounds {f : Field} (hf : f.addr < 0x20E00100) (hlo : f.lo < 32) {v : Nat → Nat → Nat} (s : State) :
    (forN (energyRound (fun _ => true) v) 13 s).rd f = s.rd f := by
  refine forN_keeps (fun t => t.rd f) (fun b _ t => ?_) s
  have hkey : f.key ≠ (F.ENERGY_LO_E_LO b).key := by
    simp only [Field.key, F.ENERGY_LO_E_LO]
    omega
  simp only [energyRound, if_true, energyPut, State.rd_wr_ne _ _ hkey]
  rfl

/-- The four fields of the supply monitors, set from what was measured. -/
def supplyShown (s : State) (vin vla vlb : BitVec 16) (p : BitVec 20) : State :=
  (((s.wr F.VIN_MON_VIN vin.toNat).wr F.VL_MON_VLA vla.toNat).wr F.VL_MON_VLB vlb.toNat).wr F.MOD_POWER_P p.toNat

theorem exec_energyIntegrate {s : State} (h : s.girth.vin = true) (mj : List (BitVec 32)) (vin vla vlb : BitVec 16)
    (p : BitVec 20) : exec (.energyIntegrate mj vin vla vlb p) s =
      .next (forN (energyRound (fun _ => true) fun b x => x + (mj.getD b 0).toNat) 13 (supplyShown s vin vla vlb p)) := by
  simp only [exec, execEnergyIntegrate, h, if_true]
  rfl

/-- Settles O11: a round of either loop writes one counter and its ENERGY_LO, and no other's. -/
theorem energy : Obligations.Energy := by
  refine ⟨fun s mj vin vla vlb p h => ⟨_, exec_energyIntegrate h .., fun b hb => ?_, ?_, ?_, ?_, ?_⟩,
    fun s mj vin vla vlb p h => by simp [exec, execEnergyIntegrate, h],
    fun s b => ⟨_, rfl, rfl, State.rd_wr_self .., State.RegsBut_wr s _ (State.RegsBut_refl s _) List.mem_cons_self, rfl⟩,
    fun s mask => ⟨_, rfl, rfl, fun b hb => ?_⟩⟩
  · exact Prod.mk.inj (energyShown_rounds hb (supplyShown s vin vla vlb p))
  · rw [rd_rounds (by decide) (by decide)]
    simpa [supplyShown, State.rd_wr, Field.key, F.VIN_MON_VIN, F.VL_MON_VLA, F.VL_MON_VLB, F.MOD_POWER_P] using vin.isLt
  · rw [rd_rounds (by decide) (by decide)]
    simpa [supplyShown, State.rd_wr, Field.key, F.VIN_MON_VIN, F.VL_MON_VLA, F.VL_MON_VLB, F.MOD_POWER_P] using vla.isLt
  · rw [rd_rounds (by decide) (by decide)]
    simpa [supplyShown, State.rd_wr, Field.key, F.VIN_MON_VIN, F.VL_MON_VLA, F.VL_MON_VLB, F.MOD_POWER_P] using vlb.isLt
  · rw [rd_rounds (by decide) (by decide)]
    simpa [supplyShown, State.rd_wr, Field.key, F.VIN_MON_VIN, F.VL_MON_VLA, F.VL_MON_VLB, F.MOD_POWER_P] using p.isLt
  · have hclear := energyShown_rounds (on := mask.toNat.testBit) (v := fun _ _ => 0) hb s
    rw [BitVec.testBit_toNat] at hclear
    cases hbit : mask.getLsbD b
    · rw [hbit] at hclear
      exact Prod.mk.inj hclear
    · rw [hbit] at hclear
      exact Prod.mk.inj hclear

end Sys2Proof.Machine
end

section
/-! What a reset, a change of mode and the entry to HOLD leave: the fields of Girth that neither moves, the fields of the
SAFE domain under a reset of CORE, and the three fields that record a transition. -/

namespace Sys2Proof.Machine

/-! ## Fields that an operation spares -/

/-- Every field of `P`, and whether the next restart is cold, are in `t` as in `s`. -/
structure Spares (P : Field → Prop) (s t : State) : Prop where
  rd : ∀ f, P f → t.rd f = s.rd f
  cold : t.girth.coldNext = s.girth.coldNext

section
variable {P : Field → Prop} {b s t : State}

theorem Spares.refl (P : Field → Prop) (s : State) : Spares P s s := ⟨fun _ _ => rfl, rfl⟩

theorem Spares.trans {u : State} (h : Spares P s t) (h' : Spares P t u) : Spares P s u :=
  ⟨fun f hf => (h'.rd f hf).trans (h.rd f hf), h'.cold.trans h.cold⟩

/-- The same registers and the same `coldNext` spare everything. -/
theorem Spares.of_eq (h : Spares P b s) (hr : t.regs = s.regs) (hc : t.girth.coldNext = s.girth.coldNext) :
    Spares P b t :=
  h.trans ⟨fun f _ => State.rd_congr hr f, hc⟩

/-- New hidden state of the SAFE domain, and of Girth but for `coldNext`, spares the registers. -/
theorem Spares.safeParts {a tr pt po la ms ca} {g : GirthSt} (h : Spares P b s) (hc : g.coldNext = s.girth.coldNext) :
    Spares P b { s with arb := a, girth := g, trl := tr, pt := pt, pom := po, lat := la, msr := ms, cap := ca } :=
  h.of_eq rfl hc

theorem Spares.dropMem (lo hi : Nat) (h : Spares P b s) : Spares P b (s.dropMem lo hi) := h.of_eq rfl rfl

theorem Spares.wr {g : Field} {v : Nat} (h : Spares P b s) (hg : ∀ f, P f → f.key ≠ g.key) : Spares P b (s.wr g v) :=
  h.trans ⟨fun f hf => State.rd_wr_ne _ _ (hg f hf), rfl⟩

theorem Spares.setBit {g : Field} {i : Nat} (h : Spares P b s) (hg : ∀ f, P f → f.key ≠ g.key) :
    Spares P b (s.setBit g i) :=
  h.trans ⟨fun f hf => SMap.get_set_ne _ _ _ (hg f hf), rfl⟩

theorem Spares.resetWindows {ws : List (Nat × Nat)} (h : Spares P b s)
    (hw : ∀ f, P f → ∀ w ∈ ws, f.key < 32 * w.1 ∨ 32 * w.2 ≤ f.key) : Spares P b (s.resetWindows ws) := by
  unfold State.resetWindows
  induction ws generalizing s with
  | nil => exact h
  | cons w r ih =>
    refine ih (h.trans ⟨fun f hf => State.rd_resetRegs_out _ (hw f hf w List.mem_cons_self), rfl⟩) ?_
    exact fun f hf x hx => hw f hf x (List.mem_cons_of_mem _ hx)

theorem Spares.ite {c : Prop} [Decidable c] (h : Spares P b s) (ht : Spares P b s → Spares P b t) :
    Spares P b (if c then t else s) := by
  split
  · exact ht h
  · exact h

theorem Spares.forN {f : Nat → State → State} {n : Nat} (hf : ∀ i < n, ∀ t, Spares P t (f i t)) (h : Spares P b s) :
    Spares P b (forN f n s) := by
  induction n with
  | zero => exact h
  | succ m ih => exact (ih fun i hi => hf i (Nat.lt_succ_of_lt hi)).trans (hf m (Nat.lt_succ_self m) _)

theorem Spares.subSync (h : Spares P b s) (he : ∀ f, P f → f.key ≠ F.SEAT_STAT_EXTRACT_OK.key)
    (hs : ∀ f, P f → f.key ≠ F.GIRTH_MODE_SUBSTATE.key) : Spares P b (subSync s) :=
  (h.wr (g := F.SEAT_STAT_EXTRACT_OK) he).wr hs

end

/-! ## Resets -/

/-- The fields of Girth that a reset or a transition moves. -/
def girthMoved : List Field :=
  [F.GIRTH_MODE_MODE, F.GIRTH_MODE_PREV_MODE, F.GIRTH_MODE_CAUSE, F.GIRTH_MODE_SUBSTATE, F.SEAT_STAT_EXTRACT_OK,
    F.XING_STAT_SERVICE, F.BLK_RST_STAT_BUSY, F.RST_CAUSE_SAFE, F.RST_CAUSE_CORE]

/-- A field of Girth's window that is none of those. -/
def GirthStays (f : Field) : Prop := f.key / (32 * 0x100000) = 0x20E ∧ ∀ g ∈ girthMoved, f.key ≠ g.key

theorem GirthStays.ne {f g : Field} (h : GirthStays f) (hg : g ∈ girthMoved) : f.key ≠ g.key := h.2 g hg

/-- An operation that touches neither Girth's window nor what Girth holds besides spares both. -/
theorem Spares.within {K : Nat} {b s t : State} (h : Spares GirthStays b s) (hw : Within K s t)
    (hK : K.testBit Part.rGirth.bit = false) (hK' : K.testBit Part.girth.bit = false) : Spares GirthStays b t :=
  h.trans ⟨fun _ hf => hw.rd_girth_eq hK hf.1 (hf.ne (by decide)) (hf.ne (by decide)),
    congrArg GirthSt.coldNext (hw.girth_eq hK')⟩

/-- A field that a reset of CORE leaves: of the SAFE domain, or one of Girth that stays. -/
def CoreSpared (f : Field) : Prop :=
  (f.key / (32 * 0x100000) = 0x200 ∨ f.key / (32 * 0x100000) = 0x201 ∨ f.key / (32 * 0x100000) = 0x202 ∨
    f.key / (32 * 0x100000) = 0x203 ∨ f.key / (32 * 0x100000) = 0x206) ∨ GirthStays f

theorem CoreSpared.ne {f g : Field} (hf : CoreSpared f)
    (hg : g.key / (32 * 0x100000) = 0x204 ∨ g.key / (32 * 0x100000) = 0x205 ∨ 0x207 ≤ g.key / (32 * 0x100000) ∧ g.key / (32 * 0x100000) ≠ 0x20E ∨ g ∈ girthMoved) :
    f.key ≠ g.key := by
  rintro e
  rcases hf with hf | hf
  · rw [e] at hf
    rcases hg with hg | hg | hg | hg
    · omega
    · omega
    · omega
    · have : ∀ g ∈ girthMoved, g.key / (32 * 0x100000) = 0x20E := by decide
      have := this g hg
      omega
  · have hw := hf.1
    rw [e] at hw
    rcases hg with hg | hg | hg | hg
    · omega
    · omega
    · omega
    · exact hf.ne hg e

theorem CoreSpared.out {f : Field} (hf : CoreSpared f) {lo hi : Nat}
    (hr : 0x20400000 ≤ lo ∧ hi ≤ 0x20600000 ∨ 0x20700000 ≤ lo ∧ hi ≤ 0x20E00000 ∨ 0x20F00000 ≤ lo) :
    f.key < 32 * lo ∨ 32 * hi ≤ f.key := by
  rcases hf with hf | ⟨hf, -⟩ <;> omega

/-- An operation whose mask lacks every part that holds a spared field spares them. -/
theorem Spares.coreWithin {K : Nat} {b s t : State} (h : Spares CoreSpared b s) (hw : Within K s t)
    (hK : ∀ p ∈ [Part.rTrellis, .rPlant, .rLatigo, .rMsr, .rPommel, .rGirth, .girth], K.testBit p.bit = false) :
    Spares CoreSpared b t := by
  simp only [List.forall_mem_cons, List.not_mem_nil, false_imp_iff, implies_true, and_true] at hK
  obtain ⟨hT, hP, hL, hM, hPom, hG, hg⟩ := hK
  refine h.trans ⟨fun f hf => ?_, congrArg GirthSt.coldNext (hw.girth_eq hg)⟩
  have hm := hf.ne (g := F.GIRTH_MODE_MODE) (.inr (.inr (.inr (by decide))))
  have hs := hf.ne (g := F.GIRTH_MODE_SUBSTATE) (.inr (.inr (.inr (by decide))))
  rcases hf with (hf | hf | hf | hf | hf) | ⟨hf, -⟩
  · exact hw.same .rTrellis hT f hf hm hs
  · exact hw.same .rPlant hP f hf hm hs
  · exact hw.same .rLatigo hL f hf hm hs
  · exact hw.same .rMsr hM f hf hm hs
  · exact hw.same .rPommel hPom f hf hm hs
  · exact hw.same .rGirth hG f hf hm hs

theorem resetLs_spares (s : State) : Spares CoreSpared s (resetLs s) := by
  refine Spares.forN (fun n hn t => ?_) ((Spares.refl _ s).resetWindows fun f hf w hw => ?_)
  · refine ((Spares.refl _ t).resetWindows fun f hf w hw => ?_).wr fun f hf => hf.ne (.inr (.inr (.inl ?_)))
    · simp only [List.mem_cons, List.not_mem_nil, or_false] at hw
      rcases hw with rfl | rfl | rfl <;> exact hf.out (.inr (.inl (by omega)))
    · simp only [Field.key, F.LS_STAT_MEMBER]
      omega
  · simp only [List.mem_cons, List.not_mem_nil, or_false] at hw
    rcases hw with rfl | rfl | rfl <;> exact hf.out (.inr (.inl (by omega)))

theorem resetDio_spares (s : State) : Spares CoreSpared s (resetDio s) := by
  refine Spares.forN (fun n hn t => ?_) ((Spares.refl _ s).resetWindows fun f hf w hw => ?_)
  · refine Spares.of_eq (((Spares.refl _ t).resetWindows (ws := [(0x20901000 + 64 * n, 0x2090100C + 64 * n), (0x20901010 + 64 * n, 0x2090102C + 64 * n)]) fun f hf w hw => ?_).wr (g := F.DIO_STAT_MEMBER n) (v := 0)
      fun f hf => hf.ne (.inr (.inr (.inl ?_)))) rfl rfl
    · simp only [List.mem_cons, List.not_mem_nil, or_false] at hw
      rcases hw with rfl | rfl <;> exact hf.out (.inr (.inl (by omega)))
    · simp only [Field.key, F.DIO_STAT_MEMBER]
      omega
  · simp only [List.mem_cons, List.not_mem_nil, or_false] at hw
    rcases hw with rfl | rfl <;> exact hf.out (.inr (.inl (by omega)))

theorem degrade_spares {P : Field → Prop} {b s : State} (src : Nat) (x : Bool) (h : Spares P b s)
    (he : ∀ f, P f → f.key ≠ F.SEAT_STAT_EXTRACT_OK.key) (hs : ∀ f, P f → f.key ≠ F.GIRTH_MODE_SUBSTATE.key) :
    Spares P b (s.degrade src x) := by
  unfold State.degrade
  exact Spares.subSync (h.of_eq rfl rfl) he hs

theorem moved_ne {g : Field} (hg : g ∈ girthMoved) : ∀ f, CoreSpared f → f.key ≠ g.key :=
  fun _ hf => hf.ne (.inr (.inr (.inr hg)))

theorem resetTilth_spares (s : State) : Spares CoreSpared s (resetTilth s) := by
  have hT : ∀ g : Field, g.key / (32 * 0x100000) = 0x205 → ∀ f, CoreSpared f → f.key ≠ g.key :=
    fun g hg f hf => hf.ne (.inr (.inl hg))
  unfold resetTilth
  refine (((((Spares.wr ?_ (hT _ (by decide))).wr (hT _ (by decide))).wr (hT _ (by decide))).wr (hT _ (by decide))).wr
    (hT _ (by decide))).wr (hT _ (by decide))
  refine degrade_spares _ _ ?_ (moved_ne (by decide)) (moved_ne (by decide))
  exact Spares.of_eq (s := s.resetRegs 0x20500000 0x20600000)
    ⟨fun f hf => State.rd_resetRegs_out _ (hf.out (.inl (by omega))), rfl⟩ rfl rfl

theorem blkWindow_out {f : Field} (hf : CoreSpared f) {b : Nat} : ∀ w ∈ blkWindow b, f.key < 32 * w.1 ∨ 32 * w.2 ≤ f.key := by
  intro w hw
  unfold blkWindow at hw
  split at hw
  · simp only [List.mem_singleton] at hw; subst hw; exact hf.out (.inl (by omega))
  · simp only [List.mem_singleton] at hw; subst hw; exact hf.out (.inr (.inl (by omega)))
  · simp only [List.mem_singleton] at hw; subst hw; exact hf.out (.inr (.inr (by omega)))
  · simp only [List.mem_singleton] at hw; subst hw; exact hf.out (.inr (.inr (by omega)))
  · split at hw
    · simp only [List.mem_cons, List.not_mem_nil, or_false] at hw
      rcases hw with rfl | rfl | rfl <;> exact hf.out (.inr (.inl (by omega)))
    · exact absurd hw List.not_mem_nil

/-- The parts that the registers of a CAN controller and what they post may change. -/
def canSyncMask : Nat := partsMask [.mem, .out, .irqHeld, .q, .can, .rFurrow, .rCan, .upd, .furBits]

/-- A block's reset leaves the SAFE domain, and of Girth moves BUSY, EXTRACT_OK and the substate alone. -/
theorem resetBlk_spares (b : Nat) (s : State) : Spares CoreSpared s (resetBlk b s) := by
  unfold resetBlk
  extract_lets s₁ s₂ s₃ g s₄ p s₅ s₆ g'
  have h₁ : Spares CoreSpared s s₁ := by
    unfold s₁
    split
    · exact resetTilth_spares s
    · exact (Spares.refl _ s).resetWindows fun f hf => blkWindow_out hf
  have h₂ : Spares CoreSpared s s₂ := h₁.ite fun h => h.coreWithin (K := canSyncMask)
    (canSync_within (by decide) (Within.u_can (by decide) (Within.refl _ _))) (by decide)
  have h₃ : Spares CoreSpared s s₃ := h₂.ite fun h => h.of_eq rfl rfl
  have h₄ : Spares CoreSpared s s₄ := h₃.ite fun h => h.of_eq rfl rfl
  have h₅ : Spares CoreSpared s s₅ := h₄.ite fun h => h.of_eq rfl rfl
  clear_value s₅
  refine Spares.setBit ?_ (moved_ne (g := F.BLK_RST_STAT_BUSY) (by decide))
  exact h₅.of_eq rfl rfl

/-- The windows of CORE that its reset returns at once. -/
theorem coreWindows_out {f : Field} (hf : CoreSpared f) : ∀ w ∈ [(0x20400000, 0x20500000), (0x20A40000, 0x20B00000),
    (0x20C00000, 0x20D00100), (0x20D00200, 0x20E00000), (0x21100000, 0x21300000)], f.key < 32 * w.1 ∨ 32 * w.2 ≤ f.key := by
  intro w hw
  simp only [List.mem_cons, List.not_mem_nil, or_false] at hw
  rcases hw with rfl | rfl | rfl | rfl | rfl
  · exact hf.out (.inl (by omega))
  · exact hf.out (.inr (.inl (by omega)))
  · exact hf.out (.inr (.inl (by omega)))
  · exact hf.out (.inr (.inl (by omega)))
  · exact hf.out (.inr (.inr (by omega)))

/-- The parts that a release of WAKE and the store of settings may change. -/
def coreFirstMask : Nat := partsMask [.settings, .settingsBytes, .ses, .out, .rCan, .upd]

/-- A reset of CORE leaves the SAFE domain's registers, and those of Girth that no reset moves. -/
theorem resetCore_spares (s : State) (cold : Bool) : Spares CoreSpared s (resetCore s cold) := by
  unfold resetCore
  extract_lets s₁ low s₂ s₃ s₄ s₅ s₆ s₇ g s₈
  have h₁ : Spares CoreSpared s s₁ := (Spares.refl _ s).coreWithin (K := coreFirstMask)
    (wakeRelease_within (by decide) (settingsStore_within (by decide) (Within.refl _ _))) (by decide)
  have h₂ : Spares CoreSpared s s₂ := (h₁.trans (resetLs_spares _)).trans (resetDio_spares _)
  clear_value s₂ low
  have h₃ : Spares CoreSpared s s₃ := by
    refine h₂.resetWindows fun f hf => ?_
    exact coreWindows_out hf
  clear_value s₃
  have h₄ : Spares CoreSpared s s₄ := h₃.of_eq rfl rfl
  clear_value s₄
  have h₅ : Spares CoreSpared s s₅ := Spares.forN (fun b _ t => resetBlk_spares b t) h₄
  clear_value s₅
  have h₆ : Spares CoreSpared s s₆ :=
    h₅.trans ⟨fun f hf => State.rd_resetRegs_out _ (hf.out (.inl (by omega))), rfl⟩
  clear_value s₆
  have h₇ : Spares CoreSpared s s₇ := h₆.ite fun h => h.dropMem _ _
  clear_value s₇
  have h₈ : Spares CoreSpared s s₈ := h₇.of_eq rfl rfl
  clear_value s₈
  refine ((h₈.wr fun f hf => ?_).wr (moved_ne (by decide))).wr (moved_ne (by decide))
  exact hf.ne (g := F.NS_STAT_WAKE_LOW) (.inr (.inr (.inl (by decide))))

/-- A reset of SAFE leaves what Girth keeps, and returns the windows of its own domain. -/
theorem resetSafe_spares (s : State) (keep : Bool) : Spares GirthStays s (resetSafe s keep) := by
  unfold resetSafe
  extract_lets s₀ s₁ s₂ s₃ p p' s₄ g s₅
  have h₁ : Spares GirthStays s s₁ := by
    unfold s₁
    split
    · exact Spares.refl _ s
    · exact (Spares.refl _ s).of_eq rfl rfl
  clear_value s₁
  have h₂ : Spares GirthStays s s₂ := h₁.resetWindows fun f hf w hw => by
    have := hf.1
    simp only [List.mem_cons, List.not_mem_nil, or_false] at hw
    rcases hw with rfl | rfl <;> omega
  clear_value s₂
  have h₃ : Spares GirthStays s s₃ := by
    unfold s₃
    split
    · exact h₂
    · exact h₂.dropMem _ _
  clear_value s₃
  have h₅ : Spares GirthStays s s₅ := h₃.safeParts rfl
  refine ((h₅.wr fun f hf => ?_).wr fun f hf => ?_).subSync ?_ ?_
  · exact hf.ne (by decide)
  · exact hf.ne (by decide)
  · exact fun f hf => hf.ne (by decide)
  · exact fun f hf => hf.ne (by decide)

/-- A field of the windows that a reset of SAFE returns. -/
def SafeField (f : Field) : Prop :=
  32 * 0x20000000 ≤ f.key ∧ f.key < 32 * 0x20400000 ∨ 32 * 0x20600000 ≤ f.key ∧ f.key < 32 * 0x20700000

theorem rd_resetSafe {f : Field} (hf : SafeField f) (s : State) (keep : Bool) : (resetSafe s keep).rd f = f.rst := by
  have hgirth : ∀ g ∈ girthMoved, f.key ≠ g.key := by
    have h : ∀ g ∈ girthMoved, 32 * 0x20E00000 ≤ g.key := by decide
    intro g hg e
    have := h g hg
    rcases hf with hf | hf <;> omega
  unfold resetSafe
  extract_lets s₀ s₁ s₂ s₃ p p' s₄ g s₅
  have h₂ : s₂.rd f = f.rst := by
    unfold s₂ State.resetWindows
    simp only [List.foldl_cons, List.foldl_nil]
    by_cases hhi : 32 * 0x20600000 ≤ f.key
    · exact State.rd_resetRegs_in _ hhi (by rcases hf with hf | hf <;> omega)
    · rw [State.rd_resetRegs_out _ (by omega)]
      rcases hf with hf | hf
      · exact State.rd_resetRegs_in _ hf.1 hf.2
      · omega
  clear_value s₂
  have h₅ : s₅.regs = s₂.regs := by
    change s₃.regs = s₂.regs
    unfold s₃
    split <;> rfl
  rw [rd_subSync (hgirth _ (by decide)) (hgirth _ (by decide)), State.rd_wr_ne _ _ (hgirth _ (by decide)),
    State.rd_wr_ne _ _ (hgirth _ (by decide)), State.rd_congr h₅, h₂]

/-! ## A transition -/

/-- The three fields that record the last transition (R79) are in `t` as in `s`. -/
structure SameRecord (s t : State) : Prop where
  mode : t.mode = s.mode
  prev : t.rd F.GIRTH_MODE_PREV_MODE = s.rd F.GIRTH_MODE_PREV_MODE
  cause : t.rd F.GIRTH_MODE_CAUSE = s.rd F.GIRTH_MODE_CAUSE

theorem SameRecord.trans {s t u : State} (h : SameRecord s t) (h' : SameRecord t u) : SameRecord s u :=
  ⟨h'.mode.trans h.mode, h'.prev.trans h.prev, h'.cause.trans h.cause⟩

theorem Within.sameRecord {K : Nat} {s t : State} (h : Within K s t) (hm : K.testBit Part.mode.bit = false)
    (hg : K.testBit Part.rGirth.bit = false) : SameRecord s t :=
  ⟨h.same .mode hm, h.rd_girth_eq hg (by decide) (by decide) (by decide), h.rd_girth_eq hg (by decide) (by decide) (by decide)⟩

/-- Writing another field of Girth leaves the record. -/
theorem SameRecord.wr (s : State) {g : Field} (v : Nat) (hg : g.key ≠ F.GIRTH_MODE_MODE.key ∧
    g.key ≠ F.GIRTH_MODE_PREV_MODE.key ∧ g.key ≠ F.GIRTH_MODE_CAUSE.key) : SameRecord s (s.wr g v) :=
  ⟨State.rd_wr_ne _ _ hg.1.symm, State.rd_wr_ne _ _ hg.2.1.symm, State.rd_wr_ne _ _ hg.2.2.symm⟩

theorem SameRecord.subSync (s : State) : SameRecord s (subSync s) :=
  (SameRecord.wr s (g := F.SEAT_STAT_EXTRACT_OK) _ (by decide)).trans (SameRecord.wr _ _ (by decide))

/-- The parts that the CAN controllers and network sleep change when a mode changes. -/
def busMask : Nat := partsMask [.mem, .out, .irqHeld, .q, .can, .ns, .rFurrow, .rCan, .upd, .furBits]

/-- `setMode` without what the buses make of it. -/
def modeRecorded (s : State) (m cause : Nat) : State :=
  let t := ((s.wr F.GIRTH_MODE_PREV_MODE s.mode).wr F.GIRTH_MODE_MODE m).wr F.GIRTH_MODE_CAUSE cause
  { t with girth := { t.girth with modeAt := t.stamp, modeTick := t.now } }

theorem setMode_eq (s : State) (m cause : Nat) :
    setMode s m cause = nsSync (canSyncAll (subSync (modeRecorded s m cause))) := rfl

theorem setMode_within_bus (s : State) (m cause : Nat) :
    Within busMask (subSync (modeRecorded s m cause)) (setMode s m cause) := by
  rw [setMode_eq]
  exact nsSync_within (by decide) (canSyncAll_within (by decide) (Within.refl _ _))

theorem setMode_sameRecord (s : State) (m cause : Nat) : SameRecord (modeRecorded s m cause) (setMode s m cause) :=
  (SameRecord.subSync _).trans ((setMode_within_bus s m cause).sameRecord (by decide) (by decide))

theorem setMode_mode (s : State) {m : Nat} (hm : m < 16) (cause : Nat) : (setMode s m cause).mode = m := by
  rw [(setMode_sameRecord s m cause).mode]
  simp [modeRecorded, State.mode, State.rd, SMap.get_set, Field.key, F.GIRTH_MODE_MODE, F.GIRTH_MODE_CAUSE, Nat.mod_eq_of_lt hm]

theorem setMode_prev (s : State) (m cause : Nat) : (setMode s m cause).rd F.GIRTH_MODE_PREV_MODE = s.mode % 16 := by
  rw [(setMode_sameRecord s m cause).prev]
  simp [modeRecorded, State.rd, SMap.get_set, Field.key, F.GIRTH_MODE_MODE, F.GIRTH_MODE_CAUSE, F.GIRTH_MODE_PREV_MODE]

theorem setMode_cause (s : State) (m cause : Nat) : (setMode s m cause).rd F.GIRTH_MODE_CAUSE = cause % 256 := by
  rw [(setMode_sameRecord s m cause).cause]
  simp [modeRecorded, State.rd, Field.key, F.GIRTH_MODE_CAUSE]

theorem setMode_spares (s : State) (m cause : Nat) : Spares GirthStays s (setMode s m cause) := by
  have h : Spares GirthStays s (modeRecorded s m cause) := Spares.of_eq
    ((((Spares.refl _ s).wr fun f hf => hf.ne (by decide)).wr fun f hf => hf.ne (by decide)).wr fun f hf => hf.ne (by decide)) rfl rfl
  exact (h.subSync (fun f hf => hf.ne (by decide)) fun f hf => hf.ne (by decide)).within (setMode_within_bus s m cause)
    (by decide) (by decide)

/-! ## HOLD -/

/-- The parts that the outputs' reaction to a mode may change: none of Girth's. -/
def reactMask : Nat :=
  partsMask [.mem, .free, .out, .irqHeld, .q, .ls, .lsKept0, .lsKept1, .dio, .str, .rFurrow, .rLs, .rStirrup, .rDio, .upd,
    .furBits]

theorem enterHold_within_react {s : State} (h : canHold s.mode = true) (cause : Nat) :
    Within reactMask (setMode s mHOLD cause) (enterHold s cause) := by
  unfold enterHold
  rw [if_pos h]
  extract_lets s₁ st
  have h₁ : Within reactMask (setMode s mHOLD cause) s₁ := serviceEnd_within (by decide) (Within.refl _ _)
  exact (holdStart_within (by decide) h₁).ite (followAll_within (by decide) h₁)

end Sys2Proof.Machine
end

section
/-! The faults that end in HOLD (Table 3-2, Table 4-2, R79): each reacts first, leaving what it has shown, and then enters
HOLD, which records the transition and leaves it too. -/

namespace Sys2Proof.Machine

theorem canHold_lt {m : Nat} (h : canHold m = true) : m < 16 := by
  by_contra hm
  simp [canHold, mSERVICE, mBOOT, mRUN, mHANDOFF, mDORMANCY] at h
  omega

/-- Entering HOLD records the mode left and the cause. -/
theorem enterHold_record {s : State} (h : canHold s.mode = true) {cause : Nat} (hc : cause < 256) :
    (enterHold s cause).mode = mHOLD ∧ (enterHold s cause).rd F.GIRTH_MODE_PREV_MODE = s.mode ∧
      (enterHold s cause).rd F.GIRTH_MODE_CAUSE = cause := by
  have hrec := (enterHold_within_react h cause).sameRecord (by decide) (by decide)
  refine ⟨?_, ?_, ?_⟩
  · rw [hrec.mode, setMode_mode s (by decide)]
  · rw [hrec.prev, setMode_prev, Nat.mod_eq_of_lt (canHold_lt h)]
  · rw [hrec.cause, setMode_cause, Nat.mod_eq_of_lt hc]

theorem enterHold_spares {s : State} (h : canHold s.mode = true) (cause : Nat) : Spares GirthStays s (enterHold s cause) :=
  (setMode_spares s mHOLD cause).within (enterHold_within_react h cause) (by decide) (by decide)

/-- Every part: what a reaction may change, the records taken back apart. -/
def anyMask : Nat := partsMask Part.all

theorem enterHold_any (s : State) (cause : Nat) : Within anyMask s (enterHold s cause) :=
  enterHold_within (by decide) (Within.refl _ s)

/-- A reaction that leaves what Girth shows, the mode and the faults recorded. -/
structure Reacts (s t : State) : Prop where
  spares : Spares GirthStays s t
  mode : t.mode = s.mode
  faults : s.faults <+: t.faults

theorem resetCore_reacts (s : State) (cold : Bool) : Reacts s (resetCore s cold) := by
  have hw : Within (partsMask (Part.allBut [.mode])) s (resetCore s cold) := resetCore_within (by decide) (Within.refl _ s)
  have hs := resetCore_spares s cold
  exact ⟨⟨fun f hf => hs.rd f (.inr hf), hs.cold⟩, hw.mode_eq (by decide), hw.faults_pre⟩

theorem slsDown_spares (s : State) : Spares GirthStays s (slsDown s) := by
  have hpom : ∀ g : Field, g.key / (32 * 0x100000) = 0x206 → ∀ f, GirthStays f → f.key ≠ g.key := by
    intro g hg f hf e
    have := hf.1
    rw [e] at this
    omega
  exact (((Spares.refl _ s).wr (hpom F.POM_STAT_SLS_ON (by decide))).wr (hpom F.POM_STAT_ARM (by decide))).subSync
    (fun f hf => hf.ne (by decide)) fun f hf => hf.ne (by decide)

theorem safeFault_reacts (s : State) : Reacts s (safeFault s) := by
  have hw : Within (partsMask (Part.allBut [.mode])) s (safeFault s) := safeFault_within (by decide) (Within.refl _ s)
  have hs : Spares GirthStays s { slsDown s with pom := { (slsDown s).pom with halted := true } } :=
    (slsDown_spares s).of_eq rfl rfl
  exact ⟨hs.trans (resetSafe_spares _ false), hw.mode_eq (by decide), hw.faults_pre⟩

/-- A reaction followed by the entry to HOLD. -/
theorem Reacts.enterHold {s t : State} (h : Reacts s t) (hm : canHold s.mode = true) {cause : Nat} (hc : cause < 256) :
    Spares GirthStays s (enterHold t cause) ∧ s.faults <+: (Machine.enterHold t cause).faults ∧
      (Machine.enterHold t cause).mode = mHOLD ∧ (Machine.enterHold t cause).rd F.GIRTH_MODE_PREV_MODE = s.mode ∧
      (Machine.enterHold t cause).rd F.GIRTH_MODE_CAUSE = cause := by
  have ht : canHold t.mode = true := by rw [h.mode, hm]
  have hrec := enterHold_record ht hc
  rw [h.mode] at hrec
  exact ⟨h.spares.trans (enterHold_spares ht cause), h.faults.trans (enterHold_any t cause).faults_pre, hrec⟩

/-- What a reaction to a fault starts from: the fault is shown and recorded, and may have made the next restart cold. -/
structure Starts (s u : State) (cold : Prop) : Prop where
  regs : u.regs = s.regs
  faults : u.faults = s.faults
  cold : cold → u.girth.coldNext = true

/-- The reaction to a fault shown in `s`, and HOLD after it. -/
theorem Starts.hold {s u t : State} {cold : Prop} (hu : Starts s u cold) (ht : Reacts u t) (hm : canHold s.mode = true)
    {cause : Nat} (hc : cause < 256) :
    ((enterHold t cause).mode = mHOLD ∧ (enterHold t cause).rd F.GIRTH_MODE_PREV_MODE = s.mode ∧
      (enterHold t cause).rd F.GIRTH_MODE_CAUSE = cause) ∧ s.faults <+: (enterHold t cause).faults ∧
      (cold → (enterHold t cause).girth.coldNext = true) ∧
      ∀ f, GirthStays f → (enterHold t cause).rd f = s.rd f := by
  have hmode : u.mode = s.mode := State.rd_congr hu.regs _
  obtain ⟨hsp, hf, hrec⟩ := ht.enterHold (hmode ▸ hm) hc
  rw [hmode] at hrec
  rw [hu.faults] at hf
  exact ⟨hrec, hf, fun h => hsp.cold.trans (hu.cold h), fun f hfs => (hsp.rd f hfs).trans (State.rd_congr hu.regs f)⟩

/-! ## A rail fault -/

/-- What a fault of rail `r` shows and records (R71). -/
def railFaulted (s : State) (r : Fin 6) (high : Bool) : State :=
  ((s.setBit (if high then F.RAIL_FLT_OV else F.RAIL_FLT_UV) r).clrBit F.RAIL_STAT_IN_WIN r).hwFault 0x0601 r

/-- The reaction of Table 3-2 to a fault of rail `r`. -/
def railReact (s : State) (r : Fin 6) : State :=
  if r.val = 0 then { s with girth := { s.girth with coldNext := true } }
  else if r.val = 1 then safeFault s
  else resetCore s false

theorem exec_railFault {s : State} (h : alive s = true) (r : Fin 6) (high : Bool) :
    exec (.railFault r high) s = .next (enterHold (railReact (railFaulted s r high) r) 0x08) := by
  simp [exec, execRailFault, h, railReact, railFaulted]

theorem Reacts.refl (s : State) : Reacts s s := ⟨Spares.refl _ s, rfl, List.prefix_rfl⟩

theorem railReact_reacts (s : State) (r : Fin 6) : ∃ u, Starts s u (r = 0) ∧ Reacts u (railReact s r) := by
  unfold railReact
  split
  · exact ⟨{ s with girth := { s.girth with coldNext := true } }, ⟨rfl, rfl, fun _ => rfl⟩, Reacts.refl _⟩
  · next h =>
    have hr : r ≠ 0 := fun e => h (congrArg Fin.val e)
    split
    · exact ⟨s, ⟨rfl, rfl, fun e => absurd e hr⟩, safeFault_reacts s⟩
    · exact ⟨s, ⟨rfl, rfl, fun e => absurd e hr⟩, resetCore_reacts s false⟩

theorem railFaulted_mode (s : State) (r : Fin 6) (high : Bool) : (railFaulted s r high).mode = s.mode := by
  rw [State.mode, railFaulted, State.rd_hwFault, State.rd_clrBit_ne _ _ (by decide),
    State.rd_setBit_ne _ _ (by cases high <;> decide), State.mode]

theorem railFaulted_shows (s : State) (r : Fin 6) (high : Bool) :
    (railFaulted s r high).bit (if high then F.RAIL_FLT_OV else F.RAIL_FLT_UV) r = true ∧
      (railFaulted s r high).bit F.RAIL_STAT_IN_WIN r = false := by
  constructor
  · rw [railFaulted, State.bit_congr (State.rd_hwFault ..), State.bit_congr (State.rd_clrBit_ne _ _ (by cases high <;> decide)), State.bit_setBit]
    cases high <;> simp [F.RAIL_FLT_OV, F.RAIL_FLT_UV]
  · rw [railFaulted, State.bit_congr (State.rd_hwFault ..), State.bit_clrBit]
    simp

/-! ## A clock fault -/

/-- Clock `c` is noted as bad, and every crossing is in its recovery phase (R105). -/
def clockNoted (s : State) (c : Nat) : State :=
  State.wr { s with girth := { s.girth with clkBad := s.girth.clkBad ||| BitVec.ofNat 7 (2 ^ c) } } F.XING_STAT_SERVICE 0

/-- What a fault of clock `c` shows and records (Table 4-2). -/
def clockFaulted (s : State) (c : Nat) : State :=
  if c = 6 then ((clockNoted s c).wr F.CLK_FLT_RC16_FLT 1).hwFault 0x0602 6
  else (((clockNoted s c).setBit F.CLK_FLT_FLT c).wr (clkStat c) 0).hwFault 0x0602 c

/-- The reaction to a fault of a clock other than a SerDes PLL. -/
def clockReact (s : State) (c : Nat) : State :=
  if c = 6 then followAll (slsDown { s with girth := { s.girth with outOff := true, coldNext := true } })
  else if c = 0 ∨ c = 2 then safeFault { s with girth := { s.girth with coldNext := true } }
  else resetCore s false

theorem exec_clockFault {s : State} (h : alive s = true) {c : Fin 7} (hc : c ≠ 5) (link : Fin 3) :
    exec (.clockFault c link) s = .next (enterHold (clockReact (clockFaulted s c) c) 0x11) := by
  have hc5 : c.val ≠ 5 := fun e => hc (Fin.ext e)
  simp only [exec, execClockFault, h, clockReact, clockFaulted, Bool.not_true, Bool.false_eq_true, if_false, hc5]
  split
  · next hc6 => simp only [hc6]; rfl
  · split <;> rfl

theorem slsDown_reacts (s : State) : Reacts s (slsDown s) := by
  have hw : Within (partsMask [.rPommel, .rGirth, .substate, .upd]) s (slsDown s) :=
    slsDown_within (by decide) (Within.refl _ s)
  exact ⟨slsDown_spares s, hw.mode_eq (by decide), hw.faults_pre⟩

/-- The parts that the outputs' reaction may change. -/
theorem followAll_reacts (s : State) : Reacts s (followAll s) := by
  have hw : Within reactMask s (followAll s) := followAll_within (by decide) (Within.refl _ s)
  exact ⟨(Spares.refl _ s).within hw (by decide) (by decide), hw.mode_eq (by decide), hw.faults_pre⟩

theorem Reacts.trans {s t u : State} (h : Reacts s t) (h' : Reacts t u) : Reacts s u :=
  ⟨h.spares.trans h'.spares, h'.mode.trans h.mode, h.faults.trans h'.faults⟩

theorem clockReact_reacts (s : State) (c : Nat) : ∃ u, Starts s u (c = 0 ∨ c = 2 ∨ c = 6) ∧ Reacts u (clockReact s c) := by
  unfold clockReact
  split
  · exact ⟨{ s with girth := { s.girth with outOff := true, coldNext := true } }, ⟨rfl, rfl, fun _ => rfl⟩,
      (slsDown_reacts _).trans (followAll_reacts _)⟩
  · split
    · exact ⟨{ s with girth := { s.girth with coldNext := true } }, ⟨rfl, rfl, fun _ => rfl⟩, safeFault_reacts _⟩
    · exact ⟨s, ⟨rfl, rfl, fun h => by omega⟩, resetCore_reacts s false⟩

theorem clockNoted_mode (s : State) (c : Nat) : (clockNoted s c).mode = s.mode := State.rd_wr_ne _ _ (by decide)

theorem clkStat_key (c : Nat) : (clkStat c).key = 32 * 0x20E00200 + c % 32 := rfl

theorem clockFaulted_mode (s : State) (c : Nat) : (clockFaulted s c).mode = s.mode := by
  unfold clockFaulted
  split
  · exact (State.rd_wr_ne _ _ (by decide)).trans (clockNoted_mode s c)
  · have hkey : F.GIRTH_MODE_MODE.key ≠ (clkStat c).key := by
      rw [clkStat_key]
      simp only [Field.key, F.GIRTH_MODE_MODE]
      omega
    exact ((State.rd_wr_ne _ _ hkey).trans (State.rd_setBit_ne _ _ (by decide))).trans (clockNoted_mode s c)

theorem clockFaulted_shows (s : State) {c : Nat} (hc : c < 6) : (clockFaulted s c).bit F.CLK_FLT_FLT c = true := by
  have hkey : F.CLK_FLT_FLT.key ≠ (clkStat c).key := by
    rw [clkStat_key]
    simp only [Field.key, F.CLK_FLT_FLT]
    omega
  rw [clockFaulted, if_neg (by omega), State.bit_congr (State.rd_hwFault ..), State.bit_congr (State.rd_wr_ne _ _ hkey),
    State.bit_setBit]
  simp [F.CLK_FLT_FLT, hc]

theorem clockFaulted_shows_rc16 (s : State) : (clockFaulted s 6).rd F.CLK_FLT_RC16_FLT = 1 :=
  State.rd_wr_self ..

theorem clockFaulted_faults (s : State) (c : Nat) : (clockFaulted s c).faults = s.faults ++ [⟨0x0602, c, s.stamp⟩] := by
  unfold clockFaulted
  split
  · next h => subst h; rfl
  · rfl

/-- Settles O3: the reaction to a fault and the entry to HOLD leave what the fault has shown. -/
theorem holdEntry : Obligations.HoldEntry := by
  refine ⟨fun s r high ha hm => ?_, fun s c link ha hm hc => ?_, fun s ha hm hcore => ?_, fun s ha hb ht => ?_⟩
  · obtain ⟨u, hu, hreact⟩ := railReact_reacts (railFaulted s r high) r
    obtain ⟨hrec, hfaults, hcold, hstays⟩ := hu.hold hreact (railFaulted_mode s r high ▸ hm) (cause := 0x08) (by decide)
    rw [railFaulted_mode] at hrec
    obtain ⟨hmode, hprev, hcause⟩ := hrec
    obtain ⟨hflt, hwin⟩ := railFaulted_shows s r high
    refine ⟨_, exec_railFault ha r high, hmode, hprev, hcause, ?_, ?_, hfaults, hcold⟩
    · exact (State.bit_congr (hstays _ (by cases high <;> exact ⟨by decide, by decide⟩)) _).trans hflt
    · exact (State.bit_congr (hstays _ ⟨by decide, by decide⟩) _).trans hwin
  · obtain ⟨u, hu, hreact⟩ := clockReact_reacts (clockFaulted s c) c
    obtain ⟨hrec, hfaults, hcold, hstays⟩ := hu.hold hreact (clockFaulted_mode s c ▸ hm) (cause := 0x11) (by decide)
    rw [clockFaulted_mode] at hrec
    rw [clockFaulted_faults] at hfaults
    obtain ⟨hmode, hprev, hcause⟩ := hrec
    refine ⟨_, exec_clockFault ha hc link, hmode, hprev, hcause, ?_, hfaults, fun h => hcold ?_⟩
    · split
      · next h6 =>
        rw [hstays _ ⟨by decide, by decide⟩, h6]
        exact clockFaulted_shows_rc16 s
      · have hlt : c.val < 6 := by omega
        exact (State.bit_congr (hstays _ ⟨by decide, by decide⟩) _).trans (clockFaulted_shows s hlt)
    · rcases h with rfl | rfl | rfl <;> decide
  · obtain ⟨-, -, hmode, hprev, hcause⟩ := (resetCore_reacts s false).enterHold hm (cause := 0x09) (by decide)
    exact ⟨_, by simp [exec, execAc0SupervisorFault, ha, hcore], hmode, hprev, hcause⟩
  · have hm : canHold s.mode = true := by rw [hb]; decide
    obtain ⟨hmode, hprev, hcause⟩ := enterHold_record hm (cause := 0x10) (by decide)
    exact ⟨_, by simp [exec, execBootTimeout, ha, hb, ht], hmode, hprev.trans hb, hcause⟩

end Sys2Proof.Machine
end

section
/-! The end of BOOT and the restarts out of HOLD (R79, R82). -/

namespace Sys2Proof.Machine

/-- The outputs at fail-safe: the mode is none of the parts that move. -/
theorem failsafeNow_mode (s : State) : (failsafeNow s).mode = s.mode :=
  (failsafeNow_within (K := reactMask) (by decide) (Within.refl _ s)).mode_eq (by decide)

/-- Settles O7: each row acts under its condition alone, and the conditions are read off the state. -/
theorem restarts : Obligations.Restarts := by
  refine ⟨fun s ha hm hc hb hd => ?_, fun s h => ?_, fun s e ha hm hmany hcold hwarm => ?_,
    fun s e ha hm hmany hcold => ?_, fun s e ha hm hmany => ⟨_, ?_, rfl, (failsafeNow_mode s).trans hm⟩,
    fun s e ha hm hmany hall => ?_, fun s e h => ?_⟩
  · simp [exec, execBootComplete, ha, hm, hc, hb, hd]
  · rcases h with h | h | h <;> simp [exec, execBootComplete, h]
  · simp [exec, execHoldRestart, ha, hm, hmany, hcold, Nat.not_le.mpr hwarm]
  · rcases hcold with hcold | hwarm
    · simp [exec, execHoldRestart, ha, hm, hmany, hcold]
    · simp [exec, execHoldRestart, ha, hm, hmany, hwarm]
  · simp [exec, execHoldRestart, ha, hm, hmany]
  · have h : (s.girth.cold.all fun k => decide (k + 4800000000 ≤ s.now)) = true := by simpa using hall
    simp [exec, execColdRestartRetry, ha, hm, hmany, h]
  · rcases h with h | ⟨k, hk, hlt⟩
    · simp [exec, execColdRestartRetry, h]
    · have h : (s.girth.cold.all fun k => decide (k + 4800000000 ≤ s.now)) = false := by
        simpa using ⟨k, hk, hlt⟩
      simp [exec, execColdRestartRetry, h]

end Sys2Proof.Machine
end

section
/-! Seating (R55, R56, R83): which fields a change of presence moves. -/

namespace Sys2Proof.Machine

/-- The fields that the first presence sets, SIDE and SLOT as read. -/
def seated (s : State) (side : Bool) (slot : Nat) : State :=
  ((((s.wr F.SEAT_STAT_PRES_J1 1).wr F.SEAT_STAT_PRES_J2 1).wr F.SEAT_STAT_PRES 1).wrB F.SEAT_STAT_SIDE side).wr
    F.SEAT_STAT_SLOT slot

theorem exec_presNAssert {s : State} (ha : alive s = true) (hm : s.mode = mSEATING) (hp : s.rd F.SEAT_STAT_PRES = 0)
    (side : Bool) (slot : Fin 16) : exec (.presNAssert side slot) s =
      .next { seated s side slot with girth := { s.girth with seatRead := true } } := by
  simp [exec, execPresNAssert, ha, hm, State.rdB, hp, seated]

theorem seated_frame (s : State) (side : Bool) (slot : Nat) : s.OnlyRegs (seated s side slot)
    [F.SEAT_STAT_PRES, F.SEAT_STAT_PRES_J1, F.SEAT_STAT_PRES_J2, F.SEAT_STAT_SIDE, F.SEAT_STAT_SLOT] :=
  (((((State.OnlyRegs.refl s _).wr (by decide) _).wr (by decide) _).wr (by decide) _).wrB (by decide) _).wr (by decide) _

/-- The fields that a lost presence clears: that of its position and PRES. -/
def unseated (s : State) (j2 : Bool) : State :=
  (s.wr (if j2 then F.SEAT_STAT_PRES_J2 else F.SEAT_STAT_PRES_J1) 0).wr F.SEAT_STAT_PRES 0

theorem unseated_frame (s : State) (j2 : Bool) :
    s.OnlyRegs (unseated s j2) [F.SEAT_STAT_PRES, F.SEAT_STAT_PRES_J1, F.SEAT_STAT_PRES_J2] :=
  ((State.OnlyRegs.refl s _).wr (by cases j2 <;> decide) _).wr (by decide) _

theorem unseated_mode (s : State) (j2 : Bool) : (unseated s j2).mode = s.mode :=
  (unseated_frame s j2).regs _ (by decide)

theorem exec_presNDeassert_seating {s : State} (ha : alive s = true) (hm : s.mode = mSEATING) (j2 : Bool) :
    exec (.presNDeassert j2) s = .next { unseated s j2 with
      girth := { s.girth with seatRead := false, extSensed := false, vinPath := false } } := by
  have hmode : ((unseated s j2).mode == mSEATING) = true := by rw [unseated_mode, hm]; rfl
  simp only [unseated] at hmode
  simp only [exec, execPresNDeassert, ha, hmode, Bool.not_true, Bool.false_eq_true, if_false, if_true]
  rfl

theorem exec_presNDeassert_seated {s : State} (ha : alive s = true) (hm : s.mode ≠ mSEATING) (j2 : Bool) :
    exec (.presNDeassert j2) s = .next (shutdown (unseated s j2)) := by
  have hmode : ((unseated s j2).mode == mSEATING) = false := by rw [unseated_mode]; exact beq_eq_false_iff_ne.mpr hm
  simp only [unseated] at hmode
  simp only [exec, execPresNDeassert, ha, hmode, Bool.not_true, Bool.false_eq_true, if_false]
  rfl

theorem seated_reads (s : State) (side : Bool) {slot : Nat} (hs : slot < 16) :
    (seated s side slot).rd F.SEAT_STAT_PRES = 1 ∧ (seated s side slot).rd F.SEAT_STAT_PRES_J1 = 1 ∧
      (seated s side slot).rd F.SEAT_STAT_PRES_J2 = 1 ∧ (seated s side slot).rd F.SEAT_STAT_SIDE = side.toNat ∧
      (seated s side slot).rd F.SEAT_STAT_SLOT = slot := by
  simp [seated, State.rd_wr, Field.key, F.SEAT_STAT_PRES, F.SEAT_STAT_PRES_J1, F.SEAT_STAT_PRES_J2,
    F.SEAT_STAT_SIDE, F.SEAT_STAT_SLOT, Nat.mod_eq_of_lt hs, Nat.mod_eq_of_lt side.toNat_lt]

theorem unseated_reads (s : State) (j2 : Bool) : (unseated s j2).rd F.SEAT_STAT_PRES = 0 ∧
    (unseated s j2).rd (if j2 then F.SEAT_STAT_PRES_J2 else F.SEAT_STAT_PRES_J1) = 0 := by
  refine ⟨State.rd_wr_self .., (State.rd_wr_ne _ _ (by cases j2 <;> decide)).trans (?_ : _ = 0 % 2 ^ _)⟩
  exact (State.rd_wr_self ..).trans rfl

/-- Settles O5: each row writes the fields of its own, and every field reads back what was written last. -/
theorem seating : Obligations.Seating := by
  refine ⟨fun s side slot ha hm hp => ?_, fun s side slot h => ?_, fun s map ha hm hp he => ?_,
    fun s map he => by simp [exec, execLsExtSense, he], fun s e ha hm hp hr => ?_, fun s j2 ha hm => ?_,
    fun s ha hm => ⟨exec_presNDeassert_seated ha hm true, exec_presNDeassert_seated ha hm false⟩, fun s ha hm => ?_⟩
  · obtain ⟨hpres, hj1, hj2, hside, hslot⟩ := seated_reads s side slot.isLt
    exact ⟨_, exec_presNAssert ha hm hp side slot, hpres, hj1, hj2, hside, hslot, rfl,
      (seated_frame s side slot).regs.mono (by decide)⟩
  · rcases h with h | h
    · simp [exec, execPresNAssert, h]
    · simp [exec, execPresNAssert, State.rdB, h]
  · refine ⟨{ s.wr F.LS_EXT_MAP_EXT map.toNat with girth := { s.girth with extSensed := true } }, ?_, ?_, rfl, ?_⟩
    · simp [exec, execLsExtSense, ha, hm, State.rdB, hp, he]
    · exact State.rd_wr_of_lt s map.isLt
    · exact State.RegsBut_wr s _ (State.RegsBut_refl s _) List.mem_cons_self
  · simp [exec, execSeatingEnd, ha, hm, State.rdB, hp, hr, bootEnter]
  · obtain ⟨hpres, hpos⟩ := unseated_reads s j2
    exact ⟨_, exec_presNDeassert_seating ha hm j2, hpres, hpos, rfl, (unseated_frame s j2).regs⟩
  · refine ⟨(s.wr F.SEAT_STAT_SEAT_CHANGE 1).hwFault 0x0609 0, ?_, State.rd_wr_self .., rfl, ?_⟩
    · simp [exec, execSeatChange, ha, hm]
    · exact State.RegsBut_wr s _ (State.RegsBut_refl s _) List.mem_cons_self

end Sys2Proof.Machine
end

section
/-! DORMANCY and the wake (R92, R94, R95): the end of the entry, and the sources that end DORMANCY. -/

namespace Sys2Proof.Machine

/-- Every part but the mode. -/
def modelessMask : Nat := partsMask (Part.allBut [.mode])

/-- The resets of R92, before the partner and the retained configuration are noted. -/
def entryReset (s : State) : State := railsTo ((resetCore (resetSafe s true) false).dropMem 0x10200000 0x11000000) 9 1

theorem entryReset_mode (s : State) : (entryReset s).mode = s.mode :=
  Within.mode_eq (K := modelessMask)
    (railsTo_within (by decide) (State_dropMem_within (by decide) (resetCore_within (by decide)
      (resetSafe_within (by decide) (Within.refl _ s))))) (by decide)

/-- What the end of the entry notes. -/
def entryNoted (s : State) : State :=
  { entryReset s with
    girth := { (entryReset s).girth with dormEntry := false }, retain := some (retainOf s),
    partner := { (entryReset s).partner with alive := false } }

theorem entryNoted_mode (s : State) : (entryNoted s).mode = s.mode := by
  refine Eq.trans ?_ (entryReset_mode s)
  rw [entryNoted]
  generalize entryReset s = t
  rfl

theorem exec_dormancyEntryComplete {s : State} (hm : s.mode = mDORMANCY) (he : s.girth.dormEntry = true) :
    exec .dormancyEntryComplete s = .next (canSyncAll (subSync (entryNoted s))) := by
  simp only [exec, execDormancyEntryComplete, hm, he, beq_self_eq_true, Bool.and_self, if_true]
  rfl

/-- A wake in DORMANCY by a source that is armed. -/
theorem wakeFire_armed {s : State} {bit : Nat} (ha : wakeArmed s bit = true) (hm : s.mode = mDORMANCY) (ok : Bool) :
    wakeFire s bit ok = wakeRun (s.setBit F.WAKE_CAUSE_CAUSE bit) ok := by
  simp [wakeFire, ha, hm, wake]

theorem wakeFire_unarmed {s : State} {bit : Nat} (ha : wakeArmed s bit = false) (ok : Bool) : wakeFire s bit ok = s := by
  simp [wakeFire, ha]

/-- A wake that finds a retained image broken is the entry to HOLD. -/
theorem wakeRun_broken {s : State} (he : s.girth.dormEntry = false) :
    wakeRun s false = enterHold { railsTo s 63 63 with retain := none } 0x0A := by
  simp [wakeRun, he]

/-- Settles O9: the resets leave the mode, a source acts where it is armed, and a broken image leads to HOLD. -/
theorem dormancyAndWake : Obligations.DormancyAndWake := by
  refine ⟨fun s hm he => ⟨_, exec_dormancyEntryComplete hm he, ?_⟩, fun s he => ?_, fun s ok hm he => ?_, fun s ok he => ?_,
    fun s ok ha hm => ?_, fun s ok hm he ht => ?_, fun s ok h => ?_, fun s ok hv hm he => ?_, fun s ok => ?_,
    fun s hm he => ?_⟩
  · have hw : Within busMask (subSync (entryNoted s)) (canSyncAll (subSync (entryNoted s))) :=
      canSyncAll_within (by decide) (Within.refl _ _)
    refine ⟨hw.same .retain (by decide), ?_, ?_, ?_⟩
    · rw [hw.girth_eq (by decide)]; rfl
    · rw [hw.same .partner (by decide)]; rfl
    · rw [hw.mode_eq (by decide), State.mode, rd_subSync (by decide) (by decide)]
      exact (entryNoted_mode s).trans hm
  · simp [exec, execDormancyEntryComplete, he]
  · have harm : wakeArmed s 0 = true := by simp [wakeArmed, State.rdB, he]
    exact congrArg _ (wakeFire_armed harm hm ok)
  · have harm : wakeArmed s 0 = false := by simp [wakeArmed, State.rdB, he]
    exact congrArg _ (wakeFire_unarmed harm ok)
  · have hm' : (s.wr F.SEAT_STAT_EJECT 1).mode = mDORMANCY := (State.rd_wr_ne _ _ (by decide)).trans hm
    simp [exec, execWakeEvent, ejectAssert, ha, hm', wake, mDORMANCY, mRUN, mSERVICE]
  · have harm : wakeArmed s 3 = true := by simp [wakeArmed, State.rdB, he]
    simp [exec, execDormTimerExpiry, hm, ht, wakeFire_armed harm hm]
  · rcases h with h | h <;> simp [exec, execDormTimerExpiry, h]
  · have hw := wakeFire_armed (s := { s with grf := { s.grf with vbus := true } }) (bit := 5)
      (by simp only [wakeArmed, State.rdB]; exact bne_iff_ne.mpr (by rw [State.rd] at he ⊢; exact he ▸ Nat.one_ne_zero)) hm ok
    simp [exec, execSvcVbusChange, vbusChange, hv, hw]
  · simp [exec, execSvcVbusChange, vbusChange]
  · have hmode : ({ railsTo s 63 63 with retain := none } : State).mode = mDORMANCY :=
      (Within.mode_eq (K := modelessMask) (railsTo_within (by decide) (Within.refl _ s)) (by decide)).trans hm
    have hcan : canHold ({ railsTo s 63 63 with retain := none } : State).mode = true := by rw [hmode]; decide
    obtain ⟨hhold, -, hcause⟩ := enterHold_record hcan (cause := 0x0A) (by decide)
    rw [wakeRun_broken he]
    exact ⟨hhold, hcause⟩

end Sys2Proof.Machine
end

section
/-! Rules used by the proofs of several families: flags of a field under a write to another. -/

namespace Sys2Proof.Machine

theorem State.rdB_congr {s t : State} {f : Field} (h : t.rd f = s.rd f) : t.rdB f = s.rdB f := by
  rw [State.rdB, State.rdB, h]

theorem State.rdB_wr_ne {s : State} {f g : Field} (v : Nat) (h : f.key ≠ g.key) : (s.wr g v).rdB f = s.rdB f :=
  State.rdB_congr (s.rd_wr_ne v h)

end Sys2Proof.Machine
end

section
/-! The extraction lever and the ends of a handoff (R61, R79, R87-R89). -/

namespace Sys2Proof.Machine

/-! ## Entering a mode -/

/-- What the blocks make of a mode that is entered. -/
def followMask : Nat :=
  partsMask [.mem, .out, .irqHeld, .q, .ls, .lsKept0, .lsKept1, .dio, .rFurrow, .rLs, .rDio, .upd, .furBits]

theorem enterMode_within_follow (s : State) (m cause : Nat) :
    Within followMask (setMode s m cause) (followAll (enterMode s m cause)) := by
  refine followAll_within (by decide) ?_
  unfold enterMode
  split
  · exact serviceStart_within (by decide) (Within.refl _ _)
  · exact Within.refl _ _

/-- A mode that is entered shows with its cause and the mode left. -/
theorem enterMode_record (s : State) {m cause : Nat} (hm : m < 16) (hc : cause < 256) :
    (followAll (enterMode s m cause)).mode = m ∧ (followAll (enterMode s m cause)).rd F.GIRTH_MODE_CAUSE = cause ∧
      (followAll (enterMode s m cause)).rd F.GIRTH_MODE_PREV_MODE = s.mode % 16 := by
  have hrec := (enterMode_within_follow s m cause).sameRecord (by decide) (by decide)
  exact ⟨hrec.mode.trans (setMode_mode s hm cause),
    hrec.cause.trans ((setMode_cause s m cause).trans (Nat.mod_eq_of_lt hc)), hrec.prev.trans (setMode_prev s m cause)⟩

theorem enterMode_spares (s : State) (m cause : Nat) : Spares GirthStays s (followAll (enterMode s m cause)) :=
  (setMode_spares s m cause).within (enterMode_within_follow s m cause) (by decide) (by decide)

/-- What entering a mode may change besides the blocks that follow it. -/
def enterModeMask : Nat :=
  partsMask [.mode, .mem, .out, .irqHeld, .q, .girth, .ls, .lsKept0, .lsKept1, .dio, .can, .ns, .rFurrow, .rLs, .rDio, .rCan,
    .rGirth, .substate, .upd, .furBits]

theorem followAll_enterMode_within {b s : State} {m : Nat} (hm : 1 ≤ m ∧ m ≤ 8) (cause : Nat) (h : Within enterModeMask b s) :
    Within enterModeMask b (followAll (enterMode s m cause)) :=
  followAll_within (by decide) (enterMode_within hm (by decide) h)

/-! ## The return from HANDOFF -/

/-- The fuses and the seal alone decide where a handoff returns to. -/
theorem handoffReturn_congr {s t : State} (hf : t.clo = s.clo)
    (hk : t.rd F.CLO_STAT_KEYS_SEALED = s.rd F.CLO_STAT_KEYS_SEALED) : handoffReturn t = handoffReturn s := by
  simp only [handoffReturn, hf, State.rdB_congr hk]

/-- EJECT is no part of what EXTRACT_OK follows from. -/
theorem extractOk_eject (s : State) (v : Nat) : extractOk (s.wr F.SEAT_STAT_EJECT v) = extractOk s := by
  have hdio : ∀ n, (s.wr F.SEAT_STAT_EJECT v).rdB (F.DIO_CFG_DIR n) = s.rdB (F.DIO_CFG_DIR n) := fun n =>
    State.rdB_wr_ne _ (by simp only [Field.key, F.DIO_CFG_DIR, F.SEAT_STAT_EJECT]; omega)
  have hring : ∀ c, (s.wr F.SEAT_STAT_EJECT v).rdB (F.LAT_RSTAT_MASTER c) = s.rdB (F.LAT_RSTAT_MASTER c) := fun c =>
    State.rdB_wr_ne _ (by simp only [Field.key, F.LAT_RSTAT_MASTER, F.SEAT_STAT_EJECT]; omega)
  have hmode : (s.wr F.SEAT_STAT_EJECT v).mode = s.mode := State.rd_wr_ne _ _ (by decide)
  have harm : (s.wr F.SEAT_STAT_EJECT v).rdB F.POM_STAT_ARM = s.rdB F.POM_STAT_ARM := State.rdB_wr_ne _ (by decide)
  have hsls : (s.wr F.SEAT_STAT_EJECT v).rd F.POM_STAT_SLS_ON = s.rd F.POM_STAT_SLS_ON := State.rd_wr_ne _ _ (by decide)
  have hgirth : (s.wr F.SEAT_STAT_EJECT v).girth = s.girth := rfl
  simp only [extractOk, ownsNone, ringsMastered, hgirth, hmode, harm, hsls, hdio, hring]

theorem abandoned_return (s : State) : handoffReturn (lsAbandon s false) = handoffReturn s ∧ (lsAbandon s false).mode = s.mode := by
  have hw : Within enterModeMask s (lsAbandon s false) := lsAbandon_within (by decide) (Within.refl _ s)
  have hw' : Within (partsMask [.mem, .out, .irqHeld, .q, .girth, .ls, .lsKept0, .lsKept1, .rFurrow, .rLs, .upd, .furBits]) s
    (lsAbandon s false) := lsAbandon_within (by decide) (Within.refl _ s)
  exact ⟨handoffReturn_congr (hw.same .clo (by decide)) (hw.rd_eq (i := 54) rfl (by decide) (by decide)),
    hw'.mode_eq (by decide)⟩

/-- A handoff that is refused shows so, and adds no fault. -/
theorem handoffRefuse_record {s : State} (hm : s.mode = mHANDOFF) :
    (handoffRefuse s).mode = handoffReturn s ∧ (handoffRefuse s).rd F.GIRTH_MODE_CAUSE = 0x0E ∧
      (handoffRefuse s).rd F.GIRTH_MODE_PREV_MODE = mHANDOFF ∧ (handoffRefuse s).faults = s.faults := by
  obtain ⟨-, hmode⟩ := abandoned_return s
  obtain ⟨hto, hcause, hprev⟩ :=
    enterMode_record (lsAbandon s false) (m := handoffReturn s) (cause := 0x0E) (by have := handoffReturn_legal s; omega) (by decide)
  have hw : Within enterModeMask s (followAll (enterMode (lsAbandon s false) (handoffReturn s) 0x0E)) :=
    followAll_enterMode_within (handoffReturn_legal s) _ (lsAbandon_within (by decide) (Within.refl _ s))
  simp only [handoffRefuse, hm, beq_self_eq_true, if_true]
  exact ⟨hto, hcause, by rw [hprev, hmode, hm]; rfl, hw.same .faults (by decide)⟩

/-- Settles O6: the lever writes EJECT alone, and the return shows the mode, its cause and HANDOFF. -/
theorem leverAndHandoff : Obligations.LeverAndHandoff := by
  refine ⟨fun s ok ha hm => ?_, fun s ok ha hm => ?_, fun s ok ha hr hv hd => ?_, fun s ha hm he => ?_, fun s ha hm he => ?_,
    fun s hm ho hr harm => ?_, fun s hm ht he => ?_, fun s ht => by simp [exec, execHandoffTimeout, ht],
    fun s hm hs hu => ?_⟩
  · have hmode : (s.wr F.SEAT_STAT_EJECT 1).mode = s.mode := State.rd_wr_ne _ _ (by decide)
    rcases hm with hm | hm <;> simp [exec, execEjectNAssert, ejectAssert, ha, hmode, hm]
  · have hmode : (s.wr F.SEAT_STAT_EJECT 1).mode = s.mode := State.rd_wr_ne _ _ (by decide)
    simp [exec, execEjectNAssert, ejectAssert, ha, hmode, hm, mDORMANCY, mRUN, mSERVICE]
  · have hmode : (s.wr F.SEAT_STAT_EJECT 1).mode = s.mode := State.rd_wr_ne _ _ (by decide)
    refine ⟨s.wr F.SEAT_STAT_EJECT 1, ?_, State.rd_wr_self .., (State.OnlyRegs.refl s _).wr (by decide) _⟩
    simp [exec, execEjectNAssert, ejectAssert, ha, hmode, hr, hv, hd]
  · have hmode : (s.wr F.SEAT_STAT_EJECT 0).mode = s.mode := State.rd_wr_ne _ _ (by decide)
    have hret : handoffReturn (s.wr F.SEAT_STAT_EJECT 0) = handoffReturn s :=
      handoffReturn_congr rfl (State.rd_wr_ne _ _ (by decide))
    obtain ⟨hto, hcause, hprev⟩ :=
      enterMode_record (s.wr F.SEAT_STAT_EJECT 0) (m := handoffReturn s) (cause := 0x0D) (by have := handoffReturn_legal s; omega) (by decide)
    refine ⟨followAll (enterMode (s.wr F.SEAT_STAT_EJECT 0) (handoffReturn s) 0x0D), ?_, hto, hcause,
      by rw [hprev, hmode, hm]; rfl, ?_⟩
    · simp only [exec, execEjectNDeassert, ha, hmode, hm, extractOk_eject, he, hret, Bool.not_true, Bool.false_eq_true,
        if_false, beq_self_eq_true, if_true]
    · exact ((enterMode_spares _ _ _).rd F.SEAT_STAT_EJECT ⟨by decide, by decide⟩).trans (State.rd_wr_self ..)
  · have hmode : (s.wr F.SEAT_STAT_EJECT 0).mode = s.mode := State.rd_wr_ne _ _ (by decide)
    refine ⟨s.wr F.SEAT_STAT_EJECT 0, ?_, State.rd_wr_self .., (State.OnlyRegs.refl s _).wr (by decide) _⟩
    simp [exec, execEjectNDeassert, ha, hmode, hm, extractOk_eject, he]
  · refine ⟨subSync (s.wr F.POM_STAT_SLS_ON 0), ?_, ?_,
      ((State.OnlyRegs.refl s _).wr (by decide) _).subSync (by decide) (by decide)⟩
    · simp [exec, execHandoffSafeLsOpen, hm, ho, hr, State.rdB, harm]
    · exact (rd_subSync (by decide) (by decide) _).trans (State.rd_wr_self ..)
  · obtain ⟨hto, hcause, hprev, hfaults⟩ := handoffRefuse_record (s := s.hwFault 0x0407 0) hm
    refine ⟨handoffRefuse (s.hwFault 0x0407 0), ?_, hto, hcause, hprev, hfaults⟩
    simp [exec, execHandoffTimeout, hm, ht, he]
  · refine ⟨subSync (s.wr F.POM_STAT_ARM 1), ?_, ?_,
      ((State.OnlyRegs.refl s _).wr (by decide) _).subSync (by decide) (by decide)⟩
    · rcases hm with hm | hm | hm <;> simp [exec, execSlsArmRaise, hm, hs, hu, mRUN, mSERVICE, mHOLD]
    · exact (rd_subSync (by decide) (by decide) _).trans (State.rd_wr_self ..)

end Sys2Proof.Machine
end

section
/-! Mode requests (R80, R89, R91): who may ask, and what an accepted request enters. -/

namespace Sys2Proof.Machine

/-! ## What a refusal looks at -/

/-- The state of an accepted request, FORCE taken. -/
def forceTaken (s : State) : State := { s with girth := { s.girth with force := false } }

theorem modeRequest_ok {s : State} {r : Req} {target : Nat} {force : Bool} (e : Envt)
    (h : modeRefusal s r target (force || s.girth.force) = none) :
    modeRequest s r target force e = (modeEnter (forceTaken s) target e).status 0 := by
  simp only [modeRequest, h]
  rfl

section
variable {s : State} {r : Req} {f : Bool} (hr : r.supOrStitch = true) (hk : s.rd F.CLO_STAT_KEYS_SEALED = 0)
  (hd : s.girth.shutdown = false)
include hr hd

theorem modeRefusal_boot (hm : s.mode = mRUN ∨ s.mode = mSERVICE) : modeRefusal s r mBOOT f = none := by
  rcases hm with hm | hm <;> simp [modeRefusal, hr, hd, hm, mBOOT, mRUN, mSERVICE]

include hk

theorem modeRefusal_handoff (hm : s.mode = mRUN ∨ s.mode = mSERVICE) : modeRefusal s r mHANDOFF f = none := by
  rcases hm with hm | hm <;>
    simp [modeRefusal, hr, State.rdB, hk, hd, hm, mHANDOFF, mBOOT, mRUN, mSERVICE]

theorem modeRefusal_run (hl : lcKeyed s = true) (hm : s.mode = mSERVICE) : modeRefusal s r mRUN f = none := by
  simp [modeRefusal, hr, State.rdB, hk, hd, hm, hl]

theorem modeRefusal_service (hm : s.mode = mRUN) (hf : (s.rd F.GIRTH_MODE_SUBSTATE).testBit 0 = true ∨ f = true) :
    modeRefusal s r mSERVICE f = none := by
  rcases hf with hf | hf <;> simp [modeRefusal, hr, State.rdB, hk, hd, hm, hf, mRUN, mSERVICE]

theorem modeRefusal_dormancy (hn : s.rd F.NS_CTL_EN = 0) (ho : dormancyOk s = true) : modeRefusal s r mDORMANCY f = none := by
  simp [modeRefusal, hr, State.rdB, hk, hd, hn, ho, mDORMANCY, mRUN, mSERVICE, mBOOT, mHANDOFF]

end

/-! ## What is entered -/

/-- Claiming moves neither the mode nor its record. -/
theorem claimAll_sameRecord (s : State) : SameRecord s (claimAll s) := by
  unfold claimAll
  extract_lets g keep ls dio s₁ s₂ s₃
  have h₁ : SameRecord s s₁ := ⟨rfl, rfl, rfl⟩
  have h₂ : SameRecord s s₂ := h₁.trans (SameRecord.wr _ _ (by decide))
  have h₃ : SameRecord s s₃ := h₂.trans (SameRecord.wr _ _ (by decide))
  exact (h₃.trans (SameRecord.subSync _)).trans
    (Within.sameRecord (K := followMask) (followAll_within (by decide) (Within.refl _ _)) (by decide) (by decide))

theorem SameRecord.hwWr (s : State) {g : Field} (v : Nat) (hg : g.key ≠ F.GIRTH_MODE_MODE.key ∧
    g.key ≠ F.GIRTH_MODE_PREV_MODE.key ∧ g.key ≠ F.GIRTH_MODE_CAUSE.key) : SameRecord s (s.hwWr g v) :=
  ⟨State.rd_hwWr_ne _ _ hg.1.symm, State.rd_hwWr_ne _ _ hg.2.1.symm, State.rd_hwWr_ne _ _ hg.2.2.symm⟩

theorem SameRecord.status (s : State) (c : Nat) : SameRecord s (s.status c) := ⟨rfl, rfl, rfl⟩

theorem State.rd_hwWr_self (s : State) (f : Field) (v : Nat) : (s.hwWr f v).rd f = v % 2 ^ f.w := s.rd_wr_self f v

/-- The record of `setMode`, with what leaves it as it is. -/
theorem SameRecord.of_setMode {s t : State} {m cause : Nat} (h : SameRecord (setMode s m cause) t) (hm : m < 16)
    (hc : cause < 256) : t.mode = m ∧ t.rd F.GIRTH_MODE_PREV_MODE = s.mode % 16 ∧ t.rd F.GIRTH_MODE_CAUSE = cause :=
  ⟨h.mode.trans (setMode_mode s hm cause), h.prev.trans (setMode_prev s m cause),
    h.cause.trans ((setMode_cause s m cause).trans (Nat.mod_eq_of_lt hc))⟩

theorem modeEnter_run_record (s : State) (e : Envt) : SameRecord (setMode s mRUN 0x04) (modeEnter s mRUN e) := by
  have hfollow : Within followMask (setMode s mRUN 0x04) (followAll (serviceEnd (setMode s mRUN 0x04))) :=
    followAll_within (by decide) (serviceEnd_within (by decide) (Within.refl _ _))
  have hrec := hfollow.sameRecord (by decide) (by decide)
  simp only [modeEnter, if_true]
  split
  · exact hrec.trans (claimAll_sameRecord _)
  · exact hrec

/-- SERVICE is entered with the switches off, and BOOT_SERVICE is cleared. -/
theorem modeEnter_service (s : State) (e : Envt) :
    modeEnter s mSERVICE e = followAll ((enterMode s mSERVICE 0x04).hwWr F.MODE_REQ_BOOT_SERVICE 0) := by
  simp only [modeEnter, show mSERVICE ≠ mRUN by decide, if_false, if_true]

theorem modeEnter_service_record (s : State) (e : Envt) : SameRecord (setMode s mSERVICE 0x04) (modeEnter s mSERVICE e) := by
  have hstart : Within followMask (setMode s mSERVICE 0x04) (enterMode s mSERVICE 0x04) := by
    rw [enterMode, if_pos rfl]
    exact serviceStart_within (by decide) (Within.refl _ _)
  have hfollow : Within followMask ((enterMode s mSERVICE 0x04).hwWr F.MODE_REQ_BOOT_SERVICE 0)
    (followAll ((enterMode s mSERVICE 0x04).hwWr F.MODE_REQ_BOOT_SERVICE 0)) := followAll_within (by decide) (Within.refl _ _)
  rw [modeEnter_service]
  have hboot : SameRecord (enterMode s mSERVICE 0x04) ((enterMode s mSERVICE 0x04).hwWr F.MODE_REQ_BOOT_SERVICE 0) :=
    SameRecord.hwWr _ _ (by decide)
  exact ((hstart.sameRecord (by decide) (by decide)).trans hboot).trans (hfollow.sameRecord (by decide) (by decide))

theorem modeEnter_service_boot (s : State) (e : Envt) : (modeEnter s mSERVICE e).rd F.MODE_REQ_BOOT_SERVICE = 0 := by
  have hfollow : Within followMask ((enterMode s mSERVICE 0x04).hwWr F.MODE_REQ_BOOT_SERVICE 0)
    (followAll ((enterMode s mSERVICE 0x04).hwWr F.MODE_REQ_BOOT_SERVICE 0)) := followAll_within (by decide) (Within.refl _ _)
  rw [modeEnter_service]
  exact (hfollow.rd_eq (f := F.MODE_REQ_BOOT_SERVICE) (i := 55) rfl (by decide) (by decide)).trans (State.rd_hwWr_self ..)

/-- What the entry to DORMANCY changes once the SAFE-LS switches are open. -/
def dormantMask : Nat := followMask ||| partsMask [.str, .clo, .rStirrup, .rCloche]

theorem dormancyEnter_within_dormant (s : State) :
    Within dormantMask (slsDown (setMode s mDORMANCY 0x04)) (debugSeal (strDormant (slsDown (setMode s mDORMANCY 0x04)))) :=
  debugSeal_within (by decide) (strDormant_within (by decide) (Within.refl _ _))

theorem slsDown_shows (s : State) : (slsDown s).rd F.POM_STAT_SLS_ON = 0 ∧ (slsDown s).rd F.POM_STAT_ARM = 0 :=
  ⟨(rd_subSync (by decide) (by decide) _).trans ((State.rd_wr_ne _ _ (by decide)).trans (State.rd_wr_self ..)),
    (rd_subSync (by decide) (by decide) _).trans (State.rd_wr_self ..)⟩

theorem dormancyEnter_dormEntry (s : State) : (dormancyEnter s).girth.dormEntry = true := rfl

theorem exec_modeReqBoot (s : State) (r : Req) (e : Envt) :
    exec (.modeReqBoot r e) s = .next (modeRequest s r mBOOT false e) := rfl

theorem exec_modeReqHandoff (s : State) (r : Req) (e : Envt) :
    exec (.modeReqHandoff r e) s = .next (modeRequest s r mHANDOFF false e) := rfl

theorem modeEnter_boot (s : State) (e : Envt) : modeEnter s mBOOT e = warmStart s 0x04 e.boot := by
  simp [modeEnter, mRUN, mSERVICE, mBOOT]

theorem modeEnter_handoff (s : State) (e : Envt) : modeEnter s mHANDOFF e = handoffEnter s false := by
  simp [modeEnter, mRUN, mSERVICE, mBOOT, mHANDOFF]

theorem modeEnter_dormancy (s : State) (e : Envt) : modeEnter s mDORMANCY e = dormancyEnter s := by
  simp [modeEnter, mDORMANCY, mRUN, mSERVICE, mBOOT, mHANDOFF]

theorem dormancyEnter_shows (s : State) : (dormancyEnter s).mode = mDORMANCY ∧ (dormancyEnter s).rd F.POM_STAT_SLS_ON = 0 ∧
    (dormancyEnter s).rd F.POM_STAT_ARM = 0 := by
  have hw := dormancyEnter_within_dormant s
  have hrd : ∀ f, (dormancyEnter s).rd f = (debugSeal (strDormant (slsDown (setMode s mDORMANCY 0x04)))).rd f := fun _ => by
    rw [dormancyEnter]
    generalize debugSeal (strDormant (slsDown (setMode s mDORMANCY 0x04))) = t
    rfl
  obtain ⟨hsls, harm⟩ := slsDown_shows (setMode s mDORMANCY 0x04)
  refine ⟨?_, (hrd _).trans ((hw.rd_eq (f := F.POM_STAT_SLS_ON) (i := 47) rfl (by decide) (by decide)).trans hsls),
    (hrd _).trans ((hw.rd_eq (f := F.POM_STAT_ARM) (i := 47) rfl (by decide) (by decide)).trans harm)⟩
  exact (hrd _).trans ((hw.mode_eq (by decide)).trans ((slsDown_reacts _).mode.trans (setMode_mode _ (by decide) 0x04)))

/-- Settles O8: each refusal is a condition of the state, and each target's entry shows its mode. -/
theorem modeRequests : Obligations.ModeRequests := by
  refine ⟨fun s r target force c e h => by simp [modeRequest, h], fun s r target f hr => by simp [modeRefusal, hr],
    fun s r f hr hk hm => ?_, fun s r e hr hk hl hd hm => ?_, fun s r force e hr hk hd hm hf => ?_,
    fun s r e hr hd hm => ?_, fun s r e hr hk hd hm => ?_, fun s r e hr hk hd hn ho => ?_⟩
  · have hrun : (s.mode == mRUN) = false := beq_eq_false_iff_ne.mpr hm
    simp [modeRefusal, hr, State.rdB, hk, hrun, show mSERVICE ≠ mRUN by decide]
  · obtain ⟨hmode, hprev, hcause⟩ :=
      ((modeEnter_run_record (forceTaken s) e).trans (SameRecord.status _ 0)).of_setMode (by decide) (by decide)
    exact ⟨_, congrArg Host.Outcome.next (modeRequest_ok e (modeRefusal_run hr hk hd hl hm)), hmode,
      hprev.trans (congrArg (· % 16) hm), hcause, State.status_resp _ _⟩
  · obtain ⟨hmode, hprev, hcause⟩ :=
      ((modeEnter_service_record (forceTaken s) e).trans (SameRecord.status _ 0)).of_setMode (by decide) (by decide)
    exact ⟨_, congrArg Host.Outcome.next (modeRequest_ok e (modeRefusal_service hr hk hd hm (by simpa using hf))), hmode,
      hprev.trans (congrArg (· % 16) hm), hcause,
      State.status_resp _ _, (State.rd_status _ _ _).trans (modeEnter_service_boot (forceTaken s) e)⟩
  · rw [exec_modeReqBoot, modeRequest_ok e (modeRefusal_boot hr hd hm), modeEnter_boot, forceTaken]
  · rw [exec_modeReqHandoff, modeRequest_ok e (modeRefusal_handoff hr hk hd hm), modeEnter_handoff, forceTaken]
  · obtain ⟨hmode, hsls, harm⟩ := dormancyEnter_shows (forceTaken s)
    refine ⟨_, congrArg Host.Outcome.next (modeRequest_ok e (modeRefusal_dormancy hr hk hd hn ho)), ?_⟩
    rw [modeEnter_dormancy]
    simp only [State.mode, State.rd_status, State.status_girth, State.status_resp]
    exact ⟨hmode, dormancyEnter_dormEntry _, hsls, harm, trivial⟩

end Sys2Proof.Machine
end

section
/-! Girth under what changes a mode without a reset, and under the ends of migrations when XL goes down. -/

namespace Sys2Proof.Machine

/-- The fields of Girth that an entry into a mode moves. -/
def modeMoved : List Field :=
  [F.GIRTH_MODE_MODE, F.GIRTH_MODE_PREV_MODE, F.GIRTH_MODE_CAUSE, F.GIRTH_MODE_SUBSTATE, F.SEAT_STAT_EXTRACT_OK]

/-- A field of Girth that no entry into a mode moves. -/
def ModeStays (f : Field) : Prop := f.key / (32 * 0x100000) = 0x20E ∧ ∀ g ∈ modeMoved, f.key ≠ g.key

theorem ModeStays.ne {f g : Field} (h : ModeStays f) (hg : g ∈ modeMoved) : f.key ≠ g.key := h.2 g hg

theorem ModeStays.ne_window {f g : Field} (h : ModeStays f) (hg : g.key / (32 * 0x100000) ≠ 0x20E) : f.key ≠ g.key :=
  fun e => hg (e ▸ h.1)

theorem Spares.mono {P Q : Field → Prop} {s t : State} (h : Spares P s t) (hQ : ∀ f, Q f → P f) : Spares Q s t :=
  ⟨fun f hf => h.rd f (hQ f hf), h.cold⟩

section
variable {b s t : State}

/-- An operation that touches neither Girth's window nor what Girth holds besides spares both. -/
theorem Spares.modeWithin {K : Nat} (h : Spares ModeStays b s) (hw : Within K s t)
    (hK : K.testBit Part.rGirth.bit = false) (hK' : K.testBit Part.girth.bit = false) : Spares ModeStays b t :=
  h.trans ⟨fun _ hf => hw.rd_girth_eq hK hf.1 (hf.ne (by decide)) (hf.ne (by decide)),
    congrArg GirthSt.coldNext (hw.girth_eq hK')⟩

theorem Spares.modeDegrade (h : Spares ModeStays b s) (src : Nat) (x : Bool) : Spares ModeStays b (s.degrade src x) :=
  degrade_spares src x h (fun _ hf => hf.ne (by decide)) fun _ hf => hf.ne (by decide)

theorem Spares.modeSync (h : Spares ModeStays b s) : Spares ModeStays b (Machine.subSync s) :=
  h.subSync (fun _ hf => hf.ne (by decide)) fun _ hf => hf.ne (by decide)

theorem Spares.foldl {α : Type} {P : Field → Prop} {f : State → α → State} (hf : ∀ t a, Spares P t (f t a))
    (h : Spares P b s) (l : List α) : Spares P b (l.foldl f s) := by
  induction l generalizing s with
  | nil => exact h
  | cons a l ih => exact ih (h.trans (hf s a))

theorem setMode_modeSpares (s : State) (m cause : Nat) : Spares ModeStays s (setMode s m cause) := by
  have h : Spares ModeStays s (modeRecorded s m cause) := Spares.of_eq
    ((((Spares.refl _ s).wr fun f hf => hf.ne (by decide)).wr fun f hf => hf.ne (by decide)).wr fun f hf => hf.ne (by decide)) rfl rfl
  exact h.modeSync.modeWithin (setMode_within_bus s m cause) (by decide) (by decide)

theorem enterMode_modeSpares (s : State) (m cause : Nat) : Spares ModeStays s (followAll (enterMode s m cause)) :=
  (setMode_modeSpares s m cause).modeWithin (enterMode_within_follow s m cause) (by decide) (by decide)

/-- What giving up the releases under way changes, the note of what is offered apart. -/
def abandonMask : Nat := partsMask [.mem, .out, .irqHeld, .q, .ls, .lsKept0, .lsKept1, .rFurrow, .rLs, .upd, .furBits]

theorem lsAbandon_modeSpares (s : State) (lost : Bool) : Spares ModeStays s (lsAbandon s lost) := by
  unfold lsAbandon
  extract_lets s₁
  have h₁ : Spares ModeStays s s₁ := by
    refine Spares.forN (fun n hn t => ?_) (Spares.refl _ s)
    split
    · exact Spares.refl _ t
    · extract_lets x t₁
      have h₂ : Spares ModeStays t t₁ := (Spares.refl _ t).modeWithin (K := abandonMask)
        (Within.wr (LS_STAT_SHARED_blk _) (by decide) (by decide) (by decide) (State_setLs_within (by decide) (Within.refl _ t))) (by decide) (by decide)
      exact h₂.ite fun h => h.modeWithin (K := abandonMask)
        (lsRecord_within (by decide) (lsFault_within (by decide) (Within.refl _ _))) (by decide) (by decide)
  clear_value s₁
  exact h₁.of_eq rfl rfl

theorem handoffRefuse_modeSpares (s : State) : Spares ModeStays s (handoffRefuse s) :=
  (Spares.refl _ s).ite fun h => (h.trans (lsAbandon_modeSpares s false)).trans (enterMode_modeSpares _ _ _)

theorem plotTo_modeSpares (s : State) (p st : Nat) : Spares ModeStays s (plotTo s p st) := by
  unfold plotTo
  extract_lets was x s₁ s₂
  have h₁ : Spares ModeStays s s₁ := (Spares.refl _ s).ite fun h => h.of_eq rfl rfl
  clear_value s₁
  have h₂ : Spares ModeStays s s₂ := h₁.wr fun f hf => hf.ne_window (by simp only [Field.key, F.PC_PSTAT_STATE]; omega)
  clear_value s₂
  unfold plotDegrade
  refine Spares.modeDegrade ?_ _ _
  split
  · exact h₂
  · exact h₂.of_eq rfl rfl

/-- The parts that the events a plot has missed may change. -/
def plotCatchMask : Nat :=
  partsMask [.mem, .out, .irqHeld, .q, .trl, .rTrellis, .rFurrow, .upd, .furBits]

theorem plotThaw_modeSpares (s : State) (p : Nat) : Spares ModeStays s (plotThaw s p) := by
  unfold plotThaw
  extract_lets x s₁
  have h₁ : Spares ModeStays s s₁ := by
    refine Spares.trans (Spares.of_eq (Spares.refl _ s) ?_ ?_) (plotTo_modeSpares _ p 3) <;> rfl
  exact h₁.modeWithin (K := plotCatchMask)
    (plotRecord_within (by decide) (plotIrqs_within (by decide) (plotCatch_within (by decide) (Within.refl _ _)))) (by decide) (by decide)


/-- The parts that the end of a job may change, plots and what follows them apart. -/
def jobEndMask : Nat :=
  partsMask [.mem, .out, .irqHeld, .q, .til, .clo, .grf, .jobs, .rFurrow, .rTilth, .rPlots, .rCloche, .upd, .furBits]

theorem jobClean_modeSpares (s : State) (j code : Nat) : Spares ModeStays s (jobClean s j code) := by
  unfold jobClean
  extract_lets x live grf s₁ clo p s₂
  split
  · exact Spares.refl _ s
  · split
    · exact (Spares.refl _ s).of_eq rfl rfl
    · exact (Spares.refl _ s).modeWithin (K := jobEndMask) (sweepDrop_within (by decide) (Within.refl _ s)) (by decide) (by decide)
    · have h₁ : Spares ModeStays s s₁ := by
        unfold s₁
        split
        · exact (Spares.refl _ s).modeWithin (K := jobEndMask) (journalAppend_within (by decide) (Within.refl _ s)) (by decide) (by decide)
        · exact (Spares.refl _ s).wr fun f hf => hf.ne_window (by decide)
      clear_value s₁
      exact h₁.of_eq rfl rfl
    · have h₂ : Spares ModeStays s s₂ := (Spares.refl _ s).ite fun h => h.wr fun f hf => hf.ne_window (by simp only [Field.key, F.PC_PFLT_MIG_FAIL]; omega)
      exact h₂.ite fun h => h.trans (plotThaw_modeSpares _ _)
    · exact Spares.refl _ s

theorem jobEnd_modeSpares (s : State) (j st code : Nat) : Spares ModeStays s (jobEnd s j st code) :=
  (jobClean_modeSpares s j code).modeWithin (K := jobEndMask) (jobTo_within (by decide) (Within.refl _ _)) (by decide) (by decide)

theorem migrateFail_modeSpares (s : State) (p code : Nat) : Spares ModeStays s (migrateFail s p code) := by
  unfold migrateFail
  split
  · exact jobEnd_modeSpares s _ 5 code
  · have h : Spares ModeStays s (s.wr (F.PC_PFLT_MIG_FAIL p) 1) :=
      (Spares.refl _ s).wr fun f hf => hf.ne_window (by simp only [Field.key, F.PC_PFLT_MIG_FAIL]; omega)
    exact (h.trans (plotThaw_modeSpares _ p)).trans (handoffRefuse_modeSpares _)

/-- The parts that the requests outstanding over XL may change as they end. -/
def xlDropMask : Nat :=
  partsMask [.mem, .resp, .out, .irqHeld, .q, .can, .br, .ses, .rFurrow, .rCan, .rGateway, .rBridle, .upd, .furBits]

/-- XL going down moves in Girth what an entry into a mode moves alone. -/
theorem xlLoss_modeSpares (s : State) : Spares ModeStays s (xlLoss s) := by
  unfold xlLoss
  split
  · exact Spares.refl _ s
  · have h : Spares ModeStays s (xlDrop (s.wr F.XL_STAT_LINK 0)) := Spares.modeWithin (K := xlDropMask)
      ((Spares.refl _ s).wr fun f hf => hf.ne_window (by decide)) (xlDrop_within (by decide) (Within.refl _ _)) (by decide) (by decide)
    refine (Spares.forN (fun p _ t => ?_) h).modeSync
    extract_lets k
    exact (Spares.refl _ t).ite fun h => h.trans (migrateFail_modeSpares t p 0x0111)

end

end Sys2Proof.Machine
end

section
/-! Faults of links and blocks (R25, R101, R102, R105, R106, R114). -/

namespace Sys2Proof.Machine

/-! ## The SerDes PLLs -/

/-- What a fault of a SerDes PLL takes down, by the link concerned. -/
def serdesDown (s : State) (p : Nat) : State := if p = 2 then xlLoss s else s.wr (F.ETH_STAT_LINK p) 0

theorem exec_clockFault_serdes {s : State} (h : alive s = true) (p : Fin 3) :
    exec (.clockFault 5 p) s = .next ((serdesDown (clockFaulted s 5) p).degrade 12 true) := by
  simp only [exec, execClockFault, h, Bool.not_true, Bool.false_eq_true, if_false]
  rfl

theorem serdesDown_modeSpares (s : State) (p : Nat) : Spares ModeStays s (serdesDown s p) := by
  unfold serdesDown
  split
  · exact xlLoss_modeSpares s
  · exact (Spares.refl _ s).wr fun f hf => hf.ne_window (by simp only [Field.key, F.ETH_STAT_LINK]; omega)

/-! ## The die-to-die link -/

/-- What the lost half of the link resets. -/
def pd1Mask : Nat := partsMask [.ls, .lsKept1, .rGirth, .upd]

theorem exec_d2dLinkLoss {s : State} (h : alive s = true) : exec .d2dLinkLoss s =
    .next (followAll (pd1Reset (State.hwFault { s with str := { s.str with pd1Lost := true } } 0x0606 1))) := by
  simp [exec, execD2dLinkLoss, h]

/-! ## Block resets -/

theorem rd_busy_of_within {K : Nat} {s t : State} (h : Within K s t) (hK : K.testBit Part.rGirth.bit = false) :
    t.rd F.BLK_RST_STAT_BUSY = s.rd F.BLK_RST_STAT_BUSY := h.rd_girth_eq hK (by decide) (by decide) (by decide)

theorem rd_busy_resetWindows {s : State} {ws : List (Nat × Nat)}
    (hw : ∀ w ∈ ws, w.2 ≤ 0x20E00000 ∨ 0x20F00000 ≤ w.1) : (s.resetWindows ws).rd F.BLK_RST_STAT_BUSY = s.rd F.BLK_RST_STAT_BUSY := by
  have h : Spares (fun f => f.key / (32 * 0x100000) = 0x20E) s (s.resetWindows ws) :=
    (Spares.refl _ s).resetWindows fun f hf w hm => by have := hw w hm; omega
  exact h.rd _ (by decide)

theorem blkWindow_away {b : Nat} : ∀ w ∈ blkWindow b, w.2 ≤ 0x20E00000 ∨ 0x20F00000 ≤ w.1 := by
  intro w hw
  unfold blkWindow at hw
  split at hw
  · simp only [List.mem_singleton] at hw; subst hw; decide
  · simp only [List.mem_singleton] at hw; subst hw; decide
  · simp only [List.mem_singleton] at hw; subst hw; decide
  · simp only [List.mem_singleton] at hw; subst hw; decide
  · split at hw
    · simp only [List.mem_cons, List.not_mem_nil, or_false] at hw
      rcases hw with rfl | rfl | rfl <;> exact .inl (by dsimp only; omega)
    · exact absurd hw List.not_mem_nil

theorem rd_busy_resetTilth (s : State) : (resetTilth s).rd F.BLK_RST_STAT_BUSY = s.rd F.BLK_RST_STAT_BUSY := by
  unfold resetTilth
  simp only [State.rd_wr_ne _ _ (show F.BLK_RST_STAT_BUSY.key ≠ F.TIL_UC_ADDR_ADDR.key by decide),
    State.rd_wr_ne _ _ (show F.BLK_RST_STAT_BUSY.key ≠ F.TIL_UC_CRC_CRC.key by decide),
    State.rd_wr_ne _ _ (show F.BLK_RST_STAT_BUSY.key ≠ F.TIL_UC_CTL_LOCK.key by decide),
    State.rd_wr_ne _ _ (show F.BLK_RST_STAT_BUSY.key ≠ F.TIL_UC_CTL_REV.key by decide),
    State.rd_wr_ne _ _ (show F.BLK_RST_STAT_BUSY.key ≠ F.TIL_STAT_UC_LOCKED.key by decide),
    State.rd_wr_ne _ _ (show F.BLK_RST_STAT_BUSY.key ≠ F.TIL_STAT_PSET_VALID.key by decide)]
  refine (State.rd_degrade (by decide) (by decide) _ _ _).trans ?_
  exact State.rd_resetRegs_out (f := F.BLK_RST_STAT_BUSY) s (by decide)

/-- A block's reset makes that block busy and no other. -/
theorem bit_busy_resetBlk (b : Nat) (s : State) (k : Nat) : (resetBlk b s).bit F.BLK_RST_STAT_BUSY k =
    (decide (k < F.BLK_RST_STAT_BUSY.w) && (s.bit F.BLK_RST_STAT_BUSY k || decide (b = k))) := by
  unfold resetBlk
  extract_lets s₁ s₂ s₃ g s₄ p s₅ s₆ g'
  have h₁ : s₁.rd F.BLK_RST_STAT_BUSY = s.rd F.BLK_RST_STAT_BUSY := by
    unfold s₁
    split
    · exact rd_busy_resetTilth s
    · exact rd_busy_resetWindows blkWindow_away
  clear_value s₁
  have h₂ : s₂.rd F.BLK_RST_STAT_BUSY = s.rd F.BLK_RST_STAT_BUSY := by
    unfold s₂
    split
    · exact (rd_busy_of_within (K := canSyncMask)
        (canSync_within (by decide) (Within.u_can (by decide) (Within.refl _ _))) (by decide)).trans h₁
    · exact h₁
  clear_value s₂
  have h₃ : s₃.rd F.BLK_RST_STAT_BUSY = s.rd F.BLK_RST_STAT_BUSY := by unfold s₃; split <;> exact h₂
  clear_value s₃
  have h₄ : s₄.rd F.BLK_RST_STAT_BUSY = s.rd F.BLK_RST_STAT_BUSY := by unfold s₄; split <;> exact h₃
  clear_value s₄
  have h₅ : s₅.rd F.BLK_RST_STAT_BUSY = s.rd F.BLK_RST_STAT_BUSY := by unfold s₅; split <;> exact h₄
  clear_value s₅
  rw [State.bit_setBit]
  exact congrArg (fun x => decide (k < F.BLK_RST_STAT_BUSY.w) && (x || decide (b = k))) (State.bit_congr h₅ k)

/-- What Bridle's reset ends besides its registers. -/
def brResetMask : Nat := partsMask [.mem, .resp, .out, .irqHeld, .q, .gw, .br, .rFurrow, .rGateway, .rBridle, .upd, .furBits]

theorem rd_busy_xlLoss (s : State) : (xlLoss s).rd F.BLK_RST_STAT_BUSY = s.rd F.BLK_RST_STAT_BUSY :=
  (xlLoss_modeSpares s).rd _ ⟨by decide, by decide⟩

theorem bit_busy_blkReset (b : Nat) (s : State) (k : Nat) : (blkReset b s).bit F.BLK_RST_STAT_BUSY k =
    (decide (k < F.BLK_RST_STAT_BUSY.w) && (s.bit F.BLK_RST_STAT_BUSY k || decide (b = k))) := by
  unfold blkReset
  split
  · rw [bit_busy_resetBlk, State.bit_congr (rd_busy_of_within (K := brResetMask) (brReset_within (by decide) (Within.refl _ s)) (by decide))]
  · have hsync : Within (partsMask [.rGraft, .upd]) (resetBlk 3 (s.resetRegs 0x21100000 0x21200000))
      (grfSync (resetBlk 3 (s.resetRegs 0x21100000 0x21200000))) := grfSync_within (by decide) (Within.refl _ _)
    rw [State.bit_congr (rd_busy_of_within hsync (by decide)), bit_busy_resetBlk,
      State.bit_congr (State.rd_resetRegs_out (f := F.BLK_RST_STAT_BUSY) s (by decide))]
  · rw [bit_busy_resetBlk, State.bit_congr (rd_busy_xlLoss s)]
  · exact bit_busy_resetBlk b s k

/-- Each block that the mask names is busy after the loop. -/
theorem bit_busy_blkResets (s : State) {rst n b : Nat} (hb : b < n) (h14 : b < 14) (hr : rst.testBit b = true) :
    (forN (fun b t => if rst.testBit b then blkReset b t else t) n s).bit F.BLK_RST_STAT_BUSY b = true := by
  have hw : decide (b < F.BLK_RST_STAT_BUSY.w) = true := decide_eq_true h14
  induction n with
  | zero => omega
  | succ m ih =>
    show (if rst.testBit m then blkReset m _ else _).bit F.BLK_RST_STAT_BUSY b = true
    by_cases hm : b = m
    · subst hm
      rw [if_pos hr, bit_busy_blkReset, hw, decide_eq_true rfl, Bool.or_true, Bool.and_self]
    · have hlt : b < m := by omega
      split
      · rw [bit_busy_blkReset, ih hlt, hw, Bool.true_or, Bool.and_self]
      · exact ih hlt

theorem exec_blkRst (s : State) (rst : BitVec 14) :
    exec (.blkRst .supervisor rst) s = .next ((blkRst s rst.toNat).status 0) := by simp [exec, execBlkRst]

theorem bit_busy_blkRst (s : State) {rst : BitVec 14} {b : Nat} (hb : b < 14) (hr : rst.getLsbD b = true) :
    ((blkRst s rst.toNat).status 0).bit F.BLK_RST_STAT_BUSY b = true := by
  have hbit := bit_busy_blkResets s (rst := rst.toNat) hb hb hr
  rw [State.bit_congr (State.rd_status ..)]
  unfold blkRst
  extract_lets s₁
  have hs₁ : s₁.bit F.BLK_RST_STAT_BUSY b = true := hbit
  clear_value s₁
  split
  · exact hs₁
  · exact (State.bit_congr (State.rd_wr_ne _ _ (by decide)) b).trans hs₁

theorem rd_service_blkRst (s : State) {rst : BitVec 14} (hr : rst ≠ 0) :
    ((blkRst s rst.toNat).status 0).rd F.XING_STAT_SERVICE = 0 := by
  have hne : rst.toNat % 2 ^ 14 ≠ 0 := by
    rw [Nat.mod_eq_of_lt rst.isLt]
    exact fun h => hr (BitVec.eq_of_toNat_eq h)
  rw [State.rd_status, blkRst, if_neg hne]
  exact State.rd_wr_self ..

/-! ## Crossings -/

/-- A handshake timeout, as it is counted and recorded. -/
def xingFaulted (s : State) (k : Nat) : State :=
  ((s.incSat F.XING_STAT_TMO_CNT).wr F.XING_STAT_SERVICE 0).hwFault 0x0605 k

/-- The block whose crossing has failed stays busy. -/
def blkFailed (s : State) (k : Nat) : State :=
  State.setBit { s with girth := { s.girth with xFail := s.girth.xFail ||| BitVec.ofNat 14 (2 ^ k) } } F.BLK_RST_STAT_BUSY k

theorem xingFaulted_shows (s : State) (k : Nat) : (xingFaulted s k).rd F.XING_STAT_TMO_CNT =
      min (s.rd F.XING_STAT_TMO_CNT + 1) (2 ^ F.XING_STAT_TMO_CNT.w - 1) ∧ (xingFaulted s k).rd F.XING_STAT_SERVICE = 0 ∧
    (xingFaulted s k).faults = s.faults ++ [⟨0x0605, k, s.stamp⟩] ∧
    s.RegsBut (xingFaulted s k) [F.XING_STAT_TMO_CNT, F.XING_STAT_SERVICE, F.BLK_RST_STAT_BUSY] := by
  refine ⟨?_, State.rd_wr_self .., rfl, ((State.RegsBut_refl s _).set (by decide) rfl).set (by decide) rfl⟩
  rw [xingFaulted, State.rd_hwFault, State.rd_wr_ne _ _ (by decide), State.rd_incSat, if_pos rfl]
  split <;> omega

theorem exec_handshakeTimeout_blk {s : State} (h : alive s = true) (k : Fin 14) :
    exec (.handshakeTimeout (some k)) s = .next (blkFailed (xingFaulted s k) k) := by
  simp only [exec, execHandshakeTimeout, h, Bool.not_true, Bool.false_eq_true, if_false]
  rfl

theorem exec_handshakeTimeout_safe {s : State} (h : alive s = true) : exec (.handshakeTimeout none) s =
    .next { xingFaulted s 14 with girth := { (xingFaulted s 14).girth with domFail := true } } := by
  simp only [exec, execHandshakeTimeout, h, Bool.not_true, Bool.false_eq_true, if_false]
  rfl

theorem getLsbD_noted (x : BitVec 14) (k : Fin 14) : (x ||| BitVec.ofNat 14 (2 ^ k.val)).getLsbD k = true := by
  rw [BitVec.getLsbD_or, BitVec.getLsbD_ofNat, Nat.testBit_two_pow_self, decide_eq_true k.isLt, Bool.and_self, Bool.or_true]

theorem blkFailed_shows (s : State) (k : Fin 14) : s.RegsBut (blkFailed s k) [F.BLK_RST_STAT_BUSY] ∧
    (blkFailed s k).bit F.BLK_RST_STAT_BUSY k = true ∧ (blkFailed s k).girth.xFail.getLsbD k = true ∧
    (blkFailed s k).faults = s.faults := by
  refine ⟨(s.RegsBut_refl _).set (g := F.BLK_RST_STAT_BUSY) (by decide) rfl, ?_, getLsbD_noted s.girth.xFail k, rfl⟩
  rw [blkFailed, State.bit_setBit]
  simp [F.BLK_RST_STAT_BUSY]

theorem xingSync_onlyRegs {s t : State} {fs : List Field} (h : s.OnlyRegs t fs) (hg : F.XING_STAT_SERVICE ∈ fs) :
    s.OnlyRegs (xingSync t) fs := by
  unfold xingSync
  split
  · exact h.wr hg 1
  · exact h

theorem bit_busy_xingSync (s : State) (k : Nat) : (xingSync s).bit F.BLK_RST_STAT_BUSY k = s.bit F.BLK_RST_STAT_BUSY k := by
  unfold xingSync
  split
  · exact State.bit_congr (State.rd_wr_ne _ _ (by decide)) k
  · rfl

/-- Settles O4: each fault's own fields, and what its reaction leaves of them. -/
theorem linkAndBlockFaults : Obligations.LinkAndBlockFaults := by
  refine ⟨fun s p ha => ⟨_, exec_clockFault_serdes ha p, ?_, fun hp => ?_⟩, fun s ha => ⟨_, exec_d2dLinkLoss ha, ?_⟩,
    fun s b ha => ?_, fun s rst => ⟨_, exec_blkRst s rst, rfl, fun b hb hr => bit_busy_blkRst s hb hr, fun hr => ?_⟩,
    fun s r rst hr => by simp [exec, execBlkRst, hr], fun s b hbusy hc hx => ?_, fun s b hx => by simp [exec, execBlkResetRelease, hx]⟩
  · have hkept : Spares ModeStays (clockFaulted s 5) ((serdesDown (clockFaulted s 5) p).degrade 12 true) :=
      (serdesDown_modeSpares _ p).modeDegrade 12 true
    rw [State.bit_congr (hkept.rd F.CLK_FLT_FLT ⟨by decide, by decide⟩)]
    exact clockFaulted_shows s (by decide)
  · have hp2 : p.val ≠ 2 := fun e => hp (Fin.ext e)
    rw [serdesDown, if_neg hp2]
    refine ⟨(State.rd_degrade (by decide) (by decide) _ _ _).trans ((State.rd_wr_ne _ _ ?_).trans (clockFaulted_mode s 5)),
      (State.rd_degrade ?_ ?_ _ _ _).trans (State.rd_wr_self ..), clockFaulted_faults s 5⟩ <;>
      · simp only [Field.key, F.ETH_STAT_LINK, F.GIRTH_MODE_MODE, F.SEAT_STAT_EXTRACT_OK, F.GIRTH_MODE_SUBSTATE]
        omega
  · have hpd : Within pd1Mask _ (pd1Reset (State.hwFault { s with str := { s.str with pd1Lost := true } } 0x0606 1)) :=
      pd1Reset_within (by decide) (Within.refl _ _)
    have hw : Within followMask _ (followAll (pd1Reset (State.hwFault { s with str := { s.str with pd1Lost := true } } 0x0606 1))) :=
      followAll_within (by decide) (Within.refl _ _)
    refine ⟨(hw.same .faults (by decide)).trans ((hpd.same .faults (by decide)).trans rfl),
      (hw.rd_girth_eq (by decide) (by decide) (by decide) (by decide)).trans (State.rd_wr_self ..), ?_,
      (hw.mode_eq (by decide)).trans ((hpd.mode_eq (by decide)).trans rfl)⟩
    have hstr := (hw.same .str (by decide)).trans (hpd.same .str (by decide))
    rw [hstr, State.hwFault_str]
  · cases b with
    | some k =>
      obtain ⟨hcnt, hserv, hfaults, hregs⟩ := xingFaulted_shows s k
      obtain ⟨hkept, hbusy, hfail, hsame⟩ := blkFailed_shows (xingFaulted s k) k
      refine ⟨_, exec_handshakeTimeout_blk ha k, ?_, ?_, ⟨?_, hbusy, hfail⟩, ?_⟩
      · exact (hkept F.XING_STAT_TMO_CNT (by decide)).trans hcnt
      · exact (hkept F.XING_STAT_SERVICE (by decide)).trans hserv
      · exact hsame.trans hfaults
      · exact hregs.trans (State.RegsBut.mono hkept (by decide))
    | none =>
      obtain ⟨hcnt, hserv, hfaults, hregs⟩ := xingFaulted_shows s 14
      exact ⟨_, exec_handshakeTimeout_safe ha, hcnt, hserv, ⟨hfaults, rfl⟩, hregs⟩
  · exact rd_service_blkRst s hr
  · refine ⟨xingSync (s.clrBit F.BLK_RST_STAT_BUSY b), ?_, ?_,
      xingSync_onlyRegs ((State.OnlyRegs.refl s _).clrBit (by decide) _) (by decide)⟩
    · simp only [exec, execBlkResetRelease, hbusy, hc, hx, Bool.not_false, Bool.and_self, if_true]
    rw [bit_busy_xingSync, State.bit_clrBit]
    simp

end Sys2Proof.Machine
end

section
/-! What the supplies do (R70-R76, R79, R90, R97). -/

namespace Sys2Proof.Machine

/-! ## What the resets leave of the supplies' state -/

/-- Are the outputs held off, and does a shutdown run? -/
def supply (s : State) : Bool × Bool := (s.girth.outOff, s.girth.shutdown)

/-- The windows of registers, and the DIO channels. -/
def regsMask : Nat := partsMask [.dio, .rTrellis, .rPlant, .rLatigo, .rMsr, .rFurrow, .rTilth, .rPommel, .rLs, .rStirrup, .rDio, .rCan,
  .rGateway, .rPlots, .rCloche, .rGirth, .rEth, .rBridle, .rGraft, .rIdent, .substate, .upd]

theorem supply_of_eq {b s t : State} (h : supply s = supply b) (ho : t.girth.outOff = s.girth.outOff)
    (hs : t.girth.shutdown = s.girth.shutdown) : supply t = supply b := by
  rw [← h, supply, ho, hs, supply]

theorem supply_dropMem {b s : State} (h : supply s = supply b) (lo hi : Nat) : supply (s.dropMem lo hi) = supply b :=
  supply_of_eq h rfl rfl

theorem supply_safeParts {b s : State} {a tr pt po la ms ca} {g : GirthSt} (h : supply s = supply b)
    (ho : g.outOff = s.girth.outOff) (hs : g.shutdown = s.girth.shutdown) :
    supply { s with arb := a, girth := g, trl := tr, pt := pt, pom := po, lat := la, msr := ms, cap := ca } = supply b :=
  supply_of_eq h ho hs

theorem supply_resetWindows (s : State) (ws : List (Nat × Nat)) : supply (s.resetWindows ws) = supply s := by
  unfold State.resetWindows
  induction ws generalizing s with
  | nil => rfl
  | cons w ws ih => exact (ih _).trans rfl

theorem supply_of_within {K : Nat} {s t : State} (h : Within K s t) (hK : K.testBit Part.girth.bit = false) :
    supply t = supply s := by rw [supply, h.girth_eq hK, supply]

theorem supply_resetTilth (s : State) : supply (resetTilth s) = supply s := by
  unfold resetTilth
  extract_lets til uc ps s₁ s₂ s₃
  have h₁ : supply s₁ = supply s := rfl
  clear_value s₁
  exact supply_of_eq h₁ rfl rfl

theorem supply_resetBlk (b : Nat) (s : State) : supply (resetBlk b s) = supply s := by
  unfold resetBlk
  extract_lets s₁ s₂ s₃ g s₄ p s₅ s₆ g'
  have h₁ : supply s₁ = supply s := by
    unfold s₁
    split
    · exact supply_resetTilth s
    · exact supply_resetWindows s _
  clear_value s₁
  have h₂ : supply s₂ = supply s := by
    unfold s₂
    split
    · exact (supply_of_within (K := canSyncMask)
        (canSync_within (by decide) (Within.u_can (by decide) (Within.refl _ _))) (by decide)).trans h₁
    · exact h₁
  clear_value s₂
  have h₃ : supply s₃ = supply s := by unfold s₃; split <;> exact h₂
  clear_value s₃
  have h₄ : supply s₄ = supply s := by unfold s₄; split <;> exact h₃
  clear_value s₄
  have h₅ : supply s₅ = supply s := by unfold s₅; split <;> exact h₄
  clear_value s₅
  exact h₅

theorem supply_resetCore (s : State) (cold : Bool) : supply (resetCore s cold) = supply s := by
  unfold resetCore
  extract_lets s₁ low s₂ s₃ s₄ s₅ s₆ s₇ g s₈
  have h₁ : supply s₁ = supply s := supply_of_within (K := coreFirstMask)
    (wakeRelease_within (by decide) (settingsStore_within (by decide) (Within.refl _ _))) (by decide)
  have h₃ : supply s₃ = supply s := (supply_resetWindows _ _).trans ((supply_of_within (K := regsMask)
    (resetDio_within (by decide) (resetLs_within (by decide) (Within.refl _ s₁))) (by decide)).trans h₁)
  clear_value s₃ low
  have h₄ : supply s₄ = supply s := supply_of_eq h₃ rfl rfl
  clear_value s₄
  have h₅ : supply s₅ = supply s := (forN_keeps supply (fun b _ t => supply_resetBlk b t) s₄).trans h₄
  clear_value s₅
  have h₆ : supply s₆ = supply s := supply_of_eq h₅ rfl rfl
  clear_value s₆
  have h₇ : supply s₇ = supply s := by 
    unfold s₇
    split
    · exact supply_dropMem h₆ _ _
    · exact h₆
  clear_value s₇
  exact supply_of_eq h₇ rfl rfl

theorem supply_resetSafe (s : State) (keep : Bool) : supply (resetSafe s keep) = supply s := by
  unfold resetSafe
  extract_lets s₀ s₁ s₂ s₃ p p' s₄ g s₅
  have h₁ : supply s₁ = supply s := by 
    unfold s₁
    split
    · rfl
    · exact supply_of_eq rfl rfl rfl
  clear_value s₁
  have h₂ : supply s₂ = supply s := (supply_resetWindows s₁ _).trans h₁
  clear_value s₂
  have h₃ : supply s₃ = supply s := by
    unfold s₃
    split
    · exact h₂
    · exact supply_dropMem h₂ _ _
  clear_value s₃
  have h₅ : supply s₅ = supply s := supply_safeParts h₃ rfl rfl
  exact supply_of_eq h₅ rfl rfl

/-! ## The power-fail warning -/

/-- The module as its shutdown begins: silent, without the settings not yet stored. -/
def silenced (s : State) : State :=
  { outputsOff s with
    ses := {}
    girth := { (outputsOff s).girth with shutdown := true, dormEntry := false, vinPath := false } }

theorem shutdown_eq (s : State) : shutdown s = railsTo (resetCore (resetSafe (silenced s) false) false) 0 0 := rfl

/-- VIN is gone and HOLDUP_OK with it. -/
def vinGone (s : State) : State :=
  State.wr { s.wr F.RAIL_FLT_VIN_PF 1 with girth := { s.girth with vin := false } } F.RAIL_STAT_HOLDUP_OK 0

theorem exec_powerFailWarning {s : State} (h : s.girth.vin = true) :
    exec .powerFailWarning s = .next (vinGone (shutdown (powerFailRecord s))) := by
  simp only [exec, execPowerFailWarning, h, Bool.not_true, Bool.false_eq_true, if_false]
  rfl

theorem supply_shuttingDown (s : State) : supply { s with
    ses := {}, girth := { s.girth with shutdown := true, dormEntry := false, vinPath := false } } = (s.girth.outOff, true) := rfl

theorem supply_eq {s : State} {a b : Bool} (h : supply s = (a, b)) : s.girth.outOff = a ∧ s.girth.shutdown = b :=
  Prod.ext_iff.mp h

theorem supply_silenced (s : State) : supply (silenced s) = (true, true) := by
  have hout : (outputsOff s).girth = ((slsDown { s with girth := { s.girth with outOff := true } }).wr F.XL_STAT_LINK 0).girth :=
    Within.girth_eq (K := followMask) (followAll_within (by decide) (Within.refl _ _)) (by decide)
  have hoff : (outputsOff s).girth.outOff = true := by rw [hout]; rfl
  rw [silenced, supply_shuttingDown, hoff]

theorem railsTo_within_rails (s : State) (win clk : Nat) : Within (partsMask [.rGirth, .upd]) s (railsTo s win clk) :=
  railsTo_within (by decide) (Within.refl _ s)

theorem supply_shutdown (s : State) : supply (shutdown s) = (true, true) := by
  rw [shutdown_eq, supply_of_within (railsTo_within_rails _ 0 0) (by decide), supply_resetCore, supply_resetSafe, supply_silenced]

/-- What SAFE's reset returns reads so after a shutdown. -/
theorem rd_shutdown {f : Field} (hf : SafeField f) (hc : CoreSpared f) {i : Nat} (hi : Blk f i) (h : 41 < i ∧ i < 55) (s : State) :
    (shutdown s).rd f = f.rst := by
  have hK : (partsMask [.rGirth, .upd]).testBit i = false := by
    obtain ⟨hlo, hhi⟩ := h
    interval_cases i <;> decide
  rw [shutdown_eq, (railsTo_within_rails _ 0 0).rd_eq hi (by omega) hK, (resetCore_spares _ false).rd f hc, rd_resetSafe hf]

theorem rd_railsTo_inWin (s : State) {win : Nat} (clk : Nat) (h : win < 64) : (railsTo s win clk).rd F.RAIL_STAT_IN_WIN = win := by
  unfold railsTo
  extract_lets s₁ s₂
  rw [State.rd_wr_ne _ _ (by decide), State.rd_wr_ne _ _ (by decide), State.rd_wr_ne _ _ (by decide),
    State.rd_wr_ne _ _ (by decide), State.rd_wr_ne _ _ (by decide), State.rd_wr_ne _ _ (by decide),
    State.rd_wr_ne _ _ (by decide), State.rd_wr_of_lt (f := F.RAIL_STAT_IN_WIN) _ h]

/-- The parts of a shutdown. -/
def shutdownMask : Nat := partsMask (Part.allBut [.grf])

theorem vinGone_shows (s : State) : (vinGone s).rd F.RAIL_FLT_VIN_PF = 1 ∧ (vinGone s).rd F.RAIL_STAT_HOLDUP_OK = 0 ∧
    s.RegsBut (vinGone s) [F.RAIL_FLT_VIN_PF, F.RAIL_STAT_HOLDUP_OK] ∧ supply (vinGone s) = supply s ∧
    (vinGone s).girth.vin = false ∧ (vinGone s).grf = s.grf :=
  ⟨(State.rd_wr_ne _ _ (by decide)).trans (State.rd_wr_self ..), State.rd_wr_self ..,
    ((s.RegsBut_refl _).set (by decide) rfl).set (by decide) rfl, rfl, rfl, rfl⟩

theorem powerFailRecord_pfail (s : State) :
    (powerFailRecord s).grf.pfail = if flashOk s then s.grf.pfail ++ [s.stamp] else s.grf.pfail := by
  unfold powerFailRecord
  split <;> rfl

/-! ## The start after a shutdown -/

/-- A map without a key reads the default there. -/
theorem SMap.get_filter_of_neg {α : Type} (m : SMap α) (p : Nat × α → Bool) (k : Nat) (d : α) (h : ∀ v, p (k, v) = false) :
    SMap.get (m.filter p) k d = d := by
  have hnone : SMap.find? (m.filter p) k = none := by
    induction m with
    | nil => rfl
    | cons e r ih =>
      obtain ⟨k', v'⟩ := e
      by_cases hp : p (k', v') = true
      · have hk : k ≠ k' := by
          rintro rfl
          rw [h v'] at hp
          exact absurd hp (by decide)
        rw [List.filter_cons_of_pos hp]
        simpa only [SMap.find?, if_neg hk] using ih
      · rw [List.filter_cons_of_neg hp]
        exact ih
  rw [SMap.get, hnone]
  rfl

theorem exec_shutdownComplete {s : State} (h : s.girth.shutdown = true) : exec .shutdownComplete s = .next (reseat s) := by
  simp [exec, execShutdownComplete, h]

theorem reseat_record (s : State) : (reseat s).mode = mSEATING ∧ (reseat s).rd F.GIRTH_MODE_CAUSE = 0x01 ∧
    (reseat s).rd F.SEAT_STAT_PRES = 0 := by
  unfold reseat
  extract_lets g keep t₁ clo pom t₂ t₃ t₄
  clear_value t₃
  simp only [State.mode]
  refine ⟨(rd_subSync (by decide) (by decide) _).trans ?_, (rd_subSync (by decide) (by decide) _).trans ?_,
    (rd_subSync (by decide) (by decide) _).trans ?_⟩
  · rw [State.rd_wr_ne _ _ (by decide), State.rd_wr_ne _ _ (by decide), State.rd_wr_ne _ _ (by decide),
      State.rd_wr_ne _ _ (by decide)]
    exact State.rd_wr_self ..
  · rw [State.rd_wr_ne _ _ (by decide), State.rd_wr_ne _ _ (by decide), State.rd_wr_ne _ _ (by decide)]
    exact State.rd_wr_self ..
  · rw [State.rd_wr_ne _ _ (by decide), State.rd_wr_ne _ _ (by decide)]
    exact State.rd_wr_self ..

/-- Outside Girth and Stirrup the start after a shutdown reads the reset values. -/
theorem rd_reseat (s : State) {f : Field} (hstr : f.key / (32 * 0x100000) ≠ 0x208) (hgirth : f.key / (32 * 0x100000) ≠ 0x20E) :
    (reseat s).rd f = f.rst := by
  have hne : ∀ g : Field, g.key / (32 * 0x100000) = 0x20E → f.key ≠ g.key := fun g hg e => hgirth (e ▸ hg)
  unfold reseat
  extract_lets g keep t₁ clo pom t₂ t₃ t₄
  have h₃ : t₃.rd f = f.rst := SMap.get_filter_of_neg s.regs _ f.key f.rst fun v => by
    simp only [Bool.or_eq_false_iff, Bool.and_eq_false_iff, decide_eq_false_iff_not]
    omega
  clear_value t₃
  rw [rd_subSync (hne _ (by decide)) (hne _ (by decide)), State.rd_wr_ne _ _ (hne _ (by decide)),
    State.rd_wr_ne _ _ (hne _ (by decide)), State.rd_wr_ne _ _ (hne _ (by decide))]
  exact (State.rd_wr_ne _ _ (hne _ (by decide))).trans ((State.rd_wr_ne _ _ (hne _ (by decide))).trans
    ((State.rd_wr_ne _ _ (hne _ (by decide))).trans h₃))

/-- Settles O1: a shutdown leaves what its resets spare, and a start reads the reset values. -/
theorem supplyEvents : Obligations.SupplyEvents := by
  refine ⟨fun s h => ⟨powerOn s, by simp [exec, execVinPowerOn, h], ?_⟩, fun s h => ⟨_, exec_powerFailWarning h, ?_⟩,
    fun s h => ⟨_, exec_shutdownComplete h, ?_⟩, fun s ha hp => ?_, fun s ha hp => ?_, fun s hp => by simp [exec, execHoldupOk, hp],
    fun s r b ha => ?_⟩
  · exact ⟨fun _ => rfl, rfl, rfl, rfl, rfl, rfl, rfl, rfl, rfl, rfl, rfl, rfl, rfl, rfl⟩
  · obtain ⟨hpf, hhold, hregs, hsup, hvin, hgrf⟩ := vinGone_shows (shutdown (powerFailRecord s))
    obtain ⟨hoff, hdown⟩ := supply_eq (hsup.trans (supply_shutdown _))
    have hkept : (shutdown (powerFailRecord s)).grf = (powerFailRecord s).grf :=
      (shutdown_within (K := shutdownMask) (by decide) (Within.refl _ _)).same .grf (by decide)
    refine ⟨hpf, hhold, (hregs _ (by decide)).trans ?_, (hregs _ (by decide)).trans ?_, (hregs _ (by decide)).trans ?_, hvin,
      hoff, hdown, ?_⟩
    · exact rd_shutdown (f := F.POM_STAT_ARM) (i := 47) (.inr (by decide)) (.inl (by decide)) rfl (by decide) _
    · exact rd_shutdown (f := F.POM_STAT_SLS_ON) (i := 47) (.inr (by decide)) (.inl (by decide)) rfl (by decide) _
    · rw [shutdown_eq, rd_railsTo_inWin _ _ (by decide)]
    · rw [hgrf, hkept, powerFailRecord_pfail]
  · obtain ⟨hmode, hcause, hpres⟩ := reseat_record s
    exact ⟨hmode, hcause, hpres, rfl, rfl, rfl, rfl, fun f => rd_reseat s⟩
  · simp [exec, execVinPathClose, ha, State.rdB, hp]
  · refine ⟨State.wr { s with pom := { s.pom with saved := s.pom.latches } } F.RAIL_STAT_HOLDUP_OK 1, ?_, State.rd_wr_self .., rfl,
      (s.RegsBut_refl _).set (by decide) rfl⟩
    simp [exec, execHoldupOk, ha, hp]
  · refine ⟨s.putBit F.RAIL_STAT_WARN r b, by simp [exec, execRailWarn, ha], ?_, fun k hk hne => ?_,
      (State.OnlyRegs.refl s _).putBit (by decide) _ _⟩
    · rw [State.bit_putBit, if_pos rfl, decide_eq_true (show r.val < F.RAIL_STAT_WARN.w from r.isLt), Bool.true_and]
    · rw [State.bit_putBit, if_neg (Ne.symm hne), decide_eq_true (show k < F.RAIL_STAT_WARN.w from hk), Bool.true_and]

end Sys2Proof.Machine
end

section
/-! The heartbeat, the link to the partner and its loss (R36, R37, R65, R85, Table 18-3). -/

namespace Sys2Proof.Machine

/-- A loop whose rounds leave the state they meet leaves it. -/
theorem forN_id {f : Nat → State → State} {n : Nat} {s : State} (hf : ∀ i < n, f i s = s) : forN f n s = s := by
  induction n with
  | zero => rfl
  | succ m ih =>
    have hm : forN f m s = s := ih fun i hi => hf i (Nat.lt_succ_of_lt hi)
    change f m (forN f m s) = s
    rw [hm, hf m (Nat.lt_succ_self m)]

/-! ## What a heartbeat says -/

/-- What the plots, rings and outputs make of what a heartbeat says. -/
def heardMask : Nat := partsMask (Part.allBut [.partner, .mode])

theorem subSync_heard {b s : State} (h : Within heardMask b s) : Within heardMask b (subSync s) := subSync_within (by decide) h

theorem partnerTake_mode (s : State) (h : Heartbeat) : (partnerTake s h).mode = s.mode :=
  Within.mode_eq (K := partsMask [.girth, .partner, .pc, .rLs, .rBridle, .upd]) (partnerTake_within (by decide) (Within.refl _ s)) (by decide)

/-- The partner as a heartbeat describes it. -/
def heardPartner (s : State) (h : Heartbeat) : PartnerSt :=
  { seen := true, alive := true, mode := h.mode, side := h.side, slot := h.slot, rings := h.rings, trig := h.trig
    reach := h.reach, ls := h.ls, dio := h.dio, plots := h.plots, lsOn := h.lsOn, dioOn := h.dioOn, digest := h.digest
    nsState := h.nsState, nsRound := h.nsRound, nsLocal := h.nsLocal, activating := h.activating, beatAt := s.now
    holdAt := if s.partner.alive && s.partner.mode == mHOLD then s.partner.holdAt else s.now }

theorem partnerTake_partner (s : State) (h : Heartbeat) : (partnerTake s h).partner = heardPartner s h := by
  unfold partnerTake
  extract_lets p g s₁ s₂ s₃
  have h₁ : s₁.partner = heardPartner s h := rfl
  have h₂ : s₂.partner = heardPartner s h := h₁
  clear_value s₂
  have h₃ : s₃.partner = heardPartner s h := by
    unfold s₃
    refine (forN_keeps State.partner (fun _ _ _ => ?_) s₂).trans h₂
    rfl
  clear_value s₃
  refine (forN_keeps State.partner (fun n _ t => ?_) s₃).trans h₃
  split <;> rfl

/-- What follows a heartbeat once it is kept. -/
def heartbeatFollow (s : State) (h : Heartbeat) (was : Bool) : State :=
  let bad := h.side == s.rd F.SEAT_STAT_SIDE || h.slot != s.rd F.SEAT_STAT_SLOT
  let s := if bad && !s.girth.unpaired then unpair s else { s with girth := { s.girth with unpaired := bad } }
  let s := nsSync (spanMatchSync (subSync s))
  if !was && mayClaim s then claimAll s else s

theorem exec_heartbeatRx {s : State} (hl : s.rd F.XL_STAT_LINK = 1) (h : Heartbeat) :
    exec (.heartbeatRx h) s = .next (heartbeatFollow (partnerTake s h) h s.partner.alive) := by
  simp only [exec, execHeartbeatRx, State.rdB, hl]
  rfl

theorem heartbeatFollow_within (s : State) (h : Heartbeat) (was : Bool) : Within heardMask s (heartbeatFollow s h was) := by
  unfold heartbeatFollow
  extract_lets bad g s₁ s₂
  have h₁ : Within heardMask s s₁ := by
    unfold s₁
    split
    · exact unpair_within (by decide) (Within.refl _ s)
    · exact Within.u_girth (by decide) (Within.refl _ s)
  clear_value s₁
  have h₂ : Within heardMask s s₂ := nsSync_within (by decide) (spanMatchSync_within (by decide) (subSync_heard h₁))
  clear_value s₂
  split
  · exact claimAll_within (by decide) h₂
  · exact h₂

/-! ## The partner is gone -/

/-- What the loss of heartbeats moves besides the partner and Girth's note of it. -/
def goneMask : Nat := partsMask [.out, .can, .ns, .rCan, .rPlots, .rGirth, .substate, .upd]

theorem lsAbandon_girth (s : State) (lost : Bool) : (lsAbandon s lost).girth = { s.girth with offered := 0 } := by
  unfold lsAbandon
  extract_lets s₁
  have h₁ : s₁.girth = s.girth := by
    refine forN_keeps State.girth (fun n _ t => ?_) s
    split
    · rfl
    · extract_lets x t₁
      have hw : Within abandonMask t t₁ :=
        Within.wr (LS_STAT_SHARED_blk _) (by decide) (by decide) (by decide) (State_setLs_within (by decide) (Within.refl _ t))
      split
      · exact Within.girth_eq (K := abandonMask) (lsRecord_within (by decide) (lsFault_within (by decide) hw)) (by decide)
      · exact hw.girth_eq (by decide)
  clear_value s₁
  exact congrArg (fun g : GirthSt => { g with offered := 0 }) h₁

/-- What is noted of a partner that is gone. -/
def goneNoted (s : State) (lost : Bool) : State :=
  let s := { s with partner := { s.partner with alive := false, ls := if lost then s.partner.ls else 0, dio := if lost then s.partner.dio else 0 } }
  State.wr { s with girth := { s.girth with xlLost := lost } } F.XL_STAT_PARTNER 0

theorem goneNoted_shows (s : State) (lost : Bool) : (goneNoted s lost).partner.alive = false ∧
    (goneNoted s lost).girth = { s.girth with xlLost := lost } := ⟨rfl, rfl⟩

theorem partnerGone_eq (s : State) (lost : Bool) :
    partnerGone s lost = nsSync (spanMatchSync (subSync (goneNoted (lsAbandon s true) lost))) := by
  simp only [partnerGone, goneNoted]

theorem partnerGone_shows (s : State) (lost : Bool) : (partnerGone s lost).partner.alive = false ∧
    (partnerGone s lost).girth.xlLost = lost ∧ (partnerGone s lost).girth.ownLs = s.girth.ownLs ∧
    (partnerGone s lost).mode = s.mode := by
  have hmode : (partnerGone s lost).mode = s.mode :=
    Within.mode_eq (K := modelessMask) (partnerGone_within (by decide) (Within.refl _ s)) (by decide)
  obtain ⟨halive, hnoted⟩ := goneNoted_shows (lsAbandon s true) lost
  have hw : Within goneMask (goneNoted (lsAbandon s true) lost) (partnerGone s lost) := by
    rw [partnerGone_eq]
    exact nsSync_within (by decide) (spanMatchSync_within (by decide) (subSync_within (by decide) (Within.refl _ _)))
  have hgirth : (partnerGone s lost).girth = { s.girth with xlLost := lost, offered := 0 } := by
    rw [hw.girth_eq (by decide), hnoted, lsAbandon_girth]
  exact ⟨(congrArg PartnerSt.alive (hw.same .partner (by decide))).trans halive, by rw [hgirth], by rw [hgirth], hmode⟩

/-! ## The link -/

theorem xlLoss_down {s : State} (h : s.rd F.XL_STAT_LINK = 0) : xlLoss s = s := by
  simp [xlLoss, State.rdB, h]

/-- What the ends of requests over XL change besides Bridle's own registers. -/
def postFailMask : Nat :=
  partsMask [.mem, .resp, .out, .irqHeld, .q, .can, .br, .ses, .rFurrow, .rCan, .rGateway, .upd, .furBits]

theorem rd_link_txEnd (s : State) (x : BrTx) (status data : Nat) : (txEnd s x status data).rd F.XL_STAT_LINK = s.rd F.XL_STAT_LINK := by
  unfold txEnd
  extract_lets br s₁ s₂ s₃
  have h₂ : s₂.rd F.XL_STAT_LINK = s.rd F.XL_STAT_LINK := State.rd_wrB_ne _ _ (by decide)
  clear_value s₂
  have hlast : Within (partsMask [.rGateway, .upd]) s₂ (brLast s₂ x.issuer status x.mark x.addr) :=
    brLast_within (by decide) (Within.refl _ _)
  have h₃ : s₃.rd F.XL_STAT_LINK = s.rd F.XL_STAT_LINK := by
    unfold s₃
    split
    · exact h₂
    · exact (hlast.rd_eq (f := F.XL_STAT_LINK) (i := 57) rfl (by decide) (by decide)).trans h₂
  exact h₃

theorem foldl_keeps {α β : Type} (g : State → β) {f : State → α → State} (hf : ∀ t a, g (f t a) = g t) (s : State) (l : List α) :
    g (l.foldl f s) = g s := by
  induction l generalizing s with
  | nil => rfl
  | cons a l ih => exact (ih _).trans (hf s a)

theorem rd_link_xlDrop (s : State) : (xlDrop s).rd F.XL_STAT_LINK = s.rd F.XL_STAT_LINK := by
  have hpost : Within postFailMask (txEndAll s (fun _ => true) 0x0111) (xlDrop s) := postFailAll_within (by decide) (Within.refl _ _)
  refine (hpost.rd_eq (f := F.XL_STAT_LINK) (i := 57) rfl (by decide) (by decide)).trans ?_
  exact foldl_keeps (fun t => t.rd F.XL_STAT_LINK) (fun t x => rd_link_txEnd t x 0x0111 0) s _

/-- What the migrations that XL's loss fails may change. -/
def migrateMask : Nat := partsMask (Part.allBut [.rBridle])

theorem rd_link_xlLoss (s : State) : (xlLoss s).rd F.XL_STAT_LINK = 0 := by
  unfold xlLoss
  split
  · next h => simpa [State.rdB] using h
  · have hdrop : (xlDrop (s.wr F.XL_STAT_LINK 0)).rd F.XL_STAT_LINK = 0 := (rd_link_xlDrop _).trans (State.rd_wr_self ..)
    refine (rd_subSync (by decide) (by decide) _).trans ((forN_keeps (fun t => t.rd F.XL_STAT_LINK) (fun p _ t => ?_) _).trans hdrop)
    extract_lets k
    split
    · exact Within.rd_eq (K := migrateMask) (f := F.XL_STAT_LINK) (i := 57) (migrateFail_within (by decide) (Within.refl _ t)) rfl
        (by decide) (by decide)
    · rfl

/-- With nothing outstanding over it and no plot freezing, XL going down shows LINK, EXTRACT_OK and the substate alone. -/
theorem xlLoss_idle {s : State} (hl : s.rd F.XL_STAT_LINK = 1) (hb : s.br = {}) (hf : ∀ p, (s.plot p).freeze = 0) :
    xlLoss s = subSync (s.wr F.XL_STAT_LINK 0) := by
  have hdrop : xlDrop (s.wr F.XL_STAT_LINK 0) = s.wr F.XL_STAT_LINK 0 := by
    simp [xlDrop, txEndAll, postFailAll, hb]
  have hplot : ∀ p, ((s.wr F.XL_STAT_LINK 0).plot p).freeze = 0 := hf
  simp only [xlLoss, State.rdB, hl, hdrop]
  rw [forN_id fun p _ => by simp [hplot p]]
  rfl

/-- A retraining is counted. -/
def retrained (s : State) : State := if s.girth.xlTrained then s.incSat F.XL_CNT_RETRAIN else s

/-- XL has trained. -/
def xlUp (s : State) : State :=
  State.wr (serdesBack { s with girth := { s.girth with xlTrained := true, xlSeat := true } }) F.XL_STAT_LINK 1

theorem exec_xlLinkTrained {s : State} (hc : s.girth.coreReset = false) (he : s.rd F.XL_CTL_EN = 1) (hs : s.mode ≠ mSEATING)
    (hq : s.mode ≠ mQUARANTINE) (hd : s.mode ≠ mDORMANCY) (hl : s.rd F.XL_STAT_LINK = 0) :
    exec .xlLinkTrained s = .next (subSync (xlUp (retrained s))) := by
  have hs' : (s.mode != mSEATING) = true := bne_iff_ne.mpr hs
  have hq' : (s.mode != mQUARANTINE) = true := bne_iff_ne.mpr hq
  have hd' : (s.mode != mDORMANCY) = true := bne_iff_ne.mpr hd
  simp only [exec, execXlLinkTrained, hc, State.rdB, he, hs', hq', hd', xlLoss_down hl]
  rfl

theorem serdesBack_girth (s : State) : (serdesBack s).girth.xlTrained = s.girth.xlTrained := by
  have hsync : ∀ t : State, (xingSync t).girth = t.girth := fun t => by
    unfold xingSync
    split <;> rfl
  unfold serdesBack
  split
  · extract_lets g s₁
    have h₁ : (s₁.wr F.CLK_STAT_SERDES_LOCK 1).girth.xlTrained = s.girth.xlTrained := rfl
    generalize s₁.wr F.CLK_STAT_SERDES_LOCK 1 = t at h₁
    exact (congrArg GirthSt.xlTrained (hsync t)).trans h₁
  · rfl

theorem retrained_rd (s : State) : (retrained s).rd F.XL_CNT_RETRAIN =
    if s.girth.xlTrained then min (s.rd F.XL_CNT_RETRAIN + 1) (2 ^ F.XL_CNT_RETRAIN.w - 1) else s.rd F.XL_CNT_RETRAIN := by
  unfold retrained
  split
  · rw [State.rd_incSat, if_pos rfl]
    split <;> omega
  · rfl

theorem xlUp_shows (s : State) : (xlUp s).rd F.XL_STAT_LINK = 1 ∧ (xlUp s).girth.xlTrained = true ∧
    (xlUp s).rd F.XL_CNT_RETRAIN = s.rd F.XL_CNT_RETRAIN := by
  refine ⟨State.rd_wr_self .., serdesBack_girth _, (State.rd_wr_ne _ _ (by decide)).trans ?_⟩
  exact Within.rd_eq (K := partsMask [.girth, .rGirth, .substate, .upd]) (f := F.XL_CNT_RETRAIN) (i := 57)
    (serdesBack_within (by decide) (Within.refl _ _)) rfl (by decide) (by decide)

/-- Settles O14: what is heard is kept, and what is lost is noted, apart from what follows. -/
theorem heartbeatAndPartner : Obligations.HeartbeatAndPartner := by
  refine ⟨fun s h => ?_, fun s h => by simp [exec, execHeartbeatTx, h], fun s h hl => by simp [exec, execHeartbeatRx, State.rdB, hl],
    fun s h hl => ⟨_, exec_heartbeatRx hl h, ?_⟩, fun s n ha ht hn hlt => ?_, fun s ha ht hn => ?_, fun s h => ?_, fun s ha hm ht => ?_,
    fun s h => ?_, fun s hc he hs hq hd hl => ⟨_, exec_xlLinkTrained hc he hs hq hd hl, ?_⟩,
    fun s hl => congrArg Host.Outcome.next (xlLoss_down hl), fun s hl => ⟨xlLoss s, rfl, rd_link_xlLoss s⟩, fun s hl hb hf => ?_⟩
  · have hw : Within (partsMask [.out, .can, .ns, .rCan, .upd]) s (nsSync s) := nsSync_within (by decide) (Within.refl _ s)
    exact ⟨(nsSync s).emit (.xl (.heartbeat (heartbeatOf (nsSync s)))), by simp [exec, execHeartbeatTx, h], rfl,
      hw.mode_eq (by decide), hw.same .mem (by decide)⟩
  · have hw := heartbeatFollow_within (partnerTake s h) h s.partner.alive
    dsimp only
    rw [hw.same .partner (by decide), partnerTake_partner, hw.mode_eq (by decide), partnerTake_mode]
    exact ⟨rfl, rfl, rfl, rfl, rfl, rfl, rfl⟩
  · obtain ⟨halive, hlost, hown, hmode⟩ := partnerGone_shows s true
    refine ⟨partnerGone s true, ?_, halive, hlost, hown, hmode⟩
    have hnow : ¬ s.now < s.partner.beatAt + 160000 := by omega
    simp [exec, execHeartbeatTimeout, ha, hnow, hn, hlt]
  · have hnow : ¬ s.now < s.partner.beatAt + 160000 := by omega
    simp [exec, execHeartbeatTimeout, ha, hnow, hn]
  · rcases h with ⟨ha, hx⟩ | h
    · simp [exec, execHeartbeatTimeout, ha, hx]
    · simp [exec, execHeartbeatTimeout, h]
  · obtain ⟨halive, hlost, -, -⟩ := partnerGone_shows (takeover s) false
    exact ⟨_, by simp [exec, execPartnerHoldTimeout, ha, hm, ht], rfl, halive, hlost⟩
  · rcases h with h | h
    · simp [exec, execPartnerHoldTimeout, h]
    · have ht : ¬ s.partner.holdAt + 160000 ≤ s.now := by omega
      simp [exec, execPartnerHoldTimeout, ht]
  · obtain ⟨hlink, htrained, hcnt⟩ := xlUp_shows (retrained s)
    exact ⟨(rd_subSync (by decide) (by decide) _).trans hlink, htrained,
      (rd_subSync (by decide) (by decide) _).trans (hcnt.trans (retrained_rd s))⟩
  · refine ⟨subSync (s.wr F.XL_STAT_LINK 0), congrArg Host.Outcome.next (xlLoss_idle hl hb hf), ?_,
      ((State.OnlyRegs.refl s _).wr (by decide) 0).subSync (by decide) (by decide)⟩
    exact (rd_subSync (by decide) (by decide) _).trans (State.rd_wr_self ..)

end Sys2Proof.Machine
end

section
/-! Accesses by address (R4-R6, R42, R43, R103) and the access codes of a field (Table 0-3, R111). -/

namespace Sys2Proof.Machine

/-! ## Where an access goes -/

theorem onXl_of_isWindow {a : Nat} (h : isWindow a = true) : onXl a = false := by
  simp only [isWindow, Bool.and_eq_true, decide_eq_true_eq] at h
  simp only [onXl, Bool.and_eq_false_iff, decide_eq_false_iff_not]
  omega

/-- Is an access posted (R414)? -/
def AccOp.posted (op : AccOp) (a : Nat) : Bool := op.isWrite && !classN a

/-- An access that does not leave over XL ends where it is. -/
theorem bridle_local {a : Nat} (h : onXl a = false) (s : State) (r : Req) (op : AccOp) (n prio : Nat) (unc : Bool) (e : Envt) :
    bridle s r op a n prio unc e = accessEnd (localAccess s r op a n unc false e) r.issuer (op.posted a) a := by
  cases op <;> simp [bridle, h, AccOp.posted, AccOp.isWrite]

theorem localAccess_misaligned {a n : Nat} (hw : isWindow a = true) (h : n ≠ 4 ∨ a % 4 ≠ 0) (s : State) (r : Req) (op : AccOp)
    (unc inbound : Bool) (e : Envt) : localAccess s r op a n unc inbound e = s.status 0x0103 := by
  simp only [localAccess, hw, if_true, if_pos h]

theorem localAccess_dead {s : State} {a : Nat} (hw : isWindow a = true) (h4 : a % 4 = 0) (hd : windowDead s a = true) (r : Req)
    (op : AccOp) (unc inbound : Bool) (e : Envt) : localAccess s r op a 4 unc inbound e = s.status 0x0610 := by
  simp [localAccess, hw, h4, hd]

theorem localAccess_write {s : State} {a : Nat} (hw : isWindow a = true) (h4 : a % 4 = 0) (hd : windowDead s a = false) (r : Req)
    (v : BitVec 64) (unc inbound : Bool) (e : Envt) :
    localAccess s r (.write v) a 4 unc inbound e = regWrite s r a (v.toNat % 2 ^ 32) e := by
  simp [localAccess, hw, h4, hd]

theorem localAccess_read {s : State} {a : Nat} (hw : isWindow a = true) (h4 : a % 4 = 0) (hd : windowDead s a = false) (r : Req)
    (unc inbound : Bool) (e : Envt) : localAccess s r .read a 4 unc inbound e = regRead s r a := by
  simp [localAccess, hw, h4, hd]

theorem localAccess_reserved {a n : Nat} (h : reservedRange a n = true) (s : State) (r : Req) (op : AccOp) (unc inbound : Bool)
    (e : Envt) : localAccess s r op a n unc inbound e = s.status 0x0110 := by
  simp only [reservedRange, Bool.not_eq_true', Bool.or_eq_false_iff] at h
  obtain ⟨⟨⟨⟨⟨⟨⟨hw, -⟩, hp⟩, hf⟩, hs⟩, hd⟩, hx⟩, hr⟩ := h
  simp [localAccess, hw, hp, hf, hs, hd, hx, hr]

theorem localAccess_xip {a : Nat} (h : inRange a 4 0x40000000 0x44000000 = true) (s : State) (r : Req) (v : BitVec 64)
    (unc inbound : Bool) (e : Envt) : localAccess s r (.write v) a 4 unc inbound e = s.status 0x020A := by
  have hw : isWindow a = false := by simp [inRange, isWindow] at h ⊢; omega
  have hp : inRange a 4 0x10000000 0x10200000 = false := by simp [inRange] at h ⊢; omega
  have hf : inRange a 4 0x10200000 0x10400000 = false := by simp [inRange] at h ⊢; omega
  have hs : inRange a 4 0x10400000 0x11000000 = false := by simp [inRange] at h ⊢; omega
  have hd : inRange a 4 0x800000000 0x820000000 = false := by simp [inRange] at h ⊢; omega
  simp [localAccess, hw, hp, hf, hs, hd, h]

/-! ## How an access ends -/

theorem State.status_ne (s : State) {c x : Nat} (h : c ≠ x) : (s.status c).resp.status ≠ x := h

theorem brLast_regs (s : State) (r : Req) (c tag a : Nat) : s.RegsBut (brLast s r.issuer c tag a) r.last :=
  ((((s.RegsBut_refl _).set (g := F.BR_LAST_STATUS r.issuer) (by simp [Req.last]) rfl).set (g := F.BR_LAST_TAG r.issuer)
    (by simp [Req.last]) rfl).set (g := F.BR_LAST_ADDR_LO_ADDR_LO r.issuer) (by simp [Req.last]) rfl).set
    (g := F.BR_LAST_ADDR_HI_ADDR_HI r.issuer) (by simp [Req.last]) rfl

theorem brLast_rest (s : State) (i c tag a : Nat) : (brLast s i c tag a).resp = s.resp ∧ (brLast s i c tag a).mem = s.mem :=
  ⟨rfl, rfl⟩

/-- A refusal that is no fault of the memory leaves its answer, memory, and the registers but BR_LAST, posted or not. -/
theorem accessEnd_refused {t : State} (h : t.resp.status ≠ 0x0110) (h' : t.resp.status ≠ 0x0610) (h'' : t.resp.status ≠ 0x0611)
    (r : Req) (posted : Bool) (a : Nat) : (accessEnd t r.issuer posted a).resp = t.resp ∧
      (accessEnd t r.issuer posted a).mem = t.mem ∧ t.RegsBut (accessEnd t r.issuer posted a) r.last := by
  cases posted with
  | true => rw [accessEnd_posted h h' h'']; exact ⟨rfl, rfl, t.RegsBut_refl _⟩
  | false =>
    simp only [accessEnd, Bool.not_false, if_true]
    split
    · exact ⟨rfl, rfl, t.RegsBut_refl _⟩
    · exact ⟨rfl, rfl, brLast_regs t r _ _ _⟩

/-- What the answer to a read or to a write is in a domain in reset. -/
theorem accessEnd_dead (s : State) (i : Nat) (posted : Bool) (a : Nat) :
    (accessEnd (s.status 0x0610) i posted a).resp = ⟨if posted then 0 else 0x0610, 0⟩ := by
  cases posted with
  | true =>
    simp only [accessEnd, State.status_resp]
    rfl
  | false => rfl

theorem accessEnd_reserved (s : State) (i : Nat) (posted : Bool) (a : Nat) :
    (accessEnd (s.status 0x0110) i posted a).resp = ⟨0x0110, 0⟩ := by
  cases posted with
  | true =>
    simp only [accessEnd, State.status_resp]
    rfl
  | false => rfl

/-! ## The access codes of a field -/

section
variable (s : State) (f : Field) (v : Nat)

theorem State.rd_put_self : (s.put f v).rd f = v % 2 ^ f.w := SMap.get_set_self ..

theorem State.bit_put_self (k : Nat) : (s.put f v).bit f k = (decide (k < f.w) && v.testBit k) := by
  rw [State.bit, State.rd_put_self, Nat.testBit_mod_two_pow]

theorem Field.slice_testBit (k : Nat) : (f.slice v).testBit k = (decide (k < f.w) && v.testBit (f.lo + k)) := by
  rw [Field.slice, Nat.testBit_mod_two_pow, Nat.testBit_div_two_pow, Nat.add_comm]

theorem Field.slice_lt : f.slice v < 2 ^ f.w := Nat.mod_lt _ (Nat.two_pow_pos _)

theorem State.fieldWrite_w1c (h : f.acc = .w1c) {k : Nat} (hk : k < f.w) :
    (s.fieldWrite f v).bit f k = (s.bit f k && (!v.testBit (f.lo + k) || (s.justSet f).testBit k)) := by
  have hslice : (2 ^ f.w - 1 - f.slice v).testBit k = !v.testBit (f.lo + k) := by
    rw [Nat.sub_sub, Nat.add_comm 1, Nat.testBit_two_pow_sub_succ (f.slice_lt v), Field.slice_testBit]
    simp [hk]
  simp only [State.fieldWrite, h]
  rw [State.bit_put_self, Nat.testBit_or, Nat.testBit_and, Nat.testBit_and, hslice, State.bit]
  simp only [decide_eq_true hk, Bool.true_and, Bool.and_or_distrib_left]

theorem State.fieldWrite_w1s (h : f.acc = .w1s) {k : Nat} (hk : k < f.w) :
    (s.fieldWrite f v).bit f k = (s.bit f k || v.testBit (f.lo + k)) := by
  simp only [State.fieldWrite, h]
  rw [State.bit_put_self, Nat.testBit_or, Field.slice_testBit, State.bit]
  simp [hk]

theorem State.fieldWrite_rw (h : f.acc = .rw) : s.fieldWrite f v = if s.hwHas f then s else s.put f (f.slice v) := by
  simp only [State.fieldWrite, h, State.hostWr]

/-- A host write of a field changes no other. -/
theorem State.fieldWrite_regs : s.RegsBut (s.fieldWrite f v) [f] := by
  have hput : ∀ x, s.RegsBut (s.put f x) [f] := fun x => (s.RegsBut_refl _).set (g := f) List.mem_cons_self rfl
  unfold State.fieldWrite
  split
  · exact s.RegsBut_refl _
  · exact s.RegsBut_refl _
  · unfold State.hostWr
    split
    · exact s.RegsBut_refl _
    · exact hput _
  · exact s.RegsBut_refl _
  · exact hput _
  · exact hput _

end

theorem State.clearRc_one (s : State) {f : Field} (h : f.acc = .rc) : s.clearRc [f] = s.rcClear f := by
  simp [State.clearRc, h]

/-- Settles O12: where an access goes, how it ends, and what each access code keeps of a written word. -/
theorem accessChecks : Obligations.AccessChecks := by
  refine ⟨fun s r op a size hw h => ?_, fun s r op a size h => ?_, fun s r a v => ?_, fun s r op a hw h4 hd => ?_,
    fun s r a v e hw h4 hd => ?_, fun s r a hw h4 hd => ?_, fun s f v h => ?_, fun s f v h hu => ?_, fun s f v h hu => ?_,
    fun s f v k h hk => s.fieldWrite_w1c f v h hk, fun s f v k h hk => s.fieldWrite_w1s f v h hk, fun s f v => s.fieldWrite_regs f v,
    fun s f h hu => ?_, fun s f e h hu => ?_⟩
  · have hcond : (size.bytes != 4 || a.toNat % 4 != 0) = true := by simpa using h
    obtain ⟨hresp, hmem, hregs⟩ := accessEnd_refused (t := s.status 0x0103) (s.status_ne (by decide)) (s.status_ne (by decide))
      (s.status_ne (by decide)) r (op.posted a.toNat) a.toNat
    refine ⟨accessEnd (s.status 0x0103) r.issuer (op.posted a.toNat) a.toNat, ?_, hresp, hmem, hregs⟩
    simp only [exec, execMisalignedAccess, hw, hcond, Bool.and_self, if_true, bridle_local (onXl_of_isWindow hw),
      localAccess_misaligned hw h]
  · have hx : onXl a.toNat = false := by
      simp only [reservedRange, Bool.not_eq_true', Bool.or_eq_false_iff] at h
      obtain ⟨⟨⟨⟨⟨⟨⟨-, hx⟩, -⟩, -⟩, -⟩, -⟩, -⟩, -⟩ := h
      exact hx
    refine ⟨_, ?_, accessEnd_reserved s r.issuer (op.posted a.toNat) a.toNat⟩
    simp only [exec, execReservedRangeAccess, h, if_true, bridle_local hx, localAccess_reserved h]
  · have ha := a.isLt
    have hin : inRange (0x40000000 + a.toNat / 4 * 4) 4 0x40000000 0x44000000 = true := by
      simp only [inRange, Bool.and_eq_true, decide_eq_true_eq]; omega
    have hx : onXl (0x40000000 + a.toNat / 4 * 4) = false := by
      simp only [onXl, Bool.and_eq_false_iff, decide_eq_false_iff_not]; omega
    have hclass : classN (0x40000000 + a.toNat / 4 * 4) = false := by
      simp only [classN, Bool.or_eq_false_iff, Bool.and_eq_false_iff, beq_eq_false_iff_ne, decide_eq_false_iff_not]; omega
    refine ⟨s.status 0x020A, ?_, rfl, rfl, rfl⟩
    simp only [exec, execXipWrite, bridle_local hx, localAccess_xip hin, AccOp.posted, AccOp.isWrite, hclass, Bool.not_false,
      Bool.and_self, accessEnd_posted (s.status_ne (show 0x020A ≠ 0x0110 by decide))
      (s.status_ne (show 0x020A ≠ 0x0610 by decide)) (s.status_ne (show 0x020A ≠ 0x0611 by decide))]
  · refine ⟨accessEnd (s.status 0x0610) r.issuer (op.posted a.toNat) a.toNat, ?_, ?_⟩
    · simp only [exec, execResetDomainAccess, hw, hd, Bool.and_self, if_true, bridle_local (onXl_of_isWindow hw),
        localAccess_dead hw h4 hd]
    · dsimp only
      rw [accessEnd_dead]
      cases op <;> simp [AccOp.posted, AccOp.isWrite]
  · have hv : (v.zeroExtend 64).toNat % 2 ^ 32 = v.toNat := by
      have := v.isLt
      rw [BitVec.toNat_setWidth]; omega
    simp only [exec, execRegisterWrite, bridle_local (onXl_of_isWindow hw), localAccess_write hw h4 hd, hv, AccOp.posted,
      AccOp.isWrite, Bool.true_and]
  · simp only [exec, execRcFieldRead, bridle_local (onXl_of_isWindow hw), localAccess_read hw h4 hd, AccOp.posted,
      AccOp.isWrite, Bool.false_and]
  · rcases h with h | h | h <;> simp only [State.fieldWrite, h]
  · rw [State.fieldWrite_rw _ _ _ h, hu, if_neg Bool.false_ne_true, State.rd_put_self, Nat.mod_eq_of_lt (f.slice_lt v)]
  · rw [State.fieldWrite_rw _ _ _ h, hu, if_pos rfl]
  · rw [State.clearRc_one s h]
    simp only [State.rcClear, hu, State.fieldRead, h]
    exact ⟨(State.rd_put_self ..).trans (Nat.zero_mod _), trivial⟩
  · rw [State.clearRc_one s h]
    simp only [State.rcClear, hu, State.fieldRead, h]
    exact ⟨SMap.get_set_self .., trivial⟩

end Sys2Proof.Machine
end

section
/-! The memories behind Bridle (R38, R414, R416). -/

namespace Sys2Proof.Machine

/-! ## Bytes of a number -/

theorem length_le (n v : Nat) : (le n v).length = n := by
  induction n generalizing v with
  | zero => rfl
  | succ n ih => exact congrArg (· + 1) (ih _)

theorem ofLe_le (n v : Nat) : ofLe (le n v) = v % 2 ^ (8 * n) := by
  induction n generalizing v with
  | zero => simp [le, ofLe, Nat.mod_one]
  | succ n ih =>
    rw [le, ofLe, ih, BitVec.toNat_ofNat, show 8 * (n + 1) = 8 + 8 * n by ring, Nat.pow_add, Nat.mod_mul]

theorem State.bytesAt_putBytes (s : State) (a : Nat) (bs : List Byte) (hw : Memory.wf s.mem = true) :
    (s.putBytes a bs).bytesAt a bs.length = bs := by
  induction bs generalizing s a with
  | nil => rfl
  | cons b r ih =>
    have hput : Memory.wf (s.putByte a b).mem = true := Memory.wf_memSet a b hw
    have hhead : ((s.putByte a b).putBytes (a + 1) r).byteAt a = b := by
      rw [State.byteAt_putBytes_of_outside _ _ _ _ (.inl (Nat.lt_succ_self a)), State.byteAt_putByte_self s a b hw]
    exact congrArg₂ List.cons hhead (ih (s.putByte a b) (a + 1) hput)

theorem State.numAt_putBytes_le (s : State) (a n v : Nat) (hw : Memory.wf s.mem = true) :
    (s.putBytes a (le n v)).numAt a n = v % 2 ^ (8 * n) := by
  have h := s.bytesAt_putBytes a (le n v) hw
  rw [length_le] at h
  rw [State.numAt, h, ofLe_le]

/-! ## The supervisor's accesses to plain memory -/

/-- `n` bytes from `a` lie in the general on-die SRAM or in DRAM. -/
def plainMem (a n : Nat) : Bool := inRange a n 0x10400000 0x11000000 || inRange a n 0x800000000 0x820000000

theorem plainMem_bounds {a n : Nat} (h : plainMem a n = true) (hn : 0 < n) :
    0x10400000 ≤ a ∧ a < 0x11000000 ∨ 0x800000000 ≤ a ∧ a < 0x820000000 := by
  simp only [plainMem, inRange, Bool.or_eq_true, Bool.and_eq_true, decide_eq_true_eq] at h
  omega

theorem AccSize.bytes_pos (size : AccSize) : 0 < size.bytes := by cases size <;> decide

theorem localAccess_mem {a n : Nat} (h : plainMem a n = true) (hn : 0 < n) (s : State) (op : AccOp) (unc : Bool) (e : Envt) :
    localAccess s .supervisor op a n unc false e = memAccess s op a n unc := by
  have hb := plainMem_bounds h hn
  have hw : isWindow a = false := by
    simp only [isWindow, Bool.and_eq_false_iff, decide_eq_false_iff_not]; omega
  have hp : inRange a n 0x10000000 0x10200000 = false := by
    simp only [inRange, Bool.and_eq_false_iff, decide_eq_false_iff_not]; omega
  have hf : inRange a n 0x10200000 0x10400000 = false := by
    simp only [inRange, Bool.and_eq_false_iff, decide_eq_false_iff_not]; omega
  have hin : (inRange a n 0x10400000 0x11000000 || inRange a n 0x800000000 0x820000000) = true := h
  simp only [localAccess, hw, hp, hf, hin, Bool.false_eq_true, if_false, if_true, regionAccess, regionCheck]

theorem classN_of_plainMem {a n : Nat} (h : plainMem a n = true) (hn : 0 < n) : classN a = false := by
  have hb := plainMem_bounds h hn
  simp only [classN, Bool.or_eq_false_iff, Bool.and_eq_false_iff, beq_eq_false_iff_ne, decide_eq_false_iff_not]; omega

theorem bridle_mem {a n : Nat} (h : plainMem a n = true) (hn : 0 < n) (s : State) (op : AccOp) (prio : Nat) (unc : Bool)
    (e : Envt) : bridle s .supervisor op a n prio unc e = accessEnd (memAccess s op a n unc) 8 op.isWrite a := by
  have hb := plainMem_bounds h hn
  have hx : onXl a = false := by
    simp only [onXl, Bool.and_eq_false_iff, decide_eq_false_iff_not]; omega
  rw [bridle_local hx, localAccess_mem h hn, AccOp.posted, classN_of_plainMem h hn, Bool.not_false, Bool.and_true]
  rfl

theorem State.numAt_status (s : State) (c a n : Nat) : (s.status c).numAt a n = s.numAt a n := by
  have hbytes : ∀ a, (s.status c).bytesAt a n = s.bytesAt a n := by
    induction n with
    | zero => exact fun _ => rfl
    | succ n ih => exact fun a => congrArg (s.byteAt a :: ·) (ih (a + 1))
  rw [State.numAt, hbytes, State.numAt]

theorem State.putBytes_regs (s : State) (a : Nat) (bs : List Byte) : (s.putBytes a bs).regs = s.regs := by
  induction bs generalizing s a with
  | nil => rfl
  | cons b r ih => exact ih (s.putByte a b) (a + 1)

/-- Settles O13: plain memory keeps what is written, and an access of class N goes to its register. -/
theorem memoryAccess : Obligations.MemoryAccess := by
  refine ⟨fun s a size v prio e hs h => ?_, fun s a size prio h => ?_, fun s a size prio h => ?_,
    fun s r a v prio e hw hc h4 hd => ?_, fun s r a size v prio e hc => by simp [exec, execBridleNonpostedWrite, hc],
    fun s r a size v prio unc e hc => by simp [exec, execBridlePostedWrite, hc]⟩
  · refine ⟨(s.putBytes a.toNat (le size.bytes v.toNat)).status 0, ?_, rfl, ?_, fun x hx => ?_, s.putBytes_regs ..⟩
    · simp only [exec, execBridlePostedWrite, classN_of_plainMem h size.bytes_pos, bridle_mem h size.bytes_pos, memAccess,
        Bool.false_eq_true, if_false, accessEnd_ok (t := State.status _ 0) rfl]
    · rw [State.numAt_status, State.numAt_putBytes_le s _ _ _ hs.mem]
    · exact State.byteAt_putBytes_of_outside s _ x _ (by rw [length_le]; exact hx)
  · refine ⟨s.answer 0 (s.numAt a.toNat size.bytes), ?_, rfl, rfl, rfl⟩
    simp only [exec, execBridleRead, bridle_mem h size.bytes_pos, memAccess, Bool.false_eq_true, if_false,
      accessEnd_ok (t := State.answer _ 0 _) rfl]
  · refine ⟨accessEnd (s.status 0x0611) 8 false a.toNat, ?_, rfl, rfl⟩
    simp only [exec, execBridleRead, bridle_mem h size.bytes_pos, memAccess, if_true, AccOp.isWrite]
  · simp only [exec, execBridleNonpostedWrite, hc, if_true, bridle_local (onXl_of_isWindow hw), AccSize.bytes,
      localAccess_write hw h4 hd, AccOp.posted, AccOp.isWrite, Bool.not_true, Bool.and_false]

end Sys2Proof.Machine
end

section
/-! The order in which a queue gives its packets (R238). -/

namespace Sys2Proof.Machine

/-- `p` is the packet that a bank gives: the first of those with the lowest PRIO value, the others staying in order. -/
def GivenFirst (l : List QPacket) (p : QPacket) (rest : List QPacket) : Prop :=
  ∃ a b, l = a ++ p :: b ∧ rest = a ++ b ∧ (∀ x ∈ a, p.prio < x.prio) ∧ ∀ x ∈ b, p.prio ≤ x.prio

/-- No packet of a bank has a lower PRIO value than the one it gives. -/
theorem GivenFirst.le {l rest : List QPacket} {p x : QPacket} (h : GivenFirst l p rest) (hx : x ∈ l) : p.prio ≤ x.prio := by
  obtain ⟨a, b, rfl, -, ha, hb⟩ := h
  rcases List.mem_append.mp hx with hx | hx
  · exact (ha x hx).le
  · rcases List.mem_cons.mp hx with rfl | hx
    · exact le_rfl
    · exact hb x hx

theorem takeFirst_eq_none {l : List QPacket} : takeFirst l = none ↔ l = [] := by
  cases l with
  | nil => simp [takeFirst]
  | cons k r =>
    simp only [takeFirst, reduceCtorEq, iff_false]
    split
    · exact nofun
    · split <;> exact nofun

theorem takeFirst_given {l rest : List QPacket} {p : QPacket} (h : takeFirst l = some (p, rest)) : GivenFirst l p rest := by
  induction l generalizing p rest with
  | nil => exact absurd h nofun
  | cons k r ih =>
    simp only [takeFirst] at h
    split at h
    · next hr =>
      obtain ⟨rfl, rfl⟩ := Prod.mk.inj (Option.some.inj h)
      rw [takeFirst_eq_none.mp hr]
      exact ⟨[], [], rfl, rfl, nofun, nofun⟩
    · next m rest' hr =>
      have hm := ih hr
      split at h
      · next hle =>
        obtain ⟨rfl, rfl⟩ := Prod.mk.inj (Option.some.inj h)
        exact ⟨[], r, rfl, rfl, nofun, fun x hx => hle.trans (hm.le hx)⟩
      · next hlt =>
        obtain ⟨rfl, rfl⟩ := Prod.mk.inj (Option.some.inj h)
        obtain ⟨a, b, rfl, rfl, ha, hb⟩ := hm
        exact ⟨k :: a, b, rfl, rfl, List.forall_mem_cons.mpr ⟨by omega, ha⟩, hb⟩

/-- Settles O29, by induction on the bank. -/
theorem furrowOrder : Obligations.FurrowOrder := by
  refine ⟨fun l p rest h => takeFirst_given h, fun l => takeFirst_eq_none, fun x hx => ?_⟩
  cases ht : takeFirst x.drain with
  | none => exact absurd (takeFirst_eq_none.mp ht) hx
  | some e => exact ⟨e.1, e.2, rfl, by simp [QueueSt.next, ht]⟩

end Sys2Proof.Machine
end

section
/-! A host write of a register word, field by field (R4-R6): what each field of the register reads afterwards, and that only the
registers change. -/

namespace Sys2Proof.Machine

/-! ## One field of the word -/

theorem State.fieldWrite_eq (s : State) (f : Field) (v : Nat) :
    s.fieldWrite f v = { s with regs := (s.fieldWrite f v).regs } := by
  unfold State.fieldWrite
  split
  · rfl
  · rfl
  · unfold State.hostWr
    split <;> rfl
  · rfl
  · rfl
  · rfl

theorem State.wordWrite_eq (s : State) (v : Nat) (l : List Field) : s.wordWrite v l = { s with regs := (s.wordWrite v l).regs } := by
  induction l generalizing s with
  | nil => rfl
  | cons f l ih =>
    have h := ih (s.fieldWrite f v)
    rw [s.fieldWrite_eq f v] at h
    rw [State.wordWrite, s.fieldWrite_eq f v]
    exact h

/-- A host write of a word changes the register file alone. -/
theorem State.writeWord_eq (s : State) (a v : Nat) : s.writeWord a v = { s with regs := (s.writeWord a v).regs } :=
  s.wordWrite_eq v (fieldsAt a)

/-- What a host write leaves in a field follows from what the field reads and from the updates of this tick. -/
theorem State.rd_fieldWrite_congr {s t : State} {f : Field} (h : t.rd f = s.rd f) (hu : t.upd = s.upd) (v : Nat) :
    (t.fieldWrite f v).rd f = (s.fieldWrite f v).rd f := by
  have hhas : t.hwHas f = s.hwHas f := by rw [State.hwHas, State.hwHas, hu]
  have hjust : t.justSet f = s.justSet f := by rw [State.justSet, State.justSet, hu]
  unfold State.fieldWrite
  split
  · exact h
  · exact h
  · rw [State.hostWr, State.hostWr, hhas]
    split
    · exact h
    · rw [State.rd_put_self, State.rd_put_self]
  · exact h
  · rw [State.rd_put_self, State.rd_put_self, h, hjust]
  · rw [State.rd_put_self, State.rd_put_self, h]

theorem State.rd_fieldWrite_ne (s : State) {f g : Field} (v : Nat) (h : f.key ≠ g.key) : (s.fieldWrite g v).rd f = s.rd f :=
  s.fieldWrite_regs g v f fun x hx => by rwa [List.mem_singleton.mp hx]

theorem State.upd_fieldWrite (s : State) (f : Field) (v : Nat) : (s.fieldWrite f v).upd = s.upd := by
  rw [s.fieldWrite_eq]

theorem State.rd_wordWrite_mem {l : List Field} (hl : l.Pairwise fun f g => f.key ≠ g.key) {f : Field} (hf : f ∈ l) (s : State)
    (v : Nat) : (s.wordWrite v l).rd f = (s.fieldWrite f v).rd f := by
  induction l generalizing s with
  | nil => exact absurd hf List.not_mem_nil
  | cons g l ih =>
    obtain ⟨hg, hl⟩ := List.pairwise_cons.mp hl
    have hrest : ∀ (l : List Field) (t : State), (∀ x ∈ l, g.key ≠ x.key) → (t.wordWrite v l).rd g = t.rd g := by
      intro l
      induction l with
      | nil => exact fun _ _ => rfl
      | cons x l ih =>
        intro t hx
        exact (ih _ fun y hy => hx y (List.mem_cons_of_mem _ hy)).trans (t.rd_fieldWrite_ne v (hx x List.mem_cons_self))
    rcases List.mem_cons.mp hf with rfl | hmem
    · exact hrest l _ hg
    · rw [State.wordWrite, ih hl hmem]
      exact State.rd_fieldWrite_congr (s.rd_fieldWrite_ne v (hg f hmem).symm) (s.upd_fieldWrite g v) v

/-! ## The register map -/

theorem windowRegs_nodup (a : Nat) : ∀ r ∈ windowRegs a, (r.fields.map Prod.fst).Nodup := by
  unfold windowRegs
  split <;> decide

theorem fieldsAt_pairwise (a : Nat) : (fieldsAt a).Pairwise fun f g => f.key ≠ g.key := by
  unfold fieldsAt
  split
  · split
    · exact List.pairwise_singleton ..
    · exact List.Pairwise.nil
  · split
    · exact List.Pairwise.nil
    · next r hr =>
      have hnd : r.fields.Pairwise fun x y => x.1 ≠ y.1 :=
        List.pairwise_map.mp (windowRegs_nodup a r (List.mem_of_find?_eq_some hr))
      refine List.pairwise_map.mpr (hnd.imp fun hne e => hne ?_)
      simp only [Field.key] at e
      omega

/-- What a field of the written register reads afterwards. -/
theorem State.rd_writeWord_mem (s : State) {a : Nat} {f : Field} (hf : f ∈ fieldsAt a) (v : Nat) :
    (s.writeWord a v).rd f = (s.fieldWrite f v).rd f := State.rd_wordWrite_mem (fieldsAt_pairwise a) hf s v

/-- A host write of a word puts its part into an RW field that hardware has not updated in this tick. -/
theorem State.rd_writeWord_rw (s : State) {a : Nat} {f : Field} (hf : f ∈ fieldsAt a) (hacc : f.acc = .rw)
    (hu : s.hwHas f = false) (v : Nat) : (s.writeWord a v).rd f = f.slice v := by
  rw [s.rd_writeWord_mem hf, State.fieldWrite_rw _ _ _ hacc, hu, if_neg Bool.false_ne_true, State.rd_put_self,
    Nat.mod_eq_of_lt (f.slice_lt v)]

/-- A host write of a word leaves a field that a host does not write. -/
theorem State.rd_writeWord_ro (s : State) {a : Nat} {f : Field} (hf : f ∈ fieldsAt a) (hacc : f.acc = .ro ∨ f.acc = .rc) (v : Nat) :
    (s.writeWord a v).rd f = s.rd f := by
  rw [s.rd_writeWord_mem hf]
  rcases hacc with h | h <;> simp only [State.fieldWrite, h]

/-- A host write of a word changes the fields of its register alone. -/
theorem State.writeWord_regs (s : State) (a v : Nat) : s.RegsBut (s.writeWord a v) (fieldsAt a) := by
  have h : ∀ (l : List Field) (t : State), (∀ g ∈ l, g ∈ fieldsAt a) → t.RegsBut (t.wordWrite v l) (fieldsAt a) := by
    intro l
    induction l with
    | nil => exact fun t _ => t.RegsBut_refl _
    | cons g l ih =>
      intro t hl
      have hg : t.RegsBut (t.fieldWrite g v) (fieldsAt a) :=
        (t.fieldWrite_regs g v).mono (List.cons_subset.mpr ⟨hl g List.mem_cons_self, List.nil_subset _⟩)
      exact hg.trans (ih _ fun x hx => hl x (List.mem_cons_of_mem _ hx))
  exact h (fieldsAt a) s fun _ hg => hg

/-- The windows of class P, by their addresses (Table 18-1). -/
theorem classN_of_window {a : Nat} (h : a < 0x20600000 ∨ 0x20700000 ≤ a ∧ a < 0x20800000 ∨ 0x20900000 ≤ a ∧ a < 0x20D00000 ∨
    0x20E00000 ≤ a ∧ a < 0x21100000) : classN a = false := by
  simp only [classN, Bool.or_eq_false_iff, Bool.and_eq_false_iff, beq_eq_false_iff_ne, decide_eq_false_iff_not]
  omega

theorem State.hwHas_nil {s : State} (h : s.upd = []) (f : Field) : s.hwHas f = false := by
  rw [State.hwHas, h]
  rfl

end Sys2Proof.Machine
end

section
/-! Writes of slot control words and of partitions (R130-R136). -/

namespace Sys2Proof.Machine

/-! ## The register map -/

theorem descAt_slotCtl {n : Nat} (hn : n < 1024) : descAt (F.SLOT_CTL_EN n).addr = some ⟨0x20010000, [(0x40, 1024)],
    [(0, 1, .rw, 0x0), (1, 3, .rw, 0x0), (4, 1, .rw, 0x0), (5, 1, .rw, 0x0), (8, 3, .rw, 0x7), (16, 8, .rw, 0x0)]⟩ := by
  have ha : (F.SLOT_CTL_EN n).addr = 0x20010000 + 0x40 * n := by simp only [F.SLOT_CTL_EN]; omega
  have hwin : windowRegs (0x20010000 + 0x40 * n) = regs5_9 := by
    rw [windowRegs, show (0x20010000 + 0x40 * n) / 0x100000 = 0x200 by omega]
    rfl
  rw [ha, descAt, hwin, regs5_9, regs5_9_0, regs5_9_1, regs5_9_2]
  simp only [List.cons_append, List.nil_append]
  repeat rw [List.find?_cons_of_neg (by simp only [offsetOk, Bool.and_eq_true, decide_eq_true_eq, beq_iff_eq]; omega)]
  exact List.find?_cons_of_pos (by simp only [offsetOk, Bool.and_eq_true, decide_eq_true_eq, beq_iff_eq]; omega)

theorem fieldsAt_slotCtl {n : Nat} (hn : n < 1024) : fieldsAt (F.SLOT_CTL_EN n).addr =
    [F.SLOT_CTL_EN n, F.SLOT_CTL_MODE n, F.SLOT_CTL_CATCHUP n, F.SLOT_CTL_REC n, F.SLOT_CTL_PRIO n, F.SLOT_CTL_ACTION n] := by
  have haway : ¬(0x20700800 ≤ (F.SLOT_CTL_EN n).addr ∧ (F.SLOT_CTL_EN n).addr < 0x20700C00) := by
    simp only [F.SLOT_CTL_EN]; omega
  rw [fieldsAt, if_neg haway, descAt_slotCtl hn]
  rfl

/-! ## The control word -/

theorem classN_slotCtl (n : Nat) : classN (F.SLOT_CTL_EN n).addr = false := by
  refine classN_of_window (.inl ?_)
  simp only [F.SLOT_CTL_EN]
  omega

/-- A control word written while Trellis's window is in service. -/
theorem exec_slotCtlWrite {s t : State} {n : Fin 1024} (hlive : windowDead s (F.SLOT_CTL_EN n).addr = false) {r : Req} {v : Word}
    (ht : slotCtlWrite s r n v.toNat = t) (h : t.resp.status ≠ 0x0110) (h' : t.resp.status ≠ 0x0610) (h'' : t.resp.status ≠ 0x0611) :
    exec (.slotCtlWrite r n v) s = .next t := by
  rw [← ht] at h h' h'' ⊢
  exact congrArg Host.Outcome.next (hostWrite_posted r hlive (classN_slotCtl n) h h' h'')

/-- An answer with code `c` to a control word. -/
theorem exec_slotCtlWrite_answered {s t : State} {n : Fin 1024} (hlive : windowDead s (F.SLOT_CTL_EN n).addr = false) {r : Req}
    {v : Word} {c : Nat} (ht : slotCtlWrite s r n v.toNat = t.status c) (h : c ≠ 0x0110 ∧ c ≠ 0x0610 ∧ c ≠ 0x0611) :
    exec (.slotCtlWrite r n v) s = .next (t.status c) := by
  obtain ⟨h110, h610, h611⟩ := h
  exact exec_slotCtlWrite hlive ht h110 h610 h611

section
variable {s : State} {p : Fin 8} {n : Fin 1024} {v : Nat} (hn : 64 ≤ n.val) (hp : slotPlot s n = some p.val)
include hn hp

theorem slotWriterRefusal_own : slotWriterRefusal s (.plot p) n = none := by
  simp [slotWriterRefusal, Nat.not_lt.mpr hn, hp]

/-- A control word of the plot's own slot that its checks refuse. -/
theorem slotCtlWrite_refused {c : Nat} (h : slotCtlRefusal s p n v = some c) : slotCtlWrite s (.plot p) n v = s.status c := by
  simp only [slotCtlWrite, slotWriterRefusal_own hn hp, hp, Option.getD_some, h]

/-- A control word of the plot's own slot that its checks accept, and that leaves the slot off. -/
theorem slotCtlWrite_off (h : slotCtlRefusal s p n v = none) (hv : v % 2 = 0) :
    slotCtlWrite s (.plot p) n v = (s.writeWord (F.SLOT_CTL_EN n).addr v).status 0 := by
  simp only [slotCtlWrite, slotWriterRefusal_own hn hp, hp, Option.getD_some, h, hv, if_true]

/-- One that leaves an enabled slot on in its mode. -/
theorem slotCtlWrite_same (h : slotCtlRefusal s p n v = none) (he : s.rd (F.SLOT_CTL_EN n) = 1)
    (hm : s.rd (F.SLOT_CTL_MODE n) = (F.SLOT_CTL_MODE n).slice v) :
    slotCtlWrite s (.plot p) n v = (s.writeWord (F.SLOT_CTL_EN n).addr v).status 0 := by
  simp only [slotCtlWrite, slotWriterRefusal_own hn hp, hp, Option.getD_some, h, State.rdB, he, hm]
  split
  · rfl
  · split
    · rfl
    · rw [if_pos (by simp)]

/-- What enabling a slot sets up before a passed firing point is looked at (R135). -/
def slotStarted (s : State) (n : Nat) : State :=
  let t := { s.trl with nextPt := s.trl.nextPt.dropRange n (n + 1), catchup := s.trl.catchup.dropRange n (n + 1)
                        lastCyc := s.trl.lastCyc.dropRange n (n + 1) }
  State.wr { s with trl := t } (F.SLOT_STAT_DONE n) 0

/-- One that enables a slot that was off and has not fired in this tick. -/
theorem slotCtlWrite_enabled (h : slotCtlRefusal s p n v = none) (hv : v % 2 = 1) (he : s.rd (F.SLOT_CTL_EN n) = 0)
    (hen : (s.writeWord (F.SLOT_CTL_EN n).addr v).rd (F.SLOT_CTL_EN n) = 1) (hd : s.trl.doneAt.find? n ≠ some s.now) :
    slotCtlWrite s (.plot p) n v = (slotCatch n (slotStarted (s.writeWord (F.SLOT_CTL_EN n).addr v) n)).status 0 := by
  have hw := s.writeWord_eq (F.SLOT_CTL_EN n).addr v
  have hdone : (s.writeWord (F.SLOT_CTL_EN n).addr v).trl.doneAt.find? n ≠ some (s.writeWord (F.SLOT_CTL_EN n).addr v).now := by
    rw [hw]; exact hd
  simp only [slotCtlWrite, slotWriterRefusal_own hn hp, hp, Option.getD_some, h, State.rdB, he, hen]
  rw [if_neg (by omega), if_neg (by simp [hdone]), if_neg (by simp)]
  rfl

end

/-- A slot in mode EVERY has no firing point to pass. -/
theorem slotCatch_every {s : State} {n : Nat} (h : s.rd (F.SLOT_CTL_MODE n) = 0) : slotCatch n s = s := by
  have hp : slotPassed s n = false := by simp only [slotPassed, h]
  simp [slotCatch, hp]

theorem slotStarted_rd (s : State) (n : Nat) : (slotStarted s n).rd (F.SLOT_STAT_DONE n) = 0 ∧
    (slotStarted s n).rd (F.SLOT_CTL_EN n) = s.rd (F.SLOT_CTL_EN n) ∧
    (slotStarted s n).rd (F.SLOT_CTL_MODE n) = s.rd (F.SLOT_CTL_MODE n) := by
  refine ⟨State.rd_wr_self .., (State.rd_wr_ne _ _ ?_).trans rfl, (State.rd_wr_ne _ _ ?_).trans rfl⟩ <;>
  · simp only [Field.key, F.SLOT_CTL_EN, F.SLOT_CTL_MODE, F.SLOT_STAT_DONE]; omega

/-! ## Partitions -/

theorem classN_trlPart (p : Nat) : classN (F.TRL_PART_BASE p).addr = false := by
  refine classN_of_window (.inl ?_)
  simp only [F.TRL_PART_BASE]
  omega

theorem exec_trlPartWrite_answered {s t : State} {p : Fin 8} (hlive : windowDead s (F.TRL_PART_BASE p).addr = false) {r : Req}
    {v : Word} {c : Nat} (ht : trlPartWrite s r p v.toNat = t.status c) (h : c ≠ 0x0110 ∧ c ≠ 0x0610 ∧ c ≠ 0x0611) :
    exec (.trlPartWrite r p v) s = .next (t.status c) := by
  obtain ⟨h110, h610, h611⟩ := h
  rw [← ht]
  exact congrArg Host.Outcome.next (hostWrite_posted r hlive (classN_trlPart p) (by rw [ht]; exact h110) (by rw [ht]; exact h610)
    (by rw [ht]; exact h611))

/-- Settles O17: each check refuses with its code, and an accepted word is written. -/
theorem slotWrites : Obligations.SlotWrites := by
  refine ⟨fun s r n v hl hn => ?_, fun s p n v hl hn hp => ?_, fun s p n v hl hn hp h => ?_,
    fun s p n v l hl hn hp hm ha hlt hv ho => ?_, fun s p n v hl hn hp hv h => ?_, fun s p n v hl hn hp hv h he hm => ?_,
    fun s p n v hl hn hp hv hm h he hu hd => ?_, fun s r p v hl hr => ?_, fun s p v hl h => ?_, fun s p v hl hb hc hsum h => ?_⟩
  · refine exec_slotCtlWrite_answered hl ?_ (by decide)
    simp [slotCtlWrite, slotWriterRefusal, hn]
  · refine exec_slotCtlWrite_answered hl ?_ (by decide)
    simp [slotCtlWrite, slotWriterRefusal, Nat.not_lt.mpr hn, hp]
  · refine exec_slotCtlWrite_answered hl (slotCtlWrite_refused hn hp ?_) (by decide)
    exact if_pos (h.imp_right .inl)
  · refine exec_slotCtlWrite_answered hl (slotCtlWrite_refused hn hp ?_) (by decide)
    have hok : ¬(5 ≤ (F.SLOT_CTL_MODE n).slice v.toNat ∨ (actionLat ((F.SLOT_CTL_ACTION n).slice v.toNat)).isNone = true ∨
        0x20 ≤ (F.SLOT_CTL_ACTION n).slice v.toNat) := by
      rw [ha]
      simp only [Option.isNone_some, Bool.false_eq_true, false_or]
      omega
    simp only [slotCtlRefusal]
    rw [if_neg hok, if_neg (by omega), if_pos (by rw [ho]; rfl)]
  · exact exec_slotCtlWrite_answered hl (slotCtlWrite_off hn hp h hv) (by decide)
  · exact exec_slotCtlWrite_answered hl (slotCtlWrite_same hn hp h he hm) (by decide)
  · have hfields := fieldsAt_slotCtl n.isLt
    have hen : (s.writeWord (F.SLOT_CTL_EN n).addr v.toNat).rd (F.SLOT_CTL_EN n) = 1 := by
      rw [State.rd_writeWord_rw s (by rw [hfields]; simp) rfl (s.hwHas_nil hu _)]
      simpa [Field.slice, F.SLOT_CTL_EN] using hv
    have hmode : (s.writeWord (F.SLOT_CTL_EN n).addr v.toNat).rd (F.SLOT_CTL_MODE n) = 0 := by
      rw [State.rd_writeWord_rw s (by rw [hfields]; simp) rfl (s.hwHas_nil hu _), hm]
    obtain ⟨hdone, hen', hmode'⟩ := slotStarted_rd (s.writeWord (F.SLOT_CTL_EN n).addr v.toNat) n
    have hw := slotCtlWrite_enabled hn hp h hv he hen hd
    rw [slotCatch_every (hmode'.trans hmode)] at hw
    exact ⟨_, exec_slotCtlWrite_answered hl hw (by decide), hen'.trans hen, hmode'.trans hmode, hdone, rfl⟩
  · exact exec_trlPartWrite_answered hl (by simp [trlPartWrite, hr]) (by decide)
  · refine exec_trlPartWrite_answered hl ?_ (by decide)
    simp only [trlPartWrite]
    rw [if_neg (by simp), if_pos h]
  · refine exec_trlPartWrite_answered hl ?_ (by decide)
    have halign : ¬((F.TRL_PART_BASE p).slice v.toNat % 8 ≠ 0 ∨ (F.TRL_PART_COUNT p).slice v.toNat % 8 ≠ 0 ∨
        1024 < (F.TRL_PART_BASE p).slice v.toNat + (F.TRL_PART_COUNT p).slice v.toNat) := by omega
    simp only [trlPartWrite]
    rw [if_neg (by simp), if_neg halign]
    rcases h with h | ⟨h64, hclear, hq⟩
    · rw [if_neg (by simp [h]), if_neg (by simp [h])]
    · have hclash : ((List.range 8).any fun k => k != p.val && overlap ((F.TRL_PART_BASE p).slice v.toNat)
          ((F.TRL_PART_COUNT p).slice v.toNat) (s.rd (F.TRL_PART_BASE k)) (s.rd (F.TRL_PART_COUNT k))) = false := by
        rw [List.any_eq_false]
        intro k hk
        by_cases hkp : k = p.val
        · simp [hkp]
        · simp [hclear k (List.mem_range.mp hk) hkp]
      rw [if_neg (by rw [hclash]; simp; omega), if_neg (by simp [hq])]

end Sys2Proof.Machine
end

section
/-! The firing of a slot (R134, R135, R137). -/

namespace Sys2Proof.Machine

/-! ## An action that is alone on its way -/

/-- An action on the bus in this tick. -/
def busNow (s : State) (x : Issued) : Issued :=
  { x with bus := s.now, due := s.now + (actionLat x.action).getD 0, flags := x.flags ||| (s.now != x.fired).toNat }

section
variable {s : State} {x : Issued} (hi : s.trl.issued = []) (ha : s.trl.actTick ≠ s.now)
include hi ha

theorem busPlan_alone : busPlan s x = [busNow s x] := by
  cases hx : x.plot == 8 <;> simp [busPlan, hi, ha, hx, busInsert, busNow]

/-- With no other action under way, one that is put on its way changes what is under way and the turn of R112 alone. -/
theorem issue_alone (hf : x.fired = s.now) :
    ∃ a, issue s x = { s with trl := { s.trl with issued := [busNow s x] }, arb := a } := by
  have hlate : busLate { s with trl := { s.trl with issued := [busNow s x] } } [] = { s with trl := { s.trl with issued := [busNow s x] } } := by
    simp [busLate, busNow, hf]
  have hself : superseded (busNow s x) (busNow s x) = false := by simp [superseded]
  have hlose : ∀ a : SMap (Nat × Nat), loses { s with trl := { s.trl with issued := [busNow s x] }, arb := a } (busNow s x) = false := by
    intro a
    simp [loses, hself]
  simp only [issue, busPlan_alone hi ha, hi, hlate]
  simp only [List.filter_cons, hlose, List.filter_nil, Bool.not_false, Bool.false_eq_true, if_false, if_true, List.foldl_nil]
  exact ⟨_, rfl⟩

end

/-! ## What firing does to its slot -/

theorem slotFired_trl (s : State) (n : Nat) (late : Bool) : (slotFired s n late).trl.issued = s.trl.issued ∧
    (slotFired s n late).trl.actTick = s.trl.actTick ∧ (slotFired s n late).now = s.now := by
  unfold slotFired
  extract_lets mode t s₁ trl s₂
  split
  · exact ⟨rfl, rfl, rfl⟩
  · split
    · split <;> exact ⟨rfl, rfl, rfl⟩
    · exact ⟨rfl, rfl, rfl⟩

theorem slot_keys (n : Nat) : (F.SLOT_STAT_FIRE_CNT n).key ≠ (F.SLOT_CTL_EN n).key ∧ (F.SLOT_STAT_FIRE_CNT n).key ≠ (F.SLOT_STAT_DONE n).key ∧
    (F.SLOT_CTL_EN n).key ≠ (F.SLOT_STAT_DONE n).key := by
  simp only [Field.key, F.SLOT_STAT_FIRE_CNT, F.SLOT_CTL_EN, F.SLOT_STAT_DONE]
  omega

theorem slotFired_cnt (s : State) (n : Nat) (late : Bool) : (slotFired s n late).rd (F.SLOT_STAT_FIRE_CNT n) =
    (s.rd (F.SLOT_STAT_FIRE_CNT n) + 1) % 2 ^ (F.SLOT_STAT_FIRE_CNT n).w := by
  obtain ⟨hen, hdone, -⟩ := slot_keys n
  have hcnt : (s.incWrap (F.SLOT_STAT_FIRE_CNT n)).rd (F.SLOT_STAT_FIRE_CNT n) =
    (s.rd (F.SLOT_STAT_FIRE_CNT n) + 1) % 2 ^ (F.SLOT_STAT_FIRE_CNT n).w := State.rd_wr_self ..
  unfold slotFired
  extract_lets mode t s₁ trl s₂
  split
  · exact (State.rd_wr_ne _ _ hdone).trans ((State.rd_hwWr_ne _ _ hen).trans hcnt)
  · split
    · split <;> exact hcnt
    · exact hcnt

/-- A one-shot slot ends as it fires. -/
theorem slotFired_oneShot {s : State} {n : Nat} (late : Bool) (h : s.rd (F.SLOT_CTL_MODE n) = 2 ∨ s.rd (F.SLOT_CTL_MODE n) = 3) :
    (slotFired s n late).rd (F.SLOT_CTL_EN n) = 0 ∧ (slotFired s n late).rd (F.SLOT_STAT_DONE n) = 1 ∧
      s.RegsBut (slotFired s n late) [F.SLOT_STAT_FIRE_CNT n, F.SLOT_CTL_EN n, F.SLOT_STAT_DONE n] := by
  obtain ⟨-, -, hdone⟩ := slot_keys n
  unfold slotFired
  extract_lets mode t s₁ trl s₂
  rw [if_pos h]
  refine ⟨(State.rd_wr_ne _ _ hdone).trans (State.rd_hwWr_self ..), State.rd_wr_self .., ?_⟩
  exact (((s.RegsBut_refl _).set (g := F.SLOT_STAT_FIRE_CNT n) (by simp) rfl).set (g := F.SLOT_CTL_EN n) (by simp) rfl).set
    (g := F.SLOT_STAT_DONE n) (by simp) rfl

theorem slotFired_regs {s : State} {n : Nat} (late : Bool) (h : ¬(s.rd (F.SLOT_CTL_MODE n) = 2 ∨ s.rd (F.SLOT_CTL_MODE n) = 3)) :
    s.RegsBut (slotFired s n late) [F.SLOT_STAT_FIRE_CNT n] := by
  have hcnt : s.RegsBut (s.incWrap (F.SLOT_STAT_FIRE_CNT n)) [F.SLOT_STAT_FIRE_CNT n] :=
    (s.RegsBut_refl _).set (g := F.SLOT_STAT_FIRE_CNT n) (by simp) rfl
  unfold slotFired
  extract_lets mode t s₁ trl s₂
  rw [if_neg h]
  split
  · split <;> exact hcnt
  · exact hcnt

/-- Firing changes no field of its slot but these three. -/
theorem slotFired_keeps (s : State) (n : Nat) (late : Bool) :
    s.RegsBut (slotFired s n late) [F.SLOT_STAT_FIRE_CNT n, F.SLOT_CTL_EN n, F.SLOT_STAT_DONE n] := by
  by_cases h : s.rd (F.SLOT_CTL_MODE n) = 2 ∨ s.rd (F.SLOT_CTL_MODE n) = 3
  · exact (slotFired_oneShot late h).2.2
  · exact (slotFired_regs late h).mono (by simp)

/-! ## The row -/

/-- The slot as its firing begins: a catch-up that has come is taken. -/
def slotTaken (s : State) (n : Nat) : State :=
  { s with trl := { s.trl with catchup := s.trl.catchup.dropRange n (n + 1) } }

/-- An issued action as slot `n` of plot `p` puts it on its way, whatever the bus makes of it. -/
structure IssuedBy (s : State) (n p a : Nat) (x : Issued) : Prop where
  slot : x.slot = n
  action : x.action = a
  arg : x.arg = s.rd (F.SLOT_ARG_ARG n)
  plot : x.plot = p
  target : x.target = slotTarget s n
  fired : x.fired = s.now

/-- The slot as it fires, LATE set where R135 fires it. -/
def slotAt (s : State) (n : Nat) (late : Bool) : State := if late then (slotTaken s n).wr (F.SLOT_STAT_LATE n) 1 else slotTaken s n

theorem rd_slotAt_ne {s : State} {n : Nat} {f : Field} (late : Bool) (h : f.key ≠ (F.SLOT_STAT_LATE n).key) :
    (slotAt s n late).rd f = s.rd f := by
  unfold slotAt
  split
  · exact State.rd_wr_ne _ _ h
  · rfl

/-- LATE is no part of what an action's owner follows from. -/
theorem targetHere_slotAt (s : State) (n p a arg : Nat) (late : Bool) : targetHere (slotAt s n late) p a arg = targetHere s p a arg := by
  have hls : ∀ i j, (slotAt s n late).rd (F.PC_LS_OWN_OWNER i j) = s.rd (F.PC_LS_OWN_OWNER i j) := fun i j =>
    rd_slotAt_ne late (by simp only [Field.key, F.PC_LS_OWN_OWNER, F.SLOT_STAT_LATE]; omega)
  have hdio : ∀ i j, (slotAt s n late).rd (F.PC_DIO_OWN_OWNER i j) = s.rd (F.PC_DIO_OWN_OWNER i j) := fun i j =>
    rd_slotAt_ne late (by simp only [Field.key, F.PC_DIO_OWN_OWNER, F.SLOT_STAT_LATE]; omega)
  have hbase : ∀ i j, (slotAt s n late).rd (F.CAN_PTX_TXBASE i j) = s.rd (F.CAN_PTX_TXBASE i j) := fun i j =>
    rd_slotAt_ne late (by simp only [Field.key, F.CAN_PTX_TXBASE, F.SLOT_STAT_LATE]; omega)
  have hcnt : ∀ i j, (slotAt s n late).rd (F.CAN_PTX_TXCOUNT i j) = s.rd (F.CAN_PTX_TXCOUNT i j) := fun i j =>
    rd_slotAt_ne late (by simp only [Field.key, F.CAN_PTX_TXCOUNT, F.SLOT_STAT_LATE]; omega)
  have hq : ∀ i, (slotAt s n late).rd (F.Q_OWN_CONS i) = s.rd (F.Q_OWN_CONS i) := fun i =>
    rd_slotAt_ne late (by simp only [Field.key, F.Q_OWN_CONS, F.SLOT_STAT_LATE]; omega)
  have hpow : ∀ i, (slotAt s n late).rd (F.POW_CFG_LS i) = s.rd (F.POW_CFG_LS i) := fun i =>
    rd_slotAt_ne late (by simp only [Field.key, F.POW_CFG_LS, F.SLOT_STAT_LATE]; omega)
  have hgirth : (slotAt s n late).girth = s.girth := by cases late <;> rfl
  simp only [targetHere, actionOwned, actionChan, powOwner, lsOwner, dioOwner, hls, hdio, hbase, hcnt, hq, hpow, hgirth]

theorem slotAt_trl (s : State) (n : Nat) (late : Bool) : (slotAt s n late).trl.issued = s.trl.issued ∧
    (slotAt s n late).trl.actTick = s.trl.actTick ∧ (slotAt s n late).now = s.now := by
  cases late <;> exact ⟨rfl, rfl, rfl⟩

section
variable {s : State} {n p : Nat} {late : Bool} (hp : (if n < 64 then some 8 else slotPlot s n) = some p)
  (hh : (decide (p < 8) && plotHeld s p) = false) (he : s.rd (F.SLOT_CTL_EN n) ≠ 0) (hl : (s.trl.catchup.find? n == some s.now) = late)
  (hd : late = true ∨ slotDue s n = true)
include hp hh he hl hd

/-- A slot whose action is delivered fires: the slot moves on and the action is put on its way. -/
theorem slotFire_delivered (ht : p < 8 → targetHere s p (s.rd (F.SLOT_CTL_ACTION n)) (s.rd (F.SLOT_ARG_ARG n)) = true ∧
      s.rd (F.SLOT_CTL_ACTION n) ≠ 0x10 ∧ s.rd (F.SLOT_CTL_ACTION n) ≠ 0x11) :
    ∃ x, IssuedBy s n p (s.rd (F.SLOT_CTL_ACTION n)) x ∧ slotFire s n = issue (slotFired (slotAt s n late) n late) x := by
  have hgo : (!s.rdB (F.SLOT_CTL_EN n) || (decide (p < 8) && plotHeld s p) || !(late || slotDue s n)) = false := by
    rw [hh]
    rcases hd with rfl | hd
    · simp [State.rdB, he]
    · simp [State.rdB, he, hd]
  have hdeliver : ∀ e : Bool, (decide (p < 8) && (!targetHere (slotAt s n late) p (s.rd (F.SLOT_CTL_ACTION n)) (s.rd (F.SLOT_ARG_ARG n)) ||
      ((s.rd (F.SLOT_CTL_ACTION n) == 0x10 || s.rd (F.SLOT_CTL_ACTION n) == 0x11) && e))) = false := by
    intro e
    by_cases h8 : p < 8
    · obtain ⟨hhere, h10, h11⟩ := ht h8
      simp [targetHere_slotAt, hhere, h10, h11]
    · simp [h8]
  simp only [slotFire, hp, hl, hgo, Bool.false_eq_true, if_false]
  rw [if_neg (by rw [← slotTaken, ← slotAt, hdeliver]; simp)]
  exact ⟨_, ⟨rfl, rfl, rfl, rfl, rfl, by cases late <;> rfl⟩, rfl⟩

/-- A slot whose target its plot does not own here fires, and its action is dropped. -/
theorem slotFire_dropped (h8 : p < 8) (ht : targetHere s p (s.rd (F.SLOT_CTL_ACTION n)) (s.rd (F.SLOT_ARG_ARG n)) = false) :
    ∃ u flags target, slotFire s n = slotRecord u n (s.rd (F.SLOT_CTL_ACTION n)) flags target u.stamp 0 ∧
      u = ((slotFired (slotAt s n late) n late).wr (F.SLOT_STAT_NOT_OWNED n) 1).incSat F.TRL_ACT_STAT_DROP := by
  have hgo : (!s.rdB (F.SLOT_CTL_EN n) || (decide (p < 8) && plotHeld s p) || !(late || slotDue s n)) = false := by
    rw [hh]
    rcases hd with rfl | hd
    · simp [State.rdB, he]
    · simp [State.rdB, he, hd]
  simp only [slotFire, hp, hl, hgo, Bool.false_eq_true, if_false]
  rw [if_pos (by rw [← slotTaken, ← slotAt, targetHere_slotAt, ht]; simp [h8])]
  exact ⟨_, _, _, rfl, rfl⟩

end

theorem Within.rd_trellis_eq {K : Nat} {s t : State} (h : Within K s t) (hK : K.testBit Part.rTrellis.bit = false) {f : Field}
    (hf : f.key / (32 * 0x100000) = 0x200) : t.rd f = s.rd f := by
  refine h.same .rTrellis hK f hf (fun e => ?_) fun e => ?_ <;>
  · rw [e] at hf
    exact absurd hf (by decide)

/-- A record changes no field of Trellis but its slot's LATE. -/
theorem rd_slotRecord {f : Field} (hf : f.key / (32 * 0x100000) = 0x200) {n : Nat} (hk : f.key ≠ (F.SLOT_STAT_LATE n).key) (s : State) (action flags : Nat)
    (target : AStamp) (eff : Stamp) (offset : Nat) : (slotRecord s n action flags target eff offset).rd f = s.rd f := by
  have hpost : ∀ (t : State) (q : Nat) (w : List Word), (hwPost t q w).rd f = t.rd f := fun t q w => by
    have hw : Within (partsMask [.mem, .out, .irqHeld, .q, .rFurrow, .upd, .furBits]) t (hwPost t q w) :=
      hwPost_within (by decide) (Within.refl _ t)
    exact hw.rd_trellis_eq (by decide) hf
  unfold slotRecord
  split
  · rfl
  · split
    · rfl
    · extract_lets w q s₁
      rw [hpost]
      unfold s₁
      split
      · rfl
      · exact State.rd_wr_ne _ _ hk

theorem issued_slotRecord (s : State) (n action flags : Nat) (target : AStamp) (eff : Stamp) (offset : Nat) :
    (slotRecord s n action flags target eff offset).trl = s.trl :=
  Within.same (K := partsMask [.mem, .out, .irqHeld, .q, .rTrellis, .rFurrow, .upd, .furBits])
    (slotRecord_within (by decide) (Within.refl _ s)) .trl (by decide)

/-- With no other action under way, a delivered one is alone under way, due after its latency. -/
theorem slotFire_alone {s : State} {n p : Nat} {late : Bool} {x : Issued} (hx : IssuedBy s n p (s.rd (F.SLOT_CTL_ACTION n)) x)
    (ha : s.trl.actTick ≠ s.now) (hi : s.trl.issued = []) {l : Nat} (hlat : actionLat (s.rd (F.SLOT_CTL_ACTION n)) = some l) :
    (issue (slotFired (slotAt s n late) n late) x).regs = (slotFired (slotAt s n late) n late).regs ∧
      ∃ y, (issue (slotFired (slotAt s n late) n late) x).trl.issued = [y] ∧ y.slot = n ∧ y.action = s.rd (F.SLOT_CTL_ACTION n) ∧
        y.arg = s.rd (F.SLOT_ARG_ARG n) ∧ y.plot = p ∧ y.target = slotTarget s n ∧ y.due = s.now + l := by
  obtain ⟨hi₁, ha₁, hn₁⟩ := slotAt_trl s n late
  obtain ⟨hi₂, ha₂, hn₂⟩ := slotFired_trl (slotAt s n late) n late
  have hnow : (slotFired (slotAt s n late) n late).now = s.now := hn₂.trans hn₁
  obtain ⟨a, hissue⟩ := issue_alone (s := slotFired (slotAt s n late) n late) (x := x) (by rw [hi₂, hi₁, hi])
    (by rw [ha₂, ha₁, hnow]; exact ha) (by rw [hx.fired, hnow])
  rw [hissue]
  refine ⟨rfl, _, rfl, hx.slot, hx.action, hx.arg, hx.plot, hx.target, ?_⟩
  simp only [busNow, hx.action, hlat, hnow, Option.getD_some]

/-- Settles O18: by what stops a firing, and by what one that goes on does to its slot and to the bus. -/
theorem slotFiring : Obligations.SlotFiring := by
  refine ⟨fun s n he => ?_, fun s n hn hp => ?_, fun s n p hn hp h8 hh => ?_, fun s n hc hd => ?_,
    fun s n p a l hp hact hlat h10 h11 he hc hd ha hi => ?_, fun s n a l hn hact hlat he hc ha hi => ?_,
    fun s n p hn h8 hp hh he hd ht => ?_⟩
  · refine congrArg Host.Outcome.next ?_
    simp only [slotFire, State.rdB, he]
    split <;> rfl
  · have h64 : ¬ n.val < 64 := by omega
    simp [exec, execSlotFire, slotFire, h64, hp]
  · have h64 : ¬ n.val < 64 := by omega
    simp [exec, execSlotFire, slotFire, h64, hp, h8, hh]
  · have hlate : (s.trl.catchup.find? n.val == some s.now) = false := beq_eq_false_iff_ne.mpr hc
    refine congrArg Host.Outcome.next ?_
    simp only [slotFire, hlate, hd]
    split
    · rfl
    · rw [if_pos (by simp)]
  · subst hact
    have hplot : (if n.val < 64 then some 8 else slotPlot s n) = some p := by
      rcases hp with ⟨hn, rfl⟩ | ⟨hn, -, hp, -⟩
      · rw [if_pos hn]
      · rw [if_neg (by omega), hp]
    have hheld : (decide (p < 8) && plotHeld s p) = false := by
      rcases hp with ⟨-, rfl⟩ | ⟨-, -, -, hh, -⟩
      · rfl
      · rw [hh, Bool.and_false]
    have hhere : p < 8 → targetHere s p (s.rd (F.SLOT_CTL_ACTION n)) (s.rd (F.SLOT_ARG_ARG n)) = true ∧
        s.rd (F.SLOT_CTL_ACTION n) ≠ 0x10 ∧ s.rd (F.SLOT_CTL_ACTION n) ≠ 0x11 := fun h8 => by
      rcases hp with ⟨-, rfl⟩ | ⟨-, -, -, -, hh⟩
      · omega
      · exact ⟨hh, h10, h11⟩
    obtain ⟨x, hx, hfire⟩ := slotFire_delivered hplot hheld he (beq_eq_false_iff_ne.mpr hc) (.inr hd) hhere
    obtain ⟨hregs, y, hy⟩ := slotFire_alone (late := false) hx ha hi hlat
    refine ⟨_, congrArg Host.Outcome.next hfire, (State.rd_congr hregs _).trans (slotFired_cnt ..), ⟨y, hy⟩, ?_⟩
    split
    · next hm =>
      obtain ⟨hen, hdone, hbut⟩ := slotFired_oneShot (s := slotAt s n false) (n := n) false hm
      exact ⟨(State.rd_congr hregs _).trans hen, (State.rd_congr hregs _).trans hdone, fun f hf => (State.rd_congr hregs _).trans (hbut f hf)⟩
    · next hm => exact fun f hf => (State.rd_congr hregs _).trans (slotFired_regs (s := slotAt s n false) (n := n) false hm f hf)
  · subst hact
    have hlate : (s.trl.catchup.find? n.val == some s.now) = true := beq_iff_eq.mpr hc
    obtain ⟨x, hx, hfire⟩ := slotFire_delivered (p := 8) (if_pos hn) rfl he hlate (.inl rfl) (fun h => absurd h (by decide))
    obtain ⟨hregs, y, hy, hslot, haction, -, -, -, hdue⟩ := slotFire_alone (late := true) hx ha hi hlat
    refine ⟨_, congrArg Host.Outcome.next hfire, (State.rd_congr hregs _).trans ?_, y, hy, hslot, haction, hdue⟩
    refine (slotFired_keeps (slotAt s n true) n true (F.SLOT_STAT_LATE n) ?_).trans (State.rd_wr_self ..)
    simp only [List.forall_mem_cons, List.not_mem_nil, false_imp_iff, implies_true, and_true, Field.key, F.SLOT_STAT_LATE,
      F.SLOT_STAT_FIRE_CNT, F.SLOT_CTL_EN, F.SLOT_STAT_DONE]
    omega
  · have h64 : (if n.val < 64 then some 8 else slotPlot s n) = some p := by rw [if_neg (by omega), hp]
    obtain ⟨u, flags, target, hfire, rfl⟩ := slotFire_dropped h64 (by rw [hh, Bool.and_false]) he rfl (.inr hd) h8 ht
    obtain ⟨hi₁, -, -⟩ := slotAt_trl s n (s.trl.catchup.find? n == some s.now)
    obtain ⟨hi₂, -, -⟩ := slotFired_trl (slotAt s n (s.trl.catchup.find? n == some s.now)) n (s.trl.catchup.find? n == some s.now)
    refine ⟨_, congrArg Host.Outcome.next hfire, (rd_slotRecord ?_ ?_ ..).trans ?_, (congrArg TrellisSt.issued (issued_slotRecord ..)).trans
      (hi₂.trans hi₁), (rd_slotRecord ?_ ?_ ..).trans ?_⟩
    · simp only [Field.key, F.SLOT_STAT_NOT_OWNED]; omega
    · simp only [Field.key, F.SLOT_STAT_NOT_OWNED, F.SLOT_STAT_LATE]; omega
    · refine (State.rd_incSat_ne _ ?_).trans (State.rd_wr_self ..)
      simp only [Field.key, F.SLOT_STAT_NOT_OWNED, F.TRL_ACT_STAT_DROP]; omega
    · simp only [Field.key, F.SLOT_STAT_FIRE_CNT]; omega
    · simp only [Field.key, F.SLOT_STAT_FIRE_CNT, F.SLOT_STAT_LATE]; omega
    · refine (State.rd_incSat_ne _ ?_).trans ((State.rd_wr_ne _ _ ?_).trans ((slotFired_cnt ..).trans ?_))
      · simp only [Field.key, F.SLOT_STAT_FIRE_CNT, F.TRL_ACT_STAT_DROP]; omega
      · simp only [Field.key, F.SLOT_STAT_FIRE_CNT, F.SLOT_STAT_NOT_OWNED]; omega
      · rw [rd_slotAt_ne]
        simp only [Field.key, F.SLOT_STAT_FIRE_CNT, F.SLOT_STAT_LATE]; omega

end Sys2Proof.Machine
end

section
/-! Trips of Pommel (R304): what latching one shows, and what it opens. -/

namespace Sys2Proof.Machine

/-! ## Words put together bit by bit -/

theorem bitsWhere_lt (p : Nat → Bool) (n : Nat) : bitsWhere p n < 2 ^ n := by
  induction n with
  | zero => exact Nat.one_pos
  | succ n ih => rw [bitsWhere, Nat.pow_succ]; split <;> omega

theorem testBit_bitsWhere (p : Nat → Bool) (n i : Nat) : (bitsWhere p n).testBit i = (decide (i < n) && p i) := by
  induction n with
  | zero => simp [bitsWhere]
  | succ n ih =>
    have hword : bitsWhere p (n + 1) = 2 ^ n * (p n).toNat + bitsWhere p n := by
      rw [bitsWhere]
      cases p n <;> simp [Nat.add_comm]
    rw [hword, Nat.testBit_two_pow_mul_add _ (bitsWhere_lt p n)]
    by_cases hi : i < n
    · simp [hi, ih, Nat.lt_succ_of_lt hi]
    · obtain rfl | h := Nat.eq_or_lt_of_not_lt hi
      · cases p i <;> simp
      · obtain ⟨k, rfl⟩ := Nat.exists_eq_add_of_lt h
        have hk : n + k + 1 - n = k + 1 := by omega
        cases p n <;> simp [hi, hk, Nat.testBit_succ]

/-! ## Fields of Pommel that a trip leaves -/

theorem rd_subSync_pommel {f : Field} (h : Blk f 47) (s : State) : (subSync s).rd f = s.rd f :=
  Within.rd_eq (K := partsMask [.rGirth, .substate, .upd]) (i := 47) (subSync_within (by decide) (Within.refl _ s)) h (by decide) (by decide)

theorem rd_degrade_pommel {f : Field} (h : Blk f 47) (s : State) (src : Nat) (b : Bool) : (s.degrade src b).rd f = s.rd f :=
  rd_subSync_pommel h _

/-- The parts that the reaction of the outputs, the frame and the record of a trip change. -/
def tripSentMask : Nat :=
  partsMask [.mem, .out, .irqHeld, .q, .ls, .lsKept0, .lsKept1, .dio, .rFurrow, .rLs, .rDio, .pom, .can, .rCan, .upd, .furBits]

/-- The parts that the reaction of the outputs changes. -/
def outputsMask : Nat := partsMask [.mem, .out, .irqHeld, .q, .ls, .lsKept0, .lsKept1, .dio, .rFurrow, .rLs, .rDio, .upd, .furBits]

/-- What follows the opening of a trip's switches: the outputs follow, the frame leaves and the record is posted. -/
def tripSent (s : State) (f mask index value : Nat) : State :=
  pomRecord (pomSend (followAll s) 3 f mask index value) 1 f index value

theorem tripSent_within (s : State) (f mask index value : Nat) : Within tripSentMask s (tripSent s f mask index value) :=
  pomRecord_within (by decide) (pomSend_within (by decide) (followAll_within (by decide) (Within.refl _ s)))

theorem pomRecord_pom (s : State) (type f index value : Nat) : (pomRecord s type f index value).pom = s.pom :=
  Within.same (K := partsMask [.mem, .out, .irqHeld, .q, .rFurrow, .upd, .furBits]) (pomRecord_within (by decide) (Within.refl _ s)) .pom (by decide)

theorem canSystem_pom (s : State) (c p : Nat) (fr : CanFrame) : (canSystem s c p fr).pom = s.pom :=
  Within.same (K := partsMask [.can, .rCan, .upd]) (canSystem_within (by decide) (Within.refl _ s)) .pom (by decide)

theorem pomSend_pom (s : State) (kind f mask index value : Nat) :
    (pomSend s kind f mask index value).pom = { s.pom with seq := (s.pom.seq + 1) % 16 } := by
  have hseq : ∀ t : State, t.pom = s.pom →
      ({ t with pom := { t.pom with seq := (t.pom.seq + 1) % 16 } } : State).pom = { s.pom with seq := (s.pom.seq + 1) % 16 } := by
    intro t h
    dsimp only
    rw [h]
  exact hseq _ (by split <;> exact canSystem_pom ..)

theorem followAll_within_outputs (s : State) : Within outputsMask s (followAll s) := followAll_within (by decide) (Within.refl _ s)

theorem followAll_pom (s : State) : (followAll s).pom = s.pom := (followAll_within_outputs s).same .pom (by decide)

theorem tripSent_pom (s : State) (f mask index value : Nat) :
    (tripSent s f mask index value).pom = { s.pom with seq := (s.pom.seq + 1) % 16 } := by
  rw [tripSent, pomRecord_pom, pomSend_pom, followAll_pom]

theorem rd_tripSent {g : Field} (hg : Blk g 47) (s : State) (f mask index value : Nat) :
    (tripSent s f mask index value).rd g = s.rd g :=
  (tripSent_within s f mask index value).rd_eq hg (by decide) (by decide)

/-! ## The opening of switches (R311) -/

theorem slsProof_pom (mask : Nat) (stuck : BitVec 4) (u : Nat) (s : State) :
    (slsProof mask stuck u s).pom = { s.pom with proof := (slsProof mask stuck u s).pom.proof } := by
  unfold slsProof
  split
  · dsimp only
    split <;> rfl
  · rfl

theorem rd_slsProof {g : Field} (hb : Blk g 47) (hg : g.key ≠ F.POM_FLT_SLS_STUCK.key) (mask : Nat) (stuck : BitVec 4) (u : Nat) (s : State) :
    (slsProof mask stuck u s).rd g = s.rd g := by
  unfold slsProof
  split
  · dsimp only
    split
    · exact (rd_degrade_pommel hb ..).trans (s.rd_setBit_ne _ hg)
    · rfl
  · rfl

/-- Opening switches proves them, and opens exactly those of the mask. -/
theorem rd_slsOpen (s : State) (mask : Nat) (stuck : BitVec 4) :
    (slsOpen s mask stuck).rd F.POM_STAT_SLS_ON = s.rd F.POM_STAT_SLS_ON &&& (15 - mask % 16) := by
  have hrd : (forN (slsProof mask stuck) 4 s).rd F.POM_STAT_SLS_ON = s.rd F.POM_STAT_SLS_ON :=
    forN_keeps (State.rd · F.POM_STAT_SLS_ON) (fun u _ t => rd_slsProof (g := F.POM_STAT_SLS_ON) rfl (by decide) mask stuck u t) s
  have hlt : s.rd F.POM_STAT_SLS_ON &&& (15 - mask % 16) < 2 ^ 4 :=
    Nat.and_lt_two_pow _ (Nat.lt_of_le_of_lt (Nat.sub_le _ _) (by decide))
  rw [slsOpen, rd_subSync_pommel (f := F.POM_STAT_SLS_ON) rfl, hrd]
  exact State.rd_wr_of_lt _ hlt

theorem rd_slsOpen_ne {g : Field} (hb : Blk g 47) (hg : g.key ≠ F.POM_FLT_SLS_STUCK.key) (hg' : g.key ≠ F.POM_STAT_SLS_ON.key)
    (s : State) (mask : Nat) (stuck : BitVec 4) : (slsOpen s mask stuck).rd g = s.rd g := by
  rw [slsOpen, rd_subSync_pommel hb, State.rd_wr_ne _ _ hg']
  exact forN_keeps (State.rd · g) (fun u _ t => rd_slsProof hb hg mask stuck u t) s

theorem slsOpen_pom (s : State) (mask : Nat) (stuck : BitVec 4) :
    ∃ p, (slsOpen s mask stuck).pom = { s.pom with proof := p } := by
  have h : ∀ n, ∃ p, (forN (slsProof mask stuck) n s).pom = { s.pom with proof := p } := by
    intro n
    induction n with
    | zero => exact ⟨s.pom.proof, rfl⟩
    | succ n ih =>
      obtain ⟨p, hp⟩ := ih
      exact ⟨_, (slsProof_pom ..).trans (by rw [hp])⟩
  exact h 4

/-! ## Latches shown -/

theorem latchSync_pom (s : State) : (latchSync s).pom = s.pom := rfl

theorem bit_latchSync (s : State) {f : Nat} (hf : f < 18) :
    (latchSync s).bit F.POM_TRIP_LATCH f = (s.pom.latches.find? f).isSome := by
  have hrd : (latchSync s).rd F.POM_TRIP_LATCH = (s.wr F.POM_TRIP_LATCH (bitsWhere (fun f => (s.pom.latches.find? f).isSome) 18)).rd
      F.POM_TRIP_LATCH := (rd_degrade_pommel (f := F.POM_TRIP_LATCH) rfl ..).trans (State.rd_wrB_ne _ _ (by decide))
  rw [State.bit_congr hrd, State.bit_wr_self, testBit_bitsWhere]
  simp [hf, F.POM_TRIP_LATCH]

/-- TRIPPED shows that a latch holds. -/
theorem latchSync_tripped (s : State) {f : Nat} (hf : f < 18) (h : (s.pom.latches.find? f).isSome = true) :
    (latchSync s).rd F.POM_STAT_TRIPPED = 1 := by
  have hmap : bitsWhere (fun f => (s.pom.latches.find? f).isSome) 18 ≠ 0 := fun h0 => by
    have hbit := testBit_bitsWhere (fun f => (s.pom.latches.find? f).isSome) 18 f
    rw [h0] at hbit
    simp [hf, h] at hbit
  rw [latchSync, rd_degrade_pommel (f := F.POM_STAT_TRIPPED) rfl]
  have hb : (bitsWhere (fun f => (s.pom.latches.find? f).isSome) 18 != 0) = true := by simpa using hmap
  rw [hb]
  exact State.rd_wr_self ..

theorem rd_latchSync_ne {g : Field} (hb : Blk g 47) (hl : g.key ≠ F.POM_TRIP_LATCH.key) (ht : g.key ≠ F.POM_STAT_TRIPPED.key) (s : State) :
    (latchSync s).rd g = s.rd g :=
  (rd_degrade_pommel hb ..).trans ((State.rd_wrB_ne _ _ ht).trans (State.rd_wr_ne _ _ hl))

/-! ## A trip that is latched for the first time -/

/-- What a trip of function `f` over the switches of `mask` with pattern `pat`, not latched in `s`, leaves. -/
def Tripped (s t : State) (f mask pat : Nat) : Prop :=
  t.pom.latches.find? f = some ⟨mask, [pat]⟩ ∧ t.rd F.POM_STAT_TRIPPED = 1 ∧ t.bit F.POM_TRIP_LATCH f = true ∧
    t.pom.trips = s.pom.trips + 1 ∧ t.rd F.POM_STAT_SLS_ON = s.rd F.POM_STAT_SLS_ON &&& (15 - mask % 16)

/-- The state of Pommel with the latches `l` after one more trip. -/
def tripNoted (s : State) (l : SMap TripLatch) : State :=
  { s with pom := { s.pom with latches := l, saved := if flashOk s then l else s.pom.saved, trips := s.pom.trips + 1, armDrop := s.pom.armDrop || s.rdB F.POM_STAT_ARM } }

theorem tripLatch_new {s : State} {f : Nat} (h : s.pom.latches.find? f = none) (mask pat index value : Nat) (stuck : BitVec 4) :
    tripLatch s f mask pat index value stuck =
      tripSent (slsOpen (latchSync (tripNoted s (s.pom.latches.set f ⟨mask, [pat]⟩))) mask stuck) f mask index value := by
  simp [tripLatch, h, tripSent, tripNoted]

theorem tripLatch_pom {s : State} {f : Nat} (h : s.pom.latches.find? f = none) (mask pat index value : Nat) (stuck : BitVec 4) :
    ∃ p, (tripLatch s f mask pat index value stuck).pom = { (tripNoted s (s.pom.latches.set f ⟨mask, [pat]⟩)).pom with
      proof := p, seq := (s.pom.seq + 1) % 16 } := by
  rw [tripLatch_new h, tripSent_pom]
  obtain ⟨p, hp⟩ := slsOpen_pom (latchSync (tripNoted s (s.pom.latches.set f ⟨mask, [pat]⟩))) mask stuck
  rw [hp, latchSync_pom]
  exact ⟨p, rfl⟩

theorem rd_tripLatch_new {s : State} {f : Nat} (h : s.pom.latches.find? f = none) (mask pat index value : Nat) (stuck : BitVec 4) {g : Field}
    (hb : Blk g 47) (hg : ∀ x ∈ [F.POM_TRIP_LATCH, F.POM_STAT_TRIPPED, F.POM_FLT_SLS_STUCK, F.POM_STAT_SLS_ON], g.key ≠ x.key) :
    (tripLatch s f mask pat index value stuck).rd g = s.rd g := by
  simp only [List.forall_mem_cons] at hg
  obtain ⟨hl, ht, hs, ho, -⟩ := hg
  rw [tripLatch_new h, rd_tripSent hb, rd_slsOpen_ne hb hs ho, rd_latchSync_ne hb hl ht]
  rfl

/-- The trip is latched, shown and counted, and its switches open. -/
theorem tripLatch_tripped {s : State} {f : Nat} (hf : f < 18) (h : s.pom.latches.find? f = none) (mask pat index value : Nat) (stuck : BitVec 4) :
    Tripped s (tripLatch s f mask pat index value stuck) f mask pat := by
  obtain ⟨p, hp⟩ := tripLatch_pom h mask pat index value stuck
  have hset : (s.pom.latches.set f ⟨mask, [pat]⟩).find? f = some ⟨mask, [pat]⟩ := SMap.find?_set_self ..
  have hsome : ((tripNoted s (s.pom.latches.set f ⟨mask, [pat]⟩)).pom.latches.find? f).isSome = true := by
    rw [tripNoted, hset]
    rfl
  refine ⟨by rw [hp]; exact hset, ?_, ?_, by rw [hp]; rfl, ?_⟩
  · rw [tripLatch_new h, rd_tripSent (g := F.POM_STAT_TRIPPED) rfl, rd_slsOpen_ne (g := F.POM_STAT_TRIPPED) rfl (by decide) (by decide)]
    exact latchSync_tripped _ hf hsome
  · rw [tripLatch_new h, State.bit_congr (rd_tripSent (g := F.POM_TRIP_LATCH) rfl ..), State.bit_congr (rd_slsOpen_ne (g := F.POM_TRIP_LATCH) rfl (by decide) (by decide) ..), bit_latchSync _ hf]
    exact hsome
  · rw [tripLatch_new h, rd_tripSent (g := F.POM_STAT_SLS_ON) rfl, rd_slsOpen, rd_latchSync_ne (g := F.POM_STAT_SLS_ON) rfl (by decide) (by decide)]
    rfl

end Sys2Proof.Machine
end

section
/-! The commands that trip by themselves (R297, R300, R302, R308, R309, R314). -/

namespace Sys2Proof.Machine

/-! ## Trips from a state like another -/

/-- A trip counts from a state with the same latches, count and switches. -/
theorem Tripped.of_like {s u t : State} {f mask pat : Nat} (h : Tripped u t f mask pat) (hp : u.pom.trips = s.pom.trips)
    (ho : u.rd F.POM_STAT_SLS_ON = s.rd F.POM_STAT_SLS_ON) : Tripped s t f mask pat := by
  rw [Tripped, ← hp, ← ho]
  exact h

/-- What changes neither Pommel nor its window leaves the trip. -/
theorem Tripped.then {s t u : State} {f mask pat : Nat} (h : Tripped s t f mask pat) (hl : u.pom.latches = t.pom.latches)
    (hc : u.pom.trips = t.pom.trips)
    (hr : ∀ g ∈ [F.POM_STAT_TRIPPED, F.POM_TRIP_LATCH, F.POM_STAT_SLS_ON], u.rd g = t.rd g) : Tripped s u f mask pat := by
  simp only [List.forall_mem_cons] at hr
  obtain ⟨ht, hm, ho, -⟩ := hr
  rw [Tripped, hl, hc, ht, ho, State.bit_congr hm]
  exact h

/-- The evaluation with a qualifying sample counted for key `k`. -/
def sampleCounted (s : State) (k : Nat) : State :=
  { s with pom := { s.pom with
    counters := s.pom.counters.set k (s.pom.counters.get k 0 + 1), settle := s.pom.settle.set k 16, dirtySet := true } }

theorem pomStep_reached {s : State} {f i n : Nat} (hn : n ≤ s.pom.counters.get (pomKey f i) 0 + 1) (mask value : Nat) (clear : Bool)
    (stuck : BitVec 4) : pomStep s f i n mask value true clear stuck =
      tripLatch (sampleCounted s (pomKey f i)) f mask (pomPattern s f) i value stuck := by
  rw [pomStep, if_pos rfl]
  exact if_pos hn

/-- A function that has reached its persistence trips, where it holds no latch. -/
theorem pomStep_tripped {s : State} {f i n : Nat} (hn : n ≤ s.pom.counters.get (pomKey f i) 0 + 1) (hf : f < 18)
    (h : s.pom.latches.find? f = none) (mask value : Nat) (clear : Bool) (stuck : BitVec 4) :
    Tripped s (pomStep s f i n mask value true clear stuck) f mask (pomPattern s f) := by
  rw [pomStep_reached hn]
  exact (tripLatch_tripped (s := sampleCounted s (pomKey f i)) hf h ..).of_like rfl rfl

theorem exec_setstale {s : State} (hrun : s.rd F.POM_STAT_RUN = 1) (h : setStale s = true) (k : BitVec 4) :
    exec (.setstale k) s = .next (pomStep s 12 0xFFFF 1 (pomMask s 12) 0 true false k) := by
  simp [exec, execSetstale, State.rdB, hrun, h]

theorem exec_peerCheck {s : State} (hrun : s.rd F.POM_STAT_RUN = 1) (hsplit : s.rd F.POM_STAT_SPLIT = 1) (k : BitVec 4) :
    exec (.peerCheck k) s = .next (tripLatch s 16 0xF 0 0xFFFF 0 k) := by
  simp [exec, execPeerCheck, State.rdB, hrun, hsplit]

/-- A trip that adds nothing to its latch is none. -/
theorem tripLatch_held {s : State} {f : Nat} {e : TripLatch} {mask pat : Nat} (h : s.pom.latches.find? f = some e)
    (hm : e.mask ||| mask = e.mask) (hp : pat ∈ e.patterns) (index value : Nat) (stuck : BitVec 4) :
    tripLatch s f mask pat index value stuck = s := by
  simp [tripLatch, h, hm, hp]

/-! ## Overcurrent -/

/-- The record of a change of Pommel keeps Pommel's registers. -/
theorem rd_pomRecord {g : Field} (hg : Blk g 47) (s : State) (type f index value : Nat) : (pomRecord s type f index value).rd g = s.rd g :=
  Within.rd_eq (K := outputsMask) (pomRecord_within (by decide) (Within.refl _ s)) hg (by decide) (by decide)

theorem slsOc_shown (s : State) (u : Fin 4) : (s.setBit F.POM_FLT_SLS_OC u).bit F.POM_FLT_SLS_OC u = true := by
  rw [State.bit_setBit]
  have hw : (u : Nat) < F.POM_FLT_SLS_OC.w := u.isLt
  simp [hw]

theorem overcurrent_tripped {s : State} (h : s.pom.latches.find? 17 = none) (u : Fin 4) (k : BitVec 4) :
    Ends (.slsOvercurrent u k) s fun t => Tripped s t 17 (2 ^ u.val) 0 ∧ t.bit F.POM_FLT_SLS_OC u = true := by
  have hpom := pomRecord_pom (s.setBit F.POM_FLT_SLS_OC u) 5 17 u 0
  have hfree : (pomRecord (s.setBit F.POM_FLT_SLS_OC u) 5 17 u 0).pom.latches.find? 17 = none := by rw [hpom]; exact h
  refine ⟨_, rfl, (tripLatch_tripped (by decide) hfree ..).of_like ?_ ?_, ?_⟩
  · rw [hpom]; rfl
  · exact (rd_pomRecord (g := F.POM_STAT_SLS_ON) rfl ..).trans (State.rd_setBit_ne _ _ (by decide))
  · rw [State.bit_congr (rd_tripLatch_new (g := F.POM_FLT_SLS_OC) hfree _ _ _ _ _ rfl (by decide)), State.bit_congr (rd_pomRecord (g := F.POM_FLT_SLS_OC) rfl ..)]
    exact slsOc_shown s u

/-! ## Manual trips -/

theorem pomAnswer_tripped {s t : State} {f mask pat : Nat} (h : Tripped s t f mask pat) (c d : Nat) : Tripped s (pomAnswer t c d) f mask pat :=
  h.then rfl rfl fun g hg => by
    have hne : g.key ≠ F.POM_MB_RSP_STATUS.key ∧ g.key ≠ F.POM_MB_DATA_DATA.key := by
      revert g
      decide
    exact (State.rd_wr_ne _ _ hne.2).trans (State.rd_wr_ne _ _ hne.1)

theorem exec_manualTrip {s : State} {r : Req} (hlive : windowDead s F.POM_MB_CMD_CMD.addr = false) (hr : r.supOrStitch = true)
    (hrun : s.rd F.POM_STAT_RUN = 1) (m : BitVec 4) (p : Fin 8) (k : BitVec 4) :
    exec (.manualTrip r m p k) s = .next (pomAnswer (tripLatch s 14 m.toNat p 0xFFFF 0 k) 0 0) := by
  have hm : ¬ (16 ≤ m.toNat ∨ 8 ≤ p.val) := by
    have := m.isLt
    omega
  have hop : pomManual s r m.toNat p k = pomAnswer (tripLatch s 14 m.toNat p 0xFFFF 0 k) 0 0 := by
    rw [pomManual, if_neg (by simp [hr]), if_neg hm, if_neg (by simp [State.rdB, hrun])]
  exact congrArg Host.Outcome.next ((congrArg _ hop).trans (hostWrite_ok r hlive rfl))

/-! ## Injection -/

/-- A comparator fault trips every switch. -/
theorem compFault_tripped {s : State} (h : s.pom.latches.find? 15 = none) (k : BitVec 4) :
    Tripped s (compFault s k) 15 15 0 ∧ (compFault s k).rd F.POM_FLT_COMP = 1 ∧ (compFault s k).pom.compClear = false := by
  unfold compFault
  extract_lets u src v
  have hu : u.pom = s.pom := pomRecord_pom ..
  have hrd : ∀ g, Blk g 47 → g.key ≠ F.POM_FLT_COMP.key → v.rd g = s.rd g := fun g hg hne =>
    (rd_pomRecord hg ..).trans (s.rd_wr_ne _ hne)
  have hcomp : v.rd F.POM_FLT_COMP = 1 := (rd_pomRecord (g := F.POM_FLT_COMP) rfl ..).trans (s.rd_wr_self ..)
  have hfree : v.pom.latches.find? 15 = none := by
    change u.pom.latches.find? 15 = none
    rw [hu]
    exact h
  refine ⟨(tripLatch_tripped (by decide) hfree ..).of_like (by exact congrArg (·.trips) hu) (hrd _ rfl (by decide)), ?_, ?_⟩
  · rw [rd_tripLatch_new (g := F.POM_FLT_COMP) hfree _ _ _ _ _ rfl (by decide)]
    exact hcomp
  · obtain ⟨p, hp⟩ := tripLatch_pom hfree 0xF 0 0xFFFF 0 k
    rw [hp]
    rfl

theorem exec_injectionPass {s : State} {b : Bool} (hdue : b = true ∧ s.pom.injected = false ∨ b = false ∧ s.pom.injAt + 5120000 ≤ s.now)
    (f : Bool) (k : BitVec 4) : exec (.injectionPass b f k) s = .next (injection s b f k) := by
  obtain ⟨rfl, h⟩ | ⟨rfl, h⟩ := hdue <;> simp [exec, execInjectionPass, h]

theorem injection_failed {s : State} (hrun : s.rd F.POM_STAT_RUN = 1) (hsplit : s.rd F.POM_STAT_SPLIT = 0)
    (h : s.pom.latches.find? 15 = none) (b : Bool) (k : BitVec 4) :
    Tripped s (injection s b true k) 15 15 0 ∧ (injection s b true k).rd F.POM_FLT_COMP = 1 ∧ (injection s b true k).pom.compClear = false := by
  have hgo : (!s.rdB F.POM_STAT_RUN || s.rdB F.POM_STAT_SPLIT) = false := by simp [State.rdB, hrun, hsplit]
  cases b
  · obtain ⟨ht, hc⟩ := compFault_tripped (s := { s with pom := { s.pom with injAt := s.now, injPos := (s.pom.injPos + 1) % 64 } }) h k
    simp only [injection, hgo, Bool.false_eq_true, if_false, if_true]
    exact ⟨ht.of_like rfl rfl, hc⟩
  · obtain ⟨ht, hc⟩ := compFault_tripped (s := State.wr { s with pom := { s.pom with injected := true } } F.POM_STAT_INJ_OK 0) h k
    simp only [injection, hgo, Bool.false_eq_true, if_false, if_true]
    exact ⟨ht.of_like rfl (State.rd_wr_ne _ _ (by decide)), hc⟩

/-! ## The partner's trip -/

theorem exec_mirrorTripRx {s : State} {bytes : List Byte} (hrun : s.rd F.POM_STAT_RUN = 1) (hkind : byteNat bytes 0 / 16 = 3)
    (hnew : byteNat bytes 0 % 16 ∉ s.pom.mirrorSeqs) (h : s.pom.latches.find? 13 = none) (k : BitVec 4) :
    Ends (.mirrorTripRx bytes k) s fun t =>
      Tripped s t 13 (byteNat bytes 2 / 2 % 16 &&& pomMask s 13) (pomPattern s 13) ∧
        t.pom.mirrorSeqs = s.pom.mirrorSeqs ++ [byteNat bytes 0 % 16] := by
  have hgo : (byteNat bytes 0 / 16 != 3 || !s.rdB F.POM_STAT_RUN) = false := by simp [State.rdB, hrun, hkind]
  have hseq : s.pom.mirrorSeqs.contains (byteNat bytes 0 % 16) = false := by simpa using hnew
  have hexec : execMirrorTripRx bytes k s = .next (mirrorTrip s bytes k) := rfl
  simp only [mirrorTrip, hgo, hseq, Bool.false_eq_true, if_false] at hexec
  refine ⟨_, hexec, (tripLatch_tripped (by decide) h ..).then rfl rfl fun _ _ => rfl, ?_⟩
  obtain ⟨p, hp⟩ := tripLatch_pom h (byteNat bytes 2 / 2 % 16 &&& pomMask s 13) (pomPattern s 13) 0xFFFF 0 k
  dsimp only
  rw [hp]
  rfl

/-- Settles O37. -/
theorem tripsOpenSwitches : Obligations.TripsOpenSwitches := by
  refine ⟨fun s k hrun hs h => ?_, fun s k hrun hsplit h => ?_, fun s u k h => overcurrent_tripped h u k, fun s r m p k hlive hr hrun h => ?_,
    fun s b k hrun hsplit h hdue => ?_, fun s bytes k hrun hkind hnew h => exec_mirrorTripRx hrun hkind hnew h k,
    fun s k e hrun hsplit h hmask hpat => ?_⟩
  · exact ⟨_, exec_setstale hrun hs k, pomStep_tripped (Nat.le_add_left ..) (by decide) h (pomMask s 12) 0 false k⟩
  · exact ⟨_, exec_peerCheck hrun hsplit k, tripLatch_tripped (by decide) h ..⟩
  · exact ⟨_, exec_manualTrip hlive hr hrun m p k, pomAnswer_tripped (tripLatch_tripped (by decide) h ..) 0 0, rfl⟩
  · exact ⟨_, exec_injectionPass hdue true k, injection_failed hrun hsplit h b k⟩
  · rw [exec_peerCheck hrun hsplit, tripLatch_held h (by rw [hmask]; rfl) (by rw [hpat]; exact List.mem_singleton_self 0)]

end Sys2Proof.Machine
end

section
/-! The evaluation of Pommel, its faults, its injection and the SAFE-LS switches (R295-R312). -/

namespace Sys2Proof.Machine

theorem State.rd_incSat_self (s : State) (f : Field) : (s.incSat f).rd f = min (s.rd f + 1) (2 ^ f.w - 1) := by
  rw [State.rd_incSat, if_pos rfl]
  split <;> omega

/-! ## While Pommel does not run -/

theorem stopped_nothing {s : State} (h : s.rd F.POM_STAT_RUN = 0) {x : PomSample} {k : BitVec 4} {n : Fin 2304} {q : BitVec 16} {g : Fin 16}
    {c : Instr} (hc : c = .pommelEvaluate x k ∨ c = .tempDueCheck n q k ∨ c = .setstale k ∨ c = .lockstepMismatch g ∨
      c = .delayRegParity ∨ c = .peerCheck k ∨ c = .slsClose) : exec c s = .next s := by
  have hrun : s.rdB F.POM_STAT_RUN = false := by simp [State.rdB, h]
  obtain rfl | rfl | rfl | rfl | rfl | rfl | rfl := hc
  · simp [exec, execPommelEvaluate, hrun]
  · simp [exec, execTempDueCheck, hrun]
  · simp [exec, execSetstale, hrun]
  · simp [exec, execLockstepMismatch, hrun]
  · simp [exec, execDelayRegParity, hrun]
  · simp [exec, execPeerCheck, hrun]
  · simp [exec, execSlsClose, slsClose, slsMayClose, hrun]

theorem absent_nothing {s : State} {j : Fin 16} {g : Fin 4608} (h : cellMark s j.val g = 2) (k : BitVec 4) :
    exec (.pommelEvaluate (.cell j g) k) s = .next s := by
  simp [exec, execPommelEvaluate, pomCell, pomSeen, h]

/-! ## A latch once set stays through the evaluation of other functions -/

/-- A latch of function `f` over what it named before and `mask`, with pattern `pat` among its patterns. -/
def latchMore (s : State) (f mask pat : Nat) : TripLatch :=
  let old := s.pom.latches.find? f
  let pats := (old.map (·.patterns)).getD []
  ⟨(old.map (·.mask)).getD 0 ||| mask, if pats.contains pat then pats else pats ++ [pat]⟩

theorem tripLatch_cases (s : State) (f mask pat index value : Nat) (stuck : BitVec 4) :
    (s.pom.latches.find? f).isSome = true ∧ tripLatch s f mask pat index value stuck = s ∨
      tripLatch s f mask pat index value stuck =
        tripSent (slsOpen (latchSync (tripNoted s (s.pom.latches.set f (latchMore s f mask pat)))) mask stuck) f mask index value := by
  by_cases h : ((s.pom.latches.find? f).isSome && (((s.pom.latches.find? f).map (·.mask)).getD 0 ||| mask) == ((s.pom.latches.find? f).map (·.mask)).getD 0 &&
      (((s.pom.latches.find? f).map (·.patterns)).getD []).contains pat) = true
  · have hheld := h
    simp only [Bool.and_eq_true] at hheld
    exact .inl ⟨hheld.1.1, if_pos h⟩
  · exact .inr (if_neg h)

theorem tripLatch_latched (s : State) (f mask pat index value : Nat) (stuck : BitVec 4) {g : Nat}
    (h : (s.pom.latches.find? g).isSome = true ∨ g = f) :
    ((tripLatch s f mask pat index value stuck).pom.latches.find? g).isSome = true := by
  obtain ⟨hheld, heq⟩ | heq := tripLatch_cases s f mask pat index value stuck
  · rw [heq]
    obtain h | rfl := h
    · exact h
    · exact hheld
  · have hset : ((s.pom.latches.set f (latchMore s f mask pat)).find? g).isSome = true := by
      by_cases hg : g = f
      · rw [hg, SMap.find?_set_self]
        rfl
      · rw [SMap.find?_set_ne _ _ hg]
        exact h.resolve_right hg
    obtain ⟨p, hp⟩ := slsOpen_pom (latchSync (tripNoted s (s.pom.latches.set f (latchMore s f mask pat)))) mask stuck
    rw [heq, tripSent_pom, hp]
    exact hset

theorem pomStep_latched (s : State) (f i n mask value : Nat) (q clear : Bool) (stuck : BitVec 4) {g : Nat}
    (h : (s.pom.latches.find? g).isSome = true) : ((pomStep s f i n mask value q clear stuck).pom.latches.find? g).isSome = true := by
  cases q
  · exact h
  · by_cases hn : n ≤ s.pom.counters.get (pomKey f i) 0 + 1
    · rw [pomStep_reached hn]
      exact tripLatch_latched _ _ _ _ _ _ _ (.inl h)
    · have hc : pomStep s f i n mask value true clear stuck = sampleCounted s (pomKey f i) := by
        rw [pomStep, if_pos rfl]
        exact if_neg hn
      rw [hc]
      exact h

/-- A function that has reached its persistence holds a latch. -/
theorem pomStep_latches {s : State} {f i n : Nat} (hn : n ≤ s.pom.counters.get (pomKey f i) 0 + 1) (mask value : Nat) (clear : Bool)
    (stuck : BitVec 4) : ((pomStep s f i n mask value true clear stuck).pom.latches.find? f).isSome = true := by
  rw [pomStep_reached hn]
  exact tripLatch_latched _ _ _ _ _ _ _ (.inr rfl)

theorem cell_overvoltage {s : State} {j : Fin 16} {g : Fin 4608} (hrun : s.rd F.POM_STAT_RUN = 1) (hpair : s.girth.unpaired = false)
    (hmark : cellMark s j g = 0) (hv : pomThr s 1 < (cellVal s j g : Int)) (hn : pomPersist s 1 ≤ s.pom.counters.get (pomKey 1 g) 0 + 1)
    (k : BitVec 4) : Ends (.pommelEvaluate (.cell j g) k) s fun t => (t.pom.latches.find? 1).isSome = true := by
  have hexec : exec (.pommelEvaluate (.cell j g) k) s = .next (pomCell s j g k) := by
    simp [exec, execPommelEvaluate, State.rdB, hrun]
  refine ⟨_, hexec, ?_⟩
  have hseen : pomSeen s (cellMark s j g) = 0 := by simp [pomSeen, hmark, hpair]
  unfold pomCell
  extract_lets v mk ok pj pv both run
  have hmk : mk = 0 := hseen
  have hok : ok = true := by simp [ok, hmk]
  rw [if_neg (by simp [hmk])]
  have h₁ : ((run s 1 (decide (pomThr s 1 < (v : Int)))).pom.latches.find? 1).isSome = true := by
    have hq : (ok && decide (pomThr s 1 < (v : Int))) = true := by rw [hok]; simpa using hv
    simp only [run, hq]
    exact pomStep_latches hn _ _ _ _
  have hkeep : ∀ t f q, (t.pom.latches.find? 1).isSome = true → ((run t f q).pom.latches.find? 1).isSome = true :=
    fun t f q h => pomStep_latched t f _ _ _ _ _ _ _ h
  clear_value run
  dsimp only
  split
  · exact pomStep_latched _ _ _ _ _ _ _ _ _ (hkeep _ _ _ (hkeep _ _ _ h₁))
  · exact hkeep _ _ _ (hkeep _ _ _ h₁)

/-! ## Temperatures that are due (R561) -/

theorem tempDue_none {s : State} {n : Fin 2304} {seq : BitVec 16} (h : tempDueAt s n seq.toNat = none) (k : BitVec 4) :
    exec (.tempDueCheck n seq k) s = .next s := by
  have hm : (if s.rdB F.POM_STAT_RUN then tempDueAt s n seq.toNat else none) = none := by split <;> simp [h]
  simp only [exec, execTempDueCheck, hm]

/-- A qualifying sample that does not reach the persistence is counted, and no more. -/
theorem pomStep_below {s : State} {f i n : Nat} (hn : s.pom.counters.get (pomKey f i) 0 + 1 < n) (mask value : Nat) (clear : Bool)
    (stuck : BitVec 4) : pomStep s f i n mask value true clear stuck = sampleCounted s (pomKey f i) := by
  rw [pomStep, if_pos rfl]
  exact if_neg (by omega)

theorem tempDue_counts {s : State} {n : Fin 2304} {seq : BitVec 16} {due : Nat} (hrun : s.rd F.POM_STAT_RUN = 1)
    (hdue : tempDueAt s n seq.toNat = some due) (hfit : sensorFitted s n = true) (hstale : (s.byteAt (tempAddr n + 3)).toNat ≠ seq.toNat % 256)
    (hn : s.pom.counters.get (pomKey 11 n) 0 + 1 < pomPersist s 11) (k : BitVec 4) :
    exec (.tempDueCheck n seq k) s =
      .next (sampleCounted { s with pom := { s.pom with tempChecked := s.pom.tempChecked.set n due } } (pomKey 11 n)) := by
  have hm : (if s.rdB F.POM_STAT_RUN then tempDueAt s n seq.toNat else none) = some due := by simp [State.rdB, hrun, hdue]
  have hfresh : ((s.byteAt (tempAddr n + 3)).toNat == seq.toNat % 256) = false := by simpa using hstale
  have hskip : ¬ (!sensorFitted { s with pom := { s.pom with tempChecked := s.pom.tempChecked.set n due } } n || false) = true := by
    have : sensorFitted { s with pom := { s.pom with tempChecked := s.pom.tempChecked.set n due } } n = true := hfit
    simp [this]
  simp only [exec, execTempDueCheck, hm, hfresh, Bool.false_and]
  rw [if_neg hskip]
  exact congrArg _ (pomStep_below (s := { s with pom := { s.pom with tempChecked := s.pom.tempChecked.set n due } }) hn _ _ _ _)

/-! ## Faults of the cores and the memory -/

/-- The reaction to a core fault: both channels forced open, SLS_ARM low, the cores halted, the fault recorded. -/
theorem coreFault_stops (s : State) (code info : Nat) :
    (coreFault s code info).rd F.POM_STAT_RUN = 0 ∧ (coreFault s code info).rd F.POM_STAT_SLS_ON = 0 ∧
      (coreFault s code info).rd F.POM_STAT_ARM = 0 ∧ (coreFault s code info).pom = { s.pom with halted := true } ∧
      (coreFault s code info).faults = s.faults ++ [⟨code, info, s.stamp⟩] := by
  have hdown : ∀ g, Blk g 47 → g.key ≠ F.POM_STAT_RUN.key →
      (coreFault s code info).rd g = ((s.wr F.POM_STAT_SLS_ON 0).wr F.POM_STAT_ARM 0).rd g := fun g hg hne =>
    (State.rd_wr_ne _ _ hne).trans (rd_subSync_pommel hg _)
  refine ⟨(State.rd_wr_self ..).trans rfl, ?_, ?_, rfl, rfl⟩
  · exact (hdown F.POM_STAT_SLS_ON rfl (by decide)).trans ((State.rd_wr_ne _ _ (by decide)).trans (State.rd_wr_self ..))
  · exact (hdown F.POM_STAT_ARM rfl (by decide)).trans (State.rd_wr_self ..)

theorem runs_unsplit {s : State} (hrun : s.rd F.POM_STAT_RUN = 1) (hsplit : s.rd F.POM_STAT_SPLIT = 0) :
    (!s.rdB F.POM_STAT_RUN || s.rdB F.POM_STAT_SPLIT) = false := by simp [State.rdB, hrun, hsplit]

theorem exec_lockstepMismatch {s : State} (hrun : s.rd F.POM_STAT_RUN = 1) (hsplit : s.rd F.POM_STAT_SPLIT = 0) (g : Fin 16) :
    exec (.lockstepMismatch g) s = .next { coreFault s 0x0603 g with pom := { (coreFault s 0x0603 g).pom with recCore := true } } := by
  simp only [exec, execLockstepMismatch, runs_unsplit hrun hsplit, Bool.false_eq_true, if_false]

theorem exec_delayRegParity {s : State} (hrun : s.rd F.POM_STAT_RUN = 1) (hsplit : s.rd F.POM_STAT_SPLIT = 0) :
    exec .delayRegParity s = .next { coreFault s 0x0603 16 with pom := { (coreFault s 0x0603 16).pom with recDly := true },
                                                                girth := { (coreFault s 0x0603 16).girth with coldNext := true } } := by
  simp only [exec, execDelayRegParity, runs_unsplit hrun hsplit, Bool.false_eq_true, if_false]

/-- A two-bit mark put at place `k` of a byte is what stands there. -/
theorem mark_put {b m : Nat} (hb : b < 256) (hm : m < 4) {k : Nat} (hk : k < 4) :
    (b - b / 4 ^ k % 4 * 4 ^ k + m * 4 ^ k) % 256 / 4 ^ k % 4 = m := by
  interval_cases k <;> omega

theorem cellMark_putMark {s : State} (hc : s.Canon) (j : Fin 16) (g : Fin 4608) {m : Nat} (hm : m < 4) :
    cellMark (putMark s (setSlot j.val + 0x2400) g m) j g = m := by
  rw [cellMark, putMark, State.byteAt_putByte_self _ _ _ hc.mem, BitVec.toNat_ofNat]
  exact mark_put (s.byteAt _).isLt hm (Nat.mod_lt _ (by decide))

/-! ## Injection that passes, suspects and the switches -/

theorem start_injection {s : State} (hrun : s.rd F.POM_STAT_RUN = 1) (hsplit : s.rd F.POM_STAT_SPLIT = 0) (h : s.pom.injected = false)
    (k : BitVec 4) : exec (.injectionPass true false k) s =
      .next (State.wr { s with pom := { s.pom with injected := true, compClear := true } } F.POM_STAT_INJ_OK 1) := by
  rw [exec_injectionPass (.inl ⟨rfl, h⟩)]
  simp only [injection, runs_unsplit hrun hsplit, Bool.false_eq_true, if_false, if_true]

theorem service_injection {s : State} (hrun : s.rd F.POM_STAT_RUN = 1) (hsplit : s.rd F.POM_STAT_SPLIT = 0) (k : BitVec 4) :
    injection s false false k =
      State.incSat { s with pom := { s.pom with injAt := s.now, injPos := (s.pom.injPos + 1) % 64 } } F.POM_INJ_CNT_PASSES := by
  simp only [injection, runs_unsplit hrun hsplit, Bool.false_eq_true, if_false]

theorem injection_early {s : State} {b : Bool} (h : b = true ∧ s.pom.injected = true ∨ b = false ∧ s.now < s.pom.injAt + 5120000)
    (f : Bool) (k : BitVec 4) : exec (.injectionPass b f k) s = .next s := by
  obtain ⟨rfl, h⟩ | ⟨rfl, h⟩ := h <;> simp [exec, execInjectionPass, h]

theorem suspect_taken (s : State) (b : List Byte) (l : List (List Byte)) (h : s.til.path = b :: l) :
    Ends .suspectReportRx s fun t =>
      t.til = { s.til with path := l } ∧ t.pom = s.pom ∧ t.rd F.POM_STAT_SLS_ON = s.rd F.POM_STAT_SLS_ON ∧
        t.rd F.POM_SUSP_CNT_CNT = min (s.rd F.POM_SUSP_CNT_CNT + 1) 0xFFFF := by
  have hexec : exec .suspectReportRx s = .next (suspectTake { s with til := { s.til with path := l } } b) := by
    simp only [exec, execSuspectReportRx, h]
  have hw : Within outputsMask (State.incSat { s with til := { s.til with path := l } } F.POM_SUSP_CNT_CNT)
      (suspectTake { s with til := { s.til with path := l } } b) := pomRecord_within (by decide) (Within.refl _ _)
  refine ⟨_, hexec, hw.same .til (by decide), hw.same .pom (by decide), ?_, ?_⟩
  · exact (hw.rd_eq (f := F.POM_STAT_SLS_ON) rfl (by decide) (by decide)).trans (State.rd_incSat_ne _ (by decide))
  · exact (hw.rd_eq (f := F.POM_SUSP_CNT_CNT) rfl (by decide) (by decide)).trans (State.rd_incSat_self ..)

theorem slsClose_closes {s : State} (h : slsMayClose s = true) : Ends .slsClose s fun t =>
    t.rd F.POM_STAT_SLS_ON = 15 - latchedMask s % 16 ∧
      s.RegsBut t [F.POM_STAT_SLS_ON, F.SEAT_STAT_EXTRACT_OK, F.GIRTH_MODE_SUBSTATE] ∧ t.pom = s.pom := by
  have hexec : exec .slsClose s = .next (subSync (s.wr F.POM_STAT_SLS_ON (15 - latchedMask s % 16))) := by
    simp only [exec, execSlsClose, slsClose, h, if_true]
  refine ⟨_, hexec, ?_, ?_, rfl⟩
  · rw [rd_subSync_pommel (f := F.POM_STAT_SLS_ON) rfl]
    exact State.rd_wr_of_lt _ (Nat.lt_of_le_of_lt (Nat.sub_le ..) (by decide))
  · exact ((State.OnlyRegs.refl s _).wr (by simp) _ |>.subSync (by simp) (by simp)).regs

theorem exec_slsArmRaise (s : State) : exec .slsArmRaise s =
    .next (if s.rd F.POM_STAT_SLS_ON == 15 && !s.girth.unpaired && (s.mode == mRUN || s.mode == mSERVICE || s.mode == mHOLD) then
      subSync (s.wr F.POM_STAT_ARM 1) else s) := rfl

theorem slsArm_raised {s : State} (hon : s.rd F.POM_STAT_SLS_ON = 15) (hpair : s.girth.unpaired = false)
    (hm : s.mode = mRUN ∨ s.mode = mSERVICE ∨ s.mode = mHOLD) : Ends .slsArmRaise s fun t =>
      t.rd F.POM_STAT_ARM = 1 ∧ s.RegsBut t [F.POM_STAT_ARM, F.SEAT_STAT_EXTRACT_OK, F.GIRTH_MODE_SUBSTATE] := by
  have hgo : (s.rd F.POM_STAT_SLS_ON == 15 && !s.girth.unpaired && (s.mode == mRUN || s.mode == mSERVICE || s.mode == mHOLD)) = true := by
    simpa [hon, hpair, or_assoc] using hm
  refine ⟨_, (exec_slsArmRaise s).trans (congrArg _ (if_pos hgo)), ?_, ?_⟩
  · rw [rd_subSync_pommel (f := F.POM_STAT_ARM) rfl]
    exact State.rd_wr_self ..
  · exact ((State.OnlyRegs.refl s _).wr (by simp) _ |>.subSync (by simp) (by simp)).regs

theorem slsArm_low {s : State} (h : s.rd F.POM_STAT_SLS_ON ≠ 15 ∨ s.girth.unpaired = true ∨ (s.mode ≠ mRUN ∧ s.mode ≠ mSERVICE ∧ s.mode ≠ mHOLD)) :
    exec .slsArmRaise s = .next s := by
  refine (exec_slsArmRaise s).trans (congrArg _ (if_neg ?_))
  obtain h | h | ⟨h₁, h₂, h₃⟩ := h
  · simp [h]
  · simp [h]
  · simp [h₁, h₂, h₃]

/-- Settles O38. -/
theorem pommelEvaluation : Obligations.PommelEvaluation := by
  refine ⟨fun s x k n q g c hc hrun => stopped_nothing hrun hc, fun s j g k h => absent_nothing h k,
    fun s j g k hrun hpair hmark hv hn => cell_overvoltage hrun hpair hmark hv hn k, fun s n seq k h => tempDue_none h k,
    fun s n seq k due hrun hdue hfit hstale hn => ⟨_, tempDue_counts hrun hdue hfit hstale hn k, rfl, rfl⟩,
    fun s g hrun hsplit => ?_, fun s hrun hsplit => ?_, fun s => ?_, fun s j g hc => ?_, fun s k hrun hsplit h => ?_,
    fun s b f k h => injection_early h f k, fun s k hrun hsplit hdue => ?_, fun s h => ?_, suspect_taken, fun s h => slsClose_closes h,
    fun s h => ?_, fun s hon hpair hm => slsArm_raised hon hpair hm, fun s h => slsArm_low h⟩
  · obtain ⟨hr, ho, ha, hp, hf⟩ := coreFault_stops s 0x0603 g
    exact ⟨_, exec_lockstepMismatch hrun hsplit g, hr, ho, ha, rfl, hf⟩
  · obtain ⟨hr, ho, ha, hp, hf⟩ := coreFault_stops s 0x0603 16
    exact ⟨_, exec_delayRegParity hrun hsplit, hr, ho, ha, rfl, rfl⟩
  · obtain ⟨hr, ho, ha, hp, hf⟩ := coreFault_stops (s.wr F.POM_FLT_ECC 1) 0x0604 0
    refine ⟨_, rfl, ?_, hr, ho, by rw [hp]⟩
    have hecc : (coreFault (s.wr F.POM_FLT_ECC 1) 0x0604 0).rd F.POM_FLT_ECC = ((((s.wr F.POM_FLT_ECC 1).wr F.POM_STAT_SLS_ON 0).wr F.POM_STAT_ARM 0)).rd F.POM_FLT_ECC :=
      (State.rd_wr_ne _ _ (by decide)).trans (rd_subSync_pommel (f := F.POM_FLT_ECC) rfl _)
    exact hecc.trans ((State.rd_wr_ne _ _ (by decide)).trans ((State.rd_wr_ne _ _ (by decide)).trans (State.rd_wr_self ..)))
  · have hcanon : (s.wr F.POM_FLT_ECC 1).Canon := ⟨hc.mem, SMap.wf_set _ _ hc.regs⟩
    refine ⟨_, rfl, State.rd_wr_self .., cellMark_putMark hcanon j g (by decide), (s.RegsBut_refl _).set (by simp) rfl, fun x hx => ?_⟩
    exact State.byteAt_putByte_ne _ _ (by omega)
  · exact ⟨_, start_injection hrun hsplit h k, State.rd_wr_self .., rfl, (s.RegsBut_refl _).set (by simp) rfl⟩
  · refine ⟨_, (exec_injectionPass (.inr ⟨rfl, hdue⟩) false k).trans (congrArg _ (service_injection hrun hsplit k)), State.rd_incSat_self .., ?_, rfl, rfl⟩
    exact (s.RegsBut_refl _).set (by simp) rfl
  · simp only [exec, execSuspectReportRx, h]
  · simp [exec, execSlsClose, slsClose, h]

end Sys2Proof.Machine
end

section
/-! A register access that a command spells out, in a window in service: what its end adds to what the register did (R38, R416). -/

namespace Sys2Proof.Machine

theorem brLast_onlyRegs (s : State) (r : Req) (c tag a : Nat) : s.OnlyRegs (brLast s r.issuer c tag a) r.last :=
  ⟨brLast_regs s r c tag a, rfl⟩

/-- A non-posted access only notes its answer in BR_LAST. -/
theorem accessEnd_last (t : State) (r : Req) (a : Nat) : t.OnlyRegs (accessEnd t r.issuer false a) r.last := by
  rw [accessEnd]
  split
  · exact State.OnlyRegs.refl ..
  · exact brLast_onlyRegs ..

/-- An access that is answered with anything but a fault of the address or of memory only notes its answer in BR_LAST. -/
theorem accessEnd_plain {t : State} {c : Nat} (hc : t.resp.status = c) (h : c ≠ 0x0110 ∧ c ≠ 0x0610 ∧ c ≠ 0x0611) (r : Req)
    (posted : Bool) (a : Nat) : t.OnlyRegs (accessEnd t r.issuer posted a) r.last := by
  subst hc
  cases posted
  · exact accessEnd_last t r a
  · rw [accessEnd_posted h.1 h.2.1 h.2.2]
    exact State.OnlyRegs.refl ..

section
variable {s t : State} {a : Nat} (r : Req)

theorem hostWrite_plain {c : Nat} (hlive : windowDead s a = false) (hc : t.resp.status = c) (h : c ≠ 0x0110 ∧ c ≠ 0x0610 ∧ c ≠ 0x0611) :
    t.OnlyRegs (hostWrite s r a t) r.last := by
  simp only [hostWrite, hostRow, hlive, Bool.false_eq_true, if_false]
  split
  · exact State.OnlyRegs.refl ..
  · exact accessEnd_plain hc h ..

theorem hostRead_last (hlive : windowDead s a = false) : t.OnlyRegs (hostRead s r a t) r.last := by
  simp only [hostRead, hostRow, hlive, Bool.false_eq_true, if_false]
  split
  · exact State.OnlyRegs.refl ..
  · exact accessEnd_last ..

/-- A write of a window of class N is never posted. -/
theorem hostWrite_classN (hlive : windowDead s a = false) (hclass : classN a = true) : t.OnlyRegs (hostWrite s r a t) r.last := by
  have h := hostRead_last (t := t) r hlive
  rwa [hostRead, show false = !classN a by rw [hclass]; rfl] at h

end

/-- What a register write does may be put for what it comes to. -/
theorem next_hostWrite {s t u : State} {r : Req} {a : Nat} (h : t = u) :
    (Host.Outcome.next (hostWrite s r a t) : Res) = .next (hostWrite s r a u) := by rw [h]

theorem State.OnlyRegs.refused {s u : State} {r : Req} {c : Nat} (h : (s.status c).OnlyRegs u r.last) : s.Refused u r c := by
  have hrest := h.rest
  exact ⟨by rw [hrest]; rfl, h.regs, by rw [hrest]; rfl⟩

/-- A refusal in a window in service is the refusal alone. -/
theorem hostWrite_refused {s : State} {a c : Nat} (r : Req) (hlive : windowDead s a = false) (h : c ≠ 0x0110 ∧ c ≠ 0x0610 ∧ c ≠ 0x0611) :
    s.Refused (hostWrite s r a (s.status c)) r c :=
  (hostWrite_plain r hlive rfl h).refused

theorem State.OnlyRegs.resp {s t : State} {fs : List Field} (h : s.OnlyRegs t fs) : t.resp = s.resp := by rw [h.rest]
theorem State.OnlyRegs.mem {s t : State} {fs : List Field} (h : s.OnlyRegs t fs) : t.mem = s.mem := by rw [h.rest]
theorem State.OnlyRegs.objs {s t : State} {fs : List Field} (h : s.OnlyRegs t fs) : t.objs = s.objs := by rw [h.rest]
theorem State.OnlyRegs.pom {s t : State} {fs : List Field} (h : s.OnlyRegs t fs) : t.pom = s.pom := by rw [h.rest]

end Sys2Proof.Machine
end

section
/-! The mailbox of Pommel (R305, R314) and the partner's reset frames (R308). -/

namespace Sys2Proof.Machine

section
variable {s t : State} {r : Req} (hlive : windowDead s F.POM_MB_CMD_CMD.addr = false)
include hlive

theorem mailbox_last : t.OnlyRegs (hostWrite s r F.POM_MB_CMD_CMD.addr t) r.last := hostWrite_classN r hlive (by decide)

/-- The answer of the mailbox changes the answer, the mailbox's registers and BR_LAST alone. -/
theorem mailbox_answer (c d : Nat) (u : State) (hu : u = hostWrite s r F.POM_MB_CMD_CMD.addr (pomAnswer t c d)) :
    u.resp = ⟨c, d⟩ ∧ u.pom = t.pom ∧ u.objs = t.objs ∧ t.RegsBut u (F.POM_MB_RSP_STATUS :: F.POM_MB_DATA_DATA :: r.last) := by
  subst hu
  have hend := mailbox_last (t := pomAnswer t c d) (r := r) hlive
  have hregs : t.RegsBut (pomAnswer t c d) [F.POM_MB_RSP_STATUS, F.POM_MB_DATA_DATA] :=
    ((t.RegsBut_refl _).set (g := F.POM_MB_RSP_STATUS) (by simp) rfl).set (g := F.POM_MB_DATA_DATA) (by simp) rfl
  refine ⟨hend.resp, hend.pom, hend.objs, (hregs.mono ?_).trans (hend.regs.mono ?_)⟩ <;> simp

/-- One answered 0 ends as it stands. -/
theorem mailbox_done (u : State) (d : Nat) : hostWrite s r F.POM_MB_CMD_CMD.addr (pomAnswer u 0 d) = pomAnswer u 0 d :=
  hostWrite_ok r hlive rfl

end

theorem rd_pomAnswer_ne {f : Field} (h : f.key ≠ F.POM_MB_RSP_STATUS.key) (h' : f.key ≠ F.POM_MB_DATA_DATA.key) (s : State) (c d : Nat) :
    (pomAnswer s c d).rd f = s.rd f := (State.rd_wr_ne _ _ h').trans (State.rd_wr_ne _ _ h)

theorem pomAnswer_pom (s : State) (c d : Nat) : (pomAnswer s c d).pom = s.pom := rfl

theorem mailbox_denied {s : State} {r : Req} (hr : r.supOrStitch = false) :
    (∀ m, pomTripReset s r m = s.status 0x0207) ∧ (∀ m p k, pomManual s r m p k = s.status 0x0207) ∧
      (∀ i j v, pomParamWrite s r i j v = s.status 0x0207) ∧ (∀ i j, pomParamRead s r i j = s.status 0x0207) ∧
      (∀ f k, pomInject s r f k = s.status 0x0207) := by
  have hno : (!r.supOrStitch) = true := by rw [hr]; rfl
  exact ⟨fun _ => if_pos hno, fun _ _ _ => if_pos hno, fun _ _ _ => if_pos hno, fun _ _ => if_pos hno, fun _ _ => if_pos hno⟩

theorem mailbox_refused {s : State} {r : Req} {m : BitVec 18} {m4 : BitVec 4} {p : Fin 8} {k : BitVec 4} {i j : BitVec 8} {v : Word} {f : Bool}
    {c : Instr} (hlive : windowDead s F.POM_MB_CMD_CMD.addr = false)
    (hc : c = .tripReset r m ∨ c = .manualTrip r m4 p k ∨ c = .paramWrite r i j v ∨ c = .paramRead r i j ∨ c = .injectNow r f k)
    (hr : r.supOrStitch = false) : Ends c s fun t => s.Refused t r 0x0207 := by
  have href := hostWrite_refused (c := 0x0207) r hlive (by decide)
  obtain ⟨hreset, hmanual, hwrite, hread, hinject⟩ := mailbox_denied (s := s) hr
  obtain rfl | rfl | rfl | rfl | rfl := hc
  · exact ⟨_, next_hostWrite (hreset _), href⟩
  · exact ⟨_, next_hostWrite (hmanual _ _ _), href⟩
  · exact ⟨_, next_hostWrite (hwrite _ _ _), href⟩
  · exact ⟨_, next_hostWrite (hread _ _), href⟩
  · exact ⟨_, next_hostWrite (hinject _ _), href⟩

section
variable {s : State} {r : Req} (hr : r.supOrStitch = true)
include hr

theorem tripReset_denied {m : Nat} (h : s.rd F.POM_STAT_RUN = 0 ∨ resetAllowed s m = false) : pomTripReset s r m = pomAnswer s 0x0303 0 := by
  rw [pomTripReset, if_neg (by simp [hr]), if_pos]
  obtain h | h := h <;> simp [State.rdB, h]

/-- The state with the latches that a reset of the functions in `m` leaves. -/
def latchesKept (s : State) (m : Nat) : State :=
  let l := s.pom.latches.filter fun e => !m.testBit e.1
  latchSync { s with pom := { s.pom with latches := l, saved := if flashOk s then l else s.pom.saved } }

/-- What follows a reset of trips: the outputs follow, the frame leaves and the record is posted. -/
def resetSent (s : State) : State := pomRecord (pomSend (followAll s) 4 0 0 0xFFFF 0) 2 0 0xFFFF 0

theorem tripReset_allowed {m : Nat} (hrun : s.rd F.POM_STAT_RUN = 1) (h : resetAllowed s m = true) :
    pomTripReset s r m = pomAnswer (resetSent (latchesKept s m)) 0 0 := by
  rw [pomTripReset, if_neg (by simp [hr]), if_neg (by simp [State.rdB, hrun, h]), latchesKept, resetSent]

theorem paramWrite_mode {idx sub v : Nat} (h : s.mode ≠ mSERVICE) : pomParamWrite s r idx sub v = pomAnswer s 0x0208 0 := by
  simp [pomParamWrite, hr, h]

theorem paramWrite_range {idx sub v e : Nat} (hm : s.mode = mSERVICE) (h : pomParamCheck idx sub v = e) (he : e ≠ 0) :
    pomParamWrite s r idx sub v = pomAnswer s e 0 := by
  simp [pomParamWrite, hr, hm, h, he]

theorem paramWrite_pends {idx sub v : Nat} (hm : s.mode = mSERVICE) (h : pomParamCheck idx sub v = 0) (hreg : pomParamReg idx sub = none) :
    pomParamWrite s r idx sub v = pomAnswer { s with pom := { s.pom with pend := s.pom.pend ++ [(objKey idx sub, v)] } } 0 0 := by
  simp [pomParamWrite, hr, hm, h, hreg]

theorem paramWrite_register {idx sub v : Nat} {f : Field} (hm : s.mode = mSERVICE) (h : pomParamCheck idx sub v = 0)
    (hreg : pomParamReg idx sub = some f) : pomParamWrite s r idx sub v = pomAnswer (s.wr f v) 0 0 := by
  simp [pomParamWrite, hr, hm, h, hreg]

theorem paramRead_ok {idx sub : Nat} (h : pomParamCheck idx sub (pomParam s idx sub) = 0) :
    pomParamRead s r idx sub = pomAnswer s 0 (pomParam s idx sub) := by
  simp [pomParamRead, hr, h]

end

/-- No register that mirrors a parameter belongs to the mailbox's answer. -/
theorem pomParamReg_ne {idx sub : Nat} {f : Field} (h : pomParamReg idx sub = some f) :
    f.key ≠ F.POM_MB_RSP_STATUS.key ∧ f.key ≠ F.POM_MB_DATA_DATA.key := by
  unfold pomParamReg at h
  split at h <;> cases h <;> decide

theorem resetSent_within (s : State) : Within tripSentMask s (resetSent s) :=
  pomRecord_within (by decide) (pomSend_within (by decide) (followAll_within (by decide) (Within.refl _ _)))

theorem resetSent_latches (s : State) : (resetSent s).pom.latches = s.pom.latches := by
  rw [resetSent, pomRecord_pom, pomSend_pom, followAll_pom]

theorem tripReset_cleared {s : State} {r : Req} {m : BitVec 18} (hlive : windowDead s F.POM_MB_CMD_CMD.addr = false) (hr : r.supOrStitch = true)
    (hrun : s.rd F.POM_STAT_RUN = 1) (h : resetAllowed s m.toNat = true) : Ends (.tripReset r m) s fun t =>
      t.resp = ⟨0, 0⟩ ∧ t.pom.latches = (s.pom.latches.filter fun e => !m.toNat.testBit e.1) ∧
        t.rd F.POM_STAT_SLS_ON = s.rd F.POM_STAT_SLS_ON := by
  have hop : exec (.tripReset r m) s = .next (hostWrite s r F.POM_MB_CMD_CMD.addr (pomTripReset s r m.toNat)) := rfl
  rw [tripReset_allowed hr hrun h, mailbox_done hlive] at hop
  refine ⟨_, hop, rfl, ?_, ?_⟩
  · rw [pomAnswer_pom, resetSent_latches]
    rfl
  · rw [rd_pomAnswer_ne (by decide) (by decide), (resetSent_within _).rd_eq (f := F.POM_STAT_SLS_ON) rfl (by decide) (by decide)]
    exact rd_latchSync_ne (g := F.POM_STAT_SLS_ON) rfl (by decide) (by decide) _

theorem exec_mirrorResetRx (s : State) (b : List Byte) : exec (.mirrorResetRx b) s = .next (if byteNat b 0 / 16 == 4 then
    { s with pom := { s.pom with mirrorSeqs := s.pom.mirrorSeqs.erase (byteNat b 0 % 16) } } else s) := rfl

/-- Settles O39. -/
theorem pommelMailbox : Obligations.PommelMailbox := by
  refine ⟨fun s r m m4 p k i j v f c hlive hc hr => mailbox_refused hlive hc hr, fun s r m hlive hr h => ?_,
    fun s r m hlive hr hrun h => tripReset_cleared hlive hr hrun h, fun s r m p k f c hlive hc hr hrun => ?_, fun s r i j v hlive hr hm => ?_,
    fun s r i j v e hlive hr hm h he => ?_, fun s r i j v hlive hr hm h hreg => ?_, fun s r i j v f hlive hr hm h hreg => ?_,
    fun s r i j hlive hr h => ?_, fun s r k hlive hr hrun hsplit => ?_, fun s b h => ?_, fun s b h => ?_⟩
  · obtain ⟨hresp, hpom, -, hregs⟩ := mailbox_answer (t := s) (r := r) hlive 0x0303 0 _ rfl
    exact ⟨_, next_hostWrite (tripReset_denied hr h), hresp, hpom, hregs⟩
  · have hstop : (!s.rdB F.POM_STAT_RUN) = true := by simp [State.rdB, hrun]
    have hans : ∃ t, exec c s = .next t ∧ t = hostWrite s r F.POM_MB_CMD_CMD.addr (pomAnswer s 0x0303 0) := by
      obtain rfl | rfl := hc
      · have hm : ¬ (16 ≤ m.toNat ∨ 8 ≤ p.val) := by
          have := m.isLt
          omega
        exact ⟨_, rfl, congrArg _ (by rw [pomManual, if_neg (by simp [hr]), if_neg hm, if_pos hstop])⟩
      · exact ⟨_, rfl, congrArg _ (by rw [pomInject, if_neg (by simp [hr]), if_pos hstop])⟩
    obtain ⟨t, hexec, rfl⟩ := hans
    obtain ⟨hresp, hpom, -, hregs⟩ := mailbox_answer (t := s) (r := r) hlive 0x0303 0 _ rfl
    exact ⟨_, hexec, hresp, hpom, hregs⟩
  · obtain ⟨hresp, hpom, hobjs, -⟩ := mailbox_answer (t := s) (r := r) hlive 0x0208 0 _ rfl
    exact ⟨_, next_hostWrite (paramWrite_mode hr hm), hresp, hpom, hobjs⟩
  · obtain ⟨hresp, hpom, hobjs, -⟩ := mailbox_answer (t := s) (r := r) hlive e 0 _ rfl
    exact ⟨_, next_hostWrite (paramWrite_range hr hm h he), hresp, hpom, hobjs⟩
  · exact ⟨_, (next_hostWrite (paramWrite_pends hr hm h hreg)).trans (congrArg _ (mailbox_done hlive _ 0)), rfl, rfl⟩
  · refine ⟨_, (next_hostWrite (paramWrite_register hr hm h hreg)).trans (congrArg _ (mailbox_done hlive _ 0)), rfl, ?_, rfl⟩
    obtain ⟨hst, hdata⟩ := pomParamReg_ne hreg
    exact (rd_pomAnswer_ne hst hdata ..).trans (State.rd_wr_self ..)
  · refine ⟨_, (next_hostWrite (paramRead_ok hr h)).trans (congrArg _ (mailbox_done hlive _ _)), rfl, rfl, ?_⟩
    exact ((s.RegsBut_refl _).set (g := F.POM_MB_RSP_STATUS) (by simp) rfl).set (g := F.POM_MB_DATA_DATA) (by simp) rfl
  · have hop : pomInject s r false k = pomAnswer (injection s false false k) 0 0 := by
      rw [pomInject, if_neg (by simp [hr]), if_neg (by simp [State.rdB, hrun])]
      rfl
    rw [service_injection hrun hsplit] at hop
    refine ⟨_, (next_hostWrite hop).trans (congrArg _ (mailbox_done hlive _ _)), rfl, rfl, ?_⟩
    exact (((s.RegsBut_refl _).set (g := F.POM_INJ_CNT_PASSES) (by simp) rfl).set (g := F.POM_MB_RSP_STATUS) (by simp) rfl).set
      (g := F.POM_MB_DATA_DATA) (by simp) rfl
  · exact (exec_mirrorResetRx s b).trans (congrArg _ (if_neg (by simpa using h)))
  · exact (exec_mirrorResetRx s b).trans (congrArg _ (if_pos (by simpa using h)))

end Sys2Proof.Machine
end

section
/-! The operations on one load-switch channel (chapter 13): what each writes of its own channel and keeps of the others. -/

namespace Sys2Proof.Machine

/-! ## Fields that an operation on channel `m` does not write -/

/-- The fields, faults apart, that the operations on channel `m` write. -/
def lsWritten (m : Nat) : List Field :=
  [F.LS_STAT_STATE m, F.LS_STAT_SEG m, F.LS_STAT_LIMITING m, F.LS_STAT_EXT_DRIVEN m, F.LS_STAT_UV_HELD m, F.LS_STAT_RETRIES m,
    F.LS_CNT_CUT_CNT m, F.LS_CNT_ON_CNT m, F.LS_ON_MAP_ON, F.LS_FLT_MAP_FLT]

/-- A field of the load-switch window that the operations on channel `m` leave: it lies in neither map nor in LS_FLT(m), and
of LS_STAT(m) and LS_CNT(m) it is LOW, SHARED, MEMBER or OPEN_CNT. -/
def LsSpared (m : Nat) (f : Field) : Prop :=
  Blk f 48 ∧ f.key / 32 ≠ 0x20700004 ∧ f.key / 32 ≠ 0x20700008 ∧ f.key / 32 ≠ 0x2070100C + 0x40 * min m 24 ∧
    (f.key / 32 = 0x20701008 + 0x40 * min m 24 → f.key % 32 = 7 ∨ f.key % 32 = 8 ∨ f.key % 32 = 10) ∧
    (f.key / 32 = 0x20701020 + 0x40 * min m 24 → f.key % 32 = 8)

theorem LsSpared.ne_flt {m : Nat} {f : Field} (h : LsSpared m f) (i : Nat) : f.key ≠ (lsFltBit m i).key := by
  obtain ⟨-, -, -, hf, -⟩ := h
  intro e
  rw [e] at hf
  simp only [Field.key, lsFltBit, F.LS_FLT_SC] at hf
  omega

theorem LsSpared.ne {m : Nat} {f : Field} (h : LsSpared m f) : ∀ g ∈ lsWritten m, f.key ≠ g.key := by
  obtain ⟨-, hon, hflt, -, hstat, hcnt⟩ := h
  simp only [lsWritten, List.forall_mem_cons, Field.key, F.LS_STAT_STATE, F.LS_STAT_SEG, F.LS_STAT_LIMITING, F.LS_STAT_EXT_DRIVEN,
    F.LS_STAT_UV_HELD, F.LS_STAT_RETRIES, F.LS_CNT_CUT_CNT, F.LS_CNT_ON_CNT, F.LS_ON_MAP_ON, F.LS_FLT_MAP_FLT] at *
  refine ⟨?_, ?_, ?_, ?_, ?_, ?_, ?_, ?_, ?_, ?_, by simp⟩ <;> omega

section
variable (m n : Nat)

theorem lsSpared_member : LsSpared m (F.LS_STAT_MEMBER n) :=
  ⟨by simp, by simp only [Field.key, F.LS_STAT_MEMBER]; omega⟩
theorem lsSpared_shared : LsSpared m (F.LS_STAT_SHARED n) :=
  ⟨by simp, by simp only [Field.key, F.LS_STAT_SHARED]; omega⟩
theorem lsSpared_par : LsSpared m (F.LS_CFG_PAR n) :=
  ⟨by simp, by simp only [Field.key, F.LS_CFG_PAR]; omega⟩
theorem lsSpared_profile : LsSpared m (F.LS_CFG_PROFILE n) :=
  ⟨by simp, by simp only [Field.key, F.LS_CFG_PROFILE]; omega⟩
theorem lsSpared_on : LsSpared m (F.LS_REQ_ON n) :=
  ⟨by simp, by simp only [Field.key, F.LS_REQ_ON]; omega⟩
theorem lsSpared_hot : LsSpared m (F.LS_BANK_HOT n) :=
  ⟨by simp, by simp only [Field.key, F.LS_BANK_HOT]; omega⟩

variable {m n} (hn : n < 24) (h : n ≠ m)
include hn h

theorem lsSpared_state : LsSpared m (F.LS_STAT_STATE n) :=
  ⟨by simp, by simp only [Field.key, F.LS_STAT_STATE]; omega⟩
theorem lsSpared_seg : LsSpared m (F.LS_STAT_SEG n) :=
  ⟨by simp, by simp only [Field.key, F.LS_STAT_SEG]; omega⟩

end

/-! ## Frames -/

/-- The parts that an operation on a channel may change. -/
def lsMask : Nat := partsMask [.mem, .out, .irqHeld, .q, .ls, .lsKept0, .lsKept1, .rFurrow, .rLs, .upd, .furBits]

/-- What an operation on channel `m` keeps: the fields it does not write, the sequencers and the places in the map of conducting
channels of the others. -/
structure LsFrame (m : Nat) (s t : State) : Prop where
  regs : ∀ f, LsSpared m f → t.rd f = s.rd f
  chans : ∀ j, j ≠ m → t.lsCh j = s.lsCh j
  map : ∀ j < 24, j ≠ m → t.bit F.LS_ON_MAP_ON j = s.bit F.LS_ON_MAP_ON j

theorem LsFrame.refl (m : Nat) (s : State) : LsFrame m s s := ⟨fun _ _ => rfl, fun _ _ => rfl, fun _ _ _ => rfl⟩

section
variable {m : Nat} {s t u : State}

theorem LsFrame.trans (h : LsFrame m s t) (h' : LsFrame m t u) : LsFrame m s u :=
  ⟨fun f hf => (h'.regs f hf).trans (h.regs f hf), fun j hj => (h'.chans j hj).trans (h.chans j hj),
    fun j hj hm => (h'.map j hj hm).trans (h.map j hj hm)⟩

/-- What touches neither the window nor the sequencers keeps everything. -/
theorem LsFrame.within {K : Nat} (h : LsFrame m s t) (hw : Within K t u) (hK : K.testBit 48 = false) (hls : K.testBit Part.ls.bit = false) :
    LsFrame m s u := by
  have hrd : ∀ f, Blk f 48 → u.rd f = t.rd f := fun f hf => hw.rd_eq hf (by decide) hK
  refine h.trans ⟨fun f hf => hrd f hf.1, fun j _ => ?_, fun j _ _ => State.bit_congr (hrd F.LS_ON_MAP_ON rfl) _⟩
  rw [State.lsCh, State.lsCh, hw.same .ls hls]

theorem LsFrame.record (h : LsFrame m s t) (type chan cause n : Nat) : LsFrame m s (lsRecord t type chan cause n) :=
  h.within (K := partsMask [.mem, .out, .irqHeld, .q, .lsKept0, .lsKept1, .rFurrow, .upd, .furBits])
    (lsRecord_within (by decide) (Within.refl _ t)) (by decide) (by decide)

theorem LsFrame.setLs (h : LsFrame m s t) (c : LsCh) : LsFrame m s (t.setLs m c) :=
  h.trans ⟨fun _ _ => rfl, fun _ hj => SMap.get_set_ne _ _ _ hj, fun _ _ _ => rfl⟩

/-- A write of a field that the operations on the channel write, the map of conducting channels apart. -/
theorem LsFrame.wr (h : LsFrame m s t) {g : Field} (hg : g ∈ lsWritten m) (hmap : F.LS_ON_MAP_ON.key ≠ g.key) (v : Nat) :
    LsFrame m s (t.wr g v) :=
  h.trans ⟨fun _ hf => State.rd_wr_ne _ _ (hf.ne g hg), fun _ _ => rfl, fun _ _ _ => State.bit_congr (State.rd_wr_ne _ _ hmap) _⟩

theorem LsFrame.incSat (h : LsFrame m s t) {g : Field} (hg : g ∈ lsWritten m) (hmap : F.LS_ON_MAP_ON.key ≠ g.key) :
    LsFrame m s (t.incSat g) :=
  h.trans ⟨fun _ hf => State.rd_incSat_ne _ (hf.ne g hg), fun _ _ => rfl, fun _ _ _ => State.bit_congr (State.rd_incSat_ne _ hmap) _⟩

theorem LsFrame.setOn (h : LsFrame m s t) : LsFrame m s (t.setBit F.LS_ON_MAP_ON m) := by
  refine h.trans ⟨fun f hf => State.rd_setBit_ne _ _ (hf.ne _ (by simp [lsWritten])), fun _ _ => rfl, fun j hj hm => ?_⟩
  rw [State.bit_setBit]
  simp [F.LS_ON_MAP_ON, hj, Ne.symm hm]

theorem LsFrame.clrOn (h : LsFrame m s t) : LsFrame m s (t.clrBit F.LS_ON_MAP_ON m) := by
  refine h.trans ⟨fun f hf => State.rd_clrBit_ne _ _ (hf.ne _ (by simp [lsWritten])), fun _ _ => rfl, fun j hj hm => ?_⟩
  rw [State.bit_clrBit]
  simp [F.LS_ON_MAP_ON, hj, Ne.symm hm]

theorem LsFrame.fault (h : LsFrame m s t) (i : Nat) : LsFrame m s (lsFault t m i) := by
  have hw : LsFrame m s (t.wr (lsFltBit m i) 1) := by
    refine h.trans ⟨fun f hf => State.rd_wr_ne _ _ (hf.ne_flt i), fun _ _ => rfl, fun j _ _ => State.bit_congr (State.rd_wr_ne _ _ ?_) _⟩
    simp only [Field.key, lsFltBit, F.LS_ON_MAP_ON, F.LS_FLT_SC]
    omega
  exact hw.trans ⟨fun f hf => State.rd_putBit_ne _ _ _ (hf.ne _ (by simp [lsWritten])), fun _ _ => by rw [lsFault, lsFltSync, State.putBit]; split <;> rfl,
    fun j _ _ => State.bit_congr (State.rd_putBit_ne _ _ _ (by decide)) _⟩

theorem LsFrame.emit (h : LsFrame m s t) (o : Out) : LsFrame m s (t.emit o) :=
  h.trans ⟨fun _ _ => rfl, fun _ _ => rfl, fun _ _ _ => rfl⟩

end

/-! ## The operations -/

theorem lsOnMap_ne {m : Nat} {g : Field} (hg : g ∈ (lsWritten m).take 8) : F.LS_ON_MAP_ON.key ≠ g.key := by
  revert g
  simp only [lsWritten, List.take, List.forall_mem_cons, Field.key, F.LS_STAT_STATE, F.LS_STAT_SEG, F.LS_STAT_LIMITING, F.LS_STAT_EXT_DRIVEN,
    F.LS_STAT_UV_HELD, F.LS_STAT_RETRIES, F.LS_CNT_CUT_CNT, F.LS_CNT_ON_CNT, F.LS_ON_MAP_ON]
  refine ⟨?_, ?_, ?_, ?_, ?_, ?_, ?_, ?_, by simp⟩ <;> omega

/-- A write of one of the channel's own fields. -/
theorem LsFrame.own {m : Nat} {s t : State} (h : LsFrame m s t) {g : Field} (hg : g ∈ (lsWritten m).take 8) (v : Nat) :
    LsFrame m s (t.wr g v) := h.wr (List.mem_of_mem_take hg) (lsOnMap_ne hg) v

theorem LsFrame.ownInc {m : Nat} {s t : State} (h : LsFrame m s t) {g : Field} (hg : g ∈ (lsWritten m).take 8) :
    LsFrame m s (t.incSat g) := h.incSat (List.mem_of_mem_take hg) (lsOnMap_ne hg)

/-- The channel switched off into `st`, before the change of its stage is reported. -/
def lsOffed (s : State) (m st : Nat) : State :=
  let s := s.setLs m { s.lsCh m with running := false }
  let s := (s.wr (F.LS_STAT_STATE m) st).wr (F.LS_STAT_LIMITING m) 0
  (s.clrBit F.LS_ON_MAP_ON m).wr (F.LS_STAT_UV_HELD m) 0

theorem lsSwitchOff_eq (s : State) (m st : Nat) : lsSwitchOff s m st =
    if lsConducts (lsState s m) then (lsOffed s m st).emit (.stage true m true s.stamp) else lsOffed s m st := rfl

theorem lsOffed_frame (s : State) (m st : Nat) : LsFrame m s (lsOffed s m st) :=
  ((((LsFrame.refl m s).setLs _).own (g := F.LS_STAT_STATE m) (by simp [lsWritten]) st).own (g := F.LS_STAT_LIMITING m)
    (by simp [lsWritten]) 0).clrOn.own (g := F.LS_STAT_UV_HELD m) (by simp [lsWritten]) 0

theorem lsSwitchOff_frame (s : State) (m st : Nat) : LsFrame m s (lsSwitchOff s m st) := by
  rw [lsSwitchOff_eq]
  split
  · exact (lsOffed_frame s m st).emit _
  · exact lsOffed_frame s m st

/-- The sequencer of a channel that has just been switched on. -/
def lsStarted (s : State) (m : Nat) : LsCh :=
  { s.lsCh m with prof := lsProfile s m, running := true, segAt := s.now, olSince := none, stagger := false, retryDue := false,
                  hotOff := false, uvOff := false }

/-- The channel with its sequencer started, and its retry counted where it is one. -/
def lsPrimed (s : State) (m : Nat) : State :=
  let t := s.setLs m (lsStarted s m)
  if (s.lsCh m).retryDue then lsRecord (t.incSat (F.LS_STAT_RETRIES m)) 2 m 0xFF m else t

theorem lsSwitchOn_eq (s : State) (m : Nat) : lsSwitchOn s m =
    let t := ((lsPrimed s m).wr (F.LS_STAT_SEG m) 0).wr (F.LS_STAT_EXT_DRIVEN m) 0
    (((t.wr (F.LS_STAT_STATE m) (lsOnState t m)).setBit F.LS_ON_MAP_ON m).incWrap (F.LS_CNT_ON_CNT m)).emit
      (.stage true m true (((t.wr (F.LS_STAT_STATE m) (lsOnState t m)).setBit F.LS_ON_MAP_ON m).incWrap (F.LS_CNT_ON_CNT m)).stamp) := rfl

theorem lsPrimed_frame (s : State) (m : Nat) : LsFrame m s (lsPrimed s m) := by
  have h : LsFrame m s (s.setLs m (lsStarted s m)) := (LsFrame.refl m s).setLs _
  unfold lsPrimed
  dsimp only
  split
  · exact (h.ownInc (g := F.LS_STAT_RETRIES m) (by simp [lsWritten])).record ..
  · exact h

theorem lsSwitchOn_frame (s : State) (m : Nat) : LsFrame m s (lsSwitchOn s m) := by
  rw [lsSwitchOn_eq]
  have h := ((lsPrimed_frame s m).own (g := F.LS_STAT_SEG m) (by simp [lsWritten]) 0).own (g := F.LS_STAT_EXT_DRIVEN m) (by simp [lsWritten]) 0
  exact (((h.own (g := F.LS_STAT_STATE m) (by simp [lsWritten]) _).setOn).own (g := F.LS_CNT_ON_CNT m) (by simp [lsWritten]) _).emit _

theorem LsFrame.switchOff {m : Nat} {s t : State} (h : LsFrame m s t) (st : Nat) : LsFrame m s (lsSwitchOff t m st) :=
  h.trans (lsSwitchOff_frame t m st)

theorem lsLatch_frame (s : State) (m cause : Nat) : LsFrame m s (lsLatch s m cause) := (lsSwitchOff_frame s m 4).record ..

theorem lsUpdate_frame (s : State) (m : Nat) : LsFrame m s (lsUpdate m s) := by
  have hst : ∀ v, LsFrame m s (s.wr (F.LS_STAT_STATE m) v) := (LsFrame.refl m s).own (g := F.LS_STAT_STATE m) (by simp [lsWritten])
  unfold lsUpdate
  extract_lets st c ov req want waits
  split
  · exact LsFrame.refl m s
  split
  · split
    · exact hst _
    split
    · exact ((LsFrame.refl m s).fault 6).trans (lsLatch_frame ..)
    split
    · exact hst _
    · exact lsSwitchOn_frame s m
  · exact lsSwitchOff_frame s m _

theorem lsUnlatch_frame (s : State) (m : Nat) : LsFrame m s (lsUnlatch s m) := by
  have h : LsFrame m s (s.wr (F.LS_STAT_RETRIES m) 0) := (LsFrame.refl m s).own (g := F.LS_STAT_RETRIES m) (by simp [lsWritten]) 0
  unfold lsUnlatch
  dsimp only
  split
  · exact (h.own (g := F.LS_STAT_STATE m) (by simp [lsWritten]) 0).record ..
  · exact h

theorem lsDrop_frame (s : State) (m : Nat) : LsFrame m s (lsDrop s m) := by
  have h := lsUnlatch_frame s m
  unfold lsDrop
  extract_lets t u
  have hu : LsFrame m s u := by
    simp only [u]
    split
    · exact h.own (g := F.LS_STAT_STATE m) (by simp [lsWritten]) 0
    · exact h
  exact hu.setLs _

/-- The channel as a cut-off with `cause` finds it: the fault set, the cut-off counted, timed and recorded. -/
def lsCutNoted (s : State) (cause m : Nat) : State :=
  let s := (lsFault s m cause).incSat (F.LS_CNT_CUT_CNT m)
  lsRecord (s.setLs m { s.lsCh m with cutAt := s.now }) 1 m cause m

/-- How a cut-off that is noted ends. -/
def lsCutEnd (s : State) (cause m : Nat) : State :=
  if cause == 5 || cause == 6 || s.mode == mDORMANCY then lsLatch s m cause
  else if cause == 4 then
    let s := lsSwitchOff s m (if lsWanted s m then 7 else 0)
    s.setLs m { s.lsCh m with hotOff := true, retryDue := false }
  else if s.rd (F.LS_STAT_RETRIES m) < (s.lsCh m).prof.retry then lsSwitchOff s m 3
  else lsLatch s m cause

theorem lsCutOne_eq (s : State) (cause m : Nat) : lsCutOne cause m s =
    if !lsConducts (lsState s m) then s else lsCutEnd (lsCutNoted s cause m) cause m := rfl

theorem lsCutNoted_frame (s : State) (cause m : Nat) : LsFrame m s (lsCutNoted s cause m) :=
  ((((LsFrame.refl m s).fault cause).ownInc (g := F.LS_CNT_CUT_CNT m) (by simp [lsWritten])).setLs _).record ..

theorem lsCutEnd_frame (s : State) (cause m : Nat) : LsFrame m s (lsCutEnd s cause m) := by
  unfold lsCutEnd
  split
  · exact lsLatch_frame ..
  split
  · exact (lsSwitchOff_frame ..).setLs _
  split
  · exact lsSwitchOff_frame ..
  · exact lsLatch_frame ..

theorem lsCutOne_frame (s : State) (cause m : Nat) : LsFrame m s (lsCutOne cause m s) := by
  rw [lsCutOne_eq]
  split
  · exact LsFrame.refl m s
  · exact (lsCutNoted_frame ..).trans (lsCutEnd_frame ..)

/-! ## What one operation does to its own channel -/

section
variable (s : State) {m : Nat}

theorem lsState_wr (m v : Nat) : lsState (s.wr (F.LS_STAT_STATE m) v) m = v % 8 := State.rd_wr_self ..

/-- A write of a field of the map or of the channel's status beside STATE keeps STATE. -/
theorem lsState_wr_ne {g : Field} (v : Nat) (h : (F.LS_STAT_STATE m).key ≠ g.key) : lsState (s.wr g v) m = lsState s m := s.rd_wr_ne v h

theorem rd_lsRecord {f : Field} (hf : Blk f 48) (type chan cause n : Nat) : (lsRecord s type chan cause n).rd f = s.rd f :=
  Within.rd_eq (K := partsMask [.mem, .out, .irqHeld, .q, .lsKept0, .lsKept1, .rFurrow, .upd, .furBits])
    (lsRecord_within (by decide) (Within.refl _ s)) hf (by decide) (by decide)

theorem lsState_record (m type chan cause n : Nat) : lsState (lsRecord s type chan cause n) m = lsState s m := rd_lsRecord s (by simp) ..

theorem lsCh_record (m type chan cause n : Nat) : (lsRecord s type chan cause n).lsCh m = s.lsCh m := by
  have h := Within.same (K := partsMask [.mem, .out, .irqHeld, .q, .lsKept0, .lsKept1, .rFurrow, .upd, .furBits])
    (lsRecord_within (a2 := type) (a3 := chan) (a4 := cause) (a5 := n) (by decide) (Within.refl _ s)) .ls (by decide)
  rw [State.lsCh, State.lsCh, h]

theorem lsState_setLs (m n : Nat) (c : LsCh) : lsState (s.setLs n c) m = lsState s m := rfl

theorem lsCh_setLs (m : Nat) (c : LsCh) : (s.setLs m c).lsCh m = c := SMap.get_set_self ..

/-- A channel switched off is in the state given, off in the map, its sequencer at rest. -/
theorem lsOffed_shows (m : Nat) {st : Nat} (hst : st < 8) : lsState (lsOffed s m st) m = st ∧
    (lsOffed s m st).bit F.LS_ON_MAP_ON m = false ∧ (lsOffed s m st).lsCh m = { s.lsCh m with running := false } := by
  refine ⟨?_, ?_, lsCh_setLs s m _⟩
  · rw [lsOffed, lsState_wr_ne _ _ (by simp only [Field.key, F.LS_STAT_STATE, F.LS_STAT_UV_HELD]; omega), lsState,
      State.rd_clrBit_ne _ _ (by simp only [Field.key, F.LS_STAT_STATE, F.LS_ON_MAP_ON]; omega),
      State.rd_wr_ne _ _ (by simp only [Field.key, F.LS_STAT_STATE, F.LS_STAT_LIMITING]; omega)]
    exact State.rd_wr_of_lt _ hst
  · rw [lsOffed, State.bit_congr (State.rd_wr_ne _ _ (by simp only [Field.key, F.LS_ON_MAP_ON, F.LS_STAT_UV_HELD]; omega)), State.bit_clrBit]
    simp

theorem lsSwitchOff_shows (m : Nat) {st : Nat} (hst : st < 8) : lsState (lsSwitchOff s m st) m = st ∧
    (lsSwitchOff s m st).bit F.LS_ON_MAP_ON m = false ∧ (lsSwitchOff s m st).lsCh m = { s.lsCh m with running := false } := by
  rw [lsSwitchOff_eq]
  split <;> exact lsOffed_shows s m hst

/-- Switching off writes STATE, LIMITING, UV_HELD and the map alone. -/
theorem rd_lsSwitchOff_ne (m st : Nat) {f : Field} (hs : f.key ≠ (F.LS_STAT_STATE m).key) (hl : f.key ≠ (F.LS_STAT_LIMITING m).key)
    (hu : f.key ≠ (F.LS_STAT_UV_HELD m).key) (hm : f.key ≠ F.LS_ON_MAP_ON.key) : (lsSwitchOff s m st).rd f = s.rd f := by
  have h : (lsOffed s m st).rd f = s.rd f :=
    (State.rd_wr_ne _ _ hu).trans ((State.rd_clrBit_ne _ _ hm).trans ((State.rd_wr_ne _ _ hl).trans (State.rd_wr_ne _ _ hs)))
  rw [lsSwitchOff_eq]
  split <;> exact h

theorem lsLatch_shows (m cause : Nat) : lsState (lsLatch s m cause) m = 4 ∧ (lsLatch s m cause).bit F.LS_ON_MAP_ON m = false ∧
    (lsLatch s m cause).lsCh m = { s.lsCh m with running := false } := by
  obtain ⟨hs, hb, hc⟩ := lsSwitchOff_shows s m (st := 4) (by decide)
  exact ⟨(lsState_record ..).trans hs, (State.bit_congr (rd_lsRecord (f := F.LS_ON_MAP_ON) _ rfl ..) _).trans hb, (lsCh_record ..).trans hc⟩

theorem rd_lsLatch_ne (m cause : Nat) {f : Field} (hb : Blk f 48) (hs : f.key ≠ (F.LS_STAT_STATE m).key)
    (hl : f.key ≠ (F.LS_STAT_LIMITING m).key) (hu : f.key ≠ (F.LS_STAT_UV_HELD m).key) (hm : f.key ≠ F.LS_ON_MAP_ON.key) :
    (lsLatch s m cause).rd f = s.rd f :=
  (rd_lsRecord _ hb ..).trans (rd_lsSwitchOff_ne s m 4 hs hl hu hm)

theorem lsOnState_cases (n : Nat) : lsOnState s n = 6 ∨ lsOnState s n = 1 ∨ lsOnState s n = 2 := by
  unfold lsOnState
  split
  · exact .inl rfl
  · split <;> simp

theorem lsOnState_conducts (n : Nat) : lsConducts (lsOnState s n) = true ∧ lsOnState s n < 8 := by
  obtain h | h | h := lsOnState_cases s n <;> rw [h] <;> decide

theorem lsPrimed_ch (m : Nat) : (lsPrimed s m).lsCh m = lsStarted s m := by
  unfold lsPrimed
  dsimp only
  split
  · exact (lsCh_record ..).trans (lsCh_setLs ..)
  · exact lsCh_setLs ..

/-- A channel switched on conducts from segment 0 of its profile. -/
theorem lsSwitchOn_shows (hm : m < 24) : lsConducts (lsState (lsSwitchOn s m) m) = true ∧ (lsSwitchOn s m).bit F.LS_ON_MAP_ON m = true ∧
    (lsSwitchOn s m).rd (F.LS_STAT_SEG m) = 0 ∧ (lsSwitchOn s m).lsCh m = lsStarted s m := by
  rw [lsSwitchOn_eq]
  extract_lets t
  have hlast : ∀ (u : State) (o : Out) {f : Field}, f.key ≠ F.LS_ON_MAP_ON.key → f.key ≠ (F.LS_CNT_ON_CNT m).key →
      (((u.setBit F.LS_ON_MAP_ON m).incWrap (F.LS_CNT_ON_CNT m)).emit o).rd f = u.rd f := fun u o f hf hf' =>
    (State.rd_incWrap_ne _ hf').trans (State.rd_setBit_ne _ _ hf)
  refine ⟨?_, ?_, ?_, lsPrimed_ch s m⟩
  · obtain ⟨hc, hlt⟩ := lsOnState_conducts t m
    rw [lsState, hlast _ _ (by simp only [Field.key, F.LS_STAT_STATE, F.LS_ON_MAP_ON]; omega)
      (by simp only [Field.key, F.LS_STAT_STATE, F.LS_CNT_ON_CNT]; omega)]
    exact (congrArg lsConducts (State.rd_wr_of_lt _ hlt)).trans hc
  · refine (State.bit_congr (State.rd_incWrap_ne _ (by simp only [Field.key, F.LS_ON_MAP_ON, F.LS_CNT_ON_CNT]; omega)) _).trans ?_
    rw [State.bit_setBit]
    simp [F.LS_ON_MAP_ON, hm]
  · rw [hlast _ _ (by simp only [Field.key, F.LS_STAT_SEG, F.LS_ON_MAP_ON]; omega)
      (by simp only [Field.key, F.LS_STAT_SEG, F.LS_CNT_ON_CNT]; omega), State.rd_wr_ne _ _ (by simp only [Field.key, F.LS_STAT_STATE, F.LS_STAT_SEG]; omega),
      State.rd_wr_ne _ _ (by simp only [Field.key, F.LS_STAT_EXT_DRIVEN, F.LS_STAT_SEG]; omega)]
    exact State.rd_wr_of_lt _ (Nat.two_pow_pos _)

/-- A fault set shows in its bit and in the map of faults, and changes neither STATE nor the sequencer. -/
theorem lsFault_shows (hm : m < 24) {i : Nat} (hi : i < 12) : (lsFault s m i).rd (lsFltBit m i) = 1 ∧
    (lsFault s m i).bit F.LS_FLT_MAP_FLT m = true ∧ lsState (lsFault s m i) m = lsState s m ∧ (lsFault s m i).lsCh m = s.lsCh m := by
  have hbit : (s.wr (lsFltBit m i) 1).rd (lsFltBit m i) = 1 := State.rd_wr_of_lt _ (by simp [lsFltBit, F.LS_FLT_SC])
  have hword : (lsFltWord (s.wr (lsFltBit m i) 1) m != 0) = true := by
    have hb := testBit_bitsWhere (fun i' => (s.wr (lsFltBit m i) 1).rdB (lsFltBit m i')) 12 i
    have hone : (s.wr (lsFltBit m i) 1).rdB (lsFltBit m i) = true := by rw [State.rdB, hbit]; rfl
    rw [hone] at hb
    have hne : lsFltWord (s.wr (lsFltBit m i) 1) m ≠ 0 := fun h0 => by
      rw [lsFltWord] at h0
      rw [h0] at hb
      simp [hi] at hb
    simpa using hne
  have heq : lsFault s m i = (s.wr (lsFltBit m i) 1).setBit F.LS_FLT_MAP_FLT m := by rw [lsFault, lsFltSync, hword]; rfl
  rw [heq]
  refine ⟨(State.rd_setBit_ne _ _ ?_).trans hbit, ?_, (State.rd_setBit_ne _ _ ?_).trans (State.rd_wr_ne _ _ ?_), rfl⟩
  · simp only [Field.key, lsFltBit, F.LS_FLT_SC, F.LS_FLT_MAP_FLT]; omega
  · rw [State.bit_setBit]
    simp [F.LS_FLT_MAP_FLT, hm]
  · simp only [Field.key, F.LS_STAT_STATE, F.LS_FLT_MAP_FLT]; omega
  · simp only [Field.key, F.LS_STAT_STATE, lsFltBit, F.LS_FLT_SC]; omega

theorem rd_lsFault_ne (i : Nat) {f : Field} (hf : f.key ≠ (lsFltBit m i).key) (hm : f.key ≠ F.LS_FLT_MAP_FLT.key) :
    (lsFault s m i).rd f = s.rd f := (State.rd_putBit_ne _ _ _ hm).trans (State.rd_wr_ne _ _ hf)

/-- A channel cut off does not conduct. -/
theorem lsCutOne_open (cause m : Nat) : lsConducts (lsState (lsCutOne cause m s) m) = false := by
  rw [lsCutOne_eq]
  split
  · next h => simpa using h
  · have hlatch : ∀ t : State, lsConducts (lsState (lsLatch t m cause) m) = false := fun t => by rw [(lsLatch_shows t m cause).1]; rfl
    unfold lsCutEnd
    split
    · exact hlatch _
    split
    · have hoff : ∀ t : State, ∀ b : Bool, lsConducts (lsState (lsSwitchOff t m (if b then 7 else 0)) m) = false := fun t b => by
        cases b
        · rw [if_neg (by decide), (lsSwitchOff_shows t m (by decide)).1]; rfl
        · rw [if_pos rfl, (lsSwitchOff_shows t m (by decide)).1]; rfl
      rw [lsState_setLs]
      exact hoff _ _
    split
    · rw [(lsSwitchOff_shows _ m (by decide)).1]; rfl
    · exact hlatch _

/-- What an update leaves of the sequencer of its channel. -/
theorem lsUpdate_ch (m : Nat) : (lsUpdate m s).lsCh m = s.lsCh m ∨ (lsUpdate m s).lsCh m = { s.lsCh m with running := false } ∨
    (lsUpdate m s).lsCh m = lsStarted s m ∧ (s.lsCh m).stagger = false := by
  unfold lsUpdate
  extract_lets st c ov req want waits
  have hoff : ∀ v, (lsSwitchOff s m v).lsCh m = { s.lsCh m with running := false } := fun v => by
    rw [lsSwitchOff_eq]
    split <;> exact lsCh_setLs ..
  split
  · exact .inl rfl
  split
  · split
    · exact .inl rfl
    split
    · refine .inr (.inl ((lsLatch_shows _ m 6).2.2.trans ?_))
      have hf : (lsFault s m 6).lsCh m = s.lsCh m := by
        rw [lsFault, lsFltSync, State.putBit]
        split <;> rfl
      rw [hf]
    split
    · exact .inl rfl
    · next hw =>
      refine .inr (.inr ⟨lsPrimed_ch s m, ?_⟩)
      simp only [waits, c, Bool.or_eq_true, not_or, Bool.not_eq_true] at hw
      exact hw.1.1.1.1
  · exact .inr (.inl (hoff _))

end

/-! ## Groups -/

section
variable {s : State} {n : Nat}

theorem lsLead_self (h : s.rd (F.LS_STAT_MEMBER n) = 0) : lsLead s n = n := by simp [lsLead, State.rdB, h]

theorem lsGroup_single (h : s.rd (F.LS_CFG_PAR n) = 0) : lsGroup s n = [n] := by simp [lsGroup, h]

theorem mem_lsGroup (s : State) (n : Nat) : n ∈ lsGroup s n := by
  unfold lsGroup
  split <;> simp

theorem lsCut_single (hm : s.rd (F.LS_STAT_MEMBER n) = 0) (hp : s.rd (F.LS_CFG_PAR n) = 0) (cause : Nat) :
    lsCut s n cause = lsCutOne cause n s := by
  rw [lsCut, lsLead_self hm, lsGroup_single hp]
  rfl

theorem lsFollow_single (hp : s.rd (F.LS_CFG_PAR n) = 0) : lsFollow s n = lsUpdate n s := by
  rw [lsFollow, lsGroup_single hp]
  rfl

end

end Sys2Proof.Machine
end

section
/-! The protection of the load switches (R318, R323-R332). -/

namespace Sys2Proof.Machine

/-! ## Groups of operations -/

/-- What an operation on other channels keeps of channel `n`. -/
def LsOther (n : Nat) (s t : State) : Prop :=
  lsState t n = lsState s n ∧ t.rd (F.LS_STAT_SEG n) = s.rd (F.LS_STAT_SEG n) ∧ t.bit F.LS_ON_MAP_ON n = s.bit F.LS_ON_MAP_ON n ∧
    t.lsCh n = s.lsCh n

theorem LsOther.trans {n : Nat} {s t u : State} (h : LsOther n s t) (h' : LsOther n t u) : LsOther n s u := by
  obtain ⟨hs, hg, hb, hc⟩ := h
  obtain ⟨hs', hg', hb', hc'⟩ := h'
  exact ⟨hs'.trans hs, hg'.trans hg, hb'.trans hb, hc'.trans hc⟩

theorem LsFrame.other {m n : Nat} {s t : State} (h : LsFrame m s t) (hn : n < 24) (hne : n ≠ m) : LsOther n s t :=
  ⟨h.regs _ (lsSpared_state hn hne), h.regs _ (lsSpared_seg hn hne), h.map n hn hne, h.chans n hne⟩

theorem foldl_other {f : State → Nat → State} (hf : ∀ t m, LsFrame m t (f t m)) {n : Nat} (hn : n < 24) (s : State) (l : List Nat)
    (hl : ∀ m ∈ l, n ≠ m) : LsOther n s (l.foldl f s) := by
  induction l generalizing s with
  | nil => exact ⟨rfl, rfl, rfl, rfl⟩
  | cons m r ih =>
    exact ((hf s m).other hn (hl m List.mem_cons_self)).trans (ih _ fun j hj => hl j (List.mem_cons_of_mem m hj))

theorem lsGroup_cons (s : State) (n : Nat) : ∃ r, lsGroup s n = n :: r ∧ ∀ m ∈ r, n ≠ m := by
  unfold lsGroup
  split
  · exact ⟨[n + 1], rfl, by simp⟩
  · exact ⟨[n + 1, n + 2], rfl, by simp⟩
  · exact ⟨[], rfl, by simp⟩

/-- A field that no channel's operations write. -/
theorem rd_foldl_ls {f : State → Nat → State} (hf : ∀ t m, LsFrame m t (f t m)) {g : Field} (hg : ∀ m, LsSpared m g) (s : State) (l : List Nat) :
    (l.foldl f s).rd g = s.rd g :=
  foldl_keeps (State.rd · g) (fun t m => (hf t m).regs g (hg m)) s l

theorem restate_frame (s : State) (m v : Nat) (c : LsCh) : LsFrame m s ((s.wr (F.LS_STAT_STATE m) v).setLs m c) :=
  ((LsFrame.refl m s).own (g := F.LS_STAT_STATE m) (by simp [lsWritten]) v).setLs c

theorem lsGo_spared {g : Field} (hg : ∀ m, LsSpared m g) (s : State) (n : Nat) : (lsGo s n).rd g = s.rd g :=
  rd_foldl_ls lsSwitchOn_frame hg ..

theorem lsStaggered_spared {g : Field} (hg : ∀ m, LsSpared m g) (s : State) (n : Nat) (retry : Bool) : (lsStaggered s n retry).rd g = s.rd g := by
  have h₁ := rd_foldl_ls (f := fun t m => (t.wr (F.LS_STAT_STATE m) 0).setLs m { t.lsCh m with retryDue := retry })
    (fun t m => restate_frame t m 0 _) hg s (lsGroup s (lsLead s n))
  unfold lsStaggered
  dsimp only
  split
  · exact (lsGo_spared hg ..).trans h₁
  · exact (rd_foldl_ls (fun t m => ((LsFrame.refl m t).setLs _).trans (lsUpdate_frame _ m)) hg ..).trans h₁

/-! ## Cut-offs -/

section
variable {s : State} {n : Nat} (hm : s.rd (F.LS_STAT_MEMBER n) = 0) (hp : s.rd (F.LS_CFG_PAR n) = 0)
include hm hp

theorem lsCut_off (h : lsConducts (lsState s n) = false) (cause : Nat) : lsCut s n cause = s := by
  rw [lsCut_single hm hp, lsCutOne_eq, if_pos (by simp [h])]

theorem lsCut_on (h : lsConducts (lsState s n) = true) (cause : Nat) : lsCut s n cause = lsCutEnd (lsCutNoted s cause n) cause n := by
  rw [lsCut_single hm hp, lsCutOne_eq, if_neg (by simp [h])]

end

/-- What a cut-off notes: its fault; nothing else of the channel's that decides how it ends. -/
theorem lsCutNoted_shows (s : State) {n cause : Nat} (hn : n < 24) (hc : cause < 12) :
    (lsCutNoted s cause n).rd (lsFltBit n cause) = 1 ∧ (lsCutNoted s cause n).bit F.LS_FLT_MAP_FLT n = true ∧
      (lsCutNoted s cause n).rd (F.LS_STAT_RETRIES n) = s.rd (F.LS_STAT_RETRIES n) ∧
      ((lsCutNoted s cause n).lsCh n).prof = (s.lsCh n).prof ∧ (lsCutNoted s cause n).mode = s.mode := by
  obtain ⟨hbit, hmap, -, hch⟩ := lsFault_shows s hn hc
  have hrd : ∀ f, Blk f 48 → f.key ≠ (F.LS_CNT_CUT_CNT n).key → (lsCutNoted s cause n).rd f = (lsFault s n cause).rd f := fun f hf hne =>
    (rd_lsRecord _ hf ..).trans (State.rd_incSat_ne _ hne)
  have hmode : (lsCutNoted s cause n).mode = s.mode := by
    have h₁ : Within lsMask s (lsFault s n cause) := lsFault_within (by decide) (Within.refl _ s)
    have h₂ : Within lsMask s ((lsFault s n cause).incSat (F.LS_CNT_CUT_CNT n)) :=
      Within.incSat (i := 48) (by simp) (by decide) (by decide) (by decide) h₁
    exact Within.mode_eq (K := lsMask) (lsRecord_within (by decide) (State_setLs_within (by decide) h₂)) (by decide)
  refine ⟨(hrd _ ?_ ?_).trans hbit, (State.bit_congr (hrd F.LS_FLT_MAP_FLT rfl ?_) _).trans hmap, (hrd _ (by simp) ?_).trans (rd_lsFault_ne _ _ ?_ ?_), ?_, hmode⟩
  · exact lsFltBit_blk n cause
  · simp only [Field.key, lsFltBit, F.LS_FLT_SC, F.LS_CNT_CUT_CNT]; omega
  · simp only [Field.key, F.LS_FLT_MAP_FLT, F.LS_CNT_CUT_CNT]; omega
  · simp only [Field.key, F.LS_STAT_RETRIES, F.LS_CNT_CUT_CNT]; omega
  · simp only [Field.key, F.LS_STAT_RETRIES, lsFltBit, F.LS_FLT_SC]; omega
  · simp only [Field.key, F.LS_STAT_RETRIES, F.LS_FLT_MAP_FLT]; omega
  · rw [lsCutNoted, lsCh_record, lsCh_setLs]
    exact congrArg (·.prof) hch

/-- A short circuit or a limit trip outside DORMANCY goes to RETRY while retries remain, else it latches. -/
theorem lsCut_short {s : State} {n k : Nat} (hn : n < 24) (hk : k < 2) (hon : lsConducts (lsState s n) = true)
    (hm : s.rd (F.LS_STAT_MEMBER n) = 0) (hp : s.rd (F.LS_CFG_PAR n) = 0) (hd : s.mode ≠ mDORMANCY) :
    lsState (lsCut s n k) n = (if s.rd (F.LS_STAT_RETRIES n) < (s.lsCh n).prof.retry then 3 else 4) ∧
      (lsCut s n k).rd (lsFltBit n k) = 1 ∧ (lsCut s n k).bit F.LS_ON_MAP_ON n = false ∧ (lsCut s n k).bit F.LS_FLT_MAP_FLT n = true := by
  obtain ⟨hflt, hmap, hret, hprof, hmode⟩ := lsCutNoted_shows s hn (cause := k) (by omega)
  rw [lsCut_on hm hp hon]
  generalize lsCutNoted s k n = u at *
  have hkeep : (lsFltBit n k).key ≠ (F.LS_STAT_STATE n).key ∧ (lsFltBit n k).key ≠ (F.LS_STAT_LIMITING n).key ∧
      (lsFltBit n k).key ≠ (F.LS_STAT_UV_HELD n).key ∧ (lsFltBit n k).key ≠ F.LS_ON_MAP_ON.key := by
    simp only [Field.key, lsFltBit, F.LS_FLT_SC, F.LS_STAT_STATE, F.LS_STAT_LIMITING, F.LS_STAT_UV_HELD, F.LS_ON_MAP_ON]
    omega
  have hmapkey : F.LS_FLT_MAP_FLT.key ≠ (F.LS_STAT_STATE n).key ∧ F.LS_FLT_MAP_FLT.key ≠ (F.LS_STAT_LIMITING n).key ∧
      F.LS_FLT_MAP_FLT.key ≠ (F.LS_STAT_UV_HELD n).key ∧ F.LS_FLT_MAP_FLT.key ≠ F.LS_ON_MAP_ON.key := by
    simp only [Field.key, F.LS_FLT_MAP_FLT, F.LS_STAT_STATE, F.LS_STAT_LIMITING, F.LS_STAT_UV_HELD, F.LS_ON_MAP_ON]
    omega
  obtain ⟨hs, hl, hu, ho⟩ := hkeep
  obtain ⟨hs', hl', hu', ho'⟩ := hmapkey
  have hnl : ¬ (k == 5 || k == 6 || u.mode == mDORMANCY) = true := by
    rw [hmode]
    simp [hd]
    omega
  have hn4 : ¬ (k == 4) = true := by simp; omega
  rw [lsCutEnd, if_neg hnl, if_neg hn4, hret, hprof]
  split
  · obtain ⟨hst, hb, -⟩ := lsSwitchOff_shows u n (st := 3) (by decide)
    exact ⟨hst, (rd_lsSwitchOff_ne u n 3 hs hl hu ho).trans hflt, hb, (State.bit_congr (rd_lsSwitchOff_ne u n 3 hs' hl' hu' ho') _).trans hmap⟩
  · obtain ⟨hst, hb, -⟩ := lsLatch_shows u n k
    exact ⟨hst, (rd_lsLatch_ne u n k (lsFltBit_blk n k) hs hl hu ho).trans hflt, hb,
      (State.bit_congr (rd_lsLatch_ne u n k (f := F.LS_FLT_MAP_FLT) rfl hs' hl' hu' ho') _).trans hmap⟩

/-- A channel that is shed latches with its fault bit set. -/
theorem lsCut_shed {s : State} {n : Nat} (hn : n < 24) (hon : lsConducts (lsState s n) = true) (hm : s.rd (F.LS_STAT_MEMBER n) = 0)
    (hp : s.rd (F.LS_CFG_PAR n) = 0) : lsState (lsCut s n 5) n = 4 ∧ (lsCut s n 5).rd (lsFltBit n 5) = 1 := by
  obtain ⟨hflt, -⟩ := lsCutNoted_shows s hn (cause := 5) (by decide)
  rw [lsCut_on hm hp hon]
  generalize lsCutNoted s 5 n = u at *
  have hlatch : lsCutEnd u 5 n = lsLatch u n 5 := by simp [lsCutEnd]
  rw [hlatch]
  refine ⟨(lsLatch_shows u n 5).1, (rd_lsLatch_ne u n 5 (lsFltBit_blk n 5) ?_ ?_ ?_ ?_).trans hflt⟩ <;>
    simp only [Field.key, lsFltBit, F.LS_FLT_SC, F.LS_STAT_STATE, F.LS_STAT_LIMITING, F.LS_STAT_UV_HELD, F.LS_ON_MAP_ON] <;> omega

theorem silent_nothing {s : State} {n : Fin 24} (h : lsConducts (lsState s n) = false) (hm : s.rd (F.LS_STAT_MEMBER n) = 0)
    (hp : s.rd (F.LS_CFG_PAR n) = 0) {c : Instr} (hc : c = .segmentEnd n ∨ c = .sc n ∨ c = .limTrip n ∨ c = .openOn n) :
    exec c s = .next s := by
  obtain rfl | rfl | rfl | rfl := hc
  · simp [exec, execSegmentEnd, h]
  · simp only [exec, execSc, lsCut_off hm hp h]
  · simp only [exec, execLimTrip, lsCut_off hm hp h, ite_self]
  · simp [exec, execOpenOn, h]

/-! ## Segments -/

section
variable {s : State} {n : Fin 24} (hrun : (s.lsCh n).running = true) (hon : lsConducts (lsState s n) = true)
  (hend : (s.lsCh n).segAt + 8000 * (lsSegNow s n).dur ≤ s.now)
include hrun hon hend

theorem segment_next (hk : s.rd (F.LS_STAT_SEG n) + 1 < (s.lsCh n).prof.segs.length) :
    exec (.segmentEnd n) s = .next (((s.wr (F.LS_STAT_LIMITING n) 0).setLs n { s.lsCh n with segAt := s.now }).wr (F.LS_STAT_SEG n)
      (s.rd (F.LS_STAT_SEG n) + 1)) := by
  simp only [exec, execSegmentEnd, hrun, hon, hend, hk, decide_true, Bool.and_true, if_true]
  rfl

theorem segment_last (hk : (s.lsCh n).prof.segs.length ≤ s.rd (F.LS_STAT_SEG n) + 1) :
    ∃ u : State, (u.lsCh n).running = false ∧ exec (.segmentEnd n) s = .next (u.wr (F.LS_STAT_STATE n) (lsOnState u n)) := by
  refine ⟨(s.wr (F.LS_STAT_LIMITING n) 0).setLs n { s.lsCh n with running := false, steadyAt := s.now }, congrArg (·.running) (lsCh_setLs ..), ?_⟩
  simp only [exec, execSegmentEnd, hrun, hon, hend, Nat.not_lt.mpr hk, decide_true, Bool.and_true, if_true, if_false]
  rfl

end

/-- A channel at rest that conducts is ON or FORCED_ON. -/
theorem lsOnState_steady {u : State} {n : Nat} (h : (u.lsCh n).running = false) : lsOnState u n = 2 ∨ lsOnState u n = 6 := by
  unfold lsOnState
  split
  · exact .inr rfl
  · rw [if_neg (by simp [h])]; exact .inl rfl

/-! ## Samples -/

/-- The fields that a sample of a channel that does not conduct writes, in its order. -/
def sampleShown (n : Nat) : List Field :=
  [F.LS_I_I n, F.LS_I_LOW n, F.LS_STAT_LOW n, F.LS_VOUT_VOUT n, F.LS_I2T_USED n, F.LS_TJ_TJ n, F.LS_TJ_PEAK n, F.LS_CLAMP_E n, F.LS_FEED_IA, F.LS_FEED_IB,
    F.LS_BANK_TEMP (n / 6), F.LS_STAT_LIMITING n]

section
variable {n : Nat} (hn : n < 24)
include hn

/-- A sample writes nothing that decides what the channel does. -/
theorem sampleShown_spares : ∀ g ∈ sampleShown n, (F.LS_STAT_STATE n).key ≠ g.key ∧ (F.LS_STAT_MEMBER n).key ≠ g.key ∧ (F.LS_CFG_PAR n).key ≠ g.key ∧
    (F.LS_BANK_WARN (n / 6)).key ≠ g.key := by
  simp only [sampleShown, List.forall_mem_cons, Field.key, F.LS_STAT_STATE, F.LS_STAT_MEMBER, F.LS_CFG_PAR, F.LS_BANK_WARN, F.LS_I_I, F.LS_I_LOW,
    F.LS_STAT_LOW, F.LS_VOUT_VOUT, F.LS_I2T_USED, F.LS_TJ_TJ, F.LS_TJ_PEAK, F.LS_CLAMP_E, F.LS_FEED_IA, F.LS_FEED_IB, F.LS_BANK_TEMP, F.LS_STAT_LIMITING]
  refine ⟨?_, ?_, ?_, ?_, ?_, ?_, ?_, ?_, ?_, ?_, ?_, ?_, by simp⟩ <;> omega

/-- The mean current, the output voltage and the bank temperature stay as shown under the writes that follow each. -/
theorem sampleShown_apart : (∀ g ∈ (sampleShown n).drop 1, (F.LS_I_I n).key ≠ g.key) ∧ (∀ g ∈ (sampleShown n).drop 4, (F.LS_VOUT_VOUT n).key ≠ g.key) ∧
    (∀ g ∈ (sampleShown n).drop 11, (F.LS_BANK_TEMP (n / 6)).key ≠ g.key) := by
  simp only [sampleShown, List.drop, List.forall_mem_cons, Field.key, F.LS_I_I, F.LS_I_LOW,
    F.LS_STAT_LOW, F.LS_VOUT_VOUT, F.LS_I2T_USED, F.LS_TJ_TJ, F.LS_TJ_PEAK, F.LS_CLAMP_E, F.LS_FEED_IA, F.LS_FEED_IB, F.LS_BANK_TEMP, F.LS_STAT_LIMITING]
  refine ⟨⟨?_, ?_, ?_, ?_, ?_, ?_, ?_, ?_, ?_, ?_, ?_, by simp⟩, ⟨?_, ?_, ?_, ?_, ?_, ?_, ?_, ?_, by simp⟩, ⟨?_, by simp⟩⟩ <;> omega

end

theorem State.RegsBut.of_regs {s t u : State} {fs : List Field} (h : s.RegsBut t fs) (hu : u.regs = t.regs) : s.RegsBut u fs := fun f hf => by
  rw [← h f hf, State.rd, State.rd, hu]

theorem feedOverNext_regs (s : State) (f v : Nat) : (feedOverNext s f v).regs = s.regs := by
  unfold feedOverNext
  split <;> rfl

theorem feedOverNext_lsCh (s : State) (f v n : Nat) : (feedOverNext s f v).lsCh n = s.lsCh n := by
  unfold feedOverNext
  split <;> rfl

theorem sample_silent {s : State} {n : Fin 24} {i : BitVec 25} {v tb cm ce fs : BitVec 16} {lim : Bool} (hoff : lsConducts (lsState s n) = false)
    (hw : lsState s n ≠ 7) (hm : s.rd (F.LS_STAT_MEMBER n) = 0) (hp : s.rd (F.LS_CFG_PAR n) = 0) (hwarn : s.rd (F.LS_BANK_WARN (n / 6)) = 0) :
    Ends (.lsSample n i v tb cm ce fs lim) s fun t => (t.lsCh n).samples = (i.toNat :: (s.lsCh n).samples).take 20 ∧
      t.rd (F.LS_I_I n) = meanOf ((i.toNat :: (s.lsCh n).samples).take 20) % 2 ^ (F.LS_I_I n).w ∧
      t.rd (F.LS_VOUT_VOUT n) = v.toNat ∧ t.rd (F.LS_BANK_TEMP (n / 6)) = tb.toNat ∧ lsState t n = lsState s n := by
  change ∃ t, execLsSample n i v tb cm ce fs lim s = .next t ∧ _
  unfold execLsSample
  extract_lets i' c prev low amps vfeed p d1 d2 tj acc lvl used samples b s₁ s₂ s₃ peak s₄ s₅ s₇ lead c' s₈ s₉ s₁₀ s₁₁ s₁₂ s₁₃
  refine ⟨_, rfl, ?_⟩
  have hn := n.isLt
  have hspare := sampleShown_spares hn
  obtain ⟨happartI, hapartV, hapartT⟩ := sampleShown_apart hn
  -- what each step writes after the last of the three values shown
  have h₁ : s₁.regs = s.regs := rfl
  have h₂ : (s₁.wr (F.LS_I_I n) (meanOf samples)).RegsBut s₂ ((sampleShown n).drop 1) :=
    (((State.RegsBut_refl _ _).set (g := F.LS_I_LOW n) (by simp [sampleShown]) rfl).set (g := F.LS_STAT_LOW n) (by simp [sampleShown]) rfl)
  have h₃ : (s₂.wr (F.LS_VOUT_VOUT n) v.toNat).RegsBut s₃ ((sampleShown n).drop 4) :=
    (State.RegsBut_refl _ _).set (g := F.LS_I2T_USED n) (by simp [sampleShown]) rfl
  have h₅ : s₃.RegsBut s₅ ((sampleShown n).drop 4) := by
    have h₄ : s₃.RegsBut s₄ ((sampleShown n).drop 4) :=
      ((State.RegsBut_refl _ _).set (g := F.LS_TJ_TJ n) (by simp [sampleShown]) rfl).set (g := F.LS_TJ_PEAK n) (by simp [sampleShown]) rfl
    simp only [s₅]
    split
    · exact h₄
    · exact h₄.set (g := F.LS_CLAMP_E n) (by simp [sampleShown]) rfl
  have h₇ : s₃.RegsBut s₇ ((sampleShown n).drop 4) := by
    have hfeed : s₃.RegsBut (s₅.wr (if n.val < 12 then F.LS_FEED_IA else F.LS_FEED_IB) fs.toNat) ((sampleShown n).drop 4) := by
      split
      · exact h₅.set (g := F.LS_FEED_IA) (by simp [sampleShown]) rfl
      · exact h₅.set (g := F.LS_FEED_IB) (by simp [sampleShown]) rfl
    exact hfeed.of_regs (feedOverNext_regs ..)
  have h₂₃ : s₂.RegsBut s₇ ((sampleShown n).drop 3) :=
    ((State.RegsBut_refl _ _).set (g := F.LS_VOUT_VOUT n) (by simp [sampleShown]) rfl).trans ((h₃.trans h₇).mono (by simp [sampleShown]))
  have hs₂ : s.RegsBut s₂ (sampleShown n) :=
    (((State.RegsBut_refl s _).of_regs h₁).set (g := F.LS_I_I n) (by simp [sampleShown]) rfl).trans (h₂.mono (by simp [sampleShown]))
  have hs₇ : s.RegsBut s₇ (sampleShown n) := hs₂.trans (h₂₃.mono (by simp [sampleShown]))
  have hread : ∀ {u : State}, s.RegsBut u (sampleShown n) → lsState u n = lsState s n ∧ u.rd (F.LS_STAT_MEMBER n) = 0 ∧ u.rd (F.LS_CFG_PAR n) = 0 ∧
      u.rd (F.LS_BANK_WARN (n / 6)) = 0 := fun hu =>
    ⟨hu _ fun g hg => (hspare g hg).1, (hu _ fun g hg => (hspare g hg).2.1).trans hm, (hu _ fun g hg => (hspare g hg).2.2.1).trans hp,
      (hu _ fun g hg => (hspare g hg).2.2.2).trans hwarn⟩
  have hlead : lead = n := lsLead_self (hread (hs₇.of_regs rfl)).2.1
  have hs₉ : s.RegsBut s₉ (sampleShown n) := (hs₇.of_regs rfl).set (g := F.LS_BANK_TEMP (n / 6)) (by simp [sampleShown]) rfl
  have h₁₀ : s₁₀ = s₉ := if_neg (by simp [State.rdB, b, lsBank, (hread hs₉).2.2.2])
  have h₁₁ : s₉.RegsBut s₁₁ ((sampleShown n).drop 11) :=
    ((State.RegsBut_refl s₉ _).of_regs (congrArg State.regs h₁₀)).set (g := F.LS_STAT_LIMITING n) (by simp [sampleShown]) rfl
  have hs₁₁ : s.RegsBut s₁₁ (sampleShown n) := hs₉.trans (h₁₁.mono (by simp [sampleShown]))
  obtain ⟨hst, hm', hp', -⟩ := hread hs₁₁
  have hoff' : lsConducts (lsState s₁₁ n) = false := hst ▸ hoff
  have h₁₂ : s₁₂ = s₁₁ := if_neg (by simp [hoff'])
  have h₁₃ : s₁₃ = s₁₁ := by
    simp only [s₁₃, h₁₂, lsCut_off hm' hp' hoff', ite_self]
  have hend : (if lsState s₁₃ n == 7 then lsFollow s₁₃ lead else s₁₃) = s₁₁ := by
    rw [h₁₃]
    exact if_neg (by simp [hst, hw])
  rw [hend]
  -- the values shown, each from the write that shows it
  have h₇₉ : s₇.RegsBut s₉ ((sampleShown n).drop 10) :=
    ((State.RegsBut_refl s₇ _).of_regs rfl).set (g := F.LS_BANK_TEMP (n / 6)) (by simp [sampleShown]) rfl
  have hV : (s₂.wr (F.LS_VOUT_VOUT n) v.toNat).RegsBut s₁₁ ((sampleShown n).drop 4) :=
    ((h₃.trans h₇).trans (h₇₉.mono (by simp [sampleShown]))).trans (h₁₁.mono (by simp [sampleShown]))
  have hI : (s₁.wr (F.LS_I_I n) (meanOf samples)).RegsBut s₁₁ ((sampleShown n).drop 1) :=
    ((h₂.trans (h₂₃.mono (by simp [sampleShown]))).trans (h₇₉.mono (by simp [sampleShown]))).trans (h₁₁.mono (by simp [sampleShown]))
  refine ⟨?_, ?_, ?_, ?_, hst⟩
  · have hc₅ : s₅.lsCh n = s₁.lsCh n := by
      simp only [s₅]
      split <;> rfl
    have hc₇ : s₇.lsCh n = s₁.lsCh n := (feedOverNext_lsCh ..).trans hc₅
    have hc₁₁ : s₁₁.lsCh n = s₈.lsCh n := (congrArg (State.lsCh · n) h₁₀ : s₁₀.lsCh n = s₉.lsCh n)
    rw [hc₁₁]
    simp only [s₈, hlead, lsCh_setLs]
    simp only [c', hlead, hc₇, s₁, lsCh_setLs]
    rfl
  · exact (hI _ happartI).trans (State.rd_wr_self ..)
  · exact (hV _ hapartV).trans (State.rd_wr_of_lt _ v.isLt)
  · exact (h₁₁ _ hapartT).trans (State.rd_wr_of_lt _ tb.isLt)

/-! ## Retries -/

theorem retry_not {s : State} {n : Fin 24} (h : lsState s n ≠ 3 ∨ s.now < (s.lsCh n).cutAt + 80000 * (s.lsCh n).prof.delay) :
    exec (.lsRetry n) s = .next s := by
  obtain h | h := h <;> simp [exec, execLsRetry, h]

theorem exec_lsRetry {s : State} {n : Fin 24} (h3 : lsState s n = 3) (hc : strControls s n = false) (ht : s.rdI (F.LS_TJ_TJ n) < 1300)
    (hd : (s.lsCh n).cutAt + 80000 * (s.lsCh n).prof.delay ≤ s.now) :
    exec (.lsRetry n) s = .next (if s.rdB (F.LS_BANK_HOT (lsBank n)) then lsRetryHot s n else lsStaggered s n true) := by
  simp [exec, execLsRetry, h3, hc, ht, hd]

theorem retry_hot {s : State} {n : Nat} (hn : n < 24) (hm : s.rd (F.LS_STAT_MEMBER n) = 0) :
    lsState (lsRetryHot s n) n = 7 ∧ ((lsRetryHot s n).lsCh n).hotOff = true := by
  obtain ⟨r, hg, hr⟩ := lsGroup_cons s n
  rw [lsRetryHot, lsLead_self hm, hg, List.foldl_cons]
  obtain ⟨hst, -, -, hch⟩ := foldl_other (f := fun t m => (t.wr (F.LS_STAT_STATE m) 7).setLs m { t.lsCh m with hotOff := true })
    (fun t m => restate_frame t m 7 _) hn ((s.wr (F.LS_STAT_STATE n) 7).setLs n { s.lsCh n with hotOff := true }) r hr
  refine ⟨hst.trans (lsState_wr s n 7), ?_⟩
  rw [hch, lsCh_setLs]

/-- A channel that waits for its bank's stagger goes on waiting. -/
theorem lsUpdate_waits {s : State} {n : Nat} (hw : (s.lsCh n).stagger = true) : ((lsUpdate n s).lsCh n).stagger = true ∧
    ((lsUpdate n s).lsCh n).retryDue = (s.lsCh n).retryDue := by
  obtain h | h | ⟨-, hno⟩ := lsUpdate_ch s n
  · rw [h]; exact ⟨hw, rfl⟩
  · rw [h]; exact ⟨hw, rfl⟩
  · rw [hno] at hw
    exact absurd hw Bool.false_ne_true

theorem retry_staggered {s : State} {n : Nat} (hn : n < 24) (hm : s.rd (F.LS_STAT_MEMBER n) = 0) (hf : stagFree s (lsBank n) = false) :
    ((lsStaggered s n true).lsCh n).stagger = true ∧ ((lsStaggered s n true).lsCh n).retryDue = true := by
  obtain ⟨r, hg, hr⟩ := lsGroup_cons s n
  unfold lsStaggered
  rw [lsLead_self hm, hg]
  extract_lets ms t
  have hfree : stagFree t (lsBank n) = false := by
    have hw : Within lsMask s t := by
      refine Within.foldl (fun u m hu => ?_) (Within.refl _ s)
      exact State_setLs_within (by decide) (Within.wr (i := 48) (by simp) (by decide) (by decide) (by decide) hu)
    have hstag : t.lsStag = s.lsStag := hw.same .lsStag (by decide)
    have hnow : t.now = s.now := hw.same .now (by decide)
    rw [stagFree, hstag, hnow]
    exact hf
  have hdue : (t.lsCh n).retryDue = true := by
    have hch := (foldl_other (f := fun t m => (t.wr (F.LS_STAT_STATE m) 0).setLs m { t.lsCh m with retryDue := true })
      (fun t m => restate_frame t m 0 _) hn ((s.wr (F.LS_STAT_STATE n) 0).setLs n { s.lsCh n with retryDue := true }) r hr).2.2.2
    simp only [t, ms, List.foldl_cons, hch, lsCh_setLs]
  rw [hfree]
  simp only [ms, Bool.false_and, Bool.false_eq_true, if_false, List.foldl_cons]
  have hwait := lsUpdate_waits (s := t.setLs n { t.lsCh n with stagger := true }) (n := n) (by rw [lsCh_setLs])
  rw [lsCh_setLs] at hwait
  have hch := (foldl_other (f := fun u m => lsUpdate m (u.setLs m { u.lsCh m with stagger := true }))
    (fun u m => ((LsFrame.refl m u).setLs _).trans (lsUpdate_frame _ m)) hn (lsUpdate n (t.setLs n { t.lsCh n with stagger := true })) r hr).2.2.2
  rw [hch]
  exact ⟨hwait.1, hwait.2.trans hdue⟩

theorem exec_retryReset (s : State) (n : Fin 24) : exec (.retryCountReset false ⟨n, by omega⟩) s =
    .next (if lsState s n == 2 && decide ((s.lsCh n).steadyAt + 800000000 ≤ s.now) then s.wr (F.LS_STAT_RETRIES n) 0 else s) := by
  have hk : n.val % 24 = n.val := Nat.mod_eq_of_lt n.isLt
  simp only [exec, execRetryCountReset, Bool.false_eq_true, if_false, hk]

theorem exec_retryReset_dio (s : State) (n : Fin 32) : exec (.retryCountReset true n) s =
    .next (if dioState s n == 1 && decide ((s.dioCh n).onAt + 800000000 ≤ s.now) then s.wr (F.DIO_STAT_RETRIES n) 0 else s) := by
  simp only [exec, execRetryCountReset, if_true]

/-! ## Stagger and shedding -/

theorem exec_stagger (s : State) (b : Fin 4) : exec (.staggerSwitchOn b) s = .next (match (if stagFree s b then stagNext s b else none) with
    | none => s
    | some n => lsGo s n) := rfl

theorem stagNext_bank {s : State} {b n : Nat} (h : stagNext s b = some n) (hb : b < 4) : n < 24 ∧ lsBank n = b := by
  have hmem := List.mem_of_find?_eq_some h
  simp only [List.mem_map, List.mem_range] at hmem
  obtain ⟨k, hk, rfl⟩ := hmem
  rw [lsBank]
  omega

theorem lsGo_shows {s : State} {n : Nat} (hn : n < 24) (hm : s.rd (F.LS_STAT_MEMBER n) = 0) :
    (lsGo s n).bit F.LS_ON_MAP_ON n = true ∧ (lsGo s n).rd (F.LS_STAT_SEG n) = 0 ∧ ((lsGo s n).lsCh n).stagger = false ∧
      (lsGo s n).lsStag = s.lsStag.set (lsBank n) s.now := by
  obtain ⟨r, hg, hr⟩ := lsGroup_cons s n
  have hw : Within lsMask { s with lsStag := s.lsStag.set (lsBank n) s.now } (lsGo s n) :=
    Within.foldl (fun u m hu => lsSwitchOn_within (by decide) hu) (Within.refl _ _)
  refine ⟨?_, ?_, ?_, hw.same .lsStag (by decide)⟩ <;>
    rw [lsGo, lsLead_self hm, hg, List.foldl_cons]
  all_goals
    obtain ⟨-, hon, hseg, hch⟩ := lsSwitchOn_shows { s with lsStag := s.lsStag.set (lsBank n) s.now } hn
    obtain ⟨-, hseg', hon', hch'⟩ := foldl_other (f := lsSwitchOn) lsSwitchOn_frame hn (lsSwitchOn { s with lsStag := s.lsStag.set (lsBank n) s.now } n) r hr
  · exact hon'.trans hon
  · exact hseg'.trans hseg
  · rw [hch', hch]
    rfl

theorem exec_shed (s : State) (f : Fin 2) : exec (.shed f) s = .next (match (if feedOver s f then shedPick s ((List.range 12).map (12 * f.val + ·)) else none) with
    | none => s
    | some n =>
      let s := { s with lsOver := s.lsOver.set f s.now }
      let s := s.incSat (if f.val = 0 then F.LS_SHED_CNT_SHED_A else F.LS_SHED_CNT_SHED_B)
      lsCut (lsRecord s 8 n 5 n) n 5) := rfl

/-- The channel that is shed conducts and is one of the feed's. -/
theorem shedPick_mem {s : State} {l : List Nat} {n : Nat} (h : shedPick s l = some n) : n ∈ l ∧ lsConducts (lsState s n) = true := by
  induction l with
  | nil => simp [shedPick] at h
  | cons m r ih =>
    rw [shedPick] at h
    split at h
    · exact ⟨List.mem_cons_of_mem _ (ih h).1, (ih h).2⟩
    · next hon =>
      have hm : lsConducts (lsState s m) = true := by simpa using hon
      split at h
      · cases h
        exact ⟨List.mem_cons_self, hm⟩
      · next k hk =>
        split at h
        · cases h
          exact ⟨List.mem_cons_self, hm⟩
        · cases h
          exact ⟨List.mem_cons_of_mem _ (ih hk).1, (ih hk).2⟩

/-- The state in which channel `n` of a feed is shed: the time and the count of sheddings noted, the record posted. -/
def shedNoted (s : State) (f : Fin 2) (n : Nat) : State :=
  lsRecord (State.incSat { s with lsOver := s.lsOver.set f s.now } (if f.val = 0 then F.LS_SHED_CNT_SHED_A else F.LS_SHED_CNT_SHED_B)) 8 n 5 n

theorem exec_shed_pick {s : State} {f : Fin 2} {n : Nat} (hover : feedOver s f = true)
    (hpick : shedPick s ((List.range 12).map (12 * f.val + ·)) = some n) : exec (.shed f) s = .next (lsCut (shedNoted s f n) n 5) := by
  rw [exec_shed, hover, if_pos rfl, hpick]
  rfl

theorem rd_shedNoted {g : Field} (hg : Blk g 48) (hkey : g.key / 32 ≠ 0x2070003C) (s : State) (f : Fin 2) (n : Nat) :
    (shedNoted s f n).rd g = s.rd g := by
  have hne : g.key ≠ (if f.val = 0 then F.LS_SHED_CNT_SHED_A else F.LS_SHED_CNT_SHED_B).key := by
    intro e
    rw [e] at hkey
    split at hkey <;> exact hkey rfl
  rw [shedNoted, rd_lsRecord _ hg, State.rd_incSat_ne _ hne]
  rfl

theorem shed_latches {s : State} {f : Fin 2} {n : Nat} (hover : feedOver s f = true)
    (hpick : shedPick s ((List.range 12).map (12 * f.val + ·)) = some n) (hm : s.rd (F.LS_STAT_MEMBER n) = 0) (hp : s.rd (F.LS_CFG_PAR n) = 0) :
    Ends (.shed f) s fun t => lsState t n = 4 ∧ t.rd (lsFltBit n 5) = 1 := by
  obtain ⟨hmem, hon⟩ := shedPick_mem hpick
  have hn : n < 24 := by
    simp only [List.mem_map, List.mem_range] at hmem
    obtain ⟨k, hk, rfl⟩ := hmem
    have := f.isLt
    omega
  refine ⟨_, exec_shed_pick hover hpick, ?_⟩
  have hst : lsState (shedNoted s f n) n = lsState s n := rd_shedNoted (by simp) (by simp only [Field.key, F.LS_STAT_STATE]; omega) s f n
  have hm' := (rd_shedNoted (g := F.LS_STAT_MEMBER n) (by simp) (by simp only [Field.key, F.LS_STAT_MEMBER]; omega) s f n).trans hm
  have hp' := (rd_shedNoted (g := F.LS_CFG_PAR n) (by simp) (by simp only [Field.key, F.LS_CFG_PAR]; omega) s f n).trans hp
  generalize shedNoted s f n = u at *
  exact lsCut_shed hn (hst ▸ hon) hm' hp'

/-! ## Open load and output high -/

theorem rd_degrade_ls {g : Field} (hg : Blk g 48) (s : State) (src : Nat) (b : Bool) : (s.degrade src b).rd g = s.rd g :=
  Within.rd_eq (K := partsMask [.girth, .rGirth, .substate, .upd]) (State_degrade_within (by decide) (Within.refl _ s)) hg (by decide) (by decide)

/-- A fault counted as an open load and recorded shows, and keeps STATE. -/
theorem openFault_shows (s : State) {n i : Nat} (hn : n < 24) (hi : i < 12) :
    (lsRecord ((lsFault s n i).incSat (F.LS_CNT_OPEN_CNT n)) 4 n i n).rd (lsFltBit n i) = 1 ∧
      lsState (lsRecord ((lsFault s n i).incSat (F.LS_CNT_OPEN_CNT n)) 4 n i n) n = lsState s n := by
  obtain ⟨hbit, -, hst, -⟩ := lsFault_shows s hn hi
  constructor
  · rw [rd_lsRecord _ (lsFltBit_blk n i), State.rd_incSat_ne _ (by simp only [Field.key, lsFltBit, F.LS_FLT_SC, F.LS_CNT_OPEN_CNT]; omega)]
    exact hbit
  · rw [lsState_record, lsState, State.rd_incSat_ne _ (by simp only [Field.key, F.LS_STAT_STATE, F.LS_CNT_OPEN_CNT]; omega)]
    exact hst

theorem exec_openOn {s : State} {n : Fin 24} (hon : lsConducts (lsState s n) = true) (hdue : openOnDue s n = true)
    (h : s.rd (F.LS_FLT_OPEN_ON n) = 0) : exec (.openOn n) s =
      .next (lsRecord ((lsFault (s.setLs n { s.lsCh n with olSince := some s.now }) n 7).incSat (F.LS_CNT_OPEN_CNT n)) 4 n 7 n) := by
  simp [exec, execOpenOn, hon, hdue, State.rdB, h]

theorem exec_openOff {s : State} {n : Fin 24} (hon : lsConducts (lsState s n) = false) (hsrc : (lsProfile s n).flags % 2 = 1)
    (hext : s.rd (F.LS_STAT_EXT_DRIVEN n) = 0) (hm : s.rd (F.LS_STAT_MEMBER n) = 0) (h : s.rd (F.LS_FLT_OPEN_OFF n) = 0) (hd : s.mode ≠ mDORMANCY) :
    exec (.openOff n) s = .next (lsRecord ((lsFault s n 8).incSat (F.LS_CNT_OPEN_CNT n)) 4 n 8 n) := by
  simp [exec, execOpenOff, hon, hsrc, State.rdB, hext, hm, h, hd]

section
variable {s : State} {n : Fin 24} {b : Bool} (hoff : lsConducts (lsState s n) = false) (hd : s.mode ≠ mDORMANCY)
  (hm : s.rd (F.LS_STAT_MEMBER n) = 0)
include hoff hd hm

theorem outHigh_driven (hspan : s.girth.spanMember = true) (h : s.partner.lsOn.testBit n = true ∨ s.rd (F.LS_STAT_SHARED n) = 1) :
    exec (.outHigh n b) s = .next (s.wr (F.LS_STAT_EXT_DRIVEN n) 1) := by
  have hgo : ¬ (lsConducts (lsState s n) || s.mode == mDORMANCY || s.rdB (F.LS_STAT_MEMBER n)) = true := by simp [hoff, hd, State.rdB, hm]
  have hdrv : (s.girth.spanMember && (s.partner.lsOn.testBit n || s.rdB (F.LS_STAT_SHARED n))) = true := by
    obtain h | h := h <;> simp [hspan, State.rdB, h]
  simp only [exec, execOutHigh, if_neg hgo, if_pos hdrv]

theorem outHigh_fault (h : s.girth.spanMember = false ∨ s.partner.lsOn.testBit n = false ∧ s.rd (F.LS_STAT_SHARED n) = 0) :
    exec (.outHigh n b) s = .next (
      let s := (lsFault s n 9).degrade (200 + n) true
      let s := if b then (lsFault s n 10).hwFault 0x060B n else s
      lsRecord s 0x0B n (if b then 10 else 9) n) := by
  have hgo : ¬ (lsConducts (lsState s n) || s.mode == mDORMANCY || s.rdB (F.LS_STAT_MEMBER n)) = true := by simp [hoff, hd, State.rdB, hm]
  have hdrv : ¬ (s.girth.spanMember && (s.partner.lsOn.testBit n || s.rdB (F.LS_STAT_SHARED n))) = true := by
    obtain h | ⟨h, h'⟩ := h
    · simp [h]
    · simp [h, State.rdB, h']
  simp only [exec, execOutHigh, if_neg hgo, if_neg hdrv]

end

theorem outHigh_shows (s : State) (n : Fin 24) {v : State} (b : Bool)
    (hv : v = if b then (lsFault ((lsFault s n 9).degrade (200 + n) true) n 10).hwFault 0x060B n else (lsFault s n 9).degrade (200 + n) true) (c : Nat) :
    (lsRecord v 0x0B n c n).rd (lsFltBit n 9) = 1 ∧ lsState (lsRecord v 0x0B n c n) n = lsState s n := by
  obtain ⟨hbit, -, hst, -⟩ := lsFault_shows s n.isLt (i := 9) (by decide)
  have hbit' := (rd_degrade_ls (lsFltBit_blk n 9) (lsFault s n 9) (200 + n) true).trans hbit
  have hst' : lsState ((lsFault s n 9).degrade (200 + n) true) n = lsState s n := (rd_degrade_ls (LS_STAT_STATE_blk n) ..).trans hst
  generalize (lsFault s n 9).degrade (200 + n) true = u at *
  have hshow : v.rd (lsFltBit n 9) = 1 ∧ lsState v n = lsState s n := by
    cases b
    · rw [if_neg Bool.false_ne_true] at hv
      exact hv ▸ ⟨hbit', hst'⟩
    · rw [if_pos rfl] at hv
      rw [hv]
      refine ⟨(rd_lsFault_ne u 10 ?_ ?_).trans hbit', (rd_lsFault_ne u 10 ?_ ?_).trans hst'⟩ <;>
        simp only [Field.key, lsFltBit, F.LS_FLT_SC, F.LS_FLT_MAP_FLT, F.LS_STAT_STATE] <;> omega
  exact ⟨(rd_lsRecord _ (lsFltBit_blk n 9) ..).trans hshow.1, (lsState_record ..).trans hshow.2⟩

/-! ## Banks -/

theorem bankWarn_shows (s : State) (b : Fin 4) (h : s.rd (F.LS_BANK_WARN b) = 0) : Ends (.bankWarn b) s fun t =>
    t.rd (F.LS_BANK_WARN b) = 1 ∧ t.bit F.LS_BANK_FLT_WARN_SEEN b = true := by
  have hexec : exec (.bankWarn b) s = .next (((s.wr (F.LS_BANK_WARN b) 1).setBit F.LS_BANK_FLT_WARN_SEEN b).degrade (100 + b) true) := by
    simp [exec, execBankWarn, State.rdB, h]
  refine ⟨_, hexec, ?_, ?_⟩
  · rw [rd_degrade_ls (by simp), State.rd_setBit_ne _ _ (by simp only [Field.key, F.LS_BANK_WARN, F.LS_BANK_FLT_WARN_SEEN]; omega)]
    exact State.rd_wr_of_lt _ (Nat.lt_of_lt_of_eq Nat.one_lt_two rfl)
  · rw [State.bit_congr (rd_degrade_ls (g := F.LS_BANK_FLT_WARN_SEEN) rfl ..), State.bit_setBit]
    simp [F.LS_BANK_FLT_WARN_SEEN]

theorem lsUnitRecord_rd {g : Field} (hg : Blk g 48) (s : State) (type unit cause : Nat) : (lsUnitRecord s type unit cause).rd g = s.rd g :=
  Within.rd_eq (K := partsMask [.mem, .free, .out, .irqHeld, .q, .lsKept0, .lsKept1, .rFurrow, .upd, .furBits])
    (lsUnitRecord_within (by decide) (Within.refl _ s)) hg (by decide) (by decide)

/-- After the cut-off of several channels none of them conducts. -/
theorem foldl_cut_open (l : List Nat) (hl : ∀ m ∈ l, m < 24) (s : State) (j : Nat) (hj : j ∈ l ∨ j < 24 ∧ lsConducts (lsState s j) = false) :
    lsConducts (lsState (l.foldl (fun t n => lsCutOne 4 n t) s) j) = false := by
  induction l generalizing s with
  | nil => exact (hj.resolve_left List.not_mem_nil).2
  | cons m r ih =>
    refine ih (fun k hk => hl k (List.mem_cons_of_mem m hk)) _ ?_
    by_cases hjm : j = m
    · subst hjm
      exact .inr ⟨hl j List.mem_cons_self, lsCutOne_open s 4 j⟩
    · obtain hj | ⟨hlt, hoff⟩ := hj
      · exact .inl (List.mem_of_ne_of_mem hjm hj)
      · exact .inr ⟨hlt, (congrArg lsConducts ((lsCutOne_frame s 4 m).other hlt hjm).1).trans hoff⟩

theorem bankHot_shows (s : State) (b : Fin 4) (h : s.rd (F.LS_BANK_HOT b) = 0) : Ends (.bankHot b) s fun t => t.rd (F.LS_BANK_HOT b) = 1 ∧
    ∀ k, k < 6 → lsConducts (lsState t (6 * b.val + k)) = false := by
  have hexec : exec (.bankHot b) s = .next (((List.range 6).map (6 * b.val + ·)).foldl (fun t n => lsCutOne 4 n t)
      (lsUnitRecord ((s.wr (F.LS_BANK_HOT b) 1).setBit F.LS_BANK_FLT_HOT_SEEN b) 6 (b + 0x80) 4)) := by
    simp [exec, execBankHot, State.rdB, h]
  refine ⟨_, hexec, ?_, fun k hk => foldl_cut_open _ ?_ _ _ (.inl ?_)⟩
  · rw [rd_foldl_ls (f := fun t n => lsCutOne 4 n t) (fun t m => lsCutOne_frame t 4 m) (fun m => lsSpared_hot m b), lsUnitRecord_rd (by simp),
      State.rd_setBit_ne _ _ (by simp only [Field.key, F.LS_BANK_HOT, F.LS_BANK_FLT_HOT_SEEN]; omega)]
    exact State.rd_wr_of_lt _ (Nat.lt_of_lt_of_eq Nat.one_lt_two rfl)
  · intro m hm
    simp only [List.mem_map, List.mem_range] at hm
    obtain ⟨i, hi, rfl⟩ := hm
    have := b.isLt
    omega
  · exact List.mem_map.mpr ⟨k, List.mem_range.mpr hk, rfl⟩

theorem bankNormal_ends (s : State) (b : Fin 4) (h : s.rd (F.LS_BANK_HOT b) = 1) : Ends (.bankNormal b) s fun t => t.rd (F.LS_BANK_HOT b) = 0 := by
  have hexec : exec (.bankNormal b) s = .next (((List.range 6).map (6 * b.val + ·)).foldl (fun t n =>
      if lsState t n == 7 && !strControls t n then lsStaggered t n false
      else if (t.lsCh n).hotOff && lsState t n == 0 then t.setLs n { t.lsCh n with hotOff := false }
      else t) (lsUnitRecord (s.wr (F.LS_BANK_HOT b) 0) 7 (b + 0x80) 0xFF)) := by
    simp [exec, execBankNormal, State.rdB, h]
  refine ⟨_, hexec, (foldl_keeps (State.rd · (F.LS_BANK_HOT b)) (fun t n => ?_) _ _).trans ?_⟩
  · dsimp only
    split
    · exact lsStaggered_spared (fun m => lsSpared_hot m b) ..
    split <;> rfl
  · rw [lsUnitRecord_rd (by simp)]
    exact State.rd_wr_of_lt _ (Nat.two_pow_pos _)

/-- Settles O41. -/
theorem loadSwitchProtection : Obligations.LoadSwitchProtection := by
  refine ⟨fun s n hoff hm hp c hc => silent_nothing hoff hm hp hc, fun s n c k hc hon hm hp hd => ?_, fun s n h => ?_,
    fun s n hrun hon hend hk hlen => ⟨_, segment_next hrun hon hend hk, ?_, ?_, lsCh_setLs .., rfl⟩, fun s n hrun hon hend hk => ?_,
    fun s n i v tb cm ce fs lim hoff hw hm hp hwarn => sample_silent hoff hw hm hp hwarn, fun s n h => retry_not h,
    fun s n h3 hc ht hm hd => ⟨_, exec_lsRetry h3 hc ht hd, fun hhot => ?_, fun hhot hf => ?_⟩,
    fun s n h2 hd => ?_, fun s n h => ?_, fun s n h1 hd => ?_, fun s n h => ?_, fun s b h => ?_, fun s b n hf hnext hm => ?_,
    fun s f h => ?_, fun s f n hover hpick hm hp => shed_latches hover hpick hm hp, fun s n hon hdue h => ⟨_, exec_openOn hon hdue h, openFault_shows _ n.isLt (by decide)⟩,
    fun s n hon => by simp [exec, execOpenOff, hon],
    fun s n hoff hsrc hext hm h hd => ⟨_, exec_openOff hoff hsrc hext hm h hd, openFault_shows _ n.isLt (by decide)⟩,
    fun s n b hon => by simp [exec, execOutHigh, hon],
    fun s n b hoff hd hm hspan h => ⟨_, outHigh_driven hoff hd hm hspan h, State.rd_wr_of_lt _ (Nat.lt_of_lt_of_eq Nat.one_lt_two rfl),
      (State.OnlyRegs.refl s _).wr (by simp) 1⟩,
    fun s n b hoff hd hm h => ⟨_, outHigh_fault hoff hd hm h, outHigh_shows s n b rfl _⟩,
    bankWarn_shows, fun s b h => by simp [exec, execBankWarn, State.rdB, h], bankHot_shows, fun s b h => by simp [exec, execBankHot, State.rdB, h],
    fun s b h => by simp [exec, execBankNormal, State.rdB, h], bankNormal_ends⟩
  · obtain ⟨rfl, rfl⟩ | ⟨rfl, rfl, htrip⟩ := hc
    · exact ⟨_, rfl, lsCut_short n.isLt (by decide) hon hm hp hd⟩
    · exact ⟨_, congrArg Host.Outcome.next (if_pos htrip), lsCut_short n.isLt (by decide) hon hm hp hd⟩
  · simp [exec, execSegmentEnd, h]
  · have hw : s.rd (F.LS_STAT_SEG n) + 1 < 2 ^ (F.LS_STAT_SEG n).w := Nat.lt_of_lt_of_le hk hlen
    exact State.rd_wr_of_lt _ hw
  · exact (((s.RegsBut_refl _).set (g := F.LS_STAT_LIMITING n) (by simp) rfl).of_regs rfl).set (g := F.LS_STAT_SEG n) (by simp) rfl
  · obtain ⟨u, hrest, hexec⟩ := segment_last hrun hon hend hk
    refine ⟨_, hexec, hrest, ?_⟩
    obtain h | h := lsOnState_steady hrest <;> rw [lsState_wr, h] <;> simp
  · rw [if_pos (by simp [State.rdB, hhot])]
    exact retry_hot n.isLt hm
  · rw [if_neg (by simp [State.rdB, hhot])]
    exact retry_staggered n.isLt hm hf
  · refine ⟨_, (exec_retryReset s n).trans (congrArg _ (if_pos (by simp [h2, hd]))), State.rd_wr_of_lt _ (Nat.two_pow_pos _), ?_⟩
    exact (State.OnlyRegs.refl s _).wr (by simp) 0
  · refine (exec_retryReset s n).trans (congrArg _ (if_neg ?_))
    obtain h | h := h <;> simp [h]
  · refine ⟨_, (exec_retryReset_dio s n).trans (congrArg _ (if_pos (by simp [h1, hd]))), State.rd_wr_of_lt _ (Nat.two_pow_pos _), ?_⟩
    exact (State.OnlyRegs.refl s _).wr (by simp) 0
  · refine (exec_retryReset_dio s n).trans (congrArg _ (if_neg ?_))
    obtain h | h := h <;> simp [h]
  · have hno : (if stagFree s b then stagNext s b else none) = none := by
      obtain h | h := h <;> simp [h]
    rw [exec_stagger, hno]
  · obtain ⟨hn, hbank⟩ := stagNext_bank hnext b.isLt
    have hyes : (if stagFree s b then stagNext s b else none) = some n := by simp [hf, hnext]
    have hgo := lsGo_shows hn hm
    rw [hbank] at hgo
    exact ⟨_, by rw [exec_stagger, hyes], hgo⟩
  · have hno : (if feedOver s f then shedPick s ((List.range 12).map (12 * f.val + ·)) else none) = none := by
      obtain h | h := h <;> simp [h]
    rw [exec_shed, hno]

end Sys2Proof.Machine
end

section
/-! Requests, configuration, profiles and service of the load switches (R319-R342). -/

namespace Sys2Proof.Machine

/-! ## Posted answers -/

/-- A posted write ends as it stands where it is answered with anything but a fault of the address or of memory. -/
theorem next_hostWrite_status {s t u : State} {r : Req} {a c : Nat} (hlive : windowDead s a = false) (hclass : classN a = false)
    (ht : t = u.status c) (h : c ≠ 0x0110 ∧ c ≠ 0x0610 ∧ c ≠ 0x0611) : (Host.Outcome.next (hostWrite s r a t) : Res) = .next (u.status c) := by
  subst ht
  obtain ⟨h110, h610, h611⟩ := h
  rw [hostWrite_posted r hlive hclass h110 h610 h611]

theorem classN_ls {a : Nat} (h : a / 0x100000 = 0x207) : classN a = false := classN_of_window (by omega)

/-! ## Who may ask -/

section
variable {s : State} {r : Req} {n : Fin 24}

theorem exec_lsReqOn {t : State} {c : Nat} (hlive : windowDead s (F.LS_REQ_ON n).addr = false) {on : Bool} (ht : lsWriteOn s r n on = t.status c)
    (h : c ≠ 0x0110 ∧ c ≠ 0x0610 ∧ c ≠ 0x0611) : exec (.lsReqOn r n on) s = .next (t.status c) :=
  next_hostWrite_status hlive (classN_ls (by simp only [F.LS_REQ_ON]; omega)) ht h

theorem exec_lsClear {t : State} {c : Nat} (hlive : windowDead s (F.LS_REQ_ON n).addr = false) (ht : lsWriteClear s r n = t.status c)
    (h : c ≠ 0x0110 ∧ c ≠ 0x0610 ∧ c ≠ 0x0611) : exec (.lsClear r n) s = .next (t.status c) :=
  next_hostWrite_status hlive (classN_ls (by simp only [F.LS_REQ_ON]; omega)) ht h

theorem exec_lsParallelSet {t : State} {c : Nat} {par : Fin 4} (hlive : windowDead s (F.LS_CFG_PAR n).addr = false)
    (ht : lsWriteCfg s r n (s.rd (F.LS_CFG_PROFILE n.val)) par (s.rd (F.LS_CFG_SHED n.val)) = t.status c)
    (h : c ≠ 0x0110 ∧ c ≠ 0x0610 ∧ c ≠ 0x0611) : exec (.lsParallelSet r n par) s = .next (t.status c) :=
  next_hostWrite_status hlive (classN_ls (by simp only [F.LS_CFG_PAR]; omega)) ht h

theorem exec_lsService {t : State} {c : Nat} (hlive : windowDead s F.LS_SVC_CH.addr = false) {on : Bool} {d : Nat}
    (ht : lsWriteSvc s r n on d = t.status c) (h : c ≠ 0x0110 ∧ c ≠ 0x0610 ∧ c ≠ 0x0611) :
    (Host.Outcome.next (hostWrite s r F.LS_SVC_CH.addr (lsWriteSvc s r n on d)) : Res) = .next (t.status c) :=
  next_hostWrite_status hlive (by decide) ht h

theorem exec_lsPchk {t : State} {c : Nat} {x : Fin 16} (hlive : windowDead s F.LS_PCHK_X.addr = false) (ht : lsWritePchk s r x = t.status c)
    (h : c ≠ 0x0110 ∧ c ≠ 0x0610 ∧ c ≠ 0x0611) : exec (.lsPchk r x) s = .next (t.status c) :=
  next_hostWrite_status hlive (by decide) ht h

theorem exec_lsProfWrite {t : State} {c : Nat} {x w : Fin 16} {v : Word} (hlive : windowDead s (0x20700800 + 0x40 * x + 4 * w) = false)
    (ht : lsWriteProf s r x w v = t.status c) (h : c ≠ 0x0110 ∧ c ≠ 0x0610 ∧ c ≠ 0x0611) : exec (.lsProfWrite r x w v) s = .next (t.status c) :=
  next_hostWrite_status hlive (classN_ls (by omega)) ht h

theorem request_denied {b : Bool} {p : Fin 4} {c : Instr} {e : Nat} (hlive : windowDead s (F.LS_REQ_ON n).addr = false)
    (hlive' : windowDead s (F.LS_CFG_PAR n).addr = false) (hc : c = .lsReqOn r n b ∨ c = .lsClear r n ∨ c = .lsParallelSet r n p)
    (h : e = 0x0206 ∧ r.forPlot (lsOwner s n) = false ∨ e = 0x0303 ∧ r.forPlot (lsOwner s n) = true ∧ s.rd (F.LS_STAT_MEMBER n) = 1) :
    exec c s = .next (s.status e) := by
  have he : e ≠ 0x0110 ∧ e ≠ 0x0610 ∧ e ≠ 0x0611 := by omega
  obtain rfl | rfl | rfl := hc
  · refine exec_lsReqOn hlive ?_ he
    obtain ⟨rfl, h⟩ | ⟨rfl, h, hm⟩ := h
    · simp [lsWriteOn, h]
    · simp [lsWriteOn, h, State.rdB, hm]
  · refine exec_lsClear hlive ?_ he
    obtain ⟨rfl, h⟩ | ⟨rfl, h, hm⟩ := h
    · simp [lsWriteClear, h]
    · simp [lsWriteClear, h, State.rdB, hm]
  · refine exec_lsParallelSet hlive' ?_ he
    obtain ⟨rfl, h⟩ | ⟨rfl, h, hm⟩ := h
    · simp [lsWriteCfg, h]
    · simp [lsWriteCfg, h, State.rdB, hm]

end

/-! ## What the sources of a channel read -/

/-- Outside the parts that the sources of rank 2 and 3 live in, only the state of a channel in BOOT bears on what is forced. -/
theorem lsOverride_parts {K : Nat} {s t : State} {n : Nat} (h : Within K s t)
    (hK : K &&& partsMask [.mode, .girth, .str, .pom, .objs, .rStirrup] = 0) : lsOverride t n =
      if hardOff s (decide (12 ≤ n)) then some false
      else if s.rd F.STR_STAT_STATE != 0 && !s.str.relLs.getLsbD n then some (s.str.holdLs.getLsbD n)
      else if s.mode == mBOOT then some (lsConducts (lsState t n))
      else tripForce s 1 n := by
  have hbit : ∀ p : Part, (partsMask [.mode, .girth, .str, .pom, .objs, .rStirrup]).testBit p.bit = true → K.testBit p.bit = false := by
    intro p hp
    have hb := congrArg (Nat.testBit · p.bit) hK
    simpa [Nat.testBit_and, hp] using hb
  have hg : t.girth = s.girth := h.same .girth (hbit _ (by decide))
  have hstr : t.str = s.str := h.same .str (hbit _ (by decide))
  have hpom : t.pom = s.pom := h.same .pom (hbit _ (by decide))
  have hobj : t.objs = s.objs := h.same .objs (hbit _ (by decide))
  have hmode : t.mode = s.mode := h.mode_eq (hbit .mode (by decide))
  have hstir : t.rd F.STR_STAT_STATE = s.rd F.STR_STAT_STATE := h.rd_eq (i := 49) rfl (by decide) (hbit .rStirrup (by decide))
  have htrip : tripForce t 1 n = tripForce s 1 n := by
    unfold tripForce patternObj State.obj
    rw [hpom, hobj]
  rw [lsOverride, hardOff, hardOff, htrip, hg, hstr, hmode, hstir]

theorem lsOverride_within {K : Nat} {s t : State} {n : Nat} (h : Within K s t) (hst : lsState t n = lsState s n)
    (hK : K &&& partsMask [.mode, .girth, .str, .pom, .objs, .rStirrup] = 0) : lsOverride t n = lsOverride s n := by
  rw [lsOverride_parts h hK, hst, lsOverride]

/-- A channel that nothing forces stays unforced, whatever becomes of its state. -/
theorem lsOverride_none {K : Nat} {s t : State} {n : Nat} (h : Within K s t) (ho : lsOverride s n = none)
    (hK : K &&& partsMask [.mode, .girth, .str, .pom, .objs, .rStirrup] = 0) : lsOverride t n = none := by
  rw [lsOverride] at ho
  rw [lsOverride_parts h hK]
  split at ho
  · exact absurd ho nofun
  next hhard =>
  split at ho
  · exact absurd ho nofun
  next hstir =>
  split at ho
  · exact absurd ho nofun
  next hboot => rw [if_neg hhard, if_neg hstir, if_neg hboot, ho]

section
variable {s : State} {n : Nat} (hm : s.rd (F.LS_STAT_MEMBER n) = 0)
include hm

theorem lsWanted_of_off (hon : s.rd (F.LS_REQ_ON n) = 0) (hs : (s.lsCh n).service = false) : lsWanted s n = false := by
  simp [lsWanted, lsRequest, lsService, lsLead_self hm, State.rdB, hon, hs]

theorem lsWanted_of_on (hon : s.rd (F.LS_REQ_ON n) = 1) (hown : s.girth.ownLs.getLsbD n = true) (hmode : s.mode ≠ mSERVICE) : lsWanted s n = true := by
  simp [lsWanted, lsRequest, lsLead_self hm, State.rdB, hon, hown, hmode]

end

/-- A channel that nothing asks to conduct, and that is not cut off, is switched off. -/
theorem lsUpdate_unwanted {s : State} {n : Nat} (h34 : lsState s n ≠ 3 ∧ lsState s n ≠ 4) (ho : lsOverride s n = none) (hw : lsWanted s n = false) :
    lsUpdate n s = lsSwitchOff s n 0 := by
  simp [lsUpdate, h34.1, h34.2, ho, hw]

/-- A channel that is off, asked for and waits for nothing is switched on. -/
theorem lsUpdate_wanted {s : State} {n : Nat} (h0 : lsState s n = 0) (ho : lsOverride s n = none) (hw : lsWanted s n = true) (hok : lsProfOk s n = true)
    (hcond : lsGroupCond s n = true) (hst : (s.lsCh n).stagger = false) (hhot : (s.lsCh n).hotOff = false) (huv : (s.lsCh n).uvOff = false) :
    lsUpdate n s = lsSwitchOn s n := by
  have hv : lsProfValid s n = true := by
    rw [lsProfOk, Bool.and_eq_true] at hok
    exact hok.1
  simp [lsUpdate, h0, ho, hw, hok, hcond, hst, hhot, huv, hv, lsConducts]

/-! ## ON and CLEAR -/

section
variable {s : State} {n : Nat}

/-- A channel asked for conducts in INRUSH once it is switched on. -/
theorem lsSwitchOn_inrush (hm : s.rd (F.LS_STAT_MEMBER n) = 0) (hw : s.rd (F.LS_REQ_ON n) = 1) (hown : s.girth.ownLs.getLsbD n = true)
    (hmode : s.mode ≠ mSERVICE) : lsState (lsSwitchOn s n) n = 1 := by
  rw [lsSwitchOn_eq]
  extract_lets t
  have hf : LsFrame n s t := ((lsPrimed_frame s n).own (g := F.LS_STAT_SEG n) (by simp [lsWritten]) 0).own (g := F.LS_STAT_EXT_DRIVEN n)
    (by simp [lsWritten]) 0
  have hwin : Within lsMask s t := by
    have h₁ : Within lsMask s (lsPrimed s n) := by
      unfold lsPrimed
      dsimp only
      split
      · exact lsRecord_within (by decide) (Within.incSat (i := 48) (by simp) (by decide) (by decide) (by decide) (State_setLs_within (by decide) (Within.refl _ s)))
      · exact State_setLs_within (by decide) (Within.refl _ s)
    exact Within.wr (i := 48) (by simp) (by decide) (by decide) (by decide) (Within.wr (i := 48) (by simp) (by decide) (by decide) (by decide) h₁)
  have hrun : (t.lsCh n).running = true := by
    change ((lsPrimed s n).lsCh n).running = true
    rw [lsPrimed_ch]
    rfl
  have hone : lsOnState t n = 1 := by
    have hgirth : t.girth = s.girth := hwin.same .girth (by decide)
    have hwant : lsWanted t n = true := lsWanted_of_on ((hf.regs _ (lsSpared_member n n)).trans hm) ((hf.regs _ (lsSpared_on n n)).trans hw)
      (by rw [hgirth]; exact hown) (by rw [hwin.mode_eq (by decide)]; exact hmode)
    simp [lsOnState, hwant, hrun]
  have hlast : ∀ (u : State) (o : Out), lsState (((u.setBit F.LS_ON_MAP_ON n).incWrap (F.LS_CNT_ON_CNT n)).emit o) n = lsState u n := fun u o =>
    (State.rd_incWrap_ne _ (by simp only [Field.key, F.LS_STAT_STATE, F.LS_CNT_ON_CNT]; omega)).trans
      (State.rd_setBit_ne _ _ (by simp only [Field.key, F.LS_STAT_STATE, F.LS_ON_MAP_ON]; omega))
  rw [hlast, lsState_wr, hone]

/-- Without a retry to count, switching on writes the channel's own registers alone. -/
theorem lsSwitchOn_regs (hd : (s.lsCh n).retryDue = false) : s.RegsBut (lsSwitchOn s n)
    [F.LS_STAT_SEG n, F.LS_STAT_EXT_DRIVEN n, F.LS_STAT_STATE n, F.LS_ON_MAP_ON, F.LS_CNT_ON_CNT n] := by
  have hprimed : lsPrimed s n = s.setLs n (lsStarted s n) := by
    rw [lsPrimed]
    exact if_neg (by simp [hd])
  rw [lsSwitchOn_eq, hprimed]
  exact ((((((s.RegsBut_refl _).of_regs rfl).set (g := F.LS_STAT_SEG n) (by simp) rfl).set (g := F.LS_STAT_EXT_DRIVEN n) (by simp) rfl).set
    (g := F.LS_STAT_STATE n) (by simp) rfl).set (g := F.LS_ON_MAP_ON) (by simp) rfl).set (g := F.LS_CNT_ON_CNT n) (by simp) rfl

end

/-- What a request of the channel's plot asks: the channel as the write of ON leaves it. -/
def lsAsked (s : State) (n : Nat) (v : Nat) : State := (hostNote s n).wr (F.LS_REQ_ON n) v

section
variable {s : State} {r : Req} {n : Fin 24} (hr : r.forPlot (lsOwner s n) = true) (hh : s.hwHas (F.LS_REQ_ON n) = false)
  (ha : s.trl.actOn.find? n ≠ some s.now) (hm : s.rd (F.LS_STAT_MEMBER n) = 0)

section
include hr hh ha hm

theorem lsWriteOn_on (hmode : s.mode ≠ mSERVICE) : lsWriteOn s r n true = (lsFollow (lsAsked s n 1) n).status 0 := by
  simp [lsWriteOn, hr, State.rdB, hm, hmode, hh, ha, lsSetOn, lsAsked]

theorem lsWriteOn_off : lsWriteOn s r n false = (lsClearOn (hostNote s n) n).status 0 := by
  simp [lsWriteOn, hr, State.rdB, hm, hh, ha, lsSetOn]

end

theorem rd_lsAsked {g : Field} {v : Nat} (h : g.key ≠ (F.LS_REQ_ON n).key) : (lsAsked s n v).rd g = s.rd g := State.rd_wr_ne _ _ h

theorem lsAsked_within (v : Nat) : Within (partsMask [.trl, .rLs, .upd]) s (lsAsked s n v) :=
  Within.wr (i := 48) (by simp) (by decide) (by decide) (by decide) (hostNote_within (by decide) (Within.refl _ s))

theorem on_key {f : Field} (h : f.key / 32 ≠ 0x20701004 + 0x40 * min n.val 24) : f.key ≠ (F.LS_REQ_ON n).key := fun e => by
  rw [e] at h
  simp only [Field.key, F.LS_REQ_ON] at h
  omega

include hm

/-- ON switches on a channel of no group that nothing holds off. -/
theorem lsAsked_on (hp : s.rd (F.LS_CFG_PAR n) = 0) (h0 : lsState s n = 0) (ho : lsOverride s n = none) (hown : s.girth.ownLs.getLsbD n = true)
    (hok : lsProfOk s n = true) (hcond : lsCondOk s n = true) (hmode : s.mode ≠ mSERVICE)
    (hst : (s.lsCh n).stagger = false) (hhot : (s.lsCh n).hotOff = false) (huv : (s.lsCh n).uvOff = false) :
    lsFollow (lsAsked s n 1) n = lsSwitchOn (lsAsked s n 1) n := by
  have hkey : ∀ f : Field, f.key / 32 ≠ 0x20701004 + 0x40 * min n.val 24 → (lsAsked s n 1).rd f = s.rd f := fun f h => rd_lsAsked (on_key h)
  have hn := n.isLt
  have hm' : (lsAsked s n 1).rd (F.LS_STAT_MEMBER n) = 0 := (hkey _ (by simp only [Field.key, F.LS_STAT_MEMBER]; omega)).trans hm
  have hp' : (lsAsked s n 1).rd (F.LS_CFG_PAR n) = 0 := (hkey _ (by simp only [Field.key, F.LS_CFG_PAR]; omega)).trans hp
  have hst' : lsState (lsAsked s n 1) n = lsState s n := hkey _ (by simp only [Field.key, F.LS_STAT_STATE]; omega)
  have hprof : (lsAsked s n 1).rd (F.LS_CFG_PROFILE n) = s.rd (F.LS_CFG_PROFILE n) := hkey _ (by simp only [Field.key, F.LS_CFG_PROFILE]; omega)
  have hvalid : (lsAsked s n 1).rd F.LS_PVALID_VALID = s.rd F.LS_PVALID_VALID := hkey _ (by simp only [Field.key, F.LS_PVALID_VALID]; omega)
  have howner : ∀ k, (lsAsked s n 1).rd (F.LS_PROF_OWN_OWNER k) = s.rd (F.LS_PROF_OWN_OWNER k) := fun k =>
    hkey _ (by simp only [Field.key, F.LS_PROF_OWN_OWNER]; omega)
  have hplot : lsOwner (lsAsked s n 1) n = lsOwner s n :=
    (lsAsked_within 1).rd_eq (i := 53) (by simp) (by decide) (by decide)
  have hbank : (lsAsked s n 1).rd (F.LS_BANK_HOT (lsBank n)) = s.rd (F.LS_BANK_HOT (lsBank n)) := hkey _ (by simp only [Field.key, F.LS_BANK_HOT]; omega)
  have htj : (lsAsked s n 1).rd (F.LS_TJ_TJ n) = s.rd (F.LS_TJ_TJ n) := hkey _ (by simp only [Field.key, F.LS_TJ_TJ]; omega)
  have hlead : lsLead (lsAsked s n 1) n = n := lsLead_self hm'
  have hlead' : lsLead s n = n := lsLead_self hm
  have hok' : lsProfOk (lsAsked s n 1) n = true := by
    simpa [lsProfOk, lsProfValid, State.bit, hlead, hlead', hprof, hvalid, howner, hplot] using hok
  have hcond' : lsGroupCond (lsAsked s n 1) n = true := by
    have hfeed : lsFeedLow (lsAsked s n 1) n = lsFeedLow s n := rfl
    rw [lsGroupCond, hlead, lsGroup_single hp', List.all_cons, List.all_nil, Bool.and_true]
    rw [lsCondOk, State.rdB, State.rdI, hbank, htj, hfeed]
    exact hcond
  rw [lsFollow_single hp']
  exact lsUpdate_wanted (hst'.trans h0) ((lsOverride_within (lsAsked_within 1) hst' (by decide)).trans ho)
    (lsWanted_of_on hm' (State.rd_wr_of_lt _ (Nat.lt_of_lt_of_eq Nat.one_lt_two rfl)) hown (by rwa [(lsAsked_within 1).mode_eq (by decide)])) hok' hcond' hst hhot huv

end

/-! ## OFF and CLEAR -/

/-- A channel of no group that nothing asks for, freed of its latch, goes off. -/
theorem freed_goes_off {s u : State} {n : Nat} (hm : s.rd (F.LS_STAT_MEMBER n) = 0) (hp : s.rd (F.LS_CFG_PAR n) = 0) (hon : s.rd (F.LS_REQ_ON n) = 0)
    (hf : LsFrame n s u) (hst : lsState u n ≠ 3 ∧ lsState u n ≠ 4) (hov : lsOverride u n = none) (hsvc : (u.lsCh n).service = false) :
    lsFollow u n = lsSwitchOff u n 0 := by
  rw [lsFollow_single ((hf.regs _ (lsSpared_par n n)).trans hp)]
  exact lsUpdate_unwanted hst hov (lsWanted_of_off ((hf.regs _ (lsSpared_member n n)).trans hm) ((hf.regs _ (lsSpared_on n n)).trans hon) hsvc)

/-- A channel that is ON holds no latch and waits for no retry: nothing of it is freed but its waiting. -/
theorem lsDrop_on {s : State} {n : Nat} (h : lsState s n = 2) : lsState (lsDrop s n) n = 2 ∧
    ((lsDrop s n).lsCh n).service = (s.lsCh n).service ∧ Within lsMask s (lsDrop s n) := by
  have hr : lsState (s.wr (F.LS_STAT_RETRIES n) 0) n = 2 :=
    (lsState_wr_ne s 0 (by simp only [Field.key, F.LS_STAT_STATE, F.LS_STAT_RETRIES]; omega)).trans h
  have hun : lsUnlatch s n = s.wr (F.LS_STAT_RETRIES n) 0 := by simp [lsUnlatch, hr]
  have hd : lsDrop s n = (s.wr (F.LS_STAT_RETRIES n) 0).setLs n { s.lsCh n with stagger := false, retryDue := false, hotOff := false, uvOff := false } := by
    rw [lsDrop, hun]
    simp only [hr]
    rfl
  rw [hd]
  refine ⟨hr, ?_, State_setLs_within (by decide) (Within.wr (i := 48) (by simp) (by decide) (by decide) (by decide) (Within.refl _ s))⟩
  rw [lsCh_setLs]

theorem lsClearOn_off {s : State} {n : Nat} (hm : s.rd (F.LS_STAT_MEMBER n) = 0) (hp : s.rd (F.LS_CFG_PAR n) = 0) (h2 : lsState s n = 2)
    (ho : lsOverride s n = none) (hs : (s.lsCh n).service = false) :
    (lsClearOn s n).rd (F.LS_REQ_ON n) = 0 ∧ lsState (lsClearOn s n) n = 0 ∧ (lsClearOn s n).bit F.LS_ON_MAP_ON n = false := by
  have hkey : ∀ f : Field, f.key / 32 ≠ 0x20701004 + 0x40 * min n 24 → (s.wr (F.LS_REQ_ON n) 0).rd f = s.rd f := fun f h =>
    State.rd_wr_ne _ _ fun e => by
      rw [e] at h
      simp only [Field.key, F.LS_REQ_ON] at h
      omega
  have hon : (s.wr (F.LS_REQ_ON n) 0).rd (F.LS_REQ_ON n) = 0 := State.rd_wr_of_lt _ (Nat.two_pow_pos _)
  have hm' := (hkey (F.LS_STAT_MEMBER n) (by simp only [Field.key, F.LS_STAT_MEMBER]; omega)).trans hm
  have hp' := (hkey (F.LS_CFG_PAR n) (by simp only [Field.key, F.LS_CFG_PAR]; omega)).trans hp
  have h2' : lsState (s.wr (F.LS_REQ_ON n) 0) n = 2 := (hkey (F.LS_STAT_STATE n) (by simp only [Field.key, F.LS_STAT_STATE]; omega)).trans h2
  have hw : Within lsMask s (s.wr (F.LS_REQ_ON n) 0) := Within.wr (i := 48) (by simp) (by decide) (by decide) (by decide) (Within.refl _ s)
  have ho' : lsOverride (s.wr (F.LS_REQ_ON n) 0) n = none := (lsOverride_within hw (h2'.trans h2.symm) (by decide)).trans ho
  have hcl : lsClearOn s n = lsFollow (lsDrop (s.wr (F.LS_REQ_ON n) 0) n) n := by
    rw [lsClearOn, lsLead_self hm', lsGroup_single hp']
    rfl
  have hs' : ((s.wr (F.LS_REQ_ON n) 0).lsCh n).service = false := hs
  rw [hcl]
  generalize s.wr (F.LS_REQ_ON n) 0 = u at *
  obtain ⟨hst, hsvc, hwd⟩ := lsDrop_on h2'
  have hf := lsDrop_frame u n
  rw [freed_goes_off hm' hp' hon hf (by omega) ((lsOverride_within hwd (hst.trans h2'.symm) (by decide)).trans ho') (hsvc.trans hs')]
  obtain ⟨h0, hbit, -⟩ := lsSwitchOff_shows (lsDrop u n) n (st := 0) (by decide)
  refine ⟨?_, h0, hbit⟩
  rw [(lsSwitchOff_frame (lsDrop u n) n 0).regs _ (lsSpared_on n n), hf.regs _ (lsSpared_on n n)]
  exact hon

theorem hostNote_within_trl (s : State) (k : Nat) : Within (partsMask [.trl]) s (hostNote s k) := hostNote_within (by decide) (Within.refl _ s)

/-- A latched channel whose latch is cleared is off, its retries gone. -/
theorem lsUnlatch_latched {s : State} {n : Nat} (h : lsState s n = 4) : lsState (lsUnlatch s n) n = 0 ∧
    (lsUnlatch s n).rd (F.LS_STAT_RETRIES n) = 0 ∧ (lsUnlatch s n).lsCh n = s.lsCh n ∧ Within lsMask s (lsUnlatch s n) := by
  have h4 : lsState (s.wr (F.LS_STAT_RETRIES n) 0) n = 4 :=
    (lsState_wr_ne s 0 (by simp only [Field.key, F.LS_STAT_STATE, F.LS_STAT_RETRIES]; omega)).trans h
  have hun : lsUnlatch s n = lsRecord ((s.wr (F.LS_STAT_RETRIES n) 0).wr (F.LS_STAT_STATE n) 0) 5 n 0xFF n := by simp [lsUnlatch, h4]
  rw [hun]
  refine ⟨(lsState_record ..).trans (lsState_wr _ n 0), (rd_lsRecord _ (by simp) ..).trans ?_, lsCh_record .., ?_⟩
  · rw [State.rd_wr_ne _ _ (by simp only [Field.key, F.LS_STAT_STATE, F.LS_STAT_RETRIES]; omega)]
    exact State.rd_wr_of_lt _ (Nat.two_pow_pos _)
  · exact lsRecord_within (by decide) (Within.wr (i := 48) (by simp) (by decide) (by decide) (by decide)
      (Within.wr (i := 48) (by simp) (by decide) (by decide) (by decide) (Within.refl _ s)))

theorem lsWriteClear_latched {s : State} {r : Req} {n : Fin 24} (hr : r.forPlot (lsOwner s n) = true) (hm : s.rd (F.LS_STAT_MEMBER n) = 0)
    (hp : s.rd (F.LS_CFG_PAR n) = 0) (h4 : lsState s n = 4) (hon : s.rd (F.LS_REQ_ON n) = 0) (ho : lsOverride s n = none)
    (hs : (s.lsCh n).service = false) : lsWriteClear s r n = (lsSwitchOff (lsUnlatch s n) n 0).status 0 := by
  obtain ⟨h0, -, hch, hw⟩ := lsUnlatch_latched h4
  have hf := lsUnlatch_frame s n
  have hon' : (lsUnlatch s n).rdB (F.LS_REQ_ON n) = false := by simp [State.rdB, hf.regs _ (lsSpared_on n n), hon]
  have hwas : ([n.val].any fun m => lsState s m == 4) = true := by simp [h4]
  rw [← freed_goes_off hm hp hon hf (by omega) (lsOverride_none hw ho (by decide)) (by rw [hch]; exact hs), lsWriteClear, if_neg (by simp [hr]),
    if_neg (by simp [State.rdB, hm])]
  simp only [lsGroup_single hp, hwas, List.foldl_cons, List.foldl_nil, Bool.true_and, hon', Bool.false_eq_true, if_false]

/-! ## Service -/

theorem service_denied {s : State} {r : Req} {n : Fin 24} {d : BitVec 16} {c : Instr} {e : Nat} (hlive : windowDead s F.LS_SVC_CH.addr = false)
    (hc : c = .lsServiceOn r n d ∨ c = .lsServiceOff r n)
    (h : e = 0x0207 ∧ r.supOrStitch = false ∨ e = 0x0303 ∧ r.supOrStitch = true ∧ (s.mode ≠ mSERVICE ∨ s.rd (F.LS_STAT_MEMBER n) = 1)) :
    exec c s = .next (s.status e) := by
  have he : e ≠ 0x0110 ∧ e ≠ 0x0610 ∧ e ≠ 0x0611 := by omega
  have hn : ¬ 24 ≤ n.val := by omega
  have hsvc : ∀ on k, lsWriteSvc s r n on k = s.status e := by
    intro on k
    obtain ⟨rfl, h⟩ | ⟨rfl, h, hmode | hm⟩ := h
    · simp [lsWriteSvc, h]
    · simp [lsWriteSvc, h, hmode]
    · by_cases hmode : s.mode = mSERVICE
      · simp [lsWriteSvc, h, hmode, hn, State.rdB, hm]
      · simp [lsWriteSvc, h, hmode]
  obtain rfl | rfl := hc
  · exact exec_lsService hlive (hsvc true d.toNat) he
  · exact exec_lsService hlive (hsvc false 0) he

section
variable {s : State} {r : Req} {n : Fin 24} (hr : r.supOrStitch = true) (hmode : s.mode = mSERVICE) (hm : s.rd (F.LS_STAT_MEMBER n) = 0)
include hr hmode hm

theorem lsWriteSvc_time {k : Nat} (h : k = 0 ∨ 600 < k) : lsWriteSvc s r n true k = s.status 0x0301 := by
  have hn : ¬ 24 ≤ n.val := by omega
  have hout : outside k 1 600 = true := by
    simp only [outside, Bool.or_eq_true, decide_eq_true_eq]
    omega
  simp [lsWriteSvc, hr, hmode, hn, State.rdB, hm, hout]

theorem lsWriteSvc_on {k : Nat} (h₁ : 1 ≤ k) (h₂ : k ≤ 600) :
    lsWriteSvc s r n true k = (lsFollow (s.setLs n { s.lsCh n with service := true, svcEnd := s.now + 80000000 * k }) n).status 0 := by
  have hn : ¬ 24 ≤ n.val := by omega
  have hout : outside k 1 600 = false := by
    simp only [outside, Bool.or_eq_false_iff, decide_eq_false_iff_not]
    omega
  simp [lsWriteSvc, hr, hmode, hn, State.rdB, hm, hout]

theorem lsWriteSvc_off : lsWriteSvc s r n false 0 = (lsServiceEnd s n).status 0 := by
  have hn : ¬ 24 ≤ n.val := by omega
  simp [lsWriteSvc, hr, hmode, hn, State.rdB, hm]

end

/-- A channel that follows its sources keeps its service operation. -/
theorem lsFollow_service {s : State} {n : Nat} (hp : s.rd (F.LS_CFG_PAR n) = 0) (c : LsCh) :
    ((lsFollow (s.setLs n c) n).lsCh n).service = c.service ∧ ((lsFollow (s.setLs n c) n).lsCh n).svcEnd = c.svcEnd := by
  rw [lsFollow_single (s := s.setLs n c) hp]
  obtain h | h | ⟨h, -⟩ := lsUpdate_ch (s.setLs n c) n <;> rw [h]
  · rw [lsCh_setLs]; exact ⟨rfl, rfl⟩
  · rw [lsCh_setLs]; exact ⟨rfl, rfl⟩
  · rw [lsStarted, lsCh_setLs]; exact ⟨rfl, rfl⟩

theorem lsServiceEnd_ends {s : State} {n : Nat} (hp : s.rd (F.LS_CFG_PAR n) = 0) : ((lsServiceEnd s n).lsCh n).service = false :=
  (lsFollow_service hp { s.lsCh n with service := false }).1

theorem exec_lsServiceExpiry (s : State) (n : Fin 24) : exec (.lsServiceExpiry n) s =
    .next (if (s.lsCh n).service && decide ((s.lsCh n).svcEnd ≤ s.now) then lsServiceEnd s n else s) := rfl

/-! ## Profiles -/

section
variable {s : State} {r : Req} {x : Fin 16}

theorem lsWritePchk_low (hx : x.val < 8) : lsWritePchk s r x = s.status (if r matches .plot _ | .stitch .. then 0x0206 else 0x0207) := by
  unfold lsWritePchk
  rw [if_pos hx]
  cases r <;> rfl

section
variable (hx : 8 ≤ x.val)
include hx

theorem lsWritePchk_foreign (hr : r.forPlot (s.rd (F.LS_PROF_OWN_OWNER (x.val - 8))) = false) : lsWritePchk s r x = s.status 0x0206 := by
  simp [lsWritePchk, Nat.not_lt.mpr hx, hr]

theorem lsWritePchk_checks (hr : r.forPlot (s.rd (F.LS_PROF_OWN_OWNER (x.val - 8))) = true) : lsWritePchk s r x = lsCheckProf s x := by
  simp [lsWritePchk, Nat.not_lt.mpr hx, hr]

theorem lsWriteProf_foreign (hr : r.forPlot (s.rd (F.LS_PROF_OWN_OWNER (x.val - 8))) = false) (w : Nat) (v : Word) :
    lsWriteProf s r x w v = s.status 0x0206 := by
  simp [lsWriteProf, Nat.not_lt.mpr hx, hr]

theorem lsWriteProf_own (hr : r.forPlot (s.rd (F.LS_PROF_OWN_OWNER (x.val - 8))) = true) (w : Nat) (v : Word) :
    lsWriteProf s r x w v = ((s.wr (F.LS_PROF_DATA x w) v.toNat).clrBit F.LS_PVALID_VALID x).status 0 := by
  simp [lsWriteProf, Nat.not_lt.mpr hx, hr]

end

theorem lsCheckProf_ok (h : profFault (lsProfBytes s x) = none) : lsCheckProf s x = (s.setBit F.LS_PVALID_VALID x).status 0 := by
  rw [lsCheckProf, h]

theorem lsCheckProf_fault {why seg : Nat} (h : profFault (lsProfBytes s x) = some (why, seg)) : lsCheckProf s x =
    ((((s.clrBit F.LS_PVALID_VALID x).wr F.LS_PERR_X x).wr F.LS_PERR_REASON why).wr F.LS_PERR_SEG seg).status 0x0309 := by
  rw [lsCheckProf, h]

end

theorem bit_clrBit_self (s : State) (f : Field) (i : Nat) : (s.clrBit f i).bit f i = false := by
  rw [State.bit_clrBit]
  simp

theorem bit_setBit_self (s : State) {f : Field} {i : Nat} (h : i < f.w) : (s.setBit f i).bit f i = true := by
  rw [State.bit_setBit]
  simp [h]

/-! ## Paralleling -/

section
variable {s : State} {r : Req} {n : Fin 24} (hr : r.forPlot (lsOwner s n) = true)
include hr

theorem parallel_conducting (hst : lsState s n = 1 ∨ lsState s n = 2) (prof par shed : Nat) : lsWriteCfg s r n prof par shed = s.status 0x0303 := by
  rw [lsWriteCfg]
  dsimp only
  rw [if_neg (by simp [hr])]
  split
  · rfl
  · rw [if_pos (by obtain h | h := hst <;> simp [h])]

end

/-- A next channel of the same plot and bank, free, may join. -/
theorem lsWriteCfg_pair {s : State} {r : Req} {n : Fin 24} (hr : r.forPlot (lsOwner s n) = true) (hm : s.rd (F.LS_STAT_MEMBER n) = 0)
    (h0 : lsState s n = 0) (hprof : s.rd (F.LS_CFG_PROFILE n) < 8) (hp : s.rd (F.LS_CFG_PAR n) = 0) (hbank : n.val % 6 ≠ 5)
    (hown : lsOwner s (n + 1) = lsOwner s n) (hfree : lsMemberFree s (n.val + 1) = true) (shed : Nat) :
    lsWriteCfg s r n (s.rd (F.LS_CFG_PROFILE n.val)) 2 shed =
      (((((s.wr (F.LS_CFG_PAR n) 0).wr (F.LS_CFG_PAR n) 2).wr (F.LS_STAT_MEMBER (n.val + 1)) 1).wr (F.LS_CFG_PROFILE n) (s.rd (F.LS_CFG_PROFILE n.val))).wr
        (F.LS_CFG_SHED n) shed).status 0 := by
  have hn := n.isLt
  have hbare : lsRegroup s n 0 = s.wr (F.LS_CFG_PAR n) 0 := by simp [lsRegroup, hp, parMembers]
  have hp' : (s.wr (F.LS_CFG_PAR n) 0).rd (F.LS_CFG_PAR n) = 0 := State.rd_wr_of_lt _ (Nat.two_pow_pos _)
  have hpair : lsRegroup (s.wr (F.LS_CFG_PAR n) 0) n 2 = ((s.wr (F.LS_CFG_PAR n) 0).wr (F.LS_CFG_PAR n) 2).wr (F.LS_STAT_MEMBER (n.val + 1)) 1 := by
    simp [lsRegroup, hp', parMembers]
  have hkey : ∀ f : Field, f.key ≠ (F.LS_CFG_PAR n).key → (s.wr (F.LS_CFG_PAR n) 0).rd f = s.rd f := fun f h => State.rd_wr_ne _ _ h
  have howner : ∀ m, lsOwner (s.wr (F.LS_CFG_PAR n) 0) m = lsOwner s m := fun m =>
    hkey _ (by simp only [Field.key, F.PC_LS_OWN_OWNER, F.LS_CFG_PAR]; omega)
  have hfree' : lsMemberFree (s.wr (F.LS_CFG_PAR n) 0) (n.val + 1) = true := by
    have hst : lsState (s.wr (F.LS_CFG_PAR n) 0) (n.val + 1) = lsState s (n.val + 1) :=
      hkey _ (by simp only [Field.key, F.LS_STAT_STATE, F.LS_CFG_PAR]; omega)
    have hmem := hkey (F.LS_STAT_MEMBER (n.val + 1)) (by simp only [Field.key, F.LS_STAT_MEMBER, F.LS_CFG_PAR]; omega)
    have hpar := hkey (F.LS_CFG_PAR (n.val + 1)) (by simp only [Field.key, F.LS_CFG_PAR]; omega)
    rw [lsMemberFree, State.rdB, hst, hmem, hpar]
    exact hfree
  have hbank' : (n.val + 1) / 6 = n.val / 6 := by omega
  have hok : parRefusal (s.wr (F.LS_CFG_PAR n) 0) n 2 = none := by
    simp [parRefusal, parMembers, hbank', howner, hown, hfree']
  rw [lsWriteCfg]
  dsimp only
  rw [if_neg (by simp [hr]), if_neg (by simp [State.rdB, hm]), if_neg (by simp [h0]), if_neg (by simp; omega), hbare, hok, hpair]

/-- Settles O40. -/
theorem loadSwitchRequests : Obligations.LoadSwitchRequests := by
  refine ⟨fun s r n b p c hl hl' hc hr => request_denied hl hl' hc (.inl ⟨rfl, hr⟩), fun s r n b p c hl hl' hc hr hm => request_denied hl hl' hc (.inr ⟨rfl, hr, hm⟩),
    fun s r n hl hr hmode => ?_, fun s r n hl hr hh ha hm hmode hp h0 ho hown hok hcond hst hhot huv hdue => ?_,
    fun s r n hl hr hh ha hm hp h2 ho hs => ?_, fun s r n hl hr hm hp h4 hon ho hs => ?_,
    fun s r n d c hl hc hr => service_denied hl hc (.inl ⟨rfl, hr⟩), fun s r n d c hl hc hr h => service_denied hl hc (.inr ⟨rfl, hr, h⟩),
    fun s r n d hl hr hmode hm hd => exec_lsService hl (lsWriteSvc_time hr hmode hm hd) (by decide),
    fun s r n d hl hr hmode hm h₁ h₂ hp => ⟨_, exec_lsService hl (lsWriteSvc_on hr hmode hm h₁ h₂) (by decide), rfl, lsFollow_service hp _⟩,
    fun s r n hl hr hmode hm hp => ⟨_, exec_lsService hl (lsWriteSvc_off hr hmode hm) (by decide), rfl, lsServiceEnd_ends hp⟩,
    fun s n hs hend hp => ⟨_, (exec_lsServiceExpiry s n).trans (congrArg _ (if_pos (by simp [hs, hend]))), lsServiceEnd_ends hp⟩, fun s n h => ?_,
    fun s r x hl hx => ?_, fun s r x hl hx hr => exec_lsPchk hl (lsWritePchk_foreign hx hr) (by decide),
    fun s r x hl hx hr h => ⟨_, exec_lsPchk hl ((lsWritePchk_checks hx hr).trans (lsCheckProf_ok h)) (by decide), rfl,
      bit_setBit_self s (Nat.lt_of_lt_of_eq x.isLt rfl), (s.RegsBut_refl _).set (g := F.LS_PVALID_VALID) (by simp) rfl⟩,
    fun s r x why seg hl hx hr h => ⟨_, exec_lsPchk hl ((lsWritePchk_checks hx hr).trans (lsCheckProf_fault h)) (by decide), rfl, ?_, ?_, ?_, ?_⟩,
    fun s r x w v hl hx hr => exec_lsProfWrite hl (lsWriteProf_foreign hx hr w v) (by decide),
    fun s r x w v hl hx hr => ⟨_, exec_lsProfWrite hl (lsWriteProf_own hx hr w v) (by decide), rfl, ?_, bit_clrBit_self .., ?_⟩,
    fun s r n p hl hr hst => exec_lsParallelSet hl (parallel_conducting hr hst ..) (by decide),
    fun s r n hl hr hm h0 hprof hp hbank hown hfree => ?_⟩
  · refine exec_lsReqOn hl ?_ (by decide)
    rw [lsWriteOn, if_neg (by simp [hr])]
    split
    · rfl
    · rw [if_pos (by simp [hmode])]
  · have hkey : ∀ f : Field, f.key / 32 ≠ 0x20701004 + 0x40 * min n.val 24 → (lsAsked s n 1).rd f = s.rd f := fun f h => rd_lsAsked (on_key h)
    have hop := (lsWriteOn_on hr hh ha hm hmode).trans (congrArg (State.status · 0) (lsAsked_on hm hp h0 ho hown hok hcond hmode hst hhot huv))
    have hm' : (lsAsked s n 1).rd (F.LS_STAT_MEMBER n) = 0 := (hkey _ (by simp only [Field.key, F.LS_STAT_MEMBER]; omega)).trans hm
    have hon' : (lsAsked s n 1).rd (F.LS_REQ_ON n) = 1 := State.rd_wr_of_lt _ (Nat.lt_of_lt_of_eq Nat.one_lt_two rfl)
    have hregs : s.RegsBut (lsAsked s n 1) [F.LS_REQ_ON n] := ((s.RegsBut_refl _).of_regs rfl).set (g := F.LS_REQ_ON n) (by simp) rfl
    have hmode' : (lsAsked s n 1).mode ≠ mSERVICE := by rwa [(lsAsked_within 1).mode_eq (by decide)]
    obtain ⟨-, hbit, hseg, -⟩ := lsSwitchOn_shows (lsAsked s n 1) n.isLt
    have hdue' : ((lsAsked s n 1).lsCh n).retryDue = false := hdue
    have hown' : (lsAsked s n 1).girth.ownLs.getLsbD n = true := hown
    generalize lsAsked s n 1 = u at *
    refine ⟨_, exec_lsReqOn hl hop (by decide), rfl, ((lsSwitchOn_frame u n).regs _ (lsSpared_on n n)).trans hon', lsSwitchOn_inrush hm' hon' hown' hmode', hbit, hseg, ?_⟩
    exact (hregs.mono (by simp)).trans ((lsSwitchOn_regs hdue').mono (by simp))
  · have hw := hostNote_within_trl s n
    have ho' : lsOverride (hostNote s n) n = none := (lsOverride_within hw rfl (by decide)).trans ho
    exact ⟨_, exec_lsReqOn hl (lsWriteOn_off hr hh ha hm) (by decide), rfl, lsClearOn_off (s := hostNote s n) hm hp h2 ho' hs⟩
  · obtain ⟨h0, hret, -, -⟩ := lsUnlatch_latched h4
    obtain ⟨hst, -, -⟩ := lsSwitchOff_shows (lsUnlatch s n) n (st := 0) (by decide)
    refine ⟨_, exec_lsClear hl (lsWriteClear_latched hr hm hp h4 hon ho hs) (by decide), rfl, hst, (rd_lsSwitchOff_ne _ _ _ ?_ ?_ ?_ ?_).trans hret⟩ <;>
      simp only [Field.key, F.LS_STAT_RETRIES, F.LS_STAT_STATE, F.LS_STAT_LIMITING, F.LS_STAT_UV_HELD, F.LS_ON_MAP_ON] <;> omega
  · refine (exec_lsServiceExpiry s n).trans (congrArg _ (if_neg ?_))
    obtain h | h := h <;> simp [h]
  · exact exec_lsPchk hl (lsWritePchk_low hx) (by cases r <;> simp)
  · exact (State.bit_congr ((State.rd_wr_ne _ _ (by decide)).trans ((State.rd_wr_ne _ _ (by decide)).trans (State.rd_wr_ne _ _ (by decide)))) _).trans
      (bit_clrBit_self ..)
  · exact (State.rd_wr_ne _ _ (by decide)).trans ((State.rd_wr_ne _ _ (by decide)).trans (State.rd_wr_of_lt _ (Nat.lt_of_lt_of_eq x.isLt rfl)))
  · exact (State.rd_wr_ne _ _ (by decide)).trans (State.rd_wr_self ..)
  · exact State.rd_wr_self ..
  · exact (State.rd_clrBit_ne _ _ (by simp only [Field.key, F.LS_PROF_DATA, F.LS_PVALID_VALID]; omega)).trans (State.rd_wr_of_lt _ v.isLt)
  · exact ((s.RegsBut_refl _).set (g := F.LS_PROF_DATA x w) (by simp) rfl).set (g := F.LS_PVALID_VALID) (by simp) rfl
  · refine ⟨_, exec_lsParallelSet hl (lsWriteCfg_pair hr hm h0 hprof hp hbank hown hfree _) (by decide), rfl, ?_, ?_, ?_⟩
    · refine (State.rd_wr_ne _ _ ?_).trans ((State.rd_wr_ne _ _ ?_).trans ((State.rd_wr_ne _ _ ?_).trans (State.rd_wr_of_lt _ (Nat.lt_of_lt_of_eq (m := 4) (by decide) rfl)))) <;>
        simp only [Field.key, F.LS_CFG_PAR, F.LS_CFG_SHED, F.LS_CFG_PROFILE, F.LS_STAT_MEMBER] <;> omega
    · refine (State.rd_wr_ne _ _ ?_).trans ((State.rd_wr_ne _ _ ?_).trans (State.rd_wr_of_lt _ (Nat.lt_of_lt_of_eq Nat.one_lt_two rfl))) <;>
        simp only [Field.key, F.LS_CFG_SHED, F.LS_CFG_PROFILE, F.LS_STAT_MEMBER] <;> omega
    · exact (((((s.RegsBut_refl _).set (g := F.LS_CFG_PAR n) (by simp) rfl).set (g := F.LS_CFG_PAR n) (by simp) rfl).set
        (g := F.LS_STAT_MEMBER (n.val + 1)) (by simp) rfl).set (g := F.LS_CFG_PROFILE n) (by simp) rfl).set (g := F.LS_CFG_SHED n) (by simp) rfl

end Sys2Proof.Machine
end

section
/-! A load switch passes between partners (R338). -/

namespace Sys2Proof.Machine

/-! ## Channel maps with one bit changed -/

theorem getLsbD_bit (n : Fin 24) (j : Nat) : (BitVec.ofNat 24 (2 ^ n.val)).getLsbD j = decide (n.val = j) := by
  rw [BitVec.getLsbD_ofNat, Nat.testBit_two_pow]
  by_cases h : n.val = j
  · subst h
    simp [n.isLt]
  · simp [h]

theorem getLsbD_setBit (b : BitVec 24) (n : Fin 24) : (b ||| BitVec.ofNat 24 (2 ^ n.val)).getLsbD n = true := by
  rw [BitVec.getLsbD_or, getLsbD_bit]
  simp

theorem getLsbD_clrBit (b : BitVec 24) (n : Fin 24) : (b &&& ~~~BitVec.ofNat 24 (2 ^ n.val)).getLsbD n = false := by
  rw [BitVec.getLsbD_and, BitVec.getLsbD_not, getLsbD_bit]
  simp

theorem rd_subSync_blk {f : Field} {i : Nat} (hb : Blk f i) (hi : 41 < i ∧ i < 60)
    (hK : (partsMask [.rGirth, .substate, .upd]).testBit i = false) (s : State) : (subSync s).rd f = s.rd f :=
  Within.rd_eq (subSync_within (by decide) (Within.refl _ s)) hb hi hK

/-! ## What the operations on channels keep of a release -/

/-- An operation leaves whether channel `n` is being released. -/
theorem releasing_of_ch {s t : State} {n : Nat} (h : t.lsCh n = s.lsCh n ∨ t.lsCh n = { s.lsCh n with running := false } ∨ t.lsCh n = lsStarted s n) :
    (t.lsCh n).releasing = (s.lsCh n).releasing := by
  obtain h | h | h := h <;> rw [h]
  rfl

theorem lsUpdate_releasing (s : State) (m n : Nat) : ((lsUpdate m s).lsCh n).releasing = (s.lsCh n).releasing := by
  by_cases h : n = m
  · subst h
    exact releasing_of_ch ((lsUpdate_ch s n).imp_right (.imp_right And.left))
  · rw [(lsUpdate_frame s m).chans n h]

theorem lsUnlatch_lsCh (s : State) (m n : Nat) : (lsUnlatch s m).lsCh n = s.lsCh n := by
  unfold lsUnlatch
  dsimp only
  split
  · exact lsCh_record ..
  · rfl

theorem lsDrop_releasing (s : State) (m n : Nat) : ((lsDrop s m).lsCh n).releasing = (s.lsCh n).releasing := by
  by_cases h : n = m
  · subst h
    have hun := lsUnlatch_lsCh s n n
    unfold lsDrop
    extract_lets t u
    have hu : u.lsCh n = s.lsCh n := by
      simp only [u]
      split <;> exact hun
    rw [lsCh_setLs, ← hu]
  · rw [(lsDrop_frame s m).chans n h]

theorem lsFollow_releasing (s : State) (m n : Nat) : ((lsFollow s m).lsCh n).releasing = (s.lsCh n).releasing :=
  foldl_keeps (fun t => (State.lsCh t n).releasing) (fun t k => lsUpdate_releasing t k n) s _

theorem lsClearOn_releasing (s : State) (m n : Nat) : ((lsClearOn s m).lsCh n).releasing = (s.lsCh n).releasing := by
  rw [lsClearOn, lsFollow_releasing]
  exact foldl_keeps (fun t => (State.lsCh t n).releasing) (fun t k => lsDrop_releasing t k n) _ _

theorem lsFollow_spared {g : Field} (hg : ∀ m, LsSpared m g) (s : State) (n : Nat) : (lsFollow s n).rd g = s.rd g :=
  rd_foldl_ls (f := fun t m => lsUpdate m t) (fun t m => lsUpdate_frame t m) hg ..

theorem lsClearOn_spared {g : Field} (hg : ∀ m, LsSpared m g) {n : Nat} (hne : g.key ≠ (F.LS_REQ_ON n).key) (s : State) : (lsClearOn s n).rd g = s.rd g := by
  rw [lsClearOn, lsFollow_spared hg, rd_foldl_ls lsDrop_frame hg, State.rd_wr_ne _ _ hne]

theorem lsClearOn_parts (s : State) (n : Nat) : Within lsMask s (lsClearOn s n) := lsClearOn_within (by decide) (Within.refl _ s)

/-! ## The receiving side -/

theorem exec_releaseRequest_no {s : State} {n : Fin 24} (h : s.rd F.XL_STAT_LINK = 0 ∨ s.girth.unpaired = true) :
    exec (.lsReleaseRequest n) s = .next s := by
  have hno : (!s.rdB F.XL_STAT_LINK || s.girth.unpaired) = true := by
    obtain h | h := h <;> simp [State.rdB, h]
  simp only [exec, execLsReleaseRequest, hno, if_true]

/-- The channel taken over: owned, no longer among those gone, and requested. -/
def lsTaken (s : State) (n : Fin 24) : State :=
  (subSync (State.clrBit { s with girth := { s.girth with ownLs := s.girth.ownLs ||| BitVec.ofNat 24 (2 ^ n.val) } } F.STR_GONE_LS_GONE n)).hwWr (F.LS_REQ_ON n) 1

/-- The confirmation of a channel that conducts here. -/
def lsConfirmed (s : State) (n : Fin 24) : State :=
  ((s.setLs n { s.lsCh n with relAt := s.now }).wr (F.LS_STAT_SHARED n) 1).emit (.xl (.lsConfirm n))

theorem exec_releaseRequest {s : State} {n : Fin 24} (hl : s.rd F.XL_STAT_LINK = 1) (hu : s.girth.unpaired = false) :
    exec (.lsReleaseRequest n) s = .next (if lsConducts (lsState (lsFollow (lsTaken s n) n) n) then lsConfirmed (lsFollow (lsTaken s n) n) n
      else lsFollow (lsTaken s n) n) := by
  have hgo : ¬ (!s.rdB F.XL_STAT_LINK || s.girth.unpaired) = true := by simp [State.rdB, hl, hu]
  simp only [exec, execLsReleaseRequest]
  rw [if_neg hgo]
  rfl

theorem lsTaken_shows (s : State) (n : Fin 24) : (lsTaken s n).girth.ownLs.getLsbD n = true ∧ (lsTaken s n).rd (F.LS_REQ_ON n) = 1 ∧
    (lsTaken s n).bit F.STR_GONE_LS_GONE n = false := by
  refine ⟨getLsbD_setBit _ n, State.rd_hwWr_self .., ?_⟩
  rw [lsTaken, State.bit_congr ((State.rd_hwWr_ne _ _ ?_).trans (rd_subSync (by decide) (by decide) _)), bit_clrBit_self]
  simp only [Field.key, F.STR_GONE_LS_GONE, F.LS_REQ_ON]
  omega

theorem lsReleaseRequest_takes {s : State} {n : Fin 24} (hl : s.rd F.XL_STAT_LINK = 1) (hu : s.girth.unpaired = false) :
    Ends (.lsReleaseRequest n) s fun t => t.girth.ownLs.getLsbD n = true ∧ t.rd (F.LS_REQ_ON n) = 1 ∧ t.bit F.STR_GONE_LS_GONE n = false ∧
      (lsConducts (lsState t n) = true → t.rd (F.LS_STAT_SHARED n) = 1 ∧ .xl (.lsConfirm n) ∈ t.out) := by
  refine ⟨_, exec_releaseRequest hl hu, ?_⟩
  obtain ⟨hown, hon, hgone⟩ := lsTaken_shows s n
  have hw : Within lsMask (lsTaken s n) (lsFollow (lsTaken s n) n) := lsFollow_within (by decide) (Within.refl _ _)
  have hown' : (lsFollow (lsTaken s n) n).girth.ownLs.getLsbD n = true := by rw [hw.same .girth (by decide)]; exact hown
  have hon' : (lsFollow (lsTaken s n) n).rd (F.LS_REQ_ON n) = 1 := (lsFollow_spared (fun m => lsSpared_on m n) ..).trans hon
  have hgone' : (lsFollow (lsTaken s n) n).bit F.STR_GONE_LS_GONE n = false :=
    (State.bit_congr (hw.rd_eq (f := F.STR_GONE_LS_GONE) (i := 49) rfl (by decide) (by decide)) _).trans hgone
  generalize lsFollow (lsTaken s n) n = u at *
  split
  · next hc =>
    have hst : (F.LS_REQ_ON n).key ≠ (F.LS_STAT_SHARED n).key := by
      simp only [Field.key, F.LS_REQ_ON, F.LS_STAT_SHARED]
      omega
    have hgk : F.STR_GONE_LS_GONE.key ≠ (F.LS_STAT_SHARED n).key := by
      simp only [Field.key, F.STR_GONE_LS_GONE, F.LS_STAT_SHARED]
      omega
    exact ⟨hown', (State.rd_wr_ne _ _ hst).trans hon', (State.bit_congr (State.rd_wr_ne _ _ hgk) _).trans hgone',
      fun _ => ⟨State.rd_wr_of_lt _ (Nat.lt_of_lt_of_eq Nat.one_lt_two rfl), List.mem_append_right _ (List.mem_singleton_self _)⟩⟩
  · next hc => exact ⟨hown', hon', hgone', fun h => absurd h hc⟩

/-! ## The releasing side -/

theorem exec_releaseConfirm (s : State) (n : Fin 24) : exec (.lsReleaseConfirm n) s = .next (if s.girth.offered.getLsbD n then
      (s.wr (F.LS_STAT_SHARED n) 1).setLs n { s.lsCh n with releasing := true, relAt := s.now } else s) := rfl

/-- The end of an overlap: the channel released, off and gone. -/
def lsReleased (s : State) (n : Fin 24) : State :=
  let bit := BitVec.ofNat 24 (2 ^ n.val)
  let s := s.setLs n { s.lsCh n with releasing := false, quietAt := s.now }
  State.wr { s with girth := { s.girth with ownLs := s.girth.ownLs &&& ~~~bit, offered := s.girth.offered &&& ~~~bit } } (F.LS_STAT_SHARED n) 0

theorem exec_overlapEnd {s : State} {n : Fin 24} (hs : s.rd (F.LS_STAT_SHARED n) = 1) (ho : overlapOver s n = true) :
    exec (.lsOverlapEnd n) s = .next (if !(s.lsCh n).releasing then (s.setLs n { s.lsCh n with quietAt := s.now }).wr (F.LS_STAT_SHARED n) 0
      else subSync ((((lsClearOn (lsReleased s n) n).hwWr (F.LS_REQ_ON n) 0).setBit F.STR_GONE_LS_GONE n).wr (F.LS_STAT_EXT_DRIVEN n) 1)) := by
  have hgo : ¬ (!s.rdB (F.LS_STAT_SHARED n) || !overlapOver s n) = true := by simp [State.rdB, hs, ho]
  simp only [exec, execLsOverlapEnd]
  rw [if_neg hgo, apply_ite Host.Outcome.next]
  rfl

theorem lsOverlapEnd_releases {s : State} {n : Fin 24} (hs : s.rd (F.LS_STAT_SHARED n) = 1) (ho : overlapOver s n = true)
    (hr : (s.lsCh n).releasing = true) : Ends (.lsOverlapEnd n) s fun t =>
      t.girth.ownLs.getLsbD n = false ∧ t.rd (F.LS_REQ_ON n) = 0 ∧ t.rd (F.LS_STAT_SHARED n) = 0 ∧
        t.bit F.STR_GONE_LS_GONE n = true ∧ t.rd (F.LS_STAT_EXT_DRIVEN n) = 1 ∧ (t.lsCh n).releasing = false := by
  refine ⟨_, (exec_overlapEnd hs ho).trans (congrArg _ (if_neg (by simp [hr]))), ?_⟩
  have hown : (lsClearOn (lsReleased s n) n).girth.ownLs.getLsbD n = false := by
    rw [(lsClearOn_parts (lsReleased s n) n).same .girth (by decide)]
    exact getLsbD_clrBit _ n
  have hshared : (lsClearOn (lsReleased s n) n).rd (F.LS_STAT_SHARED n) = 0 := by
    rw [lsClearOn_spared (fun m => lsSpared_shared m n) (by simp only [Field.key, F.LS_STAT_SHARED, F.LS_REQ_ON]; omega)]
    exact State.rd_wr_of_lt _ (Nat.two_pow_pos _)
  have hrel : ((lsClearOn (lsReleased s n) n).lsCh n).releasing = false := by
    rw [lsClearOn_releasing]
    exact congrArg LsCh.releasing (lsCh_setLs ..)
  generalize lsClearOn (lsReleased s n) n = u at *
  have hsub : ∀ {f : Field}, Blk f 48 → (subSync (((u.hwWr (F.LS_REQ_ON n) 0).setBit F.STR_GONE_LS_GONE n).wr (F.LS_STAT_EXT_DRIVEN n) 1)).rd f =
      (((u.hwWr (F.LS_REQ_ON n) 0).setBit F.STR_GONE_LS_GONE n).wr (F.LS_STAT_EXT_DRIVEN n) 1).rd f := fun hb =>
    rd_subSync_blk hb (by decide) (by decide) _
  have hgone : ((subSync (((u.hwWr (F.LS_REQ_ON n) 0).setBit F.STR_GONE_LS_GONE n).wr (F.LS_STAT_EXT_DRIVEN n) 1))).rd F.STR_GONE_LS_GONE =
      ((u.hwWr (F.LS_REQ_ON n) 0).setBit F.STR_GONE_LS_GONE n).rd F.STR_GONE_LS_GONE :=
    (rd_subSync_blk (f := F.STR_GONE_LS_GONE) (i := 49) rfl (by decide) (by decide) _).trans (State.rd_wr_ne _ _ (by simp only [Field.key, F.STR_GONE_LS_GONE, F.LS_STAT_EXT_DRIVEN]; omega))
  refine ⟨hown, ?_, ?_, (State.bit_congr hgone _).trans (bit_setBit_self _ (Nat.lt_of_lt_of_eq n.isLt rfl)), ?_, hrel⟩
  · rw [hsub (by simp), State.rd_wr_ne _ _ (by simp only [Field.key, F.LS_REQ_ON, F.LS_STAT_EXT_DRIVEN]; omega),
      State.rd_setBit_ne _ _ (by simp only [Field.key, F.LS_REQ_ON, F.STR_GONE_LS_GONE]; omega)]
    exact (State.rd_hwWr_self ..).trans (Nat.zero_mod _)
  · rw [hsub (by simp), State.rd_wr_ne _ _ (by simp only [Field.key, F.LS_STAT_SHARED, F.LS_STAT_EXT_DRIVEN]; omega),
      State.rd_setBit_ne _ _ (by simp only [Field.key, F.LS_STAT_SHARED, F.STR_GONE_LS_GONE]; omega),
      State.rd_hwWr_ne _ _ (by simp only [Field.key, F.LS_STAT_SHARED, F.LS_REQ_ON]; omega)]
    exact hshared
  · rw [hsub (by simp)]
    exact State.rd_wr_of_lt _ (Nat.lt_of_lt_of_eq Nat.one_lt_two rfl)

/-! ## A release that fails -/

/-- What a failed release leaves of channel `n`: not offered, its fault shown, no longer shared nor released. -/
structure RelFailed (n : Fin 24) (s : State) : Prop where
  offered : s.girth.offered.getLsbD n = false
  fault : s.rd (lsFltBit n 11) = 1
  shared : s.rd (F.LS_STAT_SHARED n) = 0
  released : (s.lsCh n).releasing = false

/-- What touches neither the load switches nor Girth's channel maps keeps a failed release. -/
theorem RelFailed.keep {n : Fin 24} {s t : State} (h : RelFailed n s) (hg : t.girth.offered = s.girth.offered)
    (hrd : ∀ f ∈ [lsFltBit n 11, F.LS_STAT_SHARED n], t.rd f = s.rd f) (hr : (t.lsCh n).releasing = (s.lsCh n).releasing) : RelFailed n t := by
  simp only [List.forall_mem_cons] at hrd
  obtain ⟨hf, hs, -⟩ := hrd
  exact ⟨by rw [hg]; exact h.offered, hf.trans h.fault, hs.trans h.shared, hr.trans h.released⟩

theorem RelFailed.within {K : Nat} {n : Fin 24} {s t : State} (h : RelFailed n s) (hw : Within K s t) (hg : t.girth.offered = s.girth.offered)
    (hK : K.testBit 48 = false) (hls : K.testBit Part.ls.bit = false) : RelFailed n t := by
  refine h.keep hg ?_ (by rw [State.lsCh, State.lsCh, hw.same .ls hls])
  simp only [List.forall_mem_cons]
  exact ⟨hw.rd_eq (lsFltBit_blk n 11) (by decide) hK, hw.rd_eq (LS_STAT_SHARED_blk n) (by decide) hK, by simp⟩

/-- An update of a channel keeps the fault of a failed release. -/
theorem lsUpdate_relFault (s : State) (m : Nat) (n : Fin 24) : (lsUpdate m s).rd (lsFltBit n 11) = s.rd (lsFltBit n 11) := by
  by_cases hmn : n.val = m
  · have hkey : ∀ g ∈ [F.LS_STAT_STATE m, F.LS_STAT_SEG m, F.LS_STAT_LIMITING m, F.LS_STAT_EXT_DRIVEN m, F.LS_STAT_UV_HELD m, F.LS_STAT_RETRIES m,
        F.LS_CNT_ON_CNT m, F.LS_ON_MAP_ON, F.LS_FLT_MAP_FLT, lsFltBit m 6], (lsFltBit n 11).key ≠ g.key := by
      simp only [List.forall_mem_cons, Field.key, lsFltBit, F.LS_FLT_SC, F.LS_STAT_STATE, F.LS_STAT_SEG, F.LS_STAT_LIMITING, F.LS_STAT_EXT_DRIVEN,
        F.LS_STAT_UV_HELD, F.LS_STAT_RETRIES, F.LS_CNT_ON_CNT, F.LS_ON_MAP_ON, F.LS_FLT_MAP_FLT]
      refine ⟨?_, ?_, ?_, ?_, ?_, ?_, ?_, ?_, ?_, ?_, by simp⟩ <;> omega
    simp only [List.forall_mem_cons] at hkey
    obtain ⟨hst, hseg, hlim, hext, huv, hret, hcnt, hmap, hfmap, hprof, -⟩ := hkey
    unfold lsUpdate
    extract_lets st c ov req want waits
    split
    · rfl
    split
    · split
      · exact State.rd_wr_ne _ _ hst
      split
      · exact (rd_lsLatch_ne _ m 6 (lsFltBit_blk n 11) hst hlim huv hmap).trans (rd_lsFault_ne s 6 hprof hfmap)
      split
      · exact State.rd_wr_ne _ _ hst
      · have hp : (lsPrimed s m).rd (lsFltBit n 11) = s.rd (lsFltBit n 11) := by
          unfold lsPrimed
          dsimp only
          split
          · exact (rd_lsRecord _ (lsFltBit_blk n 11) ..).trans (State.rd_incSat_ne _ hret)
          · rfl
        rw [lsSwitchOn_eq]
        exact (State.rd_incWrap_ne _ hcnt).trans ((State.rd_setBit_ne _ _ hmap).trans ((State.rd_wr_ne _ _ hst).trans
          ((State.rd_wr_ne _ _ hext).trans ((State.rd_wr_ne _ _ hseg).trans hp))))
    · exact rd_lsSwitchOff_ne s m _ hst hlim huv hmap
  · refine (lsUpdate_frame s m).regs _ ⟨lsFltBit_blk n 11, ?_⟩
    simp only [Field.key, lsFltBit, F.LS_FLT_SC]
    omega

theorem RelFailed.update {n : Fin 24} {s : State} (h : RelFailed n s) (m : Nat) : RelFailed n (lsUpdate m s) := by
  refine h.keep ?_ ?_ (lsUpdate_releasing s m n)
  · rw [Within.same (K := lsMask) (lsUpdate_within (by decide) (Within.refl _ s)) .girth (by decide)]
  · simp only [List.forall_mem_cons]
    exact ⟨lsUpdate_relFault s m n, (lsUpdate_frame s m).regs _ (lsSpared_shared m n), by simp⟩

/-- An invariant of the rounds is one of the loop. -/
theorem forN_inv {P : State → Prop} {f : Nat → State → State} {k : Nat} (hf : ∀ i < k, ∀ t, P t → P (f i t)) {s : State} (h : P s) : P (forN f k s) := by
  induction k with
  | zero => exact h
  | succ m ih => exact hf m (Nat.lt_succ_self m) _ (ih fun i hi => hf i (Nat.lt_succ_of_lt hi))

theorem RelFailed.followAll {n : Fin 24} {s : State} (h : RelFailed n s) : RelFailed n (followAll s) := by
  have hls : RelFailed n (lsFollowAll s) := forN_inv (fun m _ t ht => ht.update m) h
  have hw : Within (partsMask [.out, .dio, .rDio, .upd]) (lsFollowAll s) (Machine.followAll s) := dioFollowAll_within (by decide) (Within.refl _ _)
  exact hls.within hw (by rw [hw.same .girth (by decide)]) (by decide) (by decide)

theorem RelFailed.abandon {n : Fin 24} {s : State} (h : RelFailed n s) : RelFailed n (lsAbandon s false) := by
  unfold lsAbandon
  extract_lets u
  have hu : RelFailed n u := by
    refine forN_inv (fun m _ t ht => ?_) h
    split
    · exact ht
    · next hrel =>
      have hne : n.val ≠ m := fun e => hrel (by rw [← e, ht.released]; rfl)
      have hlt := n.isLt
      refine ht.keep rfl ?_ (congrArg LsCh.releasing (SMap.get_set_ne _ _ _ hne))
      simp only [List.forall_mem_cons]
      refine ⟨State.rd_wr_ne _ _ ?_, State.rd_wr_ne _ _ ?_, by simp⟩ <;>
        simp only [Field.key, lsFltBit, F.LS_FLT_SC, F.LS_STAT_SHARED] <;> omega
  clear_value u
  exact ⟨BitVec.getLsbD_zero, hu.fault, hu.shared, hu.released⟩

theorem RelFailed.startService {n : Fin 24} {s : State} (h : RelFailed n s) : RelFailed n (serviceStart s) := by
  unfold serviceStart
  extract_lets u
  have hu : RelFailed n u := by
    refine forN_inv (fun m _ t ht => ?_) h
    extract_lets v c w
    have hkey : ∀ f ∈ [lsFltBit n 11, F.LS_STAT_SHARED n], f.key ≠ (F.LS_REQ_ON m).key ∧ f.key ≠ (F.LS_STAT_RETRIES m).key ∧
        f.key ≠ (F.LS_STAT_STATE m).key := by
      simp only [List.forall_mem_cons, Field.key, lsFltBit, F.LS_FLT_SC, F.LS_STAT_SHARED, F.LS_REQ_ON, F.LS_STAT_RETRIES, F.LS_STAT_STATE]
      refine ⟨?_, ?_, by simp⟩ <;> omega
    have hv : RelFailed n v := ht.keep rfl (fun f hf => (State.rd_wr_ne _ _ (hkey f hf).2.1).trans (State.rd_hwWr_ne _ _ (hkey f hf).1)) rfl
    have hw : RelFailed n w := by
      refine hv.keep rfl (fun _ _ => rfl) ?_
      by_cases hnm : n.val = m
      · rw [hnm]
        simp only [w, lsCh_setLs]
        rfl
      · exact congrArg LsCh.releasing (SMap.get_set_ne _ _ _ hnm)
    split
    · exact hw.keep rfl (fun f hf => State.rd_wr_ne _ _ (hkey f hf).2.2) rfl
    · exact hw
  clear_value u
  refine forN_inv (fun m _ t ht => ?_) hu
  extract_lets v c w
  have hw : Within (partsMask [.out, .dio, .rDio, .upd]) t w :=
    State_setDio_within (by decide) (Within.wr (i := 50) (by simp) (by decide) (by decide) (by decide)
      (Within.hwWr (i := 50) (by simp) (by decide) (by decide) (by decide) (Within.refl _ t)))
  have hput : Within (partsMask [.out, .dio, .rDio, .upd]) t (if dioState w m == 2 then dioPut w m 0 else w) := by
    split
    · exact dioPut_within (by decide) hw
    · exact hw
  exact ht.within hput (by rw [hput.same .girth (by decide)]) (by decide) (by decide)

theorem RelFailed.setMode {n : Fin 24} {s : State} (h : RelFailed n s) (m cause : Nat) : RelFailed n (setMode s m cause) := by
  have hrec : RelFailed n (subSync (modeRecorded s m cause)) := by
    refine h.keep rfl (fun f hf => ?_) rfl
    have hb : Blk f 48 := by
      simp only [List.mem_cons, List.not_mem_nil, or_false] at hf
      obtain rfl | rfl := hf <;> simp
    have hne : f.key / 32 ≠ 0x20E00000 := by
      simp only [List.mem_cons, List.not_mem_nil, or_false] at hf
      obtain rfl | rfl := hf <;> simp only [Field.key, lsFltBit, F.LS_FLT_SC, F.LS_STAT_SHARED] <;> omega
    have hkey : ∀ g ∈ [F.GIRTH_MODE_PREV_MODE, F.GIRTH_MODE_MODE, F.GIRTH_MODE_CAUSE], f.key ≠ g.key := by
      have hgirth : ∀ g ∈ [F.GIRTH_MODE_PREV_MODE, F.GIRTH_MODE_MODE, F.GIRTH_MODE_CAUSE], g.key / 32 = 0x20E00000 := by decide
      exact fun g hg e => hne (by rw [e]; exact hgirth g hg)
    simp only [List.forall_mem_cons] at hkey
    obtain ⟨h₁, h₂, h₃, -⟩ := hkey
    exact (rd_subSync_blk hb (by decide) (by decide) _).trans ((State.rd_wr_ne _ _ h₃).trans ((State.rd_wr_ne _ _ h₂).trans (State.rd_wr_ne _ _ h₁)))
  have hw := setMode_within_bus s m cause
  exact hrec.within hw (by rw [hw.same .girth (by decide)]) (by decide) (by decide)

theorem RelFailed.refuse {n : Fin 24} {s : State} (h : RelFailed n s) : RelFailed n (handoffRefuse s) := by
  unfold handoffRefuse
  split
  · refine RelFailed.followAll ?_
    unfold enterMode
    dsimp only
    split
    · exact (h.abandon.setMode ..).startService
    · exact h.abandon.setMode ..
  · exact h

/-- The channel whose release fails, before the handoff is refused. -/
def lsRelFailed (s : State) (n : Fin 24) : State :=
  let s := { s with girth := { s.girth with offered := s.girth.offered &&& ~~~BitVec.ofNat 24 (2 ^ n.val) } }
  let s := (s.setLs n { s.lsCh n with releasing := false, quietAt := s.now }).wr (F.LS_STAT_SHARED n) 0
  lsRecord (lsFault s n 11) 0x0C n 11 n

theorem exec_relFail (s : State) (n : Fin 24) : exec (.relFail n) s =
    .next (if s.girth.offered.getLsbD n then handoffRefuse (lsRelFailed s n) else s) := rfl

theorem lsRelFailed_failed (s : State) (n : Fin 24) : RelFailed n (lsRelFailed s n) := by
  unfold lsRelFailed
  extract_lets g u c v
  have hoff : v.girth.offered.getLsbD n = false := getLsbD_clrBit _ n
  have hsh : v.rd (F.LS_STAT_SHARED n) = 0 := State.rd_wr_of_lt _ (Nat.two_pow_pos _)
  have hrel : (v.lsCh n).releasing = false := congrArg LsCh.releasing (lsCh_setLs ..)
  clear_value v
  obtain ⟨hbit, -, -, hch⟩ := lsFault_shows v n.isLt (i := 11) (by decide)
  have hw : Within lsMask v (lsRecord (lsFault v n 11) 0x0C n 11 n) := lsRecord_within (by decide) (lsFault_within (by decide) (Within.refl _ v))
  refine ⟨by rw [hw.same .girth (by decide)]; exact hoff, (rd_lsRecord _ (lsFltBit_blk n 11) ..).trans hbit, ?_, ?_⟩
  · exact (((LsFrame.refl n.val v).fault 11).record 0x0C n 11 n).regs _ (lsSpared_shared n n) |>.trans hsh
  · rw [lsCh_record, hch]
    exact hrel

/-- Settles O42. -/
theorem loadSwitchRelease : Obligations.LoadSwitchRelease := by
  refine ⟨fun s n h => ?_, fun s n hl hu _ => lsReleaseRequest_takes hl hu, fun s n h => ?_, fun s n h => ?_, fun s n h => ?_,
    fun s n hs ho hr => ?_, fun s n hs ho hr => lsOverlapEnd_releases hs ho hr, fun s n h => ?_, fun s n h => ?_⟩
  · exact exec_releaseRequest_no h
  · exact (exec_releaseConfirm s n).trans (congrArg _ (if_neg (by rw [h]; decide)))
  · refine ⟨_, (exec_releaseConfirm s n).trans (congrArg _ (if_pos h)), State.rd_wr_of_lt _ (Nat.lt_of_lt_of_eq Nat.one_lt_two rfl), ?_, ?_, ?_⟩
    · exact congrArg LsCh.releasing (lsCh_setLs ..)
    · exact congrArg LsCh.relAt (lsCh_setLs ..)
    · exact ((s.RegsBut_refl _).set (g := F.LS_STAT_SHARED n) (by simp) rfl).of_regs rfl
  · have hno : (!s.rdB (F.LS_STAT_SHARED n) || !overlapOver s n) = true := by
      obtain h | h := h <;> simp [State.rdB, h]
    simp only [exec, execLsOverlapEnd, hno, if_true]
  · refine ⟨_, (exec_overlapEnd hs ho).trans (congrArg _ (if_pos (by simp [hr]))), State.rd_wr_of_lt _ (Nat.two_pow_pos _), ?_⟩
    exact ((s.RegsBut_refl _).of_regs rfl).set (g := F.LS_STAT_SHARED n) (by simp) rfl
  · exact (exec_relFail s n).trans (congrArg _ (if_neg (by rw [h]; decide)))
  · obtain ⟨ho, hf, hs, hr⟩ := (lsRelFailed_failed s n).refuse
    exact ⟨_, (exec_relFail s n).trans (congrArg _ (if_pos h)), ho, hf, hs, hr⟩

end Sys2Proof.Machine
end

section
/-! Stirrup: watchdog frames, the loss of a stream, the hold window and the release (R345-R358). -/

namespace Sys2Proof.Machine

/-! ## What holds and codes keep: the streams and the fault bits -/

/-- The streams of the lines and the bits of STR_FLT are the same. -/
structure StrKept (s t : State) : Prop where
  lines : t.str.line0 = s.str.line0 ∧ t.str.line1 = s.str.line1 ∧ t.str.swx = s.str.swx
  flags : ∀ f : Field, f.key / 32 = 0x20800008 → t.rd f = s.rd f

theorem StrKept.refl (s : State) : StrKept s s := ⟨⟨rfl, rfl, rfl⟩, fun _ _ => rfl⟩

theorem blk_strFlt {f : Field} (h : f.key / 32 = 0x20800008) : Blk f 49 := by
  unfold Blk regPart Field.key F.GIRTH_MODE_MODE F.GIRTH_MODE_SUBSTATE at *
  dsimp only
  rw [if_neg (by omega), if_neg (by omega)]
  omega

section
variable {s t u : State}

theorem StrKept.trans (h : StrKept s t) (h' : StrKept t u) : StrKept s u := by
  obtain ⟨⟨h₀, h₁, h₂⟩, hf⟩ := h
  obtain ⟨⟨h₀', h₁', h₂'⟩, hf'⟩ := h'
  exact ⟨⟨h₀'.trans h₀, h₁'.trans h₁, h₂'.trans h₂⟩, fun f hk => (hf' f hk).trans (hf f hk)⟩

theorem StrKept.line (h : StrKept s t) (l : Nat) : strLine t l = strLine s l := by
  obtain ⟨h₀, h₁, h₂⟩ := h.lines
  unfold strLine
  split <;> assumption

/-- A write outside STR_FLT. -/
theorem StrKept.wr (h : StrKept s t) {g : Field} (hg : g.key / 32 ≠ 0x20800008) (v : Nat) : StrKept s (t.wr g v) :=
  h.trans ⟨⟨rfl, rfl, rfl⟩, fun f hk => State.rd_wr_ne _ _ fun e => hg (by rw [← e]; exact hk)⟩

theorem StrKept.incSat (h : StrKept s t) {g : Field} (hg : g.key / 32 ≠ 0x20800008) : StrKept s (t.incSat g) :=
  h.trans ⟨⟨rfl, rfl, rfl⟩, fun f hk => State.rd_incSat_ne _ fun e => hg (by rw [← e]; exact hk)⟩

theorem StrKept.within {K : Nat} (h : StrKept s t) (hw : Within K t u) (hK : K.testBit 49 = false) (hs : K.testBit Part.str.bit = false) :
    StrKept s u := by
  have hstr : u.str = t.str := hw.same .str hs
  exact h.trans ⟨by rw [hstr]; exact ⟨rfl, rfl, rfl⟩, fun f hk => hw.rd_eq (blk_strFlt hk) (by decide) hK⟩

theorem StrKept.followAll (h : StrKept s t) : StrKept s (followAll t) := h.within (followAll_within_outputs t) (by decide) (by decide)

theorem StrKept.heldSync (h : StrKept s t) : StrKept s (heldSync t) := (h.wr (by decide) _).wr (by decide) _

/-- Anything of Stirrup but its streams, beside the registers. -/
theorem StrKept.ofStr (h : StrKept s t) (hr : u.regs = t.regs) (hl : u.str.line0 = t.str.line0 ∧ u.str.line1 = t.str.line1 ∧ u.str.swx = t.str.swx) :
    StrKept s u :=
  h.trans ⟨hl, fun f _ => by rw [State.rd, State.rd, hr]⟩

end

theorem applyCodes_kept (s : State) : StrKept s (applyCodes s) := by
  unfold applyCodes
  extract_lets part x u v
  have hu : StrKept s u := (StrKept.refl s).ofStr rfl ⟨rfl, rfl, rfl⟩
  have hv : StrKept s v := ((hu.wr (g := F.STR_STAT_STATE) (by decide) 2).incSat (g := F.STR_CNT_FAILSAFES) (by decide)).ofStr rfl ⟨rfl, rfl, rfl⟩
  exact hv.heldSync.followAll

theorem holdStart_kept (s : State) : StrKept s (holdStart s) := by
  unfold holdStart
  extract_lets u x v w
  have hu : StrKept s u := ((StrKept.refl s).wr (g := F.STR_LAST_LS_LAST) (by decide) _).wr (g := F.STR_LAST_DIO_LAST) (by decide) _
  have hv : StrKept s v := hu.ofStr rfl ⟨rfl, rfl, rfl⟩
  have hw : StrKept s w := ((hv.wr (g := F.STR_STAT_STATE) (by decide) 1).incSat (g := F.STR_CNT_HOLDS) (by decide)).ofStr rfl ⟨rfl, rfl, rfl⟩
  split
  · exact hw.trans (applyCodes_kept w)
  · exact hw.heldSync.followAll

theorem failsafeNow_kept (s : State) : StrKept s (failsafeNow s) := by
  unfold failsafeNow
  extract_lets u
  have hu : StrKept s u := by
    simp only [u]
    split
    · exact holdStart_kept s
    · exact StrKept.refl s
  split
  · exact hu
  · exact hu.trans (applyCodes_kept u)

theorem setMode_kept (s : State) (m cause : Nat) : StrKept s (setMode s m cause) := by
  have hrec : StrKept s (modeRecorded s m cause) :=
    ((((StrKept.refl s).wr (g := F.GIRTH_MODE_PREV_MODE) (by decide) _).wr (g := F.GIRTH_MODE_MODE) (by decide) _).wr (g := F.GIRTH_MODE_CAUSE) (by decide) _).ofStr
      rfl ⟨rfl, rfl, rfl⟩
  have hsub : StrKept s (subSync (modeRecorded s m cause)) := (hrec.wr (g := F.SEAT_STAT_EXTRACT_OK) (by decide) _).wr (g := F.GIRTH_MODE_SUBSTATE) (by decide) _
  exact hsub.within (setMode_within_bus s m cause) (by decide) (by decide)

theorem enterHold_kept (s : State) (cause : Nat) : StrKept s (enterHold s cause) := by
  unfold enterHold
  split
  · extract_lets u st
    have hu : StrKept s u := (setMode_kept s mHOLD cause).within (serviceEnd_within (K := outputsMask) (by decide) (Within.refl _ _)) (by decide) (by decide)
    split
    · exact hu.trans (holdStart_kept u)
    · exact hu.followAll
  · exact StrKept.refl s

theorem strLoss_kept (s : State) (fsNow : Bool) : StrKept s (strLoss s fsNow) := by
  unfold strLoss
  extract_lets st u v
  have hu : StrKept s u := by
    simp only [u]
    split
    · exact holdStart_kept s
    · exact StrKept.refl s
  have hv : StrKept s v := by
    simp only [v]
    split
    · exact hu.trans (failsafeNow_kept u)
    · exact hu
  exact hv.trans (enterHold_kept v 0x07)

/-! ## Lines -/

theorem strLine_setLine (s : State) (l : Nat) (x : Stream) : strLine (setLine s l x) l = x := by
  match l with
  | 0 => rfl
  | 1 => rfl
  | _ + 2 => rfl

theorem rd_setLine {f : Field} (h : f.key ≠ F.STR_STAT_LINE0_OK.key ∧ f.key ≠ F.STR_STAT_LINE1_OK.key ∧ f.key ≠ F.STR_STAT_SWX_OK.key)
    (s : State) (l : Nat) (x : Stream) : (setLine s l x).rd f = s.rd f := by
  obtain ⟨h₀, h₁, h₂⟩ := h
  unfold setLine
  split
  · exact State.rd_wrB_ne _ _ h₀
  · exact State.rd_wrB_ne _ _ h₁
  · exact State.rd_wrB_ne _ _ h₂

theorem strLostBit_flags (l : Nat) : (strLostBit l).key / 32 = 0x20800008 ∧ (strLostBit l).w = 1 ∧ (strLostBit l).key % 32 < 3 := by
  unfold strLostBit
  split <;> decide

/-- The line without its stream, its lost bit set. -/
def lineLost (s : State) (l : Nat) : State :=
  (setLine s l { (strLine s l) with present := false, run := 0, bad := 0 }).wr (strLostBit l) 1

theorem strLose_eq {s : State} (h3 : s.rd F.STR_STAT_STATE ≠ 3) (l : Nat) (fs : Bool) :
    strLose s l fs = if strRequired (lineLost s l) l then strLoss (lineLost s l) fs else lineLost s l := if_neg h3

theorem strLose_kept {s : State} (h3 : s.rd F.STR_STAT_STATE ≠ 3) (l : Nat) (fs : Bool) : StrKept (lineLost s l) (strLose s l fs) := by
  rw [strLose_eq h3]
  split
  · exact strLoss_kept ..
  · exact StrKept.refl _

theorem lineLost_line (s : State) (l : Nat) : strLine (lineLost s l) l = { (strLine s l) with present := false, run := 0, bad := 0 } := by
  have h : strLine (lineLost s l) l = strLine (setLine s l { (strLine s l) with present := false, run := 0, bad := 0 }) l := by
    unfold strLine
    split <;> rfl
  rw [h, strLine_setLine]

/-- A line that loses its stream is not present, and shows so. -/
theorem strLose_shows {s : State} (h3 : s.rd F.STR_STAT_STATE ≠ 3) (l : Nat) (fs : Bool) :
    (strLine (strLose s l fs) l).present = false ∧ (strLose s l fs).rd (strLostBit l) = 1 := by
  have hk := strLose_kept h3 l fs
  obtain ⟨hkey, hw, -⟩ := strLostBit_flags l
  refine ⟨by rw [hk.line, lineLost_line], (hk.flags _ hkey).trans (State.rd_wr_of_lt _ ?_)⟩
  rw [hw]
  decide

/-- The loss of a stream keeps the other bits of STR_FLT. -/
theorem strLose_flags {s : State} (h3 : s.rd F.STR_STAT_STATE ≠ 3) (l : Nat) (fs : Bool) {f : Field} (hf : f.key / 32 = 0x20800008)
    (hlo : 3 ≤ f.key % 32) : (strLose s l fs).rd f = s.rd f := by
  obtain ⟨hkey, -, hlt⟩ := strLostBit_flags l
  refine ((strLose_kept h3 l fs).flags f hf).trans ((State.rd_wr_ne _ _ fun e => ?_).trans (rd_setLine ⟨?_, ?_, ?_⟩ ..))
  · rw [e] at hlo
    omega
  all_goals
    intro e
    rw [e] at hf
    exact absurd hf (by decide)

/-! ## Frames -/

section
variable {s : State} {l : Fin 3} {b : List Byte} {g : Nat} (hp : (strLine s l).present = true)
include hp

theorem wdog_suspended (h : s.rd F.STR_STAT_STATE = 3 ∨ l.val = 2 ∧ (s.mode = 0 ∨ s.mode = mQUARANTINE)) : exec (.wdogFrameRx l b g) s = .next s := by
  have hsus : (s.rd F.STR_STAT_STATE == 3 || (l.val == 2 && (s.mode == 0 || s.mode == mQUARANTINE))) = true := by
    obtain h | ⟨h, h' | h'⟩ := h
    · simp [h]
    · simp [h, h']
    · simp [h, h']
  simp only [exec, execWdogFrameRx, hp, Bool.not_true, Bool.false_and, Bool.false_eq_true, if_false, hsus, if_true]

theorem exec_wdog (h3 : s.rd F.STR_STAT_STATE ≠ 3) (hswx : l.val = 2 → s.mode ≠ 0 ∧ s.mode ≠ mQUARANTINE) :
    exec (.wdogFrameRx l b g) s = .next (
      if !frameOk s l b || ((strLine s l).seq.isSome && decide (g < (strWindow s l).1)) then
        frameBad s l ((strLine s l).seq.isSome && decide (g < (strWindow s l).1))
      else frameGood s l (byteNat b 1 % 16) ((byteNat b 2).testBit 1)) := by
  have hgo : (s.rd F.STR_STAT_STATE == 3 || (l.val == 2 && (s.mode == 0 || s.mode == mQUARANTINE))) = false := by
    by_cases h2 : l.val = 2
    · simp [h3, hswx h2]
    · simp [h3, h2]
  simp only [exec, execWdogFrameRx, hp, Bool.not_true, Bool.false_and, Bool.false_eq_true, if_false, hgo]

/-- A single bad frame is counted, and the stream stays. -/
theorem frameBad_once (hb : (strLine s l).bad = 0) : (strLine (frameBad s l false) l).present = true ∧ (strLine (frameBad s l false) l).bad = 1 ∧
    (frameBad s l false).rd F.STR_FLT_FRAME_ERR = 1 ∧ (frameBad s l false).rd F.STR_STAT_STATE = s.rd F.STR_STAT_STATE := by
  have heq : frameBad s l false = setLine ((s.wr F.STR_FLT_FRAME_ERR 1).incSat F.STR_CNT_BAD) l { (strLine s l) with bad := 1 } := by
    simp [frameBad, hp, hb]
  rw [heq, strLine_setLine]
  refine ⟨hp, rfl, (rd_setLine (by decide) ..).trans ((State.rd_incSat_ne _ (by decide)).trans (State.rd_wr_self ..)),
    (rd_setLine (by decide) ..).trans ((State.rd_incSat_ne _ (by decide)).trans (State.rd_wr_ne _ _ (by decide)))⟩

/-- A good frame keeps the stream. -/
theorem frameGood_keeps (q : Nat) : (strLine (frameGood s l q false) l).present = true ∧ (strLine (frameGood s l q false) l).seq = some q ∧
    (strLine (frameGood s l q false) l).bad = 0 ∧ (strLine (frameGood s l q false) l).endAt = s.now ∧
    (frameGood s l q false).rd F.STR_STAT_STATE = s.rd F.STR_STAT_STATE := by
  have heq : frameGood s l q false = strReturn (setLine s l { (strLine s l) with
      present := true, run := min ((strLine s l).run + 1) 4, seq := some q, bad := 0, endAt := s.now }) := by
    simp [frameGood, hp]
  have hret : ∀ u : State, strLine (strReturn u) l = strLine u l ∧ (strReturn u).rd F.STR_STAT_STATE = u.rd F.STR_STAT_STATE := by
    intro u
    unfold strReturn
    dsimp only
    split
    · refine ⟨?_, rfl⟩
      unfold strLine
      split <;> rfl
    · exact ⟨rfl, rfl⟩
  rw [heq, (hret _).1, (hret _).2, strLine_setLine]
  exact ⟨rfl, rfl, rfl, rfl, rd_setLine (by decide) ..⟩

/-- A frame before the window minimum loses the stream. -/
theorem frameBad_early (h3 : s.rd F.STR_STAT_STATE ≠ 3) : (strLine (frameBad s l true) l).present = false ∧
    (frameBad s l true).rd F.STR_FLT_EARLY = 1 ∧ (frameBad s l true).rd F.STR_FLT_FRAME_ERR = 1 := by
  have heq : frameBad s l true = strLose (((s.wr F.STR_FLT_FRAME_ERR 1).incSat F.STR_CNT_BAD).wr F.STR_FLT_EARLY 1) l false := by
    simp [frameBad, hp]
  have h3' : (((s.wr F.STR_FLT_FRAME_ERR 1).incSat F.STR_CNT_BAD).wr F.STR_FLT_EARLY 1).rd F.STR_STAT_STATE ≠ 3 := by
    rw [State.rd_wr_ne _ _ (by decide), State.rd_incSat_ne _ (by decide), State.rd_wr_ne _ _ (by decide)]
    exact h3
  rw [heq]
  refine ⟨(strLose_shows h3' l false).1, (strLose_flags h3' l false (by decide) (by decide)).trans (State.rd_wr_self ..),
    (strLose_flags h3' l false (by decide) (by decide)).trans ?_⟩
  rw [State.rd_wr_ne _ _ (by decide), State.rd_incSat_ne _ (by decide)]
  exact State.rd_wr_self ..

end

/-! ## Timeouts -/

theorem exec_streamTimeout (s : State) (l : Fin 3) : exec (.streamTimeout l) s = .next (if !rcPast s (strLine s l).endAt (strWindow s l).2 then s
    else if (strLine s l).present then strLose s l false else setLine s l { (strLine s l) with run := 0 }) := rfl

/-- In a hold over every channel, each at its captured state in `x`, since the tick `x.now`. -/
structure HoldOf (x t : State) : Prop where
  state : t.rd F.STR_STAT_STATE = 1
  held : t.str.holdLs = onLs x ∧ t.str.holdDio = onDio x
  whole : t.str.relLs = 0 ∧ t.str.relDio = 0
  timer : t.str.holdTimer = true ∧ t.str.holdAt = x.now

section
variable {x t u : State}

theorem HoldOf.of_eq (h : HoldOf x t) (hst : u.rd F.STR_STAT_STATE = t.rd F.STR_STAT_STATE) (hstr : u.str = t.str) : HoldOf x u := by
  obtain ⟨h₁, h₂, h₃, h₄⟩ := h
  exact ⟨hst.trans h₁, by rwa [hstr], by rwa [hstr], by rwa [hstr]⟩

theorem HoldOf.within {K : Nat} (h : HoldOf x t) (hw : Within K t u) (hK : K.testBit 49 = false) (hs : K.testBit Part.str.bit = false) :
    HoldOf x u :=
  h.of_eq (hw.rd_eq (f := F.STR_STAT_STATE) (i := 49) rfl (by decide) hK) (hw.same .str hs)

end

theorem holdStart_holds {s : State} (htmo : s.rd F.STR_HOLD_TMO_TMO ≠ 0) : HoldOf s (holdStart s) := by
  unfold holdStart
  extract_lets u st v w
  have hon : onLs u = onLs s ∧ onDio u = onDio s := by
    constructor
    · exact congrArg (BitVec.ofNat 24) ((State.rd_wr_ne (f := F.LS_ON_MAP_ON) _ _ (by decide)).trans (State.rd_wr_ne _ _ (by decide)))
    · exact congrArg (BitVec.ofNat 32) ((State.rd_wr_ne (f := F.DIO_ON_MAP_ON) _ _ (by decide)).trans (State.rd_wr_ne _ _ (by decide)))
  have hw : HoldOf s w := by
    refine ⟨?_, hon, ⟨rfl, rfl⟩, rfl, rfl⟩
    exact (State.rd_incSat_ne (f := F.STR_STAT_STATE) (g := F.STR_CNT_HOLDS) _ (by decide)).trans (State.rd_wr_self ..)
  have htmo' : w.rd F.STR_HOLD_TMO_TMO ≠ 0 := by
    have h : w.rd F.STR_HOLD_TMO_TMO = s.rd F.STR_HOLD_TMO_TMO := calc
      _ = (v.wr F.STR_STAT_STATE 1).rd F.STR_HOLD_TMO_TMO := State.rd_incSat_ne _ (by decide)
      _ = u.rd F.STR_HOLD_TMO_TMO := State.rd_wr_ne _ _ (by decide)
      _ = _ := (State.rd_wr_ne _ _ (by decide)).trans (State.rd_wr_ne _ _ (by decide))
    rwa [h]
  rw [if_neg htmo']
  have hh : HoldOf s (heldSync w) := hw.of_eq ((State.rd_wr_ne _ _ (by decide)).trans (State.rd_wr_ne _ _ (by decide))) rfl
  exact hh.within (followAll_within_outputs _) (by decide) (by decide)

theorem rd_setMode_state (s : State) (m cause : Nat) : (setMode s m cause).rd F.STR_STAT_STATE = s.rd F.STR_STAT_STATE ∧ (setMode s m cause).str = s.str := by
  have hw := setMode_within_bus s m cause
  refine ⟨(hw.rd_eq (f := F.STR_STAT_STATE) (i := 49) rfl (by decide) (by decide)).trans ?_, (hw.same .str (by decide)).trans rfl⟩
  exact (((State.rd_wr_ne _ _ (by decide)).trans (State.rd_wr_ne _ _ (by decide))).trans ((State.rd_wr_ne _ _ (by decide)).trans
    (State.rd_wr_ne _ _ (by decide)))).trans (State.rd_wr_ne (g := F.GIRTH_MODE_PREV_MODE) _ _ (by decide))

/-- HOLD keeps a hold of Stirrup as it is. -/
theorem HoldOf.enterHold {x t : State} (h : HoldOf x t) (cause : Nat) : HoldOf x (Machine.enterHold t cause) := by
  unfold Machine.enterHold
  split
  · extract_lets u st
    have hm : HoldOf x (setMode t mHOLD cause) := h.of_eq (rd_setMode_state ..).1 (rd_setMode_state ..).2
    have hu : HoldOf x u := hm.within (serviceEnd_within (K := outputsMask) (by decide) (Within.refl _ _)) (by decide) (by decide)
    have hst : ¬ (st == 0 || st == 3) = true := by
      simp only [st, hu.state]
      decide
    rw [if_neg hst]
    exact hu.within (followAll_within_outputs _) (by decide) (by decide)
  · exact h

/-- The loss of a required stream in REQUEST starts a hold of every channel at its captured state. -/
theorem strLoss_holds {s : State} (h0 : s.rd F.STR_STAT_STATE = 0) (htmo : s.rd F.STR_HOLD_TMO_TMO ≠ 0) : HoldOf s (strLoss s false) := by
  have heq : strLoss s false = enterHold (holdStart s) 0x07 := by simp [strLoss, h0]
  rw [heq]
  exact (holdStart_holds htmo).enterHold 0x07

theorem rd_lineLost {f : Field} (h : f.key ≠ F.STR_STAT_LINE0_OK.key ∧ f.key ≠ F.STR_STAT_LINE1_OK.key ∧ f.key ≠ F.STR_STAT_SWX_OK.key)
    (hf : f.key / 32 ≠ 0x20800008) (s : State) (l : Nat) : (lineLost s l).rd f = s.rd f :=
  (State.rd_wr_ne _ _ fun e => hf (by rw [e]; exact (strLostBit_flags l).1)).trans (rd_setLine h ..)

theorem strRequired_congr {s t : State} (h₁ : t.rd F.POM_STAT_SPLIT = s.rd F.POM_STAT_SPLIT) (h₂ : t.rd F.STR_CTL_SWX_EN = s.rd F.STR_CTL_SWX_EN)
    (l : Nat) : strRequired t l = strRequired s l := by
  unfold strRequired
  rw [State.rdB_congr h₁, State.rdB_congr h₂]

/-- A required stream that is lost in REQUEST starts a hold of every channel at its captured state. -/
theorem strLose_holds {s : State} (h0 : s.rd F.STR_STAT_STATE = 0) (htmo : s.rd F.STR_HOLD_TMO_TMO ≠ 0) {l : Nat} (hreq : strRequired s l = true) :
    HoldOf s (strLose s l false) := by
  have hreq' : strRequired (lineLost s l) l = true :=
    (strRequired_congr (rd_lineLost (by decide) (by decide) s l) (rd_lineLost (by decide) (by decide) s l) l).trans hreq
  rw [strLose_eq (by rw [h0]; decide), if_pos hreq']
  obtain ⟨hst, ⟨hls, hdio⟩, hwhole, htimer, hat⟩ := strLoss_holds ((rd_lineLost (f := F.STR_STAT_STATE) (by decide) (by decide) s l).trans h0)
    (by rw [rd_lineLost (f := F.STR_HOLD_TMO_TMO) (by decide) (by decide)]; exact htmo)
  have hnow : (lineLost s l).now = s.now := by
    unfold lineLost setLine
    split <;> rfl
  refine ⟨hst, ⟨hls.trans ?_, hdio.trans ?_⟩, hwhole, htimer, hat.trans hnow⟩
  · exact congrArg (BitVec.ofNat 24) (rd_lineLost (f := F.LS_ON_MAP_ON) (by decide) (by decide) s l)
  · exact congrArg (BitVec.ofNat 32) (rd_lineLost (f := F.DIO_ON_MAP_ON) (by decide) (by decide) s l)

theorem setLine_mem (s : State) (l : Nat) (x : Stream) : (setLine s l x).mem = s.mem := by
  unfold setLine
  split <;> rfl

/-! ## Timers -/

theorem applyCodes_applied (s : State) : (applyCodes s).rd F.STR_STAT_STATE = 2 ∧ (applyCodes s).str.holdTimer = false := by
  unfold applyCodes
  extract_lets part x u v
  have hw := followAll_within_outputs (heldSync v)
  refine ⟨(hw.rd_eq (f := F.STR_STAT_STATE) (i := 49) rfl (by decide) (by decide)).trans ?_, congrArg StirrupSt.holdTimer (hw.same .str (by decide))⟩
  calc (heldSync v).rd F.STR_STAT_STATE
    _ = v.rd F.STR_STAT_STATE := (State.rd_wr_ne _ _ (by decide)).trans (State.rd_wr_ne _ _ (by decide))
    _ = (u.wr F.STR_STAT_STATE 2).rd F.STR_STAT_STATE := State.rd_incSat_ne _ (by decide)
    _ = 2 := State.rd_wr_self ..

theorem holdExpiry_ends {s : State} (h1 : s.rd F.STR_STAT_STATE = 1) (ht : s.str.holdTimer = true)
    (hp : rcPast s s.str.holdAt (1000 * s.rd F.STR_HOLD_TMO_TMO) = true) : Ends .holdExpiry s fun t =>
      t.rd F.STR_STAT_STATE = 2 ∧ t.rd F.STR_FLT_HOLD_EXPIRED = 1 ∧ t.str.holdTimer = false := by
  have hexec : exec .holdExpiry s = .next (applyCodes (strLineReset (s.wr F.STR_FLT_HOLD_EXPIRED 1))) := by
    simp only [exec, execHoldExpiry, h1, ht, hp, beq_self_eq_true, Bool.and_self, if_true]
  obtain ⟨hst, hoff⟩ := applyCodes_applied (strLineReset (s.wr F.STR_FLT_HOLD_EXPIRED 1))
  exact ⟨_, hexec, hst, ((applyCodes_kept _).flags _ (by decide)).trans (State.rd_wr_self ..), hoff⟩

section
variable {s : State} (ht : s.str.reclaimTimer = true)
  (hp : rcPast s s.str.reclaimAt (1000 * max 1 (s.rd F.STR_RECLAIM_TMO_TMO)) = true)
include ht hp

/-- The state in which the reclaim timer has ended. -/
theorem exec_reclaim : exec .reclaimExpiry s = .next (
    let t := State.wr { s with str := { s.str with reclaimTimer := false } } F.STR_FLT_RECLAIM_EXPIRED 1
    if s.rd F.STR_STAT_STATE == 1 then applyCodes t else t) := by
  have hst : (State.wr { s with str := { s.str with reclaimTimer := false } } F.STR_FLT_RECLAIM_EXPIRED 1).rd F.STR_STAT_STATE =
      s.rd F.STR_STAT_STATE := State.rd_wr_ne _ _ (by decide)
  simp only [exec, execReclaimExpiry, ht, hp, Bool.not_true, Bool.or_self, Bool.false_eq_true, if_false, hst]

theorem reclaim_applies (h1 : s.rd F.STR_STAT_STATE = 1) : Ends .reclaimExpiry s fun t =>
    t.rd F.STR_FLT_RECLAIM_EXPIRED = 1 ∧ t.rd F.STR_STAT_STATE = 2 := by
  refine ⟨_, exec_reclaim ht hp, ?_⟩
  simp only [h1, beq_self_eq_true, if_true]
  exact ⟨((applyCodes_kept _).flags _ (by decide)).trans (State.rd_wr_self ..), (applyCodes_applied _).1⟩

theorem reclaim_keeps (h2 : s.rd F.STR_STAT_STATE = 2) : Ends .reclaimExpiry s fun t =>
    t.rd F.STR_FLT_RECLAIM_EXPIRED = 1 ∧ t.str.reclaimTimer = false ∧ s.OnlyRegs { t with str := s.str } [F.STR_FLT_RECLAIM_EXPIRED] := by
  refine ⟨_, exec_reclaim ht hp, ?_⟩
  rw [h2]
  exact ⟨State.rd_wr_self .., rfl, (State.OnlyRegs.refl s _).wr (by simp) 1⟩

end

/-! ## Release -/

/-- The state in which the channels are released, and the hold has ended where none is left in it. -/
def strReleased (s : State) (ls : BitVec 24) (dio : BitVec 32) : State :=
  let t := { s with str := { s.str with
    relLs := s.str.relLs ||| ls, relDio := s.str.relDio ||| dio, partLs := s.str.partLs &&& ~~~ls, partDio := s.str.partDio &&& ~~~dio } }
  if t.str.relLs == BitVec.allOnes 24 && t.str.relDio == BitVec.allOnes 32 then
    State.wr { t with str := { t.str with reclaimTimer := false, holdTimer := false, partnerTimer := false } } F.STR_STAT_STATE 0
  else t

theorem strReleased_shows (s : State) (ls : BitVec 24) (dio : BitVec 32) :
    (strReleased s ls dio).str.relLs = s.str.relLs ||| ls ∧ (strReleased s ls dio).str.relDio = s.str.relDio ||| dio ∧
      (s.str.relLs ||| ls = BitVec.allOnes 24 → s.str.relDio ||| dio = BitVec.allOnes 32 → (strReleased s ls dio).rd F.STR_STAT_STATE = 0) := by
  unfold strReleased
  extract_lets t
  split
  case isTrue => exact ⟨rfl, rfl, fun _ _ => State.rd_wr_self ..⟩
  case isFalse h => exact ⟨rfl, rfl, fun hls hdio => absurd (by rw [Bool.and_eq_true]; exact ⟨beq_iff_eq.mpr hls, beq_iff_eq.mpr hdio⟩) h⟩

section
variable {s : State} {r : Req} (hr : r.supOrStitch = true) (hq : s.mode ≠ mQUARANTINE)
  (hst : s.rd F.STR_STAT_STATE = 1 ∨ s.rd F.STR_STAT_STATE = 2) (hall : strAllPresent s = true)
include hr hq hst hall

theorem strRelease_eq (ls : BitVec 24) (dio : BitVec 32) :
    strRelease s r ls dio = (followAll (heldSync (strReleased s ls dio))).status 0 := by
  have h3 : (s.mode == mQUARANTINE || s.rd F.STR_STAT_STATE == 3 || !strAllPresent s) = false := by
    obtain h | h := hst <;> simp [h, hq, hall]
  have h0 : (s.rd F.STR_STAT_STATE == 0) = false := by
    obtain h | h := hst <;> simp [h]
  simp only [strRelease, strWriter, hr, h3, h0, Bool.not_true, Bool.false_eq_true, if_false, strReleased]

theorem strRelease_released (ls : BitVec 24) (dio : BitVec 32) :
    (strRelease s r ls dio).resp = ⟨0, 0⟩ ∧ (strRelease s r ls dio).str.relLs = s.str.relLs ||| ls ∧
      (strRelease s r ls dio).str.relDio = s.str.relDio ||| dio ∧
      (s.str.relLs ||| ls = BitVec.allOnes 24 → s.str.relDio ||| dio = BitVec.allOnes 32 →
        (strRelease s r ls dio).rd F.STR_STAT_STATE = 0) := by
  rw [strRelease_eq hr hq hst hall]
  obtain ⟨hls, hdio, hend⟩ := strReleased_shows s ls dio
  generalize strReleased s ls dio = u at hls hdio hend
  have hw := followAll_within_outputs (heldSync u)
  have hstr : (followAll (heldSync u)).str = u.str := hw.same .str (by decide)
  have hstate : (followAll (heldSync u)).rd F.STR_STAT_STATE = u.rd F.STR_STAT_STATE :=
    (hw.rd_eq (f := F.STR_STAT_STATE) (i := 49) rfl (by decide) (by decide)).trans
      ((State.rd_wr_ne _ _ (by decide)).trans (State.rd_wr_ne _ _ (by decide)))
  generalize followAll (heldSync u) = v at hstr hstate
  exact ⟨rfl, (congrArg StirrupSt.relLs hstr).trans hls, (congrArg StirrupSt.relDio hstr).trans hdio, fun h₁ h₂ => hstate.trans (hend h₁ h₂)⟩

end

/-- Settles O43: whatever Stirrup does to its channels leaves the streams and the fault bits, and HOLD of the module leaves the hold as it
is, so the effect of each row is that of its own writes. -/
theorem stirrupHold : Obligations.StirrupHold := by
  refine ⟨?_, ?_, ?_, ?_, ?_, ?_, ?_, ?_, ?_, ?_, ?_, ?_, ?_, ?_, ?_, ?_, ?_, ?_, ?_, ?_, ?_⟩
  · rintro s l b g c (rfl | rfl) h3 hp
    · exact wdog_suspended hp (.inl h3)
    · rw [exec_streamTimeout, if_pos hp, strLose, if_pos h3, ite_self]
  · exact fun s b g hm hp => wdog_suspended hp (.inr ⟨rfl, hm⟩)
  · intro s l b g q h3 hswx hp hq hg hok hb
    refine ⟨_, exec_wdog hp h3 hswx, ?_⟩
    have he : ((strLine s l).seq.isSome && decide (g < (strWindow s l).1)) = false := by simp [hg]
    rw [he, hok]
    exact frameBad_once hp hb
  · intro s l b g q h3 hswx hp hq hg hok hfs
    refine ⟨_, exec_wdog hp h3 hswx, ?_⟩
    have he : ((strLine s l).seq.isSome && decide (g < (strWindow s l).1)) = false := by simp [hg]
    rw [he, hok, hfs]
    exact frameGood_keeps hp _
  · intro s l b g q h3 hswx hp hq hg
    refine ⟨_, exec_wdog hp h3 hswx, ?_⟩
    have he : ((strLine s l).seq.isSome && decide (g < (strWindow s l).1)) = true := by simp [hq, hg]
    rw [he, Bool.or_true, if_pos rfl]
    exact frameBad_early hp h3
  · intro s l hpast
    rw [exec_streamTimeout, hpast]
    rfl
  · intro s l hpast h3 hp
    refine ⟨_, exec_streamTimeout s l, ?_⟩
    rw [hpast, hp]
    exact strLose_shows h3 l false
  · intro s l hpast h0 hp hreq htmo
    refine ⟨_, exec_streamTimeout s l, ?_⟩
    rw [hpast, hp]
    obtain ⟨h₁, ⟨h₂, h₃⟩, ⟨h₄, h₅⟩, h₆, h₇⟩ := strLose_holds h0 htmo hreq
    exact ⟨h₁, h₂, h₃, h₄, h₅, h₆, h₇⟩
  · intro s l hpast hp
    refine ⟨_, exec_streamTimeout s l, ?_⟩
    rw [hpast, hp]
    exact ⟨congrArg Stream.run (strLine_setLine ..), setLine_mem ..⟩
  · intro s h
    have hno : (s.rd F.STR_STAT_STATE == 1 && s.str.holdTimer && rcPast s s.str.holdAt (1000 * s.rd F.STR_HOLD_TMO_TMO)) = false := by
      obtain h | h | h := h <;> simp [h]
    simp only [exec, execHoldExpiry, hno, Bool.false_eq_true, if_false]
  · exact fun s h1 ht hp => holdExpiry_ends h1 ht hp
  · intro s h
    have hno : (!s.str.partnerTimer || !rcPast s s.str.partnerAt (1000 * max 1 (s.rd F.STR_PARTNER_TMO_TMO))) = true := by
      obtain h | h := h <;> simp [h]
    simp only [exec, execPartnerTmoExpiry, hno, if_true]
  · intro s ht hp
    have hgo : (!s.str.partnerTimer || !rcPast s s.str.partnerAt (1000 * max 1 (s.rd F.STR_PARTNER_TMO_TMO))) = false := by simp [ht, hp]
    simp only [Ends, exec, execPartnerTmoExpiry, hgo, Bool.false_eq_true, if_false]
    exact ⟨_, rfl, (followAll_within_outputs _).same .str (by decide)⟩
  · intro s h
    have hno : (!s.str.reclaimTimer || !rcPast s s.str.reclaimAt (1000 * max 1 (s.rd F.STR_RECLAIM_TMO_TMO))) = true := by
      obtain h | h := h <;> simp [h]
    simp only [exec, execReclaimExpiry, hno, if_true]
  · exact fun s ht hp h1 => reclaim_applies ht hp h1
  · exact fun s ht hp h2 => reclaim_keeps ht hp h2
  · rintro s r m d c (rfl | rfl) hr
    · refine ⟨_, next_hostWrite (by simp only [strRelease, strWriter, hr]; rfl), hostWrite_refused r rfl (by decide)⟩
    · refine ⟨_, next_hostWrite (by simp only [strRelease, strWriter, hr]; rfl), hostWrite_refused r rfl (by decide)⟩
  · intro s r m d c hc hr h
    have hno : (s.mode == mQUARANTINE || s.rd F.STR_STAT_STATE == 3 || !strAllPresent s) = true := by
      obtain h | h | h := h <;> simp [h]
    have heq : ∀ ls dio, strRelease s r ls dio = s.status 0x0303 := fun ls dio => by
      simp only [strRelease, strWriter, hr, hno, Bool.not_true, Bool.false_eq_true, if_false, if_true]
    obtain rfl | rfl := hc
    · exact ⟨_, next_hostWrite (heq _ _), hostWrite_refused r rfl (by decide)⟩
    · exact ⟨_, next_hostWrite (heq _ _), hostWrite_refused r rfl (by decide)⟩
  · intro s r m d c hc hr hq h0 hall
    have heq : ∀ ls dio, strRelease s r ls dio = s.status 0 := fun ls dio => by
      simp [strRelease, strWriter, hr, hq, h0, hall]
    obtain rfl | rfl := hc
    · exact (next_hostWrite (heq _ _)).trans (by rw [hostWrite_ok r rfl rfl])
    · exact (next_hostWrite (heq _ _)).trans (by rw [hostWrite_ok r rfl rfl])
  · intro s r m hr hq hst hall
    obtain ⟨hresp, hls, -, hend⟩ := strRelease_released hr hq hst hall m 0
    refine ⟨_, next_hostWrite rfl, ?_⟩
    rw [hostWrite_ok r rfl (by rw [hresp])]
    exact ⟨hresp, hls, fun h₁ h₂ => hend h₂ (by rw [h₁]; rfl)⟩
  · intro s r m hr hq hst hall
    obtain ⟨hresp, -, hdio, hend⟩ := strRelease_released hr hq hst hall 0 m
    refine ⟨_, next_hostWrite rfl, ?_⟩
    rw [hostWrite_ok r rfl (by rw [hresp])]
    exact ⟨hresp, hdio, fun h₁ h₂ => hend (by rw [h₁]; rfl) h₂⟩

end Sys2Proof.Machine
end

section
/-! Bridle: transactions over XL, posted writes and fences (R414-R424). -/

namespace Sys2Proof.Machine

/-! ## Ends of requests -/

/-- A request is no longer outstanding. -/
def txClosed (s : State) (tag : Nat) : State := outBusySync { s with br := { s.br with out := s.br.out.filter (·.tag != tag) } }

theorem txClosed_only (s : State) (tag : Nat) : (txClosed s tag).br = { s.br with out := s.br.out.filter (·.tag != tag) } ∧
    (txClosed s tag).resp = s.resp ∧ s.RegsBut (txClosed s tag) [F.XL_STAT_OUT_BUSY] :=
  ⟨rfl, rfl, (s.RegsBut_refl _).set (g := F.XL_STAT_OUT_BUSY) (by simp) rfl⟩

theorem txEnd_ok (s : State) (x : BrTx) (data : Nat) : txEnd s x 0 data = (txClosed s x.tag).answer 0 data := rfl

theorem txEnd_fails (s : State) (x : BrTx) {c : Nat} (hc : c ≠ 0) (data : Nat) :
    txEnd s x c data = (brLast (txClosed s x.tag) x.issuer c x.mark x.addr).status c := by
  simp only [txEnd, if_neg hc, txClosed, State.status]

theorem rd_brLast_status (s : State) (i c tag addr : Nat) : (brLast s i c tag addr).rd (F.BR_LAST_STATUS i) = c % 65536 := by
  unfold brLast
  extract_lets u
  rw [State.rd_wr_ne _ _ (by simp only [Field.key, F.BR_LAST_STATUS, F.BR_LAST_ADDR_HI_ADDR_HI]; omega),
    State.rd_wr_ne _ _ (by simp only [Field.key, F.BR_LAST_STATUS, F.BR_LAST_ADDR_LO_ADDR_LO]; omega),
    State.rd_wr_ne _ _ (by simp only [Field.key, F.BR_LAST_STATUS, F.BR_LAST_TAG]; omega)]
  exact State.rd_wr_self ..

/-- A request that fails is answered its code, which its issuer finds in BR_LAST. -/
theorem txEnd_shows (s : State) (x : BrTx) {c : Nat} (hc : c ≠ 0) (hlt : c < 65536) :
    (txEnd s x c 0).resp = ⟨c, 0⟩ ∧ (txEnd s x c 0).rd (F.BR_LAST_STATUS x.issuer) = c ∧
      (txEnd s x c 0).br = { s.br with out := s.br.out.filter (·.tag != x.tag) } := by
  rw [txEnd_fails s x hc]
  exact ⟨rfl, (rd_brLast_status ..).trans (Nat.mod_eq_of_lt hlt), rfl⟩

section
variable {s : State} {tag : Nat} {x : BrTx} (hx : s.br.out.find? (·.tag == tag) = some x)
include hx

theorem response_stale {st : BitVec 16} (hst : statusOk st.toNat = true) (hgen : x.gen ≠ issuerGen s x.issuer) (d : BitVec 64) :
    exec (.xlResponseRx tag st d) s = .next (txClosed s tag) := by
  simp only [exec, execXlResponseRx, hst, hx, Bool.not_true, Bool.false_eq_true, if_false]
  rw [if_pos hgen, txClosed]

theorem response_ok (hgen : x.gen = issuerGen s x.issuer) (d : BitVec 64) :
    Ends (.xlResponseRx tag 0 d) s fun t => t.resp = ⟨0, d.toNat % 2 ^ (8 * x.size)⟩ ∧
      t.br = { s.br with out := s.br.out.filter (·.tag != x.tag) } ∧ s.RegsBut t [F.XL_STAT_OUT_BUSY] := by
  have hexec : exec (.xlResponseRx tag 0 d) s = .next (txEnd s x 0 (d.toNat % 2 ^ (8 * x.size))) := by
    simp only [exec, execXlResponseRx, hx]
    rw [if_neg (not_not.mpr hgen)]
    rfl
  obtain ⟨hbr, -, hregs⟩ := txClosed_only s x.tag
  exact ⟨_, hexec, rfl, hbr, hregs⟩

theorem exec_rspTimeout : exec (.rspTimeout tag) s = .next (if rspLate s x then txEnd (s.incSat F.BR_CNT_TMOS) x 0x0410 0 else s) := by
  simp only [exec, execRspTimeout, hx]

/-- The requests as a retry leaves them: `tag` stands to be sent again at `at_`. -/
def retried (l : List BrTx) (tag at_ : Nat) : List BrTx :=
  l.map fun y => if y.tag = tag then { y with retries := y.retries + 1, resendAt := some at_ } else y

omit hx in
theorem retried_resend {l : List BrTx} {tag at_ : Nat} {y : BrTx} (hy : y ∈ retried l tag at_) (ht : y.tag = tag) : y.resendAt = some at_ := by
  obtain ⟨z, -, rfl⟩ := List.mem_map.mp hy
  split at ht
  case isTrue h => rw [if_pos h]
  case isFalse h => exact absurd ht h

theorem exec_retryRx : exec (.retryRx tag) s = .next (
    if s.rd F.BR_RETRY_RETRY_MAX ≤ x.retries + 1 then txEnd (s.incSat F.BR_CNT_RETRIES) x 0x0411 0
    else { s.incSat F.BR_CNT_RETRIES with
      br := { s.br with out := retried s.br.out tag (s.now + 80 * max 1 (s.rd F.BR_RETRY_RETRY_INT)) } }) := by
  have hmax : (s.incSat F.BR_CNT_RETRIES).rd F.BR_RETRY_RETRY_MAX = s.rd F.BR_RETRY_RETRY_MAX := State.rd_incSat_ne _ (by decide)
  have hint : (s.incSat F.BR_CNT_RETRIES).rd F.BR_RETRY_RETRY_INT = s.rd F.BR_RETRY_RETRY_INT := State.rd_incSat_ne _ (by decide)
  simp only [exec, execRetryRx, hx, hmax, hint, retried]
  rfl

end

/-! ## Fences -/

/-- The fence of issuer `i` is over, with status `c`. -/
def fenceClosed (s : State) (i c : Nat) : State :=
  let t := { s with br := { s.br with fences := SMap.dropRange s.br.fences i (i + 1) } }
  ((t.wr (F.BR_FENCE_STAT_BUSY i) 0).wr (F.BR_FENCE_STAT_DONE i) 1).wr (F.BR_FENCE_STAT_STATUS i) c

theorem fenceEnd_silent {s : State} {i : Nat} {f : BrFence} (hf : s.br.fences.find? i = some f) (hr : f.reply = none) (c : Nat) :
    fenceEnd s i c = fenceClosed s i c := by
  simp only [fenceEnd, hf, hr, fenceClosed]

theorem fenceClosed_shows (s : State) (i c : Nat) : (fenceClosed s i c).rd (F.BR_FENCE_STAT_BUSY i) = 0 ∧
    (fenceClosed s i c).rd (F.BR_FENCE_STAT_DONE i) = 1 ∧ (fenceClosed s i c).rd (F.BR_FENCE_STAT_STATUS i) = c % 65536 ∧
    (fenceClosed s i c).br.fences.find? i = none := by
  unfold fenceClosed
  extract_lets _ t
  refine ⟨?_, ?_, State.rd_wr_self .., SMap.find?_dropRange_of_mem _ (Nat.le_refl i) (Nat.lt_succ_self i)⟩
  · rw [State.rd_wr_ne _ _ (by simp only [Field.key, F.BR_FENCE_STAT_BUSY, F.BR_FENCE_STAT_STATUS]; omega),
      State.rd_wr_ne _ _ (by simp only [Field.key, F.BR_FENCE_STAT_BUSY, F.BR_FENCE_STAT_DONE]; omega)]
    exact State.rd_wr_of_lt _ (Nat.two_pow_pos _)
  · rw [State.rd_wr_ne _ _ (by simp only [Field.key, F.BR_FENCE_STAT_DONE, F.BR_FENCE_STAT_STATUS]; omega)]
    exact State.rd_wr_of_lt _ (Nat.lt_of_lt_of_eq Nat.one_lt_two rfl)

theorem rd_fenceClosed_ne {f : Field} {i : Nat} (h : f.key ≠ (F.BR_FENCE_STAT_BUSY i).key ∧ f.key ≠ (F.BR_FENCE_STAT_DONE i).key ∧
    f.key ≠ (F.BR_FENCE_STAT_STATUS i).key) (s : State) (c : Nat) : (fenceClosed s i c).rd f = s.rd f := by
  obtain ⟨h₁, h₂, h₃⟩ := h
  unfold fenceClosed
  extract_lets _ t
  exact (State.rd_wr_ne _ _ h₃).trans ((State.rd_wr_ne _ _ h₂).trans (State.rd_wr_ne _ _ h₁))

/-- The fence that issuer `i` starts. -/
def fenceOf (s : State) (i : Nat) : BrFence :=
  { goAt := s.now, waits := (s.br.posted.filter (·.issuer == i)).map (·.num), fail := s.br.failed.find? i }

/-- The state in which the fence of issuer `i` runs. -/
def fenceOpen (s : State) (i : Nat) : State :=
  State.wr { s with br := { s.br with fences := s.br.fences.set i (fenceOf s i), failed := SMap.dropRange s.br.failed i (i + 1) } }
    (F.BR_FENCE_STAT_BUSY i) 1

theorem fenceStart_eq (s : State) (i : Nat) : fenceStart s i none = fenceDone (fenceOpen s i) i (fenceOf s i) := rfl

theorem fenceOpen_find (s : State) (i : Nat) : (fenceOpen s i).br.fences.find? i = some (fenceOf s i) := SMap.find?_set_self ..

theorem fenceOf_idle {s : State} {i : Nat} (h : ∀ w ∈ s.br.posted, w.issuer ≠ i) : (fenceOf s i).waits = [] := by
  have hnil : s.br.posted.filter (·.issuer == i) = [] := List.filter_eq_nil_iff.mpr fun w hw => by simp [h w hw]
  rw [fenceOf, hnil]
  rfl

theorem mem_fenceOf {s : State} {i : Nat} {w : BrPost} (hw : w ∈ s.br.posted) (hi : w.issuer = i) : w.num ∈ (fenceOf s i).waits :=
  List.mem_map.mpr ⟨w, List.mem_filter.mpr ⟨hw, by simp [hi]⟩, rfl⟩

section
variable {s : State} {i : Nat} (h : ∀ w ∈ s.br.posted, w.issuer ≠ i)
include h

/-- With nothing to wait for, and no failure before it, a fence completes at once. -/
theorem fenceStart_clear (hf : s.br.failed.find? i = none) : fenceStart s i none = fenceClosed (fenceOpen s i) i 0 := by
  have hno : ¬ (!(fenceOf s i).waits.isEmpty) = true := by simp [fenceOf_idle h]
  have hfail : (fenceOf s i).fail = none := hf
  rw [fenceStart_eq, fenceDone, if_neg hno, hfail]
  exact fenceEnd_silent (fenceOpen_find s i) rfl 0

/-- With nothing to wait for a fence shows the failure before it at once. -/
theorem fenceStart_failed {g : BrFail} (hf : s.br.failed.find? i = some g) :
    fenceStart s i none = fenceClosed (brLast (fenceOpen s i) i g.status g.tag g.addr) i g.status := by
  have hno : ¬ (!(fenceOf s i).waits.isEmpty) = true := by simp [fenceOf_idle h]
  have hfail : (fenceOf s i).fail = some g := hf
  rw [fenceStart_eq, fenceDone, if_neg hno, hfail]
  exact fenceEnd_silent (s := brLast (fenceOpen s i) i g.status g.tag g.addr) (f := fenceOf s i) (fenceOpen_find s i) rfl g.status

end

theorem fenceStart_waits {s : State} {i : Nat} {w : BrPost} (hw : w ∈ s.br.posted) (hi : w.issuer = i) : fenceStart s i none = fenceOpen s i := by
  have hyes : (!(fenceOf s i).waits.isEmpty) = true := by
    rw [List.isEmpty_eq_false_iff_exists_mem.mpr ⟨_, mem_fenceOf hw hi⟩]
    rfl
  rw [fenceStart_eq, fenceDone, if_pos hyes]

theorem fence_notN (p : Fin 9) : classN (F.BR_FENCE_GO p).addr = false := classN_of_window (by simp only [F.BR_FENCE_GO]; omega)

theorem exec_fenceGo {s u : State} {r : Req} {p : Fin 9} {c : Nat} (hlive : windowDead s (F.BR_FENCE_GO p).addr = false)
    (h : fenceGo s r p = u.status c) (hc : c ≠ 0x0110 ∧ c ≠ 0x0610 ∧ c ≠ 0x0611) : exec (.fenceGo r p) s = .next (u.status c) :=
  next_hostWrite_status hlive (fence_notN p) h hc

theorem fenceGo_accepted {s : State} {p : Fin 8} (hb : s.rd (F.BR_FENCE_STAT_BUSY p) = 0) :
    fenceGo s (.plot p) p.val = (fenceStart s p none).status 0 := by
  simp [fenceGo, State.rdB, hb]

/-! ## Posted writes -/

theorem brRecord_br (s : State) (type i c addr tag : Nat) : (brRecord s type i c addr tag).br = s.br :=
  (brRecord_within (K := partsMask [.mem, .out, .irqHeld, .q, .rFurrow, .rGateway, .upd, .furBits]) (by decide) (Within.refl _ s)).same .br
    (by decide)

theorem sesReply_br (s : State) (n q k : Nat) (b : List Byte) : (sesReply s n q k b).br = s.br :=
  (sesReply_within (K := partsMask [.mem, .out, .irqHeld, .q, .can, .ses, .rFurrow, .rCan, .upd, .furBits]) (by decide) (Within.refl _ s)).same
    .br (by decide)

theorem fenceEnd_posted (s : State) (i c : Nat) : (fenceEnd s i c).br.posted = s.br.posted := by
  unfold fenceEnd
  split
  · rfl
  · split
    · rw [sesReply_br]
      rfl
    · rfl

theorem fenceDone_posted (s : State) (i : Nat) (f : BrFence) : (fenceDone s i f).br.posted = s.br.posted := by
  unfold fenceDone
  split
  · rfl
  · split <;> exact fenceEnd_posted ..

theorem fenceStep_posted (s : State) (i num : Nat) (fail : Option BrFail) : (fenceStep s i num fail).br.posted = s.br.posted := by
  unfold fenceStep
  extract_lets note
  have hnote : note.br.posted = s.br.posted := by
    simp only [note]
    split <;> rfl
  split
  · exact hnote
  · split
    · exact hnote
    · exact fenceDone_posted ..

theorem postFail_posted (s : State) (w : BrPost) (c : Nat) : (postFail s w c).br.posted = s.br.posted.filter (·.num != w.num) := by
  unfold postFail
  extract_lets _ t
  rw [fenceStep_posted, brRecord_br]

/-- Letting a write go sends it; what is outstanding stays so. -/
theorem postRelease_posted {s : State} {x : BrPost} (hx : x ∈ (postRelease s).br.posted) : ∃ y ∈ s.br.posted, y.num = x.num := by
  unfold postRelease at hx
  split at hx
  · exact ⟨x, hx, rfl⟩
  · split at hx
    · exact ⟨x, hx, rfl⟩
    case h_2 w _ =>
      have hmem : x ∈ s.br.posted.map fun y => if y.num = w.num then { y with wait := none } else y := by
        extract_lets l _ u at hx
        split at hx <;> exact hx
      obtain ⟨y, hy, rfl⟩ := List.mem_map.mp hmem
      refine ⟨y, hy, ?_⟩
      split <;> rfl

section
variable {s : State} {num : Nat} {st : BitVec 16} {w : BrPost}

theorem exec_failureNotice (hst : statusOk st.toNat = true) (hw : s.br.posted.find? (·.num == num) = some w) :
    exec (.failureNoticeRx num st) s = .next (postRelease (postFail s w st.toNat)) := by
  simp only [exec, execFailureNoticeRx, hst, hw, Bool.not_true, Bool.false_eq_true, if_false]

theorem failed_leaves (c : Nat) : ∀ x ∈ (postRelease (postFail s w c)).br.posted, x.num ≠ w.num := by
  intro x hx
  obtain ⟨y, hy, hnum⟩ := postRelease_posted hx
  rw [postFail_posted] at hy
  rw [← hnum]
  simpa using (List.mem_filter.mp hy).2

/-- An acknowledgement of the only posted write outstanding, with no fence over it. -/
theorem postApplied_only (hw : s.br.posted = [w]) (hwait : w.wait = none) (hf : s.br.fences.find? w.issuer = none) :
    postApplied s = { s with br := { s.br with posted := [] } } := by
  simp [postApplied, hw, hwait, fenceStep, hf, postRelease]

end

/-! ## Requests from the partner -/

section
variable {s : State} {a : BitVec 40} (hlink : s.rd F.XL_STAT_LINK = 1) (hwin : isWindow a.toNat = true) (href : refusedOverXl a.toNat = true)
include hlink hwin href

theorem inbound_read_refused (hlive : blkBusy s a.toNat = false) (tag : Nat) (i : Fin 9) (g : Nat) (size : AccSize) (unc : Bool) (e : Envt) :
    exec (.xlInboundRequest tag i g false a size .read unc e) s = .next (s.emit (.xl (.response tag 0x0210 0 g))) := by
  have hx : ∀ r : Req, inboundAccess s r .read false a.toNat size.bytes unc e = s.status 0x0210 := fun r => by
    simp [inboundAccess, hwin, href]
  simp only [exec, execXlInboundRequest, State.rdB, hlink, hlive, hx, Bool.false_and, Bool.and_false, Bool.false_eq_true, if_false]
  rfl

theorem inbound_post_refused (tag g : Nat) (size : AccSize) (unc : Bool) (e : Envt) (v : BitVec 64) :
    exec (.xlInboundRequest tag 8 g false a size (.posted v) unc e) s = .next (s.emit (.xl (.failNotice tag a.toNat 0x0210))) := by
  have hx : ∀ r : Req, inboundAccess s r (.write v) false a.toNat size.bytes unc e = s.status 0x0210 := fun r => by
    simp [inboundAccess, hwin, href]
  simp only [exec, execXlInboundRequest, State.rdB, hlink, hx]
  rfl

end

/-- Settles O48: each answer and timeout ends one request or leaves it, and a fence is closed at once, at its last posted write or at its time. -/
theorem bridleTransactions : Obligations.BridleTransactions := by
  refine ⟨?_, ?_, ?_, ?_, ?_, ?_, ?_, ?_, ?_, ?_, ?_, ?_, ?_, ?_, ?_, ?_, ?_, ?_, ?_, ?_, ?_, ?_, ?_, ?_, ?_, ?_, ?_⟩
  · rintro s tag st d c (rfl | rfl | rfl) hx
    · simp only [exec, execXlResponseRx, hx, ite_self]
    · simp only [exec, execRspTimeout, hx]
    · simp only [exec, execRetryRx, hx]
  · intro s tag st d hst
    constructor
    · simp only [exec, execXlResponseRx, hst, Bool.not_false, if_true]
    · simp only [exec, execFailureNoticeRx, hst, Bool.not_false, if_true]
  · exact fun s tag st d x hst hx hgen => ⟨_, response_stale hx hst hgen d, txClosed_only s tag⟩
  · exact fun s tag d x hx hgen _ => response_ok hx hgen d
  · intro s tag x hx hlate
    rw [exec_rspTimeout hx, hlate]
    rfl
  · intro s tag x hx hlate hi
    refine ⟨_, exec_rspTimeout hx, ?_⟩
    rw [hlate]
    exact txEnd_shows (s.incSat F.BR_CNT_TMOS) x (by decide) (by decide)
  · intro s tag x hx hi hmax
    refine ⟨_, exec_retryRx hx, ?_⟩
    rw [if_pos hmax]
    obtain ⟨hresp, hlast, -⟩ := txEnd_shows (s.incSat F.BR_CNT_RETRIES) x (c := 0x0411) (by decide) (by decide)
    exact ⟨hresp, hlast⟩
  · intro s tag x hx hmax
    refine ⟨_, exec_retryRx hx, ?_⟩
    rw [if_neg (Nat.not_le.mpr hmax)]
    exact ⟨fun y hy ht => retried_resend hy ht, rfl, rfl, (s.RegsBut_refl _).set (g := F.BR_CNT_RETRIES) (by simp) rfl⟩
  · intro s num st hw
    simp only [exec, execFailureNoticeRx, hw, ite_self]
  · exact fun s num st w hst hw => ⟨_, exec_failureNotice hst hw, rfl, failed_leaves st.toNat⟩
  · exact fun s => rfl
  · exact fun s w hw hwait hf => ⟨_, rfl, postApplied_only hw hwait hf⟩
  · intro s tag i g page a size q unc e hlink
    have hno : (!s.rdB F.XL_STAT_LINK) = true := by simp [State.rdB, hlink]
    simp only [exec, execXlInboundRequest, hno, if_true]
  · exact fun s tag i g a size unc e hlink hwin href hlive => ⟨_, inbound_read_refused hlink hwin href hlive .., rfl⟩
  · exact fun s tag a g size unc e v hlink hwin href => ⟨_, inbound_post_refused hlink hwin href .., rfl⟩
  · intro s tag i g size unc e v a hlink hi hg
    have hyes : (!s.rdB F.XL_STAT_LINK) = false := by simp [State.rdB, hlink]
    simp only [exec, execXlInboundRequest, hyes, Bool.false_eq_true, if_false]
    rw [if_pos ⟨hi, hg⟩]
  · intro s r p hlive hsup hown
    refine exec_fenceGo hlive ?_ (by decide)
    cases r with
    | plot k => simp [fenceGo, hown k rfl]
    | supervisor => exact absurd rfl hsup
    | _ => rfl
  · intro s p hlive hb
    exact exec_fenceGo hlive (by simp [fenceGo, State.rdB, hb]) (by decide)
  · intro s p hlive hb hidle hfail
    refine ⟨_, exec_fenceGo hlive (fenceGo_accepted hb) (by decide), rfl, ?_⟩
    rw [fenceStart_clear hidle hfail]
    obtain ⟨hbusy, hdone, hstatus, -⟩ := fenceClosed_shows (fenceOpen s p) p 0
    exact ⟨hbusy, hdone, hstatus⟩
  · intro s p g hlive hb hidle hfail
    refine ⟨_, exec_fenceGo hlive (fenceGo_accepted hb) (by decide), rfl, ?_⟩
    rw [fenceStart_failed hidle hfail]
    obtain ⟨hbusy, -, hstatus, -⟩ := fenceClosed_shows (brLast (fenceOpen s p) p g.status g.tag g.addr) p g.status
    refine ⟨hbusy, hstatus, ?_⟩
    refine (rd_fenceClosed_ne ⟨?_, ?_, ?_⟩ _ _).trans (rd_brLast_status ..)
    all_goals simp only [Field.key, F.BR_LAST_STATUS, F.BR_FENCE_STAT_BUSY, F.BR_FENCE_STAT_DONE, F.BR_FENCE_STAT_STATUS]; omega
  · intro s p w hlive hb hw hi
    refine ⟨_, exec_fenceGo hlive (fenceGo_accepted hb) (by decide), rfl, ?_⟩
    rw [fenceStart_waits hw hi]
    exact ⟨State.rd_wr_of_lt _ (Nat.lt_of_lt_of_eq Nat.one_lt_two rfl), fenceOf s p, fenceOpen_find s p, mem_fenceOf hw hi⟩
  · intro s p hf
    simp only [exec, execFenceComplete, hf]
  · intro s p f hf hnow
    simp only [exec, execFenceComplete, hf]
    rw [if_neg (Nat.not_le.mpr hnow)]
  · intro s p f hf hr hnow
    have hexec : exec (.fenceComplete p) s = .next (fenceClosed s p 0x0410) := by
      simp only [exec, execFenceComplete, hf]
      rw [if_pos hnow, fenceEnd_silent hf hr]
    exact ⟨_, hexec, fenceClosed_shows s p 0x0410⟩
  · intro s n q k p tag hn
    simp only [exec, execStitchFence, hn]
  · intro s n q k p tag x hn hp hb
    have hb' : ¬ s.rdB (F.BR_FENCE_STAT_BUSY p) = true := by simp [State.rdB, hb]
    simp only [exec, execStitchFence, hn, stitchFence]
    rw [if_neg (not_not.mpr hp), if_neg hb']
  · intro s n q k p tag x hn hp
    simp only [exec, execStitchFence, hn, stitchFence]
    rw [if_pos hp]

end Sys2Proof.Machine
end

section
/-! The Stitch endpoint: what a datagram meets, sessions, segments on CAN FD and clear mode (R440-R451, R516). -/

namespace Sys2Proof.Machine

/-! ## Sessions -/

@[simp] theorem sessionOf_setSession (s : State) (n : Nat) (x : Session) : sessionOf (setSession s n x) n = some x := SMap.find?_set_self ..

/-- A map without the keys of `p`. -/
theorem find?_filter_key {α : Type} (p : Nat → Bool) (m : SMap α) (k : Nat) :
    SMap.find? (m.filter fun e => !p e.1) k = if p k then none else SMap.find? m k := by
  induction m with
  | nil => simp [SMap.find?]
  | cons e r ih =>
    obtain ⟨k', v'⟩ := e
    by_cases hp : p k' = true
    · rw [List.filter_cons_of_neg (by simpa using hp), ih]
      by_cases hk : k = k'
      · rw [if_pos (hk ▸ hp), if_pos (hk ▸ hp)]
      · simp only [SMap.find?, if_neg hk]
    · rw [List.filter_cons_of_pos (by simpa using hp)]
      by_cases hk : k = k'
      · rw [if_neg (hk ▸ hp)]
        simp only [SMap.find?, if_pos hk]
      · simp only [SMap.find?, if_neg hk]
        exact ih

theorem find?_of_not_key {α : Type} {m : SMap α} {k : Nat} (h : ∀ e ∈ m, e.1 ≠ k) : SMap.find? m k = none := by
  induction m with
  | nil => rfl
  | cons e r ih =>
    obtain ⟨k', v'⟩ := e
    have hk : k ≠ k' := fun e => h (k', v') List.mem_cons_self e.symm
    simp only [SMap.find?, if_neg hk]
    exact ih fun e he => h e (List.mem_cons_of_mem _ he)

/-- The keys of the sessions that close with number `n`. -/
theorem closing_contains (m : SMap Session) (n k : Nat) :
    (((m.filter fun e => e.1 == n).map (·.1)).contains k) = (decide (k = n) && m.any fun e => e.1 == n) := by
  rw [Bool.eq_iff_iff]
  simp only [List.contains_iff_mem, List.mem_map, List.mem_filter, Bool.and_eq_true, decide_eq_true_eq, List.any_eq_true, beq_iff_eq]
  constructor
  · rintro ⟨e, ⟨he, hn⟩, rfl⟩
    exact ⟨hn, e, he, hn⟩
  · rintro ⟨rfl, e, he, hn⟩
    exact ⟨e, ⟨he, hn⟩, hn⟩

/-- Closing a session takes it alone. -/
theorem sessionOf_close (s : State) (n k : Nat) :
    sessionOf (closeSessions s fun m _ => m == n) k = if k = n then none else sessionOf s k := by
  have h : sessionOf (closeSessions s fun m _ => m == n) k =
      if ((s.ses.sessions.filter fun e => e.1 == n).map (·.1)).contains k then none else sessionOf s k := find?_filter_key _ _ k
  rw [h, closing_contains]
  by_cases hk : k = n
  · subst hk
    by_cases hany : (s.ses.sessions.any fun e => e.1 == k) = true
    · simp [hany]
    · have hnone : sessionOf s k = none := find?_of_not_key fun e he hek => hany (List.any_eq_true.mpr ⟨e, he, beq_iff_eq.mpr hek⟩)
      simp [hnone]
  · simp [hk]

/-! ## Datagrams over UDP -/

/-- The commands that bring a request, with the operation of each. -/
def Requests (h : StitchHdr) (q : StitchReq) (e : Envt) (c : Instr) : Prop := c = .read h q ∨ c = .write h q e ∨ c = .nop h q

/-- The request that a command brings. -/
theorem exec_request {h : StitchHdr} {q : StitchReq} {e : Envt} {c : Instr} (hc : Requests h q e c) (s : State) :
    ∃ q' e', exec c s = .next (request s h q' e') := by
  obtain rfl | rfl | rfl := hc
  · exact ⟨_, _, rfl⟩
  · exact ⟨_, _, rfl⟩
  · exact ⟨_, _, rfl⟩

section
variable {s : State} {h : StitchHdr} {q : StitchReq} {e : Envt} {c : Instr} {p : Fin 2} {x : Session}

theorem takeMessage_off (hvia : ∃ p, h.via = .udp p) (hoff : s.obj 0x1001 1 1 ≠ 1) (type : Nat) : takeMessage s h type = none := by
  obtain ⟨p, hp⟩ := hvia
  unfold takeMessage
  rw [hp]
  simp only [if_neg hoff, ite_self]

theorem takeMessage_udp (hvia : h.via = .udp p) (hup : stitchUp s = true) (hon : s.obj 0x1001 1 1 = 1) (type : Nat) :
    takeMessage s h type = some s := by
  unfold takeMessage
  rw [hvia]
  simp only [hup, Bool.not_true, Bool.false_eq_true, if_false, if_pos hon]

/-- Without a message nothing happens. -/
theorem exec_untaken (hc : Requests h q e c ∨ c = .close h) (ht : ∀ type, takeMessage s h type = none) : exec c s = .next s := by
  obtain hc | rfl := hc
  · obtain ⟨q', e', hexec⟩ := exec_request hc s
    rw [hexec, request, ht]
  · simp only [exec, execClose, ht]

/-- A datagram that fails its checks is only counted. -/
theorem exec_discarded {t : State} (hc : Requests h q e c ∨ c = .close h) (ht : ∀ type, takeMessage s h type = some s)
    (hd : datagramCheck s h = (t, none)) : exec c s = .next t := by
  obtain hc | rfl := hc
  · obtain ⟨q', e', hexec⟩ := exec_request hc s
    rw [hexec]
    unfold request
    simp only [ht, hd]
  · simp only [exec, execClose, ht, hd]

theorem datagram_malformed (hw : h.wellFormed = false) : datagramCheck s h = (sesCount s 6, none) := by
  simp only [datagramCheck, hw, Bool.not_false, if_true]

theorem datagram_unknown (hw : h.wellFormed = true) (hn : h.session.toNat = 0 ∨ 32 < h.session.toNat ∨ sessionOf s h.session.toNat = none) :
    datagramCheck s h = (sesCount s 5, none) := by
  have hnone : (if h.session.toNat = 0 ∨ 32 < h.session.toNat then none else sessionOf s h.session.toNat) = none := by
    split
    · rfl
    · next hr => tauto
  simp only [datagramCheck, hw, hnone, Bool.not_true, Bool.false_eq_true, if_false]

section
variable (hvia : h.via = .udp p) (hw : h.wellFormed = true) (hlo : 1 ≤ h.session.toNat) (hhi : h.session.toNat ≤ 32)
  (hx : sessionOf s h.session.toNat = some x) (hudp : x.transport = 0)
include hvia hw hlo hhi hx hudp

theorem datagram_forged (ht : h.tagOk = false) : datagramCheck s h = (sesCount s 3, none) := by
  have hsome : (if h.session.toNat = 0 ∨ 32 < h.session.toNat then none else sessionOf s h.session.toNat) = some x := by
    rw [if_neg (by omega), hx]
  simp only [datagramCheck, hw, hsome, Session.onVia, hvia, hudp, ht, beq_self_eq_true, Bool.not_true, Bool.not_false, Bool.false_eq_true,
    if_false, if_true]

theorem datagram_passes (ht : h.tagOk = true) :
    datagramCheck s h = (setSession s h.session.toNat { x with port := p.val }, some { x with port := p.val }) := by
  have hsome : (if h.session.toNat = 0 ∨ 32 < h.session.toNat then none else sessionOf s h.session.toNat) = some x := by
    rw [if_neg (by omega), hx]
  simp only [datagramCheck, hw, hsome, Session.onVia, hvia, hudp, ht, beq_self_eq_true, Bool.not_true, Bool.false_eq_true, if_false]

variable (hup : stitchUp s = true) (hon : s.obj 0x1001 1 1 = 1) (ht : h.tagOk = true)
include hup hon ht

/-- A request whose datagram passes meets the fate of its SEQ. -/
theorem request_eq (q : StitchReq) (e : Envt) : request s h q e =
    match seqFate { x with port := p.val } h.seq.toNat with
    | .discard => sesCount (setSession s h.session.toNat { x with port := p.val }) 4
    | .again b => stitchSend (setSession (setSession s h.session.toNat { x with port := p.val }) h.session.toNat
        { x with port := p.val, at_ := s.now }) { x with port := p.val } (stitchHeader 4 h.session.toNat h.seq.toNat b.length h.prio) b
    | .accept y => serve (setSession (setSession s h.session.toNat { x with port := p.val }) h.session.toNat { y with at_ := s.now })
        { plot := Fin.ofNat 8 x.plot, roles := BitVec.ofNat 8 x.roles } h.session.toNat h.seq.toNat h.prio true q e := by
  unfold request
  simp only [takeMessage_udp hvia hup hon, datagram_passes hvia hw hlo hhi hx hudp ht]
  rfl

end

/-- A SEQ that lies 64 or more back is discarded. -/
theorem seqFate_old {seq : Nat} (hf : x.fresh = false) (h64 : 64 ≤ x.high - seq) : seqFate x seq = .discard := by
  have hlt : ¬ x.high < seq := by omega
  simp only [seqFate, hf, Bool.false_eq_true, if_false, if_neg hlt, if_pos h64]

/-- The SEQ accepted last is answered from the kept replies. -/
theorem seqFate_repeated {seq : Nat} {b : List Byte} (hf : x.fresh = false) (hs : x.high = seq) (hwin : x.window.getLsbD 0 = true)
    (hb : (x.cache.find? (·.1 == seq)) = some (seq, b)) : seqFate x seq = .again b := by
  subst hs
  simp [seqFate, hf, hwin, hb]

theorem stitchSend_udp (s : State) (hudp : x.transport = 0) (header body : List Byte) :
    stitchSend s x header body = s.emit (.stitch x.port header body) := if_pos hudp

end

/-- A reply over UDP is kept and leaves. -/
theorem sesReply_udp {s : State} {x : Session} {n : Nat} (hx : sessionOf s n = some x) (hudp : x.transport = 0) (seq prio : Nat) (b : List Byte) :
    sesReply s n seq prio b = (setSession s n { x with cache := ((seq, b) :: x.cache).take 8 }).emit
      (.stitch x.port (stitchHeader 4 n seq b.length prio) b) := by
  have h2 : ¬ x.transport = 2 := by rw [hudp]; decide
  simp only [sesReply, hx, if_neg h2]
  exact stitchSend_udp (x := x) _ hudp ..

/-! ## OPEN -/

/-- The answer to a good OPEN over UDP: OPEN_ACK leaves and the session stands. -/
def sesOpened (s : State) (h : StitchHdr) (p : Fin 2) (cred : Nat) (k : KeyBlob) (nc : List Byte) (n : Nat) : State :=
  let u := s.took.took.took.took
  let nm := (sesNonce s).1
  let key := Config.hkdf k.mat (nc ++ nm) (asciiBytes "stitch v1" ++ le 2 n ++ le 2 cred ++ idDigest u)
  let body := le 1 k.plot ++ le 1 k.roles ++ le 2 (u.obj 0x1001 7 60) ++ le 2 1024 ++ le 2 0 ++ le 8 0
  setSession (u.emit (.stitch p.val (stitchHeader 2 n h.seq.toNat 16 h.prio ++ nm) body)) n
    { plot := k.plot, roles := k.roles, cred := cred, key := key, at_ := u.now, port := p.val }

theorem sesOpened_shows (s : State) (h : StitchHdr) (p : Fin 2) (cred : Nat) (k : KeyBlob) (nc : List Byte) (n : Nat) :
    (sesOpened s h p cred k nc n).free = s.free + 4 ∧ (sesOpened s h p cred k nc n).regs = s.regs ∧ (sesOpened s h p cred k nc n).mem = s.mem ∧
      ∃ x, sessionOf (sesOpened s h p cred k nc n) n = some x ∧ x.plot = k.plot ∧ x.roles = k.roles ∧ x.cred = cred ∧ x.port = p.val ∧
        x.fresh = true := by
  unfold sesOpened
  extract_lets u nm key body
  have hu : u.free = s.free + 4 ∧ u.regs = s.regs ∧ u.mem = s.mem := ⟨rfl, rfl, rfl⟩
  generalize stitchHeader 2 n h.seq.toNat 16 h.prio ++ nm = hd
  clear_value u nm key body
  exact ⟨hu.1, hu.2.1, hu.2.2, _, sessionOf_setSession .., rfl, rfl, rfl, rfl, rfl⟩

theorem sesOpen_udp {s : State} {h : StitchHdr} {p : Fin 2} {k : KeyBlob} {n : Nat} (hvia : h.via = .udp p) (hfree : sesFree s k.plot = some n)
    (cred : Nat) (nc : List Byte) : sesOpen s h cred k nc = sesOpened s h p cred k nc n := by
  have hfree' : sesFree s.took.took.took.took k.plot = some n := hfree
  simp only [sesOpen, sesNonce, hfree', hvia, Option.getD_some, Option.isSome_some, if_true]
  rfl

theorem exec_open_good {s : State} {h : StitchHdr} {cred : BitVec 16} {p : Fin 2} {k : KeyBlob} {n : Nat} (nc : BitVec 256) (hvia : h.via = .udp p)
    (hup : stitchUp s = true) (hon : s.obj 0x1001 1 1 = 1) (hw : h.wellFormed = true) (ht : h.tagOk = true)
    (hkey : keyRefusal s cred.toNat useStitch = none) (hk : s.clo.keys.find? cred.toNat = some k) (hplot : k.plot < 8)
    (hfree : sesFree s k.plot = some n) : exec (.openSession h cred nc) s = .next (sesOpened s h p cred.toNat k (le 32 nc.toNat) n) := by
  have hok : ¬ (8 ≤ k.plot ∨ (match h.via with | .udp _ => false | .can _ p => p.val != k.plot) = true ∨ (!h.tagOk) = true) := by
    rw [hvia, ht]
    simp only [Bool.false_eq_true, Bool.not_true, or_self, or_false]
    omega
  simp only [exec, execOpenSession, takeMessage_udp hvia hup hon, hw, hkey, hk, Bool.not_true, Bool.false_eq_true, if_false]
  rw [← sesOpen_udp hvia hfree]
  exact congrArg Host.Outcome.next (if_neg hok)

/-! ## Segments -/

section
variable {s : State} {i p : Fin 8} (hears : canHears s i = true) (hon : (s.obj 0x1002 1 0).testBit i = true)
include hears hon

theorem segment_single {b : List Byte} (hb : b.length ≤ 61) : exec (.canSegmentRx i p (.single b)) s = .next (segGot s (8 * i.val + p.val) b) := by
  simp only [exec, execCanSegmentRx, hears, hon, Bool.not_true, Bool.or_self, Bool.false_eq_true, if_false, if_neg (Nat.not_lt.mpr hb)]

/-- The last bytes of a transfer make the message. -/
theorem segment_completes {sn : Fin 64} {b : List Byte} {x : SegRx} (hx : s.ses.rx.find? (8 * i.val + p.val) = some x) (hsn : sn.val = x.sn)
    (hb : b.length ≤ 63) (hlen : x.data.length + b.length = x.len) :
    exec (.canSegmentRx i p (.next sn b)) s = .next (segGot (segDropRx s (8 * i.val + p.val) false) (8 * i.val + p.val) (x.data ++ b)) := by
  have hok : ¬ (sn.val ≠ x.sn ∨ 63 < b.length) := by omega
  have htake : (x.data ++ b).take x.len = x.data ++ b := List.take_of_length_le (by rw [List.length_append, hlen])
  have hall : (x.data ++ b).length = x.len := by rw [List.length_append, hlen]
  simp only [exec, execCanSegmentRx, hears, hon, hx, htake, Bool.not_true, Bool.or_self, Bool.false_eq_true, if_false, if_neg hok, if_pos hall]

end

/-! ## Clear mode -/

theorem clearMode_unreached {s : State} {port : Fin 2} {seq : BitVec 32} {prio : Fin 8} {q : StitchReq} {e : Envt} (hup : stitchUp s = true)
    (hon : s.obj 0x1001 1 1 = 1) (hclear : clearMode s = true) (hop : q.op = 1) (hreach : clearReach s false q.index.toNat q.sub.toNat = false)
    (h0 : sessionOf s 0 = none) : Ends (.clearModeRequest port seq prio q e) s fun t => t.regs = s.regs ∧ t.mem = s.mem ∧ t.out = s.out ++
      [.stitch port (stitchHeader 4 0 seq.toNat 20 prio) (replyBody 1 0x0205 q.index.toNat q.sub.toNat 0 q.offset.toNat false 0 [])] := by
  have hexec : exec (.clearModeRequest port seq prio q e) s = .next (sesReply (setSession s 0 { port := port.val, at_ := s.now }) 0 seq.toNat prio
      (replyBody 1 0x0205 q.index.toNat q.sub.toNat 0 q.offset.toNat false 0 [])) := by
    have hreach' : clearReach (setSession s 0 { port := port.val, at_ := s.now }) false q.index.toNat q.sub.toNat = false := hreach
    simp only [exec, execClearModeRequest, hup, hon, hclear, h0, hop, Option.getD_none, Bool.not_true, Bool.false_or, bne_self_eq_false,
      Bool.false_eq_true, if_false]
    exact congrArg Host.Outcome.next (if_pos ⟨by decide, by rw [← Bool.not_false]; exact congrArg _ hreach'⟩)
  refine ⟨_, hexec, ?_⟩
  rw [sesReply_udp (sessionOf_setSession ..) rfl]
  exact ⟨rfl, rfl, rfl⟩

/-- What a datagram over UDP needs to reach its session. -/
structure Reaches (s : State) (h : StitchHdr) (p : Fin 2) (x : Session) : Prop where
  via : h.via = .udp p
  up : stitchUp s = true
  on : s.obj 0x1001 1 1 = 1
  formed : h.wellFormed = true
  tag : h.tagOk = true
  lo : 1 ≤ h.session.toNat
  hi : h.session.toNat ≤ 32
  session : sessionOf s h.session.toNat = some x
  udp : x.transport = 0

section
variable {s : State} {h : StitchHdr} {q : StitchReq} {e : Envt} {c : Instr} {p : Fin 2} {x : Session} (hr : Reaches s h p x)
include hr

theorem Reaches.discarded (hc : Requests h q e c) (hf : x.fresh = false) (h64 : 64 ≤ x.high - h.seq.toNat) :
    exec c s = .next (sesCount (setSession s h.session.toNat { x with port := p.val }) 4) := by
  obtain ⟨q', e', hexec⟩ := exec_request hc s
  obtain ⟨hvia, hup, hon, hw, ht, hlo, hhi, hx, hudp⟩ := hr
  rw [hexec, request_eq hvia hw hlo hhi hx hudp hup hon ht, seqFate_old (x := { x with port := p.val }) hf h64]

theorem Reaches.repeated (hc : Requests h q e c) {b : List Byte} (hf : x.fresh = false) (hs : x.high = h.seq.toNat)
    (hwin : x.window.getLsbD 0 = true) (hb : (x.cache.find? (·.1 == h.seq.toNat)) = some (h.seq.toNat, b)) :
    exec c s = .next ((setSession (setSession s h.session.toNat { x with port := p.val }) h.session.toNat
      { x with port := p.val, at_ := s.now }).emit (.stitch p.val (stitchHeader 4 h.session.toNat h.seq.toNat b.length h.prio) b)) := by
  obtain ⟨q', e', hexec⟩ := exec_request hc s
  obtain ⟨hvia, hup, hon, hw, ht, hlo, hhi, hx, hudp⟩ := hr
  rw [hexec, request_eq hvia hw hlo hhi hx hudp hup hon ht, seqFate_repeated (x := { x with port := p.val }) hf hs hwin hb]
  exact congrArg Host.Outcome.next (stitchSend_udp (x := { x with port := p.val }) _ hudp ..)

theorem Reaches.closed : exec (.close h) s = .next (closeSessions ((setSession s h.session.toNat { x with port := p.val }).emit
    (.stitch p.val (stitchHeader 5 h.session.toNat h.seq.toNat 0 h.prio) [])) fun m _ => m == h.session.toNat) := by
  obtain ⟨hvia, hup, hon, hw, ht, hlo, hhi, hx, hudp⟩ := hr
  simp only [exec, execClose, takeMessage_udp hvia hup hon, datagram_passes hvia hw hlo hhi hx hudp ht]
  rw [stitchSend_udp (x := { x with port := p.val }) _ hudp]

end

theorem obj_sesCount (s : State) (k : Nat) : (sesCount s k).obj 0x1003 k 0 = min 0xFFFF (s.obj 0x1003 k 0 + 1) := SMap.get_set_self ..

/-- Settles O50: a datagram passes the checks of R442 to R445 in their order, and what fails one is only counted. -/
theorem stitchSessions : Obligations.StitchSessions := by
  refine ⟨?_, ?_, ?_, ?_, ?_, ?_, ?_, ?_, ?_, ?_, ?_, ?_, ?_, ?_, ?_, ?_, ?_, ?_, ?_, ?_, ?_, ?_⟩
  · intro s h q e c hc hvia hoff
    exact exec_untaken (q := q) (e := e) (by unfold Requests; tauto) (takeMessage_off hvia hoff)
  · rintro s h q e c hc ⟨p, hvia⟩ hup hon
    have hc' : Requests h q e c ∨ c = .close h := by unfold Requests; tauto
    have ht := takeMessage_udp hvia hup hon
    exact ⟨fun hw => exec_discarded hc' ht (datagram_malformed hw), fun hw hn => exec_discarded hc' ht (datagram_unknown hw hn),
      fun x hw hlo hhi hx hudp htag => exec_discarded hc' ht (datagram_forged hvia hw hlo hhi hx hudp htag)⟩
  · exact fun s k => ⟨obj_sesCount .., rfl, rfl⟩
  · intro s h q e c x p hc hvia hup hon hw ht hlo hhi hx hudp hf h64
    have hr : Reaches s h p x := ⟨hvia, hup, hon, hw, ht, hlo, hhi, hx, hudp⟩
    exact ⟨_, hr.discarded (e := e) hc hf h64, obj_sesCount .., rfl, rfl, rfl⟩
  · intro s h q e c x p b hc hvia hup hon hw ht hlo hhi hx hudp hf hs hwin hb
    have hr : Reaches s h p x := ⟨hvia, hup, hon, hw, ht, hlo, hhi, hx, hudp⟩
    exact ⟨_, hr.repeated (e := e) hc hf hs hwin hb, rfl, rfl, rfl, rfl, rfl, rfl⟩
  · intro s h x p hvia hup hon hw ht hlo hhi hx hudp
    have hr : Reaches s h p x := ⟨hvia, hup, hon, hw, ht, hlo, hhi, hx, hudp⟩
    exact ⟨_, hr.closed, by rw [sessionOf_close, if_pos rfl], rfl⟩
  · intro s h cred nc p code hvia hup hon hw hkey
    simp only [exec, execOpenSession, takeMessage_udp hvia hup hon, hw, hkey, Bool.not_true, Bool.false_eq_true, if_false]
  · intro s h cred nc p k n hvia hup hon hw ht hkey hk hplot hfree
    exact ⟨_, exec_open_good nc hvia hup hon hw ht hkey hk hplot hfree, sesOpened_shows ..⟩
  · exact fun s => rfl
  · intro s n hidle
    simp only [exec, execSessionIdleTimeout, hidle, Bool.not_false, Bool.or_true, if_true]
  · intro s n x hn hx hat
    have hgo : (decide (n.val = 0) || !sesIdle s n) = false := by
      simp [sesIdle, hx, hat, Fin.val_eq_zero_iff, hn]
    have hexec : exec (.sessionIdleTimeout n) s = .next (closeSessions s fun m _ => m == n.val) := by
      simp only [exec, execSessionIdleTimeout, hgo, Bool.false_eq_true, if_false]
    exact ⟨_, hexec, by rw [sessionOf_close, if_pos rfl], rfl, rfl, fun k hk => by rw [sessionOf_close, if_neg hk]⟩
  · intro s n
    constructor <;> intro h
    · simp only [exec, execAssemblyTimeout, h, Bool.false_eq_true, if_false]
    · simp only [exec, execSnapshotTimeout, h, Bool.false_eq_true, if_false]
  · intro s n x k at_ b hx hasm hat
    have hlate : asmLate s n = true :=
      (Option.any_eq_true ..).mpr ⟨(k, at_, b), by rw [hx, Option.bind_some, hasm], decide_eq_true hat⟩
    simp only [exec, execAssemblyTimeout, hlate, if_true, setAsm, hx]
  · intro s n x hx hsnap hat
    have hlate : snapLate s n = true := by simp [snapLate, hx, Option.isSome_iff_ne_none, hsnap, hat]
    simp only [exec, execSnapshotTimeout, hlate, if_true, setSnap, hx]
  · intro s i p g h
    have hno : (!canHears s i || !(s.obj 0x1002 1 0).testBit i) = true := by
      obtain h | h := h <;> simp [h]
    simp only [exec, execCanSegmentRx, hno, if_true]
  · exact fun s i p b hears hon hb => ⟨_, segment_single hears hon hb, rfl, rfl, rfl⟩
  · exact fun s i p sn b x hears hon hx hsn hb hlen => ⟨_, segment_completes hears hon hx hsn hb hlen, rfl, rfl⟩
  · intro s i p
    constructor <;> intro h
    · simp only [exec, execSegmentTimeout, h, Bool.false_eq_true, if_false, if_true]
    · simp only [exec, execSegmentTimeout, h, Bool.false_eq_true, if_false]
  · intro s i p x hx hg hat
    have hlate : segTxLate s (8 * i.val + p.val) = true := by simp [segTxLate, hx, hg, hat]
    have hexec : exec (.segmentTimeout i p true) s = .next (segDropTx s (8 * i.val + p.val)) := by
      simp only [exec, execSegmentTimeout, hlate, if_true]
    exact ⟨_, hexec, SMap.find?_dropRange_of_mem _ (Nat.le_refl _) (Nat.lt_succ_self _), rfl, rfl⟩
  · intro s i p x hx hat
    have hlate : segRxLate s (8 * i.val + p.val) = true := (Option.any_eq_true ..).mpr ⟨x, hx, decide_eq_true hat⟩
    have hexec : exec (.segmentTimeout i p false) s = .next (segDropRx s (8 * i.val + p.val) true) := by
      simp only [exec, execSegmentTimeout, hlate, Bool.false_eq_true, if_false, if_true]
    exact ⟨_, hexec, SMap.find?_dropRange_of_mem _ (Nat.le_refl _) (Nat.lt_succ_self _), rfl, rfl, rfl⟩
  · intro s port seq prio q e hup hon hclear
    simp only [exec, execClearModeRequest, hup, hon, hclear, Bool.not_true, Bool.not_false, Bool.false_or, bne_self_eq_false, Bool.false_eq_true,
      if_false, if_true]
  · exact fun s port seq prio q e hup hon hclear hop hreach h0 => clearMode_unreached hup hon hclear hop hreach h0

end Sys2Proof.Machine
end

section
/-! Stitch requests: the first checks in order, the local ports, forwarded requests and settings (R446, R449, R452-R457, R461). -/

namespace Sys2Proof.Machine

/-! ## Serving a request -/

/-- A request whose session assembles nothing, or that is no write, and that need not wait. -/
structure Served (s : State) (n : Nat) (q : StitchReq) : Prop where
  asm : (sessionOf s n).bind (fun y => y.asm) = none ∨ (q.op == 2) = false
  room : waiting s n < 16

/-- The first checks of such a request: NOP, an index that no object has, and R455. -/
theorem Served.serve {s : State} {n : Nat} {q : StitchReq} (hs : Served s n q) (w : Prin) (seq prio : Nat) (masked : Bool) (e : Envt) :
    let answer := fun (typ code total : Nat) => sesReply s n seq prio
      (replyBody q.op.toNat code q.index.toNat q.sub.toNat typ q.offset.toNat (q.op == 2 && q.last) total [])
    (q.op = 3 → Machine.serve s w n seq prio masked q e = answer 0 0 0) ∧
    (q.op ≠ 3 → q.index.toNat < 0xC000 → objFind q.index.toNat q.sub.toNat = none → objIndex q.index.toNat = false →
      Machine.serve s w n seq prio masked q e = answer 0 0x0201 0) ∧
    (∀ o i k code, q.op ≠ 3 → q.index.toNat < 0xC000 → objFind q.index.toNat q.sub.toNat = some (o, i, k) → o.fixed = true →
      accessCode s w masked o i q (q.op == 2) = some code → Machine.serve s w n seq prio masked q e = answer o.typ code o.size) := by
  intro answer
  unfold Machine.serve
  extract_lets idx sub write no u
  have hu : u = s := by
    simp only [u]
    obtain h | h := hs.asm
    · rw [h]
    · split
      · simp only [write, h, Bool.false_and, Bool.false_eq_true, if_false]
      · rfl
  clear_value u
  subst hu
  rw [if_neg (Nat.not_le.mpr hs.room)]
  refine ⟨fun h3 => if_pos h3, fun h3 hidx hobj hi => ?_, fun o i k code h3 hidx hobj hfix hcode => ?_⟩
  · simp only [idx, sub] at *
    rw [if_neg h3, if_neg (Nat.not_le.mpr hidx), hobj]
    simp only [hi, Bool.false_eq_true, if_false]
    rfl
  · have htotal : objTotal u w n o idx sub i k = o.size := if_pos hfix
    simp only [idx, sub, write] at *
    rw [if_neg h3, if_neg (Nat.not_le.mpr hidx), hobj]
    simp only [hcode, htotal]
    rfl

/-! ## A request of a new SEQ over UDP -/

/-- The request that a command of operation `op` brings. -/
def brought (q : StitchReq) (op : Nat) : StitchReq := { q with op := op, data := if op = 2 then q.data else [] }

theorem exec_brought {h : StitchHdr} {q : StitchReq} {e : Envt} {c : Instr} {op : Nat}
    (hc : c = .read h q ∧ op = 1 ∨ c = .write h q e ∧ op = 2 ∨ c = .nop h q ∧ op = 3) (s : State) :
    ∃ e', exec c s = .next (request s h (brought q op) e') := by
  obtain ⟨rfl, rfl⟩ | ⟨rfl, rfl⟩ | ⟨rfl, rfl⟩ := hc <;> exact ⟨_, rfl⟩

/-- The session once it has accepted a new SEQ. -/
def accepted (s : State) (h : StitchHdr) (p : Fin 2) (x : Session) : State :=
  setSession (setSession s h.session.toNat { x with port := p.val }) h.session.toNat
    { x with port := p.val, high := h.seq.toNat, window := (x.window <<< (h.seq.toNat - x.high)) ||| 1, at_ := s.now }

theorem seqFate_new {x : Session} {seq : Nat} (hf : x.fresh = false) (hlt : x.high < seq) :
    seqFate x seq = .accept { x with high := seq, window := (x.window <<< (seq - x.high)) ||| 1 } := by
  simp only [seqFate, hf, Bool.false_eq_true, if_false, if_pos hlt]

section
variable {s : State} {h : StitchHdr} {p : Fin 2} {x : Session} (hr : Reaches s h p x) (hf : x.fresh = false) (hlt : x.high < h.seq.toNat)
include hr hf hlt

theorem Reaches.accepts (q : StitchReq) (e : Envt) : request s h q e =
    serve (accepted s h p x) { plot := Fin.ofNat 8 x.plot, roles := BitVec.ofNat 8 x.roles } h.session.toNat h.seq.toNat h.prio true q e := by
  obtain ⟨hvia, hup, hon, hw, ht, hlo, hhi, hx, hudp⟩ := hr
  rw [request_eq hvia hw hlo hhi hx hudp hup hon ht, seqFate_new (x := { x with port := p.val }) hf hlt]
  rfl

omit hr hf hlt in
theorem accepted_served (hasm : x.asm = none) (hwait : waiting s h.session.toNat < 16) (q : StitchReq) :
    Served (accepted s h p x) h.session.toNat q := by
  refine ⟨.inl ?_, hwait⟩
  rw [accepted, sessionOf_setSession]
  exact hasm

end

/-! ## Local ports -/

section
variable {s t : State} {p : Fin 8} {ws : List Nat}

/-- The session of a plot's local port as a request finds it. -/
def localSession (t : State) (p : Fin 8) : State :=
  setSession t (64 + p.val) { (sessionOf t (64 + p.val)).getD {} with plot := p.val, transport := 2, at_ := t.now }

theorem sesReply_local {s : State} {n : Nat} {x : Session} (hx : sessionOf s n = some x) (h2 : x.transport = 2) (seq prio : Nat) (b : List Byte) :
    sesReply s n seq prio b = localReply s x.plot seq b := by
  simp only [sesReply, hx, if_pos h2]

theorem local_nop {v q : StitchReq} {e : Envt} (ht : localTake s p = some (ws, true, t)) (h31 : (ws.headD 0).testBit 31 = false)
    (hq : reqParse ((ws.drop 1).flatMap (le 4)) = some q) (h3 : q.op = 3) (hwait : waiting t (64 + p.val) < 16) :
    exec (.localRequest p v e) s = .next (localReply (localSession t p) p (ws.headD 0)
      (replyBody 3 0 q.index.toNat q.sub.toNat 0 q.offset.toNat false 0 [])) := by
  have hs : Served (localSession t p) (64 + p.val) { q with sigOk := v.sigOk, tagOk := v.tagOk, progErr := v.progErr } :=
    ⟨.inr (by rw [h3]; rfl), hwait⟩
  simp only [exec, execLocalRequest, ht, h31, hq, Bool.false_eq_true, if_false, if_true]
  refine congrArg Host.Outcome.next (((hs.serve _ _ _ _ _).1 h3).trans ?_)
  refine (sesReply_local (s := localSession t p) (sessionOf_setSession ..) rfl _ _ _).trans ?_
  dsimp only
  rw [h3]
  rfl

end

/-! ## Settings -/

theorem settingsStore_one {s : State} (hf : flashOk s = true) : Ends .settingsStore s fun t =>
    t.ses.unsaved = [] ∧ t.ses.unsavedBytes = [] ∧ t.regs = s.regs ∧ t.mem = s.mem ∧
      (∀ k v, s.ses.unsaved = [(k, v)] → t.settings.find? k = some v) := by
  refine ⟨settingsStore s, rfl, ?_⟩
  have hno : ¬ (!flashOk s) = true := by simp [hf]
  unfold settingsStore
  rw [if_neg hno]
  refine ⟨rfl, rfl, rfl, rfl, fun k v hk => ?_⟩
  dsimp only
  rw [hk]
  exact SMap.find?_set_self ..

/-- Settles O51: a request of a new SEQ is served in the session's name, and R455's checks are made in their order. -/
theorem stitchRequests : Obligations.StitchRequests := by
  refine ⟨?_, ?_, ?_, ?_, ?_, ?_, ?_, ?_, ?_, ?_, ?_, ?_, ?_, ?_, ?_, ?_⟩
  · intro s h q e c op x p hc hvia hup hon hw ht hlo hhi hx hudp hf hlt hasm hwait y u answer
    have hr : Reaches s h p x := ⟨hvia, hup, hon, hw, ht, hlo, hhi, hx, hudp⟩
    have hop : op = 1 ∨ op = 2 ∨ op = 3 := by tauto
    obtain ⟨e', hexec⟩ := exec_brought (e := e) hc s
    have hs : Served u h.session.toNat (brought q op) := accepted_served hasm hwait _
    have hbody : (brought q op).op.toNat = op ∧ ((brought q op).op == 2) = decide (op = 2) := by
      obtain rfl | rfl | rfl := hop <;> exact ⟨rfl, rfl⟩
    obtain ⟨hnat, hwrite⟩ := hbody
    have h3' : op < 3 → (brought q op).op ≠ 3 := fun hlt3 h => by
      rw [h] at hnat
      exact absurd hnat.symm (Nat.ne_of_lt hlt3)
    rw [hexec, hr.accepts hf hlt]
    refine ⟨fun h3 => ?_, fun h3 hidx hobj hi => ?_, fun o i k code h3 hidx hobj hfix hcode => ?_⟩
    · refine congrArg Host.Outcome.next (((hs.serve _ _ _ _ _).1 (by subst h3; rfl)).trans ?_)
      rw [hnat, hwrite]
      rfl
    · refine congrArg Host.Outcome.next (((hs.serve _ _ _ _ _).2.1 (h3' h3) hidx hobj hi).trans ?_)
      rw [hnat, hwrite]
      rfl
    · refine congrArg Host.Outcome.next (((hs.serve _ _ _ _ _).2.2 o i k code (h3' h3) hidx hobj hfix ?_).trans ?_)
      · rw [hwrite, ← hcode]
        obtain rfl | rfl | rfl := hop
        · rfl
        · rfl
        · omega
      · rw [hnat, hwrite]
        rfl
  · intro s n seq prio b x hx hudp
    rw [sesReply_udp hx hudp]
    rfl
  · rintro s p v e c (rfl | rfl) ht
    · simp only [exec, execLocalRequest, ht]
    · simp only [exec, execPlotAnswerRx, ht]
  · intro s p v e ws ok t ht h31
    simp only [exec, execLocalRequest, ht, h31, if_true]
  · intro s p v e ws t ht h31
    simp only [exec, execLocalRequest, ht, h31, Bool.false_eq_true, if_false]
  · exact fun s p v e ws t q ht h31 hq h3 hwait => local_nop ht h31 hq h3 hwait
  · intro s p ws ok t f ht h31 hfind
    simp only [exec, execPlotAnswerRx, ht, h31, hfind, Bool.not_true, Bool.false_eq_true, if_false]
  · intro s k hk
    simp only [exec, execForwardTimeout, hk]
  · intro s k f hk hnow
    simp only [exec, execForwardTimeout, hk]
    rw [if_pos hnow]
  · intro s k f hk hnow
    simp only [exec, execForwardTimeout, hk]
    rw [if_neg (Nat.not_lt.mpr hnow)]
  · intro s hf
    have hno : (!flashOk s) = true := by simp [hf]
    simp only [exec, execSettingsStore, settingsStore, hno, if_true]
  · exact fun s hf => settingsStore_one hf
  · intro s v hm
    exact congrArg Host.Outcome.next (if_pos hm)
  · intro s v hm hv
    have hv' : v.toNat ≠ 0xD0D0 := fun h => hv (BitVec.eq_of_toNat_eq h)
    exact congrArg Host.Outcome.next ((if_neg (not_not.mpr hm)).trans (if_pos hv'))
  · intro s hm
    exact congrArg Host.Outcome.next ((if_neg (not_not.mpr hm)).trans (if_neg (by decide)))
  · exact fun s k => ⟨_, rfl, SMap.get_set_self .., rfl, rfl⟩

end Sys2Proof.Machine
end

section
/-! Jobs: a queued sweep whose last window was written while it was suspended does not run when its place falls free (R463, R464). -/

namespace Sys2Proof.Machine

theorem job_setJob_self (s : State) (j : Nat) (x : Job) : (s.setJob j x).job j = x := SMap.get_set_self ..

theorem jobNotice_job (s : State) (j k : Nat) : (jobNotice s j).job k = s.job k := by
  have h : (jobNotice s j).jobs = s.jobs :=
    (jobNotice_within (K := partsMask [.mem, .out, .irqHeld, .q, .rFurrow, .upd, .furBits]) (by decide) (Within.refl _ s)).same .jobs (by decide)
  rw [State.job, State.job, h]

theorem nsSync_job (s : State) (k : Nat) : (nsSync s).job k = s.job k := by
  have h : (nsSync s).jobs = s.jobs :=
    (nsSync_within (K := partsMask [.out, .can, .ns, .rCan, .upd]) (by decide) (Within.refl _ s)).same .jobs (by decide)
  rw [State.job, State.job, h]

/-- What a job is after a move: its state and result, and with DONE its progress. -/
theorem jobTo_moved (s : State) (j st result : Nat) : ∃ ended, (jobTo s j st result).job j =
    { s.job j with state := st, result := result, progress := if st = 4 then 1000 else (s.job j).progress, ended := ended } := by
  unfold jobTo
  extract_lets x u y z v
  have hz : ∃ ended, z = { s.job j with
      state := st, result := result, progress := if st = 4 then 1000 else (s.job j).progress, ended := ended } := by
    simp only [z]
    split
    · exact ⟨_, rfl⟩
    · exact ⟨_, rfl⟩
  obtain ⟨ended, hz⟩ := hz
  refine ⟨ended, ?_⟩
  rw [jobNotice_job]
  exact (job_setJob_self u j z).trans hz

/-- A sweep whose windows are all written ends when it is to run on. -/
theorem jobRun_swept {s : State} {j : Nat} (hb : (s.job j).begun = true) (hk : (s.job j).kind = 3)
    (hall : (s.job j).par.getD 3 0 ≤ (s.job j).par.getD 6 0) : ((jobRun s j).job j).state = 4 := by
  have hx : ∃ ended, (jobTo s j 2 0).job j = { s.job j with state := 2, result := 0, progress := (s.job j).progress, ended := ended } :=
    jobTo_moved s j 2 0
  obtain ⟨ended, hx⟩ := hx
  have hres : jobResume (jobTo s j 2 0) j = jobTo (sweepDrop (jobTo s j 2 0) j) j 4 0 := by
    unfold jobResume
    rw [hx]
    dsimp only
    rw [hk, if_neg (fun h => absurd h.1 (by decide)), if_pos ⟨rfl, hall⟩]
  have hrun : jobRun s j = nsSync (jobResume (jobTo s j 2 0) j) := if_pos hb
  rw [hrun, nsSync_job, hres]
  obtain ⟨ended', h⟩ := jobTo_moved (sweepDrop (jobTo s j 2 0) j) j 4 0
  rw [h]

/-- A sweep of one window, suspended and resumed: its window is written, and it waits for a place. -/
def sweptJob : Job := { kind := 3, state := 1, begun := true, par := [0, 0, 0, 1, 0, 0, 1] }

/-- After power-on with only that job. -/
def sweptState : State := State.reset.setJob 0 sweptJob

/-- Refutes O52: a place falls free for a queued sweep whose last window was written while it was suspended, and the sweep is DONE at once
instead of RUNNING. -/
theorem not_jobs : ¬ Obligations.Jobs := by
  unfold Obligations.Jobs
  rintro ⟨-, -, -, -, -, -, -, -, -, -, -, -, -, -, -, -, h, -⟩
  have hjob : sweptState.job 0 = sweptJob := job_setJob_self ..
  have hold : jobOldest sweptState 3 = some 0 := by decide
  have hroom : jobRunningOf sweptState 3 < jobLimit 3 := by decide
  obtain ⟨t, hexec, hrun⟩ := h sweptState 3 0 hold hroom (.inr (.inl rfl))
  have ht : t = jobRun sweptState 0 := by
    have hrow : exec (.jobDequeue 3) sweptState = .next (jobRun sweptState 0) := by
      have hold' : jobOldest sweptState ((3 : Fin 9) : Nat) = some 0 := hold
      simp only [exec, execJobDequeue, hold']
      exact congrArg Host.Outcome.next (if_pos hroom)
    exact (Host.Outcome.next.inj (hexec.symm.trans hrow))
  rw [ht, jobRun_swept (by rw [hjob]; rfl) (by rw [hjob]; rfl) (by rw [hjob]; decide)] at hrun
  exact absurd hrun (by decide)

end Sys2Proof.Machine
end

section
/-! Plots: what a state change, a thaw, the end of jobs and a reset of one plot leave of another, and of its own registers (R476-R482). -/

namespace Sys2Proof.Machine

@[simp] theorem plot_setPlot_self (s : State) (p : Nat) (x : PlotSt) : (s.setPlot p x).plot p = x := SMap.get_set_self ..

theorem plot_setPlot_ne {p q : Nat} (h : p ≠ q) (s : State) (x : PlotSt) : (s.setPlot q x).plot p = s.plot p := SMap.get_set_ne _ _ _ h

/-- Plot `p`'s hidden state is the same, and so are the fields of the plot controller but STATE of the other plots and MIG_FAIL. -/
structure PlotStays (p : Nat) (s t : State) : Prop where
  plot : t.plot p = s.plot p
  regs : ∀ f : Field, Blk f 53 → (∀ q, f.key ≠ (F.PC_PFLT_MIG_FAIL q).key) → (∀ q, q ≠ p → f.key ≠ (F.PC_PSTAT_STATE q).key) → t.rd f = s.rd f

section
variable {p : Nat} {s t u : State}

theorem PlotStays.refl (p : Nat) (s : State) : PlotStays p s s := ⟨rfl, fun _ _ _ _ => rfl⟩

theorem PlotStays.trans (h : PlotStays p s t) (h' : PlotStays p t u) : PlotStays p s u :=
  ⟨h'.plot.trans h.plot, fun f hb hm hq => (h'.regs f hb hm hq).trans (h.regs f hb hm hq)⟩

theorem PlotStays.within {K : Nat} (h : PlotStays p s t) (hw : Within K t u) (hpc : K.testBit Part.pc.bit = false) (hK : K.testBit 53 = false) :
    PlotStays p s u :=
  h.trans ⟨congrArg (fun x : PcSt => x.plots.get p {}) (hw.same .pc hpc), fun _ hb _ _ => hw.rd_eq hb (by decide) hK⟩

theorem PlotStays.migFail (h : PlotStays p s t) (q v : Nat) : PlotStays p s (t.wr (F.PC_PFLT_MIG_FAIL q) v) :=
  h.trans ⟨rfl, fun _ _ hm _ => State.rd_wr_ne _ _ (hm q)⟩

/-- A change outside the plot controller's registers that keeps its plots. -/
theorem PlotStays.same (h : PlotStays p s t) (hpc : u.pc = t.pc) (hr : u.regs = t.regs) : PlotStays p s u :=
  h.trans ⟨by rw [State.plot, State.plot, hpc], fun _ _ _ _ => by rw [State.rd, State.rd, hr]⟩

/-- A write outside the plot controller. -/
theorem PlotStays.wr (h : PlotStays p s t) {g : Field} (hg : ¬ Blk g 53) (v : Nat) : PlotStays p s (t.wr g v) :=
  h.trans ⟨rfl, fun f hb _ _ => State.rd_wr_ne _ _ fun e => hg (by rwa [Blk, ← e])⟩

theorem PlotStays.state (hp : p < 8) (h : PlotStays p s t) : plotState t p = plotState s p :=
  h.regs (F.PC_PSTAT_STATE p) (by simp) (fun q => by simp only [Field.key, F.PC_PSTAT_STATE, F.PC_PFLT_MIG_FAIL]; omega)
    fun q hq => by simp only [Field.key, F.PC_PSTAT_STATE]; omega

theorem PlotStays.setOther (h : PlotStays p s t) {q : Nat} (hq : p ≠ q) (x : PlotSt) : PlotStays p s (t.setPlot q x) :=
  h.trans ⟨plot_setPlot_ne hq .., fun _ _ _ _ => rfl⟩

theorem PlotStays.stateOther (h : PlotStays p s t) {q : Nat} (hq : q ≠ p) (v : Nat) : PlotStays p s (t.wr (F.PC_PSTAT_STATE q) v) :=
  h.trans ⟨rfl, fun _ _ _ hs => State.rd_wr_ne _ _ (hs q hq)⟩

theorem PlotStays.degrade (h : PlotStays p s t) (q : Nat) : PlotStays p s (plotDegrade t q) :=
  h.within (plotDegrade_within (K := partsMask [.girth, .rGirth, .substate, .upd]) (by decide) (Within.refl _ t)) (by decide) (by decide)

theorem PlotStays.record (h : PlotStays p s t) (q type flt : Nat) : PlotStays p s (plotRecord t q type flt) :=
  h.within (plotRecord_within (K := partsMask [.mem, .out, .irqHeld, .q, .rFurrow, .upd, .furBits]) (by decide) (Within.refl _ t)) (by decide)
    (by decide)

theorem PlotStays.catch (h : PlotStays p s t) (q : Nat) : PlotStays p s (plotCatch t q) :=
  h.within (plotCatch_within (K := partsMask [.mem, .out, .irqHeld, .q, .trl, .rTrellis, .rFurrow, .upd, .furBits]) (by decide)
    (Within.refl _ t)) (by decide) (by decide)

theorem PlotStays.irqs (h : PlotStays p s t) (q : Nat) : PlotStays p s (plotIrqs t q) :=
  h.within (plotIrqs_within (K := partsMask [.out, .irqHeld]) (by decide) (Within.refl _ t)) (by decide) (by decide)

end

/-! ## A plot's state -/

/-- A plot as its entry into state `st` leaves it. -/
structure Entered (x y : PlotSt) (st : Nat) : Prop where
  restart : y.restart = x.restart
  freeze : y.freeze = x.freeze
  job : y.job = x.job
  restarts : y.restarts = x.restarts
  frozenAt : y.frozenAt = x.frozenAt
  ckpt : y.ckpt = x.ckpt
  record : y.record = x.record
  since : y.since = x.since
  faulted : st ≠ 1 → y.faulted = false

theorem plotTo_shows (s : State) {p st : Nat} (hp : p < 8) (hst : st < 8) :
    plotState (plotTo s p st) p = st ∧ Entered (s.plot p) ((plotTo s p st).plot p) st := by
  unfold plotTo
  extract_lets was x u v
  have hu : Entered (s.plot p) (u.plot p) 1 := by
    simp only [u]
    split
    · rw [plot_setPlot_self]
      exact ⟨rfl, rfl, rfl, rfl, rfl, rfl, rfl, rfl, fun h => absurd rfl h⟩
    · exact ⟨rfl, rfl, rfl, rfl, rfl, rfl, rfl, rfl, fun h => absurd rfl h⟩
  have hv : plotState v p = st := State.rd_wr_of_lt _ (Nat.lt_of_lt_of_eq hst rfl)
  obtain ⟨h₁, h₂, h₃, h₄, h₅, h₆, h₇, h₈, -⟩ := hu
  by_cases h1 : st = 1
  · have hd := (PlotStays.refl p v).degrade p
    rw [if_pos h1]
    refine ⟨(hd.state hp).trans hv, ?_⟩
    rw [hd.plot]
    exact ⟨h₁, h₂, h₃, h₄, h₅, h₆, h₇, h₈, fun h => absurd h1 h⟩
  · have hd := (PlotStays.refl p (v.setPlot p { v.plot p with faulted := false })).degrade p
    rw [if_neg h1]
    refine ⟨(hd.state hp).trans hv, ?_⟩
    rw [hd.plot, plot_setPlot_self]
    exact ⟨h₁, h₂, h₃, h₄, h₅, h₆, h₇, h₈, fun _ => rfl⟩

theorem plotTo_other {p q : Nat} (hq : q ≠ p) (s : State) (st : Nat) : PlotStays p s (plotTo s q st) := by
  unfold plotTo
  extract_lets was x u v
  have hu : PlotStays p s u := by
    simp only [u]
    split
    · exact (PlotStays.refl p s).setOther hq.symm _
    · exact PlotStays.refl p s
  have hv : PlotStays p s v := hu.stateOther hq st
  split
  · exact hv.degrade q
  · exact (hv.setOther hq.symm _).degrade q

/-- What a change of state leaves of the plot controller's other fields. -/
theorem rd_plotTo_ne {f : Field} {p : Nat} (hb : Blk f 53) (hf : f.key ≠ (F.PC_PSTAT_STATE p).key) (s : State) (st : Nat) :
    (plotTo s p st).rd f = s.rd f := by
  unfold plotTo
  extract_lets was x u v
  have hu : u.rd f = s.rd f := by
    simp only [u]
    split <;> rfl
  have hv : v.rd f = s.rd f := (State.rd_wr_ne _ _ hf).trans hu
  have hd : ∀ w : State, (plotDegrade w p).rd f = w.rd f := fun w =>
    (plotDegrade_within (K := partsMask [.girth, .rGirth, .substate, .upd]) (by decide) (Within.refl _ w)).rd_eq hb (by decide) (by decide)
  rw [hd]
  split
  · exact hv
  · exact hv

/-! ## THAW -/

theorem plotThaw_other {p q : Nat} (hq : q ≠ p) (s : State) : PlotStays p s (plotThaw s q) :=
  ((((((PlotStays.refl p s).setOther hq.symm _).trans (plotTo_other hq _ 3)).catch q).irqs q).record q 5 0xFF)

theorem plotThaw_shows (s : State) {p : Nat} (hp : p < 8) : plotState (plotThaw s p) p = 3 ∧
    Entered { s.plot p with freeze := 0, job := none } ((plotThaw s p).plot p) 3 := by
  obtain ⟨hst, hin⟩ := plotTo_shows (s.setPlot p { s.plot p with freeze := 0, job := none }) hp (st := 3) (by decide)
  rw [plot_setPlot_self] at hin
  have h : PlotStays p (plotTo (s.setPlot p { s.plot p with freeze := 0, job := none }) p 3) (plotThaw s p) :=
    (((PlotStays.refl p _).catch p).irqs p).record p 5 0xFF
  exact ⟨(h.state hp).trans hst, by rw [h.plot]; exact hin⟩

/-! ## Ends of jobs -/

/-- The end of a job that plot `p` does not wait for. -/
theorem jobClean_stays {p j : Nat} {s : State} (h : (s.plot p).job ≠ some j) (code : Nat) : PlotStays p s (jobClean s j code) := by
  have hr : PlotStays p s s := PlotStays.refl p s
  unfold jobClean
  extract_lets x live grf ku clo q t
  split
  · exact hr
  · split
    · exact hr.same rfl rfl
    · exact hr.within (sweepDrop_within (K := partsMask [.til]) (by decide) (Within.refl _ s)) (by decide) (by decide)
    · have hku : PlotStays p s ku := by
        simp only [ku]
        split
        · exact hr.within (journalAppend_within (K := partsMask [.clo]) (by decide) (Within.refl _ s)) (by decide) (by decide)
        · exact hr.wr (g := F.CLO_FLT_KU_FAIL) (by unfold Blk; decide) 1
      exact hku.same rfl rfl
    · have ht : PlotStays p s t := by
        simp only [t]
        split
        · exact hr.migFail q 1
        · exact hr
      split
      case isTrue hheld =>
        have hq : q ≠ p := by
          rintro rfl
          rw [Bool.and_eq_true, beq_iff_eq, ht.plot] at hheld
          exact h hheld.2
        exact ht.trans (plotThaw_other hq t)
      case isFalse => exact ht
    · exact hr

theorem jobTo_stays (p : Nat) (s : State) (j st code : Nat) : PlotStays p s (jobTo s j st code) :=
  (PlotStays.refl p s).within (jobTo_within (K := partsMask [.mem, .out, .irqHeld, .q, .jobs, .rFurrow, .rTilth, .upd, .furBits]) (by decide)
    (Within.refl _ s)) (by decide) (by decide)

theorem jobEnd_stays {p j : Nat} {s : State} (h : (s.plot p).job ≠ some j) (st code : Nat) : PlotStays p s (jobEnd s j st code) :=
  (jobClean_stays h code).trans (jobTo_stays ..)

/-- Jobs end; none of them is one that plot `p` waits for. -/
theorem jobsEnd_stays {p : Nat} {s : State} (h : (s.plot p).job = none) (g : Nat → Job → Bool) (code : Nat) : PlotStays p s (jobsEnd s g code) := by
  refine forN_inv (P := PlotStays p s) (fun j _ t ht => ?_) (PlotStays.refl p s)
  split
  · exact ht.trans (jobEnd_stays (by rw [ht.plot, h]; exact fun e => nomatch e) 5 code)
  · exact ht

/-! ## Reset -/

section
variable {p : Nat} {s t : State} (h : PlotStays p s t)
include h

theorem PlotStays.busy : PlotStays p s (outBusySync t) :=
  h.within (outBusySync_within (K := partsMask [.rBridle, .upd]) (by decide) (Within.refl _ t)) (by decide) (by decide)

theorem PlotStays.fwdFail (q code : Nat) : PlotStays p s (Machine.fwdFail t q code) :=
  h.within (fwdFail_within (K := partsMask [.mem, .out, .irqHeld, .q, .can, .ses, .rFurrow, .rCan, .upd, .furBits]) (by decide)
    (Within.refl _ t)) (by decide) (by decide)

end

/-- What steps 1 and 2 of a reset of plot `p` take from what other blocks do for it, once the plot is RESETTING. -/
def resetSquash (s : State) (p : Nat) : State :=
  let s := fwdFail (outBusySync (s.wr (F.BR_FENCE_STAT_BUSY p) 0)) p 0x0610
  let s := forN (squashCan p) 8 (forN (squashQueue p) 64 s)
  let s := (plotSlots s p).foldl (fun t n => t.hwWr (F.SLOT_CTL_EN n) 0) s
  let s := forN (fun e t => if powOwner t e == p then powAbandon t e else t) 16 s
  let s := if s.rdB F.TIL_CTL_OWNER_VALID && s.rd F.TIL_CTL_OWNER == p then tilWithdraw s else s
  let s := s.hwWr (F.NS_CONSENT_CONSENT p) 0
  if recRstOff (plotRec s p) then plotOff s p else s

/-- The parts that the squash may touch. -/
def squashMask : Nat := partsMask [.mem, .out, .faults, .irqHeld, .q, .ls, .lsKept0, .lsKept1, .dio, .trl, .til, .can, .ses, .rTrellis, .rFurrow,
  .rTilth, .rLs, .rDio, .rCan, .rGateway, .rBridle, .upd, .furBits]

theorem resetSquash_within (s : State) (p : Nat) : Within squashMask s (resetSquash s p) := by
  have h₀ : Within squashMask s s := Within.refl _ s
  unfold resetSquash
  extract_lets a b c d e f
  have ha : Within squashMask s a := fwdFail_within (by decide) (outBusySync_within (by decide)
    (Within.wr (i := 52) (by simp) (by decide) (by decide) (by decide) h₀))
  have hb : Within squashMask s b :=
    Within.forN (fun i _ t ht => squashCan_within (by decide) ht) (Within.forN (fun i _ t ht => squashQueue_within (by decide) ht) ha)
  have hc : Within squashMask s c := Within.foldl (fun t n ht => Within.hwWr (i := 41) (by simp) (by decide) (by decide) (by decide) ht) hb
  have hd : Within squashMask s d := Within.forN (fun i _ t ht => by
    split
    · exact powAbandon_within (by decide) ht
    · exact ht) hc
  have he : Within squashMask s e := by
    simp only [e]
    split
    · exact tilWithdraw_within (by decide) hd
    · exact hd
  have hf : Within squashMask s f := Within.hwWr (i := 51) (by simp) (by decide) (by decide) (by decide) he
  split
  · exact plotOff_within (by decide) hf
  · exact hf

theorem resetSquash_consent (s : State) (p : Nat) : (resetSquash s p).rd (F.NS_CONSENT_CONSENT p) = 0 := by
  unfold resetSquash
  extract_lets a b c d e f
  have hf : f.rd (F.NS_CONSENT_CONSENT p) = 0 := (State.rd_hwWr_self ..).trans (Nat.zero_mod _)
  split
  · exact ((plotOff_within (K := partsMask [.mem, .out, .irqHeld, .q, .ls, .lsKept0, .lsKept1, .dio, .rFurrow, .rLs, .rDio, .upd, .furBits])
      (by decide) (Within.refl _ f)).rd_eq (i := 51) (by simp) (by decide) (by decide)).trans hf
  · exact hf

/-- Plot `p` enters RESETTING; its freeze is over. -/
def resetEntered (s : State) (p : Nat) (restart : Bool) : State :=
  let s := plotRecord s p 2 0xFF
  plotTo (s.setPlot p { s.plot p with freeze := 0, job := none, restart := restart, since := s.now }) p 4

/-- The jobs of plot `p`, and the one that it waited for, end. -/
def resetJobs (s : State) (p : Nat) (job : Option Nat) : State :=
  let s := match job with
    | some j => if jobFinal (s.job j).state then s else jobEnd s j 5 0x0706
    | none => s
  jobsEnd s (fun _ x => x.owner == p) 0x0706

/-- The plot's requests leave Bridle. -/
def resetRequests (s : State) (p : Nat) : State :=
  let b := { s.br with out := s.br.out.filter (·.issuer != p), fences := SMap.dropRange s.br.fences p (p + 1) }
  { s with br := { b with failed := SMap.dropRange b.failed p (p + 1) } }

theorem plotReset_eq {s : State} {p : Nat} (h : plotState s p ≠ 4) (restart : Bool) :
    plotReset s p restart = resetSquash (resetRequests (resetJobs (resetEntered s p restart) p (s.plot p).job) p) p := by
  have h4 : ¬ (plotState s p == 4) = true := by simpa using h
  unfold plotReset
  rw [if_neg h4]
  extract_lets job a x b c d
  have hd : d = resetJobs (resetEntered s p restart) p job := by
    have hb : b = resetEntered s p restart := rfl
    simp only [d, c, hb, resetJobs] <;> rfl
  rw [show resetJobs (resetEntered s p restart) p (s.plot p).job = d from hd.symm]
  clear hd
  clear_value d
  unfold resetSquash resetRequests
  rfl

/-- Plot `p` is RESETTING. -/
structure ResetShows (p : Nat) (restart : Bool) (s t : State) : Prop where
  state : plotState t p = 4
  restart : (t.plot p).restart = restart
  freeze : (t.plot p).freeze = 0
  restarts : (t.plot p).restarts = (s.plot p).restarts
  consent : t.rd (F.NS_CONSENT_CONSENT p) = 0
  out : ∀ x ∈ t.br.out, x.issuer ≠ p
  regs : ∀ f : Field, Blk f 53 → (∀ q, f.key ≠ (F.PC_PFLT_MIG_FAIL q).key) → (∀ q, f.key ≠ (F.PC_PSTAT_STATE q).key) → t.rd f = s.rd f

theorem plotReset_shows {s : State} {p : Nat} (hp : p < 8) (h : plotState s p ≠ 4) (restart : Bool) :
    ResetShows p restart s (plotReset s p restart) := by
  rw [plotReset_eq h]
  have hrec := (PlotStays.refl p s).record p 2 0xFF
  obtain ⟨hst, hin⟩ := plotTo_shows ((plotRecord s p 2 0xFF).setPlot p { (plotRecord s p 2 0xFF).plot p with
    freeze := 0, job := none, restart := restart, since := (plotRecord s p 2 0xFF).now }) hp (st := 4) (by decide)
  rw [plot_setPlot_self] at hin
  have hregs : ∀ f : Field, Blk f 53 → (∀ q, f.key ≠ (F.PC_PFLT_MIG_FAIL q).key) → (∀ q, f.key ≠ (F.PC_PSTAT_STATE q).key) →
      (resetEntered s p restart).rd f = s.rd f := fun f hb hm hq =>
    (rd_plotTo_ne hb (hq p) _ 4).trans (hrec.regs f hb hm fun q _ => hq q)
  have hjob : ((resetEntered s p restart).plot p).job = none := hin.job
  have hstays : PlotStays p (resetEntered s p restart) (resetJobs (resetEntered s p restart) p (s.plot p).job) := by
    generalize resetEntered s p restart = u at hjob
    unfold resetJobs
    extract_lets v
    have hv : PlotStays p u v := by
      simp only [v]
      split
      · split
        · exact PlotStays.refl p u
        · exact jobEnd_stays (by rw [hjob]; exact fun e => nomatch e) 5 0x0706
      · exact PlotStays.refl p u
    exact hv.trans (jobsEnd_stays (by rw [hv.plot, hjob]) _ _)
  have hin' : Entered _ ((resetEntered s p restart).plot p) 4 := hin
  have hst' : plotState (resetEntered s p restart) p = 4 := hst
  generalize resetEntered s p restart = u at *
  generalize resetJobs u p (s.plot p).job = v at *
  have hw := resetSquash_within (resetRequests v p) p
  have hall : PlotStays p u (resetSquash (resetRequests v p) p) :=
    (hstays.same (u := resetRequests v p) rfl rfl).within hw (by decide) (by decide)
  refine ⟨(hall.state hp).trans hst', ?_, ?_, ?_, resetSquash_consent .., fun x hx => ?_, fun f hb hm hq => ?_⟩
  · rw [hall.plot]
    exact hin'.restart
  · rw [hall.plot]
    exact hin'.freeze
  · rw [hall.plot, hin'.restarts, ← hrec.plot]
  · have hbr : (resetSquash (resetRequests v p) p).br = (resetRequests v p).br := hw.same .br (by decide)
    rw [hbr] at hx
    have hx' : x ∈ v.br.out.filter (·.issuer != p) := hx
    simpa using (List.mem_filter.mp hx').2
  · exact (hall.regs f hb hm fun q _ => hq q).trans (hregs f hb hm hq)

/-! ## FREEZE -/

theorem freezeStart_shows (s : State) {p : Nat} (hp : p < 8) (purpose : Nat) :
    ((freezeStart s p purpose none).plot p).freeze = purpose ∧ plotState (freezeStart s p purpose none) p = plotState s p := by
  unfold freezeStart
  extract_lets x u
  have hu : u.plot p = { x with freeze := purpose, job := none, since := s.now, ckptAt := if purpose = 4 then s.now else x.ckptAt } :=
    plot_setPlot_self ..
  have hstays := jobsEnd_stays (p := p) (s := u) (by rw [hu]) (fun j x => x.owner == p && some j != none) 0x0707
  refine ⟨?_, (hstays.state hp).trans rfl⟩
  rw [hstays.plot, hu]

end Sys2Proof.Machine
end

section
/-! Plot commands and the commit of the plot tables (R471, R478, R480, R482, R488). -/

namespace Sys2Proof.Machine

/-! ## The commands -/

/-- The commands of PC_PCMD with their codes (Table 20-4). -/
inductive PlotCmd (r : Req) (p : Fin 8) : Instr → Nat → Prop where
  | start : PlotCmd r p (.plotStart r p) 1
  | stop : PlotCmd r p (.plotStop r p) 2
  | reset : PlotCmd r p (.plotReset r p) 3
  | freeze : PlotCmd r p (.freeze r p) 4
  | thaw : PlotCmd r p (.thaw r p) 5
  | checkpoint : PlotCmd r p (.checkpoint r p) 6

section
variable {s u : State} {r : Req} {p : Fin 8} {c : Instr} {n code : Nat} (hlive : windowDead s (F.PC_PCMD_CMD p).addr = false)

/-- A command ends with the answer that the plot controller gives. -/
theorem exec_plotCmd (hlive : windowDead s (F.PC_PCMD_CMD p).addr = false) (hc : PlotCmd r p c n) (h : plotCommand s r p n = u.status code)
    (hcode : code ≠ 0x0110 ∧ code ≠ 0x0610 ∧ code ≠ 0x0611) : exec c s = .next (u.status code) := by
  have hclass : classN (F.PC_PCMD_CMD p).addr = false := classN_of_window (by simp only [F.PC_PCMD_CMD]; omega)
  cases hc <;> exact next_hostWrite_status hlive hclass h hcode

/-- A source that may not command a plot. -/
theorem plotCommand_denied (hr : r.supOrStitch = false) (hself : r ≠ .plot p ∨ n ≠ 3) : plotCommand s r p n = s.status 0x0207 := by
  unfold plotCommand
  extract_lets st busy self
  have hown : self = true → r = .plot p := by
    intro h
    cases r with
    | plot k => exact congrArg Req.plot (Fin.ext (beq_iff_eq.mp h))
    | _ => exact absurd h Bool.false_ne_true
  have hno : (!(r.supOrStitch || (self && n == 3))) = true := by
    rw [hr, Bool.false_or, Bool.not_eq_true', Bool.and_eq_false_iff, beq_eq_false_iff_ne]
    exact hself.imp (fun h => Bool.eq_false_iff.mpr fun h' => h (hown h')) id
  rw [if_pos hno]

section
variable (hr : r.supOrStitch = true)
include hr

/-- A source that may command each plot has its command carried out or refused by the plot's state. -/
theorem plotCommand_eq : plotCommand s r p n =
    if n = 0 ∨ 6 < n then s.status 0x030B
    else if n = 1 then if plotState s p ≠ 1 ∨ s.mode = mQUARANTINE then s.status 0x0303 else (plotTo s p 2).status 0
    else if n = 2 then if plotState s p ≠ 3 ∧ plotState s p ≠ 5 then s.status 0x0303 else (plotReset s p false).status 0
    else if n = 3 then
      if plotState s p ≠ 2 ∧ plotState s p ≠ 3 ∧ plotState s p ≠ 5 then s.status 0x0303 else (plotReset s p true).status 0
    else if n = 4 then
      if plotState s p ≠ 3 ∨ (s.plot p).freeze ≠ 0 then s.status 0x0303 else (freezeStart s p 1 none).status 0
    else if n = 5 then if plotState s p ≠ 5 ∨ (s.plot p).freeze ≠ 0 then s.status 0x0303 else (plotThaw s p).status 0
    else if plotState s p ≠ 3 ∨ (s.plot p).freeze ≠ 0 ∨ recTakeover (plotRec s p) ≠ 2 then s.status 0x0303
    else if !s.rdB F.XL_STAT_LINK then s.status 0x0111
    else (freezeStart s p 4 none).status 0 := by
  unfold plotCommand
  extract_lets st busy self
  have hself : self = false := by
    cases r with
    | plot k => exact absurd hr Bool.false_ne_true
    | _ => rfl
  have hyes : (!(r.supOrStitch || (self && n == 3))) = false := by rw [hr]; rfl
  rw [if_neg (Bool.eq_false_iff.mp hyes)]
  simp only [hself, st, busy, bne_iff_ne, Bool.false_eq_true, if_false]

theorem plotCommand_start : plotCommand s r p 1 =
    if plotState s p ≠ 1 ∨ s.mode = mQUARANTINE then s.status 0x0303 else (plotTo s p 2).status 0 := by
  rw [plotCommand_eq hr]
  rfl

theorem plotCommand_stop : plotCommand s r p 2 =
    if plotState s p ≠ 3 ∧ plotState s p ≠ 5 then s.status 0x0303 else (plotReset s p false).status 0 := by
  rw [plotCommand_eq hr]
  rfl

theorem plotCommand_reset : plotCommand s r p 3 =
    if plotState s p ≠ 2 ∧ plotState s p ≠ 3 ∧ plotState s p ≠ 5 then s.status 0x0303 else (plotReset s p true).status 0 := by
  rw [plotCommand_eq hr]
  rfl

theorem plotCommand_freeze : plotCommand s r p 4 =
    if plotState s p ≠ 3 ∨ (s.plot p).freeze ≠ 0 then s.status 0x0303 else (freezeStart s p 1 none).status 0 := by
  rw [plotCommand_eq hr]
  rfl

theorem plotCommand_thaw : plotCommand s r p 5 =
    if plotState s p ≠ 5 ∨ (s.plot p).freeze ≠ 0 then s.status 0x0303 else (plotThaw s p).status 0 := by
  rw [plotCommand_eq hr]
  rfl

theorem plotCommand_checkpoint : plotCommand s r p 6 =
    if plotState s p ≠ 3 ∨ (s.plot p).freeze ≠ 0 ∨ recTakeover (plotRec s p) ≠ 2 then s.status 0x0303
    else if !s.rdB F.XL_STAT_LINK then s.status 0x0111
    else (freezeStart s p 4 none).status 0 := by
  rw [plotCommand_eq hr]
  rfl

end

/-- A plot that resets itself. -/
theorem plotCommand_self (hst : plotState s p = 2 ∨ plotState s p = 3 ∨ plotState s p = 5) : plotCommand s (.plot p) p 3 =
    (plotReset (s.wr (F.PC_PFLT_SELF_RESET p) 1) p true).status 0 := by
  unfold plotCommand
  extract_lets st busy self
  have hself : self = true := beq_self_eq_true _
  have hyes : (!((Req.plot p).supOrStitch || (self && (3 : Nat) == 3))) = false := by rw [hself]; rfl
  have hst' : ¬ (st ≠ 2 ∧ st ≠ 3 ∧ st ≠ 5) := by
    simp only [st]
    omega
  rw [if_neg (Bool.eq_false_iff.mp hyes)]
  simp only [hself, if_true, if_neg hst', Nat.reduceEqDiff, Nat.reduceLT, or_self, if_false]

end

/-! ## The commit of the tables -/

/-- May this source commit the tables (R491, R492)? -/
def mayCommit (r : Req) : Bool := match r with | .supervisor => true | .stitch _ sup _ => sup | _ => false

theorem exec_commit {s u : State} {r : Req} {code : Nat} (hlive : windowDead s F.PC_CMD_COMMIT.addr = false)
    (h : (if mayCommit r then tablesCommit s else s.status 0x0207) = u.status code) (hcode : code ≠ 0x0110 ∧ code ≠ 0x0610 ∧ code ≠ 0x0611) :
    exec (.plotTablesCommit r) s = .next (u.status code) :=
  next_hostWrite_status hlive rfl h hcode

theorem mayCommit_of {r : Req} {a : Fin 8} {b : Bool} (h : r = .supervisor ∨ r = .stitch a true b) : mayCommit r = true := by
  obtain rfl | rfl := h <;> rfl

/-- The parts of a staged set that a commit goes on to bring into force. -/
theorem staged_of {s t : State} (h : t.objBytes = s.objBytes) : stagedPlan t = stagedPlan s ∧ stagedQueues t = stagedQueues s := by
  unfold stagedPlan stagedQueues
  rw [h]
  exact ⟨rfl, rfl⟩

/-- The digest of the tables in force leaves the tables. -/
theorem digestSync_shows (s : State) : (digestSync s).rd F.PC_STAT_TABLES_OK = s.rd F.PC_STAT_TABLES_OK ∧ (digestSync s).pc.plan = s.pc.plan ∧
    (digestSync s).pc.queues = s.pc.queues := by
  unfold digestSync
  extract_lets b d pc
  clear_value d
  exact ⟨State.rd_wrB_ne _ _ (by decide), rfl, rfl⟩

theorem tablesApply_shows (s : State) : (tablesApply s).rd F.PC_STAT_TABLES_OK = 1 ∧ (tablesApply s).pc.plan = stagedPlan s ∧
    (tablesApply s).pc.queues = stagedQueues s := by
  unfold tablesApply
  extract_lets old u t v w
  have hu : u.objBytes = s.objBytes := forN_keeps (fun x : State => x.objBytes) (fun i _ x =>
    (plotApply_within (K := partsMask [.pc, .rTrellis, .rPlant, .rLatigo, .rMsr, .rFurrow, .rTilth, .rPommel, .rLs, .rStirrup, .rDio, .rCan,
      .rGateway, .rPlots, .rCloche, .rGirth, .rEth, .rBridle, .rGraft, .rIdent, .substate, .upd]) (by decide) (Within.refl _ x)).same .objBytes
      (by decide)) s
  have hv : v.objBytes = u.objBytes := forN_keeps (fun x : State => x.objBytes) (fun i _ x => by
    split
    · exact (queueApply_within (K := partsMask [.out, .irqHeld, .q, .rTrellis, .rPlant, .rLatigo, .rMsr, .rFurrow, .rTilth, .rPommel, .rLs,
        .rStirrup, .rDio, .rCan, .rGateway, .rPlots, .rCloche, .rGirth, .rEth, .rBridle, .rGraft, .rIdent, .substate, .upd]) (by decide)
        (Within.refl _ x)).same .objBytes (by decide)
    · rfl) u
  have ht : t = stagedQueues u := rfl
  clear_value t v u
  obtain ⟨hok, hplan, hq⟩ := digestSync_shows (State.wr { v with pc := { v.pc with queues := t, plan := stagedPlan v } } F.PC_STAT_TABLES_OK 1)
  exact ⟨hok.trans (State.rd_wr_self ..), hplan.trans (staged_of (hv.trans hu)).1, hq.trans (ht.trans (staged_of hu).2)⟩

theorem commit_applied {s : State} (hf : tablesFault s = none) (hstop : ∀ p : Fin 8, plotChanged s p = true → plotState s p < 2) :
    ∃ u : State, tablesCommit s = u.status 0 ∧ u.rd F.PC_STAT_TABLES_OK = 1 ∧ u.pc.plan = stagedPlan s ∧ u.pc.queues = stagedQueues s := by
  have hno : ¬ ((List.range 8).any fun p => plotChanged s p && decide (2 ≤ plotState s p)) = true := by
    simp only [List.any_eq_true, List.mem_range, Bool.and_eq_true, decide_eq_true_eq]
    rintro ⟨p, hp, hc, h2⟩
    exact Nat.not_lt.mpr h2 (hstop ⟨p, hp⟩ hc)
  obtain ⟨hok, hplan, hq⟩ := tablesApply_shows ((s.wr F.PC_TERR_PLOT 0xF).wr F.PC_TERR_REASON 0)
  unfold tablesCommit
  rw [hf]
  dsimp only
  rw [if_neg hno]
  refine ⟨_, rfl, ?_⟩
  generalize tablesApply ((s.wr F.PC_TERR_PLOT 0xF).wr F.PC_TERR_REASON 0) = u at hok hplan hq
  split
  · have hw := claimAll_within (K := partsMask [.mem, .out, .irqHeld, .q, .girth, .ls, .lsKept0, .lsKept1, .dio, .rFurrow, .rLs, .rStirrup,
      .rDio, .rGirth, .substate, .upd, .furBits]) (by decide) (Within.refl _ u)
    have hpc : (claimAll u).pc = u.pc := hw.same .pc (by decide)
    rw [hpc]
    exact ⟨(hw.rd_eq (f := F.PC_STAT_TABLES_OK) (i := 53) rfl (by decide) (by decide)).trans hok, hplan, hq⟩
  · exact ⟨hok, hplan, hq⟩

/-- Settles O53: a command is refused by its source and by the plot's state; a reset shows what `plotReset_shows` says. -/
theorem plotCommands : Obligations.PlotCommands := by
  refine ⟨?_, ?_, ?_, ?_, ?_, ?_, ?_, ?_, ?_, ?_, ?_, ?_, ?_, ?_⟩
  · intro s r p c hlive hc hr
    have hcmd : ∃ n, PlotCmd r p c n ∧ n ≠ 3 := by
      obtain rfl | rfl | rfl | rfl | rfl := hc
      · exact ⟨1, .start, by decide⟩
      · exact ⟨2, .stop, by decide⟩
      · exact ⟨4, .freeze, by decide⟩
      · exact ⟨5, .thaw, by decide⟩
      · exact ⟨6, .checkpoint, by decide⟩
    obtain ⟨n, hcmd, hn⟩ := hcmd
    exact exec_plotCmd hlive hcmd (plotCommand_denied hr (.inr hn)) (by decide)
  · intro s r p hlive hr hself
    exact exec_plotCmd hlive .reset (plotCommand_denied hr (.inl hself)) (by decide)
  · intro s r p c hlive hr hc
    obtain ⟨rfl, h⟩ | ⟨rfl, h, h'⟩ | ⟨rfl, h, h', h''⟩ | ⟨rfl, h⟩ | ⟨rfl, h⟩ | ⟨rfl, h⟩ := hc
    · exact exec_plotCmd hlive .start ((plotCommand_start hr).trans (if_pos h)) (by decide)
    · exact exec_plotCmd hlive .stop ((plotCommand_stop hr).trans (if_pos ⟨h, h'⟩)) (by decide)
    · exact exec_plotCmd hlive .reset ((plotCommand_reset hr).trans (if_pos ⟨h, h', h''⟩)) (by decide)
    · exact exec_plotCmd hlive .freeze ((plotCommand_freeze hr).trans (if_pos h)) (by decide)
    · exact exec_plotCmd hlive .thaw ((plotCommand_thaw hr).trans (if_pos h)) (by decide)
    · exact exec_plotCmd hlive .checkpoint ((plotCommand_checkpoint hr).trans (if_pos h)) (by decide)
  · intro s r p hlive hr hst hm
    have hgo : ¬ (plotState s p ≠ 1 ∨ s.mode = mQUARANTINE) := by tauto
    obtain ⟨h2, hin⟩ := plotTo_shows s p.isLt (st := 2) (by decide)
    refine ⟨_, exec_plotCmd hlive .start ((plotCommand_start hr).trans (if_neg hgo)) (by decide), h2, hin.faulted (by decide), rfl, ?_⟩
    exact (plotTo_within (K := partsMask [.girth, .pc, .rPlots, .rGirth, .substate, .upd]) (by decide) (Within.refl _ s)).same .mem (by decide)
  · intro s r p hlive hr hst
    have hgo : ¬ (plotState s p ≠ 3 ∧ plotState s p ≠ 5) := by tauto
    have h := plotReset_shows p.isLt (s := s) (by omega) false
    exact ⟨_, exec_plotCmd hlive .stop ((plotCommand_stop hr).trans (if_neg hgo)) (by decide), h.state, h.restart, h.freeze, h.consent, h.out, rfl⟩
  · intro s r p hlive hr hst
    have hgo : ¬ (plotState s p ≠ 2 ∧ plotState s p ≠ 3 ∧ plotState s p ≠ 5) := by tauto
    have h := plotReset_shows p.isLt (s := s) (by omega) true
    exact ⟨_, exec_plotCmd hlive .reset ((plotCommand_reset hr).trans (if_neg hgo)) (by decide), h.state, h.restart, h.consent, h.out, rfl⟩
  · intro s p hlive hst
    have hst' : plotState (s.wr (F.PC_PFLT_SELF_RESET p) 1) p = plotState s p :=
      State.rd_wr_ne _ _ (by simp only [Field.key, F.PC_PSTAT_STATE, F.PC_PFLT_SELF_RESET]; omega)
    have h := plotReset_shows p.isLt (s := s.wr (F.PC_PFLT_SELF_RESET p) 1) (by omega) true
    refine ⟨_, exec_plotCmd hlive .reset (plotCommand_self hst) (by decide), h.state, h.restart, (h.regs (F.PC_PFLT_SELF_RESET p) (by simp) ?_ ?_).trans ?_,
      rfl⟩
    · intro q
      simp only [Field.key, F.PC_PFLT_SELF_RESET, F.PC_PFLT_MIG_FAIL]
      omega
    · intro q
      simp only [Field.key, F.PC_PFLT_SELF_RESET, F.PC_PSTAT_STATE]
      omega
    · exact State.rd_wr_of_lt _ (Nat.lt_of_lt_of_eq Nat.one_lt_two rfl)
  · intro s r p hlive hr hst hf
    have hgo : ¬ (plotState s p ≠ 3 ∨ (s.plot p).freeze ≠ 0) := by tauto
    obtain ⟨h₁, h₂⟩ := freezeStart_shows s p.isLt 1
    have hexec := exec_plotCmd hlive .freeze ((plotCommand_freeze hr).trans (if_neg hgo)) (by decide)
    generalize freezeStart s p 1 none = u at h₁ h₂ hexec
    exact ⟨_, hexec, h₁, h₂.trans hst, rfl⟩
  · intro s r p hlive hr hst hf
    have hgo : ¬ (plotState s p ≠ 5 ∨ (s.plot p).freeze ≠ 0) := by tauto
    obtain ⟨h₁, h₂⟩ := plotThaw_shows s p.isLt
    have hexec := exec_plotCmd hlive .thaw ((plotCommand_thaw hr).trans (if_neg hgo)) (by decide)
    generalize plotThaw s p = u at h₁ h₂ hexec
    exact ⟨_, hexec, h₁, h₂.freeze, rfl⟩
  · intro s r p hlive hr hst hf ht
    have hgo : ¬ (plotState s p ≠ 3 ∨ (s.plot p).freeze ≠ 0 ∨ recTakeover (plotRec s p) ≠ 2) := by tauto
    refine ⟨fun hx => ?_, fun hx => ?_⟩
    · have hdown : (!s.rdB F.XL_STAT_LINK) = true := by simp [State.rdB, hx]
      exact exec_plotCmd hlive .checkpoint ((plotCommand_checkpoint hr).trans ((if_neg hgo).trans (if_pos hdown))) (by decide)
    · have hup : ¬ (!s.rdB F.XL_STAT_LINK) = true := by simp [State.rdB, hx]
      obtain ⟨h₁, h₂⟩ := freezeStart_shows s p.isLt 4
      have hexec := exec_plotCmd hlive .checkpoint ((plotCommand_checkpoint hr).trans ((if_neg hgo).trans (if_neg hup))) (by decide)
      generalize freezeStart s p 4 none = u at h₁ h₂ hexec
      exact ⟨_, hexec, h₁, h₂.trans hst, rfl⟩
  · intro s r hlive hsup hstitch
    have hno : mayCommit r = false := by
      cases r with
      | supervisor => exact absurd rfl hsup
      | stitch a sup b =>
        cases sup
        · rfl
        · exact absurd rfl (hstitch a b)
      | _ => rfl
    exact exec_commit hlive (by rw [hno]; rfl) (by decide)
  · intro s r a b p k hlive hr hf
    refine ⟨_, exec_commit (u := (s.wr F.PC_TERR_PLOT p).wr F.PC_TERR_REASON k) hlive ?_ (by decide), ?_, State.rd_wr_self .., rfl, rfl, ?_⟩
    · rw [if_pos (mayCommit_of hr), tablesCommit, hf]
    · exact (State.rd_wr_ne (f := F.PC_TERR_PLOT) _ _ (by decide)).trans (State.rd_wr_self ..)
    · exact ((s.RegsBut_refl _).set (g := F.PC_TERR_PLOT) (by simp) rfl).set (g := F.PC_TERR_REASON) (by simp) rfl
  · intro s r a b p hlive hr hf hch hst
    have hyes : ((List.range 8).any fun p => plotChanged s p && decide (2 ≤ plotState s p)) = true :=
      List.any_eq_true.mpr ⟨p, List.mem_range.mpr p.isLt, by simp [hch, hst]⟩
    refine exec_commit hlive ?_ (by decide)
    rw [if_pos (mayCommit_of hr), tablesCommit, hf]
    exact if_pos hyes
  · intro s r a b hlive hr hf hstop
    obtain ⟨u, hu, hok, hplan, hq⟩ := commit_applied hf hstop
    exact ⟨_, exec_commit hlive ((if_pos (mayCommit_of hr)).trans hu) (by decide), hok, hplan, hq, rfl⟩

end Sys2Proof.Machine
end

section
/-! Plot events: windows, violations, watchdogs, the end of a reset, freezes, images and migrations (R473-R488). -/

namespace Sys2Proof.Machine

/-! ## Windows -/

/-- What a boundary shows of the core. -/
def boundaryShown (s : State) (c : Fin 4) (o k : Nat) : State :=
  ((s.wr (F.PC_TP_STAT_OWNER c) o).wr (F.PC_TP_STAT_WINDOW c) k).emit (.irq 8 (256 + c.val))

theorem boundaryShown_shows (s : State) (c : Fin 4) {o k : Nat} (ho : o < 16) (hk : k < 16) :
    (boundaryShown s c o k).rd (F.PC_TP_STAT_OWNER c) = o ∧ (boundaryShown s c o k).rd (F.PC_TP_STAT_WINDOW c) = k ∧
      s.RegsBut (boundaryShown s c o k) [F.PC_TP_STAT_OWNER c, F.PC_TP_STAT_WINDOW c] := by
  refine ⟨?_, State.rd_wr_of_lt _ (Nat.lt_of_lt_of_eq hk rfl), ?_⟩
  · exact (State.rd_wr_ne (f := F.PC_TP_STAT_OWNER c) _ _ (by simp only [Field.key, F.PC_TP_STAT_OWNER, F.PC_TP_STAT_WINDOW]; omega)).trans
      (State.rd_wr_of_lt _ (Nat.lt_of_lt_of_eq ho rfl))
  · exact ((s.RegsBut_refl _).set (g := F.PC_TP_STAT_OWNER c) (by simp) rfl).set (g := F.PC_TP_STAT_WINDOW c) (by simp) rfl

theorem exec_boundary (s : State) (c : Fin 4) (w : Fin 16) : exec (.windowBoundary c (some w)) s =
    let o := planOwner s c w
    let u := if o < 8 ∧ (plotState s o = 2 ∨ plotState s o = 7) then plotTo s o 3 else s
    .next (boundaryShown u c (if o = 8 ∨ (o < 8 ∧ plotState u o = 3) then o else 0xF) w.val) := rfl

/-- The owner of a window, STARTING, RESTORING or RUNNING, is RUNNING in it. -/
theorem boundary_runs {s : State} {c : Fin 4} {w : Fin 16} {p : Fin 8} (hp : planOwner s c w = p.val)
    (hst : plotState s p = 2 ∨ plotState s p = 3 ∨ plotState s p = 7) : Ends (.windowBoundary c (some w)) s fun t =>
      plotState t p = 3 ∧ t.rd (F.PC_TP_STAT_OWNER c) = p.val ∧ t.rd (F.PC_TP_STAT_WINDOW c) = w.val := by
  have hu : ∃ u, plotState u p = 3 ∧ exec (.windowBoundary c (some w)) s = .next (boundaryShown u c p.val w.val) := by
    rw [exec_boundary, hp]
    by_cases h : plotState s p = 2 ∨ plotState s p = 7
    · have hto := (plotTo_shows s p.isLt (st := 3) (by decide)).1
      refine ⟨plotTo s p 3, hto, ?_⟩
      simp only [if_pos (⟨p.isLt, h⟩ : p.val < 8 ∧ _)]
      rw [if_pos (.inr ⟨p.isLt, hto⟩)]
    · have h3 : plotState s p = 3 := by tauto
      refine ⟨s, h3, ?_⟩
      simp only [if_neg (fun h' => h h'.2 : ¬ (p.val < 8 ∧ _))]
      rw [if_pos (.inr ⟨p.isLt, h3⟩)]
  obtain ⟨u, h3, hexec⟩ := hu
  obtain ⟨ho, hk, hregs⟩ := boundaryShown_shows u c (o := p.val) (Nat.lt_trans p.isLt (by decide)) w.isLt
  refine ⟨_, hexec, (hregs (F.PC_PSTAT_STATE p) ?_).trans h3, ho, hk⟩
  simp only [List.forall_mem_cons, Field.key, F.PC_PSTAT_STATE, F.PC_TP_STAT_OWNER, F.PC_TP_STAT_WINDOW]
  refine ⟨?_, ?_, by simp⟩ <;> omega

theorem boundary_idle {s : State} {c : Fin 4} {w : Fin 16} (h : planOwner s c w = 8 ∨ 8 < planOwner s c w ∨
    (plotState s (planOwner s c w) ≠ 2 ∧ plotState s (planOwner s c w) ≠ 3 ∧ plotState s (planOwner s c w) ≠ 7)) :
    Ends (.windowBoundary c (some w)) s fun t => t.rd (F.PC_TP_STAT_OWNER c) = (if planOwner s c w = 8 then 8 else 0xF) ∧
      t.rd (F.PC_TP_STAT_WINDOW c) = w.val ∧ s.RegsBut t [F.PC_TP_STAT_OWNER c, F.PC_TP_STAT_WINDOW c] := by
  have hexec : exec (.windowBoundary c (some w)) s = .next (boundaryShown s c (if planOwner s c w = 8 then 8 else 0xF) w.val) := by
    rw [exec_boundary]
    dsimp only
    generalize planOwner s c w = o at h
    rw [if_neg (by omega)]
    by_cases h8 : o = 8
    · rw [if_pos (.inl h8), if_pos h8, h8]
    · rw [if_neg (by omega), if_neg h8]
  refine ⟨_, hexec, boundaryShown_shows s c ?_ w.isLt⟩
  split <;> decide

/-! ## Faults -/

/-- The bit of a plot fault. -/
def fltBit (p bit : Nat) : Field := { F.PC_PFLT_ACCESS p with lo := bit % 32 }

/-- The plot whose fault is recorded. -/
def faultNoted (s : State) (p bit : Nat) : State := plotRecord (s.wr (fltBit p bit) 1) p 1 bit

theorem faultNoted_plot (s : State) (p bit : Nat) : (faultNoted s p bit).plot p = s.plot p :=
  ((PlotStays.refl p (s.wr (fltBit p bit) 1)).record p 1 bit).plot

theorem rd_faultNoted {f : Field} (hb : Blk f 53) (s : State) (p bit : Nat) (hf : f.key ≠ (fltBit p bit).key) :
    (faultNoted s p bit).rd f = s.rd f :=
  ((plotRecord_within (K := partsMask [.mem, .out, .irqHeld, .q, .rFurrow, .upd, .furBits]) (by decide)
    (Within.refl _ (s.wr (fltBit p bit) 1))).rd_eq hb (by decide) (by decide)).trans (State.rd_wr_ne _ _ hf)

theorem state_faultNoted (s : State) {p bit : Nat} : plotState (faultNoted s p bit) p = plotState s p :=
  rd_faultNoted (by simp) s p bit (by simp only [Field.key, F.PC_PSTAT_STATE, fltBit, F.PC_PFLT_ACCESS]; omega)

/-- The plot that a fault stops. -/
def faultStopped (u : State) (p : Nat) : State := u.setPlot p { u.plot p with faulted := true }

theorem plotFault_eq {s : State} {p bit : Nat} (hst : plotState s p = 2 ∨ plotState s p = 3 ∨ plotState s p = 5) : plotFault s p bit =
    match recFault (plotRec (faultNoted s p bit) p) with
    | 1 =>
      if 3 ≤ (((faultNoted s p bit).plot p).restarts.filter fun t => decide ((faultNoted s p bit).now < t + 48000000000)).length then
        faultStopped (plotReset ((faultNoted s p bit).wr (F.PC_PFLT_RESTART_LIMIT p) 1) p false) p
      else plotReset (faultNoted s p bit) p true
    | 2 => faultStopped (plotReset (faultNoted s p bit) p false) p
    | _ => faultNoted s p bit := by
  have hno : ¬ (!(plotState s p == 2 || plotState s p == 3 || plotState s p == 5)) = true := by
    obtain h | h | h := hst <;> simp [h]
  unfold plotFault
  rw [if_neg hno]
  rfl

/-- The record in force of plot `p`. -/
theorem plotRec_of {s t : State} {p : Nat} (h : t.plot p = s.plot p) : plotRec t p = plotRec s p := congrArg PlotSt.record h

/-- FAULT 2 stops the plot. -/
theorem plotFault_stops {s : State} {p : Nat} (hp : p < 8) (hst : plotState s p = 2 ∨ plotState s p = 3 ∨ plotState s p = 5)
    (hf : recFault (plotRec s p) = 2) (bit : Nat) : plotState (plotFault s p bit) p = 4 ∧ ((plotFault s p bit).plot p).faulted = true ∧
      ((plotFault s p bit).plot p).restart = false := by
  have hrec : recFault (plotRec (faultNoted s p bit) p) = 2 := by rw [plotRec_of (faultNoted_plot s p bit), hf]
  have h := plotReset_shows hp (s := faultNoted s p bit) (by rw [state_faultNoted]; omega) false
  have heq : plotFault s p bit = faultStopped (plotReset (faultNoted s p bit) p false) p := by
    rw [plotFault_eq hst, hrec]
    rfl
  rw [heq]
  generalize plotReset (faultNoted s p bit) p false = u at h
  rw [faultStopped, plot_setPlot_self]
  exact ⟨h.state, rfl, h.restart⟩

/-- FAULT 1 restarts a plot that has not restarted of late. -/
theorem plotFault_restarts {s : State} {p : Nat} (hst : plotState s p = 2 ∨ plotState s p = 3 ∨ plotState s p = 5)
    (hf : recFault (plotRec s p) = 1) (hr : (s.plot p).restarts = []) (bit : Nat) :
    plotFault s p bit = plotReset (faultNoted s p bit) p true := by
  have hrec : recFault (plotRec (faultNoted s p bit) p) = 1 := by rw [plotRec_of (faultNoted_plot s p bit), hf]
  rw [plotFault_eq hst, hrec, faultNoted_plot, hr]
  rfl

/-- What a plot fault leaves of the plot controller's fields. -/
theorem rd_plotFault {f : Field} {p : Nat} (hp : p < 8) (hb : Blk f 53) (hm : ∀ q, f.key ≠ (F.PC_PFLT_MIG_FAIL q).key)
    (hq : ∀ q, f.key ≠ (F.PC_PSTAT_STATE q).key) (hl : f.key ≠ (F.PC_PFLT_RESTART_LIMIT p).key) (s : State) {bit : Nat}
    (hf : f.key ≠ (fltBit p bit).key) : (plotFault s p bit).rd f = s.rd f := by
  by_cases hst : plotState s p = 2 ∨ plotState s p = 3 ∨ plotState s p = 5
  · have hn : (faultNoted s p bit).rd f = s.rd f := rd_faultNoted hb s p bit hf
    have hst' : plotState (faultNoted s p bit) p ≠ 4 := by rw [state_faultNoted]; omega
    rw [plotFault_eq hst]
    split
    · split
      · have hlim : plotState ((faultNoted s p bit).wr (F.PC_PFLT_RESTART_LIMIT p) 1) p ≠ 4 := by
          rw [plotState, State.rd_wr_ne _ _ (by simp only [Field.key, F.PC_PSTAT_STATE, F.PC_PFLT_RESTART_LIMIT]; omega)]
          exact hst'
        exact ((plotReset_shows hp hlim false).regs f hb hm hq).trans ((State.rd_wr_ne _ _ hl).trans hn)
      · exact ((plotReset_shows hp hst' true).regs f hb hm hq).trans hn
    · exact ((plotReset_shows hp hst' false).regs f hb hm hq).trans hn
    · exact hn
  · have hno : (!(plotState s p == 2 || plotState s p == 3 || plotState s p == 5)) = true := by
      simp only [not_or] at hst
      simp [hst]
    unfold plotFault
    rw [if_pos hno]

/-! ## Violations -/

/-- A violation as it is counted, latched and kept. -/
def violNoted (s : State) (p a : Nat) : State :=
  let u := (((s.incSat (F.PC_VIOL_CNT p)).wr (F.PC_VIOL_ADDR_LO_ADDR_LO p) a).wr (F.PC_VIOL_ADDR_HI_ADDR_HI p) (a / 2 ^ 32)).wr (F.PC_PFLT_ACCESS p) 1
  u.setPlot p { u.plot p with viols := s.now :: (s.plot p).viols.filter fun t => decide (s.now < t + 80000000) }

theorem violNoted_shows (s : State) {p a : Nat} (ha : a < 2 ^ 40) :
    (violNoted s p a).rd (F.PC_VIOL_ADDR_LO_ADDR_LO p) = a % 2 ^ 32 ∧ (violNoted s p a).rd (F.PC_VIOL_ADDR_HI_ADDR_HI p) = a / 2 ^ 32 ∧
      (violNoted s p a).rd (F.PC_PFLT_ACCESS p) = 1 ∧ (violNoted s p a).rd (F.PC_VIOL_CNT p) = min 0xFFFF (s.rd (F.PC_VIOL_CNT p) + 1) := by
  have hu : ∀ f, (violNoted s p a).rd f = ((((s.incSat (F.PC_VIOL_CNT p)).wr (F.PC_VIOL_ADDR_LO_ADDR_LO p) a).wr (F.PC_VIOL_ADDR_HI_ADDR_HI p)
      (a / 2 ^ 32)).wr (F.PC_PFLT_ACCESS p) 1).rd f := fun f => rfl
  refine ⟨(hu _).trans ?_, (hu _).trans ?_, (hu _).trans (State.rd_wr_of_lt _ (Nat.lt_of_lt_of_eq Nat.one_lt_two rfl)), (hu _).trans ?_⟩
  · rw [State.rd_wr_ne _ _ (by simp only [Field.key, F.PC_VIOL_ADDR_LO_ADDR_LO, F.PC_PFLT_ACCESS]; omega),
      State.rd_wr_ne _ _ (by simp only [Field.key, F.PC_VIOL_ADDR_LO_ADDR_LO, F.PC_VIOL_ADDR_HI_ADDR_HI]; omega)]
    exact State.rd_wr_self ..
  · rw [State.rd_wr_ne _ _ (by simp only [Field.key, F.PC_VIOL_ADDR_HI_ADDR_HI, F.PC_PFLT_ACCESS]; omega)]
    have h8 : a / 2 ^ 32 < 2 ^ 8 := by omega
    exact State.rd_wr_of_lt _ (Nat.lt_of_lt_of_eq h8 rfl)
  · rw [State.rd_wr_ne _ _ (by simp only [Field.key, F.PC_VIOL_CNT, F.PC_PFLT_ACCESS]; omega),
      State.rd_wr_ne _ _ (by simp only [Field.key, F.PC_VIOL_CNT, F.PC_VIOL_ADDR_HI_ADDR_HI]; omega),
      State.rd_wr_ne _ _ (by simp only [Field.key, F.PC_VIOL_CNT, F.PC_VIOL_ADDR_LO_ADDR_LO]; omega), State.rd_incSat_self]
    exact Nat.min_comm ..

theorem plotRec_setPlot (s : State) (p : Nat) (x : PlotSt) : plotRec (s.setPlot p x) p = x.record :=
  congrArg PlotSt.record (plot_setPlot_self s p x)

theorem violNoted_record (s : State) (p a : Nat) : plotRec (violNoted s p a) p = plotRec s p := by
  rw [violNoted, plotRec_setPlot]
  rfl

theorem rd_violNoted {f : Field} {p : Nat} (h : f.key ≠ (F.PC_VIOL_CNT p).key ∧ f.key ≠ (F.PC_VIOL_ADDR_LO_ADDR_LO p).key ∧
    f.key ≠ (F.PC_VIOL_ADDR_HI_ADDR_HI p).key ∧ f.key ≠ (F.PC_PFLT_ACCESS p).key) (s : State) (a : Nat) : (violNoted s p a).rd f = s.rd f := by
  obtain ⟨h₁, h₂, h₃, h₄⟩ := h
  have hu : (violNoted s p a).rd f = ((((s.incSat (F.PC_VIOL_CNT p)).wr (F.PC_VIOL_ADDR_LO_ADDR_LO p) a).wr (F.PC_VIOL_ADDR_HI_ADDR_HI p)
      (a / 2 ^ 32)).wr (F.PC_PFLT_ACCESS p) 1).rd f := rfl
  exact hu.trans ((State.rd_wr_ne _ _ h₄).trans ((State.rd_wr_ne _ _ h₃).trans ((State.rd_wr_ne _ _ h₂).trans (State.rd_incSat_ne _ h₁))))

/-- The plot fault of the violation limit. -/
def violFault (u : State) (p : Nat) : State := plotFault (u.setPlot p { u.plot p with viols := [] }) p 2

theorem exec_violation {s : State} {p : Fin 8} {a : BitVec 40} {w : Bool} (h : plotMayAccess s p a.toNat w = false) :
    exec (.accessViolation p a w) s = .next (State.status
      (if max 1 ((violNoted s p a.toNat).rd (F.PC_VIOL_VIOL_LIMIT p)) ≤
          (s.now :: (s.plot p).viols.filter fun t => decide (s.now < t + 80000000)).length
        then violFault (violNoted s p a.toNat) p else violNoted s p a.toNat) 0x0209) := by
  simp only [exec, execAccessViolation, h, Bool.false_eq_true, if_false]
  rfl

theorem exec_violation_shows {s : State} {p : Fin 8} {a : BitVec 40} {w : Bool} (h : plotMayAccess s p a.toNat w = false) :
    Ends (.accessViolation p a w) s fun t => t.resp = ⟨0x0209, 0⟩ ∧ t.rd (F.PC_VIOL_ADDR_LO_ADDR_LO p) = a.toNat % 2 ^ 32 ∧
      t.rd (F.PC_VIOL_ADDR_HI_ADDR_HI p) = a.toNat / 2 ^ 32 ∧ t.rd (F.PC_PFLT_ACCESS p) = 1 ∧
      t.rd (F.PC_VIOL_CNT p) = min 0xFFFF (s.rd (F.PC_VIOL_CNT p) + 1) := by
  refine ⟨_, exec_violation h, rfl, ?_⟩
  obtain ⟨h₁, h₂, h₃, h₄⟩ := violNoted_shows s (p := p) a.isLt
  generalize violNoted s p a.toNat = u at h₁ h₂ h₃ h₄
  have hall : ∀ v : State, (∀ f ∈ [F.PC_VIOL_ADDR_LO_ADDR_LO p, F.PC_VIOL_ADDR_HI_ADDR_HI p, F.PC_PFLT_ACCESS p, F.PC_VIOL_CNT p], v.rd f = u.rd f) →
      v.rd (F.PC_VIOL_ADDR_LO_ADDR_LO p) = a.toNat % 2 ^ 32 ∧ v.rd (F.PC_VIOL_ADDR_HI_ADDR_HI p) = a.toNat / 2 ^ 32 ∧
        v.rd (F.PC_PFLT_ACCESS p) = 1 ∧ v.rd (F.PC_VIOL_CNT p) = min 0xFFFF (s.rd (F.PC_VIOL_CNT p) + 1) := fun v hv =>
    ⟨(hv _ (by simp)).trans h₁, (hv _ (by simp)).trans h₂, (hv _ (by simp)).trans h₃, (hv _ (by simp)).trans h₄⟩
  split
  · refine hall _ fun f hf => ?_
    have hkey : Blk f 53 ∧ (∀ q, f.key ≠ (F.PC_PFLT_MIG_FAIL q).key) ∧ (∀ q, f.key ≠ (F.PC_PSTAT_STATE q).key) ∧
        f.key ≠ (F.PC_PFLT_RESTART_LIMIT p).key ∧ f.key ≠ (fltBit p 2).key := by
      simp only [List.mem_cons, List.not_mem_nil, or_false] at hf
      obtain rfl | rfl | rfl | rfl := hf <;>
        refine ⟨by simp, fun q => ?_, fun q => ?_, ?_, ?_⟩ <;>
        simp only [Field.key, fltBit, F.PC_VIOL_ADDR_LO_ADDR_LO, F.PC_VIOL_ADDR_HI_ADDR_HI, F.PC_PFLT_ACCESS, F.PC_VIOL_CNT, F.PC_PFLT_MIG_FAIL,
          F.PC_PSTAT_STATE, F.PC_PFLT_RESTART_LIMIT] <;> omega
    obtain ⟨hb, hm, hq, hl, hf'⟩ := hkey
    exact rd_plotFault p.isLt hb hm hq hl _ hf'
  · exact hall u fun _ _ => rfl

/-- At the limit a violation is a plot fault. -/
theorem exec_violation_limit {s : State} {p : Fin 8} {a : BitVec 40} {w : Bool} (h : plotMayAccess s p a.toNat w = false)
    (hlim : s.rd (F.PC_VIOL_VIOL_LIMIT p) ≤ 1) : exec (.accessViolation p a w) s = .next ((violFault (violNoted s p a.toNat) p).status 0x0209) := by
  rw [exec_violation h]
  refine congrArg (fun x : State => Host.Outcome.next (x.status 0x0209)) (if_pos ?_)
  rw [rd_violNoted (by
    simp only [Field.key, F.PC_VIOL_VIOL_LIMIT, F.PC_VIOL_CNT, F.PC_VIOL_ADDR_LO_ADDR_LO, F.PC_VIOL_ADDR_HI_ADDR_HI, F.PC_PFLT_ACCESS]
    omega), List.length_cons]
  omega

theorem violFault_stops {s : State} {p : Fin 8} (hst : plotState s p = 3) (hf : recFault (plotRec s p) = 2) (a : Nat) :
    plotState (violFault (violNoted s p a) p) p = 4 ∧ ((violFault (violNoted s p a) p).plot p).faulted = true ∧
      ((violFault (violNoted s p a) p).plot p).restart = false := by
  have hst' : plotState (violNoted s p a) p = 3 := (rd_violNoted (by
    simp only [Field.key, F.PC_PSTAT_STATE, F.PC_VIOL_CNT, F.PC_VIOL_ADDR_LO_ADDR_LO, F.PC_VIOL_ADDR_HI_ADDR_HI, F.PC_PFLT_ACCESS]
    omega) s a).trans hst
  have hrec : plotRec (violNoted s p a) p = plotRec s p := violNoted_record s p a
  generalize violNoted s p a = u at hst' hrec
  unfold violFault
  have hst'' : plotState (u.setPlot p { u.plot p with viols := [] }) p = 3 := hst'
  refine plotFault_stops (s := u.setPlot p { u.plot p with viols := [] }) p.isLt (.inr (.inl hst'')) ?_ 2
  rw [plotRec_setPlot, ← hf, ← hrec]
  rfl

/-! ## Drains -/

/-- What the end of a drain keeps. -/
theorem drainEnd_keeps (s : State) (p : Nat) : (drainEnd s p).pc = s.pc ∧ (drainEnd s p).stamp = s.stamp ∧ (drainEnd s p).clo = s.clo ∧
    ∀ f : Field, Blk f 53 → f.key ≠ (F.PC_PFLT_DRAIN_TMO p).key → (drainEnd s p).rd f = s.rd f := by
  unfold drainEnd
  split
  · have hw := postFailAll_within (K := partsMask [.mem, .out, .irqHeld, .q, .can, .br, .ses, .rFurrow, .rCan, .rGateway, .upd, .furBits])
      (a2 := (·.issuer == p)) (a3 := 0x0410) (by decide) (Within.refl _ (s.wr (F.PC_PFLT_DRAIN_TMO p) 1))
    have hpt : (postFailAll (s.wr (F.PC_PFLT_DRAIN_TMO p) 1) (·.issuer == p) 0x0410).pt = s.pt := hw.same .pt (by decide)
    have htrl : (postFailAll (s.wr (F.PC_PFLT_DRAIN_TMO p) 1) (·.issuer == p) 0x0410).trl = s.trl := hw.same .trl (by decide)
    exact ⟨hw.same .pc (by decide), by rw [State.stamp, State.stamp, hpt, htrl], hw.same .clo (by decide),
      fun f hb hf => (hw.rd_eq hb (by decide) (by decide)).trans (State.rd_wr_ne _ _ hf)⟩
  · exact ⟨rfl, rfl, rfl, fun _ _ _ => rfl⟩

/-! ## The end of a reset -/

theorem rd_ownPut_ne {f g : Field} (h : f.key ≠ g.key) (s : State) (p : Nat) (mine : Bool) : (ownPut s g p mine).rd f = s.rd f := by
  unfold ownPut
  split
  · exact State.rd_wr_ne _ _ h
  · split
    · exact State.rd_wr_ne _ _ h
    · rfl

/-- Programming the blocks from the tables leaves GEN of the plots. -/
theorem rd_plotProgram_gen {p : Nat} (hp : p < 8) (s : State) (rcd : List Byte) : (plotProgram s p rcd).rd (F.PC_GEN_GEN p) = s.rd (F.PC_GEN_GEN p) := by
  unfold plotProgram
  extract_lets b u v ob oc w x y
  have hu : u.rd (F.PC_GEN_GEN p) = s.rd (F.PC_GEN_GEN p) := forN_keeps (fun t : State => t.rd (F.PC_GEN_GEN p)) (fun n _ t =>
    rd_ownPut_ne (by simp only [Field.key, F.PC_GEN_GEN, F.PC_LS_OWN_OWNER]; omega) t p _) s
  have hv : v.rd (F.PC_GEN_GEN p) = u.rd (F.PC_GEN_GEN p) := forN_keeps (fun t : State => t.rd (F.PC_GEN_GEN p)) (fun n _ t =>
    rd_ownPut_ne (by simp only [Field.key, F.PC_GEN_GEN, F.PC_DIO_OWN_OWNER]; omega) t p _) u
  have hw : w.rd (F.PC_GEN_GEN p) = v.rd (F.PC_GEN_GEN p) :=
    ((slotsOut_within (K := partsMask [.rTrellis, .upd]) (by decide) (Within.refl _ _)).rd_eq (i := 53) (by simp) (by decide) (by decide)).trans
      (State.rd_writeWord_ne (f := F.PC_GEN_GEN p) (Nat.zero_lt_succ _) _ _ (by simp only [F.PC_GEN_GEN, F.TRL_PART_BASE]; omega))
  have hx : x.rd (F.PC_GEN_GEN p) = w.rd (F.PC_GEN_GEN p) := forN_keeps (fun t : State => t.rd (F.PC_GEN_GEN p)) (fun i hi t =>
    forN_keeps (fun t : State => t.rd (F.PC_GEN_GEN p)) (fun k hk t =>
      State.rd_writeWord_ne (f := F.PC_GEN_GEN p) (Nat.zero_lt_succ _) _ _ (by simp only [F.PC_GEN_GEN]; omega)) t) w
  have hy : y.rd (F.PC_GEN_GEN p) = x.rd (F.PC_GEN_GEN p) := forN_keeps (fun t : State => t.rd (F.PC_GEN_GEN p)) (fun r _ t => by
    dsimp only
    rw [State.rd_wr_ne _ _ (by simp only [Field.key, F.PC_GEN_GEN, F.REG_GPA_GPA]; omega),
      State.rd_wr_ne _ _ (by simp only [Field.key, F.PC_GEN_GEN, F.REG_SIZE_SIZE]; omega),
      State.rd_wr_ne _ _ (by simp only [Field.key, F.PC_GEN_GEN, F.REG_BASE_HI_ATTR]; omega),
      State.rd_wr_ne _ _ (by simp only [Field.key, F.PC_GEN_GEN, F.REG_BASE_HI_BASE_HI]; omega),
      State.rd_wr_ne _ _ (by simp only [Field.key, F.PC_GEN_GEN, F.REG_BASE_LO_BASE_LO]; omega)]) x
  rw [State.rd_wr_ne _ _ (by simp only [Field.key, F.PC_GEN_GEN, F.PC_PSTAT_HOME]; omega),
    State.rd_wr_ne _ _ (by simp only [Field.key, F.PC_GEN_GEN, F.BR_ERRQ_QUEUE]; omega), hy, hx, hw, hv, hu]

theorem plotProgram_pc (s : State) (p : Nat) (rcd : List Byte) : (plotProgram s p rcd).pc = s.pc :=
  (plotProgram_within (K := partsMask [.rTrellis, .rPlant, .rLatigo, .rMsr, .rFurrow, .rTilth, .rPommel, .rLs, .rStirrup, .rDio, .rCan, .rGateway,
    .rPlots, .rCloche, .rGirth, .rEth, .rBridle, .rGraft, .rIdent, .substate, .upd]) (by decide) (Within.refl _ s)).same .pc (by decide)

/-- The state in which plot `p`'s partitions are its tables' again. -/
def resetCleared (s : State) (p : Nat) : State :=
  let s := drainEnd s p
  let s := forN (fun i t => (plotBufs t i p).foldl (fun u b => bufPut (setCanBuf u i b {}) i b 0) t) 8 s
  let s := if recScrub (plotRec s p) then plotScrub s p else s
  let s := plotProgram ((s.incWrap (F.PC_GEN_GEN p))) p (plotRec s p)
  forN (fun q t => if t.rd (F.Q_OWN_CONS q) = p then furSync (t.setQueue q { t.queue q with noGrant := false }) q else t) 64 s

/-- The state in which plot `p` leaves RESETTING. -/
def resetLeft (s : State) (p : Nat) : State :=
  let restart := (s.plot p).restart
  let s := if restart then
      (s.setPlot p { s.plot p with restarts := s.now :: (s.plot p).restarts }).incSat (F.PC_RESTARTS_CNT p) else s
  let faulted := (s.plot p).faulted
  let s := plotTo s p (if restart then 2 else 1)
  let s := if restart then s else plotDegrade (s.setPlot p { s.plot p with faulted := faulted }) p
  plotRecord s p 3 0xFF

theorem plotComplete_eq {s : State} {p : Nat} (h4 : plotState s p = 4) (hd : drainOpen s p = false ∨ drainLate s (s.plot p).since = true) :
    plotComplete s p = resetLeft (resetCleared s p) p := by
  have hgo : ¬ (plotState s p != 4 || (drainOpen s p && !drainLate s (s.plot p).since)) = true := by
    obtain h | h := hd <;> simp [h4, h]
  unfold plotComplete
  rw [if_neg hgo]
  rfl

theorem resetCleared_shows (s : State) {p : Nat} (hp : p < 8) : (resetCleared s p).pc = s.pc ∧
    (resetCleared s p).rd (F.PC_GEN_GEN p) = (s.rd (F.PC_GEN_GEN p) + 1) % 2 ^ 32 := by
  obtain ⟨hpc, -, -, hregs⟩ := drainEnd_keeps s p
  have hgen := hregs (F.PC_GEN_GEN p) (by simp) (by simp only [Field.key, F.PC_GEN_GEN, F.PC_PFLT_DRAIN_TMO]; omega)
  unfold resetCleared
  generalize drainEnd s p = u at hpc hgen
  extract_lets d v w x
  have hv : Within (partsMask [.can, .rCan, .upd]) u v := by
    refine Within.forN (fun i _ t ht => Within.foldl (fun t b ht => ?_) ht) (Within.refl _ u)
    exact bufPut_within (by decide) (setCanBuf_within (by decide) ht)
  have hw : Within (partsMask [.mem, .can, .rCan, .upd, .furBits]) v w := by
    simp only [w]
    split
    · exact plotScrub_within (by decide) (Within.refl _ v)
    · exact Within.refl _ v
  have hend : Within (partsMask [.out, .irqHeld, .q, .rFurrow, .upd]) x
      (forN (fun q t => if t.rd (F.Q_OWN_CONS q) = p then furSync (t.setQueue q { t.queue q with noGrant := false }) q else t) 64 x) := by
    refine Within.forN (fun q _ t ht => ?_) (Within.refl _ x)
    split
    · exact furSync_within (by decide) (ht.u_q (by decide))
    · exact ht
  constructor
  · refine Eq.trans (b := x.pc) (hend.same .pc (by decide)) ?_
    exact (plotProgram_pc ..).trans ((hw.same .pc (by decide)).trans ((hv.same .pc (by decide)).trans hpc))
  · refine Eq.trans (b := x.rd (F.PC_GEN_GEN p)) (hend.rd_eq (i := 53) (by simp) (by decide) (by decide)) ?_
    refine (rd_plotProgram_gen hp ..).trans ?_
    have hwgen : w.rd (F.PC_GEN_GEN p) = s.rd (F.PC_GEN_GEN p) :=
      (hw.rd_eq (i := 53) (by simp) (by decide) (by decide)).trans ((hv.rd_eq (i := 53) (by simp) (by decide) (by decide)).trans hgen)
    rw [← hwgen]
    exact State.rd_wr_self w (F.PC_GEN_GEN p) _

theorem resetLeft_shows (s : State) {p : Nat} (hp : p < 8) : plotState (resetLeft s p) p = (if (s.plot p).restart then 2 else 1) ∧
    (resetLeft s p).rd (F.PC_GEN_GEN p) = s.rd (F.PC_GEN_GEN p) := by
  unfold resetLeft
  extract_lets restart old u faulted v was w
  have hu : u.rd (F.PC_GEN_GEN p) = s.rd (F.PC_GEN_GEN p) := by
    simp only [u]
    split
    · exact State.rd_incSat_ne _ (by simp only [Field.key, F.PC_GEN_GEN, F.PC_RESTARTS_CNT]; omega)
    · rfl
  have hv : v.rd (F.PC_GEN_GEN p) = u.rd (F.PC_GEN_GEN p) :=
    rd_plotTo_ne (by simp) (by simp only [Field.key, F.PC_GEN_GEN, F.PC_PSTAT_STATE]; omega) u _
  have hst : plotState v p = if restart then 2 else 1 := (plotTo_shows u hp (by split <;> decide)).1
  have hw : plotState w p = plotState v p ∧ w.rd (F.PC_GEN_GEN p) = v.rd (F.PC_GEN_GEN p) := by
    simp only [w]
    split
    · exact ⟨rfl, rfl⟩
    · have hd := (PlotStays.refl p (v.setPlot p { v.plot p with faulted := faulted })).degrade p
      exact ⟨(hd.state hp).trans rfl, (hd.regs (F.PC_GEN_GEN p) (by simp)
        (fun q => by simp only [Field.key, F.PC_GEN_GEN, F.PC_PFLT_MIG_FAIL]; omega)
        fun q _ => by simp only [Field.key, F.PC_GEN_GEN, F.PC_PSTAT_STATE]; omega).trans rfl⟩
  have hrec := (PlotStays.refl p w).record p 3 0xFF
  refine ⟨(hrec.state hp).trans (hw.1.trans hst), (hrec.regs (F.PC_GEN_GEN p) (by simp)
    (fun q => by simp only [Field.key, F.PC_GEN_GEN, F.PC_PFLT_MIG_FAIL]; omega)
    fun q _ => by simp only [Field.key, F.PC_GEN_GEN, F.PC_PSTAT_STATE]; omega).trans (hw.2.trans (hv.trans hu))⟩

/-! ## Freezes -/

/-- Plot `p` is FROZEN and its freeze is recorded; what follows the freeze is to come. -/
def frozen (s : State) (p : Nat) : State :=
  let s := drainEnd s p
  plotRecord (plotTo (s.setPlot p { s.plot p with frozenAt := s.stamp }) p 5) p 4 0xFF

/-- What follows a freeze. -/
def afterFreeze (s : State) (p k : Nat) : State :=
  let img := plotImage s p
  if k = 2 ∨ k = 5 then s.emit (.xl (.plotImage img))
  else if k = 3 then imageStore s p img
  else if k = 4 then
    let n := (s.plot p).ckpt + 1
    let s := (s.setPlot p { s.plot p with ckpt := n }).emit (.xl (.checkpoint n img))
    plotThaw (plotRecord s p 8 0xFF) p
  else s.setPlot p { s.plot p with freeze := 0 }

theorem exec_freezeDone {s : State} {p : Fin 8} (hk : (s.plot p).freeze ≠ 0) (h3 : plotState s p = 3)
    (hd : drainOpen s p = false ∨ drainLate s (s.plot p).since = true) :
    exec (.freezeDone p) s = .next (afterFreeze (frozen s p) p (s.plot p).freeze) := by
  have hgo : ¬ ((s.plot p).freeze = 0 ∨ plotState s p ≠ 3 ∨ (drainOpen s p = true ∧ (!drainLate s (s.plot p).since) = true)) := by
    obtain h | h := hd <;> simp [hk, h3, h]
  have h : freezeDone s p = afterFreeze (frozen s p) p (s.plot p).freeze := by
    unfold freezeDone
    rw [if_neg hgo]
    rfl
  exact congrArg Host.Outcome.next h

theorem frozen_shows (s : State) {p : Nat} (hp : p < 8) : plotState (frozen s p) p = 5 ∧
    Entered { s.plot p with frozenAt := s.stamp } ((frozen s p).plot p) 5 ∧ (frozen s p).clo = s.clo ∧
    (frozen s p).rd F.PC_CKPT_BASE_BASE = s.rd F.PC_CKPT_BASE_BASE := by
  obtain ⟨hpc, hstamp, hclo, hregs⟩ := drainEnd_keeps s p
  have hbase := hregs F.PC_CKPT_BASE_BASE (by unfold Blk; decide) (by simp only [Field.key, F.PC_CKPT_BASE_BASE, F.PC_PFLT_DRAIN_TMO]; omega)
  have hplot : (drainEnd s p).plot p = s.plot p := congrArg (fun x : PcSt => x.plots.get p {}) hpc
  unfold frozen
  generalize drainEnd s p = u at hstamp hclo hbase hplot
  dsimp only
  obtain ⟨hst, hin⟩ := plotTo_shows (u.setPlot p { u.plot p with frozenAt := u.stamp }) hp (st := 5) (by decide)
  rw [plot_setPlot_self] at hin
  have hto : (plotTo (u.setPlot p { u.plot p with frozenAt := u.stamp }) p 5).rd F.PC_CKPT_BASE_BASE = u.rd F.PC_CKPT_BASE_BASE :=
    rd_plotTo_ne (by unfold Blk; decide) (by simp only [Field.key, F.PC_CKPT_BASE_BASE, F.PC_PSTAT_STATE]; omega) _ 5
  have hclo' : (plotTo (u.setPlot p { u.plot p with frozenAt := u.stamp }) p 5).clo = u.clo :=
    (plotTo_within (K := partsMask [.girth, .pc, .rPlots, .rGirth, .substate, .upd]) (by decide)
      (Within.refl _ (u.setPlot p { u.plot p with frozenAt := u.stamp }))).same .clo (by decide)
  generalize plotTo (u.setPlot p { u.plot p with frozenAt := u.stamp }) p 5 = v at hst hin hto hclo'
  rw [hplot, hstamp] at hin
  have hrec := (PlotStays.refl p v).record p 4 0xFF
  have hw := plotRecord_within (K := partsMask [.mem, .out, .irqHeld, .q, .rFurrow, .upd, .furBits]) (a2 := p) (a3 := 4) (a4 := 0xFF) (by decide)
    (Within.refl _ v)
  exact ⟨(hrec.state hp).trans hst, by rw [hrec.plot]; exact hin, (hw.same .clo (by decide)).trans (hclo'.trans hclo),
    (hw.rd_eq (f := F.PC_CKPT_BASE_BASE) (i := 53) (by unfold Blk; decide) (by decide) (by decide)).trans (hto.trans hbase)⟩

/-- The length of an image's header hangs on the image and on the module's identity alone. -/
theorem length_imageHeader {s t : State} (h : t.clo = s.clo) (img : PlotImage) : (imageHeader t img).length = (imageHeader s img).length := by
  have hid : idDigest t = idDigest s := by rw [idDigest, idDigest, h]
  unfold imageHeader
  simp only [List.length_append, length_le, hid]

theorem regs_putBytes (s : State) (a : Nat) (b : List Byte) : (s.putBytes a b).regs = s.regs := by
  induction b generalizing s a with
  | nil => rfl
  | cons x b ih => exact ih _ _

/-- An image goes to the buffer where plain memory holds it. -/
theorem imageStore_stored {u : State} {p : Nat} {img : PlotImage} (hok : areaStatus (4096 * u.rd F.PC_CKPT_BASE_BASE)
    ((imageHeader u img).length + ((img.sections.map sectionLen).sum + 16) + 16) = 0) :
    (imageStore u p img).regs = u.regs ∧ (imageStore u p img).pc.buffer = some img := by
  unfold imageStore
  extract_lets h len c body v pc
  have hc : ¬ c ≠ 0 := not_not.mpr hok
  rw [if_neg hc]
  have hv : v.regs = u.regs := regs_putBytes ..
  clear_value v
  exact ⟨hv, rfl⟩

theorem plotImage_plot (u : State) (p : Nat) : (plotImage u p).plot = p := rfl
theorem plotImage_stamp (u : State) (p : Nat) : (plotImage u p).st = (u.plot p).frozenAt := rfl

theorem plotRecord_out (s : State) (p type flt : Nat) : s.out <+: (plotRecord s p type flt).out :=
  (plotRecord_within (K := partsMask [.mem, .out, .irqHeld, .q, .rFurrow, .upd, .furBits]) (by decide) (Within.refl _ s)).out_pre

theorem plotThaw_out (s : State) (p : Nat) : s.out <+: (plotThaw s p).out :=
  (plotThaw_within (K := partsMask [.mem, .out, .irqHeld, .q, .girth, .trl, .pc, .rTrellis, .rFurrow, .rPlots, .rGirth, .substate, .upd, .furBits])
    (by decide) (Within.refl _ s)).out_pre

/-- The state in which a checkpoint is sent. -/
def checkpointed (u : State) (p : Nat) (img : PlotImage) : State :=
  (u.setPlot p { u.plot p with ckpt := (u.plot p).ckpt + 1 }).emit (.xl (.checkpoint ((u.plot p).ckpt + 1) img))

theorem checkpointed_shows (u : State) (p : Nat) (img : PlotImage) : ((checkpointed u p img).plot p).ckpt = (u.plot p).ckpt + 1 ∧
    ((checkpointed u p img).plot p).frozenAt = (u.plot p).frozenAt ∧
    Out.xl (.checkpoint ((u.plot p).ckpt + 1) img) ∈ (checkpointed u p img).out := by
  have hplot : (checkpointed u p img).plot p = { u.plot p with ckpt := (u.plot p).ckpt + 1 } := plot_setPlot_self ..
  rw [hplot]
  exact ⟨rfl, rfl, List.mem_append_right _ List.mem_cons_self⟩

theorem afterFreeze_checkpoint (u : State) (p : Nat) :
    afterFreeze u p 4 = plotThaw (plotRecord (checkpointed u p (plotImage u p)) p 8 0xFF) p := by
  unfold afterFreeze checkpointed
  rw [if_neg (by decide), if_neg (by decide), if_pos rfl]

/-- A CHECKPOINT leaves the plot running with the image sent. -/
theorem checkpoint_thaws (v : State) {p : Nat} (hp : p < 8) : plotState (plotThaw (plotRecord v p 8 0xFF) p) p = 3 ∧
    ((plotThaw (plotRecord v p 8 0xFF) p).plot p).ckpt = (v.plot p).ckpt ∧
    ((plotThaw (plotRecord v p 8 0xFF) p).plot p).frozenAt = (v.plot p).frozenAt ∧ v.out <+: (plotThaw (plotRecord v p 8 0xFF) p).out := by
  have hrec := (PlotStays.refl p v).record p 8 0xFF
  have hout := plotRecord_out v p 8 0xFF
  obtain ⟨hst, hin⟩ := plotThaw_shows (plotRecord v p 8 0xFF) hp
  have hout' := plotThaw_out (plotRecord v p 8 0xFF) p
  rw [hrec.plot] at hin
  exact ⟨hst, hin.ckpt, hin.frozenAt, hout.trans hout'⟩

/-! ## Images -/

theorem restoreApply_state (s : State) {img : PlotImage} (hp : img.plot < 8) : plotState (restoreApply s img) img.plot = 7 := by
  unfold restoreApply
  extract_lets p u own girth v w
  have hst : plotState (plotTo w p 7) p = 7 := (plotTo_shows w hp (by decide)).1
  clear_value w
  generalize plotTo w p 7 = x at hst
  have hstay : PlotStays p x (canSyncAll (followAll (subSync (plotCatch x p)))) := by
    have h₁ := (PlotStays.refl p x).catch p
    have h₂ := h₁.within (subSync_within (K := partsMask [.rGirth, .substate, .upd]) (by decide) (Within.refl _ _)) (by decide) (by decide)
    have h₃ := h₂.within (followAll_within_outputs _) (by decide) (by decide)
    exact h₃.within (canSyncAll_within (K := partsMask [.mem, .out, .irqHeld, .q, .can, .rFurrow, .rCan, .upd, .furBits]) (by decide)
      (Within.refl _ _)) (by decide) (by decide)
  exact ((hstay.record p 7 0xFF).state hp).trans hst

theorem restoreRefusal_plot {s : State} {img : PlotImage} {tagOk partner : Bool} (h : restoreRefusal s img tagOk partner = none) :
    img.plot < 8 := by
  unfold restoreRefusal at h
  split at h
  · cases h
  · split_ifs at h with h₁ h₂ h₃ h₄
    simp only [Bool.or_eq_true, decide_eq_true_eq, not_or] at h₄
    omega

theorem claimAll_stays (p : Nat) (s : State) : PlotStays p s (claimAll s) :=
  (PlotStays.refl p s).within (claimAll_within (K := partsMask [.mem, .out, .irqHeld, .q, .girth, .ls, .lsKept0, .lsKept1, .dio, .rFurrow, .rLs,
    .rStirrup, .rDio, .rGirth, .substate, .upd, .furBits]) (by decide) (Within.refl _ s)) (by decide) (by decide)

/-! ## Migrations -/

/-- The parts that the plot's leaving touches once it is REMOTE. -/
def leaveMask : Nat := partsMask [.out, .irqHeld, .q, .girth, .dio, .can, .ses, .rTrellis, .rFurrow, .rStirrup, .rDio, .rCan, .rCloche, .rGirth,
  .substate, .upd]

theorem plotLeave_shows (s : State) {p : Nat} (hp : p < 8) :
    plotState (plotLeave s p) p = 6 ∧ ((plotLeave s p).plot p).freeze = 0 := by
  obtain ⟨hst, hin⟩ := plotTo_shows (s.setPlot p { s.plot p with freeze := 0, job := none }) hp (st := 6) (by decide)
  rw [plot_setPlot_self] at hin
  unfold plotLeave
  generalize plotTo (s.setPlot p { s.plot p with freeze := 0, job := none }) p 6 = x at hst hin
  extract_lets a b c d e f
  have hb : Within leaveMask x b := Within.foldl (fun t n ht => Within.hwWr (i := 41) (by simp) (by decide) (by decide) (by decide) ht) (Within.refl _ x)
  have hc : Within leaveMask x c := by
    refine Within.forN (fun i _ t ht => Within.foldl (fun u e hu => ?_) (Within.foldl (fun u b hu => ?_) ht)) hb
    · exact Within.hwWr (i := 51) (by simp) (by decide) (by decide) (by decide) hu
    · exact bufPut_within (by decide) (setCanBuf_within (by decide) hu)
  have hd : Within leaveMask x d := by
    refine Within.forN (fun q _ t ht => ?_) hc
    split
    · exact furSync_within (by decide) (furEmpty_within (by decide) ht)
    · exact ht
  have he : Within leaveMask x e := closeSessions_within (by decide) (debugDrop_within (by decide) hd)
  have hf : Within leaveMask x f := by
    refine Within.forN (fun n _ t ht => ?_) he
    split
    · exact lsOffer_within (by decide) ht
    · exact ht
  have hall : Within leaveMask x (forN (fun n t => if dioOwner t n == p && t.girth.ownDio.getLsbD n then dioGive t n else t) 32 f) := by
    refine Within.forN (fun n _ t ht => ?_) hf
    split
    · exact dioGive_within (by decide) ht
    · exact ht
  have hstay : PlotStays p x _ := (PlotStays.refl p x).within hall (by decide) (by decide)
  exact ⟨(hstay.state hp).trans hst, by rw [hstay.plot]; exact hin.freeze⟩

/-! ## Small steps -/

theorem wdog_notN (p : Fin 8) : classN (F.PC_WDOG_KICK p).addr = false := classN_of_window (by simp only [F.PC_WDOG_KICK]; omega)

theorem exec_wdogKick {s u : State} {r : Req} {p : Fin 8} {v : Word} {c : Nat} (hlive : windowDead s (F.PC_WDOG_KICK p).addr = false)
    (h : wdogKick s r p v.toNat = u.status c) (hc : c ≠ 0x0110 ∧ c ≠ 0x0610 ∧ c ≠ 0x0611) : exec (.pcWdogKick r p v) s = .next (u.status c) :=
  next_hostWrite_status hlive (wdog_notN p) h hc

theorem wdog_kicks (s : State) (p v : Nat) (q : PlotSt) (hq : q = (if v % 65536 = 0x4B1D then { s.plot p with kick := some s.now } else s.plot p)) :
    ∃ u : State, (if v % 65536 = 0x4B1D then s.setPlot p { s.plot p with kick := some s.now } else s) = u ∧ u.regs = s.regs ∧ u.mem = s.mem ∧
      (u.plot p).kick = q.kick := by
  subst hq
  split
  · exact ⟨_, rfl, rfl, rfl, congrArg PlotSt.kick (plot_setPlot_self ..)⟩
  · exact ⟨_, rfl, rfl, rfl, rfl⟩

/-- A plot whose watchdog is due, and that runs, faults. -/
theorem exec_wdogExpiry {s : State} {p : Fin 8} {k : Nat} (h0 : halfNat (plotRec s p) 22 ≠ 0) (hk : (s.plot p).kick = some k)
    (hdue : k + 80000 * halfNat (plotRec s p) 22 ≤ s.now) (h3 : plotState s p = 3) (hf : (s.plot p).freeze = 0) :
    exec (.plotWdogExpiry p) s = .next (plotFault s p 1) := by
  have hheld : plotHeld s p = false := by
    have h5 : (s.rd (F.PC_PSTAT_STATE p) == 5) = false := by
      rw [show s.rd (F.PC_PSTAT_STATE p) = 3 from h3]
      rfl
    have hf' : ((s.pc.plots.get p {}).freeze != 0) = false := by
      rw [show (s.pc.plots.get p {}).freeze = 0 from hf]
      rfl
    rw [plotHeld, h5, hf']
    rfl
  have hd : wdogDue s p = true := by
    simp only [wdogDue, hk, Option.all_some, Bool.and_eq_true, bne_iff_ne, decide_eq_true_eq]
    exact ⟨h0, hdue⟩
  have hgo : ¬ ((!wdogDue s p) = true ∨ plotState s p ≠ 3 ∨ plotHeld s p = true) := by simp [hd, h3, hheld]
  exact congrArg Host.Outcome.next (if_neg hgo)

theorem jobTo_result (s : State) (j st c : Nat) : ((jobTo s j st c).job j).state = st ∧ ((jobTo s j st c).job j).result = c := by
  obtain ⟨ended, h⟩ := jobTo_moved s j st c
  rw [h]
  exact ⟨rfl, rfl⟩

theorem plotState_of_regs {s t : State} (h : t.regs = s.regs) (p : Nat) : plotState t p = plotState s p :=
  congrArg (fun r : SMap Nat => r.get (F.PC_PSTAT_STATE p).key (F.PC_PSTAT_STATE p).rst) h

theorem wdogFlag_blk (p : Nat) : Blk (F.PC_PFLT_WDOG p) 53 := by
  unfold Blk regPart F.PC_PFLT_WDOG Field.key F.GIRTH_MODE_MODE F.GIRTH_MODE_SUBSTATE
  dsimp only
  rw [if_neg (by omega), if_neg (by omega)]
  omega

/-- The cleaning up of a migration job that has begun: MIG_FAIL where a MIGRATE fails, and the plot thawed where the job held it. -/
theorem jobClean_migration {s : State} {j code : Nat} (hk : (s.job j).kind = 7) (hlive : ¬ (!((s.job j).begun && (s.job j).active)) = true) :
    jobClean s j code =
      if plotHeld (if code ≠ 0 ∧ migOp (s.job j) = 0 then s.wr (F.PC_PFLT_MIG_FAIL (migPlot (s.job j))) 1 else s) (migPlot (s.job j)) &&
        ((if code ≠ 0 ∧ migOp (s.job j) = 0 then s.wr (F.PC_PFLT_MIG_FAIL (migPlot (s.job j))) 1 else s).plot (migPlot (s.job j))).job == some j
      then plotThaw (if code ≠ 0 ∧ migOp (s.job j) = 0 then s.wr (F.PC_PFLT_MIG_FAIL (migPlot (s.job j))) 1 else s) (migPlot (s.job j))
      else if code ≠ 0 ∧ migOp (s.job j) = 0 then s.wr (F.PC_PFLT_MIG_FAIL (migPlot (s.job j))) 1 else s := by
  unfold jobClean
  extract_lets x live
  rw [if_neg hlive]
  simp only [x, hk]
  rfl

/-- The migration that fails, once MIG_FAIL shows where it is a MIGRATE, runs the plot again. -/
theorem migration_refused {s : State} {p : Fin 8} {j : Nat} (h5 : plotState s p = 5) (hj : (s.plot p).job = some j) {code : Nat}
    (hk : (s.job j).kind = 7) (hst : (s.job j).state = 2) (hb : (s.job j).begun = true) (hp : migPlot (s.job j) = p.val) :
    plotState (jobEnd s j 5 code) p = 3 ∧ ((jobEnd s j 5 code).plot p).freeze = 0 ∧ ((jobEnd s j 5 code).job j).state = 5 ∧
      ((jobEnd s j 5 code).job j).result = code := by
  have hclean : ∃ u, PlotStays p.val s u ∧ jobClean s j code = plotThaw u p := by
    have hlive : ¬ (!((s.job j).begun && (s.job j).active)) = true := by simp [hb, Job.active, hst]
    have hstay : PlotStays p.val s (if code ≠ 0 ∧ migOp (s.job j) = 0 then s.wr (F.PC_PFLT_MIG_FAIL p) 1 else s) := by
      split
      · exact (PlotStays.refl _ s).migFail _ _
      · exact PlotStays.refl _ s
    have heq := jobClean_migration (code := code) hk hlive
    rw [hp] at heq
    generalize (if code ≠ 0 ∧ migOp (s.job j) = 0 then s.wr (F.PC_PFLT_MIG_FAIL p) 1 else s) = u at hstay heq
    refine ⟨u, hstay, heq.trans (if_pos ?_)⟩
    have hheld : plotHeld u p = true := by
      have h : u.rd (F.PC_PSTAT_STATE p) = 5 := (hstay.state p.isLt).trans h5
      simp [plotHeld, h]
    rw [hheld, hstay.plot, hj]
    simp
  obtain ⟨u, -, hu⟩ := hclean
  obtain ⟨hst3, hin⟩ := plotThaw_shows u p.isLt
  have hstay := jobTo_stays p.val (jobClean s j code) j 5 code
  rw [hu] at hstay
  obtain ⟨hs, hr⟩ := jobTo_result (jobClean s j code) j 5 code
  rw [jobEnd, hu] at *
  exact ⟨(hstay.state p.isLt).trans hst3, by rw [hstay.plot]; exact hin.freeze, hs, hr⟩

theorem plotWdogExpiry_first :
    ∀ s (p : Fin 8) k, halfNat (plotRec s p) 22 ≠ 0 → (s.plot p).kick = some k → k + 80000 * halfNat (plotRec s p) 22 ≤ s.now →
    plotState s p = 3 → (s.plot p).freeze = 0 →
    recFault (plotRec s p) = 1 → (s.plot p).restarts = [] → Ends (.plotWdogExpiry p) s fun t =>
    plotState t p = 4 ∧ (t.plot p).restart = true ∧ t.rd (F.PC_PFLT_WDOG p) = 1 := by
  intro s p k h0 hk hdue h3 hf hfault hr
  have hexec := exec_wdogExpiry h0 hk hdue h3 hf
  rw [plotFault_restarts (.inr (.inl h3)) hfault hr] at hexec
  have h := plotReset_shows p.isLt (s := faultNoted s p 1) (by rw [state_faultNoted]; omega) true
  refine ⟨_, hexec, h.state, h.restart, (h.regs (F.PC_PFLT_WDOG p) (wdogFlag_blk p) ?_ ?_).trans ?_⟩
  · intro q
    simp only [Field.key, F.PC_PFLT_WDOG, F.PC_PFLT_MIG_FAIL]
    omega
  · intro q
    simp only [Field.key, F.PC_PFLT_WDOG, F.PC_PSTAT_STATE]
    omega
  · have hrec := (PlotStays.refl p.val (s.wr (fltBit p 1) 1)).record p 1 1
    refine (hrec.regs (F.PC_PFLT_WDOG p) (wdogFlag_blk p) ?_ ?_).trans (State.rd_wr_of_lt _ (Nat.lt_of_lt_of_eq Nat.one_lt_two rfl))
    · intro q
      simp only [Field.key, F.PC_PFLT_WDOG, F.PC_PFLT_MIG_FAIL]
      omega
    · intro q _
      simp only [Field.key, F.PC_PFLT_WDOG, F.PC_PSTAT_STATE]
      omega

theorem freezeDone_save :
    ∀ s (p : Fin 8), (s.plot p).freeze = 3 → plotState s p = 3 → drainOpen s p = false ∨ drainLate s (s.plot p).since = true →
    Ends (.freezeDone p) s fun t => ∃ img, img.plot = p.val ∧ img.st = s.stamp ∧
    (areaStatus (4096 * s.rd F.PC_CKPT_BASE_BASE) ((imageHeader s img).length + (img.sections.map sectionLen).sum + 32) = 0 →
    plotState t p = 5 ∧ t.pc.buffer = some img) := by
  intro s p hk h3 hd
  obtain ⟨h5, hin, hclo, hbase⟩ := frozen_shows s p.isLt
  have hexec := exec_freezeDone (by rw [hk]; decide) h3 hd
  rw [hk] at hexec
  generalize frozen s p = u at h5 hin hclo hbase hexec
  have hsave : afterFreeze u p 3 = imageStore u p (plotImage u p) := rfl
  rw [hsave] at hexec
  have hip : (plotImage u p).plot = p.val := plotImage_plot ..
  have his : (plotImage u p).st = s.stamp := (plotImage_stamp ..).trans hin.frozenAt
  generalize plotImage u p = img at hexec hip his
  refine ⟨_, hexec, img, hip, his, fun hok => ?_⟩
  rw [← hbase, ← length_imageHeader hclo img] at hok
  have hlen : (imageHeader u img).length + (img.sections.map sectionLen).sum + 32 =
      (imageHeader u img).length + ((img.sections.map sectionLen).sum + 16) + 16 := by omega
  rw [hlen] at hok
  obtain ⟨hregs, hbuf⟩ := imageStore_stored (u := u) (p := p) (img := img) hok
  exact ⟨(plotState_of_regs hregs p).trans h5, hbuf⟩

theorem freezeDone_frozen :
    ∀ s (p : Fin 8), (s.plot p).freeze ≠ 0 → (s.plot p).freeze ≠ 3 → plotState s p = 3 →
    drainOpen s p = false ∨ drainLate s (s.plot p).since = true → Ends (.freezeDone p) s fun t =>
    (t.plot p).frozenAt = s.stamp ∧ plotState t p = (if (s.plot p).freeze = 4 then 3 else 5) ∧
    ((s.plot p).freeze = 1 → (t.plot p).freeze = 0) ∧
    ((s.plot p).freeze = 2 ∨ (s.plot p).freeze = 5 → ∃ img, img.plot = p.val ∧ Out.xl (.plotImage img) ∈ t.out) ∧
    ((s.plot p).freeze = 4 → (t.plot p).ckpt = (s.plot p).ckpt + 1 ∧
    ∃ img, img.plot = p.val ∧ Out.xl (.checkpoint ((s.plot p).ckpt + 1) img) ∈ t.out) := by
  intro s p hk hk3 h3 hd
  obtain ⟨h5, hin, -, -⟩ := frozen_shows s p.isLt
  have hexec := exec_freezeDone hk h3 hd
  generalize frozen s p = u at h5 hin hexec
  have hip : (plotImage u p).plot = p.val := plotImage_plot ..
  generalize (s.plot p).freeze = k at hk hk3 hexec ⊢
  have hck : (u.plot p).ckpt = (s.plot p).ckpt := hin.ckpt
  have hfr : (u.plot p).frozenAt = s.stamp := hin.frozenAt
  by_cases h25 : k = 2 ∨ k = 5
  · have heq : afterFreeze u p k = u.emit (.xl (.plotImage (plotImage u p))) := if_pos h25
    rw [heq] at hexec
    generalize plotImage u p = img at hexec hip
    have h4 : k ≠ 4 := by omega
    refine ⟨_, hexec, hfr, ?_, fun h1 => absurd h1 (by omega), fun _ => ⟨img, hip, List.mem_append_right _ List.mem_cons_self⟩, fun h => absurd h h4⟩
    rw [if_neg h4]
    exact h5
  · by_cases h4 : k = 4
    · subst h4
      have heq : afterFreeze u p 4 = plotThaw (plotRecord (checkpointed u p (plotImage u p)) p 8 0xFF) p :=
        afterFreeze_checkpoint u p
      rw [heq] at hexec
      generalize plotImage u p = img at hexec hip
      obtain ⟨hc, hf, hmem⟩ := checkpointed_shows u p img
      generalize checkpointed u p img = v at hexec hc hf hmem
      obtain ⟨hst, hckpt, hfrozen, hout⟩ := checkpoint_thaws v p.isLt
      generalize plotThaw (plotRecord v p 8 0xFF) p = w at hexec hst hckpt hfrozen hout
      refine ⟨w, hexec, hfrozen.trans (hf.trans hfr), ?_, fun h => absurd h (by decide), fun h => absurd h (by decide), fun _ => ⟨?_, img, hip, ?_⟩⟩
      · rw [if_pos rfl]
        exact hst
      · rw [hckpt, hc, hck]
      · rw [← hck]
        exact hout.subset hmem
    · have heq : afterFreeze u p k = u.setPlot p { u.plot p with freeze := 0 } := by
        unfold afterFreeze
        rw [if_neg h25, if_neg hk3, if_neg h4]
      rw [heq] at hexec
      refine ⟨_, hexec, ?_, ?_, fun _ => ?_, fun h => absurd h h25, fun h => absurd h h4⟩
      · rw [plot_setPlot_self]
        exact hfr
      · rw [if_neg h4]
        exact h5
      · rw [plot_setPlot_self]

theorem checkpointTimer_idle :
    ∀ s (p : Fin 8), plotState s p ≠ 3 ∨ (s.plot p).freeze ≠ 0 ∨ recTakeover (plotRec s p) ≠ 2 ∨ s.rd F.XL_STAT_LINK = 0 ∨
    s.now < (s.plot p).ckptAt + 80000000 * recCkpt (plotRec s p) → exec (.checkpointTimer p) s = .next s := by
  intro s p h
  have hno : (plotState s p == 3 && (s.plot p).freeze == 0 && decide ((s.plot p).ckptAt + 80000000 * recCkpt (plotRec s p) ≤ s.now) &&
      recTakeover (plotRec s p) == 2 && s.rdB F.XL_STAT_LINK) = false := by
    obtain h | h | h | h | h := h
    · rw [beq_eq_false_iff_ne.mpr h]
      rfl
    · rw [beq_eq_false_iff_ne.mpr h, Bool.and_false]
      rfl
    · rw [beq_eq_false_iff_ne.mpr h, Bool.and_false]
      rfl
    · rw [show s.rdB F.XL_STAT_LINK = false by rw [State.rdB, h]; rfl, Bool.and_false]
    · rw [decide_eq_false (Nat.not_le.mpr h), Bool.and_false]
      rfl
  exact congrArg Host.Outcome.next (if_neg (Bool.eq_false_iff.mp hno))

theorem checkpointRx_held :
    ∀ s n img, img.plot < 8 → Ends (.checkpointRx n img true) s fun t => (t.plot img.plot).held = some (n, img) ∧
    t.rd (F.PC_PSTAT_CKPT_VALID img.plot) = 1 ∧ s.RegsBut t [F.PC_PSTAT_CKPT_VALID img.plot] := by
  intro s n img h
  have hgo : (true && decide (img.plot < 8)) = true := by rw [decide_eq_true h]; rfl
  have hexec : exec (.checkpointRx n img true) s = .next ((s.setPlot img.plot { s.plot img.plot with held := some (n, img) }).wr
    (F.PC_PSTAT_CKPT_VALID img.plot) 1) := congrArg Host.Outcome.next (if_pos hgo)
  refine ⟨_, hexec, congrArg PlotSt.held (plot_setPlot_self ..), State.rd_wr_of_lt _ (Nat.lt_of_lt_of_eq Nat.one_lt_two rfl),
    (s.RegsBut_refl _).set (g := F.PC_PSTAT_CKPT_VALID img.plot) (by simp) rfl⟩

theorem imageRestore_job :
    ∀ s img b j, restoreJob s = some j → (s.pc.buffer.getD img).plot = migPlot (s.job j) →
    restoreRefusal s (s.pc.buffer.getD img) (b || s.pc.buffer.isSome) false = none → Ends (.imageRestore img b) s fun t =>
    (t.job j).state = 4 ∧ plotState t (migPlot (s.job j)) = 7 := by
  intro s img b j hj heq hr
  have hno : ¬ ((s.pc.buffer.getD img).plot != migPlot (s.job j)) = true := by simp [heq]
  have hexec : exec (.imageRestore img b) s = .next (jobTo (claimAll (restoreApply s (s.pc.buffer.getD img))) j 4 0) := by
    simp only [exec, execImageRestore, hj, if_neg hno, hr]
  have hp := restoreRefusal_plot hr
  have hst := restoreApply_state s hp
  generalize restoreApply s (s.pc.buffer.getD img) = u at hexec hst
  rw [← heq]
  have hstay := (claimAll_stays (s.pc.buffer.getD img).plot u).trans (jobTo_stays _ (claimAll u) j 4 0)
  exact ⟨_, hexec, (jobTo_result (claimAll u) j 4 0).1, (hstay.state hp).trans hst⟩

/-- Settles O54: what a plot's events do to the plot itself goes through a change of its state, and the rest of them leaves it. -/
theorem plotEvents : Obligations.PlotEvents := by
  refine ⟨?_, ?_, ?_, ?_, ?_, ?_, ?_, ?_, ?_, ?_, ?_, ?_, ?_, ?_, ?_, ?_, ?_, ?_, ?_, ?_, ?_, ?_, ?_, ?_, ?_, ?_⟩
  · intro s c
    have hexec : exec (.windowBoundary c none) s = .next (boundaryShown s c 0xF 0) := rfl
    obtain ⟨ho, hk, hregs⟩ := boundaryShown_shows s c (o := 0xF) (k := 0) (by decide) (by decide)
    exact ⟨_, hexec, ho, hk, rfl, hregs⟩
  · exact fun s c w p hp hst => boundary_runs hp hst
  · exact fun s c w h => boundary_idle h
  · intro s p a w h
    simp only [exec, execAccessViolation, h, if_true]
  · exact fun s p a w h => exec_violation_shows h
  · intro s p a w h hlim hst hf
    have hshow := violFault_stops hst hf a.toNat
    have hexec := exec_violation_limit h hlim
    generalize violFault (violNoted s p a.toNat) p = u at hshow hexec
    exact ⟨_, hexec, hshow⟩
  · intro s r p v hlive hr
    refine exec_wdogKick hlive ?_ (by decide)
    cases r with
    | plot k =>
      have hk : ¬ k.val = p.val := fun e => hr (congrArg Req.plot (Fin.ext e))
      simp [wdogKick, hk]
    | _ => rfl
  · intro s p v hlive
    obtain ⟨u, hu, hregs, hmem, hkick⟩ := wdog_kicks s p v.toNat _ rfl
    have hcmd : wdogKick s (.plot p) p v.toNat = u.status 0 := by
      rw [← hu]
      simp only [wdogKick, beq_self_eq_true, Bool.not_true, Bool.false_eq_true, if_false]
    refine ⟨_, exec_wdogKick hlive hcmd (by decide), rfl, hregs, hmem, hkick.trans ?_⟩
    split <;> rfl
  · intro s p h
    have hno : (!wdogDue s p) = true ∨ plotState s p ≠ 3 ∨ plotHeld s p = true := by
      obtain h | h | h := h
      · exact .inl (by rw [h]; rfl)
      · exact .inr (.inl h)
      · exact .inr (.inr (by
          have hf : ((s.pc.plots.get p {}).freeze != 0) = true := bne_iff_ne.mpr h
          rw [plotHeld, hf, Bool.or_true]))
    exact congrArg Host.Outcome.next (if_pos hno)
  · exact plotWdogExpiry_first
  · intro s p h
    have hno : (plotState s p != 4 || (drainOpen s p && !drainLate s (s.plot p).since)) = true := by
      obtain h | ⟨h, h'⟩ := h
      · simp [h]
      · simp [h, h']
    exact congrArg Host.Outcome.next (if_pos hno)
  · intro s p h4 hd
    obtain ⟨hpc, hgen⟩ := resetCleared_shows s p.isLt
    have hexec : exec (.resetDrainDone p) s = .next (resetLeft (resetCleared s p) p) := congrArg Host.Outcome.next (plotComplete_eq h4 hd)
    have hplot : (resetCleared s p).plot p = s.plot p := congrArg (fun x : PcSt => x.plots.get p {}) hpc
    generalize resetCleared s p = u at hgen hexec hplot
    obtain ⟨hst, hg⟩ := resetLeft_shows u p.isLt
    rw [hplot] at hst
    exact ⟨_, hexec, hst, hg.trans hgen⟩
  · intro s p h
    have hno : (s.plot p).freeze = 0 ∨ plotState s p ≠ 3 ∨ (drainOpen s p = true ∧ (!drainLate s (s.plot p).since) = true) := by
      obtain h | h | ⟨h, h'⟩ := h
      · exact .inl h
      · exact .inr (.inl h)
      · exact .inr (.inr ⟨h, by rw [h']; rfl⟩)
    exact congrArg Host.Outcome.next (if_pos hno)
  · exact freezeDone_save
  · exact freezeDone_frozen
  · exact checkpointTimer_idle
  · intro s p h3 hf ht hx hdue
    have hgo : (plotState s p == 3 && (s.plot p).freeze == 0 && decide ((s.plot p).ckptAt + 80000000 * recCkpt (plotRec s p) ≤ s.now) &&
        recTakeover (plotRec s p) == 2 && s.rdB F.XL_STAT_LINK) = true := by
      rw [h3, hf, ht, decide_eq_true hdue, show s.rdB F.XL_STAT_LINK = true by rw [State.rdB, hx]; rfl]
      rfl
    obtain ⟨h₁, h₂⟩ := freezeStart_shows s p.isLt 4
    have hexec : exec (.checkpointTimer p) s = .next (freezeStart s p 4 none) := congrArg Host.Outcome.next (if_pos hgo)
    exact ⟨_, hexec, h₁, h₂.trans h3⟩
  · intro s n img b h
    have hno : (b && decide (img.plot < 8)) = false := by
      obtain h | h := h
      · rw [h, Bool.false_and]
      · rw [decide_eq_false (Nat.not_lt.mpr h), Bool.and_false]
    exact congrArg Host.Outcome.next (if_neg (Bool.eq_false_iff.mp hno))
  · exact checkpointRx_held
  · intro s img b code hj hr
    simp only [exec, execImageRestore, hj, hr]
  · intro s img b hj hr
    have hexec : exec (.imageRestore img b) s = .next ((restoreApply s img).emit (.xl (.restoreConfirm img.plot 0))) := by
      simp only [exec, execImageRestore, hj, hr]
    have hst := restoreApply_state s (restoreRefusal_plot hr)
    generalize restoreApply s img = u at hexec hst
    exact ⟨_, hexec, hst, List.mem_append_right _ List.mem_cons_self⟩
  · intro s img b j hj hne
    have hexec : exec (.imageRestore img b) s = .next (jobEnd s j 5 0x0303) := by
      simp only [exec, execImageRestore, hj, if_pos (bne_iff_ne.mpr hne)]
    exact ⟨_, hexec, jobTo_result (jobClean s j 0x0303) j 5 0x0303⟩
  · exact imageRestore_job
  · intro s p code h
    have hno : (!(plotState s p == 5 && ((s.plot p).freeze == 2 || (s.plot p).freeze == 5))) = true := by
      obtain h | ⟨h, h'⟩ := h
      · simp [h]
      · simp [h, h']
    exact congrArg Host.Outcome.next (if_pos hno)
  · intro s p j h5 hf hj
    have hno : (!(plotState s p == 5 && ((s.plot p).freeze == 2 || (s.plot p).freeze == 5))) = false := by simp [h5, hf]
    have hexec : exec (.migrateConfirmRx p 0) s = .next (jobTo (plotLeave (plotRecord s p 6 0xFF) p) j 4 0) := by
      simp only [exec, execMigrateConfirmRx, hno, hj, Bool.false_eq_true, if_false, ne_eq, not_true_eq_false]
    obtain ⟨hst, hz⟩ := plotLeave_shows (plotRecord s p 6 0xFF) p.isLt
    generalize plotLeave (plotRecord s p 6 0xFF) p = u at hexec hst hz
    have hstay := jobTo_stays p.val u j 4 0
    exact ⟨_, hexec, (hstay.state p.isLt).trans hst, by rw [hstay.plot]; exact hz, (jobTo_result u j 4 0).1⟩
  · intro s p j code h5 hf hj hc hk hst hb hp
    have hno : (!(plotState s p == 5 && ((s.plot p).freeze == 2 || (s.plot p).freeze == 5))) = false := by simp [h5, hf]
    have hexec : exec (.migrateConfirmRx p code) s = .next (jobEnd s j 5 code.toNat) := by
      simp only [exec, execMigrateConfirmRx, migrateFail, hno, hj, Bool.false_eq_true, if_false, ne_eq, if_pos hc]
    exact ⟨_, hexec, migration_refused h5 hj hk hst hb hp⟩

end Sys2Proof.Machine
end

section
/-! Cloche (O55): what a tamper, an erase, a counter, a lifecycle message, a token and the debug port do, and that no start
touches the fuses. -/

namespace Sys2Proof.Machine

/-! ## Key slots and the debug level -/

theorem slotVersion_addr (n : Nat) : 0x20D00100 ≤ (F.CLO_SLOT_VER_VERSION n).addr := by
  simp only [F.CLO_SLOT_VER_VERSION]
  omega

/-- A slot's registers lie at the addresses of the slots, and it is they alone that a slot's display writes. -/
theorem rd_slotSync {f : Field} (h : f.key < 32 * 0x20D00100) (n : Nat) (s : State) : (slotSync n s).rd f = s.rd f := by
  unfold slotSync
  have hne {g : Field} (hg : 0x20D00100 ≤ g.addr) : f.key ≠ g.key := by
    unfold Field.key at h ⊢
    omega
  split
  · rw [State.rd_wr_ne _ _ (hne (slotVersion_addr n)), State.rd_wr_ne _ _ (hne (Nat.le_add_right _ _)),
      State.rd_wr_ne _ _ (hne (Nat.le_add_right _ _)), State.rd_wr_ne _ _ (hne (Nat.le_add_right _ _)),
      State.rd_wr_ne _ _ (hne (Nat.le_add_right _ _)), State.rd_wr_ne _ _ (hne (Nat.le_add_right _ _))]
  · refine State.rd_resetRegs_out _ (.inl ?_)
    simp only [F.CLO_SLOT_LOADED]
    omega

theorem slotSync_clo (n : Nat) (s : State) : (slotSync n s).clo = s.clo := by
  unfold slotSync
  split <;> rfl

/-- An emptying of the slots leaves every register below those of the slots. -/
theorem rd_zeroSlots {f : Field} (h : f.key < 32 * 0x20D00100) (s : State) : (zeroSlots s).rd f = s.rd f :=
  forN_keeps (State.rd · f) (fun n _ t => rd_slotSync h n t) _

theorem zeroSlots_clo (s : State) : (zeroSlots s).clo = { s.clo with keys := [] } :=
  forN_keeps State.clo (fun n _ t => slotSync_clo n t) _

theorem zeroSlots_mode (s : State) : (zeroSlots s).mode = s.mode :=
  (zeroSlots_within (K := partsMask [.clo, .rTrellis, .rPlant, .rLatigo, .rMsr, .rFurrow, .rTilth, .rPommel, .rLs, .rStirrup, .rDio, .rCan,
    .rGateway, .rPlots, .rCloche, .rGirth, .rEth, .rBridle, .rGraft, .rIdent, .substate, .upd]) (by decide) (Within.refl _ s)).mode_eq (by decide)

theorem debugSeal_shows (s : State) : (debugSeal s).rd F.CLO_STAT_DEBUG = 0 ∧ (debugSeal s).rd F.CLO_STAT_DBG_PLOTS = 0 ∧
    (debugSeal s).clo = { s.clo with notAfter := none } ∧ s.RegsBut (debugSeal s) [F.CLO_STAT_DEBUG, F.CLO_STAT_DBG_PLOTS] := by
  refine ⟨?_, State.rd_wr_of_lt _ (Nat.two_pow_pos _), rfl, ?_⟩
  · exact (State.rd_wr_ne (f := F.CLO_STAT_DEBUG) (g := F.CLO_STAT_DBG_PLOTS) _ _ (by decide)).trans (State.rd_wr_of_lt _ (Nat.two_pow_pos _))
  · exact ((State.OnlyRegs.refl s _).wr (g := F.CLO_STAT_DEBUG) (by simp) 0 |>.wr (g := F.CLO_STAT_DBG_PLOTS) (by simp) 0).regs

/-- With every session closed none is left. -/
theorem closeSessions_all (s : State) : (closeSessions s fun _ _ => true).ses.sessions = [] := by
  refine List.filter_eq_nil_iff.mpr fun e he => ?_
  have h : ((s.ses.sessions.filter fun _ => true).map (·.1)).contains e.1 = true :=
    List.contains_iff_mem.mpr (List.mem_map_of_mem (List.mem_filter.mpr ⟨he, rfl⟩))
  rw [h]
  decide

/-! ## The fuses

Only a lifecycle message and provisioning blow a fuse; no start, tamper or erase does. -/

theorem enterQuarantine_mode (s : State) : (enterQuarantine s).mode = mQUARANTINE := by
  unfold enterQuarantine
  extract_lets took a g0 g b
  have hset : (setMode s mQUARANTINE 0x0C).mode = mQUARANTINE := setMode_mode s (by decide) _
  have ha : a.mode = (setMode s mQUARANTINE 0x0C).mode :=
    (linesOff_within (K := modelessMask) (by decide) (slsDown_within (K := modelessMask) (by decide) (Within.refl _ _))).mode_eq (by decide)
  clear_value a
  have hg : g.mode = a.mode := rfl
  clear_value g
  have hb : b.mode = g.mode := (jobsQuarantine_within (K := modelessMask) (by decide)
    (failsafeNow_within (K := modelessMask) (by decide) (serviceEnd_within (K := modelessMask) (by decide) (Within.refl _ _)))).mode_eq (by decide)
  clear_value b
  have hw : (wakeRelease ((b.wr F.XL_STAT_LINK 0).wr F.NS_STAT_WAKE_LOW 0)).mode = ((b.wr F.XL_STAT_LINK 0).wr F.NS_STAT_WAKE_LOW 0).mode :=
    (wakeRelease_within (K := modelessMask) (by decide) (Within.refl _ _)).mode_eq (by decide)
  rw [hw, State.mode, State.rd_wr_ne _ _ (by decide), State.rd_wr_ne _ _ (by decide)]
  exact hb.trans (hg.trans (ha.trans hset))

theorem quarantine_eq (s : State) : ∃ u : State, (u.mode = mQUARANTINE ∧ u.ses.sessions = [] ∧
      u.clo = { s.clo with root := none, erase := true, ku := none, keys := [], notAfter := none }) ∧
    quarantine s = ((u.wr F.CLO_STAT_ROOT_OK 0).wr F.CLO_STAT_QUAR 1).wr F.CLO_STAT_ERASING 1 := by
  unfold quarantine
  extract_lets c0 c kuWas a b d e
  refine ⟨e, ?_, rfl⟩
  have ha : a.clo = { s.clo with root := none, erase := true, ku := none, keys := [], notAfter := none } := by
    simp only [a, (debugSeal_shows _).2.2.1, zeroSlots_clo, c, c0]
  have hb : b.clo = a.clo := by
    simp only [b]
    split <;> rfl
  have hd : d.clo = b.clo := rfl
  have hs : d.ses.sessions = [] := closeSessions_all b
  clear_value a b d
  have hw := enterQuarantine_within (K := partsMask [.mode, .mem, .free, .out, .irqHeld, .q, .girth, .ls, .lsKept0, .lsKept1, .dio, .str, .lat, .msr,
    .can, .ns, .jobs, .rLatigo, .rFurrow, .rTilth, .rPommel, .rLs, .rStirrup, .rDio, .rCan, .rGirth, .rBridle, .substate, .upd, .furBits])
    (by decide) (Within.refl _ d)
  simp only [e]
  split
  case isTrue h => exact ⟨eq_of_beq h, hs, hd.trans (hb.trans ha)⟩
  case isFalse h =>
    refine ⟨enterQuarantine_mode d, ?_, (hw.same .clo (by decide)).trans (hd.trans (hb.trans ha))⟩
    rw [hw.same .ses (by decide)]
    exact hs

/-- The parts of a state's Cloche that no start and no tamper touches. -/
theorem quarantine_fuses (s : State) : (quarantine s).clo.fuses = s.clo.fuses := by
  obtain ⟨u, ⟨-, -, hc⟩, h⟩ := quarantine_eq s
  rw [h]
  change u.clo.fuses = _
  rw [hc]

/-- What a tamper leaves in Cloche before it acts: the entry, the latch where it acts, and what shows. -/
def tamperLogged (s : State) (source detail : Nat) (keyOp : Bool) : State :=
  let now := lcKeyed s && s.mode != mSEATING
  let flags := now.toNat + 4 * keyOp.toNat + 8 * (s.mode == mBOOT).toNat
  let log := (tamperEntry s source detail flags :: s.clo.log).take 64
  let s := { s with clo := { s.clo with log := log, latch := s.clo.latch || lcKeyed s } }
  tamperSync (s.setBit F.CLO_TMP_STAT_SEEN source)

theorem tamperLogged_clo (s : State) (source detail : Nat) (k : Bool) : ∃ flags, (tamperLogged s source detail k).clo =
    { s.clo with log := (tamperEntry s source detail flags :: s.clo.log).take 64, latch := s.clo.latch || lcKeyed s } := ⟨_, rfl⟩

theorem tamperLogged_keeps (s : State) (source detail : Nat) (k : Bool) : (tamperLogged s source detail k).mode = s.mode ∧
    (tamperLogged s source detail k).mem = s.mem ∧ (tamperLogged s source detail k).retain = s.retain := by
  refine ⟨?_, rfl, rfl⟩
  unfold tamperLogged tamperSync
  extract_lets now flags log c0 c
  rw [State.mode, State.rd_wr_ne _ _ (by decide), State.rd_wr_ne _ _ (by decide)]
  exact State.rd_setBit_ne (s := c) (f := F.GIRTH_MODE_MODE) (g := F.CLO_TMP_STAT_SEEN) _ (by decide)

/-- With nothing retained, or where it does not act at once, a tamper is logged on the present state. -/
theorem tamper_eq {s : State} (h : s.retain = none ∨ (lcKeyed s && s.mode != mSEATING) = false) (source detail : Nat) :
    tamper s source detail = if lcKeyed s && s.mode != mSEATING then quarantine (tamperLogged s source detail (s.clo.ku.isSome || jobRunning s 6))
      else tamperLogged s source detail (s.clo.ku.isSome || jobRunning s 6) := by
  unfold tamper
  extract_lets keyOp acts now u
  have hs : u = s := by
    simp only [u]
    obtain h | h := h
    · rw [h]
    · have hn : ¬ now = true := by simp only [now, acts, h, Bool.false_eq_true, not_false_eq_true]
      cases s.retain with
      | none => rfl
      | some r => exact if_neg hn
  clear_value u
  subst hs
  rfl

/-- The newest entry of the log is that of the tamper. -/
theorem tamperLogged_log (s : State) {source : Nat} (h : source < 256) (detail : Nat) (k : Bool) :
    ((tamperLogged s source detail k).clo.log.head?.map fun e => byteNat e 0) = some source ∧
      (tamperLogged s source detail k).clo.log.tail = s.clo.log.take 63 := by
  obtain ⟨flags, hc⟩ := tamperLogged_clo s source detail k
  rw [hc]
  refine ⟨congrArg some ?_, rfl⟩
  exact Nat.mod_eq_of_lt h

theorem tamper_fuses (s : State) (source detail : Nat) : (tamper s source detail).clo.fuses = s.clo.fuses := by
  unfold tamper
  extract_lets keyOp acts now u flags log c0 c v
  have hu : u.clo = s.clo := by
    simp only [u]
    split
    · split
      · exact (wakeReload_within (K := partsMask (Part.allBut [.clo])) (by decide) (Within.refl _ s)).same .clo (by decide)
      · rfl
    · rfl
  have hv : v.clo.fuses = u.clo.fuses := rfl
  clear_value u v
  split
  · exact (quarantine_fuses v).trans (hv.trans (congrArg CloSt.fuses hu))
  · exact hv.trans (congrArg CloSt.fuses hu)

/-- Every part but Cloche's. -/
def cloless : Nat := partsMask (Part.allBut [.clo])

theorem eraseDone_fuses (s : State) : (eraseDone s).clo.fuses = s.clo.fuses := by
  unfold eraseDone
  split <;> rfl

theorem loadSlot_fuses (s : State) (b : KeyBlob) : (loadSlot s b).clo.fuses = s.clo.fuses := by
  unfold loadSlot
  rw [slotSync_clo]

theorem loadSlots_fuses (s : State) : (loadSlots s).clo.fuses = s.clo.fuses := by
  unfold loadSlots
  split
  · refine foldl_keeps (fun t : State => t.clo.fuses) (fun t e => ?_) _ _
    split
    · rfl
    · exact loadSlot_fuses t _
  · rfl

theorem romQuarantine_fuses (s : State) : (romQuarantine s).clo.fuses = s.clo.fuses := by
  unfold romQuarantine
  extract_lets log c0 u
  rw [eraseDone_fuses, quarantine_fuses, (romRelease_within (K := cloless) (by decide) (Within.refl _ u)).same .clo (by decide)]

theorem rootRegenerate_fuses (s : State) (e : BootCheck) : (rootRegenerate s e).clo.fuses = s.clo.fuses := by
  unfold rootRegenerate
  split
  · rfl
  · extract_lets both fail tries a b c d c0
    have hb : b.clo = a.clo := by
      simp only [b]
      split <;> rfl
    have hc : c.clo = b.clo := by
      simp only [c]
      split <;> rfl
    have hd : d.clo = c.clo := rfl
    have ha : a.clo = s.clo := rfl
    change d.clo.fuses = s.clo.fuses
    rw [hd, hc, hb, ha]

theorem bootRom_fuses (s : State) (cold : Bool) (e : BootCheck) : (bootRom s cold e).clo.fuses = s.clo.fuses := by
  have hshow (t : State) : (romShow t e).clo = t.clo := (romShow_within (K := cloless) (by decide) (Within.refl _ t)).same .clo (by decide)
  unfold bootRom
  split
  · rw [romQuarantine_fuses, hshow]
  · extract_lets a b c d f g
    have ha : a.clo.fuses = s.clo.fuses := by
      simp only [a]
      split
      · exact rootRegenerate_fuses s e
      · rfl
    have hb : b.clo = a.clo := hshow a
    clear_value a b
    have hc : c.clo = b.clo := rfl
    clear_value c
    have hd : d.clo = c.clo := by
      simp only [d]
      split <;> rfl
    clear_value d
    have hf : f.clo.fuses = d.clo.fuses := loadSlots_fuses _
    clear_value f
    have hstart : f.clo.fuses = s.clo.fuses := by rw [hf, hd, hc, hb, ha]
    split
    · rw [tamper_fuses, (romRelease_within (K := cloless) (by decide) (Within.refl _ f)).same .clo (by decide), hstart]
    · have hg : g.clo = f.clo := by
        simp only [g]
        split <;> rfl
      clear_value g
      split
      rename_i x ok heq
      have hw := bankSelect_within (K := cloless) (by decide) (Within.refl _ g) heq
      have hx : x.clo.fuses = s.clo.fuses := by rw [hw.same .clo (by decide), hg, hstart]
      split
      · rw [(enterHold_within (K := cloless) (by decide) (Within.refl _ x)).same .clo (by decide), hx]
      · rw [(enginesStart_within (K := cloless) (by decide) (settingsLoad_within (K := cloless) (by decide)
          (settingsFormat_within (K := cloless) (by decide) (microcodeLoad_within (K := cloless) (by decide) (Within.refl _ x))))).same .clo
          (by decide), hx]

theorem startReset_fuses (s : State) (cold : Bool) : (startReset s cold).clo.fuses = s.clo.fuses := by
  have hstop : (strStop s).clo = s.clo := (strStop_within (K := cloless) (by decide) (Within.refl _ s)).same .clo (by decide)
  have hjobs (t : State) : (jobsRestart t).clo.fuses = t.clo.fuses := by
    unfold jobsRestart
    extract_lets late a c0 g0 b
    have ha : a.clo = t.clo := forN_keeps State.clo (fun j _ u => by
      dsimp only
      split
      · rfl
      · split
        · rfl
        · split
          · exact (jobTo_within (K := cloless) (by decide) (Within.refl _ u)).same .clo (by decide)
          · exact (jobTo_within (K := cloless) (by decide) (Within.refl _ u)).same .clo (by decide)) _
    clear_value a
    have hb : b.clo.fuses = a.clo.fuses := rfl
    clear_value b
    have hc : (forN (fun b t => if (t.bank b).state = 1 then t.setBank b { t.bank b with state := 2 } else t) 2 b).clo = b.clo :=
      forN_keeps State.clo (fun j _ u => by
        dsimp only
        split <;> rfl) _
    exact (congrArg CloSt.fuses hc).trans (hb.trans (congrArg CloSt.fuses ha))
  unfold startReset
  extract_lets a b c d f g h
  have ha : a.clo.fuses = s.clo.fuses := by
    simp only [a]
    rw [hjobs, hstop]
  clear_value a
  have hb : b.clo = a.clo := (resetCore_within (K := cloless) (by decide) (resetSafe_within (K := cloless) (by decide)
    (slsDown_within (K := cloless) (by decide) (Within.refl _ a)))).same .clo (by decide)
  clear_value b
  have hf : f.clo.fuses = b.clo.fuses := by
    simp only [f]
    split <;> rfl
  clear_value f
  have hg : g.clo = f.clo := (railsTo_within (K := cloless) (by decide) (Within.refl _ f)).same .clo (by decide)
  clear_value g
  have hh : h.clo = g.clo := by
    simp only [h]
    split
    · exact (pd1Reset_within (K := cloless) (by decide) (Within.refl _ g)).same .clo (by decide)
    · rfl
  clear_value h
  change h.clo.fuses = s.clo.fuses
  rw [hh, hg, hf, hb, ha]

theorem restart_fuses (s : State) (cold : Bool) (cause : Nat) (e : BootCheck) : (restart s cold cause e).clo.fuses = s.clo.fuses := by
  unfold restart bootEnter
  extract_lets g u
  have hu : u.clo = s.clo := by
    simp only [u]
    split <;> rfl
  clear_value u
  rw [bootRom_fuses, (setMode_within (K := cloless) (by decide) (by decide) (Within.refl _ _)).same .clo (by decide), startReset_fuses]
  exact congrArg CloSt.fuses hu

theorem warmStart_fuses (s : State) (cause : Nat) (e : BootCheck) : (warmStart s cause e).clo.fuses = s.clo.fuses := by
  have hend : (serviceEnd s).clo = s.clo := (serviceEnd_within (K := cloless) (by decide) (Within.refl _ s)).same .clo (by decide)
  unfold warmStart
  rw [restart_fuses]
  split
  · rw [(holdStart_within (K := cloless) (by decide) (Within.refl _ (serviceEnd s))).same .clo (by decide), hend]
  · rw [hend]

/-! ## Rejections -/

/-- The rejection of a token or message is noted with its time. -/
def rejectNoted (s : State) (flt : Field) : State :=
  let fails := s.now :: s.clo.fails.filter fun t => decide (s.now < t + 288000000000)
  State.wr { s with clo := { s.clo with fails := fails } } flt 1

/-- A rejection that is not the eighth within an hour is noted and counted, and no more. -/
theorem cloReject_shows {s : State} (h : (s.clo.fails.filter fun t => decide (s.now < t + 288000000000)).length ≠ 7) {flt : Field}
    (hw : 0 < flt.w) (h1 : flt.key ≠ F.CLO_TMP_STAT_ENTRIES.key) (h2 : flt.key ≠ F.CLO_TMP_STAT_FAILS.key) (c : Nat) :
    ∃ t, cloReject s flt c = t ∧ t.resp = ⟨c, 0⟩ ∧ t.rd flt = 1 ∧ (∃ fails, t.clo = { s.clo with fails := fails }) ∧ t.ses = s.ses ∧
      s.RegsBut t [flt, F.CLO_TMP_STAT_ENTRIES, F.CLO_TMP_STAT_FAILS] := by
  have heq : cloReject s flt c = (tamperSync (rejectNoted s flt)).status c := by
    unfold cloReject
    extract_lets fails c0 u v
    have hl : (fails.length == 8) = false := beq_eq_false_iff_ne.mpr fun e => h (Nat.succ.inj e)
    have hno : ¬ (fails.length == 8 && u.rdB F.CLO_TMP_EN_TOKEN) = true := by
      rw [hl, Bool.false_and]
      exact Bool.false_ne_true
    have hv : v = u := if_neg hno
    rw [hv]
    rfl
  have hclo : ∃ fails, (rejectNoted s flt).clo = { s.clo with fails := fails } := ⟨_, rfl⟩
  have hses : (rejectNoted s flt).ses = s.ses := rfl
  have hnoted : (rejectNoted s flt).rd flt = 1 := State.rd_wr_of_lt _ (Nat.one_lt_two_pow (by omega))
  have hregs : s.RegsBut (rejectNoted s flt) [flt, F.CLO_TMP_STAT_ENTRIES, F.CLO_TMP_STAT_FAILS] :=
    fun f hf => State.rd_wr_ne _ _ (hf flt List.mem_cons_self)
  refine ⟨_, heq, rfl, ?_⟩
  generalize rejectNoted s flt = u at hclo hses hnoted hregs
  refine ⟨?_, hclo, hses, ?_⟩
  · exact (State.rd_wr_ne _ _ h2).trans ((State.rd_wr_ne _ _ h1).trans hnoted)
  · exact hregs.trans (((State.OnlyRegs.refl u _).wr (g := F.CLO_TMP_STAT_ENTRIES) (by simp) _).wr
      (g := F.CLO_TMP_STAT_FAILS) (by simp) _).regs

/-! ## What a lifecycle message and provisioning leave -/

theorem ctrSet_clo (s : State) (i v : Nat) : (ctrSet s i v).clo.fuses = s.clo.fuses ∧ (ctrSet s i v).clo.keys = s.clo.keys ∧
    (ctrSet s i v).clo.ctrs = s.clo.ctrs.set i v := by
  unfold ctrSet
  extract_lets c0 u
  split <;> exact ⟨rfl, rfl, rfl⟩

theorem lcSync_clo (s : State) : (lcSync s).clo = s.clo := rfl

theorem lcSync_mode (s : State) : (lcSync s).mode = s.mode :=
  (lcSync_within (K := modelessMask) (by decide) (Within.refl _ s)).mode_eq (by decide)

theorem lcSync_state (s : State) : (lcSync s).rd F.LC_STAT_STATE = lcState s := by
  unfold lcSync
  extract_lets u
  have h : u.rd F.LC_STAT_STATE = lcState s := by
    simp only [u]
    rw [State.rd_wr_ne _ _ (by decide), State.rd_wr_ne _ _ (by decide)]
    exact State.rd_wr_of_lt _ (Nat.mod_lt _ (by decide))
  clear_value u
  exact (State.rd_wrB_ne (s := u) (f := F.LC_STAT_STATE) (g := F.LC_STAT_ENROLLED) u.clo.enrolled (by decide)).trans h

/-- The fuses that an accepted message blows (Table 21-9). -/
theorem lcmDo_fuses (s : State) (b : List Byte) : (lcmDo s b).clo.fuses =
    if byteNat b 6 = 1 then 4 * lcGen s + 2 else if byteNat b 6 = 3 then 4 * (lcGen s + 1) else 4 * lcGen s + 3 := by
  obtain ⟨hf, -, -⟩ := ctrSet_clo s 1 (numIn b 56 4)
  unfold lcmDo
  extract_lets u g c
  have hg : g = lcGen s := congrArg (· / 4) hf
  rw [← hg, lcSync_clo]
  clear_value g c
  split
  case h_1 h => rw [if_pos h]
  case h_2 h =>
    rw [zeroSlots_clo, h]
    rfl
  case h_3 h => rw [h]; rfl
  case h_4 h1 h2 h3 => rw [if_neg h1, if_neg h3]; rfl

/-- An accepted message that takes the module to FIELDED changes the fuses and counter 1. -/
theorem lcmDo_fielded {s : State} {b : List Byte} (h : byteNat b 6 = 1) : (lcmDo s b).clo.ctrs = s.clo.ctrs.set 1 (numIn b 56 4) ∧
    (lcmDo s b).clo.keys = s.clo.keys ∧ (lcmDo s b).rd F.LC_STAT_STATE = 2 ∧ (lcmDo s b).mode = s.mode := by
  obtain ⟨-, hk, hctr⟩ := ctrSet_clo s 1 (numIn b 56 4)
  have hmode : (ctrSet s 1 (numIn b 56 4)).mode = s.mode :=
    State.rd_wr_ne (f := F.GIRTH_MODE_MODE) (g := F.CLO_CTR_VALUE 1) _ _ (by decide)
  unfold lcmDo
  extract_lets u g c
  rw [lcSync_clo, lcSync_state, lcSync_mode, h]
  refine ⟨hctr, hk, ?_, hmode⟩
  change (4 * g + 2) % 4 = 2
  omega

/-! ## Tokens -/

/-- What a token that is accepted opens, before a RETURN seals the keys. -/
def tokenOpened (s : State) (b : List Byte) : State :=
  let s := (s.wr F.CLO_STAT_DEBUG (byteNat b 6)).wr F.CLO_STAT_DBG_PLOTS (byteNat b 7)
  { s with clo := { s.clo with notAfter := some (ptimeAt b 60) } }

/-- The end of a RETURN: no key, no session, the keys sealed. -/
def tokenReturned (s : State) : State := closeSessions ((zeroSlots s).wr F.CLO_STAT_KEYS_SEALED 1) fun _ _ => true

theorem debugToken_eq {s : State} {b : List Byte} {ok : Bool} (h : tokenRefusal s b ok = none) :
    debugToken s b ok = (if byteNat b 6 == 2 then tokenReturned (tokenOpened s b) else tokenOpened s b).status 0 := by
  simp only [debugToken, h]
  rfl

theorem tokenForm_level {b : List Byte} (h : tokenForm b = true) : byteNat b 6 = 1 ∨ byteNat b 6 = 2 := by
  simp only [tokenForm, Bool.and_eq_true, Bool.or_eq_true, beq_iff_eq] at h
  obtain ⟨⟨⟨-, hl⟩, -⟩, -⟩ := h
  exact hl

theorem tokenRefusal_form {s : State} {b : List Byte} {ok : Bool} (h : tokenRefusal s b ok = none) : tokenForm b = true := by
  by_contra hno
  rw [tokenRefusal, if_pos (by rw [Bool.not_eq_true] at hno; rw [hno]; rfl)] at h
  exact Option.some_ne_none _ h

theorem tokenOpened_shows (s : State) {b : List Byte} (h : tokenForm b = true) : (tokenOpened s b).rd F.CLO_STAT_DEBUG = byteNat b 6 ∧
    (tokenOpened s b).rd F.CLO_STAT_DBG_PLOTS = byteNat b 7 ∧ (tokenOpened s b).mode = s.mode ∧
    (tokenOpened s b).clo = { s.clo with notAfter := some (ptimeAt b 60) } ∧ (tokenOpened s b).ses = s.ses := by
  refine ⟨?_, ?_, ?_, rfl, rfl⟩
  · refine (State.rd_wr_ne (f := F.CLO_STAT_DEBUG) (g := F.CLO_STAT_DBG_PLOTS) _ _ (by decide)).trans (State.rd_wr_of_lt _ ?_)
    obtain h | h := tokenForm_level h <;> rw [h] <;> decide
  · exact State.rd_wr_of_lt _ (b.getD 7 0).isLt
  · exact (State.rd_wr_ne (f := F.GIRTH_MODE_MODE) (g := F.CLO_STAT_DBG_PLOTS) _ _ (by decide)).trans
      (State.rd_wr_ne (f := F.GIRTH_MODE_MODE) (g := F.CLO_STAT_DEBUG) _ _ (by decide))

theorem tokenReturned_shows (s : State) : (tokenReturned s).ses.sessions = [] ∧ (tokenReturned s).rd F.CLO_STAT_KEYS_SEALED = 1 ∧
    (tokenReturned s).clo = { s.clo with keys := [] } ∧ (tokenReturned s).mode = s.mode ∧
    (∀ f : Field, f.key < 32 * 0x20D00100 → f.key ≠ F.CLO_STAT_KEYS_SEALED.key → (tokenReturned s).rd f = s.rd f) := by
  have hrd (u : State) (f : Field) : (closeSessions u fun _ _ => true).rd f = u.rd f := rfl
  have hclo (u : State) : (closeSessions u fun _ _ => true).clo = u.clo := rfl
  have hmode := zeroSlots_mode s
  have hz := zeroSlots_clo s
  have hkept := fun (f : Field) (hf : f.key < 32 * 0x20D00100) => rd_zeroSlots hf s
  unfold tokenReturned
  generalize zeroSlots s = u at hmode hz hkept
  refine ⟨closeSessions_all _, ?_, ?_, ?_, fun f hf hne => ?_⟩
  · rw [hrd]
    exact State.rd_wr_of_lt _ (Nat.lt_of_lt_of_eq Nat.one_lt_two rfl)
  · rw [hclo]
    exact hz
  · rw [State.mode, hrd, State.rd_wr_ne _ _ (by decide)]
    exact hmode
  · rw [hrd, State.rd_wr_ne _ _ hne, hkept f hf]

theorem provisionDo_fuses (s : State) (b : List Byte) : (provisionDo s b).clo.fuses = 4 * lcGen s + 1 := by
  have hput (t : State) (k : KeyBlob) : (journalPut t k).clo.fuses = t.clo.fuses := rfl
  have happ (t : State) (n : Nat) : (journalAppend t n).clo.fuses = t.clo.fuses := rfl
  unfold provisionDo
  extract_lets kek own c0 u v w
  rw [lcSync_clo, happ, hput, hput]
  rfl

/-- A counter's increment by one who may, where flash may be written. -/
theorem ctrIncrement_eq {s : State} {r : Req} {i : Nat} (hr : r = .supervisor ∨ ∃ a b, r = .stitch a b true) (hi : i = 2 ∨ (4 ≤ i ∧ i < 8)) :
    ctrIncrement s r i = if 0xFFFFFFFF ≤ cloCtr s i then s.status 0x0301 else if !flashOk s then s.status 0x0303
      else (ctrSet s i (cloCtr s i + 1)).status 0 := by
  have hi' : (i == 2 || (decide (4 ≤ i) && decide (i < 8))) = true := by
    obtain h | ⟨h, h'⟩ := hi
    · simp [h]
    · simp [h, h']
  unfold ctrIncrement
  obtain rfl | ⟨a, b, rfl⟩ := hr <;> simp [hi']

theorem ctrIncrement_refused {s : State} {r : Req} {i : Fin 8} (h : (r ≠ .supervisor ∧ ∀ a b, r ≠ .stitch a b true) ∨ (i.val ≠ 2 ∧ i.val < 4)) :
    ctrIncrement s r i = s.status 0x0207 := by
  refine if_pos ?_
  obtain ⟨hs, hst⟩ | ⟨h2, h4⟩ := h
  · cases r with
    | supervisor => exact absurd rfl hs
    | stitch a b sec =>
      cases sec with
      | true => exact absurd rfl (hst a b)
      | false => rfl
    | _ => rfl
  · have hi : (i.val == 2 || (decide (4 ≤ i.val) && decide (i.val < 8))) = false := by
      rw [beq_eq_false_iff_ne.mpr h2, decide_eq_false (Nat.not_le.mpr h4)]
      rfl
    rw [hi]
    exact Bool.or_true _

theorem ctrSet_shows (s : State) (i v : Nat) (hv : v < 2 ^ 32) : cloCtr (ctrSet s i v) i = v ∧ (ctrSet s i v).rd (F.CLO_CTR_VALUE i) = v ∧
    (i = 2 → (ctrSet s i v).rd F.CLO_STAT_DEBUG = 0) ∧ ∀ k : Nat, k ≠ i → cloCtr (ctrSet s i v) k = cloCtr s k := by
  obtain ⟨-, -, hctr⟩ := ctrSet_clo s i v
  refine ⟨?_, ?_, fun hi => ?_, fun k hk => ?_⟩
  · rw [cloCtr, hctr]
    exact SMap.get_set_self ..
  · unfold ctrSet
    extract_lets c0 u
    have hu : u.rd (F.CLO_CTR_VALUE i) = v := State.rd_wr_of_lt _ hv
    clear_value u
    split
    · refine ((debugSeal_shows u).2.2.2 _ fun g hg => ?_).trans hu
      have hg' : g.key < 32 * 0x20D00200 := by
        obtain rfl | rfl := List.mem_pair.mp hg <;> decide
      simp only [Field.key, F.CLO_CTR_VALUE] at hg' ⊢
      omega
    · exact hu
  · unfold ctrSet
    extract_lets c0 u
    rw [if_pos hi]
    exact (debugSeal_shows u).1
  · rw [cloCtr, hctr]
    exact SMap.get_set_ne _ _ _ hk

/-- The helper data, the journal and the log as the end of an erase leaves them. -/
def eraseMarked (s : State) : State :=
  let c := { s.clo with erase := false, enrolled := false, info := [], journal := [], records := 0 }
  logMark { s with clo := c } 1 fun f => f.testBit 0 && !f.testBit 1

theorem eraseMarked_mode (s : State) : (eraseMarked s).mode = s.mode := by
  unfold eraseMarked logMark
  rfl

theorem eraseMarked_clo (s : State) : (eraseMarked s).clo.erase = false ∧ (eraseMarked s).clo.enrolled = false ∧ (eraseMarked s).clo.info = [] ∧
    (eraseMarked s).clo.journal = [] ∧ (eraseMarked s).clo.fuses = s.clo.fuses := by
  unfold eraseMarked logMark
  exact ⟨rfl, rfl, rfl, rfl, rfl⟩

/-- What follows an accepted lifecycle message: a start, but for the step to FIELDED. -/
def lcmEnd (s : State) (b : List Byte) (e : Envt) : State :=
  match byteNat b 6 with
    | 1 => s
    | 4 => restart s true 0x04 e.boot
    | _ => warmStart s 0x04 e.boot

theorem lcmEnd_fuses (s : State) (b : List Byte) (e : Envt) : (lcmEnd s b e).clo.fuses = s.clo.fuses := by
  unfold lcmEnd
  split
  · rfl
  · exact restart_fuses ..
  · exact warmStart_fuses ..

theorem exec_tamperDetect {s : State} {n : Fin 7} (hn : n.val < 6) (d : BitVec 16) :
    exec (.tamperDetect n d) s = .next (tamper s n.val d.toNat) := by
  have h6 : (n.val == 6) = false := beq_eq_false_iff_ne.mpr (by omega)
  refine congrArg Host.Outcome.next (if_neg ?_)
  rw [h6, Bool.false_and]
  exact Bool.false_ne_true

/-- What is left when an erase has ended. -/
theorem eraseDone_shows {s : State} (h : s.clo.erase = true) : Ends .tamperEraseDone s fun t => t.clo.erase = false ∧ t.clo.enrolled = false ∧
    t.clo.info = [] ∧ t.clo.journal = [] ∧ t.rd F.CLO_STAT_ERASING = 0 ∧ t.rd F.LC_STAT_ENROLLED = 0 ∧ t.mode = s.mode ∧ t.clo.fuses = s.clo.fuses := by
  have hexec : exec .tamperEraseDone s = .next (lcSync ((eraseMarked s).wr F.CLO_STAT_ERASING 0)) := congrArg Host.Outcome.next (if_pos h)
  have hmode := eraseMarked_mode s
  obtain ⟨he, hen, hi, hj, hf⟩ := eraseMarked_clo s
  generalize eraseMarked s = u at hexec hmode he hen hi hj hf
  refine ⟨_, hexec, he, hen, hi, hj, ?_, ?_, ?_, hf⟩
  · have hw := lcSync_within (K := partsMask [.rIdent, .upd]) (by decide) (Within.refl _ (u.wr F.CLO_STAT_ERASING 0))
    exact (hw.rd_eq (f := F.CLO_STAT_ERASING) (i := 54) (by unfold Blk; decide) (by decide) (by decide)).trans (State.rd_wr_of_lt _ (Nat.two_pow_pos _))
  · unfold lcSync
    extract_lets v
    refine (State.rd_wr_of_lt (f := F.LC_STAT_ENROLLED) v (Bool.toNat_lt v.clo.enrolled)).trans ?_
    change u.clo.enrolled.toNat = 0
    rw [hen]
    rfl
  · rw [lcSync_mode, State.mode, State.rd_wr_ne _ _ (by decide)]
    exact hmode

theorem exec_debugToken {s : State} {b : List Byte} {ok : Bool} (h : tokenRefusal s b ok = none) : exec (.debugToken b ok) s =
    .next ((if byteNat b 6 == 2 then tokenReturned (tokenOpened s b) else tokenOpened s b).status 0) := by
  simp only [exec, execDebugToken, debugToken_eq h]

theorem debug_below : F.CLO_STAT_DEBUG.key < 32 * 0x20D00100 := by simp only [Field.key, F.CLO_STAT_DEBUG]; omega
theorem dbgPlots_below : F.CLO_STAT_DBG_PLOTS.key < 32 * 0x20D00100 := by simp only [Field.key, F.CLO_STAT_DBG_PLOTS]; omega

theorem debugToken_opens :
    ∀ s b ok, tokenRefusal s b ok = none → Ends (.debugToken b ok) s fun t => t.resp = ⟨0, 0⟩ ∧
    t.rd F.CLO_STAT_DEBUG = byteNat b 6 ∧ t.rd F.CLO_STAT_DBG_PLOTS = byteNat b 7 ∧ t.clo.notAfter = some (ptimeAt b 60) ∧ t.mode = s.mode ∧
    (byteNat b 6 = 2 → t.clo.keys = [] ∧ t.ses.sessions = [] ∧ t.rd F.CLO_STAT_KEYS_SEALED = 1) ∧
    (byteNat b 6 = 1 → t.clo.keys = s.clo.keys ∧ t.ses = s.ses) := by
  intro s b ok h
  have hexec := exec_debugToken h
  have hform := tokenRefusal_form h
  obtain ⟨hd, hp, hm, hclo, hses⟩ := tokenOpened_shows s hform
  have hkeys : (tokenOpened s b).clo.keys = s.clo.keys := by rw [hclo]
  generalize tokenOpened s b = u at hexec hd hp hm hclo hses hkeys
  obtain hl | hl := tokenForm_level hform
  · have hno : ¬ (byteNat b 6 == 2) = true := by rw [hl]; decide
    rw [if_neg hno] at hexec
    refine ⟨_, hexec, rfl, hd, hp, congrArg CloSt.notAfter hclo, hm, fun h2 => absurd h2 (by rw [hl]; decide), fun _ => ⟨hkeys, hses⟩⟩
  · have hyes : (byteNat b 6 == 2) = true := by rw [hl]; rfl
    rw [if_pos hyes] at hexec
    obtain ⟨hs, hsealed, hc, hmode, hrd⟩ := tokenReturned_shows u
    have hc1 : (tokenReturned u).clo.keys = [] := by rw [hc]
    have hc2 : (tokenReturned u).clo.notAfter = u.clo.notAfter := by rw [hc]
    generalize tokenReturned u = v at hexec hs hsealed hc1 hc2 hmode hrd
    refine ⟨_, hexec, rfl, ?_, ?_, hc2.trans (congrArg CloSt.notAfter hclo), ?_, fun _ => ⟨hc1, hs, ?_⟩, fun h1 => absurd h1 (by rw [hl]; decide)⟩
    · rw [State.rd_status, hrd _ debug_below (by decide)]
      exact hd
    · rw [State.rd_status, hrd _ dbgPlots_below (by decide)]
      exact hp
    · rw [State.mode, State.rd_status]
      exact hmode.trans hm
    · rw [State.rd_status]
      exact hsealed

/-- Settles O55: a tamper is logged before it acts, nothing but a lifecycle message or provisioning blows a fuse, and a rejection only counts. -/
theorem keysAndTamper : Obligations.KeysAndTamper := by
  refine ⟨?_, ?_, ?_, ?_, ?_, ?_, ?_, ?_, ?_, ?_, ?_, ?_, ?_, ?_, ?_, ?_, ?_, ?_, ?_, ?_, ?_, ?_⟩
  · intro s n d hn hkey hmode hret
    have hacts : (lcKeyed s && s.mode != mSEATING) = true := by
      rw [hkey, bne_iff_ne.mpr hmode]
      rfl
    have hexec := (exec_tamperDetect hn d).trans (congrArg Host.Outcome.next ((tamper_eq (.inl hret) n.val d.toNat).trans (if_pos hacts)))
    generalize (s.clo.ku.isSome || jobRunning s 6) = k at hexec
    obtain ⟨hlog, -⟩ := tamperLogged_log s (source := n.val) (by omega) d.toNat k
    obtain ⟨flags, hclo⟩ := tamperLogged_clo s n.val d.toNat k
    generalize tamperLogged s n.val d.toNat k = v at hexec hlog hclo
    obtain ⟨u, ⟨hm, hses, hu⟩, heq⟩ := quarantine_eq v
    rw [heq] at hexec
    refine ⟨_, hexec, ?_, ?_, ?_, ?_, ?_, hses, ?_, ?_, ?_, ?_, ?_⟩
    · rw [State.mode, State.rd_wr_ne _ _ (by decide), State.rd_wr_ne _ _ (by decide), State.rd_wr_ne _ _ (by decide)]
      exact hm
    · exact congrArg CloSt.keys hu
    · exact congrArg CloSt.root hu
    · exact congrArg CloSt.erase hu
    · refine (congrArg CloSt.latch hu).trans ?_
      rw [hclo, hkey]
      exact Bool.or_true _
    · rw [State.rd_wr_ne _ _ (by decide)]
      exact State.rd_wr_of_lt _ (Nat.lt_of_lt_of_eq Nat.one_lt_two rfl)
    · exact State.rd_wr_of_lt _ (Nat.lt_of_lt_of_eq Nat.one_lt_two rfl)
    · rw [State.rd_wr_ne _ _ (by decide), State.rd_wr_ne _ _ (by decide)]
      exact State.rd_wr_of_lt _ (Nat.two_pow_pos _)
    · refine (congrArg CloSt.fuses hu).trans ?_
      rw [hclo]
    · exact (congrArg (fun c : CloSt => c.log.head?.map fun e => byteNat e 0) hu).trans hlog
  · intro s n d hn hkey
    have hacts : (lcKeyed s && s.mode != mSEATING) = false := by rw [hkey, Bool.false_and]
    have hexec := (exec_tamperDetect hn d).trans (congrArg Host.Outcome.next ((tamper_eq (.inr hacts) n.val d.toNat).trans
      (if_neg (Bool.eq_false_iff.mp hacts))))
    generalize (s.clo.ku.isSome || jobRunning s 6) = k at hexec
    obtain ⟨hlog, htail⟩ := tamperLogged_log s (source := n.val) (by omega) d.toNat k
    obtain ⟨flags, hclo⟩ := tamperLogged_clo s n.val d.toNat k
    obtain ⟨hm, hmem, -⟩ := tamperLogged_keeps s n.val d.toNat k
    generalize tamperLogged s n.val d.toNat k = v at hexec hlog hclo htail hm hmem
    refine ⟨v, hexec, hm, ?_, ?_, ?_, hmem, hlog, htail⟩
    · rw [hclo]
    · rw [hclo]
    · rw [hclo, hkey]
      exact Bool.or_false _
  · intro s n d hn hkey hmode
    have hacts : (lcKeyed s && s.mode != mSEATING) = false := by
      rw [bne_eq_false_iff_eq.mpr hmode, Bool.and_false]
    have hexec := (exec_tamperDetect hn d).trans (congrArg Host.Outcome.next ((tamper_eq (.inr hacts) n.val d.toNat).trans
      (if_neg (Bool.eq_false_iff.mp hacts))))
    generalize (s.clo.ku.isSome || jobRunning s 6) = k at hexec
    obtain ⟨flags, hclo⟩ := tamperLogged_clo s n.val d.toNat k
    obtain ⟨hm, -, hret⟩ := tamperLogged_keeps s n.val d.toNat k
    generalize tamperLogged s n.val d.toNat k = v at hexec hclo hm hret
    refine ⟨v, hexec, hm.trans hmode, ?_, ?_, hret⟩
    · rw [hclo, hkey]
      exact Bool.or_true _
    · rw [hclo]
  · intro s d h
    refine congrArg Host.Outcome.next (if_pos ?_)
    rw [h]
    rfl
  · exact fun s h => congrArg Host.Outcome.next (if_neg (by rw [h]; decide))
  · exact fun s h => eraseDone_shows h
  · intro s r i hlive h
    exact ⟨_, next_hostWrite (ctrIncrement_refused h), hostWrite_refused r hlive (by decide)⟩
  · intro s r a b i hlive hr hi hno
    have hr' : r = .supervisor ∨ ∃ a b, r = .stitch a b true := hr.imp id fun h => ⟨a, b, h⟩
    have hi' : i.val = 2 ∨ (4 ≤ i.val ∧ i.val < 8) := hi.imp id fun h => ⟨h, i.isLt⟩
    by_cases hmax : 0xFFFFFFFF ≤ cloCtr s i
    · rw [if_pos hmax]
      exact ⟨_, next_hostWrite ((ctrIncrement_eq hr' hi').trans (if_pos hmax)), hostWrite_refused r hlive (by decide)⟩
    · have hf : (!flashOk s) = true := by rw [hno.resolve_left hmax]; rfl
      rw [if_neg hmax]
      exact ⟨_, next_hostWrite ((ctrIncrement_eq hr' hi').trans ((if_neg hmax).trans (if_pos hf))), hostWrite_refused r hlive (by decide)⟩
  · intro s r a b i hlive hr hi hlt hflash
    have hr' : r = .supervisor ∨ ∃ a b, r = .stitch a b true := hr.imp id fun h => ⟨a, b, h⟩
    have hi' : i.val = 2 ∨ (4 ≤ i.val ∧ i.val < 8) := hi.imp id fun h => ⟨h, i.isLt⟩
    have hf : ¬ (!flashOk s) = true := by rw [hflash]; decide
    have heq := (ctrIncrement_eq (s := s) hr' hi').trans ((if_neg (Nat.not_le.mpr hlt)).trans (if_neg hf))
    obtain ⟨hc, hreg, hdbg, hother⟩ := ctrSet_shows s i.val (cloCtr s i + 1) (by omega)
    obtain ⟨-, hkeys, -⟩ := ctrSet_clo s i.val (cloCtr s i + 1)
    exact ⟨_, (next_hostWrite heq).trans (congrArg Host.Outcome.next (hostWrite_ok r hlive rfl)), hc, hreg, rfl, hdbg, hkeys, hother⟩
  · intro s b ok e c h hf
    obtain ⟨t, ht, hresp, hflt, ⟨fails, hclo⟩, -, hregs⟩ := cloReject_shows hf (flt := F.CLO_FLT_LCM_REJ) (by decide) (by decide) (by decide) c
    have hexec : exec (.lifecycleMessage b ok e) s = .next t := by
      rw [← ht]
      simp only [exec, execLifecycleMessage, lifecycleMessage, h]
    refine ⟨t, hexec, hresp, hflt, hregs F.GIRTH_MODE_MODE (by decide), ?_, ?_, ?_⟩ <;> rw [hclo]
  · intro s b ok e h
    have hexec : exec (.lifecycleMessage b ok e) s = .next ((lcmEnd (lcmDo s b) b e).status 0) := by
      simp only [exec, execLifecycleMessage, lifecycleMessage, h]
      rfl
    have hfuses := (lcmEnd_fuses (lcmDo s b) b e).trans (lcmDo_fuses s b)
    generalize lcmEnd (lcmDo s b) b e = u at hexec hfuses
    exact ⟨_, hexec, rfl, hfuses⟩
  · intro s b ok e h hop
    have hexec : exec (.lifecycleMessage b ok e) s = .next ((lcmDo s b).status 0) := by
      simp only [exec, execLifecycleMessage, lifecycleMessage, h, hop]
    obtain ⟨hctr, hkeys, hst, hm⟩ := lcmDo_fielded (s := s) hop
    generalize lcmDo s b = u at hexec hctr hkeys hst hm
    refine ⟨_, hexec, hm, hst, ?_, hkeys⟩
    exact (congrArg (fun m : SMap Nat => m.get 1 0) hctr).trans (SMap.get_set_self ..)
  · intro s b e c h
    simp only [exec, execProvision, provision, h]
  · intro s b e h
    have hexec : exec (.provision b e) s = .next ((warmStart (provisionDo s b) 0x04 e.boot).status 0) := by
      simp only [exec, execProvision, provision, h]
    have hfuses := (warmStart_fuses (provisionDo s b) 0x04 e.boot).trans (provisionDo_fuses s b)
    generalize warmStart (provisionDo s b) 0x04 e.boot = u at hexec hfuses
    exact ⟨_, hexec, rfl, hfuses⟩
  · intro s b ok c h hf
    obtain ⟨t, ht, hresp, hflt, ⟨fails, hclo⟩, -, hregs⟩ := cloReject_shows hf (flt := F.CLO_FLT_TOKEN_REJ) (by decide) (by decide) (by decide) c
    have hexec : exec (.debugToken b ok) s = .next t := by
      rw [← ht]
      simp only [exec, execDebugToken, debugToken, h]
    exact ⟨t, hexec, hresp, hflt, hregs F.GIRTH_MODE_MODE (by decide), hregs F.CLO_STAT_DEBUG (by decide), by rw [hclo]⟩
  · exact debugToken_opens
  · intro s c h hf
    obtain ⟨t, ht, hresp, hflt, -, -, hregs⟩ := cloReject_shows hf (flt := F.CLO_FLT_TOKEN_REJ) (by decide) (by decide) (by decide) c
    have hexec : exec .awlOpen s = .next t := by
      rw [← ht]
      obtain ⟨hk, hc⟩ | ⟨hk, hc⟩ := h
      · simp only [exec, execAwlOpen, hk, hc, Bool.false_eq_true, if_false]
      · simp only [exec, execAwlOpen, hk, hc, if_true, beq_iff_eq]
    exact ⟨t, hexec, hresp, hflt, hregs F.GIRTH_MODE_MODE (by decide), hregs F.CLO_STAT_DEBUG (by decide)⟩
  · intro s hk h
    have hexec : exec .awlOpen s = .next ((s.wr F.CLO_STAT_DEBUG 2).status 0) := by
      simp only [exec, execAwlOpen, hk, h, Bool.false_eq_true, if_false]
    exact ⟨_, hexec, rfl, State.rd_wr_of_lt _ (by decide), fun f hf => State.rd_wr_ne _ _ (hf _ List.mem_cons_self)⟩
  · intro s e h
    have hno : (s.rdB F.CLO_STAT_KEYS_SEALED && ((debugSeal s).mode == mRUN || (debugSeal s).mode == mSERVICE)) = false := by
      rw [State.rdB, h]
      rfl
    have hexec : exec (.debugClose e) s = .next ((debugSeal s).status 0) :=
      congrArg (fun x : State => Host.Outcome.next (x.status 0)) (if_neg (Bool.eq_false_iff.mp hno))
    obtain ⟨hd, hp, hc, hregs⟩ := debugSeal_shows s
    generalize debugSeal s = u at hexec hd hp hc hregs
    exact ⟨_, hexec, rfl, congrArg CloSt.notAfter hc, hd, hp, hregs⟩
  · intro s h
    simp only [exec, execTokenExpiry, h]
  · intro s x h hx
    simp only [exec, execTokenExpiry, h, if_neg (Nat.not_le.mpr hx)]
  · intro s x h hx
    have hexec : exec .tokenExpiry s = .next (debugSeal s) := by
      simp only [exec, execTokenExpiry, h, if_pos hx]
    obtain ⟨hd, hp, hc, -⟩ := debugSeal_shows s
    exact ⟨_, hexec, congrArg CloSt.notAfter hc, hd, hp, by rw [hc]⟩

end Sys2Proof.Machine
end

section
/-! Graft (O56): the blocks of the spare bank, the service port, the end of an erase, the activation. -/

namespace Sys2Proof.Machine

/-! ## Banks -/

theorem setBank_grf (s : State) (b : Nat) (k : Bank) : (s.setBank b k).grf = { s.grf with banks := s.grf.banks.set b k } := rfl

theorem setBank_jobs (s : State) (b : Nat) (k : Bank) : (s.setBank b k).jobs = s.jobs := rfl

theorem bank_congr {s t : State} (h : t.grf = s.grf) (b : Nat) : t.bank b = s.bank b := congrArg (fun g : GraftSt => g.banks.get b {}) h

theorem bank_setBank_self (s : State) (b : Nat) (k : Bank) : (s.setBank b k).bank b = k := by
  rw [State.bank, setBank_grf]
  exact SMap.get_set_self ..

theorem bank_setBank_ne (s : State) {b c : Nat} (h : c ≠ b) (k : Bank) : (s.setBank b k).bank c = s.bank c := by
  rw [State.bank, setBank_grf]
  exact SMap.get_set_ne _ _ _ h

theorem spare_congr {s t : State} (h : t.grf.running = s.grf.running) : spare t = spare s := congrArg (1 - ·) h

theorem transferJob_congr {s t : State} (h : t.jobs = s.jobs) : transferJob t = transferJob s := by
  unfold transferJob jobOfKind
  have hj (j : Nat) : t.job j = s.job j := congrArg (fun m : SMap Job => m.get j {}) h
  simp only [hj]

/-- Every part but Graft's. -/
def grfless : Nat := partsMask (Part.allBut [.grf])

theorem jobTo_grf (s : State) (j st c : Nat) : (jobTo s j st c).grf = s.grf :=
  (jobTo_within (K := grfless) (by decide) (Within.refl _ s)).same .grf (by decide)

/-! ## Blocks -/

theorem blockWrite_refused {s : State} {o c : Nat} {d : List Byte} {b : Bool} (h : blockRefusal s o d b = some c) :
    blockWrite s o d b = (if c = 0x0611 then s.wr F.GRF_FLT_PROG_ERR 1 else s, c) := by
  simp only [blockWrite, h]

/-- What a block that passes its checks allows. -/
theorem blockRefusal_none {s : State} {o : Nat} {d : List Byte} {b : Bool} (h : blockRefusal s o d b = none) :
    (∃ j, transferJob s = some j) ∧ (s.bank (spare s)).state = 2 := by
  unfold blockRefusal at h
  extract_lets k e len endOk old at h
  split at h
  case isTrue => exact absurd h (Option.some_ne_none _)
  case isFalse hj =>
    split at h
    case isTrue => exact absurd h (Option.some_ne_none _)
    case isFalse hk =>
      refine ⟨?_, not_not.mp hk⟩
      cases hj' : transferJob s with
      | none => exact absurd (by rw [hj']; rfl) hj
      | some j => exact ⟨j, rfl⟩

/-- A block of one page is that page. -/
theorem blockPages_page (n p : Nat) {d : List Byte} (h : d.length = 4096) : blockPages (n + 2) p d = [(p, d)] := by
  have hd : d.isEmpty = false := by
    cases d with
    | nil => exact absurd h (by decide)
    | cons x l => rfl
  have ht : d.take 4096 = d := List.take_of_length_le (by omega)
  have hr : d.drop 4096 = [] := List.drop_of_length_le (by omega)
  rw [blockPages, hd, ht, hr, h, blockPages]
  simp

/-- The transfer's check at its last page leaves the bank as it is, complete, or empty. -/
theorem transferCheck_shows (s : State) (j : Nat) : (transferCheck s j).grf.running = s.grf.running ∧
    (transferCheck s j).grf.pref = s.grf.pref ∧
    ((transferCheck s j).bank (spare s) = s.bank (spare s) ∨ (transferCheck s j).bank (spare s) = { s.bank (spare s) with state := 3 } ∨
      (transferCheck s j).bank (spare s) = {}) := by
  unfold transferCheck
  extract_lets b k done
  have hbank (t : State) (i st c : Nat) : (jobTo t i st c).bank b = t.bank b := bank_congr (jobTo_grf t i st c) b
  split
  · exact ⟨rfl, rfl, .inl rfl⟩
  · split
    · rw [jobTo_grf, setBank_grf, hbank, bank_setBank_self]
      exact ⟨rfl, rfl, .inr (.inl rfl)⟩
    · rw [jobTo_grf, setBank_grf, hbank, bank_setBank_self]
      exact ⟨rfl, rfl, .inr (.inr rfl)⟩

/-- The pages of the spare bank with those of a block. -/
def blockAdded (s : State) (o : Nat) (d : List Byte) : SMap (List Byte) :=
  (blockPages 17 (o / 4096) d).foldl (fun m p => SMap.set m p.1 p.2) (s.bank (spare s)).pages

/-- The block in the spare bank. -/
def blockPut (s : State) (o : Nat) (d : List Byte) : State := s.setBank (spare s) { s.bank (spare s) with pages := blockAdded s o d }

/-- The progress of the transfer after a block in bank `b`. -/
def blockCounted (s : State) (b j : Nat) : State :=
  let k := s.bank b
  let prog := if k.header.isSome then min 1000 (1000 * k.pages.length / max 1 k.need) else 0
  s.setJob j { s.job j with progress := prog }

/-- A block that passes is answered 0: its pages are in the spare bank, unless that, now complete, has failed its form. -/
theorem blockWrite_accepted {s : State} {o : Nat} {d : List Byte} {b : Bool} (h : blockRefusal s o d b = none) :
    ∃ t, blockWrite s o d b = (t, 0) ∧ t.grf.running = s.grf.running ∧ t.grf.pref = s.grf.pref ∧
      ((t.bank (spare s)).state ≠ 0 → (t.bank (spare s)).state ≤ 3 ∧ (t.bank (spare s)).pages = blockAdded s o d) := by
  obtain ⟨⟨j, hj⟩, hk⟩ := blockRefusal_none h
  have hju : transferJob (blockPut s o d) = some j := (transferJob_congr (setBank_jobs s _ _)).trans hj
  have heq : blockWrite s o d b = (transferCheck (blockCounted (blockPut s o d) (spare s) j) j, 0) := by
    unfold blockWrite
    rw [h]
    dsimp only
    change (match transferJob (blockPut s o d) with | none => (blockPut s o d, 0) | some j => _) = _
    rw [hju]
    rfl
  have hv : (blockCounted (blockPut s o d) (spare s) j).bank (spare s) = { s.bank (spare s) with pages := blockAdded s o d } := bank_setBank_self s _ _
  have hg : (blockCounted (blockPut s o d) (spare s) j).grf.running = s.grf.running ∧
    (blockCounted (blockPut s o d) (spare s) j).grf.pref = s.grf.pref := ⟨rfl, rfl⟩
  generalize blockCounted (blockPut s o d) (spare s) j = v at heq hv hg
  obtain ⟨hr, hp, hb⟩ := transferCheck_shows v j
  rw [spare_congr hg.1, hv] at hb
  refine ⟨_, heq, hr.trans hg.1, hp.trans hg.2, fun hne => ?_⟩
  obtain hb | hb | hb := hb
  · rw [hb]
    exact ⟨by rw [hk]; decide, rfl⟩
  · rw [hb]
    exact ⟨Nat.le_refl 3, rfl⟩
  · rw [hb] at hne
    exact absurd rfl hne

/-! ## The bank-select record through a start

No start writes PREF or TRIAL of the record. -/

/-- What the bank-select record says: PREF and TRIAL. -/
def bankRecord (s : State) : Nat × Bool := (s.grf.pref, s.grf.trial)

theorem bankRecord_congr {s t : State} (h : t.grf = s.grf) : bankRecord t = bankRecord s := congrArg (fun g : GraftSt => (g.pref, g.trial)) h

theorem setBank_record (s : State) (b : Nat) (k : Bank) : bankRecord (s.setBank b k) = bankRecord s := by
  unfold bankRecord
  rw [setBank_grf]

theorem jobsRestart_record (s : State) : bankRecord (jobsRestart s) = bankRecord s := by
  unfold jobsRestart
  extract_lets late a c0 g0 b
  have ha : bankRecord a = bankRecord s := forN_keeps bankRecord (fun j _ u => by
    dsimp only
    split
    · rfl
    · split
      · rfl
      · split
        · exact bankRecord_congr (jobTo_grf u j 4 0)
        · exact bankRecord_congr (jobTo_grf u j 5 0x0705)) _
  clear_value a
  have hb : bankRecord b = bankRecord a := rfl
  clear_value b
  refine (forN_keeps bankRecord (fun j _ u => ?_) _).trans (hb.trans ha)
  dsimp only
  split <;> rfl

theorem startReset_record (s : State) (cold : Bool) : bankRecord (startReset s cold) = bankRecord s := by
  have hstop : (strStop s).grf = s.grf := (strStop_within (K := grfless) (by decide) (Within.refl _ s)).same .grf (by decide)
  unfold startReset
  extract_lets a b c d f g h
  have ha : bankRecord a = bankRecord s := by
    simp only [a]
    rw [jobsRestart_record, bankRecord_congr hstop]
  clear_value a
  have hb : b.grf = a.grf := (resetCore_within (K := grfless) (by decide) (resetSafe_within (K := grfless) (by decide)
    (slsDown_within (K := grfless) (by decide) (Within.refl _ a)))).same .grf (by decide)
  clear_value b
  have hf : bankRecord f = bankRecord b := by
    simp only [f]
    split <;> rfl
  clear_value f
  have hg : g.grf = f.grf := (railsTo_within (K := grfless) (by decide) (Within.refl _ f)).same .grf (by decide)
  clear_value g
  have hh : h.grf = g.grf := by
    simp only [h]
    split
    · exact (pd1Reset_within (K := grfless) (by decide) (Within.refl _ g)).same .grf (by decide)
    · rfl
  clear_value h
  change bankRecord h = bankRecord s
  rw [bankRecord_congr hh, bankRecord_congr hg, hf, bankRecord_congr hb, ha]

theorem bankSelect_record (s : State) (c0 c1 : BankCheck) : bankRecord (bankSelect s c0 c1).1 = bankRecord s := by
  have hsync (t : State) : bankRecord (grfSync t) = bankRecord t :=
    bankRecord_congr ((grfSync_within (K := grfless) (by decide) (Within.refl _ t)).same .grf (by decide))
  have hfail (t : State) (b step code : Nat) : bankRecord (bankFail t b step code) = bankRecord t :=
    (bankRecord_congr (s := t.setBank b { t.bank b with state := 5 }) rfl).trans (setBank_record ..)
  unfold bankSelect
  extract_lets chk p
  split
  · exact hsync _
  · dsimp only
    generalize hu : bankFail s p _ _ = u
    have hu' : bankRecord u = bankRecord s := by rw [← hu, hfail]
    split
    · exact (hsync _).trans hu'
    · exact (hfail _ _ _ _).trans hu'

theorem settingsFormat_record (s : State) : bankRecord (settingsFormat s) = bankRecord s := by
  unfold settingsFormat
  extract_lets a0 a b old
  have ha : bankRecord a = bankRecord s := by
    simp only [a]
    split <;> rfl
  clear_value a
  have hb : bankRecord b = bankRecord a := rfl
  clear_value b
  split
  · rw [hb, ha]
  · exact hb.trans ha

theorem bootRom_record (s : State) (cold : Bool) (e : BootCheck) : bankRecord (bootRom s cold e) = bankRecord s := by
  have hshow (t : State) : (romShow t e).grf = t.grf := (romShow_within (K := grfless) (by decide) (Within.refl _ t)).same .grf (by decide)
  unfold bootRom
  split
  · exact bankRecord_congr (((romQuarantine_within (K := grfless) (by decide) (Within.refl _ _)).same .grf (by decide)).trans (hshow s))
  · extract_lets a b c d f g
    have ha : a.grf = s.grf := by
      simp only [a]
      split
      · exact (rootRegenerate_within (K := grfless) (by decide) (Within.refl _ s)).same .grf (by decide)
      · rfl
    have hb : b.grf = a.grf := hshow a
    clear_value a b
    have hc : c.grf = b.grf := rfl
    clear_value c
    have hd : d.grf = c.grf := by
      simp only [d]
      split <;> rfl
    clear_value d
    have hf : f.grf = d.grf := (loadSlots_within (K := grfless) (by decide) (debugSeal_within (K := grfless) (by decide)
      (Within.refl _ (d.wr F.CLO_STAT_KEYS_SEALED 0)))).same .grf (by decide)
    clear_value f
    have hstart : bankRecord f = bankRecord s := bankRecord_congr (hf.trans (hd.trans (hc.trans (hb.trans ha))))
    split
    · exact (bankRecord_congr ((tamper_within (K := grfless) (by decide) (romRelease_within (K := grfless) (by decide)
        (Within.refl _ f))).same .grf (by decide))).trans hstart
    · have hg : bankRecord g = bankRecord f := by
        simp only [g]
        split <;> rfl
      clear_value g
      have hsel := bankSelect_record g e.bank0 e.bank1
      split
      rename_i x ok heq
      rw [heq] at hsel
      have hx : bankRecord x = bankRecord s := hsel.trans (hg.trans hstart)
      split
      · exact (bankRecord_congr ((enterHold_within (K := grfless) (by decide) (Within.refl _ x)).same .grf (by decide))).trans hx
      · have hm : (microcodeLoad x).grf = x.grf := (microcodeLoad_within (K := grfless) (by decide) (Within.refl _ x)).same .grf (by decide)
        rw [bankRecord_congr ((enginesStart_within (K := grfless) (by decide) (settingsLoad_within (K := grfless) (by decide)
          (Within.refl _ (settingsFormat (microcodeLoad x))))).same .grf (by decide)), settingsFormat_record, bankRecord_congr hm, hx]

theorem warmStart_record (s : State) (cause : Nat) (e : BootCheck) : bankRecord (warmStart s cause e) = bankRecord s := by
  have hrestart (t : State) : bankRecord (restart t false cause e) = bankRecord t := by
    unfold restart bootEnter
    extract_lets g u
    have hu : u.grf = t.grf := rfl
    clear_value u
    rw [bootRom_record, bankRecord_congr ((setMode_within (K := grfless) (by decide) (by decide) (Within.refl _ _)).same .grf (by decide)),
      startReset_record]
    exact bankRecord_congr hu
  have hend : (serviceEnd s).grf = s.grf := (serviceEnd_within (K := grfless) (by decide) (Within.refl _ s)).same .grf (by decide)
  unfold warmStart
  rw [hrestart]
  split
  · exact bankRecord_congr (((holdStart_within (K := grfless) (by decide) (Within.refl _ (serviceEnd s))).same .grf (by decide)).trans hend)
  · exact bankRecord_congr hend

/-! ## The service port -/

/-- The modes in which the service port takes transfers. -/
theorem svc_on {s : State} (h : s.mode ∈ [mBOOT, mRUN, mSERVICE, mHANDOFF, mHOLD]) :
    (s.mode == 0 || s.mode == mSEATING || s.mode == mDORMANCY || s.mode == mQUARANTINE) = false := by
  generalize s.mode = m at h ⊢
  simp only [List.mem_cons, List.not_mem_nil, or_false] at h
  obtain rfl | rfl | rfl | rfl | rfl := h <;> decide

theorem exec_svcBlock_off {s : State} {d : List Byte} {b : Bool} (h : (s.mode == 0 || s.mode == mSEATING || s.mode == mDORMANCY || s.mode == mQUARANTINE) = true ∨
    s.grf.vbus = false) : exec (.svcBlock d b) s = .next s := by
  refine congrArg Host.Outcome.next (if_pos ?_)
  obtain h | h := h
  · rw [h]
    rfl
  · rw [h]
    simp

/-- A block that the port takes: no transfer, or one that the port feeds. -/
theorem exec_svcBlock_on {s : State} {d : List Byte} (b : Bool) (hv : s.grf.vbus = true) (hm : s.mode ∈ [mBOOT, mRUN, mSERVICE, mHANDOFF, mHOLD])
    (hj : ∀ j, transferJob s = some j → (s.job j).par.getD 0 0 % 2 = 1) :
    exec (.svcBlock d b) s = .next (if numIn d 0 4 ≠ 0x4B4C4247 ∨ numIn d 8 4 ≠ (d.drop 16).length ∨
        (crc32From 0xFFFFFFFF (d.drop 16)) ^^^ 0xFFFFFFFF ≠ numIn d 12 4 then
      if (transferJob s).isNone then s.emit (.svcStatus (numIn d 4 4) 0x0303) else s.emit (.svcStatus (numIn d 4 4) 0x0101)
    else (blockWrite s (numIn d 4 4) (d.drop 16) b).1.emit (.svcStatus (numIn d 4 4) (blockWrite s (numIn d 4 4) (d.drop 16) b).2)) := by
  refine congrArg Host.Outcome.next (if_neg ?_)
  rw [svc_on hm, hv]
  cases ht : transferJob s with
  | none => simp
  | some j =>
    dsimp only
    rw [hj j ht]
    decide

theorem blockRefusal_noJob {s : State} (h : transferJob s = none) (o : Nat) (d : List Byte) (b : Bool) : blockRefusal s o d b = some 0x0303 := by
  unfold blockRefusal
  rw [h]
  rfl

/-- The end of an erase that runs, whatever follows. -/
def erasedBank (s : State) : State := (s.setBank (spare s) { state := 2 }).wr F.GRF_STAT_BUSY 0

theorem erasedBank_shows (s : State) : (erasedBank s).bank (spare s) = { state := 2 } ∧ (erasedBank s).rd F.GRF_STAT_BUSY = 0 ∧
    (erasedBank s).jobs = s.jobs ∧
    (erasedBank s).bank s.grf.running = (if s.grf.running = spare s then { state := 2 } else s.bank s.grf.running) := by
  have hbank (b : Nat) : (erasedBank s).bank b = (s.setBank (spare s) { state := 2 }).bank b := bank_congr rfl b
  refine ⟨(hbank _).trans (bank_setBank_self ..), State.rd_wr_of_lt _ (Nat.two_pow_pos _), rfl, ?_⟩
  rw [hbank]
  split
  case isTrue h => rw [h, bank_setBank_self]
  case isFalse h => exact bank_setBank_ne s h _

/-! ## The activation -/

/-- Is the partner in RUN and not activating before this module? -/
def partnerFree (s : State) : Bool := s.partner.alive && s.partner.mode == mRUN && !(s.partner.activating && s.rdB F.SEAT_STAT_SIDE)

/-- The record of an activation: its bank preferred, on trial. -/
def preferred (s : State) (b : Nat) : State := { s with grf := { s.grf with pref := b, trial := true } }

/-- An activation that is due. -/
theorem exec_activationProceed {s : State} (e : Envt) {j : Nat} (ha : s.grf.act = some j) (hk : (s.job j).kind = 2) (hst : (s.job j).state = 2)
    (hm : s.mode = mRUN ∨ s.mode = mSERVICE) (hf : flashOk s = true) : exec (.activationProceed e) s =
    .next (if s.girth.spanMember && !partnerFree s then jobTo { s with grf := { s.grf with act := none } } j 5 0x0303
      else warmStart (grfSync (preferred s ((s.job j).par.getD 0 0 % 2))) 0x0F e.boot) := by
  have hno : ¬ ((s.job j).kind ≠ 2 ∨ (s.job j).state ≠ 2 ∨ (!(s.mode == mRUN || s.mode == mSERVICE)) = true ∨ (!flashOk s) = true) := by
    have hm' : (s.mode == mRUN || s.mode == mSERVICE) = true := by
      obtain hm | hm := hm <;> rw [hm] <;> rfl
    rw [hk, hst, hm', hf]
    decide
  have hexec : exec (.activationProceed e) s = execActivationProceed e s := rfl
  rw [hexec, execActivationProceed, ha]
  unfold partnerFree preferred
  exact congrArg Host.Outcome.next (if_neg hno)

/-- Settles O56: a block changes the spare bank alone, and the record of the activation stands through the start that follows. -/
theorem firmwareBanks : Obligations.FirmwareBanks := by
  refine ⟨?_, ?_, ?_, ?_, ?_, ?_, ?_, ?_, ?_, ?_, ?_, ?_, ?_, ?_, ?_, ?_⟩
  · exact fun s d b h => congrArg Host.Outcome.next (if_pos h)
  · intro s d b c hlen h
    have hexec : exec (.graftBlockWrite d b) s = .next ((if c = 0x0611 then s.wr F.GRF_FLT_PROG_ERR 1 else s).status c) := by
      simp only [exec, execGraftBlockWrite, if_neg (Nat.not_lt.mpr hlen), blockWrite_refused h]
    by_cases hc : c = 0x0611
    · rw [if_pos hc] at hexec
      rw [if_pos hc]
      exact ⟨_, hexec, rfl, rfl, rfl, fun f hf => State.rd_wr_ne _ _ (hf _ List.mem_cons_self)⟩
    · rw [if_neg hc] at hexec
      rw [if_neg hc]
      exact ⟨_, hexec, rfl, rfl, rfl, fun f _ => rfl⟩
  · intro s d b hlen h
    obtain ⟨t, ht, -, -, hbank⟩ := blockWrite_accepted h
    have hexec : exec (.graftBlockWrite d b) s = .next (t.status 0) := by
      simp only [exec, execGraftBlockWrite, if_neg (show ¬ 65536 < d.length by omega), ht]
    refine ⟨_, hexec, rfl, fun hne => ?_⟩
    obtain ⟨hle, hpages⟩ := hbank hne
    refine ⟨?_, hle⟩
    have hadd : blockAdded s (s.obj 0xB018 1 0) d = (s.bank (spare s)).pages.set (s.obj 0xB018 1 0 / 4096) d := by
      rw [blockAdded, blockPages_page 15 _ hlen]
      rfl
    rw [hadd] at hpages
    exact (congrArg (fun m : SMap (List Byte) => m.find? (s.obj 0xB018 1 0 / 4096)) hpages).trans (SMap.find?_set_self ..)
  · intro s d b h
    refine exec_svcBlock_off ?_
    obtain h | h | h | h := h
    · exact .inr h
    · exact .inl (by rw [h]; rfl)
    · exact .inl (by rw [h]; rfl)
    · exact .inl (by rw [h]; rfl)
  · intro s d b j hj h
    refine congrArg Host.Outcome.next (if_pos ?_)
    rw [hj]
    dsimp only
    rw [h]
    exact Bool.or_true _
  · intro s d b hv hm hj
    have hexec := exec_svcBlock_on (d := d) b hv hm (fun j h => absurd (hj.symm.trans h) (Option.some_ne_none _).symm)
    rw [blockWrite_refused (blockRefusal_noJob hj _ _ _), hj] at hexec
    exact hexec.trans (congrArg Host.Outcome.next (ite_self _))
  · intro s d b j hv hm hj hp hbad
    have hexec := exec_svcBlock_on (d := d) b hv hm (fun i h => by rw [Option.some.inj (h.symm.trans hj)]; exact hp)
    have hbad' : numIn d 0 4 ≠ 0x4B4C4247 ∨ numIn d 8 4 ≠ (d.drop 16).length ∨
        (crc32From 0xFFFFFFFF (d.drop 16)) ^^^ 0xFFFFFFFF ≠ numIn d 12 4 := hbad.imp id .inl
    rw [if_pos hbad', hj] at hexec
    exact hexec
  · intro s d b j c hv hm hj hp h0 h8 hcrc hr hc
    have hexec := exec_svcBlock_on (d := d) b hv hm (fun i h => by rw [Option.some.inj (h.symm.trans hj)]; exact hp)
    rw [if_neg (by rw [h0, h8, hcrc]; simp), blockWrite_refused hr, if_neg hc] at hexec
    exact hexec
  · intro s d b j hv hm hj hp h0 h8 hcrc hr
    have hexec := exec_svcBlock_on (d := d) b hv hm (fun i h => by rw [Option.some.inj (h.symm.trans hj)]; exact hp)
    obtain ⟨t, ht, hrun, hpref, -⟩ := blockWrite_accepted hr
    rw [if_neg (by rw [h0, h8, hcrc]; simp), ht] at hexec
    exact ⟨_, hexec, List.mem_append_right _ List.mem_cons_self, hrun, hpref⟩
  · exact fun s b h => congrArg Host.Outcome.next (if_pos h)
  · intro s h
    have hexec : exec (.bankEraseDone true) s = .next (erasedBank s) := congrArg Host.Outcome.next ((if_neg (not_not.mpr h)).trans (if_pos rfl))
    exact ⟨_, hexec, erasedBank_shows s⟩
  · intro s j h hj
    obtain ⟨hbank, -, hjobs, -⟩ := erasedBank_shows s
    have hj' : transferJob ((erasedBank s).wr F.GRF_FLT_ERASE_ERR 1) = some j := (transferJob_congr hjobs).trans hj
    have hexec : exec (.bankEraseDone false) s = .next (jobTo ((erasedBank s).wr F.GRF_FLT_ERASE_ERR 1) j 5 0x0611) := by
      refine congrArg Host.Outcome.next ((if_neg (not_not.mpr h)).trans ((if_neg Bool.false_ne_true).trans ?_))
      change (match transferJob ((erasedBank s).wr F.GRF_FLT_ERASE_ERR 1) with | some j => _ | none => _) = _
      rw [hj']
      rfl
    have hgrf := jobTo_grf ((erasedBank s).wr F.GRF_FLT_ERASE_ERR 1) j 5 0x0611
    obtain ⟨hst, hres⟩ := jobTo_result ((erasedBank s).wr F.GRF_FLT_ERASE_ERR 1) j 5 0x0611
    have hw := jobTo_within (K := partsMask (Part.allBut [.rGraft])) (a2 := j) (a3 := 5) (a4 := 0x0611) (by decide)
      (Within.refl _ ((erasedBank s).wr F.GRF_FLT_ERASE_ERR 1))
    have herr := (hw.rd_eq (f := F.GRF_FLT_ERASE_ERR) (i := 58) (by unfold Blk; decide) (by decide) (by decide)).trans
      (State.rd_wr_of_lt _ (Nat.lt_of_lt_of_eq Nat.one_lt_two rfl))
    exact ⟨_, hexec, (bank_congr hgrf _).trans hbank, herr, hst, hres⟩
  · intro s e h
    simp only [exec, execActivationProceed, h]
  · intro s e j ha h
    simp only [exec, execActivationProceed, ha]
    refine congrArg Host.Outcome.next (if_pos ?_)
    obtain h | h | ⟨h, h'⟩ | h := h
    · exact .inl h
    · exact .inr (.inl h)
    · exact .inr (.inr (.inl (by rw [beq_eq_false_iff_ne.mpr h, beq_eq_false_iff_ne.mpr h']; rfl)))
    · exact .inr (.inr (.inr (by rw [h]; rfl)))
  · intro s e j ha hk hst hm hf hspan hpart
    have hfree : partnerFree s = false := by
      unfold partnerFree
      obtain h | h | ⟨h, h'⟩ := hpart
      · rw [h, Bool.false_and, Bool.false_and]
      · rw [beq_eq_false_iff_ne.mpr h, Bool.and_false, Bool.false_and]
      · rw [h, show s.rdB F.SEAT_STAT_SIDE = true by rw [State.rdB, h']; rfl]
        exact Bool.and_false _
    have hexec := exec_activationProceed e ha hk hst hm hf
    rw [if_pos (by rw [hspan, hfree]; rfl)] at hexec
    obtain ⟨hjs, hjr⟩ := jobTo_result { s with grf := { s.grf with act := none } } j 5 0x0303
    have hmode := (jobTo_within (K := modelessMask) (a2 := j) (a3 := 5) (a4 := 0x0303) (by decide)
      (Within.refl _ { s with grf := { s.grf with act := none } })).mode_eq (by decide)
    exact ⟨_, hexec, jobTo_grf _ j 5 0x0303, hjs, hjr, hmode⟩
  · intro s e j ha hk hst hm hf hspan
    have hexec := exec_activationProceed e ha hk hst hm hf
    rw [if_neg (by rw [hspan, Bool.false_and]; decide)] at hexec
    have hrec := warmStart_record (grfSync (preferred s ((s.job j).par.getD 0 0 % 2))) 0x0F e.boot
    have hsync := bankRecord_congr ((grfSync_within (K := grfless) (by decide)
      (Within.refl _ (preferred s ((s.job j).par.getD 0 0 % 2)))).same .grf (by decide))
    have hset : bankRecord (preferred s ((s.job j).par.getD 0 0 % 2)) = ((s.job j).par.getD 0 0 % 2, true) := rfl
    generalize warmStart _ 0x0F e.boot = u at hexec hrec
    have hall := hrec.trans (hsync.trans hset)
    exact ⟨u, hexec, congrArg Prod.fst hall, congrArg Prod.snd hall⟩

end Sys2Proof.Machine
end

section
/-! The signal gateway of Bridle (O49). -/

namespace Sys2Proof.Machine

/-- A map made over a range of keys holds the value made for each of them. -/
theorem find?_map_of_mem {α : Type} (f : Nat → α) {l : List Nat} {k : Nat} (h : k ∈ l) :
    SMap.find? (l.map fun n => (n, f n)) k = some (f k) := by
  induction l with
  | nil => exact absurd h List.not_mem_nil
  | cons n l ih =>
    rw [List.map_cons, SMap.find?]
    split
    case isTrue heq => rw [heq]
    case isFalse hne => exact ih ((List.mem_cons.mp h).resolve_left hne)

/-- What the check of the staged tables writes. -/
theorem gwCommit_faulty {s : State} {k kind reason : Nat} (h : gwFault s (gwStaged s) = some (k, kind, reason)) :
    gwCommit s = (((s.wr F.GW_ERR_INDEX k).wr F.GW_ERR_KIND kind).wr F.GW_ERR_REASON reason).status 0x0309 := by
  simp only [gwCommit, h]

/-- The tables wait for the next boundary. -/
def gwPending (s : State) : State :=
  let t := gwStaged s
  let s := ((s.wr F.GW_ERR_INDEX 0x7F).wr F.GW_ERR_KIND 0).wr F.GW_ERR_REASON 0
  State.wr { s with gw := { s.gw with pend := some t } } F.GW_STAT_PEND 1

theorem gwCommit_sound {s : State} (h : gwFault s (gwStaged s) = none) : gwCommit s = (gwPending s).status 0 := by
  simp only [gwCommit, h]
  rfl

theorem gwPending_shows (s : State) : (gwPending s).gw = { s.gw with pend := some (gwStaged s) } ∧ (gwPending s).rd F.GW_STAT_PEND = 1 ∧
    (gwPending s).rd F.GW_ERR_INDEX = 0x7F ∧ s.RegsBut (gwPending s) [F.GW_ERR_INDEX, F.GW_ERR_KIND, F.GW_ERR_REASON, F.GW_STAT_PEND] := by
  let u := ((s.wr F.GW_ERR_INDEX 0x7F).wr F.GW_ERR_KIND 0).wr F.GW_ERR_REASON 0
  have hu : u.rd F.GW_ERR_INDEX = 0x7F := by
    simp only [u]
    rw [State.rd_wr_ne _ _ (by decide), State.rd_wr_ne _ _ (by decide)]
    exact State.rd_wr_of_lt _ (by decide)
  have hregs : s.RegsBut u [F.GW_ERR_INDEX, F.GW_ERR_KIND, F.GW_ERR_REASON, F.GW_STAT_PEND] :=
    ((((State.OnlyRegs.refl s _).wr (g := F.GW_ERR_INDEX) (by simp) _).wr (g := F.GW_ERR_KIND) (by simp) _).wr (g := F.GW_ERR_REASON) (by simp) _).regs
  have heq : gwPending s = State.wr { u with gw := { s.gw with pend := some (gwStaged s) } } F.GW_STAT_PEND 1 := rfl
  rw [heq]
  clear_value u
  refine ⟨rfl, State.rd_wr_of_lt _ (Nat.lt_of_lt_of_eq Nat.one_lt_two rfl), ?_, fun f hf => ?_⟩
  · rw [State.rd_wr_ne _ _ (by decide)]
    exact hu
  · rw [State.rd_wr_ne _ _ (hf _ (by simp))]
    exact hregs f hf

/-- The data of destination `d` when a table becomes active: FILL with the SUBST values. -/
def gwFilled (p : GwTable) (d : Nat) : List Byte :=
  (p.sigs.filter fun y => y.en && y.dst == d).foldl (fun b y => putBits b y.dbits (y.raw % 2 ^ y.dlen))
    (List.replicate (p.dsts.getD d {}).bytes (BitVec.ofNat 8 (p.dsts.getD d {}).fill))

/-- The committed tables in force. -/
def gwActivated (s : State) (p : GwTable) : State :=
  { s with gw := { active := p, dsts := (List.range 32).map fun d => (d, ({ data := gwFilled p d, periodAt := s.now } : GwDstSt)) } }

theorem exec_gwTableActivate {s : State} {p : GwTable} (h : s.gw.pend = some p) :
    exec .gwTableActivate s = .next (((gwActivated s p).wr F.GW_STAT_ACTIVE 1).wr F.GW_STAT_PEND 0) := by
  have hexec : exec .gwTableActivate s = execGwTableActivate s := rfl
  rw [hexec, execGwTableActivate, h]
  rfl

theorem periodDue_iff (s : State) (d : Nat) : periodDue s d = true ↔ (s.gw.active.dsts.getD d {}).en = true ∧
    2 ≤ (s.gw.active.dsts.getD d {}).mode ∧ (gwDstSt s d).periodAt + 80000 * (s.gw.active.dsts.getD d {}).period ≤ s.now := by
  simp only [periodDue, Bool.and_eq_true, decide_eq_true_eq, and_assoc]

/-- Does source entry `f` time out in this tick? -/
def gwLate (s : State) (f : Nat) : Bool :=
  !((s.gw.srcs.get f {}).timeout || !(s.gw.active.srcs.getD f {}).en || (s.gw.active.srcs.getD f {}).tmo == 0 ||
    decide (s.now < (s.gw.srcs.get f {}).matchAt + 80000 * (s.gw.active.srcs.getD f {}).tmo))

theorem gwLate_iff (s : State) (f : Nat) : gwLate s f = true ↔ (s.gw.srcs.get f {}).timeout = false ∧ (s.gw.active.srcs.getD f {}).en = true ∧
    (s.gw.active.srcs.getD f {}).tmo ≠ 0 ∧ (s.gw.srcs.get f {}).matchAt + 80000 * (s.gw.active.srcs.getD f {}).tmo ≤ s.now := by
  simp only [gwLate, Bool.not_eq_true', Bool.or_eq_false_iff, Bool.not_eq_false', beq_eq_false_iff_ne, decide_eq_false_iff_not, Nat.not_lt, and_assoc]

/-- Settles O49: a commit checks and waits, an activation takes over what waits, and each timer acts when it has run out. -/
theorem signalGateway : Obligations.SignalGateway := by
  refine ⟨?_, ?_, ?_, ?_, ?_, ?_, ?_, ?_, ?_, ?_, ?_⟩
  · intro s r hlive hr
    exact next_hostWrite_status hlive (by decide) (if_neg (by rw [hr]; decide)) (by decide)
  · intro s r k kind reason hlive hr h hk hkind hreason
    have hexec : exec (.gwCommit r) s = .next _ :=
      next_hostWrite_status hlive (by decide) ((if_pos hr).trans (gwCommit_faulty h)) (by decide)
    refine ⟨_, hexec, rfl, ?_, ?_, State.rd_wr_of_lt _ hreason, rfl, ?_⟩
    · rw [State.rd_status, State.rd_wr_ne _ _ (by decide), State.rd_wr_ne _ _ (by decide)]
      exact State.rd_wr_of_lt _ hk
    · rw [State.rd_status, State.rd_wr_ne _ _ (by decide)]
      exact State.rd_wr_of_lt _ hkind
    · exact ((((State.OnlyRegs.refl s _).wr (g := F.GW_ERR_INDEX) (by simp) _).wr (g := F.GW_ERR_KIND) (by simp) _).wr
        (g := F.GW_ERR_REASON) (by simp) _).regs
  · intro s r hlive hr h
    have hexec : exec (.gwCommit r) s = .next ((gwPending s).status 0) :=
      next_hostWrite_status hlive (by decide) ((if_pos hr).trans (gwCommit_sound h)) (by decide)
    obtain ⟨hgw, hp, he, hregs⟩ := gwPending_shows s
    generalize gwPending s = u at hexec hgw hp he hregs
    exact ⟨_, hexec, rfl, hgw, hp, he, hregs⟩
  · intro s h
    simp only [exec, execGwTableActivate, h]
  · intro s p h
    have hexec := exec_gwTableActivate h
    refine ⟨_, hexec, rfl, rfl, rfl, ?_, State.rd_wr_of_lt _ (Nat.two_pow_pos _), ?_, fun d hd => ?_⟩
    · rw [State.rd_wr_ne _ _ (by decide)]
      exact State.rd_wr_of_lt _ (Nat.lt_of_lt_of_eq Nat.one_lt_two rfl)
    · exact (((State.OnlyRegs.refl (gwActivated s p) _).wr (g := F.GW_STAT_ACTIVE) (by simp) _).wr (g := F.GW_STAT_PEND) (by simp) _).regs
    · have hfind := find?_map_of_mem (fun d => ({ data := gwFilled p d, periodAt := s.now } : GwDstSt)) (List.mem_range.mpr hd)
      exact congrArg (fun x : Option GwDstSt => (x.getD {}).data) hfind
  · intro s d h
    have hno : ¬ periodDue s d = true := by
      rw [periodDue_iff]
      rintro ⟨he, hm, hp⟩
      obtain h | h | h := h
      · exact absurd (he.symm.trans h) (by decide)
      · exact absurd hm (Nat.not_le.mpr h)
      · exact absurd hp (Nat.not_le.mpr h)
    exact congrArg Host.Outcome.next (if_neg hno)
  · intro s d he hm hp
    exact congrArg Host.Outcome.next (if_pos ((periodDue_iff s d).mpr ⟨he, hm, hp⟩))
  · intro s d h
    have hno : ((gwDstSt s d).deferred && !inhibited s d) = false := by
      obtain h | h := h
      · rw [h, Bool.false_and]
      · rw [h]
        exact Bool.and_false _
    exact congrArg Host.Outcome.next (if_neg (Bool.eq_false_iff.mp hno))
  · intro s d h hi
    have hgo : ((gwDstSt s d).deferred && !inhibited s d) = true := by
      rw [h, hi]
      rfl
    exact congrArg Host.Outcome.next (if_pos hgo)
  · intro s f h
    have hno : gwLate s f = false := by
      rw [Bool.eq_false_iff, ne_eq, gwLate_iff]
      rintro ⟨ht, he, hz, hd⟩
      obtain h | h | h | h := h
      · exact absurd (ht.symm.trans h) (by decide)
      · exact absurd (he.symm.trans h) (by decide)
      · exact absurd h hz
      · exact absurd hd (Nat.not_le.mpr h)
    rw [gwLate, Bool.not_eq_false'] at hno
    exact congrArg Host.Outcome.next (if_pos hno)
  · intro s f ht he hz hd hsub
    have hgo : gwLate s f = true := (gwLate_iff s f).mpr ⟨ht, he, hz, hd⟩
    have hnone : (gwSigsOf s f).filter (fun k => (s.gw.active.sigs.getD k {}).subst) = [] := by
      refine List.filter_eq_nil_iff.mpr fun k hk => ?_
      rw [hsub k (List.mem_range.mp (List.mem_filter.mp hk).1)]
      decide
    rw [gwLate, Bool.not_eq_true'] at hgo
    refine congrArg Host.Outcome.next ((if_neg (Bool.eq_false_iff.mp hgo)).trans ?_)
    have hrun (u : State) (l : List Nat) (hl : l = []) : gwRun u l gwSubst = u := by
      rw [hl]
      rfl
    exact hrun _ _ hnone

end Sys2Proof.Machine
end

section
/-! The producer page of a queue (O28): who may write it, and what each of its registers does for the producer. -/

namespace Sys2Proof.Machine

/-- A write of the page by anyone but the producer. -/
theorem exec_producerPage_refused {s : State} {r : Req} {q : Fin 64} {d : Word} {k : Fin 8} {c : Instr}
    (h4 : windowDead s (0x20480004 + 0x1000 * q) = false) (h8 : windowDead s (0x20480008 + 0x1000 * q) = false)
    (hC : windowDead s (0x2048000C + 0x1000 * q) = false)
    (hc : c = .qWr r q d ∨ c = .qWrEnd r q d ∨ c = .qPctlPrio r q k ∨ c = .poisonNext r q ∨ c = .abortCmd r q)
    (hprod : isProducer s r q = false) : exec c s = .next (s.status 0x0206) := by
  have hno : (!isProducer s r q) = true := by rw [hprod]; rfl
  obtain rfl | rfl | rfl | rfl | rfl := hc
  · exact next_hostWrite_status h8 (classN_of_furrow (by omega)) (if_pos hno) (by decide)
  · exact next_hostWrite_status hC (classN_of_furrow (by omega)) (if_pos hno) (by decide)
  · exact next_hostWrite_status h4 (classN_of_furrow (by omega)) (if_pos hno) (by decide)
  · exact next_hostWrite_status h4 (classN_of_furrow (by omega)) (if_pos hno) (by decide)
  · exact next_hostWrite_status h4 (classN_of_furrow (by omega)) (if_pos hno) (by decide)

/-- The word that a store puts in Furrow SRAM, and no other queue's contents. -/
theorem furStore_end_shows (s : State) (q : Nat) (d : Word) (poison : Bool) :
    (∀ j, j ≠ q → (furStore s q d true poison).queue j = s.queue j) ∧
      ∃ w : QWord, w.data = d ∧ w.pos = storePos s q ∧ (furStore s q d true poison).mem = (furPut s w).mem := by
  unfold furStore
  extract_lets x pkt trunc pos w pkt' u v y z
  have hu : u.q = s.q := (furPut_within_self s w).same .q (by decide)
  have hv : v.q = u.q ∧ v.mem = u.mem := by
    simp only [v]
    split <;> exact ⟨rfl, rfl⟩
  refine ⟨fun j hj => ?_, w, rfl, rfl, ?_⟩
  · rw [queue_furSync, State.queue_setQueue_ne _ _ hj, State.queue, hv.1, hu, State.queue]
  · rw [(furSync_within (K := syncMask) (by decide) (Within.refl _ (v.setQueue q z))).same .mem (by decide)]
    exact hv.2

theorem numAt_furPut {s : State} (hs : s.Canon) {w : QWord} {p : Nat} (h : w.pos = some p) :
    (furPut s w).numAt (furSramAddr p) 4 = w.data.toNat := by
  unfold furPut
  rw [h]
  exact (State.numAt_putBytes_le s _ 4 _ hs.mem).trans (Nat.mod_eq_of_lt w.data.isLt)

theorem numAt_congr {s t : State} (h : t.mem = s.mem) (a n : Nat) : t.numAt a n = s.numAt a n := by
  have hbytes : ∀ a, t.bytesAt a n = s.bytesAt a n := by
    induction n with
    | zero => exact fun _ => rfl
    | succ n ih => exact fun a => congrArg₂ List.cons (congrArg (memGet · a) h) (ih (a + 1))
  rw [State.numAt, hbytes, State.numAt]

/-- Settles O28: a word with END closes its packet, one without leaves it open, and the rest of the page writes the queue alone. -/
theorem furrowProducer : Obligations.FurrowProducer := by
  refine ⟨fun s r q d k c h4 h8 hC hc hp => exec_producerPage_refused h4 h8 hC hc hp, ?_, ?_, ?_, ?_, ?_, ?_⟩
  · intro s r q d hlive hp hcredit
    have hexec := exec_qWrEnd_of_live hlive hp d
    rw [furProduce_of_credit hp hcredit] at hexec
    obtain ⟨hother, w, hw, hpos, hmem⟩ := furStore_end_shows s q d false
    refine ⟨_, hexec, rfl, hother, fun hs => ?_, ?_⟩
    · rw [State.numAt_status, numAt_congr hmem, numAt_furPut hs (hpos.trans (storePos_of_credit hcredit)), hw]
    · rw [State.queue_status, queue_furStore_close (.inl rfl), storePos_of_credit hcredit]
      rfl
  · intro s r q d k hlive hp hcredit hopn hlen
    have hexec := exec_qWr_of_live hlive hp d
    rw [furProduce_of_credit hp hcredit] at hexec
    have hcur : (s.queue q).current = k := QueueSt.current_of_some hopn
    refine ⟨_, hexec, rfl, ?_⟩
    rw [State.queue_status, queue_furStore_open (by rw [hcur]; exact hlen), hcur, storePos_of_credit hcredit, Bool.false_or]
  · intro s r q k hlive hp
    exact next_hostWrite_status hlive (classN_of_furrow (by omega)) (if_neg (by rw [hp]; decide)) (by decide)
  · intro s r q hlive hp
    exact next_hostWrite_status hlive (classN_of_furrow (by omega)) (if_neg (by rw [hp]; decide)) (by decide)
  · intro s r q hlive hp hopn
    have heq : furPctlAbort s r q = s.status 0 := by
      rw [furPctlAbort, if_neg (by rw [hp]; decide), furAbort_of_none hopn]
    exact next_hostWrite_status hlive (classN_of_furrow (by omega)) heq (by decide)
  · intro s r q k hlive hp hopn
    have heq : furPctlAbort s r q = (furStore s q 0 true true).status 0 := by
      rw [furPctlAbort, if_neg (by rw [hp]; decide), furAbort_of_some hopn]
    have hexec : exec (.abortCmd r q) s = .next ((furStore s q 0 true true).status 0) :=
      next_hostWrite_status hlive (classN_of_furrow (by omega)) heq (by decide)
    refine ⟨_, hexec, rfl, storePos s q, ?_⟩
    rw [State.queue_status, queue_furStore_close (.inl rfl), QueueSt.current_of_some hopn]
    rfl

end Sys2Proof.Machine
end

section
/-! What bringing a queue's registers up to date shows, for the rows of Furrow's sources and of its consumer page. -/

namespace Sys2Proof.Machine

/-- The addresses of the registers that show what queue `q` holds. -/
def syncAddrs (q : Nat) : List Nat :=
  [0x20401020 + 0x40 * min q 64, 0x20401024 + 0x40 * min q 64, 0x2044000C + 0x1000 * min q 64, 0x20480000 + 0x1000 * min q 64, 0x20400030]

/-- A register at another address keeps its fields. -/
theorem rd_furSync_of_addr {f : Field} {q : Nat} (hlo : f.lo < 32) (h : ∀ a ∈ syncAddrs q, f.addr ≠ a) (s : State) :
    (furSync s q).rd f = s.rd f := by
  obtain ⟨h1, h2, h3, h4, h5, -⟩ : f.addr ≠ 0x20401020 + 0x40 * min q 64 ∧ f.addr ≠ 0x20401024 + 0x40 * min q 64 ∧
      f.addr ≠ 0x2044000C + 0x1000 * min q 64 ∧ f.addr ≠ 0x20480000 + 0x1000 * min q 64 ∧ f.addr ≠ 0x20400030 ∧ True := by
    simpa only [syncAddrs, List.forall_mem_cons, List.not_mem_nil, false_imp_iff, implies_true] using h
  refine regsBut_furSync s q f ?_
  simp only [syncFields, List.forall_mem_cons, Field.key, F.Q_LEVEL_LEVEL, F.Q_PKT_CNT_CNT,
    F.Q_CREDIT_CREDIT, F.Q_STAT_OPEN, F.Q_STAT_SPILLING, F.Q_STAT_SPILLED, F.Q_STAT_XOFF, F.FUR_FCL_STAT_LEVEL]
  refine ⟨?_, ?_, ?_, ?_, ?_, ?_, ?_, ?_, fun _ h => absurd h List.not_mem_nil⟩ <;> omega

/-- The state that shows level and count: what the credit is then taken from. -/
def levelShown (s : State) (q : Nat) : State :=
  (s.wr (F.Q_LEVEL_LEVEL q) (s.queue q).level).wr (F.Q_PKT_CNT_CNT q) (s.queue q).packets

theorem rd_irq_ite (t : State) (due : Bool) (m n : Nat) (f : Field) : (if due then t.irq m n else t).rd f = t.rd f := by
  split
  · exact congrArg (fun r : SMap Nat => r.get f.key f.rst) (State.irq_regs t m n)
  · rfl

/-- Level, count and credit as `furSync` shows them. -/
theorem rd_furSync_shown (s : State) (q : Nat) : (furSync s q).rd (F.Q_LEVEL_LEVEL q) = (s.queue q).level % 2 ^ 32 ∧
    (furSync s q).rd (F.Q_PKT_CNT_CNT q) = (s.queue q).packets % 2 ^ 32 ∧
    (furSync s q).rd (F.Q_CREDIT_CREDIT q) = queueCredit (levelShown s q) q % 2 ^ 19 := by
  unfold furSync
  extract_lets x lvl xo cons irqPkt irqHi a b c d e f g h i
  have hl : a.rd (F.Q_LEVEL_LEVEL q) = lvl % 2 ^ 32 := State.rd_wr_self ..
  have hp : b.rd (F.Q_PKT_CNT_CNT q) = x.packets % 2 ^ 32 := State.rd_wr_self ..
  have hc : c.rd (F.Q_CREDIT_CREDIT q) = queueCredit b q % 2 ^ 19 := State.rd_wr_self ..
  have hbl : b.rd (F.Q_LEVEL_LEVEL q) = a.rd (F.Q_LEVEL_LEVEL q) :=
    State.rd_wr_ne _ _ (by simp only [Field.key, F.Q_LEVEL_LEVEL, F.Q_PKT_CNT_CNT]; omega)
  have hkeep {y : Field} (h1 : y.key ≠ (F.Q_STAT_OPEN q).key) (h2 : y.key ≠ (F.Q_STAT_SPILLING q).key) (h3 : y.key ≠ (F.Q_STAT_SPILLED q).key)
      (h4 : y.key ≠ (F.Q_STAT_XOFF q).key) (h5 : y.key ≠ F.FUR_FCL_STAT_LEVEL.key) :
      (if irqHi then i.irq cons (512 + q) else i).rd y = c.rd y := by
    rw [rd_irq_ite]
    refine (rd_irq_ite h irqPkt _ _ y).trans ?_
    exact (State.rd_wr_ne _ _ h5).trans ((State.rd_wrB_ne _ _ h4).trans ((State.rd_wr_ne _ _ h3).trans ((State.rd_wrB_ne _ _ h2).trans
      (State.rd_wrB_ne _ _ h1))))
  refine ⟨?_, ?_, ?_⟩
  · rw [hkeep (by simp only [Field.key, F.Q_LEVEL_LEVEL, F.Q_STAT_OPEN]; omega) (by simp only [Field.key, F.Q_LEVEL_LEVEL, F.Q_STAT_SPILLING]; omega)
      (by simp only [Field.key, F.Q_LEVEL_LEVEL, F.Q_STAT_SPILLED]; omega) (by simp only [Field.key, F.Q_LEVEL_LEVEL, F.Q_STAT_XOFF]; omega)
      (by simp only [Field.key, F.Q_LEVEL_LEVEL, F.FUR_FCL_STAT_LEVEL]; omega)]
    exact (State.rd_wr_ne _ _ (by simp only [Field.key, F.Q_LEVEL_LEVEL, F.Q_CREDIT_CREDIT]; omega)).trans (hbl.trans hl)
  · rw [hkeep (by simp only [Field.key, F.Q_PKT_CNT_CNT, F.Q_STAT_OPEN]; omega) (by simp only [Field.key, F.Q_PKT_CNT_CNT, F.Q_STAT_SPILLING]; omega)
      (by simp only [Field.key, F.Q_PKT_CNT_CNT, F.Q_STAT_SPILLED]; omega) (by simp only [Field.key, F.Q_PKT_CNT_CNT, F.Q_STAT_XOFF]; omega)
      (by simp only [Field.key, F.Q_PKT_CNT_CNT, F.FUR_FCL_STAT_LEVEL]; omega)]
    exact (State.rd_wr_ne _ _ (by simp only [Field.key, F.Q_PKT_CNT_CNT, F.Q_CREDIT_CREDIT]; omega)).trans hp
  · rw [hkeep (by simp only [Field.key, F.Q_CREDIT_CREDIT, F.Q_STAT_OPEN]; omega) (by simp only [Field.key, F.Q_CREDIT_CREDIT, F.Q_STAT_SPILLING]; omega)
      (by simp only [Field.key, F.Q_CREDIT_CREDIT, F.Q_STAT_SPILLED]; omega) (by simp only [Field.key, F.Q_CREDIT_CREDIT, F.Q_STAT_XOFF]; omega)
      (by simp only [Field.key, F.Q_CREDIT_CREDIT, F.FUR_FCL_STAT_LEVEL]; omega)]
    exact hc

/-- A queue whose credits are revoked, or that is off, has none. -/
theorem queueCredit_revoked {s : State} {q : Nat} (h : (s.queue q).revoked = true) : queueCredit s q = 0 := by
  simp only [queueCredit, h, Bool.true_or, if_true]

theorem queueCredit_off {s : State} {q : Nat} (h : s.rd (F.Q_CFG_EN q) = 0) : queueCredit s q = 0 := by
  have hf : queueFree s q = 0 := by
    rw [queueFree, State.rdB, h]
    rfl
  rw [queueCredit, hf, Nat.min_zero, ite_self]

/-- A queue that is off shows no XOFF. -/
theorem rd_furSync_xoff {s : State} {q : Nat} (h : s.rd (F.Q_CFG_EN q) = 0) : (furSync s q).rd (F.Q_STAT_XOFF q) = 0 := by
  unfold furSync
  extract_lets x lvl xo cons irqPkt irqHi a b c d e f g h' i
  have hx : xo = false := if_pos (by rw [State.rdB, h]; rfl)
  rw [rd_irq_ite]
  refine (rd_irq_ite h' irqPkt _ _ _).trans ?_
  refine (State.rd_wr_ne _ _ (by simp only [Field.key, F.Q_STAT_XOFF, F.FUR_FCL_STAT_LEVEL]; omega)).trans ?_
  simp only [g, hx]
  exact State.rd_wr_of_lt (f := F.Q_STAT_XOFF q) _ (Nat.two_pow_pos _)

end Sys2Proof.Machine
end

section
/-! What fills and moves the banks of a queue beside its producer, and what turns it on and off (O31). -/

namespace Sys2Proof.Machine

/-! ## Hardware packets -/

theorem hwQueue_self {s : State} {q : Nat} (h : plotResetting s (s.rd (F.Q_OWN_CONS q)) = false) : hwQueue s q = q :=
  if_neg (by rw [h]; exact Bool.false_ne_true)

theorem exec_hwPacketWrite {s : State} {q : Fin 64} {ws : List Word} (hne : ws ≠ []) : exec (.hwPacketWrite q ws) s = .next (hwPost s q ws) :=
  congrArg Host.Outcome.next (if_neg (by simpa using hne))

/-- A packet of hardware in the filling bank of its queue. -/
def hwFilled (s : State) (q : Nat) (words : List Word) : State :=
  let x := s.queue q
  let ws := placeWords (furPos s q) (markLast words)
  let s := ws.foldl furPut s
  furSync (s.setQueue q { x with fill := x.fill ++ [⟨s.rd (F.Q_CFG_HWPRIO q), ws⟩] }) q

theorem queue_hwFilled (s : State) (q : Nat) (words : List Word) : (hwFilled s q words).queue q = { s.queue q with
    fill := (s.queue q).fill ++ [⟨s.rd (F.Q_CFG_HWPRIO q), placeWords (furPos s q) (markLast words)⟩] } := by
  unfold hwFilled
  extract_lets x ws u
  have hregs : u.regs = s.regs := foldl_keeps State.regs (fun t w => by
    unfold furPut
    split
    · rfl
    · exact State.putBytes_regs ..) s ws
  have hprio : u.rd (F.Q_CFG_HWPRIO q) = s.rd (F.Q_CFG_HWPRIO q) := congrArg (fun r : SMap Nat => r.get _ _) hregs
  rw [queue_furSync, State.queue_setQueue_self, hprio]

/-! ## Spill -/

/-- The queue once a spill image waits. -/
def spillTaken (x : QueueSt) (l : List QPacket) : QueueSt :=
  { x with spilling := none, spilled := x.spilled ++ [l], images := x.images + 1 }

/-- The end of a spill none of whose words is bad. -/
theorem exec_spillDone {s : State} {q : Fin 64} {i : List QPacket} (h : (s.queue q).spilling = some i)
    (hw : ∀ p ∈ i, ∀ w ∈ p.words, wordBad s w = false) : ∃ u : State, u.q = s.q ∧ u.regs = s.regs ∧ u.now = s.now ∧ exec (.spillDone q) s =
      .next (furSync (u.setQueue q ((spillTaken (u.queue q) (i.map (spillWords s))).noted u q)) q) := by
  have hbad : ((i.flatMap (·.words)).filter (wordBad s)).length = 0 := by
    refine List.length_eq_zero_iff.mpr (List.filter_eq_nil_iff.mpr fun w hmem => ?_)
    obtain ⟨p, hp, hwp⟩ := List.mem_flatMap.mp hmem
    rw [hw p hp w hwp]
    exact Bool.false_ne_true
  have hw := spillStore_within (K := partsMask [.mem]) (a2 := q) (a3 := i.map (spillWords s)) (by decide) (Within.refl _ s)
  refine ⟨spillStore s q (i.map (spillWords s)), hw.same .q (by decide), State.putBytes_regs .., hw.same .now (by decide), ?_⟩
  have hexec : exec (.spillDone q) s = execSpillDone q s := rfl
  rw [hexec, execSpillDone, h]
  dsimp only
  rw [hbad]
  rfl

theorem queueCredit_congr {s t : State} (hq : t.q = s.q) (hr : t.regs = s.regs) (q : Nat) : queueCredit t q = queueCredit s q := by
  have hrd (f : Field) : t.rd f = s.rd f := congrArg (fun r : SMap Nat => r.get f.key f.rst) hr
  have hqueue : t.queue q = s.queue q := congrArg (fun m : SMap QueueSt => m.get q {}) hq
  simp only [queueCredit, queueFree, bankWords, State.rdB, hrd, hqueue]
  congr

/-! ## Q_CFG -/

/-- What an enable writes into Q_CFG before the queue is checked. -/
def cfgWritten (s : State) (q : Nat) (z b h : Nat) : State :=
  ((s.wr (F.Q_CFG_SIZE q) z).wr (F.Q_CFG_SPILL_EN q) b).wr (F.Q_CFG_HWPRIO q) h

theorem queueCfgWrite_on {s : State} {q : Fin 64} {z : Fin 32} {b : Bool} {h : Fin 8} (hen : s.rd (F.Q_CFG_EN q) = 0) :
    queueCfgWrite s .supervisor q (1 + 2 * z.val + 64 * b.toNat + 256 * h.val) =
      (queueOn (cfgWritten s q z b.toNat h) q).status (if (queueOn (cfgWritten s q z b.toNat h) q).rdB (F.Q_CFG_EN q) then 0 else 0x0302) := by
  have hb := Bool.toNat_lt b
  have hz : (F.Q_CFG_SIZE q).slice (1 + 2 * z.val + 64 * b.toNat + 256 * h.val) = z.val := by
    simp only [Field.slice, F.Q_CFG_SIZE]
    omega
  have hs : (F.Q_CFG_SPILL_EN q).slice (1 + 2 * z.val + 64 * b.toNat + 256 * h.val) = b.toNat := by
    simp only [Field.slice, F.Q_CFG_SPILL_EN]
    omega
  have hp : (F.Q_CFG_HWPRIO q).slice (1 + 2 * z.val + 64 * b.toNat + 256 * h.val) = h.val := by
    simp only [Field.slice, F.Q_CFG_HWPRIO]
    omega
  have hodd : (1 + 2 * z.val + 64 * b.toNat + 256 * h.val) % 2 = 1 := by omega
  have hen' : s.rdB (F.Q_CFG_EN q) = false := by
    rw [State.rdB, hen]
    rfl
  unfold queueCfgWrite
  rw [if_neg (not_not.mpr rfl)]
  dsimp only
  rw [hz, hs, hp, hen', Bool.false_and, if_neg Bool.false_ne_true, if_pos hodd, if_neg Bool.false_ne_true]
  rfl

theorem rd_cfgWritten {s : State} {q z b h : Nat} (hz : z < 32) : (cfgWritten s q z b h).rd (F.Q_CFG_SIZE q) = z ∧
    (cfgWritten s q z b h).rd (F.Q_CFG_EN q) = s.rd (F.Q_CFG_EN q) := by
  unfold cfgWritten
  refine ⟨?_, ?_⟩
  · rw [State.rd_wr_ne _ _ (by simp only [Field.key, F.Q_CFG_SIZE, F.Q_CFG_HWPRIO]; omega),
      State.rd_wr_ne _ _ (by simp only [Field.key, F.Q_CFG_SIZE, F.Q_CFG_SPILL_EN]; omega)]
    exact State.rd_wr_of_lt _ hz
  · rw [State.rd_wr_ne _ _ (by simp only [Field.key, F.Q_CFG_EN, F.Q_CFG_HWPRIO]; omega),
      State.rd_wr_ne _ _ (by simp only [Field.key, F.Q_CFG_EN, F.Q_CFG_SPILL_EN]; omega),
      State.rd_wr_ne _ _ (by simp only [Field.key, F.Q_CFG_EN, F.Q_CFG_SIZE]; omega)]

/-- The word Q_CFG is none of those that show what the queue holds. -/
theorem rd_furSync_cfg {f : Field} {q : Nat} (hlo : f.lo < 32) (h : f.addr = 0x20401000 + 0x40 * min q 64) (s : State) :
    (furSync s q).rd f = s.rd f := by
  refine rd_furSync_of_addr hlo ?_ s
  simp only [syncAddrs, List.forall_mem_cons, h]
  refine ⟨?_, ?_, ?_, ?_, ?_, fun _ h => absurd h List.not_mem_nil⟩ <;> omega

theorem queueOff_shows (s : State) (q : Nat) : (queueOff s q).queue q = (s.queue q).emptied ∧ (queueOff s q).rd (F.Q_CFG_EN q) = 0 ∧
    (queueOff s q).rd (F.Q_STAT_XOFF q) = 0 ∧ (queueOff s q).rd (F.Q_CREDIT_CREDIT q) = 0 ∧ (queueOff s q).rd (F.Q_DSTAT_REMAIN q) = 0 := by
  have hremain : (furEmpty (s.wr (F.Q_CFG_EN q) 0) q).rd (F.Q_DSTAT_REMAIN q) = 0 := State.rd_wr_of_lt _ (Nat.two_pow_pos _)
  have hen : (furEmpty (s.wr (F.Q_CFG_EN q) 0) q).rd (F.Q_CFG_EN q) = 0 :=
    (State.rd_wr_ne _ _ (by simp only [Field.key, F.Q_CFG_EN, F.Q_DSTAT_REMAIN]; omega)).trans (State.rd_wr_of_lt _ (Nat.two_pow_pos _))
  have hqueue : (furEmpty (s.wr (F.Q_CFG_EN q) 0) q).queue q = (s.queue q).emptied := State.queue_setQueue_self ..
  unfold queueOff
  generalize furEmpty (s.wr (F.Q_CFG_EN q) 0) q = u at hremain hen hqueue
  obtain ⟨-, -, hcredit⟩ := rd_furSync_shown u q
  refine ⟨(queue_furSync ..).trans hqueue, ?_, rd_furSync_xoff hen, ?_, ?_⟩
  · exact (rd_furSync_cfg (f := F.Q_CFG_EN q) (Nat.zero_lt_succ _) rfl u).trans hen
  · have hshown : (levelShown u q).rd (F.Q_CFG_EN q) = 0 := by
      rw [levelShown, State.rd_wr_ne _ _ (by simp only [Field.key, F.Q_CFG_EN, F.Q_PKT_CNT_CNT]; omega),
        State.rd_wr_ne _ _ (by simp only [Field.key, F.Q_CFG_EN, F.Q_LEVEL_LEVEL]; omega)]
      exact hen
    rw [hcredit, queueCredit_off hshown]
    rfl
  · refine (rd_furSync_of_addr (f := F.Q_DSTAT_REMAIN q) (show 16 < 32 by decide) ?_ u).trans hremain
    simp only [syncAddrs, List.forall_mem_cons, F.Q_DSTAT_REMAIN]
    refine ⟨?_, ?_, ?_, ?_, ?_, fun _ h => absurd h List.not_mem_nil⟩ <;> omega

/-- Settles O31: each row moves packets from one bank of the queue to the next, and Q_CFG decides whether there is a queue. -/
theorem furrowSources : Obligations.FurrowSources := by
  refine ⟨?_, ?_, ?_, ?_, ?_, ?_, ?_, ?_, ?_, ?_, ?_, ?_, ?_⟩
  · intro s q ws hne hr hroom
    have heq : hwPost s q ws = hwFilled s q ws := by
      unfold hwPost
      rw [hwQueue_self hr]
      exact if_pos hroom
    exact ⟨_, (exec_hwPacketWrite hne).trans (congrArg Host.Outcome.next heq), queue_hwFilled ..⟩
  · intro s q ws hne hr hroom
    have heq : hwPost s q ws = (s.wr (F.Q_FLT_LOST q) 1).incSat (F.Q_CNT_LOST_CNT q) := by
      unfold hwPost
      rw [hwQueue_self hr]
      exact if_neg (by rw [hroom]; exact Bool.false_ne_true)
    refine ⟨_, (exec_hwPacketWrite hne).trans (congrArg Host.Outcome.next heq), ?_, rfl, rfl, ?_⟩
    · rw [State.rd_incSat_ne _ (by simp only [Field.key, F.Q_FLT_LOST, F.Q_CNT_LOST_CNT]; omega)]
      exact State.rd_wr_of_lt _ (Nat.lt_of_lt_of_eq Nat.one_lt_two rfl)
    · exact (((State.OnlyRegs.refl s _).wr (g := F.Q_FLT_LOST q) (by simp) _).incSat (g := F.Q_CNT_LOST_CNT q) (by simp)).regs
  · intro s q h
    exact ⟨_, congrArg Host.Outcome.next (if_pos h), (queue_furSync ..).trans (State.queue_setQueue_self ..)⟩
  · exact fun s q h => congrArg Host.Outcome.next (if_neg (by rw [h]; exact Bool.false_ne_true))
  · intro s q h
    exact ⟨_, congrArg Host.Outcome.next (if_pos h), (queue_furSync ..).trans (State.queue_setQueue_self ..)⟩
  · exact fun s q h => congrArg Host.Outcome.next (if_neg (by rw [h]; exact Bool.false_ne_true))
  · intro s q i h hw
    obtain ⟨u, hq, hr, hn, hexec⟩ := exec_spillDone h hw
    have hqueue : u.queue q = s.queue q := congrArg (fun m : SMap QueueSt => m.get q {}) hq
    refine ⟨_, hexec, (queue_furSync ..).trans ?_⟩
    rw [State.queue_setQueue_self, QueueSt.noted, queueCredit_congr hq hr, hn, hqueue]
    rfl
  · intro s q h
    simp only [exec, execSpillDone, h]
  · intro s q k htmo hopn hat
    have hgo : (s.rd (F.Q_CREDIT_CFG_OPEN_TMO q) != 0 && (s.queue q).opn.isSome &&
        decide ((s.queue q).wordAt + 800 * s.rd (F.Q_CREDIT_CFG_OPEN_TMO q) ≤ s.now)) = true := by
      rw [bne_iff_ne.mpr htmo, hopn, decide_eq_true hat]
      rfl
    have hexec : exec (.openTmo q) s = .next ((furStore s q 0 true true).wr (F.Q_FLT_PKT_TMO q) 1) :=
      congrArg Host.Outcome.next ((if_pos hgo).trans (congrArg (State.wr · (F.Q_FLT_PKT_TMO q) 1) (furAbort_of_some hopn)))
    have hstore : (furStore s q 0 true true).queue q = _ := queue_furStore_close (.inl rfl) 0 true
    refine ⟨_, hexec, State.rd_wr_of_lt _ (Nat.lt_of_lt_of_eq Nat.one_lt_two rfl), ?_, storePos s q, ?_⟩
    · rw [State.queue_wr, hstore]
    · rw [State.queue_wr, hstore, QueueSt.current_of_some hopn]
      rfl
  · intro s q h
    have hno : (s.rd (F.Q_CREDIT_CFG_OPEN_TMO q) != 0 && (s.queue q).opn.isSome &&
        decide ((s.queue q).wordAt + 800 * s.rd (F.Q_CREDIT_CFG_OPEN_TMO q) ≤ s.now)) = false := by
      obtain h | h | h := h
      · rw [h]
        rfl
      · rw [h]
        exact (congrArg (· && _) (Bool.and_false _)).trans (Bool.false_and _)
      · rw [decide_eq_false (Nat.not_le.mpr h), Bool.and_false]
    exact congrArg Host.Outcome.next (if_neg (Bool.eq_false_iff.mp hno))
  · intro s r q z b h c hlive hc hr
    obtain rfl | rfl := hc
    · exact next_hostWrite_status hlive (classN_of_furrow (by omega)) (if_pos hr) (by decide)
    · exact next_hostWrite_status hlive (classN_of_furrow (by omega)) (if_pos hr) (by decide)
  · intro s q z b h hlive hen
    have hexec (c : Nat) (t : State) (ht : queueOn (cfgWritten s q z b.toNat h) q = t) (hc : (if t.rdB (F.Q_CFG_EN q) then 0 else 0x0302) = c)
        (hok : c ≠ 0x0110 ∧ c ≠ 0x0610 ∧ c ≠ 0x0611) : exec (.qEnable .supervisor q z b h) s = .next (t.status c) :=
      next_hostWrite_status hlive (classN_of_furrow (by omega)) ((queueCfgWrite_on hen).trans (by rw [ht, hc])) hok
    obtain ⟨hz, he⟩ := rd_cfgWritten (s := s) (q := q) (b := b.toNat) (h := h) z.isLt
    have hq : (cfgWritten s q z b.toNat h).q = s.q := rfl
    dsimp only
    change Ends _ _ fun t => (queueCfgOk (cfgWritten s q z b.toNat h) q = true → _) ∧ (queueCfgOk (cfgWritten s q z b.toNat h) q = false → _)
    generalize cfgWritten s q z b.toNat h = u at hexec hz he hq
    by_cases hok : queueCfgOk u q = true
    · have ht : queueOn u q = furSync (u.wr (F.Q_CFG_EN q) 1) q := if_pos hok
      have hen1 : (furSync (u.wr (F.Q_CFG_EN q) 1) q).rd (F.Q_CFG_EN q) = 1 :=
        (rd_furSync_cfg (f := F.Q_CFG_EN q) (Nat.zero_lt_succ _) rfl _).trans (State.rd_wr_of_lt _ (Nat.lt_of_lt_of_eq Nat.one_lt_two rfl))
      have hsize : (furSync (u.wr (F.Q_CFG_EN q) 1) q).rd (F.Q_CFG_SIZE q) = z :=
        (rd_furSync_cfg (f := F.Q_CFG_SIZE q) (show 1 < 32 by decide) rfl _).trans
          ((State.rd_wr_ne _ _ (by simp only [Field.key, F.Q_CFG_EN, F.Q_CFG_SIZE]; omega)).trans hz)
      have hkept : (furSync (u.wr (F.Q_CFG_EN q) 1) q).q = u.q :=
        (furSync_within (K := syncMask) (by decide) (Within.refl _ (u.wr (F.Q_CFG_EN q) 1))).same .q (by decide)
      generalize furSync (u.wr (F.Q_CFG_EN q) 1) q = t at ht hen1 hsize hkept
      refine ⟨_, hexec 0 t ht (by rw [State.rdB, hen1]; rfl) (by decide), fun _ => ⟨rfl, hen1, hsize, hkept.trans hq⟩, fun hno => ?_⟩
      exact absurd (hok.symm.trans hno) (by decide)
    · have ht : queueOn u q = u.wr (F.Q_FLT_CFG_ERR q) 1 := if_neg hok
      have hen0 : (u.wr (F.Q_FLT_CFG_ERR q) 1).rd (F.Q_CFG_EN q) = 0 :=
        (State.rd_wr_ne _ _ (by simp only [Field.key, F.Q_CFG_EN, F.Q_FLT_CFG_ERR]; omega)).trans (he.trans hen)
      have herr : (u.wr (F.Q_FLT_CFG_ERR q) 1).rd (F.Q_FLT_CFG_ERR q) = 1 := State.rd_wr_of_lt _ (Nat.lt_of_lt_of_eq Nat.one_lt_two rfl)
      exact ⟨_, hexec 0x0302 _ ht (by rw [State.rdB, hen0]; rfl) (by decide), fun hyes => absurd hyes hok, fun _ => ⟨rfl, herr, hen0, hq⟩⟩
  · intro s q hlive hen
    have hen' : s.rdB (F.Q_CFG_EN q) = true := by
      rw [State.rdB, hen]
      rfl
    have hexec : exec (.qDisable .supervisor q) s = .next ((queueOff s q).status 0) :=
      next_hostWrite_status hlive (classN_of_furrow (by omega)) ((if_neg (not_not.mpr rfl)).trans (if_pos hen')) (by decide)
    have hoff := queueOff_shows s q
    generalize queueOff s q = u at hexec hoff
    exact ⟨_, hexec, rfl, hoff⟩

end Sys2Proof.Machine
end

section
/-! The consumer page of a queue (O30): FLUSH, Q_NEXT and Q_DATA. -/

namespace Sys2Proof.Machine

/-- No register below Bridle's window is among those in which an access notes its end. -/
theorem last_ne {f : Field} (hf : f.key < 32 * 0x20B00000) (r : Req) : ∀ g ∈ r.last, f.key ≠ g.key := by
  simp only [Req.last, List.forall_mem_cons, Field.key, F.BR_LAST_STATUS, F.BR_LAST_TAG, F.BR_LAST_ADDR_LO_ADDR_LO,
    F.BR_LAST_ADDR_HI_ADDR_HI] at hf ⊢
  refine ⟨?_, ?_, ?_, ?_, fun _ h => absurd h List.not_mem_nil⟩ <;> omega

/-- A register of Furrow. -/
theorem furrow_below {f : Field} (hlo : f.lo < 32) (ha : f.addr < 0x20500000) : f.key < 32 * 0x20B00000 := by
  unfold Field.key
  omega

theorem dstat_addr (q : Nat) : ∀ a ∈ syncAddrs q, 0x20440008 + 0x1000 * min q 64 ≠ a := by
  simp only [syncAddrs, List.forall_mem_cons]
  refine ⟨?_, ?_, ?_, ?_, ?_, fun _ h => absurd h List.not_mem_nil⟩ <;> omega

theorem parErr_addr (q : Nat) : ∀ a ∈ syncAddrs q, F.FUR_FLT_PAR_ERR.addr ≠ a := by
  simp only [syncAddrs, List.forall_mem_cons, F.FUR_FLT_PAR_ERR]
  refine ⟨?_, ?_, ?_, ?_, ?_, fun _ h => absurd h List.not_mem_nil⟩ <;> omega

theorem discard_addr (q : Nat) : ∀ a ∈ syncAddrs q, (F.Q_CNT_DISCARD_CNT q).addr ≠ a := by
  simp only [syncAddrs, List.forall_mem_cons, F.Q_CNT_DISCARD_CNT]
  refine ⟨?_, ?_, ?_, ?_, ?_, fun _ h => absurd h List.not_mem_nil⟩ <;> omega

theorem read_refused {s : State} {a c : Nat} (r : Req) (hlive : windowDead s a = false) : (hostRead s r a (s.status c)).resp = ⟨c, 0⟩ ∧
    (hostRead s r a (s.status c)).q = s.q ∧ (hostRead s r a (s.status c)).mem = s.mem ∧ s.RegsBut (hostRead s r a (s.status c)) r.last := by
  have h := hostRead_last (t := s.status c) r hlive
  exact ⟨h.resp, by rw [h.rest]; rfl, h.mem, h.regs⟩

theorem exec_qNextRead {s t : State} {r : Req} {q : Fin 64} {h : Nat} (hlive : windowDead s (0x20440000 + 0x1000 * q) = false)
    (hc : isConsumer s r q = true) (ht : furNext s q = t.answer 0 h) : exec (.qNextRead r q) s = .next (t.answer 0 h) := by
  have heq : (if (!isConsumer s r q) = true then s.status 0x0206 else furNext s q) = t.answer 0 h := (if_neg (by rw [hc]; decide)).trans ht
  have hexec : exec (.qNextRead r q) s = execQNextRead r q s := rfl
  rw [hexec, execQNextRead, heq, hostRead_ok r hlive rfl]

theorem exec_qDataRead {s t : State} {r : Req} {q : Fin 64} {e : Bool} (hc : isConsumer s r q = true) (ht : furData s q e = t) : exec (.qDataRead r q e) s = .next (hostRead s r (0x20440004 + 0x1000 * q) t) := by
  have heq : (if (!isConsumer s r q) = true then s.status 0x0206 else furData s q e) = t := (if_neg (by rw [hc]; decide)).trans ht
  have hexec : exec (.qDataRead r q e) s = execQDataRead r q e s := rfl
  rw [hexec, execQDataRead, heq]

/-! ## FLUSH -/

theorem furFlush_shows (s : State) (q : Nat) : (furFlush s q).queue q = { (s.queue q).emptied with revoked := true } ∧
    (furFlush s q).rd (F.Q_CREDIT_CREDIT q) = 0 ∧ (furFlush s q).rd (F.Q_DSTAT_REMAIN q) = 0 ∧ (furFlush s q).rd (F.Q_PKT_CNT_CNT q) = 0 ∧
    (furFlush s q).rd (F.Q_LEVEL_LEVEL q) = 0 := by
  unfold furFlush
  extract_lets u
  have hqu : u.queue q = (s.queue q).emptied := State.queue_setQueue_self ..
  have hremain : u.rd (F.Q_DSTAT_REMAIN q) = 0 := State.rd_wr_of_lt _ (Nat.two_pow_pos _)
  clear_value u
  have hqueue : (u.setQueue q { u.queue q with revoked := true }).queue q = { (s.queue q).emptied with revoked := true } := by
    rw [State.queue_setQueue_self, hqu]
  have hrem : (u.setQueue q { u.queue q with revoked := true }).rd (F.Q_DSTAT_REMAIN q) = 0 := hremain
  generalize u.setQueue q { u.queue q with revoked := true } = v at hqueue hrem
  obtain ⟨hlevel, hcnt, hcredit⟩ := rd_furSync_shown v q
  refine ⟨(queue_furSync ..).trans hqueue, ?_, ?_, ?_, ?_⟩
  · have hrev : ((levelShown v q).queue q).revoked = true := congrArg QueueSt.revoked hqueue
    rw [hcredit, queueCredit_revoked hrev]
    rfl
  · exact (rd_furSync_of_addr (f := F.Q_DSTAT_REMAIN q) (show 16 < 32 by decide) (dstat_addr q) v).trans hrem
  · rw [hcnt, hqueue]
    rfl
  · rw [hlevel, hqueue]
    rfl

/-! ## Q_NEXT -/

/-- A packet is selected and its header shown. -/
def nextShown (s : State) (q : Nat) (p : QPacket) (x : QueueSt) : State :=
  let s := furSync (s.setQueue q { x with sel := p.words }) q
  let s := s.wr (F.Q_DSTAT_REMAIN q) p.words.length
  s.wr (F.Q_NEXT_HDR q) (nextHeader p)

theorem queue_answer (s : State) (c v q : Nat) : (s.answer c v).queue q = s.queue q := rfl

theorem nextShown_shows (s : State) (q : Nat) (p : QPacket) (x : QueueSt) : (nextShown s q p x).queue q = { x with sel := p.words } ∧
    (nextShown s q p x).rd (F.Q_DSTAT_REMAIN q) = p.words.length % 2 ^ (F.Q_DSTAT_REMAIN q).w ∧
    (nextShown s q p x).rd (F.Q_CNT_DISCARD_CNT q) = s.rd (F.Q_CNT_DISCARD_CNT q) := by
  unfold nextShown
  extract_lets u v
  have hqueue : u.queue q = { x with sel := p.words } := (queue_furSync ..).trans (State.queue_setQueue_self ..)
  have hcount : u.rd (F.Q_CNT_DISCARD_CNT q) = s.rd (F.Q_CNT_DISCARD_CNT q) :=
    rd_furSync_of_addr (f := F.Q_CNT_DISCARD_CNT q) (show 16 < 32 by decide) (discard_addr q) _
  clear_value u
  refine ⟨hqueue, ?_, ?_⟩
  · rw [State.rd_wr_ne _ _ (by simp only [Field.key, F.Q_DSTAT_REMAIN, F.Q_NEXT_HDR]; omega)]
    exact State.rd_wr_self ..
  · rw [State.rd_wr_ne _ _ (by simp only [Field.key, F.Q_CNT_DISCARD_CNT, F.Q_NEXT_HDR]; omega),
      State.rd_wr_ne _ _ (by simp only [Field.key, F.Q_CNT_DISCARD_CNT, F.Q_DSTAT_REMAIN]; omega)]
    exact hcount

/-- Where no packet waits. -/
def noneShown (s : State) (q : Nat) : State :=
  let x := s.queue q
  let x := { x with sel := [], spilled := dropEmpty x.spilled }
  (furSync (s.setQueue q x) q |>.wr (F.Q_DSTAT_REMAIN q) 0).wr (F.Q_NEXT_HDR q) 0

/-- The count of the packet that a read of Q_NEXT discards. -/
def discarded (s : State) (q : Nat) : State :=
  if (s.queue q).sel.isEmpty then s else s.incSat (F.Q_CNT_DISCARD_CNT q)

theorem discarded_queue (s : State) (q : Nat) : (discarded s q).queue q = s.queue q := by
  unfold discarded
  split <;> rfl

theorem furNext_none {s : State} {q : Nat} (hd : (s.queue q).drain = []) (hs : (s.queue q).spilled = []) :
    furNext s q = (noneShown (discarded s q) q).answer 0 0 := by
  have hnext : { s.queue q with sel := [] }.next = none := by
    simp only [QueueSt.next, hd, takeFirst, hs, dropEmpty]
  unfold furNext
  extract_lets x u
  rw [hnext]
  unfold noneShown
  rw [discarded_queue]
  rfl

theorem furNext_drain {s : State} {q : Nat} {p : QPacket} {rest : List QPacket} (h : takeFirst (s.queue q).drain = some (p, rest)) :
    furNext s q = (nextShown (discarded s q) q p { s.queue q with sel := [], drain := rest, selImage := false }).answer 0 (nextHeader p) := by
  have hnext : { s.queue q with sel := [] }.next = some (p, { s.queue q with sel := [], drain := rest, selImage := false }) := by
    simp only [QueueSt.next, h]
  unfold furNext
  extract_lets x u
  rw [hnext]
  rfl

/-! ## Q_DATA -/

/-- A word read from a packet, and what shows of it. -/
def dataShown (s : State) (q : Nat) (w : QWord) (rest : List QWord) (bad : Bool) : State :=
  let x := s.queue q
  let x := { x with sel := rest, spilled := if rest.isEmpty then dropEmpty x.spilled else x.spilled }
  let s := furSync (s.setQueue q x) q
  let s := s.wrB (F.Q_DSTAT_END q) w.last
  let s := s.wrB (F.Q_DSTAT_POISON q) bad
  let s := s.wr (F.Q_DSTAT_REMAIN q) rest.length
  s.wr (F.Q_DATA_DATA q) w.data.toNat

theorem furData_empty {s : State} {q : Nat} (h : (s.queue q).sel = []) (e : Bool) :
    furData s q e = (s.wr (F.Q_FLT_UNDERRUN q) 1).answer 0x0306 0 := by
  simp only [furData, h]

theorem furData_word {s : State} {q : Nat} {w : QWord} {rest : List QWord} (h : (s.queue q).sel = w :: rest) {e err : Bool}
    (herr : (wordBad s w || (e && w.pos.isSome)) = err) : furData s q e =
    (dataShown (if err then furParity s q else s) q w rest (w.poison || err)).answer (if w.poison || err then 0x0803 else 0) w.data.toNat := by
  simp only [furData, h, herr]
  rfl

theorem dataShown_shows (s : State) (q : Nat) (w : QWord) (rest : List QWord) (bad : Bool) :
    (dataShown s q w rest bad).rd (F.Q_DATA_DATA q) = w.data.toNat ∧ (dataShown s q w rest bad).rd (F.Q_DSTAT_END q) = w.last.toNat ∧
      (dataShown s q w rest bad).rd (F.Q_DSTAT_POISON q) = bad.toNat ∧
      (dataShown s q w rest bad).queue q = { s.queue q with sel := rest, spilled := if rest.isEmpty then dropEmpty (s.queue q).spilled else (s.queue q).spilled } ∧
      (dataShown s q w rest bad).faults = s.faults ∧ (dataShown s q w rest bad).rd F.FUR_FLT_PAR_ERR = s.rd F.FUR_FLT_PAR_ERR := by
  unfold dataShown
  extract_lets x0 x u
  have hqueue : u.queue q = x := (queue_furSync ..).trans (State.queue_setQueue_self ..)
  have hf : u.faults = s.faults := (furSync_within (K := syncMask) (by decide) (Within.refl _ (s.setQueue q x))).same .faults (by decide)
  have hp : u.rd F.FUR_FLT_PAR_ERR = s.rd F.FUR_FLT_PAR_ERR := rd_furSync_of_addr (f := F.FUR_FLT_PAR_ERR) (by decide) (parErr_addr q) _
  clear_value u
  refine ⟨State.rd_wr_of_lt _ w.data.isLt, ?_, ?_, hqueue, hf, ?_⟩
  · rw [State.rd_wr_ne _ _ (by simp only [Field.key, F.Q_DSTAT_END, F.Q_DATA_DATA]; omega),
      State.rd_wr_ne _ _ (by simp only [Field.key, F.Q_DSTAT_END, F.Q_DSTAT_REMAIN]; omega),
      State.rd_wrB_ne _ _ (by simp only [Field.key, F.Q_DSTAT_END, F.Q_DSTAT_POISON]; omega)]
    exact State.rd_wr_of_lt (f := F.Q_DSTAT_END q) _ (Bool.toNat_lt _)
  · rw [State.rd_wr_ne _ _ (by simp only [Field.key, F.Q_DSTAT_POISON, F.Q_DATA_DATA]; omega),
      State.rd_wr_ne _ _ (by simp only [Field.key, F.Q_DSTAT_POISON, F.Q_DSTAT_REMAIN]; omega)]
    exact State.rd_wr_of_lt (f := F.Q_DSTAT_POISON q) _ (Bool.toNat_lt _)
  · rw [State.rd_wr_ne _ _ (by simp only [Field.key, F.FUR_FLT_PAR_ERR, F.Q_DATA_DATA]; omega),
      State.rd_wr_ne _ _ (by simp only [Field.key, F.FUR_FLT_PAR_ERR, F.Q_DSTAT_REMAIN]; omega),
      State.rd_wrB_ne _ _ (by simp only [Field.key, F.FUR_FLT_PAR_ERR, F.Q_DSTAT_POISON]; omega),
      State.rd_wrB_ne _ _ (by simp only [Field.key, F.FUR_FLT_PAR_ERR, F.Q_DSTAT_END]; omega)]
    exact hp

/-- A packet of hardware, taken or lost, leaves PAR_ERR. -/
theorem rd_hwPost_parErr (s : State) (q : Nat) (ws : List Word) : (hwPost s q ws).rd F.FUR_FLT_PAR_ERR = s.rd F.FUR_FLT_PAR_ERR := by
  unfold hwPost
  extract_lets k x l u
  split
  · have hu : u.regs = s.regs := foldl_keeps State.regs (fun t w => by
      unfold furPut
      split
      · rfl
      · exact State.putBytes_regs ..) s l
    refine (rd_furSync_of_addr (f := F.FUR_FLT_PAR_ERR) (by decide) (parErr_addr k) _).trans ?_
    exact congrArg (fun r : SMap Nat => r.get F.FUR_FLT_PAR_ERR.key F.FUR_FLT_PAR_ERR.rst) hu
  · rw [State.rd_incSat_ne _ (by simp only [Field.key, F.FUR_FLT_PAR_ERR, F.Q_CNT_LOST_CNT]; omega)]
    exact State.rd_wr_ne _ _ (by simp only [Field.key, F.FUR_FLT_PAR_ERR, F.Q_FLT_LOST]; omega)

theorem furParity_shows (s : State) (q : Nat) : (furParity s q).rd F.FUR_FLT_PAR_ERR = 1 ∧
    (furParity s q).faults = s.faults ++ [⟨0x060A, q, s.stamp⟩] := by
  unfold furParity
  have hu : (((s.wr F.FUR_FLT_PAR_ERR 1).incSat F.FUR_PAR_CNT_CNT).hwFault 0x060A q).rd F.FUR_FLT_PAR_ERR = 1 :=
    (State.rd_incSat_ne (f := F.FUR_FLT_PAR_ERR) (g := F.FUR_PAR_CNT_CNT) (s.wr F.FUR_FLT_PAR_ERR 1) (by decide)).trans
      (State.rd_wr_of_lt _ (Nat.lt_of_lt_of_eq Nat.one_lt_two rfl))
  have hf : (((s.wr F.FUR_FLT_PAR_ERR 1).incSat F.FUR_PAR_CNT_CNT).hwFault 0x060A q).faults = s.faults ++ [⟨0x060A, q, s.stamp⟩] := rfl
  generalize ((s.wr F.FUR_FLT_PAR_ERR 1).incSat F.FUR_PAR_CNT_CNT).hwFault 0x060A q = u at hu hf
  refine ⟨?_, ((hwErrorRecord_within (K := partsMask [.mem, .free, .out, .irqHeld, .q, .rFurrow, .upd, .furBits]) (by decide)
    (Within.refl _ u)).same .faults (by decide)).trans hf⟩
  unfold hwErrorRecord
  extract_lets st bytes v
  have hv : v.rd F.FUR_FLT_PAR_ERR = u.rd F.FUR_FLT_PAR_ERR := rfl
  split
  · exact (rd_hwPost_parErr ..).trans (hv.trans hu)
  · exact hv.trans hu

theorem qNextRead_selects :
    ∀ s r (q : Fin 64) p rest, windowDead s (0x20440000 + 0x1000 * q) = false → isConsumer s r q = true →
    takeFirst (s.queue q).drain = some (p, rest) → Ends (.qNextRead r q) s fun t => t.resp = ⟨0, nextHeader p⟩ ∧
    t.queue q = { s.queue q with drain := rest, sel := p.words, selImage := false } ∧
    t.rd (F.Q_DSTAT_REMAIN q) = p.words.length % 2 ^ (F.Q_DSTAT_REMAIN q).w ∧
    ((s.queue q).sel = [] → t.rd (F.Q_CNT_DISCARD_CNT q) = s.rd (F.Q_CNT_DISCARD_CNT q)) := by
  intro s r q p rest hlive hc ht
  have hexec := exec_qNextRead hlive hc (furNext_drain ht)
  obtain ⟨hqueue, hremain, hcount⟩ := nextShown_shows (discarded s q) q p { s.queue q with sel := [], drain := rest, selImage := false }
  generalize nextShown (discarded s q) q p { s.queue q with sel := [], drain := rest, selImage := false } = u at hexec hqueue hremain hcount
  refine ⟨_, hexec, State.answer_resp .., (queue_answer ..).trans hqueue, ?_, fun hsel => ?_⟩
  · rw [State.rd_answer]
    exact hremain
  · rw [State.rd_answer, hcount, show discarded s q = s from if_pos (by rw [hsel]; rfl)]

/-- Settles O30: each register of the page is an access whose end is noted in BR_LAST where it is not answered 0. -/
theorem furrowConsumer : Obligations.FurrowConsumer := by
  refine ⟨?_, ?_, ?_, ?_, ?_, ?_, ?_, ?_⟩
  · intro s r q hlive hc
    exact next_hostWrite_status hlive (classN_of_furrow (by omega)) (if_pos (by rw [hc]; rfl)) (by decide)
  · intro s r q e c hc hcons
    have hno : (!isConsumer s r q) = true := by rw [hcons]; rfl
    obtain ⟨rfl, hlive⟩ | ⟨rfl, hlive⟩ := hc
    · have hexec : exec (.qNextRead r q) s = .next (hostRead s r (0x20440000 + 0x1000 * q) (s.status 0x0206)) :=
        congrArg (fun t => Host.Outcome.next (hostRead s r _ t)) (if_pos hno)
      exact ⟨_, hexec, read_refused r hlive⟩
    · have hexec : exec (.qDataRead r q e) s = .next (hostRead s r (0x20440004 + 0x1000 * q) (s.status 0x0206)) :=
        congrArg (fun t => Host.Outcome.next (hostRead s r _ t)) (if_pos hno)
      exact ⟨_, hexec, read_refused r hlive⟩
  · intro s r q hlive hc
    have hexec : exec (.flush r q) s = .next ((furFlush s q).status 0) :=
      next_hostWrite_status hlive (classN_of_furrow (by omega)) (if_neg (by rw [hc]; decide)) (by decide)
    have h := furFlush_shows s q
    generalize furFlush s q = u at hexec h
    exact ⟨_, hexec, rfl, h⟩
  · intro s r q hlive hc hd hs
    have hexec := exec_qNextRead hlive hc (furNext_none hd hs)
    have hsel : (noneShown (discarded s q) q).queue q = _ := (queue_furSync ..).trans (State.queue_setQueue_self ..)
    exact ⟨_, hexec, rfl, congrArg QueueSt.sel hsel⟩
  · exact qNextRead_selects
  · intro s r q e hlive hc hsel
    have hexec := exec_qDataRead hc (furData_empty hsel e)
    have hu : (s.wr (F.Q_FLT_UNDERRUN q) 1).rd (F.Q_FLT_UNDERRUN q) = 1 := State.rd_wr_of_lt _ (Nat.lt_of_lt_of_eq Nat.one_lt_two rfl)
    have hregs : s.RegsBut (s.wr (F.Q_FLT_UNDERRUN q) 1) (F.Q_FLT_UNDERRUN q :: r.last) := fun f hf => State.rd_wr_ne _ _ (hf _ List.mem_cons_self)
    have hq : (s.wr (F.Q_FLT_UNDERRUN q) 1).q = s.q := rfl
    generalize s.wr (F.Q_FLT_UNDERRUN q) 1 = u at hexec hu hregs hq
    have hlast := hostRead_last (t := u.answer 0x0306 0) r hlive
    refine ⟨_, hexec, hlast.resp, ?_, ?_, ?_⟩
    · exact (hlast.regs (F.Q_FLT_UNDERRUN q) (last_ne (furrow_below (show 3 < 32 by decide) (by simp only [F.Q_FLT_UNDERRUN]; omega)) r)).trans hu
    · rw [hlast.rest]
      exact hq
    · exact hregs.trans (hlast.regs.mono fun g hg => List.mem_cons_of_mem _ hg)
  · intro s r q w rest hlive hc hsel hrest hbad
    have herr : (wordBad s w || (false && w.pos.isSome)) = false := by rw [hbad]; rfl
    have hexec := exec_qDataRead hc (furData_word hsel herr)
    rw [if_neg Bool.false_ne_true, Bool.or_false] at hexec
    obtain ⟨hdata, hend, hpoison, hqueue, -, -⟩ := dataShown_shows s q w rest w.poison
    have hemp : rest.isEmpty = false := by simpa using hrest
    rw [hemp, if_neg Bool.false_ne_true] at hqueue
    generalize dataShown s q w rest w.poison = u at hexec hdata hend hpoison hqueue
    have hlast := hostRead_last (t := u.answer (if w.poison then 0x0803 else 0) w.data.toNat) r hlive
    refine ⟨_, hexec, hlast.resp, ?_, ?_, ?_, ?_⟩
    · rw [hlast.rest]
      exact hqueue
    · exact (hlast.regs (F.Q_DATA_DATA q) (last_ne (furrow_below (show 0 < 32 by decide) (by simp only [F.Q_DATA_DATA]; omega)) r)).trans hdata
    · exact (hlast.regs (F.Q_DSTAT_END q) (last_ne (furrow_below (show 0 < 32 by decide) (by simp only [F.Q_DSTAT_END]; omega)) r)).trans hend
    · exact (hlast.regs (F.Q_DSTAT_POISON q) (last_ne (furrow_below (show 1 < 32 by decide) (by simp only [F.Q_DSTAT_POISON]; omega)) r)).trans hpoison
  · intro s r q e w rest hlive hc hsel hpos he
    have herr : (wordBad s w || (e && w.pos.isSome)) = true := by
      obtain he | he := he
      · rw [he, hpos]
        exact Bool.or_true _
      · rw [he]
        rfl
    have hexec := exec_qDataRead hc (furData_word hsel herr)
    rw [if_pos rfl, Bool.or_true, if_pos rfl] at hexec
    obtain ⟨hpar, hfaults⟩ := furParity_shows s q
    obtain ⟨-, -, hpoison, -, hf, hp⟩ := dataShown_shows (furParity s q) q w rest true
    generalize dataShown (furParity s q) q w rest true = u at hexec hpoison hf hp
    have hlast := hostRead_last (t := u.answer 0x0803 w.data.toNat) r hlive
    refine ⟨_, hexec, hlast.resp, ?_, ?_, ?_⟩
    · exact (hlast.regs F.FUR_FLT_PAR_ERR (last_ne (furrow_below (show 0 < 32 by decide) (by decide)) r)).trans (hp.trans hpar)
    · exact (hlast.regs (F.Q_DSTAT_POISON q) (last_ne (furrow_below (show 1 < 32 by decide) (by simp only [F.Q_DSTAT_POISON]; omega)) r)).trans hpoison
    · rw [hlast.rest]
      exact hf.trans hfaults

end Sys2Proof.Machine
end

section
/-! The windows of an impedance sweep (O36). -/

namespace Sys2Proof.Machine

/-- A parameter list of eight keeps its first six in front of the two that count. -/
theorem getD_take_six (l : List Nat) (h : l.length = 8) (a b : Nat) :
    (l.take 6 ++ [a, b]).getD 6 0 = a ∧ (l.take 6 ++ [a, b]).getD 3 0 = l.getD 3 0 := by
  match l, h with
  | [_, _, _, _, _, _, _, _], _ => exact ⟨rfl, rfl⟩

/-- What a window of sweep job `j` comes to: the job fails, is done, or goes on. -/
theorem exec_sweepWindowClose {s : State} {j : Fin 32} {u : TilPub} {l : List TilPub} (bad : List (Fin 4608)) (hk : (s.job j).kind = 3)
    (hb : (s.job j).begun = true) (hst : (s.job j).state = 2)
    (ht : tilTake (fun u => u.kind == 6 && u.job == j.val) s.til.pubs = some (u, l)) : ∃ a b c : State, ∃ par : List Nat,
    par = (s.job j).par.take 6 ++ [(s.job j).par.getD 6 0 + 1, if decide (u.seq + 2 ≤ s.til.zCount) then (s.job j).par.getD 7 0 + 1 else 0] ∧
    exec (.sweepWindowClose j bad) s = .next (if 4 ≤ (if decide (u.seq + 2 ≤ s.til.zCount) then (s.job j).par.getD 7 0 + 1 else 0) ∧ (s.job j).state ≠ 1
      then jobTo a j 5 0x0405 else if par.getD 6 0 = par.getD 3 0 ∧ (s.job j).state = 2 then jobTo b j 4 0 else c) := by
  have hgo : ¬ ((s.job j).kind ≠ 3 ∨ (!((s.job j).begun && (s.job j).active)) = true) := by
    simp [hk, hb, Job.active, hst]
  have hexec : exec (.sweepWindowClose j bad) s = execSweepWindowClose j bad s := rfl
  rw [hexec, execSweepWindowClose]
  extract_lets x
  rw [ht]
  dsimp only
  rw [if_neg hgo]
  exact ⟨_, _, _, _, rfl, rfl⟩

/-- Settles O36: the count of windows and of late windows in a row decide how the job ends. -/
theorem impedanceSweep : Obligations.ImpedanceSweep := by
  refine ⟨?_, ?_, ?_, ?_⟩
  · intro s j bad h
    simp only [exec, execSweepWindowClose, h]
  · intro s j bad h
    have hno : (s.job j).kind ≠ 3 ∨ (!((s.job j).begun && (s.job j).active)) = true := by
      obtain h | h | h := h
      · exact .inl h
      · exact .inr (by rw [h]; rfl)
      · exact .inr (by rw [h, Bool.and_false]; rfl)
    have hexec : exec (.sweepWindowClose j bad) s = execSweepWindowClose j bad s := rfl
    rw [hexec, execSweepWindowClose]
    cases tilTake (fun u => u.kind == 6 && u.job == j.val) s.til.pubs with
    | none => rfl
    | some x =>
      obtain ⟨u, r⟩ := x
      exact congrArg Host.Outcome.next (if_pos hno)
  · intro s j bad u l hk hb hst ht hlate hlen hlast
    obtain ⟨a, b, c, par, hpar, hexec⟩ := exec_sweepWindowClose bad hk hb hst ht
    rw [decide_eq_false (show ¬ u.seq + 2 ≤ s.til.zCount by omega), if_neg Bool.false_ne_true] at hpar hexec
    obtain ⟨h6, h3⟩ := getD_take_six (s.job j).par hlen ((s.job j).par.getD 6 0 + 1) 0
    rw [if_neg (fun h => absurd h.1 (by decide)), hpar, if_pos ⟨by rw [h6, h3]; exact hlast, hst⟩] at hexec
    exact ⟨_, hexec, jobTo_result b j 4 0⟩
  · intro s j bad u l hk hb hst ht hlate hlen hrun
    obtain ⟨a, b, c, par, -, hexec⟩ := exec_sweepWindowClose bad hk hb hst ht
    rw [decide_eq_true hlate, if_pos rfl, hrun, if_pos ⟨by decide, by rw [hst]; decide⟩] at hexec
    exact ⟨_, hexec, jobTo_result a j 5 0x0405⟩

end Sys2Proof.Machine
end

section
/-! The actions of the system slots (O21): the sample trigger, the conversion point, the window mark. -/

namespace Sys2Proof.Machine

/-- What a trigger notes of its set. -/
def setNoted (s : State) : Bool × Nat × Nat × Stamp × Nat × Nat :=
  (s.lat.openSet, s.lat.seq, s.lat.prevSeq, s.lat.st, s.lat.segs, s.lat.trigAt)

theorem setNoted_congr {s t : State} (h : t.lat = s.lat) : setNoted t = setNoted s :=
  congrArg (fun l : LatSt => (l.openSet, l.seq, l.prevSeq, l.st, l.segs, l.trigAt)) h

theorem setNoted_setRing (s : State) (c : Nat) (x : LatRing) : setNoted (s.setRing c x) = setNoted s := rfl

/-- The parts that a line end's trigger state may change, none of them Latigo's own. -/
def latless : Nat := partsMask (Part.allBut [.lat])

theorem latPassing_setNoted (s : State) (c : Nat) : setNoted (latPassing s c) = setNoted s := by
  unfold latPassing
  extract_lets x u
  have hu : setNoted u = setNoted s := by
    simp only [u]
    split
    · split <;> rfl
    · rfl
  clear_value u
  split
  · split
    · exact hu
    · split <;> exact hu
  · exact hu

/-- The launch of a set from a ring's line ends changes nothing of what its trigger noted. -/
theorem latLaunch_setNoted (w c : Nat) (s : State) : setNoted (latLaunch w c s) = setNoted s := by
  unfold latLaunch
  extract_lets u x r v q b
  have hv : setNoted v = setNoted s := (setNoted_setRing ..).trans (latPassing_setNoted s c)
  refine (foldl_keeps setNoted (fun t e => ?_) v _).trans hv
  dsimp only
  have ht : setNoted (latTrig t c e (latWant t c e)) = setNoted t :=
    setNoted_congr ((latTrig_within (K := latless) (by decide) (Within.refl _ t)).same .lat (by decide))
  split
  · exact ht
  · exact ht

/-- The set that the trigger of this tick opens. -/
def setOpened (s : State) : State :=
  let seq := seqNow s
  let mi := if s.msr.at_ = some s.now then s.msr.idx else s.msr.idx + 1
  { s with lat := { s.lat with
    openSet := true, seq := seq, prevSeq := s.lat.seq, st := s.stamp, segs := 0, midx := mi, trigAt := s.now, trained := false
    window := false } }

theorem exec_latTrigger {s : State} (w : Fin 80) (hr : s.lat.running = true) (hg : gridTick s = true) :
    ∃ t, exec (.latTrigger w) s = .next t ∧ setNoted t = setNoted (setOpened (setDeadline (sysAct s 0 0x20))) := by
  have hgo : ¬ (!s.lat.running || !gridTick s) = true := by
    rw [hr, hg]
    decide
  refine ⟨_, congrArg Host.Outcome.next (if_neg hgo), ?_⟩
  dsimp only
  have hopen (u : State) (n : Nat) (st : Stamp) : setNoted (dumpTrigger (capOpen u n st)) = setNoted u :=
    setNoted_congr ((dumpTrigger_within (K := latless) (by decide) (capOpen_within (K := latless) (by decide) (Within.refl _ u))).same .lat (by decide))
  have hsync (u : State) : setNoted (subSync u) = setNoted u := rfl
  rw [hsync, forN_keeps setNoted (fun c _ t => latLaunch_setNoted _ c t), hopen]
  rfl

/-- An action that is not on its way leaves the state as it is. -/
theorem sysAct_none {s : State} {n code : Nat} (h : takeIssued s n [code] 0 = none) : sysAct s n code = s := by
  simp only [sysAct, act, h]

theorem ptNs_congr {s t : State} (h : t.pt = s.pt) : t.ptNs = s.ptNs := by
  rw [State.ptNs, State.ptNs, State.stamp, State.stamp, h]

/-- The parts that a system slot's action may change. -/
def sysActMask : Nat := partsMask [.mem, .out, .irqHeld, .q, .trl, .rTrellis, .rFurrow, .upd, .furBits]

/-- The conversion point of the tick, once the slot's action has left. -/
def pointTaken (s u : State) : State :=
  let l := u.msr.links.map fun e => (e.1, { e.2 with convs := e.2.convs.dropRange 0 (16 * (s.msr.idx + 1 - 2)) })
  { u with msr := { u.msr with idx := s.msr.idx + 1, seq := seqNow u, at_ := some u.now, links := l } }

/-- The frequency of the cycle that begins, once in it. -/
def windowMarked (s : State) : State :=
  let x := freqMark s
  let l := s.til.wz.freqs
  { s with til := { s.til with wz := { s.til.wz with freqs := if l.any (· / 2 ^ 32 == x / 2 ^ 32) then l else l ++ [x] } } }

theorem windowMarked_marks (s : State) : (windowMarked s).til.wz.freqs.any (· / 2 ^ 32 == freqMark (windowMarked s) / 2 ^ 32) = true := by
  have hx : freqMark (windowMarked s) = freqMark s := rfl
  rw [hx]
  unfold windowMarked
  dsimp only
  split
  case isTrue h => exact h
  case isFalse h =>
    rw [List.any_append]
    simp

/-- Settles O21: a trigger, a point and a mark act in the tick of their grid alone. -/
theorem samplePlan : Obligations.SamplePlan := by
  refine ⟨?_, ?_, ?_, ?_, ?_, ?_, ?_⟩
  · intro s w h
    have hno : (!s.lat.running || !gridTick s) = true := by
      obtain h | h := h
      · rw [h]
        rfl
      · rw [h]
        exact Bool.or_true _
    exact congrArg Host.Outcome.next (if_pos hno)
  · intro s w hr hg
    obtain ⟨t, hexec, hset⟩ := exec_latTrigger w hr hg
    have hnow : (setDeadline (sysAct s 0 0x20)).now = s.now :=
      (setDeadline_within (K := partsMask (Part.allBut [.now])) (by decide) (sysAct_within (K := partsMask (Part.allBut [.now])) (by decide)
        (Within.refl _ s))).same .now (by decide)
    generalize setDeadline (sysAct s 0 0x20) = u at hset hnow
    refine ⟨t, hexec, congrArg (fun x => x.1) hset, congrArg (fun x => x.2.2.2.2.1) hset, ?_⟩
    exact (congrArg (fun x => x.2.2.2.2.2) hset).trans hnow
  · intro s w hr hg ho hi
    obtain ⟨t, hexec, hset⟩ := exec_latTrigger w hr hg
    have hs : setDeadline (sysAct s 0 0x20) = s := by
      rw [sysAct_none hi]
      exact if_pos (by rw [ho]; rfl)
    rw [hs] at hset
    exact ⟨t, hexec, congrArg (fun x => x.2.1) hset, congrArg (fun x => x.2.2.1) hset, congrArg (fun x => x.2.2.2.1) hset⟩
  · intro s hr hg
    have hgo : (s.msr.running && gridTick s) = true := by rw [hr, hg]; rfl
    have hexec : exec .msrPoint s = .next (pointTaken s (sysAct s 1 0x21)) := congrArg Host.Outcome.next (if_pos hgo)
    have hw := sysAct_within (K := sysActMask) (a2 := 1) (a3 := 0x21) (by decide) (Within.refl _ s)
    have hseq : seqNow (sysAct s 1 0x21) = seqNow s := by
      exact congrArg (· / 250000 % 40000) (ptNs_congr (hw.same .pt (by decide)))
    have hnow := hw.same .now (by decide)
    have hmsr := hw.same .msr (by decide)
    have hnone (h : takeIssued s 1 [0x21] 0 = none) := sysAct_none h
    generalize sysAct s 1 0x21 = u at hexec hw hseq hnow hmsr hnone
    refine ⟨_, hexec, rfl, hseq, congrArg some hnow, ?_, hw.same .lat (by decide), hw.same .til (by decide), fun h => ?_⟩
    · have hl : (pointTaken s u).msr.links.map (·.1) = u.msr.links.map (·.1) := by
        simp only [pointTaken, List.map_map, Function.comp_def]
      rw [hl, hmsr]
    · have hu := hnone h
      subst hu
      exact ⟨rfl, rfl⟩
  · intro s h
    have hno : (s.msr.running && gridTick s) = false := by
      obtain h | h := h
      · rw [h, Bool.false_and]
      · rw [h, Bool.and_false]
    exact congrArg Host.Outcome.next (if_neg (Bool.eq_false_iff.mp hno))
  · intro s hr hc
    have hgo : (s.rdB F.TIL_STAT_RUNNING && cycleNew s) = true := by
      rw [State.rdB, hr, hc]
      rfl
    have hexec : exec .tilthWindow s = .next (windowMarked (sysAct s 2 0x22)) := congrArg Host.Outcome.next (if_pos hgo)
    have hw := sysAct_within (K := sysActMask) (a2 := 2) (a3 := 0x22) (by decide) (Within.refl _ s)
    have htil := hw.same .til (by decide)
    have hnone (h : takeIssued s 2 [0x22] 0 = none) := sysAct_none h
    generalize sysAct s 2 0x22 = u at hexec htil hnone
    refine ⟨_, hexec, windowMarked_marks u, ?_, fun h => ?_⟩
    · have htil' : u.til = s.til := htil
      rw [← htil']
      rfl
    · have hu := hnone h
      subst hu
      exact ⟨rfl, rfl⟩
  · intro s h
    have hno : (s.rdB F.TIL_STAT_RUNNING && cycleNew s) = false := by
      obtain h | h := h
      · rw [State.rdB, h]
        rfl
      · rw [h, Bool.and_false]
    exact congrArg Host.Outcome.next (if_neg (Bool.eq_false_iff.mp hno))

end Sys2Proof.Machine
end

section
/-! Capture on and off, and a dump's end (O33). -/

namespace Sys2Proof.Machine

theorem rdB_of_rd_one {s : State} {f : Field} (h : s.rd f = 1) : s.rdB f = true := by
  rw [State.rdB, h]
  rfl

theorem rdB_of_rd_zero {s : State} {f : Field} (h : s.rd f = 0) : s.rdB f = false := by
  rw [State.rdB, h]
  rfl

/-- Capture that its regions allow starts with an empty ring. -/
theorem capOn_ok {u : State} (h : capRegionsOk u = true) : (capOn u).cap = {} ∧ (capOn u).rd F.CAP_CTL_EN = 1 ∧
    (capOn u).rd F.CAP_STAT_RUNNING = 1 ∧ (capOn u).rd F.CAP_SET_CNT_SETNO = 0 ∧ (capOn u).rd F.CAP_WR_IDX_IDX = 0 := by
  rw [capOn, if_pos h, capRestart]
  refine ⟨rfl, ?_, State.rd_wr_of_lt _ (Nat.lt_of_lt_of_eq Nat.one_lt_two rfl), ?_, ?_⟩
  · rw [State.rd_wr_ne _ _ (by decide), State.rd_wr_ne _ _ (by decide), State.rd_wr_ne _ _ (by decide), State.rd_wr_ne _ _ (by decide)]
    exact State.rd_wr_of_lt u (Nat.lt_of_lt_of_eq Nat.one_lt_two rfl)
  · rw [State.rd_wr_ne _ _ (by decide)]
    exact State.rd_wr_of_lt _ (Nat.two_pow_pos _)
  · rw [State.rd_wr_ne _ _ (by decide), State.rd_wr_ne _ _ (by decide)]
    exact State.rd_wr_of_lt _ (Nat.two_pow_pos _)

theorem cap_status (w : State) (c : Nat) : (w.status c).cap = w.cap := rfl

/-- The answer to turning capture on. -/
def capAnswered (u : State) : State := (capOn u).status (if (capOn u).rdB F.CAP_CTL_EN then 0 else 0x0302)

theorem capAnswered_ok (u : State) (hok : capRegionsOk u = true) : (capAnswered u).resp = ⟨0, 0⟩ ∧ (capAnswered u).rd F.CAP_CTL_EN = 1 ∧
    (capAnswered u).rd F.CAP_STAT_RUNNING = 1 ∧ (capAnswered u).rd F.CAP_SET_CNT_SETNO = 0 ∧ (capAnswered u).rd F.CAP_WR_IDX_IDX = 0 ∧
    (capAnswered u).cap = {} := by
  obtain ⟨hc, hone, hrun, hset, hidx⟩ := capOn_ok hok
  have h : capAnswered u = (capOn u).status 0 := congrArg (State.status _) (if_pos (rdB_of_rd_one hone))
  rw [h]
  generalize capOn u = w at hc hone hrun hset hidx
  exact ⟨rfl, (State.rd_status ..).trans hone, (State.rd_status ..).trans hrun, (State.rd_status ..).trans hset, (State.rd_status ..).trans hidx, (cap_status ..).trans hc⟩

theorem capAnswered_refused (u : State) (hu : u.rd F.CAP_CTL_EN = 0) (hno : capRegionsOk u = false) : (capAnswered u).resp = ⟨0x0302, 0⟩ ∧
    (capAnswered u).rd F.CAP_STAT_CFG_ERR = 1 ∧ (capAnswered u).rd F.CAP_CTL_EN = 0 ∧ (capAnswered u).cap = u.cap ∧
    (capAnswered u).mem = u.mem := by
  have hcfg : capOn u = u.wr F.CAP_STAT_CFG_ERR 1 := if_neg (by rw [hno]; decide)
  have hzero : (u.wr F.CAP_STAT_CFG_ERR 1).rd F.CAP_CTL_EN = 0 := (State.rd_wr_ne _ _ (by decide)).trans hu
  have hset : (u.wr F.CAP_STAT_CFG_ERR 1).rd F.CAP_STAT_CFG_ERR = 1 := State.rd_wr_of_lt _ (Nat.lt_of_lt_of_eq Nat.one_lt_two rfl)
  have hkept : (u.wr F.CAP_STAT_CFG_ERR 1).cap = u.cap ∧ (u.wr F.CAP_STAT_CFG_ERR 1).mem = u.mem := ⟨rfl, rfl⟩
  have h : capAnswered u = (u.wr F.CAP_STAT_CFG_ERR 1).status 0x0302 := by
    rw [capAnswered, hcfg]
    exact congrArg (State.status _) (if_neg (by rw [rdB_of_rd_zero hzero]; decide))
  rw [h]
  generalize u.wr F.CAP_STAT_CFG_ERR 1 = w at hzero hset hkept
  exact ⟨rfl, (State.rd_status ..).trans hset, (State.rd_status ..).trans hzero, hkept⟩

/-- Capture that is off has an empty ring. -/
theorem capOff_shows (s : State) : (capOff s).cap = {} ∧ (capOff s).rd F.CAP_CTL_EN = 0 ∧ (capOff s).rd F.CAP_STAT_RUNNING = 0 := by
  rw [capOff]
  have hen : (State.wr (State.wr { tilStopNote s true with cap := {} } F.CAP_CTL_EN 0) F.CAP_STAT_RUNNING 0).rd F.CAP_CTL_EN = 0 := by
    rw [State.rd_wr_ne _ _ (by decide)]
    exact State.rd_wr_of_lt _ (Nat.two_pow_pos _)
  have hrun : (State.wr (State.wr { tilStopNote s true with cap := {} } F.CAP_CTL_EN 0) F.CAP_STAT_RUNNING 0).rd F.CAP_STAT_RUNNING = 0 :=
    State.rd_wr_of_lt _ (Nat.two_pow_pos _)
  have hcap : (State.wr (State.wr { tilStopNote s true with cap := {} } F.CAP_CTL_EN 0) F.CAP_STAT_RUNNING 0).cap = {} := rfl
  generalize State.wr (State.wr { tilStopNote s true with cap := {} } F.CAP_CTL_EN 0) F.CAP_STAT_RUNNING 0 = u at hen hrun hcap
  have hw := jobsFail_within (K := partsMask (Part.allBut [.cap, .rMsr])) (a2 := fun x => x.kind == 3 && x.state == 2) (a3 := 0x0809) (by decide)
    (Within.refl _ u)
  exact ⟨(hw.same .cap (by decide)).trans hcap, (hw.rd_eq (i := 44) (by unfold Blk; decide) (by decide) (by decide)).trans hen,
    (hw.rd_eq (i := 44) (by unfold Blk; decide) (by decide) (by decide)).trans hrun⟩

section
variable {s : State} {r : Req} {v : Word} {t : State} {c : Nat}

theorem exec_capCtlWrite (hlive : windowDead s 0x20300800 = false) (ht : capCtlWrite s r v.toNat = t.status c)
    (h : c ≠ 0x0110 ∧ c ≠ 0x0610 ∧ c ≠ 0x0611) : exec (.capCtlWrite r v) s = .next (t.status c) :=
  next_hostWrite_status hlive (by decide) ht h

/-- A write that no rule refuses takes SIZE, then EN. -/
theorem capCtlWrite_taken (hsup : r.supOrStitch = true)
    (hsize : s.rdB F.CAP_CTL_EN = false ∨ F.CAP_CTL_SIZE.slice v.toNat = s.rd F.CAP_CTL_SIZE)
    (hdump : s.rdB F.CAP_CTL_EN = false ∨ dumpHolds s = false) : capCtlWrite s r v.toNat =
    (if v.toNat % 2 = 1 then
      if s.rdB F.CAP_CTL_EN then (s.wr F.CAP_CTL_SIZE (F.CAP_CTL_SIZE.slice v.toNat)).status 0
      else (capOn (s.wr F.CAP_CTL_SIZE (F.CAP_CTL_SIZE.slice v.toNat))).status
        (if (capOn (s.wr F.CAP_CTL_SIZE (F.CAP_CTL_SIZE.slice v.toNat))).rdB F.CAP_CTL_EN then 0 else 0x0302)
    else if s.rdB F.CAP_CTL_EN then (capOff (s.wr F.CAP_CTL_SIZE (F.CAP_CTL_SIZE.slice v.toNat))).status 0
      else (s.wr F.CAP_CTL_SIZE (F.CAP_CTL_SIZE.slice v.toNat)).status 0) := by
  have hs : ¬ (s.rdB F.CAP_CTL_EN && F.CAP_CTL_SIZE.slice v.toNat != s.rd F.CAP_CTL_SIZE) = true := by
    obtain h | h := hsize
    · rw [h]
      exact Bool.false_ne_true
    · simp [h]
  have hd : ¬ (s.rdB F.CAP_CTL_EN && v.toNat % 2 == 0 && dumpHolds s) = true := by
    obtain h | h := hdump <;> simp [h]
  rw [capCtlWrite]
  extract_lets
  rw [if_neg (by rw [hsup]; decide), if_neg hs, if_neg hd]

/-- Capture turned on. -/
theorem exec_capCtlWrite_on (hlive : windowDead s 0x20300800 = false) (hsup : r.supOrStitch = true) (hen : s.rd F.CAP_CTL_EN = 0)
    (hv : v.toNat % 2 = 1) : exec (.capCtlWrite r v) s =
    .next ((capOn (s.wr F.CAP_CTL_SIZE (F.CAP_CTL_SIZE.slice v.toNat))).status
      (if (capOn (s.wr F.CAP_CTL_SIZE (F.CAP_CTL_SIZE.slice v.toNat))).rdB F.CAP_CTL_EN then 0 else 0x0302)) := by
  have hoff := rdB_of_rd_zero hen
  refine exec_capCtlWrite hlive ((capCtlWrite_taken hsup (.inl hoff) (.inl hoff)).trans ?_) (by split <;> decide)
  rw [if_pos hv, hoff, if_neg Bool.false_ne_true]

/-- Capture turned off. -/
theorem exec_capCtlWrite_off (hlive : windowDead s 0x20300800 = false) (hsup : r.supOrStitch = true) (hen : s.rd F.CAP_CTL_EN = 1)
    (hsize : F.CAP_CTL_SIZE.slice v.toNat = s.rd F.CAP_CTL_SIZE) (hv : v.toNat % 2 = 0) (hd : dumpHolds s = false) :
    exec (.capCtlWrite r v) s = .next ((capOff (s.wr F.CAP_CTL_SIZE (F.CAP_CTL_SIZE.slice v.toNat))).status 0) := by
  refine exec_capCtlWrite hlive ((capCtlWrite_taken hsup (.inr hsize) (.inr hd)).trans ?_) (by decide)
  rw [if_neg (by omega), rdB_of_rd_one hen, if_pos rfl]

end

/-- Settles O33: by the checks of CAP_CTL in their order, and the end of a dump. -/
theorem captureControl : Obligations.CaptureControl := by
  refine ⟨?_, ?_, ?_, ?_, ?_, ?_, ?_⟩
  · intro s r v hlive hsup
    exact exec_capCtlWrite hlive (if_pos (by rw [hsup]; rfl)) (by decide)
  · intro s r v hlive hsup hen hsize
    refine exec_capCtlWrite hlive ((if_neg (by rw [hsup]; decide)).trans (if_pos ?_)) (by decide)
    rw [rdB_of_rd_one hen, Bool.true_and]
    exact bne_iff_ne.mpr hsize
  · intro s r v hlive hsup hen hv hd
    refine exec_capCtlWrite hlive ((if_neg (by rw [hsup]; decide)).trans ?_) (by decide)
    split
    case isTrue => rfl
    case isFalse => exact if_pos (by rw [rdB_of_rd_one hen, hv, hd]; rfl)
  · intro s r v hlive hsup hen hv u
    have hexec := exec_capCtlWrite_on hlive hsup hen hv
    have hu : u.rd F.CAP_CTL_EN = 0 := (State.rd_wr_ne _ _ (by decide)).trans hen
    exact ⟨capAnswered u, hexec, capAnswered_ok u, capAnswered_refused u hu⟩
  · intro s r v hlive hsup hen hsize hv hd
    have hexec := exec_capCtlWrite_off hlive hsup hen hsize hv hd
    obtain ⟨hc, hz, hrun⟩ := capOff_shows (s.wr F.CAP_CTL_SIZE (F.CAP_CTL_SIZE.slice v.toNat))
    generalize capOff (s.wr F.CAP_CTL_SIZE (F.CAP_CTL_SIZE.slice v.toNat)) = u at hexec hc hz hrun
    refine ⟨_, hexec, rfl, ?_, ?_, hc⟩
    · rw [State.rd_status]
      exact hz
    · rw [State.rd_status]
      exact hrun
  · intro s j h
    refine congrArg Host.Outcome.next (if_neg ?_)
    obtain h | h := h
    · simp [h]
    · simp [h]
  · intro s j hk hst u d hsel hcount
    refine ⟨jobTo (u.putBytes d.dest (dumpHeader d 0)) j 4 0, congrArg Host.Outcome.next (if_pos ?_), rfl, jobTo_result _ j 4 0⟩
    rw [hk, hst]
    exact Bool.and_eq_true_iff.mpr ⟨Bool.and_eq_true_iff.mpr ⟨rfl, bne_iff_ne.mpr hsel⟩, beq_iff_eq.mpr hcount⟩

end Sys2Proof.Machine
end

section
/-! The servo of plant time (O22). -/

namespace Sys2Proof.Machine

section
variable {s : State} {r : Req} {ns : Word} {t : State} {c : Nat}

theorem exec_ptOffsetUpdate (hlive : windowDead s F.PT_OFS_NS_NS.addr = false) (ht : ptOffset s r ns.toNat = t.status c)
    (h : c ≠ 0x0110 ∧ c ≠ 0x0610 ∧ c ≠ 0x0611) : exec (.ptOffsetUpdate r ns) s = .next (t.status c) :=
  next_hostWrite_status hlive (by decide) ht h

theorem exec_ptSetGo (hlive : windowDead s F.PT_SET_CMD_GO.addr = false) (ht : ptSetGo s r = t.status c)
    (h : c ≠ 0x0110 ∧ c ≠ 0x0610 ∧ c ≠ 0x0611) : exec (.ptSetGo r) s = .next (t.status c) :=
  next_hostWrite_status hlive (by decide) ht h

end

/-- An offset that the servo takes leads to a step or to an update. -/
theorem ptOffset_taken {s : State} {v : Nat} {o : Int} (hen : s.rd F.PT_CTL_SERVO_EN = 1) (hst : s.rd F.PT_STAT_STEPPING = 0)
    (ho : o = toInt 32 v * 65536 + (s.rd F.PT_OFS_FRAC_FRAC : Int)) : ptOffset s .supervisor v =
      if decide (65536 * (s.rd F.PT_STEP_THR_THR : Int) < |o|) && (s.rd F.PT_STAT_STATE == 0 || s.rdB F.PT_CTL_STEP_EN) then
        (ptStep (s.wr F.PT_OFS_NS_NS v) (ptStepK o)).status 0
      else (ptUpdate (s.wr F.PT_OFS_NS_NS v) o).status 0 := by
  have hgo : ¬ (!s.rdB F.PT_CTL_SERVO_EN || s.rdB F.PT_STAT_STEPPING) = true := by
    rw [rdB_of_rd_one hen, rdB_of_rd_zero hst]
    decide
  subst ho
  rw [ptOffset, if_neg (fun h => h rfl), if_neg hgo]
  dsimp only
  rw [State.rd_wr_ne s v (show F.PT_OFS_FRAC_FRAC.key ≠ _ by decide), State.rd_wr_ne s v (show F.PT_STEP_THR_THR.key ≠ _ by decide),
    State.rd_wr_ne s v (show F.PT_STAT_STATE.key ≠ _ by decide), State.rdB_wr_ne v (show F.PT_CTL_STEP_EN.key ≠ _ by decide)]

/-- A step may be scheduled in FREERUN or with STEP_EN. -/
theorem stepsAllowed_iff {s : State} : (s.rd F.PT_STAT_STATE == 0 || s.rdB F.PT_CTL_STEP_EN) = true ↔
    s.rd F.PT_STAT_STATE = 0 ∨ s.rd F.PT_CTL_STEP_EN ≠ 0 := by
  rw [Bool.or_eq_true, beq_iff_eq, State.rdB, bne_iff_ne]

/-- Scheduling a step shows STEPPING and changes no other register. -/
theorem ptStep_shows (s : State) (k : Int) : (ptStep s k).rd F.PT_STAT_STEPPING = 1 ∧
    (ptStep s k).pt = { s.pt with stepK := k, heldFrom := s.now } ∧ s.RegsBut (ptStep s k) [F.PT_STAT_STEPPING] :=
  ⟨State.rd_wr_of_lt _ (Nat.lt_of_lt_of_eq Nat.one_lt_two rfl), rfl, (s.RegsBut_refl _).set List.mem_cons_self rfl⟩

/-- GO that no rule refuses schedules the step towards PT_SET. -/
theorem ptSetGo_taken {s : State} (hst : s.rd F.PT_STAT_STEPPING = 0) (h : s.rd F.PT_STAT_STATE = 0 ∨ s.rd F.PT_CTL_STEP_EN = 1) :
    ptSetGo s .supervisor = (ptStep s (ptStepK (((s.ptNs : Int) - ((s.rd F.PT_SET_S_LO_S_LO + 2 ^ 32 * s.rd F.PT_SET_S_HI_S_HI) *
      1000000000 + s.rd F.PT_SET_NS_NS : Nat)) * 65536))).status 0 := by
  have hgo : ¬ (s.rdB F.PT_STAT_STEPPING || !(s.rd F.PT_STAT_STATE == 0 || s.rdB F.PT_CTL_STEP_EN)) = true := by
    rw [rdB_of_rd_zero hst, stepsAllowed_iff.mpr (h.imp_right fun h => by rw [h]; decide)]
    decide
  rw [ptSetGo, if_neg (fun h => h rfl), if_neg hgo]

/-- Plant time and the registers as the step leaves them, before the slots follow. -/
def ptStepped (s : State) : State :=
  let k := s.pt.stepK
  let n := (((s.ptNs : Int) - k * 250000) % (2 ^ 48 * 1000000000)).toNat
  let t := PTime.ofNs n
  let s := { s with pt := { s.pt with sec := t.sec, ns := t.ns, lastUpd := none, heldFrom := s.now, within := 0, above := 0,
                                      stepped := BitVec.allOnes 8, stepK := 0, stepSet := true } }
  let s := ((s.wr F.PT_STAT_STEPPING 0).incSat F.PT_STEP_CNT_CNT).wr F.PT_STAT_STATE 1
  let c := ofInt 64 k
  (s.wr F.PT_LAST_STEP_LO_K_LO c).wr F.PT_LAST_STEP_HI_K_HI (c / 2 ^ 32)

/-- The registers that the step itself changes. -/
def ptStepRegs : List Field :=
  [F.PT_STAT_STEPPING, F.PT_STAT_STATE, F.PT_STEP_CNT_CNT, F.PT_LAST_STEP_LO_K_LO, F.PT_LAST_STEP_HI_K_HI]

theorem PTime.toNs_ofNs {n : Nat} (h : n < 2 ^ 48 * 1000000000) : (PTime.ofNs n).toNs = n := by
  have hsec : n / 1000000000 < 2 ^ 48 := by omega
  have hns : n % 1000000000 < 2 ^ 30 := by omega
  rw [PTime.ofNs, PTime.toNs, BitVec.toNat_ofNat, BitVec.toNat_ofNat, Nat.mod_eq_of_lt hsec, Nat.mod_eq_of_lt hns]
  omega

theorem ptStepped_ptNs (s : State) :
    ((ptStepped s).ptNs : Int) = ((s.ptNs : Int) - s.pt.stepK * 250000) % (2 ^ 48 * 1000000000) := by
  have hpos : (0 : Int) ≤ ((s.ptNs : Int) - s.pt.stepK * 250000) % (2 ^ 48 * 1000000000) := Int.emod_nonneg _ (by decide)
  have hlt : ((s.ptNs : Int) - s.pt.stepK * 250000) % (2 ^ 48 * 1000000000) < 2 ^ 48 * 1000000000 := Int.emod_lt_of_pos _ (by decide)
  have hns : (ptStepped s).ptNs = (PTime.ofNs (((s.ptNs : Int) - s.pt.stepK * 250000) % (2 ^ 48 * 1000000000)).toNat).toNs := rfl
  rw [hns]
  generalize ((s.ptNs : Int) - s.pt.stepK * 250000) % (2 ^ 48 * 1000000000) = n at hpos hlt
  rw [PTime.toNs_ofNs (by omega), Int.toNat_of_nonneg hpos]

theorem ptStepped_pt (s : State) : (ptStepped s).pt.stepK = 0 ∧ (ptStepped s).pt.lastUpd = none ∧ (ptStepped s).pt.stepSet = true :=
  ⟨rfl, rfl, rfl⟩

theorem ptStepped_regs (s : State) : s.RegsBut (ptStepped s) ptStepRegs := by
  have h0 (p : PlantSt) : s.RegsBut { s with pt := p } ptStepRegs := s.RegsBut_refl _
  unfold ptStepped
  extract_lets k n t __src u v c
  have h := ((((State.OnlyRegs.refl u ptStepRegs).wr (g := F.PT_STAT_STEPPING) (by simp [ptStepRegs]) 0).incSat (g := F.PT_STEP_CNT_CNT)
    (by simp [ptStepRegs])).wr (g := F.PT_STAT_STATE) (by simp [ptStepRegs]) 1)
  exact (h0 _).trans ((h.wr (g := F.PT_LAST_STEP_LO_K_LO) (by simp [ptStepRegs]) c).wr (g := F.PT_LAST_STEP_HI_K_HI)
    (by simp [ptStepRegs]) (c / 2 ^ 32)).regs

theorem ptStepped_shows (s : State) : (ptStepped s).rd F.PT_STAT_STEPPING = 0 ∧ (ptStepped s).rd F.PT_STAT_STATE = 1 := by
  unfold ptStepped
  extract_lets k n t __src u v c
  constructor
  · rw [State.rd_wr_ne _ _ (by decide), State.rd_wr_ne _ _ (by decide), State.rd_wr_ne _ _ (by decide), State.rd_incSat_ne _ (by decide)]
    exact State.rd_wr_of_lt _ (Nat.two_pow_pos _)
  · rw [State.rd_wr_ne _ _ (by decide), State.rd_wr_ne _ _ (by decide)]
    exact State.rd_wr_of_lt _ (Nat.lt_of_lt_of_eq (show 1 < 4 by decide) rfl)

/-- The step, and then the slots. -/
theorem ptStepApply_taken {s : State} (hst : s.rd F.PT_STAT_STEPPING = 1) (hg : gridTick s = true) : ptStepApply s =
    sysRearm (if s.pt.stepK < 0 then forN (fun n t => if n < 64 then t else slotCatch n t) 1024 (ptStepped s) else ptStepped s) := by
  have hgo : ¬ (!s.rdB F.PT_STAT_STEPPING || !gridTick s) = true := by
    rw [rdB_of_rd_one hst, hg]
    decide
  rw [ptStepApply, if_neg hgo]
  rfl

/-- The slots that follow a step leave plant time and its registers. -/
theorem ptStepSlots_within (s : State) (b : Bool) : Within (partsMask (Part.allBut [.pt, .rPlant])) s
    (sysRearm (if b then forN (fun n t => if n < 64 then t else slotCatch n t) 1024 s else s)) := by
  refine sysRearm_within (by decide) ?_
  split
  case isFalse => exact Within.refl _ s
  case isTrue =>
    refine forN_inv (fun n _ u h => ?_) (Within.refl _ s)
    split
    · exact h
    · exact slotCatch_within (by decide) h

/-- With no reference frames on, no register follows a step. -/
theorem sysRearm_regs {s : State} (h : ∀ i, i < 8 → s.rd (F.PT_CANREF_CFG_EN i) = 0) : (sysRearm s).regs = s.regs := by
  have hid : forN (fun i t => if t.rdB (F.PT_CANREF_CFG_EN i) then canrefSlot i t else t) 8 s = s :=
    forN_id fun i hi => if_neg (by rw [rdB_of_rd_zero (h i hi)]; decide)
  rw [sysRearm, hid]
  rfl

/-- The rate that the servo runs at. -/
theorem ptRate_shows (s : State) (r : Int) : (ptRate s r).pt = { s.pt with r := r } ∧
    s.RegsBut (ptRate s r) [F.PT_ADDEND_INT_INT, F.PT_ADDEND_FRAC_FRAC] := by
  refine ⟨rfl, ?_⟩
  unfold ptRate
  extract_lets a __src u
  exact ((((State.OnlyRegs.refl u [F.PT_ADDEND_INT_INT, F.PT_ADDEND_FRAC_FRAC]).wr (g := F.PT_ADDEND_INT_INT) (by simp) _).wr
    (g := F.PT_ADDEND_FRAC_FRAC) (by simp) _).regs)

/-- Holdover at NOMINAL + i. -/
def ptHeld (s : State) : State :=
  let s := ptRate (s.wr F.PT_STAT_STATE 3) (ptI s)
  { s with pt := { s.pt with lastUpd := none, within := 0, above := 0 } }

theorem ptHeld_shows (s : State) : (ptHeld s).rd F.PT_STAT_STATE = 3 ∧ (ptHeld s).pt.r = ptI s ∧ (ptHeld s).pt.lastUpd = none ∧
    s.RegsBut (ptHeld s) [F.PT_STAT_STATE, F.PT_ADDEND_INT_INT, F.PT_ADDEND_FRAC_FRAC] := by
  obtain ⟨hpt, hregs⟩ := ptRate_shows (s.wr F.PT_STAT_STATE 3) (ptI s)
  have hst : (s.wr F.PT_STAT_STATE 3).rd F.PT_STAT_STATE = 3 := State.rd_wr_of_lt _ (Nat.lt_of_lt_of_eq (show 3 < 4 by decide) rfl)
  have hwr := ((State.OnlyRegs.refl s [F.PT_STAT_STATE, F.PT_ADDEND_INT_INT, F.PT_ADDEND_FRAC_FRAC]).wr (g := F.PT_STAT_STATE) (by simp) 3).regs
  have hhold := hregs F.PT_STAT_STATE (by decide)
  rw [ptHeld]
  generalize s.wr F.PT_STAT_STATE 3 = u at hpt hregs hst hwr hhold
  generalize ptRate u (ptI s) = w at hpt hregs hhold
  refine ⟨hhold.trans hst, ?_, rfl, hwr.trans (hregs.mono (by simp))⟩
  exact (congrArg PlantSt.r hpt : w.pt.r = ptI s)

/-- A read of plant time latches its seconds. -/
theorem ptNowRead_shows (s : State) : (ptNowRead s).resp = ⟨0, s.pt.ns.toNat⟩ ∧
    (ptNowRead s).rd F.PT_NOW_S_LO_S_LO = s.pt.sec.toNat % 2 ^ 32 ∧ (ptNowRead s).rd F.PT_NOW_S_HI_S_HI = s.pt.sec.toNat / 2 ^ 32 ∧
    s.RegsBut (ptNowRead s) [F.PT_NOW_NS_NS, F.PT_NOW_S_LO_S_LO, F.PT_NOW_S_HI_S_HI] := by
  have hhi : s.pt.sec.toNat / 2 ^ 32 < 2 ^ 16 := by
    have := s.pt.sec.isLt
    omega
  refine ⟨rfl, ?_, ?_, ?_⟩
  · rw [ptNowRead, State.rd_answer, State.rd_wr_ne _ _ (by decide)]
    exact State.rd_wr_self _ _ _
  · rw [ptNowRead, State.rd_answer]
    exact State.rd_wr_of_lt _ hhi
  · exact ((((State.OnlyRegs.refl s [F.PT_NOW_NS_NS, F.PT_NOW_S_LO_S_LO, F.PT_NOW_S_HI_S_HI]).wr (g := F.PT_NOW_NS_NS) (by simp) _).wr
      (g := F.PT_NOW_S_LO_S_LO) (by simp) _).wr (g := F.PT_NOW_S_HI_S_HI) (by simp) _).regs

/-- Settles O22: by the servo's checks in their order; the slots that follow a step leave plant time. -/
theorem plantTimeServo : Obligations.PlantTimeServo := by
  refine ⟨?_, ?_, ?_, ?_, ?_, ?_, ?_, ?_, ?_, ?_, ?_, ?_⟩
  · intro s r ns hlive hr
    exact exec_ptOffsetUpdate hlive (if_pos hr) (by decide)
  · intro s ns hlive h
    refine exec_ptOffsetUpdate hlive ((if_neg (fun h => h rfl)).trans (if_pos ?_)) (by decide)
    obtain h | h := h
    · rw [rdB_of_rd_zero h]
      rfl
    · rw [rdB_of_rd_one h, Bool.or_true]
  · intro s ns o hlive hen hst ho hbig hmay
    have hgo : (decide (65536 * (s.rd F.PT_STEP_THR_THR : Int) < |o|) && (s.rd F.PT_STAT_STATE == 0 || s.rdB F.PT_CTL_STEP_EN)) = true := by
      rw [decide_eq_true hbig, Bool.true_and, stepsAllowed_iff]
      exact hmay.imp_right fun h => by rw [h]; decide
    have hexec := exec_ptOffsetUpdate hlive ((ptOffset_taken hen hst ho).trans (if_pos hgo)) (by decide)
    obtain ⟨hs, hpt, hregs⟩ := ptStep_shows (s.wr F.PT_OFS_NS_NS ns.toNat) (ptStepK o)
    have hwr := ((State.OnlyRegs.refl s [F.PT_OFS_NS_NS, F.PT_STAT_STEPPING]).wr (g := F.PT_OFS_NS_NS) (by simp) ns.toNat).regs
    generalize ptStep (s.wr F.PT_OFS_NS_NS ns.toNat) (ptStepK o) = u at hexec hs hpt hregs
    exact ⟨_, hexec, (State.rd_status ..).trans hs, hpt, rfl, hwr.trans (hregs.mono (by simp))⟩
  · intro s ns o hlive hen hst ho h
    refine exec_ptOffsetUpdate hlive ((ptOffset_taken hen hst ho).trans (if_neg ?_)) (by decide)
    rw [Bool.and_eq_true, decide_eq_true_eq, stepsAllowed_iff]
    omega
  · intro s hst hg
    have hexec : exec .ptStepApply s = .next (ptStepApply s) := rfl
    rw [ptStepApply_taken hst hg] at hexec
    have hw := ptStepSlots_within (ptStepped s) (decide (s.pt.stepK < 0))
    simp only [decide_eq_true_eq] at hw
    obtain ⟨hstep, hstate⟩ := ptStepped_shows s
    obtain ⟨hk, hl, hset⟩ := ptStepped_pt s
    have hns := ptStepped_ptNs s
    have hregs := ptStepped_regs s
    have hback (hpos : 0 ≤ s.pt.stepK) : ¬ s.pt.stepK < 0 := by omega
    have hcan (h : ∀ i, i < 8 → s.rd (F.PT_CANREF_CFG_EN i) = 0) (i : Nat) (hi : i < 8) : (ptStepped s).rd (F.PT_CANREF_CFG_EN i) = 0 :=
      (hregs _ (by simp only [ptStepRegs, List.forall_mem_cons, Field.key, F.PT_CANREF_CFG_EN, F.PT_STAT_STEPPING, F.PT_STAT_STATE,
        F.PT_STEP_CNT_CNT, F.PT_LAST_STEP_LO_K_LO, F.PT_LAST_STEP_HI_K_HI]
                   exact ⟨by omega, by omega, by omega, by omega, by omega, fun _ h => nomatch h⟩)).trans (h i hi)
    generalize ptStepped s = u at hexec hw hstep hstate hk hl hset hns hregs hcan
    have hpt := hw.same .pt (by decide)
    refine ⟨_, hexec, (hw.rd_eq (i := 42) (by unfold Blk; decide) (by decide) (by decide)).trans hstep,
      (hw.rd_eq (i := 42) (by unfold Blk; decide) (by decide) (by decide)).trans hstate,
      (congrArg PlantSt.stepK hpt).trans hk, (congrArg PlantSt.lastUpd hpt).trans hl, (congrArg PlantSt.stepSet hpt).trans hset,
      (congrArg Int.ofNat (ptNs_congr hpt)).trans hns, fun hpos hoff => ?_⟩
    rw [if_neg (hback hpos)]
    exact hregs.trans (State.RegsBut.of_regs (State.RegsBut_refl _ _) (sysRearm_regs (hcan hoff)))
  · intro s h
    refine congrArg Host.Outcome.next (if_pos ?_)
    obtain h | h := h
    · rw [rdB_of_rd_zero h]
      rfl
    · rw [h]
      exact Bool.or_true _
  · intro s r hlive hr
    exact exec_ptSetGo hlive (if_pos hr) (by decide)
  · intro s hlive h
    refine exec_ptSetGo hlive ((if_neg (fun h => h rfl)).trans (if_pos ?_)) (by decide)
    rw [Bool.or_eq_true, Bool.not_eq_true', ← Bool.not_eq_true, stepsAllowed_iff, State.rdB, bne_iff_ne]
    omega
  · intro s hlive hst h
    have hexec := exec_ptSetGo hlive (ptSetGo_taken hst h) (by decide)
    obtain ⟨hs, hpt, hregs⟩ := ptStep_shows s (ptStepK (((s.ptNs : Int) - ((s.rd F.PT_SET_S_LO_S_LO + 2 ^ 32 * s.rd F.PT_SET_S_HI_S_HI) *
      1000000000 + s.rd F.PT_SET_NS_NS : Nat)) * 65536))
    generalize ptStepK (((s.ptNs : Int) - ((s.rd F.PT_SET_S_LO_S_LO + 2 ^ 32 * s.rd F.PT_SET_S_HI_S_HI) *
      1000000000 + s.rd F.PT_SET_NS_NS : Nat)) * 65536) = k at hexec hs hpt hregs
    generalize ptStep s k = u at hexec hs hpt hregs
    exact ⟨_, hexec, (State.rd_status ..).trans hs, rfl, hregs, (congrArg PlantSt.stepK hpt)⟩
  · intro s hst ht
    have hgo : ((s.rd F.PT_STAT_STATE == 1 || s.rd F.PT_STAT_STATE == 2) &&
        decide (s.pt.heldFrom + 80000 * max 1 (s.rd F.PT_HO_TMO_TMO) ≤ s.now)) = true := by
      rw [Bool.and_eq_true, Bool.or_eq_true, beq_iff_eq, beq_iff_eq, decide_eq_true_eq]
      exact ⟨hst, ht⟩
    exact ⟨ptHeld s, congrArg Host.Outcome.next (if_pos hgo), ptHeld_shows s⟩
  · intro s h
    refine congrArg Host.Outcome.next (if_neg ?_)
    rw [Bool.and_eq_true, Bool.or_eq_true, beq_iff_eq, beq_iff_eq, decide_eq_true_eq]
    omega
  · intro s hlive
    exact ⟨ptNowRead s, congrArg Host.Outcome.next (if_neg (by rw [hlive]; decide)), ptNowRead_shows s⟩

end Sys2Proof.Machine
end

section
/-! Ethernet ports and CAN reference frames (O23). -/

namespace Sys2Proof.Machine

/-! ## One bit of a map -/

theorem getLsbD_ofNat_two_pow {w : Nat} (i : Fin w) (j : Nat) : (BitVec.ofNat w (2 ^ i.val)).getLsbD j = decide (i.val = j) := by
  rw [BitVec.getLsbD_ofNat, Nat.testBit_two_pow, Bool.and_eq_right_iff_imp]
  intro h
  rw [decide_eq_true_eq] at h
  exact decide_eq_true (h ▸ i.isLt)

theorem getLsbD_or_bit {w : Nat} (x : BitVec w) (i : Fin w) : (x ||| BitVec.ofNat w (2 ^ i.val)).getLsbD i = true := by
  rw [BitVec.getLsbD_or, getLsbD_ofNat_two_pow, decide_eq_true rfl, Bool.or_true]

theorem getLsbD_and_not_bit {w : Nat} (x : BitVec w) (i : Fin w) : (x &&& ~~~BitVec.ofNat w (2 ^ i.val)).getLsbD i = false := by
  rw [BitVec.getLsbD_and, BitVec.getLsbD_not, getLsbD_ofNat_two_pow, decide_eq_true rfl, Bool.not_true, Bool.and_false, Bool.and_false]

/-- A map meets a bit where it holds it. -/
theorem and_bit_eq_zero_iff {w : Nat} (x : BitVec w) (i : Fin w) : (x &&& BitVec.ofNat w (2 ^ i.val) == 0) = !x.getLsbD i := by
  have hb : BitVec.ofNat w (2 ^ i.val) = BitVec.twoPow w i.val := by
    refine BitVec.eq_of_getLsbD_eq fun j hj => ?_
    rw [getLsbD_ofNat_two_pow, BitVec.getLsbD_twoPow, decide_eq_true i.isLt, Bool.true_and]
  rw [hb, BitVec.and_twoPow]
  cases x.getLsbD i.val with
  | false => rfl
  | true =>
    rw [if_pos rfl, Bool.not_true, beq_eq_false_iff_ne, ← hb]
    intro h
    have hbit := getLsbD_ofNat_two_pow i i.val
    rw [h, decide_eq_true rfl] at hbit
    exact absurd hbit (by rw [show (0 : BitVec w).getLsbD i.val = false from BitVec.getLsbD_zero]; decide)

/-! ## Ethernet -/

/-- With the SerDes PLL in window, nothing of its recovery is left. -/
theorem serdesBack_good {s : State} (h : s.girth.clkBad.getLsbD 5 = false) : serdesBack s = s := if_neg (by rw [h]; decide)

/-- A port that is on with a link takes a good frame. -/
theorem exec_ethFrameRx {s : State} {p : Fin 2} (frame : List Byte) (sub : Fin 40) {ts ptp : Bool} (hen : s.rd (F.ETH_CTL_EN p) = 1)
    (hl : s.rd (F.ETH_STAT_LINK p) = 1) (hptp : isPtpEvent frame = ptp) (hts : (ptp || s.rdB (F.ETH_CTL_RX_TS_ALL p)) = ts) :
    exec (.ethFrameRx p frame true sub) s = .next (hwPost s (s.rd (F.ETH_QUEUES_RXQ p))
      ([BitVec.ofNat 32 (frame.length % 65536 + 65536 * ts.toNat + 131072 * ptp.toNat)] ++
        (if ts then [BitVec.ofNat 32 s.pt.sec.toNat, BitVec.ofNat 32 (s.pt.sec.toNat / 2 ^ 32 + 65536 * sub.val),
          BitVec.ofNat 32 s.pt.ns.toNat] else [0, 0, 0]) ++ toWords frame)) := by
  have hgo : ¬ (!s.rdB (F.ETH_CTL_EN p) || !s.rdB (F.ETH_STAT_LINK p) || !true) = true := by
    rw [rdB_of_rd_one hen, rdB_of_rd_one hl]
    decide
  subst hts hptp
  exact congrArg Host.Outcome.next (if_neg hgo)

theorem ethOn {s : State} {p : Fin 2} (hen : s.rd (F.ETH_CTL_EN p) = 1) (hl : s.rd (F.ETH_STAT_LINK p) = 1) :
    ¬ (!s.rdB (F.ETH_CTL_EN p) || !s.rdB (F.ETH_STAT_LINK p)) = true := by
  rw [rdB_of_rd_one hen, rdB_of_rd_one hl]
  decide

/-- A frame that is sent leaves the module; its stamp changes nothing that left. -/
theorem ethSend_out (s : State) (p h sub : Nat) (ws : List Nat) : (ethSend s p h sub ws).out =
    s.out ++ [.eth p ((wordBytes (ws.drop h)).take (ws.headD 0 % 65536)) s.stamp] := by
  unfold ethSend
  extract_lets w0 u e l
  have hu : u.out = s.out ++ [.eth p ((wordBytes (ws.drop h)).take (w0 % 65536)) s.stamp] := rfl
  clear_value u
  rw [← hu]
  repeat' split
  all_goals rfl

section
variable {s : State} {p : Fin 2} {sub : Fin 40} {ws : List Nat} {u : State}

/-- The head of an open port's queue, once it is known. -/
theorem exec_ethFrameTx (hen : s.rd (F.ETH_CTL_EN p) = 1) (hl : s.rd (F.ETH_STAT_LINK p) = 1) (hh : ethHead s p = some (ws, u))
    (hno : ethLaunches ws = false) : exec (.ethFrameTx p sub) s = .next (ethSend u p 1 sub ws) := by
  have hexec : exec (.ethFrameTx p sub) s = execEthFrameTx p sub s := rfl
  rw [hexec, execEthFrameTx, hh, if_neg (ethOn hen hl)]
  dsimp only
  rw [hno, if_neg Bool.false_ne_true]

/-- What a packet with a launch time at the head of an open port's queue comes to. -/
theorem exec_ethLaunch {at_ : Nat} (hen : s.rd (F.ETH_CTL_EN p) = 1) (hl : s.rd (F.ETH_STAT_LINK p) = 1)
    (hh : ethHead s p = some (ws, u)) (hyes : ethLaunches ws = true)
    (hat : at_ = (ws.getD 1 0 + 2 ^ 32 * (ws.getD 2 0 % 65536)) * 1000000000 + ws.getD 3 0 % 2 ^ 30) :
    ∃ late : State, exec (.ethLaunch p sub) s = .next
      (if s.ptNs + 1000000 * s.rd (F.ETH_LAUNCH_MAX_MAX p) < at_ then u.incSat (F.ETH_TS_STAT_DROP_CNT p)
       else if at_ + 13 < s.ptNs then late else if s.ptNs + 13 < at_ then s else ethSend u p 4 sub ws) := by
  have hexec : exec (.ethLaunch p sub) s = execEthLaunch p sub s := rfl
  subst hat
  rw [hexec, execEthLaunch, hh, if_neg (ethOn hen hl)]
  dsimp only
  rw [hyes, if_neg (by decide)]
  exact ⟨_, rfl⟩

end

/-- The head of the queue of stamps, shown. -/
def txtsShown (s : State) (p : Nat) (e : TxTs) : State :=
  let s := (s.wr (F.ETH_TXTS_NS_NS p) e.pt.ns.toNat).wr (F.ETH_TXTS_NS_VALID p) 1
  let s := (s.wr (F.ETH_TXTS_S_LO_S_LO p) e.pt.sec.toNat).wr (F.ETH_TXTS_HI_S_HI p) (e.pt.sec.toNat / 2 ^ 32)
  (s.wr (F.ETH_TXTS_HI_SUB p) e.sub).wr (F.ETH_TXTS_HI_TAG p) e.tag

theorem txtsShown_lo (s : State) (p : Nat) (e : TxTs) : (txtsShown s p e).rd (F.ETH_TXTS_S_LO_S_LO p) = e.pt.sec.toNat % 2 ^ 32 := by
  have hne {f : Field} (h : f = F.ETH_TXTS_HI_S_HI p ∨ f = F.ETH_TXTS_HI_SUB p ∨ f = F.ETH_TXTS_HI_TAG p) :
      (F.ETH_TXTS_S_LO_S_LO p).key ≠ f.key := by
    obtain rfl | rfl | rfl := h
    · simp only [Field.key, F.ETH_TXTS_S_LO_S_LO, F.ETH_TXTS_HI_S_HI]; omega
    · simp only [Field.key, F.ETH_TXTS_S_LO_S_LO, F.ETH_TXTS_HI_SUB]; omega
    · simp only [Field.key, F.ETH_TXTS_S_LO_S_LO, F.ETH_TXTS_HI_TAG]; omega
  rw [txtsShown, State.rd_wr_ne _ _ (hne (.inr (.inr rfl))), State.rd_wr_ne _ _ (hne (.inr (.inl rfl))), State.rd_wr_ne _ _ (hne (.inl rfl))]
  exact State.rd_wr_self _ _ _

theorem txtsShown_pt (s : State) (p : Nat) (e : TxTs) : (txtsShown s p e).pt = s.pt := rfl

theorem ethTxtsRead_some {s : State} {p : Nat} {e : TxTs} {l : List TxTs} (h : (if p = 0 then s.pt.txts0 else s.pt.txts1) = e :: l) :
    ethTxtsRead s p = (if p = 0 then { txtsShown s p e with pt := { s.pt with txts0 := l } } else
      { txtsShown s p e with pt := { s.pt with txts1 := l } }).answer 0 (e.pt.ns.toNat + 2 ^ 31) := by
  rw [ethTxtsRead, h]
  rfl

theorem exec_ethTxtsRead {s : State} {p : Fin 2} (hlive : windowDead s (F.ETH_TXTS_NS_NS p).addr = false) :
    exec (.ethTxtsRead p) s = .next (ethTxtsRead s p) := congrArg Host.Outcome.next (if_neg (by rw [hlive]; decide))

/-- Settles O23, the oldest stamp of ETH0. -/
theorem ethTxtsRead_eth0 {s : State} {e : TxTs} {l : List TxTs} (hlive : windowDead s (F.ETH_TXTS_NS_NS 0).addr = false)
    (h : s.pt.txts0 = e :: l) : Ends (.ethTxtsRead 0) s fun t =>
    t.resp = ⟨0, e.pt.ns.toNat + 2 ^ 31⟩ ∧ t.pt = { s.pt with txts0 := l } ∧ t.rd (F.ETH_TXTS_S_LO_S_LO 0) = e.pt.sec.toNat % 2 ^ 32 := by
  have hexec := exec_ethTxtsRead (p := 0) hlive
  have hread : ethTxtsRead s 0 = State.answer { txtsShown s 0 e with pt := { s.pt with txts0 := l } } 0 (e.pt.ns.toNat + 2 ^ 31) :=
    ethTxtsRead_some h
  have hlo := txtsShown_lo s 0 e
  refine ⟨ethTxtsRead s 0, hexec, ?_⟩
  rw [hread]
  exact ⟨State.answer_resp .., rfl, (State.rd_answer ..).trans hlo⟩

/-- Settles O23, the oldest stamp of ETH1. -/
theorem ethTxtsRead_eth1 {s : State} {e : TxTs} {l : List TxTs} (hlive : windowDead s (F.ETH_TXTS_NS_NS 1).addr = false)
    (h : s.pt.txts1 = e :: l) : Ends (.ethTxtsRead 1) s fun t =>
    t.resp = ⟨0, e.pt.ns.toNat + 2 ^ 31⟩ ∧ t.pt = { s.pt with txts1 := l } ∧ t.rd (F.ETH_TXTS_S_LO_S_LO 1) = e.pt.sec.toNat % 2 ^ 32 := by
  have hexec := exec_ethTxtsRead (p := 1) hlive
  have hread : ethTxtsRead s 1 = State.answer { txtsShown s 1 e with pt := { s.pt with txts1 := l } } 0 (e.pt.ns.toNat + 2 ^ 31) :=
    ethTxtsRead_some h
  have hlo := txtsShown_lo s 1 e
  refine ⟨ethTxtsRead s 1, hexec, ?_⟩
  rw [hread]
  exact ⟨State.answer_resp .., rfl, (State.rd_answer ..).trans hlo⟩

/-! ## CAN reference frames -/

section
variable {s : State} {i : Fin 8}

theorem canrefOn_congr {s u : State} (h : ∀ f ∈ [F.PT_STAT_STATE, F.PT_CANREF_CFG_EN i, F.PT_CANREF_CFG_FREERUN_TX i], u.rd f = s.rd f) :
    canrefOn u i = canrefOn s i := by
  have hst := h F.PT_STAT_STATE (by simp)
  have hen := h (F.PT_CANREF_CFG_EN i) (by simp)
  have hfr := h (F.PT_CANREF_CFG_FREERUN_TX i) (by simp)
  simp only [canrefOn, State.rdB, hst, hen, hfr]

theorem PT_CANREF_CFG_FREERUN_TX_blk (i : Nat) : Blk (F.PT_CANREF_CFG_FREERUN_TX i) 42 := by
  unfold Blk regPart F.PT_CANREF_CFG_FREERUN_TX Field.key F.GIRTH_MODE_MODE F.GIRTH_MODE_SUBSTATE
  dsimp only
  rw [if_neg (by omega), if_neg (by omega)]
  omega

/-- A SYNC still unsent at the next period is aborted and counted. -/
def syncCut (s : State) (i : Fin 8) : State :=
  if s.pt.syncPend &&& BitVec.ofNat 8 (2 ^ i.val) != 0 then canSystemAbort (s.incSat (F.PT_CANREF_STAT_MISSED i)) i 1 else s

/-- The next period of controller `i`: SEQ advances, and the slot names the one after. -/
def syncNext (s : State) (i : Fin 8) : State :=
  canrefSlot i { s.incWrap (F.PT_CANREF_STAT_SEQ i) with
    pt := { s.pt with syncPend := s.pt.syncPend &&& ~~~BitVec.ofNat 8 (2 ^ i.val) } }

theorem exec_canrefSync (hen : s.rd (F.PT_CANREF_CFG_EN i) = 1) : exec (.canrefSync i) s = .next
    (let w := syncNext (syncCut s i) i
     if canrefOn w i then
       let t := canSystem w i 1 (canrefFrame w i (le 1 (0x10 + w.rd (F.PT_CANREF_STAT_SEQ i.val))))
       { t with pt := { t.pt with syncPend := t.pt.syncPend ||| BitVec.ofNat 8 (2 ^ i.val) } }
     else w) :=
  if_neg (by rw [rdB_of_rd_one hen]; decide)

/-- Cutting a SYNC off leaves plant time and, but for the count, its registers. -/
theorem syncCut_shows (s : State) (i : Fin 8) : (syncCut s i).pt = s.pt ∧
    ∀ f, Blk f 42 → f.key ≠ (F.PT_CANREF_STAT_MISSED i).key → (syncCut s i).rd f = s.rd f := by
  unfold syncCut
  split
  case isFalse => exact ⟨rfl, fun _ _ _ => rfl⟩
  case isTrue =>
    have hw := canSystemAbort_within (K := partsMask (Part.allBut [.pt, .rPlant])) (a2 := i) (a3 := 1) (by decide)
      (Within.refl _ (s.incSat (F.PT_CANREF_STAT_MISSED i)))
    exact ⟨hw.same .pt (by decide), fun f hf hk => (hw.rd_eq hf (by decide) (by decide)).trans (State.rd_incSat_ne _ hk)⟩

theorem syncNext_shows (s : State) (i : Fin 8) :
    (syncNext s i).pt = { s.pt with syncPend := s.pt.syncPend &&& ~~~BitVec.ofNat 8 (2 ^ i.val) } ∧
    (syncNext s i).rd (F.PT_CANREF_STAT_SEQ i) = (s.rd (F.PT_CANREF_STAT_SEQ i) + 1) % 2 ^ (F.PT_CANREF_STAT_SEQ i).w ∧
    ∀ f, Blk f 42 → f.key ≠ (F.PT_CANREF_STAT_SEQ i).key → (syncNext s i).rd f = s.rd f := by
  have hw := canrefSlot_within (K := partsMask (Part.allBut [.pt, .rPlant])) (a1 := i) (by decide)
    (Within.refl _ { s.incWrap (F.PT_CANREF_STAT_SEQ i) with
      pt := { s.pt with syncPend := s.pt.syncPend &&& ~~~BitVec.ofNat 8 (2 ^ i.val) } })
  exact ⟨hw.same .pt (by decide), (hw.rd_eq (PT_CANREF_STAT_SEQ_blk i) (by decide) (by decide)).trans (State.rd_wr_self _ _ _),
    fun f hf hk => (hw.rd_eq hf (by decide) (by decide)).trans (State.rd_incWrap_ne _ hk)⟩

/-- A period of controller `i` as its parts leave it. -/
theorem canrefSync_shows (hen : s.rd (F.PT_CANREF_CFG_EN i) = 1) : Ends (.canrefSync i) s fun t =>
    t.rd (F.PT_CANREF_STAT_SEQ i) = (s.rd (F.PT_CANREF_STAT_SEQ i) + 1) % 2 ^ (F.PT_CANREF_STAT_SEQ i).w ∧
      t.pt.syncPend.getLsbD i = canrefOn s i ∧ t.pt.sec = s.pt.sec ∧ t.pt.ns = s.pt.ns := by
  obtain ⟨hcpt, hcrd⟩ := syncCut_shows s i
  obtain ⟨hnpt, hseq, hnrd⟩ := syncNext_shows (syncCut s i) i
  rw [hcpt] at hnpt
  rw [hcrd _ (PT_CANREF_STAT_SEQ_blk _) (by simp only [Field.key, F.PT_CANREF_STAT_SEQ, F.PT_CANREF_STAT_MISSED]; omega)] at hseq
  have hon : canrefOn (syncNext (syncCut s i) i) i = canrefOn s i := by
    refine canrefOn_congr fun f hf => ?_
    simp only [List.mem_cons, List.not_mem_nil, or_false] at hf
    obtain rfl | rfl | rfl := hf
    · refine (hnrd _ PT_STAT_STATE_blk ?_).trans (hcrd _ PT_STAT_STATE_blk ?_)
      · simp only [Field.key, F.PT_CANREF_STAT_SEQ, F.PT_STAT_STATE]; omega
      · simp only [Field.key, F.PT_CANREF_STAT_MISSED, F.PT_STAT_STATE]; omega
    · refine (hnrd _ (PT_CANREF_CFG_EN_blk _) ?_).trans (hcrd _ (PT_CANREF_CFG_EN_blk _) ?_)
      · simp only [Field.key, F.PT_CANREF_STAT_SEQ, F.PT_CANREF_CFG_EN]; omega
      · simp only [Field.key, F.PT_CANREF_STAT_MISSED, F.PT_CANREF_CFG_EN]; omega
    · refine (hnrd _ (PT_CANREF_CFG_FREERUN_TX_blk _) ?_).trans (hcrd _ (PT_CANREF_CFG_FREERUN_TX_blk _) ?_)
      · simp only [Field.key, F.PT_CANREF_STAT_SEQ, F.PT_CANREF_CFG_FREERUN_TX]; omega
      · simp only [Field.key, F.PT_CANREF_STAT_MISSED, F.PT_CANREF_CFG_FREERUN_TX]; omega
  refine ⟨_, exec_canrefSync hen, ?_⟩
  generalize syncNext (syncCut s i) i = w at hnpt hseq hon
  dsimp only
  rw [hon]
  split
  case isFalse h =>
    rw [hnpt]
    exact ⟨hseq, (getLsbD_and_not_bit _ i).trans (Bool.eq_false_iff.mpr h).symm, rfl, rfl⟩
  case isTrue h =>
    have hw := canSystem_within (K := partsMask (Part.allBut [.pt, .rPlant])) (a2 := i) (a3 := 1)
      (a4 := canrefFrame w i (le 1 (0x10 + w.rd (F.PT_CANREF_STAT_SEQ i.val)))) (by decide) (Within.refl _ w)
    generalize canSystem w i 1 (canrefFrame w i (le 1 (0x10 + w.rd (F.PT_CANREF_STAT_SEQ i.val)))) = v at hw
    have hpt : v.pt = w.pt := hw.same .pt (by decide)
    refine ⟨(hw.rd_eq (PT_CANREF_STAT_SEQ_blk _) (by decide) (by decide)).trans hseq, (getLsbD_or_bit _ i).trans h.symm, ?_, ?_⟩
    · exact (congrArg PlantSt.sec hpt).trans (by rw [hnpt])
    · exact (congrArg PlantSt.ns hpt).trans (by rw [hnpt])

/-- Plant time's bits as a FUP of controller `i` is handed over. -/
def fupTaken (s : State) (i : Fin 8) : State :=
  { s with pt := { s.pt with syncAcked := s.pt.syncAcked &&& ~~~BitVec.ofNat 8 (2 ^ i.val)
                             stepped := s.pt.stepped &&& ~~~BitVec.ofNat 8 (2 ^ i.val) } }

/-- A FUP that is handed over, or withheld. -/
theorem canrefFup_shows (hack : s.pt.syncAcked.getLsbD i = true) : Ends (.canrefFup i) s fun t =>
    t.pt.syncAcked = s.pt.syncAcked &&& ~~~BitVec.ofNat 8 (2 ^ i.val) ∧ t.pt.fupPend = s.pt.fupPend ∧ t.mem = s.mem ∧
      (canrefOn s i = false → t.can = s.can ∧ t.regs = s.regs) := by
  have hgo : ¬ (s.pt.syncAcked &&& BitVec.ofNat 8 (2 ^ i.val) == 0) = true := by
    rw [and_bit_eq_zero_iff, hack]
    decide
  have hexec : exec (.canrefFup i) s = .next (if !canrefOn s i then
      { s with pt := { s.pt with syncAcked := s.pt.syncAcked &&& ~~~BitVec.ofNat 8 (2 ^ i.val) } }
    else canSystem (fupTaken s i) i 2 (fupFrame s i)) := if_neg hgo
  refine ⟨_, hexec, ?_⟩
  cases hon : canrefOn s i with
  | false => exact ⟨rfl, rfl, rfl, fun _ => ⟨rfl, rfl⟩⟩
  | true =>
    rw [if_neg (by decide)]
    have hw := canSystem_within (K := partsMask (Part.allBut [.pt, .mem])) (a2 := i) (a3 := 2) (a4 := fupFrame s i) (by decide)
      (Within.refl _ (fupTaken s i))
    generalize canSystem (fupTaken s i) i 2 (fupFrame s i) = u at hw
    have hpt : u.pt = (fupTaken s i).pt := hw.same .pt (by decide)
    rw [hpt]
    exact ⟨rfl, rfl, hw.same .mem (by decide), fun h => absurd h (by decide)⟩

theorem fupDrop_none (h : s.pt.fupPend.getLsbD i = false) : fupDrop s i = s := if_neg (by rw [h]; decide)

/-- A FUP that is withdrawn is counted. -/
theorem fupDrop_some (h : s.pt.fupPend.getLsbD i = true) :
    (fupDrop s i).pt.fupPend = s.pt.fupPend &&& ~~~BitVec.ofNat 8 (2 ^ i.val) ∧ (fupDrop s i).pt.syncPend = s.pt.syncPend ∧
      (fupDrop s i).rd (F.PT_CANREF_STAT_MISSED i) =
        min (s.rd (F.PT_CANREF_STAT_MISSED i) + 1) (2 ^ (F.PT_CANREF_STAT_MISSED i).w - 1) := by
  have hw := canSystemAbort_within (K := partsMask (Part.allBut [.pt, .rPlant])) (a2 := i) (a3 := 2) (by decide)
    (Within.refl _ (s.incSat (F.PT_CANREF_STAT_MISSED i)))
  have hcnt := (hw.rd_eq (PT_CANREF_STAT_MISSED_blk i) (by decide) (by decide)).trans (State.rd_incSat_self s (F.PT_CANREF_STAT_MISSED i))
  rw [fupDrop, if_pos h]
  dsimp only
  generalize canSystemAbort (s.incSat (F.PT_CANREF_STAT_MISSED i)) i 2 = u at hw hcnt
  have hpt : u.pt = s.pt := hw.same .pt (by decide)
  rw [hpt]
  exact ⟨rfl, rfl, hcnt⟩

end

/-- Settles O23: the Ethernet rows by the head of their queue, the reference frames by their bits. -/
theorem timePorts : Obligations.TimePorts := by
  refine ⟨?_, ?_, ?_, ?_, ?_, ?_, ?_, ?_, ?_, ?_, ?_, fun s e l => ethTxtsRead_eth0, fun s e l => ethTxtsRead_eth1, ?_, ?_,
    fun s i => canrefSync_shows, ?_, fun s i => canrefFup_shows, ?_, ?_⟩
  · intro s p hse hdo
    have hgo : ¬ (s.mode == mSEATING || s.mode == mDORMANCY) = true := by
      rw [Bool.or_eq_true, beq_iff_eq, beq_iff_eq]
      exact not_or.mpr ⟨hse, hdo⟩
    refine ⟨_, congrArg Host.Outcome.next (if_neg hgo), State.rd_wr_of_lt _ (Nat.lt_of_lt_of_eq Nat.one_lt_two rfl), fun hgood => ?_⟩
    rw [serdesBack_good hgood]
    exact (State.OnlyRegs.refl s _).wr List.mem_cons_self 1
  · intro s p h
    refine congrArg Host.Outcome.next (if_pos ?_)
    rw [Bool.or_eq_true, beq_iff_eq, beq_iff_eq]
    exact h
  · intro s p
    exact ⟨_, rfl, State.rd_wr_of_lt _ (Nat.two_pow_pos _), (State.OnlyRegs.refl s _).wr List.mem_cons_self 0⟩
  · intro s p frame sub hen hl hptp hts
    have hlen : frame.length % 65536 + 65536 * false.toNat + 131072 * false.toNat = frame.length % 65536 := by
      simp only [Bool.toNat_false, Nat.mul_zero, Nat.add_zero]
    have hexec := exec_ethFrameRx frame sub hen hl hptp (ts := false) (by rw [rdB_of_rd_zero hts, Bool.or_false])
    rw [hlen, if_neg Bool.false_ne_true, List.singleton_append] at hexec
    exact hexec
  · intro s p frame sub hen hl hptp
    have hsum (x : Nat) : x + 65536 * 1 + 131072 * 1 = x + 196608 := by omega
    have hlen : frame.length % 65536 + 65536 * true.toNat + 131072 * true.toNat = frame.length % 65536 + 196608 :=
      (congrArg (fun b => frame.length % 65536 + 65536 * b + 131072 * b) Bool.toNat_true).trans (hsum _)
    have hexec := exec_ethFrameRx frame sub hen hl hptp (Bool.true_or _)
    rw [hlen, if_pos rfl, List.singleton_append] at hexec
    exact hexec
  · intro s p frame ok sub h
    refine congrArg Host.Outcome.next (if_pos ?_)
    obtain h | h | h := h
    · rw [rdB_of_rd_zero h]
      rfl
    · rw [rdB_of_rd_zero h, Bool.not_false, Bool.or_true, Bool.true_or]
    · rw [h, Bool.not_false, Bool.or_true]
  · intro s p sub ws u hen hl hh hno
    exact ⟨_, exec_ethFrameTx hen hl hh hno, rfl, (ethSend_out u p 1 sub ws).symm⟩
  · intro s p sub ws u hh hyes
    have hexec : exec (.ethFrameTx p sub) s = execEthFrameTx p sub s := rfl
    rw [hexec, execEthFrameTx, hh]
    refine congrArg Host.Outcome.next (ite_eq_left_iff.mpr fun _ => ?_)
    exact if_pos hyes
  · intro s p sub ws u hen hl hh hyes hat
    obtain ⟨late, hexec⟩ := exec_ethLaunch (sub := sub) hen hl hh hyes rfl
    rw [← hat, if_neg (by omega), if_neg (by omega), if_neg (by omega)] at hexec
    exact hexec
  · intro s p sub ws u hh hno
    have hexec : exec (.ethLaunch p sub) s = execEthLaunch p sub s := rfl
    rw [hexec, execEthLaunch, hh]
    refine congrArg Host.Outcome.next (ite_eq_left_iff.mpr fun _ => ?_)
    exact if_pos (by rw [hno]; rfl)
  · intro s p sub ws u at_ hen hl hh hyes hat
    obtain ⟨late, hexec⟩ := exec_ethLaunch (sub := sub) hen hl hh hyes hat
    constructor
    · intro hahead hmax
      rw [if_neg (by omega), if_neg (by omega), if_pos hahead] at hexec
      exact hexec
    · intro hfar
      rw [if_pos hfar] at hexec
      exact hexec
  · intro s hlive h
    have hread : ethTxtsRead s 0 = ((s.wr (F.ETH_TXTS_NS_NS 0) 0).wr (F.ETH_TXTS_NS_VALID 0) 0).answer 0 0 := by
      rw [ethTxtsRead, if_pos rfl, h]
    refine ⟨ethTxtsRead s 0, exec_ethTxtsRead (p := 0) hlive, ?_⟩
    rw [hread]
    exact ⟨rfl, rfl⟩
  · intro s i h
    exact if_pos (by rw [rdB_of_rd_zero h]; rfl)
  · intro s i h
    refine if_pos ?_
    rw [and_bit_eq_zero_iff, h]
    rfl
  · intro s i h
    refine congrArg Host.Outcome.next (ite_eq_right_iff.mpr fun hdue => ?_)
    obtain h | h := h
    · exact fupDrop_none h
    · rw [decide_eq_true_eq] at hdue
      omega
  · intro s i hpend hdue
    exact ⟨_, congrArg Host.Outcome.next (if_pos (decide_eq_true hdue)), fupDrop_some hpend⟩

end Sys2Proof.Machine
end

section
/-! Rules of Latigo's rings: the state of a ring, what the control frames leave, links and trains. -/

namespace Sys2Proof.Machine

/-! ## The state of a ring -/

section
variable (s : State) (c : Nat) (x : LatRing)

@[simp] theorem ring_setRing : (s.setRing c x).ring c = x := SMap.get_set_self _ _ _ _

theorem ring_of_lat {s t : State} (h : t.lat = s.lat) (c : Nat) : t.ring c = s.ring c :=
  congrArg (fun l : LatSt => l.rings.get c {}) h

theorem latOn_congr {s t : State} {c : Nat} (hrun : t.lat.running = s.lat.running) (hen : t.rd F.LAT_CTL_EN = s.rd F.LAT_CTL_EN)
    (hn : t.rd (F.LAT_RCFG_NODES c) = s.rd (F.LAT_RCFG_NODES c)) : latOn t c = latOn s c := by
  rw [latOn, latOn, hrun, State.bit_congr hen, latNodes, latNodes, hn]

end

/-! ## What a control frame leaves: registers, and the enumeration under way -/

/-- The registers, and what is asked of ring `c`'s enumeration. -/
def latAsked (c : Nat) (s : State) : SMap Nat × Option LatEnum × Bool × Bool :=
  (s.regs, (s.ring c).enum_, (s.ring c).wantForce, (s.ring c).wantFill)

theorem latAsked_regs {c : Nat} {s t : State} (h : latAsked c t = latAsked c s) : t.regs = s.regs := congrArg (·.1) h
theorem latAsked_enum {c : Nat} {s t : State} (h : latAsked c t = latAsked c s) : (t.ring c).enum_ = (s.ring c).enum_ := congrArg (·.2.1) h

section
variable (s : State) (c : Nat)

theorem latAsked_setRing {x : LatRing} (h : (x.enum_, x.wantForce, x.wantFill) =
    ((s.ring c).enum_, (s.ring c).wantForce, (s.ring c).wantFill)) : latAsked c (s.setRing c x) = latAsked c s := by
  rw [latAsked, ring_setRing]
  exact congrArg (Prod.mk s.regs) h

theorem latSend_asked (e : Bool) (f : List Byte) : latAsked c (latSend s c e f) = latAsked c s := by
  rw [latSend]
  split
  · exact latAsked_setRing s c rfl
  · rfl

theorem latRead_asked (e : Bool) (n reg : Nat) : latAsked c (latRead s c e n reg) = latAsked c s := by
  rw [latRead]
  split
  · rfl
  · exact latSend_asked s c e _

theorem latReadAll_asked (e : Bool) (n : Nat) : latAsked c (latReadAll s c e n) = latAsked c s :=
  forN_keeps (latAsked c) (fun r _ t => latRead_asked t c e n r) s

theorem latPings_asked (e : Bool) (n k : Nat) : latAsked c (latPings s c e n k) = latAsked c s := by
  induction k with
  | zero => rfl
  | succ k ih => exact (latSend_asked _ c e _).trans ih

theorem latMeasure_asked (e : Bool) (n : Nat) : latAsked c (latMeasure s c e n) = latAsked c s :=
  (latPings_asked _ c e n 16).trans (latAsked_setRing s c rfl)

theorem latMeasureNode_asked (n : Nat) : latAsked c (latMeasureNode c n s) = latAsked c s := by
  have hone (t : State) (e : Bool) : latAsked c (if latGets t c e n then latMeasure t c e n else t) = latAsked c t := by
    split
    · exact latMeasure_asked t c e n
    · rfl
  exact (hone _ true).trans (hone s false)

theorem latMeasureAll_asked : latAsked c (latMeasureAll s c) = latAsked c s := by
  refine forN_keeps (latAsked c) (fun n _ t => ?_) s
  split
  · exact latMeasureNode_asked t c n
  · rfl

theorem latDescribeNode_asked (n : Nat) : latAsked c (latDescribeNode c n s) = latAsked c s := by
  rw [latDescribeNode]
  split
  · exact (latReadAll_asked _ c _ n).trans (latAsked_setRing s c rfl)
  · rfl

theorem latDescribe_asked : latAsked c (latDescribe s c) = latAsked c s :=
  (latMeasureAll_asked _ c).trans (forN_keeps (latAsked c) (fun n _ t => latDescribeNode_asked t c n) s)

theorem latEnumSend_asked (e force : Bool) : latAsked c (latEnumSend s c e force) = latAsked c s := latSend_asked s c e _

end

end Sys2Proof.Machine
end

section
/-! Line ends, trains, the set deadline, and triggers heard (O24). -/

namespace Sys2Proof.Machine

/-! ## Links -/

theorem latLinkUp_shows (s : State) (c : Nat) (e : Bool) :
    (latLinkUp s c e).rd (if e then F.LAT_RSTAT_LINK_B c else F.LAT_RSTAT_LINK_A c) = 1 ∧
      ((latLinkUp s c e).ring c).wired.getLsbD e.toNat = true ∧
      s.RegsBut (latLinkUp s c e) [F.LAT_RSTAT_LINK_B c, F.LAT_RSTAT_LINK_A c] := by
  have hring : (latLinkUp s c e).ring c = { s.ring c with wired := (s.ring c).wired ||| BitVec.ofNat 2 (2 ^ e.toNat) } := ring_setRing ..
  rw [hring]
  refine ⟨?_, ?_, ?_⟩
  · cases e <;> exact State.rd_wr_of_lt _ (Nat.lt_of_lt_of_eq Nat.one_lt_two rfl)
  · exact getLsbD_or_bit _ ⟨e.toNat, by cases e <;> decide⟩
  · cases e
    · exact (s.RegsBut_refl _).set (g := F.LAT_RSTAT_LINK_A c) (List.mem_cons_of_mem _ List.mem_cons_self) rfl
    · exact (s.RegsBut_refl _).set (g := F.LAT_RSTAT_LINK_B c) List.mem_cons_self rfl

theorem latLinkLoss_shows (s : State) (c : Nat) (e : Bool) :
    (latLinkLoss s c e).rd (if e then F.LAT_RSTAT_LINK_B c else F.LAT_RSTAT_LINK_A c) = 0 ∧
      s.OnlyRegs (latLinkLoss s c e) [F.LAT_RSTAT_LINK_B c, F.LAT_RSTAT_LINK_A c] := by
  refine ⟨State.rd_wr_of_lt _ (Nat.two_pow_pos _), ?_⟩
  cases e
  · exact (State.OnlyRegs.refl s _).wr (g := F.LAT_RSTAT_LINK_A c) (List.mem_cons_of_mem _ List.mem_cons_self) 0
  · exact (State.OnlyRegs.refl s _).wr (g := F.LAT_RSTAT_LINK_B c) List.mem_cons_self 0

theorem msrPings_regs (s : State) (m k : Nat) : (msrPings s m k).regs = s.regs := by
  induction k with
  | zero => rfl
  | succ k ih => exact ih

theorem msrMeasure_regs (s : State) (m : Nat) : (msrMeasure s m).regs = s.regs := msrPings_regs _ m 16

/-- A link that comes up asks for UID and delay, and shows in one register. -/
theorem msrLinkUp_regs (s : State) (m : Nat) : (msrLinkUp s m).regs = (s.wr (F.MSR_LSTAT_LINK m) 1).regs :=
  (msrMeasure_regs _ m).trans (forN_keeps State.regs (f := fun r t => msrCtl t m 0x40 r 0) (fun _ _ _ => rfl) _)

/-! ## Trains -/

/-- What an end originates in the set in hand. -/
def trainOf (s : State) (c : Nat) (e : Bool) : List Out :=
  if latActive s c e then [.latTrain c e (withCrc (le 1 0x10 ++ le 1 (endAddr e) ++ le 2 s.lat.seq ++ le 2 0))] else []

/-- What the ends of the first `k` rings originate. -/
def trainsOf (s : State) : Nat → List Out
  | 0 => []
  | k + 1 => trainsOf s k ++ (trainOf s k false ++ trainOf s k true)

theorem latOriginate_eq (s : State) (o : List Out) (c : Nat) (e : Bool) :
    latOriginate { s with out := o } c e = { s with out := o ++ trainOf s c e } := by
  have hact : latActive { s with out := o } c e = latActive s c e := rfl
  rw [latOriginate, trainOf, hact]
  split
  · rfl
  · rw [List.append_nil]

theorem forN_latOriginate (s : State) (k : Nat) :
    forN (fun c t => latOriginate (latOriginate t c false) c true) k s = { s with out := s.out ++ trainsOf s k } := by
  induction k with
  | zero => rw [trainsOf, List.append_nil]; rfl
  | succ k ih =>
    have hstep : forN (fun c t => latOriginate (latOriginate t c false) c true) (k + 1) s =
      latOriginate (latOriginate (forN (fun c t => latOriginate (latOriginate t c false) c true) k s) k false) k true := rfl
    rw [hstep, ih, latOriginate_eq s (s.out ++ trainsOf s k), latOriginate_eq s (s.out ++ trainsOf s k ++ trainOf s k false), trainsOf,
      List.append_assoc, List.append_assoc]

theorem mem_trainsOf {s : State} {c k : Nat} {e : Bool} (hc : c < k) (h : latActive s c e = true) :
    .latTrain c e (withCrc (le 1 0x10 ++ le 1 (endAddr e) ++ le 2 s.lat.seq ++ le 2 0)) ∈ trainsOf s k := by
  induction k with
  | zero => exact absurd hc (Nat.not_lt_zero c)
  | succ k ih =>
    rw [trainsOf, List.mem_append, List.mem_append]
    obtain hlt | rfl := Nat.lt_succ_iff_lt_or_eq.mp hc
    · exact .inl (ih hlt)
    · right
      have hone : Out.latTrain c e (withCrc (le 1 0x10 ++ le 1 (endAddr e) ++ le 2 s.lat.seq ++ le 2 0)) ∈ trainOf s c e := by
        rw [trainOf, if_pos h]
        exact List.mem_cons_self
      cases e
      · exact .inl hone
      · exact .inr hone

/-! ## A broken ring -/

/-- The reach that a node's LINK_DOWN leaves to the end that heard it. -/
theorem linkDown_reach (s : State) (c : Fin 12) (e : Bool) (n : Fin 24) (h : latOn s c = true) : Ends (.linkDownRx c e n) s fun t =>
    latReach (t.ring c) e = (if e then nodeSpan n (latNodes s c - 1) else nodeSpan 0 n) ∧ t.mode = s.mode := by
  let done := !s.lat.openSet || decide (s.lat.st.pt.toNs + 220700 ≤ s.ptNs)
  let b := BitVec.ofNat 2 (2 ^ e.toNat)
  let x := { s.ring c with downNew := if done then (s.ring c).downNew ||| b else (s.ring c).downNew &&& ~~~b }
  let y := if e then { x with downB := some (nodeSpan n (latNodes s c - 1)) } else { x with downA := some (nodeSpan 0 n) }
  have hexec : exec (.linkDownRx c e n) s = .next (if latPartnerEnd s c e n then latShow (s.setRing c y) c
      else latDegrade (latBreak (latShow (s.setRing c y) c) c) c) :=
    congrArg Host.Outcome.next (if_neg (by rw [h]; decide))
  have hy : latReach y e = if e then nodeSpan n (latNodes s c - 1) else nodeSpan 0 n := by
    cases e
    · rfl
    · rfl
  clear_value y
  have hw := latShow_within (K := partsMask [.rLatigo, .upd]) (a2 := c) (by decide) (Within.refl _ (s.setRing c y))
  have hlat : (latShow (s.setRing c y) c).lat = (s.setRing c y).lat := hw.same .lat (by decide)
  have hmode : (latShow (s.setRing c y) c).mode = s.mode := hw.mode_eq (by decide)
  have hring := (ring_of_lat hlat c).trans (ring_setRing s c y)
  generalize latShow (s.setRing c y) c = u at hexec hring hmode
  refine ⟨_, hexec, ?_⟩
  split
  · rw [hring]
    exact ⟨hy, hmode⟩
  · have hbreak : latReach ((latBreak u c).ring c) e = latReach (u.ring c) e ∧ (latBreak u c).mode = u.mode := by
      refine ⟨?_, (latBreak_within (K := partsMask (Part.allBut [.mode])) (by decide) (Within.refl _ u)).mode_eq (by decide)⟩
      rw [latBreak]
      split
      · rfl
      · extract_lets __src v w
        have hrec := (latRecord_within (K := partsMask (Part.allBut [.lat])) (a2 := 1) (a3 := c) (a4 := 0xFF) (a5 := 0)
          (a6 := w.rd (F.LAT_RSTAT_REACH_A c) + 256 * w.rd (F.LAT_RSTAT_REACH_B c)) (by decide) (Within.refl _ w)).same .lat (by decide)
        rw [(ring_of_lat hrec c).trans (ring_setRing u c _)]
        rfl
    have hdeg := latDegrade_within (K := partsMask (Part.allBut [.mode, .lat])) (a2 := c) (by decide) (Within.refl _ (latBreak u c))
    rw [ring_of_lat (hdeg.same .lat (by decide)) c, hbreak.1, hring]
    exact ⟨hy, (hdeg.mode_eq (by decide)).trans (hbreak.2.trans hmode)⟩

/-- Settles O24: by the conditions of each row; a set's trains are those of its active ends. -/
theorem ringsAndLinks : Obligations.RingsAndLinks := by
  refine ⟨?_, ?_, ?_, ?_, ?_, ?_, ?_, ?_, ?_, ?_, ?_, ?_, ?_, ?_, ?_, ?_, ?_, ?_⟩
  · intro s c e hrun
    exact ⟨_, congrArg Host.Outcome.next (if_pos hrun), latLinkUp_shows s c e⟩
  · intro s c e hrun
    exact congrArg Host.Outcome.next (if_neg (by rw [hrun]; decide))
  · intro s m hrun
    exact congrArg Host.Outcome.next (if_neg (by rw [hrun]; decide))
  · intro s m hrun
    refine ⟨_, congrArg Host.Outcome.next (if_pos hrun), ?_, (s.RegsBut_refl _).set List.mem_cons_self (msrLinkUp_regs s m)⟩
    rw [State.rd, msrLinkUp_regs, ← State.rd]
    exact State.rd_wr_of_lt _ (Nat.lt_of_lt_of_eq Nat.one_lt_two rfl)
  · intro s c e
    exact ⟨_, rfl, latLinkLoss_shows s c e⟩
  · intro s m
    exact ⟨_, rfl, State.rd_wr_of_lt _ (Nat.two_pow_pos _), (State.OnlyRegs.refl s _).wr List.mem_cons_self 0⟩
  · intro s hopen htr hdue
    have hgo : ¬ (!s.lat.openSet || s.lat.trained || decide (s.now < s.lat.trigAt + 1920)) = true := by
      rw [hopen, htr, decide_eq_false (by omega)]
      decide
    have hexec : exec .trainOriginate s = .next (forN (fun c t => latOriginate (latOriginate t c false) c true) 12
        { s with lat := { s.lat with trained := true } }) := congrArg Host.Outcome.next (if_neg (by simpa using hgo))
    rw [forN_latOriginate] at hexec
    exact ⟨_, hexec, List.prefix_append _ _, rfl, fun c e hc hact => List.mem_append_right _
      (mem_trainsOf (s := { s with lat := { s.lat with trained := true } }) hc hact)⟩
  · intro s h
    refine congrArg Host.Outcome.next (if_pos ?_)
    simp only [Bool.or_eq_true, Bool.not_eq_true', decide_eq_true_eq]
    obtain h | h | h := h
    · exact .inl (.inl h)
    · exact .inl (.inr h)
    · exact .inr h
  · intro s c e b abt h
    refine congrArg Host.Outcome.next (if_pos ?_)
    rw [Bool.or_eq_true, Bool.not_eq_true', bne_iff_ne]
    exact h
  · intro s c e b abt hon hb hlen hcrc
    have hgo : ¬ (!latOn s c || byteNat b 0 != 0x10) = true := by
      rw [hon, hb]
      decide
    have hhdr : (crc16 (b.take 6) == halfNat b 6) = false := beq_eq_false_iff_ne.mpr hcrc
    have hdrop : latSplit 24 (b.drop 8) = [] := by
      rw [List.drop_eq_nil_of_le (Nat.le_of_eq hlen)]
      rfl
    refine (congrArg Host.Outcome.next (if_neg hgo)).trans ?_
    simp only [hhdr, hdrop]
    rfl
  · intro s h
    have hexec : exec .setDeadline s = .next (if gridTick s && s.lat.trigAt != s.now then setDeadline s else s) := rfl
    refine hexec.trans (congrArg Host.Outcome.next ?_)
    obtain h | h | h := h
    · exact ite_eq_right_iff.mpr fun _ => if_pos (by rw [h]; rfl)
    · exact if_neg (by rw [h, Bool.false_and]; decide)
    · exact if_neg (by rw [h, bne_self_eq_false, Bool.and_false]; decide)
  · intro s hopen hg ht
    have hgo : (gridTick s && s.lat.trigAt != s.now) = true := by
      rw [hg, bne_iff_ne.mpr ht]
      rfl
    refine ⟨setDeadline s, congrArg Host.Outcome.next (if_pos hgo), ?_⟩
    rw [setDeadline, if_neg (by rw [hopen]; decide)]
    exact ⟨rfl, rfl, rfl⟩
  · intro s c
    let y := { s.ring c with heard := (s.ring c).heard || (s.ring c).listening, rxNow := true, rxMiss := 0, absent := false,
                             started := true }
    refine ⟨_, rfl, rfl, rfl, ?_⟩
    have hkeep {t : State} (h : t.ring c = y) (hr : t.regs = s.regs) : (t.ring c).rxNow = true ∧ (t.ring c).absent = false ∧
        ((s.ring c).listening = true → (t.ring c).heard = true) ∧ t.regs = s.regs := by
      rw [h]
      exact ⟨rfl, rfl, fun hl => by rw [show y.heard = ((s.ring c).heard || (s.ring c).listening) from rfl, hl, Bool.or_true], hr⟩
    exact hkeep (ring_setRing s c y) rfl
  · intro s c hon hm hl hmiss hown
    have hgo : (latOn s c && !s.rdB (F.LAT_RSTAT_MASTER c) && !(s.ring c).listening && (s.ring c).rxMiss == 4) = true := by
      rw [hon, rdB_of_rd_zero hm, hl, hmiss]
      rfl
    let y := { s.ring c with absent := true, r197 := true, rxRun := 0 }
    have hact : latActive (s.setRing c y) c (latOwn (s.setRing c y)) = false := by
      rw [← hown]
      simp only [latActive, latWired, ring_setRing, latOn, latOwn]
      rfl
    refine ⟨s.setRing c y, congrArg Host.Outcome.next ((if_pos hgo).trans (if_neg (by rw [hact]; decide))), ring_setRing s c y, rfl⟩
  · intro s c h
    refine congrArg Host.Outcome.next (if_neg ?_)
    rw [Bool.and_eq_true, Bool.and_eq_true, Bool.and_eq_true, beq_iff_eq]
    obtain h | h := h
    · rw [rdB_of_rd_one h]
      simp
    · exact fun hall => h hall.2
  · intro s c e n h
    exact congrArg Host.Outcome.next (if_pos (by rw [h]; rfl))
  · intro s c n h
    exact linkDown_reach s c false n h
  · intro s c n h
    exact linkDown_reach s c true n h

end Sys2Proof.Machine
end

section
/-! Ring commands and the answers of nodes (O25). -/

namespace Sys2Proof.Machine

/-! ## Commands -/

section
variable {s : State} {r : Req} {c : Fin 12}

theorem classN_ringCommand (c : Nat) : classN (F.LAT_RCMD_CMD c).addr = false :=
  classN_of_window (by simp only [F.LAT_RCMD_CMD]; omega)

theorem latCommand_refused (f : State → State) (hr : r.supOrStitch = false) : latCommand s r f = s.status 0x0207 :=
  if_pos (by rw [hr]; rfl)

theorem latCommand_done (f : State → State) (hr : r.supOrStitch = true) : latCommand s r f = (f s).status 0 :=
  if_neg (by rw [hr]; decide)

/-- A ring command through the window is refused, or done and answered 0. -/
theorem next_latCommand_refused (f : State → State) (hlive : windowDead s (F.LAT_RCMD_CMD c).addr = false)
    (hr : r.supOrStitch = false) :
    (Host.Outcome.next (hostWrite s r (F.LAT_RCMD_CMD c).addr (latCommand s r f)) : Res) = .next (s.status 0x0207) :=
  next_hostWrite_status hlive (classN_ringCommand c) (latCommand_refused f hr) (by decide)

theorem next_latCommand_done (f : State → State) (hlive : windowDead s (F.LAT_RCMD_CMD c).addr = false)
    (hr : r.supOrStitch = true) :
    (Host.Outcome.next (hostWrite s r (F.LAT_RCMD_CMD c).addr (latCommand s r f)) : Res) = .next ((f s).status 0) :=
  next_hostWrite_status hlive (classN_ringCommand c) (latCommand_done f hr) (by decide)

end

/-! ## Starting an enumeration -/

section
variable {s : State} {c : Nat} {force : Bool}

theorem latEnumStart_running {z : LatEnum} (hon : latOn s c = true) (hm : s.rd (F.LAT_RSTAT_MASTER c) = 1)
    (hz : (s.ring c).enum_ = some z) : latEnumStart s c force =
      s.setRing c (if force then { s.ring c with wantForce := true } else { s.ring c with wantFill := true }) := by
  rw [latEnumStart, if_neg (by rw [hon, rdB_of_rd_one hm]; decide), if_pos (by rw [hz]; rfl)]

theorem latEnumStart_first {e : Bool} {l : List Bool} (hon : latOn s c = true) (hm : s.rd (F.LAT_RSTAT_MASTER c) = 1)
    (hz : (s.ring c).enum_ = none) (he : latEnds s c = e :: l) : latEnumStart s c force =
      latEnumSend ((s.setRing c { s.ring c with enum_ := some { force := force, endB := e, at_ := s.now } }).wr
        (F.LAT_RSTAT_ENUM_BUSY c) 1) c e force := by
  rw [latEnumStart, if_neg (by rw [hon, rdB_of_rd_one hm]; decide), if_neg (by rw [hz]; decide), he]

/-- An enumeration that starts shows ENUM_BUSY and is noted with its end. -/
theorem latEnumStart_shows {e : Bool} {l : List Bool} (hon : latOn s c = true) (hm : s.rd (F.LAT_RSTAT_MASTER c) = 1)
    (hz : (s.ring c).enum_ = none) (he : latEnds s c = e :: l) : (latEnumStart s c force).rd (F.LAT_RSTAT_ENUM_BUSY c) = 1 ∧
      ((latEnumStart s c force).ring c).enum_ = some { force := force, endB := e, at_ := s.now } ∧
      s.RegsBut (latEnumStart s c force) [F.LAT_RSTAT_ENUM_BUSY c] := by
  rw [latEnumStart_first hon hm hz he]
  have hsend := latEnumSend_asked ((s.setRing c { s.ring c with enum_ := some { force := force, endB := e, at_ := s.now } }).wr
    (F.LAT_RSTAT_ENUM_BUSY c) 1) c e force
  have hring : (((s.setRing c { s.ring c with enum_ := some { force := force, endB := e, at_ := s.now } }).wr
      (F.LAT_RSTAT_ENUM_BUSY c) 1).ring c).enum_ = some { force := force, endB := e, at_ := s.now } :=
    congrArg LatRing.enum_ (ring_setRing s c _)
  refine ⟨?_, (latAsked_enum hsend).trans hring, (s.RegsBut_refl _).set List.mem_cons_self (latAsked_regs hsend)⟩
  rw [State.rd, latAsked_regs hsend, ← State.rd]
  exact State.rd_wr_of_lt _ (Nat.lt_of_lt_of_eq Nat.one_lt_two rfl)

end

/-! ## The map -/

theorem length_flatten_const {α : Type} {k : Nat} {l : List (List α)} (h : ∀ x ∈ l, x.length = k) : l.flatten.length = k * l.length := by
  induction l with
  | nil => rfl
  | cons x xs ih =>
    rw [List.flatten_cons, List.length_append, h x List.mem_cons_self, ih fun y hy => h y (List.mem_cons_of_mem x hy),
      List.length_cons, Nat.mul_succ, Nat.add_comm]

/-- The stored map holds the 24 UIDs. -/
theorem latMapStore_shows (s : State) (c : Nat) :
    (latMapStore s c).settingsBytes.get (objKey (0x2010 + c) 7) [] = latMap (latMapStore s c) c ∧ (latMap (latMapStore s c) c).length = 192 := by
  unfold latMap latMapStore
  extract_lets b k
  have hlen : b.length = 192 := by
    refine (length_flatten_const (k := 8) fun x hx => ?_).trans ?_
    · obtain ⟨n, -, rfl⟩ := List.mem_map.mp hx
      rw [List.length_append, length_le, length_le]
    · rw [List.length_map, List.length_range]
  clear_value b
  have hget (m : SMap (List Byte)) : SMap.get (m.set (objKey (0x2010 + c) 7) b) (objKey (0x2010 + c) 7) [] = b := SMap.get_set_self _ _ _ _
  exact ⟨(hget _).trans (hget _).symm, (congrArg List.length (hget _)).trans hlen⟩

/-! ## The answer to an ENUM -/

theorem latFarEnd_alone {s : State} {c : Nat} (v : Nat) (h : latUp s c true = false) : latFarEnd s c false v = s :=
  if_neg (by rw [Bool.not_false, h, Bool.false_and]; decide)

/-- What an answer from the end that was asked comes to. -/
theorem exec_enumEndRx {s : State} {c : Fin 12} {e : Bool} {v : BitVec 16} {z : LatEnum} (hz : (s.ring c).enum_ = some z)
    (he : z.endB = e) : exec (.enumEndRx c e v) s = .next
      (let u := latFarEnd s c e v.toNat
       let y := if e then { z with vB := some v.toNat } else { z with vA := some v.toNat }
       if !e && latUp u c true then
         latEnumSend (u.setRing c { u.ring c with enum_ := some { y with endB := true, at_ := u.now } }) c true false
       else latEvaluate u c y) := by
  have hexec : exec (.enumEndRx c e v) s = execEnumEndRx c e v s := rfl
  rw [hexec, execEnumEndRx, hz]
  dsimp only
  rw [he, if_neg (by rw [bne_self_eq_false]; decide)]

/-! ## The end of an enumeration -/

/-- The fields that show how an enumeration ended. -/
def enumFields (c : Nat) : List Field := [F.LAT_RSTAT_ENUM_BUSY c, F.LAT_RSTAT_ENUM_OK c, F.LAT_RFLT_ENUM_MISMATCH c, F.LAT_RFLT_UNREACHED c]

/-- What those fields read. -/
def enumBits (c : Nat) (s : State) : List Nat := (enumFields c).map s.rd

section
variable {s t : State} {c : Nat}

theorem enumBits_of_rd (h : ∀ f ∈ enumFields c, t.rd f = s.rd f) : enumBits c t = enumBits c s := List.map_congr_left h

theorem rd_of_enumBits (h : enumBits c t = enumBits c s) {f : Field} (hf : f ∈ enumFields c) : t.rd f = s.rd f :=
  List.map_inj_left.mp h f hf

theorem enumBits_of_regs (h : t.regs = s.regs) : enumBits c t = enumBits c s :=
  enumBits_of_rd fun f _ => congrArg (fun r : SMap Nat => r.get f.key f.rst) h

theorem blk_of_enumFields {f : Field} (hf : f ∈ enumFields c) : Blk f 43 := by
  simp only [enumFields, List.mem_cons, List.not_mem_nil, or_false] at hf
  obtain rfl | rfl | rfl | rfl := hf
  · exact LAT_RSTAT_ENUM_BUSY_blk c
  · exact LAT_RSTAT_ENUM_OK_blk c
  · exact LAT_RFLT_ENUM_MISMATCH_blk c
  · exact LAT_RFLT_UNREACHED_blk c

theorem enumBits_within {K : Nat} (h : Within K s t) (hK : K.testBit 43 = false) : enumBits c t = enumBits c s :=
  enumBits_of_rd fun _ hf => h.rd_eq (blk_of_enumFields hf) (by decide) hK

theorem enumBits_wr {g : Field} (v : Nat) (hg : ∀ f ∈ enumFields c, f.key ≠ g.key) : enumBits c (s.wr g v) = enumBits c s :=
  enumBits_of_rd fun f hf => State.rd_wr_ne s v (hg f hf)

end

/-- A node's status lies apart from its ring's. -/
theorem enumFields_ne_node {c n : Nat} {f : Field} (hf : f ∈ enumFields c) : f.key ≠ (F.LAT_NSTAT_ENUM c n).key ∧
    f.key ≠ (F.LAT_NSTAT_UNCAL_U c n).key ∧ f.key ≠ (F.LAT_NSTAT_UNCAL_D c n).key := by
  simp only [enumFields, List.mem_cons, List.not_mem_nil, or_false] at hf
  obtain rfl | rfl | rfl | rfl := hf <;>
    simp only [Field.key, F.LAT_NSTAT_ENUM, F.LAT_NSTAT_UNCAL_U, F.LAT_NSTAT_UNCAL_D, F.LAT_RSTAT_ENUM_BUSY, F.LAT_RSTAT_ENUM_OK,
      F.LAT_RFLT_ENUM_MISMATCH, F.LAT_RFLT_UNREACHED] <;> omega

theorem enumBits_latNodeEnum (c : Nat) (reached : BitVec 24) (n : Nat) (s : State) :
    enumBits c (latNodeEnum c reached n s) = enumBits c s := by
  have hen : enumBits c (s.wrB (F.LAT_NSTAT_ENUM c n) (reached.getLsbD n)) = enumBits c s :=
    enumBits_wr _ fun f hf => (enumFields_ne_node hf).1
  rw [latNodeEnum]
  dsimp only
  generalize s.wrB (F.LAT_NSTAT_ENUM c n) (reached.getLsbD n) = u at hen ⊢
  have hup : enumBits c (if u.rd (F.LAT_NDLY_D_A c n) = 0xFFFF then u.wr (F.LAT_NSTAT_UNCAL_U c n) 1 else u) = enumBits c u := by
    split
    · exact enumBits_wr 1 fun f hf => (enumFields_ne_node hf).2.1
    · rfl
  generalize (if u.rd (F.LAT_NDLY_D_A c n) = 0xFFFF then u.wr (F.LAT_NSTAT_UNCAL_U c n) 1 else u) = v at hup ⊢
  split
  · split
    · exact (enumBits_wr 1 fun f hf => (enumFields_ne_node hf).2.2).trans (hup.trans hen)
    · exact hup.trans hen
  · exact hen

/-- An evaluation that goes on: nodes are marked, it is recorded, the nodes are asked for. -/
theorem enumDescribed (s : State) (c k : Nat) (reached : BitVec 24) :
    enumBits c (latDescribe (latRecord (forN (latNodeEnum c reached) 24 s) k c 0xFF 0 0) c) = enumBits c s ∧
      ∀ x, s.ring c = x → (((latDescribe (latRecord (forN (latNodeEnum c reached) 24 s) k c 0xFF 0 0) c).ring c).enum_,
        ((latDescribe (latRecord (forN (latNodeEnum c reached) 24 s) k c 0xFF 0 0) c).ring c).wantForce,
        ((latDescribe (latRecord (forN (latNodeEnum c reached) 24 s) k c 0xFF 0 0) c).ring c).wantFill) =
          (x.enum_, x.wantForce, x.wantFill) := by
  have hnodes : enumBits c (forN (latNodeEnum c reached) 24 s) = enumBits c s :=
    forN_keeps (enumBits c) (fun n _ t => enumBits_latNodeEnum c reached n t) s
  have hlat : (forN (latNodeEnum c reached) 24 s).lat = s.lat :=
    (forN_inv (P := Within (partsMask [.rLatigo, .upd]) s) (fun n _ t h => latNodeEnum_within (by decide) h) (Within.refl _ s)).same .lat
      (by decide)
  generalize forN (latNodeEnum c reached) 24 s = u at hnodes hlat
  have hw := latRecord_within (K := partsMask (Part.allBut [.lat, .rLatigo])) (a2 := k) (a3 := c) (a4 := 0xFF) (a5 := 0) (a6 := 0)
    (by decide) (Within.refl _ u)
  generalize latRecord u k c 0xFF 0 0 = v at hw
  have hask := latDescribe_asked v c
  refine ⟨(enumBits_of_regs (latAsked_regs hask)).trans ((enumBits_within hw (by decide)).trans hnodes), ?_⟩
  rintro x rfl
  rw [← ring_of_lat hlat c, ← ring_of_lat (hw.same .lat (by decide)) c]
  rw [latAsked, latAsked, Prod.mk.injEq] at hask
  exact hask.2

/-- An enumeration that end A alone has answered, nothing else being asked for, ends with ENUM_OK where it reached every node. -/
theorem latEvaluate_alone {s : State} {c : Nat} {z : LatEnum} {v : Nat} (hva : z.vA = some v) (hvb : z.vB = none)
    (hforce : (s.ring c).wantForce = false) (hfill : (s.ring c).wantFill = false) :
    ((latEvaluate s c z).ring c).enum_ = none ∧ (latEvaluate s c z).rd (F.LAT_RSTAT_ENUM_BUSY c) = 0 ∧
      (latEvaluate s c z).rd (F.LAT_RSTAT_ENUM_OK c) = (decide (latNodes s c ≤ v)).toNat ∧
      (v < latNodes s c → (latEvaluate s c z).rd (F.LAT_RFLT_UNREACHED c) = 1) := by
  unfold latEvaluate
  rw [hva, hvb]
  extract_lets n a b whole reached nodes y u1 u2 u3 u4 u5 u6 x u7 u8
  have hwhole : whole = decide (latNodes s c ≤ v) := decide_eq_decide.mpr (by simp only [b, a, n]; omega)
  have hbusy : u2.rd (F.LAT_RSTAT_ENUM_BUSY c) = 0 := by
    rw [State.rd_wrB_ne _ _ (by simp only [Field.key, F.LAT_RSTAT_ENUM_BUSY, F.LAT_RSTAT_ENUM_OK]; omega)]
    exact State.rd_wr_of_lt _ (Nat.two_pow_pos _)
  have hok : u2.rd (F.LAT_RSTAT_ENUM_OK c) = whole.toNat :=
    State.rd_wr_of_lt _ (Nat.lt_of_lt_of_eq (Bool.toNat_lt whole) rfl)
  have hunreached (h : whole = false) : u3.rd (F.LAT_RFLT_UNREACHED c) = 1 := by
    simp only [u3, h]
    exact State.rd_wr_of_lt _ (Nat.lt_of_lt_of_eq Nat.one_lt_two rfl)
  have h3 {f : Field} (hf : f.key ≠ (F.LAT_RFLT_UNREACHED c).key) : u3.rd f = u2.rd f := by
    simp only [u3]
    split
    · rfl
    · exact State.rd_wr_ne _ _ hf
  have h4 {f : Field} (hf : f.key ≠ (F.LAT_RFLT_ENUM_MISMATCH c).key) : u4.rd f = u3.rd f := by
    simp only [u4]
    split
    · exact State.rd_wr_ne _ _ hf
    · rfl
  have hlat : u4.lat = u1.lat := by
    simp only [u4, u3, u2]
    repeat' split
    all_goals rfl
  have hring : ((u4.ring c).enum_, (u4.ring c).wantForce, (u4.ring c).wantFill) = (none, false, false) := by
    rw [ring_of_lat hlat c, ring_setRing]
    exact congrArg (Prod.mk none) (Prod.ext hforce hfill)
  have hdesc : enumBits c u6 = enumBits c u4 ∧ ∀ x, u4.ring c = x → ((u6.ring c).enum_, (u6.ring c).wantForce, (u6.ring c).wantFill) =
      (x.enum_, x.wantForce, x.wantFill) := enumDescribed u4 c (if whole then 5 else 6) reached
  clear_value u6 u4 u3 u2 whole
  obtain ⟨hbits, hkept⟩ := hdesc
  have hx := (hkept _ rfl).trans hring
  simp only [Prod.mk.injEq] at hx
  obtain ⟨hnone, hwf, hwl⟩ := hx
  have h8 : u8 = u7 := if_neg (by rw [hwf, hwl]; decide)
  have h7 : (u7.ring c).enum_ = none := by
    rw [ring_setRing]
    exact hnone
  have hw := latDegrade_within (K := partsMask (Part.allBut [.lat, .rLatigo])) (a2 := c) (by decide) (Within.refl _ u7)
  rw [h8, ring_of_lat (hw.same .lat (by decide)) c]
  have hrd {f : Field} (hf : f ∈ enumFields c) : (latDegrade u7 c).rd f = u4.rd f :=
    (rd_of_enumBits (enumBits_within hw (by decide)) hf).trans (rd_of_enumBits hbits hf)
  refine ⟨h7, ?_, ?_, fun hlt => ?_⟩
  · rw [hrd (by simp [enumFields]), h4 (by simp only [Field.key, F.LAT_RSTAT_ENUM_BUSY, F.LAT_RFLT_ENUM_MISMATCH]; omega),
      h3 (by simp only [Field.key, F.LAT_RSTAT_ENUM_BUSY, F.LAT_RFLT_UNREACHED]; omega)]
    exact hbusy
  · rw [hrd (by simp [enumFields]), h4 (by simp only [Field.key, F.LAT_RSTAT_ENUM_OK, F.LAT_RFLT_ENUM_MISMATCH]; omega),
      h3 (by simp only [Field.key, F.LAT_RSTAT_ENUM_OK, F.LAT_RFLT_UNREACHED]; omega), ← hwhole]
    exact hok
  · rw [hrd (by simp [enumFields]), h4 (by simp only [Field.key, F.LAT_RFLT_UNREACHED, F.LAT_RFLT_ENUM_MISMATCH]; omega)]
    exact hunreached (hwhole.trans (decide_eq_false (by omega)))

/-! ## No answer -/

/-- An enumeration that three attempts have left without an answer. -/
def enumGivenUp (s : State) (c : Nat) : State :=
  let s := s.setRing c { s.ring c with enum_ := none }
  let s := (s.wr (F.LAT_RSTAT_ENUM_BUSY c) 0).wr (F.LAT_RSTAT_ENUM_OK c) 0
  let s := latRecord (s.wr (F.LAT_RFLT_ENUM_MISMATCH c) 1) 6 c 0xFF 0 0
  forN (fun n t => t.wr (F.LAT_NSTAT_ENUM c n) 0) 24 s

theorem enumGivenUp_shows (s : State) (c : Nat) : ((enumGivenUp s c).ring c).enum_ = none ∧
    (enumGivenUp s c).rd (F.LAT_RSTAT_ENUM_BUSY c) = 0 ∧ (enumGivenUp s c).rd (F.LAT_RSTAT_ENUM_OK c) = 0 ∧
    (enumGivenUp s c).rd (F.LAT_RFLT_ENUM_MISMATCH c) = 1 ∧ (enumGivenUp s c).mode = s.mode := by
  unfold enumGivenUp
  extract_lets y u1 u2 u3
  have hring : (u1.ring c).enum_ = none := by
    rw [ring_setRing]
  have hlat : (u2.wr (F.LAT_RFLT_ENUM_MISMATCH c) 1).lat = u1.lat := rfl
  have hmode : (u2.wr (F.LAT_RFLT_ENUM_MISMATCH c) 1).mode = s.mode := by
    rw [State.mode, State.rd_wr_ne _ _ (by simp only [Field.key, F.GIRTH_MODE_MODE, F.LAT_RFLT_ENUM_MISMATCH]; omega),
      State.rd_wr_ne _ _ (by simp only [Field.key, F.GIRTH_MODE_MODE, F.LAT_RSTAT_ENUM_OK]; omega),
      State.rd_wr_ne _ _ (by simp only [Field.key, F.GIRTH_MODE_MODE, F.LAT_RSTAT_ENUM_BUSY]; omega)]
    rfl
  have hmis : (u2.wr (F.LAT_RFLT_ENUM_MISMATCH c) 1).rd (F.LAT_RFLT_ENUM_MISMATCH c) = 1 :=
    State.rd_wr_of_lt _ (Nat.lt_of_lt_of_eq Nat.one_lt_two rfl)
  have hok : (u2.wr (F.LAT_RFLT_ENUM_MISMATCH c) 1).rd (F.LAT_RSTAT_ENUM_OK c) = 0 := by
    rw [State.rd_wr_ne _ _ (by simp only [Field.key, F.LAT_RSTAT_ENUM_OK, F.LAT_RFLT_ENUM_MISMATCH]; omega)]
    exact State.rd_wr_of_lt _ (Nat.two_pow_pos _)
  have hbusy : (u2.wr (F.LAT_RFLT_ENUM_MISMATCH c) 1).rd (F.LAT_RSTAT_ENUM_BUSY c) = 0 := by
    rw [State.rd_wr_ne _ _ (by simp only [Field.key, F.LAT_RSTAT_ENUM_BUSY, F.LAT_RFLT_ENUM_MISMATCH]; omega),
      State.rd_wr_ne _ _ (by simp only [Field.key, F.LAT_RSTAT_ENUM_BUSY, F.LAT_RSTAT_ENUM_OK]; omega)]
    exact State.rd_wr_of_lt _ (Nat.two_pow_pos _)
  have hrec : u3 = latRecord (u2.wr (F.LAT_RFLT_ENUM_MISMATCH c) 1) 6 c 0xFF 0 0 := rfl
  generalize u2.wr (F.LAT_RFLT_ENUM_MISMATCH c) 1 = w at hlat hmode hmis hok hbusy hrec
  have hw := latRecord_within (K := partsMask (Part.allBut [.mode, .lat, .rLatigo])) (a2 := 6) (a3 := c) (a4 := 0xFF) (a5 := 0) (a6 := 0)
    (by decide) (Within.refl _ w)
  rw [← hrec] at hw
  clear_value u3
  have hlat3 : (forN (fun n t => t.wr (F.LAT_NSTAT_ENUM c n) 0) 24 u3).lat = u3.lat :=
    forN_keeps State.lat (f := fun n t => t.wr (F.LAT_NSTAT_ENUM c n) 0) (fun _ _ _ => rfl) u3
  have hbits : enumBits c (forN (fun n t => t.wr (F.LAT_NSTAT_ENUM c n) 0) 24 u3) = enumBits c u3 :=
    forN_keeps (enumBits c) (fun n _ t => enumBits_wr 0 fun f hf => (enumFields_ne_node hf).1) u3
  have hmode3 : (forN (fun n t => t.wr (F.LAT_NSTAT_ENUM c n) 0) 24 u3).mode = u3.mode :=
    forN_keeps State.mode (fun n _ t => State.rd_wr_ne t 0 (by simp only [Field.key, F.GIRTH_MODE_MODE, F.LAT_NSTAT_ENUM]; omega)) u3
  generalize forN (fun n t => t.wr (F.LAT_NSTAT_ENUM c n) 0) 24 u3 = v at hlat3 hbits hmode3
  have hrd {f : Field} (hf : f ∈ enumFields c) : v.rd f = w.rd f :=
    (rd_of_enumBits hbits hf).trans (rd_of_enumBits (enumBits_within hw (by decide)) hf)
  refine ⟨?_, (hrd (by simp [enumFields])).trans hbusy, (hrd (by simp [enumFields])).trans hok, (hrd (by simp [enumFields])).trans hmis,
    hmode3.trans ((hw.mode_eq (by decide)).trans hmode)⟩
  rw [ring_of_lat (hlat3.trans ((hw.same .lat (by decide)).trans hlat)) c]
  exact hring

/-- Asking the nodes for their address keeps what an enumeration is asked. -/
theorem foldl_latRead_asked (s : State) (c k reg : Nat) (l : List Bool) :
    latAsked c (l.foldl (fun t e => forN (fun n u => latRead u c e n reg) k t) s) = latAsked c s :=
  foldl_keeps (latAsked c) (fun t e => forN_keeps (latAsked c) (fun n _ u => latRead_asked u c e n reg) t) s l

section
variable {s : State} {c : Fin 12} {z : LatEnum}

theorem exec_enumTimeout (hz : (s.ring c).enum_ = some z) (ht : z.at_ + 80000 ≤ s.now) : exec (.enumTimeout c) s = .next
    (if z.tries < 2 then
      latEnumSend (s.setRing c { s.ring c with enum_ := some { z with
        tries := z.tries + 1, endB := (latEnds s c).headD z.endB, vA := none, vB := none, at_ := s.now } }) c
        ((latEnds s c).headD z.endB) z.force
     else latDegrade ((latEnds (enumGivenUp s c) c).foldl (fun t e => forN (fun n u => latRead u c e n 0x10)
       (latNodes (enumGivenUp s c) c) t) (enumGivenUp s c)) c) := by
  have hexec : exec (.enumTimeout c) s = execEnumTimeout c s := rfl
  rw [hexec, execEnumTimeout, hz]
  dsimp only
  rw [if_neg (by omega)]
  rfl

/-- An enumeration without an answer is asked for again. -/
theorem enumTimeout_again {e : Bool} {l : List Bool} (hz : (s.ring c).enum_ = some z) (ht : z.at_ + 80000 ≤ s.now) (htr : z.tries < 2)
    (he : latEnds s c = e :: l) : Ends (.enumTimeout c) s fun t =>
    (t.ring c).enum_ = some { z with tries := z.tries + 1, endB := e, vA := none, vB := none, at_ := s.now } ∧ t.regs = s.regs := by
  have hexec := exec_enumTimeout hz ht
  rw [if_pos htr, he] at hexec
  refine ⟨_, hexec, ?_⟩
  have hsend (u : State) := latEnumSend_asked u c ((e :: l).headD z.endB) z.force
  refine ⟨(latAsked_enum (hsend _)).trans ?_, (latAsked_regs (hsend _)).trans rfl⟩
  rw [ring_setRing]
  rfl

/-- An enumeration that has failed three times. -/
theorem enumTimeout_last (hz : (s.ring c).enum_ = some z) (ht : z.at_ + 80000 ≤ s.now) (htr : 2 ≤ z.tries) :
    Ends (.enumTimeout c) s fun t => (t.ring c).enum_ = none ∧ t.rd (F.LAT_RSTAT_ENUM_BUSY c) = 0 ∧ t.rd (F.LAT_RSTAT_ENUM_OK c) = 0 ∧
      t.rd (F.LAT_RFLT_ENUM_MISMATCH c) = 1 ∧ t.mode = s.mode := by
  have hexec := exec_enumTimeout hz ht
  rw [if_neg (by omega)] at hexec
  have hask := foldl_latRead_asked (enumGivenUp s c) c (latNodes (enumGivenUp s c) c) 0x10 (latEnds (enumGivenUp s c) c)
  obtain ⟨hnone, hbusy, hok, hmis, hmode⟩ := enumGivenUp_shows s c
  generalize ((latEnds (enumGivenUp s c) c).foldl (fun t e => forN (fun n u => latRead u c e n 0x10)
    (latNodes (enumGivenUp s c) c) t) (enumGivenUp s c)) = u at hexec hask
  generalize enumGivenUp s c = w at hask hnone hbusy hok hmis hmode
  have hw := latDegrade_within (K := partsMask (Part.allBut [.mode, .lat, .rLatigo])) (a2 := c) (by decide) (Within.refl _ u)
  have hrd {f : Field} (hf : f ∈ enumFields c) : (latDegrade u c).rd f = w.rd f :=
    (rd_of_enumBits (enumBits_within hw (by decide)) hf).trans (rd_of_enumBits (enumBits_of_regs (latAsked_regs hask)) hf)
  have humode : u.mode = w.mode := congrArg (fun r : SMap Nat => r.get F.GIRTH_MODE_MODE.key F.GIRTH_MODE_MODE.rst) (latAsked_regs hask)
  refine ⟨_, hexec, ?_, (hrd (by simp [enumFields])).trans hbusy, (hrd (by simp [enumFields])).trans hok,
    (hrd (by simp [enumFields])).trans hmis, (hw.mode_eq (by decide)).trans (humode.trans hmode)⟩
  rw [ring_of_lat (hw.same .lat (by decide)) c]
  exact (latAsked_enum hask).trans hnone

end

/-- A COMP write that is acknowledged with its value. -/
theorem exec_writeAckRx {s : State} {c : Fin 12} {e : Bool} {n : Fin 24} {reg : BitVec 8} {v : BitVec 16}
    (hreg : reg.toNat = if e then 0x12 else 0x11) (hv : (s.ring c).comp.find? (2 * n.val + e.toNat) = some v.toNat) :
    exec (.writeAckRx c e n reg v) s = .next (latDegrade (s.wr (if e then F.LAT_NSTAT_UNCAL_D c n else F.LAT_NSTAT_UNCAL_U c n) 0) c) := by
  have hexec : exec (.writeAckRx c e n reg v) s = execWriteAckRx c e n reg v s := rfl
  rw [hexec, execWriteAckRx]
  rw [hreg, hv, if_pos (by rw [beq_self_eq_true, beq_self_eq_true]; rfl)]

/-- Settles O25: a ring command is one rule, an answer is evaluated, and no answer is counted. -/
theorem ringEnumeration : Obligations.RingEnumeration := by
  refine ⟨?_, ?_, ?_, ?_, ?_, ?_, ?_, ?_, ?_, ?_, ?_, ?_, ?_, ?_, ?_, ?_, ?_, ?_, fun _ _ _ _ _ => rfl⟩
  · intro s r c hlive hr
    exact ⟨next_latCommand_refused _ hlive hr, next_latCommand_refused _ hlive hr, next_latCommand_refused _ hlive hr,
      next_latCommand_refused _ hlive hr, next_latCommand_refused _ hlive hr⟩
  · intro s r c z hlive hr hon hm hz
    refine ⟨(next_latCommand_done _ hlive hr).trans ?_, (next_latCommand_done _ hlive hr).trans ?_⟩
    · rw [latEnumStart_running hon hm hz, if_pos rfl]
    · rw [latEnumStart_running hon hm hz, if_neg Bool.false_ne_true]
  · intro s r c e l hlive hr hon hm hz he
    have hgo (force : Bool) {i : Instr} (hi : exec i s = .next ((latEnumStart s c force).status 0)) : Ends i s fun t =>
        t.rd (F.LAT_RSTAT_ENUM_BUSY c) = 1 ∧ t.resp = ⟨0, 0⟩ ∧ (t.ring c).enum_ = some { force := force, endB := e, at_ := s.now } ∧
          s.RegsBut t [F.LAT_RSTAT_ENUM_BUSY c] := by
      obtain ⟨hb, hr, hk⟩ := latEnumStart_shows (force := force) hon hm hz he
      generalize latEnumStart s c force = u at hi hb hr hk
      exact ⟨_, hi, (State.rd_status ..).trans hb, rfl, hr, hk⟩
    exact ⟨hgo true (next_latCommand_done _ hlive hr), hgo false (next_latCommand_done _ hlive hr)⟩
  · intro s r c hlive hr
    have hexec : exec (.remeasure r c) s = .next ((latMeasureAll s c).status 0) := next_latCommand_done _ hlive hr
    have hregs := latAsked_regs (latMeasureAll_asked s c)
    generalize latMeasureAll s c = u at hexec hregs ⊢
    exact ⟨_, hexec, rfl, hregs⟩
  · intro s r c hlive hr
    exact ⟨_, next_latCommand_done _ hlive hr, rfl, rfl, latMapStore_shows s c⟩
  · intro s c e v hz
    have hexec : exec (.enumEndRx c e v) s = execEnumEndRx c e v s := rfl
    rw [hexec, execEnumEndRx, hz]
  · intro s c v z hz he
    have hexec := exec_enumEndRx (v := v) hz he
    dsimp only at hexec
    rw [Bool.not_true, Bool.false_and, if_neg Bool.false_ne_true, if_pos rfl] at hexec
    exact hexec
  · intro s c v z hz he hvb hup hforce hfill
    have hexec := exec_enumEndRx (v := v) hz he
    rw [latFarEnd_alone _ hup] at hexec
    dsimp only at hexec
    rw [hup, Bool.and_false, if_neg Bool.false_ne_true, if_neg Bool.false_ne_true] at hexec
    exact ⟨_, hexec, latEvaluate_alone rfl hvb hforce hfill⟩
  · intro s c e v z hz he
    have hexec : exec (.enumEndRx c e v) s = execEnumEndRx c e v s := rfl
    rw [hexec, execEnumEndRx, hz]
    exact congrArg Host.Outcome.next (if_pos (bne_iff_ne.mpr he))
  · intro s c z e l hz ht htr he
    exact enumTimeout_again hz ht htr he
  · intro s c z hz ht htr
    exact enumTimeout_last hz ht htr
  · intro s c z hz ht
    have hexec : exec (.enumTimeout c) s = execEnumTimeout c s := rfl
    rw [hexec, execEnumTimeout, hz]
    exact congrArg Host.Outcome.next (if_pos ht)
  · intro s c hz
    have hexec : exec (.enumTimeout c) s = execEnumTimeout c s := rfl
    rw [hexec, execEnumTimeout, hz]
  · intro s c e n rtt hlen
    have htake : (rtt.toNat :: (s.ring c).rtt.get (2 * n.val + e.toNat) []).take 16 = rtt.toNat :: (s.ring c).rtt.get (2 * n.val + e.toNat) [] :=
      List.take_of_length_le (by rw [List.length_cons]; omega)
    have hexec : exec (.echoRx c e n rtt) s = execEchoRx c e n rtt s := rfl
    rw [Ends, hexec, execEchoRx]
    rw [htake, if_neg (by rw [List.length_cons]; omega)]
    refine ⟨_, rfl, ?_, rfl, rfl⟩
    rw [ring_setRing]
    exact SMap.get_set_self _ _ _ _
  · intro s c e n v
    exact ⟨_, rfl, State.rd_wr_of_lt _ v.isLt, (State.OnlyRegs.refl s _).wr List.mem_cons_self _⟩
  · intro s c e n v
    exact ⟨_, rfl, State.rd_wr_self _ _ _, (State.OnlyRegs.refl s _).wr List.mem_cons_self _⟩
  · intro s c n v hv
    exact exec_writeAckRx (e := false) rfl hv
  · intro s c n v hv
    exact exec_writeAckRx (e := true) rfl hv

end Sys2Proof.Machine
end

section
/-! The listen of a ring, and how mastership passes (O26). -/

namespace Sys2Proof.Machine

/-! ## The listen -/

section
variable {s : State} {c : Nat}

theorem latListenEnd_idle (h : (s.ring c).listening = false) : latListenEnd c s = s :=
  if_pos (by rw [h, Bool.not_false, Bool.or_true, Bool.true_or])

/-- A listen that is over. -/
theorem latListenEnd_over (hon : latOn s c = true) (hl : (s.ring c).listening = true)
    (ht : (s.ring c).startAt + (if s.rd F.SEAT_STAT_SIDE = 0 then 160000 else 480000) ≤ s.now) : latListenEnd c s =
      if (s.ring c).heard || s.girth.unpaired then s.setRing c { s.ring c with listening := false }
      else latEnumStart ((s.setRing c { s.ring c with listening := false }).wr (F.LAT_RSTAT_MASTER c) 1) c true := by
  have hspan : (if s.rdB F.SEAT_STAT_SIDE then 480000 else 160000) = if s.rd F.SEAT_STAT_SIDE = 0 then 160000 else 480000 := by
    rw [State.rdB]
    cases s.rd F.SEAT_STAT_SIDE with
    | zero => rfl
    | succ n => rfl
  have hgo : ¬ (!latOn s c || !(s.ring c).listening ||
      decide (s.now < (s.ring c).startAt + if s.rdB F.SEAT_STAT_SIDE then 480000 else 160000)) = true := by
    rw [hspan, hon, hl, decide_eq_false (by omega)]
    decide
  rw [latListenEnd]
  exact if_neg hgo

end

/-! ## Mastership passes -/

section
variable {s : State} {r : Req} {c : Fin 12}

theorem latPass_kept (h : s.rd (F.LAT_RSTAT_MASTER c) = 0 ∨ s.girth.unpaired = true) : latPass s c = s := by
  refine if_neg ?_
  obtain h | h := h
  · rw [rdB_of_rd_zero h, Bool.false_and]
    decide
  · rw [h, Bool.not_true, Bool.and_false]
    decide

theorem latPass_offers (hm : s.rd (F.LAT_RSTAT_MASTER c) = 1) (hp : s.girth.unpaired = false) : latPass s c =
    (s.setRing c { s.ring c with passOffer := some ((s.lat.seq + 8) % 40000), passAt := s.now }).emit
      (.xl (.ringPass c ((s.lat.seq + 8) % 40000))) :=
  if_pos (by rw [rdB_of_rd_one hm, hp]; rfl)

/-- A request to take a ring is answered, and kept where it is accepted. -/
theorem exec_ringPassRequest (l : Fin 40000) : ∃ ok : Bool, (ok = true → s.mode = mRUN ∧ s.girth.unpaired = false) ∧
    exec (.ringPassRequest c l) s = .next
      ((if ok then s.setRing c { s.ring c with passIn := some l.val } else s).emit (.xl (.ringPassAnswer c ok))) := by
  refine ⟨_, fun h => ?_, rfl⟩
  simp only [Bool.and_eq_true, Bool.not_eq_true', beq_iff_eq] at h
  exact ⟨h.1.1.1.1, h.1.1.1.2⟩

/-- Outside HANDOFF no handoff is refused. -/
theorem handoffRefuse_other (h : s.mode ≠ mHANDOFF) : handoffRefuse s = s := if_neg (by rw [beq_iff_eq]; exact h)

theorem exec_ringPassTimeout_early (h : (s.ring c).passOffer = none ∨ s.now < (s.ring c).passAt + 160000) :
    exec (.ringPassTimeout c) s = .next s := by
  refine congrArg Host.Outcome.next (if_neg ?_)
  rw [Bool.and_eq_true, decide_eq_true_eq]
  obtain h | h := h
  · rw [h]
    exact fun h => absurd h.1 (by decide)
  · omega

end

/-! ## The control window -/

section
variable (s : State) (c : Nat) (e : Bool)

theorem latLaunchCtl_regs (k : Nat) : (latLaunchCtl s c e k).regs = s.regs := by
  rw [latLaunchCtl]
  exact foldl_keeps State.regs (f := fun t f => t.emit (.latCtrl c e f)) (fun _ _ => rfl) _ _

theorem latWindowRing_regs : (latWindowRing c s).regs = s.regs := by
  have hends (t : State) (p : Option Bool) : ([false, true].foldl (fun t e =>
      if latActive t c e then latLaunchCtl t c e (if p == some e then 5 else 6) else t) t).regs = t.regs := by
    refine foldl_keeps State.regs (fun t e => ?_) t _
    split
    · exact latLaunchCtl_regs t c e _
    · rfl
  rw [latWindowRing]
  cases latPingNext s c with
  | none => exact hends s none
  | some y => exact hends _ (some y.1)

end

/-- Settles O26: the listen's end, the offer and its answer, and the window once in a set. -/
theorem ringMastership : Obligations.RingMastership := by
  refine ⟨?_, ?_, ?_, fun _ => rfl, ?_, ?_, ?_, ?_, ?_, ?_, ?_, ?_, ?_, ?_⟩
  · intro s h
    have hexec : exec .mastershipListenEnd s = .next (subSync (forN latListenEnd 12 s)) := rfl
    rw [forN_id fun c hc => latListenEnd_idle (h c hc)] at hexec
    exact ⟨_, hexec, (State.OnlyRegs.refl s _).subSync (by simp) (by simp)⟩
  · intro s c hon hl hh hp ht
    rw [latListenEnd_over hon hl ht, hh, hp]
    rfl
  · intro s c hon hl hh ht
    rw [latListenEnd_over hon hl ht, hh, Bool.true_or, if_pos rfl]
  · intro s r c hlive hr h
    have hexec : exec (.pass r c) s = .next ((latPass s c).status 0) := next_latCommand_done _ hlive hr
    rw [latPass_kept h] at hexec
    exact hexec
  · intro s r c hlive hr hm hp
    have hexec : exec (.pass r c) s = .next ((latPass s c).status 0) := next_latCommand_done _ hlive hr
    rw [latPass_offers hm hp] at hexec
    exact ⟨_, hexec, congrArg LatRing.passOffer (ring_setRing s c _), rfl, rfl, rfl⟩
  · intro s c l h
    obtain ⟨ok, hok, hexec⟩ := exec_ringPassRequest (s := s) (c := c) l
    cases ok with
    | false => exact ⟨_, hexec, rfl⟩
    | true =>
      obtain ⟨hrun, hp⟩ := hok rfl
      obtain h | h := h
      · exact absurd hrun h
      · exact absurd (hp.symm.trans h) (by decide)
  · intro s c l
    obtain ⟨ok, -, hexec⟩ := exec_ringPassRequest (s := s) (c := c) l
    cases ok with
    | false => exact ⟨_, hexec, false, rfl, rfl, fun h => absurd h (by decide), fun _ => rfl⟩
    | true => exact ⟨_, hexec, true, rfl, rfl, fun _ => congrArg LatRing.passIn (ring_setRing s c _), fun h => absurd h (by decide)⟩
  · intro s c l h
    have hexec : exec (.ringPassAcceptRx c) s = .next (s.setRing c { s.ring c with passOffer := none, passOut := some l }) := by
      have hdef : exec (.ringPassAcceptRx c) s = execRingPassAcceptRx c s := rfl
      rw [hdef, execRingPassAcceptRx, h]
    exact ⟨_, hexec, ring_setRing s c _, rfl, rfl⟩
  · intro s c h
    refine ⟨?_, exec_ringPassTimeout_early (.inl h)⟩
    have hdef : exec (.ringPassAcceptRx c) s = execRingPassAcceptRx c s := rfl
    rw [hdef, execRingPassAcceptRx, h]
  · intro s c l ho ht hm
    have hgo : ((s.ring c).passOffer.isSome && decide ((s.ring c).passAt + 160000 ≤ s.now)) = true := by
      rw [ho, decide_eq_true ht]
      rfl
    have hexec : exec (.ringPassTimeout c) s = .next (handoffRefuse ((s.setRing c { s.ring c with passOffer := none }).wr
        (F.LAT_RFLT_PASS_FAIL c) 1)) := congrArg Host.Outcome.next (if_pos hgo)
    have hmode : ((s.setRing c { s.ring c with passOffer := none }).wr (F.LAT_RFLT_PASS_FAIL c) 1).mode = s.mode := by
      rw [State.mode, State.rd_wr_ne _ _ (by simp only [Field.key, F.GIRTH_MODE_MODE, F.LAT_RFLT_PASS_FAIL]; omega)]
      rfl
    rw [handoffRefuse_other (by rw [hmode]; exact hm)] at hexec
    exact ⟨_, hexec, State.rd_wr_of_lt _ (Nat.lt_of_lt_of_eq Nat.one_lt_two rfl), ring_setRing s c _,
      (s.RegsBut_refl _).set List.mem_cons_self rfl⟩
  · intro s c h
    exact exec_ringPassTimeout_early (.inr h)
  · intro s
    have hexec : ∃ t, exec .latControlWindow s = .next t ∧ t.regs = s.regs := by
      refine ⟨_, rfl, ?_⟩
      split
      · rfl
      · exact forN_keeps State.regs (fun c _ t => latWindowRing_regs t c) _
    obtain ⟨t, ht, hregs⟩ := hexec
    have hw := within_of_exec ht
    exact ⟨t, ht, hregs, hw.out_pre, hw.same .mem (by decide)⟩
  · intro s h
    refine congrArg Host.Outcome.next (if_pos ?_)
    rw [Bool.or_eq_true, Bool.or_eq_true, Bool.not_eq_true', decide_eq_true_eq]
    obtain h | h | h := h
    · exact .inl (.inl h)
    · exact .inl (.inr h)
    · exact .inr h

end Sys2Proof.Machine
end

section
/-! Rules of Trellis's tracker: what each step of lock, slew and holdover writes. -/

namespace Sys2Proof.Machine

/-- The registers of the increment. -/
def incRegs : List Field := [F.TRL_INC_INT_INT, F.TRL_INC_FRAC_FRAC]

section
variable (s : State)

theorem setInc_regs (i : Nat) : s.RegsBut (setInc s i) incRegs :=
  (((State.OnlyRegs.refl s incRegs).wr (g := F.TRL_INC_INT_INT) (by simp [incRegs]) _).wr (g := F.TRL_INC_FRAC_FRAC) (by simp [incRegs]) _).regs

theorem slewScale_regs : s.RegsBut (slewScale s) incRegs := setInc_regs s _

theorem trl_regs (x : TrellisSt) (fs : List Field) : s.RegsBut { s with trl := x } fs := s.RegsBut_refl _

theorem setFreq_regs (f : Nat) : s.RegsBut (setFreq s f) (F.TRL_FREQ_FREQ :: incRegs) := by
  unfold setFreq
  extract_lets __src u
  have hu : s.RegsBut u (F.TRL_FREQ_FREQ :: incRegs) := trl_regs s _ _
  clear_value u
  have hi := setInc_regs u (incOfFreq f)
  generalize setInc u (incOfFreq f) = v at hi
  exact hu.trans ((hi.mono (List.subset_cons_self _ _)).trans ((State.OnlyRegs.refl v _).wr List.mem_cons_self f).regs)

theorem setFreq_freq (f : Nat) : (setFreq s f).rd F.TRL_FREQ_FREQ = f % 2 ^ 32 := State.rd_wr_self _ _ _

theorem trlFollow_regs (f : Nat) (e : Int) : s.RegsBut (trlFollow s f e) (F.TRL_FREQ_FREQ :: incRegs) := by
  unfold trlFollow
  extract_lets g __src u v
  have hv : s.RegsBut v (F.TRL_FREQ_FREQ :: incRegs) := (s.RegsBut_refl _).set List.mem_cons_self rfl
  clear_value v
  split
  · exact hv.trans ((slewScale_regs v).mono (List.subset_cons_self _ _))
  · exact hv.trans ((setInc_regs v _).mono (List.subset_cons_self _ _))

theorem trlFollow_freq (f : Nat) (e : Int) : (trlFollow s f e).rd F.TRL_FREQ_FREQ = f % 2 ^ 32 := by
  unfold trlFollow
  extract_lets g __src u v
  have hv : v.rd F.TRL_FREQ_FREQ = f % 2 ^ 32 := State.rd_wr_self _ _ _
  clear_value v
  split
  · exact (slewScale_regs v _ (by decide)).trans hv
  · exact (setInc_regs v _ _ (by decide)).trans hv

/-- A degraded status reaches two registers of Girth. -/
theorem degrade_regs (src : Nat) (b : Bool) : s.RegsBut (s.degrade src b) [F.SEAT_STAT_EXTRACT_OK, F.GIRTH_MODE_SUBSTATE] := by
  have h (g : GirthSt) : s.RegsBut { s with girth := g } [F.SEAT_STAT_EXTRACT_OK, F.GIRTH_MODE_SUBSTATE] := s.RegsBut_refl _
  exact (h _).trans ((State.OnlyRegs.refl _ _).subSync (by simp) (by simp)).regs

/-- An error that is slewed out shows SLEWING, LOCK clear. -/
theorem slewStart_shows (err : Int) : (slewStart s err).rd F.TRL_STAT_SLEWING = 1 ∧ (slewStart s err).rd F.TRL_STAT_LOCK = 0 ∧
    (slewStart s err).trl.slewErr = err * 2 ^ 32 ∧
    s.RegsBut (slewStart s err) (F.TRL_STAT_SLEWING :: F.TRL_STAT_LOCK :: incRegs) := by
  unfold slewStart
  extract_lets __src u
  have hu : s.RegsBut u (F.TRL_STAT_SLEWING :: F.TRL_STAT_LOCK :: incRegs) :=
    (trl_regs s _ _).trans ((slewScale_regs _).mono (by simp))
  have herr : u.trl.slewErr = err * 2 ^ 32 := rfl
  clear_value u
  refine ⟨?_, State.rd_wr_of_lt _ (Nat.two_pow_pos _), herr, ?_⟩
  · rw [State.rd_wr_ne _ _ (by decide)]
    exact State.rd_wr_of_lt _ (Nat.lt_of_lt_of_eq Nat.one_lt_two rfl)
  · exact hu.trans (((State.OnlyRegs.refl u _).wr (g := F.TRL_STAT_SLEWING) (by simp) 1).wr (g := F.TRL_STAT_LOCK) (by simp) 0).regs

theorem firstCycle_regs : s.RegsBut (firstCycle s) [F.TRL_STAT_CYC_ADOPTED] := by
  unfold firstCycle
  extract_lets p __src u
  have hu : s.RegsBut u [F.TRL_STAT_CYC_ADOPTED] := trl_regs s _ _
  clear_value u
  split
  · exact hu.trans ((trl_regs u _ _).trans ((State.OnlyRegs.refl _ _).wr List.mem_cons_self 1).regs)
  · exact hu.trans (trl_regs u _ _)

/-- The registers that LOCK's setting writes. -/
def lockRegs : List Field := [F.TRL_INC_INT_INT, F.TRL_INC_FRAC_FRAC, F.TRL_STAT_CYC_ADOPTED, F.TRL_STAT_LOCK, F.TRL_STAT_HOLDOVER,
  F.TRL_STAT_NEVER_LOCKED, F.TRL_STAT_SLEWING, F.TRL_STAT_HO_LONG, F.SEAT_STAT_EXTRACT_OK, F.GIRTH_MODE_SUBSTATE]

/-- LOCK sets, and what was under way ends. -/
theorem lockSet_shows : (lockSet s).rd F.TRL_STAT_LOCK = 1 ∧ (lockSet s).rd F.TRL_STAT_HOLDOVER = 0 ∧
    (lockSet s).rd F.TRL_STAT_NEVER_LOCKED = 0 ∧ (lockSet s).rd F.TRL_STAT_SLEWING = 0 ∧ s.RegsBut (lockSet s) lockRegs ∧
    (s.rd F.TRL_STAT_NEVER_LOCKED = 0 → (lockSet s).trl.cyc = s.trl.cyc) := by
  unfold lockSet
  extract_lets u1 u2 u3 u4 x
  have h1 : s.RegsBut u1 incRegs := setInc_regs s _
  have hcyc1 : u1.trl.cyc = s.trl.cyc := rfl
  have h2 : s.RegsBut u2 lockRegs := by
    refine (h1.mono (by simp [incRegs, lockRegs])).trans ?_
    unfold u2
    split
    · exact (firstCycle_regs u1).mono (by simp [lockRegs])
    · exact u1.RegsBut_refl _
  have hcyc2 (h : s.rd F.TRL_STAT_NEVER_LOCKED = 0) : u2.trl.cyc = s.trl.cyc := by
    have hn : u2 = u1 := if_neg (by rw [rdB_of_rd_zero ((h1 _ (by decide)).trans h)]; decide)
    rw [hn]
    exact hcyc1
  clear_value u2
  have h3 : u2.RegsBut (u3.wr F.TRL_STAT_HO_LONG 0) lockRegs :=
    (((((State.OnlyRegs.refl u2 lockRegs).wr (g := F.TRL_STAT_LOCK) (by simp [lockRegs]) 1).wr (g := F.TRL_STAT_HOLDOVER)
      (by simp [lockRegs]) 0).wr (g := F.TRL_STAT_NEVER_LOCKED) (by simp [lockRegs]) 0).wr (g := F.TRL_STAT_SLEWING)
      (by simp [lockRegs]) 0).wr (g := F.TRL_STAT_HO_LONG) (by simp [lockRegs]) 0 |>.regs
  have hlock : (u3.wr F.TRL_STAT_HO_LONG 0).rd F.TRL_STAT_LOCK = 1 := by
    rw [State.rd_wr_ne _ _ (by decide), State.rd_wr_ne _ _ (by decide), State.rd_wr_ne _ _ (by decide), State.rd_wr_ne _ _ (by decide)]
    exact State.rd_wr_of_lt _ (Nat.lt_of_lt_of_eq Nat.one_lt_two rfl)
  have hhold : (u3.wr F.TRL_STAT_HO_LONG 0).rd F.TRL_STAT_HOLDOVER = 0 := by
    rw [State.rd_wr_ne _ _ (by decide), State.rd_wr_ne _ _ (by decide), State.rd_wr_ne _ _ (by decide)]
    exact State.rd_wr_of_lt _ (Nat.two_pow_pos _)
  have hnever : (u3.wr F.TRL_STAT_HO_LONG 0).rd F.TRL_STAT_NEVER_LOCKED = 0 := by
    rw [State.rd_wr_ne _ _ (by decide), State.rd_wr_ne _ _ (by decide)]
    exact State.rd_wr_of_lt _ (Nat.two_pow_pos _)
  have hslew : (u3.wr F.TRL_STAT_HO_LONG 0).rd F.TRL_STAT_SLEWING = 0 := by
    rw [State.rd_wr_ne _ _ (by decide)]
    exact State.rd_wr_of_lt _ (Nat.two_pow_pos _)
  have hx : x.cyc = u2.trl.cyc := rfl
  have hu4 : u4 = (u3.wr F.TRL_STAT_HO_LONG 0).degrade 600 false := rfl
  clear_value x u4
  generalize u3.wr F.TRL_STAT_HO_LONG 0 = v at h3 hlock hhold hnever hslew hu4
  subst hu4
  have hd := degrade_regs v 600 false
  generalize v.degrade 600 false = w at hd
  exact ⟨(hd F.TRL_STAT_LOCK (by decide)).trans hlock, (hd F.TRL_STAT_HOLDOVER (by decide)).trans hhold,
    (hd F.TRL_STAT_NEVER_LOCKED (by decide)).trans hnever, (hd F.TRL_STAT_SLEWING (by decide)).trans hslew,
    h2.trans (h3.trans (hd.mono (by simp [lockRegs]))), fun h => hx.trans (hcyc2 h)⟩

/-- A source that becomes the active one: its frequency, and its error slewed out. -/
theorem srcTake_slews {act f : Nat} {err : Int} (hact : act < 4) (herr : err ≠ 0) :
    (srcTake s act f err).rd F.TRL_STAT_SLEWING = 1 ∧ (srcTake s act f err).rd F.TRL_STAT_LOCK = 0 ∧
      (srcTake s act f err).rd F.TRL_FREQ_FREQ = f % 2 ^ 32 ∧ (srcTake s act f err).rd F.TRL_STAT_SRC_ACT = act ∧
      (srcTake s act f err).trl.slewErr = err * 2 ^ 32 := by
  have hsrc : (s.wr F.TRL_STAT_SRC_ACT act).rd F.TRL_STAT_SRC_ACT = act := State.rd_wr_of_lt _ hact
  rw [srcTake, if_neg herr]
  generalize s.wr F.TRL_STAT_SRC_ACT act = u at hsrc
  have hf := setFreq_freq u f
  have hk := setFreq_regs u f F.TRL_STAT_SRC_ACT (by decide)
  generalize setFreq u f = v at hf hk
  obtain ⟨hs, hl, he, hregs⟩ := slewStart_shows v err
  exact ⟨hs, hl, (hregs _ (by decide)).trans hf, (hregs _ (by decide)).trans (hk.trans hsrc), he⟩

/-- A source that becomes the active one without error is in lock at once. -/
theorem srcTake_locks {act : Nat} (f : Nat) (hact : act < 4) :
    (srcTake s act f 0).rd F.TRL_STAT_LOCK = 1 ∧ (srcTake s act f 0).rd F.TRL_STAT_NEVER_LOCKED = 0 ∧
      (srcTake s act f 0).rd F.TRL_STAT_HOLDOVER = 0 ∧ (srcTake s act f 0).rd F.TRL_STAT_SLEWING = 0 ∧
      (srcTake s act f 0).rd F.TRL_FREQ_FREQ = f % 2 ^ 32 ∧ (srcTake s act f 0).rd F.TRL_STAT_SRC_ACT = act := by
  have hsrc : (s.wr F.TRL_STAT_SRC_ACT act).rd F.TRL_STAT_SRC_ACT = act := State.rd_wr_of_lt _ hact
  rw [srcTake, if_pos rfl]
  generalize s.wr F.TRL_STAT_SRC_ACT act = u at hsrc
  have hf := setFreq_freq u f
  have hk := setFreq_regs u f F.TRL_STAT_SRC_ACT (by decide)
  generalize setFreq u f = v at hf hk
  obtain ⟨hl, hh, hn, hs, hregs, -⟩ := lockSet_shows v
  exact ⟨hl, hn, hh, hs, (hregs _ (by decide)).trans hf, (hregs _ (by decide)).trans (hk.trans hsrc)⟩

/-- The registers that a holdover writes. -/
def holdoverRegs : List Field := [F.TRL_INC_INT_INT, F.TRL_INC_FRAC_FRAC, F.TRL_STAT_LOCK, F.TRL_STAT_SLEWING, F.TRL_STAT_SRC_ACT,
  F.TRL_STAT_HOLDOVER, F.TRL_FLT_LOCK_LOST, F.TRL_FREQ_FREQ]

theorem holdoverFreq_le (s : State) : holdoverFreq s ≤ 65000000 := by
  unfold holdoverFreq
  extract_lets w m
  split
  · omega
  · split <;> omega

theorem holdoverFreq_congr {s t : State} (htrl : t.trl.refFreqs = s.trl.refFreqs) (hf : t.rd F.TRL_FREQ_FREQ = s.rd F.TRL_FREQ_FREQ) :
    holdoverFreq t = holdoverFreq s := by
  rw [holdoverFreq, holdoverFreq, htrl, hf]

/-- A source that has been in lock is lost: the angle runs on at the holdover frequency. -/
theorem enterHoldover_shows (h : s.rd F.TRL_STAT_NEVER_LOCKED = 0) : (enterHoldover s).rd F.TRL_STAT_LOCK = 0 ∧
    (enterHoldover s).rd F.TRL_STAT_HOLDOVER = 1 ∧ (enterHoldover s).rd F.TRL_FLT_LOCK_LOST = 1 ∧
    (enterHoldover s).rd F.TRL_STAT_SRC_ACT = 0 ∧ (enterHoldover s).rd F.TRL_FREQ_FREQ = holdoverFreq s ∧
    s.RegsBut (enterHoldover s) holdoverRegs ∧ (enterHoldover s).trl.senders = s.trl.senders := by
  unfold enterHoldover
  extract_lets __src u v
  have hu : s.RegsBut u holdoverRegs := s.RegsBut_refl _
  have hv : u.RegsBut v holdoverRegs := ((((State.OnlyRegs.refl u holdoverRegs).wr (g := F.TRL_STAT_LOCK) (by simp [holdoverRegs]) 0).wr
    (g := F.TRL_STAT_SLEWING) (by simp [holdoverRegs]) 0).wr (g := F.TRL_STAT_SRC_ACT) (by simp [holdoverRegs]) 0).regs
  have hlock : v.rd F.TRL_STAT_LOCK = 0 := by
    rw [State.rd_wr_ne _ _ (by decide), State.rd_wr_ne _ _ (by decide)]
    exact State.rd_wr_of_lt _ (Nat.two_pow_pos _)
  have hact : v.rd F.TRL_STAT_SRC_ACT = 0 := State.rd_wr_of_lt _ (Nat.two_pow_pos _)
  have hnever : v.rd F.TRL_STAT_NEVER_LOCKED = 0 := ((hu.trans hv) _ (by decide)).trans h
  have hfreq : v.rd F.TRL_FREQ_FREQ = s.rd F.TRL_FREQ_FREQ := by
    rw [State.rd_wr_ne _ _ (by decide), State.rd_wr_ne _ _ (by decide), State.rd_wr_ne _ _ (by decide)]
    rfl
  have hho : holdoverFreq v = holdoverFreq s := holdoverFreq_congr rfl hfreq
  have hsend : v.trl.senders = s.trl.senders := rfl
  clear_value v
  rw [if_neg (by rw [rdB_of_rd_zero hnever]; decide), hho]
  have hw : v.RegsBut ((v.wr F.TRL_STAT_HOLDOVER 1).wr F.TRL_FLT_LOCK_LOST 1) holdoverRegs :=
    (((State.OnlyRegs.refl v holdoverRegs).wr (g := F.TRL_STAT_HOLDOVER) (by simp [holdoverRegs]) 1).wr (g := F.TRL_FLT_LOCK_LOST)
      (by simp [holdoverRegs]) 1).regs
  have hhold : ((v.wr F.TRL_STAT_HOLDOVER 1).wr F.TRL_FLT_LOCK_LOST 1).rd F.TRL_STAT_HOLDOVER = 1 := by
    rw [State.rd_wr_ne _ _ (by decide)]
    exact State.rd_wr_of_lt _ (Nat.lt_of_lt_of_eq Nat.one_lt_two rfl)
  have hlost : ((v.wr F.TRL_STAT_HOLDOVER 1).wr F.TRL_FLT_LOCK_LOST 1).rd F.TRL_FLT_LOCK_LOST = 1 :=
    State.rd_wr_of_lt _ (Nat.lt_of_lt_of_eq Nat.one_lt_two rfl)
  have hlock' : ((v.wr F.TRL_STAT_HOLDOVER 1).wr F.TRL_FLT_LOCK_LOST 1).rd F.TRL_STAT_LOCK = 0 := by
    rw [State.rd_wr_ne _ _ (by decide), State.rd_wr_ne _ _ (by decide)]
    exact hlock
  have hact' : ((v.wr F.TRL_STAT_HOLDOVER 1).wr F.TRL_FLT_LOCK_LOST 1).rd F.TRL_STAT_SRC_ACT = 0 := by
    rw [State.rd_wr_ne _ _ (by decide), State.rd_wr_ne _ _ (by decide)]
    exact hact
  have hsend' : ((v.wr F.TRL_STAT_HOLDOVER 1).wr F.TRL_FLT_LOCK_LOST 1).trl.senders = s.trl.senders := hsend
  generalize (v.wr F.TRL_STAT_HOLDOVER 1).wr F.TRL_FLT_LOCK_LOST 1 = w at hw hhold hlost hlock' hact' hsend'
  have hset := setFreq_regs w (holdoverFreq s)
  have hf := setFreq_freq w (holdoverFreq s)
  have hle := holdoverFreq_le s
  have htrl : (setFreq w (holdoverFreq s)).trl.senders = w.trl.senders := rfl
  generalize setFreq w (holdoverFreq s) = x at hset hf htrl
  exact ⟨(hset _ (by decide)).trans hlock', (hset _ (by decide)).trans hhold, (hset _ (by decide)).trans hlost,
    (hset _ (by decide)).trans hact', hf.trans (Nat.mod_eq_of_lt (by omega)),
    hu.trans (hv.trans (hw.trans (hset.mono (by simp [incRegs, holdoverRegs])))), htrl.trans hsend'⟩

end

end Sys2Proof.Machine
end

section
/-! Cycle boundaries, lock, slew, loss and holdover (O15). -/

namespace Sys2Proof.Machine

theorem rdB_of_rd_ne_zero {s : State} {f : Field} (h : s.rd f ≠ 0) : s.rdB f = true := bne_iff_ne.mpr h

/-! ## The cycle boundary -/

/-- What the tracker measured, shown. -/
def measShown (s : State) (m : TrlMeas) : State :=
  let s := (s.wr F.TRL_ROCOF_ROCOF m.rocof.toNat).wr F.TRL_AMP_GRA m.ampA.toNat
  let s := (s.wr F.TRL_AMP_GRB m.ampB.toNat).wr F.TRL_AMP_GRC m.ampC.toNat
  s.wrB F.TRL_STAT_ROT_ACB m.rotAcb

/-- The phase error, shown. -/
def pherrShown (s : State) (m : TrlMeas) : State := (s.wr F.TRL_PHERR_PHERR m.pherr.toNat).wr F.TRL_PHERR_PHERR_RMS m.rms.toNat

/-- The registers that a cycle boundary shows its measurement in. -/
def measRegs : List Field := [F.TRL_ROCOF_ROCOF, F.TRL_AMP_GRA, F.TRL_AMP_GRB, F.TRL_AMP_GRC, F.TRL_STAT_ROT_ACB, F.TRL_PHERR_PHERR,
  F.TRL_PHERR_PHERR_RMS, F.TRL_FREQ_FREQ, F.TRL_INC_INT_INT, F.TRL_INC_FRAC_FRAC]

section
variable (s : State) (m : TrlMeas)

theorem measShown_shows : (measShown s m).rd F.TRL_ROCOF_ROCOF = m.rocof.toNat ∧ (measShown s m).rd F.TRL_AMP_GRA = m.ampA.toNat ∧
    (measShown s m).rd F.TRL_AMP_GRB = m.ampB.toNat ∧ (measShown s m).rd F.TRL_AMP_GRC = m.ampC.toNat ∧
    (measShown s m).rd F.TRL_STAT_ROT_ACB = m.rotAcb.toNat ∧ s.RegsBut (measShown s m) measRegs := by
  rw [measShown]
  refine ⟨?_, ?_, ?_, ?_, State.rd_wr_of_lt _ (Nat.lt_of_lt_of_eq (Bool.toNat_lt m.rotAcb) rfl), ?_⟩
  · rw [State.rd_wrB_ne _ _ (by decide), State.rd_wr_ne _ _ (by decide), State.rd_wr_ne _ _ (by decide), State.rd_wr_ne _ _ (by decide)]
    exact State.rd_wr_of_lt _ m.rocof.isLt
  · rw [State.rd_wrB_ne _ _ (by decide), State.rd_wr_ne _ _ (by decide), State.rd_wr_ne _ _ (by decide)]
    exact State.rd_wr_of_lt _ m.ampA.isLt
  · rw [State.rd_wrB_ne _ _ (by decide), State.rd_wr_ne _ _ (by decide)]
    exact State.rd_wr_of_lt _ m.ampB.isLt
  · rw [State.rd_wrB_ne _ _ (by decide)]
    exact State.rd_wr_of_lt _ m.ampC.isLt
  · exact ((((((State.OnlyRegs.refl s measRegs).wr (g := F.TRL_ROCOF_ROCOF) (by simp [measRegs]) _).wr (g := F.TRL_AMP_GRA)
      (by simp [measRegs]) _).wr (g := F.TRL_AMP_GRB) (by simp [measRegs]) _).wr (g := F.TRL_AMP_GRC) (by simp [measRegs]) _).wrB
      (g := F.TRL_STAT_ROT_ACB) (by simp [measRegs]) _).regs

theorem pherrShown_shows : (pherrShown s m).rd F.TRL_PHERR_PHERR = m.pherr.toNat ∧ (pherrShown s m).rd F.TRL_PHERR_PHERR_RMS = m.rms.toNat ∧
    s.RegsBut (pherrShown s m) [F.TRL_PHERR_PHERR, F.TRL_PHERR_PHERR_RMS] := by
  rw [pherrShown]
  refine ⟨?_, State.rd_wr_of_lt _ m.rms.isLt, ?_⟩
  · rw [State.rd_wr_ne _ _ (by decide)]
    exact State.rd_wr_of_lt _ m.pherr.isLt
  · exact (((State.OnlyRegs.refl s _).wr (g := F.TRL_PHERR_PHERR) (by simp) _).wr (g := F.TRL_PHERR_PHERR_RMS) (by simp) _).regs

theorem trlMeasured_eq : trlMeasured s m = (let u := measShown (refCycle s m) m
    if u.rd F.TRL_STAT_SRC_ACT = 2 then u
    else if (pherrShown u m).rd F.TRL_STAT_SRC_ACT = 1 then trlFollow (pherrShown u m) m.freq.toNat (toInt 16 m.pherr.toNat)
    else pherrShown u m) := rfl

/-- A boundary's measurement, by the active source. -/
theorem trlMeasured_shows : (trlMeasured s m).rd F.TRL_ROCOF_ROCOF = m.rocof.toNat ∧ (trlMeasured s m).rd F.TRL_AMP_GRA = m.ampA.toNat ∧
    (trlMeasured s m).rd F.TRL_AMP_GRB = m.ampB.toNat ∧ (trlMeasured s m).rd F.TRL_AMP_GRC = m.ampC.toNat ∧
    (trlMeasured s m).rd F.TRL_STAT_ROT_ACB = m.rotAcb.toNat ∧
    (s.rd F.TRL_STAT_SRC_ACT ≠ 2 →
      (trlMeasured s m).rd F.TRL_PHERR_PHERR = m.pherr.toNat ∧ (trlMeasured s m).rd F.TRL_PHERR_PHERR_RMS = m.rms.toNat) ∧
    (s.rd F.TRL_STAT_SRC_ACT = 1 → (trlMeasured s m).rd F.TRL_FREQ_FREQ = m.freq.toNat) ∧ s.RegsBut (trlMeasured s m) measRegs := by
  rw [trlMeasured_eq]
  have hcyc : s.RegsBut (refCycle s m) measRegs := s.RegsBut_refl _
  have hact : (refCycle s m).rd F.TRL_STAT_SRC_ACT = s.rd F.TRL_STAT_SRC_ACT := rfl
  generalize refCycle s m = r at hcyc hact
  obtain ⟨hroc, ha, hb, hc, hrot, hregs⟩ := measShown_shows r m
  generalize measShown r m = u at hroc ha hb hc hrot hregs
  have huact : u.rd F.TRL_STAT_SRC_ACT = s.rd F.TRL_STAT_SRC_ACT := (hregs _ (by decide)).trans hact
  dsimp only
  rw [huact]
  obtain ⟨hph, hrms, hpregs⟩ := pherrShown_shows u m
  generalize pherrShown u m = v at hph hrms hpregs
  have hvact : v.rd F.TRL_STAT_SRC_ACT = s.rd F.TRL_STAT_SRC_ACT := (hpregs _ (by decide)).trans huact
  rw [hvact]
  by_cases h2 : s.rd F.TRL_STAT_SRC_ACT = 2
  · rw [if_pos h2]
    exact ⟨hroc, ha, hb, hc, hrot, fun h => absurd h2 h, fun h => by omega, hcyc.trans hregs⟩
  · rw [if_neg h2]
    by_cases h1 : s.rd F.TRL_STAT_SRC_ACT = 1
    · rw [if_pos h1]
      have hf := trlFollow_freq v m.freq.toNat (toInt 16 m.pherr.toNat)
      have hfr := trlFollow_regs v m.freq.toNat (toInt 16 m.pherr.toNat)
      generalize trlFollow v m.freq.toNat (toInt 16 m.pherr.toNat) = w at hf hfr
      have hall {f : Field} (h : ∀ g ∈ F.TRL_FREQ_FREQ :: incRegs, f.key ≠ g.key)
          (h' : ∀ g ∈ [F.TRL_PHERR_PHERR, F.TRL_PHERR_PHERR_RMS], f.key ≠ g.key) : w.rd f = u.rd f := (hfr f h).trans (hpregs f h')
      exact ⟨(hall (by decide) (by decide)).trans hroc, (hall (by decide) (by decide)).trans ha, (hall (by decide) (by decide)).trans hb,
        (hall (by decide) (by decide)).trans hc, (hall (by decide) (by decide)).trans hrot,
        fun _ => ⟨(hfr _ (by decide)).trans hph, (hfr _ (by decide)).trans hrms⟩,
        fun _ => hf.trans (Nat.mod_eq_of_lt m.freq.isLt),
        hcyc.trans (hregs.trans ((hpregs.mono (by simp [measRegs])).trans (hfr.mono (by simp [incRegs, measRegs]))))⟩
    · rw [if_neg h1]
      exact ⟨(hpregs _ (by decide)).trans hroc, (hpregs _ (by decide)).trans ha, (hpregs _ (by decide)).trans hb,
        (hpregs _ (by decide)).trans hc, (hpregs _ (by decide)).trans hrot, fun _ => ⟨hph, hrms⟩, fun h => absurd h h1,
        hcyc.trans (hregs.trans (hpregs.mono (by simp [measRegs])))⟩

end

/-- The history entry of the present cycle. -/
theorem cycHist_shows (s : State) : (cycHist s).rd (F.TRL_CYC_HIST_CYC (s.trl.cyc.toNat % 16)) = s.trl.cyc.toNat ∧
    (cycHist s).rd (F.TRL_CYC_HIST_NS (s.trl.cyc.toNat % 16)) = s.pt.ns.toNat ∧
    (cycHist s).rd (F.TRL_CYC_HIST_S_LO (s.trl.cyc.toNat % 16)) = s.pt.sec.toNat % 2 ^ 32 ∧
    (cycHist s).rd (F.TRL_CYC_HIST_S_HI (s.trl.cyc.toNat % 16)) = s.pt.sec.toNat / 2 ^ 32 ∧
    (cycHist s).rd F.TRL_STAT_SRC_ACT = s.rd F.TRL_STAT_SRC_ACT := by
  have hhi : s.pt.sec.toNat / 2 ^ 32 < 2 ^ 16 := by
    have := s.pt.sec.isLt
    omega
  unfold cycHist
  extract_lets c i u
  change (State.rd _ (F.TRL_CYC_HIST_CYC i) = _ ∧ State.rd _ (F.TRL_CYC_HIST_NS i) = _ ∧ State.rd _ (F.TRL_CYC_HIST_S_LO i) = _ ∧
    State.rd _ (F.TRL_CYC_HIST_S_HI i) = _ ∧ _)
  have hc : c < 2 ^ 32 := s.trl.cyc.isLt
  have hne {f g : Field} (h : f.addr < g.addr) (hw : f.lo < 32) : f.key ≠ g.key := by
    simp only [Field.key]
    omega
  have hne' {f g : Field} (h : g.addr < f.addr) (hw : g.lo < 32) : f.key ≠ g.key := fun h' => hne h hw h'.symm
  have h01 : (F.TRL_CYC_HIST_CYC i).addr < (F.TRL_CYC_HIST_NS i).addr := by simp only [F.TRL_CYC_HIST_CYC, F.TRL_CYC_HIST_NS]; omega
  have h02 : (F.TRL_CYC_HIST_CYC i).addr < (F.TRL_CYC_HIST_S_LO i).addr := by simp only [F.TRL_CYC_HIST_CYC, F.TRL_CYC_HIST_S_LO]; omega
  have h03 : (F.TRL_CYC_HIST_CYC i).addr < (F.TRL_CYC_HIST_S_HI i).addr := by simp only [F.TRL_CYC_HIST_CYC, F.TRL_CYC_HIST_S_HI]; omega
  have h12 : (F.TRL_CYC_HIST_NS i).addr < (F.TRL_CYC_HIST_S_LO i).addr := by simp only [F.TRL_CYC_HIST_NS, F.TRL_CYC_HIST_S_LO]; omega
  have h13 : (F.TRL_CYC_HIST_NS i).addr < (F.TRL_CYC_HIST_S_HI i).addr := by simp only [F.TRL_CYC_HIST_NS, F.TRL_CYC_HIST_S_HI]; omega
  have h23 : (F.TRL_CYC_HIST_S_LO i).addr < (F.TRL_CYC_HIST_S_HI i).addr := by simp only [F.TRL_CYC_HIST_S_LO, F.TRL_CYC_HIST_S_HI]; omega
  have hsrc : F.TRL_STAT_SRC_ACT.addr < (F.TRL_CYC_HIST_CYC i).addr := by simp only [F.TRL_CYC_HIST_CYC, F.TRL_STAT_SRC_ACT]; omega
  have hlo {x : Nat} (h : x = 0) : x < 32 := by omega
  clear_value i
  refine ⟨?_, ?_, ?_, State.rd_wr_of_lt _ hhi, ?_⟩
  · rw [State.rd_wr_ne _ _ (hne h03 (hlo rfl)), State.rd_wr_ne _ _ (hne h02 (hlo rfl)), State.rd_wr_ne _ _ (hne h01 (hlo rfl))]
    exact State.rd_wr_of_lt _ hc
  · rw [State.rd_wr_ne _ _ (hne h13 (hlo rfl)), State.rd_wr_ne _ _ (hne h12 (hlo rfl))]
    exact State.rd_wr_of_lt _ s.pt.ns.isLt
  · rw [State.rd_wr_ne _ _ (hne h23 (hlo rfl))]
    exact State.rd_wr_self _ _ _
  · have hs : F.TRL_STAT_SRC_ACT.lo < 32 := by decide
    rw [State.rd_wr_ne _ _ (hne (hsrc.trans h03) hs), State.rd_wr_ne _ _ (hne (hsrc.trans h02) hs),
      State.rd_wr_ne _ _ (hne (hsrc.trans h01) hs), State.rd_wr_ne _ _ (hne hsrc hs)]

/-- The history lies above the registers of the measurement. -/
theorem measRegs_lt {f : Field} (h : 0x20000100 ≤ f.addr) : ∀ g ∈ measRegs, f.key ≠ g.key := by
  have hg : ∀ g ∈ measRegs, g.addr < 0x20000100 ∧ g.lo < 32 := by decide
  intro g hmem
  obtain ⟨haddr, hlo⟩ := hg g hmem
  simp only [Field.key]
  omega

/-! ## Loss of GRID -/

/-- The flags of the criteria that hold. -/
def lossShown (s : State) (a f p : Bool) : State :=
  let s := if a then s.wr F.TRL_FLT_AMP_LOW 1 else s
  let s := if f then s.wr F.TRL_FLT_FREQ_RANGE 1 else s
  if p then s.wr F.TRL_FLT_PHASE_ERR 1 else s

/-- The flags of the loss criteria. -/
def lossRegs : List Field := [F.TRL_FLT_AMP_LOW, F.TRL_FLT_FREQ_RANGE, F.TRL_FLT_PHASE_ERR]

theorem wrIf_shows (s : State) (b : Bool) {f : Field} (hw : 1 < 2 ^ f.w) {fs : List Field} (hf : f ∈ fs) :
    (b = true → (if b then s.wr f 1 else s).rd f = 1) ∧ s.OnlyRegs (if b then s.wr f 1 else s) fs ∧
      ∀ g : Field, g.key ≠ f.key → (if b then s.wr f 1 else s).rd g = s.rd g := by
  cases b with
  | false => exact ⟨fun h => absurd h (by decide), State.OnlyRegs.refl s fs, fun _ _ => rfl⟩
  | true => exact ⟨fun _ => State.rd_wr_of_lt s hw, (State.OnlyRegs.refl s fs).wr hf 1, fun g hg => State.rd_wr_ne s 1 hg⟩

theorem lossShown_shows (s : State) (a f p : Bool) : (a = true → (lossShown s a f p).rd F.TRL_FLT_AMP_LOW = 1) ∧
    (f = true → (lossShown s a f p).rd F.TRL_FLT_FREQ_RANGE = 1) ∧ (p = true → (lossShown s a f p).rd F.TRL_FLT_PHASE_ERR = 1) ∧
    s.OnlyRegs (lossShown s a f p) lossRegs := by
  rw [lossShown]
  have hw {g : Field} (h : g.w = 1) : 1 < 2 ^ g.w := by
    rw [h]
    exact Nat.one_lt_two
  obtain ⟨ha, hra, -⟩ := wrIf_shows s a (f := F.TRL_FLT_AMP_LOW) (hw rfl) (fs := lossRegs) (by simp [lossRegs])
  generalize (if a then s.wr F.TRL_FLT_AMP_LOW 1 else s) = u at ha hra
  obtain ⟨hf, hrf, hkf⟩ := wrIf_shows u f (f := F.TRL_FLT_FREQ_RANGE) (hw rfl) (fs := lossRegs) (by simp [lossRegs])
  generalize (if f then u.wr F.TRL_FLT_FREQ_RANGE 1 else u) = v at hf hrf hkf
  obtain ⟨hp, hrp, hkp⟩ := wrIf_shows v p (f := F.TRL_FLT_PHASE_ERR) (hw rfl) (fs := lossRegs) (by simp [lossRegs])
  exact ⟨fun h => (hkp _ (by decide)).trans ((hkf _ (by decide)).trans (ha h)), fun h => (hkp _ (by decide)).trans (hf h), hp,
    hra.trans (hrf.trans hrp)⟩

/-- A loss shows its criteria; the active source may go. -/
theorem exec_lockLoss (s : State) (a f p : Bool) : exec (.lockLoss a f p) s = .next
    (let x := a && decide (s.trl.amp < 50)
     let y := f && decide (2 ≤ s.trl.offRun)
     let z := p && decide (3 ≤ s.trl.phRun)
     if !(x || y || z) then s
     else if (lossShown s x y z).rd F.TRL_STAT_SRC_ACT != 1 then lossShown s x y z
     else sourceGone (lossShown s x y z) (if (lossShown s x y z).rd F.TRL_CTL_SRC = 2 ∧ (lossShown s x y z).rdB F.TRL_STAT_LOCK then
       netReady (lossShown s x y z) else none)) := rfl

theorem and_decide {a : Bool} {q : Prop} [Decidable q] (ha : a = true) (hq : q) : (a && decide q) = true := by
  rw [ha, decide_eq_true hq]
  rfl

/-- With another source active a loss of GRID only shows. -/
theorem lockLoss_other (s : State) (a f p : Bool) (hact : s.rd F.TRL_STAT_SRC_ACT ≠ 1) : Ends (.lockLoss a f p) s fun t =>
    (a = true → s.trl.amp < 50 → t.rd F.TRL_FLT_AMP_LOW = 1) ∧ (f = true → 2 ≤ s.trl.offRun → t.rd F.TRL_FLT_FREQ_RANGE = 1) ∧
      (p = true → 3 ≤ s.trl.phRun → t.rd F.TRL_FLT_PHASE_ERR = 1) ∧
      s.OnlyRegs t [F.TRL_FLT_AMP_LOW, F.TRL_FLT_FREQ_RANGE, F.TRL_FLT_PHASE_ERR] := by
  have hexec := exec_lockLoss s a f p
  obtain ⟨hx, hy, hz, hregs⟩ := lossShown_shows s (a && decide (s.trl.amp < 50)) (f && decide (2 ≤ s.trl.offRun))
    (p && decide (3 ≤ s.trl.phRun))
  refine ⟨_, hexec, ?_⟩
  dsimp only
  split
  case isTrue h =>
    rw [Bool.not_eq_true', Bool.or_eq_false_iff, Bool.or_eq_false_iff] at h
    obtain ⟨⟨ha, hf⟩, hp⟩ := h
    refine ⟨fun h1 h2 => absurd (and_decide h1 h2) ?_, fun h1 h2 => absurd (and_decide h1 h2) ?_, fun h1 h2 => absurd (and_decide h1 h2) ?_,
      State.OnlyRegs.refl s _⟩
    · rw [ha]; decide
    · rw [hf]; decide
    · rw [hp]; decide
  case isFalse =>
    rw [if_pos (bne_iff_ne.mpr (by rw [hregs.regs _ (by decide)]; exact hact))]
    exact ⟨fun h1 h2 => hx (and_decide h1 h2), fun h1 h2 => hy (and_decide h1 h2), fun h1 h2 => hz (and_decide h1 h2), hregs⟩

/-- GRID lost where nothing else may be used: holdover. -/
theorem lockLoss_holdover (s : State) (a f p : Bool)
    (h : (a && decide (s.trl.amp < 50) || f && decide (2 ≤ s.trl.offRun) || p && decide (3 ≤ s.trl.phRun)) = true)
    (hact : s.rd F.TRL_STAT_SRC_ACT = 1) (hsrc : s.rd F.TRL_CTL_SRC = 0) (hnever : s.rd F.TRL_STAT_NEVER_LOCKED = 0) :
    Ends (.lockLoss a f p) s fun t =>
      t.rd F.TRL_STAT_LOCK = 0 ∧ t.rd F.TRL_STAT_HOLDOVER = 1 ∧ t.rd F.TRL_FLT_LOCK_LOST = 1 ∧ t.rd F.TRL_STAT_SRC_ACT = 0 ∧
        t.rd F.TRL_FREQ_FREQ = holdoverFreq s ∧ (a = true → s.trl.amp < 50 → t.rd F.TRL_FLT_AMP_LOW = 1) ∧
        (f = true → 2 ≤ s.trl.offRun → t.rd F.TRL_FLT_FREQ_RANGE = 1) ∧
        (p = true → 3 ≤ s.trl.phRun → t.rd F.TRL_FLT_PHASE_ERR = 1) := by
  have hexec := exec_lockLoss s a f p
  dsimp only at hexec
  rw [h, if_neg (by decide)] at hexec
  obtain ⟨hx, hy, hz, hregs⟩ := lossShown_shows s (a && decide (s.trl.amp < 50)) (f && decide (2 ≤ s.trl.offRun))
    (p && decide (3 ≤ s.trl.phRun))
  have htrl : (lossShown s (a && decide (s.trl.amp < 50)) (f && decide (2 ≤ s.trl.offRun)) (p && decide (3 ≤ s.trl.phRun))).trl = s.trl := by
    rw [hregs.rest]
  generalize lossShown s (a && decide (s.trl.amp < 50)) (f && decide (2 ≤ s.trl.offRun)) (p && decide (3 ≤ s.trl.phRun)) = u
    at hexec hx hy hz hregs htrl
  have huact := (hregs.regs F.TRL_STAT_SRC_ACT (by decide)).trans hact
  have husrc := (hregs.regs F.TRL_CTL_SRC (by decide)).trans hsrc
  have huhold : holdoverFreq u = holdoverFreq s := holdoverFreq_congr (by rw [htrl]) (hregs.regs _ (by decide))
  rw [huact, if_neg (by decide), if_neg (by rw [husrc]; exact fun h => absurd h.1 (by decide))] at hexec
  obtain ⟨hl, hh, hlost, hsa, hf, hr, -⟩ := enterHoldover_shows u ((hregs.regs _ (by decide)).trans hnever)
  exact ⟨_, hexec, hl, hh, hlost, hsa, hf.trans huhold, fun h1 h2 => (hr _ (by decide)).trans (hx (and_decide h1 h2)),
    fun h1 h2 => (hr _ (by decide)).trans (hy (and_decide h1 h2)), fun h1 h2 => (hr _ (by decide)).trans (hz (and_decide h1 h2))⟩

/-! ## Messages lost, holdover limit, the latched angle -/

/-- Every message counts as lost. -/
def netLost (s : State) : State :=
  State.wr { s with trl := { s.trl with senders := s.trl.senders.map fun m => { m with inRow := 0 } } } F.TRL_FLT_NET_LOST 1

theorem exec_netTimeout {s : State} (h : netOld s = true) : exec .netTimeout s = .next
    (if (netLost s).rd F.TRL_STAT_SRC_ACT = 2 then enterHoldover (netLost s) else netLost s) :=
  congrArg Host.Outcome.next (if_neg (by rw [h]; decide))

theorem netLost_shows (s : State) : (netLost s).rd F.TRL_FLT_NET_LOST = 1 ∧ s.RegsBut (netLost s) [F.TRL_FLT_NET_LOST] ∧
    (netLost s).trl = { s.trl with senders := s.trl.senders.map fun m => { m with inRow := 0 } } :=
  ⟨State.rd_wr_of_lt _ (Nat.lt_of_lt_of_eq Nat.one_lt_two rfl), (trl_regs s _ _).set List.mem_cons_self rfl, rfl⟩

theorem trlNowRead_shows (s : State) : (trlNowRead s).resp = ⟨0, s.trl.ang.toNat⟩ ∧ (trlNowRead s).rd F.TRL_NOW_CYC_CYC = s.trl.cyc.toNat ∧
    (trlNowRead s).rd F.TRL_NOW_PT_NS_NS = s.pt.ns.toNat ∧ (trlNowRead s).trl = s.trl ∧ (trlNowRead s).pt = s.pt := by
  refine ⟨rfl, ?_, ?_, rfl, rfl⟩
  · rw [trlNowRead, State.rd_answer, State.rd_wr_ne _ _ (by decide), State.rd_wr_ne _ _ (by decide), State.rd_wr_ne _ _ (by decide)]
    exact State.rd_wr_of_lt _ s.trl.cyc.isLt
  · rw [trlNowRead, State.rd_answer, State.rd_wr_ne _ _ (by decide), State.rd_wr_ne _ _ (by decide)]
    exact State.rd_wr_of_lt _ s.pt.ns.isLt

section
variable {s : State}

theorem exec_lockAcquire_grid (err freq : BitVec 32) (ha : srcAllows s false = true) (hh : srcHeld s 1 = false)
    (hr : gridReady s = true) : exec (.lockAcquire false err freq) s =
      .next (srcTake s 1 freq.toNat (slewInterval (err.toNat + s.rd F.TRL_REF_OFS_OFS))) := by
  have hgo : ¬ (!srcAllows s false || srcHeld s 1) = true := by
    rw [ha, hh]
    decide
  exact congrArg Host.Outcome.next ((if_neg hgo).trans (if_pos hr))

theorem exec_lockAcquire_net (err freq : BitVec 32) {m : NetSender} (ha : srcAllows s true = true) (hh : srcHeld s 2 = false)
    (hr : netReady s = some m) : exec (.lockAcquire true err freq) s = .next (srcTake s 2 m.freq (netErr s m)) := by
  have hgo : ¬ (!srcAllows s true || srcHeld s 2) = true := by
    rw [ha, hh]
    decide
  have hexec : exec (.lockAcquire true err freq) s = execLockAcquire true err freq s := rfl
  rw [hexec, execLockAcquire, hr, if_pos rfl, if_neg hgo, if_pos rfl]

end

/-- What a boundary shows, and the history entry of a new cycle. -/
theorem cycleBoundary_shows (s : State) (m : TrlMeas) : Ends (.cycleBoundary m) s fun t =>
    t.rd F.TRL_ROCOF_ROCOF = m.rocof.toNat ∧ t.rd F.TRL_AMP_GRA = m.ampA.toNat ∧ t.rd F.TRL_AMP_GRB = m.ampB.toNat ∧
      t.rd F.TRL_AMP_GRC = m.ampC.toNat ∧ t.rd F.TRL_STAT_ROT_ACB = m.rotAcb.toNat ∧
      (s.rd F.TRL_STAT_SRC_ACT ≠ 2 → s.rd F.TRL_STAT_SRC_ACT ≠ 1 →
        t.rd F.TRL_PHERR_PHERR = m.pherr.toNat ∧ t.rd F.TRL_PHERR_PHERR_RMS = m.rms.toNat) ∧
      (s.rd F.TRL_STAT_SRC_ACT = 1 →
        t.rd F.TRL_PHERR_PHERR = m.pherr.toNat ∧ t.rd F.TRL_PHERR_PHERR_RMS = m.rms.toNat ∧ t.rd F.TRL_FREQ_FREQ = m.freq.toNat) ∧
      (cycleNew s = true → t.rd (F.TRL_CYC_HIST_CYC (s.trl.cyc.toNat % 16)) = s.trl.cyc.toNat ∧
        t.rd (F.TRL_CYC_HIST_NS (s.trl.cyc.toNat % 16)) = s.pt.ns.toNat ∧
        t.rd (F.TRL_CYC_HIST_S_LO (s.trl.cyc.toNat % 16)) = s.pt.sec.toNat % 2 ^ 32 ∧
        t.rd (F.TRL_CYC_HIST_S_HI (s.trl.cyc.toNat % 16)) = s.pt.sec.toNat / 2 ^ 32) := by
  obtain ⟨hcyc, hns, hlo, hhi, hact⟩ := cycHist_shows s
  have hu : (if cycleNew s then cycHist s else s).rd F.TRL_STAT_SRC_ACT = s.rd F.TRL_STAT_SRC_ACT := by
    split
    · exact hact
    · rfl
  have hnew (h : cycleNew s = true) : (if cycleNew s then cycHist s else s) = cycHist s := if_pos h
  have hexec : exec (.cycleBoundary m) s = .next (trlMeasured (if cycleNew s then cycHist s else s) m) := rfl
  generalize cycHist s = h at hcyc hns hlo hhi hnew hexec hu
  generalize (if cycleNew s then h else s) = u at hu hnew hexec
  obtain ⟨hroc, ha, hb, hc, hrot, hph, hf, hregs⟩ := trlMeasured_shows u m
  rw [hu] at hph hf
  generalize trlMeasured u m = t at hexec hroc ha hb hc hrot hph hf hregs
  refine ⟨t, hexec, hroc, ha, hb, hc, hrot, fun h _ => hph h, fun h => ?_, fun hn => ?_⟩
  · obtain ⟨h1, h2⟩ := hph (by omega)
    exact ⟨h1, h2, hf h⟩
  · have hk {f : Field} (h : 0x20000100 ≤ f.addr) : t.rd f = _ := (hregs f (measRegs_lt h)).trans (congrArg (State.rd · f) (hnew hn))
    exact ⟨(hk (by simp only [F.TRL_CYC_HIST_CYC]; omega)).trans hcyc, (hk (by simp only [F.TRL_CYC_HIST_NS]; omega)).trans hns,
      (hk (by simp only [F.TRL_CYC_HIST_S_LO]; omega)).trans hlo, (hk (by simp only [F.TRL_CYC_HIST_S_HI]; omega)).trans hhi⟩

/-- Settles O15: by the criteria of each row, and the registers that lock, slew and holdover write. -/
theorem trellisTracking : Obligations.TrellisTracking := by
  refine ⟨cycleBoundary_shows, ?_, ?_, ?_, ?_, ?_, ?_, ?_, ?_, ?_, ?_, lockLoss_holdover, lockLoss_other, ?_, ?_, ?_, ?_, ?_, ?_, ?_⟩
  · intro s net err freq h
    refine congrArg Host.Outcome.next (if_pos ?_)
    rw [Bool.or_eq_true, Bool.not_eq_true']
    exact h
  · intro s err freq h
    exact congrArg Host.Outcome.next (ite_eq_left_iff.mpr fun _ =>
      (if_neg Bool.false_ne_true).trans (if_neg (show ¬ gridReady s = true by rw [h]; decide)))
  · intro s err freq h
    have hexec : exec (.lockAcquire true err freq) s = execLockAcquire true err freq s := rfl
    rw [hexec, execLockAcquire, h]
    exact congrArg Host.Outcome.next (ite_eq_left_iff.mpr fun _ => if_pos rfl)
  · intro s err freq ha hh hr herr
    obtain ⟨hs, hl, hf, hsa, he⟩ := srcTake_slews s (act := 1) (f := freq.toNat) (by decide) herr
    exact ⟨_, exec_lockAcquire_grid err freq ha hh hr, hs, hl, hf.trans (Nat.mod_eq_of_lt freq.isLt), hsa, he⟩
  · intro s err freq ha hh hr herr
    have hexec := exec_lockAcquire_grid err freq ha hh hr
    rw [herr] at hexec
    obtain ⟨hl, hn, hho, hs, hf, hsa⟩ := srcTake_locks s (act := 1) freq.toNat (by decide)
    exact ⟨_, hexec, hl, hn, hho, hs, hf.trans (Nat.mod_eq_of_lt freq.isLt), hsa⟩
  · intro s err freq m ha hh hr herr
    exact ⟨_, exec_lockAcquire_net err freq ha hh hr, srcTake_slews s (by decide) herr⟩
  · intro s err freq m ha hh hr herr
    have hexec := exec_lockAcquire_net err freq ha hh hr
    rw [herr] at hexec
    exact ⟨_, hexec, srcTake_locks s m.freq (by decide)⟩
  · intro s hs he
    obtain ⟨hl, hh, -, hsl, -, hcyc⟩ := lockSet_shows s
    exact ⟨_, congrArg Host.Outcome.next (if_pos (by rw [rdB_of_rd_ne_zero hs, he]; rfl)), hl, hsl, hh, hcyc⟩
  · intro s h
    refine congrArg Host.Outcome.next (if_neg ?_)
    rw [Bool.and_eq_true, beq_iff_eq]
    obtain h | h := h
    · rw [rdB_of_rd_zero h]
      exact fun h => absurd h.1 (by decide)
    · exact fun h' => h h'.2
  · intro s a f p h
    exact (exec_lockLoss s a f p).trans (congrArg Host.Outcome.next (if_pos (by rw [h]; rfl)))
  · intro s h hact hnever
    have hexec := exec_netTimeout h
    obtain ⟨hlost, hregs, htrl⟩ := netLost_shows s
    generalize netLost s = u at hexec hlost hregs htrl
    rw [if_pos ((hregs _ (by decide)).trans hact)] at hexec
    obtain ⟨hl, hh, -, -, -, hr, hsend⟩ := enterHoldover_shows u ((hregs _ (by decide)).trans hnever)
    exact ⟨_, hexec, (hr _ (by decide)).trans hlost, hsend.trans (by rw [htrl]), hl, hh⟩
  · intro s h hact
    have hexec := exec_netTimeout h
    obtain ⟨hlost, hregs, htrl⟩ := netLost_shows s
    generalize netLost s = u at hexec hlost hregs htrl
    rw [if_neg (by rw [hregs _ (by decide)]; exact hact)] at hexec
    exact ⟨_, hexec, hlost, htrl, hregs⟩
  · intro s h
    exact congrArg Host.Outcome.next (if_pos (by rw [h]; rfl))
  · intro s n hho hlock hat ht
    have hexec : exec .holdoverLimit s = .next ((s.wr F.TRL_STAT_HO_LONG 1).degrade 600 true) := by
      have hdef : exec .holdoverLimit s = execHoldoverLimit s := rfl
      have hgo : (s.rdB F.TRL_STAT_HOLDOVER && !s.rdB F.TRL_STAT_LOCK &&
          decide (n + 80000000 * s.rd F.TRL_HO_LIMIT_LIMIT ≤ s.now)) = true := by
        rw [rdB_of_rd_ne_zero hho, rdB_of_rd_zero hlock, decide_eq_true ht]
        rfl
      rw [hdef, execHoldoverLimit, hat]
      exact congrArg Host.Outcome.next (if_pos hgo)
    have hlong : (s.wr F.TRL_STAT_HO_LONG 1).rd F.TRL_STAT_HO_LONG = 1 := State.rd_wr_of_lt _ (Nat.lt_of_lt_of_eq Nat.one_lt_two rfl)
    have hwr := ((State.OnlyRegs.refl s [F.TRL_STAT_HO_LONG, F.SEAT_STAT_EXTRACT_OK, F.GIRTH_MODE_SUBSTATE]).wr
      (g := F.TRL_STAT_HO_LONG) (by simp) 1).regs
    generalize s.wr F.TRL_STAT_HO_LONG 1 = u at hexec hlong hwr
    have hd := degrade_regs u 600 true
    exact ⟨_, hexec, (hd _ (by decide)).trans hlong, hwr.trans (hd.mono (by simp))⟩
  · intro s h
    have hdef : exec .holdoverLimit s = execHoldoverLimit s := rfl
    rw [hdef, execHoldoverLimit]
    refine congrArg Host.Outcome.next (if_neg ?_)
    rw [Bool.and_eq_true, Bool.and_eq_true, Bool.not_eq_true']
    obtain h | h := h
    · rw [rdB_of_rd_ne_zero h]
      exact fun h => absurd h.1.2 (by decide)
    · intro hall
      have hlong := hall.2
      cases hat : s.trl.hoAt with
      | none =>
        rw [hat] at hlong
        exact absurd hlong Bool.false_ne_true
      | some n =>
        rw [hat] at hlong
        have := h n hat
        have hle := of_decide_eq_true hlong
        omega
  · intro s hlive
    exact ⟨trlNowRead s, congrArg Host.Outcome.next (if_neg (by rw [hlive]; decide)), trlNowRead_shows s⟩
  · intro s hdead
    exact congrArg Host.Outcome.next (if_pos hdead)

end Sys2Proof.Machine
end

section
/-! Angle reference messages (O16). -/

namespace Sys2Proof.Machine

section
variable {s : State} {p : List Byte} {key : List Byte}

/-- Is a message newer than the sender's last one? -/
def netFresh (s : State) (m : NetSender) : Bool :=
  match s.trl.senders.find? fun x => x.sender == m.sender with
  | some o => decide (o.seq < m.seq)
  | none => true

/-- The message's cycle number compared with the module's, once it has been taken. -/
def netCompared (s : State) (m : NetSender) (p : Nat) : State :=
  let d : Int := (netAngle m p : Int) - (AStamp.acs s.stamp.ang : Int)
  if !s.rdB F.TRL_STAT_NEVER_LOCKED && (d + 2 ^ 31) / 2 ^ 32 % 2 ^ 32 != 0 then s.wr F.TRL_STAT_CYC_MISMATCH 1 else s

theorem netCompared_shows (s : State) (m : NetSender) (p : Nat) :
    (netCompared s m p).trl = s.trl ∧ s.RegsBut (netCompared s m p) [F.TRL_STAT_CYC_MISMATCH] := by
  unfold netCompared
  extract_lets d
  clear_value d
  split
  · exact ⟨rfl, ((State.OnlyRegs.refl s _).wr List.mem_cons_self 1).regs⟩
  · exact ⟨rfl, s.RegsBut_refl _⟩

theorem exec_netrefRx (s : State) (p : List Byte) (ok : Bool) : exec (.netrefRx ok p) s = .next
    (if !ok || (keyFor s (s.rd F.TRL_NET_KEY_KEYSLOT) useNetref).isNone then s.wr F.TRL_FLT_NET_AUTH 1
     else if byteNat p 0 != 1 || byteNat p 1 % 2 == 0 || byteNat p 1 / 2 % 2 == 1 then s
     else if !netFresh s (netParse p) ||
         !(decide ((netParse p).pt.toNs ≤ s.ptNs) && decide (s.ptNs ≤ (netParse p).pt.toNs + 50000000)) then s.wr F.TRL_FLT_NET_STALE 1
     else netCompared (netTrack (netKeep s (netParse p)) (netParse p)) (netParse p) s.ptNs) := rfl

/-- What a message under a good key comes to. -/
theorem exec_netrefRx_keyed (hkey : keyFor s (s.rd F.TRL_NET_KEY_KEYSLOT) useNetref = some key) : exec (.netrefRx true p) s = .next
    (if byteNat p 0 != 1 || byteNat p 1 % 2 == 0 || byteNat p 1 / 2 % 2 == 1 then s
     else if !netFresh s (netParse p) ||
         !(decide ((netParse p).pt.toNs ≤ s.ptNs) && decide (s.ptNs ≤ (netParse p).pt.toNs + 50000000)) then s.wr F.TRL_FLT_NET_STALE 1
     else netCompared (netTrack (netKeep s (netParse p)) (netParse p)) (netParse p) s.ptNs) := by
  rw [exec_netrefRx, hkey]
  exact congrArg Host.Outcome.next (if_neg (by rw [Option.isNone_some]; decide))

/-- A message of version 1, in lock and out of holdover, is judged by its SEQ and its age. -/
theorem exec_netrefRx_valid (hkey : keyFor s (s.rd F.TRL_NET_KEY_KEYSLOT) useNetref = some key) (hv : byteNat p 0 = 1)
    (hf : byteNat p 1 % 4 = 1) : exec (.netrefRx true p) s = .next
    (if !netFresh s (netParse p) ||
         !(decide ((netParse p).pt.toNs ≤ s.ptNs) && decide (s.ptNs ≤ (netParse p).pt.toNs + 50000000)) then s.wr F.TRL_FLT_NET_STALE 1
     else netCompared (netTrack (netKeep s (netParse p)) (netParse p)) (netParse p) s.ptNs) := by
  have hlock : (byteNat p 1 % 2 == 0) = false := beq_eq_false_iff_ne.mpr (by omega)
  have hhold : (byteNat p 1 / 2 % 2 == 1) = false := beq_eq_false_iff_ne.mpr (by omega)
  rw [exec_netrefRx_keyed hkey, hv, hlock, hhold]
  exact congrArg Host.Outcome.next (if_neg (by decide))

/-- A stale message shows in one register. -/
theorem netrefRx_stale (hkey : keyFor s (s.rd F.TRL_NET_KEY_KEYSLOT) useNetref = some key) (hv : byteNat p 0 = 1)
    (hf : byteNat p 1 % 4 = 1) (h : netFresh s (netParse p) = false ∨ (netParse p).pt.toNs + 50000000 < s.ptNs) :
    Ends (.netrefRx true p) s fun t => t.rd F.TRL_FLT_NET_STALE = 1 ∧ s.OnlyRegs t [F.TRL_FLT_NET_STALE] := by
  have hexec := exec_netrefRx_valid hkey hv hf
  have hstale : (!netFresh s (netParse p) ||
      !(decide ((netParse p).pt.toNs ≤ s.ptNs) && decide (s.ptNs ≤ (netParse p).pt.toNs + 50000000))) = true := by
    obtain h | h := h
    · rw [h]
      rfl
    · rw [decide_eq_false (show ¬ s.ptNs ≤ (netParse p).pt.toNs + 50000000 by omega), Bool.and_false, Bool.not_false, Bool.or_true]
  rw [if_pos hstale] at hexec
  exact ⟨_, hexec, State.rd_wr_of_lt _ (Nat.lt_of_lt_of_eq Nat.one_lt_two rfl), (State.OnlyRegs.refl s _).wr List.mem_cons_self 1⟩

theorem find?_sender_none {m : NetSender} (h : ∀ x ∈ s.trl.senders, x.sender ≠ m.sender) :
    (s.trl.senders.find? fun x => x.sender == m.sender) = none :=
  List.find?_eq_none.mpr fun x hx => by rw [beq_iff_eq]; exact h x hx

/-- A sender that joins the table. -/
def netJoined (s : State) (m : NetSender) : State :=
  { s with trl := { s.trl with senders := s.trl.senders ++ [{ m with inRow := 1, tick := s.now }] } }

/-- With room in the table a new sender is kept. -/
theorem netKeep_new {m : NetSender} (h : ∀ x ∈ s.trl.senders, x.sender ≠ m.sender) (hlen : s.trl.senders.length < 4) :
    netKeep s m = netJoined s m := by
  have hjoin (l : List NetSender) (hl : l = s.trl.senders) : (if 4 ≤ l.length then s
      else { s with trl := { s.trl with senders := l ++ [{ m with inRow := 1, tick := s.now }] } }) = netJoined s m := by
    subst hl
    exact if_neg (by omega)
  rw [netKeep, find?_sender_none h]
  refine hjoin _ ?_
  split
  · exact if_neg (by omega)
  · rfl

theorem netTrack_other {m : NetSender} (h : s.rd F.TRL_STAT_SRC_ACT ≠ 2) : netTrack s m = s := if_neg (fun hall => h hall.1)

/-- The reference that the module sends under `key`. -/
def netSent (s : State) (key : List Byte) : State :=
  let p := netPayload s
  let tag := Config.gcmTag key ((p.drop 32).take 12) p
  let port := if s.rdB (F.ETH_STAT_LINK 0) then 0 else 1
  let group := s.objBytes.get (objKey 0x4002 5) (asciiBytes "ff15::47:662")
  let s := s.emit (.netRef port group 47662 (p ++ le 16 tag.toNat) s.stamp)
  { s with trl := { s.trl with netSeq := (s.trl.netSeq + 1) % 2 ^ 32, netAt := some s.now } }

/-- Has PERIOD passed since the last reference? -/
def netDue (s : State) : Bool :=
  match s.trl.netAt with
  | some t => decide (t + 80000 * max 1 (s.rd F.TRL_NET_CFG_PERIOD) ≤ s.now)
  | none => true

theorem exec_netrefSend (s : State) : exec .netrefSend s = .next
    (if s.rdB F.TRL_CTL_NET_TX && s.rd F.TRL_STAT_SRC_ACT == 1 && s.rdB F.TRL_STAT_LOCK && netDue s then
      match keyFor s (s.rd F.TRL_NET_KEY_KEYSLOT) useNetref with
      | none => s
      | some key => netSent s key
    else s) := rfl

end

/-- Settles O16: a message is judged by tag, form, SEQ and age in that order. -/
theorem angleReference : Obligations.AngleReference := by
  refine ⟨?_, ?_, ?_, ?_, ?_, ?_, ?_⟩
  · intro s ok p h
    have hexec := exec_netrefRx s p ok
    rw [if_pos (by
      obtain h | h := h
      · rw [h]; rfl
      · rw [h]; exact Bool.or_true _)] at hexec
    exact ⟨_, hexec, State.rd_wr_of_lt _ (Nat.lt_of_lt_of_eq Nat.one_lt_two rfl), (State.OnlyRegs.refl s _).wr List.mem_cons_self 1⟩
  · intro s p key hkey h
    refine (exec_netrefRx_keyed hkey).trans (congrArg Host.Outcome.next (if_pos ?_))
    rw [Bool.or_eq_true, Bool.or_eq_true, bne_iff_ne, beq_iff_eq, beq_iff_eq]
    omega
  · intro s p key o hkey hv hf ho hseq
    refine netrefRx_stale hkey hv hf (.inl ?_)
    rw [netFresh, ho]
    exact decide_eq_false (by omega)
  · intro s p key hkey hv hf hold
    exact netrefRx_stale hkey hv hf (.inr hold)
  · intro s p key hkey hv hf hnew hlen hage hold hact
    have hexec := exec_netrefRx_valid hkey hv hf
    have hfresh : netFresh s (netParse p) = true := by rw [netFresh, find?_sender_none hnew]
    rw [hfresh, decide_eq_true hage, decide_eq_true hold, if_neg (by decide), netKeep_new hnew hlen, netTrack_other (s := netJoined s (netParse p)) hact] at hexec
    obtain ⟨htrl, hregs⟩ := netCompared_shows (netJoined s (netParse p)) (netParse p) s.ptNs
    exact ⟨_, hexec, congrArg TrellisSt.senders htrl, (trl_regs s _ _).trans hregs⟩
  · intro s key htx hact hlock hdue hkey
    have hdue' : netDue s = true := by
      rw [netDue]
      cases hat : s.trl.netAt with
      | none => rfl
      | some n => exact decide_eq_true (hdue n hat)
    have hexec := exec_netrefSend s
    rw [rdB_of_rd_ne_zero htx, hact, rdB_of_rd_ne_zero hlock, hdue', if_pos (by decide), hkey] at hexec
    exact ⟨netSent s key, hexec, rfl, rfl, _, _, rfl⟩
  · intro s hlock
    have hexec := exec_netrefSend s
    rw [rdB_of_rd_zero hlock, Bool.and_false, Bool.false_and, if_neg Bool.false_ne_true] at hexec
    exact hexec

end Sys2Proof.Machine
end

section
/-! Point-on-wave entries (O20). -/

namespace Sys2Proof.Machine

theorem classN_trellis {a : Nat} (h : a < 0x20100000) : classN a = false := classN_of_window (.inl (by omega))

/-! ## Configuration -/

section
variable {s : State} {r : Req} {e : Fin 16} {v : Word} {t : State} {c : Nat}

theorem powCfgRefusal_code {ls aux pol en : Nat} (h : powCfgRefusal s r e ls aux pol en = some c) : c = 0x0303 ∨ c = 0x0206 := by
  rw [powCfgRefusal] at h
  split at h
  · exact .inl (Option.some.inj h).symm
  · split at h
    · exact .inr (Option.some.inj h).symm
    · split at h
      · exact .inr (Option.some.inj h).symm
      · split at h
        · exact .inr (Option.some.inj h).symm
        · exact absurd h (by simp)

theorem exec_powCfgWrite (hlive : windowDead s (F.POW_CFG_LS e).addr = false) (ht : powWriteCfg s r e v.toNat = t.status c)
    (h : c ≠ 0x0110 ∧ c ≠ 0x0610 ∧ c ≠ 0x0611) : exec (.powCfgWrite r e v) s = .next (t.status c) :=
  next_hostWrite_status hlive (classN_trellis (by simp only [F.POW_CFG_LS]; omega)) ht h

theorem powCfgWrite_refused (hlive : windowDead s (F.POW_CFG_LS e).addr = false)
    (h : powCfgRefusal s r e ((F.POW_CFG_LS e).slice v.toNat) ((F.POW_CFG_AUX_DIO e).slice v.toNat)
      ((F.POW_CFG_AUX_POL e).slice v.toNat) ((F.POW_CFG_EN e).slice v.toNat) = some c) :
    exec (.powCfgWrite r e v) s = .next (s.status c) := by
  refine exec_powCfgWrite hlive ?_ ?_
  · rw [powWriteCfg, h]
  · obtain rfl | rfl := powCfgRefusal_code h <;> decide

end

/-! ## Estimates -/

theorem powWriteEst_refused {s : State} {r : Req} {e v : Nat} (close : Bool) (h : r.forPlot (powOwner s e) = false) :
    powWriteEst s r e v close = s.status 0x0206 := if_pos (by rw [h]; rfl)

/-- An estimate that its owner writes: its value, and its count cleared. -/
theorem powWriteEst_shows {s : State} {r : Req} {e : Nat} (v : Nat) (close : Bool) (h : r.forPlot (powOwner s e) = true) :
    ∃ u : State, powWriteEst s r e v close = u.status 0 ∧ u.rd (powEst e close) = v % 2 ^ (powEst e close).w ∧
      u.rd (powCnt e close) = 0 ∧ s.RegsBut u [powEst e close, powCnt e close, F.POW_LAST_ERR_ERR e] := by
  have hback (u : State) (hu : s.RegsBut u [powEst e close, powCnt e close, F.POW_LAST_ERR_ERR e]) (x : SMap Nat) :
      State.rd { (u.wr (powEst e close) v).wr (powCnt e close) 0 with trl := { u.trl with powHost := x } } (powEst e close) =
        v % 2 ^ (powEst e close).w ∧
      State.rd { (u.wr (powEst e close) v).wr (powCnt e close) 0 with trl := { u.trl with powHost := x } } (powCnt e close) = 0 ∧
      s.RegsBut { (u.wr (powEst e close) v).wr (powCnt e close) 0 with trl := { u.trl with powHost := x } }
        [powEst e close, powCnt e close, F.POW_LAST_ERR_ERR e] := by
    have hne : (powEst e close).key ≠ (powCnt e close).key := by
      cases close
      · simp only [powEst, powCnt, Field.key, F.POW_REL_REL, F.POW_CNT_REL_CNT, if_neg Bool.false_ne_true]
        omega
      · simp only [powEst, powCnt, Field.key, F.POW_OP_OP, F.POW_CNT_OP_CNT, if_pos]
        omega
    have hwr := hu.trans (((State.OnlyRegs.refl u [powEst e close, powCnt e close, F.POW_LAST_ERR_ERR e]).wr (g := powEst e close)
      (by simp) v).wr (g := powCnt e close) (by simp) 0).regs
    have hest : ((u.wr (powEst e close) v).wr (powCnt e close) 0).rd (powEst e close) = v % 2 ^ (powEst e close).w :=
      (State.rd_wr_ne _ _ hne).trans (State.rd_wr_self _ _ _)
    have hcnt : ((u.wr (powEst e close) v).wr (powCnt e close) 0).rd (powCnt e close) = 0 := State.rd_wr_of_lt _ (Nat.two_pow_pos _)
    exact ⟨hest, hcnt, hwr.trans (trl_regs _ _ _)⟩
  rw [powWriteEst, if_neg (by rw [h]; decide)]
  extract_lets key u w x
  have hu : s.RegsBut u [powEst e close, powCnt e close, F.POW_LAST_ERR_ERR e] := by
    unfold u
    split
    · split
      · exact ((State.OnlyRegs.refl s _).wr (by simp) _).regs
      · exact s.RegsBut_refl _
    · exact s.RegsBut_refl _
  exact ⟨_, rfl, hback u hu _⟩

section
variable {s : State} {r : Req} {e : Fin 16} {v : Word} {t : State} {c : Nat}

theorem exec_powOpWrite (hlive : windowDead s (F.POW_OP_OP e).addr = false) (ht : powWriteEst s r e v.toNat true = t.status c)
    (h : c ≠ 0x0110 ∧ c ≠ 0x0610 ∧ c ≠ 0x0611) : exec (.powOpWrite r e v) s = .next (t.status c) :=
  next_hostWrite_status hlive (classN_trellis (by simp only [F.POW_OP_OP]; omega)) ht h

theorem exec_powRelWrite (hlive : windowDead s (F.POW_REL_REL e).addr = false) (ht : powWriteEst s r e v.toNat false = t.status c)
    (h : c ≠ 0x0110 ∧ c ≠ 0x0610 ∧ c ≠ 0x0611) : exec (.powRelWrite r e v) s = .next (t.status c) :=
  next_hostWrite_status hlive (classN_trellis (by simp only [F.POW_REL_REL]; omega)) ht h

end

/-! ## A missing edge -/

/-- When the edge of measurement `k` counts as missing, in ticks. -/
def powBound (s : State) (e : Nat) (k : PowMeas) : Int :=
  (k.t0 : Int) + k.eUsed - powOfs s e k.close + powRej s e + 80 * ((s.rd (F.DIO_DEB_DEB (s.rd (F.POW_CFG_AUX_DIO e))) : Int) + 2)

theorem exec_powAuxTimeout {s : State} {e : Fin 16} {k : PowMeas} (h : s.trl.pow.find? e = some k) :
    exec (.powAuxTimeout e) s = .next (if (s.now : Int) < powBound s e k then s else powTimeout s e k) := by
  have hexec : exec (.powAuxTimeout e) s = execPowAuxTimeout e s := rfl
  rw [hexec, execPowAuxTimeout, h]
  rfl

/-- A measurement without its edge ends, counted and recorded. -/
theorem powTimeout_shows (s : State) (e : Fin 16) (k : PowMeas) : (powTimeout s e k).trl.pow.find? e = none ∧
    (powTimeout s e k).faults = s.faults ++ [⟨0x0404, e, s.stamp⟩] ∧
    (powTimeout s e k).rd (F.POW_REJ_TMO_CNT e) = min (s.rd (F.POW_REJ_TMO_CNT e) + 1) (2 ^ (F.POW_REJ_TMO_CNT e).w - 1) := by
  have hcnt : ((s.incSat (F.POW_REJ_TMO_CNT e)).hwFault 0x0404 e).rd (F.POW_REJ_TMO_CNT e) =
      min (s.rd (F.POW_REJ_TMO_CNT e) + 1) (2 ^ (F.POW_REJ_TMO_CNT e).w - 1) := State.rd_incSat_self s _
  have hfault : ((s.incSat (F.POW_REJ_TMO_CNT e)).hwFault 0x0404 e).faults = s.faults ++ [⟨0x0404, e, s.stamp⟩] := rfl
  rw [powTimeout]
  generalize (s.incSat (F.POW_REJ_TMO_CNT e)).hwFault 0x0404 e = u at hcnt hfault
  have hw := powRecord_within (K := partsMask [.mem, .out, .irqHeld, .q, .rFurrow, .upd, .furBits]) (a2 := e) (a3 := k) (by decide)
    (Within.refl _ u)
  generalize powRecord u e k = v at hw
  refine ⟨SMap.find?_dropRange_of_mem _ (Nat.le_refl _) (Nat.lt_succ_self _), (hw.same .faults (by decide)).trans hfault, ?_⟩
  exact (hw.rd_trellis_eq (by decide) (by simp only [Field.key, F.POW_REJ_TMO_CNT]; omega)).trans hcnt

/-! ## The settings -/

/-- The learned values of an entry go to its two objects. -/
def powStored (e : Nat) (t : State) : State :=
  setSetting (setSetting t (0x4010 + e) 9 (t.rd (F.POW_OP_OP e))) (0x4010 + e) 10 (t.rd (F.POW_REL_REL e))

theorem powStored_get (e : Nat) (t : State) (i : Nat) : (powStored e t).settings.get (objKey (0x4010 + i) 9) 0 =
      (if i = e then t.rd (F.POW_OP_OP e) else t.settings.get (objKey (0x4010 + i) 9) 0) ∧
    (powStored e t).settings.get (objKey (0x4010 + i) 10) 0 =
      (if i = e then t.rd (F.POW_REL_REL e) else t.settings.get (objKey (0x4010 + i) 10) 0) := by
  simp only [powStored, setSetting, SMap.get_set, objKey]
  constructor
  · rw [if_neg (by omega)]
    by_cases h : i = e
    · rw [if_pos (by omega), if_pos h]
    · rw [if_neg (by omega), if_neg h]
  · by_cases h : i = e
    · rw [if_pos (by omega), if_pos h]
    · rw [if_neg (by omega), if_neg (by omega), if_neg h]

theorem forN_powStored (s : State) (k : Nat) : (forN powStored k s).regs = s.regs ∧ (forN powStored k s).trl = s.trl ∧
    ∀ e, e < k → (forN powStored k s).settings.get (objKey (0x4010 + e) 9) 0 = s.rd (F.POW_OP_OP e) ∧
      (forN powStored k s).settings.get (objKey (0x4010 + e) 10) 0 = s.rd (F.POW_REL_REL e) := by
  induction k with
  | zero => exact ⟨rfl, rfl, fun e he => absurd he (Nat.not_lt_zero e)⟩
  | succ k ih =>
    obtain ⟨hregs, htrl, hget⟩ := ih
    have hstep : forN powStored (k + 1) s = powStored k (forN powStored k s) := rfl
    rw [hstep]
    have hrd (f : Field) : (forN powStored k s).rd f = s.rd f := congrArg (fun m : SMap Nat => m.get f.key f.rst) hregs
    generalize forN powStored k s = t at hregs htrl hget hrd
    refine ⟨hregs, htrl, fun e he => ?_⟩
    obtain ⟨hop, hrel⟩ := powStored_get k t e
    rw [hop, hrel]
    by_cases h : e = k
    · rw [if_pos h, if_pos h, hrd, hrd, h]
      exact ⟨rfl, rfl⟩
    · rw [if_neg h, if_neg h]
      exact hget e (by omega)

theorem powSave_shows {s : State} (h : flashOk s = true) : (powSave s).trl = { s.trl with powSaved := some s.now } ∧
    (powSave s).regs = s.regs ∧ ∀ e, e < 16 → (powSave s).settings.get (objKey (0x4010 + e) 9) 0 = s.rd (F.POW_OP_OP e) ∧
      (powSave s).settings.get (objKey (0x4010 + e) 10) 0 = s.rd (F.POW_REL_REL e) := by
  have hsave : powSave s = forN powStored 16 { s with trl := { s.trl with powSaved := some s.now } } := by
    rw [powSave, if_neg (by rw [h]; decide)]
    rfl
  obtain ⟨hregs, htrl, hget⟩ := forN_powStored { s with trl := { s.trl with powSaved := some s.now } } 16
  rw [hsave]
  exact ⟨htrl, hregs, hget⟩

/-- Is the hourly save due? -/
def powSaveDue (s : State) : Bool :=
  match s.trl.powSaved with
  | none => true
  | some t => decide (t + 288000000000 ≤ s.now)

theorem exec_powLearnSave (s : State) : exec .powLearnSave s = .next (if powSaveDue s || s.mode == mHANDOFF then powSave s else s) := rfl

/-- Settles O20: an entry's registers under its owner's writes, its measurement and the hourly save. -/
theorem pointOnWave : Obligations.PointOnWave := by
  refine ⟨?_, ?_, ?_, ?_, ?_, ?_, ?_, ?_, ?_, ?_, ?_, ?_⟩
  · intro s r e v c hlive h
    exact powCfgWrite_refused hlive h
  · intro s r e v hlive h hen
    refine exec_powCfgWrite hlive ?_ (by decide)
    rw [powWriteCfg, h, rdB_of_rd_zero hen]
    rfl
  · intro s r e v hlive hen hls
    refine powCfgWrite_refused hlive ?_
    rw [powCfgRefusal, if_neg (by rw [rdB_of_rd_zero hen]; exact Bool.false_ne_true), if_pos hls]
  · intro s r e v hlive hown
    obtain ⟨u, hu, hest, hcnt, hregs⟩ := powWriteEst_shows v.toNat true hown
    exact ⟨_, exec_powOpWrite hlive hu (by decide), (State.rd_status ..).trans hest, (State.rd_status ..).trans hcnt, rfl, hregs⟩
  · intro s r e v hlive hown
    obtain ⟨u, hu, hest, hcnt, hregs⟩ := powWriteEst_shows v.toNat false hown
    exact ⟨_, exec_powRelWrite hlive hu (by decide), (State.rd_status ..).trans hest, (State.rd_status ..).trans hcnt, rfl, hregs⟩
  · intro s r e v hop hrel hown
    exact ⟨exec_powOpWrite hop (powWriteEst_refused true hown) (by decide), exec_powRelWrite hrel (powWriteEst_refused false hown) (by decide)⟩
  · intro s e k hk hdue
    have hexec := exec_powAuxTimeout hk
    rw [if_neg (by rw [powBound]; omega)] at hexec
    exact ⟨_, hexec, powTimeout_shows s e k⟩
  · intro s e k hk hearly
    exact (exec_powAuxTimeout hk).trans (congrArg Host.Outcome.next (if_pos hearly))
  · intro s e h
    have hexec : exec (.powAuxTimeout e) s = execPowAuxTimeout e s := rfl
    rw [hexec, execPowAuxTimeout, h]
  · intro s hflash h
    have hdue : (powSaveDue s || s.mode == mHANDOFF) = true := by
      rw [Bool.or_eq_true, beq_iff_eq]
      exact h.imp_left fun h => by rw [powSaveDue, h]
    exact ⟨_, (exec_powLearnSave s).trans (congrArg Host.Outcome.next (if_pos hdue)), powSave_shows hflash⟩
  · intro s n hm hsaved hearly
    refine (exec_powLearnSave s).trans (congrArg Host.Outcome.next (if_neg ?_))
    rw [Bool.or_eq_true, beq_iff_eq, powSaveDue, hsaved]
    exact not_or.mpr ⟨by rw [decide_eq_true_eq]; omega, hm⟩
  · intro s h
    refine (exec_powLearnSave s).trans (congrArg Host.Outcome.next (ite_eq_right_iff.mpr fun _ => ?_))
    exact if_pos (by rw [h]; rfl)

end Sys2Proof.Machine
end

section
/-! The receivers of string measurement (O32). -/

namespace Sys2Proof.Machine

/-! ## Links -/

theorem SMap.set_set {α : Type} (m : SMap α) (k : Nat) (v w : α) : SMap.set (SMap.set m k v) k w = SMap.set m k w := by
  induction m with
  | nil => simp [SMap.set]
  | cons e r ih =>
    obtain ⟨j, x⟩ := e
    rcases Nat.lt_trichotomy k j with h | h | h
    · simp [SMap.set, h]
    · simp [SMap.set, h]
    · simp [SMap.set, show ¬ k < j by omega, show k ≠ j by omega, ih]

section
variable (s : State) (m : Nat) (x y : MsrLink)

@[simp] theorem link_setLink : (s.setLink m x).link m = x := SMap.get_set_self _ _ _ _

theorem setLink_setLink : (s.setLink m x).setLink m y = s.setLink m y := by
  simp only [State.setLink, SMap.set_set]

theorem link_of_msr {s t : State} (h : t.msr = s.msr) (m : Nat) : t.link m = s.link m :=
  congrArg (fun l : MsrSt => l.links.get m {}) h

/-- A control frame joins those that wait. -/
theorem msrCtl_setLink (type reg value : Nat) : msrCtl (s.setLink m x) m type reg value =
    s.setLink m { x with ctl := x.ctl ++ [ctlFrame (latOwn s) type 0 reg 0 value] } := by
  have hown : latOwn (s.setLink m x) = latOwn s := rfl
  rw [msrCtl, link_setLink, setLink_setLink, hown]

theorem msrPings_setLink (k : Nat) : msrPings (s.setLink m x) m k =
    s.setLink m { x with ctl := x.ctl ++ List.replicate k (ctlFrame (latOwn s) 0x30 0 0 0 0) } := by
  induction k with
  | zero =>
    rw [List.replicate_zero, List.append_nil]
    rfl
  | succ k ih => rw [msrPings, ih, msrCtl_setLink, List.replicate_succ', List.append_assoc]

/-- A delay measurement forgets the echoes and queues its frames. -/
theorem msrMeasure_eq : msrMeasure s m = s.setLink m { s.link m with
    rtt := [], ctl := (s.link m).ctl ++ [ctlFrame (latOwn s) 0x40 0 0x0A 0 0] ++ List.replicate 16 (ctlFrame (latOwn s) 0x30 0 0 0 0) } := by
  rw [msrMeasure, msrCtl_setLink, msrPings_setLink]

end

/-! ## Bytes of a conversion -/

section
variable (s : State)

theorem putBytes_append (a : Nat) (xs ys : List Byte) : s.putBytes a (xs ++ ys) = (s.putBytes a xs).putBytes (a + xs.length) ys := by
  induction xs generalizing s a with
  | nil => rfl
  | cons x xs ih => rw [List.cons_append, State.putBytes, ih, State.putBytes, List.length_cons, Nat.add_right_comm a 1, Nat.add_assoc]

theorem bytesAt_putBytes_of_outside {a b : Nat} (bs : List Byte) {n : Nat} (h : b + n ≤ a ∨ a + bs.length ≤ b) :
    (s.putBytes a bs).bytesAt b n = s.bytesAt b n := by
  induction n generalizing b with
  | zero => rfl
  | succ n ih =>
    exact congrArg₂ List.cons (s.byteAt_putBytes_of_outside a b bs (by omega)) (ih (by omega))

/-- The flags word of a conversion is read back. -/
theorem convPut_flags (seq m p i v flags : Nat) (hw : Memory.wf s.mem = true) :
    (convPut s seq m p i v flags).numAt (convAddr (seq % 16) m p + 8) 4 = flags % 2 ^ 32 := by
  rw [convPut]
  generalize convAddr (seq % 16) m p = a
  have hl8 : (le 4 i ++ le 4 v).length = 8 := by rw [List.length_append, length_le, length_le]
  have hl12 : (le 4 i ++ le 4 v ++ le 4 flags).length = 12 := by rw [List.length_append, hl8, length_le]
  rw [putBytes_append, putBytes_append, hl12, hl8]
  have hwf : Memory.wf (s.putBytes a (le 4 i ++ le 4 v)).mem = true := State.wf_putBytes s a _ hw
  generalize s.putBytes a (le 4 i ++ le 4 v) = u at hwf
  rw [State.numAt, bytesAt_putBytes_of_outside _ _ (.inl (by omega)), ← State.numAt]
  exact u.numAt_putBytes_le (a + 8) 4 flags hwf

/-- A conversion's 16 bytes, and no other. -/
theorem convPut_memBut (seq m p i v flags : Nat) : s.MemBut (convPut s seq m p i v flags) (convAddr (seq % 16) m p) 16 := by
  intro x hx
  refine s.byteAt_putBytes_of_outside _ _ _ ?_
  simpa only [List.length_append, length_le] using hx

end

/-! ## Sample frames -/

section
variable {s : State} {m : Fin 4} {b : List Byte} {w : MsrWait} {l : List MsrWait}

theorem exec_msrSyncSend {p : Fin 16} {x : Fin 160} (hon : msrOn s m = true) (hdue : msrDue s m p x = true) :
    exec (.msrSyncSend m p x) s = .next
      (let u := s.emit (.msrSync m (le 1 x.val ++ le 1 p.val ++ le 1 (0xFF - (x.val ^^^ p.val))))
       let y : MsrLink := { s.link m with wait := (s.link m).wait ++ [⟨s.msr.idx, s.msr.seq, p, s.now + 2050 - x.val / 5, false⟩] }
       match y.ctl with
       | [] => u.setLink m y
       | f :: r => (u.setLink m { y with ctl := r }).emit (.msrCtrl m f)) :=
  congrArg Host.Outcome.next (if_pos (by rw [hon, hdue]; rfl))

theorem testBit_of_lt_sixteen {n i : Nat} (h : n < 16) (hi : 4 ≤ i) : n.testBit i = false :=
  Nat.testBit_lt_two_pow (Nat.lt_of_lt_of_le h (Nat.pow_le_pow_right (n := 2) (by decide) hi))

/-- The pacer and synchronism of a frame without flags. -/
def frameShown (s : State) (m : Nat) : State := (s.wrB (F.MSR_LSTAT_PACER m) false).wrB (F.MSR_LSTAT_UNSYNC m) false

/-- A sound frame without flags meets the oldest conversion in time. -/
theorem exec_msrFrameRx (hon : msrOn s m = true) (hlen : b.length = 11) (htype : byteNat b 0 = 0x60)
    (hcrc : crc16 (b.take 9) = halfNat b 9) (hwait : (s.link m).wait = w :: l) (hdue : s.now ≤ w.due) (hf : byteNat b 1 < 16) :
    exec (.msrFrameRx m b) s = .next (if byteNat b 1 ≠ w.p then (frameShown s m).wr (F.MSR_LFLT_PH_ERR m) 1
      else msrAccept (frameShown s m) m w b) := by
  have hcrc' : ¬ (b.length ≠ 11 ∨ crc16 (b.take 9) ≠ halfNat b 9) := by
    rw [not_or, not_not, not_not]
    exact ⟨hlen, hcrc⟩
  have hexec : exec (.msrFrameRx m b) s = execMsrFrameRx m b s := rfl
  have hfind : ((frameShown s m).link m).wait.find? (fun w => decide ((frameShown s m).now ≤ w.due)) = some w := by
    have hlink : (frameShown s m).link m = s.link m := rfl
    rw [hlink, hwait, List.find?_cons_of_pos]
    exact decide_eq_true hdue
  rw [hexec, execMsrFrameRx, if_neg (by rw [hon]; decide), if_neg hcrc', if_neg (not_not.mpr htype)]
  dsimp only
  rw [testBit_of_lt_sixteen hf (by decide), testBit_of_lt_sixteen hf (by decide), testBit_of_lt_sixteen hf (by decide),
    Nat.mod_eq_of_lt hf, if_neg Bool.false_ne_true]
  refine congrArg Host.Outcome.next ?_
  split
  · next hnone => nomatch hfind.symm.trans hnone
  · next w' hsome =>
    cases Option.some.inj (hfind.symm.trans hsome)
    rw [if_neg Bool.false_ne_true]
    rfl

theorem ofInt_lt (w : Nat) (x : Int) : ofInt w x < 2 ^ w := by
  have hpos : (0 : Int) < 2 ^ w := Int.pow_pos (by decide)
  have hlt := Int.emod_lt_of_pos x hpos
  have hnn := Int.emod_nonneg x (ne_of_gt hpos)
  rw [ofInt]
  zify
  rw [Int.toNat_of_nonneg hnn]
  exact hlt

/-- An accepted frame shows its clamped values and ends the wait. -/
theorem msrAccept_shows (s : State) (m : Nat) (b : List Byte) (w : MsrWait) (l : List MsrWait) (hwait : (s.link m).wait = w :: l)
    (hinv : s.rd (F.MSR_LCFG_INV m) = 0) : (msrAccept s m w b).rd (F.MSR_LAST_I_I m) = ofInt 32 (msrClamp (toInt 24 (numIn b 2 3))) ∧
      (msrAccept s m w b).rd (F.MSR_LAST_V_V m) = ofInt 32 (msrClamp (toInt 24 (numIn b 5 3))) ∧
      ((msrAccept s m w b).link m).wait = l ∧ s.MemBut (msrAccept s m w b) (convAddr (w.seq % 16) m w.p) 16 := by
  unfold msrAccept
  extract_lets x raw i v st c u1 u2 u3
  have hi : i = msrClamp raw := by
    simp only [i, rdB_of_rd_zero hinv, if_neg Bool.false_ne_true]
  have hlink : u1.link m = { x with wait := l, convs := x.convs.set (16 * w.idx + w.p) c } := by
    rw [link_setLink, hwait, List.erase_cons_head]
  have hmem1 : u1.mem = s.mem := rfl
  clear_value u1
  have hmem2 : u1.MemBut u2 (convAddr (w.seq % 16) m w.p) 16 := convPut_memBut u1 _ _ _ _ _ _
  have hmsr2 : u2.msr = u1.msr := (State_putBytes_within (K := partsMask [.mem]) (by decide) (Within.refl _ u1)).same .msr (by decide)
  clear_value u2
  have hI : u3.rd (F.MSR_LAST_I_I m) = ofInt 32 i := by
    rw [State.rd_wr_ne _ _ (by simp only [Field.key, F.MSR_LAST_I_I, F.MSR_LAST_V_V]; omega)]
    exact State.rd_wr_of_lt _ (ofInt_lt 32 i)
  have hV : u3.rd (F.MSR_LAST_V_V m) = ofInt 32 v := State.rd_wr_of_lt _ (ofInt_lt 32 v)
  have hmsr3 : u3.msr = u2.msr := rfl
  have hmem3 : u3.mem = u2.mem := rfl
  have hall {t : State} (hm : t.msr = u3.msr) (hmem : t.mem = u3.mem) : (t.link m).wait = l ∧
      s.MemBut t (convAddr (w.seq % 16) m w.p) 16 := by
    refine ⟨by rw [link_of_msr (hm.trans (hmsr3.trans hmsr2)), hlink], fun a ha => ?_⟩
    have hbyte : t.byteAt a = u2.byteAt a := congrArg (memGet · a) (hmem.trans hmem3)
    exact hbyte.trans ((hmem2 a ha).trans (congrArg (memGet · a) hmem1))
  clear_value u3
  rw [← hi]
  split
  · exact ⟨hI, hV, hall rfl rfl⟩
  · refine ⟨?_, ?_, hall rfl rfl⟩
    · rw [State.rd_wr_ne _ _ (by simp only [Field.key, F.MSR_LAST_I_I, F.MSR_LFLT_OVR]; omega)]
      exact hI
    · rw [State.rd_wr_ne _ _ (by simp only [Field.key, F.MSR_LAST_V_V, F.MSR_LFLT_OVR]; omega)]
      exact hV

/-- The conversion that was awaited longest is given up and counted. -/
def convMissed (s : State) (m : Nat) (l : List MsrWait) : State :=
  (s.setLink m { s.link m with wait := l }).incSat (F.MSR_LCNT_MISS m)

/-- A conversion that is overdue ends with free values, marked stale. -/
theorem exec_msrConvDeadline (hwait : (s.link m).wait = w :: l) (hdue : w.due ≤ s.now) :
    exec (.msrConvDeadline m) s = .next (convPut (convMissed s m l).took.took w.seq m w.p ((convMissed s m l).freeNat 32)
      ((convMissed s m l).took.freeNat 32) (1 + 32 * w.unsync.toNat)) := by
  have hdef : exec (.msrConvDeadline m) s = execMsrConvDeadline m s := rfl
  rw [hdef, execMsrConvDeadline]
  refine congrArg Host.Outcome.next ?_
  split
  · next hnil => nomatch hwait.symm.trans hnil
  · next w' l' hcons =>
    obtain ⟨rfl, rfl⟩ := List.cons.inj (hwait.symm.trans hcons)
    exact if_neg (Nat.not_lt.mpr hdue)

/-- A conversion that did not come in time. -/
theorem convDeadline_shows (hc : s.Canon) (hwait : (s.link m).wait = w :: l) (hdue : w.due ≤ s.now) :
    Ends (.msrConvDeadline m) s fun t => (t.link m).wait = l ∧
      t.numAt (convAddr (w.seq % 16) m w.p + 8) 4 = 1 + 32 * w.unsync.toNat ∧ t.free = s.free + 2 ∧
      s.MemBut t (convAddr (w.seq % 16) m w.p) 16 := by
  have hexec := exec_msrConvDeadline hwait hdue
  have hmem : (convMissed s m l).took.took.mem = s.mem := rfl
  have hfree : (convMissed s m l).took.took.free = s.free + 2 := rfl
  have hset : (convMissed s m l).took.took.msr = (s.setLink m { s.link m with wait := l }).msr := rfl
  have hlink : (convMissed s m l).took.took.link m = { s.link m with wait := l } := (link_of_msr hset m).trans (link_setLink s m _)
  generalize (convMissed s m l).freeNat 32 = i at hexec
  generalize (convMissed s m l).took.freeNat 32 = v at hexec
  generalize (convMissed s m l).took.took = u at hexec hmem hfree hlink
  have hw := State_putBytes_within (K := partsMask [.mem]) (a2 := convAddr (w.seq % 16) m w.p)
    (a3 := le 4 i ++ le 4 v ++ le 4 (1 + 32 * w.unsync.toNat) ++ le 4 0) (by decide) (Within.refl _ u)
  have hflags := convPut_flags u w.seq m w.p i v (1 + 32 * w.unsync.toNat) (by rw [hmem]; exact hc.mem)
  have hbut := convPut_memBut u w.seq m w.p i v (1 + 32 * w.unsync.toNat)
  have hmsr : (convPut u w.seq m w.p i v (1 + 32 * w.unsync.toNat)).msr = u.msr := hw.same .msr (by decide)
  have hfr : (convPut u w.seq m w.p i v (1 + 32 * w.unsync.toNat)).free = u.free := hw.same .free (by decide)
  generalize convPut u w.seq m w.p i v (1 + 32 * w.unsync.toNat) = t at hexec hflags hbut hmsr hfr
  refine ⟨t, hexec, by rw [link_of_msr hmsr, hlink], hflags.trans (Nat.mod_eq_of_lt ?_), hfr.trans hfree,
    fun a ha => (hbut a ha).trans (congrArg (memGet · a) hmem)⟩
  have := Bool.toNat_lt w.unsync
  omega

end

/-- Settles O32: a conversion's wait from its sequence to its frame or its deadline. -/
theorem stringMeasurement : Obligations.StringMeasurement := by
  refine ⟨?_, ?_, ?_, ?_, ?_, ?_, ?_, ?_, fun s m w l hc hwait hdue => convDeadline_shows hc hwait hdue, fun _ _ _ => rfl, ?_, ?_, ?_,
    ?_, ?_, ?_⟩
  · intro s m p w hon hdue hctl
    have hexec := exec_msrSyncSend hon hdue
    dsimp only at hexec
    rw [hctl] at hexec
    refine ⟨_, hexec, rfl, rfl, rfl, (link_setLink _ m _).trans ?_⟩
    dsimp only
    rw [hctl]
  · intro s m p w f l hon hdue hctl
    have hexec := exec_msrSyncSend hon hdue
    dsimp only at hexec
    rw [hctl] at hexec
    refine ⟨_, hexec, List.append_assoc .., rfl, rfl, ?_, ?_⟩
    · exact congrArg MsrLink.ctl (link_setLink ..)
    · exact congrArg MsrLink.wait (link_setLink ..)
  · intro s m p w h
    exact congrArg Host.Outcome.next (if_neg (by rw [h, Bool.and_false]; decide))
  · rintro s m p w b c (rfl | rfl) h
    · exact congrArg Host.Outcome.next (if_neg (by rw [h, Bool.false_and]; decide))
    · exact congrArg Host.Outcome.next (if_pos (by rw [h]; rfl))
  · intro s m b hon hbad
    refine ⟨_, congrArg Host.Outcome.next ((if_neg (by rw [hon]; decide)).trans (if_pos hbad)), ?_, ?_⟩
    · rw [State.rd_incSat_ne _ (by simp only [Field.key, F.MSR_LFLT_CRC, F.MSR_LCNT_CRC_ERR]; omega)]
      exact State.rd_wr_of_lt _ (Nat.lt_of_lt_of_eq Nat.one_lt_two rfl)
    · exact ((State.OnlyRegs.refl s _).wr (g := F.MSR_LFLT_CRC m) (by simp) 1).incSat (g := F.MSR_LCNT_CRC_ERR m) (by simp)
  · intro s m b w l hon hlen htype hcrc hwait hdue hp hlt hinv
    have hexec := exec_msrFrameRx hon hlen htype hcrc hwait hdue (by omega)
    rw [if_neg (not_not.mpr hp)] at hexec
    have hinv' : (frameShown s m).rd (F.MSR_LCFG_INV m) = 0 := by
      rw [frameShown, State.rd_wrB_ne _ _ (by simp only [Field.key, F.MSR_LCFG_INV, F.MSR_LSTAT_UNSYNC]; omega),
        State.rd_wrB_ne _ _ (by simp only [Field.key, F.MSR_LCFG_INV, F.MSR_LSTAT_PACER]; omega)]
      exact hinv
    have hmem : (frameShown s m).mem = s.mem := rfl
    have hlink : ((frameShown s m).link m).wait = w :: l := hwait
    generalize frameShown s m = u at hexec hinv' hmem hlink
    obtain ⟨hi, hv, hw, hbut⟩ := msrAccept_shows u m b w l hlink hinv'
    exact ⟨_, hexec, hi, hv, hw, fun a ha => (hbut a ha).trans (congrArg (memGet · a) hmem)⟩
  · intro s m b w l hon hlen htype hcrc hwait hdue hp hlt
    have hexec := exec_msrFrameRx hon hlen htype hcrc hwait hdue hlt
    rw [if_pos hp] at hexec
    exact ⟨_, hexec, State.rd_wr_of_lt _ (Nat.lt_of_lt_of_eq Nat.one_lt_two rfl), rfl, rfl⟩
  · intro s m h
    have hdef : exec (.msrConvDeadline m) s = execMsrConvDeadline m s := rfl
    rw [hdef, execMsrConvDeadline]
    refine congrArg Host.Outcome.next ?_
    split
    · rfl
    · next w l hcons => exact if_pos (h w l hcons)
  · intro s m reg v hreg hv
    have hgo : (reg.toNat == msrCompReg s && v.toNat == (s.link m).comp) = true := by
      rw [hreg, hv, beq_self_eq_true, beq_self_eq_true]
      rfl
    exact ⟨_, congrArg Host.Outcome.next (if_pos hgo), State.rd_wr_of_lt _ (Nat.two_pow_pos _),
      (State.OnlyRegs.refl s _).wr List.mem_cons_self 0⟩
  · intro s m reg v h
    refine congrArg Host.Outcome.next (if_neg ?_)
    rw [Bool.and_eq_true, beq_iff_eq, beq_iff_eq]
    exact fun hall => h.elim (fun h => h hall.1) fun h => h hall.2
  · intro s m rtt hlen
    have htake : (rtt.toNat :: (s.link m).rtt).take 16 = rtt.toNat :: (s.link m).rtt :=
      List.take_of_length_le (by rw [List.length_cons]; omega)
    have hdef : exec (.msrCtrlReplyRx m (.echo rtt)) s = execMsrCtrlReplyRx m (.echo rtt) s := rfl
    rw [hdef, execMsrCtrlReplyRx]
    dsimp only
    rw [htake, if_neg (by rw [List.length_cons]; omega), if_neg (by rw [List.length_cons]; omega)]
  · intro s m v
    rfl
  · intro s r m hlive hr
    exact next_hostWrite_status hlive (classN_of_window (by omega)) (if_neg hr) (by decide)
  · intro s m hlive
    have hdone : (if Req.supervisor = .supervisor then (msrMeasure s m).status 0 else s.status 0x0207) = (msrMeasure s m).status 0 := if_pos rfl
    have hexec : exec (.msrRemeasure .supervisor m) s = .next ((msrMeasure s m).status 0) :=
      next_hostWrite_status hlive (classN_of_window (by omega)) hdone (by decide)
    rw [msrMeasure_eq] at hexec
    exact hexec

end Sys2Proof.Machine
end

section
/-! Rules of Tilth: its degraded status, its flags, the registers that name the published banks. -/

namespace Sys2Proof.Machine

/-- The registers that Tilth's degraded status reaches. -/
def degradedRegs : List Field := [F.TIL_STAT_DEGRADED, F.SEAT_STAT_EXTRACT_OK, F.GIRTH_MODE_SUBSTATE]

section
variable (s : State)

theorem til_regs (x : TilSt) (fs : List Field) : s.RegsBut { s with til := x } fs := s.RegsBut_refl _

theorem tilDegrade_regs : s.RegsBut (tilDegrade s) degradedRegs := by
  unfold tilDegrade
  extract_lets recent d
  exact ((State.OnlyRegs.refl s _).wrB List.mem_cons_self d).regs.trans ((degrade_regs _ 800 d).mono (List.subset_cons_self _ _))

theorem tilDegrade_til : (tilDegrade s).til = s.til :=
  (tilDegrade_within (K := partsMask [.girth, .rTilth, .rGirth, .substate, .upd]) (by decide) (Within.refl _ s)).same .til (by decide)

theorem tilDegrade_mem : (tilDegrade s).mem = s.mem :=
  (tilDegrade_within (K := partsMask [.girth, .rTilth, .rGirth, .substate, .upd]) (by decide) (Within.refl _ s)).same .mem (by decide)

/-- A flag that degrades Tilth writes itself and the degraded status. -/
theorem tilFlag_regs (f : Field) : s.RegsBut (tilFlag s f) (f :: degradedRegs) :=
  (State.RegsBut.set (t := s) (s.RegsBut_refl _) List.mem_cons_self rfl).trans ((tilDegrade_regs _).mono (List.subset_cons_self _ _))

theorem tilFlag_set {f : Field} (hw : 1 < 2 ^ f.w) (hf : ∀ g ∈ degradedRegs, f.key ≠ g.key) : (tilFlag s f).rd f = 1 :=
  (tilDegrade_regs _ f hf).trans (State.rd_wr_of_lt _ hw)

theorem tilFlag_til (f : Field) : (tilFlag s f).til = { s.til with degAt := some s.now } := tilDegrade_til _

end

/-! ## The published banks -/

/-- The fields that name the bank published last of each kind. -/
def bankFields : List Field := [F.TIL_PUB_STATE_BANK, F.TIL_PUB_STAT_BANK, F.TIL_PUB_DIV_BANK, F.TIL_ZPUB_BANK]

/-- Is a register field none of them? -/
def notBank (g : Field) : Bool := bankFields.all fun f => f.key != g.key

/-- The banks that are published. -/
def tilBanks (s : State) : List Nat := bankFields.map s.rd

section
variable {s t : State} {fs : List Field} {g : Field}

theorem tilBanks_of_regs (h : s.RegsBut t fs) (hfs : ∀ g ∈ fs, notBank g = true) : tilBanks t = tilBanks s :=
  List.map_congr_left fun f hf => h f fun g hg => bne_iff_ne.mp (List.all_eq_true.mp (hfs g hg) f hf)

theorem rd_of_tilBanks (h : tilBanks t = tilBanks s) {f : Field} (hf : f ∈ bankFields) : t.rd f = s.rd f :=
  List.map_inj_left.mp h f hf

theorem tilBanks_wr (v : Nat) (hg : notBank g = true) : tilBanks (s.wr g v) = tilBanks s :=
  tilBanks_of_regs ((State.OnlyRegs.refl s [g]).wr List.mem_cons_self v).regs (by simpa only [List.mem_singleton, forall_eq] using hg)

theorem tilBanks_incSat (hg : notBank g = true) : tilBanks (s.incSat g) = tilBanks s :=
  tilBanks_of_regs ((State.OnlyRegs.refl s [g]).incSat List.mem_cons_self).regs (by simpa only [List.mem_singleton, forall_eq] using hg)

theorem tilBanks_within {K : Nat} (h : Within K s t) (hK : K.testBit 46 = false) : tilBanks t = tilBanks s := by
  refine List.map_congr_left fun f hf => ?_
  simp only [bankFields, List.mem_cons, List.not_mem_nil, or_false] at hf
  rcases hf with rfl | rfl | rfl | rfl
  · exact h.rd_eq (i := 46) TIL_PUB_STATE_BANK_blk (by decide) hK
  · exact h.rd_eq (i := 46) TIL_PUB_STAT_BANK_blk (by decide) hK
  · exact h.rd_eq (i := 46) TIL_PUB_DIV_BANK_blk (by decide) hK
  · exact h.rd_eq (i := 46) TIL_ZPUB_BANK_blk (by decide) hK

end

section
variable (s : State)

theorem tilBanks_degrade : tilBanks (tilDegrade s) = tilBanks s := tilBanks_of_regs (tilDegrade_regs s) (by decide)

theorem tilBanks_flag {f : Field} (hf : notBank f = true) : tilBanks (tilFlag s f) = tilBanks s :=
  tilBanks_of_regs (tilFlag_regs s f) (List.forall_mem_cons.mpr ⟨hf, by decide⟩)

theorem tilBanks_hwPost (q : Nat) (ws : List Word) : tilBanks (hwPost s q ws) = tilBanks s :=
  tilBanks_within (hwPost_within (K := partsMask [.mem, .out, .irqHeld, .q, .rFurrow, .upd, .furBits]) (by decide) (Within.refl _ s)) (by decide)

theorem tilBanks_post (p kind : Nat) (ws : List Word) : tilBanks (tilPost s p kind ws) = tilBanks s := by
  unfold tilPost
  extract_lets q
  split
  · split
    · exact tilBanks_hwPost s q ws
    · exact (tilBanks_flag _ (by decide)).trans (tilBanks_hwPost s q ws)
  · rfl

theorem tilBanks_postAll (kind : Nat) (ws : List Word) : tilBanks (tilPostAll s kind ws) = tilBanks s :=
  forN_keeps tilBanks (f := fun p t => tilPost t p kind ws) (fun p _ t => tilBanks_post t p kind ws) s

theorem tilBanks_list (kind : Nat) (head entries : List Word) (one : Bool) :
    tilBanks (tilList s kind head entries one) = tilBanks s := by
  unfold tilList
  exact foldl_keeps tilBanks (f := fun t e => tilPostAll t kind (head.take 2 ++ e)) (fun t e => tilBanks_postAll t kind _) s _

theorem notBank_lane (g : Nat) : notBank (F.TIL_MM_LANE_CNT g) = true := by
  simp only [notBank, bankFields, List.all_cons, List.all_nil, Bool.and_true, Bool.and_eq_true, bne_iff_ne, Field.key,
    F.TIL_PUB_STATE_BANK, F.TIL_PUB_STAT_BANK, F.TIL_PUB_DIV_BANK, F.TIL_ZPUB_BANK, F.TIL_MM_LANE_CNT]
  omega

theorem tilBanks_count (kind : Nat) (l : List Nat) : tilBanks (tilCount s kind l) = tilBanks s := by
  refine foldl_keeps tilBanks (fun t g => ?_) s l
  exact (tilBanks_wr kind (by decide)).trans ((tilBanks_wr g (by decide)).trans
    ((tilBanks_incSat (notBank_lane _)).trans (tilBanks_incSat (by decide))))

theorem tilBanks_report (kind bank wseq : Nat) (w : TilWin) (l : List Nat) : tilBanks (tilReport s kind bank wseq w l) = tilBanks s := by
  unfold tilReport
  split
  · rfl
  · extract_lets b
    split
    · exact tilBanks_flag s (by decide)
    · rfl

theorem tilBanks_suspects (kind bank wseq : Nat) (u : TilPub) (late : Bool) (l : List Nat) :
    tilBanks (tilSuspects s kind bank wseq u late l) = tilBanks s := by
  unfold tilSuspects
  split
  · rfl
  · exact (tilBanks_list ..).trans ((tilBanks_report ..).trans ((tilBanks_wr 1 (by decide)).trans (tilBanks_count ..)))

theorem tilBanks_late (late : Bool) {f : Field} (hf : notBank f = true) : tilBanks (tilLate s late f) = tilBanks s := by
  unfold tilLate
  split
  · exact (tilBanks_incSat (by decide)).trans (tilBanks_flag s hf)
  · rfl

theorem tilBanks_lanes (l : List Nat) : tilBanks (tilLanes s l) = tilBanks s := by
  unfold tilLanes
  extract_lets lane __src t
  have ht : tilBanks t = tilBanks s := rfl
  clear_value t
  split
  · exact (tilBanks_degrade _).trans ((tilBanks_wr 1 (by decide)).trans ((tilBanks_wr 1 (by decide)).trans ht))
  · exact ht

end

end Sys2Proof.Machine
end

section
/-! Tilth's windows: the start, the two passes, the closes and the publication of the banks (chapters 10 and 11). -/

namespace Sys2Proof.Machine

/-! ## Publication -/

section
variable (s : State) (u : TilPub) (late : Bool) (bad : List (Fin 4608))

/-- A bank register takes the other of its two banks. -/
theorem other_bank_lt (n : Nat) : 1 - n < 2 ^ 1 := by omega

theorem rd_tilNext (k : Nat) (f : Field) : (tilNext s k).rd f = s.rd f := rfl

/-- A bank register that is written together with its sequence number. -/
theorem bank_shown {f g : Field} {b : Nat} (hw : f.w = 1) (hb : b < 2 ^ 1) (hne : f.key ≠ g.key) (v k : Nat) :
    (tilNext ((s.wr f b).wr g v) k).rd f = b :=
  (rd_tilNext ..).trans ((State.rd_wr_ne _ _ hne).trans (State.rd_wr_of_lt _ (hw ▸ hb)))

theorem pubState_bank : (pubState s u late bad).rd F.TIL_PUB_STATE_BANK = 1 - s.rd F.TIL_PUB_STATE_BANK := by
  unfold pubState
  extract_lets l bank w s1 recs s2 s3 s4 s5 s6
  have hb : bank = 1 - s.rd F.TIL_PUB_STATE_BANK := rfl
  have hlt : bank < 2 ^ 1 := other_bank_lt _
  clear_value bank s3
  have h4 : s4.rd F.TIL_PUB_STATE_BANK = bank :=
    bank_shown _ rfl hlt (by decide) _ _
  have h5 : tilBanks s5 = tilBanks s4 := tilBanks_postAll ..
  have h6 : tilBanks s6 = tilBanks s5 := by
    by_cases hl : l.isEmpty = true
    · exact congrArg tilBanks (if_pos hl)
    · exact (congrArg tilBanks (if_neg hl)).trans (tilBanks_incSat (by decide))
  clear_value s6 s5 s4
  have hall := (tilBanks_late (tilLanes (tilSuspects s6 1 bank w u late l) l) late (f := F.TIL_FLT_DEADLINE) (by decide)).trans
    ((tilBanks_lanes ..).trans ((tilBanks_suspects ..).trans (h6.trans h5)))
  exact (rd_of_tilBanks hall (by decide)).trans (h4.trans hb)

theorem pubStat_bank : (pubStat s u late bad).rd F.TIL_PUB_STAT_BANK = 1 - s.rd F.TIL_PUB_STAT_BANK := by
  unfold pubStat
  extract_lets l bank w recs s1 s2 s3 s4 s5
  have hb : bank = 1 - s.rd F.TIL_PUB_STAT_BANK := rfl
  have hlt : bank < 2 ^ 1 := other_bank_lt _
  clear_value bank s2
  have h3 : s3.rd F.TIL_PUB_STAT_BANK = bank :=
    bank_shown _ rfl hlt (by decide) _ _
  have h4 : tilBanks s4 = tilBanks s3 := tilBanks_postAll ..
  have h5 : tilBanks s5 = tilBanks s4 := (tilBanks_late _ late (by decide)).trans (tilBanks_suspects ..)
  clear_value s5 s4 s3
  have h := (rd_of_tilBanks (h5.trans h4) (f := F.TIL_PUB_STAT_BANK) (by decide)).trans (h3.trans hb)
  split
  · exact h
  · exact h

theorem pubDiv_bank (badG : List (Fin 252)) : (pubDiv s u late bad badG).rd F.TIL_PUB_DIV_BANK = 1 - s.rd F.TIL_PUB_DIV_BANK := by
  unfold pubDiv
  extract_lets bank w ks l done second chg state __src s1 s2 grp s3 fl s4 s5 s6 up head s7 s8
  have hb : bank = 1 - s.rd F.TIL_PUB_DIV_BANK := rfl
  have hlt : bank < 2 ^ 1 := other_bank_lt _
  clear_value bank l done second chg state s5 fl up head
  have h6 : s6.rd F.TIL_PUB_DIV_BANK = bank :=
    (rd_tilNext ..).trans (State.rd_wr_of_lt _ hlt)
  have h7 : tilBanks s7 = tilBanks s6 := tilBanks_postAll ..
  have h8 : tilBanks s8 = tilBanks s7 := tilBanks_list ..
  clear_value s8 s7 s6
  have hall := (tilBanks_late (tilSuspects s8 3 bank w u late l) late (f := F.TIL_FLT_DEADLINE) (by decide)).trans
    ((tilBanks_suspects ..).trans (h8.trans h7))
  exact (rd_of_tilBanks hall (by decide)).trans (h6.trans hb)

theorem pubZ_bank : (pubZ s u late bad).rd F.TIL_ZPUB_BANK = 1 - s.rd F.TIL_ZPUB_BANK := by
  unfold pubZ
  extract_lets l bank w recs strs s1 s2 s3 s4
  have hb : bank = 1 - s.rd F.TIL_ZPUB_BANK := rfl
  have hlt : bank < 2 ^ 1 := other_bank_lt _
  clear_value bank s2
  have h3 : s3.rd F.TIL_ZPUB_BANK = bank :=
    bank_shown _ rfl hlt (by decide) _ _
  have h4 : tilBanks s4 = tilBanks s3 := tilBanks_postAll ..
  clear_value s4 s3
  have hall := (tilBanks_late (tilSuspects s4 5 bank w u late l) late (f := F.TIL_ZFLT_ZDEADLINE) (by decide)).trans
    ((tilBanks_suspects ..).trans h4)
  exact (rd_of_tilBanks hall (by decide)).trans (h3.trans hb)

end

/-- What is taken satisfies what was asked. -/
theorem tilTake_holds {p : TilPub → Bool} {l r : List TilPub} {u : TilPub} (h : tilTake p l = some (u, r)) : p u = true := by
  induction l generalizing u r with
  | nil => nomatch h
  | cons x l ih =>
    rw [tilTake] at h
    by_cases hx : p x = true
    · rw [if_pos hx] at h
      by_cases hd : x.done2 = true
      · rw [if_pos hd] at h
        obtain ⟨rfl, -⟩ := Prod.mk.inj (Option.some.inj h)
        exact hx
      · rw [if_neg hd] at h
        nomatch h
    · rw [if_neg hx] at h
      obtain ⟨y, hy, hyu⟩ := Option.map_eq_some_iff.mp h
      obtain ⟨rfl, -⟩ := Prod.mk.inj hyu
      exact ih hy

/-- A closed window is published in the bank of its kind. -/
def tilPublished (s : State) (u : TilPub) (bad : List (Fin 4608)) (badG : List (Fin 252)) : State :=
  match u.kind with
  | 1 => pubState s u (tilOver s u) bad
  | 2 => pubStat s u (tilOver s u) bad
  | 3 => pubDiv s u (tilOver s u) bad badG
  | _ => pubZ s u (tilOver s u) bad

theorem tilPublished_shows (s : State) (u : TilPub) (bad : List (Fin 4608)) (badG : List (Fin 252)) :
    (u.kind = 1 → (tilPublished s u bad badG).rd F.TIL_PUB_STATE_BANK = 1 - s.rd F.TIL_PUB_STATE_BANK) ∧
    (u.kind = 2 → (tilPublished s u bad badG).rd F.TIL_PUB_STAT_BANK = 1 - s.rd F.TIL_PUB_STAT_BANK) ∧
    (u.kind = 3 → (tilPublished s u bad badG).rd F.TIL_PUB_DIV_BANK = 1 - s.rd F.TIL_PUB_DIV_BANK) ∧
    (u.kind = 5 → (tilPublished s u bad badG).rd F.TIL_ZPUB_BANK = 1 - s.rd F.TIL_ZPUB_BANK) := by
  refine ⟨fun h => ?_, fun h => ?_, fun h => ?_, fun h => ?_⟩ <;> rw [tilPublished, h]
  · exact pubState_bank ..
  · exact pubStat_bank ..
  · exact pubDiv_bank ..
  · exact pubZ_bank ..

theorem exec_bankPublish {s : State} {k : Fin 8} {bad : List (Fin 4608)} {badG : List (Fin 252)} {u : TilPub} {l : List TilPub}
    (h : tilTake (fun u => u.kind == k.val && u.kind != 6 && u.kind != 7) s.til.pubs = some (u, l)) :
    exec (.bankPublish k bad badG) s = .next (tilPublished { s with til := { s.til with pubs := l } } u bad badG) := by
  have hexec : exec (.bankPublish k bad badG) s = execBankPublish k bad badG s := rfl
  rw [hexec, execBankPublish, h]
  rfl

/-! ## The start and the stop -/

section
variable {s : State}

/-- Tilth stands where its condition fails. -/
theorem tilthStart_stands (h : s.rd F.TIL_CTL_EN = 0 ∨ s.rd F.TIL_STAT_RUNNING = 1 ∨ s.rd F.CAP_CTL_EN = 0 ∨ cycleNew s = false ∨
    s.now < s.til.enAt + 80000) : exec .tilthStart s = .next s := by
  refine congrArg Host.Outcome.next (if_pos ?_)
  simp only [Bool.or_eq_true, Bool.not_eq_true', decide_eq_true_eq]
  rcases h with h | h | h | h | h
  · exact .inl (.inl (.inl (.inl (rdB_of_rd_zero h))))
  · exact .inl (.inl (.inl (.inr (rdB_of_rd_one h))))
  · exact .inl (.inl (.inr (rdB_of_rd_zero h)))
  · exact .inl (.inr h)
  · exact .inr h

theorem rdB_wrB (s : State) {f : Field} (hw : f.w = 1) (b : Bool) : (s.wrB f b).rdB f = b := by
  rw [State.rdB, State.wrB, State.rd_wr_of_lt _ (Nat.lt_of_lt_of_eq (Bool.toNat_lt b) (hw ▸ rfl))]
  cases b <;> rfl

/-- Tilth runs, with the bins it is asked for. -/
def tilRunning (s : State) : State :=
  tilDegrade (State.wrB (State.wr s F.TIL_STAT_RUNNING 1) F.TIL_ZSTAT_ZRUNNING (s.rdB F.TIL_ZCTL_Z_EN))

theorem tilRunning_shows (s : State) : (tilRunning s).rd F.TIL_STAT_RUNNING = 1 ∧
    (tilRunning s).rdB F.TIL_ZSTAT_ZRUNNING = s.rdB F.TIL_ZCTL_Z_EN ∧ (tilRunning s).til = s.til ∧ (tilRunning s).mem = s.mem := by
  refine ⟨?_, ?_, tilDegrade_til _, tilDegrade_mem _⟩
  · refine (tilDegrade_regs _ _ (by decide)).trans ((State.rd_wrB_ne _ _ (by decide)).trans (State.rd_wr_of_lt _ ?_))
    exact Nat.lt_of_lt_of_eq Nat.one_lt_two rfl
  · exact (congrArg (· != 0) (tilDegrade_regs _ _ (by decide))).trans (rdB_wrB _ rfl _)

theorem tilthStart_starts (hen : s.rd F.TIL_CTL_EN = 1) (hrun : s.rd F.TIL_STAT_RUNNING = 0) (hcap : s.rd F.CAP_CTL_EN = 1)
    (hcyc : cycleNew s = true) (hat : s.til.enAt + 80000 ≤ s.now) : Ends .tilthStart s fun t =>
      t.rd F.TIL_STAT_RUNNING = 1 ∧ t.rdB F.TIL_ZSTAT_ZRUNNING = s.rdB F.TIL_ZCTL_Z_EN ∧ t.til.pubs = [] ∧ t.mem = s.mem ∧
      t.til.p1.next = s.cap.setno + (s.cap.writing && s.lat.st.ang.cycle != s.trl.cyc).toNat := by
  have hgo : ¬ (!s.rdB F.TIL_CTL_EN || s.rdB F.TIL_STAT_RUNNING || !s.rdB F.CAP_CTL_EN || !cycleNew s ||
      decide (s.now < s.til.enAt + 80000)) = true := by
    rw [rdB_of_rd_one hen, rdB_of_rd_zero hrun, rdB_of_rd_one hcap, hcyc, decide_eq_false (Nat.not_lt.mpr hat)]
    decide
  have hexec : ∃ x : TilSt, x.pubs = [] ∧ x.p1.next = s.cap.setno + (s.cap.writing && s.lat.st.ang.cycle != s.trl.cyc).toNat ∧
      exec .tilthStart s = .next (tilRunning { s with til := x }) := ⟨_, rfl, rfl, congrArg Host.Outcome.next (if_neg hgo)⟩
  obtain ⟨x, hpubs, hnext, hexec⟩ := hexec
  obtain ⟨h1, h2, h3, h4⟩ := tilRunning_shows { s with til := x }
  exact ⟨_, hexec, h1, h2, (congrArg TilSt.pubs h3).trans hpubs, h4, (congrArg (fun t : TilSt => t.p1.next) h3).trans hnext⟩

/-- The end of Tilth: nothing runs, the degraded status follows. -/
def tilHalted (s : State) : State := tilDegrade (State.wr (State.wr s F.TIL_STAT_RUNNING 0) F.TIL_ZSTAT_ZRUNNING 0)

theorem tilHalted_shows (s : State) : (tilHalted s).rd F.TIL_STAT_RUNNING = 0 ∧ (tilHalted s).til = s.til ∧ (tilHalted s).mem = s.mem ∧
    (tilHalted s).rd F.TIL_FLT_CAP_OFF = s.rd F.TIL_FLT_CAP_OFF := by
  refine ⟨?_, tilDegrade_til _, tilDegrade_mem _, ?_⟩
  · exact (tilDegrade_regs _ _ (by decide)).trans ((State.rd_wr_ne _ _ (by decide)).trans (State.rd_wr_of_lt _ (Nat.two_pow_pos _)))
  · exact (tilDegrade_regs _ _ (by decide)).trans ((State.rd_wr_ne _ _ (by decide)).trans (State.rd_wr_ne _ _ (by decide)))

theorem tilStop_shows (s : State) : (tilStop s).rd F.TIL_STAT_RUNNING = 0 ∧ (tilStop s).til.pubs = s.til.pubs ∧ (tilStop s).til.wc = {} ∧
    (tilStop s).til.ws = {} ∧ (tilStop s).til.wz = {} ∧ (tilStop s).mem = s.mem ∧
    (s.rd F.CAP_CTL_EN = 0 → (tilStop s).rd F.TIL_FLT_CAP_OFF = 1) := by
  unfold tilStop
  extract_lets t u q v
  have hmem : u.mem = s.mem := by
    by_cases h : (t.capOff || !s.rdB F.CAP_CTL_EN) = true
    · exact (congrArg State.mem (if_pos h : u = s.wr F.TIL_FLT_CAP_OFF 1)).trans rfl
    · exact congrArg State.mem (if_neg h)
  have hoff (h : s.rd F.CAP_CTL_EN = 0) : u.rd F.TIL_FLT_CAP_OFF = 1 := by
    have hu : u = s.wr F.TIL_FLT_CAP_OFF 1 := if_pos (by rw [rdB_of_rd_zero h, Bool.not_false, Bool.or_true])
    exact (congrArg (State.rd · F.TIL_FLT_CAP_OFF) hu).trans (State.rd_wr_of_lt _ (Nat.lt_of_lt_of_eq Nat.one_lt_two rfl))
  clear_value u
  obtain ⟨h1, h2, h3, h4⟩ := tilHalted_shows v
  exact ⟨h1, (congrArg TilSt.pubs h2).trans rfl, (congrArg TilSt.wc h2).trans rfl, (congrArg TilSt.ws h2).trans rfl,
    (congrArg TilSt.wz h2).trans rfl, h3.trans hmem, fun h => h4.trans (hoff h)⟩

/-! ## The passes -/

theorem firstPass_stands (h : s.rd F.TIL_STAT_RUNNING = 0 ∨ capHas s s.til.p1.next = false) : exec .tilthFirstPass s = .next s := by
  refine congrArg Host.Outcome.next (if_pos ?_)
  rcases h with h | h
  · rw [rdB_of_rd_zero h, Bool.not_false, Bool.true_or, Bool.true_or]
  · rw [h, Bool.not_false, Bool.or_true, Bool.true_or]

theorem firstPass_takes (hrun : s.rd F.TIL_STAT_RUNNING = 1) (hhas : capHas s s.til.p1.next = true)
    (hcyc : setCycle s s.til.p1.next = s.til.wc.cycLast) : Ends .tilthFirstPass s fun t =>
      t.til.p1 = tilPassSet s false s.til.p1 s.til.p1.next ∧ t.til.wc = s.til.wc.add s s.til.p1.next ∧ t.regs = s.regs ∧ t.mem = s.mem := by
  have hgo : ¬ (!s.rdB F.TIL_STAT_RUNNING || !capHas s s.til.p1.next || setCycle s s.til.p1.next != s.til.wc.cycLast) = true := by
    rw [rdB_of_rd_one hrun, hhas, hcyc, bne_self_eq_false]
    decide
  exact ⟨_, congrArg Host.Outcome.next (if_neg hgo), rfl, rfl, rfl, rfl⟩

/-- The state of the second pass once it has taken a set or found it lost. -/
def secondTaken (s : State) : State :=
  { s with til := { s.til with finAt := s.til.finAt.dropRange 0 (s.til.p2.next + 1) } }

/-- A state in which no window waits to be published. -/
def noPubs (s : State) : State := { s with til := { s.til with pubs := [] } }

theorem noPubs_of_nil (h : s.til.pubs = []) : noPubs s = s := by rw [noPubs, ← h]

/-- What the second pass does with its next set. -/
def secondNext (s : State) : State :=
  if s.til.p1.next ≤ s.til.p2.next || decide (s.now < s.til.finAt.get s.til.p2.next 0 + 80000) then s
  else if capLost s s.til.p2.next then
    tilFlag { s with til := { (secondTaken s).til with p2 := { s.til.p2 with next := s.til.p2.next + 1, lost := 7 } } } F.TIL_FLT_SET_LOST
  else { s with til := { (secondTaken s).til with p2 := tilPassSet s true s.til.p2 s.til.p2.next } }

/-- With no window waiting the second pass turns to its next set. -/
theorem exec_tilthSecondPass (hpubs : s.til.pubs = []) :
    exec .tilthSecondPass s = .next (if (!s.rdB F.TIL_STAT_RUNNING && s.til.pubs.isEmpty) || decide (s.til.p1.next < s.til.p2.next) then s
      else secondNext s) := by
  rw [← noPubs_of_nil hpubs]
  refine congrArg Host.Outcome.next ?_
  split
  · rfl
  · rfl

theorem exec_tilthSecondPass_running (hrun : s.rd F.TIL_STAT_RUNNING = 1) (hpubs : s.til.pubs = []) :
    exec .tilthSecondPass s = .next (if s.til.p1.next < s.til.p2.next then s else secondNext s) := by
  rw [exec_tilthSecondPass hpubs, rdB_of_rd_one hrun, Bool.not_true, Bool.false_and, Bool.false_or]
  simp only [decide_eq_true_eq]

/-- The set's time has come. -/
theorem secondNext_due (hnext : s.til.p2.next < s.til.p1.next) (hat : s.til.finAt.get s.til.p2.next 0 + 80000 ≤ s.now) :
    secondNext s = if capLost s s.til.p2.next then
        tilFlag { s with til := { (secondTaken s).til with p2 := { s.til.p2 with next := s.til.p2.next + 1, lost := 7 } } } F.TIL_FLT_SET_LOST
      else { s with til := { (secondTaken s).til with p2 := tilPassSet s true s.til.p2 s.til.p2.next } } := by
  refine if_neg ?_
  rw [decide_eq_false (Nat.not_lt.mpr hat), Bool.or_false, decide_eq_true_eq]
  omega

/-! ## The closes -/

/-- The end of a cycle window leaves its load. -/
theorem cycleWindow_closes (hrun : s.rd F.TIL_STAT_RUNNING = 1) (hstop : tilStopDue s = false) (hhas : capHas s s.til.p1.next = true)
    (hcyc : setCycle s s.til.p1.next ≠ s.til.wc.cycLast) : Ends .cycleWindowClose s fun t =>
      t.til.wc = TilWin.begin (setCycle s s.til.p1.next) ∧ t.til.newPar = none ∧ t.mem = s.mem ∧
      (∃ u, t.til.pubs = s.til.pubs ++ [u] ∧ u.kind = 1 ∧ u.win = s.til.wc ∧ u.endSet = s.til.p1.next) := by
  have hgo : ¬ (!capHas s s.til.p1.next || setCycle s s.til.p1.next == s.til.wc.cycLast) = true := by
    rw [hhas, beq_eq_false_iff_ne.mpr hcyc]
    decide
  exact ⟨_, congrArg Host.Outcome.next ((if_neg (by rw [rdB_of_rd_one hrun]; decide)).trans
    ((if_neg (by rw [hstop]; decide)).trans (if_neg hgo))), rfl, rfl, rfl, _, rfl, rfl, rfl, rfl⟩

theorem statWindow_closes (hdue : statDue s = true) : Ends .statWindowClose s fun t =>
    t.til.ws = { TilWin.begin s.til.wc.cycFirst with len := s.rd F.TIL_STAT_CFG_LEN } ∧ t.regs = s.regs ∧ t.mem = s.mem ∧
      (∃ u, t.til.pubs = s.til.pubs ++ [u] ∧ u.kind = 2 ∧ u.endSet = s.til.p1.next) :=
  ⟨_, congrArg Host.Outcome.next (if_neg (by rw [hdue]; decide)), rfl, rfl, rfl, _, rfl, rfl, rfl⟩

theorem zWindow_closes (hdue : zDue s = true) : Ends .zWindowClose s fun t =>
    t.rdB F.TIL_ZSTAT_ZRUNNING = s.rdB F.TIL_ZCTL_Z_EN ∧ t.til.zCount = s.til.zCount + 1 ∧ t.til.firstZ = false ∧ t.mem = s.mem := by
  have hexec : ∃ x : TilSt, ∃ fw : Nat, x.zCount = s.til.zCount + 1 ∧ x.firstZ = false ∧ exec .zWindowClose s = .next
      ((State.wrB { s with free := s.free + 64, til := x } F.TIL_ZSTAT_ZRUNNING (s.rdB F.TIL_ZCTL_Z_EN)).wr F.TIL_ZFREQ_FW fw) :=
    ⟨_, _, rfl, rfl, congrArg Host.Outcome.next (if_neg (by rw [hdue]; decide))⟩
  obtain ⟨x, fw, hz, hfirst, hexec⟩ := hexec
  refine ⟨_, hexec, ?_, hz, hfirst, rfl⟩
  exact (congrArg (· != 0) (State.rd_wr_ne _ _ (by decide))).trans (rdB_wrB _ rfl _)

end

/-- Settles O34: Tilth's windows, from the start to the publication of their banks. -/
theorem tilthWindows : Obligations.TilthWindows := by
  refine ⟨fun s => tilthStart_stands, fun s => tilthStart_starts, ?_, ?_, fun s => firstPass_takes,
    fun s h => firstPass_stands (.inr h), ?_, ?_, ?_, ?_, fun s => cycleWindow_closes, ?_, ?_, ?_, ?_, ?_, ?_⟩
  · rintro s c (rfl | rfl | rfl | rfl) hrun
    · exact firstPass_stands (.inl hrun)
    · exact congrArg Host.Outcome.next (if_pos (by rw [rdB_of_rd_zero hrun]; rfl))
    · have hdue : statDue s = false := by rw [statDue, rdB_of_rd_zero hrun, Bool.false_and, Bool.false_and, Bool.false_and]
      exact congrArg Host.Outcome.next (if_pos (by rw [hdue]; rfl))
    · have hdue : zDue s = false := by rw [zDue, rdB_of_rd_zero hrun, Bool.false_and, Bool.false_and, Bool.false_and]
      exact congrArg Host.Outcome.next (if_pos (by rw [hdue]; rfl))
  · intro s hrun hpubs
    rw [exec_tilthSecondPass hpubs, if_pos]
    rw [rdB_of_rd_zero hrun, hpubs]
    rfl
  · intro s hrun hpubs hnext hat hlost
    have hexec := exec_tilthSecondPass_running hrun hpubs
    rw [if_neg (by omega), secondNext_due hnext hat, if_neg (by rw [hlost]; decide)] at hexec
    exact ⟨_, hexec, rfl, rfl, rfl⟩
  · intro s hrun hpubs hat
    have hwait : secondNext s = s := if_pos (by rw [decide_eq_true hat, Bool.or_true])
    rw [exec_tilthSecondPass_running hrun hpubs, hwait, ite_self]
  · intro s hrun hpubs hnext hat hlost
    have hexec := exec_tilthSecondPass_running hrun hpubs
    rw [if_neg (by omega), secondNext_due hnext hat, if_pos hlost] at hexec
    refine ⟨_, hexec, ?_, ?_, tilFlag_set _ (Nat.lt_of_lt_of_eq Nat.one_lt_two rfl) (by decide)⟩
    · exact (congrArg (fun x : TilSt => x.p2.next) (tilFlag_til _ _)).trans rfl
    · exact (congrArg (fun x : TilSt => x.p2.cells) (tilFlag_til _ _)).trans rfl
  · intro s hrun hstop
    exact ⟨_, congrArg Host.Outcome.next ((if_neg (by rw [rdB_of_rd_one hrun]; decide)).trans (if_pos hstop)), tilStop_shows s⟩
  · intro s hrun hwc hws hdue
    refine statWindow_closes ?_
    rw [statDue, rdB_of_rd_one hrun, hwc, hdue, bne_iff_ne.mpr hws]
    rfl
  · intro s hdue
    exact congrArg Host.Outcome.next (if_pos (by rw [hdue]; rfl))
  · intro s hrun hwc hwz hdue
    refine zWindow_closes ?_
    rw [zDue, rdB_of_rd_one hrun, hwc, hdue, bne_iff_ne.mpr hwz, Bool.or_true]
    rfl
  · intro s hdue
    exact congrArg Host.Outcome.next (if_pos (by rw [hdue]; rfl))
  · intro s k bad badG h
    have hexec : exec (.bankPublish k bad badG) s = execBankPublish k bad badG s := rfl
    rw [hexec, execBankPublish, h]
  · intro s k bad badG u l h
    have hkind : u.kind = k.val := by
      have hp := tilTake_holds h
      rw [Bool.and_eq_true, Bool.and_eq_true, beq_iff_eq] at hp
      exact hp.1.1
    have hshows := tilPublished_shows { s with til := { s.til with pubs := l } } u bad badG
    rw [hkind] at hshows
    exact ⟨_, exec_bankPublish h, hshows⟩

end Sys2Proof.Machine
end

section
/-! Tilth's parameters: the commit, its application, the enable and the microcode ports (chapter 10). -/

namespace Sys2Proof.Machine

theorem classN_tilth {a : Nat} (h : a / 0x100000 = 0x205) : classN a = false := classN_of_window (by omega)

section
variable {s : State} {r : Req}

/-! ## The commit -/

/-- Only the owner and the supervisor commit. -/
theorem tilCommit_other (h : tilOwner s r = false) : tilCommit s r = s.status 0x0207 := by
  unfold tilCommit
  extract_lets p
  exact if_pos (by rw [h]; rfl)

/-- One commit at a time. -/
theorem tilCommit_pending (h : tilOwner s r = true) (hpend : s.rd F.TIL_STAT_COMMIT_PEND = 1) : tilCommit s r = s.status 0x0304 := by
  unfold tilCommit
  extract_lets p
  exact (if_neg (by rw [h]; decide)).trans (if_pos (rdB_of_rd_one hpend))

theorem tilCommit_badCell {g e : Nat} (h : tilOwner s r = true) (hpend : s.rd F.TIL_STAT_COMMIT_PEND = 0)
    (hbad : ((List.range 4608).findSome? fun g => (parCellFault (tilCopy s) g).map fun e => (g, e)) = some (g, e)) :
    tilCommit s r = (tilParamErr s g e 0).status 0x0309 := by
  rw [tilCommit, if_neg (by rw [h]; decide), if_neg (by rw [rdB_of_rd_zero hpend]; decide), hbad]

/-- The registers that show that nothing is wrong, and the pending commit. -/
def commitShown (s : State) : State :=
  (((((s.wr F.TIL_PERR_CELL 0x1FFF).wr F.TIL_PERR_REASON 0).wr F.TIL_PERR_TABLE 0).wr F.TIL_ZPERR_INDEX 0x1F).wr
    F.TIL_ZPERR_REASON 0).wr F.TIL_STAT_COMMIT_PEND 1

theorem tilCommit_passes (h : tilOwner s r = true) (hpend : s.rd F.TIL_STAT_COMMIT_PEND = 0)
    (hcell : ∀ g, g < 4608 → parCellFault (tilCopy s) g = none)
    (htab : ∀ k, k < 16 → parTableTail (tilCopy s) k = false ∧ parTableBad (tilCopy s) k = false)
    (hz : parZFault (tilCopy s) = none) :
    tilCommit s r = State.status { commitShown s with til := { s.til with pend := some (tilCopy s), pendAt := s.now } } 0 := by
  have hcells : ((List.range 4608).findSome? fun g => (parCellFault (tilCopy s) g).map fun e => (g, e)) = none :=
    List.findSome?_eq_none_iff.mpr fun g hg => by rw [hcell g (List.mem_range.mp hg), Option.map_none]
  have htail : ¬ (List.range 16).any (parTableTail (tilCopy s)) = true := by
    rw [List.any_eq_true]
    rintro ⟨k, hk, hbad⟩
    exact absurd hbad (by rw [(htab k (List.mem_range.mp hk)).1]; decide)
  have hfind : ((List.range 16).find? fun t => parTableBad (tilCopy s) t) = none :=
    List.find?_eq_none.mpr fun k hk => by rw [(htab k (List.mem_range.mp hk)).2]; decide
  rw [tilCommit, if_neg (by rw [h]; decide), if_neg (by rw [rdB_of_rd_zero hpend]; decide), hcells]
  dsimp only
  rw [if_neg htail, hfind, hz]
  rfl

/-! ## The application -/

theorem tilCommitApply_waits (h : s.til.pend = none ∨ s.now < s.til.pendAt + 80000 ∨ cycleNew s = false) :
    exec .tilCommitApply s = .next s := by
  have hexec : exec .tilCommitApply s = execTilCommitApply s := rfl
  rw [hexec, execTilCommitApply]
  cases hp : s.til.pend with
  | none => rfl
  | some p =>
    refine congrArg Host.Outcome.next (if_pos ?_)
    rw [Bool.or_eq_true, decide_eq_true_eq, Bool.not_eq_true']
    exact (h.resolve_left (by rw [hp]; exact Option.some_ne_none p))

/-- The registers of a commit that applies. -/
def commitApplied (s : State) : State := ((tilWithdraw s).incWrap F.TIL_PSTAT_PSEQ).wr F.TIL_STAT_PSET_VALID 1

theorem commitApplied_shows (s : State) : (commitApplied s).rd F.TIL_STAT_PSET_VALID = 1 ∧
    (commitApplied s).rd F.TIL_STAT_COMMIT_PEND = 0 ∧
    (commitApplied s).rd F.TIL_PSTAT_PSEQ = (s.rd F.TIL_PSTAT_PSEQ + 1) % 2 ^ F.TIL_PSTAT_PSEQ.w ∧
    (commitApplied s).rd F.TIL_STAT_RUNNING = s.rd F.TIL_STAT_RUNNING := by
  refine ⟨State.rd_wr_of_lt _ (Nat.lt_of_lt_of_eq Nat.one_lt_two rfl), ?_, ?_, ?_⟩
  · exact (State.rd_wr_ne _ _ (by decide)).trans ((State.rd_incWrap_ne _ (by decide)).trans (State.rd_wr_of_lt _ (Nat.two_pow_pos _)))
  · refine (State.rd_wr_ne _ _ (by decide)).trans ((State.rd_wr_self ..).trans ?_)
    rw [tilWithdraw, State.rd_wr_ne _ _ (by decide)]
    rfl
  · exact (State.rd_wr_ne _ _ (by decide)).trans ((State.rd_incWrap_ne _ (by decide)).trans (State.rd_wr_ne _ _ (by decide)))

theorem tilCommitApply_applies {p : List Host.Cell} (hp : s.til.pend = some p) (hat : s.til.pendAt + 80000 ≤ s.now)
    (hcyc : cycleNew s = true) : exec .tilCommitApply s = .next (if (commitApplied s).rdB F.TIL_STAT_RUNNING then
      { commitApplied s with til := { s.til with pend := none, newPar := some p } }
    else { commitApplied s with til := { s.til with pend := none, p1 := { s.til.p1 with par := p }, p2 := { s.til.p2 with par := p } } }) := by
  have hexec : exec .tilCommitApply s = execTilCommitApply s := rfl
  have hgo : ¬ (decide (s.now < s.til.pendAt + 80000) || !cycleNew s) = true := by
    rw [hcyc, decide_eq_false (Nat.not_lt.mpr hat)]
    decide
  rw [hexec, execTilCommitApply, hp]
  dsimp only
  rw [if_neg hgo]
  rfl

/-! ## The enable -/

theorem mem_fieldsAt_tilCtl : F.TIL_CTL_EN ∈ fieldsAt F.TIL_CTL_EN.addr := by decide

/-- The word that TIL_ENABLE writes. -/
def tilEnabled (s : State) : State := s.writeWord F.TIL_CTL_EN.addr (s.readWord F.TIL_CTL_EN.addr / 2 * 2 + 1)

theorem tilEnabled_en (hu : s.upd = []) : (tilEnabled s).rd F.TIL_CTL_EN = 1 := by
  rw [tilEnabled, State.rd_writeWord_rw s mem_fieldsAt_tilCtl rfl (s.hwHas_nil hu _), Field.slice]
  have hlo : F.TIL_CTL_EN.lo = 0 := rfl
  have hw : F.TIL_CTL_EN.w = 1 := rfl
  rw [hlo, hw]
  omega

/-- The supervisor's enable is checked against the regions that the word leaves. -/
theorem tilCtlWrite_enable (hen : s.rd F.TIL_CTL_EN = 0) :
    tilCtlWrite s .supervisor (s.readWord F.TIL_CTL_EN.addr / 2 * 2 + 1) =
      if tilRegionsOk (tilEnabled s) then (tilDegrade { tilEnabled s with til := { (tilEnabled s).til with enAt := (tilEnabled s).now } }).status 0
      else (((tilEnabled s).wr F.TIL_CTL_EN 0).wr F.TIL_FLT_CFG_ERR 1).status 0x0302 := by
  have hodd (n : Nat) : (n / 2 * 2 + 1) % 2 ≠ 0 := by omega
  have howner : ¬ (!tilOwner s .supervisor) = true := Bool.false_ne_true
  have hsup (b : Bool) : ¬ (!tilSup .supervisor && b) = true := Bool.false_ne_true
  rw [tilCtlWrite, if_neg howner, if_neg (hsup _), if_neg (by rw [rdB_of_rd_zero hen]; decide), if_neg (hodd _)]
  rfl

/-! ## The microcode ports -/

theorem ucAddr_refused {c v : Nat} (h : ucRefusal s r = some c) : ucAddr s r v = s.status c := by rw [ucAddr, h]

theorem ucData_refused {c v : Nat} (h : ucRefusal s r = some c) : ucData s r v = s.status c := by rw [ucData, h]

theorem ucRefusal_code {c : Nat} (h : ucRefusal s r = some c) : c = 0x0207 ∨ c = 0x020B := by
  rw [ucRefusal] at h
  by_cases hr : r ≠ .supervisor
  · rw [if_pos hr] at h
    exact .inl (Option.some.inj h).symm
  · rw [if_neg hr] at h
    by_cases hl : s.rdB F.TIL_UC_CTL_LOCK = true
    · rw [if_pos hl] at h
      exact .inr (Option.some.inj h).symm
    · rw [if_neg hl] at h
      nomatch h

theorem ucRefusal_open (h : s.rd F.TIL_UC_CTL_LOCK = 0) : ucRefusal s .supervisor = none := by
  rw [ucRefusal, if_neg (not_not.mpr rfl), if_neg (by rw [rdB_of_rd_zero h]; decide)]

/-- A microcode word is stored and the address counts up. -/
theorem ucData_stores (h : s.rd F.TIL_UC_CTL_LOCK = 0) (v : Nat) : ∃ u : State, ucData s .supervisor v = u.status 0 ∧
    u.til.uc.get (s.rd F.TIL_UC_ADDR_ADDR) 0 = v ∧ u.rd F.TIL_UC_ADDR_ADDR = (s.rd F.TIL_UC_ADDR_ADDR + 1) % 2 ^ F.TIL_UC_ADDR_ADDR.w := by
  rw [ucData, ucRefusal_open h]
  dsimp only
  refine ⟨_, rfl, ?_⟩
  split
  · refine ⟨SMap.get_set_self .., (State.rd_wr_ne _ _ (by decide)).trans ((State.rd_wr_ne _ _ (by decide)).trans (State.rd_wr_self ..))⟩
  · exact ⟨SMap.get_set_self .., (State.rd_wr_ne _ _ (by decide)).trans (State.rd_wr_self ..)⟩

end

/-- Settles O35: commits, the enable and the microcode ports, each with its checks. -/
theorem tilthParameters : Obligations.TilthParameters := by
  refine ⟨?_, ?_, ?_, ?_, ?_, fun s => tilCommitApply_waits, ?_, ?_, ?_, ?_, ?_, ?_, ?_⟩
  · rintro s r c a (⟨rfl | rfl, rfl⟩ | ⟨rfl, rfl⟩) hlive hown
    · exact next_hostWrite_status hlive (classN_tilth rfl) (tilCommit_other hown) (by decide)
    · exact next_hostWrite_status hlive (classN_tilth rfl) (if_pos (by rw [hown]; rfl)) (by decide)
    · refine next_hostWrite_status hlive (classN_tilth rfl) ?_ (by decide)
      rw [tilCtlWrite, if_pos (by rw [hown]; rfl)]
  · intro s r hlive hown hpend
    exact next_hostWrite_status hlive (classN_tilth rfl) (tilCommit_pending hown hpend) (by decide)
  · intro s r g e hlive hown hpend hbad
    exact next_hostWrite_status hlive (classN_tilth rfl) (tilCommit_badCell hown hpend hbad) (by decide)
  · intro s r hlive hown hpend hcell htab hz
    refine ⟨_, next_hostWrite_status hlive (classN_tilth rfl) (tilCommit_passes hown hpend hcell htab hz) (by decide), rfl, ?_, rfl, rfl⟩
    exact (State.rd_status ..).trans (State.rd_wr_of_lt _ (Nat.lt_of_lt_of_eq Nat.one_lt_two rfl))
  · intro s r hlive hown
    refine ⟨_, next_hostWrite_status hlive (classN_tilth rfl) (if_neg (by rw [hown]; decide)) (by decide), rfl, ?_, rfl, ?_⟩
    · exact (State.rd_status ..).trans (State.rd_wr_of_lt _ (Nat.two_pow_pos _))
    · exact ((til_regs s _ _).trans ((State.OnlyRegs.refl _ _).wr List.mem_cons_self 0).regs).of_regs rfl
  · intro s p hp hat hcyc
    have hexec := tilCommitApply_applies hp hat hcyc
    obtain ⟨hv, hc, hq, hrun⟩ := commitApplied_shows s
    by_cases h : (commitApplied s).rdB F.TIL_STAT_RUNNING = true
    · rw [if_pos h] at hexec
      refine ⟨_, hexec, hv, hc, rfl, hq, fun _ => rfl, fun h0 => ?_⟩
      rw [rdB_of_rd_zero (hrun.trans h0)] at h
      exact absurd h Bool.false_ne_true
    · rw [if_neg h] at hexec
      exact ⟨_, hexec, hv, hc, rfl, hq, fun h1 => absurd (rdB_of_rd_one (hrun.trans h1)) h, fun _ => ⟨rfl, rfl⟩⟩
  · intro s hlive hen hu u
    have hwrite := tilCtlWrite_enable hen
    have hon : u.rd F.TIL_CTL_EN = 1 := tilEnabled_en hu
    have hu' : tilEnabled s = u := rfl
    rw [hu'] at hwrite
    clear_value u
    cases hok : tilRegionsOk u with
    | true =>
      rw [hok, if_pos rfl] at hwrite
      refine ⟨_, next_hostWrite_status hlive (classN_tilth rfl) hwrite (by decide), fun _ => ⟨rfl, ?_⟩, nofun⟩
      exact (State.rd_status ..).trans ((tilDegrade_regs _ _ (by decide)).trans hon)
    | false =>
      rw [hok, if_neg Bool.false_ne_true] at hwrite
      refine ⟨_, next_hostWrite_status hlive (classN_tilth rfl) hwrite (by decide), nofun, fun _ => ⟨rfl, ?_, ?_⟩⟩
      · exact (State.rd_status ..).trans ((State.rd_wr_ne _ _ (by decide)).trans (State.rd_wr_of_lt _ (Nat.two_pow_pos _)))
      · exact (State.rd_status ..).trans (State.rd_wr_of_lt _ (Nat.lt_of_lt_of_eq Nat.one_lt_two rfl))
  · rintro s r v c e a (⟨rfl, rfl⟩ | ⟨rfl, rfl⟩) hlive href
    · exact next_hostWrite_status hlive (classN_tilth rfl) (ucAddr_refused href)
        (by rcases ucRefusal_code href with rfl | rfl <;> decide)
    · exact next_hostWrite_status hlive (classN_tilth rfl) (ucData_refused href)
        (by rcases ucRefusal_code href with rfl | rfl <;> decide)
  · intro s v hlive hlock
    have hwrite : ucAddr s .supervisor v.toNat = State.status { (s.wr F.TIL_UC_ADDR_ADDR v.toNat).wr F.TIL_UC_CRC_CRC 0 with
        til := { s.til with crc := 0xFFFFFFFF } } 0 := by
      rw [ucAddr, ucRefusal_open hlock]
      rfl
    refine ⟨_, next_hostWrite_status hlive (classN_tilth rfl) hwrite (by decide), rfl, ?_, ?_, ?_⟩
    · exact (State.rd_status ..).trans ((State.rd_wr_ne _ _ (by decide)).trans (State.rd_wr_self ..))
    · exact (State.rd_status ..).trans (State.rd_wr_of_lt _ (Nat.two_pow_pos _))
    · exact (((State.OnlyRegs.refl s _).wr (g := F.TIL_UC_ADDR_ADDR) (by simp) _).wr (g := F.TIL_UC_CRC_CRC) (by simp) 0).regs.of_regs rfl
  · intro s v hlive hlock
    obtain ⟨u, hwrite, hget, haddr⟩ := ucData_stores hlock v.toNat
    exact ⟨_, next_hostWrite_status hlive (classN_tilth rfl) hwrite (by decide), rfl, hget, haddr⟩
  · intro s r hlive hr
    exact next_hostWrite_status hlive (classN_tilth rfl) (if_pos hr) (by decide)
  · intro s hlive
    refine ⟨_, next_hostWrite_status hlive (classN_tilth rfl) (if_neg (not_not.mpr rfl)) (by decide), rfl, ?_, ?_, ?_⟩
    · exact (State.rd_status ..).trans ((State.rd_wr_ne _ _ (by decide)).trans (State.rd_wr_of_lt _ (Nat.lt_of_lt_of_eq Nat.one_lt_two rfl)))
    · exact (State.rd_status ..).trans (State.rd_wr_of_lt _ (Nat.lt_of_lt_of_eq Nat.one_lt_two rfl))
    · exact (((State.OnlyRegs.refl s _).wr (g := F.TIL_UC_CTL_LOCK) (by simp) 1).wr (g := F.TIL_STAT_UC_LOCKED) (by simp) 1).regs.of_regs rfl

end Sys2Proof.Machine
end

section
/-! Field I/O (chapter 15): the readback fault of an output whose fault field holds a value wider than its bit. -/

namespace Sys2Proof.Machine

/-- After power-on, with DIO0 an output and its OUT_HIGH field at 2. The state is not canonical: the field is one bit wide. -/
def wideOutHigh : State :=
  { State.reset with regs := (State.reset.regs.set (F.DIO_CFG_DIR 0).key 1).set (F.DIO_FLT_OUT_HIGH 0).key 2 }

theorem wideOutHigh_high : wideOutHigh.rd (F.DIO_FLT_OUT_HIGH 0) = 2 := SMap.get_set_self ..

theorem wideOutHigh_dir : wideOutHigh.rd (F.DIO_CFG_DIR 0) = 1 :=
  (SMap.get_set_ne _ _ _ (by decide)).trans (SMap.get_set_self ..)

theorem wideOutHigh_off : dioConducts (dioState wideOutHigh 0) = false := by
  have hhigh : (F.DIO_STAT_STATE 0).key ≠ (F.DIO_FLT_OUT_HIGH 0).key := by decide
  have hdir : (F.DIO_STAT_STATE 0).key ≠ (F.DIO_CFG_DIR 0).key := by decide
  have hst : dioState wideOutHigh 0 = State.reset.rd (F.DIO_STAT_STATE 0) := by
    rw [dioState, State.rd, wideOutHigh]
    exact (SMap.get_set_ne _ _ _ hhigh).trans (SMap.get_set_ne _ _ _ hdir)
  rw [hst]
  rfl

/-- The fault reads as set, and the row leaves it as it is. -/
theorem exec_dioReadbackFault_wide : exec (.dioReadbackFault 0) wideOutHigh = .next wideOutHigh := by
  have hdir : ¬ (!wideOutHigh.rdB (F.DIO_CFG_DIR 0) || wideOutHigh.mode == mDORMANCY) = true := by
    rw [rdB_of_rd_one wideOutHigh_dir]
    decide
  have hset : wideOutHigh.rdB (F.DIO_FLT_OUT_HIGH 0) = true := rdB_of_rd_ne_zero (by rw [wideOutHigh_high]; decide)
  have hoff : (!dioConducts (dioState wideOutHigh 0)) = true := by rw [wideOutHigh_off]; rfl
  exact congrArg Host.Outcome.next ((if_neg hdir).trans ((if_pos hoff).trans (if_pos hset)))

/-- Refutes O44: the statement asks OUT_HIGH to read 1 after a readback fault of every state, canonical or not, and a field that holds 2
reads as set and keeps its value. -/
theorem not_fieldIo : ¬ Obligations.FieldIo := by
  unfold Obligations.FieldIo
  rintro ⟨-, -, -, -, -, -, -, -, -, -, -, -, -, -, -, -, -, -, hhigh, -⟩
  obtain ⟨t, ht, hone⟩ := hhigh wideOutHigh 0 wideOutHigh_dir (by decide) wideOutHigh_off
  cases exec_dioReadbackFault_wide.symm.trans ht
  exact absurd (wideOutHigh_high.symm.trans hone) (by decide)

end Sys2Proof.Machine
end

section
/-! Rules of the CAN controllers: what moves a controller's error state, and what a packet to a queue leaves. -/

namespace Sys2Proof.Machine

/-! ## The error state of a controller -/

/-- The error state and the counters of controller `i`. -/
def errFields (i : Nat) : List Field := [F.CAN_STAT_STATE i, F.CAN_ECNT_TEC i, F.CAN_ECNT_REC i, F.CAN_STAT_EWARN i]

/-- Is a register field none of them? -/
def NotErr (i : Nat) (g : Field) : Prop := ∀ f ∈ errFields i, f.key ≠ g.key

/-- The error state and the counters as they read. -/
def canErr (i : Nat) (s : State) : List Nat := (errFields i).map s.rd

theorem notErr_iff {i : Nat} {g : Field} : NotErr i g ↔ (F.CAN_STAT_STATE i).key ≠ g.key ∧ (F.CAN_ECNT_TEC i).key ≠ g.key ∧
    (F.CAN_ECNT_REC i).key ≠ g.key ∧ (F.CAN_STAT_EWARN i).key ≠ g.key := by
  rw [NotErr, errFields, List.forall_mem_cons, List.forall_mem_cons, List.forall_mem_cons, List.forall_mem_singleton]

/-- The registers of the buffers and of the gateways lie above those of the controllers. -/
theorem notErr_of_above {i : Nat} {g : Field} (h : 0x20A10000 ≤ g.addr) : NotErr i g := by
  rw [notErr_iff]
  simp only [Field.key, F.CAN_STAT_STATE, F.CAN_ECNT_TEC, F.CAN_ECNT_REC, F.CAN_STAT_EWARN]
  omega

theorem notErr_held (i j : Nat) : NotErr i (F.CAN_STAT_HELD j) := by
  rw [notErr_iff]
  simp only [Field.key, F.CAN_STAT_STATE, F.CAN_ECNT_TEC, F.CAN_ECNT_REC, F.CAN_STAT_EWARN, F.CAN_STAT_HELD]
  omega

section
variable {i j b : Nat} {s t : State}

theorem rd_of_canErr (h : canErr i t = canErr i s) {f : Field} (hf : f ∈ errFields i) : t.rd f = s.rd f :=
  List.map_inj_left.mp h f hf

theorem canErr_within {K : Nat} (h : Within K s t) (hK : K.testBit 51 = false) : canErr i t = canErr i s := by
  refine List.map_congr_left fun f hf => ?_
  simp only [errFields, List.mem_cons, List.not_mem_nil, or_false] at hf
  rcases hf with rfl | rfl | rfl | rfl
  · exact h.rd_eq (CAN_STAT_STATE_blk i) (by decide) hK
  · exact h.rd_eq (CAN_ECNT_TEC_blk i) (by decide) hK
  · exact h.rd_eq (CAN_ECNT_REC_blk i) (by decide) hK
  · exact h.rd_eq (CAN_STAT_EWARN_blk i) (by decide) hK

end

section
variable {i : Nat} (s : State) (j b : Nat)

theorem canErr_wr {g : Field} (v : Nat) (hg : NotErr i g) : canErr i (s.wr g v) = canErr i s :=
  List.map_congr_left fun f hf => State.rd_wr_ne s v (hg f hf)

theorem canErr_incSat {g : Field} (hg : NotErr i g) : canErr i (s.incSat g) = canErr i s :=
  List.map_congr_left fun f hf => State.rd_incSat_ne _ (hg f hf)

theorem above_txb (j b : Nat) : 0x20A10000 ≤ 0x20A20000 + 0x2000 * min j 8 + 0x80 * min b 64 := by omega

theorem canErr_bufPut (st : Nat) : canErr i (bufPut s j b st) = canErr i s :=
  (canErr_wr _ _ (notErr_held i j)).trans (canErr_wr s st (notErr_of_above (by simp only [F.CAN_TXB_STAT_STATE]; omega)))

theorem canErr_setCanBuf (x : CanBuf) : canErr i (setCanBuf s j b x) = canErr i s := rfl

theorem canErr_setGwDst (x : GwDstSt) : canErr i (setGwDst s j x) = canErr i s := rfl

theorem canErr_bufLoad (f : CanFrame) : canErr i (bufLoad s j b f) = canErr i s := by
  unfold bufLoad
  extract_lets u v w
  have hu : canErr i u = canErr i s := (canErr_wr _ _ (notErr_of_above (by simp only [F.CAN_TXB_ID_RTR]; omega))).trans
    ((canErr_wr _ _ (notErr_of_above (by simp only [F.CAN_TXB_ID_IDE]; omega))).trans
      (canErr_wr _ _ (notErr_of_above (by simp only [F.CAN_TXB_ID_ID]; omega))))
  have hv : canErr i v = canErr i u := (canErr_wr _ _ (notErr_of_above (by simp only [F.CAN_TXB_CTL_BRS]; omega))).trans
    ((canErr_wr _ _ (notErr_of_above (by simp only [F.CAN_TXB_CTL_FDF]; omega))).trans
      (canErr_wr _ _ (notErr_of_above (by simp only [F.CAN_TXB_CTL_DLC]; omega))))
  clear_value v u
  exact (forN_keeps (canErr i) (f := fun k t => t.wr (F.CAN_TXB_DATA_DATA j b k) (w.getD k 0).toNat) (fun k _ t =>
    canErr_wr t _ (notErr_of_above (by simp only [F.CAN_TXB_DATA_DATA]; omega))) v).trans (hv.trans hu)

theorem canErr_sysNext : canErr i (sysNext s j b) = canErr i s := by
  unfold sysNext
  extract_lets st
  split
  · rfl
  · split
    · exact (canErr_bufPut ..).trans ((canErr_bufLoad ..).trans
        (canErr_wr _ 0 (notErr_of_above (by simp only [F.CAN_TXB_STAT_ATTEMPTS]; omega))))
    · rfl

theorem canErr_canSystem (f : CanFrame) : canErr i (canSystem s j b f) = canErr i s := canErr_sysNext ..

theorem canErr_bufRecord (type code : Nat) (st : Stamp) : canErr i (bufRecord s j b type code st) = canErr i s :=
  canErr_within (bufRecord_within (K := partsMask [.mem, .out, .irqHeld, .q, .rFurrow, .upd, .furBits]) (by decide) (Within.refl _ s)) (by decide)

theorem canErr_sysRecord (type : Nat) : canErr i (canSysRecord s j type) = canErr i s :=
  canErr_within (canSysRecord_within (K := partsMask [.mem, .out, .irqHeld, .q, .rFurrow, .upd, .furBits]) (by decide) (Within.refl _ s)) (by decide)

theorem canErr_bufAbort (type code : Nat) : canErr i (bufAbort s j b type code) = canErr i s :=
  (canErr_sysNext ..).trans ((canErr_bufRecord ..).trans ((canErr_setCanBuf ..).trans (canErr_bufPut ..)))

/-- Bus-off ends what waits, and leaves the error state. -/
theorem canErr_boffBuf : canErr i (boffBuf j b s) = canErr i s := by
  unfold boffBuf
  extract_lets st flush u
  have hu : canErr i u = canErr i s := by
    by_cases h : (flush && st == 1) = true
    · exact congrArg (canErr i) (if_pos h)
    · exact (congrArg (canErr i) (if_neg h)).trans (canErr_wr s 1 (notErr_of_above (by simp only [F.CAN_TXB_STAT_ERR]; omega)))
  clear_value u
  split
  · split
    · exact (canErr_bufAbort ..).trans hu
    · split
      · exact (canErr_bufAbort ..).trans hu
      · exact (canErr_bufPut ..).trans hu
  · rfl

/-- The gateway's frames leave the error state. -/
theorem canErr_gwSendOne : canErr i (gwSendOne s j) = canErr i s := by
  unfold gwSendOne
  split
  · rfl
  · extract_lets x y
    split
    · rfl
    · split
      · rfl
      · exact (canErr_canSystem ..).trans (canErr_setGwDst ..)

theorem canErr_gwService : canErr i (gwService j s) = canErr i s :=
  forN_keeps (canErr i) (f := fun _ t => gwSendOne t j) (fun _ _ t => canErr_gwSendOne t j) s

end

/-! ## Queues -/

section
variable {s t : State} {q : Nat}

theorem hwPost_eq (hr : plotResetting s (s.rd (F.Q_OWN_CONS q)) = false) {ws : List Word} (hroom : hwRoom s q ws.length = true) :
    hwPost s q ws = hwFilled s q ws := by
  unfold hwPost
  rw [hwQueue_self hr]
  exact if_pos hroom

/-- What changes no register of Furrow leaves the room in a queue and the place of its next word. -/
theorem hwRoom_congr (hq : t.q = s.q) (hnow : t.now = s.now) (h : ∀ f, Blk f 45 → t.rd f = s.rd f) (n : Nat) :
    hwRoom t q n = hwRoom s q n ∧ furPos t q = furPos s q := by
  have hqueue : t.queue q = s.queue q := congrArg (fun x : SMap QueueSt => x.get q {}) hq
  have hsize := h _ (Q_CFG_SIZE_blk q)
  have hen := h _ (Q_CFG_EN_blk q)
  have hmax := h _ (Q_CREDIT_CFG_CREDIT_MAX_blk q)
  have hbase := h _ (Q_BASE_BASE_blk q)
  have hwords : bankWords t q = bankWords s q := congrArg (2 ^ ·) hsize
  have henB : t.rdB (F.Q_CFG_EN q) = s.rdB (F.Q_CFG_EN q) := congrArg (· != 0) hen
  have hfree : queueFree t q = queueFree s q := by simp only [queueFree, hqueue, hwords, henB]
  have hcredit : queueCredit t q = queueCredit s q := by simp only [queueCredit, hqueue, hmax, hfree]
  have hhw : hwCredit t q = hwCredit s q := by rw [hwCredit, hqueue, hnow, hcredit, ← hwCredit]
  constructor
  · rw [hwRoom, hwRoom, henB, maxPkt, maxPkt, hwords, hhw, hfree]
  · simp only [furPos, hqueue, hwords, hbase]

end

end Sys2Proof.Machine
end

section
/-! CAN controllers on the bus: frames received, errors, bus-off and recovery, a dominant bus, selective wake (chapter 16). -/

namespace Sys2Proof.Machine

theorem classN_can {a : Nat} (h : a / 0x100000 = 0x20A) : classN a = false := classN_of_window (by omega)

/-! ## Frames received -/

section
variable {s : State} {i : Nat} {f : CanFrame}

/-- Filter elements look at their own registers. -/
theorem elemMatch_incSat {g : Field} (hg : g.addr < 0x20A10000 ∧ g.lo < 32) (e : Nat) : elemMatch (s.incSat g) i f e = elemMatch s i f e := by
  have hrd {h : Field} (hh : 0x20A10000 ≤ h.addr) : (s.incSat g).rd h = s.rd h :=
    State.rd_incSat_ne _ (by simp only [Field.key]; omega)
  have hfmt : (s.incSat g).rd (F.CAN_FE_CFG_FMT i e) = s.rd (F.CAN_FE_CFG_FMT i e) := hrd (by simp only [F.CAN_FE_CFG_FMT]; omega)
  have hen : (s.incSat g).rd (F.CAN_FE_ID_EN i e) = s.rd (F.CAN_FE_ID_EN i e) := hrd (by simp only [F.CAN_FE_ID_EN]; omega)
  have hide : (s.incSat g).rd (F.CAN_FE_ID_IDE i e) = s.rd (F.CAN_FE_ID_IDE i e) := hrd (by simp only [F.CAN_FE_ID_IDE]; omega)
  have hid : (s.incSat g).rd (F.CAN_FE_ID_ID i e) = s.rd (F.CAN_FE_ID_ID i e) := hrd (by simp only [F.CAN_FE_ID_ID]; omega)
  have hmask : (s.incSat g).rd (F.CAN_FE_MASK_MASK i e) = s.rd (F.CAN_FE_MASK_MASK i e) := hrd (by simp only [F.CAN_FE_MASK_MASK]; omega)
  simp only [elemMatch, State.rdB, hfmt, hen, hide, hid, hmask]

/-- A share without elements takes nothing. -/
theorem rxPlot_none {st : Stamp} {p : Nat} (h : s.rd (F.CAN_PFLT_FCOUNT i p) = 0) : rxPlot i f st p s = s := by
  rw [rxPlot, h]
  rfl

/-- A frame that no gateway, no pair and no plot takes is only counted. -/
theorem canFrameRx_counted {n : Fin 8} {k : Nat} {x : BitVec 4} (hears : canHears s n = true) (hrec : s.rd (F.CAN_ECNT_REC n) = 0)
    (hpair : s.rd (F.PAIR_GW_STAT_ACTIVE (n / 2)) = 0) (hmir : isMirror s n f = false)
    (hel : ∀ e, e < 16 → elemMatch s n f e = false) (hcount : ∀ p, p < 8 → s.rd (F.CAN_PFLT_FCOUNT n p) = 0) :
    exec (.canFrameRx n f k x) s = .next (s.incSat (F.CAN_CNT_RX_OK n)) := by
  refine congrArg Host.Outcome.next ((if_neg (by rw [hears]; decide)).trans ?_)
  extract_lets st u1 u2 u3 u4
  have hrd {g : Field} (hg : g.key ≠ (F.CAN_CNT_RX_OK n).key) : (s.incSat (F.CAN_CNT_RX_OK n)).rd g = s.rd g := State.rd_incSat_ne _ hg
  have h1 : u1 = s.incSat (F.CAN_CNT_RX_OK n) := by
    refine if_pos ?_
    rw [hrd (by simp only [Field.key, F.CAN_ECNT_REC, F.CAN_CNT_RX_OK]; omega), hrec]
    exact Bool.or_true _
  have h2 : u2 = u1 := by
    refine if_pos ?_
    rw [h1, rdB_of_rd_zero ((hrd (by simp only [Field.key, F.PAIR_GW_STAT_ACTIVE, F.CAN_CNT_RX_OK]; omega)).trans hpair)]
    rfl
  have h3 : u3 = u2 := by
    have hm : isMirror u2 n f = isMirror s n f := by
      rw [h2, h1, isMirror, isMirror, hrd (by simp only [Field.key, F.POM_CAN_CTRL, F.CAN_CNT_RX_OK]; omega),
        hrd (by simp only [Field.key, F.POM_CAN_PARTNER_ID, F.CAN_CNT_RX_OK]; omega)]
    exact if_neg (by rw [hm, hmir]; decide)
  have hlow : (F.CAN_CNT_RX_OK n).addr < 0x20A10000 ∧ (F.CAN_CNT_RX_OK n).lo < 32 := by
    simp only [F.CAN_CNT_RX_OK]
    omega
  have h4 : u4 = u3 := by
    have hfind : [8, 9, 10, 11, 12, 13, 14].find? (elemMatch u3 n f) = none := by
      refine List.find?_eq_none.mpr fun e he => ?_
      have hlt : e < 16 := by
        simp only [List.mem_cons, List.not_mem_nil, or_false] at he
        omega
      rw [h3, h2, h1, elemMatch_incSat hlow, hel e hlt]
      decide
    simp only [u4, hfind]
  rw [h4, h3, h2, h1]
  refine forN_id fun p hp => rxPlot_none ?_
  rw [hrd (by simp only [Field.key, F.CAN_PFLT_FCOUNT, F.CAN_CNT_RX_OK]; omega)]
  exact hcount p hp

/-- The share's element that accepts a frame delivers it to its queue. -/
theorem rxPlot_delivers {st : Stamp} {p e q : Nat} (hcount : s.rd (F.CAN_PFLT_FCOUNT i p) = 1) (hbase : s.rd (F.CAN_PFLT_FBASE i p) = e)
    (hel : elemMatch s i f e = true) (hrej : s.rd (F.CAN_FE_CFG_REJECT i e) = 0) (hqueue : s.rd (F.CAN_FE_CFG_QUEUE i e) = q)
    (hreset : plotResetting s (s.rd (F.Q_OWN_CONS q)) = false) (hroom : hwRoom s q (rxPacket i e f st).length = true) :
    rxPlot i f st p s = hwFilled (s.incSat (F.CAN_FE_HITS_HITS i e)) q (rxPacket i e f st) := by
  have hfind : ((List.range 1).map (e + ·)).find? (elemMatch s i f) = some e := List.find?_cons_of_pos hel
  have hw : Within (partsMask [.rCan, .upd]) s (s.incSat (F.CAN_FE_HITS_HITS i e)) :=
    Within.incSat (CAN_FE_HITS_HITS_blk i e) (by decide) (by decide) (by decide) (Within.refl _ s)
  have hrej' : (s.incSat (F.CAN_FE_HITS_HITS i e)).rd (F.CAN_FE_CFG_REJECT i e) = 0 :=
    (State.rd_incSat_ne _ (by simp only [Field.key, F.CAN_FE_CFG_REJECT, F.CAN_FE_HITS_HITS]; omega)).trans hrej
  have hqueue' : (s.incSat (F.CAN_FE_HITS_HITS i e)).rd (F.CAN_FE_CFG_QUEUE i e) = q :=
    (State.rd_incSat_ne _ (by simp only [Field.key, F.CAN_FE_CFG_QUEUE, F.CAN_FE_HITS_HITS]; omega)).trans hqueue
  have hroom' := (hwRoom_congr (q := q) (hw.same .q (by decide)) (hw.same .now (by decide))
    (fun g hg => hw.rd_eq hg (by decide) (by decide)) (rxPacket i e f st).length).1.trans hroom
  have hreset' : plotResetting (s.incSat (F.CAN_FE_HITS_HITS i e)) ((s.incSat (F.CAN_FE_HITS_HITS i e)).rd (F.Q_OWN_CONS q)) = false := by
    rw [hw.rd_eq (Q_OWN_CONS_blk q) (by decide) (by decide), plotResetting, hw.rd_eq (PC_PSTAT_STATE_blk _) (by decide) (by decide)]
    exact hreset
  rw [rxPlot, hcount, hbase, hfind]
  dsimp only
  rw [rdB_of_rd_zero hrej', if_neg Bool.false_ne_true, hqueue', hroom', hwPost_eq hreset' hroom']
  rfl

/-- A packet delivered is the last of its queue. -/
theorem rxPlot_fill {st : Stamp} {p e q : Nat} (hcount : s.rd (F.CAN_PFLT_FCOUNT i p) = 1) (hbase : s.rd (F.CAN_PFLT_FBASE i p) = e)
    (hel : elemMatch s i f e = true) (hrej : s.rd (F.CAN_FE_CFG_REJECT i e) = 0) (hqueue : s.rd (F.CAN_FE_CFG_QUEUE i e) = q)
    (hreset : plotResetting s (s.rd (F.Q_OWN_CONS q)) = false) (hroom : hwRoom s q (rxPacket i e f st).length = true) :
    ((rxPlot i f st p s).queue q).fill = (s.queue q).fill ++
      [⟨s.rd (F.Q_CFG_HWPRIO q), placeWords (furPos s q) (markLast (rxPacket i e f st))⟩] := by
  have hw : Within (partsMask [.rCan, .upd]) s (s.incSat (F.CAN_FE_HITS_HITS i e)) :=
    Within.incSat (CAN_FE_HITS_HITS_blk i e) (by decide) (by decide) (by decide) (Within.refl _ s)
  have hpos := (hwRoom_congr (q := q) (hw.same .q (by decide)) (hw.same .now (by decide))
    (fun g hg => hw.rd_eq hg (by decide) (by decide)) 0).2
  rw [rxPlot_delivers hcount hbase hel hrej hqueue hreset hroom, queue_hwFilled, hpos,
    hw.rd_eq (Q_CFG_HWPRIO_blk q) (by decide) (by decide)]
  rfl

end

/-! ## Errors, bus-off, recovery -/

section
variable {s : State} {i : Nat}

/-- Bus-off is reached. -/
theorem canBusOff_state : (canBusOff s i).rd (F.CAN_STAT_STATE i) = 2 := by
  unfold canBusOff
  extract_lets u v
  have hu : u.rd (F.CAN_STAT_STATE i) = 2 := by
    rw [State.rd_wr_ne _ _ (by simp only [Field.key, F.CAN_STAT_STATE, F.CAN_STAT_EWARN]; omega),
      State.rd_wr_ne _ _ (by simp only [Field.key, F.CAN_STAT_STATE, F.CAN_ECNT_TEC]; omega)]
    exact State.rd_wr_of_lt _ (show 2 < 2 ^ 2 by decide)
  have hv : v.rd (F.CAN_STAT_STATE i) = u.rd (F.CAN_STAT_STATE i) := by
    rw [State.rd_incSat_ne _ (by simp only [Field.key, F.CAN_STAT_STATE, F.CAN_ERRCNT_BOFF_CNT]; omega),
      State.rd_wr_ne _ _ (by simp only [Field.key, F.CAN_STAT_STATE, F.CAN_FLT_BOFF]; omega)]
  clear_value v u
  have hall : canErr i (canSysRecord (forN (boffBuf i) 64 v) i 0x12) = canErr i v :=
    (canErr_sysRecord ..).trans (forN_keeps (canErr i) (fun b _ t => canErr_boffBuf t i b) v)
  exact (rd_of_canErr hall List.mem_cons_self).trans (hv.trans hu)

theorem errCount_busOff {h : Bool} (hmode : canMode s i = 3) (hst : s.rd (F.CAN_STAT_STATE i) < 2)
    (htec : 248 ≤ s.rd (F.CAN_ECNT_TEC i)) : (errCount s i .bit1 true h).rd (F.CAN_STAT_STATE i) = 2 := by
  have hcounts : canCounts s i = true := by
    rw [canCounts, hmode, decide_eq_true hst]
    rfl
  have hack : ((CanErr.bit1 == .arbStuff) || (CanErr.bit1 == .ack && s.rd (F.CAN_STAT_STATE i) == 1)) = false := rfl
  have herr : errCount s i .bit1 true h = canCount s i (s.rd (F.CAN_ECNT_TEC i) + 8) (s.rd (F.CAN_ECNT_REC i)) := by
    rw [errCount, hcounts, if_neg (by decide), if_pos rfl, hack, if_neg Bool.false_ne_true]
  rw [herr, canCount, if_pos (by omega)]
  exact canBusOff_state

/-- A record of a controller leaves the registers of the CAN window. -/
theorem rd_canSysRecord (s : State) (j type : Nat) {f : Field} (hf : Blk f 51) : (canSysRecord s j type).rd f = s.rd f :=
  (canSysRecord_within (K := partsMask [.mem, .out, .irqHeld, .q, .rFurrow, .upd, .furBits]) (by decide) (Within.refl _ s)).rd_eq hf (by decide) (by decide)

/-- The recovery ends error-active, with both counters at 0. -/
def recovered (s : State) (i : Nat) : State :=
  (((s.wr (F.CAN_STAT_STATE i) 0).wr (F.CAN_ECNT_TEC i) 0).wr (F.CAN_ECNT_REC i) 0).wr (F.CAN_STAT_EWARN i) 0

theorem recovered_shows (s : State) (i : Nat) : (recovered s i).rd (F.CAN_STAT_STATE i) = 0 ∧ (recovered s i).rd (F.CAN_ECNT_TEC i) = 0 ∧
    (recovered s i).rd (F.CAN_ECNT_REC i) = 0 ∧ (recovered s i).rd (F.CAN_STAT_EWARN i) = 0 := by
  have hst {g : Field} (h : (F.CAN_STAT_STATE i).key ≠ g.key) (u : State) (v : Nat) : (u.wr g v).rd (F.CAN_STAT_STATE i) = u.rd (F.CAN_STAT_STATE i) :=
    State.rd_wr_ne _ v h
  have htec {g : Field} (h : (F.CAN_ECNT_TEC i).key ≠ g.key) (u : State) (v : Nat) : (u.wr g v).rd (F.CAN_ECNT_TEC i) = u.rd (F.CAN_ECNT_TEC i) :=
    State.rd_wr_ne _ v h
  refine ⟨?_, ?_, ?_, State.rd_wr_of_lt _ (Nat.two_pow_pos _)⟩
  · rw [recovered, hst (by simp only [Field.key, F.CAN_STAT_STATE, F.CAN_STAT_EWARN]; omega),
      hst (by simp only [Field.key, F.CAN_STAT_STATE, F.CAN_ECNT_REC]; omega),
      hst (by simp only [Field.key, F.CAN_STAT_STATE, F.CAN_ECNT_TEC]; omega)]
    exact State.rd_wr_of_lt _ (Nat.two_pow_pos _)
  · rw [recovered, htec (by simp only [Field.key, F.CAN_ECNT_TEC, F.CAN_STAT_EWARN]; omega),
      htec (by simp only [Field.key, F.CAN_ECNT_TEC, F.CAN_ECNT_REC]; omega)]
    exact State.rd_wr_of_lt _ (Nat.two_pow_pos _)
  · exact (State.rd_wr_ne _ _ (by simp only [Field.key, F.CAN_ECNT_REC, F.CAN_STAT_EWARN]; omega)).trans
      (State.rd_wr_of_lt _ (Nat.two_pow_pos _))

/-- The held buffers are pending again. -/
def unheld (s : State) (i : Nat) : State := forN (fun b t => if bufState t i b == 6 then bufPut t i b 1 else t) 64 s

theorem canErr_unheld (s : State) (i : Nat) : canErr i (unheld s i) = canErr i s :=
  forN_keeps (canErr i) (f := fun b t => if bufState t i b == 6 then bufPut t i b 1 else t) (fun b _ t => by
    split
    · exact canErr_bufPut ..
    · rfl) s

theorem exec_recoveryComplete {n : Fin 8} (h : recoveryRun s n = true) :
    exec (.recoveryComplete n) s = .next (gwService n (canSysRecord (unheld (recovered s n) n) n 0x13)) :=
  congrArg Host.Outcome.next (if_pos h)

end

/-- A controller in service whose transceiver has VIN sees a dominant bus. -/
theorem busDom_seen {s : State} {i : Nat} (hlive : windowDead s (F.CAN_STAT_BUS_DOM i).addr = false) (hx : canXcvr s i ≠ 3) :
    ¬ (windowDead s (F.CAN_STAT_BUS_DOM i).addr || canXcvr s i == 3) = true := by
  rw [hlive, beq_eq_false_iff_ne.mpr hx]
  decide

/-- Settles O46: what the bus shows a controller, and what its error state follows. -/
theorem canBus : Obligations.CanBus := by
  refine ⟨?_, ?_, ?_, ?_, ?_, ?_, ?_, ?_, ?_, ?_, ?_, ?_, ?_, ?_, ?_, ?_, ?_, ?_, ?_, ?_⟩
  · intro s i f k x h
    exact congrArg Host.Outcome.next (if_pos (by rw [h]; rfl))
  · intro s i f k x hears hrec hpair hmir hel hcount
    exact ⟨_, canFrameRx_counted hears hrec hpair hmir hel hcount, State.rd_incSat_self .., (State.OnlyRegs.refl s _).incSat List.mem_cons_self⟩
  · intro s i f st p e hcount hbase hel hrej he hreset hroom
    exact rxPlot_fill hcount hbase hel hrej rfl hreset hroom
  · intro s i e tx h hears
    exact congrArg Host.Outcome.next (if_pos (by rw [hears]; rfl))
  · intro s i tx h hears hpxd
    refine ⟨_, congrArg Host.Outcome.next ((if_neg (by rw [hears]; decide)).trans (if_pos (by rw [rdB_of_rd_zero hpxd]; rfl))), ?_, ?_, ?_⟩
    · refine (rd_canSysRecord _ _ _ (CAN_STAT_PXE_blk i)).trans ?_
      rw [State.rd_wr_ne _ _ (by simp only [Field.key, F.CAN_STAT_PXE, F.CAN_FLT_PXE_SEEN]; omega)]
      exact State.rd_wr_of_lt _ (Nat.lt_of_lt_of_eq Nat.one_lt_two rfl)
    · exact (rd_canSysRecord _ _ _ (CAN_FLT_PXE_SEEN_blk i)).trans (State.rd_wr_of_lt _ (Nat.lt_of_lt_of_eq Nat.one_lt_two rfl))
    · refine (rd_canSysRecord _ _ _ (CAN_ECNT_TEC_blk i)).trans ?_
      rw [State.rd_wr_ne _ _ (by simp only [Field.key, F.CAN_ECNT_TEC, F.CAN_FLT_PXE_SEEN]; omega),
        State.rd_wr_ne _ _ (by simp only [Field.key, F.CAN_ECNT_TEC, F.CAN_STAT_PXE]; omega)]
  · intro s i tx h hears
    exact congrArg Host.Outcome.next ((if_neg (by rw [hears]; decide)).trans (if_neg Bool.false_ne_true))
  · intro s i h hmode hst htec
    exact errCount_busOff hmode hst htec
  · intro s r i hlive hr
    exact next_hostWrite_status hlive (classN_can (by simp only [F.CAN_CMD_CMD]; omega)) (if_neg (by rw [hr]; decide)) (by decide)
  · intro s r i hlive hr hst
    exact next_hostWrite_status hlive (classN_can (by simp only [F.CAN_CMD_CMD]; omega)) ((if_pos hr).trans (if_neg hst)) (by decide)
  · intro s r i hlive hr hst
    refine ⟨_, next_hostWrite_status hlive (classN_can (by simp only [F.CAN_CMD_CMD]; omega)) ((if_pos hr).trans (if_pos hst)) (by decide),
      rfl, ?_, ?_⟩
    · exact (State.rd_status ..).trans (State.rd_wr_of_lt s (show 3 < 2 ^ 2 by decide))
    · exact ((State.OnlyRegs.refl s _).wr (g := F.CAN_STAT_STATE i) List.mem_cons_self 3).regs.of_regs rfl
  · intro s i h
    exact congrArg Host.Outcome.next (if_neg (by rw [h]; decide))
  · intro s i h
    have hall : canErr i (gwService i (canSysRecord (unheld (recovered s i) i) i 0x13)) = canErr i (recovered s i) :=
      (canErr_gwService ..).trans ((canErr_sysRecord ..).trans (canErr_unheld ..))
    obtain ⟨hst, htec, hrec, hwarn⟩ := recovered_shows s i
    refine ⟨_, exec_recoveryComplete h, (rd_of_canErr hall ?_).trans hst, (rd_of_canErr hall ?_).trans htec,
      (rd_of_canErr hall ?_).trans hrec, (rd_of_canErr hall ?_).trans hwarn⟩ <;> simp [errFields]
  · rintro s i e h
    refine congrArg Host.Outcome.next (if_pos ?_)
    rcases h with h | h
    · rw [h]
      rfl
    · rw [h]
      exact Bool.or_true _
  · intro s i hlive hx
    exact ⟨_, congrArg Host.Outcome.next ((if_neg (busDom_seen hlive (by rw [hx]; decide))).trans (if_pos (by rw [hx]; rfl))),
      State.rd_wr_of_lt s (Nat.lt_of_lt_of_eq Nat.one_lt_two rfl), (State.OnlyRegs.refl s _).wr List.mem_cons_self 1⟩
  · intro s i hlive hx hdom
    refine ⟨_, congrArg Host.Outcome.next ((if_neg (busDom_seen hlive hx)).trans (if_neg (by rw [rdB_of_rd_zero hdom]; decide))), ?_, ?_⟩
    · refine (rd_canSysRecord _ _ _ (CAN_STAT_BUS_DOM_blk i)).trans ?_
      rw [State.rd_wr_ne _ _ (by simp only [Field.key, F.CAN_STAT_BUS_DOM, F.CAN_FLT_BUS_DOM_SEEN]; omega)]
      exact State.rd_wr_of_lt _ (Nat.lt_of_lt_of_eq Nat.one_lt_two rfl)
    · exact (rd_canSysRecord _ _ _ (CAN_FLT_BUS_DOM_SEEN_blk i)).trans (State.rd_wr_of_lt _ (Nat.lt_of_lt_of_eq Nat.one_lt_two rfl))
  · intro s i hlive hx
    exact ⟨_, congrArg Host.Outcome.next (if_neg (busDom_seen hlive hx)), State.rd_wr_of_lt s (Nat.two_pow_pos _),
      (State.OnlyRegs.refl s _).wr List.mem_cons_self 0⟩
  · intro s i h
    exact congrArg Host.Outcome.next (if_pos (by rw [h]; rfl))
  · intro s i h
    refine ⟨_, congrArg Host.Outcome.next (if_neg (by rw [beq_iff_eq]; exact h)), ?_, State.rd_wr_of_lt _ (Nat.two_pow_pos _),
      ((State.OnlyRegs.refl s _).wr (g := F.CAN_STAT_SYNCED i) (by simp) 1).wr (g := F.CAN_STAT_PXE i) (by simp) 0⟩
    rw [State.rd_wr_ne _ _ (by simp only [Field.key, F.CAN_STAT_SYNCED, F.CAN_STAT_PXE]; omega)]
    exact State.rd_wr_of_lt _ (Nat.lt_of_lt_of_eq Nat.one_lt_two rfl)
  · intro s i e ok h
    refine congrArg Host.Outcome.next (if_pos ?_)
    rcases h with h | h
    · rw [bne_iff_ne.mpr h, Bool.true_or]
    · rw [decide_eq_true h, Bool.or_true]
  · intro s i ok hmode hen hcnt
    have hgo : ¬ (s.mode != mDORMANCY || decide (dormRd s (F.CAN_SWK_CFG_EN i) = 0)) = true := by
      rw [hmode, decide_eq_false hen]
      decide
    exact ⟨_, congrArg Host.Outcome.next ((if_neg hgo).trans (if_pos hcnt)),
      State.rd_wr_of_lt s (show s.rd (F.CAN_SWK_CFG_ERRCNT i) + 1 < 2 ^ 5 by omega), (State.OnlyRegs.refl s _).wr List.mem_cons_self _⟩

end Sys2Proof.Machine
end
